-- ==== Sys2Proof/Word.lean ====
section
/-!
DEFINITION. Word.lean: the word and the byte of the TK624, by the reading conventions of spec/00_scope.md:
a word is 24 bits, always, and a byte is 8 bits.
-/

namespace Sys2Proof

/-- A word of the TK624: 24 bits (00_scope.md, terms). -/
abbrev Word := BitVec 24

/-- A byte: 8 bits (00_scope.md, terms). -/
abbrev Byte := BitVec 8

/-- A natural number as a word, reduced modulo 2^24. -/
abbrev word (n : Nat) : Word := BitVec.ofNat 24 n

/-- An integer as a word in two's complement, reduced modulo 2^24. -/
abbrev wordI (n : Int) : Word := BitVec.ofInt 24 n

end Sys2Proof
end

