-- ==== Sys2Proof/Types.lean ====
section
/-!
DEFINITION. Types.lean: the small types that commands and the state share.
-/

namespace Sys2Proof

/-- A requester of the host address space (R84, R385, R568, R661): the two-wire target, the USB vendor interface,
the console, and the accesses a manager forwards through its remote window. -/
inductive Requester where
  | twoWire
  | usb
  | console
  | remote
  deriving DecidableEq, Repr

/-- A host consumer of the event router (R332): H0, the two-wire host, and H1, the USB host. -/
inductive HostPort where
  | h0
  | h1
  deriving DecidableEq, Repr

end Sys2Proof
end

