-- ==== Sys2Proof/Syntax.lean ====
section
/-!
DEFINITION. Syntax.lean: the commands of the TK624, one constructor per row of spec/opcode_table.json, in its order.
The table gives its rows no bits and no operands; the operands are what the rule of each row lets the outside choose:
the word written, the requester, the bytes received, the outcome of an analogue or physical process.
-/

namespace Sys2Proof

/-- The commands of the TK624. -/
inductive Instr where
  /-- REGISTER_WRITE (R11): A host write to a register that has no row of its own stores its writable fields according
    to their access codes. Operands: rq, the requester; addr, the word address; value, the word written. -/
  | registerWrite (rq : Requester) (addr : BitVec 16) (value : Word)
  /-- RC_FIELD_READ (R13): A host read of an RC field latches the returned value and then clears exactly that value.
    Operands: rq, the requester; addr, the word address. -/
  | rcFieldRead (rq : Requester) (addr : BitVec 16)
  /-- POWER_ON (R99): VDD and VDDA rise through 2.8 V, and the release delay starts. -/
  | powerOn
  /-- POWER_ON_RELEASE (R99): 16 RC ticks after both supplies are good, the always-on domain is released. Operands:
    straps, the reads of each sampling attempt, in the layout of R60. -/
  | powerOnRelease (straps : List Byte)
  /-- ALWAYS_ON_LOSS (R101): VDD falls below 1.8 V, and the always-on domain loses its state. -/
  | alwaysOnLoss
  /-- VDD_BROWN_OUT (R109): VDD stays below 2.7 V for 2 µs, and a brown-out reset is held until VDD recovers. -/
  | vddBrownOut
  /-- VCORE_BROWN_OUT (R103): VCORE stays below 0.95 V for 2 µs, and the device is reset. -/
  | vcoreBrownOut
  /-- VDD_WARNING_SET (R110): VDD falls below 2.85 V: VDD_WARN is set and no new NVM write starts. -/
  | vddWarningSet
  /-- VDD_WARNING_CLEAR (R110): VDD rises above 2.9 V, and the warning clears. -/
  | vddWarningClear
  /-- RESET_PIN (R48): RESET# held low for longer than 10 µs resets the device. -/
  | resetPin
  /-- SOFTWARE_RESET (R111): A keyed SYS_CTRL write with SWRST requests a host software reset. Operands: rq, the
    requester; value, the word written to SYS_CTRL. -/
  | softwareReset (rq : Requester) (value : Word)
  /-- SOFTWARE_RESET_PERFORM (R111): A deferred software reset takes effect after the USB response is acknowledged or
    after 10 ms, or after the REMOTE_RESP has been sent. -/
  | softwareResetPerform
  /-- CORE_WATCHDOG (R112): A core watchdog expires, and all four cores restart from ROM while the scan continues. -/
  | coreWatchdog
  /-- CORE_RESTART_END (R112): The core restart ends, tracking resumes and the reported contacts are cancelled. -/
  | coreRestartEnd
  /-- XTAL_QUALIFIED (R105): After 1,024 good cycles, the 32 kHz source switches to the crystal at a tick boundary. -/
  | xtalQualified
  /-- XTAL_QUALIFY_TIMEOUT (R106): The crystal has not qualified within 2 s: the device stays on the RC oscillator and
    sets XTAL_FAIL. -/
  | xtalQualifyTimeout
  /-- XTAL_LOST (R122): The crystal produces no edge for 4 RC ticks, and the source falls back to the RC oscillator. -/
  | xtalLost
  /-- FOSC_REQUEST (R108): A block requests the fast oscillator, which starts, or a pending stop is cancelled. -/
  | foscRequest
  /-- FOSC_STOP (R108): 64 µs after the last request is withdrawn, the fast oscillator stops. -/
  | foscStop
  /-- FOSC_LOCK_TIMEOUT (R123): The lock fails within 1 ms and is retried; after the third failure the oscillator runs
    free and LOCK_FAIL is set. -/
  | foscLockTimeout
  /-- VDDIO_LOSS (R124): VDDIO falls below 1.6 V: I/O outputs are released and transfers are discarded. -/
  | vddioLoss
  /-- VDDIO_RETURN (R124): VDDIO returns above 1.6 V, and the output restore delay starts. -/
  | vddioReturn
  /-- OUTPUTS_RESTORE (R124): 1 ms after VDDIO returns, the I/O outputs are restored and SUPPLY_EVENT is raised. -/
  | outputsRestore
  /-- SELF_TEST_END (R667): The memory march test ends, and MEM_BIST and MEM_BIST2 are set. Operands: columns, the
    banks found column-faulted; bad, the words the code could not correct: bank in [17:14], word in [13:0]. -/
  | selfTestEnd (columns : BitVec 16) (bad : List (BitVec 18))
  /-- HEADER_READ_END (R144): The read of a slot header ends, and the slot to try first is chosen. Operands: slotB,
    slot B, else slot A; acked, the EEPROM acknowledged its address in time. -/
  | headerReadEnd (slotB : Bool) (acked : Bool)
  /-- HEADER_READ_TIMEOUT (R144): A header read not ended after 2 s gives result 3 for its slot. Operands: slotB, slot
    B, else slot A. -/
  | headerReadTimeout (slotB : Bool)
  /-- SLOT_READ_END (R145): The sequential read of a slot ends, and the image is checked in order. -/
  | slotReadEnd
  /-- SLOT_CHECK_TIMEOUT (R145): The check of a slot not ended after 2 s fails with result 3, and the other slot is
    tried. -/
  | slotCheckTimeout
  /-- STARTUP_CALIBRATION_END (R864): The full calibration run of start-up step 6 ends. Operands: items, the
    measurement of each item in turn: for a channel its 12 cells in fF and whether offset and gain are within
    limits, for a driver its 8 legs in per mille of nominal and whether its current limit tripped. -/
  | startupCalibrationEnd (items : List (List (BitVec 16) × Bool))
  /-- FULL_RUN_TIMEOUT (R864): A full run at step 6 not ended within 100 ms keeps its choices and continues in slices.
    Operands: items, the measurement of each item in turn: for a channel its 12 cells in fF and whether offset and
    gain are within limits, for a driver its 8 legs in per mille of nominal and whether its current limit tripped. -/
  | fullRunTimeout (items : List (List (BitVec 16) × Bool))
  /-- LINK_IMAGE_REQUEST (R147): A worker that needs the link image requests it from the manager once its link is
    trained. -/
  | linkImageRequest
  /-- LINK_IMAGE_TIMEOUT (R147): No link image 60 s after it was needed gives LINK_RESULT 15 and SAFE. -/
  | linkImageTimeout
  /-- IMG_REQ (R547): The manager receives an image request and serves the image, at most 16 workers at once.
    Operands: src, the sending tile, x in [9:5] and y in [4:0]; words, the payload from word 1. -/
  | imgReq (src : BitVec 10) (words : List Word)
  /-- IMG_DATA (R547): A worker receives a piece of the link image. Operands: src, the sending tile, x in [9:5] and y
    in [4:0]; words, the payload from word 1. -/
  | imgData (src : BitVec 10) (words : List Word)
  /-- IMG_RESULT (R148): The manager receives a worker's link image result. Operands: src, the sending tile, x in
    [9:5] and y in [4:0]; words, the payload from word 1. -/
  | imgResult (src : BitVec 10) (words : List Word)
  /-- NVP_READ (R151): The proxy READ command copies LEN NVM bytes into the bank 15 buffer. Operands: key, the KEY
    field written. -/
  | nvpRead (key : Byte)
  /-- NVP_WRITE (R152): The keyed proxy WRITE command writes the staged bytes page by page, unless the slot is
    protected. Operands: key, the KEY field written. -/
  | nvpWrite (key : Byte)
  /-- NVP_VERIFY (R151): The proxy VERIFY command checks a slot as at boot, without applying it. Operands: key, the
    KEY field written. -/
  | nvpVerify (key : Byte)
  /-- NVP_INVALIDATE (R151): The keyed proxy INVALIDATE command overwrites a slot header with zeros. Operands: key,
    the KEY field written. -/
  | nvpInvalidate (key : Byte)
  /-- NVP_DONE (R154): A proxy command ends: BUSY clears, RESULT is set and NVM_PROXY_DONE is raised. Operands:
    outcome, 0 when the NVM answered throughout, else the RESULT code 4, 5, 7 or 8 of the failure; bytes, bytes
    completed before a failure. -/
  | nvpDone (outcome : BitVec 4) (bytes : BitVec 13)
  /-- MODE_REQUEST (R167): A PWR_CMD write with GO requests a mode for the next frame boundary or the apply frame.
    Operands: mode, the MODE field written. -/
  | modeRequest (mode : BitVec 3)
  /-- HOLD_SET (R169): HOLDOP 1 sets HOLD, which stops the automatic transitions. -/
  | holdSet
  /-- HOLD_CLEAR (R169): HOLDOP 2 clears HOLD. -/
  | holdClear
  /-- AUTO_IDLE_EXPIRY (R169): No contact for AUTO_IDLE moves the tile from ACTIVE to IDLE. -/
  | autoIdleExpiry
  /-- WATCH_AFTER_EXPIRY (R169): No contact for WATCH_AFTER, with WATCH_AUTO set, moves the tile from IDLE to WATCH. -/
  | watchAfterExpiry
  /-- MODE (R170): A worker receives a mode command and changes mode at its apply frame. Operands: mode, the mode
    commanded; stretch, W1[3]: the message names a stretched frame; apply, the apply frame. -/
  | mode (mode : BitVec 3) (stretch : Bool) (apply : Word)
  /-- MODE_ACK (R172): The manager receives a worker's acknowledgement of a mode command. Operands: tile, the worker,
    x in [9:5] and y in [4:0]. -/
  | modeAck (tile : BitVec 10)
  /-- HIB_DRAIN_END (R184): The rings are empty or HIB_DRAIN has passed; rails, ports and the core domain are then
    shut down. -/
  | hibDrainEnd
  /-- ORPHAN (R173): A worker without a beacon for 1 s enters HIBERNATE with reason orphan. -/
  | orphan
  /-- WAKE (R177): An enabled wake source wakes the tile from HIBERNATE or WATCH. Operands: sources, the sources that
    fired in the same tick, bits of R177; detail, in WATCH the gesture that wakes, codes of PWR_WAKESRC.GESTURE, and in
    HIBERNATE the edge of WAKE0 in bit 0, 1 for a rising one; retentionOk, the CRC over the retained bank 12 matches and
    shows no uncorrectable error. -/
  | wake (sources : BitVec 7) (detail : BitVec 4) (retentionOk : Bool)
  /-- WAKE_ADDRESS_STRETCH_TIMEOUT (R179): If the target is not ready 2 ms after its address in HIBERNATE, SCL is
    released with NACK. -/
  | wakeAddressStretchTimeout
  /-- WAKE_VCORE_TIMEOUT (R196): VCORE not good within 1 ms of a wake causes a VCORE brown-out reset. -/
  | wakeVcoreTimeout
  /-- WAKE_SOURCE_ENABLE (R195): A PWR_WAKEEN write enables wake sources again and clears their STORMOFF bits.
    Operands: value, the word written to PWR_WAKEEN. -/
  | wakeSourceEnable (value : Word)
  /-- HOSTWAKE_PULSE_END (R187): The HW_PULSE pulse ends, and HOSTWAKE falls. -/
  | hostwakePulseEnd
  /-- HOSTWAKE_LEVEL_TIMEOUT (R187): In level mode, HW_LEVEL_TO releases HOSTWAKE and counts HWTO. -/
  | hostwakeLevelTimeout
  /-- HOSTWAKE_ACK (R187): A write of PWR_HOST.ACK releases HOSTWAKE in level mode. -/
  | hostwakeAck
  /-- FRAME_START (R26): At each frame start, the surface frame number increments and the next frame buffer is
    selected. -/
  | frameStart
  /-- SELF_SCAN_END (R27): The self-capacitance scan ends, and the frame buffer is handed to a tracking core.
    Operands: listen, I and Q of window k of physical channel c at index 8c + k; selfs, the self-capacitance sample
    of electrode e at index e; chipsI, in-phase value of chip j of channel r in group g at index (g × NRX + r) × 16
    + j; chipsQ, the quadrature values likewise; trips, TX electrodes whose current limit tripped, with the number
    of chips. -/
  | selfScanEnd (listen : List (Word × Word)) (selfs : List Word) (chipsI : List Word) (chipsQ : List Word) (trips : List (BitVec 8 × BitVec 8))
  /-- WATCH_SCAN (R229): A WATCH scan runs the self-capacitance passes only. Operands: selfs, the self-capacitance
    sample of electrode e at index e; touches, touches seen: a number that follows the touch, and tile x and y in
    mm; covered, by wake region the percentage of its part on the tile that is covered. -/
  | watchScan (selfs : List Word) (touches : List (BitVec 5 × BitVec 12 × BitVec 12)) (covered : List (BitVec 7))
  /-- TRACK_FRAME (R276): Tracking of a frame completes: contacts are updated and records are raised. Operands: us,
    delay from the end of the self-capacitance scan to the frame-end record in µs; handed, edges whose neighbour
    handed a contact over in this or the last frame. -/
  | trackFrame (us : BitVec 16) (handed : List (BitVec 2))
  /-- TAP_HOLD_EXPIRY (R313): DTAP_GAP passes after a tap with no second tap, and the held tap record is raised. -/
  | tapHoldExpiry
  /-- BLRESET (R285): A write of TRK_CTRL.BLRESET cancels every contact and restarts baseline acquisition. Operands:
    value, the word written to TRK_CTRL, BLRESET taken as 1. -/
  | blreset (value : Word)
  /-- RESYNC (R310): A write of TRK_RPT_CTRL.RESYNC requests a resync burst. Operands: value, the word written to
    TRK_RPT_CTRL, RESYNC taken as 1. -/
  | resync (value : Word)
  /-- ARM (R316): A write of TRK_CAP_CTRL.ARM starts a diagnostic capture. Operands: value, the word written to
    TRK_CAP_CTRL, ARM taken as 1. -/
  | arm (value : Word)
  /-- STOP (R316): A write of TRK_CAP_CTRL.STOP ends the capture after the copy in progress. Operands: value, the word
    written to TRK_CAP_CTRL, STOP taken as 1. -/
  | stop (value : Word)
  /-- CAPTURE_COPY_END (R318): A capture copy ends: TRK_CAP_FRAME is updated and CAPTURE_DONE is raised. Operands: ok,
    a remote fetch has not failed after its retries; remote, the words fetched from the selected worker. -/
  | captureCopyEnd (ok : Bool) (remote : List Word)
  /-- DOORBELL (R339): The router accepts a doorbell, builds its record and admits or refuses it. Operands: src, the
    source; w1, payload W1; w2, payload W2. -/
  | doorbell (src : BitVec 9) (w1 : Word) (w2 : Word)
  /-- HOST_DOORBELL (R334): A write of EVR_HDOOR rings a host source 256–319 with the staged payload. Operands: value,
    the word written to EVR_HDOOR. -/
  | hostDoorbell (value : Word)
  /-- RECORD_DELIVERY (R347): An eligible pending record is written into its host ring. Operands: port, the consumer. -/
  | recordDelivery (port : HostPort)
  /-- RING_READ_POINTER (R342): A host write of RD releases records, or is ignored when invalid. Operands: port, the
    consumer; value, the word written to RD. -/
  | ringReadPointer (port : HostPort) (value : Word)
  /-- TAKE (R349): A write of EVR_Hn_TAKE pushes an event on the consumer's priority stack, or raises an ordering
    fault. Operands: port, the consumer; w0, the word written. -/
  | take (port : HostPort) (w0 : Word)
  /-- DONE (R350): A write of EVR_Hn_DONE pops the stack, or raises an ordering fault. Operands: port, the consumer;
    value, the word written. -/
  | done (port : HostPort) (value : Word)
  /-- STACKRST (R353): A write of EVR_Hn_STACKRST empties and unfreezes the stack. Operands: port, the consumer;
    value, the word written. -/
  | stackrst (port : HostPort) (value : Word)
  /-- GDIS (R356): A write of EVR_Hn_GDIS holds or releases every record for the consumer. Operands: port, the
    consumer; value, the word written. -/
  | gdis (port : HostPort) (value : Word)
  /-- SOURCE_CONFIG_WRITE (R337): A write of EVR_SCFG changes the selected source's configuration for later doorbells.
    Operands: value, the word written to EVR_SCFG. -/
  | sourceConfigWrite (value : Word)
  /-- EVR_SERVICE_TIMEOUT (R354): A top stack entry has stood for SVC_TO × 10 ms, and EVR_SERVICE_TIMEOUT is raised.
    Operands: port, the consumer. -/
  | evrServiceTimeout (port : HostPort)
  /-- MODERATION_EXPIRY (R355): A source's moderation interval ends, and its next record becomes eligible. Operands:
    port, the consumer; src, the source. -/
  | moderationExpiry (port : HostPort) (src : BitVec 9)
  /-- CORE_DELIVERY (R358): A core-group record is delivered to the eligible core with the lowest level. -/
  | coreDelivery
  /-- CORE_TAKE (R359): A core takes a core-group record onto its stack. Operands: core, the core; src, the source
    taken; pri, the priority taken. -/
  | coreTake (core : BitVec 2) (src : BitVec 9) (pri : BitVec 4)
  /-- CORE_DONE (R359): A core completes a core-group record. Operands: core, the core; src, the source completed. -/
  | coreDone (core : BitVec 2) (src : BitVec 9)
  /-- TIME_SNAPSHOT (R384): A read of TIME_FRAC captures the requester's time snapshot. Operands: rq, the requester. -/
  | timeSnapshot (rq : Requester)
  /-- TIME_LOAD (R388): TIME_CMD = LOAD buffers the staged time and sets LOADPEND. -/
  | timeLoad
  /-- TIME_LOAD_APPLY (R388): At the next tick boundary, the loaded time applies as a step with a new epoch. -/
  | timeLoadApply
  /-- TIME_SLEW (R392): TIME_CMD = SLEW sets a slew for the next tick boundary, or is refused when out of range. -/
  | timeSlew
  /-- TIME_SLEW_APPLY (R392): At the next tick boundary, TIME_SLEWREM takes the slew value. -/
  | timeSlewApply
  /-- TIME_CANCEL (R407): TIME_CMD = CANCEL clears a pending load and any slew. -/
  | timeCancel
  /-- SLEW_ADJUST (R391): The slew count reaches SLEW_DIV, and a tick adds 511 or 513 units. -/
  | slewAdjust
  /-- WORKER_TIME_STEP (R395): At the next tick boundary, the worker steps its time to the beacon time. -/
  | workerTimeStep
  /-- BEACON_GAP (R398): A beacon gap of 100 ms clears LOCKED and raises TIME_SYNC. -/
  | beaconGap
  /-- ALARM_ARM (R404): Setting TIME_ALM_CTRL.ARM arms the alarm and judges it at once. -/
  | alarmArm
  /-- ALARM_VALUE_WRITE (R404): A write of an alarm value while armed replaces the value at once. Operands: part, 0
    TIME_ALM_FRAC, 1 TIME_ALM_SECL, 2 TIME_ALM_SECH; 3 none; value, the word written. -/
  | alarmValueWrite (part : BitVec 2) (value : Word)
  /-- TIME_ALARM (R403): The counted time reaches the armed alarm: ARM clears, FIRED is set and TIME_ALARM is raised. -/
  | timeAlarm
  /-- TWB_POINTER (R420): The two pointer bytes of a write transfer load the word pointer. Operands: ptr, the two
    pointer bytes. -/
  | twbPointer (ptr : BitVec 16)
  /-- TWB_WORD_WRITE (R421): At the acknowledge of a word's third byte, the word is written and the pointer advances
    within its page. Operands: value, the three data bytes. -/
  | twbWordWrite (value : Word)
  /-- TWB_WORD_READ (R424): A word is read when its third byte has been sent; its RC fields clear and the pointer
    advances. Operands: first, the first word of a transfer that begins with this read. -/
  | twbWordRead (first : Bool)
  /-- TWB_PARTIAL (R422): A transfer ends with a partial word, which is discarded and counted. Operands: count, bytes
    of the incomplete word or pointer. -/
  | twbPartial (count : BitVec 2)
  /-- TWB_PEC_WRITE (R428): At the STOP of a PEC write, the held words are performed if the PEC matches, and otherwise
    none is. Operands: before, bytes of the transfer before the address byte of this write phase; tail, bytes after
    the last complete word and before the PEC byte; pec, the PEC byte. -/
  | twbPecWrite (before : List Byte) (tail : List Byte) (pec : Byte)
  /-- ALERT_RESPONSE (R431): A read of address 0x0C while ALERT# is asserted is answered, and won or lost bit by bit.
    Operands: others, what the other responders drive, byte by byte; 0xFF beyond the list. -/
  | alertResponse (others : List Byte)
  /-- SMBUS_TIMEOUT (R433): SCL low for 35 ms during a transfer returns the target to idle and discards held words.
    Operands: begun, the transfer has already loaded its pointer or moved a word. -/
  | smbusTimeout (begun : Bool)
  /-- REMOTE_LATE (R426): A remote-window read not ready within 1 ms of stretching returns 0 for that word. -/
  | remoteLate
  /-- NVM_TRANSFER_START (R434): The NVM controller starts a transfer once the bus is free and any backoff has passed.
    Operands: what, 1 header A, 2 header B, 3 slot, 4 proxy page, 5 log page. -/
  | nvmTransferStart (what : BitVec 3)
  /-- ARBITRATION_LOST (R435): The NVM controller reads 0 while sending 1, releases the bus and waits. Operands:
    received, bytes of an image read received so far; atEnd, lost while driving the STOP after every byte was
    acknowledged. -/
  | arbitrationLost (received : BitVec 17) (atEnd : Bool)
  /-- NVM_STRETCH_TIMEOUT (R436): A target stretch longer than 25 ms fails the transfer. Operands: received, bytes of
    an image read received so far. -/
  | nvmStretchTimeout (received : BitVec 17)
  /-- NVM_POLL (R437): 100 µs after a page write or the previous poll, the EEPROM is polled with its address.
    Operands: acked, the EEPROM acknowledged its address; address, the address of the page write or read itself,
    else a poll after the page write. -/
  | nvmPoll (acked : Bool) (address : Bool)
  /-- NVM_POLL_TIMEOUT (R437): Polling or addressing reaches 10 ms, and the page write has failed. -/
  | nvmPollTimeout
  /-- RESUME_ADDRESS_TIMEOUT (R439): A resumed image read whose address is not acknowledged within 10 ms ends the slot
    with result 2. -/
  | resumeAddressTimeout
  /-- NVCTL_WRITE (R440): A keyed TWB_NVCTL write sets HOLD and WPOPEN. Operands: value, the word written to
    TWB_NVCTL. -/
  | nvctlWrite (value : Word)
  /-- NVHOLD_EXPIRY (R441): NVHOLD_TO after the last keyed write, HOLD and WPOPEN clear. -/
  | nvholdExpiry
  /-- SDA_RECOVERY (R450): NVSDA stuck low for 35 ms draws up to 9 clock pulses and a STOP, repeated every 100 ms.
    Operands: released, NVSDA rose during the recovery. -/
  | sdaRecovery (released : Bool)
  /-- SCL_STUCK (R451): NVSCL low for 35 ms raises NV_BUS_EVENT. -/
  | sclStuck
  /-- USB_ATTACH (R458): Once every attach condition holds, the D+ pull-up is connected. -/
  | usbAttach
  /-- USB_DETACH (R459): VBUS falls, or an attach condition ends, and the pull-up is disconnected. Operands: vbus,
    VBUSDET is still valid. -/
  | usbDetach (vbus : Bool)
  /-- SOF_LOCK (R460): After 3 start-of-frame tokens in a row, the device answers tokens. -/
  | sofLock
  /-- USB_BUS_RESET (R462): A bus reset clears the address, the configuration, the endpoints and RWKEN. -/
  | usbBusReset
  /-- GET_STATUS (R465): The standard GET_STATUS request is served on EP0. Operands: recipient, 0 device, 1 interface,
    2 endpoint; index, wIndex of the request; length, wLength of the request. -/
  | getStatus (recipient : BitVec 5) (index : BitVec 16) (length : BitVec 16)
  /-- CLEAR_FEATURE (R465): CLEAR_FEATURE clears remote wakeup or an endpoint halt. Operands: recipient, 0 device, 1
    interface, 2 endpoint; value, the feature; index, wIndex of the request. -/
  | clearFeature (recipient : BitVec 5) (value : BitVec 16) (index : BitVec 16)
  /-- SET_FEATURE (R465): SET_FEATURE sets remote wakeup or an endpoint halt. Operands: recipient, 0 device, 1
    interface, 2 endpoint; value, the feature; index, wIndex of the request. -/
  | setFeature (recipient : BitVec 5) (value : BitVec 16) (index : BitVec 16)
  /-- SET_ADDRESS (R465): SET_ADDRESS sets the device address. Operands: value, the address. -/
  | setAddress (value : BitVec 16)
  /-- GET_DESCRIPTOR (R463): GET_DESCRIPTOR returns a device, configuration, string, HID or report descriptor.
    Operands: value, descriptor type in [15:8], index in [7:0]; index, wIndex of the request; length, wLength of the
    request. -/
  | getDescriptor (value : BitVec 16) (index : BitVec 16) (length : BitVec 16)
  /-- GET_CONFIGURATION (R465): GET_CONFIGURATION returns the configuration value. Operands: length, wLength of the
    request. -/
  | getConfiguration (length : BitVec 16)
  /-- SET_CONFIGURATION (R344): SET_CONFIGURATION configures the device and restarts H1 empty with a resync. Operands:
    value, the configuration value. -/
  | setConfiguration (value : BitVec 16)
  /-- GET_INTERFACE (R465): GET_INTERFACE returns alternate setting 0. Operands: index, wIndex of the request; length,
    wLength of the request. -/
  | getInterface (index : BitVec 16) (length : BitVec 16)
  /-- SET_INTERFACE (R465): SET_INTERFACE accepts alternate setting 0. Operands: value, the alternate setting; index,
    wIndex of the request. -/
  | setInterface (value : BitVec 16) (index : BitVec 16)
  /-- GET_REPORT (R467): GET_REPORT returns feature report 2 or the last input report. Operands: value, report type in
    [15:8], report ID in [7:0]; index, wIndex of the request; length, wLength of the request. -/
  | getReport (value : BitVec 16) (index : BitVec 16) (length : BitVec 16)
  /-- SET_IDLE (R465): SET_IDLE is accepted with any value, and the report rules are unchanged. Operands: value, the
    idle rate in [15:8], report ID in [7:0]; index, wIndex of the request. -/
  | setIdle (value : BitVec 16) (index : BitVec 16)
  /-- GET_IDLE (R465): GET_IDLE is served for the HID interface. Operands: value, report ID in [7:0]; index, wIndex of
    the request; length, wLength of the request. -/
  | getIdle (value : BitVec 16) (index : BitVec 16) (length : BitVec 16)
  /-- STALL (R465): Any other EP0 request is answered with a STALL. -/
  | stall
  /-- USB_PACKET_ERROR (R494): A received packet with a CRC, stuffing or PID error is ignored and counted. -/
  | usbPacketError
  /-- HID_REPORT_SEND (R472): EP1 sends the next report of a set, and an older waiting set is skipped. -/
  | hidReportSend
  /-- EP2_READ (R477): An EP2 READ command reads N words and latches each into the response. Operands: tag, the TAG
    byte; n, the N byte; addr, the word address. -/
  | ep2Read (tag : Byte) (n : Byte) (addr : BitVec 16)
  /-- EP2_WRITE (R475): An EP2 WRITE command writes N words within the page. Operands: tag, the TAG byte; n, the N
    byte; addr, the word address; data, the words. -/
  | ep2Write (tag : Byte) (n : Byte) (addr : BitVec 16) (data : List Word)
  /-- EP2_EVENTS (R478): An EP2 EVENTS command returns up to N records of the H1 ring. Operands: tag, the TAG byte; n,
    the N byte; flags, the FLAGS byte. -/
  | ep2Events (tag : Byte) (n : Byte) (flags : Byte)
  /-- EP2_UNKNOWN_OP (R475): An EP2 command with an unknown OP is answered with STATUS 1. Operands: code, the OP byte;
    tag, the TAG byte. -/
  | ep2UnknownOp (code : Byte) (tag : Byte)
  /-- EP2_BAD_LENGTH (R489): An EP2 command of the wrong length is discarded and answered with STATUS 2. Operands:
    code, the OP byte; tag, the TAG byte; ovr, the transfer exceeds the length of a valid command. -/
  | ep2BadLength (code : Byte) (tag : Byte) (ovr : Bool)
  /-- EP2_RESPONSE_ACK (R478): The host acknowledges the last packet of a response; RD advances when RELEASE was set,
    and EP2 OUT opens. -/
  | ep2ResponseAck
  /-- USB_SUSPEND (R480): After 3 ms of idle bus, SUSP is set and SUSPEND_MODE is requested. -/
  | usbSuspend
  /-- USB_RESUME (R481): The host resume ends: SUSP clears and the mode left for suspend is requested. -/
  | usbResume
  /-- REMOTE_WAKE_SAMPLE_END (R485): After a clean J sample, K is driven; otherwise the activity is treated as resume
    or reset. Operands: bus, 0 J throughout, 1 K seen, 2 SE0 seen. -/
  | remoteWakeSampleEnd (bus : BitVec 2)
  /-- REMOTE_WAKE_DRIVE_END (R487): After 10 ms of K, the device releases the bus. Operands: hostK, the host began K
    during the drive. -/
  | remoteWakeDriveEnd (hostK : Bool)
  /-- DETACH (R493): A keyed USB_CTRL write of DETACH disconnects or reconnects the pull-up. Operands: rq, the
    requester; value, the word written to USB_CTRL. -/
  | detach (rq : Requester) (value : Word)
  /-- CFG_COMMIT (R513): A keyed CFG_CMD COMMIT copies the stage and starts the checks of a commit. Operands: key, the
    KEY byte of the write. -/
  | cfgCommit (key : Byte)
  /-- CFG_CHECK (R507): CFG_CMD CHECK runs the checks and applies nothing. Operands: key, the KEY byte of the write. -/
  | cfgCheck (key : Byte)
  /-- CFG_CLEAR (R539): CFG_CMD CLEAR sets CFG_NSTG to 0. Operands: key, the KEY byte of the write. -/
  | cfgClear (key : Byte)
  /-- CFG_CANCEL (R527): CFG_CMD CANCEL ends a commit before GO or F. Operands: key, the KEY byte of the write. -/
  | cfgCancel (key : Byte)
  /-- CFG_CHECK_END (R505): The checks of a commit end; the apply frame is set and PREPARE is sent, or the commit
    fails. -/
  | cfgCheckEnd
  /-- COLD_CALIBRATION_TIMEOUT (R512): A cold-apply calibration not ended after 500 ms lets the scan resume. -/
  | coldCalibrationTimeout
  /-- PREPARE (R517): A worker checks a PREPARE, builds the configuration and answers READY or REFUSE. Operands: src,
    the sending tile, x in [9:5] and y in [4:0]; words, the payload from word 1. -/
  | prepare (src : BitVec 10) (words : List Word)
  /-- READY (R518): The manager receives READY, and sends GO once every worker is ready. Operands: src, the sending
    tile, x in [9:5] and y in [4:0]; words, the payload from word 1. -/
  | ready (src : BitVec 10) (words : List Word)
  /-- REFUSE (R518): The manager receives REFUSE and sends ABORT. Operands: src, the sending tile, x in [9:5] and y in
    [4:0]; words, the payload from word 1. -/
  | refuse (src : BitVec 10) (words : List Word)
  /-- GO (R519): A worker receives GO, arms the commit and answers GO_ACK. Operands: src, the sending tile, x in [9:5]
    and y in [4:0]; words, the payload from word 1. -/
  | go (src : BitVec 10) (words : List Word)
  /-- GO_ACK (R520): The manager receives a worker's GO_ACK. Operands: src, the sending tile, x in [9:5] and y in
    [4:0]; words, the payload from word 1. -/
  | goAck (src : BitVec 10) (words : List Word)
  /-- ABORT (R518): A worker receives ABORT and keeps its old configuration. Operands: src, the sending tile, x in
    [9:5] and y in [4:0]; words, the payload from word 1. -/
  | abort (src : BitVec 10) (words : List Word)
  /-- GO_LATE (R520): A worker receives GO_LATE and applies the commit at its next frame boundary. Operands: src, the
    sending tile, x in [9:5] and y in [4:0]; words, the payload from word 1. -/
  | goLate (src : BitVec 10) (words : List Word)
  /-- GO_ACK_TIMEOUT (R521): A worker without GO_ACK 1 s after F receives a manager link reset. -/
  | goAckTimeout
  /-- DELTA (R523): A joining worker receives runtime delta entries. Operands: src, the sending tile, x in [9:5] and y
    in [4:0]; words, the payload from word 1. -/
  | delta (src : BitVec 10) (words : List Word)
  /-- ENUM (R543): A tile without coordinates takes those of the first ENUM it receives. Operands: words, the payload
    from word 1. -/
  | enum (words : List Word)
  /-- JOIN (R545): The manager checks a JOIN and answers WELCOME, REFUSE_JOIN or RESET. Operands: src, the sending
    tile, x in [9:5] and y in [4:0]; words, the payload from word 1. -/
  | join (src : BitVec 10) (words : List Word)
  /-- WELCOME (R544): A worker receives WELCOME with its first frame N and T_N. Operands: src, the sending tile, x in
    [9:5] and y in [4:0]; words, the payload from word 1. -/
  | welcome (src : BitVec 10) (words : List Word)
  /-- REFUSE_JOIN (R545): A refused worker starts no frame. Operands: src, the sending tile, x in [9:5] and y in
    [4:0]; words, the payload from word 1. -/
  | refuseJoin (src : BitVec 10) (words : List Word)
  /-- CONTACTS (R561): The manager receives a worker's CONTACTS message and updates the surface contacts. Operands:
    src, the sending tile, x in [9:5] and y in [4:0]; words, the payload from word 1. -/
  | contacts (src : BitVec 10) (words : List Word)
  /-- CONTACTS_DEADLINE (R564): At deadline D, the manager reports the surface records, with PARTIAL for missing
    tiles. -/
  | contactsDeadline
  /-- STRIP (R556): A tile receives a neighbour's edge strip and places its nodes beyond its edge. Operands: src, the
    sending tile, x in [9:5] and y in [4:0]; words, the payload from word 1. -/
  | strip (src : BitVec 10) (words : List Word)
  /-- STRIP_DEADLINE (R557): A strip not arrived 500 µs after the self scan is treated as excluded nodes. -/
  | stripDeadline
  /-- FORWARD (R566): The manager rings source 384 + (s mod 128) for a forwarded worker record. Operands: src, the
    sending tile, x in [9:5] and y in [4:0]; words, the payload from word 1. -/
  | forward (src : BitVec 10) (words : List Word)
  /-- REMOTE_RD (R569): A worker performs a forwarded remote read and answers REMOTE_RESP. Operands: src, the sending
    tile, x in [9:5] and y in [4:0]; tag, the tag of the operation; addr, the word address. -/
  | remoteRd (src : BitVec 10) (tag : BitVec 6) (addr : BitVec 16)
  /-- REMOTE_WR (R569): A worker performs a forwarded remote write. Operands: src, the sending tile, x in [9:5] and y
    in [4:0]; tag, the tag of the operation; addr, the word address; value, the word written. -/
  | remoteWr (src : BitVec 10) (tag : BitVec 6) (addr : BitVec 16) (value : Word)
  /-- REMOTE_RESP (R569): The manager receives the response to a remote access. Operands: src, the sending tile, x in
    [9:5] and y in [4:0]; tag, the tag of the operation; value, the word read, 0 for a write. -/
  | remoteResp (src : BitVec 10) (tag : BitVec 6) (value : Word)
  /-- RESET (R571): A worker receives RESET and performs a manager link reset, code 7. Operands: src, the sending
    tile, x in [9:5] and y in [4:0]; words, the payload from word 1. -/
  | reset (src : BitVec 10) (words : List Word)
  /-- LEAVE (R580): The manager receives LEAVE from a worker entering SAFE and cancels its contacts. Operands: src,
    the sending tile, x in [9:5] and y in [4:0]; words, the payload from word 1. -/
  | leave (src : BitVec 10) (words : List Word)
  /-- SVC_REQ (R73): The manager receives a worker's request to enter or leave SERVICE. Operands: src, the sending
    tile, x in [9:5] and y in [4:0]; words, the payload from word 1. -/
  | svcReq (src : BitVec 10) (words : List Word)
  /-- TILE_LOST (R574): A tile without CONTACTS for 250 ms is lost, and its contacts are cancelled. Operands: tile,
    the tile, x in [9:5] and y in [4:0]. -/
  | tileLost (tile : BitVec 10)
  /-- REMOTE_WINDOW_READ (R568): A host read in the remote window issues a link read to the selected tile. Operands:
    rq, the requester; addr, the word address in the remote window. -/
  | remoteWindowRead (rq : Requester) (addr : BitVec 16)
  /-- REMOTE_WINDOW_WRITE (R568): A host write in the remote window posts a link write to the selected tile. Operands:
    rq, the requester; addr, the word address in the remote window; value, the word written. -/
  | remoteWindowWrite (rq : Requester) (addr : BitVec 16) (value : Word)
  /-- EGL_TRESET (R571): A keyed EGL_TRESET write sends RESET to a worker. Operands: value, the word written. -/
  | eglTreset (value : Word)
  /-- SIGNAL_DETECT (R592): A port's signal detector sees a signal, and training starts. Operands: port, the port. -/
  | signalDetect (port : BitVec 2)
  /-- LINKCTL_ID (R592): A port receives the peer's ID packet and checks cross-wiring. Operands: port, the port; w,
    payload word 0. -/
  | linkctlId (port : BitVec 2) (w : Word)
  /-- DELAY_REQ (R594): A port answers a DELAY_REQ with DELAY_RESP and its turnaround. Operands: port, the port; w,
    payload word 0; turnaround, the turnaround in units of 4 ns. -/
  | delayReq (port : BitVec 2) (w : Word) (turnaround : Word)
  /-- DELAY_RESP (R594): A port receives a DELAY_RESP and computes the hop delay. Operands: port, the port; trip, the
    round trip in units of 4 ns; turnaround, payload word 1. -/
  | delayResp (port : BitVec 2) (trip : Word) (turnaround : Word)
  /-- TRAINING_TIMEOUT (R593): Training not ended in 10 ms takes the port down with reason 4. Operands: port, the
    port. -/
  | trainingTimeout (port : BitVec 2)
  /-- RETRAIN_DELAY (R638): 1 ms after a port goes down, it trains again unless it is held. Operands: port, the port. -/
  | retrainDelay (port : BitVec 2)
  /-- DELAY_RECALIBRATION (R594): Every 10 s an up port repeats 4 delay round trips. Operands: port, the port. -/
  | delayRecalibration (port : BitVec 2)
  /-- SEQUENCED_FRAME (R602): A received sequenced frame is accepted and acknowledged, or discarded with a NAK or an
    ACK. Operands: port, the port; seq, the hop sequence number; crcOk, the CRC matches; w0, header word W0; w1,
    header word W1; payload, the payload. -/
  | sequencedFrame (port : BitVec 2) (seq : BitVec 4) (crcOk : Bool) (w0 : Word) (w1 : Word) (payload : List Word)
  /-- ACK (R601): A received ACK frees window entries and updates FREE. Operands: port, the port; b, the data byte:
    sequence number and FREE. -/
  | ack (port : BitVec 2) (b : Byte)
  /-- NAK (R603): A received NAK resends every unacknowledged frame from its number. Operands: port, the port; b, the
    data byte: expected number and FREE. -/
  | nak (port : BitVec 2) (b : Byte)
  /-- RESEND_TIMEOUT (R603): The oldest frame unacknowledged for 20 µs is resent; 16 rounds take the port down.
    Operands: port, the port. -/
  | resendTimeout (port : BitVec 2)
  /-- SIGNAL_LOSS (R637): Loss of signal for more than 2 µs takes the port down. Operands: port, the port. -/
  | signalLoss (port : BitVec 2)
  /-- PACKET_AGED (R607): A packet waiting 2 ms in one tile is discarded. Operands: port, the port. -/
  | packetAged (port : BitVec 2)
  /-- GAP_SKIP (R610): A packet held 1 ms in the arrival hold makes its flow skip its gap. -/
  | gapSkip
  /-- OPERATION_ISSUE (R613): An operation takes a tag and a port slot and sends its request, or waits for them. -/
  | operationIssue
  /-- TAG_STARVED (R615): An operation waiting 2 ms raises TAG_STARVED. -/
  | tagStarved
  /-- OP_ATTEMPT_TIMEOUT (R616): An attempt times out after 2 ms and is retried; after the fourth the operation fails.
    Operands: tag, the tag. -/
  | opAttemptTimeout (tag : BitVec 6)
  /-- OPERATION_RESPONSE (R617): The first response to a tag completes its operation, and duplicates are discarded.
    Operands: src, the tile that answers, x in [9:5] and y in [4:0]; tag, the tag; payload, the payload. -/
  | operationResponse (src : BitVec 10) (tag : BitVec 6) (payload : List Word)
  /-- TAG_RETURN (R617): 8 ms after a retried or failed operation ends, its tag returns to the pool. Operands: tag,
    the tag. -/
  | tagReturn (tag : BitVec 6)
  /-- REQUEST_DELIVERY (R619): A target delivers a request and answers it, or answers a retry from the duplicate
    cache. Operands: flips, for a GATHER read, the bit errors met in each word read. -/
  | requestDelivery (flips : List (List (BitVec 5)))
  /-- DUPLICATE_CACHE_EXPIRY (R619): A cached response older than 10 ms leaves the cache. -/
  | duplicateCacheExpiry
  /-- PING (R600): A tile echoes a PING request. Operands: src, the tile that asks; tag, the tag; w, payload word 0. -/
  | ping (src : BitVec 10) (tag : BitVec 6) (w : Word)
  /-- BEACON (R621): A tile accepts the first good copy of a frame's beacon and forwards it. Operands: port, the port;
    crcOk, the CRC matches; words, the six payload words; stay, ns between the arrival and the copies sent on. -/
  | beacon (port : BitVec 2) (crcOk : Bool) (words : List Word) (stay : BitVec 24)
  /-- WATCH_BEACON (R625): In WATCH, a preamble wakes the receivers to accept and forward a WATCH beacon. Operands:
    port, the port; crcOk, the CRC matches; words, the six payload words; stay, ns between the arrival and the
    copies sent on. -/
  | watchBeacon (port : BitVec 2) (crcOk : Bool) (words : List Word) (stay : BitVec 24)
  /-- WAKE_PACKET (R626): A wake burst or WAKE packet seen by a detector wakes the tile. Operands: port, the port, N
    0, E 1, S 2, W 3; valid, a WAKE packet, or in WATCH a preamble with no valid frame within 20 µs; retentionOk,
    the CRC over the retained bank 12 matches and shows no uncorrectable error. -/
  | wakePacket (port : BitVec 2) (valid : Bool) (retentionOk : Bool)
  /-- REORDER_RELEASE (R630): A reorder-held frame passes alone after 10 µs without a following frame. Operands:
    point, the injection point. -/
  | reorderRelease (point : BitVec 3)
  /-- RETRAIN (R637): A keyed EGL_PCTL RETRAIN takes a port down with reason 6 and retrains it. Operands: value, the
    word written to EGL_PCTL. -/
  | retrain (value : Word)
  /-- PORT_DISABLE (R637): A keyed EGL_PCTL write of DISABLE disables or enables a port. Operands: value, the word
    written to EGL_PCTL. -/
  | portDisable (value : Word)
  /-- OWNER_WRITE (R650): A write of MEM_OWN sets a pending owner, or is refused for host requesters. Operands:
    writer, the host requester, none for the vendor firmware; bank, the bank; owner, the owner code written. -/
  | ownerWrite (writer : Option Requester) (bank : BitVec 4) (owner : BitVec 4)
  /-- HANDOVER (R664): The pending owner takes the bank at the end of the present burst. Operands: bank, the bank. -/
  | handover (bank : BitVec 4)
  /-- PORT_A_ACCESS (R649): The bank owner's port-A access is performed, or a non-owner receives NOTOWNER. Operands:
    bank, the bank; w, the word; master, the master code of R655; wr, the word written, none for a read; flips, the
    stored bits in error, 0 to 23 data and 24 to 29 check bits; waited, the access waited at least one cycle. -/
  | portAAccess (bank : BitVec 4) (w : BitVec 14) (master : BitVec 4) (wr : Option Word) (flips : List (BitVec 5)) (waited : Bool)
  /-- PORT_B_ACCESS (R653): A port-B master is granted a free cycle, or is forced in after 16 cycles. Operands: bank,
    the bank; w, the word; master, the master code of R655; wr, the word written, none for a read; flips, the stored
    bits in error, 0 to 23 data and 24 to 29 check bits; waited, the access waited at least one cycle; collide, port
    A writes the same word in the same cycle. -/
  | portBAccess (bank : BitVec 4) (w : BitVec 14) (master : BitVec 4) (wr : Option Word) (flips : List (BitVec 5)) (waited : Bool) (collide : Bool)
  /-- SCRUB (R659): The scrubber reads the next word through port B. Operands: flips, the stored bits in error, 0 to
    23 data and 24 to 29 check bits; collisions, collisions of the write-back in a row. -/
  | scrub (flips : List (BitVec 5)) (collisions : BitVec 3)
  /-- SCRUB_LATE (R660): A pass not ended by the end of its period is counted LATE and finished at once. -/
  | scrubLate
  /-- MEMORY_WINDOW_READ (R663): A host read in the memory window returns the corrected word of the selected bank.
    Operands: rq, the requester; w, the word; flips, the stored bits in error, 0 to 23 data and 24 to 29 check bits. -/
  | memoryWindowRead (rq : Requester) (w : BitVec 14) (flips : List (BitVec 5))
  /-- MEMORY_WINDOW_WRITE (R662): A host write in the memory window is performed only in a host-owned bank. Operands:
    rq, the requester; w, the word; value, the word written. -/
  | memoryWindowWrite (rq : Requester) (w : BitVec 14) (value : Word)
  /-- REPAIR (R670): A keyed MEM_REPCMD write starts a field column repair after its checks. Operands: rq, the
    requester; value, the word written to MEM_REPCMD. -/
  | repair (rq : Requester) (value : Word)
  /-- REPAIR_VTX_READY (R670): VTX reaches 9.0 V, and the repair copies, fuses, writes back and verifies. Operands:
    fuseOk, the entry reads back as programmed; verifyOk, no correction falls in the column. -/
  | repairVtxReady (fuseOk : Bool) (verifyOk : Bool)
  /-- REPAIR_VTX_TIMEOUT (R670): VTX is not within ±3 % of 9.0 V after 50 ms, and the repair fails with result 5. -/
  | repairVtxTimeout
  /-- GDE_PUSH (R678): GDE_CCMD PUSH checks the staged descriptor and queues it. Operands: channel, CHANNEL of the
    word written to GDE_CCMD. -/
  | gdePush (channel : BitVec 3)
  /-- GDE_RESUME (R700): GDE_CCMD RESUME continues a faulted element at the faulting word. Operands: channel, CHANNEL
    of the word written to GDE_CCMD. -/
  | gdeResume (channel : BitVec 3)
  /-- GDE_SKIP (R700): GDE_CCMD SKIP continues with the next element. Operands: channel, CHANNEL of the word written
    to GDE_CCMD. -/
  | gdeSkip (channel : BitVec 3)
  /-- GDE_ABORT (R701): GDE_CCMD ABORT ends the active descriptor. Operands: channel, CHANNEL of the word written to
    GDE_CCMD. -/
  | gdeAbort (channel : BitVec 3)
  /-- GDE_FLUSH (R700): GDE_CCMD FLUSH ends the active descriptor and discards the queue. Operands: channel, CHANNEL
    of the word written to GDE_CCMD. -/
  | gdeFlush (channel : BitVec 3)
  /-- GATHER_BURST (R687): The data path moves one burst of the highest-priority ready channel, checking each new
    page. Operands: flips, the bit errors met in each word the burst reads; collide, the words whose guest write
    meets an owner write of the same word; waits, the accesses of the burst that waited. -/
  | gatherBurst (flips : List (List (BitVec 5))) (collide : List Bool) (waits : BitVec 5)
  /-- GATHER_READ (R690): A worker performs or refuses a GATHER read request. Operands: src, the requesting tile, x in
    [9:5], y in [4:0]; tag, the TAG of the request; w0, payload W0; w1, payload W1; flips, the bit errors met in
    each word read. -/
  | gatherRead (src : BitVec 10) (tag : BitVec 6) (w0 : Word) (w1 : Word) (flips : List (List (BitVec 5)))
  /-- VTX_COMMAND (R720): A write of RAIL_VTXCMD sets a new VTX target and supersedes a command in progress. Operands:
    value, the word written to RAIL_VTXCMD. -/
  | vtxCommand (value : Word)
  /-- VLED_FIXED (R714): RAIL_VLEDCMD with FIXED = 1 enters fixed mode at VALUE. Operands: value, the word written to
    RAIL_VLEDCMD, FIXED taken as 1. -/
  | vledFixed (value : Word)
  /-- VLED_ADAPTIVE (R714): RAIL_VLEDCMD with FIXED = 0 returns VLED to adaptive mode. Operands: value, the word
    written to RAIL_VLEDCMD, FIXED taken as 0. -/
  | vledAdaptive (value : Word)
  /-- REFERENCE_UPDATE (R716): Every 10 µs each rail reference moves toward its target. Operands: vhv, VHV as measured
    in 10 mV; vtx, VTX as measured in 10 mV; pass, the VLED reference lies below the boost input minus the diode
    drop. -/
  | referenceUpdate (vhv : BitVec 13) (vtx : BitVec 13) (pass : Bool)
  /-- RAIL_DONE (R719): A rail command completes after 100 µs settled within ±2 %. Operands: vtx, the VTX rail, else
    VLED. -/
  | railDone (vtx : Bool)
  /-- DEMAND_UPDATE (R713): Every 1 ms the lamp demand is updated and the adaptive VLED target is recomputed. -/
  | demandUpdate
  /-- SOFT_START_END (R723): The VLED soft start ends, and the VTX regulator starts. -/
  | softStartEnd
  /-- VTX_TO_REGULATOR (R737): After a soft start without a short, VTX moves from the pump to the regulator in the
    next gap. -/
  | vtxToRegulator
  /-- RAIL_SHORT (R733): A short during soft start: the boost is stopped, Q_DIS opens and VTX falls back to the pump.
    Operands: vhv, VHV in 10 mV. -/
  | railShort (vhv : BitVec 13)
  /-- SHORT_RETRY (R735): 250 ms after a short, a new soft start begins. -/
  | shortRetry
  /-- RUNNING_SHORT (R738): 16 limit trips with VHV below 50 % of target while running count as a short of kind 2.
    Operands: vhv, VHV in 10 mV. -/
  | runningShort (vhv : BitVec 13)
  /-- CLEARLATCH (R736): A keyed RAIL_CTRL CLEARLATCH write leaves latch-off and starts a new series. Operands: value,
    the word written to RAIL_CTRL. -/
  | clearlatch (value : Word)
  /-- RAIL_OVERVOLT (R739): VHV above its limit holds BSTGATE low until it falls. Operands: vhv, VHV in 10 mV. -/
  | railOvervolt (vhv : BitVec 13)
  /-- VHV_ABOVE_50V (R734): VHV above 50 V stops the boost and opens Q_DIS within 5 µs. Operands: vhv, VHV in 10 mV. -/
  | vhvAbove50v (vhv : BitVec 13)
  /-- RAIL_VTX_FAULT (R740): A VTX undervoltage or pump fault is reported, and the rail restarts where required.
    Operands: kind, the kind of R740, 1 to 3; vtx, VTX in 10 mV. -/
  | railVtxFault (kind : BitVec 2) (vtx : BitVec 13)
  /-- VTX_FAULT_RESTART (R740): 250 ms after a kind 2 or 3 fault, the VTX soft start restarts. -/
  | vtxFaultRestart
  /-- LAMP_COMMAND (R761): A write of LAMP_CMDC performs a lamp or group command and starts its fade. Operands: rq,
    the requester; value, the word written to LAMP_CMDC. -/
  | lampCommand (rq : Requester) (value : Word)
  /-- FADE_TICK (R762): Every 1 ms, fading lamps move toward their targets. -/
  | fadeTick
  /-- PWM_PERIOD (R749): A PWM period starts: sinks turn on, bypasses open and headroom is measured. Operands: vhv,
    VHV in 10 mV; head, headroom of each sink in 10 mV; starved, sinks whose current is below 50 % of SINK_I;
    forward, forward voltage of each tap lamp in 10 mV. -/
  | pwmPeriod (vhv : BitVec 13) (head : List (BitVec 13)) (starved : BitVec 8) (forward : List (BitVec 13))
  /-- BYPASS_CLAMP (R754): A bypass switch closes by itself above 5.5 V across it. Operands: k, the tap lamp. -/
  | bypassClamp (k : BitVec 3)
  /-- REFRESH_PERIOD (R758): An external chain refresh period shifts and latches its 12 bit planes. Operands: errors,
    lamps whose error flag is read. -/
  | refreshPeriod (errors : List (BitVec 10))
  /-- CHAIN_CHECK (R760): Once per second, a pattern checks the external chain. Operands: matched, the bits received
    equal the bits sent. -/
  | chainCheck (matched : Bool)
  /-- LAMP_GCLEAR (R768): A keyed LAMP_GCLEAR write clears tripped groups whose CLR permits it. Operands: value, the
    word written. -/
  | lampGclear (value : Word)
  /-- LAMP_FAULT_CLEAR (R781): A W1C write of LAMP_FLT clears faults of lamps outside tripped groups. Operands: w, the
    register LAMP_FLT[w]; value, the word written. -/
  | lampFaultClear (w : BitVec 5) (value : Word)
  /-- LAMP_HEADROOM (R772): A lit sink below 0.6 V headroom for 100 ms raises LAMP_HEADROOM. Operands: sink, the sink. -/
  | lampHeadroom (sink : BitVec 3)
  /-- IR_EDGE (R788): An IRRX edge is accepted after the filter and dated, and the decoders judge it. Operands: mark,
    the new level is a mark; us, length of the level that has ended in µs; recorded, one of its edges was dated by
    the always-on recorder; held, the new level has held for IRX_FILT; else a pulse is discarded. -/
  | irEdge (mark : Bool) (us : BitVec 24) (recorded : Bool) (held : Bool)
  /-- IR_GAP (R791): A space reaches IRX_GAP and ends the frame, with IR_UNKNOWN when not decoded. -/
  | irGap
  /-- IR_BIPHASE_SPACE_END (R796): A trailing biphase space reaches (1 + TOL) units and completes the frame. -/
  | irBiphaseSpaceEnd
  /-- IR_KEY_RELEASE (R798): HOLD_MS passes without a continuation, and the held key is released. -/
  | irKeyRelease
  /-- IR_STUCK (R816): A mark longer than IRX_MARKMAX sets STUCK and releases the held key. Operands: ms, length of
    the mark in ms. -/
  | irStuck (ms : BitVec 24)
  /-- RELEASE (R798): A write of IRX_CTRL.RELEASE releases the held key at once. Operands: value, the word written to
    IRX_CTRL, RELEASE taken as 1. -/
  | release (value : Word)
  /-- ITX_START (R805): An ITX_CMD start begins a transmission at entry START in the chosen mode. Operands: rq, the
    requester; value, the word written to ITX_CMD, STOP taken as 0. -/
  | itxStart (rq : Requester) (value : Word)
  /-- ITX_STOP (R810): An ITX_CMD with STOP ends the transmission within 1 µs. Operands: rq, the requester; value, the
    word written to ITX_CMD, STOP taken as 1. -/
  | itxStop (rq : Requester) (value : Word)
  /-- ITX_ENTRY_END (R805): A pattern entry ends and the next one starts, or the transmission ends. -/
  | itxEntryEnd
  /-- ITX_TMAX (R809): A transmission running for ITX_TMAX stops with status 1. -/
  | itxTmax
  /-- ITX_PDATA (R804): A read or write of ITX_PDATA accesses the pattern entry and advances ITX_PADDR. Operands: rq,
    the requester; write, a write, else a read; value, the word written. -/
  | itxPdata (rq : Requester) (write : Bool) (value : Word)
  /-- PLAN_CONVERSION (R830): The firmware plan starts a conversion of the most overdue channel. -/
  | planConversion
  /-- CONVERSION_END (R825): A conversion ends, and its corrected value enters the accumulators and the comparator.
    Operands: b, converter B, else A; value, the value after the internal correction, in the unit of R823; ovr, 0
    not over-range, 1 positive, 2 negative. -/
  | conversionEnd (b : Bool) (value : Word) (ovr : BitVec 2)
  /-- HKA_SNAP (R828): A write of HKA_SNAP copies a channel's H set into the requester's snapshot, optionally clearing
    it. Operands: rq, the requester; value, the word written. -/
  | hkaSnap (rq : Requester) (value : Word)
  /-- CLAIM (R833): A keyed HKA_HOST write claims or releases a converter. Operands: value, the word written to
    HKA_HOST. -/
  | claim (value : Word)
  /-- HKA_CLAIM_EXPIRED (R834): HKA_HOSTTO after the last host start, the claim ends. -/
  | hkaClaimExpired
  /-- HOST_CONVERSION (R835): HKA_CMD with START starts a host conversion on the claimed converter. Operands: value,
    the word written to HKA_CMD, START taken as 1. -/
  | hostConversion (value : Word)
  /-- REFIN_CHECK (R838): Every 100 ms an enabled REFIN is checked, and a fault is raised or cleared. Operands: ok,
    REFIN measures 0.95–2.6 V. -/
  | refinCheck (ok : Bool)
  /-- REFERENCE_TIMEOUT (R851): A reference not ready within 10 ms abandons the conversion. Operands: b, converter B,
    else A. -/
  | referenceTimeout (b : Bool)
  /-- CONVERSION_TIMEOUT (R851): A conversion exceeding 2 periods plus 1 ms is abandoned and the converter is reset.
    Operands: b, converter B, else A. -/
  | conversionTimeout (b : Bool)
  /-- TDAC (R842): A write of HKA_TDAC connects or disconnects the TDAC and suspends the channel's plan. Operands:
    value, the word written to HKA_TDAC. -/
  | tdac (value : Word)
  /-- ZERO (R843): HKA_SCCMD ZERO takes 64 conversions as the zero point. Operands: value, the word written to
    HKA_SCCMD, OP taken as 1. -/
  | zero (value : Word)
  /-- FULL (R843): HKA_SCCMD FULL takes 64 conversions as the full-scale point. Operands: value, the word written to
    HKA_SCCMD, OP taken as 2. -/
  | full (value : Word)
  /-- APPLY (R844): HKA_SCCMD APPLY computes, checks and applies the system calibration and logs it. Operands: value,
    the word written to HKA_SCCMD, OP taken as 3; vref, the reference of the channel in µV, for REFSEL 1 and 2;
    copyOk, the settings copy reads back as written. -/
  | apply (value : Word) (vref : Word) (copyOk : Bool)
  /-- DEFAULT (R843): HKA_SCCMD DEFAULT removes the channel's system calibration. Operands: value, the word written to
    HKA_SCCMD, OP taken as 4; copyOk, the settings copy reads back as written. -/
  | default (value : Word) (copyOk : Bool)
  /-- SYSCAL_STEP_END (R843): The 64 conversions of a ZERO or FULL step end, and HKA_SCSTAT is set. Operands: values,
    the 64 conversions without system correction; ovr, a conversion was over-range: 0 none, 1 positive, 2 negative. -/
  | syscalStepEnd (values : List Word) (ovr : BitVec 2)
  /-- RUN (R862): A keyed CAL_CMD RUN makes a calibration run due. Operands: value, the word written to CAL_CMD. -/
  | run (value : Word)
  /-- SLICE (R865): A calibration slice runs whole items in a frame gap. Operands: items, the measurement of each item
    in turn: for a channel its 12 cells in fF and whether offset and gain are within limits, for a driver its 8 legs
    in per mille of nominal and whether its current limit tripped. -/
  | slice (items : List (List (BitVec 16) × Bool))
  /-- CAL_STARVED (R867): No slice for CAL_MAXWAIT starves the run, and a stretched frame is named. -/
  | calStarved
  /-- BACKGROUND_ITEM_END (R857): A reference-cell or RC-leg measurement ends, and its new choice is made. Operands:
    rc, the RC leg set, else the reference cells; cells, bandgap readings of the four reference cells in µV; legs,
    the leg set nearest nominal; reached, the leg set is within ±0.5 % of 32.768 kHz. -/
  | backgroundItemEnd (rc : Bool) (cells : List (BitVec 24)) (legs : BitVec 16) (reached : Bool)
  /-- TELEMETRY_RECORD (R871): Every TELEM_PERIOD, the F sets are snapshotted and a telemetry record is written. -/
  | telemetryRecord
  /-- LOG_SUMMARY (R875): Every LOG_TELEM hours, type-1 summary records are queued. -/
  | logSummary
  /-- LOG_RECORD_WRITE (R876): A queued log record is written to the head page and read back. Operands: ok, each
    transaction in turn reads back as sent; true beyond the list. -/
  | logRecordWrite (ok : List Bool)
  /-- LOG_MOUNT (R877): The log is mounted by reading every descriptor to find the head. -/
  | logMount
  /-- SVC_UNLOCK_WRITE (R72): A write of SVC_UNLOCK unlocks or relocks fault injection, or counts as a rejected code.
    Operands: value, the word written. -/
  | svcUnlockWrite (value : Word)
  /-- SVC_AMON_WRITE (R78): A write of SVC_AMON selects a meter point on AMON. Operands: value, the word written. -/
  | svcAmonWrite (value : Word)
  /-- SVC_EL_WRITE (R95): A write of SVC_EL places an electrode in a static state. Operands: value, the word written. -/
  | svcElWrite (value : Word)
  /-- CONSOLE_LINE_ERROR (R68): A console line with a framing, length, syntax or unknown-command error is answered
    with its error code. Operands: code, 1 framing, 2 too long, 3 unknown, 4 syntax. -/
  | consoleLineError (code : BitVec 3)
  /-- CTRL_C (R83): 0x03 stops the output of a running log, evmon or rd, which ends with E12. -/
  | ctrlC
  /-- CONSOLE_BREAK (R87): SVCRX low for more than 10 ms is a break that discards the partial line. -/
  | consoleBreak
  /-- PARTIAL_LINE_TIMEOUT (R66): A partial line idle for 60 s is discarded without a reply. -/
  | partialLineTimeout
  /-- CONSOLE_WAKE_EDGE (R65): In WATCH, the first SVCRX edge after 1 s of silence starts the fast oscillator. -/
  | consoleWakeEdge
  /-- CONSOLE_SESSION_END (R65): 10 s after the last received character in WATCH, the console releases the fast
    oscillator. -/
  | consoleSessionEnd
  /-- SVC_NO_MANAGER (R73): A worker's SERVICE request or svc off unanswered for 1 s ends in E09. -/
  | svcNoManager
  /-- SERVICE_JOIN_TIMEOUT (R91): A worker with SVCEN# low that has not joined after 10 s opens the full command set. -/
  | serviceJoinTimeout
  /-- LOG_NVM_TIMEOUT (R86): A log command that waits more than 100 ms for the NVM bus ends in E10. -/
  | logNvmTimeout
  /-- HELP (R69): The console lists the commands available in the present state. -/
  | help
  /-- ID (R69): The console prints identity, role, coordinates, mode and SVC_STAT. -/
  | id
  /-- RD (R69): The console reads 1–32 words without clearing RC fields. Operands: addr, the first word address; n,
    the count. -/
  | rd (addr : BitVec 16) (n : BitVec 16)
  /-- WR (R84): The console writes one word, after any host write in the same cycle. Operands: addr, the word address;
    value, the word written. -/
  | wr (addr : BitVec 16) (value : Word)
  /-- TIME (R69): The console prints one time snapshot. -/
  | time
  /-- LOG (R86): The console prints fault-log records complete when the command began. Operands: kind, 0 the last n, 1
    all, 2 from a sequence number; n, the number of records, or the sequence number. -/
  | log (kind : BitVec 2) (n : BitVec 24)
  /-- EVMON_ON (R69): The console prints every record written to a host queue. -/
  | evmonOn
  /-- EVMON_OFF (R69): The console stops printing host-queue records. -/
  | evmonOff
  /-- SVC (R70): svc with the code opens the full command set or enters SERVICE; a wrong code is rejected. Operands:
    code, the code. -/
  | svc (code : Word)
  /-- SVC_OFF (R77): svc off leaves SERVICE surface-wide, or closes the full command set. -/
  | svcOff
  /-- METER (R78): meter selects a meter point on AMON and prints its expected band. Operands: point, the meter point;
    arg, its argument. -/
  | meter (point : BitVec 5) (arg : BitVec 10)
  /-- METER_OFF (R78): meter off returns AMON to high impedance. -/
  | meterOff
  /-- EL (R80): el places one or every electrode in a static state, unless the scan runs. Operands: all, every
    electrode; n, the electrode; st, the state: 0 gnd, 1 float, 2 src, 3 mtr, 4 mtrs. -/
  | el (all : Bool) (n : BitVec 8) (st : BitVec 3)
  /-- CONSOLE_RESET (R69): reset issues a device reset recorded as a console reset. -/
  | consoleReset
  /-- BLOCK_STAT (R69): block stat prints the decoded status of the named block. Operands: block, 0 scan, 1 trk, 2
    rail, 3 lamp, 4 irx, 5 itx, 6 hka, 7 cal, 8 mem, 9 gde, 10 egl, 11 usb, 12 twb, 13 evr. -/
  | blockStat (block : BitVec 4)
  /-- SYS_STAT (R126): sys stat prints the reset, supply and clock registers and the watchdog history. -/
  | sysStat
  /-- BOOT_STAT (R161): boot stat prints the boot registers decoded. -/
  | bootStat
  /-- IMG_CHECK (R151): img check runs a VERIFY on one slot and prints its result. Operands: slotB, slot B, else slot
    A. -/
  | imgCheck (slotB : Bool)
  /-- NVM_RD (R131): nvm rd prints up to 64 bytes from an NVM address. Operands: addr, the byte address; n, the count. -/
  | nvmRd (addr : BitVec 24) (n : BitVec 8)
  /-- PWR_STAT (R201): pwr stat prints the mode registers and the last mode changes. -/
  | pwrStat
  /-- PWR_WAKE (R195): pwr wake lists the enabled and storm-disabled wake sources. -/
  | pwrWake
  /-- TIME_STAT (R417): time stat prints the time-base state and the last steps. -/
  | timeStat
  /-- SCAN_NOISE (R222): scan noise prints the median and maximum listen value per slot. -/
  | scanNoise
  /-- SCAN_NODE (R220): scan node prints the last sample of a node. Operands: t, the TX order; r, the logical channel. -/
  | scanNode (t : BitVec 8) (r : BitVec 8)
  /-- SCAN_LEGS (R210): scan legs prints the leg masks of a TX electrode. Operands: n, the electrode. -/
  | scanLegs (n : BitVec 8)
  /-- SCAN_RUN (R75): scan run starts frames in SERVICE, unless an electrode is not in gnd. -/
  | scanRun
  /-- SCAN_STOP (R75): scan stop stops frames or a tone in SERVICE. -/
  | scanStop
  /-- SCAN_TONE (R236): scan tone drives one electrode continuously at a slot frequency. Operands: n, the electrode;
    k, the slot. -/
  | scanTone (n : BitVec 8) (k : BitVec 3)
  /-- TRK_HOP (R257): trk hop prints the noise figures and the last hops. -/
  | trkHop
  /-- TRK_BASE (R245): trk base prints a node's baselines and its D / B. Operands: t, the TX order; r, the logical
    channel. -/
  | trkBase (t : BitVec 8) (r : BitVec 8)
  /-- TRK_BLRESET (R285): trk blreset writes TRK_CTRL.BLRESET from the console. -/
  | trkBlreset
  /-- TRK_RPT (R331): trk rpt prints the report status and counters. -/
  | trkRpt
  /-- TRK_CAP (R316): trk cap captures one frame of the named planes into bank 15. Operands: planes, the planes named,
    in the layout of TRK_CAP_CTRL.PLANES. -/
  | trkCap (planes : BitVec 5)
  /-- EVR_SRC (R335): evr src prints a source's configuration and state. Operands: n, the source. -/
  | evrSrc (n : BitVec 10)
  /-- EVR_FIRE (R334): evr fire rings a host source with payload 0. Operands: n, the source. -/
  | evrFire (n : BitVec 10)
  /-- CFG_STAT (R539): cfg stat prints the commit state and the last commits. -/
  | cfgStat
  /-- CFG_GET (R539): cfg get prints a parameter's applied and image values. Operands: p, the parameter id. -/
  | cfgGet (p : Word)
  /-- CFG_DELTA (R523): cfg delta prints the runtime delta. -/
  | cfgDelta
  /-- SURF_STAT (R586): surf stat prints the hierarchy registers decoded. -/
  | surfStat
  /-- SURF_MAP (R586): surf map prints the state of every tile of the grid. -/
  | surfMap
  /-- SURF_TILE (R586): surf tile prints EGL_TSTAT of one tile. Operands: xy, the tile, x in [9:5] and y in [4:0]. -/
  | surfTile (xy : BitVec 10)
  /-- RTILE (R568): rtile sets the console's EGL_RTILE. Operands: xy, the tile, x in [9:5] and y in [4:0]. -/
  | rtile (xy : BitVec 10)
  /-- SURF_RESET (R571): surf reset writes EGL_TRESET from the console. Operands: xy, the tile, x in [9:5] and y in
    [4:0]. -/
  | surfReset (xy : BitVec 10)
  /-- EGL_PING (R600): egl ping sends PING operations and prints the round-trip times. Operands: xy, the tile; n, the
    number of operations, 10 when not given. -/
  | eglPing (xy : BitVec 10) (n : BitVec 8)
  /-- EGL_INJ (R646): egl inj writes an injection point's fault kind and rate. Operands: i, the point; kind, 0 drop, 1
    corrupt, 2 reorder; k, the rate. -/
  | eglInj (i : BitVec 8) (kind : BitVec 2) (k : BitVec 8)
  /-- EGL_INJ_OFF (R646): egl inj off disables fault injection. -/
  | eglInjOff
  /-- EGL_RETRAIN (R637): egl retrain retrains a port from the console. Operands: p, the port. -/
  | eglRetrain (p : BitVec 8)
  /-- MEM_COL (R669): mem col prints a bank's column tracker and spares. Operands: n, the bank. -/
  | memCol (n : BitVec 8)
  /-- MEM_REPAIR (R670): mem repair starts a column repair and prints its result. Operands: n, the bank; c, the
    column. -/
  | memRepair (n : BitVec 8) (c : BitVec 16)
  /-- GDE_WIN (R682): gde win prints every valid window entry. -/
  | gdeWin
  /-- GDE_TEST (R686): gde test copies words between banks 15 and 14 and compares them. Operands: n, the operand. -/
  | gdeTest (n : BitVec 16)
  /-- RAIL_VTX (R718): rail vtx issues a VTX command from the console. Operands: v, the voltage in 10 mV. -/
  | railVtx (v : BitVec 13)
  /-- RAIL_VLED (R718): rail vled issues a fixed VLED command from the console. Operands: v, the voltage in 10 mV. -/
  | railVled (v : BitVec 13)
  /-- RAIL_VLED_AUTO (R714): rail vled auto returns VLED to adaptive mode. -/
  | railVledAuto
  /-- RAIL_RESTART (R736): rail restart clears the boost latch-off. -/
  | railRestart
  /-- LAMP_N (R746): lamp n prints one lamp's state and voltages. Operands: n, the lamp. -/
  | lampN (n : BitVec 10)
  /-- LAMP_SET (R771): lamp set commands a lamp from the console, in SERVICE as well. Operands: n, the lamp; level,
    the level; ms, the fade, 0 when not given. -/
  | lampSet (n : BitVec 10) (level : BitVec 12) (ms : BitVec 14)
  /-- LAMP_CLEAR (R768): lamp clear clears a tripped group whose CLR is 0 or 1. Operands: g, the group. -/
  | lampClear (g : BitVec 4)
  /-- IRX_RAW (R802): irx raw prints the raw durations of the last frame. -/
  | irxRaw
  /-- ITX_SEND (R805): itx send transmits a pattern from the console. Operands: i, the first entry; n, further runs. -/
  | itxSend (i : BitVec 9) (n : BitVec 8)
  /-- ITX_LOOP (R807): itx loop sets ECHO, transmits and prints the decode. Operands: i, the first entry. -/
  | itxLoop (i : BitVec 9)
  /-- HKA_CH (R829): hka ch snapshots a channel without clearing and prints its statistics. Operands: n, the channel. -/
  | hkaCh (n : BitVec 8)
  /-- HKA_CONV (R833): hka conv claims converter B, runs k conversions of a channel and prints them. Operands: n, the
    channel; k, the number of conversions; values, value and over-range code of each conversion. -/
  | hkaConv (n : BitVec 8) (k : BitVec 8) (values : List (Word × BitVec 2))
  /-- HKA_PATH (R842): hka path measures an AIN pin at two TDAC codes and prints k and R_th. Operands: n, the AIN
    channel; low, 16 conversions at code 0; high, 16 conversions at code 1,023. -/
  | hkaPath (n : BitVec 8) (low : List Word) (high : List Word)
  /-- HKA_CAL_ZERO (R843): hka cal zero runs the ZERO step. Operands: n, the AIN channel. -/
  | hkaCalZero (n : BitVec 8)
  /-- HKA_CAL_FULL (R843): hka cal full runs the FULL step with the given full scale. Operands: n, the AIN channel;
    uv, the full scale in µV. -/
  | hkaCalFull (n : BitVec 8) (uv : Word)
  /-- HKA_CAL_APPLY (R844): hka cal apply runs the APPLY step. Operands: n, the AIN channel; vref, the reference of
    the channel in µV, for REFSEL 1 and 2; copyOk, the settings copy reads back as written. -/
  | hkaCalApply (n : BitVec 8) (vref : Word) (copyOk : Bool)
  /-- CAL_RUN (R862): cal run writes CAL_CMD RUN from the console. -/
  | calRun
  /-- LOG_STAT (R877): log stat prints the log state and queue. -/
  | logStat
  /-- TELEM (R872): telem prints the last telemetry record. -/
  | telem
  /-- RESET_RELEASE (R48): RESET# returns high, the external reset ends and start-up runs from step 2. Operands:
    straps, the reads of each sampling attempt, in the layout of R60. -/
  | resetRelease (straps : List Byte)
  /-- VCORE_GOOD (R127): VCORE rises to good at start-up step 3 or during a wake, and the fast oscillator starts and
    start-up or the wake continues. -/
  | vcoreGood
  /-- TICK_BOUNDARY (R381): At every ordinary 32 kHz tick boundary the time base adds 512 units to its counted value
    and carries into the seconds. -/
  | tickBoundary
  /-- FOSC_LOCK (R123): The frequency-locked loop achieves lock, SYS_CLK.LOCKED is set, and USB may attach. -/
  | foscLock
  /-- FOSC_LOCK_LOST (R495): The fast oscillator loses lock: USB detaches and USB_ERROR is raised with kind 2. -/
  | foscLockLost
  /-- COMMA_ALIGNMENT (R592): A training receiver gets 64 consecutive K28.5 without error, aligns to the comma and
    passes to the ID exchange. Operands: port, the port. -/
  | commaAlignment (port : BitVec 2)
  /-- LINK_CODE_ERRORS (R637): 64 code or disparity errors within 1 ms take the port down with reason 2. Operands:
    port, the port. -/
  | linkCodeErrors (port : BitVec 2)
  /-- START_OF_FRAME_TOKEN (R107): A USB start-of-frame token is received, updating USB_FRNUM and feeding the loop
    reference while no crystal qualifies. Operands: frame, the frame number of the token. -/
  | startOfFrameToken (frame : BitVec 11)
  /-- CONSOLE_CHARACTER (R66): A character received on SVCRX is kept and echoed, or deletes the last character, or
    ends an empty line with a prompt. Operands: c, the character received; bad, it has a framing error, or its
    majority vote does not agree. -/
  | consoleCharacter (c : Byte) (bad : Bool)
  /-- VDDA_FALL (R99): VDDA falls below 2.8 V and the power-on reset is held until it returns. -/
  | vddaFall
  /-- REFERENCE_READY (R837): The internal reference or the REFIN buffer becomes ready, and a conversion waiting for
    it starts. Operands: refin, the REFIN buffer, else the internal reference. -/
  | referenceReady (refin : Bool)
  deriving DecidableEq, Repr

end Sys2Proof
end

