-- ==== Sys2Proof/Decode.lean ====
section
/-!
DEFINITION. Decode.lean: the reader of table words. spec/opcode_table.json gives no row any bits, so no word spells a
command (log entry 10).
-/

namespace Sys2Proof

/-- The command that a word spells by the table's bits: no row has bits, so none. -/
def decodeTableWord (_nbits _w : Nat) : Option Instr := none

end Sys2Proof
end

