-- ==== Sys2Proof/Machine/Crc.lean ====
section
/-!
DEFINITION. Crc.lean: the three check codes: CRC-32 of the image (R134), CRC-16 of the link and the log (R596, R874), and
CRC-8 of the two-wire PEC (R427); and the bytes of words.
-/

namespace Sys2Proof.Machine

/-- One shift of a reflected CRC-32 with polynomial 0x04C11DB7. -/
def crc32Shift (c : BitVec 32) : BitVec 32 :=
  if c.getLsbD 0 then (c >>> 1) ^^^ 0xEDB88320#32 else c >>> 1

def crc32Byte (c : BitVec 32) (b : Byte) : BitVec 32 :=
  (List.range 8).foldl (fun c _ => crc32Shift c) (c ^^^ b.setWidth 32)

/-- CRC-32, IEEE 802.3 (R134). -/
def crc32 (bs : List Byte) : BitVec 32 := ~~~ bs.foldl crc32Byte 0xFFFFFFFF#32

def crc16Shift (c : BitVec 16) : BitVec 16 := if c.getLsbD 15 then (c <<< 1) ^^^ 0x1021#16 else c <<< 1

def crc16Byte (c : BitVec 16) (b : Byte) : BitVec 16 :=
  (List.range 8).foldl (fun c _ => crc16Shift c) (c ^^^ (b.setWidth 16 <<< 8))

/-- CRC-16 with the CCITT polynomial 0x1021 and initial value 0xFFFF (R596). -/
def crc16 (bs : List Byte) : BitVec 16 := bs.foldl crc16Byte 0xFFFF#16

def crc8Shift (c : BitVec 8) : BitVec 8 := if c.getLsbD 7 then (c <<< 1) ^^^ 0x07#8 else c <<< 1

def crc8Byte (c : BitVec 8) (b : Byte) : BitVec 8 := (List.range 8).foldl (fun c _ => crc8Shift c) (c ^^^ b)

/-- CRC-8 with polynomial 0x07 and initial value 0 (R427). -/
def crc8 (bs : List Byte) : BitVec 8 := bs.foldl crc8Byte 0#8

def byte (n : Nat) : Byte := BitVec.ofNat 8 n
def bytesOf (l : List Nat) : List Byte := l.map byte

/-- The three bytes of a word, most significant first. -/
def wordBytes (w : Word) : List Byte := [(w >>> 16).setWidth 8, (w >>> 8).setWidth 8, w.setWidth 8]

/-- The word that three bytes spell, most significant first. -/
def bytesWord (a b c : Byte) : Word := word (a.toNat * 65536 + b.toNat * 256 + c.toNat)

/-- Bytes taken as a big-endian number. -/
def bytesNat (bs : List Byte) : Nat := bs.foldl (fun acc b => acc * 256 + b.toNat) 0

/-- A number as a given count of bytes, most significant first. -/
def natBytes : Nat → Nat → List Byte
  | 0, _ => []
  | k + 1, n => BitVec.ofNat 8 (n / 256 ^ k) :: natBytes k n

/-- Bytes packed three to a word, most significant first, the last word padded with zeros. -/
def packBytes : List Byte → List Word
  | [] => []
  | [a] => [bytesWord a 0 0]
  | [a, b] => [bytesWord a b 0]
  | a :: b :: c :: rest => bytesWord a b c :: packBytes rest

end Sys2Proof.Machine
end

