-- ==== Sys2Proof/Machine/Ed25519.lean ====
section
/-!
DEFINITION. Ed25519.lean: SHA-512 and the Ed25519 verification that R135 to R137 name by RFC 8032. The manual gives neither
algorithm; both are taken from their standards (PRESUMED, log entry 14).
-/

namespace Sys2Proof.Machine

/-! SHA-512. -/

/-- The 80 round constants. -/
def shaK : List Nat :=
  [0x428A2F98D728AE22, 0x7137449123EF65CD, 0xB5C0FBCFEC4D3B2F, 0xE9B5DBA58189DBBC,
    0x3956C25BF348B538, 0x59F111F1B605D019, 0x923F82A4AF194F9B, 0xAB1C5ED5DA6D8118,
    0xD807AA98A3030242, 0x12835B0145706FBE, 0x243185BE4EE4B28C, 0x550C7DC3D5FFB4E2,
    0x72BE5D74F27B896F, 0x80DEB1FE3B1696B1, 0x9BDC06A725C71235, 0xC19BF174CF692694] ++
  [0xE49B69C19EF14AD2, 0xEFBE4786384F25E3, 0x0FC19DC68B8CD5B5, 0x240CA1CC77AC9C65,
    0x2DE92C6F592B0275, 0x4A7484AA6EA6E483, 0x5CB0A9DCBD41FBD4, 0x76F988DA831153B5,
    0x983E5152EE66DFAB, 0xA831C66D2DB43210, 0xB00327C898FB213F, 0xBF597FC7BEEF0EE4,
    0xC6E00BF33DA88FC2, 0xD5A79147930AA725, 0x06CA6351E003826F, 0x142929670A0E6E70] ++
  [0x27B70A8546D22FFC, 0x2E1B21385C26C926, 0x4D2C6DFC5AC42AED, 0x53380D139D95B3DF,
    0x650A73548BAF63DE, 0x766A0ABB3C77B2A8, 0x81C2C92E47EDAEE6, 0x92722C851482353B,
    0xA2BFE8A14CF10364, 0xA81A664BBC423001, 0xC24B8B70D0F89791, 0xC76C51A30654BE30,
    0xD192E819D6EF5218, 0xD69906245565A910, 0xF40E35855771202A, 0x106AA07032BBD1B8] ++
  [0x19A4C116B8D2D0C8, 0x1E376C085141AB53, 0x2748774CDF8EEB99, 0x34B0BCB5E19B48A8,
    0x391C0CB3C5C95A63, 0x4ED8AA4AE3418ACB, 0x5B9CCA4F7763E373, 0x682E6FF3D6B2B8A3,
    0x748F82EE5DEFB2FC, 0x78A5636F43172F60, 0x84C87814A1F0AB72, 0x8CC702081A6439EC,
    0x90BEFFFA23631E28, 0xA4506CEBDE82BDE9, 0xBEF9A3F7B2C67915, 0xC67178F2E372532B] ++
  [0xCA273ECEEA26619C, 0xD186B8C721C0C207, 0xEADA7DD6CDE0EB1E, 0xF57D4F7FEE6ED178,
    0x06F067AA72176FBA, 0x0A637DC5A2C898A6, 0x113F9804BEF90DAE, 0x1B710B35131C471B,
    0x28DB77F523047D84, 0x32CAAB7B40C72493, 0x3C9EBE0A15C9BEBC, 0x431D67C49C100D4C,
    0x4CC5D4BECB3E42B6, 0x597F299CFC657E2A, 0x5FCB6FAB3AD6FAEC, 0x6C44198C4A475817]

/-- The initial hash value. -/
def shaH : List Nat :=
  [0x6A09E667F3BCC908, 0xBB67AE8584CAA73B, 0x3C6EF372FE94F82B, 0xA54FF53A5F1D36F1,
    0x510E527FADE682D1, 0x9B05688C2B3E6C1F, 0x1F83D9ABFB41BD6B, 0x5BE0CD19137E2179]

def mod64 : Nat := 18446744073709551616

/-- A 64-bit word rotated right. -/
def rotr (n w : Nat) : Nat := (w >>> n ||| w <<< (64 - n)) % mod64

/-- The message schedule grown by one word at a time, latest first. -/
def shaGrow : Nat → List Nat → List Nat
  | 0, ws => ws
  | k + 1, ws =>
    let w2 := ws.getD 1 0
    let w7 := ws.getD 6 0
    let w15 := ws.getD 14 0
    let w16 := ws.getD 15 0
    let s0 := rotr 1 w15 ^^^ rotr 8 w15 ^^^ (w15 >>> 7)
    let s1 := rotr 19 w2 ^^^ rotr 61 w2 ^^^ (w2 >>> 6)
    shaGrow k ((s1 + w7 + s0 + w16) % mod64 :: ws)

/-- One round over the eight working words. -/
def shaRound (st : List Nat) (kw : Nat) : List Nat :=
  match st with
  | [a, b, c, d, e, f, g, h] =>
    let s1 := rotr 14 e ^^^ rotr 18 e ^^^ rotr 41 e
    let ch := (e &&& f) ^^^ ((mod64 - 1 - e) &&& g)
    let t1 := h + s1 + ch + kw
    let s0 := rotr 28 a ^^^ rotr 34 a ^^^ rotr 39 a
    let maj := (a &&& b) ^^^ (a &&& c) ^^^ (b &&& c)
    [(t1 + s0 + maj) % mod64, a, b, c, (d + t1) % mod64, e, f, g]
  | _ => st

/-- The 64-bit big-endian words of bytes. -/
def words64 : Nat → List Byte → List Nat
  | 0, _ => []
  | k + 1, bs => bytesNat (bs.take 8) :: words64 k (bs.drop 8)

/-- One block of 128 bytes. -/
def shaBlock (st : List Nat) (block : List Byte) : List Nat :=
  let ws := (shaGrow 64 (words64 16 block).reverse).reverse
  let out := (ws.zip shaK).foldl (fun s p => shaRound s (p.1 + p.2)) st
  (st.zip out).map fun p => (p.1 + p.2) % mod64

/-- The blocks of a padded message. -/
def shaBlocks : Nat → List Nat → List Byte → List Nat
  | 0, st, _ => st
  | k + 1, st, bs => shaBlocks k (shaBlock st (bs.take 128)) (bs.drop 128)

/-- SHA-512. -/
def sha512 (bs : List Byte) : List Byte :=
  let n := bs.length
  let zeros := (239 - n % 128) % 128
  let padded := bs ++ 0x80#8 :: (List.replicate zeros 0#8 ++ natBytes 16 (8 * n))
  (shaBlocks (padded.length / 128) shaH padded).flatMap (natBytes 8)

/-! The curve. -/

/-- The field prime 2^255 - 19. -/
def edP : Nat := 2 ^ 255 - 19

/-- The group order. -/
def edL : Nat := 2 ^ 252 + 27742317777372353535851937790883648493

/-- The curve constant d. -/
def edD : Nat := 0x52036CEE2B6FFE738CC740797779E89800700A4D4141D8AB75EB4DCA135978A3

/-- A power modulo the field prime, by the bits of the exponent. -/
def edPow : Nat → Nat → Nat → Nat
  | 0, _, _ => 1
  | k + 1, x, e =>
    let r := edPow k (x * x % edP) (e / 2)
    if e % 2 = 1 then r * x % edP else r

def edInv (x : Nat) : Nat := edPow 255 x (edP - 2)

/-- A point in extended coordinates (X, Y, Z, T). -/
abbrev EdPoint : Type := Nat × Nat × Nat × Nat

def edZero : EdPoint := (0, 1, 1, 0)

/-- The base point. -/
def edBase : EdPoint :=
  (0x216936D3CD6E53FEC0A4E231FDD6DC5C692CC7609525A7B2C9562D608F25D51A,
    0x6666666666666666666666666666666666666666666666666666666666666658, 1,
    0x67875F0FD78B766566EA4E8E64ABE37D20F09F80775152F56DDE8AB3A5B7DDA3)

def edSub (a b : Nat) : Nat := (a + edP - b % edP) % edP

/-- The sum of two points. -/
def edAdd (a b : EdPoint) : EdPoint :=
  let (x1, y1, z1, t1) := a
  let (x2, y2, z2, t2) := b
  let aa := edSub y1 x1 * edSub y2 x2 % edP
  let bb := (y1 + x1) * (y2 + x2) % edP
  let cc := 2 * t1 * t2 % edP * edD % edP
  let dd := 2 * z1 * z2 % edP
  let e := edSub bb aa
  let f := edSub dd cc
  let g := (dd + cc) % edP
  let h := (bb + aa) % edP
  (e * f % edP, g * h % edP, f * g % edP, e * h % edP)

/-- A multiple of a point, by the bits of the number. -/
def edMul : Nat → Nat → EdPoint → EdPoint
  | 0, _, _ => edZero
  | k + 1, n, pt =>
    let r := edMul k (n / 2) (edAdd pt pt)
    if n % 2 = 1 then edAdd r pt else r

/-- Two points are equal. -/
def edSame (a b : EdPoint) : Bool :=
  a.1 * b.2.2.1 % edP == b.1 * a.2.2.1 % edP && a.2.1 * b.2.2.1 % edP == b.2.1 * a.2.2.1 % edP

/-- A square root of u / v, when there is one. -/
def edRoot (u v : Nat) : Option Nat :=
  let q := u * edInv v % edP
  let r := edPow 255 q ((edP + 3) / 8)
  if r * r % edP = q then some r
  else
    let r2 := r * edPow 255 2 ((edP - 1) / 4) % edP
    if r2 * r2 % edP = q then some r2 else none

/-- Little-endian bytes as a number. -/
def bytesLe (bs : List Byte) : Nat := bytesNat bs.reverse

/-- A point from its 32 bytes. -/
def edDecode (bs : List Byte) : Option EdPoint :=
  let n := bytesLe bs
  let sign := n / 2 ^ 255
  let y := n % 2 ^ 255
  if edP ≤ y then none
  else
    match edRoot (edSub (y * y) 1) ((edD * (y * y % edP) + 1) % edP) with
    | none => none
    | some r =>
      if r = 0 ∧ sign = 1 then none
      else
        let x := if r % 2 = sign then r else edP - r
        some (x, y, 1, x * y % edP)

/-- The Ed25519 signature of 64 bytes verifies over a message under a public key of 32 bytes. -/
def edVerify (key sig msg : List Byte) : Bool :=
  let s := bytesLe (sig.drop 32)
  match edDecode key, edDecode (sig.take 32) with
  | some a, some r =>
    let k := bytesLe (sha512 (sig.take 32 ++ key ++ msg)) % edL
    decide (s < edL) && edSame (edMul 253 s edBase) (edAdd r (edMul 253 k a))
  | _, _ => false

end Sys2Proof.Machine
end

