-- ==== Sys2Proof/Config.lean ====
section
/-!
DEFINITION. Config.lean: the free values, which the spec leaves open. They have no body, so no proof can see a value.
-/

namespace Sys2Proof

/-- A fresh value that the spec does not fix, by the number of the draw; the machine's counter `free` advances at each
draw (log entry 2). -/
opaque Config.freeValue : Nat → BitVec 48

end Sys2Proof
end

