-- ==== Sys2Proof/Machine/Operands.lean ====
section
/-!
DEFINITION. Operands.lean: the fields of a 24-bit word, as the words that commands carry and the registers hold are divided
into fields (00_scope.md, reading conventions).
-/

namespace Sys2Proof.Machine

/-- The mask of `width` bits from bit `lsb` on. -/
def fieldMask (lsb width : Nat) : Word := BitVec.ofNat 24 (2 ^ width - 1) <<< lsb

/-- The value of the bits [lsb + width - 1 : lsb] of a word. -/
def wGet (w : Word) (lsb width : Nat) : Nat := (w.toNat >>> lsb) % 2 ^ width

/-- A word with the bits [lsb + width - 1 : lsb] replaced by v mod 2^width. -/
def wSet (w : Word) (lsb width v : Nat) : Word :=
  (w &&& ~~~ fieldMask lsb width) ||| (BitVec.ofNat 24 (v % 2 ^ width) <<< lsb)

/-- A word built from parts, each a value at a bit position. -/
def pack (parts : List (Nat × Nat)) : Word := word (parts.foldl (fun acc p => acc + p.1 * 2 ^ p.2) 0)

/-- The signed value of a word. -/
def wInt (w : Word) : Int := w.toInt

/-- An integer held within a symmetric bound. -/
def satInt (bound : Nat) (i : Int) : Int :=
  if i > (bound : Int) then bound else if i < -(bound : Int) then -(bound : Int) else i

/-- A Bool as a bit. -/
def bit (b : Bool) : Nat := if b then 1 else 0

end Sys2Proof.Machine
end

