-- ==== Sys2Proof/Machine/Cells.lean ====
section
/-!
DEFINITION. Cells.lean: a sparse memory in one canonical form, used for the register file, the sixteen memory banks,
the NVM bytes and the pattern memory. An entry is an (address, value) pair; the addresses rise strictly, and no entry
equals what an unlisted address reads as, so equal memories are equal lists.
-/

namespace Sys2Proof.Machine

/-- A sparse memory of n-bit cells, in the order of the addresses. -/
abbrev Cells (n : Nat) := List (Nat × BitVec n)

/-- The value an address reads as: its entry, or the default of an address that is not listed. -/
def cellsGet {n : Nat} (dflt : Nat → BitVec n) : Cells n → Nat → BitVec n
  | [], k => dflt k
  | (a, v) :: rest, k => if a = k then v else cellsGet dflt rest k

/-- The memory without the entry of address k. -/
def cellsErase {n : Nat} (m : Cells n) (k : Nat) : Cells n :=
  m.filter fun p => p.1 != k

/-- An entry put at its place in the order of the addresses. -/
def cellsInsert {n : Nat} (k : Nat) (v : BitVec n) : Cells n → Cells n
  | [] => [(k, v)]
  | (a, w) :: rest => if k < a then (k, v) :: (a, w) :: rest else (a, w) :: cellsInsert k v rest

/-- A write that keeps the canonical form: writing the default removes the entry. -/
def cellsSet {n : Nat} (dflt : Nat → BitVec n) (m : Cells n) (k : Nat) (v : BitVec n) : Cells n :=
  if v = dflt k then cellsErase m k else cellsInsert k v (cellsErase m k)

/-- The addresses rise strictly from a bound on. -/
def cellsSorted {n : Nat} : Nat → Cells n → Bool
  | _, [] => true
  | lo, (a, _) :: rest => decide (lo ≤ a) && cellsSorted (a + 1) rest

/-- The canonical form: addresses rise strictly and no entry holds its default. -/
def cellsWf {n : Nat} (dflt : Nat → BitVec n) (m : Cells n) : Bool :=
  cellsSorted 0 m && m.all fun p => p.2 != dflt p.1

/-- Consecutive writes of a list of values from address k on. -/
def cellsFill {n : Nat} (dflt : Nat → BitVec n) (m : Cells n) (k : Nat) : List (BitVec n) → Cells n
  | [] => m
  | v :: rest => cellsFill dflt (cellsSet dflt m k v) (k + 1) rest

/-- The values of `count` consecutive addresses from k on. -/
def cellsRead {n : Nat} (dflt : Nat → BitVec n) (m : Cells n) (k count : Nat) : List (BitVec n) :=
  (List.range count).map fun i => cellsGet dflt m (k + i)

end Sys2Proof.Machine
end

