-- ==== Sys2Proof/Machine/Regs.lean ====
section
/-!
DEFINITION. Regs.lean: the register directory of spec/26_register_directory.md (R925 to R930) and the fields of the
registers, from the Registers section of each block's chapter (R61, R93, R126, R161, R201, R244, R294, R331, R380,
R417, R457, R499, R539, R586, R645, R646, R676, R705, R745, R786, R822, R856, R889).
A field is named REGISTER_FIELD; the field of an indexed register takes the index.
-/

namespace Sys2Proof.Machine

/-- A field of a register: its word address, its lowest bit and its width. -/
structure Fld where
  addr : Nat
  lsb : Nat
  width : Nat
  deriving DecidableEq, Repr

/-- One row of the directory: entry i (below count) lies at base + stride * i and resets to reset + resetStep * i; the
masks give the bits of the row's RW, W1C, RC, WO and RO fields (00_scope.md, access codes). -/
structure RegRow where
  base : Nat
  stride : Nat
  count : Nat
  reset : Nat
  resetStep : Nat
  rw : Nat
  w1c : Nat
  rc : Nat
  wo : Nat
  ro : Nat
  deriving DecidableEq, Repr

/-! SYS registers and fields. -/

/-- Word address of SYS_PARTID. -/
abbrev SYS_PARTID : Nat := 0x0000
abbrev SYS_PARTID_ID : Fld := ⟨SYS_PARTID, 0, 24⟩
/-- Word address of SYS_REV. -/
abbrev SYS_REV : Nat := 0x0001
abbrev SYS_REV_GRADE : Fld := ⟨SYS_REV, 16, 1⟩
abbrev SYS_REV_LETTER : Fld := ⟨SYS_REV, 8, 8⟩
abbrev SYS_REV_DIGIT : Fld := ⟨SYS_REV, 0, 8⟩
/-- Word address of SYS_WRIGN. -/
abbrev SYS_WRIGN : Nat := 0x0002
abbrev SYS_WRIGN_COUNT : Fld := ⟨SYS_WRIGN, 0, 24⟩
/-- Word address of SYS_RSTCAUSE. -/
abbrev SYS_RSTCAUSE : Nat := 0x0003
abbrev SYS_RSTCAUSE_LAST : Fld := ⟨SYS_RSTCAUSE, 16, 4⟩
abbrev SYS_RSTCAUSE_WDRECENT : Fld := ⟨SYS_RSTCAUSE, 13, 3⟩
abbrev SYS_RSTCAUSE_STICKY : Fld := ⟨SYS_RSTCAUSE, 0, 8⟩
/-- Word address of SYS_STRAP. -/
abbrev SYS_STRAP : Nat := 0x0004
abbrev SYS_STRAP_SVC_UNST : Fld := ⟨SYS_STRAP, 9, 1⟩
abbrev SYS_STRAP_BOOT_UNST : Fld := ⟨SYS_STRAP, 8, 1⟩
abbrev SYS_STRAP_ROLE_UNST : Fld := ⟨SYS_STRAP, 7, 1⟩
abbrev SYS_STRAP_ATTEMPTS : Fld := ⟨SYS_STRAP, 4, 3⟩
abbrev SYS_STRAP_SVCEN : Fld := ⟨SYS_STRAP, 3, 1⟩
abbrev SYS_STRAP_BOOTSRC : Fld := ⟨SYS_STRAP, 2, 1⟩
abbrev SYS_STRAP_ROLE : Fld := ⟨SYS_STRAP, 0, 2⟩
/-- Word address of SYS_RSTCNT. -/
abbrev SYS_RSTCNT : Nat := 0x0005
abbrev SYS_RSTCNT_WDTOTAL : Fld := ⟨SYS_RSTCNT, 16, 8⟩
abbrev SYS_RSTCNT_RESETS : Fld := ⟨SYS_RSTCNT, 0, 16⟩
/-- Word address of SYS_SUPPLY. -/
abbrev SYS_SUPPLY : Nat := 0x0006
abbrev SYS_SUPPLY_WARNS : Fld := ⟨SYS_SUPPLY, 16, 8⟩
abbrev SYS_SUPPLY_VDDIO_LOSS : Fld := ⟨SYS_SUPPLY, 5, 1⟩
abbrev SYS_SUPPLY_WARN_SEEN : Fld := ⟨SYS_SUPPLY, 4, 1⟩
abbrev SYS_SUPPLY_VCORE_OK : Fld := ⟨SYS_SUPPLY, 3, 1⟩
abbrev SYS_SUPPLY_VDDIO_OK : Fld := ⟨SYS_SUPPLY, 2, 1⟩
abbrev SYS_SUPPLY_VDD_WARN : Fld := ⟨SYS_SUPPLY, 1, 1⟩
abbrev SYS_SUPPLY_VDDA_OK : Fld := ⟨SYS_SUPPLY, 0, 1⟩
/-- Word address of SYS_CLK. -/
abbrev SYS_CLK : Nat := 0x0007
abbrev SYS_CLK_LOCK_FAIL : Fld := ⟨SYS_CLK, 7, 1⟩
abbrev SYS_CLK_XTAL_FAIL : Fld := ⟨SYS_CLK, 6, 1⟩
abbrev SYS_CLK_LOCKREF : Fld := ⟨SYS_CLK, 3, 3⟩
abbrev SYS_CLK_LOCKED : Fld := ⟨SYS_CLK, 2, 1⟩
abbrev SYS_CLK_FOSC_ON : Fld := ⟨SYS_CLK, 1, 1⟩
abbrev SYS_CLK_SRC32 : Fld := ⟨SYS_CLK, 0, 1⟩
/-- Word address of SYS_CTRL. -/
abbrev SYS_CTRL : Nat := 0x0008
abbrev SYS_CTRL_KEY : Fld := ⟨SYS_CTRL, 16, 8⟩
abbrev SYS_CTRL_SWRST : Fld := ⟨SYS_CTRL, 0, 1⟩
/-- Word address of SYS_BOOT. -/
abbrev SYS_BOOT : Nat := 0x0010
abbrev SYS_BOOT_LINK_RESULT : Fld := ⟨SYS_BOOT, 16, 4⟩
abbrev SYS_BOOT_B_RESULT : Fld := ⟨SYS_BOOT, 12, 4⟩
abbrev SYS_BOOT_A_RESULT : Fld := ⟨SYS_BOOT, 8, 4⟩
abbrev SYS_BOOT_CLAMPED : Fld := ⟨SYS_BOOT, 7, 1⟩
abbrev SYS_BOOT_BOOTSRC_IGN : Fld := ⟨SYS_BOOT, 6, 1⟩
abbrev SYS_BOOT_LINKFALL : Fld := ⟨SYS_BOOT, 5, 1⟩
abbrev SYS_BOOT_FALLBACK : Fld := ⟨SYS_BOOT, 4, 1⟩
abbrev SYS_BOOT_KEYFUSED : Fld := ⟨SYS_BOOT, 3, 1⟩
abbrev SYS_BOOT_SIGNED : Fld := ⟨SYS_BOOT, 2, 1⟩
abbrev SYS_BOOT_LOADED : Fld := ⟨SYS_BOOT, 0, 2⟩
/-- Word address of SYS_IMGSEQ. -/
abbrev SYS_IMGSEQ : Nat := 0x0011
abbrev SYS_IMGSEQ_SEQ : Fld := ⟨SYS_IMGSEQ, 0, 24⟩
/-- Word address of SYS_IMGLEN. -/
abbrev SYS_IMGLEN : Nat := 0x0012
abbrev SYS_IMGLEN_LENGTH : Fld := ⟨SYS_IMGLEN, 0, 17⟩
/-- Word address of SYS_IMGERR. -/
abbrev SYS_IMGERR : Nat := 0x0013
abbrev SYS_IMGERR_CLAMPS : Fld := ⟨SYS_IMGERR, 16, 8⟩
abbrev SYS_IMGERR_SKIPPED : Fld := ⟨SYS_IMGERR, 8, 8⟩
abbrev SYS_IMGERR_REJECT_ID : Fld := ⟨SYS_IMGERR, 0, 8⟩
/-- Word address of SYS_FUSE. -/
abbrev SYS_FUSE : Nat := 0x0014
abbrev SYS_FUSE_KEY_FUSED : Fld := ⟨SYS_FUSE, 1, 1⟩
abbrev SYS_FUSE_FUSE_OK : Fld := ⟨SYS_FUSE, 0, 1⟩
/-- Word address of SYS_NVP_CMD. -/
abbrev SYS_NVP_CMD : Nat := 0x0020
abbrev SYS_NVP_CMD_KEY : Fld := ⟨SYS_NVP_CMD, 16, 8⟩
abbrev SYS_NVP_CMD_OP : Fld := ⟨SYS_NVP_CMD, 0, 4⟩
/-- Word address of SYS_NVP_ADDR. -/
abbrev SYS_NVP_ADDR : Nat := 0x0021
abbrev SYS_NVP_ADDR_ADDR : Fld := ⟨SYS_NVP_ADDR, 0, 18⟩
/-- Word address of SYS_NVP_LEN. -/
abbrev SYS_NVP_LEN : Nat := 0x0022
abbrev SYS_NVP_LEN_LEN : Fld := ⟨SYS_NVP_LEN, 0, 13⟩
/-- Word address of SYS_NVP_BUF. -/
abbrev SYS_NVP_BUF : Nat := 0x0023
abbrev SYS_NVP_BUF_BUF : Fld := ⟨SYS_NVP_BUF, 0, 14⟩
/-- Word address of SYS_NVP_STAT. -/
abbrev SYS_NVP_STAT : Nat := 0x0024
abbrev SYS_NVP_STAT_BYTES : Fld := ⟨SYS_NVP_STAT, 11, 13⟩
abbrev SYS_NVP_STAT_RESULT : Fld := ⟨SYS_NVP_STAT, 4, 4⟩
abbrev SYS_NVP_STAT_BUSY : Fld := ⟨SYS_NVP_STAT, 0, 1⟩
/-- Word address of SYS_NVP_VRES. -/
abbrev SYS_NVP_VRES : Nat := 0x0025
abbrev SYS_NVP_VRES_CODE : Fld := ⟨SYS_NVP_VRES, 0, 4⟩
/-- Word address of SYS_NVP_VSEQ. -/
abbrev SYS_NVP_VSEQ : Nat := 0x0026
abbrev SYS_NVP_VSEQ_SEQ : Fld := ⟨SYS_NVP_VSEQ, 0, 24⟩

/-! PWR registers and fields. -/

/-- Word address of PWR_STAT. -/
abbrev PWR_STAT : Nat := 0x0100
abbrev PWR_STAT_LASTREASON : Fld := ⟨PWR_STAT, 16, 4⟩
abbrev PWR_STAT_HOLD : Fld := ⟨PWR_STAT, 15, 1⟩
abbrev PWR_STAT_PENDING : Fld := ⟨PWR_STAT, 14, 1⟩
abbrev PWR_STAT_TARGET : Fld := ⟨PWR_STAT, 11, 3⟩
abbrev PWR_STAT_SAFE_CAUSE : Fld := ⟨PWR_STAT, 8, 3⟩
abbrev PWR_STAT_RETAINED : Fld := ⟨PWR_STAT, 7, 1⟩
abbrev PWR_STAT_RET_FAIL : Fld := ⟨PWR_STAT, 6, 1⟩
abbrev PWR_STAT_PREV : Fld := ⟨PWR_STAT, 3, 3⟩
abbrev PWR_STAT_MODE : Fld := ⟨PWR_STAT, 0, 3⟩
/-- Word address of PWR_CMD. -/
abbrev PWR_CMD : Nat := 0x0101
abbrev PWR_CMD_HOLDOP : Fld := ⟨PWR_CMD, 8, 2⟩
abbrev PWR_CMD_GO : Fld := ⟨PWR_CMD, 4, 1⟩
abbrev PWR_CMD_MODE : Fld := ⟨PWR_CMD, 0, 3⟩
/-- Word address of PWR_WAKEEN. -/
abbrev PWR_WAKEEN : Nat := 0x0102
abbrev PWR_WAKEEN_EN : Fld := ⟨PWR_WAKEEN, 0, 7⟩
/-- Word address of PWR_WAKESRC. -/
abbrev PWR_WAKESRC : Nat := 0x0103
abbrev PWR_WAKESRC_GESTURE : Fld := ⟨PWR_WAKESRC, 16, 4⟩
abbrev PWR_WAKESRC_SEEN : Fld := ⟨PWR_WAKESRC, 8, 7⟩
abbrev PWR_WAKESRC_PRIMARY : Fld := ⟨PWR_WAKESRC, 4, 3⟩
abbrev PWR_WAKESRC_FROMHIB : Fld := ⟨PWR_WAKESRC, 0, 1⟩
/-- Word address of PWR_WAKECNT. -/
abbrev PWR_WAKECNT : Nat := 0x0104
abbrev PWR_WAKECNT_STORMOFF : Fld := ⟨PWR_WAKECNT, 16, 7⟩
abbrev PWR_WAKECNT_WAKES : Fld := ⟨PWR_WAKECNT, 0, 16⟩
/-- Word address of PWR_HOST. -/
abbrev PWR_HOST : Nat := 0x0105
abbrev PWR_HOST_HWTO : Fld := ⟨PWR_HOST, 16, 8⟩
abbrev PWR_HOST_HWPIN : Fld := ⟨PWR_HOST, 2, 1⟩
abbrev PWR_HOST_ACK : Fld := ⟨PWR_HOST, 1, 1⟩
abbrev PWR_HOST_ASLEEP : Fld := ⟨PWR_HOST, 0, 1⟩
/-- Word address of PWR_IDLETMR. -/
abbrev PWR_IDLETMR : Nat := 0x0106
abbrev PWR_IDLETMR_NOCONTACT : Fld := ⟨PWR_IDLETMR, 0, 12⟩
/-- Word address of PWR_HIBDROP. -/
abbrev PWR_HIBDROP : Nat := 0x0107
abbrev PWR_HIBDROP_DROPPED : Fld := ⟨PWR_HIBDROP, 0, 11⟩

/-! TIME registers and fields. -/

/-- Word address of TIME_FRAC. -/
abbrev TIME_FRAC : Nat := 0x0200
abbrev TIME_FRAC_F : Fld := ⟨TIME_FRAC, 0, 24⟩
/-- Word address of TIME_SECL. -/
abbrev TIME_SECL : Nat := 0x0201
abbrev TIME_SECL_S : Fld := ⟨TIME_SECL, 0, 24⟩
/-- Word address of TIME_SECH. -/
abbrev TIME_SECH : Nat := 0x0202
abbrev TIME_SECH_S : Fld := ⟨TIME_SECH, 0, 24⟩
/-- Word address of TIME_EPOCH. -/
abbrev TIME_EPOCH : Nat := 0x0203
abbrev TIME_EPOCH_EPOCH : Fld := ⟨TIME_EPOCH, 0, 6⟩
/-- Word address of TIME_FRAME. -/
abbrev TIME_FRAME : Nat := 0x0204
abbrev TIME_FRAME_FRAME : Fld := ⟨TIME_FRAME, 0, 24⟩
/-- Word address of TIME_SET_FRAC. -/
abbrev TIME_SET_FRAC : Nat := 0x0208
abbrev TIME_SET_FRAC_F : Fld := ⟨TIME_SET_FRAC, 9, 15⟩
/-- Word address of TIME_SET_SECL. -/
abbrev TIME_SET_SECL : Nat := 0x0209
abbrev TIME_SET_SECL_S : Fld := ⟨TIME_SET_SECL, 0, 24⟩
/-- Word address of TIME_SET_SECH. -/
abbrev TIME_SET_SECH : Nat := 0x020A
abbrev TIME_SET_SECH_S : Fld := ⟨TIME_SET_SECH, 0, 24⟩
/-- Word address of TIME_SET_OFS. -/
abbrev TIME_SET_OFS : Nat := 0x020B
abbrev TIME_SET_OFS_OFS : Fld := ⟨TIME_SET_OFS, 0, 24⟩
/-- Word address of TIME_CMD. -/
abbrev TIME_CMD : Nat := 0x020C
abbrev TIME_CMD_CMD : Fld := ⟨TIME_CMD, 0, 4⟩
/-- Word address of TIME_STAT. -/
abbrev TIME_STAT : Nat := 0x0210
abbrev TIME_STAT_FASTINT : Fld := ⟨TIME_STAT, 5, 1⟩
abbrev TIME_STAT_UNANN : Fld := ⟨TIME_STAT, 4, 1⟩
abbrev TIME_STAT_LOCKED : Fld := ⟨TIME_STAT, 3, 1⟩
abbrev TIME_STAT_SLEWING : Fld := ⟨TIME_STAT, 2, 1⟩
abbrev TIME_STAT_LOADPEND : Fld := ⟨TIME_STAT, 1, 1⟩
abbrev TIME_STAT_SRC : Fld := ⟨TIME_STAT, 0, 1⟩
/-- Word address of TIME_OFS. -/
abbrev TIME_OFS : Nat := 0x0211
abbrev TIME_OFS_OFS : Fld := ⟨TIME_OFS, 0, 24⟩
/-- Word address of TIME_SLEWREM. -/
abbrev TIME_SLEWREM : Nat := 0x0212
abbrev TIME_SLEWREM_REM : Fld := ⟨TIME_SLEWREM, 0, 24⟩
/-- Word address of TIME_STEPCNT. -/
abbrev TIME_STEPCNT : Nat := 0x0213
abbrev TIME_STEPCNT_STEPS : Fld := ⟨TIME_STEPCNT, 0, 24⟩
/-- Word address of TIME_CNT. -/
abbrev TIME_CNT : Nat := 0x0214
abbrev TIME_CNT_OUTLIER : Fld := ⟨TIME_CNT, 16, 8⟩
abbrev TIME_CNT_MISSED : Fld := ⟨TIME_CNT, 8, 8⟩
abbrev TIME_CNT_REFUSED : Fld := ⟨TIME_CNT, 0, 8⟩
/-- Word address of TIME_ALM_FRAC. -/
abbrev TIME_ALM_FRAC : Nat := 0x0218
abbrev TIME_ALM_FRAC_F : Fld := ⟨TIME_ALM_FRAC, 9, 15⟩
/-- Word address of TIME_ALM_SECL. -/
abbrev TIME_ALM_SECL : Nat := 0x0219
abbrev TIME_ALM_SECL_S : Fld := ⟨TIME_ALM_SECL, 0, 24⟩
/-- Word address of TIME_ALM_SECH. -/
abbrev TIME_ALM_SECH : Nat := 0x021A
abbrev TIME_ALM_SECH_S : Fld := ⟨TIME_ALM_SECH, 0, 24⟩
/-- Word address of TIME_ALM_CTRL. -/
abbrev TIME_ALM_CTRL : Nat := 0x021B
abbrev TIME_ALM_CTRL_LATE : Fld := ⟨TIME_ALM_CTRL, 2, 1⟩
abbrev TIME_ALM_CTRL_FIRED : Fld := ⟨TIME_ALM_CTRL, 1, 1⟩
abbrev TIME_ALM_CTRL_ARM : Fld := ⟨TIME_ALM_CTRL, 0, 1⟩

/-! EVR registers and fields. -/

/-- Word address of EVR_CNT. -/
abbrev EVR_CNT : Nat := 0x0300
abbrev EVR_CNT_BADDOOR : Fld := ⟨EVR_CNT, 16, 8⟩
abbrev EVR_CNT_DOORS : Fld := ⟨EVR_CNT, 0, 16⟩
/-- Word address of EVR_SSEL. -/
abbrev EVR_SSEL : Nat := 0x0310
abbrev EVR_SSEL_SRC : Fld := ⟨EVR_SSEL, 0, 9⟩
/-- Word address of EVR_SCFG. -/
abbrev EVR_SCFG : Nat := 0x0311
abbrev EVR_SCFG_FIXED : Fld := ⟨EVR_SCFG, 19, 1⟩
abbrev EVR_SCFG_CORE : Fld := ⟨EVR_SCFG, 18, 1⟩
abbrev EVR_SCFG_MASK1 : Fld := ⟨EVR_SCFG, 17, 1⟩
abbrev EVR_SCFG_MASK0 : Fld := ⟨EVR_SCFG, 16, 1⟩
abbrev EVR_SCFG_WAKE : Fld := ⟨EVR_SCFG, 15, 1⟩
abbrev EVR_SCFG_H1 : Fld := ⟨EVR_SCFG, 14, 1⟩
abbrev EVR_SCFG_H0 : Fld := ⟨EVR_SCFG, 13, 1⟩
abbrev EVR_SCFG_MOD : Fld := ⟨EVR_SCFG, 4, 8⟩
abbrev EVR_SCFG_PRI : Fld := ⟨EVR_SCFG, 0, 4⟩
/-- Word address of EVR_SSTAT. -/
abbrev EVR_SSTAT : Nat := 0x0312
abbrev EVR_SSTAT_ACT1 : Fld := ⟨EVR_SSTAT, 23, 1⟩
abbrev EVR_SSTAT_ACT0 : Fld := ⟨EVR_SSTAT, 22, 1⟩
abbrev EVR_SSTAT_PEND1 : Fld := ⟨EVR_SSTAT, 12, 10⟩
abbrev EVR_SSTAT_PEND0 : Fld := ⟨EVR_SSTAT, 2, 10⟩
/-- Word address of EVR_HDOOR_W1. -/
abbrev EVR_HDOOR_W1 : Nat := 0x0314
abbrev EVR_HDOOR_W1_W1 : Fld := ⟨EVR_HDOOR_W1, 0, 24⟩
/-- Word address of EVR_HDOOR_W2. -/
abbrev EVR_HDOOR_W2 : Nat := 0x0315
abbrev EVR_HDOOR_W2_W2 : Fld := ⟨EVR_HDOOR_W2, 0, 24⟩
/-- Word address of EVR_HDOOR. -/
abbrev EVR_HDOOR : Nat := 0x0316
abbrev EVR_HDOOR_SRC : Fld := ⟨EVR_HDOOR, 0, 9⟩
/-- Word address of EVR_H0_STAT. -/
abbrev EVR_H0_STAT : Nat := 0x0320
abbrev EVR_H0_STAT_FROZEN : Fld := ⟨EVR_H0_STAT, 23, 1⟩
abbrev EVR_H0_STAT_EPISODE : Fld := ⟨EVR_H0_STAT, 22, 1⟩
abbrev EVR_H0_STAT_LOW : Fld := ⟨EVR_H0_STAT, 21, 1⟩
abbrev EVR_H0_STAT_LEVEL : Fld := ⟨EVR_H0_STAT, 17, 4⟩
abbrev EVR_H0_STAT_DEPTH : Fld := ⟨EVR_H0_STAT, 13, 4⟩
abbrev EVR_H0_STAT_FREE : Fld := ⟨EVR_H0_STAT, 0, 11⟩
/-- Word address of EVR_H1_STAT. -/
abbrev EVR_H1_STAT : Nat := 0x0340
abbrev EVR_H1_STAT_FROZEN : Fld := ⟨EVR_H1_STAT, 23, 1⟩
abbrev EVR_H1_STAT_EPISODE : Fld := ⟨EVR_H1_STAT, 22, 1⟩
abbrev EVR_H1_STAT_LOW : Fld := ⟨EVR_H1_STAT, 21, 1⟩
abbrev EVR_H1_STAT_LEVEL : Fld := ⟨EVR_H1_STAT, 17, 4⟩
abbrev EVR_H1_STAT_DEPTH : Fld := ⟨EVR_H1_STAT, 13, 4⟩
abbrev EVR_H1_STAT_FREE : Fld := ⟨EVR_H1_STAT, 0, 11⟩
/-- Word address of EVR_H0_WR. -/
abbrev EVR_H0_WR : Nat := 0x0321
abbrev EVR_H0_WR_WR : Fld := ⟨EVR_H0_WR, 0, 11⟩
/-- Word address of EVR_H1_WR. -/
abbrev EVR_H1_WR : Nat := 0x0341
abbrev EVR_H1_WR_WR : Fld := ⟨EVR_H1_WR, 0, 11⟩
/-- Word address of EVR_H0_RD. -/
abbrev EVR_H0_RD : Nat := 0x0322
abbrev EVR_H0_RD_RD : Fld := ⟨EVR_H0_RD, 0, 11⟩
/-- Word address of EVR_H1_RD. -/
abbrev EVR_H1_RD : Nat := 0x0342
abbrev EVR_H1_RD_RD : Fld := ⟨EVR_H1_RD, 0, 11⟩
/-- Word address of EVR_H0_TAKE. -/
abbrev EVR_H0_TAKE : Nat := 0x0323
abbrev EVR_H0_TAKE_W0 : Fld := ⟨EVR_H0_TAKE, 0, 24⟩
/-- Word address of EVR_H1_TAKE. -/
abbrev EVR_H1_TAKE : Nat := 0x0343
abbrev EVR_H1_TAKE_W0 : Fld := ⟨EVR_H1_TAKE, 0, 24⟩
/-- Word address of EVR_H0_DONE. -/
abbrev EVR_H0_DONE : Nat := 0x0324
abbrev EVR_H0_DONE_SRC : Fld := ⟨EVR_H0_DONE, 0, 9⟩
/-- Word address of EVR_H1_DONE. -/
abbrev EVR_H1_DONE : Nat := 0x0344
abbrev EVR_H1_DONE_SRC : Fld := ⟨EVR_H1_DONE, 0, 9⟩
/-- Word address of EVR_H0_STACKRST. -/
abbrev EVR_H0_STACKRST : Nat := 0x0325
abbrev EVR_H0_STACKRST_RST : Fld := ⟨EVR_H0_STACKRST, 0, 1⟩
/-- Word address of EVR_H1_STACKRST. -/
abbrev EVR_H1_STACKRST : Nat := 0x0345
abbrev EVR_H1_STACKRST_RST : Fld := ⟨EVR_H1_STACKRST, 0, 1⟩
/-- Word address of EVR_H0_GDIS. -/
abbrev EVR_H0_GDIS : Nat := 0x0326
abbrev EVR_H0_GDIS_GDIS : Fld := ⟨EVR_H0_GDIS, 0, 1⟩
/-- Word address of EVR_H1_GDIS. -/
abbrev EVR_H1_GDIS : Nat := 0x0346
abbrev EVR_H1_GDIS_GDIS : Fld := ⟨EVR_H1_GDIS, 0, 1⟩
/-- Word address of EVR_H0_DISC. -/
abbrev EVR_H0_DISC : Nat := 0x0327
abbrev EVR_H0_DISC_COUNT : Fld := ⟨EVR_H0_DISC, 0, 24⟩
/-- Word address of EVR_H1_DISC. -/
abbrev EVR_H1_DISC : Nat := 0x0347
abbrev EVR_H1_DISC_COUNT : Fld := ⟨EVR_H1_DISC, 0, 24⟩
/-- Word address of EVR_H0_PEND. -/
abbrev EVR_H0_PEND : Nat := 0x0328
abbrev EVR_H0_PEND_COUNT : Fld := ⟨EVR_H0_PEND, 0, 11⟩
/-- Word address of EVR_H1_PEND. -/
abbrev EVR_H1_PEND : Nat := 0x0348
abbrev EVR_H1_PEND_COUNT : Fld := ⟨EVR_H1_PEND, 0, 11⟩
/-- Word address of EVR_H0_FAULT. -/
abbrev EVR_H0_FAULT : Nat := 0x0329
abbrev EVR_H0_FAULT_KIND : Fld := ⟨EVR_H0_FAULT, 20, 4⟩
abbrev EVR_H0_FAULT_PRI : Fld := ⟨EVR_H0_FAULT, 9, 4⟩
abbrev EVR_H0_FAULT_SRC : Fld := ⟨EVR_H0_FAULT, 0, 9⟩
/-- Word address of EVR_H1_FAULT. -/
abbrev EVR_H1_FAULT : Nat := 0x0349
abbrev EVR_H1_FAULT_KIND : Fld := ⟨EVR_H1_FAULT, 20, 4⟩
abbrev EVR_H1_FAULT_PRI : Fld := ⟨EVR_H1_FAULT, 9, 4⟩
abbrev EVR_H1_FAULT_SRC : Fld := ⟨EVR_H1_FAULT, 0, 9⟩
/-- Word address of EVR_H0_CNT. -/
abbrev EVR_H0_CNT : Nat := 0x032A
abbrev EVR_H0_CNT_ORDERS : Fld := ⟨EVR_H0_CNT, 16, 8⟩
abbrev EVR_H0_CNT_IGNORED : Fld := ⟨EVR_H0_CNT, 8, 8⟩
abbrev EVR_H0_CNT_BADPTR : Fld := ⟨EVR_H0_CNT, 0, 8⟩
/-- Word address of EVR_H1_CNT. -/
abbrev EVR_H1_CNT : Nat := 0x034A
abbrev EVR_H1_CNT_ORDERS : Fld := ⟨EVR_H1_CNT, 16, 8⟩
abbrev EVR_H1_CNT_IGNORED : Fld := ⟨EVR_H1_CNT, 8, 8⟩
abbrev EVR_H1_CNT_BADPTR : Fld := ⟨EVR_H1_CNT, 0, 8⟩
/-- Word address of EVR_H0_STK[i]. -/
abbrev EVR_H0_STK (i : Nat) : Nat := 0x0330 + i
abbrev EVR_H0_STK_PRI (i : Nat) : Fld := ⟨EVR_H0_STK i, 9, 4⟩
abbrev EVR_H0_STK_SRC (i : Nat) : Fld := ⟨EVR_H0_STK i, 0, 9⟩
/-- Word address of EVR_H1_STK[i]. -/
abbrev EVR_H1_STK (i : Nat) : Nat := 0x0350 + i
abbrev EVR_H1_STK_PRI (i : Nat) : Fld := ⟨EVR_H1_STK i, 9, 4⟩
abbrev EVR_H1_STK_SRC (i : Nat) : Fld := ⟨EVR_H1_STK i, 0, 9⟩
/-- Word address of EVR_C_STAT[n]. -/
abbrev EVR_C_STAT (i : Nat) : Nat := 0x0360 + i
abbrev EVR_C_STAT_ASLEEP (i : Nat) : Fld := ⟨EVR_C_STAT i, 23, 1⟩
abbrev EVR_C_STAT_RESTART (i : Nat) : Fld := ⟨EVR_C_STAT i, 22, 1⟩
abbrev EVR_C_STAT_LEVEL (i : Nat) : Fld := ⟨EVR_C_STAT i, 17, 4⟩
abbrev EVR_C_STAT_DEPTH (i : Nat) : Fld := ⟨EVR_C_STAT i, 13, 4⟩
abbrev EVR_C_STAT_DELIV (i : Nat) : Fld := ⟨EVR_C_STAT i, 0, 12⟩
/-- Word address of EVR_CORE. -/
abbrev EVR_CORE : Nat := 0x0364
abbrev EVR_CORE_DISC : Fld := ⟨EVR_CORE, 16, 8⟩
abbrev EVR_CORE_PEND : Fld := ⟨EVR_CORE, 6, 9⟩
abbrev EVR_CORE_LAST : Fld := ⟨EVR_CORE, 0, 2⟩

/-! CFG registers and fields. -/

/-- Word address of CFG_STAT. -/
abbrev CFG_STAT : Nat := 0x0400
abbrev CFG_STAT_PHASE : Fld := ⟨CFG_STAT, 21, 3⟩
abbrev CFG_STAT_CLASS : Fld := ⟨CFG_STAT, 19, 2⟩
abbrev CFG_STAT_MIXED : Fld := ⟨CFG_STAT, 18, 1⟩
abbrev CFG_STAT_RESULT : Fld := ⟨CFG_STAT, 14, 4⟩
/-- Word address of CFG_CMD. -/
abbrev CFG_CMD : Nat := 0x0401
abbrev CFG_CMD_KEY : Fld := ⟨CFG_CMD, 16, 8⟩
abbrev CFG_CMD_OP : Fld := ⟨CFG_CMD, 0, 4⟩
/-- Word address of CFG_NSTG. -/
abbrev CFG_NSTG : Nat := 0x0402
abbrev CFG_NSTG_N : Fld := ⟨CFG_NSTG, 0, 8⟩
/-- Word address of CFG_LEAD. -/
abbrev CFG_LEAD : Nat := 0x0403
abbrev CFG_LEAD_LEAD : Fld := ⟨CFG_LEAD, 0, 7⟩
/-- Word address of CFG_APPLY. -/
abbrev CFG_APPLY : Nat := 0x0404
abbrev CFG_APPLY_F : Fld := ⟨CFG_APPLY, 0, 24⟩
/-- Word address of CFG_EPOCH. -/
abbrev CFG_EPOCH : Nat := 0x0405
abbrev CFG_EPOCH_N : Fld := ⟨CFG_EPOCH, 0, 24⟩
/-- Word address of CFG_ERR. -/
abbrev CFG_ERR : Nat := 0x0406
abbrev CFG_ERR_CLAMPS : Fld := ⟨CFG_ERR, 16, 8⟩
abbrev CFG_ERR_REASON : Fld := ⟨CFG_ERR, 8, 4⟩
abbrev CFG_ERR_INDEX : Fld := ⟨CFG_ERR, 0, 8⟩
/-- Word address of CFG_CNT. -/
abbrev CFG_CNT : Nat := 0x0407
abbrev CFG_CNT_APPLIED : Fld := ⟨CFG_CNT, 16, 8⟩
abbrev CFG_CNT_ABORTED : Fld := ⟨CFG_CNT, 8, 8⟩
abbrev CFG_CNT_LATE : Fld := ⟨CFG_CNT, 0, 8⟩
/-- Word address of CFG_CNT2. -/
abbrev CFG_CNT2 : Nat := 0x0408
abbrev CFG_CNT2_RESETS : Fld := ⟨CFG_CNT2, 8, 8⟩
abbrev CFG_CNT2_COLDTO : Fld := ⟨CFG_CNT2, 0, 8⟩
/-- Word address of CFG_TILES. -/
abbrev CFG_TILES : Nat := 0x0409
abbrev CFG_TILES_READY : Fld := ⟨CFG_TILES, 11, 11⟩
abbrev CFG_TILES_PENDING : Fld := ⟨CFG_TILES, 0, 11⟩
/-- Word address of CFG_REFUSE. -/
abbrev CFG_REFUSE : Nat := 0x040A
abbrev CFG_REFUSE_X : Fld := ⟨CFG_REFUSE, 19, 5⟩
abbrev CFG_REFUSE_Y : Fld := ⟨CFG_REFUSE, 14, 5⟩
abbrev CFG_REFUSE_REASON : Fld := ⟨CFG_REFUSE, 0, 4⟩
/-- Word address of CFG_DELTA. -/
abbrev CFG_DELTA : Nat := 0x040B
abbrev CFG_DELTA_USED : Fld := ⟨CFG_DELTA, 0, 11⟩
/-- Word address of CFG_RDPID. -/
abbrev CFG_RDPID : Nat := 0x0410
abbrev CFG_RDPID_PID : Fld := ⟨CFG_RDPID, 0, 24⟩
/-- Word address of CFG_RDVAL. -/
abbrev CFG_RDVAL : Nat := 0x0411
abbrev CFG_RDVAL_VALUE : Fld := ⟨CFG_RDVAL, 0, 24⟩
/-- Word address of CFG_STG[w]. -/
abbrev CFG_STG (i : Nat) : Nat := 0x0500 + i
abbrev CFG_STG_WORD (i : Nat) : Fld := ⟨CFG_STG i, 0, 24⟩

/-! SCAN registers and fields. -/

/-- Word address of SCAN_STAT. -/
abbrev SCAN_STAT : Nat := 0x0600
abbrev SCAN_STAT_SLOT : Fld := ⟨SCAN_STAT, 13, 3⟩
abbrev SCAN_STAT_VTXST : Fld := ⟨SCAN_STAT, 11, 2⟩
abbrev SCAN_STAT_PHASE : Fld := ⟨SCAN_STAT, 8, 3⟩
abbrev SCAN_STAT_SPARES_FREE : Fld := ⟨SCAN_STAT, 4, 3⟩
abbrev SCAN_STAT_STATIC_BLOCK : Fld := ⟨SCAN_STAT, 3, 1⟩
abbrev SCAN_STAT_SVC_STOP : Fld := ⟨SCAN_STAT, 2, 1⟩
abbrev SCAN_STAT_RUN : Fld := ⟨SCAN_STAT, 0, 1⟩
/-- Word address of SCAN_CTRL. -/
abbrev SCAN_CTRL : Nat := 0x0601
abbrev SCAN_CTRL_FREEZE : Fld := ⟨SCAN_CTRL, 1, 1⟩
abbrev SCAN_CTRL_IQ : Fld := ⟨SCAN_CTRL, 0, 1⟩
/-- Word address of SCAN_TLISTEN. -/
abbrev SCAN_TLISTEN : Nat := 0x0602
abbrev SCAN_TLISTEN_CYC : Fld := ⟨SCAN_TLISTEN, 0, 24⟩
/-- Word address of SCAN_TMUTUAL. -/
abbrev SCAN_TMUTUAL : Nat := 0x0603
abbrev SCAN_TMUTUAL_CYC : Fld := ⟨SCAN_TMUTUAL, 0, 24⟩
/-- Word address of SCAN_TSELF. -/
abbrev SCAN_TSELF : Nat := 0x0604
abbrev SCAN_TSELF_CYC : Fld := ⟨SCAN_TSELF, 0, 24⟩
/-- Word address of SCAN_TPERIOD. -/
abbrev SCAN_TPERIOD : Nat := 0x0605
abbrev SCAN_TPERIOD_UNITS : Fld := ⟨SCAN_TPERIOD, 0, 24⟩
/-- Word address of SCAN_RATE. -/
abbrev SCAN_RATE : Nat := 0x0606
abbrev SCAN_RATE_HZ : Fld := ⟨SCAN_RATE, 0, 8⟩
/-- Word address of SCAN_FREQ[k]. -/
abbrev SCAN_FREQ (i : Nat) : Nat := 0x0608 + i
abbrev SCAN_FREQ_EN (i : Nat) : Fld := ⟨SCAN_FREQ i, 23, 1⟩
abbrev SCAN_FREQ_HDIV (i : Nat) : Fld := ⟨SCAN_FREQ i, 0, 9⟩
/-- Word address of SCAN_FALLOW. -/
abbrev SCAN_FALLOW : Nat := 0x0610
abbrev SCAN_FALLOW_MASK : Fld := ⟨SCAN_FALLOW, 0, 8⟩
/-- Word address of SCAN_FRAME. -/
abbrev SCAN_FRAME : Nat := 0x0611
abbrev SCAN_FRAME_LAST : Fld := ⟨SCAN_FRAME, 0, 24⟩
/-- Word address of SCAN_SPARE. -/
abbrev SCAN_SPARE : Nat := 0x0612
abbrev SCAN_SPARE_FAILED : Fld := ⟨SCAN_SPARE, 4, 4⟩
abbrev SCAN_SPARE_INUSE : Fld := ⟨SCAN_SPARE, 0, 4⟩
/-- Word address of SCAN_SENSOR. -/
abbrev SCAN_SENSOR : Nat := 0x0613
abbrev SCAN_SENSOR_G : Fld := ⟨SCAN_SENSOR, 16, 8⟩
abbrev SCAN_SENSOR_NRX : Fld := ⟨SCAN_SENSOR, 8, 8⟩
abbrev SCAN_SENSOR_NTX : Fld := ⟨SCAN_SENSOR, 0, 8⟩
/-- Word address of SCAN_CNT. -/
abbrev SCAN_CNT : Nat := 0x0614
abbrev SCAN_CNT_OVERRUN : Fld := ⟨SCAN_CNT, 16, 8⟩
abbrev SCAN_CNT_LIMIT : Fld := ⟨SCAN_CNT, 8, 8⟩
abbrev SCAN_CNT_OVERLOAD : Fld := ⟨SCAN_CNT, 0, 8⟩
/-- Word address of SCAN_ELFAULT[w]. -/
abbrev SCAN_ELFAULT (i : Nat) : Nat := 0x0618 + i
abbrev SCAN_ELFAULT_EL (i : Nat) : Fld := ⟨SCAN_ELFAULT i, 0, 24⟩
/-- Word address of SCAN_CHMAP[c]. -/
abbrev SCAN_CHMAP (i : Nat) : Nat := 0x0640 + i
abbrev SCAN_CHMAP_FAILED (i : Nat) : Fld := ⟨SCAN_CHMAP i, 23, 1⟩
abbrev SCAN_CHMAP_PHYS (i : Nat) : Fld := ⟨SCAN_CHMAP i, 16, 7⟩
abbrev SCAN_CHMAP_EL (i : Nat) : Fld := ⟨SCAN_CHMAP i, 0, 8⟩

/-! TRK registers and fields. -/

/-- Word address of TRK_STAT. -/
abbrev TRK_STAT : Nat := 0x0700
abbrev TRK_STAT_REDUCED : Fld := ⟨TRK_STAT, 17, 1⟩
abbrev TRK_STAT_BLSTATE : Fld := ⟨TRK_STAT, 15, 2⟩
abbrev TRK_STAT_SLOT_REQ : Fld := ⟨TRK_STAT, 12, 3⟩
abbrev TRK_STAT_REFRESH : Fld := ⟨TRK_STAT, 11, 1⟩
abbrev TRK_STAT_HELD : Fld := ⟨TRK_STAT, 10, 1⟩
abbrev TRK_STAT_NOISY : Fld := ⟨TRK_STAT, 9, 1⟩
abbrev TRK_STAT_PALM : Fld := ⟨TRK_STAT, 8, 1⟩
abbrev TRK_STAT_GLOVE : Fld := ⟨TRK_STAT, 7, 1⟩
abbrev TRK_STAT_WET : Fld := ⟨TRK_STAT, 6, 1⟩
abbrev TRK_STAT_LIVE : Fld := ⟨TRK_STAT, 0, 5⟩
/-- Word address of TRK_CTRL. -/
abbrev TRK_CTRL : Nat := 0x0701
abbrev TRK_CTRL_GLOVEOVR : Fld := ⟨TRK_CTRL, 3, 2⟩
abbrev TRK_CTRL_WETOVR : Fld := ⟨TRK_CTRL, 1, 2⟩
abbrev TRK_CTRL_BLRESET : Fld := ⟨TRK_CTRL, 0, 1⟩
/-- Word address of TRK_NOISE[k]. -/
abbrev TRK_NOISE (i : Nat) : Nat := 0x0708 + i
abbrev TRK_NOISE_N (i : Nat) : Fld := ⟨TRK_NOISE i, 0, 24⟩
/-- Word address of TRK_HOP. -/
abbrev TRK_HOP : Nat := 0x0710
abbrev TRK_HOP_REASON : Fld := ⟨TRK_HOP, 8, 4⟩
abbrev TRK_HOP_TO : Fld := ⟨TRK_HOP, 3, 3⟩
abbrev TRK_HOP_FROM : Fld := ⟨TRK_HOP, 0, 3⟩
/-- Word address of TRK_CNT. -/
abbrev TRK_CNT : Nat := 0x0711
abbrev TRK_CNT_HOPS : Fld := ⟨TRK_CNT, 16, 8⟩
abbrev TRK_CNT_REACQ : Fld := ⟨TRK_CNT, 8, 8⟩
abbrev TRK_CNT_CANCELS : Fld := ⟨TRK_CNT, 0, 8⟩
/-- Word address of TRK_LAT. -/
abbrev TRK_LAT : Nat := 0x0712
abbrev TRK_LAT_LATE : Fld := ⟨TRK_LAT, 16, 8⟩
abbrev TRK_LAT_MAX : Fld := ⟨TRK_LAT, 0, 16⟩
/-- Word address of TRK_LIMIT. -/
abbrev TRK_LIMIT : Nat := 0x0713
abbrev TRK_LIMIT_REFUSED : Fld := ⟨TRK_LIMIT, 0, 16⟩
/-- Word address of TRK_RPT_CTRL. -/
abbrev TRK_RPT_CTRL : Nat := 0x0720
abbrev TRK_RPT_CTRL_RESYNC : Fld := ⟨TRK_RPT_CTRL, 0, 1⟩
/-- Word address of TRK_RPT_STAT. -/
abbrev TRK_RPT_STAT : Nat := 0x0721
abbrev TRK_RPT_STAT_RSPEND : Fld := ⟨TRK_RPT_STAT, 13, 1⟩
abbrev TRK_RPT_STAT_MODE : Fld := ⟨TRK_RPT_STAT, 11, 2⟩
abbrev TRK_RPT_STAT_LIVE : Fld := ⟨TRK_RPT_STAT, 0, 11⟩
/-- Word address of TRK_RPT_CNT. -/
abbrev TRK_RPT_CNT : Nat := 0x0722
abbrev TRK_RPT_CNT_RESYNCS : Fld := ⟨TRK_RPT_CNT, 16, 8⟩
abbrev TRK_RPT_CNT_LOSSFR : Fld := ⟨TRK_RPT_CNT, 0, 16⟩
/-- Word address of TRK_CAP_CTRL. -/
abbrev TRK_CAP_CTRL : Nat := 0x0724
abbrev TRK_CAP_CTRL_EVERY : Fld := ⟨TRK_CAP_CTRL, 20, 4⟩
abbrev TRK_CAP_CTRL_COUNT : Fld := ⟨TRK_CAP_CTRL, 8, 8⟩
abbrev TRK_CAP_CTRL_PLANES : Fld := ⟨TRK_CAP_CTRL, 2, 5⟩
abbrev TRK_CAP_CTRL_STOP : Fld := ⟨TRK_CAP_CTRL, 1, 1⟩
abbrev TRK_CAP_CTRL_ARM : Fld := ⟨TRK_CAP_CTRL, 0, 1⟩
/-- Word address of TRK_CAP_DST. -/
abbrev TRK_CAP_DST : Nat := 0x0725
abbrev TRK_CAP_DST_WORD : Fld := ⟨TRK_CAP_DST, 0, 14⟩
/-- Word address of TRK_CAP_TILE. -/
abbrev TRK_CAP_TILE : Nat := 0x0726
abbrev TRK_CAP_TILE_X : Fld := ⟨TRK_CAP_TILE, 5, 5⟩
abbrev TRK_CAP_TILE_Y : Fld := ⟨TRK_CAP_TILE, 0, 5⟩
/-- Word address of TRK_CAP_STAT. -/
abbrev TRK_CAP_STAT : Nat := 0x0727
abbrev TRK_CAP_STAT_SKIPPED : Fld := ⟨TRK_CAP_STAT, 16, 8⟩
abbrev TRK_CAP_STAT_DONE : Fld := ⟨TRK_CAP_STAT, 8, 8⟩
abbrev TRK_CAP_STAT_NOQ : Fld := ⟨TRK_CAP_STAT, 4, 1⟩
abbrev TRK_CAP_STAT_RESULT : Fld := ⟨TRK_CAP_STAT, 1, 3⟩
abbrev TRK_CAP_STAT_BUSY : Fld := ⟨TRK_CAP_STAT, 0, 1⟩
/-- Word address of TRK_CAP_FRAME. -/
abbrev TRK_CAP_FRAME : Nat := 0x0728
abbrev TRK_CAP_FRAME_FRAME : Fld := ⟨TRK_CAP_FRAME, 0, 24⟩
/-- Word address of TRK_CAP_LEN. -/
abbrev TRK_CAP_LEN : Nat := 0x0729
abbrev TRK_CAP_LEN_LEN : Fld := ⟨TRK_CAP_LEN, 0, 14⟩

/-! RAIL registers and fields. -/

/-- Word address of RAIL_STAT. -/
abbrev RAIL_STAT : Nat := 0x0800
abbrev RAIL_STAT_VLEDST : Fld := ⟨RAIL_STAT, 21, 3⟩
abbrev RAIL_STAT_VTXSRC : Fld := ⟨RAIL_STAT, 19, 2⟩
abbrev RAIL_STAT_VTXSLEW : Fld := ⟨RAIL_STAT, 18, 1⟩
abbrev RAIL_STAT_FIXED : Fld := ⟨RAIL_STAT, 17, 1⟩
abbrev RAIL_STAT_DEGRADED : Fld := ⟨RAIL_STAT, 16, 1⟩
abbrev RAIL_STAT_VTXCLAMP : Fld := ⟨RAIL_STAT, 15, 1⟩
abbrev RAIL_STAT_ATTEMPT : Fld := ⟨RAIL_STAT, 12, 3⟩
abbrev RAIL_STAT_VTXFAULT : Fld := ⟨RAIL_STAT, 1, 1⟩
abbrev RAIL_STAT_OVERVOLT : Fld := ⟨RAIL_STAT, 0, 1⟩
/-- Word address of RAIL_CTRL. -/
abbrev RAIL_CTRL : Nat := 0x0801
abbrev RAIL_CTRL_KEY : Fld := ⟨RAIL_CTRL, 16, 8⟩
abbrev RAIL_CTRL_CLEARLATCH : Fld := ⟨RAIL_CTRL, 0, 1⟩
/-- Word address of RAIL_VLEDCMD. -/
abbrev RAIL_VLEDCMD : Nat := 0x0802
abbrev RAIL_VLEDCMD_TAG : Fld := ⟨RAIL_VLEDCMD, 16, 8⟩
abbrev RAIL_VLEDCMD_FIXED : Fld := ⟨RAIL_VLEDCMD, 15, 1⟩
abbrev RAIL_VLEDCMD_VALUE : Fld := ⟨RAIL_VLEDCMD, 0, 13⟩
/-- Word address of RAIL_VTXCMD. -/
abbrev RAIL_VTXCMD : Nat := 0x0803
abbrev RAIL_VTXCMD_TAG : Fld := ⟨RAIL_VTXCMD, 16, 8⟩
abbrev RAIL_VTXCMD_VALUE : Fld := ⟨RAIL_VTXCMD, 0, 11⟩
/-- Word address of RAIL_VLEDTGT. -/
abbrev RAIL_VLEDTGT : Nat := 0x0804
abbrev RAIL_VLEDTGT_V : Fld := ⟨RAIL_VLEDTGT, 0, 13⟩
/-- Word address of RAIL_VLEDREF. -/
abbrev RAIL_VLEDREF : Nat := 0x0805
abbrev RAIL_VLEDREF_V : Fld := ⟨RAIL_VLEDREF, 0, 13⟩
/-- Word address of RAIL_VTXTGT. -/
abbrev RAIL_VTXTGT : Nat := 0x0806
abbrev RAIL_VTXTGT_V : Fld := ⟨RAIL_VTXTGT, 0, 11⟩
/-- Word address of RAIL_VTXREF. -/
abbrev RAIL_VTXREF : Nat := 0x0807
abbrev RAIL_VTXREF_V : Fld := ⟨RAIL_VTXREF, 0, 11⟩
/-- Word address of RAIL_DEMAND. -/
abbrev RAIL_DEMAND : Nat := 0x0808
abbrev RAIL_DEMAND_V : Fld := ⟨RAIL_DEMAND, 0, 13⟩
/-- Word address of RAIL_SUPERSEDED. -/
abbrev RAIL_SUPERSEDED : Nat := 0x0809
abbrev RAIL_SUPERSEDED_VTX : Fld := ⟨RAIL_SUPERSEDED, 12, 12⟩
abbrev RAIL_SUPERSEDED_VLED : Fld := ⟨RAIL_SUPERSEDED, 0, 12⟩
/-- Word address of RAIL_CNT. -/
abbrev RAIL_CNT : Nat := 0x080A
abbrev RAIL_CNT_SHORTS : Fld := ⟨RAIL_CNT, 16, 8⟩
abbrev RAIL_CNT_VTXFAULTS : Fld := ⟨RAIL_CNT, 8, 8⟩
abbrev RAIL_CNT_CLAMPS : Fld := ⟨RAIL_CNT, 0, 8⟩
/-- Word address of RAIL_LASTTAG. -/
abbrev RAIL_LASTTAG : Nat := 0x080B
abbrev RAIL_LASTTAG_VTX : Fld := ⟨RAIL_LASTTAG, 8, 8⟩
abbrev RAIL_LASTTAG_VLED : Fld := ⟨RAIL_LASTTAG, 0, 8⟩

/-! LAMP registers and fields. -/

/-- Word address of LAMP_STAT. -/
abbrev LAMP_STAT : Nat := 0x0900
abbrev LAMP_STAT_CHAIN_OK : Fld := ⟨LAMP_STAT, 23, 1⟩
abbrev LAMP_STAT_SUPPRESS : Fld := ⟨LAMP_STAT, 22, 1⟩
abbrev LAMP_STAT_FADING : Fld := ⟨LAMP_STAT, 21, 1⟩
abbrev LAMP_STAT_LIT : Fld := ⟨LAMP_STAT, 0, 10⟩
/-- Word address of LAMP_TRIP. -/
abbrev LAMP_TRIP : Nat := 0x0901
abbrev LAMP_TRIP_TRIPPED : Fld := ⟨LAMP_TRIP, 0, 16⟩
/-- Word address of LAMP_GCLEAR. -/
abbrev LAMP_GCLEAR : Nat := 0x0902
abbrev LAMP_GCLEAR_KEY : Fld := ⟨LAMP_GCLEAR, 16, 8⟩
abbrev LAMP_GCLEAR_MASK : Fld := ⟨LAMP_GCLEAR, 0, 16⟩
/-- Word address of LAMP_CMDA. -/
abbrev LAMP_CMDA : Nat := 0x0904
abbrev LAMP_CMDA_GRP : Fld := ⟨LAMP_CMDA, 23, 1⟩
abbrev LAMP_CMDA_INDEX : Fld := ⟨LAMP_CMDA, 0, 10⟩
/-- Word address of LAMP_CMDB. -/
abbrev LAMP_CMDB : Nat := 0x0905
abbrev LAMP_CMDB_TAG : Fld := ⟨LAMP_CMDB, 16, 8⟩
abbrev LAMP_CMDB_CURVE : Fld := ⟨LAMP_CMDB, 12, 1⟩
abbrev LAMP_CMDB_LEVEL : Fld := ⟨LAMP_CMDB, 0, 12⟩
/-- Word address of LAMP_CMDC. -/
abbrev LAMP_CMDC : Nat := 0x0906
abbrev LAMP_CMDC_FADE : Fld := ⟨LAMP_CMDC, 0, 14⟩
/-- Word address of LAMP_CNT. -/
abbrev LAMP_CNT : Nat := 0x0908
abbrev LAMP_CNT_FAULTS : Fld := ⟨LAMP_CNT, 16, 8⟩
abbrev LAMP_CNT_REFUSED : Fld := ⟨LAMP_CNT, 8, 8⟩
abbrev LAMP_CNT_SUPERSEDED : Fld := ⟨LAMP_CNT, 0, 8⟩
/-- Word address of LAMP_CHAINST. -/
abbrev LAMP_CHAINST : Nat := 0x0909
abbrev LAMP_CHAINST_NDRV : Fld := ⟨LAMP_CHAINST, 16, 6⟩
abbrev LAMP_CHAINST_CHAINERR : Fld := ⟨LAMP_CHAINST, 8, 8⟩
abbrev LAMP_CHAINST_CHANERR : Fld := ⟨LAMP_CHAINST, 0, 8⟩
/-- Word address of LAMP_TLSB. -/
abbrev LAMP_TLSB : Nat := 0x090A
abbrev LAMP_TLSB_UNITS : Fld := ⟨LAMP_TLSB, 0, 8⟩
/-- Word address of LAMP_SEL. -/
abbrev LAMP_SEL : Nat := 0x090C
abbrev LAMP_SEL_LAMP : Fld := ⟨LAMP_SEL, 0, 10⟩
/-- Word address of LAMP_LSTAT. -/
abbrev LAMP_LSTAT : Nat := 0x090D
abbrev LAMP_LSTAT_STATE : Fld := ⟨LAMP_LSTAT, 21, 3⟩
abbrev LAMP_LSTAT_KIND : Fld := ⟨LAMP_LSTAT, 17, 4⟩
abbrev LAMP_LSTAT_MEMBER : Fld := ⟨LAMP_LSTAT, 16, 1⟩
abbrev LAMP_LSTAT_GROUP : Fld := ⟨LAMP_LSTAT, 12, 4⟩
abbrev LAMP_LSTAT_LEVEL : Fld := ⟨LAMP_LSTAT, 0, 12⟩
/-- Word address of LAMP_SNK[k]. -/
abbrev LAMP_SNK (i : Nat) : Nat := 0x0910 + i
abbrev LAMP_SNK_HR (i : Nat) : Fld := ⟨LAMP_SNK i, 11, 13⟩
abbrev LAMP_SNK_ISET (i : Nat) : Fld := ⟨LAMP_SNK i, 0, 7⟩
/-- Word address of LAMP_TAPV[k]. -/
abbrev LAMP_TAPV (i : Nat) : Nat := 0x0918 + i
abbrev LAMP_TAPV_VF (i : Nat) : Fld := ⟨LAMP_TAPV i, 0, 13⟩
/-- Word address of LAMP_FLT[w]. -/
abbrev LAMP_FLT (i : Nat) : Nat := 0x0940 + i
abbrev LAMP_FLT_FAULTED (i : Nat) : Fld := ⟨LAMP_FLT i, 0, 24⟩

/-! IRX registers and fields. -/

/-- Word address of IRX_STAT. -/
abbrev IRX_STAT : Nat := 0x0B00
abbrev IRX_STAT_HELD : Fld := ⟨IRX_STAT, 23, 1⟩
abbrev IRX_STAT_TPL : Fld := ⟨IRX_STAT, 20, 2⟩
abbrev IRX_STAT_TIMER : Fld := ⟨IRX_STAT, 19, 1⟩
abbrev IRX_STAT_STUCK : Fld := ⟨IRX_STAT, 18, 1⟩
abbrev IRX_STAT_RXON : Fld := ⟨IRX_STAT, 17, 1⟩
abbrev IRX_STAT_VKEY : Fld := ⟨IRX_STAT, 8, 8⟩
abbrev IRX_STAT_REPEATS : Fld := ⟨IRX_STAT, 0, 8⟩
/-- Word address of IRX_CTRL. -/
abbrev IRX_CTRL : Nat := 0x0B01
abbrev IRX_CTRL_RELEASE : Fld := ⟨IRX_CTRL, 2, 1⟩
abbrev IRX_CTRL_RAWHOLD : Fld := ⟨IRX_CTRL, 1, 1⟩
abbrev IRX_CTRL_ECHO : Fld := ⟨IRX_CTRL, 0, 1⟩
/-- Word address of IRX_LASTH. -/
abbrev IRX_LASTH : Nat := 0x0B02
abbrev IRX_LASTH_CODE : Fld := ⟨IRX_LASTH, 0, 24⟩
/-- Word address of IRX_LASTL. -/
abbrev IRX_LASTL : Nat := 0x0B03
abbrev IRX_LASTL_CODE : Fld := ⟨IRX_LASTL, 0, 24⟩
/-- Word address of IRX_CNT. -/
abbrev IRX_CNT : Nat := 0x0B04
abbrev IRX_CNT_GLITCH : Fld := ⟨IRX_CNT, 16, 8⟩
abbrev IRX_CNT_UNKNOWN : Fld := ⟨IRX_CNT, 8, 8⟩
abbrev IRX_CNT_FRAMES : Fld := ⟨IRX_CNT, 0, 8⟩
/-- Word address of IRX_CNT2. -/
abbrev IRX_CNT2 : Nat := 0x0B05
abbrev IRX_CNT2_ORPHAN : Fld := ⟨IRX_CNT2, 8, 8⟩
abbrev IRX_CNT2_LONG : Fld := ⟨IRX_CNT2, 0, 8⟩
/-- Word address of IRX_RAW[i]. -/
abbrev IRX_RAW (i : Nat) : Nat := 0x0B80 + i
abbrev IRX_RAW_MARK (i : Nat) : Fld := ⟨IRX_RAW i, 23, 1⟩
abbrev IRX_RAW_US (i : Nat) : Fld := ⟨IRX_RAW i, 0, 16⟩

/-! ITX registers and fields. -/

/-- Word address of ITX_STAT. -/
abbrev ITX_STAT : Nat := 0x0B20
abbrev ITX_STAT_BUSY : Fld := ⟨ITX_STAT, 23, 1⟩
abbrev ITX_STAT_MODE : Fld := ⟨ITX_STAT, 20, 2⟩
abbrev ITX_STAT_REPLEFT : Fld := ⟨ITX_STAT, 10, 8⟩
abbrev ITX_STAT_INDEX : Fld := ⟨ITX_STAT, 0, 9⟩
/-- Word address of ITX_CARRIER. -/
abbrev ITX_CARRIER : Nat := 0x0B21
abbrev ITX_CARRIER_DUTY : Fld := ⟨ITX_CARRIER, 12, 5⟩
abbrev ITX_CARRIER_CDIV : Fld := ⟨ITX_CARRIER, 0, 12⟩
/-- Word address of ITX_CMD. -/
abbrev ITX_CMD : Nat := 0x0B22
abbrev ITX_CMD_TAG : Fld := ⟨ITX_CMD, 16, 8⟩
abbrev ITX_CMD_MODE : Fld := ⟨ITX_CMD, 12, 2⟩
abbrev ITX_CMD_STOP : Fld := ⟨ITX_CMD, 10, 1⟩
abbrev ITX_CMD_START : Fld := ⟨ITX_CMD, 0, 9⟩
/-- Word address of ITX_REP. -/
abbrev ITX_REP : Nat := 0x0B23
abbrev ITX_REP_REPEAT : Fld := ⟨ITX_REP, 0, 8⟩
/-- Word address of ITX_PADDR. -/
abbrev ITX_PADDR : Nat := 0x0B24
abbrev ITX_PADDR_ADDR : Fld := ⟨ITX_PADDR, 0, 9⟩
/-- Word address of ITX_PDATA. -/
abbrev ITX_PDATA : Nat := 0x0B25
abbrev ITX_PDATA_ENTRY : Fld := ⟨ITX_PDATA, 0, 24⟩
/-- Word address of ITX_CNT. -/
abbrev ITX_CNT : Nat := 0x0B26
abbrev ITX_CNT_REFUSED : Fld := ⟨ITX_CNT, 8, 8⟩
abbrev ITX_CNT_DONE : Fld := ⟨ITX_CNT, 0, 8⟩

/-! HKA registers and fields. -/

/-- Word address of HKA_STAT. -/
abbrev HKA_STAT : Nat := 0x0C00
abbrev HKA_STAT_REFINT_RDY : Fld := ⟨HKA_STAT, 23, 1⟩
abbrev HKA_STAT_REFIN_RDY : Fld := ⟨HKA_STAT, 22, 1⟩
abbrev HKA_STAT_REFIN_FAULT : Fld := ⟨HKA_STAT, 21, 1⟩
abbrev HKA_STAT_GRANT : Fld := ⟨HKA_STAT, 19, 2⟩
abbrev HKA_STAT_BUSYA : Fld := ⟨HKA_STAT, 18, 1⟩
abbrev HKA_STAT_BUSYB : Fld := ⟨HKA_STAT, 17, 1⟩
abbrev HKA_STAT_CHA : Fld := ⟨HKA_STAT, 12, 4⟩
abbrev HKA_STAT_CHB : Fld := ⟨HKA_STAT, 8, 4⟩
/-- Word address of HKA_HOST. -/
abbrev HKA_HOST : Nat := 0x0C01
abbrev HKA_HOST_KEY : Fld := ⟨HKA_HOST, 16, 8⟩
abbrev HKA_HOST_CLAIM : Fld := ⟨HKA_HOST, 0, 2⟩
/-- Word address of HKA_CMD. -/
abbrev HKA_CMD : Nat := 0x0C02
abbrev HKA_CMD_TAG : Fld := ⟨HKA_CMD, 16, 8⟩
abbrev HKA_CMD_ILV : Fld := ⟨HKA_CMD, 15, 1⟩
abbrev HKA_CMD_NOTIFY : Fld := ⟨HKA_CMD, 14, 1⟩
abbrev HKA_CMD_RATE : Fld := ⟨HKA_CMD, 11, 3⟩
abbrev HKA_CMD_REFSEL : Fld := ⟨HKA_CMD, 8, 2⟩
abbrev HKA_CMD_START : Fld := ⟨HKA_CMD, 4, 1⟩
abbrev HKA_CMD_CH : Fld := ⟨HKA_CMD, 0, 4⟩
/-- Word address of HKA_SNAP. -/
abbrev HKA_SNAP : Nat := 0x0C04
abbrev HKA_SNAP_CLEAR : Fld := ⟨HKA_SNAP, 4, 1⟩
abbrev HKA_SNAP_CH : Fld := ⟨HKA_SNAP, 0, 4⟩
/-- Word address of HKA_SSUMH. -/
abbrev HKA_SSUMH : Nat := 0x0C05
abbrev HKA_SSUMH_SUM : Fld := ⟨HKA_SSUMH, 0, 24⟩
/-- Word address of HKA_SSUML. -/
abbrev HKA_SSUML : Nat := 0x0C06
abbrev HKA_SSUML_SUM : Fld := ⟨HKA_SSUML, 0, 24⟩
/-- Word address of HKA_SCOUNT. -/
abbrev HKA_SCOUNT : Nat := 0x0C07
abbrev HKA_SCOUNT_COUNT : Fld := ⟨HKA_SCOUNT, 0, 24⟩
/-- Word address of HKA_SMIN. -/
abbrev HKA_SMIN : Nat := 0x0C08
abbrev HKA_SMIN_MIN : Fld := ⟨HKA_SMIN, 0, 24⟩
/-- Word address of HKA_SMAX. -/
abbrev HKA_SMAX : Nat := 0x0C09
abbrev HKA_SMAX_MAX : Fld := ⟨HKA_SMAX, 0, 24⟩
/-- Word address of HKA_SOVR. -/
abbrev HKA_SOVR : Nat := 0x0C0A
abbrev HKA_SOVR_SAT : Fld := ⟨HKA_SOVR, 23, 1⟩
abbrev HKA_SOVR_CH : Fld := ⟨HKA_SOVR, 16, 4⟩
abbrev HKA_SOVR_OVRPOS : Fld := ⟨HKA_SOVR, 8, 8⟩
abbrev HKA_SOVR_OVRNEG : Fld := ⟨HKA_SOVR, 0, 8⟩
/-- Word address of HKA_BEXIT. -/
abbrev HKA_BEXIT : Nat := 0x0C10
abbrev HKA_BEXIT_EXIT : Fld := ⟨HKA_BEXIT, 0, 16⟩
/-- Word address of HKA_CNT. -/
abbrev HKA_CNT : Nat := 0x0C11
abbrev HKA_CNT_REFUSED : Fld := ⟨HKA_CNT, 16, 8⟩
abbrev HKA_CNT_SKIPPED : Fld := ⟨HKA_CNT, 8, 8⟩
abbrev HKA_CNT_ILVWAIT : Fld := ⟨HKA_CNT, 0, 8⟩
/-- Word address of HKA_CCFG[c]. -/
abbrev HKA_CCFG (i : Nat) : Nat := 0x0C20 + 4 * i
abbrev HKA_CCFG_PLAN (i : Nat) : Fld := ⟨HKA_CCFG i, 0, 24⟩
/-- Word address of HKA_BLO[c]. -/
abbrev HKA_BLO (i : Nat) : Nat := 0x0C21 + 4 * i
abbrev HKA_BLO_LO (i : Nat) : Fld := ⟨HKA_BLO i, 0, 24⟩
/-- Word address of HKA_BHI[c]. -/
abbrev HKA_BHI (i : Nat) : Nat := 0x0C22 + 4 * i
abbrev HKA_BHI_HI (i : Nat) : Fld := ⟨HKA_BHI i, 0, 24⟩
/-- Word address of HKA_BCFG[c]. -/
abbrev HKA_BCFG (i : Nat) : Nat := 0x0C23 + 4 * i
abbrev HKA_BCFG_EN (i : Nat) : Fld := ⟨HKA_BCFG i, 23, 1⟩
abbrev HKA_BCFG_STATE (i : Nat) : Fld := ⟨HKA_BCFG i, 21, 2⟩
abbrev HKA_BCFG_CONSEC (i : Nat) : Fld := ⟨HKA_BCFG i, 16, 5⟩
abbrev HKA_BCFG_HYS (i : Nat) : Fld := ⟨HKA_BCFG i, 0, 16⟩
/-- Word address of HKA_SCOFS[k]. -/
abbrev HKA_SCOFS (i : Nat) : Nat := 0x0C60 + 2 * i
abbrev HKA_SCOFS_OFS (i : Nat) : Fld := ⟨HKA_SCOFS i, 0, 24⟩
/-- Word address of HKA_SCGAIN[k]. -/
abbrev HKA_SCGAIN (i : Nat) : Nat := 0x0C61 + 2 * i
abbrev HKA_SCGAIN_GAIN (i : Nat) : Fld := ⟨HKA_SCGAIN i, 0, 24⟩
/-- Word address of HKA_SCCMD. -/
abbrev HKA_SCCMD : Nat := 0x0C68
abbrev HKA_SCCMD_KEY : Fld := ⟨HKA_SCCMD, 16, 8⟩
abbrev HKA_SCCMD_CH : Fld := ⟨HKA_SCCMD, 4, 2⟩
abbrev HKA_SCCMD_OP : Fld := ⟨HKA_SCCMD, 0, 3⟩
/-- Word address of HKA_SCFULL. -/
abbrev HKA_SCFULL : Nat := 0x0C69
abbrev HKA_SCFULL_FULL : Fld := ⟨HKA_SCFULL, 0, 24⟩
/-- Word address of HKA_SCSTAT. -/
abbrev HKA_SCSTAT : Nat := 0x0C6A
abbrev HKA_SCSTAT_STATUS : Fld := ⟨HKA_SCSTAT, 20, 4⟩
/-- Word address of HKA_TDAC. -/
abbrev HKA_TDAC : Nat := 0x0C70
abbrev HKA_TDAC_EN : Fld := ⟨HKA_TDAC, 12, 1⟩
abbrev HKA_TDAC_PIN : Fld := ⟨HKA_TDAC, 10, 2⟩
abbrev HKA_TDAC_CODE : Fld := ⟨HKA_TDAC, 0, 10⟩
/-- Word address of HKA_TAPSEL. -/
abbrev HKA_TAPSEL : Nat := 0x0C72
abbrev HKA_TAPSEL_TAP : Fld := ⟨HKA_TAPSEL, 0, 4⟩

/-! CAL registers and fields. -/

/-- Word address of CAL_STAT. -/
abbrev CAL_STAT : Nat := 0x0D00
abbrev CAL_STAT_STATE : Fld := ⟨CAL_STAT, 21, 3⟩
abbrev CAL_STAT_TRIGGER : Fld := ⟨CAL_STAT, 17, 4⟩
abbrev CAL_STAT_STRETCH : Fld := ⟨CAL_STAT, 16, 1⟩
abbrev CAL_STAT_LEFT : Fld := ⟨CAL_STAT, 0, 8⟩
/-- Word address of CAL_CMD. -/
abbrev CAL_CMD : Nat := 0x0D01
abbrev CAL_CMD_KEY : Fld := ⟨CAL_CMD, 16, 8⟩
abbrev CAL_CMD_OP : Fld := ⟨CAL_CMD, 0, 2⟩
/-- Word address of CAL_TREF. -/
abbrev CAL_TREF : Nat := 0x0D02
abbrev CAL_TREF_T0 : Fld := ⟨CAL_TREF, 12, 12⟩
abbrev CAL_TREF_T1 : Fld := ⟨CAL_TREF, 0, 12⟩
/-- Word address of CAL_CNT. -/
abbrev CAL_CNT : Nat := 0x0D03
abbrev CAL_CNT_RUNS : Fld := ⟨CAL_CNT, 16, 8⟩
abbrev CAL_CNT_STARVED : Fld := ⟨CAL_CNT, 8, 8⟩
abbrev CAL_CNT_STRETCHES : Fld := ⟨CAL_CNT, 0, 8⟩
/-- Word address of CAL_REF. -/
abbrev CAL_REF : Nat := 0x0D08
abbrev CAL_REF_GOOD : Fld := ⟨CAL_REF, 4, 4⟩
abbrev CAL_REF_CHOSEN : Fld := ⟨CAL_REF, 0, 2⟩
/-- Word address of CAL_RC. -/
abbrev CAL_RC : Nat := 0x0D09
abbrev CAL_RC_TABLE : Fld := ⟨CAL_RC, 23, 1⟩
abbrev CAL_RC_LEGS : Fld := ⟨CAL_RC, 0, 16⟩
/-- Word address of CAL_CHSEL. -/
abbrev CAL_CHSEL : Nat := 0x0D10
abbrev CAL_CHSEL_CH : Fld := ⟨CAL_CHSEL, 0, 7⟩
/-- Word address of CAL_CHSTAT. -/
abbrev CAL_CHSTAT : Nat := 0x0D11
abbrev CAL_CHSTAT_BAD : Fld := ⟨CAL_CHSTAT, 23, 1⟩
abbrev CAL_CHSTAT_CELLS : Fld := ⟨CAL_CHSTAT, 0, 12⟩
/-- Word address of CAL_CHGOOD. -/
abbrev CAL_CHGOOD : Nat := 0x0D12
abbrev CAL_CHGOOD_GOOD : Fld := ⟨CAL_CHGOOD, 0, 12⟩
/-- Word address of CAL_TELEM. -/
abbrev CAL_TELEM : Nat := 0x0D18
abbrev CAL_TELEM_SLOT : Fld := ⟨CAL_TELEM, 0, 7⟩
/-- Word address of CAL_TSEQ. -/
abbrev CAL_TSEQ : Nat := 0x0D19
abbrev CAL_TSEQ_SEQ : Fld := ⟨CAL_TSEQ, 0, 24⟩
/-- Word address of CAL_LOGSTAT. -/
abbrev CAL_LOGSTAT : Nat := 0x0D20
abbrev CAL_LOGSTAT_MOUNTED : Fld := ⟨CAL_LOGSTAT, 23, 1⟩
abbrev CAL_LOGSTAT_WORN : Fld := ⟨CAL_LOGSTAT, 22, 1⟩
abbrev CAL_LOGSTAT_HEAD : Fld := ⟨CAL_LOGSTAT, 13, 9⟩
abbrev CAL_LOGSTAT_SLOT : Fld := ⟨CAL_LOGSTAT, 9, 4⟩
abbrev CAL_LOGSTAT_RETIRED : Fld := ⟨CAL_LOGSTAT, 0, 9⟩
/-- Word address of CAL_LOGSEQ. -/
abbrev CAL_LOGSEQ : Nat := 0x0D21
abbrev CAL_LOGSEQ_SEQ : Fld := ⟨CAL_LOGSEQ, 0, 24⟩
/-- Word address of CAL_LOGQ. -/
abbrev CAL_LOGQ : Nat := 0x0D22
abbrev CAL_LOGQ_LOST : Fld := ⟨CAL_LOGQ, 16, 8⟩
abbrev CAL_LOGQ_QUEUED : Fld := ⟨CAL_LOGQ, 0, 7⟩
/-- Word address of CAL_LEGS[e]. -/
abbrev CAL_LEGS (i : Nat) : Nat := 0x0D40 + i
abbrev CAL_LEGS_GOOD (i : Nat) : Fld := ⟨CAL_LEGS i, 8, 8⟩
abbrev CAL_LEGS_EN (i : Nat) : Fld := ⟨CAL_LEGS i, 0, 8⟩

/-! MEM registers and fields. -/

/-- Word address of MEM_STAT. -/
abbrev MEM_STAT : Nat := 0x0E00
abbrev MEM_STAT_REPAIRING : Fld := ⟨MEM_STAT, 4, 1⟩
abbrev MEM_STAT_SCRUBBANK : Fld := ⟨MEM_STAT, 0, 4⟩
/-- Word address of MEM_WIN_SEL. -/
abbrev MEM_WIN_SEL : Nat := 0x0E02
abbrev MEM_WIN_SEL_BANK : Fld := ⟨MEM_WIN_SEL, 0, 4⟩
/-- Word address of MEM_BIST. -/
abbrev MEM_BIST : Nat := 0x0E03
abbrev MEM_BIST_FAILED : Fld := ⟨MEM_BIST, 0, 16⟩
/-- Word address of MEM_BIST2. -/
abbrev MEM_BIST2 : Nat := 0x0E04
abbrev MEM_BIST2_COLFAULT : Fld := ⟨MEM_BIST2, 0, 16⟩
/-- Word address of MEM_SCRUB. -/
abbrev MEM_SCRUB : Nat := 0x0E05
abbrev MEM_SCRUB_SKIP : Fld := ⟨MEM_SCRUB, 16, 8⟩
abbrev MEM_SCRUB_LATE : Fld := ⟨MEM_SCRUB, 8, 8⟩
abbrev MEM_SCRUB_PASSES : Fld := ⟨MEM_SCRUB, 0, 8⟩
/-- Word address of MEM_SCRUBPOS. -/
abbrev MEM_SCRUBPOS : Nat := 0x0E06
abbrev MEM_SCRUBPOS_WORD : Fld := ⟨MEM_SCRUBPOS, 0, 14⟩
/-- Word address of MEM_UEADDR. -/
abbrev MEM_UEADDR : Nat := 0x0E07
abbrev MEM_UEADDR_MASTER : Fld := ⟨MEM_UEADDR, 18, 4⟩
abbrev MEM_UEADDR_BANK : Fld := ⟨MEM_UEADDR, 14, 4⟩
abbrev MEM_UEADDR_WORD : Fld := ⟨MEM_UEADDR, 0, 14⟩
/-- Word address of MEM_REPCMD. -/
abbrev MEM_REPCMD : Nat := 0x0E08
abbrev MEM_REPCMD_KEY : Fld := ⟨MEM_REPCMD, 16, 8⟩
abbrev MEM_REPCMD_BANK : Fld := ⟨MEM_REPCMD, 10, 4⟩
abbrev MEM_REPCMD_COLUMN : Fld := ⟨MEM_REPCMD, 0, 10⟩
/-- Word address of MEM_REPSTAT. -/
abbrev MEM_REPSTAT : Nat := 0x0E09
abbrev MEM_REPSTAT_RESULT : Fld := ⟨MEM_REPSTAT, 20, 4⟩
abbrev MEM_REPSTAT_BUSY : Fld := ⟨MEM_REPSTAT, 19, 1⟩
abbrev MEM_REPSTAT_BANK : Fld := ⟨MEM_REPSTAT, 15, 4⟩
abbrev MEM_REPSTAT_SPARE : Fld := ⟨MEM_REPSTAT, 14, 1⟩
abbrev MEM_REPSTAT_COLUMN : Fld := ⟨MEM_REPSTAT, 0, 10⟩
/-- Word address of MEM_WINCNT. -/
abbrev MEM_WINCNT : Nat := 0x0E0A
abbrev MEM_WINCNT_DENIED : Fld := ⟨MEM_WINCNT, 0, 8⟩
/-- Word address of MEM_DENY. -/
abbrev MEM_DENY : Nat := 0x0E0B
abbrev MEM_DENY_NOTOWNER : Fld := ⟨MEM_DENY, 0, 8⟩
/-- Word address of MEM_OWN[n]. -/
abbrev MEM_OWN (i : Nat) : Nat := 0x0E10 + i
abbrev MEM_OWN_PEND (i : Nat) : Fld := ⟨MEM_OWN i, 8, 1⟩
abbrev MEM_OWN_NEXT (i : Nat) : Fld := ⟨MEM_OWN i, 4, 4⟩
abbrev MEM_OWN_OWNER (i : Nat) : Fld := ⟨MEM_OWN i, 0, 4⟩
/-- Word address of MEM_CE[n]. -/
abbrev MEM_CE (i : Nat) : Nat := 0x0E20 + i
abbrev MEM_CE_CE (i : Nat) : Fld := ⟨MEM_CE i, 12, 12⟩
abbrev MEM_CE_UE (i : Nat) : Fld := ⟨MEM_CE i, 0, 12⟩
/-- Word address of MEM_CONFL[m]. -/
abbrev MEM_CONFL (i : Nat) : Nat := 0x0E30 + i
abbrev MEM_CONFL_COLLIDE (i : Nat) : Fld := ⟨MEM_CONFL i, 16, 8⟩
abbrev MEM_CONFL_WAITS (i : Nat) : Fld := ⟨MEM_CONFL i, 0, 16⟩
/-- Word address of MEM_COL[n]. -/
abbrev MEM_COL (i : Nat) : Nat := 0x0E40 + i
abbrev MEM_COL_SUSPECT (i : Nat) : Fld := ⟨MEM_COL i, 23, 1⟩
abbrev MEM_COL_COUNT (i : Nat) : Fld := ⟨MEM_COL i, 10, 6⟩
abbrev MEM_COL_COLUMN (i : Nat) : Fld := ⟨MEM_COL i, 0, 10⟩
/-- Word address of MEM_SPARE[n]. -/
abbrev MEM_SPARE (i : Nat) : Nat := 0x0E50 + i
abbrev MEM_SPARE_V1 (i : Nat) : Fld := ⟨MEM_SPARE i, 23, 1⟩
abbrev MEM_SPARE_K1 (i : Nat) : Fld := ⟨MEM_SPARE i, 22, 1⟩
abbrev MEM_SPARE_C1 (i : Nat) : Fld := ⟨MEM_SPARE i, 12, 10⟩
abbrev MEM_SPARE_V0 (i : Nat) : Fld := ⟨MEM_SPARE i, 11, 1⟩
abbrev MEM_SPARE_K0 (i : Nat) : Fld := ⟨MEM_SPARE i, 10, 1⟩
abbrev MEM_SPARE_C0 (i : Nat) : Fld := ⟨MEM_SPARE i, 0, 10⟩

/-! GDE registers and fields. -/

/-- Word address of GDE_STAT. -/
abbrev GDE_STAT : Nat := 0x0F00
abbrev GDE_STAT_BUSY : Fld := ⟨GDE_STAT, 19, 1⟩
abbrev GDE_STAT_CHAN : Fld := ⟨GDE_STAT, 16, 3⟩
abbrev GDE_STAT_FAULTED : Fld := ⟨GDE_STAT, 0, 8⟩
/-- Word address of GDE_CNT. -/
abbrev GDE_CNT : Nat := 0x0F01
abbrev GDE_CNT_FAULTS : Fld := ⟨GDE_CNT, 16, 8⟩
abbrev GDE_CNT_REJECT : Fld := ⟨GDE_CNT, 8, 8⟩
abbrev GDE_CNT_COLLIDE : Fld := ⟨GDE_CNT, 0, 8⟩
/-- Word address of GDE_PUSHRES. -/
abbrev GDE_PUSHRES : Nat := 0x0F02
abbrev GDE_PUSHRES_CH1 : Fld := ⟨GDE_PUSHRES, 4, 4⟩
abbrev GDE_PUSHRES_CH0 : Fld := ⟨GDE_PUSHRES, 0, 4⟩
/-- Word address of GDE_CCMD. -/
abbrev GDE_CCMD : Nat := 0x0F03
abbrev GDE_CCMD_CHANNEL : Fld := ⟨GDE_CCMD, 4, 3⟩
abbrev GDE_CCMD_OP : Fld := ⟨GDE_CCMD, 0, 4⟩
/-- Word address of GDE_CSTAT[c]. -/
abbrev GDE_CSTAT (i : Nat) : Nat := 0x0F08 + i
abbrev GDE_CSTAT_STATE (i : Nat) : Fld := ⟨GDE_CSTAT i, 22, 2⟩
abbrev GDE_CSTAT_QUEUED (i : Nat) : Fld := ⟨GDE_CSTAT i, 19, 3⟩
abbrev GDE_CSTAT_ELEM (i : Nat) : Fld := ⟨GDE_CSTAT i, 15, 4⟩
abbrev GDE_CSTAT_WORDS (i : Nat) : Fld := ⟨GDE_CSTAT i, 0, 13⟩
/-- Word address of GDE_FREC0[c]. -/
abbrev GDE_FREC0 (i : Nat) : Nat := 0x0F10 + 2 * i
abbrev GDE_FREC0_CHAN (i : Nat) : Fld := ⟨GDE_FREC0 i, 21, 3⟩
abbrev GDE_FREC0_KIND (i : Nat) : Fld := ⟨GDE_FREC0 i, 17, 4⟩
abbrev GDE_FREC0_DST (i : Nat) : Fld := ⟨GDE_FREC0 i, 16, 1⟩
abbrev GDE_FREC0_ELEM (i : Nat) : Fld := ⟨GDE_FREC0 i, 12, 4⟩
abbrev GDE_FREC0_WORDS (i : Nat) : Fld := ⟨GDE_FREC0 i, 0, 12⟩
/-- Word address of GDE_FREC1[c]. -/
abbrev GDE_FREC1 (i : Nat) : Nat := 0x0F11 + 2 * i
abbrev GDE_FREC1_ADDR (i : Nat) : Fld := ⟨GDE_FREC1 i, 0, 24⟩
/-- Word address of GDE_SCTL[c]. -/
abbrev GDE_SCTL (i : Nat) : Nat := 0x0F20 + 2 * i
abbrev GDE_SCTL_TAG (i : Nat) : Fld := ⟨GDE_SCTL i, 8, 8⟩
abbrev GDE_SCTL_NELEM (i : Nat) : Fld := ⟨GDE_SCTL i, 0, 5⟩
/-- Word address of GDE_SDST[c]. -/
abbrev GDE_SDST (i : Nat) : Nat := 0x0F21 + 2 * i
abbrev GDE_SDST_DST (i : Nat) : Fld := ⟨GDE_SDST i, 0, 24⟩
/-- Word address of GDE_SEL[c][j]. -/
abbrev GDE_SEL (i : Nat) : Nat := 0x0F40 + i
abbrev GDE_SEL_SRC_or_LEN (i : Nat) : Fld := ⟨GDE_SEL i, 0, 24⟩
/-- Word address of GDE_WINA[e]. -/
abbrev GDE_WINA (i : Nat) : Nat := 0x0F80 + 2 * i
abbrev GDE_WINA_VALID (i : Nat) : Fld := ⟨GDE_WINA i, 23, 1⟩
abbrev GDE_WINA_R (i : Nat) : Fld := ⟨GDE_WINA i, 22, 1⟩
abbrev GDE_WINA_W (i : Nat) : Fld := ⟨GDE_WINA i, 21, 1⟩
abbrev GDE_WINA_REMOTE (i : Nat) : Fld := ⟨GDE_WINA i, 20, 1⟩
abbrev GDE_WINA_REQOWN (i : Nat) : Fld := ⟨GDE_WINA i, 16, 4⟩
abbrev GDE_WINA_LPAGE (i : Nat) : Fld := ⟨GDE_WINA i, 0, 14⟩
/-- Word address of GDE_WINB[e]. -/
abbrev GDE_WINB (i : Nat) : Nat := 0x0F81 + 2 * i
abbrev GDE_WINB_X (i : Nat) : Fld := ⟨GDE_WINB i, 19, 5⟩
abbrev GDE_WINB_Y (i : Nat) : Fld := ⟨GDE_WINB i, 14, 5⟩
abbrev GDE_WINB_BANK (i : Nat) : Fld := ⟨GDE_WINB i, 4, 4⟩
abbrev GDE_WINB_PAGE (i : Nat) : Fld := ⟨GDE_WINB i, 0, 4⟩

/-! EGL registers and fields. -/

/-- Word address of EGL_STAT. -/
abbrev EGL_STAT : Nat := 0x1000
abbrev EGL_STAT_TAGS : Fld := ⟨EGL_STAT, 16, 7⟩
abbrev EGL_STAT_UP : Fld := ⟨EGL_STAT, 12, 3⟩
abbrev EGL_STAT_PORTSUP : Fld := ⟨EGL_STAT, 0, 4⟩
/-- Word address of EGL_PCTL. -/
abbrev EGL_PCTL : Nat := 0x1001
abbrev EGL_PCTL_KEY : Fld := ⟨EGL_PCTL, 16, 8⟩
abbrev EGL_PCTL_RETRAIN : Fld := ⟨EGL_PCTL, 4, 4⟩
abbrev EGL_PCTL_DISABLE : Fld := ⟨EGL_PCTL, 0, 4⟩
/-- Word address of EGL_PSTAT[p]. -/
abbrev EGL_PSTAT (i : Nat) : Nat := 0x1008 + i
abbrev EGL_PSTAT_STATE (i : Nat) : Fld := ⟨EGL_PSTAT i, 21, 3⟩
abbrev EGL_PSTAT_REASON (i : Nat) : Fld := ⟨EGL_PSTAT i, 17, 4⟩
abbrev EGL_PSTAT_SIG (i : Nat) : Fld := ⟨EGL_PSTAT i, 16, 1⟩
abbrev EGL_PSTAT_PEERPORT (i : Nat) : Fld := ⟨EGL_PSTAT i, 12, 2⟩
abbrev EGL_PSTAT_PEERVALID (i : Nat) : Fld := ⟨EGL_PSTAT i, 11, 1⟩
abbrev EGL_PSTAT_PEERXY (i : Nat) : Fld := ⟨EGL_PSTAT i, 0, 10⟩
/-- Word address of EGL_PDLY[p]. -/
abbrev EGL_PDLY (i : Nat) : Nat := 0x100C + i
abbrev EGL_PDLY_NS (i : Nat) : Fld := ⟨EGL_PDLY i, 0, 16⟩
/-- Word address of EGL_PINFL[p]. -/
abbrev EGL_PINFL (i : Nat) : Nat := 0x1010 + i
abbrev EGL_PINFL_OPS (i : Nat) : Fld := ⟨EGL_PINFL i, 16, 5⟩
abbrev EGL_PINFL_WIN (i : Nat) : Fld := ⟨EGL_PINFL i, 12, 4⟩
abbrev EGL_PINFL_FREE (i : Nat) : Fld := ⟨EGL_PINFL i, 8, 4⟩
abbrev EGL_PINFL_QUEUE (i : Nat) : Fld := ⟨EGL_PINFL i, 0, 8⟩
/-- Word address of EGL_PCNT[p]. -/
abbrev EGL_PCNT (i : Nat) : Nat := 0x1018 + i
abbrev EGL_PCNT_CRCERR (i : Nat) : Fld := ⟨EGL_PCNT i, 16, 8⟩
abbrev EGL_PCNT_RESEND (i : Nat) : Fld := ⟨EGL_PCNT i, 8, 8⟩
abbrev EGL_PCNT_DOWNS (i : Nat) : Fld := ⟨EGL_PCNT i, 0, 8⟩
/-- Word address of EGL_PCNT2[p]. -/
abbrev EGL_PCNT2 (i : Nat) : Nat := 0x101C + i
abbrev EGL_PCNT2_CODEERR (i : Nat) : Fld := ⟨EGL_PCNT2 i, 16, 8⟩
abbrev EGL_PCNT2_AGED (i : Nat) : Fld := ⟨EGL_PCNT2 i, 8, 8⟩
abbrev EGL_PCNT2_BADHDR (i : Nat) : Fld := ⟨EGL_PCNT2 i, 0, 8⟩
/-- Word address of EGL_PKT[p]. -/
abbrev EGL_PKT (i : Nat) : Nat := 0x1020 + i
abbrev EGL_PKT_SENT (i : Nat) : Fld := ⟨EGL_PKT i, 0, 24⟩
/-- Word address of EGL_RTCNT. -/
abbrev EGL_RTCNT : Nat := 0x1028
abbrev EGL_RTCNT_UNROUTE : Fld := ⟨EGL_RTCNT, 16, 8⟩
abbrev EGL_RTCNT_DETOURS : Fld := ⟨EGL_RTCNT, 0, 16⟩
/-- Word address of EGL_STALL. -/
abbrev EGL_STALL : Nat := 0x1029
abbrev EGL_STALL_STARVED : Fld := ⟨EGL_STALL, 16, 8⟩
abbrev EGL_STALL_WAITS : Fld := ⟨EGL_STALL, 0, 16⟩
/-- Word address of EGL_OPS. -/
abbrev EGL_OPS : Nat := 0x102A
abbrev EGL_OPS_FAILED : Fld := ⟨EGL_OPS, 16, 8⟩
abbrev EGL_OPS_RETRIES : Fld := ⟨EGL_OPS, 8, 8⟩
abbrev EGL_OPS_DUPRESP : Fld := ⟨EGL_OPS, 0, 8⟩
/-- Word address of EGL_E2E. -/
abbrev EGL_E2E : Nat := 0x102B
abbrev EGL_E2E_GAPSKIP : Fld := ⟨EGL_E2E, 16, 8⟩
abbrev EGL_E2E_STALE : Fld := ⟨EGL_E2E, 8, 8⟩
abbrev EGL_E2E_REEXEC : Fld := ⟨EGL_E2E, 0, 8⟩
/-- Word address of EGL_BCN. -/
abbrev EGL_BCN : Nat := 0x102C
abbrev EGL_BCN_BCNERR : Fld := ⟨EGL_BCN, 16, 8⟩
abbrev EGL_BCN_HOPS : Fld := ⟨EGL_BCN, 8, 6⟩
abbrev EGL_BCN_PORT : Fld := ⟨EGL_BCN, 0, 3⟩
/-- Word address of EGL_PATHDLY. -/
abbrev EGL_PATHDLY : Nat := 0x102D
abbrev EGL_PATHDLY_NS : Fld := ⟨EGL_PATHDLY, 0, 24⟩
/-- Word address of EGL_TILE. -/
abbrev EGL_TILE : Nat := 0x1080
abbrev EGL_TILE_JOINED : Fld := ⟨EGL_TILE, 20, 1⟩
abbrev EGL_TILE_CONFLICT : Fld := ⟨EGL_TILE, 19, 1⟩
abbrev EGL_TILE_X : Fld := ⟨EGL_TILE, 5, 5⟩
abbrev EGL_TILE_Y : Fld := ⟨EGL_TILE, 0, 5⟩
/-- Word address of EGL_SURF. -/
abbrev EGL_SURF : Nat := 0x1081
abbrev EGL_SURF_EXPECTED : Fld := ⟨EGL_SURF, 11, 11⟩
abbrev EGL_SURF_JOINED : Fld := ⟨EGL_SURF, 0, 11⟩
/-- Word address of EGL_GRID. -/
abbrev EGL_GRID : Nat := 0x1082
abbrev EGL_GRID_H : Fld := ⟨EGL_GRID, 16, 8⟩
abbrev EGL_GRID_COLS : Fld := ⟨EGL_GRID, 8, 6⟩
abbrev EGL_GRID_ROWS : Fld := ⟨EGL_GRID, 0, 6⟩
/-- Word address of EGL_TSEL. -/
abbrev EGL_TSEL : Nat := 0x1083
abbrev EGL_TSEL_XY : Fld := ⟨EGL_TSEL, 0, 10⟩
/-- Word address of EGL_TSTAT. -/
abbrev EGL_TSTAT : Nat := 0x1084
abbrev EGL_TSTAT_STATE : Fld := ⟨EGL_TSTAT, 21, 3⟩
abbrev EGL_TSTAT_REASON : Fld := ⟨EGL_TSTAT, 16, 4⟩
abbrev EGL_TSTAT_SEEN : Fld := ⟨EGL_TSTAT, 0, 16⟩
/-- Word address of EGL_RTILE. -/
abbrev EGL_RTILE : Nat := 0x1088
abbrev EGL_RTILE_XY : Fld := ⟨EGL_RTILE, 0, 10⟩
/-- Word address of EGL_RSTAT. -/
abbrev EGL_RSTAT : Nat := 0x1089
abbrev EGL_RSTAT_PEND : Fld := ⟨EGL_RSTAT, 23, 1⟩
abbrev EGL_RSTAT_ERR : Fld := ⟨EGL_RSTAT, 19, 4⟩
abbrev EGL_RSTAT_ADDR : Fld := ⟨EGL_RSTAT, 0, 16⟩
/-- Word address of EGL_RCNT. -/
abbrev EGL_RCNT : Nat := 0x108A
abbrev EGL_RCNT_FAIL : Fld := ⟨EGL_RCNT, 16, 8⟩
abbrev EGL_RCNT_OPS : Fld := ⟨EGL_RCNT, 0, 16⟩
/-- Word address of EGL_TRESET. -/
abbrev EGL_TRESET : Nat := 0x108B
abbrev EGL_TRESET_KEY : Fld := ⟨EGL_TRESET, 16, 8⟩
abbrev EGL_TRESET_XY : Fld := ⟨EGL_TRESET, 0, 10⟩
/-- Word address of EGL_HCNT. -/
abbrev EGL_HCNT : Nat := 0x108C
abbrev EGL_HCNT_PARTIAL : Fld := ⟨EGL_HCNT, 16, 8⟩
abbrev EGL_HCNT_STRIPLATE : Fld := ⟨EGL_HCNT, 8, 8⟩
abbrev EGL_HCNT_REFUSED : Fld := ⟨EGL_HCNT, 0, 8⟩
/-- Word address of EGL_FWD. -/
abbrev EGL_FWD : Nat := 0x108D
abbrev EGL_FWD_LOSS : Fld := ⟨EGL_FWD, 16, 8⟩
abbrev EGL_FWD_COUNT : Fld := ⟨EGL_FWD, 0, 16⟩

/-! USB registers and fields. -/

/-- Word address of USB_STAT. -/
abbrev USB_STAT : Nat := 0x1100
abbrev USB_STAT_CFG : Fld := ⟨USB_STAT, 16, 1⟩
abbrev USB_STAT_ADDR : Fld := ⟨USB_STAT, 7, 7⟩
abbrev USB_STAT_SOFLOCK : Fld := ⟨USB_STAT, 6, 1⟩
abbrev USB_STAT_VBUS : Fld := ⟨USB_STAT, 5, 1⟩
abbrev USB_STAT_RWKEN : Fld := ⟨USB_STAT, 4, 1⟩
abbrev USB_STAT_SUSP : Fld := ⟨USB_STAT, 3, 1⟩
abbrev USB_STAT_STATE : Fld := ⟨USB_STAT, 0, 3⟩
/-- Word address of USB_CTRL. -/
abbrev USB_CTRL : Nat := 0x1101
abbrev USB_CTRL_KEY : Fld := ⟨USB_CTRL, 16, 8⟩
abbrev USB_CTRL_DETACH : Fld := ⟨USB_CTRL, 0, 1⟩
/-- Word address of USB_CNT. -/
abbrev USB_CNT : Nat := 0x1102
abbrev USB_CNT_BUSRESET : Fld := ⟨USB_CNT, 16, 8⟩
abbrev USB_CNT_CRCERR : Fld := ⟨USB_CNT, 8, 8⟩
abbrev USB_CNT_BADCMD : Fld := ⟨USB_CNT, 0, 8⟩
/-- Word address of USB_HIDCNT. -/
abbrev USB_HIDCNT : Nat := 0x1103
abbrev USB_HIDCNT_SKIPPED : Fld := ⟨USB_HIDCNT, 12, 12⟩
abbrev USB_HIDCNT_TRUNC : Fld := ⟨USB_HIDCNT, 0, 12⟩
/-- Word address of USB_RWK. -/
abbrev USB_RWK : Nat := 0x1104
abbrev USB_RWK_OUTCOME : Fld := ⟨USB_RWK, 14, 2⟩
abbrev USB_RWK_SRC : Fld := ⟨USB_RWK, 0, 9⟩
/-- Word address of USB_HID. -/
abbrev USB_HID : Nat := 0x1105
abbrev USB_HID_SHIFT : Fld := ⟨USB_HID, 0, 4⟩
/-- Word address of USB_HIDX. -/
abbrev USB_HIDX : Nat := 0x1106
abbrev USB_HIDX_LMAX : Fld := ⟨USB_HIDX, 0, 16⟩
/-- Word address of USB_HIDY. -/
abbrev USB_HIDY : Nat := 0x1107
abbrev USB_HIDY_LMAX : Fld := ⟨USB_HIDY, 0, 16⟩
/-- Word address of USB_VID. -/
abbrev USB_VID : Nat := 0x1108
abbrev USB_VID_VID : Fld := ⟨USB_VID, 0, 16⟩
/-- Word address of USB_PID. -/
abbrev USB_PID : Nat := 0x1109
abbrev USB_PID_PID : Fld := ⟨USB_PID, 0, 16⟩
/-- Word address of USB_FRNUM. -/
abbrev USB_FRNUM : Nat := 0x110A
abbrev USB_FRNUM_FRNUM : Fld := ⟨USB_FRNUM, 0, 11⟩

/-! TWB registers and fields. -/

/-- Word address of TWB_STAT. -/
abbrev TWB_STAT : Nat := 0x1200
abbrev TWB_STAT_NVWP : Fld := ⟨TWB_STAT, 10, 1⟩
abbrev TWB_STAT_NVEXT : Fld := ⟨TWB_STAT, 9, 1⟩
abbrev TWB_STAT_NVBUSY : Fld := ⟨TWB_STAT, 8, 1⟩
abbrev TWB_STAT_ALERT : Fld := ⟨TWB_STAT, 2, 1⟩
abbrev TWB_STAT_HELD : Fld := ⟨TWB_STAT, 1, 1⟩
abbrev TWB_STAT_ACTIVE : Fld := ⟨TWB_STAT, 0, 1⟩
/-- Word address of TWB_CFG. -/
abbrev TWB_CFG : Nat := 0x1201
abbrev TWB_CFG_ALERT_PRI : Fld := ⟨TWB_CFG, 12, 4⟩
abbrev TWB_CFG_ARA_MODE : Fld := ⟨TWB_CFG, 9, 1⟩
abbrev TWB_CFG_PEC : Fld := ⟨TWB_CFG, 8, 1⟩
abbrev TWB_CFG_ADDR : Fld := ⟨TWB_CFG, 0, 7⟩
/-- Word address of TWB_CNT. -/
abbrev TWB_CNT : Nat := 0x1203
abbrev TWB_CNT_TIMEOUT : Fld := ⟨TWB_CNT, 16, 8⟩
abbrev TWB_CNT_PECERR : Fld := ⟨TWB_CNT, 8, 8⟩
abbrev TWB_CNT_PARTIAL : Fld := ⟨TWB_CNT, 0, 8⟩
/-- Word address of TWB_CNT2. -/
abbrev TWB_CNT2 : Nat := 0x1204
abbrev TWB_CNT2_REMOTE_LATE : Fld := ⟨TWB_CNT2, 8, 8⟩
abbrev TWB_CNT2_ARALOST : Fld := ⟨TWB_CNT2, 0, 8⟩
/-- Word address of TWB_STRETCH. -/
abbrev TWB_STRETCH : Nat := 0x1205
abbrev TWB_STRETCH_MAX : Fld := ⟨TWB_STRETCH, 0, 16⟩
/-- Word address of TWB_NVCTL. -/
abbrev TWB_NVCTL : Nat := 0x1210
abbrev TWB_NVCTL_KEY : Fld := ⟨TWB_NVCTL, 16, 8⟩
abbrev TWB_NVCTL_HOLD : Fld := ⟨TWB_NVCTL, 1, 1⟩
abbrev TWB_NVCTL_WPOPEN : Fld := ⟨TWB_NVCTL, 0, 1⟩
/-- Word address of TWB_NVSTAT. -/
abbrev TWB_NVSTAT : Nat := 0x1211
abbrev TWB_NVSTAT_REMAIN : Fld := ⟨TWB_NVSTAT, 0, 10⟩
/-- Word address of TWB_NVCNT. -/
abbrev TWB_NVCNT : Nat := 0x1212
abbrev TWB_NVCNT_ARBLOST : Fld := ⟨TWB_NVCNT, 16, 8⟩
abbrev TWB_NVCNT_STRETCHTO : Fld := ⟨TWB_NVCNT, 8, 8⟩
abbrev TWB_NVCNT_NACK : Fld := ⟨TWB_NVCNT, 0, 8⟩
/-- Word address of TWB_NVCNT2. -/
abbrev TWB_NVCNT2 : Nat := 0x1213
abbrev TWB_NVCNT2_RECOVER : Fld := ⟨TWB_NVCNT2, 0, 8⟩

/-! SVC registers and fields. -/

/-- Word address of SVC_STAT. -/
abbrev SVC_STAT : Nat := 0x1300
abbrev SVC_STAT_ENTRY : Fld := ⟨SVC_STAT, 9, 3⟩
abbrev SVC_STAT_SAFE_SET : Fld := ⟨SVC_STAT, 8, 1⟩
abbrev SVC_STAT_INJ_UNLOCK : Fld := ⟨SVC_STAT, 7, 1⟩
abbrev SVC_STAT_LOCKOUT : Fld := ⟨SVC_STAT, 6, 1⟩
abbrev SVC_STAT_FAILS : Fld := ⟨SVC_STAT, 4, 2⟩
abbrev SVC_STAT_SESSION : Fld := ⟨SVC_STAT, 3, 1⟩
abbrev SVC_STAT_METER : Fld := ⟨SVC_STAT, 2, 1⟩
abbrev SVC_STAT_STATIC : Fld := ⟨SVC_STAT, 1, 1⟩
abbrev SVC_STAT_SERVICE : Fld := ⟨SVC_STAT, 0, 1⟩
/-- Word address of SVC_UNLOCK. -/
abbrev SVC_UNLOCK : Nat := 0x1301
abbrev SVC_UNLOCK_CODE : Fld := ⟨SVC_UNLOCK, 0, 24⟩
/-- Word address of SVC_AMON. -/
abbrev SVC_AMON : Nat := 0x1302
abbrev SVC_AMON_ARG : Fld := ⟨SVC_AMON, 8, 8⟩
abbrev SVC_AMON_POINT : Fld := ⟨SVC_AMON, 0, 5⟩
/-- Word address of SVC_EL. -/
abbrev SVC_EL : Nat := 0x1303
abbrev SVC_EL_INDEX : Fld := ⟨SVC_EL, 8, 8⟩
abbrev SVC_EL_STATE : Fld := ⟨SVC_EL, 0, 3⟩
/-- Word address of SVC_ERR. -/
abbrev SVC_ERR : Nat := 0x1304
abbrev SVC_ERR_FRAMING : Fld := ⟨SVC_ERR, 16, 8⟩
abbrev SVC_ERR_DROPPED : Fld := ⟨SVC_ERR, 8, 8⟩
abbrev SVC_ERR_LONG : Fld := ⟨SVC_ERR, 0, 8⟩
/-- Word address of SVC_INJ[i]. -/
abbrev SVC_INJ (i : Nat) : Nat := 0x1310 + i
abbrev SVC_INJ_REORDER (i : Nat) : Fld := ⟨SVC_INJ i, 20, 1⟩
abbrev SVC_INJ_KR (i : Nat) : Fld := ⟨SVC_INJ i, 16, 4⟩
abbrev SVC_INJ_CORRUPT (i : Nat) : Fld := ⟨SVC_INJ i, 12, 1⟩
abbrev SVC_INJ_KC (i : Nat) : Fld := ⟨SVC_INJ i, 8, 4⟩
abbrev SVC_INJ_DROP (i : Nat) : Fld := ⟨SVC_INJ i, 4, 1⟩
abbrev SVC_INJ_KD (i : Nat) : Fld := ⟨SVC_INJ i, 0, 4⟩
/-- Word address of SVC_INJCNT[i]. -/
abbrev SVC_INJCNT (i : Nat) : Nat := 0x1318 + i
abbrev SVC_INJCNT_DROPS (i : Nat) : Fld := ⟨SVC_INJCNT i, 16, 8⟩
abbrev SVC_INJCNT_CORRUPTS (i : Nat) : Fld := ⟨SVC_INJCNT i, 8, 8⟩
abbrev SVC_INJCNT_REORDERS (i : Nat) : Fld := ⟨SVC_INJCNT i, 0, 8⟩

/-- Directory rows of the SYS block. -/
def rowsSYS : List RegRow := [
  ⟨0x0000, 1, 1, 0x540624, 0x0, 0x000000, 0x000000, 0x000000, 0x000000, 0xFFFFFF⟩,
  ⟨0x0001, 1, 1, 0x004231, 0x0, 0x000000, 0x000000, 0x000000, 0x000000, 0x01FFFF⟩,
  ⟨0x0002, 1, 1, 0x000000, 0x0, 0x000000, 0x000000, 0xFFFFFF, 0x000000, 0x000000⟩,
  ⟨0x0003, 1, 1, 0x010001, 0x0, 0x000000, 0x0000FF, 0x000000, 0x000000, 0x0FE000⟩,
  ⟨0x0004, 1, 1, 0x000000, 0x0, 0x000000, 0x000000, 0x000000, 0x000000, 0x0003FF⟩,
  ⟨0x0005, 1, 1, 0x000000, 0x0, 0x000000, 0x000000, 0x000000, 0x000000, 0xFFFFFF⟩,
  ⟨0x0006, 1, 1, 0x000009, 0x0, 0x000000, 0x000030, 0xFF0000, 0x000000, 0x00000F⟩,
  ⟨0x0007, 1, 1, 0x000002, 0x0, 0x000000, 0x0000C0, 0x000000, 0x000000, 0x00003F⟩,
  ⟨0x0008, 1, 1, 0x000000, 0x0, 0x000000, 0x000000, 0x000000, 0xFF0001, 0x000000⟩,
  ⟨0x0010, 1, 1, 0x000000, 0x0, 0x000000, 0x000000, 0x000000, 0x000000, 0x0FFFFF⟩,
  ⟨0x0011, 1, 1, 0x000000, 0x0, 0x000000, 0x000000, 0x000000, 0x000000, 0xFFFFFF⟩,
  ⟨0x0012, 1, 1, 0x000000, 0x0, 0x000000, 0x000000, 0x000000, 0x000000, 0x01FFFF⟩,
  ⟨0x0013, 1, 1, 0x000000, 0x0, 0x000000, 0x000000, 0x000000, 0x000000, 0xFFFFFF⟩,
  ⟨0x0014, 1, 1, 0x000000, 0x0, 0x000000, 0x000000, 0x000000, 0x000000, 0x000003⟩,
  ⟨0x0020, 1, 1, 0x000000, 0x0, 0x000000, 0x000000, 0x000000, 0xFF000F, 0x000000⟩,
  ⟨0x0021, 1, 1, 0x000000, 0x0, 0x03FFFF, 0x000000, 0x000000, 0x000000, 0x000000⟩,
  ⟨0x0022, 1, 1, 0x000000, 0x0, 0x001FFF, 0x000000, 0x000000, 0x000000, 0x000000⟩,
  ⟨0x0023, 1, 1, 0x000000, 0x0, 0x003FFF, 0x000000, 0x000000, 0x000000, 0x000000⟩,
  ⟨0x0024, 1, 1, 0x000000, 0x0, 0x000000, 0x000000, 0x000000, 0x000000, 0xFFF8F1⟩,
  ⟨0x0025, 1, 1, 0x000000, 0x0, 0x000000, 0x000000, 0x000000, 0x000000, 0x00000F⟩,
  ⟨0x0026, 1, 1, 0x000000, 0x0, 0x000000, 0x000000, 0x000000, 0x000000, 0xFFFFFF⟩]

/-- Directory rows of the PWR block. -/
def rowsPWR : List RegRow := [
  ⟨0x0100, 1, 1, 0x00003F, 0x0, 0x000000, 0x000000, 0x000000, 0x000000, 0x0FFFFF⟩,
  ⟨0x0101, 1, 1, 0x000000, 0x0, 0x000000, 0x000000, 0x000000, 0x000317, 0x000000⟩,
  ⟨0x0102, 1, 1, 0x000000, 0x0, 0x00007F, 0x000000, 0x000000, 0x000000, 0x000000⟩,
  ⟨0x0103, 1, 1, 0x000000, 0x0, 0x000000, 0x007F00, 0x000000, 0x000000, 0x0F0071⟩,
  ⟨0x0104, 1, 1, 0x000000, 0x0, 0x000000, 0x000000, 0x00FFFF, 0x000000, 0x7F0000⟩,
  ⟨0x0105, 1, 1, 0x000000, 0x0, 0x000001, 0x000000, 0xFF0000, 0x000002, 0x000004⟩,
  ⟨0x0106, 1, 1, 0x000000, 0x0, 0x000000, 0x000000, 0x000000, 0x000000, 0x000FFF⟩,
  ⟨0x0107, 1, 1, 0x000000, 0x0, 0x000000, 0x000000, 0x000000, 0x000000, 0x0007FF⟩]

/-- Directory rows of the TIME block. -/
def rowsTIME : List RegRow := [
  ⟨0x0200, 1, 1, 0x000000, 0x0, 0x000000, 0x000000, 0x000000, 0x000000, 0xFFFFFF⟩,
  ⟨0x0201, 1, 1, 0x000000, 0x0, 0x000000, 0x000000, 0x000000, 0x000000, 0xFFFFFF⟩,
  ⟨0x0202, 1, 1, 0x000000, 0x0, 0x000000, 0x000000, 0x000000, 0x000000, 0xFFFFFF⟩,
  ⟨0x0203, 1, 1, 0x000000, 0x0, 0x000000, 0x000000, 0x000000, 0x000000, 0x00003F⟩,
  ⟨0x0204, 1, 1, 0x000000, 0x0, 0x000000, 0x000000, 0x000000, 0x000000, 0xFFFFFF⟩,
  ⟨0x0208, 1, 1, 0x000000, 0x0, 0xFFFE00, 0x000000, 0x000000, 0x000000, 0x000000⟩,
  ⟨0x0209, 1, 1, 0x000000, 0x0, 0xFFFFFF, 0x000000, 0x000000, 0x000000, 0x000000⟩,
  ⟨0x020A, 1, 1, 0x000000, 0x0, 0xFFFFFF, 0x000000, 0x000000, 0x000000, 0x000000⟩,
  ⟨0x020B, 1, 1, 0x000000, 0x0, 0xFFFFFF, 0x000000, 0x000000, 0x000000, 0x000000⟩,
  ⟨0x020C, 1, 1, 0x000000, 0x0, 0x000000, 0x000000, 0x000000, 0x00000F, 0x000000⟩,
  ⟨0x0210, 1, 1, 0x000000, 0x0, 0x000000, 0x000010, 0x000000, 0x000000, 0x00002F⟩,
  ⟨0x0211, 1, 1, 0x000000, 0x0, 0x000000, 0x000000, 0x000000, 0x000000, 0xFFFFFF⟩,
  ⟨0x0212, 1, 1, 0x000000, 0x0, 0x000000, 0x000000, 0x000000, 0x000000, 0xFFFFFF⟩,
  ⟨0x0213, 1, 1, 0x000000, 0x0, 0x000000, 0x000000, 0x000000, 0x000000, 0xFFFFFF⟩,
  ⟨0x0214, 1, 1, 0x000000, 0x0, 0x000000, 0x000000, 0xFFFFFF, 0x000000, 0x000000⟩,
  ⟨0x0218, 1, 1, 0x000000, 0x0, 0xFFFE00, 0x000000, 0x000000, 0x000000, 0x000000⟩,
  ⟨0x0219, 1, 1, 0x000000, 0x0, 0xFFFFFF, 0x000000, 0x000000, 0x000000, 0x000000⟩,
  ⟨0x021A, 1, 1, 0x000000, 0x0, 0xFFFFFF, 0x000000, 0x000000, 0x000000, 0x000000⟩,
  ⟨0x021B, 1, 1, 0x000000, 0x0, 0x000001, 0x000002, 0x000000, 0x000000, 0x000004⟩]

/-- Directory rows of the EVR block. -/
def rowsEVR : List RegRow := [
  ⟨0x0300, 1, 1, 0x000000, 0x0, 0x000000, 0x000000, 0xFFFFFF, 0x000000, 0x000000⟩,
  ⟨0x0310, 1, 1, 0x000000, 0x0, 0x0001FF, 0x000000, 0x000000, 0x000000, 0x000000⟩,
  ⟨0x0311, 1, 1, 0x000000, 0x0, 0x03EFFF, 0x000000, 0x000000, 0x000000, 0x0C0000⟩,
  ⟨0x0312, 1, 1, 0x000000, 0x0, 0x000000, 0x000000, 0x000000, 0x000000, 0xFFFFFC⟩,
  ⟨0x0314, 1, 1, 0x000000, 0x0, 0xFFFFFF, 0x000000, 0x000000, 0x000000, 0x000000⟩,
  ⟨0x0315, 1, 1, 0x000000, 0x0, 0xFFFFFF, 0x000000, 0x000000, 0x000000, 0x000000⟩,
  ⟨0x0316, 1, 1, 0x000000, 0x0, 0x000000, 0x000000, 0x000000, 0x0001FF, 0x000000⟩,
  ⟨0x0320, 1, 1, 0x0003FF, 0x0, 0x000000, 0x000000, 0x000000, 0x000000, 0xFFE7FF⟩,
  ⟨0x0340, 1, 1, 0x0003FF, 0x0, 0x000000, 0x000000, 0x000000, 0x000000, 0xFFE7FF⟩,
  ⟨0x0321, 1, 1, 0x000000, 0x0, 0x000000, 0x000000, 0x000000, 0x000000, 0x0007FF⟩,
  ⟨0x0341, 1, 1, 0x000000, 0x0, 0x000000, 0x000000, 0x000000, 0x000000, 0x0007FF⟩,
  ⟨0x0322, 1, 1, 0x000000, 0x0, 0x0007FF, 0x000000, 0x000000, 0x000000, 0x000000⟩,
  ⟨0x0342, 1, 1, 0x000000, 0x0, 0x0007FF, 0x000000, 0x000000, 0x000000, 0x000000⟩,
  ⟨0x0323, 1, 1, 0x000000, 0x0, 0x000000, 0x000000, 0x000000, 0xFFFFFF, 0x000000⟩,
  ⟨0x0343, 1, 1, 0x000000, 0x0, 0x000000, 0x000000, 0x000000, 0xFFFFFF, 0x000000⟩,
  ⟨0x0324, 1, 1, 0x000000, 0x0, 0x000000, 0x000000, 0x000000, 0x0001FF, 0x000000⟩,
  ⟨0x0344, 1, 1, 0x000000, 0x0, 0x000000, 0x000000, 0x000000, 0x0001FF, 0x000000⟩,
  ⟨0x0325, 1, 1, 0x000000, 0x0, 0x000000, 0x000000, 0x000000, 0x000001, 0x000000⟩,
  ⟨0x0345, 1, 1, 0x000000, 0x0, 0x000000, 0x000000, 0x000000, 0x000001, 0x000000⟩,
  ⟨0x0326, 1, 1, 0x000000, 0x0, 0x000001, 0x000000, 0x000000, 0x000000, 0x000000⟩,
  ⟨0x0346, 1, 1, 0x000000, 0x0, 0x000001, 0x000000, 0x000000, 0x000000, 0x000000⟩,
  ⟨0x0327, 1, 1, 0x000000, 0x0, 0x000000, 0x000000, 0xFFFFFF, 0x000000, 0x000000⟩,
  ⟨0x0347, 1, 1, 0x000000, 0x0, 0x000000, 0x000000, 0xFFFFFF, 0x000000, 0x000000⟩,
  ⟨0x0328, 1, 1, 0x000000, 0x0, 0x000000, 0x000000, 0x000000, 0x000000, 0x0007FF⟩,
  ⟨0x0348, 1, 1, 0x000000, 0x0, 0x000000, 0x000000, 0x000000, 0x000000, 0x0007FF⟩,
  ⟨0x0329, 1, 1, 0x000000, 0x0, 0x000000, 0x000000, 0x000000, 0x000000, 0xF01FFF⟩,
  ⟨0x0349, 1, 1, 0x000000, 0x0, 0x000000, 0x000000, 0x000000, 0x000000, 0xF01FFF⟩,
  ⟨0x032A, 1, 1, 0x000000, 0x0, 0x000000, 0x000000, 0xFFFFFF, 0x000000, 0x000000⟩,
  ⟨0x034A, 1, 1, 0x000000, 0x0, 0x000000, 0x000000, 0xFFFFFF, 0x000000, 0x000000⟩,
  ⟨0x0330, 1, 15, 0x000000, 0x0, 0x000000, 0x000000, 0x000000, 0x000000, 0x001FFF⟩]

/-- Directory rows of the EVR block (continued). -/
def rowsEVR1 : List RegRow := [
  ⟨0x0350, 1, 15, 0x000000, 0x0, 0x000000, 0x000000, 0x000000, 0x000000, 0x001FFF⟩,
  ⟨0x0360, 1, 4, 0x000000, 0x0, 0x000000, 0x000000, 0x000FFF, 0x000000, 0xDFE000⟩,
  ⟨0x0364, 1, 1, 0x000000, 0x0, 0x000000, 0x000000, 0xFF0000, 0x000000, 0x007FC3⟩]

/-- Directory rows of the CFG block. -/
def rowsCFG : List RegRow := [
  ⟨0x0400, 1, 1, 0x000000, 0x0, 0x000000, 0x000000, 0x000000, 0x000000, 0xFFC000⟩,
  ⟨0x0401, 1, 1, 0x000000, 0x0, 0x000000, 0x000000, 0x000000, 0xFF000F, 0x000000⟩,
  ⟨0x0402, 1, 1, 0x000000, 0x0, 0x0000FF, 0x000000, 0x000000, 0x000000, 0x000000⟩,
  ⟨0x0403, 1, 1, 0x000008, 0x0, 0x00007F, 0x000000, 0x000000, 0x000000, 0x000000⟩,
  ⟨0x0404, 1, 1, 0x000000, 0x0, 0x000000, 0x000000, 0x000000, 0x000000, 0xFFFFFF⟩,
  ⟨0x0405, 1, 1, 0x000000, 0x0, 0x000000, 0x000000, 0x000000, 0x000000, 0xFFFFFF⟩,
  ⟨0x0406, 1, 1, 0x000000, 0x0, 0x000000, 0x000000, 0x000000, 0x000000, 0xFF0FFF⟩,
  ⟨0x0407, 1, 1, 0x000000, 0x0, 0x000000, 0x000000, 0xFFFFFF, 0x000000, 0x000000⟩,
  ⟨0x0408, 1, 1, 0x000000, 0x0, 0x000000, 0x000000, 0x00FFFF, 0x000000, 0x000000⟩,
  ⟨0x0409, 1, 1, 0x000000, 0x0, 0x000000, 0x000000, 0x000000, 0x000000, 0x3FFFFF⟩,
  ⟨0x040A, 1, 1, 0x000000, 0x0, 0x000000, 0x000000, 0x000000, 0x000000, 0xFFC00F⟩,
  ⟨0x040B, 1, 1, 0x000000, 0x0, 0x000000, 0x000000, 0x000000, 0x000000, 0x0007FF⟩,
  ⟨0x0410, 1, 1, 0x000000, 0x0, 0xFFFFFF, 0x000000, 0x000000, 0x000000, 0x000000⟩,
  ⟨0x0411, 1, 1, 0x000000, 0x0, 0x000000, 0x000000, 0x000000, 0x000000, 0xFFFFFF⟩,
  ⟨0x0500, 1, 256, 0x000000, 0x0, 0xFFFFFF, 0x000000, 0x000000, 0x000000, 0x000000⟩]

/-- Directory rows of the SCAN block. -/
def rowsSCAN : List RegRow := [
  ⟨0x0600, 1, 1, 0x001840, 0x0, 0x000000, 0x000000, 0x000000, 0x000000, 0x00FF7D⟩,
  ⟨0x0601, 1, 1, 0x000000, 0x0, 0x000003, 0x000000, 0x000000, 0x000000, 0x000000⟩,
  ⟨0x0602, 1, 1, 0x000000, 0x0, 0x000000, 0x000000, 0x000000, 0x000000, 0xFFFFFF⟩,
  ⟨0x0603, 1, 1, 0x000000, 0x0, 0x000000, 0x000000, 0x000000, 0x000000, 0xFFFFFF⟩,
  ⟨0x0604, 1, 1, 0x000000, 0x0, 0x000000, 0x000000, 0x000000, 0x000000, 0xFFFFFF⟩,
  ⟨0x0605, 1, 1, 0x000000, 0x0, 0x000000, 0x000000, 0x000000, 0x000000, 0xFFFFFF⟩,
  ⟨0x0606, 1, 1, 0x000000, 0x0, 0x000000, 0x000000, 0x000000, 0x000000, 0x0000FF⟩,
  ⟨0x0608, 1, 8, 0x000000, 0x0, 0x000000, 0x000000, 0x000000, 0x000000, 0x8001FF⟩,
  ⟨0x0610, 1, 1, 0x0000FF, 0x0, 0x000000, 0x000000, 0x000000, 0x000000, 0x0000FF⟩,
  ⟨0x0611, 1, 1, 0x000000, 0x0, 0x000000, 0x000000, 0x000000, 0x000000, 0xFFFFFF⟩,
  ⟨0x0612, 1, 1, 0x000000, 0x0, 0x000000, 0x000000, 0x000000, 0x000000, 0x0000FF⟩,
  ⟨0x0613, 1, 1, 0x000000, 0x0, 0x000000, 0x000000, 0x000000, 0x000000, 0xFFFFFF⟩,
  ⟨0x0614, 1, 1, 0x000000, 0x0, 0x000000, 0x000000, 0xFFFFFF, 0x000000, 0x000000⟩,
  ⟨0x0618, 1, 7, 0x000000, 0x0, 0x000000, 0x000000, 0x000000, 0x000000, 0xFFFFFF⟩,
  ⟨0x0640, 1, 64, 0x000000, 0x10000, 0x000000, 0x000000, 0x000000, 0x000000, 0xFF00FF⟩]

/-- Directory rows of the TRK block. -/
def rowsTRK : List RegRow := [
  ⟨0x0700, 1, 1, 0x000000, 0x0, 0x000000, 0x000000, 0x000000, 0x000000, 0x03FFDF⟩,
  ⟨0x0701, 1, 1, 0x000000, 0x0, 0x00001E, 0x000000, 0x000000, 0x000001, 0x000000⟩,
  ⟨0x0708, 1, 8, 0x000000, 0x0, 0x000000, 0x000000, 0x000000, 0x000000, 0xFFFFFF⟩,
  ⟨0x0710, 1, 1, 0x000000, 0x0, 0x000000, 0x000000, 0x000000, 0x000000, 0x000F3F⟩,
  ⟨0x0711, 1, 1, 0x000000, 0x0, 0x000000, 0x000000, 0xFFFFFF, 0x000000, 0x000000⟩,
  ⟨0x0712, 1, 1, 0x000000, 0x0, 0x000000, 0x000000, 0xFFFFFF, 0x000000, 0x000000⟩,
  ⟨0x0713, 1, 1, 0x000000, 0x0, 0x000000, 0x000000, 0x00FFFF, 0x000000, 0x000000⟩,
  ⟨0x0720, 1, 1, 0x000000, 0x0, 0x000000, 0x000000, 0x000000, 0x000001, 0x000000⟩,
  ⟨0x0721, 1, 1, 0x000000, 0x0, 0x000000, 0x000000, 0x000000, 0x000000, 0x003FFF⟩,
  ⟨0x0722, 1, 1, 0x000000, 0x0, 0x000000, 0x000000, 0xFFFFFF, 0x000000, 0x000000⟩,
  ⟨0x0724, 1, 1, 0x000000, 0x0, 0xF0FF7C, 0x000000, 0x000000, 0x000003, 0x000000⟩,
  ⟨0x0725, 1, 1, 0x000000, 0x0, 0x003FFF, 0x000000, 0x000000, 0x000000, 0x000000⟩,
  ⟨0x0726, 1, 1, 0x000000, 0x0, 0x0003FF, 0x000000, 0x000000, 0x000000, 0x000000⟩,
  ⟨0x0727, 1, 1, 0x000000, 0x0, 0x000000, 0x000000, 0xFF0000, 0x000000, 0x00FF1F⟩,
  ⟨0x0728, 1, 1, 0x000000, 0x0, 0x000000, 0x000000, 0x000000, 0x000000, 0xFFFFFF⟩,
  ⟨0x0729, 1, 1, 0x000000, 0x0, 0x000000, 0x000000, 0x000000, 0x000000, 0x003FFF⟩]

/-- Directory rows of the RAIL block. -/
def rowsRAIL : List RegRow := [
  ⟨0x0800, 1, 1, 0x000000, 0x0, 0x000000, 0x000000, 0x000000, 0x000000, 0xFFF003⟩,
  ⟨0x0801, 1, 1, 0x000000, 0x0, 0x000000, 0x000000, 0x000000, 0xFF0001, 0x000000⟩,
  ⟨0x0802, 1, 1, 0x000000, 0x0, 0x000000, 0x000000, 0x000000, 0xFF9FFF, 0x000000⟩,
  ⟨0x0803, 1, 1, 0x000000, 0x0, 0x000000, 0x000000, 0x000000, 0xFF07FF, 0x000000⟩,
  ⟨0x0804, 1, 1, 0x000000, 0x0, 0x000000, 0x000000, 0x000000, 0x000000, 0x001FFF⟩,
  ⟨0x0805, 1, 1, 0x000000, 0x0, 0x000000, 0x000000, 0x000000, 0x000000, 0x001FFF⟩,
  ⟨0x0806, 1, 1, 0x000000, 0x0, 0x000000, 0x000000, 0x000000, 0x000000, 0x0007FF⟩,
  ⟨0x0807, 1, 1, 0x000000, 0x0, 0x000000, 0x000000, 0x000000, 0x000000, 0x0007FF⟩,
  ⟨0x0808, 1, 1, 0x000000, 0x0, 0x000000, 0x000000, 0x000000, 0x000000, 0x001FFF⟩,
  ⟨0x0809, 1, 1, 0x000000, 0x0, 0x000000, 0x000000, 0xFFFFFF, 0x000000, 0x000000⟩,
  ⟨0x080A, 1, 1, 0x000000, 0x0, 0x000000, 0x000000, 0xFFFFFF, 0x000000, 0x000000⟩,
  ⟨0x080B, 1, 1, 0x000000, 0x0, 0x000000, 0x000000, 0x000000, 0x000000, 0x00FFFF⟩]

/-- Directory rows of the LAMP block. -/
def rowsLAMP : List RegRow := [
  ⟨0x0900, 1, 1, 0x000000, 0x0, 0x000000, 0x000000, 0x000000, 0x000000, 0xE003FF⟩,
  ⟨0x0901, 1, 1, 0x000000, 0x0, 0x000000, 0x000000, 0x000000, 0x000000, 0x00FFFF⟩,
  ⟨0x0902, 1, 1, 0x000000, 0x0, 0x000000, 0x000000, 0x000000, 0xFFFFFF, 0x000000⟩,
  ⟨0x0904, 1, 1, 0x000000, 0x0, 0x8003FF, 0x000000, 0x000000, 0x000000, 0x000000⟩,
  ⟨0x0905, 1, 1, 0x000000, 0x0, 0xFF1FFF, 0x000000, 0x000000, 0x000000, 0x000000⟩,
  ⟨0x0906, 1, 1, 0x000000, 0x0, 0x000000, 0x000000, 0x000000, 0x003FFF, 0x000000⟩,
  ⟨0x0908, 1, 1, 0x000000, 0x0, 0x000000, 0x000000, 0xFFFFFF, 0x000000, 0x000000⟩,
  ⟨0x0909, 1, 1, 0x000000, 0x0, 0x000000, 0x000000, 0x00FFFF, 0x000000, 0x3F0000⟩,
  ⟨0x090A, 1, 1, 0x000000, 0x0, 0x000000, 0x000000, 0x000000, 0x000000, 0x0000FF⟩,
  ⟨0x090C, 1, 1, 0x000000, 0x0, 0x0003FF, 0x000000, 0x000000, 0x000000, 0x000000⟩,
  ⟨0x090D, 1, 1, 0x000000, 0x0, 0x000000, 0x000000, 0x000000, 0x000000, 0xFFFFFF⟩,
  ⟨0x0910, 1, 8, 0x000000, 0x0, 0x000000, 0x000000, 0x000000, 0x000000, 0xFFF87F⟩,
  ⟨0x0918, 1, 8, 0x000000, 0x0, 0x000000, 0x000000, 0x000000, 0x000000, 0x001FFF⟩,
  ⟨0x0940, 1, 22, 0x000000, 0x0, 0x000000, 0xFFFFFF, 0x000000, 0x000000, 0x000000⟩]

/-- Directory rows of the IRX block. -/
def rowsIRX : List RegRow := [
  ⟨0x0B00, 1, 1, 0x000000, 0x0, 0x000000, 0x000000, 0x000000, 0x000000, 0xBEFFFF⟩,
  ⟨0x0B01, 1, 1, 0x000000, 0x0, 0x000003, 0x000000, 0x000000, 0x000004, 0x000000⟩,
  ⟨0x0B02, 1, 1, 0x000000, 0x0, 0x000000, 0x000000, 0x000000, 0x000000, 0xFFFFFF⟩,
  ⟨0x0B03, 1, 1, 0x000000, 0x0, 0x000000, 0x000000, 0x000000, 0x000000, 0xFFFFFF⟩,
  ⟨0x0B04, 1, 1, 0x000000, 0x0, 0x000000, 0x000000, 0xFFFFFF, 0x000000, 0x000000⟩,
  ⟨0x0B05, 1, 1, 0x000000, 0x0, 0x000000, 0x000000, 0x00FFFF, 0x000000, 0x000000⟩,
  ⟨0x0B80, 1, 128, 0x000000, 0x0, 0x000000, 0x000000, 0x000000, 0x000000, 0x80FFFF⟩]

/-- Directory rows of the ITX block. -/
def rowsITX : List RegRow := [
  ⟨0x0B20, 1, 1, 0x000000, 0x0, 0x000000, 0x000000, 0x000000, 0x000000, 0xB3FDFF⟩,
  ⟨0x0B21, 1, 1, 0x000000, 0x0, 0x01FFFF, 0x000000, 0x000000, 0x000000, 0x000000⟩,
  ⟨0x0B22, 1, 1, 0x000000, 0x0, 0x000000, 0x000000, 0x000000, 0xFF35FF, 0x000000⟩,
  ⟨0x0B23, 1, 1, 0x000000, 0x0, 0x0000FF, 0x000000, 0x000000, 0x000000, 0x000000⟩,
  ⟨0x0B24, 1, 1, 0x000000, 0x0, 0x0001FF, 0x000000, 0x000000, 0x000000, 0x000000⟩,
  ⟨0x0B25, 1, 1, 0x000000, 0x0, 0xFFFFFF, 0x000000, 0x000000, 0x000000, 0x000000⟩,
  ⟨0x0B26, 1, 1, 0x000000, 0x0, 0x000000, 0x000000, 0x00FFFF, 0x000000, 0x000000⟩]

/-- Directory rows of the HKA block. -/
def rowsHKA : List RegRow := [
  ⟨0x0C00, 1, 1, 0x000000, 0x0, 0x000000, 0x000000, 0x000000, 0x000000, 0xFEFF00⟩,
  ⟨0x0C01, 1, 1, 0x000000, 0x0, 0x000003, 0x000000, 0x000000, 0xFF0000, 0x000000⟩,
  ⟨0x0C02, 1, 1, 0x000000, 0x0, 0x000000, 0x000000, 0x000000, 0xFFFB1F, 0x000000⟩,
  ⟨0x0C04, 1, 1, 0x000000, 0x0, 0x000000, 0x000000, 0x000000, 0x00001F, 0x000000⟩,
  ⟨0x0C05, 1, 1, 0x000000, 0x0, 0x000000, 0x000000, 0x000000, 0x000000, 0xFFFFFF⟩,
  ⟨0x0C06, 1, 1, 0x000000, 0x0, 0x000000, 0x000000, 0x000000, 0x000000, 0xFFFFFF⟩,
  ⟨0x0C07, 1, 1, 0x000000, 0x0, 0x000000, 0x000000, 0x000000, 0x000000, 0xFFFFFF⟩,
  ⟨0x0C08, 1, 1, 0x7FFFFF, 0x0, 0x000000, 0x000000, 0x000000, 0x000000, 0xFFFFFF⟩,
  ⟨0x0C09, 1, 1, 0x800000, 0x0, 0x000000, 0x000000, 0x000000, 0x000000, 0xFFFFFF⟩,
  ⟨0x0C0A, 1, 1, 0x000000, 0x0, 0x000000, 0x000000, 0x000000, 0x000000, 0x8FFFFF⟩,
  ⟨0x0C10, 1, 1, 0x000000, 0x0, 0x000000, 0x00FFFF, 0x000000, 0x000000, 0x000000⟩,
  ⟨0x0C11, 1, 1, 0x000000, 0x0, 0x000000, 0x000000, 0xFFFFFF, 0x000000, 0x000000⟩,
  ⟨0x0C20, 4, 16, 0x000000, 0x0, 0x000000, 0x000000, 0x000000, 0x000000, 0xFFFFFF⟩,
  ⟨0x0C21, 4, 16, 0x000000, 0x0, 0x000000, 0x000000, 0x000000, 0x000000, 0xFFFFFF⟩,
  ⟨0x0C22, 4, 16, 0x000000, 0x0, 0x000000, 0x000000, 0x000000, 0x000000, 0xFFFFFF⟩,
  ⟨0x0C23, 4, 16, 0x000000, 0x0, 0x000000, 0x000000, 0x000000, 0x000000, 0xFFFFFF⟩,
  ⟨0x0C60, 2, 4, 0x000000, 0x0, 0x000000, 0x000000, 0x000000, 0x000000, 0xFFFFFF⟩,
  ⟨0x0C61, 2, 4, 0x400000, 0x0, 0x000000, 0x000000, 0x000000, 0x000000, 0xFFFFFF⟩,
  ⟨0x0C68, 1, 1, 0x000000, 0x0, 0x000000, 0x000000, 0x000000, 0xFF0037, 0x000000⟩,
  ⟨0x0C69, 1, 1, 0x000000, 0x0, 0xFFFFFF, 0x000000, 0x000000, 0x000000, 0x000000⟩,
  ⟨0x0C6A, 1, 1, 0x000000, 0x0, 0x000000, 0x000000, 0x000000, 0x000000, 0xF00000⟩,
  ⟨0x0C70, 1, 1, 0x000000, 0x0, 0x001FFF, 0x000000, 0x000000, 0x000000, 0x000000⟩,
  ⟨0x0C72, 1, 1, 0x000000, 0x0, 0x00000F, 0x000000, 0x000000, 0x000000, 0x000000⟩]

/-- Directory rows of the CAL block. -/
def rowsCAL : List RegRow := [
  ⟨0x0D00, 1, 1, 0x000000, 0x0, 0x000000, 0x000000, 0x000000, 0x000000, 0xFF00FF⟩,
  ⟨0x0D01, 1, 1, 0x000000, 0x0, 0x000000, 0x000000, 0x000000, 0xFF0003, 0x000000⟩,
  ⟨0x0D02, 1, 1, 0x000000, 0x0, 0x000000, 0x000000, 0x000000, 0x000000, 0xFFFFFF⟩,
  ⟨0x0D03, 1, 1, 0x000000, 0x0, 0x000000, 0x000000, 0xFFFFFF, 0x000000, 0x000000⟩,
  ⟨0x0D08, 1, 1, 0x0000F0, 0x0, 0x000000, 0x000000, 0x000000, 0x000000, 0x0000F3⟩,
  ⟨0x0D09, 1, 1, 0x000000, 0x0, 0x000000, 0x000000, 0x000000, 0x000000, 0x80FFFF⟩,
  ⟨0x0D10, 1, 1, 0x000000, 0x0, 0x00007F, 0x000000, 0x000000, 0x000000, 0x000000⟩,
  ⟨0x0D11, 1, 1, 0x000000, 0x0, 0x000000, 0x000000, 0x000000, 0x000000, 0x800FFF⟩,
  ⟨0x0D12, 1, 1, 0x000FFF, 0x0, 0x000000, 0x000000, 0x000000, 0x000000, 0x000FFF⟩,
  ⟨0x0D18, 1, 1, 0x000000, 0x0, 0x000000, 0x000000, 0x000000, 0x000000, 0x00007F⟩,
  ⟨0x0D19, 1, 1, 0x000000, 0x0, 0x000000, 0x000000, 0x000000, 0x000000, 0xFFFFFF⟩,
  ⟨0x0D20, 1, 1, 0x000000, 0x0, 0x000000, 0x000000, 0x000000, 0x000000, 0xFFFFFF⟩,
  ⟨0x0D21, 1, 1, 0x000000, 0x0, 0x000000, 0x000000, 0x000000, 0x000000, 0xFFFFFF⟩,
  ⟨0x0D22, 1, 1, 0x000000, 0x0, 0x000000, 0x000000, 0xFF0000, 0x000000, 0x00007F⟩,
  ⟨0x0D40, 1, 160, 0x00FF3F, 0x0, 0x000000, 0x000000, 0x000000, 0x000000, 0x00FFFF⟩]

/-- Directory rows of the MEM block. -/
def rowsMEM : List RegRow := [
  ⟨0x0E00, 1, 1, 0x000000, 0x0, 0x000000, 0x000000, 0x000000, 0x000000, 0x00001F⟩,
  ⟨0x0E02, 1, 1, 0x00000F, 0x0, 0x00000F, 0x000000, 0x000000, 0x000000, 0x000000⟩,
  ⟨0x0E03, 1, 1, 0x000000, 0x0, 0x000000, 0x000000, 0x000000, 0x000000, 0x00FFFF⟩,
  ⟨0x0E04, 1, 1, 0x000000, 0x0, 0x000000, 0x000000, 0x000000, 0x000000, 0x00FFFF⟩,
  ⟨0x0E05, 1, 1, 0x000000, 0x0, 0x000000, 0x000000, 0xFFFFFF, 0x000000, 0x000000⟩,
  ⟨0x0E06, 1, 1, 0x000000, 0x0, 0x000000, 0x000000, 0x000000, 0x000000, 0x003FFF⟩,
  ⟨0x0E07, 1, 1, 0x000000, 0x0, 0x000000, 0x000000, 0x000000, 0x000000, 0x3FFFFF⟩,
  ⟨0x0E08, 1, 1, 0x000000, 0x0, 0x000000, 0x000000, 0x000000, 0xFF3FFF, 0x000000⟩,
  ⟨0x0E09, 1, 1, 0x000000, 0x0, 0x000000, 0x000000, 0x000000, 0x000000, 0xFFC3FF⟩,
  ⟨0x0E0A, 1, 1, 0x000000, 0x0, 0x000000, 0x000000, 0x0000FF, 0x000000, 0x000000⟩,
  ⟨0x0E0B, 1, 1, 0x000000, 0x0, 0x000000, 0x000000, 0x0000FF, 0x000000, 0x000000⟩,
  ⟨0x0E10, 1, 1, 0x000000, 0x0, 0x00000F, 0x000000, 0x000000, 0x000000, 0x0001F0⟩,
  ⟨0x0E11, 1, 1, 0x000000, 0x0, 0x00000F, 0x000000, 0x000000, 0x000000, 0x0001F0⟩,
  ⟨0x0E12, 1, 1, 0x000000, 0x0, 0x00000F, 0x000000, 0x000000, 0x000000, 0x0001F0⟩,
  ⟨0x0E13, 1, 1, 0x000000, 0x0, 0x00000F, 0x000000, 0x000000, 0x000000, 0x0001F0⟩,
  ⟨0x0E14, 1, 1, 0x000002, 0x0, 0x00000F, 0x000000, 0x000000, 0x000000, 0x0001F0⟩,
  ⟨0x0E15, 1, 1, 0x000003, 0x0, 0x00000F, 0x000000, 0x000000, 0x000000, 0x0001F0⟩,
  ⟨0x0E16, 1, 1, 0x000004, 0x0, 0x00000F, 0x000000, 0x000000, 0x000000, 0x0001F0⟩,
  ⟨0x0E17, 1, 1, 0x000005, 0x0, 0x00000F, 0x000000, 0x000000, 0x000000, 0x0001F0⟩,
  ⟨0x0E18, 1, 1, 0x000000, 0x0, 0x00000F, 0x000000, 0x000000, 0x000000, 0x0001F0⟩,
  ⟨0x0E19, 1, 1, 0x000000, 0x0, 0x00000F, 0x000000, 0x000000, 0x000000, 0x0001F0⟩,
  ⟨0x0E1A, 1, 1, 0x000007, 0x0, 0x00000F, 0x000000, 0x000000, 0x000000, 0x0001F0⟩,
  ⟨0x0E1B, 1, 1, 0x000006, 0x0, 0x00000F, 0x000000, 0x000000, 0x000000, 0x0001F0⟩,
  ⟨0x0E1C, 1, 1, 0x000002, 0x0, 0x00000F, 0x000000, 0x000000, 0x000000, 0x0001F0⟩,
  ⟨0x0E1D, 1, 1, 0x000002, 0x0, 0x00000F, 0x000000, 0x000000, 0x000000, 0x0001F0⟩,
  ⟨0x0E1E, 1, 1, 0x000002, 0x0, 0x00000F, 0x000000, 0x000000, 0x000000, 0x0001F0⟩,
  ⟨0x0E1F, 1, 1, 0x000008, 0x0, 0x00000F, 0x000000, 0x000000, 0x000000, 0x0001F0⟩,
  ⟨0x0E20, 1, 16, 0x000000, 0x0, 0x000000, 0x000000, 0xFFFFFF, 0x000000, 0x000000⟩,
  ⟨0x0E31, 1, 11, 0x000000, 0x0, 0x000000, 0x000000, 0xFFFFFF, 0x000000, 0x000000⟩,
  ⟨0x0E40, 1, 16, 0x000000, 0x0, 0x000000, 0x800000, 0x000000, 0x000000, 0x00FFFF⟩]

/-- Directory rows of the MEM block (continued). -/
def rowsMEM1 : List RegRow := [
  ⟨0x0E50, 1, 16, 0x000000, 0x0, 0x000000, 0x000000, 0x000000, 0x000000, 0xFFFFFF⟩]

/-- Directory rows of the GDE block. -/
def rowsGDE : List RegRow := [
  ⟨0x0F00, 1, 1, 0x000000, 0x0, 0x000000, 0x000000, 0x000000, 0x000000, 0x0F00FF⟩,
  ⟨0x0F01, 1, 1, 0x000000, 0x0, 0x000000, 0x000000, 0xFFFFFF, 0x000000, 0x000000⟩,
  ⟨0x0F02, 1, 1, 0x000000, 0x0, 0x000000, 0x000000, 0x000000, 0x000000, 0x0000FF⟩,
  ⟨0x0F03, 1, 1, 0x000000, 0x0, 0x000000, 0x000000, 0x000000, 0x00007F, 0x000000⟩,
  ⟨0x0F08, 1, 8, 0x000000, 0x0, 0x000000, 0x000000, 0x000000, 0x000000, 0xFF9FFF⟩,
  ⟨0x0F10, 2, 8, 0x000000, 0x0, 0x000000, 0x000000, 0x000000, 0x000000, 0xFFFFFF⟩,
  ⟨0x0F11, 2, 8, 0x000000, 0x0, 0x000000, 0x000000, 0x000000, 0x000000, 0xFFFFFF⟩,
  ⟨0x0F20, 2, 2, 0x000000, 0x0, 0x00FF1F, 0x000000, 0x000000, 0x000000, 0x000000⟩,
  ⟨0x0F21, 2, 2, 0x000000, 0x0, 0xFFFFFF, 0x000000, 0x000000, 0x000000, 0x000000⟩,
  ⟨0x0F40, 1, 64, 0x000000, 0x0, 0xFFFFFF, 0x000000, 0x000000, 0x000000, 0x000000⟩,
  ⟨0x0F80, 2, 48, 0x000000, 0x0, 0x000000, 0x000000, 0x000000, 0x000000, 0xFF3FFF⟩,
  ⟨0x0FE0, 2, 16, 0x000000, 0x0, 0xFF3FFF, 0x000000, 0x000000, 0x000000, 0x000000⟩,
  ⟨0x0F81, 2, 48, 0x000000, 0x0, 0x000000, 0x000000, 0x000000, 0x000000, 0xFFC0FF⟩,
  ⟨0x0FE1, 2, 16, 0x000000, 0x0, 0xFFC0FF, 0x000000, 0x000000, 0x000000, 0x000000⟩]

/-- Directory rows of the EGL block. -/
def rowsEGL : List RegRow := [
  ⟨0x1000, 1, 1, 0x004000, 0x0, 0x000000, 0x000000, 0x000000, 0x000000, 0x7F700F⟩,
  ⟨0x1001, 1, 1, 0x000000, 0x0, 0x00000F, 0x000000, 0x000000, 0xFF00F0, 0x000000⟩,
  ⟨0x1008, 1, 4, 0x000000, 0x0, 0x000000, 0x000000, 0x000000, 0x000000, 0xFF3BFF⟩,
  ⟨0x100C, 1, 4, 0x000000, 0x0, 0x000000, 0x000000, 0x000000, 0x000000, 0x00FFFF⟩,
  ⟨0x1010, 1, 4, 0x000000, 0x0, 0x000000, 0x000000, 0x000000, 0x000000, 0x1FFFFF⟩,
  ⟨0x1018, 1, 4, 0x000000, 0x0, 0x000000, 0x000000, 0xFFFFFF, 0x000000, 0x000000⟩,
  ⟨0x101C, 1, 4, 0x000000, 0x0, 0x000000, 0x000000, 0xFFFFFF, 0x000000, 0x000000⟩,
  ⟨0x1020, 1, 4, 0x000000, 0x0, 0x000000, 0x000000, 0xFFFFFF, 0x000000, 0x000000⟩,
  ⟨0x1028, 1, 1, 0x000000, 0x0, 0x000000, 0x000000, 0xFFFFFF, 0x000000, 0x000000⟩,
  ⟨0x1029, 1, 1, 0x000000, 0x0, 0x000000, 0x000000, 0xFFFFFF, 0x000000, 0x000000⟩,
  ⟨0x102A, 1, 1, 0x000000, 0x0, 0x000000, 0x000000, 0xFFFFFF, 0x000000, 0x000000⟩,
  ⟨0x102B, 1, 1, 0x000000, 0x0, 0x000000, 0x000000, 0xFFFFFF, 0x000000, 0x000000⟩,
  ⟨0x102C, 1, 1, 0x000004, 0x0, 0x000000, 0x000000, 0xFF0000, 0x000000, 0x003F07⟩,
  ⟨0x102D, 1, 1, 0x000000, 0x0, 0x000000, 0x000000, 0x000000, 0x000000, 0xFFFFFF⟩,
  ⟨0x1080, 1, 1, 0x000000, 0x0, 0x000000, 0x000000, 0x000000, 0x000000, 0x1803FF⟩,
  ⟨0x1081, 1, 1, 0x000000, 0x0, 0x000000, 0x000000, 0x000000, 0x000000, 0x3FFFFF⟩,
  ⟨0x1082, 1, 1, 0x000000, 0x0, 0x000000, 0x000000, 0x000000, 0x000000, 0xFF3F3F⟩,
  ⟨0x1083, 1, 1, 0x000000, 0x0, 0x0003FF, 0x000000, 0x000000, 0x000000, 0x000000⟩,
  ⟨0x1084, 1, 1, 0x000000, 0x0, 0x000000, 0x000000, 0x000000, 0x000000, 0xEFFFFF⟩,
  ⟨0x1088, 1, 1, 0x000000, 0x0, 0x0003FF, 0x000000, 0x000000, 0x000000, 0x000000⟩,
  ⟨0x1089, 1, 1, 0x000000, 0x0, 0x000000, 0x000000, 0x000000, 0x000000, 0xF8FFFF⟩,
  ⟨0x108A, 1, 1, 0x000000, 0x0, 0x000000, 0x000000, 0xFFFFFF, 0x000000, 0x000000⟩,
  ⟨0x108B, 1, 1, 0x000000, 0x0, 0x000000, 0x000000, 0x000000, 0xFF03FF, 0x000000⟩,
  ⟨0x108C, 1, 1, 0x000000, 0x0, 0x000000, 0x000000, 0xFFFFFF, 0x000000, 0x000000⟩,
  ⟨0x108D, 1, 1, 0x000000, 0x0, 0x000000, 0x000000, 0xFFFFFF, 0x000000, 0x000000⟩]

/-- Directory rows of the USB block. -/
def rowsUSB : List RegRow := [
  ⟨0x1100, 1, 1, 0x000000, 0x0, 0x000000, 0x000000, 0x000000, 0x000000, 0x013FFF⟩,
  ⟨0x1101, 1, 1, 0x000000, 0x0, 0x000001, 0x000000, 0x000000, 0xFF0000, 0x000000⟩,
  ⟨0x1102, 1, 1, 0x000000, 0x0, 0x000000, 0x000000, 0xFFFFFF, 0x000000, 0x000000⟩,
  ⟨0x1103, 1, 1, 0x000000, 0x0, 0x000000, 0x000000, 0xFFFFFF, 0x000000, 0x000000⟩,
  ⟨0x1104, 1, 1, 0x000000, 0x0, 0x000000, 0x000000, 0x000000, 0x000000, 0x00C1FF⟩,
  ⟨0x1105, 1, 1, 0x000000, 0x0, 0x000000, 0x000000, 0x000000, 0x000000, 0x00000F⟩,
  ⟨0x1106, 1, 1, 0x000000, 0x0, 0x000000, 0x000000, 0x000000, 0x000000, 0x00FFFF⟩,
  ⟨0x1107, 1, 1, 0x000000, 0x0, 0x000000, 0x000000, 0x000000, 0x000000, 0x00FFFF⟩,
  ⟨0x1108, 1, 1, 0x000000, 0x0, 0x000000, 0x000000, 0x000000, 0x000000, 0x00FFFF⟩,
  ⟨0x1109, 1, 1, 0x000000, 0x0, 0x000000, 0x000000, 0x000000, 0x000000, 0x00FFFF⟩,
  ⟨0x110A, 1, 1, 0x000000, 0x0, 0x000000, 0x000000, 0x000000, 0x000000, 0x0007FF⟩]

/-- Directory rows of the TWB block. -/
def rowsTWB : List RegRow := [
  ⟨0x1200, 1, 1, 0x000000, 0x0, 0x000000, 0x000000, 0x000000, 0x000000, 0x000707⟩,
  ⟨0x1201, 1, 1, 0x000000, 0x0, 0x000000, 0x000000, 0x000000, 0x000000, 0x00F37F⟩,
  ⟨0x1203, 1, 1, 0x000000, 0x0, 0x000000, 0x000000, 0xFFFFFF, 0x000000, 0x000000⟩,
  ⟨0x1204, 1, 1, 0x000000, 0x0, 0x000000, 0x000000, 0x00FFFF, 0x000000, 0x000000⟩,
  ⟨0x1205, 1, 1, 0x000000, 0x0, 0x000000, 0x000000, 0x00FFFF, 0x000000, 0x000000⟩,
  ⟨0x1210, 1, 1, 0x000000, 0x0, 0x000003, 0x000000, 0x000000, 0xFF0000, 0x000000⟩,
  ⟨0x1211, 1, 1, 0x000000, 0x0, 0x000000, 0x000000, 0x000000, 0x000000, 0x0003FF⟩,
  ⟨0x1212, 1, 1, 0x000000, 0x0, 0x000000, 0x000000, 0xFFFFFF, 0x000000, 0x000000⟩,
  ⟨0x1213, 1, 1, 0x000000, 0x0, 0x000000, 0x000000, 0x0000FF, 0x000000, 0x000000⟩]

/-- Directory rows of the SVC block. -/
def rowsSVC : List RegRow := [
  ⟨0x1300, 1, 1, 0x000000, 0x0, 0x000000, 0x000000, 0x000000, 0x000000, 0x000FFF⟩,
  ⟨0x1301, 1, 1, 0x000000, 0x0, 0x000000, 0x000000, 0x000000, 0xFFFFFF, 0x000000⟩,
  ⟨0x1302, 1, 1, 0x000000, 0x0, 0x00FF1F, 0x000000, 0x000000, 0x000000, 0x000000⟩,
  ⟨0x1303, 1, 1, 0x000000, 0x0, 0x00FF07, 0x000000, 0x000000, 0x000000, 0x000000⟩,
  ⟨0x1304, 1, 1, 0x000000, 0x0, 0x000000, 0x000000, 0xFFFFFF, 0x000000, 0x000000⟩,
  ⟨0x1310, 1, 8, 0x000000, 0x0, 0x1F1F1F, 0x000000, 0x000000, 0x000000, 0x000000⟩,
  ⟨0x1318, 1, 8, 0x000000, 0x0, 0x000000, 0x000000, 0xFFFFFF, 0x000000, 0x000000⟩]

/-- The whole directory (R925). -/
def regRows : List RegRow :=
  rowsSYS ++
  rowsPWR ++
  rowsTIME ++
  rowsEVR ++ rowsEVR1 ++
  rowsCFG ++
  rowsSCAN ++
  rowsTRK ++
  rowsRAIL ++
  rowsLAMP ++
  rowsIRX ++
  rowsITX ++
  rowsHKA ++
  rowsCAL ++
  rowsMEM ++ rowsMEM1 ++
  rowsGDE ++
  rowsEGL ++
  rowsUSB ++
  rowsTWB ++
  rowsSVC

/-- Does the row list the word address a? -/
def RegRow.has (r : RegRow) (a : Nat) : Bool :=
  decide (r.base ≤ a) && decide ((a - r.base) % r.stride = 0) && decide ((a - r.base) / r.stride < r.count)

/-- The directory row of a word address. -/
def regRow (a : Nat) : Option RegRow := regRows.find? (·.has a)

/-- The word of a register after a power-on reset (R927); a reserved address reads 0 (R15, R929). -/
def regReset (a : Nat) : Word :=
  match regRow a with
  | none => 0
  | some r => word (r.reset + r.resetStep * ((a - r.base) / r.stride))

/-- The directory lists the word address (R929). -/
def regDefined (a : Nat) : Bool := (regRow a).isSome

/-- The bits of the RW fields of a register (R11). -/
def rwMask (a : Nat) : Word := match regRow a with | none => 0 | some r => word r.rw

/-- The bits of the W1C fields of a register (R11). -/
def w1cMask (a : Nat) : Word := match regRow a with | none => 0 | some r => word r.w1c

/-- The bits of the RC fields of a register (R11, R13). -/
def rcMask (a : Nat) : Word := match regRow a with | none => 0 | some r => word r.rc

/-- The bits of the WO fields of a register, which read 0 (R11). -/
def woMask (a : Nat) : Word := match regRow a with | none => 0 | some r => word r.wo

/-- A defined register none of whose fields takes a write: every write to it is ignored and counted (R16). RC fields
take no write either, but a register with an RC field is not read-only alone (R926). -/
def regReadOnly (a : Nat) : Bool :=
  match regRow a with
  | none => false
  | some r => r.rw == 0 && r.w1c == 0 && r.wo == 0 && r.rc == 0

end Sys2Proof.Machine
end

