-- ==== Sys2Proof/Machine/State.lean ====
section
/-!
DEFINITION. State.lean: everything the spec gives the TK624, as plain data, and the machine right after a power-on reset.
The registers stand in one sparse map against the reset words of the directory (26_register_directory.md); the sixteen
banks, the EEPROM and the applied configuration are sparse maps too; each block's other state has a structure of its own.
-/

namespace Sys2Proof.Machine

/-- Why the machine stops. No rule of the spec stops the TK624 for good, so the type has no constructor: no command
faults (log entry 1). -/
inductive Fault where
  deriving DecidableEq, Repr

/-- Why a command has no effect in this model. -/
inductive Refusal where
  /-- The command has no meaning yet: raised by Dispatch.lean alone; safe. -/
  | notModelled (mnemonic : String)
  deriving DecidableEq, Repr

/-- An event record admitted by the router and not yet written into its ring (R339, R345). A surface contact pair is
one entry that carries both records (R347, R360). -/
structure Pend where
  src : Nat
  pri : Nat
  epoch : Nat
  w1 : Word
  w2 : Word
  w3 : Word
  /-- Payload of record B when this is a surface contact pair (R305). -/
  pairB : Option (Word × Word)
  /-- The frame whose report group the record belongs to (R346). -/
  group : Option Nat
  /-- Original W1 and W2 of a forwarded worker record, for the forward table (R566). -/
  orig : Option (Word × Word)
  deriving DecidableEq, Repr

/-- An entry of a priority stack (R348, R349, R354). -/
structure StackEnt where
  src : Nat
  pri : Nat
  /-- Source 2 has been raised for this stay as the top entry (R354). -/
  reported : Bool
  deriving DecidableEq, Repr

/-- An overflow episode of a host consumer (R361). -/
structure Episode where
  refusals : Nat := 0
  highest : Nat := 0
  /-- The tick of the first refusal (R378, W2[15:0]). -/
  start : Nat := 0
  /-- The episode has written its OVERFLOW record (R361, R364). -/
  wrote : Bool := false
  deriving DecidableEq, Repr

/-- A doorbell rung before the router runs, with its epoch, seconds and fraction (R25, R374). -/
structure Deferred where
  src : Nat
  w1 : Word
  w2 : Word
  epoch : Nat
  sec : Nat
  frac : Nat
  deriving DecidableEq, Repr

/-- A host consumer of the router, beside its registers (R340 to R364). -/
structure HostQ where
  /-- Pending records, oldest first. -/
  pend : List Pend := []
  /-- The priority stack, top entry first. -/
  stack : List StackEnt := []
  frozen : Bool := false
  episode : Option Episode := none
  /-- Write pointer value of the OVERFLOW record not yet released (R362). -/
  ovSlot : Option Nat := none
  /-- The unreleased OVERFLOW record belongs to the present episode and is updated in place (R363). -/
  ovOwn : Bool := false
  /-- Records written to this ring, mod 32 (R339). -/
  seq : Nat := 0
  /-- Sources whose moderation interval runs (R355). -/
  moderated : List Nat := []
  /-- The sources whose oldest pending record is preferred after their DONE, first come first (R351). -/
  prefer : List Nat := []
  /-- A record was refused since the last frame-end record (the LOSS flag of R306). -/
  loss : Bool := false
  deriving DecidableEq, Repr

/-- A consumer C0 to C3 of the router (R358, R359). -/
structure CoreQ where
  /-- Records delivered and not yet taken. -/
  inbox : List Pend := []
  stack : List StackEnt := []
  frozen : Bool := false
  asleep : Bool := false
  restarting : Bool := false
  deriving DecidableEq, Repr

/-- The event router, beside its registers (chapter 10). -/
structure Router where
  h0 : HostQ := {}
  h1 : HostQ := {}
  cores : List CoreQ := List.replicate 4 {}
  /-- The core-group store, oldest first (R358). -/
  store : List Pend := []
  /-- Source configurations that differ from the defaults of R335, in the layout of EVR_SCFG. -/
  cfg : List (Nat × Word) := []
  /-- Events raised before the router runs at start-up step 5 (R374). -/
  deferred : List Deferred := []
  /-- Core-group sources whose oldest stored record is preferred after a core's DONE (R351, R359). -/
  corePrefer : List Nat := []
  /-- Core-group records discarded since source 4 was last raised, and the highest priority among them (R373). -/
  coreLost : Nat := 0
  coreLostPri : Nat := 0
  /-- The tick at which source 4 was last raised (R373). -/
  coreLossTick : Option Nat := none
  /-- The frame number that groups the tracking records raised now (R346). -/
  group : Option Nat := none
  deriving DecidableEq, Repr

/-- One requester's snapshot of the time (R384, R385). -/
structure Snapshot where
  frac : Word := 0
  secl : Word := 0
  sech : Word := 0
  epoch : Word := 0
  frame : Word := 0
  deriving DecidableEq, Repr

/-- The time base, beside its registers (chapter 11). -/
structure TimeBase where
  /-- Counted seconds S, 48 bits (R381). -/
  sec : Nat := 0
  /-- Counted fraction C, 24 bits (R381). -/
  frac : Nat := 0
  /-- The interpolation I, 0 to 511 units, as last read in this tick (R382). -/
  interp : Nat := 0
  /-- The interpolation runs: the fast oscillator has run since a tick boundary (R382). -/
  fast : Bool := false
  epoch : Nat := 0
  /-- The surface frame number (R26). -/
  frame : Nat := 0
  /-- The load buffer while LOADPEND is 1: seconds and fraction (R388). -/
  load : Option (Nat × Nat) := none
  /-- A SLEW or beacon offset that applies at the next tick boundary (R392, R393). -/
  slewNext : Option Int := none
  /-- Tick boundaries counted since the slew took effect or last adjusted (R391). -/
  slewCount : Nat := 0
  /-- The value with which the present slew began, the payload of TIME_SLEW_DONE (R415). -/
  slewTotal : Int := 0
  /-- A worker's step due at the next tick boundary: offset in units, the epoch to adopt, the reason (R395). -/
  stepNext : Option (Int × Nat × Nat) := none
  /-- Offsets of the last consecutive beacons outside the slew band, latest first (R395). -/
  outliers : List Int := []
  /-- Ticks of the recent steps of reason 2 (R412). -/
  unannTicks : List Nat := []
  /-- W1 and W2 of the last eight steps, latest first (time stat). -/
  steps : List (Word × Word) := []
  /-- The armed alarm was already reached when it was armed or rewritten, or a step passed it (R404). -/
  alarmLate : Bool := false
  /-- The step flag the next beacon carries (R399). -/
  stepFlag : Bool := false
  twoWire : Snapshot := {}
  usb : Snapshot := {}
  console : Snapshot := {}
  remote : Snapshot := {}
  deriving DecidableEq, Repr

/-- Supplies, clocks and resets, beside their registers (chapter 4). -/
structure Power where
  /-- VDD is above 2.8 V, and VDDA is above 2.8 V (R99). -/
  vddGood : Bool := true
  vddaGood : Bool := true
  /-- A reset is in progress: the code it is recorded under (R114, R117). -/
  held : Option Nat := some 1
  /-- RESET# is low (R48). -/
  resetLow : Bool := false
  /-- The start-up step in progress, 1 to 7 (R127); 8 when start-up has ended. -/
  step : Nat := 1
  /-- Ticks of the last three core watchdog resets, latest first (R113). -/
  wdTicks : List Nat := []
  /-- The tracking cores are restarting (R112). -/
  coreRestart : Bool := false
  /-- Lock attempts that failed since the lock began (R123). -/
  lockFails : Nat := 0
  /-- XTAL_FITTED of the image or of the slot tried first (R105, R146). -/
  xtalFitted : Bool := false
  /-- The crystal oscillator has been started (R105). -/
  xtalOn : Bool := false
  /-- USB start-of-frame tokens have been received while attached (R107). -/
  sofRef : Bool := false
  /-- VDDIO has returned and its 1 ms restore delay runs (R124). -/
  vddioReturning : Bool := false
  /-- A host software reset accepted and not yet performed (R111). -/
  swReset : Option Requester := none
  /-- The crystal has failed since the last reset, and is not tried again (R122). -/
  xtalFailed : Bool := false
  /-- The tick in which reset causes were last recorded, and the lowest code among them (R116; log entry 20). -/
  causeAt : Option (Nat × Nat) := none
  /-- VDDIO has been lost, and its return has not been reported (R124). -/
  vddioLost : Bool := false
  /-- The reads of the strap balls given at the last release, in the layout of R60: a reset that has no release delay
  samples the same board. -/
  strapReads : List Byte := [0xC5#8]
  deriving DecidableEq, Repr

/-- What the fuses hold (R937, R136, chapters 17, 21 and 23). -/
structure Fuses where
  /-- SYS_REV.GRADE. -/
  grade : Bool := false
  /-- The fuse integrity check passes (R158). -/
  ok : Bool := true
  /-- The 16-byte key digest, when fused (R136). -/
  keyDigest : Option (List Byte) := none
  /-- CAL_RC.LEGS of the trimmed RC oscillator. -/
  rcLegs : Word := 0
  /-- MEM_SPARE[n] of the sixteen banks, in the layout of the register (R668). -/
  spares : List Word := List.replicate 16 0
  /-- The die identity that the USB serial string shows (R466). -/
  dieId : List Byte := List.replicate 6 0
  deriving DecidableEq, Repr

/-- Start-up and the image, beside their registers (chapter 5). -/
structure Boot where
  /-- The slot headers read in step 4, when valid: slot A and slot B (R144). -/
  hdrA : Option (List Byte) := none
  hdrB : Option (List Byte) := none
  /-- Which header reads have ended (R144). -/
  readA : Bool := false
  readB : Bool := false
  /-- Self-test and fuse load have ended (R937). -/
  tested : Bool := false
  /-- The slot being tried: 1 A, 2 B (R145); 0 none. -/
  trying : Nat := 0
  /-- The slot tried first (R144). -/
  first : Nat := 0
  /-- The image step has ended: registers whose Reset column says image show their values (R17, R18). -/
  imaged : Bool := false
  /-- The loaded image, byte for byte (R147). -/
  image : List Byte := []
  /-- SURFACE_ID of the loaded image (R132, R545). -/
  surfaceId : Word := 0
  /-- A worker waits for the link image (R147). -/
  linkWait : Bool := false
  /-- Bytes of the link image received so far (R547). -/
  linkBuf : List Byte := []
  /-- Total length announced for the link image, and its bytes received. -/
  linkLen : Nat := 0
  /-- First rejection or unknown section: TYPE and field ID (R160). -/
  rejectType : Nat := 0
  /-- The running proxy command: operation, address, length, staged bytes (R150). -/
  nvpOp : Nat := 0
  nvpAddr : Nat := 0
  nvpLen : Nat := 0
  nvpBuf : Nat := 0
  nvpData : List Byte := []
  /-- Bytes of the running WRITE or INVALIDATE whose pages the EEPROM has taken (R151). -/
  nvpDone : Nat := 0
  deriving DecidableEq, Repr

/-- A mode change waiting for its frame boundary (R188): the mode, its apply frame when it has one, and its reason. -/
structure ModeReq where
  mode : Nat
  apply : Option Nat
  reason : Nat
  deriving DecidableEq, Repr

/-- Operating modes and wake, beside their registers (chapter 6). -/
structure Modes where
  /-- Waiting changes by rank (R188): SERVICE entry, host command, wake, automatic, orphan. -/
  service : Option ModeReq := none
  /-- How the waiting entry into SERVICE was asked for, as SVC_STAT.ENTRY. -/
  entry : Nat := 2
  host : Option ModeReq := none
  wake : Option ModeReq := none
  auto : Option ModeReq := none
  orphan : Option ModeReq := none
  /-- A worker's command from the manager (R170). -/
  manager : Option ModeReq := none
  /-- A mode command held during a surface-wide commit: mode and reason (R171). -/
  heldCmd : Option (Nat × Nat) := none
  /-- The tick of the last contact on the surface (PWR_IDLETMR). -/
  lastContact : Nat := 0
  /-- The step of the HIBERNATE entry sequence in progress (R184); 0 when none, 7 when asleep; and the tick at which it
  began. -/
  hibStep : Nat := 0
  hibTick : Nat := 0
  /-- The tick at which VCORE went off. -/
  asleepTick : Nat := 0
  /-- Bank 12 retention is armed and valid (R184, R194). -/
  retained : Bool := false
  /-- A wake from HIBERNATE waits for VCORE good (R179, R196). -/
  waking : Bool := false
  /-- The retained bank 12 passed its check at this wake (R180, R194). -/
  wakeOk : Bool := false
  /-- A burst has been answered in the present WATCH (R176, R626). -/
  wokenInWatch : Bool := false
  /-- Recent wakes: source bit and tick, latest first (R195). -/
  wakes : List (Nat × Nat) := []
  /-- The mode left for USB suspend (R190). -/
  beforeSuspend : Option Nat := none
  /-- HOSTWAKE is high (R186, R187). -/
  hostwake : Bool := false
  /-- Workers whose acknowledgement of the present mode command is outstanding, as (x, y) codes (R172). -/
  acksDue : List Nat := []
  /-- Edges of IRRX recorded by the always-on domain since a wake edge, at most 64, oldest first: whether to a mark, and the
  duration before it in µs (R178). -/
  irEdges : List (Bool × Nat) := []
  /-- The last mode changes, latest first: W1 and W2 of source 12 (pwr stat). -/
  history : List (Word × Word) := []
  deriving DecidableEq, Repr

/-- The two-wire target and the NVM-bus controller, beside their registers (chapter 12). -/
structure TwoWire where
  /-- The word pointer (R420). -/
  ptr : Nat := 0
  /-- The pointer as it stood before the transfer in progress (R428, R433). -/
  ptrBefore : Nat := 0
  /-- Words of a write phase held until its PEC byte (R428). -/
  held : List Word := []
  /-- What the NVM controller transfers: 0 nothing, 1 header A, 2 header B, 3 slot, 4 proxy page, 5 log page. -/
  nvOp : Nat := 0
  /-- Bytes of the interrupted image read kept so far (R438). -/
  resumeAt : Nat := 0
  /-- A page write waits for the EEPROM to acknowledge its address (R437). -/
  polling : Bool := false
  /-- NVSDA is stuck low: a recovery episode lasts (R450). -/
  sdaStuck : Bool := false
  /-- NVSCL is stuck low and has been reported (R451). -/
  sclStuck : Bool := false
  /-- NVHOLD_TO in force for the running time-out, in seconds, and the tick of the last keyed write (R441). -/
  holdTo : Nat := 0
  holdTick : Nat := 0
  /-- NVWP is driven low for a write transaction of the controller itself (R49). -/
  nvwpOwn : Bool := false
  deriving DecidableEq, Repr

/-- A commit of the runtime configuration, beside its registers (chapter 14). -/
structure Commit where
  /-- The TK624's own copy of the staged pairs (R502). -/
  staged : List (Nat × Word) := []
  /-- On a worker, the pairs of a PREPARE so far (R517). -/
  incoming : List (Nat × Word) := []
  /-- Only the checks were asked for (R507). -/
  checkOnly : Bool := false
  /-- The words that a commit which has passed will set: parameter id and value (R503, R505). -/
  built : List (Nat × Word) := []
  /-- The configuration epoch the commit leads to, and its apply frame (R516). -/
  epoch : Nat := 0
  apply : Nat := 0
  /-- The commit has been built and waits for its apply frame. -/
  armed : Bool := false
  /-- A worker holds GO for the built commit (R519), and answers GO_ACK when it has applied it (R520). -/
  go : Bool := false
  late : Bool := false
  /-- Workers that were sent PREPARE; those whose READY is outstanding, and those whose GO_ACK is (R518, R520). -/
  tiles : List Nat := []
  readyDue : List Nat := []
  ackDue : List Nat := []
  /-- The runtime delta: last value applied per parameter id (R523). -/
  delta : List (Nat × Word) := []
  /-- A cold apply calibrates (R511). -/
  cold : Bool := false
  /-- Words as they stood before each apply that tracking has not reached yet: the apply frame and the old words (R509). -/
  past : List (Nat × List (Nat × Word)) := []
  /-- The last commits, latest first: class and result (cfg stat). -/
  history : List (Nat × Nat) := []
  deriving DecidableEq, Repr

/-- A record waiting for the fault log (R874, R875). -/
structure LogRec where
  type : Nat
  epoch : Nat
  src : Nat
  sec : Nat
  frac : Nat
  w1 : Word
  w2 : Word
  deriving DecidableEq, Repr

/-- A message to another tile: its hierarchy code or kind, its destination (x, y) code, and its payload words. -/
structure Msg where
  kind : Nat
  dest : Nat
  payload : List Word
  deriving DecidableEq, Repr

/-- A line of console output (R68, R82, R89, R934). Where the manual gives no format for a line, the line carries a tag
and the words it prints (log entry 6). -/
inductive OutLine where
  | echo (c : Byte)
  | ok
  | error (code : Nat)
  | prompt (full : Bool)
  | banner (grade : Bool) (x y role mode : Nat)
  | safeCause (cause : Nat)
  | rdWord (addr : Nat) (value : Word)
  | record (seq epoch sec frac src : Nat) (w1 w2 : Word)
  | values (tag : Nat) (ws : List Word)
  /-- What `meter` answers: the point, its argument, and the band expected on AMON in mV (R79). -/
  | meter (point arg low high : Nat)
  /-- The commands that `help` lists, each with its words (R69). -/
  | listing (names : List (List Byte))
  | dropped (n : Nat)
  deriving DecidableEq, Repr

/-- A console command with its arguments, as the row of its name has them. The results that `hka conv` and the like measure
come with it. -/
inductive ConsoleCmd where
  | help
  | id
  | rd (addr : BitVec 16) (n : BitVec 16)
  | wr (addr : BitVec 16) (value : Word)
  | time
  | log (kind : BitVec 2) (n : BitVec 24)
  | evmonOn
  | evmonOff
  | svc (code : Word)
  | svcOff
  | meter (point : BitVec 5) (arg : BitVec 10)
  | meterOff
  | el (all : Bool) (n : BitVec 8) (st : BitVec 3)
  | consoleReset
  | blockStat (block : BitVec 4)
  | sysStat
  | bootStat
  | imgCheck (slotB : Bool)
  | nvmRd (addr : BitVec 24) (n : BitVec 8)
  | pwrStat
  | pwrWake
  | timeStat
  | scanNoise
  | scanNode (t : BitVec 8) (r : BitVec 8)
  | scanLegs (n : BitVec 8)
  | scanRun
  | scanStop
  | scanTone (n : BitVec 8) (k : BitVec 3)
  | trkHop
  | trkBase (t : BitVec 8) (r : BitVec 8)
  | trkBlreset
  | trkRpt
  | trkCap (planes : BitVec 5)
  | evrSrc (n : BitVec 10)
  | evrFire (n : BitVec 10)
  | cfgStat
  | cfgGet (p : Word)
  | cfgDelta
  | surfStat
  | surfMap
  | surfTile (xy : BitVec 10)
  | rtile (xy : BitVec 10)
  | surfReset (xy : BitVec 10)
  | eglPing (xy : BitVec 10) (n : BitVec 8)
  | eglInj (i : BitVec 8) (kind : BitVec 2) (k : BitVec 8)
  | eglInjOff
  | eglRetrain (p : BitVec 8)
  | memCol (n : BitVec 8)
  | memRepair (n : BitVec 8) (c : BitVec 16)
  | gdeWin
  | gdeTest (n : BitVec 16)
  | railVtx (v : BitVec 13)
  | railVled (v : BitVec 13)
  | railVledAuto
  | railRestart
  | lampN (n : BitVec 10)
  | lampSet (n : BitVec 10) (level : BitVec 12) (ms : BitVec 14)
  | lampClear (g : BitVec 4)
  | irxRaw
  | itxSend (i : BitVec 9) (n : BitVec 8)
  | itxLoop (i : BitVec 9)
  | hkaCh (n : BitVec 8)
  | hkaConv (n : BitVec 8) (k : BitVec 8) (values : List (Word × BitVec 2))
  | hkaPath (n : BitVec 8) (low : List Word) (high : List Word)
  | hkaCalZero (n : BitVec 8)
  | hkaCalFull (n : BitVec 8) (uv : Word)
  | hkaCalApply (n : BitVec 8) (vref : Word) (copyOk : Bool)
  | calRun
  | logStat
  | telem
  deriving DecidableEq, Repr

/-- What a terminated console line comes to (R67, R68). -/
inductive LineCmd where
  /-- An empty line. -/
  | blank
  /-- The line is not executed, and ends in this error. -/
  | err (code : Nat)
  /-- An argument is outside what its command can take; the command is of the full command set. -/
  | range (full : Bool)
  | cmd (c : ConsoleCmd)
  deriving DecidableEq, Repr

/-- The Farnos console and the service functions, beside their registers (chapter 3). -/
structure Console where
  /-- Characters of the line held so far (R66). -/
  line : List Byte := []
  /-- A character of the line had a framing error (R88), or the line is longer than 80 characters. -/
  framed : Bool := false
  tooLong : Bool := false
  /-- The last character was CR (R66). -/
  lastCr : Bool := false
  /-- Lines ended while a command ran, oldest first (R83). -/
  waits : List LineCmd := []
  /-- Output waiting in the transmit buffer, oldest first, the bytes of its first line already sent, and the fraction of
  a byte sent in units of 1/128 (R82). -/
  out : List OutLine := []
  sent : Nat := 0
  credit : Nat := 0
  /-- Output lines dropped since the last one that fitted (R82). -/
  dropped : Nat := 0
  evmon : Bool := false
  /-- Output of a running `log` or `rd` that waits for room in the transmit buffer, its status line and prompt last (R83). -/
  todo : List OutLine := []
  /-- A `log` waits for the NVM bus with the lines of the records that were complete when it began (R86). -/
  logWait : Option (List OutLine) := none
  /-- The tick of the last rejected code (R72). -/
  lastReject : Option Nat := none
  /-- A `rd` in the remote window waits for a link operation: its next word address and the words left. -/
  rd : Option (Nat × Nat) := none
  /-- A worker waits for the manager's answer: 1 to svc, 2 to svc off (R73, R77); and the request has not been sent, for
  want of a joined surface. -/
  request : Nat := 0
  requestDue : Bool := false
  /-- A worker with SVCEN# low waits to join (R91). -/
  waitJoin : Bool := false
  /-- The tick of the last received character, and the console's request for the fast oscillator (R65, R108). -/
  lastChar : Option Nat := none
  session : Bool := false
  /-- Static states other than gnd, by electrode: 1 float, 2 src, 3 mtr, 4 mtrs (R80). -/
  states : List (Nat × Nat) := []
  /-- AMON is driven (R52, R78). -/
  amon : Bool := false
  deriving DecidableEq, Repr

/-- A contact of a HID report set: identifier, position, tip switch, confidence (R469). -/
structure HidContact where
  id : Nat
  x : Nat
  y : Nat
  tip : Bool
  conf : Bool
  deriving DecidableEq, Repr

/-- An EP2 command in the remote window, which waits for the link operation of each word (R479): the command's OP and TAG,
the next word address, the words still to be read or written, and the words read so far or the count written. -/
structure EpCommand where
  op : Nat
  tag : Byte
  addr : Nat
  left : Nat
  data : List Word
  done : List Word
  deriving DecidableEq, Repr

/-- The USB device, beside its registers (chapter 13). -/
structure Usb where
  /-- VBUSDET is high (R458). -/
  vbus : Bool := false
  /-- Remote wake: 0 none, 1 sampling the bus, 2 driving K (R485). -/
  wake : Nat := 0
  /-- A remote wake ends with the resume in progress, and source 193 follows it (R488). -/
  wakeReport : Bool := false
  /-- The tick at which SUSP was set (R484). -/
  suspTick : Nat := 0
  /-- Consecutive start-of-frame tokens received since the last bus reset (R460). -/
  sofCount : Nat := 0
  /-- Halted endpoints: EP1 IN, EP2 OUT, EP2 IN (R465). -/
  halt1 : Bool := false
  halt2Out : Bool := false
  halt2In : Bool := false
  /-- The data stage of the last control transfer, or none when it was stalled (R465). -/
  ep0 : Option (List Byte) := none
  /-- The idle rate that SET_IDLE gave, which changes nothing (R465). -/
  idle : Nat := 0
  /-- Reports of the present set not yet sent, and whether one of them has been sent (R472). -/
  reports : List (List Byte) := []
  setStarted : Bool := false
  /-- Reports of a newer set that waits for the set being sent. -/
  nextReports : List (List Byte) := []
  /-- The contacts of the waiting set that lifted or were cancelled, carried over when it is discarded (R472). -/
  carried : List HidContact := []
  /-- Contacts cancelled outside a tracked frame, which the next set lists first (R469). -/
  owed : List HidContact := []
  /-- The next set carries RESYNC (R471). -/
  resync : Bool := false
  /-- The last input report sent since the configuration (R467). -/
  lastInput : Option (List Byte) := none
  /-- An EP2 command under way in the remote window (R479). -/
  command : Option EpCommand := none
  /-- The EP2 response not yet acknowledged (R476, R477). -/
  response : Option (List Byte) := none
  /-- Records that the acknowledgement of the response releases from H1 (R478). -/
  release : Nat := 0
  /-- A DETACH written over USB itself acts at the acknowledgement (R493). -/
  detachAtAck : Option Bool := none
  /-- Ticks of the packet errors of the last second, and of the last USB_ERROR of kind 1 (R494). -/
  errTicks : List Nat := []
  errRaised : Option Nat := none
  deriving DecidableEq, Repr

/-- A frame from its start to the end of its tracking (R26, R223, R227). -/
structure FrameInfo where
  n : Nat
  /-- The model's tick at the frame start. -/
  tick : Nat
  /-- Seconds and fraction of the time base at the frame start. -/
  sec : Nat
  frac : Nat
  /-- Header words 0 to 8, of which the front end keeps a copy until the next handover (R227, R666). -/
  header : List Word
  /-- The frame has a frame buffer (R232). -/
  buffer : Bool
  slot : Nat
  /-- The mutual scan was omitted under R281. -/
  omitted : Bool
  /-- A refresh frame (R252). -/
  refresh : Bool
  /-- The gap frame of a warm apply, or the frame a cold apply begins with (R510, R511). -/
  gap : Bool
  /-- A transition frame (R510). -/
  transition : Bool
  stretched : Bool
  /-- Logical channels whose physical channel changed before this frame (R234, R254). -/
  newChannels : List Nat
  /-- The physical channels that carry its logical channels (R206, R234). -/
  chans : List Nat
  /-- What this frame's boundary does to tracking, when tracking reaches it: live contacts are cancelled with a reason, and
  with true every baseline is dropped (R285, R510, R511). -/
  resets : List (Nat × Bool)
  /-- The tracking core that owns the buffer, 0 to 3. -/
  core : Nat
  /-- The frame started during a restart of the cores: it is not tracked and has no frame-end record (R112). -/
  scrap : Bool
  deriving DecidableEq, Repr

/-- The front end, beside its registers (chapter 7). -/
structure Scan where
  /-- The frame in progress. -/
  cur : Option FrameInfo := none
  /-- The mutual scan in progress has met VTX on the pump, slewing, below 4 V (R235). -/
  pump : Bool := false
  slewing : Bool := false
  nodrive : Bool := false
  /-- The same three marks of VTX as they have stood since a tick. -/
  vtxSince : Nat := 0
  vtxPump : Bool := false
  vtxSlewing : Bool := false
  vtxLow : Bool := false
  /-- The tick at which the present frame started (R225, R865). -/
  startTick : Nat := 0
  /-- The tick at which the WATCH scan in progress began (R229). -/
  watchTick : Option Nat := none
  /-- The physical channels that carried the logical channels of the last frame handed over (R234, R256). -/
  chans : List Nat := []
  /-- Logical channels changed by calibration, in force from the next frame (R234). -/
  changed : List Nat := []
  /-- The Q plane is written in the present frame (R228). -/
  iq : Bool := false
  /-- `scan run` in SERVICE, and the electrode and slot of `scan tone` (R75, R236). -/
  consoleRun : Bool := false
  tone : Option (Nat × Nat) := none
  deriving DecidableEq, Repr

/-- A node's or an electrode's baseline (R248 to R251, R288). -/
structure Node where
  base : Int := 0
  /-- Frames of acquisition left; 0 when the baseline is valid. -/
  left : Nat := 0
  sum : Int := 0
  /-- Samples in the sum. -/
  seen : Nat := 0
  /-- Held excluded under R288. -/
  excluded : Bool := false
  /-- A whole acquisition has passed without a sample: the node is acquired over and over, and nothing waits for it (R246). -/
  blank : Bool := false
  /-- The tick since which the node reads a negative delta without a break (R250). -/
  negSince : Option Nat := none
  deriving DecidableEq, Repr

/-- The node baselines of one slot (R251). -/
structure SlotBase where
  slot : Nat
  /-- VTX target at the last update, in 10 mV (R253). -/
  vtx : Nat
  /-- The time of tracked frames (`Track.span`) at the last one in the slot (R252). -/
  visit : Nat
  /-- A full acquisition is in progress, and no contact is reported (R248). -/
  acq : Bool
  nodes : List Node
  deriving DecidableEq, Repr

/-- A candidate seen in a frame: a peak of a blob (R247, R261, R265). -/
structure Cand where
  x : Int
  y : Int
  t : Nat
  r : Nat
  /-- Delta and baseline at the peak. -/
  delta : Int
  base : Int
  /-- The peak is touched, else glove-level (R245). -/
  touched : Bool
  confirmed : Bool
  size : Nat
  /-- Number of the blob in the frame, and its peaks. -/
  blob : Nat
  peaks : Nat
  deriving DecidableEq, Repr

/-- A candidate not yet live: consecutive frames seen, and frames within 2 mm of its place before (R265, R270). -/
structure Prospect where
  cand : Cand
  count : Nat
  still : Nat
  deriving DecidableEq, Repr

/-- A live contact of the tile (R269 to R274). -/
structure Contact where
  id : Nat
  x : Int
  y : Int
  t : Nat
  r : Nat
  glove : Bool
  delta : Int
  base : Int
  size : Nat
  confirmed : Bool
  /-- Tracked frames without a candidate (R271). -/
  miss : Nat
  /-- Where and when the contact last moved 2 mm (R274). -/
  ax : Int
  ay : Int
  atick : Nat
  /-- Coordinates of its last record (R299). -/
  repX : Int
  repY : Int
  /-- The sole live contact of the tile since its DOWN; where and when it began; it has already made a gesture
  (R313, R321). -/
  sole : Bool
  startX : Int
  startY : Int
  startTick : Nat
  /-- Where it was at the tracked frames of the last 500 ms, latest first (R174). -/
  trail : List (Nat × Int × Int)
  gestured : Bool
  /-- It has moved 5 mm from its start (R174, R313). -/
  moved : Bool
  deriving DecidableEq, Repr

/-- A contact record of a frame (R301 to R304, R573): kind 0 DOWN, 1 MOVE, 2 UP, 3 CANCEL, 4 RESYNC or HANDOVER. -/
structure Report where
  id : Nat
  kind : Nat
  x : Int
  y : Int
  glove : Bool
  size : Nat
  strength : Nat
  reason : Nat
  deriving DecidableEq, Repr

/-- Tracking, beside its registers (chapter 8). -/
structure Track where
  /-- Frames handed over and not yet tracked, oldest first. -/
  queue : List FrameInfo := []
  slots : List SlotBase := []
  /-- Self-capacitance baselines by electrode; empty while none is valid (R255). -/
  self : List Node := []
  selfAcq : Bool := true
  contacts : List Contact := []
  prospects : List Prospect := []
  /-- IDs released in the last tracked frame and in the one before it (R269). -/
  released : List Nat := []
  releasedPrev : List Nat := []
  /-- The present slot, which refresh frames leave (R252), and a slot decided on for the next frame start (R259). -/
  slot : Nat := 0
  hop : Option Nat := none
  /-- The time of the tracked frames so far, in frame periods of 2^-24 s (R252). -/
  span : Nat := 0
  /-- Consecutive tracked frames in which the hop margin held, and frames started since the last hop (R257). -/
  confirm : Nat := 0
  dwell : Option Nat := none
  /-- The last hops, latest first: W1 of source 29 (trk hop). -/
  hops : List Word := []
  /-- Since when the noise condition differs from TRK_STAT.NOISY (R260). -/
  noiseSince : Option Nat := none
  /-- Consecutive tracked frames with a water blob; the time of the tracked frames since the last one, in 2^-24 s (R262). -/
  water : Nat := 0
  dry : Nat := 0
  /-- The nodes of each palm that stands, and of each that has gone with the tick of its going (R267, R268). -/
  palms : List (List (Int × Int)) := []
  palmsGone : List (Nat × List (Int × Int)) := []
  /-- Untracked frames have followed one another since this tick; their contacts have been cancelled (R278). -/
  heldSince : Option Nat := none
  heldDone : Bool := false
  /-- Refusals in the last second and the tick of the last TRACK_LIMIT (R279). -/
  refused : List (Nat × Nat) := []
  limitTick : Option Nat := none
  /-- The VTX target of the last tracked frame, and whether BASELINE_EVENT of kind 4 has told of it (R253). -/
  vtxSeen : Option Nat := none
  vtxTold : Bool := false
  /-- The tick of the last frame with a live contact (R252). -/
  lastContact : Option Nat := none
  /-- BLRESET waits for the frame boundary (R285). -/
  blReset : Bool := false
  /-- IDs last reported live, kept in bank 13 for a core restart (R327). -/
  reported : List Report := []
  restartCancels : List Report := []
  /-- Cancels made outside a frame that wait for the next frame's records (R275, R303). -/
  pending : List Report := []
  /-- A transition lasts until acquisition ends (R510). -/
  transition : Bool := false
  /-- GLOVE in force, for GLOVE_MODE (R266). -/
  glove : Option Nat := none
  deriving DecidableEq, Repr

/-- A touch followed through WATCH scans (R174). -/
structure WatchTouch where
  id : Nat
  x0 : Nat
  y0 : Nat
  tick0 : Nat
  x : Nat
  y : Nat
  /-- The wake regions that have held it throughout, bit r for region r. -/
  regions : Nat
  /-- It has stayed within 5 mm of its start. -/
  still : Bool
  used : Bool
  /-- Where it was at the scans of the last 500 ms, latest first. -/
  trail : List (Nat × Nat × Nat)
  deriving DecidableEq, Repr

/-- Reports, gestures and capture, beside their registers (chapter 9). -/
structure Reports where
  /-- A tap held for a double tap: identifier, start, the tick of its lift, and whether it was shorter than 300 ms, as
  the first of a double tap must be (R174, R313). -/
  heldTap : Option (Nat × Int × Int × Nat × Bool) := none
  /-- Touches in WATCH, the last short touch, and since when each region has been covered (R174). -/
  touches : List WatchTouch := []
  lastTap : Option (Nat × Nat × Nat × Nat) := none
  covered : List (Nat × Nat × Bool) := []
  /-- A resync burst is due that was asked for, and one of a start or a wake, which waits for valid baselines (R310, R328). -/
  burstAsked : Bool := false
  burstStart : Bool := false
  /-- The capture: frames still to pass before the next one is copied, the frame being copied, STOP requested. -/
  skip : Nat := 0
  copying : Option Nat := none
  stopping : Bool := false
  planes : Nat := 0
  /-- Channel 2 has moved all words of the copy (R318). -/
  copied : Bool := false
  /-- Flags of the last frame-end record (trk rpt). -/
  lastFlags : Word := 0
  deriving DecidableEq, Repr

/-- A joined tile, or one the manager has heard of (R545, R586). -/
structure Tile where
  xy : Nat
  state : Nat
  reason : Nat
  /-- Surface frame number of its last message. -/
  seen : Nat
  /-- Surface frame number of its last CONTACTS message (R574). -/
  contacts : Nat
  /-- Pending a WELCOME that waits for a commit or a mode change (R577): rejoin flag and LOADED. -/
  waiting : Option (List Word)
  /-- The configuration epoch the tile has applied (R522, R535). -/
  epoch : Nat
  /-- LINK RESULT of the tile's image (SYS_BOOT.LOADED of R584). -/
  loaded : Nat
  /-- The tile has joined before (R583, R584). -/
  before : Bool
  deriving DecidableEq, Repr

/-- A surface contact kept by the manager (R561 to R563). -/
structure SurfContact where
  id : Nat
  /-- The tile and the tile contact that hold it, or held it when it was handed over. -/
  tile : Nat
  tid : Nat
  /-- Surface coordinates of its last record (R299). -/
  x : Nat
  y : Nat
  /-- What the tile last reported of it, in tile coordinates. -/
  rep : Report
  /-- It has been reported to the host. -/
  told : Bool
  /-- Surface frame in which it was handed over (R562). -/
  handed : Option Nat
  /-- Order of appearance: the older surface contact has the lower number (R563). -/
  age : Nat
  /-- The kind it has in the present frame, or none without a record. -/
  now : Option Nat
  deriving DecidableEq, Repr

/-- A strip received from a neighbour (R555, R556). -/
structure Strip where
  frame : Nat
  /-- The receiving tile's edge: 0 N, 1 E, 2 S, 3 W. -/
  edge : Nat
  vals : List Word
  deriving DecidableEq, Repr

/-- Tiled surfaces, beside their registers (chapter 15). -/
structure Surface where
  /-- A worker holds coordinates; the manager holds (0, 0) from the end of step 5 (R542, R543). -/
  known : Bool := false
  /-- The manager's tile table. -/
  tiles : List Tile := []
  /-- Records forwarded in the present frame, and records discarded beyond FWD_MAX (R565). -/
  fwdSent : Nat := 0
  fwdLost : Nat := 0
  /-- The first frame and its start time that WELCOME gave; DELTA entries still to come (R544, R548). -/
  firstFrame : Option (Nat × Nat × Nat) := none
  deltaDue : Nat := 0
  deltaBuf : List (Nat × Word) := []
  /-- Time T_n of the last beacon, in seconds and fraction, and its frame number (R549). -/
  beaconFrame : Option (Nat × Nat × Nat) := none
  strips : List Strip := []
  /-- The manager's surface contacts, and IDs released in this and in the last surface frame (R561). -/
  contacts : List SurfContact := []
  freed : List Nat := []
  freedPrev : List Nat := []
  nextAge : Nat := 0
  /-- The frame whose CONTACTS the manager is waiting for, the tiles heard, the flags received so far, gestures. -/
  frame : Option Nat := none
  heard : List Nat := []
  /-- CONTACTS messages of which parts have arrived: tile, parts so far, words so far (R558, R572). -/
  parts : List (Nat × Nat × List Word) := []
  flags : Word := 0
  gestures : List (Word × Word) := []
  /-- Cancels of surface contacts to report with the frame: surface contact and reason. -/
  cancels : List (SurfContact × Nat) := []
  /-- Image requests being served and waiting, in arrival order (R547). -/
  imgServing : List Nat := []
  imgWaiting : List Nat := []
  /-- EGL_RTILE of the four requesters (R568). -/
  rtile : List Word := [0, 0, 0, 0]
  /-- The last remote read data by requester (R568). -/
  remoteData : List Word := [0, 0, 0, 0]
  /-- RESET with LINKBOOT was received: the next step 5 loads over the link (R546). -/
  linkBoot : Bool := false
  /-- A worker's JOIN waits for a port to come up (R544, R583). -/
  joinDue : Bool := false
  deriving DecidableEq, Repr

/-- A packet of the Egret link (R597). -/
structure Packet where
  type : Nat
  detour : Bool
  isLocal : Bool
  cls : Nat
  dest : Nat
  src : Nat
  tag : Nat
  fseq : Nat
  payload : List Word
  deriving DecidableEq, Repr

/-- One port, beside its registers (R592 to R608). -/
structure Port where
  /-- Training step 1 to 6 while not up (R592). -/
  train : Nat := 1
  /-- Delays of the last 16 round trips, latest first (R594). -/
  delays : List Nat := []
  /-- The round trips of this training or recalibration still to come. -/
  trips : Nat := 0
  /-- Sequence number of the next frame sent; unacknowledged frames with their numbers, oldest first (R601). -/
  txSeq : Nat := 0
  window : List (Nat × Packet) := []
  /-- Frames that may still be sent against the last FREE (R601). -/
  credit : Nat := 0
  /-- Frames queued for the port, oldest first, each with the port it came in by, 4 for the own tile (R606). -/
  queue : List (Nat × Packet) := []
  /-- Expected sequence number of the next frame received (R602). -/
  rxSeq : Nat := 0
  /-- Resend rounds in a row (R603). -/
  rounds : Nat := 0
  /-- Ticks of its last downs, latest first (R638). -/
  downs : List Nat := []
  /-- The port was up at the entry into WATCH (R625, R626). -/
  watchUp : Bool := false
  /-- A NAK for the present gap has been sent (R602). -/
  nakked : Bool := false
  /-- Payload of the last unsequenced frame sent. -/
  lastOut : List Word := []
  /-- The 10-bit symbols of what was sent last, a frame, an ACK or a NAK, and the running disparity after them (R588, R595). -/
  wire : List Nat := []
  disparity : Bool := false
  deriving DecidableEq, Repr

/-- An operation (R613 to R618). -/
structure Operation where
  requester : Nat
  dest : Nat
  packet : Packet
  /-- Tag and port slot once issued. -/
  tag : Option Nat
  port : Nat
  attempt : Nat
  starved : Bool
  /-- It has been counted in EGL_STALL.WAITS (R614). -/
  waited : Bool
  /-- The completion, waiting in the reorder buffer (R618). -/
  result : Option (Option Packet)
  deriving DecidableEq, Repr

/-- The Egret link, beside its registers (chapter 16). -/
structure Link where
  ports : List Port := [{}, {}, {}, {}]
  /-- Operations waiting or in flight, in the order of issue. -/
  ops : List Operation := []
  /-- Tags held back for 8 ms (R617). -/
  heldTags : List Nat := []
  /-- Next FSEQ by destination and class, next expected by source and class (R609). -/
  txFlow : List (Nat × Nat) := []
  rxFlow : List (Nat × Nat) := []
  /-- The arrival hold, oldest first (R609). -/
  hold : List (Nat × Packet) := []
  /-- The duplicate cache, oldest first: source and tag code, and the response (R619). -/
  cache : List (Nat × Packet) := []
  /-- Keys whose entry has left the cache and that no first attempt has used since. -/
  cacheGone : List Nat := []
  /-- Frame number of the last accepted beacon (R621). -/
  beacon : Option Nat := none
  /-- UNROUTABLE: packets discarded since it was last raised, and its tick (R604). -/
  unrouted : Nat := 0
  unroutedTick : Option Nat := none
  /-- LFSR of each injection point, and the frame a point holds for reordering (R629, R630). -/
  lfsr : List Nat := []
  reorder : List (Nat × Nat × Bool × Packet) := []
  /-- Packets delivered to this tile and not yet taken up, with their input port, and completions passed to their
  requesters and not yet taken up. -/
  inbox : List (Nat × Packet) := []
  done : List Operation := []
  /-- `egl ping` in progress: operations outstanding, round trips so far, failures. -/
  ping : Option (Nat × List Nat × Nat) := none
  /-- The fault-injection gate is open (R627). -/
  gate : Bool := false
  deriving DecidableEq, Repr

/-- An access that waits for the end of a repair of its bank (R671). -/
structure MemAccess where
  portB : Bool
  bank : Nat
  word : Nat
  master : Nat
  wr : Option Word
  flips : List (BitVec 5)
  collide : Bool
  deriving DecidableEq, Repr

/-- The memory banks, beside their registers and words (chapter 17). -/
structure Memory where
  /-- Addresses of words that decode as uncorrectable until they are written (R656, R658, R666). -/
  bad : List Nat := []
  /-- The bank under repair and its column (R670); the console waits for its end. -/
  repair : Option (Nat × Nat) := none
  console : Bool := false
  /-- Accesses to the bank under repair, which wait for its end, oldest first (R671). -/
  waiting : List MemAccess := []
  /-- Corrections since the last MEM_CORRECTED record, and its tick (R675). -/
  corrected : Nat := 0
  correctedTick : Option Nat := none
  /-- MEM_WIN_SEL of the four requesters (R661). -/
  winSel : List Word := [15, 15, 15, 15]
  deriving DecidableEq, Repr

/-- A gather descriptor (R678 to R681). -/
structure Descriptor where
  tag : Nat
  dst : Nat
  /-- Source address and length of each element. -/
  elems : List (Nat × Nat)
  deriving DecidableEq, Repr

/-- A gather channel (R681, R699). -/
structure Channel where
  active : Option Descriptor := none
  queue : List Descriptor := []
  elem : Nat := 0
  word : Nat := 0
  written : Nat := 0
  collisions : Nat := 0
  skipped : Bool := false
  /-- The entries that translated the present source and destination pages, checked already (R693). -/
  srcEnt : Option (Word × Word) := none
  dstEnt : Option (Word × Word) := none
  /-- Remote words requested of the present element, and data received in issue order (R688). -/
  asked : Nat := 0
  data : List Word := []
  /-- A read of the element has failed: kind, at the next undelivered word (R698). -/
  failed : Option Nat := none
  /-- Reads under way whose data is discarded, by destination and count (R699, R701). -/
  discard : List (Nat × Nat) := []
  deriving DecidableEq, Repr

/-- The gather engine, beside its registers (chapter 18). -/
structure Gather where
  channels : List Channel := List.replicate 8 {}
  deriving DecidableEq, Repr

/-- A lamp (R747, R762 to R764). -/
structure Lamp where
  level : Nat := 0
  /-- The level at the output, taken at the period start (R763). -/
  out : Nat := 0
  /-- The perceptual curve (R748). -/
  curve : Bool := false
  /-- Fault kind, or 0 (R779). -/
  fault : Nat := 0
  /-- The command that moves the lamp: its number, the level it started from, target, fade and elapsed ms. -/
  cmd : Option (Nat × Nat × Nat × Nat × Nat) := none
  /-- Consecutive periods or checks that met a fault condition: open, short, overload, channel. -/
  openRun : Nat := 0
  shortRun : Nat := 0
  hotRun : Nat := 0
  chanRun : Nat := 0
  deriving DecidableEq, Repr

/-- A lamp command in progress (R764). -/
structure LampCmd where
  num : Nat
  tag : Nat
  group : Bool
  index : Nat
  /-- It has lost a lamp to a later command, or to a fault or trip. -/
  lost : Bool
  spoiled : Bool
  deriving DecidableEq, Repr

/-- A sink's measurements (R750, R751). -/
structure Sink where
  /-- The last headroom in 10 mV, and the last string voltage measured while not starved. -/
  head : Nat := 0
  string : Option Nat := none
  starved : Bool := false
  /-- LAMP_HEADROOM has been raised for this episode (R772). -/
  reported : Bool := false
  deriving DecidableEq, Repr

/-- Lamp drive, beside its registers (chapter 20). -/
structure Lamps where
  /-- Lamps that differ from off, by number. -/
  lamps : List (Nat × Lamp) := []
  cmds : List LampCmd := []
  nextNum : Nat := 0
  sinks : List Sink := List.replicate 8 {}
  /-- Tap lamps whose bypass clamped in the present and in the last period (R754). -/
  clampNow : List Nat := []
  clampPrev : List Nat := []
  /-- The plane of the next detect latch (R759). -/
  plane : Nat := 11
  /-- Failed chain checks in a row; the chain is blanked (R780). -/
  chainFails : Nat := 0
  blanked : Bool := false
  /-- The check that comes before the first refresh has been made (R782). -/
  checked : Bool := false
  /-- Levels to return to on leaving WATCH (R770). -/
  watchLevels : List (Nat × Lamp) := []
  deriving DecidableEq, Repr

/-- The rails, beside their registers (chapter 19). Voltages in mV. -/
structure Rails where
  /-- The rail controller runs (R724, R741). -/
  on : Bool := false
  vledTgt : Nat := 0
  vledRef : Nat := 0
  vtxTgt : Nat := 0
  vtxRef : Nat := 0
  /-- The last measured outputs. -/
  vhv : Nat := 0
  vtx : Nat := 0
  /-- A command in progress on each rail: its tag. -/
  vledCmd : Option Nat := none
  vtxCmd : Option Nat := none
  /-- The VTX target of the image or of the last command, and the fixed VLED target, that the modes return to. -/
  vtxWant : Nat := 0
  vledFixed : Nat := 0
  /-- A soft start of VLED and of VTX: the start voltage and 10 microsecond updates done (R722, R723). -/
  vledSoft : Option (Nat × Nat) := none
  vtxSoft : Option (Nat × Nat) := none
  /-- A VLED command that waits for the end of the ramp (R722). -/
  vledNext : Option Nat := none
  /-- VTX moves back to the regulator in the next frame gap (R737). -/
  vtxBack : Bool := false
  /-- BSTGATE is held low for overvoltage, and the tick of the last RAIL_OVERVOLT (R739). -/
  gateLow : Bool := false
  /-- VHV has exceeded 50 V: BSTDIS is released too (R734). -/
  disOpen : Bool := false
  overTick : Option Nat := none
  /-- VTX is off for 250 ms after a fault of kind 2 or 3 (R740). -/
  vtxOff : Bool := false
  /-- What the VTX target was before a memory repair (R725). -/
  beforeRepair : Option Nat := none
  deriving DecidableEq, Repr


/-- A key held by the infrared receiver (R798). -/
structure HeldKey where
  tpl : Nat
  /-- The code without its toggle bit, the toggle, and the virtual key. -/
  code : Nat
  toggle : Nat
  vkey : Nat
  repeats : Nat
  deriving DecidableEq, Repr

/-- A transmission in progress (R805). -/
structure Transmission where
  tag : Nat
  mode : Nat
  start : Nat
  index : Nat
  /-- Runs left, and entries of the present run so far. -/
  left : Nat
  count : Nat
  console : Bool
  /-- The carrier of its last mark entry, a word of ITX_CARRIER (R803, R812). -/
  carrier : Word
  deriving DecidableEq, Repr

/-- The infrared receiver and transmitter, beside their registers (chapter 21). -/
structure Infrared where
  /-- Durations of the frame in progress, a mark first, each with whether a recorder dated it; none between frames. -/
  frame : Option (List (Nat × Bool)) := none
  /-- The templates and the polarity as they stood when the frame began (R812). -/
  tpl : List Word := []
  pol : Nat := 0
  /-- The space before the frame's first mark (R796). -/
  lead : Nat := 0
  /-- The next mark starts a frame (R791). -/
  ready : Bool := false
  /-- The tick of the last accepted edge (R789). -/
  edgeTick : Option Nat := none
  /-- The console waits for the decode of its own transmission (ITX_LOOP). -/
  loop : Bool := false
  held : Option HeldKey := none
  /-- Ticks of the pulses discarded in the last second, and of the last IR_NOISE (R818). -/
  glitches : List Nat := []
  noiseTick : Option Nat := none
  tx : Option Transmission := none
  /-- The tick at which the last transmission ended (R807). -/
  txEnd : Option Nat := none
  /-- The pattern memory (R804). -/
  pattern : Cells 24 := []
  deriving DecidableEq, Repr

/-- An accumulator set of a housekeeping channel (R827). -/
structure AccSet where
  /-- The 48-bit signed sum. -/
  sum : Int := 0
  count : Nat := 0
  min : Word := 0x7FFFFF#24
  max : Word := 0x800000#24
  ovrPos : Nat := 0
  ovrNeg : Nat := 0
  sat : Bool := false
  deriving DecidableEq, Repr

/-- A housekeeping channel, beside HKA_BCFG.STATE (R827, R830, R840). -/
structure HkaChan where
  h : AccSet := {}
  f : AccSet := {}
  /-- Consecutive outside conversions on one side: above, and how many. -/
  above : Bool := false
  run : Nat := 0
  /-- The tick at which the plan next starts the channel. -/
  due : Nat := 0
  deriving DecidableEq, Repr

/-- A conversion in progress on a converter (R825, R835, R837). -/
structure HkaConv where
  ch : Nat
  host : Bool
  refsel : Nat
  tag : Nat
  notify : Bool
  /-- It waits for its reference. -/
  waiting : Bool
  deriving DecidableEq, Repr

/-- The housekeeping converter, beside its registers (chapter 22). -/
structure Hka where
  chans : List HkaChan := List.replicate 16 {}
  convA : Option HkaConv := none
  convB : Option HkaConv := none
  /-- The interleaved conversion that waits for converter B (R835). -/
  ilv : Option HkaConv := none
  /-- The snapshots of the four requesters: channel and set (R828). -/
  snaps : List (Nat × AccSet) := List.replicate 4 (0, {})
  /-- The host's last command names REFSEL 1, while its claim lasts (R838). -/
  hostRef : Bool := false
  /-- A WATCH scan has begun since the plan's last conversion in WATCH (R831). -/
  watchTurn : Bool := false
  /-- A copy of the settings page waits for the NVM bus (R442, R878). -/
  settingsDue : Bool := false
  /-- Checks in a row that found REFIN in range while a fault lasts (R850). -/
  good : Nat := 0
  /-- The tick at which each kind of HKA_FAULT was last raised (R851). -/
  faultTicks : List (Nat × Nat) := []
  /-- The system calibration step in progress: channel and operation; the console runs it and waits for its end. -/
  step : Option (Nat × Nat) := none
  stepConsole : Bool := false
  /-- ZERO and FULL means of the AIN channels since the last APPLY or reset (R843). -/
  zero : List (Option Int) := [none, none, none, none]
  full : List (Option Int) := [none, none, none, none]
  /-- The last valid values of channels 9 and 10 (R862). -/
  t0 : Int := 0
  t1 : Int := 0
  deriving DecidableEq, Repr

/-- A physical channel's calibration (R857, R859). -/
structure ChanCal where
  cells : Word := 0
  good : Word := 0xFFF#24
  bad : Bool := false
  /-- The setting of its offset charge source (R209). -/
  offset : Word := 0
  deriving DecidableEq, Repr

/-- Calibration, telemetry and the fault log, beside their registers (chapter 23). -/
structure Calib where
  /-- Front-end items left: channel c as c, the driver of electrode e as 68 + e (R866). -/
  items : List Nat := []
  /-- Background items left: reference cells, RC legs (R857). -/
  refLeft : Bool := false
  rcLeft : Bool := false
  slices : Nat := 0
  /-- The tick of the last slice, or at which the run became due (R867). -/
  since : Nat := 0
  /-- Temperatures at the start of the run in 0.1 °C (R862, R866). -/
  t0 : Int := 0
  t1 : Int := 0
  /-- A command or wake trigger came while a run was in progress (R880): its code. -/
  again : Option Nat := none
  /-- Physical channels that differ from the factory default. -/
  chans : List (Nat × ChanCal) := []
  /-- Sets for which CAL_REDUNDANCY has been raised: set code and number (R861). -/
  reported : List (Nat × Nat) := []
  /-- The stretched frame named and not yet started, and the tick at which one was last named (R868). -/
  stretch : Option Nat := none
  named : Option Nat := none
  /-- The stretched frame in whose last gap a starved tile may still run its one slice (R869). -/
  window : Option Nat := none
  /-- No temperature has been judged since the last wake (R180). -/
  woke : Bool := false
  /-- Physical channels replaced, which are not used again until a reset (R859), and spares that passed their check. -/
  replaced : List Nat := []
  passed : List Nat := []
  /-- Telemetry flags seen in the period, the next sequence number, and the tick of the last record (R872). -/
  flags : Word := 0
  nextSeq : Nat := 0
  lastRec : Nat := 0
  /-- Slots of bank 14 whose record has been discarded for an uncorrectable word (R666). -/
  telemGone : List Nat := []
  /-- Sets for LOG_SUMMARY: means and extremes since the last summary by channel (R875). -/
  summary : List AccSet := List.replicate 16 {}
  /-- LAP of the head page (R876). -/
  lap : Nat := 0
  /-- Pages retired, by number. -/
  retired : List Nat := []
  /-- Records lost that LOG_EVENT of kind 2 has not reported (R879, R885). -/
  lost : Nat := 0
  /-- Pages of the log area when the log was mounted (LOG_PAGES of R131). -/
  pages : Nat := 0
  deriving DecidableEq, Repr


/-- The TK624: everything but the queue of waiting commands. -/
structure Dev where
  /-- The registers, against the reset words of the directory (R925 to R930). -/
  regs : Cells 24 := []
  /-- The sixteen banks: word w of bank n at address 16384 * n + w (R647, R648). -/
  banks : Cells 24 := []
  /-- The EEPROM on the NVM bus, by byte address (R130, R131); an unlisted byte reads 0xFF. -/
  nvm : Cells 8 := []
  /-- The applied configuration: word by parameter id (R500), against the defaults of the image fields. -/
  cfg : Cells 24 := []
  /-- Present word counts of the image fields whose count varies: (section, field ID) code and count (R503). -/
  cfgLen : List (Nat × Nat) := []
  /-- The image's own value of each word changed since the image load, by parameter id (R536, cfg get). -/
  img : List (Nat × Word) := []
  fuses : Fuses := {}
  pwr : Power := {}
  boot : Boot := {}
  modes : Modes := {}
  evr : Router := {}
  time : TimeBase := {}
  twb : TwoWire := {}
  com : Commit := {}
  con : Console := {}
  usb : Usb := {}
  scan : Scan := {}
  trk : Track := {}
  rpt : Reports := {}
  surf : Surface := {}
  link : Link := {}
  mem : Memory := {}
  gde : Gather := {}
  lamp : Lamps := {}
  rail : Rails := {}
  ir : Infrared := {}
  hka : Hka := {}
  cal : Calib := {}
  /-- The fault-log queue, oldest first (R875). -/
  logQ : List LogRec := []
  /-- Messages handed to the Egret link, oldest first. -/
  outbox : List Msg := []
  /-- 32 kHz tick boundaries since power-on: the model's own clock for windows and intervals (log entry 3). -/
  ticks : Nat := 0
  /-- The model's own counter of free values drawn (log entry 2). -/
  free : Nat := 0
  deriving DecidableEq, Repr

/-- The machine: the hardware and the commands that wait, first in, first out. -/
structure State where
  dev : Dev
  pending : List Instr
  deriving DecidableEq, Repr

/-- The hardware right after a power-on reset: every register at its directory word, every other field at the value its
structure names. -/
def Dev.reset : Dev := {}

/-- The machine right after a power-on reset: no command waits. -/
def State.reset : State := ⟨Dev.reset, []⟩

end Sys2Proof.Machine
end

