-- ==== Sys2Proof/Machine/Flags.lean ====
section
/-!
DEFINITION. Flags.lean: register words, their fields, status flags and saturating counters (R11 to R16).
-/

namespace Sys2Proof.Machine

/-- The stored word of a register. -/
def Dev.reg (d : Dev) (a : Nat) : Word := cellsGet regReset d.regs a

/-- A register's stored word replaced. -/
def Dev.setReg (d : Dev) (a : Nat) (w : Word) : Dev := { d with regs := cellsSet regReset d.regs a w }

/-- The value of a field. -/
def Dev.fld (d : Dev) (f : Fld) : Nat := wGet (d.reg f.addr) f.lsb f.width

/-- A field replaced by v mod 2^width. -/
def Dev.setFld (d : Dev) (f : Fld) (v : Nat) : Dev := d.setReg f.addr (wSet (d.reg f.addr) f.lsb f.width v)

/-- A one-bit field as a Bool. -/
def Dev.flag (d : Dev) (f : Fld) : Bool := d.fld f != 0

/-- A one-bit field set from a Bool. -/
def Dev.setFlag (d : Dev) (f : Fld) (b : Bool) : Dev := d.setFld f (bit b)

/-- A counter increased by n, saturating at the maximum of its field. -/
def Dev.bumpBy (d : Dev) (f : Fld) (n : Nat) : Dev := d.setFld f (min (d.fld f + n) (2 ^ f.width - 1))

/-- A counter increased by 1, saturating at the maximum of its field. -/
def Dev.bump (d : Dev) (f : Fld) : Dev := d.bumpBy f 1

/-- A write that is ignored: counted in SYS_WRIGN (R15, R16). -/
def Dev.ignoreWrite (d : Dev) : Dev := d.bump SYS_WRIGN_COUNT

/-- The RW bits of a register stored from a written word, its W1C bits cleared where the word has a 1 (R11, R14). -/
def Dev.storeReg (d : Dev) (a : Nat) (v : Word) : Dev :=
  let old := d.reg a
  d.setReg a ((old &&& ~~~ rwMask a &&& ~~~ (w1cMask a &&& v)) ||| (v &&& rwMask a))

end Sys2Proof.Machine
end

