-- ==== Sys2Proof/Machine/Params.lean ====
section
/-!
DEFINITION. Params.lean: the image fields of every section (R141, R200, R243, R293, R330, R379, R416, R456, R498, R585,
R644, R744, R785, R821, R855, R888), with their ranges, defaults, range-check classes (R142) and runtime classes (R538).
A word of a field is named by its parameter id (R500).
-/

namespace Sys2Proof.Machine

/-- How the words of a field are judged (R142): a plain range, a range "0, or a to b", or a rule of the field's own. -/
inductive RangeKind where
  | plain
  | zeroOr
  | own
  deriving DecidableEq, Repr

/-- Runtime class of an image field (R508, R538). -/
inductive RunClass where
  | hot
  | warm
  | cold
  | imageOnly
  deriving DecidableEq, Repr

/-- One image field: section (low 5 bits of TYPE), field ID, fewest and most words, the step of the word count, range
kind and range, whether it is of the clamp class, its runtime class, and its default words (the last one repeats). -/
structure FieldSpec where
  sect : Nat
  id : Nat
  minWords : Nat
  maxWords : Nat
  stepWords : Nat
  kind : RangeKind
  lo : Nat
  hi : Nat
  clamp : Bool
  run : RunClass
  dflt : List Nat
  deriving DecidableEq, Repr

/-- A one-word field with a plain range. -/
def oneWord (sect id lo hi dflt : Nat) (clamp : Bool) (run : RunClass) : FieldSpec :=
  ⟨sect, id, 1, 1, 1, .plain, lo, hi, clamp, run, [dflt]⟩

/-- Section codes: the low 5 bits of TYPE (R140, R500). -/
abbrev secSystem : Nat := 0x02
abbrev secHost : Nat := 0x03
abbrev secModes : Nat := 0x04
abbrev secScan : Nat := 0x05
abbrev secTrack : Nat := 0x06
abbrev secReports : Nat := 0x07
abbrev secEvents : Nat := 0x08
abbrev secTime : Nat := 0x09
abbrev secRails : Nat := 0x0A
abbrev secLamps : Nat := 0x0B
abbrev secIr : Nat := 0x0C
abbrev secHka : Nat := 0x0D
abbrev secCal : Nat := 0x0E
abbrev secSurface : Nat := 0x0F
abbrev secLink : Nat := 0x10

/-- SYSTEM (R141). -/
def fieldsSystem : List FieldSpec := [
  oneWord secSystem 0x01 0 2 1 false .imageOnly,
  oneWord secSystem 0x02 1 0xFFFFFF 0x000624 false .imageOnly,
  oneWord secSystem 0x03 0 1 0 false .imageOnly,
  oneWord secSystem 0x04 16 512 512 true .imageOnly]

/-- HOST (R456, R498). An absent USB identity or string has no word. -/
def fieldsHost : List FieldSpec := [
  ⟨secHost, 0x01, 1, 1, 1, .own, 0x09, 0x77, false, .imageOnly, [0x2C]⟩,
  oneWord secHost 0x02 0 1 0 false .imageOnly,
  oneWord secHost 0x03 0 1 1 false .imageOnly,
  oneWord secHost 0x04 0 15 12 true .hot,
  oneWord secHost 0x05 0 2 0 false .hot,
  oneWord secHost 0x06 1 600 60 true .hot,
  oneWord secHost 0x10 1 0xFFFF 0 false .imageOnly,
  oneWord secHost 0x11 0 0xFFFF 0 false .imageOnly,
  oneWord secHost 0x12 0 1 1 false .imageOnly,
  oneWord secHost 0x13 0 8 0 true .imageOnly,
  oneWord secHost 0x14 0 1 1 false .imageOnly,
  ⟨secHost, 0x15, 1, 10, 1, .own, 0, 0xFFFFFF, false, .imageOnly, [0]⟩,
  ⟨secHost, 0x16, 1, 10, 1, .own, 0, 0xFFFFFF, false, .imageOnly, [0]⟩,
  oneWord secHost 0x17 0 1 0 false .imageOnly]

/-- MODES (R200). -/
def fieldsModes : List FieldSpec := [
  oneWord secModes 0x01 1 600 3 true .hot,
  oneWord secModes 0x02 0 1 0 false .hot,
  oneWord secModes 0x03 10 3600 60 true .hot,
  oneWord secModes 0x04 10 60 30 true .hot,
  oneWord secModes 0x05 5 50 20 true .hot,
  oneWord secModes 0x06 0 0xFF 1 false .hot,
  oneWord secModes 0x07 0 0x7F 0x7F false .hot,
  oneWord secModes 0x08 0 2 1 false .hot,
  oneWord secModes 0x09 0 1 1 false .hot,
  oneWord secModes 0x0A 0 255 10 true .hot,
  oneWord secModes 0x0B 1 60 10 true .hot,
  oneWord secModes 0x0C 0 1 0 false .hot,
  oneWord secModes 0x0D 0 1000 100 true .hot,
  ⟨secModes, 0x0E, 4, 32, 4, .own, 0, 0xFFFFFF, false, .hot, [0]⟩,
  ⟨secModes, 0x0F, 4, 4, 1, .own, 0, 0xFFFFFF, true, .hot, [400, 40, 800, 50]⟩,
  oneWord secModes 0x10 0 1 0 false .hot,
  oneWord secModes 0x11 5 255 20 true .hot,
  oneWord secModes 0x12 0 2 0 false .hot]

/-- SCAN (R243). -/
def fieldsScan : List FieldSpec := [
  ⟨secScan, 0x01, 160, 160, 1, .own, 0, 0xFFFFFF, false, .cold, [0]⟩,
  ⟨secScan, 0x02, 8, 8, 1, .plain, 24, 300, true, .warm, [60, 56, 52, 48, 44, 40, 36, 32]⟩,
  oneWord secScan 0x03 1 0xFF 0xFF false .warm,
  oneWord secScan 0x04 2 32 6 true .warm,
  oneWord secScan 0x05 10 100 25 true .warm,
  oneWord secScan 0x06 48 480 96 true .warm,
  oneWord secScan 0x07 8 255 30 true .warm,
  oneWord secScan 0x08 50 2000 400 true .warm,
  oneWord secScan 0x09 10 30 25 true .warm,
  oneWord secScan 0x0A 10 240 120 true .hot,
  oneWord secScan 0x0B 4 20 10 true .cold,
  oneWord secScan 0x0C 0 1 0 false .warm,
  oneWord secScan 0x0D 4 64 8 true .hot]

/-- TRACK (R293). -/
def fieldsTrack : List FieldSpec := [
  oneWord secTrack 0x01 5 500 40 true .hot,
  ⟨secTrack, 0x02, 1, 1, 1, .own, 3, 499, true, .hot, [25]⟩,
  ⟨secTrack, 0x03, 1, 1, 1, .own, 2, 499, true, .hot, [15]⟩,
  oneWord secTrack 0x04 5 500 30 true .hot,
  oneWord secTrack 0x05 0 2 1 false .hot,
  oneWord secTrack 0x06 1 4 1 true .hot,
  oneWord secTrack 0x07 1 8 2 true .hot,
  oneWord secTrack 0x08 4 64 8 true .hot,
  oneWord secTrack 0x09 1 600 20 true .hot,
  oneWord secTrack 0x0A 1 100 5 true .hot,
  ⟨secTrack, 0x0B, 1, 1, 1, .zeroOr, 10, 3600, true, .hot, [0]⟩,
  oneWord secTrack 0x0C 0x000100 0x7FFFFF 0x004000 true .hot,
  oneWord secTrack 0x0D 1 20 6 true .hot,
  oneWord secTrack 0x0E 1 64 8 true .hot,
  oneWord secTrack 0x0F 8 1000 60 true .hot,
  oneWord secTrack 0x10 0x000100 0x7FFFFF 0x080000 true .hot,
  oneWord secTrack 0x11 0 1 1 false .hot,
  oneWord secTrack 0x12 0 2 1 false .hot,
  oneWord secTrack 0x13 1 20 2 true .hot,
  oneWord secTrack 0x14 5 600 30 true .hot,
  oneWord secTrack 0x15 9 1024 60 true .hot,
  oneWord secTrack 0x16 1 20 10 true .warm,
  oneWord secTrack 0x17 1 20 5 true .hot,
  ⟨secTrack, 0x18, 2, 2, 1, .plain, 100, 2000, false, .warm, [500, 500]⟩]

/-- REPORTS (R330). -/
def fieldsReports : List FieldSpec := [
  oneWord secReports 0x01 0 2 0 false .warm,
  oneWord secReports 0x02 0 1 1 false .hot,
  oneWord secReports 0x03 0 7 0 false .warm,
  oneWord secReports 0x04 0 0x1FF 0 false .hot,
  oneWord secReports 0x05 50 500 200 true .hot]

/-- EVENTS (R379). -/
def fieldsEvents : List FieldSpec := [
  ⟨secEvents, 0x01, 2, 1024, 2, .own, 0, 0xFFFFFF, false, .imageOnly, [0]⟩,
  oneWord secEvents 0x02 0 255 50 true .hot]

/-- TIME (R416). -/
def fieldsTime : List FieldSpec := [oneWord secTime 0x01 4 64 4 true .hot]

/-- RAILS (R744). -/
def fieldsRails : List FieldSpec := [
  oneWord secRails 0x01 0 1 1 false .imageOnly,
  oneWord secRails 0x02 400 2000 1000 true .cold,
  oneWord secRails 0x03 50 200 100 true .cold,
  oneWord secRails 0x04 600 2000 2000 true .hot,
  oneWord secRails 0x05 800 4800 800 true .hot,
  ⟨secRails, 0x06, 1, 1, 1, .own, 800, 4800, true, .hot, [4800]⟩,
  oneWord secRails 0x07 1 100 10 true .hot,
  oneWord secRails 0x08 1 32 4 true .hot,
  oneWord secRails 0x09 600 1000 1000 true .hot,
  oneWord secRails 0x0A 5 100 10 true .hot]

/-- LAMPS (R785). -/
def fieldsLamps : List FieldSpec := [
  ⟨secLamps, 0x01, 8, 8, 1, .plain, 4, 120, true, .hot, [20]⟩,
  ⟨secLamps, 0x02, 8, 8, 1, .zeroOr, 100, 4800, true, .hot, [0]⟩,
  oneWord secLamps 0x03 0 1 0 false .imageOnly,
  oneWord secLamps 0x04 0 0xFF 0xFF false .imageOnly,
  oneWord secLamps 0x05 0 32 0 false .imageOnly,
  oneWord secLamps 0x06 1000 20000 10000 true .hot,
  ⟨secLamps, 0x07, 528, 528, 1, .plain, 0, 0x1F, false, .imageOnly, [0]⟩,
  ⟨secLamps, 0x08, 16, 16, 1, .own, 0, 7, false, .imageOnly, [0]⟩,
  oneWord secLamps 0x09 50 500 150 true .hot]

/-- IR (R821). -/
def fieldsIr : List FieldSpec := [
  oneWord secIr 0x01 0 1 0 false .hot,
  oneWord secIr 0x02 0 63 10 true .hot,
  oneWord secIr 0x03 2 100 10 true .hot,
  ⟨secIr, 0x04, 4, 16, 4, .own, 0, 0xFFFFFF, false, .hot, [0]⟩,
  ⟨secIr, 0x05, 3, 384, 3, .own, 0, 0xFFFFFF, false, .hot, [0]⟩,
  ⟨secIr, 0x06, 1, 1, 1, .own, 0, 0x1FFFF, true, .hot, [0x84EF]⟩,
  ⟨secIr, 0x07, 1, 512, 1, .own, 0, 0xFFFFFF, false, .imageOnly, [0]⟩,
  oneWord secIr 0x08 1 100 20 true .hot,
  oneWord secIr 0x09 10 1000 200 true .hot]

/-- Default channel plan (R855): channels 4 to 11 and 13 with INTERVAL 10, RATE 2, WATCH 1; channel 15 with INTERVAL
100, RATE 2; the others 0. -/
def hkaPlanDefault : List Nat :=
  [0, 0, 0, 0] ++ List.replicate 8 0x00A440 ++ [0, 0x00A440, 0, 0x064400]

/-- Default bands (R855): LO, HI, HYS and EN with CONSEC for each channel. -/
def hkaBandsDefault : List Nat :=
  [0, 0, 0, 0] ++
  [0, 0, 0, 0] ++
  [0, 0, 0, 0] ++
  [0, 0, 0, 0] ++
  [3000000, 3600000, 6000, 0x800003] ++
  [3000000, 3600000, 6000, 0x800003] ++
  [1710000, 3600000, 18900, 0x800003] ++
  [0, 0, 0, 0] ++
  [0, 0, 0, 0] ++
  [0xFF5038, 125000, 1700, 0x800003] ++
  [0xFF5038, 125000, 1700, 0x800003] ++
  [1237500, 1262500, 250, 0x800003] ++
  [0, 0, 0, 0] ++
  [0, 0, 0, 0] ++
  [0, 0, 0, 0] ++
  [0xFFEC78, 5000, 100, 0x800003]

/-- HKA (R855). -/
def fieldsHka : List FieldSpec := [
  ⟨secHka, 0x01, 16, 16, 1, .own, 0, 0xFFFFFF, false, .hot, hkaPlanDefault⟩,
  ⟨secHka, 0x02, 64, 64, 1, .own, 0, 0xFFFFFF, false, .hot, hkaBandsDefault⟩,
  oneWord secHka 0x03 0 1 1 false .hot,
  oneWord secHka 0x04 1 60 10 true .hot]

/-- CAL (R888). -/
def fieldsCal : List FieldSpec := [
  oneWord secCal 0x01 1 30 4 true .hot,
  oneWord secCal 0x02 1 60 5 true .hot,
  oneWord secCal 0x03 1 60 2 true .hot,
  oneWord secCal 0x04 1 600 10 true .hot,
  ⟨secCal, 0x05, 1, 1, 1, .zeroOr, 1, 168, true, .hot, [24]⟩,
  oneWord secCal 0x06 0 1 1 false .hot]

/-- SURFACE (R585). -/
def fieldsSurface : List FieldSpec := [
  ⟨secSurface, 0x01, 1, 1, 1, .own, 0, 0x3FFF, false, .imageOnly, [0x0101]⟩,
  ⟨secSurface, 0x02, 2, 2048, 2, .own, 0, 0xFFFFFF, false, .imageOnly, [0]⟩,
  oneWord secSurface 0x03 100 5000 800 true .imageOnly,
  oneWord secSurface 0x04 0 255 0 true .imageOnly,
  oneWord secSurface 0x05 1 64 32 true .imageOnly]

/-- LINK (R644). -/
def fieldsLink : List FieldSpec := [
  oneWord secLink 0x01 0 0xF 0xF false .imageOnly,
  oneWord secLink 0x02 0 1 0 false .imageOnly]

/-- Every image field. -/
def fieldSpecs : List FieldSpec :=
  fieldsSystem ++ fieldsHost ++ fieldsModes ++ fieldsScan ++ fieldsTrack ++ fieldsReports ++ fieldsEvents ++
  fieldsTime ++ fieldsRails ++ fieldsLamps ++ fieldsIr ++ fieldsHka ++ fieldsCal ++ fieldsSurface ++ fieldsLink

/-- The field of a section and a field ID. -/
def fieldSpec (sect id : Nat) : Option FieldSpec := fieldSpecs.find? fun f => f.sect == sect && f.id == id

/-- The parameter id of a word (R500). -/
def pid (sect id idx : Nat) : Nat := sect * 524288 + id * 2048 + idx

/-- The section, field ID and word index of a parameter id (R500). -/
def pidSect (p : Nat) : Nat := p / 524288 % 32
def pidField (p : Nat) : Nat := p / 2048 % 256
def pidIndex (p : Nat) : Nat := p % 2048

/-- The default of one word of a field: its own, or the last one given. -/
def fieldDefault (f : FieldSpec) (idx : Nat) : Nat :=
  match f.dflt[idx]? with
  | some v => v
  | none => f.dflt.getLastD 0

/-- What a configuration word reads as when nothing has set it: the default of its field (R140, R18). -/
def paramDefault (p : Nat) : Word :=
  match fieldSpec (pidSect p) (pidField p) with
  | none => 0
  | some f => if pidIndex p < f.maxWords then word (fieldDefault f (pidIndex p)) else 0

end Sys2Proof.Machine
end

