-- ==== Sys2Proof/Machine/Text.lean ====
section
/-!
DEFINITION. Text.lean: the console's text both ways: what an output line reads (R68, R69, R79, R82, R89, R934), and which
command a received line spells (R67, R68).
-/

namespace Sys2Proof.Machine

/-! Characters and numbers. -/

/-- The characters of a string of this file, as bytes. -/
def chars (s : String) : List Byte := s.toList.map fun c => BitVec.ofNat 8 c.toNat

/-- A hexadecimal digit in upper case (R934). -/
def hexChar (n : Nat) : Byte := BitVec.ofNat 8 (if n < 10 then 48 + n else 55 + n)

/-- The n lowest hexadecimal digits of a number, with leading zeros (R934). -/
def hexText : Nat → Nat → List Byte
  | 0, _ => []
  | k + 1, v => hexText k (v / 16) ++ [hexChar (v % 16)]

/-- The n lowest decimal digits of a number, with leading zeros. -/
def padText : Nat → Nat → List Byte
  | 0, _ => []
  | k + 1, v => padText k (v / 10) ++ [hexChar (v % 10)]

/-- How many decimal digits a number below 10^9 has. -/
def decWidth (v : Nat) : Nat := 1 + (([10, 100, 1000, 10000, 100000, 1000000, 10000000, 100000000].filter (· ≤ v)).length)

/-- A decimal number without leading zeros. -/
def decText (v : Nat) : List Byte := padText (decWidth v) v

/-- Fields separated by one space (R934). -/
def spaced : List (List Byte) → List Byte
  | [] => []
  | [w] => w
  | w :: rest => w ++ 0x20#8 :: spaced rest

/-- Millivolts as volts with three decimals, which is how the worked example of chapter 3 writes a band. -/
def voltText (mv : Nat) : List Byte := decText (mv / 1000) ++ 0x2E#8 :: padText 3 (mv % 1000)

/-! Names (R68, R89, R162, R166, R934, and the Event sources section of each chapter). -/

/-- The names of R68 by code. -/
def errorName (code : Nat) : String :=
  ["", "FRAMING", "TOO_LONG", "UNKNOWN", "SYNTAX", "RANGE", "NEEDS_SERVICE", "LOCKED", "BUSY", "NO_MANAGER", "TIMEOUT",
    "REMOTE",
    "ABORTED"].getD code ""

def roleName (role : Nat) : String := ["worker", "manager", "standalone"].getD role "worker"

def modeName (mode : Nat) : String := ["WATCH", "IDLE", "ACTIVE", "HIBERNATE", "SERVICE", "SAFE"].getD mode "START"

/-- The trigger of SAFE by its code; the manual gives the meanings and no spelling (DESIGN CHOICE, log entry 6). -/
def safeName (cause : Nat) : String := ["NONE", "NO_IMAGE", "FUSE", "CONFIG_BANK", "WATCHDOG"].getD cause "NONE"

/-- The names of the event tables. -/
def sourceNames : List (Nat × String) :=
  [(1, "EVR_OVERFLOW"), (2, "EVR_SERVICE_TIMEOUT"), (3, "EVR_ORDER"), (4, "EVR_CORE_LOSS"), (5, "STRAP_FALLBACK"),
    (6, "RESET_REPORT"), (7, "SUPPLY_EVENT"), (8, "CLOCK_EVENT"), (9, "IMAGE_REPORT"), (10, "IMAGE_CLAMP"),
    (11, "NVM_PROXY_DONE"), (12, "MODE_CHANGE"), (13, "WAKE_REPORT"), (14, "WAKE_STORM"), (15, "IMAGE_REJECT"),
    (16, "COMPACT_CONTACT"), (17, "SURFACE_CONTACT_A"), (18, "SURFACE_CONTACT_B"), (19, "FRAME_END"),
    (20, "SCAN_STATE"), (21, "SCAN_OVERRUN"), (22, "ELECTRODE_FAULT"), (23, "CHANNEL_REMAP"), (28, "BASELINE_EVENT"),
    (29, "FREQ_HOP"), (30, "WET_MODE"), (31, "NOISE_ALARM"), (32, "GLOVE_MODE"), (33, "PALM"), (34, "TRACK_LIMIT"),
    (35, "TRACK_DEGRADED"), (36, "CONTACT_CANCEL"), (37, "CONTACT_RESYNC"), (38, "GESTURE"), (39, "CAPTURE_DONE"),
    (64, "RAIL_DONE"), (65, "RAIL_SHORT"), (66, "RAIL_DEGRADED"), (67, "RAIL_LATCHED"), (68, "RAIL_VTX_FAULT"),
    (69, "RAIL_OVERVOLT"), (70, "RAIL_CLAMP"), (72, "LAMP_FADE_DONE"), (73, "LAMP_FAULT"), (74, "LAMP_GROUP_TRIP"),
    (75, "LAMP_GROUP_CLEAR"), (76, "LAMP_HEADROOM"), (77, "LAMP_CHAIN"), (96, "IR_KEY"), (97, "IR_UNKNOWN"),
    (98, "IR_STUCK"), (99, "IR_NOISE"), (100, "IR_TX_DONE"), (112, "HKA_BAND_EXIT"), (113, "HKA_CONV_DONE"),
    (114, "HKA_FAULT"), (115, "HKA_SYSCAL"), (116, "HKA_CLAIM_EXPIRED"), (128, "MEM_CORRECTED"), (129, "MEM_UNCORR"),
    (130, "MEM_COLUMN_SUSPECT"), (131, "MEM_BIST_REPORT"), (132, "MEM_REPAIR"), (144, "GDE_DONE"), (145, "GDE_FAULT"),
    (160, "LINK_UP"), (161, "LINK_DOWN"), (162, "LINK_HELD"), (163, "OP_FAIL"), (164, "TAG_STARVED"),
    (165, "UNROUTABLE"), (184, "TILE_JOIN"), (185, "TILE_LOST"), (186, "TILE_REFUSED"), (187, "REMOTE_FAIL"),
    (188, "FWD_LOSS"), (192, "USB_STATE"), (193, "USB_REMOTE_WAKE"), (194, "USB_ERROR"), (200, "TWB_TIMEOUT"),
    (201, "TWB_PEC_ERROR"), (202, "NV_BUS_EVENT"), (203, "NV_HOLD_EXPIRED"), (208, "TIME_STEP"), (209, "TIME_ALARM"),
    (210, "TIME_SYNC"), (211, "TIME_SLEW_DONE"), (212, "CAL_DONE"), (213, "CAL_STARVED"), (214, "CAL_REDUNDANCY"),
    (215, "TELEM_READY"), (216, "LOG_EVENT"), (224, "SVC_ENTER"), (225, "SVC_LEAVE"), (226, "SVC_CODE_REJECT"),
    (227, "SVC_LOCKOUT"), (228, "INJECT_UNLOCK"), (240, "INJECT_STATE")]

/-- NAME of a record: by its TYPE, and for an event by its source. Host sources and forwarded sources have no name in the
tables (DESIGN CHOICE, log entry 6). -/
def recordName (type src : Nat) : String :=
  if type = 1 then "SUMMARY"
  else if type = 2 then "SYSCAL"
  else
    match sourceNames.find? fun p => p.1 == src with
    | some p => p.2
    | none => if 384 ≤ src then "FORWARD" else "HOST"

/-- A meter point as its argument of `meter` spells it, with its scale (R79). -/
def pointText (point arg : Nat) : List (List Byte) :=
  match point with
  | 1 => [chars "vtx", chars "/10"]
  | 2 => [chars "vhv", chars "/20"]
  | 3 => [chars "bg", chars "/1"]
  | 4 => [chars "tdac", decText arg, chars "/1"]
  | 5 => [chars "t0", chars "5mV/C"]
  | 6 => [chars "t1", chars "5mV/C"]
  | 7 => [chars "el", decText arg, chars "/4"]
  | 8 => [chars "hdr", if arg = 255 then chars "min" else decText arg, chars "/4"]
  | 9 => [chars "tap", decText arg, chars "/20"]
  | 10 => [chars "vcore", chars "/1"]
  | 11 => [chars "vdda", chars "/2"]
  | _ => [chars "off"]

/-! What an output line reads. -/

/-- The characters of an output line, without its CR LF. Where the manual gives no format, the line holds its words in six
hexadecimal digits (log entry 6). -/
def OutLine.text : OutLine → List Byte
  | .echo c => [c]
  | .ok => chars "OK"
  | .error code => spaced [0x45#8 :: padText 2 code, chars (errorName code)]
  | .prompt full => chars (if full then "svc> " else "> ")
  | .banner grade x y role mode =>
    spaced [chars "TWILYN TK624 B1", chars (if grade then "EB" else "CB"), chars "tile", decText x ++ 0x2C#8 :: decText y,
      chars (roleName role), chars (modeName mode)]
  | .safeCause cause => spaced [chars "safe:", chars (safeName cause)]
  | .rdWord addr value => spaced [hexText 4 addr, hexText 6 value.toNat]
  | .record seq epoch sec frac src w1 w2 =>
    spaced [0x23#8 :: padText (max 5 (decWidth seq)) seq, 0x65#8 :: padText 2 epoch,
      hexText 12 sec ++ 0x2E#8 :: hexText 6 frac, 0x73#8 :: padText 3 (src % 512), chars (recordName (src / 512) (src % 512)),
      hexText 6 w1.toNat, hexText 6 w2.toNat]
  | .values _ ws => spaced (ws.map fun w => hexText 6 w.toNat)
  | .meter point arg low high => spaced (pointText point arg ++ [voltText low, voltText high])
  | .listing names => spaced names
  | .dropped n => 0x7E#8 :: decText n ++ chars " dropped"

/-- The bytes of an output line: every line but an echo and the prompt ends in CR LF (R68). -/
def OutLine.bytes (l : OutLine) : Nat :=
  match l with
  | .echo _ => 1
  | .prompt full => if full then 5 else 2
  | l => l.text.length + 2

/-! The words of a received line (R67). -/

/-- A letter in lower case. -/
def lower (c : Byte) : Byte := if 65 ≤ c.toNat ∧ c.toNat ≤ 90 then c + 32#8 else c

/-- The words of a line, in lower case: spaces and tabs separate them. -/
def lineWords (cs : List Byte) : List (List Byte) :=
  let step (c : Byte) (p : List Byte × List (List Byte)) : List Byte × List (List Byte) :=
    if c = 0x20#8 ∨ c = 0x09#8 then ([], if p.1.isEmpty then p.2 else p.1 :: p.2) else (lower c :: p.1, p.2)
  let p := cs.foldr step ([], [])
  if p.1.isEmpty then p.2 else p.1 :: p.2

/-- The value of a digit, 16 for any other character. -/
def digitOf (c : Byte) : Nat :=
  let n := c.toNat
  if 48 ≤ n ∧ n ≤ 57 then n - 48 else if 97 ≤ n ∧ n ≤ 102 then n - 87 else 16

/-- A number in a base, none where a character is no digit of it. -/
def numberOf (base : Nat) (cs : List Byte) : Option Nat :=
  if cs.isEmpty || cs.any (fun c => decide (base ≤ digitOf c)) then none
  else some (cs.foldl (fun v c => v * base + digitOf c) 0)

/-- A hexadecimal number of 1 to `digits` digits, with or without 0x. -/
def hexOf (digits : Nat) (cs : List Byte) : Option Nat :=
  let ds := match cs with
    | 0x30#8 :: 0x78#8 :: rest => rest
    | cs => cs
  if digits < ds.length then none else numberOf 16 ds

/-- A decimal number with up to `places` decimals, in units of 10^-places. -/
def fixedOf (places : Nat) (cs : List Byte) : Option Nat :=
  let whole := cs.takeWhile (· != 0x2E#8)
  let frac := cs.drop (whole.length + 1)
  if whole.length = cs.length then (numberOf 10 whole).map (· * 10 ^ places)
  else if places < frac.length then none
  else
    match numberOf 10 whole, numberOf 10 frac with
    | some a, some b => some (a * 10 ^ places + b * 10 ^ (places - frac.length))
    | _, _ => none

/-- The planes that `trk cap` names: the letters h, l, s, i and q (DESIGN CHOICE, log entry 6). -/
def planesOf (cs : List Byte) : Option Nat :=
  let bits := cs.map fun c => (chars "hlsiq").findIdx (· == c)
  if cs.isEmpty || bits.any (fun b => decide (5 ≤ b)) then none
  else some (((List.range 5).filter bits.contains).foldl (fun m b => m + 2 ^ b) 0)

/-! The commands (R69, and "Checking it in the field" of each chapter). -/

/-- A word of a command's form. -/
inductive Arg where
  /-- The word itself. -/
  | is (s : String)
  /-- A decimal number up to a bound. -/
  | dec (bound : Nat)
  /-- A hexadecimal number of at most so many digits. -/
  | hex (digits : Nat)
  /-- A decimal number of volts, with so many decimals and a bound in its last place. -/
  | volts (places bound : Nat)
  /-- Planes of a capture. -/
  | planes

/-- What a word gives as an argument: none where it is malformed, some none where it is outside its range, and no value for
a word of the form itself. -/
def Arg.read (a : Arg) (w : List Byte) : Option (Option (List Nat)) :=
  let within (v : Option Nat) (bound : Nat) := v.map fun n => if n ≤ bound then some [n] else none
  match a with
  | .is s => if w = chars s then some (some []) else none
  | .dec bound => within (numberOf 10 w) bound
  | .hex digits => (hexOf digits w).map fun n => some [n]
  | .volts places bound => within (fixedOf places w) bound
  | .planes => (planesOf w).map fun n => some [n]

/-- The values of a line against a form. -/
def readForm : List Arg → List (List Byte) → Option (Option (List Nat))
  | [], [] => some (some [])
  | a :: as, w :: ws =>
    match a.read w, readForm as ws with
    | some (some x), some (some y) => some (some (x ++ y))
    | some _, some _ => some none
    | _, _ => none
  | _, _ => none

/-- A form of a command: its words, whether it is of the full command set, and the command its values make. -/
structure Form where
  args : List Arg
  full : Bool
  make : List Nat → ConsoleCmd

/-- A value of a line as a word of some width. -/
def val (v : List Nat) (i : Nat) {w : Nat} : BitVec w := BitVec.ofNat w (v.getD i 0)

/-- A tile's code from its decimal coordinates (R586). -/
def valXY (v : List Nat) : BitVec 10 := BitVec.ofNat 10 (v.getD 0 0 * 32 + v.getD 1 0)

/-- The commands of R69. -/
def formsGeneral : List Form :=
  [⟨[.is "help"], false, fun _ => .help⟩, ⟨[.is "id"], false, fun _ => .id⟩,
    ⟨[.is "rd", .hex 4], false, fun v => .rd (val v 0) 1⟩,
    ⟨[.is "rd", .hex 4, .dec 65535], false, fun v => .rd (val v 0) (val v 1)⟩,
    ⟨[.is "wr", .hex 4, .hex 6], true, fun v => .wr (val v 0) (val v 1)⟩, ⟨[.is "time"], false, fun _ => .time⟩,
    ⟨[.is "log"], false, fun _ => .log 0 16⟩, ⟨[.is "log", .is "all"], false, fun _ => .log 1 0⟩,
    ⟨[.is "log", .dec 16777215], false, fun v => .log 0 (val v 0)⟩,
    ⟨[.is "log", .is "from", .dec 16777215], false, fun v => .log 2 (val v 0)⟩,
    ⟨[.is "evmon", .is "on"], false, fun _ => .evmonOn⟩, ⟨[.is "evmon", .is "off"], false, fun _ => .evmonOff⟩,
    ⟨[.is "svc", .is "off"], true, fun _ => .svcOff⟩, ⟨[.is "svc", .hex 6], false, fun v => .svc (val v 0)⟩,
    ⟨[.is "reset"], true, fun _ => .consoleReset⟩]

/-- `meter` and `el` (R78 to R80). -/
def formsMeter : List Form :=
  [⟨[.is "meter", .is "off"], true, fun _ => .meterOff⟩, ⟨[.is "meter", .is "vtx"], true, fun _ => .meter 1 0⟩,
    ⟨[.is "meter", .is "vhv"], true, fun _ => .meter 2 0⟩, ⟨[.is "meter", .is "bg"], true, fun _ => .meter 3 0⟩,
    ⟨[.is "meter", .is "t0"], true, fun _ => .meter 5 0⟩, ⟨[.is "meter", .is "t1"], true, fun _ => .meter 6 0⟩,
    ⟨[.is "meter", .is "vcore"], true, fun _ => .meter 10 0⟩, ⟨[.is "meter", .is "vdda"], true, fun _ => .meter 11 0⟩,
    ⟨[.is "meter", .is "tdac", .dec 1023], true, fun v => .meter 4 (val v 0)⟩,
    ⟨[.is "meter", .is "el", .dec 159], true, fun v => .meter 7 (val v 0)⟩,
    ⟨[.is "meter", .is "hdr", .dec 7], true, fun v => .meter 8 (val v 0)⟩,
    ⟨[.is "meter", .is "hdr", .is "min"], true, fun _ => .meter 8 255⟩,
    ⟨[.is "meter", .is "tap", .dec 8], true, fun v => .meter 9 (val v 0)⟩,
    ⟨[.is "el", .dec 159, .is "gnd"], true, fun v => .el false (val v 0) 0⟩,
    ⟨[.is "el", .dec 159, .is "float"], true, fun v => .el false (val v 0) 1⟩,
    ⟨[.is "el", .dec 159, .is "src"], true, fun v => .el false (val v 0) 2⟩,
    ⟨[.is "el", .dec 159, .is "mtr"], true, fun v => .el false (val v 0) 3⟩,
    ⟨[.is "el", .dec 159, .is "mtrs"], true, fun v => .el false (val v 0) 4⟩,
    ⟨[.is "el", .is "all", .is "gnd"], true, fun _ => .el true 0 0⟩,
    ⟨[.is "el", .is "all", .is "float"], true, fun _ => .el true 0 1⟩,
    ⟨[.is "el", .is "all", .is "src"], true, fun _ => .el true 0 2⟩,
    ⟨[.is "el", .is "all", .is "mtr"], true, fun _ => .el true 0 3⟩,
    ⟨[.is "el", .is "all", .is "mtrs"], true, fun _ => .el true 0 4⟩]

/-- `block stat`, and the other commands of start-up, modes, time, configuration and calibration. -/
def formsStat : List Form :=
  [⟨[.is "scan", .is "stat"], false, fun _ => .blockStat 0⟩, ⟨[.is "trk", .is "stat"], false, fun _ => .blockStat 1⟩,
    ⟨[.is "rail", .is "stat"], false, fun _ => .blockStat 2⟩, ⟨[.is "lamp", .is "stat"], false, fun _ => .blockStat 3⟩,
    ⟨[.is "irx", .is "stat"], false, fun _ => .blockStat 4⟩, ⟨[.is "itx", .is "stat"], false, fun _ => .blockStat 5⟩,
    ⟨[.is "hka", .is "stat"], false, fun _ => .blockStat 6⟩, ⟨[.is "cal", .is "stat"], false, fun _ => .blockStat 7⟩,
    ⟨[.is "mem", .is "stat"], false, fun _ => .blockStat 8⟩, ⟨[.is "gde", .is "stat"], false, fun _ => .blockStat 9⟩,
    ⟨[.is "egl", .is "stat"], false, fun _ => .blockStat 10⟩, ⟨[.is "usb", .is "stat"], false, fun _ => .blockStat 11⟩,
    ⟨[.is "twb", .is "stat"], false, fun _ => .blockStat 12⟩, ⟨[.is "evr", .is "stat"], false, fun _ => .blockStat 13⟩,
    ⟨[.is "sys", .is "stat"], false, fun _ => .sysStat⟩, ⟨[.is "boot", .is "stat"], false, fun _ => .bootStat⟩,
    ⟨[.is "img", .is "check", .is "a"], false, fun _ => .imgCheck false⟩,
    ⟨[.is "img", .is "check", .is "b"], false, fun _ => .imgCheck true⟩,
    ⟨[.is "nvm", .is "rd", .hex 5, .dec 255], false, fun v => .nvmRd (val v 0) (val v 1)⟩,
    ⟨[.is "pwr", .is "stat"], false, fun _ => .pwrStat⟩, ⟨[.is "pwr", .is "wake"], false, fun _ => .pwrWake⟩,
    ⟨[.is "time", .is "stat"], false, fun _ => .timeStat⟩, ⟨[.is "cfg", .is "stat"], false, fun _ => .cfgStat⟩,
    ⟨[.is "cfg", .is "get", .hex 6], false, fun v => .cfgGet (val v 0)⟩,
    ⟨[.is "cfg", .is "delta"], false, fun _ => .cfgDelta⟩, ⟨[.is "log", .is "stat"], false, fun _ => .logStat⟩,
    ⟨[.is "telem"], false, fun _ => .telem⟩, ⟨[.is "cal", .is "run"], false, fun _ => .calRun⟩]

/-- The commands of the front end, of tracking and of the router. -/
def formsTouch : List Form :=
  [⟨[.is "scan", .is "noise"], false, fun _ => .scanNoise⟩,
    ⟨[.is "scan", .is "node", .dec 255, .dec 255], false, fun v => .scanNode (val v 0) (val v 1)⟩,
    ⟨[.is "scan", .is "legs", .dec 255], false, fun v => .scanLegs (val v 0)⟩,
    ⟨[.is "scan", .is "run"], true, fun _ => .scanRun⟩, ⟨[.is "scan", .is "stop"], true, fun _ => .scanStop⟩,
    ⟨[.is "scan", .is "tone", .dec 159, .dec 7], true, fun v => .scanTone (val v 0) (val v 1)⟩,
    ⟨[.is "trk", .is "hop"], false, fun _ => .trkHop⟩,
    ⟨[.is "trk", .is "base", .dec 255, .dec 255], false, fun v => .trkBase (val v 0) (val v 1)⟩,
    ⟨[.is "trk", .is "blreset"], true, fun _ => .trkBlreset⟩, ⟨[.is "trk", .is "rpt"], false, fun _ => .trkRpt⟩,
    ⟨[.is "trk", .is "cap", .planes], true, fun v => .trkCap (val v 0)⟩,
    ⟨[.is "evr", .is "src", .dec 511], false, fun v => .evrSrc (val v 0)⟩,
    ⟨[.is "evr", .is "fire", .dec 511], true, fun v => .evrFire (val v 0)⟩]

/-- The commands of tiled surfaces, the link, the memory banks and the gather engine. -/
def formsLink : List Form :=
  [⟨[.is "surf", .is "stat"], false, fun _ => .surfStat⟩, ⟨[.is "surf", .is "map"], false, fun _ => .surfMap⟩,
    ⟨[.is "surf", .is "tile", .dec 31, .dec 31], false, fun v => .surfTile (valXY v)⟩,
    ⟨[.is "rtile", .dec 31, .dec 31], false, fun v => .rtile (valXY v)⟩,
    ⟨[.is "surf", .is "reset", .dec 31, .dec 31], true, fun v => .surfReset (valXY v)⟩,
    ⟨[.is "egl", .is "ping", .dec 31, .dec 31], false, fun v => .eglPing (valXY v) 10⟩,
    ⟨[.is "egl", .is "ping", .dec 31, .dec 31, .dec 255], false, fun v => .eglPing (valXY v) (val v 2)⟩,
    ⟨[.is "egl", .is "inj", .is "off"], true, fun _ => .eglInjOff⟩,
    ⟨[.is "egl", .is "inj", .dec 255, .is "drop", .dec 255], true, fun v => .eglInj (val v 0) 0 (val v 1)⟩,
    ⟨[.is "egl", .is "inj", .dec 255, .is "corrupt", .dec 255], true, fun v => .eglInj (val v 0) 1 (val v 1)⟩,
    ⟨[.is "egl", .is "inj", .dec 255, .is "reorder", .dec 255], true, fun v => .eglInj (val v 0) 2 (val v 1)⟩,
    ⟨[.is "egl", .is "retrain", .dec 255], true, fun v => .eglRetrain (val v 0)⟩,
    ⟨[.is "mem", .is "col", .dec 255], false, fun v => .memCol (val v 0)⟩,
    ⟨[.is "mem", .is "repair", .dec 255, .dec 65535], true, fun v => .memRepair (val v 0) (val v 1)⟩,
    ⟨[.is "gde", .is "win"], false, fun _ => .gdeWin⟩,
    ⟨[.is "gde", .is "test", .dec 65535], true, fun v => .gdeTest (val v 0)⟩]

/-- The commands of the rails, the lamps, the infrared unit and the converter. -/
def formsAnalog : List Form :=
  [⟨[.is "rail", .is "vtx", .volts 2 8191], true, fun v => .railVtx (val v 0)⟩,
    ⟨[.is "rail", .is "vled", .is "auto"], true, fun _ => .railVledAuto⟩,
    ⟨[.is "rail", .is "vled", .volts 2 8191], true, fun v => .railVled (val v 0)⟩,
    ⟨[.is "rail", .is "restart"], true, fun _ => .railRestart⟩,
    ⟨[.is "lamp", .dec 1023], false, fun v => .lampN (val v 0)⟩,
    ⟨[.is "lamp", .is "set", .dec 1023, .dec 4095], true, fun v => .lampSet (val v 0) (val v 1) 0⟩,
    ⟨[.is "lamp", .is "set", .dec 1023, .dec 4095, .dec 16383], true, fun v => .lampSet (val v 0) (val v 1) (val v 2)⟩,
    ⟨[.is "lamp", .is "clear", .dec 15], false, fun v => .lampClear (val v 0)⟩,
    ⟨[.is "irx", .is "raw"], false, fun _ => .irxRaw⟩,
    ⟨[.is "itx", .is "send", .dec 511], true, fun v => .itxSend (val v 0) 0⟩,
    ⟨[.is "itx", .is "send", .dec 511, .dec 255], true, fun v => .itxSend (val v 0) (val v 1)⟩,
    ⟨[.is "itx", .is "loop", .dec 511], true, fun v => .itxLoop (val v 0)⟩,
    ⟨[.is "hka", .is "ch", .dec 255], false, fun v => .hkaCh (val v 0)⟩,
    ⟨[.is "hka", .is "conv", .dec 255, .dec 255], true, fun v => .hkaConv (val v 0) (val v 1) []⟩,
    ⟨[.is "hka", .is "path", .dec 255], true, fun v => .hkaPath (val v 0) [] []⟩,
    ⟨[.is "hka", .is "cal", .dec 255, .is "zero"], true, fun v => .hkaCalZero (val v 0)⟩,
    ⟨[.is "hka", .is "cal", .dec 255, .is "full", .volts 6 16777215], true, fun v => .hkaCalFull (val v 0) (val v 1)⟩,
    ⟨[.is "hka", .is "cal", .dec 255, .is "apply"], true, fun v => .hkaCalApply (val v 0) 0 true⟩]

/-- Every form of a command. -/
def commandForms : List Form := formsGeneral ++ formsMeter ++ formsStat ++ formsTouch ++ formsLink ++ formsAnalog

/-- The command word and what else of a form is spelled out, which is how `help` lists it. -/
def Form.spelled (f : Form) : List Byte :=
  spaced (f.args.filterMap fun a => match a with | .is s => some (chars s) | _ => none)

/-- Equal neighbours once. -/
def onceEach : List (List Byte) → List (List Byte)
  | a :: b :: rest => if a = b then onceEach (b :: rest) else a :: onceEach (b :: rest)
  | l => l

/-- The commands that `help` lists: those of the full command set only while it is open (R69). -/
def helpList (full : Bool) : List (List Byte) := onceEach ((commandForms.filter fun f => full || !f.full).map Form.spelled)

/-- The first word of a form is this word. -/
def Form.begins (f : Form) (w : List Byte) : Bool :=
  match f.args.head? with
  | some (.is s) => chars s == w
  | _ => false

/-- What a line of received characters spells (R67, R68). A line of spaces and tabs alone is empty; a line whose first word
begins no command is unknown, and any other that fits no form of its command is malformed (DEDUCED, log entry 26). -/
def readLine (cs : List Byte) : LineCmd :=
  match lineWords cs with
  | [] => if cs.isEmpty then .blank else if cs.any (fun c => decide (c.toNat < 32 ∧ c ≠ 0x09#8)) then .err 4 else .blank
  | w :: ws =>
    if cs.any fun c => decide (c.toNat < 32 ∧ c ≠ 0x09#8) then .err 4
    else
      match commandForms.filter fun f => f.begins w with
      | [] => .err 3
      | fs =>
        match fs.findSome? fun f => ((readForm f.args (w :: ws)).join).map f.make with
        | some c => .cmd c
        | none =>
          match fs.find? fun f => (readForm f.args (w :: ws)).isSome with
          | some f => .range f.full
          | none => .err 4

/-- What the line that the console holds comes to: a framing error first, then its length (R68). -/
def Console.judged (c : Console) : LineCmd := if c.framed then .err 1 else if c.tooLong then .err 2 else readLine c.line

end Sys2Proof.Machine
end

