-- ==== Sys2Proof/Machine/Ops.lean ====
section
/-!
DEFINITION. Ops.lean: the named operations over the state that every command uses: the banks, the EEPROM, configuration words, free values, console output, the fault-log queue, and the time value.
-/

namespace Sys2Proof.Machine

/-! Banks, EEPROM and configuration. -/

/-- The address of word w of a bank in the sparse map of the banks. -/
def bankAddr (bank w : Nat) : Nat := bank * 16384 + w % 16384

/-- What a bank word that nothing has written reads as after the self-test (R673). -/
def bankDefault (_ : Nat) : Word := 0

/-- Word w of a bank. -/
def Dev.bank (d : Dev) (bank w : Nat) : Word := cellsGet bankDefault d.banks (bankAddr bank w)

/-- Word w of a bank replaced; new data makes an uncorrectable word good again, whoever writes it (R656, R658). -/
def Dev.setBank (d : Dev) (bank w : Nat) (v : Word) : Dev :=
  { d with
    banks := cellsSet bankDefault d.banks (bankAddr bank w) v
    mem := { d.mem with bad := d.mem.bad.filter (· != bankAddr bank w) } }

/-- Consecutive words of a bank replaced, wrapping at its end. -/
def Dev.fillBank (d : Dev) (bank w : Nat) : List Word → Dev
  | [] => d
  | v :: rest => Dev.fillBank (d.setBank bank w v) bank (w + 1) rest

/-- What an EEPROM byte that nothing has written reads as (log entry 5). -/
def nvmDefault (_ : Nat) : Byte := 0xFF#8

/-- A byte of the EEPROM; the byte address has 18 bits (R130). -/
def Dev.nvmByte (d : Dev) (a : Nat) : Byte := cellsGet nvmDefault d.nvm (a % 262144)

/-- Consecutive bytes of the EEPROM. -/
def Dev.nvmRead (d : Dev) (a count : Nat) : List Byte := (List.range count).map fun i => d.nvmByte (a + i)

/-- Consecutive bytes of the EEPROM replaced. -/
def Dev.nvmWrite (d : Dev) (a : Nat) : List Byte → Dev
  | [] => d
  | b :: rest => Dev.nvmWrite { d with nvm := cellsSet nvmDefault d.nvm (a % 262144) b } (a + 1) rest

/-- The I/O-domain outputs work: VDDIO is above 1.6 V and its restore delay has passed. Without it every I/O output is
released, and the fail-safe balls of both two-wire buses neither drive nor load them (R41, R98, R124). -/
def Dev.ioLive (d : Dev) : Bool := d.flag SYS_SUPPLY_VDDIO_OK && !d.pwr.vddioReturning

def Dev.setTwb (d : Dev) (t : TwoWire) : Dev := { d with twb := t }

/-- NVWP is driven low: for the controller's own write transaction and its polling, and while WPOPEN is 1 (R49, R440). -/
def Dev.nvwpLow (d : Dev) : Bool := d.ioLive && (d.twb.nvwpOwn || d.flag TWB_NVCTL_WPOPEN)

/-- The NVM controller has ended its transfer: the bus is free of it, and NVWP is high again (R49). -/
def Dev.nvmIdle (d : Dev) : Dev :=
  { d with twb := { d.twb with nvOp := 0, resumeAt := 0, polling := false, nvwpOwn := false } }.setFlag TWB_STAT_NVBUSY false

/-- The applied value of a configuration word (R500). -/
def Dev.cfgWord (d : Dev) (sect id idx : Nat) : Word := cellsGet paramDefault d.cfg (pid sect id idx)

/-- The applied value of a configuration word as a number. -/
def Dev.par (d : Dev) (sect id : Nat) (idx : Nat := 0) : Nat := (d.cfgWord sect id idx).toNat

/-- The present word count of a field whose count varies; 0 when the image does not set the field (R503). -/
def Dev.parLen (d : Dev) (sect id : Nat) : Nat :=
  match d.cfgLen.find? fun p => p.1 == sect * 256 + id with
  | some p => p.2
  | none => 0

/-! Free values. -/

/-- The next free value, reduced below a bound, and the machine with its draw counter advanced. -/
def Dev.draw (d : Dev) (bound : Nat) : Nat × Dev :=
  ((Config.freeValue d.free).toNat % bound, { d with free := d.free + 1 })

/-! Roles and modes. -/

/-- ROLE of the straps: 0 worker, 1 manager, 2 standalone (R61). -/
def Dev.role (d : Dev) : Nat := d.fld SYS_STRAP_ROLE

def Dev.isWorker (d : Dev) : Bool := d.role == 0
def Dev.isManager (d : Dev) : Bool := d.role == 1

/-- The present mode (R162). -/
def Dev.mode (d : Dev) : Nat := d.fld PWR_STAT_MODE

abbrev modeWatch : Nat := 0
abbrev modeIdle : Nat := 1
abbrev modeActive : Nat := 2
abbrev modeHibernate : Nat := 3
abbrev modeService : Nat := 4
abbrev modeSafe : Nat := 5
abbrev modeStart : Nat := 7

/-- The modes in which the front end runs frames of its own accord (R162, R229). -/
def scansIn (mode : Nat) : Bool := mode == modeWatch || mode == modeIdle || mode == modeActive

/-- The full command set is open: since the entry into SERVICE, or opened in SAFE or without joining, and not closed by a
reset since (R70, R74, R90, R91). -/
def Dev.fullSet (d : Dev) : Bool := d.fld SVC_STAT_ENTRY != 0

/-- SERVICE functions are available: in SERVICE, and in SAFE with the full command set open (R74, R94). -/
def Dev.serviceOpen (d : Dev) : Bool := d.mode == modeService || (d.mode == modeSafe && d.fullSet)

/-- The tile's own coordinates as the 10-bit code x in [9:5], y in [4:0] (R586). -/
def Dev.ownXY (d : Dev) : Nat := d.fld EGL_TILE_X * 32 + d.fld EGL_TILE_Y

/-- The surface frame number (R26). -/
def Dev.frameNo (d : Dev) : Nat := d.time.frame

/-- The signed difference b - a of two surface frame numbers (R8). -/
def frameDiff (a b : Nat) : Int := wInt (word (b + 16777216 - a % 16777216))

/-! Console output (R68, R82). -/

def Dev.setCon (d : Dev) (c : Console) : Dev := { d with con := c }

/-- The bytes waiting in the transmit buffer. -/
def Console.level (c : Console) : Nat := (c.out.map OutLine.bytes).sum - c.sent

/-- An output line placed in the transmit buffer of 2,048 bytes, or dropped whole when it does not fit (R82). -/
def Dev.print (d : Dev) (l : OutLine) : Dev :=
  let c := d.con
  if c.dropped = 0 then
    if c.level + l.bytes ≤ 2048 then { d with con := { c with out := c.out ++ [l] } }
    else Dev.bump { d with con := { c with dropped := 1 } } SVC_ERR_DROPPED
  else
    let note := OutLine.dropped c.dropped
    if c.level + note.bytes + l.bytes ≤ 2048 then { d with con := { c with out := c.out ++ [note, l], dropped := 0 } }
    else Dev.bump { d with con := { c with dropped := min (c.dropped + 1) 65535 } } SVC_ERR_DROPPED

/-- Several output lines. -/
def Dev.printAll (d : Dev) (ls : List OutLine) : Dev := ls.foldl Dev.print d

/-- The partial line is gone. -/
def Dev.dropLine (d : Dev) : Dev := d.setCon { d.con with line := [], framed := false, tooLong := false }

/-- The status line and the prompt that end every command (R68). -/
def Dev.statusLine (d : Dev) (status : OutLine) : Dev := (d.print status).print (.prompt d.fullSet)

/-- A command that ends at once: its line is gone. -/
def Dev.finish (d : Dev) (status : OutLine) : Dev := d.dropLine.statusLine status

def Dev.finishOk (d : Dev) : Dev := d.finish .ok
def Dev.finishErr (d : Dev) (code : Nat) : Dev := d.finish (.error code)

/-- A command runs: `log` or `rd` prints or waits, or the command waits for the manager, for a ping, for a repair, for an
infrared loop, or for a calibration step (R83). -/
def Dev.running (d : Dev) : Bool :=
  d.con.rd.isSome || !d.con.todo.isEmpty || d.con.logWait.isSome || d.con.request != 0 || d.link.ping.isSome || d.mem.console ||
    d.hka.stepConsole || d.ir.loop

/-- A console command; one that comes while another runs waits for its end (R83). -/
def Dev.command (d : Dev) (c : ConsoleCmd) (f : Dev → Dev) : Dev :=
  if d.running then d.setCon { d.con with waits := d.con.waits ++ [.cmd c] } else f d

/-- A console command that may go on: its line is gone as it starts (R83). -/
def Dev.longCommand (d : Dev) (c : ConsoleCmd) (f : Dev → Dev) : Dev := d.command c fun d => f d.dropLine

/-! The time value (R382, R384). -/

/-- The interpolation read again: the fast oscillator has advanced by an amount that no command states, so the value is
free within its tick and never falls (R382, R383; log entry 2). -/
def Dev.touchTime (d : Dev) : Dev :=
  if d.time.fast then
    let (v, d) := d.draw 512
    { d with time := { d.time with interp := max d.time.interp v } }
  else d

/-- The time value (S, F): the counted value plus the interpolation, carrying into S (R382). -/
def TimeBase.now (t : TimeBase) : Nat × Nat :=
  let f := t.frac + t.interp
  if f < 16777216 then (t.sec, f) else ((t.sec + 1) % 281474976710656, f - 16777216)

/-- W3 of a record: the seconds mod 256 and the fraction in 2^-16 s (R339). -/
def stampW3 (t : Nat × Nat) : Word := pack [(t.1 % 256, 16), (t.2 / 256, 0)]

/-! The fault-log queue (R875, R879). -/

/-- Sources whose every record is written to the fault log, by the Event sources section of each chapter; sources 1, 12,
192 and 194 are written only on the occasions their chapters name. -/
def loggedSource (src : Nat) : Bool :=
  [3, 4, 5, 6, 7, 8, 9, 10, 14, 15, 22, 23, 30, 31, 35, 65, 66, 67, 68, 69, 73, 74, 75, 77, 98, 112, 114, 115, 129, 130,
    131, 132, 145, 161, 162, 163, 164, 185, 186, 200, 202, 208, 209, 210, 212, 213, 214, 216, 224, 226, 227, 240].contains src

/-- A record put into the fault-log queue of 64, or counted as lost when the queue is full or the log is worn out
(R879, R884). -/
def Dev.logRec (d : Dev) (r : LogRec) : Dev :=
  if d.logQ.length < 64 ∧ d.flag CAL_LOGSTAT_WORN = false then
    { d with logQ := d.logQ ++ [r] }.setFld CAL_LOGQ_QUEUED (d.logQ.length + 1)
  else { d with cal := { d.cal with lost := d.cal.lost + 1 } }.bump CAL_LOGQ_LOST

/-- The epoch and the time, in seconds and fraction, of a doorbell (R25, R339). -/
abbrev Stamp := Nat × Nat × Nat

/-- The present epoch and time. -/
def Dev.stamp (d : Dev) : Stamp := (d.time.epoch, d.time.now)

/-- An event put into the fault-log queue with its time (R874). -/
def Dev.logAt (d : Dev) (at_ : Stamp) (src : Nat) (w1 w2 : Word) : Dev :=
  d.logRec ⟨0, at_.1, src, at_.2.1, at_.2.2, w1, w2⟩

/-- An event with the present time put into the fault-log queue (R874). -/
def Dev.logEvent (d : Dev) (src : Nat) (w1 w2 : Word) : Dev := d.logAt d.stamp src w1 w2

/-! Messages to other tiles. -/

/-- A message handed to the Egret link (chapters 15 and 16). -/
def Dev.send (d : Dev) (kind dest : Nat) (payload : List Word) : Dev :=
  { d with outbox := d.outbox ++ [⟨kind, dest, payload⟩] }

/-- A command's effect on everything but the queue, as a step that answers a next state. -/
def State.run (f : Dev → Dev) (s : State) : Host.Outcome State Fault Refusal := .next { s with dev := f s.dev }

end Sys2Proof.Machine
end

