-- ==== Sys2Proof/Machine/Router.lean ====
section
/-!
DEFINITION. Router.lean: the event router (10_event_router.md): source configuration, admission, overflow, delivery, the
priority stacks, the core group, and the doorbell that every block rings.
-/

namespace Sys2Proof.Machine

/-- Default priorities that the event tables give (R335); every other source has 6. -/
def defaultPri (src : Nat) : Nat :=
  if [1, 3].contains src then 15
  else if src = 2 then 14
  else if [4, 65, 67, 74, 129].contains src then 13
  else if [5, 36, 37, 66, 68, 69, 73, 77, 114, 162, 185, 186, 214].contains src then 12
  else if [38, 76 + 20, 112, 145, 164, 209].contains src then 11
  else if [19, 161, 163, 187, 208].contains src then 10
  else if [70, 75, 76, 98, 115, 130, 131, 132, 165, 184, 188, 192, 193, 194, 200, 201, 202, 210, 213, 216, 240].contains src
    then 9
  else if [16, 17, 18].contains src then 8
  else if [128, 215].contains src then 4
  else if 384 ≤ src then 9
  else 6

/-- Sources of the core group (R332). -/
def coreSource (src : Nat) : Bool := decide (320 ≤ src) && decide (src ≤ 383)

/-- The tracking sources that share a report group, their mask and a moderation of 0 (R336, R346). -/
def reportSource (src : Nat) : Bool := [16, 17, 18, 19, 36, 37, 38].contains src

/-- The source whose configuration a source follows: 18 follows 17 (R305, R336). -/
def configSource (src : Nat) : Nat := if src = 18 then 17 else src

/-- The default configuration of a source in the layout of EVR_SCFG (R335, R336), with the routes of REPORT_PATH. The
priority and moderation that the vendor firmware gives the core group are not stated: priority 6 and moderation 0
(log entry 7). -/
def defaultCfg (path src : Nat) : Word :=
  if coreSource src then pack [(1, 19), (1, 18), (1, 15), (6, 0)]
  else if src = 1 ∨ src = 3 then pack [(1, 15), (1, 14), (1, 13), (15, 0)]
  else
    pack [(bit (decide (11 ≤ defaultPri src)), 15), (bit (decide (1 ≤ path)), 14), (bit (decide (path ≠ 1)), 13),
      (defaultPri src, 0)]

/-- The configuration of a source in force (R335 to R337): what was written of it, else its default, whose routes follow
REPORT_PATH (DEDUCED, log entry 77). -/
def Dev.srcCfg (d : Dev) (src : Nat) : Word :=
  match d.evr.cfg.find? fun p => p.1 == configSource src with
  | some p => p.2
  | none => defaultCfg (d.par secHost 0x05) (configSource src)

def cfgPri (w : Word) : Nat := wGet w 0 4
def cfgMod (w : Word) : Nat := wGet w 4 8
def cfgH0 (w : Word) : Bool := wGet w 13 1 == 1
def cfgH1 (w : Word) : Bool := wGet w 14 1 == 1
def cfgWake (w : Word) : Bool := wGet w 15 1 == 1
def cfgMask (p : HostPort) (w : Word) : Bool :=
  match p with
  | .h0 => wGet w 16 1 == 1
  | .h1 => wGet w 17 1 == 1
def cfgRoute (p : HostPort) (w : Word) : Bool :=
  match p with
  | .h0 => cfgH0 w
  | .h1 => cfgH1 w

/-- A source's configuration replaced. -/
def Dev.setSrcCfg (d : Dev) (src : Nat) (w : Word) : Dev :=
  { d with evr := { d.evr with cfg := (configSource src, w) :: d.evr.cfg.filter fun p => p.1 != configSource src } }

/-! Host consumers. -/

/-- The registers of H1 lie 0x20 above those of H0 (R380). -/
def portFld (p : HostPort) (f : Fld) : Fld :=
  match p with
  | .h0 => f
  | .h1 => { f with addr := f.addr + 0x20 }

def Dev.hostQ (d : Dev) (p : HostPort) : HostQ :=
  match p with
  | .h0 => d.evr.h0
  | .h1 => d.evr.h1

def Dev.setHostQ (d : Dev) (p : HostPort) (q : HostQ) : Dev :=
  match p with
  | .h0 => { d with evr := { d.evr with h0 := q } }
  | .h1 => { d with evr := { d.evr with h1 := q } }

def Dev.ringWr (d : Dev) (p : HostPort) : Nat := d.fld (portFld p EVR_H0_WR_WR)
def Dev.ringRd (d : Dev) (p : HostPort) : Nat := d.fld (portFld p EVR_H0_RD_RD)

/-- The occupancy of a ring: (WR - RD) mod 2,048 (R342). -/
def Dev.occupancy (d : Dev) (p : HostPort) : Nat := (d.ringWr p + 2048 - d.ringRd p) % 2048

/-- The records an entry stands for: 2 for a surface contact pair (R360). -/
def Pend.size (r : Pend) : Nat := if r.pairB.isSome then 2 else 1

def HostQ.pendCount (q : HostQ) : Nat := (q.pend.map Pend.size).sum

/-- The free records F of a host consumer (R360). -/
def Dev.freeRecords (d : Dev) (p : HostPort) : Nat :=
  let q := d.hostQ p
  1023 - (d.occupancy p - bit q.ovSlot.isSome) - q.pendCount

/-- The level of a stack: the priority of its top entry, or 0 (R348). -/
def stackLevel (st : List StackEnt) : Nat :=
  match st with
  | [] => 0
  | e :: _ => e.pri

/-- The first word of slot i in the ring of a consumer, in bank 8 (R340). -/
def slotBase (p : HostPort) (slot : Nat) : Nat :=
  match p with
  | .h0 => 4 * (slot % 1024)
  | .h1 => 4096 + 4 * (slot % 1024)

/-- W0 of a record (R339). -/
def recordW0 (src pri epoch seq : Nat) : Word := pack [(src % 512, 15), (pri % 16, 11), (epoch % 64, 5), (seq % 32, 0)]

/-- The seconds of a record from the 8 bits that its W3 carries: the last ones before the present time (R339). `evmon` prints
them with W3's 16 bits of fraction and the record's ring sequence number, which is all a record carries of them (DESIGN
CHOICE, log entry 27). -/
def Dev.secondsOf (d : Dev) (w3 : Word) : Nat :=
  let now := d.time.now.1
  now - (now + 256 - wGet w3 16 8) % 256

/-- One record written into the ring at WR with the next sequence number; WR advances after the words (R347, R362). -/
def Dev.writeRecord (d : Dev) (p : HostPort) (src pri epoch : Nat) (w1 w2 w3 : Word) : Dev :=
  let q := d.hostQ p
  let wr := d.ringWr p
  let d := d.fillBank 8 (slotBase p wr) [recordW0 src pri epoch q.seq, w1, w2, w3]
  let d := d.setFld (portFld p EVR_H0_WR_WR) ((wr + 1) % 2048)
  let d := d.setHostQ p { q with seq := (q.seq + 1) % 32 }
  if d.con.evmon then d.print (.record q.seq epoch (d.secondsOf w3) (256 * wGet w3 0 16) src w1 w2) else d

/-- W1 and W2 of an OVERFLOW record (R378). -/
def Episode.w1 (e : Episode) : Word := word (min e.refusals 0xFFFFFF)
def Episode.w2 (e : Episode) (final : Bool) (ticks : Nat) : Word :=
  pack [(bit final, 23), (e.highest % 16, 19), (min ((ticks - e.start) * 1000 / 32768) 65535, 0)]

/-- HOSTWAKE asserts while ASLEEP is set, at the admission of a wake-enabled record, and clears ASLEEP (R186). -/
def Dev.hostWake (d : Dev) : Dev :=
  if d.flag PWR_HOST_ASLEEP then
    ({ d with modes := { d.modes with hostwake := true } }.setFlag PWR_HOST_ASLEEP false).setFlag PWR_HOST_HWPIN true
  else d

/-- The admission of a wake-enabled record to H1 during suspend starts the bus sample of remote wake (R484). -/
def Dev.remoteWake (d : Dev) (src : Nat) : Dev :=
  if d.flag USB_STAT_SUSP && d.flag USB_STAT_RWKEN && d.usb.wake == 0 && decide (d.usb.suspTick + 164 ≤ d.ticks) then
    { d with usb := { d.usb with wake := 1 } }.setFld USB_RWK_SRC src
  else d

/-- What an admission to a consumer wakes (R186, R357, R484). -/
def Dev.admitWake (d : Dev) (p : HostPort) (src : Nat) (wake : Bool) : Dev :=
  if wake then
    match p with
    | .h0 => d.hostWake
    | .h1 => d.hostWake.remoteWake src
  else d

/-- The OVERFLOW record of an episode written at once in the reserved slot (R361, R362); it counts as the admission of a
record of source 1 (R357). -/
def Dev.writeOverflow (d : Dev) (p : HostPort) (e : Episode) : Dev :=
  let t := d.time.now
  let wr := d.ringWr p
  let d := d.writeRecord p 1 15 d.time.epoch e.w1 (e.w2 false d.ticks) (stampW3 t)
  let d := d.setHostQ p { d.hostQ p with ovSlot := some wr, ovOwn := true, episode := some { e with wrote := true } }
  d.admitWake p 1 (cfgWake (d.srcCfg 1))

/-- A refusal: counted in DISC and in the episode, which begins with it or is updated in place (R361, R363). -/
def Dev.refuseRecord (d : Dev) (p : HostPort) (pri n : Nat) : Dev :=
  let d := d.bumpBy (portFld p EVR_H0_DISC_COUNT) n
  let q := { d.hostQ p with loss := true }
  match q.episode with
  | none =>
    let e : Episode := { refusals := n, highest := pri, start := d.ticks }
    let d := d.setHostQ p { q with episode := some e, ovOwn := false }
    if q.ovSlot.isNone then d.writeOverflow p e else d
  | some e0 =>
    let e : Episode := { e0 with refusals := min (e0.refusals + n) 0xFFFFFF, highest := max e0.highest pri }
    let d := d.setHostQ p { q with episode := some e }
    match q.ovOwn, q.ovSlot with
    | true, some slot => d.fillBank 8 (slotBase p slot + 1) [e.w1, e.w2 false d.ticks]
    | _, _ => d

/-- H1 admits records only while USB is configured (R344, R461). -/
def Dev.portOpen (d : Dev) (p : HostPort) : Bool :=
  match p with
  | .h0 => true
  | .h1 => d.fld USB_STAT_STATE == 4

/-- The rule of admission (R360): priority 12 to 15 fits in F; priority 1 to 11 leaves 16 and waits out an episode. -/
def Dev.admits (d : Dev) (p : HostPort) (pri n : Nat) : Bool :=
  let f := d.freeRecords p
  if 12 ≤ pri then decide (n ≤ f) else decide (n + 16 ≤ f) && (d.hostQ p).episode.isNone

/-- The LOSS bit of a frame-end record for one ring, and the flag cleared at its admission (R306). -/
def lossBit (q : HostQ) (r : Pend) : Pend := if r.src = 19 ∧ q.loss then { r with w2 := r.w2 ||| 4#24 } else r

/-- A resync burst is asked for: by the host, after an overflow, or by a frame-end record with LOSS (R310). -/
def Dev.askBurst (d : Dev) : Dev :=
  { d with rpt := { d.rpt with burstAsked := true } }.setFlag TRK_RPT_STAT_RSPEND true

/-- A resync burst is due after a start or a wake (R310, R328). -/
def Dev.startBurst (d : Dev) : Dev :=
  { d with rpt := { d.rpt with burstStart := true } }.setFlag TRK_RPT_STAT_RSPEND true

/-- One consumer admits or refuses a record (R338, R360). A frame-end record that carries LOSS counts in LOSSFR and calls
for a resync (R310, R331). -/
def Dev.offer (d : Dev) (p : HostPort) (r : Pend) (wake : Bool) : Dev :=
  if !d.portOpen p then d
  else if d.admits p r.pri r.size then
    let q := d.hostQ p
    let r' := lossBit q r
    let carries := decide (r.src = 19) && q.loss
    let q := { q with pend := q.pend ++ [r'], loss := if r.src = 19 then false else q.loss }
    let d := (d.setHostQ p q).admitWake p r.src wake
    if carries then (d.bump TRK_RPT_CNT_LOSSFR).askBurst else d
  else d.refuseRecord p r.pri r.size

/-- The code of a FORWARD message (R572). -/
abbrev msgForward : Nat := 11

/-- A worker sends an admitted record to the manager as FORWARD, at most FWD_MAX per frame; it counts the rest
(R565). -/
def Dev.forwardRecord (d : Dev) (w0 w1 w2 w3 : Word) : Dev :=
  if d.surf.fwdSent < d.par secSurface 0x05 then
    { d with surf := { d.surf with fwdSent := d.surf.fwdSent + 1 } }.send msgForward 0 [w0, w1, w2, w3]
  else { d with surf := { d.surf with fwdLost := d.surf.fwdLost + 1 } }

/-- A repair of bank 8 or 9 is running (R671). -/
def Dev.ringsTaken (d : Dev) : Bool :=
  match d.mem.repair with
  | some p => p.1 == 8 || p.1 == 9
  | none => false

/-- A refusal while the ring banks are under repair: counted in DISC, with no episode; the record is missed all the same, so
the next frame-end record carries LOSS (R306, R671). -/
def Dev.refuseTaken (d : Dev) (p : HostPort) (n : Nat) : Dev :=
  if d.portOpen p then
    (d.bumpBy (portFld p EVR_H0_DISC_COUNT) n).setHostQ p { d.hostQ p with loss := true }
  else d

/-- A host-group doorbell: a record with the time and epoch of the doorbell, offered to each consumer its source is routed to
(R25, R338, R339); a worker forwards it, save the tracking sources, and writes nothing to rings of its own (R565). -/
def Dev.hostRecord (d : Dev) (at_ : Stamp) (src : Nat) (w1 w2 : Word) (pairB : Option (Word × Word))
    (orig : Option (Word × Word)) : Dev :=
  let cfg := d.srcCfg src
  let r : Pend := ⟨src, cfgPri cfg, at_.1, w1, w2, stampW3 at_.2, pairB,
    if reportSource src then d.evr.group else none, orig⟩
  if cfgPri cfg = 0 ∨ (cfgH0 cfg = false ∧ cfgH1 cfg = false) then d
  else
    let d := d.bump EVR_CNT_DOORS
    if d.isWorker then
      let d := if cfgWake cfg then d.hostWake else d
      if reportSource src then d else d.forwardRecord (recordW0 src r.pri r.epoch 0) w1 w2 r.w3
    else
      if d.ringsTaken then
        let d := if cfgH0 cfg then d.refuseTaken .h0 r.size else d
        if cfgH1 cfg then d.refuseTaken .h1 r.size else d
      else
      let d := if cfgH0 cfg then d.offer .h0 r (cfgWake cfg) else d
      if cfgH1 cfg then d.offer .h1 r (cfgWake cfg) else d

/-- A core-group doorbell: admitted to the store of 256, or discarded and counted, with source 4 at most once per second
(R358, R373). -/
def Dev.coreRecord (d : Dev) (at_ : Stamp) (src : Nat) (w1 w2 : Word) : Dev :=
  let cfg := d.srcCfg src
  if cfgPri cfg = 0 then d
  else
    let d := d.bump EVR_CNT_DOORS
    let r : Pend := ⟨src, cfgPri cfg, at_.1, w1, w2, stampW3 at_.2, none, none, none⟩
    if d.evr.store.length < 256 then { d with evr := { d.evr with store := d.evr.store ++ [r] } }
    else
      let d := d.bump EVR_CORE_DISC
      let lost := d.evr.coreLost + 1
      let pri := max d.evr.coreLostPri (cfgPri cfg)
      let due := match d.evr.coreLossTick with
        | none => true
        | some t => decide (t + 32768 ≤ d.ticks)
      if due then
        let d := { d with evr := { d.evr with coreLost := 0, coreLostPri := 0, coreLossTick := some d.ticks } }
        let d := d.logAt at_ 4 (word lost) (word pri)
        d.hostRecord at_ 4 (word lost) (word pri) none none
      else { d with evr := { d.evr with coreLost := lost, coreLostPri := pri } }

/-- The router takes a doorbell rung at a time (R332 to R339). -/
def Dev.acceptAt (d : Dev) (at_ : Stamp) (src : Nat) (w1 w2 : Word) (pairB orig : Option (Word × Word)) : Dev :=
  let d := if loggedSource src then d.logAt at_ src w1 w2 else d
  if coreSource src then d.coreRecord at_ src w1 w2 else d.hostRecord at_ src w1 w2 pairB orig

/-- A doorbell (R332 to R339): source 0 is never admitted and is counted; an event raised before the router runs waits for
start-up step 5 with the time and epoch of its doorbell (R25, R374). -/
def Dev.accept (d : Dev) (src : Nat) (w1 w2 : Word) (pairB orig : Option (Word × Word)) : Dev :=
  if src = 0 then d.bump EVR_CNT_BADDOOR
  else
    let d := d.touchTime
    if d.pwr.step < 5 then
      let t := d.time.now
      { d with evr := { d.evr with deferred := d.evr.deferred ++ [⟨src, w1, w2, d.time.epoch, t.1, t.2⟩] } }
    else d.acceptAt d.stamp src w1 w2 pairB orig

/-- A block rings a doorbell with a payload. -/
def Dev.ring (d : Dev) (src : Nat) (w1 w2 : Word) : Dev := d.accept src w1 w2 none none

/-- A surface contact pair: source 17 with record A, and record B directly after it (R305). -/
def Dev.ringPair (d : Dev) (a1 a2 b1 b2 : Word) : Dev := d.accept 17 a1 a2 (some (b1, b2)) none

end Sys2Proof.Machine
end

