-- ==== Sys2Proof/Machine/Events.lean ====
section
/-!
DEFINITION. Events.lean: the commands of the event router: doorbells, delivery, the read pointer, TAKE and DONE, the
stack reset, global disable, source configuration, the service time-out, moderation, and the core group.
-/

namespace Sys2Proof.Machine

/-! Overflow episodes ending. -/

/-- An episode ends when F reaches 256: the record is made final, the log takes it and a resync is called for (R363,
R378). -/
def Dev.endEpisode (d : Dev) (p : HostPort) : Dev :=
  let q := d.hostQ p
  match q.episode with
  | none => d
  | some e =>
    if d.freeRecords p < 256 then d
    else
      let w2 := e.w2 true d.ticks
      let d := match q.ovOwn, q.ovSlot with
        | true, some slot => d.fillBank 8 (slotBase p slot + 1) [e.w1, w2]
        | _, _ => d
      let d := d.setHostQ p { q with episode := none, ovOwn := false }
      (d.logEvent 1 e.w1 w2).askBurst

/-- The highest priority among the records a ring holds (R430, R431). -/
def Dev.ringMaxPri (d : Dev) (p : HostPort) : Nat :=
  (List.range (d.occupancy p)).foldl (fun acc i => max acc (wGet (d.bank 8 (slotBase p (d.ringRd p + i))) 11 4)) 0

/-- ALERT# is released when the H0 ring holds no record at or above ALERT_PRI (R430). -/
def Dev.judgeAlert (d : Dev) : Dev :=
  if d.ringMaxPri .h0 < d.par secHost 0x04 then d.setFlag TWB_STAT_ALERT false else d

/-- RING_READ_POINTER: a host write of RD releases records; one beyond the occupancy is ignored and counted (R342).
The release of an OVERFLOW record frees the reserved slot; an episode that still lasts and has not written its own record
writes it there (R361, R362, R364). -/
def Dev.releaseTo (d : Dev) (p : HostPort) (new : Nat) : Dev :=
  let old := d.ringRd p
  let n := (new + 2048 - old) % 2048
  if d.occupancy p < n then d.bump (portFld p EVR_H0_CNT_BADPTR)
  else
    let q := d.hostQ p
    let released := match q.ovSlot with
      | none => false
      | some slot => decide ((slot + 2048 - old) % 2048 < n)
    let d := d.setFld (portFld p EVR_H0_RD_RD) new
    let d := if released then d.setHostQ p { q with ovSlot := none, ovOwn := false } else d
    let d := d.endEpisode p
    let d := match (d.hostQ p).episode, (d.hostQ p).ovSlot with
      | some e, none => if e.wrote then d else d.touchTime.writeOverflow p e
      | _, _ => d
    match p with
    | .h0 => d.judgeAlert
    | .h1 => d

/-! Delivery. -/

/-- May the pending record be delivered but for moderation (R345)? Source 3 always may (R352). -/
def Dev.unheld (d : Dev) (p : HostPort) (r : Pend) : Bool :=
  r.src == 3 ||
    (decide (stackLevel (d.hostQ p).stack < r.pri) && !d.flag (portFld p EVR_H0_GDIS_GDIS) &&
      !cfgMask p (d.srcCfg r.src))

/-- Is the record eligible, given the pending records before it (R345, R355)? -/
def Dev.eligible (d : Dev) (p : HostPort) (before : List Pend) (r : Pend) : Bool :=
  d.unheld p r &&
    (r.src == 3 ||
      (((d.hostQ p).stack.isEmpty || !(d.hostQ p).moderated.contains r.src) &&
        (r.group.isNone || before.all fun o => o.group != r.group)))

/-- The indices of the eligible pending records, oldest first. -/
def Dev.eligibleIdx (d : Dev) (p : HostPort) : List Nat :=
  (List.range (d.hostQ p).pend.length).filter fun i =>
    match (d.hostQ p).pend[i]? with
    | none => false
    | some r => d.eligible p ((d.hostQ p).pend.take i) r

/-- The oldest pending record of a source, when the level, GDIS and the mask let it go (R351). -/
def Dev.freeRecordOf (d : Dev) (p : HostPort) (s : Nat) : Option Pend :=
  ((d.hostQ p).pend.find? fun r => r.src == s).filter fun r => d.unheld p r

/-- The record that R351 prefers after a DONE: the oldest pending record of the first preferred source, or for a report group
the oldest record of its group. -/
def Dev.preferredIdx (d : Dev) (p : HostPort) : Option Nat :=
  match (d.hostQ p).prefer.findSome? fun s => d.freeRecordOf p s with
  | none => none
  | some r => (d.hostQ p).pend.findIdx? fun o => if r.group.isSome then o.group == r.group else o.src == r.src

/-- The record delivered next: source 3 first, then the preferred one, then the highest priority, oldest first
(R347, R351, R369). -/
def Dev.nextIdx (d : Dev) (p : HostPort) : Option Nat :=
  let el := d.eligibleIdx p
  let pend := (d.hostQ p).pend
  match el.find? fun i => (pend[i]?.map Pend.src) == some 3 with
  | some i => some i
  | none =>
    match d.preferredIdx p with
    | some i => some i
    | none =>
      el.foldl (fun best i =>
        match best with
        | none => some i
        | some b => if (pend[b]?.map Pend.pri).getD 0 < (pend[i]?.map Pend.pri).getD 0 then some i else some b) none

/-- The forward table entry of a record delivered into slot i (R566). -/
def Dev.writeForward (d : Dev) (p : HostPort) (slot : Nat) (orig : Option (Word × Word)) : Dev :=
  match orig with
  | none => d
  | some (w1, w2) =>
    let base := match p with
      | .h0 => 12288
      | .h1 => 14336
    d.fillBank 9 (base + 2 * (slot % 1024)) [w1, w2]

/-- ALERT# asserts at the delivery to H0 of a record at or above ALERT_PRI; with ALERT_PRI 0 it never does (R430). -/
def Dev.assertAlert (d : Dev) (p : HostPort) (pri : Nat) : Dev :=
  match p with
  | .h1 => d
  | .h0 => if d.par secHost 0x04 ≠ 0 ∧ d.par secHost 0x04 ≤ pri then d.setFlag TWB_STAT_ALERT true else d

/-- A record written into its ring, the pair as two records in one step (R347), with what its delivery starts:
moderation (R355), the forward table (R566) and ALERT# (R430). -/
def Dev.deliver (d : Dev) (p : HostPort) (r : Pend) : Dev :=
  let slot := d.ringWr p
  let d := d.writeRecord p r.src r.pri r.epoch r.w1 r.w2 r.w3
  let d := match r.pairB with
    | none => d
    | some (b1, b2) => d.writeRecord p 18 r.pri r.epoch b1 b2 r.w3
  let d := d.writeForward p slot r.orig
  let q := d.hostQ p
  let q := if cfgMod (d.srcCfg r.src) ≠ 0 ∧
    ¬ q.moderated.contains r.src then { q with moderated := r.src :: q.moderated } else q
  let q := { q with prefer := q.prefer.erase r.src }
  (d.setHostQ p q).assertAlert p r.pri

/-- RECORD_DELIVERY (R347): the next eligible record of a consumer is delivered; with none, nothing happens. -/
def Dev.deliverNext (d : Dev) (p : HostPort) : Dev :=
  if d.ringsTaken then d else
  match d.nextIdx p with
  | none => d
  | some i =>
    match (d.hostQ p).pend[i]? with
    | none => d
    | some r =>
      let q := d.hostQ p
      let q := { q with pend := q.pend.eraseIdx i, prefer := q.prefer.filter fun s => (d.freeRecordOf p s).isSome }
      (d.setHostQ p q).deliver p r

/-! The priority stacks. -/

/-- A record of source 3 for one consumer; one that does not fit in F is refused (R352, R372), and so is every record while
the ring banks are under repair (R671). -/
def Dev.orderTo (d : Dev) (p : HostPort) (w1 w2 : Word) : Dev :=
  let cfg := d.srcCfg 3
  let r : Pend := ⟨3, 15, d.time.epoch, w1, w2, stampW3 d.time.now, none, none, none⟩
  if d.portOpen p then
    if d.ringsTaken then d.refuseTaken p 1
    else if r.size ≤ d.freeRecords p then
      let q := d.hostQ p
      (d.setHostQ p { q with pend := q.pend ++ [r] }).admitWake p 3 (cfgWake cfg)
    else d.refuseRecord p 15 1
  else d

/-- Source 3, EVR_ORDER, raised to one consumer: a doorbell of the router's own (R332, R352). -/
def Dev.raiseOrder (d : Dev) (p : HostPort) (w1 w2 : Word) : Dev := (d.touchTime.bump EVR_CNT_DOORS).orderTo p w1 w2

/-- W1 and W2 of source 3 (R378). -/
def orderW1 (consumer kind pri src : Nat) : Word := pack [(consumer, 21), (kind, 17), (pri % 16, 9), (src % 512, 0)]
def orderW2 (st : List StackEnt) : Word :=
  match st with
  | [] => 0
  | e :: _ => pack [(st.length, 13), (e.pri, 9), (e.src, 0)]

def portCode (p : HostPort) : Nat :=
  match p with
  | .h0 => 0
  | .h1 => 1

/-- An ordering fault of a host consumer: the stack is frozen as it stands, the fault is recorded, counted, logged and
raised (R352, R378). -/
def Dev.orderFault (d : Dev) (p : HostPort) (kind pri src : Nat) : Dev :=
  let q := d.hostQ p
  let d := d.setHostQ p { q with frozen := true }
  let f := portFld p EVR_H0_FAULT_KIND
  let d := d.setReg f.addr (pack [(kind, 20), (pri % 16, 9), (src % 512, 0)])
  let d := d.bump (portFld p EVR_H0_CNT_ORDERS)
  let w1 := orderW1 (portCode p) kind pri src
  let w2 := orderW2 q.stack
  (d.logEvent 3 w1 w2).raiseOrder p w1 w2

/-- TAKE (R349): the source and priority of a W0 above the level are pushed; while frozen it is ignored (R352). -/
def Dev.take (d : Dev) (p : HostPort) (w0 : Word) : Dev :=
  let q := d.hostQ p
  let src := wGet w0 15 9
  let pri := wGet w0 11 4
  if q.frozen then d.bump (portFld p EVR_H0_CNT_IGNORED)
  else if 1 ≤ pri ∧ stackLevel q.stack < pri then
    d.setHostQ p { q with stack := ⟨src, pri, false⟩ :: q.stack }
  else d.orderFault p 3 pri src

/-- DONE (R350, R351): the top entry is popped, and its source is preferred when its oldest pending record is eligible at this
DONE in every respect but moderation; else the preference lapses. -/
def Dev.complete (d : Dev) (p : HostPort) (src : Nat) : Dev :=
  let q := d.hostQ p
  if q.frozen then d.bump (portFld p EVR_H0_CNT_IGNORED)
  else match q.stack with
    | [] => d.orderFault p 2 0 src
    | e :: rest =>
      if e.src = src then
        let rest := match rest with
          | [] => []
          | t :: more => { t with reported := false } :: more
        let d := d.setHostQ p { q with stack := rest }
        d.setHostQ p { d.hostQ p with
          prefer := if (d.freeRecordOf p src).isSome ∧ ¬ q.prefer.contains src then q.prefer ++ [src] else q.prefer }
      else d.orderFault p 1 0 src

/-- STACKRST (R353): a write of 1 empties and unfreezes the stack. -/
def Dev.resetStack (d : Dev) (p : HostPort) (v : Word) : Dev :=
  if wGet v 0 1 = 1 then d.setHostQ p { d.hostQ p with stack := [], frozen := false } else d

/-- A write of EVR_SCFG for the selected source (R336, R337): fixed fields keep their value, the mask bits of the
tracking sources move together, and MOD of these stays 0. -/
def Dev.writeSrcCfg (d : Dev) (src : Nat) (v : Word) : Dev :=
  if coreSource src then d.ignoreWrite
  else if src = 1 ∨ src = 3 then
    d.setSrcCfg src ((d.srcCfg src &&& ~~~ 0x8000#24) ||| (v &&& 0x8000#24))
  else if reportSource src then
    let d := if src = 18 then d else d.setSrcCfg src (v &&& 0x03E00F#24)
    [16, 17, 19, 36, 37, 38].foldl (fun d s => d.setSrcCfg s (wSet (d.srcCfg s) 16 2 (wGet v 16 2))) d
  else d.setSrcCfg src (v &&& 0x03EFFF#24)

/-! The commands. -/

/-- DOORBELL (R339). -/
def execDoorbell (src : BitVec 9) (w1 w2 : Word) (s : State) : Host.Outcome State Fault Refusal :=
  s.run fun d => d.ring src.toNat w1 w2

/-- A write of EVR_HDOOR (R334): sources 256 to 319 ring with the staged payload; any other value is counted. -/
def Dev.hostDoorbell (d : Dev) (value : Word) : Dev :=
  if 256 ≤ value.toNat ∧ value.toNat ≤ 319 then
    d.ring value.toNat (d.reg EVR_HDOOR_W1) (d.reg EVR_HDOOR_W2)
  else d.bump EVR_CNT_BADDOOR

/-- HOST_DOORBELL (R334): bits above the field are reserved and ignored (R14). -/
def execHostDoorbell (value : Word) (s : State) : Host.Outcome State Fault Refusal :=
  s.run fun d => d.hostDoorbell (value &&& 0x1FF#24)

/-- RECORD_DELIVERY (R347). -/
def execRecordDelivery (p : HostPort) (s : State) : Host.Outcome State Fault Refusal := s.run fun d => d.deliverNext p

/-- RING_READ_POINTER (R342). -/
def execRingReadPointer (p : HostPort) (value : Word) (s : State) : Host.Outcome State Fault Refusal :=
  s.run fun d => d.releaseTo p (wGet value 0 11)

/-- TAKE (R349). -/
def execTake (p : HostPort) (w0 : Word) (s : State) : Host.Outcome State Fault Refusal := s.run fun d => d.take p w0

/-- DONE (R350). -/
def execDone (p : HostPort) (value : Word) (s : State) : Host.Outcome State Fault Refusal :=
  s.run fun d => d.complete p (wGet value 0 9)

/-- STACKRST (R353). -/
def execStackrst (p : HostPort) (value : Word) (s : State) : Host.Outcome State Fault Refusal :=
  s.run fun d => d.resetStack p value

/-- GDIS (R356): the bit written holds or releases every record of the consumer but sources 1 and 3. -/
def execGdis (p : HostPort) (value : Word) (s : State) : Host.Outcome State Fault Refusal :=
  s.run fun d => d.setFld (portFld p EVR_H0_GDIS_GDIS) (wGet value 0 1)

/-- SOURCE_CONFIG_WRITE (R337): the source that EVR_SSEL selects. -/
def execSourceConfigWrite (value : Word) (s : State) : Host.Outcome State Fault Refusal :=
  s.run fun d => d.writeSrcCfg (d.fld EVR_SSEL_SRC) value

/-- Source 2 raised once for a stay of the top entry of SVC_TO × 10 ms; with SVC_TO 0 it is off (R354). -/
def Dev.serviceTimeout (d : Dev) (p : HostPort) : Dev :=
  let q := d.hostQ p
  let svcTo := d.par secEvents 0x02
  match q.stack with
  | [] => d
  | e :: rest =>
    if e.reported ∨ svcTo = 0 then d
    else
      let d := d.setHostQ p { q with stack := { e with reported := true } :: rest }
      d.ring 2 (pack [(portCode p, 21), (e.pri, 9), (e.src, 0)]) (word svcTo)

/-- EVR_SERVICE_TIMEOUT (R354). -/
def execEvrServiceTimeout (p : HostPort) (s : State) : Host.Outcome State Fault Refusal := s.run fun d => d.serviceTimeout p

/-- MODERATION_EXPIRY (R355): the source's next record to this consumer becomes eligible. -/
def execModerationExpiry (p : HostPort) (src : BitVec 9) (s : State) : Host.Outcome State Fault Refusal :=
  s.run fun d => d.setHostQ p { d.hostQ p with moderated := (d.hostQ p).moderated.filter (· != src.toNat) }

/-! The core group. -/

def Dev.core (d : Dev) (n : Nat) : CoreQ := d.evr.cores.getD n {}

def Dev.setCore (d : Dev) (n : Nat) (c : CoreQ) : Dev := { d with evr := { d.evr with cores := d.evr.cores.set n c } }

/-- The cores that may take a record of a priority, in the order C0 to C3 after the last core chosen (R358). -/
def Dev.coreOrder (d : Dev) : List Nat := (List.range 4).map fun i => (d.fld EVR_CORE_LAST + 1 + i) % 4

def Dev.coreFor (d : Dev) (pri : Nat) : Option Nat :=
  d.coreOrder.foldl (fun best n =>
    let c := d.core n
    if c.restarting ∨ pri ≤ stackLevel c.stack then best
    else match best with
      | none => some n
      | some b => if stackLevel c.stack < stackLevel (d.core b).stack then some n else some b) none

/-- The stored record that is preferred after a core's DONE, while a core is eligible for it (R351, R359). -/
def Dev.corePreferred (d : Dev) : Option Nat :=
  d.evr.corePrefer.findSome? fun s => d.evr.store.findIdx? fun r => r.src == s && (d.coreFor r.pri).isSome

/-- The record delivered next to a core: a preferred one first, then the oldest of the highest priority in the store for which
a core is eligible (R347, R351, R358, R359). -/
def Dev.coreNext (d : Dev) : Option Nat :=
  d.corePreferred.or <| (List.range d.evr.store.length).foldl (fun best i =>
    match d.evr.store[i]? with
    | none => best
    | some r =>
      if (d.coreFor r.pri).isNone then best
      else match best with
        | none => some i
        | some b => if (d.evr.store[b]?.map Pend.pri).getD 0 < r.pri then some i else some b) none

/-- CORE_DELIVERY (R358): the record goes to the eligible core of the lowest level, which wakes. -/
def Dev.coreDeliver (d : Dev) : Dev :=
  match d.coreNext with
  | none => d
  | some i =>
    match d.evr.store[i]? with
    | none => d
    | some r =>
      match d.coreFor r.pri with
      | none => d
      | some n =>
        let d := { d with evr := { d.evr with store := d.evr.store.eraseIdx i, corePrefer := d.evr.corePrefer.erase r.src } }
        let c := d.core n
        let d := d.setCore n { c with inbox := c.inbox ++ [r], asleep := false }
        (d.setFld EVR_CORE_LAST n).bump (EVR_C_STAT_DELIV n)

/-- CORE_DELIVERY (R358). -/
def execCoreDelivery (s : State) : Host.Outcome State Fault Refusal := s.run Dev.coreDeliver

/-- An ordering fault of a core stack: frozen, logged, and raised to H0, and to H1 while it admits records (R359); a worker
forwards the record (R565). -/
def Dev.coreFault (d : Dev) (n kind pri src : Nat) : Dev :=
  let c := d.core n
  let d := d.setCore n { c with frozen := true }
  let w1 := orderW1 (n + 2) kind pri src
  let w2 := orderW2 c.stack
  let d := d.touchTime.logEvent 3 w1 w2
  if d.isWorker then d.hostRecord d.stamp 3 w1 w2 none none
  else (d.raiseOrder .h0 w1 w2).orderTo .h1 w1 w2

/-- CORE_TAKE (R359): as a host TAKE on the core's stack; a record taken leaves the core's inbox. -/
def execCoreTake (core : BitVec 2) (src : BitVec 9) (pri : BitVec 4) (s : State) : Host.Outcome State Fault Refusal :=
  s.run fun d =>
    let n := core.toNat
    let c := d.core n
    if c.frozen then d
    else if 1 ≤ pri.toNat ∧ stackLevel c.stack < pri.toNat then
      let inbox := match c.inbox.findIdx? fun r => r.src == src.toNat && r.pri == pri.toNat with
        | none => c.inbox
        | some i => c.inbox.eraseIdx i
      d.setCore n { c with stack := ⟨src.toNat, pri.toNat, false⟩ :: c.stack, inbox := inbox }
    else d.coreFault n 3 pri.toNat src.toNat

/-- After a DONE of a core, the source's oldest stored record is preferred when it is eligible for that core (R351, R359). -/
def Dev.preferCore (d : Dev) (n src : Nat) : Dev :=
  match d.evr.store.find? fun r => r.src == src with
  | none => d
  | some r =>
    if (d.core n).restarting = false ∧ stackLevel (d.core n).stack < r.pri ∧ ¬ d.evr.corePrefer.contains src then
      { d with evr := { d.evr with corePrefer := d.evr.corePrefer ++ [src] } }
    else d

/-- CORE_DONE (R359): as a host DONE on the core's stack. -/
def execCoreDone (core : BitVec 2) (src : BitVec 9) (s : State) : Host.Outcome State Fault Refusal :=
  s.run fun d =>
    let n := core.toNat
    let c := d.core n
    if c.frozen then d
    else match c.stack with
      | [] => d.coreFault n 2 0 src.toNat
      | e :: rest =>
        if e.src = src.toNat then (d.setCore n { c with stack := rest }).preferCore n src.toNat else d.coreFault n 1 0 src.toNat

end Sys2Proof.Machine
end

