-- ==== Sys2Proof/Machine/Clock.lean ====
section
/-!
DEFINITION. Clock.lean: the time base (11_time_base.md): tick boundaries, snapshots, loads, slews, steps and the alarm.
TICK_BOUNDARY, TIME_LOAD_APPLY, TIME_SLEW_APPLY, SLEW_ADJUST, WORKER_TIME_STEP and TIME_ALARM are one physical event, a
tick boundary, named by what falls due there: each of the named ones acts only when its cause is due, and every boundary
does all that is due at it (log entry 8).
-/

namespace Sys2Proof.Machine

def Dev.setPwr (d : Dev) (p : Power) : Dev := { d with pwr := p }

/-- The fast oscillator starts, free-running, and its lock begins (R108). -/
def Dev.foscStart (d : Dev) : Dev :=
  let d := d.setPwr { d.pwr with lockFails := 0 }
  ((d.setFlag SYS_CLK_FOSC_ON true).setFlag SYS_CLK_LOCKED false).setFld SYS_CLK_LOCKREF 0

/-! The time of a requester. -/

def Dev.snapshot (d : Dev) (rq : Requester) : Snapshot :=
  match rq with
  | .twoWire => d.time.twoWire
  | .usb => d.time.usb
  | .console => d.time.console
  | .remote => d.time.remote

/-- The requester's snapshot taken from one cycle (R384, R385). -/
def Dev.takeSnapshot (d : Dev) (rq : Requester) : Dev :=
  let d := d.touchTime
  let t := d.time.now
  let sn : Snapshot := ⟨word t.2, word t.1, word (t.1 / 16777216), word d.time.epoch, word d.time.frame⟩
  match rq with
  | .twoWire => { d with time := { d.time with twoWire := sn } }
  | .usb => { d with time := { d.time with usb := sn } }
  | .console => { d with time := { d.time with console := sn } }
  | .remote => { d with time := { d.time with remote := sn } }

/-! The counted value in units of 2^-24 s. -/

/-- The counted value as one number of units (R381). -/
def TimeBase.units (t : TimeBase) : Nat := t.sec * 16777216 + t.frac

/-- The counted value set from a number of units, wrapping as S and C do (R381). -/
def TimeBase.setUnits (t : TimeBase) (u : Nat) : TimeBase :=
  { t with sec := u / 16777216 % 281474976710656, frac := u % 16777216 }

/-- The alarm value (R403, R405). -/
def Dev.alarmUnits (d : Dev) : Nat :=
  ((d.fld TIME_ALM_SECH_S) * 16777216 + d.fld TIME_ALM_SECL_S) * 16777216 + d.fld TIME_ALM_FRAC_F * 512

def Dev.alarmReached (d : Dev) : Bool := decide (d.alarmUnits ≤ d.time.units)

/-- The slew in progress, in signed units. -/
def Dev.slewRem (d : Dev) : Int := wInt (d.reg TIME_SLEWREM)

def Dev.setSlewRem (d : Dev) (i : Int) : Dev :=
  (d.setReg TIME_SLEWREM (wordI i)).setFlag TIME_STAT_SLEWING (decide (i ≠ 0))

/-- A number of units as milliseconds, rounded to the nearest with halves away from zero (R415). -/
def unitsToMs (i : Int) : Int :=
  let n := (i.natAbs * 1000 * 2 + 16777216) / (2 * 16777216)
  if i < 0 then -(n : Int) else n

/-! Steps. -/

/-- A step of the counted value (R388, R389): the counted value becomes u, the interpolation starts from 0, the epoch is
taken, TIME_STEPCNT counts, LOADPEND clears, a slew ends without its event, and TIME_STEP rings. The step flag goes out
with the next beacon (R399); an alarm stepped over is late (R404). -/
def Dev.timeStep (d : Dev) (u epoch reason : Nat) : Dev :=
  let size := unitsToMs ((u : Int) - (d.time.units : Int))
  let passed := d.flag TIME_ALM_CTRL_ARM && !d.alarmReached
  let t := { d.time.setUnits u with
    interp := 0, epoch := epoch % 64, load := none, slewNext := none, slewCount := 0, stepNext := none, stepFlag := true }
  let d := { d with time := t }
  let d := { d with time := { d.time with alarmLate := d.alarmReached && (d.time.alarmLate || passed) } }
  let d := (d.setSlewRem 0).setFlag TIME_STAT_LOADPEND false
  let d := d.bump TIME_STEPCNT_STEPS
  let w1 := wordI (satInt 0x7FFFFF size)
  let w2 := pack [(reason, 8), (epoch % 64, 0)]
  ({ d with time := { d.time with steps := ((w1, w2) :: d.time.steps).take 8 } } : Dev).ring 208 w1 w2

/-- A worker's step: it adopts the manager's epoch (R395, R396); reason 2 is announced by UNANN and, from the third
within 60 s, by TIME_SYNC (R412). -/
def Dev.workerStep (d : Dev) (off : Int) (epoch reason : Nat) : Dev :=
  let u := ((d.time.units : Int) + off).toNat
  let d := d.timeStep u epoch reason
  if reason = 2 then
    let recent := (d.ticks :: d.time.unannTicks).filter fun t => decide (d.ticks ≤ t + 60 * 32768)
    let d := { d with time := { d.time with unannTicks := recent } }
    let d := d.setFlag TIME_STAT_UNANN true
    let d := d.logEvent 208 (wordI (satInt 0x7FFFFF off)) (pack [(2, 8), (epoch % 64, 0)])
    if 3 ≤ recent.length then d.ring 210 (pack [(1, 1), (bit (d.flag TIME_STAT_LOCKED), 0)]) (d.reg TIME_OFS) else d
  else d

/-! The alarm. -/

/-- The alarm judged against the counted value at a tick boundary (R403, R404). -/
def Dev.judgeAlarm (d : Dev) : Dev :=
  if d.flag TIME_ALM_CTRL_ARM && d.alarmReached then
    let late := d.time.alarmLate
    let d := { d with time := { d.time with alarmLate := false } }
    let d := ((d.setFlag TIME_ALM_CTRL_ARM false).setFlag TIME_ALM_CTRL_FIRED true).setFlag TIME_ALM_CTRL_LATE late
    d.ring 209 (word d.time.sec) (word (bit late))
  else d

/-! The tick boundary. -/

/-- Is an adjustment of the slew due at the next boundary (R391)? -/
def Dev.adjustDue (d : Dev) : Bool :=
  d.slewRem ≠ 0 && decide (d.par secTime 0x01 ≤ d.time.slewCount + 1)

/-- The ordinary advance of a boundary, with the slew's adjustment when it is due (R381, R391, R393). -/
def Dev.countTick (d : Dev) : Dev :=
  if d.adjustDue then
    let up := decide (0 < d.slewRem)
    let rem := if up then d.slewRem - 1 else d.slewRem + 1
    let t := d.time.setUnits (d.time.units + if up then 513 else 511)
    let d := { d with time := { t with slewCount := 0, interp := 0 } }
    let d := d.setSlewRem rem
    if rem = 0 then d.ring 211 0 (wordI d.time.slewTotal) else d
  else
    let t := d.time.setUnits (d.time.units + 512)
    { d with time := { t with interp := 0, slewCount := if d.slewRem = 0 then 0 else t.slewCount + 1 } }

/-- A slew that takes effect at this boundary replaces what remained of the old one (R392, R393). -/
def Dev.applySlew (d : Dev) : Dev :=
  match d.time.slewNext with
  | none => d
  | some i =>
    let d := { d with time := { d.time with slewNext := none, slewCount := 0, slewTotal := i } }
    d.setSlewRem i

/-- Console output leaves at 115,200 baud, 8N1: 45/128 of a byte per tick (R64). -/
def Console.drain (c : Console) : Console :=
  if c.level = 0 then { c with credit := 0 }
  else
    let credit := c.credit + 45
    if credit < 128 then { c with credit := credit }
    else
      match c.out with
      | [] => { c with credit := 0, sent := 0 }
      | l :: rest => if l.bytes ≤ c.sent + 1 then { c with out := rest, sent := 0, credit := credit - 128 }
        else { c with sent := c.sent + 1, credit := credit - 128 }

/-- Waiting output of a running `log` or `rd` takes the room there is, line by line: it is paced, and none of it is dropped
(R82, R83; DEDUCED, log entry 35). -/
def Console.refill (c : Console) : Nat → Console
  | 0 => c
  | k + 1 =>
    match c.todo with
    | [] => c
    | l :: rest => if c.level + l.bytes ≤ 2048 then Console.refill { c with out := c.out ++ [l], todo := rest } k else c

/-- Lines of a running command, then its status line and the prompt: they leave as the transmit buffer has room for them. -/
def Dev.printRun (d : Dev) (ls : List OutLine) : Dev :=
  let ls := ls ++ [.ok, .prompt d.fullSet]
  { d with con := ({ d.con with todo := d.con.todo ++ ls }).refill ls.length }

/-- A 32 kHz tick boundary: a load or a worker's step replaces the ordinary advance (R388, R395, R408, R411); else the
value advances and a waiting slew takes effect (R391, R393). The interpolation runs from here on while the fast
oscillator runs (R382); then the alarm is judged (R404). -/
def Dev.tickBoundary (d : Dev) : Dev :=
  let d := { d with ticks := d.ticks + 1, con := (if d.ioLive then d.con.drain else d.con).refill 4 }
  let d := match d.time.load, d.time.stepNext with
    | some (s, f), _ => d.timeStep (s * 16777216 + f) (d.time.epoch + 1) 0
    | none, some (off, epoch, reason) => d.workerStep (off + 512) epoch reason
    | none, none => d.countTick.applySlew
  let d := { d with time := { d.time with fast := d.flag SYS_CLK_FOSC_ON } }
  let d := d.setFlag TIME_STAT_FASTINT d.time.fast
  d.judgeAlarm

/-! The commands. -/

/-- TIME_SNAPSHOT (R384): a read of TIME_FRAC. -/
def execTimeSnapshot (rq : Requester) (s : State) : Host.Outcome State Fault Refusal := s.run fun d => d.takeSnapshot rq

/-- TIME_CMD = LOAD: the staged time is buffered, and a later LOAD replaces the buffer; a worker ignores it (R387, R388,
R406). -/
def Dev.timeLoad (d : Dev) : Dev :=
  if d.isWorker then d.ignoreWrite
  else
    let s := d.fld TIME_SET_SECH_S * 16777216 + d.fld TIME_SET_SECL_S
    { d with time := { d.time with load := some (s, d.fld TIME_SET_FRAC_F * 512) } }.setFlag TIME_STAT_LOADPEND true

/-- TIME_LOAD (R388). -/
def execTimeLoad (s : State) : Host.Outcome State Fault Refusal := s.run Dev.timeLoad

/-- TIME_CMD = SLEW: an offset within ±67,108 units waits for the boundary; one outside is refused and counted; a worker
ignores it (R387, R392). -/
def Dev.timeSlew (d : Dev) : Dev :=
  let off := wInt (d.reg TIME_SET_OFS)
  if d.isWorker then d.ignoreWrite
  else if off < -67108 ∨ 67108 < off then d.bump TIME_CNT_REFUSED
  else { d with time := { d.time with slewNext := some off } }

/-- TIME_SLEW (R392). -/
def execTimeSlew (s : State) : Host.Outcome State Fault Refusal := s.run Dev.timeSlew

/-- TIME_CMD = CANCEL: a pending load, a slew in progress and one that waits all end without an event (R407). -/
def Dev.timeCancel (d : Dev) : Dev :=
  if d.isWorker then d.ignoreWrite
  else ({ d with time := { d.time with load := none, slewNext := none, slewCount := 0 } }.setSlewRem 0).setFlag
    TIME_STAT_LOADPEND false

/-- TIME_CANCEL (R407). -/
def execTimeCancel (s : State) : Host.Outcome State Fault Refusal := s.run Dev.timeCancel

/-- BEACON_GAP (R398): LOCKED clears and TIME_SYNC is raised. -/
def execBeaconGap (s : State) : Host.Outcome State Fault Refusal :=
  s.run fun d =>
    if d.isWorker && d.flag TIME_STAT_LOCKED then
      (d.setFlag TIME_STAT_LOCKED false).ring 210 0 (d.reg TIME_OFS)
    else d

/-- Writing ARM = 1 arms the alarm and judges it at once: one already reached fires late at the next boundary (R404).
Writing ARM = 0 disarms it. FIRED is W1C. -/
def Dev.writeAlarmCtrl (d : Dev) (v : Word) : Dev :=
  let d := d.storeReg TIME_ALM_CTRL v
  { d with time := { d.time with alarmLate := d.flag TIME_ALM_CTRL_ARM && d.alarmReached } }

/-- ALARM_ARM (R404). -/
def execAlarmArm (s : State) : Host.Outcome State Fault Refusal := s.run fun d => d.writeAlarmCtrl 1#24

/-- A write of an alarm value; while armed it replaces the value at once (R404, R405). -/
def Dev.writeAlarmValue (d : Dev) (a : Nat) (v : Word) : Dev :=
  let d := d.storeReg a v
  if d.flag TIME_ALM_CTRL_ARM then { d with time := { d.time with alarmLate := d.alarmReached } } else d

/-- ALARM_VALUE_WRITE (R404). -/
def execAlarmValueWrite (part : BitVec 2) (value : Word) (s : State) : Host.Outcome State Fault Refusal :=
  s.run fun d => if part = 3 then d else d.writeAlarmValue (TIME_ALM_FRAC + part.toNat) value

end Sys2Proof.Machine
end

