-- ==== Sys2Proof/Machine/Lamp.lean ====
section
/-!
DEFINITION. Lamp.lean: lamp drive (20_lighting.md): lamp numbers, levels and curves, commands and fades, groups, faults,
the tapped string, the external chain, and what the modes do to the lamps.
-/

namespace Sys2Proof.Machine

/-! Lamps and groups (R746, R765). -/

def Dev.tapped (d : Dev) : Bool := d.par secLamps 0x03 == 1
def Dev.ndrv (d : Dev) : Nat := d.par secLamps 0x05

/-- Is lamp n present (R746)? -/
def Dev.lampPresent (d : Dev) (n : Nat) : Bool :=
  if n < 7 then true
  else if n = 7 then !d.tapped
  else if n < 16 then d.tapped && (d.par secLamps 0x04).testBit (n - 8)
  else decide (n < 16 + 16 * d.ndrv)

/-- The state of lamp n; a lamp not listed is off, linear and not faulted. -/
def Lamps.get (l : Lamps) (n : Nat) : Lamp :=
  match l.lamps.find? fun p => p.1 == n with
  | some p => p.2
  | none => {}

/-- The lamp list with the entry of lamp n replaced, in the order of the numbers. -/
def lampInsert (n : Nat) (v : Lamp) : List (Nat × Lamp) → List (Nat × Lamp)
  | [] => [(n, v)]
  | (m, w) :: rest =>
    if n < m then (n, v) :: (m, w) :: rest else if n = m then (n, v) :: rest else (m, w) :: lampInsert n v rest

def Dev.lampAt (d : Dev) (n : Nat) : Lamp := d.lamp.get n

/-- Lamp n replaced. -/
def Dev.setLamp (d : Dev) (n : Nat) (v : Lamp) : Dev := { d with lamp := { d.lamp with lamps := lampInsert n v d.lamp.lamps } }

/-- The lamps that differ from off, each changed by f. -/
def Dev.mapLamps (d : Dev) (f : Nat → Lamp → Lamp) : Dev :=
  { d with lamp := { d.lamp with lamps := d.lamp.lamps.map fun p => (p.1, f p.1 p.2) } }

/-- The group of a lamp, when it belongs to one (R765). -/
def Dev.groupOf (d : Dev) (n : Nat) : Option Nat :=
  let w := d.cfgWord secLamps 0x07 n
  if wGet w 4 1 = 1 then some (wGet w 0 4) else none

def Dev.groupLamps (d : Dev) (g : Nat) : List Nat :=
  (List.range 528).filter fun n => d.groupOf n == some g && d.lampPresent n

def Dev.interlocked (d : Dev) (g : Nat) : Bool := wGet (d.cfgWord secLamps 0x08 g) 0 1 == 1
def Dev.groupClr (d : Dev) (g : Nat) : Nat := wGet (d.cfgWord secLamps 0x08 g) 1 2
def Dev.tripped (d : Dev) (g : Nat) : Bool := (d.fld LAMP_TRIP_TRIPPED).testBit g

/-- A lamp belongs to a tripped group (R767). -/
def Dev.lampTripped (d : Dev) (n : Nat) : Bool :=
  match d.groupOf n with
  | some g => d.tripped g
  | none => false

/-- The number of lamps at a level above 0 (LAMP_STAT.LIT). -/
def Dev.litCount (d : Dev) : Nat := (d.lamp.lamps.filter fun p => p.2.level != 0).length

def Dev.lampFading (d : Dev) : Bool := d.lamp.lamps.any fun p => p.2.cmd.isSome

/-- Faults are looked for only while VLEDST is 2, 3 or 4 (R778). -/
def Dev.lampChecks (d : Dev) : Bool := [2, 3, 4].contains (d.fld RAIL_STAT_VLEDST)

/-! Levels and curves (R747). -/

/-- Is n at most duty × N rounded to the nearest, for the perceptual duty (2^(8 L / 4095) - 1) / 255? Exact: 2n - 1 at
most 2 N × duty, both sides raised to the power 4,095. -/
def perceptualOk (big level n : Nat) : Bool :=
  n == 0 || decide (((2 * n - 1) * 255 + 2 * big) ^ 4095 ≤ 2 ^ (8 * level) * (2 * big) ^ 4095)

/-- round(duty × N) of a level under a curve (R747, R749, R757). -/
def dutyRound (big level : Nat) (curve : Bool) : Nat :=
  if level = 0 then 0
  else if curve then
    (List.range 14).foldl (fun n i =>
      let b := n + 2 ^ (13 - i)
      if b ≤ big ∧ perceptualOk big level b = true then b else n) 0
  else (2 * level * big + 4095) / 8190

/-- The on-time of an on-chip lamp in cycles of 48 MHz (R749). -/
def onCycles (l : Lamp) : Nat := dutyRound 12500 l.out l.curve

/-- The 12-bit code of an external channel (R757). -/
def chanCode (l : Lamp) : Nat := dutyRound 4095 l.out l.curve

/-- A lamp that a fault does not hold off and whose output level is above 0. -/
def Lamp.lit (l : Lamp) : Bool := l.fault == 0 && l.out != 0

/-! Commands (R761 to R764). -/

/-- Command number `num` loses lamps: the command is marked, and one lost to a later command counts once in SUPERSEDED
(R764). -/
def Dev.loseCmd (d : Dev) (num : Nat) (later : Bool) : Dev :=
  match d.lamp.cmds.find? fun c => c.num == num with
  | none => d
  | some c =>
    let c' := if later then { c with lost := true } else { c with spoiled := true }
    let d := { d with lamp := { d.lamp with cmds := d.lamp.cmds.map fun o => if o.num == num then c' else o } }
    if later && !c.lost then d.bump LAMP_CNT_SUPERSEDED else d

/-- Lamp n leaves the command that moves it. -/
def Dev.dropLampCmd (d : Dev) (n : Nat) (later : Bool) : Dev :=
  match (d.lampAt n).cmd with
  | none => d
  | some c => (d.setLamp n { d.lampAt n with cmd := none }).loseCmd c.1 later

/-- Commands that hold no lamp any more are over. -/
def Dev.sweepCmds (d : Dev) : Dev :=
  let live := d.lamp.cmds.filter fun c => d.lamp.lamps.any fun p => (p.2.cmd.map Prod.fst) == some c.num
  { d with lamp := { d.lamp with cmds := live } }

/-- The lamps that a command reaches (R761, R765). -/
def Dev.commandLamps (d : Dev) (grp : Bool) (index : Nat) : List Nat :=
  if grp then (d.groupLamps index).filter fun n => (d.lampAt n).fault == 0 else [index]

/-- Is a command refused (R746, R767)? -/
def Dev.commandRefused (d : Dev) (grp : Bool) (index : Nat) : Bool :=
  if grp then decide (16 ≤ index) || d.tripped index else !d.lampPresent index || d.lampTripped index

/-- A command on one lamp or one group (R761 to R765): refused and counted, or each of its lamps starts to move from its
present level. -/
def Dev.lampPerform (d : Dev) (grp : Bool) (index level fade tag : Nat) (curve : Bool) : Dev :=
  if d.commandRefused grp index then d.bump LAMP_CNT_REFUSED
  else
    let num := d.lamp.nextNum
    let lamps := d.commandLamps grp index
    let d := lamps.foldl (fun d n => d.dropLampCmd n true) d
    let c : LampCmd := ⟨num, tag, grp, index, false, false⟩
    let d := { d with lamp := { d.lamp with cmds := d.lamp.cmds ++ [c], nextNum := num + 1 } }
    let d := lamps.foldl (fun d n =>
      d.setLamp n { d.lampAt n with curve := curve, cmd := some (num, (d.lampAt n).level, level, fade, 0) }) d
    d.sweepCmds

/-- Do commands of a requester act in the present mode (R770, R771)? -/
def Dev.lampRuns (d : Dev) (console : Bool) : Bool :=
  d.mode == modeIdle || d.mode == modeActive || (d.mode == modeWatch && d.par secModes 0x0C == 1) ||
    (d.mode == modeService && console)

/-- A write of LAMP_CMDC (R761); in WATCH the fade counts as 0 (R770). -/
def Dev.lampCommand (d : Dev) (rq : Requester) (value : Word) : Dev :=
  if d.lampRuns (rq == .console) then
    d.lampPerform (d.flag LAMP_CMDA_GRP) (d.fld LAMP_CMDA_INDEX) (d.fld LAMP_CMDB_LEVEL)
      (if d.mode == modeWatch then 0 else wGet value 0 14) (d.fld LAMP_CMDB_TAG) (d.flag LAMP_CMDB_CURVE)
  else d

/-- LAMP_COMMAND (R761). -/
def execLampCommand (rq : Requester) (value : Word) (s : State) : Host.Outcome State Fault Refusal :=
  s.run fun d => d.lampCommand rq value

/-- The level of a fade after t ms, rounded toward its start (R762). -/
def fadeLevel (start target fade t : Nat) : Nat :=
  if fade ≤ t then target
  else ((start : Int) + Int.tdiv (((target : Int) - start) * t) fade).toNat

/-- One millisecond of one lamp's fade (R762). -/
def Lamp.fadeStep (l : Lamp) : Lamp :=
  match l.cmd with
  | none => l
  | some (num, start, target, fade, t) =>
    let level := fadeLevel start target fade (t + 1)
    if fade ≤ t + 1 then { l with level := level, cmd := none }
    else { l with level := level, cmd := some (num, start, target, fade, t + 1) }

/-- FADE_TICK: every fading lamp moves one step; each command whose last lamp has reached its target raises
LAMP_FADE_DONE, unless it has lost a lamp (R762, R764). -/
def Dev.fadeTick (d : Dev) : Dev :=
  let before := d.lamp.cmds
  let d := (d.mapLamps fun _ l => l.fadeStep).sweepCmds
  (before.filter fun c => !(d.lamp.cmds.any fun o => o.num == c.num)).foldl (fun d c =>
    if c.lost ∨ c.spoiled then d
    else d.ring 72 (word c.tag) (pack [(bit c.group, 23), (c.index, 0)])) d

/-- FADE_TICK (R762). -/
def execFadeTick (s : State) : Host.Outcome State Fault Refusal := s.run Dev.fadeTick

/-! Trips and clears (R766 to R769, R775, R777). -/

/-- A lamp off at once: level 0, its command lost to the trip. -/
def Dev.lampOff (d : Dev) (n : Nat) : Dev :=
  let d := d.dropLampCmd n false
  d.setLamp n { d.lampAt n with level := 0, out := 0 }

/-- A trip of an interlocked group that is not tripped yet (R766, R775, R777). -/
def Dev.tripGroup (d : Dev) (g cause lamp : Nat) : Dev :=
  if d.interlocked g && !d.tripped g then
    let d := ((d.groupLamps g).foldl Dev.lampOff d).sweepCmds
    let d := d.setFld LAMP_TRIP_TRIPPED (d.fld LAMP_TRIP_TRIPPED ||| 2 ^ g)
    d.ring 74 (pack [(cause, 20), (g, 16), (lamp, 0)]) (d.reg LAMP_TRIP)
  else d

/-- A rail short trips every interlocked group, with cause 2 (R735, R781). -/
def Dev.tripAll (d : Dev) : Dev := (List.range 16).foldl (fun d g => d.tripGroup g 2 0x3FF) d

/-- A clear of one tripped group by the host (0) or the console (1) (R768). -/
def Dev.clearGroup (d : Dev) (g by_ : Nat) : Dev :=
  if d.tripped g then
    let d := (d.groupLamps g).foldl (fun d n => d.setLamp n { (d.lampAt n) with
      level := 0, out := 0, fault := 0, cmd := none, openRun := 0, shortRun := 0, hotRun := 0, chanRun := 0 }) d
    let d := d.setFld LAMP_TRIP_TRIPPED (d.fld LAMP_TRIP_TRIPPED &&& (65535 - 2 ^ g))
    d.ring 75 (pack [(g, 16), (by_, 0)]) (d.reg LAMP_TRIP)
  else d

/-- A write of LAMP_GCLEAR (R768, R786). -/
def Dev.lampGclear (d : Dev) (value : Word) : Dev :=
  if wGet value 16 8 ≠ 0x5A then d.ignoreWrite
  else
    let named := (List.range 16).filter fun g => (wGet value 0 16).testBit g
    let d := if named.any fun g => d.groupClr g != 0 then d.ignoreWrite else d
    (named.filter fun g => d.groupClr g == 0).foldl (fun d g => d.clearGroup g 0) d

/-- LAMP_GCLEAR (R768). -/
def execLampGclear (value : Word) (s : State) : Host.Outcome State Fault Refusal := s.run fun d => d.lampGclear value

/-- A W1C write of LAMP_FLT[w] (R781). -/
def Dev.lampFaultClear (d : Dev) (w : Nat) (value : Word) : Dev :=
  (List.range 24).foldl (fun d b =>
    let n := 24 * w + b
    if value.toNat.testBit b ∧ n < 528 then
      if d.lampTripped n then d.bump LAMP_CNT_REFUSED
      else if (d.lampAt n).fault = 0 then d
      else d.setLamp n { (d.lampAt n) with fault := 0, openRun := 0, shortRun := 0, hotRun := 0, chanRun := 0 }
    else d) d

/-- LAMP_FAULT_CLEAR (R781). -/
def execLampFaultClear (w : BitVec 5) (value : Word) (s : State) : Host.Outcome State Fault Refusal :=
  s.run fun d => d.lampFaultClear w.toNat value

/-! Faults (R779). -/

/-- A lamp declared faulted, without the trip of its group. -/
def Dev.markFault (d : Dev) (n kind : Nat) (w2 : Word) : Dev :=
  let d := d.dropLampCmd n false
  let d := d.setLamp n { d.lampAt n with fault := kind, out := 0 }
  (d.bump LAMP_CNT_FAULTS).ring 73 (pack [(kind, 20), (n, 0)]) w2

/-- A lamp found faulted trips its group when that is interlocked (R766, R779). -/
def Dev.lampFault (d : Dev) (n kind : Nat) (w2 : Word) : Dev :=
  if (d.lampAt n).fault = 0 then
    let d := d.markFault n kind w2
    (match d.groupOf n with
      | some g => d.tripGroup g 1 n
      | none => d).sweepCmds
  else d

/-! Sinks and the tapped string (R749 to R755). -/

/-- The output of sink k is lit: its lamp, or on a tapped string any tap lamp (R752). -/
def Dev.sinkLit (d : Dev) (k : Nat) : Bool :=
  if k = 7 ∧ d.tapped = true then (List.range 8).any fun t => d.lampPresent (8 + t) && (d.lampAt (8 + t)).lit
  else (d.lampAt k).lit

/-- The sink is on for at least 20 µs of the period (R750); the string of a tapped sink is on throughout (R752). -/
def Dev.sinkMeasured (d : Dev) (k : Nat) : Bool :=
  d.sinkLit k && (decide (k = 7 ∧ d.tapped = true) || decide (960 ≤ onCycles (d.lampAt k)))

def Dev.sink (d : Dev) (k : Nat) : Sink := d.lamp.sinks.getD k {}
def Dev.setSink (d : Dev) (k : Nat) (v : Sink) : Dev := { d with lamp := { d.lamp with sinks := d.lamp.sinks.set k v } }

/-- The capped demand of a starved sink, in 10 mV (R751). -/
def Dev.cappedDemand (d : Dev) (k : Nat) : Nat :=
  let top := d.par secRails 0x06
  match (d.sink k).string with
  | some v => min top (v + 200)
  | none =>
    let vs := d.par secLamps 0x02 k
    if vs = 0 then top else min top (vs + 200)

/-- What a sink contributes to the demand, in 10 mV (R751). -/
def Dev.sinkDemand (d : Dev) (k : Nat) : Option Nat :=
  if d.sinkLit k then if (d.sink k).starved then some (d.cappedDemand k) else (d.sink k).string else none

/-- The demand of the lamps: the highest string voltage that contributes (R712, R751). -/
def Dev.lampDemand (d : Dev) : Option Nat :=
  (List.range 8).foldl (fun best k =>
    match d.sinkDemand k, best with
    | none, b => b
    | some v, none => some v
    | some v, some b => some (max v b)) none

/-- The measurement of one sink in a period (R750, R772): headroom, starved, and the string voltage while not starved. -/
def Dev.measureSink (d : Dev) (k vhv head : Nat) (starved : Bool) : Dev :=
  if d.sinkMeasured k then
    let s := d.sink k
    d.setSink k { s with
      head := head, starved := starved, string := if starved then s.string else some (vhv - head),
      reported := s.reported && decide (head < 60) && !starved }
  else if d.sinkLit k then d else d.setSink k { d.sink k with starved := false, reported := false }

/-- The fault checks of one measured plain sink (R779). -/
def Dev.checkSink (d : Dev) (k vhv : Nat) : Dev :=
  if d.sinkMeasured k && !(decide (k = 7) && d.tapped) then
    let s := d.sink k
    let l := d.lampAt k
    let vs := d.par secLamps 0x02 k
    let open_ := if s.starved ∧ d.cappedDemand k ≤ vhv then l.openRun + 1 else 0
    let short := if vs ≠ 0 ∧ vhv - s.head + d.par secLamps 0x09 < vs then l.shortRun + 1 else 0
    let hot := if 60000 < s.head * d.par secLamps 0x01 k then l.hotRun + 1 else 0
    let d := d.setLamp k { l with openRun := open_, shortRun := short, hotRun := hot }
    if 8 ≤ open_ then d.lampFault k 1 (word s.head)
    else if 8 ≤ short then d.lampFault k 2 (word (vhv - s.head))
    else if 39 ≤ hot then d.lampFault k 3 (word s.head)
    else d
  else d

/-- The forward voltage of one lit tap lamp, and its short check (R755, R779). -/
def Dev.checkTap (d : Dev) (k vf : Nat) : Dev :=
  let n := 8 + k
  if d.tapped && d.lampPresent n && (d.lampAt n).lit then
    let d := d.setFld (LAMP_TAPV_VF k) vf
    if d.lampChecks then
      let l := d.lampAt n
      let short := if vf < 50 ∧ (d.sink 7).starved = false then l.shortRun + 1 else 0
      let d := d.setLamp n { l with shortRun := short }
      if 8 ≤ short then d.lampFault n 2 (word vf) else d
    else d
  else d

/-- PWM_PERIOD (R749, R750, R753, R763): new levels reach the on-chip lamps, the sinks and taps are measured, and the
faults of on-chip lamps are judged while the rail regulates (R778). -/
def Dev.pwmPeriod (d : Dev) (vhv : Nat) (head : List Nat) (starved : Nat) (forward : List Nat) : Dev :=
  let d := d.mapLamps fun n l => if n < 16 then { l with out := if l.fault = 0 then l.level else 0 } else l
  let d := { d with lamp := { d.lamp with clampPrev := if d.lampChecks then d.lamp.clampNow else [], clampNow := [] } }
  let d := (List.range 8).foldl (fun d k => d.measureSink k vhv (head.getD k 0) (starved.testBit k)) d
  let d := if d.lampChecks then (List.range 8).foldl (fun d k => d.checkSink k vhv) d else d
  (List.range 8).foldl (fun d k => d.checkTap k (forward.getD k 0)) d

/-- PWM_PERIOD (R749). -/
def execPwmPeriod (vhv : BitVec 13) (head : List (BitVec 13)) (starved : BitVec 8) (forward : List (BitVec 13))
    (s : State) : Host.Outcome State Fault Refusal :=
  s.run fun d => d.pwmPeriod vhv.toNat (head.map BitVec.toNat) starved.toNat (forward.map BitVec.toNat)

/-- BYPASS_CLAMP (R754): recorded; a lit tap lamp that clamps in two consecutive periods is open (R779). -/
def Dev.bypassClamp (d : Dev) (k : Nat) : Dev :=
  let n := 8 + k
  if d.tapped && d.lampPresent n && (d.lampAt n).lit && !d.lamp.clampNow.contains k then
    let d := { d with lamp := { d.lamp with clampNow := k :: d.lamp.clampNow } }
    if d.lamp.clampPrev.contains k ∧ d.lampChecks then d.lampFault n 1 (word (d.fld (LAMP_TAPV_VF k))) else d
  else d

/-- BYPASS_CLAMP (R754). -/
def execBypassClamp (k : BitVec 3) (s : State) : Host.Outcome State Fault Refusal := s.run fun d => d.bypassClamp k.toNat

/-- LAMP_HEADROOM (R772): a lit, unstarved sink has read below 0.6 V for 100 ms; raised once for the episode. -/
def Dev.lampHeadroom (d : Dev) (k : Nat) : Dev :=
  let s := d.sink k
  if d.sinkLit k && !s.starved && decide (s.head < 60) && !s.reported then
    (d.setSink k { s with reported := true }).ring 76 (word k) (word s.head)
  else d

/-- LAMP_HEADROOM (R772). -/
def execLampHeadroom (sink : BitVec 3) (s : State) : Host.Outcome State Fault Refusal :=
  s.run fun d => d.lampHeadroom sink.toNat

/-! The external chain (R756 to R760, R780). -/

/-- The shift time S in nanosecond-free form: 16 × NDRV / LDSCK in 48 MHz cycles times LDSCK. T_LSB is the largest
number T of cycles for which the 12 slots of max(2^b T, S) + 12 cycles and the reserved 2 S fit in 200,000 cycles
(R758). -/
def tlsbFits (ndrv sck t : Nat) : Bool :=
  let s := 16 * ndrv * 48000
  decide (((List.range 12).map fun b => max (2 ^ b * t * sck) s).sum + 144 * sck + 2 * s ≤ 200000 * sck)

/-- LAMP_TLSB (R758): T_LSB in units of 20.83 ns; 0 without a chain. -/
def Dev.tlsb (d : Dev) : Nat :=
  if d.ndrv = 0 then 0
  else (List.range 64).foldl (fun best t => if tlsbFits d.ndrv (d.par secLamps 0x06) t then t else best) 0

/-- The external lamps that the image fits. -/
def Dev.externalLamps (d : Dev) : List Nat := (List.range (16 * d.ndrv)).map (· + 16)

/-- The chain refreshes: drivers are fitted, the first check has been made at step 7 or later, and the chain is not
blanked (R771, R780, R782). -/
def Dev.chainRuns (d : Dev) : Bool :=
  decide (0 < d.ndrv) && decide (7 ≤ d.pwr.step) && d.lamp.checked && d.mode != modeSafe && d.mode != modeHibernate &&
    !d.lamp.blanked

/-- The bits that go out on LDSDO for bit plane b: the first is channel 15 of the last driver, the last is channel 0 of
driver 0 (R757). -/
def Dev.planeBits (d : Dev) (b : Nat) : List Bool := d.externalLamps.reverse.map fun n => (chanCode (d.lampAt n)).testBit b

/-- The bits that a chain check shifts: 0xA5C3 repeated, over twice the length of the chain, most significant bit first
(R760; the order is DEDUCED from R757, log entry 53). -/
def Dev.checkBits (d : Dev) : List Bool :=
  (List.range (2 * d.ndrv)).flatMap fun _ => (List.range 16).map fun i => Nat.testBit 0xA5C3 (15 - i)

/-- The check of one external channel in the refresh that detects plane p (R759, R779). -/
def Dev.checkChannel (d : Dev) (p : Nat) (errors : List Nat) (n : Nat) : Dev :=
  let l := d.lampAt n
  if l.lit && (chanCode l).testBit p then
    if errors.contains n then
      let d := (d.bump LAMP_CHAINST_CHANERR).setLamp n { l with chanRun := l.chanRun + 1 }
      if 2 ≤ l.chanRun + 1 then d.lampFault n 4 0 else d
    else d.setLamp n { l with chanRun := 0 }
  else d

/-- REFRESH_PERIOD (R758, R759, R763): new levels reach the external channels, and the error flags of one plane's detect
latch are judged. -/
def Dev.refreshPeriod (d : Dev) (errors : List Nat) : Dev :=
  if d.chainRuns then
    let d := d.mapLamps fun n l => if n < 16 then l else { l with out := if l.fault = 0 then l.level else 0 }
    let p := d.lamp.plane
    let d := { d with lamp := { d.lamp with plane := if p ≤ 8 then 11 else p - 1 } }
    if d.lampChecks then (d.lamp.lamps.map Prod.fst |>.filter fun n => decide (16 ≤ n) && d.lampPresent n).foldl
      (fun d n => d.checkChannel p errors n) d else d
  else d

/-- REFRESH_PERIOD (R758). -/
def execRefreshPeriod (errors : List (BitVec 10)) (s : State) : Host.Outcome State Fault Refusal :=
  s.run fun d => d.refreshPeriod (errors.map BitVec.toNat)

/-- LAMP_CHAINST as read: NDRV of the image and the two error counts (R786). -/
def Dev.chainStat (d : Dev) : Word := wSet (d.reg LAMP_CHAINST) 16 6 d.ndrv

/-- Two failed checks break the chain: LDBLK high, every external lamp faulted with kind 5, the interlocked groups that
hold one tripped with cause 3 (R780). -/
def Dev.chainBreak (d : Dev) : Dev :=
  let d := { d with lamp := { d.lamp with blanked := true } }
  let ext := d.externalLamps
  let d := ext.foldl (fun d n => d.markFault n 5 0) d
  let d := (List.range 16).foldl (fun d g =>
    if (d.groupLamps g).any fun n => decide (16 ≤ n) then d.tripGroup g 3 0x3FF else d) d.sweepCmds
  d.ring 77 0 d.chainStat

/-- The chain is intact again: kind 5 leaves the external lamps of no tripped group, which return at level 0 (R780). -/
def Dev.chainHeal (d : Dev) : Dev :=
  let d := { d with lamp := { d.lamp with blanked := false } }
  let d := d.externalLamps.foldl (fun d n =>
    if (d.lampAt n).fault = 5 ∧ d.lampTripped n = false then
      let d := d.lampOff n
      d.setLamp n { (d.lampAt n) with fault := 0, chanRun := 0 }
    else d) d
  let d := d.sweepCmds
  d.ring 77 1 d.chainStat

/-- CHAIN_CHECK (R760, R780). -/
def Dev.chainCheck (d : Dev) (matched : Bool) : Dev :=
  if d.ndrv = 0 ∨ d.pwr.step < 7 ∨ d.mode = modeSafe ∨ d.mode = modeHibernate then d
  else
    let d := (d.setFlag LAMP_STAT_CHAIN_OK matched)
    let d := { d with lamp := { d.lamp with checked := true } }
    if matched then
      let d := { d with lamp := { d.lamp with chainFails := 0 } }
      if d.lamp.blanked then d.chainHeal else d
    else
      let d := d.bump LAMP_CHAINST_CHAINERR
      let d := { d with lamp := { d.lamp with chainFails := d.lamp.chainFails + 1 } }
      if 2 ≤ d.lamp.chainFails ∧ d.lamp.blanked = false then d.chainBreak else d

/-- CHAIN_CHECK (R760). -/
def execChainCheck (matched : Bool) (s : State) : Host.Outcome State Fault Refusal := s.run fun d => d.chainCheck matched

/-! Modes, resets and the console. -/

/-- Every lamp off, its fade ended without an event (R75, R166, R184, R771). -/
def Dev.lampsOff (d : Dev) : Dev :=
  let d := d.mapLamps fun _ l => { l with level := 0, out := 0, cmd := none }
  { d with lamp := { d.lamp with cmds := [], watchLevels := [] } }

/-- Entry into WATCH (R165): the lamps go off and their levels wait for the exit; with WATCH_LAMPS they hold their
present state, and no fade runs. -/
def Dev.lampsWatch (d : Dev) : Dev :=
  let held := d.lamp.lamps.map fun p => (p.1, { p.2 with cmd := none })
  if d.par secModes 0x0C = 1 then { d with lamp := { d.lamp with lamps := held, cmds := [], watchLevels := [] } }
  else { d.lampsOff with lamp := { d.lampsOff.lamp with watchLevels := held } }

/-- Leaving WATCH: each lamp that R165 turned off returns to its level, with no fade (R770). -/
def Dev.lampsFromWatch (d : Dev) : Dev :=
  let d := d.lamp.watchLevels.foldl (fun d p =>
    if (d.lampAt p.1).fault = 0 ∧
      d.lampTripped p.1 = false then d.setLamp p.1 { d.lampAt p.1 with level := p.2.level } else d) d
  { d with lamp := { d.lamp with watchLevels := [] } }

/-- Start-up raises LAMP_GROUP_TRIP with cause 0 once for each group kept tripped (R782). -/
def Dev.lampsStartup (d : Dev) : Dev :=
  (List.range 16).foldl (fun d g =>
    if d.tripped g then d.ring 74 (pack [(g, 16), (0x3FF, 0)]) (d.reg LAMP_TRIP) else d) d

/-- The state of a lamp as LAMP_LSTAT shows it (R786). -/
def Dev.lampState (d : Dev) (n : Nat) : Nat :=
  let l := d.lampAt n
  if !d.lampPresent n then 0
  else if d.lampTripped n then 5
  else if l.fault ≠ 0 then 4
  else if l.cmd.isSome then 3
  else if l.level ≠ 0 then 2
  else 1

/-- LAMP_LSTAT of lamp n (R786). -/
def Dev.lampStatWord (d : Dev) (n : Nat) : Word :=
  if d.lampPresent n then
    pack [(d.lampState n, 21), ((d.lampAt n).fault, 17), (bit (d.groupOf n).isSome, 16), ((d.groupOf n).getD 0, 12),
      ((d.lampAt n).level, 0)]
  else 0

/-- LAMP_N: prints LAMP_LSTAT of lamp n, with headroom or forward voltage where the lamp has one; an absent lamp is
refused (R746, R786). -/
def Dev.consoleLampN (d : Dev) (n : Nat) : Dev :=
  if d.lampPresent n then
    let extra := if n < 8 then [word (d.sink n).head] else if n < 16 then [d.reg (LAMP_TAPV (n - 8))] else []
    (d.print (.values 0x20 (d.lampStatWord n :: extra))).finishOk
  else d.finishErr 5

/-- LAMP_N (R746). -/
def execLampN (n : BitVec 10) (s : State) : Host.Outcome State Fault Refusal :=
  s.run fun d => d.command (.lampN n) fun d => d.consoleLampN n.toNat

/-- LAMP_SET: a lamp command from the console, in SERVICE as well (R771), in WATCH with the fade as 0 (R770); refused where a
command is, with E08, or E05 for an absent lamp (DESIGN CHOICE, log entry 31). -/
def Dev.consoleLampSet (d : Dev) (n level ms : Nat) : Dev :=
  if !d.fullSet then d.finishErr 6
  else if !d.lampRuns true then d.finishErr 8
  else if d.commandRefused false n then (d.bump LAMP_CNT_REFUSED).finishErr (if d.lampPresent n then 8 else 5)
  else (d.lampPerform false n level (if d.mode == modeWatch then 0 else ms) 0 false).finishOk

/-- LAMP_SET (R771). -/
def execLampSet (n : BitVec 10) (level : BitVec 12) (ms : BitVec 14) (s : State) : Host.Outcome State Fault Refusal :=
  s.run fun d => d.command (.lampSet n level ms) fun d => d.consoleLampSet n.toNat level.toNat ms.toNat

/-- LAMP_CLEAR: clears group g where its CLR is 0 or 1 (R768); a group of another CLR ends in E08 (DESIGN CHOICE, log
entry 31). -/
def Dev.consoleLampClear (d : Dev) (g : Nat) : Dev :=
  if 1 < d.groupClr g then d.finishErr 8 else (d.clearGroup g 1).finishOk

/-- LAMP_CLEAR (R768). -/
def execLampClear (g : BitVec 4) (s : State) : Host.Outcome State Fault Refusal :=
  s.run fun d => d.command (.lampClear g) fun d => d.consoleLampClear g.toNat

end Sys2Proof.Machine
end

