-- ==== Sys2Proof/Machine/Schedule.lean ====
section
/-!
DEFINITION. Schedule.lean: electrode roles, channels, the frame schedule, and where the frame in progress stands in it
(07_touch_front_end.md, R202 to R206, R213 to R217, R223 to R226, R237, R238).
-/

namespace Sys2Proof.Machine

/-! Roles and channels (R202, R206, R217). -/

/-- The role of an electrode: 0 GND, 1 TX, 2 RX, 3 SHIELD, 4 FLOAT (R243). -/
def Dev.elRole (d : Dev) (e : Nat) : Nat := wGet (d.cfgWord secScan 0x01 e) 0 4
/-- Its TX order, or its logical channel. -/
def Dev.elIndex (d : Dev) (e : Nat) : Nat := wGet (d.cfgWord secScan 0x01 e) 8 8

def Dev.electrodes (d : Dev) (role : Nat) : List Nat := (List.range 160).filter fun e => d.elRole e == role
def Dev.ntx (d : Dev) : Nat := (d.electrodes 1).length
def Dev.nrx (d : Dev) : Nat := (d.electrodes 2).length
/-- G, the number of TX groups (R217). -/
def Dev.groups (d : Dev) : Nat := (d.ntx + 15) / 16
/-- The sensor exists (R230). -/
def Dev.hasSensor (d : Dev) : Bool := d.ntx != 0 && d.nrx != 0

/-- The TX electrode of an order, and the RX electrode of a logical channel. -/
def Dev.txEl (d : Dev) (t : Nat) : Option Nat := (d.electrodes 1).find? fun e => d.elIndex e == t
def Dev.rxEl (d : Dev) (c : Nat) : Option Nat := (d.electrodes 2).find? fun e => d.elIndex e == c

/-- TX and RX electrodes in ascending number: the order of the self-capacitance passes (R224). -/
def Dev.sensed (d : Dev) : List Nat := (List.range 160).filter fun e => d.elRole e == 1 || d.elRole e == 2

/-- A faulted electrode (R237), and a logical channel without a working physical channel (R238). -/
def Dev.elFaulted (d : Dev) (e : Nat) : Bool := (d.fld (SCAN_ELFAULT_EL (e / 24))).testBit (e % 24)
def Dev.chanFailed (d : Dev) (c : Nat) : Bool := d.flag (SCAN_CHMAP_FAILED c)
def Dev.setElFault (d : Dev) (e : Nat) (b : Bool) : Dev :=
  let f := SCAN_ELFAULT_EL (e / 24)
  d.setFlag ⟨f.addr, e % 24, 1⟩ b

/-! The schedule (R213, R223 to R226). -/

def Dev.hdiv (d : Dev) (k : Nat) : Nat := d.par secScan 0x02 k
def Dev.slotEnabled (d : Dev) (k : Nat) : Bool := (d.par secScan 0x03).testBit k
/-- Usable for the mutual scan: enabled and allowed in this frame (R214). -/
def Dev.slotUsable (d : Dev) (k : Nat) : Bool := d.slotEnabled k && (d.fld SCAN_FALLOW_MASK).testBit k
def Dev.hdivMax (d : Dev) : Nat := (List.range 8).foldl (fun m k => if d.slotEnabled k then max m (d.hdiv k) else m) 0

/-- L, M and SELF_SLOT in cycles of 48 MHz (R223, R244). -/
def Dev.listenCyc (d : Dev) : Nat := 8 * d.par secScan 0x05 * 48
def Dev.mutualCyc (d : Dev) : Nat := d.groups * 16 * d.par secScan 0x04 * 2 * d.hdivMax
def Dev.selfCyc (d : Dev) : Nat := d.par secScan 0x08 * 48
/-- The passes, and the cycles they need (R223, R226). -/
def Dev.passes (d : Dev) : Nat := (d.ntx + d.nrx + 63) / 64
def Dev.selfNeed (d : Dev) : Nat := d.passes * (384 + d.par secScan 0x07 * 2 * d.par secScan 0x06)

/-- The frame rate in force: IDLE_RATE in IDLE, WATCH_RATE in WATCH, else FRAME_RATE (R162, R225). -/
def Dev.frameRate (d : Dev) : Nat :=
  if d.mode = modeIdle then d.par secModes 0x04
  else if d.mode = modeWatch then d.par secModes 0x05
  else d.par secScan 0x0A

/-- P_F in units of 2^-24 s (R225). -/
def framePeriod (rate : Nat) : Nat := if rate = 0 then 0 else (2 * 16777216 + rate) / (2 * rate)

/-- A schedule of so many cycles of 48 MHz fits the frame period P_F of a rate (R225, R226). -/
def rateFits (cycles rate : Nat) : Bool := decide (cycles * 16777216 ≤ framePeriod rate * 48000000)

/-- The highest whole rate whose period holds the schedule with a minimum gap in µs (R226): the whole quotient, or the rate
beside it that the rounding of P_F makes the highest. -/
def Dev.rateLimit (d : Dev) (gapUs : Nat) : Nat :=
  let cycles := d.listenCyc + d.mutualCyc + d.selfCyc + gapUs * 48
  let r := 48000000 / cycles
  if rateFits cycles (r + 1) then r + 1 else if rateFits cycles r then r else r - 1

/-! The phase of the frame in progress (R27, R223). -/

/-- Ticks of 32,768 Hz as cycles of 48 MHz. -/
def tickCycles (n : Nat) : Nat := n * 46875 / 32

/-- The cycles of 48 MHz from the start of a frame to the present tick: the model's clock is the tick, so a phase boundary is
met at the first tick at or after it (DESIGN CHOICE, log entry 36). -/
def Dev.cyclesInto (d : Dev) (start : Nat) : Nat := tickCycles (d.ticks - start)

/-- PHASE of a frame so many cycles after its start: 1 listen slot, 2 mutual scan, 3 self-capacitance scan (R223, R244). -/
def Dev.phaseAt (d : Dev) (cycles : Nat) : Nat :=
  if cycles < d.listenCyc then 1
  else if cycles < d.listenCyc + d.mutualCyc then 2
  else 3

/-- PHASE of SCAN_STAT: that of the frame being scanned, else as the front end last left it (R244). -/
def Dev.scanPhase (d : Dev) : Nat :=
  match d.scan.cur with
  | some f => d.phaseAt (d.cyclesInto f.tick)
  | none => d.fld SCAN_STAT_PHASE

end Sys2Proof.Machine
end

