-- ==== Sys2Proof/Machine/Rail.lean ====
section
/-!
DEFINITION. Rail.lean: the VLED and VTX rails (19_rails.md): commands, targets and references, soft start, shorts, the
adaptive VLED target, VTX faults, and what the modes do to the rails. Voltages inside are in mV; registers and operands
are in 10 mV.
-/

namespace Sys2Proof.Machine

def Dev.boostFitted (d : Dev) : Bool := d.par secRails 0x01 == 1

/-- A field of the rail state changed. -/
def Dev.setRail (d : Dev) (r : Rails) : Dev := { d with rail := r }

/-- The boost regulates: VLEDST 2, 3 or 4. -/
def Dev.boostRuns (d : Dev) : Bool := [2, 3, 4].contains (d.fld RAIL_STAT_VLEDST)

/-- Rail commands act in IDLE and ACTIVE, and from the console in SERVICE; elsewhere a command sets the target that
applies when the rail is commanded again (R724, R731). -/
def Dev.railActs (d : Dev) (console : Bool) : Bool :=
  d.rail.on && (d.mode == modeIdle || d.mode == modeActive || (d.mode == modeService && console))

/-- A measured output within 2 % of a value (R719). -/
def near2 (measured v : Nat) : Bool := decide ((measured - v + (v - measured)) * 50 ≤ v)

/-- The marks that VTX has had since they were last noted hold for the mutual scan of the frame in progress, when that time, up
to so many cycles into the frame, falls into it (R223, R235). -/
def Dev.foldVtx (d : Dev) (upTo : Nat) : Dev :=
  let s := d.scan
  match s.cur with
  | none => d
  | some f =>
    if tickCycles (s.vtxSince - f.tick) < d.listenCyc + d.mutualCyc ∧ d.listenCyc < upTo then
      { d with scan := { s with
        pump := s.pump || s.vtxPump, slewing := s.slewing || s.vtxSlewing, nodrive := s.nodrive || s.vtxLow } }
    else d

/-- The marks of VTX as it stands: on the pump, slewing, below 4 V (R227). -/
def Dev.markVtx (d : Dev) : Dev :=
  { d with scan := { d.scan with
    vtxSince := d.ticks, vtxPump := d.fld RAIL_STAT_VTXSRC == 2, vtxSlewing := d.rail.vtxRef != d.rail.vtxTgt
    vtxLow := decide (d.rail.vtx < 4000) } }

/-- VTX may have changed: what it has been so far is noted for the frame in progress, and its marks are taken anew (R235). -/
def Dev.noteVtx (d : Dev) : Dev :=
  match d.scan.cur with
  | none => d.markVtx
  | some f => (d.foldVtx (tickCycles (d.ticks + 1 - f.tick))).markVtx

/-! Commands and targets. -/

/-- A command in progress on VLED or VTX is superseded: it counts once and raises no RAIL_DONE (R720). -/
def Dev.supersedeVled (d : Dev) : Dev :=
  match d.rail.vledCmd with
  | none => d
  | some _ => (d.setRail { d.rail with vledCmd := none }).bump RAIL_SUPERSEDED_VLED

def Dev.supersedeVtx (d : Dev) : Dev :=
  match d.rail.vtxCmd with
  | none => d
  | some _ => (d.setRail { d.rail with vtxCmd := none }).bump RAIL_SUPERSEDED_VTX

/-- RAIL_DONE with the tag of a completed command (R719, R743). -/
def Dev.railDone (d : Dev) (vtx : Bool) (tag : Nat) : Dev :=
  if vtx then
    ((d.setRail { d.rail with vtxCmd := none }).setFld RAIL_LASTTAG_VTX tag).ring 64
      (pack [(1, 23), (tag, 0)]) (word (d.rail.vtxTgt / 10))
  else
    ((d.setRail { d.rail with vledCmd := none }).setFld RAIL_LASTTAG_VLED tag).ring 64 (word tag) (word (d.rail.vledTgt / 10))

/-- A new VLED target, in mV: during a soft start it becomes the target at the end of the ramp (R722). -/
def Dev.setVledTgt (d : Dev) (mv : Nat) : Dev :=
  if d.rail.vledSoft.isSome then d.setRail { d.rail with vledNext := some mv }
  else d.setRail { d.rail with vledTgt := mv }

def Dev.setVtxTgt (d : Dev) (mv : Nat) : Dev := d.setRail { d.rail with vtxTgt := mv, vtxSoft := none }

/-- The VLED target that stands once a ramp in progress has ended. -/
def Dev.vledGoal (d : Dev) : Nat := d.rail.vledNext.getD d.rail.vledTgt

/-- The computed target of adaptive mode, in mV (R713). -/
def Dev.computedVled (d : Dev) : Nat :=
  min (d.par secRails 0x06 * 10)
    (max (d.fld RAIL_DEMAND_V * 10) (max (d.rail.vtxTgt + 2000) (d.par secRails 0x05 * 10)))

/-- The adaptive rule: raised at once, lowered only by at least ADAPT_HYST (R713). -/
def Dev.adaptiveVled (d : Dev) : Nat :=
  let c := d.computedVled
  if d.vledGoal < c ∨ c + d.par secRails 0x0A * 10 ≤ d.vledGoal then c else d.vledGoal

/-- The adaptive loop runs: adaptive mode in IDLE or ACTIVE with the boost fitted (R714, R724). -/
def Dev.adapts (d : Dev) : Bool :=
  d.rail.on && d.boostFitted && !d.flag RAIL_STAT_FIXED && (d.mode == modeIdle || d.mode == modeActive || d.mode == modeStart)

/-- An adaptive retarget; it supersedes a command in progress and is not one itself (R721). -/
def Dev.retargetVled (d : Dev) : Dev :=
  if d.adapts && d.adaptiveVled != d.vledGoal then d.supersedeVled.setVledTgt d.adaptiveVled else d

/-- VLED follows a VTX target that leaves it less than 2 V, in adaptive mode and in the same update; where the adaptive
loop runs it is judged in full (R713, R728). -/
def Dev.followVtx (d : Dev) : Dev :=
  if d.adapts then d.retargetVled
  else if d.boostFitted && !d.flag RAIL_STAT_FIXED && decide (d.vledGoal < d.rail.vtxTgt + 2000) then
    d.supersedeVled.setVledTgt d.computedVled
  else d

/-- RAIL_CLAMP for a changed value, counted (R715, R726). -/
def Dev.railClamp (d : Dev) (vtx : Bool) (asked applied : Nat) : Dev :=
  if asked = applied then d
  else (d.bump RAIL_CNT_CLAMPS).ring 70 (pack [(bit vtx, 23), (asked, 0)]) (word applied)

/-- The value of a VTX command after its clamps: to 6.00–20.00 V, and in fixed mode to the fixed VLED target less 2 V
(R715, R726). -/
def Dev.clampVtx (d : Dev) (v : Nat) : Nat × Dev :=
  let a := max 600 (min v 2000)
  let d := d.railClamp true v a
  let b := if d.flag RAIL_STAT_FIXED then min a (d.rail.vledFixed / 10 - 200) else a
  (b, d.railClamp true a b)

/-- A VTX command of v × 10 mV (R718 to R720, R728). -/
def Dev.vtxSet (d : Dev) (v tag : Nat) (console : Bool) : Dev :=
  let (v, d) := d.clampVtx v
  let mv := v * 10
  let d := d.setRail { d.rail with vtxWant := mv }
  if d.railActs console then
    let settled := decide (d.rail.vtxTgt = mv ∧ d.rail.vtxRef = mv) && d.rail.vtxCmd.isNone && near2 d.rail.vtx mv
    if settled then d.railDone true tag
    else
      let d := (d.supersedeVtx.setVtxTgt mv).noteVtx
      (d.setRail { d.rail with vtxCmd := some tag }).followVtx
  else d

/-- A VLED command to a target in mV, in either VLED mode. -/
def Dev.vledGo (d : Dev) (mv tag : Nat) : Dev :=
  let settled := decide (d.rail.vledTgt = mv ∧ d.rail.vledRef = mv) && d.rail.vledCmd.isNone && d.rail.vledSoft.isNone &&
    near2 d.rail.vhv mv
  if settled then d.railDone false tag
  else
    let d := d.supersedeVled.setVledTgt mv
    d.setRail { d.rail with vledCmd := some tag }

/-- RAIL_VLEDCMD with FIXED = 1 (R714, R715, R726); a command that does not act yet is judged by the VTX target that will stand
then. -/
def Dev.vledFix (d : Dev) (v tag : Nat) (console : Bool) : Dev :=
  let a := max 800 (min v 4800)
  let d := d.railClamp false v a
  let vtx := if d.railActs console then d.rail.vtxTgt else d.rail.vtxWant
  let b := max a (vtx / 10 + 200)
  let d := (d.railClamp false a b).setFlag RAIL_STAT_FIXED true
  let d := d.setRail { d.rail with vledFixed := b * 10 }
  if d.railActs console && d.boostFitted then d.vledGo (b * 10) tag else d

/-- RAIL_VLEDCMD with FIXED = 0: adaptive mode at once, as a command with its tag (R714, R718). -/
def Dev.vledAuto (d : Dev) (tag : Nat) (console : Bool) : Dev :=
  let d := d.setFlag RAIL_STAT_FIXED false
  if d.railActs console && d.boostFitted then d.vledGo d.adaptiveVled tag else d

/-- VTX_COMMAND (R720). -/
def execVtxCommand (value : Word) (s : State) : Host.Outcome State Fault Refusal :=
  s.run fun d => d.vtxSet (wGet value 0 11) (wGet value 16 8) false

/-- VLED_FIXED (R714). -/
def execVledFixed (value : Word) (s : State) : Host.Outcome State Fault Refusal :=
  s.run fun d => d.vledFix (wGet value 0 13) (wGet value 16 8) false

/-- VLED_ADAPTIVE (R714). -/
def execVledAdaptive (value : Word) (s : State) : Host.Outcome State Fault Refusal :=
  s.run fun d => d.vledAuto (wGet value 16 8) false

/-- RAIL_DONE (R719): the reference has reached its target and the output has stayed within 2 % of it. -/
def Dev.railSettled (d : Dev) (vtx : Bool) : Dev :=
  let r := d.rail
  if vtx then
    match r.vtxCmd with
    | some tag => if r.vtxRef = r.vtxTgt ∧ near2 r.vtx r.vtxTgt = true then d.railDone true tag else d
    | none => d
  else
    match r.vledCmd with
    | some tag => if r.vledRef = r.vledTgt ∧ r.vledSoft = none ∧ near2 r.vhv r.vledTgt = true then d.railDone false tag else d
    | none => d

/-- RAIL_DONE (R719). -/
def execRailDone (vtx : Bool) (s : State) : Host.Outcome State Fault Refusal := s.run fun d => d.railSettled vtx

/-! The slew controller. -/

/-- One 10 µs update of a reference that follows SLEW, in mV; while it falls it stays within 0.5 V below the measured
output (R716, R717). -/
def slewRef (ref tgt step measured : Nat) : Nat :=
  if ref < tgt then min tgt (ref + step)
  else if tgt < ref then min ref (max (max tgt (ref - step)) (measured - 500))
  else ref

/-- A soft-start ramp after k of n updates (R722). -/
def rampRef (start tgt k n : Nat) : Nat := ((start : Int) + Int.tdiv (((tgt : Int) - start) * k) n).toNat

/-- The references after one update. -/
def Dev.moveRefs (d : Dev) : Dev :=
  let r := d.rail
  let step := d.par secRails 0x07
  let n := 100 * d.par secRails 0x08
  let r := match r.vledSoft with
    | some (v0, k) => { r with vledRef := rampRef v0 r.vledTgt (min (k + 1) n) n, vledSoft := some (v0, min (k + 1) n) }
    | none => if d.boostRuns then { r with vledRef := slewRef r.vledRef r.vledTgt step r.vhv } else r
  let r := match r.vtxSoft with
    | some (v0, k) =>
      if n ≤ k + 1 then { r with vtxRef := r.vtxTgt, vtxSoft := none }
      else { r with vtxRef := rampRef v0 r.vtxTgt (k + 1) n, vtxSoft := some (v0, k + 1) }
    | none => { r with vtxRef := slewRef r.vtxRef r.vtxTgt step r.vtx }
  d.setRail r

/-- VLEDST of a regulating boost: passthrough, slewing or regulating (R708). -/
def Dev.vledState (d : Dev) (pass : Bool) : Dev :=
  if d.boostRuns then
    d.setFld RAIL_STAT_VLEDST (if pass then 4 else if d.rail.vledRef ≠ d.rail.vledTgt then 3 else 2)
  else d

/-- The overvoltage hold ends when VHV falls below the target (R739). -/
def Dev.overvoltEnd (d : Dev) : Dev :=
  if d.rail.gateLow && decide (d.rail.vhv < d.rail.vledTgt) then
    (d.setRail { d.rail with gateLow := false, disOpen := false }).setFlag RAIL_STAT_OVERVOLT false
  else d

/-- REFERENCE_UPDATE (R709, R716, R740): the outputs are measured, and each reference moves toward its target. -/
def Dev.referenceUpdate (d : Dev) (vhv vtx : Nat) (pass : Bool) : Dev :=
  let d := d.setRail { d.rail with vhv := vhv * 10, vtx := vtx * 10 }
  if d.rail.on then
    let d := (d.moveRefs.vledState pass).overvoltEnd
    let d := d.setFlag RAIL_STAT_VTXCLAMP (d.fld RAIL_STAT_VTXSRC == 1 && decide (d.rail.vhv < d.rail.vtxRef + 2000))
    let d := if d.flag RAIL_STAT_VTXFAULT ∧ d.rail.vtxRef * 8 ≤ d.rail.vtx * 10 ∧ 4000 ≤ d.rail.vtx then
      d.setFlag RAIL_STAT_VTXFAULT false else d
    d.noteVtx
  else d

/-- REFERENCE_UPDATE (R716). -/
def execReferenceUpdate (vhv vtx : BitVec 13) (pass : Bool) (s : State) : Host.Outcome State Fault Refusal :=
  s.run fun d => d.referenceUpdate vhv.toNat vtx.toNat pass

/-- DEMAND_UPDATE (R712, R713): the lamps' demand plus 0.6 V, or 0, and the adaptive target. -/
def Dev.demandUpdate (d : Dev) : Dev :=
  let v := match d.lampDemand with
    | some v => v + 60
    | none => 0
  (d.setFld RAIL_DEMAND_V v).retargetVled

/-- DEMAND_UPDATE (R713). -/
def execDemandUpdate (s : State) : Host.Outcome State Fault Refusal := s.run Dev.demandUpdate

/-! Soft start. -/

/-- A soft start of the boost: attempt n, VLED ramping from VHV, VTX on the pump (R710, R722). -/
def Dev.beginSoftStart (d : Dev) (attempt : Nat) : Dev :=
  let d := ((d.setFld RAIL_STAT_ATTEMPT attempt).setFld RAIL_STAT_VLEDST 1)
  let d := if d.rail.vtxOff then d else (d.setFld RAIL_STAT_VTXSRC 2).noteVtx
  d.setRail { d.rail with
    vledSoft := some (d.rail.vhv, 0), vledRef := d.rail.vhv, vledNext := none, vtxBack := false, gateLow := false,
      disOpen := false }

/-- The rails start: a soft start with the boost fitted, else the pump with the VTX soft start (R741). -/
def Dev.railsStart (d : Dev) : Dev :=
  let want := d.par secRails 0x04 * 10
  let d := d.setRail { d.rail with on := true, vtxWant := want, vtxTgt := want, vtxRef := d.rail.vtx, vtxOff := false }
  let d := d.setFlag RAIL_STAT_FIXED false
  if d.boostFitted then
    let d := d.setRail { d.rail with vledTgt := d.computedVled }
    d.beginSoftStart 1
  else
    let d := (d.setFld RAIL_STAT_VLEDST 7).setFld RAIL_STAT_VTXSRC 2
    d.setRail { d.rail with vtxSoft := some (d.rail.vtx, 0) }

/-- VTX comes from the regulator, its reference ramping from the measured output (R723, R737); a short's episode ends. -/
def Dev.toRegulator (d : Dev) (soft : Bool) : Dev :=
  let d := d.setFld RAIL_STAT_VTXSRC 1
  let d := d.setRail { d.rail with
    vtxBack := false, vtxRef := d.rail.vtx, vtxSoft := if soft then some (d.rail.vtx,
    0) else none }
  let d := d.noteVtx
  if d.flag RAIL_STAT_DEGRADED then
    (d.setFlag RAIL_STAT_DEGRADED false).ring 66 0 (word (d.rail.vtx / 10))
  else d

/-- SOFT_START_END (R722, R723, R737): the target is reached, a command that arrived during the ramp becomes the target,
and VTX moves to the regulator, in the next frame gap when a frame is in progress. -/
def Dev.softStartEnd (d : Dev) : Dev :=
  if d.rail.vledSoft.isSome then
    let r := d.rail
    let d := d.setRail { r with
      vledSoft := none, vledRef := r.vledTgt, vledTgt := r.vledNext.getD r.vledTgt,
      vledNext := none }
    let d := (d.setFld RAIL_STAT_ATTEMPT 0).setFld RAIL_STAT_VLEDST 2
    let d := d.vledState false
    if d.rail.vtxOff then d
    else if d.scan.cur.isSome then d.setRail { d.rail with vtxBack := true }
    else d.toRegulator true
  else d

/-- SOFT_START_END (R723). -/
def execSoftStartEnd (s : State) : Host.Outcome State Fault Refusal := s.run Dev.softStartEnd

/-- VTX_TO_REGULATOR (R737): the frame gap in which VTX moves back, slewing to its target. -/
def execVtxToRegulator (s : State) : Host.Outcome State Fault Refusal :=
  s.run fun d => if d.rail.vtxBack && d.scan.cur.isNone then d.toRegulator false else d

/-! Shorts (R733 to R738). -/

/-- What a short does, in the order of R735. -/
def Dev.railShort (d : Dev) (kind attempt vhv : Nat) : Dev :=
  let d := d.supersedeVled.supersedeVtx.tripAll
  let d := (if d.rail.vtxOff then d else d.setFld RAIL_STAT_VTXSRC 2).noteVtx
  let d := d.setRail { d.rail with
    vledSoft := none, vtxBack := false, vtxSoft := none, vledTgt := d.rail.vledNext.getD d.rail.vledTgt, vledNext := none }
  let d := if d.flag RAIL_STAT_DEGRADED then d
    else (d.setFlag RAIL_STAT_DEGRADED true).ring 66 1 (word (d.rail.vtx / 10))
  let d := (d.bump RAIL_CNT_SHORTS).setFld RAIL_STAT_ATTEMPT attempt
  let d := d.ring 65 (pack [(kind, 4), (attempt, 0)]) (word vhv)
  if 4 ≤ attempt then (d.setFld RAIL_STAT_VLEDST 6).ring 67 (word attempt) 0
  else d.setFld RAIL_STAT_VLEDST 5

/-- RAIL_SHORT (R733): a short during the soft start in progress. -/
def execRailShort (vhv : BitVec 13) (s : State) : Host.Outcome State Fault Refusal :=
  s.run fun d => if d.rail.vledSoft.isSome then d.railShort 1 (d.fld RAIL_STAT_ATTEMPT) vhv.toNat else d

/-- RUNNING_SHORT (R738): a short outside a soft start begins a series with attempt 1, kind 2. -/
def execRunningShort (vhv : BitVec 13) (s : State) : Host.Outcome State Fault Refusal :=
  s.run fun d => if d.boostRuns then d.railShort 2 1 vhv.toNat else d

/-- SHORT_RETRY (R735): 250 ms after a short, the next attempt. -/
def execShortRetry (s : State) : Host.Outcome State Fault Refusal :=
  s.run fun d => if d.fld RAIL_STAT_VLEDST = 5 then d.beginSoftStart (d.fld RAIL_STAT_ATTEMPT + 1) else d

/-- The boost leaves latch-off with a new series of four attempts (R736). -/
def Dev.leaveLatch (d : Dev) : Dev := if d.fld RAIL_STAT_VLEDST = 6 then d.beginSoftStart 1 else d

/-- CLEARLATCH (R736, R745): a write of RAIL_CTRL without the key is ignored and counted. -/
def Dev.writeRailCtrl (d : Dev) (value : Word) : Dev :=
  if wGet value 16 8 ≠ 0x5A then d.ignoreWrite
  else if wGet value 0 1 = 1 then d.leaveLatch
  else d

/-- CLEARLATCH (R736). -/
def execClearlatch (value : Word) (s : State) : Host.Outcome State Fault Refusal := s.run fun d => d.writeRailCtrl value

/-! Overvoltage and VTX faults (R734, R739, R740). -/

/-- BSTGATE is held low; RAIL_OVERVOLT at most once per second (R739). -/
def Dev.overvolt (d : Dev) (vhv : Nat) : Dev :=
  let d := (d.setRail { d.rail with gateLow := true }).setFlag RAIL_STAT_OVERVOLT true
  let due := match d.rail.overTick with
    | none => true
    | some t => decide (t + 32768 ≤ d.ticks)
  if due then
    (d.setRail { d.rail with overTick := some d.ticks }).ring 69 (word vhv) (word (d.rail.vledTgt / 10))
  else d

/-- RAIL_OVERVOLT (R739): while the boost runs. -/
def execRailOvervolt (vhv : BitVec 13) (s : State) : Host.Outcome State Fault Refusal :=
  s.run fun d => if d.boostRuns || d.rail.vledSoft.isSome then d.overvolt vhv.toNat else d

/-- VHV_ABOVE_50V (R734): BSTGATE low and BSTDIS released, with RAIL_OVERVOLT. -/
def execVhvAbove50v (vhv : BitVec 13) (s : State) : Host.Outcome State Fault Refusal :=
  s.run fun d =>
    let d := d.setRail { d.rail with gateLow := true, disOpen := true }
    (d.setFlag RAIL_STAT_OVERVOLT true).ring 69 (word vhv.toNat) (word (d.rail.vledTgt / 10))

/-- RAIL_VTX_FAULT (R740): reported; kinds 2 and 3 turn the regulator and the pump off for 250 ms. -/
def Dev.vtxFault (d : Dev) (kind vtx : Nat) : Dev :=
  if d.rail.on = false ∨ kind = 0 ∨ (kind = 3 ∧ d.fld RAIL_STAT_VTXSRC ≠ 2) then d
  else
    let d := ((d.setFlag RAIL_STAT_VTXFAULT true).bump RAIL_CNT_VTXFAULTS).ring 68 (word kind) (word vtx)
    if kind = 1 then d
    else
      let d := d.supersedeVtx.setFld RAIL_STAT_VTXSRC 0
      (d.setRail { d.rail with vtxOff := true, vtxSoft := none }).noteVtx

/-- RAIL_VTX_FAULT (R740). -/
def execRailVtxFault (kind : BitVec 2) (vtx : BitVec 13) (s : State) : Host.Outcome State Fault Refusal :=
  s.run fun d => d.vtxFault kind.toNat vtx.toNat

/-- VTX_FAULT_RESTART (R740): the VTX soft start, from the regulator while the boost regulates and from the pump
otherwise; VTX on the regulator again ends a short's episode (R737). -/
def execVtxFaultRestart (s : State) : Host.Outcome State Fault Refusal :=
  s.run fun d =>
    if d.rail.vtxOff then
      let d := d.setRail { d.rail with vtxOff := false }
      if d.boostRuns then d.toRegulator true
      else
        ((d.setFld RAIL_STAT_VTXSRC 2).setRail { d.rail with vtxRef := d.rail.vtx, vtxSoft := some (d.rail.vtx, 0) }).noteVtx
    else d

/-! Modes, repair and the console. -/

/-- The rails off (R166, R184, R724). -/
def Dev.railsOff (d : Dev) : Dev :=
  let d := d.supersedeVled.supersedeVtx
  let d := ((d.setFld RAIL_STAT_VLEDST 0).setFld RAIL_STAT_VTXSRC 0).setFld RAIL_STAT_ATTEMPT 0
  d.setRail { d.rail with
    on := false, vledTgt := 0, vledRef := 0, vtxTgt := 0, vtxRef := 0, vledSoft := none, vtxSoft := none,
      vledNext := none, vtxBack := false, gateLow := false, disOpen := false, vtxOff := false }

/-- The targets of IDLE and ACTIVE again: VTX as wanted, VLED fixed or adaptive (R724, R729). -/
def Dev.railsResume (d : Dev) : Dev :=
  if d.rail.on then
    let d := if d.rail.vtxTgt = d.rail.vtxWant then d else d.supersedeVtx.setVtxTgt d.rail.vtxWant
    if !d.boostFitted then d
    else
      let goal := if d.flag RAIL_STAT_FIXED then d.rail.vledFixed else d.computedVled
      if d.vledGoal = goal then d else d.supersedeVled.setVledTgt goal
  else d

/-- Entry into WATCH: VLED 8 V with the boost fitted, VTX 6 V (R724). -/
def Dev.railsWatch (d : Dev) : Dev :=
  if d.rail.on then
    let d := if d.rail.vtxTgt = 6000 then d else d.supersedeVtx.setVtxTgt 6000
    if !d.boostFitted ∨ d.vledGoal = 8000 then d else d.supersedeVled.setVledTgt 8000
  else d

/-- The VTX target of a commit: a command with TAG 0 at its apply frame start (R718, R730). -/
def Dev.vtxCommit (d : Dev) : Dev := d.vtxSet (d.par secRails 0x04) 0 false

/-- The 9.0 V request of a memory repair, a command with TAG 0 here: in SAFE, and while the boost does not regulate in SERVICE,
from the pump. From the regulator, in fixed mode VLED bounds it, else VLED follows it (R715, R718, R725, R728; its tag is a
DESIGN CHOICE, log entry 52). -/
def Dev.repairVtxOn (d : Dev) : Dev :=
  let before := d.rail.vtxTgt
  let regulated := d.boostRuns && d.mode != modeSafe
  let v := if regulated && d.flag RAIL_STAT_FIXED then min 900 (d.rail.vledFixed / 10 - 200) else 900
  let d := (d.railClamp true 900 v).supersedeVtx.setVtxTgt (10 * v)
  let d := d.setRail { d.rail with vtxCmd := some 0, beforeRepair := some before, on := true }
  if regulated then d.followVtx else d.setFld RAIL_STAT_VTXSRC 2

/-- The end of a repair: the VTX target of before, and in SAFE VTX off again (R725). -/
def Dev.repairVtxOff (d : Dev) : Dev :=
  match d.rail.beforeRepair with
  | none => d
  | some mv =>
    let d := d.supersedeVtx.setVtxTgt mv
    let d := d.setRail { d.rail with beforeRepair := none }
    if d.mode = modeSafe then d.railsOff else d

/-- RAIL_VTX: a command of v × 10 mV from the console (R718). -/
def execRailVtx (v : BitVec 13) (s : State) : Host.Outcome State Fault Refusal :=
  s.run fun d => d.command (.railVtx v) fun d => if d.fullSet then (d.vtxSet v.toNat 0 true).finishOk else d.finishErr 6

/-- RAIL_VLED: a fixed VLED command of v × 10 mV from the console (R718). -/
def execRailVled (v : BitVec 13) (s : State) : Host.Outcome State Fault Refusal :=
  s.run fun d => d.command (.railVled v) fun d => if d.fullSet then (d.vledFix v.toNat 0 true).finishOk else d.finishErr 6

/-- RAIL_VLED_AUTO (R714). -/
def execRailVledAuto (s : State) : Host.Outcome State Fault Refusal :=
  s.run fun d => d.command .railVledAuto fun d => if d.fullSet then (d.vledAuto 0 true).finishOk else d.finishErr 6

/-- RAIL_RESTART (R736). -/
def execRailRestart (s : State) : Host.Outcome State Fault Refusal :=
  s.run fun d => d.command .railRestart fun d => if d.fullSet then d.leaveLatch.finishOk else d.finishErr 6

/-- The words of the RAIL registers that are views of the rail state, in 10 mV (R745). -/
def Dev.railView (d : Dev) (a : Nat) : Option Word :=
  if a = RAIL_VLEDTGT then some (word (d.rail.vledTgt / 10))
  else if a = RAIL_VLEDREF then some (word (d.rail.vledRef / 10))
  else if a = RAIL_VTXTGT then some (word (d.rail.vtxTgt / 10))
  else if a = RAIL_VTXREF then some (word (d.rail.vtxRef / 10))
  else if a = RAIL_STAT then some (wSet (d.reg RAIL_STAT) 18 1 (bit (d.rail.vtxRef != d.rail.vtxTgt)))
  else none

/-- The words of the LAMP registers that are views of the lamp state (R786). -/
def Dev.lampView (d : Dev) (a : Nat) : Option Word :=
  if a = LAMP_STAT then
    some (wSet (wSet (wSet (d.reg a) 0 10 d.litCount) 21 1 (bit d.lampFading)) 22 1 (bit (!d.lampChecks)))
  else if a = LAMP_CHAINST then some d.chainStat
  else if a = LAMP_TLSB then some (word d.tlsb)
  else if a = LAMP_LSTAT then some (d.lampStatWord (d.fld LAMP_SEL_LAMP))
  else if LAMP_SNK 0 ≤ a ∧ a ≤ LAMP_SNK 7 then
    some (pack [((d.sink (a - LAMP_SNK 0)).head, 11), (d.par secLamps 0x01 (a - LAMP_SNK 0), 0)])
  else if LAMP_FLT 0 ≤ a ∧ a ≤ LAMP_FLT 21 then
    some (word ((List.range 24).foldl (fun acc b => acc + bit ((d.lampAt (24 * (a - LAMP_FLT 0) + b)).fault != 0) * 2 ^ b) 0))
  else none

end Sys2Proof.Machine
end

