-- ==== Sys2Proof/Machine/Scan.lean ====
section
/-!
DEFINITION. Scan.lean: the touch front end (07_touch_front_end.md): electrode roles, channels, the frame schedule, samples,
the frame buffer, stops, and its console commands.
-/

namespace Sys2Proof.Machine

/-- The state of VTX as SCAN_STAT shows it: 3 off, 2 on the pump, 1 slewing, 0 settled (R244). -/
def Dev.vtxState (d : Dev) : Nat :=
  if d.fld RAIL_STAT_VTXSRC = 0 then 3
  else if d.fld RAIL_STAT_VTXSRC = 2 then 2
  else if d.rail.vtxRef ≠ d.rail.vtxTgt then 1
  else 0

/-! Samples (R218 to R222). -/

/-- The Hadamard chip H[k][j]: −1 when (k AND j) has an odd number of bits set (R218). -/
def hadamard (k j : Nat) : Int :=
  let v := k &&& j
  if (bit (v.testBit 0) + bit (v.testBit 1) + bit (v.testBit 2) + bit (v.testBit 3)) % 2 = 0 then 1 else -1

/-- The mark of an overloaded sample (R221). -/
abbrev overloadMark : Word := 0x800000#24

/-- A valid sample saturates at ±0x7FFFFF (R221). -/
def sampleWord (v : Int) : Word := wordI (satInt 0x7FFFFF v)

/-- The chips of one channel in one group. -/
def chipsOf (chips : List Word) (nrx g r : Nat) : List Word :=
  (List.range 16).map fun j => chips.getD ((g * nrx + r) * 16 + j) 0

/-- The row sum of a code row over its chips (R219), before the division by 16. -/
def rowSum (k : Nat) (ds : List Word) : Int :=
  (List.range 16).foldl (fun acc j => acc + hadamard k j * wInt (ds.getD j 0)) 0

/-- (1/16) × the sum; the rounding of an inexact quotient is not stated, so it is free between its two neighbours
(R219, log entry 2). -/
def Dev.sixteenth (d : Dev) (sum : Int) : Int × Dev :=
  if sum % 16 = 0 then (sum / 16, d)
  else
    let (b, d) := d.draw 2
    (sum / 16 + b, d)

/-- The integer square root, bit by bit. -/
def isqrt (n bits : Nat) : Nat :=
  (List.range bits).foldl (fun r i =>
    let c := r + 2 ^ (bits - 1 - i)
    if c * c ≤ n then c else r) 0

/-- A listen value: the magnitude of I and Q (R222); its rounding is free between the two neighbours. -/
def Dev.listenValue (d : Dev) (iq : Word × Word) : Word × Dev :=
  let n := (wInt iq.1).natAbs ^ 2 + (wInt iq.2).natAbs ^ 2
  let r := isqrt n 25
  if r * r = n then (word (min r 0xFFFFFF), d)
  else
    let (b, d) := d.draw 2
    (word (min (r + b) 0xFFFFFF), d)

/-- A node's value in a plane, and whether it overloaded: 0x800000 on a faulted electrode, on a failed channel, or when a
chip overloaded (R219, R221, R237, R238). -/
def Dev.nodeSample (d : Dev) (chips : List Word) (t r : Nat) : Word × Bool × Dev :=
  let blocked := (match d.txEl t with | some e => d.elFaulted e | none => false) || d.chanFailed r
  let ds := chipsOf chips d.nrx (t / 16) r
  if blocked then (overloadMark, false, d)
  else if ds.any (· == overloadMark) then (overloadMark, true, d)
  else
    let (v, d) := d.sixteenth (rowSum (t % 16) ds)
    (sampleWord v, false, d)

/-- One plane of node samples written from a bank word on; the number of overloaded samples is counted. -/
def Dev.writePlane (d : Dev) (bank base : Nat) (chips : List Word) : Nat × Dev :=
  (List.range (d.ntx * d.nrx)).foldl (fun acc i =>
    let (w, ovr, d) := acc.2.nodeSample chips (i / acc.2.nrx) (i % acc.2.nrx)
    (acc.1 + bit ovr, d.setBank bank (base + i) w)) (0, d)

/-- A plane without a mutual scan: 0x800000 at every node (R281). -/
def Dev.blankPlane (d : Dev) (bank base : Nat) : Dev :=
  (List.range (d.ntx * d.nrx)).foldl (fun d i => d.setBank bank (base + i) overloadMark) d

/-- The self-capacitance samples by electrode; an electrode that a failed channel would sense reads 0 (R224, R227,
R238). -/
def Dev.writeSelf (d : Dev) (bank : Nat) (selfs : List Word) : Nat × Dev :=
  let sensed := d.sensed
  (List.range 160).foldl (fun acc e =>
    match sensed.findIdx? (· == e) with
    | none => (acc.1, acc.2.setBank bank (560 + e) 0)
    | some i =>
      if acc.2.chanFailed (i % 64) then (acc.1, acc.2.setBank bank (560 + e) 0)
      else
        let w := selfs.getD e 0
        (acc.1 + bit (w == overloadMark), acc.2.setBank bank (560 + e) w)) (0, d)

/-- The listen values of the 68 channels (R223, R227). -/
def Dev.writeListen (d : Dev) (bank : Nat) (listen : List (Word × Word)) : Dev :=
  (List.range 544).foldl (fun d i =>
    let (w, d) := d.listenValue (listen.getD i (0, 0))
    d.setBank bank (16 + i) w) d

/-! The end of a scan. -/

/-- The physical channels that carry logical channels 0 to NRX − 1 (R206, R256); a failed logical channel has none (R238). -/
def Dev.carriers (d : Dev) : List Nat :=
  (List.range d.nrx).filterMap fun c => if d.chanFailed c then none else some (d.fld (SCAN_CHMAP_PHYS c))

/-- The first four words of a frame's header (R227). -/
def Dev.headerStart (d : Dev) (n : Nat) : List Word :=
  let t := d.time.now
  [word n, word t.1, word t.2, word d.time.epoch]

/-- Header words 4 to 8 (R227). -/
def Dev.headerEnd (d : Dev) (f : FrameInfo) (overloads : Nat) : List Word :=
  let fault := (List.range 160).any (fun e => d.elFaulted e) || (List.range d.nrx).any (fun c => d.chanFailed c)
  [pack [(bit d.scan.pump, 0), (bit d.scan.slewing, 1), (bit f.stretched, 2), (bit (!f.newChannels.isEmpty), 3),
      (bit (overloads != 0), 4), (bit d.scan.iq, 5), (bit fault, 6), (bit d.scan.nodrive, 8)],
    pack [(f.slot, 0), (d.hdiv f.slot, 8)],
    pack [(d.ntx, 0), (d.nrx, 8), (d.groups, 16)],
    word (d.rail.vtxTgt / 10),
    word overloads]

/-- ELECTRODE_FAULT (R237, R242): W2 is the good-legs mask. -/
def Dev.electrodeFault (d : Dev) (e kind : Nat) : Dev :=
  let d := if kind = 3 then d else d.setElFault e (kind != 4)
  d.ring 22 (pack [(e, 0), (kind, 8)]) (word (d.fld (CAL_LEGS_GOOD e)))

/-- TX electrodes whose current limit tripped: the frame counts in LIMIT, and 4 or more chips fault the electrode
(R237). -/
def Dev.limitTrips (d : Dev) (trips : List (Nat × Nat)) : Dev :=
  let d := if trips.isEmpty then d else d.bump SCAN_CNT_LIMIT
  trips.foldl (fun d p =>
    if 4 ≤ p.2 ∧ d.elRole p.1 = 1 ∧ p.1 < 160 ∧ d.elFaulted p.1 = false then d.electrodeFault p.1 1 else d) d

/-- The offsets that R227 lists for a frame of n nodes, and every offset from 8,192 on in a frame without the Q plane,
which the front end leaves alone (R228). -/
def frameOffset (n : Nat) (iq : Bool) (w : Nat) : Bool :=
  decide (w < 9 ∨ (16 ≤ w ∧ w < 720) ∨ (1024 ≤ w ∧ w < 1024 + n) ∨ (8192 ≤ w ∧ w < 8192 + n)) ||
    (!iq && decide (8192 ≤ w))

/-- Every offset of the bank that R227 does not list reads 0 in the frame. -/
def Dev.clearUnlisted (d : Dev) (bank : Nat) (iq : Bool) : Dev :=
  let stays (a : Nat) : Bool := a / 16384 != bank || frameOffset (d.ntx * d.nrx) iq (a % 16384)
  { d with banks := d.banks.filter (fun p => stays p.1), mem := { d.mem with bad := d.mem.bad.filter stays } }

/-- The owner code of a bank (R654). -/
def Dev.owner (d : Dev) (bank : Nat) : Nat := d.fld (MEM_OWN_OWNER bank)
def Dev.setOwner (d : Dev) (bank code : Nat) : Dev :=
  (d.setFld (MEM_OWN_OWNER bank) code).setFlag (MEM_OWN_PEND bank) false

/-- A plane of frame f: written from the chips, or blank when the mutual scan was omitted (R219, R281). -/
def Dev.framePlane (d : Dev) (f : FrameInfo) (base : Nat) (chips : List Word) : Nat × Dev :=
  if f.omitted then (0, d.blankPlane (f.n % 4) base) else d.writePlane (f.n % 4) base chips

/-- The Q plane, in a frame with one (R228). -/
def Dev.framePlaneQ (d : Dev) (f : FrameInfo) (chips : List Word) : Nat × Dev :=
  if d.scan.iq then d.framePlane f 8192 chips else (0, d)

/-- The samples of frame f written into its bank, and how many of them overloaded (R219, R227, R228). -/
def Dev.writeFrame (d : Dev) (f : FrameInfo) (listen : List (Word × Word)) (selfs chipsI chipsQ : List Word) : Nat × Dev :=
  let s := (d.writeListen (f.n % 4) listen).writeSelf (f.n % 4) selfs
  let i := s.2.framePlane f 1024 chipsI
  let q := i.2.framePlaneQ f chipsQ
  (s.1 + i.1 + q.1, q.2)

/-- The end of the self-capacitance scan: the samples and header words 4 to 8 stand in the frame's bank, and the bank
passes to the frame's core (R27, R219, R227). A frame without a buffer, or a gap frame, writes nothing (R232, R510). -/
def Dev.endScan (d : Dev) (f : FrameInfo) (listen : List (Word × Word)) (selfs chipsI chipsQ : List Word) : Dev :=
  let d := d.foldVtx (d.listenCyc + d.mutualCyc + 1)
  let bank := f.n % 4
  let d := { d with scan := { d.scan with chans := f.chans } }
  if f.buffer then
    let w := d.writeFrame f listen selfs chipsI chipsQ
    let tail := w.2.headerEnd f w.1
    let d := w.2.fillBank bank 4 tail
    let d := if w.1 = 0 then d else d.bump SCAN_CNT_OVERLOAD
    let f := { f with header := f.header.take 4 ++ tail }
    let d := (d.setOwner bank (2 + f.core)).setFld SCAN_FRAME_LAST f.n
    { d with trk := { d.trk with queue := d.trk.queue ++ [f] } }
  else { d with trk := { d.trk with queue := d.trk.queue ++ [f] } }

/-- The scan stands in the gap. -/
def Dev.enterGap (d : Dev) : Dev := ({ d with scan := { d.scan with cur := none } }).setFld SCAN_STAT_PHASE 4

/-! Starting and stopping (R230, R233, R240). -/

/-- Frames run: SCAN_STATE with its reason (R242). -/
def Dev.scanStart (d : Dev) (reason : Nat) : Dev :=
  if d.flag SCAN_STAT_RUN then d
  else
    let d := ((d.setFlag SCAN_STAT_RUN true).setFlag SCAN_STAT_SVC_STOP false).setFld SCAN_STAT_PHASE 4
    d.ring 20 (pack [(1, 0), (reason, 4)]) (word d.time.frame)

/-- Every baseline is discarded, and acquisition follows (R285, R287, R510). -/
def Dev.dropBaselines (d : Dev) : Dev :=
  { d with trk := { d.trk with slots := [], self := [], selfAcq := true, prospects := [], vtxSeen := none } }

/-- BASELINE_EVENT (R292). -/
def Dev.baselineEvent (d : Dev) (kind slot frame : Nat) : Dev := d.ring 28 (pack [(kind, 0), (slot, 8)]) (word frame)

/-- A node about to be acquired (R248). -/
def Dev.freshNode (d : Dev) : Node := { left := d.par secTrack 0x08 }

/-- The nodes of the logical channels that a frame is the first to carry anew are acquired again in every slot that has
baselines, and tracking tells so (R251, R254). -/
def Dev.renewChannels (d : Dev) (f : FrameInfo) : Dev :=
  if f.newChannels.isEmpty || d.trk.slots.isEmpty then d
  else
    let renew (s : SlotBase) : SlotBase := { s with
      nodes := s.nodes.zipIdx.map fun p => if f.newChannels.contains (p.2 % d.nrx) then d.freshNode else p.1 }
    let d := { d with trk := { d.trk with slots := d.trk.slots.map renew } }
    (d.bump TRK_CNT_REACQ).baselineEvent 2 f.slot f.n

/-- The frame in progress and the frames not yet tracked are dropped: their banks are released without a frame-end record,
and what was due in them for the baselines takes place (R184, R233, R254). -/
def Dev.dropFrames (d : Dev) : Dev :=
  let frames := d.scan.cur.toList ++ d.trk.queue
  let d := (frames.filter FrameInfo.buffer).foldl (fun d f => d.setOwner (f.n % 4) 0) d
  let d := if frames.any fun f => f.resets.any fun r => r.2 then d.dropBaselines else d
  let d := frames.foldl Dev.renewChannels d
  { d with
    scan := { d.scan with cur := none, consoleRun := false, watchTick := none }
    trk := { d.trk with queue := [], heldSince := none } }

/-- The front end stops: the frame in progress is discarded (R184, R233). -/
def Dev.scanStop (d : Dev) (reason : Nat) : Dev :=
  if d.flag SCAN_STAT_RUN then
    let d := d.dropFrames
    let d := ((d.setFlag SCAN_STAT_RUN false).setFld SCAN_STAT_PHASE 0).setFlag SCAN_STAT_SVC_STOP (reason == 1)
    d.ring 20 (pack [(reason, 4)]) (word d.time.frame)
  else d

/-! Views (R244). -/

def Dev.scanView (d : Dev) (a : Nat) : Option Word :=
  let live := decide (6 ≤ d.pwr.step)
  if a = SCAN_STAT then
    some (wSet (wSet (wSet (d.reg a) 11 2 d.vtxState) 8 3 d.scanPhase) 3 1 (bit (d.con.states.any fun p => p.2 != 0)))
  else if a = SCAN_TLISTEN then some (if live then word d.listenCyc else 0)
  else if a = SCAN_TMUTUAL then some (if live then word d.mutualCyc else 0)
  else if a = SCAN_TSELF then some (if live then word d.selfCyc else 0)
  else if a = SCAN_TPERIOD then some (if live then word (framePeriod d.frameRate) else 0)
  else if a = SCAN_RATE then some (if live then word d.frameRate else 0)
  else if SCAN_FREQ 0 ≤ a ∧ a ≤ SCAN_FREQ 7 then
    some (pack [(bit (d.slotEnabled (a - SCAN_FREQ 0)), 23), (d.hdiv (a - SCAN_FREQ 0), 0)])
  else if a = SCAN_SENSOR then some (pack [(d.groups, 16), (d.nrx, 8), (d.ntx, 0)])
  else if SCAN_CHMAP 0 ≤ a ∧ a ≤ SCAN_CHMAP 63 then
    some (wSet (d.reg a) 0 8 ((d.rxEl (a - SCAN_CHMAP 0)).getD 0xFF))
  else none

/-! Console commands. -/

/-- The middle value of a sorted list: for an even count a free value between the two middle ones, which the spec does
not choose between. -/
def Dev.median (d : Dev) (vs : List Nat) : Nat × Dev :=
  let s := vs.mergeSort
  let n := s.length
  if n % 2 = 1 then (s.getD (n / 2) 0, d)
  else
    let lo := s.getD (n / 2 - 1) 0
    let hi := s.getD (n / 2) 0
    let (v, d) := d.draw (hi - lo + 1)
    (lo + v, d)

/-- The listen values in slot k of a bank of the physical channels that carried the frame's logical channels (R206, R227,
R256). -/
def Dev.listenOf (d : Dev) (bank k : Nat) (chans : List Nat) : List Nat :=
  chans.map fun c => (d.bank bank (16 + 8 * c + k)).toNat

/-- SCAN_NOISE: per slot, the median and the maximum listen value of the last frame (R222, R244). -/
def Dev.scanNoise (d : Dev) : Dev :=
  let bank := d.fld SCAN_FRAME_LAST % 4
  ((List.range 8).foldl (fun d k =>
    let vs := d.listenOf bank k d.scan.chans
    let (m, d) := d.median vs
    d.print (.values 0x30 [word m, word (vs.foldl max 0)])) d).finishOk

/-- SCAN_NOISE (R222). -/
def execScanNoise (s : State) : Host.Outcome State Fault Refusal := s.run fun d => d.command .scanNoise Dev.scanNoise

/-- SCAN_NODE: the last I sample of node (t, r), and Q when IQ is set (R220, R244). -/
def Dev.scanNode (d : Dev) (t r : Nat) : Dev :=
  if t < d.ntx ∧ r < d.nrx then
    let bank := d.fld SCAN_FRAME_LAST % 4
    let i := d.bank bank (1024 + t * d.nrx + r)
    let q := if d.scan.iq then [d.bank bank (8192 + t * d.nrx + r)] else []
    (d.print (.values 0x31 (i :: q))).finishOk
  else d.finishErr 5

/-- SCAN_NODE (R220). -/
def execScanNode (t r : BitVec 8) (s : State) : Host.Outcome State Fault Refusal :=
  s.run fun d => d.command (.scanNode t r) fun d => d.scanNode t.toNat r.toNat

/-- SCAN_LEGS: the enabled and good leg masks of a TX electrode (R210, R244). -/
def execScanLegs (n : BitVec 8) (s : State) : Host.Outcome State Fault Refusal :=
  s.run fun d => d.command (.scanLegs n) fun d =>
    if n.toNat < 160 ∧ d.elRole n.toNat = 1 then
      (d.print (.values 0x32 [word (d.fld (CAL_LEGS_EN n.toNat)), word (d.fld (CAL_LEGS_GOOD n.toNat))])).finishOk
    else d.finishErr 5

/-- An electrode is in a static state other than gnd (R85, R236). -/
def Dev.staticBlock (d : Dev) : Bool := d.con.states.any fun p => p.2 != 0

/-- SCAN_RUN: frames in SERVICE, unless an electrode is not in gnd (R75, R85, R236). -/
def Dev.consoleScanRun (d : Dev) : Dev :=
  if !d.fullSet then d.finishErr 6
  else if d.staticBlock || d.scan.tone.isSome || !d.hasSensor || (d.mode != modeService && d.mode != modeSafe) then d.finishErr 8
  else (({ d with scan := { d.scan with consoleRun := true } }).scanStart 2).finishOk

/-- SCAN_RUN (R75). -/
def execScanRun (s : State) : Host.Outcome State Fault Refusal := s.run fun d => d.command .scanRun Dev.consoleScanRun

/-- SCAN_TONE: electrode n driven continuously at slot k; busy while the scan runs or an electrode is not in gnd (R236). -/
def Dev.consoleScanTone (d : Dev) (n k : Nat) : Dev :=
  if !d.fullSet then d.finishErr 6
  else if 160 ≤ n then d.finishErr 5
  else if d.flag SCAN_STAT_RUN || d.staticBlock || (d.mode != modeService && d.mode != modeSafe) then d.finishErr 8
  else (({ d with scan := { d.scan with tone := some (n, k) } }).setFld SCAN_STAT_PHASE 6).finishOk

/-- SCAN_TONE (R236). -/
def execScanTone (n : BitVec 8) (k : BitVec 3) (s : State) : Host.Outcome State Fault Refusal :=
  s.run fun d => d.command (.scanTone n k) fun d => d.consoleScanTone n.toNat k.toNat

end Sys2Proof.Machine
end

