-- ==== Sys2Proof/Machine/Electrodes.lean ====
section
/-!
DEFINITION. Electrodes.lean: what stands on the electrodes and on SHLD in each phase of the frame, and the offset sources of the
receive channels (07_touch_front_end.md, R202 to R211, R217, R218, R223, R224, R229, R237, R240; R45, R75, R80).
-/

namespace Sys2Proof.Machine

/-- What the mux and the driver of an electrode make of its ball. -/
inductive ElState where
  /-- Held at VSSA: role GND, and static state gnd. -/
  | vssa
  /-- A TX electrode held at VSS. -/
  | vss
  /-- Unconnected. -/
  | highZ
  /-- A TX electrode driven between VTX and VSS at a slot's frequency, in phase with the demodulator reference or inverted
  (R218). It passes through high impedance between the two (R211). -/
  | driven (slot : Nat) (inverted : Bool)
  /-- Sensed by a logical channel. -/
  | sensed (channel : Nat)
  /-- On its logical channel, whose integrator is reset. -/
  | held (channel : Nat)
  /-- The shield waveform, between VSSA and SELF_V (R224). -/
  | shield
  /-- Static state src: a current into the electrode; mtr and mtrs: on the meter path, with and without the current (R80). -/
  | src
  | mtr
  | mtrs
  deriving DecidableEq, Repr

/-- The idle level of a TX electrode (R204). -/
def Dev.idleLevel (d : Dev) : ElState := if d.par secScan 0x0C = 1 then .highZ else .vss

/-- A self-capacitance pass takes 8 µs of settling and so many cycles of the self frequency (R223, R229). -/
def Dev.passCyc (d : Dev) (selfCycles : Nat) : Nat := 384 + selfCycles * 2 * d.par secScan 0x06

/-- The group and the chip that the mutual scan of a slot is in after so many cycles of it: none once its groups have ended
(R217, R218, R223). -/
def Dev.groupChip (d : Dev) (slot cycles : Nat) : Option (Nat × Nat) :=
  let chip := d.par secScan 0x04 * 2 * d.hdiv slot
  let n := if chip = 0 then 0 else cycles / chip
  if n < d.groups * 16 ∧ chip ≠ 0 then some (n / 16, n % 16) else none

/-- A TX electrode in the mutual scan: driven by its code row in its group, else at the idle level. A faulted electrode and a
scan without drive stay at the idle level (R203, R218, R237, R281). -/
def Dev.mutualTx (d : Dev) (f : FrameInfo) (e cycles : Nat) : ElState :=
  match d.groupChip f.slot cycles with
  | none => d.idleLevel
  | some (g, j) =>
    let t := d.elIndex e
    if t / 16 = g ∧ f.omitted = false ∧ d.elFaulted e = false then .driven f.slot (hadamard (t % 16) j == -1) else d.idleLevel

/-- A TX or RX electrode in a self-capacitance scan after so many cycles of it: sensed in its pass on a logical channel, with
the shield waveform in the others; an electrode that a failed channel would sense is not (R203, R224, R238). -/
def Dev.selfSense (d : Dev) (pass e : Nat) : ElState :=
  match d.sensed.findIdx? (· == e) with
  | none => .shield
  | some i => if i / 64 = pass ∧ d.chanFailed (i % 64) = false then .sensed (i % 64) else .shield

/-- The pass that a self-capacitance scan is in: none in the rest of its time. -/
def Dev.passAt (d : Dev) (selfCycles cycles : Nat) : Option Nat :=
  let p := cycles / d.passCyc selfCycles
  if p < d.passes then some p else none

/-- The states of the gap, which stand as well in the idle rest of a self-capacitance scan, where the spec names none (R203;
DESIGN CHOICE, log entry 37). -/
def Dev.gapState (d : Dev) (e : Nat) : ElState :=
  match d.elRole e with
  | 1 => d.idleLevel
  | 2 => .held (d.elIndex e)
  | 4 => .highZ
  | _ => .vssa

/-- An electrode in a self-capacitance scan or a WATCH scan (R203). -/
def Dev.selfState (d : Dev) (selfCycles cycles e : Nat) : ElState :=
  match d.passAt selfCycles cycles with
  | none => d.gapState e
  | some p =>
    match d.elRole e with
    | 1 => d.selfSense p e
    | 2 => d.selfSense p e
    | 3 => .shield
    | 4 => .highZ
    | _ => .vssa

/-- An electrode in a frame, so many cycles after its start (R203, R205). -/
def Dev.frameState (d : Dev) (f : FrameInfo) (cycles e : Nat) : ElState :=
  match d.phaseAt cycles with
  | 1 => if d.elRole e = 2 then .sensed (d.elIndex e) else d.gapState e
  | 2 =>
    match d.elRole e with
    | 1 => d.mutualTx f e (cycles - d.listenCyc)
    | 2 => if (d.groupChip f.slot (cycles - d.listenCyc)).isNone then .held (d.elIndex e) else .sensed (d.elIndex e)
    | _ => d.gapState e
  | _ => d.selfState (d.par secScan 0x07) (cycles - d.listenCyc - d.mutualCyc) e

/-- The static state that the console or SVC_EL has put an electrode in (R80). -/
def Dev.staticState (d : Dev) (e : Nat) : ElState :=
  match (d.con.states.find? fun p => p.1 == e).map Prod.snd with
  | some 1 => .highZ
  | some 2 => .src
  | some 3 => .mtr
  | some 4 => .mtrs
  | _ => .vssa

/-- The electrodes stand in static states: in SERVICE and in SAFE, with the scan stopped (R75, R166). -/
def Dev.staticMode (d : Dev) : Bool := (d.mode == modeService || d.mode == modeSafe) && !d.flag SCAN_STAT_RUN

/-- What stands on electrode e (R203). From reset to step 7 it is in role GND, save that the calibration of step 6 has the TX
electrodes at VSS (R45, R240); in HIBERNATE from the rails' end on it is in role GND too (R184). -/
def Dev.electrode (d : Dev) (e : Nat) : ElState :=
  if d.pwr.step < 7 then if d.pwr.step = 6 ∧ d.elRole e = 1 then .vss else .vssa
  else if d.mode = modeHibernate ∧ d.modes.hibStep = 7 then .vssa
  else match d.scan.tone with
    | some (n, k) => if e = n then .driven k false else .vssa
    | none =>
      if d.staticMode then d.staticState e
      else match d.scan.cur, d.scan.watchTick with
        | some f, _ => d.frameState f (d.cyclesInto f.tick) e
        | none, some t => d.selfState (d.par secScan 0x0D) (d.cyclesInto t) e
        | none, none => d.gapState e

/-- SHLD follows the SHIELD row, and is driven to VSSA outside the self-capacitance passes (R43, R203, R224, R240). -/
def Dev.shld (d : Dev) : ElState :=
  if d.pwr.step < 7 then .vssa
  else
    let pass := match d.scan.cur, d.scan.watchTick with
      | some f, _ =>
        let c := d.cyclesInto f.tick
        if d.phaseAt c = 3 then d.passAt (d.par secScan 0x07) (c - d.listenCyc - d.mutualCyc) else none
      | none, some t => d.passAt (d.par secScan 0x0D) (d.cyclesInto t)
      | none, none => none
    if pass.isSome then .shield else .vssa

/-- The offset charge source of a physical channel: off in the listen slot and the mutual scan, and used in the
self-capacitance passes (R209). -/
def Dev.offsetSource (d : Dev) (c : Nat) : Option Word :=
  if d.shld = .shield then some (((d.cal.chans.find? fun p => p.1 == c).map fun p => p.2.offset).getD 0) else none

end Sys2Proof.Machine
end

