-- ==== Sys2Proof/Machine/Track.lean ====
section
/-!
DEFINITION. Track.lean: tracking (08_finding_contacts.md): relative deltas, baselines, noise and hops, blobs and peaks,
water, palms and gloves, contact IDs; and the edge strips a tile sends (15_tiled_surfaces.md, R554 to R557).
-/

namespace Sys2Proof.Machine

def Dev.setTrk (d : Dev) (t : Track) : Dev := { d with trk := t }

/-! The place of the tile (R295, R542, R554). -/

def Dev.pitchX (d : Dev) : Nat := d.par secTrack 0x18 0
def Dev.pitchY (d : Dev) : Nat := d.par secTrack 0x18 1
def Dev.extX (d : Dev) : Nat := d.ntx * d.pitchX
def Dev.extY (d : Dev) : Nat := d.nrx * d.pitchY

def Dev.gridCols (d : Dev) : Nat := wGet (d.cfgWord secSurface 0x01 0) 8 6
def Dev.gridRows (d : Dev) : Nat := wGet (d.cfgWord secSurface 0x01 0) 0 6
/-- A surface of more than one tile. -/
def Dev.onSurface (d : Dev) : Bool := d.role != 2 && decide (1 < d.gridCols * d.gridRows)

/-- The origin of tile (x, y): its ORIGIN words, or (x × EXT_X, y × EXT_Y) by default (R585). -/
def Dev.originOf (d : Dev) (x y : Nat) : Nat × Nat :=
  if d.parLen secSurface 0x02 = 0 then (x * d.extX, y * d.extY)
  else
    let i := 2 * (y * d.gridCols + x)
    (d.par secSurface 0x02 i, d.par secSurface 0x02 (i + 1))

def Dev.tileX (d : Dev) : Nat := d.fld EGL_TILE_X
def Dev.tileY (d : Dev) : Nat := d.fld EGL_TILE_Y

/-- Two numbers agree within a bound. -/
def within (a b bound : Nat) : Bool := decide (a ≤ b + bound ∧ b ≤ a + bound)

/-- The seam between a tile and its neighbour across an edge (0 N, 1 E, 2 S, 3 W) lies as R554 asks. -/
def Dev.seamJoined (d : Dev) (edge : Nat) : Bool :=
  let x := d.tileX
  let y := d.tileY
  let o := d.originOf x y
  match edge with
  | 0 => decide (0 < y) &&
      (let n := d.originOf x (y - 1)
       within (n.2 + d.extY) o.2 d.pitchY && within n.1 o.1 d.pitchX)
  | 1 => decide (x + 1 < d.gridCols) &&
      (let n := d.originOf (x + 1) y
       within (o.1 + d.extX) n.1 d.pitchX && within n.2 o.2 d.pitchY)
  | 2 => decide (y + 1 < d.gridRows) &&
      (let n := d.originOf x (y + 1)
       within (o.2 + d.extY) n.2 d.pitchY && within n.1 o.1 d.pitchX)
  | _ => decide (0 < x) &&
      (let n := d.originOf (x - 1) y
       within (n.1 + d.extX) o.1 d.pitchX && within n.2 o.2 d.pitchY)

/-- The edges across which a joined tile exchanges strips: joined seams whose port is up. A neighbour's own join shows in no
message to it, and a port that is up stands for it (R554; DEDUCED, log entry 47). -/
def Dev.joinedEdges (d : Dev) : List Nat :=
  if d.onSurface ∧ d.flag EGL_TILE_JOINED then
    (List.range 4).filter fun e => d.seamJoined e && d.fld (EGL_PSTAT_STATE e) == 3
  else []

/-- The code of the neighbour across an edge. -/
def Dev.neighbourXY (d : Dev) (edge : Nat) : Nat :=
  match edge with
  | 0 => d.tileX * 32 + (d.tileY - 1)
  | 1 => (d.tileX + 1) * 32 + d.tileY
  | 2 => d.tileX * 32 + (d.tileY + 1)
  | _ => (d.tileX - 1) * 32 + d.tileY

/-! Baselines (R248 to R255). -/

/-- A quotient whose rounding is not stated: free between its two neighbours. -/
def Dev.ratio (d : Dev) (num : Int) (den : Nat) : Int × Dev :=
  if den = 0 then (0, d)
  else if num % den = 0 then (num / den, d)
  else
    let (b, d) := d.draw 2
    (num / den + b, d)

/-- The part of a distance that one frame of drift with time constant τ covers, at least and at most: a first-order filter
covers between P / (τ + P) and P / τ of it in a period P (R249). -/
def Dev.driftBounds (d : Dev) (dist : Nat) : Nat × Nat :=
  let p := framePeriod d.frameRate
  let tau := d.par secTrack 0x09 * 16777216
  (dist * p / (tau + p), min dist ((dist * p + tau - 1) / tau))

/-- A baseline after one frame of drift with time constant BL_TAU: the spec gives no recurrence, so the new value is free
between those that the time constant allows (R249, log entry 2). -/
def Dev.drift (d : Dev) (base sample : Int) : Int × Dev :=
  let (lo, hi) := d.driftBounds (sample - base).natAbs
  let (v, d) := d.draw (hi - lo + 1)
  (if base ≤ sample then base + (lo + v : Nat) else base - (lo + v : Nat), d)

/-- One frame of acquisition: the sample joins the sum, and the last one leaves the mean as the baseline (R248). A node
without any sample has no mean, and starts again (R246; DESIGN CHOICE, log entry 38). -/
def Dev.acquireNode (d : Dev) (nd : Node) (sample : Option Int) : Node × Dev :=
  let nd := match sample with
    | some s => { nd with sum := nd.sum + s, seen := nd.seen + 1 }
    | none => nd
  if 1 < nd.left then ({ nd with left := nd.left - 1 }, d)
  else if nd.seen = 0 then ({ d.freshNode with blank := true }, d)
  else
    let (b, d) := d.ratio nd.sum nd.seen
    ({ base := b }, d)

/-- The node is in an acquisition that the tile waits for (R248). -/
def Node.acquiring (nd : Node) : Bool := nd.left != 0 && !nd.blank

/-- A sample word as a core reads it: an uncorrectable one is taken as the overload mark (R666). -/
def Dev.coreSample (d : Dev) (bank w : Nat) : Word :=
  if d.mem.bad.contains (bankAddr bank w) then overloadMark else d.bank bank w

/-- Node i of a bank's I plane, none for the overload mark (R246). -/
def Dev.sampleOf (d : Dev) (bank i : Nat) : Option Int :=
  let w := d.coreSample bank (1024 + i)
  if w = overloadMark then none else some (wInt w)

/-- D / B at or above a threshold in 0.1 %. -/
def atLeast (delta base : Int) (thr : Nat) : Bool := decide (0 < base ∧ base * thr ≤ delta * 1000)

/-- The slot baselines of a slot. -/
def Track.slotBase (t : Track) (k : Nat) : Option SlotBase := t.slots.find? fun s => s.slot == k

def Track.putSlot (t : Track) (s : SlotBase) : Track := { t with slots := s :: t.slots.filter fun o => o.slot != s.slot }

/-- A slot's baselines are lost after more than 10 s of tracked frames without a visit; the sum of rounded periods is judged to
half a frame (R252). -/
def Dev.slotLost (d : Dev) (s : SlotBase) : Bool :=
  decide (2 * s.visit + 20 * 16777216 + framePeriod d.frameRate < 2 * d.trk.span)

/-- The baselines of a slot for n nodes: those it has, or an acquisition that starts (R248, R252). -/
def Dev.slotStart (d : Dev) (slot vtx n : Nat) : SlotBase :=
  match d.trk.slotBase slot with
  | some s => if d.slotLost s ∨ s.nodes.length ≠ n then ⟨slot, vtx, 0, true, List.replicate n d.freshNode⟩ else s
  | none => ⟨slot, vtx, 0, true, List.replicate n d.freshNode⟩

/-- A node's baseline, and the sum of one in acquisition, scaled from one VTX target to another (R253). -/
def Dev.scaleNode (d : Dev) (old new : Nat) (nd : Node) : Node × Dev :=
  let (b, d) := d.ratio (nd.base * new) old
  let (m, d) := d.ratio (nd.sum * new) old
  ({ nd with base := b, sum := m }, d)

/-- A frame's VTX target is noted: a new one has not been told of (R253). -/
def Dev.noteTarget (d : Dev) (vtx : Nat) : Dev :=
  if d.trk.vtxSeen = some vtx then d else d.setTrk { d.trk with vtxSeen := some vtx, vtxTold := false }

/-- Baselines that were last updated at another VTX target are scaled, and the change of target is told once (R253). -/
def Dev.scaleSlot (d : Dev) (f : FrameInfo) (s : SlotBase) (vtx : Nat) : SlotBase × Dev :=
  if s.vtx = vtx ∨ s.vtx = 0 then ({ s with vtx := vtx }, d)
  else
    let (nodes, d) := s.nodes.foldl (fun acc nd =>
      let (nd, d) := acc.2.scaleNode s.vtx vtx nd
      (acc.1 ++ [nd], d)) ([], d)
    let d := if d.trk.vtxTold then d else (d.setTrk { d.trk with vtxTold := true }).baselineEvent 4 f.slot f.n
    ({ s with vtx := vtx, nodes := nodes }, d)

/-- The baselines that a tracked frame in a slot starts from (R248, R252, R253). -/
def Dev.prepareSlot (d : Dev) (f : FrameInfo) : SlotBase × Dev :=
  let vtx := (f.header.getD 7 0).toNat
  let s := d.slotStart f.slot vtx (d.ntx * d.nrx)
  (d.noteTarget vtx).scaleSlot f { s with visit := d.trk.span } vtx

/-! The grid of a frame: own nodes and strip nodes (R247, R556). -/

/-- One node of the extended grid with its delta and baseline; a strip node has its D / B in 2^-20 over 2^20. -/
structure GridCell where
  t : Int
  r : Int
  d : Int
  b : Int
  own : Bool
  deriving DecidableEq, Repr

/-- Own nodes that are valid, not excluded and not in acquisition. -/
def Dev.ownCells (d : Dev) (f : FrameInfo) (s : SlotBase) : List GridCell :=
  (List.range (d.ntx * d.nrx)).filterMap fun i =>
    let nd := s.nodes.getD i {}
    if nd.left ≠ 0 ∨ nd.excluded then none
    else (d.sampleOf (f.n % 4) i).map fun v => ⟨(i / d.nrx : Nat), (i % d.nrx : Nat), nd.base - v, nd.base, true⟩

/-- The place of value i of a strip beyond an edge (R555). -/
def Dev.stripPlace (d : Dev) (edge i : Nat) : Int × Int :=
  match edge with
  | 0 => ((i / 2 : Nat), (i % 2 : Nat) - 2)
  | 1 => (d.ntx + (i / d.nrx : Nat), (i % d.nrx : Nat))
  | 2 => ((i / 2 : Nat), d.nrx + (i % 2 : Nat))
  | _ => ((i / d.nrx : Nat) - 2, (i % d.nrx : Nat))

/-- Strip nodes of a frame; a strip that has not arrived counts as excluded nodes (R556, R557). -/
def Dev.stripCells (d : Dev) (f : FrameInfo) : List GridCell :=
  (d.surf.strips.filter fun s => s.frame == f.n).flatMap fun s =>
    (List.range s.vals.length).filterMap fun i =>
      let v := s.vals.getD i overloadMark
      let p := d.stripPlace s.edge i
      if v = overloadMark then none else some ⟨p.1, p.2, wInt v, 1048576, false⟩

def GridCell.near (a b : GridCell) : Bool := decide ((a.t - b.t).natAbs ≤ 1 ∧ (a.r - b.r).natAbs ≤ 1)
def GridCell.same (a b : GridCell) : Bool := decide (a.t = b.t ∧ a.r = b.r)

/-- Does cell a lose the peak to its neighbour b? Own nodes compare D, the lower index winning a plateau; across a seam
D / B is compared, and the tile with the lower x, then the lower y, wins a tie (R247, R556). -/
def GridCell.loses (a b : GridCell) : Bool :=
  let x := a.d * b.b
  let y := b.d * a.b
  if a.own && b.own then decide (a.d < b.d) || (decide (a.d = b.d) && decide (b.t < a.t ∨ (b.t = a.t ∧ b.r < a.r)))
  else decide (x < y) || (decide (x = y) && decide (b.t < a.t ∨ (b.t = a.t ∧ b.r < a.r)))

/-- The cell's D is a local maximum over its 8 neighbours. -/
def isPeak (cells : List GridCell) (c : GridCell) : Bool := cells.all fun o => c.same o || !c.near o || !c.loses o

/-- The cells that touch a front, step by step: the connected set that holds it. -/
def growBlob : Nat → List GridCell → List GridCell → List GridCell → List GridCell × List GridCell
  | 0, _, rest, acc => (acc, rest)
  | fuel + 1, front, rest, acc =>
    let new := rest.filter fun c => front.any (·.near c)
    if new.isEmpty then (acc, rest)
    else growBlob fuel new (rest.filter fun c => !front.any (·.near c)) (acc ++ new)

/-- The blobs of a set of cells: its connected sets over the 8 neighbours. -/
def blobsOf : Nat → List GridCell → List (List GridCell)
  | 0, _ => []
  | _, [] => []
  | fuel + 1, c :: rest =>
    let (blob, rest) := growBlob (rest.length + 1) [c] rest [c]
    blob :: blobsOf fuel rest

/-! Positions (R247). -/

/-- The centre of a cell (R247). -/
def Dev.cellPlace (d : Dev) (c : GridCell) : Int × Int :=
  ((2 * c.t + 1) * (d.pitchX : Int) / 2, (2 * c.r + 1) * (d.pitchY : Int) / 2)

/-- The D-weighted centroid of the 3 × 3 cells around a peak, with strip cells weighted by D / B × the peak's baseline;
the rounding is free. -/
def Dev.centroid (d : Dev) (cells : List GridCell) (p : GridCell) : (Int × Int) × Dev :=
  let near := cells.filter fun c => c.near p
  let weight := fun (c : GridCell) => if c.own == p.own then c.d else c.d * p.b / 1048576
  let total := near.foldl (fun a c => a + weight c) 0
  let sx := near.foldl (fun a c => a + weight c * (2 * c.t + 1)) 0
  let sy := near.foldl (fun a c => a + weight c * (2 * c.r + 1)) 0
  if total ≤ 0 then (d.cellPlace p, d)
  else
    let (x, d) := d.ratio (sx * d.pitchX) (2 * total.toNat)
    let (y, d) := d.ratio (sy * d.pitchY) (2 * total.toNat)
    ((x, y), d)

/-! Self-capacitance (R255, R261). -/

/-- The self-capacitance sample of electrode e in a bank: none for the overload mark, for an electrode that is not sensed, and
for one that a failed channel would sense (R224, R238, R246, R286). -/
def Dev.selfSample (d : Dev) (bank e : Nat) : Option Int :=
  match d.sensed.findIdx? (· == e) with
  | none => none
  | some i =>
    let w := d.coreSample bank (560 + e)
    if w = overloadMark ∨ d.chanFailed (i % 64) = true then none else some (wInt w)

/-- The self-capacitance delta of an electrode reaches SELF_THR: its sample rises with a touch (R222, R261). -/
def Dev.selfTouched (d : Dev) (bank e : Nat) : Bool :=
  let nd := d.trk.self.getD e {}
  match d.selfSample bank e with
  | some v => decide (nd.left = 0) && atLeast (v - nd.base) nd.base (d.par secTrack 0x04)
  | none => false

/-- A blob is self-confirmed: one of its TX and one of its RX electrodes read a self delta (R261). -/
def Dev.selfConfirmed (d : Dev) (bank : Nat) (blob : List GridCell) : Bool :=
  let own := blob.filter (·.own)
  let tx := own.any fun c => match d.txEl c.t.toNat with | some e => d.selfTouched bank e | none => false
  let rx := own.any fun c => match d.rxEl c.r.toNat with | some e => d.selfTouched bank e | none => false
  tx && rx

/-- Nodes that read D / B at or below −TOUCH_THR have their time; at NEG_TIME on 4 of them they are acquired again
(R250). -/
def negMark (nd : Node) (low : Bool) (tick : Nat) : Node :=
  if low then { nd with negSince := some (nd.negSince.getD tick) } else { nd with negSince := none }

def negDue (nd : Node) (tick limit : Nat) : Bool :=
  match nd.negSince with
  | some t => decide (t + limit ≤ tick)
  | none => false

/-- NEG_TIME in ticks. -/
def Dev.negLimit (d : Dev) : Nat := d.par secTrack 0x0A * 32768 / 10

/-- One electrode's baseline after a scan (R255): acquired, held where a touch is read, else drifted. -/
def Dev.selfNode (d : Dev) (bank tick e : Nat) (nd : Node) : Node × Dev :=
  if nd.left ≠ 0 then d.acquireNode nd (d.selfSample bank e)
  else match d.selfSample bank e with
    | none => (nd, d)
    | some v =>
      let thr := d.par secTrack 0x04
      if atLeast (v - nd.base) nd.base thr then (negMark nd false tick, d)
      else
        let nd := negMark nd (atLeast (nd.base - v) nd.base thr) tick
        let (b, d) := d.drift nd.base v
        ({ nd with base := b }, d)

/-- Nodes due under R250 are acquired again when there are at least 4 of them, and tracking tells so. -/
def Dev.reacquire (d : Dev) (nodes : List Node) (tick slot frame : Nat) : List Node × Dev :=
  let due (nd : Node) : Bool := negDue nd tick d.negLimit
  if 4 ≤ (nodes.filter due).length then
    (nodes.map fun nd => if due nd then d.freshNode else nd, (d.bump TRK_CNT_REACQ).baselineEvent 1 slot frame)
  else (nodes, d)

/-- The self-capacitance baselines of a tile that has none: acquisition starts (R255). -/
def Dev.startSelf (d : Dev) : Dev :=
  if d.trk.self.isEmpty then d.setTrk { d.trk with self := List.replicate 160 d.freshNode, selfAcq := true } else d

/-- The self-capacitance baselines after a scan (R255): acquired, drifted where no touch is read, and acquired again after
NEG_TIME. The events carry the slot of the frame (DESIGN CHOICE, log entry 38). -/
def Dev.updateSelf (d : Dev) (bank tick slot frame : Nat) : Dev :=
  let d := d.startSelf
  let (out, d) := d.trk.self.zipIdx.foldl (fun (acc : List Node × Dev) p =>
    let (nd, d) := acc.2.selfNode bank tick p.2 p.1
    (acc.1 ++ [nd], d)) ([], d)
  let (out, d) := d.reacquire out tick slot frame
  let ended := d.trk.selfAcq && !out.any Node.acquiring
  let d := d.setTrk { d.trk with self := out, selfAcq := d.trk.selfAcq && !ended }
  if ended then d.baselineEvent 0 slot frame else d

/-- Node (t, r) is on a faulted electrode or a failed channel (R237, R238, R286). -/
def Dev.nodeBlocked (d : Dev) (t r : Nat) : Bool :=
  (match d.txEl t with | some e => d.elFaulted e | none => false) || d.chanFailed r

/-- One node's baseline after a tracked frame (R248 to R250): acquired, held, or drifted. A node that R288 holds
excluded stays as it is. -/
def Dev.trackNode (d : Dev) (f : FrameInfo) (i : Nat) (held : Bool) (nd : Node) : Node × Dev :=
  if nd.excluded then (nd, d)
  else if nd.left ≠ 0 then d.acquireNode nd (d.sampleOf (f.n % 4) i)
  else match d.sampleOf (f.n % 4) i with
    | none => (nd, d)
    | some v =>
      let nd := negMark nd (atLeast (v - nd.base) nd.base (d.par secTrack 0x01)) f.tick
      if held then (nd, d)
      else
        let (b, d) := d.drift nd.base v
        ({ nd with base := b }, d)

/-- The mean baseline of node i's RX line times its count, and the count: the valid baselines of the line (R288). -/
def Dev.lineMean (d : Dev) (nodes : List Node) (i : Nat) : Int × Nat :=
  let line := (List.range d.ntx).filterMap fun t =>
    let nd := nodes.getD (t * d.nrx + i % d.nrx) {}
    if nd.left = 0 then some nd.base else none
  (line.sum, line.length)

/-- A baseline below 1/16 of the mean of its RX line: the node is held excluded from here on (R288). -/
def Dev.tooLow (d : Dev) (nodes : List Node) (i : Nat) : Bool :=
  let nd := nodes.getD i {}
  let m := d.lineMean nodes i
  decide (nd.left = 0) && !nd.excluded && !d.nodeBlocked (i / d.nrx) (i % d.nrx) && decide (nd.base * 16 * m.2 < m.1)

/-- Low nodes are held excluded, and tracking tells so (R288). -/
def Dev.excludeLow (d : Dev) (nodes : List Node) (slot frame : Nat) : List Node × Dev :=
  let low := (List.range nodes.length).filter (d.tooLow nodes)
  if low.isEmpty then (nodes, d)
  else (nodes.zipIdx.map fun p => if low.contains p.2 then { p.1 with excluded := true } else p.1,
    d.baselineEvent 5 slot frame)

/-- The mutual baselines after a tracked frame (R248 to R250, R288): a place in `still`, which holds the nodes of blobs, their
neighbours and glove-level nodes, keeps its baseline; one in `reacq` is acquired again (R274). -/
def Dev.updateNodes (d : Dev) (f : FrameInfo) (s : SlotBase) (still : List (Int × Int)) (reacq : List (Int × Int)) : Dev :=
  let (out, d) := s.nodes.zipIdx.foldl (fun (acc : List Node × Dev) q =>
    let p : Int × Int := ((q.2 / d.nrx : Nat), (q.2 % d.nrx : Nat))
    if reacq.contains p && !q.1.excluded then (acc.1 ++ [d.freshNode], acc.2)
    else
      let (nd, e) := acc.2.trackNode f q.2 (still.contains p) q.1
      (acc.1 ++ [nd], e)) ([], d)
  let (out, d) := d.reacquire out f.tick f.slot f.n
  let (out, d) := d.excludeLow out f.slot f.n
  let ended := s.acq && !out.any Node.acquiring
  let d := d.setTrk (d.trk.putSlot { s with nodes := out, acq := s.acq && !ended })
  if ended then d.baselineEvent 0 f.slot f.n else d

/-! Noise and hops (R256 to R260). -/

def Dev.noise (d : Dev) (k : Nat) : Nat := d.fld (TRK_NOISE_N k)

/-- The noise figures after a frame (R256). -/
def Dev.updateNoise (d : Dev) (bank : Nat) (chans : List Nat) : Dev :=
  (List.range 8).foldl (fun d k =>
    let (m, d) := d.median (d.listenOf bank k chans)
    let n := d.noise k
    let (v, d) := d.ratio ((n : Int) * 7 + m) 8
    d.setFld (TRK_NOISE_N k) v.toNat) d

/-- The usable slot with the lowest noise figure, excluding one; the lowest number wins a tie (R257). -/
def Dev.quietSlot (d : Dev) (except : Option Nat) : Option Nat :=
  (List.range 8).foldl (fun best k =>
    if !d.slotUsable k || some k == except then best
    else match best with
      | none => some k
      | some b => if d.noise k < d.noise b then some k else some b) none

/-- A hop to a slot takes effect, with a reason of source 29 (R258, R259). -/
def Dev.hopTo (d : Dev) (q reason : Nat) : Dev :=
  let w1 := pack [(d.trk.slot, 0), (q, 3), (reason, 8)]
  let d := d.setTrk { d.trk with slot := q, hop := none, confirm := 0, dwell := some 0, hops := (w1 :: d.trk.hops).take 8 }
  ((d.setReg TRK_HOP w1).bump TRK_CNT_HOPS).ring 29 w1 (word (d.noise q))

/-- N_c is at least N_q × 10^(HOP_MARGIN / 20), by exact powers (R257). -/
def Dev.hopMargin (d : Dev) (c q : Nat) : Bool := decide (d.noise q ^ 20 * 10 ^ d.par secTrack 0x0D ≤ d.noise c ^ 20)

/-- HOP_DWELL frames have started since the last hop (R257). -/
def Dev.dwelt (d : Dev) : Bool :=
  match d.trk.dwell with
  | none => true
  | some n => decide (d.par secTrack 0x0F ≤ n)

/-- The conditions of R257 but for the margin, which HOP_CONFIRM frames have confirmed. -/
def Dev.mayHop (d : Dev) : Bool :=
  decide (d.par secTrack 0x0C < d.noise d.trk.slot) && decide (d.par secTrack 0x0E ≤ d.trk.confirm) && d.dwelt &&
    !d.flag SCAN_CTRL_FREEZE

/-- The hop decision after a tracked frame (R257); the hop waits for the next frame start (R259). -/
def Dev.judgeHop (d : Dev) : Dev :=
  match d.quietSlot (some d.trk.slot) with
  | none => d.setTrk { d.trk with confirm := 0 }
  | some q =>
    if d.hopMargin d.trk.slot q then
      let d := d.setTrk { d.trk with confirm := d.trk.confirm + 1 }
      if d.mayHop then d.setTrk { d.trk with hop := some q } else d
    else d.setTrk { d.trk with confirm := 0 }

/-- A present slot that is not allowed in the next frame, or no longer enabled, is left at once (R258, R283). -/
def Dev.forcedHop (d : Dev) : Dev :=
  match d.quietSlot none with
  | none => d
  | some q => d.hopTo q (if d.slotEnabled d.trk.slot then 1 else 2)

/-- A decided hop is judged again against the new slots (R283). -/
def Dev.rejudgeHop (d : Dev) : Dev :=
  match d.quietSlot (some d.trk.slot) with
  | none => d.setTrk { d.trk with hop := none }
  | some q => if d.hopMargin d.trk.slot q && d.mayHop then d.hopTo q 0 else d.setTrk { d.trk with hop := none }

/-- The slot of the frame that starts: a forced hop first, then the decided one, judged again when a commit has changed
the slots or its slot is not usable in this frame (R258, R259, R283). FREEZE keeps the slot, and a decided hop that
meets it is dropped (R216; DESIGN CHOICE, log entry 38). -/
def Dev.slotBoundary (d : Dev) (changed : Bool) : Dev :=
  if d.flag SCAN_CTRL_FREEZE then d.setTrk { d.trk with hop := none }
  else if !d.slotUsable d.trk.slot then
    let d := d.forcedHop
    d.setTrk { d.trk with hop := none }
  else match d.trk.hop with
    | none => d
    | some q => if changed || !d.slotUsable q then d.rejudgeHop else d.hopTo q 0

/-- The lowest noise figure among the slots allowed by SCAN_FALLOW (R292). -/
def Dev.lowestNoise (d : Dev) : Nat :=
  ((List.range 8).filter fun k => (d.fld SCAN_FALLOW_MASK).testBit k).foldl (fun m k => min m (d.noise k)) 0xFFFFFF

/-- The noise alarm (R260). -/
def Dev.judgeNoisy (d : Dev) (tick : Nat) : Dev :=
  let slots := (List.range 8).filter d.slotUsable
  let loud := !slots.isEmpty && slots.all fun k => decide (d.par secTrack 0x10 < d.noise k)
  if loud = d.flag TRK_STAT_NOISY then d.setTrk { d.trk with noiseSince := none }
  else
    let since := d.trk.noiseSince.getD tick
    if since + 32768 ≤ tick then
      ((d.setTrk { d.trk with noiseSince := none }).setFlag TRK_STAT_NOISY loud).ring 31 (word (bit loud)) (word d.lowestNoise)
    else d.setTrk { d.trk with noiseSince := some since }

/-! Candidates (R247, R261, R265, R267). -/

/-- GLOVE and WET in force: the override of TRK_CTRL or the image (R294). -/
def Dev.gloveMode (d : Dev) : Nat :=
  match d.fld TRK_CTRL_GLOVEOVR with
  | 1 => 0
  | 2 => 2
  | _ => d.par secTrack 0x05
def Dev.wetParam (d : Dev) : Nat :=
  match d.fld TRK_CTRL_WETOVR with
  | 1 => 0
  | 2 => 2
  | _ => d.par secTrack 0x12

/-- What a frame shows: the candidates of the own peaks, the strip peaks, the palm blobs, and whether a water blob of at
least 4 nodes stands. -/
structure Sight where
  cands : List Cand
  strips : List (Int × Int)
  palms : List (List GridCell)
  water : Bool
  touched : List GridCell
  weak : List GridCell
  deriving DecidableEq, Repr

/-- Blobs, peaks and weak local maxima of a frame. -/
def Dev.look (d : Dev) (f : FrameInfo) (s : SlotBase) : Sight × Dev :=
  let cells := d.ownCells f s ++ d.stripCells f
  let touched := cells.filter fun c => atLeast c.d c.b (d.par secTrack 0x01)
  let weak := cells.filter fun c => atLeast c.d c.b (d.par secTrack 0x03) && !atLeast c.d c.b (d.par secTrack 0x01)
  let blobs := blobsOf (touched.length + 1) touched
  let bank := f.n % 4
  let palms := blobs.filter fun b => decide (d.par secTrack 0x15 ≤ b.length)
  let plain := (blobs.filter fun b => decide (b.length < d.par secTrack 0x15)).zipIdx
  let water := blobs.any fun b => decide (4 ≤ b.length) && !d.selfConfirmed bank b
  let (cands, d) := plain.foldl (fun (acc : List Cand × Dev) p =>
    let peaks := p.1.filter fun c => isPeak cells c
    let conf := acc.2.selfConfirmed bank p.1
    (peaks.filter (·.own)).foldl (fun (acc : List Cand × Dev) c =>
      let (xy, d) := acc.2.centroid cells c
      (acc.1 ++ [⟨xy.1, xy.2, c.t.toNat, c.r.toNat, c.d, c.b, true, conf, p.1.length, p.2, peaks.length⟩], d)) acc) ([], d)
  let (weaks, d) := ((weak.filter fun c => c.own && isPeak cells c).zipIdx).foldl (fun (acc : List Cand × Dev) p =>
    let (xy, d) := acc.2.centroid cells p.1
    (acc.1 ++ [⟨xy.1, xy.2, p.1.t.toNat, p.1.r.toNat, p.1.d, p.1.b, false, acc.2.selfConfirmed bank [p.1], 0,
      1000000 + p.2, 1⟩], d)) ([], d)
  let strips := ((plain.map Prod.fst).flatten.filter fun c => !c.own && isPeak cells c).map d.cellPlace
  (⟨cands ++ weaks, strips, palms, water, touched, weak⟩, d)

/-- Squared distance of two points. -/
def dist2 (ax ay bx by_ : Int) : Nat := (ax - bx).natAbs ^ 2 + (ay - by_).natAbs ^ 2

/-- Within MAX_SPEED × frame period (R270). -/
def Dev.inReach (d : Dev) (ax ay bx by_ : Int) : Bool :=
  decide (dist2 ax ay bx by_ * d.frameRate ^ 2 ≤ (d.par secTrack 0x17 * 100000) ^ 2)

/-- May the candidate keep this contact alive? Touched, or a finger not below LIFT_THR, or a glove at glove level (R245,
R266, R271). -/
def Dev.keeps (d : Dev) (c : Contact) (k : Cand) : Bool :=
  k.touched || c.glove || atLeast k.delta k.base (d.par secTrack 0x02)

/-- The nearest candidate of a list, by index, that a contact may take. -/
def Dev.nearest (d : Dev) (c : Contact) (cands : List Cand) (taken : List Nat) (free : Bool) : Option Nat :=
  (List.range cands.length).foldl (fun best i =>
    match cands[i]? with
    | none => best
    | some k =>
      if (free && taken.contains i) || !d.keeps c k || !d.inReach c.x c.y k.x k.y then best
      else match best with
        | none => some i
        | some b =>
          match cands[b]? with
          | none => some i
          | some kb => if dist2 c.x c.y k.x k.y < dist2 c.x c.y kb.x kb.y then some i else some b) none

/-- Contacts matched with candidates in ascending ID: pairs of contact ID and candidate index; and the IDs that lose a
shared single peak (R270, R272). -/
def Dev.matchAll (d : Dev) (cands : List Cand) : List (Nat × Nat) × List Nat :=
  d.trk.contacts.foldl (fun acc c =>
    match d.nearest c cands (acc.1.map Prod.snd) true with
    | some i => (acc.1 ++ [(c.id, i)], acc.2)
    | none =>
      match d.nearest c cands [] false with
      | none => acc
      | some i =>
        match cands[i]?, acc.1.find? fun p => p.2 == i with
        | some k, some p =>
          if k.peaks ≠ 1 then acc
          else match d.trk.contacts.find? fun o => o.id == p.1 with
            | none => acc
            | some o =>
              if o.delta < c.delta then (acc.1.map (fun q => if q.2 = i then (c.id, i) else q), acc.2 ++ [o.id])
              else (acc.1, acc.2 ++ [c.id])
        | _, _ => acc) ([], [])

/-! Reports of contacts. -/

/-- STRENGTH: peak D / B in units of 0.5 %, saturating at 255 (R304). -/
def strengthOf (delta base : Int) : Nat := if base ≤ 0 then 0 else min 255 (delta * 200 / base).toNat

def Contact.report (c : Contact) (kind reason : Nat) : Report :=
  ⟨c.id, kind, c.x, c.y, c.glove, min c.size 63, strengthOf c.delta c.base, reason⟩

/-- Contacts cancelled with a reason: counted, their IDs released, the cancels left for the frame's records (R275). -/
def Dev.cancelIds (d : Dev) (ids : List Nat) (reason : Nat) : Dev :=
  let gone := d.trk.contacts.filter fun c => ids.contains c.id
  let d := d.setTrk { d.trk with
    contacts := d.trk.contacts.filter fun c => !ids.contains c.id
    released := d.trk.released ++ gone.map Contact.id
    pending := d.trk.pending ++ gone.map fun c => c.report 3 reason
    lastContact := if gone.isEmpty then d.trk.lastContact else some d.ticks }
  ((d.bumpBy TRK_CNT_CANCELS gone.length).setFld TRK_STAT_LIVE d.trk.contacts.length).setFlag TRK_STAT_GLOVE
    (d.trk.contacts.any Contact.glove)

/-- Every live contact cancelled with a reason of R275. -/
def Dev.cancelLive (d : Dev) (reason : Nat) : Dev := d.cancelIds (d.trk.contacts.map Contact.id) reason

/-- Milliseconds between two ticks: at most a bound in ms, and less than one. -/
def withinMs (from_ to_ ms : Nat) : Bool := decide ((to_ - from_) * 1000 ≤ ms * 32768)
def shorterMs (from_ to_ ms : Nat) : Bool := decide ((to_ - from_) * 1000 < ms * 32768)

/-- A trail with its latest place; places older than 500 ms leave it (R174). -/
def addTrail {P : Type} (trail : List (Nat × P)) (tick : Nat) (p : P) : List (Nat × P) :=
  (tick, p) :: trail.filter fun o => withinMs o.1 tick 500

/-- A contact matched with its candidate (R266, R274): its anchor moves when it has moved 2 mm. -/
def Contact.follow (c : Contact) (k : Cand) (tick : Nat) : Contact :=
  let moved2 := decide (200 * 200 ≤ dist2 k.x k.y c.ax c.ay)
  { c with
    x := k.x, y := k.y, t := k.t, r := k.r, delta := k.delta, base := k.base, size := k.size, confirmed := k.confirmed,
    miss := 0, ax := if moved2 then k.x else c.ax, ay := if moved2 then k.y else c.ay,
    atick := if moved2 then tick else c.atick, trail := addTrail c.trail tick (k.x, k.y)
    moved := c.moved || decide (500 * 500 ≤ dist2 k.x k.y c.startX c.startY) }

/-- A new contact from a candidate. -/
def Cand.contact (k : Cand) (id tick : Nat) (sole : Bool) : Contact :=
  { id := id, x := k.x, y := k.y, t := k.t, r := k.r, glove := !k.touched, delta := k.delta, base := k.base, size := k.size,
    confirmed := k.confirmed, miss := 0, ax := k.x, ay := k.y, atick := tick, repX := k.x, repY := k.y, sole := sole,
    startX := k.x, startY := k.y, startTick := tick, trail := [(tick, k.x, k.y)], gestured := false, moved := false }

/-! The steps of a tracked frame. -/

/-- Two sets of nodes touch: they share a node or are 8-neighbours. -/
def nodesTouch (a b : List (Int × Int)) : Bool :=
  a.any fun p => b.any fun q => decide ((p.1 - q.1).natAbs ≤ 1 ∧ (p.2 - q.2).natAbs ≤ 1)

/-- Palms: their contacts are cancelled, and each palm that appears is raised once with its area; one that no palm of the frame
touches has gone (R267, R268). -/
def Dev.palmStep (d : Dev) (f : FrameInfo) (si : Sight) : Dev :=
  let palms := si.palms.map fun b => b.map fun c => (c.t, c.r)
  let hit := d.trk.contacts.filter fun c => palms.any fun b => nodesTouch b [((c.t : Int), (c.r : Int))]
  let d := d.cancelIds (hit.map Contact.id) 1
  let old := d.trk.palms
  let new := palms.filter fun b => !old.any (nodesTouch b)
  let gone := old.filter fun b => !palms.any (nodesTouch b)
  let d := d.setTrk { d.trk with
    palms := palms
    palmsGone := (d.trk.palmsGone.filter fun p => decide (f.tick < p.1 + 16384)) ++ gone.map fun b => (f.tick, b) }
  new.foldl (fun d b => d.ring 33 (word b.length) (word f.n)) (d.setFlag TRK_STAT_PALM (!palms.isEmpty))

/-- A place is barred for new contacts: within 20 mm of the last blob of a palm for 500 ms after it has gone (R268). -/
def Dev.palmBars (d : Dev) (tick : Nat) (x y : Int) : Bool :=
  d.trk.palmsGone.any fun g => decide (tick < g.1 + 16384) && g.2.any fun p =>
    let c := d.cellPlace ⟨p.1, p.2, 0, 0, true⟩
    decide (dist2 c.1 c.2 x y ≤ 2000 * 2000)

/-- Matched contacts follow their candidates, and the losers of shared peaks are cancelled with reason 5 (R270, R272). -/
def Dev.matchStep (d : Dev) (f : FrameInfo) (cands : List Cand) : List Nat × Dev :=
  let (pairs, losers) := d.matchAll cands
  let step := fun (c : Contact) =>
    match pairs.find? (fun p => p.1 == c.id) with
    | some p => (match cands[p.2]? with | some k => c.follow k f.tick | none => c)
    | none => { c with miss := c.miss + 1 }
  let d := d.setTrk { d.trk with contacts := d.trk.contacts.map step }
  (pairs.map Prod.snd, d.cancelIds losers 5)

/-- WET_EXIT of tracked frames without a water blob; the sum of rounded periods is judged to half a frame (R262). -/
def Dev.dryEnough (d : Dev) : Bool :=
  decide (d.par secTrack 0x14 * 16777216 ≤ 10 * d.trk.dry + 5 * framePeriod d.frameRate)

/-- Wet mode (R262 to R264). -/
def Dev.wetStep (d : Dev) (f : FrameInfo) (water : Bool) : Dev :=
  let d := d.setTrk { d.trk with
    water := if water then d.trk.water + 1 else 0, dry := if water then 0 else d.trk.dry + framePeriod d.frameRate }
  let was := d.flag TRK_STAT_WET
  let now := match d.wetParam with
    | 0 => false
    | 2 => true
    | _ =>
      if was then !d.dryEnough else decide (3 ≤ d.trk.water)
  if now = was then d
  else if now then
    let bad := d.trk.contacts.filter fun c => !c.confirmed || c.miss != 0
    let good := d.trk.contacts.filter fun c => c.confirmed && c.miss == 0
    let gone := bad.map Contact.id ++ (good.drop (d.par secTrack 0x13)).map Contact.id
    ((d.cancelIds gone 2).setFlag TRK_STAT_WET true).ring 30 (pack [(1, 0), (min gone.length 15, 8)]) (word f.n)
  else (d.setFlag TRK_STAT_WET false).ring 30 0 (word f.n)

/-- Stuck contacts are cancelled with reason 3; the nodes around their peaks are to be acquired again (R274). -/
def Dev.stuckStep (d : Dev) (f : FrameInfo) : List (Int × Int) × Dev :=
  let limit := d.par secTrack 0x0B
  let stuck := if limit = 0 then [] else d.trk.contacts.filter fun c => decide (c.atick + limit * 32768 ≤ f.tick)
  let nodes := stuck.flatMap fun c => (List.range 9).map fun i =>
    ((c.t : Int) + ((i / 3 : Nat) : Int) - 1, (c.r : Int) + ((i % 3 : Nat) : Int) - 1)
  let d := if stuck.isEmpty then d else (d.bump TRK_CNT_REACQ).baselineEvent 1 f.slot f.n
  (nodes, d.cancelIds (stuck.map Contact.id) 3)

/-- Contacts without a candidate for LIFT_FRAMES frames lift, and those whose peak has passed into a strip hand over
(R271, R559). -/
def Dev.liftStep (d : Dev) (f : FrameInfo) (si : Sight) : List Report × Dev :=
  let ovr := d.trk.contacts.filter fun c => c.miss != 0 && si.strips.any fun p => d.inReach c.x c.y p.1 p.2
  let up := d.trk.contacts.filter fun c =>
    decide (d.par secTrack 0x07 ≤ c.miss) && !ovr.any fun o => o.id == c.id
  let gone := ovr ++ up
  let d := d.setTrk { d.trk with
    contacts := d.trk.contacts.filter fun c => !gone.any fun o => o.id == c.id
    released := d.trk.released ++ gone.map Contact.id
    lastContact := if gone.isEmpty then d.trk.lastContact else some f.tick }
  (up.map (fun c => c.report 2 0) ++ ovr.map fun c => c.report 4 0, d)

/-- A candidate's peak lies within 2 electrodes of a joined edge whose neighbour handed a contact over (R560). -/
def Dev.handedIn (d : Dev) (k : Cand) (handed : List Nat) : Bool :=
  handed.any fun e => d.joinedEdges.contains e &&
    (match e with
      | 0 => decide (k.r < 2)
      | 1 => decide (d.ntx ≤ k.t + 2)
      | 2 => decide (d.nrx ≤ k.r + 2)
      | _ => decide (k.t < 2))

/-- May an unmatched candidate become a contact (R262, R263, R265)? -/
def Dev.mayForm (d : Dev) (k : Cand) : Bool :=
  let wet := d.flag TRK_STAT_WET
  if k.touched then !wet || k.confirmed else !wet && d.gloveMode != 0

/-- The candidate nearest to a prospect's last place among those in reach, by index (R270). -/
def Dev.nearestTo (d : Dev) (p : Prospect) (cands : List (Cand × Nat)) : Option (Cand × Nat) :=
  (cands.filter fun q => d.inReach p.cand.x p.cand.y q.1.x q.1.y).foldl (fun best q =>
    match best with
    | none => some q
    | some b => if dist2 p.cand.x p.cand.y q.1.x q.1.y < dist2 p.cand.x p.cand.y b.1.x b.1.y then some q else some b) none

/-- A prospect seen again as a candidate. -/
def Prospect.go (p : Prospect) (k : Cand) : Prospect :=
  ⟨k, p.count + 1, if dist2 p.cand.x p.cand.y k.x k.y ≤ 200 * 200 then p.still + 1 else 1⟩

/-- The prospects of a frame: each one of the frame before takes the nearest candidate that none has taken yet, and the
candidates left over are new ones (R265, R270). -/
def Dev.nextProspects (d : Dev) (cands : List Cand) : List Prospect :=
  let r := d.trk.prospects.foldl (fun (acc : List Prospect × List (Cand × Nat)) p =>
    match d.nearestTo p acc.2 with
    | none => acc
    | some q => (acc.1 ++ [p.go q.1], acc.2.filter fun o => o.2 != q.2)) ([], cands.zipIdx)
  r.1 ++ r.2.map fun q => ⟨q.1, 1, 1⟩

/-- Is a prospect ready to become live (R265, R270, R560)? -/
def Dev.ripe (d : Dev) (handed : List Nat) (p : Prospect) : Bool :=
  d.handedIn p.cand handed ||
    (if p.cand.touched || d.gloveMode == 2 then decide (d.par secTrack 0x06 ≤ p.count) else decide (3 ≤ p.still))

/-- The lowest ID that is free (R269). -/
def Dev.freeId (d : Dev) : Option Nat :=
  (List.range (d.par secTrack 0x16)).find? fun i =>
    !(d.trk.contacts.any fun c => c.id == i) && !d.trk.released.contains i && !d.trk.releasedPrev.contains i

/-- Contacts in ascending ID. -/
def insertContact (c : Contact) : List Contact → List Contact
  | [] => [c]
  | o :: rest => if c.id < o.id then c :: o :: rest else o :: insertContact c rest

/-- TRACK_LIMIT at most once per second, with the candidates refused in the last second (R279). -/
def Dev.refuseCands (d : Dev) (n tick frame : Nat) : Dev :=
  if n = 0 then d
  else
    let recent := ((tick, n) :: d.trk.refused).filter fun p => decide (tick < p.1 + 32768)
    let d := (d.setTrk { d.trk with refused := recent }).bumpBy TRK_LIMIT_REFUSED n
    let due := match d.trk.limitTick with
      | none => true
      | some t => decide (t + 32768 ≤ tick)
    if due then
      (d.setTrk { d.trk with limitTick := some tick }).ring 34 (word ((recent.map Prod.snd).sum)) (word frame)
    else d

/-- New contacts from the candidates left: the ripe ones by the largest D first, each with the lowest free ID; wet mode
accepts one only while fewer than WET_MAXC contacts exist (R263, R269, R270, R279). -/
def Dev.formStep (d : Dev) (f : FrameInfo) (cands : List Cand) (taken handed : List Nat) : List Report × Dev :=
  let rest := (cands.zipIdx.filter fun p =>
    !taken.contains p.2 && d.mayForm p.1 && !d.palmBars f.tick p.1.x p.1.y).map Prod.fst
  let pros := d.nextProspects rest
  let ripe := (pros.filter (d.ripe handed)).mergeSort fun a b => decide (b.cand.delta ≤ a.cand.delta)
  let wet := d.flag TRK_STAT_WET
  let (reports, live, refused, d) := ripe.foldl (fun (acc : List Report × List Prospect × Nat × Dev) p =>
    let (reps, live, no, d) := acc
    if wet ∧ d.par secTrack 0x13 ≤ d.trk.contacts.length then (reps, live, no, d)
    else match d.freeId with
      | none => (reps, live, no + 1, d)
      | some id =>
        let c := p.cand.contact id f.tick d.trk.contacts.isEmpty
        (reps ++ [c.report 0 0], p :: live, no, d.setTrk { d.trk with contacts := insertContact c d.trk.contacts }))
    ([], [], 0, d)
  let d := d.setTrk { d.trk with prospects := pros.filter fun p => !live.contains p }
  (reports, d.refuseCands refused f.tick f.n)

/-- Contacts are no longer alone once a second one is live (R313). -/
def Dev.soleStep (d : Dev) : Dev :=
  if d.trk.contacts.length ≤ 1 then d
  else d.setTrk { d.trk with contacts := d.trk.contacts.map fun c => { c with sole := false } }

/-- TRK_STAT.GLOVE and LIVE, and GLOVE_MODE when GLOVE changes (R266, R294). -/
def Dev.trackFlags (d : Dev) (frame : Nat) : Dev :=
  let d := (d.setFld TRK_STAT_LIVE d.trk.contacts.length).setFlag TRK_STAT_GLOVE (d.trk.contacts.any Contact.glove)
  let g := d.gloveMode
  if d.trk.glove = some g then d
  else
    let first := d.trk.glove.isNone
    let d := d.setTrk { d.trk with glove := some g }
    if first then d else d.ring 32 (word (bit (g != 0))) (word frame)

/-- REDUCED of a frame's header: set and announced (R280). -/
def Dev.reducedStep (d : Dev) (f : FrameInfo) : Dev :=
  let now := wGet (f.header.getD 4 0) 0 1 == 1
  if now = d.flag TRK_STAT_REDUCED then d
  else (d.setFlag TRK_STAT_REDUCED now).ring 35 (if now then 0 else 2) (word f.n)

/-- More than 25 % of the mutual samples are 0x800000 (R277). -/
def Dev.mostlyOver (d : Dev) (bank : Nat) : Bool :=
  let n := d.ntx * d.nrx
  let ovr := ((List.range n).filter fun i => (d.sampleOf bank i).isNone).length
  decide (n < 4 * ovr)

/-- A frame is untracked (R277). -/
def Dev.untracked (d : Dev) (f : FrameInfo) : Bool :=
  let w := f.header.getD 4 0
  !f.buffer || f.omitted || wGet w 1 1 == 1 || wGet w 8 1 == 1 || d.mostlyOver (f.n % 4)

/-- An untracked frame: every contact keeps its place; after 250 ms of them in a row the live contacts are cancelled
(R277, R278). -/
def Dev.trackHeld (d : Dev) (f : FrameInfo) : Dev :=
  let since := d.trk.heldSince.getD f.tick
  let d := (d.setTrk { d.trk with heldSince := some since }).setFlag TRK_STAT_HELD true
  if since + 8192 ≤ f.tick ∧ d.trk.heldDone = false then
    ((d.setTrk { d.trk with heldDone := true }).cancelLive 4).ring 35 1 (word f.n)
  else d

/-- The end of a run of untracked frames (R278). -/
def Dev.trackResumed (d : Dev) (f : FrameInfo) : Dev :=
  let done := d.trk.heldDone
  let d := (d.setTrk { d.trk with heldSince := none, heldDone := false }).setFlag TRK_STAT_HELD false
  if done then d.ring 35 2 (word f.n) else d

/-- A tracked frame: baselines, noise, contacts; answers the DOWN, MOVE, UP and HANDOVER records of the frame. -/
def Dev.trackLive (d : Dev) (f : FrameInfo) (handed : List Nat) : List Report × Dev :=
  let d := (d.trackResumed f).reducedStep f
  let d := d.setTrk { d.trk with
    releasedPrev := d.trk.released, released := [], span := d.trk.span + framePeriod d.frameRate }
  let (s, d) := d.prepareSlot f
  if s.acq ∨ d.trk.selfAcq ∨ d.trk.self.isEmpty then
    let d := d.updateNodes f s [] []
    (([] : List Report), d.updateSelf (f.n % 4) f.tick f.slot f.n)
  else
    let (si, d) := d.look f s
    let d := d.palmStep f si
    let (taken, d) := d.matchStep f si.cands
    let d := d.wetStep f si.water
    let (reacq, d) := d.stuckStep f
    let (ups, d) := d.liftStep f si
    let moves := d.trk.contacts.map fun c => c.report 1 0
    let (downs, d) := d.formStep f si.cands taken handed
    let d := d.soleStep
    let still := (si.touched.flatMap fun c => (List.range 9).map fun i =>
      (c.t + ((i / 3 : Nat) : Int) - 1, c.r + ((i % 3 : Nat) : Int) - 1)) ++ si.weak.map fun c => (c.t, c.r)
    let d := d.updateNodes f s still reacq
    let d := d.updateSelf (f.n % 4) f.tick f.slot f.n
    let d := d.setTrk { d.trk with lastContact := if d.trk.contacts.isEmpty then d.trk.lastContact else some f.tick }
    (ups ++ moves ++ downs, d)

/-- Tracking of one frame: its noise figures, its contacts when it is tracked, and the hop decision (R256 to R260, R277).
Answers whether the frame was tracked, and its contact records but for cancels, which stand in `trk.pending`. -/
def Dev.trackFrame (d : Dev) (f : FrameInfo) (handed : List Nat) : Bool × List Report × Dev :=
  let d := d.renewChannels f
  let d := if f.buffer then d.updateNoise (f.n % 4) f.chans else d
  let d := d.judgeNoisy f.tick
  let d := d.setFlag TRK_STAT_REFRESH f.refresh
  if d.untracked f then (false, [], (d.trackHeld f).trackFlags f.n)
  else
    let (reps, d) := d.trackLive f handed
    (true, reps, d.judgeHop.trackFlags f.n)

/-- BLSTATE of TRK_STAT (R294): of the present slot. -/
def Dev.blState (d : Dev) : Nat :=
  match d.trk.slotBase d.trk.slot with
  | none => 0
  | some s => if s.acq then 1 else if s.nodes.any Node.acquiring then 3 else 2

/-- The strip of an edge: D / B of the two lines nearest it, in 2^-20, by t, then by r (R555). -/
def Dev.stripVals (d : Dev) (f : FrameInfo) (edge : Nat) : List Word × Dev :=
  let places := match edge with
    | 0 => (List.range d.ntx).flatMap fun t => [(t, 0), (t, 1)]
    | 1 => (List.range (2 * d.nrx)).map fun i => (d.ntx - 2 + i / d.nrx, i % d.nrx)
    | 2 => (List.range d.ntx).flatMap fun t => [(t, d.nrx - 2), (t, d.nrx - 1)]
    | _ => (List.range (2 * d.nrx)).map fun i => (i / d.nrx, i % d.nrx)
  let nodes := match d.trk.slotBase f.slot with
    | some s => if s.acq then [] else s.nodes
    | none => []
  places.foldl (fun (acc : List Word × Dev) p =>
    let i := p.1 * d.nrx + p.2
    match nodes[i]?, acc.2.sampleOf (f.n % 4) i with
    | some nd, some v =>
      if nd.left ≠ 0 ∨ nd.excluded ∨ nd.base ≤ 0 then (acc.1 ++ [overloadMark], acc.2)
      else
        let (q, d) := acc.2.ratio ((nd.base - v) * 1048576) nd.base.toNat
        (acc.1 ++ [sampleWord q], d)
    | _, _ => (acc.1 ++ [overloadMark], acc.2)) ([], d)

/-- The code of a STRIP message (R572). -/
abbrev msgStrip : Nat := 10

/-- STRIP_SEND: at the end of its self-capacitance scan a tile sends one strip over each joined seam (R555). -/
def Dev.stripSend (d : Dev) (f : FrameInfo) : Dev :=
  if f.buffer then
    d.joinedEdges.foldl (fun d e =>
      let (vals, d) := d.stripVals f e
      d.send msgStrip (d.neighbourXY e) (word f.n :: word e :: vals)) d
  else d

/-- SELF_SCAN_END: the frame's buffer is completed and handed over, the strips go out, and the gap begins (R27, R227,
R555). -/
def Dev.selfScanEnd (d : Dev) (listen : List (Word × Word)) (selfs chipsI chipsQ : List Word) (trips : List (Nat × Nat)) : Dev :=
  match d.scan.cur with
  | none => d
  | some f => (((d.endScan f listen selfs chipsI chipsQ).limitTrips trips).stripSend f).enterGap

/-- SELF_SCAN_END (R27). -/
def execSelfScanEnd (listen : List (Word × Word)) (selfs chipsI chipsQ : List Word) (trips : List (BitVec 8 × BitVec 8))
    (s : State) : Host.Outcome State Fault Refusal :=
  s.run fun d => d.selfScanEnd listen selfs chipsI chipsQ (trips.map fun p => (p.1.toNat, p.2.toNat))

end Sys2Proof.Machine
end

