-- ==== Sys2Proof/Machine/Report.lean ====
section
/-!
DEFINITION. Report.lean: contact reports, frame records, gestures and diagnostic capture (09_reports_and_gestures.md).
-/

namespace Sys2Proof.Machine

def Dev.setRpt (d : Dev) (r : Reports) : Dev := { d with rpt := r }

/-! Coordinates (R295 to R297). -/

/-- Tile coordinates after ORIENT: swap, then mirror x, then mirror y; ignored on a surface of more than one tile
(R296). -/
def Dev.orient (d : Dev) (x y : Int) : Int × Int :=
  let o := if d.onSurface then 0 else d.par secReports 0x03
  let swap := o.testBit 0
  let p := if swap then (y, x) else (x, y)
  let e : Nat × Nat := if swap then (d.extY, d.extX) else (d.extX, d.extY)
  (if o.testBit 1 then (e.1 : Int) - p.1 else p.1, if o.testBit 2 then (e.2 : Int) - p.2 else p.2)

/-- A coordinate held within 0 and a bound. -/
def clampCoord (v : Int) (top : Nat) : Nat := min v.toNat top

/-- Surface coordinates of a tile position, saturating at 0 and 0xFFFFFF (R297, R561). -/
def Dev.surfaceXY (d : Dev) (tileX tileY : Nat) (x y : Int) : Nat × Nat :=
  let o := d.originOf tileX tileY
  (clampCoord ((o.1 : Int) + x) 0xFFFFFF, clampCoord ((o.2 : Int) + y) 0xFFFFFF)

/-! Records (R301 to R305). -/

def Report.typeBit (r : Report) : Nat := bit r.glove

/-- A compact contact record (R301), or a cancel record (R303). -/
def Dev.compact (d : Dev) (r : Report) : Dev :=
  let p := d.orient r.x r.y
  let w1 := pack [(r.id % 32, 19), (clampCoord p.1 0x7FFFF, 0)]
  if r.kind = 3 then d.ring 36 w1 (pack [(r.reason, 20), (clampCoord p.2 0x7FFFF, 0)])
  else d.ring 16 w1 (pack [(r.kind, 21), (r.typeBit, 19), (clampCoord p.2 0x7FFFF, 0)])

/-- W1 and W2 of record B of a surface contact pair (R304). -/
def pairB1 (id kind type reason : Nat) : Word := pack [(id % 1024, 14), (kind % 8, 11), (type, 9), (reason % 16, 5)]
def pairB2 (tx ty size strength : Nat) : Word := pack [(tx % 32, 19), (ty % 32, 14), (min size 63, 8), (min strength 255, 0)]

/-- A surface contact pair of a standalone tile (R297, R304, R305). -/
def Dev.surfacePair (d : Dev) (r : Report) : Dev :=
  let p := d.orient r.x r.y
  let q := d.surfaceXY d.tileX d.tileY p.1 p.2
  d.ringPair (word q.1) (word q.2) (pairB1 r.id r.kind r.typeBit (if r.kind = 3 then r.reason else 0))
    (pairB2 d.tileX d.tileY r.size r.strength)

/-- The records of one contact under REPORT_MODE: compact, the pair, or the compact one followed by the pair (R298,
R308). -/
def Dev.contactRecord (d : Dev) (r : Report) : Dev :=
  match d.par secReports 0x01 with
  | 0 => d.compact r
  | 1 => d.surfacePair r
  | _ => (d.compact r).surfacePair r

/-- Reports in ascending ID. -/
def byId (rs : List Report) : List Report := rs.mergeSort fun a b => decide (a.id ≤ b.id)

/-! Gestures in IDLE and ACTIVE (R312, R313, R321). -/

/-- A gesture of CODE is enabled in ACT_GEST (R330). -/
def Dev.gestOn (d : Dev) (code : Nat) : Bool := (d.par secReports 0x04).testBit (code - 1)

/-- W1 and W2 of a gesture record (R312); the start in tile coordinates of 10 µm. -/
def Dev.gestureWords (d : Dev) (code region : Nat) (woke : Bool) (id : Nat) (x y : Int) : Word × Word :=
  let p := d.orient x y
  (pack [(code, 20), (region, 16), (bit woke, 15), (d.tileX, 10), (d.tileY, 5), (id % 32, 0)],
    pack [(clampCoord (p.1 / 100) 0xFFF, 12), (clampCoord (p.2 / 100) 0xFFF, 0)])

def Contact.gesture (d : Dev) (c : Contact) (code : Nat) : Word × Word := d.gestureWords code 15 false c.id c.startX c.startY

/-- The direction of a swipe from a displacement in reported axes: 2 up, 3 down, 4 left, 5 right, within ±30° of the axis
(R174, R313). -/
def swipeCode (dx dy : Int) : Option Nat :=
  if 3 * dx * dx ≤ dy * dy ∧ dy ≠ 0 then some (if dy < 0 then 2 else 3)
  else if 3 * dy * dy ≤ dx * dx ∧ dx ≠ 0 then some (if dx < 0 then 4 else 5)
  else none

/-- The swipe from one place to another in tile coordinates: at least SWIPE_MIN along an axis as reported (R174). -/
def Dev.swipeBetween (d : Dev) (ax ay bx by_ : Int) : Option Nat :=
  let a := d.orient ax ay
  let b := d.orient bx by_
  if (d.par secModes 0x0F 1 * 100) ^ 2 ≤ dist2 b.1 b.2 a.1 a.2 then swipeCode (b.1 - a.1) (b.2 - a.2) else none

/-- A swipe within the last 500 ms of a trail, and the place where it began: the earliest place that makes one (R174; which
place of several is a DESIGN CHOICE, log entry 39). -/
def Dev.swipeOf (d : Dev) (trail : List (Nat × Int × Int)) (x y : Int) : Option (Nat × Int × Int) :=
  trail.reverse.findSome? fun p => (d.swipeBetween p.2.1 p.2.2 x y).map fun k => (k, p.2.1, p.2.2)

/-- Gestures of the sole live contact: touch at its DOWN, a swipe, a long press (R174, R313). -/
def Dev.liveGestures (d : Dev) (tick : Nat) (downs : List Nat) : List (Word × Word) × Dev :=
  d.trk.contacts.foldl (fun acc c =>
    let d := acc.2
    if !c.sole || c.gestured then acc
    else
      let touch := if downs.contains c.id ∧ d.gestOn 8 then [c.gesture d 8] else []
      let swipe := (d.swipeOf c.trail c.x c.y).filter fun k => d.gestOn k.1
      let long := !c.moved && !shorterMs c.startTick tick (d.par secModes 0x0F 2) && d.gestOn 7
      let made := match swipe with
        | some k => some (d.gestureWords k.1 15 false c.id k.2.1 k.2.2)
        | none => if long then some (c.gesture d 7) else none
      match made with
      | none => (acc.1 ++ touch, d)
      | some g =>
        let cs := d.trk.contacts.map fun o => if o.id == c.id then { o with gestured := true } else o
        (acc.1 ++ touch ++ [g], d.setTrk { d.trk with contacts := cs })) ([], d)

/-- The contact c is the second of a double tap whose first is held: both shorter than 300 ms, within DTAP_GAP and 10 mm
(R174, R313). -/
def Dev.secondTap (d : Dev) (c : Contact) (tick : Nat) : Bool :=
  match d.rpt.heldTap with
  | some (_, x, y, t, short) => short && shorterMs c.startTick tick 300 &&
      withinMs t c.startTick (d.par secModes 0x0F 0) && decide (dist2 c.startX c.startY x y ≤ 1000 * 1000)
  | none => false

/-- A lift that is a tap (R313): raised, or held for a double tap, or the second of one. -/
def Dev.tapGesture (d : Dev) (c : Contact) (tick : Nat) : List (Word × Word) × Dev :=
  if !c.sole || c.gestured || c.moved || !withinMs c.startTick tick (d.par secReports 0x05) then ([], d)
  else if d.gestOn 1 then
    match d.secondTap c tick, d.rpt.heldTap with
    | true, some (id, x, y, _) => ([d.gestureWords 1 15 false id x y], d.setRpt { d.rpt with heldTap := none })
    | _, held =>
      let old := match held with
        | some (id, x, y, _) => if d.gestOn 9 then [d.gestureWords 9 15 false id x y] else []
        | none => []
      (old, d.setRpt { d.rpt with heldTap := some (c.id, c.startX, c.startY, tick, shorterMs c.startTick tick 300) })
  else if d.gestOn 9 then ([c.gesture d 9], d)
  else ([], d)

/-- The gestures of a tracked frame; `before` holds the contacts as they stood before it. -/
def Dev.frameGestures (d : Dev) (tick : Nat) (before : List Contact) (reps : List Report) : List (Word × Word) × Dev :=
  let downs := (reps.filter fun r => r.kind == 0).map Report.id
  let lifted := before.filter fun c => reps.any fun r => r.id == c.id && r.kind == 2
  let (taps, d) := lifted.foldl (fun (acc : List (Word × Word) × Dev) c =>
    let (g, d) := acc.2.tapGesture c tick
    (acc.1 ++ g, d)) ([], d)
  let (live, d) := d.liveGestures tick downs
  (taps ++ live, d)

/-- A gesture record raised by this tile (R312). -/
def Dev.raiseGesture (d : Dev) (g : Word × Word) : Dev := d.ring 38 g.1 g.2

/-- TAP_HOLD_EXPIRY (R313): the held tap is raised, when taps are enabled. -/
def Dev.tapHoldExpiry (d : Dev) : Dev :=
  match d.rpt.heldTap with
  | none => d
  | some (id, x, y, _) =>
    let g := d.gestureWords 9 15 false id x y
    let d := d.setRpt { d.rpt with heldTap := none }
    if !d.gestOn 9 then d
    else if d.onSurface then { d with surf := { d.surf with gestures := d.surf.gestures ++ [g] } }
    else d.raiseGesture g

/-- TAP_HOLD_EXPIRY (R313). -/
def execTapHoldExpiry (s : State) : Host.Outcome State Fault Refusal := s.run Dev.tapHoldExpiry

/-! Frame-end and resync (R306 to R311). -/

/-- The flags of a frame for its frame-end record, but for LIVE, RESYNC, LOSS and PARTIAL (R306). -/
def Dev.frameFlags (d : Dev) (f : FrameInfo) (tracked : Bool) : Word :=
  let h := f.header.getD 4 0
  pack [(bit (d.flag CFG_STAT_MIXED), 12), (wGet h 2 1, 11), (wGet h 0 1, 10), (bit (!tracked), 9),
    (bit (d.flag TRK_STAT_WET), 8), (bit (d.flag TRK_STAT_NOISY), 7), (bit (d.flag TRK_STAT_GLOVE), 6),
    (bit (d.flag TRK_STAT_PALM), 5), (bit f.transition, 4), (wGet h 6 1, 1)]

/-- The frame-end record with LIVE and RESYNC; LIVE is shown in TRK_RPT_STAT (R306, R331). -/
def Dev.frameEnd (d : Dev) (n live : Nat) (flags : Word) (resync : Bool) : Dev :=
  let w2 := wSet (wSet flags 13 11 live) 3 1 (bit resync)
  let d := d.setFld TRK_RPT_STAT_LIVE live
  (d.setRpt { d.rpt with lastFlags := w2 }).ring 19 (word n) w2

/-- The records of one frame share its number as their report group (R346). -/
def Dev.inGroup (d : Dev) (n : Nat) (f : Dev → Dev) : Dev :=
  let d := f { d with evr := { d.evr with group := some n } }
  { d with evr := { d.evr with group := none } }

/-- MOVE records are left out when REPORT_ALL is 0 and the coordinates equal those of the last record (R299). -/
def Dev.wanted (d : Dev) (r : Report) : Bool :=
  r.kind != 1 || d.par secReports 0x02 == 1 ||
    (match d.trk.contacts.find? fun c => c.id == r.id with
      | some c => decide (c.repX ≠ r.x ∨ c.repY ≠ r.y)
      | none => true)

/-- The coordinates of a contact's last record noted (R299). -/
def Dev.noteReported (d : Dev) (r : Report) : Dev :=
  let cs := d.trk.contacts.map fun c => if c.id == r.id then { c with repX := r.x, repY := r.y } else c
  d.setTrk { d.trk with contacts := cs }

/-- The frame's baselines are valid (R328). -/
def Dev.baselinesValid (d : Dev) (slot : Nat) : Bool :=
  match d.trk.slotBase slot with
  | some s => !s.acq && !d.trk.selfAcq
  | none => false

/-- A resync burst is due in a tracked frame: one asked for in the first, one of a start or a wake in the first with valid
baselines (R310, R328). -/
def Dev.burstDue (d : Dev) (tracked valid : Bool) : Bool := tracked && (d.rpt.burstAsked || (d.rpt.burstStart && valid))

/-- The bursts that a burst in a frame answers; one of a start goes on waiting for valid baselines (R322, R328). -/
def Dev.burstDone (d : Dev) (valid : Bool) : Dev :=
  let later := d.rpt.burstStart && !valid
  (d.setRpt { d.rpt with burstAsked := false, burstStart := later }).setFlag TRK_RPT_STAT_RSPEND later

/-- A resync burst: source 37, then one RESYNC record for every live contact (R311). -/
def Dev.resyncBurst (d : Dev) (n : Nat) (valid : Bool) : Dev :=
  let live := d.trk.contacts.map fun c => c.report 4 0
  let d := (d.ring 37 (word live.length) (word n)).bump TRK_RPT_CNT_RESYNCS
  (live.foldl (fun d r => (d.contactRecord r).noteReported r) d).burstDone valid

/-- The records of a frame of a standalone tile in the order of R308; cancels of a core restart come first (R327). -/
def Dev.standaloneReports (d : Dev) (f : FrameInfo) (tracked valid : Bool) (reps : List Report) (gestures : List (Word × Word)) :
    Dev :=
  let burst := d.burstDue tracked valid
  let flags := d.frameFlags f tracked
  d.inGroup f.n fun d =>
    let d := if burst then d.resyncBurst f.n valid
      else
        let restart := if tracked then d.trk.restartCancels else []
        let d := (byId (restart ++ d.trk.pending)).foldl Dev.contactRecord d
        ((byId reps).filter d.wanted).foldl (fun d r => (d.contactRecord r).noteReported r) d
    let d := gestures.foldl Dev.raiseGesture d
    let d := d.setTrk { d.trk with
      pending := [], restartCancels := if tracked then [] else d.trk.restartCancels
      reported := d.trk.contacts.map fun c => c.report 1 0 }
    if f.buffer || f.gap then d.frameEnd f.n d.trk.contacts.length flags burst else d

/-! The resync request and the baseline reset. -/

/-- RESYNC: a write of TRK_RPT_CTRL.RESYNC = 1 requests a burst (R310). -/
def Dev.writeRptCtrl (d : Dev) (v : Word) : Dev := if wGet v 0 1 = 1 then d.askBurst else d

/-- RESYNC (R310). -/
def execResync (value : Word) (s : State) : Host.Outcome State Fault Refusal := s.run fun d => d.writeRptCtrl (value ||| 1)

/-- A write of TRK_CTRL: the overrides are stored, and BLRESET waits for the next frame boundary (R285, R294). -/
def Dev.writeTrkCtrl (d : Dev) (v : Word) : Dev :=
  let d := d.storeReg TRK_CTRL v
  if wGet v 0 1 = 1 then d.setTrk { d.trk with blReset := true } else d

/-- BLRESET (R285). -/
def execBlreset (value : Word) (s : State) : Host.Outcome State Fault Refusal := s.run fun d => d.writeTrkCtrl (value ||| 1)

/-- What a frame's boundary does to tracking, once tracking reaches the frame, or at once where the frame is not scanned: live
contacts are cancelled with a reason of R275, and where asked every baseline is dropped. BLRESET, reason 9, raises
BASELINE_EVENT (R285, R510, R511). -/
def Dev.trackBoundary (d : Dev) (resets : List (Nat × Bool)) (slot n : Nat) : Dev :=
  resets.foldl (fun d r =>
    let d := d.cancelLive r.1
    let d := if r.2 then d.dropBaselines else d
    if r.1 = 9 then d.baselineEvent 3 slot n else d) d

/-! Diagnostic capture (R316 to R326). -/

/-- A plane is selected: bit 0 header, 1 listen, 2 self, 3 I, 4 Q. -/
def Dev.capPlane (d : Dev) (k : Nat) : Bool := d.rpt.planes.testBit k

/-- The pieces of a frame buffer that a capture copies, in order: first word and length, an element of the gather engine each
(R317, R679). -/
def Dev.capPieces (d : Dev) : List (Nat × Nat) :=
  let n := d.ntx * d.nrx
  let part := fun (k base len : Nat) =>
    if d.capPlane k then ([(base, min len 4096), (base + 4096, len - 4096)].filter fun p => p.2 != 0) else []
  part 0 0 16 ++ part 1 16 544 ++ part 2 560 160 ++ part 3 1024 n ++ part 4 8192 n

def Dev.capLength (d : Dev) (planes : Nat) : Nat :=
  let n := d.ntx * d.nrx
  let part := fun (k len : Nat) => if planes.testBit k then len else 0
  part 0 16 + part 1 544 + part 2 160 + part 3 n + part 4 n

/-- The capture ends with a RESULT (R318, R326, R331); `raise` as R318 and R326 ask. -/
def Dev.capEnd (d : Dev) (result : Nat) (frame : Nat) (raise : Bool) : Dev :=
  let d := (d.setFlag TRK_CAP_STAT_BUSY false).setFld TRK_CAP_STAT_RESULT result
  let d := d.setRpt { d.rpt with copying := none, stopping := false }
  if raise then d.ring 39 (d.reg TRK_CAP_STAT) (word frame) else d

/-- ARM on a tile with no capture armed: out of range, or with bank 15 not host-owned, it fails (R316, R318, R326). -/
def Dev.capArm (d : Dev) : Dev :=
  let asked := d.fld TRK_CAP_CTRL_PLANES
  let noq := asked.testBit 4 && !d.flag SCAN_CTRL_IQ
  let planes := if noq then asked - 16 else asked
  let len := d.capLength planes
  let d := (d.setFld TRK_CAP_LEN_LEN len).setFlag TRK_CAP_STAT_NOQ noq
  if 16384 < d.fld TRK_CAP_DST_WORD + len then d.setFld TRK_CAP_STAT_RESULT 2
  else if d.owner 15 ≠ 8 then d.capEnd 3 d.time.frame true
  else
    let d := ((d.setFlag TRK_CAP_STAT_BUSY true).setFld TRK_CAP_STAT_RESULT 0).setFld TRK_CAP_STAT_DONE 0
    d.setRpt { d.rpt with skip := 0, copying := none, copied := false, stopping := false, planes := planes }

/-- STOP: the capture ends after the copy in progress, or at once when none is (R316). -/
def Dev.capStop (d : Dev) : Dev :=
  if d.flag TRK_CAP_STAT_BUSY = false then d
  else if d.rpt.copying.isSome then d.setRpt { d.rpt with stopping := true }
  else d.capEnd 0 d.time.frame false

/-- A write of TRK_CAP_CTRL: one with ARM while a capture is armed is ignored and counted (R324); else STOP acts, then ARM. -/
def Dev.writeCapCtrl (d : Dev) (v : Word) : Dev :=
  if wGet v 0 1 = 1 ∧ d.flag TRK_CAP_STAT_BUSY = true then d.ignoreWrite
  else
    let d := d.storeReg TRK_CAP_CTRL v
    let d := if wGet v 1 1 = 1 then d.capStop else d
    if wGet v 0 1 = 1 then d.capArm else d

/-- ARM (R316). -/
def execArm (value : Word) (s : State) : Host.Outcome State Fault Refusal := s.run fun d => d.writeCapCtrl (value ||| 1)

/-- STOP (R316). -/
def execStop (value : Word) (s : State) : Host.Outcome State Fault Refusal := s.run fun d => d.writeCapCtrl (value ||| 2)

/-- The capture reads another tile through the link (R319). -/
def Dev.capRemote (d : Dev) : Bool :=
  d.isManager && d.fld TRK_CAP_TILE_X * 32 + d.fld TRK_CAP_TILE_Y != d.ownXY

/-! Console commands. -/

/-- TRK_HOP: the noise figures, the present slot and the last 8 hops (R257). -/
def execTrkHop (s : State) : Host.Outcome State Fault Refusal :=
  s.run fun d => d.command .trkHop fun d => (d.print (.values 0x40 ((List.range 8).map (fun k =>
    word (d.noise k)) ++ word d.trk.slot :: d.trk.hops))).finishOk

/-- TRK_BASE: the baselines of node (t, r) by slot, and its present D / B in 0.1 % (R245). -/
def Dev.trkBase (d : Dev) (t r : Nat) : Dev :=
  if t < d.ntx ∧ r < d.nrx then
    let i := t * d.nrx + r
    let words := d.trk.slots.flatMap fun s => [word s.slot, wordI (s.nodes.getD i {}).base]
    let now := match d.trk.slotBase d.trk.slot, d.sampleOf (d.fld SCAN_FRAME_LAST % 4) i with
      | some s, some v =>
        let b := (s.nodes.getD i {}).base
        if b ≤ 0 then [] else [wordI ((b - v) * 1000 / b)]
      | _, _ => []
    (d.print (.values 0x41 (words ++ now))).finishOk
  else d.finishErr 5

/-- TRK_BASE (R245). -/
def execTrkBase (t r : BitVec 8) (s : State) : Host.Outcome State Fault Refusal :=
  s.run fun d => d.command (.trkBase t r) fun d => d.trkBase t.toNat r.toNat

/-- TRK_BLRESET: writes TRK_CTRL.BLRESET from the console (R285). -/
def execTrkBlreset (s : State) : Host.Outcome State Fault Refusal :=
  s.run fun d => d.command .trkBlreset fun d =>
    if d.fullSet then (d.writeTrkCtrl (d.reg TRK_CTRL ||| 1)).finishOk else d.finishErr 6

/-- TRK_RPT: the report status and counters (R331). -/
def execTrkRpt (s : State) : Host.Outcome State Fault Refusal :=
  s.run fun d => d.command .trkRpt fun d => (d.print (.values 0x42 [d.reg TRK_RPT_STAT, d.reg TRK_RPT_CNT,
    d.rpt.lastFlags])).finishOk

/-- TRK_CAP: captures one frame of the named planes into bank 15 (R316). -/
def Dev.consoleCap (d : Dev) (planes : Nat) : Dev :=
  if !d.fullSet then d.finishErr 6
  else if d.flag TRK_CAP_STAT_BUSY then d.finishErr 8
  else (d.writeCapCtrl (pack [(1, 8), (planes, 2), (1, 0)])).finishOk

/-- TRK_CAP (R316). -/
def execTrkCap (planes : BitVec 5) (s : State) : Host.Outcome State Fault Refusal :=
  s.run fun d => d.command (.trkCap planes) fun d => d.consoleCap planes.toNat

/-- TRK registers that are views (R294, R331). -/
def Dev.trkView (d : Dev) (a : Nat) : Option Word :=
  if a = TRK_STAT then some (wSet (wSet (d.reg a) 15 2 d.blState) 12 3 (d.trk.hop.getD d.trk.slot))
  else if a = TRK_RPT_STAT then
    some (wSet (d.reg a) 11 2 (if d.onSurface then 1 else if 6 ≤ d.pwr.step then d.par secReports 0x01 else 0))
  else if a = TRK_CAP_TILE ∧ d.isManager = false then some 0
  else none

end Sys2Proof.Machine
end

