-- ==== Sys2Proof/Machine/Hid.lean ====
section
/-!
DEFINITION. Hid.lean: the HID report sets of the frames (13_usb.md, R467 to R473).
-/

namespace Sys2Proof.Machine

def Dev.setUsb (d : Dev) (u : Usb) : Dev := { d with usb := u }

/-- Report sets are built in state 4 with the HID interface, and not during suspend (R480). -/
def Dev.hidOn (d : Dev) : Bool :=
  d.fld USB_STAT_STATE == 4 && d.par secHost 0x12 == 1 && !d.flag USB_STAT_SUSP

/-- 16 bits, least significant byte first. -/
def le16 (n : Nat) : List Byte := [BitVec.ofNat 8 n, BitVec.ofNat 8 (n / 256)]

/-- A contact slot of input report 1 (R468). -/
def HidContact.bytes (c : HidContact) (shift : Nat) : List Byte :=
  BitVec.ofNat 8 (bit c.tip + 2 * bit c.conf) :: (le16 c.id ++ le16 (c.x / 2 ^ shift) ++ le16 (c.y / 2 ^ shift))

/-- Input report 1 with up to 8 contacts, the frame's scan time, its contact count and its vendor flags (R468). -/
def hidReport (shift : Nat) (cs : List HidContact) (time count flags : Nat) : List Byte :=
  let slots := cs.flatMap fun c => c.bytes shift
  1#8 :: (slots ++ List.replicate (56 - slots.length) 0#8 ++ le16 time ++ [BitVec.ofNat 8 count, BitVec.ofNat 8 flags])

/-- Scan time of a frame start in units of 100 µs, mod 65,536 (R468). -/
def scanTime (sec frac : Nat) : Nat := (sec * 10000 + frac * 10000 / 16777216) % 65536

/-- The reports of a set: the contact count stands in the first one alone (R468, R469). -/
def hidReports (shift time flags : Nat) (cs : List HidContact) : List (List Byte) :=
  (List.range ((cs.length + 7) / 8)).map fun i =>
    hidReport shift ((cs.drop (8 * i)).take 8) time (if i = 0 then cs.length else 0) flags

/-- Contacts in ascending ID. -/
def hidSort (cs : List HidContact) : List HidContact := cs.mergeSort fun a b => decide (a.id ≤ b.id)

/-- No report of the newest set has been sent, though reports stand before it or it stands alone (R472). -/
def Dev.hidWaiting (d : Dev) : Bool := if d.usb.setStarted then !d.usb.nextReports.isEmpty else !d.usb.reports.isEmpty

/-- A new set takes its place: at the head when nothing is being sent, else behind the set being sent (R472). -/
def Dev.hidPut (d : Dev) (rs : List (List Byte)) (gone : List HidContact) : Dev :=
  let u := { d.usb with carried := gone, owed := [], resync := false }
  if d.usb.setStarted && !d.usb.reports.isEmpty then d.setUsb { u with nextReports := rs }
  else d.setUsb { u with reports := rs, setStarted := false, nextReports := [] }

/-- The set of a tracked frame: contacts cancelled, then lifted, then live; a waiting older set is discarded and its
cancelled and lifted contacts are carried over (R469 to R472). -/
def Dev.hidFrame (d : Dev) (sec frac : Nat) (flags : Word) (cancels lifts live : List HidContact) : Dev :=
  if !d.hidOn then d.setUsb { d.usb with owed := [] }
  else if (d.usb.owed ++ cancels ++ lifts ++ live).isEmpty then d
  else
    let skip := d.hidWaiting
    let old := if skip then d.usb.carried else []
    let cancels := hidSort (old.filter (!·.conf) ++ d.usb.owed ++ cancels)
    let lifts := hidSort (old.filter (·.conf) ++ lifts)
    let all := cancels ++ lifts ++ hidSort live
    let trunc := decide (64 < all.length)
    let d := if skip then d.bump USB_HIDCNT_SKIPPED else d
    let d := if trunc then d.bump USB_HIDCNT_TRUNC else d
    let v := bit trunc + 2 * bit skip + 4 * wGet flags 10 1 + 8 * wGet flags 8 1 + 16 * bit (d.usb.resync || skip)
    d.hidPut (hidReports (d.fld USB_HID_SHIFT) (scanTime sec frac) v (all.take 64)) (cancels ++ lifts)

/-- Contacts cancelled outside a tracked frame wait for the next set. -/
def Dev.hidOwe (d : Dev) (cs : List HidContact) : Dev := d.setUsb { d.usb with owed := d.usb.owed ++ cs }

/-- A tile contact as the sets of a standalone tile show it: tile contact ID, ORIENT and the origin of R297 (R470). -/
def Dev.hidOf (d : Dev) (tip conf : Bool) (r : Report) : HidContact :=
  let p := d.orient r.x r.y
  let q := d.surfaceXY d.tileX d.tileY p.1 p.2
  ⟨r.id, q.1, q.2, tip, conf⟩

end Sys2Proof.Machine
end

