-- ==== Sys2Proof/Machine/ModeOps.lean ====
section
/-!
DEFINITION. ModeOps.lean: requests for a mode change (R167 to R173, R188 to R190), which wait for their frame boundary.
-/

namespace Sys2Proof.Machine

def Dev.setModes (d : Dev) (m : Modes) : Dev := { d with modes := m }

/-- MODE_CHANGE (R199): W1 holds the new mode, the previous mode and the reason. -/
def modeW1 (new prev reason : Nat) : Word := pack [(new, 0), (prev, 3), (reason, 8)]

/-- The tiles that have joined the surface under this manager (EGL_TSTAT.STATE 3). -/
def Dev.joinedTiles (d : Dev) : List Nat := (d.surf.tiles.filter fun t => t.state == 3).map Tile.xy

/-- The codes of MODE and MODE_ACK messages (R572). -/
abbrev msgMode : Nat := 12
abbrev msgModeAck : Nat := 13

/-- A change is waiting for its frame boundary. -/
def Modes.waiting (m : Modes) : Bool :=
  m.service.isSome || m.host.isSome || m.wake.isSome || m.auto.isSome || m.orphan.isSome || m.manager.isSome

/-- PENDING follows the waiting changes; TARGET takes the mode asked for (PWR_STAT). -/
def Dev.markPending (d : Dev) (target : Option Nat) : Dev :=
  let d := d.setFlag PWR_STAT_PENDING d.modes.waiting
  match target with
  | some m => d.setFld PWR_STAT_TARGET m
  | none => d

/-- A surface-wide commit stands between PREPARE and its apply frame, and a mode command given now would fall into that
span (R171). -/
def Dev.modeHeld (d : Dev) : Bool :=
  let p := d.fld CFG_STAT_PHASE
  d.isManager && d.onSurface && decide (2 ≤ p ∧ p ≤ 4) && decide (0 ≤ frameDiff (d.time.frame + 8) d.com.apply)

/-- The manager of a surface sends a mode command to every worker with the apply frame, and waits for their
acknowledgements (R170, R172). -/
def Dev.sendMode (d : Dev) (mode apply : Nat) : Dev :=
  let d := d.joinedTiles.foldl (fun d t => d.send msgMode t [word mode, word apply]) d
  d.setModes { d.modes with acksDue := d.joinedTiles }

/-- A change waits in the place that its reason gives: 2 automatic, 3 wake, 4 service, any other a command (R188). -/
def Dev.placeMode (d : Dev) (mode reason : Nat) (apply : Option Nat) : Dev :=
  let r : ModeReq := ⟨mode, apply, reason⟩
  d.setModes (match reason with
    | 2 => { d.modes with auto := some r }
    | 3 => { d.modes with wake := some r }
    | 4 => { d.modes with service := some r }
    | _ => { d.modes with host := some r })

/-- A change is asked for: at the next frame boundary, or on the manager of a surface by a command to every worker, at the
apply frame (R167, R170). -/
def Dev.askMode (d : Dev) (mode reason : Nat) : Dev :=
  if d.isManager && d.onSurface then
    let apply := (d.time.frame + 8) % 16777216
    ((d.sendMode mode apply).placeMode mode reason (some apply)).markPending (some mode)
  else (d.placeMode mode reason none).markPending (some mode)

/-- A request as the host commands it (R167, R170): one for the present mode changes nothing, unless a change waits that it
must overtake. -/
def Dev.issueMode (d : Dev) (mode reason : Nat) : Dev :=
  if mode = d.mode ∧ d.modes.waiting = false then d else d.askMode mode reason

/-- A mode command is held while a surface-wide commit stands; a command of higher rank is not replaced (R171, R188). -/
def Dev.holdMode (d : Dev) (mode reason : Nat) : Dev :=
  match d.modes.heldCmd with
  | some (_, 4) => d
  | some _ => if reason = 3 then d else d.setModes { d.modes with heldCmd := some (mode, reason) }
  | none => d.setModes { d.modes with heldCmd := some (mode, reason) }

/-- HIBERNATE is not allowed while USB is configured and not suspended (R190). -/
def Dev.hibernateBarred (d : Dev) : Bool := d.fld USB_STAT_STATE == 4 && !d.flag USB_STAT_SUSP

/-- A mode request of the host, an IR key or USB (R167, R171, R190, R801). -/
def Dev.requestMode (d : Dev) (mode reason : Nat) : Dev :=
  if mode = modeHibernate ∧ d.hibernateBarred = true then d.ring 12 (modeW1 d.mode d.mode 1) (word d.time.frame)
  else if d.modeHeld then d.holdMode mode reason
  else d.issueMode mode reason

/-- A command held during a commit is issued when the commit has ended (R171). -/
def Dev.releaseHeldMode (d : Dev) : Dev :=
  match d.modes.heldCmd with
  | none => d
  | some (mode, reason) =>
    let d := d.setModes { d.modes with heldCmd := none }
    if reason = 3 ∨ reason = 4 then (if d.modeHeld then d.holdMode mode reason else d.askMode mode reason)
    else d.requestMode mode reason

/-- PWR_CMD is ignored on a worker, in SERVICE, in SAFE and while MODE is 7 (R168). -/
def Dev.pwrCmdIgnored (d : Dev) : Bool :=
  d.isWorker || d.mode == modeService || d.mode == modeSafe || d.mode == modeStart

/-- HOLDOP (R169): 1 sets HOLD, 2 clears it. -/
def Dev.holdOp (d : Dev) (op : Nat) : Dev :=
  if op = 1 then d.setFlag PWR_STAT_HOLD true else if op = 2 then d.setFlag PWR_STAT_HOLD false else d

/-- A write of PWR_CMD (R167 to R169): HOLDOP acts, and GO requests a mode of 0 to 3. -/
def Dev.writePwrCmd (d : Dev) (v : Word) : Dev :=
  if d.pwrCmdIgnored then d.ignoreWrite
  else
    let d := d.holdOp (wGet v 8 2)
    if wGet v 4 1 = 1 ∧ wGet v 0 3 ≤ 3 then d.requestMode (wGet v 0 3) 1 else d

/-- MODE_REQUEST (R167). -/
def execModeRequest (mode : BitVec 3) (s : State) : Host.Outcome State Fault Refusal :=
  s.run fun d => d.writePwrCmd (pack [(1, 4), (mode.toNat, 0)])

/-- HOLD_SET (R169). -/
def execHoldSet (s : State) : Host.Outcome State Fault Refusal := s.run fun d => d.writePwrCmd (pack [(1, 8)])

/-- HOLD_CLEAR (R169). -/
def execHoldClear (s : State) : Host.Outcome State Fault Refusal := s.run fun d => d.writePwrCmd (pack [(2, 8)])

end Sys2Proof.Machine
end

