-- ==== Sys2Proof/Machine/Ir.lean ====
section
/-!
DEFINITION. Ir.lean: the infrared receiver and transmitter (21_infrared.md): edges and frames, the decoder templates, held
keys and virtual keys, the raw capture, and transmissions.
-/

namespace Sys2Proof.Machine

def Dev.setIr (d : Dev) (i : Infrared) : Dev := { d with ir := i }

/-- The receiver runs in IDLE, ACTIVE, WATCH and SERVICE (R808). -/
def Dev.rxOn (d : Dev) : Bool := [modeWatch, modeIdle, modeActive, modeService].contains d.mode

/-! Templates (R792 to R797). -/

/-- A template's four words. -/
structure IrTpl where
  t0 : Word
  t1 : Word
  t2 : Word
  t3 : Word
  deriving DecidableEq, Repr

def IrTpl.kind (t : IrTpl) : Nat := wGet t.t0 0 2
def IrTpl.msbf (t : IrTpl) : Bool := wGet t.t0 2 1 == 1
def IrTpl.bppol (t : IrTpl) : Nat := wGet t.t0 3 1
def IrTpl.bits (t : IrTpl) : Nat := wGet t.t0 4 6
def IrTpl.tol (t : IrTpl) : Nat := wGet t.t0 10 6
def IrTpl.unit (t : IrTpl) : Nat := wGet t.t1 0 11
def IrTpl.lmark (t : IrTpl) : Nat := wGet t.t2 0 6
def IrTpl.lspace (t : IrTpl) : Nat := wGet t.t2 8 6
def IrTpl.rspace (t : IrTpl) : Nat := wGet t.t2 16 6
def IrTpl.len0 (t : IrTpl) : Nat := wGet t.t3 0 4
def IrTpl.len1 (t : IrTpl) : Nat := wGet t.t3 4 4
def IrTpl.toggleBit (t : IrTpl) : Nat := wGet t.t3 8 6
def IrTpl.toggleEn (t : IrTpl) : Bool := wGet t.t3 14 1 == 1

def tplAt (ws : List Word) (i : Nat) : IrTpl :=
  ⟨ws.getD (4 * i) 0, ws.getD (4 * i + 1) 0, ws.getD (4 * i + 2) 0, ws.getD (4 * i + 3) 0⟩

/-- A measured duration matches n units: |d − n u| at most n u TOL / 100 + 2 µs, widened by 31 µs for a recorded edge
(R789, R793). -/
def IrTpl.fits (t : IrTpl) (d : Nat × Bool) (n : Nat) : Bool :=
  let w := n * t.unit
  decide ((d.1 - w + (w - d.1)) * 100 ≤ w * t.tol + (if d.2 then 3300 else 200))

/-- The code of received bits, in the bit order of MSBF (R797). -/
def IrTpl.code (t : IrTpl) (bits : List Bool) : Nat :=
  if t.msbf then bits.foldl (fun a b => 2 * a + bit b) 0 else bits.foldr (fun b a => 2 * a + bit b) 0

/-- The durations after the leader, when the frame opens with it (R794, R795). -/
def IrTpl.afterLeader (t : IrTpl) (ds : List (Nat × Bool)) : Option (List (Nat × Bool)) :=
  if t.lmark = 0 then some ds
  else match ds with
    | a :: b :: rest => if t.fits a t.lmark && t.fits b t.lspace then some rest else none
    | _ => none

/-- A duration that carries a bit: A units for 0, B units for 1. -/
def IrTpl.bitOf (t : IrTpl) (d : Nat × Bool) : Option Bool :=
  if t.fits d t.len0 then some false else if t.fits d t.len1 then some true else none

/-- Pulse-distance bits: a mark of 1 unit and a space that carries the bit, then the stop mark (R794). -/
def IrTpl.distanceBits (t : IrTpl) : Nat → List (Nat × Bool) → Option (List Bool)
  | 0, [m] => if t.fits m 1 then some [] else none
  | n + 1, m :: s :: rest =>
    match t.bitOf s, t.distanceBits n rest with
    | some b, some bs => if t.fits m 1 then some (b :: bs) else none
    | _, _ => none
  | _, _ => none

/-- Pulse-width bits: a mark that carries the bit, with spaces of 1 unit between (R795). -/
def IrTpl.widthBits (t : IrTpl) : Nat → List (Nat × Bool) → Option (List Bool)
  | 1, [m] => (t.bitOf m).map fun b => [b]
  | n + 1, m :: s :: rest =>
    match t.bitOf m, t.widthBits n rest with
    | some b, some bs => if t.fits s 1 then some (b :: bs) else none
    | _, _ => none
  | _, _ => none

/-- The halves of biphase durations, a mark first: each lasts 1 or 2 units (R796). -/
def IrTpl.halves (t : IrTpl) : Bool → List (Nat × Bool) → Option (List Bool)
  | _, [] => some []
  | mark, d :: rest =>
    match t.halves (!mark) rest with
    | none => none
    | some hs => if t.fits d 1 then some (mark :: hs) else if t.fits d 2 then some (mark :: mark :: hs) else none

/-- Bits of paired halves: BPPOL 0 sends a 1 as a space then a mark (R796). -/
def IrTpl.pairBits (t : IrTpl) : List Bool → Option (List Bool)
  | [] => some []
  | a :: b :: rest =>
    match t.pairBits rest with
    | none => none
    | some bs => if a = b then none else some ((if t.bppol = 0 then b else a) :: bs)
  | _ => none

/-- A biphase frame; `space` says that its last half, a space, has lasted (1 + TOL) units (R796). The first bit is 1. -/
def IrTpl.biphase (t : IrTpl) (ds : List (Nat × Bool)) (space : Bool) : Option Nat :=
  match t.halves true ds with
  | none => none
  | some hs =>
    let hs := (if t.bppol = 0 then [false] else []) ++ hs ++ (if space then [false] else [])
    if hs.length ≠ 2 * t.bits then none
    else match t.pairBits hs with
      | some (true :: bs) => some (t.code (true :: bs))
      | _ => none

/-- Does the template complete the frame: with a code, or as a repeat frame (none inside)? `space` asks for a completion at
the end of a trailing biphase space (R792 to R799). -/
def IrTpl.judge (t : IrTpl) (ds : List (Nat × Bool)) (space : Bool) : Option (Option Nat) :=
  match t.kind with
  | 1 =>
    if space then none
    else match ds with
      | [a, b, c] =>
        if t.lmark ≠ 0 ∧ t.rspace ≠ 0 ∧ t.fits a t.lmark = true ∧ t.fits b t.rspace = true ∧ t.fits c 1 = true then some none
        else none
      | _ => ((t.afterLeader ds).bind (t.distanceBits t.bits)).map fun bs => some (t.code bs)
  | 2 => if space then none else ((t.afterLeader ds).bind (t.widthBits t.bits)).map fun bs => some (t.code bs)
  | 3 => (t.biphase ds space).map some
  | _ => none

/-- The first template that completes the frame (R792). -/
def judgeAll (ws : List Word) (ds : List (Nat × Bool)) (space : Bool) : Option (Nat × Option Nat) :=
  (List.range 4).foldl (fun best i =>
    match best, (tplAt ws i).judge ds space with
    | none, some c => some (i, c)
    | b, _ => b) none

/-! Keys (R798 to R801). -/

/-- The virtual key and MODEREQ of a template and a code, with the toggle bit cleared; VKEY 0 when no entry matches
(R800). -/
def Dev.vkeyOf (d : Dev) (tpl code : Nat) : Nat × Bool :=
  (List.range (d.parLen secIr 0x05 / 3)).foldl (fun acc i =>
    let e0 := d.cfgWord secIr 0x05 (3 * i)
    let c := d.par secIr 0x05 (3 * i + 1) * 16777216 + d.par secIr 0x05 (3 * i + 2)
    if wGet e0 0 2 = tpl ∧ c = code then (wGet e0 8 8, wGet e0 16 1 == 1) else acc) (0, false)

/-- IR_KEY (R800, R820): kind 0 press, 1 repeat, 2 release. -/
def Dev.irKey (d : Dev) (kind : Nat) (k : HeldKey) (code : Nat) : Dev :=
  let d := (d.setFld IRX_STAT_VKEY k.vkey).setFld IRX_STAT_REPEATS (min k.repeats 255)
  d.ring 96 (pack [(kind, 22), (k.tpl, 20), (k.vkey, 8), (min k.repeats 255, 0)]) (word code)

/-- The held key is released, with an IR_KEY release (R798). -/
def Dev.irRelease (d : Dev) : Dev :=
  match d.ir.held with
  | none => d
  | some k => (d.setIr { d.ir with held := none }).irKey 2 k (k.code + k.toggle)

/-- A press: the held key is released first; MODEREQ requests ACTIVE on a manager or standalone tile in WATCH or IDLE
(R798, R801, R813). -/
def Dev.irPress (d : Dev) (tpl code toggle : Nat) : Dev :=
  let d := d.irRelease
  let (v, req) := d.vkeyOf tpl code
  let k : HeldKey := ⟨tpl, code, toggle, v, 0⟩
  let d := (d.setIr { d.ir with held := some k }).irKey 0 k (code + toggle)
  if req ∧ d.isWorker = false ∧ (d.mode = modeWatch ∨ d.mode = modeIdle) then d.requestMode modeActive 1 else d

/-- A completion that continues the held key is a repeat (R798, R799). -/
def Dev.irRepeat (d : Dev) (k : HeldKey) : Dev :=
  let k := { k with repeats := k.repeats + 1 }
  (d.setIr { d.ir with held := some k }).irKey 1 k (k.code + k.toggle)

/-- A completed frame of a template: a code, or a repeat frame (R797 to R799). -/
def Dev.irComplete (d : Dev) (i : Nat) (c : Option Nat) (t : IrTpl) : Dev :=
  let d := (d.bump IRX_CNT_FRAMES).setFld IRX_STAT_TPL i
  match c with
  | none =>
    match d.ir.held with
    | some k => if k.tpl = i then d.irRepeat k else d.bump IRX_CNT2_ORPHAN
    | none => d.bump IRX_CNT2_ORPHAN
  | some code =>
    let d := (d.setFld IRX_LASTH_CODE (code / 16777216)).setFld IRX_LASTL_CODE (code % 16777216)
    let toggle := if t.toggleEn && code.testBit t.toggleBit then 2 ^ t.toggleBit else 0
    let base := code - toggle
    match d.ir.held with
    | some k => if k.tpl = i ∧ k.code = base ∧ k.toggle = toggle then d.irRepeat k else d.irPress i base toggle
    | none => d.irPress i base toggle

/-! Frames (R788 to R791, R802). -/

/-- The raw capture of a frame, unless RAWHOLD freezes it; a frame of more than 128 durations counts in LONG (R802). -/
def Dev.irRaw (d : Dev) (ds : List (Nat × Bool)) : Dev :=
  let d := if 128 < ds.length then d.bump IRX_CNT2_LONG else d
  if d.flag IRX_CTRL_RAWHOLD then d
  else (List.range 128).foldl (fun d i =>
    match ds[i]? with
    | some x => d.setReg (IRX_RAW i) (pack [(bit (i % 2 == 0), 23), (min x.1 65535, 0)])
    | none => d.setReg (IRX_RAW i) 0) d

/-- The loop-back of ITX_LOOP prints the decode, or the raw capture, and ends (R807). -/
def Dev.irLoopReport (d : Dev) (words : List Word) : Dev :=
  if d.ir.loop then ((d.setIr { d.ir with loop := false }).print (.values 0x90 words)).statusLine .ok else d

/-- The frame is over: its raw capture is written, and the next mark starts a frame (R791, R802). -/
def Dev.irFrameEnd (d : Dev) (ds : List (Nat × Bool)) : Dev :=
  (d.setIr { d.ir with frame := none, ready := true }).irRaw ds

/-- The templates judge the frame (R792). -/
def Dev.irJudge (d : Dev) (ds : List (Nat × Bool)) (space : Bool) : Dev :=
  match judgeAll d.ir.tpl ds space with
  | none => d
  | some (i, c) =>
    let t := tplAt d.ir.tpl i
    let d := (d.irFrameEnd ds).irComplete i c t
    d.irLoopReport [word i, d.reg IRX_LASTH, d.reg IRX_LASTL]

/-- Milliseconds in ticks, rounded up. -/
def msTicks (ms : Nat) : Nat := (ms * 32768 + 999) / 1000

/-- The receiver discards edges while the transmitter runs and for IRX_GAP after it, unless ECHO is 1 (R807, R815). -/
def Dev.irDeaf (d : Dev) : Bool :=
  !d.flag IRX_CTRL_ECHO && (d.ir.tx.isSome ||
    (match d.ir.txEnd with
      | some t => decide (d.ticks < t + msTicks (d.par secIr 0x03))
      | none => false))

/-- A pulse shorter than IRX_FILT: counted, and IR_NOISE above 100 within 1 s, at most once per second (R788, R818). -/
def Dev.irGlitch (d : Dev) : Dev :=
  let d := d.bump IRX_CNT_GLITCH
  let recent := (d.ticks :: d.ir.glitches).filter fun t => decide (d.ticks < t + 32768)
  let due := match d.ir.noiseTick with
    | none => true
    | some t => decide (t + 32768 ≤ d.ticks)
  if 100 < recent.length ∧ due = true then
    (d.setIr { d.ir with glitches := recent, noiseTick := some d.ticks }).ring 99 (word recent.length) 0
  else d.setIr { d.ir with glitches := recent }

/-- An edge to a mark: the space before it joins the frame, or the frame starts (R791). -/
def Dev.irMark (d : Dev) (us : Nat) (recorded : Bool) : Dev :=
  match d.ir.frame with
  | some ds => d.setIr { d.ir with frame := some (ds ++ [(us, recorded)]) }
  | none =>
    if d.ir.ready ∨ d.par secIr 0x03 * 1000 ≤ us then
      d.setIr { d.ir with
        frame := some [], lead := us, ready := false, pol := d.par secIr 0x01
        tpl := (List.range (d.parLen secIr 0x04)).map fun i => d.cfgWord secIr 0x04 i }
    else d

/-- An edge to a space: the mark before it joins the frame, and the templates judge it (R792). -/
def Dev.irSpace (d : Dev) (us : Nat) (recorded : Bool) : Dev :=
  match d.ir.frame with
  | none => d
  | some ds =>
    let ds := ds ++ [(us, recorded)]
    (d.setIr { d.ir with frame := some ds }).irJudge ds false

/-- The edge starts the recorder, or the recorder runs: a wake edge is a falling one after the glitch filter, in HIBERNATE, by
an enabled source with VDDIO present (R42, R177, R178, R790). -/
def Dev.irRecords (d : Dev) (low held : Bool) : Bool :=
  held && (!d.modes.irEdges.isEmpty ||
    (d.mode == modeHibernate && (d.fld PWR_WAKEEN_EN).testBit 1 && d.flag SYS_SUPPLY_VDDIO_OK && low))

/-- A level on IRRX is a mark: low with IRX_POL 0, high with 1; a frame in progress keeps the polarity it began with (R787,
R812). -/
def Dev.irIsMark (d : Dev) (low : Bool) : Bool :=
  low == ((if d.ir.frame.isSome then d.ir.pol else d.par secIr 0x01) == 0)

/-- An accepted edge: in WATCH it requests the fast oscillator, for the edge timer (R789). -/
def Dev.irTimer (d : Dev) : Dev :=
  let d := d.setIr { d.ir with edgeTick := some d.ticks }
  if d.mode = modeWatch ∧ d.flag SYS_CLK_FOSC_ON = false then d.foscStart else d

/-- The edge timer is wanted until IRX_GAP after the last edge (R789). -/
def Dev.irTimed (d : Dev) : Bool :=
  match d.ir.edgeTick with
  | some t => decide (d.ticks < t + msTicks (d.par secIr 0x03))
  | none => false

/-- IR_EDGE (R787 to R789): the level that IRRX has taken, after a duration at the other one; in HIBERNATE and in a wake
from it the recorder keeps the first 64 edges from the wake edge on (R178). -/
def Dev.irEdge (d : Dev) (low : Bool) (us : Nat) (recorded held : Bool) : Dev :=
  if recorded && (d.mode == modeHibernate || d.modes.waking) then
    if d.irRecords low held then
      { d with modes := { d.modes with irEdges := (d.modes.irEdges ++ [(low, us)]).take 64 } }
    else d
  else if !d.rxOn || d.flag IRX_STAT_STUCK || d.irDeaf then d
  else if !held then d.irGlitch
  else if d.irIsMark low then d.irTimer.irMark us recorded
  else d.irTimer.irSpace us recorded

/-- Once awake, the receiver takes the edges recorded since the wake edge, the first of which starts a frame (R178, R789). -/
def Dev.irRecorded (d : Dev) : Dev :=
  let es := d.modes.irEdges
  let d := if es.isEmpty then d else d.setIr { d.ir with ready := true }
  es.foldl (fun d e => d.irEdge e.1 e.2 true true) { d with modes := { d.modes with irEdges := [] } }

/-- IR_EDGE (R788). -/
def execIrEdge (low : Bool) (us : BitVec 24) (recorded held : Bool) (s : State) : Host.Outcome State Fault Refusal :=
  s.run fun d => d.irEdge low us.toNat recorded held

/-- IR_GAP: a space has reached IRX_GAP: STUCK ends, or the frame ends undecoded (R791, R816). -/
def Dev.irGap (d : Dev) : Dev :=
  if d.flag IRX_STAT_STUCK then
    (d.setIr { d.ir with frame := none, ready := true }).setFlag IRX_STAT_STUCK false |>.ring 98 0 0
  else match d.ir.frame with
    | none =>
      let d := d.setIr { d.ir with ready := true }
      if d.ir.tx.isNone then d.irLoopReport [] else d
    | some ds =>
      let d := d.irFrameEnd ds
      let d := if 4 ≤ ds.length then
          (d.bump IRX_CNT_UNKNOWN).ring 97 (word ds.length) (word (ds.headD (0, false)).1)
        else d.bump IRX_CNT_GLITCH
      d.irLoopReport (ds.map fun x => word x.1)

/-- IR_GAP (R791). -/
def execIrGap (s : State) : Host.Outcome State Fault Refusal := s.run Dev.irGap

/-- IR_BIPHASE_SPACE_END (R796): a trailing biphase space has lasted (1 + TOL) units. -/
def execIrBiphaseSpaceEnd (s : State) : Host.Outcome State Fault Refusal :=
  s.run fun d =>
    match d.ir.frame with
    | none => d
    | some ds => d.irJudge ds true

/-- IR_KEY_RELEASE (R798): HOLD_MS has passed without a continuation. -/
def execIrKeyRelease (s : State) : Host.Outcome State Fault Refusal := s.run Dev.irRelease

/-- IR_STUCK (R816): the frame ends without an event, and the held key is released. -/
def Dev.irStuck (d : Dev) (ms : Nat) : Dev :=
  if !d.rxOn || d.flag IRX_STAT_STUCK || d.irDeaf then d
  else
    let d := match d.ir.frame with
      | some ds => d.irFrameEnd ds
      | none => d
    (d.irRelease.setFlag IRX_STAT_STUCK true).ring 98 1 (word (min ms 0xFFFFFF))

/-- IR_STUCK (R816). -/
def execIrStuck (ms : BitVec 24) (s : State) : Host.Outcome State Fault Refusal := s.run fun d => d.irStuck ms.toNat

/-- A write of IRX_CTRL: RELEASE releases the held key (R798, R822). -/
def Dev.writeIrxCtrl (d : Dev) (v : Word) : Dev :=
  let d := d.storeReg IRX_CTRL v
  if wGet v 2 1 = 1 then d.irRelease else d

/-- RELEASE (R798). -/
def execRelease (value : Word) (s : State) : Host.Outcome State Fault Refusal := s.run fun d => d.writeIrxCtrl (value ||| 4)

/-- The receiver stops with a mode change: a held key is released first (R808). -/
def Dev.rxStop (d : Dev) : Dev := d.irRelease.setIr { d.irRelease.ir with frame := none, ready := false, edgeTick := none }

/-- A core watchdog reset discards a frame in progress (R819). -/
def Dev.rxRestart (d : Dev) : Dev := d.setIr { d.ir with frame := none, ready := false }

/-! Transmit (R803 to R817). -/

def patternDefault (_ : Nat) : Word := 0

def Dev.pattern (d : Dev) (i : Nat) : Word := cellsGet patternDefault d.ir.pattern (i % 512)

/-- A transmission ends: IRTX low, IR_TX_DONE with its status (R805, R820). -/
def Dev.txFinish (d : Dev) (status last : Nat) : Dev :=
  match d.ir.tx with
  | none => d
  | some t =>
    let d := d.setIr { d.ir with tx := none, txEnd := some d.ticks }
    let d := ((d.setFlag ITX_STAT_BUSY false).bump ITX_CNT_DONE).ring 100 (word t.tag) (pack [(status, 21), (last, 0)])
    if status = 0 then d else d.irLoopReport []

/-- The carrier: the period, and how much of it is high, in cycles of 48 MHz (R803). -/
def carrierCycles (w : Word) : Nat × Nat := (wGet w 0 12, (2 * wGet w 0 12 * wGet w 12 5 + 32) / 64)

/-- The entry at the transmission's index, refused when its DURATION is 0; a mark entry takes the carrier as it stands (R812,
R817). -/
def Dev.txEntry (d : Dev) : Dev :=
  match d.ir.tx with
  | none => d
  | some t =>
    if t.mode ≠ 3 ∧ wGet (d.pattern t.index) 0 16 = 0 then d.txFinish 4 t.index
    else
      let mark := t.mode ≠ 3 ∧ wGet (d.pattern t.index) 23 1 = 1
      let d := d.setIr { d.ir with tx := some { t with carrier := if mark then d.reg ITX_CARRIER else t.carrier } }
      (d.setFld ITX_STAT_INDEX t.index).setFld ITX_STAT_REPLEFT t.left

/-- A transmission begins at an entry; a frame in progress is discarded without an event (R805, R807). -/
def Dev.txBegin (d : Dev) (tag mode start reps : Nat) (console loop : Bool) : Dev :=
  let t : Transmission := ⟨tag, mode, start, start, reps, 1, console, d.reg ITX_CARRIER⟩
  let d := d.setIr { d.ir with tx := some t, frame := none, ready := false, loop := loop }
  ((d.setFlag ITX_STAT_BUSY true).setFld ITX_STAT_MODE mode).txEntry

/-- May this requester transmit in the present mode (R808)? -/
def Dev.txAllowed (d : Dev) (console : Bool) : Bool :=
  [modeIdle, modeActive, modeWatch].contains d.mode || (d.mode == modeService && console)

/-- A write of ITX_CMD (R805, R808, R810): STOP ends a transmission with status 2; a start while busy or in a mode that
does not allow it is counted; MODE 0 is ignored. -/
def Dev.writeItxCmd (d : Dev) (rq : Requester) (v : Word) : Dev :=
  if wGet v 10 1 = 1 then
    match d.ir.tx with
    | none => d
    | some t => d.txFinish 2 t.index
  else if wGet v 12 2 = 0 then d
  else if d.ir.tx.isSome || !d.txAllowed (rq == .console) then d.bump ITX_CNT_REFUSED
  else d.txBegin (wGet v 16 8) (wGet v 12 2) (wGet v 0 9) (d.fld ITX_REP_REPEAT) (rq == .console) false

/-- ITX_START (R805). -/
def execItxStart (rq : Requester) (value : Word) (s : State) : Host.Outcome State Fault Refusal :=
  s.run fun d => d.writeItxCmd rq (wSet value 10 1 0)

/-- ITX_STOP (R810). -/
def execItxStop (rq : Requester) (value : Word) (s : State) : Host.Outcome State Fault Refusal :=
  s.run fun d => d.writeItxCmd rq (wSet value 10 1 1)

/-- ITX_ENTRY_END (R805, R817): the next entry of the run, the next run, or the end. -/
def Dev.txNext (d : Dev) : Dev :=
  match d.ir.tx with
  | none => d
  | some t =>
    if t.mode = 3 then d
    else if wGet (d.pattern t.index) 22 1 = 1 then
      if t.left = 0 then d.txFinish 0 t.index
      else (d.setIr { d.ir with tx := some { t with index := t.start, left := t.left - 1, count := 1 } }).txEntry
    else if 512 ≤ t.count then d.txFinish 4 t.index
    else (d.setIr { d.ir with tx := some { t with index := (t.index + 1) % 512, count := t.count + 1 } }).txEntry

/-- ITX_ENTRY_END (R805). -/
def execItxEntryEnd (s : State) : Host.Outcome State Fault Refusal := s.run Dev.txNext

/-- ITX_TMAX (R809). -/
def execItxTmax (s : State) : Host.Outcome State Fault Refusal :=
  s.run fun d => d.txFinish 1 (match d.ir.tx with | some t => t.index | none => 0)

/-- A mode change that stops the transmitter ends it with status 3 (R808). -/
def Dev.txStop (d : Dev) : Dev := d.txFinish 3 (match d.ir.tx with | some t => t.index | none => 0)

/-- A read or write of ITX_PDATA: the pattern entry, and ITX_PADDR advances; a write while transmitting is counted (R804,
R811). Answers the entry read. -/
def Dev.accessPdata (d : Dev) (write : Bool) (v : Word) : Word × Dev :=
  let a := d.fld ITX_PADDR_ADDR
  let w := d.pattern a
  let d := if write then
      if d.ir.tx.isSome then d.bump ITX_CNT_REFUSED
      else d.setIr { d.ir with pattern := cellsSet patternDefault d.ir.pattern a v }
    else d
  (w, d.setFld ITX_PADDR_ADDR ((a + 1) % 512))

/-- ITX_PDATA (R804). The requester's answer is the entry; it changes nothing more. -/
def execItxPdata (_rq : Requester) (write : Bool) (value : Word) (s : State) : Host.Outcome State Fault Refusal :=
  s.run fun d => (d.accessPdata write value).2

/-- A write of ITX_CARRIER: values outside 96–2,400 and 1–31 are clamped (R822). -/
def clampCarrier (v : Word) : Word :=
  pack [(max 1 (min (wGet v 12 5) 31), 12), (max 96 (min (wGet v 0 12) 2400), 0)]

/-- The image's carrier and pattern at the image step (R819). -/
def Dev.irLoad (d : Dev) : Dev :=
  let d := d.setReg ITX_CARRIER (clampCarrier (d.cfgWord secIr 0x06 0))
  let words := (List.range (d.parLen secIr 0x07)).map fun i => d.cfgWord secIr 0x07 i
  d.setIr { d.ir with pattern := cellsFill patternDefault [] 0 words }

/-! Console. -/

/-- IRX_RAW (R802). -/
def execIrxRaw (s : State) : Host.Outcome State Fault Refusal :=
  s.run fun d => d.command .irxRaw fun d => (d.print (.values 0x91 (((List.range 128).map fun i =>
    d.reg (IRX_RAW i)).filter (· != 0)))).finishOk

/-- ITX_SEND and ITX_LOOP: the pattern from entry i in mode 1, with n further runs (R805, R807). -/
def Dev.consoleSend (d : Dev) (i n : Nat) (loop : Bool) : Dev :=
  if !d.fullSet then d.finishErr 6
  else if d.ir.tx.isSome || !d.txAllowed true then (d.bump ITX_CNT_REFUSED).finishErr 8
  else
    let d := if loop then d.setFlag IRX_CTRL_ECHO true else d
    let d := d.txBegin 0 1 i n true loop
    if loop then d else d.finishOk

/-- ITX_SEND (R805). -/
def execItxSend (i : BitVec 9) (n : BitVec 8) (s : State) : Host.Outcome State Fault Refusal :=
  s.run fun d => d.command (.itxSend i n) fun d => d.consoleSend i.toNat n.toNat false

/-- ITX_LOOP (R807). -/
def execItxLoop (i : BitVec 9) (s : State) : Host.Outcome State Fault Refusal :=
  s.run fun d => d.longCommand (.itxLoop i) fun d => d.consoleSend i.toNat 0 true

/-- IR registers that are views (R822). -/
def Dev.irView (d : Dev) (a : Nat) : Option Word :=
  if a = IRX_STAT then
    some (wSet (wSet (wSet (d.reg a) 23 1 (bit d.ir.held.isSome)) 19 1 (bit (d.rxOn && d.flag SYS_CLK_FOSC_ON))) 17 1 (bit d.rxOn))
  else if a = ITX_PDATA then some (d.pattern (d.fld ITX_PADDR_ADDR))
  else none

end Sys2Proof.Machine
end

