-- ==== Sys2Proof/Machine/Hka.lean ====
section
/-!
DEFINITION. Hka.lean: the housekeeping converter (chapter 22): accumulators, snapshots, the firmware plan, host
conversions, references, window comparators, the TDAC path and system calibration.
-/

namespace Sys2Proof.Machine

def Dev.setHka (d : Dev) (k : Hka) : Dev := { d with hka := k }

/-- The place of a requester among the four (R385). -/
def rqIndex : Requester → Nat
  | .twoWire => 0
  | .usb => 1
  | .console => 2
  | .remote => 3

/-! Accumulators (R826, R827). -/

/-- A valid value enters a set, unless the set is saturated; the count 0xFFFFFF saturates it (R827). -/
def AccSet.add (a : AccSet) (v : Word) : AccSet :=
  if a.sat then a
  else { a with
    sum := a.sum + v.toInt
    count := a.count + 1
    min := if v.toInt < a.min.toInt then v else a.min
    max := if a.max.toInt < v.toInt then v else a.max
    sat := a.count + 1 == 0xFFFFFF }

/-- An over-range conversion counts with its sign and enters nothing else (R826). -/
def AccSet.addOver (a : AccSet) (ovr : Nat) : AccSet :=
  if a.sat then a
  else if ovr = 1 then { a with ovrPos := Nat.min (a.ovrPos + 1) 255 }
  else { a with ovrNeg := Nat.min (a.ovrNeg + 1) 255 }

/-- SUM / COUNT rounded toward 0; 0 when COUNT is 0 (R829, R872). -/
def AccSet.mean (a : AccSet) : Int := if a.count = 0 then 0 else Int.tdiv a.sum a.count

def Dev.hkaChan (d : Dev) (c : Nat) : HkaChan := d.hka.chans.getD c {}
def Dev.setHkaChan (d : Dev) (c : Nat) (v : HkaChan) : Dev := d.setHka { d.hka with chans := d.hka.chans.set c v }

/-! The plan (R830 to R832). -/

/-- The plan word of a channel: the default plan in SAFE, else the applied one (R832, R855). -/
def Dev.planWord (d : Dev) (c : Nat) : Word :=
  if d.mode = modeSafe then word (hkaPlanDefault.getD c 0) else d.cfgWord secHka 0x01 c
def planInterval (w : Word) : Nat := wGet w 12 12
def planRef (c : Nat) (w : Word) : Nat := if c < 4 then wGet w 7 2 else 0
def planWatch (w : Word) : Bool := wGet w 6 1 == 1

/-- The channel's pin carries the TDAC, which suspends its plan and its comparator (R842). -/
def Dev.tdacOn (d : Dev) (c : Nat) : Bool := d.flag HKA_TDAC_EN && d.fld HKA_TDAC_PIN == c

/-- The REFIN buffer is enabled while a plan entry, or the host's command, names REFSEL 1 (R838). -/
def Dev.refinEnabled (d : Dev) : Bool := d.hka.hostRef || (List.range 4).any fun c => planRef c (d.planWord c) == 1

/-- A REFIN buffer that is no longer enabled is not ready (R837). -/
def Dev.refinFollow (d : Dev) : Dev := if d.refinEnabled then d else d.setFlag HKA_STAT_REFIN_RDY false

/-- The reference of a conversion is ready (R837). -/
def Dev.refReady (d : Dev) (refsel : Nat) : Bool :=
  if refsel = 0 then d.flag HKA_STAT_REFINT_RDY else if refsel = 1 then d.flag HKA_STAT_REFIN_RDY else true

/-! The window comparators (R839 to R841). -/

abbrev bandUnknown : Nat := 0
abbrev bandInside : Nat := 1
abbrev bandAbove : Nat := 2
abbrev bandBelow : Nat := 3

/-- A band's state becomes UNKNOWN and its run of outside conversions ends (R842, R849). -/
def Dev.bandReset (d : Dev) (c : Nat) : Dev :=
  (d.setFld (HKA_BCFG_STATE c) bandUnknown).setHkaChan c { d.hkaChan c with run := 0 }

/-- A conversion outside on one side (R840). -/
def Dev.bandOutside (d : Dev) (c : Nat) (above : Bool) (v : Word) (ovr : Bool) : Dev :=
  let h := d.hkaChan c
  let run := if h.run != 0 && h.above == above then h.run + 1 else 1
  let consec := wGet (d.cfgWord secHka 0x02 (4 * c + 3)) 0 5
  let d := d.setHkaChan c { h with run := min run 31, above := above }
  let st := if above then bandAbove else bandBelow
  if consec ≤ run ∧ d.fld (HKA_BCFG_STATE c) ≠ st then
    let d := d.setFld (HKA_BCFG_STATE c) st
    let d := d.setFld HKA_BEXIT_EXIT (d.fld HKA_BEXIT_EXIT ||| 2 ^ c)
    d.ring 112 (pack [(if above then 1 else 2, 22), (bit ovr, 21), (c, 0)]) (if ovr then 0 else v)
  else d

/-- A valid value within LO to HI: UNKNOWN becomes INSIDE, and ABOVE or BELOW does so within the hysteresis
(R840, R841). -/
def Dev.bandWithin (d : Dev) (c : Nat) (v lo hi : Int) (hys : Nat) : Dev :=
  let d := d.setHkaChan c { d.hkaChan c with run := 0 }
  let st := d.fld (HKA_BCFG_STATE c)
  if st = bandUnknown ∨ (st ≠ bandInside ∧ lo + hys ≤ v ∧ v ≤ hi - hys) then d.setFld (HKA_BCFG_STATE c) bandInside else d

/-- The comparator of a channel judges a conversion: over is 0, 1 positive, 2 negative (R839). -/
def Dev.judgeBand (d : Dev) (c : Nat) (v : Word) (ovr : Nat) : Dev :=
  let cfg := d.cfgWord secHka 0x02
  let lo := (cfg (4 * c)).toInt
  let hi := (cfg (4 * c + 1)).toInt
  if wGet (cfg (4 * c + 3)) 23 1 = 0 ∨ d.tdacOn c = true then d
  else if ovr = 1 ∨ (ovr = 0 ∧ hi < v.toInt) then d.bandOutside c true v (ovr != 0)
  else if ovr ≠ 0 ∨ v.toInt < lo then d.bandOutside c false v (ovr != 0)
  else d.bandWithin c v.toInt lo hi (cfg (4 * c + 2)).toNat

/-! Values (R824, R844). -/

/-- The system calibration applied to an AIN channel: (v - OFS) × GAIN in units of 2^-22. The rounding is free, and so
is a result beyond 24 bits (log entry 2). -/
def Dev.sysCorrect (d : Dev) (c : Nat) (v : Word) : Word × Dev :=
  if 4 ≤ c ∨ d.par secHka 0x03 = 0 ∨ (d.fld (HKA_SCOFS_OFS c) = 0 ∧ d.fld (HKA_SCGAIN_GAIN c) = 0x400000) then (v, d)
  else
    let p := (v.toInt - (d.reg (HKA_SCOFS c)).toInt) * (d.fld (HKA_SCGAIN_GAIN c) : Int)
    let q := p / 4194304
    let (up, d) := if p % 4194304 = 0 then (0, d) else d.draw 2
    let r := q + up
    if -8388608 ≤ r ∧ r ≤ 8388607 then (wordI r, d)
    else
      let (w, d) := d.draw 16777216
      (word w, d)

/-- The values of a channel since the last log summary (R875). -/
def Dev.sumUp (d : Dev) (c : Nat) (f : AccSet → AccSet) : Dev :=
  { d with cal := { d.cal with summary := d.cal.summary.set c (f (d.cal.summary.getD c {})) } }

/-- A conversion of a channel enters both sets and its comparator (R824, R826, R827, R839). Channels 9 and 10 leave their
value for the temperature trigger of R862. -/
def Dev.enterValue (d : Dev) (c : Nat) (v : Word) (ovr : Nat) : Dev :=
  let h := d.hkaChan c
  if ovr = 0 then
    let (v, d) := d.sysCorrect c v
    let d := d.setHkaChan c { h with h := h.h.add v, f := h.f.add v }
    let d := d.setHka { d.hka with
      t0 := if c = 9 then v.toInt else d.hka.t0
      t1 := if c = 10 then v.toInt else d.hka.t1 }
    (d.sumUp c fun a => a.add v).judgeBand c v 0
  else
    ((d.setHkaChan c { h with h := h.h.addOver ovr, f := h.f.addOver ovr }).sumUp c fun a => a.addOver ovr).judgeBand
      c 0 ovr

/-! Converters. -/

def Dev.conv (d : Dev) (b : Bool) : Option HkaConv := if b then d.hka.convB else d.hka.convA

/-- A converter takes a conversion or becomes idle; HKA_STAT follows. -/
def Dev.setConv (d : Dev) (b : Bool) (v : Option HkaConv) : Dev :=
  let d := d.setHka (if b then { d.hka with convB := v } else { d.hka with convA := v })
  let d := d.setFlag (if b then HKA_STAT_BUSYB else HKA_STAT_BUSYA) v.isSome
  match v with
  | some k => d.setFld (if b then HKA_STAT_CHB else HKA_STAT_CHA) k.ch
  | none => d

/-- A converter falls idle: an interleaved conversion that waits for B starts, else a waiting claim is granted
(R833, R835). -/
def Dev.convIdle (d : Dev) (b : Bool) : Dev :=
  let d := d.setConv b none
  let code := if b then 2 else 1
  match b, d.hka.ilv with
  | true, some k => (d.setHka { d.hka with ilv := none }).setConv true (some { k with waiting := !d.refReady k.refsel })
  | _, _ => if d.fld HKA_HOST_CLAIM = code then d.setFld HKA_STAT_GRANT code else d

/-- The converters run from start-up step 3 on, and are off in HIBERNATE (R831, R852). -/
def Dev.hkaOn (d : Dev) : Bool := decide (4 ≤ d.pwr.step) && d.mode != modeHibernate

/-- A conversion cannot be started: REFIN is at fault (R850), or channel 13 has no lit sink (R849). -/
def Dev.hkaSkips (d : Dev) (c refsel : Nat) : Bool :=
  (refsel == 1 && d.flag HKA_STAT_REFIN_FAULT) || (c == 13 && !(List.range 8).any d.sinkLit)

/-- A WATCH scan has begun: the plan may start one conversion (R831). -/
def Dev.watchTurn (d : Dev) : Dev := d.setHka { d.hka with watchTurn := true }

/-- The channel the plan starts next: the most overdue of those whose INTERVAL has passed, ties to the lower number; in WATCH
only channels with WATCH, once for each scan (R830, R831, R842). -/
def Dev.planNext (d : Dev) : Option Nat :=
  ((List.range 16).filter fun c =>
    let w := d.planWord c
    planInterval w != 0 && !d.tdacOn c && decide ((d.hkaChan c).due ≤ d.ticks) &&
      (d.mode != modeWatch || (planWatch w && d.hka.watchTurn))).foldl
    (fun best c => match best with
      | none => some c
      | some b => if (d.hkaChan c).due < (d.hkaChan b).due then some c else some b) none

/-- The converter the plan uses: one that is free and not claimed; in WATCH converter A (R830, R831). -/
def Dev.planConverter (d : Dev) : Option Bool :=
  let free (b : Bool) : Bool := (d.conv b).isNone && d.fld HKA_HOST_CLAIM != (if b then 2 else 1) && !(b && d.hka.ilv.isSome)
  if free false then some false else if free true && d.mode != modeWatch then some true else none

/-- PLAN_CONVERSION: the plan starts one conversion, or skips it (R830, R837, R849, R850). -/
def Dev.planStart (d : Dev) : Dev :=
  match d.planConverter, d.planNext with
  | some b, some c =>
    if d.hkaOn = false then d
    else
      let w := d.planWord c
      let refsel := planRef c w
      let d := d.setHkaChan c { d.hkaChan c with due := d.ticks + msTicks (10 * planInterval w) }
      let d := d.setHka { d.hka with watchTurn := false }
      if d.hkaSkips c refsel then d.bump HKA_CNT_SKIPPED
      else d.setConv b (some ⟨c, false, refsel, 0, false, !d.refReady refsel⟩)
  | _, _ => d

/-- PLAN_CONVERSION (R830). -/
def execPlanConversion (s : State) : Host.Outcome State Fault Refusal := s.run Dev.planStart

/-- CONVERSION_END: the value enters the accumulators and the comparator, and a host conversion with NOTIFY raises
source 113 (R825, R835). -/
def Dev.convEnd (d : Dev) (b : Bool) (value : Word) (ovr : Nat) : Dev :=
  match d.conv b with
  | none => d
  | some k =>
    if k.waiting then d
    else
      let d := d.enterValue k.ch value (min ovr 2)
      let d := if k.host ∧ k.notify then d.ring 113 (pack [(k.tag, 16), (k.ch, 0)]) (word (bit (ovr != 0))) else d
      d.convIdle b

/-- A write of HKA_SNAP: the H set goes into the requester's snapshot, and CLEAR empties it, save for the console
(R828, R829). -/
def Dev.hkaSnap (d : Dev) (rq : Requester) (value : Word) : Dev :=
  let c := wGet value 0 4
  let h := d.hkaChan c
  let d := d.setHka { d.hka with snaps := d.hka.snaps.set (rqIndex rq) (c, h.h) }
  if wGet value 4 1 = 1 ∧ rq ≠ .console then d.setHkaChan c { h with h := {} } else d

/-- HKA_SNAP (R828). -/
def execHkaSnap (rq : Requester) (value : Word) (s : State) : Host.Outcome State Fault Refusal :=
  s.run fun d => d.hkaSnap rq value

/-- A keyed write of HKA_HOST claims a converter or releases the claim (R833, R834, R856). -/
def Dev.writeHkaHost (d : Dev) (value : Word) : Dev :=
  let claim := wGet value 0 2
  if wGet value 16 8 ≠ 0x5A ∨ claim = 3 then d.ignoreWrite
  else
    let d := d.setFld HKA_HOST_CLAIM claim
    let idle := claim != 0 && (d.conv (claim == 2)).isNone && !(claim == 2 && d.hka.ilv.isSome)
    let d := if claim = 0 then (d.setHka { d.hka with hostRef := false }).refinFollow else d
    if d.fld HKA_STAT_GRANT = claim then d else d.setFld HKA_STAT_GRANT (if idle then claim else 0)

/-- CLAIM (R833). -/
def execClaim (value : Word) (s : State) : Host.Outcome State Fault Refusal := s.run fun d => d.writeHkaHost value

/-- HKA_CLAIM_EXPIRED: HKA_HOSTTO after the host's last start the claim ends (R834). -/
def Dev.claimExpired (d : Dev) : Dev :=
  let c := d.fld HKA_HOST_CLAIM
  if c = 0 then d
  else
    let d := (d.setHka { d.hka with hostRef := false }).refinFollow
    ((d.setFld HKA_HOST_CLAIM 0).setFld HKA_STAT_GRANT 0).ring 116 (word c) 0

/-- HKA_CLAIM_EXPIRED (R834). -/
def execHkaClaimExpired (s : State) : Host.Outcome State Fault Refusal := s.run Dev.claimExpired

/-- HKA_CMD with START: one conversion on the claimed converter when it is granted and idle, with ILV on a claim of A a
second one on B; a start that cannot be taken counts in REFUSED (R835, R848). -/
def Dev.hostConversion (d : Dev) (value : Word) : Dev :=
  let c := wGet value 0 4
  let refsel := if c < 4 then wGet value 8 2 else 0
  let grant := d.fld HKA_STAT_GRANT
  let b := grant == 2
  if grant = 0 ∨ (d.conv b).isSome = true ∨ d.hkaOn = false then d.bump HKA_CNT_REFUSED
  else
    let d := (d.setHka { d.hka with hostRef := refsel == 1 }).refinFollow
    if d.hkaSkips c refsel then d.bump HKA_CNT_SKIPPED
    else
      let k : HkaConv := ⟨c, true, refsel, wGet value 16 8, wGet value 14 1 == 1, !d.refReady refsel⟩
      let d := d.setConv b (some k)
      if wGet value 15 1 = 1 ∧ b = false then
        if d.hka.convB.isNone then d.setConv true (some k)
        else (d.setHka { d.hka with ilv := some k }).bump HKA_CNT_ILVWAIT
      else d

/-- A write of HKA_CMD; without START it does nothing (R835). -/
def Dev.writeHkaCmd (d : Dev) (value : Word) : Dev := if wGet value 4 1 = 1 then d.hostConversion value else d

/-- HOST_CONVERSION (R835). -/
def execHostConversion (value : Word) (s : State) : Host.Outcome State Fault Refusal := s.run fun d => d.hostConversion value

/-! References (R837, R838, R850, R851). -/

/-- HKA_FAULT, at most once per second for each kind (R851). -/
def Dev.hkaFault (d : Dev) (kind ch : Nat) : Dev :=
  let recent := d.hka.faultTicks.any fun p => p.1 == kind && decide (d.ticks < p.2 + 32768)
  if recent then d
  else
    let d := d.setHka { d.hka with faultTicks := (kind, d.ticks) :: d.hka.faultTicks.filter fun p => p.1 != kind }
    d.ring 114 (word kind) (word ch)

/-- The conversions that wait for a reference start when it becomes ready (R837). -/
def Dev.releaseWaits (d : Dev) (refsel : Nat) : Dev :=
  [false, true].foldl (fun d b =>
    match d.conv b with
    | some k => if k.waiting && k.refsel == refsel then d.setConv b (some { k with waiting := false }) else d
    | none => d) d

/-- REFERENCE_READY: the internal reference, or the enabled REFIN buffer, becomes ready (R837). -/
def Dev.referenceReady (d : Dev) (refin : Bool) : Dev :=
  if refin then
    if d.refinEnabled && !d.flag HKA_STAT_REFIN_FAULT then (d.setFlag HKA_STAT_REFIN_RDY true).releaseWaits 1 else d
  else if d.hkaOn then (d.setFlag HKA_STAT_REFINT_RDY true).releaseWaits 0 else d

/-- REFERENCE_READY (R837). -/
def execReferenceReady (refin : Bool) (s : State) : Host.Outcome State Fault Refusal := s.run fun d => d.referenceReady refin

/-- REFIN_CHECK: an enabled REFIN outside its range raises kind 1, and two checks in a row within it raise kind 2; the
channel of these records is free, since REFIN belongs to none (R838, R850; log entry 2). -/
def Dev.refinCheck (d : Dev) (ok : Bool) : Dev :=
  if d.refinEnabled = false then d.setFlag HKA_STAT_REFIN_RDY false
  else
    let d := d.setFlag HKA_STAT_REFIN_RDY ok
    let fault := d.flag HKA_STAT_REFIN_FAULT
    let (ch, d) := d.draw 16
    if ok then
      if fault then
        if d.hka.good = 0 then d.setHka { d.hka with good := 1 }
        else ((d.setHka { d.hka with good := 0 }).setFlag HKA_STAT_REFIN_FAULT false).hkaFault 2 ch |>.releaseWaits 1
      else d.releaseWaits 1
    else
      let d := d.setHka { d.hka with good := 0 }
      if fault then d else (d.setFlag HKA_STAT_REFIN_FAULT true).hkaFault 1 ch

/-- REFIN_CHECK (R838). -/
def execRefinCheck (ok : Bool) (s : State) : Host.Outcome State Fault Refusal := s.run fun d => d.refinCheck ok

/-- A conversion is abandoned and enters no accumulator (R851). -/
def Dev.abandonConv (d : Dev) (b waiting : Bool) (kind : Nat) : Dev :=
  match d.conv b with
  | some k => if k.waiting == waiting then (d.convIdle b).hkaFault kind k.ch else d
  | none => d

/-- REFERENCE_TIMEOUT (R851). -/
def execReferenceTimeout (b : Bool) (s : State) : Host.Outcome State Fault Refusal := s.run fun d => d.abandonConv b true 3

/-- CONVERSION_TIMEOUT (R851). -/
def execConversionTimeout (b : Bool) (s : State) : Host.Outcome State Fault Refusal := s.run fun d => d.abandonConv b false 4

/-! The TDAC path (R842, R849). -/

/-- A conversion of the channel is in progress on the converter: it is discarded and counted. -/
def Dev.discardConv (d : Dev) (b : Bool) (c : Nat) : Dev :=
  match d.conv b with
  | some k => if k.ch = c then (d.convIdle b).bump HKA_CNT_SKIPPED else d
  | none => d

/-- A write of HKA_TDAC: the switch of a pin closes or opens, which discards a conversion of the channel in progress;
the band of a channel it closes on becomes UNKNOWN (R842, R849). -/
def Dev.writeTdac (d : Dev) (value : Word) : Dev :=
  let was := (List.range 4).filter d.tdacOn
  let d := d.storeReg HKA_TDAC value
  let now := (List.range 4).filter d.tdacOn
  (List.range 4).foldl (fun d c =>
    if was.contains c = now.contains c then d
    else
      let d := (d.discardConv false c).discardConv true c
      if now.contains c then d.bandReset c else d) d

/-- TDAC (R842). -/
def execTdac (value : Word) (s : State) : Host.Outcome State Fault Refusal := s.run fun d => d.writeTdac value

/-! System calibration (R843 to R845, R878). -/

/-- HKA_SYSCAL (R854): the step ends with a status, which HKA_SCSTAT holds. -/
def Dev.syscalEnd (d : Dev) (op status c gain : Nat) : Dev :=
  (d.setFld HKA_SCSTAT_STATUS status).ring 115 (pack [(op, 20), (status, 16), (c, 0)]) (word gain)

/-- A ZERO or FULL step begins; FULL without a ZERO ends with status 2. While a step runs, another does not begin
(DESIGN CHOICE, log entry 54). -/
def Dev.syscalBegin (d : Dev) (op c : Nat) (console : Bool) : Dev :=
  if d.hka.step.isSome then d
  else if op = 2 ∧ (d.hka.zero.getD c none).isNone then d.syscalEnd 2 2 c 0
  else (d.setHka { d.hka with step := some (c, op), stepConsole := console }).setFld HKA_SCSTAT_STATUS 0

/-- The settings page of the log area: byte address 0x20000 (R131, R873). -/
abbrev settingsBase : Nat := 0x20000

/-- A copy of the settings page is valid: MARK and CRC-16 match (R878). -/
def settingsValid (bs : List Byte) : Bool :=
  bs.take 2 == [0x53#8, 0x50#8] && crc16 (bs.take 30) == BitVec.ofNat 16 (bytesNat (bs.drop 30))

/-- The sequence number of a copy. -/
def settingsSeq (bs : List Byte) : Nat := bytesNat ((bs.drop 2).take 3)

/-- The copies at bytes 0 and 128 (R878). -/
def Dev.settingsCopy (d : Dev) (second : Bool) : List Byte := d.nvmRead (settingsBase + if second then 128 else 0) 32

/-- Sequence number a is later than b, modulo 2^24. -/
def seqLater (a b : Nat) : Bool := decide (0 < frameDiff b a)

/-- The newer valid copy is the second one; none when neither is valid. -/
def Dev.newerCopy (d : Dev) : Option Bool :=
  let a := d.settingsCopy false
  let b := d.settingsCopy true
  match settingsValid a, settingsValid b with
  | true, true => some (seqLater (settingsSeq b) (settingsSeq a))
  | true, false => some false
  | false, true => some true
  | false, false => none

/-- The settings page rewritten in one transaction: the older copy takes the present OFS and GAIN of the four AIN channels; a
copy that fails its read-back holds free bytes and raises LOG_EVENT of kind 5 (R878, R885). -/
def Dev.writeCopy (d : Dev) (ok : Bool) : Dev :=
  let second := match d.newerCopy with
    | some b => !b
    | none => false
  let seq := match d.newerCopy with
    | some b => (settingsSeq (d.settingsCopy b) + 1) % 16777216
    | none => 0
  let pairs := (List.range 4).flatMap fun k => wordBytes (d.reg (HKA_SCOFS k)) ++ wordBytes (d.reg (HKA_SCGAIN k))
  let body := [0x53#8, 0x50#8] ++ natBytes 3 seq ++ pairs ++ [0#8]
  let addr := settingsBase + if second then 128 else 0
  if ok then d.nvmWrite addr (body ++ natBytes 2 (crc16 body).toNat)
  else
    let (bs, d) := (List.range 32).foldl (fun (p : List Byte × Dev) _ =>
      let (v, d) := p.2.draw 256
      (p.1 ++ [BitVec.ofNat 8 v], d)) ([], d)
    (d.nvmWrite addr bs).ring 216 (word 5) 0

/-- No NVM write may start: VDD_WARN (R110). -/
def Dev.nvmBarred (d : Dev) : Bool := d.flag SYS_SUPPLY_VDD_WARN

/-- What keeps a page of the log area from being written: VDD_WARN, HOLD, no VDDIO, or another transfer on the bus, which it
never interleaves with (R41, R156, R442, R449, R883). -/
def Dev.pageBarred (d : Dev) : Bool := d.nvmBarred || d.flag TWB_NVCTL_HOLD || !d.ioLive || d.twb.nvOp != 0

/-- The settings page is rewritten at once, or as soon as the bus is free for it (R442, R878). -/
def Dev.writeSettings (d : Dev) (ok : Bool) : Dev :=
  if d.pageBarred then d.setHka { d.hka with settingsDue := true } else d.writeCopy ok

/-- The system calibration of the newer valid settings copy applies to the AIN channels when SYSCAL_USE is 1
(R845, R878). -/
def Dev.loadSettings (d : Dev) : Dev :=
  match d.newerCopy with
  | none => d
  | some b =>
    if d.par secHka 0x03 = 0 then d
    else
      let bs := d.settingsCopy b
      (List.range 4).foldl (fun d k =>
        (d.setReg (HKA_SCOFS k) (word (bytesNat ((bs.drop (5 + 6 * k)).take 3)))).setReg (HKA_SCGAIN k)
          (word (bytesNat ((bs.drop (8 + 6 * k)).take 3)))) d

/-- The type-2 log record of an AIN channel (R874): GAIN is 0 after DEFAULT. -/
def Dev.logSyscal (d : Dev) (c : Nat) (gain : Word) : Dev :=
  let t := d.time.now
  d.logRec ⟨2, d.time.epoch, c, t.1, t.2, d.reg (HKA_SCOFS c), gain⟩

/-- GAIN = SCFULL / (F - Z) in units of 2^-22, when it lies within 0.8 to 1.25 and |Z| is at most 10 % of the span
(R843, R844). The rounding is free. -/
def Dev.syscalGain (d : Dev) (z f : Int) (span : Nat) : Option Nat × Dev :=
  let full := d.fld HKA_SCFULL_FULL
  let diff := f - z
  if diff ≤ 0 ∨ (full : Int) * 10 < diff * 8 ∨ diff * 5 < (full : Int) * 4 ∨ (span : Int) < z.natAbs * 10 then (none, d)
  else
    let n := full * 4194304
    let (up, d) := if n % diff.toNat = 0 then (0, d) else d.draw 2
    (some (n / diff.toNat + up), d)

/-- APPLY (R843, R844): status 2 without a ZERO and a FULL, 5 under VDD_WARN, 4 out of limits, else 1; the order of these, and
status 2 for a missing FULL, are the model's (DESIGN CHOICE, log entry 54). -/
def Dev.syscalApply (d : Dev) (c : Nat) (vref : Nat) (copyOk : Bool) : Dev :=
  match d.hka.zero.getD c none, d.hka.full.getD c none with
  | some z, some f =>
    if d.nvmBarred then d.syscalEnd 3 5 c 0
    else
      let span := if planRef c (d.planWord c) = 0 then 1250000 else vref
      match d.syscalGain z f span with
      | (none, d) => d.syscalEnd 3 4 c 0
      | (some g, d) =>
        let d := d.setHka { d.hka with zero := d.hka.zero.set c none, full := d.hka.full.set c none }
        let d := (d.setReg (HKA_SCOFS c) (wordI z)).setReg (HKA_SCGAIN c) (word g)
        let d := (d.writeSettings copyOk).logSyscal c (word g)
        d.syscalEnd 3 1 c g
  | _, _ => d.syscalEnd 3 2 c 0

/-- DEFAULT removes the channel's system calibration (R843). -/
def Dev.syscalDefault (d : Dev) (c : Nat) (copyOk : Bool) : Dev :=
  if d.nvmBarred then d.syscalEnd 4 5 c 0
  else
    let d := (d.setReg (HKA_SCOFS c) 0).setReg (HKA_SCGAIN c) 0x400000#24
    let d := (d.writeSettings copyOk).logSyscal c 0
    d.syscalEnd 4 1 c 0

/-- A write of HKA_SCCMD: keyed, else ignored and counted (R843, R856); an OP that the table does not list does
nothing (DESIGN CHOICE, log entry 54). -/
def Dev.writeSccmd (d : Dev) (value : Word) (vref : Nat) (copyOk : Bool) : Dev :=
  let c := wGet value 4 2
  let op := wGet value 0 3
  if wGet value 16 8 ≠ 0x5A then d.ignoreWrite
  else if op = 1 ∨ op = 2 then d.syscalBegin op c false
  else if op = 3 then d.syscalApply c vref copyOk
  else if op = 4 then d.syscalDefault c copyOk
  else d

/-- ZERO (R843). -/
def execZero (value : Word) (s : State) : Host.Outcome State Fault Refusal :=
  s.run fun d => d.writeSccmd (wSet value 0 3 1) 0 true

/-- FULL (R843). -/
def execFull (value : Word) (s : State) : Host.Outcome State Fault Refusal :=
  s.run fun d => d.writeSccmd (wSet value 0 3 2) 0 true

/-- APPLY (R844). -/
def execApply (value vref : Word) (copyOk : Bool) (s : State) : Host.Outcome State Fault Refusal :=
  s.run fun d => d.writeSccmd (wSet value 0 3 3) vref.toNat copyOk

/-- DEFAULT (R843). -/
def execDefault (value : Word) (copyOk : Bool) (s : State) : Host.Outcome State Fault Refusal :=
  s.run fun d => d.writeSccmd (wSet value 0 3 4) 0 copyOk

/-- Signed mean of a list of values; the rounding is free (log entry 2). -/
def Dev.freeMean (d : Dev) (vs : List Word) : Int × Dev :=
  let sum := (vs.map BitVec.toInt).sum
  let n : Int := max vs.length 1
  let (up, d) := if sum % n = 0 then (0, d) else d.draw 2
  (sum / n + up, d)

/-- SYSCAL_STEP_END: the 64 conversions enter the accumulators, and the mean without system correction is kept as Z or F;
an over-range conversion ends the step with status 3 (R827, R843). -/
def Dev.syscalStepEnd (d : Dev) (values : List Word) (ovr : Nat) : Dev :=
  match d.hka.step with
  | none => d
  | some (c, op) =>
    let console := d.hka.stepConsole
    let d := d.setHka { d.hka with step := none, stepConsole := false }
    let d := values.foldl (fun d v => d.enterValue c v 0) d
    let d :=
      if ovr ≠ 0 then (d.enterValue c 0 (min ovr 2)).syscalEnd op 3 c 0
      else
        let (m, d) := d.freeMean values
        let d := if op = 1 then d.setHka { d.hka with zero := d.hka.zero.set c (some m), full := d.hka.full.set c none }
          else d.setHka { d.hka with full := d.hka.full.set c (some m) }
        d.syscalEnd op 1 c 0
    if console then (d.print (.values 0xC3 [word (d.fld HKA_SCSTAT_STATUS)])).statusLine .ok else d

/-- SYSCAL_STEP_END (R843). -/
def execSyscalStepEnd (values : List Word) (ovr : BitVec 2) (s : State) : Host.Outcome State Fault Refusal :=
  s.run fun d => d.syscalStepEnd values ovr.toNat

/-! Console commands (chapter 22). -/

/-- The lines of `hka ch`: mean, minimum, maximum, count and over-range counts of a snapshot. -/
def accLine (c : Nat) (a : AccSet) : OutLine :=
  .values 0xC0 [word c, wordI a.mean, a.min, a.max, word a.count, word a.ovrPos, word a.ovrNeg]

/-- `hka ch n`: a snapshot without clearing (R829). -/
def Dev.consoleHkaCh (d : Dev) (n : Nat) : Dev :=
  if 15 < n then d.finishErr 5
  else ((d.hkaSnap .console (word n)).print (accLine n (d.hkaChan n).h)).finishOk

/-- HKA_CH (R829). -/
def execHkaCh (n : BitVec 8) (s : State) : Host.Outcome State Fault Refusal :=
  s.run fun d => d.command (.hkaCh n) fun d => d.consoleHkaCh n.toNat

/-- May `hka conv` run: the full command set, a channel and a count, and converter B free (R833)? -/
def Dev.hkaConvRuns (d : Dev) (n k : Nat) : Bool :=
  d.fullSet && decide (n ≤ 15) && k != 0 && d.fld HKA_HOST_CLAIM == 0 && (d.conv true).isNone

/-- `hka conv n k`: claims converter B, clears the channel's H set, runs k conversions at its plan rate, prints as
`hka ch`, then releases the claim. Conversions that cannot be started are counted (R849, R850). It ends in E08 BUSY while
the host has a claim or B converts (R833; log entry 31). -/
def Dev.consoleHkaConv (d : Dev) (n k : Nat) (values : List (Word × BitVec 2)) : Dev :=
  if d.fullSet = false then d.finishErr 6
  else if 15 < n ∨ k = 0 then d.finishErr 5
  else if d.fld HKA_HOST_CLAIM ≠ 0 ∨ (d.conv true).isSome = true then d.finishErr 8
  else
    let d := d.setHkaChan n { d.hkaChan n with h := {} }
    let d :=
      if d.hkaSkips n (planRef n (d.planWord n)) then d.bumpBy HKA_CNT_SKIPPED k
      else (values.take k).foldl (fun d p => d.enterValue n p.1 (min p.2.toNat 2)) d
    (d.print (accLine n (d.hkaChan n).h)).finishOk

/-- `hka path n`: 16 conversions at code 0 and at code 1,023, the means, k in units of 2^-16 and R_th in ohms (R842). The
conversions enter the accumulators; the TDAC returns to its state before. Roundings of the printed figures are free. -/
def Dev.consoleHkaPath (d : Dev) (n : Nat) (low high : List Word) : Dev :=
  if d.fullSet = false then d.finishErr 6
  else if 3 < n then d.finishErr 5
  else
    let before := d.reg HKA_TDAC
    let d := d.writeTdac (pack [(1, 12), (n, 10), (0, 0)])
    let d := low.foldl (fun d v => d.enterValue n v 0) d
    let d := d.writeTdac (pack [(1, 12), (n, 10), (1023, 0)])
    let d := high.foldl (fun d v => d.enterValue n v 0) d
    let d := d.writeTdac before
    let (a, d) := d.freeMean low
    let (b, d) := d.freeMean high
    let dv := b - a
    let span : Int := 1023 * 2500000 / 1024
    let (up, d) := d.draw 2
    let k := dv * 65536 / span + up
    let r := if span ≤ dv then 16777215 else 10000 * dv / (span - dv) + up
    (d.print (.values 0xC1 [wordI a, wordI b, wordI k, wordI r])).finishOk

/-- HKA_PATH (R842). -/
def execHkaPath (n : BitVec 8) (low high : List Word) (s : State) : Host.Outcome State Fault Refusal :=
  s.run fun d => d.command (.hkaPath n low high) fun d => d.consoleHkaPath n.toNat low high

/-- A system calibration command of the console: RANGE beyond AIN3, BUSY while a step runs. -/
def Dev.consoleCal (d : Dev) (n : Nat) (f : Dev → Dev) : Dev :=
  if d.fullSet = false then d.finishErr 6
  else if 3 < n then d.finishErr 5
  else if d.hka.step.isSome then d.finishErr 8
  else f d

/-- A step ended at once: the console prints the status. -/
def Dev.calAnswer (d : Dev) : Dev :=
  if d.hka.step.isSome then d else (d.print (.values 0xC3 [word (d.fld HKA_SCSTAT_STATUS)])).finishOk

/-- HKA_CAL_ZERO: `hka cal n zero` runs the ZERO step (R843). -/
def execHkaCalZero (n : BitVec 8) (s : State) : Host.Outcome State Fault Refusal :=
  s.run fun d => d.longCommand (.hkaCalZero n) fun d => d.consoleCal n.toNat fun d => (d.syscalBegin 1 n.toNat true).calAnswer

/-- HKA_CAL_FULL: `hka cal n full v` sets HKA_SCFULL and runs the FULL step (R843). -/
def execHkaCalFull (n : BitVec 8) (uv : Word) (s : State) : Host.Outcome State Fault Refusal :=
  s.run fun d => d.longCommand (.hkaCalFull n uv) fun d => d.consoleCal n.toNat fun d =>
    ((d.setReg HKA_SCFULL uv).syscalBegin 2 n.toNat true).calAnswer

/-- HKA_CAL_APPLY: `hka cal n apply` runs the APPLY step (R844). -/
def execHkaCalApply (n : BitVec 8) (vref : Word) (copyOk : Bool) (s : State) : Host.Outcome State Fault Refusal :=
  s.run fun d => d.command (.hkaCalApply n vref copyOk) fun d => d.consoleCal n.toNat fun d =>
    (d.syscalApply n.toNat vref.toNat copyOk).calAnswer

/-- HKA_TAPSEL takes 0 to 8; other values leave it unchanged (R836, R856). -/
def Dev.writeTapsel (d : Dev) (value : Word) : Dev := if wGet value 0 4 ≤ 8 then d.storeReg HKA_TAPSEL value else d

/-! Resets, wakes and commits. -/

/-- After every reset but a core watchdog reset: everything cleared (R852). The registers return with the others. -/
def Dev.hkaReset (d : Dev) : Dev := d.setHka {}

/-- At a wake from HIBERNATE: accumulators cleared and bands UNKNOWN (R853). -/
def Dev.hkaWake (d : Dev) : Dev :=
  (List.range 16).foldl (fun d c => (d.setHkaChan c {}).setFld (HKA_BCFG_STATE c) bandUnknown) d

/-- The converters stop with the core domain: conversions in progress are lost and the references are not ready
(R831, R837). -/
def Dev.hkaOff (d : Dev) : Dev :=
  let d := d.setHka { d.hka with ilv := none }
  (((d.setConv false none).setConv true none).setFlag HKA_STAT_REFINT_RDY false).setFlag HKA_STAT_REFIN_RDY false

/-- A commit changed the plan or bands of a channel: the band's state becomes UNKNOWN, and the REFIN buffer follows the plan
(R838, R849). -/
def Dev.hkaCommit (d : Dev) (c : Nat) : Dev := (d.bandReset c).refinFollow

/-- The registers of the block that show other state: the plan and bands (R856) and the requester's snapshot (R828). -/
def Dev.hkaView (d : Dev) (rq : Requester) (a : Nat) : Option Word :=
  let (ch, s) := d.hka.snaps.getD (rqIndex rq) (0, {})
  let sum := (s.sum % (2 ^ 48 : Int)).toNat
  if a = HKA_SSUMH then some (word (sum / 16777216))
  else if a = HKA_SSUML then some (word sum)
  else if a = HKA_SCOUNT then some (word s.count)
  else if a = HKA_SMIN then some s.min
  else if a = HKA_SMAX then some s.max
  else if a = HKA_SOVR then some (pack [(bit s.sat, 23), (ch, 16), (s.ovrPos, 8), (s.ovrNeg, 0)])
  else if HKA_CCFG 0 ≤ a ∧ a < HKA_CCFG 16 then
    let c := (a - HKA_CCFG 0) / 4
    let j := (a - HKA_CCFG 0) % 4
    if j = 0 then some (d.cfgWord secHka 0x01 c)
    else if j = 3 then
      let w := d.cfgWord secHka 0x02 (4 * c + 3)
      some (pack [(wGet w 23 1, 23), (d.fld (HKA_BCFG_STATE c), 21), (wGet w 0 5, 16),
        ((d.cfgWord secHka 0x02 (4 * c + 2)).toNat % 65536, 0)])
    else some (d.cfgWord secHka 0x02 (4 * c + j - 1))
  else none

end Sys2Proof.Machine
end

