-- ==== Sys2Proof/Machine/Cal.lean ====
section
/-!
DEFINITION. Cal.lean: calibration runs and slices, telemetry records and the fault log in the EEPROM (chapter 23).
-/

namespace Sys2Proof.Machine

def Dev.setCal (d : Dev) (c : Calib) : Dev := { d with cal := c }

abbrev calIdle : Nat := 0
abbrev calDue : Nat := 1
abbrev calSliced : Nat := 2
abbrev calFull : Nat := 3
abbrev calStarved : Nat := 4

/-! Runs (R862 to R866, R880). -/

/-- A temperature in 0.1 °C from 0.001 °C; the rounding is free (log entry 2). -/
def Dev.tenths (d : Dev) (t : Int) : Int × Dev :=
  let (up, d) := if t % 100 = 0 then (0, d) else d.draw 2
  (t / 100 + up, d)

/-- LEFT follows the front-end items left, saturating at 255. -/
def Dev.setItems (d : Dev) (items : List Nat) : Dev :=
  (d.setCal { d.cal with items := items }).setFld CAL_STAT_LEFT (min items.length 255)

/-- The front-end items of a run: channels 0 to 67, then the TX electrodes in TX order (R866). -/
def Dev.runItems (d : Dev) : List Nat := List.range 68 ++ ((List.range d.ntx).filterMap d.txEl).map (68 + ·)

/-- A run begins, in slices or in full (R864, R866); the RC legs are measured only while the RC oscillator runs the time
base (R857). -/
def Dev.runBegin (d : Dev) (full : Bool) : Dev :=
  let (t0, d) := d.tenths d.hka.t0
  let (t1, d) := d.tenths d.hka.t1
  let d := d.setCal { d.cal with
    refLeft := true
    rcLeft := !d.flag SYS_CLK_SRC32
    slices := 0
    t0 := t0
    t1 := t1
    passed := [] }
  (d.setItems d.runItems).setFld CAL_STAT_STATE (if full then calFull else calSliced)

/-- A full run replaces any run in progress (R864, R880). Trigger codes of source 212. -/
def Dev.fullRun (d : Dev) (trigger : Nat) : Dev := (d.setFld CAL_STAT_TRIGGER trigger).runBegin true

/-- A run has begun and not ended. -/
def Dev.runBegun (d : Dev) : Bool := !(d.cal.items.isEmpty && !d.cal.refLeft && !d.cal.rcLeft)

/-- SERVICE with the scan stopped (R863). -/
def Dev.fullNow (d : Dev) : Bool := d.mode == modeService && !d.flag SCAN_STAT_RUN

/-- A trigger makes a run due; one that comes during a run waits for its end (R862, R880). In SERVICE with the scan
stopped the run begins in full (R863). -/
def Dev.calTrigger (d : Dev) (trigger : Nat) : Dev :=
  let st := d.fld CAL_STAT_STATE
  if st = calIdle then
    if d.fullNow then d.fullRun trigger
    else ((d.setFld CAL_STAT_STATE calDue).setFld CAL_STAT_TRIGGER trigger).setCal { d.cal with since := d.ticks }
  else if st = calDue ∨ d.runBegun = false then d
  else d.setCal { d.cal with again := some trigger }

/-- In SERVICE with the scan stopped a due run, or one whose items are unfinished, runs in full (R863, R881). -/
def Dev.calService (d : Dev) : Dev :=
  if d.fullNow && [calDue, calSliced,
    calStarved].contains (d.fld CAL_STAT_STATE) then d.fullRun (d.fld CAL_STAT_TRIGGER) else d

/-- SCAN_STOP: stops frames or a tone in SERVICE, where a due run then runs in full (R75, R863). -/
def Dev.consoleScanStop (d : Dev) : Dev :=
  if !d.fullSet then d.finishErr 6
  else if d.scan.tone.isSome then
    (({ d with scan := { d.scan with tone := none } }).setFld SCAN_STAT_PHASE 0).finishOk
  else if d.scan.consoleRun then ((d.scanStop 2).setFlag SCAN_STAT_SVC_STOP (d.mode == modeService)).calService.finishOk
  else if d.mode = modeService ∨ d.mode = modeSafe then d.finishOk
  else d.finishErr 8

/-- SCAN_STOP (R75). -/
def execScanStop (s : State) : Host.Outcome State Fault Refusal := s.run fun d => d.command .scanStop Dev.consoleScanStop

/-- T0 or T1 differs from CAL_TREF by more than CAL_DELTA_T (R862). -/
def Dev.calDeltaMet (d : Dev) : Bool :=
  let far (t : Int) (ref : Fld) : Bool :=
    let r := (BitVec.ofNat 12 (d.fld ref)).toInt
    decide (d.par secCal 0x01 * 1000 < (t - r * 100).natAbs)
  d.par secCal 0x06 == 1 && (far d.hka.t0 CAL_TREF_T0 || far d.hka.t1 CAL_TREF_T1)

/-- A valid conversion of channel 9 or 10 is judged (R862); until both have been judged after a wake, the trigger is the
wake (R180). -/
def Dev.calJudge (d : Dev) (ch : Option Nat) : Dev :=
  if ch = some 9 ∨ ch = some 10 then
    let trigger := if d.cal.woke then 5 else 1
    let due := d.calDeltaMet && d.fld CAL_STAT_STATE == calIdle
    let d := if ch = some 10 ∨ due = true then d.setCal { d.cal with woke := false } else d
    if due then d.calTrigger trigger else d
  else d

/-- CONVERSION_END (R825, R862). -/
def execConversionEnd (b : Bool) (value : Word) (ovr : BitVec 2) (s : State) : Host.Outcome State Fault Refusal :=
  s.run fun d => (d.convEnd b value ovr.toNat).calJudge (if ovr = 0 then (d.conv b).map HkaConv.ch else none)

/-- HKA_CONV (R833). -/
def execHkaConv (n k : BitVec 8) (values : List (Word × BitVec 2)) (s : State) : Host.Outcome State Fault Refusal :=
  s.run fun d => d.command (.hkaConv n k values) fun d =>
    (d.consoleHkaConv n.toNat k.toNat values).calJudge (if d.hkaConvRuns n.toNat k.toNat then some n.toNat else none)

/-- The end of a run whose last item has been judged: CAL_TREF takes the temperatures at its start, CAL_DONE is raised,
and a trigger that waited makes a new run due (R866, R880). -/
def Dev.runEnd (d : Dev) : Dev :=
  if d.cal.items.isEmpty && !d.cal.refLeft && !d.cal.rcLeft then
    let trigger := d.fld CAL_STAT_TRIGGER
    let slices := d.cal.slices
    let t0 := (BitVec.ofInt 12 d.cal.t0).toNat
    let t1 := (BitVec.ofInt 12 d.cal.t1).toNat
    let d := (d.setFld CAL_TREF_T0 t0).setFld CAL_TREF_T1 t1
    let d := (d.setFld CAL_STAT_STATE calIdle).bump CAL_CNT_RUNS
    let again := d.cal.again
    let d := d.setCal { d.cal with again := none, flags := d.cal.flags ||| 0x20#24 }
    let d := d.ring 212 (pack [(trigger, 20), (min slices 4095, 0)]) (pack [(t0, 12), (t1, 0)])
    match again with
    | some t => d.calTrigger t
    | none => d.calJudge (some 10)
  else d

/-! Items (R857 to R861). -/

/-- CAL_REDUNDANCY, once for a set (R861). -/
def Dev.redundancy (d : Dev) (set number left : Nat) : Dev :=
  if d.cal.reported.contains (set, number) then d
  else (d.setCal { d.cal with reported := (set, number) :: d.cal.reported }).ring 214
    (pack [(set, 20), (left, 16), (number, 0)]) 0

def Dev.chanCal (d : Dev) (c : Nat) : ChanCal :=
  match d.cal.chans.find? fun p => p.1 == c with
  | some p => p.2
  | none => {}
def Dev.setChanCal (d : Dev) (c : Nat) (v : ChanCal) : Dev :=
  d.setCal { d.cal with chans := (c, v) :: d.cal.chans.filter fun p => p.1 != c }

/-- Every subset of the good cells with its sum, as (sum, mask). -/
def cellSums : List (Nat × Nat) → List (Nat × Nat)
  | [] => [(0, 0)]
  | (i, v) :: rest =>
    let tail := cellSums rest
    tail ++ tail.map fun p => (p.1 + v, p.2 + 2 ^ i)

/-- The subset whose sum is nearest a value; the lower mask of two as near (DESIGN CHOICE, log entry 55). -/
def nearestSum (cells : List (Nat × Nat)) (want : Nat) : Nat × Nat :=
  (cellSums cells).foldl (fun best p =>
    let far (q : Nat × Nat) : Nat := (q.1 - want) + (want - q.1)
    if far p < far best ∨ (far p = far best ∧ p.2 < best.2) then p else best) (0, 0)

/-- The good elements of a measurement within lo to hi, with their numbers. -/
def goodElements (vs : List Nat) (lo hi : Nat) : List (Nat × Nat) :=
  (vs.zipIdx.map fun p => (p.2, p.1)).filter fun p => decide (lo ≤ p.2 ∧ p.2 ≤ hi)

def maskOf (is : List Nat) : Nat := is.foldl (fun m i => m ||| 2 ^ i) 0

/-- Spares that are free: not in use and not failed. -/
def Dev.sparesFree (d : Dev) : List Nat :=
  (List.range 4).filter fun i => !(d.fld SCAN_SPARE_INUSE).testBit i && !(d.fld SCAN_SPARE_FAILED).testBit i

/-- SPARES_FREE follows, and the last free spare is reported (R861). -/
def Dev.noteSpares (d : Dev) : Dev :=
  let n := d.sparesFree.length
  let d := d.setFld SCAN_STAT_SPARES_FREE n
  if n ≤ 1 then d.redundancy 3 0 n else d

/-- Logical channels that use a physical channel. -/
def Dev.logicalsOf (d : Dev) (p : Nat) : List Nat := (List.range 64).filter fun l => d.fld (SCAN_CHMAP_PHYS l) == p

/-- A logical channel whose physical channel is out of limits takes the lowest free spare that has passed its check; while
spares of this run are still to be checked it waits; with none it fails (R238, R859). -/
def Dev.remap (d : Dev) (l : Nat) : Dev :=
  let old := d.fld (SCAN_CHMAP_PHYS l)
  match d.sparesFree.find? fun i => d.cal.passed.contains (64 + i) with
  | some i =>
    let d := (d.setFld (SCAN_CHMAP_PHYS l) (64 + i)).setFlag (SCAN_CHMAP_FAILED l) false
    let d := d.setFld SCAN_SPARE_INUSE (d.fld SCAN_SPARE_INUSE ||| 2 ^ i)
    let d := (d.setCal { d.cal with replaced := old :: d.cal.replaced }).noteSpares
    let d := { d with scan := { d.scan with changed := d.scan.changed ++ [l] } }
    d.ring 23 (pack [(l, 0), (old, 8), (64 + i, 16)]) (word d.sparesFree.length)
  | none =>
    if d.sparesFree.any fun i => d.cal.items.contains (64 + i) then d
    else if d.flag (SCAN_CHMAP_FAILED l) then d
    else (d.setFlag (SCAN_CHMAP_FAILED l) true).ring 23 (pack [(l, 0), (old, 8), (0x7F, 16)]) (word d.sparesFree.length)

/-- Logical channels whose physical channel is out of limits look for a spare. -/
def Dev.remapBad (d : Dev) : Dev :=
  (List.range 64).foldl (fun d l => if (d.chanCal (d.fld (SCAN_CHMAP_PHYS l))).bad then d.remap l else d) d

/-- A physical channel is judged: its good cells, the subset nearest CINT, and whether it is within limits (R857, R859).
Its offset source is set too; the spec gives the setting no code, so it is free (R209; log entry 2). A channel found
within limits that has not been replaced serves again. -/
def Dev.channelItem (d : Dev) (c : Nat) (cells : List Nat) (ok : Bool) : Dev :=
  let want := d.par secScan 0x0B * 1000
  let good := goodElements (cells.take 12) 1600 2400
  let best := nearestSum good want
  let within := ok && decide (want * 95 ≤ best.1 * 100 ∧ best.1 * 100 ≤ want * 105)
  let before := d.chanCal c
  let gone := d.cal.replaced.contains c
  let (offset, d) := d.draw 16777216
  let d := d.setChanCal c ⟨word best.2, word (maskOf (good.map Prod.fst)), !within || gone, word offset⟩
  let d := if before.cells = word best.2 then d
    else { d with scan := { d.scan with changed := d.scan.changed ++ d.logicalsOf c } }
  let d := if within = false then d.redundancy 1 c 0
    else if maskOf (good.map Prod.fst) = best.2 then d.redundancy 1 c 1 else d
  let d :=
    if 64 ≤ c then
      if within then d.setCal { d.cal with passed := c :: d.cal.passed }
      else (d.setFld SCAN_SPARE_FAILED (d.fld SCAN_SPARE_FAILED ||| 2 ^ (c - 64))).noteSpares
    else if within ∧ gone = false then (d.logicalsOf c).foldl (fun d l => d.setFlag (SCAN_CHMAP_FAILED l) false) d
    else d
  d.remapBad

/-- The six good legs nearest their median, ties to the lower number (DESIGN CHOICE, log entry 55); with fewer than six,
all good ones (R210, R857). -/
def Dev.chooseLegs (d : Dev) (good : List (Nat × Nat)) : Nat × Dev :=
  if good.length ≤ 6 then (maskOf (good.map Prod.fst), d)
  else
    let (m, d) := d.median (good.map Prod.snd)
    let far (p : Nat × Nat) : Nat := (p.2 - m) + (m - p.2)
    let ordered := good.mergeSort fun a b => decide (far a < far b ∨ (far a = far b ∧ a.1 ≤ b.1))
    (maskOf ((ordered.take 6).map Prod.fst), d)

/-- A TX driver is judged (R857, R860, R861): fewer than 3 good legs fault the electrode, fewer than 6 are reported, and 3
or more without a current-limit trip restore a faulted one. -/
def Dev.driverItem (d : Dev) (e : Nat) (legs : List Nat) (tripped : Bool) : Dev :=
  let good := goodElements (legs.take 8) 500 2000
  let n := good.length
  let before := d.fld (CAL_LEGS_EN e)
  let (en, d) := d.chooseLegs good
  let d := (d.setFld (CAL_LEGS_GOOD e) (maskOf (good.map Prod.fst))).setFld (CAL_LEGS_EN e) en
  let d :=
    if n < 3 then if d.elFaulted e then d else d.electrodeFault e 2
    else if d.elFaulted e = true ∧ tripped = false then d.electrodeFault e 4
    else if n < 6 ∧ before ≠ en then d.electrodeFault e 3
    else d
  if n < 6 then d.redundancy 2 e 0 else if n = 6 then d.redundancy 2 e 1 else d

/-- The next item of the run, with its measurement. -/
def Dev.takeItem (d : Dev) (vs : List (BitVec 16)) (flag : Bool) : Dev :=
  match d.cal.items with
  | [] => d
  | i :: rest =>
    let d := d.setItems rest
    if i < 68 then d.channelItem i (vs.map BitVec.toNat) flag else d.driverItem (i - 68) (vs.map BitVec.toNat) flag

/-- Items measured in full, one after another. -/
def Dev.takeItems (d : Dev) (ms : List (List (BitVec 16) × Bool)) : Dev := ms.foldl (fun d m => d.takeItem m.1 m.2) d

/-- Items measured within the microseconds left of a slice: 30 for a channel, 18 for a driver (R857, R865). -/
def Dev.sliceItems (d : Dev) (left : Nat) : List (List (BitVec 16) × Bool) → Dev
  | [] => d
  | m :: rest =>
    match d.cal.items with
    | [] => d
    | i :: _ =>
      let cost := if i < 68 then 30 else 18
      if left < cost then d else Dev.sliceItems (d.takeItem m.1 m.2) (left - cost) rest

/-- At least 200 µs, which are 9,600 cycles of 48 MHz, remain before the next frame start, as the tick shows it (R865; log
entry 36). -/
def Dev.roomLeft (d : Dev) : Bool := rateFits (d.cyclesInto d.scan.startTick + 9600) d.frameRate

/-- The present frame is the stretched one, and the starved tile has not yet run its slice in it (R869). -/
def Dev.starvedTurn (d : Dev) : Bool := d.fld CAL_STAT_STATE == calStarved && d.cal.window == some d.time.frame

/-- A slice may run: IDLE or ACTIVE, a run due, sliced or starved, in a frame gap, with the time for it, one core not tracking
and the frame-end record of the gap's frame admitted, where it has one; in the stretched frame a starved tile runs one whatever
these say (R863, R865, R869). -/
def Dev.sliceOk (d : Dev) : Bool :=
  let told := !d.trk.queue.any fun f => f.n == d.time.frame && f.buffer && !f.scrap
  (d.mode == modeIdle || d.mode == modeActive) && [calDue, calSliced, calStarved].contains (d.fld CAL_STAT_STATE) &&
    d.scan.cur.isNone && (d.starvedTurn || (decide (d.trk.queue.length < 4) && told && d.roomLeft))

/-- SLICE (R865, R866). -/
def Dev.slice (d : Dev) (ms : List (List (BitVec 16) × Bool)) : Dev :=
  if d.sliceOk then
    let d := if d.starvedTurn then d.setCal { d.cal with window := none } else d
    let d := if d.fld CAL_STAT_STATE = calDue ∨ d.runBegun = false then d.runBegin false else d.setFld CAL_STAT_STATE calSliced
    let d := d.setCal { d.cal with slices := d.cal.slices + 1, since := d.ticks }
    (d.sliceItems 150 ms).runEnd
  else d

/-- SLICE (R865). -/
def execSlice (items : List (List (BitVec 16) × Bool)) (s : State) : Host.Outcome State Fault Refusal :=
  s.run fun d => d.slice items

/-- Twice the median of the four cells: the sum of the two in the middle. -/
def twiceMedian (cells : List Nat) : Nat :=
  let s := cells.mergeSort
  s.getD 1 0 + s.getD 2 0

/-- The good reference cells: within 0.2 % of the median of the four (R857). Of the good cells as near to the median as any, as
two of four always are, the spec does not say which is chosen: it is free (log entry 2). -/
def Dev.refCells (d : Dev) (cells : List Nat) : Dev :=
  let m := twiceMedian cells
  let far (p : Nat × Nat) : Nat := (2 * p.1 - m) + (m - 2 * p.1)
  let good := cells.zipIdx.filter fun p => decide (far p * 500 ≤ m)
  let nearest := good.filter fun p => good.all fun q => decide (far p ≤ far q)
  let d := d.setFld CAL_REF_GOOD (maskOf (good.map Prod.snd))
  if good.length < 2 then d.redundancy 4 0 good.length
  else
    let (i, d) := d.draw nearest.length
    d.setFld CAL_REF_CHOSEN (nearest.getD i (0, 0)).2

/-- BACKGROUND_ITEM_END: a new reference cell or RC leg set is chosen (R857, R858, R861); background items wait in WATCH
(R863). -/
def Dev.backgroundEnd (d : Dev) (rc : Bool) (cells : List Nat) (legs : Nat) (reached : Bool) : Dev :=
  if [modeWatch, modeSafe, modeHibernate].contains d.mode then d
  else if rc then
    if d.cal.rcLeft then
      let d := d.setCal { d.cal with rcLeft := false }
      let lockref := d.fld SYS_CLK_LOCKREF
      let d := (d.setFld CAL_RC_LEGS legs).setFlag CAL_RC_TABLE (lockref != 3 && lockref != 4)
      (if reached then d else d.redundancy 5 0 0).runEnd
    else d
  else if d.cal.refLeft then ((d.setCal { d.cal with refLeft := false }).refCells (cells.take 4)).runEnd
  else d

/-- BACKGROUND_ITEM_END (R857). -/
def execBackgroundItemEnd (rc : Bool) (cells : List (BitVec 24)) (legs : BitVec 16) (reached : Bool) (s : State) :
    Host.Outcome State Fault Refusal :=
  s.run fun d => d.backgroundEnd rc (cells.map BitVec.toNat) legs.toNat reached

/-- A write of CAL_CMD: RUN with its key makes a run due (R862, R889). -/
def Dev.writeCalCmd (d : Dev) (value : Word) : Dev :=
  if wGet value 16 8 ≠ 0x5A ∨ wGet value 0 2 ≠ 1 then d.ignoreWrite else d.calTrigger 2

/-- RUN (R862). -/
def execRun (value : Word) (s : State) : Host.Outcome State Fault Refusal := s.run fun d => d.writeCalCmd value

/-- CAL_RUN: `cal run` writes CAL_CMD with OP = RUN (R862). -/
def execCalRun (s : State) : Host.Outcome State Fault Refusal :=
  s.run fun d => d.command .calRun fun d => (d.writeCalCmd (pack [(0x5A, 16), (1, 0)])).finishOk

/-- A run in progress is abandoned with the choices made, and is due again (R886). -/
def Dev.calAbandon (d : Dev) : Dev :=
  if d.fld CAL_STAT_STATE = calIdle then d
  else ((d.setItems []).setFld CAL_STAT_STATE calDue).setCal { d.cal with items := [], refLeft := false, rcLeft := false }

/-- A SAFE trigger ends a run in progress and keeps the choices made; a run that is only due stays due (R863, R881). -/
def Dev.calSafe (d : Dev) : Dev :=
  if d.runBegun then d.calAbandon.setFld CAL_STAT_STATE calIdle else d.calAbandon

/-! Starvation (R867 to R869). -/

/-- The manager names a stretched frame 8 frames ahead, at most once per CAL_MAXWAIT and not while one is pending or a
mode command is held (R868). -/
def Dev.nameStretch (d : Dev) : Dev :=
  let recent := match d.cal.named with
    | some t => decide (d.ticks < t + d.par secCal 0x02 * 32768)
    | none => false
  if d.cal.stretch.isSome || recent || d.modeHeld then d
  else
    let f := (d.time.frame + 8) % 16777216
    let d := d.joinedTiles.foldl (fun d t => d.send msgMode t [word (d.mode + 8), word f]) d
    (d.setCal { d.cal with stretch := some f, named := some d.ticks }).setFlag CAL_STAT_STRETCH true

/-- A standalone tile stretches the first frame whose self-capacitance scan ends next (R867). -/
def Dev.stretchOwn (d : Dev) : Dev :=
  let d := d.setFlag CAL_STAT_STRETCH true
  match d.scan.cur with
  | some f => { d with scan := { d.scan with cur := some { f with stretched := true } } }.setCal
      { d.cal with stretch := some f.n, window := some f.n }
  | none => d.setCal { d.cal with stretch := some ((d.time.frame + 1) % 16777216) }

/-- CAL_STARVED (R867, R868). A worker does not know the stretched frame: W2 of its record is free (log entry 2). -/
def Dev.calStarve (d : Dev) : Dev :=
  let st := d.fld CAL_STAT_STATE
  if (d.mode = modeIdle ∨ d.mode = modeActive) ∧ (st = calDue ∨ st = calSliced ∨ st = calStarved) then
    let d := (d.setFld CAL_STAT_STATE calStarved).bump CAL_CNT_STARVED
    let d := d.setCal { d.cal with since := d.ticks }
    let wait := word (d.par secCal 0x02)
    if d.isWorker then
      let (f, d) := d.draw 16777216
      d.ring 213 wait (word f)
    else
      let d := if d.onSurface then d.nameStretch else d.stretchOwn
      d.ring 213 wait (word (d.cal.stretch.getD 0))
  else d

/-- CAL_STARVED (R867). -/
def execCalStarved (s : State) : Host.Outcome State Fault Refusal := s.run Dev.calStarve

/-! Telemetry (R871, R872). -/

/-- Flags of the period: REDUCED, RAIL DEGRADED, WET and NOISY as they stand, kept for the next record (R872). -/
def Dev.noteTelem (d : Dev) (stretched : Bool) : Dev :=
  let now := pack [(d.fld TRK_STAT_REDUCED, 0), (d.fld RAIL_STAT_DEGRADED, 1), (d.fld TRK_STAT_WET, 2),
    (d.fld TRK_STAT_NOISY, 3), (bit stretched, 4)]
  d.setCal { d.cal with flags := d.cal.flags ||| now }

/-- The four words of a channel in a telemetry slot. -/
def telemWords (a : AccSet) : List Word :=
  [wordI a.mean, a.min, a.max, pack [(min a.count 4095, 12), (min a.ovrPos 63, 6), (min a.ovrNeg 63, 0)]]

/-- TELEMETRY_RECORD: the F sets are snapshotted and cleared, the record stands in the next slot of bank 14, and
TELEM_READY is raised (R871, R872). -/
def Dev.telemetry (d : Dev) : Dev :=
  if [modeIdle, modeActive, modeService, modeSafe].contains d.mode then
    let d := (d.noteTelem false).touchTime
    let seq := d.cal.nextSeq
    let slot := seq % 128
    let t := d.time.now
    let ms := (d.ticks - d.cal.lastRec) * 1000 / 32768
    let body :=
      [word seq, word t.1, word (t.1 / 16777216), word t.2, pack [(d.mode, 8), (d.time.epoch, 0)], word d.time.frame,
        word (min ms 0xFFFFFF), d.cal.flags] ++ List.replicate 8 0 ++
      d.hka.chans.flatMap (fun c => telemWords c.f) ++ (List.range 8).map (fun k => d.reg (TRK_NOISE k)) ++
      List.replicate 40 0
    let d := d.fillBank 14 (128 * slot) body
    let d := d.setHka { d.hka with chans := d.hka.chans.map fun c => { c with f := {} } }
    let d := d.setCal { d.cal with
      flags := 0, nextSeq := (seq + 1) % 16777216, lastRec := d.ticks, telemGone := d.cal.telemGone.filter (· != slot) }
    let d := (d.setFld CAL_TELEM_SLOT slot).setFld CAL_TSEQ_SEQ seq
    d.ring 215 (word slot) (word seq)
  else d

/-- TELEMETRY_RECORD (R871). -/
def execTelemetryRecord (s : State) : Host.Outcome State Fault Refusal := s.run Dev.telemetry

/-- The slot of the last telemetry record that has not been discarded (R666, R872). -/
def Dev.telemSlot (d : Dev) : Nat :=
  let back := fun k => (d.fld CAL_TELEM_SLOT + 128 - k) % 128
  (((List.range 128).map back).find? fun i => !d.cal.telemGone.contains i).getD (d.fld CAL_TELEM_SLOT)

/-- TELEM: the console prints the words of the last record (chapter 23). -/
def execTelem (s : State) : Host.Outcome State Fault Refusal :=
  s.run fun d => d.command .telem fun d =>
    (d.print (.values 0xD2 (cellsRead bankDefault d.banks (bankAddr 14 (128 * d.telemSlot)) 128))).finishOk

/-! The fault log (R873 to R879, R884, R885). -/

/-- The byte address of a page of the log area. -/
def pageAddr (p : Nat) : Nat := settingsBase + 256 * p

/-- A descriptor (R873). -/
def descriptor (lap : Nat) (inUse : Bool) (first : Nat) : List Byte :=
  let body := [0x4C#8, 0x47#8] ++ natBytes 3 lap ++ [if inUse then 1#8 else 0#8] ++ natBytes 3 first ++ List.replicate 5 0#8
  body ++ natBytes 2 (crc16 body).toNat

/-- LAP, in use, and FIRST of a valid descriptor. -/
def readDescriptor (bs : List Byte) : Option (Nat × Bool × Nat) :=
  if bs.take 2 == [0x4C#8, 0x47#8] && crc16 (bs.take 14) == BitVec.ofNat 16 (bytesNat (bs.drop 14)) then
    some (bytesNat ((bs.drop 2).take 3), (bs.getD 5 0) == 1#8, bytesNat ((bs.drop 6).take 3))
  else none

/-- A log record in the layout of R874. -/
def logBytes (seq : Nat) (r : LogRec) : List Byte :=
  let body := natBytes 3 seq ++ [BitVec.ofNat 8 (r.type * 64 + r.epoch % 64)] ++ natBytes 2 r.src ++ natBytes 6 r.sec ++
    natBytes 3 r.frac ++ wordBytes r.w1 ++ wordBytes r.w2 ++ [0#8]
  body ++ natBytes 2 (crc16 body).toNat

/-- The record of slot i of a page, when it is valid (R874). -/
def Dev.logSlot (d : Dev) (page first i : Nat) : Option (Nat × LogRec) :=
  let bs := d.nvmRead (pageAddr page + 16 + 24 * i) 24
  let num (k n : Nat) : Nat := bytesNat ((bs.drop k).take n)
  let seq := num 0 3
  if crc16 (bs.take 22) == BitVec.ofNat 16 (num 22 2) && seq == (first + i) % 16777216 then
    some (seq, ⟨num 3 1 / 64, num 3 1 % 64, num 4 2 % 512, num 6 6, num 12 3, word (num 15 3), word (num 18 3)⟩)
  else none

/-- The pages of the log area (R131). -/
def Dev.logPages (d : Dev) : Nat := d.par secSystem 0x04

/-- Circular pages that remain usable (R884). -/
def Dev.usablePages (d : Dev) : Nat := d.cal.pages - 1 - d.cal.retired.length

/-- LOG_EVENT of kind 2 with the count of lost records, once the queue has room (R879, R885). -/
def Dev.reportLost (d : Dev) : Dev :=
  if d.cal.lost = 0 ∨ 64 ≤ d.logQ.length then d
  else
    let n := d.cal.lost
    (d.setCal { d.cal with lost := 0 }).ring 216 (word 2) (word (min n 0xFFFFFF))

/-- Fewer than 8 usable pages stop the log (R884). -/
def Dev.judgeWorn (d : Dev) : Dev :=
  if d.usablePages < 8 ∧ d.flag CAL_LOGSTAT_WORN = false then (d.ring 216 (word 4) 0).setFlag CAL_LOGSTAT_WORN true else d

/-- LOG_MOUNT: every descriptor is read, and the head page and its next slot are found (R877). With no page in use the
next record opens page 1. -/
def Dev.logMount (d : Dev) : Dev :=
  let pages := d.logPages
  let descs := (List.range pages).filterMap fun p =>
    if p = 0 then none else (readDescriptor (d.nvmRead (pageAddr p) 16)).map fun x => (p, x)
  let retired := (descs.filter fun x => !x.2.2.1).map Prod.fst
  let head := (descs.filter fun x => x.2.2.1).foldl (fun (b : Option (Nat × Nat × Bool × Nat)) x => match b with
    | none => some x
    | some y => if y.2.1 < x.2.1 ∨ (y.2.1 = x.2.1 ∧ y.2.2.2 < x.2.2.2) then some x else some y) none
  let d := d.setCal { d.cal with retired := retired, pages := pages, lap := match head with
    | some x => x.2.1
    | none => 0 }
  let d := match head with
    | none => ((d.setFld CAL_LOGSTAT_HEAD 0).setFld CAL_LOGSTAT_SLOT 10).setFld CAL_LOGSEQ_SEQ 0
    | some (p, _, _, first) =>
      let slot := ((List.range 10).find? fun i => (d.logSlot p first i).isNone).getD 10
      ((d.setFld CAL_LOGSTAT_HEAD p).setFld CAL_LOGSTAT_SLOT slot).setFld CAL_LOGSEQ_SEQ (first + slot)
  let d := (d.setFld CAL_LOGSTAT_RETIRED retired.length).setFlag CAL_LOGSTAT_MOUNTED true
  let d := d.ring 216 (pack [(3, 0), (d.fld CAL_LOGSTAT_HEAD, 4)]) (d.reg CAL_LOGSEQ)
  d.reportLost.judgeWorn

/-- LOG_MOUNT (R877). It follows start-up step 7 or the entry into SAFE. -/
def execLogMount (s : State) : Host.Outcome State Fault Refusal :=
  s.run fun d => if 7 < d.pwr.step ∧ d.flag CAL_LOGSTAT_MOUNTED = false then d.logMount else d

/-- The bytes of a transaction that does not read back as sent are free (log entry 2). -/
def Dev.nvmGarble (d : Dev) (a : Nat) : Nat → Dev
  | 0 => d
  | n + 1 =>
    let (v, d) := d.draw 256
    Dev.nvmGarble (d.nvmWrite a [BitVec.ofNat 8 v]) (a + 1) n

/-- A transaction written up to twice; the outcomes of the read-backs come from a list, true beyond it (R876). -/
def Dev.nvmTry (d : Dev) (a : Nat) (bs : List Byte) : List Bool → Bool × List Bool × Dev
  | false :: false :: rest => (false, rest, d.nvmGarble a bs.length)
  | false :: _ :: rest => (true, rest, d.nvmWrite a bs)
  | _ :: rest => (true, rest, d.nvmWrite a bs)
  | [] => (true, [], d.nvmWrite a bs)

/-- The next circular page after p that is not retired, and whether the search wrapped. -/
def nextPage (pages : Nat) (retired : List Nat) : Nat → Nat → Option (Nat × Bool)
  | 0, _ => none
  | k + 1, p =>
    let q := if p + 1 < pages then p + 1 else 1
    if retired.contains q then (nextPage pages retired k q).map fun r => (r.1, r.2 || decide (q ≤ p))
    else some (q, decide (q ≤ p))

/-- A page is retired: its whole descriptor is rewritten with STATE 0 (R876). When that write fails too, the page is
retired again on its next lap. -/
def Dev.retirePage (d : Dev) (page lap first : Nat) (ok : List Bool) : List Bool × Dev :=
  let (good, rest, d) := match ok with
    | false :: rest => (false, rest, d.nvmGarble (pageAddr page) 16)
    | _ :: rest => (true, rest, d.nvmWrite (pageAddr page) (descriptor lap false first))
    | [] => (true, [], d.nvmWrite (pageAddr page) (descriptor lap false first))
  let d := if good then
      let d := d.setCal { d.cal with retired := d.cal.retired ++ [page] }
      d.setFld CAL_LOGSTAT_RETIRED d.cal.retired.length
    else d
  (rest, (d.ring 216 (pack [(1, 0), (page, 4)]) 0).judgeWorn)

/-- The record at the head of the queue has been written. -/
def Dev.logWritten (d : Dev) (head slot : Nat) : Dev :=
  let d := { d with logQ := d.logQ.drop 1 }
  let d := (d.setFld CAL_LOGQ_QUEUED d.logQ.length).setFld CAL_LOGSEQ_SEQ (d.fld CAL_LOGSEQ_SEQ + 1)
  ((d.setFld CAL_LOGSTAT_HEAD head).setFld CAL_LOGSTAT_SLOT (slot + 1)).reportLost

/-- The queue's first record goes to a new page, and to the next one when that page fails (R876). -/
def Dev.openPage (d : Dev) (r : LogRec) : Nat → Nat → List Bool → Dev
  | 0, _, _ => d
  | k + 1, from_, ok =>
    match nextPage d.cal.pages d.cal.retired d.cal.pages from_ with
    | none => d
    | some (p, wrapped) =>
      let seq := d.fld CAL_LOGSEQ_SEQ
      let lap := d.cal.lap + bit wrapped
      let d := d.setCal { d.cal with lap := lap }
      match d.nvmTry (pageAddr p) (descriptor lap true seq ++ logBytes seq r) ok with
      | (true, _, d) => d.logWritten p 0
      | (false, rest, d) =>
        let (rest, d) := d.retirePage p lap seq rest
        if d.flag CAL_LOGSTAT_WORN then d else Dev.openPage d r k p rest

/-- What keeps a queued record from being written: no mounted log, a worn one, VDD_WARN, HOLD, no VDDIO, or a proxy page on
the bus, which a log page never interleaves with (R41, R156, R442, R449, R883, R884). -/
def Dev.logBarred (d : Dev) : Bool :=
  !d.flag CAL_LOGSTAT_MOUNTED || d.flag CAL_LOGSTAT_WORN || d.nvmBarred || d.flag TWB_NVCTL_HOLD || !d.ioLive ||
    d.twb.nvOp == 4

/-- A copy of the settings page that waited is written when the bus is free for it (R878, R884). -/
def Dev.settingsTurn (d : Dev) : Bool :=
  d.hka.settingsDue && !(d.nvmBarred || d.flag TWB_NVCTL_HOLD || !d.ioLive || d.twb.nvOp == 4)

/-- LOG_RECORD_WRITE: a queued record is written to the next free slot of the head page, or opens the next page; a page
that fails twice is retired (R876). -/
def Dev.logWrite (d : Dev) (ok : List Bool) : Dev :=
  match d.logQ with
  | [] => d
  | r :: _ =>
    if d.logBarred then d
    else
      let head := d.fld CAL_LOGSTAT_HEAD
      let slot := d.fld CAL_LOGSTAT_SLOT
      let seq := d.fld CAL_LOGSEQ_SEQ
      let fuel := d.cal.pages + 1
      if 10 ≤ slot then d.openPage r fuel head ok
      else
        match d.nvmTry (pageAddr head + 16 + 24 * slot) (logBytes seq r) ok with
        | (true, _, d) => d.logWritten head slot
        | (false, rest, d) =>
          let (rest, d) := d.retirePage head d.cal.lap ((seq + 16777216 - slot) % 16777216) rest
          if d.flag CAL_LOGSTAT_WORN then d else d.openPage r fuel head rest

/-- LOG_RECORD_WRITE: a copy of the settings page that waited goes first (R876, R878). -/
def execLogRecordWrite (ok : List Bool) (s : State) : Host.Outcome State Fault Refusal :=
  s.run fun d =>
    if d.settingsTurn then ((d.setHka { d.hka with settingsDue := false }).writeCopy (ok.headD true)).nvmIdle
    else if d.logQ.isEmpty || d.logBarred then d
    else (d.logWrite ok).nvmIdle

/-- LOG_SUMMARY: two type-1 records for each channel that the plan enables, covering the time since the last summary
(R874, R875). The over-range count is that of both signs. -/
def Dev.logSummary (d : Dev) : Dev :=
  if d.par secCal 0x05 = 0 then d
  else
    let d := d.touchTime
    let t := d.time.now
    let d := (List.range 16).foldl (fun d c =>
      if planInterval (d.planWord c) = 0 then d
      else
        let a := d.cal.summary.getD c {}
        let d := d.logRec ⟨1, d.time.epoch, c, t.1, t.2, wordI a.mean, a.max⟩
        d.logRec ⟨1, d.time.epoch, 256 + c, t.1, t.2, a.min, word (a.ovrPos + a.ovrNeg)⟩) d
    d.setCal { d.cal with summary := List.replicate 16 {} }

/-- LOG_SUMMARY (R875). -/
def execLogSummary (s : State) : Host.Outcome State Fault Refusal := s.run Dev.logSummary

/-- LOG_STAT: the console prints the log registers (R877). -/
def execLogStat (s : State) : Host.Outcome State Fault Refusal :=
  s.run fun d => d.command .logStat fun d => (d.print (.values 0xD1 [d.reg CAL_LOGSTAT, d.reg CAL_LOGSEQ,
    d.reg CAL_LOGQ])).finishOk

/-- The valid records of the pages in use, oldest first (R874, R876). -/
def Dev.logRecords (d : Dev) : List (Nat × LogRec) :=
  let pages := (List.range d.logPages).filterMap fun p =>
    if p = 0 then none
    else match readDescriptor (d.nvmRead (pageAddr p) 16) with
      | some (_, true, first) => some (p, first)
      | _ => none
  let recs := pages.flatMap fun p => (List.range 10).filterMap (d.logSlot p.1 p.2)
  let last := d.fld CAL_LOGSEQ_SEQ
  recs.mergeSort fun a b => decide ((last + 16777216 - b.1) % 16777216 ≤ (last + 16777216 - a.1) % 16777216)

/-- A `log` line (R934); the source carries the TYPE of the record above its 9 bits (log entry 6). -/
def logLine (r : Nat × LogRec) : OutLine :=
  .record r.1 r.2.epoch r.2.sec r.2.frac (512 * r.2.type + r.2.src) r.2.w1 r.2.w2

/-- The lines of `log`: the last n records, all of them, or those from a sequence number on, newest last (R69). -/
def Dev.logLines (d : Dev) (kind n : Nat) : List OutLine :=
  let rs := d.logRecords
  let rs := if kind = 0 then rs.drop (rs.length - n)
    else if kind = 1 then rs
    else rs.filter fun r => decide (0 ≤ frameDiff n r.1)
  rs.map logLine

/-- The NVM bus is free again: a `log` that waited for it prints what it found when it began (R86). -/
def Dev.logResume (d : Dev) : Dev :=
  match d.con.logWait with
  | none => d
  | some ls => { d with con := { d.con with logWait := none } }.printRun ls

/-- Registers of the block that show other state: the channel that CAL_CHSEL names. -/
def Dev.calView (d : Dev) (a : Nat) : Option Word :=
  let c := d.chanCal (d.fld CAL_CHSEL_CH)
  if a = CAL_CHSTAT then some (pack [(bit c.bad, 23), (c.cells.toNat, 0)])
  else if a = CAL_CHGOOD then some c.good
  else none

/-- Entry into HIBERNATE: records still in the queue are lost, and their count is kept (R885). -/
def Dev.logHibernate (d : Dev) : Dev :=
  let n := d.logQ.length
  ({ d with logQ := [] }.setFld CAL_LOGQ_QUEUED 0).setCal { d.cal with lost := d.cal.lost + n }

end Sys2Proof.Machine
end

