-- ==== Sys2Proof/Machine/Wire.lean ====
section
/-!
DEFINITION. Wire.lean: what a lane of the Egret link carries: the 8b/10b symbols with their running disparity, the control
symbols, and the frames as symbols (R588, R589, R595 to R597). The code tables are those of the standard code that R588 names
(PRESUMED, log entry 50).
-/

namespace Sys2Proof.Machine

/-! Symbols (R588, R589). -/

/-- The control symbols in use (R589). -/
inductive Control where
  /-- K28.5, idle and comma. -/
  | idle
  /-- K27.7, start of a sequenced frame. -/
  | seqStart
  /-- K23.7, start of an unsequenced frame. -/
  | plainStart
  /-- K29.7, end of frame. -/
  | frameEnd
  /-- K30.7, abort. -/
  | abort
  /-- K28.0, ACK; one data byte follows. -/
  | ack
  /-- K28.2, NAK; one data byte follows. -/
  | nak
  deriving DecidableEq, Repr

/-- What a symbol stands for: a byte, or a control symbol. -/
inductive Sym where
  | data (b : Byte)
  | control (k : Control)
  deriving DecidableEq, Repr

/-- Every control symbol in use. -/
def controls : List Control := [.idle, .seqStart, .plainStart, .frameEnd, .abort, .ack, .nak]

/-- The 6-bit part of a byte's low 5 bits at negative disparity, bit a first. -/
def code6 : List Nat :=
  [0b100111, 0b011101, 0b101101, 0b110001, 0b110101, 0b101001, 0b011001, 0b111000,
   0b111001, 0b100101, 0b010101, 0b110100, 0b001101, 0b101100, 0b011100, 0b010111,
   0b011011, 0b100011, 0b010011, 0b110010, 0b001011, 0b101010, 0b011010, 0b111010,
   0b110011, 0b100110, 0b010110, 0b110110, 0b001110, 0b101110, 0b011110, 0b101011]

/-- The 4-bit part of a byte's high 3 bits at negative disparity, bit f first; the last is the primary form of 7. -/
def code4 : List Nat := [0b1011, 0b1001, 0b0101, 0b1100, 0b1101, 0b1010, 0b0110, 0b1110]

/-- The 10 bits of a control symbol at negative disparity, bit a first. -/
def controlCode (k : Control) : Nat :=
  match k with
  | .idle => 0b0011111010
  | .seqStart => 0b1101101000
  | .plainStart => 0b1110101000
  | .frameEnd => 0b1011101000
  | .abort => 0b0111101000
  | .ack => 0b0011110100
  | .nak => 0b0011110101

/-- The number of ones among the low n bits. -/
def onesOf (v : Nat) : Nat → Nat
  | 0 => 0
  | n + 1 => onesOf v n + bit (v.testBit n)

/-- The disparity after a part of n bits: an unbalanced one turns it over. -/
def afterPart (pos : Bool) (v n : Nat) : Bool := if 2 * onesOf v n = n then pos else !pos

/-- A part at the disparity before it: a part that is unbalanced, or the one balanced part with two forms, is inverted at
positive disparity. -/
def partAt (pos : Bool) (v n twoForms : Nat) : Nat :=
  if pos && (2 * onesOf v n != n || v == twoForms) then 2 ^ n - 1 - v else v

/-- The alternate form of 7 stands where the primary one would make five equal bits in a row. -/
def alternate7 (pos : Bool) (x : Nat) : Bool := if pos then x == 11 || x == 13 || x == 14 else x == 17 || x == 18 || x == 20

/-- A symbol's 10 bits at a running disparity, bit a most significant and first on the lane, and the disparity after it
(R588). -/
def Sym.encode (s : Sym) (pos : Bool) : Nat × Bool :=
  match s with
  | .control k =>
    let v := controlCode k
    (if pos then 1023 - v else v, afterPart pos v 10)
  | .data b =>
    let x := b.toNat % 32
    let y := b.toNat / 32
    let v6 := code6.getD x 0
    let mid := afterPart pos v6 6
    let v4 := if y = 7 ∧ alternate7 mid x = true then 0b0111 else code4.getD y 0
    (partAt pos v6 6 0b111000 * 16 + partAt mid v4 4 0b1100, afterPart mid v4 4)

/-- Every symbol: 256 bytes and the control symbols. -/
def allSyms : List Sym := (List.range 256).map (fun n => .data (byte n)) ++ controls.map .control

/-- What 10 received bits stand for at a running disparity; none is a code or disparity error (R588, R637). -/
def decodeSym (v : Nat) (pos : Bool) : Option Sym := allSyms.find? fun s => (s.encode pos).1 == v

/-- The symbols of a lane from a running disparity on, and the disparity after them. -/
def encodeSyms (pos : Bool) : List Sym → List Nat × Bool
  | [] => ([], pos)
  | s :: rest =>
    let (v, p) := s.encode pos
    let (vs, q) := encodeSyms p rest
    (v :: vs, q)

/-! Frames (R595 to R597). -/

/-- The two header words (R597). -/
def Packet.header (pk : Packet) : List Word :=
  [pack [(pk.type % 8, 21), (bit pk.detour, 20), (bit pk.isLocal, 19), (pk.cls % 4, 17), (pk.dest % 1024, 7),
      (pk.payload.length % 128, 0)],
    pack [(pk.src % 1024, 14), (pk.tag % 64, 8), (pk.fseq % 256, 0)]]

/-- The bytes that the CRC covers: the SEQ byte of a sequenced frame, the header and the payload (R595, R596). -/
def Packet.covered (pk : Packet) (seq : Option Nat) : List Byte :=
  (match seq with
    | some n => [byte (n % 16)]
    | none => []) ++ (pk.header ++ pk.payload).flatMap wordBytes

/-- The bytes between start and end of a frame: what the CRC covers, then the CRC (R595). -/
def Packet.frameBytes (pk : Packet) (seq : Option Nat) : List Byte :=
  let bs := pk.covered seq
  bs ++ natBytes 2 (crc16 bs).toNat

/-- Bytes with one bit inverted, counted from the most significant bit of the first byte (R630; the count is a DESIGN CHOICE,
log entry 49). -/
def flipBit (bs : List Byte) (k : Nat) : List Byte :=
  match bs[k / 8]? with
  | some b => bs.set (k / 8) (b ^^^ byte (2 ^ (7 - k % 8)))
  | none => bs

/-- A frame as symbols (R595); `draw` chooses the bit that injection inverts (R630). -/
def Packet.symbols (pk : Packet) (seq : Option Nat) (draw : Option Nat) : List Sym :=
  let bs := pk.frameBytes seq
  let bs := match draw with
    | some n => flipBit bs (n % (8 * bs.length))
    | none => bs
  .control (if seq.isSome then .seqStart else .plainStart) :: (bs.map .data ++ [.control .frameEnd])

end Sys2Proof.Machine
end

