-- ==== Sys2Proof/Machine/Link.lean ====
section
/-!
DEFINITION. Link.lean: the Egret link (chapter 16): ports and their training, frames and their windows, routing, flows,
operations, the time beacon, and fault injection. What a delivered message or a completed operation does stands in
Deliver.lean.
-/

namespace Sys2Proof.Machine

def Dev.setLink (d : Dev) (l : Link) : Dev := { d with link := l }
def Dev.port (d : Dev) (p : Nat) : Port := d.link.ports.getD p {}
def Dev.setPort (d : Dev) (p : Nat) (v : Port) : Dev := d.setLink { d.link with ports := d.link.ports.set p v }

/-- A value kept by key. -/
def keyGet (l : List (Nat × Nat)) (k : Nat) : Nat :=
  match l.find? fun p => p.1 == k with
  | some p => p.2
  | none => 0
def keySet (l : List (Nat × Nat)) (k v : Nat) : List (Nat × Nat) := (k, v) :: l.filter fun p => p.1 != k

/-! Ports (R592, R637, R640). -/

abbrev portDisabled : Nat := 0
abbrev portDetect : Nat := 1
abbrev portTraining : Nat := 2
abbrev portUp : Nat := 3
abbrev portHeld : Nat := 4

def Dev.isUp (d : Dev) (p : Nat) : Bool := d.fld (EGL_PSTAT_STATE p) == portUp

/-- A port changes its state; PORTSUP follows. -/
def Dev.setPortState (d : Dev) (p st : Nat) : Dev :=
  let d := d.setFld (EGL_PSTAT_STATE p) st
  d.setFld EGL_STAT_PORTSUP ((List.range 4).foldl (fun m q => if d.isUp q then m + 2 ^ q else m) 0)

/-- The counts of EGL_PINFL[p] (R645). -/
def Dev.noteInflight (d : Dev) (p : Nat) : Dev :=
  let q := d.port p
  let ops := (d.link.ops.filter fun o => o.tag.isSome && o.port == p && o.result.isNone).length
  ((d.setFld (EGL_PINFL_OPS p) ops).setFld (EGL_PINFL_WIN p) q.window.length).setFld (EGL_PINFL_QUEUE p)
    (min q.queue.length 255)

/-- TAGS: tags in use or held back (R617, R645). -/
def Dev.noteTags (d : Dev) : Dev :=
  let n := (d.link.ops.filter fun o => o.tag.isSome && o.result.isNone).length + d.link.heldTags.length
  (List.range 4).foldl Dev.noteInflight (d.setFld EGL_STAT_TAGS n)

/-- Frames sent count (EGL_PKT). -/
def Dev.countSent (d : Dev) (p n : Nat) : Dev := d.bumpBy (EGL_PKT_SENT p) n

/-- Symbols leave a port. How many idle symbols went before them is time, and so the disparity they start at is free (R588; log
entry 2). -/
def Dev.putWire (d : Dev) (p : Nat) (syms : List Sym) : Dev :=
  let (r, d) := d.draw 2
  let (w, pos) := encodeSyms (r == 1) syms
  d.setPort p { d.port p with wire := w, disparity := pos }

/-- A frame leaves a port, with the bit that injection inverts, and counts as sent (R595, R630). -/
def Dev.putFrame (d : Dev) (p : Nat) (seq flip : Option Nat) (pk : Packet) : Dev :=
  (d.putWire p (pk.symbols seq flip)).countSent p 1

/-- An unsequenced packet: LOCAL, with the sender's coordinates, or 0 when it has none, as DEST and SRC (R598, R600, R626; of a
BEACON a DESIGN CHOICE, log entry 49). -/
def Dev.plainPacket (d : Dev) (type : Nat) (payload : List Word) : Packet :=
  let xy := if d.surf.known then d.ownXY else 0
  ⟨type, false, true, 0, xy, xy, 0, 0, payload⟩

/-- Packet types of unsequenced frames (R597). -/
abbrev typeBeacon : Nat := 2
abbrev typeWake : Nat := 4
abbrev typeLinkctl : Nat := 5

/-- An unsequenced frame leaves a port (R595). -/
def Dev.sendPlain (d : Dev) (p type : Nat) (flip : Option Nat) (payload : List Word) : Dev :=
  (d.setPort p { d.port p with lastOut := payload }).putFrame p none flip (d.plainPacket type payload)

/-! Fault injection (R627 to R630). -/

/-- Points with any kind enabled. -/
def Dev.injectPoints (d : Dev) : Nat :=
  (List.range 8).foldl (fun m i =>
    if d.flag (SVC_INJ_DROP i) || d.flag (SVC_INJ_CORRUPT i) || d.flag (SVC_INJ_REORDER i) then m + 2 ^ i else m) 0

/-- The gate: SERVICE, the unlock, or INJECT_ALLOW (R627). -/
def Dev.gateNow (d : Dev) : Bool :=
  d.flag SVC_STAT_SERVICE || d.flag SVC_STAT_INJ_UNLOCK || d.par secSystem 0x03 == 1

/-- The gate opens or closes with its conditions: opening seeds the LFSRs, closing clears every SVC_INJ register, and
each raises INJECT_STATE (R627, R629). -/
def Dev.judgeGate (d : Dev) : Dev :=
  if d.gateNow = d.link.gate then d
  else if d.gateNow then
    (d.setLink { d.link with gate := true, lfsr := List.replicate 8 0xACE1 }).ring 240 1 (word d.injectPoints)
  else
    let d := (List.range 8).foldl (fun d i => d.setReg (SVC_INJ i) 0) d
    (d.setLink { d.link with gate := false, lfsr := [] }).ring 240 0 0

/-- The LFSR with taps 16, 14, 13 and 11 advanced once (R629). The manual gives the polynomial only; the Fibonacci form
that shifts right is this model's (log entry 9). -/
def lfsrNext (l : Nat) : Nat :=
  let b := (l ^^^ (l >>> 2) ^^^ (l >>> 3) ^^^ (l >>> 5)) % 2
  (l >>> 1) ||| (b <<< 15)

/-- The fault of a packet at point i: 0 none, 1 drop, 2 corrupt, 3 reorder; beacons suffer only the first two (R628,
R629). -/
def Dev.injectFault (d : Dev) (i : Nat) (beacon : Bool) : Nat × Dev :=
  if d.link.gate = false then (0, d)
  else
    let l1 := lfsrNext (d.link.lfsr.getD i 0xACE1)
    let l2 := lfsrNext l1
    let l3 := lfsrNext l2
    let hit (en : Fld) (k : Fld) (l : Nat) : Bool := d.flag en && l % 2 ^ d.fld k == 0
    let drop := hit (SVC_INJ_DROP i) (SVC_INJ_KD i) l1
    let corrupt := hit (SVC_INJ_CORRUPT i) (SVC_INJ_KC i) l2
    let reorder := hit (SVC_INJ_REORDER i) (SVC_INJ_KR i) l3
    let last := if !drop && corrupt then lfsrNext l3 else l3
    let d := d.setLink { d.link with lfsr := d.link.lfsr.set i last }
    if drop then (1, d.bump (SVC_INJCNT_DROPS i))
    else if corrupt then (2, d.bump (SVC_INJCNT_CORRUPTS i))
    else if reorder && !beacon then (3, d)
    else (0, d)

/-- A write of SVC_INJ[i], ignored and counted while the gate is closed (R627). -/
def Dev.writeInj (d : Dev) (a : Nat) (value : Word) : Dev :=
  if d.link.gate then d.storeReg a value else d.ignoreWrite

/-! Sending sequenced frames (R601, R603, R606). -/

/-- The draw that chooses the bit which a corrupted frame of point i has inverted (R630). -/
def Dev.flipDraw (d : Dev) (i fault : Nat) : Option Nat := if fault = 2 then some (d.link.lfsr.getD i 0) else none

/-- The frame that point i holds passes (R630). -/
def Dev.unhold (d : Dev) (i : Nat) : Dev := d.setLink { d.link with reorder := d.link.reorder.filter fun r => r.1 != i }

/-- The SEQ byte of a packet: sequenced are those of the hierarchy, GATHER and PING (R595). -/
def Packet.seqOf (pk : Packet) (seq : Nat) : Option Nat := if [1, 3, 6].contains pk.type then some seq else none

/-- A frame leaves point 2p: a held frame passes after the one that follows it (R630). -/
def Dev.transmit (d : Dev) (p seq : Nat) (pk : Packet) : Dev :=
  let i := 2 * p
  let (f, d) := d.injectFault i false
  match d.link.reorder.find? fun r => r.1 == i with
  | none =>
    if f = 1 then d
    else if f = 3 then d.setLink { d.link with reorder := d.link.reorder ++ [(i, seq, true, pk)] }
    else d.putFrame p (pk.seqOf seq) (d.flipDraw i f) pk
  | some r =>
    let d := if f = 1 then d else d.putFrame p (pk.seqOf seq) (d.flipDraw i f) pk
    ((d.unhold i).bump (SVC_INJCNT_REORDERS i)).putFrame p (r.2.2.2.seqOf r.2.1) none r.2.2.2

/-- The rank of a packet at an output port: streams, then responses, then requests (R606). -/
def packetRank (pk : Packet) : Nat := if pk.cls = 0 then 0 else if pk.cls = 2 then 1 else 2

/-- The place of the packet that goes next: the lowest rank, oldest first. -/
def nextPacket (q : List (Nat × Packet)) : Option Nat :=
  (List.range q.length).foldl (fun best i =>
    match best with
    | none => some i
    | some b =>
      let rank (j : Nat) : Nat := (q[j]?.map fun e => packetRank e.2).getD 3
      if rank i < rank b then some i else some b) none

/-- A port sends queued packets while its window and the peer's FREE allow (R601). -/
def Dev.pump (d : Dev) (p : Nat) : Nat → Dev
  | 0 => d
  | k + 1 =>
    let q := d.port p
    if d.isUp p = false ∨ 8 ≤ q.window.length ∨ q.credit = 0 then d
    else
      match nextPacket q.queue with
      | none => d
      | some i =>
        match q.queue[i]? with
        | none => d
        | some (_, pk) =>
          let d := d.setPort p { q with
            queue := q.queue.eraseIdx i
            window := q.window ++ [(q.txSeq, pk)]
            txSeq := (q.txSeq + 1) % 16
            credit := q.credit - 1 }
          Dev.pump (d.transmit p q.txSeq pk) p k

/-- Packets go out as far as they can, and the counts follow. -/
def Dev.flush (d : Dev) (p : Nat) : Dev := (d.pump p 16).noteInflight p

/-- A packet joins the output queue of a port; `via` is the port it came in by, 4 for the own tile. -/
def Dev.enqueue (d : Dev) (via p : Nat) (pk : Packet) : Dev :=
  let q := d.port p
  (d.setPort p { q with queue := q.queue ++ [(via, pk)] }).flush p

/-! Routing (R604, R605, R608). -/

/-- UNROUTABLE at most once per second (R604). -/
def Dev.unroutable (d : Dev) (pk : Packet) : Dev :=
  let d := (d.bump EGL_RTCNT_UNROUTE).setLink { d.link with unrouted := d.link.unrouted + 1 }
  let due := match d.link.unroutedTick with
    | none => true
    | some t => decide (t + 32768 ≤ d.ticks)
  if due then
    let n := d.link.unrouted
    (d.setLink { d.link with unrouted := 0, unroutedTick := some d.ticks }).ring 165
      (pack [(pk.dest, 0), (bit pk.detour, 10)]) (word n)
  else d

/-- The X port and the Y port toward a destination, none when that coordinate matches (R604). -/
def Dev.xPort (d : Dev) (dest : Nat) : Option Nat :=
  let x := dest / 32 % 32
  let own := d.fld EGL_TILE_X
  if own < x then some 1 else if x < own then some 3 else none
def Dev.yPort (d : Dev) (dest : Nat) : Option Nat :=
  let y := dest % 32
  let own := d.fld EGL_TILE_Y
  if own < y then some 2 else if y < own then some 0 else none

/-- The port that a packet leaves by, and whether this tile set DETOUR; none when it is unroutable (R604). -/
def Dev.routeOf (d : Dev) (pk : Packet) : Option (Nat × Bool) :=
  let direct := (d.xPort pk.dest).or (d.yPort pk.dest)
  let around := (d.yPort pk.dest).or (d.xPort pk.dest)
  let up (p : Option Nat) : Option Nat := p.filter d.isUp
  if pk.detour then (up around).map fun p => (p, false)
  else
    match up direct with
    | some p => some (p, false)
    | none => (up around).map fun p => (p, true)

/-- A routed packet is forwarded (R604). -/
def Dev.routePacket (d : Dev) (via : Nat) (pk : Packet) : Dev :=
  match d.routeOf pk with
  | none => (if pk.detour then d else d.bump EGL_RTCNT_DETOURS).unroutable { pk with detour := true }
  | some (p, set) => ((if set then d.bump EGL_RTCNT_DETOURS else d)).enqueue via p { pk with detour := pk.detour || set }

/-! Flows (R609 to R612). -/

def flowKey (xy cls : Nat) : Nat := xy * 4 + cls

/-- A tile has joined the surface, as the manager's table has it. -/
def Dev.hasJoined (d : Dev) (xy : Nat) : Bool := d.joinedTiles.contains xy

/-- Codes of hierarchy messages (R572). -/
abbrev msgEnum : Nat := 1
abbrev msgJoin : Nat := 2
abbrev msgWelcome : Nat := 3
abbrev msgRefuseJoin : Nat := 4
abbrev msgDelta : Nat := 5
abbrev msgImgReq : Nat := 6
abbrev msgImgData : Nat := 7
abbrev msgImgResult : Nat := 8
abbrev msgContacts : Nat := 9
abbrev msgPrepare : Nat := 14
abbrev msgReady : Nat := 15
abbrev msgRefuse : Nat := 16
abbrev msgGo : Nat := 17
abbrev msgGoAck : Nat := 18
abbrev msgAbort : Nat := 19
abbrev msgGoLate : Nat := 20
abbrev msgRemoteRd : Nat := 21
abbrev msgRemoteWr : Nat := 22
abbrev msgRemoteResp : Nat := 23
abbrev msgReset : Nat := 24
abbrev msgLeave : Nat := 25
abbrev msgSvcReq : Nat := 26

/-- The hierarchy code of a packet's payload word 0. -/
def Packet.code (pk : Packet) : Nat := wGet (pk.payload.getD 0 0) 16 8

/-- The manager takes this packet of a tile that has not joined (R612). -/
def Dev.admitsFrom (d : Dev) (pk : Packet) : Bool :=
  !d.isManager || d.hasJoined pk.src || pk.src == d.ownXY ||
    (pk.type == 1 && [msgJoin, msgImgReq, msgImgResult, msgLeave].contains pk.code)

/-- The manager clears its flow state for a tile (R611). -/
def Dev.clearFlows (d : Dev) (xy : Nat) : Dev :=
  let keep (p : Nat × Nat) : Bool := p.1 / 4 != xy
  d.setLink { d.link with
    txFlow := d.link.txFlow.filter keep
    rxFlow := d.link.rxFlow.filter keep
    hold := d.link.hold.filter fun h => h.2.src != xy }

/-- Deliver the packets of a flow that now follow in sequence (R609). -/
def Dev.drainHold (d : Dev) (key : Nat) : Nat → Dev
  | 0 => d
  | k + 1 =>
    let want := keyGet d.link.rxFlow key
    match d.link.hold.find? fun h => flowKey h.2.src h.2.cls == key && h.2.fseq == want with
    | none => d
    | some h =>
      let d := d.setLink { d.link with
        hold := d.link.hold.erase h
        rxFlow := keySet d.link.rxFlow key ((want + 1) % 256)
        inbox := d.link.inbox ++ [h] }
      Dev.drainHold d key k

/-- A flow skips its gap: the expected number moves to the lowest FSEQ held for it (R610). -/
def Dev.skipGap (d : Dev) (key : Nat) : Dev :=
  let want := keyGet d.link.rxFlow key
  let held := d.link.hold.filter fun h => flowKey h.2.src h.2.cls == key
  match held with
  | [] => d
  | _ =>
    let dist := held.foldl (fun m h => min m ((h.2.fseq + 256 - want) % 256)) 255
    let d := (d.setLink { d.link with rxFlow := keySet d.link.rxFlow key ((want + dist) % 256) }).bump EGL_E2E_GAPSKIP
    d.drainHold key 33

/-- A routed packet for this tile is delivered in the order of its flow (R609, R610); JOIN travels with FSEQ 0 and is
delivered whatever the flow expects (R611). -/
def Dev.arrive (d : Dev) (via : Nat) (pk : Packet) : Dev :=
  let key := flowKey pk.src pk.cls
  let dist := (pk.fseq + 256 - keyGet d.link.rxFlow key) % 256
  if pk.type = 1 ∧ pk.cls = 1 ∧ pk.code = msgJoin then
    let d := if d.isManager then d.clearFlows pk.src else d
    d.setLink { d.link with rxFlow := keySet d.link.rxFlow key 1, inbox := d.link.inbox ++ [(via, pk)] }
  else if dist = 0 then
    (d.setLink { d.link with
      rxFlow := keySet d.link.rxFlow key ((pk.fseq + 1) % 256)
      inbox := d.link.inbox ++ [(via, pk)] }).drainHold key 33
  else if dist ≤ 127 then
    let d := d.setLink { d.link with hold := d.link.hold ++ [(via, pk)] }
    if d.link.hold.length ≤ 32 then d
    else
      match d.link.hold with
      | [] => d
      | h :: _ => d.skipGap (flowKey h.2.src h.2.cls)
  else d.bump EGL_E2E_STALE

/-- A packet that enters the link here takes its FSEQ and its route; one for the own tile is delivered at once (R604,
R609). -/
def Dev.launch (d : Dev) (pk : Packet) : Dev :=
  let key := flowKey pk.dest pk.cls
  let n := if pk.type = 1 ∧ pk.code = msgJoin ∧ pk.cls = 1 then 0 else keyGet d.link.txFlow key
  let pk := { pk with fseq := n, src := d.ownXY }
  let d := d.setLink { d.link with txFlow := keySet d.link.txFlow key ((n + 1) % 256) }
  if pk.dest = d.ownXY then d.arrive 4 pk else d.routePacket 4 pk

/-! Operations (R613 to R618). -/

/-- A request of a requester waits for a tag and a slot (R613, R614). -/
def Dev.newOp (d : Dev) (requester type dest : Nat) (payload : List Word) : Dev :=
  let pk : Packet := ⟨type, false, false, 1, dest, d.ownXY, 0, 0, payload⟩
  d.setLink { d.link with ops := d.link.ops ++ [⟨requester, dest, pk, none, 4, 0, false, false, none⟩] }

/-- The words of a list cut into pieces of n. -/
def chunks {α : Type} (n : Nat) : Nat → List α → List (List α)
  | 0, _ => []
  | k + 1, l => if l.length ≤ n then [l] else l.take n :: chunks n k (l.drop n)

/-- The payloads of a hierarchy message, cut into packets where it is longer than one (R572, R597). -/
def Msg.payloads (m : Msg) : List (List Word) :=
  let head := word (m.kind * 65536)
  let a := m.payload.getD 0 0
  let b := m.payload.getD 1 0
  let rest := m.payload.drop 2
  if m.kind = msgContacts then
    let parts := chunks 60 512 rest
    parts.zipIdx.map fun p => [head, a, pack [(p.2, 19), (parts.length, 14)] ||| (b &&& 0x1FFF#24)] ++ p.1
  else if m.kind = msgStrip then
    (chunks 60 512 rest).zipIdx.map fun p => [head, a, pack [(b.toNat % 4, 0), (p.2, 8)]] ++ p.1
  else if m.kind = msgPrepare then
    let parts := chunks 60 512 rest
    parts.zipIdx.map fun p => [head, a, b, pack [(p.2, 8), (parts.length, 0)]] ++ p.1
  else [head :: m.payload]

/-- The port that faces a neighbour. -/
def Dev.facing (d : Dev) (xy : Nat) : Nat :=
  match d.xPort xy with
  | some p => p
  | none => (d.yPort xy).getD 0

/-- A message of the hierarchy firmware enters the link: ENUM and STRIP go to the neighbour as LOCAL packets, CONTACTS
is a stream, REMOTE_RESP is a response, and every other message travels as a request of its own (R598, R599). -/
def Dev.takeMsg (d : Dev) (m : Msg) : Dev :=
  m.payloads.foldl (fun d w =>
    if m.kind = msgEnum ∨ m.kind = msgStrip then
      let p := d.facing m.dest
      if d.isUp p then d.enqueue 4 p ⟨1, false, true, 0, m.dest, d.ownXY, 0, 0, w⟩ else d
    else if m.kind = msgContacts then d.launch ⟨1, false, false, 0, m.dest, d.ownXY, 0, 0, w⟩
    else d.newOp 0 1 m.dest w) d

/-- A free device tag. -/
def Dev.freeTag (d : Dev) : Option Nat :=
  (List.range 64).find? fun t => !d.link.heldTags.contains t && !d.link.ops.any fun o => o.tag == some t && o.result.isNone

/-- The slots an operation's port has left (R613). -/
def Dev.slotFree (d : Dev) (p : Nat) : Bool :=
  decide ((d.link.ops.filter fun o => o.tag.isSome && o.port == p && o.result.isNone).length < 16)

/-- A request with its tag and attempt number (R599, R616). -/
def Operation.request (o : Operation) : Packet :=
  { o.packet with
    tag := o.tag.getD 0
    payload := match o.packet.payload with
      | [] => []
      | w :: rest => wSet w 8 2 o.attempt :: rest }

def Dev.setOp (d : Dev) (i : Nat) (o : Operation) : Dev := d.setLink { d.link with ops := d.link.ops.set i o }

/-- One waiting operation takes a tag and a slot and sends its request, or counts as waiting (R613, R614). A request for
the own tile uses no port, and an unroutable one takes the slot of the port its direct route names. -/
def Dev.issueOne (d : Dev) (i : Nat) : Dev :=
  match d.link.ops[i]? with
  | none => d
  | some o =>
    if o.tag.isSome then d
    else
      let p := match d.routeOf o.packet with
        | some r => r.1
        | none => ((d.xPort o.dest).or (d.yPort o.dest)).getD 4
      match d.freeTag, d.slotFree p || p == 4 with
      | some t, true =>
        let o := { o with tag := some t, port := p }
        (d.setOp i o).launch o.request
      | _, _ => if o.waited then d else (d.setOp i { o with waited := true }).bump EGL_STALL_WAITS

/-- OPERATION_ISSUE: messages of the firmware enter the link, and waiting operations take tags and slots, oldest first
(R613, R614). -/
def Dev.issueOps (d : Dev) : Dev :=
  let d := d.outbox.foldl Dev.takeMsg { d with outbox := [] }
  ((List.range d.link.ops.length).foldl Dev.issueOne d).noteTags

/-- Completions pass to their requesters in the order of issue to each destination (R618). -/
def Dev.passDone (d : Dev) : Nat → Dev
  | 0 => d
  | k + 1 =>
    let ready (i : Nat) : Bool :=
      match d.link.ops[i]? with
      | none => false
      | some o => o.result.isSome && (d.link.ops.take i).all fun q => !(q.requester == o.requester && q.dest == o.dest)
    match (List.range d.link.ops.length).find? ready with
    | none => d
    | some i =>
      match d.link.ops[i]? with
      | none => d
      | some o => Dev.passDone (d.setLink { d.link with ops := d.link.ops.eraseIdx i, done := d.link.done ++ [o] }) k

/-- An operation ends with a response or a failure; a tag with more than one attempt, or failed, is held back (R617). -/
def Dev.endOp (d : Dev) (i : Nat) (o : Operation) (resp : Option Packet) : Dev :=
  let hold := o.attempt != 0 || resp.isNone
  let d := d.setOp i { o with result := some resp }
  let d := if hold then d.setLink { d.link with heldTags := d.link.heldTags ++ [o.tag.getD 0] } else d
  (d.passDone 128).noteTags

/-- OPERATION_RESPONSE: the first response to a tag completes its operation; a later one is discarded (R617). -/
def Dev.opResponse (d : Dev) (pk : Packet) : Dev :=
  match d.link.ops.findIdx? fun o => o.tag == some pk.tag && o.result.isNone && o.dest == pk.src with
  | none => d.bump EGL_OPS_DUPRESP
  | some i =>
    match d.link.ops[i]? with
    | none => d
    | some o => (d.endOp i o (some pk)).issueOps

/-- The hierarchy code of a request, or 0xF0 + TYPE (R643). -/
def Packet.opCode (pk : Packet) : Nat := if pk.type = 1 then pk.code else 0xF0 + pk.type

/-- OP_ATTEMPT_TIMEOUT: the next attempt goes out with the same tag, and after the fourth the operation fails (R616). -/
def Dev.opTimeout (d : Dev) (tag : Nat) : Dev :=
  match d.link.ops.findIdx? fun o => o.tag == some tag && o.result.isNone with
  | none => d
  | some i =>
    match d.link.ops[i]? with
    | none => d
    | some o =>
      if o.attempt < 3 then
        let o := { o with attempt := o.attempt + 1 }
        (((d.setOp i o).bump EGL_OPS_RETRIES).launch o.request).noteTags
      else
        let d := (d.endOp i o none).bump EGL_OPS_FAILED
        (d.ring 163 (pack [(o.requester, 20), (tag, 14), (o.dest, 0)]) (word o.packet.opCode)).issueOps

/-- TAG_STARVED: the oldest operation that has waited 2 ms and has not been reported (R615). -/
def Dev.opStarved (d : Dev) : Dev :=
  match d.link.ops.findIdx? fun o => o.tag.isNone && !o.starved with
  | none => d
  | some i =>
    match d.link.ops[i]? with
    | none => d
    | some o =>
      let p := match d.routeOf o.packet with
        | some r => r.1
        | none => ((d.xPort o.dest).or (d.yPort o.dest)).getD 4
      ((d.setOp i { o with starved := true }).bump EGL_STALL_STARVED).ring 164 (pack [(o.requester, 20), (p, 0)]) (word 2000)

/-- TAG_RETURN: a tag held back for 8 ms returns to the pool (R617). -/
def Dev.tagReturn (d : Dev) (tag : Nat) : Dev :=
  (d.setLink { d.link with heldTags := d.link.heldTags.erase tag }).issueOps

/-- The operations of a requester are abandoned: their responses will be discarded, and their tags return after 8 ms
(R641). -/
def Dev.abandonOps (d : Dev) (requester : Nat) : Dev :=
  let gone := d.link.ops.filter fun o => o.requester == requester && o.result.isNone
  let d := d.setLink { d.link with
    ops := d.link.ops.filter fun o => o.requester != requester
    heldTags := d.link.heldTags ++ gone.filterMap fun o => o.tag }
  d.noteTags

/-! Ports going down and coming up (R608, R637, R638). -/

/-- A port takes no more part: its frames are routed again, LOCAL packets are discarded, and its hop state starts anew
(R608). A frame that injection holds goes with them. -/
def Dev.emptyPort (d : Dev) (p : Nat) : Dev :=
  let q := d.port p
  let frames := q.window.map (fun w => (4, w.2)) ++ q.queue
  let d := d.setPort p { q with
    window := [], queue := [], txSeq := 0, rxSeq := 0, credit := 0, rounds := 0, nakked := false, trips := 0 }
  let d := (d.unhold (2 * p)).unhold (2 * p + 1)
  let d := if d.fld EGL_STAT_UP = p then d.setFld EGL_STAT_UP 4 else d
  let d := (frames.filter fun f => !f.2.isLocal).foldl (fun d f => d.routePacket f.1 f.2) d
  d.noteInflight p

/-- A port goes down with a reason: LINK_DOWN, and LINK_HELD when it is its fourth within 10 s (R637, R638). -/
def Dev.portDown (d : Dev) (p reason : Nat) : Dev :=
  let st := d.fld (EGL_PSTAT_STATE p)
  if st = portDisabled ∨ st = portHeld ∨ 4 ≤ p then d
  else
    let downs := (d.ticks :: (d.port p).downs).filter fun t => decide (d.ticks < t + 327680)
    let held := decide (4 ≤ downs.length)
    let d := (d.setFld (EGL_PSTAT_REASON p) reason).bump (EGL_PCNT_DOWNS p)
    let d := d.setPortState p (if held then portHeld else portDetect)
    let d := (d.setPort p { d.port p with downs := downs, train := 0 }).emptyPort p
    let d := d.ring 161 (pack [(p, 22), (reason, 17)]) (d.reg (EGL_PCNT p))
    if held then d.ring 162 (pack [(p, 22)]) (word downs.length) else d

/-- A port trains from step 1. -/
def Dev.portTrain (d : Dev) (p : Nat) : Dev :=
  (d.setPortState p portDetect).setPort p { d.port p with train := 1 }

/-- The ports are enabled at the end of start-up step 3, and PORT_EN holds once the image is applied (R640). -/
def Dev.portsEnable (d : Dev) : Dev :=
  (List.range 4).foldl (fun d p => if (d.fld EGL_PCTL_DISABLE).testBit p then d else d.portTrain p) d

/-- The image leaves ports out (R640). -/
def Dev.portsFromImage (d : Dev) : Dev :=
  (List.range 4).foldl (fun d p =>
    if (d.par secLink 0x01).testBit p then d else (d.setPortState p portDisabled).emptyPort p) d

/-- The ports are disabled and only their signal detectors run: SAFE, HIBERNATE (R166, R184, R642). -/
def Dev.portsOff (d : Dev) : Dev :=
  (List.range 4).foldl (fun d p =>
    let d := d.setPort p { d.port p with queue := [], window := [] }
    (d.emptyPort p).setPortState p portDisabled) d

/-- In WATCH every transmitter and receiver is off and the detectors are armed (R625). -/
def Dev.portsWatch (d : Dev) : Dev :=
  (List.range 4).foldl (fun d p =>
    if d.fld (EGL_PSTAT_STATE p) = portDisabled ∨ d.fld (EGL_PSTAT_STATE p) = portHeld then d
    else
      let up := d.isUp p
      let d := d.setPort p { d.port p with queue := [], window := [] }
      let d := (d.emptyPort p).setPortState p portDetect
      d.setPort p { d.port p with watchUp := up, train := 0 }) d

/-- After a wake the enabled ports train from step 1, but for one that is held (R626, R638). -/
def Dev.portsWake (d : Dev) : Dev :=
  (List.range 4).foldl (fun d p =>
    if (d.fld EGL_PCTL_DISABLE).testBit p || !(d.par secLink 0x01).testBit p || d.isUp p ||
      d.fld (EGL_PSTAT_STATE p) == portHeld then d else d.portTrain p) d

/-- The WAKE packet of a burst on one port, past its injection point (R626, R628). -/
def Dev.sendWake (d : Dev) (p : Nat) : Dev :=
  let w := if d.surf.known then pack [(1, 10), (d.ownXY, 0)] else 0
  (d.setPort p { d.port p with lastOut := [w] }).transmit p 0 (d.plainPacket typeWake [w])

/-- The wake burst on every port of PORT_EN (R176, R626). -/
def Dev.wakeBurst (d : Dev) : Dev :=
  (List.range 4).foldl (fun d p => if (d.par secLink 0x01).testBit p then d.sendWake p else d) d

/-- The image CRC of the running image: the four bytes before the signature block (R132). -/
def Dev.imageCrc (d : Dev) : Nat :=
  bytesNat ((d.boot.image.drop (d.boot.image.length - 4 - if d.flag SYS_BOOT_SIGNED then 96 else 0)).take 4)

/-- JOIN: a worker with coordinates, its image applied and calibrated asks the manager to join (R544 step 4); it waits for
a port where none is up (R583). -/
def Dev.sendJoin (d : Dev) : Dev :=
  if d.isWorker = false ∨ d.surf.known = false ∨ d.pwr.step ≠ 8 ∨ d.mode = modeSafe ∨ d.flag EGL_TILE_JOINED = true then d
  else if d.fld EGL_STAT_PORTSUP = 0 then { d with surf := { d.surf with joinDue := true } }
  else
    let d := { d with surf := { d.surf with joinDue := false } }
    let crc := d.imageCrc
    (d.send msgJoin 0 [pack [(bit (d.flag EGL_TILE_CONFLICT), 12), (d.ownXY, 0)], d.boot.surfaceId, d.reg SYS_IMGSEQ,
      word (crc / 65536), word (crc % 65536), word (d.fld CFG_EPOCH_N)]).issueOps

/-- The coordinates of the tile that a port faces, when they lie inside 0 to 31 (R542). -/
def Dev.facedXY (d : Dev) (p : Nat) : Option Nat :=
  let x := d.fld EGL_TILE_X
  let y := d.fld EGL_TILE_Y
  match p with
  | 0 => if 0 < y then some (x * 32 + y - 1) else none
  | 1 => if x < 31 then some ((x + 1) * 32 + y) else none
  | 2 => if y < 31 then some (x * 32 + y + 1) else none
  | _ => if 0 < x then some ((x - 1) * 32 + y) else none

/-- ENUM on a port (R542). -/
def Dev.sendEnum (d : Dev) (p : Nat) : Dev :=
  match d.facedXY p with
  | some xy => d.enqueue 4 p ⟨1, false, true, 0, xy, d.ownXY, 0, 0, [word (msgEnum * 65536), word xy]⟩
  | none => d

/-- A tile that takes coordinates sends ENUM on every port that is up already (R542; DEDUCED, log entry 48). -/
def Dev.sendEnums (d : Dev) : Dev := (List.range 4).foldl (fun d p => if d.isUp p then d.sendEnum p else d) d

/-- Entries of the input buffer in use: packets of that port that this tile still holds (R602). -/
def Dev.inHeld (d : Dev) (p : Nat) : Nat :=
  ((d.link.ports.map fun q => (q.queue.filter fun e => e.1 == p).length).sum) + (d.link.inbox.filter fun e => e.1 == p).length

/-- The byte of an ACK or NAK: FREE above a sequence number (R589, R602). -/
def Dev.ackByte (d : Dev) (p seq : Nat) : Byte := byte (min (16 - d.inHeld p) 15 * 16 + seq % 16)

/-- ACK carries the number of the last frame accepted (R589, R602; DEDUCED, log entry 49). -/
def Dev.sendAck (d : Dev) (p : Nat) : Dev :=
  d.putWire p [.control .ack, .data (d.ackByte p ((d.port p).rxSeq + 15))]

/-- NAK carries the number expected (R589, R602). -/
def Dev.sendNak (d : Dev) (p : Nat) : Dev := d.putWire p [.control .nak, .data (d.ackByte p (d.port p).rxSeq)]

/-- A port is up (R592 step 6): the hop sequence numbers start at 0, an ACK carries FREE, LINK_UP is raised, and a tile with
coordinates sends ENUM on it (R542). -/
def Dev.portCameUp (d : Dev) (p : Nat) : Dev :=
  let d := d.setPort p { d.port p with
    txSeq := 0, rxSeq := 0, window := [], rounds := 0, credit := 0, train := 6,
    watchUp := false }
  let d := d.sendAck p
  let d := d.setPortState p portUp
  let d := d.ring 160 (pack [(p, 22), (d.fld (EGL_PSTAT_PEERXY p), 0)]) (word (d.fld (EGL_PDLY_NS p)))
  let d := if d.surf.known then d.sendEnum p else d
  if d.surf.joinDue then d.sendJoin else d

/-! Training (R592 to R594). -/

/-- SIGNAL_DETECT: training starts (R592 step 1). -/
def Dev.signalDetect (d : Dev) (p : Nat) : Dev :=
  let d := d.setFlag (EGL_PSTAT_SIG p) true
  if d.fld (EGL_PSTAT_STATE p) = portDetect ∧ (d.port p).train = 1 ∧ d.mode ≠ modeWatch then
    (d.setPortState p portTraining).setPort p { d.port p with train := 2 }
  else d

/-- SIGNAL_DETECT (R592). -/
def execSignalDetect (port : BitVec 2) (s : State) : Host.Outcome State Fault Refusal :=
  s.run fun d => d.signalDetect port.toNat

/-- The ID packet a tile sends (R600). -/
def Dev.idWord (d : Dev) (p : Nat) : Word :=
  pack [(1, 20), (1, 16), (p, 14), (d.role, 12), (bit d.surf.known, 10), (if d.surf.known then d.ownXY else 0, 0)]

/-- COMMA_ALIGNMENT: the receiver passes to the ID exchange (R592 steps 2 and 3). -/
def Dev.commaAligned (d : Dev) (p : Nat) : Dev :=
  if d.fld (EGL_PSTAT_STATE p) = portTraining ∧ (d.port p).train = 2 then
    (d.setPort p { d.port p with train := 3 }).sendPlain p typeLinkctl none [d.idWord p]
  else d

/-- COMMA_ALIGNMENT (R592). -/
def execCommaAlignment (port : BitVec 2) (s : State) : Host.Outcome State Fault Refusal :=
  s.run fun d => d.commaAligned port.toNat

/-- The port opposite to p. -/
def opposite (p : Nat) : Nat := (p + 2) % 4

/-- LINKCTL_ID: the peer's ID is recorded; a port that is not the opposite one takes the port down, and otherwise the
delay round trips begin, or are skipped after WATCH (R592 steps 3 and 4, R626). Another LINKCTL code counts in BADHDR
(R600). -/
def Dev.linkId (d : Dev) (p : Nat) (w : Word) : Dev :=
  if wGet w 20 4 ≠ 1 then d.bump (EGL_PCNT2_BADHDR p)
  else if d.fld (EGL_PSTAT_STATE p) = portTraining ∧ (d.port p).train = 3 ∧ wGet w 16 4 = 1 then
    let peer := wGet w 14 2
    let d := d.setFld (EGL_PSTAT_PEERPORT p) peer
    let d := (d.setFld (EGL_PSTAT_PEERVALID p) (wGet w 10 1)).setFld (EGL_PSTAT_PEERXY p) (wGet w 0 10)
    if peer ≠ opposite p then d.portDown p 5
    else if (d.port p).watchUp then d.portCameUp p
    else (d.setPort p { d.port p with train := 5, trips := 16 }).sendPlain p typeLinkctl none [pack [(2, 20), (0, 0)]]
  else d

/-- LINKCTL_ID (R592). -/
def execLinkctlId (port : BitVec 2) (w : Word) (s : State) : Host.Outcome State Fault Refusal :=
  s.run fun d => d.linkId port.toNat w

/-- DELAY_REQ: the port answers with its turnaround (R594, R600). -/
def Dev.delayReq (d : Dev) (p : Nat) (w turnaround : Word) : Dev :=
  if wGet w 20 4 = 2 ∧ (d.isUp p = true ∨ d.fld (EGL_PSTAT_STATE p) = portTraining) then
    d.sendPlain p typeLinkctl none [pack [(3, 20), (wGet w 0 4, 0)], turnaround]
  else d

/-- DELAY_REQ (R594). -/
def execDelayReq (port : BitVec 2) (w turnaround : Word) (s : State) : Host.Outcome State Fault Refusal :=
  s.run fun d => d.delayReq port.toNat w turnaround

/-- DELAY_RESP: one round trip of the given length ends; the hop delay is half of it less the turnaround, in ns, and
EGL_PDLY holds the median of the last 16. The last round trip of a training brings the port up (R592, R594). -/
def Dev.delayResp (d : Dev) (p trip : Nat) (turnaround : Word) : Dev :=
  let q := d.port p
  if q.trips = 0 then d
  else
    let delays := ((2 * (trip - turnaround.toNat)) :: q.delays).take 16
    let (m, d) := d.median delays
    let d := d.setPort p { q with delays := delays, trips := q.trips - 1 }
    if q.trips = 1 then
      let d := d.setFld (EGL_PDLY_NS p) (min m 65535)
      if q.train = 5 then d.portCameUp p else d
    else
      let d := if q.train = 5 then d else d.setFld (EGL_PDLY_NS p) (min m 65535)
      d.sendPlain p typeLinkctl none [pack [(2, 20), ((16 - q.trips + 1) % 16, 0)]]

/-- DELAY_RESP (R594). -/
def execDelayResp (port : BitVec 2) (trip turnaround : Word) (s : State) : Host.Outcome State Fault Refusal :=
  s.run fun d => d.delayResp port.toNat trip.toNat turnaround

/-- TRAINING_TIMEOUT: training restarts after 1 ms (R593). -/
def execTrainingTimeout (port : BitVec 2) (s : State) : Host.Outcome State Fault Refusal :=
  s.run fun d => if d.fld (EGL_PSTAT_STATE port.toNat) = portTraining then d.portDown port.toNat 4 else d

/-- RETRAIN_DELAY: 1 ms after a port went down it trains again, unless it is held or the mode keeps it off (R638). -/
def Dev.retrainDelay (d : Dev) (p : Nat) : Dev :=
  if d.fld (EGL_PSTAT_STATE p) = portDetect ∧ (d.port p).train = 0 ∧ d.mode ≠ modeWatch then
    let d := d.portTrain p
    if d.flag (EGL_PSTAT_SIG p) then d.signalDetect p else d
  else d

/-- RETRAIN_DELAY (R638). -/
def execRetrainDelay (port : BitVec 2) (s : State) : Host.Outcome State Fault Refusal :=
  s.run fun d => d.retrainDelay port.toNat

/-- DELAY_RECALIBRATION: four more round trips on a port that is up (R594). -/
def Dev.delayRecal (d : Dev) (p : Nat) : Dev :=
  if d.isUp p then (d.setPort p { d.port p with trips := 4 }).sendPlain p typeLinkctl none [pack [(2, 20), (0, 0)]] else d

/-- DELAY_RECALIBRATION (R594). -/
def execDelayRecalibration (port : BitVec 2) (s : State) : Host.Outcome State Fault Refusal :=
  s.run fun d => d.delayRecal port.toNat

/-- SIGNAL_LOSS: more than 2 µs without a signal (R637). -/
def execSignalLoss (port : BitVec 2) (s : State) : Host.Outcome State Fault Refusal :=
  s.run fun d =>
    let d := d.setFlag (EGL_PSTAT_SIG port.toNat) false
    if d.isUp port.toNat = true ∨ d.fld (EGL_PSTAT_STATE port.toNat) = portTraining then d.portDown port.toNat 1 else d

/-- LINK_CODE_ERRORS: 64 code or disparity errors within 1 ms (R637). -/
def execLinkCodeErrors (port : BitVec 2) (s : State) : Host.Outcome State Fault Refusal :=
  s.run fun d =>
    if d.isUp port.toNat = true ∨ d.fld (EGL_PSTAT_STATE port.toNat) = portTraining then
      (d.bumpBy (EGL_PCNT2_CODEERR port.toNat) 64).portDown port.toNat 2
    else d

/-- A port that DISABLE has taken down is disabled; one that this makes held stays held (R638). -/
def Dev.disableDown (d : Dev) (p : Nat) : Dev :=
  if d.fld (EGL_PSTAT_STATE p) = portHeld then d else d.setPortState p portDisabled

/-- A write of EGL_PCTL: DISABLE takes ports down with reason 6 and keeps them off; RETRAIN takes ports down with reason
6 and trains them, a held one too, which nothing else but a reset releases (R637, R638, R645). Without the key it is
ignored and counted. -/
def Dev.writePctl (d : Dev) (value : Word) : Dev :=
  if wGet value 16 8 ≠ 0x5A then d.ignoreWrite
  else
    let was := d.fld EGL_PCTL_DISABLE
    let now := wGet value 0 4
    let again := wGet value 4 4
    let d := d.setFld EGL_PCTL_DISABLE now
    (List.range 4).foldl (fun d p =>
      if now.testBit p then
        if was.testBit p ∨ d.fld (EGL_PSTAT_STATE p) = portHeld then d else (d.portDown p 6).disableDown p
      else if was.testBit p ∧ d.fld (EGL_PSTAT_STATE p) = portDisabled then
        if (d.par secLink 0x01).testBit p then d.portTrain p else d
      else if again.testBit p ∧ d.fld (EGL_PSTAT_STATE p) ≠ portDisabled then
        let d := if d.fld (EGL_PSTAT_STATE p) = portHeld then d.setFld (EGL_PSTAT_REASON p) 6 else d.portDown p 6
        (d.setPort p { d.port p with downs := if d.fld (EGL_PSTAT_STATE p) = portHeld then [] else (d.port p).downs }).portTrain p
      else d) d

/-- RETRAIN (R637). -/
def execRetrain (value : Word) (s : State) : Host.Outcome State Fault Refusal := s.run fun d => d.writePctl value

/-- PORT_DISABLE (R637). -/
def execPortDisable (value : Word) (s : State) : Host.Outcome State Fault Refusal := s.run fun d => d.writePctl value

/-! Receiving frames (R601 to R603, R639). -/

/-- A packet that has been accepted on a port: LOCAL ones are delivered, others are delivered in their flow or forwarded;
the manager discards those of tiles that have not joined, and resets the source of a CONTACTS message (R598, R604, R612,
R639). -/
def Dev.acceptPacket (d : Dev) (p : Nat) (pk : Packet) : Dev :=
  if ¬ [1, 3, 6].contains pk.type ∨ pk.cls = 3 ∨ 64 < pk.payload.length then d.bump (EGL_PCNT2_BADHDR p)
  else if pk.isLocal then d.setLink { d.link with inbox := d.link.inbox ++ [(p, pk)] }
  else if pk.dest ≠ d.ownXY then d.routePacket p pk
  else if d.admitsFrom pk then d.arrive p pk
  else if pk.type = 1 ∧ pk.code = msgContacts then (d.clearFlows pk.src).send msgReset pk.src [0]
  else d

/-- A frame out of sequence or damaged asks for a resend, once for each gap (R602). -/
def Dev.noteGap (d : Dev) (p : Nat) : Dev :=
  if (d.port p).nakked then d else (d.setPort p { d.port p with nakked := true }).sendNak p

/-- A sequenced frame is accepted and acknowledged, or discarded with a NAK for the gap or a new ACK, or with neither when the
input buffer has no room (R602). -/
def Dev.takeFrame (d : Dev) (p seq : Nat) (crcOk : Bool) (pk : Packet) : Dev :=
  let q := d.port p
  if crcOk = false then (d.bump (EGL_PCNT_CRCERR p)).noteGap p
  else
    let dist := (seq + 16 - q.rxSeq) % 16
    if dist = 0 then
      if d.inHeld p < 16 then
        ((d.setPort p { q with rxSeq := (q.rxSeq + 1) % 16, nakked := false }).acceptPacket p pk).sendAck p
      else d
    else if dist < 8 then d.noteGap p
    else d.sendAck p

/-- SEQUENCED_FRAME after the faults that injection adds at the receiver (R628, R630). -/
def Dev.receiveFrame (d : Dev) (p seq : Nat) (crcOk : Bool) (pk : Packet) : Dev :=
  if d.isUp p = false then d
  else
    let i := 2 * p + 1
    let (f, d) := d.injectFault i false
    let waiting := d.link.reorder.find? fun r => r.1 == i
    if f = 3 ∧ waiting.isNone = true then d.setLink { d.link with reorder := d.link.reorder ++ [(i, seq, crcOk, pk)] }
    else
      let d := if f = 1 then d else d.takeFrame p seq (crcOk && f != 2) pk
      match waiting with
      | none => d
      | some r =>
        let d := (d.unhold i).bump (SVC_INJCNT_REORDERS i)
        d.takeFrame p r.2.1 r.2.2.1 r.2.2.2

/-- REORDER_RELEASE: a held frame passes alone (R630). -/
def Dev.reorderRelease (d : Dev) (i : Nat) : Dev :=
  match d.link.reorder.find? fun r => r.1 == i with
  | none => d
  | some r =>
    let d := d.unhold i
    if i % 2 = 0 then d.putFrame (i / 2) (r.2.2.2.seqOf r.2.1) none r.2.2.2 else d.takeFrame (i / 2) r.2.1 r.2.2.1 r.2.2.2

/-- The acknowledged frames leave the window: those up to number n (R601). -/
def dropAcked (w : List (Nat × Packet)) (n : Nat) : List (Nat × Packet) :=
  match w.findIdx? fun e => e.1 == n with
  | some i => w.drop (i + 1)
  | none => w

/-- A received ACK: window entries are freed, FREE is taken, and more frames go out (R601). -/
def Dev.takeAck (d : Dev) (p : Nat) (b : Byte) : Dev :=
  if d.isUp p then
    let q := d.port p
    let w := dropAcked q.window (b.toNat % 16)
    let free := b.toNat / 16
    let d := d.setPort p { q with window := w, credit := free, rounds := if w.length < q.window.length then 0 else q.rounds }
    (d.setFld (EGL_PINFL_FREE p) free).flush p
  else d

/-- A resend round: every unacknowledged frame from number e onward goes out again (R603). -/
def Dev.resendFrom (d : Dev) (p e : Nat) : Dev :=
  let q := d.port p
  let frames := q.window.dropWhile fun f => f.1 != e
  let d := (d.setPort p { q with rounds := q.rounds + 1 }).bump (EGL_PCNT_RESEND p)
  frames.foldl (fun d f => d.transmit p f.1 f.2) d

/-- A received NAK(e) (R603). -/
def Dev.takeNak (d : Dev) (p : Nat) (b : Byte) : Dev :=
  if d.isUp p then
    let q := d.port p
    let e := b.toNat % 16
    let free := b.toNat / 16
    let d := (d.setPort p { q with credit := free }).setFld (EGL_PINFL_FREE p) free
    if q.window.any fun f => f.1 == e then
      if 16 ≤ q.rounds then d.portDown p 3 else (d.resendFrom p e).noteInflight p
    else d
  else d

/-- RESEND_TIMEOUT: the oldest frame is unacknowledged 20 µs after it was sent; after 16 rounds the port goes down
(R603). -/
def Dev.resendTimeout (d : Dev) (p : Nat) : Dev :=
  if d.isUp p then
    match (d.port p).window with
    | [] => d
    | f :: _ => if 16 ≤ (d.port p).rounds then d.portDown p 3 else d.resendFrom p f.1
  else d

/-- PACKET_AGED: the oldest packet that waits for a port is discarded (R607). -/
def Dev.packetAged (d : Dev) (p : Nat) : Dev :=
  match (d.port p).queue with
  | [] => d
  | _ :: rest => ((d.setPort p { d.port p with queue := rest }).bump (EGL_PCNT2_AGED p)).noteInflight p

/-! The time beacon (R395, R398, R620 to R625). -/

/-- Nanoseconds in units of 2^-24 s, converted once; the rounding is free (R622; log entry 2). -/
def Dev.nsUnits (d : Dev) (ns : Nat) : Nat × Dev :=
  let n := ns * 16777216
  if n % 1000000000 = 0 then (n / 1000000000, d)
  else
    let (up, d) := d.draw 2
    (n / 1000000000 + up, d)

/-- Offsets agree with each other within 100 µs (R395). -/
def offsetsAgree (os : List Int) : Bool := os.all fun a => os.all fun b => decide ((a - b).natAbs ≤ 1678)

/-- A worker takes an accepted beacon's time: it steps, ignores an outlier, or slews by the offset (R394, R395, R398). -/
def Dev.beaconTime (d : Dev) (time path epoch : Nat) (step : Bool) : Dev :=
  let d := d.touchTime
  let t := d.time.now
  let off : Int := (time : Int) + path - (t.1 * 16777216 + t.2 : Nat)
  let d := d.setReg TIME_OFS (wordI (satInt 0x7FFFFF off))
  let d := if d.flag TIME_STAT_LOCKED then d else (d.setFlag TIME_STAT_LOCKED true).ring 210 1 (d.reg TIME_OFS)
  let outs := (off :: d.time.outliers).take 3
  if epoch ≠ d.time.epoch ∨ step = true then
    { d with time := { d.time with stepNext := some (off, epoch, 1), outliers := [] } }
  else if 67108 < off.natAbs then
    if outs.length = 3 ∧ offsetsAgree outs = true then
      { d with time := { d.time with stepNext := some (off, epoch, 2), outliers := [] } }
    else { d with time := { d.time with outliers := outs } }.bump TIME_CNT_OUTLIER
  else { d with time := { d.time with outliers := [], slewNext := some (if off.natAbs ≤ 1 then 0 else off) } }

/-- The time T_n of a beacon in units of 2^-24 s (R620). -/
def beaconUnits (ws : List Word) : Nat :=
  ((ws.getD 3 0).toNat * 16777216 + (ws.getD 1 0).toNat) * 16777216 + (ws.getD 2 0).toNat

/-- A copy of a beacon on a port: HOPS raised by 1, AGE grown by the hop and the stay in this tile (R621). -/
def forwardBeacon (ws : List Word) (age hops : Nat) : List Word :=
  [ws.getD 0 0, ws.getD 1 0, ws.getD 2 0, ws.getD 3 0, word age, wSet (ws.getD 5 0) 8 6 hops]

/-- A copy of a beacon leaves a port, past its injection point (R620, R628). -/
def Dev.putBeacon (d : Dev) (q : Nat) (ws : List Word) : Dev :=
  let (g, d) := d.injectFault (2 * q) true
  let d := d.setPort q { d.port q with lastOut := ws }
  if g = 1 then d else d.putFrame q none (d.flipDraw (2 * q) g) (d.plainPacket typeBeacon ws)

/-- BEACON: the first good copy of a frame's beacon is accepted, forwarded on every other port that is up (in WATCH, on
every port that was up at its entry), and taken for time and frame alignment (R394, R549, R621 to R625). -/
def Dev.takeBeacon (d : Dev) (p : Nat) (crcOk : Bool) (ws : List Word) (stay : Nat) (watch : Bool) : Dev :=
  let (f, d) := d.injectFault (2 * p + 1) true
  let hops := wGet (ws.getD 5 0) 8 6
  let n := (ws.getD 0 0).toNat
  let fresh := match d.link.beacon with
    | none => true
    | some m => decide (0 < frameDiff m n)
  if f = 1 then d
  else if crcOk = false ∨ f = 2 ∨ 62 < hops then d.bump EGL_BCN_BCNERR
  else if d.isManager ∨ fresh = false then d
  else
    let d := d.setLink { d.link with beacon := some n }
    let age := (ws.getD 4 0).toNat + d.fld (EGL_PDLY_NS p)
    let d := (d.setFld EGL_BCN_HOPS hops).setFld EGL_BCN_PORT p
    let d := ((d.setFld EGL_STAT_UP p).setFld EGL_PATHDLY_NS age)
    let d := { d with surf := { d.surf with beaconFrame := some (n, beaconUnits ws / 16777216, beaconUnits ws % 16777216) } }
    let d := (List.range 4).foldl (fun d q =>
      if q = p ∨ (if watch then !(d.port q).watchUp else !d.isUp q) = true then d
      else
        d.putBeacon q (forwardBeacon ws (age + stay) (hops + 1))) d
    if d.isWorker then
      let (path, d) := d.nsUnits age
      d.beaconTime (beaconUnits ws) path (wGet (ws.getD 5 0) 0 6) (wGet (ws.getD 5 0) 6 1 == 1)
    else d

/-- BEACON (R621). -/
def execBeacon (port : BitVec 2) (crcOk : Bool) (words : List Word) (stay : BitVec 24) (s : State) :
    Host.Outcome State Fault Refusal :=
  s.run fun d => if d.isUp port.toNat then d.takeBeacon port.toNat crcOk words stay.toNat false else d

/-- WATCH_BEACON (R625): in WATCH a preamble wakes the receivers for one beacon. -/
def execWatchBeacon (port : BitVec 2) (crcOk : Bool) (words : List Word) (stay : BitVec 24) (s : State) :
    Host.Outcome State Fault Refusal :=
  s.run fun d => if d.mode = modeWatch then d.takeBeacon port.toNat crcOk words stay.toNat true else d

/-- The manager's beacon of a frame start on every port that is up, in WATCH on every port that was up at its entry
(R620, R623, R625). AGE is the wait for the frame in progress, which is free up to 8.12 µs (R631; log entry 2). -/
def Dev.sendBeacons (d : Dev) (n : Nat) (sec frac : Nat) (watch : Bool) : Dev :=
  let ws (age : Nat) : List Word := [word n, word sec, word frac, word (sec / 16777216), word age,
    pack [(d.time.epoch, 0), (bit d.time.stepFlag, 6), (bit watch, 7)]]
  let d := { d with time := { d.time with stepFlag := false } }
  (List.range 4).foldl (fun d q =>
    if (if watch then !(d.port q).watchUp else !d.isUp q) then d
    else
      let (age, d) := d.draw 8121
      d.putBeacon q (ws age)) d

/-! Resets. -/

/-- Every reset but a core watchdog reset clears the link's state beside its registers (R641). -/
def Dev.linkReset (d : Dev) : Dev := d.setLink {}

/-- `egl retrain p` (R637). -/
def Dev.consoleRetrain (d : Dev) (p : Nat) : Dev :=
  if d.fullSet = false then d.finishErr 6
  else if 3 < p then d.finishErr 5
  else (d.writePctl (pack [(0x5A, 16), (2 ^ p, 4), (d.fld EGL_PCTL_DISABLE, 0)])).finishOk

/-- EGL_RETRAIN (R637). -/
def execEglRetrain (p : BitVec 8) (s : State) : Host.Outcome State Fault Refusal :=
  s.run fun d => d.command (.eglRetrain p) fun d => d.consoleRetrain p.toNat

/-- `egl inj i kind k`: kind 0 drop, 1 corrupt, 2 reorder (R646). -/
def Dev.consoleInj (d : Dev) (i kind k : Nat) : Dev :=
  if d.fullSet = false then d.finishErr 6
  else if 7 < i ∨ 15 < k ∨ 2 < kind then d.finishErr 5
  else
    let w := d.reg (SVC_INJ i)
    let w := wSet (wSet w (8 * kind) 4 k) (8 * kind + 4) 1 1
    (d.writeInj (SVC_INJ i) w).finishOk

/-- EGL_INJ (R646). -/
def execEglInj (i : BitVec 8) (kind : BitVec 2) (k : BitVec 8) (s : State) : Host.Outcome State Fault Refusal :=
  s.run fun d => d.command (.eglInj i kind k) fun d => d.consoleInj i.toNat kind.toNat k.toNat

/-- EGL_INJ_OFF: every injection point is disabled (R646). -/
def execEglInjOff (s : State) : Host.Outcome State Fault Refusal :=
  s.run fun d => d.command .eglInjOff fun d =>
    if d.fullSet then ((List.range 8).foldl (fun d i => d.setReg (SVC_INJ i) 0) d).finishOk else d.finishErr 6

/-- `egl ping x y n`: n PING operations; the round trips are printed when all have ended (R600). -/
def Dev.consolePing (d : Dev) (xy n : Nat) : Dev :=
  if n = 0 ∨ 100 < n then d.finishErr 5
  else if d.link.ping.isSome then d.finishErr 8
  else
    let d := d.setLink { d.link with ping := some (n, [], 0) }
    ((List.range n).foldl (fun d i => d.newOp 3 6 xy [word i]) d).issueOps

/-- The registers of the block that show other state: the grid. -/
def Dev.linkView (d : Dev) (rq : Requester) (a : Nat) : Option Word :=
  if a = EGL_GRID then some (pack [(d.gridCols - 1 + (d.gridRows - 1), 16), (d.gridCols, 8), (d.gridRows, 0)])
  else if a = EGL_SURF then some (pack [(d.gridCols * d.gridRows, 11), (d.joinedTiles.length + bit d.isManager, 0)])
  else if a = EGL_RTILE then some (d.surf.rtile.getD (rqIndex rq) 0)
  else none

end Sys2Proof.Machine
end

