-- ==== Sys2Proof/Machine/Surface.lean ====
section
/-!
DEFINITION. Surface.lean: the tile table, the surface contacts and their merging, strips, forwarded records, lost tiles and
the remote window (15_tiled_surfaces.md). Messages that change the configuration or the mode stand in Hierarchy.lean.
-/

namespace Sys2Proof.Machine

def Dev.setSurf (d : Dev) (v : Surface) : Dev := { d with surf := v }

/-! The tile table (R545, R586). -/

abbrev tileEnumerated : Nat := 1
abbrev tileLoading : Nat := 2
abbrev tileJoined : Nat := 3
abbrev tileLost : Nat := 4
abbrev tileSafe : Nat := 5
abbrev tileRefused : Nat := 6
abbrev tileResetting : Nat := 7

def Dev.tile (d : Dev) (xy : Nat) : Tile :=
  (d.surf.tiles.find? fun t => t.xy == xy).getD ⟨xy, 0, 0, d.time.frame, d.time.frame, none, 0, 0, false⟩

/-- The tile's row in the table replaced. -/
def Dev.setTile (d : Dev) (t : Tile) : Dev :=
  d.setSurf { d.surf with tiles := t :: d.surf.tiles.filter fun o => o.xy != t.xy }

def Dev.setTileState (d : Dev) (xy st reason : Nat) : Dev := d.setTile { d.tile xy with state := st, reason := reason }

/-- A message of a tile arrived (EGL_TSTAT.SEEN); a tile not heard of before has coordinates, and so counts as enumerated
(R586; DEDUCED, log entry 47). -/
def Dev.noteTile (d : Dev) (xy : Nat) : Dev :=
  let t := d.tile xy
  d.setTile { t with seen := d.time.frame, state := if t.state = 0 then tileEnumerated else t.state }

/-- A tile begins to load its image, or has ended it; one that a RESET was sent to stays in state 7 until its JOIN (R571). -/
def Dev.noteLoading (d : Dev) (xy st : Nat) : Dev :=
  if (d.tile xy).state = tileResetting then d else d.setTileState xy st 0

/-- Frames from an earlier surface frame number to a later one. -/
def framesSince (a b : Nat) : Nat := (b + 16777216 - a % 16777216) % 16777216

/-- EGL_TSTAT of a tile (R586): a manager's own is joined, and a tile never heard of is absent. -/
def Dev.tileWord (d : Dev) (xy : Nat) : Word :=
  if d.isManager ∧ xy = d.ownXY then pack [(tileJoined, 21)] else
  match d.surf.tiles.find? fun t => t.xy == xy with
  | none => 0
  | some t => pack [(t.state, 21), (t.reason % 16, 16), (min (framesSince t.seen d.time.frame) 65535, 0)]

/-! Surface contacts (R558 to R564). -/

/-- The seam between two tiles that are neighbours along x or y is joined (R554). -/
def Dev.tilesJoined (d : Dev) (a b : Nat) : Bool :=
  let lo := min a b
  let hi := max a b
  let p := d.originOf (lo / 32) (lo % 32)
  let q := d.originOf (hi / 32) (hi % 32)
  if hi = lo + 32 then within (p.1 + d.extX) q.1 d.pitchX && within p.2 q.2 d.pitchY
  else if hi = lo + 1 ∧ hi / 32 = lo / 32 then within (p.2 + d.extY) q.2 d.pitchY && within p.1 q.1 d.pitchX
  else false

/-- Two tiles meet at a corner (R563). -/
def atCorner (a b : Nat) : Bool :=
  within (a / 32) (b / 32) 1 && within (a % 32) (b % 32) 1 && a / 32 != b / 32 && a % 32 != b % 32

/-- The surface coordinates of what a tile reported (R561). -/
def Dev.placeOf (d : Dev) (c : SurfContact) : Nat × Nat := d.surfaceXY (c.tile / 32) (c.tile % 32) c.rep.x c.rep.y

/-- A number that no surface contact has: not yet allocated. -/
abbrev noId : Nat := 1024

def Dev.mapSurf (d : Dev) (f : SurfContact → SurfContact) : Dev :=
  d.setSurf { d.surf with contacts := d.surf.contacts.map f }

/-- A surface contact leaves the table; its ID counts as released in this frame (R561). -/
def Dev.dropSurf (d : Dev) (c : SurfContact) : Dev :=
  d.setSurf { d.surf with
    contacts := d.surf.contacts.filter fun o => o.age != c.age
    freed := if c.told then c.id :: d.surf.freed else d.surf.freed }

/-- A surface contact is cancelled; one the host knows of waits for its CANCEL pair. -/
def Dev.cancelSurf (d : Dev) (c : SurfContact) (reason : Nat) : Dev :=
  let d := d.dropSurf c
  if c.told then d.setSurf { d.surf with cancels := d.surf.cancels ++ [(c, reason)] } else d

/-- One entry of a CONTACTS message for the frame being gathered (R558, R559, R561). -/
def Dev.applyEntry (d : Dev) (xy n : Nat) (r : Report) : Dev :=
  let mine (c : SurfContact) : Bool := c.tile == xy && c.tid == r.id && c.handed.isNone
  match d.surf.contacts.find? mine with
  | none =>
    if 2 ≤ r.kind then d
    else
      let c : SurfContact := ⟨noId, xy, r.id, 0, 0, r, false, none, d.surf.nextAge, some 0⟩
      d.setSurf { d.surf with contacts := d.surf.contacts ++ [c], nextAge := d.surf.nextAge + 1 }
  | some c =>
    let put (v : SurfContact) : Dev := d.mapSurf fun o => if o.age == c.age then v else o
    match r.kind with
    | 3 => d.cancelSurf c r.reason
    | 2 => put { c with rep := r, now := some 2 }
    | 4 => put { c with rep := r, now := none, handed := some n }
    | _ => put { c with rep := r, now := some 1 }

/-- The CANCEL pair of a surface contact (R303, R304). -/
def Dev.cancelPair (d : Dev) (p : SurfContact × Nat) : Dev :=
  let at_ := d.placeOf p.1
  d.ringPair (word at_.1) (word at_.2) (pairB1 p.1.id 3 p.1.rep.typeBit p.2)
    (pairB2 (p.1.tile / 32) (p.1.tile % 32) p.1.rep.size p.1.rep.strength)

/-- The waiting cancels go out in ascending ID (R308). -/
def Dev.sendCancels (d : Dev) : Dev :=
  let cs := d.surf.cancels.mergeSort fun a b => decide (a.1.id ≤ b.1.id)
  cs.foldl Dev.cancelPair (d.setSurf { d.surf with cancels := [] })

/-- A cancelled surface contact as the HID sets show it (R469, R470). -/
def Dev.hidCancel (d : Dev) (p : SurfContact × Nat) : HidContact :=
  let q := d.placeOf p.1
  ⟨p.1.id, q.1, q.2, false, false⟩

/-- Cancels that no frame gathers are reported at once, outside any frame's report group; the HID reports show them with the
next set (R28). -/
def Dev.flushCancels (d : Dev) : Dev :=
  if d.surf.frame.isNone ∧ d.surf.cancels.isEmpty = false then
    (d.hidOwe (d.surf.cancels.map d.hidCancel)).sendCancels
  else d

/-- All surface contacts of a tile are cancelled (R574, R580). -/
def Dev.cancelTile (d : Dev) (xy reason : Nat) : Dev :=
  let gone := d.surf.contacts.filter fun c => c.tile == xy
  (gone.foldl (fun d c => d.cancelSurf c reason) d).flushCancels

/-- A tile contact that becomes live in this frame takes over the ID of a contact handed over across a joined seam; of several
in reach it is the oldest (R562; the choice among several is a DESIGN CHOICE, log entry 47). -/
def Dev.takeOver (d : Dev) (c : SurfContact) : Dev :=
  if c.told ∨ c.now ≠ some 0 then d
  else
    let p := d.placeOf c
    let fits (h : SurfContact) : Bool :=
      h.handed.isSome && d.tilesJoined h.tile c.tile &&
        (let q := d.placeOf h
         d.inReach p.1 p.2 q.1 q.2)
    match d.surf.contacts.find? fits with
    | none => d
    | some h =>
      let v := { c with id := h.id, told := h.told, age := h.age, x := h.x, y := h.y, now := some (if h.told then 1 else 0) }
      d.setSurf { d.surf with
        contacts := (d.surf.contacts.filter fun o => o.age != h.age).map fun o => if o.age == c.age then v else o }

/-- A handed-over contact that no tile has taken by the end of the next frame is reported as UP (R562). -/
def Dev.handoverEnd (d : Dev) (n : Nat) : Dev :=
  d.mapSurf fun c =>
    match c.handed with
    | some f => if f = n then c else { c with now := some 2 }
    | none => c

/-- Two tile contacts are one surface contact (R563). -/
def Dev.merges (d : Dev) (a b : SurfContact) : Bool :=
  a.tile != b.tile && (d.tilesJoined a.tile b.tile || atCorner a.tile b.tile) &&
    (let p := d.placeOf a
     let q := d.placeOf b
     decide (dist2 p.1 p.2 q.1 q.2 ≤ d.par secSurface 0x03 ^ 2))

/-- Contacts in the order of their age, each either its own surface contact or merged with the oldest one within reach:
pairs of a contact and the one whose position it shows (R563; a chain is judged against its oldest member, log entry
47). -/
def Dev.mergeGroups (d : Dev) (cs : List SurfContact) : List (SurfContact × SurfContact) :=
  cs.foldl (fun acc c =>
    match acc.findIdx? fun p => d.merges p.1 c with
    | none => acc ++ [(c, c)]
    | some i =>
      match acc[i]? with
      | none => acc
      | some p => acc.set i (p.1, if p.2.rep.strength < c.rep.strength then c else p.2)) []

/-- A younger contact that has merged is cancelled with reason 5 when the host knows of it, and is kept unreported (R563). -/
def Dev.unreport (d : Dev) (c : SurfContact) : Dev :=
  if c.told then
    let d := d.setSurf { d.surf with cancels := d.surf.cancels ++ [(c, 5)], freed := c.id :: d.surf.freed }
    d.mapSurf fun o => if o.age == c.age then { o with id := noId, told := false } else o
  else d

/-- The lowest surface ID neither held nor released in this or the previous surface frame (R561). -/
def Dev.freeSurfId (d : Dev) : Option Nat :=
  let held := (d.surf.contacts.filter fun c => c.told).map SurfContact.id
  (List.range 1024).find? fun i => !held.contains i && !d.surf.freed.contains i && !d.surf.freedPrev.contains i

/-- A contact of the host's: an ID is allocated to a new one, or the contact is refused for this frame (R561). -/
def Dev.tellSurf (d : Dev) (c : SurfContact) : Dev :=
  if c.told ∨ c.now = some 2 then d
  else
    match d.freeSurfId with
    | none => (d.bump EGL_HCNT_REFUSED).mapSurf fun o => if o.age == c.age then { o with now := none } else o
    | some i => d.mapSurf fun o => if o.age == c.age then { o with id := i, told := true, now := some 0 } else o

/-- The pair of a surface contact with a kind, at the position of the tile contact it shows. -/
def Dev.surfRecord (d : Dev) (c shown : SurfContact) (kind : Nat) : Dev :=
  let p := d.placeOf shown
  if kind = 1 ∧ d.par secReports 0x02 = 0 ∧ c.x = p.1 ∧ c.y = p.2 then d
  else
    let d := d.ringPair (word p.1) (word p.2) (pairB1 c.id kind shown.rep.typeBit 0)
      (pairB2 (shown.tile / 32) (shown.tile % 32) shown.rep.size shown.rep.strength)
    d.mapSurf fun o => if o.age == c.age then { o with x := p.1, y := p.2 } else o

/-- The surface contacts settled for frame n: take-over, then merging, then IDs (R561 to R563, R576). Answers each
reported contact with the tile contact whose position it shows. -/
def Dev.settleSurf (d : Dev) (n : Nat) : List (SurfContact × SurfContact) × Dev :=
  let d := (d.surf.contacts.foldl Dev.takeOver d).handoverEnd n
  let byAge := d.surf.contacts.mergeSort fun a b => decide (a.age ≤ b.age)
  let groups := d.mergeGroups (byAge.filter fun c => c.handed.isNone && c.now != some 2)
  let leaders := groups.map fun p => p.1.age
  let d := (byAge.filter fun c => c.handed.isNone && c.now != some 2 && !leaders.contains c.age).foldl Dev.unreport d
  let d := groups.foldl (fun d p => d.tellSurf p.1) d
  let shown (c : SurfContact) : SurfContact :=
    match groups.find? fun p => p.1.age == c.age with
    | some p => p.2
    | none => c
  ((d.surf.contacts.filter fun c => c.told).map fun c => (c, shown c), d)

/-- The HID report set of surface frame n (R470). -/
def Dev.hidSurface (d : Dev) (flags : Word) (told : List (SurfContact × SurfContact)) : Dev :=
  let show_ (tip : Bool) (p : SurfContact × SurfContact) : HidContact :=
    let q := d.placeOf p.2
    ⟨p.1.id, q.1, q.2, tip, true⟩
  let (_, sec, frac) := d.surf.beaconFrame.getD (0, 0, 0)
  d.hidFrame sec frac flags (d.surf.cancels.map d.hidCancel)
    ((told.filter fun p => p.1.now == some 2).map (show_ false)) ((told.filter fun p => p.1.now != some 2).map (show_ true))

/-- The records of surface frame n in the order of R308 (R327, R564), and the IDs released in it noted. -/
def Dev.surfaceReports (d : Dev) (n : Nat) (partly : Bool) : Dev :=
  let (told, d) := d.settleSurf n
  let told := told.mergeSort fun a b => decide (a.1.id ≤ b.1.id)
  let live := told.filter fun p => p.1.now != some 2
  let valid := d.baselinesValid d.trk.slot
  let burst := d.burstDue (wGet d.surf.flags 9 1 == 0) valid
  let flags := wSet d.surf.flags 0 1 (bit partly)
  let d := d.hidSurface flags told
  d.inGroup n fun d =>
    let d := if burst then
        let d := ((d.setSurf { d.surf with cancels := [] }).ring 37 (word live.length) (word n)).bump TRK_RPT_CNT_RESYNCS
        (live.foldl (fun d p => d.surfRecord p.1 p.2 4) d).burstDone valid
      else
        told.foldl (fun d p =>
          match p.1.now with
          | none => d
          | some k => d.surfRecord p.1 p.2 k) d.sendCancels
    let d := d.surf.gestures.foldl Dev.raiseGesture d
    let gone := d.surf.contacts.filter fun c => c.now == some 2
    let d := gone.foldl Dev.dropSurf d
    let d := (d.mapSurf fun c => { c with now := none }).setSurf { (d.mapSurf fun c => { c with now := none }).surf with
      freedPrev := d.surf.freed, freed := [], gestures := [], flags := 0, heard := [], parts := [], frame := none }
    d.frameEnd n live.length flags burst

/-- CONTACTS_DEADLINE: at D the manager reports frame n with PARTIAL when a joined tile was not heard (R564). -/
def Dev.contactsDeadline (d : Dev) : Dev :=
  match d.surf.frame with
  | none => d
  | some n =>
    let missing := d.joinedTiles.any fun t => !d.surf.heard.contains t
    (if missing then d.bump EGL_HCNT_PARTIAL else d).surfaceReports n missing

/-- The gestures gathered are raised at once, when no frame gathers them. -/
def Dev.flushGestures (d : Dev) : Dev :=
  d.surf.gestures.foldl Dev.raiseGesture (d.setSurf { d.surf with gestures := [] })

/-- A tile's contacts and gestures for frame n enter the tables, and while frame n is being gathered its flags too. What comes
after the deadline shows in the frame gathered next, or at once when none is gathered (R558, R564; DEDUCED, log entry 47). -/
def Dev.gather (d : Dev) (xy n : Nat) (flags : Word) (reps : List Report) (gestures : List (Word × Word)) : Dev :=
  let d := reps.foldl (fun d r => d.applyEntry xy n r) d
  let d := d.setSurf { d.surf with gestures := d.surf.gestures ++ gestures }
  if d.surf.frame = some n then
    d.setSurf { d.surf with
      flags := d.surf.flags ||| (flags &&& 0x1FFF#24)
      heard := if d.surf.heard.contains xy then d.surf.heard else xy :: d.surf.heard }
  else if d.surf.frame.isNone then d.flushCancels.flushGestures
  else d

/-! CONTACTS messages (R558, R573). -/

/-- A signed 21-bit coordinate and its three high bits. -/
def entryWord (high : Nat) (v : Int) : Word := pack [(high, 21), ((wordI v).toNat % 2097152, 0)]

/-- The three words of a contact entry (R573). -/
def Report.entry (r : Report) : List Word :=
  [pack [(r.kind, 21), (r.typeBit, 19), (r.reason, 15), (r.id % 32, 10), (min r.strength 255, 0)],
    entryWord (min r.size 63 / 8) r.x, entryWord (min r.size 63 % 8) r.y]

/-- The three words of a gesture entry (R573). -/
def gestureEntry (g : Word × Word) : List Word := [pack [(7, 21)], g.1, g.2]

/-- A signed 21-bit value. -/
def signed21 (w : Word) : Int :=
  let v := wGet w 0 21
  if v < 1048576 then v else (v : Int) - 2097152

/-- The entries of a CONTACTS message: reports and gestures. -/
def readEntries : List Word → List Report × List (Word × Word)
  | e0 :: e1 :: e2 :: rest =>
    let (rs, gs) := readEntries rest
    if wGet e0 21 3 = 7 then (rs, (e1, e2) :: gs)
    else (⟨wGet e0 10 5, wGet e0 21 3, signed21 e1, signed21 e2, wGet e0 19 2 != 0, wGet e1 21 3 * 8 + wGet e2 21 3,
      wGet e0 0 8,
        wGet e0 15 4⟩ :: rs, gs)
  | _ => ([], [])

/-- A tile's contacts for a frame: the manager gathers its own, and a worker sends them (R558). -/
def Dev.sendContacts (d : Dev) (n : Nat) (flags : Word) (reps : List Report) (gestures : List (Word × Word)) : Dev :=
  if d.isManager then d.gather d.ownXY n flags reps gestures
  else (d.send msgContacts 0 (word n :: flags :: (reps.flatMap Report.entry ++ gestures.flatMap gestureEntry))).issueOps

/-- A packet of a CONTACTS message: the message is taken when its last part is here (R558, R564, R572). -/
def Dev.contactsPart (d : Dev) (xy : Nat) (words : List Word) : Dev :=
  let n := (words.getD 0 0).toNat
  let w2 := words.getD 1 0
  let parts := max (wGet w2 14 5) 1
  let (got, sofar) := match d.surf.parts.find? fun p => p.1 == xy with
    | some p => p.2
    | none => (0, [])
  let (got, sofar) := if wGet w2 19 5 = 0 then (0, []) else (got, sofar)
  let all := sofar ++ words.drop 2
  let others := d.surf.parts.filter fun p => p.1 != xy
  let d := d.setTile { d.tile xy with seen := d.time.frame, contacts := d.time.frame }
  if got + 1 < parts then d.setSurf { d.surf with parts := (xy, got + 1, all) :: others }
  else
    let (rs, gs) := readEntries all
    (d.setSurf { d.surf with parts := others }).gather xy n w2 rs gs

/-- A message of a lost tile draws a RESET and nothing else (R574). -/
def Dev.fromLost (d : Dev) (xy : Nat) (f : Dev → Dev) : Dev :=
  if d.isManager = false then d
  else if (d.tile xy).state = tileLost then (((d.setTileState xy tileResetting 0).clearFlows xy).send msgReset xy [0]).issueOps
  else f d

/-- CONTACTS (R558). -/
def Dev.contactsMsg (d : Dev) (xy : Nat) (words : List Word) : Dev := d.fromLost xy fun d =>
  if (d.tile xy).state = tileJoined then d.contactsPart xy words else d

/-- CONTACTS (R558). -/
def execContacts (src : BitVec 10) (words : List Word) (s : State) : Host.Outcome State Fault Refusal :=
  s.run fun d => d.contactsMsg src.toNat words

/-- A tile leaves the surface: its contacts are cancelled with reason 4 and TILE_LOST is raised with a kind 1 to 3 (R574,
R580). -/
def Dev.tileGone (d : Dev) (xy st reason kind : Nat) : Dev :=
  (((d.setTileState xy st reason).clearFlows xy).cancelTile xy 4).ring 185 (pack [(kind, 12), (xy, 0)]) (word d.time.frame)

/-- TILE_LOST: a joined tile without CONTACTS for 250 ms of frames (R574). -/
def Dev.tileSilent (d : Dev) (xy : Nat) : Dev :=
  if d.isManager ∧ (d.tile xy).state = tileJoined ∧ xy ≠ d.ownXY then d.tileGone xy tileLost 0 1 else d

/-- TILE_LOST (R574). -/
def execTileLost (tile : BitVec 10) (s : State) : Host.Outcome State Fault Refusal := s.run fun d => d.tileSilent tile.toNat

/-- LEAVE: a worker enters SAFE with a cause (R580). -/
def Dev.leaveMsg (d : Dev) (xy : Nat) (words : List Word) : Dev := d.fromLost xy fun d =>
  (d.noteTile xy).tileGone xy tileSafe (wGet (words.getD 0 0) 0 3) 2

/-- LEAVE (R580). -/
def execLeave (src : BitVec 10) (words : List Word) (s : State) : Host.Outcome State Fault Refusal :=
  s.run fun d => d.leaveMsg src.toNat words

/-! Edge strips (R555 to R557). -/

/-- STRIP: the strip nodes take their places beyond the edge that faces the sender; its parts join in order (R556). -/
def Dev.stripMsg (d : Dev) (words : List Word) : Dev :=
  let n := (words.getD 0 0).toNat
  let w2 := words.getD 1 0
  let edge := opposite (wGet w2 0 2)
  let vals := words.drop 2
  let recent := d.surf.strips.filter fun s => decide (frameDiff s.frame d.time.frame < 3)
  match recent.find? fun s => s.frame == n && s.edge == edge with
  | some s =>
    if wGet w2 8 5 = 0 then d
    else d.setSurf { d.surf with strips := recent.map fun o => if o == s then { s with vals := s.vals ++ vals } else o }
  | none => if wGet w2 8 5 = 0 then d.setSurf { d.surf with strips := recent ++ [⟨n, edge, vals⟩] } else d

/-- STRIP (R556). -/
def execStrip (_src : BitVec 10) (words : List Word) (s : State) : Host.Outcome State Fault Refusal :=
  s.run fun d => d.stripMsg words

/-- The frame whose strips are due: the last one handed over. -/
def Dev.stripFrame (d : Dev) : Option Nat := (d.trk.queue.getLast?).map FrameInfo.n

/-- STRIP_DEADLINE: every strip of the frame that has not arrived counts in STRIPLATE; an empty strip keeps its place, so
that a late one adds nothing (R557). -/
def Dev.stripDeadline (d : Dev) : Dev :=
  match d.stripFrame with
  | none => d
  | some n =>
    d.joinedEdges.foldl (fun d e =>
      if d.surf.strips.any fun s => s.frame == n && s.edge == e then d
      else (d.setSurf { d.surf with strips := d.surf.strips ++ [⟨n, e, []⟩] }).bump EGL_HCNT_STRIPLATE) d

/-- STRIP_DEADLINE (R557). -/
def execStripDeadline (s : State) : Host.Outcome State Fault Refusal := s.run Dev.stripDeadline

/-! Forwarded records (R565 to R567). -/

/-- W1 of a forwarded record (R566). -/
def forwardW1 (xy : Nat) (diff : Bool) (src : Nat) : Word := pack [(xy / 32, 19), (xy % 32, 14), (bit diff, 13), (src, 0)]

/-- The count of records a worker discarded beyond FWD_MAX, as the manager raises it (R565). -/
def Dev.forwardLoss (d : Dev) (xy n : Nat) : Dev := (d.bumpBy EGL_FWD_LOSS n).ring 188 (word xy) (word n)

/-- A worker reports what it discarded beyond FWD_MAX at its next frame start; the manual gives no form for the report,
and it travels as a FORWARD of source 188 (R565; log entry 12). -/
def Dev.reportForwardLoss (d : Dev) : Dev :=
  let n := d.surf.fwdLost
  let d := d.setSurf { d.surf with fwdSent := 0, fwdLost := 0 }
  if n = 0 ∨ d.isWorker = false then d
  else (d.send msgForward 0 [recordW0 188 9 d.time.epoch 0, word d.ownXY, word n, stampW3 d.time.now]).issueOps

/-- FORWARD: the manager rings source 384 + (s mod 128) with the tile, the original source and the worker's time; the
original payload goes to the forward table at delivery (R566). A worker that starves calls for a stretched frame
(R868). -/
def Dev.forwardMsg (d : Dev) (xy : Nat) (words : List Word) : Dev := d.fromLost xy fun d =>
  let w0 := words.getD 0 0
  let src := wGet w0 15 9
  if src = 188 then (d.noteTile xy).forwardLoss xy (words.getD 2 0).toNat else
  let d := (d.noteTile xy).bump EGL_FWD_COUNT
  let diff := wGet w0 5 6 != d.time.epoch
  let d := d.accept (384 + src % 128) (forwardW1 xy diff src) (words.getD 3 0) none (some (words.getD 1 0, words.getD 2 0))
  if src = 213 then d.nameStretch else d

/-- FORWARD (R566). -/
def execForward (src : BitVec 10) (words : List Word) (s : State) : Host.Outcome State Fault Refusal :=
  s.run fun d => d.forwardMsg src.toNat words

/-! The remote window (R568 to R570). -/

/-- A requester's number in the link's operations: two-wire 1, USB 2, console 3 (R643). -/
def rqCode (rq : Requester) : Nat :=
  match rq with
  | .twoWire => 1
  | .usb => 2
  | .console => 3
  | .remote => 0

/-! The requesters of the remote window: `rd` on the console, and EP2 (R69, R475). -/

/-- Lines of a running command, which leave as the transmit buffer has room for them. -/
def Dev.addRun (d : Dev) (ls : List OutLine) : Dev :=
  d.setCon (({ d.con with todo := d.con.todo ++ ls } : Console).refill (d.con.todo.length + ls.length))

/-- The status line and the prompt of a running command. -/
def Dev.endRun (d : Dev) (status : OutLine) : Dev := d.addRun [status, .prompt d.fullSet]

/-- A response becomes ready (R475). -/
def Dev.ep2Answer (d : Dev) (op : Nat) (tag : Byte) (status count : Nat) (body : List Byte) : Dev :=
  Dev.setUsb d { d.usb with command := none, response := some ([byte op, tag, byte status, byte count] ++ body) }

/-- A command ends: with what it has read, or the count written. -/
def Dev.ep2Finish (d : Dev) (c : EpCommand) (status : Nat) : Dev :=
  d.ep2Answer c.op c.tag status c.done.length (if c.op = 1 then c.done.flatMap wordBytes else [])

/-- The waiting `rd` or EP2 command of a requester whose remote operation has failed ends: E11, or STATUS 3 (R69, R479). -/
def Dev.waiterFails (d : Dev) (o : Operation) : Dev :=
  match o.requester, d.usb.command, d.con.rd with
  | 2, some c, _ => d.ep2Finish c 3
  | 3, _, some _ => if o.packet.code = msgRemoteRd then (d.setCon { d.con with rd := none }).endRun (.error 11) else d
  | _, _, _ => d

/-- A remote access failed: shown, counted and raised (R570). -/
def Dev.remoteFail (d : Dev) (xy addr err : Nat) : Dev :=
  let d := ((d.setFld EGL_RSTAT_ERR err).setFld EGL_RSTAT_ADDR addr).bump EGL_RCNT_FAIL
  d.ring 187 (word addr) (pack [(err, 12), (xy, 0)])

def Dev.setRemoteData (d : Dev) (rq : Requester) (v : Word) : Dev :=
  d.setSurf { d.surf with remoteData := d.surf.remoteData.set (rqIndex rq) v }

/-- An operation of the remote window is still pending (EGL_RSTAT.PEND). -/
def remoteOp (o : Operation) : Bool := o.packet.type == 1 && (o.packet.code == msgRemoteRd || o.packet.code == msgRemoteWr)

def Dev.notePend (d : Dev) : Dev := d.setFlag EGL_RSTAT_PEND (d.link.ops.any remoteOp)

/-- An access through the window to another tile: one link operation when the tile has joined, else a failure at once
(R569, R570). -/
def Dev.remoteIssue (d : Dev) (rq : Requester) (addr : Nat) (write : Option Word) : Dev :=
  let xy := wGet (d.surf.rtile.getD (rqIndex rq) 0) 0 10
  let d := d.bump EGL_RCNT_OPS
  if d.hasJoined xy then
    let ws := match write with
      | none => [word (msgRemoteRd * 65536), word addr]
      | some v => [word (msgRemoteWr * 65536), word addr, v]
    ((d.newOp (rqCode rq) 1 xy ws).issueOps).notePend
  else (d.setRemoteData rq 0).remoteFail xy addr 1

/-- The operations on a tile that was reset end with REMOTE_FAIL (R579). -/
def Dev.remoteEnd (d : Dev) (xy : Nat) : Dev :=
  let mine := d.link.ops.filter fun o => remoteOp o && o.dest == xy
  let d := d.setLink { d.link with
    ops := d.link.ops.filter fun o => !(remoteOp o && o.dest == xy)
    heldTags := d.link.heldTags ++ (mine.filter fun o => o.result.isNone).filterMap fun o => o.tag }
  let d := mine.foldl (fun d o => (d.remoteFail xy (o.packet.payload.getD 1 0).toNat 3).waiterFails o) d
  d.noteTags.notePend

/-- A remote operation has ended: its data goes to its requester, or it failed by time-out (R570). -/
def Dev.remoteDone (d : Dev) (o : Operation) : Dev :=
  let rq := match o.requester with
    | 1 => Requester.twoWire
    | 2 => Requester.usb
    | _ => Requester.console
  let d := match o.result with
    | some (some pk) => if o.packet.code = msgRemoteRd then d.setRemoteData rq (pk.payload.getD 2 0) else d
    | _ =>
      let d := if o.packet.code = msgRemoteRd then d.setRemoteData rq 0 else d
      d.remoteFail o.dest (o.packet.payload.getD 1 0).toNat 2
  d.notePend

/-- The manager sends RESET to a tile: its state becomes 7, and its remote operations end (R571, R579). -/
def Dev.resetTile (d : Dev) (xy : Nat) (linkBoot : Bool) : Dev :=
  let d := if (d.tile xy).state = tileJoined then d.tileGone xy tileResetting 0 3 else d.setTileState xy tileResetting 0
  (((d.remoteEnd xy).clearFlows xy).send msgReset xy [word (bit linkBoot)]).issueOps

/-- EGL_TRESET (R571): a keyed write that names a worker; on a tile that is no manager there is no worker to reset. -/
def Dev.writeTreset (d : Dev) (v : Word) : Dev :=
  if wGet v 16 8 = 0xA5 ∧ wGet v 0 10 ≠ 0 ∧ d.isManager = true then d.resetTile (wGet v 0 10) false else d.ignoreWrite

/-- EGL_TRESET (R571). -/
def execEglTreset (value : Word) (s : State) : Host.Outcome State Fault Refusal := s.run fun d => d.writeTreset value

/-- A write of EGL_RTILE: one word per requester (R568). -/
def Dev.writeRtile (d : Dev) (rq : Requester) (v : Word) : Dev :=
  d.setSurf { d.surf with rtile := d.surf.rtile.set (rqIndex rq) (v &&& 0x3FF#24) }

/-- The registers of the hierarchy that show other state (R586). -/
def Dev.surfView (d : Dev) (rq : Requester) (a : Nat) : Option Word :=
  if a = EGL_TSTAT then some (d.tileWord (d.fld EGL_TSEL_XY)) else d.linkView rq a

end Sys2Proof.Machine
end

