-- ==== Sys2Proof/Machine/Channel.lean ====
section
/-!
DEFINITION. Channel.lean: the gather channels as the other blocks reach them: their state in the registers, and flushing
one (R699 to R702).
-/

namespace Sys2Proof.Machine

def Dev.chan (d : Dev) (c : Nat) : Channel := d.gde.channels.getD c {}

/-- Channel c is FAULTED. -/
def Dev.chanFaulted (d : Dev) (c : Nat) : Bool := (d.fld GDE_STAT_FAULTED).testBit c

def Dev.setFaulted (d : Dev) (c : Nat) (b : Bool) : Dev :=
  let m := d.fld GDE_STAT_FAULTED
  if m.testBit c = b then d else d.setFld GDE_STAT_FAULTED (if b then m + 2 ^ c else m - 2 ^ c)

/-- The source page in use is a worker's. -/
def Channel.remote (ch : Channel) : Bool :=
  match ch.srcEnt with
  | none => false
  | some e => wGet e.1 20 1 == 1

/-- The channel waits for remote data (R688). -/
def Channel.waits (ch : Channel) : Bool := ch.remote && ch.data.isEmpty && ch.failed.isNone

/-- GDE_CSTAT of a channel: 0 IDLE, 1 RUNNING, 2 WAITING, 3 FAULTED (R705). -/
def Dev.chanWord (d : Dev) (c : Nat) : Word :=
  let ch := d.chan c
  let st := if ch.active.isNone then 0 else if d.chanFaulted c then 3 else if ch.waits then 2 else 1
  pack [(st, 22), (ch.queue.length % 8, 19), (ch.elem % 16, 15), (ch.word, 0)]

def Dev.setChan (d : Dev) (c : Nat) (ch : Channel) : Dev :=
  let d := { d with gde := { d.gde with channels := d.gde.channels.set c ch } }
  d.setReg (GDE_CSTAT c) (d.chanWord c)

/-- The remote reads of a channel under way, by destination; their data is to be discarded (R699, R701). -/
def Dev.readsOut (d : Dev) (c : Nat) : List (Nat × Nat) :=
  (d.link.ops.filter fun o => o.requester == 8 + c).foldl (fun l o => keySet l o.dest (keyGet l o.dest + 1)) []

/-- The channel's active descriptor ends without GDE_DONE; its queue stays. -/
def Dev.dropActive (d : Dev) (c : Nat) : Dev :=
  let q := (d.chan c).queue
  (d.setFaulted c false).setChan c { queue := q, discard := d.readsOut c }

/-- FLUSH (R700). -/
def Dev.flushChan (d : Dev) (c : Nat) : Dev :=
  (d.setFaulted c false).setChan c { discard := d.readsOut c }

/-- A channel in IDLE takes its oldest queued descriptor (R681). -/
def Dev.activate (d : Dev) (c : Nat) : Dev :=
  let ch := d.chan c
  match ch.active, ch.queue with
  | none, q :: rest => d.setChan c { active := some q, queue := rest, discard := ch.discard }
  | _, _ => d

/-- A descriptor joins the queue of a channel (R678, R681). -/
def Dev.queueDesc (d : Dev) (c : Nat) (e : Descriptor) : Dev :=
  let ch := d.chan c
  (d.setChan c { ch with queue := ch.queue ++ [e] }).activate c

/-! The copy of a captured frame on channel 2 (R316 to R319, R323, R677). -/

/-- The firmware maps the 16 pages of a bank from logical page `page` on, in entries of its own from `entry` on (R682). -/
def Dev.mapBank (d : Dev) (entry page bank : Nat) (a b : Word) : Dev :=
  (List.range 16).foldl (fun d i =>
    (d.setReg (GDE_WINA (entry + i)) (a ||| pack [(1, 23), (page + i, 0)])).setReg (GDE_WINB (entry + i))
      (b ||| pack [(bank, 4), (i, 0)])) d

/-- A copy starts: the pieces of the frame buffer, or on a manager of the worker's, go to bank 15 as one descriptor. The frame
buffer is read with any owner, bank 15 written under the host's (R318, R319, R685). Which entries and logical pages the
firmware uses is not stated: free values (log entry 2). -/
def Dev.startCopy (d : Dev) (n : Nat) : Dev :=
  let far := d.capRemote
  let (entry, d) := d.draw 17
  let (page, d) := d.draw 16352
  let d := d.mapBank entry page (n % 4) (pack [(1, 22), (bit far, 20), (15, 16)])
    (if far then pack [(d.fld TRK_CAP_TILE_X, 19), (d.fld TRK_CAP_TILE_Y, 14)] else 0)
  let d := d.mapBank (entry + 16) (page + 16) 15 (pack [(1, 21), (8, 16)]) 0
  let elems := d.capPieces.map fun p => (page * 1024 + p.1, p.2)
  let d := d.setRpt { d.rpt with copying := some n, copied := elems.isEmpty }
  if elems.isEmpty then d else d.queueDesc 2 ⟨0, (page + 16) * 1024 + d.fld TRK_CAP_DST_WORD, elems⟩

/-- After tracking, a frame with a buffer starts to be copied when its turn has come, every (EVERY + 1)-th frame; a turn that
meets a copy in progress passes. Else its bank is released (R316, R323). -/
def Dev.afterTracking (d : Dev) (f : FrameInfo) : Dev :=
  if !f.buffer then d
  else if d.flag TRK_CAP_STAT_BUSY then
    let turn := decide (d.rpt.skip = 0)
    let d := d.setRpt { d.rpt with skip := if turn then d.fld TRK_CAP_CTRL_EVERY else d.rpt.skip - 1 }
    if turn && d.rpt.copying.isNone then
      let d := d.startCopy f.n
      if d.capRemote then d.setOwner (f.n % 4) 0 else d
    else d.setOwner (f.n % 4) 0
  else d.setOwner (f.n % 4) 0

/-- The frame buffer of a copy is released, unless the front end has it again. -/
def Dev.copyReleased (d : Dev) (n : Nat) : Dev :=
  if d.capRemote ∨ d.owner (n % 4) = 1 then d else d.setOwner (n % 4) 0

/-- A copy not ended at frame start n + 3 is abandoned (R320). -/
def Dev.capAbandon (d : Dev) (frame : Nat) : Dev :=
  match d.rpt.copying with
  | none => d
  | some n =>
    if frameDiff n frame < 3 then d
    else
      let d := (d.flushChan 2).copyReleased n
      let d := (d.bump TRK_CAP_STAT_SKIPPED).setFld TRK_CAP_STAT_RESULT 4
      if d.rpt.stopping then d.capEnd 4 n false else d.setRpt { d.rpt with copying := none }

/-- A core watchdog reset flushes channels 2 to 7 and clears window entries 0 to 47 (R702). -/
def Dev.gatherRestart (d : Dev) : Dev :=
  let d := [2, 3, 4, 5, 6, 7].foldl Dev.flushChan d
  (List.range 48).foldl (fun d e => (d.setReg (GDE_WINA e) 0).setReg (GDE_WINB e) 0) d

end Sys2Proof.Machine
end

