-- ==== Sys2Proof/Machine/Shared.lean ====
section
/-!
DEFINITION. Shared.lean: a mode change taking effect, and what SAFE, SERVICE, WATCH and HIBERNATE do to the other blocks
(06_operating_modes.md, R75, R76, R166), and the restart of the cores (R112).
-/

namespace Sys2Proof.Machine

/-! The change itself (R199, R201). -/

/-- MODE_CHANGE raised and kept for `pwr stat`; the fault log takes SAFE, HIBERNATE and orphan changes (R199). -/
def Dev.recordMode (d : Dev) (new prev reason apply : Nat) : Dev :=
  let w1 := modeW1 new prev reason
  let d := d.setModes { d.modes with history := ((w1, word apply) :: d.modes.history).take 8 }
  let d := if reason ≠ 9 ∧ (new = modeSafe ∨ new = modeHibernate ∨ reason = 7) then d.logEvent 12 w1 (word apply) else d
  d.ring 12 w1 (word apply)

/-- MODE, PREV and LASTREASON take the change, and MODE_CHANGE is raised; a wake from HIBERNATE leaves that mode. -/
def Dev.setMode (d : Dev) (new reason apply : Nat) : Dev :=
  let prev := if d.modes.waking then modeHibernate else d.mode
  let d := ((d.setFld PWR_STAT_PREV prev).setFld PWR_STAT_MODE new).setFld PWR_STAT_LASTREASON reason
  d.recordMode new prev reason apply

/-! What stops. -/

/-- Live contacts end with CANCEL, reason 6, at once: as records on a standalone tile, in a CONTACTS message on a surface
(R275, R558). -/
def Dev.cancelNow (d : Dev) (reason : Nat) : Dev :=
  let d := d.cancelLive reason
  let cs := byId d.trk.pending
  let d := d.setTrk { d.trk with pending := [], reported := [], prospects := [] }
  if d.onSurface then
    let d := d.setSurf { d.surf with frame := none, parts := [] }
    if cs.isEmpty then d else d.sendContacts d.time.frame 0x200#24 cs []
  else (d.hidOwe (cs.map (d.hidOf false false))).inGroup d.time.frame fun d => cs.foldl Dev.contactRecord d

/-- Every waiting mode change is discarded; a discarded host command is reported with reason 9 (R188). -/
def Dev.discardModes (d : Dev) (report : Bool) : Dev :=
  let had := d.modes.host
  let d := (d.setModes { d.modes with
    service := none, host := none, wake := none, auto := none, orphan := none, manager := none }).markPending none
  match had with
  | some r => if report then d.recordMode r.mode d.mode 9 d.time.frame else d
  | none => d

/-! SERVICE (R73 to R76). -/

/-- The static states and the meter path return to their idle state, and AMON is released. -/
def Dev.metersOff (d : Dev) : Dev :=
  let d := { d with con := { d.con with states := [], amon := false } }
  let d := (((d.setReg SVC_AMON 0).setReg SVC_EL 0).setFlag SVC_STAT_METER false).setFlag SVC_STAT_STATIC false
  { d with scan := { d.scan with tone := none, consoleRun := false } }

/-- The full command set opens: 1 by SVCEN#, 2 by the code, 3 by a mode command (R70, SVC_STAT.ENTRY). -/
def Dev.openSet (d : Dev) (entry : Nat) : Dev := (d.setFld SVC_STAT_ENTRY entry).ring 224 (word entry) 0

/-- Entry into SERVICE (R75): the scan stops, the electrodes go to gnd, the lamps go off, and the rails hold. -/
def Dev.enterService (d : Dev) (entry : Nat) : Dev :=
  let d := d.metersOff
  let d := ((d.scanStop 1).setFlag SCAN_STAT_SVC_STOP true).lampsOff.txStop
  ((d.setFlag SVC_STAT_SERVICE true).openSet entry).judgeGate

/-- SERVICE is left (R76): AMON high impedance, the electrodes in their roles, every lamp at level 0 (R771), the scan again
once recalibrated. -/
def Dev.leaveService (d : Dev) : Dev :=
  let d := d.metersOff
  let d := if d.flag SCAN_STAT_RUN then d.scanStop 2 else d
  let d := ((d.lampsOff.setFlag SVC_STAT_SERVICE false).setFld SVC_STAT_ENTRY 0).setFlag SCAN_STAT_SVC_STOP false
  ((d.ring 225 0 0).judgeGate.fullRun 4).railsResume

/-! SAFE (R166, R193). -/

/-- In SAFE the full command set stays open where it was, and opens where SVCEN# was sampled low (R74, R91); SERVICE is
left (log entry 13). -/
def Dev.safeSet (d : Dev) : Dev :=
  let d := if d.flag SVC_STAT_SERVICE then (d.setFlag SVC_STAT_SERVICE false).ring 225 0 0 else d
  let d := if d.fld SVC_STAT_ENTRY = 0 ∧ d.flag SYS_STRAP_SVCEN = true then d.openSet 1 else d
  (d.setFlag SVC_STAT_SAFE_SET (d.fld SVC_STAT_ENTRY != 0)).judgeGate

/-- A commit in progress ends with the SAFE trigger: RESULT 8 when it had not been applied (R529). -/
def Dev.commitSafe (d : Dev) : Dev :=
  let p := d.fld CFG_STAT_PHASE
  let d := if 1 ≤ p ∧ p ≤ 3 ∧ d.com.checkOnly = false then
      let d := (d.setFld CFG_STAT_RESULT 8).bump CFG_CNT_ABORTED
      { d with com := { d.com with history := ((d.fld CFG_STAT_CLASS, 8) :: d.com.history).take 8 } }
    else d
  let d := { d with com := { delta := d.com.delta, history := d.com.history } }
  (d.setFld CFG_STAT_PHASE 0).setFlag CFG_STAT_MIXED false

/-- The tile enters SAFE with a cause: everything but the host interfaces, the console, the router, the fault log and the
proxy is off. A worker with coordinates first sends LEAVE (R580). -/
def Dev.enterSafe (d : Dev) (cause : Nat) : Dev :=
  if d.mode = modeSafe then d
  else
    let d := if d.isWorker && d.surf.known then (d.send msgLeave 0 [word cause]).issueOps else d
    let d := d.cancelNow 6
    let d := { d with scan := { d.scan with tone := none } }
    let d := (d.scanStop 0).lampsOff.railsOff.rxStop.txStop.portsOff.calSafe
    let d := (d.discardModes true).setFld PWR_STAT_SAFE_CAUSE cause
    let d := (d.setModes { d.modes with heldCmd := none, hibStep := 0, waking := false }).setMode modeSafe 5 d.time.frame
    let d := d.safeSet
    { d with pwr := { d.pwr with step := 8 } }.commitSafe

/-! Changes at a frame boundary (R163 to R184). -/

/-- The scan runs again in IDLE, ACTIVE or WATCH after a mode without it (R162, R229). -/
def Dev.resumeScan (d : Dev) : Dev := if d.hasSensor then d.scanStart 0 else d

/-- Leaving WATCH: the lamps return, the ports train again, and no touch is followed any longer (R174, R626, R770). -/
def Dev.leaveWatch (d : Dev) : Dev :=
  let d := d.setRpt { d.rpt with touches := [], lastTap := none, covered := [] }
  d.lampsFromWatch.portsWake

/-- Entry into WATCH (R164, R165): mutual scanning and tracking stop, the lamps go off or hold, the ports are idle. -/
def Dev.enterWatch (d : Dev) : Dev := (d.cancelNow 6).dropFrames.lampsWatch.railsWatch.portsWatch

/-- Step 1 of the entry into HIBERNATE (R184). -/
def Dev.beginHibernate (d : Dev) : Dev :=
  let d := (d.cancelNow 6).scanStop 0
  let d := d.setModes { d.modes with hibStep := 2, hibTick := d.ticks }
  d.rxStop.txStop

/-- A mode change takes effect at a frame boundary with its reason and apply frame (R162 to R184, R188). The rails return from
WATCH to the targets of IDLE and ACTIVE; SERVICE holds those of WATCH (R75, R724). -/
def Dev.changeMode (d : Dev) (new reason apply : Nat) : Dev :=
  let old := d.mode
  if new = old then d
  else
    let d := if old = modeService then d.leaveService else d
    let d := if old = modeWatch ∧ new ≠ modeHibernate then d.leaveWatch else d
    let d := if old = modeWatch ∧ (new = modeIdle ∨ new = modeActive) then d.railsResume else d
    let d := d.setModes { d.modes with wokenInWatch := false }
    let d := if old = modeWatch ∧ reason = 3 then d.startBurst else d
    let d := match new with
      | 0 => d.enterWatch
      | 3 => d.beginHibernate
      | 4 => (d.cancelNow 6).enterService (if reason = 6 then 3 else d.modes.entry)
      | _ => d
    let d := (d.setMode new reason apply).calService
    if scansIn new = true ∧ old ≠ modeService ∧ d.flag SCAN_STAT_RUN = false then d.resumeScan else d

/-! The restart of the cores (R112, R113, R118, R287, R327, R376, R641, R674, R886). -/

/-- The stacks and the store of the core group are emptied; what was delivered or stored is discarded and counted (R376). -/
def Dev.restartCores (d : Dev) : Dev :=
  let lost := d.evr.store.length + (d.evr.cores.map fun c => c.inbox.length).sum
  let d := { d with evr := { d.evr with store := [], corePrefer := [], cores := List.replicate 4 { restarting := true } } }
  d.bumpBy EVR_CORE_DISC lost

/-- Banks 4 to 7 lose the cores' working state. -/
def Dev.clearWorking (d : Dev) : Dev := { d with banks := d.banks.filter fun p => decide (p.1 < 65536 ∨ 131072 ≤ p.1) }

/-- The four cores restart: contacts will be cancelled with reason 8, baselines are lost, frame buffers handed to a core
are released, the console starts anew with the full command set closed, and a worker acknowledges a commit that it holds when
it has applied it (R90, R112, R114, R530). -/
def Dev.beginRestart (d : Dev) : Dev :=
  let told := d.trk.reported
  let banks := d.trk.queue.map fun f => f.n % 4
  let d := banks.foldl (fun d b => d.setOwner b 0) d
  let d := { d with pwr := { d.pwr with coreRestart := true } }
  let d := d.dropBaselines
  let d := d.setTrk { d.trk with
    queue := [], contacts := [], pending := [], heldSince := none, hop := none
    restartCancels := d.trk.restartCancels ++ told.map fun r => { r with kind := 3, reason := 8 } }
  let d := (d.bumpBy TRK_CNT_CANCELS told.length).setFlag TRK_STAT_GLOVE false
  let d := { d with
    surf := { d.surf with frame := none },
    com := { d.com with late := d.com.late || (d.isWorker && d.com.armed) } }
  let d := ((d.setFld TRK_STAT_LIVE 0).restartCores.clearWorking.abandonOps 0).calAbandon.gatherRestart.rxRestart
  let d := (d.setFld SVC_STAT_FAILS 0).setFlag SVC_STAT_LOCKOUT false
  let d := ((d.setFld SVC_STAT_ENTRY 0).setFlag SVC_STAT_SAFE_SET false).judgeGate
  { d with con := { states := d.con.states, amon := d.con.amon, waitJoin := d.con.waitJoin } }

/-- The lowest code among the causes recorded in this tick: causes that arise in one 32 kHz tick count as arising in one
cycle (R116; DESIGN CHOICE, log entry 20). -/
def Dev.sameCycle (d : Dev) : Option Nat :=
  match d.pwr.causeAt with
  | some (t, c) => if t = d.ticks then some c else none
  | none => none

/-- A reset cause is recorded: its sticky bit, and LAST when no lower code is in progress or arose in the same cycle (R114,
R116, R117). Every cause counts in RESETS, one that arises during a reset too (DESIGN CHOICE, log entry 21). -/
def Dev.recordReset (d : Dev) (code : Nat) : Dev :=
  let sticky := d.fld SYS_RSTCAUSE_STICKY ||| 2 ^ (code - 1)
  let lowest (o : Option Nat) (c : Nat) : Nat := (o.map (min · c)).getD c
  let first := lowest d.sameCycle code
  let last := lowest d.pwr.held first
  let d := { d with pwr := { d.pwr with causeAt := some (d.ticks, first) } }
  let d := (d.setFld SYS_RSTCAUSE_STICKY sticky).setFld SYS_RSTCAUSE_LAST last
  let d := if code = 8 then d.bump SYS_RSTCNT_WDTOTAL else d
  if code = 1 then d else d.bump SYS_RSTCNT_RESETS

/-- CORE_WATCHDOG: a core watchdog expires, in any mode and step in which the core domain runs; one during a core restart is
ignored (R112, R118). -/
def Dev.coreWatchdog (d : Dev) : Dev :=
  if d.pwr.coreRestart ∨ d.pwr.step < 4 ∨ d.pwr.held.isSome then d
  else
    let ticks := (d.ticks :: d.pwr.wdTicks).take 3
    let d := (d.recordReset 8).beginRestart
    let d := { d with pwr := { d.pwr with wdTicks := ticks } }
    d.setFld SYS_RSTCAUSE_WDRECENT (ticks.filter fun t => decide (d.ticks < t + 327680)).length

end Sys2Proof.Machine
end

