-- ==== Sys2Proof/Machine/Memory.lean ====
section
/-!
DEFINITION. Memory.lean: bank ownership, the two ports, check bits, the scrubber, the memory window, the column tracker and
field column repair (17_memory_banks.md).
-/

namespace Sys2Proof.Machine

def Dev.setMem (d : Dev) (m : Memory) : Dev := { d with mem := m }

/-- The bank is taken from every master by a running repair (R670, R671). -/
def Dev.taken (d : Dev) (bank : Nat) : Bool :=
  match d.mem.repair with
  | some p => p.1 == bank
  | none => false

/-! Errors (R656 to R658, R666, R669). -/

/-- MEM_CORRECTED, at most once per 100 ms (R675). -/
def Dev.noteCorrected (d : Dev) (bank w : Nat) : Dev :=
  let d := d.setMem { d.mem with corrected := d.mem.corrected + 1 }
  let due := match d.mem.correctedTick with
    | none => true
    | some t => decide (t + 3277 ≤ d.ticks)
  if due then
    let n := d.mem.corrected
    (d.setMem { d.mem with corrected := 0, correctedTick := some d.ticks }).ring 128 (pack [(bank, 14), (w, 0)]) (word n)
  else d

/-- The column tracker of a bank takes a corrected error in a column; MEM_COLUMN_SUSPECT is raised once for a column when
its count reaches 8 (R669). -/
def Dev.trackColumn (d : Dev) (bank col : Nat) : Dev :=
  let same := d.fld (MEM_COL_COUNT bank) ≠ 0 ∧ d.fld (MEM_COL_COLUMN bank) = col
  if same then
    let n := d.fld (MEM_COL_COUNT bank) + 1
    let d := d.bump (MEM_COL_COUNT bank)
    if n = 8 then (d.setFlag (MEM_COL_SUSPECT bank) true).ring 130 (pack [(bank, 10), (col, 0)]) (word n) else d
  else (d.setFld (MEM_COL_COLUMN bank) col).setFld (MEM_COL_COUNT bank) 1

/-- A single-bit error corrected on a read: counted, tracked and written back (R657). -/
def Dev.correct (d : Dev) (bank w b : Nat) : Dev :=
  ((d.bump (MEM_CE_CE bank)).trackColumn bank (30 * (w % 32) + b)).noteCorrected bank w

/-- How many records stand pending for both rings. -/
def Dev.pendingRecords (d : Dev) : Nat := d.evr.h0.pend.length + d.evr.h1.pend.length

/-- A pending record in an uncorrectable word is discarded and counted as a refusal (R371). Which record the word holds is
not stated: bank 9 has no layout, so the record is a free choice (log entry 2). -/
def Dev.discardPending (d : Dev) : Dev :=
  let n0 := d.evr.h0.pend.length
  let n := d.pendingRecords
  if n = 0 then d
  else
    let (k, d) := d.draw n
    let p : HostPort := if k < n0 then .h0 else .h1
    let i := if k < n0 then k else k - n0
    match (d.hostQ p).pend[i]? with
    | none => d
    | some r => (d.setHostQ p { d.hostQ p with pend := (d.hostQ p).pend.eraseIdx i }).refuseRecord p r.pri r.size

/-- The packet in an uncorrectable word of bank 10 is discarded, and its operation recovers by retry (R666). Which
packet of the ports' queues and of those taken the word holds, if one, is not stated: bank 10 has no layout (log entry
2). -/
def Dev.discardPacket (d : Dev) : Dev :=
  let lens := d.link.ports.map fun p => p.queue.length
  let (k, d) := d.draw (lens.sum + d.link.inbox.length + 1)
  if k < d.link.inbox.length then d.setLink { d.link with inbox := d.link.inbox.eraseIdx k }
  else
    let k := k - d.link.inbox.length
    let before := fun p => (lens.take p).sum
    (List.range 4).foldl (fun d p =>
      if before p ≤ k then d.setPort p { d.port p with queue := (d.port p).queue.eraseIdx (k - before p) } else d) d

/-- The telemetry record in the slot of a word of bank 14 is discarded (R666). -/
def Dev.discardTelemetry (d : Dev) (w : Nat) : Dev :=
  if d.cal.telemGone.contains (w / 128) then d else d.setCal { d.cal with telemGone := w / 128 :: d.cal.telemGone }

/-- The action code of MEM_UNCORR (R666, R675). -/
def uncorrAction (bank master : Nat) (scrub pending : Bool) : Nat :=
  if bank < 4 then (if scrub then 0 else 1)
  else if bank < 8 then 2
  else if bank < 10 then (if pending then 4 else 0)
  else if bank = 12 ∨ bank = 13 then 3
  else if scrub then 0
  else if bank = 10 ∨ bank = 14 then 4
  else if master = 6 then 5
  else 0

/-- A word of bank 9 holds one of the records that stand pending: whether it does is not stated, for want of a layout of the
bank (R340, R371; log entries 2 and 41). -/
def Dev.holdsPending (d : Dev) (bank w : Nat) : Bool × Dev :=
  if bank = 9 ∧ w < 12288 ∧ d.pendingRecords ≠ 0 then
    let (v, d) := d.draw 2
    (v == 1, d)
  else (false, d)

/-- What an action code of MEM_UNCORR does: 2 restarts the cores, 3 ends in SAFE, 4 discards what the word belongs to
(R666). -/
def Dev.uncorrActs (d : Dev) (bank w act : Nat) : Dev :=
  if act = 2 then d.coreWatchdog
  else if act = 3 then d.enterSafe 3
  else if act = 4 then
    if bank = 9 then d.discardPending else if bank = 10 then d.discardPacket else d.discardTelemetry w
  else d

/-- An uncorrectable word found: MEM_UEADDR, the count, MEM_UNCORR, and what R666 does for the bank. -/
def Dev.uncorrectable (d : Dev) (bank w master : Nat) : Dev :=
  let scrub := master == 9
  let (pending, d) := d.holdsPending bank w
  let d := d.setReg MEM_UEADDR (pack [(master, 18), (bank, 14), (w, 0)])
  let act := uncorrAction bank master scrub pending
  ((d.bump (MEM_CE_UE bank)).ring 129 (d.reg MEM_UEADDR) (word act)).uncorrActs bank w act

/-- Every read of a word meets its errors: one bit is corrected, more are uncorrectable, and the word stays so until it is
written (R656, R666). -/
def Dev.meetErrors (d : Dev) (bank w master : Nat) (flips : List (BitVec 5)) : Dev :=
  if d.mem.bad.contains (bankAddr bank w) then d.uncorrectable bank w master
  else match flips with
    | [] => d
    | [b] => d.correct bank w b.toNat
    | _ => (d.setMem { d.mem with bad := bankAddr bank w :: d.mem.bad }).uncorrectable bank w master

/-- The word a read returns: 0 when it is uncorrectable (R663). -/
def Dev.readWord (d : Dev) (bank w : Nat) : Word := if d.mem.bad.contains (bankAddr bank w) then 0 else d.bank bank w

/-- A write of new data, which makes the word good (R658). -/
def Dev.writeWord (d : Dev) (bank w : Nat) (v : Word) : Dev := d.setBank bank w v

/-- An access to a bank under repair waits for its end (R655, R671). -/
def Dev.waitRepair (d : Dev) (a : MemAccess) : Dev := d.setMem { d.mem with waiting := d.mem.waiting ++ [a] }

/-! The ports (R649 to R655, R665). -/

/-- The master that owns port A of a bank: the router holds banks 8 and 9 (R340, R649). -/
def Dev.ownsBank (d : Dev) (bank master : Nat) : Bool :=
  if bank = 8 ∨ bank = 9 then master == 10 else master != 0 && d.owner bank == master

def Dev.countWait (d : Dev) (master : Nat) (waited : Bool) : Dev :=
  if waited ∧ 1 ≤ master ∧ master ≤ 11 then d.bump (MEM_CONFL_WAITS master) else d

/-- PORT_A_ACCESS: the owner's access is performed, and any other master receives NOTOWNER (R649); during a repair of the
bank it waits (R671). -/
def Dev.portA (d : Dev) (bank w master : Nat) (wr : Option Word) (flips : List (BitVec 5)) (waited : Bool) : Dev :=
  if d.taken bank then (d.countWait master true).waitRepair ⟨false, bank, w, master, wr, flips, false⟩
  else if d.ownsBank bank master then
    let d := d.countWait master waited
    match wr with
    | some v => d.writeWord bank w v
    | none => d.meetErrors bank w master flips
  else d.bump MEM_DENY_NOTOWNER

/-- PORT_A_ACCESS (R649). -/
def execPortAAccess (bank : BitVec 4) (w : BitVec 14) (master : BitVec 4) (wr : Option Word) (flips : List (BitVec 5))
    (waited : Bool) (s : State) : Host.Outcome State Fault Refusal :=
  s.run fun d => d.portA bank.toNat w.toNat master.toNat wr flips waited

/-- PORT_B_ACCESS: a write that meets a port-A write of the same word is not performed and counts in COLLIDE; a memory
window write is no port-B access; during a repair of the bank the others wait (R653, R662, R665, R671). -/
def Dev.portB (d : Dev) (bank w master : Nat) (wr : Option Word) (flips : List (BitVec 5)) (waited collide : Bool) : Dev :=
  if d.taken bank && !(master == 8 && wr.isSome) then
    (d.countWait master true).waitRepair ⟨true, bank, w, master, wr, flips, collide⟩
  else
    let d := d.countWait master waited
    match wr with
    | some v =>
      if master = 8 then d.bump MEM_WINCNT_DENIED
      else if collide then (if 1 ≤ master ∧ master ≤ 11 then d.bump (MEM_CONFL_COLLIDE master) else d)
      else d.writeWord bank w v
    | none => d.meetErrors bank w master flips

/-- PORT_B_ACCESS (R653). -/
def execPortBAccess (bank : BitVec 4) (w : BitVec 14) (master : BitVec 4) (wr : Option Word) (flips : List (BitVec 5))
    (waited collide : Bool) (s : State) : Host.Outcome State Fault Refusal :=
  s.run fun d => d.portB bank.toNat w.toNat master.toNat wr flips waited collide

/-! Ownership (R650, R652). -/

/-- A write of MEM_OWN (R650): the present owner's code clears a pending handover; a host requester may write bank 15 only,
with 0, 6 or 8, and nobody banks 8 and 9 (R340, R652). -/
def Dev.writeOwner (d : Dev) (writer : Option Requester) (bank owner : Nat) : Dev :=
  let barred := writer.isSome && (bank != 15 || !(owner == 0 || owner == 6 || owner == 8))
  if barred then d.ignoreWrite
  else if bank = 8 ∨ bank = 9 then d
  else if owner = d.owner bank then (d.setFlag (MEM_OWN_PEND bank) false).setFld (MEM_OWN_NEXT bank) 0
  else (d.setFlag (MEM_OWN_PEND bank) true).setFld (MEM_OWN_NEXT bank) owner

/-- OWNER_WRITE (R650). -/
def execOwnerWrite (writer : Option Requester) (bank owner : BitVec 4) (s : State) : Host.Outcome State Fault Refusal :=
  s.run fun d => d.writeOwner writer bank.toNat owner.toNat

/-- HANDOVER: the pending owner takes the bank; during a repair of the bank it stays pending (R650, R671). -/
def Dev.handover (d : Dev) (bank : Nat) : Dev :=
  if d.flag (MEM_OWN_PEND bank) && !d.taken bank then
    let next := d.fld (MEM_OWN_NEXT bank)
    ((d.setFld (MEM_OWN_OWNER bank) next).setFlag (MEM_OWN_PEND bank) false).setFld (MEM_OWN_NEXT bank) 0
  else d

/-- HANDOVER (R650). -/
def execHandover (bank : BitVec 4) (s : State) : Host.Outcome State Fault Refusal := s.run fun d => d.handover bank.toNat

/-! The scrubber (R659, R660, R665). -/

/-- The scrubber moves to its next word: the banks in turn, then the next word; a pass ends after the last (R659). -/
def Dev.scrubNext (d : Dev) : Dev :=
  let bank := d.fld MEM_STAT_SCRUBBANK
  let w := d.fld MEM_SCRUBPOS_WORD
  let d := d.setFld MEM_STAT_SCRUBBANK (bank + 1)
  if bank < 15 then d
  else
    let d := d.setFld MEM_SCRUBPOS_WORD (w + 1)
    if w = 16383 then d.bump MEM_SCRUB_PASSES else d

/-- SCRUB: the next word is read through port B; a write-back that collides counts, and after 4 in a row the word waits for
the next pass (R659, R665). In HIBERNATE and before the self-test has ended the scrubber does not run. -/
def Dev.scrub (d : Dev) (flips : List (BitVec 5)) (collisions : Nat) : Dev :=
  let bank := d.fld MEM_STAT_SCRUBBANK
  let w := d.fld MEM_SCRUBPOS_WORD
  if d.mode = modeHibernate ∨ d.pwr.step < 5 ∨ d.taken bank then d
  else
    let single := flips.length = 1 ∧ d.mem.bad.contains (bankAddr bank w) = false
    let d := d.meetErrors bank w 9 flips
    let d := if single then
        let d := d.bumpBy (MEM_CONFL_COLLIDE 9) (min collisions 4)
        if 4 ≤ collisions then d.bump MEM_SCRUB_SKIP else d
      else d
    d.scrubNext

/-- SCRUB (R659). -/
def execScrub (flips : List (BitVec 5)) (collisions : BitVec 3) (s : State) : Host.Outcome State Fault Refusal :=
  s.run fun d => d.scrub flips collisions.toNat

/-- SCRUB_LATE (R660). -/
def execScrubLate (s : State) : Host.Outcome State Fault Refusal := s.run fun d => d.bump MEM_SCRUB_LATE

/-! The memory window (R661 to R663). -/

def Dev.winBank (d : Dev) (rq : Requester) : Nat := wGet (d.mem.winSel.getD (rqIndex rq) 15) 0 4

/-- A write of MEM_WIN_SEL: one select per requester (R661). -/
def Dev.writeWinSel (d : Dev) (rq : Requester) (v : Word) : Dev :=
  d.setMem { d.mem with winSel := d.mem.winSel.set (rqIndex rq) (v &&& 0xF#24) }

/-- MEMORY_WINDOW_READ: any bank can be read; under repair it reads 0 and is counted (R662, R663, R671). -/
def Dev.windowRead (d : Dev) (rq : Requester) (w : Nat) (flips : List (BitVec 5)) : Dev :=
  let bank := d.winBank rq
  if d.taken bank then d.bump MEM_WINCNT_DENIED else d.meetErrors bank w 8 flips

/-- The word that a window read returns. -/
def Dev.windowWord (d : Dev) (rq : Requester) (w : Nat) : Word :=
  if d.taken (d.winBank rq) then 0 else d.readWord (d.winBank rq) w

/-- A word whose place in its bank the spec leaves to the firmware or the router: the pending records and the core-group
store in bank 9, and the configuration with what is kept beside it in banks 12 and 13 (R327, R340, R523; log entry 41).
-/
def layoutOpen (bank w : Nat) : Bool := (bank == 9 && decide (w < 12288)) || bank == 12 || bank == 13

/-- A word that reads without error: the bank's, or a free value where the spec gives the bank's contents no layout. -/
def Dev.goodWord (d : Dev) (bank w : Nat) : Word × Dev :=
  if layoutOpen bank w then
    let (v, d) := d.draw 16777216
    (word v, d)
  else (d.bank bank w, d)

/-- What a window read answers (R663). -/
def Dev.windowAnswer (d : Dev) (rq : Requester) (w : Nat) : Word × Dev :=
  let bank := d.winBank rq
  if d.taken bank || d.mem.bad.contains (bankAddr bank w) then (d.windowWord rq w, d) else d.goodWord bank w

/-- MEMORY_WINDOW_READ (R663). -/
def execMemoryWindowRead (rq : Requester) (w : BitVec 14) (flips : List (BitVec 5)) (s : State) : Host.Outcome State Fault Refusal :=
  s.run fun d => d.windowRead rq w.toNat flips

/-- MEMORY_WINDOW_WRITE: performed only in a bank that the host owns (R662, R671). -/
def Dev.windowWrite (d : Dev) (rq : Requester) (w : Nat) (v : Word) : Dev :=
  let bank := d.winBank rq
  if d.taken bank = false ∧ d.owner bank = 8 then d.writeWord bank w v else d.bump MEM_WINCNT_DENIED

/-- MEMORY_WINDOW_WRITE (R662). -/
def execMemoryWindowWrite (rq : Requester) (w : BitVec 14) (value : Word) (s : State) : Host.Outcome State Fault Refusal :=
  s.run fun d => d.windowWrite rq w.toNat value

/-! Field column repair (R670 to R672). -/

/-- The next free spare entry of a bank: neither valid nor killed. -/
def Dev.freeSpare (d : Dev) (bank : Nat) : Option Nat :=
  if d.flag (MEM_SPARE_V0 bank) = false ∧ d.flag (MEM_SPARE_K0 bank) = false then some 0
  else if d.flag (MEM_SPARE_V1 bank) = false ∧ d.flag (MEM_SPARE_K1 bank) = false then some 1
  else none

/-- A mapped spare of the bank replaces the column. -/
def Dev.replacedColumn (d : Dev) (bank c : Nat) : Bool :=
  (d.flag (MEM_SPARE_V0 bank) && !d.flag (MEM_SPARE_K0 bank) && d.fld (MEM_SPARE_C0 bank) == c) ||
    (d.flag (MEM_SPARE_V1 bank) && !d.flag (MEM_SPARE_K1 bank) && d.fld (MEM_SPARE_C1 bank) == c)

/-- What step 1 of a repair answers: 0 to go on, else the result code. -/
def Dev.repairCheck (d : Dev) (bank c : Nat) : Nat :=
  if d.serviceOpen = false ∨ d.mem.repair.isSome then 2
  else if d.freeSpare bank = none then 3
  else if 959 < c ∨ d.replacedColumn bank c = true then 4
  else 0

/-- The console prints the result of a repair it started. -/
def Dev.repairAnswer (d : Dev) : Dev :=
  if d.mem.console then
    ((d.setMem { d.mem with console := false }).print (.values 0xE1 [d.reg MEM_REPSTAT])).statusLine .ok
  else d

/-- The accesses that waited for the bank are performed in the order in which they came (R671). -/
def Dev.performWaiting (d : Dev) : Dev :=
  let all := d.mem.waiting
  all.foldl (fun d a =>
    if a.portB then d.portB a.bank a.word a.master a.wr a.flips false a.collide
    else d.portA a.bank a.word a.master a.wr a.flips false) (d.setMem { d.mem with waiting := [] })

/-- A repair ends with a result: VTX and the bank return, the accesses that waited are performed, a resync follows for banks 8
and 9, and MEM_REPAIR is raised; one that fails at step 2, 5 or 7 does step 8 too (R670, R671; DEDUCED, log entry 51). -/
def Dev.repairEnd (d : Dev) (result poisoned : Nat) : Dev :=
  match d.mem.repair with
  | none => d
  | some (bank, _) =>
    let d := (d.setMem { d.mem with repair := none }).repairVtxOff
    let d := ((d.setFld MEM_REPSTAT_RESULT result).setFlag MEM_REPSTAT_BUSY false).setFlag MEM_STAT_REPAIRING false
    let d := if bank = 8 ∨ bank = 9 then d.askBurst else d
    let d := d.performWaiting
    (d.ring 132 (d.reg MEM_REPSTAT) (word poisoned)).repairAnswer

/-- Steps 1 and 2 of a repair: the checks, then VTX on its way to 9.0 V (R670). -/
def Dev.repairBegin (d : Dev) (bank c : Nat) (console : Bool) : Dev :=
  let r := d.repairCheck bank c
  if r ≠ 0 then
    if d.mem.repair.isSome then d.setFld MEM_REPSTAT_RESULT r
    else d.setReg MEM_REPSTAT (pack [(r, 20), (bank, 15), (c % 1024, 0)])
  else
    let sp := (d.freeSpare bank).getD 0
    let d := d.setReg MEM_REPSTAT (pack [(1, 19), (bank, 15), (sp, 14), (c, 0)])
    ((d.setFlag MEM_STAT_REPAIRING true).setMem { d.mem with repair := some (bank, c), console := console }).repairVtxOn

/-- A write of MEM_REPCMD: without the key it is ignored and counted (R676). -/
def Dev.writeRepcmd (d : Dev) (v : Word) : Dev :=
  if wGet v 16 8 = 0x5A then d.repairBegin (wGet v 10 4) (wGet v 0 10) false else d.ignoreWrite

/-- REPAIR (R670). -/
def execRepair (_rq : Requester) (value : Word) (s : State) : Host.Outcome State Fault Refusal :=
  s.run fun d => d.writeRepcmd value

/-- The fuses of a spare entry and MEM_SPARE that shows them (R672). -/
def Dev.setSpare (d : Dev) (bank sp : Nat) (valid killed : Bool) (c : Nat) : Dev :=
  let w := wSet (wSet (wSet (d.reg (MEM_SPARE bank)) (12 * sp + 11) 1 (bit valid)) (12 * sp + 10) 1 (bit killed)) (12 * sp) 10 c
  let d := d.setReg (MEM_SPARE bank) w
  { d with fuses := { d.fuses with spares := d.fuses.spares.set bank w } }

/-- The copy bank of a repair: bank 15, or bank 14 when bank 15 is repaired (R670). -/
def copyBank (bank : Nat) : Nat := if bank = 15 then 14 else 15

/-- A word without a stated layout is copied: what it holds is free. -/
def Dev.copyOpen (d : Dev) (copy w : Nat) : Dev :=
  let (v, d) := d.draw 16777216
  d.setBank copy w (word v)

/-- Step 3 of a repair: the copy bank loses its contents and takes the bank's words, an uncorrectable one without valid check
bits; words without a stated layout are free there (R658, R670; log entries 2 and 41). -/
def Dev.copyOut (d : Dev) (bank : Nat) : Dev :=
  let copy := copyBank bank
  let d := { d with banks := (d.banks.filter fun p => p.1 / 16384 != copy) }
  let moved := (d.banks.filter fun p => p.1 / 16384 == bank).map fun p => (copy * 16384 + p.1 % 16384, p.2)
  let d := moved.foldl (fun d p => { d with banks := cellsSet bankDefault d.banks p.1 p.2 }) d
  let d := ((List.range 16384).filter (layoutOpen bank)).foldl (fun d w => d.copyOpen copy w) d
  let kept := d.mem.bad.filter fun a => a / 16384 != copy
  let copied := (kept.filter fun a => a / 16384 == bank).map fun a => copy * 16384 + a % 16384
  d.setMem { d.mem with bad := copied ++ kept }

/-- Steps 3 to 8 of a repair: the copy bank takes the bank's words, the entry is programmed and read back, the words are
written back, the uncorrectable ones poisoned, and the verify pass judges the column. What an entry whose read-back fails
shows beside its KILL fuse is not stated (log entry 2). -/
def Dev.repairRun (d : Dev) (fuseOk verifyOk : Bool) : Dev :=
  match d.mem.repair with
  | none => d
  | some (bank, c) =>
    let d := d.copyOut bank
    let poisoned := (d.mem.bad.filter fun a => a / 16384 == bank).length
    let sp := d.fld MEM_REPSTAT_SPARE
    if fuseOk then (d.setSpare bank sp true false c).repairEnd (if verifyOk then 1 else 6) poisoned
    else
      let (v, d) := d.draw 2
      let (shown, d) := d.draw 1024
      (d.setSpare bank sp (v == 1) true shown).repairEnd 6 0

/-- REPAIR_VTX_READY (R670). -/
def execRepairVtxReady (fuseOk verifyOk : Bool) (s : State) : Host.Outcome State Fault Refusal :=
  s.run fun d => d.repairRun fuseOk verifyOk

/-- REPAIR_VTX_TIMEOUT (R670). -/
def execRepairVtxTimeout (s : State) : Host.Outcome State Fault Refusal := s.run fun d => d.repairEnd 5 0

/-! Console commands. -/

/-- MEM_COL: the column tracker and the spares of a bank (R669). -/
def Dev.consoleMemCol (d : Dev) (n : Nat) : Dev :=
  if 15 < n then d.finishErr 5 else (d.print (.values 0xE0 [d.reg (MEM_COL n), d.reg (MEM_SPARE n)])).finishOk

/-- MEM_COL (R669). -/
def execMemCol (n : BitVec 8) (s : State) : Host.Outcome State Fault Refusal :=
  s.run fun d => d.command (.memCol n) fun d => d.consoleMemCol n.toNat

/-- MEM_REPAIR: starts a repair, whose result is printed at its end (R670). -/
def Dev.consoleRepair (d : Dev) (n c : Nat) : Dev :=
  if d.fullSet = false then d.finishErr 6
  else if 15 < n ∨ 959 < c then d.finishErr 5
  else if d.mem.repair.isSome then d.finishErr 8
  else
    let d := d.repairBegin n c true
    if d.mem.repair.isSome then d else (d.print (.values 0xE1 [d.reg MEM_REPSTAT])).finishOk

/-- MEM_REPAIR (R670). -/
def execMemRepair (n : BitVec 8) (c : BitVec 16) (s : State) : Host.Outcome State Fault Refusal :=
  s.run fun d => d.longCommand (.memRepair n c) fun d => d.consoleRepair n.toNat c.toNat

/-- The registers of the block that show other state: the requester's window select. -/
def Dev.memView (d : Dev) (rq : Requester) (a : Nat) : Option Word :=
  if a = MEM_WIN_SEL then some (d.mem.winSel.getD (rqIndex rq) 15) else none

end Sys2Proof.Machine
end

