-- ==== Sys2Proof/Machine/Check.lean ====
section
/-!
DEFINITION. Check.lean: the checks of configuration words, for an image (R138 to R142) and for a commit (R503 to R505):
each word against its field, then the configuration as a whole.
-/

namespace Sys2Proof.Machine

/-! One word against its field (R142). A word is answered with whether it was clamped; none is a rejection. -/

/-- A word held in a range: clamped by the clamp class, else rejected. -/
def judgeRange (lo hi : Nat) (clamp : Bool) (v : Nat) : Option (Nat × Bool) :=
  if v < lo then (if clamp then some (lo, true) else none)
  else if hi < v then (if clamp then some (hi, true) else none)
  else some (v, false)

/-- The ranges of the words of GEST_PARAMS (R174). -/
def gestRange (idx : Nat) : Nat × Nat :=
  match idx with
  | 0 => (100, 800)
  | 1 => (10, 200)
  | 2 => (300, 5000)
  | _ => (20, 100)

/-- A word with subfields: every bit outside the mask must be 0 (R142). -/
def insideMask (v mask : Nat) : Bool := v &&& mask == v

/-- A word of a field with a rule of its own, as far as the word alone can be judged. -/
def judgeOwn (f : FieldSpec) (idx v : Nat) : Option (Nat × Bool) :=
  let ok (b : Bool) : Option (Nat × Bool) := if b then some (v, false) else none
  if f.sect = secHost ∧ f.id = 0x01 then ok (decide (0x09 ≤ v) && decide (v ≤ 0x77) && v != 0x0C)
  else if f.sect = secModes ∧ f.id = 0x0F then judgeRange (gestRange idx).1 (gestRange idx).2 true v
  else if f.sect = secScan ∧ f.id = 0x01 then
    let role := v % 16
    ok (insideMask v 0xFF0F && decide (role ≤ 4) && (role == 1 || role == 2 || decide (v < 16)))
  else if f.sect = secEvents then
    if idx % 2 = 0 then ok ((decide (1 ≤ v) && decide (v ≤ 319)) || (decide (384 ≤ v) && decide (v ≤ 511)))
    else ok (insideMask v 0xFEFFF)
  else if f.sect = secLamps then ok (decide (v / 2 % 4 ≤ 2) && decide (v < 8))
  else if f.sect = secIr ∧ f.id = 0x05 then
    if idx % 3 = 0 then ok (insideMask v 0x1FF03 && v / 256 % 256 != 0) else some (v, false)
  else if f.sect = secIr ∧ f.id = 0x06 then
    if v < 131072 then
      let w := (clampCarrier (word v)).toNat
      some (w, w != v)
    else none
  else if f.sect = secIr ∧ f.id = 0x07 then ok (insideMask v 0xC0FFFF)
  else if f.sect = secHka ∧ f.id = 0x01 then
    ok (insideMask v 0xFFFFC0 && v / 128 % 4 != 3 && (decide (idx < 4) || v / 128 % 4 == 0))
  else if f.sect = secSurface ∧ f.id = 0x01 then
    let cols := v / 256
    let rows := v % 256
    ok (decide (1 ≤ cols) && decide (cols ≤ 32) && decide (1 ≤ rows) && decide (rows ≤ 32))
  else some (v, false)

/-- A word of a field (R142). -/
def judgeWord (f : FieldSpec) (idx : Nat) (w : Word) : Option (Word × Bool) :=
  let v := w.toNat
  let r := match f.kind with
    | .plain => judgeRange f.lo f.hi f.clamp v
    | .zeroOr => if v = 0 then some (v, false) else judgeRange f.lo f.hi f.clamp v
    | .own => judgeOwn f idx v
  r.map fun p => (word p.1, p.2)

/-- A word count that the field may have. -/
def FieldSpec.countOk (f : FieldSpec) (n : Nat) : Bool :=
  decide (f.minWords ≤ n) && decide (n ≤ f.maxWords) && n % f.stepWords == 0

/-! The configuration as a whole. The checks read a machine that holds the configuration to be judged. -/

/-- Every word of a field, as the configuration has them. -/
def Dev.fieldWords (d : Dev) (sect id : Nat) : List Nat := (List.range (d.parLen sect id)).map fun i => d.par sect id i

/-- ELROLE: the orders and channels each used once and contiguous from 0, and the sensor's limits, or no sensor (R230, and
the Limits section of chapter 7). -/
def Dev.rolesOk (d : Dev) : Bool :=
  let tx := (d.electrodes 1).map d.elIndex
  let rx := (d.electrodes 2).map d.elIndex
  let once (is : List Nat) : Bool := (List.range is.length).all fun i => is.contains i
  once tx && once rx && decide (rx.length ≤ 64) && tx.isEmpty == rx.isEmpty

/-- FREQ_EN enables a slot of each pair on a surface (R553). -/
def Dev.pairsOk (d : Dev) : Bool :=
  !d.onSurface || (List.range 4).all fun k => d.slotEnabled (2 * k) || d.slotEnabled (2 * k + 1)

/-- Wake regions are rectangles with x0 < x1 and y0 < y1 (R200). -/
def regionsOk : List Nat → Bool
  | x0 :: y0 :: x1 :: y1 :: rest => decide (x0 < x1) && decide (y0 < y1) && regionsOk rest
  | _ => true

/-- A USB string: at least one character, then padding (R932). -/
def usbStringOk (ws : List Word) : Bool :=
  let bs := (ws.flatMap wordBytes).map BitVec.toNat
  let chars := bs.takeWhile (· != 0)
  ws.isEmpty || (!chars.isEmpty && (chars.all fun b =>
    decide (0x20 ≤ b) && decide (b ≤ 0x7E)) && (bs.drop chars.length).all (· == 0))

/-- Two bands of n and m units overlap for a unit in µs and a tolerance in % (R793). -/
def bandsMeet (n m u tol : Nat) : Bool :=
  let lo := min n m
  let hi := max n m
  decide (hi * u * (100 - tol) ≤ lo * u * (100 + tol) + 400)

/-- One enabled infrared template (R793 to R796). -/
def irTplOk (t0 t1 t2 t3 : Nat) : Bool :=
  let w0 := word t0
  let w2 := word t2
  let w3 := word t3
  let kind := wGet w0 0 2
  let tol := wGet w0 10 6
  let a := wGet w3 0 4
  let b := wGet w3 4 4
  let bits := wGet w0 4 6
  let lmark := wGet w2 0 6
  let lspace := wGet w2 8 6
  let rspace := wGet w2 16 6
  kind == 0 ||
    (decide (8 ≤ bits ∧ bits ≤ 48) && decide (5 ≤ tol ∧ tol ≤ 40) && decide (20 ≤ wGet w0 16 8) &&
      decide (50 ≤ t1 ∧ t1 ≤ 2000) && insideMask t2 0x3F3F3F && insideMask t3 0x7FFF && a != 0 && b != 0 &&
      decide (wGet w3 8 6 < bits) && !bandsMeet a b t1 tol &&
      (lspace == 0 || rspace == 0 || !bandsMeet lspace rspace t1 tol) &&
      (kind != 3 || (lmark == 0 && lspace == 0 && rspace == 0)))

/-- Every template of IR_TPL. -/
def irTplsOk : List Nat → Bool
  | t0 :: t1 :: t2 :: t3 :: rest => irTplOk t0 t1 t2 t3 && irTplsOk rest
  | _ => true

/-- The (template, code) of each key map entry. -/
def irKeys : List Nat → List (Nat × Nat)
  | e0 :: e1 :: e2 :: rest => (e0 % 4, e1 * 16777216 + e2) :: irKeys rest
  | _ => []

/-- No two entries of a list are equal. -/
def allDistinct : List (Nat × Nat) → Bool
  | [] => true
  | k :: rest => !rest.contains k && allDistinct rest

/-- The bands of HKA_BANDS: the word of EN and CONSEC has no other bit set (R142), and a band with EN 1 keeps the rules of
the Limits section of chapter 22 (R855). -/
def Dev.bandsOk (d : Dev) : Bool :=
  (List.range 16).all fun c =>
    let lo := wInt (d.cfgWord secHka 0x02 (4 * c))
    let hi := wInt (d.cfgWord secHka 0x02 (4 * c + 1))
    let hys := d.par secHka 0x02 (4 * c + 2)
    let cfg := d.par secHka 0x02 (4 * c + 3)
    insideMask cfg 0x80001F && (cfg / 8388608 % 2 == 0 ||
      decide (1 ≤ cfg % 32 ∧ cfg % 32 ≤ 16) && decide (lo < hi) && decide (hys ≤ 65535) &&
        decide (2 * (hys : Int) < hi - lo))

/-- The surface extent: the largest origin plus tile extent over its tiles, per axis (R473). -/
def Dev.extent (d : Dev) : Nat × Nat :=
  (List.range (d.gridCols * d.gridRows)).foldl (fun m i =>
    let o := d.originOf (i % d.gridCols) (i / d.gridCols)
    (max m.1 (o.1 + d.extX), max m.2 (o.2 + d.extY))) (0, 0)

/-- ORIGIN has a pair for every tile of the grid, and origin plus extent stays in range (R585). -/
def Dev.originsOk (d : Dev) : Bool :=
  let n := d.parLen secSurface 0x02
  (n == 0 || n == 2 * d.gridCols * d.gridRows) && decide (d.extent.1 ≤ 0xFFFFFF) && decide (d.extent.2 ≤ 0xFFFFFF)

/-- A lamp that is absent belongs to no group (R785). -/
def Dev.groupMapOk (d : Dev) : Bool := (List.range 528).all fun n => d.lampPresent n || d.par secLamps 0x07 n == 0

/-- The smallest HID_SHIFT, from the image's own up, that R473 allows; none when 8 does not suffice. -/
def Dev.hidShift (d : Dev) : Option Nat :=
  ((List.range 9).filter fun k => decide (d.par secHost 0x13 ≤ k)).find? fun k =>
    decide (d.extent.1 / 2 ^ k ≤ 65535) && decide (d.extent.2 / 2 ^ k ≤ 65535)

/-- The rules that reject a configuration, each with the field it fails; `image` adds those that hold at image load
alone. -/
def Dev.relations (d : Dev) (image : Bool) : List (Nat × Nat × Bool) :=
  [(secModes, 0x0E, regionsOk (d.fieldWords secModes 0x0E)),
    (secScan, 0x01, d.rolesOk),
    (secScan, 0x03, d.pairsOk),
    (secIr, 0x04, irTplsOk (d.fieldWords secIr 0x04)),
    (secIr, 0x05, allDistinct (irKeys (d.fieldWords secIr 0x05))),
    (secHka, 0x02, d.bandsOk),
    (secSurface, 0x02, d.originsOk)] ++
  if image then
    [(secHost, 0x15, usbStringOk ((d.fieldWords secHost 0x15).map word)),
      (secHost, 0x16, usbStringOk ((d.fieldWords secHost 0x16).map word)),
      (secLamps, 0x07, d.groupMapOk),
      (secHost, 0x13, d.hidShift.isSome)]
  else []

/-- The first rule that fails: its section and field. -/
def Dev.relationFails (d : Dev) (image : Bool) : Option (Nat × Nat) :=
  ((d.relations image).find? fun r => !r.2.2).map fun r => (r.1, r.2.1)

/-! Relational clamps (R226, R293, R309, R473, R744). -/

/-- A word of the configuration replaced. -/
def Dev.setCfg (d : Dev) (p : Nat) (v : Nat) : Dev := { d with cfg := cellsSet paramDefault d.cfg p (word v) }

/-- A word forced to a value; its parameter id is noted when it changes. -/
def forceWord (acc : List Nat × Dev) (p v : Nat) : List Nat × Dev :=
  let old := cellsGet paramDefault acc.2.cfg p
  if old.toNat = v then acc else (acc.1 ++ [p], acc.2.setCfg p v)

/-- A word held in a range. -/
def holdWord (acc : List Nat × Dev) (p lo hi : Nat) : List Nat × Dev :=
  let v := (cellsGet paramDefault acc.2.cfg p).toNat
  forceWord acc p (max lo (min v hi))

/-- The minimum gap in µs: 1,000, or 3,000 + 53 × H on a surface of more than one tile (R226, R551). -/
def Dev.gapUs (d : Dev) : Nat := if d.onSurface then 3000 + 53 * (d.gridCols - 1 + (d.gridRows - 1)) else 1000

/-- A frame rate held at a limit. -/
def lowerRate (limit : Nat) (acc : List Nat × Dev) (sect id : Nat) : List Nat × Dev :=
  if limit < acc.2.par sect id then forceWord acc (pid sect id 0) limit else acc

/-- The schedule clamps of R226; none without a sensor (R230). -/
def rateClamps (acc : List Nat × Dev) : List Nat × Dev :=
  if acc.2.hasSensor = false then acc
  else
    let need := (acc.2.selfNeed + 47) / 48
    let own := acc.2.par secScan 0x08
    let acc := if own < need then forceWord acc (pid secScan 0x08 0) need else acc
    let limit := max 1 (acc.2.rateLimit acc.2.gapUs)
    lowerRate limit (lowerRate limit acc secScan 0x0A) secModes 0x04

/-- MOD of the tracking sources in SRC_CFG is clamped to 0 (R309, R379). -/
def modClamps (acc : List Nat × Dev) : List Nat × Dev :=
  (List.range (acc.2.parLen secEvents 0x01 / 2)).foldl (fun acc i =>
    let src := acc.2.par secEvents 0x01 (2 * i)
    let v := acc.2.cfgWord secEvents 0x01 (2 * i + 1)
    if reportSource src then forceWord acc (pid secEvents 0x01 (2 * i + 1)) (wSet v 4 8 0).toNat else acc) acc

/-- Every relational clamp: the parameter ids changed, and the machine with the configuration. -/
def Dev.relationClamps (d : Dev) (image : Bool) : List Nat × Dev :=
  let acc := holdWord ([], d) (pid secTrack 0x02 0) 3 (d.par secTrack 0x01 - 1)
  let acc := holdWord acc (pid secTrack 0x03 0) 2 (acc.2.par secTrack 0x02)
  let acc := holdWord acc (pid secRails 0x06 0) (acc.2.par secRails 0x05) 4800
  let acc := rateClamps acc
  if image then
    let acc := modClamps acc
    match acc.2.hidShift with
    | some k => forceWord acc (pid secHost 0x13 0) k
    | none => acc
  else acc

end Sys2Proof.Machine
end

