-- ==== Sys2Proof/Machine/Power.lean ====
section
/-!
DEFINITION. Power.lean: supplies, clocks, resets and the power-on part of start-up (04_power_clocks_reset.md, R48, R56 to
R61, and what each block's chapter says of a reset).
-/

namespace Sys2Proof.Machine

def Dev.setBoot (d : Dev) (b : Boot) : Dev := { d with boot := b }

/-! A page write cut short (R121, R157). -/

/-- The running proxy command writes to the EEPROM. -/
def Dev.nvpWrites (d : Dev) : Bool := d.boot.nvpOp == 2 || d.boot.nvpOp == 4

/-- The bytes that the running WRITE or INVALIDATE sends. -/
def Dev.nvpSends (d : Dev) : List Byte := if d.boot.nvpOp = 2 then d.boot.nvpData else List.replicate 32 0#8

/-- The bytes from an address that lie in its 256-byte page (R151). -/
def pageSplit (a n : Nat) : Nat := min n (256 - a % 256)

/-- The EEPROM has taken the page in progress. -/
def Dev.pageTaken (d : Dev) : Dev :=
  if d.twb.nvOp = 4 ∧ d.nvpWrites = true then
    let b := d.boot
    let bs := d.nvpSends.drop b.nvpDone
    let n := pageSplit (b.nvpAddr + b.nvpDone) bs.length
    let d := (d.nvmWrite (b.nvpAddr + b.nvpDone) (bs.take n)).setBoot { d.boot with nvpDone := b.nvpDone + n }
    d.nvmIdle
  else d.setTwb { d.twb with nvwpOwn := false }

/-- The EEPROM page that a page write in progress touches: a proxy page, or the log's head page, or the page that the next
log record opens. -/
def Dev.pageInWrite (d : Dev) : Option Nat :=
  if d.twb.nvOp = 4 ∧ d.nvpWrites = true then some ((d.boot.nvpAddr + d.boot.nvpDone) / 256)
  else if d.twb.nvOp = 5 then
    let head := d.fld CAL_LOGSTAT_HEAD
    let page := if d.fld CAL_LOGSTAT_SLOT < 10 then head
      else ((nextPage d.cal.pages d.cal.retired d.cal.pages head).map Prod.fst).getD head
    some (pageAddr page / 256)
  else none

/-- The page write in progress is cut short: its page is torn, and nothing is known of its 256 bytes (R121, R157; log
entry 2). -/
def Dev.nvmTorn (d : Dev) : Dev :=
  match d.pageInWrite with
  | none => d
  | some p => d.nvmGarble (256 * p) 256

/-! What a reset clears (R114). -/

/-- Everything at its reset value but what no reset touches: the EEPROM, the fuses, the balls' levels and the model's own
counters. SYS_SUPPLY keeps showing the supplies. -/
def Dev.blank (d : Dev) : Dev :=
  let p : Power := {
    vddGood := d.pwr.vddGood
    vddaGood := d.pwr.vddaGood
    resetLow := d.pwr.resetLow
    vddioReturning := d.pwr.vddioReturning
    vddioLost := d.pwr.vddioLost
    causeAt := d.pwr.causeAt
    strapReads := d.pwr.strapReads }
  let n := { Dev.reset with nvm := d.nvm, fuses := d.fuses, ticks := d.ticks, free := d.free, pwr := p }
  let n := { n with usb := { n.usb with vbus := d.usb.vbus } }
  n.setReg SYS_SUPPLY (d.reg SYS_SUPPLY &&& 0x000F#24)

/-- What every reset but a power-on reset keeps besides: the time value, the epoch, TIME_STEPCNT and an armed alarm (R413),
the record of resets and warnings and the watchdog history (R114), and LAMP_TRIP (R769). -/
def Dev.keptAcross (d n : Dev) : Dev :=
  let t : TimeBase := {
    sec := d.time.sec, frac := d.time.frac, interp := d.time.interp, epoch := d.time.epoch, alarmLate := d.time.alarmLate }
  let armed := d.flag TIME_ALM_CTRL_ARM
  let n := { n with time := if armed then t else { t with alarmLate := false } }
  let n := if armed then
      (((n.setReg TIME_ALM_FRAC (d.reg TIME_ALM_FRAC)).setReg TIME_ALM_SECL (d.reg TIME_ALM_SECL)).setReg TIME_ALM_SECH
        (d.reg TIME_ALM_SECH)).setFlag TIME_ALM_CTRL_ARM true
    else n
  let n := n.setReg TIME_STEPCNT (d.reg TIME_STEPCNT)
  let n := (n.setReg SYS_RSTCAUSE (d.reg SYS_RSTCAUSE)).setReg SYS_RSTCNT (d.reg SYS_RSTCNT)
  let n := n.setReg SYS_SUPPLY (d.reg SYS_SUPPLY &&& 0xFF001F#24)
  let n := n.setReg LAMP_TRIP (d.reg LAMP_TRIP)
  n.setPwr { n.pwr with wdTicks := d.pwr.wdTicks }

/-- A reset of a code holds from now on: 1 power-on to 7 manager link (R114). One during a reset in progress only records
its cause, save that a power-on condition clears what it clears (R117). -/
def Dev.enterReset (d : Dev) (code : Nat) : Dev :=
  if code = 1 then
    let n := d.nvmTorn.blank
    n.setPwr { n.pwr with held := some 1, step := 1, causeAt := some (d.ticks, 1) }
  else
    let r := d.recordReset code
    match d.pwr.held with
    | some c => r.setPwr { r.pwr with held := some (min c code) }
    | none =>
      let n := r.keptAcross r.nvmTorn.blank
      n.setPwr { n.pwr with held := some code, step := 1 }

/-! Straps (R56 to R61). -/

/-- ROLE from a read under pull-up and one under pull-down; none when the two make no level. -/
def decodeRole (up down : Bool) : Option Nat :=
  match up, down with
  | true, true => some 1
  | false, false => some 0
  | true, false => some 2
  | false, true => none

/-- ROLE, BOOTSRC and SVCEN of one attempt's reads, none where unstable (R57). The layout is that of R60. -/
def strapRole (r : Byte) : Option Nat :=
  let a := decodeRole (r.getLsbD 0) (r.getLsbD 1)
  if a = decodeRole (r.getLsbD 2) (r.getLsbD 3) then a else none
def strapBoot (r : Byte) : Option Bool := if r.getLsbD 4 = r.getLsbD 5 then some (r.getLsbD 4) else none
def strapSvc (r : Byte) : Option Bool := if r.getLsbD 6 = r.getLsbD 7 then some (!r.getLsbD 6) else none
def strapStable (r : Byte) : Bool := (strapRole r).isSome && (strapBoot r).isSome && (strapSvc r).isSome

/-- The attempts made, and the reads of the last one: at most 4, until all straps are stable. A board that gives fewer
reads repeats its last. -/
def strapAttempts (last : Byte) (n : Nat) : Nat → List Byte → Nat × Byte
  | 0, _ => (n, last)
  | k + 1, reads =>
    let r := reads.headD last
    if strapStable r then (n + 1, r) else strapAttempts r (n + 1) k reads.tail

/-- Strap sampling: SYS_STRAP, and STRAP_FALLBACK when a strap took its fallback value (R57 to R60). Every strap takes its
value, or its fallback, from the last attempt: a strap that was stable in an earlier one and is not in the fourth falls back
(DESIGN CHOICE, log entry 23: the spec does not say which attempt counts for it). -/
def Dev.sampleStraps (d : Dev) (reads : List Byte) : Dev :=
  let reads := if reads.isEmpty then d.pwr.strapReads else reads
  let (n, r) := strapAttempts (reads.headD 0xC5#8) 0 4 reads
  let role := strapRole r
  let boot := strapBoot r
  let svc := strapSvc r
  let w := pack [(bit svc.isNone, 9), (bit boot.isNone, 8), (bit role.isNone, 7), (n, 4), (bit (svc.getD false), 3),
    (bit (boot.getD false), 2), (role.getD 2, 0)]
  let d := (d.setPwr { d.pwr with strapReads := reads }).setReg SYS_STRAP w
  if strapStable r then d else d.ring 5 w (word r.toNat)

/-! Release and the steps up to VCORE good (R99, R127). -/

/-- The always-on domain is released: the cause stands in SYS_RSTCAUSE, the straps are sampled, and the core regulator
starts. A power-on reset records its own cause as cleared state shows it. -/
def Dev.release (d : Dev) (reads : List Byte) : Dev :=
  let d := d.setPwr { d.pwr with held := none, step := 2 }
  let d := d.sampleStraps reads
  (d.setPwr { d.pwr with step := 3 }).setFlag SYS_SUPPLY_VCORE_OK false

/-- A reset of codes 3 and 5 to 7 runs from step 2 at once, on the straps of the same board (R127). -/
def Dev.resetNow (d : Dev) (code : Nat) : Dev :=
  if d.pwr.held.isSome then d.enterReset code
  else (d.enterReset code).release []

/-- POWER_ON (R99): both supplies are above 2.8 V. -/
def execPowerOn (s : State) : Host.Outcome State Fault Refusal :=
  s.run fun d => (d.setPwr { d.pwr with vddGood := true, vddaGood := true }).setFlag SYS_SUPPLY_VDDA_OK true

/-- POWER_ON_RELEASE (R99, R109): a power-on or brown-out reset ends 16 RC ticks after both supplies are good; while RESET#
is low the reset goes on. -/
def execPowerOnRelease (straps : List Byte) (s : State) : Host.Outcome State Fault Refusal :=
  s.run fun d =>
    if d.pwr.held.isNone ∨ d.pwr.vddGood = false ∨ d.pwr.vddaGood = false then d
    else if d.pwr.resetLow then d.setPwr { d.pwr with held := some 4 }
    else d.release straps

/-- RESET_RELEASE (R48): RESET# returns high. The reset it holds ends, save where a supply still holds it. -/
def execResetRelease (straps : List Byte) (s : State) : Host.Outcome State Fault Refusal :=
  s.run fun d =>
    if d.pwr.resetLow then
      let d := d.setPwr { d.pwr with resetLow := false }
      match d.pwr.held with
      | none => d
      | some c => if c ≤ 2 then d else d.release straps
    else d

/-- ALWAYS_ON_LOSS (R101): VDD falls below 1.8 V; the next rise is a power-on reset. -/
def execAlwaysOnLoss (s : State) : Host.Outcome State Fault Refusal :=
  s.run fun d =>
    let d := d.enterReset 1
    d.setPwr { d.pwr with vddGood := false }

/-- VDD_BROWN_OUT (R109): the reset holds until VDD has recovered. -/
def execVddBrownOut (s : State) : Host.Outcome State Fault Refusal :=
  s.run fun d =>
    let d := d.enterReset 2
    d.setPwr { d.pwr with vddGood := false }

/-- VDDA_FALL (R99): power-on reset is held until VDDA returns (log entry 15). -/
def execVddaFall (s : State) : Host.Outcome State Fault Refusal :=
  s.run fun d =>
    let d := d.enterReset 1
    (d.setPwr { d.pwr with vddaGood := false }).setFlag SYS_SUPPLY_VDDA_OK false

/-- VCORE_BROWN_OUT (R103): a reset while the core domain is on; together with another cause it is recorded (R116). -/
def execVcoreBrownOut (s : State) : Host.Outcome State Fault Refusal :=
  s.run fun d =>
    if 4 ≤ d.pwr.step then d.resetNow 3
    else if d.sameCycle.isSome then d.recordReset 3
    else d

/-- RESET_PIN (R48). -/
def execResetPin (s : State) : Host.Outcome State Fault Refusal :=
  s.run fun d =>
    let d := d.enterReset 4
    d.setPwr { d.pwr with resetLow := true }

/-! VDD warning and VDDIO (R110, R124, R125). -/

/-- VDD_WARNING_SET (R110). -/
def execVddWarningSet (s : State) : Host.Outcome State Fault Refusal :=
  s.run fun d =>
    if d.flag SYS_SUPPLY_VDD_WARN then d
    else (((d.setFlag SYS_SUPPLY_VDD_WARN true).setFlag SYS_SUPPLY_WARN_SEEN true).bump SYS_SUPPLY_WARNS).ring 7 0 0

/-- VDD_WARNING_CLEAR (R110). -/
def execVddWarningClear (s : State) : Host.Outcome State Fault Refusal :=
  s.run fun d => if d.flag SYS_SUPPLY_VDD_WARN then (d.setFlag SYS_SUPPLY_VDD_WARN false).ring 7 1 0 else d

/-- VDDIO_LOSS (R124): the I/O outputs are released, and a two-wire or console transfer in progress is discarded on either
bus: the held words of a write phase, the alert response, the NVM transfer with the page it writes, the partial line, and
the line being sent. -/
def execVddioLoss (s : State) : Host.Outcome State Fault Refusal :=
  s.run fun d =>
    let d := d.nvmTorn.nvmIdle
    let d := (d.setFlag SYS_SUPPLY_VDDIO_OK false).setFlag SYS_SUPPLY_VDDIO_LOSS true
    let d := d.setPwr { d.pwr with vddioLost := true, vddioReturning := false }
    let d := { d with twb := { d.twb with held := [] } }
    let d := { d with con := { d.con with line := [], framed := false, tooLong := false, out := d.con.out.drop 1, sent := 0 } }
    d.ring 7 2 0

/-- VDDIO_RETURN (R124): the restore delay starts. -/
def execVddioReturn (s : State) : Host.Outcome State Fault Refusal :=
  s.run fun d =>
    if d.flag SYS_SUPPLY_VDDIO_OK then d
    else (d.setFlag SYS_SUPPLY_VDDIO_OK true).setPwr { d.pwr with vddioReturning := true }

/-- OUTPUTS_RESTORE (R124): 1 ms later the outputs are restored; the first rise of VDDIO is no return and raises nothing. -/
def execOutputsRestore (s : State) : Host.Outcome State Fault Refusal :=
  s.run fun d =>
    if d.pwr.vddioReturning then
      let lost := d.pwr.vddioLost
      let d := d.setPwr { d.pwr with vddioReturning := false, vddioLost := false }
      if lost then d.ring 7 3 0 else d
    else d

/-! Clocks (R104 to R108, R122, R123). -/

/-- The port towards the manager of a worker whose link has trained (R107). -/
def Dev.upstreamUp (d : Dev) : Bool :=
  d.isWorker && decide (d.fld EGL_STAT_UP < 4) && d.isUp (d.fld EGL_STAT_UP)

/-- The reference that the loop takes (R107). Start-of-frame tokens that stop coming while USB stays attached, as in suspend,
leave it with USB: the rule names attachment alone (DESIGN CHOICE, log entry 22). -/
def Dev.lockReference (d : Dev) : Nat :=
  if d.upstreamUp then 4
  else if d.pwr.sofRef && d.usb.vbus && !d.flag SYS_CLK_SRC32 then 3
  else if d.flag SYS_CLK_SRC32 then 2
  else 1

/-- LOCKREF follows the reference while the loop is locked. -/
def Dev.followReference (d : Dev) : Dev :=
  d.setFld SYS_CLK_LOCKREF (if d.flag SYS_CLK_LOCKED then d.lockReference else 0)

/-- CLOCK_EVENT (R125). -/
def Dev.clockEvent (d : Dev) (what : Nat) : Dev :=
  let d := d.followReference
  d.ring 8 (word what) (d.reg SYS_CLK)

/-- The crystal oscillator starts, unless it has failed since the last reset (R105, R122). -/
def Dev.startCrystal (d : Dev) : Dev :=
  if d.pwr.xtalFailed then d else d.setPwr { d.pwr with xtalOn := true, xtalFitted := true }

/-- The image that loads declares no crystal: the source returns to the RC oscillator without XTAL_FAIL (R146). -/
def Dev.stopCrystal (d : Dev) : Dev :=
  (d.setPwr { d.pwr with xtalOn := false, xtalFitted := false }).setFlag SYS_CLK_SRC32 false

/-- XTAL_QUALIFIED (R105): the source switches at a tick boundary; no tick is lost and the time takes no step. -/
def execXtalQualified (s : State) : Host.Outcome State Fault Refusal :=
  s.run fun d =>
    if d.pwr.xtalOn && !d.flag SYS_CLK_SRC32 then (d.setFlag SYS_CLK_SRC32 true).clockEvent 0 else d

/-- XTAL_QUALIFY_TIMEOUT (R106). -/
def execXtalQualifyTimeout (s : State) : Host.Outcome State Fault Refusal :=
  s.run fun d =>
    if d.pwr.xtalOn && !d.flag SYS_CLK_SRC32 then
      ((d.setPwr { d.pwr with xtalOn := false, xtalFailed := true }).setFlag SYS_CLK_XTAL_FAIL true).clockEvent 2
    else d

/-- XTAL_LOST (R122): the ticks lost are boundaries that do not come. -/
def execXtalLost (s : State) : Host.Outcome State Fault Refusal :=
  s.run fun d =>
    if d.flag SYS_CLK_SRC32 then
      let d := d.setPwr { d.pwr with xtalOn := false, xtalFailed := true }
      ((d.setFlag SYS_CLK_SRC32 false).setFlag SYS_CLK_XTAL_FAIL true).clockEvent 1
    else d

/-- A block requests the fast oscillator (R108): the cores and what runs with them in every mode but WATCH, and in WATCH USB
while it is attached and not suspended, the console's session, the infrared edge timer, and a transfer, conversion or
transmission under way. The
scan, the two-wire target and a single event request it in WATCH for their own duration, which FOSC_REQUEST begins. -/
def Dev.foscNeeded (d : Dev) : Bool :=
  decide (4 ≤ d.pwr.step) &&
    (d.mode != modeWatch || (d.fld USB_STAT_STATE != 0 && !d.flag USB_STAT_SUSP) || d.con.session || d.twb.nvOp != 0 ||
      d.boot.nvpOp != 0 || d.hka.convA.isSome || d.hka.convB.isSome || d.ir.tx.isSome || d.irTimed)

/-- FOSC_REQUEST (R108, R120): a running oscillator keeps running with its lock. -/
def execFoscRequest (s : State) : Host.Outcome State Fault Refusal :=
  s.run fun d => if d.flag SYS_CLK_FOSC_ON then d else d.foscStart

/-- The fast oscillator stops; the interpolation ends (R108, R382). What it has added in this tick stands until the next
boundary, since the time value never decreases (R383; DEDUCED, log entry 42). -/
def Dev.foscStop (d : Dev) : Dev :=
  let d := ((d.setFlag SYS_CLK_FOSC_ON false).setFlag SYS_CLK_LOCKED false).setFld SYS_CLK_LOCKREF 0
  { d with time := { d.time with fast := false } }.setFlag TIME_STAT_FASTINT false

/-- FOSC_STOP (R108, R120): the stop delay after the last request has passed; a request that stands has cancelled it. -/
def execFoscStop (s : State) : Host.Outcome State Fault Refusal := s.run fun d => if d.foscNeeded then d else d.foscStop

/-- FOSC_LOCK_TIMEOUT (R123): the third failure leaves the oscillator free-running, until it starts again (DESIGN CHOICE, log
entry 75). -/
def execFoscLockTimeout (s : State) : Host.Outcome State Fault Refusal :=
  s.run fun d =>
    if d.flag SYS_CLK_FOSC_ON = false ∨ d.flag SYS_CLK_LOCKED = true ∨ 3 ≤ d.pwr.lockFails then d
    else
      let n := d.pwr.lockFails + 1
      let d := d.setPwr { d.pwr with lockFails := n }
      if n = 3 then (d.setFlag SYS_CLK_LOCK_FAIL true).clockEvent 3 else d

/-! Software reset (R111). -/

/-- A write of SYS_CTRL: with key and SWRST it asks for a reset, which the two-wire target and the console take at once,
USB and the remote window when their answer has gone out; any other write is counted. -/
def Dev.writeSysCtrl (d : Dev) (rq : Requester) (v : Word) : Dev :=
  if wGet v 16 8 = 0xA5 ∧ wGet v 0 1 = 1 then
    match rq with
    | .twoWire => d.resetNow 6
    | .console => d.resetNow 6
    | .usb => d.setPwr { d.pwr with swReset := some .usb }
    | .remote => d.setPwr { d.pwr with swReset := some .remote }
  else d.ignoreWrite

/-- SOFTWARE_RESET (R111). -/
def execSoftwareReset (rq : Requester) (value : Word) (s : State) : Host.Outcome State Fault Refusal :=
  s.run fun d => d.writeSysCtrl rq value

/-- A deferred software reset takes effect. -/
def Dev.performReset (d : Dev) : Dev := if d.pwr.swReset.isSome then d.resetNow 6 else d

/-- SOFTWARE_RESET_PERFORM (R111). -/
def execSoftwareResetPerform (s : State) : Host.Outcome State Fault Refusal := s.run Dev.performReset

/-! The reset report (R125). -/

/-- SYS_RSTCAUSE as it reads: WDRECENT counts the watchdog resets of the last 10 s. -/
def Dev.causeWord (d : Dev) : Word :=
  wSet (d.reg SYS_RSTCAUSE) 13 3 (d.pwr.wdTicks.filter fun t => decide (d.ticks < t + 327680)).length

/-- RESET_REPORT, at the end of start-up or of a core restart. -/
def Dev.reportReset (d : Dev) : Dev := d.ring 6 d.causeWord (d.reg SYS_RSTCNT)

/-- The registers of the SYS block that show other state (R5, R107, R108). -/
def Dev.sysView (d : Dev) (a : Nat) : Option Word :=
  if a = SYS_RSTCAUSE then some d.causeWord
  else if a = SYS_CLK then some ((d.followReference.setFlag SYS_CLK_FOSC_ON true).reg SYS_CLK)
  else none

/-! Core restart (R112, R113). -/

/-- CORE_WATCHDOG (R112). -/
def execCoreWatchdog (s : State) : Host.Outcome State Fault Refusal := s.run Dev.coreWatchdog

end Sys2Proof.Machine
end

