-- ==== Sys2Proof/Machine/Image.lean ====
section
/-!
DEFINITION. Image.lean: the check of a Kervos image, byte for byte, and its application (R128, R132 to R146, R160).
-/

namespace Sys2Proof.Machine

/-! The header (R132, R133). -/

/-- The result code of a header's own checks, in their order; 0 when it is valid. -/
def headerCode (h : List Byte) : Nat :=
  let len := bytesNat ((h.drop 6).take 3)
  let seq := bytesNat ((h.drop 9).take 3)
  let flags := (h.getD 12 0).toNat
  let least := if flags % 2 = 1 then 132 else 36
  if h.take 6 ≠ [0x4B#8, 0x56#8, 0x49#8, 0x01#8, 0x06#8, 0x24#8] then 4
  else if (crc32 (h.take 28)).toNat ≠ bytesNat ((h.drop 28).take 4) then 5
  else if len < least ∨ 65536 < len ∨ seq = 0 ∨ 2 < (h.getD 13 0).toNat ∨ 4 ≤ flags ∨ ((h.drop 17).take 11).any (· != 0) then 6
  else 0

def headerLen (h : List Byte) : Nat := bytesNat ((h.drop 6).take 3)
def headerSeq (h : List Byte) : Nat := bytesNat ((h.drop 9).take 3)
def headerSigned (h : List Byte) : Bool := (h.getD 12 0).toNat % 2 == 1
def headerXtal (h : List Byte) : Bool := (h.getD 12 0).toNat / 2 % 2 == 1

/-! Sections and fields (R138 to R140). -/

/-- The entries of a section's value: field ID and words; none when the structure fails. -/
def parseEntries : Nat → List Byte → Option (List (Nat × List Word))
  | 0, bs => if bs.isEmpty then some [] else none
  | k + 1, bs =>
    match bs with
    | [] => some []
    | id :: n1 :: n0 :: rest =>
      let n := n1.toNat * 256 + n0.toNat
      if n = 0 ∨ 21845 < n ∨ rest.length < 3 * n then none
      else (parseEntries k (rest.drop (3 * n))).map fun es => (id.toNat, packBytes (rest.take (3 * n))) :: es
    | _ => none

/-- A section type that the manual defines. -/
def sectionKnown (type : Nat) : Bool := type == 1 || (decide (0x8002 ≤ type) && decide (type ≤ 0x8010))

/-- What the walk over the sections found: the sections with their entries and the skipped ones counted, or a result code
with the TYPE that failed. -/
inductive Walk where
  | ok (sections : List (Nat × List (Nat × List Word))) (skipped : Nat)
  | bad (code type : Nat)
  deriving DecidableEq, Repr

/-- The sections of an image in their order; the first failure ends the walk. A missing SYSTEM section is a failure of that
section. -/
def walkSections (seen : List Nat) (acc : List (Nat × List (Nat × List Word))) (skipped : Nat) : Nat → List Byte → Walk
  | 0, _ => .bad 11 0
  | k + 1, bs =>
    match bs with
    | [] => if seen.contains 0x8002 then .ok acc skipped else .bad 11 0x8002
    | t1 :: t0 :: l1 :: l0 :: rest =>
      let type := t1.toNat * 256 + t0.toNat
      let len := l1.toNat * 256 + l0.toNat
      if rest.length < len ∨ seen.contains type = true then .bad 11 type
      else if sectionKnown type then
        match parseEntries (len + 1) (rest.take len) with
        | none => .bad 11 type
        | some es =>
          if allDistinct (es.map fun e => (e.1, 0)) then
            walkSections (type :: seen) (acc ++ [(type, es)]) skipped k (rest.drop len)
          else .bad 11 type
      else if 0x8000 ≤ type then .bad 12 type
      else walkSections (type :: seen) acc (skipped + 1) k (rest.drop len)
    | _ => .bad 11 0

/-! Ranges (R142). -/

/-- A configuration under construction: a machine that holds the words so far, the words clamped, the fields skipped, and
the first rejection as TYPE and field ID. -/
structure Build where
  dev : Dev
  clamps : List Nat
  skipped : Nat
  reject : Option (Nat × Nat)
  deriving DecidableEq, Repr

/-- The words of a field entered from an index on. -/
def Build.words (b : Build) (type : Nat) (f : FieldSpec) (idx : Nat) : List Word → Build
  | [] => b
  | w :: rest =>
    match judgeWord f idx w with
    | none => { b with reject := some (type, f.id) }
    | some (v, clamped) =>
      let p := pid f.sect f.id idx
      Build.words { b with dev := b.dev.setCfg p v.toNat, clamps := if clamped then b.clamps ++ [p] else b.clamps } type f
        (idx + 1) rest

/-- One entry of a section, with its word count where that varies, or where a word count says that USB_PID is present
(R458); an unknown field is skipped (R139), and nothing of IDENTITY is applied. -/
def Build.entry (b : Build) (type : Nat) (e : Nat × List Word) : Build :=
  if b.reject.isSome || type == 1 then b
  else
    match fieldSpec (type % 32) e.1 with
    | none => { b with skipped := b.skipped + 1 }
    | some f =>
      if f.countOk e.2.length then
        let b := b.words type f 0 e.2
        if f.minWords = f.maxWords ∧ ¬(f.sect = secHost ∧ f.id = 0x11) then b
        else { b with dev := { b.dev with cfgLen := b.dev.cfgLen ++ [(f.sect * 256 + f.id, e.2.length)] } }
      else { b with reject := some (type, e.1) }

/-- Every section's fields, then the rules over the whole configuration. -/
def buildConfig (d : Dev) (sections : List (Nat × List (Nat × List Word))) (skipped : Nat) : Build :=
  let start : Build := ⟨{ d with cfg := [], cfgLen := [] }, [], skipped, none⟩
  let b := sections.foldl (fun b s => s.2.foldl (fun b e => b.entry s.1 e) b) start
  if b.reject.isSome then b
  else
    match b.dev.relationFails true with
    | some (sect, id) => { b with reject := some (0x8000 + sect, id) }
    | none =>
      let (ps, dev) := b.dev.relationClamps true
      { b with dev := dev, clamps := b.clamps ++ ps.filter fun p => !b.clamps.contains p }

/-! The whole check (R145). -/

/-- The outcome of an image's check: the result code, the TYPE and field ID of a rejection, and for an image that passed its
configuration. -/
structure Verdict where
  code : Nat
  type : Nat := 0
  id : Nat := 0
  cfg : Cells 24 := []
  cfgLen : List (Nat × Nat) := []
  clamps : List Nat := []
  skipped : Nat := 0
  deriving DecidableEq, Repr

/-- The signature policy (R136, R137): 0 when the image may go on. -/
def signatureCode (digest : Option (List Byte)) (h bytes : List Byte) : Nat :=
  if headerSigned h then
    let n := bytes.length - 96
    let key := (bytes.drop n).take 32
    let verified := edVerify key ((bytes.drop (n + 32)).take 64) (bytes.take n)
    match digest with
    | some g => if (sha512 key).take 16 ≠ g then 10 else if verified then 0 else 9
    | none => if verified then 0 else 9
  else if digest.isSome then 8
  else 0

/-- The check of an image of LENGTH bytes: header, image CRC, signature policy, structure, ranges (R145). -/
def Dev.checkImage (d : Dev) (bytes : List Byte) : Verdict :=
  let h := bytes.take 32
  let body := bytes.length - 4 - if headerSigned h then 96 else 0
  if headerCode h ≠ 0 then { code := headerCode h }
  else if headerLen h ≠ bytes.length ∨ (crc32 (bytes.take body)).toNat ≠ bytesNat ((bytes.drop body).take 4) then { code := 7 }
  else
    match signatureCode d.fuses.keyDigest h bytes with
    | 0 =>
      match walkSections [] [] 0 (bytes.length + 1) ((bytes.take body).drop 32) with
      | .bad code type => { code := code, type := type }
      | .ok ss skipped =>
        let b := buildConfig d ss skipped
        match b.reject with
        | some (type, id) => { code := 13, type := type, id := id }
        | none => { code := 1, cfg := b.dev.cfg, cfgLen := b.dev.cfgLen, clamps := b.clamps, skipped := b.skipped }
    | c => { code := c }

/-! Application (R128, R143, R146). -/

/-- IMAGE_CLAMP for the first 64 clamped words, and the counts (R143). -/
def Dev.noteClamps (d : Dev) (ps : List Nat) : Dev :=
  let d := (d.setFld SYS_IMGERR_CLAMPS (min ps.length 255)).setFlag SYS_BOOT_CLAMPED (!ps.isEmpty)
  (ps.take 64).foldl (fun d p => d.ring 10 (pack [(0x8000 + pidSect p, 8), (pidField p, 0)]) (word (pidIndex p))) d

/-- The registers that show the USB identity and the HID scaling (R473, R499). -/
def Dev.usbRegs (d : Dev) : Dev :=
  let k := d.par secHost 0x13
  let d := (d.setFld USB_VID_VID (d.par secHost 0x10)).setFld USB_PID_PID (d.par secHost 0x11)
  ((d.setFld USB_HID_SHIFT k).setFld USB_HIDX_LMAX (d.extent.1 / 2 ^ k)).setFld USB_HIDY_LMAX (d.extent.2 / 2 ^ k)

/-- Registers that the image gives their values: the wake enables, of which a storm's stay off (R195), the event
sources, the USB block, the infrared carrier and pattern (R201, R374, R379, R499, R819). -/
def Dev.imageRegs (d : Dev) : Dev :=
  let d := d.usbRegs
  let off := d.fld PWR_WAKECNT_STORMOFF
  let d := d.setFld PWR_WAKEEN_EN (d.par secModes 0x07 - (d.par secModes 0x07 &&& off))
  let d := (List.range (d.parLen secEvents 0x01 / 2)).foldl (fun d i =>
    d.writeSrcCfg (d.par secEvents 0x01 (2 * i)) (d.cfgWord secEvents 0x01 (2 * i + 1))) d
  d.irLoad

/-- A checked image is applied whole: its configuration, what it sets beside the registers, and the system calibration
that goes with it. Slot 1 A, 2 B, 3 the link image. -/
def Dev.applyImage (d : Dev) (slot : Nat) (bytes : List Byte) (v : Verdict) : Dev :=
  let d := { d with cfg := v.cfg, cfgLen := v.cfgLen, img := [] }
  let d := d.setBoot { d.boot with imaged := true, image := bytes, surfaceId := word (bytesNat ((bytes.drop 14).take 3)) }
  let d := ((d.setFld SYS_BOOT_LOADED slot).setFlag SYS_BOOT_SIGNED (headerSigned bytes)).setFld SYS_IMGSEQ_SEQ (headerSeq bytes)
  let d := (d.setFld SYS_IMGLEN_LENGTH bytes.length).setFld SYS_IMGERR_SKIPPED (min v.skipped 255)
  let d := d.noteClamps v.clamps
  let d := if headerXtal bytes then (if d.pwr.xtalOn then d else d.startCrystal) else d.stopCrystal
  (d.imageRegs.portsFromImage).loadSettings

end Sys2Proof.Machine
end

