-- ==== Sys2Proof/Machine/Boot.lean ====
section
/-!
DEFINITION. Boot.lean: the start-up sequence from step 3 on: fuses and self-test, slot choice, the image load from the own
NVM or over the link, calibration and the initial mode (R127 to R149, R158, R667, R668, R937).
-/

namespace Sys2Proof.Machine

/-! Banner and end of start-up (R89, R125). -/

/-- The banner line and the prompt; in SAFE the cause stands between them (R89). -/
def Dev.sendBanner (d : Dev) : Dev :=
  let d := d.print (.banner (d.flag SYS_REV_GRADE) (d.fld EGL_TILE_X) (d.fld EGL_TILE_Y) d.role d.mode)
  let d := if d.mode = modeSafe then d.print (.safeCause (d.fld PWR_STAT_SAFE_CAUSE)) else d
  d.print (.prompt d.fullSet)

/-- The router starts at step 5 with what was raised before it ran (R374). -/
def Dev.routerStart (d : Dev) (step : Nat) : Dev :=
  let waiting := d.evr.deferred
  let d := { (d.setPwr { d.pwr with step := step }) with evr := { d.evr with deferred := [] } }
  waiting.foldl (fun d e => d.acceptAt (e.epoch, e.sec, e.frac) e.src e.w1 e.w2 none none) d

/-- Start-up ends in SAFE (R158, R166). A wake from HIBERNATE is no reset and reports none. -/
def Dev.bootSafe (d : Dev) (cause : Nat) : Dev :=
  let woke := d.modes.waking
  let d := if d.pwr.step < 5 then d.routerStart 5 else d
  let d := d.enterSafe cause
  let d := d.setModes { d.modes with waking := false }
  (if woke then d else d.reportReset).sendBanner

/-! Step 3 to step 4. -/

/-- VCORE is good at step 3: the fast oscillator starts, the ports are enabled, and a tile that never loads over the link
shows that it ignores BOOTSRC high (R127, R149, R640). -/
def Dev.beginStep4 (d : Dev) : Dev :=
  let d := (d.setFlag SYS_SUPPLY_VCORE_OK true).foscStart.portsEnable
  let d := d.setFlag SYS_BOOT_BOOTSRC_IGN (!d.isWorker && d.flag SYS_STRAP_BOOTSRC)
  d.setPwr { d.pwr with step := 4 }

/-- The tile reads the headers of its own NVM in step 4 (R144, R149). -/
def Dev.readsOwn (d : Dev) : Bool := !d.isWorker || !d.flag SYS_STRAP_BOOTSRC

/-- The fuses load: the grade, the fused key, the trimmed RC oscillator and the column map (R5, R136, R673, R937). -/
def Dev.loadFuses (d : Dev) : Dev :=
  let d := (d.setFlag SYS_FUSE_FUSE_OK d.fuses.ok).setFlag SYS_FUSE_KEY_FUSED d.fuses.keyDigest.isSome
  let d := (d.setFlag SYS_BOOT_KEYFUSED d.fuses.keyDigest.isSome).setFlag SYS_REV_GRADE d.fuses.grade
  let d := d.setFld CAL_RC_LEGS d.fuses.rcLegs.toNat
  (List.range 16).foldl (fun d n => d.setReg (MEM_SPARE n) (d.fuses.spares.getD n 0)) d

/-! The slots (R144 to R146). -/

abbrev slotBaseA : Nat := 0
abbrev slotBaseB : Nat := 0x10000

def slotField (slot : Nat) : Fld := if slot = 1 then SYS_BOOT_A_RESULT else SYS_BOOT_B_RESULT
def Dev.slotHeader (d : Dev) (slot : Nat) : Option (List Byte) := if slot = 1 then d.boot.hdrA else d.boot.hdrB

/-- The slot tried first: B only when its number is ahead of A's (R144); 0 when no header is valid. -/
def Dev.firstSlot (d : Dev) : Nat :=
  match d.boot.hdrA, d.boot.hdrB with
  | some a, some b =>
    let ahead := (headerSeq b + 16777216 - headerSeq a) % 16777216
    if 1 ≤ ahead ∧ ahead ≤ 0x7FFFFF then 2 else 1
  | some _, none => 1
  | none, some _ => 2
  | none, none => 0

/-- The tile needs the link image (R147). -/
def Dev.needLink (d : Dev) : Dev := d.setBoot { d.boot with trying := 0, linkWait := true, linkBuf := [], linkLen := 0 }

/-- IMAGE_REPORT at the end of step 5, then SAFE for want of a valid image (R158, R160). The image step has ended: no
image sets a field, so every register of reset value *image* shows its default from here on (R18; DESIGN CHOICE, log
entry 17). -/
def Dev.noImage (d : Dev) : Dev :=
  let d := (d.setBoot { d.boot with trying := 0, linkWait := false, imaged := true }).imageRegs
  (d.ring 9 (d.reg SYS_BOOT) (d.reg SYS_IMGSEQ)).bootSafe 1

/-- The own NVM has no valid image: a worker turns to the link (R147, R158). -/
def Dev.noOwn (d : Dev) : Dev := if d.isWorker then (d.setFlag SYS_BOOT_LINKFALL true).needLink else d.noImage

/-- Step 5 begins: the router runs, and the image is sought (R127, R144, R147, R546). -/
def Dev.beginStep5 (d : Dev) : Dev :=
  let d := d.routerStart 5
  let first := d.firstSlot
  if d.isWorker && (d.flag SYS_STRAP_BOOTSRC || d.surf.linkBoot) then
    (d.setSurf { d.surf with linkBoot := false }).needLink
  else
    if first = 0 then d.noOwn else d.setBoot { d.boot with trying := first }

/-- Step 4 ends when fuse load, self-test and every header read have ended (R937). -/
def Dev.tryStep5 (d : Dev) : Dev :=
  if d.pwr.step = 4 ∧ d.boot.tested = true ∧ (d.readsOwn = false ∨ (d.boot.readA = true ∧ d.boot.readB = true)) then
    d.beginStep5
  else d

/-- SELF_TEST_END (R667, R668, R937): fuses that fail lead to SAFE at once; the march test leaves every word 0, and bank 12
or 13 with uncorrectable words leads to SAFE. -/
def Dev.selfTestEnd (d : Dev) (columns : BitVec 16) (bad : List (BitVec 18)) : Dev :=
  if d.pwr.step = 4 ∧ d.boot.tested = false then
    let d := d.loadFuses
    if d.fuses.ok = false then d.bootSafe 2
    else
      let words := bad.map BitVec.toNat
      let failed := ((List.range 16).filter fun n => words.any fun a => a / 16384 == n).foldl (fun acc n => acc + 2 ^ n) 0
      let d := { d with banks := [], mem := { d.mem with bad := words } }
      let d := (d.setFld MEM_BIST_FAILED failed).setFld MEM_BIST2_COLFAULT columns.toNat
      let d := if failed = 0 ∧ columns = 0 then d else d.ring 131 (d.reg MEM_BIST) (d.reg MEM_BIST2)
      if failed.testBit 12 || failed.testBit 13 then d.bootSafe 3
      else (d.setBoot { d.boot with tested := true }).tryStep5
  else d

/-- SELF_TEST_END (R667). -/
def execSelfTestEnd (columns : BitVec 16) (bad : List (BitVec 18)) (s : State) : Host.Outcome State Fault Refusal :=
  s.run fun d => d.selfTestEnd columns bad

/-- A header read has ended with a result, or with a valid header; after the second the slot tried first is chosen and
its crystal starts (R105, R144, R146). -/
def Dev.headerRead (d : Dev) (slotB : Bool) (code : Nat) (h : List Byte) : Dev :=
  let d := d.nvmIdle
  let d := if code = 0 then d else d.setFld (slotField (if slotB then 2 else 1)) code
  let hdr := if code = 0 then some h else none
  let d := if slotB then d.setBoot { d.boot with
    readB := true,
    hdrB := hdr } else d.setBoot { d.boot with readA := true, hdrA := hdr }
  if d.boot.readA && d.boot.readB then
    let first := d.firstSlot
    let d := d.setBoot { d.boot with first := first }
    let d := if (d.slotHeader first).any headerXtal && first != 0 then d.startCrystal else d
    d.tryStep5
  else d

/-- A header of this slot is still to be read. -/
def Dev.headerDue (d : Dev) (slotB : Bool) : Bool :=
  d.pwr.step == 4 && d.readsOwn && !(if slotB then d.boot.readB else d.boot.readA)

/-- The end of a header read: without the EEPROM's acknowledge the slot has result 2, else the header is checked (R133,
R144). -/
def Dev.headerReadEnd (d : Dev) (slotB acked : Bool) : Dev :=
  if d.headerDue slotB then
    let h := d.nvmRead (if slotB then slotBaseB else slotBaseA) 32
    d.headerRead slotB (if acked then headerCode h else 2) h
  else d

/-- HEADER_READ_END (R144). -/
def execHeaderReadEnd (slotB acked : Bool) (s : State) : Host.Outcome State Fault Refusal :=
  s.run fun d => d.headerReadEnd slotB acked

/-- HEADER_READ_TIMEOUT (R144). -/
def execHeaderReadTimeout (slotB : Bool) (s : State) : Host.Outcome State Fault Refusal :=
  s.run fun d => if d.headerDue slotB then d.headerRead slotB 3 [] else d

/-- An image that failed with result 12 or 13: IMAGE_REJECT, and the field ID of the first rejected field (R160, R161).
Where: 1 slot A, 2 slot B, 3 link. -/
def Dev.noteReject (d : Dev) (wher : Nat) (v : Verdict) : Dev :=
  if v.code = 12 ∨ v.code = 13 then
    let d := if v.code = 13 ∧ d.boot.rejectType = 0 then
        (d.setFld SYS_IMGERR_REJECT_ID v.id).setBoot { d.boot with rejectType := v.type }
      else d
    d.ring 15 (pack [(v.type, 8), (if v.code = 13 then v.id else 0, 0)]) (pack [(wher, 0), (v.code, 4)])
  else d

/-- The slot being tried has failed: the other one is tried if its header is valid, else the own NVM has no image (R145,
R158). -/
def Dev.slotFailed (d : Dev) (v : Verdict) : Dev :=
  let slot := d.boot.trying
  let d := (d.nvmIdle.setFld (slotField slot) v.code).noteReject slot v
  let other := 3 - slot
  if (d.slotHeader other).isSome ∧ d.fld (slotField other) = 0 then d.setBoot { d.boot with trying := other } else d.noOwn

/-! The attach of USB (R458). -/

/-- STATE codes (R499). -/
abbrev usbPowered : Nat := 1
abbrev usbDefault : Nat := 2
abbrev usbAddress : Nat := 3
abbrev usbConfigured : Nat := 4

def Dev.usbState (d : Dev) : Nat := d.fld USB_STAT_STATE

/-- The applied image carries USB_VID and USB_PID (R458). -/
def Dev.usbIdentity (d : Dev) : Bool := d.par secHost 0x10 != 0 && d.parLen secHost 0x11 != 0

/-- Every condition for the pull-up holds (R458). -/
def Dev.usbReady (d : Dev) : Bool :=
  !d.isWorker && d.usbIdentity && d.usb.vbus && d.flag SYS_CLK_LOCKED && !d.flag USB_CTRL_DETACH && decide (6 ≤ d.pwr.step)

/-- USB_STAT as it reads: VBUS is the ball's level, and a qualified crystal shows as SOFLOCK. -/
def Dev.usbStat (d : Dev) : Word :=
  wSet (wSet (d.reg USB_STAT) 5 1 (bit d.usb.vbus)) 6 1 (bit (d.flag USB_STAT_SOFLOCK || d.flag SYS_CLK_SRC32))

/-- USB_STATE (R497). -/
def Dev.usbEvent (d : Dev) (what : Nat) : Dev :=
  let d := if what ≤ 1 then d.logEvent 192 (word what) d.usbStat else d
  d.ring 192 (word what) d.usbStat

/-- The pull-up connects once every condition holds. STATE is 0 while it is disconnected, though VBUS be valid (R459; DESIGN
CHOICE, log entry 44). -/
def Dev.usbTry (d : Dev) : Dev :=
  if d.usbReady ∧ d.usbState = 0 then (d.setFld USB_STAT_STATE usbPowered).usbEvent 1 else d

/-- Step 5 ends with the image applied, step 6 begins, and USB may attach (R458, R542, R741, R782). -/
def Dev.endStep5 (d : Dev) : Dev :=
  let d := if d.isManager then
      ((d.setSurf { d.surf with known := true }).setFlag EGL_TILE_JOINED true).sendEnums
    else d
  let d := d.ring 9 (d.reg SYS_BOOT) (d.reg SYS_IMGSEQ)
  let d := d.setBoot { d.boot with trying := 0, linkWait := false, linkBuf := [] }
  let d := d.railsStart
  ((d.setPwr { d.pwr with step := 6 }).fullRun 0).usbTry

/-- A slot with a valid header that was not needed shows result 14 (R160). -/
def Dev.spareSlot (d : Dev) (slot : Nat) : Dev :=
  if (d.slotHeader slot).isSome ∧ d.fld (slotField slot) = 0 then d.setFld (slotField slot) 14 else d

/-- The image of the slot being tried has passed (R145, R158). -/
def Dev.slotLoaded (d : Dev) (bytes : List Byte) (v : Verdict) : Dev :=
  let slot := d.boot.trying
  let d := (d.nvmIdle.setFld (slotField slot) 1).spareSlot (3 - slot)
  let d := d.setFlag SYS_BOOT_FALLBACK (slot != d.boot.first)
  (d.applyImage slot bytes v).endStep5

/-- SLOT_READ_END: the slot's image is compared with the header of step 4 and checked in order (R145). -/
def Dev.slotReadEnd (d : Dev) : Dev :=
  let slot := d.boot.trying
  match d.slotHeader slot with
  | none => d
  | some h =>
    if d.pwr.step = 5 ∧ (slot = 1 ∨ slot = 2) then
      let bytes := d.nvmRead (if slot = 1 then slotBaseA else slotBaseB) (headerLen h)
      if bytes.take 32 ≠ h then d.slotFailed { code := 7 }
      else
        let v := d.checkImage bytes
        if v.code = 1 then d.slotLoaded bytes v else d.slotFailed v
    else d

/-- SLOT_READ_END (R145). -/
def execSlotReadEnd (s : State) : Host.Outcome State Fault Refusal := s.run Dev.slotReadEnd

/-- A slot read or check that ends with a result of its own: 2 no response, 3 time-out. -/
def Dev.slotEnds (d : Dev) (code : Nat) : Dev :=
  if d.pwr.step = 5 ∧ (d.boot.trying = 1 ∨ d.boot.trying = 2) then d.slotFailed { code := code } else d

/-- SLOT_CHECK_TIMEOUT (R145). -/
def execSlotCheckTimeout (s : State) : Host.Outcome State Fault Refusal := s.run fun d => d.slotEnds 3

/-! The image over the link: the worker's side (R147, R148, R580). -/

/-- LINK_IMAGE_REQUEST: the worker asks the manager once a port has trained and it has coordinates to be answered at
(R147). -/
def Dev.linkImageRequest (d : Dev) : Dev :=
  if d.boot.linkWait ∧ d.surf.known ∧ d.fld EGL_STAT_PORTSUP ≠ 0 then (d.send msgImgReq 0 []).issueOps else d

/-- LINK_IMAGE_REQUEST (R147). -/
def execLinkImageRequest (s : State) : Host.Outcome State Fault Refusal := s.run Dev.linkImageRequest

/-- The link image's result goes to SYS_BOOT and to the manager (R148). -/
def Dev.linkResult (d : Dev) (code : Nat) : Dev :=
  ((d.setFld SYS_BOOT_LINK_RESULT code).send msgImgResult 0 [word code]).issueOps

/-- A link image that failed: the tile ends in SAFE (R158, R580). -/
def Dev.linkFailed (d : Dev) (v : Verdict) : Dev := ((d.linkResult v.code).noteReject 3 v).noImage

/-- LINK_IMAGE_TIMEOUT (R147). -/
def execLinkImageTimeout (s : State) : Host.Outcome State Fault Refusal :=
  s.run fun d => if d.boot.linkWait then d.linkFailed { code := 15 } else d

/-- The whole link image has arrived and is checked (R148); a valid slot that the link made needless has result 14. -/
def Dev.linkCheck (d : Dev) : Dev :=
  let bytes := d.boot.linkBuf.take d.boot.linkLen
  let v := d.checkImage bytes
  if v.code = 1 then
    ((((d.spareSlot 1).spareSlot 2).linkResult 1).applyImage 3 bytes v).endStep5
  else d.linkFailed v

/-- IMG_DATA: a byte offset and words of image, in offset order (R547); a piece out of order is discarded. The header tells
how many bytes come. -/
def Dev.imgData (d : Dev) (words : List Word) : Dev :=
  if d.boot.linkWait ∧ (words.getD 0 0).toNat = d.boot.linkBuf.length then
    let buf := d.boot.linkBuf ++ (words.drop 1).flatMap wordBytes
    let d := d.setBoot { d.boot with linkBuf := buf }
    if buf.length < 32 then d
    else if headerCode (buf.take 32) ≠ 0 then d.linkFailed { code := headerCode (buf.take 32) }
    else
      let len := headerLen buf
      let d := d.setBoot { d.boot with linkLen := len }
      if buf.length < len then d else d.linkCheck
  else d

/-- IMG_DATA (R547). -/
def execImgData (_src : BitVec 10) (words : List Word) (s : State) : Host.Outcome State Fault Refusal :=
  s.run fun d => d.imgData words

/-! Steps 6 and 7 (R129, R230, R240, R864). -/

/-- WAKE_REPORT (R185, R199). -/
def Dev.wakeReport (d : Dev) : Dev :=
  let slept := (d.ticks - d.modes.asleepTick) / 65536
  d.ring 13 (d.reg PWR_WAKESRC) (pack [(d.fld PWR_HIBDROP_DROPPED, 13), (min slept 8191, 0)])

/-- The mode that a wake from HIBERNATE leads to (R183); a worker follows the manager from IDLE. -/
def Dev.wakeMode (d : Dev) (sources : Nat) : Nat :=
  let t := d.par secModes 0x12
  if d.isWorker then modeIdle
  else if t = 1 then modeIdle
  else if t = 2 then modeActive
  else if sources.testBit 3 then modeActive
  else modeIdle

/-- The mode that start-up or a wake ends in: after a reset SERVICE by the strap, IDLE on a worker, else INITIAL_MODE (R91,
R129); after a wake that of R183. -/
def Dev.firstMode (d : Dev) : Nat :=
  if d.modes.waking then d.wakeMode (d.fld PWR_WAKESRC_SEEN)
  else if d.flag SYS_STRAP_SVCEN && !d.isWorker then modeService
  else if d.isWorker then modeIdle
  else d.par secSystem 0x01

/-- The first mode is entered. A worker's frames begin with the frame of its WELCOME (R544). -/
def Dev.initialMode (d : Dev) : Dev :=
  let mode := d.firstMode
  let d := if mode = modeService then d.enterService 1 else if mode = modeWatch then d.enterWatch else d
  let d := (d.setMode mode (if d.modes.waking then 3 else 0) d.time.frame).calService
  if d.hasSensor = false then d.ring 20 (pack [(3, 4)]) (word d.time.frame)
  else if scansIn mode = true ∧ d.isWorker = false then d.scanStart 0
  else d

/-- Step 7, and the end of a wake: the first mode, the report, the banner, and a worker's JOIN (R89, R91, R125, R180, R544,
R782). -/
def Dev.enterStep7 (d : Dev) : Dev :=
  let woke := d.modes.waking
  let d := d.setPwr { d.pwr with step := 8 }
  let d := d.setModes { d.modes with lastContact := d.ticks }
  let d := if woke then d else d.lampsStartup
  let d := if d.isWorker && d.flag SYS_STRAP_SVCEN && !woke then { d with con := { d.con with waitJoin := true } } else d
  let d := d.initialMode
  let d := (d.setModes { d.modes with waking := false, wakeOk := false, hibStep := 0 }).startBurst
  let d := (if woke then d.wakeReport else d.reportReset).irRecorded
  d.sendBanner.sendJoin

/-- The measurements of a full run are judged, and the run ends; an item without a measurement keeps its choice (R864,
R866). -/
def Dev.endFullRun (d : Dev) (items : List (List (BitVec 16) × Bool)) : Dev :=
  let d := d.takeItems items
  let d := d.setItems []
  let d := d.setCal { d.cal with refLeft := false, rcLeft := false }
  d.runEnd

end Sys2Proof.Machine
end

