-- ==== Sys2Proof/Machine/Wake.lean ====
section
/-!
DEFINITION. Wake.lean: HIBERNATE and the wakes from it and from WATCH, HOSTWAKE, the automatic transitions, and a worker's
mode command (06_operating_modes.md).
-/

namespace Sys2Proof.Machine

/-! VCORE off (R184 steps 3 to 7). -/

/-- Registers that outlive VCORE off: SYS, PWR and TIME, LAMP_TRIP, the coordinates, and with bank 12 what a wake with a
valid retention finds again: the configuration epoch, USB's state, and the trims with the channels they chose (R179, R180,
R482, R537, R769, R886). -/
def keptAsleep (a : Nat) : Bool :=
  decide (a < 0x0300) || a == LAMP_TRIP || a == EGL_TILE || a == CFG_EPOCH || a == MEM_SCRUBPOS ||
    (decide (MEM_SPARE 0 ≤ a) && decide (a ≤ MEM_SPARE 15)) || (decide (0x1100 ≤ a) && decide (a ≤ 0x110F)) ||
    a == SCAN_SPARE || (decide (SCAN_ELFAULT 0 ≤ a) && decide (a ≤ SCAN_CHMAP 63)) ||
    (decide (0x0D00 ≤ a) && decide (a ≤ 0x0D12)) || (decide (CAL_LEGS 0 ≤ a) && decide (a ≤ CAL_LEGS 159))

/-- The records still in a host ring, those pending counted with it (R185, R377). -/
def Dev.ringLeft (d : Dev) (p : HostPort) : Nat := d.occupancy p + (d.hostQ p).pendCount

/-- The manager's table keeps a tile, no longer joined, so that its next JOIN is a rejoin (R583). -/
def Tile.unjoined (t : Tile) : Tile := if t.state = 3 then { t with state := 1 } else t

/-- Only the always-on domain runs from here on; bank 12 keeps the configuration until a wake has judged it. -/
def Dev.vcoreOff (d : Dev) : Dev :=
  let n : Dev := { Dev.reset with
    regs := d.regs.filter fun p => keptAsleep p.1
    nvm := d.nvm
    cfg := d.cfg
    cfgLen := d.cfgLen
    img := d.img
    fuses := d.fuses
    pwr := { d.pwr with step := 0 }
    boot := d.boot
    modes := d.modes
    time := { d.time with fast := false }
    usb := d.usb
    ticks := d.ticks
    free := d.free }
  let n := { n with
    evr := { n.evr with cfg := d.evr.cfg }
    com := { n.com with delta := d.com.delta }
    trk := { n.trk with
      slots := d.trk.slots.filter fun b => b.slot == d.trk.slot && !b.acq, slot := d.trk.slot,
      span := d.trk.span, self := d.trk.self, selfAcq := d.trk.selfAcq }
    surf := { n.surf with known := d.surf.known, tiles := d.surf.tiles.map Tile.unjoined }
    hka := { n.hka with t0 := d.hka.t0, t1 := d.hka.t1 }
    cal := { n.cal with
      t0 := d.cal.t0, t1 := d.cal.t1, chans := d.cal.chans, reported := d.cal.reported, replaced := d.cal.replaced,
        lost := d.cal.lost } }
  let n := (n.setFlag SYS_SUPPLY_VCORE_OK false).foscStop
  if n.isWorker then n.setFlag EGL_TILE_JOINED false else n

/-- A page write in progress completes before VCORE goes off, and a proxy command ends with it (R184 step 3; the proxy's
page and end are a DESIGN CHOICE, log entry 24). -/
def Dev.nvmComplete (d : Dev) : Dev :=
  let d := if d.twb.nvOp = 5 then (d.logWrite []).nvmIdle else if d.twb.nvOp = 4 then d.pageTaken else d
  if d.boot.nvpOp = 0 then d
  else (d.setReg SYS_NVP_STAT 0).setBoot { d.boot with nvpOp := 0, nvpData := [], nvpDone := 0 }

/-- A worker has not acknowledged a mode command and its retries have ended: recorded in the fault log as missed (R172). -/
def Dev.modeMissed (d : Dev) (xy : Nat) : Dev :=
  if d.modes.acksDue.contains xy then
    let d := d.setModes { d.modes with acksDue := d.modes.acksDue.filter (· != xy) }
    d.logEvent 12 (modeW1 (d.fld PWR_STAT_TARGET) d.mode 6) (word xy)
  else d

/-- The manager waits for the acknowledgements of its workers, at most for the link's four attempts of 2 ms (R172, R616). -/
def Dev.acksAwaited (d : Dev) : Bool :=
  d.isManager && !d.modes.acksDue.isEmpty && decide (d.ticks < d.modes.hibTick + 263)

/-- HIB_DRAIN_END: step 2 of the entry has ended, once every worker has acknowledged or its retries have ended, and those
that have not are recorded as missed (R172); steps 3 to 7 follow. -/
def Dev.hibDrainEnd (d : Dev) : Dev :=
  if d.mode ≠ modeHibernate ∨ d.modes.hibStep ≠ 2 ∨ d.acksAwaited = true then d
  else
    let d := (d.modes.acksDue.foldl Dev.modeMissed d).nvmComplete.setFlag PWR_HOST_HWPIN false
    let left := d.ringLeft .h0 + d.ringLeft .h1
    let d := d.setFld PWR_HIBDROP_DROPPED (min left 1024)
    let d := d.logHibernate
    let d := d.calAbandon.vcoreOff
    d.setModes { d.modes with
      hibStep := 7, asleepTick := d.ticks, retained := d.par secModes 0x09 == 1, irEdges := [], hostwake := false
      service := none, host := none, wake := none, auto := none, orphan := none, manager := none, heldCmd := none }

/-- HIB_DRAIN_END (R184). -/
def execHibDrainEnd (s : State) : Host.Outcome State Fault Refusal := s.run Dev.hibDrainEnd

/-! Wakes (R176 to R183, R189, R191, R194, R195). -/

/-- The lowest bit number of a set of sources. -/
def lowestBit (n : Nat) : Nat := ((List.range 7).find? fun i => n.testBit i).getD 0

/-- A source has woken the tile: counted for its storm, which disables it (R195). -/
def Dev.noteStorm (d : Dev) (bitNo : Nat) : Dev :=
  let recent := ((bitNo, d.ticks) :: d.modes.wakes).filter fun w => decide (d.ticks < w.2 + 327680)
  let n := (recent.filter fun w => w.1 == bitNo).length
  let d := d.setModes { d.modes with wakes := recent }
  if d.par secModes 0x11 < n then
    let d := d.setFld PWR_WAKEEN_EN (d.fld PWR_WAKEEN_EN - if (d.fld PWR_WAKEEN_EN).testBit bitNo then 2 ^ bitNo else 0)
    let d := d.setFld PWR_WAKECNT_STORMOFF (d.fld PWR_WAKECNT_STORMOFF ||| 2 ^ bitNo)
    d.ring 14 (word bitNo) (word n)
  else d

/-- PWR_WAKESRC takes the sources, the wake counts, and each source is judged for a storm (R191, R201). -/
def Dev.noteWake (d : Dev) (sources gesture : Nat) (hib : Bool) : Dev :=
  let d := d.setReg PWR_WAKESRC (pack [(gesture, 16), (sources, 8), (lowestBit sources, 4), (bit hib, 0)])
  let d := d.bump PWR_WAKECNT_WAKES
  (List.range 7).foldl (fun d i => if sources.testBit i then d.noteStorm i else d) d

/-- A wake without a valid retention has nothing but what the always-on domain holds (R181, R198, R483). -/
def Dev.loseRetention (d : Dev) : Dev :=
  let d := { d with
    cfg := []
    cfgLen := []
    img := []
    boot := {}
    evr := { d.evr with cfg := [] }
    com := {}
    trk := {}
    usb := { vbus := d.usb.vbus }
    cal := { lost := d.cal.lost }
    regs := d.regs.filter fun p => decide (p.1 < 0x0300) || p.1 == LAMP_TRIP || p.1 == EGL_TILE || p.1 == MEM_SCRUBPOS }
  let d := (((d.setReg SYS_BOOT 0).setReg SYS_IMGSEQ 0).setReg SYS_IMGLEN 0).setReg SYS_IMGERR 0
  d.setFlag PWR_STAT_HOLD false

/-- A wake from HIBERNATE begins: MODE reads 7, the core regulator starts, and the burst goes out on every port (R176, R179,
R180, R194). -/
def Dev.wakeHib (d : Dev) (sources : Nat) (retentionOk : Bool) : Dev :=
  let d := d.noteWake sources 0 true
  let valid := d.modes.retained && retentionOk
  let d := d.wakeBurst
  let d := (d.setFlag PWR_STAT_RETAINED valid).setFlag PWR_STAT_RET_FAIL (d.modes.retained && !retentionOk)
  let d := if valid then d else d.loseRetention
  let d := d.setModes { d.modes with waking := true, wakeOk := valid, hibStep := 0, retained := false }
  (d.setFld PWR_STAT_MODE modeStart).setPwr { d.pwr with step := 3 }

/-- A wake during step 2 of the entry: the entry stops and nothing is lost (R189). An entry from WATCH left that mode's rails,
lamps and ports standing, and the wake leaves WATCH. -/
def Dev.wakeEntry (d : Dev) (sources : Nat) : Dev :=
  let d := d.noteWake sources 0 true
  let d := if d.fld PWR_STAT_PREV = modeWatch then d.leaveWatch.railsResume else d
  let d := ((d.setFlag PWR_STAT_RETAINED true).setFlag PWR_STAT_RET_FAIL false).setFld PWR_HIBDROP_DROPPED 0
  let d := d.setModes { d.modes with waking := true, asleepTick := d.ticks }
  d.wakeBurst.enterStep7

/-- The tile wakes in WATCH: the burst goes out on each port of PORT_EN, and the ports train (R176, R626). -/
def Dev.wakeSurface (d : Dev) : Dev :=
  if d.modes.wokenInWatch then d
  else
    (d.setModes { d.modes with wokenInWatch := true }).wakeBurst.portsWake

/-- A wake from WATCH by a gesture or touch: ACTIVE at the next frame boundary, by the manager's command on a surface (R170,
R183). -/
def Dev.watchWakes (d : Dev) : Dev :=
  let d := d.wakeSurface
  if d.isWorker then d
  else if d.modeHeld then d.holdMode modeActive 3
  else (d.askMode modeActive 3).issueOps

/-- The sources whose detectors work: those on I/O balls need VDDIO (R42), and WAKE0 takes the edge of WAKE0_EDGE, 0 falling,
1 rising, 2 both (R177). -/
def Dev.wakeable (d : Dev) (rising : Bool) : Nat :=
  let edge := d.par secModes 0x08
  let io := if d.flag SYS_SUPPLY_VDDIO_OK then 0x4A else 0
  let wake0 := if edge = 2 ∨ (edge = 1) = (rising = true) then 1 else 0
  0x34 + io + wake0

/-- WAKE (R177): from HIBERNATE by an enabled source; from WATCH by a gesture or touch unless HOLD holds the tile there
(R169), while any other enabled source is noted and the tile stays in WATCH (R183). -/
def Dev.wake (d : Dev) (sources detail : Nat) (retentionOk : Bool) : Dev :=
  let on := sources &&& d.fld PWR_WAKEEN_EN
  if d.mode = modeHibernate then
    let on := on &&& d.wakeable (detail.testBit 0)
    if on = 0 then d
    else if d.modes.hibStep = 7 then d.wakeHib on retentionOk
    else if d.modes.hibStep = 2 then d.wakeEntry on
    else d
  else if d.mode = modeWatch then
    if detail ≠ 0 then (if d.flag PWR_STAT_HOLD && !d.isWorker then d else (d.noteWake on detail false).watchWakes)
    else if on = 0 then d
    else d.noteWake on 0 false
  else d

/-- WAKE (R177). -/
def execWake (sources : BitVec 7) (detail : BitVec 4) (retentionOk : Bool) (s : State) : Host.Outcome State Fault Refusal :=
  s.run fun d => d.wake sources.toNat detail.toNat retentionOk

/-! Tick boundaries, which may wake the tile (R177, R403). -/

/-- A tick boundary; in HIBERNATE an alarm that fires at it is wake source 2. Whether the retained bank passes its check
is then free (R194, R403; log entry 2). -/
def Dev.boundary (d : Dev) : Dev :=
  let e := d.tickBoundary
  if e.mode = modeHibernate ∧ d.flag TIME_ALM_CTRL_ARM = true ∧ e.flag TIME_ALM_CTRL_ARM = false then
    let (v, e) := e.draw 2
    e.wake 4 0 (v == 1)
  else e

/-- TIME_LOAD_APPLY (R388): the boundary at which the load applies. -/
def execTimeLoadApply (s : State) : Host.Outcome State Fault Refusal :=
  s.run fun d => if d.time.load.isSome then d.boundary else d

/-- TIME_SLEW_APPLY (R392): the boundary at which the slew takes effect. -/
def execTimeSlewApply (s : State) : Host.Outcome State Fault Refusal :=
  s.run fun d => if d.time.slewNext.isSome then d.boundary else d

/-- SLEW_ADJUST (R391): the boundary at which the count reaches SLEW_DIV. -/
def execSlewAdjust (s : State) : Host.Outcome State Fault Refusal :=
  s.run fun d => if d.adjustDue then d.boundary else d

/-- WORKER_TIME_STEP (R395): the boundary at which a worker steps to the beacon time. -/
def execWorkerTimeStep (s : State) : Host.Outcome State Fault Refusal :=
  s.run fun d => if d.time.stepNext.isSome then d.boundary else d

/-- TIME_ALARM (R403): the boundary at which the counted time reaches the armed alarm. -/
def execTimeAlarm (s : State) : Host.Outcome State Fault Refusal :=
  s.run fun d =>
    let after := d.boundary
    if d.flag TIME_ALM_CTRL_ARM && !after.flag TIME_ALM_CTRL_ARM then after else d

/-- A wake with a valid retention completes: the configuration and the trims stand, and the blocks start (R180, R626, R741,
R853). -/
def Dev.wakeComplete (d : Dev) : Dev :=
  let d := (d.setFlag SYS_SUPPLY_VCORE_OK true).foscStart
  let d := d.setSurf { d.surf with joinDue := d.isWorker }
  let d := d.setCal { d.cal with woke := true, lastRec := d.ticks }
  let d := (d.portsEnable.portsFromImage).irLoad.loadSettings
  let d := (d.routerStart 7).railsStart
  d.enterStep7

/-- VCORE is good: start-up goes on to step 4, or the wake completes (R127, R180, R181). -/
def Dev.vcoreGood (d : Dev) : Dev :=
  if d.pwr.step ≠ 3 then d
  else if d.modes.waking && d.modes.wakeOk then d.wakeComplete
  else d.beginStep4

/-- VCORE_GOOD (R127). -/
def execVcoreGood (s : State) : Host.Outcome State Fault Refusal := s.run Dev.vcoreGood

/-- WAKE_VCORE_TIMEOUT (R196). -/
def execWakeVcoreTimeout (s : State) : Host.Outcome State Fault Refusal :=
  s.run fun d => if d.modes.waking ∧ d.pwr.step = 3 then d.resetNow 3 else d

/-- A detector sees a wake burst: HIBERNATE ends by source 5; in WATCH the tile answers with its own burst, and a manager
brings the surface to ACTIVE, unless HOLD holds it in WATCH (R169, R176, R626). -/
def Dev.wakePacket (d : Dev) (port : Nat) (valid retentionOk : Bool) : Dev :=
  let d := d.setFlag (EGL_PSTAT_SIG port) true
  let d := if valid then (d.injectFault (2 * port + 1) true).2 else d
  if d.mode = modeHibernate then d.wake 32 0 retentionOk
  else if d.mode = modeWatch ∧ valid = true ∧ d.modes.wokenInWatch = false then
    let d := if (d.fld PWR_WAKEEN_EN).testBit 5 then d.noteWake 32 0 false else d
    if d.flag PWR_STAT_HOLD && !d.isWorker then d.wakeSurface else d.watchWakes
  else d

/-- WAKE_PACKET (R626). -/
def execWakePacket (port : BitVec 2) (valid retentionOk : Bool) (s : State) : Host.Outcome State Fault Refusal :=
  s.run fun d => d.wakePacket port.toNat valid retentionOk

/-- A write of PWR_WAKEEN enables the sources it names and clears their storms (R195). -/
def Dev.writeWakeEn (d : Dev) (v : Word) : Dev :=
  let off := d.fld PWR_WAKECNT_STORMOFF
  (d.setFld PWR_WAKEEN_EN v.toNat).setFld PWR_WAKECNT_STORMOFF (off - (off &&& v.toNat))

/-- WAKE_SOURCE_ENABLE (R195). -/
def execWakeSourceEnable (value : Word) (s : State) : Host.Outcome State Fault Refusal := s.run fun d => d.writeWakeEn value

/-! HOSTWAKE (R186, R187). -/

/-- HOSTWAKE falls. -/
def Dev.hostWakeLow (d : Dev) : Dev := (d.setModes { d.modes with hostwake := false }).setFlag PWR_HOST_HWPIN false

/-- HW_PULSE = 0: level mode. -/
def Dev.levelMode (d : Dev) : Bool := d.par secModes 0x0A == 0

/-- HOSTWAKE_PULSE_END (R187). -/
def execHostwakePulseEnd (s : State) : Host.Outcome State Fault Refusal :=
  s.run fun d => if d.modes.hostwake && !d.levelMode then d.hostWakeLow else d

/-- HOSTWAKE_LEVEL_TIMEOUT (R187). -/
def execHostwakeLevelTimeout (s : State) : Host.Outcome State Fault Refusal :=
  s.run fun d => if d.modes.hostwake && d.levelMode then d.hostWakeLow.bump PWR_HOST_HWTO else d

/-- The host's acknowledge acts in level mode. -/
def Dev.hostAck (d : Dev) : Dev := if d.modes.hostwake && d.levelMode then d.hostWakeLow else d

/-- A write of PWR_HOST: ASLEEP is stored and ACK acts (R186, R187). -/
def Dev.writePwrHost (d : Dev) (v : Word) : Dev :=
  let d := d.storeReg PWR_HOST v
  if wGet v 1 1 = 1 then d.hostAck else d

/-- HOSTWAKE_ACK (R187). -/
def execHostwakeAck (s : State) : Host.Outcome State Fault Refusal := s.run Dev.hostAck

/-! Automatic transitions (R169, R173, R192, R528). -/

/-- No contact is held anywhere on the surface. -/
def Dev.noContact (d : Dev) : Bool := d.fld TRK_STAT_LIVE == 0 && d.surf.contacts.isEmpty && d.trk.contacts.isEmpty

/-- Automatic transitions are made by a manager or standalone tile, not under HOLD and not during a commit. -/
def Dev.autoAllowed (d : Dev) : Bool :=
  !d.isWorker && !d.flag PWR_STAT_HOLD && d.fld CFG_STAT_PHASE == 0 && d.modes.heldCmd.isNone

/-- An automatic transition waits for its frame boundary or apply frame (R170). -/
def Dev.autoMode (d : Dev) (mode : Nat) : Dev :=
  (d.askMode mode 2).issueOps

/-- AUTO_IDLE_EXPIRY (R169). -/
def execAutoIdleExpiry (s : State) : Host.Outcome State Fault Refusal :=
  s.run fun d => if d.mode = modeActive ∧ d.autoAllowed = true ∧ d.noContact = true then d.autoMode modeIdle else d

/-- WATCH_AFTER_EXPIRY (R169). -/
def execWatchAfterExpiry (s : State) : Host.Outcome State Fault Refusal :=
  s.run fun d =>
    if d.mode = modeIdle ∧ d.par secModes 0x02 = 1 ∧ d.autoAllowed = true ∧ d.noContact = true then d.autoMode modeWatch else d

/-- ORPHAN (R173): a worker without beacons enters HIBERNATE at its next frame boundary; one that runs no frames enters it
at once. -/
def execOrphan (s : State) : Host.Outcome State Fault Refusal :=
  s.run fun d =>
    if d.isWorker ∧ d.pwr.step = 8 ∧ (d.mode = modeWatch ∨ d.mode = modeIdle ∨ d.mode = modeActive ∨ d.mode = modeService) then
      if d.flag EGL_TILE_JOINED then
        (d.setModes { d.modes with orphan := some ⟨modeHibernate, none, 7⟩ }).markPending (some modeHibernate)
      else d.changeMode modeHibernate 7 d.time.frame
    else d

/-! The manager's mode command on a worker (R170). -/

/-- A worker's `svc` or `svc off` that waited for the manager's command ends with OK (R73, R77). -/
def Dev.serviceAnswered (d : Dev) (mode : Nat) : Dev :=
  if d.con.request ≠ 0 ∧ ((d.con.request = 1) = (mode = modeService)) then
    { d with con := { d.con with request := 0 } }.statusLine .ok
  else d

/-- A worker takes a mode command for its apply frame. -/
def Dev.modeMsg (d : Dev) (mode apply : Nat) : Dev :=
  if d.isWorker && d.mode != modeSafe && d.mode != modeStart then
    let d := d.serviceAnswered mode
    (d.setModes { d.modes with manager := some ⟨mode, some apply, 6⟩ }).markPending (some mode)
  else d

/-- A worker takes the notice of a stretched frame; no mode changes (R868). -/
def Dev.stretchMsg (d : Dev) (f : Nat) : Dev :=
  if d.isWorker then (d.setCal { d.cal with stretch := some f }).setFlag CAL_STAT_STRETCH true else d

/-- MODE with W1[2:0], W1[3] and W2: a mode command, or the notice of a stretched frame. -/
def Dev.modeCommand (d : Dev) (mode : Nat) (stretch : Bool) (apply : Nat) : Dev :=
  if stretch then d.stretchMsg apply else d.modeMsg mode apply

/-- MODE (R170, R868). -/
def execMode (mode : BitVec 3) (stretch : Bool) (apply : Word) (s : State) : Host.Outcome State Fault Refusal :=
  s.run fun d => d.modeCommand mode.toNat stretch apply.toNat

/-- The manager hears that a worker has changed mode (R170, R172). -/
def Dev.modeAck (d : Dev) (xy : Nat) : Dev :=
  if d.isManager then
    let d := d.noteTile xy
    d.setModes { d.modes with acksDue := d.modes.acksDue.filter (· != xy) }
  else d

/-- MODE_ACK (R170). -/
def execModeAck (tile : BitVec 10) (s : State) : Host.Outcome State Fault Refusal := s.run fun d => d.modeAck tile.toNat

end Sys2Proof.Machine
end

