-- ==== Sys2Proof/Machine/Nvm.lean ====
section
/-!
DEFINITION. Nvm.lean: the controller of the NVM bus (R434 to R451, R454) and the NVM proxy (R150 to R157).
-/

namespace Sys2Proof.Machine

/-! Transfers (R434 to R439, R454). -/

/-- A transfer of this kind writes to the EEPROM: a log page, or a page of a proxy WRITE or INVALIDATE. -/
def Dev.nvmWrites (d : Dev) (what : Nat) : Bool := what == 5 || (what == 4 && d.nvpWrites)

/-- May a transfer of a kind start: 1 header A, 2 header B, 3 slot, 4 proxy page, 5 log page? The controller first drives the
bus at step 4, and drives nothing without VDDIO; HOLD keeps it off, and VDD_WARN keeps it from writing (R41, R110, R440,
R454). -/
def Dev.nvmMay (d : Dev) (what : Nat) : Bool :=
  decide (1 ≤ what ∧ what ≤ 5) && d.twb.nvOp == 0 && decide (4 ≤ d.pwr.step) && d.ioLive && !d.flag TWB_NVCTL_HOLD &&
    (!d.nvmWrites what || !d.nvmBarred)

/-- A transfer starts on a free bus; a write drives NVWP low (R49, R434). -/
def Dev.nvmStart (d : Dev) (what : Nat) : Dev :=
  if d.nvmMay what then
    let d := d.setTwb { d.twb with nvOp := what, nvwpOwn := d.nvmWrites what, sclStuck := false, polling := false }
    (d.setFlag TWB_STAT_NVBUSY true).setFlag TWB_STAT_NVEXT false
  else d

/-- A transfer is broken off: the bytes of an image read received so far are kept (R438). -/
def Dev.nvmBreak (d : Dev) (received : Nat) : Dev :=
  let read := decide (d.twb.nvOp ≤ 3)
  let d := d.setTwb { d.twb with nvOp := 0, nvwpOwn := false, resumeAt := if read then received else 0 }
  d.setFlag TWB_STAT_NVBUSY false

/-- ARBITRATION_LOST: counted, and the bus is another controller's; a loss while driving the STOP of a complete transfer ends
it (R435, R438, R933). -/
def Dev.arbitrationLost (d : Dev) (received : Nat) (atEnd : Bool) : Dev :=
  if d.twb.nvOp = 0 then d
  else if atEnd then (d.setFlag TWB_STAT_NVBUSY false).setFlag TWB_STAT_NVEXT true
  else ((d.nvmBreak received).bump TWB_NVCNT_ARBLOST).setFlag TWB_STAT_NVEXT true

/-- ARBITRATION_LOST (R435). -/
def execArbitrationLost (received : BitVec 17) (atEnd : Bool) (s : State) : Host.Outcome State Fault Refusal :=
  s.run fun d => d.arbitrationLost received.toNat atEnd

/-- NV_BUS_EVENT of a kind (R455). -/
def Dev.nvBusEvent (d : Dev) (kind : Nat) : Dev := d.ring 202 (word kind) (d.reg TWB_NVCNT)

/-- NVM_STRETCH_TIMEOUT: a failed transfer, which resumes for an image read (R436, R438). -/
def Dev.stretchTimeout (d : Dev) (received : Nat) : Dev :=
  if d.twb.nvOp = 0 then d
  else ((d.nvmBreak received).bump TWB_NVCNT_STRETCHTO).nvBusEvent 4

/-- NVM_STRETCH_TIMEOUT (R436). -/
def execNvmStretchTimeout (received : BitVec 17) (s : State) : Host.Outcome State Fault Refusal :=
  s.run fun d => d.stretchTimeout received.toNat

/-- NVM_POLL: while a transfer runs, the EEPROM's address is repeated until it acknowledges, and the bus is released between
two attempts; a NACK counts outside polling alone (R437). The acknowledged poll ends the page write: NVWP is high again, and
a proxy page stands in the EEPROM (R49, R151). -/
def Dev.nvmPoll (d : Dev) (acked address : Bool) : Dev :=
  if d.twb.nvOp = 0 then d
  else
    let d := if address && !acked then d.bump TWB_NVCNT_NACK else d
    let d := (d.setTwb { d.twb with polling := !acked }).setFlag TWB_STAT_NVBUSY (acked && address)
    if acked && !address then d.pageTaken else d

/-- NVM_POLL (R437). -/
def execNvmPoll (acked address : Bool) (s : State) : Host.Outcome State Fault Refusal := s.run fun d => d.nvmPoll acked address

/-- NVM_POLL_TIMEOUT: the page write in progress has failed (R437). -/
def execNvmPollTimeout (s : State) : Host.Outcome State Fault Refusal :=
  s.run fun d => if d.nvmWrites d.twb.nvOp then d.nvmIdle.nvBusEvent 3 else d

/-- RESUME_ADDRESS_TIMEOUT: the check of the slot, or the header read, ends with result 2 (R439). -/
def Dev.resumeTimeout (d : Dev) : Dev :=
  if d.pwr.step = 5 then d.slotEnds 2
  else if d.headerDue false && d.twb.nvOp != 2 then d.headerRead false 2 []
  else if d.headerDue true then d.headerRead true 2 []
  else d

/-- RESUME_ADDRESS_TIMEOUT (R439). -/
def execResumeAddressTimeout (s : State) : Host.Outcome State Fault Refusal := s.run Dev.resumeTimeout

/-! Sharing the bus (R440, R441). -/

/-- A write of TWB_NVCTL: with the key HOLD and WPOPEN take the written values, and the time-out runs while either is set. -/
def Dev.writeNvctl (d : Dev) (v : Word) : Dev :=
  if wGet v 16 8 = 0x5A then
    let d := d.setReg TWB_NVCTL (v &&& 3#24)
    if wGet v 0 2 = 0 then d else d.setTwb { d.twb with holdTo := d.par secHost 0x06, holdTick := d.ticks }
  else d.ignoreWrite

/-- NVCTL_WRITE (R440). -/
def execNvctlWrite (value : Word) (s : State) : Host.Outcome State Fault Refusal := s.run fun d => d.writeNvctl value

/-- NVHOLD_EXPIRY: both bits clear, and NV_HOLD_EXPIRED is raised (R441). -/
def Dev.holdExpiry (d : Dev) : Dev :=
  let old := d.reg TWB_NVCTL
  if wGet old 0 2 = 0 then d else (d.setReg TWB_NVCTL 0).ring 203 old 0

/-- NVHOLD_EXPIRY (R441). -/
def execNvholdExpiry (s : State) : Host.Outcome State Fault Refusal := s.run Dev.holdExpiry

/-- Seconds until the expiry, rounded up; 0 when neither bit is set. -/
def Dev.holdRemain (d : Dev) : Nat :=
  if wGet (d.reg TWB_NVCTL) 0 2 = 0 then 0
  else max 1 ((d.twb.holdTick + 32768 * d.twb.holdTo - d.ticks + 32767) / 32768)

/-! A stuck bus (R450, R451). -/

/-- SDA_RECOVERY: counted, and reported once per episode. -/
def Dev.sdaRecovery (d : Dev) (released : Bool) : Dev :=
  let first := !d.twb.sdaStuck
  let d := (d.bump TWB_NVCNT2_RECOVER).setTwb { d.twb with sdaStuck := !released }
  if first then d.nvBusEvent 1 else d

/-- SDA_RECOVERY (R450). -/
def execSdaRecovery (released : Bool) (s : State) : Host.Outcome State Fault Refusal := s.run fun d => d.sdaRecovery released

/-- SCL_STUCK: reported once until a transfer starts again. -/
def Dev.sclStuckLow (d : Dev) : Dev :=
  if d.twb.sclStuck then d else (d.setTwb { d.twb with sclStuck := true }).nvBusEvent 2

/-- SCL_STUCK (R451). -/
def execSclStuck (s : State) : Host.Outcome State Fault Refusal := s.run Dev.sclStuckLow

/-! The proxy (R150 to R157). -/

/-- The end of a proxy command (R154). -/
def Dev.nvpEnd (d : Dev) (result bytes : Nat) : Dev :=
  let d := d.setReg SYS_NVP_STAT (pack [(bytes, 11), (result, 4)])
  let d := (if 4 = d.twb.nvOp then d.nvmIdle else d).setBoot { d.boot with nvpOp := 0, nvpData := [], nvpDone := 0 }
  (d.ring 11 (d.reg SYS_NVP_STAT) (word d.boot.nvpAddr)).logResume

/-- Bytes [a, a + n) meet the slot of the running image, or lie at 0x20000 or above (R152). -/
def Dev.nvmProtected (d : Dev) (a n : Nat) : Bool :=
  let loaded := d.fld SYS_BOOT_LOADED
  let base := if loaded = 1 then slotBaseA else slotBaseB
  decide (0x20000 < a + n) ||
    (decide (loaded = 1 ∨ loaded = 2) && decide (a < base + 0x10000) && decide (base < a + n))

/-- The buffer's words hold LEN bytes within bank 15. -/
def nvpFits (buf len : Nat) : Bool := decide (1 ≤ len ∧ len ≤ 4096 ∧ buf + (len + 2) / 3 ≤ 16384)

/-- The RESULT with which a command ends before it starts a transfer, or 0 (R110, R152, R156, R442, and the Limits). -/
def Dev.nvpRefusal (d : Dev) (op a n buf : Nat) : Nat :=
  let range := match op with
    | 1 => !nvpFits buf n || decide (0x40000 < a + n)
    | 2 => !nvpFits buf n
    | 3 => a != slotBaseA && a != slotBaseB
    | _ => a != slotBaseA && a != slotBaseB && decide (a + 32 ≤ 0x20000)
  let writes := op == 2 || op == 4
  if range then 2
  else if writes && d.nvmProtected a (if op = 2 then n else 32) then 3
  else if writes && d.nvmBarred then 4
  else if d.flag TWB_NVCTL_HOLD then 7
  else 0

/-- The bytes of n words of bank 15 from a word on. -/
def Dev.nvpBytes (d : Dev) (buf n : Nat) : List Byte :=
  ((List.range ((n + 2) / 3)).flatMap fun i => wordBytes (d.readWord 15 (buf + i))).take n

/-- A transfer of the running proxy command is about to start: HOLD ends the command with RESULT 7, and VDD_WARN a WRITE or
INVALIDATE with RESULT 4 (R156, R442). -/
def Dev.nvmRequest (d : Dev) (what : Nat) : Dev :=
  if what = 4 ∧ d.boot.nvpOp ≠ 0 ∧ d.twb.nvOp = 0 ∧ d.flag TWB_NVCTL_HOLD = true then d.nvpEnd 7 d.boot.nvpDone
  else if what = 4 ∧ d.nvpWrites = true ∧ d.twb.nvOp = 0 ∧ d.nvmBarred = true then d.nvpEnd 4 d.boot.nvpDone
  else d.nvmStart what

/-- NVM_TRANSFER_START (R434). -/
def execNvmTransferStart (what : BitVec 3) (s : State) : Host.Outcome State Fault Refusal :=
  s.run fun d => d.nvmRequest what.toNat

/-- A proxy command starts with copies of its registers, or ends at once with its refusal (R150, R154). SYS_NVP_BUF too is
copied, for every operation: R150 names only the address, the length and a WRITE's bytes (DESIGN CHOICE, log entry 18). -/
def Dev.nvpBegin (d : Dev) (op : Nat) : Dev :=
  let a := d.fld SYS_NVP_ADDR_ADDR
  let n := d.fld SYS_NVP_LEN_LEN
  let buf := d.fld SYS_NVP_BUF_BUF
  let d := d.setBoot { d.boot with
    nvpOp := op, nvpAddr := a, nvpLen := n, nvpBuf := buf, nvpDone := 0, nvpData := if op = 2 then d.nvpBytes buf n else [] }
  let r := d.nvpRefusal op a n buf
  if r = 0 then d.setReg SYS_NVP_STAT 1 else d.nvpEnd r 0

/-- A write of SYS_NVP_CMD: while BUSY, or a keyless WRITE or INVALIDATE, it is ignored and counted; an operation that is
none is ignored (R150, R153). -/
def Dev.writeNvpCmd (d : Dev) (v : Word) : Dev :=
  let op := wGet v 0 4
  if d.flag SYS_NVP_STAT_BUSY then d.ignoreWrite
  else if (op = 2 ∨ op = 4) ∧ wGet v 16 8 ≠ 0x5A then d.ignoreWrite
  else if 1 ≤ op ∧ op ≤ 4 then d.nvpBegin op
  else d

/-- NVP_READ (R151). -/
def execNvpRead (key : Byte) (s : State) : Host.Outcome State Fault Refusal :=
  s.run fun d => d.writeNvpCmd (pack [(key.toNat, 16), (1, 0)])

/-- NVP_WRITE (R152). -/
def execNvpWrite (key : Byte) (s : State) : Host.Outcome State Fault Refusal :=
  s.run fun d => d.writeNvpCmd (pack [(key.toNat, 16), (2, 0)])

/-- NVP_VERIFY (R151). -/
def execNvpVerify (key : Byte) (s : State) : Host.Outcome State Fault Refusal :=
  s.run fun d => d.writeNvpCmd (pack [(key.toNat, 16), (3, 0)])

/-- NVP_INVALIDATE (R151). -/
def execNvpInvalidate (key : Byte) (s : State) : Host.Outcome State Fault Refusal :=
  s.run fun d => d.writeNvpCmd (pack [(key.toNat, 16), (4, 0)])

/-- Bytes into the buffer, three to a word; the bytes of its last word beyond LEN are not stated, and are free (R151). -/
def Dev.nvpStore (d : Dev) (buf : Nat) (bs : List Byte) : Dev :=
  let spare := (3 - bs.length % 3) % 3
  let (v, d) := d.draw 65536
  let fill := (natBytes 2 v).take spare
  (packBytes (bs ++ fill)).zipIdx.foldl (fun d w => d.writeWord 15 (buf + w.2) w.1) d

/-- The check of a slot as R145 states it, for VERIFY and `img check`: the header's own checks first. -/
def Dev.verifySlot (d : Dev) (a : Nat) : Verdict :=
  let h := d.nvmRead a 32
  if headerCode h ≠ 0 then { code := headerCode h } else d.checkImage (d.nvmRead a (headerLen h))

/-- SYS_NVP_VRES and SYS_NVP_VSEQ of a verdict on the slot at an address. -/
def Dev.noteVerify (d : Dev) (a : Nat) (v : Verdict) : Dev :=
  (d.setFld SYS_NVP_VRES_CODE v.code).setReg SYS_NVP_VSEQ (word (if v.code = 1 then headerSeq (d.nvmRead a 32) else v.type))

/-- A WRITE or INVALIDATE that stops after some bytes: they stand, and of the page that failed every byte is free (R156,
log entry 2). -/
def Dev.nvpWritten (d : Dev) (a : Nat) (bs : List Byte) (done : Nat) (failed : Bool) : Dev :=
  let d := d.nvmWrite a (bs.take done)
  if failed then d.nvmGarble (a + done) (pageSplit (a + done) (bs.length - done)) else d

/-- The end of a WRITE or INVALIDATE: the rest of its bytes stand when the NVM answered throughout; else, and when VDD_WARN
keeps further pages from starting, those of the pages taken and the bytes completed. -/
def Dev.nvpWriteDone (d : Dev) (outcome bytes : Nat) : Dev :=
  let a := d.boot.nvpAddr
  let bs := d.nvpSends
  let taken := d.boot.nvpDone
  if outcome = 0 ∧ (d.nvmBarred = false ∨ bs.length ≤ taken) then
    (d.nvmWrite (a + taken) (bs.drop taken)).nvpEnd 0 bs.length
  else
    let n := max taken (min bytes bs.length)
    (d.nvpWritten a bs n (outcome = 5 ∨ outcome = 8)).nvpEnd (if outcome = 0 then 4 else outcome) n

/-- NVP_DONE: the outcome is 0 when the NVM answered throughout, else the failure's RESULT, with the bytes completed before
it; pages that the EEPROM has taken stand in any case. A VDD warning lets the page in progress complete and ends a WRITE or
INVALIDATE that has pages left with RESULT 4 (R110, R156). A VERIFY that fails at the NVM has the result code 2 when the
EEPROM did not acknowledge its address, outcome 2, and 3 when its time ran out, as R144 and R145 give for a slot; RESULT is
5 for both (R151, R161). -/
def Dev.nvpDone (d : Dev) (outcome bytes : Nat) : Dev :=
  if d.flag SYS_NVP_STAT_BUSY = false then d
  else
    let b := d.boot
    let done (n : Nat) : Nat := if outcome = 0 then n else min bytes n
    match b.nvpOp with
    | 1 =>
      let n := done b.nvpLen
      (if n = 0 then d else d.nvpStore b.nvpBuf (d.nvmRead b.nvpAddr n)).nvpEnd outcome n
    | 3 =>
      if outcome = 0 then
        let v := d.verifySlot b.nvpAddr
        (d.noteVerify b.nvpAddr v).nvpEnd (if v.code = 1 then 0 else 6) 0
      else if outcome = 2 ∨ outcome = 5 then
        (d.noteVerify b.nvpAddr { code := if outcome = 2 then 2 else 3 }).nvpEnd 5 0
      else d.nvpEnd outcome 0
    | _ => (if d.twb.nvOp = 4 ∧ (outcome = 0 ∨ outcome = 4) then d.pageTaken else d).nvpWriteDone outcome bytes

/-- NVP_DONE (R154). -/
def execNvpDone (outcome : BitVec 4) (bytes : BitVec 13) (s : State) : Host.Outcome State Fault Refusal :=
  s.run fun d => d.nvpDone outcome.toNat bytes.toNat

end Sys2Proof.Machine
end

