-- ==== Sys2Proof/Machine/Join.lean ====
section
/-!
DEFINITION. Join.lean: enumeration, joining, the image over the link as the manager serves it, the manager link reset, and
requests for SERVICE (R73, R523, R535, R542 to R548, R571, R575, R577).
-/

namespace Sys2Proof.Machine

def Dev.setCom (d : Dev) (c : Commit) : Dev := { d with com := c }

/-! Words of the configuration set while running (R500, R509, R523, R536). -/

/-- One word takes its new value; the image's own value is kept the first time. -/
def Dev.applyWord (d : Dev) (p : Nat) (v : Word) : Dev :=
  let old := cellsGet paramDefault d.cfg p
  let img := if d.img.any fun e => e.1 == p then d.img else d.img ++ [(p, old)]
  { d.setCfg p v.toNat with img := if old = v then d.img else img }

/-- What a changed field sets beside its words: a VTX command with TAG 0 (R718), the adaptive VLED target (R713), the
band states (R849), the carrier (R812), and the wake enables, of which a storm's stay off (R195, R200). -/
def Dev.wordEffect (d : Dev) (p : Nat) : Dev :=
  let s := pidSect p
  let f := pidField p
  if s = secRails then (if f = 0x04 then d.vtxCommit else d.retargetVled)
  else if s = secHka ∧ f = 0x01 then d.hkaCommit (pidIndex p)
  else if s = secHka ∧ f = 0x02 then d.hkaCommit (pidIndex p / 4)
  else if s = secIr ∧ f = 0x06 then d.setReg ITX_CARRIER (clampCarrier (d.cfgWord secIr 0x06 0))
  else if s = secModes ∧ f = 0x07 then
    d.setFld PWR_WAKEEN_EN (d.par secModes 0x07 - (d.par secModes 0x07 &&& d.fld PWR_WAKECNT_STORMOFF))
  else d

/-- A set of words applies at once; answers too the words as they stood. -/
def Dev.applyPairs (d : Dev) (ps : List (Nat × Word)) : List (Nat × Word) × Dev :=
  let old := ps.map fun e => (e.1, cellsGet paramDefault d.cfg e.1)
  let changed := ((ps.zip old).filter fun e => e.1.2 != e.2.2).map fun e => e.1.1
  let d := ps.foldl (fun d e => d.applyWord e.1 e.2) d
  (old, changed.foldl Dev.wordEffect d)

/-! Enumeration (R542, R543). -/

/-- ENUM: a worker without coordinates takes them, and enumerates its neighbours in turn; a later one that disagrees sets
CONFLICT. What waited for coordinates goes on: the link image, and the JOIN (R147, R544). -/
def Dev.enumMsg (d : Dev) (words : List Word) : Dev :=
  let xy := wGet (words.getD 0 0) 0 10
  if d.isWorker = false then d
  else if d.surf.known then (if xy = d.ownXY then d else d.setFlag EGL_TILE_CONFLICT true)
  else
    let d := (d.setFld EGL_TILE_X (xy / 32)).setFld EGL_TILE_Y xy
    (d.setSurf { d.surf with known := true }).sendEnums.linkImageRequest.sendJoin

/-- ENUM (R543). -/
def execEnum (words : List Word) (s : State) : Host.Outcome State Fault Refusal := s.run fun d => d.enumMsg words

/-! The manager's answer to a JOIN (R535, R545, R546, R548, R577). -/

/-- A commit is in progress, or a mode change waits for its apply frame (R577). -/
def Dev.joinsWait (d : Dev) : Bool :=
  (d.fld CFG_STAT_PHASE != 0 && !d.com.checkOnly) ||
    [d.modes.service, d.modes.host, d.modes.wake, d.modes.auto].any fun m => (m.bind ModeReq.apply).isSome

/-- The reason to refuse a JOIN, or 0 (R545, R575). -/
def Dev.joinRefusal (d : Dev) (xy : Nat) (sid : Word) : Nat :=
  if d.gridCols ≤ xy / 32 ∨ d.gridRows ≤ xy % 32 then 1
  else if xy = d.ownXY ∨ (d.tile xy).state = tileJoined then 2
  else if sid ≠ d.boot.surfaceId then 3
  else 0

/-- A joining worker's epoch fits: it is the manager's, or that of a fresh image, whose words the delta brings up to date,
or one behind while its GO_LATE is pending (R523, R535; log entry 40). -/
def Dev.epochFits (d : Dev) (xy epoch : Nat) : Bool :=
  let own := d.fld CFG_EPOCH_N
  epoch == own || epoch == 0 || (d.com.ackDue.contains xy && (epoch + 1) % 16777216 == own)

/-- The start time of frame n, from the last frame start (R225, R548). -/
def Dev.frameTime (d : Dev) (n : Nat) : Nat × Nat :=
  let (f, sec, frac) := d.surf.beaconFrame.getD (d.time.frame, d.time.now.1, d.time.now.2)
  let t := sec * 16777216 + frac + framesSince f n * framePeriod d.frameRate
  (t / 16777216 % 281474976710656, t % 16777216)

/-- Pairs of the runtime delta from an entry on, 30 to a message (R572). -/
def Dev.sendDelta (d : Dev) (xy from_ : Nat) : List (List (Nat × Word)) → Dev
  | [] => d
  | c :: rest =>
    Dev.sendDelta (d.send msgDelta xy (word from_ :: c.flatMap fun e => [word e.1, e.2])) xy (from_ + c.length) rest

/-- WELCOME and the delta (R523, R544, R548); TILE_JOIN. A tile that has joined before is a rejoin (R583). -/
def Dev.welcome (d : Dev) (xy : Nat) : Dev :=
  let known := (d.tile xy).before
  let n := (d.time.frame + 4 + (d.com.delta.length + 29) / 30) % 16777216
  let (sec, frac) := d.frameTime n
  let d := d.send msgWelcome xy
    [word n, word sec, word frac, word (d.fld CFG_EPOCH_N), word d.mode, word d.com.delta.length]
  let d := d.sendDelta xy 0 (if d.com.delta.isEmpty then [] else chunks 30 64 d.com.delta)
  let (own, d) := d.draw 2
  let loaded := if (d.tile xy).loaded = 3 then 3 else own + 1
  let d := d.setTile { d.tile xy with
    state := tileJoined, reason := 0, seen := d.time.frame, contacts := d.time.frame, epoch := d.fld CFG_EPOCH_N,
      waiting := none
    before := true }
  (d.issueOps).ring 184 (pack [(bit known, 12), (xy, 0)]) (word loaded)

/-- A JOIN is answered: refused, reset with LINKBOOT for another image, reset for another epoch, or welcomed. -/
def Dev.answerJoin (d : Dev) (xy : Nat) (words : List Word) : Dev :=
  let sid := words.getD 1 0
  let d := d.setTile { d.tile xy with waiting := none }
  let crc := (words.getD 3 0).toNat * 65536 + (words.getD 4 0).toNat
  let reason := d.joinRefusal xy sid
  if reason ≠ 0 then
    let d := if reason = 2 then d else d.setTileState xy tileRefused reason
    ((d.send msgRefuseJoin xy [word reason]).issueOps).ring 186 (pack [(reason, 12), (xy, 0)]) sid
  else if words.getD 2 0 ≠ d.reg SYS_IMGSEQ ∨ crc ≠ d.imageCrc then d.resetTile xy true
  else if d.epochFits xy (words.getD 5 0).toNat = false then (d.bump CFG_CNT2_RESETS).resetTile xy false
  else d.welcome xy

/-- JOIN: it ends a pending reset, and is answered at once, or when the commit or mode change in progress has ended (R571,
R577). -/
def Dev.joinMsg (d : Dev) (words : List Word) : Dev :=
  let xy := wGet (words.getD 0 0) 0 10
  if d.isManager = false ∨ d.pwr.step ≠ 8 ∨ d.mode = modeSafe then d
  else d.fromLost xy fun d =>
    let d := d.noteTile xy
    let d := if (d.tile xy).state = tileResetting then d.setTileState xy tileEnumerated 0 else d
    if d.joinsWait then d.setTile { d.tile xy with waiting := some words } else d.answerJoin xy words

/-- JOIN (R545). -/
def execJoin (_src : BitVec 10) (words : List Word) (s : State) : Host.Outcome State Fault Refusal :=
  s.run fun d => d.joinMsg words

/-- The JOINs that waited are answered (R577). -/
def Dev.answerJoins (d : Dev) : Dev :=
  if d.joinsWait then d
  else (d.surf.tiles.reverse.filterMap fun t => t.waiting.map fun w => (t.xy, w)).foldl (fun d p => d.answerJoin p.1 p.2) d

/-! The worker's side (R523, R544). -/

/-- The delta is complete: its words apply before the first frame. -/
def Dev.takeDelta (d : Dev) : Dev :=
  let ps := d.surf.deltaBuf
  ((d.setSurf { d.surf with deltaDue := 0, deltaBuf := [] }).applyPairs ps).2

/-- WELCOME: the first frame and its start time, the epoch, the mode from that frame on, and how much delta comes. -/
def Dev.welcomeMsg (d : Dev) (words : List Word) : Dev :=
  let w (i : Nat) : Nat := (words.getD i 0).toNat
  if d.isWorker = false ∨ d.pwr.step ≠ 8 ∨ d.mode = modeSafe ∨ d.flag EGL_TILE_JOINED = true then d
  else
    let d := d.setSurf { d.surf with firstFrame := some (w 0, w 1, w 2), deltaDue := w 5, deltaBuf := [], joinDue := false }
    let d := d.setFld CFG_EPOCH_N (w 3)
    let mode := w 4 % 8
    if mode = d.mode ∨ 4 < mode then d
    else (d.setModes { d.modes with manager := some ⟨mode, some (w 0), 6⟩ }).markPending (some mode)

/-- WELCOME (R544). -/
def execWelcome (_src : BitVec 10) (words : List Word) (s : State) : Host.Outcome State Fault Refusal :=
  s.run fun d => d.welcomeMsg words

/-- Words taken two by two. -/
def wordPairs : List Word → List (Nat × Word)
  | a :: b :: rest => (a.toNat, b) :: wordPairs rest
  | _ => []

/-- DELTA: the entries in their order. -/
def Dev.deltaMsg (d : Dev) (words : List Word) : Dev :=
  if d.isWorker && decide ((words.getD 0 0).toNat = d.surf.deltaBuf.length) && decide (0 < d.surf.deltaDue) then
    let buf := d.surf.deltaBuf ++ wordPairs (words.drop 1)
    let d := d.setSurf { d.surf with deltaBuf := buf.take d.surf.deltaDue }
    if d.surf.deltaDue ≤ buf.length then d.takeDelta else d
  else d

/-- DELTA (R523). -/
def execDelta (_src : BitVec 10) (words : List Word) (s : State) : Host.Outcome State Fault Refusal :=
  s.run fun d => d.deltaMsg words

/-- REFUSE_JOIN: the worker starts no frame (R545). -/
def Dev.refusedMsg (d : Dev) : Dev :=
  if d.isWorker && !d.flag EGL_TILE_JOINED then d.setSurf { d.surf with
    firstFrame := none, deltaDue := 0,
    deltaBuf := [], joinDue := false }
  else d

/-- REFUSE_JOIN (R545). -/
def execRefuseJoin (_src : BitVec 10) (_words : List Word) (s : State) : Host.Outcome State Fault Refusal :=
  s.run Dev.refusedMsg

/-- RESET: a worker performs a reset of code 7; with LINKBOOT its next step 5 loads over the link (R546, R571). -/
def Dev.resetMsg (d : Dev) (words : List Word) : Dev :=
  if d.isWorker then
    let d := d.resetNow 7
    d.setSurf { d.surf with linkBoot := wGet (words.getD 0 0) 0 1 == 1 }
  else d

/-- RESET (R571). -/
def execReset (_src : BitVec 10) (words : List Word) (s : State) : Host.Outcome State Fault Refusal :=
  s.run fun d => d.resetMsg words

/-! The image over the link, as the manager serves it (R147, R148, R547). -/

/-- The image in pieces of 62 words, in offset order: the last piece carries padding (R547). -/
def Dev.serveImage (d : Dev) (xy : Nat) : Dev :=
  let d := d.noteLoading xy tileLoading
  let d := d.setSurf { d.surf with imgServing := d.surf.imgServing ++ [xy] }
  let pieces := chunks 62 512 (packBytes d.boot.image)
  (pieces.zipIdx.foldl (fun d p => d.send msgImgData xy (word (186 * p.2) :: p.1)) d).issueOps

/-- IMG_REQ: at most 16 workers are served at once, and further ones wait in arrival order (R547). A worker that asks again
while it is served has begun anew, and is served from offset 0; one that waits keeps its place (R147; DEDUCED, log entry
19). -/
def Dev.imgReqMsg (d : Dev) (xy : Nat) : Dev := d.fromLost xy fun d =>
  let d := d.noteTile xy
  let d := d.setSurf { d.surf with imgServing := d.surf.imgServing.filter (· != xy) }
  if d.boot.image.isEmpty ∨ d.surf.imgWaiting.contains xy then d
  else if d.surf.imgServing.length < 16 then d.serveImage xy
  else
    let d := d.noteLoading xy tileLoading
    d.setSurf { d.surf with imgWaiting := d.surf.imgWaiting ++ [xy] }

/-- IMG_REQ (R547). -/
def execImgReq (src : BitVec 10) (_words : List Word) (s : State) : Host.Outcome State Fault Refusal :=
  s.run fun d => d.imgReqMsg src.toNat

/-- A served tile has its image, or has gone: the next one is served. -/
def Dev.serveNext (d : Dev) (xy : Nat) : Dev :=
  let d := d.setSurf { d.surf with
    imgServing := d.surf.imgServing.filter (· != xy),
    imgWaiting := d.surf.imgWaiting.filter (· != xy) }
  match d.surf.imgWaiting with
  | [] => d
  | next :: rest => if d.surf.imgServing.length < 16 then (d.setSurf { d.surf with imgWaiting := rest }).serveImage next else d

/-- IMG_RESULT: the result code of the link image (R148). -/
def Dev.imgResultMsg (d : Dev) (xy : Nat) (words : List Word) : Dev := d.fromLost xy fun d =>
  let ok := (words.getD 0 0).toNat = 1
  let d := (d.noteTile xy).noteLoading xy tileEnumerated
  (d.setTile { d.tile xy with loaded := if ok then 3 else 0 }).serveNext xy

/-- IMG_RESULT (R148). -/
def execImgResult (src : BitVec 10) (words : List Word) (s : State) : Host.Outcome State Fault Refusal :=
  s.run fun d => d.imgResultMsg src.toNat words

/-! SERVICE across the surface (R73, R77). -/

/-- A change of mode asked for by the service functions: on the manager of a surface it goes to every worker with its apply
frame, once no surface-wide commit holds it back (R73, R77, R170, R171). -/
def Dev.serviceMode (d : Dev) (mode entry : Nat) : Dev :=
  let d := d.setModes { d.modes with entry := entry }
  if d.modeHeld then d.holdMode mode 4 else (d.askMode mode 4).issueOps

/-- SVC_REQ: the manager takes the surface into SERVICE, or out of it, as its own console would (R73, R77). None of ENTRY's
values names an entry that a worker asked for; the manager shows 3 (DESIGN CHOICE, log entry 25). -/
def Dev.svcReqMsg (d : Dev) (xy : Nat) (words : List Word) : Dev := d.fromLost xy fun d =>
  let d := d.noteTile xy
  if d.mode = modeSafe ∨ d.mode = modeStart ∨ d.mode = modeHibernate then d
  else if wGet (words.getD 0 0) 0 1 = 0 then (if d.mode = modeService then d else d.serviceMode modeService 3)
  else if d.mode = modeService then d.serviceMode modeIdle 0
  else d

/-- SVC_REQ (R73). -/
def execSvcReq (src : BitVec 10) (words : List Word) (s : State) : Host.Outcome State Fault Refusal :=
  s.run fun d => d.svcReqMsg src.toNat words

end Sys2Proof.Machine
end

