-- ==== Sys2Proof/Machine/Commit.lean ====
section
/-!
DEFINITION. Commit.lean: changes of the configuration while running (14_runtime_changes.md): the checks, the two phases across
a surface, and the application at frame F.
-/

namespace Sys2Proof.Machine

/-! The stage (R501, R502, R504). -/

/-- Pair i of the stage. -/
def Dev.stagePair (d : Dev) (i : Nat) : Nat × Word := ((d.reg (CFG_STG (2 * i))).toNat, d.reg (CFG_STG (2 * i + 1)))

/-- The staged pairs that CFG_NSTG counts. -/
def Dev.stage (d : Dev) : List (Nat × Word) := (List.range (min (d.fld CFG_NSTG_N) 128)).map d.stagePair

/-! The checks (R503 to R508, R525). -/

/-- What a check found: the reason of CFG_ERR, or 0, with the index of the failing pair; the words clamped; the words that
would be set; the class. -/
structure Judged where
  reason : Nat
  index : Nat
  clamps : Nat := 0
  pairs : List (Nat × Word) := []
  cls : Nat := 0
  deriving DecidableEq, Repr

def RunClass.code (c : RunClass) : Nat :=
  match c with
  | .hot => 0
  | .warm => 1
  | .cold => 2
  | .imageOnly => 3

/-- The present word count of a field (R503). -/
def Dev.wordCount (d : Dev) (f : FieldSpec) : Nat := if f.minWords = f.maxWords then f.maxWords else d.parLen f.sect f.id

/-- One pair against its field: the reason of a failure, or the value with whether it was clamped (R503). -/
def Dev.judgePair (d : Dev) (p : Nat) (v : Word) : Sum Nat (Word × Bool) :=
  match fieldSpec (pidSect p) (pidField p) with
  | none => .inl 1
  | some f =>
    if d.wordCount f ≤ pidIndex p then .inl 2
    else if f.run = .imageOnly then .inl 3
    else
      match judgeWord f (pidIndex p) v with
      | none => .inl 4
      | some r => .inr r

/-- Pairs with their indices, of which an earlier one with the same id as a later is discarded (R504). -/
def lastPairs (ps : List (Nat × Word)) : List ((Nat × Word) × Nat) :=
  ps.zipIdx.filter fun e => !(ps.drop (e.2 + 1)).any fun o => o.1 == e.1.1

/-- The class of a pair (R508, R538). -/
def pairClass (p : Nat) : Nat := ((fieldSpec (pidSect p) (pidField p)).map fun f => f.run.code).getD 0

/-- The pairs one by one: the first failure, or the values and the ids clamped. -/
def Dev.judgePairs (d : Dev) (ps : List ((Nat × Word) × Nat)) : Option (Nat × Nat) × List (Nat × Word) × List Nat :=
  ps.foldl (fun acc e =>
    match acc.1 with
    | some _ => acc
    | none =>
      match d.judgePair e.1.1 e.1.2 with
      | .inl reason => (some (reason, e.2), acc.2)
      | .inr (v, clamped) => (none, acc.2.1 ++ [(e.1.1, v)], if clamped then acc.2.2 ++ [e.1.1] else acc.2.2)) (none, [], [])

/-- The words beyond what the runtime delta holds already. -/
def Dev.newWords (d : Dev) (ps : List (Nat × Word)) : List (Nat × Word) :=
  ps.filter fun e => !d.com.delta.any fun o => o.1 == e.1

/-- The whole check of a set of pairs: one by one, then the configuration that would result, then the delta's room
(R503 to R505, R525). A relational failure is charged to the first pair of the failing field, or to the first pair (DESIGN
CHOICE, log entry 78). -/
def Dev.judgeSet (d : Dev) (ps : List (Nat × Word)) (withDelta : Bool) : Judged :=
  if ps.isEmpty then { reason := 7, index := 0 }
  else
    let last := lastPairs ps
    match d.judgePairs last with
    | (some (reason, index), _, clamped) => { reason := reason, index := index, clamps := clamped.length }
    | (none, vals, clamped) =>
      let cand := vals.foldl (fun c e => c.setCfg e.1 e.2.toNat) d
      match cand.relationFails false with
      | some (sect, id) =>
        let index := (last.find? fun e => pidSect e.1.1 == sect && pidField e.1.1 == id).map fun e => e.2
        { reason := 5, index := index.getD ((last.head?.map fun e => e.2).getD 0), clamps := clamped.length }
      | none =>
        let (ids, final) := cand.relationClamps false
        let named := vals.map fun e => e.1
        let ids := ids.filter fun p => !clamped.contains p
        let all := named ++ ids.filter fun p => !named.contains p
        let pairs := all.map fun p => (p, cellsGet paramDefault final.cfg p)
        let n := clamped.length + ids.eraseDups.length
        let room := 1024 - d.com.delta.length
        let extra := d.newWords pairs
        if withDelta ∧ room < extra.length then
          let first := ((extra.drop room).head?.map fun e => e.1).getD 0
          let index := (last.find? fun e => e.1.1 == first).map fun e => e.2
          { reason := 6, index := index.getD 0, clamps := n }
        else { reason := 0, index := 0, clamps := n, pairs := pairs, cls := (named.map pairClass).foldl max 0 }

/-! The commands on one tile (R502, R507, R513 to R515, R526, R527). -/

def Dev.setPhase (d : Dev) (p : Nat) : Dev := d.setFld CFG_STAT_PHASE p

/-- What a commit held back goes out (R171). -/
def Dev.releaseHeld (d : Dev) : Dev := if d.modes.heldCmd.isNone then d else d.releaseHeldMode.issueOps

/-- A commit has ended: PHASE returns to 0, and what it held back goes on (R171, R524, R528, R577). A CHECK whose checks still
run keeps its pairs. -/
def Dev.commitDone (d : Dev) : Dev :=
  let d := d.setCom { d.com with
    staged := if d.com.checkOnly then d.com.staged else []
    built := [], armed := false, go := false, late := false, tiles := [], readyDue := [], ackDue := [] }
  ((d.setPhase 0).setFlag CFG_STAT_MIXED false).releaseHeld.answerJoins

/-- The class and result of a commit kept for `cfg stat`. -/
def Dev.noteCommit (d : Dev) (result : Nat) : Dev :=
  let d := d.setFld CFG_STAT_RESULT result
  d.setCom { d.com with history := ((d.fld CFG_STAT_CLASS, result) :: d.com.history).take 8 }

/-- A commit that fails, is aborted or cancelled. -/
def Dev.commitFails (d : Dev) (result : Nat) : Dev := ((d.noteCommit result).bump CFG_CNT_ABORTED).commitDone

/-- COMMIT or CHECK accepted: the stage is copied, and the checks run (R502). -/
def Dev.beginChecks (d : Dev) (checkOnly : Bool) : Dev :=
  ((d.setCom { d.com with staged := d.stage, checkOnly := checkOnly }).setFld CFG_STAT_RESULT 0).setPhase 1

/-- ABORT to every worker that was sent PREPARE (R518). -/
def Dev.sendAborts (d : Dev) : Dev :=
  (d.com.tiles.foldl (fun d t => d.send msgAbort t [word d.com.epoch]) d).issueOps

/-- CANCEL ends a commit before GO, or on a standalone tile before F (R527). -/
def Dev.cancelCommit (d : Dev) : Dev :=
  let p := d.fld CFG_STAT_PHASE
  if d.com.checkOnly then d.ignoreWrite
  else if p = 1 ∨ (p = 3 ∧ d.com.tiles.isEmpty = true ∧ d.onSurface = false) then d.commitFails 7
  else if p = 2 then d.sendAborts.commitFails 7
  else d.ignoreWrite

/-- A write of CFG_CMD (R526, R539). -/
def Dev.writeCfgCmd (d : Dev) (v : Word) : Dev :=
  let op := wGet v 0 4
  if wGet v 16 8 ≠ 0xC5 then d.ignoreWrite
  else if d.isWorker ∧ (op = 1 ∨ op = 4) then d.ignoreWrite
  else if op = 4 then d.cancelCommit
  else if d.fld CFG_STAT_PHASE ≠ 0 then d.ignoreWrite
  else match op with
    | 1 => if d.mode = modeIdle ∨ d.mode = modeActive then d.beginChecks false else (d.noteCommit 5).bump CFG_CNT_ABORTED
    | 2 => d.beginChecks true
    | 3 => d.setFld CFG_NSTG_N 0
    | _ => d

/-- CFG_COMMIT (R513). -/
def execCfgCommit (key : Byte) (s : State) : Host.Outcome State Fault Refusal :=
  s.run fun d => d.writeCfgCmd (pack [(key.toNat, 16), (1, 0)])

/-- CFG_CHECK (R507). -/
def execCfgCheck (key : Byte) (s : State) : Host.Outcome State Fault Refusal :=
  s.run fun d => d.writeCfgCmd (pack [(key.toNat, 16), (2, 0)])

/-- CFG_CLEAR (R539). -/
def execCfgClear (key : Byte) (s : State) : Host.Outcome State Fault Refusal :=
  s.run fun d => d.writeCfgCmd (pack [(key.toNat, 16), (3, 0)])

/-- CFG_CANCEL (R527). -/
def execCfgCancel (key : Byte) (s : State) : Host.Outcome State Fault Refusal :=
  s.run fun d => d.writeCfgCmd (pack [(key.toNat, 16), (4, 0)])

/-- Writes of CFG_NSTG and CFG_LEAD outside their limits leave the register unchanged (the Limits section). -/
def Dev.writeNstg (d : Dev) (v : Word) : Dev := if wGet v 0 8 ≤ 128 then d.setFld CFG_NSTG_N (wGet v 0 8) else d
def Dev.writeLead (d : Dev) (v : Word) : Dev :=
  if 4 ≤ wGet v 0 7 ∧ wGet v 0 7 ≤ 64 then d.setFld CFG_LEAD_LEAD (wGet v 0 7) else d

/-! Application (R509 to R513, R520, R523). -/

/-- The words of a delta after a set of words. -/
def mergeDelta (delta ps : List (Nat × Word)) : List (Nat × Word) :=
  ps.foldl (fun l e => if l.any fun o => o.1 == e.1 then l.map fun o => if o.1 = e.1 then e else o else l ++ [e]) delta

/-- The commit takes effect at the start of frame n: every word at once, the delta, the epoch, and the counts (R513, R523,
R531). Tracking of earlier frames still uses the old words (R509). -/
def Dev.takeCommit (d : Dev) (n : Nat) : Dev :=
  let (old, d) := d.applyPairs d.com.built
  let delta := if d.isWorker then d.com.delta else mergeDelta d.com.delta d.com.built
  let d := d.setCom { d.com with delta := delta, past := if d.trk.queue.isEmpty && d.scan.cur.isNone then [] else (n,
    old) :: d.com.past }
  let d := (d.setFld CFG_DELTA_USED delta.length).setFld CFG_EPOCH_N d.com.epoch
  (d.bump CFG_CNT_APPLIED).noteCommit 1

/-- A cold apply stops the scan, calibrates in full, and leaves ACTIVE for IDLE (R511). -/
def Dev.coldApply (d : Dev) (n : Nat) : Dev :=
  let d := (d.setCom { d.com with cold := true }).fullRun 3
  if d.mode = modeActive then d.setMode modeIdle (if d.isWorker then 6 else 1) n else d

/-- What follows an apply on its own tile: a hot commit has ended there, a warm one ends with its gap frame, a cold one with
its calibration (R509 to R511, R524). -/
def Dev.applyClass (d : Dev) (n : Nat) : Dev :=
  let cls := d.fld CFG_STAT_CLASS
  if cls = 0 then d
  else
    let d := (d.setPhase 4).setTrk { d.trk with transition := true }
    if cls = 2 then d.coldApply n else d

/-- What a commit does to tracking at its frame's boundary: a warm one cancels with reason 7 and drops the baselines when it
holds a SCAN field, a cold one always does both (R510, R511). -/
def Dev.commitResets (d : Dev) : List (Nat × Bool) :=
  let cls := d.fld CFG_STAT_CLASS
  if cls = 0 then [] else [(7, cls == 2 || d.com.built.any fun e => pidSect e.1 == secScan)]

/-- The tiles that still lag behind: joined ones without GO_ACK (R520, R522). -/
def Dev.lateTiles (d : Dev) : List Nat := d.com.ackDue.filter d.hasJoined

/-- The manager's view of the late tiles: MIXED, PENDING, and the first of them (R522, CFG_REFUSE). -/
def Dev.noteLate (d : Dev) : Dev :=
  let late := d.lateTiles
  let d := d.setCom { d.com with ackDue := late }
  let d := (d.setFlag CFG_STAT_MIXED (!late.isEmpty)).setFld CFG_TILES_PENDING late.length
  match late with
  | [] => d
  | t :: _ => d.setReg CFG_REFUSE (pack [(t / 32, 19), (t % 32, 14)])

/-- GO_LATE to every late tile (R520). -/
def Dev.sendLate (d : Dev) : Dev := (d.lateTiles.foldl (fun d t => d.send msgGoLate t [word d.com.epoch]) d).issueOps

/-- The own part of a commit has ended: phase 5 while late tiles remain, else the commit has ended (R524). -/
def Dev.ownPartDone (d : Dev) : Dev :=
  let d := d.setCom { d.com with armed := false }
  if d.lateTiles.isEmpty then d.commitDone else d.setPhase 5

/-- The start of a frame while late tiles remain: those that have left no longer count, the others are sent GO_LATE again, and
with none left the commit has ended (R520, R522, R524). -/
def Dev.lateBoundary (d : Dev) : Dev :=
  let d := d.noteLate
  if d.com.ackDue.isEmpty then d.commitDone else d.sendLate

/-- GO_ACK from a worker that answers once it has applied (R520, R530). -/
def Dev.answerLate (d : Dev) : Dev :=
  if d.com.late then ((d.send msgGoAck 0 [word d.com.epoch]).issueOps).setCom { d.com with late := false } else d

/-- Frame n begins and the built commit applies: answers what the frame's boundary does to tracking, and whether the frame is
a gap frame. -/
def Dev.applyCommit (d : Dev) (n : Nat) : List (Nat × Bool) × Dev :=
  let resets := d.commitResets
  let d := (d.takeCommit n).setCom { (d.takeCommit n).com with armed := false }
  let d := d.answerLate
  let d := if d.isManager && d.onSurface then d.noteLate.sendLate else d
  let d := d.applyClass n
  (resets, (if d.fld CFG_STAT_CLASS = 0 then d.ownPartDone else d).releaseHeld)

/-- May the built commit apply at the start of frame n? Not before F, nor on a worker without GO, nor while the cores
restart (R513, R519, R530). -/
def Dev.commitDue (d : Dev) (n : Nat) : Bool :=
  d.com.armed && decide (0 ≤ frameDiff d.com.apply n) && !d.pwr.coreRestart &&
    (if d.isWorker then d.com.go else d.fld CFG_STAT_PHASE == 3)

/-! The checks' end (R506, R507, R513, R516). -/

/-- PREPARE to every joined worker (R516). -/
def Dev.sendPrepare (d : Dev) (ps : List (Nat × Word)) : Dev :=
  let ws := ps.flatMap fun e => [word e.1, e.2]
  d.com.tiles.foldl (fun d t => d.send msgPrepare t (word d.com.epoch :: word d.com.apply :: ws)) d

/-- GO to every worker, as soon as all are ready and still joined (R518). -/
def Dev.sendGo (d : Dev) : Dev :=
  if d.fld CFG_STAT_PHASE = 2 ∧ d.com.readyDue.isEmpty = true ∧ d.com.tiles.all d.hasJoined = true then
    let d := (d.com.tiles.foldl (fun d t => d.send msgGo t [word d.com.epoch]) d).setCom { d.com with ackDue := d.com.tiles }
    (d.issueOps.setPhase 3).releaseHeld
  else d

/-- A commit that has passed is built, and its apply frame chosen: the next frame start on a standalone tile, CFG_LEAD
frames ahead on a surface (R513, R516). -/
def Dev.arm (d : Dev) (j : Judged) : Dev :=
  let lead := if d.onSurface then d.fld CFG_LEAD_LEAD else 1
  let f := (d.time.frame + lead) % 16777216
  let tiles := if d.onSurface then d.joinedTiles else []
  let pairs := (lastPairs d.com.staged).map fun e => e.1
  let d := d.setCom { d.com with
    built := j.pairs, epoch := (d.fld CFG_EPOCH_N + 1) % 16777216, apply := f, armed := true, tiles := tiles,
      readyDue := tiles, ackDue := [] }
  let d := (d.setFld CFG_STAT_CLASS j.cls).setFld CFG_APPLY_F f
  if d.onSurface then
    let d := d.setReg CFG_TILES (pack [(0, 11), (tiles.length + 1, 0)])
    ((d.setPhase 2).sendPrepare pairs).issueOps.sendGo
  else d.setPhase 3

/-- CFG_ERR after checks. -/
def Dev.noteJudged (d : Dev) (j : Judged) : Dev :=
  d.setReg CFG_ERR (pack [(min j.clamps 255, 16), (j.reason, 8), (j.index % 256, 0)])

/-- The RESULT of checks (R506, R525). -/
def Judged.result (j : Judged) : Nat := if j.reason = 0 then 1 else if j.reason = 6 then 6 else 2

/-- The checks of a CHECK end: one that passes shows RESULT 1, the one code that says so (R507; DEDUCED, log entry 46). A
PREPARE may have come in while a worker checked; it goes on. -/
def Dev.checkOnlyEnd (d : Dev) : Dev :=
  let j := d.judgeSet d.com.staged false
  let d := (d.noteJudged j).setFld CFG_STAT_RESULT j.result
  let d := d.setCom { d.com with checkOnly := false, staged := [] }
  if d.fld CFG_STAT_PHASE = 1 then d.commitDone else d

/-- CFG_CHECK_END: the checks of a CHECK or of a commit end (R506, R507, R513, R516). -/
def Dev.checkEnd (d : Dev) : Dev :=
  if d.com.checkOnly then d.checkOnlyEnd
  else if d.fld CFG_STAT_PHASE ≠ 1 then d
  else
    let j := d.judgeSet d.com.staged true
    let d := d.noteJudged j
    if j.reason ≠ 0 then d.commitFails j.result else d.arm j

/-- CFG_CHECK_END (R505). -/
def execCfgCheckEnd (s : State) : Host.Outcome State Fault Refusal := s.run Dev.checkEnd

/-! Across a surface: the manager's side (R518 to R522). -/

/-- The manager aborts: a worker refused, or one did not answer in time (R518). -/
def Dev.abortCommit (d : Dev) (result xy reason : Nat) : Dev :=
  ((d.setReg CFG_REFUSE (pack [(xy / 32, 19), (xy % 32, 14), (reason,
    0)])).sendAborts.commitFails result).setFld CFG_TILES_PENDING 0

/-- READY of a worker for the present PREPARE. -/
def Dev.readyMsg (d : Dev) (xy : Nat) (words : List Word) : Dev := d.fromLost xy fun d =>
  let d := d.noteTile xy
  if d.fld CFG_STAT_PHASE = 2 ∧ (words.getD 0 0).toNat = d.com.epoch ∧ d.com.readyDue.contains xy = true then
    ((d.setCom { d.com with readyDue := d.com.readyDue.filter (· != xy) }).bump CFG_TILES_READY).sendGo
  else d

/-- READY (R518). -/
def execReady (src : BitVec 10) (words : List Word) (s : State) : Host.Outcome State Fault Refusal :=
  s.run fun d => d.readyMsg src.toNat words

/-- REFUSE of a worker: the commit ends with RESULT 3. -/
def Dev.refuseMsg (d : Dev) (xy : Nat) (words : List Word) : Dev := d.fromLost xy fun d =>
  let d := d.noteTile xy
  if d.fld CFG_STAT_PHASE = 2 ∧ (words.getD 0 0).toNat = d.com.epoch then d.abortCommit 3 xy (wGet (words.getD 1 0) 0 4) else d

/-- REFUSE (R518). -/
def execRefuse (src : BitVec 10) (words : List Word) (s : State) : Host.Outcome State Fault Refusal :=
  s.run fun d => d.refuseMsg src.toNat words

/-- The start of frame n at the manager: at F − 2 without every READY the commit is aborted with RESULT 4 (R518). -/
def Dev.readyDeadline (d : Dev) (n : Nat) : Dev :=
  if d.isManager ∧ d.fld CFG_STAT_PHASE = 2 ∧ 0 ≤ frameDiff d.com.apply ((n + 2) % 16777216) then
    let missing := d.com.tiles.filter fun t => d.com.readyDue.contains t || !d.hasJoined t
    d.abortCommit 4 (missing.headD 0) 0
  else d

/-- GO_ACK of a worker; one that comes after F has applied by GO_LATE (R520, R522). -/
def Dev.goAckMsg (d : Dev) (xy : Nat) (words : List Word) : Dev := d.fromLost xy fun d =>
  let d := d.noteTile xy
  if d.com.ackDue.contains xy ∧ (words.getD 0 0).toNat = d.com.epoch then
    let late := decide (4 ≤ d.fld CFG_STAT_PHASE)
    let d := d.setTile { d.tile xy with epoch := d.com.epoch }
    let d := d.setCom { d.com with ackDue := d.com.ackDue.filter (· != xy) }
    if late then
      let d := (d.bump CFG_CNT_LATE).noteLate
      if d.fld CFG_STAT_PHASE = 5 ∧ d.com.ackDue.isEmpty = true then d.commitDone else d
    else d
  else d

/-- GO_ACK (R520). -/
def execGoAck (src : BitVec 10) (words : List Word) (s : State) : Host.Outcome State Fault Refusal :=
  s.run fun d => d.goAckMsg src.toNat words

/-- GO_ACK_TIMEOUT: the workers without GO_ACK 1 s after F are reset (R521). -/
def Dev.goAckTimeout (d : Dev) : Dev :=
  if d.isManager ∧ 4 ≤ d.fld CFG_STAT_PHASE then
    let late := d.lateTiles
    let d := d.setCom { d.com with ackDue := [] }
    let d := late.foldl (fun d t => (d.bump CFG_CNT2_RESETS).resetTile t false) d
    let d := d.noteLate
    if d.fld CFG_STAT_PHASE = 5 then d.commitDone else d
  else d

/-- GO_ACK_TIMEOUT (R521). -/
def execGoAckTimeout (s : State) : Host.Outcome State Fault Refusal := s.run Dev.goAckTimeout

/-! The worker's side (R517, R519, R520, R529, R534). -/

/-- The reason to refuse a PREPARE, or 0 with what was judged (R517); of several reasons the first of the table (DESIGN CHOICE,
log entry 46). -/
def Dev.prepareJudge (d : Dev) (n f : Nat) (ps : List (Nat × Word)) : Nat × Judged :=
  let j := d.judgeSet ps false
  let reason :=
    if j.reason ≠ 0 then 1
    else if d.mode ≠ modeIdle ∧ d.mode ≠ modeActive then 2
    else if (d.fld CFG_EPOCH_N + 1) % 16777216 ≠ n then 3
    else if 0 ≤ frameDiff f ((d.time.frame + 2) % 16777216) then 4
    else 0
  (reason, j)

/-- The whole PREPARE is here: the worker builds the configuration and answers READY, or REFUSE. -/
def Dev.prepared (d : Dev) (n f : Nat) : Dev :=
  let (reason, j) := d.prepareJudge n f d.com.incoming
  let d := d.noteJudged j
  if reason = 0 then
    let d := d.setCom { d.com with
      built := j.pairs, epoch := n, apply := f, armed := true, go := false, late := false,
      incoming := [] }
    let d := ((d.setFld CFG_STAT_CLASS j.cls).setFld CFG_APPLY_F f).setFld CFG_STAT_RESULT 0
    ((d.setPhase 2).send msgReady 0 [word n]).issueOps
  else ((d.setCom { d.com with incoming := [] }).send msgRefuse 0 [word n, word reason]).issueOps

/-- A packet of a PREPARE; the message is taken when its last part is here (R572). -/
def Dev.prepareMsg (d : Dev) (words : List Word) : Dev :=
  if d.isWorker = false ∨ d.flag EGL_TILE_JOINED = false then d
  else
    let w3 := words.getD 2 0
    let old := if wGet w3 8 8 = 0 then [] else d.com.incoming
    let d := d.setCom { d.com with incoming := old ++ wordPairs (words.drop 3) }
    if wGet w3 8 8 + 1 < wGet w3 0 8 then d else d.prepared (words.getD 0 0).toNat (words.getD 1 0).toNat

/-- PREPARE (R517). -/
def execPrepare (_src : BitVec 10) (words : List Word) (s : State) : Host.Outcome State Fault Refusal :=
  s.run fun d => d.prepareMsg words

/-- GO and GO_LATE: a worker that holds the built commit applies it at F, or at its next frame boundary when F has begun; it
acknowledges a GO in time at once, else when it has applied (R519, R520). A worker that has applied it already answers
again. -/
def Dev.goMsg (d : Dev) (words : List Word) : Dev :=
  let n := (words.getD 0 0).toNat
  if d.isWorker = false then d
  else if d.com.armed ∧ d.com.epoch = n then
    let inTime := decide (frameDiff d.com.apply d.time.frame < 0) && !d.pwr.coreRestart
    let d := (d.setCom { d.com with go := true, late := !inTime }).setPhase 3
    if inTime then (d.send msgGoAck 0 [word n]).issueOps else d
  else if d.fld CFG_EPOCH_N = n then (d.send msgGoAck 0 [word n]).issueOps
  else d

/-- GO (R519). -/
def execGo (_src : BitVec 10) (words : List Word) (s : State) : Host.Outcome State Fault Refusal :=
  s.run fun d => d.goMsg words

/-- GO_LATE (R520). -/
def execGoLate (_src : BitVec 10) (words : List Word) (s : State) : Host.Outcome State Fault Refusal :=
  s.run fun d => d.goMsg words

/-- ABORT: the worker keeps its old configuration and epoch (R518). -/
def Dev.abortMsg (d : Dev) (words : List Word) : Dev :=
  if d.isWorker && d.com.armed && d.com.epoch == (words.getD 0 0).toNat then d.commitDone else d

/-- ABORT (R518). -/
def execAbort (_src : BitVec 10) (words : List Word) (s : State) : Host.Outcome State Fault Refusal :=
  s.run fun d => d.abortMsg words

/-! A cold apply's calibration (R511, R512). -/

/-- The cold apply is over: the scan resumes at the next frame start. -/
def Dev.coldDone (d : Dev) : Dev := if d.com.cold then (d.setCom { d.com with cold := false }).ownPartDone else d

/-- COLD_CALIBRATION_TIMEOUT: the scan resumes with the trims chosen so far, and the run goes on in slices (R512). -/
def execColdCalibrationTimeout (s : State) : Host.Outcome State Fault Refusal :=
  s.run fun d =>
    if d.com.cold then ((d.setFld CAL_STAT_STATE calSliced).bump CFG_CNT2_COLDTO).coldDone else d

/-- The registers of the block that show other state: the value read back, and from the apply on the tiles that lag, which a
tile that has left is no more (R522, R539). -/
def Dev.cfgView (d : Dev) (a : Nat) : Option Word :=
  if a = CFG_RDVAL then some (cellsGet paramDefault d.cfg (d.fld CFG_RDPID_PID))
  else if a = CFG_STAT ∧ 4 ≤ d.fld CFG_STAT_PHASE then some (wSet (d.reg a) 18 1 (bit (!d.lateTiles.isEmpty)))
  else if a = CFG_TILES ∧ 4 ≤ d.fld CFG_STAT_PHASE then some (wSet (d.reg a) 0 11 d.lateTiles.length)
  else none

end Sys2Proof.Machine
end

