-- ==== Sys2Proof/Machine/FrameStart.lean ====
section
/-!
DEFINITION. FrameStart.lean: the frame boundary, where frames, commits and mode changes begin (R26, R170, R188, R225, R252,
R258, R513, R549, R552, R620); the end of a frame's tracking; WATCH scans; and the end of a core restart.
-/

namespace Sys2Proof.Machine

/-! Mode changes at a boundary (R163, R169, R170, R188). -/

/-- A waiting change takes effect at the start of frame n: at the next boundary, or from its apply frame on. -/
def ModeReq.due (r : ModeReq) (n : Nat) : Bool :=
  match r.apply with
  | none => true
  | some f => decide (0 ≤ frameDiff f n)

/-- An automatic transition that HOLD, a commit or a contact holds back (R169, R528). -/
def Dev.autoBarred (d : Dev) (r : ModeReq) : Bool :=
  r.apply.isNone && (d.flag PWR_STAT_HOLD || d.fld CFG_STAT_PHASE != 0 || (r.mode != modeActive && !d.noContact))

/-- A worker acknowledges the manager's mode command (R170). -/
def Dev.ackMode (d : Dev) (r : ModeReq) : Dev :=
  if d.isWorker ∧ r.reason = 6 then (d.send msgModeAck 0 [word r.mode, word (r.apply.getD 0)]).issueOps else d

/-- The changes due at frame n: the highest in the order of R188 takes effect, the others are discarded, and a discarded
host command is reported. A worker's command from the manager stands where the host's command does. -/
def Dev.modeBoundary (d : Dev) (n : Nat) : Dev :=
  let m := d.modes
  let due (r : Option ModeReq) : Option ModeReq := r.filter fun r => r.due n
  let later (r : Option ModeReq) : Option ModeReq := r.filter fun r => !r.due n
  let auto := (due m.auto).filter fun r => !d.autoBarred r
  let ranked := [due m.service, due (if d.isWorker then m.manager else m.host), due m.wake, auto, due m.orphan]
  match ranked.findSome? id with
  | none => if (due m.auto).isSome then (d.setModes { m with auto := none }).markPending none else d
  | some r =>
    let dropped := if (due m.service).isSome then due m.host else none
    let d := (d.setModes { m with
      service := later m.service, host := later m.host, manager := later m.manager, wake := later m.wake
      auto := later m.auto, orphan := later m.orphan }).markPending none
    let old := d.mode
    let d := (d.changeMode r.mode r.reason (r.apply.getD n)).ackMode r
    match dropped with
    | some h => d.recordMode h.mode old 9 n
    | none => d

/-- The first frame with a contact in IDLE schedules ACTIVE, by the manager on a surface; a waiting automatic change to WATCH
gives way to it (R163, R192). -/
def Dev.idleToActive (d : Dev) : Dev :=
  let going := (d.modes.auto.map ModeReq.mode).any (· == modeActive)
  if d.mode = modeIdle ∧ d.autoAllowed = true ∧ d.noContact = false ∧ going = false then d.autoMode modeActive else d

/-- A contact on the surface keeps PWR_IDLETMR at 0. -/
def Dev.noteContact (d : Dev) : Dev :=
  if d.noContact then d else d.setModes { d.modes with lastContact := d.ticks }

/-- CONTACTS_DEADLINE (R564, R163). -/
def execContactsDeadline (s : State) : Host.Outcome State Fault Refusal :=
  s.run fun d => d.contactsDeadline.noteContact.idleToActive

/-! Slots (R214 to R216, R252, R258, R281, R283, R552). -/

/-- SCAN_FALLOW for frame n: the two slots of the tile's colour on a surface, all of them on a standalone tile. -/
def Dev.fallowMask (d : Dev) (n : Nat) : Nat :=
  if d.onSurface then
    let q := d.par secSurface 0x04
    let r := if q = 0 then 0 else n / (256 * q) % 4
    let c := d.tileX % 2 + 2 * (d.tileY % 2)
    3 * 4 ^ ((c + r) % 4)
  else 0xFF

/-- The next enabled and allowed slot after the present one, in ascending order with wrap (R252). -/
def Dev.slotAfter (d : Dev) : Option Nat :=
  ((List.range 7).map fun i => (d.trk.slot + 1 + i) % 8).find? fun k => d.slotUsable k

/-- FREQ and FREQ_EN, whose change has a decided hop judged again (R283). -/
def Dev.slotWords (d : Dev) : List Nat := d.par secScan 0x03 :: (List.range 8).map d.hdiv

/-- The slot of a refresh frame, when frame n is one (R252): every 16th frame is taken as the frames whose number is a
multiple of 16 (DESIGN CHOICE, log entry 74). -/
def Dev.refreshSlot (d : Dev) (n : Nat) : Option Nat :=
  let calm := match d.trk.lastContact with
    | none => true
    | some t => decide (t + 32768 ≤ d.ticks)
  if d.par secTrack 0x11 == 1 && d.mode == modeIdle && n % 16 == 0 && d.trk.contacts.isEmpty && calm && !d.flag SCAN_CTRL_FREEZE then
    d.slotAfter
  else none

/-! A frame begins (R26, R223, R227, R232). -/

/-- Frames that began during a core restart are dropped once the cores run: their banks are released, and they have no
frame-end record (R112). -/
def Dev.dropScrap (d : Dev) : Dev :=
  if d.pwr.coreRestart then d
  else
    let gone := d.trk.queue.filter fun f => f.scrap
    let d := (gone.filter FrameInfo.buffer).foldl (fun d f => d.setOwner (f.n % 4) 0) d
    d.setTrk { d.trk with queue := d.trk.queue.filter fun f => !f.scrap }

/-- The bank of frame n is free for the front end (R232). -/
def Dev.bankFree (d : Dev) (n : Nat) : Bool := d.owner (n % 4) == 0 && !d.taken (n % 4)

/-- The front end takes the bank and writes header words 0 to 3, or the frame is an overrun (R227, R232). -/
def Dev.takeBank (d : Dev) (n : Nat) : Bool × Dev :=
  if d.bankFree n then
    (true, ((d.setOwner (n % 4) 1).clearUnlisted (n % 4) (d.flag SCAN_CTRL_IQ)).fillBank (n % 4) 0 (d.headerStart n))
  else
    let d := d.bump SCAN_CNT_OVERRUN
    (false, d.ring 21 (word n) (word (d.fld SCAN_CNT_OVERRUN)))

/-- Frame n is scanned. -/
def Dev.beginScan (d : Dev) (n : Nat) (stretched : Bool) (resets : List (Nat × Bool)) : Dev :=
  let refresh := d.refreshSlot n
  let slot := refresh.getD d.trk.slot
  let (buffer, d) := d.takeBank n
  let (core, d) := d.draw 4
  let t := d.time.now
  let f : FrameInfo := {
    n := n, tick := d.ticks, sec := t.1, frac := t.2, header := d.headerStart n, buffer := buffer, slot := slot
    omitted := !d.slotUsable slot, refresh := refresh.isSome, gap := false, transition := false, stretched := stretched
    newChannels := d.scan.changed, chans := d.carriers, resets := resets, core := core, scrap := d.pwr.coreRestart }
  let d := { d with scan := { d.scan with
    cur := some f, pump := false, slewing := false, nodrive := false, changed := [], iq := d.flag SCAN_CTRL_IQ
    watchTick := none } }
  ((d.markVtx.setFld SCAN_STAT_PHASE 1).setFld SCAN_STAT_SLOT slot)

/-- Frame n is a gap frame: it starts on time, and the front end drives and senses nothing (R510, R511). -/
def Dev.gapFrame (d : Dev) (n : Nat) (stretched : Bool) (resets : List (Nat × Bool)) : Dev :=
  let t := d.time.now
  let f : FrameInfo := {
    n := n, tick := d.ticks, sec := t.1, frac := t.2, header := d.headerStart n, buffer := false, slot := d.trk.slot
    omitted := true, refresh := false, gap := true, transition := true, stretched := stretched
    newChannels := [], chans := [], resets := resets, core := 0, scrap := d.pwr.coreRestart }
  (d.setTrk { d.trk with queue := d.trk.queue ++ [f] }).setFld SCAN_STAT_PHASE 4

/-- The stretched frame: whether frame n is it, once its notice is used up, which a worker acknowledges (R867 to R869). -/
def Dev.takeStretch (d : Dev) (n : Nat) : Bool × Dev :=
  match d.cal.stretch with
  | none => (false, d)
  | some f =>
    if frameDiff f n < 0 then (false, d)
    else
      let d := (d.setCal { d.cal with stretch := none, window := if f = n then some n else d.cal.window }).setFlag
        CAL_STAT_STRETCH false
      let d := if d.isWorker then (d.send msgModeAck 0 [word (d.mode + 8), word f]).issueOps else d
      (decide (f = n), if f = n ∨ d.onSurface = false then d.bump CAL_CNT_STRETCHES else d)

/-- The commit at the start of frame n: a warm commit ends with its gap frame, a built one applies at F, and the manager
repeats GO_LATE to the tiles that lag (R510, R513, R518, R520). Answers what the boundary does to tracking, and whether
frame n is a gap frame. -/
def Dev.commitBoundary (d : Dev) (n : Nat) : List (Nat × Bool) × Bool × Dev :=
  let d := d.readyDeadline n
  let d := if d.fld CFG_STAT_PHASE = 4 ∧ d.com.cold = false then d.ownPartDone else d
  let d := if d.fld CFG_STAT_PHASE = 5 then d.lateBoundary else d
  if d.commitDue n then
    let warm := decide (d.fld CFG_STAT_CLASS ≠ 0)
    let (resets, d) := d.applyCommit n
    (resets, warm, d)
  else ([], d.com.cold, d)

/-- BLRESET acts at the boundary (R285). -/
def Dev.blBoundary (d : Dev) : List (Nat × Bool) × Dev :=
  if d.trk.blReset then ([(9, true)], d.setTrk { d.trk with blReset := false }) else ([], d)

/-! The boundary itself. -/

/-- Frames start: start-up has ended, and the mode has them. A worker starts none before it has joined (R544); in SAFE only
`scan run` has frames. -/
def Dev.framesRun (d : Dev) : Bool :=
  let mode := d.mode == modeWatch || d.mode == modeIdle || d.mode == modeActive || d.mode == modeService
  d.pwr.step == 8 && ((d.mode == modeSafe && d.flag SCAN_STAT_RUN) ||
    (mode && (!d.isWorker || d.flag EGL_TILE_JOINED || (d.surf.firstFrame.isSome && d.surf.deltaDue == 0))))

/-- A worker's first frame: it has joined, and a tile with SVCEN# low, or one whose `svc` waits for it, sends its
SERVICE request (R73, R91, R544). -/
def Dev.firstFrame (d : Dev) : Dev :=
  let d := (d.setSurf { d.surf with firstFrame := none }).setFlag EGL_TILE_JOINED true
  if d.con.waitJoin || d.con.requestDue then
    let leave := d.con.requestDue && !d.con.waitJoin && d.con.request == 2
    let d := { d with con := { d.con with waitJoin := false, requestDue := false } }
    (d.send msgSvcReq 0 [word (bit leave)]).issueOps
  else d

/-- The number of the frame that starts: a joining worker's is that of its WELCOME (R26, R548). -/
def Dev.nextFrame (d : Dev) : Nat :=
  match d.surf.firstFrame with
  | some p => p.1
  | none => (d.time.frame + 1) % 16777216

/-- The manager of a surface sends its beacon, in WATCH on the ports that were up at its entry (R549, R620, R625). -/
def Dev.beaconFrame (d : Dev) (n : Nat) : Dev :=
  if d.isManager then
    let t := d.time.now
    (d.setSurf { d.surf with beaconFrame := some (n, t.1, t.2) }).sendBeacons n t.1 t.2 (d.mode == modeWatch)
  else d

/-- The manager of a surface gathers the contacts of a frame that will have a frame-end record of its own: one with a frame
buffer, or a gap frame, that no core restart takes (R307, R564). -/
def Dev.gatherFrame (d : Dev) (n : Nat) (gap : Bool) : Dev :=
  let taken := match d.scan.cur with
    | some f => f.buffer
    | none => gap
  if d.isManager && d.onSurface && !d.pwr.coreRestart && taken then { d with surf := { d.surf with frame := some n } } else d

/-- The frames of IDLE and ACTIVE, and those of `scan run`: the scan, and on a manager the contacts that will be gathered
(R564). In WATCH the frame is a WATCH scan (R229). A frame that is not scanned does at once what its boundary does to
tracking. -/
def Dev.startScan (d : Dev) (n : Nat) (gap : Bool) (resets : List (Nat × Bool)) : Dev :=
  let runs := d.flag SCAN_STAT_RUN && d.hasSensor
  if runs && d.mode != modeWatch then
    let (stretched, d) := d.takeStretch n
    (if gap then d.gapFrame n stretched resets else d.beginScan n stretched resets).gatherFrame n gap
  else
    let d := d.trackBoundary resets d.trk.slot n
    if runs then { d with scan := { d.scan with watchTick := some d.ticks } }.setFld SCAN_STAT_PHASE 5 else d

/-- FRAME_START: the boundary before frame n. A commit applies first, then the slot is judged against the new slots, then a
mode change takes effect (R188, R283, R513). -/
def Dev.frameStart (d : Dev) : Dev :=
  if d.framesRun = false ∨ d.scan.cur.isSome = true then d
  else
    let n := d.nextFrame
    let joining := d.surf.firstFrame.isSome
    let d := if d.surf.frame.isSome then d.contactsDeadline else d
    let d := if joining then d.firstFrame else d
    let d := { d with time := { d.time with frame := n }, scan := { d.scan with startTick := d.ticks } }
    let d := ((d.dropScrap.capAbandon n).reportForwardLoss).noteContact
    let slots := d.slotWords
    let (r1, gap, d) := d.commitBoundary n
    let (r2, d) := d.blBoundary
    let d := (d.setFld SCAN_FALLOW_MASK (d.fallowMask n)).slotBoundary (slots != d.slotWords)
    let d := d.setTrk { d.trk with dwell := d.trk.dwell.map (· + 1) }
    let d := (d.modeBoundary n).answerJoins
    let d := if joining ∧ scansIn d.mode = true then d.resumeScan else d
    (d.beaconFrame n).startScan n gap (r1 ++ r2)

/-- FRAME_START (R26). -/
def execFrameStart (s : State) : Host.Outcome State Fault Refusal := s.run Dev.frameStart

/-! The end of a frame's tracking (R27, R276, R298, R509, R558). -/

/-- Runs with the words that were in force for frame n, where a commit has applied since (R509). -/
def Dev.withPast (d : Dev) (n : Nat) (f : Dev → Dev) : Dev :=
  let past := d.com.past.filter fun p => decide (frameDiff p.1 n < 0)
  let now := d.cfg
  let d := f (past.foldl (fun d p => p.2.foldl (fun d w => d.setCfg w.1 w.2.toNat) d) d)
  if past.isEmpty then d else { d with cfg := now }

/-- Old words that no frame needs any longer are forgotten. -/
def Dev.dropPast (d : Dev) : Dev :=
  let frames := (d.trk.queue ++ d.scan.cur.toList).map FrameInfo.n
  d.setCom { d.com with past := d.com.past.filter fun p => frames.any fun n => decide (frameDiff p.1 n < 0) }

/-- A transition lasts until the acquisition has ended (R510). -/
def Dev.transitionOf (d : Dev) (f : FrameInfo) : Bool × Dev :=
  if f.gap then (true, d)
  else if d.trk.transition then
    if d.baselinesValid f.slot then (false, d.setTrk { d.trk with transition := false }) else (true, d)
  else (false, d)

/-- The HID report set of a tracked frame of a standalone tile; cancels of an untracked frame wait for the next set (R469,
R470). -/
def Dev.hidTile (d : Dev) (f : FrameInfo) (tracked : Bool) (cancels reps : List Report) : Dev :=
  let gone := cancels.map (d.hidOf false false)
  if tracked then
    let lifts := (reps.filter fun r => r.kind == 2).map (d.hidOf false true)
    let live := d.trk.contacts.map fun c => d.hidOf true true (c.report 1 0)
    d.hidFrame f.sec f.frac (d.frameFlags f true) gone lifts live
  else d.hidOwe gone

/-- The contacts and gestures of a frame on a surface go to the manager (R314, R558); an untracked frame lists cancels
only. -/
def Dev.surfaceOut (d : Dev) (f : FrameInfo) (tracked : Bool) (reps : List Report) (gestures : List (Word × Word)) : Dev :=
  let restart := if tracked then d.trk.restartCancels else []
  let cancels := byId (restart ++ d.trk.pending)
  let flags := d.frameFlags f tracked
  let d := d.setTrk { d.trk with
    pending := [], restartCancels := if tracked then [] else d.trk.restartCancels
    reported := d.trk.contacts.map fun c => c.report 1 0 }
  let waiting := if d.isWorker then d.surf.gestures else []
  let d := if d.isWorker then d.setSurf { d.surf with gestures := [] } else d
  d.sendContacts f.n flags (cancels ++ byId reps) (waiting ++ gestures)

/-- One frame is tracked, and its records go out (R276, R308, R558). -/
def Dev.trackOne (d : Dev) (f : FrameInfo) (handed : List Nat) : Dev :=
  let d := d.trackBoundary f.resets f.slot f.n
  let before := d.trk.contacts
  let valid := d.baselinesValid f.slot
  let (transition, d) := d.transitionOf f
  let f := { f with transition := transition }
  let (tracked, reps, d) := d.trackFrame f handed
  let (gestures, d) := if tracked then d.frameGestures f.tick before reps else ([], d)
  if d.onSurface then d.surfaceOut f tracked reps gestures
  else
    let cancels := (if tracked then d.trk.restartCancels else []) ++ d.trk.pending
    (d.hidTile f tracked cancels reps).standaloneReports f tracked valid reps gestures

/-- TRK_LAT (R276): the time from the end of the scan to the last record, and the frames beyond 2.0 ms. -/
def Dev.noteLatency (d : Dev) (us : Nat) : Dev :=
  let d := if 2000 < us then d.bump TRK_LAT_LATE else d
  d.setFld TRK_LAT_MAX (max us (d.fld TRK_LAT_MAX))

/-- TRACK_FRAME: the tracking of the oldest frame handed over completes. -/
def Dev.trackEnd (d : Dev) (us : Nat) (handed : List Nat) : Dev :=
  let d := d.dropScrap
  match d.trk.queue with
  | [] => d
  | f :: rest =>
    if d.pwr.coreRestart then d
    else
      let d := d.setTrk { d.trk with queue := rest }
      let d := d.withPast f.n fun d => d.trackOne f handed
      let d := ((d.afterTracking f).noteLatency us).noteContact
      ((d.noteTelem f.stretched).idleToActive).dropPast

/-- TRACK_FRAME (R276). -/
def execTrackFrame (us : BitVec 16) (handed : List (BitVec 2)) (s : State) : Host.Outcome State Fault Refusal :=
  s.run fun d => d.trackEnd us.toNat (handed.map BitVec.toNat)

/-! WATCH scans (R164, R174, R175, R229, R315). -/

/-- The rectangles of WAKE_REGIONS, four words each. -/
def rects : List Nat → List (Nat × Nat × Nat × Nat)
  | x0 :: y0 :: x1 :: y1 :: rest => (x0, y0, x1, y1) :: rects rest
  | _ => []

/-- The wake regions that hold a place of the tile in mm, as bits; without WAKE_REGIONS the whole surface is region 0
(R175). -/
def Dev.regionsAt (d : Dev) (x y : Nat) : Nat :=
  let rs := rects (d.fieldWords secModes 0x0E)
  if rs.isEmpty then 1
  else
    let p := d.orient (100 * (x : Int)) (100 * (y : Int))
    let q := d.surfaceXY d.tileX d.tileY p.1 p.2
    pack (rs.zipIdx.map fun r =>
      (bit (decide (r.1.1 ≤ q.1 ∧ r.1.2.1 ≤ q.2 ∧ q.1 ≤ r.1.2.2.1 ∧ q.2 ≤ r.1.2.2.2)), r.2)) |>.toNat

/-- Bit CODE − 1 of WATCH_GEST, and ANY_TOUCH in bit 7, for the codes of R312. -/
def Dev.watchGest (d : Dev) (code : Nat) : Bool := (d.par secModes 0x06).testBit (code - 1)

/-- A recognised gesture: its code, its region and its start in mm. -/
structure WatchGesture where
  code : Nat
  region : Nat
  x : Nat
  y : Nat
  deriving DecidableEq, Repr

def WatchTouch.gesture (t : WatchTouch) (code : Nat) : WatchGesture := ⟨code, lowestBit t.regions, t.x0, t.y0⟩

/-- Squared distance of two places in mm. -/
def mmDist2 (ax ay bx by_ : Nat) : Nat := dist2 ax ay bx by_

/-- The short touch before, where t with it makes a double tap within one region: its regions, its start and its lift
(R174). -/
def Dev.firstTap (d : Dev) (t : WatchTouch) : Option (Nat × Nat × Nat × Nat) :=
  d.rpt.lastTap.filter fun p =>
    p.1 &&& t.regions != 0 && withinMs p.2.2.2 t.tick0 (d.par secModes 0x0F 0) && decide (mmDist2 t.x0 t.y0 p.2.1 p.2.2.1 ≤ 100)

/-- A touch that has ended: a short one is the second of a double tap within a region that holds both, or may be the first of
one. The gesture starts where the first tap did (R174, R312). -/
def Dev.watchLift (d : Dev) (t : WatchTouch) : List WatchGesture × Dev :=
  if !shorterMs t.tick0 d.ticks 300 || t.regions == 0 then ([], d)
  else match d.firstTap t with
    | some p =>
      (if d.watchGest 1 then [⟨1, lowestBit (p.1 &&& t.regions), p.2.1, p.2.2.1⟩] else [],
        d.setRpt { d.rpt with lastTap := none })
    | none => ([], d.setRpt { d.rpt with lastTap := some (t.regions, t.x0, t.y0, d.ticks) })

/-- A touch seen again, or seen first, in this scan. -/
def Dev.watchSee (d : Dev) (id x y : Nat) : WatchTouch :=
  match d.rpt.touches.find? fun t => t.id == id with
  | some t =>
    { t with
      x := x, y := y, regions := t.regions &&& d.regionsAt x y
      still := t.still && decide (mmDist2 t.x0 t.y0 x y ≤ 25), trail := addTrail t.trail d.ticks (x, y) }
  | none => ⟨id, x, y, d.ticks, x, y, d.regionsAt x y, true, false, [(d.ticks, x, y)]⟩

/-- The gesture that a touch makes now, if any: a swipe, a long press, or the touch itself when it is new. -/
def Dev.watchLive (d : Dev) (t : WatchTouch) (fresh : Bool) : List WatchGesture :=
  if t.regions = 0 then []
  else
    let any := if fresh ∧ d.watchGest 8 then [t.gesture 8] else []
    let trail : List (Nat × Int × Int) := t.trail.map fun p => (p.1, 100 * (p.2.1 : Int), 100 * (p.2.2 : Int))
    let swipe := match d.swipeOf trail (100 * (t.x : Int)) (100 * (t.y : Int)) with
      | some k => if d.watchGest k.1 && !t.used then
          [⟨k.1, lowestBit t.regions, (k.2.1 / 100).toNat, (k.2.2 / 100).toNat⟩] else []
      | none => []
    let long := t.still && !t.used && !shorterMs t.tick0 d.ticks (d.par secModes 0x0F 2) && d.watchGest 7
    any ++ swipe ++ if long then [t.gesture 7] else []

/-- Regions covered by at least PALM_PCT of their part on the tile, held for 300 ms, each once per cover (R174). -/
def Dev.watchPalm (d : Dev) (covered : List Nat) : List WatchGesture × Dev :=
  let now := ((covered.take 8).zipIdx.filter fun p => decide (d.par secModes 0x0F 3 ≤ p.1)).map Prod.snd
  let next := now.map fun r => (d.rpt.covered.find? fun p => p.1 == r).getD (r, d.ticks, false)
  let ripe (p : Nat × Nat × Bool) : Bool := !p.2.2 && !shorterMs p.2.1 d.ticks 300
  let made := (next.filter ripe).map fun p => (⟨6, p.1, 0, 0⟩ : WatchGesture)
  (if d.watchGest 6 then made else [], d.setRpt { d.rpt with covered := next.map fun p => (p.1, p.2.1, p.2.2 || ripe p) })

/-- Gestures of one scan in ascending region, then in ascending code (R325). -/
def inRegionOrder (gs : List WatchGesture) : List WatchGesture :=
  gs.mergeSort fun a b => decide (a.region < b.region ∨ (a.region = b.region ∧ a.code ≤ b.code))

/-- A wake gesture is raised, by the manager on a surface, before the tile wakes; the first that wakes carries WOKE. Its ID
field is 31 (R312, R314, R315). -/
def Dev.watchRaise (d : Dev) (g : WatchGesture) : Dev :=
  let wakes := !d.modes.wokenInWatch && d.modes.wake.isNone && (d.isWorker || !d.flag PWR_STAT_HOLD)
  let w := d.gestureWords g.code g.region wakes 31 (100 * (g.x : Int)) (100 * (g.y : Int))
  let d := if d.isWorker && d.onSurface then d.sendContacts d.time.frame 0 [] [w] else d.raiseGesture w
  if wakes then (d.noteWake 0 g.code false).watchWakes else d

/-- The header and the self-capacitance samples of a WATCH scan (R229); no core keeps the bank. The scan moves the
self-capacitance baselines, and a changed channel's nodes are to be acquired again (R254, R255, R291). -/
def Dev.watchFrame (d : Dev) (selfs : List Word) : Dev :=
  let n := d.time.frame
  let free := d.bankFree n
  let f : FrameInfo := {
    n := n, tick := d.scan.watchTick.getD d.ticks, sec := 0, frac := 0, header := [], buffer := free, slot := d.trk.slot
    omitted := true, refresh := false, gap := false, transition := false, stretched := false
    newChannels := d.scan.changed, chans := [], resets := [], core := 0, scrap := false }
  let d := { d with scan := { d.scan with
    pump := false, slewing := false, nodrive := false, iq := false, changed := [], watchTick := none } }
  let d := (d.renewChannels f).setFld SCAN_STAT_PHASE 4
  if free then
    let (o, d) := ((d.clearUnlisted (n % 4) false).fillBank (n % 4) 0 (d.headerStart n)).writeSelf (n % 4) selfs
    let tail := d.headerEnd f o
    let d := d.fillBank (n % 4) 4 (((tail.headD 0) ||| 0x80#24) :: tail.drop 1)
    ((if o = 0 then d else d.bump SCAN_CNT_OVERLOAD).setFld SCAN_FRAME_LAST n).updateSelf (n % 4) d.ticks d.trk.slot n
  else
    let d := d.bump SCAN_CNT_OVERRUN
    d.ring 21 (word n) (word (d.fld SCAN_CNT_OVERRUN))

/-- WATCH_SCAN: the passes of a WATCH scan, and the gestures met at it. -/
def Dev.watchScan (d : Dev) (selfs : List Word) (seen : List (Nat × Nat × Nat)) (covered : List Nat) : Dev :=
  if d.mode ≠ modeWatch ∨ d.hasSensor = false ∨ d.pwr.step ≠ 8 then d
  else
    let d := d.watchTurn.watchFrame selfs
    let old := d.rpt.touches
    let (taps, d) := (old.filter fun t => !seen.any fun p => p.1 == t.id).foldl (fun (acc : List WatchGesture × Dev) t =>
      let (g, d) := acc.2.watchLift t
      (acc.1 ++ g, d)) ([], d)
    let now := seen.map fun p => d.watchSee p.1 p.2.1 p.2.2
    let made := now.map fun t => (t, d.watchLive t (!old.any fun o => o.id == t.id))
    let d := d.setRpt { d.rpt with
      touches := made.map fun p => { p.1 with used := p.1.used || p.2.any fun g => g.code != 8 } }
    let (palms, d) := d.watchPalm covered
    (inRegionOrder (taps ++ made.flatMap (fun p => p.2) ++ palms)).foldl Dev.watchRaise d

/-- WATCH_SCAN (R229). -/
def execWatchScan (selfs : List Word) (touches : List (BitVec 5 × BitVec 12 × BitVec 12)) (covered : List (BitVec 7)) (s : State) :
    Host.Outcome State Fault Refusal :=
  s.run fun d => d.watchScan selfs (touches.map fun p => (p.1.toNat, p.2.1.toNat, p.2.2.toNat)) (covered.map BitVec.toNat)

/-! The end of a core restart (R112, R113, R530). -/

/-- CORE_RESTART_END: tracking resumes; the third restart within 10 s ends in SAFE with cause 4, and ends a start-up or a wake
in progress (R113, R193). -/
def Dev.coreRestartEnd (d : Dev) : Dev :=
  if d.pwr.coreRestart then
    let d := { d with pwr := { d.pwr with coreRestart := false } }
    let cores := d.evr.cores.map fun c => { c with restarting := false }
    let d := { d with evr := { d.evr with cores := cores } }
    let d : Dev := d.dropScrap.reportReset.irRelease
    if d.fld SYS_RSTCAUSE_WDRECENT < 3 then d else if d.pwr.step < 8 then d.bootSafe 4 else d.enterSafe 4
  else d

/-- CORE_RESTART_END (R112). -/
def execCoreRestartEnd (s : State) : Host.Outcome State Fault Refusal := s.run Dev.coreRestartEnd

/-! The end of a full calibration run (R76, R511, R864). -/

/-- A full run has ended: start-up goes on to step 7, a cold apply is over, or the scan resumes after SERVICE. -/
def Dev.afterFullRun (d : Dev) : Dev :=
  if d.pwr.step = 6 then d.enterStep7
  else if d.com.cold then d.coldDone
  else if scansIn d.mode = true ∧ (d.isWorker = false ∨ d.flag EGL_TILE_JOINED = true) then d.resumeScan
  else d

/-- A run in full is in progress. -/
def Dev.fullRuns (d : Dev) : Bool := d.fld CAL_STAT_STATE == calFull

/-- STARTUP_CALIBRATION_END (R864). -/
def execStartupCalibrationEnd (items : List (List (BitVec 16) × Bool)) (s : State) : Host.Outcome State Fault Refusal :=
  s.run fun d => if d.fullRuns then (d.endFullRun items).afterFullRun else d

/-- FULL_RUN_TIMEOUT: the choices made so far stand, and the run goes on in slices (R864). -/
def execFullRunTimeout (items : List (List (BitVec 16) × Bool)) (s : State) : Host.Outcome State Fault Refusal :=
  s.run fun d =>
    if d.fullRuns ∧ d.pwr.step = 6 then ((d.takeItems items).setFld CAL_STAT_STATE calSliced).enterStep7 else d

end Sys2Proof.Machine
end

