-- ==== Sys2Proof/Machine/Usb.lean ====
section
/-!
DEFINITION. Usb.lean: the USB device (13_usb.md): attach, device states, descriptors and standard requests, HID reports, suspend,
resume and remote wake; and the lock of the fast oscillator, on which the attach depends (R107, R123).
-/

namespace Sys2Proof.Machine

/-! Attach and detach (R459, R495). -/

/-- USB_ERROR (R497); the fault log takes an error that reports a detach. -/
def Dev.usbError (d : Dev) (kind : Nat) : Dev := d.ring 194 (word kind) (d.reg USB_CNT)

/-- Every endpoint in its initial state: no halt, no report, no command and no response (R462). -/
def Dev.endpointsReset (d : Dev) : Dev :=
  d.setUsb { d.usb with
    halt1 := false, halt2Out := false, halt2In := false, ep0 := none, reports := [], setStarted := false, nextReports := []
    carried := [], owed := [], command := none, response := none, release := 0, detachAtAck := none, idle := 0 }

/-- The pull-up disconnects: both lines are released, and STATE is 0. -/
def Dev.usbDetach (d : Dev) : Dev :=
  if d.usbState = 0 then d
  else
    let d := d.endpointsReset
    let d := d.setUsb { d.usb with wake := 0, wakeReport := false, sofCount := 0, lastInput := none }
    let d := { d with pwr := { d.pwr with sofRef := false } }
    let d := { d with modes := { d.modes with beforeSuspend := none } }
    (((d.setReg USB_STAT 0).followReference)).usbEvent 0

/-- USB_ATTACH: VBUSDET has been valid for 2 ms. -/
def execUsbAttach (s : State) : Host.Outcome State Fault Refusal :=
  s.run fun d => (d.setUsb { d.usb with vbus := true }).usbTry

/-- USB_DETACH (R459): VBUSDET has fallen, or another condition of R458 has ended. -/
def execUsbDetach (vbus : Bool) (s : State) : Host.Outcome State Fault Refusal :=
  s.run fun d =>
    let d := if vbus then d else d.setUsb { d.usb with vbus := false }
    if d.usbReady then d else d.usbDetach

/-- FOSC_LOCK (R123): the loop locks, and USB may attach. -/
def execFoscLock (s : State) : Host.Outcome State Fault Refusal :=
  s.run fun d =>
    if d.flag SYS_CLK_FOSC_ON ∧ d.flag SYS_CLK_LOCKED = false ∧ d.pwr.lockFails < 3 then
      ((d.setFlag SYS_CLK_LOCKED true).followReference).usbTry
    else d

/-- FOSC_LOCK_LOST (R123, R495): the lock is tried anew. -/
def execFoscLockLost (s : State) : Host.Outcome State Fault Refusal :=
  s.run fun d =>
    if d.flag SYS_CLK_LOCKED then
      let attached := d.usbState != 0
      let d := { d with pwr := { d.pwr with lockFails := 0 } }
      let d := ((d.setFlag SYS_CLK_LOCKED false).followReference).usbDetach
      if attached then (d.logEvent 194 2 (d.reg USB_CNT)).usbError 2 else d
    else d

/-- A write of USB_CTRL: DETACH acts at once, or over USB itself at the acknowledgement of its response (R493). -/
def Dev.setDetach (d : Dev) (b : Bool) : Dev :=
  let d := d.setFlag USB_CTRL_DETACH b
  if b then d.usbDetach else d.usbTry

def Dev.writeUsbCtrl (d : Dev) (rq : Requester) (v : Word) : Dev :=
  let b := wGet v 0 1 == 1
  if wGet v 16 8 ≠ 0x5A then d.ignoreWrite
  else if rq = .usb ∧ b = true then d.setUsb { d.usb with detachAtAck := some true }
  else d.setDetach b

/-- DETACH (R493). -/
def execDetach (rq : Requester) (value : Word) (s : State) : Host.Outcome State Fault Refusal :=
  s.run fun d => d.writeUsbCtrl rq value

/-! Start-of-frame tokens and bus reset (R107, R460, R462). -/

/-- START_OF_FRAME_TOKEN: FRNUM, the loop's reference, and the tokens since the bus reset. -/
def execStartOfFrameToken (frame : BitVec 11) (s : State) : Host.Outcome State Fault Refusal :=
  s.run fun d =>
    if d.usbState = 0 ∨ d.flag USB_STAT_SUSP = true then d
    else
      let d := (d.setFld USB_FRNUM_FRNUM frame.toNat).setUsb { d.usb with sofCount := d.usb.sofCount + 1 }
      ({ d with pwr := { d.pwr with sofRef := true } } : Dev).followReference

/-- SOF_LOCK (R460): after 3 tokens in a row the device answers tokens. -/
def execSofLock (s : State) : Host.Outcome State Fault Refusal :=
  s.run fun d => if usbDefault ≤ d.usbState ∧ 3 ≤ d.usb.sofCount then d.setFlag USB_STAT_SOFLOCK true else d

/-- A bus reset. It ends a suspend, and with it a remote wake (R462, R486, R488, R490). -/
def Dev.busReset (d : Dev) : Dev :=
  if d.usbState = 0 then d
  else
    let report := d.usb.wakeReport
    let d := d.endpointsReset
    let d := d.setUsb { d.usb with wake := 0, wakeReport := false, sofCount := 0, lastInput := none }
    let d := { d with modes := { d.modes with beforeSuspend := none } }
    let d := ((d.setReg USB_STAT (word usbDefault)).bump USB_CNT_BUSRESET).usbEvent 2
    if report then d.ring 193 (word (d.fld USB_RWK_OUTCOME)) (word (d.fld USB_RWK_SRC)) else d

/-- USB_BUS_RESET (R462). -/
def execUsbBusReset (s : State) : Host.Outcome State Fault Refusal := s.run Dev.busReset

/-! Descriptors (R463, R464, R466, R467). -/

/-- 32 bits, least significant byte first. -/
def le32 (n : Nat) : List Byte := bytesOf [n, n / 256, n / 65536, n / 16777216]

def Dev.hasHid (d : Dev) : Bool := d.par secHost 0x12 == 1

/-- The index of a string whose field is present (R466). -/
def Dev.mfrIndex (d : Dev) : Nat := if d.parLen secHost 0x15 = 0 then 0 else 1
def Dev.prodIndex (d : Dev) : Nat := if d.parLen secHost 0x16 = 0 then 0 else 2
def Dev.serialIndex (d : Dev) : Nat := if d.par secHost 0x17 = 0 then 3 else 0

/-- The device descriptor (R463). -/
def Dev.deviceDescriptor (d : Dev) : List Byte :=
  bytesOf [18, 1, 0x00, 0x02, 0, 0, 0, 64] ++ le16 (d.par secHost 0x10) ++ le16 (d.par secHost 0x11) ++
    bytesOf [0x01, 0x02, d.mfrIndex, d.prodIndex, d.serialIndex, 1]

/-- The HID class descriptor (R467). -/
def hidDescriptor : List Byte := bytesOf [9, 0x21, 0x11, 0x01, 0, 1, 0x22, 641 % 256, 641 / 256]

/-- The HID interface, with its class descriptor and EP1 (R464). -/
def hidInterface : List Byte := bytesOf [9, 4, 0, 0, 1, 3, 0, 0, 0] ++ hidDescriptor ++ bytesOf [7, 5, 0x81, 3, 64, 0, 1]

/-- The vendor interface, with EP2 OUT and IN (R464). -/
def vendorInterface (n : Nat) : List Byte :=
  bytesOf [9, 4, n, 0, 2, 0xFF, 0, 0, 0] ++ bytesOf [7, 5, 0x02, 2, 64, 0, 0] ++ bytesOf [7, 5, 0x82, 2, 64, 0, 0]

/-- The configuration descriptor with all that follows it (R463, R464). -/
def Dev.configDescriptor (d : Dev) : List Byte :=
  let body := if d.hasHid then hidInterface ++ vendorInterface 1 else vendorInterface 0
  bytesOf [9, 2] ++ le16 (9 + body.length) ++
    bytesOf [if d.hasHid then 2 else 1, 1, 0, 0xC0 + 32 * d.par secHost 0x14, 0] ++ body

/-- A string descriptor: UTF-16LE code units (R932). -/
def stringDescriptor (chars : List Byte) : List Byte :=
  byte (2 + 2 * chars.length) :: byte 3 :: chars.flatMap fun c => [c, 0#8]

/-- The characters of USB_MFR or USB_PROD before the first 0x00 byte (R932). -/
def Dev.usbString (d : Dev) (id : Nat) : List Byte :=
  ((d.fieldWords secHost id).flatMap fun v => wordBytes (word v)).takeWhile (· != 0#8)

/-- An upper-case hexadecimal digit. -/
def hexDigit (n : Nat) : Byte := byte (if n < 10 then 48 + n else 55 + n)

/-- The string descriptor of an index (R466); index 0 lists the one language 0x0409, which the spec does not name (PRESUMED,
log entry 45). -/
def Dev.usbStringOf (d : Dev) (i : Nat) : Option (List Byte) :=
  if i = 0 then some (bytesOf [4, 3, 9, 4])
  else if i = 1 ∧ d.mfrIndex = 1 then some (stringDescriptor (d.usbString 0x15))
  else if i = 2 ∧ d.prodIndex = 2 then some (stringDescriptor (d.usbString 0x16))
  else if i = 3 ∧ d.serialIndex = 3 then
    some (stringDescriptor (d.fuses.dieId.flatMap fun b => [hexDigit (b.toNat / 16), hexDigit (b.toNat % 16)]))
  else none

/-- Items 7 to 36 of the report descriptor: one finger. -/
def fingerItems (xMax xpMax yMax ypMax : Nat) : List Byte :=
  bytesOf [0x09, 0x22, 0xA1, 0x02, 0x05, 0x0D, 0x09, 0x42, 0x09, 0x47, 0x25, 0x01, 0x75, 0x01, 0x95, 0x02, 0x65, 0x00,
    0x55, 0x00,
      0x81, 0x02, 0x95, 0x06, 0x81, 0x03, 0x09, 0x51, 0x26, 0xFF, 0x03, 0x75, 0x10, 0x95, 0x01, 0x81, 0x02, 0x05, 0x01,
      0x09, 0x30, 0x27] ++ le32 xMax ++ [0x47#8] ++ le32 xpMax ++
        bytesOf [0x65, 0x11, 0x55, 0x0E, 0x81, 0x02, 0x09, 0x31, 0x27] ++
    le32 yMax ++ [0x47#8] ++ le32 ypMax ++ bytesOf [0x81, 0x02, 0xC0]

/-- The report descriptor (R467). -/
def reportDescriptor (xMax xpMax yMax ypMax : Nat) : List Byte :=
  bytesOf [0x05, 0x0D, 0x09, 0x04, 0xA1, 0x01, 0x85, 0x01, 0x15, 0x00, 0x35, 0x00] ++
    (List.replicate 8 (fingerItems xMax xpMax yMax ypMax)).flatten ++
    bytesOf [0x05, 0x0D, 0x09, 0x56, 0x27, 0xFF, 0xFF, 0x00, 0x00, 0x66, 0x01, 0x10, 0x55, 0x0C, 0x75, 0x10, 0x95, 0x01,
      0x81, 0x02,
      0x09, 0x54, 0x25, 0x40, 0x65, 0x00, 0x55, 0x00, 0x75, 0x08, 0x81, 0x02, 0x06, 0x00, 0xFF, 0x09, 0x01, 0x26, 0xFF, 0x00,
      0x81, 0x02, 0x85, 0x02, 0x05, 0x0D, 0x09, 0x55, 0x25, 0x40, 0xB1, 0x02, 0xC0]

/-- An extent in units of 0.1 mm; the rounding of an inexact one is free (log entry 2). -/
def Dev.tenthMm (d : Dev) (v : Nat) : Nat × Dev :=
  if v % 10 = 0 then (v / 10, d)
  else
    let (b, d) := d.draw 2
    (v / 10 + b, d)

def Dev.hidReportDescriptor (d : Dev) : List Byte × Dev :=
  let (xp, d) := d.tenthMm d.extent.1
  let (yp, d) := d.tenthMm d.extent.2
  (reportDescriptor (d.fld USB_HIDX_LMAX) xp (d.fld USB_HIDY_LMAX) yp, d)

/-! Requests on EP0 (R465). -/

/-- The device answers tokens: it is attached, addressed by a reset, not suspended, and locked (R460). -/
def Dev.usbAnswers (d : Dev) : Bool :=
  decide (usbDefault ≤ d.usbState) && !d.flag USB_STAT_SUSP && (d.flag USB_STAT_SOFLOCK || d.flag SYS_CLK_SRC32)

/-- A control transfer ends with its data stage, or with a STALL. -/
def Dev.answer (d : Dev) (data : Option (List Byte)) : Dev := d.setUsb { d.usb with ep0 := data }

/-- A request is served when the device answers tokens at all. -/
def State.request (f : Dev → Dev) (s : State) : Host.Outcome State Fault Refusal :=
  s.run fun d => if d.usbAnswers then f d else d

/-- Data cut to wLength. -/
def Dev.reply (d : Dev) (data : List Byte) (length : Nat) : Dev := d.answer (some (data.take length))
def Dev.stall (d : Dev) : Dev := d.answer none
def Dev.done (d : Dev) : Dev := d.answer (some [])

/-- The interface exists and the device is configured. -/
def Dev.interfaceOk (d : Dev) (i : Nat) : Bool := d.usbState == usbConfigured && decide (i < if d.hasHid then 2 else 1)

/-- The halt flag of an endpoint other than EP0, when the endpoint exists and the device is configured. -/
def Dev.haltOf (d : Dev) (ep : Nat) : Option Bool :=
  if d.usbState ≠ usbConfigured then none
  else if ep = 0x81 ∧ d.hasHid = true then some d.usb.halt1
  else if ep = 0x02 then some d.usb.halt2Out
  else if ep = 0x82 then some d.usb.halt2In
  else none

def Dev.setHalt (d : Dev) (ep : Nat) (b : Bool) : Dev :=
  if ep = 0x81 then d.setUsb { d.usb with halt1 := b }
  else if ep = 0x02 then d.setUsb { d.usb with halt2Out := b }
  else d.setUsb { d.usb with halt2In := b }

/-- GET_STATUS: self-powered and remote wakeup of the device, 0 of an interface, the halt of an endpoint. -/
def Dev.getStatus (d : Dev) (recipient index length : Nat) : Dev :=
  let flags (n : Nat) : Dev := d.reply (bytesOf [n, 0]) length
  match recipient with
  | 0 => flags (1 + 2 * d.fld USB_STAT_RWKEN)
  | 1 => if d.interfaceOk index then flags 0 else d.stall
  | 2 =>
    if index = 0 ∨ index = 0x80 then flags 0
    else match d.haltOf index with
      | some h => flags (bit h)
      | none => d.stall
  | _ => d.stall

/-- GET_STATUS (R465). -/
def execGetStatus (recipient : BitVec 5) (index length : BitVec 16) (s : State) : Host.Outcome State Fault Refusal :=
  s.request fun d => d.getStatus recipient.toNat index.toNat length.toNat

/-- DEVICE_REMOTE_WAKEUP, which a device without USB_RWAKE refuses, and ENDPOINT_HALT. -/
def Dev.setFeature (d : Dev) (recipient value index : Nat) (b : Bool) : Dev :=
  if recipient = 0 ∧ value = 1 ∧ d.par secHost 0x14 = 1 then (d.setFlag USB_STAT_RWKEN b).done
  else if recipient = 2 ∧ value = 0 ∧ (d.haltOf index).isSome = true then (d.setHalt index b).done
  else d.stall

/-- CLEAR_FEATURE (R465). -/
def execClearFeature (recipient : BitVec 5) (value index : BitVec 16) (s : State) : Host.Outcome State Fault Refusal :=
  s.request fun d => d.setFeature recipient.toNat value.toNat index.toNat false

/-- SET_FEATURE (R465). -/
def execSetFeature (recipient : BitVec 5) (value index : BitVec 16) (s : State) : Host.Outcome State Fault Refusal :=
  s.request fun d => d.setFeature recipient.toNat value.toNat index.toNat true

/-- SET_ADDRESS in the default and the address state. -/
def Dev.setAddress (d : Dev) (v : Nat) : Dev :=
  if 127 < v ∨ d.usbState = usbConfigured then d.stall
  else ((d.setFld USB_STAT_ADDR v).setFld USB_STAT_STATE (if v = 0 then usbDefault else usbAddress)).done

/-- SET_ADDRESS (R465). -/
def execSetAddress (value : BitVec 16) (s : State) : Host.Outcome State Fault Refusal :=
  s.request fun d => d.setAddress value.toNat

/-- GET_DESCRIPTOR: device, configuration, string, HID and report descriptors. -/
def Dev.getDescriptor (d : Dev) (type i index length : Nat) : Dev :=
  match type with
  | 1 => d.reply d.deviceDescriptor length
  | 2 => if i = 0 then d.reply d.configDescriptor length else d.stall
  | 3 =>
    match d.usbStringOf i with
    | some b => d.reply b length
    | none => d.stall
  | 0x21 => if d.hasHid ∧ index = 0 then d.reply hidDescriptor length else d.stall
  | 0x22 =>
    if d.hasHid ∧ index = 0 then
      let (b, d) := d.hidReportDescriptor
      d.reply b length
    else d.stall
  | _ => d.stall

/-- GET_DESCRIPTOR (R463). -/
def execGetDescriptor (value index length : BitVec 16) (s : State) : Host.Outcome State Fault Refusal :=
  s.request fun d => d.getDescriptor (value.toNat / 256) (value.toNat % 256) index.toNat length.toNat

/-- GET_CONFIGURATION (R465). -/
def execGetConfiguration (length : BitVec 16) (s : State) : Host.Outcome State Fault Refusal :=
  s.request fun d => d.reply (bytesOf [d.fld USB_STAT_CFG]) length.toNat

/-- At a configuration H1 starts empty, and a resync burst is called for (R344). -/
def Dev.restartH1 (d : Dev) : Dev :=
  let d := d.setHostQ .h1 {}
  ((d.setFld (portFld .h1 EVR_H0_WR_WR) 0).setFld (portFld .h1 EVR_H0_RD_RD) 0).askBurst

/-- SET_CONFIGURATION: value 1 configures, value 0 deconfigures (R344, R461, R471). -/
def Dev.setConfiguration (d : Dev) (v : Nat) : Dev :=
  if d.usbState = usbDefault ∨ 1 < v then d.stall
  else if v = 1 then
    let d := d.endpointsReset
    let d := d.setUsb { d.usb with resync := true, lastInput := none }
    (((d.setFlag USB_STAT_CFG true).setFld USB_STAT_STATE usbConfigured).restartH1.usbEvent 3).done
  else if d.usbState = usbConfigured then
    (((d.endpointsReset.setFlag USB_STAT_CFG false).setFld USB_STAT_STATE usbAddress).usbEvent 6).done
  else d.done

/-- SET_CONFIGURATION (R344). -/
def execSetConfiguration (value : BitVec 16) (s : State) : Host.Outcome State Fault Refusal :=
  s.request fun d => d.setConfiguration value.toNat

/-- GET_INTERFACE (R465). -/
def execGetInterface (index length : BitVec 16) (s : State) : Host.Outcome State Fault Refusal :=
  s.request fun d => if d.interfaceOk index.toNat then d.reply [0#8] length.toNat else d.stall

/-- SET_INTERFACE (R465). -/
def execSetInterface (value index : BitVec 16) (s : State) : Host.Outcome State Fault Refusal :=
  s.request fun d => if d.interfaceOk index.toNat ∧ value = 0 then d.done else d.stall

/-- A request to the HID interface. -/
def Dev.hidRequest (d : Dev) (index : Nat) (f : Dev → Dev) : Dev :=
  if d.hasHid ∧ index = 0 ∧ d.usbState = usbConfigured then f d else d.stall

/-- Feature report 2 (R474). -/
def Dev.featureReport (d : Dev) : List Byte := bytesOf [2, if d.onSurface then 64 else d.par secTrack 0x16]

/-- GET_REPORT: feature report 2, or the last input report sent (R467, R474). -/
def Dev.getReport (d : Dev) (type id index length : Nat) : Dev := d.hidRequest index fun d =>
  if type = 3 ∧ id = 2 then d.reply d.featureReport length
  else if type = 1 ∧ id = 1 then d.reply (d.usb.lastInput.getD (1#8 :: List.replicate 60 0#8)) length
  else d.stall

/-- GET_REPORT (R467). -/
def execGetReport (value index length : BitVec 16) (s : State) : Host.Outcome State Fault Refusal :=
  s.request fun d => d.getReport (value.toNat / 256) (value.toNat % 256) index.toNat length.toNat

/-- SET_IDLE: any value is accepted, and the report rules stay (R465). -/
def execSetIdle (value index : BitVec 16) (s : State) : Host.Outcome State Fault Refusal :=
  s.request fun d => d.hidRequest index.toNat fun d => (d.setUsb { d.usb with idle := value.toNat / 256 }).done

/-- GET_IDLE (R465). -/
def execGetIdle (_value index length : BitVec 16) (s : State) : Host.Outcome State Fault Refusal :=
  s.request fun d => d.hidRequest index.toNat fun d => d.reply (bytesOf [d.usb.idle]) length.toNat

/-- STALL: any other request (R465). -/
def execStall (s : State) : Host.Outcome State Fault Refusal := s.request Dev.stall

/-! Packet errors and HID reports (R472, R494). -/

/-- USB_PACKET_ERROR: the packet is ignored and counted; 16 within 1 s raise USB_ERROR, at most once per second. -/
def Dev.packetError (d : Dev) : Dev :=
  if d.usbState = 0 then d
  else
    let ticks := (d.ticks :: d.usb.errTicks).filter fun t => decide (d.ticks < t + 32768)
    let d := (d.setUsb { d.usb with errTicks := ticks.take 16 }).bump USB_CNT_CRCERR
    let quiet := match d.usb.errRaised with
      | some t => decide (d.ticks < t + 32768)
      | none => false
    if 16 ≤ ticks.length ∧ quiet = false then (d.setUsb { d.usb with errRaised := some d.ticks }).usbError 1 else d

/-- USB_PACKET_ERROR (R494). -/
def execUsbPacketError (s : State) : Host.Outcome State Fault Refusal := s.run Dev.packetError

/-- HID_REPORT_SEND: the next report of the set goes out; when it was the last one, the waiting set follows. -/
def Dev.sendReport (d : Dev) : Dev :=
  if !d.hidOn || d.usb.halt1 then d
  else
    match d.usb.reports with
    | [] => d
    | r :: rest =>
      let carried := if d.usb.setStarted then d.usb.carried else []
      let u := { d.usb with lastInput := some r, carried := carried }
      if rest.isEmpty then d.setUsb { u with reports := u.nextReports, setStarted := false, nextReports := [] }
      else d.setUsb { u with reports := rest, setStarted := true }

/-- HID_REPORT_SEND (R472). -/
def execHidReportSend (s : State) : Host.Outcome State Fault Refusal := s.run Dev.sendReport

/-! Suspend, resume and remote wake (R480 to R488, R491). -/

/-- The mode that SUSPEND_MODE names. -/
def Dev.suspendMode (d : Dev) : Nat := if d.par secModes 0x10 = 0 then modeWatch else modeHibernate

/-- A suspend in state 4 asks for its mode, in place of a change that waits (R480, R491); in SERVICE, in SAFE and during
start-up it does not, as no command does (R168). -/
def Dev.suspendRequest (d : Dev) : Dev :=
  if d.pwrCmdIgnored then d
  else
    let d := d.setModes { d.modes with
      host := none, wake := none, auto := none, heldCmd := none,
      beforeSuspend := some d.mode }
    (d.markPending none).requestMode d.suspendMode 8

/-- USB_SUSPEND: the bus has been idle for 3 ms. -/
def Dev.usbSuspend (d : Dev) : Dev :=
  if d.usbState < usbDefault ∨ d.flag USB_STAT_SUSP = true then d
  else
    let d := (d.setFlag USB_STAT_SUSP true).setUsb { d.usb with suspTick := d.ticks, owed := [] }
    let d := d.usbEvent 4
    if d.usbState = usbConfigured then d.suspendRequest.issueOps else d

/-- USB_SUSPEND (R480). -/
def execUsbSuspend (s : State) : Host.Outcome State Fault Refusal := s.run Dev.usbSuspend

/-- The tile is in the mode of its suspend, or on its way there. -/
def Dev.inSuspendMode (d : Dev) : Bool :=
  d.mode == d.suspendMode || d.modes.heldCmd.isSome ||
    (match d.modes.host with
      | some r => r.mode == d.suspendMode
      | none => false)

/-- The mode left for suspend is asked for, unless a wake has left the suspend mode already (R190, R481). -/
def Dev.resumeRequest (d : Dev) : Dev :=
  match d.modes.beforeSuspend with
  | none => d
  | some m =>
    let asleep := d.inSuspendMode
    let d := d.setModes { d.modes with beforeSuspend := none }
    if asleep ∧ d.pwrCmdIgnored = false then ((d.setModes { d.modes with heldCmd := none }).requestMode m 8).issueOps else d

/-- USB_RESUME: the host's resume signalling has ended (R481, R487, R488). -/
def Dev.usbResume (d : Dev) : Dev :=
  if d.flag USB_STAT_SUSP then
    let d := if d.usb.wake = 1 then (d.setFld USB_RWK_OUTCOME 2).setUsb { d.usb with wakeReport := true } else d
    let report := d.usb.wakeReport
    let d := d.setUsb { d.usb with wake := 0, wakeReport := false, resync := true }
    let d := (d.setFlag USB_STAT_SUSP false).usbEvent 5
    let d := if d.usbState = usbConfigured then d.resumeRequest else d
    if report then d.ring 193 (word (d.fld USB_RWK_OUTCOME)) (word (d.fld USB_RWK_SRC)) else d
  else d

/-- USB_RESUME (R481). -/
def execUsbResume (s : State) : Host.Outcome State Fault Refusal := s.run Dev.usbResume

/-- REMOTE_WAKE_SAMPLE_END: the bus held J, and K is driven; or the host was first (R485, R486). -/
def Dev.wakeSampled (d : Dev) (bus : Nat) : Dev :=
  if d.usb.wake ≠ 1 then d
  else if bus = 0 then (d.setFld USB_RWK_OUTCOME 1).setUsb { d.usb with wake := 2, wakeReport := true }
  else
    let d := (d.setFld USB_RWK_OUTCOME 2).setUsb { d.usb with wake := 0, wakeReport := true }
    if bus = 2 then d.busReset else d

/-- REMOTE_WAKE_SAMPLE_END (R485). -/
def execRemoteWakeSampleEnd (bus : BitVec 2) (s : State) : Host.Outcome State Fault Refusal :=
  s.run fun d => d.wakeSampled bus.toNat

/-- REMOTE_WAKE_DRIVE_END: the bus is released; OUTCOME tells whether the host began K too (R487). -/
def execRemoteWakeDriveEnd (hostK : Bool) (s : State) : Host.Outcome State Fault Refusal :=
  s.run fun d =>
    if d.usb.wake = 2 then
      (if hostK then d.setFld USB_RWK_OUTCOME 3 else d).setUsb { d.usb with wake := 0 }
    else d

end Sys2Proof.Machine
end

