-- ==== Sys2Proof/Machine/Gather.lean ====
section
/-!
DEFINITION. Gather.lean: the gather engine and its window table (18_gather_engine.md).
-/

namespace Sys2Proof.Machine

/-! Descriptors (R677 to R681). -/

/-- The staged descriptor of a host channel (R678). -/
def Dev.staged (d : Dev) (c : Nat) : Nat × Descriptor :=
  let n := d.fld (GDE_SCTL_NELEM c)
  let elems := (List.range (min n 16)).map fun i =>
    ((d.reg (GDE_SEL (32 * c + 2 * i))).toNat, wGet (d.reg (GDE_SEL (32 * c + 2 * i + 1))) 0 13)
  (n, ⟨d.fld (GDE_SCTL_TAG c), (d.reg (GDE_SDST c)).toNat, elems⟩)

/-- The words a descriptor moves. -/
def Descriptor.total (e : Descriptor) : Nat := (e.elems.map Prod.snd).sum

/-- The result of a push: 1 queued, 2 full, 3 out of range (R679). -/
def Dev.pushResult (d : Dev) (c : Nat) : Nat :=
  let (n, e) := d.staged c
  if 4 ≤ (d.chan c).queue.length then 2
  else if n = 0 ∨ 16 < n then 3
  else if e.elems.any fun p => p.2 == 0 || decide (4096 < p.2) || decide (16777216 < p.1 + p.2) then 3
  else if 16777216 < e.dst + e.total then 3
  else 1

/-- PUSH (R678, R679); the descriptor of a faulted channel waits behind the faulted one (R697). -/
def Dev.gdePush (d : Dev) (c : Nat) : Dev :=
  let r := d.pushResult c
  let d := d.setFld (if c = 0 then GDE_PUSHRES_CH0 else GDE_PUSHRES_CH1) r
  if r = 1 then d.queueDesc c (d.staged c).2
  else d.bump GDE_CNT_REJECT

/-! The window table (R682 to R684). -/

/-- The entries a channel translates through (R683). -/
def winRange (c : Nat) : List Nat := if c < 2 then (List.range 16).map (48 + ·) else List.range 48

/-- The lowest-numbered valid entry for a logical page (R682). -/
def Dev.winFind (d : Dev) (c page : Nat) : Option (Word × Word) :=
  ((winRange c).find? fun e => d.flag (GDE_WINA_VALID e) && d.fld (GDE_WINA_LPAGE e) == page).map fun e =>
    (d.reg (GDE_WINA e), d.reg (GDE_WINB e))

def entBank (e : Word × Word) : Nat := wGet e.2 4 4
def entPage (e : Word × Word) : Nat := wGet e.2 0 4
def entTile (e : Word × Word) : Nat := wGet e.2 14 10
def entOwner (e : Word × Word) : Nat := wGet e.1 16 4
def entRemote (e : Word × Word) : Bool := wGet e.1 20 1 == 1

/-- The word of the target bank that a logical address translates to. -/
def entWord (e : Word × Word) (a : Nat) : Nat := entPage e * 1024 + a % 1024

/-- A page check fails with a kind of R698, or answers the entry (R684). -/
def Dev.checkPage (d : Dev) (c a : Nat) (dst : Bool) : Except Nat (Word × Word) :=
  match d.winFind c (a / 1024) with
  | none => .error 1
  | some e =>
    if dst ∧ (wGet e.1 21 1 = 0 ∨ entRemote e = true ∨ entOwner e = 15) then .error 2
    else if dst = false ∧ wGet e.1 22 1 = 0 then .error 2
    else if entRemote e = true ∧ d.isManager = false then .error 8
    else if entBank e = 8 ∨ entBank e = 9 then .error 4
    else if entRemote e = false ∧ ¬ (d.owner (entBank e) = entOwner e ∨ (dst = false ∧ entOwner e = 15)) then .error 3
    else .ok e

/-! Faults and completion (R691, R698, R699, R704). -/

/-- The destination address of element k (R680). -/
def Descriptor.place (e : Descriptor) (k : Nat) : Nat := e.dst + ((e.elems.take k).map Prod.snd).sum

/-- The active descriptor completes: GDE_DONE for a host channel, then the next queued one; on channel 2 a capture's copy has
been moved (R318, R691). -/
def Dev.gdeComplete (d : Dev) (c : Nat) : Dev :=
  let ch := d.chan c
  match ch.active with
  | none => d
  | some e =>
    let d := (d.setFaulted c false).setChan c { queue := ch.queue, discard := d.readsOut c }
    let d := if c < 2 then
        d.ring 144 (pack [(c, 21), (e.elems.length - 1, 17), (ch.written % 131072, 0)])
          (pack [(e.tag, 16), (min ch.collisions 255, 8), (bit ch.skipped, 0)])
      else if c = 2 then d.setRpt { d.rpt with copied := true }
      else d
    d.activate c

/-- The channel faults at its present word, with the state of R699. -/
def Dev.gdeFault (d : Dev) (c kind : Nat) (dst : Bool) : Dev :=
  let ch := d.chan c
  match ch.active with
  | none => d
  | some e =>
    let src := (e.elems.getD ch.elem (0, 0)).1
    let addr := if dst then e.place ch.elem + ch.word else src + ch.word
    let d := d.setReg (GDE_FREC0 c) (pack [(c, 21), (kind, 17), (bit dst, 16), (ch.elem % 16, 12), (ch.word % 4096, 0)])
    let d := (d.setReg (GDE_FREC1 c) (word addr)).bump GDE_CNT_FAULTS
    let d := (d.setFaulted c true).setChan c { ch with
      srcEnt := none, dstEnt := none, data := [], failed := none,
      discard := d.readsOut c }
    if c < 2 then d.ring 145 (d.reg (GDE_FREC0 c)) (d.reg (GDE_FREC1 c)) else d

/-- The next element, or the end of the descriptor. -/
def Dev.nextElement (d : Dev) (c : Nat) : Dev :=
  let ch := d.chan c
  match ch.active with
  | none => d
  | some e =>
    let d := (d.setFaulted c false).setChan c { ch with
      elem := ch.elem + 1, word := 0, asked := 0, data := [], failed := none, srcEnt := none, dstEnt := none }
    if e.elems.length ≤ ch.elem + 1 then d.gdeComplete c else d

/-! Remote reads (R688, R689). -/

/-- One more read of the present page: at most 64 words, and at most 16 reads outstanding. -/
def Dev.askOne (d : Dev) (c : Nat) : Dev :=
  let ch := d.chan c
  match ch.active, ch.srcEnt with
  | some e, some ent =>
    let (src, len) := e.elems.getD ch.elem (0, 0)
    let pageEnd := min len (ch.word + (1024 - (src + ch.word) % 1024))
    let out := (d.link.ops.filter fun o => o.requester == 8 + c).length
    if entRemote ent = false ∨ pageEnd ≤ ch.asked ∨ 16 ≤ out then d
    else
      let n := min 64 (pageEnd - ch.asked)
      let d := d.newOp (8 + c) 3 (entTile ent)
        [pack [(1, 20), (n, 0)], pack [(entBank ent, 14), (entWord ent (src + ch.asked), 0)]]
      d.setChan c { ch with asked := ch.asked + n }
  | _, _ => d

/-- Reads go out as far as they may. -/
def Dev.askMore (d : Dev) (c : Nat) : Dev := ((List.range 16).foldl (fun d _ => d.askOne c) d).issueOps

/-- A GATHER read has ended: its data joins the channel's in issue order, or its failure waits for the words before it; the
data of a read given up is discarded (R688, R698, R699). -/
def Dev.gatherDone (d : Dev) (o : Operation) : Dev :=
  let c := o.requester - 8
  let ch := d.chan c
  if 0 < keyGet ch.discard o.dest then d.setChan c { ch with discard := keySet ch.discard o.dest (keyGet ch.discard o.dest - 1) }
  else if ch.failed.isSome then d
  else
    match o.result with
    | some (some pk) =>
      if pk.payload.isEmpty then d.setChan c { ch with failed := some 7 }
      else (d.setChan c { ch with data := ch.data ++ pk.payload }).askMore c
    | _ => d.setChan c { ch with failed := some 6 }

/-! A burst (R685 to R687, R692, R695). -/

/-- The page checks due at the channel's present word, source then destination (R684, R693, R700). -/
def Dev.enterPages (d : Dev) (c : Nat) : Dev :=
  let ch := d.chan c
  match ch.active with
  | none => d
  | some e =>
    let a := (e.elems.getD ch.elem (0, 0)).1 + ch.word
    let d := match ch.srcEnt with
      | some _ => d
      | none =>
        match d.checkPage c a false with
        | .error k => d.gdeFault c k false
        | .ok ent => (d.setChan c { ch with srcEnt := some ent, asked := max ch.asked ch.word }).askMore c
    let ch := d.chan c
    if d.chanFaulted c then d
    else
      match ch.dstEnt with
      | some _ => d
      | none =>
        match d.checkPage c (e.place ch.elem + ch.word) true with
        | .error k => d.gdeFault c k true
        | .ok ent => d.setChan c { ch with dstEnt := some ent }

/-- Words read from a local source until one fails: the words, and the kind of the failure (R666, R685). -/
def Dev.readBurst (d : Dev) (ent : Word × Word) (a : Nat) (flips : List (List (BitVec 5))) : Nat → List Word × Option Nat × Dev
  | 0 => ([], none, d)
  | n + 1 =>
    let bank := entBank ent
    let w := entWord ent a
    if entOwner ent = 6 ∧ d.ownsBank bank 6 = false then ([], some 3, d.bump MEM_DENY_NOTOWNER)
    else
      let d := d.meetErrors bank w 6 (flips.headD [])
      if d.mem.bad.contains (bankAddr bank w) then ([], some 5, d)
      else
        let (v, d) := d.goodWord bank w
        let (vs, k, d) := Dev.readBurst d ent (a + 1) flips.tail n
        (v :: vs, k, d)

/-- Words written in order; answers how many, how many collided, and whether NOTOWNER stopped them (R685, R692). -/
def Dev.writeBurst (d : Dev) (ent : Word × Word) (a : Nat) : List Word → List Bool → Nat × Nat × Bool × Dev
  | [], _ => (0, 0, false, d)
  | v :: vs, hits =>
    let bank := entBank ent
    let w := entWord ent a
    let own := entOwner ent == 6
    if own = true ∧ d.ownsBank bank 6 = false then (0, 0, true, d.bump MEM_DENY_NOTOWNER)
    else
      let hit := !own && hits.headD false
      let d := if own then d.portA bank w 6 (some v) [] false else d.portB bank w 6 (some v) [] false hit
      let d := if hit then d.bump GDE_CNT_COLLIDE else d
      let (n, k, stop, d) := Dev.writeBurst d ent (a + 1) vs hits.tail
      (n + 1, k + bit hit, stop, d)

/-- The words that come next: from a local bank, or of the data that has arrived. -/
def Dev.fetchBurst (d : Dev) (c n : Nat) (ent : Word × Word) (a : Nat) (flips : List (List (BitVec 5))) :
    List Word × Option Nat × Dev :=
  if entRemote ent then ((d.chan c).data.take n, none, d.setChan c { d.chan c with data := (d.chan c).data.drop n })
  else d.readBurst ent a flips n

/-- One burst of channel c, whose pages have been checked. -/
def Dev.burst (d : Dev) (c : Nat) (flips : List (List (BitVec 5))) (collide : List Bool) (waits : Nat) : Dev :=
  let ch := d.chan c
  match ch.active, ch.srcEnt, ch.dstEnt with
  | some e, some src, some dst =>
    let (base, len) := e.elems.getD ch.elem (0, 0)
    let a := base + ch.word
    let b := e.place ch.elem + ch.word
    let n := min (min (8 - a % 8) (1024 - b % 1024)) (len - ch.word)
    let d := (d.setFld GDE_STAT_CHAN c).bumpBy (MEM_CONFL_WAITS 6) waits
    let (vs, failed, d) := d.fetchBurst c n src a flips
    let (done, hits, stop, d) := d.writeBurst dst b vs collide
    let ch := d.chan c
    let m := ch.word + done
    let d := d.setChan c { ch with
      word := m
      written := ch.written + done
      collisions := ch.collisions + hits
      srcEnt := if (a + done) % 1024 = 0 ∧ 0 < done then none else ch.srcEnt
      dstEnt := if (b + done) % 1024 = 0 ∧ 0 < done then none else ch.dstEnt }
    if stop then d.gdeFault c 3 false
    else match failed with
      | some k => d.gdeFault c k false
      | none => if len ≤ m then d.nextElement c else d.setReg (GDE_CSTAT c) (d.chanWord c)
  | _, _, _ => d

/-- A bank of the channel's present pages is under repair: its accesses wait (R695). -/
def Dev.chanHeld (d : Dev) (c : Nat) : Bool :=
  let ch := d.chan c
  (match ch.srcEnt with
    | some e => !entRemote e && d.taken (entBank e)
    | none => false) ||
  match ch.dstEnt with
    | some e => d.taken (entBank e)
    | none => false

/-- Channel c is served if it is ready: answers whether it took the data path (R687). -/
def Dev.serveChan (d : Dev) (c : Nat) (flips : List (List (BitVec 5))) (collide : List Bool) (waits : Nat) : Bool × Dev :=
  if (d.chan c).active.isNone ∨ d.chanFaulted c = true then (false, d)
  else
    let d := d.enterPages c
    let ch := d.chan c
    if d.chanFaulted c then (true, d)
    else if ch.remote && ch.data.isEmpty then
      match ch.failed with
      | some k => (true, d.gdeFault c k false)
      | none => (false, d)
    else if d.chanHeld c then (true, d)
    else (true, d.burst c flips collide waits)

/-- GATHER_BURST: one burst of the highest-priority ready channel (R687); none in HIBERNATE (R703). -/
def Dev.gatherBurst (d : Dev) (flips : List (List (BitVec 5))) (collide : List Bool) (waits : Nat) : Dev :=
  if d.mode = modeHibernate then d
  else
    ([7, 6, 5, 4, 3, 2, 1, 0].foldl (fun (r : Bool × Dev) c =>
      if r.1 then r else r.2.serveChan c flips collide waits) (false, d)).2

/-- GATHER_BURST (R687). -/
def execGatherBurst (flips : List (List (BitVec 5))) (collide : List Bool) (waits : BitVec 5) (s : State) :
    Host.Outcome State Fault Refusal :=
  s.run fun d => d.gatherBurst flips collide waits.toNat

/-! The end of a capture's copy (R316 to R319, R326). -/

/-- The fault kind of channel 2, or 0. -/
def Dev.copyFault (d : Dev) : Nat := if d.chanFaulted 2 then d.fld (GDE_FREC0_KIND 2) else 0

/-- The words of a worker's frame that have not come by the link yet: they follow those written, and the copy has been
moved. -/
def Dev.restRemote (d : Dev) (words : List Word) : Dev :=
  let ch := d.chan 2
  let place := d.fld TRK_CAP_DST_WORD + ch.written
  let rest := words.take (d.fld TRK_CAP_LEN_LEN - ch.written)
  let d := rest.zipIdx.foldl (fun d v => d.portB 15 (place + v.2) 6 (some v.1) [] false false) d
  d.gdeComplete 2

/-- The bursts of the copy that no GATHER_BURST has run so far: channel 2 has the data path to itself. A frame has fewer than
2,048 bursts (R686). -/
def Dev.restLocal (d : Dev) : Dev := (List.range 2048).foldl (fun d _ => (d.serveChan 2 [] [] 0).2) d

/-- CAPTURE_COPY_END stands for what is left of the copy. The operands give the outcome and the words of reads from a worker
that have not ended yet. -/
def Dev.restOfCopy (d : Dev) (ok : Bool) (words : List Word) : Dev :=
  if (d.chan 2).active.isNone ∨ d.chanFaulted 2 = true then d
  else if d.capRemote = false then d.restLocal
  else if ok then d.restRemote words
  else d.gdeFault 2 6 false

/-- CAPTURE_COPY_END: the frame buffer is released, and CAPTURE_DONE is raised; the capture ends after COUNT frames, on STOP,
or on a failure: 3 where bank 15 is not the host's, 5 where a read from the worker failed. A copy that another fault stopped,
or whose channel a core restart flushed, does not end (R316 to R320, R326). -/
def Dev.capCopyEnd (d : Dev) (ok : Bool) (remote : List Word) : Dev :=
  match d.rpt.copying with
  | none => d
  | some n =>
    let d := d.restOfCopy ok remote
    let k := d.copyFault
    if k = 3 ∨ (d.rpt.copied = true ∧ d.owner 15 ≠ 8) then ((d.flushChan 2).copyReleased n).capEnd 3 n true
    else if k = 6 ∨ k = 7 then ((d.flushChan 2).copyReleased n).capEnd 5 n true
    else if d.rpt.copied = false then d
    else
      let d := (d.copyReleased n).setFld TRK_CAP_FRAME_FRAME n
      let d := d.bump TRK_CAP_STAT_DONE
      let ovr := d.rpt.stopping || (decide (d.fld TRK_CAP_CTRL_COUNT ≠ 0) && decide (d.fld TRK_CAP_CTRL_COUNT ≤ d.fld TRK_CAP_STAT_DONE))
      if ovr then d.capEnd 0 n true
      else (d.setRpt { d.rpt with copying := none }).ring 39 (d.reg TRK_CAP_STAT) (word n)

/-- CAPTURE_COPY_END (R318). -/
def execCaptureCopyEnd (ok : Bool) (remote : List Word) (s : State) : Host.Outcome State Fault Refusal :=
  s.run fun d => d.capCopyEnd ok remote

/-! Commands (R677, R700, R701). -/

/-- A write of GDE_CCMD. -/
def Dev.gdeCommand (d : Dev) (v : Word) : Dev :=
  let c := wGet v 4 3
  let ch := d.chan c
  if 2 ≤ c then d.ignoreWrite
  else
    match wGet v 0 4 with
    | 1 => d.gdePush c
    | 2 => if d.chanFaulted c then (d.setFaulted c false).setChan c { ch with asked := ch.word } else d.ignoreWrite
    | 3 => if d.chanFaulted c then (d.setChan c { ch with skipped := true }).nextElement c else d.ignoreWrite
    | 4 => (d.dropActive c).activate c
    | 5 => d.flushChan c
    | _ => d

/-- The word of GDE_CCMD that names a channel and an operation. -/
def ccmdWord (channel : BitVec 3) (op : Nat) : Word := pack [(channel.toNat, 4), (op, 0)]

/-- GDE_PUSH (R678). -/
def execGdePush (channel : BitVec 3) (s : State) : Host.Outcome State Fault Refusal :=
  s.run fun d => d.gdeCommand (ccmdWord channel 1)

/-- GDE_RESUME (R700). -/
def execGdeResume (channel : BitVec 3) (s : State) : Host.Outcome State Fault Refusal :=
  s.run fun d => d.gdeCommand (ccmdWord channel 2)

/-- GDE_SKIP (R700). -/
def execGdeSkip (channel : BitVec 3) (s : State) : Host.Outcome State Fault Refusal :=
  s.run fun d => d.gdeCommand (ccmdWord channel 3)

/-- GDE_ABORT (R701). -/
def execGdeAbort (channel : BitVec 3) (s : State) : Host.Outcome State Fault Refusal :=
  s.run fun d => d.gdeCommand (ccmdWord channel 4)

/-- GDE_FLUSH (R700). -/
def execGdeFlush (channel : BitVec 3) (s : State) : Host.Outcome State Fault Refusal :=
  s.run fun d => d.gdeCommand (ccmdWord channel 5)

/-- A write of GDE_WINA or GDE_WINB: the host writes entries 48 to 63 only (R683). -/
def Dev.writeWin (d : Dev) (a : Nat) (v : Word) : Dev := if a < GDE_WINA 48 then d.ignoreWrite else d.storeReg a v

/-! GATHER reads of another tile (R689, R690). -/

/-- The words of a bank read through port B, or none when one is uncorrectable. -/
def Dev.guestRead (d : Dev) (bank w : Nat) (flips : List (List (BitVec 5))) : Nat → Option (List Word) × Dev
  | 0 => (some [], d)
  | n + 1 =>
    let d := d.meetErrors bank w 6 (flips.headD [])
    if d.mem.bad.contains (bankAddr bank w) then (none, d)
    else
      let (v, d) := d.goodWord bank w
      let (vs, d) := Dev.guestRead d bank (w + 1) flips.tail n
      (vs.map (v :: ·), d)

/-- A GATHER read of this tile: the words, or none for a refusal, which is counted. -/
def Dev.gatherServe (d : Dev) (src : Nat) (w0 w1 : Word) (flips : List (List (BitVec 5))) : List Word × Dev :=
  let n := wGet w0 0 7
  let bank := wGet w1 14 4
  let w := wGet w1 0 14
  let barred := src ≠ 0 ∨ d.isWorker = false ∨ d.flag EGL_TILE_JOINED = false ∨ bank = 8 ∨ bank = 9 ∨ 16384 < w + n ∨ wGet w0 20 4 ≠ 1
    ∨ n = 0 ∨ 64 < n
  if barred then ([], d.bump GDE_CNT_REJECT)
  else
    match d.guestRead bank w flips n with
    | (some vs, d) => (vs, d)
    | (none, d) => ([], d.bump GDE_CNT_REJECT)

/-- A response to a request travels in the response class under the request's tag (R599). -/
def Dev.respond (d : Dev) (dest tag type : Nat) (payload : List Word) : Dev :=
  d.launch ⟨type, false, false, 2, dest, d.ownXY, tag, 0, payload⟩

/-- GATHER_READ (R690). -/
def execGatherRead (src : BitVec 10) (tag : BitVec 6) (w0 w1 : Word) (flips : List (List (BitVec 5))) (s : State) :
    Host.Outcome State Fault Refusal :=
  s.run fun d =>
    let (ws, d) := d.gatherServe src.toNat w0 w1 flips
    d.respond src.toNat tag.toNat 3 ws

/-! Console commands. -/

/-- GDE_WIN: every valid window entry (R682). -/
def execGdeWin (s : State) : Host.Outcome State Fault Refusal :=
  s.run fun d => d.command .gdeWin fun d =>
    let es := (List.range 64).filter fun e => d.flag (GDE_WINA_VALID e)
    (d.print (.values 0xF1 (es.flatMap fun e => [word e, d.reg (GDE_WINA e), d.reg (GDE_WINB e)]))).finishOk

/-- The words of the test copy that bank 15 cannot give. -/
def Dev.testBad (d : Dev) (n : Nat) : List Nat := (List.range n).filter fun w => d.mem.bad.contains (bankAddr 15 w)

/-- GDE_TEST: n words from bank 15 to bank 14 on channel 1 and back, compared. The time that it prints is free; a word that
cannot be read is printed as a mismatch (log entry 6). -/
def Dev.consoleGdeTest (d : Dev) (n : Nat) : Dev :=
  if d.fullSet = false then d.finishErr 6
  else if n = 0 ∨ 4096 < n then d.finishErr 5
  else if (d.chan 1).active.isSome ∨ d.taken 14 = true ∨ d.taken 15 = true then d.finishErr 8
  else
    let bad := d.testBad n
    let d := ((List.range n).filter fun w => !bad.contains w).foldl (fun d w => d.writeWord 14 w (d.bank 15 w)) d
    let (t, d) := d.draw 16777216
    (d.print (.values 0xF2 (word n :: word t :: word bad.length :: bad.map word))).finishOk

/-- GDE_TEST (R686). -/
def execGdeTest (n : BitVec 16) (s : State) : Host.Outcome State Fault Refusal :=
  s.run fun d => d.command (.gdeTest n) fun d => d.consoleGdeTest n.toNat

end Sys2Proof.Machine
end

