-- ==== Sys2Proof/Machine/Service.lean ====
section
/-!
DEFINITION. Service.lean: the service functions: the unlock codes, SERVICE and the full command set, meter points and static
electrode states (R70 to R81, R85, R91 to R95).
-/

namespace Sys2Proof.Machine

/-! Codes (R71, R72). -/

/-- The unlock code (R71). -/
def Dev.svcCode (d : Dev) : Nat := d.par secSystem 0x02

/-- An attempt is rejected whatever its code: locked out, or within 1 s of a rejected code (R72). Such an attempt is no
rejected code itself: it is not counted, and the 1 s does not start again (DESIGN CHOICE, log entry 34). -/
def Dev.codeBarred (d : Dev) : Bool :=
  d.flag SVC_STAT_LOCKOUT ||
    match d.con.lastReject with
    | none => false
    | some t => decide (d.ticks < t + 32768)

/-- A rejected code is counted, and the third locks out both ways (R72, R92). `how` is 0 console, 1 SVC_UNLOCK. -/
def Dev.rejectCode (d : Dev) (how : Nat) : Dev :=
  let d := (d.bump SVC_STAT_FAILS).setCon { d.con with lastReject := some d.ticks }
  let d := d.ring 226 (word (d.fld SVC_STAT_FAILS)) (word how)
  if d.fld SVC_STAT_FAILS = 3 then (d.setFlag SVC_STAT_LOCKOUT true).ring 227 3 0 else d

/-- A write of SVC_UNLOCK: 0 locks fault injection again, the code unlocks it (R72, R93, R627). -/
def Dev.writeUnlock (d : Dev) (v : Word) : Dev :=
  if d.flag SVC_STAT_LOCKOUT then d
  else if v = 0 then ((d.setFlag SVC_STAT_INJ_UNLOCK false).ring 228 0 0).judgeGate
  else if d.codeBarred then d
  else if v.toNat = d.svcCode then ((d.setFlag SVC_STAT_INJ_UNLOCK true).ring 228 1 0).judgeGate
  else d.rejectCode 1

/-- SVC_UNLOCK_WRITE (R72). -/
def execSvcUnlockWrite (value : Word) (s : State) : Host.Outcome State Fault Refusal := s.run fun d => d.writeUnlock value

/-! Static electrode states (R80, R81, R95). -/

def Dev.staticOf (d : Dev) (n : Nat) : Nat := keyGet d.con.states n

/-- The states after electrode n takes one: at most one electrode is on the meter path, and its former holder returns to
gnd. -/
def placeState (l : List (Nat × Nat)) (n st : Nat) : List (Nat × Nat) :=
  let l := l.filter fun p => p.1 != n && !(decide (3 ≤ st) && decide (3 ≤ p.2))
  if st = 0 then l else l ++ [(n, st)]

def Dev.setStates (d : Dev) (l : List (Nat × Nat)) : Dev :=
  (d.setCon { d.con with states := l }).setFlag SVC_STAT_STATIC (!l.isEmpty)

def Dev.placeEl (d : Dev) (n st : Nat) : Dev := d.setStates (placeState d.con.states n st)

/-- Every electrode takes a state that is not on the meter path. -/
def Dev.placeAll (d : Dev) (st : Nat) : Dev :=
  d.setStates (if st = 0 then [] else (List.range 160).map fun n => (n, st))

/-- A write of SVC_EL (R95). STATE 5 to 7 changes no electrode, and INDEX is stored for the read back; an INDEX that names no
electrode is ignored whole (DESIGN CHOICE, log entry 32). -/
def Dev.writeEl (d : Dev) (v : Word) : Dev :=
  let n := wGet v 8 8
  let st := wGet v 0 3
  if d.serviceOpen = false ∨ d.flag SCAN_STAT_RUN = true ∨ (160 ≤ n ∧ n ≠ 255) ∨ (n = 255 ∧ (st = 3 ∨ st = 4)) then d
  else
    let d := d.setFld SVC_EL_INDEX n
    if 5 ≤ st then d else if n = 255 then d.placeAll st else d.placeEl n st

/-- SVC_EL_WRITE (R95). -/
def execSvcElWrite (value : Word) (s : State) : Host.Outcome State Fault Refusal := s.run fun d => d.writeEl value

/-! Meter points (R78, R79, R81, R94). -/

/-- ARG is in the range of its POINT (R93). -/
def argOk (point arg : Nat) : Bool :=
  if point = 7 then decide (arg < 160)
  else if point = 8 then decide (arg ≤ 7 ∨ arg = 255)
  else if point = 9 then decide (arg ≤ 8)
  else true

/-! What AMON carries (R79). -/

/-- What a meter point reads in µV by the table of R79, from the targets, the last valid temperatures and the last tap
voltages; VDDA is taken as its typical 3.30 V (DESIGN CHOICE, log entry 28). -/
def Dev.pointMid (d : Dev) (point arg : Nat) : Nat :=
  match point with
  | 1 => d.rail.vtxTgt * 100
  | 2 => d.rail.vledTgt * 50
  | 3 => 1250000
  | 4 => arg * 2441
  | 5 => (750000 + 5 * d.hka.t0).toNat
  | 6 => (750000 + 5 * d.hka.t1).toNat
  | 7 => if d.staticOf arg = 4 then 825000 else 0
  | 8 => 150000
  | 9 => d.rail.vledTgt * 50 - ((List.range arg).map fun k => d.fld (LAMP_TAPV_VF k) * 500).sum
  | 10 => 1100000
  | 11 => 1650000
  | _ => 0

/-- The tolerance of R79 in µV. -/
def pointTolerance (point mid : Nat) : Nat :=
  match point with
  | 1 | 2 | 9 => mid * 3 / 100
  | 3 | 7 | 11 => mid / 100
  | 4 => mid / 100 + 3000
  | 5 | 6 => 15000
  | 10 => mid * 5 / 100
  | _ => 0

/-- The band of a meter point in mV, within the 2.5 V at which AMON clips. A sink's headroom has a lower end only, and the
lowest headroom 25 mV above it under the adaptive target. -/
def Dev.pointBand (d : Dev) (point arg : Nat) : Nat × Nat :=
  let mid := d.pointMid point arg
  let tol := pointTolerance point mid
  if point = 8 then (150, if arg = 255 ∧ d.flag RAIL_STAT_FIXED = false then 175 else 2500)
  else (min 2500 ((mid - tol + 499) / 1000), min 2500 ((mid + tol + 500) / 1000))

/-- A meter point is selected: AMON carries it, and point 7 puts its electrode on the meter path. ARG holds the low 8 bits of a
TDAC code, which no point reads back from it (DESIGN CHOICE, log entry 29). -/
def Dev.selectPoint (d : Dev) (point arg : Nat) : Dev :=
  let d := d.setReg SVC_AMON (pack [(arg % 256, 8), (point, 0)])
  let d := (d.setCon { d.con with amon := point != 0 }).setFlag SVC_STAT_METER (point != 0)
  if point = 7 ∧ d.staticOf arg ≠ 4 then d.placeEl arg 3 else d

/-- A write of SVC_AMON (R81, R94). -/
def Dev.writeAmon (d : Dev) (v : Word) : Dev :=
  let p := wGet v 0 5
  let point := if 12 ≤ p then 0 else p
  let arg := wGet v 8 8
  if d.serviceOpen = false ∨ argOk point arg = false then d
  else d.selectPoint point arg

/-- SVC_AMON_WRITE (R78). -/
def execSvcAmonWrite (value : Word) (s : State) : Host.Outcome State Fault Refusal := s.run fun d => d.writeAmon value

/-! Console commands. -/

/-- METER: selects a meter point and prints its scale and band (R79); `tdac` sets the code too. With the full command set open
outside SERVICE and SAFE it ends in E08 (DESIGN CHOICE, log entry 30). -/
def Dev.consoleMeter (d : Dev) (point arg : Nat) : Dev :=
  if d.fullSet = false then d.finishErr 6
  else if 12 ≤ point ∨ argOk point arg = false ∨ (point ≠ 4 ∧ 256 ≤ arg) then d.finishErr 5
  else if d.serviceOpen = false ∨ (point = 7 ∧ d.flag SCAN_STAT_RUN = true) then d.finishErr 8
  else
    let d := if point = 4 then d.writeTdac (wSet (d.reg HKA_TDAC) 0 10 arg) else d
    let d := d.selectPoint point arg
    let band := d.pointBand point arg
    (d.print (.meter point arg band.1 band.2)).finishOk

/-- METER (R78). -/
def execMeter (point : BitVec 5) (arg : BitVec 10) (s : State) : Host.Outcome State Fault Refusal :=
  s.run fun d => d.command (.meter point arg) fun d => d.consoleMeter point.toNat arg.toNat

/-- METER_OFF (R78). -/
def execMeterOff (s : State) : Host.Outcome State Fault Refusal :=
  s.run fun d => d.command .meterOff fun d => if d.fullSet then (d.selectPoint 0 0).finishOk else d.finishErr 6

/-- EL: an electrode, or every one, in a static state (R80, R85). Every electrode at once in a state of the meter path ends in
E05 (DESIGN CHOICE, log entry 31), and `el` outside SERVICE and SAFE in E08 (log entry 30). -/
def Dev.consoleEl (d : Dev) (all : Bool) (n st : Nat) : Dev :=
  if d.fullSet = false then d.finishErr 6
  else if 5 ≤ st then d.finishErr 4
  else if (all = false ∧ 160 ≤ n) ∨ (all = true ∧ 3 ≤ st) then d.finishErr 5
  else if d.serviceOpen = false ∨ d.flag SCAN_STAT_RUN = true then d.finishErr 8
  else if all then (d.placeAll st).finishOk
  else (d.placeEl n st).finishOk

/-- EL (R80). -/
def execEl (all : Bool) (n : BitVec 8) (st : BitVec 3) (s : State) : Host.Outcome State Fault Refusal :=
  s.run fun d => d.command (.el all n st) fun d => d.consoleEl all n.toNat st.toNat

/-- A manager whose GRID is one tile behaves as a standalone tile (R540). -/
def Dev.aloneNow (d : Dev) : Bool := !d.isWorker && !(d.isManager && d.onSurface)

/-- A worker asks the manager to enter or leave SERVICE; once 1 s has passed without its command, SVC_NO_MANAGER (R73,
R77). -/
def Dev.askService (d : Dev) (leave : Bool) : Dev :=
  let joined := d.flag EGL_TILE_JOINED
  let d := d.dropLine.setCon { d.dropLine.con with request := if leave then 2 else 1, requestDue := !joined }
  if joined then (d.send msgSvcReq 0 [word (bit leave)]).issueOps else d

/-- `svc code` with the right code (R70, R73, R74); in SERVICE it opens the full command set again after a core restart has
closed it (R90). -/
def Dev.svcAccepted (d : Dev) : Dev :=
  if d.mode = modeSafe then ((d.openSet 2).setFlag SVC_STAT_SAFE_SET true).finishOk
  else if d.mode = modeService then (if d.fullSet then d else d.openSet 2).finishOk
  else if d.isWorker then d.askService false
  else (d.serviceMode modeService 2).finishOk

/-- SVC (R70, R72). -/
def Dev.consoleSvc (d : Dev) (code : Nat) : Dev :=
  if d.codeBarred then d.finishErr 7
  else if code = d.svcCode then d.svcAccepted
  else (d.rejectCode 0).finishErr 7

/-- SVC (R70). -/
def execSvc (code : Word) (s : State) : Host.Outcome State Fault Refusal :=
  s.run fun d => d.command (.svc code) fun d => d.consoleSvc code.toNat

/-- The full command set closes without a change of mode (R76, R77). -/
def Dev.closeSet (d : Dev) : Dev :=
  let d := if d.flag SCAN_STAT_RUN && d.mode == modeSafe then d.scanStop 2 else d
  let d := (d.metersOff.setFld SVC_STAT_ENTRY 0).setFlag SVC_STAT_SAFE_SET false
  (d.ring 225 0 0).judgeGate

/-- The status line, the banner line, and the prompt: a tile that has left SERVICE shows its mode (chapter 3, worked
example). -/
def Dev.finishBanner (d : Dev) : Dev :=
  let d := d.setCon { d.con with line := [], framed := false, tooLong := false }
  (d.print .ok).sendBanner

/-- SVC_OFF (R76, R77). -/
def Dev.consoleSvcOff (d : Dev) : Dev :=
  if d.fullSet = false then d.finishErr 6
  else if d.mode ≠ modeService then d.closeSet.finishOk
  else if d.isWorker then d.askService true
  else if d.aloneNow then (d.changeMode modeIdle 4 d.time.frame).finishBanner
  else (d.serviceMode modeIdle 0).finishOk

/-- SVC_OFF (R77). -/
def execSvcOff (s : State) : Host.Outcome State Fault Refusal := s.run fun d => d.command .svcOff Dev.consoleSvcOff

/-- SVC_NO_MANAGER: 1 s without the manager's command ends the worker's command in E09 (R73, R77). -/
def execSvcNoManager (s : State) : Host.Outcome State Fault Refusal :=
  s.run fun d => if d.con.request = 0 then d else (d.setCon { d.con with
    request := 0,
    requestDue := false }).statusLine (.error 9)

/-- SERVICE_JOIN_TIMEOUT: a worker with SVCEN# low that has not joined opens the full command set; its SERVICE request still
follows once it has joined (R91). -/
def execServiceJoinTimeout (s : State) : Host.Outcome State Fault Refusal :=
  s.run fun d =>
    if d.con.waitJoin ∧ d.flag EGL_TILE_JOINED = false ∧ d.fullSet = false then d.openSet 1 else d

/-- The static state that every electrode is in, else gnd. -/
def Dev.commonState (d : Dev) : Nat :=
  let st := d.staticOf 0
  if (List.range 160).all fun n => d.staticOf n == st then st else 0

/-- The registers of the block that show other state (R93). With INDEX 0xFF, STATE shows the state that all electrodes
share, and gnd where they differ (DESIGN CHOICE, log entry 33). -/
def Dev.svcView (d : Dev) (a : Nat) : Option Word :=
  if a = SVC_STAT then
    let live := match d.con.lastChar with
      | none => false
      | some t => decide (d.ticks < t + 327680)
    some (wSet (d.reg a) 3 1 (bit live))
  else if a = SVC_EL then
    let n := d.fld SVC_EL_INDEX
    some (wSet (d.reg a) 0 3 (if n = 255 then d.commonState else d.staticOf n))
  else none

end Sys2Proof.Machine
end

