-- ==== Sys2Proof/Machine/HostAccess.lean ====
section
/-!
DEFINITION. HostAccess.lean: the host address space (R10 to R23): a read and a write of one word by a requester, wherever it
leads: a register, the remote window, the memory window or the host ring.
-/

namespace Sys2Proof.Machine

/-! Registers that show other state. -/

/-- PWR_IDLETMR (R201). -/
def Dev.pwrView (d : Dev) (a : Nat) : Option Word :=
  if a = PWR_IDLETMR then some (word (min ((d.ticks - d.modes.lastContact) / 32768) 4095)) else none

/-- The requester's snapshot (R384, R385), and TIME_STAT with its role bits (R417, R936). -/
def Dev.timeView (d : Dev) (rq : Requester) (a : Nat) : Option Word :=
  let sn := d.snapshot rq
  if a = TIME_FRAC then some sn.frac
  else if a = TIME_SECL then some sn.secl
  else if a = TIME_SECH then some sn.sech
  else if a = TIME_EPOCH then some sn.epoch
  else if a = TIME_FRAME then some sn.frame
  else if a = TIME_STAT then
    some (wSet (wSet (d.reg a) 0 1 (bit d.isWorker)) 3 1 (bit (!d.isWorker || d.flag TIME_STAT_LOCKED)))
  else none

/-- EVR_Hn_STAT (R380). -/
def Dev.hostStat (d : Dev) (p : HostPort) : Word :=
  let q := d.hostQ p
  let f := d.freeRecords p
  pack [(bit q.frozen, 23), (bit q.episode.isSome, 22), (bit (decide (f ≤ 16)), 21), (stackLevel q.stack, 17),
    (q.stack.length, 13), (f, 0)]

/-- Entry i of a host stack, 0 at the bottom (R380). -/
def stackWord (st : List StackEnt) (i : Nat) : Word :=
  match st.reverse[i]? with
  | none => 0
  | some e => pack [(e.pri, 9), (e.src, 0)]

def stackHas (st : List StackEnt) (src : Nat) : Bool := st.any fun e => e.src == src

/-- The pending records of a source for a consumer. -/
def Dev.pendOf (d : Dev) (p : HostPort) (src : Nat) : Nat := ((d.hostQ p).pend.filter fun r => r.src == src).length

/-- EVR_SSTAT (R380). -/
def Dev.sourceStat (d : Dev) (src : Nat) : Word :=
  pack [(bit (stackHas d.evr.h1.stack src), 23), (bit (stackHas d.evr.h0.stack src), 22),
    (min (d.pendOf .h1 src) 1023, 12), (min (d.pendOf .h0 src) 1023, 2)]

/-- EVR_C_STAT[n] (R380). -/
def Dev.coreStat (d : Dev) (n : Nat) : Word :=
  let c := d.core n
  pack [(bit c.asleep, 23), (bit c.restarting, 22), (stackLevel c.stack, 17), (min c.stack.length 15, 13),
    (d.fld (EVR_C_STAT_DELIV n), 0)]

/-- The registers of one host consumer that show other state. -/
def Dev.hostView (d : Dev) (p : HostPort) (a : Nat) : Option Word :=
  let base := (portFld p EVR_H0_STAT_FROZEN).addr
  if a = base then some (d.hostStat p)
  else if a = base + 8 then some (word (d.hostQ p).pendCount)
  else if base + 16 ≤ a ∧ a ≤ base + 30 then some (stackWord (d.hostQ p).stack (a - base - 16))
  else none

/-- The registers of the router that show other state (R380). -/
def Dev.evrView (d : Dev) (a : Nat) : Option Word :=
  if a = EVR_SCFG then
    let src := d.fld EVR_SSEL_SRC
    some (if src = 18 then wSet (d.srcCfg src) 19 1 1 else d.srcCfg src)
  else if a = EVR_SSTAT then some (d.sourceStat (d.fld EVR_SSEL_SRC))
  else if EVR_C_STAT 0 ≤ a ∧ a ≤ EVR_C_STAT 3 then some (d.coreStat (a - EVR_C_STAT 0))
  else if a = EVR_CORE then some (wSet (d.reg a) 6 9 d.evr.store.length)
  else (d.hostView .h0 a).or (d.hostView .h1 a)

/-- The registers of the buses that show other state (R457). -/
def Dev.twbView (d : Dev) (rq : Requester) (a : Nat) : Option Word :=
  if a = TWB_STAT then
    let low := d.nvwpLow
    some (wSet (wSet (wSet (d.reg a) 10 1 (bit low)) 1 1 (bit (!d.twb.held.isEmpty))) 0 1 (bit (rq == .twoWire || !d.twb.held.isEmpty)))
  else if a = TWB_CFG then
    some (pack [(d.par secHost 0x04, 12), (d.par secHost 0x03, 9), (d.par secHost 0x02, 8), (d.par secHost 0x01, 0)])
  else if a = TWB_NVSTAT then some (word d.holdRemain)
  else none

/-- What a register shows where it is not its stored word; by block (R21). -/
def Dev.viewOf (d : Dev) (rq : Requester) (a : Nat) : Option Word :=
  match a / 256 with
  | 0 => d.sysView a
  | 1 => d.pwrView a
  | 2 => d.timeView rq a
  | 3 => d.evrView a
  | 4 => d.cfgView a
  | 5 => d.cfgView a
  | 6 => d.scanView a
  | 7 => d.trkView a
  | 8 => d.railView a
  | 9 => d.lampView a
  | 10 => d.lampView a
  | 11 => d.irView a
  | 12 => d.hkaView rq a
  | 13 => d.calView a
  | 14 => d.memView rq a
  | 16 => d.surfView rq a
  | 17 => if a = USB_STAT then some d.usbStat else none
  | 18 => d.twbView rq a
  | 19 => d.svcView a
  | _ => none

/-- The registers with RO fields whose Reset column says *image*: first address, stride, count and the bits of those fields
(the Registers sections of chapters 7, 10, 12, 13, 15, 20 and 22). -/
def imageFields : List (Nat × Nat × Nat × Nat) := [
  (SCAN_FREQ 0, 1, 8, 0x8001FF), (SCAN_SENSOR, 1, 1, 0xFFFFFF), (SCAN_CHMAP 0, 1, 64, 0x0000FF),
  (TRK_RPT_STAT, 1, 1, 0x001800), (TWB_CFG, 1, 1, 0x00F37F), (USB_HID, 1, 1, 0x00000F), (USB_VID, 1, 1, 0x00FFFF),
  (USB_PID, 1, 1, 0x00FFFF), (EGL_SURF, 1, 1, 0x3FF800), (EGL_GRID, 1, 1, 0xFF3F3F), (LAMP_CHAINST, 1, 1, 0x3F0000),
  (LAMP_SNK 0, 1, 8, 0x00007F), (HKA_CCFG 0, 4, 16, 0xFFFFFF), (HKA_BLO 0, 4, 16, 0xFFFFFF), (HKA_BHI 0, 4, 16, 0xFFFFFF),
  (HKA_BCFG 0, 4, 16, 0x9FFFFF)]

/-- The bits of a register's RO fields of reset value *image*. -/
def imageMask (a : Nat) : Word :=
  match imageFields.find? fun (b, st, n, _) => decide (b ≤ a) && decide ((a - b) % st = 0) && decide ((a - b) / st < n) with
  | some (_, _, _, m) => word m
  | none => 0

/-- The bits of a register that do not show yet: the fields of reset value *image* read 0 until the image step (R17). Of
EVR_SCFG, whose fields a host may write, a source that nothing has configured reads 0. -/
def Dev.hiddenBits (d : Dev) (a : Nat) : Word :=
  if d.boot.imaged then 0
  else if a = EVR_SCFG then
    (if d.evr.cfg.any fun p => p.1 == configSource (d.fld EVR_SSEL_SRC) then 0x0C0000#24 else 0x0FFFFF#24)
  else imageMask a

/-- The word that a register reads as; WO fields and reserved bits read 0, and so do image fields before the image step
(R11, R14, R15, R17). -/
def Dev.regWord (d : Dev) (rq : Requester) (a : Nat) : Word :=
  ((d.viewOf rq a).getD (d.reg a)) &&& ~~~ woMask a &&& ~~~ d.hiddenBits a

/-! Reads (R13, R17). -/

/-- HIBERNATE: the tile is asleep and reaches no host. -/
def Dev.asleep (d : Dev) : Bool := d.mode == modeHibernate && d.modes.hibStep == 7 && !d.modes.waking

/-- A block that holds its reset values until a wake completes (R179). -/
def Dev.notAwake (d : Dev) (a : Nat) : Bool := d.modes.waking && decide (0x0300 ≤ a)

/-- A requester whose read clears RC fields (R17). -/
def clearsRc (rq : Requester) : Bool :=
  match rq with
  | .twoWire => true
  | .usb => true
  | .console => false
  | .remote => false

/-- What a read does beside returning its word: the snapshot, the pattern address, and the RC fields (R13, R384, R804). -/
def Dev.afterRead (d : Dev) (rq : Requester) (a : Nat) : Dev :=
  let d := if a = ITX_PDATA then (d.accessPdata false 0).2 else d
  if clearsRc rq ∧ rcMask a ≠ 0 then d.setReg a (d.reg a &&& ~~~ rcMask a) else d

/-- A register read: the word, and the machine after it. -/
def Dev.readReg (d : Dev) (rq : Requester) (a : Nat) : Word × Dev :=
  if regDefined a = false then (0, d)
  else if d.notAwake a then (regReset a &&& ~~~ woMask a, d)
  else
    let d := if a = TIME_FRAC then d.takeSnapshot rq else d
    (d.regWord rq a, d.afterRead rq a)

/-- The tile that a requester's remote window selects. -/
def Dev.remoteXY (d : Dev) (rq : Requester) : Nat := wGet (d.surf.rtile.getD (rqIndex rq) 0) 0 10

/-- The word address lies in the remote window of a manager (R22). -/
def Dev.inWindow (d : Dev) (a : Nat) : Bool := d.isManager && decide (0x2000 ≤ a) && decide (a < 0x4000)

/-- An access that goes out over the link (R568). -/
def Dev.goesRemote (d : Dev) (rq : Requester) (a : Nat) : Bool := d.inWindow a && d.remoteXY rq != 0

/-- The word that a local access of an address reaches: the window onto the own tile is the tile's own word (R568). -/
def Dev.localAddr (d : Dev) (a : Nat) : Nat := if d.inWindow a then a - 0x2000 else a

/-- A read of one word of the host address space that stays on this tile: the word, and the machine after it (R21). -/
def Dev.readLocal (d : Dev) (rq : Requester) (addr : Nat) (flips : List (BitVec 5)) : Word × Dev :=
  let a := d.localAddr (addr % 65536)
  if d.asleep then (0, d)
  else if a < 0x2000 then d.readReg rq a
  else if d.modes.waking then (0, d)
  else if 0x4000 ≤ a ∧ a < 0x8000 then
    (d.windowRead rq (a - 0x4000) flips).windowAnswer rq (a - 0x4000)
  else if 0x8000 ≤ a ∧ a < 0x9000 then (d.readWord 8 (a - 0x8000), d)
  else (0, d)

/-- A host read of any address; one that leaves over the link is issued, and its word comes with the response (R569). -/
def Dev.readHost (d : Dev) (rq : Requester) (addr : Nat) : Word × Dev :=
  if d.asleep = false ∧ d.goesRemote rq addr = true then (0, d.remoteIssue rq (addr - 0x2000) none)
  else d.readLocal rq addr []

/-! Writes (R11 to R16). -/

def Dev.writeSys (d : Dev) (rq : Requester) (a : Nat) (v : Word) : Dev :=
  if a = SYS_CTRL then d.writeSysCtrl rq v
  else if a = SYS_NVP_CMD then d.writeNvpCmd v
  else d.storeReg a v

def Dev.writePwr (d : Dev) (a : Nat) (v : Word) : Dev :=
  if a = PWR_CMD then d.writePwrCmd v
  else if a = PWR_WAKEEN then d.writeWakeEn v
  else if a = PWR_HOST then d.writePwrHost v
  else d.storeReg a v

/-- TIME_CMD: codes other than those listed are ignored (R417). -/
def Dev.writeTimeCmd (d : Dev) (v : Word) : Dev :=
  match wGet v 0 4 with
  | 1 => d.timeLoad
  | 2 => d.timeSlew
  | 3 => d.timeCancel
  | _ => d

def Dev.writeTime (d : Dev) (a : Nat) (v : Word) : Dev :=
  if a = TIME_CMD then d.writeTimeCmd v
  else if a = TIME_ALM_CTRL then d.writeAlarmCtrl v
  else if TIME_ALM_FRAC ≤ a ∧ a ≤ TIME_ALM_SECH then d.writeAlarmValue a v
  else d.storeReg a v

/-- A register of one host consumer. -/
def Dev.writeConsumer (d : Dev) (p : HostPort) (off a : Nat) (v : Word) : Dev :=
  match off with
  | 2 => d.releaseTo p (wGet v 0 11)
  | 3 => d.take p v
  | 4 => d.complete p (wGet v 0 9)
  | 5 => d.resetStack p v
  | _ => d.storeReg a v

def Dev.writeEvr (d : Dev) (a : Nat) (v : Word) : Dev :=
  if a = EVR_SCFG then d.writeSrcCfg (d.fld EVR_SSEL_SRC) v
  else if a = EVR_HDOOR then d.hostDoorbell (v &&& 0x1FF#24)
  else if 0x320 ≤ a ∧ a < 0x340 then d.writeConsumer .h0 (a - 0x320) a v
  else if 0x340 ≤ a ∧ a < 0x360 then d.writeConsumer .h1 (a - 0x340) a v
  else d.storeReg a v

def Dev.writeCfg (d : Dev) (a : Nat) (v : Word) : Dev :=
  if a = CFG_CMD then d.writeCfgCmd v
  else if a = CFG_NSTG then d.writeNstg v
  else if a = CFG_LEAD then d.writeLead v
  else d.storeReg a v

def Dev.writeTrk (d : Dev) (a : Nat) (v : Word) : Dev :=
  if a = TRK_CTRL then d.writeTrkCtrl v
  else if a = TRK_RPT_CTRL then d.writeRptCtrl v
  else if a = TRK_CAP_CTRL then d.writeCapCtrl v
  else d.storeReg a v

/-- RAIL_VLEDCMD and RAIL_VTXCMD; in SERVICE only the console's act (R75). -/
def Dev.writeRail (d : Dev) (rq : Requester) (a : Nat) (v : Word) : Dev :=
  let console := rq == .console
  if a = RAIL_CTRL then d.writeRailCtrl v
  else if a = RAIL_VLEDCMD then
    if wGet v 15 1 = 1 then d.vledFix (wGet v 0 13) (wGet v 16 8) console else d.vledAuto (wGet v 16 8) console
  else if a = RAIL_VTXCMD then d.vtxSet (wGet v 0 11) (wGet v 16 8) console
  else d.storeReg a v

def Dev.writeLamp (d : Dev) (rq : Requester) (a : Nat) (v : Word) : Dev :=
  if a = LAMP_GCLEAR then d.lampGclear v
  else if a = LAMP_CMDC then d.lampCommand rq v
  else if LAMP_FLT 0 ≤ a ∧ a ≤ LAMP_FLT 21 then d.lampFaultClear (a - LAMP_FLT 0) v
  else d.storeReg a v

def Dev.writeIr (d : Dev) (rq : Requester) (a : Nat) (v : Word) : Dev :=
  if a = IRX_CTRL then d.writeIrxCtrl v
  else if a = ITX_CARRIER then d.setReg a (clampCarrier v)
  else if a = ITX_CMD then d.writeItxCmd rq v
  else if a = ITX_PDATA then (d.accessPdata true v).2
  else d.storeReg a v

/-- The measured reference and the outcome of the settings write of a system calibration are free here (log entry 2). -/
def Dev.writeScFree (d : Dev) (v : Word) : Dev :=
  let (vref, d) := d.draw 16777216
  let (ok, d) := d.draw 2
  d.writeSccmd v vref (ok == 1)

def Dev.writeHka (d : Dev) (rq : Requester) (a : Nat) (v : Word) : Dev :=
  if a = HKA_HOST then d.writeHkaHost v
  else if a = HKA_CMD then d.writeHkaCmd v
  else if a = HKA_SNAP then d.hkaSnap rq v
  else if a = HKA_SCCMD then d.writeScFree v
  else if a = HKA_TDAC then d.writeTdac v
  else if a = HKA_TAPSEL then d.writeTapsel v
  else d.storeReg a v

def Dev.writeMem (d : Dev) (rq : Requester) (a : Nat) (v : Word) : Dev :=
  if a = MEM_WIN_SEL then d.writeWinSel rq v
  else if a = MEM_REPCMD then d.writeRepcmd v
  else if MEM_OWN 0 ≤ a ∧ a ≤ MEM_OWN 15 then d.writeOwner (some rq) (a - MEM_OWN 0) (wGet v 0 4)
  else d.storeReg a v

def Dev.writeGde (d : Dev) (a : Nat) (v : Word) : Dev :=
  if a = GDE_CCMD then d.gdeCommand v
  else if GDE_WINA 0 ≤ a then d.writeWin a v
  else d.storeReg a v

def Dev.writeEgl (d : Dev) (rq : Requester) (a : Nat) (v : Word) : Dev :=
  if a = EGL_PCTL then d.writePctl v
  else if a = EGL_RTILE then d.writeRtile rq v
  else if a = EGL_TRESET then d.writeTreset v
  else d.storeReg a v

def Dev.writeSvc (d : Dev) (a : Nat) (v : Word) : Dev :=
  if a = SVC_UNLOCK then d.writeUnlock v
  else if a = SVC_AMON then d.writeAmon v
  else if a = SVC_EL then d.writeEl v
  else if SVC_INJ 0 ≤ a ∧ a ≤ SVC_INJ 7 then d.writeInj a v
  else d.storeReg a v

/-- A write of a register that takes writes, by block (R21). -/
def Dev.writeBlock (d : Dev) (rq : Requester) (a : Nat) (v : Word) : Dev :=
  match a / 256 with
  | 0 => d.writeSys rq a v
  | 1 => d.writePwr a v
  | 2 => d.writeTime a v
  | 3 => d.writeEvr a v
  | 4 => d.writeCfg a v
  | 5 => d.writeCfg a v
  | 7 => d.writeTrk a v
  | 8 => d.writeRail rq a v
  | 9 => d.writeLamp rq a v
  | 11 => d.writeIr rq a v
  | 12 => d.writeHka rq a v
  | 13 => if a = CAL_CMD then d.writeCalCmd v else d.storeReg a v
  | 14 => d.writeMem rq a v
  | 15 => d.writeGde a v
  | 16 => d.writeEgl rq a v
  | 17 => if a = USB_CTRL then d.writeUsbCtrl rq v else d.storeReg a v
  | 18 => if a = TWB_NVCTL then d.writeNvctl v else d.storeReg a v
  | 19 => d.writeSvc a v
  | _ => d.storeReg a v

/-- A register write: ignored and counted at a reserved address or where every field is RO (R15, R16). -/
def Dev.writeReg (d : Dev) (rq : Requester) (a : Nat) (v : Word) : Dev :=
  if regDefined a = false ∨ regReadOnly a = true then d.ignoreWrite
  else if d.notAwake a then d
  else d.writeBlock rq a v

/-- A write of one word of the host address space that stays on this tile (R15, R21, R341). -/
def Dev.writeLocal (d : Dev) (rq : Requester) (addr : Nat) (v : Word) : Dev :=
  let a := d.localAddr (addr % 65536)
  if d.asleep then d
  else if a < 0x2000 then d.writeReg rq a v
  else if 0x4000 ≤ a ∧ a < 0x8000 then (if d.modes.waking then d else d.windowWrite rq (a - 0x4000) v)
  else d.ignoreWrite

/-- A host write of any address (R568, R569). -/
def Dev.writeHost (d : Dev) (rq : Requester) (addr : Nat) (v : Word) : Dev :=
  if d.asleep = false ∧ d.goesRemote rq addr = true then d.remoteIssue rq (addr - 0x2000) (some v)
  else d.writeLocal rq addr v

/-! The commands. -/

/-- REGISTER_WRITE (R11). -/
def execRegisterWrite (rq : Requester) (addr : BitVec 16) (value : Word) (s : State) : Host.Outcome State Fault Refusal :=
  s.run fun d => d.writeHost rq addr.toNat value

/-- RC_FIELD_READ (R13). -/
def execRcFieldRead (rq : Requester) (addr : BitVec 16) (s : State) : Host.Outcome State Fault Refusal :=
  s.run fun d => (d.readHost rq addr.toNat).2

/-- REMOTE_WINDOW_READ: a read at 0x2000 + addr (R568). -/
def execRemoteWindowRead (rq : Requester) (addr : BitVec 16) (s : State) : Host.Outcome State Fault Refusal :=
  s.run fun d => if addr.toNat < 0x2000 then (d.readHost rq (0x2000 + addr.toNat)).2 else d

/-- REMOTE_WINDOW_WRITE: a write at 0x2000 + addr (R568). -/
def execRemoteWindowWrite (rq : Requester) (addr : BitVec 16) (value : Word) (s : State) : Host.Outcome State Fault Refusal :=
  s.run fun d => if addr.toNat < 0x2000 then d.writeHost rq (0x2000 + addr.toNat) value else d

/-! Accesses that a manager forwards (R568, R569). -/

/-- A read forwarded by the manager, which clears no RC field (R17): the words of REMOTE_RESP. -/
def Dev.remoteRdMsg (d : Dev) (words : List Word) : List Word × Dev :=
  let a := (words.getD 0 0).toNat % 65536
  let (w, d) := d.readLocal .remote a []
  ([word (msgRemoteResp * 65536), word a, w], d)

/-- A write forwarded by the manager. -/
def Dev.remoteWrMsg (d : Dev) (words : List Word) : List Word × Dev :=
  let a := (words.getD 0 0).toNat % 65536
  let d := d.writeLocal .remote a (words.getD 1 0)
  ([word (msgRemoteResp * 65536), word a, 0], d)

/-- REMOTE_RD (R569): a worker answers with REMOTE_RESP. -/
def execRemoteRd (src : BitVec 10) (tag : BitVec 6) (addr : BitVec 16) (s : State) : Host.Outcome State Fault Refusal :=
  s.run fun d =>
    if d.isWorker then
      let (ws, d) := d.remoteRdMsg [word addr.toNat]
      d.respond src.toNat tag.toNat 1 ws
    else d

/-- REMOTE_WR (R569). A software reset waits for the answer (R111). -/
def execRemoteWr (src : BitVec 10) (tag : BitVec 6) (addr : BitVec 16) (value : Word) (s : State) :
    Host.Outcome State Fault Refusal :=
  s.run fun d =>
    if d.isWorker then
      let (ws, d) := d.remoteWrMsg [word addr.toNat, value]
      d.respond src.toNat tag.toNat 1 ws
    else d

end Sys2Proof.Machine
end

