-- ==== Sys2Proof/Machine/TwoWireTarget.lean ====
section
/-!
DEFINITION. TwoWireTarget.lean: the two-wire target: the word pointer, write and read transfers with and without PEC, the
SMBus alert and the time-out (R418 to R433, R444 to R447, R452, R453).
-/

namespace Sys2Proof.Machine

/-- The target acknowledges addresses: from the end of start-up step 5 on, not in HIBERNATE, and while its balls work (R41,
R124, R179, R452). -/
def Dev.targetAnswers (d : Dev) : Bool := decide (6 ≤ d.pwr.step) && d.pwr.held.isNone && !d.asleep && d.ioLive

/-- PEC is on (R427). -/
def Dev.pecOn (d : Dev) : Bool := d.par secHost 0x02 == 1

/-- The next address within the 32-word page (R421). -/
def pageNext (a : Nat) : Nat := a / 32 * 32 + (a + 1) % 32

def Dev.setPtr (d : Dev) (a : Nat) : Dev := d.setTwb { d.twb with ptr := a % 65536 }

/-- TWB_POINTER: two pointer bytes begin a write transfer; words held for a PEC byte of an earlier phase are gone (R420,
R428). A write phase after a repeated START counts as a transfer of its own here: no row tells the two apart (log entry
43). -/
def execTwbPointer (ptr : BitVec 16) (s : State) : Host.Outcome State Fault Refusal :=
  s.run fun d => if d.targetAnswers then d.setTwb { d.twb with ptrBefore := d.twb.ptr, ptr := ptr.toNat, held := [] } else d

/-- One word written at the pointer, which advances within its page (R421). -/
def Dev.writeAtPtr (d : Dev) (v : Word) : Dev :=
  if d.targetAnswers then
    let a := d.twb.ptr
    (d.setPtr (pageNext a)).writeHost .twoWire a v
  else d

/-- TWB_WORD_WRITE: the word is written at once, or held while PEC is on (R421, R428). -/
def execTwbWordWrite (value : Word) (s : State) : Host.Outcome State Fault Refusal :=
  s.run fun d =>
    if d.targetAnswers = false then d
    else if d.pecOn then d.setTwb { d.twb with held := d.twb.held ++ [value] }
    else d.writeAtPtr value

/-- TWB_WORD_READ: the word at the pointer, its RC fields and its snapshot; the pointer advances linearly (R423, R424).
`first` marks a read that begins its transfer: after a pointer and a repeated START it does not, and the pointer from before
the transfer stays the one of before that pointer (R433). -/
def execTwbWordRead (first : Bool) (s : State) : Host.Outcome State Fault Refusal :=
  s.run fun d =>
    if d.targetAnswers = false then d
    else
      let a := d.twb.ptr
      let d := d.setTwb { d.twb with ptrBefore := if first then a else d.twb.ptrBefore, ptr := (a + 1) % 65536, held := [] }
      (d.readHost .twoWire a).2

/-- TWB_PARTIAL: a transfer ends after one pointer byte, or with 1 or 2 bytes of a word (R420, R422, R445). With PEC on, a
write phase with both pointer bytes that ends in STOP is judged whole by TWB_PEC_WRITE instead. -/
def execTwbPartial (count : BitVec 2) (s : State) : Host.Outcome State Fault Refusal :=
  s.run fun d => if d.targetAnswers ∧ (count = 1 ∨ count = 2) then d.bump TWB_CNT_PARTIAL else d

/-! Writes with PEC (R427, R428, R446). -/

/-- The two bytes of a word pointer. -/
def ptrBytes (p : Nat) : List Byte := [BitVec.ofNat 8 (p / 256), BitVec.ofNat 8 p]

/-- The bytes that the PEC byte of the write phase in progress covers: those of earlier phases, then the address, the
pointer and what came after it (R427). -/
def Dev.pecBytes (d : Dev) (before tail : List Byte) : List Byte :=
  before ++ [BitVec.ofNat 8 (d.par secHost 0x01 * 2)] ++ ptrBytes d.twb.ptr ++ d.twb.held.flatMap wordBytes ++ tail

/-- TWB_PEC_WRITE: at the STOP the held words are performed in order when the PEC byte matches and no part of a word is left
over; otherwise none is, and the pointer returns (R428, R446). -/
def Dev.pecStop (d : Dev) (before tail : List Byte) (pec : Byte) : Dev :=
  if d.targetAnswers = false ∨ d.pecOn = false then d
  else
    let ws := d.twb.held
    let p := d.twb.ptr
    let ok := tail.isEmpty && crc8 (d.pecBytes before tail) == pec
    let d := d.setTwb { d.twb with held := [] }
    if ok then ws.foldl Dev.writeAtPtr d
    else
      let d := (d.setPtr d.twb.ptrBefore).bump TWB_CNT_PECERR
      d.ring 201 (word p) (word (3 * ws.length + tail.length + 1))

/-- TWB_PEC_WRITE (R428). -/
def execTwbPecWrite (before tail : List Byte) (pec : Byte) (s : State) : Host.Outcome State Fault Refusal :=
  s.run fun d => d.pecStop before tail pec

/-! SMBus alert (R430 to R432, R447). -/

/-- The bytes of an alert response (R431). -/
def Dev.araBytes (d : Dev) : List Byte :=
  let addr := BitVec.ofNat 8 (d.par secHost 0x01 * 2)
  let bs := if d.par secHost 0x03 = 1 then [BitVec.ofNat 8 ((15 - d.ringMaxPri .h0) * 16 + 15), addr] else [addr]
  if d.pecOn then bs ++ [crc8 (0x19#8 :: bs)] else bs

/-- The target loses at the first bit at which it sends 1 and the bus reads 0: at an earlier bit the two have sent the same,
or the other has lost (R432). `others` holds the bytes that the other responders drive. -/
def araLost : List Byte → List Byte → Bool
  | b :: bs, o :: os => (b &&& ~~~ o) != 0 || araLost bs os
  | _, _ => false

/-- ALERT_RESPONSE: won, it releases ALERT#; lost, it counts (R431, R432). -/
def execAlertResponse (others : List Byte) (s : State) : Host.Outcome State Fault Refusal :=
  s.run fun d =>
    if d.targetAnswers = false ∨ d.flag TWB_STAT_ALERT = false then d
    else if araLost d.araBytes others then d.bump TWB_CNT2_ARALOST
    else d.setFlag TWB_STAT_ALERT false

/-! Time-outs (R179, R426, R433). -/

/-- SMBUS_TIMEOUT: held words are discarded, and the pointer keeps its value from before the transfer (R433). -/
def execSmbusTimeout (begun : Bool) (s : State) : Host.Outcome State Fault Refusal :=
  s.run fun d =>
    if d.targetAnswers then
      let p := d.twb.ptr
      let d := d.setTwb { d.twb with held := [], ptr := if begun then d.twb.ptrBefore else p }
      let d := d.bump TWB_CNT_TIMEOUT
      d.ring 200 (word p) (d.reg TWB_CNT)
    else d

/-- The longest stretch so far (TWB_STRETCH). -/
def Dev.noteStretch (d : Dev) (us : Nat) : Dev := d.setFld TWB_STRETCH_MAX (max (d.fld TWB_STRETCH_MAX) (min us 65535))

/-- REMOTE_LATE: a remote word not ready within 1 ms of stretching returns 0, counts, and the pointer advances; its link
operation runs on (R426). -/
def execRemoteLate (s : State) : Host.Outcome State Fault Refusal :=
  s.run fun d =>
    if d.targetAnswers ∧ d.inWindow d.twb.ptr = true then
      ((d.bump TWB_CNT2_REMOTE_LATE).noteStretch 1000).setPtr (d.twb.ptr + 1)
    else d

/-- WAKE_ADDRESS_STRETCH_TIMEOUT: the target releases SCL after 2 ms and does not acknowledge (R179). -/
def execWakeAddressStretchTimeout (s : State) : Host.Outcome State Fault Refusal :=
  s.run fun d => if d.modes.waking then d.noteStretch 2000 else d

end Sys2Proof.Machine
end

