-- ==== Sys2Proof/Machine/Ep2.lean ====
section
/-!
DEFINITION. Ep2.lean: the vendor bulk protocol of USB endpoint 2 (R475 to R479, R489, R490, R493).
-/

namespace Sys2Proof.Machine

/-- EP2 takes a command: configured, not suspended, no halt, and no command or response under way (R476). -/
def Dev.ep2Ready (d : Dev) : Bool :=
  d.usbState == usbConfigured && !d.flag USB_STAT_SUSP && !d.usb.halt2Out && d.usb.command.isNone && d.usb.response.isNone

/-- The address after one word: linear for READ, within the page for WRITE (R475). -/
def EpCommand.next (c : EpCommand) : Nat := if c.op = 1 then (c.addr + 1) % 65536 else pageNext c.addr

/-- The command after one word has been read or written. -/
def EpCommand.step (c : EpCommand) (w : Word) : EpCommand :=
  { c with addr := c.next, left := c.left - 1, data := c.data.drop 1, done := c.done ++ [w] }

/-- One word that stays on this tile. -/
def Dev.ep2Word (d : Dev) (c : EpCommand) : EpCommand × Dev :=
  if c.op = 1 then
    let (w, d) := d.readLocal .usb c.addr []
    (c.step w, d)
  else (c.step 0, d.writeLocal .usb c.addr (c.data.headD 0))

/-- The command goes on until it ends, or waits for a link operation; an access to a tile that has not joined fails at once
(R479, R570). -/
def Dev.ep2Run (d : Dev) (c : EpCommand) : Nat → Dev
  | 0 => d.ep2Finish c 0
  | k + 1 =>
    if c.left = 0 then d.ep2Finish c 0
    else if d.goesRemote .usb c.addr then
      let joined := d.hasJoined (d.remoteXY .usb)
      let d := d.remoteIssue .usb (c.addr - 0x2000) (if c.op = 1 then none else some (c.data.headD 0))
      if joined then d.setUsb { d.usb with command := some c } else d.ep2Finish c 3
    else
      let (c, d) := d.ep2Word c
      Dev.ep2Run d c k

/-- The link operation of a waiting command has ended (R479). -/
def Dev.ep2Resume (d : Dev) (ok : Bool) (w : Word) : Dev :=
  match d.usb.command with
  | none => d
  | some c =>
    let d := d.setUsb { d.usb with command := none }
    if ok then d.ep2Run (c.step w) 256 else d.ep2Finish c 3

/-- EP2_READ (R475, R477). -/
def execEp2Read (tag n : Byte) (addr : BitVec 16) (s : State) : Host.Outcome State Fault Refusal :=
  s.run fun d =>
    if d.ep2Ready = false then d
    else if n = 0 then d.ep2Answer 1 tag 2 0 []
    else d.ep2Run ⟨1, tag, addr.toNat, n.toNat, [], []⟩ 256

/-- EP2_WRITE (R475): the data bytes match N, else STATUS 2. -/
def execEp2Write (tag n : Byte) (addr : BitVec 16) (data : List Word) (s : State) : Host.Outcome State Fault Refusal :=
  s.run fun d =>
    if d.ep2Ready = false then d
    else if n = 0 ∨ 32 < n.toNat ∨ data.length ≠ n.toNat then d.ep2Answer 2 tag 2 0 []
    else d.ep2Run ⟨2, tag, addr.toNat, n.toNat, data, []⟩ 256

/-- The words of a record of the H1 ring. -/
def Dev.h1Record (d : Dev) (slot : Nat) : List Word := (List.range 4).map fun i => d.bank 8 (slotBase .h1 slot + i)

/-- EP2_EVENTS (R475, R478). -/
def execEp2Events (tag n flags : Byte) (s : State) : Host.Outcome State Fault Refusal :=
  s.run fun d =>
    if d.ep2Ready = false then d
    else if n = 0 ∨ 64 < n.toNat then d.ep2Answer 3 tag 2 0 []
    else
      let k := min n.toNat (d.occupancy .h1)
      let body := (List.range k).flatMap fun i => (d.h1Record (d.ringRd .h1 + i)).flatMap wordBytes
      let d := d.ep2Answer 3 tag 0 k body
      d.setUsb { d.usb with release := if flags.getLsbD 0 then k else 0 }

/-- EP2_UNKNOWN_OP (R475). -/
def execEp2UnknownOp (code tag : Byte) (s : State) : Host.Outcome State Fault Refusal :=
  s.run fun d => if d.ep2Ready = false ∨ code = 1 ∨ code = 2 ∨ code = 3 then d else d.ep2Answer code.toNat tag 1 0 []

/-- EP2_BAD_LENGTH: a transfer longer than any valid command is counted too (R475, R489). -/
def execEp2BadLength (code tag : Byte) (ovr : Bool) (s : State) : Host.Outcome State Fault Refusal :=
  s.run fun d =>
    if d.ep2Ready = false then d
    else (if ovr then d.bump USB_CNT_BADCMD else d).ep2Answer code.toNat tag 2 0 []

/-- A DETACH written over USB itself acts at the acknowledgement of its response (R493). -/
def Dev.detachBy (d : Dev) (det : Option Bool) : Dev :=
  match det with
  | some b => d.setDetach b
  | none => d

/-- EP2_RESPONSE_ACK: the last packet of the response is acknowledged: RD advances, and what waited for it acts (R111, R478,
R493). -/
def Dev.ep2Acked (d : Dev) : Dev :=
  if d.usb.response.isNone then d
  else
    let n := d.usb.release
    let det := d.usb.detachAtAck
    let d := d.setUsb { d.usb with response := none, release := 0, detachAtAck := none }
    let d := if n = 0 then d else d.releaseTo .h1 ((d.ringRd .h1 + n) % 2048)
    let d := d.detachBy det
    if d.pwr.swReset = some .usb then d.performReset else d

/-- EP2_RESPONSE_ACK (R478). -/
def execEp2ResponseAck (s : State) : Host.Outcome State Fault Refusal := s.run Dev.ep2Acked

end Sys2Proof.Machine
end

