-- ==== Sys2Proof/Machine/Console.lean ====
section
/-!
DEFINITION. Console.lean: the Farnos console (R64 to R69, R82 to R91): the line, the commands of every block that stand in no
other file, and what interrupts a command. A command row stands for a whole line that spells it; where the
manual gives no format of a reply, the reply carries a tag and the words it prints (log entry 6).
-/

namespace Sys2Proof.Machine

/-! The line (R65, R66, R87, R88). -/

/-- A character is kept and echoed; the 81st and later ones are discarded (R66, R68). -/
def Dev.keepChar (d : Dev) (c : Byte) : Dev :=
  if d.con.line.length < 80 then (d.setCon { d.con with line := d.con.line ++ [c] }).print (.echo c)
  else d.setCon { d.con with tooLong := true }

/-- BS and DEL delete the last character held, answered with BS, space, BS (R66). -/
def Dev.rubChar (d : Dev) : Dev :=
  if d.con.line.isEmpty then d
  else (d.setCon { d.con with line := d.con.line.dropLast }).printAll [.echo 0x08#8, .echo 0x20#8, .echo 0x08#8]

/-- CTRL_C: stops a running `log`, `rd` or `evmon`, which ends in E12 (R83). -/
def Dev.ctrlC (d : Dev) : Dev :=
  if d.con.rd.isSome || !d.con.todo.isEmpty || d.con.logWait.isSome then
    (d.setCon { d.con with rd := none, todo := [], logWait := none }).statusLine (.error 12)
  else if d.con.evmon then (d.setCon { d.con with evmon := false }).statusLine (.error 12)
  else d

/-- CTRL_C (R83). -/
def execCtrlC (s : State) : Host.Outcome State Fault Refusal := s.run Dev.ctrlC

/-- CONSOLE_BREAK: the partial line is discarded without a reply, and the break is counted (R87). -/
def execConsoleBreak (s : State) : Host.Outcome State Fault Refusal := s.run fun d => d.dropLine.bump SVC_ERR_FRAMING

/-- PARTIAL_LINE_TIMEOUT: 60 s idle (R66, Limits of chapter 3). -/
def execPartialLineTimeout (s : State) : Host.Outcome State Fault Refusal := s.run Dev.dropLine

/-- CONSOLE_WAKE_EDGE: in WATCH the console requests the fast oscillator, which starts (R65). -/
def execConsoleWakeEdge (s : State) : Host.Outcome State Fault Refusal :=
  s.run fun d =>
    if d.mode = modeWatch then
      let d := d.setCon { d.con with session := true }
      if d.flag SYS_CLK_FOSC_ON then d else d.foscStart
    else d

/-- CONSOLE_SESSION_END: 10 s after the last character the console withdraws its request; the oscillator stops 64 µs later
unless another block requests it, by FOSC_STOP (R65, R108). -/
def execConsoleSessionEnd (s : State) : Host.Outcome State Fault Refusal :=
  s.run fun d => d.setCon { d.con with lastChar := none, session := false }

/-! Running commands (R82, R83). -/

/-- `rd` from an address: a word over the link waits for its operation, and one of a tile that has not joined fails at once
(R69, R570, E11). -/
def Dev.rdRun (d : Dev) (a left : Nat) : Nat → Dev
  | 0 => d.endRun .ok
  | k + 1 =>
    if left = 0 then d.endRun .ok
    else if d.goesRemote .console a then
      let joined := d.hasJoined (d.remoteXY .console)
      let d := d.remoteIssue .console (a - 0x2000) none
      if joined then d.setCon { d.con with rd := some (a, left) } else d.endRun (.error 11)
    else
      let (w, d) := d.readLocal .console a []
      Dev.rdRun (d.addRun [.rdWord a w]) ((a + 1) % 65536) (left - 1) k

/-- The link operation of a waiting `rd` has ended. -/
def Dev.rdResume (d : Dev) (ok : Bool) (w : Word) : Dev :=
  match d.con.rd with
  | none => d
  | some (a, left) =>
    let d := d.setCon { d.con with rd := none }
    if ok then (d.addRun [.rdWord a w]).rdRun ((a + 1) % 65536) (left - 1) 32 else d.endRun (.error 11)

/-- RD (R69). -/
def execRd (addr : BitVec 16) (n : BitVec 16) (s : State) : Host.Outcome State Fault Refusal :=
  s.run fun d => d.longCommand (.rd addr n) fun d =>
    if n = 0 ∨ 32 < n.toNat then d.finishErr 5 else d.rdRun addr.toNat n.toNat 32

/-- WR: a write through the remote window is posted (R69, R84, R569). -/
def execWr (addr : BitVec 16) (value : Word) (s : State) : Host.Outcome State Fault Refusal :=
  s.run fun d => d.command (.wr addr value) fun d =>
    if d.fullSet then d.finishOk.writeHost .console addr.toNat value else d.finishErr 6

/-- LOG: it prints the records complete when it begins, and waits while the NVM proxy holds the bus (R86). -/
def Dev.consoleLog (d : Dev) (kind n : Nat) : Dev :=
  if kind = 0 ∧ (n = 0 ∨ 64 < n) then d.finishErr 5
  else if d.boot.nvpOp ≠ 0 then d.setCon { d.con with logWait := some (d.logLines kind n) }
  else d.printRun (d.logLines kind n)

/-- LOG (R86). -/
def execLog (kind : BitVec 2) (n : BitVec 24) (s : State) : Host.Outcome State Fault Refusal :=
  s.run fun d => d.longCommand (.log kind n) fun d => d.consoleLog kind.toNat n.toNat

/-- LOG_NVM_TIMEOUT: 100 ms without the NVM bus (R86). -/
def execLogNvmTimeout (s : State) : Host.Outcome State Fault Refusal :=
  s.run fun d => if d.con.logWait.isSome then (d.setCon { d.con with logWait := none }).statusLine (.error 10) else d

/-! Commands of any set (R69). -/

/-- Data words and OK. -/
def Dev.say (d : Dev) (tag : Nat) (ws : List Word) : Dev := (d.print (.values tag ws)).finishOk

/-- The words that registers show the console. -/
def Dev.shown (d : Dev) (as : List Nat) : List Word := as.map (d.regWord .console)

/-- HELP: the commands available in the present state (R69). -/
def execHelp (s : State) : Host.Outcome State Fault Refusal :=
  s.run fun d => d.command .help fun d => (d.print (.listing (helpList d.fullSet))).finishOk

/-- ID. -/
def execId (s : State) : Host.Outcome State Fault Refusal :=
  s.run fun d => d.command .id fun d => d.say 0x01
    (d.shown [SYS_PARTID, SYS_REV] ++ [word d.role, word (d.fld EGL_TILE_X), word (d.fld EGL_TILE_Y),
      word d.mode] ++ d.shown [SVC_STAT])

/-- TIME: one snapshot. -/
def execTime (s : State) : Host.Outcome State Fault Refusal :=
  s.run fun d => d.command .time fun d =>
    let d := d.takeSnapshot .console
    d.say 0x02 (d.shown [TIME_SECH, TIME_SECL, TIME_FRAC, TIME_EPOCH, TIME_FRAME])

/-- EVMON_ON. -/
def execEvmonOn (s : State) : Host.Outcome State Fault Refusal :=
  s.run fun d => d.command .evmonOn fun d => (d.setCon { d.con with evmon := true }).finishOk

/-- EVMON_OFF. -/
def execEvmonOff (s : State) : Host.Outcome State Fault Refusal :=
  s.run fun d => d.command .evmonOff fun d => (d.setCon { d.con with evmon := false }).finishOk

/-- CONSOLE_RESET: a reset of code 5 follows the status line at once, which leaves that line unsent (R114; DESIGN CHOICE, log
entry 76). -/
def execConsoleReset (s : State) : Host.Outcome State Fault Refusal :=
  s.run fun d => d.command .consoleReset fun d => if d.fullSet then d.finishOk.resetNow 5 else d.finishErr 6

/-- The first and last word address of what `block stat` prints. -/
def statRange (block : Nat) : Option (Nat × Nat) :=
  [(0x0600, 0x061F), (0x0700, 0x0727), (0x0800, 0x081F), (0x0900, 0x091F), (0x0B00, 0x0B0F), (0x0B20, 0x0B2F), (0x0C00,
    0x0C1F),
    (0x0D00, 0x0D12), (0x0E00, 0x0E1F), (0x0F00, 0x0F1F), (0x1000, 0x105F), (0x1100, 0x110F), (0x1200, 0x1213), (0x0320,
      0x0364)][block]?

/-- BLOCK_STAT. -/
def Dev.blockStat (d : Dev) (block : Nat) : Dev :=
  match statRange block with
  | none => d.finishErr 3
  | some (lo, hi) => d.say (0x10 + block) (d.shown (((List.range (hi - lo + 1)).map (lo + ·)).filter regDefined))

/-- BLOCK_STAT (R69). -/
def execBlockStat (block : BitVec 4) (s : State) : Host.Outcome State Fault Refusal :=
  s.run fun d => d.command (.blockStat block) fun d => d.blockStat block.toNat

/-- SYS_STAT (R126): with the ticks of the last core watchdog resets. -/
def execSysStat (s : State) : Host.Outcome State Fault Refusal :=
  s.run fun d => d.command .sysStat fun d => d.say 0x03 (d.shown [SYS_RSTCAUSE, SYS_RSTCNT, SYS_SUPPLY, SYS_CLK] ++
    d.pwr.wdTicks.map word)

/-- BOOT_STAT (R161). -/
def execBootStat (s : State) : Host.Outcome State Fault Refusal :=
  s.run fun d => d.command .bootStat fun d => d.say 0x04 (d.shown [SYS_BOOT, SYS_IMGSEQ, SYS_IMGLEN, SYS_IMGERR, SYS_FUSE])

/-- IMG_CHECK: a VERIFY of a slot: its result code, SEQ, LENGTH and signature state (R151). -/
def Dev.imgCheck (d : Dev) (slotB : Bool) : Dev :=
  if d.boot.nvpOp ≠ 0 then d.finishErr 8
  else
    let a := if slotB then slotBaseB else slotBaseA
    let v := d.verifySlot a
    let h := d.nvmRead a 32
    (d.noteVerify a v).say 0x05 [word v.code, word (headerSeq h), word (headerLen h), word (bit (headerSigned h))]

/-- IMG_CHECK (R151). -/
def execImgCheck (slotB : Bool) (s : State) : Host.Outcome State Fault Refusal :=
  s.run fun d => d.command (.imgCheck slotB) fun d => d.imgCheck slotB

/-- NVM_RD: 1 to 64 bytes (chapter 5). -/
def Dev.nvmShow (d : Dev) (a n : Nat) : Dev :=
  if n = 0 ∨ 64 < n ∨ 262144 < a + n then d.finishErr 5
  else if d.boot.nvpOp ≠ 0 then d.finishErr 8
  else d.say 0x06 ((d.nvmRead a n).map fun b => word b.toNat)

/-- NVM_RD (R131). -/
def execNvmRd (addr : BitVec 24) (n : BitVec 8) (s : State) : Host.Outcome State Fault Refusal :=
  s.run fun d => d.command (.nvmRd addr n) fun d => d.nvmShow addr.toNat n.toNat

/-- PWR_STAT (R201): with the last eight mode changes. -/
def execPwrStat (s : State) : Host.Outcome State Fault Refusal :=
  s.run fun d => d.command .pwrStat fun d => d.say 0x07 (d.shown [PWR_STAT, PWR_WAKESRC, PWR_WAKECNT] ++
    d.modes.history.flatMap fun p => [p.1, p.2])

/-- PWR_WAKE (R195). -/
def execPwrWake (s : State) : Host.Outcome State Fault Refusal :=
  s.run fun d => d.command .pwrWake fun d => d.say 0x08 [word (d.fld PWR_WAKEEN_EN), word (d.fld PWR_WAKECNT_STORMOFF)]

/-- TIME_STAT (R417): with the last eight steps. -/
def execTimeStat (s : State) : Host.Outcome State Fault Refusal :=
  s.run fun d => d.command .timeStat fun d => d.say 0x09 (d.shown [TIME_STAT, TIME_OFS, TIME_SLEWREM, TIME_STEPCNT,
    TIME_CNT] ++ d.time.steps.flatMap fun p => [p.1, p.2])

/-- EVR_SRC (R335). -/
def execEvrSrc (n : BitVec 10) (s : State) : Host.Outcome State Fault Refusal :=
  s.run fun d => d.command (.evrSrc n) fun d => if 511 < n.toNat then d.finishErr 5 else d.say 0x0B [d.srcCfg n.toNat,
    d.sourceStat n.toNat]

/-- EVR_FIRE: as the host doorbell, with payload 0 (R334). -/
def execEvrFire (n : BitVec 10) (s : State) : Host.Outcome State Fault Refusal :=
  s.run fun d => d.command (.evrFire n) fun d =>
    if d.fullSet = false then d.finishErr 6
    else if n.toNat < 256 ∨ 319 < n.toNat then d.finishErr 5
    else (d.ring n.toNat 0 0).finishOk

/-- CFG_STAT (R539): with the last eight commits. -/
def execCfgStat (s : State) : Host.Outcome State Fault Refusal :=
  s.run fun d => d.command .cfgStat fun d => d.say 0x0C
    (d.shown [CFG_STAT, CFG_APPLY, CFG_EPOCH, CFG_ERR, CFG_CNT, CFG_CNT2] ++ d.com.history.flatMap fun p =>
      [word p.1, word p.2])

/-- The image's own value of a parameter (R536). -/
def Dev.imageValue (d : Dev) (p : Nat) : Word :=
  match d.img.find? fun e => e.1 == p with
  | some e => e.2
  | none => cellsGet paramDefault d.cfg p

/-- The parameter id names a word of a field (R500). -/
def pidKnown (p : Nat) : Bool :=
  match fieldSpec (pidSect p) (pidField p) with
  | none => false
  | some f => decide (p < 16777216) && decide (pidIndex p < f.maxWords)

/-- CFG_GET (R539). -/
def execCfgGet (p : Word) (s : State) : Host.Outcome State Fault Refusal :=
  s.run fun d => d.command (.cfgGet p) fun d =>
    if pidKnown p.toNat then d.say 0x0D [cellsGet paramDefault d.cfg p.toNat, d.imageValue p.toNat] else d.finishErr 5

/-- CFG_DELTA (R523). -/
def execCfgDelta (s : State) : Host.Outcome State Fault Refusal :=
  s.run fun d => d.command .cfgDelta fun d => d.say 0x0E (d.com.delta.flatMap fun e => [word e.1, e.2])

/-- SURF_STAT (R586). -/
def execSurfStat (s : State) : Host.Outcome State Fault Refusal :=
  s.run fun d => d.command .surfStat fun d => d.say 0x30 (d.shown [EGL_TILE, EGL_SURF, EGL_GRID, EGL_HCNT, EGL_FWD])

/-- The letter of a tile's state (chapter 15). -/
def tileLetter (state : Nat) : Byte := (chars "AEILJRSX").getD state 0x3F#8

/-- The letters of the grid, one line to a row; the manager itself is joined (R586). -/
def Dev.surfMap (d : Dev) : List OutLine :=
  (List.range d.gridRows).map fun y => .listing [(List.range d.gridCols).map fun x =>
    tileLetter (if x = 0 ∧ y = 0 then tileJoined else wGet (d.tileWord (32 * x + y)) 21 3)]

/-- SURF_MAP (R586). -/
def execSurfMap (s : State) : Host.Outcome State Fault Refusal :=
  s.run fun d => d.command .surfMap fun d => (d.printAll (if d.isManager then d.surfMap else [])).finishOk

/-- SURF_TILE (R586). -/
def execSurfTile (xy : BitVec 10) (s : State) : Host.Outcome State Fault Refusal :=
  s.run fun d => d.command (.surfTile xy) fun d => d.say 0x3B [d.tileWord xy.toNat]

/-- RTILE: the console's EGL_RTILE (R568). -/
def execRtile (xy : BitVec 10) (s : State) : Host.Outcome State Fault Refusal :=
  s.run fun d => d.command (.rtile xy) fun d => (d.writeRtile .console (word xy.toNat)).finishOk

/-- SURF_RESET: writes EGL_TRESET (R571). -/
def execSurfReset (xy : BitVec 10) (s : State) : Host.Outcome State Fault Refusal :=
  s.run fun d => d.command (.surfReset xy) fun d => if d.fullSet then (d.writeTreset (pack [(0xA5, 16), (xy.toNat,
    0)])).finishOk else d.finishErr 6

/-- EGL_PING (R600). -/
def execEglPing (xy : BitVec 10) (n : BitVec 8) (s : State) : Host.Outcome State Fault Refusal :=
  s.run fun d => d.longCommand (.eglPing xy n) fun d => d.consolePing xy.toNat n.toNat

end Sys2Proof.Machine
end

