-- ==== Sys2Proof/Machine/Deliver.lean ====
section
/-!
DEFINITION. Deliver.lean: what a received frame, a delivered packet and a completed operation do (R600 to R619): the
messages of the hierarchy, the answers of a target and its duplicate cache, and the completions that go back to each
requester.
-/

namespace Sys2Proof.Machine

/-! Completions (R570, R600, R616, R618). -/

/-- `egl ping` prints its minimum, median and maximum round trip in µs and its failures when every operation has ended;
each round trip is free (R600; log entry 2). -/
def Dev.pingDone (d : Dev) (o : Operation) : Dev :=
  match d.link.ping with
  | none => d
  | some (n, trips, fails) =>
    let ok := match o.result with
      | some (some _) => true
      | _ => false
    let (trip, d) := d.draw 8192
    let trips := if ok then trip :: trips else trips
    let fails := if ok then fails else fails + 1
    if 1 < n then d.setLink { d.link with ping := some (n - 1, trips, fails) }
    else
      let (mid, d) := d.median trips
      let low := trips.foldl min 8191
      let high := trips.foldl max 0
      let d := d.setLink { d.link with ping := none }
      let line := if trips.isEmpty then [word fails] else [word low, word mid, word high, word fails]
      (d.print (.values 0xD3 line)).statusLine .ok

/-- A completion of the hierarchy firmware: a mode command without an answer is recorded as missed, and a JOIN without one
waits for a port to come up (R172, R583). -/
def Dev.hierDone (d : Dev) (o : Operation) : Dev :=
  match o.result with
  | some (some _) => d
  | _ =>
    if o.packet.code = msgMode ∧ wGet (o.packet.payload.getD 1 0) 3 1 = 0 then d.modeMissed o.dest
    else if o.packet.code = msgJoin then d.setSurf { d.surf with joinDue := true }
    else d

/-- A completion of the remote window: the data goes to its requester, and a waiting command goes on or ends (R570, R479,
R69). -/
def Dev.windowDone (d : Dev) (o : Operation) : Dev :=
  let d := d.remoteDone o
  match o.result with
  | some (some pk) =>
    let w := pk.payload.getD 2 0
    if o.requester = 2 then d.ep2Resume true w
    else if o.requester = 3 ∧ o.packet.code = msgRemoteRd then d.rdResume true w
    else d
  | _ => d.waiterFails o

/-- One completion goes to its requester. -/
def Dev.takeDone (d : Dev) (o : Operation) : Dev :=
  if o.requester = 0 then d.hierDone o
  else if 8 ≤ o.requester then d.gatherDone o
  else if remoteOp o then d.windowDone o
  else d.pingDone o

/-- The completions passed by the reorder buffer go to their requesters, oldest first (R618). -/
def Dev.settle (d : Dev) : Nat → Dev
  | 0 => d
  | k + 1 =>
    match d.link.done with
    | [] => d
    | o :: rest => Dev.settle ((d.setLink { d.link with done := rest }).takeDone o) k

/-! Messages of the hierarchy (R572). -/

/-- A delivered message takes effect. -/
def Dev.takeMessage (d : Dev) (src code : Nat) (ws : List Word) : Dev :=
  match code with
  | 1 => d.enumMsg ws
  | 2 => d.joinMsg ws
  | 3 => d.welcomeMsg ws
  | 4 => d.refusedMsg
  | 5 => d.deltaMsg ws
  | 6 => d.imgReqMsg src
  | 7 => d.imgData ws
  | 8 => d.imgResultMsg src ws
  | 9 => d.contactsMsg src ws
  | 10 => d.stripMsg ws
  | 11 => d.forwardMsg src ws
  | 12 => d.modeCommand (wGet (ws.getD 0 0) 0 3) (wGet (ws.getD 0 0) 3 1 == 1) (ws.getD 1 0).toNat
  | 13 => if wGet (ws.getD 0 0) 3 1 = 1 then d else d.modeAck src
  | 14 => d.prepareMsg ws
  | 15 => d.readyMsg src ws
  | 16 => d.refuseMsg src ws
  | 17 => d.goMsg ws
  | 18 => d.goAckMsg src ws
  | 19 => d.abortMsg ws
  | 20 => d.goMsg ws
  | 24 => d.resetMsg ws
  | 25 => d.leaveMsg src ws
  | 26 => d.svcReqMsg src ws
  | _ => d

/-! A target's answers (R599, R600, R619). -/

/-- The key of a request in the duplicate cache: source and tag. -/
def cacheKey (pk : Packet) : Nat := pk.src * 64 + pk.tag

/-- A response joins the cache; when the cache is full the oldest entry goes (R619). -/
def Dev.remember (d : Dev) (key : Nat) (resp : Packet) : Dev :=
  let cache := (d.link.cache.filter fun e => e.1 != key) ++ [(key, resp)]
  let gone := d.link.cacheGone.filter (· != key)
  if cache.length ≤ 64 then d.setLink { d.link with cache := cache, cacheGone := gone }
  else d.setLink { d.link with cache := cache.drop 1, cacheGone := gone ++ (cache.take 1).map (·.1) }

/-- The response to a request, remembered and sent. -/
def Dev.answerWith (d : Dev) (pk : Packet) (type : Nat) (ws : List Word) : Dev :=
  (d.remember (cacheKey pk) ⟨type, false, false, 2, pk.src, d.ownXY, pk.tag, 0, ws⟩).respond pk.src pk.tag type ws

/-- The transport ACK of a request (R600). -/
def ackWord (pk : Packet) : Word := pack [(wGet (pk.payload.getD 0 0) 8 2, 8), (pk.code, 0)]

/-- A request is performed and answered. A transport ACK means that the firmware has the request, so it goes first; the
answer to a read or a write follows its effect (R111, R600). -/
def Dev.serve (d : Dev) (pk : Packet) (flips : List (List (BitVec 5))) : Dev :=
  let w0 := pk.payload.getD 0 0
  if pk.type = 3 then
    let (ws, d) := d.gatherServe pk.src w0 (pk.payload.getD 1 0) flips
    d.answerWith pk 3 ws
  else if pk.type = 6 then d.answerWith pk 6 [w0]
  else if pk.code = msgRemoteRd then
    let (ws, d) := d.remoteRdMsg (pk.payload.drop 1)
    d.answerWith pk 1 ws
  else if pk.code = msgRemoteWr then
    let (ws, d) := d.remoteWrMsg (pk.payload.drop 1)
    d.answerWith pk 1 ws
  else (d.answerWith pk 1 [ackWord pk]).takeMessage pk.src pk.code (pk.payload.drop 1)

/-- The cached response as it answers a later attempt: a PING echo carries that request's word, and a transport ACK the
attempt answered (R600). -/
def cachedWords (resp pk : Packet) : List Word :=
  if resp.type = 6 then pk.payload.take 1
  else if resp.type = 1 ∧ resp.code = 0 then [ackWord pk]
  else resp.payload

/-- A delivered request: a retry that matches an entry is answered from the cache, and one whose entry has gone is performed
again and counted (R619). -/
def Dev.takeRequest (d : Dev) (pk : Packet) (flips : List (List (BitVec 5))) : Dev :=
  if wGet (pk.payload.getD 0 0) 8 2 = 0 then d.serve pk flips
  else
    match d.link.cache.find? fun e => e.1 == cacheKey pk with
    | some e => d.respond pk.src pk.tag e.2.type (cachedWords e.2 pk)
    | none => (if d.link.cacheGone.contains (cacheKey pk) then d.bump EGL_E2E_REEXEC else d).serve pk flips

/-- A delivered packet: a response, a request, or a stream. -/
def Dev.takePacket (d : Dev) (pk : Packet) (flips : List (List (BitVec 5))) : Dev :=
  if pk.cls = 2 then (d.opResponse pk).settle 128
  else if pk.cls = 1 then d.takeRequest pk flips
  else if pk.type = 1 then d.takeMessage pk.src pk.code (pk.payload.drop 1)
  else d

/-- REQUEST_DELIVERY: the oldest delivered packet is taken up. -/
def Dev.deliverOldest (d : Dev) (flips : List (List (BitVec 5))) : Dev :=
  match d.link.inbox with
  | [] => d
  | h :: rest => (d.setLink { d.link with inbox := rest }).takePacket h.2 flips

/-- REQUEST_DELIVERY (R619). -/
def execRequestDelivery (flips : List (List (BitVec 5))) (s : State) : Host.Outcome State Fault Refusal :=
  s.run fun d => d.deliverOldest flips

/-- DUPLICATE_CACHE_EXPIRY: the oldest entry leaves the cache (R619). -/
def Dev.cacheExpiry (d : Dev) : Dev :=
  match d.link.cache with
  | [] => d
  | e :: rest => d.setLink { d.link with cache := rest, cacheGone := d.link.cacheGone ++ [e.1] }

/-- DUPLICATE_CACHE_EXPIRY (R619). -/
def execDuplicateCacheExpiry (s : State) : Host.Outcome State Fault Refusal := s.run Dev.cacheExpiry

/-- PING: the echo carries W0 unchanged, and a retry is answered from the duplicate cache (R599, R600, R619). -/
def execPing (src : BitVec 10) (tag : BitVec 6) (w : Word) (s : State) : Host.Outcome State Fault Refusal :=
  s.run fun d => d.takeRequest ⟨6, false, false, 1, d.ownXY, src.toNat, tag.toNat, 0, [w]⟩ []

/-! Received frames (R597, R601 to R603). -/

/-- The packet of a header and a payload (R597). -/
def packetOf (w0 w1 : Word) (payload : List Word) : Packet :=
  { type := wGet w0 21 3, detour := wGet w0 20 1 == 1, isLocal := wGet w0 19 1 == 1, cls := wGet w0 17 2
    dest := wGet w0 7 10, src := wGet w1 14 10, tag := wGet w1 8 6, fseq := wGet w1 0 8, payload := payload }

/-- SEQUENCED_FRAME (R602): LEN counts the payload words, and a frame in which it does not match fails as a LEN over 64
does (R639). -/
def execSequencedFrame (port : BitVec 2) (seq : BitVec 4) (crcOk : Bool) (w0 w1 : Word) (payload : List Word) (s : State) :
    Host.Outcome State Fault Refusal :=
  s.run fun d =>
    let pk := packetOf w0 w1 payload
    let pk := if wGet w0 0 7 = payload.length then pk else { pk with type := 0 }
    d.receiveFrame port.toNat seq.toNat crcOk pk

/-- ACK (R601). -/
def execAck (port : BitVec 2) (b : Byte) (s : State) : Host.Outcome State Fault Refusal :=
  s.run fun d => d.takeAck port.toNat b

/-- NAK (R603). -/
def execNak (port : BitVec 2) (b : Byte) (s : State) : Host.Outcome State Fault Refusal :=
  s.run fun d => d.takeNak port.toNat b

/-- RESEND_TIMEOUT (R603). -/
def execResendTimeout (port : BitVec 2) (s : State) : Host.Outcome State Fault Refusal :=
  s.run fun d => d.resendTimeout port.toNat

/-- PACKET_AGED (R607). -/
def execPacketAged (port : BitVec 2) (s : State) : Host.Outcome State Fault Refusal :=
  s.run fun d => d.packetAged port.toNat

/-- GAP_SKIP (R610): the flow of the oldest packet in the arrival hold skips its gap. -/
def execGapSkip (s : State) : Host.Outcome State Fault Refusal :=
  s.run fun d =>
    match d.link.hold with
    | [] => d
    | h :: _ => d.skipGap (flowKey h.2.src h.2.cls)

/-- REORDER_RELEASE (R630). -/
def execReorderRelease (point : BitVec 3) (s : State) : Host.Outcome State Fault Refusal :=
  s.run fun d => d.reorderRelease point.toNat

/-! Operations (R613 to R618). -/

/-- OPERATION_ISSUE (R613). -/
def execOperationIssue (s : State) : Host.Outcome State Fault Refusal := s.run fun d => d.issueOps.settle 128

/-- TAG_STARVED (R615). -/
def execTagStarved (s : State) : Host.Outcome State Fault Refusal := s.run Dev.opStarved

/-- OP_ATTEMPT_TIMEOUT (R616). -/
def execOpAttemptTimeout (tag : BitVec 6) (s : State) : Host.Outcome State Fault Refusal :=
  s.run fun d => (d.opTimeout tag.toNat).settle 128

/-- A response as it is delivered. -/
def Dev.responseFrom (d : Dev) (src tag : Nat) (payload : List Word) : Dev :=
  (d.opResponse ⟨1, false, false, 2, d.ownXY, src, tag, 0, payload⟩).settle 128

/-- OPERATION_RESPONSE (R617). -/
def execOperationResponse (src : BitVec 10) (tag : BitVec 6) (payload : List Word) (s : State) :
    Host.Outcome State Fault Refusal :=
  s.run fun d => d.responseFrom src.toNat tag.toNat payload

/-- REMOTE_RESP (R569): the response to a remote access, with its value in W2. -/
def execRemoteResp (src : BitVec 10) (tag : BitVec 6) (value : Word) (s : State) : Host.Outcome State Fault Refusal :=
  s.run fun d => d.responseFrom src.toNat tag.toNat [word (msgRemoteResp * 65536), 0, value]

/-- TAG_RETURN (R617). -/
def execTagReturn (tag : BitVec 6) (s : State) : Host.Outcome State Fault Refusal := s.run fun d => d.tagReturn tag.toNat

end Sys2Proof.Machine
end

