-- ==== Sys2Proof/Machine/Session.lean ====
section
/-!
DEFINITION. Session.lean: the console's line as characters spell it: its end, the command it stands for, and the lines that
wait for a running command (R66 to R68, R83, R88).
-/

namespace Sys2Proof.Machine

/-- A command's effect on the hardware alone. -/
def Dev.through (d : Dev) (f : State → Host.Outcome State Fault Refusal) : Dev :=
  match f ⟨d, []⟩ with
  | .next t => t.dev
  | _ => d

/-- Some free 24-bit values: what the outside gives a command that measures. -/
def Dev.drawn (d : Dev) : Nat → List Nat × Dev
  | 0 => ([], d)
  | k + 1 =>
    let (v, d) := d.draw 16777216
    let (vs, d) := Dev.drawn d k
    (v :: vs, d)

/-- A command that a line of characters spells runs as its own row; what the outside measures for it is free (log entry
2). -/
def Dev.runCommand (d : Dev) (c : ConsoleCmd) : Dev :=
  match c with
  | .help => d.through execHelp
  | .id => d.through execId
  | .rd addr n => d.through (execRd addr n)
  | .wr addr value => d.through (execWr addr value)
  | .time => d.through execTime
  | .log kind n => d.through (execLog kind n)
  | .evmonOn => d.through execEvmonOn
  | .evmonOff => d.through execEvmonOff
  | .svc code => d.through (execSvc code)
  | .svcOff => d.through execSvcOff
  | .meter point arg => d.through (execMeter point arg)
  | .meterOff => d.through execMeterOff
  | .el all n st => d.through (execEl all n st)
  | .consoleReset => d.through execConsoleReset
  | .blockStat block => d.through (execBlockStat block)
  | .sysStat => d.through execSysStat
  | .bootStat => d.through execBootStat
  | .imgCheck slotB => d.through (execImgCheck slotB)
  | .nvmRd addr n => d.through (execNvmRd addr n)
  | .pwrStat => d.through execPwrStat
  | .pwrWake => d.through execPwrWake
  | .timeStat => d.through execTimeStat
  | .scanNoise => d.through execScanNoise
  | .scanNode t r => d.through (execScanNode t r)
  | .scanLegs n => d.through (execScanLegs n)
  | .scanRun => d.through execScanRun
  | .scanStop => d.through execScanStop
  | .scanTone n k => d.through (execScanTone n k)
  | .trkHop => d.through execTrkHop
  | .trkBase t r => d.through (execTrkBase t r)
  | .trkBlreset => d.through execTrkBlreset
  | .trkRpt => d.through execTrkRpt
  | .trkCap planes => d.through (execTrkCap planes)
  | .evrSrc n => d.through (execEvrSrc n)
  | .evrFire n => d.through (execEvrFire n)
  | .cfgStat => d.through execCfgStat
  | .cfgGet p => d.through (execCfgGet p)
  | .cfgDelta => d.through execCfgDelta
  | .surfStat => d.through execSurfStat
  | .surfMap => d.through execSurfMap
  | .surfTile xy => d.through (execSurfTile xy)
  | .rtile xy => d.through (execRtile xy)
  | .surfReset xy => d.through (execSurfReset xy)
  | .eglPing xy n => d.through (execEglPing xy n)
  | .eglInj i kind k => d.through (execEglInj i kind k)
  | .eglInjOff => d.through execEglInjOff
  | .eglRetrain p => d.through (execEglRetrain p)
  | .memCol n => d.through (execMemCol n)
  | .memRepair n c => d.through (execMemRepair n c)
  | .gdeWin => d.through execGdeWin
  | .gdeTest n => d.through (execGdeTest n)
  | .railVtx v => d.through (execRailVtx v)
  | .railVled v => d.through (execRailVled v)
  | .railVledAuto => d.through execRailVledAuto
  | .railRestart => d.through execRailRestart
  | .lampN n => d.through (execLampN n)
  | .lampSet n level ms => d.through (execLampSet n level ms)
  | .lampClear g => d.through (execLampClear g)
  | .irxRaw => d.through execIrxRaw
  | .itxSend i n => d.through (execItxSend i n)
  | .itxLoop i => d.through (execItxLoop i)
  | .hkaCh n => d.through (execHkaCh n)
  | .hkaConv n k _ =>
    let (vs, d) := d.drawn k.toNat
    d.through (execHkaConv n k (vs.map fun v => (word v, 0)))
  | .hkaPath n _ _ =>
    let (low, d) := d.drawn 16
    let (high, d) := d.drawn 16
    d.through (execHkaPath n (low.map word) (high.map word))
  | .hkaCalZero n => d.through (execHkaCalZero n)
  | .hkaCalFull n uv => d.through (execHkaCalFull n uv)
  | .hkaCalApply n _ _ =>
    let (vref, d) := d.draw 16777216
    let (ok, d) := d.draw 2
    d.through (execHkaCalApply n (word vref) (ok == 1))
  | .calRun => d.through execCalRun
  | .logStat => d.through execLogStat
  | .telem => d.through execTelem

/-- A line taken up: an empty one is answered by the prompt, one that is no command by its error, and one outside the range
of its command by E05, or by E06 where the full command set is closed (R68, R69). -/
def Dev.runLine (d : Dev) (l : LineCmd) : Dev :=
  match l with
  | .blank => d.print (.prompt d.fullSet)
  | .err code => (if code = 2 then d.bump SVC_ERR_LONG else d).statusLine (.error code)
  | .range full => d.statusLine (.error (if full && !d.fullSet then 6 else 5))
  | .cmd c => d.runCommand c

/-- A line that ends: it runs, or waits for the command that runs (R83). -/
def Dev.enterLine (d : Dev) (l : LineCmd) : Dev :=
  if d.running then d.setCon { d.con with waits := d.con.waits ++ [l] } else d.runLine l

/-- A terminator: an LF directly after a CR is ignored, and any other ends the line (R66, R68). -/
def Dev.endLine (d : Dev) (c : Byte) : Dev :=
  if c = 0x0A#8 ∧ d.con.lastCr = true then d.setCon { d.con with lastCr := false }
  else
    let l := d.con.judged
    ((d.setCon { d.con with lastCr := c == 0x0D#8 }).dropLine).enterLine l

/-- A character received (R65, R66, R88, R91): one before the banner is discarded, and one while the fast oscillator is off
in WATCH is lost with its line. A garbled one ends no line (DESIGN CHOICE, log entry 80). -/
def Dev.receiveChar (d : Dev) (c : Byte) (bad : Bool) : Dev :=
  if d.pwr.step ≠ 8 ∨ d.asleep = true ∨ d.modes.waking = true then d
  else
    let d := d.setCon { d.con with lastChar := some d.ticks, session := true }
    if bad then (d.bump SVC_ERR_FRAMING).setCon { (d.bump SVC_ERR_FRAMING).con with framed := true, lastCr := false }
    else if d.mode = modeWatch ∧ d.flag SYS_CLK_FOSC_ON = false then d.setCon { d.con with framed := true, lastCr := false }
    else if c = 0x0D#8 ∨ c = 0x0A#8 then d.endLine c
    else
      let d := d.setCon { d.con with lastCr := false }
      if c = 0x08#8 ∨ c = 0x7F#8 then d.rubChar
      else if c = 0x03#8 then d.ctrlC
      else d.keepChar c

/-- CONSOLE_CHARACTER (R66). -/
def execConsoleCharacter (c : Byte) (bad : Bool) (s : State) : Host.Outcome State Fault Refusal :=
  s.run fun d => d.receiveChar c bad

/-- CONSOLE_LINE_ERROR: a whole line that ends in E01 to E04 (R68); it waits while a command runs (R83). -/
def execConsoleLineError (code : BitVec 3) (s : State) : Host.Outcome State Fault Refusal :=
  s.run fun d =>
    let n := code.toNat
    if n = 0 ∨ 4 < n then d else d.dropLine.enterLine (.err n)

/-- The next waiting line is taken up once no command runs (R83). What has come of the line after it stays held,
unless the command resets the device. -/
def Dev.takeLine (d : Dev) : Dev :=
  match d.con.waits with
  | [] => d
  | l :: rest =>
    if d.running then d
    else
      let held := d.con
      let d := (d.setCon { d.con with waits := rest }).runLine l
      if d.pwr.step = 8 then d.setCon { d.con with line := held.line, framed := held.framed, tooLong := held.tooLong } else d

/-- TICK_BOUNDARY (R381); the console takes up a waiting line at a tick (log entry 26). -/
def execTickBoundary (s : State) : Host.Outcome State Fault Refusal := s.run fun d => d.boundary.takeLine

end Sys2Proof.Machine
end

