-- ==== Sys2Proof/Machine/Pins.lean ====
section
/-!
DEFINITION. Pins.lean: what the TK624 makes of its output balls, read off its state (02_balls_and_signals.md, R41, R43, R49, R52,
R54). The electrodes and SHLD stand in Electrodes.lean.
-/

namespace Sys2Proof.Machine

/-- An output ball. -/
inductive Pin where
  | low
  | high
  /-- Neither driven low nor high: an open-drain ball let go, and every I/O-domain output while VDDIO is absent. -/
  | released
  /-- Driven with the waveform that its block makes. -/
  | running
  deriving DecidableEq, Repr

/-- An I/O-domain output: released without VDDIO, and until 1 ms after its return (R41, R124). -/
def Dev.ioPin (d : Dev) (p : Pin) : Pin := if d.ioLive then p else .released

/-- An open-drain output pulls low while it is asserted. -/
def Dev.drainPin (d : Dev) (asserted : Bool) : Pin := d.ioPin (if asserted then .low else .released)

/-- EVINT# is asserted while the H0 ring holds a record; with the core off the ring is gone, and it is released (R184,
R343). A worker's ring holds none (R565). -/
def Dev.evintPin (d : Dev) : Pin := d.drainPin (decide (0 < d.occupancy .h0))

/-- ALERT# (R430, R432, R453). -/
def Dev.alertPin (d : Dev) : Pin := d.drainPin (d.flag TWB_STAT_ALERT)

/-- HOSTWAKE, active high (R186, R187). -/
def Dev.hostwakePin (d : Dev) : Pin := d.ioPin (if d.modes.hostwake then .high else .low)

/-- NVWP: high but for the TK624's own write transactions, their polling, and an open window (R49, R440). -/
def Dev.nvwpPin (d : Dev) : Pin := d.ioPin (if d.nvwpLow then .low else .high)

/-- SVCTX idles high (R43, R82). -/
def Dev.svctxPin (d : Dev) : Pin := d.ioPin (if d.con.out.isEmpty then .high else .running)

/-- IRTX: low but for a transmission, which drives its marks with the carrier, or high in mode 2, and its spaces low;
mode 3 is the carrier without a break (R43, R805, R806). -/
def Dev.irtxPin (d : Dev) : Pin :=
  d.ioPin (match d.ir.tx with
    | none => .low
    | some t =>
      if t.mode = 3 then .running
      else if wGet (d.pattern t.index) 23 1 = 0 then .low
      else if t.mode = 2 then .high
      else .running)

/-- LDBLK: high, the outputs of the chain off, unless the chain refreshes (R43, R54, R771, R780, R782). -/
def Dev.ldblkPin (d : Dev) : Pin := d.ioPin (if d.chainRuns then .running else .high)

/-- LDSDO, LDSCK and LDLAT (R43, R758). -/
def Dev.chainPin (d : Dev) : Pin := d.ioPin (if d.chainRuns then .running else .low)

/-- The boost may switch: in soft start, slewing or regulating, with neither an overvoltage nor passthrough (R54, R707, R708,
R734, R739). -/
def Dev.bstgatePin (d : Dev) : Pin :=
  if [1, 2, 3].contains (d.fld RAIL_STAT_VLEDST) && !d.rail.gateLow then .running else .low

/-- BSTDIS pulls low to turn Q_DIS on, and is released while the boost is disabled, latched off, in retry wait or above 50 V
(R53, R54, R707, R734). -/
def Dev.bstdisPin (d : Dev) : Pin :=
  if [1, 2, 3, 4].contains (d.fld RAIL_STAT_VLEDST) && !d.rail.disOpen then .low else .released

/-- A sink that is off lets its ball go (R43, R54, R749, R752). -/
def Dev.sinkPin (d : Dev) (k : Nat) : Pin := if d.sinkLit k then .running else .released

/-- AMON is high impedance unless a meter point is selected (R52, R78). -/
def Dev.amonPin (d : Dev) : Pin := if d.con.amon then .running else .released

/-- The bypass switch of tap k is open: with every lamp off as in reset, and in SAFE and HIBERNATE; else it is closed for a tap
lamp that is not lit (R54, R752, R771, R782). -/
def Dev.bypassOpen (d : Dev) (k : Nat) : Bool :=
  d.pwr.step < 6 || d.mode == modeSafe || d.mode == modeHibernate || !d.tapped ||
    (d.lampPresent (8 + k) && (d.lampAt (8 + k)).lit)

end Sys2Proof.Machine
end

