-- ==== Sys2Proof/Machine/Dispatch.lean ====
section
/-!
DEFINITION. Dispatch.lean: one arm per command, each a direct call of its meaning.
-/

namespace Sys2Proof.Machine

/-- A command's effect on everything but the queue. -/
def exec (i : Instr) (s : State) : Host.Outcome State Fault Refusal :=
  match i with
  | .registerWrite rq addr value => Sys2Proof.Machine.execRegisterWrite rq addr value s
  | .rcFieldRead rq addr => Sys2Proof.Machine.execRcFieldRead rq addr s
  | .powerOn => Sys2Proof.Machine.execPowerOn s
  | .powerOnRelease straps => Sys2Proof.Machine.execPowerOnRelease straps s
  | .alwaysOnLoss => Sys2Proof.Machine.execAlwaysOnLoss s
  | .vddBrownOut => Sys2Proof.Machine.execVddBrownOut s
  | .vcoreBrownOut => Sys2Proof.Machine.execVcoreBrownOut s
  | .vddWarningSet => Sys2Proof.Machine.execVddWarningSet s
  | .vddWarningClear => Sys2Proof.Machine.execVddWarningClear s
  | .resetPin => Sys2Proof.Machine.execResetPin s
  | .softwareReset rq value => Sys2Proof.Machine.execSoftwareReset rq value s
  | .softwareResetPerform => Sys2Proof.Machine.execSoftwareResetPerform s
  | .coreWatchdog => Sys2Proof.Machine.execCoreWatchdog s
  | .coreRestartEnd => Sys2Proof.Machine.execCoreRestartEnd s
  | .xtalQualified => Sys2Proof.Machine.execXtalQualified s
  | .xtalQualifyTimeout => Sys2Proof.Machine.execXtalQualifyTimeout s
  | .xtalLost => Sys2Proof.Machine.execXtalLost s
  | .foscRequest => Sys2Proof.Machine.execFoscRequest s
  | .foscStop => Sys2Proof.Machine.execFoscStop s
  | .foscLockTimeout => Sys2Proof.Machine.execFoscLockTimeout s
  | .vddioLoss => Sys2Proof.Machine.execVddioLoss s
  | .vddioReturn => Sys2Proof.Machine.execVddioReturn s
  | .outputsRestore => Sys2Proof.Machine.execOutputsRestore s
  | .selfTestEnd columns bad => Sys2Proof.Machine.execSelfTestEnd columns bad s
  | .headerReadEnd slotB acked => Sys2Proof.Machine.execHeaderReadEnd slotB acked s
  | .headerReadTimeout slotB => Sys2Proof.Machine.execHeaderReadTimeout slotB s
  | .slotReadEnd => Sys2Proof.Machine.execSlotReadEnd s
  | .slotCheckTimeout => Sys2Proof.Machine.execSlotCheckTimeout s
  | .startupCalibrationEnd items => Sys2Proof.Machine.execStartupCalibrationEnd items s
  | .fullRunTimeout items => Sys2Proof.Machine.execFullRunTimeout items s
  | .linkImageRequest => Sys2Proof.Machine.execLinkImageRequest s
  | .linkImageTimeout => Sys2Proof.Machine.execLinkImageTimeout s
  | .imgReq src words => Sys2Proof.Machine.execImgReq src words s
  | .imgData src words => Sys2Proof.Machine.execImgData src words s
  | .imgResult src words => Sys2Proof.Machine.execImgResult src words s
  | .nvpRead key => Sys2Proof.Machine.execNvpRead key s
  | .nvpWrite key => Sys2Proof.Machine.execNvpWrite key s
  | .nvpVerify key => Sys2Proof.Machine.execNvpVerify key s
  | .nvpInvalidate key => Sys2Proof.Machine.execNvpInvalidate key s
  | .nvpDone outcome bytes => Sys2Proof.Machine.execNvpDone outcome bytes s
  | .modeRequest mode => Sys2Proof.Machine.execModeRequest mode s
  | .holdSet => Sys2Proof.Machine.execHoldSet s
  | .holdClear => Sys2Proof.Machine.execHoldClear s
  | .autoIdleExpiry => Sys2Proof.Machine.execAutoIdleExpiry s
  | .watchAfterExpiry => Sys2Proof.Machine.execWatchAfterExpiry s
  | .mode mode stretch apply => Sys2Proof.Machine.execMode mode stretch apply s
  | .modeAck tile => Sys2Proof.Machine.execModeAck tile s
  | .hibDrainEnd => Sys2Proof.Machine.execHibDrainEnd s
  | .orphan => Sys2Proof.Machine.execOrphan s
  | .wake sources detail retentionOk => Sys2Proof.Machine.execWake sources detail retentionOk s
  | .wakeAddressStretchTimeout => Sys2Proof.Machine.execWakeAddressStretchTimeout s
  | .wakeVcoreTimeout => Sys2Proof.Machine.execWakeVcoreTimeout s
  | .wakeSourceEnable value => Sys2Proof.Machine.execWakeSourceEnable value s
  | .hostwakePulseEnd => Sys2Proof.Machine.execHostwakePulseEnd s
  | .hostwakeLevelTimeout => Sys2Proof.Machine.execHostwakeLevelTimeout s
  | .hostwakeAck => Sys2Proof.Machine.execHostwakeAck s
  | .frameStart => Sys2Proof.Machine.execFrameStart s
  | .selfScanEnd listen selfs chipsI chipsQ trips => Sys2Proof.Machine.execSelfScanEnd listen selfs chipsI chipsQ trips s
  | .watchScan selfs touches covered => Sys2Proof.Machine.execWatchScan selfs touches covered s
  | .trackFrame us handed => Sys2Proof.Machine.execTrackFrame us handed s
  | .tapHoldExpiry => Sys2Proof.Machine.execTapHoldExpiry s
  | .blreset value => Sys2Proof.Machine.execBlreset value s
  | .resync value => Sys2Proof.Machine.execResync value s
  | .arm value => Sys2Proof.Machine.execArm value s
  | .stop value => Sys2Proof.Machine.execStop value s
  | .captureCopyEnd ok remote => Sys2Proof.Machine.execCaptureCopyEnd ok remote s
  | .doorbell src w1 w2 => Sys2Proof.Machine.execDoorbell src w1 w2 s
  | .hostDoorbell value => Sys2Proof.Machine.execHostDoorbell value s
  | .recordDelivery port => Sys2Proof.Machine.execRecordDelivery port s
  | .ringReadPointer port value => Sys2Proof.Machine.execRingReadPointer port value s
  | .take port w0 => Sys2Proof.Machine.execTake port w0 s
  | .done port value => Sys2Proof.Machine.execDone port value s
  | .stackrst port value => Sys2Proof.Machine.execStackrst port value s
  | .gdis port value => Sys2Proof.Machine.execGdis port value s
  | .sourceConfigWrite value => Sys2Proof.Machine.execSourceConfigWrite value s
  | .evrServiceTimeout port => Sys2Proof.Machine.execEvrServiceTimeout port s
  | .moderationExpiry port src => Sys2Proof.Machine.execModerationExpiry port src s
  | .coreDelivery => Sys2Proof.Machine.execCoreDelivery s
  | .coreTake core src pri => Sys2Proof.Machine.execCoreTake core src pri s
  | .coreDone core src => Sys2Proof.Machine.execCoreDone core src s
  | .timeSnapshot rq => Sys2Proof.Machine.execTimeSnapshot rq s
  | .timeLoad => Sys2Proof.Machine.execTimeLoad s
  | .timeLoadApply => Sys2Proof.Machine.execTimeLoadApply s
  | .timeSlew => Sys2Proof.Machine.execTimeSlew s
  | .timeSlewApply => Sys2Proof.Machine.execTimeSlewApply s
  | .timeCancel => Sys2Proof.Machine.execTimeCancel s
  | .slewAdjust => Sys2Proof.Machine.execSlewAdjust s
  | .workerTimeStep => Sys2Proof.Machine.execWorkerTimeStep s
  | .beaconGap => Sys2Proof.Machine.execBeaconGap s
  | .alarmArm => Sys2Proof.Machine.execAlarmArm s
  | .alarmValueWrite part value => Sys2Proof.Machine.execAlarmValueWrite part value s
  | .timeAlarm => Sys2Proof.Machine.execTimeAlarm s
  | .twbPointer ptr => Sys2Proof.Machine.execTwbPointer ptr s
  | .twbWordWrite value => Sys2Proof.Machine.execTwbWordWrite value s
  | .twbWordRead first => Sys2Proof.Machine.execTwbWordRead first s
  | .twbPartial count => Sys2Proof.Machine.execTwbPartial count s
  | .twbPecWrite before tail pec => Sys2Proof.Machine.execTwbPecWrite before tail pec s
  | .alertResponse others => Sys2Proof.Machine.execAlertResponse others s
  | .smbusTimeout begun => Sys2Proof.Machine.execSmbusTimeout begun s
  | .remoteLate => Sys2Proof.Machine.execRemoteLate s
  | .nvmTransferStart what => Sys2Proof.Machine.execNvmTransferStart what s
  | .arbitrationLost received atEnd => Sys2Proof.Machine.execArbitrationLost received atEnd s
  | .nvmStretchTimeout received => Sys2Proof.Machine.execNvmStretchTimeout received s
  | .nvmPoll acked address => Sys2Proof.Machine.execNvmPoll acked address s
  | .nvmPollTimeout => Sys2Proof.Machine.execNvmPollTimeout s
  | .resumeAddressTimeout => Sys2Proof.Machine.execResumeAddressTimeout s
  | .nvctlWrite value => Sys2Proof.Machine.execNvctlWrite value s
  | .nvholdExpiry => Sys2Proof.Machine.execNvholdExpiry s
  | .sdaRecovery released => Sys2Proof.Machine.execSdaRecovery released s
  | .sclStuck => Sys2Proof.Machine.execSclStuck s
  | .usbAttach => Sys2Proof.Machine.execUsbAttach s
  | .usbDetach vbus => Sys2Proof.Machine.execUsbDetach vbus s
  | .sofLock => Sys2Proof.Machine.execSofLock s
  | .usbBusReset => Sys2Proof.Machine.execUsbBusReset s
  | .getStatus recipient index length => Sys2Proof.Machine.execGetStatus recipient index length s
  | .clearFeature recipient value index => Sys2Proof.Machine.execClearFeature recipient value index s
  | .setFeature recipient value index => Sys2Proof.Machine.execSetFeature recipient value index s
  | .setAddress value => Sys2Proof.Machine.execSetAddress value s
  | .getDescriptor value index length => Sys2Proof.Machine.execGetDescriptor value index length s
  | .getConfiguration length => Sys2Proof.Machine.execGetConfiguration length s
  | .setConfiguration value => Sys2Proof.Machine.execSetConfiguration value s
  | .getInterface index length => Sys2Proof.Machine.execGetInterface index length s
  | .setInterface value index => Sys2Proof.Machine.execSetInterface value index s
  | .getReport value index length => Sys2Proof.Machine.execGetReport value index length s
  | .setIdle value index => Sys2Proof.Machine.execSetIdle value index s
  | .getIdle value index length => Sys2Proof.Machine.execGetIdle value index length s
  | .stall => Sys2Proof.Machine.execStall s
  | .usbPacketError => Sys2Proof.Machine.execUsbPacketError s
  | .hidReportSend => Sys2Proof.Machine.execHidReportSend s
  | .ep2Read tag n addr => Sys2Proof.Machine.execEp2Read tag n addr s
  | .ep2Write tag n addr data => Sys2Proof.Machine.execEp2Write tag n addr data s
  | .ep2Events tag n flags => Sys2Proof.Machine.execEp2Events tag n flags s
  | .ep2UnknownOp code tag => Sys2Proof.Machine.execEp2UnknownOp code tag s
  | .ep2BadLength code tag ovr => Sys2Proof.Machine.execEp2BadLength code tag ovr s
  | .ep2ResponseAck => Sys2Proof.Machine.execEp2ResponseAck s
  | .usbSuspend => Sys2Proof.Machine.execUsbSuspend s
  | .usbResume => Sys2Proof.Machine.execUsbResume s
  | .remoteWakeSampleEnd bus => Sys2Proof.Machine.execRemoteWakeSampleEnd bus s
  | .remoteWakeDriveEnd hostK => Sys2Proof.Machine.execRemoteWakeDriveEnd hostK s
  | .detach rq value => Sys2Proof.Machine.execDetach rq value s
  | .cfgCommit key => Sys2Proof.Machine.execCfgCommit key s
  | .cfgCheck key => Sys2Proof.Machine.execCfgCheck key s
  | .cfgClear key => Sys2Proof.Machine.execCfgClear key s
  | .cfgCancel key => Sys2Proof.Machine.execCfgCancel key s
  | .cfgCheckEnd => Sys2Proof.Machine.execCfgCheckEnd s
  | .coldCalibrationTimeout => Sys2Proof.Machine.execColdCalibrationTimeout s
  | .prepare src words => Sys2Proof.Machine.execPrepare src words s
  | .ready src words => Sys2Proof.Machine.execReady src words s
  | .refuse src words => Sys2Proof.Machine.execRefuse src words s
  | .go src words => Sys2Proof.Machine.execGo src words s
  | .goAck src words => Sys2Proof.Machine.execGoAck src words s
  | .abort src words => Sys2Proof.Machine.execAbort src words s
  | .goLate src words => Sys2Proof.Machine.execGoLate src words s
  | .goAckTimeout => Sys2Proof.Machine.execGoAckTimeout s
  | .delta src words => Sys2Proof.Machine.execDelta src words s
  | .enum words => Sys2Proof.Machine.execEnum words s
  | .join src words => Sys2Proof.Machine.execJoin src words s
  | .welcome src words => Sys2Proof.Machine.execWelcome src words s
  | .refuseJoin src words => Sys2Proof.Machine.execRefuseJoin src words s
  | .contacts src words => Sys2Proof.Machine.execContacts src words s
  | .contactsDeadline => Sys2Proof.Machine.execContactsDeadline s
  | .strip src words => Sys2Proof.Machine.execStrip src words s
  | .stripDeadline => Sys2Proof.Machine.execStripDeadline s
  | .forward src words => Sys2Proof.Machine.execForward src words s
  | .remoteRd src tag addr => Sys2Proof.Machine.execRemoteRd src tag addr s
  | .remoteWr src tag addr value => Sys2Proof.Machine.execRemoteWr src tag addr value s
  | .remoteResp src tag value => Sys2Proof.Machine.execRemoteResp src tag value s
  | .reset src words => Sys2Proof.Machine.execReset src words s
  | .leave src words => Sys2Proof.Machine.execLeave src words s
  | .svcReq src words => Sys2Proof.Machine.execSvcReq src words s
  | .tileLost tile => Sys2Proof.Machine.execTileLost tile s
  | .remoteWindowRead rq addr => Sys2Proof.Machine.execRemoteWindowRead rq addr s
  | .remoteWindowWrite rq addr value => Sys2Proof.Machine.execRemoteWindowWrite rq addr value s
  | .eglTreset value => Sys2Proof.Machine.execEglTreset value s
  | .signalDetect port => Sys2Proof.Machine.execSignalDetect port s
  | .linkctlId port w => Sys2Proof.Machine.execLinkctlId port w s
  | .delayReq port w turnaround => Sys2Proof.Machine.execDelayReq port w turnaround s
  | .delayResp port trip turnaround => Sys2Proof.Machine.execDelayResp port trip turnaround s
  | .trainingTimeout port => Sys2Proof.Machine.execTrainingTimeout port s
  | .retrainDelay port => Sys2Proof.Machine.execRetrainDelay port s
  | .delayRecalibration port => Sys2Proof.Machine.execDelayRecalibration port s
  | .sequencedFrame port seq crcOk w0 w1 payload => Sys2Proof.Machine.execSequencedFrame port seq crcOk w0 w1 payload s
  | .ack port b => Sys2Proof.Machine.execAck port b s
  | .nak port b => Sys2Proof.Machine.execNak port b s
  | .resendTimeout port => Sys2Proof.Machine.execResendTimeout port s
  | .signalLoss port => Sys2Proof.Machine.execSignalLoss port s
  | .packetAged port => Sys2Proof.Machine.execPacketAged port s
  | .gapSkip => Sys2Proof.Machine.execGapSkip s
  | .operationIssue => Sys2Proof.Machine.execOperationIssue s
  | .tagStarved => Sys2Proof.Machine.execTagStarved s
  | .opAttemptTimeout tag => Sys2Proof.Machine.execOpAttemptTimeout tag s
  | .operationResponse src tag payload => Sys2Proof.Machine.execOperationResponse src tag payload s
  | .tagReturn tag => Sys2Proof.Machine.execTagReturn tag s
  | .requestDelivery flips => Sys2Proof.Machine.execRequestDelivery flips s
  | .duplicateCacheExpiry => Sys2Proof.Machine.execDuplicateCacheExpiry s
  | .ping src tag w => Sys2Proof.Machine.execPing src tag w s
  | .beacon port crcOk words stay => Sys2Proof.Machine.execBeacon port crcOk words stay s
  | .watchBeacon port crcOk words stay => Sys2Proof.Machine.execWatchBeacon port crcOk words stay s
  | .wakePacket port valid retentionOk => Sys2Proof.Machine.execWakePacket port valid retentionOk s
  | .reorderRelease point => Sys2Proof.Machine.execReorderRelease point s
  | .retrain value => Sys2Proof.Machine.execRetrain value s
  | .portDisable value => Sys2Proof.Machine.execPortDisable value s
  | .ownerWrite writer bank owner => Sys2Proof.Machine.execOwnerWrite writer bank owner s
  | .handover bank => Sys2Proof.Machine.execHandover bank s
  | .portAAccess bank w master wr flips waited => Sys2Proof.Machine.execPortAAccess bank w master wr flips waited s
  | .portBAccess bank w master wr flips waited collide => Sys2Proof.Machine.execPortBAccess bank w master wr flips waited collide s
  | .scrub flips collisions => Sys2Proof.Machine.execScrub flips collisions s
  | .scrubLate => Sys2Proof.Machine.execScrubLate s
  | .memoryWindowRead rq w flips => Sys2Proof.Machine.execMemoryWindowRead rq w flips s
  | .memoryWindowWrite rq w value => Sys2Proof.Machine.execMemoryWindowWrite rq w value s
  | .repair rq value => Sys2Proof.Machine.execRepair rq value s
  | .repairVtxReady fuseOk verifyOk => Sys2Proof.Machine.execRepairVtxReady fuseOk verifyOk s
  | .repairVtxTimeout => Sys2Proof.Machine.execRepairVtxTimeout s
  | .gdePush channel => Sys2Proof.Machine.execGdePush channel s
  | .gdeResume channel => Sys2Proof.Machine.execGdeResume channel s
  | .gdeSkip channel => Sys2Proof.Machine.execGdeSkip channel s
  | .gdeAbort channel => Sys2Proof.Machine.execGdeAbort channel s
  | .gdeFlush channel => Sys2Proof.Machine.execGdeFlush channel s
  | .gatherBurst flips collide waits => Sys2Proof.Machine.execGatherBurst flips collide waits s
  | .gatherRead src tag w0 w1 flips => Sys2Proof.Machine.execGatherRead src tag w0 w1 flips s
  | .vtxCommand value => Sys2Proof.Machine.execVtxCommand value s
  | .vledFixed value => Sys2Proof.Machine.execVledFixed value s
  | .vledAdaptive value => Sys2Proof.Machine.execVledAdaptive value s
  | .referenceUpdate vhv vtx pass => Sys2Proof.Machine.execReferenceUpdate vhv vtx pass s
  | .railDone vtx => Sys2Proof.Machine.execRailDone vtx s
  | .demandUpdate => Sys2Proof.Machine.execDemandUpdate s
  | .softStartEnd => Sys2Proof.Machine.execSoftStartEnd s
  | .vtxToRegulator => Sys2Proof.Machine.execVtxToRegulator s
  | .railShort vhv => Sys2Proof.Machine.execRailShort vhv s
  | .shortRetry => Sys2Proof.Machine.execShortRetry s
  | .runningShort vhv => Sys2Proof.Machine.execRunningShort vhv s
  | .clearlatch value => Sys2Proof.Machine.execClearlatch value s
  | .railOvervolt vhv => Sys2Proof.Machine.execRailOvervolt vhv s
  | .vhvAbove50v vhv => Sys2Proof.Machine.execVhvAbove50v vhv s
  | .railVtxFault kind vtx => Sys2Proof.Machine.execRailVtxFault kind vtx s
  | .vtxFaultRestart => Sys2Proof.Machine.execVtxFaultRestart s
  | .lampCommand rq value => Sys2Proof.Machine.execLampCommand rq value s
  | .fadeTick => Sys2Proof.Machine.execFadeTick s
  | .pwmPeriod vhv head starved forward => Sys2Proof.Machine.execPwmPeriod vhv head starved forward s
  | .bypassClamp k => Sys2Proof.Machine.execBypassClamp k s
  | .refreshPeriod errors => Sys2Proof.Machine.execRefreshPeriod errors s
  | .chainCheck matched => Sys2Proof.Machine.execChainCheck matched s
  | .lampGclear value => Sys2Proof.Machine.execLampGclear value s
  | .lampFaultClear w value => Sys2Proof.Machine.execLampFaultClear w value s
  | .lampHeadroom sink => Sys2Proof.Machine.execLampHeadroom sink s
  | .irEdge mark us recorded held => Sys2Proof.Machine.execIrEdge mark us recorded held s
  | .irGap => Sys2Proof.Machine.execIrGap s
  | .irBiphaseSpaceEnd => Sys2Proof.Machine.execIrBiphaseSpaceEnd s
  | .irKeyRelease => Sys2Proof.Machine.execIrKeyRelease s
  | .irStuck ms => Sys2Proof.Machine.execIrStuck ms s
  | .release value => Sys2Proof.Machine.execRelease value s
  | .itxStart rq value => Sys2Proof.Machine.execItxStart rq value s
  | .itxStop rq value => Sys2Proof.Machine.execItxStop rq value s
  | .itxEntryEnd => Sys2Proof.Machine.execItxEntryEnd s
  | .itxTmax => Sys2Proof.Machine.execItxTmax s
  | .itxPdata rq write value => Sys2Proof.Machine.execItxPdata rq write value s
  | .planConversion => Sys2Proof.Machine.execPlanConversion s
  | .conversionEnd b value ovr => Sys2Proof.Machine.execConversionEnd b value ovr s
  | .hkaSnap rq value => Sys2Proof.Machine.execHkaSnap rq value s
  | .claim value => Sys2Proof.Machine.execClaim value s
  | .hkaClaimExpired => Sys2Proof.Machine.execHkaClaimExpired s
  | .hostConversion value => Sys2Proof.Machine.execHostConversion value s
  | .refinCheck ok => Sys2Proof.Machine.execRefinCheck ok s
  | .referenceTimeout b => Sys2Proof.Machine.execReferenceTimeout b s
  | .conversionTimeout b => Sys2Proof.Machine.execConversionTimeout b s
  | .tdac value => Sys2Proof.Machine.execTdac value s
  | .zero value => Sys2Proof.Machine.execZero value s
  | .full value => Sys2Proof.Machine.execFull value s
  | .apply value vref copyOk => Sys2Proof.Machine.execApply value vref copyOk s
  | .default value copyOk => Sys2Proof.Machine.execDefault value copyOk s
  | .syscalStepEnd values ovr => Sys2Proof.Machine.execSyscalStepEnd values ovr s
  | .run value => Sys2Proof.Machine.execRun value s
  | .slice items => Sys2Proof.Machine.execSlice items s
  | .calStarved => Sys2Proof.Machine.execCalStarved s
  | .backgroundItemEnd rc cells legs reached => Sys2Proof.Machine.execBackgroundItemEnd rc cells legs reached s
  | .telemetryRecord => Sys2Proof.Machine.execTelemetryRecord s
  | .logSummary => Sys2Proof.Machine.execLogSummary s
  | .logRecordWrite ok => Sys2Proof.Machine.execLogRecordWrite ok s
  | .logMount => Sys2Proof.Machine.execLogMount s
  | .svcUnlockWrite value => Sys2Proof.Machine.execSvcUnlockWrite value s
  | .svcAmonWrite value => Sys2Proof.Machine.execSvcAmonWrite value s
  | .svcElWrite value => Sys2Proof.Machine.execSvcElWrite value s
  | .consoleLineError code => Sys2Proof.Machine.execConsoleLineError code s
  | .ctrlC => Sys2Proof.Machine.execCtrlC s
  | .consoleBreak => Sys2Proof.Machine.execConsoleBreak s
  | .partialLineTimeout => Sys2Proof.Machine.execPartialLineTimeout s
  | .consoleWakeEdge => Sys2Proof.Machine.execConsoleWakeEdge s
  | .consoleSessionEnd => Sys2Proof.Machine.execConsoleSessionEnd s
  | .svcNoManager => Sys2Proof.Machine.execSvcNoManager s
  | .serviceJoinTimeout => Sys2Proof.Machine.execServiceJoinTimeout s
  | .logNvmTimeout => Sys2Proof.Machine.execLogNvmTimeout s
  | .help => Sys2Proof.Machine.execHelp s
  | .id => Sys2Proof.Machine.execId s
  | .rd addr n => Sys2Proof.Machine.execRd addr n s
  | .wr addr value => Sys2Proof.Machine.execWr addr value s
  | .time => Sys2Proof.Machine.execTime s
  | .log kind n => Sys2Proof.Machine.execLog kind n s
  | .evmonOn => Sys2Proof.Machine.execEvmonOn s
  | .evmonOff => Sys2Proof.Machine.execEvmonOff s
  | .svc code => Sys2Proof.Machine.execSvc code s
  | .svcOff => Sys2Proof.Machine.execSvcOff s
  | .meter point arg => Sys2Proof.Machine.execMeter point arg s
  | .meterOff => Sys2Proof.Machine.execMeterOff s
  | .el all n st => Sys2Proof.Machine.execEl all n st s
  | .consoleReset => Sys2Proof.Machine.execConsoleReset s
  | .blockStat block => Sys2Proof.Machine.execBlockStat block s
  | .sysStat => Sys2Proof.Machine.execSysStat s
  | .bootStat => Sys2Proof.Machine.execBootStat s
  | .imgCheck slotB => Sys2Proof.Machine.execImgCheck slotB s
  | .nvmRd addr n => Sys2Proof.Machine.execNvmRd addr n s
  | .pwrStat => Sys2Proof.Machine.execPwrStat s
  | .pwrWake => Sys2Proof.Machine.execPwrWake s
  | .timeStat => Sys2Proof.Machine.execTimeStat s
  | .scanNoise => Sys2Proof.Machine.execScanNoise s
  | .scanNode t r => Sys2Proof.Machine.execScanNode t r s
  | .scanLegs n => Sys2Proof.Machine.execScanLegs n s
  | .scanRun => Sys2Proof.Machine.execScanRun s
  | .scanStop => Sys2Proof.Machine.execScanStop s
  | .scanTone n k => Sys2Proof.Machine.execScanTone n k s
  | .trkHop => Sys2Proof.Machine.execTrkHop s
  | .trkBase t r => Sys2Proof.Machine.execTrkBase t r s
  | .trkBlreset => Sys2Proof.Machine.execTrkBlreset s
  | .trkRpt => Sys2Proof.Machine.execTrkRpt s
  | .trkCap planes => Sys2Proof.Machine.execTrkCap planes s
  | .evrSrc n => Sys2Proof.Machine.execEvrSrc n s
  | .evrFire n => Sys2Proof.Machine.execEvrFire n s
  | .cfgStat => Sys2Proof.Machine.execCfgStat s
  | .cfgGet p => Sys2Proof.Machine.execCfgGet p s
  | .cfgDelta => Sys2Proof.Machine.execCfgDelta s
  | .surfStat => Sys2Proof.Machine.execSurfStat s
  | .surfMap => Sys2Proof.Machine.execSurfMap s
  | .surfTile xy => Sys2Proof.Machine.execSurfTile xy s
  | .rtile xy => Sys2Proof.Machine.execRtile xy s
  | .surfReset xy => Sys2Proof.Machine.execSurfReset xy s
  | .eglPing xy n => Sys2Proof.Machine.execEglPing xy n s
  | .eglInj ix kind k => Sys2Proof.Machine.execEglInj ix kind k s
  | .eglInjOff => Sys2Proof.Machine.execEglInjOff s
  | .eglRetrain p => Sys2Proof.Machine.execEglRetrain p s
  | .memCol n => Sys2Proof.Machine.execMemCol n s
  | .memRepair n c => Sys2Proof.Machine.execMemRepair n c s
  | .gdeWin => Sys2Proof.Machine.execGdeWin s
  | .gdeTest n => Sys2Proof.Machine.execGdeTest n s
  | .railVtx v => Sys2Proof.Machine.execRailVtx v s
  | .railVled v => Sys2Proof.Machine.execRailVled v s
  | .railVledAuto => Sys2Proof.Machine.execRailVledAuto s
  | .railRestart => Sys2Proof.Machine.execRailRestart s
  | .lampN n => Sys2Proof.Machine.execLampN n s
  | .lampSet n level ms => Sys2Proof.Machine.execLampSet n level ms s
  | .lampClear g => Sys2Proof.Machine.execLampClear g s
  | .irxRaw => Sys2Proof.Machine.execIrxRaw s
  | .itxSend ix n => Sys2Proof.Machine.execItxSend ix n s
  | .itxLoop ix => Sys2Proof.Machine.execItxLoop ix s
  | .hkaCh n => Sys2Proof.Machine.execHkaCh n s
  | .hkaConv n k values => Sys2Proof.Machine.execHkaConv n k values s
  | .hkaPath n low high => Sys2Proof.Machine.execHkaPath n low high s
  | .hkaCalZero n => Sys2Proof.Machine.execHkaCalZero n s
  | .hkaCalFull n uv => Sys2Proof.Machine.execHkaCalFull n uv s
  | .hkaCalApply n vref copyOk => Sys2Proof.Machine.execHkaCalApply n vref copyOk s
  | .calRun => Sys2Proof.Machine.execCalRun s
  | .logStat => Sys2Proof.Machine.execLogStat s
  | .telem => Sys2Proof.Machine.execTelem s
  | .resetRelease straps => Sys2Proof.Machine.execResetRelease straps s
  | .vcoreGood => Sys2Proof.Machine.execVcoreGood s
  | .tickBoundary => Sys2Proof.Machine.execTickBoundary s
  | .foscLock => Sys2Proof.Machine.execFoscLock s
  | .foscLockLost => Sys2Proof.Machine.execFoscLockLost s
  | .commaAlignment port => Sys2Proof.Machine.execCommaAlignment port s
  | .linkCodeErrors port => Sys2Proof.Machine.execLinkCodeErrors port s
  | .startOfFrameToken frame => Sys2Proof.Machine.execStartOfFrameToken frame s
  | .consoleCharacter c bad => Sys2Proof.Machine.execConsoleCharacter c bad s
  | .vddaFall => Sys2Proof.Machine.execVddaFall s
  | .referenceReady refin => Sys2Proof.Machine.execReferenceReady refin s

end Sys2Proof.Machine
end

