-- ==== Sys2Proof/Machine/Step.lean ====
section
/-!
DEFINITION. Step.lean: one step takes the command at the front of the queue and runs it; on an empty queue the block
idles (log entry 11).
-/

namespace Sys2Proof.Machine

/-- The outside hands a command to the machine: it joins the end of the queue. -/
def State.submit (s : State) (c : Instr) : State := { s with pending := s.pending ++ [c] }

/-- The command at the front of the queue, run with the queue's rest; nothing on an empty queue. -/
def step (s : State) : Host.Outcome State Fault Refusal :=
  match s.pending with
  | [] => .next s
  | c :: rest => exec c { s with pending := rest }

/-- The machine with the command that a table word spells at the front of its queue; unchanged when it spells none. -/
def State.withFetchWord (s : State) (nbits w : Nat) : State :=
  match decodeTableWord nbits w with
  | none => s
  | some c => { s with pending := c :: s.pending }

end Sys2Proof.Machine
end

