-- ==== Sys2Proof/WellFormed.lean ====
section
/-!
DEFINITION. WellFormed.lean: the operands a command may carry, where the specification bounds them more tightly than the
operand's type does. The meanings are total: a command that is not well-formed names an event the specification has no form
for, and what exec answers for it says nothing about the hardware.
-/

namespace Sys2Proof

/-- The words of a hierarchy message from payload word 1: as many as R572 names, in one packet of at most 64 words (R597). -/
def messageFits (least : Nat) (words : List Word) : Bool := least ≤ words.length && words.length ≤ 63

/-- A command's operands are in the ranges the specification gives them (R572, R597, R620, and
the rule that each row of the table names). -/
def Instr.wellFormed (i : Instr) : Bool :=
  match i with
  | .imgReq _ words => messageFits 0 words
  | .imgData _ words | .refuse _ words | .contacts _ words | .strip _ words => messageFits 2 words
  | .imgResult _ words | .ready _ words | .go _ words | .goAck _ words | .abort _ words | .goLate _ words
  | .delta _ words | .enum words | .refuseJoin _ words | .reset _ words | .leave _ words | .svcReq _ words
    => messageFits 1 words
  | .nvpDone outcome _ => [0, 4, 5, 7, 8].contains outcome.toNat
  | .twbPartial count => 1 ≤ count.toNat
  | .nvmTransferStart what => 1 ≤ what.toNat && what.toNat ≤ 5
  | .remoteWakeSampleEnd bus => bus.toNat ≤ 2
  | .prepare _ words => messageFits 3 words
  | .join _ words | .welcome _ words => messageFits 6 words
  | .forward _ words => messageFits 4 words
  | .sequencedFrame _ _ _ _ _ payload => payload.length ≤ 127
  | .operationResponse _ _ payload => payload.length ≤ 64
  | .beacon _ _ words _ | .watchBeacon _ _ words _ => words.length == 6
  | .railVtxFault kind _ => 1 ≤ kind.toNat
  | .conversionEnd _ _ ovr => ovr.toNat ≤ 2
  | .syscalStepEnd values ovr => ovr.toNat ≤ 2 && values.length == 64
  | .consoleLineError code => 1 ≤ code.toNat && code.toNat ≤ 4
  | .log kind _ | .eglInj _ kind _ => kind.toNat ≤ 2
  | .el _ _ st => st.toNat ≤ 4
  | .blockStat block => block.toNat ≤ 13
  | .registerWrite _ _ _ | .rcFieldRead _ _ | .powerOn | .powerOnRelease _ | .alwaysOnLoss | .vddBrownOut
  | .vcoreBrownOut | .vddWarningSet | .vddWarningClear | .resetPin | .softwareReset _ _ | .softwareResetPerform
  | .coreWatchdog | .coreRestartEnd | .xtalQualified | .xtalQualifyTimeout | .xtalLost | .foscRequest | .foscStop
  | .foscLockTimeout | .vddioLoss | .vddioReturn | .outputsRestore | .selfTestEnd _ _ | .headerReadEnd _ _
  | .headerReadTimeout _ | .slotReadEnd | .slotCheckTimeout | .startupCalibrationEnd _ | .fullRunTimeout _
  | .linkImageRequest | .linkImageTimeout | .nvpRead _ | .nvpWrite _ | .nvpVerify _ | .nvpInvalidate _
  | .modeRequest _ | .holdSet | .holdClear | .autoIdleExpiry | .watchAfterExpiry | .mode _ _ _ | .modeAck _
  | .hibDrainEnd | .orphan | .wake _ _ _ | .wakeAddressStretchTimeout | .wakeVcoreTimeout | .wakeSourceEnable _
  | .hostwakePulseEnd | .hostwakeLevelTimeout | .hostwakeAck | .frameStart | .selfScanEnd _ _ _ _ _
  | .watchScan _ _ _ | .trackFrame _ _ | .tapHoldExpiry | .blreset _ | .resync _ | .arm _ | .stop _
  | .captureCopyEnd _ _ | .doorbell _ _ _ | .hostDoorbell _ | .recordDelivery _ | .ringReadPointer _ _ | .take _ _
  | .done _ _ | .stackrst _ _ | .gdis _ _ | .sourceConfigWrite _ | .evrServiceTimeout _ | .moderationExpiry _ _
  | .coreDelivery | .coreTake _ _ _ | .coreDone _ _ | .timeSnapshot _ | .timeLoad | .timeLoadApply | .timeSlew
  | .timeSlewApply | .timeCancel | .slewAdjust | .workerTimeStep | .beaconGap | .alarmArm | .alarmValueWrite _ _
  | .timeAlarm | .twbPointer _ | .twbWordWrite _ | .twbWordRead _ | .twbPecWrite _ _ _ | .alertResponse _
  | .smbusTimeout _ | .remoteLate | .arbitrationLost _ _ | .nvmStretchTimeout _ | .nvmPoll _ _ | .nvmPollTimeout
  | .resumeAddressTimeout | .nvctlWrite _ | .nvholdExpiry | .sdaRecovery _ | .sclStuck | .usbAttach | .usbDetach _
  | .sofLock | .usbBusReset | .getStatus _ _ _ | .clearFeature _ _ _ | .setFeature _ _ _ | .setAddress _
  | .getDescriptor _ _ _ | .getConfiguration _ | .setConfiguration _ | .getInterface _ _ | .setInterface _ _
  | .getReport _ _ _ | .setIdle _ _ | .getIdle _ _ _ | .stall | .usbPacketError | .hidReportSend | .ep2Read _ _ _
  | .ep2Write _ _ _ _ | .ep2Events _ _ _ | .ep2UnknownOp _ _ | .ep2BadLength _ _ _ | .ep2ResponseAck | .usbSuspend
  | .usbResume | .remoteWakeDriveEnd _ | .detach _ _ | .cfgCommit _ | .cfgCheck _ | .cfgClear _ | .cfgCancel _
  | .cfgCheckEnd | .coldCalibrationTimeout | .goAckTimeout | .contactsDeadline | .stripDeadline | .remoteRd _ _ _
  | .remoteWr _ _ _ _ | .remoteResp _ _ _ | .tileLost _ | .remoteWindowRead _ _ | .remoteWindowWrite _ _ _
  | .eglTreset _ | .signalDetect _ | .linkctlId _ _ | .delayReq _ _ _ | .delayResp _ _ _ | .trainingTimeout _
  | .retrainDelay _ | .delayRecalibration _ | .ack _ _ | .nak _ _ | .resendTimeout _ | .signalLoss _
  | .packetAged _ | .gapSkip | .operationIssue | .tagStarved | .opAttemptTimeout _ | .tagReturn _
  | .requestDelivery _ | .duplicateCacheExpiry | .ping _ _ _ | .wakePacket _ _ _ | .reorderRelease _ | .retrain _
  | .portDisable _ | .ownerWrite _ _ _ | .handover _ | .portAAccess _ _ _ _ _ _ | .portBAccess _ _ _ _ _ _ _
  | .scrub _ _ | .scrubLate | .memoryWindowRead _ _ _ | .memoryWindowWrite _ _ _ | .repair _ _
  | .repairVtxReady _ _ | .repairVtxTimeout | .gdePush _ | .gdeResume _ | .gdeSkip _ | .gdeAbort _ | .gdeFlush _
  | .gatherBurst _ _ _ | .gatherRead _ _ _ _ _ | .vtxCommand _ | .vledFixed _ | .vledAdaptive _
  | .referenceUpdate _ _ _ | .railDone _ | .demandUpdate | .softStartEnd | .vtxToRegulator | .railShort _
  | .shortRetry | .runningShort _ | .clearlatch _ | .railOvervolt _ | .vhvAbove50v _ | .vtxFaultRestart
  | .lampCommand _ _ | .fadeTick | .pwmPeriod _ _ _ _ | .bypassClamp _ | .refreshPeriod _ | .chainCheck _
  | .lampGclear _ | .lampFaultClear _ _ | .lampHeadroom _ | .irEdge _ _ _ _ | .irGap | .irBiphaseSpaceEnd
  | .irKeyRelease | .irStuck _ | .release _ | .itxStart _ _ | .itxStop _ _ | .itxEntryEnd | .itxTmax
  | .itxPdata _ _ _ | .planConversion | .hkaSnap _ _ | .claim _ | .hkaClaimExpired | .hostConversion _
  | .refinCheck _ | .referenceTimeout _ | .conversionTimeout _ | .tdac _ | .zero _ | .full _ | .apply _ _ _
  | .default _ _ | .run _ | .slice _ | .calStarved | .backgroundItemEnd _ _ _ _ | .telemetryRecord | .logSummary
  | .logRecordWrite _ | .logMount | .svcUnlockWrite _ | .svcAmonWrite _ | .svcElWrite _ | .ctrlC | .consoleBreak
  | .partialLineTimeout | .consoleWakeEdge | .consoleSessionEnd | .svcNoManager | .serviceJoinTimeout
  | .logNvmTimeout | .help | .id | .rd _ _ | .wr _ _ | .time | .evmonOn | .evmonOff | .svc _ | .svcOff | .meter _ _
  | .meterOff | .consoleReset | .sysStat | .bootStat | .imgCheck _ | .nvmRd _ _ | .pwrStat | .pwrWake | .timeStat
  | .scanNoise | .scanNode _ _ | .scanLegs _ | .scanRun | .scanStop | .scanTone _ _ | .trkHop | .trkBase _ _
  | .trkBlreset | .trkRpt | .trkCap _ | .evrSrc _ | .evrFire _ | .cfgStat | .cfgGet _ | .cfgDelta | .surfStat
  | .surfMap | .surfTile _ | .rtile _ | .surfReset _ | .eglPing _ _ | .eglInjOff | .eglRetrain _ | .memCol _
  | .memRepair _ _ | .gdeWin | .gdeTest _ | .railVtx _ | .railVled _ | .railVledAuto | .railRestart | .lampN _
  | .lampSet _ _ _ | .lampClear _ | .irxRaw | .itxSend _ _ | .itxLoop _ | .hkaCh _ | .hkaConv _ _ _
  | .hkaPath _ _ _ | .hkaCalZero _ | .hkaCalFull _ _ | .hkaCalApply _ _ _ | .calRun | .logStat | .telem
  | .resetRelease _ | .vcoreGood | .tickBoundary | .foscLock | .foscLockLost | .commaAlignment _
  | .linkCodeErrors _ | .startOfFrameToken _ | .consoleCharacter _ _ | .vddaFall | .referenceReady _ => true

end Sys2Proof
end

