-- ==== Sys2Proof/Safety.lean ====
section
/-!
DEFINITION. Safety.lean: what the claims call a sound state. A command never stops the machine (log entry 1), so what can go
wrong is a state that no hardware has: a memory out of its canonical form.
-/

namespace Sys2Proof.Machine

/-- The four sparse memories of the hardware are in canonical form: the registers, the banks, the EEPROM and the applied
configuration. -/
def Dev.memoriesWf (d : Dev) : Bool :=
  cellsWf regReset d.regs && cellsWf bankDefault d.banks && cellsWf nvmDefault d.nvm && cellsWf paramDefault d.cfg

/-- The parts of the hardware that come in a fixed number do: the ports of the link, the gather channels, the lamp sinks, and
the converter's channels, snapshots and zero means. -/
def Dev.shaped (d : Dev) : Bool :=
  d.link.ports.length == 4 && d.gde.channels.length == 8 && d.lamp.sinks.length == 8 && d.hka.chans.length == 16 &&
    d.hka.snaps.length == 4 && d.hka.zero.length == 4

/-- The canonical form of a state's memories. -/
def Memory.wf (s : State) : Bool := s.dev.memoriesWf

/-! What the claims say of one command. -/

/-- The command runs at s to a next state whose queue is as it was and whose hardware is as P says. -/
def Completes (c : Instr) (s : State) (P : Dev → Prop) : Prop := ∃ t, exec c s = .next ⟨t, s.pending⟩ ∧ P t

/-- Every register but those named, every bank word, every EEPROM byte and every word of the applied configuration reads in t
as in d. -/
def Dev.leaves (d t : Dev) (regs : List Nat) : Prop :=
  (∀ a, a ∉ regs → t.reg a = d.reg a) ∧ (∀ b w, t.bank b w = d.bank b w) ∧ (∀ a, t.nvmByte a = d.nvmByte a) ∧
    ∀ sect id idx, t.cfgWord sect id idx = d.cfgWord sect id idx

/-- The registers that raising an event may change: counts and write pointers of the router (R339, R360, R373), the fault-log
queue (R875), what an admission wakes (R186, R484), the call for a resync and the count of frame-end records with LOSS (R310,
R331), and the console's dropped lines (R82). -/
def ringRegs : List Nat :=
  [EVR_CNT, EVR_CORE, EVR_H0_DISC, EVR_H1_DISC, EVR_H0_WR, EVR_H1_WR, CAL_LOGQ, PWR_HOST, USB_RWK, TRK_RPT_STAT, TRK_RPT_CNT,
   SVC_ERR]

/-- As `leaves`, but for what raising an event may change: the registers of `ringRegs`, and bank 8, which holds the rings. -/
def Dev.leavesRing (d t : Dev) (regs : List Nat) : Prop :=
  (∀ a, a ∉ regs → a ∉ ringRegs → t.reg a = d.reg a) ∧ (∀ b w, b ≠ 8 → t.bank b w = d.bank b w) ∧
    (∀ a, t.nvmByte a = d.nvmByte a) ∧ ∀ sect id idx, t.cfgWord sect id idx = d.cfgWord sect id idx

/-- The last thing that made t was a doorbell of the source with this payload, rung on the router as it stands in d. -/
def Dev.rang (d t : Dev) (src : Nat) (w1 w2 : Word) : Prop := ∃ e : Dev, e.evr = d.evr ∧ t = e.ring src w1 w2

/-- The last thing that made t was the link's taking up a message: its kind, destination and payload stand behind the
messages that waited in d. -/
def Dev.hands (d t : Dev) (kind dest : Nat) (payload : List Word) : Prop :=
  ∃ e : Dev, e.outbox = d.outbox ++ [⟨kind, dest, payload⟩] ∧ t = e.issueOps

/-- What a console command that prints one line of words and ends in OK leaves: the line is gone, and where the transmit buffer
has room nothing but the output is new (R68, R82). -/
def Dev.says (d t : Dev) (tag : Nat) (ws : List Word) : Prop :=
  t.con.line = [] ∧ d.leaves t [SVC_ERR] ∧ (d.con.dropped = 0 → d.con.level + 7 * ws.length + 11 ≤ 2048 →
    t = { d with con := { d.con with line := [], framed := false, tooLong := false
                                     out := d.con.out ++ [.values tag ws, .ok, .prompt d.fullSet] } })

/-- Every waiting command is one the specification has a form for. -/
def State.queueWf (s : State) : Bool := s.pending.all Instr.wellFormed

end Sys2Proof.Machine
end

