-- ==== Sys2Proof/Certificates/Slice0/Obligations.lean ====
section
/-!
DEFINITION. Obligations.lean: the claims about the machine, for the provers. A claim about a command says what the command
answers in every state that meets its premises; Safety.lean says what its words mean.
-/

open Sys2Proof Sys2Proof.Machine

/-- For every command c and state s: a step of s with c at the front of its queue is exec of c on s with the queue's rest. So
a queue of which every command is well formed stays one. The queue is the model's own (a block takes commands one at a
time), no rule of the specification. Rests on 98_reader.md. -/
def Obligations.StepRunsFrontCommand : Prop :=
  (∀ (c : Instr) (s : State), step { s with pending := c :: s.pending } = exec c s) ∧
  ∀ (c : Instr) (s t : State), step { s with pending := c :: s.pending } = .next t → t.pending = s.pending

/-- For every state: with no command waiting, a step changes nothing (the model's choice, log entry 11); a command that is
handed in while none waits is the one the next step runs, and with one waiting it joins the end of the queue; a table
word, of which the table gives none any bits (log entry 10), puts nothing into the queue. Rests on 98_reader.md. -/
def Obligations.EmptyQueueIdles : Prop :=
  (∀ s : State, s.pending = [] → step s = .next s) ∧
  (∀ (s : State) (c : Instr), s.pending = [] → step (s.submit c) = exec c s) ∧
  (∀ (s : State) (b c : Instr) (rest : List Instr), s.pending = b :: rest →
    step (s.submit c) = exec b { s with pending := rest ++ [c] }) ∧
  ∀ (s : State) (nbits w : Nat), decodeTableWord nbits w = none ∧ s.withFetchWord nbits w = s

/-- In the reset state no command waits, the memories are in canonical form and every part has its number; every register
holds the word that the directory gives it, and every slot of the host event rings reads 0. Of the words the directory
gives, written out here: the bank owners of R930 and some of every block. The fuses, the EEPROM's bytes and the moment at
which the state stands (the release delay running) are the model's choice (log entries 4, 5 and 16). Rests on R18, R925,
R927, R930, R931. -/
def Obligations.ResetState : Prop :=
  State.reset.pending = [] ∧ Memory.wf State.reset = true ∧ State.reset.dev.shaped = true ∧
  (∀ a, State.reset.dev.reg a = regReset a) ∧
  (∀ w, w < 2 * 4096 → State.reset.dev.bank 8 w = 0) ∧
  (List.range 16).map (fun n => (State.reset.dev.reg (MEM_OWN n)).toNat) =
    [0, 0, 0, 0, 2, 3, 4, 5, 0, 0, 7, 6, 2, 2, 2, 8]

/-- For every command with any operands, in every state: the command answers a next state, and the queue of that state is the
queue as it was. No rule of the specification gives a command no effect at all, so none ends in a fault or a refusal (log
entry 1). Rests on 00_scope.md, 95_what_each_step_holds.md. -/
def Obligations.EveryCommandCompletes : Prop :=
  ∀ (c : Instr) (s : State), ∃ t : Dev, exec c s = .next ⟨t, s.pending⟩

/-- For every state, reached by a run or not, whose registers, banks, EEPROM and applied configuration are in canonical form
and whose link has its 4 ports, whose gather engine has its 8 channels, whose lamps have their 8 sinks and whose converter
has its 16 channels, 4 snapshots and 4 zero means: every state that a step answers is such a state again, whatever command
stands at the front of the queue. Rests on 16_egret_link.md, 17_memory_banks.md, 18_gather_engine.md, 20_lighting.md,
22_housekeeping_adc.md, 26_register_directory.md. -/
def Obligations.StepKeepsSoundness : Prop :=
  ∀ s t : State, Memory.wf s = true → s.dev.shaped = true → step s = .next t →
    Memory.wf t = true ∧ t.dev.shaped = true

/-- For every state whose memories are in canonical form and whose parts have their number: a step leaves the grade, the key
digest, the die serial, the oscillator legs and the fuse check as they were. Only the spare columns, which a field column
repair programs, may change. Rests on R3, R136, R670, R672. -/
def Obligations.OnlyRepairsWriteFuses : Prop :=
  ∀ s t : State, Memory.wf s = true → s.dev.shaped = true → step s = .next t →
    { t.dev.fuses with spares := [] } = { s.dev.fuses with spares := [] }

/-- For every state: POWER_ON makes both supplies good and sets SYS_SUPPLY.VDDA_OK. A warning set while VDD_WARN is 0 sets
VDD_WARN and the sticky WARN_SEEN, counts in WARNS up to 255 and raises source 7 with W1 0; a warning cleared while
VDD_WARN is 1 clears it and raises source 7 with W1 1. VDDIO_LOSS clears VDDIO_OK, sets VDDIO_LOSS, discards the held
words of a two-wire write, the partial console line and the NVM transfer, whose page in write tears, and raises source 7
with W1 2. VDDIO_RETURN after a loss sets VDDIO_OK again, and OUTPUTS_RESTORE after it raises source 7 with W1 3. Nothing
else in registers, banks, EEPROM or configuration changes, but for what raising an event changes. Rests on R99, R110,
R124, R125. -/
def Obligations.SuppliesWarnAndReturn : Prop :=
  ∀ s : State,
    Completes .powerOn s (fun t => t.pwr.vddGood = true ∧ t.pwr.vddaGood = true ∧ t.flag SYS_SUPPLY_VDDA_OK = true ∧
      s.dev.leaves t [SYS_SUPPLY]) ∧
    (s.dev.flag SYS_SUPPLY_VDD_WARN = false → Completes .vddWarningSet s fun t =>
      t.flag SYS_SUPPLY_VDD_WARN = true ∧ t.flag SYS_SUPPLY_WARN_SEEN = true ∧
      t.fld SYS_SUPPLY_WARNS = min (s.dev.fld SYS_SUPPLY_WARNS + 1) 255 ∧
      s.dev.rang t 7 0 0 ∧ s.dev.leavesRing t [SYS_SUPPLY]) ∧
    (s.dev.flag SYS_SUPPLY_VDD_WARN = true → Completes .vddWarningClear s fun t =>
      t.flag SYS_SUPPLY_VDD_WARN = false ∧ t.fld SYS_SUPPLY_WARNS = s.dev.fld SYS_SUPPLY_WARNS ∧
      t.flag SYS_SUPPLY_WARN_SEEN = s.dev.flag SYS_SUPPLY_WARN_SEEN ∧
      s.dev.rang t 7 1 0 ∧ s.dev.leavesRing t [SYS_SUPPLY]) ∧
    Completes .vddioLoss s (fun t => t.flag SYS_SUPPLY_VDDIO_OK = false ∧ t.flag SYS_SUPPLY_VDDIO_LOSS = true ∧
      t.twb.held = [] ∧ t.con.line = [] ∧ t.pwr.vddioLost = true ∧ t.twb.nvOp = 0 ∧ t.nvm = s.dev.nvmTorn.nvm ∧
      s.dev.rang t 7 2 0 ∧ s.dev.nvmTorn.leavesRing t [SYS_SUPPLY, TWB_STAT]) ∧
    (s.dev.flag SYS_SUPPLY_VDDIO_OK = false → Completes .vddioReturn s fun t =>
      t.flag SYS_SUPPLY_VDDIO_OK = true ∧ t.pwr.vddioReturning = true ∧ t.pwr.vddioLost = s.dev.pwr.vddioLost ∧
      s.dev.leaves t [SYS_SUPPLY]) ∧
    (s.dev.pwr.vddioReturning = true → s.dev.pwr.vddioLost = true → Completes .outputsRestore s fun t =>
      t.pwr.vddioReturning = false ∧ t.pwr.vddioLost = false ∧ s.dev.rang t 7 3 0 ∧ s.dev.leavesRing t [])

/-- For every state: a loss of the always-on domain, and a fall of VDDA (log entry 15), enter a power-on reset: every register
but SYS_SUPPLY reads its reset value, the time value and epoch are 0, and the fuses and the EEPROM, but for a page in
write, which tears, are kept. A VDD brown-out and the reset pin, when no reset is in progress and no cause stands in the
same cycle, enter resets of codes 2 and 4: LAST is the code, STICKY gains its bit, RESETS counts, the time value, epoch,
TIME_STEPCNT and LAMP_TRIP are kept, and every other register but SYS_SUPPLY and those of an armed alarm reads its reset
value. While a reset of code c is in progress each of the two only records its cause: LAST and the held code become the
lower of the two. Rests on R48, R99, R101, R109, R114, R117, R413. -/
def Obligations.ResetsClearAndKeep : Prop :=
  ∀ s : State,
    Completes .alwaysOnLoss s (fun t => t.pwr.held = some 1 ∧ t.pwr.vddGood = false ∧
      (∀ a, a ≠ SYS_SUPPLY → t.reg a = regReset a) ∧ t.time.sec = 0 ∧ t.time.frac = 0 ∧ t.time.epoch = 0 ∧
      t.nvm = s.dev.nvmTorn.nvm ∧ t.fuses = s.dev.fuses) ∧
    Completes .vddaFall s (fun t => t.pwr.held = some 1 ∧ t.pwr.vddaGood = false ∧ t.flag SYS_SUPPLY_VDDA_OK = false ∧
      (∀ a, a ≠ SYS_SUPPLY → t.reg a = regReset a) ∧ t.time.sec = 0 ∧ t.time.frac = 0 ∧ t.time.epoch = 0 ∧
      t.nvm = s.dev.nvmTorn.nvm ∧ t.fuses = s.dev.fuses) ∧
    (∀ c code, (c, code) ∈ [(Instr.vddBrownOut, 2), (Instr.resetPin, 4)] → s.dev.pwr.held = none → s.dev.sameCycle = none →
      Completes c s fun t => t.pwr.held = some code ∧ t.pwr.step = 1 ∧
        (c = .vddBrownOut → t.pwr.vddGood = false) ∧ (c = .resetPin → t.pwr.resetLow = true) ∧
        t.fld SYS_RSTCAUSE_LAST = code ∧
        t.fld SYS_RSTCAUSE_STICKY = s.dev.fld SYS_RSTCAUSE_STICKY ||| 2 ^ (code - 1) ∧
        t.fld SYS_RSTCNT_RESETS = min (s.dev.fld SYS_RSTCNT_RESETS + 1) (2 ^ SYS_RSTCNT_RESETS.width - 1) ∧
        t.time.sec = s.dev.time.sec ∧ t.time.frac = s.dev.time.frac ∧ t.time.epoch = s.dev.time.epoch ∧
        t.reg TIME_STEPCNT = s.dev.reg TIME_STEPCNT ∧ t.reg LAMP_TRIP = s.dev.reg LAMP_TRIP ∧
        (∀ a, a ∉ [SYS_RSTCAUSE, SYS_RSTCNT, SYS_SUPPLY, TIME_STEPCNT, TIME_ALM_FRAC, TIME_ALM_SECL, TIME_ALM_SECH,
          TIME_ALM_CTRL, LAMP_TRIP] → t.reg a = regReset a) ∧
        t.nvm = s.dev.nvmTorn.nvm ∧ t.fuses = s.dev.fuses) ∧
    (∀ c code, (c, code) ∈ [(Instr.vddBrownOut, 2), (Instr.resetPin, 4)] → ∀ h, s.dev.pwr.held = some h →
      s.dev.sameCycle = none →
      Completes c s fun t => t.pwr.held = some (min h code) ∧
        (c = .vddBrownOut → t.pwr.vddGood = false) ∧ (c = .resetPin → t.pwr.resetLow = true) ∧
        t.fld SYS_RSTCAUSE_LAST = min h code % 2 ^ SYS_RSTCAUSE_LAST.width ∧
        t.fld SYS_RSTCAUSE_STICKY = s.dev.fld SYS_RSTCAUSE_STICKY ||| 2 ^ (code - 1) ∧
        s.dev.leaves t [SYS_RSTCAUSE, SYS_RSTCNT])

/-- For every state. The release of a supply reset with both supplies good and RESET# high, and the release of RESET#
(code above 2), leave no reset in progress, and start-up at step 3 with VCORE not yet good; SYS_STRAP shows the sampled
straps: with one stable read of the balls it holds one attempt and the decoded ROLE, BOOTSRC and SVCEN. A VCORE
brown-out with the core domain on, a software reset with the key from the two-wire target or the console, and the
deferred reset of USB or the remote window, with no other cause in the cycle, record codes 3 and 6 and run from step 2
at once, so that they too leave start-up at step 3 with the EEPROM kept but for a page in write; from USB and the remote
window the keyed write only asks for it. A write of SYS_CTRL without key and bit is counted in SYS_WRIGN. Rests on R48,
R56, R57, R61, R99, R103, R109, R111, R127. -/
def Obligations.ResetsEndInStepThree : Prop :=
  ∀ s : State,
    (∀ straps, s.dev.pwr.held ≠ none → s.dev.pwr.vddGood = true → s.dev.pwr.vddaGood = true → s.dev.pwr.resetLow = false →
      Completes (.powerOnRelease straps) s fun t => t.pwr.held = none ∧ t.pwr.step = 3 ∧ t.flag SYS_SUPPLY_VCORE_OK = false ∧
        (∀ r role boot svc, straps = [r] → strapRole r = some role → strapBoot r = some boot → strapSvc r = some svc →
          t.fld SYS_STRAP_ROLE = role % 4 ∧ t.fld SYS_STRAP_BOOTSRC = bit boot ∧ t.fld SYS_STRAP_SVCEN = bit svc ∧
          t.fld SYS_STRAP_ATTEMPTS = 1)) ∧
    (∀ straps code, s.dev.pwr.resetLow = true → s.dev.pwr.held = some code → 2 < code →
      Completes (.resetRelease straps) s fun t => t.pwr.resetLow = false ∧ t.pwr.held = none ∧ t.pwr.step = 3 ∧
        t.flag SYS_SUPPLY_VCORE_OK = false) ∧
    (s.dev.pwr.held = none → s.dev.sameCycle = none → 4 ≤ s.dev.pwr.step → Completes .vcoreBrownOut s fun t =>
      t.pwr.held = none ∧ t.pwr.step = 3 ∧ t.fld SYS_RSTCAUSE_LAST = 3 ∧ t.nvm = s.dev.nvmTorn.nvm ∧
      t.time.sec = s.dev.time.sec ∧ t.time.frac = s.dev.time.frac) ∧
    (∀ rq value, wGet value 16 8 = 0xA5 → wGet value 0 1 = 1 → rq = .twoWire ∨ rq = .console → s.dev.pwr.held = none →
      s.dev.sameCycle = none →
      Completes (.softwareReset rq value) s fun t =>
        t.pwr.held = none ∧ t.pwr.step = 3 ∧ t.fld SYS_RSTCAUSE_LAST = 6 ∧ t.nvm = s.dev.nvmTorn.nvm) ∧
    (∀ rq value, wGet value 16 8 = 0xA5 → wGet value 0 1 = 1 → rq = .usb ∨ rq = .remote →
      Completes (.softwareReset rq value) s fun t => t.pwr.swReset = some rq ∧ s.dev.leaves t []) ∧
    (∀ rq value, ¬(wGet value 16 8 = 0xA5 ∧ wGet value 0 1 = 1) → Completes (.softwareReset rq value) s fun t =>
      t.fld SYS_WRIGN_COUNT = min (s.dev.fld SYS_WRIGN_COUNT + 1) (2 ^ SYS_WRIGN_COUNT.width - 1) ∧
      s.dev.leaves t [SYS_WRIGN]) ∧
    (s.dev.pwr.swReset ≠ none → s.dev.pwr.held = none → s.dev.sameCycle = none → Completes .softwareResetPerform s fun t =>
      t.pwr.swReset = none ∧ t.pwr.held = none ∧ t.pwr.step = 3 ∧ t.fld SYS_RSTCAUSE_LAST = 6 ∧ t.nvm = s.dev.nvmTorn.nvm)

/-- For every state. A started crystal that qualifies while the RC oscillator runs sets SRC32 and raises source 8 with W1 0;
one that does not qualify stops with XTAL_FAIL and W1 2; a lost crystal clears SRC32, sets XTAL_FAIL and raises source 8
with W1 1, and stays off until the next reset. A request for the stopped fast oscillator starts it unlocked, one while it
runs changes nothing; a stop, which a block's request bars, clears FOSC_ON and LOCKED. The third failed lock attempt sets
LOCK_FAIL and raises source 8 with W1 3. A lock sets LOCKED, a lost one clears it and counts the attempts anew (with no
USB attached, and none that may attach). VCORE good in step 3 of start-up, with no wake, sets VCORE_OK, starts the
oscillator and begins step 4. Rests on R105, R106, R108, R120, R122, R123, R125, R127. -/
def Obligations.ClocksStartQualifyAndFail : Prop :=
  ∀ s : State,
    (s.dev.pwr.xtalOn = true → s.dev.flag SYS_CLK_SRC32 = false →
      Completes .xtalQualified s (fun t => t.flag SYS_CLK_SRC32 = true ∧ s.dev.rang t 8 0 (t.reg SYS_CLK) ∧
        s.dev.leavesRing t [SYS_CLK]) ∧
      Completes .xtalQualifyTimeout s (fun t => t.pwr.xtalOn = false ∧ t.pwr.xtalFailed = true ∧
        t.flag SYS_CLK_XTAL_FAIL = true ∧ t.flag SYS_CLK_SRC32 = false ∧ s.dev.rang t 8 2 (t.reg SYS_CLK) ∧
        s.dev.leavesRing t [SYS_CLK])) ∧
    (s.dev.flag SYS_CLK_SRC32 = true → Completes .xtalLost s fun t => t.pwr.xtalOn = false ∧ t.pwr.xtalFailed = true ∧
      t.flag SYS_CLK_SRC32 = false ∧ t.flag SYS_CLK_XTAL_FAIL = true ∧ s.dev.rang t 8 1 (t.reg SYS_CLK) ∧
      s.dev.leavesRing t [SYS_CLK]) ∧
    (s.dev.flag SYS_CLK_FOSC_ON = false → Completes .foscRequest s fun t => t.flag SYS_CLK_FOSC_ON = true ∧
      t.flag SYS_CLK_LOCKED = false ∧ t.pwr.lockFails = 0 ∧ s.dev.leaves t [SYS_CLK]) ∧
    (s.dev.flag SYS_CLK_FOSC_ON = true → Completes .foscRequest s fun t => t = s.dev) ∧
    (s.dev.foscNeeded = true → Completes .foscStop s fun t => t = s.dev) ∧
    (s.dev.foscNeeded = false → Completes .foscStop s fun t => t.flag SYS_CLK_FOSC_ON = false ∧ t.flag SYS_CLK_LOCKED = false ∧
      t.time.interp = s.dev.time.interp ∧
      t.time.fast = false ∧ t.time.sec = s.dev.time.sec ∧ t.time.frac = s.dev.time.frac ∧ t.flag TIME_STAT_FASTINT = false ∧
      s.dev.leaves t [SYS_CLK, TIME_STAT]) ∧
    (s.dev.flag SYS_CLK_FOSC_ON = true → s.dev.flag SYS_CLK_LOCKED = false →
      (s.dev.pwr.lockFails = 2 → Completes .foscLockTimeout s fun t => t.pwr.lockFails = 3 ∧
        t.flag SYS_CLK_LOCK_FAIL = true ∧ s.dev.rang t 8 3 (t.reg SYS_CLK) ∧ s.dev.leavesRing t [SYS_CLK]) ∧
      (s.dev.pwr.lockFails < 2 → Completes .foscLockTimeout s fun t => t.pwr.lockFails = s.dev.pwr.lockFails + 1 ∧
        s.dev.leaves t []) ∧
      (s.dev.pwr.lockFails < 3 → s.dev.usb.vbus = false → Completes .foscLock s fun t => t.flag SYS_CLK_LOCKED = true ∧
        t.flag SYS_CLK_FOSC_ON = true ∧ s.dev.leaves t [SYS_CLK])) ∧
    (s.dev.flag SYS_CLK_LOCKED = true → s.dev.fld USB_STAT_STATE = 0 → Completes .foscLockLost s fun t =>
      t.flag SYS_CLK_LOCKED = false ∧ t.fld SYS_CLK_LOCKREF = 0 ∧ t.pwr.lockFails = 0 ∧ s.dev.leaves t [SYS_CLK]) ∧
    (s.dev.pwr.step = 3 → s.dev.modes.waking = false → Completes .vcoreGood s fun t => t.pwr.step = 4 ∧
      t.pwr.lockFails = 0 ∧ t.flag SYS_SUPPLY_VCORE_OK = true ∧ t.flag SYS_CLK_FOSC_ON = true ∧ t.flag SYS_CLK_LOCKED = false)

/-- For every state. In step 4, with valid fuses and a header still to read, a self-test without faults leaves every bank word
0, MEM_BIST.FAILED 0, the fused spare words in MEM_SPARE and FUSE_OK set. A header read, with the other header still to
read: without acknowledge, at a time-out, or without the bus to resume, the slot's result is 2, 3 or 2 and it holds no
header; a valid header is kept. In step 5, with the other slot's header valid and untried, a slot whose bytes differ from
the header of step 4 has result 7, one whose check times out result 3, and the other slot is tried; a slot whose image
passes is applied with result 1, and step 5 ends. A worker that waits for the link image hands IMG_REQ to the link, takes
pieces in offset order until the image is whole, and at the time-out reports result 15 and has no image. Rests on R127,
R144, R145, R147, R148, R160, R439, R547, R667, R673, R937. -/
def Obligations.StartUpTestsReadsAndLoads : Prop :=
  ∀ s : State,
    (s.dev.pwr.step = 4 → s.dev.boot.tested = false → s.dev.fuses.ok = true → s.dev.readsOwn = true →
      s.dev.boot.readA = false →
      Completes (.selfTestEnd 0 []) s fun t => t.boot.tested = true ∧ (∀ b w, t.bank b w = 0) ∧ t.mem.bad = [] ∧
        t.fld MEM_BIST_FAILED = 0 ∧ t.flag SYS_FUSE_FUSE_OK = true ∧
        (∀ n, n < 16 → t.reg (MEM_SPARE n) = s.dev.fuses.spares.getD n 0)) ∧
    (s.dev.headerDue false = true → s.dev.boot.readB = false →
      Completes (.headerReadEnd false false) s (fun t => t.fld SYS_BOOT_A_RESULT = 2 ∧ t.boot.readA = true ∧
        t.boot.hdrA = none) ∧
      Completes (.headerReadTimeout false) s (fun t => t.fld SYS_BOOT_A_RESULT = 3 ∧ t.boot.readA = true ∧
        t.boot.hdrA = none) ∧
      (s.dev.twb.nvOp = 1 → Completes .resumeAddressTimeout s fun t =>
        t.fld SYS_BOOT_A_RESULT = 2 ∧ t.boot.readA = true ∧ t.boot.hdrA = none) ∧
      (headerCode (s.dev.nvmRead slotBaseA 32) = 0 → Completes (.headerReadEnd false true) s fun t =>
        t.boot.hdrA = some (s.dev.nvmRead slotBaseA 32) ∧ t.fld SYS_BOOT_A_RESULT = s.dev.fld SYS_BOOT_A_RESULT)) ∧
    (∀ h g, s.dev.pwr.step = 5 → s.dev.boot.trying = 1 → s.dev.boot.hdrA = some h → s.dev.boot.hdrB = some g →
      s.dev.fld SYS_BOOT_B_RESULT = 0 →
      ((s.dev.nvmRead slotBaseA (headerLen h)).take 32 ≠ h → Completes .slotReadEnd s fun t =>
        t.fld SYS_BOOT_A_RESULT = 7 ∧ t.boot.trying = 2) ∧
      Completes .slotCheckTimeout s (fun t => t.fld SYS_BOOT_A_RESULT = 3 ∧ t.boot.trying = 2)) ∧
    (∀ h, s.dev.pwr.step = 5 → s.dev.boot.trying = 1 → s.dev.boot.hdrA = some h →
      (s.dev.nvmRead slotBaseA (headerLen h)).take 32 = h →
        (s.dev.checkImage (s.dev.nvmRead slotBaseA (headerLen h))).code = 1 →
      Completes .slotReadEnd s fun t => ∃ e : Dev, e.fld SYS_BOOT_A_RESULT = 1 ∧
        t = (e.applyImage 1 (s.dev.nvmRead slotBaseA (headerLen h))
          (s.dev.checkImage (s.dev.nvmRead slotBaseA (headerLen h)))).endStep5) ∧
    (s.dev.boot.linkWait = true → s.dev.surf.known = true → s.dev.fld EGL_STAT_PORTSUP ≠ 0 →
      Completes .linkImageRequest s fun t => s.dev.hands t msgImgReq 0 []) ∧
    (s.dev.boot.linkWait = true →
      Completes .linkImageTimeout s fun t => ∃ e : Dev, e.fld SYS_BOOT_LINK_RESULT = 15 ∧
        e.outbox = s.dev.outbox ++ [⟨msgImgResult, 0, [15]⟩] ∧ t = e.issueOps.noImage) ∧
    (∀ src off ws, s.dev.boot.linkWait = true → off.toNat = s.dev.boot.linkBuf.length →
      (∀ b, b = s.dev.boot.linkBuf ++ ws.flatMap wordBytes → b.length < 32 ∨ headerCode (b.take 32) = 0 ∧
        b.length < headerLen b) →
      Completes (.imgData src (off :: ws)) s fun t => t.boot.linkBuf = s.dev.boot.linkBuf ++ ws.flatMap wordBytes ∧
        s.dev.leaves t [])

/-- For every state. A proxy command while BUSY is 0 and nothing refuses it, with the key where it is WRITE or INVALIDATE,
sets BUSY and copies operation, address, length and buffer; a keyless WRITE or INVALIDATE is counted in SYS_WRIGN. Its end
with every answer, and no `log` waiting for the bus, clears BUSY and shows RESULT 0: of a READ with the bytes read, of a
WRITE with its bytes in the EEPROM, of an INVALIDATE with 32 zero bytes in it, and of a VERIFY with the check's code in
SYS_NVP_VRES (RESULT 6 unless the code is 1). A transfer that may start sets NVBUSY; a lost arbitration, a stretch time-
out and a poll time-out end it, with ARBLOST and NVEXT, STRETCHTO and source 202 kind 4, or source 202 kind 3; a poll
keeps polling until acknowledged. Rests on R49, R150, R151, R152, R153, R154, R434, R435, R436, R437, R440, R441. -/
def Obligations.NvmProxyAndBus : Prop :=
  ∀ s : State,
    (∀ (key : Byte) op c, (op, c) ∈ [(1, Instr.nvpRead key), (2, .nvpWrite key), (3, .nvpVerify key), (4,
      .nvpInvalidate key)] →
      s.dev.flag SYS_NVP_STAT_BUSY = false →
      ((op = 2 ∨ op = 4 → key = 0x5A) →
        s.dev.nvpRefusal op (s.dev.fld SYS_NVP_ADDR_ADDR) (s.dev.fld SYS_NVP_LEN_LEN) (s.dev.fld SYS_NVP_BUF_BUF) = 0 →
        Completes c s fun t => t.reg SYS_NVP_STAT = 1 ∧ t.boot.nvpOp = op ∧ t.boot.nvpAddr = s.dev.fld SYS_NVP_ADDR_ADDR ∧
          t.boot.nvpLen = s.dev.fld SYS_NVP_LEN_LEN ∧ t.boot.nvpBuf = s.dev.fld SYS_NVP_BUF_BUF ∧
          s.dev.leaves t [SYS_NVP_STAT]) ∧
      ((op = 2 ∨ op = 4) → key ≠ 0x5A → Completes c s fun t =>
        t.fld SYS_WRIGN_COUNT = min (s.dev.fld SYS_WRIGN_COUNT + 1) (2 ^ SYS_WRIGN_COUNT.width - 1) ∧
        s.dev.leaves t [SYS_WRIGN])) ∧
    (∀ bytes, s.dev.flag SYS_NVP_STAT_BUSY = true → s.dev.con.logWait = none → s.dev.boot.nvpDone = 0 →
      s.dev.twb.nvOp ≠ 4 → s.dev.nvmBarred = false →
      (s.dev.boot.nvpOp = 1 → Completes (.nvpDone 0 bytes) s fun t =>
        t.reg SYS_NVP_STAT = pack [(s.dev.boot.nvpLen, 11), (0, 4)] ∧ t.boot.nvpOp = 0) ∧
      (s.dev.boot.nvpOp = 2 → Completes (.nvpDone 0 bytes) s fun t =>
        t.reg SYS_NVP_STAT = pack [(s.dev.boot.nvpData.length, 11), (0, 4)] ∧
        t.nvm = (s.dev.nvmWrite s.dev.boot.nvpAddr s.dev.boot.nvpData).nvm ∧ t.boot.nvpOp = 0) ∧
      (s.dev.boot.nvpOp = 3 → Completes (.nvpDone 0 bytes) s fun t =>
        t.fld SYS_NVP_VRES_CODE = (s.dev.verifySlot s.dev.boot.nvpAddr).code % 16 ∧
        t.reg SYS_NVP_STAT = pack [(0, 11), (if (s.dev.verifySlot s.dev.boot.nvpAddr).code = 1 then 0 else 6, 4)] ∧
        t.nvm = s.dev.nvm ∧ t.boot.nvpOp = 0) ∧
      (s.dev.boot.nvpOp = 4 → Completes (.nvpDone 0 bytes) s fun t =>
        t.reg SYS_NVP_STAT = pack [(32, 11), (0, 4)] ∧
        t.nvm = (s.dev.nvmWrite s.dev.boot.nvpAddr (List.replicate 32 0)).nvm ∧ t.boot.nvpOp = 0)) ∧
    (∀ what, s.dev.nvmMay what.toNat = true → Completes (.nvmTransferStart what) s fun t => t.twb.nvOp = what.toNat ∧
      t.flag TWB_STAT_NVBUSY = true ∧ t.flag TWB_STAT_NVEXT = false ∧ t.twb.nvwpOwn = s.dev.nvmWrites what.toNat ∧
      s.dev.leaves t [TWB_STAT]) ∧
    (∀ received, s.dev.twb.nvOp ≠ 0 →
      Completes (.arbitrationLost received false) s (fun t => t.twb.nvOp = 0 ∧ t.flag TWB_STAT_NVBUSY = false ∧
        t.flag TWB_STAT_NVEXT = true ∧ t.twb.resumeAt = (if s.dev.twb.nvOp ≤ 3 then received.toNat else 0) ∧
        t.fld TWB_NVCNT_ARBLOST = min (s.dev.fld TWB_NVCNT_ARBLOST + 1) (2 ^ TWB_NVCNT_ARBLOST.width - 1) ∧
        s.dev.leaves t [TWB_STAT, TWB_NVCNT]) ∧
      Completes (.nvmStretchTimeout received) s (fun t => t.twb.nvOp = 0 ∧ t.flag TWB_STAT_NVBUSY = false ∧
        t.twb.resumeAt = (if s.dev.twb.nvOp ≤ 3 then received.toNat else 0) ∧
        t.fld TWB_NVCNT_STRETCHTO = min (s.dev.fld TWB_NVCNT_STRETCHTO + 1) (2 ^ TWB_NVCNT_STRETCHTO.width - 1) ∧
        s.dev.rang t 202 4 (t.reg TWB_NVCNT) ∧ s.dev.leavesRing t [TWB_STAT, TWB_NVCNT])) ∧
    (∀ acked address, s.dev.twb.nvOp ≠ 0 → (acked = true → address = false → s.dev.nvmWrites s.dev.twb.nvOp = false) →
      Completes (.nvmPoll acked address) s fun t => t.twb.polling = !acked ∧ t.flag TWB_STAT_NVBUSY = (acked && address) ∧
      t.fld TWB_NVCNT_NACK = (if address = true ∧ acked = false then
        min (s.dev.fld TWB_NVCNT_NACK + 1) (2 ^ TWB_NVCNT_NACK.width - 1) else s.dev.fld TWB_NVCNT_NACK) ∧
      s.dev.leaves t [TWB_STAT, TWB_NVCNT]) ∧
    (s.dev.nvmWrites s.dev.twb.nvOp = true → Completes .nvmPollTimeout s fun t => t.twb.nvOp = 0 ∧
      t.twb.polling = false ∧ t.flag TWB_STAT_NVBUSY = false ∧
      s.dev.rang t 202 3 (t.reg TWB_NVCNT) ∧ s.dev.leavesRing t [TWB_STAT])

/-- For every state and key: a WRITE or INVALIDATE whose key is not 0x5A, and every one of the four commands while BUSY is 1,
adds one to SYS_WRIGN up to its limit and changes nothing else: no register, no byte of the EEPROM, and not the command
that runs. Formalises R153. -/
def Obligations.ProxyCommandsIgnored : Prop :=
  ∀ (s : State) (key : Byte) (c : Instr),
    (c = .nvpWrite key ∨ c = .nvpInvalidate key) ∧ key ≠ 0x5A ∨
      (c = .nvpRead key ∨ c = .nvpWrite key ∨ c = .nvpVerify key ∨ c = .nvpInvalidate key) ∧
        s.dev.flag SYS_NVP_STAT_BUSY = true →
    Completes c s fun t =>
      t.fld SYS_WRIGN_COUNT = min (s.dev.fld SYS_WRIGN_COUNT + 1) (2 ^ SYS_WRIGN_COUNT.width - 1) ∧
      t.boot = s.dev.boot ∧ s.dev.leaves t [SYS_WRIGN]

/-- For every state in which the tile is awake, every requester and every written word: a write of an ordinary register
changes its RW bits to those written, clears its W1C bits where the written word has a 1, keeps every other bit, and
changes nothing else; a write of a reserved address below 0x2000, or of a register of RO fields alone, is ignored and
counted in SYS_WRIGN. A read through the two-wire target or USB clears the RC fields of the register read, and one through
the console or the remote window clears nothing; it changes no other register. Rests on R11, R13, R14, R15, R16, R17. -/
def Obligations.RegisterWritesAndClearingReads : Prop :=
  ∀ (s : State) (rq : Requester), s.dev.asleep = false → s.dev.modes.waking = false →
    (∀ (value : Word) (addr : BitVec 16), addr.toNat ∈ [SYS_NVP_ADDR, SYS_NVP_LEN, SYS_NVP_BUF, SYS_SUPPLY, TIME_SET_SECH,
        TIME_SET_SECL, TIME_SET_FRAC, TIME_SET_OFS, EVR_SSEL, EVR_HDOOR_W1, EVR_HDOOR_W2, LAMP_CMDA, LAMP_CMDB] →
      Completes (.registerWrite rq addr value) s fun t =>
        t.reg addr.toNat = (s.dev.reg addr.toNat &&& ~~~ rwMask addr.toNat &&& ~~~ (w1cMask addr.toNat &&& value)) |||
          (value &&& rwMask addr.toNat) ∧
        s.dev.leaves t [addr.toNat]) ∧
    (∀ (value : Word) (addr : BitVec 16), addr.toNat < 0x2000 → regDefined addr.toNat = false ∨ regReadOnly addr.toNat = true →
      Completes (.registerWrite rq addr value) s fun t =>
        t.fld SYS_WRIGN_COUNT = min (s.dev.fld SYS_WRIGN_COUNT + 1) (2 ^ SYS_WRIGN_COUNT.width - 1) ∧
        s.dev.leaves t [SYS_WRIGN]) ∧
    (∀ addr : BitVec 16, addr.toNat < 0x2000 → regDefined addr.toNat = true → addr.toNat ≠ TIME_FRAC → addr.toNat ≠ ITX_PDATA →
      Completes (.rcFieldRead rq addr) s fun t =>
        t.reg addr.toNat = (if clearsRc rq then s.dev.reg addr.toNat &&& ~~~ rcMask addr.toNat else s.dev.reg addr.toNat) ∧
        s.dev.leaves t [addr.toNat])

/-- For every state in which the tile is not asleep, every requester and every word address outside the defined registers and
the windows (below 0x2000 and not in the directory; 0x9000 and above; and 0x2000 to 0x3FFF on a tile that is no manager,
which has no remote window): a read returns 0x000000 and changes nothing, and a write adds one to SYS_WRIGN up to its
limit and changes nothing else. Formalises R15. -/
def Obligations.ReservedAddresses : Prop :=
  ∀ (s : State) (rq : Requester) (addr : BitVec 16) (value : Word), s.dev.asleep = false →
    (addr.toNat < 0x2000 ∧ regDefined addr.toNat = false ∨ 0x9000 ≤ addr.toNat ∨
      0x2000 ≤ addr.toNat ∧ addr.toNat < 0x4000 ∧ s.dev.isManager = false) →
    s.dev.readHost rq addr.toNat = (0, s.dev) ∧
    (Completes (.rcFieldRead rq addr) s fun t => t = s.dev) ∧
    Completes (.registerWrite rq addr value) s fun t =>
      t.fld SYS_WRIGN_COUNT = min (s.dev.fld SYS_WRIGN_COUNT + 1) (2 ^ SYS_WRIGN_COUNT.width - 1) ∧
      s.dev.leaves t [SYS_WRIGN]

/-- For every state in which the target answers. Two pointer bytes set the pointer and keep the old one. A word written with
PEC off is written at the pointer as a register write, and the pointer advances within its 32-word page; with PEC on it is
held. A word read advances the pointer linearly and clears the register's RC fields. A partial word or pointer is counted.
At the STOP of a write with PEC, a wrong PEC byte performs no held word, returns the pointer, counts and raises source
201; a right one performs the held words in order. A won alert response releases ALERT#, a lost one is counted. An SMBus
time-out discards held words, returns the pointer, counts and raises source 200. A remote word that is late counts, with a
stretch of 1 ms noted. (In every state:) a keyed write of TWB_NVCTL sets HOLD and WPOPEN, their expiry clears both and
raises source 203, a stuck SDA counts and raises source 202 kind 1 once, a stuck SCL raises kind 2 once, and a stretch of
the wake is noted. Rests on R179, R420, R421, R422, R423, R424, R426, R428, R432, R433, R440, R441. -/
def Obligations.TwoWireTargetAndSharedBus : Prop :=
  ∀ s : State,
    (s.dev.targetAnswers = true →
      (∀ ptr : BitVec 16, Completes (.twbPointer ptr) s fun t => t.twb.ptr = ptr.toNat ∧ t.twb.ptrBefore = s.dev.twb.ptr ∧
        t.twb.held = [] ∧ s.dev.leaves t []) ∧
      (∀ value, s.dev.pecOn = true → Completes (.twbWordWrite value) s fun t => t.twb.held = s.dev.twb.held ++ [value] ∧
        t.twb.ptr = s.dev.twb.ptr ∧ s.dev.leaves t []) ∧
      (∀ value, s.dev.pecOn = false → s.dev.modes.waking = false → s.dev.twb.ptr ∈ [TIME_SET_SECH, EVR_SSEL, LAMP_CMDA] →
        Completes (.twbWordWrite value) s fun t => t.twb.ptr = s.dev.twb.ptr / 32 * 32 + (s.dev.twb.ptr + 1) % 32 ∧
          t.reg s.dev.twb.ptr = (s.dev.reg s.dev.twb.ptr &&& ~~~ rwMask s.dev.twb.ptr) ||| (value &&& rwMask s.dev.twb.ptr) ∧
          s.dev.leaves t [s.dev.twb.ptr]) ∧
      (∀ first, s.dev.modes.waking = false → s.dev.twb.ptr ∈ [SYS_WRIGN, SVC_ERR, TWB_CNT] →
        Completes (.twbWordRead first) s fun t =>
        t.twb.ptr = s.dev.twb.ptr + 1 ∧ t.reg s.dev.twb.ptr = 0 ∧ s.dev.leaves t [s.dev.twb.ptr]) ∧
      (∀ count : BitVec 2, count = 1 ∨ count = 2 → Completes (.twbPartial count) s fun t =>
        t.fld TWB_CNT_PARTIAL = min (s.dev.fld TWB_CNT_PARTIAL + 1) (2 ^ TWB_CNT_PARTIAL.width - 1) ∧
        s.dev.leaves t [TWB_CNT]) ∧
      (∀ before tail pec, s.dev.pecOn = true → (tail ≠ [] ∨ crc8 (s.dev.pecBytes before tail) ≠ pec) →
        Completes (.twbPecWrite before tail pec) s fun t => t.twb.held = [] ∧ t.twb.ptr = s.dev.twb.ptrBefore % 65536 ∧
          t.fld TWB_CNT_PECERR = min (s.dev.fld TWB_CNT_PECERR + 1) (2 ^ TWB_CNT_PECERR.width - 1) ∧
          s.dev.rang t 201 (word s.dev.twb.ptr) (word (3 * s.dev.twb.held.length + tail.length + 1)) ∧
          s.dev.leavesRing t [TWB_CNT]) ∧
      (∀ before pec, s.dev.pecOn = true → crc8 (s.dev.pecBytes before []) = pec →
        Completes (.twbPecWrite before [] pec) s fun t =>
          t = s.dev.twb.held.foldl Dev.writeAtPtr (s.dev.setTwb { s.dev.twb with held := [] })) ∧
      (∀ others, s.dev.flag TWB_STAT_ALERT = true →
        (araLost s.dev.araBytes others = false → Completes (.alertResponse others) s fun t =>
          t.flag TWB_STAT_ALERT = false ∧ s.dev.leaves t [TWB_STAT]) ∧
        (araLost s.dev.araBytes others = true → Completes (.alertResponse others) s fun t =>
          t.fld TWB_CNT2_ARALOST = min (s.dev.fld TWB_CNT2_ARALOST + 1) (2 ^ TWB_CNT2_ARALOST.width - 1) ∧
          s.dev.leaves t [TWB_CNT2])) ∧
      Completes (.smbusTimeout true) s (fun t => t.twb.held = [] ∧ t.twb.ptr = s.dev.twb.ptrBefore ∧
        t.fld TWB_CNT_TIMEOUT = min (s.dev.fld TWB_CNT_TIMEOUT + 1) (2 ^ TWB_CNT_TIMEOUT.width - 1) ∧
        s.dev.rang t 200 (word s.dev.twb.ptr) (t.reg TWB_CNT) ∧ s.dev.leavesRing t [TWB_CNT]) ∧
      (s.dev.inWindow s.dev.twb.ptr = true → Completes .remoteLate s fun t => t.twb.ptr = (s.dev.twb.ptr + 1) % 65536 ∧
        t.fld TWB_CNT2_REMOTE_LATE = min (s.dev.fld TWB_CNT2_REMOTE_LATE + 1) (2 ^ TWB_CNT2_REMOTE_LATE.width - 1) ∧
        t.fld TWB_STRETCH_MAX = max (s.dev.fld TWB_STRETCH_MAX) 1000 ∧ s.dev.leaves t [TWB_CNT2, TWB_STRETCH])) ∧
    (∀ value, wGet value 16 8 = 0x5A → Completes (.nvctlWrite value) s fun t => t.reg TWB_NVCTL = value &&& 3#24 ∧
      (wGet value 0 2 ≠ 0 → t.twb.holdTick = s.dev.ticks) ∧ s.dev.leaves t [TWB_NVCTL]) ∧
    (wGet (s.dev.reg TWB_NVCTL) 0 2 ≠ 0 → Completes .nvholdExpiry s fun t => t.reg TWB_NVCTL = 0 ∧
      s.dev.rang t 203 (s.dev.reg TWB_NVCTL) 0 ∧ s.dev.leavesRing t [TWB_NVCTL]) ∧
    (∀ released, s.dev.twb.sdaStuck = false → Completes (.sdaRecovery released) s fun t => t.twb.sdaStuck = !released ∧
      t.fld TWB_NVCNT2_RECOVER = min (s.dev.fld TWB_NVCNT2_RECOVER + 1) (2 ^ TWB_NVCNT2_RECOVER.width - 1) ∧
      s.dev.rang t 202 1 (s.dev.reg TWB_NVCNT) ∧ s.dev.leavesRing t [TWB_NVCNT2]) ∧
    (s.dev.twb.sclStuck = false → Completes .sclStuck s fun t => t.twb.sclStuck = true ∧
      s.dev.rang t 202 2 (s.dev.reg TWB_NVCNT) ∧ s.dev.leavesRing t []) ∧
    (s.dev.modes.waking = true → Completes .wakeAddressStretchTimeout s fun t =>
      t.fld TWB_STRETCH_MAX = max (s.dev.fld TWB_STRETCH_MAX) 2000 ∧ s.dev.leaves t [TWB_STRETCH])

/-- For every state and every doorbell of a source other than 0. Before start-up step 5 it waits, with its payload, behind
those that wait. From step 5 on, a host-group source with a priority and a route, on a tile that is no worker and repairs
neither ring bank: for each consumer it is routed to, that is open and whose rule of admission it meets, one record with
the source, its configured priority, the epoch and the payload (the LOSS bit added to a frame-end record when one was
refused) is pending behind the others. A core-group source with a priority goes to the store while that has room. On a
worker a record of a source that tracking does not own goes out as FORWARD while the frame's allowance lasts, and the
rings stay empty of it. Rests on R305, R306, R332, R337, R339, R344, R358, R360, R374, R565. -/
def Obligations.DoorbellsWaitAndAreAdmitted : Prop :=
  ∀ (s : State) (src : BitVec 9) (w1 w2 : Word), src.toNat ≠ 0 →
    (s.dev.pwr.step < 5 → Completes (.doorbell src w1 w2) s fun t =>
      (∃ e : Deferred, t.evr.deferred = s.dev.evr.deferred ++ [e] ∧ e.src = src.toNat ∧ e.w1 = w1 ∧ e.w2 = w2 ∧
        e.epoch = s.dev.time.epoch ∧ (s.dev.time.fast = false → (e.sec, e.frac) = s.dev.time.now)) ∧ s.dev.leaves t []) ∧
    (5 ≤ s.dev.pwr.step → coreSource src.toNat = false → s.dev.isWorker = false → s.dev.ringsTaken = false →
      cfgPri (s.dev.srcCfg src.toNat) ≠ 0 →
      ∀ p : HostPort, cfgRoute p (s.dev.srcCfg src.toNat) = true → s.dev.portOpen p = true →
        s.dev.admits p (cfgPri (s.dev.srcCfg src.toNat)) 1 = true →
        Completes (.doorbell src w1 w2) s fun t => ∃ r : Pend, (t.hostQ p).pend = (s.dev.hostQ p).pend ++ [r] ∧
          r.src = src.toNat ∧ r.pri = cfgPri (s.dev.srcCfg src.toNat) ∧ r.epoch = s.dev.time.epoch ∧ r.w1 = w1 ∧
          r.w2 = (if src.toNat = 19 ∧ (s.dev.hostQ p).loss = true then w2 ||| 4#24 else w2) ∧ r.pairB = none ∧
          t.fld EVR_CNT_DOORS = min (s.dev.fld EVR_CNT_DOORS + 1) (2 ^ EVR_CNT_DOORS.width - 1)) ∧
    (5 ≤ s.dev.pwr.step → coreSource src.toNat = true → cfgPri (s.dev.srcCfg src.toNat) ≠ 0 →
      s.dev.evr.store.length < 256 → Completes (.doorbell src w1 w2) s fun t => ∃ r : Pend,
        t.evr.store = s.dev.evr.store ++ [r] ∧ r.src = src.toNat ∧ r.w1 = w1 ∧ r.w2 = w2) ∧
    (5 ≤ s.dev.pwr.step → coreSource src.toNat = false → s.dev.isWorker = true → reportSource src.toNat = false →
      cfgPri (s.dev.srcCfg src.toNat) ≠ 0 → cfgH0 (s.dev.srcCfg src.toNat) = true →
      s.dev.surf.fwdSent < s.dev.par secSurface 0x05 → Completes (.doorbell src w1 w2) s fun t => ∃ w0 w3 : Word,
        t.outbox = s.dev.outbox ++ [⟨msgForward, 0, [w0, w1, w2, w3]⟩] ∧ t.surf.fwdSent = s.dev.surf.fwdSent + 1 ∧
        t.evr.h0 = s.dev.evr.h0 ∧ t.evr.h1 = s.dev.evr.h1)

/-- For every state: HOST_DOORBELL with a value from 256 to 319 rings that source with the words that EVR_HDOOR_W1 and
EVR_HDOOR_W2 hold; with any other value, and for a doorbell of source 0, nothing changes but EVR_CNT.BADDOOR, which counts
it. Formalises R334. -/
def Obligations.HostDoorbellRings : Prop :=
  ∀ s : State,
    (∀ value : Word, 256 ≤ wGet value 0 9 → wGet value 0 9 ≤ 319 → Completes (.hostDoorbell value) s fun t =>
      t = s.dev.ring (wGet value 0 9) (s.dev.reg EVR_HDOOR_W1) (s.dev.reg EVR_HDOOR_W2)) ∧
    (∀ value : Word, wGet value 0 9 < 256 ∨ 319 < wGet value 0 9 → Completes (.hostDoorbell value) s fun t =>
      t.fld EVR_CNT_BADDOOR = min (s.dev.fld EVR_CNT_BADDOOR + 1) (2 ^ EVR_CNT_BADDOOR.width - 1) ∧
      t.fld EVR_CNT_DOORS = s.dev.fld EVR_CNT_DOORS ∧ t.evr = s.dev.evr ∧ s.dev.leaves t [EVR_CNT]) ∧
    (∀ w1 w2 : Word, Completes (.doorbell 0 w1 w2) s fun t =>
      t.fld EVR_CNT_BADDOOR = min (s.dev.fld EVR_CNT_BADDOOR + 1) (2 ^ EVR_CNT_BADDOOR.width - 1) ∧
      t.fld EVR_CNT_DOORS = s.dev.fld EVR_CNT_DOORS ∧ t.evr = s.dev.evr ∧ s.dev.leaves t [EVR_CNT])

/-- For every state from start-up step 5 on and every source but 0: when the source's configured priority is 0, or it is a
host-group source routed to neither ring, a doorbell of it leaves both rings' pending records, the core-group store, the
doorbell count, the refusals, the messages to other tiles and everything a record may wake as they were. Formalises R338. -/
def Obligations.DoorbellWithoutPriorityOrRoute : Prop :=
  ∀ (s : State) (src : BitVec 9) (w1 w2 : Word), src.toNat ≠ 0 → 5 ≤ s.dev.pwr.step →
    (cfgPri (s.dev.srcCfg src.toNat) = 0 ∨ coreSource src.toNat = false ∧
      cfgH0 (s.dev.srcCfg src.toNat) = false ∧ cfgH1 (s.dev.srcCfg src.toNat) = false) →
    Completes (.doorbell src w1 w2) s fun t =>
      t.evr = s.dev.evr ∧ t.outbox = s.dev.outbox ∧ t.modes = s.dev.modes ∧ t.usb = s.dev.usb ∧
      s.dev.leaves t [CAL_LOGQ]

/-- For every state and each host consumer: after a STACKRST of 1 the stack is empty, no source is active on it, it is not
frozen, its pending records are as they were, and EVR_Hn_FAULT, with every other register, keeps its value; the other
consumer's state is as it was. Formalises R353. -/
def Obligations.StackResetEmptiesStack : Prop :=
  ∀ (s : State) (p : HostPort), Completes (.stackrst p 1) s fun t =>
    (t.hostQ p).stack = [] ∧ (∀ src, stackHas (t.hostQ p).stack src = false) ∧ (t.hostQ p).frozen = false ∧
    (t.hostQ p).pend = (s.dev.hostQ p).pend ∧ (∀ q, q ≠ p → t.hostQ q = s.dev.hostQ q) ∧
    t.reg (portFld p EVR_H0_FAULT_KIND).addr = s.dev.reg (portFld p EVR_H0_FAULT_KIND).addr ∧ s.dev.leaves t []

/-- For every state and each host consumer whose stack is not frozen: a TAKE of a priority 1 to 15 above the level pushes
source and priority; any other freezes the stack, counts in ORDERS and shows kind 3 in EVR_Hn_FAULT. A DONE of the top
entry's source pops it; one of another source freezes the stack with kind 1, one to an empty stack with kind 2. While the
stack is frozen TAKE and DONE are only counted in IGNORED. GDIS takes the written bit. A write of EVR_SCFG for a selected
source that neither is of the core group, nor reports contacts, nor is source 1 or 3, puts the written word in force but
for its reserved bits. A top entry that has stood for SVC_TO raises source 2 once with the consumer, the entry and SVC_TO,
and the end of a moderation interval lets the source go. No bank word, EEPROM byte or configuration word changes but for
the records of bank 8. Rests on R336, R337, R349, R350, R352, R354, R355, R356. -/
def Obligations.StacksTakeAndComplete : Prop :=
  ∀ (s : State) (p : HostPort),
    ((s.dev.hostQ p).frozen = false →
      (∀ w0 : Word, 1 ≤ wGet w0 11 4 → stackLevel (s.dev.hostQ p).stack < wGet w0 11 4 → Completes (.take p w0) s fun t =>
        (t.hostQ p).stack = ⟨wGet w0 15 9, wGet w0 11 4, false⟩ :: (s.dev.hostQ p).stack ∧
        (t.hostQ p).pend = (s.dev.hostQ p).pend ∧ s.dev.leaves t []) ∧
      (∀ w0 : Word, ¬(1 ≤ wGet w0 11 4 ∧ stackLevel (s.dev.hostQ p).stack < wGet w0 11 4) →
        Completes (.take p w0) s fun t => ∃ x : Dev,
        x.hostQ p = { s.dev.hostQ p with frozen := true } ∧ x.reg (portFld p EVR_H0_FAULT_KIND).addr = pack [(3, 20),
          (wGet w0 11 4 % 16, 9), (wGet w0 15 9 % 512, 0)] ∧
        x.fld (portFld p EVR_H0_CNT_ORDERS) = min (s.dev.fld (portFld p EVR_H0_CNT_ORDERS) + 1) (2 ^ EVR_H0_CNT_ORDERS.width - 1) ∧
        s.dev.leaves x [(portFld p EVR_H0_FAULT_KIND).addr, (portFld p EVR_H0_CNT_ORDERS).addr] ∧
        t = (x.logEvent 3 (orderW1 (portCode p) 3 (wGet w0 11 4) (wGet w0 15 9)) (orderW2 (s.dev.hostQ p).stack)).raiseOrder p
          (orderW1 (portCode p) 3 (wGet w0 11 4) (wGet w0 15 9)) (orderW2 (s.dev.hostQ p).stack)) ∧
      (∀ (value : Word) e rest, (s.dev.hostQ p).stack = e :: rest → e.src = wGet value 0 9 →
        Completes (.done p value) s fun t =>
        (t.hostQ p).stack.map (fun x => (x.src, x.pri)) = rest.map (fun x => (x.src, x.pri)) ∧
        (t.hostQ p).pend = (s.dev.hostQ p).pend ∧ (t.hostQ p).frozen = false ∧ s.dev.leaves t []) ∧
      (∀ (value : Word) e rest, (s.dev.hostQ p).stack = e :: rest → e.src ≠ wGet value 0 9 →
        Completes (.done p value) s fun t => ∃ x : Dev,
        x.hostQ p = { s.dev.hostQ p with frozen := true } ∧ x.reg (portFld p EVR_H0_FAULT_KIND).addr = pack [(1, 20),
          (0 % 16, 9), (wGet value 0 9 % 512, 0)] ∧
        x.fld (portFld p EVR_H0_CNT_ORDERS) = min (s.dev.fld (portFld p EVR_H0_CNT_ORDERS) + 1) (2 ^ EVR_H0_CNT_ORDERS.width - 1) ∧
        s.dev.leaves x [(portFld p EVR_H0_FAULT_KIND).addr, (portFld p EVR_H0_CNT_ORDERS).addr] ∧
        t = (x.logEvent 3 (orderW1 (portCode p) 1 0 (wGet value 0 9)) (orderW2 (s.dev.hostQ p).stack)).raiseOrder p
          (orderW1 (portCode p) 1 0 (wGet value 0 9)) (orderW2 (s.dev.hostQ p).stack)) ∧
      (∀ value : Word, (s.dev.hostQ p).stack = [] → Completes (.done p value) s fun t => ∃ x : Dev,
        x.hostQ p = { s.dev.hostQ p with frozen := true } ∧ x.reg (portFld p EVR_H0_FAULT_KIND).addr = pack [(2, 20),
          (0 % 16, 9), (wGet value 0 9 % 512, 0)] ∧
        x.fld (portFld p EVR_H0_CNT_ORDERS) = min (s.dev.fld (portFld p EVR_H0_CNT_ORDERS) + 1) (2 ^ EVR_H0_CNT_ORDERS.width - 1) ∧
        s.dev.leaves x [(portFld p EVR_H0_FAULT_KIND).addr, (portFld p EVR_H0_CNT_ORDERS).addr] ∧
        t = (x.logEvent 3 (orderW1 (portCode p) 2 0 (wGet value 0 9)) (orderW2 (s.dev.hostQ p).stack)).raiseOrder p
          (orderW1 (portCode p) 2 0 (wGet value 0 9)) (orderW2 (s.dev.hostQ p).stack))) ∧
    ((s.dev.hostQ p).frozen = true → ∀ w : Word, ∀ c, c = Instr.take p w ∨ c = Instr.done p w → Completes c s fun t =>
      t.fld (portFld p EVR_H0_CNT_IGNORED) =
        min (s.dev.fld (portFld p EVR_H0_CNT_IGNORED) + 1) (2 ^ EVR_H0_CNT_IGNORED.width - 1) ∧
      t.evr = s.dev.evr ∧ s.dev.leaves t [(portFld p EVR_H0_CNT_IGNORED).addr]) ∧
    (∀ value : Word, Completes (.gdis p value) s fun t => t.fld (portFld p EVR_H0_GDIS_GDIS) = wGet value 0 1 ∧
      t.evr = s.dev.evr ∧ s.dev.leaves t [(portFld p EVR_H0_GDIS_GDIS).addr]) ∧
    (∀ value : Word, coreSource (s.dev.fld EVR_SSEL_SRC) = false → reportSource (s.dev.fld EVR_SSEL_SRC) = false →
      s.dev.fld EVR_SSEL_SRC ≠ 1 → s.dev.fld EVR_SSEL_SRC ≠ 3 → Completes (.sourceConfigWrite value) s fun t =>
        t.srcCfg (s.dev.fld EVR_SSEL_SRC) = value &&& 0x03EFFF#24 ∧
        (t.hostQ p).pend = (s.dev.hostQ p).pend ∧ s.dev.leaves t []) ∧
    (∀ e rest, (s.dev.hostQ p).stack = e :: rest → e.reported = false → s.dev.par secEvents 0x02 ≠ 0 →
      Completes (.evrServiceTimeout p) s fun t => ∃ x : Dev,
        (x.hostQ p).stack = { e with reported := true } :: rest ∧ (x.hostQ p).pend = (s.dev.hostQ p).pend ∧
        x.regs = s.dev.regs ∧ t = x.ring 2 (pack [(portCode p, 21), (e.pri, 9), (e.src,
          0)]) (word (s.dev.par secEvents 0x02))) ∧
    (∀ src : BitVec 9, Completes (.moderationExpiry p src) s fun t => (t.hostQ p).moderated.contains src.toNat = false ∧
      (t.hostQ p).pend = (s.dev.hostQ p).pend ∧ s.dev.leaves t [])

/-- For every state. RECORD_DELIVERY, with the ring banks not under repair and a next eligible record that is no pair and no
forward, takes it out of the pending records, writes its four words into the slot at WR (W0 with source, priority, epoch
and sequence number) and advances WR by one modulo 2048. A write of RD within the occupancy, with no overflow episode and
no OVERFLOW record waiting, sets RD and keeps the pending records; one beyond the occupancy changes nothing but BADPTR,
which counts it. CORE_DELIVERY moves the next record of the core-group store to the inbox of the core chosen, which wakes,
and CORE shows it as the last. A CORE_TAKE above the level pushes source and priority on the core's stack, a CORE_DONE of
the top entry pops it, and neither does anything while the stack is frozen. Rests on R340, R347, R358, R359, R361, R365,
R366. -/
def Obligations.RecordsAreDelivered : Prop :=
  ∀ s : State,
    (∀ p i r, s.dev.ringsTaken = false → s.dev.nextIdx p = some i → (s.dev.hostQ p).pend[i]? = some r →
      r.pairB = none → r.orig = none → Completes (.recordDelivery p) s fun t =>
        (t.hostQ p).pend = (s.dev.hostQ p).pend.eraseIdx i ∧ (t.hostQ p).stack = (s.dev.hostQ p).stack ∧
        t.bank 8 (slotBase p (s.dev.ringWr p)) = recordW0 r.src r.pri r.epoch (s.dev.hostQ p).seq ∧
        t.bank 8 (slotBase p (s.dev.ringWr p) + 1) = r.w1 ∧ t.bank 8 (slotBase p (s.dev.ringWr p) + 2) = r.w2 ∧
        t.bank 8 (slotBase p (s.dev.ringWr p) + 3) = r.w3 ∧ t.ringWr p = (s.dev.ringWr p + 1) % 2048 ∧
        t.ringRd p = s.dev.ringRd p ∧ (t.hostQ p).seq = ((s.dev.hostQ p).seq + 1) % 32) ∧
    (∀ p (value : Word), (wGet value 0 11 + 2048 - s.dev.ringRd p) % 2048 ≤ s.dev.occupancy p →
      (s.dev.hostQ p).episode = none → (s.dev.hostQ p).ovSlot = none → Completes (.ringReadPointer p value) s fun t =>
        t.ringRd p = wGet value 0 11 ∧ t.evr = s.dev.evr ∧
        s.dev.leaves t [(portFld p EVR_H0_RD_RD).addr, TWB_STAT]) ∧
    (∀ p (value : Word), s.dev.occupancy p < (wGet value 0 11 + 2048 - s.dev.ringRd p) % 2048 →
      Completes (.ringReadPointer p value) s fun t => t.ringRd p = s.dev.ringRd p ∧ t.evr = s.dev.evr ∧
        t.fld (portFld p EVR_H0_CNT_BADPTR) =
          min (s.dev.fld (portFld p EVR_H0_CNT_BADPTR) + 1) (2 ^ EVR_H0_CNT_BADPTR.width - 1) ∧
        s.dev.leaves t [(portFld p EVR_H0_CNT_BADPTR).addr]) ∧
    (∀ i r n, s.dev.coreNext = some i → s.dev.evr.store[i]? = some r → s.dev.coreFor r.pri = some n → n < 4 →
      Completes .coreDelivery s fun t => t.evr.store = s.dev.evr.store.eraseIdx i ∧
        (n < s.dev.evr.cores.length → (t.core n).inbox = (s.dev.core n).inbox ++ [r] ∧ (t.core n).asleep = false) ∧
        (∀ m, m ≠ n → t.core m = s.dev.core m) ∧ t.fld EVR_CORE_LAST = n ∧
        s.dev.leaves t [EVR_CORE, (EVR_C_STAT_DELIV n).addr]) ∧
    (∀ (core : BitVec 2) (src : BitVec 9) (pri : BitVec 4), core.toNat < s.dev.evr.cores.length →
      (s.dev.core core.toNat).frozen = false → 1 ≤ pri.toNat → stackLevel (s.dev.core core.toNat).stack < pri.toNat →
      Completes (.coreTake core src pri) s fun t =>
        (t.core core.toNat).stack = ⟨src.toNat, pri.toNat, false⟩ :: (s.dev.core core.toNat).stack ∧
        (∀ m, m ≠ core.toNat → t.core m = s.dev.core m) ∧ s.dev.leaves t []) ∧
    (∀ (core : BitVec 2) (src : BitVec 9) e rest, core.toNat < s.dev.evr.cores.length →
      (s.dev.core core.toNat).frozen = false → (s.dev.core core.toNat).stack = e :: rest → e.src = src.toNat →
      Completes (.coreDone core src) s fun t => (t.core core.toNat).stack = rest ∧
        (∀ m, m ≠ core.toNat → t.core m = s.dev.core m) ∧ s.dev.leaves t []) ∧
    (∀ (core : BitVec 2) (src : BitVec 9) (pri : BitVec 4) c, (s.dev.core core.toNat).frozen = true →
      (c = Instr.coreTake core src pri ∨ c = Instr.coreDone core src) → Completes c s fun t => t = s.dev)

/-- For every state and each host ring: WR and RD are below 2,048, the slot of a pointer is its low 10 bits, and the occupancy
is (WR − RD) mod 2,048. A write of RD whose (new − old) mod 2,048 is within the occupancy sets RD to the new value and
counts no BADPTR; any other leaves RD and the router as they are and adds one to BADPTR up to its limit, and changes
nothing else. Formalises R342. -/
def Obligations.ReadPointerReleases : Prop :=
  ∀ (s : State) (p : HostPort),
    s.dev.ringWr p < 2048 ∧ s.dev.ringRd p < 2048 ∧
    s.dev.occupancy p = (s.dev.ringWr p + 2048 - s.dev.ringRd p) % 2048 ∧
    (∀ ptr, slotBase p ptr = slotBase p 0 + 4 * (ptr % 1024)) ∧
    ∀ value : Word,
      ((wGet value 0 11 + 2048 - s.dev.ringRd p) % 2048 ≤ s.dev.occupancy p → Completes (.ringReadPointer p value) s fun t =>
        t.ringRd p = wGet value 0 11 ∧
        t.fld (portFld p EVR_H0_CNT_BADPTR) = s.dev.fld (portFld p EVR_H0_CNT_BADPTR)) ∧
      (s.dev.occupancy p < (wGet value 0 11 + 2048 - s.dev.ringRd p) % 2048 → Completes (.ringReadPointer p value) s fun t =>
        t.ringRd p = s.dev.ringRd p ∧ t.evr = s.dev.evr ∧
        t.fld (portFld p EVR_H0_CNT_BADPTR) =
          min (s.dev.fld (portFld p EVR_H0_CNT_BADPTR) + 1) (2 ^ EVR_H0_CNT_BADPTR.width - 1) ∧
        s.dev.leaves t [(portFld p EVR_H0_CNT_BADPTR).addr])

/-- For every state; where the alarm is said not to be armed, its judgement adds nothing. A tick boundary with no slew,
load or step pending, and no console line that waits, adds 512 units of 2^-24 s to the counted value, seconds and
fraction wrapping; one at which a slew of more than one unit is due adds 513 or 511 and brings SLEWREM a unit nearer 0;
one at which a one-unit slew ends rings source 211 with its total. A snapshot is taken for its requester alone. LOAD
fills the load buffer and sets LOADPEND; at the boundary the counted value becomes the buffered one, the epoch advances
and source 208 is rung. SLEW within 67,108 units waits for the boundary and then fills SLEWREM; one outside is counted
as refused. A worker's step adds its offset and takes the manager's epoch. A beacon gap clears LOCKED and rings source
210. Rests on R381, R384, R385, R388, R389, R391, R392, R395, R396, R398, R404. -/
def Obligations.TimeBaseCountsAndSteps : Prop :=
  ∀ s : State,
    (∀ rq, Completes (.timeSnapshot rq) s fun t =>
      t.snapshot rq = ⟨word t.time.now.2, word t.time.now.1, word (t.time.now.1 / 16777216), word s.dev.time.epoch,
        word s.dev.time.frame⟩ ∧ (∀ q, q ≠ rq → t.snapshot q = s.dev.snapshot q) ∧ t.time.sec = s.dev.time.sec ∧
      t.time.frac = s.dev.time.frac ∧ s.dev.leaves t []) ∧
    (s.dev.isWorker = false → Completes .timeLoad s fun t =>
      t.time.load = some (s.dev.fld TIME_SET_SECH_S * 16777216 + s.dev.fld TIME_SET_SECL_S, s.dev.fld TIME_SET_FRAC_F * 512) ∧
      t.time.epoch = s.dev.time.epoch ∧ t.flag TIME_STAT_LOADPEND = true ∧ s.dev.leaves t [TIME_STAT]) ∧
    (s.dev.isWorker = false → ∀ off, wInt (s.dev.reg TIME_SET_OFS) = off → -67108 ≤ off → off ≤ 67108 →
      Completes .timeSlew s fun t => t.time.slewNext = some off ∧ s.dev.leaves t []) ∧
    (s.dev.isWorker = false → ∀ off, wInt (s.dev.reg TIME_SET_OFS) = off → (off < -67108 ∨ 67108 < off) →
      Completes .timeSlew s fun t => t.time = s.dev.time ∧
        t.fld TIME_CNT_REFUSED = min (s.dev.fld TIME_CNT_REFUSED + 1) (2 ^ TIME_CNT_REFUSED.width - 1) ∧
        s.dev.leaves t [TIME_CNT]) ∧
    (s.dev.flag TIME_ALM_CTRL_ARM = false →
      (s.dev.time.load = none → s.dev.time.stepNext = none → s.dev.time.slewNext = none →
        (s.dev.slewRem = 0 → s.dev.con.waits = [] → Completes .tickBoundary s fun t =>
          t.time.sec = (s.dev.time.units + 512) / 16777216 % 281474976710656 ∧
          t.time.frac = (s.dev.time.units + 512) % 16777216 ∧ t.time.epoch = s.dev.time.epoch ∧
          t.ticks = s.dev.ticks + 1 ∧ t.flag TIME_STAT_FASTINT = s.dev.flag SYS_CLK_FOSC_ON ∧ t.evr = s.dev.evr ∧
          s.dev.leaves t [TIME_STAT]) ∧
        (s.dev.adjustDue = true →
          (1 < s.dev.slewRem → Completes .slewAdjust s fun t =>
            t.time.sec = (s.dev.time.units + 513) / 16777216 % 281474976710656 ∧
            t.time.frac = (s.dev.time.units + 513) % 16777216 ∧ t.time.slewCount = 0 ∧
            t.reg TIME_SLEWREM = wordI (s.dev.slewRem - 1) ∧ s.dev.leaves t [TIME_STAT, TIME_SLEWREM]) ∧
          (s.dev.slewRem < -1 → Completes .slewAdjust s fun t =>
            t.time.sec = (s.dev.time.units + 511) / 16777216 % 281474976710656 ∧
            t.time.frac = (s.dev.time.units + 511) % 16777216 ∧ t.time.slewCount = 0 ∧
            t.reg TIME_SLEWREM = wordI (s.dev.slewRem + 1) ∧ s.dev.leaves t [TIME_STAT, TIME_SLEWREM]) ∧
          (s.dev.slewRem = 1 ∨ s.dev.slewRem = -1 → Completes .slewAdjust s fun t =>
            t.reg TIME_SLEWREM = 0 ∧ t.flag TIME_STAT_SLEWING = false ∧
            (∃ x : Dev, s.dev.rang x 211 0 (wordI s.dev.time.slewTotal) ∧ t.evr = x.evr) ∧
            s.dev.leavesRing t [TIME_STAT, TIME_SLEWREM]))) ∧
      (s.dev.time.load = none → s.dev.time.stepNext = none → s.dev.slewRem = 0 → ∀ off, s.dev.time.slewNext = some off →
        Completes .timeSlewApply s fun t => t.reg TIME_SLEWREM = wordI off ∧ t.flag TIME_STAT_SLEWING = decide (off ≠ 0) ∧
          t.time.slewNext = none ∧ t.time.frac = (s.dev.time.units + 512) % 16777216 ∧
          s.dev.leaves t [TIME_STAT, TIME_SLEWREM]) ∧
      (∀ sec frac, s.dev.time.load = some (sec, frac) → frac < 16777216 → sec < 281474976710656 →
        Completes .timeLoadApply s fun t => t.time.sec = sec ∧ t.time.frac = frac ∧
          t.time.epoch = (s.dev.time.epoch + 1) % 64 ∧ t.time.load = none ∧ t.time.slewNext = none ∧
          t.reg TIME_SLEWREM = 0 ∧ t.flag TIME_STAT_LOADPEND = false ∧
          t.fld TIME_STEPCNT_STEPS = min (s.dev.fld TIME_STEPCNT_STEPS + 1) (2 ^ TIME_STEPCNT_STEPS.width - 1) ∧
          (∃ w1 w2 x, s.dev.rang x 208 w1 w2 ∧ t.evr = x.evr) ∧
          s.dev.leavesRing t [TIME_STAT, TIME_SLEWREM, TIME_STEPCNT]) ∧
      (∀ (off : Int) epoch reason, s.dev.time.load = none → s.dev.time.stepNext = some (off, epoch, reason) → reason ≠ 2 →
        Completes .workerTimeStep s fun t =>
          t.time.sec = (s.dev.time.units + (off + 512)).toNat / 16777216 % 281474976710656 ∧
          t.time.frac = (s.dev.time.units + (off + 512)).toNat % 16777216 ∧ t.time.epoch = epoch % 64 ∧
          t.time.stepNext = none ∧ s.dev.leavesRing t [TIME_STAT, TIME_SLEWREM, TIME_STEPCNT])) ∧
    (s.dev.isWorker = true → s.dev.flag TIME_STAT_LOCKED = true → Completes .beaconGap s fun t =>
      t.flag TIME_STAT_LOCKED = false ∧ s.dev.rang t 210 0 (s.dev.reg TIME_OFS) ∧ s.dev.leavesRing t [TIME_STAT]) ∧
    (Completes .alarmArm s fun t => t.flag TIME_ALM_CTRL_ARM = true ∧ t.time.alarmLate = s.dev.alarmReached ∧
      t.flag TIME_ALM_CTRL_FIRED = s.dev.flag TIME_ALM_CTRL_FIRED ∧ s.dev.leaves t [TIME_ALM_CTRL]) ∧
    (∀ (part : BitVec 2) (value : Word), part ≠ 3 → Completes (.alarmValueWrite part value) s fun t =>
      t.reg (TIME_ALM_FRAC + part.toNat) = (s.dev.reg (TIME_ALM_FRAC + part.toNat) &&& ~~~ rwMask (TIME_ALM_FRAC + part.toNat)) |||
        (value &&& rwMask (TIME_ALM_FRAC + part.toNat)) ∧
      (s.dev.flag TIME_ALM_CTRL_ARM = true → t.time.alarmLate = t.alarmReached) ∧
      s.dev.leaves t [TIME_ALM_FRAC + part.toNat]) ∧
    (s.dev.flag TIME_ALM_CTRL_ARM = true → s.dev.mode ≠ modeHibernate → s.dev.time.load = none → s.dev.time.stepNext = none →
      s.dev.time.slewNext = none → s.dev.slewRem = 0 → s.dev.alarmUnits ≤ s.dev.time.units + 512 →
      s.dev.time.units + 512 < 281474976710656 * 16777216 → Completes .timeAlarm s fun t =>
        t.flag TIME_ALM_CTRL_ARM = false ∧ t.flag TIME_ALM_CTRL_FIRED = true ∧
        t.flag TIME_ALM_CTRL_LATE = s.dev.time.alarmLate ∧
        s.dev.rang t 209 (word t.time.sec) (word (bit s.dev.time.alarmLate)) ∧
        s.dev.leavesRing t [TIME_STAT, TIME_ALM_CTRL])

/-- For every state of a tile that is no worker: TIME_CANCEL leaves LOADPEND and SLEWREM 0, no load and no slew pending, the
counted value, the epoch and the whole event router as they were (so neither TIME_STEP nor TIME_SLEW_DONE is raised), and
every register but TIME_STAT and TIME_SLEWREM. Formalises R407. -/
def Obligations.CancelEndsLoadsAndSlews : Prop :=
  ∀ s : State, s.dev.isWorker = false → Completes .timeCancel s fun t =>
    t.flag TIME_STAT_LOADPEND = false ∧ t.reg TIME_SLEWREM = 0 ∧ t.flag TIME_STAT_SLEWING = false ∧
    t.time.load = none ∧ t.time.slewNext = none ∧ t.time.sec = s.dev.time.sec ∧ t.time.frac = s.dev.time.frac ∧
    t.time.epoch = s.dev.time.epoch ∧ t.evr = s.dev.evr ∧ s.dev.leaves t [TIME_STAT, TIME_SLEWREM]

/-- For every state. On a tile that takes PWR_CMD, is no manager of a surface and holds no command, MODE_REQUEST of a mode 0
to 3 other than the present one, HIBERNATE only where USB allows it, becomes the waiting host request, with PENDING and
TARGET; HIBERNATE while USB bars it rings source 12 and changes nothing else; where PWR_CMD is ignored the write is
counted. HOLD_SET and HOLD_CLEAR set and clear HOLD. The automatic requests arise in their modes while they are allowed
and no contact is down. A worker takes a mode command of its manager, a stretched frame's notice, and, joined and
orphaned, asks for HIBERNATE; the manager notes a worker's acknowledgement. A write of WAKEEN takes its bits and ends
their storms. The end of the pulse, the time-out (which is counted) and the host's acknowledgement take HOSTWAKE low in
their form only. Rests on R167, R168, R169, R170, R173, R174, R176, R186, R187, R188, R190, R195. -/
def Obligations.ModesAreRequested : Prop :=
  ∀ s : State,
    (s.dev.pwrCmdIgnored = false →
      (∀ mode : BitVec 3, mode.toNat ≤ 3 → mode.toNat ≠ s.dev.mode → s.dev.modeHeld = false → s.dev.onSurface = false →
        (mode.toNat = 3 → s.dev.hibernateBarred = false) → Completes (.modeRequest mode) s fun t =>
          t.modes.host = some ⟨mode.toNat, none, 1⟩ ∧ t.flag PWR_STAT_PENDING = true ∧ t.fld PWR_STAT_TARGET = mode.toNat ∧
          t.modes.auto = s.dev.modes.auto ∧ t.mode = s.dev.mode ∧ s.dev.leaves t [PWR_STAT]) ∧
      (s.dev.hibernateBarred = true → Completes (.modeRequest 3) s fun t =>
        s.dev.rang t 12 (modeW1 s.dev.mode s.dev.mode 1) (word s.dev.time.frame) ∧ t.modes.host = s.dev.modes.host ∧
        s.dev.leavesRing t []) ∧
      (Completes .holdSet s fun t => t.flag PWR_STAT_HOLD = true ∧ t.modes = s.dev.modes ∧ s.dev.leaves t [PWR_STAT]) ∧
      (Completes .holdClear s fun t => t.flag PWR_STAT_HOLD = false ∧ t.modes = s.dev.modes ∧ s.dev.leaves t [PWR_STAT])) ∧
    (s.dev.pwrCmdIgnored = true → ∀ c mode, c = Instr.modeRequest mode ∨ c = Instr.holdSet ∨ c = Instr.holdClear →
      Completes c s fun t => t.modes = s.dev.modes ∧
        t.fld SYS_WRIGN_COUNT = min (s.dev.fld SYS_WRIGN_COUNT + 1) (2 ^ SYS_WRIGN_COUNT.width - 1) ∧
        s.dev.leaves t [SYS_WRIGN]) ∧
    (s.dev.autoAllowed = true → s.dev.noContact = true → s.dev.onSurface = false →
      (s.dev.mode = modeActive → Completes .autoIdleExpiry s fun t => ∃ e : Dev, e.modes.auto = some ⟨modeIdle, none, 2⟩ ∧
        e.flag PWR_STAT_PENDING = true ∧ e.fld PWR_STAT_TARGET = modeIdle ∧ e.mode = s.dev.mode ∧
        s.dev.leaves e [PWR_STAT] ∧ t = e.issueOps) ∧
      (s.dev.mode = modeIdle → s.dev.par secModes 0x02 = 1 → Completes .watchAfterExpiry s fun t => ∃ e : Dev,
        e.modes.auto = some ⟨modeWatch, none, 2⟩ ∧ e.flag PWR_STAT_PENDING = true ∧ e.fld PWR_STAT_TARGET = modeWatch ∧
        e.mode = s.dev.mode ∧ s.dev.leaves e [PWR_STAT] ∧ t = e.issueOps)) ∧
    (s.dev.isWorker = true →
      (∀ (mode : BitVec 3) (apply : Word), s.dev.mode ≠ modeSafe → s.dev.mode ≠ modeStart → s.dev.con.request = 0 →
        Completes (.mode mode false apply) s fun t => t.modes.manager = some ⟨mode.toNat, some apply.toNat, 6⟩ ∧
          t.flag PWR_STAT_PENDING = true ∧ t.fld PWR_STAT_TARGET = mode.toNat ∧ t.mode = s.dev.mode ∧
          s.dev.leaves t [PWR_STAT]) ∧
      (∀ (mode : BitVec 3) (apply : Word), Completes (.mode mode true apply) s fun t => t.cal.stretch = some apply.toNat ∧
        t.flag CAL_STAT_STRETCH = true ∧ t.modes = s.dev.modes ∧ s.dev.leaves t [CAL_STAT]) ∧
      (s.dev.pwr.step = 8 → s.dev.mode = modeWatch ∨ s.dev.mode = modeIdle ∨ s.dev.mode = modeActive ∨ s.dev.mode = modeService →
        s.dev.flag EGL_TILE_JOINED = true → Completes .orphan s fun t =>
          t.modes.orphan = some ⟨modeHibernate, none, 7⟩ ∧ t.flag PWR_STAT_PENDING = true ∧
          t.fld PWR_STAT_TARGET = modeHibernate ∧ t.mode = s.dev.mode ∧ s.dev.leaves t [PWR_STAT])) ∧
    (∀ tile : BitVec 10, s.dev.isManager = true → Completes (.modeAck tile) s fun t =>
      t.modes.acksDue = s.dev.modes.acksDue.filter (· != tile.toNat) ∧ (t.tile tile.toNat).seen = s.dev.time.frame ∧
      s.dev.leaves t []) ∧
    (∀ value : Word, Completes (.wakeSourceEnable value) s fun t => t.fld PWR_WAKEEN_EN = value.toNat % 128 ∧
      s.dev.leaves t [PWR_WAKEEN, PWR_WAKECNT]) ∧
    (s.dev.modes.hostwake = true →
      (s.dev.levelMode = false → Completes .hostwakePulseEnd s fun t => t.modes.hostwake = false ∧
        t.flag PWR_HOST_HWPIN = false ∧ t.fld PWR_HOST_HWTO = s.dev.fld PWR_HOST_HWTO ∧ s.dev.leaves t [PWR_HOST]) ∧
      (s.dev.levelMode = true → Completes .hostwakeLevelTimeout s fun t => t.modes.hostwake = false ∧
        t.flag PWR_HOST_HWPIN = false ∧
        t.fld PWR_HOST_HWTO = min (s.dev.fld PWR_HOST_HWTO + 1) (2 ^ PWR_HOST_HWTO.width - 1) ∧ s.dev.leaves t [PWR_HOST]) ∧
      (s.dev.levelMode = true → Completes .hostwakeAck s fun t => t.modes.hostwake = false ∧
        t.flag PWR_HOST_HWPIN = false ∧ t.fld PWR_HOST_HWTO = s.dev.fld PWR_HOST_HWTO ∧ s.dev.leaves t [PWR_HOST]) ∧
      (s.dev.levelMode = true → Completes .hostwakePulseEnd s fun t => t = s.dev) ∧
      (s.dev.levelMode = false → ∀ c, c = Instr.hostwakeLevelTimeout ∨ c = Instr.hostwakeAck →
        Completes c s fun t => t = s.dev))

/-- For every state on a worker, in SERVICE (4), in SAFE (5) or in mode 7: the three forms of a PWR_CMD write (a mode request,
HOLD set, HOLD clear), and any word written to PWR_CMD by any requester while the tile is not asleep, add one to SYS_WRIGN
up to its limit and change nothing else: no mode request arises and HOLD stays. Formalises R168. -/
def Obligations.PowerCommandsIgnored : Prop :=
  ∀ s : State,
    s.dev.isWorker = true ∨ s.dev.fld PWR_STAT_MODE = 5 ∨ s.dev.fld PWR_STAT_MODE = 4 ∨ s.dev.fld PWR_STAT_MODE = 7 →
    ∀ (c : Instr) (mode : BitVec 3) (rq : Requester) (addr : BitVec 16) (value : Word),
      c = .modeRequest mode ∨ c = .holdSet ∨ c = .holdClear ∨
        c = .registerWrite rq addr value ∧ addr.toNat = PWR_CMD ∧ s.dev.asleep = false →
      Completes c s fun t =>
        t.fld SYS_WRIGN_COUNT = min (s.dev.fld SYS_WRIGN_COUNT + 1) (2 ^ SYS_WRIGN_COUNT.width - 1) ∧
        t.modes = s.dev.modes ∧ s.dev.leaves t [SYS_WRIGN]

/-- For every state. An enabled wake source in WATCH is recorded in WAKESRC and counted, and the mode stays; in HIBERNATE with
VCORE off it starts the wake: start-up from step 3, the wake pending with its target mode, PWR_STAT.MODE START. A wake
whose VCORE never comes good is a brown-out reset. The end of the drain takes VCORE off (step 0, VCORE_OK 0), keeps the
EEPROM and the time, and arms retention as configured. The core watchdog begins a core-group restart, recorded with code 8
and counted; its end reports the reset and, on the third in the window, enters SAFE with cause 4. The end, or the time-
out, of the first full run leads start-up to its last step. An image request is served, or waits while 16 are served; a
result is kept for the tile. A reference that becomes ready is shown, and conversions that wait for it go on. Rests on
R112, R113, R127, R129, R177, R181, R184, R195, R196, R547, R837. -/
def Obligations.WakesRestartsAndImages : Prop :=
  ∀ s : State,
    (s.dev.mode = modeWatch → ∀ (sources : BitVec 7) ok, sources.toNat &&& s.dev.fld PWR_WAKEEN_EN ≠ 0 →
      Completes (.wake sources 0 ok) s fun t =>
        t.reg PWR_WAKESRC = pack [(0, 16), (sources.toNat &&& s.dev.fld PWR_WAKEEN_EN, 8),
          (lowestBit (sources.toNat &&& s.dev.fld PWR_WAKEEN_EN), 4), (0, 0)] ∧
        t.fld PWR_WAKECNT_WAKES = min (s.dev.fld PWR_WAKECNT_WAKES + 1) (2 ^ PWR_WAKECNT_WAKES.width - 1) ∧
        t.mode = s.dev.mode ∧ s.dev.leavesRing t [PWR_WAKESRC, PWR_WAKECNT, PWR_WAKEEN]) ∧
    (s.dev.mode = modeHibernate → s.dev.modes.hibStep = 7 → ∀ (sources : BitVec 7) (gesture : BitVec 4) ok,
      ∀ on, sources.toNat &&& s.dev.fld PWR_WAKEEN_EN &&& s.dev.wakeable (gesture.toNat.testBit 0) = on → on ≠ 0 →
      Completes (.wake sources gesture ok) s fun t =>
        t.modes.waking = true ∧ t.modes.wakeOk = (s.dev.modes.retained && ok) ∧
        t.reg PWR_WAKESRC = pack [(0, 16), (on, 8), (lowestBit on, 4), (1, 0)] ∧ t.modes.hibStep = 0 ∧
        t.pwr.step = 3 ∧ t.mode = modeStart ∧ t.nvm = s.dev.nvm ∧ t.time.sec = s.dev.time.sec ∧
          t.time.frac = s.dev.time.frac) ∧
    (s.dev.modes.waking = true → s.dev.pwr.step = 3 → s.dev.pwr.held = none → s.dev.sameCycle = none →
      Completes .wakeVcoreTimeout s fun t =>
      t.pwr.held = none ∧ t.pwr.step = 3 ∧ t.fld SYS_RSTCAUSE_LAST = 3 ∧ t.nvm = s.dev.nvmTorn.nvm) ∧
    (s.dev.mode = modeHibernate → s.dev.modes.hibStep = 2 → s.dev.modes.acksDue = [] → s.dev.twb.nvOp < 4 →
      Completes .hibDrainEnd s fun t =>
      t.modes.hibStep = 7 ∧ t.modes.asleepTick = s.dev.ticks ∧ t.modes.retained = (s.dev.par secModes 0x09 == 1) ∧
      t.modes.host = none ∧ t.modes.auto = none ∧ t.pwr.step = 0 ∧ t.flag SYS_SUPPLY_VCORE_OK = false ∧ t.nvm = s.dev.nvm ∧
      t.time.sec = s.dev.time.sec ∧ t.time.frac = s.dev.time.frac ∧ t.mode = modeHibernate) ∧
    (s.dev.pwr.coreRestart = false → 4 ≤ s.dev.pwr.step → s.dev.pwr.held = none → s.dev.sameCycle = none →
      Completes .coreWatchdog s fun t =>
        t.pwr.coreRestart = true ∧ t.fld SYS_RSTCAUSE_LAST = 8 ∧
        t.fld SYS_RSTCNT_WDTOTAL = min (s.dev.fld SYS_RSTCNT_WDTOTAL + 1) (2 ^ SYS_RSTCNT_WDTOTAL.width - 1) ∧
        t.fld SYS_RSTCNT_RESETS = min (s.dev.fld SYS_RSTCNT_RESETS + 1) (2 ^ SYS_RSTCNT_RESETS.width - 1) ∧
        t.fld TRK_STAT_LIVE = 0 ∧ t.trk.contacts = [] ∧ t.nvm = s.dev.nvm ∧ t.mode = s.dev.mode) ∧
    (s.dev.pwr.coreRestart = true →
      (s.dev.fld SYS_RSTCAUSE_WDRECENT < 3 → s.dev.ir.held = none → Completes .coreRestartEnd s fun t => ∃ e : Dev,
        e.pwr = { s.dev.pwr with coreRestart := false } ∧ e.evr.h0 = s.dev.evr.h0 ∧
        e.evr.cores = s.dev.evr.cores.map (fun c => { c with restarting := false }) ∧
        t = e.ring 6 e.causeWord (s.dev.reg SYS_RSTCNT)) ∧
      (3 ≤ s.dev.fld SYS_RSTCAUSE_WDRECENT → s.dev.mode ≠ modeSafe → Completes .coreRestartEnd s fun t =>
        t.pwr.coreRestart = false ∧ t.mode = modeSafe ∧ t.fld PWR_STAT_SAFE_CAUSE = 4)) ∧
    (s.dev.pwr.step = 6 → s.dev.fullRuns = true →
      (Completes (.startupCalibrationEnd []) s fun t => t.pwr.step = 8 ∧ t.nvm = s.dev.nvm) ∧
      (Completes (.fullRunTimeout []) s fun t => t.pwr.step = 8 ∧ t.nvm = s.dev.nvm)) ∧
    (∀ (src : BitVec 10) words, s.dev.isManager = true → (s.dev.tile src.toNat).state ≠ tileLost →
      ((s.dev.boot.image = [] → Completes (.imgReq src words) s fun t => (t.tile src.toNat).seen = s.dev.time.frame ∧
          t.surf.imgServing = s.dev.surf.imgServing.filter (· != src.toNat) ∧ s.dev.leaves t []) ∧
        (s.dev.boot.image ≠ [] → src.toNat ∉ s.dev.surf.imgServing → src.toNat ∉ s.dev.surf.imgWaiting →
          (s.dev.tile src.toNat).state ≠ tileResetting →
          16 ≤ s.dev.surf.imgServing.length → Completes (.imgReq src words) s fun t =>
            t.surf.imgWaiting = s.dev.surf.imgWaiting ++ [src.toNat] ∧ (t.tile src.toNat).state = tileLoading ∧
            s.dev.leaves t []) ∧
        (s.dev.surf.imgWaiting = [] → Completes (.imgResult src words) s fun t =>
          (t.tile src.toNat).loaded = (if (words.getD 0 0).toNat = 1 then 3 else 0) ∧
          t.surf.imgServing = s.dev.surf.imgServing.filter (· != src.toNat) ∧ s.dev.leaves t []))) ∧
    (s.dev.hkaOn = true → Completes (.referenceReady false) s fun t => t.flag HKA_STAT_REFINT_RDY = true ∧
      (∀ b k, t.conv b = some k → k.waiting = true → k.refsel ≠ 0) ∧ s.dev.leaves t [HKA_STAT]) ∧
    (s.dev.refinEnabled = true → s.dev.flag HKA_STAT_REFIN_FAULT = false → Completes (.referenceReady true) s fun t =>
      t.flag HKA_STAT_REFIN_RDY = true ∧ (∀ b k, t.conv b = some k → k.waiting = true → k.refsel ≠ 1) ∧
      s.dev.leaves t [HKA_STAT])

/-- For every state. While frames run and none is being scanned, FRAME_START takes the next surface frame number; else
it does nothing. The end of the self scan of a frame with a buffer ends the scan, gives its bank to the frame's core,
shows the frame as the last, and puts it behind the frames that wait for tracking. A WATCH scan shows its frame as the
last, or counts an overrun where its bank is not free. TRACK_FRAME takes the oldest waiting frame, keeps the greatest
latency and counts a late one. The end of a held tap's window raises it. BLRESET and RESYNC ask for their reset and
resync. ARM starts a capture that fits a bank the host owns, and is counted as ignored while one runs; STOP ends it, or
marks it where a copy runs; a copy's end, once channel 2 has moved its words, shows its frame and counts it. Rests on
R225, R227, R232, R236, R237, R250, R310, R312, R316, R317, R320. -/
def Obligations.FramesAreScannedAndTracked : Prop :=
  ∀ s : State,
    (s.dev.framesRun = true → s.dev.scan.cur = none → Completes .frameStart s fun t => t.time.frame = s.dev.nextFrame) ∧
    (s.dev.framesRun = false ∨ s.dev.scan.cur.isSome = true → Completes .frameStart s fun t => t = s.dev) ∧
    (∀ f listen selfs chipsI chipsQ, s.dev.scan.cur = some f → f.buffer = true → f.core < 4 →
      Completes (.selfScanEnd listen selfs chipsI chipsQ []) s fun t => t.scan.cur = none ∧ t.fld SCAN_STAT_PHASE = 4 ∧
        t.owner (f.n % 4) = 2 + f.core ∧ t.fld SCAN_FRAME_LAST = f.n % 16777216 ∧
        (∃ g : FrameInfo, g.n = f.n ∧ g.core = f.core ∧ t.trk.queue = s.dev.trk.queue ++ [g])) ∧
    (s.dev.mode = modeWatch → s.dev.hasSensor = true → s.dev.pwr.step = 8 → ∀ selfs seen covered,
      (s.dev.bankFree s.dev.time.frame = true → Completes (.watchScan selfs seen covered) s fun t =>
        t.fld SCAN_FRAME_LAST = s.dev.time.frame % 16777216 ∧ t.fld SCAN_CNT_OVERRUN = s.dev.fld SCAN_CNT_OVERRUN) ∧
      (s.dev.bankFree s.dev.time.frame = false → Completes (.watchScan selfs seen covered) s fun t =>
        t.fld SCAN_CNT_OVERRUN = min (s.dev.fld SCAN_CNT_OVERRUN + 1) (2 ^ SCAN_CNT_OVERRUN.width - 1) ∧
        t.fld SCAN_FRAME_LAST = s.dev.fld SCAN_FRAME_LAST)) ∧
    (∀ f rest (us : BitVec 16) handed, s.dev.trk.queue = f :: rest → (∀ g ∈ s.dev.trk.queue, g.scrap = false) →
      s.dev.pwr.coreRestart = false → Completes (.trackFrame us handed) s fun t => t.trk.queue = rest ∧
        t.fld TRK_LAT_MAX = max us.toNat (s.dev.fld TRK_LAT_MAX) ∧
        t.fld TRK_LAT_LATE = (if 2000 < us.toNat then min (s.dev.fld TRK_LAT_LATE + 1) (2 ^ TRK_LAT_LATE.width - 1)
          else s.dev.fld TRK_LAT_LATE)) ∧
    (∀ id x y k, s.dev.rpt.heldTap = some (id, x, y, k) → s.dev.gestOn 9 = true → s.dev.onSurface = false →
      Completes .tapHoldExpiry s fun t => t.rpt.heldTap = none ∧
        s.dev.rang t 38 (s.dev.gestureWords 9 15 false id x y).1 (s.dev.gestureWords 9 15 false id x y).2 ∧
        s.dev.leavesRing t []) ∧
    (∀ value, Completes (.blreset value) s fun t => t.trk.blReset = true ∧ t.trk.contacts = s.dev.trk.contacts ∧
      s.dev.leaves t [TRK_CTRL]) ∧
    (∀ value, Completes (.resync value) s fun t => t.flag TRK_RPT_STAT_RSPEND = true ∧ s.dev.leaves t [TRK_RPT_STAT]) ∧
    (∀ value : Word,
      (s.dev.flag TRK_CAP_STAT_BUSY = true → Completes (.arm value) s fun t => t.rpt = s.dev.rpt ∧
        t.fld SYS_WRIGN_COUNT = min (s.dev.fld SYS_WRIGN_COUNT + 1) (2 ^ SYS_WRIGN_COUNT.width - 1) ∧
        s.dev.leaves t [SYS_WRIGN]) ∧
      (s.dev.flag TRK_CAP_STAT_BUSY = false → ∀ e, e = s.dev.storeReg TRK_CAP_CTRL (value ||| 1) →
        (e.fld TRK_CAP_CTRL_PLANES).testBit 4 = false → s.dev.owner 15 = 8 →
        s.dev.fld TRK_CAP_DST_WORD + e.capLength (e.fld TRK_CAP_CTRL_PLANES) ≤ 16384 → Completes (.arm value) s fun t =>
          t.flag TRK_CAP_STAT_BUSY = true ∧ t.fld TRK_CAP_STAT_RESULT = 0 ∧ t.fld TRK_CAP_STAT_DONE = 0 ∧
          t.rpt.copying = none ∧ t.rpt.skip = 0 ∧ t.rpt.planes = e.fld TRK_CAP_CTRL_PLANES ∧
          s.dev.leaves t [TRK_CAP_CTRL, TRK_CAP_STAT, TRK_CAP_LEN])) ∧
    (∀ value : Word, s.dev.flag TRK_CAP_STAT_BUSY = true → wGet value 0 1 = 0 →
      (s.dev.rpt.copying = none → Completes (.stop value) s fun t => t.flag TRK_CAP_STAT_BUSY = false ∧
        t.fld TRK_CAP_STAT_RESULT = 0 ∧ t.rpt.stopping = false ∧ s.dev.leaves t [TRK_CAP_CTRL, TRK_CAP_STAT]) ∧
      (∀ n, s.dev.rpt.copying = some n → Completes (.stop value) s fun t => t.flag TRK_CAP_STAT_BUSY = true ∧
        t.rpt.stopping = true ∧ t.rpt.copying = some n ∧ s.dev.leaves t [TRK_CAP_CTRL])) ∧
    (∀ n ok remote, s.dev.rpt.copying = some n → s.dev.capRemote = false → s.dev.owner 15 = 8 →
      s.dev.rpt.copied = true → (s.dev.chan 2).active = none → s.dev.chanFaulted 2 = false →
      s.dev.rpt.stopping = false → s.dev.fld TRK_CAP_CTRL_COUNT = 0 → Completes (.captureCopyEnd ok remote) s fun t =>
        t.rpt.copying = none ∧ t.fld TRK_CAP_FRAME_FRAME = n % 16777216 ∧
        t.fld TRK_CAP_STAT_DONE = min (s.dev.fld TRK_CAP_STAT_DONE + 1) (2 ^ TRK_CAP_STAT_DONE.width - 1) ∧
        s.dev.rang t 39 (t.reg TRK_CAP_STAT) (word n))

/-- For every state with TRK_CAP_STAT.BUSY 1 and every written word: ARM adds one to SYS_WRIGN up to its limit, and changes
nothing else: the capture goes on with its planes, its count and its destination. Formalises R324. -/
def Obligations.ArmIgnoredWhileBusy : Prop :=
  ∀ (s : State) (value : Word), s.dev.flag TRK_CAP_STAT_BUSY = true → Completes (.arm value) s fun t =>
    t.fld SYS_WRIGN_COUNT = min (s.dev.fld SYS_WRIGN_COUNT + 1) (2 ^ SYS_WRIGN_COUNT.width - 1) ∧
    t.rpt = s.dev.rpt ∧ t.trk = s.dev.trk ∧ t.scan = s.dev.scan ∧ s.dev.leaves t [SYS_WRIGN]

/-- For every state in which the USB device answers tokens, each request ends with the data it is answered with, cut to
wLength, or with a STALL. GET_STATUS of the device gives self-powered and remote wakeup; SET_FEATURE and CLEAR_FEATURE of
remote wakeup with USB_RWAKE set RWKEN so; SET_ADDRESS of 1 to 127 before a configuration takes the address and its state;
GET_DESCRIPTOR gives the device, configuration and language descriptors; GET_CONFIGURATION the configuration;
SET_CONFIGURATION 1 configures, empties H1, calls for a resync and rings source 192. A configured device answers
GET_INTERFACE 0, accepts SET_INTERFACE 0, keeps SET_IDLE's rate and gives it back, and answers feature report 2. What no
form covers, and a configuration above 1, is stalled and changes nothing else. Rests on R460, R463, R464, R465, R466,
R467, R474. -/
def Obligations.UsbRequestsAreAnswered : Prop :=
  ∀ s : State, s.dev.usbAnswers = true →
    (∀ (index : BitVec 16) (len : BitVec 16), Completes (.getStatus 0 index len) s fun t =>
      t.usb.ep0 = some ((bytesOf [1 + 2 * s.dev.fld USB_STAT_RWKEN, 0]).take len.toNat) ∧ s.dev.leaves t []) ∧
    (∀ index : BitVec 16, s.dev.par secHost 0x14 = 1 →
      (Completes (.setFeature 0 1 index) s fun t => t.flag USB_STAT_RWKEN = true ∧ t.usb.ep0 = some [] ∧
        s.dev.leaves t [USB_STAT]) ∧
      (Completes (.clearFeature 0 1 index) s fun t => t.flag USB_STAT_RWKEN = false ∧ t.usb.ep0 = some [] ∧
        s.dev.leaves t [USB_STAT])) ∧
    (∀ value : BitVec 16, value.toNat < 128 → value.toNat ≠ 0 → s.dev.usbState ≠ usbConfigured →
      Completes (.setAddress value) s fun t => t.fld USB_STAT_ADDR = value.toNat ∧ t.usbState = usbAddress ∧
        t.usb.ep0 = some [] ∧ s.dev.leaves t [USB_STAT]) ∧
    (∀ (index len : BitVec 16),
      (Completes (.getDescriptor 0x0100 index len) s fun t => t.usb.ep0 = some (s.dev.deviceDescriptor.take len.toNat) ∧
        s.dev.leaves t []) ∧
      (Completes (.getDescriptor 0x0200 index len) s fun t => t.usb.ep0 = some (s.dev.configDescriptor.take len.toNat) ∧
        s.dev.leaves t []) ∧
      (Completes (.getDescriptor 0x0300 index len) s fun t => t.usb.ep0 = some ((bytesOf [4, 3, 9, 4]).take len.toNat) ∧
        s.dev.leaves t [])) ∧
    (∀ len : BitVec 16, Completes (.getConfiguration len) s fun t =>
      t.usb.ep0 = some ((bytesOf [s.dev.fld USB_STAT_CFG]).take len.toNat) ∧ s.dev.leaves t []) ∧
    (s.dev.usbState ≠ usbDefault → Completes (.setConfiguration 1) s fun t => t.flag USB_STAT_CFG = true ∧
      t.usbState = usbConfigured ∧ t.usb.resync = true ∧ t.usb.ep0 = some [] ∧ t.ringRd .h1 = 0 ∧
      t.flag TRK_RPT_STAT_RSPEND = true ∧ (∃ e : Dev, e.evr.h0 = s.dev.evr.h0 ∧ e.evr.h1 = {} ∧ e.ringWr .h1 = 0 ∧
        t.evr = (e.ring 192 3 e.usbStat).evr)) ∧
    (∀ value : BitVec 16, 1 < value.toNat → Completes (.setConfiguration value) s fun t =>
      t.usb = { s.dev.usb with ep0 := none } ∧ s.dev.leaves t []) ∧
    (s.dev.usbState = usbConfigured → ∀ len : BitVec 16,
      (Completes (.getInterface 0 len) s fun t => t.usb.ep0 = some ([0#8].take len.toNat) ∧ s.dev.leaves t []) ∧
      (Completes (.setInterface 0 0) s fun t => t.usb.ep0 = some [] ∧ s.dev.leaves t []) ∧
      (s.dev.hasHid = true →
        (∀ value : BitVec 16, Completes (.setIdle value 0) s fun t => t.usb.idle = value.toNat / 256 ∧ t.usb.ep0 = some [] ∧
          s.dev.leaves t []) ∧
        (∀ value : BitVec 16, Completes (.getIdle value 0 len) s fun t =>
          t.usb.ep0 = some ((bytesOf [s.dev.usb.idle]).take len.toNat) ∧ s.dev.leaves t []) ∧
        (Completes (.getReport 0x0302 0 len) s fun t => t.usb.ep0 = some (s.dev.featureReport.take len.toNat) ∧
          s.dev.leaves t []))) ∧
    (Completes .stall s fun t => t.usb = { s.dev.usb with ep0 := none } ∧ s.dev.leaves t [])

/-- For every state. When VBUS is there and every other condition holds, the pull-up connects: state 1, source 192. When it no
longer holds, or DETACH is written with its key elsewhere than on USB, the pull-up disconnects and USB_STAT reads 0. A
token sets FRNUM; three of them lock. A bus reset leads to the default state and is counted. Suspend and resume set and
clear SUSP. A remote wake that samples J drives K, and its end releases the bus. A packet error is counted. A report sent
is the last input, and the next of its set follows. The vendor endpoint answers commands with their code and tag: status 1
for an unknown code, 2 for a bad length or N, the records of H1 for EVENTS; the acknowledgement clears the response and
releases the records it promised. Rests on R458, R459, R460, R462, R472, R475, R478, R480, R481, R485, R487, R494. -/
def Obligations.UsbBusAndVendorEndpoint : Prop :=
  ∀ s : State,
    (∀ d, d = { s.dev with usb := { s.dev.usb with vbus := true } } → d.usbReady = true → s.dev.usbState = 0 →
      Completes .usbAttach s fun t => t.usb.vbus = true ∧ t.usbState = usbPowered ∧ s.dev.leavesRing t [USB_STAT]) ∧
    (s.dev.usbState ≠ 0 → Completes (.usbDetach false) s fun t => t.usb.vbus = false ∧ t.reg USB_STAT = 0 ∧
      t.usb.reports = [] ∧ t.usb.response = none ∧ t.nvm = s.dev.nvm) ∧
    (∀ rq (value : Word), wGet value 16 8 = 0x5A → wGet value 0 1 = 1 → s.dev.usbState ≠ 0 →
      (rq ≠ .usb → Completes (.detach rq value) s fun t => t.flag USB_CTRL_DETACH = true ∧ t.reg USB_STAT = 0) ∧
      (rq = .usb → Completes (.detach rq value) s fun t => t.usb.detachAtAck = some true ∧ t.usbState = s.dev.usbState ∧
        s.dev.leaves t [])) ∧
    (∀ frame : BitVec 11, s.dev.usbState ≠ 0 → s.dev.flag USB_STAT_SUSP = false →
      Completes (.startOfFrameToken frame) s fun t => t.fld USB_FRNUM_FRNUM = frame.toNat ∧
        t.usb.sofCount = s.dev.usb.sofCount + 1 ∧ t.pwr.sofRef = true) ∧
    (usbDefault ≤ s.dev.usbState → 3 ≤ s.dev.usb.sofCount → Completes .sofLock s fun t =>
      t.flag USB_STAT_SOFLOCK = true ∧ s.dev.leaves t [USB_STAT]) ∧
    (s.dev.usbState ≠ 0 → s.dev.usb.wakeReport = false → Completes .usbBusReset s fun t => t.usbState = usbDefault ∧
      t.fld USB_CNT_BUSRESET = min (s.dev.fld USB_CNT_BUSRESET + 1) (2 ^ USB_CNT_BUSRESET.width - 1) ∧
      t.usb.response = none ∧ t.usb.reports = [] ∧ s.dev.leavesRing t [USB_STAT, USB_CNT]) ∧
    (usbDefault ≤ s.dev.usbState → s.dev.usbState ≠ usbConfigured → s.dev.flag USB_STAT_SUSP = false →
      Completes .usbSuspend s fun t => t.flag USB_STAT_SUSP = true ∧ t.usb.suspTick = s.dev.ticks ∧
        s.dev.leavesRing t [USB_STAT]) ∧
    (s.dev.flag USB_STAT_SUSP = true → s.dev.usbState ≠ usbConfigured → s.dev.usb.wake = 0 → s.dev.usb.wakeReport = false →
      Completes .usbResume s fun t => t.flag USB_STAT_SUSP = false ∧ t.usb.resync = true ∧ s.dev.leavesRing t [USB_STAT]) ∧
    (s.dev.usb.wake = 1 → Completes (.remoteWakeSampleEnd 0) s fun t => t.usb.wake = 2 ∧ t.usb.wakeReport = true ∧
      t.fld USB_RWK_OUTCOME = 1 ∧ s.dev.leaves t [USB_RWK]) ∧
    (s.dev.usb.wake = 1 → Completes (.remoteWakeSampleEnd 1) s fun t => t.usb.wake = 0 ∧ t.usb.wakeReport = true ∧
      t.fld USB_RWK_OUTCOME = 2 ∧ s.dev.leaves t [USB_RWK]) ∧
    (s.dev.usb.wake = 2 →
      (Completes (.remoteWakeDriveEnd false) s fun t => t.usb.wake = 0 ∧ s.dev.leaves t []) ∧
      (Completes (.remoteWakeDriveEnd true) s fun t => t.usb.wake = 0 ∧ t.fld USB_RWK_OUTCOME = 3 ∧
        s.dev.leaves t [USB_RWK])) ∧
    (s.dev.usbState ≠ 0 → s.dev.usb.errTicks = [] → Completes .usbPacketError s fun t => t.usb.errTicks = [s.dev.ticks] ∧
      t.fld USB_CNT_CRCERR = min (s.dev.fld USB_CNT_CRCERR + 1) (2 ^ USB_CNT_CRCERR.width - 1) ∧ s.dev.leaves t [USB_CNT]) ∧
    (∀ r rest, s.dev.hidOn = true → s.dev.usb.halt1 = false → s.dev.usb.reports = r :: rest →
      Completes .hidReportSend s fun t => t.usb.lastInput = some r ∧
        t.usb.reports = (if rest.isEmpty then s.dev.usb.nextReports else rest) ∧ s.dev.leaves t []) ∧
    (s.dev.ep2Ready = true →
      (∀ (tag n : Byte) (flags : Byte), 1 ≤ n.toNat → n.toNat ≤ 64 → Completes (.ep2Events tag n flags) s fun t =>
        ∃ body, t.usb.response = some ([byte 3, tag, byte 0, byte (min n.toNat (s.dev.occupancy .h1))] ++ body) ∧
          body = (List.range (min n.toNat (s.dev.occupancy .h1))).flatMap
            (fun i => (s.dev.h1Record (s.dev.ringRd .h1 + i)).flatMap wordBytes) ∧
          t.usb.release = (if flags.getLsbD 0 then min n.toNat (s.dev.occupancy .h1) else 0) ∧ s.dev.leaves t []) ∧
      (∀ (tag : Byte) (addr : BitVec 16), addr.toNat < 0x2000 → regDefined addr.toNat = true →
        s.dev.notAwake addr.toNat = false →
        s.dev.asleep = false → addr.toNat ≠ TIME_FRAC → Completes (.ep2Read tag 1 addr) s fun t =>
          t.usb.response = some ([byte 1, tag, byte 0, byte 1] ++ wordBytes (s.dev.regWord .usb addr.toNat))) ∧
      (∀ (tag : Byte) (value : Word), s.dev.modes.waking = false → s.dev.asleep = false →
        Completes (.ep2Write tag 1 0x020A [value]) s fun t => t.usb.response = some [byte 2, tag, byte 0, byte 1]) ∧
      (∀ code tag : Byte, code ≠ 1 → code ≠ 2 → code ≠ 3 → Completes (.ep2UnknownOp code tag) s fun t =>
        t.usb.response = some [byte code.toNat, tag, byte 1, byte 0] ∧ s.dev.leaves t []) ∧
      (∀ code tag : Byte, Completes (.ep2BadLength code tag true) s fun t =>
        t.usb.response = some [byte code.toNat, tag, byte 2, byte 0] ∧
        t.fld USB_CNT_BADCMD = min (s.dev.fld USB_CNT_BADCMD + 1) (2 ^ USB_CNT_BADCMD.width - 1) ∧
        s.dev.leaves t [USB_CNT])) ∧
    (∀ b, s.dev.usb.response = some b → s.dev.usb.release = 0 → s.dev.usb.detachAtAck = none → s.dev.pwr.swReset ≠ some .usb →
      Completes .ep2ResponseAck s fun t => t.usb.response = none ∧ s.dev.leaves t [])

/-- For every state. A CFG_CMD without its key is counted as ignored. With it, on a tile that is no worker and in phase 0:
COMMIT in IDLE or ACTIVE and CHECK copy the stage and start the checks (phase 1, RESULT 0), COMMIT in another mode ends
with RESULT 5, CLEAR empties the stage. CANCEL in phase 1 ends the commit with RESULT 7, and is ignored in phase 4. The
checks' end shows its findings in CFG_ERR; a CHECK ends with RESULT 1, or 2 or 6 by the reason; a COMMIT that fails ends
so too and is counted; one that passes on a standalone tile with a sensor is built with its class, epoch and the next
frame as its apply frame (phase 3). When the calibration of a cold apply times out, the apply ends and is counted, and the
calibration goes on in slices. Rests on R502, R505, R506, R507, R512, R513, R515, R526, R527, R531, R539. -/
def Obligations.CommitsOnOneTile : Prop :=
  ∀ s : State,
    (∀ (key : Byte) c, key.toNat ≠ 0xC5 → c = Instr.cfgCommit key ∨ c = Instr.cfgCheck key ∨ c = Instr.cfgClear key ∨
      c = Instr.cfgCancel key → Completes c s fun t => t.com = s.dev.com ∧
        t.fld SYS_WRIGN_COUNT = min (s.dev.fld SYS_WRIGN_COUNT + 1) (2 ^ SYS_WRIGN_COUNT.width - 1) ∧
        s.dev.leaves t [SYS_WRIGN]) ∧
    (s.dev.isWorker = false → s.dev.fld CFG_STAT_PHASE = 0 →
      (s.dev.mode = modeIdle ∨ s.dev.mode = modeActive → Completes (.cfgCommit 0xC5) s fun t => t.fld CFG_STAT_PHASE = 1 ∧
        t.fld CFG_STAT_RESULT = 0 ∧ t.com.staged = s.dev.stage ∧ t.com.checkOnly = false ∧ s.dev.leaves t [CFG_STAT]) ∧
      (s.dev.mode ≠ modeIdle → s.dev.mode ≠ modeActive → Completes (.cfgCommit 0xC5) s fun t => t.fld CFG_STAT_PHASE = 0 ∧
        t.fld CFG_STAT_RESULT = 5 ∧
          t.fld CFG_CNT_ABORTED = min (s.dev.fld CFG_CNT_ABORTED + 1) (2 ^ CFG_CNT_ABORTED.width - 1) ∧
        s.dev.leaves t [CFG_STAT, CFG_CNT]) ∧
      (Completes (.cfgCheck 0xC5) s fun t => t.fld CFG_STAT_PHASE = 1 ∧ t.fld CFG_STAT_RESULT = 0 ∧
        t.com.staged = s.dev.stage ∧ t.com.checkOnly = true ∧ s.dev.leaves t [CFG_STAT]) ∧
      (Completes (.cfgClear 0xC5) s fun t => t.fld CFG_NSTG_N = 0 ∧ t.com = s.dev.com ∧ s.dev.leaves t [CFG_NSTG])) ∧
    (s.dev.isWorker = false → s.dev.com.checkOnly = false →
      (s.dev.fld CFG_STAT_PHASE = 1 → Completes (.cfgCancel 0xC5) s fun t => t.fld CFG_STAT_PHASE = 0 ∧
        t.fld CFG_STAT_RESULT = 7 ∧ t.com.armed = false ∧ t.com.built = [] ∧
        t.fld CFG_CNT_ABORTED = min (s.dev.fld CFG_CNT_ABORTED + 1) (2 ^ CFG_CNT_ABORTED.width - 1)) ∧
      (s.dev.fld CFG_STAT_PHASE = 4 → Completes (.cfgCancel 0xC5) s fun t => t.com = s.dev.com ∧
        t.fld SYS_WRIGN_COUNT = min (s.dev.fld SYS_WRIGN_COUNT + 1) (2 ^ SYS_WRIGN_COUNT.width - 1) ∧
        s.dev.leaves t [SYS_WRIGN])) ∧
    (s.dev.fld CFG_STAT_PHASE = 1 →
      (s.dev.com.checkOnly = true → ∀ j, j = s.dev.judgeSet s.dev.com.staged false → Completes .cfgCheckEnd s fun t =>
        t.reg CFG_ERR = pack [(min j.clamps 255, 16), (j.reason, 8), (j.index % 256, 0)] ∧ t.fld CFG_STAT_PHASE = 0 ∧
        t.fld CFG_STAT_RESULT = (if j.reason = 0 then 1 else if j.reason = 6 then 6 else 2) ∧
        t.fld CFG_CNT_ABORTED = s.dev.fld CFG_CNT_ABORTED) ∧
      (s.dev.com.checkOnly = false → ∀ j, j = s.dev.judgeSet s.dev.com.staged true →
        (j.reason ≠ 0 → Completes .cfgCheckEnd s fun t =>
          t.reg CFG_ERR = pack [(min j.clamps 255, 16), (j.reason, 8), (j.index % 256, 0)] ∧ t.fld CFG_STAT_PHASE = 0 ∧
          t.fld CFG_STAT_RESULT = (if j.reason = 6 then 6 else 2) ∧
          t.fld CFG_CNT_ABORTED = min (s.dev.fld CFG_CNT_ABORTED + 1) (2 ^ CFG_CNT_ABORTED.width - 1)) ∧
        (j.reason = 0 → s.dev.onSurface = false → Completes .cfgCheckEnd s fun t =>
          t.fld CFG_STAT_PHASE = 3 ∧ t.fld CFG_STAT_CLASS = j.cls % 4 ∧ t.fld CFG_APPLY_F = (s.dev.time.frame + 1) % 16777216 ∧
          t.com.built = j.pairs ∧ t.com.armed = true ∧ t.com.apply = (s.dev.time.frame + 1) % 16777216 ∧
          t.com.epoch = (s.dev.fld CFG_EPOCH_N + 1) % 16777216 ∧ s.dev.leaves t [CFG_ERR, CFG_STAT, CFG_APPLY]))) ∧
    (s.dev.com.cold = true → s.dev.com.ackDue = [] → Completes .coldCalibrationTimeout s fun t => t.com.cold = false ∧
      t.fld CFG_STAT_PHASE = 0 ∧ t.fld CAL_STAT_STATE = calSliced ∧
      t.fld CFG_CNT2_COLDTO = min (s.dev.fld CFG_CNT2_COLDTO + 1) (2 ^ CFG_CNT2_COLDTO.width - 1))

/-- For every state on a tile that is no worker and in phase 0, in every mode: a keyed CHECK copies the stage and begins the
checks. When the checks of a CHECK end: with j the checks' judgement of the staged pairs, CFG_ERR shows j's clamps, reason
and index; RESULT is 1 where j has no reason, 6 for a full delta (reason 6), else 2; phase is 0; and no word of the
applied configuration changes, nor its epoch. Formalises R507. -/
def Obligations.CheckAppliesNothing : Prop :=
  ∀ s : State,
    (s.dev.isWorker = false → s.dev.fld CFG_STAT_PHASE = 0 → Completes (.cfgCheck 0xC5) s fun t =>
      t.fld CFG_STAT_PHASE = 1 ∧ t.com.staged = s.dev.stage ∧ t.com.checkOnly = true ∧ s.dev.leaves t [CFG_STAT]) ∧
    (s.dev.fld CFG_STAT_PHASE = 1 → s.dev.com.checkOnly = true → ∀ j, j = s.dev.judgeSet s.dev.com.staged false →
      Completes .cfgCheckEnd s fun t =>
        t.reg CFG_ERR = pack [(min j.clamps 255, 16), (j.reason, 8), (j.index % 256, 0)] ∧ t.fld CFG_STAT_PHASE = 0 ∧
        t.fld CFG_STAT_RESULT = (if j.reason = 0 then 1 else if j.reason = 6 then 6 else 2) ∧
        t.cfg = s.dev.cfg ∧ t.cfgLen = s.dev.cfgLen ∧ t.fld CFG_EPOCH_N = s.dev.fld CFG_EPOCH_N)

/-- For every state. A joined worker takes a one-packet PREPARE: where its checks, mode, epoch and frame allow it, it holds
the built commit (phase 2) and hands READY to the link; else it hands REFUSE with the reason. GO for the commit it holds,
before F, makes it due (phase 3) and is acknowledged at once; GO_LATE at or after F makes it due with the acknowledgement
to follow. ABORT for it ends it (phase 0) with the epoch kept. On the manager, a READY that others still follow is
counted; a REFUSE ends the commit with RESULT 3 and shows the tile and its reason; a GO_ACK before F takes the tile from
those awaited and notes its epoch; at the time-out in phase 4 every late tile is reset and counted, and none is late any
more. Rests on R516, R517, R518, R519, R520, R521, R522, R530. -/
def Obligations.CommitsAcrossASurface : Prop :=
  ∀ s : State,
    (∀ (src : BitVec 10) words n f reason j, s.dev.isWorker = true → s.dev.flag EGL_TILE_JOINED = true →
      wGet (words.getD 2 0) 8 8 = 0 → wGet (words.getD 2 0) 0 8 ≤ 1 → (words.getD 0 0).toNat = n → (words.getD 1 0).toNat = f →
      { s.dev with com := { s.dev.com with incoming := wordPairs (words.drop 3) } }.prepareJudge n f (wordPairs (words.drop 3)) =
        (reason, j) →
      (reason = 0 → Completes (.prepare src words) s fun t => ∃ e : Dev,
        e.outbox = s.dev.outbox ++ [⟨msgReady, 0, [word n]⟩] ∧ e.com.built = j.pairs ∧ e.com.epoch = n ∧ e.com.apply = f ∧
        e.com.armed = true ∧ e.com.go = false ∧ e.fld CFG_STAT_PHASE = 2 ∧ e.fld CFG_APPLY_F = f ∧
        s.dev.leaves e [CFG_ERR, CFG_STAT, CFG_APPLY] ∧ t = e.issueOps) ∧
      (reason ≠ 0 → Completes (.prepare src words) s fun t => s.dev.hands t msgRefuse 0 [word n, word reason])) ∧
    (∀ (src : BitVec 10) words n, s.dev.isWorker = true → s.dev.com.armed = true → s.dev.com.epoch = n →
      (words.getD 0 0).toNat = n →
      (frameDiff s.dev.com.apply s.dev.time.frame < 0 → s.dev.pwr.coreRestart = false → Completes (.go src words) s fun t =>
        ∃ e : Dev, e.outbox = s.dev.outbox ++ [⟨msgGoAck, 0, [word n]⟩] ∧ e.com.go = true ∧ e.com.late = false ∧
          e.fld CFG_STAT_PHASE = 3 ∧ s.dev.leaves e [CFG_STAT] ∧ t = e.issueOps) ∧
      (0 ≤ frameDiff s.dev.com.apply s.dev.time.frame → Completes (.goLate src words) s fun t =>
        t.com.go = true ∧ t.com.late = true ∧ t.fld CFG_STAT_PHASE = 3 ∧ t.outbox = s.dev.outbox ∧ s.dev.leaves t [CFG_STAT]) ∧
      (s.dev.modes.heldCmd = none → Completes (.abort src words) s fun t => t.fld CFG_STAT_PHASE = 0 ∧ t.com.armed = false ∧
        t.com.built = [] ∧ t.fld CFG_EPOCH_N = s.dev.fld CFG_EPOCH_N)) ∧
    (∀ (src : BitVec 10) words, s.dev.isManager = true → (s.dev.tile src.toNat).state ≠ tileLost →
      (s.dev.fld CFG_STAT_PHASE = 2 → (words.getD 0 0).toNat = s.dev.com.epoch →
        (src.toNat ∈ s.dev.com.readyDue → s.dev.com.readyDue.filter (· != src.toNat) ≠ [] →
          Completes (.ready src words) s fun t => t.com.readyDue = s.dev.com.readyDue.filter (· != src.toNat) ∧
            t.fld CFG_TILES_READY = min (s.dev.fld CFG_TILES_READY + 1) (2 ^ CFG_TILES_READY.width - 1) ∧
            t.fld CFG_STAT_PHASE = 2 ∧ s.dev.leaves t [CFG_TILES]) ∧
        (Completes (.refuse src words) s fun t => t.fld CFG_STAT_PHASE = 0 ∧ t.fld CFG_STAT_RESULT = 3 ∧
          t.reg CFG_REFUSE = pack [(src.toNat / 32, 19), (src.toNat % 32, 14), (wGet (words.getD 1 0) 0 4, 0)] ∧
          t.fld CFG_CNT_ABORTED = min (s.dev.fld CFG_CNT_ABORTED + 1) (2 ^ CFG_CNT_ABORTED.width - 1) ∧ t.com.armed = false)) ∧
      (s.dev.fld CFG_STAT_PHASE = 3 → (words.getD 0 0).toNat = s.dev.com.epoch → src.toNat ∈ s.dev.com.ackDue →
        Completes (.goAck src words) s fun t => t.com.ackDue = s.dev.com.ackDue.filter (· != src.toNat) ∧
          (t.tile src.toNat).epoch = s.dev.com.epoch ∧ s.dev.leaves t [])) ∧
    (s.dev.isManager = true → s.dev.fld CFG_STAT_PHASE = 4 → Completes .goAckTimeout s fun t => t.com.ackDue = [] ∧
      t.flag CFG_STAT_MIXED = false ∧ t.fld CFG_TILES_PENDING = 0 ∧ t.fld CFG_STAT_PHASE = 4 ∧
      t.fld CFG_CNT2_RESETS = min (s.dev.fld CFG_CNT2_RESETS + s.dev.lateTiles.length) (2 ^ CFG_CNT2_RESETS.width - 1))

/-- For every state. On a worker: an ENUM gives it its coordinates, or shows a conflict when it has others; a WELCOME gives
the first frame, the words to come, the epoch and the mode; a DELTA in order is taken up; a REFUSE_JOIN ends the attempt;
a RESET runs reset 7. A STRIP is kept for its frame, and at the deadline every joined edge has one, the missing counted.
On the manager, for a tile that is not lost: a JOIN waits while a commit runs, is refused with source 186 and its reason,
or makes the tile joined; a request for SERVICE becomes a mode request; the first of several CONTACTS packets is kept; a
FORWARD is counted and accepted as its own source, a loss is counted with source 188; LEAVE makes the tile safe with
source 185, silence makes a joined tile lost, and a keyed EGL_TRESET resets it. The contacts deadline of a frame ends it
and counts one that lacks a joined tile. Rests on R73, R523, R543, R544, R545, R556, R557, R558, R566, R571, R574, R580. -/
def Obligations.TilesJoinAndReport : Prop :=
  ∀ s : State,
    (s.dev.isWorker = true →
      (∀ words xy, wGet (words.getD 0 0) 0 10 = xy →
        (s.dev.surf.known = true → xy ≠ s.dev.ownXY → Completes (.enum words) s fun t => t.flag EGL_TILE_CONFLICT = true ∧
          t.ownXY = s.dev.ownXY ∧ s.dev.leaves t [EGL_TILE]) ∧
        (s.dev.surf.known = false → Completes (.enum words) s fun t => t.surf.known = true ∧ t.ownXY = xy)) ∧
      (∀ (src : BitVec 10) words, s.dev.pwr.step = 8 → s.dev.mode ≠ modeSafe → s.dev.flag EGL_TILE_JOINED = false →
        (words.getD 4 0).toNat % 8 ≠ s.dev.mode → (words.getD 4 0).toNat % 8 ≤ 4 → Completes (.welcome src words) s fun t =>
          t.surf.firstFrame = some ((words.getD 0 0).toNat, (words.getD 1 0).toNat, (words.getD 2 0).toNat) ∧
          t.surf.deltaDue = (words.getD 5 0).toNat ∧ t.surf.deltaBuf = [] ∧ t.fld CFG_EPOCH_N = (words.getD 3 0).toNat ∧
          t.modes.manager = some ⟨(words.getD 4 0).toNat % 8, some (words.getD 0 0).toNat, 6⟩ ∧
          t.fld PWR_STAT_TARGET = (words.getD 4 0).toNat % 8 ∧ s.dev.leaves t [CFG_EPOCH, PWR_STAT]) ∧
      (∀ (src : BitVec 10) words, (words.getD 0 0).toNat = s.dev.surf.deltaBuf.length →
        s.dev.surf.deltaBuf.length + (wordPairs (words.drop 1)).length < s.dev.surf.deltaDue →
        Completes (.delta src words) s fun t => t.surf.deltaBuf = s.dev.surf.deltaBuf ++ wordPairs (words.drop 1) ∧
          t.surf.deltaDue = s.dev.surf.deltaDue ∧ s.dev.leaves t []) ∧
      (∀ (src : BitVec 10) words, s.dev.flag EGL_TILE_JOINED = false → Completes (.refuseJoin src words) s fun t =>
        t.surf.firstFrame = none ∧ t.surf.deltaDue = 0 ∧ t.surf.joinDue = false ∧ s.dev.leaves t []) ∧
      (∀ (src : BitVec 10) words, s.dev.pwr.held = none → s.dev.sameCycle = none → Completes (.reset src words) s fun t =>
        t.pwr.step = 3 ∧ t.fld SYS_RSTCAUSE_LAST = 7 ∧ t.surf.linkBoot = (wGet (words.getD 0 0) 0 1 == 1) ∧
        t.nvm = s.dev.nvmTorn.nvm)) ∧
    (∀ (src : BitVec 10) words n edge, (words.getD 0 0).toNat = n → opposite (wGet (words.getD 1 0) 0 2) = edge →
      wGet (words.getD 1 0) 8 5 = 0 → s.dev.surf.strips = [] → Completes (.strip src words) s fun t =>
        t.surf.strips = [⟨n, edge, words.drop 2⟩] ∧ s.dev.leaves t []) ∧
    (∀ n, s.dev.stripFrame = some n → Completes .stripDeadline s fun t =>
      (∀ e ∈ s.dev.joinedEdges, (t.surf.strips.any fun r => r.frame == n && r.edge == e) = true) ∧ s.dev.leaves t [EGL_HCNT]) ∧
    (∀ n, s.dev.surf.frame = some n → Completes .contactsDeadline s fun t => t.surf.frame = none ∧ t.surf.heard = [] ∧
      t.fld EGL_HCNT_PARTIAL = (if s.dev.joinedTiles.any (fun x => !s.dev.surf.heard.contains x) then
        min (s.dev.fld EGL_HCNT_PARTIAL + 1) (2 ^ EGL_HCNT_PARTIAL.width - 1) else s.dev.fld EGL_HCNT_PARTIAL)) ∧
    (s.dev.isManager = true → ∀ (src : BitVec 10) words, (s.dev.tile src.toNat).state ≠ tileLost →
      (∀ xy, wGet (words.getD 0 0) 0 10 = xy → (s.dev.tile xy).state ≠ tileLost → s.dev.pwr.step = 8 → s.dev.mode ≠ modeSafe →
        (s.dev.joinsWait = true → Completes (.join src words) s fun t => (t.tile xy).waiting = some words ∧
          s.dev.leaves t []) ∧
        (s.dev.joinsWait = false → s.dev.joinRefusal xy (words.getD 1 0) ≠ 0 → Completes (.join src words) s fun t =>
          ∃ e : Dev, e.outbox = s.dev.outbox ++ [⟨msgRefuseJoin, xy, [word (s.dev.joinRefusal xy (words.getD 1 0))]⟩] ∧
            e.evr = s.dev.evr ∧ s.dev.leaves e [] ∧
            t = e.issueOps.ring 186 (pack [(s.dev.joinRefusal xy (words.getD 1 0), 12), (xy, 0)]) (words.getD 1 0)) ∧
        (s.dev.joinsWait = false → s.dev.joinRefusal xy (words.getD 1 0) = 0 → words.getD 2 0 = s.dev.reg SYS_IMGSEQ →
          (words.getD 3 0).toNat * 65536 + (words.getD 4 0).toNat = s.dev.imageCrc →
          s.dev.epochFits xy (words.getD 5 0).toNat = true → Completes (.join src words) s fun t =>
            (t.tile xy).state = tileJoined ∧ (t.tile xy).epoch = s.dev.fld CFG_EPOCH_N ∧ (t.tile xy).waiting = none)) ∧
      (s.dev.mode = modeIdle ∨ s.dev.mode = modeActive ∨ s.dev.mode = modeWatch → s.dev.onSurface = false →
        wGet (words.getD 0 0) 0 1 = 0 → Completes (.svcReq src words) s fun t => ∃ e : Dev,
          e.modes.service = some ⟨modeService, none, 4⟩ ∧ e.modes.entry = 3 ∧ e.fld PWR_STAT_TARGET = modeService ∧
          e.flag PWR_STAT_PENDING = true ∧ s.dev.leaves e [PWR_STAT] ∧ t = e.issueOps) ∧
      ((s.dev.tile src.toNat).state = tileJoined → wGet (words.getD 1 0) 19 5 = 0 → 2 ≤ wGet (words.getD 1 0) 14 5 →
        Completes (.contacts src words) s fun t => t.surf.parts = (src.toNat, 1, words.drop 2) ::
          s.dev.surf.parts.filter (fun p => p.1 != src.toNat) ∧ (t.tile src.toNat).seen = s.dev.time.frame ∧
            s.dev.leaves t []) ∧
      (∀ k, wGet (words.getD 0 0) 15 9 = k → k ≠ 188 → k ≠ 213 → Completes (.forward src words) s fun t => ∃ e : Dev,
        e.fld EGL_FWD_COUNT = min (s.dev.fld EGL_FWD_COUNT + 1) (2 ^ EGL_FWD_COUNT.width - 1) ∧ e.evr = s.dev.evr ∧
        (e.tile src.toNat).seen = s.dev.time.frame ∧ s.dev.leaves e [EGL_FWD] ∧
        t = e.accept (384 + k % 128) (forwardW1 src.toNat (wGet (words.getD 0 0) 5 6 != s.dev.time.epoch) k) (words.getD 3 0)
          none (some (words.getD 1 0, words.getD 2 0))) ∧
      (wGet (words.getD 0 0) 15 9 = 188 → Completes (.forward src words) s fun t =>
        t.fld EGL_FWD_LOSS = min (s.dev.fld EGL_FWD_LOSS + (words.getD 2 0).toNat) (2 ^ EGL_FWD_LOSS.width - 1) ∧
        s.dev.rang t 188 (word src.toNat) (word (words.getD 2 0).toNat) ∧ s.dev.leavesRing t [EGL_FWD]) ∧
      (Completes (.leave src words) s fun t => (t.tile src.toNat).state = tileSafe ∧
        (t.tile src.toNat).reason = wGet (words.getD 0 0) 0 3) ∧
      (∀ v : Word, wGet v 16 8 = 0xA5 → wGet v 0 10 ≠ 0 → (s.dev.tile (wGet v 0 10)).state ≠ tileJoined →
        Completes (.eglTreset v) s fun t => (t.tile (wGet v 0 10)).state = tileResetting)) ∧
    (∀ tile : BitVec 10, s.dev.isManager = true → (s.dev.tile tile.toNat).state = tileJoined → tile.toNat ≠ s.dev.ownXY →
      Completes (.tileLost tile) s fun t => (t.tile tile.toNat).state = tileLost) ∧
    (∀ v : Word, wGet v 16 8 ≠ 0xA5 → Completes (.eglTreset v) s fun t =>
      t.fld SYS_WRIGN_COUNT = min (s.dev.fld SYS_WRIGN_COUNT + 1) (2 ^ SYS_WRIGN_COUNT.width - 1) ∧ s.dev.leaves t [SYS_WRIGN])

/-- For every state with its four ports, and every port. A signal in DETECT starts the training; comma alignment sends the
LINKCTL ID; an ID with the right kind and the opposite port starts 16 round trips, and any other kind is counted. A
DELAY_REQ is answered with its own number and the turnaround; a DELAY_RESP counts its round trip down. A training time-
out, the loss of the signal and 64 code errors on a port that is up or trains lead, with no earlier down in the window,
back to DETECT with reasons 4, 1 and 2, counted; the retrain delay starts over; a recalibration starts four round trips. A
keyed EGL_PCTL disables the ports it names, one without key is counted as ignored. With no injected fault, a fresh beacon
is taken with its number, hops and port by all but a manager, and one that fails its check is counted. A wake packet in
WATCH on a standalone tile asks for ACTIVE. Rests on R592, R593, R594, R621, R625, R626, R637, R638. -/
def Obligations.LinkPortsTrainAndFail : Prop :=
  ∀ (s : State) (port : BitVec 2) (p : Nat), port.toNat = p → s.dev.link.ports.length = 4 →
    (s.dev.fld (EGL_PSTAT_STATE p) = portDetect → (s.dev.port p).train = 1 → s.dev.mode ≠ modeWatch →
      Completes (.signalDetect port) s fun t => t.flag (EGL_PSTAT_SIG p) = true ∧ t.fld (EGL_PSTAT_STATE p) = portTraining ∧
        (t.port p).train = 2) ∧
    (s.dev.fld (EGL_PSTAT_STATE p) = portTraining →
      ((s.dev.port p).train = 2 → Completes (.commaAlignment port) s fun t => (t.port p).train = 3 ∧
        (t.port p).lastOut = [s.dev.idWord p] ∧ t.fld (EGL_PSTAT_STATE p) = portTraining) ∧
      (∀ w : Word, (s.dev.port p).train = 3 → (s.dev.port p).watchUp = false → wGet w 20 4 = 1 → wGet w 16 4 = 1 →
        wGet w 14 2 = opposite p → Completes (.linkctlId port w) s fun t => (t.port p).train = 5 ∧ (t.port p).trips = 16 ∧
          t.fld (EGL_PSTAT_PEERPORT p) = opposite p ∧ t.fld (EGL_PSTAT_PEERXY p) = wGet w 0 10)) ∧
    (∀ w : Word, wGet w 20 4 ≠ 1 → Completes (.linkctlId port w) s fun t => t.link = s.dev.link ∧
      t.fld (EGL_PCNT2_BADHDR p) = min (s.dev.fld (EGL_PCNT2_BADHDR p) + 1) (2 ^ (EGL_PCNT2_BADHDR p).width - 1) ∧
      s.dev.leaves t [(EGL_PCNT2_BADHDR p).addr]) ∧
    (∀ w turnaround : Word, wGet w 20 4 = 2 → s.dev.isUp p = true → Completes (.delayReq port w turnaround) s fun t =>
      (t.port p).lastOut = [pack [(3, 20), (wGet w 0 4, 0)], turnaround] ∧ s.dev.leaves t [(EGL_PKT_SENT p).addr]) ∧
    (∀ trip turnaround : Word, 1 < (s.dev.port p).trips → Completes (.delayResp port trip turnaround) s fun t =>
      (t.port p).trips = (s.dev.port p).trips - 1 ∧
      (t.port p).delays = ((2 * (trip.toNat - turnaround.toNat)) :: (s.dev.port p).delays).take 16) ∧
    ((s.dev.port p).downs = [] →
      (s.dev.fld (EGL_PSTAT_STATE p) = portTraining → Completes (.trainingTimeout port) s fun t =>
        t.fld (EGL_PSTAT_STATE p) = portDetect ∧ t.fld (EGL_PSTAT_REASON p) = 4 ∧ (t.port p).train = 0 ∧
        t.fld (EGL_PCNT_DOWNS p) = min (s.dev.fld (EGL_PCNT_DOWNS p) + 1) (2 ^ (EGL_PCNT_DOWNS p).width - 1)) ∧
      (s.dev.isUp p = true ∨ s.dev.fld (EGL_PSTAT_STATE p) = portTraining →
        (Completes (.signalLoss port) s fun t => t.flag (EGL_PSTAT_SIG p) = false ∧
          t.fld (EGL_PSTAT_STATE p) = portDetect ∧ t.fld (EGL_PSTAT_REASON p) = 1) ∧
        (Completes (.linkCodeErrors port) s fun t => t.fld (EGL_PSTAT_STATE p) = portDetect ∧
          t.fld (EGL_PSTAT_REASON p) = 2 ∧
          t.fld (EGL_PCNT2_CODEERR p) = min (s.dev.fld (EGL_PCNT2_CODEERR p) + 64) (2 ^ (EGL_PCNT2_CODEERR p).width - 1)))) ∧
    (s.dev.fld (EGL_PSTAT_STATE p) = portDetect → (s.dev.port p).train = 0 → s.dev.mode ≠ modeWatch →
      s.dev.flag (EGL_PSTAT_SIG p) = false → Completes (.retrainDelay port) s fun t => (t.port p).train = 1 ∧
        t.fld (EGL_PSTAT_STATE p) = portDetect) ∧
    (s.dev.isUp p = true → Completes (.delayRecalibration port) s fun t => (t.port p).trips = 4 ∧
      (t.port p).lastOut = [pack [(2, 20), (0, 0)]] ∧ s.dev.leaves t [(EGL_PKT_SENT p).addr]) ∧
    (∀ (v : Word) c, c = Instr.retrain v ∨ c = Instr.portDisable v →
      (wGet v 16 8 ≠ 0x5A → Completes c s fun t => t.link = s.dev.link ∧
        t.fld SYS_WRIGN_COUNT = min (s.dev.fld SYS_WRIGN_COUNT + 1) (2 ^ SYS_WRIGN_COUNT.width - 1) ∧
        s.dev.leaves t [SYS_WRIGN]) ∧
      (wGet v 16 8 = 0x5A → Completes c s fun t => t.fld EGL_PCTL_DISABLE = wGet v 0 4 ∧
        ((wGet v 0 4).testBit p = true → (s.dev.fld EGL_PCTL_DISABLE).testBit p = false →
          t.fld (EGL_PSTAT_STATE p) = portDisabled) ∧
        ((wGet v 0 4).testBit p = false → (s.dev.fld EGL_PCTL_DISABLE).testBit p = true →
          (s.dev.par secLink 0x01).testBit p = true → t.fld (EGL_PSTAT_STATE p) = portDetect ∧ (t.port p).train = 1))) ∧
    (s.dev.link.gate = false → ∀ ws (stay : BitVec 24),
      (s.dev.isManager = false → wGet (ws.getD 5 0) 8 6 ≤ 62 →
        (∀ m, s.dev.link.beacon = some m → 0 < frameDiff m (ws.getD 0 0).toNat) →
        (s.dev.isUp p = true → Completes (.beacon port true ws stay) s fun t =>
          t.link.beacon = some (ws.getD 0 0).toNat ∧ t.fld EGL_BCN_HOPS = wGet (ws.getD 5 0) 8 6 ∧ t.fld EGL_BCN_PORT = p) ∧
        (s.dev.mode = modeWatch → Completes (.watchBeacon port true ws stay) s fun t =>
          t.link.beacon = some (ws.getD 0 0).toNat ∧ t.fld EGL_BCN_HOPS = wGet (ws.getD 5 0) 8 6 ∧ t.fld EGL_BCN_PORT = p)) ∧
      (s.dev.isUp p = true → Completes (.beacon port false ws stay) s fun t =>
        t.fld EGL_BCN_BCNERR = min (s.dev.fld EGL_BCN_BCNERR + 1) (2 ^ EGL_BCN_BCNERR.width - 1) ∧ t.link = s.dev.link ∧
        s.dev.leaves t [EGL_BCN])) ∧
    (s.dev.mode = modeWatch → s.dev.modes.wokenInWatch = false → s.dev.isWorker = false → s.dev.onSurface = false →
      s.dev.fld PWR_WAKEEN_EN = 0 → ∀ ok, Completes (.wakePacket port true ok) s fun t =>
        t.modes.wake = some ⟨modeActive, none, 3⟩ ∧ t.modes.wokenInWatch = true ∧ t.flag (EGL_PSTAT_SIG p) = true ∧
        t.fld PWR_STAT_TARGET = modeActive)

/-- REORDER_RELEASE lets the frame held back at a point go: it is sent, counted, or taken as received. For every state with
its four ports, no fault injected and no frame held back, and every port that is up. A frame with a bad CRC, and one out
of order, are not accepted (the first is counted); a good one in order advances the expected number. ACK drops what it
acknowledges and takes FREE; NAK of a frame in the window and the resend time-out resend, counted; an aged packet is
discarded, counted. A lone packet in the arrival hold is delivered when its gap is skipped. OPERATION_ISSUE gives a lone
waiting operation the lowest free tag and its route's port; one starved is counted with source 164; a time-out before the
last attempt starts the next; a matching response ends the operation, another is discarded, counted; a held tag returns. A
duplicate gets the cached answer; PING and the remote accesses of a worker are answered; the remote window issues an
operation to a joined tile, and fails with error 1 for one that has not joined. Rests on R568, R569, R601, R602, R603,
R607, R610, R613, R615, R616, R617, R619. -/
def Obligations.LinkFramesAndOperations : Prop :=
  (∀ (s : State) (r : Nat × Nat × Bool × Packet) (point : BitVec 3) (p : Nat), s.dev.link.reorder = [r] → r.1 = point.toNat →
    (r.1 = 2 * p → Completes (.reorderRelease point) s fun t => t.link.reorder = [] ∧ s.dev.leaves t [EGL_PKT p] ∧
      t.fld (EGL_PKT_SENT p) = min (s.dev.fld (EGL_PKT_SENT p) + 1) (2 ^ (EGL_PKT_SENT p).width - 1)) ∧
    (r.1 = 2 * p + 1 → Completes (.reorderRelease point) s fun t =>
      t = (s.dev.setLink { s.dev.link with reorder := [] }).takeFrame p r.2.1 r.2.2.1 r.2.2.2)) ∧
  ∀ s : State, s.dev.link.ports.length = 4 → s.dev.link.gate = false → s.dev.link.reorder = [] →
    (∀ (port : BitVec 2) (p : Nat), port.toNat = p →
      (s.dev.isUp p = true →
        (∀ (seq : BitVec 4) w0 w1 payload, Completes (.sequencedFrame port seq false w0 w1 payload) s fun t =>
          t.fld (EGL_PCNT_CRCERR p) = min (s.dev.fld (EGL_PCNT_CRCERR p) + 1) (2 ^ (EGL_PCNT_CRCERR p).width - 1) ∧
          (t.port p).rxSeq = (s.dev.port p).rxSeq ∧ (t.port p).nakked = true ∧ s.dev.leaves t [(EGL_PCNT_CRCERR p).addr]) ∧
        (∀ (seq : BitVec 4) w0 w1 payload, (seq.toNat + 16 - (s.dev.port p).rxSeq) % 16 ∈ [1, 2, 3, 4, 5, 6, 7] →
          Completes (.sequencedFrame port seq true w0 w1 payload) s fun t => (t.port p).rxSeq = (s.dev.port p).rxSeq ∧
            (t.port p).nakked = true ∧ s.dev.leaves t []) ∧
        (∀ (seq : BitVec 4) w0 w1 payload, (seq.toNat + 16 - (s.dev.port p).rxSeq) % 16 = 0 → s.dev.inHeld p < 16 →
          Completes (.sequencedFrame port seq true w0 w1 payload) s fun t =>
            (t.port p).rxSeq = ((s.dev.port p).rxSeq + 1) % 16 ∧ (t.port p).nakked = false) ∧
        (∀ b : Byte, (s.dev.port p).queue = [] → Completes (.ack port b) s fun t =>
          (t.port p).window = dropAcked (s.dev.port p).window (b.toNat % 16) ∧ (t.port p).credit = b.toNat / 16 ∧
          t.fld (EGL_PINFL_FREE p) = b.toNat / 16) ∧
        (∀ b : Byte, ((s.dev.port p).window.any fun f => f.1 == b.toNat % 16) = true → (s.dev.port p).rounds < 16 →
          Completes (.nak port b) s fun t => (t.port p).window = (s.dev.port p).window ∧
            (t.port p).rounds = (s.dev.port p).rounds + 1 ∧ (t.port p).credit = b.toNat / 16 ∧
            t.fld (EGL_PCNT_RESEND p) = min (s.dev.fld (EGL_PCNT_RESEND p) + 1) (2 ^ (EGL_PCNT_RESEND p).width - 1)) ∧
        ((s.dev.port p).window ≠ [] → (s.dev.port p).rounds < 16 → Completes (.resendTimeout port) s fun t =>
          (t.port p).window = (s.dev.port p).window ∧ (t.port p).rounds = (s.dev.port p).rounds + 1 ∧
          t.fld (EGL_PCNT_RESEND p) = min (s.dev.fld (EGL_PCNT_RESEND p) + 1) (2 ^ (EGL_PCNT_RESEND p).width - 1))) ∧
      (∀ f rest, (s.dev.port p).queue = f :: rest → Completes (.packetAged port) s fun t => (t.port p).queue = rest ∧
        t.fld (EGL_PCNT2_AGED p) = min (s.dev.fld (EGL_PCNT2_AGED p) + 1) (2 ^ (EGL_PCNT2_AGED p).width - 1) ∧
        s.dev.leaves t [(EGL_PCNT2_AGED p).addr, (EGL_PINFL_OPS p).addr])) ∧
    (∀ h, s.dev.link.hold = [h] → h.2.fseq < 256 → keyGet s.dev.link.rxFlow (flowKey h.2.src h.2.cls) < 256 →
      Completes .gapSkip s fun t => t.link.hold = [] ∧ t.link.inbox = s.dev.link.inbox ++ [h] ∧
      t.fld EGL_E2E_GAPSKIP = min (s.dev.fld EGL_E2E_GAPSKIP + 1) (2 ^ EGL_E2E_GAPSKIP.width - 1) ∧ s.dev.leaves t [EGL_E2E]) ∧
    (∀ o tg r, s.dev.outbox = [] → s.dev.link.done = [] → s.dev.link.ops = [o] → o.tag = none → o.packet.dest ≠ s.dev.ownXY →
      s.dev.freeTag = some tg → s.dev.routeOf o.packet = some r → Completes .operationIssue s fun t =>
        t.link.ops = [{ o with tag := some tg, port := r.1 }] ∧ t.link.heldTags = s.dev.link.heldTags) ∧
    (∀ o rest, s.dev.link.ops = o :: rest → o.tag = none → o.starved = false → Completes .tagStarved s fun t =>
      t.link.ops = { o with starved := true } :: rest ∧
      t.fld EGL_STALL_STARVED = min (s.dev.fld EGL_STALL_STARVED + 1) (2 ^ EGL_STALL_STARVED.width - 1) ∧
      s.dev.leavesRing t [EGL_STALL]) ∧
    (∀ o (tag : BitVec 6), s.dev.link.done = [] → s.dev.link.ops = [o] → o.tag = some tag.toNat → o.result = none →
      o.attempt < 3 →
      Completes (.opAttemptTimeout tag) s fun t => t.link.ops = [{ o with attempt := o.attempt + 1 }] ∧
        t.fld EGL_OPS_RETRIES = min (s.dev.fld EGL_OPS_RETRIES + 1) (2 ^ EGL_OPS_RETRIES.width - 1)) ∧
    (∀ o (tag : BitVec 6) (src : BitVec 10), s.dev.outbox = [] → s.dev.link.done = [] → s.dev.link.ops = [o] →
      o.tag = some tag.toNat → o.result = none → o.attempt = 0 → o.dest = src.toNat →
      (∀ payload, o.requester = 0 → Completes (.operationResponse src tag payload) s fun t => t.link.ops = [] ∧
        t.link.done = [] ∧ t.link.heldTags = s.dev.link.heldTags) ∧
      (∀ value : Word, o.requester = 1 → remoteOp o = true → Completes (.remoteResp src tag value) s fun t => ∃ e : Dev,
        e.link.ops = [] ∧ e.link.done = [] ∧ e.link.heldTags = s.dev.link.heldTags ∧ e.surf = s.dev.surf ∧
        t = (e.windowDone { o with
          result := some (some ⟨1, false, false, 2, s.dev.ownXY, src.toNat, tag.toNat, 0,
          [word (msgRemoteResp * 65536), 0, value]⟩) }).settle 127)) ∧
    (∀ (tag : BitVec 6) (src : BitVec 10) payload, s.dev.link.done = [] → s.dev.link.ops = [] →
      Completes (.operationResponse src tag payload) s fun t =>
        t.fld EGL_OPS_DUPRESP = min (s.dev.fld EGL_OPS_DUPRESP + 1) (2 ^ EGL_OPS_DUPRESP.width - 1) ∧ t.link = s.dev.link ∧
        s.dev.leaves t [EGL_OPS_DUPRESP.addr]) ∧
    (∀ tag : BitVec 6, s.dev.outbox = [] → s.dev.link.ops = [] → Completes (.tagReturn tag) s fun t =>
      t.link.heldTags = s.dev.link.heldTags.erase tag.toNat ∧ t.link.ops = []) ∧
    (∀ h rest flips e, s.dev.link.inbox = h :: rest → h.2.cls = 1 → wGet (h.2.payload.getD 0 0) 8 2 ≠ 0 →
      (s.dev.link.cache.find? fun c => c.1 == cacheKey h.2) = some e → Completes (.requestDelivery flips) s fun t =>
        ∃ x : Dev, x.link = { s.dev.link with inbox := rest } ∧ s.dev.leaves x [] ∧
          t = x.respond h.2.src h.2.tag e.2.type (cachedWords e.2 h.2)) ∧
    (∀ e rest, s.dev.link.cache = e :: rest → Completes .duplicateCacheExpiry s fun t => t.link.cache = rest ∧
      t.link.cacheGone = s.dev.link.cacheGone ++ [e.1] ∧ s.dev.leaves t []) ∧
    (∀ (src : BitVec 10) (tag : BitVec 6) w echo, echo = ⟨6, false, false, 2, src.toNat, s.dev.ownXY, tag.toNat, 0, [w]⟩ →
      wGet w 8 2 = 0 → Completes (.ping src tag w) s fun t =>
      t = (s.dev.remember (src.toNat * 64 + tag.toNat) echo).launch echo ∧
      keyGet t.link.txFlow (flowKey src.toNat 2) = (keyGet s.dev.link.txFlow (flowKey src.toNat 2) + 1) % 256) ∧
    (s.dev.isWorker = true → s.dev.asleep = false → s.dev.modes.waking = false → ∀ (src : BitVec 10) (tag : BitVec 6),
      (Completes (.remoteRd src tag 0x0208) s fun t => t = s.dev.respond src.toNat tag.toNat 1
        [word (msgRemoteResp * 65536), 0x0208, s.dev.regWord .remote 0x0208]) ∧
      (∀ value, Completes (.remoteWr src tag 0x020A value) s fun t => ∃ e : Dev,
        e.reg 0x020A = (s.dev.reg 0x020A &&& ~~~ rwMask 0x020A) ||| (value &&& rwMask 0x020A) ∧ s.dev.leaves e [0x020A] ∧
        t = e.respond src.toNat tag.toNat 1 [word (msgRemoteResp * 65536), 0x020A, 0])) ∧
    (∀ rq (addr : BitVec 16) xy, s.dev.asleep = false → s.dev.isManager = true → addr.toNat < 0x2000 → s.dev.remoteXY rq = xy →
      xy ≠ 0 →
      (s.dev.hasJoined xy = true →
        (Completes (.remoteWindowRead rq addr) s fun t => ∃ e : Dev, t = e.issueOps.notePend ∧ e.outbox = s.dev.outbox ∧
          e.link.ops = s.dev.link.ops ++ [⟨rqCode rq, xy, ⟨1, false, false, 1, xy, s.dev.ownXY, 0, 0,
            [word (msgRemoteRd * 65536), word addr.toNat]⟩, none, 4, 0, false, false, none⟩] ∧
          e.fld EGL_RCNT_OPS = min (s.dev.fld EGL_RCNT_OPS + 1) (2 ^ EGL_RCNT_OPS.width - 1)) ∧
        (∀ value, Completes (.remoteWindowWrite rq addr value) s fun t => ∃ e : Dev, t = e.issueOps.notePend ∧
          e.outbox = s.dev.outbox ∧
          e.link.ops = s.dev.link.ops ++ [⟨rqCode rq, xy, ⟨1, false, false, 1, xy, s.dev.ownXY, 0, 0,
            [word (msgRemoteWr * 65536), word addr.toNat, value]⟩, none, 4, 0, false, false, none⟩] ∧
          e.fld EGL_RCNT_OPS = min (s.dev.fld EGL_RCNT_OPS + 1) (2 ^ EGL_RCNT_OPS.width - 1))) ∧
      (s.dev.hasJoined xy = false → ∀ value c, c = Instr.remoteWindowRead rq addr ∨ c = Instr.remoteWindowWrite rq addr value →
        Completes c s fun t => t.fld EGL_RSTAT_ERR = 1 ∧ t.fld EGL_RSTAT_ADDR = addr.toNat % 2 ^ EGL_RSTAT_ADDR.width ∧
          t.fld EGL_RCNT_FAIL = min (s.dev.fld EGL_RCNT_FAIL + 1) (2 ^ EGL_RCNT_FAIL.width - 1) ∧ t.link = s.dev.link ∧
          s.dev.rang t 187 (word addr.toNat) (pack [(1, 12), (xy, 0)]) ∧ s.dev.leavesRing t [EGL_RSTAT, EGL_RCNT]))

/-- For every state in which no repair runs, and every bank, word and master. Through port A the owner's write stores the word
and makes it good; its read leaves everything as it is when the word has no error, corrects and counts a single error, and
marks and counts an uncorrectable one (here in the first four banks); any other master is counted in NOTOWNER and changes
nothing. Port B does the same for any master, but a write that collides, or one by the memory window's code, is not
performed and is counted. An owner write makes a handover pending, by the present owner's code clears it, and by a host is
ignored but for bank 15; HANDOVER gives the bank to the pending owner. SCRUB of a good word goes to the next bank, and
after bank 15 to the next word; SCRUB_LATE is counted. A window write stores only in a bank the host owns. During a repair
the bank's accesses and its handover wait, and the window is denied. Rests on R649, R650, R652, R653, R656, R657, R658,
R659, R662, R663, R665, R671. -/
def Obligations.BanksAreAccessed : Prop :=
  ∀ s : State, s.dev.mem.repair = none → ∀ (bank master : BitVec 4) (w : BitVec 14) (b m n : Nat), bank.toNat = b →
    master.toNat = m → w.toNat = n →
    (s.dev.ownsBank b m = true →
      (∀ v, Completes (.portAAccess bank w master (some v) [] false) s fun t => t.bank b n = v ∧
        t.mem.bad.contains (bankAddr b n) = false ∧ t.regs = s.dev.regs ∧
        ∀ b' n', bankAddr b' n' ≠ bankAddr b n → t.bank b' n' = s.dev.bank b' n') ∧
      (s.dev.mem.bad.contains (bankAddr b n) = false →
        (Completes (.portAAccess bank w master none [] false) s fun t => t = s.dev) ∧
        (∀ f : BitVec 5, Completes (.portAAccess bank w master none [f] false) s fun t => t.mem.bad = s.dev.mem.bad ∧
          t.fld (MEM_CE_CE b) = min (s.dev.fld (MEM_CE_CE b) + 1) (2 ^ (MEM_CE_CE b).width - 1) ∧
          s.dev.leavesRing t [MEM_CE b, MEM_COL b]) ∧
        (∀ f g : BitVec 5, b < 4 → Completes (.portAAccess bank w master none [f, g] false) s fun t =>
          t.mem.bad = bankAddr b n :: s.dev.mem.bad ∧ t.reg MEM_UEADDR = pack [(m, 18), (b, 14), (n, 0)] ∧
          t.fld (MEM_CE_UE b) = min (s.dev.fld (MEM_CE_UE b) + 1) (2 ^ (MEM_CE_UE b).width - 1) ∧
          s.dev.rang t 129 (pack [(m, 18), (b, 14), (n, 0)]) (word (if m = 9 then 0 else 1)) ∧
          s.dev.leavesRing t [MEM_UEADDR, MEM_CE b]))) ∧
    (s.dev.ownsBank b m = false → ∀ wr flips waited, Completes (.portAAccess bank w master wr flips waited) s fun t =>
      t.fld MEM_DENY_NOTOWNER = min (s.dev.fld MEM_DENY_NOTOWNER + 1) (2 ^ MEM_DENY_NOTOWNER.width - 1) ∧
      t.mem = s.dev.mem ∧ s.dev.leaves t [MEM_DENY]) ∧
    (∀ v, m ≠ 8 → Completes (.portBAccess bank w master (some v) [] false false) s fun t => t.bank b n = v ∧
      t.mem.bad.contains (bankAddr b n) = false ∧ t.regs = s.dev.regs ∧
      ∀ b' n', bankAddr b' n' ≠ bankAddr b n → t.bank b' n' = s.dev.bank b' n') ∧
    (∀ v, 1 ≤ m → m ≤ 11 → m ≠ 8 → Completes (.portBAccess bank w master (some v) [] true true) s fun t =>
      t.fld (MEM_CONFL_WAITS m) = min (s.dev.fld (MEM_CONFL_WAITS m) + 1) (2 ^ (MEM_CONFL_WAITS m).width - 1) ∧
      t.fld (MEM_CONFL_COLLIDE m) = min (s.dev.fld (MEM_CONFL_COLLIDE m) + 1) (2 ^ (MEM_CONFL_COLLIDE m).width - 1) ∧
      t.mem = s.dev.mem ∧ s.dev.leaves t [MEM_CONFL m]) ∧
    (∀ v collide, m = 8 → Completes (.portBAccess bank w master (some v) [] false collide) s fun t =>
      t.fld MEM_WINCNT_DENIED = min (s.dev.fld MEM_WINCNT_DENIED + 1) (2 ^ MEM_WINCNT_DENIED.width - 1) ∧
      t.mem = s.dev.mem ∧ s.dev.leaves t [MEM_WINCNT]) ∧
    (s.dev.mem.bad.contains (bankAddr b n) = false →
      Completes (.portBAccess bank w master none [] false false) s fun t => t = s.dev) ∧
    (∀ owner : BitVec 4, b ≠ 8 → b ≠ 9 →
      (owner.toNat = s.dev.owner b → Completes (.ownerWrite none bank owner) s fun t => t.flag (MEM_OWN_PEND b) = false ∧
        t.owner b = s.dev.owner b ∧ s.dev.leaves t [MEM_OWN b]) ∧
      (owner.toNat ≠ s.dev.owner b → Completes (.ownerWrite none bank owner) s fun t => t.flag (MEM_OWN_PEND b) = true ∧
        t.fld (MEM_OWN_NEXT b) = owner.toNat ∧ t.owner b = s.dev.owner b ∧ s.dev.leaves t [MEM_OWN b])) ∧
    (∀ rq owner, b ≠ 15 → Completes (.ownerWrite (some rq) bank owner) s fun t => t.owner b = s.dev.owner b ∧
      t.reg (MEM_OWN b) = s.dev.reg (MEM_OWN b) ∧
      t.fld SYS_WRIGN_COUNT = min (s.dev.fld SYS_WRIGN_COUNT + 1) (2 ^ SYS_WRIGN_COUNT.width - 1)) ∧
    (s.dev.flag (MEM_OWN_PEND b) = true → Completes (.handover bank) s fun t => t.owner b = s.dev.fld (MEM_OWN_NEXT b) ∧
      t.flag (MEM_OWN_PEND b) = false ∧ s.dev.leaves t [MEM_OWN b]) ∧
    (s.dev.flag (MEM_OWN_PEND b) = false → Completes (.handover bank) s fun t => t = s.dev) ∧
    (s.dev.mode ≠ modeHibernate → 5 ≤ s.dev.pwr.step →
      s.dev.mem.bad.contains (bankAddr (s.dev.fld MEM_STAT_SCRUBBANK) (s.dev.fld MEM_SCRUBPOS_WORD)) = false →
      (s.dev.fld MEM_STAT_SCRUBBANK < 15 → Completes (.scrub [] 0) s fun t =>
        t.fld MEM_STAT_SCRUBBANK = s.dev.fld MEM_STAT_SCRUBBANK + 1 ∧ s.dev.leaves t [MEM_STAT]) ∧
      (s.dev.fld MEM_STAT_SCRUBBANK = 15 → s.dev.fld MEM_SCRUBPOS_WORD < 16383 → Completes (.scrub [] 0) s fun t =>
        t.fld MEM_STAT_SCRUBBANK = 0 ∧ t.fld MEM_SCRUBPOS_WORD = s.dev.fld MEM_SCRUBPOS_WORD + 1 ∧
        s.dev.leaves t [MEM_STAT, MEM_SCRUBPOS]) ∧
      (s.dev.fld MEM_STAT_SCRUBBANK = 15 → s.dev.fld MEM_SCRUBPOS_WORD = 16383 → Completes (.scrub [] 0) s fun t =>
        t.fld MEM_STAT_SCRUBBANK = 0 ∧ t.fld MEM_SCRUBPOS_WORD = 0 ∧
        t.fld MEM_SCRUB_PASSES = min (s.dev.fld MEM_SCRUB_PASSES + 1) (2 ^ MEM_SCRUB_PASSES.width - 1) ∧
        s.dev.leaves t [MEM_STAT, MEM_SCRUBPOS, MEM_SCRUB])) ∧
    (Completes .scrubLate s fun t =>
      t.fld MEM_SCRUB_LATE = min (s.dev.fld MEM_SCRUB_LATE + 1) (2 ^ MEM_SCRUB_LATE.width - 1) ∧ s.dev.leaves t [MEM_SCRUB]) ∧
    (∀ rq, s.dev.winBank rq = b →
      (s.dev.mem.bad.contains (bankAddr b n) = false → Completes (.memoryWindowRead rq w []) s fun t => t = s.dev ∧
        s.dev.windowWord rq n = s.dev.bank b n) ∧
      (s.dev.mem.bad.contains (bankAddr b n) = true → s.dev.windowWord rq n = 0) ∧
      (s.dev.owner b = 8 → ∀ v, Completes (.memoryWindowWrite rq w v) s fun t => t.bank b n = v ∧
        t.mem.bad.contains (bankAddr b n) = false ∧ t.regs = s.dev.regs) ∧
      (s.dev.owner b ≠ 8 → ∀ v, Completes (.memoryWindowWrite rq w v) s fun t =>
        t.fld MEM_WINCNT_DENIED = min (s.dev.fld MEM_WINCNT_DENIED + 1) (2 ^ MEM_WINCNT_DENIED.width - 1) ∧
        s.dev.leaves t [MEM_WINCNT])) ∧
    (∀ c rq, let u : State := ⟨{ s.dev with mem := { s.dev.mem with repair := some (b, c) } }, s.pending⟩
      (∀ wr flips waited collide,
        (Completes (.portAAccess bank w master wr flips waited) u fun t => t.banks = u.dev.banks ∧
          t.mem = { u.dev.mem with waiting := u.dev.mem.waiting ++ [⟨false, b, n, m, wr, flips, false⟩] } ∧
          u.dev.leaves t [MEM_CONFL m]) ∧
        (m ≠ 8 → Completes (.portBAccess bank w master wr flips waited collide) u fun t => t.banks = u.dev.banks ∧
          t.mem = { u.dev.mem with waiting := u.dev.mem.waiting ++ [⟨true, b, n, m, wr, flips, collide⟩] } ∧
          u.dev.leaves t [MEM_CONFL m])) ∧
      (Completes (.handover bank) u fun t => t = u.dev) ∧
      (u.dev.winBank rq = b → u.dev.windowWord rq n = 0 ∧ ∀ v flips c', c' = Instr.memoryWindowRead rq w flips ∨
        c' = Instr.memoryWindowWrite rq w v → Completes c' u fun t =>
          t.fld MEM_WINCNT_DENIED = min (u.dev.fld MEM_WINCNT_DENIED + 1) (2 ^ MEM_WINCNT_DENIED.width - 1) ∧
          u.dev.leaves t [MEM_WINCNT]))

/-- For every state, requester and word of the window, the selected bank not under repair (R671 rules that): a read of a word
with no error returns the bank's word, whoever owns the bank, and changes nothing (where the specification states no
layout, the word answered is free: log entry 41); a write to a bank of owner 8 stores the
word, and every other word of every bank stays; a write to a bank of any other owner adds one to DENIED up to its limit
and changes nothing else. While the selected bank is under repair a write is counted in DENIED too. Formalises R662. -/
def Obligations.WindowWritesNeedTheBank : Prop :=
  ∀ (s : State) (rq : Requester) (w : BitVec 14) (v : Word) (b : Nat), s.dev.winBank rq = b →
    (s.dev.taken b = false →
      (s.dev.mem.bad.contains (bankAddr b w.toNat) = false → s.dev.windowWord rq w.toNat = s.dev.bank b w.toNat ∧
        (layoutOpen b w.toNat = false → (s.dev.windowAnswer rq w.toNat).1 = s.dev.bank b w.toNat) ∧
        Completes (.memoryWindowRead rq w []) s fun t => t = s.dev) ∧
      (s.dev.fld (MEM_OWN_OWNER b) = 8 → Completes (.memoryWindowWrite rq w v) s fun t => t.bank b w.toNat = v ∧
        (∀ b' n', bankAddr b' n' ≠ bankAddr b w.toNat → t.bank b' n' = s.dev.bank b' n') ∧ t.regs = s.dev.regs ∧
        t.nvm = s.dev.nvm ∧ t.cfg = s.dev.cfg)) ∧
    (s.dev.taken b = true ∨ s.dev.fld (MEM_OWN_OWNER b) ≠ 8 → Completes (.memoryWindowWrite rq w v) s fun t =>
      t.fld MEM_WINCNT_DENIED = min (s.dev.fld MEM_WINCNT_DENIED + 1) (2 ^ MEM_WINCNT_DENIED.width - 1) ∧
      t.mem = s.dev.mem ∧ s.dev.leaves t [MEM_WINCNT])

/-- A REPAIR without the key is ignored and counted; with it, outside SERVICE and SAFE's full set, with no free spare, or for
a column that cannot be repaired, only MEM_REPSTAT takes the result and the request. Otherwise MEM_REPSTAT and MEM_STAT
show the repair running and VTX is taken to its level. REPAIR_VTX_READY ends the repair that runs: in canonical memories
every bank but the copy bank and the rings' bank keeps its words, and the copy bank (15, or 14 for bank 15) holds the
repaired bank's; the spare entry and its fuses show the column valid, or killed where its read-back fails; RESULT is 1, or
6 where a check fails; the uncorrectable words are counted in MEM_REPAIR, raised with MEM_REPSTAT. REPAIR_VTX_TIMEOUT ends
it with RESULT 5 and changes no spare. With no repair running both have no effect. Rests on R670, R671, R672, R675, R676. -/
def Obligations.ColumnsAreRepaired : Prop :=
  ∀ s : State,
    (∀ rq v, wGet v 16 8 ≠ 0x5A → Completes (.repair rq v) s fun t =>
      t.fld SYS_WRIGN_COUNT = min (s.dev.fld SYS_WRIGN_COUNT + 1) (2 ^ SYS_WRIGN_COUNT.width - 1) ∧ t.mem = s.dev.mem ∧
      s.dev.leaves t [SYS_WRIGN]) ∧
    (∀ rq v, wGet v 16 8 = 0x5A → s.dev.mem.repair = none →
      (s.dev.repairCheck (wGet v 10 4) (wGet v 0 10) ≠ 0 → Completes (.repair rq v) s fun t =>
        t.reg MEM_REPSTAT = pack [(s.dev.repairCheck (wGet v 10 4) (wGet v 0 10), 20), (wGet v 10 4, 15), (wGet v 0 10, 0)] ∧
        t.mem = s.dev.mem ∧ s.dev.leaves t [MEM_REPSTAT]) ∧
      (s.dev.serviceOpen = false → s.dev.repairCheck (wGet v 10 4) (wGet v 0 10) = 2) ∧
      (s.dev.serviceOpen = true → s.dev.freeSpare (wGet v 10 4) = none → s.dev.repairCheck (wGet v 10 4) (wGet v 0 10) = 3) ∧
      (s.dev.serviceOpen = true → ∀ sp, s.dev.freeSpare (wGet v 10 4) = some sp →
        (959 < wGet v 0 10 → s.dev.repairCheck (wGet v 10 4) (wGet v 0 10) = 4) ∧
        (wGet v 0 10 ≤ 959 → s.dev.replacedColumn (wGet v 10 4) (wGet v 0 10) = false → s.dev.flag RAIL_STAT_FIXED = false →
          Completes (.repair rq v) s fun t =>
          t.mem.repair = some (wGet v 10 4, wGet v 0 10) ∧ t.rail.vtxTgt = 9000 ∧
          t.reg MEM_REPSTAT = pack [(1, 19), (wGet v 10 4, 15), (sp, 14), (wGet v 0 10, 0)] ∧
          t.flag MEM_STAT_REPAIRING = true ∧
          s.dev.leaves t [MEM_REPSTAT, MEM_STAT, RAIL_STAT, RAIL_SUPERSEDED]))) ∧
    (s.dev.mem.repair = none → (∀ f v, Completes (.repairVtxReady f v) s fun t => t = s.dev) ∧
      Completes .repairVtxTimeout s fun t => t = s.dev) ∧
    (∀ b c, s.dev.mem.repair = some (b, c) → s.dev.mem.console = false → s.dev.mem.waiting = [] → b < 16 → c ≤ 959 →
      (∀ f v, Completes (.repairVtxReady f v) s fun t => t.mem.repair = none ∧ t.flag MEM_REPSTAT_BUSY = false ∧
        t.flag MEM_STAT_REPAIRING = false ∧ t.fld MEM_REPSTAT_RESULT = (if f = true ∧ v = true then 1 else 6) ∧
        t.fuses.spares = s.dev.fuses.spares.set b (t.reg (MEM_SPARE b)) ∧
        (∀ b' n, b' < 16 → b' ≠ 8 → b' ≠ (if b = 15 then 14 else 15) → t.bank b' n = s.dev.bank b' n) ∧
        (s.dev.fld MEM_REPSTAT_SPARE = 0 → f = true → t.flag (MEM_SPARE_V0 b) = true ∧ t.flag (MEM_SPARE_K0 b) = false ∧
          t.fld (MEM_SPARE_C0 b) = c) ∧
        (s.dev.fld MEM_REPSTAT_SPARE = 1 → f = true → t.flag (MEM_SPARE_V1 b) = true ∧ t.flag (MEM_SPARE_K1 b) = false ∧
          t.fld (MEM_SPARE_C1 b) = c) ∧
        (s.dev.fld MEM_REPSTAT_SPARE = 0 → f = false → t.flag (MEM_SPARE_K0 b) = true) ∧
        (s.dev.fld MEM_REPSTAT_SPARE = 1 → f = false → t.flag (MEM_SPARE_K1 b) = true) ∧
        (Memory.wf s = true → b ≠ 8 → ∀ n, n < 16384 → layoutOpen b n = false →
          t.bank (if b = 15 then 14 else 15) n = s.dev.bank b n) ∧
        ∃ (e : Dev) (w : Word), t = e.ring 132 (t.reg MEM_REPSTAT) w) ∧
      (Completes .repairVtxTimeout s fun t => t.mem.repair = none ∧ t.fld MEM_REPSTAT_RESULT = 5 ∧
        t.flag MEM_REPSTAT_BUSY = false ∧ t.flag MEM_STAT_REPAIRING = false ∧ t.fuses = s.dev.fuses ∧
        t.reg (MEM_SPARE b) = s.dev.reg (MEM_SPARE b) ∧ (∀ b' n, b' ≠ 8 → t.bank b' n = s.dev.bank b' n) ∧
        ∃ e : Dev, t = e.ring 132 (t.reg MEM_REPSTAT) 0#24))

/-- For every state with its eight channels. A command to a channel that is not a host channel is ignored and counted. PUSH
queues the staged descriptor, which an idle channel takes at once, and shows 1; with the queue full (2) or a value out of
range (3) it is rejected and counted. RESUME leaves the fault and goes on at the word; SKIP goes to the next element; both
are ignored and counted on a channel that has not faulted. ABORT drops the active descriptor, and the next takes its
place; FLUSH drops all. GATHER_BURST does nothing in HIBERNATE or with no active channel; with one ready channel whose
pages are checked it is that channel's burst, and a clean local burst copies the words, as far as the end of 8 source
words, of the destination page or of the element. A GATHER read that is barred is answered without words and counted; one
that is not is answered with the words. Rests on R677, R678, R679, R681, R685, R686, R687, R690, R691, R700, R701, R703. -/
def Obligations.GatherMovesWords : Prop :=
  ∀ s : State, s.dev.gde.channels.length = 8 → (∀ (channel : BitVec 3) (c : Nat), channel.toNat = c →
    (2 ≤ c → ∀ i, i ∈ [Instr.gdePush channel, .gdeResume channel, .gdeSkip channel, .gdeAbort channel, .gdeFlush channel] →
      Completes i s fun t => t.gde = s.dev.gde ∧ s.dev.leaves t [SYS_WRIGN] ∧
        t.fld SYS_WRIGN_COUNT = min (s.dev.fld SYS_WRIGN_COUNT + 1) (2 ^ SYS_WRIGN_COUNT.width - 1)) ∧
    (c < 2 →
      (4 ≤ (s.dev.chan c).queue.length → s.dev.pushResult c = 2) ∧
      ((s.dev.chan c).queue.length < 4 → s.dev.fld (GDE_SCTL_NELEM c) = 0 ∨ 16 < s.dev.fld (GDE_SCTL_NELEM c) →
        s.dev.pushResult c = 3) ∧
      (s.dev.pushResult c = 1 → (s.dev.chan c).active = none → (s.dev.chan c).queue = [] →
        Completes (.gdePush channel) s fun t =>
        (t.chan c).active = some (s.dev.staged c).2 ∧ (t.chan c).queue = [] ∧ (t.chan c).elem = 0 ∧ (t.chan c).word = 0 ∧
        t.fld (if c = 0 then GDE_PUSHRES_CH0 else GDE_PUSHRES_CH1) = 1 ∧ s.dev.leaves t [GDE_PUSHRES, GDE_CSTAT c]) ∧
      (∀ e, s.dev.pushResult c = 1 → (s.dev.chan c).active = some e → Completes (.gdePush channel) s fun t =>
        t.chan c = { s.dev.chan c with queue := (s.dev.chan c).queue ++ [(s.dev.staged c).2] } ∧
        t.fld (if c = 0 then GDE_PUSHRES_CH0 else GDE_PUSHRES_CH1) = 1 ∧ s.dev.leaves t [GDE_PUSHRES, GDE_CSTAT c]) ∧
      (s.dev.pushResult c ≠ 1 → Completes (.gdePush channel) s fun t => t.gde = s.dev.gde ∧
        t.fld (if c = 0 then GDE_PUSHRES_CH0 else GDE_PUSHRES_CH1) = s.dev.pushResult c ∧
        t.fld GDE_CNT_REJECT = min (s.dev.fld GDE_CNT_REJECT + 1) (2 ^ GDE_CNT_REJECT.width - 1) ∧
        s.dev.leaves t [GDE_PUSHRES, GDE_CNT]) ∧
      (s.dev.chanFaulted c = false → ∀ i, i = Instr.gdeResume channel ∨ i = Instr.gdeSkip channel → Completes i s fun t =>
        t.gde = s.dev.gde ∧ s.dev.leaves t [SYS_WRIGN] ∧
        t.fld SYS_WRIGN_COUNT = min (s.dev.fld SYS_WRIGN_COUNT + 1) (2 ^ SYS_WRIGN_COUNT.width - 1)) ∧
      (s.dev.chanFaulted c = true →
        (Completes (.gdeResume channel) s fun t => t.chanFaulted c = false ∧
          t.chan c = { s.dev.chan c with asked := (s.dev.chan c).word } ∧ s.dev.leaves t [GDE_STAT, GDE_CSTAT c]) ∧
        (∀ e, (s.dev.chan c).active = some e → (s.dev.chan c).elem + 1 < e.elems.length →
          Completes (.gdeSkip channel) s fun t =>
          t.chanFaulted c = false ∧ (t.chan c).active = some e ∧ (t.chan c).elem = (s.dev.chan c).elem + 1 ∧
          (t.chan c).word = 0 ∧ (t.chan c).skipped = true ∧ s.dev.leaves t [GDE_STAT, GDE_CSTAT c])) ∧
      (Completes (.gdeAbort channel) s fun t => (t.chan c).active = (s.dev.chan c).queue.head? ∧
        (t.chan c).queue = (s.dev.chan c).queue.tail ∧ t.chanFaulted c = false ∧ s.dev.leaves t [GDE_STAT, GDE_CSTAT c]) ∧
      (Completes (.gdeFlush channel) s fun t => (t.chan c).active = none ∧ (t.chan c).queue = [] ∧ t.chanFaulted c = false ∧
        s.dev.leaves t [GDE_STAT, GDE_CSTAT c]))) ∧
    (∀ flips collide waits, s.dev.mode = modeHibernate ∨ (∀ c < 8, (s.dev.chan c).active = none) →
      Completes (.gatherBurst flips collide waits) s fun t => t = s.dev) ∧
    (∀ c src dst, s.dev.mode ≠ modeHibernate → c < 8 → (∀ k < 8, k ≠ c → (s.dev.chan k).active = none) →
      (s.dev.chan c).active ≠ none → s.dev.chanFaulted c = false → (s.dev.chan c).srcEnt = some src →
      (s.dev.chan c).dstEnt = some dst → entRemote src = false → s.dev.mem.repair = none →
      (∀ flips collide (waits : BitVec 5), Completes (.gatherBurst flips collide waits) s fun t =>
        t = s.dev.burst c flips collide waits.toNat) ∧
      (∀ e base len, (s.dev.chan c).active = some e → e.elems[(s.dev.chan c).elem]? = some (base, len) → ∀ a b n : Nat,
        a = base + (s.dev.chan c).word → b = e.place (s.dev.chan c).elem + (s.dev.chan c).word →
        n = min (min (8 - a % 8) (1024 - b % 1024)) (len - (s.dev.chan c).word) → entOwner src ≠ 6 → entOwner dst ≠ 6 →
        entBank dst ≠ 8 → (∀ i < n, s.dev.mem.bad.contains (bankAddr (entBank src) (entWord src (a + i))) = false ∧
          layoutOpen (entBank src) (entWord src (a + i)) = false) →
        Completes (.gatherBurst [] [] 0) s fun t =>
          ∀ i < n, t.bank (entBank dst) (entWord dst (b + i)) = s.dev.bank (entBank src) (entWord src (a + i)))) ∧
    (∀ (src : BitVec 10) (tag : BitVec 6) (w0 w1 : Word) (n bank w : Nat), n = wGet w0 0 7 → bank = wGet w1 14 4 →
      w = wGet w1 0 14 →
      (src ≠ 0 ∨ s.dev.isWorker = false ∨ s.dev.flag EGL_TILE_JOINED = false ∨ bank = 8 ∨ bank = 9 ∨ 16384 < w + n ∨
          wGet w0 20 4 ≠ 1 ∨ n = 0 ∨ 64 < n → ∀ flips, Completes (.gatherRead src tag w0 w1 flips) s fun t =>
        ∃ e : Dev, e.fld GDE_CNT_REJECT = min (s.dev.fld GDE_CNT_REJECT + 1) (2 ^ GDE_CNT_REJECT.width - 1) ∧
          s.dev.leaves e [GDE_CNT] ∧ e.link = s.dev.link ∧ t = e.respond src.toNat tag.toNat 3 []) ∧
      (src = 0 → s.dev.isWorker = true → s.dev.flag EGL_TILE_JOINED = true → bank ∉ [8, 9, 12, 13] → w + n ≤ 16384 →
        wGet w0 20 4 = 1 → 1 ≤ n → n ≤ 64 → (∀ i < n, s.dev.mem.bad.contains (bankAddr bank (w + i)) = false) →
        Completes (.gatherRead src tag w0 w1 []) s fun t =>
          t = s.dev.respond 0 tag.toNat 3 ((List.range n).map fun i => s.dev.bank bank (w + i))))

/-- For every state. A VTX or VLED command in range sets its target, or waits where commands do not act, or ends at once where
it is settled; one out of range is clamped and counted; a superseded one is counted. REFERENCE_UPDATE takes the measured
outputs and moves each reference one step. RAIL_DONE and DEMAND_UPDATE act where their condition holds. SOFT_START_END
regulates, and VTX goes back to the regulator at once or in the next frame gap. A short takes VTX to the pump and VLED to
the retry, or after the fourth attempt to latch-off; SHORT_RETRY and CLEARLATCH start the next soft start. RAIL_OVERVOLT
and VHV_ABOVE_50V stop the boost, RAIL_VTX_FAULT is reported and, of kinds 2 and 3, turns VTX off until VTX_FAULT_RESTART.
Rests on R713, R714, R715, R716, R718, R719, R720, R723, R735, R736, R739, R740. -/
def Obligations.RailsAreCommanded : Prop :=
  ∀ s : State,
    (∀ (value : Word) (v tag : Nat), v = wGet value 0 11 → tag = wGet value 16 8 → s.dev.flag RAIL_STAT_FIXED = false →
      (s.dev.railActs false = false → v < 600 → Completes (.vtxCommand value) s fun t =>
        ∃ e : Dev, e = (s.dev.bump RAIL_CNT_CLAMPS).ring 70 (pack [(1, 23), (v, 0)]) (word 600) ∧
          t = e.setRail { e.rail with vtxWant := 6000 }) ∧
      (600 ≤ v → v ≤ 2000 →
        (s.dev.railActs false = false → Completes (.vtxCommand value) s fun t =>
          t = s.dev.setRail { s.dev.rail with vtxWant := v * 10 }) ∧
        (s.dev.railActs false = true → s.dev.rail.vtxTgt ≠ v * 10 →
          (s.dev.rail.vtxCmd = none → Completes (.vtxCommand value) s fun t => t.rail.vtxTgt = v * 10 ∧
            t.rail.vtxWant = v * 10 ∧ t.rail.vtxCmd = some tag ∧ s.dev.leaves t [RAIL_SUPERSEDED]) ∧
          (∀ old, s.dev.rail.vtxCmd = some old → Completes (.vtxCommand value) s fun t => t.rail.vtxTgt = v * 10 ∧
            t.rail.vtxCmd = some tag ∧ s.dev.leaves t [RAIL_SUPERSEDED] ∧
            t.fld RAIL_SUPERSEDED_VTX = min (s.dev.fld RAIL_SUPERSEDED_VTX + 1) (2 ^ RAIL_SUPERSEDED_VTX.width - 1))) ∧
        (s.dev.railActs false = true → s.dev.rail.vtxTgt = v * 10 → s.dev.rail.vtxRef = v * 10 → s.dev.rail.vtxCmd = none →
          near2 s.dev.rail.vtx (v * 10) = true → Completes (.vtxCommand value) s fun t =>
            t.fld RAIL_LASTTAG_VTX = tag ∧ s.dev.rang t 64 (pack [(1, 23), (tag, 0)]) (word v) ∧
            s.dev.leavesRing t [RAIL_LASTTAG]))) ∧
    (∀ (value : Word) (v tag : Nat), v = wGet value 0 13 → tag = wGet value 16 8 → 800 ≤ v → v ≤ 4800 →
      s.dev.rail.vtxTgt / 10 + 200 ≤ v → s.dev.rail.vtxWant / 10 + 200 ≤ v →
      (s.dev.railActs false = false → Completes (.vledFixed value) s fun t => t.flag RAIL_STAT_FIXED = true ∧
        t.rail = { s.dev.rail with vledFixed := v * 10 } ∧ s.dev.leaves t [RAIL_STAT]) ∧
      (s.dev.railActs false = true → s.dev.boostFitted = true → s.dev.rail.vledSoft = none → s.dev.rail.vledTgt ≠ v * 10 →
        Completes (.vledFixed value) s fun t => t.flag RAIL_STAT_FIXED = true ∧ t.rail.vledTgt = v * 10 ∧
          t.rail.vledFixed = v * 10 ∧ t.rail.vledCmd = some tag ∧ s.dev.leaves t [RAIL_STAT, RAIL_SUPERSEDED])) ∧
    (∀ (value : Word) (tag : Nat), tag = wGet value 16 8 →
      (s.dev.railActs false = false → Completes (.vledAdaptive value) s fun t => t.flag RAIL_STAT_FIXED = false ∧
        t.rail = s.dev.rail ∧ s.dev.leaves t [RAIL_STAT]) ∧
      (s.dev.railActs false = true → s.dev.boostFitted = true → s.dev.rail.vledSoft = none →
        s.dev.rail.vledTgt ≠ s.dev.adaptiveVled →
        Completes (.vledAdaptive value) s fun t => t.flag RAIL_STAT_FIXED = false ∧ t.rail.vledTgt = s.dev.adaptiveVled ∧
          t.rail.vledCmd = some tag ∧ s.dev.leaves t [RAIL_STAT, RAIL_SUPERSEDED])) ∧
    (∀ (vhv vtx : BitVec 13) pass,
      (s.dev.rail.on = false → Completes (.referenceUpdate vhv vtx pass) s fun t =>
        t = s.dev.setRail { s.dev.rail with vhv := vhv.toNat * 10, vtx := vtx.toNat * 10 }) ∧
      (s.dev.rail.on = true → s.dev.rail.vledSoft = none → s.dev.rail.vtxSoft = none →
        Completes (.referenceUpdate vhv vtx pass) s fun t => t.rail.vhv = vhv.toNat * 10 ∧ t.rail.vtx = vtx.toNat * 10 ∧
          t.rail.vledTgt = s.dev.rail.vledTgt ∧ t.rail.vtxTgt = s.dev.rail.vtxTgt ∧
          t.rail.vtxRef = slewRef s.dev.rail.vtxRef s.dev.rail.vtxTgt (s.dev.par secRails 0x07) (vtx.toNat * 10) ∧
          t.rail.vledRef = (if s.dev.boostRuns then
            slewRef s.dev.rail.vledRef s.dev.rail.vledTgt (s.dev.par secRails 0x07) (vhv.toNat * 10) else s.dev.rail.vledRef) ∧
          s.dev.leaves t [RAIL_STAT])) ∧
    (∀ tag, s.dev.rail.vtxCmd = some tag → tag < 256 → s.dev.rail.vtxRef = s.dev.rail.vtxTgt →
      (near2 s.dev.rail.vtx s.dev.rail.vtxTgt = true → Completes (.railDone true) s fun t => t.rail.vtxCmd = none ∧
        t.fld RAIL_LASTTAG_VTX = tag ∧ s.dev.rang t 64 (pack [(1, 23), (tag, 0)]) (word (s.dev.rail.vtxTgt / 10)) ∧
        s.dev.leavesRing t [RAIL_LASTTAG]) ∧
      (near2 s.dev.rail.vtx s.dev.rail.vtxTgt = false → Completes (.railDone true) s fun t => t = s.dev)) ∧
    (∀ tag, s.dev.rail.vledCmd = some tag → tag < 256 → s.dev.rail.vledRef = s.dev.rail.vledTgt → s.dev.rail.vledSoft = none →
      near2 s.dev.rail.vhv s.dev.rail.vledTgt = true → Completes (.railDone false) s fun t => t.rail.vledCmd = none ∧
        t.fld RAIL_LASTTAG_VLED = tag ∧ s.dev.rang t 64 (word tag) (word (s.dev.rail.vledTgt / 10)) ∧
        s.dev.leavesRing t [RAIL_LASTTAG]) ∧
    (Completes .demandUpdate s fun t => ∃ e : Dev, s.dev.leaves e [RAIL_DEMAND] ∧ e.rail = s.dev.rail ∧ t = e.retargetVled ∧
      (s.dev.lampDemand = none → e.fld RAIL_DEMAND_V = 0) ∧
      ∀ v, s.dev.lampDemand = some v → v ≤ 8000 → e.fld RAIL_DEMAND_V = v + 60) ∧
    (∀ p, s.dev.rail.vledSoft = some p → s.dev.rail.vtxOff = false →
      (s.dev.scan.cur.isSome = true → Completes .softStartEnd s fun t => t.rail.vledSoft = none ∧ t.rail.vtxBack = true ∧
        t.rail.vledRef = s.dev.rail.vledTgt ∧ t.rail.vledTgt = s.dev.rail.vledNext.getD s.dev.rail.vledTgt ∧
        t.fld RAIL_STAT_ATTEMPT = 0 ∧ t.boostRuns = true ∧ s.dev.leaves t [RAIL_STAT]) ∧
      (s.dev.scan.cur = none → s.dev.flag RAIL_STAT_DEGRADED = false → Completes .softStartEnd s fun t =>
        t.rail.vledSoft = none ∧ t.fld RAIL_STAT_VTXSRC = 1 ∧ t.rail.vtxRef = s.dev.rail.vtx ∧
        t.rail.vtxSoft = some (s.dev.rail.vtx, 0) ∧ t.fld RAIL_STAT_ATTEMPT = 0 ∧ s.dev.leaves t [RAIL_STAT]) ∧
      (s.dev.scan.cur = none → s.dev.flag RAIL_STAT_DEGRADED = true → Completes .softStartEnd s fun t =>
        t.flag RAIL_STAT_DEGRADED = false ∧ t.fld RAIL_STAT_VTXSRC = 1 ∧ s.dev.rang t 66 0 (word (s.dev.rail.vtx / 10)) ∧
        s.dev.leavesRing t [RAIL_STAT])) ∧
    (s.dev.rail.vledSoft = none → Completes .softStartEnd s fun t => t = s.dev) ∧
    (s.dev.rail.vtxBack = true → s.dev.scan.cur = none → s.dev.flag RAIL_STAT_DEGRADED = false →
      Completes .vtxToRegulator s fun t =>
      t.fld RAIL_STAT_VTXSRC = 1 ∧ t.rail.vtxBack = false ∧ t.rail.vtxRef = s.dev.rail.vtx ∧ t.rail.vtxSoft = none ∧
      s.dev.leaves t [RAIL_STAT]) ∧
    (s.dev.rail.vtxBack = false → Completes .vtxToRegulator s fun t => t = s.dev) ∧
    (∀ vhv : BitVec 13, s.dev.rail.vtxOff = false →
      (∀ p a, s.dev.rail.vledSoft = some p → s.dev.fld RAIL_STAT_ATTEMPT = a → Completes (.railShort vhv) s fun t =>
        t.rail.vledSoft = none ∧ t.fld RAIL_STAT_VTXSRC = 2 ∧ t.flag RAIL_STAT_DEGRADED = true ∧
        t.fld RAIL_CNT_SHORTS = min (s.dev.fld RAIL_CNT_SHORTS + 1) (2 ^ RAIL_CNT_SHORTS.width - 1) ∧
        t.fld RAIL_STAT_ATTEMPT = a ∧ t.fld RAIL_STAT_VLEDST = (if 4 ≤ a then 6 else 5) ∧
        (4 ≤ a → ∃ e : Dev, t = e.ring 67 (word a) 0) ∧
        s.dev.leavesRing t [RAIL_STAT, RAIL_CNT, RAIL_SUPERSEDED, LAMP_TRIP, LAMP_CNT]) ∧
      (s.dev.rail.vledSoft = none → Completes (.railShort vhv) s fun t => t = s.dev) ∧
      (s.dev.boostRuns = true → Completes (.runningShort vhv) s fun t =>
        t.fld RAIL_STAT_VTXSRC = 2 ∧ t.flag RAIL_STAT_DEGRADED = true ∧
        t.fld RAIL_CNT_SHORTS = min (s.dev.fld RAIL_CNT_SHORTS + 1) (2 ^ RAIL_CNT_SHORTS.width - 1) ∧
        t.fld RAIL_STAT_ATTEMPT = 1 ∧ t.fld RAIL_STAT_VLEDST = 5 ∧
        s.dev.leavesRing t [RAIL_STAT, RAIL_CNT, RAIL_SUPERSEDED, LAMP_TRIP, LAMP_CNT])) ∧
    (s.dev.fld RAIL_STAT_VLEDST = 5 → s.dev.fld RAIL_STAT_ATTEMPT < 7 → Completes .shortRetry s fun t =>
      t.fld RAIL_STAT_VLEDST = 1 ∧ t.fld RAIL_STAT_ATTEMPT = s.dev.fld RAIL_STAT_ATTEMPT + 1 ∧
      t.rail.vledSoft = some (s.dev.rail.vhv, 0) ∧ t.rail.vledRef = s.dev.rail.vhv ∧ s.dev.leaves t [RAIL_STAT]) ∧
    (s.dev.fld RAIL_STAT_VLEDST ≠ 5 → Completes .shortRetry s fun t => t = s.dev) ∧
    (∀ value : Word,
      (wGet value 16 8 ≠ 0x5A → Completes (.clearlatch value) s fun t => s.dev.leaves t [SYS_WRIGN] ∧
        t.fld SYS_WRIGN_COUNT = min (s.dev.fld SYS_WRIGN_COUNT + 1) (2 ^ SYS_WRIGN_COUNT.width - 1)) ∧
      (wGet value 16 8 = 0x5A → wGet value 0 1 = 1 → s.dev.fld RAIL_STAT_VLEDST = 6 → Completes (.clearlatch value) s fun t =>
        t.fld RAIL_STAT_VLEDST = 1 ∧ t.fld RAIL_STAT_ATTEMPT = 1 ∧ t.rail.vledSoft = some (s.dev.rail.vhv, 0) ∧
        s.dev.leaves t [RAIL_STAT])) ∧
    (∀ vhv : BitVec 13, (s.dev.boostRuns = true → s.dev.rail.overTick = none → Completes (.railOvervolt vhv) s fun t =>
        t.flag RAIL_STAT_OVERVOLT = true ∧ t.rail.gateLow = true ∧
        s.dev.rang t 69 (word vhv.toNat) (word (s.dev.rail.vledTgt / 10)) ∧ s.dev.leavesRing t [RAIL_STAT]) ∧
      (Completes (.vhvAbove50v vhv) s fun t => t.flag RAIL_STAT_OVERVOLT = true ∧ t.rail.gateLow = true ∧
        t.rail.disOpen = true ∧ s.dev.rang t 69 (word vhv.toNat) (word (s.dev.rail.vledTgt / 10)) ∧
        s.dev.leavesRing t [RAIL_STAT])) ∧
    (∀ vtx : BitVec 13, s.dev.rail.on = true →
      (Completes (.railVtxFault 1 vtx) s fun t => t.flag RAIL_STAT_VTXFAULT = true ∧ t.rail = s.dev.rail ∧
        t.fld RAIL_CNT_VTXFAULTS = min (s.dev.fld RAIL_CNT_VTXFAULTS + 1) (2 ^ RAIL_CNT_VTXFAULTS.width - 1) ∧
        s.dev.rang t 68 (word 1) (word vtx.toNat) ∧ s.dev.leavesRing t [RAIL_STAT, RAIL_CNT]) ∧
      (∀ k : BitVec 2, k = 2 ∨ (k = 3 ∧ s.dev.fld RAIL_STAT_VTXSRC = 2) → Completes (.railVtxFault k vtx) s fun t =>
        t.flag RAIL_STAT_VTXFAULT = true ∧ t.fld RAIL_STAT_VTXSRC = 0 ∧ t.rail.vtxOff = true ∧ t.rail.vtxCmd = none ∧
        t.fld RAIL_CNT_VTXFAULTS = min (s.dev.fld RAIL_CNT_VTXFAULTS + 1) (2 ^ RAIL_CNT_VTXFAULTS.width - 1) ∧
        s.dev.leavesRing t [RAIL_STAT, RAIL_CNT, RAIL_SUPERSEDED])) ∧
    (s.dev.rail.vtxOff = true → s.dev.flag RAIL_STAT_DEGRADED = false → Completes .vtxFaultRestart s fun t =>
      t.fld RAIL_STAT_VTXSRC = (if s.dev.boostRuns then 1 else 2) ∧ t.rail.vtxOff = false ∧
      t.rail.vtxSoft = some (s.dev.rail.vtx, 0) ∧ s.dev.leaves t [RAIL_STAT]) ∧
    (s.dev.rail.vtxOff = false → Completes .vtxFaultRestart s fun t => t = s.dev)

/-- For every state with its eight sinks. A LAMP_COMMAND in a mode where commands act starts each lamp it reaches from its
present level, leaves every other lamp, and is refused and counted where R746 and R767 refuse it. FADE_TICK moves every
lamp one step. While the rail does not regulate, PWM_PERIOD and REFRESH_PERIOD take the new levels to the on-chip and the
external lamps, and the measured sinks take the measurement. BYPASS_CLAMP is recorded, and in two periods in a row
declares the tap lamp open. CHAIN_CHECK shows whether the chain matched, counts an error, breaks it at the second in a row
and heals it. LAMP_GCLEAR clears a named tripped group that the host may clear; LAMP_FAULT_CLEAR clears one lamp's fault,
or is refused in a tripped group; LAMP_HEADROOM is raised once for an episode. Rests on R746, R749, R756, R759, R760,
R761, R762, R765, R768, R772, R780, R781. -/
def Obligations.LampsAreDriven : Prop :=
  ∀ s : State, s.dev.lamp.sinks.length = 8 →
    (∀ rq (value : Word) (n : Nat), s.dev.fld LAMP_CMDA_INDEX = n →
      (s.dev.lampRuns (rq == .console) = false → Completes (.lampCommand rq value) s fun t => t = s.dev) ∧
      (s.dev.lampRuns (rq == .console) = true →
        (s.dev.commandRefused (s.dev.flag LAMP_CMDA_GRP) n = true → Completes (.lampCommand rq value) s fun t =>
          t.lamp = s.dev.lamp ∧ t.fld LAMP_CNT_REFUSED = min (s.dev.fld LAMP_CNT_REFUSED + 1) (2 ^ LAMP_CNT_REFUSED.width - 1) ∧
          s.dev.leaves t [LAMP_CNT]) ∧
        (s.dev.commandRefused (s.dev.flag LAMP_CMDA_GRP) n = false → s.dev.mode ≠ modeWatch →
          Completes (.lampCommand rq value) s fun t =>
          (∀ k ∈ s.dev.commandLamps (s.dev.flag LAMP_CMDA_GRP) n, t.lampAt k = { s.dev.lampAt k with
            curve := s.dev.flag LAMP_CMDB_CURVE
            cmd := some (s.dev.lamp.nextNum, (s.dev.lampAt k).level, s.dev.fld LAMP_CMDB_LEVEL, wGet value 0 14, 0) }) ∧
          (∀ k, k ∉ s.dev.commandLamps (s.dev.flag LAMP_CMDA_GRP) n → t.lampAt k = s.dev.lampAt k) ∧
          t.lamp.nextNum = s.dev.lamp.nextNum + 1 ∧ s.dev.leaves t [LAMP_CNT]))) ∧
    (Completes .fadeTick s fun t => (∀ n, t.lampAt n = (s.dev.lampAt n).fadeStep) ∧ s.dev.leavesRing t []) ∧
    (∀ vhv head starved forward, s.dev.lampChecks = false → Completes (.pwmPeriod vhv head starved forward) s fun t =>
      (∀ n < 16, t.lampAt n = { s.dev.lampAt n with out := if (s.dev.lampAt n).fault = 0 then (s.dev.lampAt n).level else 0 }) ∧
      (∀ n, 16 ≤ n → t.lampAt n = s.dev.lampAt n) ∧ t.lamp.clampPrev = [] ∧ t.lamp.clampNow = [] ∧
      (∀ k < 8, t.sinkMeasured k = true → (t.sink k).head = (head.map BitVec.toNat).getD k 0 ∧
        (t.sink k).starved = starved.toNat.testBit k) ∧
      s.dev.leaves t ((List.range 8).map LAMP_TAPV)) ∧
    (∀ (k : BitVec 3) (n : Nat), n = 8 + k.toNat →
      (s.dev.tapped = false → Completes (.bypassClamp k) s fun t => t = s.dev) ∧
      (s.dev.tapped = true → s.dev.lampPresent n = true → (s.dev.lampAt n).lit = true → k.toNat ∉ s.dev.lamp.clampNow →
        (k.toNat ∉ s.dev.lamp.clampPrev → Completes (.bypassClamp k) s fun t =>
          t = { s.dev with lamp := { s.dev.lamp with clampNow := k.toNat :: s.dev.lamp.clampNow } }) ∧
        (k.toNat ∈ s.dev.lamp.clampPrev → s.dev.lampChecks = true → Completes (.bypassClamp k) s fun t =>
          (t.lampAt n).fault = 1 ∧ s.dev.leavesRing t [LAMP_CNT, LAMP_TRIP] ∧
          t.fld LAMP_CNT_FAULTS = min (s.dev.fld LAMP_CNT_FAULTS + 1) (2 ^ LAMP_CNT_FAULTS.width - 1)))) ∧
    (∀ errors, (s.dev.chainRuns = false → Completes (.refreshPeriod errors) s fun t => t = s.dev) ∧
      (s.dev.chainRuns = true → s.dev.lampChecks = false → Completes (.refreshPeriod errors) s fun t =>
        (∀ n < 16, t.lampAt n = s.dev.lampAt n) ∧
        (∀ n, 16 ≤ n → t.lampAt n = { s.dev.lampAt n with out := if (s.dev.lampAt n).fault = 0 then (s.dev.lampAt n).level else 0 }) ∧
        t.lamp.plane = (if s.dev.lamp.plane ≤ 8 then 11 else s.dev.lamp.plane - 1) ∧ s.dev.leaves t [])) ∧
    (s.dev.ndrv = 0 → ∀ m, Completes (.chainCheck m) s fun t => t = s.dev) ∧
    (0 < s.dev.ndrv → 7 ≤ s.dev.pwr.step → s.dev.mode ≠ modeSafe → s.dev.mode ≠ modeHibernate →
      (s.dev.lamp.blanked = false →
        (Completes (.chainCheck true) s fun t => t.flag LAMP_STAT_CHAIN_OK = true ∧ 
          t.lamp = { s.dev.lamp with chainFails := 0, checked := true } ∧
          s.dev.leaves t [LAMP_STAT]) ∧
        (s.dev.lamp.chainFails = 0 → Completes (.chainCheck false) s fun t => t.flag LAMP_STAT_CHAIN_OK = false ∧
          t.lamp = { s.dev.lamp with chainFails := 1, checked := true } ∧ s.dev.leaves t [LAMP_STAT, LAMP_CHAINST] ∧
          t.fld LAMP_CHAINST_CHAINERR = min (s.dev.fld LAMP_CHAINST_CHAINERR + 1) (2 ^ LAMP_CHAINST_CHAINERR.width - 1)) ∧
        (1 ≤ s.dev.lamp.chainFails → Completes (.chainCheck false) s fun t => t.flag LAMP_STAT_CHAIN_OK = false ∧
          t.lamp.blanked = true ∧ (∀ n ∈ s.dev.externalLamps, (t.lampAt n).fault = 5) ∧
          s.dev.leavesRing t [LAMP_STAT, LAMP_CHAINST, LAMP_CNT, LAMP_TRIP] ∧ ∃ e : Dev, t = e.ring 77 0 e.chainStat)) ∧
      (s.dev.lamp.blanked = true → Completes (.chainCheck true) s fun t => t.flag LAMP_STAT_CHAIN_OK = true ∧
        t.lamp.blanked = false ∧ t.lamp.chainFails = 0 ∧ s.dev.leavesRing t [LAMP_STAT] ∧
        (∀ n ∈ s.dev.externalLamps, (s.dev.lampAt n).fault = 5 → s.dev.lampTripped n = false →
          (t.lampAt n).fault = 0 ∧ (t.lampAt n).level = 0) ∧ ∃ e : Dev, t = e.ring 77 1 e.chainStat)) ∧
    (∀ value : Word, wGet value 16 8 ≠ 0x5A → Completes (.lampGclear value) s fun t => s.dev.leaves t [SYS_WRIGN] ∧
      t.fld SYS_WRIGN_COUNT = min (s.dev.fld SYS_WRIGN_COUNT + 1) (2 ^ SYS_WRIGN_COUNT.width - 1) ∧ t.lamp = s.dev.lamp) ∧
    (∀ (value : Word) (g : Nat), wGet value 16 8 = 0x5A → g < 16 → wGet value 0 16 = 2 ^ g → s.dev.tripped g = true →
      (s.dev.groupClr g ≠ 0 → Completes (.lampGclear value) s fun t => s.dev.leaves t [SYS_WRIGN] ∧
        t.fld SYS_WRIGN_COUNT = min (s.dev.fld SYS_WRIGN_COUNT + 1) (2 ^ SYS_WRIGN_COUNT.width - 1) ∧ t.lamp = s.dev.lamp) ∧
      (s.dev.groupClr g = 0 → Completes (.lampGclear value) s fun t => t.tripped g = false ∧
        s.dev.rang t 75 (pack [(g, 16), (0, 0)]) (t.reg LAMP_TRIP) ∧ s.dev.leavesRing t [LAMP_TRIP] ∧
        ∀ n ∈ s.dev.groupLamps g, (t.lampAt n).level = 0 ∧ (t.lampAt n).fault = 0 ∧ (t.lampAt n).cmd = none)) ∧
    (∀ (w : BitVec 5) (b n : Nat), b < 24 → n = 24 * w.toNat + b → n < 528 →
      (s.dev.lampTripped n = true → Completes (.lampFaultClear w (word (2 ^ b))) s fun t => t.lamp = s.dev.lamp ∧
        t.fld LAMP_CNT_REFUSED = min (s.dev.fld LAMP_CNT_REFUSED + 1) (2 ^ LAMP_CNT_REFUSED.width - 1) ∧
        s.dev.leaves t [LAMP_CNT]) ∧
      (s.dev.lampTripped n = false → Completes (.lampFaultClear w (word (2 ^ b))) s fun t => (t.lampAt n).fault = 0 ∧
        (t.lampAt n).level = (s.dev.lampAt n).level ∧ (∀ k, k ≠ n → t.lampAt k = s.dev.lampAt k) ∧ s.dev.leaves t [])) ∧
    (∀ (sink : BitVec 3) (k : Nat), sink.toNat = k →
      (s.dev.sinkLit k = true → (s.dev.sink k).starved = false → (s.dev.sink k).head < 60 → (s.dev.sink k).reported = false →
        Completes (.lampHeadroom sink) s fun t => t.sink k = { s.dev.sink k with reported := true } ∧
          s.dev.rang t 76 (word k) (word (s.dev.sink k).head) ∧ s.dev.leavesRing t []) ∧
      ((s.dev.sink k).reported = true → Completes (.lampHeadroom sink) s fun t => t = s.dev))

/-- For every state with no transmission running where the receiver is meant. An edge recorded in HIBERNATE or a wake is kept;
one while the receiver is off has no effect; a short pulse is counted; a mark or a space joins the frame, and a space that
no template completes changes nothing more. A completed code is counted and shown, and, from a template without a toggle
bit and for a key that requests no mode, held and raised as IR_KEY press; a repeat frame for no held key is counted.
IR_GAP ends STUCK, or the frame undecoded, counted and with source 97 from 4 durations on; IR_BIPHASE_SPACE_END judges a
trailing space; IR_KEY_RELEASE and RELEASE end the held key; IR_STUCK shows STUCK with source 98. ITX_START begins a
transmission, refuses and counts, or ends it at once where the entry's DURATION is 0; ITX_STOP, ITX_TMAX and the last
entry's end finish it with status 2, 1 and 0; ITX_ENTRY_END goes to the next entry or run; ITX_PDATA reads or writes the
pattern at ITX_PADDR, which advances. Rests on R178, R788, R791, R792, R797, R798, R799, R804, R805, R809, R810, R816. -/
def Obligations.InfraredWorks : Prop :=
  ∀ s : State,
    (∀ low (us : BitVec 24) held, s.dev.mode = modeHibernate →
      (s.dev.irRecords low held = true → Completes (.irEdge low us true held) s fun t =>
        t = { s.dev with modes := { s.dev.modes with irEdges := (s.dev.modes.irEdges ++ [(low, us.toNat)]).take 64 } }) ∧
      (s.dev.irRecords low held = false → Completes (.irEdge low us true held) s fun t => t = s.dev)) ∧
    (∀ mark us held, s.dev.rxOn = false → Completes (.irEdge mark us false held) s fun t => t = s.dev) ∧
    (s.dev.rxOn = true → s.dev.flag IRX_STAT_STUCK = false → s.dev.ir.tx = none → s.dev.irDeaf = false →
      s.dev.ir.loop = false → ∀ us : BitVec 24,
      (∀ mark, Completes (.irEdge mark us false false) s fun t => s.dev.leavesRing t [IRX_CNT] ∧
        t.fld IRX_CNT_GLITCH = min (s.dev.fld IRX_CNT_GLITCH + 1) (2 ^ IRX_CNT_GLITCH.width - 1)) ∧
      (∀ low ds, s.dev.irIsMark low = true → s.dev.ir.frame = some ds → Completes (.irEdge low us false true) s fun t =>
        t = s.dev.irTimer.setIr { s.dev.irTimer.ir with frame := some (ds ++ [(us.toNat, false)]) }) ∧
      (∀ low, s.dev.irIsMark low = true → s.dev.ir.frame = none → s.dev.ir.ready = true →
        Completes (.irEdge low us false true) s fun t =>
        t.ir.frame = some [] ∧ t.ir.ready = false ∧ t.ir.lead = us.toNat ∧ s.dev.leaves t [SYS_CLK]) ∧
      (∀ low, s.dev.irIsMark low = false → s.dev.ir.frame = none → Completes (.irEdge low us false true) s fun t =>
        t = s.dev.irTimer) ∧
      (∀ low ds, s.dev.irIsMark low = false → s.dev.ir.frame = some ds → judgeAll s.dev.ir.tpl (ds ++
        [(us.toNat, false)]) false = none →
        Completes (.irEdge low us false true) s fun t =>
          t = s.dev.irTimer.setIr { s.dev.irTimer.ir with frame := some (ds ++ [(us.toNat, false)]) }) ∧
      (∀ low ds i code, s.dev.irIsMark low = false → s.dev.ir.frame = some ds → judgeAll s.dev.ir.tpl (ds ++
        [(us.toNat, false)]) false = some (i, some code) →
        i < 4 → code < 2 ^ 48 → s.dev.ir.held = none → (tplAt s.dev.ir.tpl i).toggleEn = false →
          (s.dev.vkeyOf i code).2 = false →
        Completes (.irEdge low us false true) s fun t => t.ir.frame = none ∧ t.ir.ready = true ∧
          t.ir.held = some ⟨i, code, 0, (s.dev.vkeyOf i code).1, 0⟩ ∧ t.fld IRX_STAT_TPL = i ∧
          t.fld IRX_LASTH_CODE = code / 16777216 ∧ t.fld IRX_LASTL_CODE = code % 16777216 ∧
          t.fld IRX_CNT_FRAMES = min (s.dev.fld IRX_CNT_FRAMES + 1) (2 ^ IRX_CNT_FRAMES.width - 1) ∧
          s.dev.rang t 96 (pack [(0, 22), (i, 20), ((s.dev.vkeyOf i code).1, 8), (0, 0)]) (word code) ∧
          s.dev.leavesRing t ([SYS_CLK, IRX_CNT, IRX_CNT2, IRX_STAT, IRX_LASTH, IRX_LASTL] ++ (List.range 128).map IRX_RAW)) ∧
      (∀ low ds i, s.dev.irIsMark low = false → s.dev.ir.frame = some ds → judgeAll s.dev.ir.tpl (ds ++
        [(us.toNat, false)]) false = some (i, none) → i < 4 →
        s.dev.ir.held = none → Completes (.irEdge low us false true) s fun t => t.ir.frame = none ∧ t.ir.held = none ∧
          t.fld IRX_STAT_TPL = i ∧
          t.fld IRX_CNT_FRAMES = min (s.dev.fld IRX_CNT_FRAMES + 1) (2 ^ IRX_CNT_FRAMES.width - 1) ∧
          t.fld IRX_CNT2_ORPHAN = min (s.dev.fld IRX_CNT2_ORPHAN + 1) (2 ^ IRX_CNT2_ORPHAN.width - 1) ∧
          s.dev.leaves t ([SYS_CLK, IRX_CNT, IRX_CNT2, IRX_STAT] ++ (List.range 128).map IRX_RAW))) ∧
    (s.dev.flag IRX_STAT_STUCK = true → Completes .irGap s fun t => t.flag IRX_STAT_STUCK = false ∧ t.ir.frame = none ∧
      t.ir.ready = true ∧ s.dev.rang t 98 0 0 ∧ s.dev.leavesRing t [IRX_STAT]) ∧
    (s.dev.flag IRX_STAT_STUCK = false → s.dev.ir.loop = false →
      (s.dev.ir.frame = none → Completes .irGap s fun t => t = s.dev.setIr { s.dev.ir with ready := true }) ∧
      (∀ ds, s.dev.ir.frame = some ds →
        (ds.length < 4 → Completes .irGap s fun t => t.ir.frame = none ∧ t.ir.ready = true ∧
          t.fld IRX_CNT_GLITCH = min (s.dev.fld IRX_CNT_GLITCH + 1) (2 ^ IRX_CNT_GLITCH.width - 1) ∧
          s.dev.leaves t (IRX_CNT :: (List.range 128).map IRX_RAW)) ∧
        (4 ≤ ds.length → Completes .irGap s fun t => t.ir.frame = none ∧ t.ir.ready = true ∧
          t.fld IRX_CNT_UNKNOWN = min (s.dev.fld IRX_CNT_UNKNOWN + 1) (2 ^ IRX_CNT_UNKNOWN.width - 1) ∧
          s.dev.rang t 97 (word ds.length) (word (ds.headD (0, false)).1) ∧
          s.dev.leavesRing t ([IRX_CNT, IRX_CNT2] ++ (List.range 128).map IRX_RAW)))) ∧
    (s.dev.ir.frame = none → Completes .irBiphaseSpaceEnd s fun t => t = s.dev) ∧
    (∀ ds, s.dev.ir.frame = some ds →
      (judgeAll s.dev.ir.tpl ds true = none → Completes .irBiphaseSpaceEnd s fun t => t = s.dev) ∧
      (∀ i c, judgeAll s.dev.ir.tpl ds true = some (i, c) → i < 4 → Completes .irBiphaseSpaceEnd s fun t => t.ir.frame = none ∧
        t.fld IRX_STAT_TPL = i ∧ t.fld IRX_CNT_FRAMES = min (s.dev.fld IRX_CNT_FRAMES + 1) (2 ^ IRX_CNT_FRAMES.width - 1))) ∧
    (s.dev.ir.held = none → Completes .irKeyRelease s fun t => t = s.dev) ∧
    (∀ k, s.dev.ir.held = some k → k.vkey < 256 →
      (Completes .irKeyRelease s fun t => t.ir.held = none ∧ t.fld IRX_STAT_VKEY = k.vkey ∧
        s.dev.rang t 96 (pack [(2, 22), (k.tpl, 20), (k.vkey, 8), (min k.repeats 255, 0)]) (word (k.code + k.toggle)) ∧
        s.dev.leavesRing t [IRX_STAT]) ∧
      ∀ value, Completes (.release value) s fun t => t.ir.held = none ∧
        s.dev.rang t 96 (pack [(2, 22), (k.tpl, 20), (k.vkey, 8), (min k.repeats 255, 0)]) (word (k.code + k.toggle)) ∧
        s.dev.leavesRing t [IRX_CTRL, IRX_STAT]) ∧
    (∀ ms : BitVec 24, (s.dev.rxOn = false → Completes (.irStuck ms) s fun t => t = s.dev) ∧
      (s.dev.rxOn = true → s.dev.flag IRX_STAT_STUCK = false → s.dev.irDeaf = false → s.dev.ir.frame = none →
        s.dev.ir.held = none →
        Completes (.irStuck ms) s fun t => t.flag IRX_STAT_STUCK = true ∧ s.dev.rang t 98 1 (word ms.toNat) ∧
          s.dev.leavesRing t [IRX_STAT])) ∧
    (∀ rq (v : Word) (m i : Nat), wGet v 12 2 = m → wGet v 0 9 = i →
      (m = 0 → Completes (.itxStart rq v) s fun t => t = s.dev) ∧
      (m ≠ 0 → s.dev.ir.tx ≠ none ∨ s.dev.txAllowed (rq == .console) = false → Completes (.itxStart rq v) s fun t =>
        t.ir = s.dev.ir ∧ s.dev.leaves t [ITX_CNT] ∧
        t.fld ITX_CNT_REFUSED = min (s.dev.fld ITX_CNT_REFUSED + 1) (2 ^ ITX_CNT_REFUSED.width - 1)) ∧
      (m ≠ 0 → s.dev.ir.tx = none → s.dev.txAllowed (rq == .console) = true →
        (m = 3 ∨ wGet (s.dev.pattern i) 0 16 ≠ 0 → Completes (.itxStart rq v) s fun t => t.ir.frame = none ∧
          t.ir.tx = some ⟨wGet v 16 8, m, i, i, s.dev.fld ITX_REP_REPEAT, 1, rq == .console, s.dev.reg ITX_CARRIER⟩ ∧
          t.flag ITX_STAT_BUSY = true ∧ t.fld ITX_STAT_MODE = m ∧ t.fld ITX_STAT_INDEX = i ∧
          t.fld ITX_STAT_REPLEFT = s.dev.fld ITX_REP_REPEAT ∧ s.dev.leaves t [ITX_STAT]) ∧
        (m ≠ 3 → wGet (s.dev.pattern i) 0 16 = 0 → Completes (.itxStart rq v) s fun t => t.ir.tx = none ∧
          t.flag ITX_STAT_BUSY = false ∧ s.dev.rang t 100 (word (wGet v 16 8)) (pack [(4, 21), (i, 0)]) ∧
          s.dev.leavesRing t [ITX_STAT, ITX_CNT]))) ∧
    (s.dev.ir.tx = none → ∀ c rq v, c ∈ [Instr.itxStop rq v, .itxEntryEnd, .itxTmax] → Completes c s fun t => t = s.dev) ∧
    (∀ x, s.dev.ir.tx = some x → s.dev.ir.loop = false →
      (∀ c rq v st, (c, st) ∈ [(Instr.itxStop rq v, 2), (.itxTmax, 1)] → Completes c s fun t => t.ir.tx = none ∧
        t.ir.txEnd = some s.dev.ticks ∧ t.flag ITX_STAT_BUSY = false ∧
        t.fld ITX_CNT_DONE = min (s.dev.fld ITX_CNT_DONE + 1) (2 ^ ITX_CNT_DONE.width - 1) ∧
        s.dev.rang t 100 (word x.tag) (pack [(st, 21), (x.index, 0)]) ∧ s.dev.leavesRing t [ITX_STAT, ITX_CNT]) ∧
      (x.mode = 3 → Completes .itxEntryEnd s fun t => t = s.dev) ∧
      (x.mode ≠ 3 → wGet (s.dev.pattern x.index) 22 1 = 1 → x.left = 0 → Completes .itxEntryEnd s fun t => t.ir.tx = none ∧
        t.flag ITX_STAT_BUSY = false ∧ s.dev.rang t 100 (word x.tag) (pack [(0, 21), (x.index, 0)]) ∧
        s.dev.leavesRing t [ITX_STAT, ITX_CNT]) ∧
      (x.mode ≠ 3 → wGet (s.dev.pattern x.index) 22 1 = 1 → 0 < x.left → wGet (s.dev.pattern x.start) 0 16 ≠ 0 →
        Completes .itxEntryEnd s fun t => (∃ w, t.ir.tx = some { x with
          index := x.start, left := x.left - 1,
          count := 1, carrier := w } ∧
            (wGet (s.dev.pattern x.start) 23 1 = 1 → w = s.dev.reg ITX_CARRIER) ∧
            (wGet (s.dev.pattern x.start) 23 1 = 0 → w = x.carrier)) ∧
          s.dev.leaves t [ITX_STAT]) ∧
      (x.mode ≠ 3 → wGet (s.dev.pattern x.index) 22 1 = 0 → x.count < 512 → wGet (s.dev.pattern (x.index + 1)) 0 16 ≠ 0 →
        Completes .itxEntryEnd s fun t => (∃ w, t.ir.tx = some { x with
          index := (x.index + 1) % 512,
          count := x.count + 1, carrier := w } ∧
            (wGet (s.dev.pattern (x.index + 1)) 23 1 = 1 → w = s.dev.reg ITX_CARRIER) ∧
            (wGet (s.dev.pattern (x.index + 1)) 23 1 = 0 → w = x.carrier)) ∧
          t.fld ITX_STAT_INDEX = (x.index + 1) % 512 ∧ s.dev.leaves t [ITX_STAT])) ∧
    (∀ rq v a, s.dev.fld ITX_PADDR_ADDR = a →
      (Completes (.itxPdata rq false v) s fun t => t.ir = s.dev.ir ∧ t.fld ITX_PADDR_ADDR = (a + 1) % 512 ∧
        s.dev.leaves t [ITX_PADDR]) ∧
      (s.dev.ir.tx = none → Completes (.itxPdata rq true v) s fun t => t.pattern a = v ∧
        (∀ b < 512, b ≠ a → t.pattern b = s.dev.pattern b) ∧ t.fld ITX_PADDR_ADDR = (a + 1) % 512 ∧
          s.dev.leaves t [ITX_PADDR]) ∧
      (s.dev.ir.tx ≠ none → Completes (.itxPdata rq true v) s fun t => t.ir = s.dev.ir ∧
        t.fld ITX_CNT_REFUSED = min (s.dev.fld ITX_CNT_REFUSED + 1) (2 ^ ITX_CNT_REFUSED.width - 1) ∧
        s.dev.leaves t [ITX_CNT, ITX_PADDR]))

/-- For every state with its 16 channels and four snapshots. The plan starts its next channel on a free converter, or skips
and counts it; a value enters both sets, the converter falls idle, and a value above an enabled band takes the band to
ABOVE. HKA_SNAP takes the H set; CLAIM claims or is refused by its key; a claim that expires ends with source 116; a host
conversion starts on the granted converter, alone or interleaved, or is counted. REFIN_CHECK follows the buffer and its
fault; a time-out abandons the conversion. TDAC stores its word and makes the band of the pin it closes on UNKNOWN. ZERO
and FULL begin a step, FULL without a ZERO ends with status 2; APPLY ends with status 2, 5, 4, or 1 with the new OFS and
GAIN; DEFAULT removes the calibration; a step's end keeps the mean or shows status 3. Rests on R825, R827, R828, R830,
R833, R834, R835, R838, R840, R842, R843, R844. -/
def Obligations.ConverterWorks : Prop :=
  ∀ s : State, s.dev.hka.chans.length = 16 → s.dev.hka.snaps.length = 4 → s.dev.hka.zero.length = 4 →
    (s.dev.planConverter = none ∨ s.dev.planNext = none ∨ s.dev.hkaOn = false → Completes .planConversion s fun t =>
      t = s.dev) ∧
    (∀ b c, s.dev.planConverter = some b → s.dev.planNext = some c → s.dev.hkaOn = true →
      (s.dev.hkaSkips c (planRef c (s.dev.planWord c)) = true → Completes .planConversion s fun t =>
        t.fld HKA_CNT_SKIPPED = min (s.dev.fld HKA_CNT_SKIPPED + 1) (2 ^ HKA_CNT_SKIPPED.width - 1) ∧
        (t.hkaChan c).due = s.dev.ticks + msTicks (10 * planInterval (s.dev.planWord c)) ∧ s.dev.leaves t [HKA_CNT]) ∧
      (s.dev.hkaSkips c (planRef c (s.dev.planWord c)) = false → Completes .planConversion s fun t =>
        t.conv b = some ⟨c, false, planRef c (s.dev.planWord c), 0, false, !s.dev.refReady (planRef c (s.dev.planWord c))⟩ ∧
        (t.hkaChan c).due = s.dev.ticks + msTicks (10 * planInterval (s.dev.planWord c)) ∧
        t.flag (if b then HKA_STAT_BUSYB else HKA_STAT_BUSYA) = true ∧ s.dev.leaves t [HKA_STAT])) ∧
    (∀ b v ovr, s.dev.conv b = none → Completes (.conversionEnd b v ovr) s fun t => t = s.dev) ∧
    (∀ (k : HkaConv) (v : Word), s.dev.conv false = some k → k.waiting = false → k.host = false → 4 ≤ k.ch → k.ch < 16 →
      k.ch ≠ 9 → k.ch ≠ 10 →
      (wGet (s.dev.cfgWord secHka 0x02 (4 * k.ch + 3)) 23 1 = 0 →
        (Completes (.conversionEnd false v 0) s fun t => t.conv false = none ∧ t.flag HKA_STAT_BUSYA = false ∧
          (t.hkaChan k.ch).h = (s.dev.hkaChan k.ch).h.add v ∧ (t.hkaChan k.ch).f = (s.dev.hkaChan k.ch).f.add v ∧
          s.dev.leaves t [HKA_STAT]) ∧
        (Completes (.conversionEnd false v 1) s fun t => t.conv false = none ∧
          (t.hkaChan k.ch).h = (s.dev.hkaChan k.ch).h.addOver 1 ∧ s.dev.leaves t [HKA_STAT])) ∧
      (wGet (s.dev.cfgWord secHka 0x02 (4 * k.ch + 3)) 23 1 = 1 → wGet (s.dev.cfgWord secHka 0x02 (4 * k.ch + 3)) 0 5 ≤ 1 →
        (s.dev.cfgWord secHka 0x02 (4 * k.ch + 1)).toInt < v.toInt → s.dev.fld (HKA_BCFG_STATE k.ch) ≠ bandAbove →
        Completes (.conversionEnd false v 0) s fun t => t.fld (HKA_BCFG_STATE k.ch) = bandAbove ∧
          (t.fld HKA_BEXIT_EXIT).testBit k.ch = true ∧ t.conv false = none ∧
          s.dev.leavesRing t [HKA_STAT, HKA_BCFG k.ch, HKA_BEXIT])) ∧
    (∀ rq (value : Word) (c : Nat), wGet value 0 4 = c → Completes (.hkaSnap rq value) s fun t =>
      t.hka.snaps = s.dev.hka.snaps.set (rqIndex rq) (c, (s.dev.hkaChan c).h) ∧ s.dev.leaves t [] ∧
      (t.hkaChan c).f = (s.dev.hkaChan c).f ∧
      (t.hkaChan c).h = (if wGet value 4 1 = 1 ∧ rq ≠ .console then {} else (s.dev.hkaChan c).h)) ∧
    (∀ (value : Word) (m : Nat), wGet value 0 2 = m →
      (wGet value 16 8 ≠ 0x5A ∨ m = 3 → Completes (.claim value) s fun t => s.dev.leaves t [SYS_WRIGN] ∧ t.hka = s.dev.hka ∧
        t.fld SYS_WRIGN_COUNT = min (s.dev.fld SYS_WRIGN_COUNT + 1) (2 ^ SYS_WRIGN_COUNT.width - 1)) ∧
      (wGet value 16 8 = 0x5A → (m = 0 ∨ (m = 1 ∧ s.dev.conv false = none) ∨
          (m = 2 ∧ s.dev.conv true = none ∧ s.dev.hka.ilv = none)) → Completes (.claim value) s fun t =>
        t.fld HKA_HOST_CLAIM = m ∧ t.fld HKA_STAT_GRANT = m ∧ s.dev.leaves t [HKA_HOST, HKA_STAT])) ∧
    (s.dev.fld HKA_HOST_CLAIM = 0 → Completes .hkaClaimExpired s fun t => t = s.dev) ∧
    (s.dev.fld HKA_HOST_CLAIM ≠ 0 → Completes .hkaClaimExpired s fun t => t.fld HKA_HOST_CLAIM = 0 ∧
      t.fld HKA_STAT_GRANT = 0 ∧ s.dev.rang t 116 (word (s.dev.fld HKA_HOST_CLAIM)) 0 ∧
      s.dev.leavesRing t [HKA_HOST, HKA_STAT]) ∧
    (∀ (value : Word) (c r : Nat), wGet value 0 4 = c → r = (if c < 4 then wGet value 8 2 else 0) →
      (s.dev.fld HKA_STAT_GRANT = 0 → Completes (.hostConversion value) s fun t => t.hka = s.dev.hka ∧
        s.dev.leaves t [HKA_CNT] ∧
        t.fld HKA_CNT_REFUSED = min (s.dev.fld HKA_CNT_REFUSED + 1) (2 ^ HKA_CNT_REFUSED.width - 1)) ∧
      (s.dev.fld HKA_STAT_GRANT = 1 → s.dev.hka.convA = none → s.dev.hkaOn = true → s.dev.hkaSkips c r = false →
        ∀ k, k = (⟨c, true, r, wGet value 16 8, wGet value 14 1 == 1, !s.dev.refReady r⟩ : HkaConv) →
        (wGet value 15 1 = 0 → Completes (.hostConversion value) s fun t => t.hka.convA = some k ∧
          t.hka.convB = s.dev.hka.convB ∧ s.dev.leaves t [HKA_STAT]) ∧
        (wGet value 15 1 = 1 → s.dev.hka.convB = none → Completes (.hostConversion value) s fun t => t.hka.convA = some k ∧
          t.hka.convB = some k ∧ s.dev.leaves t [HKA_STAT]) ∧
        (∀ o, wGet value 15 1 = 1 → s.dev.hka.convB = some o → Completes (.hostConversion value) s fun t =>
          t.hka.convA = some k ∧ t.hka.convB = some o ∧ t.hka.ilv = some k ∧
          t.fld HKA_CNT_ILVWAIT = min (s.dev.fld HKA_CNT_ILVWAIT + 1) (2 ^ HKA_CNT_ILVWAIT.width - 1) ∧
          s.dev.leaves t [HKA_STAT, HKA_CNT]))) ∧
    (s.dev.refinEnabled = false → ∀ ok, Completes (.refinCheck ok) s fun t => t.flag HKA_STAT_REFIN_RDY = false ∧
      t.hka = s.dev.hka ∧ s.dev.leaves t [HKA_STAT]) ∧
    (s.dev.refinEnabled = true →
      (s.dev.flag HKA_STAT_REFIN_FAULT = false →
        (Completes (.refinCheck true) s fun t => t.flag HKA_STAT_REFIN_RDY = true ∧ t.flag HKA_STAT_REFIN_FAULT = false ∧
          s.dev.leaves t [HKA_STAT]) ∧
        (Completes (.refinCheck false) s fun t => t.flag HKA_STAT_REFIN_RDY = false ∧ t.flag HKA_STAT_REFIN_FAULT = true ∧
          s.dev.leavesRing t [HKA_STAT])) ∧
      (s.dev.flag HKA_STAT_REFIN_FAULT = true →
        (s.dev.hka.good = 0 → Completes (.refinCheck true) s fun t => t.hka.good = 1 ∧ t.flag HKA_STAT_REFIN_FAULT = true ∧
          s.dev.leaves t [HKA_STAT]) ∧
        (s.dev.hka.good ≠ 0 → Completes (.refinCheck true) s fun t => t.hka.good = 0 ∧ t.flag HKA_STAT_REFIN_FAULT = false ∧
          s.dev.leavesRing t [HKA_STAT]))) ∧
    (∀ b c, c = Instr.referenceTimeout b ∨ c = Instr.conversionTimeout b → s.dev.conv b = none →
      Completes c s fun t => t = s.dev) ∧
    (∀ b k c w, (c, w) ∈ [(Instr.referenceTimeout b, true), (.conversionTimeout b, false)] → s.dev.conv b = some k →
      s.dev.hka.ilv = none →
      (k.waiting = w → Completes c s fun t => t.conv b = none ∧ t.hka.chans = s.dev.hka.chans ∧
        t.flag (if b then HKA_STAT_BUSYB else HKA_STAT_BUSYA) = false ∧ s.dev.leavesRing t [HKA_STAT]) ∧
      (k.waiting ≠ w → Completes c s fun t => t = s.dev)) ∧
    (∀ (value : Word) (p : Nat), wGet value 12 1 = 1 → wGet value 10 2 = p → s.dev.flag HKA_TDAC_EN = false →
      s.dev.conv false = none → s.dev.conv true = none → Completes (.tdac value) s fun t => t.flag HKA_TDAC_EN = true ∧
        t.fld HKA_TDAC_PIN = p ∧ t.fld HKA_TDAC_CODE = wGet value 0 10 ∧ t.fld (HKA_BCFG_STATE p) = bandUnknown ∧
        (t.hkaChan p).run = 0 ∧ s.dev.leaves t [HKA_TDAC, HKA_BCFG p]) ∧
    (∀ (value : Word) (c : Nat), wGet value 4 2 = c →
      (wGet value 16 8 ≠ 0x5A → ∀ i vref ok, i ∈ [Instr.zero value, .full value, .apply value vref ok, .default value ok] →
        Completes i s fun t => s.dev.leaves t [SYS_WRIGN] ∧ t.hka = s.dev.hka ∧
          t.fld SYS_WRIGN_COUNT = min (s.dev.fld SYS_WRIGN_COUNT + 1) (2 ^ SYS_WRIGN_COUNT.width - 1)) ∧
      (wGet value 16 8 = 0x5A →
        (s.dev.hka.step = none →
          (Completes (.zero value) s fun t => t.hka.step = some (c, 1) ∧ t.fld HKA_SCSTAT_STATUS = 0 ∧
            s.dev.leaves t [HKA_SCSTAT]) ∧
          (∀ z, s.dev.hka.zero.getD c none = some z → Completes (.full value) s fun t => t.hka.step = some (c, 2) ∧
            t.fld HKA_SCSTAT_STATUS = 0 ∧ s.dev.leaves t [HKA_SCSTAT]) ∧
          (s.dev.hka.zero.getD c none = none → Completes (.full value) s fun t => t.hka = s.dev.hka ∧
            t.fld HKA_SCSTAT_STATUS = 2 ∧ s.dev.rang t 115 (pack [(2, 20), (2, 16), (c, 0)]) (word 0) ∧
            s.dev.leavesRing t [HKA_SCSTAT])) ∧
        (∀ vref ok, s.dev.hka.zero.getD c none = none → Completes (.apply value vref ok) s fun t =>
          t.fld HKA_SCSTAT_STATUS = 2 ∧ s.dev.rang t 115 (pack [(3, 20), (2, 16), (c, 0)]) (word 0) ∧
          s.dev.leavesRing t [HKA_SCSTAT]) ∧
        (∀ (vref : Word) ok z f, s.dev.hka.zero.getD c none = some z → s.dev.hka.full.getD c none = some f →
          (s.dev.nvmBarred = true → Completes (.apply value vref ok) s fun t => t.fld HKA_SCSTAT_STATUS = 5 ∧
            s.dev.leavesRing t [HKA_SCSTAT]) ∧
          (s.dev.nvmBarred = false → f ≤ z → Completes (.apply value vref ok) s fun t => t.fld HKA_SCSTAT_STATUS = 4 ∧
            s.dev.leavesRing t [HKA_SCSTAT]) ∧
          (∀ u : Nat, s.dev.nvmBarred = false → s.dev.fld HKA_SCFULL_FULL = u → 0 < f - z → (f - z) * 8 ≤ (u : Int) * 10 →
            (u : Int) * 4 ≤ (f - z) * 5 → z.natAbs * 10 ≤ (if planRef c (s.dev.planWord c) = 0 then 1250000 else vref.toNat) →
            u * 4194304 % (f - z).toNat = 0 → Completes (.apply value vref ok) s fun t => t.fld HKA_SCSTAT_STATUS = 1 ∧
              t.reg (HKA_SCOFS c) = wordI z ∧ t.reg (HKA_SCGAIN c) = word (u * 4194304 / (f - z).toNat) ∧
              t.hka.zero.getD c none = none ∧ t.hka.full.getD c none = none)) ∧
        (∀ ok, (s.dev.nvmBarred = true → Completes (.default value ok) s fun t => t.fld HKA_SCSTAT_STATUS = 5 ∧
            s.dev.rang t 115 (pack [(4, 20), (5, 16), (c, 0)]) (word 0) ∧ s.dev.leavesRing t [HKA_SCSTAT]) ∧
          (s.dev.nvmBarred = false → Completes (.default value ok) s fun t => t.fld HKA_SCSTAT_STATUS = 1 ∧
            t.reg (HKA_SCOFS c) = 0 ∧ t.reg (HKA_SCGAIN c) = 0x400000 ∧
            ∃ e : Dev, t = e.ring 115 (pack [(4, 20), (1, 16), (c, 0)]) (word 0))))) ∧
    (s.dev.hka.step = none → ∀ values ovr, Completes (.syscalStepEnd values ovr) s fun t => t = s.dev) ∧
    (∀ c, c < 4 → s.dev.hka.step = some (c, 1) → s.dev.hka.stepConsole = false →
      (∀ v : Word, Completes (.syscalStepEnd (List.replicate 64 v) 0) s fun t => t.hka.step = none ∧
        t.hka.zero.getD c none = some v.toInt ∧ t.fld HKA_SCSTAT_STATUS = 1) ∧
      (∀ values, Completes (.syscalStepEnd values 1) s fun t => t.hka.step = none ∧ t.hka.zero = s.dev.hka.zero ∧
        t.fld HKA_SCSTAT_STATUS = 3))

/-- For every state with its 16 channels and four snapshots, every requester and written word: the requester's snapshot
becomes channel CH's number and H set, and the other requesters' snapshots stay. With CLEAR 1 and a requester other than
the console, that H set's sum and count are then 0, its minimum 0x7FFFFF, its maximum 0x800000, its overload counts and
SAT 0; a write by the console, or with CLEAR 0, leaves it as it was. The F sets, every other channel's H set, every
register and every memory stay. Formalises R828 and R829. -/
def Obligations.SnapshotsCopyAndClear : Prop :=
  ∀ (s : State) (rq : Requester) (value : Word) (c : Nat), s.dev.hka.chans.length = 16 → s.dev.hka.snaps.length = 4 →
    wGet value 0 4 = c → Completes (.hkaSnap rq value) s fun t =>
      t.hka.snaps[rqIndex rq]? = some (c, (s.dev.hkaChan c).h) ∧
      (∀ k, k ≠ rqIndex rq → t.hka.snaps[k]? = s.dev.hka.snaps[k]?) ∧
      (wGet value 4 1 = 1 → rq ≠ .console → (t.hkaChan c).h.sum = 0 ∧ (t.hkaChan c).h.count = 0 ∧
        (t.hkaChan c).h.min = 0x7FFFFF#24 ∧ (t.hkaChan c).h.max = 0x800000#24 ∧ (t.hkaChan c).h.ovrPos = 0 ∧
        (t.hkaChan c).h.ovrNeg = 0 ∧ (t.hkaChan c).h.sat = false) ∧
      (wGet value 4 1 ≠ 1 ∨ rq = .console → (t.hkaChan c).h = (s.dev.hkaChan c).h) ∧
      (∀ k, (t.hkaChan k).f = (s.dev.hkaChan k).f) ∧ (∀ k, k ≠ c → (t.hkaChan k).h = (s.dev.hkaChan k).h) ∧
      s.dev.leaves t []

/-- For every state. RUN with its key makes a run due, begins it in full in SERVICE with the scan stopped, or waits for the
run in progress; without the key it is counted. A slice that may run begins a due run with every item left, and takes the
next item of a sliced one. CAL_STARVED shows the state, counted, and a standalone tile stretches the frame, with source
213. A background item that is left chooses its set. TELEMETRY_RECORD writes the next slot of bank 14, clears the F sets
and raises source 215. LOG_SUMMARY queues records of channels the plan enables only, and clears the sets. LOG_RECORD_WRITE
writes the queued record to the next slot of the head page, or a descriptor and the record to the next page. LOG_MOUNT
mounts the log and changes no byte of the EEPROM. Rests on R857, R862, R863, R865, R866, R867, R871, R872, R874, R876,
R877, R880. -/
def Obligations.CalibrationAndLog : Prop :=
  ∀ s : State,
    (∀ value : Word,
      (wGet value 16 8 ≠ 0x5A ∨ wGet value 0 2 ≠ 1 → Completes (.run value) s fun t => s.dev.leaves t [SYS_WRIGN] ∧
        t.cal = s.dev.cal ∧
        t.fld SYS_WRIGN_COUNT = min (s.dev.fld SYS_WRIGN_COUNT + 1) (2 ^ SYS_WRIGN_COUNT.width - 1)) ∧
      (wGet value 16 8 = 0x5A → wGet value 0 2 = 1 →
        (s.dev.fld CAL_STAT_STATE = calIdle → s.dev.fullNow = false → Completes (.run value) s fun t =>
          t.fld CAL_STAT_STATE = calDue ∧ t.fld CAL_STAT_TRIGGER = 2 ∧ t.cal = { s.dev.cal with since := s.dev.ticks } ∧
          s.dev.leaves t [CAL_STAT]) ∧
        (s.dev.fld CAL_STAT_STATE = calIdle → s.dev.fullNow = true → Completes (.run value) s fun t =>
          t.fld CAL_STAT_STATE = calFull ∧ t.fld CAL_STAT_TRIGGER = 2 ∧ t.cal.items = s.dev.runItems ∧ t.cal.refLeft = true ∧
          s.dev.leaves t [CAL_STAT]) ∧
        (s.dev.fld CAL_STAT_STATE = calDue → Completes (.run value) s fun t => t = s.dev) ∧
        (s.dev.fld CAL_STAT_STATE ∈ [calSliced, calFull, calStarved] → s.dev.runBegun = true →
          Completes (.run value) s fun t =>
          t = s.dev.setCal { s.dev.cal with again := some 2 }))) ∧
    (s.dev.sliceOk = false → ∀ items, Completes (.slice items) s fun t => t = s.dev) ∧
    (s.dev.sliceOk = true →
      (s.dev.fld CAL_STAT_STATE = calDue → Completes (.slice []) s fun t => t.fld CAL_STAT_STATE = calSliced ∧
        t.cal.items = s.dev.runItems ∧ t.fld CAL_STAT_LEFT = min s.dev.runItems.length 255 ∧ t.cal.slices = 1 ∧
        t.cal.since = s.dev.ticks ∧ s.dev.leaves t [CAL_STAT]) ∧
      (∀ i rest m, s.dev.fld CAL_STAT_STATE ≠ calDue → s.dev.cal.items = i :: rest → rest ≠ [] →
        Completes (.slice [m]) s fun t =>
        t.cal.items = rest ∧ t.fld CAL_STAT_LEFT = min rest.length 255 ∧ t.fld CAL_STAT_STATE = calSliced ∧
        t.cal.slices = s.dev.cal.slices + 1 ∧ t.cal.since = s.dev.ticks)) ∧
    (s.dev.mode ≠ modeIdle → s.dev.mode ≠ modeActive → Completes .calStarved s fun t => t = s.dev) ∧
    (s.dev.mode = modeIdle ∨ s.dev.mode = modeActive → s.dev.fld CAL_STAT_STATE ∈ [calDue, calSliced, calStarved] →
      Completes .calStarved s fun t => t.fld CAL_STAT_STATE = calStarved ∧ t.cal.since = s.dev.ticks ∧
        t.fld CAL_CNT_STARVED = min (s.dev.fld CAL_CNT_STARVED + 1) (2 ^ CAL_CNT_STARVED.width - 1) ∧
        s.dev.leavesRing t [CAL_STAT, CAL_CNT] ∧
        (s.dev.isWorker = false → s.dev.onSurface = false → t.flag CAL_STAT_STRETCH = true ∧
          s.dev.rang t 213 (word (s.dev.par secCal 0x02)) (word (t.cal.stretch.getD 0)))) ∧
    (∀ rc cells (legs : BitVec 16) reached,
      (s.dev.mode ∈ [modeWatch, modeSafe, modeHibernate] →
        Completes (.backgroundItemEnd rc cells legs reached) s fun t => t = s.dev) ∧
      (s.dev.cal.rcLeft = false → Completes (.backgroundItemEnd true cells legs reached) s fun t => t = s.dev) ∧
      (s.dev.cal.refLeft = false → Completes (.backgroundItemEnd false cells legs reached) s fun t => t = s.dev) ∧
      (s.dev.mode ∉ [modeWatch, modeSafe, modeHibernate] → s.dev.cal.items ≠ [] →
        (s.dev.cal.rcLeft = true → Completes (.backgroundItemEnd true cells legs true) s fun t => t.cal.rcLeft = false ∧
          t.fld CAL_RC_LEGS = legs.toNat ∧ s.dev.leaves t [CAL_RC]) ∧
        (∀ v : BitVec 24, s.dev.cal.refLeft = true → Completes (.backgroundItemEnd false [v, v, v, v] legs reached) s fun t =>
          t.cal.refLeft = false ∧ t.fld CAL_REF_GOOD = 15 ∧ s.dev.leaves t [CAL_REF]))) ∧
    (s.dev.mode ∉ [modeIdle, modeActive, modeService, modeSafe] → Completes .telemetryRecord s fun t => t = s.dev) ∧
    (s.dev.mode ∈ [modeIdle, modeActive, modeService, modeSafe] → s.dev.hka.chans.length = 16 → s.dev.cal.nextSeq < 16777216 →
      Completes .telemetryRecord s fun t =>
        t.bank 14 (128 * (s.dev.cal.nextSeq % 128)) = word s.dev.cal.nextSeq ∧
        t.bank 14 (128 * (s.dev.cal.nextSeq % 128) + 4) = pack [(s.dev.mode, 8), (s.dev.time.epoch, 0)] ∧
        t.fld CAL_TELEM_SLOT = s.dev.cal.nextSeq % 128 ∧ t.fld CAL_TSEQ_SEQ = s.dev.cal.nextSeq ∧
        t.cal.nextSeq = (s.dev.cal.nextSeq + 1) % 16777216 ∧ (∀ c < 16, (t.hkaChan c).f = {} ∧
          (t.hkaChan c).h = (s.dev.hkaChan c).h) ∧
        s.dev.rang t 215 (word (s.dev.cal.nextSeq % 128)) (word s.dev.cal.nextSeq) ∧
        (∀ a, a ∉ [CAL_TELEM, CAL_TSEQ] → a ∉ ringRegs → t.reg a = s.dev.reg a) ∧
        (∀ b w, b < 16 → b ≠ 8 → b ≠ 14 → t.bank b w = s.dev.bank b w) ∧ ∀ a, t.nvmByte a = s.dev.nvmByte a) ∧
    (s.dev.par secCal 0x05 = 0 → Completes .logSummary s fun t => t = s.dev) ∧
    (s.dev.par secCal 0x05 ≠ 0 → Completes .logSummary s fun t => t.cal.summary = List.replicate 16 {} ∧
      s.dev.leaves t [CAL_LOGQ] ∧
      ((∀ c < 16, planInterval (s.dev.planWord c) = 0) → t.logQ = s.dev.logQ)) ∧
    (∀ ok, s.dev.settingsTurn = false → s.dev.logQ = [] ∨ s.dev.logBarred = true → Completes (.logRecordWrite ok) s fun t =>
      t = s.dev) ∧
    (∀ r rest, s.dev.settingsTurn = false → s.dev.logQ = r :: rest → s.dev.logBarred = false → s.dev.cal.lost = 0 →
      ∀ h i q, s.dev.fld CAL_LOGSTAT_HEAD = h →
      s.dev.fld CAL_LOGSTAT_SLOT = i → s.dev.fld CAL_LOGSEQ_SEQ = q →
      (i < 10 → Completes (.logRecordWrite []) s fun t => t.nvmRead (pageAddr h + 16 + 24 * i) 24 = logBytes q r ∧
        t.logQ = rest ∧ t.fld CAL_LOGSTAT_SLOT = i + 1 ∧ t.fld CAL_LOGSTAT_HEAD = h ∧
        t.fld CAL_LOGSEQ_SEQ = (q + 1) % 16777216) ∧
      (∀ p wrapped, 10 ≤ i → nextPage s.dev.cal.pages s.dev.cal.retired s.dev.cal.pages h = some (p, wrapped) → p < 512 →
        Completes (.logRecordWrite []) s fun t =>
          t.nvmRead (pageAddr p) 16 = descriptor (s.dev.cal.lap + bit wrapped) true q ∧
          t.nvmRead (pageAddr p + 16) 24 = logBytes q r ∧ t.logQ = rest ∧ t.fld CAL_LOGSTAT_HEAD = p ∧
          t.fld CAL_LOGSTAT_SLOT = 1 ∧ t.fld CAL_LOGSEQ_SEQ = (q + 1) % 16777216)) ∧
    (s.dev.flag CAL_LOGSTAT_MOUNTED = true → Completes .logMount s fun t => t = s.dev) ∧
    (7 < s.dev.pwr.step → s.dev.flag CAL_LOGSTAT_MOUNTED = false → Completes .logMount s fun t =>
      t.flag CAL_LOGSTAT_MOUNTED = true ∧ t.cal.pages = s.dev.logPages ∧ (∀ a, t.nvmByte a = s.dev.nvmByte a) ∧
      s.dev.leavesRing t [CAL_LOGSTAT, CAL_LOGSEQ])

/-- For every state. SVC_UNLOCK locks, unlocks or rejects a code, counted, the third locking out. SVC_AMON selects a
point and SVC_EL an electrode's static state while SERVICE is open, and neither does otherwise; METER, METER_OFF and EL
do the same with the full command set. A character joins the line, deletes one, ends it, is counted with its error, or
is discarded before the banner; a break and an idle minute discard the line, a bad one ends in its error; Ctrl-C ends
what runs. A wake edge starts the fast oscillator in WATCH, the session's end stops it. The right code opens SAFE's full
set, or asks for SERVICE, or the manager for it; a wrong one is counted. SVC_OFF closes the full set of SAFE or leaves
SERVICE. The time-outs end what waits. CONSOLE_RESET, with no other cause in the cycle, is a reset of code 5. Rests on
R65, R66, R72, R73, R77, R78, R80, R83, R86, R87, R94, R95. -/
def Obligations.ConsoleAndServiceWork : Prop :=
  ∀ s : State,
    (∀ v : Word,
      (s.dev.flag SVC_STAT_LOCKOUT = true → Completes (.svcUnlockWrite v) s fun t => t = s.dev) ∧
      (s.dev.flag SVC_STAT_LOCKOUT = false →
        (v = 0 → Completes (.svcUnlockWrite v) s fun t => t.flag SVC_STAT_INJ_UNLOCK = false ∧
          s.dev.leavesRing t (SVC_STAT :: (List.range 8).map SVC_INJ)) ∧
        (v ≠ 0 → s.dev.codeBarred = false →
          (v.toNat = s.dev.svcCode → Completes (.svcUnlockWrite v) s fun t => t.flag SVC_STAT_INJ_UNLOCK = true ∧
            s.dev.leavesRing t (SVC_STAT :: (List.range 8).map SVC_INJ)) ∧
          (v.toNat ≠ s.dev.svcCode → Completes (.svcUnlockWrite v) s fun t => t.con.lastReject = some s.dev.ticks ∧
            t.fld SVC_STAT_FAILS = min (s.dev.fld SVC_STAT_FAILS + 1) 3 ∧ s.dev.leavesRing t [SVC_STAT] ∧
            (s.dev.fld SVC_STAT_FAILS < 2 → s.dev.rang t 226 (word (s.dev.fld SVC_STAT_FAILS + 1)) 1) ∧
            (2 ≤ s.dev.fld SVC_STAT_FAILS → t.flag SVC_STAT_LOCKOUT = true ∧ ∃ e : Dev, t = e.ring 227 3 0))))) ∧
    (∀ (v : Word) (p a : Nat), wGet v 0 5 = p → wGet v 8 8 = a →
      (s.dev.serviceOpen = false → Completes (.svcAmonWrite v) s fun t => t = s.dev) ∧
      (argOk p a = false → p < 12 → Completes (.svcAmonWrite v) s fun t => t = s.dev) ∧
      (s.dev.serviceOpen = true → p < 12 → p ≠ 7 → argOk p a = true → Completes (.svcAmonWrite v) s fun t =>
        t.reg SVC_AMON = pack [(a, 8), (p, 0)] ∧ t.flag SVC_STAT_METER = (p != 0) ∧ t.con.amon = (p != 0) ∧
        s.dev.leaves t [SVC_AMON, SVC_STAT]) ∧
      (s.dev.serviceOpen = true → 12 ≤ p → Completes (.svcAmonWrite v) s fun t => t.fld SVC_AMON_POINT = 0 ∧
        t.flag SVC_STAT_METER = false ∧ t.con.amon = false ∧ s.dev.leaves t [SVC_AMON, SVC_STAT]) ∧
      (s.dev.serviceOpen = true → p = 7 → a < 160 → s.dev.staticOf a ≠ 4 →
        Completes (.svcAmonWrite v) s fun t => t.reg SVC_AMON = pack [(a, 8), (7, 0)] ∧ t.staticOf a = 3 ∧
          t.flag SVC_STAT_STATIC = true ∧ s.dev.leaves t [SVC_AMON, SVC_STAT])) ∧
    (∀ (v : Word) (n st : Nat), wGet v 8 8 = n → wGet v 0 3 = st →
      (s.dev.serviceOpen = false ∨ s.dev.flag SCAN_STAT_RUN = true → Completes (.svcElWrite v) s fun t => t = s.dev) ∧
      (s.dev.serviceOpen = true → s.dev.flag SCAN_STAT_RUN = false →
        (n < 160 → st < 5 → Completes (.svcElWrite v) s fun t => t.staticOf n = st ∧ t.fld SVC_EL_INDEX = n ∧
          s.dev.leaves t [SVC_EL, SVC_STAT]) ∧
        (n = 255 → st < 3 → Completes (.svcElWrite v) s fun t => (∀ k < 160, t.staticOf k = st) ∧
          t.flag SVC_STAT_STATIC = (st != 0) ∧ s.dev.leaves t [SVC_EL, SVC_STAT]))) ∧
    (s.dev.fullSet = true → s.dev.serviceOpen = true → s.dev.running = false →
      (∀ (point : BitVec 5) (arg : BitVec 10) (p a : Nat), point.toNat = p → arg.toNat = a → p < 12 → p ≠ 4 → p ≠ 7 → a < 256 →
        argOk p a = true → Completes (.meter point arg) s fun t => t.reg SVC_AMON = pack [(a, 8), (p, 0)] ∧
          t.flag SVC_STAT_METER = (p != 0) ∧ t.con.line = [] ∧ s.dev.leaves t [SVC_AMON, SVC_STAT, SVC_ERR]) ∧
      (Completes .meterOff s fun t => t.reg SVC_AMON = 0 ∧ t.flag SVC_STAT_METER = false ∧ t.con.amon = false ∧
        t.con.line = [] ∧ s.dev.leaves t [SVC_AMON, SVC_STAT, SVC_ERR]) ∧
      (∀ (n : BitVec 8) (st : BitVec 3), s.dev.flag SCAN_STAT_RUN = false →
        (n.toNat < 160 → st.toNat < 5 → Completes (.el false n st) s fun t => t.staticOf n.toNat = st.toNat ∧
          s.dev.leaves t [SVC_STAT, SVC_ERR]) ∧
        (st.toNat < 3 → Completes (.el true n st) s fun t => (∀ k < 160, t.staticOf k = st.toNat) ∧
          s.dev.leaves t [SVC_STAT, SVC_ERR]))) ∧
    (∀ (c : Byte) bad, s.dev.pwr.step ≠ 8 → Completes (.consoleCharacter c bad) s fun t => t = s.dev) ∧
    (∀ c : Byte, s.dev.pwr.step = 8 → s.dev.asleep = false → s.dev.modes.waking = false →
      (Completes (.consoleCharacter c true) s fun t => t.con.framed = true ∧ t.con.line = s.dev.con.line ∧
        t.fld SVC_ERR_FRAMING = min (s.dev.fld SVC_ERR_FRAMING + 1) (2 ^ SVC_ERR_FRAMING.width - 1) ∧
        s.dev.leaves t [SVC_ERR]) ∧
      (s.dev.mode ≠ modeWatch →
        (c ∉ [0x0D#8, 0x0A, 0x08, 0x7F, 0x03] →
          (s.dev.con.line.length < 80 → Completes (.consoleCharacter c false) s fun t => t.con.line = s.dev.con.line ++ [c] ∧
            s.dev.leaves t [SVC_ERR]) ∧
          (80 ≤ s.dev.con.line.length → Completes (.consoleCharacter c false) s fun t => t.con.line = s.dev.con.line ∧
            t.con.tooLong = true ∧ s.dev.leaves t [])) ∧
        (c = 0x08 ∨ c = 0x7F → s.dev.con.line ≠ [] → Completes (.consoleCharacter c false) s fun t =>
          t.con.line = s.dev.con.line.dropLast ∧ s.dev.leaves t [SVC_ERR]) ∧
        (c = 0x0D → s.dev.running = true → Completes (.consoleCharacter c false) s fun t =>
          t.con.waits = s.dev.con.waits ++ [s.dev.con.judged] ∧ t.con.line = [] ∧ t.con.lastCr = true ∧ s.dev.leaves t []) ∧
        (c = 0x0D → s.dev.running = false →
          (s.dev.con.judged = .blank → Completes (.consoleCharacter c false) s fun t =>
            ∃ e : Dev, t = e.print (.prompt s.dev.fullSet) ∧
            t.con.line = [] ∧ s.dev.leaves t [SVC_ERR]) ∧
          (∀ code, s.dev.con.judged = .err code → Completes (.consoleCharacter c false) s fun t => ∃ e : Dev,
            t = e.statusLine (.error code) ∧ t.con.line = [] ∧ s.dev.leaves t [SVC_ERR])))) ∧
    (s.dev.running = false → ∀ code : BitVec 3,
      (code.toNat ∈ [1, 3, 4] → Completes (.consoleLineError code) s fun t => t = s.dev.finishErr code.toNat) ∧
      (code.toNat = 2 → Completes (.consoleLineError code) s fun t =>
        t = (s.dev.dropLine.bump SVC_ERR_LONG).statusLine (.error 2)) ∧
      (code.toNat ∉ [1, 2, 3, 4] → Completes (.consoleLineError code) s fun t => t = s.dev)) ∧
    (s.dev.con.rd = none → s.dev.con.todo = [] → s.dev.con.logWait = none →
      (s.dev.con.evmon = false → Completes .ctrlC s fun t => t = s.dev) ∧
      (s.dev.con.evmon = true → Completes .ctrlC s fun t => t.con.evmon = false ∧ t.con.line = s.dev.con.line ∧
        s.dev.leaves t [SVC_ERR])) ∧
    (s.dev.con.rd ≠ none ∨ s.dev.con.todo ≠ [] ∨ s.dev.con.logWait ≠ none → Completes .ctrlC s fun t => t.con.rd = none ∧
      t.con.todo = [] ∧ t.con.logWait = none ∧ t.con.line = s.dev.con.line ∧ s.dev.leaves t [SVC_ERR]) ∧
    (Completes .consoleBreak s fun t => t.con = { s.dev.con with line := [], framed := false, tooLong := false } ∧
      t.fld SVC_ERR_FRAMING = min (s.dev.fld SVC_ERR_FRAMING + 1) (2 ^ SVC_ERR_FRAMING.width - 1) ∧ s.dev.leaves t [SVC_ERR]) ∧
    (Completes .partialLineTimeout s fun t =>
      t = { s.dev with con := { s.dev.con with line := [], framed := false, tooLong := false } }) ∧
    (s.dev.mode = modeWatch → s.dev.flag SYS_CLK_FOSC_ON = false → Completes .consoleWakeEdge s fun t =>
      t.flag SYS_CLK_FOSC_ON = true ∧ t.flag SYS_CLK_LOCKED = false ∧ t.con.session = true ∧ s.dev.leaves t [SYS_CLK]) ∧
    (s.dev.mode ≠ modeWatch → Completes .consoleWakeEdge s fun t => t = s.dev) ∧
    (Completes .consoleSessionEnd s fun t => t = s.dev.setCon { s.dev.con with lastChar := none, session := false }) ∧
    (s.dev.con.request = 0 → Completes .svcNoManager s fun t => t = s.dev) ∧
    (s.dev.con.request ≠ 0 → Completes .svcNoManager s fun t => 
      t = (s.dev.setCon { s.dev.con with request := 0, requestDue := false }).statusLine (.error 9)) ∧
    (s.dev.con.waitJoin = true → s.dev.flag EGL_TILE_JOINED = false → s.dev.fullSet = false →
      Completes .serviceJoinTimeout s fun t =>
      t.con.waitJoin = true ∧ t.fld SVC_STAT_ENTRY = 1 ∧ s.dev.rang t 224 (word 1) 0 ∧ s.dev.leavesRing t [SVC_STAT]) ∧
    (s.dev.con.waitJoin = false → Completes .serviceJoinTimeout s fun t => t = s.dev) ∧
    (s.dev.con.logWait = none → Completes .logNvmTimeout s fun t => t = s.dev) ∧
    (s.dev.con.logWait ≠ none → Completes .logNvmTimeout s fun t =>
      t = (s.dev.setCon { s.dev.con with logWait := none }).statusLine (.error 10)) ∧
    (s.dev.running = false → ∀ code : Word, (s.dev.codeBarred = true → Completes (.svc code) s fun t =>
      t = s.dev.finishErr 7) ∧
      (s.dev.codeBarred = false →
        (code.toNat ≠ s.dev.svcCode → Completes (.svc code) s fun t => t.con.lastReject = some s.dev.ticks ∧
          t.fld SVC_STAT_FAILS = min (s.dev.fld SVC_STAT_FAILS + 1) 3 ∧ t.con.line = [] ∧ s.dev.leavesRing t [SVC_STAT]) ∧
        (code.toNat = s.dev.svcCode →
          (s.dev.mode = modeSafe → Completes (.svc code) s fun t => t.flag SVC_STAT_SAFE_SET = true ∧
            t.fld SVC_STAT_ENTRY = 2 ∧
            t.con.line = [] ∧ s.dev.leavesRing t [SVC_STAT]) ∧
          (s.dev.mode = modeService → s.dev.fullSet = true → Completes (.svc code) s fun t => t = s.dev.finishOk) ∧
          (s.dev.mode ≠ modeSafe → s.dev.mode ≠ modeService →
            (s.dev.isWorker = true → s.dev.flag EGL_TILE_JOINED = false → Completes (.svc code) s fun t =>
              t = s.dev.dropLine.setCon { s.dev.dropLine.con with request := 1, requestDue := true }) ∧
            (s.dev.isWorker = false → (s.dev.isManager && s.dev.onSurface) = false → Completes (.svc code) s fun t =>
              t.modes.service = some ⟨modeService, none, 4⟩ ∧ t.modes.entry = 2 ∧ t.con.line = []))))) ∧
    (s.dev.fullSet = true → s.dev.running = false →
      (s.dev.mode = modeSafe → Completes .svcOff s fun t => t.fld SVC_STAT_ENTRY = 0 ∧ t.flag SVC_STAT_SAFE_SET = false ∧
        t.con.states = [] ∧ t.con.amon = false) ∧
      (s.dev.mode = modeService → s.dev.isWorker = true → s.dev.flag EGL_TILE_JOINED = false → Completes .svcOff s fun t =>
        t = s.dev.dropLine.setCon { s.dev.dropLine.con with request := 2, requestDue := true }) ∧
      (s.dev.mode = modeService → s.dev.aloneNow = true → Completes .svcOff s fun t =>
        t = (s.dev.changeMode modeIdle 4 s.dev.time.frame).finishBanner) ∧
      (s.dev.pwr.held = none → s.dev.sameCycle = none → Completes .consoleReset s fun t => t.pwr.step = 3 ∧ t.pwr.held = none ∧
        t.fld SYS_RSTCAUSE_LAST = 5 ∧ t.fld SYS_RSTCAUSE_STICKY = s.dev.fld SYS_RSTCAUSE_STICKY ||| 16 ∧
        t.fld SYS_RSTCNT_RESETS = min (s.dev.fld SYS_RSTCNT_RESETS + 1) (2 ^ SYS_RSTCNT_RESETS.width - 1) ∧
        t.nvm = s.dev.nvmTorn.nvm))

/-- For every state: each console command that only shows something prints one line of words and ends in OK, and leaves every
register but SVC_ERR, the banks, the EEPROM and the applied configuration as they are; where the transmit buffer has room
nothing but its output and the ended line is new. The words are those of the registers and tables the command names: of
`help`, `id`, the `stat` commands, the event sources, the configuration, the surface, the gather windows, a lamp that is
fitted, the infrared capture, the log registers, the last telemetry record, the legs of a TX electrode, the tracker's
hops, a node's sample, the column tracker, and bytes of the EEPROM. `time` shows one snapshot; `img check` verifies a
slot, which SYS_NVP_VRES shows too. The tags and the formats of the lines are the model's (log entry 6). Rests on R68,
R69, R82, R126, R131, R161, R201, R417, R539, R586, R877. -/
def Obligations.ConsolePrints : Prop :=
  ∀ s : State, s.dev.running = false →
    (Completes .help s fun t => t.con.line = [] ∧ s.dev.leaves t [SVC_ERR] ∧ (s.dev.con.dropped = 0 →
      s.dev.con.level + (OutLine.listing (helpList s.dev.fullSet)).bytes + 9 ≤ 2048 →
        t.con.out = s.dev.con.out ++ [.listing (helpList s.dev.fullSet), .ok, .prompt s.dev.fullSet])) ∧
    (Completes .surfMap s fun t => t.con.line = [] ∧ s.dev.leaves t [SVC_ERR]) ∧
    (∀ c tag ws, (c, tag, ws) ∈ [
      (Instr.id, 0x01, s.dev.shown [SYS_PARTID, SYS_REV] ++ [word s.dev.role, word (s.dev.fld EGL_TILE_X),
        word (s.dev.fld EGL_TILE_Y), word s.dev.mode] ++ s.dev.shown [SVC_STAT]),
      (.sysStat, 0x03, s.dev.shown [SYS_RSTCAUSE, SYS_RSTCNT, SYS_SUPPLY, SYS_CLK] ++ s.dev.pwr.wdTicks.map word),
      (.bootStat, 0x04, s.dev.shown [SYS_BOOT, SYS_IMGSEQ, SYS_IMGLEN, SYS_IMGERR, SYS_FUSE]),
      (.pwrStat, 0x07, s.dev.shown [PWR_STAT, PWR_WAKESRC, PWR_WAKECNT] ++ s.dev.modes.history.flatMap fun p => [p.1, p.2]),
      (.pwrWake, 0x08, [word (s.dev.fld PWR_WAKEEN_EN), word (s.dev.fld PWR_WAKECNT_STORMOFF)]),
      (.timeStat, 0x09, s.dev.shown [TIME_STAT, TIME_OFS, TIME_SLEWREM, TIME_STEPCNT, TIME_CNT] ++
        s.dev.time.steps.flatMap fun p => [p.1, p.2]),
      (.cfgStat, 0x0C, s.dev.shown [CFG_STAT, CFG_APPLY, CFG_EPOCH, CFG_ERR, CFG_CNT, CFG_CNT2] ++
        s.dev.com.history.flatMap fun p => [word p.1, word p.2]),
      (.cfgDelta, 0x0E, s.dev.com.delta.flatMap fun e => [word e.1, e.2]),
      (.surfStat, 0x30, s.dev.shown [EGL_TILE, EGL_SURF, EGL_GRID, EGL_HCNT, EGL_FWD]),
      (.gdeWin, 0xF1, ((List.range 64).filter fun e => s.dev.flag (GDE_WINA_VALID e)).flatMap fun e =>
        [word e, s.dev.reg (GDE_WINA e), s.dev.reg (GDE_WINB e)]),
      (.irxRaw, 0x91, ((List.range 128).map fun i => s.dev.reg (IRX_RAW i)).filter (· != 0)),
      (.logStat, 0xD1, [s.dev.reg CAL_LOGSTAT, s.dev.reg CAL_LOGSEQ, s.dev.reg CAL_LOGQ]),
      (.telem, 0xD2, (List.range 128).map fun i => s.dev.bank 14 (128 * s.dev.telemSlot + i)),
      (.trkHop, 0x40, (List.range 8).map (fun k => word (s.dev.noise k)) ++ word s.dev.trk.slot :: s.dev.trk.hops),
      (.trkRpt, 0x42, [s.dev.reg TRK_RPT_STAT, s.dev.reg TRK_RPT_CNT, s.dev.rpt.lastFlags])] →
      Completes c s fun t => s.dev.says t tag ws) ∧
    (∀ (b : BitVec 4) lo hi, statRange b.toNat = some (lo, hi) → Completes (.blockStat b) s fun t =>
      s.dev.says t (0x10 + b.toNat) (s.dev.shown (((List.range (hi - lo + 1)).map (lo + ·)).filter regDefined))) ∧
    (∀ xy : BitVec 10, Completes (.surfTile xy) s fun t => s.dev.says t 0x3B [s.dev.tileWord xy.toNat]) ∧
    (∀ n : BitVec 10, n.toNat ≤ 511 → Completes (.evrSrc n) s fun t =>
      s.dev.says t 0x0B [s.dev.srcCfg n.toNat, s.dev.sourceStat n.toNat]) ∧
    (∀ p : Word, pidKnown p.toNat = true → Completes (.cfgGet p) s fun t =>
      s.dev.says t 0x0D [cellsGet paramDefault s.dev.cfg p.toNat, s.dev.imageValue p.toNat]) ∧
    (∀ n : BitVec 10, s.dev.lampPresent n.toNat = true → Completes (.lampN n) s fun t =>
      s.dev.says t 0x20 (s.dev.lampStatWord n.toNat :: if n.toNat < 8 then [word (s.dev.sink n.toNat).head]
        else if n.toNat < 16 then [s.dev.reg (LAMP_TAPV (n.toNat - 8))] else [])) ∧
    (∀ n : BitVec 8, n.toNat ≤ 15 → Completes (.memCol n) s fun t =>
      s.dev.says t 0xE0 [s.dev.reg (MEM_COL n.toNat), s.dev.reg (MEM_SPARE n.toNat)]) ∧
    (∀ n : BitVec 8, n.toNat < 160 → s.dev.elRole n.toNat = 1 → Completes (.scanLegs n) s fun t =>
      s.dev.says t 0x32 [word (s.dev.fld (CAL_LEGS_EN n.toNat)), word (s.dev.fld (CAL_LEGS_GOOD n.toNat))]) ∧
    (∀ a n : Nat, ∀ (addr : BitVec 24) (k : BitVec 8), addr.toNat = a → k.toNat = n → 1 ≤ n → n ≤ 64 → a + n ≤ 262144 →
      s.dev.boot.nvpOp = 0 → Completes (.nvmRd addr k) s fun t =>
        s.dev.says t 0x06 ((s.dev.nvmRead a n).map fun b => word b.toNat)) ∧
    (∀ t r : BitVec 8, t.toNat < s.dev.ntx → r.toNat < s.dev.nrx →
      (s.dev.scan.iq = false → Completes (.scanNode t r) s fun x =>
        s.dev.says x 0x31 [s.dev.bank (s.dev.fld SCAN_FRAME_LAST % 4) (1024 + t.toNat * s.dev.nrx + r.toNat)]) ∧
      Completes (.trkBase t r) s fun x => x.con.line = [] ∧ s.dev.leaves x [SVC_ERR]) ∧
    (Completes .scanNoise s fun t => t.con.line = [] ∧ s.dev.leaves t [SVC_ERR]) ∧
    (Completes .time s fun t => ∃ e : Dev, e = s.dev.takeSnapshot .console ∧
      e.says t 0x02 (e.shown [TIME_SECH, TIME_SECL, TIME_FRAC, TIME_EPOCH, TIME_FRAME])) ∧
    (∀ b a, a = (if b then slotBaseB else slotBaseA) → s.dev.boot.nvpOp = 0 → Completes (.imgCheck b) s fun t =>
      t.fld SYS_NVP_VRES_CODE = (s.dev.verifySlot a).code % 2 ^ SYS_NVP_VRES_CODE.width ∧ t.con.line = [] ∧
      s.dev.leaves t [SYS_NVP_VRES, SYS_NVP_VSEQ, SVC_ERR])

/-- For every state. `rd` of one local word prints it; `wr` and every other command of the full command set named here ends in
E06 outside it; inside it `wr` writes the word, `evr fire` rings a host doorbell, `surf reset` resets a tile, `egl inj`
sets one fault rate while injection is open, `egl inj off` clears all, `egl retrain` trains a port, `scan run`, `scan
stop` and `scan tone` start and stop the console's scan or tone, `trk blreset` asks for a baseline reset, `trk cap` arms a
capture, `cal run` makes a run due. `log` prints records, or waits for the NVM bus; `evmon` turns the event monitor on and
off; `rtile` sets the console's tile of the remote window; `egl ping` issues its requests. Rests on R69, R83, R86, R334,
R568, R571, R600, R626, R630, R862. -/
def Obligations.ConsoleCommandsRun : Prop :=
  ∀ s : State, s.dev.running = false →
    (s.dev.fullSet = false → ∀ c a v n xy i k p pl, c ∈ [Instr.wr a v, .evrFire n, .surfReset xy, .eglInj i 0 k, .eglInjOff,
        .eglRetrain p, .scanRun, .scanStop, .scanTone i 0, .trkBlreset, .trkCap pl] →
      Completes c s fun t => t = s.dev.finishErr 6) ∧
    (∀ (addr : BitVec 16) w e, s.dev.goesRemote .console addr.toNat = false →
      s.dev.dropLine.readLocal .console addr.toNat [] = (w, e) →
      Completes (.rd addr 1) s fun t => t = (e.addRun [.rdWord addr.toNat w]).endRun .ok) ∧
    (∀ (addr n : BitVec 16), n.toNat = 0 ∨ 32 < n.toNat → Completes (.rd addr n) s fun t => t = s.dev.finishErr 5) ∧
    (∀ kind : BitVec 2, ∀ n : BitVec 24, (kind.toNat = 0 → 1 ≤ n.toNat ∧ n.toNat ≤ 64) →
      (s.dev.boot.nvpOp ≠ 0 → Completes (.log kind n) s fun t =>
        t = s.dev.dropLine.setCon { s.dev.dropLine.con with logWait := some (s.dev.logLines kind.toNat n.toNat) }) ∧
      (s.dev.boot.nvpOp = 0 → Completes (.log kind n) s fun t =>
        t = s.dev.dropLine.printRun (s.dev.logLines kind.toNat n.toNat) ∧
        t.con.line = [] ∧ s.dev.leaves t [])) ∧
    (∀ c b, (c, b) ∈ [(Instr.evmonOn, true), (.evmonOff, false)] → Completes c s fun t => t.con.evmon = b ∧ t.con.line = [] ∧
      s.dev.leaves t [SVC_ERR]) ∧
    (∀ xy : BitVec 10, Completes (.rtile xy) s fun t => t.surf.rtile = s.dev.surf.rtile.set 2 (word xy.toNat) ∧
      t.con.line = [] ∧ s.dev.leaves t [SVC_ERR]) ∧
    (∀ (xy : BitVec 10) (n : BitVec 8), 1 ≤ n.toNat → n.toNat ≤ 100 → s.dev.link.ping = none →
      Completes (.eglPing xy n) s fun t =>
      ∃ e : Dev, e.link.ping = some (n.toNat, [], 0) ∧ e.link.ops.length = s.dev.link.ops.length + n.toNat ∧ t = e.issueOps) ∧
    (s.dev.fld CAL_STAT_STATE = calIdle → s.dev.fullNow = false → Completes .calRun s fun t =>
      t.fld CAL_STAT_STATE = calDue ∧ t.fld CAL_STAT_TRIGGER = 2 ∧ t.con.line = [] ∧ s.dev.leaves t [CAL_STAT, SVC_ERR]) ∧
    (s.dev.fullSet = true →
      (∀ addr value, Completes (.wr addr value) s fun t => t = s.dev.finishOk.writeHost .console addr.toNat value) ∧
      (∀ value, s.dev.asleep = false → Completes (.wr 0x020A value) s fun t => t.reg 0x020A = value ∧ t.con.line = [] ∧
        s.dev.leaves t [0x020A, SVC_ERR]) ∧
      (∀ n : BitVec 10, 256 ≤ n.toNat → n.toNat ≤ 319 → Completes (.evrFire n) s fun t =>
        t = (s.dev.ring n.toNat 0 0).finishOk ∧ s.dev.leavesRing t []) ∧
      (∀ xy : BitVec 10, xy ≠ 0 → s.dev.isManager = true → Completes (.surfReset xy) s fun t =>
        t = (s.dev.resetTile xy.toNat false).finishOk) ∧
      (∀ (i k : BitVec 8) (m : Nat), i.toNat = m → m < 8 → k.toNat < 16 → s.dev.link.gate = true →
        (Completes (.eglInj i 0 k) s fun t => t.fld (SVC_INJ_KD m) = k.toNat ∧ t.flag (SVC_INJ_DROP m) = true ∧
          t.con.line = [] ∧ s.dev.leaves t [SVC_INJ m, SVC_ERR]) ∧
        (Completes (.eglInj i 1 k) s fun t => t.fld (SVC_INJ_KC m) = k.toNat ∧ t.flag (SVC_INJ_CORRUPT m) = true ∧
          t.con.line = [] ∧ s.dev.leaves t [SVC_INJ m, SVC_ERR]) ∧
        (Completes (.eglInj i 2 k) s fun t => t.fld (SVC_INJ_KR m) = k.toNat ∧ t.flag (SVC_INJ_REORDER m) = true ∧
          t.con.line = [] ∧ s.dev.leaves t [SVC_INJ m, SVC_ERR])) ∧
      (Completes .eglInjOff s fun t => (∀ i < 8, t.reg (SVC_INJ i) = 0) ∧ t.con.line = [] ∧
        s.dev.leaves t (SVC_ERR :: (List.range 8).map SVC_INJ)) ∧
      (∀ p : BitVec 8, p.toNat ≤ 3 → Completes (.eglRetrain p) s fun t =>
        t = (s.dev.writePctl (pack [(0x5A, 16), (2 ^ p.toNat, 4), (s.dev.fld EGL_PCTL_DISABLE, 0)])).finishOk) ∧
      (s.dev.staticBlock = false → s.dev.scan.tone = none → s.dev.hasSensor = true → s.dev.mode = modeService →
        s.dev.flag SCAN_STAT_RUN = false → Completes .scanRun s fun t => t.flag SCAN_STAT_RUN = true ∧
          t.fld SCAN_STAT_PHASE = 4 ∧ t.scan.consoleRun = true ∧ t.con.line = [] ∧ s.dev.leavesRing t [SCAN_STAT]) ∧
      (∀ x, s.dev.scan.tone = some x → Completes .scanStop s fun t => t.scan.tone = none ∧ t.fld SCAN_STAT_PHASE = 0 ∧
        t.con.line = [] ∧ s.dev.leaves t [SCAN_STAT, SVC_ERR]) ∧
      (s.dev.scan.tone = none → s.dev.scan.consoleRun = true → Completes .scanStop s fun t =>
        t = ((s.dev.scanStop 2).setFlag SCAN_STAT_SVC_STOP (s.dev.mode == modeService)).calService.finishOk) ∧
      (∀ (n : BitVec 8) (k : BitVec 3), n.toNat < 160 → s.dev.flag SCAN_STAT_RUN = false → s.dev.staticBlock = false →
        s.dev.mode = modeService → Completes (.scanTone n k) s fun t => t.scan.tone = some (n.toNat, k.toNat) ∧
          t.fld SCAN_STAT_PHASE = 6 ∧ t.con.line = [] ∧ s.dev.leaves t [SCAN_STAT, SVC_ERR]) ∧
      (Completes .trkBlreset s fun t => t.trk.blReset = true ∧ t.con.line = [] ∧ s.dev.leaves t [TRK_CTRL, SVC_ERR]) ∧
      (∀ planes : BitVec 5, s.dev.flag TRK_CAP_STAT_BUSY = false → Completes (.trkCap planes) s fun t =>
        t = (s.dev.writeCapCtrl (pack [(1, 8), (planes.toNat, 2), (1, 0)])).finishOk))

/-- For every state with its 16 converter channels, and the full command set where the command is one of it: `lamp set` starts
one lamp; `lamp clear` clears a tripped group it may clear; `rail vtx` and `rail vled` command a rail in range, `rail vled
auto` makes VLED adaptive, `rail restart` leaves latch-off; `mem repair` starts a repair, or shows why it is refused; `gde
test` copies the words of bank 15 to bank 14; `itx send` and `itx loop` begin a transmission; `hka ch` takes a snapshot;
`hka conv` clears the H set and enters its values; `hka path` leaves the TDAC as it was; `hka cal` begins a ZERO or FULL
step, and applies a calibration. Outside the full command set the commands of it end in E06. Rests on R670, R686, R736,
R746, R768, R771, R805, R807, R829, R833, R842, R843. -/
def Obligations.ConsoleDevicesRun : Prop :=
  ∀ s : State, s.dev.hka.chans.length = 16 → s.dev.running = false →
    (s.dev.fullSet = false → ∀ c n v k m i w x y, c ∈ [Instr.lampSet n y m, .railVtx v, .railVled v, .railVledAuto,
      .railRestart,
        .memRepair k w, .gdeTest w, .itxSend i k, .itxLoop i, .hkaConv k k [], .hkaPath k [] [], .hkaCalZero k,
          .hkaCalFull k x,
        .hkaCalApply k x true] → Completes c s fun t => t = s.dev.finishErr 6) ∧
    (∀ g : BitVec 4, s.dev.groupClr g.toNat ≤ 1 →
      (s.dev.tripped g.toNat = false → Completes (.lampClear g) s fun t => t = s.dev.finishOk) ∧
      (s.dev.tripped g.toNat = true → Completes (.lampClear g) s fun t => t.tripped g.toNat = false ∧ t.con.line = [] ∧
        s.dev.leavesRing t [LAMP_TRIP] ∧
        ∀ n ∈ s.dev.groupLamps g.toNat, (t.lampAt n).level = 0 ∧ (t.lampAt n).fault = 0)) ∧
    (∀ n : BitVec 8, n.toNat ≤ 15 → Completes (.hkaCh n) s fun t =>
      t.hka = { s.dev.hka with snaps := s.dev.hka.snaps.set 2 (n.toNat, (s.dev.hkaChan n.toNat).h) } ∧ t.con.line = [] ∧
      s.dev.leaves t [SVC_ERR]) ∧
    (s.dev.fullSet = true →
      (∀ (n : BitVec 10) (level : BitVec 12) (ms : BitVec 14), s.dev.lampRuns true = true → s.dev.mode ≠ modeWatch →
        s.dev.commandRefused false n.toNat = false → Completes (.lampSet n level ms) s fun t =>
          t.lampAt n.toNat = { s.dev.lampAt n.toNat with
            curve := false, cmd := some (s.dev.lamp.nextNum, (s.dev.lampAt n.toNat).level, level.toNat, ms.toNat, 0) } ∧
          (∀ k, k ≠ n.toNat → t.lampAt k = s.dev.lampAt k) ∧ t.con.line = [] ∧ s.dev.leaves t [LAMP_CNT, SVC_ERR]) ∧
      (s.dev.railActs true = true →
        (∀ v : BitVec 13, s.dev.flag RAIL_STAT_FIXED = false → 600 ≤ v.toNat → v.toNat ≤ 2000 →
          s.dev.rail.vtxTgt ≠ v.toNat * 10 →
          Completes (.railVtx v) s fun t => t.rail.vtxTgt = v.toNat * 10 ∧ t.rail.vtxCmd = some 0 ∧ t.con.line = [] ∧
            s.dev.leaves t [RAIL_SUPERSEDED, SVC_ERR]) ∧
        (s.dev.boostFitted = true → s.dev.rail.vledSoft = none →
          (∀ v : BitVec 13, 800 ≤ v.toNat → v.toNat ≤ 4800 → s.dev.rail.vtxTgt / 10 + 200 ≤ v.toNat →
            s.dev.rail.vledTgt ≠ v.toNat * 10 → Completes (.railVled v) s fun t => t.rail.vledTgt = v.toNat * 10 ∧
              t.rail.vledCmd = some 0 ∧ t.flag RAIL_STAT_FIXED = true ∧ t.con.line = [] ∧
              s.dev.leaves t [RAIL_STAT, RAIL_SUPERSEDED, SVC_ERR]) ∧
          (s.dev.rail.vledTgt ≠ s.dev.adaptiveVled → Completes .railVledAuto s fun t => t.rail.vledTgt = s.dev.adaptiveVled ∧
            t.rail.vledCmd = some 0 ∧ t.flag RAIL_STAT_FIXED = false ∧ t.con.line = [] ∧
            s.dev.leaves t [RAIL_STAT, RAIL_SUPERSEDED, SVC_ERR]))) ∧
      (s.dev.fld RAIL_STAT_VLEDST = 6 → Completes .railRestart s fun t => t.fld RAIL_STAT_VLEDST = 1 ∧
        t.fld RAIL_STAT_ATTEMPT = 1 ∧ t.rail.vledSoft = some (s.dev.rail.vhv, 0) ∧ t.con.line = [] ∧
        s.dev.leaves t [RAIL_STAT, SVC_ERR]) ∧
      (∀ (n : BitVec 8) (c : BitVec 16), n.toNat ≤ 15 → c.toNat ≤ 959 → s.dev.mem.repair = none →
        (s.dev.repairCheck n.toNat c.toNat = 0 → s.dev.flag RAIL_STAT_FIXED = false →
          Completes (.memRepair n c) s fun t => t.mem.repair = some (n.toNat, c.toNat) ∧
          t.mem.console = true ∧ t.rail.vtxTgt = 9000 ∧ t.flag MEM_STAT_REPAIRING = true ∧
          s.dev.leaves t [MEM_REPSTAT, MEM_STAT, RAIL_STAT, RAIL_SUPERSEDED]) ∧
        (s.dev.repairCheck n.toNat c.toNat ≠ 0 → Completes (.memRepair n c) s fun t => ∃ e : Dev,
          e = s.dev.setReg MEM_REPSTAT (pack [(s.dev.repairCheck n.toNat c.toNat, 20), (n.toNat, 15), (c.toNat, 0)]) ∧
            e.says t 0xE1 [pack [(s.dev.repairCheck n.toNat c.toNat, 20), (n.toNat, 15), (c.toNat, 0)]])) ∧
      (∀ (k : BitVec 16) (n : Nat), k.toNat = n → 1 ≤ n → n ≤ 4096 → (s.dev.chan 1).active = none → s.dev.mem.repair = none →
        s.dev.testBad n = [] → Completes (.gdeTest k) s fun t => (∀ w < n, t.bank 14 w = s.dev.bank 15 w) ∧
          (∀ b w, b < 16 → b ≠ 14 → t.bank b w = s.dev.bank b w) ∧ t.con.line = [] ∧ (∀ a, a ≠ SVC_ERR →
            t.reg a = s.dev.reg a)) ∧
      (∀ (j : BitVec 9) (k : BitVec 8) (i : Nat), j.toNat = i → s.dev.ir.tx = none → s.dev.txAllowed true = true →
        wGet (s.dev.pattern i) 0 16 ≠ 0 →
        (Completes (.itxSend j k) s fun t => t.ir.tx = some ⟨0, 1, i, i, k.toNat, 1, true, s.dev.reg ITX_CARRIER⟩ ∧
          t.ir.loop = false ∧
          t.flag ITX_STAT_BUSY = true ∧ t.fld ITX_STAT_INDEX = i ∧ t.con.line = [] ∧ s.dev.leaves t [ITX_STAT, SVC_ERR]) ∧
        (Completes (.itxLoop j) s fun t => t.ir.tx = some ⟨0, 1, i, i, 0, 1, true, s.dev.reg ITX_CARRIER⟩ ∧
          t.ir.loop = true ∧ t.flag IRX_CTRL_ECHO = true ∧
          t.flag ITX_STAT_BUSY = true ∧ s.dev.leaves t [ITX_STAT, IRX_CTRL])) ∧
      (∀ (n k : BitVec 8) (v : Word) (c : Nat), n.toNat = c → 4 ≤ c → c ≤ 15 → c ∉ [9, 10, 13] → k.toNat ≠ 0 →
        s.dev.fld HKA_HOST_CLAIM = 0 → s.dev.conv true = none → wGet (s.dev.cfgWord secHka 0x02 (4 * c + 3)) 23 1 = 0 →
        Completes (.hkaConv n k [(v, 0)]) s fun t => (t.hkaChan c).h = ({} : AccSet).add v ∧
          (t.hkaChan c).f = (s.dev.hkaChan c).f.add v ∧ t.con.line = [] ∧ s.dev.leaves t [SVC_ERR]) ∧
      (∀ (n : BitVec 8) low high, n.toNat ≤ 3 → Completes (.hkaPath n low high) s fun t =>
        t.fld HKA_TDAC_CODE = s.dev.fld HKA_TDAC_CODE ∧ t.fld HKA_TDAC_PIN = s.dev.fld HKA_TDAC_PIN ∧
        t.flag HKA_TDAC_EN = s.dev.flag HKA_TDAC_EN ∧ t.con.line = []) ∧
      (∀ (k : BitVec 8) (n : Nat), k.toNat = n → n ≤ 3 → s.dev.hka.step = none →
        (Completes (.hkaCalZero k) s fun t => t.hka.step = some (n, 1) ∧ t.hka.stepConsole = true ∧
          t.fld HKA_SCSTAT_STATUS = 0 ∧ s.dev.leaves t [HKA_SCSTAT]) ∧
        (∀ uv z, s.dev.hka.zero.getD n none = some z → Completes (.hkaCalFull k uv) s fun t => t.hka.step = some (n, 2) ∧
          t.hka.stepConsole = true ∧ t.reg HKA_SCFULL = uv ∧ t.fld HKA_SCSTAT_STATUS = 0 ∧
          s.dev.leaves t [HKA_SCFULL, HKA_SCSTAT]) ∧
        (∀ vref ok, s.dev.hka.zero.getD n none = none → Completes (.hkaCalApply k vref ok) s fun t =>
          t.fld HKA_SCSTAT_STATUS = 2 ∧ t.con.line = [] ∧ s.dev.leavesRing t [HKA_SCSTAT]) ∧
        (∀ (vref : Word) ok z f (u : Nat), s.dev.hka.zero.getD n none = some z → s.dev.hka.full.getD n none = some f →
          s.dev.nvmBarred = false → s.dev.fld HKA_SCFULL_FULL = u → 0 < f - z → (f - z) * 8 ≤ (u : Int) * 10 →
          (u : Int) * 4 ≤ (f - z) * 5 → z.natAbs * 10 ≤ (if planRef n (s.dev.planWord n) = 0 then 1250000 else vref.toNat) →
          u * 4194304 % (f - z).toNat = 0 → Completes (.hkaCalApply k vref ok) s fun t => t.fld HKA_SCSTAT_STATUS = 1 ∧
            t.reg (HKA_SCOFS n) = wordI z ∧ t.reg (HKA_SCGAIN n) = word (u * 4194304 / (f - z).toNat) ∧ t.con.line = [])))

/-- Where the commands of the modes, of wakes and restarts, and of the frames complete with their own effect, for every state
and all operands that meet the premises. A mode request waits as the host's, the automatic, the worker's and the orphan's;
HOLD is set and cleared; an acknowledgement is taken off those awaited; WAKEEN takes its bits; HOSTWAKE goes low. A
watchdog begins the restart and its end ends it; the end or time-out of the first full run ends start-up; an image request
waits behind 16, a result ends the serving; the drained tile falls asleep and drops every waiting request; a wake source
is shown; a wake without VCORE returns to step 3; a reference is shown ready. FRAME_START takes the next frame, the end of
the self scan and the WATCH scan end theirs, TRACK_FRAME takes the oldest; a held tap, BLRESET, RESYNC, ARM, STOP and the
end of a copy do what they ask. Rests on 06_operating_modes.md, 04_power_clocks_reset.md, 07_touch_front_end.md,
08_finding_contacts.md, 09_reports_and_gestures.md. -/
def Obligations.ModesAndFramesComplete : Prop :=
  ∀ s : State,
    (s.dev.pwrCmdIgnored = false →
      (∀ mode : BitVec 3, mode.toNat ≤ 2 → mode.toNat ≠ s.dev.mode → s.dev.modeHeld = false → s.dev.onSurface = false →
        Completes (.modeRequest mode) s fun t => t.modes.host = some ⟨mode.toNat, none, 1⟩ ∧
          t.fld PWR_STAT_TARGET = mode.toNat) ∧
      (Completes .holdSet s fun t => t.flag PWR_STAT_HOLD = true) ∧
      (Completes .holdClear s fun t => t.flag PWR_STAT_HOLD = false)) ∧
    (s.dev.autoAllowed = true → s.dev.noContact = true → s.dev.onSurface = false →
      (s.dev.mode = modeActive → Completes .autoIdleExpiry s fun t => ∃ e : Dev,
        e.modes.auto = some ⟨modeIdle, none, 2⟩ ∧ t = e.issueOps) ∧
      (s.dev.mode = modeIdle → s.dev.par secModes 0x02 = 1 → Completes .watchAfterExpiry s fun t => ∃ e : Dev,
        e.modes.auto = some ⟨modeWatch, none, 2⟩ ∧ t = e.issueOps)) ∧
    (∀ (mode : BitVec 3) (apply : Word), s.dev.isWorker = true → s.dev.mode ≠ modeSafe → s.dev.mode ≠ modeStart →
      Completes (.mode mode false apply) s fun t => t.modes.manager = some ⟨mode.toNat, some apply.toNat, 6⟩) ∧
    (∀ tile : BitVec 10, s.dev.isManager = true → Completes (.modeAck tile) s fun t => tile.toNat ∉ t.modes.acksDue) ∧
    (s.dev.isWorker = true → s.dev.pwr.step = 8 → s.dev.mode = modeWatch ∨ s.dev.mode = modeIdle ∨ s.dev.mode = modeActive →
      s.dev.flag EGL_TILE_JOINED = true → Completes .orphan s fun t => t.modes.orphan = some ⟨modeHibernate, none, 7⟩) ∧
    (∀ value : Word, Completes (.wakeSourceEnable value) s fun t => t.fld PWR_WAKEEN_EN = value.toNat % 128) ∧
    (s.dev.modes.hostwake = true →
      (s.dev.levelMode = false → Completes .hostwakePulseEnd s fun t => t.modes.hostwake = false) ∧
      (s.dev.levelMode = true → Completes .hostwakeLevelTimeout s (fun t => t.modes.hostwake = false) ∧
        Completes .hostwakeAck s fun t => t.modes.hostwake = false)) ∧
    (s.dev.pwr.coreRestart = false → 4 ≤ s.dev.pwr.step → s.dev.pwr.held = none → Completes .coreWatchdog s fun t =>
      t.pwr.coreRestart = true ∧ t.pwr.wdTicks = (s.dev.ticks :: s.dev.pwr.wdTicks).take 3) ∧
    (s.dev.pwr.coreRestart = true → s.dev.fld SYS_RSTCAUSE_WDRECENT < 3 → s.dev.ir.held = none →
      Completes .coreRestartEnd s fun t => t.pwr.coreRestart = false ∧ ∀ c ∈ t.evr.cores, c.restarting = false) ∧
    (∀ items, s.dev.pwr.step = 6 → s.dev.fullRuns = true →
      Completes (.startupCalibrationEnd items) s (fun t => t.pwr.step = 8) ∧
      Completes (.fullRunTimeout items) s (fun t => t.pwr.step = 8)) ∧
    (∀ (src : BitVec 10) words, s.dev.isManager = true → (s.dev.tile src.toNat).state ≠ tileLost →
      (s.dev.boot.image ≠ [] → src.toNat ∉ s.dev.surf.imgWaiting → src.toNat ∉ s.dev.surf.imgServing →
        16 ≤ s.dev.surf.imgServing.length → Completes (.imgReq src words) s fun t => src.toNat ∈ t.surf.imgWaiting) ∧
      (s.dev.surf.imgWaiting = [] → Completes (.imgResult src words) s fun t => src.toNat ∉ t.surf.imgServing)) ∧
    (s.dev.mode = modeHibernate → s.dev.modes.hibStep = 2 → s.dev.acksAwaited = false → Completes .hibDrainEnd s fun t =>
      t.modes.hibStep = 7 ∧ t.modes.host = none ∧ t.modes.auto = none ∧ t.modes.manager = none) ∧
    (∀ (sources : BitVec 7) ok, s.dev.mode = modeWatch → sources.toNat &&& s.dev.fld PWR_WAKEEN_EN ≠ 0 →
      Completes (.wake sources 0 ok) s fun t => t.fld PWR_WAKESRC_SEEN = sources.toNat &&& s.dev.fld PWR_WAKEEN_EN) ∧
    (s.dev.modes.waking = true → s.dev.pwr.step = 3 → s.dev.pwr.held = none → Completes .wakeVcoreTimeout s fun t =>
      t.pwr.step = 3 ∧ t.modes.waking = false) ∧
    (s.dev.hkaOn = true → Completes (.referenceReady false) s fun t => t.flag HKA_STAT_REFINT_RDY = true) ∧
    (s.dev.framesRun = true → s.dev.scan.cur = none → Completes .frameStart s fun t => t.time.frame = s.dev.nextFrame) ∧
    (∀ f listen selfs chipsI chipsQ trips, s.dev.scan.cur = some f →
      Completes (.selfScanEnd listen selfs chipsI chipsQ trips) s fun t => t.scan.cur = none ∧ t.fld SCAN_STAT_PHASE = 4) ∧
    (∀ selfs seen covered, s.dev.mode = modeWatch → s.dev.hasSensor = true → s.dev.pwr.step = 8 →
      s.dev.bankFree s.dev.time.frame = true → Completes (.watchScan selfs seen covered) s fun t =>
        t.fld SCAN_FRAME_LAST = s.dev.time.frame % 16777216) ∧
    (∀ f rest (us : BitVec 16) handed, s.dev.trk.queue = f :: rest → (∀ g ∈ s.dev.trk.queue, g.scrap = false) →
      s.dev.pwr.coreRestart = false → Completes (.trackFrame us handed) s fun t => t.trk.queue = rest) ∧
    (∀ tap, s.dev.rpt.heldTap = some tap → Completes .tapHoldExpiry s fun t => t.rpt.heldTap = none) ∧
    (∀ value, Completes (.blreset value) s (fun t => t.trk.blReset = true) ∧
      Completes (.resync value) s fun t => t.flag TRK_RPT_STAT_RSPEND = true) ∧
    (∀ (value : Word) (e : Dev), e = s.dev.storeReg TRK_CAP_CTRL (value ||| 1) → s.dev.flag TRK_CAP_STAT_BUSY = false →
      s.dev.owner 15 = 8 → (e.fld TRK_CAP_CTRL_PLANES).testBit 4 = false →
      s.dev.fld TRK_CAP_DST_WORD + e.capLength (e.fld TRK_CAP_CTRL_PLANES) ≤ 16384 →
      Completes (.arm value) s fun t => t.flag TRK_CAP_STAT_BUSY = true ∧ t.fld TRK_CAP_STAT_DONE = 0) ∧
    (∀ value : Word, s.dev.flag TRK_CAP_STAT_BUSY = true → wGet value 0 1 = 0 → s.dev.rpt.copying = none →
      Completes (.stop value) s fun t => t.flag TRK_CAP_STAT_BUSY = false) ∧
    (∀ n ok remote, s.dev.rpt.copying = some n → s.dev.rpt.copied = true → (s.dev.chan 2).active = none →
      Completes (.captureCopyEnd ok remote) s fun t => t.rpt.copying = none)

/-- Where the commands of USB complete with their own effect, for every state and all operands that meet the premises. A device
that answers tokens answers each request of R465 that it supports with its data, or with an empty status stage after the
effect (a halt set or cleared, an address taken, a configuration left), and stalls any other. VBUS is noted; without it
the pull-up disconnects and USB_STAT reads 0. A bus reset leads to state 2; an idle bus sets SUSP, resume signalling
clears it; three tokens lock; a remote wake drives K and releases the bus; a packet error is noted at its time; a report
goes out. The vendor endpoint answers a command of its own with its code and tag; the acknowledgement clears the response.
Rests on 13_usb.md. -/
def Obligations.UsbCommandsComplete : Prop :=
  ∀ s : State,
    (s.dev.usbAnswers = true →
      (∀ (index len : BitVec 16) halted, s.dev.haltOf index.toNat = some halted → index ≠ 0 → index ≠ 0x80 →
        (Completes (.getStatus 2 index len) s fun t => t.usb.ep0 = some ((bytesOf [bit halted, 0]).take len.toNat)) ∧
        (Completes (.setFeature 2 0 index) s fun t => t.haltOf index.toNat = some true ∧ t.usb.ep0 = some []) ∧
        (Completes (.clearFeature 2 0 index) s fun t => t.haltOf index.toNat = some false ∧ t.usb.ep0 = some [])) ∧
      (s.dev.usbState ≠ usbConfigured → Completes (.setAddress 0) s fun t => t.usbState = usbDefault ∧
        t.fld USB_STAT_ADDR = 0 ∧ t.usb.ep0 = some []) ∧
      (∀ (i : Byte) (index len : BitVec 16) text, s.dev.usbStringOf i.toNat = some text →
        Completes (.getDescriptor (3#8 ++ i) index len) s fun t => t.usb.ep0 = some (text.take len.toNat)) ∧
      (∀ len : BitVec 16, Completes (.getConfiguration len) s fun t =>
        t.usb.ep0 = some ((bytesOf [s.dev.fld USB_STAT_CFG]).take len.toNat)) ∧
      (s.dev.usbState = usbConfigured →
        (Completes (.setConfiguration 0) s fun t => t.flag USB_STAT_CFG = false ∧ t.usbState = usbAddress ∧
          t.usb.ep0 = some []) ∧
        (∀ index len : BitVec 16, index.toNat < (if s.dev.hasHid then 2 else 1) →
          (Completes (.getInterface index len) s fun t => t.usb.ep0 = some ([0#8].take len.toNat)) ∧
          (Completes (.setInterface 0 index) s fun t => t.usb.ep0 = some [])) ∧
        (s.dev.hasHid = true → ∀ value len : BitVec 16,
          (Completes (.setIdle value 0) s fun t => t.usb.idle = value.toNat / 256 ∧ t.usb.ep0 = some []) ∧
          (Completes (.getIdle value 0 len) s fun t => t.usb.ep0 = some ((bytesOf [s.dev.usb.idle]).take len.toNat)) ∧
          ∀ report, s.dev.usb.lastInput = some report → Completes (.getReport 0x0101 0 len) s fun t =>
            t.usb.ep0 = some (report.take len.toNat))) ∧
      Completes .stall s fun t => t.usb.ep0 = none) ∧
    (Completes .usbAttach s fun t => t.usb.vbus = true) ∧
    (s.dev.usbState ≠ 0 → Completes (.usbDetach false) s fun t => t.usb.vbus = false ∧ t.usbState = 0) ∧
    (∀ value : Word, wGet value 16 8 = 0x5A → wGet value 0 1 = 1 → s.dev.usbState ≠ 0 →
      Completes (.detach .console value) s fun t => t.flag USB_CTRL_DETACH = true ∧ t.usbState = 0) ∧
    (∀ frame : BitVec 11, s.dev.usbState ≠ 0 → s.dev.flag USB_STAT_SUSP = false →
      Completes (.startOfFrameToken frame) s fun t => t.fld USB_FRNUM_FRNUM = frame.toNat) ∧
    (usbDefault ≤ s.dev.usbState → 3 ≤ s.dev.usb.sofCount → Completes .sofLock s fun t => t.flag USB_STAT_SOFLOCK = true) ∧
    (s.dev.usbState ≠ 0 →
      (Completes .usbBusReset s fun t => t.usbState = usbDefault) ∧
      (Completes .usbPacketError s fun t => ∃ earlier, t.usb.errTicks = s.dev.ticks :: earlier)) ∧
    (usbDefault ≤ s.dev.usbState → s.dev.flag USB_STAT_SUSP = false → Completes .usbSuspend s fun t =>
      t.flag USB_STAT_SUSP = true) ∧
    (s.dev.flag USB_STAT_SUSP = true → Completes .usbResume s fun t => t.flag USB_STAT_SUSP = false) ∧
    (s.dev.usb.wake = 1 → Completes (.remoteWakeSampleEnd 0) s fun t => t.usb.wake = 2) ∧
    (∀ hostK, s.dev.usb.wake = 2 → Completes (.remoteWakeDriveEnd hostK) s fun t => t.usb.wake = 0) ∧
    (∀ report rest, s.dev.hidOn = true → s.dev.usb.halt1 = false → s.dev.usb.reports = report :: rest →
      Completes .hidReportSend s fun t => t.usb.lastInput = some report) ∧
    (s.dev.ep2Ready = true →
      (∀ (tag n flags : Byte), 1 ≤ n.toNat → n.toNat ≤ 64 → Completes (.ep2Events tag n flags) s fun t =>
        t.usb.release = (if flags.getLsbD 0 then min n.toNat (s.dev.occupancy .h1) else 0) ∧ t.usb.response ≠ none) ∧
      (∀ (tag : Byte) (addr : BitVec 16), addr.toNat < 0x2000 → regDefined addr.toNat = false → s.dev.asleep = false →
        Completes (.ep2Read tag 1 addr) s fun t => t.usb.response = some [byte 1, tag, byte 0, byte 1, 0, 0, 0]) ∧
      (∀ (tag : Byte) (value : Word), s.dev.modes.waking = false → s.dev.asleep = false →
        Completes (.ep2Write tag 1 0x020A [value]) s fun t => t.usb.response = some [byte 2, tag, byte 0, byte 1]) ∧
      (∀ code tag : Byte, 3 < code.toNat → Completes (.ep2UnknownOp code tag) s fun t =>
        t.usb.response = some [byte code.toNat, tag, byte 1, byte 0]) ∧
      ∀ code tag ovr, Completes (.ep2BadLength code tag ovr) s fun t =>
        t.usb.response = some [byte code.toNat, tag, byte 2, byte 0]) ∧
    (∀ answer, s.dev.usb.response = some answer → s.dev.pwr.swReset ≠ some .usb → s.dev.usb.detachAtAck = none →
      Completes .ep2ResponseAck s fun t => t.usb.response = none)

/-- Where the commands of a commit and of a surface's tiles complete with their own effect, for every state and all operands
that meet the premises. A keyed COMMIT or CHECK in phase 0 begins the checks on the stage, CLEAR empties it, CANCEL in
phase 1 ends with RESULT 7, and the checks' end shows what they found; a calibration that times out goes on in slices. A
worker that holds nothing begins to hold a PREPARE of several parts, makes the commit due at GO and GO_LATE, and drops it
at ABORT; the manager takes a READY off those awaited and a GO_ACK off the due, ends at REFUSE with RESULT 3, and waits for
none after the time-out. ENUM gives coordinates; WELCOME the first frame; DELTA its words; REFUSE_JOIN ends the attempt;
RESET runs to step 3. JOIN waits; CONTACTS and STRIP are kept; each deadline ends its wait; FORWARD counts; SVC_REQ asks
for SERVICE; LEAVE, silence and EGL_TRESET change the tile's state. Rests on 14_runtime_changes.md, 15_tiled_surfaces.md. -/
def Obligations.CommitsAndTilesComplete : Prop :=
  ∀ s : State,
    (s.dev.isWorker = false → s.dev.fld CFG_STAT_PHASE = 0 →
      (s.dev.mode = modeIdle ∨ s.dev.mode = modeActive → Completes (.cfgCommit 0xC5) s fun t =>
        t.fld CFG_STAT_PHASE = 1 ∧ t.com.staged = s.dev.stage) ∧
      (Completes (.cfgCheck 0xC5) s fun t => t.fld CFG_STAT_PHASE = 1 ∧ t.com.staged = s.dev.stage ∧ t.com.checkOnly = true) ∧
      Completes (.cfgClear 0xC5) s fun t => t.fld CFG_NSTG_N = 0) ∧
    (s.dev.isWorker = false → s.dev.com.checkOnly = false → s.dev.fld CFG_STAT_PHASE = 1 →
      Completes (.cfgCancel 0xC5) s fun t => t.fld CFG_STAT_PHASE = 0 ∧ t.fld CFG_STAT_RESULT = 7) ∧
    (∀ j, s.dev.fld CFG_STAT_PHASE = 1 → s.dev.judgeSet s.dev.com.staged (!s.dev.com.checkOnly) = j →
      Completes .cfgCheckEnd s fun t =>
        t.reg CFG_ERR = pack [(min j.clamps 255, 16), (j.reason, 8), (j.index % 256, 0)]) ∧
    (s.dev.com.cold = true → Completes .coldCalibrationTimeout s fun t => t.com.cold = false) ∧
    (∀ (src : BitVec 10) (words : List Word) n, (words.getD 0 0).toNat = n →
      (s.dev.isWorker = true →
        (s.dev.flag EGL_TILE_JOINED = true → wGet (words.getD 2 0) 8 8 = 0 → 1 < wGet (words.getD 2 0) 0 8 →
          Completes (.prepare src words) s fun t => t.com.incoming = wordPairs (words.drop 3)) ∧
        (s.dev.com.armed = true → s.dev.com.epoch = n →
          (Completes (.go src words) s fun t => t.com.go = true ∧ t.fld CFG_STAT_PHASE = 3) ∧
          (Completes (.goLate src words) s fun t => t.com.go = true ∧ t.fld CFG_STAT_PHASE = 3) ∧
          Completes (.abort src words) s fun t => t.com.armed = false ∧ t.fld CFG_STAT_PHASE = 0)) ∧
      (s.dev.isManager = true → (s.dev.tile src.toNat).state ≠ tileLost → s.dev.com.epoch = n →
        (s.dev.fld CFG_STAT_PHASE = 2 →
          (src.toNat ∈ s.dev.com.readyDue → Completes (.ready src words) s fun t => src.toNat ∉ t.com.readyDue) ∧
          Completes (.refuse src words) s fun t => t.fld CFG_STAT_PHASE = 0 ∧ t.fld CFG_STAT_RESULT = 3) ∧
        (src.toNat ∈ s.dev.com.ackDue → s.dev.fld CFG_STAT_PHASE < 4 → Completes (.goAck src words) s fun t =>
          src.toNat ∉ t.com.ackDue))) ∧
    (s.dev.isManager = true → s.dev.fld CFG_STAT_PHASE = 4 → Completes .goAckTimeout s fun t => t.com.ackDue = []) ∧
    (∀ (src : BitVec 10) (words : List Word), s.dev.isWorker = true →
      (s.dev.surf.known = false → Completes (.enum words) s fun t =>
        t.surf.known = true ∧ t.ownXY = wGet (words.getD 0 0) 0 10) ∧
      (s.dev.pwr.step = 8 → s.dev.mode ≠ modeSafe → s.dev.flag EGL_TILE_JOINED = false →
        Completes (.welcome src words) s fun t =>
        t.surf.firstFrame = some ((words.getD 0 0).toNat, (words.getD 1 0).toNat, (words.getD 2 0).toNat) ∧
        t.fld CFG_EPOCH_N = (words.getD 3 0).toNat) ∧
      ((words.getD 0 0).toNat = s.dev.surf.deltaBuf.length →
        s.dev.surf.deltaBuf.length + words.length / 2 < s.dev.surf.deltaDue →
        Completes (.delta src words) s fun t => t.surf.deltaBuf = s.dev.surf.deltaBuf ++ wordPairs (words.drop 1)) ∧
      (s.dev.flag EGL_TILE_JOINED = false → Completes (.refuseJoin src words) s fun t =>
        t.surf.firstFrame = none ∧ t.surf.deltaDue = 0) ∧
      (s.dev.pwr.held = none → Completes (.reset src words) s fun t =>
        t.pwr.step = 3 ∧ t.surf.linkBoot = (wGet (words.getD 0 0) 0 1 == 1))) ∧
    (∀ (src : BitVec 10) (words : List Word), wGet (words.getD 1 0) 8 5 = 0 → s.dev.surf.strips = [] →
      Completes (.strip src words) s fun t => ∃ e, t.surf.strips = [e] ∧ e.frame = (words.getD 0 0).toNat ∧
        e.vals = words.drop 2) ∧
    (∀ n, s.dev.stripFrame = some n → Completes .stripDeadline s fun t => ∀ e ∈ s.dev.joinedEdges,
      (t.surf.strips.any fun r => r.frame == n && r.edge == e) = true) ∧
    (∀ n, s.dev.surf.frame = some n → Completes .contactsDeadline s fun t => t.surf.frame = none) ∧
    (s.dev.isManager = true → ∀ (src : BitVec 10) (words : List Word), (s.dev.tile src.toNat).state ≠ tileLost →
      (∀ xy, wGet (words.getD 0 0) 0 10 = xy → (s.dev.tile xy).state ≠ tileLost → s.dev.pwr.step = 8 → s.dev.mode ≠ modeSafe →
        s.dev.joinsWait = true → Completes (.join src words) s fun t => (t.tile xy).waiting = some words) ∧
      (s.dev.mode = modeIdle ∨ s.dev.mode = modeActive ∨ s.dev.mode = modeWatch → wGet (words.getD 0 0) 0 1 = 0 →
        Completes (.svcReq src words) s fun t => t.modes.entry = 3) ∧
      ((s.dev.tile src.toNat).state = tileJoined → wGet (words.getD 1 0) 19 5 = 0 → 2 ≤ wGet (words.getD 1 0) 14 5 →
        Completes (.contacts src words) s fun t => (src.toNat, 1, words.drop 2) ∈ t.surf.parts) ∧
      (wGet (words.getD 0 0) 15 9 ≠ 188 → Completes (.forward src words) s fun t =>
        t.fld EGL_FWD_COUNT = min (s.dev.fld EGL_FWD_COUNT + 1) (2 ^ EGL_FWD_COUNT.width - 1)) ∧
      (Completes (.leave src words) s fun t => (t.tile src.toNat).state = tileSafe) ∧
      (∀ tile : BitVec 10, (s.dev.tile tile.toNat).state = tileJoined → tile.toNat ≠ s.dev.ownXY →
        Completes (.tileLost tile) s fun t => (t.tile tile.toNat).state = tileLost) ∧
      ∀ v : Word, wGet v 16 8 = 0xA5 → wGet v 0 10 ≠ 0 → (s.dev.tile (wGet v 0 10)).state ≠ tileJoined →
        Completes (.eglTreset v) s fun t => (t.tile (wGet v 0 10)).state = tileResetting)

/-- Where the commands of the link complete with their own effect, for every state with its four ports and all operands that
meet the premises. Each step of a port's training leads to the next, and each way down shows its reason; RETRAIN trains
a port again and PORT_DISABLE keeps it off; a fresh beacon is taken, a wake packet is noted. A good frame in order
advances the expected number; ACK shows FREE; NAK and the time-out begin a resend round; an aged packet leaves its queue; a
gap is skipped and counted. A lone operation takes its tag, is reported starved, tries again, and ends at its response; a
tag returns; a PING is answered with its word, delivered or heard directly, and a worker answers a remote read and write
with the address; the remote window counts its operation; the oldest cache entry goes, and so does a held frame.
Rests on 16_egret_link.md, 15_tiled_surfaces.md. -/
def Obligations.LinkCommandsComplete : Prop :=
  ∀ s : State, s.dev.link.ports.length = 4 →
    (∀ (port : BitVec 2) (p : Nat), port.toNat = p →
      (s.dev.fld (EGL_PSTAT_STATE p) = portDetect → s.dev.mode ≠ modeWatch →
        ((s.dev.port p).train = 1 → Completes (.signalDetect port) s fun t => (t.port p).train = 2) ∧
        ((s.dev.port p).train = 0 → Completes (.retrainDelay port) s fun t => (t.port p).train ≠ 0)) ∧
      (s.dev.fld (EGL_PSTAT_STATE p) = portTraining →
        ((s.dev.port p).train = 2 → Completes (.commaAlignment port) s fun t => (t.port p).train = 3) ∧
        (∀ w : Word, (s.dev.port p).train = 3 → wGet w 20 4 = 1 → wGet w 16 4 = 1 → Completes (.linkctlId port w) s fun t =>
          t.fld (EGL_PSTAT_PEERPORT p) = wGet w 14 2 ∧ t.fld (EGL_PSTAT_PEERXY p) = wGet w 0 10) ∧
        Completes (.trainingTimeout port) s fun t => t.fld (EGL_PSTAT_REASON p) = 4) ∧
      (∀ trip turnaround, 1 < (s.dev.port p).trips → Completes (.delayResp port trip turnaround) s fun t =>
        (t.port p).trips = (s.dev.port p).trips - 1) ∧
      (s.dev.isUp p = true →
        (∀ w turnaround : Word, wGet w 20 4 = 2 → Completes (.delayReq port w turnaround) s fun t =>
          (t.port p).lastOut = [pack [(3, 20), (wGet w 0 4, 0)], turnaround]) ∧
        (Completes (.delayRecalibration port) s fun t => (t.port p).trips = 4) ∧
        (Completes (.signalLoss port) s fun t => t.flag (EGL_PSTAT_SIG p) = false ∧ t.fld (EGL_PSTAT_REASON p) = 1) ∧
        (Completes (.linkCodeErrors port) s fun t => t.fld (EGL_PSTAT_REASON p) = 2) ∧
        (∀ (seq : BitVec 4) w0 w1 payload, s.dev.link.gate = false → (seq.toNat + 16 - (s.dev.port p).rxSeq) % 16 = 0 →
          s.dev.link.reorder = [] → s.dev.inHeld p < 16 → Completes (.sequencedFrame port seq true w0 w1 payload) s fun t =>
            (t.port p).rxSeq = ((s.dev.port p).rxSeq + 1) % 16) ∧
        (∀ b : Byte, Completes (.ack port b) s fun t => t.fld (EGL_PINFL_FREE p) = b.toNat / 16) ∧
        (∀ b : Byte, ((s.dev.port p).window.any fun f => f.1 == b.toNat % 16) = true → (s.dev.port p).rounds < 16 →
          Completes (.nak port b) s fun t => (t.port p).rounds = (s.dev.port p).rounds + 1) ∧
        ((s.dev.port p).window ≠ [] → (s.dev.port p).rounds < 16 → Completes (.resendTimeout port) s fun t =>
          (t.port p).rounds = (s.dev.port p).rounds + 1)) ∧
      (∀ f rest, (s.dev.port p).queue = f :: rest → Completes (.packetAged port) s fun t => (t.port p).queue = rest) ∧
      (∀ v : Word, wGet v 16 8 = 0x5A →
        (wGet v 0 4 = 0 → (wGet v 4 4).testBit p = true → s.dev.fld (EGL_PSTAT_STATE p) ≠ portDisabled →
          Completes (.retrain v) s fun t => (t.port p).train = 1 ∧ t.fld (EGL_PSTAT_STATE p) = portDetect) ∧
        ((wGet v 0 4).testBit p = true → (s.dev.fld EGL_PCTL_DISABLE).testBit p = false → Completes (.portDisable v) s fun t =>
          t.fld EGL_PCTL_DISABLE = wGet v 0 4 ∧ t.isUp p = false)) ∧
      (∀ ws (stay : BitVec 24) n, (ws.getD 0 0).toNat = n → s.dev.link.gate = false → s.dev.isManager = false →
        wGet (ws.getD 5 0) 8 6 ≤ 62 → (∀ m, s.dev.link.beacon = some m → 0 < frameDiff m n) →
        (s.dev.isUp p = true → Completes (.beacon port true ws stay) s fun t => t.link.beacon = some n) ∧
        (s.dev.mode = modeWatch → Completes (.watchBeacon port true ws stay) s fun t => t.link.beacon = some n)) ∧
      (∀ ok, s.dev.mode = modeWatch → s.dev.modes.wokenInWatch = false → s.dev.isWorker = true →
        s.dev.fld PWR_WAKEEN_EN = 0 → Completes (.wakePacket port true ok) s fun t =>
          t.modes.wokenInWatch = true ∧ t.flag (EGL_PSTAT_SIG p) = true)) ∧
    (∀ h rest, s.dev.link.hold = h :: rest → Completes .gapSkip s fun t =>
      t.fld EGL_E2E_GAPSKIP = min (s.dev.fld EGL_E2E_GAPSKIP + 1) (2 ^ EGL_E2E_GAPSKIP.width - 1)) ∧
    (∀ o, s.dev.link.done = [] → s.dev.link.ops = [o] →
      (∀ tg r, s.dev.outbox = [] → o.tag = none → o.packet.dest ≠ s.dev.ownXY → s.dev.freeTag = some tg →
        s.dev.routeOf o.packet = some r → Completes .operationIssue s fun t =>
          t.link.ops = [{ o with tag := some tg, port := r.1 }]) ∧
      (o.tag = none → o.starved = false → Completes .tagStarved s fun t => t.link.ops = [{ o with starved := true }]) ∧
      (∀ tag : BitVec 6, o.tag = some tag.toNat → o.result = none →
        (o.attempt < 3 → Completes (.opAttemptTimeout tag) s fun t => t.link.ops = [{ o with attempt := o.attempt + 1 }]) ∧
        (∀ src : BitVec 10, o.dest = src.toNat → s.dev.outbox = [] →
          (∀ payload, o.requester = 0 → Completes (.operationResponse src tag payload) s fun t => t.link.ops = []) ∧
          (∀ value, o.requester = 1 → remoteOp o = true → Completes (.remoteResp src tag value) s fun t =>
            t.link.ops = [])))) ∧
    (∀ tag : BitVec 6, Completes (.tagReturn tag) s fun t => t.link.heldTags = s.dev.link.heldTags.erase tag.toNat) ∧
    (∀ h rest flips, s.dev.link.inbox = h :: rest → h.2.cls = 1 → h.2.type = 6 → wGet (h.2.payload.getD 0 0) 8 2 = 0 →
      Completes (.requestDelivery flips) s fun t => ∃ e : Dev, e.link.inbox = rest ∧
        t = e.respond h.2.src h.2.tag 6 [h.2.payload.getD 0 0]) ∧
    (∀ e rest, s.dev.link.cache = e :: rest → Completes .duplicateCacheExpiry s fun t => t.link.cache = rest) ∧
    (∀ (src : BitVec 10) (tag : BitVec 6),
      (∀ w, wGet w 8 2 = 0 → Completes (.ping src tag w) s fun t => ∃ e : Dev, t = e.respond src.toNat tag.toNat 6 [w]) ∧
      (s.dev.isWorker = true → ∀ addr : BitVec 16,
        (Completes (.remoteRd src tag addr) s fun t => ∃ (e : Dev) (value : Word),
          t = e.respond src.toNat tag.toNat 1 [word (msgRemoteResp * 65536), word addr.toNat, value]) ∧
        (∀ value, Completes (.remoteWr src tag addr value) s fun t => ∃ e : Dev,
          t = e.respond src.toNat tag.toNat 1 [word (msgRemoteResp * 65536), word addr.toNat, 0]))) ∧
    (∀ rq (addr : BitVec 16), s.dev.asleep = false → s.dev.isManager = true → addr.toNat < 0x2000 → s.dev.remoteXY rq ≠ 0 →
      s.dev.hasJoined (s.dev.remoteXY rq) = true → ∀ value c, c = Instr.remoteWindowRead rq addr ∨
        c = Instr.remoteWindowWrite rq addr value → Completes c s fun t =>
          t.fld EGL_RCNT_OPS = min (s.dev.fld EGL_RCNT_OPS + 1) (2 ^ EGL_RCNT_OPS.width - 1)) ∧
    (∀ r (point : BitVec 3), s.dev.link.reorder = [r] → r.1 = point.toNat → r.1 % 2 = 0 →
      Completes (.reorderRelease point) s fun t => t.link.reorder = [])

/-- Where the commands of the banks, the gather engine and the rails complete with their own effect, for every state and all
operands that meet the premises. The owner of a bank stores through port A and any master but the window through port B;
an owner write waits for its handover; the scrubber goes on; a late scrub is counted; a window read of a good word finds it,
and a write stores where the host owns the bank. A repair starts, and its end and its time-out end it. A channel takes a
push, goes on after RESUME and SKIP, drops its descriptor at ABORT and all at FLUSH; a burst moves its words; a GATHER
read is answered. A VTX command is remembered, VLED becomes fixed or adaptive, an update takes the measured outputs, a
command done is over, the demand is shown, a soft start ends, VTX goes back to the regulator, a short stops the boost and
is tried again, the latch is cleared, an overvoltage holds the gate low, a VTX fault is shown and started over.
Rests on 17_memory_banks.md, 18_gather_engine.md, 19_rails.md. -/
def Obligations.BanksGatherAndRailsComplete : Prop :=
  ∀ s : State,
    (∀ (bank master : BitVec 4) (w : BitVec 14) (b n : Nat), bank.toNat = b → w.toNat = n → s.dev.mem.repair = none →
      (∀ v flips waited, s.dev.ownsBank b master.toNat = true →
        Completes (.portAAccess bank w master (some v) flips waited) s fun t => t.bank b n = v) ∧
      (∀ v flips waited, master.toNat ≠ 8 →
        Completes (.portBAccess bank w master (some v) flips waited false) s fun t => t.bank b n = v) ∧
      (∀ rq flips, s.dev.winBank rq = b → s.dev.mem.bad.contains (bankAddr b n) = false → flips = [] →
        Completes (.memoryWindowRead rq w flips) s fun t => t = s.dev ∧ s.dev.windowWord rq n = s.dev.bank b n) ∧
      (∀ rq v, s.dev.winBank rq = b → s.dev.owner b = 8 →
        Completes (.memoryWindowWrite rq w v) s fun t => t.bank b n = v) ∧
      (∀ owner : BitVec 4, b ≠ 8 → b ≠ 9 → owner.toNat ≠ s.dev.owner b → Completes (.ownerWrite none bank owner) s fun t =>
        t.flag (MEM_OWN_PEND b) = true ∧ t.fld (MEM_OWN_NEXT b) = owner.toNat) ∧
      (s.dev.flag (MEM_OWN_PEND b) = true → Completes (.handover bank) s fun t => t.owner b = s.dev.fld (MEM_OWN_NEXT b)) ∧
      (s.dev.mode ≠ modeHibernate → 5 ≤ s.dev.pwr.step → s.dev.mem.bad = [] → Completes (.scrub [] 0) s fun t =>
        t.fld MEM_STAT_SCRUBBANK = (s.dev.fld MEM_STAT_SCRUBBANK + 1) % 16) ∧
      (∀ rq v, wGet v 16 8 = 0x5A → s.dev.repairCheck (wGet v 10 4) (wGet v 0 10) = 0 → Completes (.repair rq v) s fun t =>
        t.mem.repair = some (wGet v 10 4, wGet v 0 10) ∧ t.flag MEM_STAT_REPAIRING = true)) ∧
    (Completes .scrubLate s fun t =>
      t.fld MEM_SCRUB_LATE = min (s.dev.fld MEM_SCRUB_LATE + 1) (2 ^ MEM_SCRUB_LATE.width - 1)) ∧
    (s.dev.mem.repair ≠ none → s.dev.mem.console = false → s.dev.mem.waiting = [] →
      (∀ f v, Completes (.repairVtxReady f v) s fun t => t.mem.repair = none ∧
        t.fld MEM_REPSTAT_RESULT = (if f = true ∧ v = true then 1 else 6)) ∧
      Completes .repairVtxTimeout s fun t => t.mem.repair = none ∧ t.fld MEM_REPSTAT_RESULT = 5) ∧
    (∀ (channel : BitVec 3) (c : Nat), channel.toNat = c → c < 2 → s.dev.gde.channels.length = 8 →
      (s.dev.pushResult c = 1 → Completes (.gdePush channel) s fun t =>
        t.fld (if c = 0 then GDE_PUSHRES_CH0 else GDE_PUSHRES_CH1) = 1) ∧
      (s.dev.chanFaulted c = true → (s.dev.chan c).active ≠ none →
        (Completes (.gdeResume channel) s fun t => t.chanFaulted c = false) ∧
        Completes (.gdeSkip channel) s fun t => t.chanFaulted c = false) ∧
      (Completes (.gdeAbort channel) s fun t => (t.chan c).active = (s.dev.chan c).queue.head? ∧
        (t.chan c).queue = (s.dev.chan c).queue.tail) ∧
      Completes (.gdeFlush channel) s fun t => (t.chan c).active = none ∧ (t.chan c).queue = []) ∧
    (∀ c e base len src dst n, s.dev.gde.channels.length = 8 → s.dev.mode ≠ modeHibernate → c < 8 →
      (∀ k < 8, k ≠ c → (s.dev.chan k).active = none) → (s.dev.chan c).active = some e → s.dev.chanFaulted c = false →
      (s.dev.chan c).srcEnt = some src → (s.dev.chan c).dstEnt = some dst → entRemote src = false → s.dev.mem.repair = none →
      s.dev.mem.bad = [] → entOwner src ≠ 6 → entOwner dst ≠ 6 → e.elems[(s.dev.chan c).elem]? = some (base, len) →
      n = min (min (8 - (base + (s.dev.chan c).word) % 8) (1024 - (e.place (s.dev.chan c).elem + (s.dev.chan c).word) % 1024))
        (len - (s.dev.chan c).word) → (s.dev.chan c).word + n < len →
      Completes (.gatherBurst [] [] 0) s fun t => (t.chan c).word = (s.dev.chan c).word + n) ∧
    (∀ (tag : BitVec 6) (w0 w1 : Word), s.dev.isWorker = true → s.dev.flag EGL_TILE_JOINED = true → wGet w1 14 4 < 8 →
      wGet w1 0 14 + wGet w0 0 7 ≤ 16384 → wGet w0 20 4 = 1 → 1 ≤ wGet w0 0 7 → wGet w0 0 7 ≤ 64 → s.dev.mem.bad = [] →
      Completes (.gatherRead 0 tag w0 w1 []) s fun t => t = s.dev.respond 0 tag.toNat 3
        ((List.range (wGet w0 0 7)).map fun i => s.dev.bank (wGet w1 14 4) (wGet w1 0 14 + i))) ∧
    (∀ value : Word,
      (s.dev.flag RAIL_STAT_FIXED = false → 600 ≤ wGet value 0 11 → wGet value 0 11 ≤ 2000 →
        Completes (.vtxCommand value) s fun t => t.rail.vtxWant = wGet value 0 11 * 10) ∧
      (Completes (.vledFixed value) s fun t => t.flag RAIL_STAT_FIXED = true) ∧
      (Completes (.vledAdaptive value) s fun t => t.flag RAIL_STAT_FIXED = false) ∧
      (wGet value 16 8 = 0x5A → wGet value 0 1 = 1 → s.dev.fld RAIL_STAT_VLEDST = 6 → Completes (.clearlatch value) s fun t =>
        t.fld RAIL_STAT_VLEDST = 1 ∧ t.fld RAIL_STAT_ATTEMPT = 1)) ∧
    (∀ (vhv vtx : BitVec 13) pass,
      (Completes (.referenceUpdate vhv vtx pass) s fun t => t.rail.vhv = vhv.toNat * 10 ∧ t.rail.vtx = vtx.toNat * 10) ∧
      (∀ p, s.dev.rail.vledSoft = some p →
        (Completes .softStartEnd s fun t => t.rail.vledSoft = none) ∧
        Completes (.railShort vhv) s fun t => t.rail.vledSoft = none ∧
          t.fld RAIL_STAT_VLEDST = (if 4 ≤ s.dev.fld RAIL_STAT_ATTEMPT then 6 else 5)) ∧
      (s.dev.boostRuns = true →
        (Completes (.runningShort vhv) s fun t => t.fld RAIL_STAT_VLEDST = 5 ∧ t.fld RAIL_STAT_ATTEMPT = 1) ∧
        Completes (.railOvervolt vhv) s fun t => t.flag RAIL_STAT_OVERVOLT = true ∧ t.rail.gateLow = true) ∧
      (Completes (.vhvAbove50v vhv) s fun t => t.rail.gateLow = true ∧ t.rail.disOpen = true) ∧
      (∀ kind : BitVec 2, s.dev.rail.on = true → kind = 1 ∨ kind = 2 → Completes (.railVtxFault kind vtx) s fun t =>
        t.flag RAIL_STAT_VTXFAULT = true)) ∧
    (∀ tag, s.dev.rail.vtxCmd = some tag → s.dev.rail.vtxRef = s.dev.rail.vtxTgt →
      near2 s.dev.rail.vtx s.dev.rail.vtxTgt = true → Completes (.railDone true) s fun t => t.rail.vtxCmd = none) ∧
    (∀ v, s.dev.lampDemand = some v → v ≤ 8000 → Completes .demandUpdate s fun t => t.fld RAIL_DEMAND_V = v + 60) ∧
    (s.dev.rail.vtxBack = true → s.dev.scan.cur = none → Completes .vtxToRegulator s fun t =>
      t.rail.vtxBack = false ∧ t.fld RAIL_STAT_VTXSRC = 1) ∧
    (s.dev.fld RAIL_STAT_VLEDST = 5 → Completes .shortRetry s fun t => t.fld RAIL_STAT_VLEDST = 1) ∧
    (s.dev.rail.vtxOff = true → Completes .vtxFaultRestart s fun t => t.rail.vtxOff = false ∧
      t.rail.vtxSoft = some (s.dev.rail.vtx, 0))

/-- Where the commands of the lamps, infrared, the converter and calibration complete with their own effect, for every state
with its sinks, snapshots and zero means, and all operands that meet the premises. A lamp command that is not refused moves
its lamp; a tick moves every lamp one step; a period takes new levels to the lamps, a refresh the next plane; a clamp is
recorded; a check shows its outcome; a trip and a fault are cleared; low headroom is reported once. An edge joins the
frame; a gap or a biphase space that completes a code ends it; a held key is released; a stuck input is shown; a
transmission begins, ends, and its pattern is written. The plan and the host start a conversion; a conversion, a time-out
or a claim ends; a snapshot is taken, a claim made, REFIN judged, the TDAC set, a step of system calibration begun and
ended, applied or removed. A run becomes due; a slice begins it and takes the next item; starvation is shown; a background
item is chosen; records are made, summed, written; the log is mounted. Rests on 20_lighting.md, 21_infrared.md,
22_housekeeping_adc.md, 23_calibration_and_background.md. -/
def Obligations.LampsInfraredAndConverterComplete : Prop :=
  ∀ s : State, s.dev.lamp.sinks.length = 8 → s.dev.hka.snaps.length = 4 → s.dev.hka.zero.length = 4 →
    (∀ rq (value : Word) n, s.dev.fld LAMP_CMDA_INDEX = n → s.dev.flag LAMP_CMDA_GRP = false → s.dev.mode ≠ modeWatch →
      s.dev.lampRuns (rq == .console) = true → s.dev.commandRefused false n = false →
      Completes (.lampCommand rq value) s fun t => (t.lampAt n).cmd = some (s.dev.lamp.nextNum, (s.dev.lampAt n).level,
        s.dev.fld LAMP_CMDB_LEVEL, wGet value 0 14, 0)) ∧
    (Completes .fadeTick s fun t => ∀ n, t.lampAt n = (s.dev.lampAt n).fadeStep) ∧
    (∀ vhv head starved forward, s.dev.lampChecks = false → Completes (.pwmPeriod vhv head starved forward) s fun t =>
      ∀ n < 16, (s.dev.lampAt n).fault = 0 → (t.lampAt n).out = (s.dev.lampAt n).level) ∧
    (∀ k : BitVec 3, s.dev.tapped = true → s.dev.lampPresent (8 + k.toNat) = true → (s.dev.lampAt (8 + k.toNat)).lit = true →
      Completes (.bypassClamp k) s fun t => k.toNat ∈ t.lamp.clampNow) ∧
    (∀ errors, s.dev.chainRuns = true → Completes (.refreshPeriod errors) s fun t =>
      t.lamp.plane = if s.dev.lamp.plane ≤ 8 then 11 else s.dev.lamp.plane - 1) ∧
    (∀ m, 0 < s.dev.ndrv → 7 ≤ s.dev.pwr.step → s.dev.mode ≠ modeSafe → s.dev.mode ≠ modeHibernate →
      Completes (.chainCheck m) s fun t => t.flag LAMP_STAT_CHAIN_OK = m) ∧
    (∀ (value : Word) g, wGet value 16 8 = 0x5A → g < 16 → wGet value 0 16 = 2 ^ g → s.dev.groupClr g = 0 →
      Completes (.lampGclear value) s fun t => t.tripped g = false) ∧
    (∀ (w : BitVec 5) b n, b < 24 → n = 24 * w.toNat + b → n < 528 → s.dev.lampTripped n = false →
      Completes (.lampFaultClear w (word (2 ^ b))) s fun t => (t.lampAt n).fault = 0) ∧
    (∀ (sink : BitVec 3) k, sink.toNat = k → s.dev.sinkLit k = true → (s.dev.sink k).starved = false →
      (s.dev.sink k).head < 60 → Completes (.lampHeadroom sink) s fun t => (t.sink k).reported = true) ∧
    (s.dev.rxOn = true → s.dev.irDeaf = false → s.dev.flag IRX_STAT_STUCK = false →
      (∀ low (us : BitVec 24) ds, s.dev.ir.frame = some ds → s.dev.irIsMark low = true →
        Completes (.irEdge low us false true) s fun t => t.ir.frame = some (ds ++ [(us.toNat, false)])) ∧
      ∀ ms, Completes (.irStuck ms) s fun t => t.flag IRX_STAT_STUCK = true) ∧
    (∀ ds, s.dev.ir.frame = some ds → (Completes .irGap s fun t => t.ir.frame = none) ∧
      ∀ i c, judgeAll s.dev.ir.tpl ds true = some (i, c) → i < 4 → Completes .irBiphaseSpaceEnd s fun t =>
        t.ir.frame = none ∧ t.fld IRX_STAT_TPL = i) ∧
    (∀ k value, s.dev.ir.held = some k → (Completes .irKeyRelease s fun t => t.ir.held = none) ∧
      Completes (.release value) s fun t => t.ir.held = none) ∧
    (∀ rq (v : Word), s.dev.ir.tx = none → s.dev.txAllowed (rq == .console) = true → wGet v 12 2 = 3 →
      Completes (.itxStart rq v) s fun t => t.flag ITX_STAT_BUSY = true ∧ t.fld ITX_STAT_INDEX = wGet v 0 9) ∧
    (∀ x rq v, s.dev.ir.tx = some x → (Completes (.itxStop rq v) s fun t => t.ir.tx = none) ∧
      (Completes .itxTmax s fun t => t.ir.tx = none) ∧
      (x.mode ≠ 3 → wGet (s.dev.pattern x.index) 22 1 = 1 → x.left = 0 → Completes .itxEntryEnd s fun t => t.ir.tx = none)) ∧
    (∀ rq v, s.dev.ir.tx = none → Completes (.itxPdata rq true v) s fun t => t.pattern (s.dev.fld ITX_PADDR_ADDR) = v) ∧
    (∀ b c, s.dev.planConverter = some b → s.dev.planNext = some c → s.dev.hkaOn = true →
      s.dev.hkaSkips c (planRef c (s.dev.planWord c)) = false → Completes .planConversion s fun t =>
        ∃ k, t.conv b = some k ∧ k.ch = c ∧ k.host = false) ∧
    (∀ (value : Word) c, wGet value 0 4 = c → 4 ≤ c → s.dev.fld HKA_STAT_GRANT = 1 → s.dev.hka.convA = none →
      s.dev.hkaOn = true → s.dev.hkaSkips c 0 = false → wGet value 15 1 = 0 → Completes (.hostConversion value) s fun t =>
        ∃ k, t.hka.convA = some k ∧ k.ch = c ∧ k.host = true) ∧
    (∀ b k, s.dev.conv b = some k → s.dev.hka.ilv = none →
      (∀ v ovr, k.waiting = false → Completes (.conversionEnd b v ovr) s fun t => t.conv b = none) ∧
      (k.waiting = true → Completes (.referenceTimeout b) s fun t => t.conv b = none) ∧
      (k.waiting = false → Completes (.conversionTimeout b) s fun t => t.conv b = none)) ∧
    (∀ rq (value : Word), Completes (.hkaSnap rq value) s fun t => t.hka.snaps.getD (rqIndex rq) (0, {}) =
      (wGet value 0 4, (s.dev.hkaChan (wGet value 0 4)).h)) ∧
    (∀ value : Word, wGet value 16 8 = 0x5A → wGet value 0 2 ≠ 3 → Completes (.claim value) s fun t =>
      t.fld HKA_HOST_CLAIM = wGet value 0 2) ∧
    (s.dev.fld HKA_HOST_CLAIM ≠ 0 → Completes .hkaClaimExpired s fun t => t.fld HKA_HOST_CLAIM = 0) ∧
    (∀ ok, s.dev.refinEnabled = true → Completes (.refinCheck ok) s fun t => t.flag HKA_STAT_REFIN_RDY = ok) ∧
    (∀ value : Word, Completes (.tdac value) s fun t => t.fld HKA_TDAC_CODE = wGet value 0 10 ∧
      t.fld HKA_TDAC_PIN = wGet value 10 2) ∧
    (∀ (value : Word) c, wGet value 16 8 = 0x5A → wGet value 4 2 = c →
      (s.dev.hka.step = none → (Completes (.zero value) s fun t => t.hka.step = some (c, 1)) ∧
        ∀ z, s.dev.hka.zero.getD c none = some z → Completes (.full value) s fun t => t.hka.step = some (c, 2)) ∧
      (∀ vref ok, s.dev.nvmBarred = false → s.dev.hka.zero.getD c none = some 0 → s.dev.hka.full.getD c none = some 1000 →
        s.dev.fld HKA_SCFULL_FULL = 1000 → Completes (.apply value vref ok) s fun t =>
          t.fld HKA_SCSTAT_STATUS = 1 ∧ t.fld (HKA_SCGAIN_GAIN c) = 0x400000) ∧
      (∀ ok, s.dev.nvmBarred = false → Completes (.default value ok) s fun t => t.reg (HKA_SCOFS c) = 0 ∧
        t.reg (HKA_SCGAIN c) = 0x400000)) ∧
    (∀ c values, c < 4 → s.dev.hka.step = some (c, 1) → Completes (.syscalStepEnd values 0) s fun t =>
      t.hka.step = none ∧ t.fld HKA_SCSTAT_STATUS = 1 ∧ t.hka.zero.getD c none ≠ none) ∧
    (∀ value : Word, wGet value 16 8 = 0x5A → wGet value 0 2 = 1 → s.dev.fld CAL_STAT_STATE = calIdle → s.dev.fullNow = false →
      Completes (.run value) s fun t => t.fld CAL_STAT_STATE = calDue ∧ t.fld CAL_STAT_TRIGGER = 2) ∧
    (s.dev.sliceOk = true →
      (s.dev.fld CAL_STAT_STATE = calDue → Completes (.slice []) s fun t => t.cal.items = s.dev.runItems) ∧
      (∀ i rest m, s.dev.fld CAL_STAT_STATE ≠ calDue → s.dev.cal.items = i :: rest → rest ≠ [] →
        Completes (.slice [m]) s fun t => t.cal.items = rest)) ∧
    (s.dev.mode = modeIdle ∨ s.dev.mode = modeActive → s.dev.fld CAL_STAT_STATE ∈ [calDue, calSliced, calStarved] →
      Completes .calStarved s fun t => t.fld CAL_STAT_STATE = calStarved) ∧
    (∀ cells (legs : BitVec 16), s.dev.mode ∉ [modeWatch, modeSafe, modeHibernate] → s.dev.cal.items ≠ [] →
      s.dev.cal.rcLeft = true → Completes (.backgroundItemEnd true cells legs true) s fun t =>
        t.fld CAL_RC_LEGS = legs.toNat) ∧
    (s.dev.mode ∈ [modeIdle, modeActive, modeService, modeSafe] → s.dev.cal.nextSeq < 16777216 →
      Completes .telemetryRecord s fun t => t.fld CAL_TSEQ_SEQ = s.dev.cal.nextSeq) ∧
    (s.dev.par secCal 0x05 ≠ 0 → Completes .logSummary s fun t => t.cal.summary = List.replicate 16 {}) ∧
    (∀ r rest, s.dev.settingsTurn = false → s.dev.logQ = r :: rest → s.dev.logBarred = false → s.dev.cal.lost = 0 →
      s.dev.fld CAL_LOGSTAT_SLOT < 10 → Completes (.logRecordWrite []) s fun t => t.logQ = rest) ∧
    (7 < s.dev.pwr.step → s.dev.flag CAL_LOGSTAT_MOUNTED = false → Completes .logMount s fun t =>
      t.flag CAL_LOGSTAT_MOUNTED = true)

/-- Where the service functions and the console's commands that act complete with their own effect, for every state and all
operands that meet the premises. The unlock code is taken or rejected; a meter point and an electrode's static state are
set from a register and from the console; a character joins the line, and a break, an idle minute or a bad line ends it;
Ctrl-C, no answer and the time-outs end what waits; the console's session asks for the oscillator and ends. `svc` opens the
full command set in SAFE and `svc off` closes it; `reset` restarts the machine. `rd` and `log` print, `evmon` and `rtile`
are kept, `wr` writes, `evr fire` rings, `surf reset` resets a tile, `egl` pings, injects, stops injecting and retrains,
the scan, a tone, a baseline reset, a capture and a calibration run are asked for. Rests on
03_service_console_and_meter_points.md, 07_touch_front_end.md, 08_finding_contacts.md,
09_reports_and_gestures.md, 10_event_router.md, 15_tiled_surfaces.md, 16_egret_link.md,
23_calibration_and_background.md. -/
def Obligations.ConsoleAndServiceComplete : Prop :=
  ∀ s : State,
    (∀ v : Word, s.dev.flag SVC_STAT_LOCKOUT = false → s.dev.codeBarred = false → v ≠ 0 → v.toNat = s.dev.svcCode →
      Completes (.svcUnlockWrite v) s fun t => t.flag SVC_STAT_INJ_UNLOCK = true) ∧
    (s.dev.serviceOpen = true →
      (∀ (v : Word) p, wGet v 0 5 = p → p < 7 → Completes (.svcAmonWrite v) s fun t =>
        t.reg SVC_AMON = pack [(wGet v 8 8, 8), (p, 0)]) ∧
      (∀ v : Word, s.dev.flag SCAN_STAT_RUN = false → wGet v 8 8 < 160 → wGet v 0 3 < 5 → Completes (.svcElWrite v) s fun t =>
        t.staticOf (wGet v 8 8) = wGet v 0 3)) ∧
    (∀ c : Byte, s.dev.pwr.step = 8 → s.dev.asleep = false → s.dev.modes.waking = false → s.dev.mode ≠ modeWatch →
      c ∉ [0x0D#8, 0x0A, 0x08, 0x7F, 0x03] → s.dev.con.line.length < 80 → Completes (.consoleCharacter c false) s fun t =>
        t.con.line = s.dev.con.line ++ [c]) ∧
    (Completes .consoleBreak s fun t => t.con.line = []) ∧
    (Completes .partialLineTimeout s fun t => t.con.line = []) ∧
    (Completes .consoleSessionEnd s fun t => t.con.session = false) ∧
    (s.dev.mode = modeWatch → Completes .consoleWakeEdge s fun t => t.con.session = true ∧ t.flag SYS_CLK_FOSC_ON = true) ∧
    (s.dev.con.evmon = true → s.dev.con.rd = none → s.dev.con.todo = [] → s.dev.con.logWait = none →
      Completes .ctrlC s fun t => t.con.evmon = false) ∧
    (s.dev.con.request ≠ 0 → Completes .svcNoManager s fun t => t.con.request = 0) ∧
    (s.dev.con.logWait ≠ none → Completes .logNvmTimeout s fun t => t.con.logWait = none) ∧
    (s.dev.con.waitJoin = true → s.dev.flag EGL_TILE_JOINED = false → s.dev.fullSet = false →
      Completes .serviceJoinTimeout s fun t => t.fullSet = true) ∧
    (s.dev.running = false →
      (∀ code : BitVec 3, 1 ≤ code.toNat → code.toNat ≤ 4 → Completes (.consoleLineError code) s fun t => t.con.line = []) ∧
      (∀ code : Word, s.dev.codeBarred = false → s.dev.mode = modeSafe → code.toNat = s.dev.svcCode →
        Completes (.svc code) s fun t => t.fullSet = true ∧ t.flag SVC_STAT_SAFE_SET = true) ∧
      (∀ (addr : BitVec 16) w e, s.dev.goesRemote .console addr.toNat = false →
        s.dev.dropLine.readLocal .console addr.toNat [] = (w, e) →
        Completes (.rd addr 1) s fun t => t = (e.addRun [.rdWord addr.toNat w]).endRun .ok) ∧
      (∀ n : BitVec 24, s.dev.boot.nvpOp = 0 → Completes (.log 1 n) s fun t =>
        t = s.dev.dropLine.printRun (s.dev.logLines 1 n.toNat)) ∧
      (Completes .evmonOn s fun t => t.con.evmon = true) ∧
      (Completes .evmonOff s fun t => t.con.evmon = false) ∧
      (∀ xy : BitVec 10, Completes (.rtile xy) s fun t => t.surf.rtile = s.dev.surf.rtile.set 2 (word xy.toNat)) ∧
      (∀ (xy : BitVec 10) (n : BitVec 8), 1 ≤ n.toNat → n.toNat ≤ 100 → s.dev.link.ping = none →
        Completes (.eglPing xy n) s fun t => ∃ e : Dev, e.link.ping = some (n.toNat, [], 0) ∧
          e.link.ops.length = s.dev.link.ops.length + n.toNat ∧ t = e.issueOps) ∧
      (s.dev.fld CAL_STAT_STATE = calIdle → s.dev.fullNow = false → Completes .calRun s fun t =>
        t.fld CAL_STAT_STATE = calDue)) ∧
    (s.dev.running = false → s.dev.fullSet = true →
      (s.dev.mode = modeSafe → Completes .svcOff s fun t => t.fullSet = false) ∧
      (s.dev.pwr.held = none → Completes .consoleReset s fun t => t.pwr.step = 3 ∧ t.pwr.held = none) ∧
      (s.dev.serviceOpen = true →
        (∀ (point : BitVec 5) (arg : BitVec 10), point.toNat < 4 → arg.toNat < 256 → Completes (.meter point arg) s fun t =>
          t.reg SVC_AMON = pack [(arg.toNat, 8), (point.toNat, 0)]) ∧
        (∀ (n : BitVec 8) (st : BitVec 3), s.dev.flag SCAN_STAT_RUN = false → n.toNat < 160 → st.toNat < 5 →
          Completes (.el false n st) s fun t => t.staticOf n.toNat = st.toNat)) ∧
      (Completes .meterOff s fun t => t.reg SVC_AMON = 0) ∧
      (∀ value, s.dev.asleep = false → Completes (.wr 0x020A value) s fun t => t.reg 0x020A = value) ∧
      (∀ n : BitVec 10, 256 ≤ n.toNat → n.toNat ≤ 319 → Completes (.evrFire n) s fun t =>
        t = (s.dev.ring n.toNat 0 0).finishOk) ∧
      (∀ xy : BitVec 10, xy ≠ 0 → s.dev.isManager = true → Completes (.surfReset xy) s fun t =>
        t = (s.dev.resetTile xy.toNat false).finishOk) ∧
      (∀ i k : BitVec 8, i.toNat < 8 → k.toNat < 16 → s.dev.link.gate = true → Completes (.eglInj i 0 k) s fun t =>
        t.fld (SVC_INJ_KD i.toNat) = k.toNat ∧ t.flag (SVC_INJ_DROP i.toNat) = true) ∧
      (Completes .eglInjOff s fun t => ∀ i < 8, t.reg (SVC_INJ i) = 0) ∧
      (∀ p : BitVec 8, p.toNat ≤ 3 → Completes (.eglRetrain p) s fun t =>
        t = (s.dev.writePctl (pack [(0x5A, 16), (2 ^ p.toNat, 4), (s.dev.fld EGL_PCTL_DISABLE, 0)])).finishOk) ∧
      (s.dev.mode = modeService → s.dev.staticBlock = false → s.dev.flag SCAN_STAT_RUN = false →
        (s.dev.scan.tone = none → s.dev.hasSensor = true → Completes .scanRun s fun t => t.flag SCAN_STAT_RUN = true) ∧
        (∀ (n : BitVec 8) (k : BitVec 3), n.toNat < 160 → Completes (.scanTone n k) s fun t =>
          t.scan.tone = some (n.toNat, k.toNat))) ∧
      (s.dev.scan.tone ≠ none → Completes .scanStop s fun t => t.scan.tone = none) ∧
      (Completes .trkBlreset s fun t => t.trk.blReset = true) ∧
      (∀ planes : BitVec 5, s.dev.flag TRK_CAP_STAT_BUSY = false → Completes (.trkCap planes) s fun t =>
        t = (s.dev.writeCapCtrl (pack [(1, 8), (planes.toNat, 2), (1, 0)])).finishOk))

/-- Where the console commands that print and those of the rails, lamps, memories, infrared and the converter complete with
their own effect, for every state in which no command runs, and all operands that meet the premises. A print is exactly its
words and OK; `help`, `surf map`, `scan noise`, `trk base`, `time` and `img check` end their line and, of the registers,
change at most those they show or count in. `lamp set` moves a lamp and `lamp clear` clears a trip; `rail` sets a
target, frees VLED or leaves latch-off; `mem repair` begins a repair and `gde test` copies bank 15; `itx send` and `itx
loop` transmit; `hka ch` and `hka conv` show a channel, `hka path` returns the TDAC, `hka cal` begins a step or applies
one. The formats are the model's (log entry 6). Rests on 03_service_console_and_meter_points.md, 17_memory_banks.md,
18_gather_engine.md, 19_rails.md, 20_lighting.md, 21_infrared.md, 22_housekeeping_adc.md. -/
def Obligations.ConsoleDevicesComplete : Prop :=
  ∀ s : State, s.dev.running = false →
    (∀ c, c ∈ [Instr.help, .surfMap, .scanNoise, .time] → Completes c s fun t => t.con.line = [] ∧ s.dev.leaves t [SVC_ERR]) ∧
    (∀ c tag ws, (c, tag, ws) ∈ [
      (Instr.id, 0x01, s.dev.shown [SYS_PARTID, SYS_REV] ++ [word s.dev.role, word (s.dev.fld EGL_TILE_X),
        word (s.dev.fld EGL_TILE_Y), word s.dev.mode] ++ s.dev.shown [SVC_STAT]),
      (.bootStat, 0x04, s.dev.shown [SYS_BOOT, SYS_IMGSEQ, SYS_IMGLEN, SYS_IMGERR, SYS_FUSE]),
      (.pwrWake, 0x08, [word (s.dev.fld PWR_WAKEEN_EN), word (s.dev.fld PWR_WAKECNT_STORMOFF)]),
      (.surfStat, 0x30, s.dev.shown [EGL_TILE, EGL_SURF, EGL_GRID, EGL_HCNT, EGL_FWD]),
      (.logStat, 0xD1, [s.dev.reg CAL_LOGSTAT, s.dev.reg CAL_LOGSEQ, s.dev.reg CAL_LOGQ]),
      (.trkRpt, 0x42, [s.dev.reg TRK_RPT_STAT, s.dev.reg TRK_RPT_CNT, s.dev.rpt.lastFlags])] →
      Completes c s fun t => t = s.dev.say tag ws) ∧
    (∀ c tag, (c, tag) ∈ [(Instr.sysStat, 0x03), (.pwrStat, 0x07), (.timeStat, 0x09), (.cfgStat, 0x0C), (.cfgDelta, 0x0E),
      (.gdeWin, 0xF1), (.irxRaw, 0x91), (.telem, 0xD2), (.trkHop, 0x40)] → Completes c s fun t =>
        ∃ ws, t = s.dev.say tag ws ∧ t.con.line = [] ∧ s.dev.leaves t [SVC_ERR]) ∧
    (∀ (b : BitVec 4) lo hi, statRange b.toNat = some (lo, hi) → Completes (.blockStat b) s fun t =>
      t = s.dev.say (0x10 + b.toNat) (s.dev.shown (((List.range (hi - lo + 1)).map (lo + ·)).filter regDefined))) ∧
    (∀ n : BitVec 10, (Completes (.surfTile n) s fun t => t = s.dev.say 0x3B [s.dev.tileWord n.toNat]) ∧
      (n.toNat ≤ 511 → Completes (.evrSrc n) s fun t => t = s.dev.say 0x0B [s.dev.srcCfg n.toNat, s.dev.sourceStat n.toNat]) ∧
      (16 ≤ n.toNat → s.dev.lampPresent n.toNat = true → Completes (.lampN n) s fun t =>
        t = s.dev.say 0x20 [s.dev.lampStatWord n.toNat])) ∧
    (∀ p : Word, pidKnown p.toNat = true → Completes (.cfgGet p) s fun t =>
      t = s.dev.say 0x0D [cellsGet paramDefault s.dev.cfg p.toNat, s.dev.imageValue p.toNat]) ∧
    (∀ n k : BitVec 8, (n.toNat ≤ 15 → Completes (.memCol n) s fun t =>
        t = s.dev.say 0xE0 [s.dev.reg (MEM_COL n.toNat), s.dev.reg (MEM_SPARE n.toNat)]) ∧
      (n.toNat < 160 → s.dev.elRole n.toNat = 1 → Completes (.scanLegs n) s fun t =>
        t = s.dev.say 0x32 [word (s.dev.fld (CAL_LEGS_EN n.toNat)), word (s.dev.fld (CAL_LEGS_GOOD n.toNat))]) ∧
      (n.toNat < s.dev.ntx → k.toNat < s.dev.nrx →
        (s.dev.scan.iq = false → Completes (.scanNode n k) s fun t => t = s.dev.say 0x31
          [s.dev.bank (s.dev.fld SCAN_FRAME_LAST % 4) (1024 + n.toNat * s.dev.nrx + k.toNat)]) ∧
        Completes (.trkBase n k) s fun t => t.con.line = [] ∧ s.dev.leaves t [SVC_ERR]) ∧
      ∀ addr : BitVec 24, s.dev.boot.nvpOp = 0 → 1 ≤ n.toNat → n.toNat ≤ 64 → addr.toNat + n.toNat ≤ 262144 →
        Completes (.nvmRd addr n) s fun t => t = s.dev.say 0x06 ((s.dev.nvmRead addr.toNat n.toNat).map fun b =>
          word b.toNat)) ∧
    (∀ b, s.dev.boot.nvpOp = 0 → Completes (.imgCheck b) s fun t => t.con.line = [] ∧ t.fld SYS_NVP_VRES_CODE =
      (s.dev.verifySlot (if b then slotBaseB else slotBaseA)).code % 2 ^ SYS_NVP_VRES_CODE.width) ∧
    (∀ g : BitVec 4, s.dev.groupClr g.toNat ≤ 1 → Completes (.lampClear g) s fun t => t.tripped g.toNat = false) ∧
    (∀ n : BitVec 8, n.toNat ≤ 15 → Completes (.hkaCh n) s fun t =>
      t.hka.snaps = s.dev.hka.snaps.set 2 (n.toNat, (s.dev.hkaChan n.toNat).h) ∧ t.con.line = []) ∧
    (s.dev.fullSet = true →
      (∀ (n : BitVec 10) (level : BitVec 12) (ms : BitVec 14), s.dev.lampRuns true = true → s.dev.mode ≠ modeWatch →
        s.dev.commandRefused false n.toNat = false → Completes (.lampSet n level ms) s fun t => (t.lampAt n.toNat).cmd =
          some (s.dev.lamp.nextNum, (s.dev.lampAt n.toNat).level, level.toNat, ms.toNat, 0)) ∧
      (s.dev.railActs true = true → s.dev.flag RAIL_STAT_FIXED = false → ∀ v : BitVec 13, 600 ≤ v.toNat → v.toNat ≤ 2000 →
        Completes (.railVtx v) s fun t => t.rail.vtxTgt = v.toNat * 10) ∧
      (∀ v : BitVec 13, Completes (.railVled v) s fun t => t.flag RAIL_STAT_FIXED = true) ∧
      (Completes .railVledAuto s fun t => t.flag RAIL_STAT_FIXED = false) ∧
      (s.dev.fld RAIL_STAT_VLEDST = 6 → Completes .railRestart s fun t => t.fld RAIL_STAT_VLEDST = 1) ∧
      (∀ (n : BitVec 8) (c : BitVec 16), n.toNat ≤ 15 → c.toNat ≤ 959 → s.dev.mem.repair = none →
        s.dev.repairCheck n.toNat c.toNat = 0 → Completes (.memRepair n c) s fun t =>
          t.mem.repair = some (n.toNat, c.toNat) ∧ t.flag MEM_STAT_REPAIRING = true) ∧
      (∀ n : BitVec 16, 1 ≤ n.toNat → n.toNat ≤ 4096 → (s.dev.chan 1).active = none → s.dev.mem.repair = none →
        s.dev.testBad n.toNat = [] → Completes (.gdeTest n) s fun t => ∀ w < n.toNat, t.bank 14 w = s.dev.bank 15 w) ∧
      (∀ (i : BitVec 9) (k : BitVec 8), s.dev.ir.tx = none → s.dev.txAllowed true = true →
        wGet (s.dev.pattern i.toNat) 0 16 ≠ 0 →
        (Completes (.itxSend i k) s fun t => t.flag ITX_STAT_BUSY = true ∧ t.ir.loop = false) ∧
        (Completes (.itxLoop i) s fun t => t.flag ITX_STAT_BUSY = true ∧ t.ir.loop = true)) ∧
      (∀ (n k : BitVec 8) (v : Word), s.dev.hka.chans.length = 16 → 4 ≤ n.toNat → n.toNat ≤ 15 → n.toNat ∉ [9, 10, 13] →
        k.toNat ≠ 0 → s.dev.fld HKA_HOST_CLAIM = 0 → s.dev.conv true = none → Completes (.hkaConv n k [(v, 0)]) s fun t =>
          (t.hkaChan n.toNat).h = ({} : AccSet).add v ∧ t.con.line = []) ∧
      (∀ (n : BitVec 8) low high, n.toNat ≤ 3 → Completes (.hkaPath n low high) s fun t =>
        t.fld HKA_TDAC_CODE = s.dev.fld HKA_TDAC_CODE ∧ t.flag HKA_TDAC_EN = s.dev.flag HKA_TDAC_EN ∧ t.con.line = []) ∧
      (∀ n : BitVec 8, n.toNat ≤ 3 → s.dev.hka.step = none →
        (Completes (.hkaCalZero n) s fun t => t.hka.step = some (n.toNat, 1)) ∧
        (∀ uv z, s.dev.hka.zero.getD n.toNat none = some z → Completes (.hkaCalFull n uv) s fun t =>
          t.hka.step = some (n.toNat, 2) ∧ t.reg HKA_SCFULL = uv) ∧
        (∀ vref ok, s.dev.nvmBarred = false → s.dev.hka.zero.getD n.toNat none = some 0 →
          s.dev.hka.full.getD n.toNat none = some 1000 → s.dev.fld HKA_SCFULL_FULL = 1000 →
          Completes (.hkaCalApply n vref ok) s fun t => t.fld HKA_SCSTAT_STATUS = 1 ∧ t.con.line = [])))
end

