-- ==== Sys2Proof/Laws/Cells.lean ====
section
/-!
SUPPORT. Cells.lean: what a read of a sparse memory answers after a write, and that every write keeps the canonical form.
-/

namespace Sys2Proof.Machine

variable {n : Nat} {dflt : Nat → BitVec n}

theorem cellsGet_erase_same (m : Cells n) (k : Nat) : cellsGet dflt (cellsErase m k) k = dflt k := by
  induction m with
  | nil => rfl
  | cons p rest ih =>
    obtain ⟨a, v⟩ := p
    by_cases h : a = k
    · simpa [cellsErase, h] using ih
    · simpa [cellsErase, cellsGet, h] using ih

theorem cellsGet_erase_ne (m : Cells n) {k j : Nat} (h : j ≠ k) :
    cellsGet dflt (cellsErase m k) j = cellsGet dflt m j := by
  induction m with
  | nil => rfl
  | cons p rest ih =>
    obtain ⟨a, v⟩ := p
    by_cases ha : a = k
    · have : a ≠ j := fun e => h (e ▸ ha)
      simpa [cellsErase, cellsGet, ha, this, Ne.symm h] using ih
    · by_cases hj : a = j
      · simp [cellsErase, cellsGet, hj, h]
      · simpa [cellsErase, cellsGet, ha, hj] using ih

theorem cellsGet_insert_ne (m : Cells n) {k j : Nat} (v : BitVec n) (h : j ≠ k) :
    cellsGet dflt (cellsInsert k v m) j = cellsGet dflt m j := by
  induction m with
  | nil => simp [cellsInsert, cellsGet, Ne.symm h]
  | cons p rest ih =>
    obtain ⟨a, w⟩ := p
    by_cases hlt : k < a
    · simp [cellsInsert, cellsGet, hlt, Ne.symm h]
    · simp [cellsInsert, cellsGet, hlt, ih]

theorem cellsGet_insert_same (m : Cells n) {k : Nat} (v : BitVec n) (h : ∀ p ∈ m, p.1 ≠ k) :
    cellsGet dflt (cellsInsert k v m) k = v := by
  induction m with
  | nil => simp [cellsInsert, cellsGet]
  | cons p rest ih =>
    obtain ⟨a, w⟩ := p
    by_cases hlt : k < a
    · simp [cellsInsert, cellsGet, hlt]
    · have ha : a ≠ k := h (a, w) (by simp)
      simp only [cellsInsert, hlt, if_false, cellsGet, ha]
      exact ih fun q hq => h q (List.mem_cons_of_mem _ hq)

theorem cellsErase_ne (m : Cells n) (k : Nat) : ∀ p ∈ cellsErase m k, p.1 ≠ k := by
  intro p hp
  simpa using (List.mem_filter.mp hp).2

/-- A read of the address just written answers the value written. -/
theorem cellsGet_set_same (m : Cells n) (k : Nat) (v : BitVec n) :
    cellsGet dflt (cellsSet dflt m k v) k = v := by
  unfold cellsSet
  split
  · rename_i h; rw [cellsGet_erase_same, h]
  · exact cellsGet_insert_same _ _ (cellsErase_ne m k)

/-- A write leaves every other address as it was. -/
theorem cellsGet_set_ne (m : Cells n) {k j : Nat} (v : BitVec n) (h : j ≠ k) :
    cellsGet dflt (cellsSet dflt m k v) j = cellsGet dflt m j := by
  unfold cellsSet
  split
  · exact cellsGet_erase_ne m h
  · rw [cellsGet_insert_ne _ _ h, cellsGet_erase_ne m h]

@[simp] theorem cellsGet_set (m : Cells n) (k j : Nat) (v : BitVec n) :
    cellsGet dflt (cellsSet dflt m k v) j = if j = k then v else cellsGet dflt m j := by
  split
  · rename_i h; rw [h, cellsGet_set_same]
  · rename_i h; exact cellsGet_set_ne m v h

theorem cellsSorted_mono {m : Cells n} {lo lo' : Nat} (h : lo' ≤ lo) (hs : cellsSorted lo m = true) :
    cellsSorted lo' m = true := by
  cases m with
  | nil => rfl
  | cons p rest =>
    simp only [cellsSorted, Bool.and_eq_true, decide_eq_true_eq] at hs ⊢
    exact ⟨le_trans h hs.1, hs.2⟩

theorem cellsSorted_erase {m : Cells n} {lo : Nat} (k : Nat) (hs : cellsSorted lo m = true) :
    cellsSorted lo (cellsErase m k) = true := by
  induction m generalizing lo with
  | nil => rfl
  | cons p rest ih =>
    obtain ⟨a, v⟩ := p
    simp only [cellsSorted, Bool.and_eq_true, decide_eq_true_eq] at hs
    have hr := ih hs.2
    by_cases ha : a = k
    · have : cellsErase ((a, v) :: rest) k = cellsErase rest k := by simp [cellsErase, ha]
      rw [this]
      exact cellsSorted_mono (Nat.le_succ_of_le hs.1) hr
    · have : cellsErase ((a, v) :: rest) k = (a, v) :: cellsErase rest k := by simp [cellsErase, ha]
      rw [this]
      simp [cellsSorted, hs.1, hr]

theorem cellsSorted_insert {m : Cells n} {lo k : Nat} (v : BitVec n) (hlo : lo ≤ k)
    (hne : ∀ p ∈ m, p.1 ≠ k) (hs : cellsSorted lo m = true) :
    cellsSorted lo (cellsInsert k v m) = true := by
  induction m generalizing lo with
  | nil => simp [cellsInsert, cellsSorted, hlo]
  | cons p rest ih =>
    obtain ⟨a, w⟩ := p
    simp only [cellsSorted, Bool.and_eq_true, decide_eq_true_eq] at hs
    by_cases hlt : k < a
    · simp only [cellsInsert, hlt, if_true, cellsSorted, Bool.and_eq_true, decide_eq_true_eq]
      exact ⟨hlo, hlt, hs.2⟩
    · have ha : a ≠ k := hne (a, w) (by simp)
      simp only [cellsInsert, hlt, if_false, cellsSorted, Bool.and_eq_true, decide_eq_true_eq]
      exact ⟨hs.1, ih (by omega) (fun q hq => hne q (List.mem_cons_of_mem _ hq)) hs.2⟩

theorem mem_cellsInsert {m : Cells n} {k : Nat} {v : BitVec n} {p : Nat × BitVec n}
    (h : p ∈ cellsInsert k v m) : p = (k, v) ∨ p ∈ m := by
  induction m with
  | nil => simpa [cellsInsert] using h
  | cons q rest ih =>
    obtain ⟨a, w⟩ := q
    by_cases hlt : k < a
    · simpa [cellsInsert, hlt] using h
    · simp only [cellsInsert, hlt, if_false, List.mem_cons] at h ⊢
      rcases h with h | h
      · exact Or.inr (Or.inl h)
      · rcases ih h with h | h
        · exact Or.inl h
        · exact Or.inr (Or.inr h)

/-- Every write keeps the canonical form. -/
theorem cellsWf_set {m : Cells n} (k : Nat) (v : BitVec n) (h : cellsWf dflt m = true) :
    cellsWf dflt (cellsSet dflt m k v) = true := by
  simp only [cellsWf, Bool.and_eq_true, List.all_eq_true, bne_iff_ne] at h ⊢
  have hall : ∀ p ∈ cellsErase m k, p.2 ≠ dflt p.1 := fun p hp => h.2 p (List.mem_filter.mp hp).1
  unfold cellsSet
  split
  · exact ⟨cellsSorted_erase k h.1, hall⟩
  · rename_i hv
    refine ⟨cellsSorted_insert v (Nat.zero_le k) (cellsErase_ne m k) (cellsSorted_erase k h.1), ?_⟩
    intro p hp
    rcases mem_cellsInsert hp with rfl | hp
    · exact hv
    · exact hall p hp

/-- A run of writes keeps the canonical form. -/
theorem cellsWf_fill {m : Cells n} (k : Nat) (vs : List (BitVec n)) (h : cellsWf dflt m = true) :
    cellsWf dflt (cellsFill dflt m k vs) = true := by
  induction vs generalizing m k with
  | nil => exact h
  | cons v rest ih => exact ih (k + 1) (cellsWf_set k v h)

end Sys2Proof.Machine
end

