-- ==== Sys2Proof/Laws/Fields.lean ====
section
/-!
SUPPORT. Fields.lean: what a register or one of its fields reads as after a write of a field.
-/

namespace Sys2Proof.Machine

/-- A field read bit by bit. -/
theorem wGet_testBit (w : Word) (l n i : Nat) :
    (wGet w l n).testBit i = (decide (i < n) && w.getLsbD (l + i)) := by
  simp only [wGet, Nat.testBit_mod_two_pow, Nat.testBit_shiftRight, BitVec.testBit_toNat]

theorem fieldMask_getLsbD (l n i : Nat) (h : l + n ≤ 24) :
    (fieldMask l n).getLsbD i = (decide (l ≤ i) && decide (i < l + n)) := by
  simp only [fieldMask, BitVec.getLsbD_shiftLeft, BitVec.getLsbD_ofNat, Nat.testBit_two_pow_sub_one]
  by_cases h1 : l ≤ i <;> by_cases h2 : i < l + n <;> simp [h1, h2] <;> omega

theorem wSet_getLsbD (w : Word) (l n v i : Nat) (h : l + n ≤ 24) :
    (wSet w l n v).getLsbD i = if l ≤ i ∧ i < l + n then v.testBit (i - l) else w.getLsbD i := by
  simp only [wSet, BitVec.getLsbD_or, BitVec.getLsbD_and, BitVec.getLsbD_not, fieldMask_getLsbD l n i h,
    BitVec.getLsbD_shiftLeft, BitVec.getLsbD_ofNat, Nat.testBit_mod_two_pow]
  by_cases h1 : l ≤ i
  · by_cases h2 : i < l + n
    · have h3 : i < 24 := by omega
      have h4 : i - l < n := by omega
      have h5 : i - l < 24 := by omega
      simp [h1, h2, h3, h4, h5]
    · have h4 : ¬ i - l < n := by omega
      by_cases h3 : i < 24
      · simp [h1, h2, h3, h4]
      · have h5 := BitVec.getLsbD_of_ge w i (by omega)
        simp [h1, h2, h3, h4, h5]
  · by_cases h3 : i < 24
    · simp [h1, h3]
    · have h5 := BitVec.getLsbD_of_ge w i (by omega)
      simp [h1, h3, h5]

/-- The field just written reads as the value written. -/
@[simp] theorem wGet_wSet_same (w : Word) (l n v : Nat) (h : l + n ≤ 24) : wGet (wSet w l n v) l n = v % 2 ^ n := by
  apply Nat.eq_of_testBit_eq
  intro i
  rw [wGet_testBit, wSet_getLsbD _ _ _ _ _ h, Nat.testBit_mod_two_pow]
  by_cases hi : i < n
  · simp [hi]
  · simp [hi]

/-- A field apart from the one written reads as before. -/
theorem wGet_wSet_apart (w : Word) {l n l' n' : Nat} (v : Nat) (h : l + n ≤ 24) (hd : l' + n' ≤ l ∨ l + n ≤ l') :
    wGet (wSet w l n v) l' n' = wGet w l' n' := by
  apply Nat.eq_of_testBit_eq
  intro i
  rw [wGet_testBit, wGet_testBit, wSet_getLsbD _ _ _ _ _ h]
  by_cases hi : i < n'
  · have : ¬ (l ≤ l' + i ∧ l' + i < l + n) := by omega
    simp [hi, this]
  · simp [hi]

theorem wGet_lt (w : Word) (l n : Nat) : wGet w l n < 2 ^ n := Nat.mod_lt _ (Nat.two_pow_pos n)

/-- A register after a register write: the word written, or as before. -/
@[simp] theorem Dev.reg_setReg (d : Dev) (a b : Nat) (w : Word) : (d.setReg a w).reg b = if b = a then w else d.reg b := by
  simp [Dev.reg, Dev.setReg]

/-- The field just written reads as the value written, cut to its width. -/
theorem Dev.fld_setFld_same (d : Dev) (f : Fld) (v : Nat) (h : f.lsb + f.width ≤ 24) :
    (d.setFld f v).fld f = v % 2 ^ f.width := by
  simp [Dev.fld, Dev.setFld, h]

/-- Two fields are apart: in different registers, or without a common bit. -/
def Fld.apart (f g : Fld) : Bool := f.addr != g.addr || decide (f.lsb + f.width ≤ g.lsb) || decide (g.lsb + g.width ≤ f.lsb)

/-- A field apart from the one written reads as before. -/
theorem Dev.fld_setFld_apart (d : Dev) {f g : Fld} (v : Nat) (h : g.lsb + g.width ≤ 24) (ha : f.apart g = true) :
    (d.setFld g v).fld f = d.fld f := by
  simp only [Fld.apart, Bool.or_eq_true, bne_iff_ne, decide_eq_true_eq] at ha
  simp only [Dev.fld, Dev.setFld, Dev.reg_setReg]
  by_cases he : f.addr = g.addr
  · rw [if_pos he, he]
    exact wGet_wSet_apart _ v h (by omega)
  · rw [if_neg he]

/-- A field of a register that was not written reads as before. -/
theorem Dev.fld_setReg_ne (d : Dev) {f : Fld} {a : Nat} (w : Word) (h : f.addr ≠ a) : (d.setReg a w).fld f = d.fld f := by
  simp [Dev.fld, h]

/-- A field of the register just written is that field of the word. -/
theorem Dev.fld_setReg_same (d : Dev) (f : Fld) (w : Word) : (d.setReg f.addr w).fld f = wGet w f.lsb f.width := by
  simp [Dev.fld]

/-- A counter after an increase: the sum, held at the field's maximum. -/
theorem Dev.fld_bumpBy_same (d : Dev) (f : Fld) (n : Nat) (h : f.lsb + f.width ≤ 24) :
    (d.bumpBy f n).fld f = min (d.fld f + n) (2 ^ f.width - 1) := by
  rw [Dev.bumpBy, Dev.fld_setFld_same _ _ _ h]
  apply Nat.mod_eq_of_lt
  have := Nat.two_pow_pos f.width
  omega

theorem Dev.fld_bumpBy_apart (d : Dev) {f g : Fld} (n : Nat) (h : g.lsb + g.width ≤ 24) (ha : f.apart g = true) :
    (d.bumpBy g n).fld f = d.fld f := Dev.fld_setFld_apart d _ h ha

/-- A bank word after a write of a bank word. -/
@[simp] theorem Dev.bank_setBank (d : Dev) (b w b' w' : Nat) (v : Word) :
    (d.setBank b w v).bank b' w' = if bankAddr b' w' = bankAddr b w then v else d.bank b' w' := by
  simp [Dev.bank, Dev.setBank]

end Sys2Proof.Machine
end

