-- ==== Sys2Proof/Laws/State.lean ====
section
/-!
SUPPORT. State.lean: what each update of the state leaves as it was, field by field, and what it writes; every one holds by
definition.
-/

namespace Sys2Proof.Machine

/-- A command answers a next state in which the queue is as it was. -/
@[simp] theorem State.run_eq (f : Dev → Dev) (s : State) : s.run f = .next { s with dev := f s.dev } := rfl

@[simp] theorem Dev.setReg_banks (d : Dev) (a : Nat) (w : Word) : (d.setReg a w).banks = d.banks := rfl
@[simp] theorem Dev.setReg_nvm (d : Dev) (a : Nat) (w : Word) : (d.setReg a w).nvm = d.nvm := rfl
@[simp] theorem Dev.setReg_cfg (d : Dev) (a : Nat) (w : Word) : (d.setReg a w).cfg = d.cfg := rfl
@[simp] theorem Dev.setReg_cfgLen (d : Dev) (a : Nat) (w : Word) : (d.setReg a w).cfgLen = d.cfgLen := rfl
@[simp] theorem Dev.setReg_img (d : Dev) (a : Nat) (w : Word) : (d.setReg a w).img = d.img := rfl
@[simp] theorem Dev.setReg_fuses (d : Dev) (a : Nat) (w : Word) : (d.setReg a w).fuses = d.fuses := rfl
@[simp] theorem Dev.setReg_pwr (d : Dev) (a : Nat) (w : Word) : (d.setReg a w).pwr = d.pwr := rfl
@[simp] theorem Dev.setReg_boot (d : Dev) (a : Nat) (w : Word) : (d.setReg a w).boot = d.boot := rfl
@[simp] theorem Dev.setReg_modes (d : Dev) (a : Nat) (w : Word) : (d.setReg a w).modes = d.modes := rfl
@[simp] theorem Dev.setReg_evr (d : Dev) (a : Nat) (w : Word) : (d.setReg a w).evr = d.evr := rfl
@[simp] theorem Dev.setReg_time (d : Dev) (a : Nat) (w : Word) : (d.setReg a w).time = d.time := rfl
@[simp] theorem Dev.setReg_twb (d : Dev) (a : Nat) (w : Word) : (d.setReg a w).twb = d.twb := rfl
@[simp] theorem Dev.setReg_com (d : Dev) (a : Nat) (w : Word) : (d.setReg a w).com = d.com := rfl
@[simp] theorem Dev.setReg_con (d : Dev) (a : Nat) (w : Word) : (d.setReg a w).con = d.con := rfl
@[simp] theorem Dev.setReg_usb (d : Dev) (a : Nat) (w : Word) : (d.setReg a w).usb = d.usb := rfl
@[simp] theorem Dev.setReg_scan (d : Dev) (a : Nat) (w : Word) : (d.setReg a w).scan = d.scan := rfl
@[simp] theorem Dev.setReg_trk (d : Dev) (a : Nat) (w : Word) : (d.setReg a w).trk = d.trk := rfl
@[simp] theorem Dev.setReg_rpt (d : Dev) (a : Nat) (w : Word) : (d.setReg a w).rpt = d.rpt := rfl
@[simp] theorem Dev.setReg_surf (d : Dev) (a : Nat) (w : Word) : (d.setReg a w).surf = d.surf := rfl
@[simp] theorem Dev.setReg_link (d : Dev) (a : Nat) (w : Word) : (d.setReg a w).link = d.link := rfl
@[simp] theorem Dev.setReg_mem (d : Dev) (a : Nat) (w : Word) : (d.setReg a w).mem = d.mem := rfl
@[simp] theorem Dev.setReg_gde (d : Dev) (a : Nat) (w : Word) : (d.setReg a w).gde = d.gde := rfl
@[simp] theorem Dev.setReg_lamp (d : Dev) (a : Nat) (w : Word) : (d.setReg a w).lamp = d.lamp := rfl
@[simp] theorem Dev.setReg_rail (d : Dev) (a : Nat) (w : Word) : (d.setReg a w).rail = d.rail := rfl
@[simp] theorem Dev.setReg_ir (d : Dev) (a : Nat) (w : Word) : (d.setReg a w).ir = d.ir := rfl
@[simp] theorem Dev.setReg_hka (d : Dev) (a : Nat) (w : Word) : (d.setReg a w).hka = d.hka := rfl
@[simp] theorem Dev.setReg_cal (d : Dev) (a : Nat) (w : Word) : (d.setReg a w).cal = d.cal := rfl
@[simp] theorem Dev.setReg_logQ (d : Dev) (a : Nat) (w : Word) : (d.setReg a w).logQ = d.logQ := rfl
@[simp] theorem Dev.setReg_outbox (d : Dev) (a : Nat) (w : Word) : (d.setReg a w).outbox = d.outbox := rfl
@[simp] theorem Dev.setReg_ticks (d : Dev) (a : Nat) (w : Word) : (d.setReg a w).ticks = d.ticks := rfl
@[simp] theorem Dev.setReg_free (d : Dev) (a : Nat) (w : Word) : (d.setReg a w).free = d.free := rfl

@[simp] theorem Dev.setFld_banks (d : Dev) (f : Fld) (v : Nat) : (d.setFld f v).banks = d.banks := rfl
@[simp] theorem Dev.setFld_nvm (d : Dev) (f : Fld) (v : Nat) : (d.setFld f v).nvm = d.nvm := rfl
@[simp] theorem Dev.setFld_cfg (d : Dev) (f : Fld) (v : Nat) : (d.setFld f v).cfg = d.cfg := rfl
@[simp] theorem Dev.setFld_cfgLen (d : Dev) (f : Fld) (v : Nat) : (d.setFld f v).cfgLen = d.cfgLen := rfl
@[simp] theorem Dev.setFld_img (d : Dev) (f : Fld) (v : Nat) : (d.setFld f v).img = d.img := rfl
@[simp] theorem Dev.setFld_fuses (d : Dev) (f : Fld) (v : Nat) : (d.setFld f v).fuses = d.fuses := rfl
@[simp] theorem Dev.setFld_pwr (d : Dev) (f : Fld) (v : Nat) : (d.setFld f v).pwr = d.pwr := rfl
@[simp] theorem Dev.setFld_boot (d : Dev) (f : Fld) (v : Nat) : (d.setFld f v).boot = d.boot := rfl
@[simp] theorem Dev.setFld_modes (d : Dev) (f : Fld) (v : Nat) : (d.setFld f v).modes = d.modes := rfl
@[simp] theorem Dev.setFld_evr (d : Dev) (f : Fld) (v : Nat) : (d.setFld f v).evr = d.evr := rfl
@[simp] theorem Dev.setFld_time (d : Dev) (f : Fld) (v : Nat) : (d.setFld f v).time = d.time := rfl
@[simp] theorem Dev.setFld_twb (d : Dev) (f : Fld) (v : Nat) : (d.setFld f v).twb = d.twb := rfl
@[simp] theorem Dev.setFld_com (d : Dev) (f : Fld) (v : Nat) : (d.setFld f v).com = d.com := rfl
@[simp] theorem Dev.setFld_con (d : Dev) (f : Fld) (v : Nat) : (d.setFld f v).con = d.con := rfl
@[simp] theorem Dev.setFld_usb (d : Dev) (f : Fld) (v : Nat) : (d.setFld f v).usb = d.usb := rfl
@[simp] theorem Dev.setFld_scan (d : Dev) (f : Fld) (v : Nat) : (d.setFld f v).scan = d.scan := rfl
@[simp] theorem Dev.setFld_trk (d : Dev) (f : Fld) (v : Nat) : (d.setFld f v).trk = d.trk := rfl
@[simp] theorem Dev.setFld_rpt (d : Dev) (f : Fld) (v : Nat) : (d.setFld f v).rpt = d.rpt := rfl
@[simp] theorem Dev.setFld_surf (d : Dev) (f : Fld) (v : Nat) : (d.setFld f v).surf = d.surf := rfl
@[simp] theorem Dev.setFld_link (d : Dev) (f : Fld) (v : Nat) : (d.setFld f v).link = d.link := rfl
@[simp] theorem Dev.setFld_mem (d : Dev) (f : Fld) (v : Nat) : (d.setFld f v).mem = d.mem := rfl
@[simp] theorem Dev.setFld_gde (d : Dev) (f : Fld) (v : Nat) : (d.setFld f v).gde = d.gde := rfl
@[simp] theorem Dev.setFld_lamp (d : Dev) (f : Fld) (v : Nat) : (d.setFld f v).lamp = d.lamp := rfl
@[simp] theorem Dev.setFld_rail (d : Dev) (f : Fld) (v : Nat) : (d.setFld f v).rail = d.rail := rfl
@[simp] theorem Dev.setFld_ir (d : Dev) (f : Fld) (v : Nat) : (d.setFld f v).ir = d.ir := rfl
@[simp] theorem Dev.setFld_hka (d : Dev) (f : Fld) (v : Nat) : (d.setFld f v).hka = d.hka := rfl
@[simp] theorem Dev.setFld_cal (d : Dev) (f : Fld) (v : Nat) : (d.setFld f v).cal = d.cal := rfl
@[simp] theorem Dev.setFld_logQ (d : Dev) (f : Fld) (v : Nat) : (d.setFld f v).logQ = d.logQ := rfl
@[simp] theorem Dev.setFld_outbox (d : Dev) (f : Fld) (v : Nat) : (d.setFld f v).outbox = d.outbox := rfl
@[simp] theorem Dev.setFld_ticks (d : Dev) (f : Fld) (v : Nat) : (d.setFld f v).ticks = d.ticks := rfl
@[simp] theorem Dev.setFld_free (d : Dev) (f : Fld) (v : Nat) : (d.setFld f v).free = d.free := rfl

@[simp] theorem Dev.setFlag_banks (d : Dev) (f : Fld) (b : Bool) : (d.setFlag f b).banks = d.banks := rfl
@[simp] theorem Dev.setFlag_nvm (d : Dev) (f : Fld) (b : Bool) : (d.setFlag f b).nvm = d.nvm := rfl
@[simp] theorem Dev.setFlag_cfg (d : Dev) (f : Fld) (b : Bool) : (d.setFlag f b).cfg = d.cfg := rfl
@[simp] theorem Dev.setFlag_cfgLen (d : Dev) (f : Fld) (b : Bool) : (d.setFlag f b).cfgLen = d.cfgLen := rfl
@[simp] theorem Dev.setFlag_img (d : Dev) (f : Fld) (b : Bool) : (d.setFlag f b).img = d.img := rfl
@[simp] theorem Dev.setFlag_fuses (d : Dev) (f : Fld) (b : Bool) : (d.setFlag f b).fuses = d.fuses := rfl
@[simp] theorem Dev.setFlag_pwr (d : Dev) (f : Fld) (b : Bool) : (d.setFlag f b).pwr = d.pwr := rfl
@[simp] theorem Dev.setFlag_boot (d : Dev) (f : Fld) (b : Bool) : (d.setFlag f b).boot = d.boot := rfl
@[simp] theorem Dev.setFlag_modes (d : Dev) (f : Fld) (b : Bool) : (d.setFlag f b).modes = d.modes := rfl
@[simp] theorem Dev.setFlag_evr (d : Dev) (f : Fld) (b : Bool) : (d.setFlag f b).evr = d.evr := rfl
@[simp] theorem Dev.setFlag_time (d : Dev) (f : Fld) (b : Bool) : (d.setFlag f b).time = d.time := rfl
@[simp] theorem Dev.setFlag_twb (d : Dev) (f : Fld) (b : Bool) : (d.setFlag f b).twb = d.twb := rfl
@[simp] theorem Dev.setFlag_com (d : Dev) (f : Fld) (b : Bool) : (d.setFlag f b).com = d.com := rfl
@[simp] theorem Dev.setFlag_con (d : Dev) (f : Fld) (b : Bool) : (d.setFlag f b).con = d.con := rfl
@[simp] theorem Dev.setFlag_usb (d : Dev) (f : Fld) (b : Bool) : (d.setFlag f b).usb = d.usb := rfl
@[simp] theorem Dev.setFlag_scan (d : Dev) (f : Fld) (b : Bool) : (d.setFlag f b).scan = d.scan := rfl
@[simp] theorem Dev.setFlag_trk (d : Dev) (f : Fld) (b : Bool) : (d.setFlag f b).trk = d.trk := rfl
@[simp] theorem Dev.setFlag_rpt (d : Dev) (f : Fld) (b : Bool) : (d.setFlag f b).rpt = d.rpt := rfl
@[simp] theorem Dev.setFlag_surf (d : Dev) (f : Fld) (b : Bool) : (d.setFlag f b).surf = d.surf := rfl
@[simp] theorem Dev.setFlag_link (d : Dev) (f : Fld) (b : Bool) : (d.setFlag f b).link = d.link := rfl
@[simp] theorem Dev.setFlag_mem (d : Dev) (f : Fld) (b : Bool) : (d.setFlag f b).mem = d.mem := rfl
@[simp] theorem Dev.setFlag_gde (d : Dev) (f : Fld) (b : Bool) : (d.setFlag f b).gde = d.gde := rfl
@[simp] theorem Dev.setFlag_lamp (d : Dev) (f : Fld) (b : Bool) : (d.setFlag f b).lamp = d.lamp := rfl
@[simp] theorem Dev.setFlag_rail (d : Dev) (f : Fld) (b : Bool) : (d.setFlag f b).rail = d.rail := rfl
@[simp] theorem Dev.setFlag_ir (d : Dev) (f : Fld) (b : Bool) : (d.setFlag f b).ir = d.ir := rfl
@[simp] theorem Dev.setFlag_hka (d : Dev) (f : Fld) (b : Bool) : (d.setFlag f b).hka = d.hka := rfl
@[simp] theorem Dev.setFlag_cal (d : Dev) (f : Fld) (b : Bool) : (d.setFlag f b).cal = d.cal := rfl
@[simp] theorem Dev.setFlag_logQ (d : Dev) (f : Fld) (b : Bool) : (d.setFlag f b).logQ = d.logQ := rfl
@[simp] theorem Dev.setFlag_outbox (d : Dev) (f : Fld) (b : Bool) : (d.setFlag f b).outbox = d.outbox := rfl
@[simp] theorem Dev.setFlag_ticks (d : Dev) (f : Fld) (b : Bool) : (d.setFlag f b).ticks = d.ticks := rfl
@[simp] theorem Dev.setFlag_free (d : Dev) (f : Fld) (b : Bool) : (d.setFlag f b).free = d.free := rfl

@[simp] theorem Dev.bumpBy_banks (d : Dev) (f : Fld) (n : Nat) : (d.bumpBy f n).banks = d.banks := rfl
@[simp] theorem Dev.bumpBy_nvm (d : Dev) (f : Fld) (n : Nat) : (d.bumpBy f n).nvm = d.nvm := rfl
@[simp] theorem Dev.bumpBy_cfg (d : Dev) (f : Fld) (n : Nat) : (d.bumpBy f n).cfg = d.cfg := rfl
@[simp] theorem Dev.bumpBy_cfgLen (d : Dev) (f : Fld) (n : Nat) : (d.bumpBy f n).cfgLen = d.cfgLen := rfl
@[simp] theorem Dev.bumpBy_img (d : Dev) (f : Fld) (n : Nat) : (d.bumpBy f n).img = d.img := rfl
@[simp] theorem Dev.bumpBy_fuses (d : Dev) (f : Fld) (n : Nat) : (d.bumpBy f n).fuses = d.fuses := rfl
@[simp] theorem Dev.bumpBy_pwr (d : Dev) (f : Fld) (n : Nat) : (d.bumpBy f n).pwr = d.pwr := rfl
@[simp] theorem Dev.bumpBy_boot (d : Dev) (f : Fld) (n : Nat) : (d.bumpBy f n).boot = d.boot := rfl
@[simp] theorem Dev.bumpBy_modes (d : Dev) (f : Fld) (n : Nat) : (d.bumpBy f n).modes = d.modes := rfl
@[simp] theorem Dev.bumpBy_evr (d : Dev) (f : Fld) (n : Nat) : (d.bumpBy f n).evr = d.evr := rfl
@[simp] theorem Dev.bumpBy_time (d : Dev) (f : Fld) (n : Nat) : (d.bumpBy f n).time = d.time := rfl
@[simp] theorem Dev.bumpBy_twb (d : Dev) (f : Fld) (n : Nat) : (d.bumpBy f n).twb = d.twb := rfl
@[simp] theorem Dev.bumpBy_com (d : Dev) (f : Fld) (n : Nat) : (d.bumpBy f n).com = d.com := rfl
@[simp] theorem Dev.bumpBy_con (d : Dev) (f : Fld) (n : Nat) : (d.bumpBy f n).con = d.con := rfl
@[simp] theorem Dev.bumpBy_usb (d : Dev) (f : Fld) (n : Nat) : (d.bumpBy f n).usb = d.usb := rfl
@[simp] theorem Dev.bumpBy_scan (d : Dev) (f : Fld) (n : Nat) : (d.bumpBy f n).scan = d.scan := rfl
@[simp] theorem Dev.bumpBy_trk (d : Dev) (f : Fld) (n : Nat) : (d.bumpBy f n).trk = d.trk := rfl
@[simp] theorem Dev.bumpBy_rpt (d : Dev) (f : Fld) (n : Nat) : (d.bumpBy f n).rpt = d.rpt := rfl
@[simp] theorem Dev.bumpBy_surf (d : Dev) (f : Fld) (n : Nat) : (d.bumpBy f n).surf = d.surf := rfl
@[simp] theorem Dev.bumpBy_link (d : Dev) (f : Fld) (n : Nat) : (d.bumpBy f n).link = d.link := rfl
@[simp] theorem Dev.bumpBy_mem (d : Dev) (f : Fld) (n : Nat) : (d.bumpBy f n).mem = d.mem := rfl
@[simp] theorem Dev.bumpBy_gde (d : Dev) (f : Fld) (n : Nat) : (d.bumpBy f n).gde = d.gde := rfl
@[simp] theorem Dev.bumpBy_lamp (d : Dev) (f : Fld) (n : Nat) : (d.bumpBy f n).lamp = d.lamp := rfl
@[simp] theorem Dev.bumpBy_rail (d : Dev) (f : Fld) (n : Nat) : (d.bumpBy f n).rail = d.rail := rfl
@[simp] theorem Dev.bumpBy_ir (d : Dev) (f : Fld) (n : Nat) : (d.bumpBy f n).ir = d.ir := rfl
@[simp] theorem Dev.bumpBy_hka (d : Dev) (f : Fld) (n : Nat) : (d.bumpBy f n).hka = d.hka := rfl
@[simp] theorem Dev.bumpBy_cal (d : Dev) (f : Fld) (n : Nat) : (d.bumpBy f n).cal = d.cal := rfl
@[simp] theorem Dev.bumpBy_logQ (d : Dev) (f : Fld) (n : Nat) : (d.bumpBy f n).logQ = d.logQ := rfl
@[simp] theorem Dev.bumpBy_outbox (d : Dev) (f : Fld) (n : Nat) : (d.bumpBy f n).outbox = d.outbox := rfl
@[simp] theorem Dev.bumpBy_ticks (d : Dev) (f : Fld) (n : Nat) : (d.bumpBy f n).ticks = d.ticks := rfl
@[simp] theorem Dev.bumpBy_free (d : Dev) (f : Fld) (n : Nat) : (d.bumpBy f n).free = d.free := rfl

@[simp] theorem Dev.bump_banks (d : Dev) (f : Fld) : (d.bump f).banks = d.banks := rfl
@[simp] theorem Dev.bump_nvm (d : Dev) (f : Fld) : (d.bump f).nvm = d.nvm := rfl
@[simp] theorem Dev.bump_cfg (d : Dev) (f : Fld) : (d.bump f).cfg = d.cfg := rfl
@[simp] theorem Dev.bump_cfgLen (d : Dev) (f : Fld) : (d.bump f).cfgLen = d.cfgLen := rfl
@[simp] theorem Dev.bump_img (d : Dev) (f : Fld) : (d.bump f).img = d.img := rfl
@[simp] theorem Dev.bump_fuses (d : Dev) (f : Fld) : (d.bump f).fuses = d.fuses := rfl
@[simp] theorem Dev.bump_pwr (d : Dev) (f : Fld) : (d.bump f).pwr = d.pwr := rfl
@[simp] theorem Dev.bump_boot (d : Dev) (f : Fld) : (d.bump f).boot = d.boot := rfl
@[simp] theorem Dev.bump_modes (d : Dev) (f : Fld) : (d.bump f).modes = d.modes := rfl
@[simp] theorem Dev.bump_evr (d : Dev) (f : Fld) : (d.bump f).evr = d.evr := rfl
@[simp] theorem Dev.bump_time (d : Dev) (f : Fld) : (d.bump f).time = d.time := rfl
@[simp] theorem Dev.bump_twb (d : Dev) (f : Fld) : (d.bump f).twb = d.twb := rfl
@[simp] theorem Dev.bump_com (d : Dev) (f : Fld) : (d.bump f).com = d.com := rfl
@[simp] theorem Dev.bump_con (d : Dev) (f : Fld) : (d.bump f).con = d.con := rfl
@[simp] theorem Dev.bump_usb (d : Dev) (f : Fld) : (d.bump f).usb = d.usb := rfl
@[simp] theorem Dev.bump_scan (d : Dev) (f : Fld) : (d.bump f).scan = d.scan := rfl
@[simp] theorem Dev.bump_trk (d : Dev) (f : Fld) : (d.bump f).trk = d.trk := rfl
@[simp] theorem Dev.bump_rpt (d : Dev) (f : Fld) : (d.bump f).rpt = d.rpt := rfl
@[simp] theorem Dev.bump_surf (d : Dev) (f : Fld) : (d.bump f).surf = d.surf := rfl
@[simp] theorem Dev.bump_link (d : Dev) (f : Fld) : (d.bump f).link = d.link := rfl
@[simp] theorem Dev.bump_mem (d : Dev) (f : Fld) : (d.bump f).mem = d.mem := rfl
@[simp] theorem Dev.bump_gde (d : Dev) (f : Fld) : (d.bump f).gde = d.gde := rfl
@[simp] theorem Dev.bump_lamp (d : Dev) (f : Fld) : (d.bump f).lamp = d.lamp := rfl
@[simp] theorem Dev.bump_rail (d : Dev) (f : Fld) : (d.bump f).rail = d.rail := rfl
@[simp] theorem Dev.bump_ir (d : Dev) (f : Fld) : (d.bump f).ir = d.ir := rfl
@[simp] theorem Dev.bump_hka (d : Dev) (f : Fld) : (d.bump f).hka = d.hka := rfl
@[simp] theorem Dev.bump_cal (d : Dev) (f : Fld) : (d.bump f).cal = d.cal := rfl
@[simp] theorem Dev.bump_logQ (d : Dev) (f : Fld) : (d.bump f).logQ = d.logQ := rfl
@[simp] theorem Dev.bump_outbox (d : Dev) (f : Fld) : (d.bump f).outbox = d.outbox := rfl
@[simp] theorem Dev.bump_ticks (d : Dev) (f : Fld) : (d.bump f).ticks = d.ticks := rfl
@[simp] theorem Dev.bump_free (d : Dev) (f : Fld) : (d.bump f).free = d.free := rfl

@[simp] theorem Dev.ignoreWrite_banks (d : Dev) : (d.ignoreWrite).banks = d.banks := rfl
@[simp] theorem Dev.ignoreWrite_nvm (d : Dev) : (d.ignoreWrite).nvm = d.nvm := rfl
@[simp] theorem Dev.ignoreWrite_cfg (d : Dev) : (d.ignoreWrite).cfg = d.cfg := rfl
@[simp] theorem Dev.ignoreWrite_cfgLen (d : Dev) : (d.ignoreWrite).cfgLen = d.cfgLen := rfl
@[simp] theorem Dev.ignoreWrite_img (d : Dev) : (d.ignoreWrite).img = d.img := rfl
@[simp] theorem Dev.ignoreWrite_fuses (d : Dev) : (d.ignoreWrite).fuses = d.fuses := rfl
@[simp] theorem Dev.ignoreWrite_pwr (d : Dev) : (d.ignoreWrite).pwr = d.pwr := rfl
@[simp] theorem Dev.ignoreWrite_boot (d : Dev) : (d.ignoreWrite).boot = d.boot := rfl
@[simp] theorem Dev.ignoreWrite_modes (d : Dev) : (d.ignoreWrite).modes = d.modes := rfl
@[simp] theorem Dev.ignoreWrite_evr (d : Dev) : (d.ignoreWrite).evr = d.evr := rfl
@[simp] theorem Dev.ignoreWrite_time (d : Dev) : (d.ignoreWrite).time = d.time := rfl
@[simp] theorem Dev.ignoreWrite_twb (d : Dev) : (d.ignoreWrite).twb = d.twb := rfl
@[simp] theorem Dev.ignoreWrite_com (d : Dev) : (d.ignoreWrite).com = d.com := rfl
@[simp] theorem Dev.ignoreWrite_con (d : Dev) : (d.ignoreWrite).con = d.con := rfl
@[simp] theorem Dev.ignoreWrite_usb (d : Dev) : (d.ignoreWrite).usb = d.usb := rfl
@[simp] theorem Dev.ignoreWrite_scan (d : Dev) : (d.ignoreWrite).scan = d.scan := rfl
@[simp] theorem Dev.ignoreWrite_trk (d : Dev) : (d.ignoreWrite).trk = d.trk := rfl
@[simp] theorem Dev.ignoreWrite_rpt (d : Dev) : (d.ignoreWrite).rpt = d.rpt := rfl
@[simp] theorem Dev.ignoreWrite_surf (d : Dev) : (d.ignoreWrite).surf = d.surf := rfl
@[simp] theorem Dev.ignoreWrite_link (d : Dev) : (d.ignoreWrite).link = d.link := rfl
@[simp] theorem Dev.ignoreWrite_mem (d : Dev) : (d.ignoreWrite).mem = d.mem := rfl
@[simp] theorem Dev.ignoreWrite_gde (d : Dev) : (d.ignoreWrite).gde = d.gde := rfl
@[simp] theorem Dev.ignoreWrite_lamp (d : Dev) : (d.ignoreWrite).lamp = d.lamp := rfl
@[simp] theorem Dev.ignoreWrite_rail (d : Dev) : (d.ignoreWrite).rail = d.rail := rfl
@[simp] theorem Dev.ignoreWrite_ir (d : Dev) : (d.ignoreWrite).ir = d.ir := rfl
@[simp] theorem Dev.ignoreWrite_hka (d : Dev) : (d.ignoreWrite).hka = d.hka := rfl
@[simp] theorem Dev.ignoreWrite_cal (d : Dev) : (d.ignoreWrite).cal = d.cal := rfl
@[simp] theorem Dev.ignoreWrite_logQ (d : Dev) : (d.ignoreWrite).logQ = d.logQ := rfl
@[simp] theorem Dev.ignoreWrite_outbox (d : Dev) : (d.ignoreWrite).outbox = d.outbox := rfl
@[simp] theorem Dev.ignoreWrite_ticks (d : Dev) : (d.ignoreWrite).ticks = d.ticks := rfl
@[simp] theorem Dev.ignoreWrite_free (d : Dev) : (d.ignoreWrite).free = d.free := rfl

@[simp] theorem Dev.storeReg_banks (d : Dev) (a : Nat) (v : Word) : (d.storeReg a v).banks = d.banks := rfl
@[simp] theorem Dev.storeReg_nvm (d : Dev) (a : Nat) (v : Word) : (d.storeReg a v).nvm = d.nvm := rfl
@[simp] theorem Dev.storeReg_cfg (d : Dev) (a : Nat) (v : Word) : (d.storeReg a v).cfg = d.cfg := rfl
@[simp] theorem Dev.storeReg_cfgLen (d : Dev) (a : Nat) (v : Word) : (d.storeReg a v).cfgLen = d.cfgLen := rfl
@[simp] theorem Dev.storeReg_img (d : Dev) (a : Nat) (v : Word) : (d.storeReg a v).img = d.img := rfl
@[simp] theorem Dev.storeReg_fuses (d : Dev) (a : Nat) (v : Word) : (d.storeReg a v).fuses = d.fuses := rfl
@[simp] theorem Dev.storeReg_pwr (d : Dev) (a : Nat) (v : Word) : (d.storeReg a v).pwr = d.pwr := rfl
@[simp] theorem Dev.storeReg_boot (d : Dev) (a : Nat) (v : Word) : (d.storeReg a v).boot = d.boot := rfl
@[simp] theorem Dev.storeReg_modes (d : Dev) (a : Nat) (v : Word) : (d.storeReg a v).modes = d.modes := rfl
@[simp] theorem Dev.storeReg_evr (d : Dev) (a : Nat) (v : Word) : (d.storeReg a v).evr = d.evr := rfl
@[simp] theorem Dev.storeReg_time (d : Dev) (a : Nat) (v : Word) : (d.storeReg a v).time = d.time := rfl
@[simp] theorem Dev.storeReg_twb (d : Dev) (a : Nat) (v : Word) : (d.storeReg a v).twb = d.twb := rfl
@[simp] theorem Dev.storeReg_com (d : Dev) (a : Nat) (v : Word) : (d.storeReg a v).com = d.com := rfl
@[simp] theorem Dev.storeReg_con (d : Dev) (a : Nat) (v : Word) : (d.storeReg a v).con = d.con := rfl
@[simp] theorem Dev.storeReg_usb (d : Dev) (a : Nat) (v : Word) : (d.storeReg a v).usb = d.usb := rfl
@[simp] theorem Dev.storeReg_scan (d : Dev) (a : Nat) (v : Word) : (d.storeReg a v).scan = d.scan := rfl
@[simp] theorem Dev.storeReg_trk (d : Dev) (a : Nat) (v : Word) : (d.storeReg a v).trk = d.trk := rfl
@[simp] theorem Dev.storeReg_rpt (d : Dev) (a : Nat) (v : Word) : (d.storeReg a v).rpt = d.rpt := rfl
@[simp] theorem Dev.storeReg_surf (d : Dev) (a : Nat) (v : Word) : (d.storeReg a v).surf = d.surf := rfl
@[simp] theorem Dev.storeReg_link (d : Dev) (a : Nat) (v : Word) : (d.storeReg a v).link = d.link := rfl
@[simp] theorem Dev.storeReg_mem (d : Dev) (a : Nat) (v : Word) : (d.storeReg a v).mem = d.mem := rfl
@[simp] theorem Dev.storeReg_gde (d : Dev) (a : Nat) (v : Word) : (d.storeReg a v).gde = d.gde := rfl
@[simp] theorem Dev.storeReg_lamp (d : Dev) (a : Nat) (v : Word) : (d.storeReg a v).lamp = d.lamp := rfl
@[simp] theorem Dev.storeReg_rail (d : Dev) (a : Nat) (v : Word) : (d.storeReg a v).rail = d.rail := rfl
@[simp] theorem Dev.storeReg_ir (d : Dev) (a : Nat) (v : Word) : (d.storeReg a v).ir = d.ir := rfl
@[simp] theorem Dev.storeReg_hka (d : Dev) (a : Nat) (v : Word) : (d.storeReg a v).hka = d.hka := rfl
@[simp] theorem Dev.storeReg_cal (d : Dev) (a : Nat) (v : Word) : (d.storeReg a v).cal = d.cal := rfl
@[simp] theorem Dev.storeReg_logQ (d : Dev) (a : Nat) (v : Word) : (d.storeReg a v).logQ = d.logQ := rfl
@[simp] theorem Dev.storeReg_outbox (d : Dev) (a : Nat) (v : Word) : (d.storeReg a v).outbox = d.outbox := rfl
@[simp] theorem Dev.storeReg_ticks (d : Dev) (a : Nat) (v : Word) : (d.storeReg a v).ticks = d.ticks := rfl
@[simp] theorem Dev.storeReg_free (d : Dev) (a : Nat) (v : Word) : (d.storeReg a v).free = d.free := rfl

@[simp] theorem Dev.setBank_regs (d : Dev) (b w : Nat) (v : Word) : (d.setBank b w v).regs = d.regs := rfl
@[simp] theorem Dev.setBank_nvm (d : Dev) (b w : Nat) (v : Word) : (d.setBank b w v).nvm = d.nvm := rfl
@[simp] theorem Dev.setBank_cfg (d : Dev) (b w : Nat) (v : Word) : (d.setBank b w v).cfg = d.cfg := rfl
@[simp] theorem Dev.setBank_cfgLen (d : Dev) (b w : Nat) (v : Word) : (d.setBank b w v).cfgLen = d.cfgLen := rfl
@[simp] theorem Dev.setBank_img (d : Dev) (b w : Nat) (v : Word) : (d.setBank b w v).img = d.img := rfl
@[simp] theorem Dev.setBank_fuses (d : Dev) (b w : Nat) (v : Word) : (d.setBank b w v).fuses = d.fuses := rfl
@[simp] theorem Dev.setBank_pwr (d : Dev) (b w : Nat) (v : Word) : (d.setBank b w v).pwr = d.pwr := rfl
@[simp] theorem Dev.setBank_boot (d : Dev) (b w : Nat) (v : Word) : (d.setBank b w v).boot = d.boot := rfl
@[simp] theorem Dev.setBank_modes (d : Dev) (b w : Nat) (v : Word) : (d.setBank b w v).modes = d.modes := rfl
@[simp] theorem Dev.setBank_evr (d : Dev) (b w : Nat) (v : Word) : (d.setBank b w v).evr = d.evr := rfl
@[simp] theorem Dev.setBank_time (d : Dev) (b w : Nat) (v : Word) : (d.setBank b w v).time = d.time := rfl
@[simp] theorem Dev.setBank_twb (d : Dev) (b w : Nat) (v : Word) : (d.setBank b w v).twb = d.twb := rfl
@[simp] theorem Dev.setBank_com (d : Dev) (b w : Nat) (v : Word) : (d.setBank b w v).com = d.com := rfl
@[simp] theorem Dev.setBank_con (d : Dev) (b w : Nat) (v : Word) : (d.setBank b w v).con = d.con := rfl
@[simp] theorem Dev.setBank_usb (d : Dev) (b w : Nat) (v : Word) : (d.setBank b w v).usb = d.usb := rfl
@[simp] theorem Dev.setBank_scan (d : Dev) (b w : Nat) (v : Word) : (d.setBank b w v).scan = d.scan := rfl
@[simp] theorem Dev.setBank_trk (d : Dev) (b w : Nat) (v : Word) : (d.setBank b w v).trk = d.trk := rfl
@[simp] theorem Dev.setBank_rpt (d : Dev) (b w : Nat) (v : Word) : (d.setBank b w v).rpt = d.rpt := rfl
@[simp] theorem Dev.setBank_surf (d : Dev) (b w : Nat) (v : Word) : (d.setBank b w v).surf = d.surf := rfl
@[simp] theorem Dev.setBank_link (d : Dev) (b w : Nat) (v : Word) : (d.setBank b w v).link = d.link := rfl
@[simp] theorem Dev.setBank_mem (d : Dev) (b w : Nat) (v : Word) :
    (d.setBank b w v).mem = { d.mem with bad := d.mem.bad.filter (· != bankAddr b w) } := rfl
@[simp] theorem Dev.setBank_gde (d : Dev) (b w : Nat) (v : Word) : (d.setBank b w v).gde = d.gde := rfl
@[simp] theorem Dev.setBank_lamp (d : Dev) (b w : Nat) (v : Word) : (d.setBank b w v).lamp = d.lamp := rfl
@[simp] theorem Dev.setBank_rail (d : Dev) (b w : Nat) (v : Word) : (d.setBank b w v).rail = d.rail := rfl
@[simp] theorem Dev.setBank_ir (d : Dev) (b w : Nat) (v : Word) : (d.setBank b w v).ir = d.ir := rfl
@[simp] theorem Dev.setBank_hka (d : Dev) (b w : Nat) (v : Word) : (d.setBank b w v).hka = d.hka := rfl
@[simp] theorem Dev.setBank_cal (d : Dev) (b w : Nat) (v : Word) : (d.setBank b w v).cal = d.cal := rfl
@[simp] theorem Dev.setBank_logQ (d : Dev) (b w : Nat) (v : Word) : (d.setBank b w v).logQ = d.logQ := rfl
@[simp] theorem Dev.setBank_outbox (d : Dev) (b w : Nat) (v : Word) : (d.setBank b w v).outbox = d.outbox := rfl
@[simp] theorem Dev.setBank_ticks (d : Dev) (b w : Nat) (v : Word) : (d.setBank b w v).ticks = d.ticks := rfl
@[simp] theorem Dev.setBank_free (d : Dev) (b w : Nat) (v : Word) : (d.setBank b w v).free = d.free := rfl

@[simp] theorem Dev.setCfg_regs (d : Dev) (p v : Nat) : (d.setCfg p v).regs = d.regs := rfl
@[simp] theorem Dev.setCfg_banks (d : Dev) (p v : Nat) : (d.setCfg p v).banks = d.banks := rfl
@[simp] theorem Dev.setCfg_nvm (d : Dev) (p v : Nat) : (d.setCfg p v).nvm = d.nvm := rfl
@[simp] theorem Dev.setCfg_cfgLen (d : Dev) (p v : Nat) : (d.setCfg p v).cfgLen = d.cfgLen := rfl
@[simp] theorem Dev.setCfg_img (d : Dev) (p v : Nat) : (d.setCfg p v).img = d.img := rfl
@[simp] theorem Dev.setCfg_fuses (d : Dev) (p v : Nat) : (d.setCfg p v).fuses = d.fuses := rfl
@[simp] theorem Dev.setCfg_pwr (d : Dev) (p v : Nat) : (d.setCfg p v).pwr = d.pwr := rfl
@[simp] theorem Dev.setCfg_boot (d : Dev) (p v : Nat) : (d.setCfg p v).boot = d.boot := rfl
@[simp] theorem Dev.setCfg_modes (d : Dev) (p v : Nat) : (d.setCfg p v).modes = d.modes := rfl
@[simp] theorem Dev.setCfg_evr (d : Dev) (p v : Nat) : (d.setCfg p v).evr = d.evr := rfl
@[simp] theorem Dev.setCfg_time (d : Dev) (p v : Nat) : (d.setCfg p v).time = d.time := rfl
@[simp] theorem Dev.setCfg_twb (d : Dev) (p v : Nat) : (d.setCfg p v).twb = d.twb := rfl
@[simp] theorem Dev.setCfg_com (d : Dev) (p v : Nat) : (d.setCfg p v).com = d.com := rfl
@[simp] theorem Dev.setCfg_con (d : Dev) (p v : Nat) : (d.setCfg p v).con = d.con := rfl
@[simp] theorem Dev.setCfg_usb (d : Dev) (p v : Nat) : (d.setCfg p v).usb = d.usb := rfl
@[simp] theorem Dev.setCfg_scan (d : Dev) (p v : Nat) : (d.setCfg p v).scan = d.scan := rfl
@[simp] theorem Dev.setCfg_trk (d : Dev) (p v : Nat) : (d.setCfg p v).trk = d.trk := rfl
@[simp] theorem Dev.setCfg_rpt (d : Dev) (p v : Nat) : (d.setCfg p v).rpt = d.rpt := rfl
@[simp] theorem Dev.setCfg_surf (d : Dev) (p v : Nat) : (d.setCfg p v).surf = d.surf := rfl
@[simp] theorem Dev.setCfg_link (d : Dev) (p v : Nat) : (d.setCfg p v).link = d.link := rfl
@[simp] theorem Dev.setCfg_mem (d : Dev) (p v : Nat) : (d.setCfg p v).mem = d.mem := rfl
@[simp] theorem Dev.setCfg_gde (d : Dev) (p v : Nat) : (d.setCfg p v).gde = d.gde := rfl
@[simp] theorem Dev.setCfg_lamp (d : Dev) (p v : Nat) : (d.setCfg p v).lamp = d.lamp := rfl
@[simp] theorem Dev.setCfg_rail (d : Dev) (p v : Nat) : (d.setCfg p v).rail = d.rail := rfl
@[simp] theorem Dev.setCfg_ir (d : Dev) (p v : Nat) : (d.setCfg p v).ir = d.ir := rfl
@[simp] theorem Dev.setCfg_hka (d : Dev) (p v : Nat) : (d.setCfg p v).hka = d.hka := rfl
@[simp] theorem Dev.setCfg_cal (d : Dev) (p v : Nat) : (d.setCfg p v).cal = d.cal := rfl
@[simp] theorem Dev.setCfg_logQ (d : Dev) (p v : Nat) : (d.setCfg p v).logQ = d.logQ := rfl
@[simp] theorem Dev.setCfg_outbox (d : Dev) (p v : Nat) : (d.setCfg p v).outbox = d.outbox := rfl
@[simp] theorem Dev.setCfg_ticks (d : Dev) (p v : Nat) : (d.setCfg p v).ticks = d.ticks := rfl
@[simp] theorem Dev.setCfg_free (d : Dev) (p v : Nat) : (d.setCfg p v).free = d.free := rfl

@[simp] theorem Dev.setCal_regs (d : Dev) (x : Calib) : (d.setCal x).regs = d.regs := rfl
@[simp] theorem Dev.setCal_banks (d : Dev) (x : Calib) : (d.setCal x).banks = d.banks := rfl
@[simp] theorem Dev.setCal_nvm (d : Dev) (x : Calib) : (d.setCal x).nvm = d.nvm := rfl
@[simp] theorem Dev.setCal_cfg (d : Dev) (x : Calib) : (d.setCal x).cfg = d.cfg := rfl
@[simp] theorem Dev.setCal_cfgLen (d : Dev) (x : Calib) : (d.setCal x).cfgLen = d.cfgLen := rfl
@[simp] theorem Dev.setCal_img (d : Dev) (x : Calib) : (d.setCal x).img = d.img := rfl
@[simp] theorem Dev.setCal_fuses (d : Dev) (x : Calib) : (d.setCal x).fuses = d.fuses := rfl
@[simp] theorem Dev.setCal_pwr (d : Dev) (x : Calib) : (d.setCal x).pwr = d.pwr := rfl
@[simp] theorem Dev.setCal_boot (d : Dev) (x : Calib) : (d.setCal x).boot = d.boot := rfl
@[simp] theorem Dev.setCal_modes (d : Dev) (x : Calib) : (d.setCal x).modes = d.modes := rfl
@[simp] theorem Dev.setCal_evr (d : Dev) (x : Calib) : (d.setCal x).evr = d.evr := rfl
@[simp] theorem Dev.setCal_time (d : Dev) (x : Calib) : (d.setCal x).time = d.time := rfl
@[simp] theorem Dev.setCal_twb (d : Dev) (x : Calib) : (d.setCal x).twb = d.twb := rfl
@[simp] theorem Dev.setCal_com (d : Dev) (x : Calib) : (d.setCal x).com = d.com := rfl
@[simp] theorem Dev.setCal_con (d : Dev) (x : Calib) : (d.setCal x).con = d.con := rfl
@[simp] theorem Dev.setCal_usb (d : Dev) (x : Calib) : (d.setCal x).usb = d.usb := rfl
@[simp] theorem Dev.setCal_scan (d : Dev) (x : Calib) : (d.setCal x).scan = d.scan := rfl
@[simp] theorem Dev.setCal_trk (d : Dev) (x : Calib) : (d.setCal x).trk = d.trk := rfl
@[simp] theorem Dev.setCal_rpt (d : Dev) (x : Calib) : (d.setCal x).rpt = d.rpt := rfl
@[simp] theorem Dev.setCal_surf (d : Dev) (x : Calib) : (d.setCal x).surf = d.surf := rfl
@[simp] theorem Dev.setCal_link (d : Dev) (x : Calib) : (d.setCal x).link = d.link := rfl
@[simp] theorem Dev.setCal_mem (d : Dev) (x : Calib) : (d.setCal x).mem = d.mem := rfl
@[simp] theorem Dev.setCal_gde (d : Dev) (x : Calib) : (d.setCal x).gde = d.gde := rfl
@[simp] theorem Dev.setCal_lamp (d : Dev) (x : Calib) : (d.setCal x).lamp = d.lamp := rfl
@[simp] theorem Dev.setCal_rail (d : Dev) (x : Calib) : (d.setCal x).rail = d.rail := rfl
@[simp] theorem Dev.setCal_ir (d : Dev) (x : Calib) : (d.setCal x).ir = d.ir := rfl
@[simp] theorem Dev.setCal_hka (d : Dev) (x : Calib) : (d.setCal x).hka = d.hka := rfl
@[simp] theorem Dev.setCal_cal (d : Dev) (x : Calib) : (d.setCal x).cal = x := rfl
@[simp] theorem Dev.setCal_logQ (d : Dev) (x : Calib) : (d.setCal x).logQ = d.logQ := rfl
@[simp] theorem Dev.setCal_outbox (d : Dev) (x : Calib) : (d.setCal x).outbox = d.outbox := rfl
@[simp] theorem Dev.setCal_ticks (d : Dev) (x : Calib) : (d.setCal x).ticks = d.ticks := rfl
@[simp] theorem Dev.setCal_free (d : Dev) (x : Calib) : (d.setCal x).free = d.free := rfl

@[simp] theorem Dev.setUsb_regs (d : Dev) (x : Usb) : (d.setUsb x).regs = d.regs := rfl
@[simp] theorem Dev.setUsb_banks (d : Dev) (x : Usb) : (d.setUsb x).banks = d.banks := rfl
@[simp] theorem Dev.setUsb_nvm (d : Dev) (x : Usb) : (d.setUsb x).nvm = d.nvm := rfl
@[simp] theorem Dev.setUsb_cfg (d : Dev) (x : Usb) : (d.setUsb x).cfg = d.cfg := rfl
@[simp] theorem Dev.setUsb_cfgLen (d : Dev) (x : Usb) : (d.setUsb x).cfgLen = d.cfgLen := rfl
@[simp] theorem Dev.setUsb_img (d : Dev) (x : Usb) : (d.setUsb x).img = d.img := rfl
@[simp] theorem Dev.setUsb_fuses (d : Dev) (x : Usb) : (d.setUsb x).fuses = d.fuses := rfl
@[simp] theorem Dev.setUsb_pwr (d : Dev) (x : Usb) : (d.setUsb x).pwr = d.pwr := rfl
@[simp] theorem Dev.setUsb_boot (d : Dev) (x : Usb) : (d.setUsb x).boot = d.boot := rfl
@[simp] theorem Dev.setUsb_modes (d : Dev) (x : Usb) : (d.setUsb x).modes = d.modes := rfl
@[simp] theorem Dev.setUsb_evr (d : Dev) (x : Usb) : (d.setUsb x).evr = d.evr := rfl
@[simp] theorem Dev.setUsb_time (d : Dev) (x : Usb) : (d.setUsb x).time = d.time := rfl
@[simp] theorem Dev.setUsb_twb (d : Dev) (x : Usb) : (d.setUsb x).twb = d.twb := rfl
@[simp] theorem Dev.setUsb_com (d : Dev) (x : Usb) : (d.setUsb x).com = d.com := rfl
@[simp] theorem Dev.setUsb_con (d : Dev) (x : Usb) : (d.setUsb x).con = d.con := rfl
@[simp] theorem Dev.setUsb_usb (d : Dev) (x : Usb) : (d.setUsb x).usb = x := rfl
@[simp] theorem Dev.setUsb_scan (d : Dev) (x : Usb) : (d.setUsb x).scan = d.scan := rfl
@[simp] theorem Dev.setUsb_trk (d : Dev) (x : Usb) : (d.setUsb x).trk = d.trk := rfl
@[simp] theorem Dev.setUsb_rpt (d : Dev) (x : Usb) : (d.setUsb x).rpt = d.rpt := rfl
@[simp] theorem Dev.setUsb_surf (d : Dev) (x : Usb) : (d.setUsb x).surf = d.surf := rfl
@[simp] theorem Dev.setUsb_link (d : Dev) (x : Usb) : (d.setUsb x).link = d.link := rfl
@[simp] theorem Dev.setUsb_mem (d : Dev) (x : Usb) : (d.setUsb x).mem = d.mem := rfl
@[simp] theorem Dev.setUsb_gde (d : Dev) (x : Usb) : (d.setUsb x).gde = d.gde := rfl
@[simp] theorem Dev.setUsb_lamp (d : Dev) (x : Usb) : (d.setUsb x).lamp = d.lamp := rfl
@[simp] theorem Dev.setUsb_rail (d : Dev) (x : Usb) : (d.setUsb x).rail = d.rail := rfl
@[simp] theorem Dev.setUsb_ir (d : Dev) (x : Usb) : (d.setUsb x).ir = d.ir := rfl
@[simp] theorem Dev.setUsb_hka (d : Dev) (x : Usb) : (d.setUsb x).hka = d.hka := rfl
@[simp] theorem Dev.setUsb_cal (d : Dev) (x : Usb) : (d.setUsb x).cal = d.cal := rfl
@[simp] theorem Dev.setUsb_logQ (d : Dev) (x : Usb) : (d.setUsb x).logQ = d.logQ := rfl
@[simp] theorem Dev.setUsb_outbox (d : Dev) (x : Usb) : (d.setUsb x).outbox = d.outbox := rfl
@[simp] theorem Dev.setUsb_ticks (d : Dev) (x : Usb) : (d.setUsb x).ticks = d.ticks := rfl
@[simp] theorem Dev.setUsb_free (d : Dev) (x : Usb) : (d.setUsb x).free = d.free := rfl

@[simp] theorem Dev.setHka_regs (d : Dev) (x : Hka) : (d.setHka x).regs = d.regs := rfl
@[simp] theorem Dev.setHka_banks (d : Dev) (x : Hka) : (d.setHka x).banks = d.banks := rfl
@[simp] theorem Dev.setHka_nvm (d : Dev) (x : Hka) : (d.setHka x).nvm = d.nvm := rfl
@[simp] theorem Dev.setHka_cfg (d : Dev) (x : Hka) : (d.setHka x).cfg = d.cfg := rfl
@[simp] theorem Dev.setHka_cfgLen (d : Dev) (x : Hka) : (d.setHka x).cfgLen = d.cfgLen := rfl
@[simp] theorem Dev.setHka_img (d : Dev) (x : Hka) : (d.setHka x).img = d.img := rfl
@[simp] theorem Dev.setHka_fuses (d : Dev) (x : Hka) : (d.setHka x).fuses = d.fuses := rfl
@[simp] theorem Dev.setHka_pwr (d : Dev) (x : Hka) : (d.setHka x).pwr = d.pwr := rfl
@[simp] theorem Dev.setHka_boot (d : Dev) (x : Hka) : (d.setHka x).boot = d.boot := rfl
@[simp] theorem Dev.setHka_modes (d : Dev) (x : Hka) : (d.setHka x).modes = d.modes := rfl
@[simp] theorem Dev.setHka_evr (d : Dev) (x : Hka) : (d.setHka x).evr = d.evr := rfl
@[simp] theorem Dev.setHka_time (d : Dev) (x : Hka) : (d.setHka x).time = d.time := rfl
@[simp] theorem Dev.setHka_twb (d : Dev) (x : Hka) : (d.setHka x).twb = d.twb := rfl
@[simp] theorem Dev.setHka_com (d : Dev) (x : Hka) : (d.setHka x).com = d.com := rfl
@[simp] theorem Dev.setHka_con (d : Dev) (x : Hka) : (d.setHka x).con = d.con := rfl
@[simp] theorem Dev.setHka_usb (d : Dev) (x : Hka) : (d.setHka x).usb = d.usb := rfl
@[simp] theorem Dev.setHka_scan (d : Dev) (x : Hka) : (d.setHka x).scan = d.scan := rfl
@[simp] theorem Dev.setHka_trk (d : Dev) (x : Hka) : (d.setHka x).trk = d.trk := rfl
@[simp] theorem Dev.setHka_rpt (d : Dev) (x : Hka) : (d.setHka x).rpt = d.rpt := rfl
@[simp] theorem Dev.setHka_surf (d : Dev) (x : Hka) : (d.setHka x).surf = d.surf := rfl
@[simp] theorem Dev.setHka_link (d : Dev) (x : Hka) : (d.setHka x).link = d.link := rfl
@[simp] theorem Dev.setHka_mem (d : Dev) (x : Hka) : (d.setHka x).mem = d.mem := rfl
@[simp] theorem Dev.setHka_gde (d : Dev) (x : Hka) : (d.setHka x).gde = d.gde := rfl
@[simp] theorem Dev.setHka_lamp (d : Dev) (x : Hka) : (d.setHka x).lamp = d.lamp := rfl
@[simp] theorem Dev.setHka_rail (d : Dev) (x : Hka) : (d.setHka x).rail = d.rail := rfl
@[simp] theorem Dev.setHka_ir (d : Dev) (x : Hka) : (d.setHka x).ir = d.ir := rfl
@[simp] theorem Dev.setHka_hka (d : Dev) (x : Hka) : (d.setHka x).hka = x := rfl
@[simp] theorem Dev.setHka_cal (d : Dev) (x : Hka) : (d.setHka x).cal = d.cal := rfl
@[simp] theorem Dev.setHka_logQ (d : Dev) (x : Hka) : (d.setHka x).logQ = d.logQ := rfl
@[simp] theorem Dev.setHka_outbox (d : Dev) (x : Hka) : (d.setHka x).outbox = d.outbox := rfl
@[simp] theorem Dev.setHka_ticks (d : Dev) (x : Hka) : (d.setHka x).ticks = d.ticks := rfl
@[simp] theorem Dev.setHka_free (d : Dev) (x : Hka) : (d.setHka x).free = d.free := rfl

@[simp] theorem Dev.setIr_regs (d : Dev) (x : Infrared) : (d.setIr x).regs = d.regs := rfl
@[simp] theorem Dev.setIr_banks (d : Dev) (x : Infrared) : (d.setIr x).banks = d.banks := rfl
@[simp] theorem Dev.setIr_nvm (d : Dev) (x : Infrared) : (d.setIr x).nvm = d.nvm := rfl
@[simp] theorem Dev.setIr_cfg (d : Dev) (x : Infrared) : (d.setIr x).cfg = d.cfg := rfl
@[simp] theorem Dev.setIr_cfgLen (d : Dev) (x : Infrared) : (d.setIr x).cfgLen = d.cfgLen := rfl
@[simp] theorem Dev.setIr_img (d : Dev) (x : Infrared) : (d.setIr x).img = d.img := rfl
@[simp] theorem Dev.setIr_fuses (d : Dev) (x : Infrared) : (d.setIr x).fuses = d.fuses := rfl
@[simp] theorem Dev.setIr_pwr (d : Dev) (x : Infrared) : (d.setIr x).pwr = d.pwr := rfl
@[simp] theorem Dev.setIr_boot (d : Dev) (x : Infrared) : (d.setIr x).boot = d.boot := rfl
@[simp] theorem Dev.setIr_modes (d : Dev) (x : Infrared) : (d.setIr x).modes = d.modes := rfl
@[simp] theorem Dev.setIr_evr (d : Dev) (x : Infrared) : (d.setIr x).evr = d.evr := rfl
@[simp] theorem Dev.setIr_time (d : Dev) (x : Infrared) : (d.setIr x).time = d.time := rfl
@[simp] theorem Dev.setIr_twb (d : Dev) (x : Infrared) : (d.setIr x).twb = d.twb := rfl
@[simp] theorem Dev.setIr_com (d : Dev) (x : Infrared) : (d.setIr x).com = d.com := rfl
@[simp] theorem Dev.setIr_con (d : Dev) (x : Infrared) : (d.setIr x).con = d.con := rfl
@[simp] theorem Dev.setIr_usb (d : Dev) (x : Infrared) : (d.setIr x).usb = d.usb := rfl
@[simp] theorem Dev.setIr_scan (d : Dev) (x : Infrared) : (d.setIr x).scan = d.scan := rfl
@[simp] theorem Dev.setIr_trk (d : Dev) (x : Infrared) : (d.setIr x).trk = d.trk := rfl
@[simp] theorem Dev.setIr_rpt (d : Dev) (x : Infrared) : (d.setIr x).rpt = d.rpt := rfl
@[simp] theorem Dev.setIr_surf (d : Dev) (x : Infrared) : (d.setIr x).surf = d.surf := rfl
@[simp] theorem Dev.setIr_link (d : Dev) (x : Infrared) : (d.setIr x).link = d.link := rfl
@[simp] theorem Dev.setIr_mem (d : Dev) (x : Infrared) : (d.setIr x).mem = d.mem := rfl
@[simp] theorem Dev.setIr_gde (d : Dev) (x : Infrared) : (d.setIr x).gde = d.gde := rfl
@[simp] theorem Dev.setIr_lamp (d : Dev) (x : Infrared) : (d.setIr x).lamp = d.lamp := rfl
@[simp] theorem Dev.setIr_rail (d : Dev) (x : Infrared) : (d.setIr x).rail = d.rail := rfl
@[simp] theorem Dev.setIr_ir (d : Dev) (x : Infrared) : (d.setIr x).ir = x := rfl
@[simp] theorem Dev.setIr_hka (d : Dev) (x : Infrared) : (d.setIr x).hka = d.hka := rfl
@[simp] theorem Dev.setIr_cal (d : Dev) (x : Infrared) : (d.setIr x).cal = d.cal := rfl
@[simp] theorem Dev.setIr_logQ (d : Dev) (x : Infrared) : (d.setIr x).logQ = d.logQ := rfl
@[simp] theorem Dev.setIr_outbox (d : Dev) (x : Infrared) : (d.setIr x).outbox = d.outbox := rfl
@[simp] theorem Dev.setIr_ticks (d : Dev) (x : Infrared) : (d.setIr x).ticks = d.ticks := rfl
@[simp] theorem Dev.setIr_free (d : Dev) (x : Infrared) : (d.setIr x).free = d.free := rfl

@[simp] theorem Dev.setCom_regs (d : Dev) (x : Commit) : (d.setCom x).regs = d.regs := rfl
@[simp] theorem Dev.setCom_banks (d : Dev) (x : Commit) : (d.setCom x).banks = d.banks := rfl
@[simp] theorem Dev.setCom_nvm (d : Dev) (x : Commit) : (d.setCom x).nvm = d.nvm := rfl
@[simp] theorem Dev.setCom_cfg (d : Dev) (x : Commit) : (d.setCom x).cfg = d.cfg := rfl
@[simp] theorem Dev.setCom_cfgLen (d : Dev) (x : Commit) : (d.setCom x).cfgLen = d.cfgLen := rfl
@[simp] theorem Dev.setCom_img (d : Dev) (x : Commit) : (d.setCom x).img = d.img := rfl
@[simp] theorem Dev.setCom_fuses (d : Dev) (x : Commit) : (d.setCom x).fuses = d.fuses := rfl
@[simp] theorem Dev.setCom_pwr (d : Dev) (x : Commit) : (d.setCom x).pwr = d.pwr := rfl
@[simp] theorem Dev.setCom_boot (d : Dev) (x : Commit) : (d.setCom x).boot = d.boot := rfl
@[simp] theorem Dev.setCom_modes (d : Dev) (x : Commit) : (d.setCom x).modes = d.modes := rfl
@[simp] theorem Dev.setCom_evr (d : Dev) (x : Commit) : (d.setCom x).evr = d.evr := rfl
@[simp] theorem Dev.setCom_time (d : Dev) (x : Commit) : (d.setCom x).time = d.time := rfl
@[simp] theorem Dev.setCom_twb (d : Dev) (x : Commit) : (d.setCom x).twb = d.twb := rfl
@[simp] theorem Dev.setCom_com (d : Dev) (x : Commit) : (d.setCom x).com = x := rfl
@[simp] theorem Dev.setCom_con (d : Dev) (x : Commit) : (d.setCom x).con = d.con := rfl
@[simp] theorem Dev.setCom_usb (d : Dev) (x : Commit) : (d.setCom x).usb = d.usb := rfl
@[simp] theorem Dev.setCom_scan (d : Dev) (x : Commit) : (d.setCom x).scan = d.scan := rfl
@[simp] theorem Dev.setCom_trk (d : Dev) (x : Commit) : (d.setCom x).trk = d.trk := rfl
@[simp] theorem Dev.setCom_rpt (d : Dev) (x : Commit) : (d.setCom x).rpt = d.rpt := rfl
@[simp] theorem Dev.setCom_surf (d : Dev) (x : Commit) : (d.setCom x).surf = d.surf := rfl
@[simp] theorem Dev.setCom_link (d : Dev) (x : Commit) : (d.setCom x).link = d.link := rfl
@[simp] theorem Dev.setCom_mem (d : Dev) (x : Commit) : (d.setCom x).mem = d.mem := rfl
@[simp] theorem Dev.setCom_gde (d : Dev) (x : Commit) : (d.setCom x).gde = d.gde := rfl
@[simp] theorem Dev.setCom_lamp (d : Dev) (x : Commit) : (d.setCom x).lamp = d.lamp := rfl
@[simp] theorem Dev.setCom_rail (d : Dev) (x : Commit) : (d.setCom x).rail = d.rail := rfl
@[simp] theorem Dev.setCom_ir (d : Dev) (x : Commit) : (d.setCom x).ir = d.ir := rfl
@[simp] theorem Dev.setCom_hka (d : Dev) (x : Commit) : (d.setCom x).hka = d.hka := rfl
@[simp] theorem Dev.setCom_cal (d : Dev) (x : Commit) : (d.setCom x).cal = d.cal := rfl
@[simp] theorem Dev.setCom_logQ (d : Dev) (x : Commit) : (d.setCom x).logQ = d.logQ := rfl
@[simp] theorem Dev.setCom_outbox (d : Dev) (x : Commit) : (d.setCom x).outbox = d.outbox := rfl
@[simp] theorem Dev.setCom_ticks (d : Dev) (x : Commit) : (d.setCom x).ticks = d.ticks := rfl
@[simp] theorem Dev.setCom_free (d : Dev) (x : Commit) : (d.setCom x).free = d.free := rfl

@[simp] theorem Dev.setLink_regs (d : Dev) (x : Link) : (d.setLink x).regs = d.regs := rfl
@[simp] theorem Dev.setLink_banks (d : Dev) (x : Link) : (d.setLink x).banks = d.banks := rfl
@[simp] theorem Dev.setLink_nvm (d : Dev) (x : Link) : (d.setLink x).nvm = d.nvm := rfl
@[simp] theorem Dev.setLink_cfg (d : Dev) (x : Link) : (d.setLink x).cfg = d.cfg := rfl
@[simp] theorem Dev.setLink_cfgLen (d : Dev) (x : Link) : (d.setLink x).cfgLen = d.cfgLen := rfl
@[simp] theorem Dev.setLink_img (d : Dev) (x : Link) : (d.setLink x).img = d.img := rfl
@[simp] theorem Dev.setLink_fuses (d : Dev) (x : Link) : (d.setLink x).fuses = d.fuses := rfl
@[simp] theorem Dev.setLink_pwr (d : Dev) (x : Link) : (d.setLink x).pwr = d.pwr := rfl
@[simp] theorem Dev.setLink_boot (d : Dev) (x : Link) : (d.setLink x).boot = d.boot := rfl
@[simp] theorem Dev.setLink_modes (d : Dev) (x : Link) : (d.setLink x).modes = d.modes := rfl
@[simp] theorem Dev.setLink_evr (d : Dev) (x : Link) : (d.setLink x).evr = d.evr := rfl
@[simp] theorem Dev.setLink_time (d : Dev) (x : Link) : (d.setLink x).time = d.time := rfl
@[simp] theorem Dev.setLink_twb (d : Dev) (x : Link) : (d.setLink x).twb = d.twb := rfl
@[simp] theorem Dev.setLink_com (d : Dev) (x : Link) : (d.setLink x).com = d.com := rfl
@[simp] theorem Dev.setLink_con (d : Dev) (x : Link) : (d.setLink x).con = d.con := rfl
@[simp] theorem Dev.setLink_usb (d : Dev) (x : Link) : (d.setLink x).usb = d.usb := rfl
@[simp] theorem Dev.setLink_scan (d : Dev) (x : Link) : (d.setLink x).scan = d.scan := rfl
@[simp] theorem Dev.setLink_trk (d : Dev) (x : Link) : (d.setLink x).trk = d.trk := rfl
@[simp] theorem Dev.setLink_rpt (d : Dev) (x : Link) : (d.setLink x).rpt = d.rpt := rfl
@[simp] theorem Dev.setLink_surf (d : Dev) (x : Link) : (d.setLink x).surf = d.surf := rfl
@[simp] theorem Dev.setLink_link (d : Dev) (x : Link) : (d.setLink x).link = x := rfl
@[simp] theorem Dev.setLink_mem (d : Dev) (x : Link) : (d.setLink x).mem = d.mem := rfl
@[simp] theorem Dev.setLink_gde (d : Dev) (x : Link) : (d.setLink x).gde = d.gde := rfl
@[simp] theorem Dev.setLink_lamp (d : Dev) (x : Link) : (d.setLink x).lamp = d.lamp := rfl
@[simp] theorem Dev.setLink_rail (d : Dev) (x : Link) : (d.setLink x).rail = d.rail := rfl
@[simp] theorem Dev.setLink_ir (d : Dev) (x : Link) : (d.setLink x).ir = d.ir := rfl
@[simp] theorem Dev.setLink_hka (d : Dev) (x : Link) : (d.setLink x).hka = d.hka := rfl
@[simp] theorem Dev.setLink_cal (d : Dev) (x : Link) : (d.setLink x).cal = d.cal := rfl
@[simp] theorem Dev.setLink_logQ (d : Dev) (x : Link) : (d.setLink x).logQ = d.logQ := rfl
@[simp] theorem Dev.setLink_outbox (d : Dev) (x : Link) : (d.setLink x).outbox = d.outbox := rfl
@[simp] theorem Dev.setLink_ticks (d : Dev) (x : Link) : (d.setLink x).ticks = d.ticks := rfl
@[simp] theorem Dev.setLink_free (d : Dev) (x : Link) : (d.setLink x).free = d.free := rfl

@[simp] theorem Dev.setMem_regs (d : Dev) (x : Memory) : (d.setMem x).regs = d.regs := rfl
@[simp] theorem Dev.setMem_banks (d : Dev) (x : Memory) : (d.setMem x).banks = d.banks := rfl
@[simp] theorem Dev.setMem_nvm (d : Dev) (x : Memory) : (d.setMem x).nvm = d.nvm := rfl
@[simp] theorem Dev.setMem_cfg (d : Dev) (x : Memory) : (d.setMem x).cfg = d.cfg := rfl
@[simp] theorem Dev.setMem_cfgLen (d : Dev) (x : Memory) : (d.setMem x).cfgLen = d.cfgLen := rfl
@[simp] theorem Dev.setMem_img (d : Dev) (x : Memory) : (d.setMem x).img = d.img := rfl
@[simp] theorem Dev.setMem_fuses (d : Dev) (x : Memory) : (d.setMem x).fuses = d.fuses := rfl
@[simp] theorem Dev.setMem_pwr (d : Dev) (x : Memory) : (d.setMem x).pwr = d.pwr := rfl
@[simp] theorem Dev.setMem_boot (d : Dev) (x : Memory) : (d.setMem x).boot = d.boot := rfl
@[simp] theorem Dev.setMem_modes (d : Dev) (x : Memory) : (d.setMem x).modes = d.modes := rfl
@[simp] theorem Dev.setMem_evr (d : Dev) (x : Memory) : (d.setMem x).evr = d.evr := rfl
@[simp] theorem Dev.setMem_time (d : Dev) (x : Memory) : (d.setMem x).time = d.time := rfl
@[simp] theorem Dev.setMem_twb (d : Dev) (x : Memory) : (d.setMem x).twb = d.twb := rfl
@[simp] theorem Dev.setMem_com (d : Dev) (x : Memory) : (d.setMem x).com = d.com := rfl
@[simp] theorem Dev.setMem_con (d : Dev) (x : Memory) : (d.setMem x).con = d.con := rfl
@[simp] theorem Dev.setMem_usb (d : Dev) (x : Memory) : (d.setMem x).usb = d.usb := rfl
@[simp] theorem Dev.setMem_scan (d : Dev) (x : Memory) : (d.setMem x).scan = d.scan := rfl
@[simp] theorem Dev.setMem_trk (d : Dev) (x : Memory) : (d.setMem x).trk = d.trk := rfl
@[simp] theorem Dev.setMem_rpt (d : Dev) (x : Memory) : (d.setMem x).rpt = d.rpt := rfl
@[simp] theorem Dev.setMem_surf (d : Dev) (x : Memory) : (d.setMem x).surf = d.surf := rfl
@[simp] theorem Dev.setMem_link (d : Dev) (x : Memory) : (d.setMem x).link = d.link := rfl
@[simp] theorem Dev.setMem_mem (d : Dev) (x : Memory) : (d.setMem x).mem = x := rfl
@[simp] theorem Dev.setMem_gde (d : Dev) (x : Memory) : (d.setMem x).gde = d.gde := rfl
@[simp] theorem Dev.setMem_lamp (d : Dev) (x : Memory) : (d.setMem x).lamp = d.lamp := rfl
@[simp] theorem Dev.setMem_rail (d : Dev) (x : Memory) : (d.setMem x).rail = d.rail := rfl
@[simp] theorem Dev.setMem_ir (d : Dev) (x : Memory) : (d.setMem x).ir = d.ir := rfl
@[simp] theorem Dev.setMem_hka (d : Dev) (x : Memory) : (d.setMem x).hka = d.hka := rfl
@[simp] theorem Dev.setMem_cal (d : Dev) (x : Memory) : (d.setMem x).cal = d.cal := rfl
@[simp] theorem Dev.setMem_logQ (d : Dev) (x : Memory) : (d.setMem x).logQ = d.logQ := rfl
@[simp] theorem Dev.setMem_outbox (d : Dev) (x : Memory) : (d.setMem x).outbox = d.outbox := rfl
@[simp] theorem Dev.setMem_ticks (d : Dev) (x : Memory) : (d.setMem x).ticks = d.ticks := rfl
@[simp] theorem Dev.setMem_free (d : Dev) (x : Memory) : (d.setMem x).free = d.free := rfl

@[simp] theorem Dev.setModes_regs (d : Dev) (x : Modes) : (d.setModes x).regs = d.regs := rfl
@[simp] theorem Dev.setModes_banks (d : Dev) (x : Modes) : (d.setModes x).banks = d.banks := rfl
@[simp] theorem Dev.setModes_nvm (d : Dev) (x : Modes) : (d.setModes x).nvm = d.nvm := rfl
@[simp] theorem Dev.setModes_cfg (d : Dev) (x : Modes) : (d.setModes x).cfg = d.cfg := rfl
@[simp] theorem Dev.setModes_cfgLen (d : Dev) (x : Modes) : (d.setModes x).cfgLen = d.cfgLen := rfl
@[simp] theorem Dev.setModes_img (d : Dev) (x : Modes) : (d.setModes x).img = d.img := rfl
@[simp] theorem Dev.setModes_fuses (d : Dev) (x : Modes) : (d.setModes x).fuses = d.fuses := rfl
@[simp] theorem Dev.setModes_pwr (d : Dev) (x : Modes) : (d.setModes x).pwr = d.pwr := rfl
@[simp] theorem Dev.setModes_boot (d : Dev) (x : Modes) : (d.setModes x).boot = d.boot := rfl
@[simp] theorem Dev.setModes_modes (d : Dev) (x : Modes) : (d.setModes x).modes = x := rfl
@[simp] theorem Dev.setModes_evr (d : Dev) (x : Modes) : (d.setModes x).evr = d.evr := rfl
@[simp] theorem Dev.setModes_time (d : Dev) (x : Modes) : (d.setModes x).time = d.time := rfl
@[simp] theorem Dev.setModes_twb (d : Dev) (x : Modes) : (d.setModes x).twb = d.twb := rfl
@[simp] theorem Dev.setModes_com (d : Dev) (x : Modes) : (d.setModes x).com = d.com := rfl
@[simp] theorem Dev.setModes_con (d : Dev) (x : Modes) : (d.setModes x).con = d.con := rfl
@[simp] theorem Dev.setModes_usb (d : Dev) (x : Modes) : (d.setModes x).usb = d.usb := rfl
@[simp] theorem Dev.setModes_scan (d : Dev) (x : Modes) : (d.setModes x).scan = d.scan := rfl
@[simp] theorem Dev.setModes_trk (d : Dev) (x : Modes) : (d.setModes x).trk = d.trk := rfl
@[simp] theorem Dev.setModes_rpt (d : Dev) (x : Modes) : (d.setModes x).rpt = d.rpt := rfl
@[simp] theorem Dev.setModes_surf (d : Dev) (x : Modes) : (d.setModes x).surf = d.surf := rfl
@[simp] theorem Dev.setModes_link (d : Dev) (x : Modes) : (d.setModes x).link = d.link := rfl
@[simp] theorem Dev.setModes_mem (d : Dev) (x : Modes) : (d.setModes x).mem = d.mem := rfl
@[simp] theorem Dev.setModes_gde (d : Dev) (x : Modes) : (d.setModes x).gde = d.gde := rfl
@[simp] theorem Dev.setModes_lamp (d : Dev) (x : Modes) : (d.setModes x).lamp = d.lamp := rfl
@[simp] theorem Dev.setModes_rail (d : Dev) (x : Modes) : (d.setModes x).rail = d.rail := rfl
@[simp] theorem Dev.setModes_ir (d : Dev) (x : Modes) : (d.setModes x).ir = d.ir := rfl
@[simp] theorem Dev.setModes_hka (d : Dev) (x : Modes) : (d.setModes x).hka = d.hka := rfl
@[simp] theorem Dev.setModes_cal (d : Dev) (x : Modes) : (d.setModes x).cal = d.cal := rfl
@[simp] theorem Dev.setModes_logQ (d : Dev) (x : Modes) : (d.setModes x).logQ = d.logQ := rfl
@[simp] theorem Dev.setModes_outbox (d : Dev) (x : Modes) : (d.setModes x).outbox = d.outbox := rfl
@[simp] theorem Dev.setModes_ticks (d : Dev) (x : Modes) : (d.setModes x).ticks = d.ticks := rfl
@[simp] theorem Dev.setModes_free (d : Dev) (x : Modes) : (d.setModes x).free = d.free := rfl

@[simp] theorem Dev.setTwb_regs (d : Dev) (x : TwoWire) : (d.setTwb x).regs = d.regs := rfl
@[simp] theorem Dev.setTwb_banks (d : Dev) (x : TwoWire) : (d.setTwb x).banks = d.banks := rfl
@[simp] theorem Dev.setTwb_nvm (d : Dev) (x : TwoWire) : (d.setTwb x).nvm = d.nvm := rfl
@[simp] theorem Dev.setTwb_cfg (d : Dev) (x : TwoWire) : (d.setTwb x).cfg = d.cfg := rfl
@[simp] theorem Dev.setTwb_cfgLen (d : Dev) (x : TwoWire) : (d.setTwb x).cfgLen = d.cfgLen := rfl
@[simp] theorem Dev.setTwb_img (d : Dev) (x : TwoWire) : (d.setTwb x).img = d.img := rfl
@[simp] theorem Dev.setTwb_fuses (d : Dev) (x : TwoWire) : (d.setTwb x).fuses = d.fuses := rfl
@[simp] theorem Dev.setTwb_pwr (d : Dev) (x : TwoWire) : (d.setTwb x).pwr = d.pwr := rfl
@[simp] theorem Dev.setTwb_boot (d : Dev) (x : TwoWire) : (d.setTwb x).boot = d.boot := rfl
@[simp] theorem Dev.setTwb_modes (d : Dev) (x : TwoWire) : (d.setTwb x).modes = d.modes := rfl
@[simp] theorem Dev.setTwb_evr (d : Dev) (x : TwoWire) : (d.setTwb x).evr = d.evr := rfl
@[simp] theorem Dev.setTwb_time (d : Dev) (x : TwoWire) : (d.setTwb x).time = d.time := rfl
@[simp] theorem Dev.setTwb_twb (d : Dev) (x : TwoWire) : (d.setTwb x).twb = x := rfl
@[simp] theorem Dev.setTwb_com (d : Dev) (x : TwoWire) : (d.setTwb x).com = d.com := rfl
@[simp] theorem Dev.setTwb_con (d : Dev) (x : TwoWire) : (d.setTwb x).con = d.con := rfl
@[simp] theorem Dev.setTwb_usb (d : Dev) (x : TwoWire) : (d.setTwb x).usb = d.usb := rfl
@[simp] theorem Dev.setTwb_scan (d : Dev) (x : TwoWire) : (d.setTwb x).scan = d.scan := rfl
@[simp] theorem Dev.setTwb_trk (d : Dev) (x : TwoWire) : (d.setTwb x).trk = d.trk := rfl
@[simp] theorem Dev.setTwb_rpt (d : Dev) (x : TwoWire) : (d.setTwb x).rpt = d.rpt := rfl
@[simp] theorem Dev.setTwb_surf (d : Dev) (x : TwoWire) : (d.setTwb x).surf = d.surf := rfl
@[simp] theorem Dev.setTwb_link (d : Dev) (x : TwoWire) : (d.setTwb x).link = d.link := rfl
@[simp] theorem Dev.setTwb_mem (d : Dev) (x : TwoWire) : (d.setTwb x).mem = d.mem := rfl
@[simp] theorem Dev.setTwb_gde (d : Dev) (x : TwoWire) : (d.setTwb x).gde = d.gde := rfl
@[simp] theorem Dev.setTwb_lamp (d : Dev) (x : TwoWire) : (d.setTwb x).lamp = d.lamp := rfl
@[simp] theorem Dev.setTwb_rail (d : Dev) (x : TwoWire) : (d.setTwb x).rail = d.rail := rfl
@[simp] theorem Dev.setTwb_ir (d : Dev) (x : TwoWire) : (d.setTwb x).ir = d.ir := rfl
@[simp] theorem Dev.setTwb_hka (d : Dev) (x : TwoWire) : (d.setTwb x).hka = d.hka := rfl
@[simp] theorem Dev.setTwb_cal (d : Dev) (x : TwoWire) : (d.setTwb x).cal = d.cal := rfl
@[simp] theorem Dev.setTwb_logQ (d : Dev) (x : TwoWire) : (d.setTwb x).logQ = d.logQ := rfl
@[simp] theorem Dev.setTwb_outbox (d : Dev) (x : TwoWire) : (d.setTwb x).outbox = d.outbox := rfl
@[simp] theorem Dev.setTwb_ticks (d : Dev) (x : TwoWire) : (d.setTwb x).ticks = d.ticks := rfl
@[simp] theorem Dev.setTwb_free (d : Dev) (x : TwoWire) : (d.setTwb x).free = d.free := rfl

@[simp] theorem Dev.setCon_regs (d : Dev) (x : Console) : (d.setCon x).regs = d.regs := rfl
@[simp] theorem Dev.setCon_banks (d : Dev) (x : Console) : (d.setCon x).banks = d.banks := rfl
@[simp] theorem Dev.setCon_nvm (d : Dev) (x : Console) : (d.setCon x).nvm = d.nvm := rfl
@[simp] theorem Dev.setCon_cfg (d : Dev) (x : Console) : (d.setCon x).cfg = d.cfg := rfl
@[simp] theorem Dev.setCon_cfgLen (d : Dev) (x : Console) : (d.setCon x).cfgLen = d.cfgLen := rfl
@[simp] theorem Dev.setCon_img (d : Dev) (x : Console) : (d.setCon x).img = d.img := rfl
@[simp] theorem Dev.setCon_fuses (d : Dev) (x : Console) : (d.setCon x).fuses = d.fuses := rfl
@[simp] theorem Dev.setCon_pwr (d : Dev) (x : Console) : (d.setCon x).pwr = d.pwr := rfl
@[simp] theorem Dev.setCon_boot (d : Dev) (x : Console) : (d.setCon x).boot = d.boot := rfl
@[simp] theorem Dev.setCon_modes (d : Dev) (x : Console) : (d.setCon x).modes = d.modes := rfl
@[simp] theorem Dev.setCon_evr (d : Dev) (x : Console) : (d.setCon x).evr = d.evr := rfl
@[simp] theorem Dev.setCon_time (d : Dev) (x : Console) : (d.setCon x).time = d.time := rfl
@[simp] theorem Dev.setCon_twb (d : Dev) (x : Console) : (d.setCon x).twb = d.twb := rfl
@[simp] theorem Dev.setCon_com (d : Dev) (x : Console) : (d.setCon x).com = d.com := rfl
@[simp] theorem Dev.setCon_con (d : Dev) (x : Console) : (d.setCon x).con = x := rfl
@[simp] theorem Dev.setCon_usb (d : Dev) (x : Console) : (d.setCon x).usb = d.usb := rfl
@[simp] theorem Dev.setCon_scan (d : Dev) (x : Console) : (d.setCon x).scan = d.scan := rfl
@[simp] theorem Dev.setCon_trk (d : Dev) (x : Console) : (d.setCon x).trk = d.trk := rfl
@[simp] theorem Dev.setCon_rpt (d : Dev) (x : Console) : (d.setCon x).rpt = d.rpt := rfl
@[simp] theorem Dev.setCon_surf (d : Dev) (x : Console) : (d.setCon x).surf = d.surf := rfl
@[simp] theorem Dev.setCon_link (d : Dev) (x : Console) : (d.setCon x).link = d.link := rfl
@[simp] theorem Dev.setCon_mem (d : Dev) (x : Console) : (d.setCon x).mem = d.mem := rfl
@[simp] theorem Dev.setCon_gde (d : Dev) (x : Console) : (d.setCon x).gde = d.gde := rfl
@[simp] theorem Dev.setCon_lamp (d : Dev) (x : Console) : (d.setCon x).lamp = d.lamp := rfl
@[simp] theorem Dev.setCon_rail (d : Dev) (x : Console) : (d.setCon x).rail = d.rail := rfl
@[simp] theorem Dev.setCon_ir (d : Dev) (x : Console) : (d.setCon x).ir = d.ir := rfl
@[simp] theorem Dev.setCon_hka (d : Dev) (x : Console) : (d.setCon x).hka = d.hka := rfl
@[simp] theorem Dev.setCon_cal (d : Dev) (x : Console) : (d.setCon x).cal = d.cal := rfl
@[simp] theorem Dev.setCon_logQ (d : Dev) (x : Console) : (d.setCon x).logQ = d.logQ := rfl
@[simp] theorem Dev.setCon_outbox (d : Dev) (x : Console) : (d.setCon x).outbox = d.outbox := rfl
@[simp] theorem Dev.setCon_ticks (d : Dev) (x : Console) : (d.setCon x).ticks = d.ticks := rfl
@[simp] theorem Dev.setCon_free (d : Dev) (x : Console) : (d.setCon x).free = d.free := rfl

@[simp] theorem Dev.setPwr_regs (d : Dev) (x : Power) : (d.setPwr x).regs = d.regs := rfl
@[simp] theorem Dev.setPwr_banks (d : Dev) (x : Power) : (d.setPwr x).banks = d.banks := rfl
@[simp] theorem Dev.setPwr_nvm (d : Dev) (x : Power) : (d.setPwr x).nvm = d.nvm := rfl
@[simp] theorem Dev.setPwr_cfg (d : Dev) (x : Power) : (d.setPwr x).cfg = d.cfg := rfl
@[simp] theorem Dev.setPwr_cfgLen (d : Dev) (x : Power) : (d.setPwr x).cfgLen = d.cfgLen := rfl
@[simp] theorem Dev.setPwr_img (d : Dev) (x : Power) : (d.setPwr x).img = d.img := rfl
@[simp] theorem Dev.setPwr_fuses (d : Dev) (x : Power) : (d.setPwr x).fuses = d.fuses := rfl
@[simp] theorem Dev.setPwr_pwr (d : Dev) (x : Power) : (d.setPwr x).pwr = x := rfl
@[simp] theorem Dev.setPwr_boot (d : Dev) (x : Power) : (d.setPwr x).boot = d.boot := rfl
@[simp] theorem Dev.setPwr_modes (d : Dev) (x : Power) : (d.setPwr x).modes = d.modes := rfl
@[simp] theorem Dev.setPwr_evr (d : Dev) (x : Power) : (d.setPwr x).evr = d.evr := rfl
@[simp] theorem Dev.setPwr_time (d : Dev) (x : Power) : (d.setPwr x).time = d.time := rfl
@[simp] theorem Dev.setPwr_twb (d : Dev) (x : Power) : (d.setPwr x).twb = d.twb := rfl
@[simp] theorem Dev.setPwr_com (d : Dev) (x : Power) : (d.setPwr x).com = d.com := rfl
@[simp] theorem Dev.setPwr_con (d : Dev) (x : Power) : (d.setPwr x).con = d.con := rfl
@[simp] theorem Dev.setPwr_usb (d : Dev) (x : Power) : (d.setPwr x).usb = d.usb := rfl
@[simp] theorem Dev.setPwr_scan (d : Dev) (x : Power) : (d.setPwr x).scan = d.scan := rfl
@[simp] theorem Dev.setPwr_trk (d : Dev) (x : Power) : (d.setPwr x).trk = d.trk := rfl
@[simp] theorem Dev.setPwr_rpt (d : Dev) (x : Power) : (d.setPwr x).rpt = d.rpt := rfl
@[simp] theorem Dev.setPwr_surf (d : Dev) (x : Power) : (d.setPwr x).surf = d.surf := rfl
@[simp] theorem Dev.setPwr_link (d : Dev) (x : Power) : (d.setPwr x).link = d.link := rfl
@[simp] theorem Dev.setPwr_mem (d : Dev) (x : Power) : (d.setPwr x).mem = d.mem := rfl
@[simp] theorem Dev.setPwr_gde (d : Dev) (x : Power) : (d.setPwr x).gde = d.gde := rfl
@[simp] theorem Dev.setPwr_lamp (d : Dev) (x : Power) : (d.setPwr x).lamp = d.lamp := rfl
@[simp] theorem Dev.setPwr_rail (d : Dev) (x : Power) : (d.setPwr x).rail = d.rail := rfl
@[simp] theorem Dev.setPwr_ir (d : Dev) (x : Power) : (d.setPwr x).ir = d.ir := rfl
@[simp] theorem Dev.setPwr_hka (d : Dev) (x : Power) : (d.setPwr x).hka = d.hka := rfl
@[simp] theorem Dev.setPwr_cal (d : Dev) (x : Power) : (d.setPwr x).cal = d.cal := rfl
@[simp] theorem Dev.setPwr_logQ (d : Dev) (x : Power) : (d.setPwr x).logQ = d.logQ := rfl
@[simp] theorem Dev.setPwr_outbox (d : Dev) (x : Power) : (d.setPwr x).outbox = d.outbox := rfl
@[simp] theorem Dev.setPwr_ticks (d : Dev) (x : Power) : (d.setPwr x).ticks = d.ticks := rfl
@[simp] theorem Dev.setPwr_free (d : Dev) (x : Power) : (d.setPwr x).free = d.free := rfl

@[simp] theorem Dev.setBoot_regs (d : Dev) (x : Boot) : (d.setBoot x).regs = d.regs := rfl
@[simp] theorem Dev.setBoot_banks (d : Dev) (x : Boot) : (d.setBoot x).banks = d.banks := rfl
@[simp] theorem Dev.setBoot_nvm (d : Dev) (x : Boot) : (d.setBoot x).nvm = d.nvm := rfl
@[simp] theorem Dev.setBoot_cfg (d : Dev) (x : Boot) : (d.setBoot x).cfg = d.cfg := rfl
@[simp] theorem Dev.setBoot_cfgLen (d : Dev) (x : Boot) : (d.setBoot x).cfgLen = d.cfgLen := rfl
@[simp] theorem Dev.setBoot_img (d : Dev) (x : Boot) : (d.setBoot x).img = d.img := rfl
@[simp] theorem Dev.setBoot_fuses (d : Dev) (x : Boot) : (d.setBoot x).fuses = d.fuses := rfl
@[simp] theorem Dev.setBoot_pwr (d : Dev) (x : Boot) : (d.setBoot x).pwr = d.pwr := rfl
@[simp] theorem Dev.setBoot_boot (d : Dev) (x : Boot) : (d.setBoot x).boot = x := rfl
@[simp] theorem Dev.setBoot_modes (d : Dev) (x : Boot) : (d.setBoot x).modes = d.modes := rfl
@[simp] theorem Dev.setBoot_evr (d : Dev) (x : Boot) : (d.setBoot x).evr = d.evr := rfl
@[simp] theorem Dev.setBoot_time (d : Dev) (x : Boot) : (d.setBoot x).time = d.time := rfl
@[simp] theorem Dev.setBoot_twb (d : Dev) (x : Boot) : (d.setBoot x).twb = d.twb := rfl
@[simp] theorem Dev.setBoot_com (d : Dev) (x : Boot) : (d.setBoot x).com = d.com := rfl
@[simp] theorem Dev.setBoot_con (d : Dev) (x : Boot) : (d.setBoot x).con = d.con := rfl
@[simp] theorem Dev.setBoot_usb (d : Dev) (x : Boot) : (d.setBoot x).usb = d.usb := rfl
@[simp] theorem Dev.setBoot_scan (d : Dev) (x : Boot) : (d.setBoot x).scan = d.scan := rfl
@[simp] theorem Dev.setBoot_trk (d : Dev) (x : Boot) : (d.setBoot x).trk = d.trk := rfl
@[simp] theorem Dev.setBoot_rpt (d : Dev) (x : Boot) : (d.setBoot x).rpt = d.rpt := rfl
@[simp] theorem Dev.setBoot_surf (d : Dev) (x : Boot) : (d.setBoot x).surf = d.surf := rfl
@[simp] theorem Dev.setBoot_link (d : Dev) (x : Boot) : (d.setBoot x).link = d.link := rfl
@[simp] theorem Dev.setBoot_mem (d : Dev) (x : Boot) : (d.setBoot x).mem = d.mem := rfl
@[simp] theorem Dev.setBoot_gde (d : Dev) (x : Boot) : (d.setBoot x).gde = d.gde := rfl
@[simp] theorem Dev.setBoot_lamp (d : Dev) (x : Boot) : (d.setBoot x).lamp = d.lamp := rfl
@[simp] theorem Dev.setBoot_rail (d : Dev) (x : Boot) : (d.setBoot x).rail = d.rail := rfl
@[simp] theorem Dev.setBoot_ir (d : Dev) (x : Boot) : (d.setBoot x).ir = d.ir := rfl
@[simp] theorem Dev.setBoot_hka (d : Dev) (x : Boot) : (d.setBoot x).hka = d.hka := rfl
@[simp] theorem Dev.setBoot_cal (d : Dev) (x : Boot) : (d.setBoot x).cal = d.cal := rfl
@[simp] theorem Dev.setBoot_logQ (d : Dev) (x : Boot) : (d.setBoot x).logQ = d.logQ := rfl
@[simp] theorem Dev.setBoot_outbox (d : Dev) (x : Boot) : (d.setBoot x).outbox = d.outbox := rfl
@[simp] theorem Dev.setBoot_ticks (d : Dev) (x : Boot) : (d.setBoot x).ticks = d.ticks := rfl
@[simp] theorem Dev.setBoot_free (d : Dev) (x : Boot) : (d.setBoot x).free = d.free := rfl

@[simp] theorem Dev.setRail_regs (d : Dev) (x : Rails) : (d.setRail x).regs = d.regs := rfl
@[simp] theorem Dev.setRail_banks (d : Dev) (x : Rails) : (d.setRail x).banks = d.banks := rfl
@[simp] theorem Dev.setRail_nvm (d : Dev) (x : Rails) : (d.setRail x).nvm = d.nvm := rfl
@[simp] theorem Dev.setRail_cfg (d : Dev) (x : Rails) : (d.setRail x).cfg = d.cfg := rfl
@[simp] theorem Dev.setRail_cfgLen (d : Dev) (x : Rails) : (d.setRail x).cfgLen = d.cfgLen := rfl
@[simp] theorem Dev.setRail_img (d : Dev) (x : Rails) : (d.setRail x).img = d.img := rfl
@[simp] theorem Dev.setRail_fuses (d : Dev) (x : Rails) : (d.setRail x).fuses = d.fuses := rfl
@[simp] theorem Dev.setRail_pwr (d : Dev) (x : Rails) : (d.setRail x).pwr = d.pwr := rfl
@[simp] theorem Dev.setRail_boot (d : Dev) (x : Rails) : (d.setRail x).boot = d.boot := rfl
@[simp] theorem Dev.setRail_modes (d : Dev) (x : Rails) : (d.setRail x).modes = d.modes := rfl
@[simp] theorem Dev.setRail_evr (d : Dev) (x : Rails) : (d.setRail x).evr = d.evr := rfl
@[simp] theorem Dev.setRail_time (d : Dev) (x : Rails) : (d.setRail x).time = d.time := rfl
@[simp] theorem Dev.setRail_twb (d : Dev) (x : Rails) : (d.setRail x).twb = d.twb := rfl
@[simp] theorem Dev.setRail_com (d : Dev) (x : Rails) : (d.setRail x).com = d.com := rfl
@[simp] theorem Dev.setRail_con (d : Dev) (x : Rails) : (d.setRail x).con = d.con := rfl
@[simp] theorem Dev.setRail_usb (d : Dev) (x : Rails) : (d.setRail x).usb = d.usb := rfl
@[simp] theorem Dev.setRail_scan (d : Dev) (x : Rails) : (d.setRail x).scan = d.scan := rfl
@[simp] theorem Dev.setRail_trk (d : Dev) (x : Rails) : (d.setRail x).trk = d.trk := rfl
@[simp] theorem Dev.setRail_rpt (d : Dev) (x : Rails) : (d.setRail x).rpt = d.rpt := rfl
@[simp] theorem Dev.setRail_surf (d : Dev) (x : Rails) : (d.setRail x).surf = d.surf := rfl
@[simp] theorem Dev.setRail_link (d : Dev) (x : Rails) : (d.setRail x).link = d.link := rfl
@[simp] theorem Dev.setRail_mem (d : Dev) (x : Rails) : (d.setRail x).mem = d.mem := rfl
@[simp] theorem Dev.setRail_gde (d : Dev) (x : Rails) : (d.setRail x).gde = d.gde := rfl
@[simp] theorem Dev.setRail_lamp (d : Dev) (x : Rails) : (d.setRail x).lamp = d.lamp := rfl
@[simp] theorem Dev.setRail_rail (d : Dev) (x : Rails) : (d.setRail x).rail = x := rfl
@[simp] theorem Dev.setRail_ir (d : Dev) (x : Rails) : (d.setRail x).ir = d.ir := rfl
@[simp] theorem Dev.setRail_hka (d : Dev) (x : Rails) : (d.setRail x).hka = d.hka := rfl
@[simp] theorem Dev.setRail_cal (d : Dev) (x : Rails) : (d.setRail x).cal = d.cal := rfl
@[simp] theorem Dev.setRail_logQ (d : Dev) (x : Rails) : (d.setRail x).logQ = d.logQ := rfl
@[simp] theorem Dev.setRail_outbox (d : Dev) (x : Rails) : (d.setRail x).outbox = d.outbox := rfl
@[simp] theorem Dev.setRail_ticks (d : Dev) (x : Rails) : (d.setRail x).ticks = d.ticks := rfl
@[simp] theorem Dev.setRail_free (d : Dev) (x : Rails) : (d.setRail x).free = d.free := rfl

@[simp] theorem Dev.setRpt_regs (d : Dev) (x : Reports) : (d.setRpt x).regs = d.regs := rfl
@[simp] theorem Dev.setRpt_banks (d : Dev) (x : Reports) : (d.setRpt x).banks = d.banks := rfl
@[simp] theorem Dev.setRpt_nvm (d : Dev) (x : Reports) : (d.setRpt x).nvm = d.nvm := rfl
@[simp] theorem Dev.setRpt_cfg (d : Dev) (x : Reports) : (d.setRpt x).cfg = d.cfg := rfl
@[simp] theorem Dev.setRpt_cfgLen (d : Dev) (x : Reports) : (d.setRpt x).cfgLen = d.cfgLen := rfl
@[simp] theorem Dev.setRpt_img (d : Dev) (x : Reports) : (d.setRpt x).img = d.img := rfl
@[simp] theorem Dev.setRpt_fuses (d : Dev) (x : Reports) : (d.setRpt x).fuses = d.fuses := rfl
@[simp] theorem Dev.setRpt_pwr (d : Dev) (x : Reports) : (d.setRpt x).pwr = d.pwr := rfl
@[simp] theorem Dev.setRpt_boot (d : Dev) (x : Reports) : (d.setRpt x).boot = d.boot := rfl
@[simp] theorem Dev.setRpt_modes (d : Dev) (x : Reports) : (d.setRpt x).modes = d.modes := rfl
@[simp] theorem Dev.setRpt_evr (d : Dev) (x : Reports) : (d.setRpt x).evr = d.evr := rfl
@[simp] theorem Dev.setRpt_time (d : Dev) (x : Reports) : (d.setRpt x).time = d.time := rfl
@[simp] theorem Dev.setRpt_twb (d : Dev) (x : Reports) : (d.setRpt x).twb = d.twb := rfl
@[simp] theorem Dev.setRpt_com (d : Dev) (x : Reports) : (d.setRpt x).com = d.com := rfl
@[simp] theorem Dev.setRpt_con (d : Dev) (x : Reports) : (d.setRpt x).con = d.con := rfl
@[simp] theorem Dev.setRpt_usb (d : Dev) (x : Reports) : (d.setRpt x).usb = d.usb := rfl
@[simp] theorem Dev.setRpt_scan (d : Dev) (x : Reports) : (d.setRpt x).scan = d.scan := rfl
@[simp] theorem Dev.setRpt_trk (d : Dev) (x : Reports) : (d.setRpt x).trk = d.trk := rfl
@[simp] theorem Dev.setRpt_rpt (d : Dev) (x : Reports) : (d.setRpt x).rpt = x := rfl
@[simp] theorem Dev.setRpt_surf (d : Dev) (x : Reports) : (d.setRpt x).surf = d.surf := rfl
@[simp] theorem Dev.setRpt_link (d : Dev) (x : Reports) : (d.setRpt x).link = d.link := rfl
@[simp] theorem Dev.setRpt_mem (d : Dev) (x : Reports) : (d.setRpt x).mem = d.mem := rfl
@[simp] theorem Dev.setRpt_gde (d : Dev) (x : Reports) : (d.setRpt x).gde = d.gde := rfl
@[simp] theorem Dev.setRpt_lamp (d : Dev) (x : Reports) : (d.setRpt x).lamp = d.lamp := rfl
@[simp] theorem Dev.setRpt_rail (d : Dev) (x : Reports) : (d.setRpt x).rail = d.rail := rfl
@[simp] theorem Dev.setRpt_ir (d : Dev) (x : Reports) : (d.setRpt x).ir = d.ir := rfl
@[simp] theorem Dev.setRpt_hka (d : Dev) (x : Reports) : (d.setRpt x).hka = d.hka := rfl
@[simp] theorem Dev.setRpt_cal (d : Dev) (x : Reports) : (d.setRpt x).cal = d.cal := rfl
@[simp] theorem Dev.setRpt_logQ (d : Dev) (x : Reports) : (d.setRpt x).logQ = d.logQ := rfl
@[simp] theorem Dev.setRpt_outbox (d : Dev) (x : Reports) : (d.setRpt x).outbox = d.outbox := rfl
@[simp] theorem Dev.setRpt_ticks (d : Dev) (x : Reports) : (d.setRpt x).ticks = d.ticks := rfl
@[simp] theorem Dev.setRpt_free (d : Dev) (x : Reports) : (d.setRpt x).free = d.free := rfl

@[simp] theorem Dev.setSurf_regs (d : Dev) (x : Surface) : (d.setSurf x).regs = d.regs := rfl
@[simp] theorem Dev.setSurf_banks (d : Dev) (x : Surface) : (d.setSurf x).banks = d.banks := rfl
@[simp] theorem Dev.setSurf_nvm (d : Dev) (x : Surface) : (d.setSurf x).nvm = d.nvm := rfl
@[simp] theorem Dev.setSurf_cfg (d : Dev) (x : Surface) : (d.setSurf x).cfg = d.cfg := rfl
@[simp] theorem Dev.setSurf_cfgLen (d : Dev) (x : Surface) : (d.setSurf x).cfgLen = d.cfgLen := rfl
@[simp] theorem Dev.setSurf_img (d : Dev) (x : Surface) : (d.setSurf x).img = d.img := rfl
@[simp] theorem Dev.setSurf_fuses (d : Dev) (x : Surface) : (d.setSurf x).fuses = d.fuses := rfl
@[simp] theorem Dev.setSurf_pwr (d : Dev) (x : Surface) : (d.setSurf x).pwr = d.pwr := rfl
@[simp] theorem Dev.setSurf_boot (d : Dev) (x : Surface) : (d.setSurf x).boot = d.boot := rfl
@[simp] theorem Dev.setSurf_modes (d : Dev) (x : Surface) : (d.setSurf x).modes = d.modes := rfl
@[simp] theorem Dev.setSurf_evr (d : Dev) (x : Surface) : (d.setSurf x).evr = d.evr := rfl
@[simp] theorem Dev.setSurf_time (d : Dev) (x : Surface) : (d.setSurf x).time = d.time := rfl
@[simp] theorem Dev.setSurf_twb (d : Dev) (x : Surface) : (d.setSurf x).twb = d.twb := rfl
@[simp] theorem Dev.setSurf_com (d : Dev) (x : Surface) : (d.setSurf x).com = d.com := rfl
@[simp] theorem Dev.setSurf_con (d : Dev) (x : Surface) : (d.setSurf x).con = d.con := rfl
@[simp] theorem Dev.setSurf_usb (d : Dev) (x : Surface) : (d.setSurf x).usb = d.usb := rfl
@[simp] theorem Dev.setSurf_scan (d : Dev) (x : Surface) : (d.setSurf x).scan = d.scan := rfl
@[simp] theorem Dev.setSurf_trk (d : Dev) (x : Surface) : (d.setSurf x).trk = d.trk := rfl
@[simp] theorem Dev.setSurf_rpt (d : Dev) (x : Surface) : (d.setSurf x).rpt = d.rpt := rfl
@[simp] theorem Dev.setSurf_surf (d : Dev) (x : Surface) : (d.setSurf x).surf = x := rfl
@[simp] theorem Dev.setSurf_link (d : Dev) (x : Surface) : (d.setSurf x).link = d.link := rfl
@[simp] theorem Dev.setSurf_mem (d : Dev) (x : Surface) : (d.setSurf x).mem = d.mem := rfl
@[simp] theorem Dev.setSurf_gde (d : Dev) (x : Surface) : (d.setSurf x).gde = d.gde := rfl
@[simp] theorem Dev.setSurf_lamp (d : Dev) (x : Surface) : (d.setSurf x).lamp = d.lamp := rfl
@[simp] theorem Dev.setSurf_rail (d : Dev) (x : Surface) : (d.setSurf x).rail = d.rail := rfl
@[simp] theorem Dev.setSurf_ir (d : Dev) (x : Surface) : (d.setSurf x).ir = d.ir := rfl
@[simp] theorem Dev.setSurf_hka (d : Dev) (x : Surface) : (d.setSurf x).hka = d.hka := rfl
@[simp] theorem Dev.setSurf_cal (d : Dev) (x : Surface) : (d.setSurf x).cal = d.cal := rfl
@[simp] theorem Dev.setSurf_logQ (d : Dev) (x : Surface) : (d.setSurf x).logQ = d.logQ := rfl
@[simp] theorem Dev.setSurf_outbox (d : Dev) (x : Surface) : (d.setSurf x).outbox = d.outbox := rfl
@[simp] theorem Dev.setSurf_ticks (d : Dev) (x : Surface) : (d.setSurf x).ticks = d.ticks := rfl
@[simp] theorem Dev.setSurf_free (d : Dev) (x : Surface) : (d.setSurf x).free = d.free := rfl

@[simp] theorem Dev.setTrk_regs (d : Dev) (x : Track) : (d.setTrk x).regs = d.regs := rfl
@[simp] theorem Dev.setTrk_banks (d : Dev) (x : Track) : (d.setTrk x).banks = d.banks := rfl
@[simp] theorem Dev.setTrk_nvm (d : Dev) (x : Track) : (d.setTrk x).nvm = d.nvm := rfl
@[simp] theorem Dev.setTrk_cfg (d : Dev) (x : Track) : (d.setTrk x).cfg = d.cfg := rfl
@[simp] theorem Dev.setTrk_cfgLen (d : Dev) (x : Track) : (d.setTrk x).cfgLen = d.cfgLen := rfl
@[simp] theorem Dev.setTrk_img (d : Dev) (x : Track) : (d.setTrk x).img = d.img := rfl
@[simp] theorem Dev.setTrk_fuses (d : Dev) (x : Track) : (d.setTrk x).fuses = d.fuses := rfl
@[simp] theorem Dev.setTrk_pwr (d : Dev) (x : Track) : (d.setTrk x).pwr = d.pwr := rfl
@[simp] theorem Dev.setTrk_boot (d : Dev) (x : Track) : (d.setTrk x).boot = d.boot := rfl
@[simp] theorem Dev.setTrk_modes (d : Dev) (x : Track) : (d.setTrk x).modes = d.modes := rfl
@[simp] theorem Dev.setTrk_evr (d : Dev) (x : Track) : (d.setTrk x).evr = d.evr := rfl
@[simp] theorem Dev.setTrk_time (d : Dev) (x : Track) : (d.setTrk x).time = d.time := rfl
@[simp] theorem Dev.setTrk_twb (d : Dev) (x : Track) : (d.setTrk x).twb = d.twb := rfl
@[simp] theorem Dev.setTrk_com (d : Dev) (x : Track) : (d.setTrk x).com = d.com := rfl
@[simp] theorem Dev.setTrk_con (d : Dev) (x : Track) : (d.setTrk x).con = d.con := rfl
@[simp] theorem Dev.setTrk_usb (d : Dev) (x : Track) : (d.setTrk x).usb = d.usb := rfl
@[simp] theorem Dev.setTrk_scan (d : Dev) (x : Track) : (d.setTrk x).scan = d.scan := rfl
@[simp] theorem Dev.setTrk_trk (d : Dev) (x : Track) : (d.setTrk x).trk = x := rfl
@[simp] theorem Dev.setTrk_rpt (d : Dev) (x : Track) : (d.setTrk x).rpt = d.rpt := rfl
@[simp] theorem Dev.setTrk_surf (d : Dev) (x : Track) : (d.setTrk x).surf = d.surf := rfl
@[simp] theorem Dev.setTrk_link (d : Dev) (x : Track) : (d.setTrk x).link = d.link := rfl
@[simp] theorem Dev.setTrk_mem (d : Dev) (x : Track) : (d.setTrk x).mem = d.mem := rfl
@[simp] theorem Dev.setTrk_gde (d : Dev) (x : Track) : (d.setTrk x).gde = d.gde := rfl
@[simp] theorem Dev.setTrk_lamp (d : Dev) (x : Track) : (d.setTrk x).lamp = d.lamp := rfl
@[simp] theorem Dev.setTrk_rail (d : Dev) (x : Track) : (d.setTrk x).rail = d.rail := rfl
@[simp] theorem Dev.setTrk_ir (d : Dev) (x : Track) : (d.setTrk x).ir = d.ir := rfl
@[simp] theorem Dev.setTrk_hka (d : Dev) (x : Track) : (d.setTrk x).hka = d.hka := rfl
@[simp] theorem Dev.setTrk_cal (d : Dev) (x : Track) : (d.setTrk x).cal = d.cal := rfl
@[simp] theorem Dev.setTrk_logQ (d : Dev) (x : Track) : (d.setTrk x).logQ = d.logQ := rfl
@[simp] theorem Dev.setTrk_outbox (d : Dev) (x : Track) : (d.setTrk x).outbox = d.outbox := rfl
@[simp] theorem Dev.setTrk_ticks (d : Dev) (x : Track) : (d.setTrk x).ticks = d.ticks := rfl
@[simp] theorem Dev.setTrk_free (d : Dev) (x : Track) : (d.setTrk x).free = d.free := rfl

/-! What the operations on registers say of registers that they do not write. -/

theorem Dev.reg_setFld_ne (d : Dev) (f : Fld) (v : Nat) {a : Nat} (h : a ≠ f.addr) : (d.setFld f v).reg a = d.reg a := by
  simp [Dev.setFld, h]

theorem Dev.reg_bumpBy_ne (d : Dev) (f : Fld) (n : Nat) {a : Nat} (h : a ≠ f.addr) : (d.bumpBy f n).reg a = d.reg a :=
  Dev.reg_setFld_ne d f _ h

theorem Dev.reg_ignoreWrite_ne (d : Dev) {a : Nat} (h : a ≠ SYS_WRIGN_COUNT.addr) : d.ignoreWrite.reg a = d.reg a :=
  Dev.reg_bumpBy_ne d _ 1 h

theorem Dev.reg_storeReg_ne (d : Dev) {a b : Nat} (v : Word) (h : b ≠ a) : (d.storeReg a v).reg b = d.reg b := by
  simp [Dev.storeReg, h]

end Sys2Proof.Machine
end

