-- ==== Sys2Proof/Laws/Ring.lean ====
section
/-!
SUPPORT. Ring.lean: everything that raising an event can change: the registers of the router, of the fault-log queue and of
what an admission wakes, bank 8, and the fields of the machine behind them. Every other register, bank and field is as it
was.
-/

namespace Sys2Proof.Machine

/-- A machine without the parts that raising an event may change. -/
def Dev.quiet (d : Dev) : Dev :=
  { d with
    regs := [], banks := [], evr := { d.evr with h0 := {}, h1 := {}, store := [], deferred := [], coreLost := 0, coreLostPri := 0, coreLossTick := none }, con := { d.con with out := [], dropped := 0 }, logQ := [],
    cal := { d.cal with lost := 0 }, time := { d.time with interp := 0 }, free := 0,
    modes := { d.modes with hostwake := false }, usb := { d.usb with wake := 0 },
    rpt := { d.rpt with burstAsked := false },
    surf := { d.surf with fwdSent := 0, fwdLost := 0 }, outbox := [], mem := { d.mem with bad := [] } }

/-- Nothing but what an event may change differs. -/
def Dev.Near (d e : Dev) : Prop :=
  (∀ a, a ∉ ringRegs → e.reg a = d.reg a) ∧ (∀ b w, b ≠ 8 → e.bank b w = d.bank b w) ∧ e.quiet = d.quiet

theorem Dev.Near.rfl (d : Dev) : d.Near d := ⟨fun _ _ => Eq.refl _, fun _ _ _ => Eq.refl _, Eq.refl _⟩

theorem Dev.Near.trans {d e f : Dev} (h : d.Near e) (g : e.Near f) : d.Near f :=
  ⟨fun a ha => (g.1 a ha).trans (h.1 a ha), fun b w hb => (g.2.1 b w hb).trans (h.2.1 b w hb), g.2.2.trans h.2.2⟩

/-- An update of the parts that an event may change. -/
theorem near_of {d e x : Dev} (h : d.Near x) (h1 : e.regs = x.regs) (h2 : e.banks = x.banks) (h3 : e.quiet = x.quiet) :
    d.Near e := by
  refine ⟨fun a ha => ?_, fun b w hb => ?_, h3.trans h.2.2⟩
  · rw [← h.1 a ha]; simp only [Dev.reg, h1]
  · rw [← h.2.1 b w hb]; simp only [Dev.bank, h2]

variable {d e : Dev}

theorem near_cut (d x : Dev) {P : Prop} (h : d.Near x) (k : d.Near x → P) : P := k h

theorem near_setReg (h : d.Near e) {a : Nat} {v : Word} (ha : a ∈ ringRegs) : d.Near (e.setReg a v) := by
  refine ⟨fun b hb => ?_, h.2.1, h.2.2⟩
  have : b ≠ a := fun hba => hb (hba ▸ ha)
  rw [Dev.reg_setReg, if_neg this, h.1 b hb]

theorem near_setFld (h : d.Near e) {f : Fld} {v : Nat} (ha : f.addr ∈ ringRegs) : d.Near (e.setFld f v) := near_setReg h ha

theorem near_setFlag (h : d.Near e) {f : Fld} {b : Bool} (ha : f.addr ∈ ringRegs) : d.Near (e.setFlag f b) := near_setReg h ha

theorem near_bump (h : d.Near e) {f : Fld} (ha : f.addr ∈ ringRegs) : d.Near (e.bump f) := near_setReg h ha

theorem near_bumpBy (h : d.Near e) {f : Fld} {n : Nat} (ha : f.addr ∈ ringRegs) : d.Near (e.bumpBy f n) := near_setReg h ha

theorem near_setBank (h : d.Near e) {w : Nat} {v : Word} : d.Near (e.setBank 8 w v) := by
  refine ⟨h.1, fun b w' hb => ?_, h.2.2⟩
  have : bankAddr b w' ≠ bankAddr 8 w := by simp only [bankAddr]; omega
  rw [Dev.bank_setBank, if_neg this, h.2.1 b w' hb]

theorem near_fillBank (h : d.Near e) {w : Nat} {vs : List Word} : d.Near (e.fillBank 8 w vs) := by
  induction vs generalizing e w with
  | nil => exact h
  | cons v vs ih => exact ih (near_setBank h)

theorem near_setHostQ (h : d.Near e) {p : HostPort} {q : HostQ} : d.Near (e.setHostQ p q) := by
  cases p <;> exact near_of h rfl rfl rfl

theorem near_draw (h : d.Near e) {n : Nat} : d.Near (e.draw n).2 := near_of h rfl rfl rfl

theorem near_touchTime (h : d.Near e) : d.Near e.touchTime := by
  unfold Dev.touchTime
  split
  · exact near_of h rfl rfl rfl
  · exact h

theorem near_print (h : d.Near e) {l : OutLine} : d.Near (e.print l) := by
  unfold Dev.print
  extract_lets c note
  split
  · split
    · exact near_of h rfl rfl rfl
    · exact near_bump (near_of h rfl rfl rfl) (by decide)
  · split
    · exact near_of h rfl rfl rfl
    · exact near_bump (near_of h rfl rfl rfl) (by decide)

theorem near_logRec (h : d.Near e) {r : LogRec} : d.Near (e.logRec r) := by
  unfold Dev.logRec
  split
  · exact near_setFld (near_of h rfl rfl rfl) (by decide)
  · exact near_bump (near_of h rfl rfl rfl) (by decide)

theorem near_logAt (h : d.Near e) {at_ : Stamp} {src : Nat} {w1 w2 : Word} : d.Near (e.logAt at_ src w1 w2) := near_logRec h

theorem near_logEvent (h : d.Near e) {src : Nat} {w1 w2 : Word} : d.Near (e.logEvent src w1 w2) := near_logRec h

theorem near_refuseTaken (h : d.Near e) {p : HostPort} {n : Nat} : d.Near (e.refuseTaken p n) := by
  have hf : (portFld p EVR_H0_DISC_COUNT).addr ∈ ringRegs := by cases p <;> decide
  unfold Dev.refuseTaken
  split
  · exact near_setHostQ (near_bumpBy h hf)
  · exact h

theorem near_writeRecord (h : d.Near e) {p : HostPort} {src pri epoch : Nat} {w1 w2 w3 : Word} :
    d.Near (e.writeRecord p src pri epoch w1 w2 w3) := by
  have h1 : ∀ q : HostQ, ∀ wr : Nat, d.Near (((e.fillBank 8 (slotBase p wr) [recordW0 src pri epoch q.seq, w1, w2, w3]).setFld
      (portFld p EVR_H0_WR_WR) ((wr + 1) % 2048)).setHostQ p { q with seq := (q.seq + 1) % 32 }) := fun q wr =>
    near_setHostQ (near_setFld (near_fillBank h) (by cases p <;> decide))
  unfold Dev.writeRecord
  extract_lets q wr a b c
  have hc : d.Near c := h1 q wr
  split
  · exact near_print hc
  · exact hc

theorem near_hostWake (h : d.Near e) : d.Near e.hostWake := by
  unfold Dev.hostWake
  split
  · exact near_setFld (near_setFld (near_of h rfl rfl rfl) (by decide)) (by decide)
  · exact h

theorem near_remoteWake (h : d.Near e) {src : Nat} : d.Near (e.remoteWake src) := by
  unfold Dev.remoteWake
  split
  · exact near_setFld (near_of h rfl rfl rfl) (by decide)
  · exact h

theorem near_admitWake (h : d.Near e) {p : HostPort} {src : Nat} {wake : Bool} : d.Near (e.admitWake p src wake) := by
  unfold Dev.admitWake
  split
  · cases p
    · exact near_hostWake h
    · exact near_remoteWake (near_hostWake h)
  · exact h

theorem near_writeOverflow (h : d.Near e) {p : HostPort} {ep : Episode} : d.Near (e.writeOverflow p ep) :=
  near_admitWake (near_setHostQ (near_writeRecord h))

theorem near_refuseRecord (h : d.Near e) {p : HostPort} {pri n : Nat} : d.Near (e.refuseRecord p pri n) := by
  have hf : (portFld p EVR_H0_DISC_COUNT).addr ∈ ringRegs := by cases p <;> decide
  unfold Dev.refuseRecord
  repeat' first
    | with_reducible assumption
    | ((fail_if_no_progress extract_lets +onlyGivenNames x); first | (refine near_cut d x ?_ (fun _ => ?_); unfold x) | skip)
    | with_reducible apply near_writeOverflow
    | with_reducible apply near_fillBank
    | with_reducible apply near_setHostQ
    | with_reducible apply near_bumpBy
    | split

theorem near_askBurst (h : d.Near e) : d.Near e.askBurst := by
  unfold Dev.askBurst
  exact near_setFlag (f := TRK_RPT_STAT_RSPEND) (near_of (x := e) h rfl rfl rfl) (by decide)

theorem near_offer (h : d.Near e) {p : HostPort} {r : Pend} {wake : Bool} : d.Near (e.offer p r wake) := by
  unfold Dev.offer
  split
  · exact h
  · split
    · extract_lets q r' c q' a
      have ha : d.Near a := near_admitWake (near_setHostQ h)
      split
      · exact near_askBurst (near_bump ha (by decide))
      · exact ha
    · exact near_refuseRecord h

theorem near_forwardRecord (h : d.Near e) {w0 w1 w2 w3 : Word} : d.Near (e.forwardRecord w0 w1 w2 w3) := by
  unfold Dev.forwardRecord
  split <;> exact near_of h rfl rfl rfl

theorem near_hostRecord (h : d.Near e) {at_ : Stamp} {src : Nat} {w1 w2 : Word} {pairB orig : Option (Word × Word)} :
    d.Near (e.hostRecord at_ src w1 w2 pairB orig) := by
  unfold Dev.hostRecord
  extract_lets cfg r d1 d2 d3 d4
  split
  · exact h
  · have h1 : d.Near d1 := near_bump h (by decide)
    split
    · have h2 : d.Near d2 := by
        unfold d2
        split
        · exact near_hostWake h1
        · exact h1
      split
      · exact h2
      · exact near_forwardRecord h2
    · split
      · have h3 : d.Near d3 := by
          unfold d3
          split
          · exact near_refuseTaken h1
          · exact h1
        split
        · exact near_refuseTaken h3
        · exact h3
      · have h4 : d.Near d4 := by
          unfold d4
          split
          · exact near_offer h1
          · exact h1
        split
        · exact near_offer h4
        · exact h4

theorem near_coreRecord (h : d.Near e) {at_ : Stamp} {src : Nat} {w1 w2 : Word} : d.Near (e.coreRecord at_ src w1 w2) := by
  have h1 : EVR_CNT_DOORS.addr ∈ ringRegs := by decide
  have h2 : EVR_CORE_DISC.addr ∈ ringRegs := by decide
  unfold Dev.coreRecord
  repeat' first
    | with_reducible assumption
    | ((fail_if_no_progress extract_lets +onlyGivenNames x); first | (refine near_cut d x ?_ (fun _ => ?_); unfold x) | skip)
    | with_reducible apply near_hostRecord
    | with_reducible apply near_logAt
    | with_reducible apply near_bump
    | split
    | exact near_of (by assumption) rfl rfl rfl

theorem near_acceptAt (h : d.Near e) {at_ : Stamp} {src : Nat} {w1 w2 : Word} {pairB orig : Option (Word × Word)} :
    d.Near (e.acceptAt at_ src w1 w2 pairB orig) := by
  unfold Dev.acceptAt
  repeat' first
    | with_reducible assumption
    | ((fail_if_no_progress extract_lets +onlyGivenNames x); refine near_cut d x ?_ (fun _ => ?_); unfold x)
    | with_reducible apply near_hostRecord
    | with_reducible apply near_coreRecord
    | with_reducible apply near_logAt
    | split

theorem near_accept (h : d.Near e) {src : Nat} {w1 w2 : Word} {pairB orig : Option (Word × Word)} :
    d.Near (e.accept src w1 w2 pairB orig) := by
  have h1 : EVR_CNT_BADDOOR.addr ∈ ringRegs := by decide
  unfold Dev.accept
  repeat' first
    | with_reducible assumption
    | ((fail_if_no_progress extract_lets +onlyGivenNames x); first | (refine near_cut d x ?_ (fun _ => ?_); unfold x) | skip)
    | with_reducible apply near_acceptAt
    | with_reducible apply near_touchTime
    | with_reducible apply near_bump
    | split
    | exact near_of (by assumption) rfl rfl rfl

/-- Raising an event changes nothing but what `Dev.Near` leaves out. -/
theorem near_ring (h : d.Near e) {src : Nat} {w1 w2 : Word} : d.Near (e.ring src w1 w2) := near_accept h

/-- Raising an event leaves every other register, and its fields, as they were. -/
theorem Dev.ring_reg {a : Nat} (h : a ∉ ringRegs) (d : Dev) (src : Nat) (w1 w2 : Word) :
    (d.ring src w1 w2).reg a = d.reg a := (near_ring (Dev.Near.rfl d)).1 a h

theorem Dev.ring_fld {f : Fld} (h : f.addr ∉ ringRegs) (d : Dev) (src : Nat) (w1 w2 : Word) :
    (d.ring src w1 w2).fld f = d.fld f := by rw [Dev.fld, Dev.ring_reg h]; rfl

theorem Dev.ring_flag {f : Fld} (h : f.addr ∉ ringRegs) (d : Dev) (src : Nat) (w1 w2 : Word) :
    (d.ring src w1 w2).flag f = d.flag f := by rw [Dev.flag, Dev.ring_fld h]; rfl

/-- Raising an event leaves every bank but bank 8 as it was. -/
theorem Dev.ring_bank {b : Nat} (h : b ≠ 8) (d : Dev) (src : Nat) (w1 w2 : Word) (w : Nat) :
    (d.ring src w1 w2).bank b w = d.bank b w := (near_ring (Dev.Near.rfl d)).2.1 b w h

theorem Dev.ring_quiet (d : Dev) (src : Nat) (w1 w2 : Word) : (d.ring src w1 w2).quiet = d.quiet :=
  (near_ring (Dev.Near.rfl d)).2.2

@[simp] theorem Dev.ring_nvm (d : Dev) (src : Nat) (w1 w2 : Word) : (d.ring src w1 w2).nvm = d.nvm := by
  have h := congrArg Dev.nvm (d.ring_quiet src w1 w2); exact h
@[simp] theorem Dev.ring_cfg (d : Dev) (src : Nat) (w1 w2 : Word) : (d.ring src w1 w2).cfg = d.cfg := by
  have h := congrArg Dev.cfg (d.ring_quiet src w1 w2); exact h
@[simp] theorem Dev.ring_cfgLen (d : Dev) (src : Nat) (w1 w2 : Word) : (d.ring src w1 w2).cfgLen = d.cfgLen := by
  have h := congrArg Dev.cfgLen (d.ring_quiet src w1 w2); exact h
@[simp] theorem Dev.ring_img (d : Dev) (src : Nat) (w1 w2 : Word) : (d.ring src w1 w2).img = d.img := by
  have h := congrArg Dev.img (d.ring_quiet src w1 w2); exact h
@[simp] theorem Dev.ring_fuses (d : Dev) (src : Nat) (w1 w2 : Word) : (d.ring src w1 w2).fuses = d.fuses := by
  have h := congrArg Dev.fuses (d.ring_quiet src w1 w2); exact h
@[simp] theorem Dev.ring_pwr (d : Dev) (src : Nat) (w1 w2 : Word) : (d.ring src w1 w2).pwr = d.pwr := by
  have h := congrArg Dev.pwr (d.ring_quiet src w1 w2); exact h
@[simp] theorem Dev.ring_boot (d : Dev) (src : Nat) (w1 w2 : Word) : (d.ring src w1 w2).boot = d.boot := by
  have h := congrArg Dev.boot (d.ring_quiet src w1 w2); exact h
@[simp] theorem Dev.ring_twb (d : Dev) (src : Nat) (w1 w2 : Word) : (d.ring src w1 w2).twb = d.twb := by
  have h := congrArg Dev.twb (d.ring_quiet src w1 w2); exact h
@[simp] theorem Dev.ring_com (d : Dev) (src : Nat) (w1 w2 : Word) : (d.ring src w1 w2).com = d.com := by
  have h := congrArg Dev.com (d.ring_quiet src w1 w2); exact h
@[simp] theorem Dev.ring_scan (d : Dev) (src : Nat) (w1 w2 : Word) : (d.ring src w1 w2).scan = d.scan := by
  have h := congrArg Dev.scan (d.ring_quiet src w1 w2); exact h
@[simp] theorem Dev.ring_trk (d : Dev) (src : Nat) (w1 w2 : Word) : (d.ring src w1 w2).trk = d.trk := by
  have h := congrArg Dev.trk (d.ring_quiet src w1 w2); exact h
@[simp] theorem Dev.ring_rpt_heldTap (d : Dev) (src : Nat) (w1 w2 : Word) : (d.ring src w1 w2).rpt.heldTap = d.rpt.heldTap := by
  have h := congrArg (fun e : Dev => e.rpt.heldTap) (d.ring_quiet src w1 w2); exact h
@[simp] theorem Dev.ring_rpt_touches (d : Dev) (src : Nat) (w1 w2 : Word) : (d.ring src w1 w2).rpt.touches = d.rpt.touches := by
  have h := congrArg (fun e : Dev => e.rpt.touches) (d.ring_quiet src w1 w2); exact h
@[simp] theorem Dev.ring_rpt_lastTap (d : Dev) (src : Nat) (w1 w2 : Word) : (d.ring src w1 w2).rpt.lastTap = d.rpt.lastTap := by
  have h := congrArg (fun e : Dev => e.rpt.lastTap) (d.ring_quiet src w1 w2); exact h
@[simp] theorem Dev.ring_rpt_covered (d : Dev) (src : Nat) (w1 w2 : Word) : (d.ring src w1 w2).rpt.covered = d.rpt.covered := by
  have h := congrArg (fun e : Dev => e.rpt.covered) (d.ring_quiet src w1 w2); exact h
@[simp] theorem Dev.ring_rpt_burstStart (d : Dev) (src : Nat) (w1 w2 : Word) : (d.ring src w1 w2).rpt.burstStart = d.rpt.burstStart := by
  have h := congrArg (fun e : Dev => e.rpt.burstStart) (d.ring_quiet src w1 w2); exact h
@[simp] theorem Dev.ring_rpt_skip (d : Dev) (src : Nat) (w1 w2 : Word) : (d.ring src w1 w2).rpt.skip = d.rpt.skip := by
  have h := congrArg (fun e : Dev => e.rpt.skip) (d.ring_quiet src w1 w2); exact h
@[simp] theorem Dev.ring_rpt_copying (d : Dev) (src : Nat) (w1 w2 : Word) : (d.ring src w1 w2).rpt.copying = d.rpt.copying := by
  have h := congrArg (fun e : Dev => e.rpt.copying) (d.ring_quiet src w1 w2); exact h
@[simp] theorem Dev.ring_rpt_stopping (d : Dev) (src : Nat) (w1 w2 : Word) : (d.ring src w1 w2).rpt.stopping = d.rpt.stopping := by
  have h := congrArg (fun e : Dev => e.rpt.stopping) (d.ring_quiet src w1 w2); exact h
@[simp] theorem Dev.ring_rpt_planes (d : Dev) (src : Nat) (w1 w2 : Word) : (d.ring src w1 w2).rpt.planes = d.rpt.planes := by
  have h := congrArg (fun e : Dev => e.rpt.planes) (d.ring_quiet src w1 w2); exact h
@[simp] theorem Dev.ring_rpt_lastFlags (d : Dev) (src : Nat) (w1 w2 : Word) : (d.ring src w1 w2).rpt.lastFlags = d.rpt.lastFlags := by
  have h := congrArg (fun e : Dev => e.rpt.lastFlags) (d.ring_quiet src w1 w2); exact h
@[simp] theorem Dev.ring_link (d : Dev) (src : Nat) (w1 w2 : Word) : (d.ring src w1 w2).link = d.link := by
  have h := congrArg Dev.link (d.ring_quiet src w1 w2); exact h
@[simp] theorem Dev.ring_mem_repair (d : Dev) (src : Nat) (w1 w2 : Word) : (d.ring src w1 w2).mem.repair = d.mem.repair := by
  have h := congrArg (fun e : Dev => e.mem.repair) (d.ring_quiet src w1 w2); exact h
@[simp] theorem Dev.ring_mem_winSel (d : Dev) (src : Nat) (w1 w2 : Word) : (d.ring src w1 w2).mem.winSel = d.mem.winSel := by
  have h := congrArg (fun e : Dev => e.mem.winSel) (d.ring_quiet src w1 w2); exact h
@[simp] theorem Dev.ring_gde (d : Dev) (src : Nat) (w1 w2 : Word) : (d.ring src w1 w2).gde = d.gde := by
  have h := congrArg Dev.gde (d.ring_quiet src w1 w2); exact h
@[simp] theorem Dev.ring_lamp (d : Dev) (src : Nat) (w1 w2 : Word) : (d.ring src w1 w2).lamp = d.lamp := by
  have h := congrArg Dev.lamp (d.ring_quiet src w1 w2); exact h
@[simp] theorem Dev.ring_rail (d : Dev) (src : Nat) (w1 w2 : Word) : (d.ring src w1 w2).rail = d.rail := by
  have h := congrArg Dev.rail (d.ring_quiet src w1 w2); exact h
@[simp] theorem Dev.ring_ir (d : Dev) (src : Nat) (w1 w2 : Word) : (d.ring src w1 w2).ir = d.ir := by
  have h := congrArg Dev.ir (d.ring_quiet src w1 w2); exact h
@[simp] theorem Dev.ring_hka (d : Dev) (src : Nat) (w1 w2 : Word) : (d.ring src w1 w2).hka = d.hka := by
  have h := congrArg Dev.hka (d.ring_quiet src w1 w2); exact h
@[simp] theorem Dev.ring_ticks (d : Dev) (src : Nat) (w1 w2 : Word) : (d.ring src w1 w2).ticks = d.ticks := by
  have h := congrArg Dev.ticks (d.ring_quiet src w1 w2); exact h
@[simp] theorem Dev.ring_time_sec (d : Dev) (src : Nat) (w1 w2 : Word) :
    (d.ring src w1 w2).time.sec = d.time.sec := by
  have h := congrArg (fun e : Dev => e.time.sec) (d.ring_quiet src w1 w2); exact h
@[simp] theorem Dev.ring_time_frac (d : Dev) (src : Nat) (w1 w2 : Word) :
    (d.ring src w1 w2).time.frac = d.time.frac := by
  have h := congrArg (fun e : Dev => e.time.frac) (d.ring_quiet src w1 w2); exact h
@[simp] theorem Dev.ring_time_fast (d : Dev) (src : Nat) (w1 w2 : Word) :
    (d.ring src w1 w2).time.fast = d.time.fast := by
  have h := congrArg (fun e : Dev => e.time.fast) (d.ring_quiet src w1 w2); exact h
@[simp] theorem Dev.ring_time_epoch (d : Dev) (src : Nat) (w1 w2 : Word) :
    (d.ring src w1 w2).time.epoch = d.time.epoch := by
  have h := congrArg (fun e : Dev => e.time.epoch) (d.ring_quiet src w1 w2); exact h
@[simp] theorem Dev.ring_time_frame (d : Dev) (src : Nat) (w1 w2 : Word) :
    (d.ring src w1 w2).time.frame = d.time.frame := by
  have h := congrArg (fun e : Dev => e.time.frame) (d.ring_quiet src w1 w2); exact h
@[simp] theorem Dev.ring_time_load (d : Dev) (src : Nat) (w1 w2 : Word) :
    (d.ring src w1 w2).time.load = d.time.load := by
  have h := congrArg (fun e : Dev => e.time.load) (d.ring_quiet src w1 w2); exact h
@[simp] theorem Dev.ring_time_slewNext (d : Dev) (src : Nat) (w1 w2 : Word) :
    (d.ring src w1 w2).time.slewNext = d.time.slewNext := by
  have h := congrArg (fun e : Dev => e.time.slewNext) (d.ring_quiet src w1 w2); exact h
@[simp] theorem Dev.ring_time_slewCount (d : Dev) (src : Nat) (w1 w2 : Word) :
    (d.ring src w1 w2).time.slewCount = d.time.slewCount := by
  have h := congrArg (fun e : Dev => e.time.slewCount) (d.ring_quiet src w1 w2); exact h
@[simp] theorem Dev.ring_time_slewTotal (d : Dev) (src : Nat) (w1 w2 : Word) :
    (d.ring src w1 w2).time.slewTotal = d.time.slewTotal := by
  have h := congrArg (fun e : Dev => e.time.slewTotal) (d.ring_quiet src w1 w2); exact h
@[simp] theorem Dev.ring_time_stepNext (d : Dev) (src : Nat) (w1 w2 : Word) :
    (d.ring src w1 w2).time.stepNext = d.time.stepNext := by
  have h := congrArg (fun e : Dev => e.time.stepNext) (d.ring_quiet src w1 w2); exact h
@[simp] theorem Dev.ring_time_alarmLate (d : Dev) (src : Nat) (w1 w2 : Word) :
    (d.ring src w1 w2).time.alarmLate = d.time.alarmLate := by
  have h := congrArg (fun e : Dev => e.time.alarmLate) (d.ring_quiet src w1 w2); exact h
@[simp] theorem Dev.ring_time_stepFlag (d : Dev) (src : Nat) (w1 w2 : Word) :
    (d.ring src w1 w2).time.stepFlag = d.time.stepFlag := by
  have h := congrArg (fun e : Dev => e.time.stepFlag) (d.ring_quiet src w1 w2); exact h
@[simp] theorem Dev.ring_modes_wake (d : Dev) (src : Nat) (w1 w2 : Word) :
    (d.ring src w1 w2).modes.wake = d.modes.wake := by
  have h := congrArg (fun e : Dev => e.modes.wake) (d.ring_quiet src w1 w2); exact h
@[simp] theorem Dev.ring_modes_auto (d : Dev) (src : Nat) (w1 w2 : Word) :
    (d.ring src w1 w2).modes.auto = d.modes.auto := by
  have h := congrArg (fun e : Dev => e.modes.auto) (d.ring_quiet src w1 w2); exact h
@[simp] theorem Dev.ring_modes_host (d : Dev) (src : Nat) (w1 w2 : Word) :
    (d.ring src w1 w2).modes.host = d.modes.host := by
  have h := congrArg (fun e : Dev => e.modes.host) (d.ring_quiet src w1 w2); exact h
@[simp] theorem Dev.ring_modes_service (d : Dev) (src : Nat) (w1 w2 : Word) :
    (d.ring src w1 w2).modes.service = d.modes.service := by
  have h := congrArg (fun e : Dev => e.modes.service) (d.ring_quiet src w1 w2); exact h
@[simp] theorem Dev.ring_modes_orphan (d : Dev) (src : Nat) (w1 w2 : Word) :
    (d.ring src w1 w2).modes.orphan = d.modes.orphan := by
  have h := congrArg (fun e : Dev => e.modes.orphan) (d.ring_quiet src w1 w2); exact h
@[simp] theorem Dev.ring_modes_manager (d : Dev) (src : Nat) (w1 w2 : Word) :
    (d.ring src w1 w2).modes.manager = d.modes.manager := by
  have h := congrArg (fun e : Dev => e.modes.manager) (d.ring_quiet src w1 w2); exact h
@[simp] theorem Dev.ring_modes_hibStep (d : Dev) (src : Nat) (w1 w2 : Word) :
    (d.ring src w1 w2).modes.hibStep = d.modes.hibStep := by
  have h := congrArg (fun e : Dev => e.modes.hibStep) (d.ring_quiet src w1 w2); exact h
@[simp] theorem Dev.ring_modes_acksDue (d : Dev) (src : Nat) (w1 w2 : Word) :
    (d.ring src w1 w2).modes.acksDue = d.modes.acksDue := by
  have h := congrArg (fun e : Dev => e.modes.acksDue) (d.ring_quiet src w1 w2); exact h
@[simp] theorem Dev.ring_modes_wakes (d : Dev) (src : Nat) (w1 w2 : Word) :
    (d.ring src w1 w2).modes.wakes = d.modes.wakes := by
  have h := congrArg (fun e : Dev => e.modes.wakes) (d.ring_quiet src w1 w2); exact h
@[simp] theorem Dev.ring_modes_waking (d : Dev) (src : Nat) (w1 w2 : Word) :
    (d.ring src w1 w2).modes.waking = d.modes.waking := by
  have h := congrArg (fun e : Dev => e.modes.waking) (d.ring_quiet src w1 w2); exact h
@[simp] theorem Dev.ring_con_line (d : Dev) (src : Nat) (w1 w2 : Word) :
    (d.ring src w1 w2).con.line = d.con.line := by
  have h := congrArg (fun e : Dev => e.con.line) (d.ring_quiet src w1 w2); exact h
@[simp] theorem Dev.ring_con_todo (d : Dev) (src : Nat) (w1 w2 : Word) :
    (d.ring src w1 w2).con.todo = d.con.todo := by
  have h := congrArg (fun e : Dev => e.con.todo) (d.ring_quiet src w1 w2); exact h
@[simp] theorem Dev.ring_con_evmon (d : Dev) (src : Nat) (w1 w2 : Word) :
    (d.ring src w1 w2).con.evmon = d.con.evmon := by
  have h := congrArg (fun e : Dev => e.con.evmon) (d.ring_quiet src w1 w2); exact h
@[simp] theorem Dev.ring_con_states (d : Dev) (src : Nat) (w1 w2 : Word) :
    (d.ring src w1 w2).con.states = d.con.states := by
  have h := congrArg (fun e : Dev => e.con.states) (d.ring_quiet src w1 w2); exact h
@[simp] theorem Dev.ring_con_amon (d : Dev) (src : Nat) (w1 w2 : Word) :
    (d.ring src w1 w2).con.amon = d.con.amon := by
  have h := congrArg (fun e : Dev => e.con.amon) (d.ring_quiet src w1 w2); exact h
@[simp] theorem Dev.ring_con_rd (d : Dev) (src : Nat) (w1 w2 : Word) :
    (d.ring src w1 w2).con.rd = d.con.rd := by
  have h := congrArg (fun e : Dev => e.con.rd) (d.ring_quiet src w1 w2); exact h
@[simp] theorem Dev.ring_con_logWait (d : Dev) (src : Nat) (w1 w2 : Word) :
    (d.ring src w1 w2).con.logWait = d.con.logWait := by
  have h := congrArg (fun e : Dev => e.con.logWait) (d.ring_quiet src w1 w2); exact h
@[simp] theorem Dev.ring_con_waitJoin (d : Dev) (src : Nat) (w1 w2 : Word) :
    (d.ring src w1 w2).con.waitJoin = d.con.waitJoin := by
  have h := congrArg (fun e : Dev => e.con.waitJoin) (d.ring_quiet src w1 w2); exact h
@[simp] theorem Dev.ring_con_request (d : Dev) (src : Nat) (w1 w2 : Word) :
    (d.ring src w1 w2).con.request = d.con.request := by
  have h := congrArg (fun e : Dev => e.con.request) (d.ring_quiet src w1 w2); exact h
@[simp] theorem Dev.ring_surf_known (d : Dev) (src : Nat) (w1 w2 : Word) :
    (d.ring src w1 w2).surf.known = d.surf.known := by
  have h := congrArg (fun e : Dev => e.surf.known) (d.ring_quiet src w1 w2); exact h
@[simp] theorem Dev.ring_surf_tiles (d : Dev) (src : Nat) (w1 w2 : Word) :
    (d.ring src w1 w2).surf.tiles = d.surf.tiles := by
  have h := congrArg (fun e : Dev => e.surf.tiles) (d.ring_quiet src w1 w2); exact h
@[simp] theorem Dev.ring_surf_contacts (d : Dev) (src : Nat) (w1 w2 : Word) :
    (d.ring src w1 w2).surf.contacts = d.surf.contacts := by
  have h := congrArg (fun e : Dev => e.surf.contacts) (d.ring_quiet src w1 w2); exact h
@[simp] theorem Dev.ring_surf_strips (d : Dev) (src : Nat) (w1 w2 : Word) :
    (d.ring src w1 w2).surf.strips = d.surf.strips := by
  have h := congrArg (fun e : Dev => e.surf.strips) (d.ring_quiet src w1 w2); exact h
@[simp] theorem Dev.ring_surf_rtile (d : Dev) (src : Nat) (w1 w2 : Word) :
    (d.ring src w1 w2).surf.rtile = d.surf.rtile := by
  have h := congrArg (fun e : Dev => e.surf.rtile) (d.ring_quiet src w1 w2); exact h
@[simp] theorem Dev.ring_surf_frame (d : Dev) (src : Nat) (w1 w2 : Word) :
    (d.ring src w1 w2).surf.frame = d.surf.frame := by
  have h := congrArg (fun e : Dev => e.surf.frame) (d.ring_quiet src w1 w2); exact h
@[simp] theorem Dev.ring_surf_imgServing (d : Dev) (src : Nat) (w1 w2 : Word) :
    (d.ring src w1 w2).surf.imgServing = d.surf.imgServing := by
  have h := congrArg (fun e : Dev => e.surf.imgServing) (d.ring_quiet src w1 w2); exact h
@[simp] theorem Dev.ring_surf_imgWaiting (d : Dev) (src : Nat) (w1 w2 : Word) :
    (d.ring src w1 w2).surf.imgWaiting = d.surf.imgWaiting := by
  have h := congrArg (fun e : Dev => e.surf.imgWaiting) (d.ring_quiet src w1 w2); exact h
@[simp] theorem Dev.ring_surf_linkBoot (d : Dev) (src : Nat) (w1 w2 : Word) :
    (d.ring src w1 w2).surf.linkBoot = d.surf.linkBoot := by
  have h := congrArg (fun e : Dev => e.surf.linkBoot) (d.ring_quiet src w1 w2); exact h
@[simp] theorem Dev.ring_surf_deltaDue (d : Dev) (src : Nat) (w1 w2 : Word) :
    (d.ring src w1 w2).surf.deltaDue = d.surf.deltaDue := by
  have h := congrArg (fun e : Dev => e.surf.deltaDue) (d.ring_quiet src w1 w2); exact h
@[simp] theorem Dev.ring_usb_vbus (d : Dev) (src : Nat) (w1 w2 : Word) :
    (d.ring src w1 w2).usb.vbus = d.usb.vbus := by
  have h := congrArg (fun e : Dev => e.usb.vbus) (d.ring_quiet src w1 w2); exact h
@[simp] theorem Dev.ring_usb_halt1 (d : Dev) (src : Nat) (w1 w2 : Word) :
    (d.ring src w1 w2).usb.halt1 = d.usb.halt1 := by
  have h := congrArg (fun e : Dev => e.usb.halt1) (d.ring_quiet src w1 w2); exact h
@[simp] theorem Dev.ring_usb_halt2Out (d : Dev) (src : Nat) (w1 w2 : Word) :
    (d.ring src w1 w2).usb.halt2Out = d.usb.halt2Out := by
  have h := congrArg (fun e : Dev => e.usb.halt2Out) (d.ring_quiet src w1 w2); exact h
@[simp] theorem Dev.ring_usb_halt2In (d : Dev) (src : Nat) (w1 w2 : Word) :
    (d.ring src w1 w2).usb.halt2In = d.usb.halt2In := by
  have h := congrArg (fun e : Dev => e.usb.halt2In) (d.ring_quiet src w1 w2); exact h
@[simp] theorem Dev.ring_usb_ep0 (d : Dev) (src : Nat) (w1 w2 : Word) :
    (d.ring src w1 w2).usb.ep0 = d.usb.ep0 := by
  have h := congrArg (fun e : Dev => e.usb.ep0) (d.ring_quiet src w1 w2); exact h
@[simp] theorem Dev.ring_usb_reports (d : Dev) (src : Nat) (w1 w2 : Word) :
    (d.ring src w1 w2).usb.reports = d.usb.reports := by
  have h := congrArg (fun e : Dev => e.usb.reports) (d.ring_quiet src w1 w2); exact h
@[simp] theorem Dev.ring_usb_response (d : Dev) (src : Nat) (w1 w2 : Word) :
    (d.ring src w1 w2).usb.response = d.usb.response := by
  have h := congrArg (fun e : Dev => e.usb.response) (d.ring_quiet src w1 w2); exact h
@[simp] theorem Dev.ring_usb_release (d : Dev) (src : Nat) (w1 w2 : Word) :
    (d.ring src w1 w2).usb.release = d.usb.release := by
  have h := congrArg (fun e : Dev => e.usb.release) (d.ring_quiet src w1 w2); exact h
@[simp] theorem Dev.ring_usb_suspTick (d : Dev) (src : Nat) (w1 w2 : Word) :
    (d.ring src w1 w2).usb.suspTick = d.usb.suspTick := by
  have h := congrArg (fun e : Dev => e.usb.suspTick) (d.ring_quiet src w1 w2); exact h
@[simp] theorem Dev.ring_usb_resync (d : Dev) (src : Nat) (w1 w2 : Word) :
    (d.ring src w1 w2).usb.resync = d.usb.resync := by
  have h := congrArg (fun e : Dev => e.usb.resync) (d.ring_quiet src w1 w2); exact h
@[simp] theorem Dev.ring_usb_owed (d : Dev) (src : Nat) (w1 w2 : Word) :
    (d.ring src w1 w2).usb.owed = d.usb.owed := by
  have h := congrArg (fun e : Dev => e.usb.owed) (d.ring_quiet src w1 w2); exact h
@[simp] theorem Dev.ring_usb_command (d : Dev) (src : Nat) (w1 w2 : Word) :
    (d.ring src w1 w2).usb.command = d.usb.command := by
  have h := congrArg (fun e : Dev => e.usb.command) (d.ring_quiet src w1 w2); exact h
@[simp] theorem Dev.ring_evr_cores (d : Dev) (src : Nat) (w1 w2 : Word) :
    (d.ring src w1 w2).evr.cores = d.evr.cores := by
  have h := congrArg (fun e : Dev => e.evr.cores) (d.ring_quiet src w1 w2); exact h
@[simp] theorem Dev.ring_evr_cfg (d : Dev) (src : Nat) (w1 w2 : Word) :
    (d.ring src w1 w2).evr.cfg = d.evr.cfg := by
  have h := congrArg (fun e : Dev => e.evr.cfg) (d.ring_quiet src w1 w2); exact h
@[simp] theorem Dev.ring_evr_group (d : Dev) (src : Nat) (w1 w2 : Word) :
    (d.ring src w1 w2).evr.group = d.evr.group := by
  have h := congrArg (fun e : Dev => e.evr.group) (d.ring_quiet src w1 w2); exact h
@[simp] theorem Dev.ring_cal_items (d : Dev) (src : Nat) (w1 w2 : Word) :
    (d.ring src w1 w2).cal.items = d.cal.items := by
  have h := congrArg (fun e : Dev => e.cal.items) (d.ring_quiet src w1 w2); exact h
@[simp] theorem Dev.ring_cal_again (d : Dev) (src : Nat) (w1 w2 : Word) :
    (d.ring src w1 w2).cal.again = d.cal.again := by
  have h := congrArg (fun e : Dev => e.cal.again) (d.ring_quiet src w1 w2); exact h
@[simp] theorem Dev.ring_cal_chans (d : Dev) (src : Nat) (w1 w2 : Word) :
    (d.ring src w1 w2).cal.chans = d.cal.chans := by
  have h := congrArg (fun e : Dev => e.cal.chans) (d.ring_quiet src w1 w2); exact h
@[simp] theorem Dev.ring_cal_since (d : Dev) (src : Nat) (w1 w2 : Word) :
    (d.ring src w1 w2).cal.since = d.cal.since := by
  have h := congrArg (fun e : Dev => e.cal.since) (d.ring_quiet src w1 w2); exact h
@[simp] theorem Dev.ring_cal_lap (d : Dev) (src : Nat) (w1 w2 : Word) :
    (d.ring src w1 w2).cal.lap = d.cal.lap := by
  have h := congrArg (fun e : Dev => e.cal.lap) (d.ring_quiet src w1 w2); exact h
@[simp] theorem Dev.ring_cal_retired (d : Dev) (src : Nat) (w1 w2 : Word) :
    (d.ring src w1 w2).cal.retired = d.cal.retired := by
  have h := congrArg (fun e : Dev => e.cal.retired) (d.ring_quiet src w1 w2); exact h
@[simp] theorem Dev.ring_cal_pages (d : Dev) (src : Nat) (w1 w2 : Word) :
    (d.ring src w1 w2).cal.pages = d.cal.pages := by
  have h := congrArg (fun e : Dev => e.cal.pages) (d.ring_quiet src w1 w2); exact h
@[simp] theorem Dev.ring_cal_lastRec (d : Dev) (src : Nat) (w1 w2 : Word) :
    (d.ring src w1 w2).cal.lastRec = d.cal.lastRec := by
  have h := congrArg (fun e : Dev => e.cal.lastRec) (d.ring_quiet src w1 w2); exact h

end Sys2Proof.Machine
end

