-- ==== Sys2Proof/Laws/Effects.lean ====
section
/-!
SUPPORT. Effects.lean: how a statement about a command is opened, and what the shared operations leave as they were: fields,
counters, console output.
-/

namespace Sys2Proof.Machine

/-- A command that runs an effect on the hardware completes with whatever holds of that effect. -/
theorem completes_of {c : Instr} {s : State} {P : Dev → Prop} {f : Dev → Dev} (h : exec c s = s.run f) (hp : P (f s.dev)) :
    Completes c s P := ⟨f s.dev, h, hp⟩

theorem Dev.leaves_refl (d : Dev) (as : List Nat) : d.leaves d as :=
  ⟨fun _ _ => rfl, fun _ _ => rfl, fun _ => rfl, fun _ _ _ => rfl⟩

/-- A write of a named register is one of the changes allowed. -/
theorem leaves_setReg {d e : Dev} {as : List Nat} (h : d.leaves e as) {a : Nat} {w : Word} (ha : a ∈ as) :
    d.leaves (e.setReg a w) as := by
  refine ⟨fun b hb => ?_, h.2.1, h.2.2.1, h.2.2.2⟩
  have : b ≠ a := fun hba => hb (hba ▸ ha)
  rw [Dev.reg_setReg, if_neg this, h.1 b hb]

theorem leaves_setFld {d e : Dev} {as : List Nat} (h : d.leaves e as) {f : Fld} {v : Nat} (ha : f.addr ∈ as) :
    d.leaves (e.setFld f v) as := leaves_setReg h ha

theorem leaves_setFlag {d e : Dev} {as : List Nat} (h : d.leaves e as) {f : Fld} {b : Bool} (ha : f.addr ∈ as) :
    d.leaves (e.setFlag f b) as := leaves_setReg h ha

theorem leaves_bump {d e : Dev} {as : List Nat} (h : d.leaves e as) {f : Fld} (ha : f.addr ∈ as) :
    d.leaves (e.bump f) as := leaves_setReg h ha

theorem leaves_bumpBy {d e : Dev} {as : List Nat} (h : d.leaves e as) {f : Fld} {n : Nat} (ha : f.addr ∈ as) :
    d.leaves (e.bumpBy f n) as := leaves_setReg h ha

/-- An update beside the registers, the banks, the EEPROM and the configuration. -/
theorem leaves_of {d e x : Dev} {as : List Nat} (h : d.leaves x as) (h1 : e.regs = x.regs) (h2 : e.banks = x.banks)
    (h3 : e.nvm = x.nvm) (h4 : e.cfg = x.cfg) : d.leaves e as := by
  refine ⟨fun a ha => ?_, fun b w => ?_, fun a => ?_, fun s i n => ?_⟩
  · rw [← h.1 a ha]; simp only [Dev.reg, h1]
  · rw [← h.2.1 b w]; simp only [Dev.bank, h2]
  · rw [← h.2.2.1 a]; simp only [Dev.nvmByte, h3]
  · rw [← h.2.2.2 s i n]; simp only [Dev.cfgWord, h4]

theorem leavesRing_of_leaves {d e : Dev} {as : List Nat} (h : d.leaves e as) : d.leavesRing e as :=
  ⟨fun a ha _ => h.1 a ha, fun b w _ => h.2.1 b w, h.2.2.1, h.2.2.2⟩

/-- What an event may change is all that raising it adds to the changes. -/
theorem leavesRing_ring {d e : Dev} {as : List Nat} (h : d.leavesRing e as) (src : Nat) (w1 w2 : Word) :
    d.leavesRing (e.ring src w1 w2) as := by
  refine ⟨fun a ha hr => ?_, fun b w hb => ?_, fun a => ?_, fun s i n => ?_⟩
  · rw [Dev.ring_reg hr, h.1 a ha hr]
  · rw [Dev.ring_bank hb, h.2.1 b w hb]
  · rw [← h.2.2.1 a]; simp only [Dev.nvmByte, Dev.ring_nvm]
  · rw [← h.2.2.2 s i n]; simp only [Dev.cfgWord, Dev.ring_cfg]

theorem rang_ring {d e : Dev} (h : e.evr = d.evr) (src : Nat) (w1 w2 : Word) : d.rang (e.ring src w1 w2) src w1 w2 :=
  ⟨e, h, rfl⟩

theorem Dev.flag_setFlag_same (d : Dev) (f : Fld) (b : Bool) (h : f.lsb + f.width ≤ 24) (hw : 0 < f.width) :
    (d.setFlag f b).flag f = b := by
  rw [Dev.flag, Dev.setFlag, Dev.fld_setFld_same _ _ _ h]
  cases b <;> simp [bit]
  omega

theorem Dev.flag_setFld_apart (d : Dev) {f g : Fld} (v : Nat) (h : g.lsb + g.width ≤ 24) (ha : f.apart g = true) :
    (d.setFld g v).flag f = d.flag f := by rw [Dev.flag, Dev.fld_setFld_apart d v h ha]; rfl

theorem Dev.fld_setFlag_apart (d : Dev) {f g : Fld} (b : Bool) (h : g.lsb + g.width ≤ 24) (ha : f.apart g = true) :
    (d.setFlag g b).fld f = d.fld f := Dev.fld_setFld_apart d _ h ha

theorem Dev.flag_setFlag_apart (d : Dev) {f g : Fld} (b : Bool) (h : g.lsb + g.width ≤ 24) (ha : f.apart g = true) :
    (d.setFlag g b).flag f = d.flag f := Dev.flag_setFld_apart d _ h ha

theorem Dev.fld_bump_same (d : Dev) (f : Fld) (h : f.lsb + f.width ≤ 24) :
    (d.bump f).fld f = min (d.fld f + 1) (2 ^ f.width - 1) := Dev.fld_bumpBy_same d f 1 h

theorem Dev.fld_bump_apart (d : Dev) {f g : Fld} (h : g.lsb + g.width ≤ 24) (ha : f.apart g = true) :
    (d.bump g).fld f = d.fld f := Dev.fld_setFld_apart d _ h ha

theorem Dev.flag_bump_apart (d : Dev) {f g : Fld} (h : g.lsb + g.width ≤ 24) (ha : f.apart g = true) :
    (d.bump g).flag f = d.flag f := Dev.flag_setFld_apart d _ h ha

end Sys2Proof.Machine
end

