-- ==== Sys2Proof/Laws/Sound.lean ====
section
/-!
SUPPORT. Sound.lean: a machine whose four sparse memories are in canonical form and whose fuses, but for the spare columns that a
repair programs, hold given values; and how that goes through the forms the meanings are written in. The files Sound*.lean
beside this one say, operation by operation and command by command, that each keeps it.
-/

namespace Sys2Proof.Machine

theorem cellsSorted_filter {n : Nat} {m : Cells n} (p : Nat × BitVec n → Bool) {lo : Nat}
    (h : cellsSorted lo m = true) : cellsSorted lo (m.filter p) = true := by
  induction m generalizing lo with
  | nil => rfl
  | cons q rest ih =>
    simp only [cellsSorted, Bool.and_eq_true, decide_eq_true_eq] at h
    rw [List.filter_cons]
    split
    · simp only [cellsSorted, Bool.and_eq_true, decide_eq_true_eq]
      exact ⟨h.1, ih h.2⟩
    · exact cellsSorted_mono (Nat.le_succ_of_le h.1) (ih h.2)

/-- A memory that forgets some of its entries keeps the canonical form. -/
theorem cellsWf_filter {n : Nat} {dflt : Nat → BitVec n} {m : Cells n} (p : Nat × BitVec n → Bool)
    (h : cellsWf dflt m = true) : cellsWf dflt (m.filter p) = true := by
  simp only [cellsWf, Bool.and_eq_true, List.all_eq_true] at h ⊢
  exact ⟨cellsSorted_filter p h.1, fun q hq => h.2 q (List.mem_filter.mp hq).1⟩

/-- The parts of a machine that `Dev.Sound` speaks of. -/
def SoundParts (fz : Fuses) (regs banks : Cells 24) (nvm : Cells 8) (cfg : Cells 24) (fuses : Fuses) (ports : List Port)
    (channels : List Channel) (sinks : List Sink) (chans : List HkaChan) (snaps : List (Nat × AccSet))
    (zero : List (Option Int)) : Prop :=
  cellsWf regReset regs = true ∧ cellsWf bankDefault banks = true ∧ cellsWf nvmDefault nvm = true ∧
    cellsWf paramDefault cfg = true ∧ { fuses with spares := [] } = fz ∧ ports.length = 4 ∧ channels.length = 8 ∧
    sinks.length = 8 ∧ chans.length = 16 ∧ snaps.length = 4 ∧ zero.length = 4

/-- The four memories are canonical, the fuses other than the spare columns are fz, and what comes in a fixed number does. -/
def Dev.Sound (fz : Fuses) (d : Dev) : Prop :=
  SoundParts fz d.regs d.banks d.nvm d.cfg d.fuses d.link.ports d.gde.channels d.lamp.sinks d.hka.chans d.hka.snaps d.hka.zero

variable {fz : Fuses}

theorem Dev.Sound.parts {d : Dev} (h : d.Sound fz) : SoundParts fz d.regs d.banks d.nvm d.cfg d.fuses d.link.ports
    d.gde.channels d.lamp.sinks d.hka.chans d.hka.snaps d.hka.zero := h

theorem sound_ports (fz : Fuses) {d : Dev} (h : d.Sound fz) : d.link.ports.length = 4 := h.2.2.2.2.2.1
theorem sound_channels (fz : Fuses) {d : Dev} (h : d.Sound fz) : d.gde.channels.length = 8 := h.2.2.2.2.2.2.1
theorem sound_sinks (fz : Fuses) {d : Dev} (h : d.Sound fz) : d.lamp.sinks.length = 8 := h.2.2.2.2.2.2.2.1
theorem sound_chans (fz : Fuses) {d : Dev} (h : d.Sound fz) : d.hka.chans.length = 16 := h.2.2.2.2.2.2.2.2.1
theorem sound_snaps (fz : Fuses) {d : Dev} (h : d.Sound fz) : d.hka.snaps.length = 4 := h.2.2.2.2.2.2.2.2.2.1
theorem sound_zero (fz : Fuses) {d : Dev} (h : d.Sound fz) : d.hka.zero.length = 4 := h.2.2.2.2.2.2.2.2.2.2

/-- What changes in a machine beside those parts does not matter. -/
theorem sound_mk {x0 : Cells 24} {x1 : Cells 24} {x2 : Cells 8} {x3 : Cells 24} {x4 : List (Nat × Nat)} {x5 :
    List (Nat × Word)} {x6 : Fuses} {x7 : Power} {x8 : Boot} {x9 : Modes} {x10 : Router} {x11 : TimeBase} {x12 :
    TwoWire} {x13 : Commit} {x14 : Console} {x15 : Usb} {x16 : Scan} {x17 : Track} {x18 : Reports} {x19 :
    Surface} {x20 : Link} {x21 : Memory} {x22 : Gather} {x23 : Lamps} {x24 : Rails} {x25 : Infrared} {x26 : Hka}
    {x27 : Calib} {x28 : List LogRec} {x29 : List Msg} {x30 : Nat} {x31 : Nat}
    (h : SoundParts fz x0 x1 x2 x3 x6 x20.ports x22.channels x23.sinks x26.chans x26.snaps x26.zero) :
    Dev.Sound fz ⟨x0, x1, x2, x3, x4, x5, x6, x7, x8, x9, x10, x11, x12, x13, x14, x15, x16, x17, x18, x19, x20,
    x21, x22, x23, x24, x25, x26, x27, x28, x29, x30, x31⟩ := h

theorem sound_eq (fz : Fuses) {e d : Dev} {P : Prop} (heq : e = d) (h : e.Sound fz) (k : d.Sound fz → P) : P := k (heq ▸ h)

theorem sound_cut (fz : Fuses) (d : Dev) {P : Prop} (h : d.Sound fz) (k : d.Sound fz → P) : P := k h

theorem link_cut (l : Link) {P : Prop} (h : l.ports.length = 4) (k : l.ports.length = 4 → P) : P := k h

theorem hka_cut (a : Hka) {P : Prop} (h1 : a.chans.length = 16) (h2 : a.snaps.length = 4) (h3 : a.zero.length = 4)
    (k : a.chans.length = 16 → a.snaps.length = 4 → a.zero.length = 4 → P) : P := k h1 h2 h3

theorem sound_foldl {α : Type} {g : Dev → α → Dev} {d : Dev} {xs : List α}
    (hg : ∀ d x, Dev.Sound fz d → (g d x).Sound fz) (h : d.Sound fz) : (xs.foldl g d).Sound fz := by
  induction xs generalizing d with
  | nil => exact h
  | cons x xs ih => exact ih (hg d x h)

theorem sound_foldl_snd {α β : Type} {g : β × Dev → α → β × Dev} {d : β × Dev} {xs : List α}
    (hg : ∀ d x, Dev.Sound fz d.2 → (g d x).2.Sound fz) (h : d.2.Sound fz) : (xs.foldl g d).2.Sound fz := by
  induction xs generalizing d with
  | nil => exact h
  | cons x xs ih => exact ih (hg d x h)

theorem sound_foldl_fourth {α β γ δ : Type} {g : β × γ × δ × Dev → α → β × γ × δ × Dev} {d : β × γ × δ × Dev}
    {xs : List α} (hg : ∀ d x, Dev.Sound fz d.2.2.2 → (g d x).2.2.2.Sound fz) (h : d.2.2.2.Sound fz) :
    (xs.foldl g d).2.2.2.Sound fz := by
  induction xs generalizing d with
  | nil => exact h
  | cons x xs ih => exact ih (hg d x h)

/-- A command keeps it when its effect does. -/
theorem State.run_sound {f : Dev → Dev} {s t : State} (hs : s.dev.Sound fz) (h : s.run f = .next t)
    (hf : ∀ d, Dev.Sound fz d → (f d).Sound fz) : t.dev.Sound fz := by
  rw [State.run_eq] at h
  cases h
  exact hf _ hs

end Sys2Proof.Machine
end

