-- ==== Sys2Proof/Laws/SoundCore.lean ====
section
/-!
SUPPORT. SoundCore.lean: that each operation and command of the operations over the state, the event router and the time base keeps `Dev.Sound`.
-/

set_option maxRecDepth 4000
set_option linter.unusedTactic false
set_option linter.unreachableTactic false
set_option linter.unusedVariables false

namespace Sys2Proof.Machine

variable {fz : Fuses}

theorem Dev.setReg_sound {d : Dev} {a : Nat} {w : Word} (h : Dev.Sound fz d) : (d.setReg a w).Sound fz :=
  sound_mk ⟨cellsWf_set a w h.1, h.2⟩

theorem Dev.setFld_sound {d : Dev} {f : Fld} {v : Nat} (hk : Dev.Sound fz d) :
    Dev.Sound fz (Dev.setFld d f v) := by
  unfold Dev.setFld
  repeat' first
    | with_reducible assumption
    | with_reducible apply Dev.setReg_sound

theorem Dev.setFlag_sound {d : Dev} {f : Fld} {b : Bool} (hk : Dev.Sound fz d) :
    Dev.Sound fz (Dev.setFlag d f b) := by
  unfold Dev.setFlag
  repeat' first
    | with_reducible assumption
    | with_reducible apply Dev.setFld_sound

theorem Dev.bumpBy_sound {d : Dev} {f : Fld} {n : Nat} (hk : Dev.Sound fz d) :
    Dev.Sound fz (Dev.bumpBy d f n) := by
  unfold Dev.bumpBy
  repeat' first
    | with_reducible assumption
    | with_reducible apply Dev.setFld_sound

theorem Dev.bump_sound {d : Dev} {f : Fld} (hk : Dev.Sound fz d) :
    Dev.Sound fz (Dev.bump d f) := by
  unfold Dev.bump
  repeat' first
    | with_reducible assumption
    | with_reducible apply Dev.bumpBy_sound

theorem Dev.ignoreWrite_sound {d : Dev} (hk : Dev.Sound fz d) :
    Dev.Sound fz (Dev.ignoreWrite d) := by
  unfold Dev.ignoreWrite
  repeat' first
    | with_reducible assumption
    | with_reducible apply Dev.bump_sound

theorem Dev.storeReg_sound {d : Dev} {a : Nat} {v : Word} (hk : Dev.Sound fz d) :
    Dev.Sound fz (Dev.storeReg d a v) := by
  unfold Dev.storeReg
  repeat' first
    | with_reducible assumption
    | ((fail_if_no_progress extract_lets +onlyGivenNames x); first | (refine sound_cut fz x ?_ (fun _ => ?_); unfold x) | skip)
    | with_reducible apply Dev.setReg_sound

theorem Dev.nvmIdle_sound {d : Dev} (hk : Dev.Sound fz d) :
    Dev.Sound fz (Dev.nvmIdle d) := by
  unfold Dev.nvmIdle
  repeat' first
    | with_reducible assumption
    | ((fail_if_no_progress extract_lets +onlyGivenNames x); first | (refine sound_cut fz x ?_ (fun _ => ?_); unfold x) | skip)
    | with_reducible apply Dev.setFlag_sound
    | with_reducible exact sound_mk (Dev.Sound.parts (by assumption))

theorem Dev.logRec_sound {d : Dev} {r : LogRec} (hk : Dev.Sound fz d) :
    Dev.Sound fz (Dev.logRec d r) := by
  unfold Dev.logRec
  repeat' first
    | with_reducible assumption
    | ((fail_if_no_progress extract_lets +onlyGivenNames x); first | (refine sound_cut fz x ?_ (fun _ => ?_); unfold x) | skip)
    | with_reducible apply Dev.setFld_sound
    | with_reducible apply Dev.bump_sound
    | with_reducible exact sound_mk (Dev.Sound.parts (by assumption))
    | split

theorem Dev.logAt_sound {d : Dev} {at_ : Stamp} {src : Nat} {w1 : Word} {w2 : Word} (hk : Dev.Sound fz d) :
    Dev.Sound fz (Dev.logAt d at_ src w1 w2) := by
  unfold Dev.logAt
  repeat' first
    | with_reducible assumption
    | with_reducible apply Dev.logRec_sound
    | with_reducible exact sound_mk (Dev.Sound.parts (by assumption))

theorem Dev.logEvent_sound {d : Dev} {src : Nat} {w1 : Word} {w2 : Word} (hk : Dev.Sound fz d) :
    Dev.Sound fz (Dev.logEvent d src w1 w2) := by
  unfold Dev.logEvent
  repeat' first
    | with_reducible assumption
    | ((fail_if_no_progress extract_lets +onlyGivenNames x); first | (refine sound_cut fz x ?_ (fun _ => ?_); unfold x) | skip)
    | with_reducible apply Dev.logRec_sound
    | with_reducible apply Dev.logAt_sound
    | with_reducible exact sound_mk (Dev.Sound.parts (by assumption))

theorem Dev.nvmWrite_sound {d : Dev} {a : Nat} {z1 : List Byte} (h : Dev.Sound fz d) : (d.nvmWrite a z1).Sound fz := by
  induction z1 generalizing d a with
  | nil => exact h
  | cons v vs ih => exact ih (sound_mk ⟨h.1, h.2.1, cellsWf_set _ v h.2.2.1, h.2.2.2⟩)

theorem Dev.print_sound {d : Dev} {l : OutLine} (hk : Dev.Sound fz d) :
    Dev.Sound fz (Dev.print d l) := by
  unfold Dev.print
  repeat' first
    | with_reducible assumption
    | ((fail_if_no_progress extract_lets +onlyGivenNames x); first | (refine sound_cut fz x ?_ (fun _ => ?_); unfold x) | skip)
    | with_reducible apply Dev.bump_sound
    | with_reducible exact sound_mk (Dev.Sound.parts (by assumption))
    | split

theorem Dev.statusLine_sound {d : Dev} {status : OutLine} (hk : Dev.Sound fz d) :
    Dev.Sound fz (Dev.statusLine d status) := by
  unfold Dev.statusLine
  repeat' first
    | with_reducible assumption
    | with_reducible apply Dev.print_sound
    | with_reducible exact sound_mk (Dev.Sound.parts (by assumption))

theorem Dev.setCon_sound {d : Dev} {c : Console} (hk : Dev.Sound fz d) :
    Dev.Sound fz (Dev.setCon d c) := by
  unfold Dev.setCon
  repeat' first
    | with_reducible assumption
    | with_reducible exact sound_mk (Dev.Sound.parts (by assumption))

theorem Dev.dropLine_sound {d : Dev} (hk : Dev.Sound fz d) :
    Dev.Sound fz (Dev.dropLine d) := by
  unfold Dev.dropLine
  repeat' first
    | with_reducible assumption
    | ((fail_if_no_progress extract_lets +onlyGivenNames x); first | (refine sound_cut fz x ?_ (fun _ => ?_); unfold x) | skip)
    | with_reducible apply Dev.setCon_sound
    | with_reducible exact sound_mk (Dev.Sound.parts (by assumption))

theorem Dev.finish_sound {d : Dev} {status : OutLine} (hk : Dev.Sound fz d) :
    Dev.Sound fz (Dev.finish d status) := by
  unfold Dev.finish
  repeat' first
    | with_reducible assumption
    | with_reducible apply Dev.statusLine_sound
    | with_reducible apply Dev.dropLine_sound
    | with_reducible exact sound_mk (Dev.Sound.parts (by assumption))

theorem Dev.finishOk_sound {d : Dev} (hk : Dev.Sound fz d) :
    Dev.Sound fz (Dev.finishOk d) := by
  unfold Dev.finishOk
  repeat' first
    | with_reducible assumption
    | with_reducible apply Dev.finish_sound

theorem Dev.setBank_sound {d : Dev} {bank w : Nat} {v : Word} (h : Dev.Sound fz d) : (d.setBank bank w v).Sound fz :=
  sound_mk ⟨h.1, cellsWf_set _ v h.2.1, h.2.2⟩

theorem Dev.fillBank_sound {d : Dev} {bank w : Nat} {z1 : List Word} (h : Dev.Sound fz d) : (d.fillBank bank w
    z1).Sound fz := by
  induction z1 generalizing d w with
  | nil => exact h
  | cons v vs ih => exact ih (Dev.setBank_sound h)

theorem Dev.draw_sound {d : Dev} {bound : Nat} (hk : Dev.Sound fz d) :
    Dev.Sound fz (Dev.draw d bound).2 := by
  unfold Dev.draw
  repeat' first
    | with_reducible assumption
    | with_reducible exact sound_mk (Dev.Sound.parts (by assumption))

theorem Dev.printAll_sound {d : Dev} {ls : List OutLine} (hk : Dev.Sound fz d) :
    Dev.Sound fz (Dev.printAll d ls) := by
  unfold Dev.printAll
  repeat' first
    | with_reducible assumption
    | (with_reducible apply sound_foldl; intros)
    | with_reducible apply Dev.print_sound

theorem Dev.finishErr_sound {d : Dev} {code : Nat} (hk : Dev.Sound fz d) :
    Dev.Sound fz (Dev.finishErr d code) := by
  unfold Dev.finishErr
  repeat' first
    | with_reducible assumption
    | with_reducible apply Dev.finish_sound

theorem Dev.command_sound {d : Dev} {c : ConsoleCmd} {f : Dev → Dev} (hk : Dev.Sound fz d) (hf : ∀ e, Dev.Sound fz e →
    Dev.Sound fz (f e)) :
    Dev.Sound fz (Dev.command d c f) := by
  unfold Dev.command
  repeat' first
    | with_reducible assumption
    | with_reducible apply Dev.setCon_sound
    | with_reducible apply hf
    | split

theorem Dev.longCommand_sound {d : Dev} {c : ConsoleCmd} {f : Dev → Dev} (hk : Dev.Sound fz d) (hf : ∀ e, Dev.Sound fz e →
    Dev.Sound fz (f e)) :
    Dev.Sound fz (Dev.longCommand d c f) := by
  unfold Dev.longCommand
  exact Dev.command_sound hk fun e h => hf _ (Dev.dropLine_sound h)

theorem Dev.touchTime_sound {d : Dev} (hk : Dev.Sound fz d) :
    Dev.Sound fz (Dev.touchTime d) := by
  unfold Dev.touchTime
  repeat' first
    | with_reducible assumption
    | ((fail_if_no_progress extract_lets +onlyGivenNames x); first | (refine sound_cut fz x ?_ (fun _ => ?_); unfold x) | skip)
    | (split <;> first | (rename_i heq; simp only [Prod.ext_iff] at heq; refine sound_eq fz heq.2 ?_ (fun _ => ?_)) | skip)
    | with_reducible apply Dev.draw_sound
    | with_reducible exact sound_mk (Dev.Sound.parts (by assumption))

theorem Dev.send_sound {d : Dev} {kind : Nat} {dest : Nat} {payload : List Word} (hk : Dev.Sound fz d) :
    Dev.Sound fz (Dev.send d kind dest payload) := by
  unfold Dev.send
  repeat' first
    | with_reducible assumption
    | with_reducible exact sound_mk (Dev.Sound.parts (by assumption))

theorem Dev.setHostQ_sound {d : Dev} {p : HostPort} {q : HostQ} (hk : Dev.Sound fz d) :
    Dev.Sound fz (Dev.setHostQ d p q) := by
  unfold Dev.setHostQ
  repeat' first
    | with_reducible assumption
    | ((fail_if_no_progress extract_lets +onlyGivenNames x); first | (refine sound_cut fz x ?_ (fun _ => ?_); unfold x) | skip)
    | with_reducible exact sound_mk (Dev.Sound.parts (by assumption))
    | split

theorem Dev.writeRecord_sound {d : Dev} {p : HostPort} {src : Nat} {pri : Nat} {epoch : Nat} {w1 : Word} {w2 : Word}
    {w3 : Word} (hk : Dev.Sound fz d) :
    Dev.Sound fz (Dev.writeRecord d p src pri epoch w1 w2 w3) := by
  unfold Dev.writeRecord
  repeat' first
    | with_reducible assumption
    | ((fail_if_no_progress extract_lets +onlyGivenNames x); first | (refine sound_cut fz x ?_ (fun _ => ?_); unfold x) | skip)
    | with_reducible apply Dev.fillBank_sound
    | with_reducible apply Dev.setFld_sound
    | with_reducible apply Dev.setHostQ_sound
    | with_reducible apply Dev.print_sound
    | split

theorem Dev.hostWake_sound {d : Dev} (hk : Dev.Sound fz d) :
    Dev.Sound fz (Dev.hostWake d) := by
  unfold Dev.hostWake
  repeat' first
    | with_reducible assumption
    | ((fail_if_no_progress extract_lets +onlyGivenNames x); first | (refine sound_cut fz x ?_ (fun _ => ?_); unfold x) | skip)
    | with_reducible apply Dev.setFlag_sound
    | with_reducible exact sound_mk (Dev.Sound.parts (by assumption))
    | split

theorem Dev.remoteWake_sound {d : Dev} {src : Nat} (hk : Dev.Sound fz d) :
    Dev.Sound fz (Dev.remoteWake d src) := by
  unfold Dev.remoteWake
  repeat' first
    | with_reducible assumption
    | ((fail_if_no_progress extract_lets +onlyGivenNames x); first | (refine sound_cut fz x ?_ (fun _ => ?_); unfold x) | skip)
    | with_reducible apply Dev.setFld_sound
    | with_reducible exact sound_mk (Dev.Sound.parts (by assumption))
    | split

theorem Dev.admitWake_sound {d : Dev} {p : HostPort} {src : Nat} {wake : Bool} (hk : Dev.Sound fz d) :
    Dev.Sound fz (Dev.admitWake d p src wake) := by
  unfold Dev.admitWake
  repeat' first
    | with_reducible assumption
    | with_reducible apply Dev.hostWake_sound
    | with_reducible apply Dev.remoteWake_sound
    | split

theorem Dev.writeOverflow_sound {d : Dev} {p : HostPort} {e : Episode} (hk : Dev.Sound fz d) :
    Dev.Sound fz (Dev.writeOverflow d p e) := by
  unfold Dev.writeOverflow
  repeat' first
    | with_reducible assumption
    | ((fail_if_no_progress extract_lets +onlyGivenNames x); first | (refine sound_cut fz x ?_ (fun _ => ?_); unfold x) | skip)
    | with_reducible apply Dev.writeRecord_sound
    | with_reducible apply Dev.setHostQ_sound
    | with_reducible apply Dev.admitWake_sound

theorem Dev.refuseRecord_sound {d : Dev} {p : HostPort} {pri : Nat} {n : Nat} (hk : Dev.Sound fz d) :
    Dev.Sound fz (Dev.refuseRecord d p pri n) := by
  unfold Dev.refuseRecord
  repeat' first
    | with_reducible assumption
    | ((fail_if_no_progress extract_lets +onlyGivenNames x); first | (refine sound_cut fz x ?_ (fun _ => ?_); unfold x) | skip)
    | with_reducible apply Dev.bumpBy_sound
    | with_reducible apply Dev.setHostQ_sound
    | with_reducible apply Dev.writeOverflow_sound
    | with_reducible apply Dev.fillBank_sound
    | split

theorem Dev.forwardRecord_sound {d : Dev} {w0 : Word} {w1 : Word} {w2 : Word} {w3 : Word} (hk : Dev.Sound fz d) :
    Dev.Sound fz (Dev.forwardRecord d w0 w1 w2 w3) := by
  unfold Dev.forwardRecord
  repeat' first
    | with_reducible assumption
    | ((fail_if_no_progress extract_lets +onlyGivenNames x); first | (refine sound_cut fz x ?_ (fun _ => ?_); unfold x) | skip)
    | with_reducible apply Dev.send_sound
    | with_reducible exact sound_mk (Dev.Sound.parts (by assumption))
    | split

theorem Dev.askBurst_sound {d : Dev} (hk : Dev.Sound fz d) :
    Dev.Sound fz (Dev.askBurst d) := by
  unfold Dev.askBurst
  repeat' first
    | with_reducible assumption
    | with_reducible apply Dev.setFlag_sound
    | with_reducible exact sound_mk (Dev.Sound.parts (by assumption))

theorem Dev.startBurst_sound {d : Dev} (hk : Dev.Sound fz d) :
    Dev.Sound fz (Dev.startBurst d) := by
  unfold Dev.startBurst
  repeat' first
    | with_reducible assumption
    | with_reducible apply Dev.setFlag_sound
    | with_reducible exact sound_mk (Dev.Sound.parts (by assumption))

theorem Dev.offer_sound {d : Dev} {p : HostPort} {r : Pend} {wake : Bool} (hk : Dev.Sound fz d) :
    Dev.Sound fz (Dev.offer d p r wake) := by
  unfold Dev.offer
  repeat' first
    | with_reducible assumption
    | ((fail_if_no_progress extract_lets +onlyGivenNames x); first | (refine sound_cut fz x ?_ (fun _ => ?_); unfold x) | skip)
    | with_reducible apply Dev.admitWake_sound
    | with_reducible apply Dev.setHostQ_sound
    | with_reducible apply Dev.setFlag_sound
    | with_reducible apply Dev.refuseRecord_sound
    | with_reducible apply Dev.askBurst_sound
    | with_reducible apply Dev.bump_sound
    | with_reducible exact sound_mk (Dev.Sound.parts (by assumption))
    | split

theorem Dev.refuseTaken_sound {d : Dev} {p : HostPort} {n : Nat} (hk : Dev.Sound fz d) :
    Dev.Sound fz (Dev.refuseTaken d p n) := by
  unfold Dev.refuseTaken
  repeat' first
    | with_reducible assumption
    | with_reducible apply Dev.bumpBy_sound
    | with_reducible apply Dev.setHostQ_sound
    | with_reducible exact sound_mk (Dev.Sound.parts (by assumption))
    | split

theorem Dev.hostRecord_sound {d : Dev} {at_ : Stamp} {src : Nat} {w1 : Word} {w2 : Word} {pairB : Option (Word × Word)} {orig : Option (Word × Word)} (hk : Dev.Sound fz d) :
    Dev.Sound fz (Dev.hostRecord d at_ src w1 w2 pairB orig) := by
  unfold Dev.hostRecord
  repeat' first
    | with_reducible assumption
    | ((fail_if_no_progress extract_lets +onlyGivenNames x); first | (refine sound_cut fz x ?_ (fun _ => ?_); unfold x) | skip)
    | with_reducible apply Dev.bump_sound
    | with_reducible apply Dev.forwardRecord_sound
    | with_reducible apply Dev.hostWake_sound
    | with_reducible apply Dev.offer_sound
    | with_reducible apply Dev.refuseTaken_sound
    | with_reducible exact sound_mk (Dev.Sound.parts (by assumption))
    | split

theorem Dev.coreRecord_sound {d : Dev} {at_ : Stamp} {src : Nat} {w1 : Word} {w2 : Word} (hk : Dev.Sound fz d) :
    Dev.Sound fz (Dev.coreRecord d at_ src w1 w2) := by
  unfold Dev.coreRecord
  repeat' first
    | with_reducible assumption
    | ((fail_if_no_progress extract_lets +onlyGivenNames x); first | (refine sound_cut fz x ?_ (fun _ => ?_); unfold x) | skip)
    | with_reducible apply Dev.bump_sound
    | with_reducible apply Dev.hostRecord_sound
    | with_reducible apply Dev.logAt_sound
    | with_reducible exact sound_mk (Dev.Sound.parts (by assumption))
    | split

theorem Dev.acceptAt_sound {d : Dev} {at_ : Stamp} {src : Nat} {w1 : Word} {w2 : Word} {pairB : Option (Word × Word)} {orig : Option (Word × Word)} (hk : Dev.Sound fz d) :
    Dev.Sound fz (Dev.acceptAt d at_ src w1 w2 pairB orig) := by
  unfold Dev.acceptAt
  repeat' first
    | with_reducible assumption
    | ((fail_if_no_progress extract_lets +onlyGivenNames x); first | (refine sound_cut fz x ?_ (fun _ => ?_); unfold x) | skip)
    | with_reducible apply Dev.coreRecord_sound
    | with_reducible apply Dev.hostRecord_sound
    | with_reducible apply Dev.logAt_sound
    | with_reducible exact sound_mk (Dev.Sound.parts (by assumption))
    | split

theorem Dev.accept_sound {d : Dev} {src : Nat} {w1 : Word} {w2 : Word} {pairB : Option (Word × Word)} {orig : Option
    (Word × Word)} (hk : Dev.Sound fz d) :
    Dev.Sound fz (Dev.accept d src w1 w2 pairB orig) := by
  unfold Dev.accept
  repeat' first
    | with_reducible assumption
    | ((fail_if_no_progress extract_lets +onlyGivenNames x); first | (refine sound_cut fz x ?_ (fun _ => ?_); unfold x) | skip)
    | with_reducible apply Dev.bump_sound
    | with_reducible apply Dev.touchTime_sound
    | with_reducible apply Dev.logEvent_sound
    | with_reducible apply Dev.coreRecord_sound
    | with_reducible apply Dev.hostRecord_sound
    | with_reducible apply Dev.acceptAt_sound
    | with_reducible exact sound_mk (Dev.Sound.parts (by assumption))
    | split

theorem Dev.ringPair_sound {d : Dev} {a1 : Word} {a2 : Word} {b1 : Word} {b2 : Word} (hk : Dev.Sound fz d) :
    Dev.Sound fz (Dev.ringPair d a1 a2 b1 b2) := by
  unfold Dev.ringPair
  repeat' first
    | with_reducible assumption
    | with_reducible apply Dev.accept_sound

theorem Dev.setSrcCfg_sound {d : Dev} {src : Nat} {w : Word} (hk : Dev.Sound fz d) :
    Dev.Sound fz (Dev.setSrcCfg d src w) := by
  unfold Dev.setSrcCfg
  repeat' first
    | with_reducible assumption
    | ((fail_if_no_progress extract_lets +onlyGivenNames x); first | (refine sound_cut fz x ?_ (fun _ => ?_); unfold x) | skip)
    | with_reducible exact sound_mk (Dev.Sound.parts (by assumption))

theorem Dev.ring_sound {d : Dev} {src : Nat} {w1 : Word} {w2 : Word} (hk : Dev.Sound fz d) :
    Dev.Sound fz (Dev.ring d src w1 w2) := by
  unfold Dev.ring
  repeat' first
    | with_reducible assumption
    | with_reducible apply Dev.accept_sound

theorem Dev.endEpisode_sound {d : Dev} {p : HostPort} (hk : Dev.Sound fz d) :
    Dev.Sound fz (Dev.endEpisode d p) := by
  unfold Dev.endEpisode
  repeat' first
    | with_reducible assumption
    | ((fail_if_no_progress extract_lets +onlyGivenNames x); first | (refine sound_cut fz x ?_ (fun _ => ?_); unfold x) | skip)
    | with_reducible apply Dev.fillBank_sound
    | with_reducible apply Dev.setHostQ_sound
    | with_reducible apply Dev.setFlag_sound
    | with_reducible apply Dev.logEvent_sound
    | with_reducible apply Dev.askBurst_sound
    | with_reducible exact sound_mk (Dev.Sound.parts (by assumption))
    | split

theorem Dev.orderTo_sound {d : Dev} {p : HostPort} {w1 : Word} {w2 : Word} (hk : Dev.Sound fz d) :
    Dev.Sound fz (Dev.orderTo d p w1 w2) := by
  unfold Dev.orderTo
  repeat' first
    | with_reducible assumption
    | ((fail_if_no_progress extract_lets +onlyGivenNames x); first | (refine sound_cut fz x ?_ (fun _ => ?_); unfold x) | skip)
    | with_reducible apply Dev.admitWake_sound
    | with_reducible apply Dev.refuseRecord_sound
    | with_reducible apply Dev.refuseTaken_sound
    | with_reducible apply Dev.setHostQ_sound
    | with_reducible exact sound_mk (Dev.Sound.parts (by assumption))
    | split

theorem Dev.raiseOrder_sound {d : Dev} {p : HostPort} {w1 : Word} {w2 : Word} (hk : Dev.Sound fz d) :
    Dev.Sound fz (Dev.raiseOrder d p w1 w2) := by
  unfold Dev.raiseOrder
  repeat' first
    | with_reducible assumption
    | ((fail_if_no_progress extract_lets +onlyGivenNames x); first | (refine sound_cut fz x ?_ (fun _ => ?_); unfold x) | skip)
    | with_reducible apply Dev.touchTime_sound
    | with_reducible apply Dev.admitWake_sound
    | with_reducible apply Dev.setHostQ_sound
    | with_reducible apply Dev.refuseRecord_sound
    | with_reducible apply Dev.bump_sound
    | with_reducible apply Dev.orderTo_sound
    | with_reducible exact sound_mk (Dev.Sound.parts (by assumption))
    | split

theorem Dev.writeForward_sound {d : Dev} {p : HostPort} {slot : Nat} {orig : Option (Word × Word)} (hk : Dev.Sound
    fz d) :
    Dev.Sound fz (Dev.writeForward d p slot orig) := by
  unfold Dev.writeForward
  repeat' first
    | with_reducible assumption
    | ((fail_if_no_progress extract_lets +onlyGivenNames x); first | (refine sound_cut fz x ?_ (fun _ => ?_); unfold x) | skip)
    | with_reducible apply Dev.fillBank_sound
    | split

theorem Dev.assertAlert_sound {d : Dev} {p : HostPort} {pri : Nat} (hk : Dev.Sound fz d) :
    Dev.Sound fz (Dev.assertAlert d p pri) := by
  unfold Dev.assertAlert
  repeat' first
    | with_reducible assumption
    | with_reducible apply Dev.setFlag_sound
    | split

theorem Dev.deliver_sound {d : Dev} {p : HostPort} {r : Pend} (hk : Dev.Sound fz d) :
    Dev.Sound fz (Dev.deliver d p r) := by
  unfold Dev.deliver
  repeat' first
    | with_reducible assumption
    | ((fail_if_no_progress extract_lets +onlyGivenNames x); first | (refine sound_cut fz x ?_ (fun _ => ?_); unfold x) | skip)
    | with_reducible apply Dev.writeRecord_sound
    | with_reducible apply Dev.writeForward_sound
    | with_reducible apply Dev.assertAlert_sound
    | with_reducible apply Dev.setHostQ_sound
    | split

theorem Dev.deliverNext_sound {d : Dev} {p : HostPort} (hk : Dev.Sound fz d) :
    Dev.Sound fz (Dev.deliverNext d p) := by
  unfold Dev.deliverNext
  repeat' first
    | with_reducible assumption
    | ((fail_if_no_progress extract_lets +onlyGivenNames x); first | (refine sound_cut fz x ?_ (fun _ => ?_); unfold x) | skip)
    | with_reducible apply Dev.deliver_sound
    | with_reducible apply Dev.setHostQ_sound
    | split

theorem Dev.setCore_sound {d : Dev} {n : Nat} {c : CoreQ} (hk : Dev.Sound fz d) :
    Dev.Sound fz (Dev.setCore d n c) := by
  unfold Dev.setCore
  repeat' first
    | with_reducible assumption
    | ((fail_if_no_progress extract_lets +onlyGivenNames x); first | (refine sound_cut fz x ?_ (fun _ => ?_); unfold x) | skip)
    | with_reducible exact sound_mk (Dev.Sound.parts (by assumption))

theorem Dev.coreFault_sound {d : Dev} {n : Nat} {kind : Nat} {pri : Nat} {src : Nat} (hk : Dev.Sound fz d) :
    Dev.Sound fz (Dev.coreFault d n kind pri src) := by
  unfold Dev.coreFault
  repeat' first
    | with_reducible assumption
    | ((fail_if_no_progress extract_lets +onlyGivenNames x); first | (refine sound_cut fz x ?_ (fun _ => ?_); unfold x) | skip)
    | with_reducible apply Dev.hostRecord_sound
    | with_reducible apply Dev.logEvent_sound
    | with_reducible apply Dev.orderTo_sound
    | with_reducible apply Dev.raiseOrder_sound
    | with_reducible apply Dev.setCore_sound
    | with_reducible apply Dev.touchTime_sound
    | with_reducible exact sound_mk (Dev.Sound.parts (by assumption))
    | split

theorem Dev.preferCore_sound {d : Dev} {n : Nat} {src : Nat} (hk : Dev.Sound fz d) :
    Dev.Sound fz (Dev.preferCore d n src) := by
  unfold Dev.preferCore
  repeat' first
    | with_reducible assumption
    | with_reducible exact sound_mk (Dev.Sound.parts (by assumption))
    | split

theorem execCoreDone_sound {core : BitVec 2} {src : BitVec 9} {s : State} {t : State}
    (hk : s.dev.Sound fz) (h : execCoreDone core src s = .next t) : t.dev.Sound fz := by
  unfold execCoreDone at h
  refine State.run_sound hk h (fun d hk => ?_)
  repeat' first
    | with_reducible assumption
    | ((fail_if_no_progress extract_lets +onlyGivenNames x); first | (refine sound_cut fz x ?_ (fun _ => ?_); unfold x) | skip)
    | with_reducible apply Dev.coreFault_sound
    | with_reducible apply Dev.setCore_sound
    | with_reducible apply Dev.preferCore_sound
    | with_reducible apply State.run_sound
    | with_reducible exact sound_mk (Dev.Sound.parts (by assumption))
    | split

theorem Dev.coreDeliver_sound {d : Dev} (hk : Dev.Sound fz d) :
    Dev.Sound fz (Dev.coreDeliver d) := by
  unfold Dev.coreDeliver
  repeat' first
    | with_reducible assumption
    | ((fail_if_no_progress extract_lets +onlyGivenNames x); first | (refine sound_cut fz x ?_ (fun _ => ?_); unfold x) | skip)
    | with_reducible apply Dev.setCore_sound
    | with_reducible apply Dev.bump_sound
    | with_reducible apply Dev.setFld_sound
    | with_reducible exact sound_mk (Dev.Sound.parts (by assumption))
    | split

theorem Dev.judgeAlert_sound {d : Dev} (hk : Dev.Sound fz d) :
    Dev.Sound fz (Dev.judgeAlert d) := by
  unfold Dev.judgeAlert
  repeat' first
    | with_reducible assumption
    | with_reducible apply Dev.setFlag_sound
    | split

theorem execGdis_sound {p : HostPort} {value : Word} {s : State} {t : State}
    (hk : s.dev.Sound fz) (h : execGdis p value s = .next t) : t.dev.Sound fz := by
  unfold execGdis at h
  refine State.run_sound hk h (fun d hk => ?_)
  repeat' first
    | with_reducible assumption
    | with_reducible apply Dev.setFld_sound

theorem execModerationExpiry_sound {p : HostPort} {src : BitVec 9} {s : State} {t : State}
    (hk : s.dev.Sound fz) (h : execModerationExpiry p src s = .next t) : t.dev.Sound fz := by
  unfold execModerationExpiry at h
  refine State.run_sound hk h (fun d hk => ?_)
  repeat' first
    | with_reducible assumption
    | ((fail_if_no_progress extract_lets +onlyGivenNames x); first | (refine sound_cut fz x ?_ (fun _ => ?_); unfold x) | skip)
    | with_reducible apply Dev.setHostQ_sound

theorem Dev.orderFault_sound {d : Dev} {p : HostPort} {kind : Nat} {pri : Nat} {src : Nat} (hk : Dev.Sound fz d) :
    Dev.Sound fz (Dev.orderFault d p kind pri src) := by
  unfold Dev.orderFault
  repeat' first
    | with_reducible assumption
    | ((fail_if_no_progress extract_lets +onlyGivenNames x); first | (refine sound_cut fz x ?_ (fun _ => ?_); unfold x) | skip)
    | with_reducible apply Dev.setHostQ_sound
    | with_reducible apply Dev.setReg_sound
    | with_reducible apply Dev.bump_sound
    | with_reducible apply Dev.raiseOrder_sound
    | with_reducible apply Dev.logEvent_sound

theorem Dev.take_sound {d : Dev} {p : HostPort} {w0 : Word} (hk : Dev.Sound fz d) :
    Dev.Sound fz (Dev.take d p w0) := by
  unfold Dev.take
  repeat' first
    | with_reducible assumption
    | ((fail_if_no_progress extract_lets +onlyGivenNames x); first | (refine sound_cut fz x ?_ (fun _ => ?_); unfold x) | skip)
    | with_reducible apply Dev.bump_sound
    | with_reducible apply Dev.setHostQ_sound
    | with_reducible apply Dev.orderFault_sound
    | split

theorem execDoorbell_sound {src : BitVec 9} {w1 : Word} {w2 : Word} {s : State} {t : State}
    (hk : s.dev.Sound fz) (h : execDoorbell src w1 w2 s = .next t) : t.dev.Sound fz := by
  unfold execDoorbell at h
  refine State.run_sound hk h (fun d hk => ?_)
  repeat' first
    | with_reducible assumption
    | with_reducible apply Dev.ring_sound

theorem Dev.resetStack_sound {d : Dev} {p : HostPort} {v : Word} (hk : Dev.Sound fz d) :
    Dev.Sound fz (Dev.resetStack d p v) := by
  unfold Dev.resetStack
  repeat' first
    | with_reducible assumption
    | ((fail_if_no_progress extract_lets +onlyGivenNames x); first | (refine sound_cut fz x ?_ (fun _ => ?_); unfold x) | skip)
    | with_reducible apply Dev.setHostQ_sound
    | split

theorem execStackrst_sound {p : HostPort} {value : Word} {s : State} {t : State}
    (hk : s.dev.Sound fz) (h : execStackrst p value s = .next t) : t.dev.Sound fz := by
  unfold execStackrst at h
  refine State.run_sound hk h (fun d hk => ?_)
  repeat' first
    | with_reducible assumption
    | with_reducible apply Dev.resetStack_sound

theorem execCoreDelivery_sound {s : State} {t : State}
    (hk : s.dev.Sound fz) (h : execCoreDelivery s = .next t) : t.dev.Sound fz := by
  unfold execCoreDelivery at h
  refine State.run_sound hk h (fun d hk => ?_)
  repeat' first
    | with_reducible assumption
    | with_reducible apply Dev.coreDeliver_sound

theorem execRecordDelivery_sound {p : HostPort} {s : State} {t : State}
    (hk : s.dev.Sound fz) (h : execRecordDelivery p s = .next t) : t.dev.Sound fz := by
  unfold execRecordDelivery at h
  refine State.run_sound hk h (fun d hk => ?_)
  repeat' first
    | with_reducible assumption
    | with_reducible apply Dev.deliverNext_sound

theorem Dev.releaseTo_sound {d : Dev} {p : HostPort} {new : Nat} (hk : Dev.Sound fz d) :
    Dev.Sound fz (Dev.releaseTo d p new) := by
  unfold Dev.releaseTo
  repeat' first
    | with_reducible assumption
    | ((fail_if_no_progress extract_lets +onlyGivenNames x); first | (refine sound_cut fz x ?_ (fun _ => ?_); unfold x) | skip)
    | with_reducible apply Dev.bump_sound
    | with_reducible apply Dev.setFld_sound
    | with_reducible apply Dev.setHostQ_sound
    | with_reducible apply Dev.endEpisode_sound
    | with_reducible apply Dev.writeOverflow_sound
    | with_reducible apply Dev.judgeAlert_sound
    | with_reducible apply Dev.touchTime_sound
    | with_reducible exact sound_mk (Dev.Sound.parts (by assumption))
    | split

theorem execRingReadPointer_sound {p : HostPort} {value : Word} {s : State} {t : State}
    (hk : s.dev.Sound fz) (h : execRingReadPointer p value s = .next t) : t.dev.Sound fz := by
  unfold execRingReadPointer at h
  refine State.run_sound hk h (fun d hk => ?_)
  repeat' first
    | with_reducible assumption
    | with_reducible apply Dev.releaseTo_sound

theorem Dev.hostDoorbell_sound {d : Dev} {value : Word} (hk : Dev.Sound fz d) :
    Dev.Sound fz (Dev.hostDoorbell d value) := by
  unfold Dev.hostDoorbell
  repeat' first
    | with_reducible assumption
    | with_reducible apply Dev.ring_sound
    | with_reducible apply Dev.bump_sound
    | split

theorem execHostDoorbell_sound {value : Word} {s : State} {t : State}
    (hk : s.dev.Sound fz) (h : execHostDoorbell value s = .next t) : t.dev.Sound fz := by
  unfold execHostDoorbell at h
  refine State.run_sound hk h (fun d hk => ?_)
  repeat' first
    | with_reducible assumption
    | with_reducible apply Dev.hostDoorbell_sound

theorem Dev.serviceTimeout_sound {d : Dev} {p : HostPort} (hk : Dev.Sound fz d) :
    Dev.Sound fz (Dev.serviceTimeout d p) := by
  unfold Dev.serviceTimeout
  repeat' first
    | with_reducible assumption
    | ((fail_if_no_progress extract_lets +onlyGivenNames x); first | (refine sound_cut fz x ?_ (fun _ => ?_); unfold x) | skip)
    | with_reducible apply Dev.setHostQ_sound
    | with_reducible apply Dev.ring_sound
    | split

theorem execEvrServiceTimeout_sound {p : HostPort} {s : State} {t : State}
    (hk : s.dev.Sound fz) (h : execEvrServiceTimeout p s = .next t) : t.dev.Sound fz := by
  unfold execEvrServiceTimeout at h
  refine State.run_sound hk h (fun d hk => ?_)
  repeat' first
    | with_reducible assumption
    | with_reducible apply Dev.serviceTimeout_sound

theorem execTake_sound {p : HostPort} {w0 : Word} {s : State} {t : State}
    (hk : s.dev.Sound fz) (h : execTake p w0 s = .next t) : t.dev.Sound fz := by
  unfold execTake at h
  refine State.run_sound hk h (fun d hk => ?_)
  repeat' first
    | with_reducible assumption
    | with_reducible apply Dev.take_sound

theorem Dev.writeSrcCfg_sound {d : Dev} {src : Nat} {v : Word} (hk : Dev.Sound fz d) :
    Dev.Sound fz (Dev.writeSrcCfg d src v) := by
  unfold Dev.writeSrcCfg
  repeat' first
    | with_reducible assumption
    | ((fail_if_no_progress extract_lets +onlyGivenNames x); first | (refine sound_cut fz x ?_ (fun _ => ?_); unfold x) | skip)
    | (with_reducible apply sound_foldl; intros)
    | with_reducible apply Dev.ignoreWrite_sound
    | with_reducible apply Dev.setSrcCfg_sound
    | split

theorem execSourceConfigWrite_sound {value : Word} {s : State} {t : State}
    (hk : s.dev.Sound fz) (h : execSourceConfigWrite value s = .next t) : t.dev.Sound fz := by
  unfold execSourceConfigWrite at h
  refine State.run_sound hk h (fun d hk => ?_)
  repeat' first
    | with_reducible assumption
    | with_reducible apply Dev.writeSrcCfg_sound

theorem execCoreTake_sound {core : BitVec 2} {src : BitVec 9} {pri : BitVec 4} {s : State} {t : State}
    (hk : s.dev.Sound fz) (h : execCoreTake core src pri s = .next t) : t.dev.Sound fz := by
  unfold execCoreTake at h
  refine State.run_sound hk h (fun d hk => ?_)
  repeat' first
    | with_reducible assumption
    | ((fail_if_no_progress extract_lets +onlyGivenNames x); first | (refine sound_cut fz x ?_ (fun _ => ?_); unfold x) | skip)
    | with_reducible apply Dev.setCore_sound
    | with_reducible apply Dev.coreFault_sound
    | split

theorem Dev.complete_sound {d : Dev} {p : HostPort} {src : Nat} (hk : Dev.Sound fz d) :
    Dev.Sound fz (Dev.complete d p src) := by
  unfold Dev.complete
  repeat' first
    | with_reducible assumption
    | ((fail_if_no_progress extract_lets +onlyGivenNames x); first | (refine sound_cut fz x ?_ (fun _ => ?_); unfold x) | skip)
    | with_reducible apply Dev.bump_sound
    | with_reducible apply Dev.orderFault_sound
    | with_reducible apply Dev.setHostQ_sound
    | split

theorem execDone_sound {p : HostPort} {value : Word} {s : State} {t : State}
    (hk : s.dev.Sound fz) (h : execDone p value s = .next t) : t.dev.Sound fz := by
  unfold execDone at h
  refine State.run_sound hk h (fun d hk => ?_)
  repeat' first
    | with_reducible assumption
    | with_reducible apply Dev.complete_sound

theorem Dev.setSlewRem_sound {d : Dev} {i : Int} (hk : Dev.Sound fz d) :
    Dev.Sound fz (Dev.setSlewRem d i) := by
  unfold Dev.setSlewRem
  repeat' first
    | with_reducible assumption
    | with_reducible apply Dev.setFlag_sound
    | with_reducible apply Dev.setReg_sound

theorem Dev.timeStep_sound {d : Dev} {u : Nat} {epoch : Nat} {reason : Nat} (hk : Dev.Sound fz d) :
    Dev.Sound fz (Dev.timeStep d u epoch reason) := by
  unfold Dev.timeStep
  repeat' first
    | with_reducible assumption
    | ((fail_if_no_progress extract_lets +onlyGivenNames x); first | (refine sound_cut fz x ?_ (fun _ => ?_); unfold x) | skip)
    | with_reducible apply Dev.setFlag_sound
    | with_reducible apply Dev.setSlewRem_sound
    | with_reducible apply Dev.bump_sound
    | with_reducible apply Dev.ring_sound
    | with_reducible exact sound_mk (Dev.Sound.parts (by assumption))

theorem Dev.workerStep_sound {d : Dev} {off : Int} {epoch : Nat} {reason : Nat} (hk : Dev.Sound fz d) :
    Dev.Sound fz (Dev.workerStep d off epoch reason) := by
  unfold Dev.workerStep
  repeat' first
    | with_reducible assumption
    | ((fail_if_no_progress extract_lets +onlyGivenNames x); first | (refine sound_cut fz x ?_ (fun _ => ?_); unfold x) | skip)
    | with_reducible apply Dev.timeStep_sound
    | with_reducible apply Dev.setFlag_sound
    | with_reducible apply Dev.logEvent_sound
    | with_reducible apply Dev.ring_sound
    | with_reducible exact sound_mk (Dev.Sound.parts (by assumption))
    | split

theorem Dev.applySlew_sound {d : Dev} (hk : Dev.Sound fz d) :
    Dev.Sound fz (Dev.applySlew d) := by
  unfold Dev.applySlew
  repeat' first
    | with_reducible assumption
    | ((fail_if_no_progress extract_lets +onlyGivenNames x); first | (refine sound_cut fz x ?_ (fun _ => ?_); unfold x) | skip)
    | with_reducible apply Dev.setSlewRem_sound
    | with_reducible exact sound_mk (Dev.Sound.parts (by assumption))
    | split

theorem Dev.countTick_sound {d : Dev} (hk : Dev.Sound fz d) :
    Dev.Sound fz (Dev.countTick d) := by
  unfold Dev.countTick
  repeat' first
    | with_reducible assumption
    | ((fail_if_no_progress extract_lets +onlyGivenNames x); first | (refine sound_cut fz x ?_ (fun _ => ?_); unfold x) | skip)
    | with_reducible apply Dev.setSlewRem_sound
    | with_reducible apply Dev.ring_sound
    | with_reducible exact sound_mk (Dev.Sound.parts (by assumption))
    | split

theorem Dev.judgeAlarm_sound {d : Dev} (hk : Dev.Sound fz d) :
    Dev.Sound fz (Dev.judgeAlarm d) := by
  unfold Dev.judgeAlarm
  repeat' first
    | with_reducible assumption
    | ((fail_if_no_progress extract_lets +onlyGivenNames x); first | (refine sound_cut fz x ?_ (fun _ => ?_); unfold x) | skip)
    | with_reducible apply Dev.setFlag_sound
    | with_reducible apply Dev.ring_sound
    | with_reducible exact sound_mk (Dev.Sound.parts (by assumption))
    | split

theorem Dev.tickBoundary_sound {d : Dev} (hk : Dev.Sound fz d) :
    Dev.Sound fz (Dev.tickBoundary d) := by
  unfold Dev.tickBoundary
  repeat' first
    | with_reducible assumption
    | ((fail_if_no_progress extract_lets +onlyGivenNames x); first | (refine sound_cut fz x ?_ (fun _ => ?_); unfold x) | skip)
    | with_reducible apply Dev.timeStep_sound
    | with_reducible apply Dev.workerStep_sound
    | with_reducible apply Dev.applySlew_sound
    | with_reducible apply Dev.countTick_sound
    | with_reducible apply Dev.setFlag_sound
    | with_reducible apply Dev.judgeAlarm_sound
    | with_reducible exact sound_mk (Dev.Sound.parts (by assumption))
    | split

theorem Dev.writeAlarmCtrl_sound {d : Dev} {v : Word} (hk : Dev.Sound fz d) :
    Dev.Sound fz (Dev.writeAlarmCtrl d v) := by
  unfold Dev.writeAlarmCtrl
  repeat' first
    | with_reducible assumption
    | ((fail_if_no_progress extract_lets +onlyGivenNames x); first | (refine sound_cut fz x ?_ (fun _ => ?_); unfold x) | skip)
    | with_reducible apply Dev.storeReg_sound
    | with_reducible exact sound_mk (Dev.Sound.parts (by assumption))

theorem Dev.timeLoad_sound {d : Dev} (hk : Dev.Sound fz d) :
    Dev.Sound fz (Dev.timeLoad d) := by
  unfold Dev.timeLoad
  repeat' first
    | with_reducible assumption
    | ((fail_if_no_progress extract_lets +onlyGivenNames x); first | (refine sound_cut fz x ?_ (fun _ => ?_); unfold x) | skip)
    | with_reducible apply Dev.ignoreWrite_sound
    | with_reducible apply Dev.setFlag_sound
    | with_reducible exact sound_mk (Dev.Sound.parts (by assumption))
    | split

theorem execTimeLoad_sound {s : State} {t : State}
    (hk : s.dev.Sound fz) (h : execTimeLoad s = .next t) : t.dev.Sound fz := by
  unfold execTimeLoad at h
  refine State.run_sound hk h (fun d hk => ?_)
  repeat' first
    | with_reducible assumption
    | with_reducible apply Dev.timeLoad_sound

theorem Dev.printRun_sound {d : Dev} {ls : List OutLine} (hk : Dev.Sound fz d) :
    Dev.Sound fz (Dev.printRun d ls) := by
  unfold Dev.printRun
  repeat' first
    | with_reducible assumption
    | ((fail_if_no_progress extract_lets +onlyGivenNames x); first | (refine sound_cut fz x ?_ (fun _ => ?_); unfold x) | skip)
    | with_reducible exact sound_mk (Dev.Sound.parts (by assumption))

theorem Dev.timeSlew_sound {d : Dev} (hk : Dev.Sound fz d) :
    Dev.Sound fz (Dev.timeSlew d) := by
  unfold Dev.timeSlew
  repeat' first
    | with_reducible assumption
    | ((fail_if_no_progress extract_lets +onlyGivenNames x); first | (refine sound_cut fz x ?_ (fun _ => ?_); unfold x) | skip)
    | with_reducible apply Dev.ignoreWrite_sound
    | with_reducible apply Dev.bump_sound
    | with_reducible exact sound_mk (Dev.Sound.parts (by assumption))
    | split

theorem Dev.timeCancel_sound {d : Dev} (hk : Dev.Sound fz d) :
    Dev.Sound fz (Dev.timeCancel d) := by
  unfold Dev.timeCancel
  repeat' first
    | with_reducible assumption
    | ((fail_if_no_progress extract_lets +onlyGivenNames x); first | (refine sound_cut fz x ?_ (fun _ => ?_); unfold x) | skip)
    | with_reducible apply Dev.ignoreWrite_sound
    | with_reducible apply Dev.setFlag_sound
    | with_reducible apply Dev.setSlewRem_sound
    | with_reducible exact sound_mk (Dev.Sound.parts (by assumption))
    | split

theorem execBeaconGap_sound {s : State} {t : State}
    (hk : s.dev.Sound fz) (h : execBeaconGap s = .next t) : t.dev.Sound fz := by
  unfold execBeaconGap at h
  refine State.run_sound hk h (fun d hk => ?_)
  repeat' first
    | with_reducible assumption
    | with_reducible apply Dev.ring_sound
    | with_reducible apply Dev.setFlag_sound
    | split

theorem execTimeSlew_sound {s : State} {t : State}
    (hk : s.dev.Sound fz) (h : execTimeSlew s = .next t) : t.dev.Sound fz := by
  unfold execTimeSlew at h
  refine State.run_sound hk h (fun d hk => ?_)
  repeat' first
    | with_reducible assumption
    | with_reducible apply Dev.timeSlew_sound

theorem execAlarmArm_sound {s : State} {t : State}
    (hk : s.dev.Sound fz) (h : execAlarmArm s = .next t) : t.dev.Sound fz := by
  unfold execAlarmArm at h
  refine State.run_sound hk h (fun d hk => ?_)
  repeat' first
    | with_reducible assumption
    | with_reducible apply Dev.writeAlarmCtrl_sound

theorem Dev.setPwr_sound {d : Dev} {p : Power} (hk : Dev.Sound fz d) :
    Dev.Sound fz (Dev.setPwr d p) := by
  unfold Dev.setPwr
  repeat' first
    | with_reducible assumption
    | with_reducible exact sound_mk (Dev.Sound.parts (by assumption))

theorem Dev.foscStart_sound {d : Dev} (hk : Dev.Sound fz d) :
    Dev.Sound fz (Dev.foscStart d) := by
  unfold Dev.foscStart
  repeat' first
    | with_reducible assumption
    | ((fail_if_no_progress extract_lets +onlyGivenNames x); first | (refine sound_cut fz x ?_ (fun _ => ?_); unfold x) | skip)
    | with_reducible apply Dev.setFlag_sound
    | with_reducible apply Dev.setFld_sound
    | with_reducible apply Dev.setPwr_sound
    | with_reducible exact sound_mk (Dev.Sound.parts (by assumption))

theorem Dev.takeSnapshot_sound {d : Dev} {rq : Requester} (hk : Dev.Sound fz d) :
    Dev.Sound fz (Dev.takeSnapshot d rq) := by
  unfold Dev.takeSnapshot
  repeat' first
    | with_reducible assumption
    | ((fail_if_no_progress extract_lets +onlyGivenNames x); first | (refine sound_cut fz x ?_ (fun _ => ?_); unfold x) | skip)
    | with_reducible apply Dev.touchTime_sound
    | with_reducible exact sound_mk (Dev.Sound.parts (by assumption))
    | split

theorem execTimeSnapshot_sound {rq : Requester} {s : State} {t : State}
    (hk : s.dev.Sound fz) (h : execTimeSnapshot rq s = .next t) : t.dev.Sound fz := by
  unfold execTimeSnapshot at h
  refine State.run_sound hk h (fun d hk => ?_)
  repeat' first
    | with_reducible assumption
    | with_reducible apply Dev.takeSnapshot_sound

theorem Dev.writeAlarmValue_sound {d : Dev} {a : Nat} {v : Word} (hk : Dev.Sound fz d) :
    Dev.Sound fz (Dev.writeAlarmValue d a v) := by
  unfold Dev.writeAlarmValue
  repeat' first
    | with_reducible assumption
    | ((fail_if_no_progress extract_lets +onlyGivenNames x); first | (refine sound_cut fz x ?_ (fun _ => ?_); unfold x) | skip)
    | with_reducible apply Dev.storeReg_sound
    | with_reducible exact sound_mk (Dev.Sound.parts (by assumption))
    | split

theorem execTimeCancel_sound {s : State} {t : State}
    (hk : s.dev.Sound fz) (h : execTimeCancel s = .next t) : t.dev.Sound fz := by
  unfold execTimeCancel at h
  refine State.run_sound hk h (fun d hk => ?_)
  repeat' first
    | with_reducible assumption
    | with_reducible apply Dev.timeCancel_sound

theorem execAlarmValueWrite_sound {part : BitVec 2} {value : Word} {s : State} {t : State}
    (hk : s.dev.Sound fz) (h : execAlarmValueWrite part value s = .next t) : t.dev.Sound fz := by
  unfold execAlarmValueWrite at h
  refine State.run_sound hk h (fun d hk => ?_)
  repeat' first
    | with_reducible assumption
    | with_reducible apply Dev.writeAlarmValue_sound
    | split

end Sys2Proof.Machine
end

