-- ==== Sys2Proof/Laws/SoundDrive.lean ====
section
/-!
SUPPORT. SoundDrive.lean: that each operation and command of lamps and rails keeps `Dev.Sound`.
-/

set_option maxRecDepth 4000
set_option linter.unusedTactic false
set_option linter.unreachableTactic false
set_option linter.unusedVariables false

namespace Sys2Proof.Machine

variable {fz : Fuses}

theorem Dev.setLamp_sound {d : Dev} {n : Nat} {v : Lamp} (hk : Dev.Sound fz d) :
    Dev.Sound fz (Dev.setLamp d n v) := by
  unfold Dev.setLamp
  repeat' first
    | with_reducible assumption
    | ((fail_if_no_progress extract_lets +onlyGivenNames x); first | (refine sound_cut fz x ?_ (fun _ => ?_); unfold x) | skip)
    | with_reducible exact sound_mk (Dev.Sound.parts (by assumption))

theorem Dev.sweepCmds_sound {d : Dev} (hk : Dev.Sound fz d) :
    Dev.Sound fz (Dev.sweepCmds d) := by
  unfold Dev.sweepCmds
  repeat' first
    | with_reducible assumption
    | ((fail_if_no_progress extract_lets +onlyGivenNames x); first | (refine sound_cut fz x ?_ (fun _ => ?_); unfold x) | skip)
    | with_reducible exact sound_mk (Dev.Sound.parts (by assumption))

theorem Dev.mapLamps_sound {d : Dev} {f : Nat → Lamp → Lamp} (hk : Dev.Sound fz d) :
    Dev.Sound fz (Dev.mapLamps d f) := by
  unfold Dev.mapLamps
  repeat' first
    | with_reducible assumption
    | ((fail_if_no_progress extract_lets +onlyGivenNames x); first | (refine sound_cut fz x ?_ (fun _ => ?_); unfold x) | skip)
    | with_reducible exact sound_mk (Dev.Sound.parts (by assumption))

theorem Dev.fadeTick_sound {d : Dev} (hk : Dev.Sound fz d) :
    Dev.Sound fz (Dev.fadeTick d) := by
  unfold Dev.fadeTick
  repeat' first
    | with_reducible assumption
    | ((fail_if_no_progress extract_lets +onlyGivenNames x); first | (refine sound_cut fz x ?_ (fun _ => ?_); unfold x) | skip)
    | (with_reducible apply sound_foldl; intros)
    | with_reducible apply Dev.sweepCmds_sound
    | with_reducible apply Dev.mapLamps_sound
    | with_reducible apply Dev.ring_sound
    | split

theorem execFadeTick_sound {s : State} {t : State}
    (hk : s.dev.Sound fz) (h : execFadeTick s = .next t) : t.dev.Sound fz := by
  unfold execFadeTick at h
  refine State.run_sound hk h (fun d hk => ?_)
  repeat' first
    | with_reducible assumption
    | with_reducible apply Dev.fadeTick_sound

theorem Dev.setSink_sound {d : Dev} {k : Nat} {v : Sink} (hk : Dev.Sound fz d) : Dev.Sound fz (Dev.setSink d k v) :=
  sound_mk ⟨hk.1, hk.2.1, hk.2.2.1, hk.2.2.2.1, hk.2.2.2.2.1, hk.2.2.2.2.2.1, hk.2.2.2.2.2.2.1,
    (List.length_set ..).trans (sound_sinks fz hk), hk.2.2.2.2.2.2.2.2⟩

theorem Dev.lampHeadroom_sound {d : Dev} {k : Nat} (hk : Dev.Sound fz d) :
    Dev.Sound fz (Dev.lampHeadroom d k) := by
  unfold Dev.lampHeadroom
  repeat' first
    | with_reducible assumption
    | ((fail_if_no_progress extract_lets +onlyGivenNames x); first | (refine sound_cut fz x ?_ (fun _ => ?_); unfold x) | skip)
    | with_reducible apply Dev.ring_sound
    | with_reducible apply Dev.setSink_sound
    | split

theorem execLampHeadroom_sound {sink : BitVec 3} {s : State} {t : State}
    (hk : s.dev.Sound fz) (h : execLampHeadroom sink s = .next t) : t.dev.Sound fz := by
  unfold execLampHeadroom at h
  refine State.run_sound hk h (fun d hk => ?_)
  repeat' first
    | with_reducible assumption
    | with_reducible apply Dev.lampHeadroom_sound

theorem Dev.consoleLampN_sound {d : Dev} {n : Nat} (hk : Dev.Sound fz d) :
    Dev.Sound fz (Dev.consoleLampN d n) := by
  unfold Dev.consoleLampN
  repeat' first
    | with_reducible assumption
    | ((fail_if_no_progress extract_lets +onlyGivenNames x); first | (refine sound_cut fz x ?_ (fun _ => ?_); unfold x) | skip)
    | with_reducible apply Dev.finishOk_sound
    | with_reducible apply Dev.print_sound
    | with_reducible apply Dev.finishErr_sound
    | split

theorem execLampN_sound {n : BitVec 10} {s : State} {t : State}
    (hk : s.dev.Sound fz) (h : execLampN n s = .next t) : t.dev.Sound fz := by
  unfold execLampN at h
  refine State.run_sound hk h (fun d hk => ?_)
  repeat' first
    | with_reducible assumption
    | (fail_if_no_progress intros)
    | with_reducible apply Dev.consoleLampN_sound
    | with_reducible apply Dev.command_sound
    | with_reducible apply State.run_sound
    | with_reducible exact sound_mk (Dev.Sound.parts (by assumption))

theorem Dev.measureSink_sound {d : Dev} {k : Nat} {vhv : Nat} {head : Nat} {starved : Bool} (hk : Dev.Sound fz d) :
    Dev.Sound fz (Dev.measureSink d k vhv head starved) := by
  unfold Dev.measureSink
  repeat' first
    | with_reducible assumption
    | ((fail_if_no_progress extract_lets +onlyGivenNames x); first | (refine sound_cut fz x ?_ (fun _ => ?_); unfold x) | skip)
    | with_reducible apply Dev.setSink_sound
    | split

theorem Dev.loseCmd_sound {d : Dev} {num : Nat} {later : Bool} (hk : Dev.Sound fz d) :
    Dev.Sound fz (Dev.loseCmd d num later) := by
  unfold Dev.loseCmd
  repeat' first
    | with_reducible assumption
    | ((fail_if_no_progress extract_lets +onlyGivenNames x); first | (refine sound_cut fz x ?_ (fun _ => ?_); unfold x) | skip)
    | with_reducible apply Dev.bump_sound
    | with_reducible exact sound_mk (Dev.Sound.parts (by assumption))
    | split

theorem Dev.dropLampCmd_sound {d : Dev} {n : Nat} {later : Bool} (hk : Dev.Sound fz d) :
    Dev.Sound fz (Dev.dropLampCmd d n later) := by
  unfold Dev.dropLampCmd
  repeat' first
    | with_reducible assumption
    | ((fail_if_no_progress extract_lets +onlyGivenNames x); first | (refine sound_cut fz x ?_ (fun _ => ?_); unfold x) | skip)
    | with_reducible apply Dev.loseCmd_sound
    | with_reducible apply Dev.setLamp_sound
    | split

theorem Dev.markFault_sound {d : Dev} {n : Nat} {kind : Nat} {w2 : Word} (hk : Dev.Sound fz d) :
    Dev.Sound fz (Dev.markFault d n kind w2) := by
  unfold Dev.markFault
  repeat' first
    | with_reducible assumption
    | ((fail_if_no_progress extract_lets +onlyGivenNames x); first | (refine sound_cut fz x ?_ (fun _ => ?_); unfold x) | skip)
    | with_reducible apply Dev.dropLampCmd_sound
    | with_reducible apply Dev.setLamp_sound
    | with_reducible apply Dev.ring_sound
    | with_reducible apply Dev.bump_sound

theorem Dev.lampOff_sound {d : Dev} {n : Nat} (hk : Dev.Sound fz d) :
    Dev.Sound fz (Dev.lampOff d n) := by
  unfold Dev.lampOff
  repeat' first
    | with_reducible assumption
    | ((fail_if_no_progress extract_lets +onlyGivenNames x); first | (refine sound_cut fz x ?_ (fun _ => ?_); unfold x) | skip)
    | with_reducible apply Dev.dropLampCmd_sound
    | with_reducible apply Dev.setLamp_sound

theorem Dev.tripGroup_sound {d : Dev} {g : Nat} {cause : Nat} {lamp : Nat} (hk : Dev.Sound fz d) :
    Dev.Sound fz (Dev.tripGroup d g cause lamp) := by
  unfold Dev.tripGroup
  repeat' first
    | with_reducible assumption
    | ((fail_if_no_progress extract_lets +onlyGivenNames x); first | (refine sound_cut fz x ?_ (fun _ => ?_); unfold x) | skip)
    | (with_reducible apply sound_foldl; intros)
    | with_reducible apply Dev.sweepCmds_sound
    | with_reducible apply Dev.lampOff_sound
    | with_reducible apply Dev.setFld_sound
    | with_reducible apply Dev.ring_sound
    | split

theorem Dev.lampFault_sound {d : Dev} {n : Nat} {kind : Nat} {w2 : Word} (hk : Dev.Sound fz d) :
    Dev.Sound fz (Dev.lampFault d n kind w2) := by
  unfold Dev.lampFault
  repeat' first
    | with_reducible assumption
    | ((fail_if_no_progress extract_lets +onlyGivenNames x); first | (refine sound_cut fz x ?_ (fun _ => ?_); unfold x) | skip)
    | with_reducible apply Dev.markFault_sound
    | with_reducible apply Dev.sweepCmds_sound
    | with_reducible apply Dev.tripGroup_sound
    | split

theorem Dev.checkSink_sound {d : Dev} {k : Nat} {vhv : Nat} (hk : Dev.Sound fz d) :
    Dev.Sound fz (Dev.checkSink d k vhv) := by
  unfold Dev.checkSink
  repeat' first
    | with_reducible assumption
    | ((fail_if_no_progress extract_lets +onlyGivenNames x); first | (refine sound_cut fz x ?_ (fun _ => ?_); unfold x) | skip)
    | with_reducible apply Dev.setLamp_sound
    | with_reducible apply Dev.lampFault_sound
    | split

theorem Dev.checkTap_sound {d : Dev} {k : Nat} {vf : Nat} (hk : Dev.Sound fz d) :
    Dev.Sound fz (Dev.checkTap d k vf) := by
  unfold Dev.checkTap
  repeat' first
    | with_reducible assumption
    | ((fail_if_no_progress extract_lets +onlyGivenNames x); first | (refine sound_cut fz x ?_ (fun _ => ?_); unfold x) | skip)
    | with_reducible apply Dev.setFld_sound
    | with_reducible apply Dev.setLamp_sound
    | with_reducible apply Dev.lampFault_sound
    | split

theorem Dev.pwmPeriod_sound {d : Dev} {vhv : Nat} {head : List Nat} {starved : Nat} {forward : List Nat} (hk :
    Dev.Sound fz d) :
    Dev.Sound fz (Dev.pwmPeriod d vhv head starved forward) := by
  unfold Dev.pwmPeriod
  repeat' first
    | with_reducible assumption
    | ((fail_if_no_progress extract_lets +onlyGivenNames x); first | (refine sound_cut fz x ?_ (fun _ => ?_); unfold x) | skip)
    | (with_reducible apply sound_foldl; intros)
    | with_reducible apply Dev.mapLamps_sound
    | with_reducible apply Dev.measureSink_sound
    | with_reducible apply Dev.checkSink_sound
    | with_reducible apply Dev.checkTap_sound
    | with_reducible exact sound_mk (Dev.Sound.parts (by assumption))
    | split

theorem Dev.lampsOff_sound {d : Dev} (hk : Dev.Sound fz d) :
    Dev.Sound fz (Dev.lampsOff d) := by
  unfold Dev.lampsOff
  repeat' first
    | with_reducible assumption
    | ((fail_if_no_progress extract_lets +onlyGivenNames x); first | (refine sound_cut fz x ?_ (fun _ => ?_); unfold x) | skip)
    | with_reducible apply Dev.mapLamps_sound
    | with_reducible exact sound_mk (Dev.Sound.parts (by assumption))

theorem Dev.lampsWatch_sound {d : Dev} (hk : Dev.Sound fz d) :
    Dev.Sound fz (Dev.lampsWatch d) := by
  unfold Dev.lampsWatch
  repeat' first
    | with_reducible assumption
    | ((fail_if_no_progress extract_lets +onlyGivenNames x); first | (refine sound_cut fz x ?_ (fun _ => ?_); unfold x) | skip)
    | with_reducible apply Dev.lampsOff_sound
    | with_reducible exact sound_mk (Dev.Sound.parts (by assumption))
    | split

theorem Dev.chainHeal_sound {d : Dev} (hk : Dev.Sound fz d) :
    Dev.Sound fz (Dev.chainHeal d) := by
  unfold Dev.chainHeal
  repeat' first
    | with_reducible assumption
    | (with_reducible apply sound_foldl_snd; intros)
    | ((fail_if_no_progress extract_lets +onlyGivenNames x); first | (refine sound_cut fz x ?_ (fun _ => ?_); unfold x) | skip)
    | (with_reducible apply sound_foldl; intros)
    | with_reducible apply Dev.setLamp_sound
    | with_reducible apply Dev.ring_sound
    | with_reducible apply Dev.lampOff_sound
    | with_reducible apply Dev.sweepCmds_sound
    | with_reducible exact sound_mk (Dev.Sound.parts (by assumption))
    | split

theorem Dev.lampFaultClear_sound {d : Dev} {w : Nat} {value : Word} (hk : Dev.Sound fz d) :
    Dev.Sound fz (Dev.lampFaultClear d w value) := by
  unfold Dev.lampFaultClear
  repeat' first
    | with_reducible assumption
    | ((fail_if_no_progress extract_lets +onlyGivenNames x); first | (refine sound_cut fz x ?_ (fun _ => ?_); unfold x) | skip)
    | (with_reducible apply sound_foldl; intros)
    | with_reducible apply Dev.bump_sound
    | with_reducible apply Dev.setLamp_sound
    | split

theorem execLampFaultClear_sound {w : BitVec 5} {value : Word} {s : State} {t : State}
    (hk : s.dev.Sound fz) (h : execLampFaultClear w value s = .next t) : t.dev.Sound fz := by
  unfold execLampFaultClear at h
  refine State.run_sound hk h (fun d hk => ?_)
  repeat' first
    | with_reducible assumption
    | with_reducible apply Dev.lampFaultClear_sound

theorem Dev.lampsFromWatch_sound {d : Dev} (hk : Dev.Sound fz d) :
    Dev.Sound fz (Dev.lampsFromWatch d) := by
  unfold Dev.lampsFromWatch
  repeat' first
    | with_reducible assumption
    | ((fail_if_no_progress extract_lets +onlyGivenNames x); first | (refine sound_cut fz x ?_ (fun _ => ?_); unfold x) | skip)
    | (with_reducible apply sound_foldl; intros)
    | with_reducible apply Dev.setLamp_sound
    | with_reducible exact sound_mk (Dev.Sound.parts (by assumption))
    | split

theorem Dev.clearGroup_sound {d : Dev} {g : Nat} {by_ : Nat} (hk : Dev.Sound fz d) :
    Dev.Sound fz (Dev.clearGroup d g by_) := by
  unfold Dev.clearGroup
  repeat' first
    | with_reducible assumption
    | ((fail_if_no_progress extract_lets +onlyGivenNames x); first | (refine sound_cut fz x ?_ (fun _ => ?_); unfold x) | skip)
    | (with_reducible apply sound_foldl; intros)
    | with_reducible apply Dev.setLamp_sound
    | with_reducible apply Dev.setFld_sound
    | with_reducible apply Dev.ring_sound
    | split

theorem Dev.lampGclear_sound {d : Dev} {value : Word} (hk : Dev.Sound fz d) :
    Dev.Sound fz (Dev.lampGclear d value) := by
  unfold Dev.lampGclear
  repeat' first
    | with_reducible assumption
    | ((fail_if_no_progress extract_lets +onlyGivenNames x); first | (refine sound_cut fz x ?_ (fun _ => ?_); unfold x) | skip)
    | (with_reducible apply sound_foldl; intros)
    | with_reducible apply Dev.ignoreWrite_sound
    | with_reducible apply Dev.clearGroup_sound
    | split

theorem Dev.consoleLampClear_sound {d : Dev} {g : Nat} (hk : Dev.Sound fz d) :
    Dev.Sound fz (Dev.consoleLampClear d g) := by
  unfold Dev.consoleLampClear
  repeat' first
    | with_reducible assumption
    | with_reducible apply Dev.finishErr_sound
    | with_reducible apply Dev.finishOk_sound
    | with_reducible apply Dev.clearGroup_sound
    | split

theorem Dev.tripAll_sound {d : Dev} (hk : Dev.Sound fz d) :
    Dev.Sound fz (Dev.tripAll d) := by
  unfold Dev.tripAll
  repeat' first
    | with_reducible assumption
    | (with_reducible apply sound_foldl; intros)
    | with_reducible apply Dev.tripGroup_sound

theorem execPwmPeriod_sound {vhv : BitVec 13} {head : List (BitVec 13)} {starved : BitVec 8} {forward : List (BitVec
    13)} {s : State} {t : State}
    (hk : s.dev.Sound fz) (h : execPwmPeriod vhv head starved forward s = .next t) : t.dev.Sound fz := by
  unfold execPwmPeriod at h
  refine State.run_sound hk h (fun d hk => ?_)
  repeat' first
    | with_reducible assumption
    | with_reducible apply Dev.pwmPeriod_sound

theorem Dev.chainBreak_sound {d : Dev} (hk : Dev.Sound fz d) :
    Dev.Sound fz (Dev.chainBreak d) := by
  unfold Dev.chainBreak
  repeat' first
    | with_reducible assumption
    | ((fail_if_no_progress extract_lets +onlyGivenNames x); first | (refine sound_cut fz x ?_ (fun _ => ?_); unfold x) | skip)
    | (with_reducible apply sound_foldl; intros)
    | with_reducible apply Dev.markFault_sound
    | with_reducible apply Dev.tripGroup_sound
    | with_reducible apply Dev.sweepCmds_sound
    | with_reducible apply Dev.ring_sound
    | with_reducible exact sound_mk (Dev.Sound.parts (by assumption))
    | split

theorem Dev.chainCheck_sound {d : Dev} {matched : Bool} (hk : Dev.Sound fz d) :
    Dev.Sound fz (Dev.chainCheck d matched) := by
  unfold Dev.chainCheck
  repeat' first
    | with_reducible assumption
    | ((fail_if_no_progress extract_lets +onlyGivenNames x); first | (refine sound_cut fz x ?_ (fun _ => ?_); unfold x) | skip)
    | with_reducible apply Dev.setFlag_sound
    | with_reducible apply Dev.chainHeal_sound
    | with_reducible apply Dev.bump_sound
    | with_reducible apply Dev.chainBreak_sound
    | with_reducible exact sound_mk (Dev.Sound.parts (by assumption))
    | split

theorem execChainCheck_sound {matched : Bool} {s : State} {t : State}
    (hk : s.dev.Sound fz) (h : execChainCheck matched s = .next t) : t.dev.Sound fz := by
  unfold execChainCheck at h
  refine State.run_sound hk h (fun d hk => ?_)
  repeat' first
    | with_reducible assumption
    | with_reducible apply Dev.chainCheck_sound

theorem execLampGclear_sound {value : Word} {s : State} {t : State}
    (hk : s.dev.Sound fz) (h : execLampGclear value s = .next t) : t.dev.Sound fz := by
  unfold execLampGclear at h
  refine State.run_sound hk h (fun d hk => ?_)
  repeat' first
    | with_reducible assumption
    | with_reducible apply Dev.lampGclear_sound

theorem Dev.lampPerform_sound {d : Dev} {grp : Bool} {index : Nat} {level : Nat} {fade : Nat} {tag : Nat} {curve :
    Bool} (hk : Dev.Sound fz d) :
    Dev.Sound fz (Dev.lampPerform d grp index level fade tag curve) := by
  unfold Dev.lampPerform
  repeat' first
    | with_reducible assumption
    | ((fail_if_no_progress extract_lets +onlyGivenNames x); first | (refine sound_cut fz x ?_ (fun _ => ?_); unfold x) | skip)
    | (with_reducible apply sound_foldl; intros)
    | with_reducible apply Dev.bump_sound
    | with_reducible apply Dev.dropLampCmd_sound
    | with_reducible apply Dev.setLamp_sound
    | with_reducible apply Dev.sweepCmds_sound
    | with_reducible exact sound_mk (Dev.Sound.parts (by assumption))
    | split

theorem Dev.lampsStartup_sound {d : Dev} (hk : Dev.Sound fz d) :
    Dev.Sound fz (Dev.lampsStartup d) := by
  unfold Dev.lampsStartup
  repeat' first
    | with_reducible assumption
    | (with_reducible apply sound_foldl; intros)
    | with_reducible apply Dev.ring_sound
    | split

theorem Dev.bypassClamp_sound {d : Dev} {k : Nat} (hk : Dev.Sound fz d) :
    Dev.Sound fz (Dev.bypassClamp d k) := by
  unfold Dev.bypassClamp
  repeat' first
    | with_reducible assumption
    | ((fail_if_no_progress extract_lets +onlyGivenNames x); first | (refine sound_cut fz x ?_ (fun _ => ?_); unfold x) | skip)
    | with_reducible apply Dev.lampFault_sound
    | with_reducible exact sound_mk (Dev.Sound.parts (by assumption))
    | split

theorem execBypassClamp_sound {k : BitVec 3} {s : State} {t : State}
    (hk : s.dev.Sound fz) (h : execBypassClamp k s = .next t) : t.dev.Sound fz := by
  unfold execBypassClamp at h
  refine State.run_sound hk h (fun d hk => ?_)
  repeat' first
    | with_reducible assumption
    | with_reducible apply Dev.bypassClamp_sound

theorem Dev.consoleLampSet_sound {d : Dev} {n : Nat} {level : Nat} {ms : Nat} (hk : Dev.Sound fz d) :
    Dev.Sound fz (Dev.consoleLampSet d n level ms) := by
  unfold Dev.consoleLampSet
  repeat' first
    | with_reducible assumption
    | with_reducible apply Dev.finishErr_sound
    | with_reducible apply Dev.bump_sound
    | with_reducible apply Dev.finishOk_sound
    | with_reducible apply Dev.lampPerform_sound
    | split

theorem Dev.lampCommand_sound {d : Dev} {rq : Requester} {value : Word} (hk : Dev.Sound fz d) :
    Dev.Sound fz (Dev.lampCommand d rq value) := by
  unfold Dev.lampCommand
  repeat' first
    | with_reducible assumption
    | with_reducible apply Dev.lampPerform_sound
    | split

theorem Dev.checkChannel_sound {d : Dev} {p : Nat} {errors : List Nat} {n : Nat} (hk : Dev.Sound fz d) :
    Dev.Sound fz (Dev.checkChannel d p errors n) := by
  unfold Dev.checkChannel
  repeat' first
    | with_reducible assumption
    | ((fail_if_no_progress extract_lets +onlyGivenNames x); first | (refine sound_cut fz x ?_ (fun _ => ?_); unfold x) | skip)
    | with_reducible apply Dev.setLamp_sound
    | with_reducible apply Dev.bump_sound
    | with_reducible apply Dev.lampFault_sound
    | split

theorem Dev.refreshPeriod_sound {d : Dev} {errors : List Nat} (hk : Dev.Sound fz d) :
    Dev.Sound fz (Dev.refreshPeriod d errors) := by
  unfold Dev.refreshPeriod
  repeat' first
    | with_reducible assumption
    | ((fail_if_no_progress extract_lets +onlyGivenNames x); first | (refine sound_cut fz x ?_ (fun _ => ?_); unfold x) | skip)
    | (with_reducible apply sound_foldl; intros)
    | with_reducible apply Dev.mapLamps_sound
    | with_reducible apply Dev.checkChannel_sound
    | with_reducible exact sound_mk (Dev.Sound.parts (by assumption))
    | split

theorem execLampSet_sound {n : BitVec 10} {level : BitVec 12} {ms : BitVec 14} {s : State} {t : State}
    (hk : s.dev.Sound fz) (h : execLampSet n level ms s = .next t) : t.dev.Sound fz := by
  unfold execLampSet at h
  refine State.run_sound hk h (fun d hk => ?_)
  repeat' first
    | with_reducible assumption
    | (fail_if_no_progress intros)
    | with_reducible apply Dev.consoleLampSet_sound
    | with_reducible apply Dev.command_sound
    | with_reducible apply State.run_sound
    | with_reducible exact sound_mk (Dev.Sound.parts (by assumption))

theorem execLampCommand_sound {rq : Requester} {value : Word} {s : State} {t : State}
    (hk : s.dev.Sound fz) (h : execLampCommand rq value s = .next t) : t.dev.Sound fz := by
  unfold execLampCommand at h
  refine State.run_sound hk h (fun d hk => ?_)
  repeat' first
    | with_reducible assumption
    | with_reducible apply Dev.lampCommand_sound

theorem execLampClear_sound {g : BitVec 4} {s : State} {t : State}
    (hk : s.dev.Sound fz) (h : execLampClear g s = .next t) : t.dev.Sound fz := by
  unfold execLampClear at h
  refine State.run_sound hk h (fun d hk => ?_)
  repeat' first
    | with_reducible assumption
    | (fail_if_no_progress intros)
    | with_reducible apply Dev.consoleLampClear_sound
    | with_reducible apply Dev.command_sound
    | with_reducible apply State.run_sound
    | with_reducible exact sound_mk (Dev.Sound.parts (by assumption))

theorem execRefreshPeriod_sound {errors : List (BitVec 10)} {s : State} {t : State}
    (hk : s.dev.Sound fz) (h : execRefreshPeriod errors s = .next t) : t.dev.Sound fz := by
  unfold execRefreshPeriod at h
  refine State.run_sound hk h (fun d hk => ?_)
  repeat' first
    | with_reducible assumption
    | with_reducible apply Dev.refreshPeriod_sound

theorem Dev.setRail_sound {d : Dev} {r : Rails} (hk : Dev.Sound fz d) :
    Dev.Sound fz (Dev.setRail d r) := by
  unfold Dev.setRail
  repeat' first
    | with_reducible assumption
    | with_reducible exact sound_mk (Dev.Sound.parts (by assumption))

theorem Dev.setVledTgt_sound {d : Dev} {mv : Nat} (hk : Dev.Sound fz d) :
    Dev.Sound fz (Dev.setVledTgt d mv) := by
  unfold Dev.setVledTgt
  repeat' first
    | with_reducible assumption
    | ((fail_if_no_progress extract_lets +onlyGivenNames x); first | (refine sound_cut fz x ?_ (fun _ => ?_); unfold x) | skip)
    | with_reducible apply Dev.setRail_sound
    | split

theorem Dev.supersedeVled_sound {d : Dev} (hk : Dev.Sound fz d) :
    Dev.Sound fz (Dev.supersedeVled d) := by
  unfold Dev.supersedeVled
  repeat' first
    | with_reducible assumption
    | ((fail_if_no_progress extract_lets +onlyGivenNames x); first | (refine sound_cut fz x ?_ (fun _ => ?_); unfold x) | skip)
    | with_reducible apply Dev.bump_sound
    | with_reducible apply Dev.setRail_sound
    | split

theorem Dev.retargetVled_sound {d : Dev} (hk : Dev.Sound fz d) :
    Dev.Sound fz (Dev.retargetVled d) := by
  unfold Dev.retargetVled
  repeat' first
    | with_reducible assumption
    | with_reducible apply Dev.setVledTgt_sound
    | with_reducible apply Dev.supersedeVled_sound
    | split

theorem Dev.followVtx_sound {d : Dev} (hk : Dev.Sound fz d) :
    Dev.Sound fz (Dev.followVtx d) := by
  unfold Dev.followVtx
  repeat' first
    | with_reducible assumption
    | with_reducible apply Dev.retargetVled_sound
    | with_reducible apply Dev.setVledTgt_sound
    | with_reducible apply Dev.supersedeVled_sound
    | with_reducible exact sound_mk (Dev.Sound.parts (by assumption))
    | split

theorem Dev.railClamp_sound {d : Dev} {vtx : Bool} {asked : Nat} {applied : Nat} (hk : Dev.Sound fz d) :
    Dev.Sound fz (Dev.railClamp d vtx asked applied) := by
  unfold Dev.railClamp
  repeat' first
    | with_reducible assumption
    | with_reducible apply Dev.ring_sound
    | with_reducible apply Dev.bump_sound
    | split

theorem Dev.railDone_sound {d : Dev} {vtx : Bool} {tag : Nat} (hk : Dev.Sound fz d) :
    Dev.Sound fz (Dev.railDone d vtx tag) := by
  unfold Dev.railDone
  repeat' first
    | with_reducible assumption
    | ((fail_if_no_progress extract_lets +onlyGivenNames x); first | (refine sound_cut fz x ?_ (fun _ => ?_); unfold x) | skip)
    | with_reducible apply Dev.ring_sound
    | with_reducible apply Dev.setFld_sound
    | with_reducible apply Dev.setRail_sound
    | split

theorem Dev.vledGo_sound {d : Dev} {mv : Nat} {tag : Nat} (hk : Dev.Sound fz d) :
    Dev.Sound fz (Dev.vledGo d mv tag) := by
  unfold Dev.vledGo
  repeat' first
    | with_reducible assumption
    | ((fail_if_no_progress extract_lets +onlyGivenNames x); first | (refine sound_cut fz x ?_ (fun _ => ?_); unfold x) | skip)
    | with_reducible apply Dev.railDone_sound
    | with_reducible apply Dev.setVledTgt_sound
    | with_reducible apply Dev.supersedeVled_sound
    | with_reducible apply Dev.setRail_sound
    | split

theorem Dev.vledFix_sound {d : Dev} {v : Nat} {tag : Nat} {console : Bool} (hk : Dev.Sound fz d) :
    Dev.Sound fz (Dev.vledFix d v tag console) := by
  unfold Dev.vledFix
  repeat' first
    | with_reducible assumption
    | ((fail_if_no_progress extract_lets +onlyGivenNames x); first | (refine sound_cut fz x ?_ (fun _ => ?_); unfold x) | skip)
    | with_reducible apply Dev.railClamp_sound
    | with_reducible apply Dev.setFlag_sound
    | with_reducible apply Dev.setRail_sound
    | with_reducible apply Dev.vledGo_sound
    | split

theorem execVledFixed_sound {value : Word} {s : State} {t : State}
    (hk : s.dev.Sound fz) (h : execVledFixed value s = .next t) : t.dev.Sound fz := by
  unfold execVledFixed at h
  refine State.run_sound hk h (fun d hk => ?_)
  repeat' first
    | with_reducible assumption
    | with_reducible apply Dev.vledFix_sound

theorem Dev.moveRefs_sound {d : Dev} (hk : Dev.Sound fz d) :
    Dev.Sound fz (Dev.moveRefs d) := by
  unfold Dev.moveRefs
  repeat' first
    | with_reducible assumption
    | ((fail_if_no_progress extract_lets +onlyGivenNames x); first | (refine sound_cut fz x ?_ (fun _ => ?_); unfold x) | skip)
    | with_reducible apply Dev.setRail_sound
    | split

theorem execRailVled_sound {v : BitVec 13} {s : State} {t : State}
    (hk : s.dev.Sound fz) (h : execRailVled v s = .next t) : t.dev.Sound fz := by
  unfold execRailVled at h
  refine State.run_sound hk h (fun d hk => ?_)
  repeat' first
    | with_reducible assumption
    | (fail_if_no_progress intros)
    | with_reducible apply Dev.finishOk_sound
    | with_reducible apply Dev.vledFix_sound
    | with_reducible apply Dev.finishErr_sound
    | with_reducible apply Dev.command_sound
    | with_reducible apply State.run_sound
    | with_reducible exact sound_mk (Dev.Sound.parts (by assumption))
    | split

theorem Dev.foldVtx_sound {d : Dev} {upTo : Nat} (hk : Dev.Sound fz d) :
    Dev.Sound fz (Dev.foldVtx d upTo) := by
  unfold Dev.foldVtx
  repeat' first
    | with_reducible assumption
    | ((fail_if_no_progress extract_lets +onlyGivenNames x); first | (refine sound_cut fz x ?_ (fun _ => ?_); unfold x) | skip)
    | with_reducible exact sound_mk (Dev.Sound.parts (by assumption))
    | split

theorem Dev.markVtx_sound {d : Dev} (hk : Dev.Sound fz d) :
    Dev.Sound fz (Dev.markVtx d) := by
  unfold Dev.markVtx
  repeat' first
    | with_reducible assumption
    | with_reducible exact sound_mk (Dev.Sound.parts (by assumption))

theorem Dev.noteVtx_sound {d : Dev} (hk : Dev.Sound fz d) :
    Dev.Sound fz (Dev.noteVtx d) := by
  unfold Dev.noteVtx
  repeat' first
    | with_reducible assumption
    | ((fail_if_no_progress extract_lets +onlyGivenNames x); first | (refine sound_cut fz x ?_ (fun _ => ?_); unfold x) | skip)
    | with_reducible apply Dev.foldVtx_sound
    | with_reducible apply Dev.markVtx_sound
    | with_reducible exact sound_mk (Dev.Sound.parts (by assumption))
    | split

theorem Dev.beginSoftStart_sound {d : Dev} {attempt : Nat} (hk : Dev.Sound fz d) :
    Dev.Sound fz (Dev.beginSoftStart d attempt) := by
  unfold Dev.beginSoftStart
  repeat' first
    | with_reducible assumption
    | ((fail_if_no_progress extract_lets +onlyGivenNames x); first | (refine sound_cut fz x ?_ (fun _ => ?_); unfold x) | skip)
    | with_reducible apply Dev.setFld_sound
    | with_reducible apply Dev.setRail_sound
    | with_reducible apply Dev.noteVtx_sound
    | with_reducible exact sound_mk (Dev.Sound.parts (by assumption))
    | split

theorem Dev.leaveLatch_sound {d : Dev} (hk : Dev.Sound fz d) :
    Dev.Sound fz (Dev.leaveLatch d) := by
  unfold Dev.leaveLatch
  repeat' first
    | with_reducible assumption
    | with_reducible apply Dev.beginSoftStart_sound
    | split

theorem Dev.overvolt_sound {d : Dev} {vhv : Nat} (hk : Dev.Sound fz d) :
    Dev.Sound fz (Dev.overvolt d vhv) := by
  unfold Dev.overvolt
  repeat' first
    | with_reducible assumption
    | ((fail_if_no_progress extract_lets +onlyGivenNames x); first | (refine sound_cut fz x ?_ (fun _ => ?_); unfold x) | skip)
    | with_reducible apply Dev.setFlag_sound
    | with_reducible apply Dev.setRail_sound
    | with_reducible apply Dev.ring_sound
    | split

theorem execRailOvervolt_sound {vhv : BitVec 13} {s : State} {t : State}
    (hk : s.dev.Sound fz) (h : execRailOvervolt vhv s = .next t) : t.dev.Sound fz := by
  unfold execRailOvervolt at h
  refine State.run_sound hk h (fun d hk => ?_)
  repeat' first
    | with_reducible assumption
    | with_reducible apply Dev.overvolt_sound
    | split

theorem execVhvAbove50v_sound {vhv : BitVec 13} {s : State} {t : State}
    (hk : s.dev.Sound fz) (h : execVhvAbove50v vhv s = .next t) : t.dev.Sound fz := by
  unfold execVhvAbove50v at h
  refine State.run_sound hk h (fun d hk => ?_)
  repeat' first
    | with_reducible assumption
    | ((fail_if_no_progress extract_lets +onlyGivenNames x); first | (refine sound_cut fz x ?_ (fun _ => ?_); unfold x) | skip)
    | with_reducible apply Dev.setRail_sound
    | with_reducible apply Dev.ring_sound
    | with_reducible apply Dev.setFlag_sound

theorem Dev.railSettled_sound {d : Dev} {vtx : Bool} (hk : Dev.Sound fz d) :
    Dev.Sound fz (Dev.railSettled d vtx) := by
  unfold Dev.railSettled
  repeat' first
    | with_reducible assumption
    | ((fail_if_no_progress extract_lets +onlyGivenNames x); first | (refine sound_cut fz x ?_ (fun _ => ?_); unfold x) | skip)
    | with_reducible apply Dev.railDone_sound
    | split

theorem Dev.supersedeVtx_sound {d : Dev} (hk : Dev.Sound fz d) :
    Dev.Sound fz (Dev.supersedeVtx d) := by
  unfold Dev.supersedeVtx
  repeat' first
    | with_reducible assumption
    | ((fail_if_no_progress extract_lets +onlyGivenNames x); first | (refine sound_cut fz x ?_ (fun _ => ?_); unfold x) | skip)
    | with_reducible apply Dev.bump_sound
    | with_reducible apply Dev.setRail_sound
    | split

theorem Dev.railsOff_sound {d : Dev} (hk : Dev.Sound fz d) :
    Dev.Sound fz (Dev.railsOff d) := by
  unfold Dev.railsOff
  repeat' first
    | with_reducible assumption
    | ((fail_if_no_progress extract_lets +onlyGivenNames x); first | (refine sound_cut fz x ?_ (fun _ => ?_); unfold x) | skip)
    | with_reducible apply Dev.supersedeVtx_sound
    | with_reducible apply Dev.supersedeVled_sound
    | with_reducible apply Dev.setFld_sound
    | with_reducible apply Dev.setRail_sound

theorem Dev.overvoltEnd_sound {d : Dev} (hk : Dev.Sound fz d) :
    Dev.Sound fz (Dev.overvoltEnd d) := by
  unfold Dev.overvoltEnd
  repeat' first
    | with_reducible assumption
    | ((fail_if_no_progress extract_lets +onlyGivenNames x); first | (refine sound_cut fz x ?_ (fun _ => ?_); unfold x) | skip)
    | with_reducible apply Dev.setFlag_sound
    | with_reducible apply Dev.setRail_sound
    | split

theorem Dev.vledState_sound {d : Dev} {pass : Bool} (hk : Dev.Sound fz d) :
    Dev.Sound fz (Dev.vledState d pass) := by
  unfold Dev.vledState
  repeat' first
    | with_reducible assumption
    | with_reducible apply Dev.setFld_sound
    | split

theorem Dev.referenceUpdate_sound {d : Dev} {vhv : Nat} {vtx : Nat} {pass : Bool} (hk : Dev.Sound fz d) :
    Dev.Sound fz (Dev.referenceUpdate d vhv vtx pass) := by
  unfold Dev.referenceUpdate
  repeat' first
    | with_reducible assumption
    | ((fail_if_no_progress extract_lets +onlyGivenNames x); first | (refine sound_cut fz x ?_ (fun _ => ?_); unfold x) | skip)
    | with_reducible apply Dev.setRail_sound
    | with_reducible apply Dev.overvoltEnd_sound
    | with_reducible apply Dev.vledState_sound
    | with_reducible apply Dev.moveRefs_sound
    | with_reducible apply Dev.setFlag_sound
    | with_reducible apply Dev.noteVtx_sound
    | split

theorem execReferenceUpdate_sound {vhv : BitVec 13} {vtx : BitVec 13} {pass : Bool} {s : State} {t : State}
    (hk : s.dev.Sound fz) (h : execReferenceUpdate vhv vtx pass s = .next t) : t.dev.Sound fz := by
  unfold execReferenceUpdate at h
  refine State.run_sound hk h (fun d hk => ?_)
  repeat' first
    | with_reducible assumption
    | with_reducible apply Dev.referenceUpdate_sound

theorem Dev.demandUpdate_sound {d : Dev} (hk : Dev.Sound fz d) :
    Dev.Sound fz (Dev.demandUpdate d) := by
  unfold Dev.demandUpdate
  repeat' first
    | with_reducible assumption
    | ((fail_if_no_progress extract_lets +onlyGivenNames x); first | (refine sound_cut fz x ?_ (fun _ => ?_); unfold x) | skip)
    | with_reducible apply Dev.retargetVled_sound
    | with_reducible apply Dev.setFld_sound
    | split

theorem execDemandUpdate_sound {s : State} {t : State}
    (hk : s.dev.Sound fz) (h : execDemandUpdate s = .next t) : t.dev.Sound fz := by
  unfold execDemandUpdate at h
  refine State.run_sound hk h (fun d hk => ?_)
  repeat' first
    | with_reducible assumption
    | with_reducible apply Dev.demandUpdate_sound

theorem Dev.toRegulator_sound {d : Dev} {soft : Bool} (hk : Dev.Sound fz d) :
    Dev.Sound fz (Dev.toRegulator d soft) := by
  unfold Dev.toRegulator
  repeat' first
    | with_reducible assumption
    | ((fail_if_no_progress extract_lets +onlyGivenNames x); first | (refine sound_cut fz x ?_ (fun _ => ?_); unfold x) | skip)
    | with_reducible apply Dev.setFld_sound
    | with_reducible apply Dev.setRail_sound
    | with_reducible apply Dev.ring_sound
    | with_reducible apply Dev.setFlag_sound
    | with_reducible apply Dev.noteVtx_sound
    | with_reducible exact sound_mk (Dev.Sound.parts (by assumption))
    | split

theorem Dev.softStartEnd_sound {d : Dev} (hk : Dev.Sound fz d) :
    Dev.Sound fz (Dev.softStartEnd d) := by
  unfold Dev.softStartEnd
  repeat' first
    | with_reducible assumption
    | ((fail_if_no_progress extract_lets +onlyGivenNames x); first | (refine sound_cut fz x ?_ (fun _ => ?_); unfold x) | skip)
    | with_reducible apply Dev.setRail_sound
    | with_reducible apply Dev.setFld_sound
    | with_reducible apply Dev.vledState_sound
    | with_reducible apply Dev.toRegulator_sound
    | split

theorem Dev.railsStart_sound {d : Dev} (hk : Dev.Sound fz d) :
    Dev.Sound fz (Dev.railsStart d) := by
  unfold Dev.railsStart
  repeat' first
    | with_reducible assumption
    | ((fail_if_no_progress extract_lets +onlyGivenNames x); first | (refine sound_cut fz x ?_ (fun _ => ?_); unfold x) | skip)
    | with_reducible apply Dev.setRail_sound
    | with_reducible apply Dev.setFlag_sound
    | with_reducible apply Dev.beginSoftStart_sound
    | with_reducible apply Dev.setFld_sound
    | split

theorem execVtxFaultRestart_sound {s : State} {t : State}
    (hk : s.dev.Sound fz) (h : execVtxFaultRestart s = .next t) : t.dev.Sound fz := by
  unfold execVtxFaultRestart at h
  refine State.run_sound hk h (fun d hk => ?_)
  repeat' first
    | with_reducible assumption
    | ((fail_if_no_progress extract_lets +onlyGivenNames x); first | (refine sound_cut fz x ?_ (fun _ => ?_); unfold x) | skip)
    | with_reducible apply Dev.setFld_sound
    | with_reducible apply Dev.setRail_sound
    | with_reducible apply Dev.noteVtx_sound
    | with_reducible apply State.run_sound
    | with_reducible apply Dev.toRegulator_sound
    | with_reducible exact sound_mk (Dev.Sound.parts (by assumption))
    | split

theorem Dev.railShort_sound {d : Dev} {kind : Nat} {attempt : Nat} {vhv : Nat} (hk : Dev.Sound fz d) :
    Dev.Sound fz (Dev.railShort d kind attempt vhv) := by
  unfold Dev.railShort
  repeat' first
    | with_reducible assumption
    | ((fail_if_no_progress extract_lets +onlyGivenNames x); first | (refine sound_cut fz x ?_ (fun _ => ?_); unfold x) | skip)
    | with_reducible apply Dev.tripAll_sound
    | with_reducible apply Dev.supersedeVtx_sound
    | with_reducible apply Dev.supersedeVled_sound
    | with_reducible apply Dev.noteVtx_sound
    | with_reducible apply Dev.setFld_sound
    | with_reducible apply Dev.setRail_sound
    | with_reducible apply Dev.ring_sound
    | with_reducible apply Dev.setFlag_sound
    | with_reducible apply Dev.bump_sound
    | split

theorem execRunningShort_sound {vhv : BitVec 13} {s : State} {t : State}
    (hk : s.dev.Sound fz) (h : execRunningShort vhv s = .next t) : t.dev.Sound fz := by
  unfold execRunningShort at h
  refine State.run_sound hk h (fun d hk => ?_)
  repeat' first
    | with_reducible assumption
    | with_reducible apply Dev.railShort_sound
    | split

theorem Dev.clampVtx_sound {d : Dev} {v : Nat} (hk : Dev.Sound fz d) :
    Dev.Sound fz (Dev.clampVtx d v).2 := by
  unfold Dev.clampVtx
  repeat' first
    | with_reducible assumption
    | ((fail_if_no_progress extract_lets +onlyGivenNames x); first | (refine sound_cut fz x ?_ (fun _ => ?_); unfold x) | skip)
    | (split <;> first | (rename_i heq; simp only [Prod.ext_iff] at heq; refine sound_eq fz heq.2 ?_ (fun _ => ?_)) | skip)
    | with_reducible apply Dev.railClamp_sound

theorem Dev.setVtxTgt_sound {d : Dev} {mv : Nat} (hk : Dev.Sound fz d) :
    Dev.Sound fz (Dev.setVtxTgt d mv) := by
  unfold Dev.setVtxTgt
  repeat' first
    | with_reducible assumption
    | ((fail_if_no_progress extract_lets +onlyGivenNames x); first | (refine sound_cut fz x ?_ (fun _ => ?_); unfold x) | skip)
    | with_reducible apply Dev.setRail_sound

theorem Dev.vtxSet_sound {d : Dev} {v : Nat} {tag : Nat} {console : Bool} (hk : Dev.Sound fz d) :
    Dev.Sound fz (Dev.vtxSet d v tag console) := by
  unfold Dev.vtxSet
  repeat' first
    | with_reducible assumption
    | (split <;> first | (rename_i heq; simp only [Prod.ext_iff] at heq; first | refine sound_eq fz heq.2 ?_ (fun _ => ?_) | refine sound_eq fz heq.2.2 ?_ (fun _ => ?_) | refine sound_eq fz heq.2.2.2 ?_ (fun _ => ?_)) | skip)
    | ((fail_if_no_progress extract_lets +onlyGivenNames x); first | (refine sound_cut fz x ?_ (fun _ => ?_); unfold x) | skip)
    | (split <;> first | (rename_i heq; simp only [Prod.ext_iff] at heq; refine sound_eq fz heq.2 ?_ (fun _ => ?_)) | skip)
    | with_reducible apply Dev.clampVtx_sound
    | with_reducible apply Dev.setRail_sound
    | with_reducible apply Dev.railDone_sound
    | with_reducible apply Dev.setVtxTgt_sound
    | with_reducible apply Dev.supersedeVtx_sound
    | with_reducible apply Dev.retargetVled_sound
    | with_reducible apply Dev.noteVtx_sound
    | with_reducible apply Dev.followVtx_sound
    | with_reducible exact sound_mk (Dev.Sound.parts (by assumption))
    | split

theorem Dev.vtxCommit_sound {d : Dev} (hk : Dev.Sound fz d) :
    Dev.Sound fz (Dev.vtxCommit d) := by
  unfold Dev.vtxCommit
  repeat' first
    | with_reducible assumption
    | with_reducible apply Dev.vtxSet_sound

theorem Dev.railsResume_sound {d : Dev} (hk : Dev.Sound fz d) :
    Dev.Sound fz (Dev.railsResume d) := by
  unfold Dev.railsResume
  repeat' first
    | with_reducible assumption
    | ((fail_if_no_progress extract_lets +onlyGivenNames x); first | (refine sound_cut fz x ?_ (fun _ => ?_); unfold x) | skip)
    | with_reducible apply Dev.setVtxTgt_sound
    | with_reducible apply Dev.supersedeVtx_sound
    | with_reducible apply Dev.setVledTgt_sound
    | with_reducible apply Dev.supersedeVled_sound
    | split

theorem Dev.writeRailCtrl_sound {d : Dev} {value : Word} (hk : Dev.Sound fz d) :
    Dev.Sound fz (Dev.writeRailCtrl d value) := by
  unfold Dev.writeRailCtrl
  repeat' first
    | with_reducible assumption
    | with_reducible apply Dev.ignoreWrite_sound
    | with_reducible apply Dev.leaveLatch_sound
    | split

theorem execClearlatch_sound {value : Word} {s : State} {t : State}
    (hk : s.dev.Sound fz) (h : execClearlatch value s = .next t) : t.dev.Sound fz := by
  unfold execClearlatch at h
  refine State.run_sound hk h (fun d hk => ?_)
  repeat' first
    | with_reducible assumption
    | with_reducible apply Dev.writeRailCtrl_sound

theorem execVtxToRegulator_sound {s : State} {t : State}
    (hk : s.dev.Sound fz) (h : execVtxToRegulator s = .next t) : t.dev.Sound fz := by
  unfold execVtxToRegulator at h
  refine State.run_sound hk h (fun d hk => ?_)
  repeat' first
    | with_reducible assumption
    | with_reducible apply Dev.toRegulator_sound
    | split

theorem execRailRestart_sound {s : State} {t : State}
    (hk : s.dev.Sound fz) (h : execRailRestart s = .next t) : t.dev.Sound fz := by
  unfold execRailRestart at h
  refine State.run_sound hk h (fun d hk => ?_)
  repeat' first
    | with_reducible assumption
    | (fail_if_no_progress intros)
    | with_reducible apply Dev.finishOk_sound
    | with_reducible apply Dev.leaveLatch_sound
    | with_reducible apply Dev.finishErr_sound
    | with_reducible apply Dev.command_sound
    | with_reducible apply State.run_sound
    | with_reducible exact sound_mk (Dev.Sound.parts (by assumption))
    | split

theorem execSoftStartEnd_sound {s : State} {t : State}
    (hk : s.dev.Sound fz) (h : execSoftStartEnd s = .next t) : t.dev.Sound fz := by
  unfold execSoftStartEnd at h
  refine State.run_sound hk h (fun d hk => ?_)
  repeat' first
    | with_reducible assumption
    | with_reducible apply Dev.softStartEnd_sound

theorem Dev.vledAuto_sound {d : Dev} {tag : Nat} {console : Bool} (hk : Dev.Sound fz d) :
    Dev.Sound fz (Dev.vledAuto d tag console) := by
  unfold Dev.vledAuto
  repeat' first
    | with_reducible assumption
    | ((fail_if_no_progress extract_lets +onlyGivenNames x); first | (refine sound_cut fz x ?_ (fun _ => ?_); unfold x) | skip)
    | with_reducible apply Dev.setFlag_sound
    | with_reducible apply Dev.vledGo_sound
    | split

theorem execRailVtx_sound {v : BitVec 13} {s : State} {t : State}
    (hk : s.dev.Sound fz) (h : execRailVtx v s = .next t) : t.dev.Sound fz := by
  unfold execRailVtx at h
  refine State.run_sound hk h (fun d hk => ?_)
  repeat' first
    | with_reducible assumption
    | (fail_if_no_progress intros)
    | with_reducible apply Dev.finishOk_sound
    | with_reducible apply Dev.vtxSet_sound
    | with_reducible apply Dev.finishErr_sound
    | with_reducible apply Dev.command_sound
    | with_reducible apply State.run_sound
    | with_reducible exact sound_mk (Dev.Sound.parts (by assumption))
    | split

theorem Dev.railsWatch_sound {d : Dev} (hk : Dev.Sound fz d) :
    Dev.Sound fz (Dev.railsWatch d) := by
  unfold Dev.railsWatch
  repeat' first
    | with_reducible assumption
    | ((fail_if_no_progress extract_lets +onlyGivenNames x); first | (refine sound_cut fz x ?_ (fun _ => ?_); unfold x) | skip)
    | with_reducible apply Dev.setVtxTgt_sound
    | with_reducible apply Dev.supersedeVtx_sound
    | with_reducible apply Dev.setVledTgt_sound
    | with_reducible apply Dev.supersedeVled_sound
    | split

theorem execRailShort_sound {vhv : BitVec 13} {s : State} {t : State}
    (hk : s.dev.Sound fz) (h : execRailShort vhv s = .next t) : t.dev.Sound fz := by
  unfold execRailShort at h
  refine State.run_sound hk h (fun d hk => ?_)
  repeat' first
    | with_reducible assumption
    | with_reducible apply Dev.railShort_sound
    | split

theorem execShortRetry_sound {s : State} {t : State}
    (hk : s.dev.Sound fz) (h : execShortRetry s = .next t) : t.dev.Sound fz := by
  unfold execShortRetry at h
  refine State.run_sound hk h (fun d hk => ?_)
  repeat' first
    | with_reducible assumption
    | with_reducible apply Dev.beginSoftStart_sound
    | split

theorem execVledAdaptive_sound {value : Word} {s : State} {t : State}
    (hk : s.dev.Sound fz) (h : execVledAdaptive value s = .next t) : t.dev.Sound fz := by
  unfold execVledAdaptive at h
  refine State.run_sound hk h (fun d hk => ?_)
  repeat' first
    | with_reducible assumption
    | with_reducible apply Dev.vledAuto_sound

theorem Dev.repairVtxOn_sound {d : Dev} (hk : Dev.Sound fz d) :
    Dev.Sound fz (Dev.repairVtxOn d) := by
  unfold Dev.repairVtxOn
  repeat' first
    | with_reducible assumption
    | ((fail_if_no_progress extract_lets +onlyGivenNames x); first | (refine sound_cut fz x ?_ (fun _ => ?_); unfold x) | skip)
    | with_reducible apply Dev.setVtxTgt_sound
    | with_reducible apply Dev.supersedeVtx_sound
    | with_reducible apply Dev.setRail_sound
    | with_reducible apply Dev.setFld_sound
    | with_reducible apply Dev.followVtx_sound
    | with_reducible apply Dev.railClamp_sound
    | with_reducible exact sound_mk (Dev.Sound.parts (by assumption))
    | split

theorem execVtxCommand_sound {value : Word} {s : State} {t : State}
    (hk : s.dev.Sound fz) (h : execVtxCommand value s = .next t) : t.dev.Sound fz := by
  unfold execVtxCommand at h
  refine State.run_sound hk h (fun d hk => ?_)
  repeat' first
    | with_reducible assumption
    | with_reducible apply Dev.vtxSet_sound

theorem execRailDone_sound {vtx : Bool} {s : State} {t : State}
    (hk : s.dev.Sound fz) (h : execRailDone vtx s = .next t) : t.dev.Sound fz := by
  unfold execRailDone at h
  refine State.run_sound hk h (fun d hk => ?_)
  repeat' first
    | with_reducible assumption
    | with_reducible apply Dev.railSettled_sound

theorem Dev.vtxFault_sound {d : Dev} {kind : Nat} {vtx : Nat} (hk : Dev.Sound fz d) :
    Dev.Sound fz (Dev.vtxFault d kind vtx) := by
  unfold Dev.vtxFault
  repeat' first
    | with_reducible assumption
    | ((fail_if_no_progress extract_lets +onlyGivenNames x); first | (refine sound_cut fz x ?_ (fun _ => ?_); unfold x) | skip)
    | with_reducible apply Dev.ring_sound
    | with_reducible apply Dev.bump_sound
    | with_reducible apply Dev.setFlag_sound
    | with_reducible apply Dev.setRail_sound
    | with_reducible apply Dev.setFld_sound
    | with_reducible apply Dev.supersedeVtx_sound
    | with_reducible apply Dev.noteVtx_sound
    | with_reducible exact sound_mk (Dev.Sound.parts (by assumption))
    | split

theorem execRailVtxFault_sound {kind : BitVec 2} {vtx : BitVec 13} {s : State} {t : State}
    (hk : s.dev.Sound fz) (h : execRailVtxFault kind vtx s = .next t) : t.dev.Sound fz := by
  unfold execRailVtxFault at h
  refine State.run_sound hk h (fun d hk => ?_)
  repeat' first
    | with_reducible assumption
    | with_reducible apply Dev.vtxFault_sound

theorem execRailVledAuto_sound {s : State} {t : State}
    (hk : s.dev.Sound fz) (h : execRailVledAuto s = .next t) : t.dev.Sound fz := by
  unfold execRailVledAuto at h
  refine State.run_sound hk h (fun d hk => ?_)
  repeat' first
    | with_reducible assumption
    | (fail_if_no_progress intros)
    | with_reducible apply Dev.finishOk_sound
    | with_reducible apply Dev.vledAuto_sound
    | with_reducible apply Dev.finishErr_sound
    | with_reducible apply Dev.command_sound
    | with_reducible apply State.run_sound
    | with_reducible exact sound_mk (Dev.Sound.parts (by assumption))
    | split

theorem Dev.repairVtxOff_sound {d : Dev} (hk : Dev.Sound fz d) :
    Dev.Sound fz (Dev.repairVtxOff d) := by
  unfold Dev.repairVtxOff
  repeat' first
    | with_reducible assumption
    | ((fail_if_no_progress extract_lets +onlyGivenNames x); first | (refine sound_cut fz x ?_ (fun _ => ?_); unfold x) | skip)
    | with_reducible apply Dev.setVtxTgt_sound
    | with_reducible apply Dev.supersedeVtx_sound
    | with_reducible apply Dev.setRail_sound
    | with_reducible apply Dev.railsOff_sound
    | split

end Sys2Proof.Machine
end

