-- ==== Sys2Proof/Laws/SoundTouch.lean ====
section
/-!
SUPPORT. SoundTouch.lean: that each operation and command of the front end, tracking and reports keeps `Dev.Sound`.
-/

set_option maxRecDepth 4000
set_option linter.unusedTactic false
set_option linter.unreachableTactic false
set_option linter.unusedVariables false

namespace Sys2Proof.Machine

variable {fz : Fuses}

theorem Dev.listenValue_sound {d : Dev} {iq : Word × Word} (hk : Dev.Sound fz d) :
    Dev.Sound fz (Dev.listenValue d iq).2 := by
  unfold Dev.listenValue
  repeat' first
    | with_reducible assumption
    | ((fail_if_no_progress extract_lets +onlyGivenNames x); first | (refine sound_cut fz x ?_ (fun _ => ?_); unfold x) | skip)
    | (split <;> first | (rename_i heq; simp only [Prod.ext_iff] at heq; refine sound_eq fz heq.2 ?_ (fun _ => ?_)) | skip)
    | with_reducible apply Dev.draw_sound

theorem Dev.writeListen_sound {d : Dev} {bank : Nat} {listen : List (Word × Word)} (hk : Dev.Sound fz d) :
    Dev.Sound fz (Dev.writeListen d bank listen) := by
  unfold Dev.writeListen
  repeat' first
    | with_reducible assumption
    | (with_reducible apply sound_foldl; intros)
    | (with_reducible apply sound_foldl_snd; intros)
    | (split <;> first | (rename_i heq; simp only [Prod.ext_iff] at heq; refine sound_eq fz heq.2 ?_ (fun _ => ?_)) | skip)
    | with_reducible apply Dev.listenValue_sound
    | with_reducible apply Dev.setBank_sound

theorem Dev.writeSelf_sound {d : Dev} {bank : Nat} {selfs : List Word} (hk : Dev.Sound fz d) :
    Dev.Sound fz (Dev.writeSelf d bank selfs).2 := by
  unfold Dev.writeSelf
  repeat' first
    | with_reducible assumption
    | ((fail_if_no_progress extract_lets +onlyGivenNames x); first | (refine sound_cut fz x ?_ (fun _ => ?_); unfold x) | skip)
    | (with_reducible apply sound_foldl; intros)
    | (with_reducible apply sound_foldl_snd; intros)
    | (split <;> first | (rename_i heq; simp only [Prod.ext_iff] at heq; refine sound_eq fz heq.2 ?_ (fun _ => ?_)) | skip)
    | with_reducible apply Dev.setBank_sound

theorem Dev.blankPlane_sound {d : Dev} {bank : Nat} {base : Nat} (hk : Dev.Sound fz d) :
    Dev.Sound fz (Dev.blankPlane d bank base) := by
  unfold Dev.blankPlane
  repeat' first
    | with_reducible assumption
    | (with_reducible apply sound_foldl; intros)
    | with_reducible apply Dev.setBank_sound

theorem Dev.sixteenth_sound {d : Dev} {sum : Int} (hk : Dev.Sound fz d) :
    Dev.Sound fz (Dev.sixteenth d sum).2 := by
  unfold Dev.sixteenth
  repeat' first
    | with_reducible assumption
    | (split <;> first | (rename_i heq; simp only [Prod.ext_iff] at heq; refine sound_eq fz heq.2 ?_ (fun _ => ?_)) | skip)
    | with_reducible apply Dev.draw_sound

theorem Dev.nodeSample_sound {d : Dev} {chips : List Word} {t : Nat} {r : Nat} (hk : Dev.Sound fz d) :
    Dev.Sound fz (Dev.nodeSample d chips t r).2.2 := by
  unfold Dev.nodeSample
  repeat' first
    | with_reducible assumption
    | ((fail_if_no_progress extract_lets +onlyGivenNames x); first | (refine sound_cut fz x ?_ (fun _ => ?_); unfold x) | skip)
    | (split <;> first | (rename_i heq; simp only [Prod.ext_iff] at heq; refine sound_eq fz heq.2 ?_ (fun _ => ?_)) | skip)
    | with_reducible apply Dev.sixteenth_sound

theorem Dev.writePlane_sound {d : Dev} {bank : Nat} {base : Nat} {chips : List Word} (hk : Dev.Sound fz d) :
    Dev.Sound fz (Dev.writePlane d bank base chips).2 := by
  unfold Dev.writePlane
  repeat' first
    | with_reducible assumption
    | (with_reducible apply sound_foldl; intros)
    | (with_reducible apply sound_foldl_snd; intros)
    | (split <;> first | (rename_i heq; simp only [Prod.ext_iff] at heq; first
        | refine sound_eq fz heq.2 ?_ (fun _ => ?_)
        | refine sound_eq fz heq.2.2 ?_ (fun _ => ?_)
        | refine sound_eq fz heq.2.2.2 ?_ (fun _ => ?_)) | skip)
    | with_reducible apply Dev.nodeSample_sound
    | with_reducible apply Dev.setBank_sound

theorem Dev.clearUnlisted_sound {d : Dev} {bank : Nat} {iq : Bool} (hk : Dev.Sound fz d) :
    Dev.Sound fz (Dev.clearUnlisted d bank iq) :=
  sound_mk ⟨hk.1, cellsWf_filter _ hk.2.1, hk.2.2⟩

theorem Dev.setOwner_sound {d : Dev} {bank : Nat} {code : Nat} (hk : Dev.Sound fz d) :
    Dev.Sound fz (Dev.setOwner d bank code) := by
  unfold Dev.setOwner
  repeat' first
    | with_reducible assumption
    | with_reducible apply Dev.setFlag_sound
    | with_reducible apply Dev.setFld_sound

theorem Dev.framePlane_sound {d : Dev} {f : FrameInfo} {base : Nat} {chips : List Word} (hk : Dev.Sound fz d) :
    Dev.Sound fz (Dev.framePlane d f base chips).2 := by
  unfold Dev.framePlane
  split
  · exact Dev.blankPlane_sound hk
  · exact Dev.writePlane_sound hk

theorem Dev.framePlaneQ_sound {d : Dev} {f : FrameInfo} {chips : List Word} (hk : Dev.Sound fz d) :
    Dev.Sound fz (Dev.framePlaneQ d f chips).2 := by
  unfold Dev.framePlaneQ
  split
  · exact Dev.framePlane_sound hk
  · exact hk

theorem Dev.writeFrame_sound {d : Dev} {f : FrameInfo} {listen : List (Word × Word)} {selfs chipsI chipsQ : List Word}
    (hk : Dev.Sound fz d) : Dev.Sound fz (Dev.writeFrame d f listen selfs chipsI chipsQ).2 :=
  Dev.framePlaneQ_sound (Dev.framePlane_sound (Dev.writeSelf_sound (Dev.writeListen_sound hk)))

theorem Dev.endScan_sound {d : Dev} {f : FrameInfo} {listen : List (Word × Word)} {selfs : List Word} {chipsI : List Word} {chipsQ : List Word} (hk : Dev.Sound fz d) :
    Dev.Sound fz (Dev.endScan d f listen selfs chipsI chipsQ) := by
  unfold Dev.endScan
  repeat' first
    | with_reducible assumption
    | ((fail_if_no_progress extract_lets +onlyGivenNames x); first | (refine sound_cut fz x ?_ (fun _ => ?_); unfold x) | skip)
    | (split <;> first | (rename_i heq; simp only [Prod.ext_iff] at heq; refine sound_eq fz heq.2 ?_ (fun _ => ?_)) | skip)
    | with_reducible apply Dev.bump_sound
    | with_reducible apply Dev.fillBank_sound
    | with_reducible apply Dev.foldVtx_sound
    | with_reducible apply Dev.setFld_sound
    | with_reducible apply Dev.setOwner_sound
    | with_reducible apply Dev.take_sound
    | with_reducible apply Dev.writeFrame_sound
    | with_reducible exact sound_mk (Dev.Sound.parts (by assumption))
    | split

theorem execScanLegs_sound {n : BitVec 8} {s : State} {t : State}
    (hk : s.dev.Sound fz) (h : execScanLegs n s = .next t) : t.dev.Sound fz := by
  unfold execScanLegs at h
  refine State.run_sound hk h (fun d hk => ?_)
  repeat' first
    | with_reducible assumption
    | (fail_if_no_progress intros)
    | with_reducible apply Dev.finishOk_sound
    | with_reducible apply Dev.print_sound
    | with_reducible apply Dev.finishErr_sound
    | with_reducible apply Dev.command_sound
    | with_reducible apply State.run_sound
    | with_reducible exact sound_mk (Dev.Sound.parts (by assumption))
    | split

theorem Dev.scanNode_sound {d : Dev} {t : Nat} {r : Nat} (hk : Dev.Sound fz d) :
    Dev.Sound fz (Dev.scanNode d t r) := by
  unfold Dev.scanNode
  repeat' first
    | with_reducible assumption
    | ((fail_if_no_progress extract_lets +onlyGivenNames x); first | (refine sound_cut fz x ?_ (fun _ => ?_); unfold x) | skip)
    | with_reducible apply Dev.finishOk_sound
    | with_reducible apply Dev.print_sound
    | with_reducible apply Dev.finishErr_sound
    | split

theorem Dev.setElFault_sound {d : Dev} {e : Nat} {b : Bool} (hk : Dev.Sound fz d) :
    Dev.Sound fz (Dev.setElFault d e b) := by
  unfold Dev.setElFault
  repeat' first
    | with_reducible assumption
    | ((fail_if_no_progress extract_lets +onlyGivenNames x); first | (refine sound_cut fz x ?_ (fun _ => ?_); unfold x) | skip)
    | with_reducible apply Dev.setFlag_sound

theorem Dev.electrodeFault_sound {d : Dev} {e : Nat} {kind : Nat} (hk : Dev.Sound fz d) :
    Dev.Sound fz (Dev.electrodeFault d e kind) := by
  unfold Dev.electrodeFault
  repeat' first
    | with_reducible assumption
    | ((fail_if_no_progress extract_lets +onlyGivenNames x); first | (refine sound_cut fz x ?_ (fun _ => ?_); unfold x) | skip)
    | with_reducible apply Dev.setElFault_sound
    | with_reducible apply Dev.ring_sound
    | split

theorem Dev.limitTrips_sound {d : Dev} {trips : List (Nat × Nat)} (hk : Dev.Sound fz d) :
    Dev.Sound fz (Dev.limitTrips d trips) := by
  unfold Dev.limitTrips
  repeat' first
    | with_reducible assumption
    | ((fail_if_no_progress extract_lets +onlyGivenNames x); first | (refine sound_cut fz x ?_ (fun _ => ?_); unfold x) | skip)
    | (with_reducible apply sound_foldl; intros)
    | with_reducible apply Dev.bump_sound
    | with_reducible apply Dev.electrodeFault_sound
    | split

theorem Dev.consoleScanTone_sound {d : Dev} {n : Nat} {k : Nat} (hk : Dev.Sound fz d) :
    Dev.Sound fz (Dev.consoleScanTone d n k) := by
  unfold Dev.consoleScanTone
  repeat' first
    | with_reducible assumption
    | ((fail_if_no_progress extract_lets +onlyGivenNames x); first | (refine sound_cut fz x ?_ (fun _ => ?_); unfold x) | skip)
    | with_reducible apply Dev.finishErr_sound
    | with_reducible apply Dev.finishOk_sound
    | with_reducible apply Dev.setFld_sound
    | with_reducible exact sound_mk (Dev.Sound.parts (by assumption))
    | split

theorem execScanTone_sound {n : BitVec 8} {k : BitVec 3} {s : State} {t : State}
    (hk : s.dev.Sound fz) (h : execScanTone n k s = .next t) : t.dev.Sound fz := by
  unfold execScanTone at h
  refine State.run_sound hk h (fun d hk => ?_)
  repeat' first
    | with_reducible assumption
    | (fail_if_no_progress intros)
    | with_reducible apply Dev.consoleScanTone_sound
    | with_reducible apply Dev.command_sound
    | with_reducible apply State.run_sound
    | with_reducible exact sound_mk (Dev.Sound.parts (by assumption))

theorem Dev.median_sound {d : Dev} {vs : List Nat} (hk : Dev.Sound fz d) :
    Dev.Sound fz (Dev.median d vs).2 := by
  unfold Dev.median
  repeat' first
    | with_reducible assumption
    | ((fail_if_no_progress extract_lets +onlyGivenNames x); first | (refine sound_cut fz x ?_ (fun _ => ?_); unfold x) | skip)
    | (split <;> first | (rename_i heq; simp only [Prod.ext_iff] at heq; refine sound_eq fz heq.2 ?_ (fun _ => ?_)) | skip)
    | with_reducible apply Dev.draw_sound

theorem Dev.dropBaselines_sound {d : Dev} (hk : Dev.Sound fz d) :
    Dev.Sound fz (Dev.dropBaselines d) := by
  unfold Dev.dropBaselines
  repeat' first
    | with_reducible assumption
    | ((fail_if_no_progress extract_lets +onlyGivenNames x); first | (refine sound_cut fz x ?_ (fun _ => ?_); unfold x) | skip)
    | with_reducible exact sound_mk (Dev.Sound.parts (by assumption))

theorem Dev.baselineEvent_sound {d : Dev} {kind : Nat} {slot : Nat} {frame : Nat} (hk : Dev.Sound fz d) :
    Dev.Sound fz (Dev.baselineEvent d kind slot frame) := by
  unfold Dev.baselineEvent
  repeat' first
    | with_reducible assumption
    | with_reducible apply Dev.ring_sound

theorem Dev.renewChannels_sound {d : Dev} {f : FrameInfo} (hk : Dev.Sound fz d) :
    Dev.Sound fz (Dev.renewChannels d f) := by
  unfold Dev.renewChannels
  repeat' first
    | with_reducible assumption
    | ((fail_if_no_progress extract_lets +onlyGivenNames x); first | (refine sound_cut fz x ?_ (fun _ => ?_); unfold x) | skip)
    | with_reducible apply Dev.bump_sound
    | with_reducible apply Dev.baselineEvent_sound
    | with_reducible exact sound_mk (Dev.Sound.parts (by assumption))
    | split

theorem Dev.dropFrames_sound {d : Dev} (hk : Dev.Sound fz d) :
    Dev.Sound fz (Dev.dropFrames d) := by
  unfold Dev.dropFrames
  repeat' first
    | with_reducible assumption
    | (with_reducible apply sound_foldl_snd; intros)
    | ((fail_if_no_progress extract_lets +onlyGivenNames x); first | (refine sound_cut fz x ?_ (fun _ => ?_); unfold x) | skip)
    | (with_reducible apply sound_foldl; intros)
    | with_reducible apply Dev.setOwner_sound
    | with_reducible apply Dev.dropBaselines_sound
    | with_reducible apply Dev.renewChannels_sound
    | with_reducible exact sound_mk (Dev.Sound.parts (by assumption))
    | split

theorem Dev.scanNoise_sound {d : Dev} (hk : Dev.Sound fz d) :
    Dev.Sound fz (Dev.scanNoise d) := by
  unfold Dev.scanNoise
  repeat' first
    | with_reducible assumption
    | ((fail_if_no_progress extract_lets +onlyGivenNames x); first | (refine sound_cut fz x ?_ (fun _ => ?_); unfold x) | skip)
    | (with_reducible apply sound_foldl; intros)
    | (with_reducible apply sound_foldl_snd; intros)
    | (split <;> first | (rename_i heq; simp only [Prod.ext_iff] at heq; refine sound_eq fz heq.2 ?_ (fun _ => ?_)) | skip)
    | with_reducible apply Dev.finishOk_sound
    | with_reducible apply Dev.median_sound
    | with_reducible apply Dev.print_sound

theorem execScanNoise_sound {s : State} {t : State}
    (hk : s.dev.Sound fz) (h : execScanNoise s = .next t) : t.dev.Sound fz := by
  unfold execScanNoise at h
  refine State.run_sound hk h (fun d hk => ?_)
  repeat' first
    | with_reducible assumption
    | (fail_if_no_progress intros)
    | with_reducible apply Dev.scanNoise_sound
    | with_reducible apply Dev.command_sound
    | with_reducible apply State.run_sound
    | with_reducible exact sound_mk (Dev.Sound.parts (by assumption))

theorem execScanNode_sound {tx : BitVec 8} {r : BitVec 8} {s : State} {t : State}
    (hk : s.dev.Sound fz) (h : execScanNode tx r s = .next t) : t.dev.Sound fz := by
  unfold execScanNode at h
  refine State.run_sound hk h (fun d hk => ?_)
  repeat' first
    | with_reducible assumption
    | (fail_if_no_progress intros)
    | with_reducible apply Dev.scanNode_sound
    | with_reducible apply Dev.command_sound
    | with_reducible apply State.run_sound
    | with_reducible exact sound_mk (Dev.Sound.parts (by assumption))

theorem Dev.enterGap_sound {d : Dev} (hk : Dev.Sound fz d) :
    Dev.Sound fz (Dev.enterGap d) := by
  unfold Dev.enterGap
  repeat' first
    | with_reducible assumption
    | ((fail_if_no_progress extract_lets +onlyGivenNames x); first | (refine sound_cut fz x ?_ (fun _ => ?_); unfold x) | skip)
    | with_reducible apply Dev.setFld_sound
    | with_reducible exact sound_mk (Dev.Sound.parts (by assumption))

theorem Dev.scanStart_sound {d : Dev} {reason : Nat} (hk : Dev.Sound fz d) :
    Dev.Sound fz (Dev.scanStart d reason) := by
  unfold Dev.scanStart
  repeat' first
    | with_reducible assumption
    | ((fail_if_no_progress extract_lets +onlyGivenNames x); first | (refine sound_cut fz x ?_ (fun _ => ?_); unfold x) | skip)
    | with_reducible apply Dev.setFld_sound
    | with_reducible apply Dev.setFlag_sound
    | with_reducible apply Dev.ring_sound
    | split

theorem Dev.scanStop_sound {d : Dev} {reason : Nat} (hk : Dev.Sound fz d) :
    Dev.Sound fz (Dev.scanStop d reason) := by
  unfold Dev.scanStop
  repeat' first
    | with_reducible assumption
    | ((fail_if_no_progress extract_lets +onlyGivenNames x); first | (refine sound_cut fz x ?_ (fun _ => ?_); unfold x) | skip)
    | with_reducible apply Dev.dropFrames_sound
    | with_reducible apply Dev.setFlag_sound
    | with_reducible apply Dev.setFld_sound
    | with_reducible apply Dev.ring_sound
    | split

theorem Dev.consoleScanRun_sound {d : Dev} (hk : Dev.Sound fz d) :
    Dev.Sound fz (Dev.consoleScanRun d) := by
  unfold Dev.consoleScanRun
  repeat' first
    | with_reducible assumption
    | ((fail_if_no_progress extract_lets +onlyGivenNames x); first | (refine sound_cut fz x ?_ (fun _ => ?_); unfold x) | skip)
    | with_reducible apply Dev.finishErr_sound
    | with_reducible apply Dev.finishOk_sound
    | with_reducible apply Dev.scanStart_sound
    | with_reducible exact sound_mk (Dev.Sound.parts (by assumption))
    | split

theorem execScanRun_sound {s : State} {t : State}
    (hk : s.dev.Sound fz) (h : execScanRun s = .next t) : t.dev.Sound fz := by
  unfold execScanRun at h
  refine State.run_sound hk h (fun d hk => ?_)
  repeat' first
    | with_reducible assumption
    | (fail_if_no_progress intros)
    | with_reducible apply Dev.consoleScanRun_sound
    | with_reducible apply Dev.command_sound
    | with_reducible apply State.run_sound
    | with_reducible exact sound_mk (Dev.Sound.parts (by assumption))

theorem Dev.ratio_sound {d : Dev} {num : Int} {den : Nat} (hk : Dev.Sound fz d) :
    Dev.Sound fz (Dev.ratio d num den).2 := by
  unfold Dev.ratio
  repeat' first
    | with_reducible assumption
    | (split <;> first | (rename_i heq; simp only [Prod.ext_iff] at heq; refine sound_eq fz heq.2 ?_ (fun _ => ?_)) | skip)
    | with_reducible apply Dev.draw_sound

theorem Dev.acquireNode_sound {d : Dev} {nd : Node} {sample : Option Int} (hk : Dev.Sound fz d) :
    Dev.Sound fz (Dev.acquireNode d nd sample).2 := by
  unfold Dev.acquireNode
  repeat' first
    | with_reducible assumption
    | ((fail_if_no_progress extract_lets +onlyGivenNames x); first | (refine sound_cut fz x ?_ (fun _ => ?_); unfold x) | skip)
    | (split <;> first | (rename_i heq; simp only [Prod.ext_iff] at heq; refine sound_eq fz heq.2 ?_ (fun _ => ?_)) | skip)
    | with_reducible apply Dev.ratio_sound

theorem Dev.drift_sound {d : Dev} {base : Int} {sample : Int} (hk : Dev.Sound fz d) :
    Dev.Sound fz (Dev.drift d base sample).2 := by
  unfold Dev.drift
  repeat' first
    | with_reducible assumption
    | ((fail_if_no_progress extract_lets +onlyGivenNames x); first | (refine sound_cut fz x ?_ (fun _ => ?_); unfold x) | skip)
    | (split <;> first | (rename_i heq; simp only [Prod.ext_iff] at heq; refine sound_eq fz heq.2 ?_ (fun _ => ?_)) | skip)
    | with_reducible apply Dev.draw_sound

theorem Dev.setTrk_sound {d : Dev} {t : Track} (hk : Dev.Sound fz d) :
    Dev.Sound fz (Dev.setTrk d t) := by
  unfold Dev.setTrk
  repeat' first
    | with_reducible assumption
    | with_reducible exact sound_mk (Dev.Sound.parts (by assumption))

theorem Dev.trackNode_sound {d : Dev} {f : FrameInfo} {i : Nat} {held : Bool} {nd : Node} (hk : Dev.Sound fz d) :
    Dev.Sound fz (Dev.trackNode d f i held nd).2 := by
  unfold Dev.trackNode
  repeat' first
    | with_reducible assumption
    | ((fail_if_no_progress extract_lets +onlyGivenNames x); first | (refine sound_cut fz x ?_ (fun _ => ?_); unfold x) | skip)
    | (split <;> first | (rename_i heq; simp only [Prod.ext_iff] at heq; refine sound_eq fz heq.2 ?_ (fun _ => ?_)) | skip)
    | with_reducible apply Dev.acquireNode_sound
    | with_reducible apply Dev.drift_sound
    | with_reducible exact sound_mk (Dev.Sound.parts (by assumption))
    | split

theorem Dev.excludeLow_sound {d : Dev} {nodes : List Node} {slot : Nat} {frame : Nat} (hk : Dev.Sound fz d) :
    Dev.Sound fz (Dev.excludeLow d nodes slot frame).2 := by
  unfold Dev.excludeLow
  repeat' first
    | with_reducible assumption
    | ((fail_if_no_progress extract_lets +onlyGivenNames x); first | (refine sound_cut fz x ?_ (fun _ => ?_); unfold x) | skip)
    | with_reducible apply Dev.baselineEvent_sound
    | with_reducible exact sound_mk (Dev.Sound.parts (by assumption))
    | split

theorem Dev.reacquire_sound {d : Dev} {nodes : List Node} {tick : Nat} {slot : Nat} {frame : Nat} (hk : Dev.Sound fz d) :
    Dev.Sound fz (Dev.reacquire d nodes tick slot frame).2 := by
  unfold Dev.reacquire
  repeat' first
    | with_reducible assumption
    | ((fail_if_no_progress extract_lets +onlyGivenNames x); first | (refine sound_cut fz x ?_ (fun _ => ?_); unfold x) | skip)
    | with_reducible apply Dev.baselineEvent_sound
    | with_reducible apply Dev.bump_sound
    | with_reducible exact sound_mk (Dev.Sound.parts (by assumption))
    | split

theorem Dev.updateNodes_sound {d : Dev} {f : FrameInfo} {s : SlotBase} {still : List (Int × Int)} {reacq : List (Int
    × Int)} (hk : Dev.Sound fz d) :
    Dev.Sound fz (Dev.updateNodes d f s still reacq) := by
  unfold Dev.updateNodes
  repeat' first
    | with_reducible assumption
    | ((fail_if_no_progress extract_lets +onlyGivenNames x); first | (refine sound_cut fz x ?_ (fun _ => ?_); unfold x) | skip)
    | (with_reducible apply sound_foldl; intros)
    | (with_reducible apply sound_foldl_snd; intros)
    | (split <;> first | (rename_i heq; simp only [Prod.ext_iff] at heq; refine sound_eq fz heq.2 ?_ (fun _ => ?_)) | skip)
    | with_reducible apply Dev.acquireNode_sound
    | with_reducible apply Dev.drift_sound
    | with_reducible apply Dev.baselineEvent_sound
    | with_reducible apply Dev.bump_sound
    | with_reducible apply Dev.setTrk_sound
    | with_reducible apply Dev.excludeLow_sound
    | with_reducible apply Dev.reacquire_sound
    | with_reducible apply Dev.trackNode_sound
    | with_reducible exact sound_mk (Dev.Sound.parts (by assumption))
    | split

theorem Dev.stripVals_sound {d : Dev} {f : FrameInfo} {edge : Nat} (hk : Dev.Sound fz d) :
    Dev.Sound fz (Dev.stripVals d f edge).2 := by
  unfold Dev.stripVals
  repeat' first
    | with_reducible assumption
    | ((fail_if_no_progress extract_lets +onlyGivenNames x); first | (refine sound_cut fz x ?_ (fun _ => ?_); unfold x) | skip)
    | (with_reducible apply sound_foldl; intros)
    | (with_reducible apply sound_foldl_snd; intros)
    | (split <;> first | (rename_i heq; simp only [Prod.ext_iff] at heq; refine sound_eq fz heq.2 ?_ (fun _ => ?_)) | skip)
    | with_reducible apply Dev.ratio_sound

theorem Dev.stripSend_sound {d : Dev} {f : FrameInfo} (hk : Dev.Sound fz d) :
    Dev.Sound fz (Dev.stripSend d f) := by
  unfold Dev.stripSend
  repeat' first
    | with_reducible assumption
    | (with_reducible apply sound_foldl; intros)
    | (with_reducible apply sound_foldl_snd; intros)
    | (split <;> first | (rename_i heq; simp only [Prod.ext_iff] at heq; refine sound_eq fz heq.2 ?_ (fun _ => ?_)) | skip)
    | with_reducible apply Dev.stripVals_sound
    | with_reducible apply Dev.send_sound

theorem Dev.selfScanEnd_sound {d : Dev} {listen : List (Word × Word)} {selfs : List Word} {chipsI : List Word}
    {chipsQ : List Word} {trips : List (Nat × Nat)} (hk : Dev.Sound fz d) :
    Dev.Sound fz (Dev.selfScanEnd d listen selfs chipsI chipsQ trips) := by
  unfold Dev.selfScanEnd
  repeat' first
    | with_reducible assumption
    | with_reducible apply Dev.enterGap_sound
    | with_reducible apply Dev.stripSend_sound
    | with_reducible apply Dev.limitTrips_sound
    | with_reducible apply Dev.endScan_sound
    | split

theorem Dev.trackResumed_sound {d : Dev} {f : FrameInfo} (hk : Dev.Sound fz d) :
    Dev.Sound fz (Dev.trackResumed d f) := by
  unfold Dev.trackResumed
  repeat' first
    | with_reducible assumption
    | ((fail_if_no_progress extract_lets +onlyGivenNames x); first | (refine sound_cut fz x ?_ (fun _ => ?_); unfold x) | skip)
    | with_reducible apply Dev.setFlag_sound
    | with_reducible apply Dev.setTrk_sound
    | with_reducible apply Dev.ring_sound
    | split

theorem Dev.updateNoise_sound {d : Dev} {bank : Nat} {chans : List Nat} (hk : Dev.Sound fz d) :
    Dev.Sound fz (Dev.updateNoise d bank chans) := by
  unfold Dev.updateNoise
  repeat' first
    | with_reducible assumption
    | ((fail_if_no_progress extract_lets +onlyGivenNames x); first | (refine sound_cut fz x ?_ (fun _ => ?_); unfold x) | skip)
    | (with_reducible apply sound_foldl; intros)
    | (with_reducible apply sound_foldl_snd; intros)
    | (split <;> first | (rename_i heq; simp only [Prod.ext_iff] at heq; refine sound_eq fz heq.2 ?_ (fun _ => ?_)) | skip)
    | with_reducible apply Dev.median_sound
    | with_reducible apply Dev.ratio_sound
    | with_reducible apply Dev.setFld_sound
    | with_reducible exact sound_mk (Dev.Sound.parts (by assumption))

theorem Dev.cancelIds_sound {d : Dev} {ids : List Nat} {reason : Nat} (hk : Dev.Sound fz d) :
    Dev.Sound fz (Dev.cancelIds d ids reason) := by
  unfold Dev.cancelIds
  repeat' first
    | with_reducible assumption
    | ((fail_if_no_progress extract_lets +onlyGivenNames x); first | (refine sound_cut fz x ?_ (fun _ => ?_); unfold x) | skip)
    | with_reducible apply Dev.setTrk_sound
    | with_reducible apply Dev.setFld_sound
    | with_reducible apply Dev.bumpBy_sound
    | with_reducible apply Dev.setFlag_sound
    | with_reducible exact sound_mk (Dev.Sound.parts (by assumption))
    | split

theorem Dev.stuckStep_sound {d : Dev} {f : FrameInfo} (hk : Dev.Sound fz d) :
    Dev.Sound fz (Dev.stuckStep d f).2 := by
  unfold Dev.stuckStep
  repeat' first
    | with_reducible assumption
    | ((fail_if_no_progress extract_lets +onlyGivenNames x); first | (refine sound_cut fz x ?_ (fun _ => ?_); unfold x) | skip)
    | (split <;> first | (rename_i heq; simp only [Prod.ext_iff] at heq; refine sound_eq fz heq.2 ?_ (fun _ => ?_)) | skip)
    | with_reducible apply Dev.baselineEvent_sound
    | with_reducible apply Dev.bump_sound
    | with_reducible apply Dev.cancelIds_sound

theorem Dev.palmStep_sound {d : Dev} {f : FrameInfo} {si : Sight} (hk : Dev.Sound fz d) :
    Dev.Sound fz (Dev.palmStep d f si) := by
  unfold Dev.palmStep
  repeat' first
    | with_reducible assumption
    | (with_reducible apply sound_foldl; intros)
    | (with_reducible apply sound_foldl_snd; intros)
    | ((fail_if_no_progress extract_lets +onlyGivenNames x); first | (refine sound_cut fz x ?_ (fun _ => ?_); unfold x) | skip)
    | with_reducible apply Dev.setFlag_sound
    | with_reducible apply Dev.setTrk_sound
    | with_reducible apply Dev.cancelIds_sound
    | with_reducible apply Dev.ring_sound
    | with_reducible exact sound_mk (Dev.Sound.parts (by assumption))
    | split

theorem Dev.hopTo_sound {d : Dev} {q : Nat} {reason : Nat} (hk : Dev.Sound fz d) :
    Dev.Sound fz (Dev.hopTo d q reason) := by
  unfold Dev.hopTo
  repeat' first
    | with_reducible assumption
    | ((fail_if_no_progress extract_lets +onlyGivenNames x); first | (refine sound_cut fz x ?_ (fun _ => ?_); unfold x) | skip)
    | with_reducible apply Dev.setTrk_sound
    | with_reducible apply Dev.bump_sound
    | with_reducible apply Dev.setReg_sound
    | with_reducible apply Dev.setFld_sound
    | with_reducible apply Dev.ring_sound

theorem Dev.scaleNode_sound {d : Dev} {old : Nat} {new : Nat} {nd : Node} (hk : Dev.Sound fz d) :
    Dev.Sound fz (Dev.scaleNode d old new nd).2 := by
  unfold Dev.scaleNode
  repeat' first
    | with_reducible assumption
    | ((fail_if_no_progress extract_lets +onlyGivenNames x); first | (refine sound_cut fz x ?_ (fun _ => ?_); unfold x) | skip)
    | (split <;> first | (rename_i heq; simp only [Prod.ext_iff] at heq; refine sound_eq fz heq.2 ?_ (fun _ => ?_)) | skip)
    | with_reducible apply Dev.ratio_sound
    | with_reducible exact sound_mk (Dev.Sound.parts (by assumption))

theorem Dev.noteTarget_sound {d : Dev} {vtx : Nat} (hk : Dev.Sound fz d) :
    Dev.Sound fz (Dev.noteTarget d vtx) := by
  unfold Dev.noteTarget
  repeat' first
    | with_reducible assumption
    | with_reducible apply Dev.setTrk_sound
    | with_reducible exact sound_mk (Dev.Sound.parts (by assumption))
    | split

theorem Dev.scaleSlot_sound {d : Dev} {f : FrameInfo} {s : SlotBase} {vtx : Nat} (hk : Dev.Sound fz d) :
    Dev.Sound fz (Dev.scaleSlot d f s vtx).2 := by
  unfold Dev.scaleSlot
  repeat' first
    | with_reducible assumption
    | ((fail_if_no_progress extract_lets +onlyGivenNames x); first | (refine sound_cut fz x ?_ (fun _ => ?_); unfold x) | skip)
    | (with_reducible apply sound_foldl; intros)
    | (with_reducible apply sound_foldl_snd; intros)
    | (split <;> first | (rename_i heq; simp only [Prod.ext_iff] at heq; refine sound_eq fz heq.2 ?_ (fun _ => ?_)) | skip)
    | with_reducible apply Dev.baselineEvent_sound
    | with_reducible apply Dev.scaleNode_sound
    | with_reducible apply Dev.setTrk_sound
    | with_reducible exact sound_mk (Dev.Sound.parts (by assumption))
    | split

theorem Dev.prepareSlot_sound {d : Dev} {f : FrameInfo} (hk : Dev.Sound fz d) :
    Dev.Sound fz (Dev.prepareSlot d f).2 := by
  unfold Dev.prepareSlot
  repeat' first
    | with_reducible assumption
    | ((fail_if_no_progress extract_lets +onlyGivenNames x); first | (refine sound_cut fz x ?_ (fun _ => ?_); unfold x) | skip)
    | (with_reducible apply sound_foldl; intros)
    | (with_reducible apply sound_foldl_snd; intros)
    | (split <;> first | (rename_i heq; simp only [Prod.ext_iff] at heq; refine sound_eq fz heq.2 ?_ (fun _ => ?_)) | skip)
    | with_reducible apply Dev.ratio_sound
    | with_reducible apply Dev.baselineEvent_sound
    | with_reducible apply Dev.setTrk_sound
    | with_reducible apply Dev.bump_sound
    | with_reducible apply Dev.noteTarget_sound
    | with_reducible apply Dev.scaleSlot_sound
    | with_reducible exact sound_mk (Dev.Sound.parts (by assumption))

theorem Dev.reducedStep_sound {d : Dev} {f : FrameInfo} (hk : Dev.Sound fz d) :
    Dev.Sound fz (Dev.reducedStep d f) := by
  unfold Dev.reducedStep
  repeat' first
    | with_reducible assumption
    | ((fail_if_no_progress extract_lets +onlyGivenNames x); first | (refine sound_cut fz x ?_ (fun _ => ?_); unfold x) | skip)
    | with_reducible apply Dev.ring_sound
    | with_reducible apply Dev.setFlag_sound
    | split

theorem Dev.soleStep_sound {d : Dev} (hk : Dev.Sound fz d) :
    Dev.Sound fz (Dev.soleStep d) := by
  unfold Dev.soleStep
  repeat' first
    | with_reducible assumption
    | ((fail_if_no_progress extract_lets +onlyGivenNames x); first | (refine sound_cut fz x ?_ (fun _ => ?_); unfold x) | skip)
    | with_reducible apply Dev.setTrk_sound
    | split

theorem Dev.forcedHop_sound {d : Dev} (hk : Dev.Sound fz d) :
    Dev.Sound fz (Dev.forcedHop d) := by
  unfold Dev.forcedHop
  repeat' first
    | with_reducible assumption
    | ((fail_if_no_progress extract_lets +onlyGivenNames x); first | (refine sound_cut fz x ?_ (fun _ => ?_); unfold x) | skip)
    | with_reducible apply Dev.hopTo_sound
    | split

theorem Dev.rejudgeHop_sound {d : Dev} (hk : Dev.Sound fz d) :
    Dev.Sound fz (Dev.rejudgeHop d) := by
  unfold Dev.rejudgeHop
  repeat' first
    | with_reducible assumption
    | with_reducible apply Dev.hopTo_sound
    | with_reducible apply Dev.setTrk_sound
    | with_reducible exact sound_mk (Dev.Sound.parts (by assumption))
    | split

theorem Dev.slotBoundary_sound {d : Dev} {changed : Bool} (hk : Dev.Sound fz d) :
    Dev.Sound fz (Dev.slotBoundary d changed) := by
  unfold Dev.slotBoundary
  repeat' first
    | with_reducible assumption
    | ((fail_if_no_progress extract_lets +onlyGivenNames x); first | (refine sound_cut fz x ?_ (fun _ => ?_); unfold x) | skip)
    | with_reducible apply Dev.hopTo_sound
    | with_reducible apply Dev.forcedHop_sound
    | with_reducible apply Dev.rejudgeHop_sound
    | with_reducible apply Dev.setTrk_sound
    | with_reducible exact sound_mk (Dev.Sound.parts (by assumption))
    | split

theorem Dev.judgeNoisy_sound {d : Dev} {tick : Nat} (hk : Dev.Sound fz d) :
    Dev.Sound fz (Dev.judgeNoisy d tick) := by
  unfold Dev.judgeNoisy
  repeat' first
    | with_reducible assumption
    | ((fail_if_no_progress extract_lets +onlyGivenNames x); first | (refine sound_cut fz x ?_ (fun _ => ?_); unfold x) | skip)
    | (with_reducible apply sound_foldl; intros)
    | with_reducible apply Dev.setTrk_sound
    | with_reducible apply Dev.ring_sound
    | with_reducible apply Dev.setFlag_sound
    | split

theorem Dev.trackFlags_sound {d : Dev} {frame : Nat} (hk : Dev.Sound fz d) :
    Dev.Sound fz (Dev.trackFlags d frame) := by
  unfold Dev.trackFlags
  repeat' first
    | with_reducible assumption
    | ((fail_if_no_progress extract_lets +onlyGivenNames x); first | (refine sound_cut fz x ?_ (fun _ => ?_); unfold x) | skip)
    | with_reducible apply Dev.setFlag_sound
    | with_reducible apply Dev.setFld_sound
    | with_reducible apply Dev.setTrk_sound
    | with_reducible apply Dev.ring_sound
    | split

theorem Dev.cancelLive_sound {d : Dev} {reason : Nat} (hk : Dev.Sound fz d) :
    Dev.Sound fz (Dev.cancelLive d reason) := by
  unfold Dev.cancelLive
  repeat' first
    | with_reducible assumption
    | with_reducible apply Dev.cancelIds_sound

theorem Dev.trackHeld_sound {d : Dev} {f : FrameInfo} (hk : Dev.Sound fz d) :
    Dev.Sound fz (Dev.trackHeld d f) := by
  unfold Dev.trackHeld
  repeat' first
    | with_reducible assumption
    | ((fail_if_no_progress extract_lets +onlyGivenNames x); first | (refine sound_cut fz x ?_ (fun _ => ?_); unfold x) | skip)
    | with_reducible apply Dev.setFlag_sound
    | with_reducible apply Dev.setTrk_sound
    | with_reducible apply Dev.ring_sound
    | with_reducible apply Dev.cancelLive_sound
    | split

theorem Dev.selfNode_sound {d : Dev} {bank : Nat} {tick : Nat} {e : Nat} {nd : Node} (hk : Dev.Sound fz d) :
    Dev.Sound fz (Dev.selfNode d bank tick e nd).2 := by
  unfold Dev.selfNode
  repeat' first
    | with_reducible assumption
    | ((fail_if_no_progress extract_lets +onlyGivenNames x); first | (refine sound_cut fz x ?_ (fun _ => ?_); unfold x) | skip)
    | (split <;> first | (rename_i heq; simp only [Prod.ext_iff] at heq; refine sound_eq fz heq.2 ?_ (fun _ => ?_)) | skip)
    | with_reducible apply Dev.acquireNode_sound
    | with_reducible apply Dev.drift_sound
    | with_reducible exact sound_mk (Dev.Sound.parts (by assumption))
    | split

theorem Dev.startSelf_sound {d : Dev} (hk : Dev.Sound fz d) :
    Dev.Sound fz (Dev.startSelf d) := by
  unfold Dev.startSelf
  repeat' first
    | with_reducible assumption
    | with_reducible apply Dev.setTrk_sound
    | with_reducible exact sound_mk (Dev.Sound.parts (by assumption))
    | split

theorem Dev.updateSelf_sound {d : Dev} {bank : Nat} {tick : Nat} {slot : Nat} {frame : Nat} (hk : Dev.Sound fz d) :
    Dev.Sound fz (Dev.updateSelf d bank tick slot frame) := by
  unfold Dev.updateSelf
  repeat' first
    | with_reducible assumption
    | ((fail_if_no_progress extract_lets +onlyGivenNames x); first | (refine sound_cut fz x ?_ (fun _ => ?_); unfold x) | skip)
    | (with_reducible apply sound_foldl; intros)
    | (with_reducible apply sound_foldl_snd; intros)
    | (split <;> first | (rename_i heq; simp only [Prod.ext_iff] at heq; refine sound_eq fz heq.2 ?_ (fun _ => ?_)) | skip)
    | with_reducible apply Dev.baselineEvent_sound
    | with_reducible apply Dev.reacquire_sound
    | with_reducible apply Dev.selfNode_sound
    | with_reducible apply Dev.setTrk_sound
    | with_reducible apply Dev.startSelf_sound
    | with_reducible exact sound_mk (Dev.Sound.parts (by assumption))
    | split

theorem Dev.centroid_sound {d : Dev} {cells : List GridCell} {p : GridCell} (hk : Dev.Sound fz d) :
    Dev.Sound fz (Dev.centroid d cells p).2 := by
  unfold Dev.centroid
  repeat' first
    | with_reducible assumption
    | ((fail_if_no_progress extract_lets +onlyGivenNames x); first | (refine sound_cut fz x ?_ (fun _ => ?_); unfold x) | skip)
    | (with_reducible apply sound_foldl; intros)
    | (with_reducible apply sound_foldl_snd; intros)
    | (split <;> first | (rename_i heq; simp only [Prod.ext_iff] at heq; refine sound_eq fz heq.2 ?_ (fun _ => ?_)) | skip)
    | with_reducible apply Dev.ratio_sound

theorem Dev.look_sound {d : Dev} {f : FrameInfo} {s : SlotBase} (hk : Dev.Sound fz d) :
    Dev.Sound fz (Dev.look d f s).2 := by
  unfold Dev.look
  repeat' first
    | with_reducible assumption
    | ((fail_if_no_progress extract_lets +onlyGivenNames x); first | (refine sound_cut fz x ?_ (fun _ => ?_); unfold x) | skip)
    | (with_reducible apply sound_foldl; intros)
    | (with_reducible apply sound_foldl_snd; intros)
    | (split <;> first | (rename_i heq; simp only [Prod.ext_iff] at heq; refine sound_eq fz heq.2 ?_ (fun _ => ?_)) | skip)
    | with_reducible apply Dev.centroid_sound

theorem Dev.matchStep_sound {d : Dev} {f : FrameInfo} {cands : List Cand} (hk : Dev.Sound fz d) :
    Dev.Sound fz (Dev.matchStep d f cands).2 := by
  unfold Dev.matchStep
  repeat' first
    | with_reducible assumption
    | ((fail_if_no_progress extract_lets +onlyGivenNames x); first | (refine sound_cut fz x ?_ (fun _ => ?_); unfold x) | skip)
    | (split <;> first | (rename_i heq; simp only [Prod.ext_iff] at heq; refine sound_eq fz heq.2 ?_ (fun _ => ?_)) | skip)
    | with_reducible apply Dev.setTrk_sound
    | with_reducible apply Dev.cancelIds_sound

theorem Dev.wetStep_sound {d : Dev} {f : FrameInfo} {water : Bool} (hk : Dev.Sound fz d) :
    Dev.Sound fz (Dev.wetStep d f water) := by
  unfold Dev.wetStep
  repeat' first
    | with_reducible assumption
    | ((fail_if_no_progress extract_lets +onlyGivenNames x); first | (refine sound_cut fz x ?_ (fun _ => ?_); unfold x) | skip)
    | with_reducible apply Dev.setTrk_sound
    | with_reducible apply Dev.ring_sound
    | with_reducible apply Dev.setFlag_sound
    | with_reducible apply Dev.cancelIds_sound
    | split

theorem Dev.liftStep_sound {d : Dev} {f : FrameInfo} {si : Sight} (hk : Dev.Sound fz d) :
    Dev.Sound fz (Dev.liftStep d f si).2 := by
  unfold Dev.liftStep
  repeat' first
    | with_reducible assumption
    | ((fail_if_no_progress extract_lets +onlyGivenNames x); first | (refine sound_cut fz x ?_ (fun _ => ?_); unfold x) | skip)
    | with_reducible apply Dev.setTrk_sound
    | with_reducible exact sound_mk (Dev.Sound.parts (by assumption))
    | split

theorem Dev.refuseCands_sound {d : Dev} {n : Nat} {tick : Nat} {frame : Nat} (hk : Dev.Sound fz d) :
    Dev.Sound fz (Dev.refuseCands d n tick frame) := by
  unfold Dev.refuseCands
  repeat' first
    | with_reducible assumption
    | ((fail_if_no_progress extract_lets +onlyGivenNames x); first | (refine sound_cut fz x ?_ (fun _ => ?_); unfold x) | skip)
    | with_reducible apply Dev.bumpBy_sound
    | with_reducible apply Dev.setTrk_sound
    | with_reducible apply Dev.ring_sound
    | split

theorem Dev.formStep_sound {d : Dev} {f : FrameInfo} {cands : List Cand} {taken : List Nat} {handed : List Nat} (hk
    : Dev.Sound fz d) :
    Dev.Sound fz (Dev.formStep d f cands taken handed).2 := by
  unfold Dev.formStep
  repeat' first
    | with_reducible assumption
    | ((fail_if_no_progress extract_lets +onlyGivenNames x); first | (refine sound_cut fz x ?_ (fun _ => ?_); unfold x) | clear_value x)
    | (with_reducible apply sound_foldl; intros)
    | (with_reducible apply sound_foldl_snd; intros)
    | (with_reducible apply sound_foldl_fourth; intros)
    | (split <;> first | (rename_i heq; simp only [Prod.ext_iff] at heq; first
        | refine sound_eq fz heq.2 ?_ (fun _ => ?_)
        | refine sound_eq fz heq.2.2 ?_ (fun _ => ?_)
        | refine sound_eq fz heq.2.2.2 ?_ (fun _ => ?_)) | skip)
    | with_reducible apply Dev.setTrk_sound
    | with_reducible apply Dev.refuseCands_sound

theorem Dev.trackLive_sound {d : Dev} {f : FrameInfo} {handed : List Nat} (hk : Dev.Sound fz d) :
    Dev.Sound fz (Dev.trackLive d f handed).2 := by
  unfold Dev.trackLive
  repeat' first
    | with_reducible assumption
    | ((fail_if_no_progress extract_lets +onlyGivenNames x); first | (refine sound_cut fz x ?_ (fun _ => ?_); unfold x) | skip)
    | (split <;> first | (rename_i heq; simp only [Prod.ext_iff] at heq; refine sound_eq fz heq.2 ?_ (fun _ => ?_)) | skip)
    | with_reducible apply Dev.formStep_sound
    | with_reducible apply Dev.liftStep_sound
    | with_reducible apply Dev.look_sound
    | with_reducible apply Dev.matchStep_sound
    | with_reducible apply Dev.palmStep_sound
    | with_reducible apply Dev.prepareSlot_sound
    | with_reducible apply Dev.reducedStep_sound
    | with_reducible apply Dev.setTrk_sound
    | with_reducible apply Dev.soleStep_sound
    | with_reducible apply Dev.stuckStep_sound
    | with_reducible apply Dev.trackResumed_sound
    | with_reducible apply Dev.updateNodes_sound
    | with_reducible apply Dev.updateSelf_sound
    | with_reducible apply Dev.wetStep_sound
    | with_reducible exact sound_mk (Dev.Sound.parts (by assumption))
    | split

theorem Dev.judgeHop_sound {d : Dev} (hk : Dev.Sound fz d) :
    Dev.Sound fz (Dev.judgeHop d) := by
  unfold Dev.judgeHop
  repeat' first
    | with_reducible assumption
    | ((fail_if_no_progress extract_lets +onlyGivenNames x); first | (refine sound_cut fz x ?_ (fun _ => ?_); unfold x) | skip)
    | with_reducible apply Dev.setTrk_sound
    | with_reducible apply Dev.hopTo_sound
    | split

theorem Dev.trackFrame_sound {d : Dev} {f : FrameInfo} {handed : List Nat} (hk : Dev.Sound fz d) :
    Dev.Sound fz (Dev.trackFrame d f handed).2.2 := by
  unfold Dev.trackFrame
  repeat' first
    | with_reducible assumption
    | ((fail_if_no_progress extract_lets +onlyGivenNames x); first | (refine sound_cut fz x ?_ (fun _ => ?_); unfold x) | skip)
    | (split <;> first | (rename_i heq; simp only [Prod.ext_iff] at heq; refine sound_eq fz heq.2 ?_ (fun _ => ?_)) | skip)
    | with_reducible apply Dev.judgeHop_sound
    | with_reducible apply Dev.judgeNoisy_sound
    | with_reducible apply Dev.setFlag_sound
    | with_reducible apply Dev.trackFlags_sound
    | with_reducible apply Dev.trackHeld_sound
    | with_reducible apply Dev.trackLive_sound
    | with_reducible apply Dev.updateNoise_sound
    | with_reducible apply Dev.renewChannels_sound
    | with_reducible exact sound_mk (Dev.Sound.parts (by assumption))
    | split

theorem execSelfScanEnd_sound {listen : List (Word × Word)} {selfs : List Word} {chipsI : List Word} {chipsQ : List
    Word} {trips : List (BitVec 8 × BitVec 8)} {s : State} {t : State}
    (hk : s.dev.Sound fz) (h : execSelfScanEnd listen selfs chipsI chipsQ trips s = .next t) : t.dev.Sound fz := by
  unfold execSelfScanEnd at h
  refine State.run_sound hk h (fun d hk => ?_)
  repeat' first
    | with_reducible assumption
    | with_reducible apply Dev.selfScanEnd_sound

theorem execTrkRpt_sound {s : State} {t : State}
    (hk : s.dev.Sound fz) (h : execTrkRpt s = .next t) : t.dev.Sound fz := by
  unfold execTrkRpt at h
  refine State.run_sound hk h (fun d hk => ?_)
  repeat' first
    | with_reducible assumption
    | (fail_if_no_progress intros)
    | with_reducible apply Dev.finishOk_sound
    | with_reducible apply Dev.print_sound
    | with_reducible apply Dev.command_sound
    | with_reducible apply State.run_sound
    | with_reducible exact sound_mk (Dev.Sound.parts (by assumption))

theorem Dev.setRpt_sound {d : Dev} {r : Reports} (hk : Dev.Sound fz d) :
    Dev.Sound fz (Dev.setRpt d r) := by
  unfold Dev.setRpt
  repeat' first
    | with_reducible assumption
    | with_reducible exact sound_mk (Dev.Sound.parts (by assumption))

theorem Dev.capEnd_sound {d : Dev} {result : Nat} {frame : Nat} {raise : Bool} (hk : Dev.Sound fz d) :
    Dev.Sound fz (Dev.capEnd d result frame raise) := by
  unfold Dev.capEnd
  repeat' first
    | with_reducible assumption
    | ((fail_if_no_progress extract_lets +onlyGivenNames x); first | (refine sound_cut fz x ?_ (fun _ => ?_); unfold x) | skip)
    | with_reducible apply Dev.setFld_sound
    | with_reducible apply Dev.setFlag_sound
    | with_reducible apply Dev.setRpt_sound
    | with_reducible apply Dev.ring_sound
    | split

theorem Dev.capStop_sound {d : Dev} (hk : Dev.Sound fz d) :
    Dev.Sound fz (Dev.capStop d) := by
  unfold Dev.capStop
  repeat' first
    | with_reducible assumption
    | with_reducible apply Dev.capEnd_sound
    | with_reducible apply Dev.setRpt_sound
    | with_reducible exact sound_mk (Dev.Sound.parts (by assumption))
    | split

theorem Dev.capArm_sound {d : Dev} (hk : Dev.Sound fz d) :
    Dev.Sound fz (Dev.capArm d) := by
  unfold Dev.capArm
  repeat' first
    | with_reducible assumption
    | ((fail_if_no_progress extract_lets +onlyGivenNames x); first | (refine sound_cut fz x ?_ (fun _ => ?_); unfold x) | skip)
    | with_reducible apply Dev.capEnd_sound
    | with_reducible apply Dev.setFlag_sound
    | with_reducible apply Dev.setFld_sound
    | with_reducible apply Dev.setRpt_sound
    | with_reducible exact sound_mk (Dev.Sound.parts (by assumption))
    | split

theorem Dev.writeCapCtrl_sound {d : Dev} {v : Word} (hk : Dev.Sound fz d) :
    Dev.Sound fz (Dev.writeCapCtrl d v) := by
  unfold Dev.writeCapCtrl
  repeat' first
    | with_reducible assumption
    | ((fail_if_no_progress extract_lets +onlyGivenNames x); first | (refine sound_cut fz x ?_ (fun _ => ?_); unfold x) | skip)
    | with_reducible apply Dev.capArm_sound
    | with_reducible apply Dev.capStop_sound
    | with_reducible apply Dev.ignoreWrite_sound
    | with_reducible apply Dev.storeReg_sound
    | with_reducible exact sound_mk (Dev.Sound.parts (by assumption))
    | split

theorem execStop_sound {value : Word} {s : State} {t : State}
    (hk : s.dev.Sound fz) (h : execStop value s = .next t) : t.dev.Sound fz := by
  unfold execStop at h
  refine State.run_sound hk h (fun d hk => ?_)
  repeat' first
    | with_reducible assumption
    | with_reducible apply Dev.capStop_sound
    | with_reducible apply Dev.writeCapCtrl_sound
    | with_reducible apply State.run_sound
    | with_reducible exact sound_mk (Dev.Sound.parts (by assumption))

theorem Dev.raiseGesture_sound {d : Dev} {g : Word × Word} (hk : Dev.Sound fz d) :
    Dev.Sound fz (Dev.raiseGesture d g) := by
  unfold Dev.raiseGesture
  repeat' first
    | with_reducible assumption
    | with_reducible apply Dev.ring_sound

theorem Dev.tapHoldExpiry_sound {d : Dev} (hk : Dev.Sound fz d) :
    Dev.Sound fz (Dev.tapHoldExpiry d) := by
  unfold Dev.tapHoldExpiry
  repeat' first
    | with_reducible assumption
    | ((fail_if_no_progress extract_lets +onlyGivenNames x); first | (refine sound_cut fz x ?_ (fun _ => ?_); unfold x) | skip)
    | with_reducible apply Dev.setRpt_sound
    | with_reducible apply Dev.raiseGesture_sound
    | with_reducible exact sound_mk (Dev.Sound.parts (by assumption))
    | split

theorem execTapHoldExpiry_sound {s : State} {t : State}
    (hk : s.dev.Sound fz) (h : execTapHoldExpiry s = .next t) : t.dev.Sound fz := by
  unfold execTapHoldExpiry at h
  refine State.run_sound hk h (fun d hk => ?_)
  repeat' first
    | with_reducible assumption
    | with_reducible apply Dev.tapHoldExpiry_sound

theorem Dev.trackBoundary_sound {d : Dev} {resets : List (Nat × Bool)} {slot : Nat} {n : Nat} (hk : Dev.Sound fz d) :
    Dev.Sound fz (Dev.trackBoundary d resets slot n) := by
  unfold Dev.trackBoundary
  repeat' first
    | with_reducible assumption
    | ((fail_if_no_progress extract_lets +onlyGivenNames x); first | (refine sound_cut fz x ?_ (fun _ => ?_); unfold x) | skip)
    | (with_reducible apply sound_foldl; intros)
    | (with_reducible apply sound_foldl_snd; intros)
    | with_reducible apply Dev.baselineEvent_sound
    | with_reducible apply Dev.cancelLive_sound
    | with_reducible apply Dev.dropBaselines_sound
    | with_reducible exact sound_mk (Dev.Sound.parts (by assumption))
    | split

theorem Dev.inGroup_sound {d : Dev} {f : Dev → Dev} {n : Nat} (hk : Dev.Sound fz d) (hf : ∀ e, Dev.Sound fz e →
    Dev.Sound fz (f e)) :
    Dev.Sound fz (Dev.inGroup d n f) := by
  unfold Dev.inGroup
  repeat' first
    | with_reducible assumption
    | ((fail_if_no_progress extract_lets +onlyGivenNames x); first | (refine sound_cut fz x ?_ (fun _ => ?_); unfold x) | skip)
    | with_reducible apply hf
    | with_reducible exact sound_mk (Dev.Sound.parts (by assumption))

theorem Dev.trkBase_sound {d : Dev} {t : Nat} {r : Nat} (hk : Dev.Sound fz d) :
    Dev.Sound fz (Dev.trkBase d t r) := by
  unfold Dev.trkBase
  repeat' first
    | with_reducible assumption
    | ((fail_if_no_progress extract_lets +onlyGivenNames x); first | (refine sound_cut fz x ?_ (fun _ => ?_); unfold x) | skip)
    | with_reducible apply Dev.finishOk_sound
    | with_reducible apply Dev.print_sound
    | with_reducible apply Dev.finishErr_sound
    | split

theorem Dev.writeTrkCtrl_sound {d : Dev} {v : Word} (hk : Dev.Sound fz d) :
    Dev.Sound fz (Dev.writeTrkCtrl d v) := by
  unfold Dev.writeTrkCtrl
  repeat' first
    | with_reducible assumption
    | ((fail_if_no_progress extract_lets +onlyGivenNames x); first | (refine sound_cut fz x ?_ (fun _ => ?_); unfold x) | skip)
    | with_reducible apply Dev.storeReg_sound
    | with_reducible apply Dev.setTrk_sound
    | split

theorem execTrkBlreset_sound {s : State} {t : State}
    (hk : s.dev.Sound fz) (h : execTrkBlreset s = .next t) : t.dev.Sound fz := by
  unfold execTrkBlreset at h
  refine State.run_sound hk h (fun d hk => ?_)
  repeat' first
    | with_reducible assumption
    | (fail_if_no_progress intros)
    | with_reducible apply Dev.finishOk_sound
    | with_reducible apply Dev.writeTrkCtrl_sound
    | with_reducible apply Dev.finishErr_sound
    | with_reducible apply Dev.command_sound
    | with_reducible apply State.run_sound
    | with_reducible exact sound_mk (Dev.Sound.parts (by assumption))
    | split

theorem Dev.noteReported_sound {d : Dev} {r : Report} (hk : Dev.Sound fz d) :
    Dev.Sound fz (Dev.noteReported d r) := by
  unfold Dev.noteReported
  repeat' first
    | with_reducible assumption
    | ((fail_if_no_progress extract_lets +onlyGivenNames x); first | (refine sound_cut fz x ?_ (fun _ => ?_); unfold x) | skip)
    | with_reducible apply Dev.setTrk_sound
    | split

theorem Dev.compact_sound {d : Dev} {r : Report} (hk : Dev.Sound fz d) :
    Dev.Sound fz (Dev.compact d r) := by
  unfold Dev.compact
  repeat' first
    | with_reducible assumption
    | ((fail_if_no_progress extract_lets +onlyGivenNames x); first | (refine sound_cut fz x ?_ (fun _ => ?_); unfold x) | skip)
    | with_reducible apply Dev.ring_sound
    | split

theorem Dev.surfacePair_sound {d : Dev} {r : Report} (hk : Dev.Sound fz d) :
    Dev.Sound fz (Dev.surfacePair d r) := by
  unfold Dev.surfacePair
  repeat' first
    | with_reducible assumption
    | ((fail_if_no_progress extract_lets +onlyGivenNames x); first | (refine sound_cut fz x ?_ (fun _ => ?_); unfold x) | skip)
    | with_reducible apply Dev.ringPair_sound
    | split

theorem Dev.contactRecord_sound {d : Dev} {r : Report} (hk : Dev.Sound fz d) :
    Dev.Sound fz (Dev.contactRecord d r) := by
  unfold Dev.contactRecord
  repeat' first
    | with_reducible assumption
    | with_reducible apply Dev.compact_sound
    | with_reducible apply Dev.surfacePair_sound
    | split

theorem Dev.burstDone_sound {d : Dev} {valid : Bool} (hk : Dev.Sound fz d) :
    Dev.Sound fz (Dev.burstDone d valid) := by
  unfold Dev.burstDone
  repeat' first
    | with_reducible assumption
    | ((fail_if_no_progress extract_lets +onlyGivenNames x); first | (refine sound_cut fz x ?_ (fun _ => ?_); unfold x) | skip)
    | with_reducible apply Dev.setFlag_sound
    | with_reducible apply Dev.setRpt_sound
    | with_reducible exact sound_mk (Dev.Sound.parts (by assumption))

theorem Dev.resyncBurst_sound {d : Dev} {n : Nat} {valid : Bool} (hk : Dev.Sound fz d) :
    Dev.Sound fz (Dev.resyncBurst d n valid) := by
  unfold Dev.resyncBurst
  repeat' first
    | with_reducible assumption
    | ((fail_if_no_progress extract_lets +onlyGivenNames x); first | (refine sound_cut fz x ?_ (fun _ => ?_); unfold x) | skip)
    | (with_reducible apply sound_foldl; intros)
    | (with_reducible apply sound_foldl_snd; intros)
    | with_reducible apply Dev.bump_sound
    | with_reducible apply Dev.burstDone_sound
    | with_reducible apply Dev.contactRecord_sound
    | with_reducible apply Dev.noteReported_sound
    | with_reducible apply Dev.ring_sound
    | with_reducible exact sound_mk (Dev.Sound.parts (by assumption))

theorem Dev.frameEnd_sound {d : Dev} {n : Nat} {live : Nat} {flags : Word} {resync : Bool} (hk : Dev.Sound fz d) :
    Dev.Sound fz (Dev.frameEnd d n live flags resync) := by
  unfold Dev.frameEnd
  repeat' first
    | with_reducible assumption
    | ((fail_if_no_progress extract_lets +onlyGivenNames x); first | (refine sound_cut fz x ?_ (fun _ => ?_); unfold x) | skip)
    | with_reducible apply Dev.setFld_sound
    | with_reducible apply Dev.bump_sound
    | with_reducible apply Dev.ring_sound
    | with_reducible apply Dev.setRpt_sound
    | split

theorem Dev.standaloneReports_sound {d : Dev} {f : FrameInfo} {tracked : Bool} {valid : Bool} {reps : List Report} {gestures : List (Word × Word)} (hk : Dev.Sound fz d) :
    Dev.Sound fz (Dev.standaloneReports d f tracked valid reps gestures) := by
  unfold Dev.standaloneReports
  repeat' first
    | with_reducible assumption
    | ((fail_if_no_progress extract_lets +onlyGivenNames x); first | (refine sound_cut fz x ?_ (fun _ => ?_); unfold x) | skip)
    | (with_reducible apply sound_foldl; intros)
    | (fail_if_no_progress intros)
    | with_reducible apply Dev.inGroup_sound
    | with_reducible apply Dev.contactRecord_sound
    | with_reducible apply Dev.frameEnd_sound
    | with_reducible apply Dev.inGroup_sound
    | with_reducible apply Dev.noteReported_sound
    | with_reducible apply Dev.raiseGesture_sound
    | with_reducible apply Dev.resyncBurst_sound
    | with_reducible apply Dev.setTrk_sound
    | split

theorem execBlreset_sound {value : Word} {s : State} {t : State}
    (hk : s.dev.Sound fz) (h : execBlreset value s = .next t) : t.dev.Sound fz := by
  unfold execBlreset at h
  refine State.run_sound hk h (fun d hk => ?_)
  repeat' first
    | with_reducible assumption
    | with_reducible apply Dev.writeTrkCtrl_sound

theorem Dev.consoleCap_sound {d : Dev} {planes : Nat} (hk : Dev.Sound fz d) :
    Dev.Sound fz (Dev.consoleCap d planes) := by
  unfold Dev.consoleCap
  repeat' first
    | with_reducible assumption
    | with_reducible apply Dev.finishErr_sound
    | with_reducible apply Dev.finishOk_sound
    | with_reducible apply Dev.capArm_sound
    | with_reducible apply Dev.writeCapCtrl_sound
    | with_reducible exact sound_mk (Dev.Sound.parts (by assumption))
    | split

theorem Dev.tapGesture_sound {d : Dev} {c : Contact} {tick : Nat} (hk : Dev.Sound fz d) :
    Dev.Sound fz (Dev.tapGesture d c tick).2 := by
  unfold Dev.tapGesture
  repeat' first
    | with_reducible assumption
    | ((fail_if_no_progress extract_lets +onlyGivenNames x); first | (refine sound_cut fz x ?_ (fun _ => ?_); unfold x) | skip)
    | (split <;> first | (rename_i heq; simp only [Prod.ext_iff] at heq; refine sound_eq fz heq.2 ?_ (fun _ => ?_)) | skip)
    | with_reducible apply Dev.setRpt_sound

theorem execTrkBase_sound {tx : BitVec 8} {r : BitVec 8} {s : State} {t : State}
    (hk : s.dev.Sound fz) (h : execTrkBase tx r s = .next t) : t.dev.Sound fz := by
  unfold execTrkBase at h
  refine State.run_sound hk h (fun d hk => ?_)
  repeat' first
    | with_reducible assumption
    | (fail_if_no_progress intros)
    | with_reducible apply Dev.trkBase_sound
    | with_reducible apply Dev.command_sound
    | with_reducible apply State.run_sound
    | with_reducible exact sound_mk (Dev.Sound.parts (by assumption))

theorem Dev.writeRptCtrl_sound {d : Dev} {v : Word} (hk : Dev.Sound fz d) :
    Dev.Sound fz (Dev.writeRptCtrl d v) := by
  unfold Dev.writeRptCtrl
  repeat' first
    | with_reducible assumption
    | with_reducible apply Dev.setFlag_sound
    | with_reducible apply Dev.askBurst_sound
    | with_reducible exact sound_mk (Dev.Sound.parts (by assumption))
    | split

theorem execResync_sound {value : Word} {s : State} {t : State}
    (hk : s.dev.Sound fz) (h : execResync value s = .next t) : t.dev.Sound fz := by
  unfold execResync at h
  refine State.run_sound hk h (fun d hk => ?_)
  repeat' first
    | with_reducible assumption
    | with_reducible apply Dev.writeRptCtrl_sound

theorem Dev.liveGestures_sound {d : Dev} {tick : Nat} {downs : List Nat} (hk : Dev.Sound fz d) :
    Dev.Sound fz (Dev.liveGestures d tick downs).2 := by
  unfold Dev.liveGestures
  repeat' first
    | with_reducible assumption
    | ((fail_if_no_progress extract_lets +onlyGivenNames x); first | (refine sound_cut fz x ?_ (fun _ => ?_); unfold x) | clear_value x)
    | (with_reducible apply sound_foldl; intros)
    | (with_reducible apply sound_foldl_snd; intros)
    | (split <;> first | (rename_i heq; simp only [Prod.ext_iff] at heq; refine sound_eq fz heq.2 ?_ (fun _ => ?_)) | skip)
    | with_reducible apply Dev.setTrk_sound

theorem execTrkCap_sound {planes : BitVec 5} {s : State} {t : State}
    (hk : s.dev.Sound fz) (h : execTrkCap planes s = .next t) : t.dev.Sound fz := by
  unfold execTrkCap at h
  refine State.run_sound hk h (fun d hk => ?_)
  repeat' first
    | with_reducible assumption
    | (fail_if_no_progress intros)
    | with_reducible apply Dev.consoleCap_sound
    | with_reducible apply Dev.command_sound
    | with_reducible apply State.run_sound
    | with_reducible exact sound_mk (Dev.Sound.parts (by assumption))

theorem execTrkHop_sound {s : State} {t : State}
    (hk : s.dev.Sound fz) (h : execTrkHop s = .next t) : t.dev.Sound fz := by
  unfold execTrkHop at h
  refine State.run_sound hk h (fun d hk => ?_)
  repeat' first
    | with_reducible assumption
    | (fail_if_no_progress intros)
    | with_reducible apply Dev.finishOk_sound
    | with_reducible apply Dev.print_sound
    | with_reducible apply Dev.command_sound
    | with_reducible apply State.run_sound
    | with_reducible exact sound_mk (Dev.Sound.parts (by assumption))

theorem Dev.frameGestures_sound {d : Dev} {tick : Nat} {before : List Contact} {reps : List Report} (hk : Dev.Sound
    fz d) :
    Dev.Sound fz (Dev.frameGestures d tick before reps).2 := by
  unfold Dev.frameGestures
  repeat' first
    | with_reducible assumption
    | ((fail_if_no_progress extract_lets +onlyGivenNames x); first | (refine sound_cut fz x ?_ (fun _ => ?_); unfold x) | skip)
    | (with_reducible apply sound_foldl; intros)
    | (with_reducible apply sound_foldl_snd; intros)
    | (split <;> first | (rename_i heq; simp only [Prod.ext_iff] at heq; refine sound_eq fz heq.2 ?_ (fun _ => ?_)) | skip)
    | with_reducible apply Dev.tapGesture_sound
    | with_reducible apply Dev.liveGestures_sound

theorem execArm_sound {value : Word} {s : State} {t : State}
    (hk : s.dev.Sound fz) (h : execArm value s = .next t) : t.dev.Sound fz := by
  unfold execArm at h
  refine State.run_sound hk h (fun d hk => ?_)
  repeat' first
    | with_reducible assumption
    | with_reducible apply Dev.capArm_sound
    | with_reducible apply Dev.writeCapCtrl_sound
    | with_reducible apply State.run_sound
    | with_reducible exact sound_mk (Dev.Sound.parts (by assumption))

theorem Dev.setUsb_sound {d : Dev} {u : Usb} (hk : Dev.Sound fz d) :
    Dev.Sound fz (Dev.setUsb d u) := by
  unfold Dev.setUsb
  repeat' first
    | with_reducible assumption
    | with_reducible exact sound_mk (Dev.Sound.parts (by assumption))

theorem Dev.hidPut_sound {d : Dev} {rs : List (List Byte)} {gone : List HidContact} (hk : Dev.Sound fz d) :
    Dev.Sound fz (Dev.hidPut d rs gone) := by
  unfold Dev.hidPut
  repeat' first
    | with_reducible assumption
    | ((fail_if_no_progress extract_lets +onlyGivenNames x); first | (refine sound_cut fz x ?_ (fun _ => ?_); unfold x) | skip)
    | with_reducible apply Dev.setUsb_sound
    | split

theorem Dev.hidFrame_sound {d : Dev} {sec : Nat} {frac : Nat} {flags : Word} {cancels : List HidContact} {lifts :
    List HidContact} {live : List HidContact} (hk : Dev.Sound fz d) :
    Dev.Sound fz (Dev.hidFrame d sec frac flags cancels lifts live) := by
  unfold Dev.hidFrame
  repeat' first
    | with_reducible assumption
    | ((fail_if_no_progress extract_lets +onlyGivenNames x); first | (refine sound_cut fz x ?_ (fun _ => ?_); unfold x) | skip)
    | with_reducible apply Dev.setUsb_sound
    | with_reducible apply Dev.bump_sound
    | with_reducible apply Dev.hidPut_sound
    | split

theorem Dev.hidOwe_sound {d : Dev} {cs : List HidContact} (hk : Dev.Sound fz d) :
    Dev.Sound fz (Dev.hidOwe d cs) := by
  unfold Dev.hidOwe
  repeat' first
    | with_reducible assumption
    | ((fail_if_no_progress extract_lets +onlyGivenNames x); first | (refine sound_cut fz x ?_ (fun _ => ?_); unfold x) | skip)
    | with_reducible apply Dev.setUsb_sound

theorem Dev.setModes_sound {d : Dev} {m : Modes} (hk : Dev.Sound fz d) :
    Dev.Sound fz (Dev.setModes d m) := by
  unfold Dev.setModes
  repeat' first
    | with_reducible assumption
    | with_reducible exact sound_mk (Dev.Sound.parts (by assumption))

theorem Dev.holdOp_sound {d : Dev} {op : Nat} (hk : Dev.Sound fz d) :
    Dev.Sound fz (Dev.holdOp d op) := by
  unfold Dev.holdOp
  repeat' first
    | with_reducible assumption
    | with_reducible apply Dev.setFlag_sound
    | split

theorem Dev.markPending_sound {d : Dev} {target : Option Nat} (hk : Dev.Sound fz d) :
    Dev.Sound fz (Dev.markPending d target) := by
  unfold Dev.markPending
  repeat' first
    | with_reducible assumption
    | ((fail_if_no_progress extract_lets +onlyGivenNames x); first | (refine sound_cut fz x ?_ (fun _ => ?_); unfold x) | skip)
    | with_reducible apply Dev.setFlag_sound
    | with_reducible apply Dev.setFld_sound
    | split

theorem Dev.sendMode_sound {d : Dev} {mode : Nat} {apply : Nat} (hk : Dev.Sound fz d) :
    Dev.Sound fz (Dev.sendMode d mode apply) := by
  unfold Dev.sendMode
  repeat' first
    | with_reducible assumption
    | ((fail_if_no_progress extract_lets +onlyGivenNames x); first | (refine sound_cut fz x ?_ (fun _ => ?_); unfold x) | skip)
    | (with_reducible apply sound_foldl; intros)
    | with_reducible apply Dev.send_sound
    | with_reducible apply Dev.setModes_sound

theorem Dev.placeMode_sound {d : Dev} {mode : Nat} {reason : Nat} {apply : Option Nat} (hk : Dev.Sound fz d) :
    Dev.Sound fz (Dev.placeMode d mode reason apply) := by
  unfold Dev.placeMode
  repeat' first
    | with_reducible assumption
    | ((fail_if_no_progress extract_lets +onlyGivenNames x); first | (refine sound_cut fz x ?_ (fun _ => ?_); unfold x) | skip)
    | with_reducible apply Dev.setModes_sound
    | with_reducible exact sound_mk (Dev.Sound.parts (by assumption))
    | split

theorem Dev.askMode_sound {d : Dev} {mode : Nat} {reason : Nat} (hk : Dev.Sound fz d) :
    Dev.Sound fz (Dev.askMode d mode reason) := by
  unfold Dev.askMode
  repeat' first
    | with_reducible assumption
    | ((fail_if_no_progress extract_lets +onlyGivenNames x); first | (refine sound_cut fz x ?_ (fun _ => ?_); unfold x) | skip)
    | with_reducible apply Dev.markPending_sound
    | with_reducible apply Dev.placeMode_sound
    | with_reducible apply Dev.sendMode_sound
    | with_reducible exact sound_mk (Dev.Sound.parts (by assumption))
    | split

theorem Dev.issueMode_sound {d : Dev} {mode : Nat} {reason : Nat} (hk : Dev.Sound fz d) :
    Dev.Sound fz (Dev.issueMode d mode reason) := by
  unfold Dev.issueMode
  repeat' first
    | with_reducible assumption
    | ((fail_if_no_progress extract_lets +onlyGivenNames x); first | (refine sound_cut fz x ?_ (fun _ => ?_); unfold x) | skip)
    | with_reducible apply Dev.markPending_sound
    | with_reducible apply Dev.setModes_sound
    | with_reducible apply Dev.sendMode_sound
    | with_reducible apply Dev.askMode_sound
    | with_reducible exact sound_mk (Dev.Sound.parts (by assumption))
    | split

theorem Dev.holdMode_sound {d : Dev} {mode : Nat} {reason : Nat} (hk : Dev.Sound fz d) :
    Dev.Sound fz (Dev.holdMode d mode reason) := by
  unfold Dev.holdMode
  repeat' first
    | with_reducible assumption
    | with_reducible apply Dev.setModes_sound
    | with_reducible exact sound_mk (Dev.Sound.parts (by assumption))
    | split

theorem Dev.requestMode_sound {d : Dev} {mode : Nat} {reason : Nat} (hk : Dev.Sound fz d) :
    Dev.Sound fz (Dev.requestMode d mode reason) := by
  unfold Dev.requestMode
  repeat' first
    | with_reducible assumption
    | ((fail_if_no_progress extract_lets +onlyGivenNames x); first | (refine sound_cut fz x ?_ (fun _ => ?_); unfold x) | skip)
    | with_reducible apply Dev.ring_sound
    | with_reducible apply Dev.setModes_sound
    | with_reducible apply Dev.issueMode_sound
    | with_reducible apply Dev.holdMode_sound
    | with_reducible exact sound_mk (Dev.Sound.parts (by assumption))
    | split

theorem Dev.writePwrCmd_sound {d : Dev} {v : Word} (hk : Dev.Sound fz d) :
    Dev.Sound fz (Dev.writePwrCmd d v) := by
  unfold Dev.writePwrCmd
  repeat' first
    | with_reducible assumption
    | ((fail_if_no_progress extract_lets +onlyGivenNames x); first | (refine sound_cut fz x ?_ (fun _ => ?_); unfold x) | skip)
    | with_reducible apply Dev.ignoreWrite_sound
    | with_reducible apply Dev.holdOp_sound
    | with_reducible apply Dev.requestMode_sound
    | split

theorem execHoldSet_sound {s : State} {t : State}
    (hk : s.dev.Sound fz) (h : execHoldSet s = .next t) : t.dev.Sound fz := by
  unfold execHoldSet at h
  refine State.run_sound hk h (fun d hk => ?_)
  repeat' first
    | with_reducible assumption
    | with_reducible apply Dev.writePwrCmd_sound

theorem execModeRequest_sound {mode : BitVec 3} {s : State} {t : State}
    (hk : s.dev.Sound fz) (h : execModeRequest mode s = .next t) : t.dev.Sound fz := by
  unfold execModeRequest at h
  refine State.run_sound hk h (fun d hk => ?_)
  repeat' first
    | with_reducible assumption
    | with_reducible apply Dev.writePwrCmd_sound

theorem execHoldClear_sound {s : State} {t : State}
    (hk : s.dev.Sound fz) (h : execHoldClear s = .next t) : t.dev.Sound fz := by
  unfold execHoldClear at h
  refine State.run_sound hk h (fun d hk => ?_)
  repeat' first
    | with_reducible assumption
    | with_reducible apply Dev.writePwrCmd_sound

theorem Dev.releaseHeldMode_sound {d : Dev} (hk : Dev.Sound fz d) :
    Dev.Sound fz (Dev.releaseHeldMode d) := by
  unfold Dev.releaseHeldMode
  repeat' first
    | with_reducible assumption
    | ((fail_if_no_progress extract_lets +onlyGivenNames x); first | (refine sound_cut fz x ?_ (fun _ => ?_); unfold x) | skip)
    | with_reducible apply Dev.requestMode_sound
    | with_reducible apply Dev.setModes_sound
    | with_reducible apply Dev.askMode_sound
    | with_reducible apply Dev.holdMode_sound
    | with_reducible exact sound_mk (Dev.Sound.parts (by assumption))
    | split

end Sys2Proof.Machine
end

