-- ==== Sys2Proof/Laws/SoundAnalog.lean ====
section
/-!
SUPPORT. SoundAnalog.lean: that each operation and command of infrared, housekeeping and calibration keeps `Dev.Sound`.
-/

set_option maxRecDepth 4000
set_option linter.unusedTactic false
set_option linter.unreachableTactic false
set_option linter.unusedVariables false

namespace Sys2Proof.Machine

variable {fz : Fuses}

theorem Dev.irKey_sound {d : Dev} {kind : Nat} {k : HeldKey} {code : Nat} (hk : Dev.Sound fz d) :
    Dev.Sound fz (Dev.irKey d kind k code) := by
  unfold Dev.irKey
  repeat' first
    | with_reducible assumption
    | ((fail_if_no_progress extract_lets +onlyGivenNames x); first | (refine sound_cut fz x ?_ (fun _ => ?_); unfold x) | skip)
    | with_reducible apply Dev.setFld_sound
    | with_reducible apply Dev.ring_sound

theorem Dev.setIr_sound {d : Dev} {i : Infrared} (hk : Dev.Sound fz d) :
    Dev.Sound fz (Dev.setIr d i) := by
  unfold Dev.setIr
  repeat' first
    | with_reducible assumption
    | with_reducible exact sound_mk (Dev.Sound.parts (by assumption))

theorem Dev.irRelease_sound {d : Dev} (hk : Dev.Sound fz d) :
    Dev.Sound fz (Dev.irRelease d) := by
  unfold Dev.irRelease
  repeat' first
    | with_reducible assumption
    | ((fail_if_no_progress extract_lets +onlyGivenNames x); first | (refine sound_cut fz x ?_ (fun _ => ?_); unfold x) | skip)
    | with_reducible apply Dev.irKey_sound
    | with_reducible apply Dev.setIr_sound
    | split

theorem execIrKeyRelease_sound {s : State} {t : State}
    (hk : s.dev.Sound fz) (h : execIrKeyRelease s = .next t) : t.dev.Sound fz := by
  unfold execIrKeyRelease at h
  refine State.run_sound hk h (fun d hk => ?_)
  repeat' first
    | with_reducible assumption
    | with_reducible apply Dev.irRelease_sound

theorem Dev.accessPdata_sound {d : Dev} {write : Bool} {v : Word} (hk : Dev.Sound fz d) :
    Dev.Sound fz (Dev.accessPdata d write v).2 := by
  unfold Dev.accessPdata
  repeat' first
    | with_reducible assumption
    | ((fail_if_no_progress extract_lets +onlyGivenNames x); first | (refine sound_cut fz x ?_ (fun _ => ?_); unfold x) | skip)
    | (split <;> first | (rename_i heq; simp only [Prod.ext_iff] at heq; refine sound_eq fz heq.2 ?_ (fun _ => ?_)) | skip)
    | with_reducible apply Dev.bump_sound
    | with_reducible apply Dev.setIr_sound
    | with_reducible apply Dev.setFld_sound

theorem Dev.irRaw_sound {d : Dev} {ds : List (Nat × Bool)} (hk : Dev.Sound fz d) :
    Dev.Sound fz (Dev.irRaw d ds) := by
  unfold Dev.irRaw
  repeat' first
    | with_reducible assumption
    | ((fail_if_no_progress extract_lets +onlyGivenNames x); first | (refine sound_cut fz x ?_ (fun _ => ?_); unfold x) | skip)
    | (with_reducible apply sound_foldl; intros)
    | with_reducible apply Dev.bump_sound
    | with_reducible apply Dev.setReg_sound
    | split

theorem Dev.irFrameEnd_sound {d : Dev} {ds : List (Nat × Bool)} (hk : Dev.Sound fz d) :
    Dev.Sound fz (Dev.irFrameEnd d ds) := by
  unfold Dev.irFrameEnd
  repeat' first
    | with_reducible assumption
    | ((fail_if_no_progress extract_lets +onlyGivenNames x); first | (refine sound_cut fz x ?_ (fun _ => ?_); unfold x) | skip)
    | with_reducible apply Dev.irRaw_sound
    | with_reducible apply Dev.setIr_sound

theorem Dev.irLoopReport_sound {d : Dev} {words : List Word} (hk : Dev.Sound fz d) :
    Dev.Sound fz (Dev.irLoopReport d words) := by
  unfold Dev.irLoopReport
  repeat' first
    | with_reducible assumption
    | ((fail_if_no_progress extract_lets +onlyGivenNames x); first | (refine sound_cut fz x ?_ (fun _ => ?_); unfold x) | skip)
    | with_reducible apply Dev.finishOk_sound
    | with_reducible apply Dev.print_sound
    | with_reducible apply Dev.setIr_sound
    | with_reducible apply Dev.statusLine_sound
    | with_reducible exact sound_mk (Dev.Sound.parts (by assumption))
    | split

theorem Dev.irGap_sound {d : Dev} (hk : Dev.Sound fz d) :
    Dev.Sound fz (Dev.irGap d) := by
  unfold Dev.irGap
  repeat' first
    | with_reducible assumption
    | ((fail_if_no_progress extract_lets +onlyGivenNames x); first | (refine sound_cut fz x ?_ (fun _ => ?_); unfold x) | skip)
    | with_reducible apply Dev.ring_sound
    | with_reducible apply Dev.setFlag_sound
    | with_reducible apply Dev.setIr_sound
    | with_reducible apply Dev.irFrameEnd_sound
    | with_reducible apply Dev.bump_sound
    | with_reducible apply Dev.irLoopReport_sound
    | split

theorem Dev.irGlitch_sound {d : Dev} (hk : Dev.Sound fz d) :
    Dev.Sound fz (Dev.irGlitch d) := by
  unfold Dev.irGlitch
  repeat' first
    | with_reducible assumption
    | ((fail_if_no_progress extract_lets +onlyGivenNames x); first | (refine sound_cut fz x ?_ (fun _ => ?_); unfold x) | skip)
    | with_reducible apply Dev.bump_sound
    | with_reducible apply Dev.ring_sound
    | with_reducible apply Dev.setIr_sound
    | split

theorem Dev.irMark_sound {d : Dev} {us : Nat} {recorded : Bool} (hk : Dev.Sound fz d) :
    Dev.Sound fz (Dev.irMark d us recorded) := by
  unfold Dev.irMark
  repeat' first
    | with_reducible assumption
    | ((fail_if_no_progress extract_lets +onlyGivenNames x); first | (refine sound_cut fz x ?_ (fun _ => ?_); unfold x) | skip)
    | with_reducible apply Dev.setIr_sound
    | split

theorem Dev.irRepeat_sound {d : Dev} {k : HeldKey} (hk : Dev.Sound fz d) :
    Dev.Sound fz (Dev.irRepeat d k) := by
  unfold Dev.irRepeat
  repeat' first
    | with_reducible assumption
    | ((fail_if_no_progress extract_lets +onlyGivenNames x); first | (refine sound_cut fz x ?_ (fun _ => ?_); unfold x) | skip)
    | with_reducible apply Dev.irKey_sound
    | with_reducible apply Dev.setIr_sound

theorem Dev.irPress_sound {d : Dev} {tpl : Nat} {code : Nat} {toggle : Nat} (hk : Dev.Sound fz d) :
    Dev.Sound fz (Dev.irPress d tpl code toggle) := by
  unfold Dev.irPress
  repeat' first
    | with_reducible assumption
    | ((fail_if_no_progress extract_lets +onlyGivenNames x); first | (refine sound_cut fz x ?_ (fun _ => ?_); unfold x) | skip)
    | with_reducible apply Dev.irRelease_sound
    | with_reducible apply Dev.irKey_sound
    | with_reducible apply Dev.setIr_sound
    | with_reducible apply Dev.requestMode_sound
    | split

theorem Dev.irComplete_sound {d : Dev} {i : Nat} {c : Option Nat} {t : IrTpl} (hk : Dev.Sound fz d) :
    Dev.Sound fz (Dev.irComplete d i c t) := by
  unfold Dev.irComplete
  repeat' first
    | with_reducible assumption
    | ((fail_if_no_progress extract_lets +onlyGivenNames x); first | (refine sound_cut fz x ?_ (fun _ => ?_); unfold x) | skip)
    | with_reducible apply Dev.setFld_sound
    | with_reducible apply Dev.bump_sound
    | with_reducible apply Dev.irRepeat_sound
    | with_reducible apply Dev.irPress_sound
    | split

theorem Dev.irJudge_sound {d : Dev} {ds : List (Nat × Bool)} {space : Bool} (hk : Dev.Sound fz d) :
    Dev.Sound fz (Dev.irJudge d ds space) := by
  unfold Dev.irJudge
  repeat' first
    | with_reducible assumption
    | ((fail_if_no_progress extract_lets +onlyGivenNames x); first | (refine sound_cut fz x ?_ (fun _ => ?_); unfold x) | skip)
    | with_reducible apply Dev.irComplete_sound
    | with_reducible apply Dev.irFrameEnd_sound
    | with_reducible apply Dev.irLoopReport_sound
    | split

theorem Dev.irSpace_sound {d : Dev} {us : Nat} {recorded : Bool} (hk : Dev.Sound fz d) :
    Dev.Sound fz (Dev.irSpace d us recorded) := by
  unfold Dev.irSpace
  repeat' first
    | with_reducible assumption
    | ((fail_if_no_progress extract_lets +onlyGivenNames x); first | (refine sound_cut fz x ?_ (fun _ => ?_); unfold x) | skip)
    | with_reducible apply Dev.irJudge_sound
    | with_reducible apply Dev.setIr_sound
    | split

theorem Dev.irTimer_sound {d : Dev} (hk : Dev.Sound fz d) :
    Dev.Sound fz (Dev.irTimer d) := by
  unfold Dev.irTimer
  repeat' first
    | with_reducible assumption
    | ((fail_if_no_progress extract_lets +onlyGivenNames x); first | (refine sound_cut fz x ?_ (fun _ => ?_); unfold x) | skip)
    | with_reducible apply Dev.setIr_sound
    | with_reducible apply Dev.foscStart_sound
    | with_reducible exact sound_mk (Dev.Sound.parts (by assumption))
    | split

theorem Dev.irEdge_sound {d : Dev} {mark : Bool} {us : Nat} {recorded : Bool} {held : Bool} (hk : Dev.Sound fz d) :
    Dev.Sound fz (Dev.irEdge d mark us recorded held) := by
  unfold Dev.irEdge
  repeat' first
    | with_reducible assumption
    | ((fail_if_no_progress extract_lets +onlyGivenNames x); first | (refine sound_cut fz x ?_ (fun _ => ?_); unfold x) | skip)
    | with_reducible apply Dev.irGlitch_sound
    | with_reducible apply Dev.irMark_sound
    | with_reducible apply Dev.irSpace_sound
    | with_reducible apply Dev.irTimer_sound
    | with_reducible apply Dev.take_sound
    | with_reducible exact sound_mk (Dev.Sound.parts (by assumption))
    | split

theorem execIrEdge_sound {mark : Bool} {us : BitVec 24} {recorded : Bool} {held : Bool} {s : State} {t : State}
    (hk : s.dev.Sound fz) (h : execIrEdge mark us recorded held s = .next t) : t.dev.Sound fz := by
  unfold execIrEdge at h
  refine State.run_sound hk h (fun d hk => ?_)
  repeat' first
    | with_reducible assumption
    | with_reducible apply Dev.irEdge_sound

theorem Dev.irStuck_sound {d : Dev} {ms : Nat} (hk : Dev.Sound fz d) :
    Dev.Sound fz (Dev.irStuck d ms) := by
  unfold Dev.irStuck
  repeat' first
    | with_reducible assumption
    | ((fail_if_no_progress extract_lets +onlyGivenNames x); first | (refine sound_cut fz x ?_ (fun _ => ?_); unfold x) | skip)
    | with_reducible apply Dev.irFrameEnd_sound
    | with_reducible apply Dev.ring_sound
    | with_reducible apply Dev.setFlag_sound
    | with_reducible apply Dev.irRelease_sound
    | split

theorem execIrxRaw_sound {s : State} {t : State}
    (hk : s.dev.Sound fz) (h : execIrxRaw s = .next t) : t.dev.Sound fz := by
  unfold execIrxRaw at h
  refine State.run_sound hk h (fun d hk => ?_)
  repeat' first
    | with_reducible assumption
    | (fail_if_no_progress intros)
    | with_reducible apply Dev.finishOk_sound
    | with_reducible apply Dev.print_sound
    | with_reducible apply Dev.command_sound
    | with_reducible apply State.run_sound
    | with_reducible exact sound_mk (Dev.Sound.parts (by assumption))

theorem Dev.rxRestart_sound {d : Dev} (hk : Dev.Sound fz d) :
    Dev.Sound fz (Dev.rxRestart d) := by
  unfold Dev.rxRestart
  repeat' first
    | with_reducible assumption
    | with_reducible apply Dev.setIr_sound
    | with_reducible exact sound_mk (Dev.Sound.parts (by assumption))

theorem Dev.txFinish_sound {d : Dev} {status : Nat} {last : Nat} (hk : Dev.Sound fz d) :
    Dev.Sound fz (Dev.txFinish d status last) := by
  unfold Dev.txFinish
  repeat' first
    | with_reducible assumption
    | ((fail_if_no_progress extract_lets +onlyGivenNames x); first | (refine sound_cut fz x ?_ (fun _ => ?_); unfold x) | skip)
    | with_reducible apply Dev.setIr_sound
    | with_reducible apply Dev.ring_sound
    | with_reducible apply Dev.bump_sound
    | with_reducible apply Dev.setFlag_sound
    | with_reducible apply Dev.finishOk_sound
    | with_reducible apply Dev.statusLine_sound
    | with_reducible apply Dev.irLoopReport_sound
    | with_reducible exact sound_mk (Dev.Sound.parts (by assumption))
    | split

theorem Dev.txEntry_sound {d : Dev} (hk : Dev.Sound fz d) :
    Dev.Sound fz (Dev.txEntry d) := by
  unfold Dev.txEntry
  repeat' first
    | with_reducible assumption
    | ((fail_if_no_progress extract_lets +onlyGivenNames x); first | (refine sound_cut fz x ?_ (fun _ => ?_); unfold x) | skip)
    | with_reducible apply Dev.txFinish_sound
    | with_reducible apply Dev.setFld_sound
    | with_reducible apply Dev.setIr_sound
    | with_reducible exact sound_mk (Dev.Sound.parts (by assumption))
    | split

theorem Dev.txBegin_sound {d : Dev} {tag : Nat} {mode : Nat} {start : Nat} {reps : Nat} {console : Bool} {loop :
    Bool} (hk : Dev.Sound fz d) :
    Dev.Sound fz (Dev.txBegin d tag mode start reps console loop) := by
  unfold Dev.txBegin
  repeat' first
    | with_reducible assumption
    | ((fail_if_no_progress extract_lets +onlyGivenNames x); first | (refine sound_cut fz x ?_ (fun _ => ?_); unfold x) | skip)
    | with_reducible apply Dev.setIr_sound
    | with_reducible apply Dev.txEntry_sound
    | with_reducible apply Dev.setFld_sound
    | with_reducible apply Dev.setFlag_sound

theorem Dev.writeItxCmd_sound {d : Dev} {rq : Requester} {v : Word} (hk : Dev.Sound fz d) :
    Dev.Sound fz (Dev.writeItxCmd d rq v) := by
  unfold Dev.writeItxCmd
  repeat' first
    | with_reducible assumption
    | with_reducible apply Dev.txFinish_sound
    | with_reducible apply Dev.bump_sound
    | with_reducible apply Dev.txBegin_sound
    | split

theorem execItxStop_sound {rq : Requester} {value : Word} {s : State} {t : State}
    (hk : s.dev.Sound fz) (h : execItxStop rq value s = .next t) : t.dev.Sound fz := by
  unfold execItxStop at h
  refine State.run_sound hk h (fun d hk => ?_)
  repeat' first
    | with_reducible assumption
    | with_reducible apply Dev.writeItxCmd_sound

theorem Dev.irRecorded_sound {d : Dev} (hk : Dev.Sound fz d) :
    Dev.Sound fz (Dev.irRecorded d) := by
  unfold Dev.irRecorded
  repeat' first
    | with_reducible assumption
    | (with_reducible apply sound_foldl_snd; intros)
    | ((fail_if_no_progress extract_lets +onlyGivenNames x); first | (refine sound_cut fz x ?_ (fun _ => ?_); unfold x) | skip)
    | (with_reducible apply sound_foldl; intros)
    | with_reducible apply Dev.irEdge_sound
    | with_reducible apply Dev.setIr_sound
    | with_reducible exact sound_mk (Dev.Sound.parts (by assumption))
    | split

theorem Dev.writeIrxCtrl_sound {d : Dev} {v : Word} (hk : Dev.Sound fz d) :
    Dev.Sound fz (Dev.writeIrxCtrl d v) := by
  unfold Dev.writeIrxCtrl
  repeat' first
    | with_reducible assumption
    | ((fail_if_no_progress extract_lets +onlyGivenNames x); first | (refine sound_cut fz x ?_ (fun _ => ?_); unfold x) | skip)
    | with_reducible apply Dev.storeReg_sound
    | with_reducible apply Dev.irRelease_sound
    | split

theorem execIrStuck_sound {ms : BitVec 24} {s : State} {t : State}
    (hk : s.dev.Sound fz) (h : execIrStuck ms s = .next t) : t.dev.Sound fz := by
  unfold execIrStuck at h
  refine State.run_sound hk h (fun d hk => ?_)
  repeat' first
    | with_reducible assumption
    | with_reducible apply Dev.irStuck_sound

theorem Dev.consoleSend_sound {d : Dev} {i : Nat} {n : Nat} {loop : Bool} (hk : Dev.Sound fz d) :
    Dev.Sound fz (Dev.consoleSend d i n loop) := by
  unfold Dev.consoleSend
  repeat' first
    | with_reducible assumption
    | ((fail_if_no_progress extract_lets +onlyGivenNames x); first | (refine sound_cut fz x ?_ (fun _ => ?_); unfold x) | skip)
    | with_reducible apply Dev.finishErr_sound
    | with_reducible apply Dev.bump_sound
    | with_reducible apply Dev.setFlag_sound
    | with_reducible apply Dev.txBegin_sound
    | with_reducible apply Dev.finishOk_sound
    | split

theorem execItxSend_sound {i : BitVec 9} {n : BitVec 8} {s : State} {t : State}
    (hk : s.dev.Sound fz) (h : execItxSend i n s = .next t) : t.dev.Sound fz := by
  unfold execItxSend at h
  refine State.run_sound hk h (fun d hk => ?_)
  repeat' first
    | with_reducible assumption
    | (fail_if_no_progress intros)
    | with_reducible apply Dev.consoleSend_sound
    | with_reducible apply Dev.command_sound
    | with_reducible apply State.run_sound
    | with_reducible exact sound_mk (Dev.Sound.parts (by assumption))

theorem Dev.txStop_sound {d : Dev} (hk : Dev.Sound fz d) :
    Dev.Sound fz (Dev.txStop d) := by
  unfold Dev.txStop
  repeat' first
    | with_reducible assumption
    | with_reducible apply Dev.txFinish_sound
    | split

theorem execItxStart_sound {rq : Requester} {value : Word} {s : State} {t : State}
    (hk : s.dev.Sound fz) (h : execItxStart rq value s = .next t) : t.dev.Sound fz := by
  unfold execItxStart at h
  refine State.run_sound hk h (fun d hk => ?_)
  repeat' first
    | with_reducible assumption
    | with_reducible apply Dev.writeItxCmd_sound

theorem Dev.irLoad_sound {d : Dev} (hk : Dev.Sound fz d) :
    Dev.Sound fz (Dev.irLoad d) := by
  unfold Dev.irLoad
  repeat' first
    | with_reducible assumption
    | ((fail_if_no_progress extract_lets +onlyGivenNames x); first | (refine sound_cut fz x ?_ (fun _ => ?_); unfold x) | skip)
    | with_reducible apply Dev.setReg_sound
    | with_reducible apply Dev.setIr_sound

theorem execItxPdata_sound {_rq : Requester} {write : Bool} {value : Word} {s : State} {t : State}
    (hk : s.dev.Sound fz) (h : execItxPdata _rq write value s = .next t) : t.dev.Sound fz := by
  unfold execItxPdata at h
  refine State.run_sound hk h (fun d hk => ?_)
  repeat' first
    | with_reducible assumption
    | with_reducible apply Dev.accessPdata_sound

theorem execItxTmax_sound {s : State} {t : State}
    (hk : s.dev.Sound fz) (h : execItxTmax s = .next t) : t.dev.Sound fz := by
  unfold execItxTmax at h
  refine State.run_sound hk h (fun d hk => ?_)
  repeat' first
    | with_reducible assumption
    | with_reducible apply Dev.txFinish_sound
    | split

theorem Dev.rxStop_sound {d : Dev} (hk : Dev.Sound fz d) :
    Dev.Sound fz (Dev.rxStop d) := by
  unfold Dev.rxStop
  repeat' first
    | with_reducible assumption
    | ((fail_if_no_progress extract_lets +onlyGivenNames x); first | (refine sound_cut fz x ?_ (fun _ => ?_); unfold x) | skip)
    | with_reducible apply Dev.setIr_sound
    | with_reducible apply Dev.irRelease_sound

theorem Dev.txNext_sound {d : Dev} (hk : Dev.Sound fz d) :
    Dev.Sound fz (Dev.txNext d) := by
  unfold Dev.txNext
  repeat' first
    | with_reducible assumption
    | ((fail_if_no_progress extract_lets +onlyGivenNames x); first | (refine sound_cut fz x ?_ (fun _ => ?_); unfold x) | skip)
    | with_reducible apply Dev.txFinish_sound
    | with_reducible apply Dev.txEntry_sound
    | with_reducible apply Dev.setIr_sound
    | split

theorem execItxEntryEnd_sound {s : State} {t : State}
    (hk : s.dev.Sound fz) (h : execItxEntryEnd s = .next t) : t.dev.Sound fz := by
  unfold execItxEntryEnd at h
  refine State.run_sound hk h (fun d hk => ?_)
  repeat' first
    | with_reducible assumption
    | with_reducible apply Dev.txNext_sound

theorem execItxLoop_sound {i : BitVec 9} {s : State} {t : State}
    (hk : s.dev.Sound fz) (h : execItxLoop i s = .next t) : t.dev.Sound fz := by
  unfold execItxLoop at h
  refine State.run_sound hk h (fun d hk => ?_)
  repeat' first
    | with_reducible assumption
    | (fail_if_no_progress intros)
    | with_reducible apply Dev.consoleSend_sound
    | with_reducible apply Dev.command_sound
    | with_reducible apply State.run_sound
    | with_reducible apply Dev.longCommand_sound
    | with_reducible exact sound_mk (Dev.Sound.parts (by assumption))

theorem execIrBiphaseSpaceEnd_sound {s : State} {t : State}
    (hk : s.dev.Sound fz) (h : execIrBiphaseSpaceEnd s = .next t) : t.dev.Sound fz := by
  unfold execIrBiphaseSpaceEnd at h
  refine State.run_sound hk h (fun d hk => ?_)
  repeat' first
    | with_reducible assumption
    | with_reducible apply Dev.irJudge_sound
    | split

theorem execRelease_sound {value : Word} {s : State} {t : State}
    (hk : s.dev.Sound fz) (h : execRelease value s = .next t) : t.dev.Sound fz := by
  unfold execRelease at h
  refine State.run_sound hk h (fun d hk => ?_)
  repeat' first
    | with_reducible assumption
    | with_reducible apply Dev.writeIrxCtrl_sound

theorem execIrGap_sound {s : State} {t : State}
    (hk : s.dev.Sound fz) (h : execIrGap s = .next t) : t.dev.Sound fz := by
  unfold execIrGap at h
  refine State.run_sound hk h (fun d hk => ?_)
  repeat' first
    | with_reducible assumption
    | with_reducible apply Dev.irGap_sound

theorem Dev.setHka_sound {d : Dev} {k : Hka} (hk : Dev.Sound fz d) (h1 : k.chans.length = 16) (h2 : k.snaps.length = 4)
    (h3 : k.zero.length = 4) : Dev.Sound fz (Dev.setHka d k) :=
  sound_mk ⟨hk.1, hk.2.1, hk.2.2.1, hk.2.2.2.1, hk.2.2.2.2.1, hk.2.2.2.2.2.1, hk.2.2.2.2.2.2.1, hk.2.2.2.2.2.2.2.1, h1, h2, h3⟩

theorem Dev.watchTurn_sound {d : Dev} (hk : Dev.Sound fz d) : Dev.Sound fz (Dev.watchTurn d) :=
  Dev.setHka_sound hk (sound_chans fz hk) (sound_snaps fz hk) (sound_zero fz hk)

theorem Dev.setConv_sound {d : Dev} {b : Bool} {v : Option HkaConv} (hk : Dev.Sound fz d) :
    Dev.Sound fz (Dev.setConv d b v) := by
  unfold Dev.setConv
  repeat' first
    | with_reducible assumption
    | with_reducible apply sound_chans fz
    | with_reducible apply sound_snaps fz
    | with_reducible apply sound_zero fz
    | with_reducible refine (List.length_set ..).trans ?_
    | with_reducible refine (List.length_map ..).trans ?_
    | ((fail_if_no_progress extract_lets +onlyGivenNames x); first | (refine sound_cut fz x ?_ (fun _ => ?_); unfold x) | (refine hka_cut x ?_ ?_ ?_ (fun _ _ _ => ?_) <;> unfold x) | skip)
    | with_reducible apply Dev.setHka_sound
    | with_reducible apply Dev.setFlag_sound
    | with_reducible apply Dev.setFld_sound
    | split

theorem Dev.releaseWaits_sound {d : Dev} {refsel : Nat} (hk : Dev.Sound fz d) :
    Dev.Sound fz (Dev.releaseWaits d refsel) := by
  unfold Dev.releaseWaits
  repeat' first
    | with_reducible assumption
    | (with_reducible apply sound_foldl; intros)
    | with_reducible apply Dev.setConv_sound
    | split

theorem Dev.consoleCal_sound {d : Dev} {f : Dev → Dev} {n : Nat} (hk : Dev.Sound fz d) (hf : ∀ e, Dev.Sound fz e →
    Dev.Sound fz (f e)) :
    Dev.Sound fz (Dev.consoleCal d n f) := by
  unfold Dev.consoleCal
  repeat' first
    | with_reducible assumption
    | with_reducible apply Dev.finishErr_sound
    | with_reducible apply hf
    | split

theorem Dev.calAnswer_sound {d : Dev} (hk : Dev.Sound fz d) :
    Dev.Sound fz (Dev.calAnswer d) := by
  unfold Dev.calAnswer
  repeat' first
    | with_reducible assumption
    | with_reducible apply Dev.finishOk_sound
    | with_reducible apply Dev.print_sound
    | split

theorem Dev.syscalEnd_sound {d : Dev} {op : Nat} {status : Nat} {c : Nat} {gain : Nat} (hk : Dev.Sound fz d) :
    Dev.Sound fz (Dev.syscalEnd d op status c gain) := by
  unfold Dev.syscalEnd
  repeat' first
    | with_reducible assumption
    | with_reducible apply Dev.ring_sound
    | with_reducible apply Dev.setFld_sound

theorem Dev.syscalGain_sound {d : Dev} {z : Int} {f : Int} {span : Nat} (hk : Dev.Sound fz d) :
    Dev.Sound fz (Dev.syscalGain d z f span).2 := by
  unfold Dev.syscalGain
  repeat' first
    | with_reducible assumption
    | ((fail_if_no_progress extract_lets +onlyGivenNames x); first | (refine sound_cut fz x ?_ (fun _ => ?_); unfold x) | skip)
    | (split <;> first | (rename_i heq; simp only [Prod.ext_iff] at heq; refine sound_eq fz heq.2 ?_ (fun _ => ?_)) | skip)
    | with_reducible apply Dev.draw_sound

theorem Dev.logSyscal_sound {d : Dev} {c : Nat} {gain : Word} (hk : Dev.Sound fz d) :
    Dev.Sound fz (Dev.logSyscal d c gain) := by
  unfold Dev.logSyscal
  repeat' first
    | with_reducible assumption
    | ((fail_if_no_progress extract_lets +onlyGivenNames x); first | (refine sound_cut fz x ?_ (fun _ => ?_); unfold x) | skip)
    | with_reducible apply Dev.logRec_sound

theorem Dev.writeCopy_sound {d : Dev} {ok : Bool} (hk : Dev.Sound fz d) :
    Dev.Sound fz (Dev.writeCopy d ok) := by
  unfold Dev.writeCopy
  repeat' first
    | with_reducible assumption
    | ((fail_if_no_progress extract_lets +onlyGivenNames x); first | (refine sound_cut fz x ?_ (fun _ => ?_); unfold x) | skip)
    | (with_reducible apply sound_foldl; intros)
    | (with_reducible apply sound_foldl_snd; intros)
    | (split <;> first | (rename_i heq; simp only [Prod.ext_iff] at heq; first | refine sound_eq fz heq.2 ?_ (fun _ => ?_) | refine sound_eq fz heq.2.2 ?_ (fun _ => ?_) | refine sound_eq fz heq.2.2.2 ?_ (fun _ => ?_)) | skip)
    | with_reducible apply Dev.draw_sound
    | with_reducible apply Dev.nvmWrite_sound
    | with_reducible apply Dev.ring_sound
    | with_reducible exact sound_mk (Dev.Sound.parts (by assumption))
    | split

theorem Dev.writeSettings_sound {d : Dev} {ok : Bool} (hk : Dev.Sound fz d) :
    Dev.Sound fz (Dev.writeSettings d ok) := by
  unfold Dev.writeSettings
  repeat' first
    | with_reducible assumption
    | with_reducible apply sound_chans fz
    | with_reducible apply sound_snaps fz
    | with_reducible apply sound_zero fz
    | with_reducible refine (List.length_set ..).trans ?_
    | with_reducible refine (List.length_map ..).trans ?_
    | ((fail_if_no_progress extract_lets +onlyGivenNames x); first | (refine sound_cut fz x ?_ (fun _ => ?_); unfold x) | (refine hka_cut x ?_ ?_ ?_ (fun _ _ _ => ?_) <;> unfold x) | skip)
    | with_reducible apply Dev.setHka_sound
    | with_reducible apply Dev.writeCopy_sound
    | with_reducible exact sound_mk (Dev.Sound.parts (by assumption))
    | split

theorem Dev.syscalApply_sound {d : Dev} {c : Nat} {vref : Nat} {copyOk : Bool} (hk : Dev.Sound fz d) :
    Dev.Sound fz (Dev.syscalApply d c vref copyOk) := by
  unfold Dev.syscalApply
  repeat' first
    | with_reducible assumption
    | with_reducible apply sound_chans fz
    | with_reducible apply sound_snaps fz
    | with_reducible apply sound_zero fz
    | with_reducible refine (List.length_set ..).trans ?_
    | with_reducible refine (List.length_map ..).trans ?_
    | ((fail_if_no_progress extract_lets +onlyGivenNames x); first | (refine sound_cut fz x ?_ (fun _ => ?_); unfold x) | (refine hka_cut x ?_ ?_ ?_ (fun _ _ _ => ?_) <;> unfold x) | skip)
    | (split <;> first | (rename_i heq; simp only [Prod.ext_iff] at heq; refine sound_eq fz heq.2 ?_ (fun _ => ?_)) | skip)
    | with_reducible apply Dev.syscalEnd_sound
    | with_reducible apply Dev.syscalGain_sound
    | with_reducible apply Dev.setHka_sound
    | with_reducible apply Dev.setReg_sound
    | with_reducible apply Dev.logSyscal_sound
    | with_reducible apply Dev.writeSettings_sound

theorem execHkaCalApply_sound {n : BitVec 8} {vref : Word} {copyOk : Bool} {s : State} {t : State}
    (hk : s.dev.Sound fz) (h : execHkaCalApply n vref copyOk s = .next t) : t.dev.Sound fz := by
  unfold execHkaCalApply at h
  refine State.run_sound hk h (fun d hk => ?_)
  repeat' first
    | with_reducible assumption
    | (fail_if_no_progress intros)
    | with_reducible apply Dev.consoleCal_sound
    | with_reducible apply Dev.calAnswer_sound
    | with_reducible apply Dev.syscalApply_sound
    | with_reducible apply Dev.command_sound
    | with_reducible apply State.run_sound
    | with_reducible exact sound_mk (Dev.Sound.parts (by assumption))

theorem Dev.setHkaChan_sound {d : Dev} {c : Nat} {v : HkaChan} (hk : Dev.Sound fz d) :
    Dev.Sound fz (Dev.setHkaChan d c v) := by
  unfold Dev.setHkaChan
  repeat' first
    | with_reducible assumption
    | with_reducible apply sound_chans fz
    | with_reducible apply sound_snaps fz
    | with_reducible apply sound_zero fz
    | with_reducible refine (List.length_set ..).trans ?_
    | with_reducible refine (List.length_map ..).trans ?_
    | ((fail_if_no_progress extract_lets +onlyGivenNames x); first | (refine sound_cut fz x ?_ (fun _ => ?_); unfold x) | (refine hka_cut x ?_ ?_ ?_ (fun _ _ _ => ?_) <;> unfold x) | skip)
    | with_reducible apply Dev.setHka_sound

theorem Dev.bandOutside_sound {d : Dev} {c : Nat} {above : Bool} {v : Word} {ovr : Bool} (hk : Dev.Sound fz d) :
    Dev.Sound fz (Dev.bandOutside d c above v ovr) := by
  unfold Dev.bandOutside
  repeat' first
    | with_reducible assumption
    | ((fail_if_no_progress extract_lets +onlyGivenNames x); first | (refine sound_cut fz x ?_ (fun _ => ?_); unfold x) | skip)
    | with_reducible apply Dev.setHkaChan_sound
    | with_reducible apply Dev.setFld_sound
    | with_reducible apply Dev.ring_sound
    | split

theorem Dev.bandWithin_sound {d : Dev} {c : Nat} {v : Int} {lo : Int} {hi : Int} {hys : Nat} (hk : Dev.Sound fz d) :
    Dev.Sound fz (Dev.bandWithin d c v lo hi hys) := by
  unfold Dev.bandWithin
  repeat' first
    | with_reducible assumption
    | ((fail_if_no_progress extract_lets +onlyGivenNames x); first | (refine sound_cut fz x ?_ (fun _ => ?_); unfold x) | skip)
    | with_reducible apply Dev.setHkaChan_sound
    | with_reducible apply Dev.setFld_sound
    | split

theorem Dev.judgeBand_sound {d : Dev} {c : Nat} {v : Word} {ovr : Nat} (hk : Dev.Sound fz d) :
    Dev.Sound fz (Dev.judgeBand d c v ovr) := by
  unfold Dev.judgeBand
  repeat' first
    | with_reducible assumption
    | ((fail_if_no_progress extract_lets +onlyGivenNames x); first | (refine sound_cut fz x ?_ (fun _ => ?_); unfold x) | skip)
    | with_reducible apply Dev.bandOutside_sound
    | with_reducible apply Dev.bandWithin_sound
    | split

theorem Dev.sysCorrect_sound {d : Dev} {c : Nat} {v : Word} (hk : Dev.Sound fz d) :
    Dev.Sound fz (Dev.sysCorrect d c v).2 := by
  unfold Dev.sysCorrect
  repeat' first
    | with_reducible assumption
    | ((fail_if_no_progress extract_lets +onlyGivenNames x); first | (refine sound_cut fz x ?_ (fun _ => ?_); unfold x) | skip)
    | (split <;> first | (rename_i heq; simp only [Prod.ext_iff] at heq; refine sound_eq fz heq.2 ?_ (fun _ => ?_)) | skip)
    | with_reducible apply Dev.draw_sound

theorem Dev.sumUp_sound {d : Dev} {c : Nat} {f : AccSet → AccSet} (hk : Dev.Sound fz d) :
    Dev.Sound fz (Dev.sumUp d c f) := by
  unfold Dev.sumUp
  repeat' first
    | with_reducible assumption
    | ((fail_if_no_progress extract_lets +onlyGivenNames x); first | (refine sound_cut fz x ?_ (fun _ => ?_); unfold x) | skip)
    | with_reducible exact sound_mk (Dev.Sound.parts (by assumption))

theorem Dev.enterValue_sound {d : Dev} {c : Nat} {v : Word} {ovr : Nat} (hk : Dev.Sound fz d) :
    Dev.Sound fz (Dev.enterValue d c v ovr) := by
  unfold Dev.enterValue
  repeat' first
    | with_reducible assumption
    | with_reducible apply sound_chans fz
    | with_reducible apply sound_snaps fz
    | with_reducible apply sound_zero fz
    | with_reducible refine (List.length_set ..).trans ?_
    | with_reducible refine (List.length_map ..).trans ?_
    | ((fail_if_no_progress extract_lets +onlyGivenNames x); first | (refine sound_cut fz x ?_ (fun _ => ?_); unfold x) | (refine hka_cut x ?_ ?_ ?_ (fun _ _ _ => ?_) <;> unfold x) | skip)
    | (split <;> first | (rename_i heq; simp only [Prod.ext_iff] at heq; refine sound_eq fz heq.2 ?_ (fun _ => ?_)) | skip)
    | with_reducible apply Dev.sysCorrect_sound
    | with_reducible apply Dev.setHkaChan_sound
    | with_reducible apply Dev.setHka_sound
    | with_reducible apply Dev.judgeBand_sound
    | with_reducible apply Dev.sumUp_sound

theorem Dev.loadSettings_sound {d : Dev} (hk : Dev.Sound fz d) :
    Dev.Sound fz (Dev.loadSettings d) := by
  unfold Dev.loadSettings
  repeat' first
    | with_reducible assumption
    | ((fail_if_no_progress extract_lets +onlyGivenNames x); first | (refine sound_cut fz x ?_ (fun _ => ?_); unfold x) | skip)
    | (with_reducible apply sound_foldl; intros)
    | with_reducible apply Dev.setReg_sound
    | split

theorem Dev.convIdle_sound {d : Dev} {b : Bool} (hk : Dev.Sound fz d) :
    Dev.Sound fz (Dev.convIdle d b) := by
  unfold Dev.convIdle
  repeat' first
    | with_reducible assumption
    | with_reducible apply sound_chans fz
    | with_reducible apply sound_snaps fz
    | with_reducible apply sound_zero fz
    | with_reducible refine (List.length_set ..).trans ?_
    | with_reducible refine (List.length_map ..).trans ?_
    | ((fail_if_no_progress extract_lets +onlyGivenNames x); first | (refine sound_cut fz x ?_ (fun _ => ?_); unfold x) | (refine hka_cut x ?_ ?_ ?_ (fun _ _ _ => ?_) <;> unfold x) | skip)
    | with_reducible apply Dev.setConv_sound
    | with_reducible apply Dev.setFld_sound
    | with_reducible apply Dev.setHka_sound
    | split

theorem Dev.discardConv_sound {d : Dev} {b : Bool} {c : Nat} (hk : Dev.Sound fz d) :
    Dev.Sound fz (Dev.discardConv d b c) := by
  unfold Dev.discardConv
  repeat' first
    | with_reducible assumption
    | with_reducible apply Dev.bump_sound
    | with_reducible apply Dev.convIdle_sound
    | split

theorem Dev.refinFollow_sound {d : Dev} (hk : Dev.Sound fz d) :
    Dev.Sound fz (Dev.refinFollow d) := by
  unfold Dev.refinFollow
  repeat' first
    | with_reducible assumption
    | with_reducible apply Dev.setFlag_sound
    | with_reducible exact sound_mk (Dev.Sound.parts (by assumption))
    | split

theorem Dev.bandReset_sound {d : Dev} {c : Nat} (hk : Dev.Sound fz d) :
    Dev.Sound fz (Dev.bandReset d c) := by
  unfold Dev.bandReset
  repeat' first
    | with_reducible assumption
    | ((fail_if_no_progress extract_lets +onlyGivenNames x); first | (refine sound_cut fz x ?_ (fun _ => ?_); unfold x) | skip)
    | with_reducible apply Dev.setHkaChan_sound
    | with_reducible apply Dev.setFld_sound

theorem Dev.writeTdac_sound {d : Dev} {value : Word} (hk : Dev.Sound fz d) :
    Dev.Sound fz (Dev.writeTdac d value) := by
  unfold Dev.writeTdac
  repeat' first
    | with_reducible assumption
    | ((fail_if_no_progress extract_lets +onlyGivenNames x); first | (refine sound_cut fz x ?_ (fun _ => ?_); unfold x) | skip)
    | (with_reducible apply sound_foldl; intros)
    | with_reducible apply Dev.storeReg_sound
    | with_reducible apply Dev.discardConv_sound
    | with_reducible apply Dev.bandReset_sound
    | split

theorem Dev.freeMean_sound {d : Dev} {vs : List Word} (hk : Dev.Sound fz d) :
    Dev.Sound fz (Dev.freeMean d vs).2 := by
  unfold Dev.freeMean
  repeat' first
    | with_reducible assumption
    | ((fail_if_no_progress extract_lets +onlyGivenNames x); first | (refine sound_cut fz x ?_ (fun _ => ?_); unfold x) | skip)
    | (split <;> first | (rename_i heq; simp only [Prod.ext_iff] at heq; refine sound_eq fz heq.2 ?_ (fun _ => ?_)) | skip)
    | with_reducible apply Dev.draw_sound

theorem Dev.consoleHkaPath_sound {d : Dev} {n : Nat} {low : List Word} {high : List Word} (hk : Dev.Sound fz d) :
    Dev.Sound fz (Dev.consoleHkaPath d n low high) := by
  unfold Dev.consoleHkaPath
  repeat' first
    | with_reducible assumption
    | ((fail_if_no_progress extract_lets +onlyGivenNames x); first | (refine sound_cut fz x ?_ (fun _ => ?_); unfold x) | skip)
    | (with_reducible apply sound_foldl; intros)
    | (with_reducible apply sound_foldl_snd; intros)
    | (split <;> first | (rename_i heq; simp only [Prod.ext_iff] at heq; refine sound_eq fz heq.2 ?_ (fun _ => ?_)) | skip)
    | with_reducible apply Dev.finishErr_sound
    | with_reducible apply Dev.writeTdac_sound
    | with_reducible apply Dev.enterValue_sound
    | with_reducible apply Dev.freeMean_sound
    | with_reducible apply Dev.draw_sound
    | with_reducible apply Dev.finishOk_sound
    | with_reducible apply Dev.print_sound

theorem execHkaPath_sound {n : BitVec 8} {low : List Word} {high : List Word} {s : State} {t : State}
    (hk : s.dev.Sound fz) (h : execHkaPath n low high s = .next t) : t.dev.Sound fz := by
  unfold execHkaPath at h
  refine State.run_sound hk h (fun d hk => ?_)
  repeat' first
    | with_reducible assumption
    | (fail_if_no_progress intros)
    | with_reducible apply Dev.consoleHkaPath_sound
    | with_reducible apply Dev.command_sound
    | with_reducible apply State.run_sound
    | with_reducible exact sound_mk (Dev.Sound.parts (by assumption))

theorem Dev.convEnd_sound {d : Dev} {b : Bool} {value : Word} {ovr : Nat} (hk : Dev.Sound fz d) :
    Dev.Sound fz (Dev.convEnd d b value ovr) := by
  unfold Dev.convEnd
  repeat' first
    | with_reducible assumption
    | ((fail_if_no_progress extract_lets +onlyGivenNames x); first | (refine sound_cut fz x ?_ (fun _ => ?_); unfold x) | skip)
    | with_reducible apply Dev.enterValue_sound
    | with_reducible apply Dev.ring_sound
    | with_reducible apply Dev.convIdle_sound
    | split

theorem Dev.hostConversion_sound {d : Dev} {value : Word} (hk : Dev.Sound fz d) :
    Dev.Sound fz (Dev.hostConversion d value) := by
  unfold Dev.hostConversion
  repeat' first
    | with_reducible assumption
    | with_reducible apply sound_chans fz
    | with_reducible apply sound_snaps fz
    | with_reducible apply sound_zero fz
    | with_reducible refine (List.length_set ..).trans ?_
    | with_reducible refine (List.length_map ..).trans ?_
    | ((fail_if_no_progress extract_lets +onlyGivenNames x); first | (refine sound_cut fz x ?_ (fun _ => ?_); unfold x) | (refine hka_cut x ?_ ?_ ?_ (fun _ _ _ => ?_) <;> unfold x) | skip)
    | with_reducible apply Dev.bump_sound
    | with_reducible apply Dev.setHka_sound
    | with_reducible apply Dev.setConv_sound
    | with_reducible apply Dev.refinFollow_sound
    | with_reducible exact sound_mk (Dev.Sound.parts (by assumption))
    | split

theorem Dev.writeHkaCmd_sound {d : Dev} {value : Word} (hk : Dev.Sound fz d) :
    Dev.Sound fz (Dev.writeHkaCmd d value) := by
  unfold Dev.writeHkaCmd
  repeat' first
    | with_reducible assumption
    | with_reducible apply Dev.hostConversion_sound
    | split

theorem Dev.referenceReady_sound {d : Dev} {refin : Bool} (hk : Dev.Sound fz d) :
    Dev.Sound fz (Dev.referenceReady d refin) := by
  unfold Dev.referenceReady
  repeat' first
    | with_reducible assumption
    | with_reducible apply Dev.releaseWaits_sound
    | with_reducible apply Dev.setFlag_sound
    | split

theorem Dev.hkaSnap_sound {d : Dev} {rq : Requester} {value : Word} (hk : Dev.Sound fz d) :
    Dev.Sound fz (Dev.hkaSnap d rq value) := by
  unfold Dev.hkaSnap
  repeat' first
    | with_reducible assumption
    | with_reducible apply sound_chans fz
    | with_reducible apply sound_snaps fz
    | with_reducible apply sound_zero fz
    | with_reducible refine (List.length_set ..).trans ?_
    | with_reducible refine (List.length_map ..).trans ?_
    | ((fail_if_no_progress extract_lets +onlyGivenNames x); first | (refine sound_cut fz x ?_ (fun _ => ?_); unfold x) | (refine hka_cut x ?_ ?_ ?_ (fun _ _ _ => ?_) <;> unfold x) | skip)
    | with_reducible apply Dev.setHka_sound
    | with_reducible apply Dev.setHkaChan_sound
    | split

theorem Dev.consoleHkaCh_sound {d : Dev} {n : Nat} (hk : Dev.Sound fz d) :
    Dev.Sound fz (Dev.consoleHkaCh d n) := by
  unfold Dev.consoleHkaCh
  repeat' first
    | with_reducible assumption
    | with_reducible apply Dev.finishErr_sound
    | with_reducible apply Dev.finishOk_sound
    | with_reducible apply Dev.print_sound
    | with_reducible apply Dev.hkaSnap_sound
    | split

theorem execHkaCh_sound {n : BitVec 8} {s : State} {t : State}
    (hk : s.dev.Sound fz) (h : execHkaCh n s = .next t) : t.dev.Sound fz := by
  unfold execHkaCh at h
  refine State.run_sound hk h (fun d hk => ?_)
  repeat' first
    | with_reducible assumption
    | (fail_if_no_progress intros)
    | with_reducible apply Dev.consoleHkaCh_sound
    | with_reducible apply Dev.command_sound
    | with_reducible apply State.run_sound
    | with_reducible exact sound_mk (Dev.Sound.parts (by assumption))

theorem execTdac_sound {value : Word} {s : State} {t : State}
    (hk : s.dev.Sound fz) (h : execTdac value s = .next t) : t.dev.Sound fz := by
  unfold execTdac at h
  refine State.run_sound hk h (fun d hk => ?_)
  repeat' first
    | with_reducible assumption
    | with_reducible apply Dev.writeTdac_sound

theorem Dev.syscalBegin_sound {d : Dev} {op : Nat} {c : Nat} {console : Bool} (hk : Dev.Sound fz d) :
    Dev.Sound fz (Dev.syscalBegin d op c console) := by
  unfold Dev.syscalBegin
  repeat' first
    | with_reducible assumption
    | with_reducible apply sound_chans fz
    | with_reducible apply sound_snaps fz
    | with_reducible apply sound_zero fz
    | with_reducible refine (List.length_set ..).trans ?_
    | with_reducible refine (List.length_map ..).trans ?_
    | ((fail_if_no_progress extract_lets +onlyGivenNames x); first | (refine sound_cut fz x ?_ (fun _ => ?_); unfold x) | (refine hka_cut x ?_ ?_ ?_ (fun _ _ _ => ?_) <;> unfold x) | skip)
    | with_reducible apply Dev.syscalEnd_sound
    | with_reducible apply Dev.setFld_sound
    | with_reducible apply Dev.setHka_sound
    | split

theorem Dev.syscalDefault_sound {d : Dev} {c : Nat} {copyOk : Bool} (hk : Dev.Sound fz d) :
    Dev.Sound fz (Dev.syscalDefault d c copyOk) := by
  unfold Dev.syscalDefault
  repeat' first
    | with_reducible assumption
    | ((fail_if_no_progress extract_lets +onlyGivenNames x); first | (refine sound_cut fz x ?_ (fun _ => ?_); unfold x) | skip)
    | with_reducible apply Dev.syscalEnd_sound
    | with_reducible apply Dev.setReg_sound
    | with_reducible apply Dev.logSyscal_sound
    | with_reducible apply Dev.writeSettings_sound
    | split

theorem Dev.writeSccmd_sound {d : Dev} {value : Word} {vref : Nat} {copyOk : Bool} (hk : Dev.Sound fz d) :
    Dev.Sound fz (Dev.writeSccmd d value vref copyOk) := by
  unfold Dev.writeSccmd
  repeat' first
    | with_reducible assumption
    | ((fail_if_no_progress extract_lets +onlyGivenNames x); first | (refine sound_cut fz x ?_ (fun _ => ?_); unfold x) | skip)
    | with_reducible apply Dev.ignoreWrite_sound
    | with_reducible apply Dev.syscalBegin_sound
    | with_reducible apply Dev.syscalApply_sound
    | with_reducible apply Dev.syscalDefault_sound
    | split

theorem execZero_sound {value : Word} {s : State} {t : State}
    (hk : s.dev.Sound fz) (h : execZero value s = .next t) : t.dev.Sound fz := by
  unfold execZero at h
  refine State.run_sound hk h (fun d hk => ?_)
  repeat' first
    | with_reducible assumption
    | with_reducible apply Dev.writeSccmd_sound

theorem Dev.claimExpired_sound {d : Dev} (hk : Dev.Sound fz d) :
    Dev.Sound fz (Dev.claimExpired d) := by
  unfold Dev.claimExpired
  repeat' first
    | with_reducible assumption
    | with_reducible apply sound_chans fz
    | with_reducible apply sound_snaps fz
    | with_reducible apply sound_zero fz
    | with_reducible refine (List.length_set ..).trans ?_
    | with_reducible refine (List.length_map ..).trans ?_
    | ((fail_if_no_progress extract_lets +onlyGivenNames x); first | (refine sound_cut fz x ?_ (fun _ => ?_); unfold x) | (refine hka_cut x ?_ ?_ ?_ (fun _ _ _ => ?_) <;> unfold x) | skip)
    | with_reducible apply Dev.refinFollow_sound
    | with_reducible apply Dev.ring_sound
    | with_reducible apply Dev.setFld_sound
    | with_reducible apply Dev.setHka_sound
    | with_reducible exact sound_mk (Dev.Sound.parts (by assumption))
    | split

theorem Dev.hkaOff_sound {d : Dev} (hk : Dev.Sound fz d) :
    Dev.Sound fz (Dev.hkaOff d) := by
  unfold Dev.hkaOff
  repeat' first
    | with_reducible assumption
    | with_reducible apply sound_chans fz
    | with_reducible apply sound_snaps fz
    | with_reducible apply sound_zero fz
    | with_reducible refine (List.length_set ..).trans ?_
    | with_reducible refine (List.length_map ..).trans ?_
    | ((fail_if_no_progress extract_lets +onlyGivenNames x); first | (refine sound_cut fz x ?_ (fun _ => ?_); unfold x) | (refine hka_cut x ?_ ?_ ?_ (fun _ _ _ => ?_) <;> unfold x) | skip)
    | with_reducible apply Dev.setHka_sound
    | with_reducible apply Dev.setFlag_sound
    | with_reducible apply Dev.setConv_sound

theorem Dev.planStart_sound {d : Dev} (hk : Dev.Sound fz d) :
    Dev.Sound fz (Dev.planStart d) := by
  unfold Dev.planStart
  repeat' first
    | with_reducible assumption
    | with_reducible apply sound_chans fz
    | with_reducible apply sound_snaps fz
    | with_reducible apply sound_zero fz
    | with_reducible refine (List.length_set ..).trans ?_
    | with_reducible refine (List.length_map ..).trans ?_
    | ((fail_if_no_progress extract_lets +onlyGivenNames x); first | (refine sound_cut fz x ?_ (fun _ => ?_); unfold x) | (refine hka_cut x ?_ ?_ ?_ (fun _ _ _ => ?_) <;> unfold x) | skip)
    | with_reducible apply Dev.bump_sound
    | with_reducible apply Dev.setConv_sound
    | with_reducible apply Dev.setHkaChan_sound
    | with_reducible apply Dev.setHka_sound
    | with_reducible exact sound_mk (Dev.Sound.parts (by assumption))
    | split

theorem execPlanConversion_sound {s : State} {t : State}
    (hk : s.dev.Sound fz) (h : execPlanConversion s = .next t) : t.dev.Sound fz := by
  unfold execPlanConversion at h
  refine State.run_sound hk h (fun d hk => ?_)
  repeat' first
    | with_reducible assumption
    | with_reducible apply Dev.planStart_sound

theorem execDefault_sound {value : Word} {copyOk : Bool} {s : State} {t : State}
    (hk : s.dev.Sound fz) (h : execDefault value copyOk s = .next t) : t.dev.Sound fz := by
  unfold execDefault at h
  refine State.run_sound hk h (fun d hk => ?_)
  repeat' first
    | with_reducible assumption
    | with_reducible apply Dev.writeSccmd_sound

theorem Dev.consoleHkaConv_sound {d : Dev} {n : Nat} {k : Nat} {values : List (Word × BitVec 2)} (hk : Dev.Sound fz d) :
    Dev.Sound fz (Dev.consoleHkaConv d n k values) := by
  unfold Dev.consoleHkaConv
  repeat' first
    | with_reducible assumption
    | (with_reducible apply sound_foldl_snd; intros)
    | ((fail_if_no_progress extract_lets +onlyGivenNames x); first | (refine sound_cut fz x ?_ (fun _ => ?_); unfold x) | skip)
    | (with_reducible apply sound_foldl; intros)
    | with_reducible apply Dev.finishErr_sound
    | with_reducible apply Dev.setHkaChan_sound
    | with_reducible apply Dev.enterValue_sound
    | with_reducible apply Dev.finishOk_sound
    | with_reducible apply Dev.print_sound
    | with_reducible apply Dev.bumpBy_sound
    | with_reducible apply Dev.take_sound
    | with_reducible exact sound_mk (Dev.Sound.parts (by assumption))
    | split

theorem Dev.writeHkaHost_sound {d : Dev} {value : Word} (hk : Dev.Sound fz d) :
    Dev.Sound fz (Dev.writeHkaHost d value) := by
  unfold Dev.writeHkaHost
  repeat' first
    | with_reducible assumption
    | with_reducible apply sound_chans fz
    | with_reducible apply sound_snaps fz
    | with_reducible apply sound_zero fz
    | with_reducible refine (List.length_set ..).trans ?_
    | with_reducible refine (List.length_map ..).trans ?_
    | ((fail_if_no_progress extract_lets +onlyGivenNames x); first | (refine sound_cut fz x ?_ (fun _ => ?_); unfold x) | (refine hka_cut x ?_ ?_ ?_ (fun _ _ _ => ?_) <;> unfold x) | skip)
    | with_reducible apply Dev.ignoreWrite_sound
    | with_reducible apply Dev.refinFollow_sound
    | with_reducible apply Dev.setFld_sound
    | with_reducible apply Dev.setHka_sound
    | with_reducible exact sound_mk (Dev.Sound.parts (by assumption))
    | split

theorem execClaim_sound {value : Word} {s : State} {t : State}
    (hk : s.dev.Sound fz) (h : execClaim value s = .next t) : t.dev.Sound fz := by
  unfold execClaim at h
  refine State.run_sound hk h (fun d hk => ?_)
  repeat' first
    | with_reducible assumption
    | with_reducible apply Dev.writeHkaHost_sound

theorem Dev.hkaReset_sound {d : Dev} (hk : Dev.Sound fz d) : Dev.Sound fz (Dev.hkaReset d) :=
  Dev.setHka_sound hk rfl rfl rfl

theorem Dev.syscalStepEnd_sound {d : Dev} {values : List Word} {ovr : Nat} (hk : Dev.Sound fz d) :
    Dev.Sound fz (Dev.syscalStepEnd d values ovr) := by
  unfold Dev.syscalStepEnd
  repeat' first
    | with_reducible assumption
    | with_reducible apply sound_chans fz
    | with_reducible apply sound_snaps fz
    | with_reducible apply sound_zero fz
    | with_reducible refine (List.length_set ..).trans ?_
    | with_reducible refine (List.length_map ..).trans ?_
    | ((fail_if_no_progress extract_lets +onlyGivenNames x); first | (refine sound_cut fz x ?_ (fun _ => ?_); unfold x) | (refine hka_cut x ?_ ?_ ?_ (fun _ _ _ => ?_) <;> unfold x) | skip)
    | (with_reducible apply sound_foldl; intros)
    | (with_reducible apply sound_foldl_snd; intros)
    | (split <;> first | (rename_i heq; simp only [Prod.ext_iff] at heq; refine sound_eq fz heq.2 ?_ (fun _ => ?_)) | skip)
    | with_reducible apply Dev.setHka_sound
    | with_reducible apply Dev.enterValue_sound
    | with_reducible apply Dev.syscalEnd_sound
    | with_reducible apply Dev.freeMean_sound
    | with_reducible apply Dev.finishOk_sound
    | with_reducible apply Dev.print_sound
    | with_reducible apply Dev.statusLine_sound
    | with_reducible exact sound_mk (Dev.Sound.parts (by assumption))
    | split

theorem Dev.hkaCommit_sound {d : Dev} {c : Nat} (hk : Dev.Sound fz d) :
    Dev.Sound fz (Dev.hkaCommit d c) := by
  unfold Dev.hkaCommit
  repeat' first
    | with_reducible assumption
    | with_reducible apply Dev.bandReset_sound
    | with_reducible apply Dev.refinFollow_sound
    | with_reducible exact sound_mk (Dev.Sound.parts (by assumption))

theorem execHkaSnap_sound {rq : Requester} {value : Word} {s : State} {t : State}
    (hk : s.dev.Sound fz) (h : execHkaSnap rq value s = .next t) : t.dev.Sound fz := by
  unfold execHkaSnap at h
  refine State.run_sound hk h (fun d hk => ?_)
  repeat' first
    | with_reducible assumption
    | with_reducible apply Dev.hkaSnap_sound

theorem Dev.hkaFault_sound {d : Dev} {kind : Nat} {ch : Nat} (hk : Dev.Sound fz d) :
    Dev.Sound fz (Dev.hkaFault d kind ch) := by
  unfold Dev.hkaFault
  repeat' first
    | with_reducible assumption
    | with_reducible apply sound_chans fz
    | with_reducible apply sound_snaps fz
    | with_reducible apply sound_zero fz
    | with_reducible refine (List.length_set ..).trans ?_
    | with_reducible refine (List.length_map ..).trans ?_
    | ((fail_if_no_progress extract_lets +onlyGivenNames x); first | (refine sound_cut fz x ?_ (fun _ => ?_); unfold x) | (refine hka_cut x ?_ ?_ ?_ (fun _ _ _ => ?_) <;> unfold x) | skip)
    | with_reducible apply Dev.setHka_sound
    | with_reducible apply Dev.ring_sound
    | split

theorem Dev.abandonConv_sound {d : Dev} {b : Bool} {waiting : Bool} {kind : Nat} (hk : Dev.Sound fz d) :
    Dev.Sound fz (Dev.abandonConv d b waiting kind) := by
  unfold Dev.abandonConv
  repeat' first
    | with_reducible assumption
    | with_reducible apply Dev.hkaFault_sound
    | with_reducible apply Dev.convIdle_sound
    | split

theorem execReferenceTimeout_sound {b : Bool} {s : State} {t : State}
    (hk : s.dev.Sound fz) (h : execReferenceTimeout b s = .next t) : t.dev.Sound fz := by
  unfold execReferenceTimeout at h
  refine State.run_sound hk h (fun d hk => ?_)
  repeat' first
    | with_reducible assumption
    | with_reducible apply Dev.abandonConv_sound

theorem execHkaClaimExpired_sound {s : State} {t : State}
    (hk : s.dev.Sound fz) (h : execHkaClaimExpired s = .next t) : t.dev.Sound fz := by
  unfold execHkaClaimExpired at h
  refine State.run_sound hk h (fun d hk => ?_)
  repeat' first
    | with_reducible assumption
    | with_reducible apply Dev.claimExpired_sound

theorem Dev.hkaWake_sound {d : Dev} (hk : Dev.Sound fz d) :
    Dev.Sound fz (Dev.hkaWake d) := by
  unfold Dev.hkaWake
  repeat' first
    | with_reducible assumption
    | (with_reducible apply sound_foldl; intros)
    | with_reducible apply Dev.setFld_sound
    | with_reducible apply Dev.setHkaChan_sound

theorem execSyscalStepEnd_sound {values : List Word} {ovr : BitVec 2} {s : State} {t : State}
    (hk : s.dev.Sound fz) (h : execSyscalStepEnd values ovr s = .next t) : t.dev.Sound fz := by
  unfold execSyscalStepEnd at h
  refine State.run_sound hk h (fun d hk => ?_)
  repeat' first
    | with_reducible assumption
    | with_reducible apply Dev.syscalStepEnd_sound

theorem execReferenceReady_sound {refin : Bool} {s : State} {t : State}
    (hk : s.dev.Sound fz) (h : execReferenceReady refin s = .next t) : t.dev.Sound fz := by
  unfold execReferenceReady at h
  refine State.run_sound hk h (fun d hk => ?_)
  repeat' first
    | with_reducible assumption
    | with_reducible apply Dev.referenceReady_sound

theorem Dev.writeTapsel_sound {d : Dev} {value : Word} (hk : Dev.Sound fz d) :
    Dev.Sound fz (Dev.writeTapsel d value) := by
  unfold Dev.writeTapsel
  repeat' first
    | with_reducible assumption
    | with_reducible apply Dev.storeReg_sound
    | split

theorem execFull_sound {value : Word} {s : State} {t : State}
    (hk : s.dev.Sound fz) (h : execFull value s = .next t) : t.dev.Sound fz := by
  unfold execFull at h
  refine State.run_sound hk h (fun d hk => ?_)
  repeat' first
    | with_reducible assumption
    | with_reducible apply Dev.writeSccmd_sound

theorem execHkaCalFull_sound {n : BitVec 8} {uv : Word} {s : State} {t : State}
    (hk : s.dev.Sound fz) (h : execHkaCalFull n uv s = .next t) : t.dev.Sound fz := by
  unfold execHkaCalFull at h
  refine State.run_sound hk h (fun d hk => ?_)
  repeat' first
    | with_reducible assumption
    | (fail_if_no_progress intros)
    | with_reducible apply Dev.consoleCal_sound
    | with_reducible apply Dev.calAnswer_sound
    | with_reducible apply Dev.syscalBegin_sound
    | with_reducible apply Dev.setReg_sound
    | with_reducible apply Dev.command_sound
    | with_reducible apply State.run_sound
    | with_reducible apply Dev.longCommand_sound
    | with_reducible exact sound_mk (Dev.Sound.parts (by assumption))

theorem execHostConversion_sound {value : Word} {s : State} {t : State}
    (hk : s.dev.Sound fz) (h : execHostConversion value s = .next t) : t.dev.Sound fz := by
  unfold execHostConversion at h
  refine State.run_sound hk h (fun d hk => ?_)
  repeat' first
    | with_reducible assumption
    | with_reducible apply Dev.hostConversion_sound

theorem execApply_sound {value : Word} {vref : Word} {copyOk : Bool} {s : State} {t : State}
    (hk : s.dev.Sound fz) (h : execApply value vref copyOk s = .next t) : t.dev.Sound fz := by
  unfold execApply at h
  refine State.run_sound hk h (fun d hk => ?_)
  repeat' first
    | with_reducible assumption
    | with_reducible apply Dev.writeSccmd_sound

theorem execHkaCalZero_sound {n : BitVec 8} {s : State} {t : State}
    (hk : s.dev.Sound fz) (h : execHkaCalZero n s = .next t) : t.dev.Sound fz := by
  unfold execHkaCalZero at h
  refine State.run_sound hk h (fun d hk => ?_)
  repeat' first
    | with_reducible assumption
    | (fail_if_no_progress intros)
    | with_reducible apply Dev.consoleCal_sound
    | with_reducible apply Dev.calAnswer_sound
    | with_reducible apply Dev.syscalBegin_sound
    | with_reducible apply Dev.command_sound
    | with_reducible apply State.run_sound
    | with_reducible apply Dev.longCommand_sound
    | with_reducible exact sound_mk (Dev.Sound.parts (by assumption))

theorem Dev.refinCheck_sound {d : Dev} {ok : Bool} (hk : Dev.Sound fz d) :
    Dev.Sound fz (Dev.refinCheck d ok) := by
  unfold Dev.refinCheck
  repeat' first
    | with_reducible assumption
    | with_reducible apply sound_chans fz
    | with_reducible apply sound_snaps fz
    | with_reducible apply sound_zero fz
    | with_reducible refine (List.length_set ..).trans ?_
    | with_reducible refine (List.length_map ..).trans ?_
    | ((fail_if_no_progress extract_lets +onlyGivenNames x); first | (refine sound_cut fz x ?_ (fun _ => ?_); unfold x) | (refine hka_cut x ?_ ?_ ?_ (fun _ _ _ => ?_) <;> unfold x) | skip)
    | (split <;> first | (rename_i heq; simp only [Prod.ext_iff] at heq; refine sound_eq fz heq.2 ?_ (fun _ => ?_)) | skip)
    | with_reducible apply Dev.setFlag_sound
    | with_reducible apply Dev.draw_sound
    | with_reducible apply Dev.setHka_sound
    | with_reducible apply Dev.releaseWaits_sound
    | with_reducible apply Dev.hkaFault_sound

theorem execRefinCheck_sound {ok : Bool} {s : State} {t : State}
    (hk : s.dev.Sound fz) (h : execRefinCheck ok s = .next t) : t.dev.Sound fz := by
  unfold execRefinCheck at h
  refine State.run_sound hk h (fun d hk => ?_)
  repeat' first
    | with_reducible assumption
    | with_reducible apply Dev.refinCheck_sound

theorem execConversionTimeout_sound {b : Bool} {s : State} {t : State}
    (hk : s.dev.Sound fz) (h : execConversionTimeout b s = .next t) : t.dev.Sound fz := by
  unfold execConversionTimeout at h
  refine State.run_sound hk h (fun d hk => ?_)
  repeat' first
    | with_reducible assumption
    | with_reducible apply Dev.abandonConv_sound

theorem Dev.setCal_sound {d : Dev} {c : Calib} (hk : Dev.Sound fz d) :
    Dev.Sound fz (Dev.setCal d c) := by
  unfold Dev.setCal
  repeat' first
    | with_reducible assumption
    | with_reducible exact sound_mk (Dev.Sound.parts (by assumption))

theorem Dev.setChanCal_sound {d : Dev} {c : Nat} {v : ChanCal} (hk : Dev.Sound fz d) :
    Dev.Sound fz (Dev.setChanCal d c v) := by
  unfold Dev.setChanCal
  repeat' first
    | with_reducible assumption
    | ((fail_if_no_progress extract_lets +onlyGivenNames x); first | (refine sound_cut fz x ?_ (fun _ => ?_); unfold x) | skip)
    | with_reducible apply Dev.setCal_sound

theorem Dev.redundancy_sound {d : Dev} {set : Nat} {number : Nat} {left : Nat} (hk : Dev.Sound fz d) :
    Dev.Sound fz (Dev.redundancy d set number left) := by
  unfold Dev.redundancy
  repeat' first
    | with_reducible assumption
    | ((fail_if_no_progress extract_lets +onlyGivenNames x); first | (refine sound_cut fz x ?_ (fun _ => ?_); unfold x) | skip)
    | with_reducible apply Dev.ring_sound
    | with_reducible apply Dev.setCal_sound
    | split

theorem Dev.noteSpares_sound {d : Dev} (hk : Dev.Sound fz d) :
    Dev.Sound fz (Dev.noteSpares d) := by
  unfold Dev.noteSpares
  repeat' first
    | with_reducible assumption
    | ((fail_if_no_progress extract_lets +onlyGivenNames x); first | (refine sound_cut fz x ?_ (fun _ => ?_); unfold x) | skip)
    | with_reducible apply Dev.setFld_sound
    | with_reducible apply Dev.redundancy_sound
    | split

theorem Dev.remap_sound {d : Dev} {l : Nat} (hk : Dev.Sound fz d) :
    Dev.Sound fz (Dev.remap d l) := by
  unfold Dev.remap
  repeat' first
    | with_reducible assumption
    | ((fail_if_no_progress extract_lets +onlyGivenNames x); first | (refine sound_cut fz x ?_ (fun _ => ?_); unfold x) | skip)
    | with_reducible apply Dev.setFlag_sound
    | with_reducible apply Dev.setFld_sound
    | with_reducible apply Dev.noteSpares_sound
    | with_reducible apply Dev.setCal_sound
    | with_reducible apply Dev.ring_sound
    | with_reducible exact sound_mk (Dev.Sound.parts (by assumption))
    | split

theorem Dev.remapBad_sound {d : Dev} (hk : Dev.Sound fz d) :
    Dev.Sound fz (Dev.remapBad d) := by
  unfold Dev.remapBad
  repeat' first
    | with_reducible assumption
    | (with_reducible apply sound_foldl; intros)
    | with_reducible apply Dev.remap_sound
    | split

theorem Dev.channelItem_sound {d : Dev} {c : Nat} {cells : List Nat} {ok : Bool} (hk : Dev.Sound fz d) :
    Dev.Sound fz (Dev.channelItem d c cells ok) := by
  unfold Dev.channelItem
  repeat' first
    | with_reducible assumption
    | (with_reducible apply sound_foldl_snd; intros)
    | (split <;> first | (rename_i heq; simp only [Prod.ext_iff] at heq; refine sound_eq fz heq.2 ?_ (fun _ => ?_)) | skip)
    | ((fail_if_no_progress extract_lets +onlyGivenNames x); first | (refine sound_cut fz x ?_ (fun _ => ?_); unfold x) | skip)
    | (with_reducible apply sound_foldl; intros)
    | with_reducible apply Dev.setChanCal_sound
    | with_reducible apply Dev.redundancy_sound
    | with_reducible apply Dev.setCal_sound
    | with_reducible apply Dev.noteSpares_sound
    | with_reducible apply Dev.setFld_sound
    | with_reducible apply Dev.setFlag_sound
    | with_reducible apply Dev.remapBad_sound
    | with_reducible apply Dev.draw_sound
    | with_reducible apply Dev.take_sound
    | with_reducible exact sound_mk (Dev.Sound.parts (by assumption))
    | split

theorem Dev.tenths_sound {d : Dev} {t : Int} (hk : Dev.Sound fz d) :
    Dev.Sound fz (Dev.tenths d t).2 := by
  unfold Dev.tenths
  repeat' first
    | with_reducible assumption
    | (split <;> first | (rename_i heq; simp only [Prod.ext_iff] at heq; refine sound_eq fz heq.2 ?_ (fun _ => ?_)) | skip)
    | with_reducible apply Dev.draw_sound

theorem Dev.setItems_sound {d : Dev} {items : List Nat} (hk : Dev.Sound fz d) :
    Dev.Sound fz (Dev.setItems d items) := by
  unfold Dev.setItems
  repeat' first
    | with_reducible assumption
    | ((fail_if_no_progress extract_lets +onlyGivenNames x); first | (refine sound_cut fz x ?_ (fun _ => ?_); unfold x) | skip)
    | with_reducible apply Dev.setFld_sound
    | with_reducible apply Dev.setCal_sound

theorem Dev.runBegin_sound {d : Dev} {full : Bool} (hk : Dev.Sound fz d) :
    Dev.Sound fz (Dev.runBegin d full) := by
  unfold Dev.runBegin
  repeat' first
    | with_reducible assumption
    | ((fail_if_no_progress extract_lets +onlyGivenNames x); first | (refine sound_cut fz x ?_ (fun _ => ?_); unfold x) | skip)
    | (split <;> first | (rename_i heq; simp only [Prod.ext_iff] at heq; refine sound_eq fz heq.2 ?_ (fun _ => ?_)) | skip)
    | with_reducible apply Dev.tenths_sound
    | with_reducible apply Dev.setCal_sound
    | with_reducible apply Dev.setFld_sound
    | with_reducible apply Dev.setItems_sound

theorem Dev.fullRun_sound {d : Dev} {trigger : Nat} (hk : Dev.Sound fz d) :
    Dev.Sound fz (Dev.fullRun d trigger) := by
  unfold Dev.fullRun
  repeat' first
    | with_reducible assumption
    | with_reducible apply Dev.runBegin_sound
    | with_reducible apply Dev.setFld_sound

theorem Dev.calTrigger_sound {d : Dev} {trigger : Nat} (hk : Dev.Sound fz d) :
    Dev.Sound fz (Dev.calTrigger d trigger) := by
  unfold Dev.calTrigger
  repeat' first
    | with_reducible assumption
    | ((fail_if_no_progress extract_lets +onlyGivenNames x); first | (refine sound_cut fz x ?_ (fun _ => ?_); unfold x) | skip)
    | with_reducible apply Dev.fullRun_sound
    | with_reducible apply Dev.setCal_sound
    | with_reducible apply Dev.setFld_sound
    | split

theorem Dev.writeCalCmd_sound {d : Dev} {value : Word} (hk : Dev.Sound fz d) :
    Dev.Sound fz (Dev.writeCalCmd d value) := by
  unfold Dev.writeCalCmd
  repeat' first
    | with_reducible assumption
    | with_reducible apply Dev.ignoreWrite_sound
    | with_reducible apply Dev.calTrigger_sound
    | split

theorem Dev.calService_sound {d : Dev} (hk : Dev.Sound fz d) :
    Dev.Sound fz (Dev.calService d) := by
  unfold Dev.calService
  repeat' first
    | with_reducible assumption
    | with_reducible apply Dev.fullRun_sound
    | with_reducible exact sound_mk (Dev.Sound.parts (by assumption))
    | split

theorem Dev.consoleScanStop_sound {d : Dev} (hk : Dev.Sound fz d) :
    Dev.Sound fz (Dev.consoleScanStop d) := by
  unfold Dev.consoleScanStop
  repeat' first
    | with_reducible assumption
    | with_reducible apply Dev.calService_sound
    | with_reducible apply Dev.finishErr_sound
    | with_reducible apply Dev.finishOk_sound
    | with_reducible apply Dev.scanStop_sound
    | with_reducible apply Dev.setFlag_sound
    | with_reducible apply Dev.setFld_sound
    | with_reducible exact sound_mk (Dev.Sound.parts (by assumption))
    | split

theorem execScanStop_sound {s : State} {t : State}
    (hk : s.dev.Sound fz) (h : execScanStop s = .next t) : t.dev.Sound fz := by
  unfold execScanStop at h
  refine State.run_sound hk h (fun d hk => ?_)
  repeat' first
    | with_reducible assumption
    | (fail_if_no_progress intros)
    | with_reducible apply Dev.command_sound
    | with_reducible apply Dev.consoleScanStop_sound
    | with_reducible apply Dev.scanStop_sound
    | with_reducible apply State.run_sound
    | with_reducible exact sound_mk (Dev.Sound.parts (by assumption))

theorem Dev.calJudge_sound {d : Dev} {ch : Option Nat} (hk : Dev.Sound fz d) :
    Dev.Sound fz (Dev.calJudge d ch) := by
  unfold Dev.calJudge
  repeat' first
    | with_reducible assumption
    | ((fail_if_no_progress extract_lets +onlyGivenNames x); first | (refine sound_cut fz x ?_ (fun _ => ?_); unfold x) | skip)
    | with_reducible apply Dev.setCal_sound
    | with_reducible apply Dev.calTrigger_sound
    | split

theorem Dev.runEnd_sound {d : Dev} (hk : Dev.Sound fz d) :
    Dev.Sound fz (Dev.runEnd d) := by
  unfold Dev.runEnd
  repeat' first
    | with_reducible assumption
    | ((fail_if_no_progress extract_lets +onlyGivenNames x); first | (refine sound_cut fz x ?_ (fun _ => ?_); unfold x) | clear_value x)
    | with_reducible apply Dev.setFld_sound
    | with_reducible apply Dev.bump_sound
    | with_reducible apply Dev.setCal_sound
    | with_reducible apply Dev.ring_sound
    | with_reducible apply Dev.calTrigger_sound
    | with_reducible apply Dev.calJudge_sound
    | split

theorem Dev.chooseLegs_sound {d : Dev} {good : List (Nat × Nat)} (hk : Dev.Sound fz d) :
    Dev.Sound fz (Dev.chooseLegs d good).2 := by
  unfold Dev.chooseLegs
  repeat' first
    | with_reducible assumption
    | ((fail_if_no_progress extract_lets +onlyGivenNames x); first | (refine sound_cut fz x ?_ (fun _ => ?_); unfold x) | skip)
    | (split <;> first | (rename_i heq; simp only [Prod.ext_iff] at heq; refine sound_eq fz heq.2 ?_ (fun _ => ?_)) | skip)
    | with_reducible apply Dev.median_sound

theorem Dev.driverItem_sound {d : Dev} {e : Nat} {legs : List Nat} {tripped : Bool} (hk : Dev.Sound fz d) :
    Dev.Sound fz (Dev.driverItem d e legs tripped) := by
  unfold Dev.driverItem
  repeat' first
    | with_reducible assumption
    | ((fail_if_no_progress extract_lets +onlyGivenNames x); first | (refine sound_cut fz x ?_ (fun _ => ?_); unfold x) | skip)
    | (split <;> first | (rename_i heq; simp only [Prod.ext_iff] at heq; refine sound_eq fz heq.2 ?_ (fun _ => ?_)) | skip)
    | with_reducible apply Dev.chooseLegs_sound
    | with_reducible apply Dev.setFld_sound
    | with_reducible apply Dev.electrodeFault_sound
    | with_reducible apply Dev.redundancy_sound

theorem Dev.takeItem_sound {d : Dev} {vs : List (BitVec 16)} {flag : Bool} (hk : Dev.Sound fz d) :
    Dev.Sound fz (Dev.takeItem d vs flag) := by
  unfold Dev.takeItem
  repeat' first
    | with_reducible assumption
    | ((fail_if_no_progress extract_lets +onlyGivenNames x); first | (refine sound_cut fz x ?_ (fun _ => ?_); unfold x) | skip)
    | with_reducible apply Dev.setItems_sound
    | with_reducible apply Dev.channelItem_sound
    | with_reducible apply Dev.driverItem_sound
    | split

theorem Dev.sliceItems_sound {d : Dev} {left : Nat} {z1 : List (List (BitVec 16) × Bool)} (hk : Dev.Sound fz d) :
    Dev.Sound fz (Dev.sliceItems d left z1) := by
  induction z1 generalizing d left with
  | nil =>
    unfold Dev.sliceItems
    repeat' first
      | with_reducible assumption
      | ((fail_if_no_progress extract_lets +onlyGivenNames x); first | (refine sound_cut fz x ?_ (fun _ => ?_); unfold x) | clear_value x)
      | with_reducible apply Dev.takeItem_sound
      | split
  | cons _ _ ih =>
    unfold Dev.sliceItems
    repeat' first
      | with_reducible assumption
      | with_reducible apply ih
      | ((fail_if_no_progress extract_lets +onlyGivenNames x); first | (refine sound_cut fz x ?_ (fun _ => ?_); unfold x) | clear_value x)
      | with_reducible apply Dev.takeItem_sound
      | split

theorem Dev.slice_sound {d : Dev} {ms : List (List (BitVec 16) × Bool)} (hk : Dev.Sound fz d) :
    Dev.Sound fz (Dev.slice d ms) := by
  unfold Dev.slice
  repeat' first
    | with_reducible assumption
    | ((fail_if_no_progress extract_lets +onlyGivenNames x); first | (refine sound_cut fz x ?_ (fun _ => ?_); unfold x) | skip)
    | with_reducible apply Dev.runBegin_sound
    | with_reducible apply Dev.setFld_sound
    | with_reducible apply Dev.setCal_sound
    | with_reducible apply Dev.runEnd_sound
    | with_reducible apply Dev.sliceItems_sound
    | split

theorem execSlice_sound {items : List (List (BitVec 16) × Bool)} {s : State} {t : State}
    (hk : s.dev.Sound fz) (h : execSlice items s = .next t) : t.dev.Sound fz := by
  unfold execSlice at h
  refine State.run_sound hk h (fun d hk => ?_)
  repeat' first
    | with_reducible assumption
    | with_reducible apply Dev.slice_sound

theorem execRun_sound {value : Word} {s : State} {t : State}
    (hk : s.dev.Sound fz) (h : execRun value s = .next t) : t.dev.Sound fz := by
  unfold execRun at h
  refine State.run_sound hk h (fun d hk => ?_)
  repeat' first
    | with_reducible assumption
    | with_reducible apply Dev.writeCalCmd_sound

theorem Dev.nvmGarble_sound {d : Dev} {a : Nat} {z1 : Nat} (hk : Dev.Sound fz d) :
    Dev.Sound fz (Dev.nvmGarble d a z1) := by
  induction z1 generalizing d a with
  | zero =>
    unfold Dev.nvmGarble
    repeat' first
      | with_reducible assumption
      | ((fail_if_no_progress extract_lets +onlyGivenNames x); first | (refine sound_cut fz x ?_ (fun _ => ?_); unfold x) | clear_value x)
      | (split <;> first | (rename_i heq; simp only [Prod.ext_iff] at heq; refine sound_eq fz heq.2 ?_ (fun _ => ?_)) | skip)
      | with_reducible apply Dev.draw_sound
      | with_reducible apply Dev.nvmWrite_sound
  | succ _ ih =>
    unfold Dev.nvmGarble
    repeat' first
      | with_reducible assumption
      | with_reducible apply ih
      | ((fail_if_no_progress extract_lets +onlyGivenNames x); first | (refine sound_cut fz x ?_ (fun _ => ?_); unfold x) | clear_value x)
      | (split <;> first | (rename_i heq; simp only [Prod.ext_iff] at heq; refine sound_eq fz heq.2 ?_ (fun _ => ?_)) | skip)
      | with_reducible apply Dev.draw_sound
      | with_reducible apply Dev.nvmWrite_sound

theorem Dev.nvmTry_sound {d : Dev} {a : Nat} {bs : List Byte} {z1 : List Bool} (hk : Dev.Sound fz d) :
    Dev.Sound fz (Dev.nvmTry d a bs z1).2.2 := by
  unfold Dev.nvmTry
  repeat' first
    | with_reducible assumption
    | (split <;> first | (rename_i heq; simp only [Prod.ext_iff] at heq; refine sound_eq fz heq.2 ?_ (fun _ => ?_)) | skip)
    | with_reducible apply Dev.nvmGarble_sound
    | with_reducible apply Dev.nvmWrite_sound

theorem Dev.reportLost_sound {d : Dev} (hk : Dev.Sound fz d) :
    Dev.Sound fz (Dev.reportLost d) := by
  unfold Dev.reportLost
  repeat' first
    | with_reducible assumption
    | ((fail_if_no_progress extract_lets +onlyGivenNames x); first | (refine sound_cut fz x ?_ (fun _ => ?_); unfold x) | skip)
    | with_reducible apply Dev.ring_sound
    | with_reducible apply Dev.setCal_sound
    | split

theorem Dev.logWritten_sound {d : Dev} {head : Nat} {slot : Nat} (hk : Dev.Sound fz d) :
    Dev.Sound fz (Dev.logWritten d head slot) := by
  unfold Dev.logWritten
  repeat' first
    | with_reducible assumption
    | ((fail_if_no_progress extract_lets +onlyGivenNames x); first | (refine sound_cut fz x ?_ (fun _ => ?_); unfold x) | skip)
    | with_reducible apply Dev.setFld_sound
    | with_reducible apply Dev.reportLost_sound
    | with_reducible exact sound_mk (Dev.Sound.parts (by assumption))

theorem Dev.judgeWorn_sound {d : Dev} (hk : Dev.Sound fz d) :
    Dev.Sound fz (Dev.judgeWorn d) := by
  unfold Dev.judgeWorn
  repeat' first
    | with_reducible assumption
    | with_reducible apply Dev.setFlag_sound
    | with_reducible apply Dev.ring_sound
    | split

theorem Dev.retirePage_sound {d : Dev} {page : Nat} {lap : Nat} {first : Nat} {ok : List Bool} (hk : Dev.Sound fz d) :
    Dev.Sound fz (Dev.retirePage d page lap first ok).2 := by
  unfold Dev.retirePage
  repeat' first
    | with_reducible assumption
    | ((fail_if_no_progress extract_lets +onlyGivenNames x); first | (refine sound_cut fz x ?_ (fun _ => ?_); unfold x) | skip)
    | (split <;> first | (rename_i heq; simp only [Prod.ext_iff] at heq; first
        | refine sound_eq fz heq.2 ?_ (fun _ => ?_)
        | refine sound_eq fz heq.2.2 ?_ (fun _ => ?_)
        | refine sound_eq fz heq.2.2.2 ?_ (fun _ => ?_)) | skip)
    | with_reducible apply Dev.nvmGarble_sound
    | with_reducible apply Dev.nvmWrite_sound
    | with_reducible apply Dev.setCal_sound
    | with_reducible apply Dev.setFld_sound
    | with_reducible apply Dev.judgeWorn_sound
    | with_reducible apply Dev.ring_sound

theorem Dev.openPage_sound {d : Dev} {r : LogRec} {z1 : Nat} {z2 : Nat} {z3 : List Bool} (hk : Dev.Sound fz d) :
    Dev.Sound fz (Dev.openPage d r z1 z2 z3) := by
  induction z1 generalizing d r z2 z3 with
  | zero =>
    unfold Dev.openPage
    repeat' first
      | with_reducible assumption
      | ((fail_if_no_progress extract_lets +onlyGivenNames x); first | (refine sound_cut fz x ?_ (fun _ => ?_); unfold x) | clear_value x)
      | (split <;> first | (rename_i heq; simp only [Prod.ext_iff] at heq; first
          | refine sound_eq fz heq.2 ?_ (fun _ => ?_)
          | refine sound_eq fz heq.2.2 ?_ (fun _ => ?_)
          | refine sound_eq fz heq.2.2.2 ?_ (fun _ => ?_)) | skip)
      | with_reducible apply Dev.setCal_sound
      | with_reducible apply Dev.nvmTry_sound
      | with_reducible apply Dev.logWritten_sound
      | with_reducible apply Dev.retirePage_sound
  | succ _ ih =>
    unfold Dev.openPage
    repeat' first
      | with_reducible assumption
      | with_reducible apply ih
      | ((fail_if_no_progress extract_lets +onlyGivenNames x); first | (refine sound_cut fz x ?_ (fun _ => ?_); unfold x) | clear_value x)
      | (split <;> first | (rename_i heq; simp only [Prod.ext_iff] at heq; first
          | refine sound_eq fz heq.2 ?_ (fun _ => ?_)
          | refine sound_eq fz heq.2.2 ?_ (fun _ => ?_)
          | refine sound_eq fz heq.2.2.2 ?_ (fun _ => ?_)) | skip)
      | with_reducible apply Dev.setCal_sound
      | with_reducible apply Dev.nvmTry_sound
      | with_reducible apply Dev.logWritten_sound
      | with_reducible apply Dev.retirePage_sound

theorem Dev.logWrite_sound {d : Dev} {ok : List Bool} (hk : Dev.Sound fz d) :
    Dev.Sound fz (Dev.logWrite d ok) := by
  unfold Dev.logWrite
  repeat' first
    | with_reducible assumption
    | ((fail_if_no_progress extract_lets +onlyGivenNames x); first | (refine sound_cut fz x ?_ (fun _ => ?_); unfold x) | skip)
    | (split <;> first | (rename_i heq; simp only [Prod.ext_iff] at heq; first
        | refine sound_eq fz heq.2 ?_ (fun _ => ?_)
        | refine sound_eq fz heq.2.2 ?_ (fun _ => ?_)
        | refine sound_eq fz heq.2.2.2 ?_ (fun _ => ?_)) | skip)
    | with_reducible apply Dev.openPage_sound
    | with_reducible apply Dev.nvmTry_sound
    | with_reducible apply Dev.logWritten_sound
    | with_reducible apply Dev.retirePage_sound

theorem execLogRecordWrite_sound {ok : List Bool} {s : State} {t : State}
    (hk : s.dev.Sound fz) (h : execLogRecordWrite ok s = .next t) : t.dev.Sound fz := by
  unfold execLogRecordWrite at h
  refine State.run_sound hk h (fun d hk => ?_)
  repeat' first
    | with_reducible assumption
    | with_reducible apply sound_chans fz
    | with_reducible apply sound_snaps fz
    | with_reducible apply sound_zero fz
    | with_reducible refine (List.length_set ..).trans ?_
    | with_reducible refine (List.length_map ..).trans ?_
    | ((fail_if_no_progress extract_lets +onlyGivenNames x); first | (refine sound_cut fz x ?_ (fun _ => ?_); unfold x) | (refine hka_cut x ?_ ?_ ?_ (fun _ _ _ => ?_) <;> unfold x) | skip)
    | with_reducible apply Dev.logWrite_sound
    | with_reducible apply Dev.nvmIdle_sound
    | with_reducible apply Dev.setHka_sound
    | with_reducible apply Dev.writeCopy_sound
    | with_reducible apply State.run_sound
    | with_reducible exact sound_mk (Dev.Sound.parts (by assumption))
    | split

theorem Dev.logMount_sound {d : Dev} (hk : Dev.Sound fz d) :
    Dev.Sound fz (Dev.logMount d) := by
  unfold Dev.logMount
  repeat' first
    | with_reducible assumption
    | ((fail_if_no_progress extract_lets +onlyGivenNames x); first | (refine sound_cut fz x ?_ (fun _ => ?_); unfold x) | clear_value x)
    | (with_reducible apply sound_foldl; intros)
    | with_reducible apply Dev.setCal_sound
    | with_reducible apply Dev.setFld_sound
    | with_reducible apply Dev.setFlag_sound
    | with_reducible apply Dev.ring_sound
    | with_reducible apply Dev.judgeWorn_sound
    | with_reducible apply Dev.reportLost_sound
    | split

theorem execLogMount_sound {s : State} {t : State}
    (hk : s.dev.Sound fz) (h : execLogMount s = .next t) : t.dev.Sound fz := by
  unfold execLogMount at h
  refine State.run_sound hk h (fun d hk => ?_)
  repeat' first
    | with_reducible assumption
    | with_reducible apply Dev.logMount_sound
    | split

theorem Dev.refCells_sound {d : Dev} {cells : List Nat} (hk : Dev.Sound fz d) :
    Dev.Sound fz (Dev.refCells d cells) := by
  unfold Dev.refCells
  repeat' first
    | with_reducible assumption
    | (split <;> first | (rename_i heq; simp only [Prod.ext_iff] at heq; first | refine sound_eq fz heq.2 ?_ (fun _ => ?_) | refine sound_eq fz heq.2.2 ?_ (fun _ => ?_) | refine sound_eq fz heq.2.2.2 ?_ (fun _ => ?_)) | skip)
    | ((fail_if_no_progress extract_lets +onlyGivenNames x); first | (refine sound_cut fz x ?_ (fun _ => ?_); unfold x) | clear_value x)
    | (with_reducible apply sound_foldl; intros)
    | (with_reducible apply sound_foldl_snd; intros)
    | (split <;> first | (rename_i heq; simp only [Prod.ext_iff] at heq; refine sound_eq fz heq.2 ?_ (fun _ => ?_)) | skip)
    | with_reducible apply Dev.median_sound
    | with_reducible apply Dev.setFld_sound
    | with_reducible apply Dev.redundancy_sound
    | with_reducible apply Dev.draw_sound
    | with_reducible exact sound_mk (Dev.Sound.parts (by assumption))
    | split

theorem Dev.backgroundEnd_sound {d : Dev} {rc : Bool} {cells : List Nat} {legs : Nat} {reached : Bool} (hk :
    Dev.Sound fz d) :
    Dev.Sound fz (Dev.backgroundEnd d rc cells legs reached) := by
  unfold Dev.backgroundEnd
  repeat' first
    | with_reducible assumption
    | ((fail_if_no_progress extract_lets +onlyGivenNames x); first | (refine sound_cut fz x ?_ (fun _ => ?_); unfold x) | skip)
    | with_reducible apply Dev.setCal_sound
    | with_reducible apply Dev.setFlag_sound
    | with_reducible apply Dev.setFld_sound
    | with_reducible apply Dev.runEnd_sound
    | with_reducible apply Dev.redundancy_sound
    | with_reducible apply Dev.refCells_sound
    | split

theorem execBackgroundItemEnd_sound {rc : Bool} {cells : List (BitVec 24)} {legs : BitVec 16} {reached : Bool} {s :
    State} {t : State}
    (hk : s.dev.Sound fz) (h : execBackgroundItemEnd rc cells legs reached s = .next t) : t.dev.Sound fz := by
  unfold execBackgroundItemEnd at h
  refine State.run_sound hk h (fun d hk => ?_)
  repeat' first
    | with_reducible assumption
    | with_reducible apply Dev.backgroundEnd_sound

theorem execLogStat_sound {s : State} {t : State}
    (hk : s.dev.Sound fz) (h : execLogStat s = .next t) : t.dev.Sound fz := by
  unfold execLogStat at h
  refine State.run_sound hk h (fun d hk => ?_)
  repeat' first
    | with_reducible assumption
    | (fail_if_no_progress intros)
    | with_reducible apply Dev.finishOk_sound
    | with_reducible apply Dev.print_sound
    | with_reducible apply Dev.command_sound
    | with_reducible apply State.run_sound
    | with_reducible exact sound_mk (Dev.Sound.parts (by assumption))

theorem Dev.logResume_sound {d : Dev} (hk : Dev.Sound fz d) :
    Dev.Sound fz (Dev.logResume d) := by
  unfold Dev.logResume
  repeat' first
    | with_reducible assumption
    | ((fail_if_no_progress extract_lets +onlyGivenNames x); first | (refine sound_cut fz x ?_ (fun _ => ?_); unfold x) | skip)
    | with_reducible apply Dev.printLog_sound
    | with_reducible apply Dev.printRun_sound
    | with_reducible exact sound_mk (Dev.Sound.parts (by assumption))
    | split

theorem Dev.noteTelem_sound {d : Dev} {stretched : Bool} (hk : Dev.Sound fz d) :
    Dev.Sound fz (Dev.noteTelem d stretched) := by
  unfold Dev.noteTelem
  repeat' first
    | with_reducible assumption
    | ((fail_if_no_progress extract_lets +onlyGivenNames x); first | (refine sound_cut fz x ?_ (fun _ => ?_); unfold x) | skip)
    | with_reducible apply Dev.setCal_sound

theorem Dev.telemetry_sound {d : Dev} (hk : Dev.Sound fz d) :
    Dev.Sound fz (Dev.telemetry d) := by
  unfold Dev.telemetry
  repeat' first
    | with_reducible assumption
    | with_reducible apply sound_chans fz
    | with_reducible apply sound_snaps fz
    | with_reducible apply sound_zero fz
    | with_reducible refine (List.length_set ..).trans ?_
    | with_reducible refine (List.length_map ..).trans ?_
    | ((fail_if_no_progress extract_lets +onlyGivenNames x); first | (refine sound_cut fz x ?_ (fun _ => ?_); unfold x) | (refine hka_cut x ?_ ?_ ?_ (fun _ _ _ => ?_) <;> unfold x) | skip)
    | with_reducible apply Dev.touchTime_sound
    | with_reducible apply Dev.noteTelem_sound
    | with_reducible apply Dev.fillBank_sound
    | with_reducible apply Dev.setHka_sound
    | with_reducible apply Dev.setCal_sound
    | with_reducible apply Dev.setFld_sound
    | with_reducible apply Dev.ring_sound
    | split

theorem execTelemetryRecord_sound {s : State} {t : State}
    (hk : s.dev.Sound fz) (h : execTelemetryRecord s = .next t) : t.dev.Sound fz := by
  unfold execTelemetryRecord at h
  refine State.run_sound hk h (fun d hk => ?_)
  repeat' first
    | with_reducible assumption
    | with_reducible apply Dev.telemetry_sound

theorem execCalRun_sound {s : State} {t : State}
    (hk : s.dev.Sound fz) (h : execCalRun s = .next t) : t.dev.Sound fz := by
  unfold execCalRun at h
  refine State.run_sound hk h (fun d hk => ?_)
  repeat' first
    | with_reducible assumption
    | (fail_if_no_progress intros)
    | with_reducible apply Dev.finishOk_sound
    | with_reducible apply Dev.writeCalCmd_sound
    | with_reducible apply Dev.command_sound
    | with_reducible apply State.run_sound
    | with_reducible exact sound_mk (Dev.Sound.parts (by assumption))

theorem Dev.calAbandon_sound {d : Dev} (hk : Dev.Sound fz d) :
    Dev.Sound fz (Dev.calAbandon d) := by
  unfold Dev.calAbandon
  repeat' first
    | with_reducible assumption
    | ((fail_if_no_progress extract_lets +onlyGivenNames x); first | (refine sound_cut fz x ?_ (fun _ => ?_); unfold x) | skip)
    | with_reducible apply Dev.setCal_sound
    | with_reducible apply Dev.setFld_sound
    | with_reducible apply Dev.setItems_sound
    | split

theorem Dev.calSafe_sound {d : Dev} (hk : Dev.Sound fz d) :
    Dev.Sound fz (Dev.calSafe d) := by
  unfold Dev.calSafe
  repeat' first
    | with_reducible assumption
    | with_reducible apply Dev.setFld_sound
    | with_reducible apply Dev.calAbandon_sound
    | with_reducible exact sound_mk (Dev.Sound.parts (by assumption))
    | split

theorem Dev.nameStretch_sound {d : Dev} (hk : Dev.Sound fz d) :
    Dev.Sound fz (Dev.nameStretch d) := by
  unfold Dev.nameStretch
  repeat' first
    | with_reducible assumption
    | ((fail_if_no_progress extract_lets +onlyGivenNames x); first | (refine sound_cut fz x ?_ (fun _ => ?_); unfold x) | skip)
    | (with_reducible apply sound_foldl; intros)
    | with_reducible apply Dev.send_sound
    | with_reducible apply Dev.setFlag_sound
    | with_reducible apply Dev.setCal_sound
    | split

theorem Dev.stretchOwn_sound {d : Dev} (hk : Dev.Sound fz d) :
    Dev.Sound fz (Dev.stretchOwn d) := by
  unfold Dev.stretchOwn
  repeat' first
    | with_reducible assumption
    | ((fail_if_no_progress extract_lets +onlyGivenNames x); first | (refine sound_cut fz x ?_ (fun _ => ?_); unfold x) | skip)
    | with_reducible apply Dev.setFlag_sound
    | with_reducible apply Dev.setCal_sound
    | with_reducible exact sound_mk (Dev.Sound.parts (by assumption))
    | split

theorem Dev.calStarve_sound {d : Dev} (hk : Dev.Sound fz d) :
    Dev.Sound fz (Dev.calStarve d) := by
  unfold Dev.calStarve
  repeat' first
    | with_reducible assumption
    | ((fail_if_no_progress extract_lets +onlyGivenNames x); first | (refine sound_cut fz x ?_ (fun _ => ?_); unfold x) | skip)
    | (split <;> first | (rename_i heq; simp only [Prod.ext_iff] at heq; refine sound_eq fz heq.2 ?_ (fun _ => ?_)) | skip)
    | with_reducible apply Dev.bump_sound
    | with_reducible apply Dev.setFld_sound
    | with_reducible apply Dev.setCal_sound
    | with_reducible apply Dev.draw_sound
    | with_reducible apply Dev.ring_sound
    | with_reducible apply Dev.nameStretch_sound
    | with_reducible apply Dev.stretchOwn_sound

theorem Dev.logSummary_sound {d : Dev} (hk : Dev.Sound fz d) :
    Dev.Sound fz (Dev.logSummary d) := by
  unfold Dev.logSummary
  repeat' first
    | with_reducible assumption
    | ((fail_if_no_progress extract_lets +onlyGivenNames x); first | (refine sound_cut fz x ?_ (fun _ => ?_); unfold x) | skip)
    | (with_reducible apply sound_foldl; intros)
    | with_reducible apply Dev.touchTime_sound
    | with_reducible apply Dev.logRec_sound
    | with_reducible apply Dev.setCal_sound
    | split

theorem execLogSummary_sound {s : State} {t : State}
    (hk : s.dev.Sound fz) (h : execLogSummary s = .next t) : t.dev.Sound fz := by
  unfold execLogSummary at h
  refine State.run_sound hk h (fun d hk => ?_)
  repeat' first
    | with_reducible assumption
    | with_reducible apply Dev.logSummary_sound

theorem execTelem_sound {s : State} {t : State}
    (hk : s.dev.Sound fz) (h : execTelem s = .next t) : t.dev.Sound fz := by
  unfold execTelem at h
  refine State.run_sound hk h (fun d hk => ?_)
  repeat' first
    | with_reducible assumption
    | (fail_if_no_progress intros)
    | with_reducible apply Dev.finishOk_sound
    | with_reducible apply Dev.print_sound
    | with_reducible apply Dev.command_sound
    | with_reducible apply State.run_sound
    | with_reducible exact sound_mk (Dev.Sound.parts (by assumption))

theorem Dev.takeItems_sound {d : Dev} {ms : List (List (BitVec 16) × Bool)} (hk : Dev.Sound fz d) :
    Dev.Sound fz (Dev.takeItems d ms) := by
  unfold Dev.takeItems
  repeat' first
    | with_reducible assumption
    | (with_reducible apply sound_foldl; intros)
    | with_reducible apply Dev.takeItem_sound

theorem execCalStarved_sound {s : State} {t : State}
    (hk : s.dev.Sound fz) (h : execCalStarved s = .next t) : t.dev.Sound fz := by
  unfold execCalStarved at h
  refine State.run_sound hk h (fun d hk => ?_)
  repeat' first
    | with_reducible assumption
    | with_reducible apply Dev.calStarve_sound

theorem Dev.logHibernate_sound {d : Dev} (hk : Dev.Sound fz d) :
    Dev.Sound fz (Dev.logHibernate d) := by
  unfold Dev.logHibernate
  repeat' first
    | with_reducible assumption
    | ((fail_if_no_progress extract_lets +onlyGivenNames x); first | (refine sound_cut fz x ?_ (fun _ => ?_); unfold x) | skip)
    | with_reducible apply Dev.setCal_sound
    | with_reducible apply Dev.setFld_sound
    | with_reducible exact sound_mk (Dev.Sound.parts (by assumption))

theorem execHkaConv_sound {n : BitVec 8} {k : BitVec 8} {values : List (Word × BitVec 2)} {s : State} {t : State}
    (hk : s.dev.Sound fz) (h : execHkaConv n k values s = .next t) : t.dev.Sound fz := by
  unfold execHkaConv at h
  refine State.run_sound hk h (fun d hk => ?_)
  repeat' first
    | with_reducible assumption
    | (fail_if_no_progress intros)
    | with_reducible apply Dev.calJudge_sound
    | with_reducible apply Dev.consoleHkaConv_sound
    | with_reducible apply Dev.command_sound
    | with_reducible apply State.run_sound
    | with_reducible exact sound_mk (Dev.Sound.parts (by assumption))
    | split

theorem execConversionEnd_sound {b : Bool} {value : Word} {ovr : BitVec 2} {s : State} {t : State}
    (hk : s.dev.Sound fz) (h : execConversionEnd b value ovr s = .next t) : t.dev.Sound fz := by
  unfold execConversionEnd at h
  refine State.run_sound hk h (fun d hk => ?_)
  repeat' first
    | with_reducible assumption
    | with_reducible apply Dev.calJudge_sound
    | with_reducible apply Dev.convEnd_sound

end Sys2Proof.Machine
end

