-- ==== Sys2Proof/Laws/SoundLink.lean ====
section
/-!
SUPPORT. SoundLink.lean: that each operation and command of the Egret link and tiled surfaces keeps `Dev.Sound`.
-/

set_option maxRecDepth 4000
set_option linter.unusedTactic false
set_option linter.unreachableTactic false
set_option linter.unusedVariables false

namespace Sys2Proof.Machine

variable {fz : Fuses}

theorem Dev.noteInflight_sound {d : Dev} {p : Nat} (hk : Dev.Sound fz d) :
    Dev.Sound fz (Dev.noteInflight d p) := by
  unfold Dev.noteInflight
  repeat' first
    | with_reducible assumption
    | ((fail_if_no_progress extract_lets +onlyGivenNames x); first | (refine sound_cut fz x ?_ (fun _ => ?_); unfold x) | skip)
    | with_reducible apply Dev.setFld_sound

theorem Dev.setLink_sound {d : Dev} {l : Link} (hk : Dev.Sound fz d) (hl : l.ports.length = 4) :
    Dev.Sound fz (Dev.setLink d l) :=
  sound_mk ⟨hk.1, hk.2.1, hk.2.2.1, hk.2.2.2.1, hk.2.2.2.2.1, hl, hk.2.2.2.2.2.2⟩

theorem Dev.setPort_sound {d : Dev} {p : Nat} {v : Port} (hk : Dev.Sound fz d) :
    Dev.Sound fz (Dev.setPort d p v) := by
  unfold Dev.setPort
  repeat' first
    | with_reducible assumption
    | with_reducible apply sound_ports fz
    | with_reducible refine (List.length_set ..).trans ?_
    | with_reducible refine (List.length_map ..).trans ?_
    | ((fail_if_no_progress extract_lets +onlyGivenNames x); first | (refine sound_cut fz x ?_ (fun _ => ?_); unfold x) | (refine link_cut x ?_ (fun _ => ?_); unfold x) | skip)
    | with_reducible apply Dev.setLink_sound

theorem Dev.injectFault_sound {d : Dev} {i : Nat} {beacon : Bool} (hk : Dev.Sound fz d) :
    Dev.Sound fz (Dev.injectFault d i beacon).2 := by
  unfold Dev.injectFault
  repeat' first
    | with_reducible assumption
    | with_reducible apply sound_ports fz
    | with_reducible refine (List.length_set ..).trans ?_
    | with_reducible refine (List.length_map ..).trans ?_
    | ((fail_if_no_progress extract_lets +onlyGivenNames x); first | (refine sound_cut fz x ?_ (fun _ => ?_); unfold x) | (refine link_cut x ?_ (fun _ => ?_); unfold x) | skip)
    | (split <;> first | (rename_i heq; simp only [Prod.ext_iff] at heq; refine sound_eq fz heq.2 ?_ (fun _ => ?_)) | skip)
    | with_reducible apply Dev.setLink_sound
    | with_reducible apply Dev.bump_sound

theorem Dev.countSent_sound {d : Dev} {p : Nat} {n : Nat} (hk : Dev.Sound fz d) :
    Dev.Sound fz (Dev.countSent d p n) := by
  unfold Dev.countSent
  repeat' first
    | with_reducible assumption
    | with_reducible apply Dev.bumpBy_sound

theorem Dev.unhold_sound {d : Dev} {i : Nat} (hk : Dev.Sound fz d) :
    Dev.Sound fz (Dev.unhold d i) := by
  unfold Dev.unhold
  exact Dev.setLink_sound hk (sound_ports fz hk)

theorem Dev.putWire_sound {d : Dev} {p : Nat} {syms : List Sym} (hk : Dev.Sound fz d) :
    Dev.Sound fz (Dev.putWire d p syms) := by
  unfold Dev.putWire
  repeat' first
    | with_reducible assumption
    | ((fail_if_no_progress extract_lets +onlyGivenNames x); first | (refine sound_cut fz x ?_ (fun _ => ?_); unfold x) | skip)
    | (split <;> first | (rename_i heq; simp only [Prod.ext_iff] at heq; first | refine sound_eq fz heq.2 ?_ (fun _ => ?_) | refine sound_eq fz heq.2.2 ?_ (fun _ => ?_) | refine sound_eq fz heq.2.2.2 ?_ (fun _ => ?_)) | skip)
    | with_reducible apply Dev.draw_sound
    | with_reducible apply Dev.setPort_sound
    | with_reducible exact sound_mk (Dev.Sound.parts (by assumption))

theorem Dev.putFrame_sound {d : Dev} {p : Nat} {seq : Option Nat} {flip : Option Nat} {pk : Packet} (hk : Dev.Sound fz d) :
    Dev.Sound fz (Dev.putFrame d p seq flip pk) := by
  unfold Dev.putFrame
  repeat' first
    | with_reducible assumption
    | with_reducible apply Dev.countSent_sound
    | with_reducible apply Dev.putWire_sound
    | with_reducible exact sound_mk (Dev.Sound.parts (by assumption))

theorem Dev.transmit_sound {d : Dev} {p : Nat} {seq : Nat} {pk : Packet} (hk : Dev.Sound fz d) :
    Dev.Sound fz (Dev.transmit d p seq pk) := by
  unfold Dev.transmit
  repeat' first
    | with_reducible assumption
    | (split <;> first | (rename_i heq; simp only [Prod.ext_iff] at heq; first | refine sound_eq fz heq.2 ?_ (fun _ => ?_) | refine sound_eq fz heq.2.2 ?_ (fun _ => ?_) | refine sound_eq fz heq.2.2.2 ?_ (fun _ => ?_)) | skip)
    | with_reducible apply sound_ports fz
    | with_reducible refine (List.length_set ..).trans ?_
    | with_reducible refine (List.length_map ..).trans ?_
    | ((fail_if_no_progress extract_lets +onlyGivenNames x); first | (refine sound_cut fz x ?_ (fun _ => ?_); unfold x) | (refine link_cut x ?_ (fun _ => ?_); unfold x) | clear_value x)
    | (split <;> first | (rename_i heq; simp only [Prod.ext_iff] at heq; refine sound_eq fz heq.2 ?_ (fun _ => ?_)) | skip)
    | with_reducible apply Dev.injectFault_sound
    | with_reducible apply Dev.countSent_sound
    | with_reducible apply Dev.bump_sound
    | with_reducible apply Dev.setLink_sound
    | with_reducible apply Dev.putFrame_sound
    | with_reducible apply Dev.unhold_sound
    | with_reducible exact sound_mk (Dev.Sound.parts (by assumption))
    | split

theorem Dev.pump_sound {d : Dev} {p : Nat} {z1 : Nat} (hk : Dev.Sound fz d) :
    Dev.Sound fz (Dev.pump d p z1) := by
  induction z1 generalizing d p with
  | zero =>
    unfold Dev.pump
    repeat' first
      | with_reducible assumption
      | ((fail_if_no_progress extract_lets +onlyGivenNames x); first | (refine sound_cut fz x ?_ (fun _ => ?_); unfold x) | clear_value x)
      | with_reducible apply Dev.setPort_sound
      | with_reducible apply Dev.transmit_sound
      | split
  | succ _ ih =>
    unfold Dev.pump
    repeat' first
      | with_reducible assumption
      | with_reducible apply ih
      | ((fail_if_no_progress extract_lets +onlyGivenNames x); first | (refine sound_cut fz x ?_ (fun _ => ?_); unfold x) | clear_value x)
      | with_reducible apply Dev.setPort_sound
      | with_reducible apply Dev.transmit_sound
      | split

theorem Dev.flush_sound {d : Dev} {p : Nat} (hk : Dev.Sound fz d) :
    Dev.Sound fz (Dev.flush d p) := by
  unfold Dev.flush
  repeat' first
    | with_reducible assumption
    | with_reducible apply Dev.noteInflight_sound
    | with_reducible apply Dev.pump_sound

theorem Dev.enqueue_sound {d : Dev} {via : Nat} {p : Nat} {pk : Packet} (hk : Dev.Sound fz d) :
    Dev.Sound fz (Dev.enqueue d via p pk) := by
  unfold Dev.enqueue
  repeat' first
    | with_reducible assumption
    | ((fail_if_no_progress extract_lets +onlyGivenNames x); first | (refine sound_cut fz x ?_ (fun _ => ?_); unfold x) | skip)
    | with_reducible apply Dev.flush_sound
    | with_reducible apply Dev.setPort_sound

theorem Dev.clearFlows_sound {d : Dev} {xy : Nat} (hk : Dev.Sound fz d) :
    Dev.Sound fz (Dev.clearFlows d xy) := by
  unfold Dev.clearFlows
  repeat' first
    | with_reducible assumption
    | with_reducible apply sound_ports fz
    | with_reducible refine (List.length_set ..).trans ?_
    | with_reducible refine (List.length_map ..).trans ?_
    | ((fail_if_no_progress extract_lets +onlyGivenNames x); first | (refine sound_cut fz x ?_ (fun _ => ?_); unfold x) | (refine link_cut x ?_ (fun _ => ?_); unfold x) | skip)
    | with_reducible apply Dev.setLink_sound

theorem Dev.drainHold_sound {d : Dev} {key : Nat} {z1 : Nat} (hk : Dev.Sound fz d) :
    Dev.Sound fz (Dev.drainHold d key z1) := by
  induction z1 generalizing d key with
  | zero =>
    unfold Dev.drainHold
    repeat' first
      | with_reducible assumption
      | with_reducible apply sound_ports fz
      | with_reducible refine (List.length_set ..).trans ?_
      | with_reducible refine (List.length_map ..).trans ?_
      | ((fail_if_no_progress extract_lets +onlyGivenNames x); first | (refine sound_cut fz x ?_ (fun _ => ?_); unfold x) | (refine link_cut x ?_ (fun _ => ?_); unfold x) | clear_value x)
      | with_reducible apply Dev.setLink_sound
      | split
  | succ _ ih =>
    unfold Dev.drainHold
    repeat' first
      | with_reducible assumption
      | with_reducible apply sound_ports fz
      | with_reducible refine (List.length_set ..).trans ?_
      | with_reducible refine (List.length_map ..).trans ?_
      | with_reducible apply ih
      | ((fail_if_no_progress extract_lets +onlyGivenNames x); first | (refine sound_cut fz x ?_ (fun _ => ?_); unfold x) | (refine link_cut x ?_ (fun _ => ?_); unfold x) | clear_value x)
      | with_reducible apply Dev.setLink_sound
      | split

theorem Dev.skipGap_sound {d : Dev} {key : Nat} (hk : Dev.Sound fz d) :
    Dev.Sound fz (Dev.skipGap d key) := by
  unfold Dev.skipGap
  repeat' first
    | with_reducible assumption
    | with_reducible apply sound_ports fz
    | with_reducible refine (List.length_set ..).trans ?_
    | with_reducible refine (List.length_map ..).trans ?_
    | ((fail_if_no_progress extract_lets +onlyGivenNames x); first | (refine sound_cut fz x ?_ (fun _ => ?_); unfold x) | (refine link_cut x ?_ (fun _ => ?_); unfold x) | clear_value x)
    | (with_reducible apply sound_foldl; intros)
    | with_reducible apply Dev.bump_sound
    | with_reducible apply Dev.setLink_sound
    | with_reducible apply Dev.drainHold_sound
    | split

theorem Dev.arrive_sound {d : Dev} {via : Nat} {pk : Packet} (hk : Dev.Sound fz d) :
    Dev.Sound fz (Dev.arrive d via pk) := by
  unfold Dev.arrive
  repeat' first
    | with_reducible assumption
    | with_reducible apply sound_ports fz
    | with_reducible refine (List.length_set ..).trans ?_
    | with_reducible refine (List.length_map ..).trans ?_
    | ((fail_if_no_progress extract_lets +onlyGivenNames x); first | (refine sound_cut fz x ?_ (fun _ => ?_); unfold x) | (refine link_cut x ?_ (fun _ => ?_); unfold x) | skip)
    | with_reducible apply Dev.clearFlows_sound
    | with_reducible apply Dev.setLink_sound
    | with_reducible apply Dev.drainHold_sound
    | with_reducible apply Dev.skipGap_sound
    | with_reducible apply Dev.bump_sound
    | split

theorem Dev.unroutable_sound {d : Dev} {pk : Packet} (hk : Dev.Sound fz d) :
    Dev.Sound fz (Dev.unroutable d pk) := by
  unfold Dev.unroutable
  repeat' first
    | with_reducible assumption
    | with_reducible apply sound_ports fz
    | with_reducible refine (List.length_set ..).trans ?_
    | with_reducible refine (List.length_map ..).trans ?_
    | ((fail_if_no_progress extract_lets +onlyGivenNames x); first | (refine sound_cut fz x ?_ (fun _ => ?_); unfold x) | (refine link_cut x ?_ (fun _ => ?_); unfold x) | skip)
    | with_reducible apply Dev.setLink_sound
    | with_reducible apply Dev.bump_sound
    | with_reducible apply Dev.ring_sound
    | split

theorem Dev.routePacket_sound {d : Dev} {via : Nat} {pk : Packet} (hk : Dev.Sound fz d) :
    Dev.Sound fz (Dev.routePacket d via pk) := by
  unfold Dev.routePacket
  repeat' first
    | with_reducible assumption
    | with_reducible apply Dev.unroutable_sound
    | with_reducible apply Dev.enqueue_sound
    | with_reducible apply Dev.bump_sound
    | split

theorem Dev.launch_sound {d : Dev} {pk : Packet} (hk : Dev.Sound fz d) :
    Dev.Sound fz (Dev.launch d pk) := by
  unfold Dev.launch
  repeat' first
    | with_reducible assumption
    | with_reducible apply sound_ports fz
    | with_reducible refine (List.length_set ..).trans ?_
    | with_reducible refine (List.length_map ..).trans ?_
    | ((fail_if_no_progress extract_lets +onlyGivenNames x); first | (refine sound_cut fz x ?_ (fun _ => ?_); unfold x) | (refine link_cut x ?_ (fun _ => ?_); unfold x) | skip)
    | with_reducible apply Dev.setLink_sound
    | with_reducible apply Dev.arrive_sound
    | with_reducible apply Dev.routePacket_sound
    | split

theorem Dev.newOp_sound {d : Dev} {requester : Nat} {type : Nat} {dest : Nat} {payload : List Word} (hk : Dev.Sound
    fz d) :
    Dev.Sound fz (Dev.newOp d requester type dest payload) := by
  unfold Dev.newOp
  repeat' first
    | with_reducible assumption
    | with_reducible apply sound_ports fz
    | with_reducible refine (List.length_set ..).trans ?_
    | with_reducible refine (List.length_map ..).trans ?_
    | ((fail_if_no_progress extract_lets +onlyGivenNames x); first | (refine sound_cut fz x ?_ (fun _ => ?_); unfold x) | (refine link_cut x ?_ (fun _ => ?_); unfold x) | skip)
    | with_reducible apply Dev.setLink_sound

theorem Dev.takeMsg_sound {d : Dev} {m : Msg} (hk : Dev.Sound fz d) :
    Dev.Sound fz (Dev.takeMsg d m) := by
  unfold Dev.takeMsg
  repeat' first
    | with_reducible assumption
    | ((fail_if_no_progress extract_lets +onlyGivenNames x); first | (refine sound_cut fz x ?_ (fun _ => ?_); unfold x) | skip)
    | (with_reducible apply sound_foldl; intros)
    | with_reducible apply Dev.enqueue_sound
    | with_reducible apply Dev.launch_sound
    | with_reducible apply Dev.newOp_sound
    | split

theorem Dev.setPortState_sound {d : Dev} {p : Nat} {st : Nat} (hk : Dev.Sound fz d) :
    Dev.Sound fz (Dev.setPortState d p st) := by
  unfold Dev.setPortState
  repeat' first
    | with_reducible assumption
    | ((fail_if_no_progress extract_lets +onlyGivenNames x); first | (refine sound_cut fz x ?_ (fun _ => ?_); unfold x) | skip)
    | (with_reducible apply sound_foldl; intros)
    | with_reducible apply Dev.setFld_sound
    | split

theorem Dev.noteTags_sound {d : Dev} (hk : Dev.Sound fz d) :
    Dev.Sound fz (Dev.noteTags d) := by
  unfold Dev.noteTags
  repeat' first
    | with_reducible assumption
    | ((fail_if_no_progress extract_lets +onlyGivenNames x); first | (refine sound_cut fz x ?_ (fun _ => ?_); unfold x) | skip)
    | (with_reducible apply sound_foldl; intros)
    | with_reducible apply Dev.noteInflight_sound
    | with_reducible apply Dev.setFld_sound

theorem Dev.setOp_sound {d : Dev} {i : Nat} {o : Operation} (hk : Dev.Sound fz d) :
    Dev.Sound fz (Dev.setOp d i o) := by
  unfold Dev.setOp
  repeat' first
    | with_reducible assumption
    | with_reducible apply sound_ports fz
    | with_reducible refine (List.length_set ..).trans ?_
    | with_reducible refine (List.length_map ..).trans ?_
    | ((fail_if_no_progress extract_lets +onlyGivenNames x); first | (refine sound_cut fz x ?_ (fun _ => ?_); unfold x) | (refine link_cut x ?_ (fun _ => ?_); unfold x) | skip)
    | with_reducible apply Dev.setLink_sound

theorem Dev.issueOne_sound {d : Dev} {i : Nat} (hk : Dev.Sound fz d) :
    Dev.Sound fz (Dev.issueOne d i) := by
  unfold Dev.issueOne
  repeat' first
    | with_reducible assumption
    | ((fail_if_no_progress extract_lets +onlyGivenNames x); first | (refine sound_cut fz x ?_ (fun _ => ?_); unfold x) | skip)
    | with_reducible apply Dev.launch_sound
    | with_reducible apply Dev.setOp_sound
    | with_reducible apply Dev.bump_sound
    | split

theorem Dev.issueOps_sound {d : Dev} (hk : Dev.Sound fz d) :
    Dev.Sound fz (Dev.issueOps d) := by
  unfold Dev.issueOps
  repeat' first
    | with_reducible assumption
    | ((fail_if_no_progress extract_lets +onlyGivenNames x); first | (refine sound_cut fz x ?_ (fun _ => ?_); unfold x) | skip)
    | (with_reducible apply sound_foldl; intros)
    | with_reducible apply Dev.takeMsg_sound
    | with_reducible apply Dev.noteTags_sound
    | with_reducible apply Dev.issueOne_sound
    | with_reducible exact sound_mk (Dev.Sound.parts (by assumption))

theorem Dev.emptyPort_sound {d : Dev} {p : Nat} (hk : Dev.Sound fz d) :
    Dev.Sound fz (Dev.emptyPort d p) := by
  unfold Dev.emptyPort
  repeat' first
    | with_reducible assumption
    | (with_reducible apply sound_foldl_snd; intros)
    | ((fail_if_no_progress extract_lets +onlyGivenNames x); first | (refine sound_cut fz x ?_ (fun _ => ?_); unfold x) | skip)
    | (with_reducible apply sound_foldl; intros)
    | with_reducible apply Dev.setPort_sound
    | with_reducible apply Dev.setFld_sound
    | with_reducible apply Dev.routePacket_sound
    | with_reducible apply Dev.noteInflight_sound
    | with_reducible apply Dev.unhold_sound
    | with_reducible exact sound_mk (Dev.Sound.parts (by assumption))
    | split

theorem Dev.portDown_sound {d : Dev} {p : Nat} {reason : Nat} (hk : Dev.Sound fz d) :
    Dev.Sound fz (Dev.portDown d p reason) := by
  unfold Dev.portDown
  repeat' first
    | with_reducible assumption
    | ((fail_if_no_progress extract_lets +onlyGivenNames x); first | (refine sound_cut fz x ?_ (fun _ => ?_); unfold x) | skip)
    | with_reducible apply Dev.bump_sound
    | with_reducible apply Dev.setFld_sound
    | with_reducible apply Dev.setPortState_sound
    | with_reducible apply Dev.emptyPort_sound
    | with_reducible apply Dev.setPort_sound
    | with_reducible apply Dev.ring_sound
    | split

theorem Dev.portTrain_sound {d : Dev} {p : Nat} (hk : Dev.Sound fz d) :
    Dev.Sound fz (Dev.portTrain d p) := by
  unfold Dev.portTrain
  repeat' first
    | with_reducible assumption
    | ((fail_if_no_progress extract_lets +onlyGivenNames x); first | (refine sound_cut fz x ?_ (fun _ => ?_); unfold x) | skip)
    | with_reducible apply Dev.setPort_sound
    | with_reducible apply Dev.setPortState_sound

theorem Dev.disableDown_sound {d : Dev} {p : Nat} (hk : Dev.Sound fz d) :
    Dev.Sound fz (Dev.disableDown d p) := by
  unfold Dev.disableDown
  repeat' first
    | with_reducible assumption
    | with_reducible apply Dev.setPortState_sound
    | with_reducible exact sound_mk (Dev.Sound.parts (by assumption))
    | split

theorem Dev.writePctl_sound {d : Dev} {value : Word} (hk : Dev.Sound fz d) :
    Dev.Sound fz (Dev.writePctl d value) := by
  unfold Dev.writePctl
  repeat' first
    | with_reducible assumption
    | (with_reducible apply sound_foldl_snd; intros)
    | ((fail_if_no_progress extract_lets +onlyGivenNames x); first | (refine sound_cut fz x ?_ (fun _ => ?_); unfold x) | skip)
    | (with_reducible apply sound_foldl; intros)
    | with_reducible apply Dev.ignoreWrite_sound
    | with_reducible apply Dev.setFld_sound
    | with_reducible apply Dev.setPortState_sound
    | with_reducible apply Dev.portDown_sound
    | with_reducible apply Dev.portTrain_sound
    | with_reducible apply Dev.setPort_sound
    | with_reducible apply Dev.disableDown_sound
    | with_reducible exact sound_mk (Dev.Sound.parts (by assumption))
    | split

theorem execPortDisable_sound {value : Word} {s : State} {t : State}
    (hk : s.dev.Sound fz) (h : execPortDisable value s = .next t) : t.dev.Sound fz := by
  unfold execPortDisable at h
  refine State.run_sound hk h (fun d hk => ?_)
  repeat' first
    | with_reducible assumption
    | with_reducible apply Dev.writePctl_sound

theorem Dev.passDone_sound {d : Dev} {z1 : Nat} (hk : Dev.Sound fz d) :
    Dev.Sound fz (Dev.passDone d z1) := by
  induction z1 generalizing d with
  | zero =>
    unfold Dev.passDone
    repeat' first
      | with_reducible assumption
      | with_reducible apply sound_ports fz
      | with_reducible refine (List.length_set ..).trans ?_
      | with_reducible refine (List.length_map ..).trans ?_
      | ((fail_if_no_progress extract_lets +onlyGivenNames x); first | (refine sound_cut fz x ?_ (fun _ => ?_); unfold x) | (refine link_cut x ?_ (fun _ => ?_); unfold x) | clear_value x)
      | with_reducible apply Dev.setLink_sound
      | split
  | succ _ ih =>
    unfold Dev.passDone
    repeat' first
      | with_reducible assumption
      | with_reducible apply sound_ports fz
      | with_reducible refine (List.length_set ..).trans ?_
      | with_reducible refine (List.length_map ..).trans ?_
      | with_reducible apply ih
      | ((fail_if_no_progress extract_lets +onlyGivenNames x); first | (refine sound_cut fz x ?_ (fun _ => ?_); unfold x) | (refine link_cut x ?_ (fun _ => ?_); unfold x) | clear_value x)
      | with_reducible apply Dev.setLink_sound
      | split

theorem Dev.sendPlain_sound {d : Dev} {p : Nat} {type : Nat} {flip : Option Nat} {payload : List Word} (hk : Dev.Sound fz d) :
    Dev.Sound fz (Dev.sendPlain d p type flip payload) := by
  unfold Dev.sendPlain
  repeat' first
    | with_reducible assumption
    | with_reducible apply Dev.putFrame_sound
    | with_reducible apply Dev.setPort_sound
    | with_reducible exact sound_mk (Dev.Sound.parts (by assumption))

theorem Dev.packetAged_sound {d : Dev} {p : Nat} (hk : Dev.Sound fz d) :
    Dev.Sound fz (Dev.packetAged d p) := by
  unfold Dev.packetAged
  repeat' first
    | with_reducible assumption
    | ((fail_if_no_progress extract_lets +onlyGivenNames x); first | (refine sound_cut fz x ?_ (fun _ => ?_); unfold x) | skip)
    | with_reducible apply Dev.noteInflight_sound
    | with_reducible apply Dev.bump_sound
    | with_reducible apply Dev.setPort_sound
    | split

theorem Dev.delayRecal_sound {d : Dev} {p : Nat} (hk : Dev.Sound fz d) :
    Dev.Sound fz (Dev.delayRecal d p) := by
  unfold Dev.delayRecal
  repeat' first
    | with_reducible assumption
    | with_reducible apply Dev.sendPlain_sound
    | with_reducible apply Dev.setPort_sound
    | with_reducible exact sound_mk (Dev.Sound.parts (by assumption))
    | split

theorem execSignalLoss_sound {port : BitVec 2} {s : State} {t : State}
    (hk : s.dev.Sound fz) (h : execSignalLoss port s = .next t) : t.dev.Sound fz := by
  unfold execSignalLoss at h
  refine State.run_sound hk h (fun d hk => ?_)
  repeat' first
    | with_reducible assumption
    | ((fail_if_no_progress extract_lets +onlyGivenNames x); first | (refine sound_cut fz x ?_ (fun _ => ?_); unfold x) | skip)
    | with_reducible apply Dev.setFlag_sound
    | with_reducible apply Dev.portDown_sound
    | split

theorem Dev.consoleRetrain_sound {d : Dev} {p : Nat} (hk : Dev.Sound fz d) :
    Dev.Sound fz (Dev.consoleRetrain d p) := by
  unfold Dev.consoleRetrain
  repeat' first
    | with_reducible assumption
    | with_reducible apply Dev.finishErr_sound
    | with_reducible apply Dev.finishOk_sound
    | with_reducible apply Dev.writePctl_sound
    | split

theorem execEglRetrain_sound {p : BitVec 8} {s : State} {t : State}
    (hk : s.dev.Sound fz) (h : execEglRetrain p s = .next t) : t.dev.Sound fz := by
  unfold execEglRetrain at h
  refine State.run_sound hk h (fun d hk => ?_)
  repeat' first
    | with_reducible assumption
    | (fail_if_no_progress intros)
    | with_reducible apply Dev.consoleRetrain_sound
    | with_reducible apply Dev.command_sound
    | with_reducible apply State.run_sound
    | with_reducible exact sound_mk (Dev.Sound.parts (by assumption))

theorem Dev.portsWatch_sound {d : Dev} (hk : Dev.Sound fz d) :
    Dev.Sound fz (Dev.portsWatch d) := by
  unfold Dev.portsWatch
  repeat' first
    | with_reducible assumption
    | ((fail_if_no_progress extract_lets +onlyGivenNames x); first | (refine sound_cut fz x ?_ (fun _ => ?_); unfold x) | skip)
    | (with_reducible apply sound_foldl; intros)
    | with_reducible apply Dev.setPort_sound
    | with_reducible apply Dev.setPortState_sound
    | with_reducible apply Dev.emptyPort_sound
    | split

theorem Dev.signalDetect_sound {d : Dev} {p : Nat} (hk : Dev.Sound fz d) :
    Dev.Sound fz (Dev.signalDetect d p) := by
  unfold Dev.signalDetect
  repeat' first
    | with_reducible assumption
    | ((fail_if_no_progress extract_lets +onlyGivenNames x); first | (refine sound_cut fz x ?_ (fun _ => ?_); unfold x) | skip)
    | with_reducible apply Dev.setFlag_sound
    | with_reducible apply Dev.setPort_sound
    | with_reducible apply Dev.setPortState_sound
    | split

theorem Dev.retrainDelay_sound {d : Dev} {p : Nat} (hk : Dev.Sound fz d) :
    Dev.Sound fz (Dev.retrainDelay d p) := by
  unfold Dev.retrainDelay
  repeat' first
    | with_reducible assumption
    | ((fail_if_no_progress extract_lets +onlyGivenNames x); first | (refine sound_cut fz x ?_ (fun _ => ?_); unfold x) | skip)
    | with_reducible apply Dev.portTrain_sound
    | with_reducible apply Dev.signalDetect_sound
    | split

theorem Dev.commaAligned_sound {d : Dev} {p : Nat} (hk : Dev.Sound fz d) :
    Dev.Sound fz (Dev.commaAligned d p) := by
  unfold Dev.commaAligned
  repeat' first
    | with_reducible assumption
    | with_reducible apply Dev.sendPlain_sound
    | with_reducible apply Dev.setPort_sound
    | with_reducible exact sound_mk (Dev.Sound.parts (by assumption))
    | split

theorem Dev.sendNak_sound {d : Dev} {p : Nat} (hk : Dev.Sound fz d) :
    Dev.Sound fz (Dev.sendNak d p) := by
  unfold Dev.sendNak
  repeat' first
    | with_reducible assumption
    | with_reducible apply Dev.putWire_sound
    | with_reducible exact sound_mk (Dev.Sound.parts (by assumption))

theorem Dev.noteGap_sound {d : Dev} {p : Nat} (hk : Dev.Sound fz d) :
    Dev.Sound fz (Dev.noteGap d p) := by
  unfold Dev.noteGap
  repeat' first
    | with_reducible assumption
    | ((fail_if_no_progress extract_lets +onlyGivenNames x); first | (refine sound_cut fz x ?_ (fun _ => ?_); unfold x) | skip)
    | with_reducible apply Dev.setPort_sound
    | with_reducible apply Dev.sendNak_sound
    | with_reducible exact sound_mk (Dev.Sound.parts (by assumption))
    | split

theorem Dev.acceptPacket_sound {d : Dev} {p : Nat} {pk : Packet} (hk : Dev.Sound fz d) :
    Dev.Sound fz (Dev.acceptPacket d p pk) := by
  unfold Dev.acceptPacket
  repeat' first
    | with_reducible assumption
    | with_reducible apply sound_ports fz
    | with_reducible refine (List.length_set ..).trans ?_
    | with_reducible refine (List.length_map ..).trans ?_
    | ((fail_if_no_progress extract_lets +onlyGivenNames x); first | (refine sound_cut fz x ?_ (fun _ => ?_); unfold x) | (refine link_cut x ?_ (fun _ => ?_); unfold x) | skip)
    | with_reducible apply Dev.bump_sound
    | with_reducible apply Dev.setLink_sound
    | with_reducible apply Dev.routePacket_sound
    | with_reducible apply Dev.arrive_sound
    | with_reducible apply Dev.send_sound
    | with_reducible apply Dev.clearFlows_sound
    | split

theorem Dev.sendAck_sound {d : Dev} {p : Nat} (hk : Dev.Sound fz d) :
    Dev.Sound fz (Dev.sendAck d p) := by
  unfold Dev.sendAck
  repeat' first
    | with_reducible assumption
    | with_reducible apply Dev.putWire_sound
    | with_reducible exact sound_mk (Dev.Sound.parts (by assumption))

theorem Dev.takeFrame_sound {d : Dev} {p : Nat} {seq : Nat} {crcOk : Bool} {pk : Packet} (hk : Dev.Sound fz d) :
    Dev.Sound fz (Dev.takeFrame d p seq crcOk pk) := by
  unfold Dev.takeFrame
  repeat' first
    | with_reducible assumption
    | ((fail_if_no_progress extract_lets +onlyGivenNames x); first | (refine sound_cut fz x ?_ (fun _ => ?_); unfold x) | clear_value x)
    | with_reducible apply Dev.noteGap_sound
    | with_reducible apply Dev.bump_sound
    | with_reducible apply Dev.acceptPacket_sound
    | with_reducible apply Dev.setPort_sound
    | with_reducible apply Dev.sendAck_sound
    | with_reducible exact sound_mk (Dev.Sound.parts (by assumption))
    | split

theorem Dev.reorderRelease_sound {d : Dev} {i : Nat} (hk : Dev.Sound fz d) :
    Dev.Sound fz (Dev.reorderRelease d i) := by
  unfold Dev.reorderRelease
  repeat' first
    | with_reducible assumption
    | with_reducible apply sound_ports fz
    | with_reducible refine (List.length_set ..).trans ?_
    | with_reducible refine (List.length_map ..).trans ?_
    | ((fail_if_no_progress extract_lets +onlyGivenNames x); first | (refine sound_cut fz x ?_ (fun _ => ?_); unfold x) | (refine link_cut x ?_ (fun _ => ?_); unfold x) | skip)
    | with_reducible apply Dev.setLink_sound
    | with_reducible apply Dev.countSent_sound
    | with_reducible apply Dev.takeFrame_sound
    | with_reducible apply Dev.putFrame_sound
    | with_reducible apply Dev.unhold_sound
    | with_reducible exact sound_mk (Dev.Sound.parts (by assumption))
    | split

theorem Dev.abandonOps_sound {d : Dev} {requester : Nat} (hk : Dev.Sound fz d) :
    Dev.Sound fz (Dev.abandonOps d requester) := by
  unfold Dev.abandonOps
  repeat' first
    | with_reducible assumption
    | with_reducible apply sound_ports fz
    | with_reducible refine (List.length_set ..).trans ?_
    | with_reducible refine (List.length_map ..).trans ?_
    | ((fail_if_no_progress extract_lets +onlyGivenNames x); first | (refine sound_cut fz x ?_ (fun _ => ?_); unfold x) | (refine link_cut x ?_ (fun _ => ?_); unfold x) | skip)
    | with_reducible apply Dev.setLink_sound
    | with_reducible apply Dev.noteTags_sound

theorem Dev.delayReq_sound {d : Dev} {p : Nat} {w : Word} {turnaround : Word} (hk : Dev.Sound fz d) :
    Dev.Sound fz (Dev.delayReq d p w turnaround) := by
  unfold Dev.delayReq
  repeat' first
    | with_reducible assumption
    | with_reducible apply Dev.sendPlain_sound
    | with_reducible exact sound_mk (Dev.Sound.parts (by assumption))
    | split

theorem execDelayReq_sound {port : BitVec 2} {w : Word} {turnaround : Word} {s : State} {t : State}
    (hk : s.dev.Sound fz) (h : execDelayReq port w turnaround s = .next t) : t.dev.Sound fz := by
  unfold execDelayReq at h
  refine State.run_sound hk h (fun d hk => ?_)
  repeat' first
    | with_reducible assumption
    | with_reducible apply Dev.delayReq_sound

theorem Dev.beaconTime_sound {d : Dev} {time : Nat} {path : Nat} {epoch : Nat} {step : Bool} (hk : Dev.Sound fz d) :
    Dev.Sound fz (Dev.beaconTime d time path epoch step) := by
  unfold Dev.beaconTime
  repeat' first
    | with_reducible assumption
    | ((fail_if_no_progress extract_lets +onlyGivenNames x); first | (refine sound_cut fz x ?_ (fun _ => ?_); unfold x) | skip)
    | with_reducible apply Dev.touchTime_sound
    | with_reducible apply Dev.setReg_sound
    | with_reducible apply Dev.ring_sound
    | with_reducible apply Dev.setFlag_sound
    | with_reducible apply Dev.bump_sound
    | with_reducible exact sound_mk (Dev.Sound.parts (by assumption))
    | split

theorem execCommaAlignment_sound {port : BitVec 2} {s : State} {t : State}
    (hk : s.dev.Sound fz) (h : execCommaAlignment port s = .next t) : t.dev.Sound fz := by
  unfold execCommaAlignment at h
  refine State.run_sound hk h (fun d hk => ?_)
  repeat' first
    | with_reducible assumption
    | with_reducible apply Dev.commaAligned_sound

theorem Dev.opStarved_sound {d : Dev} (hk : Dev.Sound fz d) :
    Dev.Sound fz (Dev.opStarved d) := by
  unfold Dev.opStarved
  repeat' first
    | with_reducible assumption
    | ((fail_if_no_progress extract_lets +onlyGivenNames x); first | (refine sound_cut fz x ?_ (fun _ => ?_); unfold x) | skip)
    | with_reducible apply Dev.ring_sound
    | with_reducible apply Dev.bump_sound
    | with_reducible apply Dev.setOp_sound
    | split

theorem Dev.putBeacon_sound {d : Dev} {q : Nat} {ws : List Word} (hk : Dev.Sound fz d) :
    Dev.Sound fz (Dev.putBeacon d q ws) := by
  unfold Dev.putBeacon
  repeat' first
    | with_reducible assumption
    | ((fail_if_no_progress extract_lets +onlyGivenNames x); first | (refine sound_cut fz x ?_ (fun _ => ?_); unfold x) | skip)
    | (split <;> first | (rename_i heq; simp only [Prod.ext_iff] at heq; first | refine sound_eq fz heq.2 ?_ (fun _ => ?_) | refine sound_eq fz heq.2.2 ?_ (fun _ => ?_) | refine sound_eq fz heq.2.2.2 ?_ (fun _ => ?_)) | skip)
    | with_reducible apply Dev.injectFault_sound
    | with_reducible apply Dev.putFrame_sound
    | with_reducible apply Dev.setPort_sound
    | with_reducible exact sound_mk (Dev.Sound.parts (by assumption))
    | split

theorem Dev.sendBeacons_sound {d : Dev} {n : Nat} {sec : Nat} {frac : Nat} {watch : Bool} (hk : Dev.Sound fz d) :
    Dev.Sound fz (Dev.sendBeacons d n sec frac watch) := by
  unfold Dev.sendBeacons
  repeat' first
    | with_reducible assumption
    | (split <;> first | (rename_i heq; simp only [Prod.ext_iff] at heq; first | refine sound_eq fz heq.2 ?_ (fun _ => ?_) | refine sound_eq fz heq.2.2 ?_ (fun _ => ?_) | refine sound_eq fz heq.2.2.2 ?_ (fun _ => ?_)) | skip)
    | ((fail_if_no_progress extract_lets +onlyGivenNames x); first | (refine sound_cut fz x ?_ (fun _ => ?_); unfold x) | skip)
    | (with_reducible apply sound_foldl; intros)
    | (with_reducible apply sound_foldl_snd; intros)
    | (split <;> first | (rename_i heq; simp only [Prod.ext_iff] at heq; refine sound_eq fz heq.2 ?_ (fun _ => ?_)) | skip)
    | with_reducible apply Dev.injectFault_sound
    | with_reducible apply Dev.setPort_sound
    | with_reducible apply Dev.countSent_sound
    | with_reducible apply Dev.draw_sound
    | with_reducible apply Dev.putBeacon_sound
    | with_reducible exact sound_mk (Dev.Sound.parts (by assumption))
    | split

theorem execRetrain_sound {value : Word} {s : State} {t : State}
    (hk : s.dev.Sound fz) (h : execRetrain value s = .next t) : t.dev.Sound fz := by
  unfold execRetrain at h
  refine State.run_sound hk h (fun d hk => ?_)
  repeat' first
    | with_reducible assumption
    | with_reducible apply Dev.writePctl_sound

theorem Dev.resendFrom_sound {d : Dev} {p : Nat} {e : Nat} (hk : Dev.Sound fz d) :
    Dev.Sound fz (Dev.resendFrom d p e) := by
  unfold Dev.resendFrom
  repeat' first
    | with_reducible assumption
    | ((fail_if_no_progress extract_lets +onlyGivenNames x); first | (refine sound_cut fz x ?_ (fun _ => ?_); unfold x) | skip)
    | (with_reducible apply sound_foldl; intros)
    | with_reducible apply Dev.bump_sound
    | with_reducible apply Dev.setPort_sound
    | with_reducible apply Dev.transmit_sound

theorem Dev.sendJoin_sound {d : Dev} (hk : Dev.Sound fz d) :
    Dev.Sound fz (Dev.sendJoin d) := by
  unfold Dev.sendJoin
  repeat' first
    | with_reducible assumption
    | ((fail_if_no_progress extract_lets +onlyGivenNames x); first | (refine sound_cut fz x ?_ (fun _ => ?_); unfold x) | skip)
    | with_reducible apply Dev.issueOps_sound
    | with_reducible apply Dev.send_sound
    | with_reducible exact sound_mk (Dev.Sound.parts (by assumption))
    | split

theorem Dev.sendEnum_sound {d : Dev} {p : Nat} (hk : Dev.Sound fz d) :
    Dev.Sound fz (Dev.sendEnum d p) := by
  unfold Dev.sendEnum
  repeat' first
    | with_reducible assumption
    | with_reducible apply Dev.enqueue_sound
    | with_reducible exact sound_mk (Dev.Sound.parts (by assumption))
    | split

theorem Dev.sendEnums_sound {d : Dev} (hk : Dev.Sound fz d) :
    Dev.Sound fz (Dev.sendEnums d) := by
  unfold Dev.sendEnums
  repeat' first
    | with_reducible assumption
    | ((fail_if_no_progress extract_lets +onlyGivenNames x); first | (refine sound_cut fz x ?_ (fun _ => ?_); unfold x) | skip)
    | (with_reducible apply sound_foldl; intros)
    | with_reducible apply Dev.sendEnum_sound
    | split

theorem Dev.portCameUp_sound {d : Dev} {p : Nat} (hk : Dev.Sound fz d) :
    Dev.Sound fz (Dev.portCameUp d p) := by
  unfold Dev.portCameUp
  repeat' first
    | with_reducible assumption
    | ((fail_if_no_progress extract_lets +onlyGivenNames x); first | (refine sound_cut fz x ?_ (fun _ => ?_); unfold x) | skip)
    | with_reducible apply Dev.setPort_sound
    | with_reducible apply Dev.setPortState_sound
    | with_reducible apply Dev.ring_sound
    | with_reducible apply Dev.enqueue_sound
    | with_reducible apply Dev.sendJoin_sound
    | with_reducible apply Dev.sendAck_sound
    | with_reducible apply Dev.sendEnum_sound
    | with_reducible exact sound_mk (Dev.Sound.parts (by assumption))
    | split

theorem Dev.portsOff_sound {d : Dev} (hk : Dev.Sound fz d) :
    Dev.Sound fz (Dev.portsOff d) := by
  unfold Dev.portsOff
  repeat' first
    | with_reducible assumption
    | ((fail_if_no_progress extract_lets +onlyGivenNames x); first | (refine sound_cut fz x ?_ (fun _ => ?_); unfold x) | skip)
    | (with_reducible apply sound_foldl; intros)
    | with_reducible apply Dev.setPort_sound
    | with_reducible apply Dev.setPortState_sound
    | with_reducible apply Dev.emptyPort_sound

theorem Dev.linkId_sound {d : Dev} {p : Nat} {w : Word} (hk : Dev.Sound fz d) :
    Dev.Sound fz (Dev.linkId d p w) := by
  unfold Dev.linkId
  repeat' first
    | with_reducible assumption
    | ((fail_if_no_progress extract_lets +onlyGivenNames x); first | (refine sound_cut fz x ?_ (fun _ => ?_); unfold x) | skip)
    | with_reducible apply Dev.bump_sound
    | with_reducible apply Dev.portCameUp_sound
    | with_reducible apply Dev.portDown_sound
    | with_reducible apply Dev.sendPlain_sound
    | with_reducible apply Dev.setFld_sound
    | with_reducible apply Dev.setPort_sound
    | with_reducible exact sound_mk (Dev.Sound.parts (by assumption))
    | split

theorem Dev.sendWake_sound {d : Dev} {p : Nat} (hk : Dev.Sound fz d) :
    Dev.Sound fz (Dev.sendWake d p) := by
  unfold Dev.sendWake
  repeat' first
    | with_reducible assumption
    | ((fail_if_no_progress extract_lets +onlyGivenNames x); first | (refine sound_cut fz x ?_ (fun _ => ?_); unfold x) | skip)
    | with_reducible apply Dev.setPort_sound
    | with_reducible apply Dev.transmit_sound
    | with_reducible exact sound_mk (Dev.Sound.parts (by assumption))
    | split

theorem Dev.wakeBurst_sound {d : Dev} (hk : Dev.Sound fz d) :
    Dev.Sound fz (Dev.wakeBurst d) := by
  unfold Dev.wakeBurst
  repeat' first
    | with_reducible assumption
    | (with_reducible apply sound_foldl_snd; intros)
    | ((fail_if_no_progress extract_lets +onlyGivenNames x); first | (refine sound_cut fz x ?_ (fun _ => ?_); unfold x) | skip)
    | (with_reducible apply sound_foldl; intros)
    | with_reducible apply Dev.sendPlain_sound
    | with_reducible apply Dev.sendWake_sound
    | with_reducible exact sound_mk (Dev.Sound.parts (by assumption))
    | split

theorem Dev.nsUnits_sound {d : Dev} {ns : Nat} (hk : Dev.Sound fz d) :
    Dev.Sound fz (Dev.nsUnits d ns).2 := by
  unfold Dev.nsUnits
  repeat' first
    | with_reducible assumption
    | ((fail_if_no_progress extract_lets +onlyGivenNames x); first | (refine sound_cut fz x ?_ (fun _ => ?_); unfold x) | clear_value x)
    | (split <;> first | (rename_i heq; simp only [Prod.ext_iff] at heq; refine sound_eq fz heq.2 ?_ (fun _ => ?_)) | skip)
    | with_reducible apply Dev.draw_sound

theorem Dev.writeInj_sound {d : Dev} {a : Nat} {value : Word} (hk : Dev.Sound fz d) :
    Dev.Sound fz (Dev.writeInj d a value) := by
  unfold Dev.writeInj
  repeat' first
    | with_reducible assumption
    | with_reducible apply Dev.storeReg_sound
    | with_reducible apply Dev.ignoreWrite_sound
    | split

theorem Dev.consoleInj_sound {d : Dev} {i : Nat} {kind : Nat} {k : Nat} (hk : Dev.Sound fz d) :
    Dev.Sound fz (Dev.consoleInj d i kind k) := by
  unfold Dev.consoleInj
  repeat' first
    | with_reducible assumption
    | ((fail_if_no_progress extract_lets +onlyGivenNames x); first | (refine sound_cut fz x ?_ (fun _ => ?_); unfold x) | skip)
    | with_reducible apply Dev.finishErr_sound
    | with_reducible apply Dev.finishOk_sound
    | with_reducible apply Dev.writeInj_sound
    | split

theorem execEglInj_sound {i : BitVec 8} {kind : BitVec 2} {k : BitVec 8} {s : State} {t : State}
    (hk : s.dev.Sound fz) (h : execEglInj i kind k s = .next t) : t.dev.Sound fz := by
  unfold execEglInj at h
  refine State.run_sound hk h (fun d hk => ?_)
  repeat' first
    | with_reducible assumption
    | (fail_if_no_progress intros)
    | with_reducible apply Dev.consoleInj_sound
    | with_reducible apply Dev.command_sound
    | with_reducible apply State.run_sound
    | with_reducible exact sound_mk (Dev.Sound.parts (by assumption))

theorem execRetrainDelay_sound {port : BitVec 2} {s : State} {t : State}
    (hk : s.dev.Sound fz) (h : execRetrainDelay port s = .next t) : t.dev.Sound fz := by
  unfold execRetrainDelay at h
  refine State.run_sound hk h (fun d hk => ?_)
  repeat' first
    | with_reducible assumption
    | with_reducible apply Dev.retrainDelay_sound

theorem Dev.judgeGate_sound {d : Dev} (hk : Dev.Sound fz d) :
    Dev.Sound fz (Dev.judgeGate d) := by
  unfold Dev.judgeGate
  repeat' first
    | with_reducible assumption
    | with_reducible apply sound_ports fz
    | with_reducible refine (List.length_set ..).trans ?_
    | with_reducible refine (List.length_map ..).trans ?_
    | ((fail_if_no_progress extract_lets +onlyGivenNames x); first | (refine sound_cut fz x ?_ (fun _ => ?_); unfold x) | (refine link_cut x ?_ (fun _ => ?_); unfold x) | skip)
    | (with_reducible apply sound_foldl; intros)
    | with_reducible apply Dev.ring_sound
    | with_reducible apply Dev.setLink_sound
    | with_reducible apply Dev.setReg_sound
    | split

theorem Dev.delayResp_sound {d : Dev} {p : Nat} {trip : Nat} {turnaround : Word} (hk : Dev.Sound fz d) :
    Dev.Sound fz (Dev.delayResp d p trip turnaround) := by
  unfold Dev.delayResp
  repeat' first
    | with_reducible assumption
    | ((fail_if_no_progress extract_lets +onlyGivenNames x); first | (refine sound_cut fz x ?_ (fun _ => ?_); unfold x) | skip)
    | (split <;> first | (rename_i heq; simp only [Prod.ext_iff] at heq; first | refine sound_eq fz heq.2 ?_ (fun _ => ?_) | refine sound_eq fz heq.2.2 ?_ (fun _ => ?_) | refine sound_eq fz heq.2.2.2 ?_ (fun _ => ?_)) | skip)
    | with_reducible apply Dev.median_sound
    | with_reducible apply Dev.portCameUp_sound
    | with_reducible apply Dev.sendPlain_sound
    | with_reducible apply Dev.setFld_sound
    | with_reducible apply Dev.setPort_sound
    | with_reducible apply Dev.take_sound
    | with_reducible exact sound_mk (Dev.Sound.parts (by assumption))
    | split

theorem Dev.endOp_sound {d : Dev} {i : Nat} {o : Operation} {resp : Option Packet} (hk : Dev.Sound fz d) :
    Dev.Sound fz (Dev.endOp d i o resp) := by
  unfold Dev.endOp
  repeat' first
    | with_reducible assumption
    | with_reducible apply sound_ports fz
    | with_reducible refine (List.length_set ..).trans ?_
    | with_reducible refine (List.length_map ..).trans ?_
    | ((fail_if_no_progress extract_lets +onlyGivenNames x); first | (refine sound_cut fz x ?_ (fun _ => ?_); unfold x) | (refine link_cut x ?_ (fun _ => ?_); unfold x) | skip)
    | with_reducible apply Dev.setOp_sound
    | with_reducible apply Dev.setLink_sound
    | with_reducible apply Dev.noteTags_sound
    | with_reducible apply Dev.passDone_sound
    | split

theorem Dev.linkReset_sound {d : Dev} (hk : Dev.Sound fz d) : Dev.Sound fz (Dev.linkReset d) :=
  Dev.setLink_sound hk rfl

theorem Dev.takeAck_sound {d : Dev} {p : Nat} {b : Byte} (hk : Dev.Sound fz d) :
    Dev.Sound fz (Dev.takeAck d p b) := by
  unfold Dev.takeAck
  repeat' first
    | with_reducible assumption
    | ((fail_if_no_progress extract_lets +onlyGivenNames x); first | (refine sound_cut fz x ?_ (fun _ => ?_); unfold x) | skip)
    | with_reducible apply Dev.setPort_sound
    | with_reducible apply Dev.flush_sound
    | with_reducible apply Dev.setFld_sound
    | split

theorem Dev.tagReturn_sound {d : Dev} {tag : Nat} (hk : Dev.Sound fz d) :
    Dev.Sound fz (Dev.tagReturn d tag) := by
  unfold Dev.tagReturn
  repeat' first
    | with_reducible assumption
    | with_reducible apply sound_ports fz
    | with_reducible refine (List.length_set ..).trans ?_
    | with_reducible refine (List.length_map ..).trans ?_
    | ((fail_if_no_progress extract_lets +onlyGivenNames x); first | (refine sound_cut fz x ?_ (fun _ => ?_); unfold x) | (refine link_cut x ?_ (fun _ => ?_); unfold x) | skip)
    | with_reducible apply Dev.issueOps_sound
    | with_reducible apply Dev.setLink_sound

theorem Dev.takeNak_sound {d : Dev} {p : Nat} {b : Byte} (hk : Dev.Sound fz d) :
    Dev.Sound fz (Dev.takeNak d p b) := by
  unfold Dev.takeNak
  repeat' first
    | with_reducible assumption
    | ((fail_if_no_progress extract_lets +onlyGivenNames x); first | (refine sound_cut fz x ?_ (fun _ => ?_); unfold x) | skip)
    | with_reducible apply Dev.setFld_sound
    | with_reducible apply Dev.setPort_sound
    | with_reducible apply Dev.portDown_sound
    | with_reducible apply Dev.noteInflight_sound
    | with_reducible apply Dev.resendFrom_sound
    | split

theorem Dev.opTimeout_sound {d : Dev} {tag : Nat} (hk : Dev.Sound fz d) :
    Dev.Sound fz (Dev.opTimeout d tag) := by
  unfold Dev.opTimeout
  repeat' first
    | with_reducible assumption
    | ((fail_if_no_progress extract_lets +onlyGivenNames x); first | (refine sound_cut fz x ?_ (fun _ => ?_); unfold x) | skip)
    | with_reducible apply Dev.noteTags_sound
    | with_reducible apply Dev.launch_sound
    | with_reducible apply Dev.bump_sound
    | with_reducible apply Dev.setOp_sound
    | with_reducible apply Dev.endOp_sound
    | with_reducible apply Dev.issueOps_sound
    | with_reducible apply Dev.ring_sound
    | split

theorem execDelayResp_sound {port : BitVec 2} {trip : Word} {turnaround : Word} {s : State} {t : State}
    (hk : s.dev.Sound fz) (h : execDelayResp port trip turnaround s = .next t) : t.dev.Sound fz := by
  unfold execDelayResp at h
  refine State.run_sound hk h (fun d hk => ?_)
  repeat' first
    | with_reducible assumption
    | with_reducible apply Dev.delayResp_sound

theorem Dev.portsFromImage_sound {d : Dev} (hk : Dev.Sound fz d) :
    Dev.Sound fz (Dev.portsFromImage d) := by
  unfold Dev.portsFromImage
  repeat' first
    | with_reducible assumption
    | (with_reducible apply sound_foldl; intros)
    | with_reducible apply Dev.setPortState_sound
    | with_reducible apply Dev.emptyPort_sound
    | split

theorem Dev.resendTimeout_sound {d : Dev} {p : Nat} (hk : Dev.Sound fz d) :
    Dev.Sound fz (Dev.resendTimeout d p) := by
  unfold Dev.resendTimeout
  repeat' first
    | with_reducible assumption
    | with_reducible apply Dev.portDown_sound
    | with_reducible apply Dev.resendFrom_sound
    | split

theorem execLinkCodeErrors_sound {port : BitVec 2} {s : State} {t : State}
    (hk : s.dev.Sound fz) (h : execLinkCodeErrors port s = .next t) : t.dev.Sound fz := by
  unfold execLinkCodeErrors at h
  refine State.run_sound hk h (fun d hk => ?_)
  repeat' first
    | with_reducible assumption
    | with_reducible apply Dev.portDown_sound
    | with_reducible apply Dev.bumpBy_sound
    | split

theorem Dev.takeBeacon_sound {d : Dev} {p : Nat} {crcOk : Bool} {ws : List Word} {stay : Nat} {watch : Bool} (hk :
    Dev.Sound fz d) :
    Dev.Sound fz (Dev.takeBeacon d p crcOk ws stay watch) := by
  unfold Dev.takeBeacon
  repeat' first
    | with_reducible assumption
    | (split <;> first | (rename_i heq; simp only [Prod.ext_iff] at heq; first | refine sound_eq fz heq.2 ?_ (fun _ => ?_) | refine sound_eq fz heq.2.2 ?_ (fun _ => ?_) | refine sound_eq fz heq.2.2.2 ?_ (fun _ => ?_)) | skip)
    | with_reducible apply sound_ports fz
    | with_reducible refine (List.length_set ..).trans ?_
    | with_reducible refine (List.length_map ..).trans ?_
    | ((fail_if_no_progress extract_lets +onlyGivenNames x); first | (refine sound_cut fz x ?_ (fun _ => ?_); unfold x) | (refine link_cut x ?_ (fun _ => ?_); unfold x) | skip)
    | (with_reducible apply sound_foldl; intros)
    | (with_reducible apply sound_foldl_snd; intros)
    | (split <;> first | (rename_i heq; simp only [Prod.ext_iff] at heq; refine sound_eq fz heq.2 ?_ (fun _ => ?_)) | skip)
    | with_reducible apply Dev.injectFault_sound
    | with_reducible apply Dev.bump_sound
    | with_reducible apply Dev.setLink_sound
    | with_reducible apply Dev.setFld_sound
    | with_reducible apply Dev.setPort_sound
    | with_reducible apply Dev.countSent_sound
    | with_reducible apply Dev.nsUnits_sound
    | with_reducible apply Dev.beaconTime_sound
    | with_reducible apply Dev.putBeacon_sound
    | with_reducible exact sound_mk (Dev.Sound.parts (by assumption))
    | split

theorem execBeacon_sound {port : BitVec 2} {crcOk : Bool} {words : List Word} {stay : BitVec 24} {s : State} {t : State}
    (hk : s.dev.Sound fz) (h : execBeacon port crcOk words stay s = .next t) : t.dev.Sound fz := by
  unfold execBeacon at h
  refine State.run_sound hk h (fun d hk => ?_)
  repeat' first
    | with_reducible assumption
    | with_reducible apply Dev.takeBeacon_sound
    | split

theorem execEglInjOff_sound {s : State} {t : State}
    (hk : s.dev.Sound fz) (h : execEglInjOff s = .next t) : t.dev.Sound fz := by
  unfold execEglInjOff at h
  refine State.run_sound hk h (fun d hk => ?_)
  repeat' first
    | with_reducible assumption
    | (fail_if_no_progress intros)
    | (with_reducible apply sound_foldl_snd; intros)
    | (with_reducible apply sound_foldl; intros)
    | with_reducible apply Dev.finishOk_sound
    | with_reducible apply Dev.setReg_sound
    | with_reducible apply Dev.finishErr_sound
    | with_reducible apply Dev.command_sound
    | with_reducible apply State.run_sound
    | with_reducible exact sound_mk (Dev.Sound.parts (by assumption))
    | split

theorem execWatchBeacon_sound {port : BitVec 2} {crcOk : Bool} {words : List Word} {stay : BitVec 24} {s : State} {t
    : State}
    (hk : s.dev.Sound fz) (h : execWatchBeacon port crcOk words stay s = .next t) : t.dev.Sound fz := by
  unfold execWatchBeacon at h
  refine State.run_sound hk h (fun d hk => ?_)
  repeat' first
    | with_reducible assumption
    | with_reducible apply Dev.takeBeacon_sound
    | split

theorem execSignalDetect_sound {port : BitVec 2} {s : State} {t : State}
    (hk : s.dev.Sound fz) (h : execSignalDetect port s = .next t) : t.dev.Sound fz := by
  unfold execSignalDetect at h
  refine State.run_sound hk h (fun d hk => ?_)
  repeat' first
    | with_reducible assumption
    | with_reducible apply Dev.signalDetect_sound

theorem Dev.receiveFrame_sound {d : Dev} {p : Nat} {seq : Nat} {crcOk : Bool} {pk : Packet} (hk : Dev.Sound fz d) :
    Dev.Sound fz (Dev.receiveFrame d p seq crcOk pk) := by
  unfold Dev.receiveFrame
  repeat' first
    | with_reducible assumption
    | (split <;> first | (rename_i heq; simp only [Prod.ext_iff] at heq; first | refine sound_eq fz heq.2 ?_ (fun _ => ?_) | refine sound_eq fz heq.2.2 ?_ (fun _ => ?_) | refine sound_eq fz heq.2.2.2 ?_ (fun _ => ?_)) | skip)
    | with_reducible apply sound_ports fz
    | with_reducible refine (List.length_set ..).trans ?_
    | with_reducible refine (List.length_map ..).trans ?_
    | ((fail_if_no_progress extract_lets +onlyGivenNames x); first | (refine sound_cut fz x ?_ (fun _ => ?_); unfold x) | (refine link_cut x ?_ (fun _ => ?_); unfold x) | clear_value x)
    | (split <;> first | (rename_i heq; simp only [Prod.ext_iff] at heq; refine sound_eq fz heq.2 ?_ (fun _ => ?_)) | skip)
    | with_reducible apply Dev.injectFault_sound
    | with_reducible apply Dev.setLink_sound
    | with_reducible apply Dev.takeFrame_sound
    | with_reducible apply Dev.bump_sound
    | with_reducible apply Dev.unhold_sound
    | with_reducible exact sound_mk (Dev.Sound.parts (by assumption))
    | split

theorem Dev.consolePing_sound {d : Dev} {xy : Nat} {n : Nat} (hk : Dev.Sound fz d) :
    Dev.Sound fz (Dev.consolePing d xy n) := by
  unfold Dev.consolePing
  repeat' first
    | with_reducible assumption
    | with_reducible apply sound_ports fz
    | with_reducible refine (List.length_set ..).trans ?_
    | with_reducible refine (List.length_map ..).trans ?_
    | ((fail_if_no_progress extract_lets +onlyGivenNames x); first | (refine sound_cut fz x ?_ (fun _ => ?_); unfold x) | (refine link_cut x ?_ (fun _ => ?_); unfold x) | skip)
    | (with_reducible apply sound_foldl; intros)
    | with_reducible apply Dev.finishErr_sound
    | with_reducible apply Dev.setLink_sound
    | with_reducible apply Dev.issueOps_sound
    | with_reducible apply Dev.newOp_sound
    | split

theorem execLinkctlId_sound {port : BitVec 2} {w : Word} {s : State} {t : State}
    (hk : s.dev.Sound fz) (h : execLinkctlId port w s = .next t) : t.dev.Sound fz := by
  unfold execLinkctlId at h
  refine State.run_sound hk h (fun d hk => ?_)
  repeat' first
    | with_reducible assumption
    | with_reducible apply Dev.linkId_sound

theorem execDelayRecalibration_sound {port : BitVec 2} {s : State} {t : State}
    (hk : s.dev.Sound fz) (h : execDelayRecalibration port s = .next t) : t.dev.Sound fz := by
  unfold execDelayRecalibration at h
  refine State.run_sound hk h (fun d hk => ?_)
  repeat' first
    | with_reducible assumption
    | with_reducible apply Dev.delayRecal_sound

theorem execTrainingTimeout_sound {port : BitVec 2} {s : State} {t : State}
    (hk : s.dev.Sound fz) (h : execTrainingTimeout port s = .next t) : t.dev.Sound fz := by
  unfold execTrainingTimeout at h
  refine State.run_sound hk h (fun d hk => ?_)
  repeat' first
    | with_reducible assumption
    | with_reducible apply Dev.portDown_sound
    | split

theorem Dev.opResponse_sound {d : Dev} {pk : Packet} (hk : Dev.Sound fz d) :
    Dev.Sound fz (Dev.opResponse d pk) := by
  unfold Dev.opResponse
  repeat' first
    | with_reducible assumption
    | with_reducible apply Dev.bump_sound
    | with_reducible apply Dev.issueOps_sound
    | with_reducible apply Dev.endOp_sound
    | split

theorem Dev.portsEnable_sound {d : Dev} (hk : Dev.Sound fz d) :
    Dev.Sound fz (Dev.portsEnable d) := by
  unfold Dev.portsEnable
  repeat' first
    | with_reducible assumption
    | (with_reducible apply sound_foldl; intros)
    | with_reducible apply Dev.portTrain_sound
    | split

theorem Dev.portsWake_sound {d : Dev} (hk : Dev.Sound fz d) :
    Dev.Sound fz (Dev.portsWake d) := by
  unfold Dev.portsWake
  repeat' first
    | with_reducible assumption
    | (with_reducible apply sound_foldl; intros)
    | with_reducible apply Dev.portTrain_sound
    | split

theorem Dev.setSurf_sound {d : Dev} {v : Surface} (hk : Dev.Sound fz d) :
    Dev.Sound fz (Dev.setSurf d v) := by
  unfold Dev.setSurf
  repeat' first
    | with_reducible assumption
    | with_reducible exact sound_mk (Dev.Sound.parts (by assumption))

theorem Dev.setTile_sound {d : Dev} {t : Tile} (hk : Dev.Sound fz d) :
    Dev.Sound fz (Dev.setTile d t) := by
  unfold Dev.setTile
  repeat' first
    | with_reducible assumption
    | ((fail_if_no_progress extract_lets +onlyGivenNames x); first | (refine sound_cut fz x ?_ (fun _ => ?_); unfold x) | skip)
    | with_reducible apply Dev.setSurf_sound

theorem Dev.setTileState_sound {d : Dev} {xy : Nat} {st : Nat} {reason : Nat} (hk : Dev.Sound fz d) :
    Dev.Sound fz (Dev.setTileState d xy st reason) := by
  unfold Dev.setTileState
  repeat' first
    | with_reducible assumption
    | ((fail_if_no_progress extract_lets +onlyGivenNames x); first | (refine sound_cut fz x ?_ (fun _ => ?_); unfold x) | skip)
    | with_reducible apply Dev.setTile_sound

theorem Dev.noteLoading_sound {d : Dev} {xy : Nat} {st : Nat} (hk : Dev.Sound fz d) :
    Dev.Sound fz (Dev.noteLoading d xy st) := by
  unfold Dev.noteLoading
  repeat' first
    | with_reducible assumption
    | with_reducible apply Dev.setTileState_sound
    | with_reducible exact sound_mk (Dev.Sound.parts (by assumption))
    | split

theorem Dev.mapSurf_sound {d : Dev} {f : SurfContact → SurfContact} (hk : Dev.Sound fz d) :
    Dev.Sound fz (Dev.mapSurf d f) := by
  unfold Dev.mapSurf
  repeat' first
    | with_reducible assumption
    | ((fail_if_no_progress extract_lets +onlyGivenNames x); first | (refine sound_cut fz x ?_ (fun _ => ?_); unfold x) | skip)
    | with_reducible apply Dev.setSurf_sound

theorem Dev.surfRecord_sound {d : Dev} {c : SurfContact} {shown : SurfContact} {kind : Nat} (hk : Dev.Sound fz d) :
    Dev.Sound fz (Dev.surfRecord d c shown kind) := by
  unfold Dev.surfRecord
  repeat' first
    | with_reducible assumption
    | ((fail_if_no_progress extract_lets +onlyGivenNames x); first | (refine sound_cut fz x ?_ (fun _ => ?_); unfold x) | skip)
    | with_reducible apply Dev.ringPair_sound
    | with_reducible apply Dev.mapSurf_sound
    | split

theorem Dev.handoverEnd_sound {d : Dev} {n : Nat} (hk : Dev.Sound fz d) :
    Dev.Sound fz (Dev.handoverEnd d n) := by
  unfold Dev.handoverEnd
  repeat' first
    | with_reducible assumption
    | with_reducible apply Dev.mapSurf_sound
    | split

theorem Dev.takeOver_sound {d : Dev} {c : SurfContact} (hk : Dev.Sound fz d) :
    Dev.Sound fz (Dev.takeOver d c) := by
  unfold Dev.takeOver
  repeat' first
    | with_reducible assumption
    | ((fail_if_no_progress extract_lets +onlyGivenNames x); first | (refine sound_cut fz x ?_ (fun _ => ?_); unfold x) | skip)
    | with_reducible apply Dev.setSurf_sound
    | split

theorem Dev.unreport_sound {d : Dev} {c : SurfContact} (hk : Dev.Sound fz d) :
    Dev.Sound fz (Dev.unreport d c) := by
  unfold Dev.unreport
  repeat' first
    | with_reducible assumption
    | ((fail_if_no_progress extract_lets +onlyGivenNames x); first | (refine sound_cut fz x ?_ (fun _ => ?_); unfold x) | skip)
    | with_reducible apply Dev.setSurf_sound
    | with_reducible apply Dev.mapSurf_sound
    | split

theorem Dev.tellSurf_sound {d : Dev} {c : SurfContact} (hk : Dev.Sound fz d) :
    Dev.Sound fz (Dev.tellSurf d c) := by
  unfold Dev.tellSurf
  repeat' first
    | with_reducible assumption
    | with_reducible apply Dev.mapSurf_sound
    | with_reducible apply Dev.bump_sound
    | split

theorem Dev.settleSurf_sound {d : Dev} {n : Nat} (hk : Dev.Sound fz d) :
    Dev.Sound fz (Dev.settleSurf d n).2 := by
  unfold Dev.settleSurf
  repeat' first
    | with_reducible assumption
    | ((fail_if_no_progress extract_lets +onlyGivenNames x); first | (refine sound_cut fz x ?_ (fun _ => ?_); unfold x) | skip)
    | (with_reducible apply sound_foldl; intros)
    | (with_reducible apply sound_foldl_snd; intros)
    | (split <;> first | (rename_i heq; simp only [Prod.ext_iff] at heq; refine sound_eq fz heq.2 ?_ (fun _ => ?_)) | skip)
    | with_reducible apply Dev.handoverEnd_sound
    | with_reducible apply Dev.takeOver_sound
    | with_reducible apply Dev.unreport_sound
    | with_reducible apply Dev.tellSurf_sound

theorem Dev.hidSurface_sound {d : Dev} {flags : Word} {told : List (SurfContact × SurfContact)} (hk : Dev.Sound fz d) :
    Dev.Sound fz (Dev.hidSurface d flags told) := by
  unfold Dev.hidSurface
  repeat' first
    | with_reducible assumption
    | ((fail_if_no_progress extract_lets +onlyGivenNames x); first | (refine sound_cut fz x ?_ (fun _ => ?_); unfold x) | skip)
    | with_reducible apply Dev.hidFrame_sound
    | split

theorem Dev.cancelPair_sound {d : Dev} {p : SurfContact × Nat} (hk : Dev.Sound fz d) :
    Dev.Sound fz (Dev.cancelPair d p) := by
  unfold Dev.cancelPair
  repeat' first
    | with_reducible assumption
    | ((fail_if_no_progress extract_lets +onlyGivenNames x); first | (refine sound_cut fz x ?_ (fun _ => ?_); unfold x) | skip)
    | with_reducible apply Dev.ringPair_sound

theorem Dev.sendCancels_sound {d : Dev} (hk : Dev.Sound fz d) :
    Dev.Sound fz (Dev.sendCancels d) := by
  unfold Dev.sendCancels
  repeat' first
    | with_reducible assumption
    | ((fail_if_no_progress extract_lets +onlyGivenNames x); first | (refine sound_cut fz x ?_ (fun _ => ?_); unfold x) | skip)
    | (with_reducible apply sound_foldl; intros)
    | with_reducible apply Dev.cancelPair_sound
    | with_reducible apply Dev.setSurf_sound

theorem Dev.dropSurf_sound {d : Dev} {c : SurfContact} (hk : Dev.Sound fz d) :
    Dev.Sound fz (Dev.dropSurf d c) := by
  unfold Dev.dropSurf
  repeat' first
    | with_reducible assumption
    | ((fail_if_no_progress extract_lets +onlyGivenNames x); first | (refine sound_cut fz x ?_ (fun _ => ?_); unfold x) | skip)
    | with_reducible apply Dev.setSurf_sound
    | split

theorem Dev.surfaceReports_sound {d : Dev} {n : Nat} {partly : Bool} (hk : Dev.Sound fz d) :
    Dev.Sound fz (Dev.surfaceReports d n partly) := by
  unfold Dev.surfaceReports
  repeat' first
    | with_reducible assumption
    | ((fail_if_no_progress extract_lets +onlyGivenNames x); first | (refine sound_cut fz x ?_ (fun _ => ?_); unfold x) | clear_value x)
    | (with_reducible apply sound_foldl; intros)
    | (with_reducible apply sound_foldl_snd; intros)
    | (fail_if_no_progress intros)
    | (split <;> first | (rename_i heq; simp only [Prod.ext_iff] at heq; refine sound_eq fz heq.2 ?_ (fun _ => ?_)) | skip)
    | with_reducible apply Dev.settleSurf_sound
    | with_reducible apply Dev.hidSurface_sound
    | with_reducible apply Dev.inGroup_sound
    | with_reducible apply Dev.bump_sound
    | with_reducible apply Dev.ring_sound
    | with_reducible apply Dev.setSurf_sound
    | with_reducible apply Dev.setFlag_sound
    | with_reducible apply Dev.surfRecord_sound
    | with_reducible apply Dev.sendCancels_sound
    | with_reducible apply Dev.raiseGesture_sound
    | with_reducible apply Dev.dropSurf_sound
    | with_reducible apply Dev.mapSurf_sound
    | with_reducible apply Dev.frameEnd_sound
    | with_reducible apply Dev.burstDone_sound
    | with_reducible exact sound_mk (Dev.Sound.parts (by assumption))
    | split

theorem Dev.noteTile_sound {d : Dev} {xy : Nat} (hk : Dev.Sound fz d) :
    Dev.Sound fz (Dev.noteTile d xy) := by
  unfold Dev.noteTile
  repeat' first
    | with_reducible assumption
    | ((fail_if_no_progress extract_lets +onlyGivenNames x); first | (refine sound_cut fz x ?_ (fun _ => ?_); unfold x) | skip)
    | with_reducible apply Dev.setTile_sound

theorem Dev.cancelSurf_sound {d : Dev} {c : SurfContact} {reason : Nat} (hk : Dev.Sound fz d) :
    Dev.Sound fz (Dev.cancelSurf d c reason) := by
  unfold Dev.cancelSurf
  repeat' first
    | with_reducible assumption
    | ((fail_if_no_progress extract_lets +onlyGivenNames x); first | (refine sound_cut fz x ?_ (fun _ => ?_); unfold x) | skip)
    | with_reducible apply Dev.dropSurf_sound
    | with_reducible apply Dev.setSurf_sound
    | split

theorem Dev.stripMsg_sound {d : Dev} {words : List Word} (hk : Dev.Sound fz d) :
    Dev.Sound fz (Dev.stripMsg d words) := by
  unfold Dev.stripMsg
  repeat' first
    | with_reducible assumption
    | ((fail_if_no_progress extract_lets +onlyGivenNames x); first | (refine sound_cut fz x ?_ (fun _ => ?_); unfold x) | skip)
    | with_reducible apply Dev.setSurf_sound
    | split

theorem Dev.flushCancels_sound {d : Dev} (hk : Dev.Sound fz d) :
    Dev.Sound fz (Dev.flushCancels d) := by
  unfold Dev.flushCancels
  repeat' first
    | with_reducible assumption
    | (fail_if_no_progress intros)
    | with_reducible apply Dev.inGroup_sound
    | with_reducible apply Dev.hidOwe_sound
    | with_reducible apply Dev.sendCancels_sound
    | split

theorem Dev.cancelTile_sound {d : Dev} {xy : Nat} {reason : Nat} (hk : Dev.Sound fz d) :
    Dev.Sound fz (Dev.cancelTile d xy reason) := by
  unfold Dev.cancelTile
  repeat' first
    | with_reducible assumption
    | ((fail_if_no_progress extract_lets +onlyGivenNames x); first | (refine sound_cut fz x ?_ (fun _ => ?_); unfold x) | skip)
    | (with_reducible apply sound_foldl; intros)
    | with_reducible apply Dev.flushCancels_sound
    | with_reducible apply Dev.cancelSurf_sound

theorem Dev.tileGone_sound {d : Dev} {xy : Nat} {st : Nat} {reason : Nat} {kind : Nat} (hk : Dev.Sound fz d) :
    Dev.Sound fz (Dev.tileGone d xy st reason kind) := by
  unfold Dev.tileGone
  repeat' first
    | with_reducible assumption
    | with_reducible apply Dev.ring_sound
    | with_reducible apply Dev.cancelTile_sound
    | with_reducible apply Dev.setTileState_sound
    | with_reducible apply Dev.clearFlows_sound
    | with_reducible exact sound_mk (Dev.Sound.parts (by assumption))

theorem Dev.ep2Answer_sound {d : Dev} {op : Nat} {tag : Byte} {status : Nat} {count : Nat} {body : List Byte} (hk :
    Dev.Sound fz d) :
    Dev.Sound fz (Dev.ep2Answer d op tag status count body) := by
  unfold Dev.ep2Answer
  repeat' first
    | with_reducible assumption
    | ((fail_if_no_progress extract_lets +onlyGivenNames x); first | (refine sound_cut fz x ?_ (fun _ => ?_); unfold x) | skip)
    | with_reducible apply Dev.setUsb_sound

theorem Dev.ep2Finish_sound {d : Dev} {c : EpCommand} {status : Nat} (hk : Dev.Sound fz d) :
    Dev.Sound fz (Dev.ep2Finish d c status) := by
  unfold Dev.ep2Finish
  repeat' first
    | with_reducible assumption
    | with_reducible apply Dev.ep2Answer_sound
    | split

theorem Dev.addRun_sound {d : Dev} {ls : List OutLine} (hk : Dev.Sound fz d) :
    Dev.Sound fz (Dev.addRun d ls) := by
  unfold Dev.addRun
  repeat' first
    | with_reducible assumption
    | ((fail_if_no_progress extract_lets +onlyGivenNames x); first | (refine sound_cut fz x ?_ (fun _ => ?_); unfold x) | skip)
    | with_reducible apply Dev.setCon_sound

theorem Dev.endRun_sound {d : Dev} {status : OutLine} (hk : Dev.Sound fz d) :
    Dev.Sound fz (Dev.endRun d status) := by
  unfold Dev.endRun
  repeat' first
    | with_reducible assumption
    | with_reducible apply Dev.addRun_sound
    | with_reducible apply Dev.dropLine_sound

theorem Dev.waiterFails_sound {d : Dev} {o : Operation} (hk : Dev.Sound fz d) :
    Dev.Sound fz (Dev.waiterFails d o) := by
  unfold Dev.waiterFails
  repeat' first
    | with_reducible assumption
    | ((fail_if_no_progress extract_lets +onlyGivenNames x); first | (refine sound_cut fz x ?_ (fun _ => ?_); unfold x) | skip)
    | with_reducible apply Dev.ep2Finish_sound
    | with_reducible apply Dev.endRun_sound
    | with_reducible apply Dev.setCon_sound
    | split

theorem Dev.remoteFail_sound {d : Dev} {xy : Nat} {addr : Nat} {err : Nat} (hk : Dev.Sound fz d) :
    Dev.Sound fz (Dev.remoteFail d xy addr err) := by
  unfold Dev.remoteFail
  repeat' first
    | with_reducible assumption
    | ((fail_if_no_progress extract_lets +onlyGivenNames x); first | (refine sound_cut fz x ?_ (fun _ => ?_); unfold x) | skip)
    | with_reducible apply Dev.bump_sound
    | with_reducible apply Dev.setFld_sound
    | with_reducible apply Dev.ring_sound

theorem Dev.notePend_sound {d : Dev} (hk : Dev.Sound fz d) :
    Dev.Sound fz (Dev.notePend d) := by
  unfold Dev.notePend
  repeat' first
    | with_reducible assumption
    | with_reducible apply Dev.setFlag_sound

theorem Dev.remoteEnd_sound {d : Dev} {xy : Nat} (hk : Dev.Sound fz d) :
    Dev.Sound fz (Dev.remoteEnd d xy) := by
  unfold Dev.remoteEnd
  repeat' first
    | with_reducible assumption
    | with_reducible apply sound_ports fz
    | with_reducible refine (List.length_set ..).trans ?_
    | with_reducible refine (List.length_map ..).trans ?_
    | ((fail_if_no_progress extract_lets +onlyGivenNames x); first | (refine sound_cut fz x ?_ (fun _ => ?_); unfold x) | (refine link_cut x ?_ (fun _ => ?_); unfold x) | skip)
    | (with_reducible apply sound_foldl; intros)
    | with_reducible apply Dev.setLink_sound
    | with_reducible apply Dev.waiterFails_sound
    | with_reducible apply Dev.remoteFail_sound
    | with_reducible apply Dev.notePend_sound
    | with_reducible apply Dev.noteTags_sound

theorem Dev.resetTile_sound {d : Dev} {xy : Nat} {linkBoot : Bool} (hk : Dev.Sound fz d) :
    Dev.Sound fz (Dev.resetTile d xy linkBoot) := by
  unfold Dev.resetTile
  repeat' first
    | with_reducible assumption
    | ((fail_if_no_progress extract_lets +onlyGivenNames x); first | (refine sound_cut fz x ?_ (fun _ => ?_); unfold x) | skip)
    | with_reducible apply Dev.tileGone_sound
    | with_reducible apply Dev.setTileState_sound
    | with_reducible apply Dev.issueOps_sound
    | with_reducible apply Dev.send_sound
    | with_reducible apply Dev.remoteEnd_sound
    | with_reducible apply Dev.clearFlows_sound
    | with_reducible exact sound_mk (Dev.Sound.parts (by assumption))
    | split

theorem Dev.writeTreset_sound {d : Dev} {v : Word} (hk : Dev.Sound fz d) :
    Dev.Sound fz (Dev.writeTreset d v) := by
  unfold Dev.writeTreset
  repeat' first
    | with_reducible assumption
    | with_reducible apply Dev.resetTile_sound
    | with_reducible apply Dev.ignoreWrite_sound
    | split

theorem execEglTreset_sound {value : Word} {s : State} {t : State}
    (hk : s.dev.Sound fz) (h : execEglTreset value s = .next t) : t.dev.Sound fz := by
  unfold execEglTreset at h
  refine State.run_sound hk h (fun d hk => ?_)
  repeat' first
    | with_reducible assumption
    | with_reducible apply Dev.writeTreset_sound

theorem Dev.setRemoteData_sound {d : Dev} {rq : Requester} {v : Word} (hk : Dev.Sound fz d) :
    Dev.Sound fz (Dev.setRemoteData d rq v) := by
  unfold Dev.setRemoteData
  repeat' first
    | with_reducible assumption
    | ((fail_if_no_progress extract_lets +onlyGivenNames x); first | (refine sound_cut fz x ?_ (fun _ => ?_); unfold x) | skip)
    | with_reducible apply Dev.setSurf_sound

theorem Dev.remoteIssue_sound {d : Dev} {rq : Requester} {addr : Nat} {write : Option Word} (hk : Dev.Sound fz d) :
    Dev.Sound fz (Dev.remoteIssue d rq addr write) := by
  unfold Dev.remoteIssue
  repeat' first
    | with_reducible assumption
    | ((fail_if_no_progress extract_lets +onlyGivenNames x); first | (refine sound_cut fz x ?_ (fun _ => ?_); unfold x) | skip)
    | with_reducible apply Dev.bump_sound
    | with_reducible apply Dev.notePend_sound
    | with_reducible apply Dev.issueOps_sound
    | with_reducible apply Dev.newOp_sound
    | with_reducible apply Dev.remoteFail_sound
    | with_reducible apply Dev.setRemoteData_sound
    | split

theorem Dev.forwardLoss_sound {d : Dev} {xy : Nat} {n : Nat} (hk : Dev.Sound fz d) :
    Dev.Sound fz (Dev.forwardLoss d xy n) := by
  unfold Dev.forwardLoss
  repeat' first
    | with_reducible assumption
    | with_reducible apply Dev.ring_sound
    | with_reducible apply Dev.bumpBy_sound

theorem Dev.fromLost_sound {d : Dev} {f : Dev → Dev} {xy : Nat} (hk : Dev.Sound fz d) (hf : ∀ e, Dev.Sound fz e →
    Dev.Sound fz (f e)) :
    Dev.Sound fz (Dev.fromLost d xy f) := by
  unfold Dev.fromLost
  repeat' first
    | with_reducible assumption
    | with_reducible apply Dev.issueOps_sound
    | with_reducible apply Dev.send_sound
    | with_reducible apply Dev.setTileState_sound
    | with_reducible apply hf
    | with_reducible apply Dev.clearFlows_sound
    | with_reducible exact sound_mk (Dev.Sound.parts (by assumption))
    | split

theorem Dev.leaveMsg_sound {d : Dev} {xy : Nat} {words : List Word} (hk : Dev.Sound fz d) :
    Dev.Sound fz (Dev.leaveMsg d xy words) := by
  unfold Dev.leaveMsg
  repeat' first
    | with_reducible assumption
    | (fail_if_no_progress intros)
    | with_reducible apply Dev.fromLost_sound
    | with_reducible apply Dev.tileGone_sound
    | with_reducible apply Dev.noteTile_sound

theorem execLeave_sound {src : BitVec 10} {words : List Word} {s : State} {t : State}
    (hk : s.dev.Sound fz) (h : execLeave src words s = .next t) : t.dev.Sound fz := by
  unfold execLeave at h
  refine State.run_sound hk h (fun d hk => ?_)
  repeat' first
    | with_reducible assumption
    | with_reducible apply Dev.leaveMsg_sound

theorem Dev.applyEntry_sound {d : Dev} {xy : Nat} {n : Nat} {r : Report} (hk : Dev.Sound fz d) :
    Dev.Sound fz (Dev.applyEntry d xy n r) := by
  unfold Dev.applyEntry
  repeat' first
    | with_reducible assumption
    | ((fail_if_no_progress extract_lets +onlyGivenNames x); first | (refine sound_cut fz x ?_ (fun _ => ?_); unfold x) | skip)
    | with_reducible apply Dev.setSurf_sound
    | with_reducible apply Dev.mapSurf_sound
    | with_reducible apply Dev.cancelSurf_sound
    | split

theorem Dev.flushGestures_sound {d : Dev} (hk : Dev.Sound fz d) :
    Dev.Sound fz (Dev.flushGestures d) := by
  unfold Dev.flushGestures
  repeat' first
    | with_reducible assumption
    | (with_reducible apply sound_foldl; intros)
    | (with_reducible apply sound_foldl_snd; intros)
    | with_reducible apply Dev.raiseGesture_sound
    | with_reducible apply Dev.setSurf_sound
    | with_reducible exact sound_mk (Dev.Sound.parts (by assumption))

theorem Dev.gather_sound {d : Dev} {xy : Nat} {n : Nat} {flags : Word} {reps : List Report} {gestures : List (Word ×
    Word)} (hk : Dev.Sound fz d) :
    Dev.Sound fz (Dev.gather d xy n flags reps gestures) := by
  unfold Dev.gather
  repeat' first
    | with_reducible assumption
    | (with_reducible apply sound_foldl_snd; intros)
    | ((fail_if_no_progress extract_lets +onlyGivenNames x); first | (refine sound_cut fz x ?_ (fun _ => ?_); unfold x) | skip)
    | (with_reducible apply sound_foldl; intros)
    | with_reducible apply Dev.applyEntry_sound
    | with_reducible apply Dev.setSurf_sound
    | with_reducible apply Dev.flushCancels_sound
    | with_reducible apply Dev.raiseGesture_sound
    | with_reducible apply Dev.flushGestures_sound
    | with_reducible exact sound_mk (Dev.Sound.parts (by assumption))
    | split

theorem Dev.contactsPart_sound {d : Dev} {xy : Nat} {words : List Word} (hk : Dev.Sound fz d) :
    Dev.Sound fz (Dev.contactsPart d xy words) := by
  unfold Dev.contactsPart
  repeat' first
    | with_reducible assumption
    | ((fail_if_no_progress extract_lets +onlyGivenNames x); first | (refine sound_cut fz x ?_ (fun _ => ?_); unfold x) | skip)
    | with_reducible apply Dev.setTile_sound
    | with_reducible apply Dev.setSurf_sound
    | with_reducible apply Dev.gather_sound
    | split

theorem Dev.remoteDone_sound {d : Dev} {o : Operation} (hk : Dev.Sound fz d) :
    Dev.Sound fz (Dev.remoteDone d o) := by
  unfold Dev.remoteDone
  repeat' first
    | with_reducible assumption
    | ((fail_if_no_progress extract_lets +onlyGivenNames x); first | (refine sound_cut fz x ?_ (fun _ => ?_); unfold x) | skip)
    | with_reducible apply Dev.setRemoteData_sound
    | with_reducible apply Dev.remoteFail_sound
    | with_reducible apply Dev.notePend_sound
    | split

theorem Dev.tileSilent_sound {d : Dev} {xy : Nat} (hk : Dev.Sound fz d) :
    Dev.Sound fz (Dev.tileSilent d xy) := by
  unfold Dev.tileSilent
  repeat' first
    | with_reducible assumption
    | with_reducible apply Dev.tileGone_sound
    | split

theorem execTileLost_sound {tile : BitVec 10} {s : State} {t : State}
    (hk : s.dev.Sound fz) (h : execTileLost tile s = .next t) : t.dev.Sound fz := by
  unfold execTileLost at h
  refine State.run_sound hk h (fun d hk => ?_)
  repeat' first
    | with_reducible assumption
    | with_reducible apply Dev.tileSilent_sound

theorem execStrip_sound {_src : BitVec 10} {words : List Word} {s : State} {t : State}
    (hk : s.dev.Sound fz) (h : execStrip _src words s = .next t) : t.dev.Sound fz := by
  unfold execStrip at h
  refine State.run_sound hk h (fun d hk => ?_)
  repeat' first
    | with_reducible assumption
    | with_reducible apply Dev.stripMsg_sound

theorem Dev.sendContacts_sound {d : Dev} {n : Nat} {flags : Word} {reps : List Report} {gestures : List (Word ×
    Word)} (hk : Dev.Sound fz d) :
    Dev.Sound fz (Dev.sendContacts d n flags reps gestures) := by
  unfold Dev.sendContacts
  repeat' first
    | with_reducible assumption
    | with_reducible apply Dev.gather_sound
    | with_reducible apply Dev.issueOps_sound
    | with_reducible apply Dev.send_sound
    | split

theorem Dev.reportForwardLoss_sound {d : Dev} (hk : Dev.Sound fz d) :
    Dev.Sound fz (Dev.reportForwardLoss d) := by
  unfold Dev.reportForwardLoss
  repeat' first
    | with_reducible assumption
    | ((fail_if_no_progress extract_lets +onlyGivenNames x); first | (refine sound_cut fz x ?_ (fun _ => ?_); unfold x) | skip)
    | with_reducible apply Dev.setSurf_sound
    | with_reducible apply Dev.issueOps_sound
    | with_reducible apply Dev.send_sound
    | split

theorem Dev.forwardMsg_sound {d : Dev} {xy : Nat} {words : List Word} (hk : Dev.Sound fz d) :
    Dev.Sound fz (Dev.forwardMsg d xy words) := by
  unfold Dev.forwardMsg
  repeat' first
    | with_reducible assumption
    | ((fail_if_no_progress extract_lets +onlyGivenNames x); first | (refine sound_cut fz x ?_ (fun _ => ?_); unfold x) | clear_value x)
    | (fail_if_no_progress intros)
    | with_reducible apply Dev.fromLost_sound
    | with_reducible apply Dev.forwardLoss_sound
    | with_reducible apply Dev.noteTile_sound
    | with_reducible apply Dev.bump_sound
    | with_reducible apply Dev.accept_sound
    | with_reducible apply Dev.nameStretch_sound
    | split

theorem execForward_sound {src : BitVec 10} {words : List Word} {s : State} {t : State}
    (hk : s.dev.Sound fz) (h : execForward src words s = .next t) : t.dev.Sound fz := by
  unfold execForward at h
  refine State.run_sound hk h (fun d hk => ?_)
  repeat' first
    | with_reducible assumption
    | with_reducible apply Dev.forwardMsg_sound

theorem Dev.contactsMsg_sound {d : Dev} {xy : Nat} {words : List Word} (hk : Dev.Sound fz d) :
    Dev.Sound fz (Dev.contactsMsg d xy words) := by
  unfold Dev.contactsMsg
  repeat' first
    | with_reducible assumption
    | (fail_if_no_progress intros)
    | with_reducible apply Dev.fromLost_sound
    | with_reducible apply Dev.contactsPart_sound
    | split

theorem Dev.stripDeadline_sound {d : Dev} (hk : Dev.Sound fz d) :
    Dev.Sound fz (Dev.stripDeadline d) := by
  unfold Dev.stripDeadline
  repeat' first
    | with_reducible assumption
    | ((fail_if_no_progress extract_lets +onlyGivenNames x); first | (refine sound_cut fz x ?_ (fun _ => ?_); unfold x) | skip)
    | (with_reducible apply sound_foldl; intros)
    | with_reducible apply Dev.bump_sound
    | with_reducible apply Dev.setSurf_sound
    | split

theorem execStripDeadline_sound {s : State} {t : State}
    (hk : s.dev.Sound fz) (h : execStripDeadline s = .next t) : t.dev.Sound fz := by
  unfold execStripDeadline at h
  refine State.run_sound hk h (fun d hk => ?_)
  repeat' first
    | with_reducible assumption
    | with_reducible apply Dev.stripDeadline_sound

theorem Dev.writeRtile_sound {d : Dev} {rq : Requester} {v : Word} (hk : Dev.Sound fz d) :
    Dev.Sound fz (Dev.writeRtile d rq v) := by
  unfold Dev.writeRtile
  repeat' first
    | with_reducible assumption
    | ((fail_if_no_progress extract_lets +onlyGivenNames x); first | (refine sound_cut fz x ?_ (fun _ => ?_); unfold x) | skip)
    | with_reducible apply Dev.setSurf_sound

theorem Dev.contactsDeadline_sound {d : Dev} (hk : Dev.Sound fz d) :
    Dev.Sound fz (Dev.contactsDeadline d) := by
  unfold Dev.contactsDeadline
  repeat' first
    | with_reducible assumption
    | ((fail_if_no_progress extract_lets +onlyGivenNames x); first | (refine sound_cut fz x ?_ (fun _ => ?_); unfold x) | skip)
    | with_reducible apply Dev.surfaceReports_sound
    | with_reducible apply Dev.bump_sound
    | split

theorem execContacts_sound {src : BitVec 10} {words : List Word} {s : State} {t : State}
    (hk : s.dev.Sound fz) (h : execContacts src words s = .next t) : t.dev.Sound fz := by
  unfold execContacts at h
  refine State.run_sound hk h (fun d hk => ?_)
  repeat' first
    | with_reducible assumption
    | with_reducible apply Dev.contactsMsg_sound

theorem Dev.setChan_sound {d : Dev} {c : Nat} {ch : Channel} (hk : Dev.Sound fz d) : Dev.Sound fz (Dev.setChan d c ch) :=
  Dev.setReg_sound (sound_mk ⟨hk.1, hk.2.1, hk.2.2.1, hk.2.2.2.1, hk.2.2.2.2.1, hk.2.2.2.2.2.1,
    (List.length_set ..).trans (sound_channels fz hk), hk.2.2.2.2.2.2.2⟩)

theorem Dev.setFaulted_sound {d : Dev} {c : Nat} {b : Bool} (hk : Dev.Sound fz d) :
    Dev.Sound fz (Dev.setFaulted d c b) := by
  unfold Dev.setFaulted
  repeat' first
    | with_reducible assumption
    | ((fail_if_no_progress extract_lets +onlyGivenNames x); first | (refine sound_cut fz x ?_ (fun _ => ?_); unfold x) | skip)
    | with_reducible apply Dev.setFld_sound
    | split

theorem Dev.flushChan_sound {d : Dev} {c : Nat} (hk : Dev.Sound fz d) :
    Dev.Sound fz (Dev.flushChan d c) := by
  unfold Dev.flushChan
  repeat' first
    | with_reducible assumption
    | with_reducible apply Dev.setChan_sound
    | with_reducible apply Dev.setFaulted_sound

theorem Dev.activate_sound {d : Dev} {c : Nat} (hk : Dev.Sound fz d) :
    Dev.Sound fz (Dev.activate d c) := by
  unfold Dev.activate
  repeat' first
    | with_reducible assumption
    | ((fail_if_no_progress extract_lets +onlyGivenNames x); first | (refine sound_cut fz x ?_ (fun _ => ?_); unfold x) | skip)
    | with_reducible apply Dev.setChan_sound
    | with_reducible exact sound_mk (Dev.Sound.parts (by assumption))
    | split

theorem Dev.queueDesc_sound {d : Dev} {c : Nat} {e : Descriptor} (hk : Dev.Sound fz d) :
    Dev.Sound fz (Dev.queueDesc d c e) := by
  unfold Dev.queueDesc
  repeat' first
    | with_reducible assumption
    | ((fail_if_no_progress extract_lets +onlyGivenNames x); first | (refine sound_cut fz x ?_ (fun _ => ?_); unfold x) | skip)
    | with_reducible apply Dev.activate_sound
    | with_reducible apply Dev.setChan_sound
    | with_reducible exact sound_mk (Dev.Sound.parts (by assumption))

theorem Dev.mapBank_sound {d : Dev} {entry : Nat} {page : Nat} {bank : Nat} {a : Word} {b : Word} (hk : Dev.Sound fz d) :
    Dev.Sound fz (Dev.mapBank d entry page bank a b) := by
  unfold Dev.mapBank
  repeat' first
    | with_reducible assumption
    | (with_reducible apply sound_foldl; intros)
    | (with_reducible apply sound_foldl_snd; intros)
    | with_reducible apply Dev.setReg_sound
    | with_reducible exact sound_mk (Dev.Sound.parts (by assumption))

theorem Dev.startCopy_sound {d : Dev} {n : Nat} (hk : Dev.Sound fz d) :
    Dev.Sound fz (Dev.startCopy d n) := by
  unfold Dev.startCopy
  repeat' first
    | with_reducible assumption
    | ((fail_if_no_progress extract_lets +onlyGivenNames x); first | (refine sound_cut fz x ?_ (fun _ => ?_); unfold x) | skip)
    | (split <;> first | (rename_i heq; simp only [Prod.ext_iff] at heq; first | refine sound_eq fz heq.2 ?_ (fun _ => ?_) | refine sound_eq fz heq.2.2 ?_ (fun _ => ?_) | refine sound_eq fz heq.2.2.2 ?_ (fun _ => ?_)) | skip)
    | with_reducible apply Dev.draw_sound
    | with_reducible apply Dev.mapBank_sound
    | with_reducible apply Dev.queueDesc_sound
    | with_reducible apply Dev.setRpt_sound
    | with_reducible exact sound_mk (Dev.Sound.parts (by assumption))
    | split

theorem Dev.afterTracking_sound {d : Dev} {f : FrameInfo} (hk : Dev.Sound fz d) :
    Dev.Sound fz (Dev.afterTracking d f) := by
  unfold Dev.afterTracking
  repeat' first
    | with_reducible assumption
    | ((fail_if_no_progress extract_lets +onlyGivenNames x); first | (refine sound_cut fz x ?_ (fun _ => ?_); unfold x) | skip)
    | with_reducible apply Dev.setOwner_sound
    | with_reducible apply Dev.setRpt_sound
    | with_reducible apply Dev.startCopy_sound
    | with_reducible exact sound_mk (Dev.Sound.parts (by assumption))
    | split

theorem Dev.copyReleased_sound {d : Dev} {n : Nat} (hk : Dev.Sound fz d) :
    Dev.Sound fz (Dev.copyReleased d n) := by
  unfold Dev.copyReleased
  repeat' first
    | with_reducible assumption
    | with_reducible apply Dev.setOwner_sound
    | with_reducible exact sound_mk (Dev.Sound.parts (by assumption))
    | split

theorem Dev.capAbandon_sound {d : Dev} {frame : Nat} (hk : Dev.Sound fz d) :
    Dev.Sound fz (Dev.capAbandon d frame) := by
  unfold Dev.capAbandon
  repeat' first
    | with_reducible assumption
    | ((fail_if_no_progress extract_lets +onlyGivenNames x); first | (refine sound_cut fz x ?_ (fun _ => ?_); unfold x) | skip)
    | with_reducible apply Dev.bump_sound
    | with_reducible apply Dev.capEnd_sound
    | with_reducible apply Dev.copyReleased_sound
    | with_reducible apply Dev.flushChan_sound
    | with_reducible apply Dev.setFld_sound
    | with_reducible apply Dev.setRpt_sound
    | with_reducible exact sound_mk (Dev.Sound.parts (by assumption))
    | split

theorem Dev.gatherRestart_sound {d : Dev} (hk : Dev.Sound fz d) :
    Dev.Sound fz (Dev.gatherRestart d) := by
  unfold Dev.gatherRestart
  repeat' first
    | with_reducible assumption
    | ((fail_if_no_progress extract_lets +onlyGivenNames x); first | (refine sound_cut fz x ?_ (fun _ => ?_); unfold x) | skip)
    | (with_reducible apply sound_foldl; intros)
    | with_reducible apply Dev.flushChan_sound
    | with_reducible apply Dev.setReg_sound

theorem Dev.dropActive_sound {d : Dev} {c : Nat} (hk : Dev.Sound fz d) :
    Dev.Sound fz (Dev.dropActive d c) := by
  unfold Dev.dropActive
  repeat' first
    | with_reducible assumption
    | ((fail_if_no_progress extract_lets +onlyGivenNames x); first | (refine sound_cut fz x ?_ (fun _ => ?_); unfold x) | skip)
    | with_reducible apply Dev.setChan_sound
    | with_reducible apply Dev.setFaulted_sound

theorem Dev.leaveWatch_sound {d : Dev} (hk : Dev.Sound fz d) :
    Dev.Sound fz (Dev.leaveWatch d) := by
  unfold Dev.leaveWatch
  repeat' first
    | with_reducible assumption
    | ((fail_if_no_progress extract_lets +onlyGivenNames x); first | (refine sound_cut fz x ?_ (fun _ => ?_); unfold x) | skip)
    | with_reducible apply Dev.setRpt_sound
    | with_reducible apply Dev.portsWake_sound
    | with_reducible apply Dev.railsResume_sound
    | with_reducible apply Dev.lampsFromWatch_sound

theorem Dev.recordReset_sound {d : Dev} {code : Nat} (hk : Dev.Sound fz d) :
    Dev.Sound fz (Dev.recordReset d code) := by
  unfold Dev.recordReset
  repeat' first
    | with_reducible assumption
    | ((fail_if_no_progress extract_lets +onlyGivenNames x); first | (refine sound_cut fz x ?_ (fun _ => ?_); unfold x) | skip)
    | with_reducible apply Dev.setFld_sound
    | with_reducible apply Dev.bump_sound
    | with_reducible exact sound_mk (Dev.Sound.parts (by assumption))
    | split

theorem Dev.cancelNow_sound {d : Dev} {reason : Nat} (hk : Dev.Sound fz d) :
    Dev.Sound fz (Dev.cancelNow d reason) := by
  unfold Dev.cancelNow
  repeat' first
    | with_reducible assumption
    | ((fail_if_no_progress extract_lets +onlyGivenNames x); first | (refine sound_cut fz x ?_ (fun _ => ?_); unfold x) | skip)
    | (with_reducible apply sound_foldl; intros)
    | (fail_if_no_progress intros)
    | with_reducible apply Dev.cancelLive_sound
    | with_reducible apply Dev.setTrk_sound
    | with_reducible apply Dev.setSurf_sound
    | with_reducible apply Dev.sendContacts_sound
    | with_reducible apply Dev.inGroup_sound
    | with_reducible apply Dev.hidOwe_sound
    | with_reducible apply Dev.contactRecord_sound
    | split

theorem Dev.clearWorking_sound {d : Dev} (h : Dev.Sound fz d) : d.clearWorking.Sound fz :=
  sound_mk ⟨h.1, cellsWf_filter _ h.2.1, h.2.2⟩

theorem Dev.restartCores_sound {d : Dev} (hk : Dev.Sound fz d) :
    Dev.Sound fz (Dev.restartCores d) := by
  unfold Dev.restartCores
  repeat' first
    | with_reducible assumption
    | ((fail_if_no_progress extract_lets +onlyGivenNames x); first | (refine sound_cut fz x ?_ (fun _ => ?_); unfold x) | skip)
    | with_reducible apply Dev.bumpBy_sound
    | with_reducible exact sound_mk (Dev.Sound.parts (by assumption))

theorem Dev.beginRestart_sound {d : Dev} (hk : Dev.Sound fz d) :
    Dev.Sound fz (Dev.beginRestart d) := by
  unfold Dev.beginRestart
  repeat' first
    | with_reducible assumption
    | (with_reducible apply sound_foldl_snd; intros)
    | ((fail_if_no_progress extract_lets +onlyGivenNames x); first | (refine sound_cut fz x ?_ (fun _ => ?_); unfold x) | skip)
    | (with_reducible apply sound_foldl; intros)
    | with_reducible apply Dev.setOwner_sound
    | with_reducible apply Dev.dropBaselines_sound
    | with_reducible apply Dev.setTrk_sound
    | with_reducible apply Dev.gatherRestart_sound
    | with_reducible apply Dev.calAbandon_sound
    | with_reducible apply Dev.abandonOps_sound
    | with_reducible apply Dev.clearWorking_sound
    | with_reducible apply Dev.restartCores_sound
    | with_reducible apply Dev.setFld_sound
    | with_reducible apply Dev.setFlag_sound
    | with_reducible apply Dev.judgeGate_sound
    | with_reducible apply Dev.bumpBy_sound
    | with_reducible apply Dev.rxRestart_sound
    | with_reducible exact sound_mk (Dev.Sound.parts (by assumption))
    | split

theorem Dev.coreWatchdog_sound {d : Dev} (hk : Dev.Sound fz d) :
    Dev.Sound fz (Dev.coreWatchdog d) := by
  unfold Dev.coreWatchdog
  repeat' first
    | with_reducible assumption
    | ((fail_if_no_progress extract_lets +onlyGivenNames x); first | (refine sound_cut fz x ?_ (fun _ => ?_); unfold x) | skip)
    | with_reducible apply Dev.beginRestart_sound
    | with_reducible apply Dev.recordReset_sound
    | with_reducible apply Dev.setFld_sound
    | with_reducible exact sound_mk (Dev.Sound.parts (by assumption))
    | split

theorem Dev.recordMode_sound {d : Dev} {new : Nat} {prev : Nat} {reason : Nat} {apply : Nat} (hk : Dev.Sound fz d) :
    Dev.Sound fz (Dev.recordMode d new prev reason apply) := by
  unfold Dev.recordMode
  repeat' first
    | with_reducible assumption
    | ((fail_if_no_progress extract_lets +onlyGivenNames x); first | (refine sound_cut fz x ?_ (fun _ => ?_); unfold x) | skip)
    | with_reducible apply Dev.setModes_sound
    | with_reducible apply Dev.logEvent_sound
    | with_reducible apply Dev.ring_sound
    | split

theorem Dev.enterWatch_sound {d : Dev} (hk : Dev.Sound fz d) :
    Dev.Sound fz (Dev.enterWatch d) := by
  unfold Dev.enterWatch
  repeat' first
    | with_reducible assumption
    | with_reducible apply Dev.portsWatch_sound
    | with_reducible apply Dev.railsWatch_sound
    | with_reducible apply Dev.lampsWatch_sound
    | with_reducible apply Dev.dropFrames_sound
    | with_reducible apply Dev.cancelNow_sound

theorem Dev.beginHibernate_sound {d : Dev} (hk : Dev.Sound fz d) :
    Dev.Sound fz (Dev.beginHibernate d) := by
  unfold Dev.beginHibernate
  repeat' first
    | with_reducible assumption
    | ((fail_if_no_progress extract_lets +onlyGivenNames x); first | (refine sound_cut fz x ?_ (fun _ => ?_); unfold x) | skip)
    | with_reducible apply Dev.setModes_sound
    | with_reducible apply Dev.scanStop_sound
    | with_reducible apply Dev.cancelNow_sound
    | with_reducible apply Dev.txStop_sound
    | with_reducible apply Dev.rxStop_sound

theorem Dev.metersOff_sound {d : Dev} (hk : Dev.Sound fz d) :
    Dev.Sound fz (Dev.metersOff d) := by
  unfold Dev.metersOff
  repeat' first
    | with_reducible assumption
    | ((fail_if_no_progress extract_lets +onlyGivenNames x); first | (refine sound_cut fz x ?_ (fun _ => ?_); unfold x) | skip)
    | with_reducible apply Dev.setFlag_sound
    | with_reducible apply Dev.setReg_sound
    | with_reducible exact sound_mk (Dev.Sound.parts (by assumption))

theorem Dev.openSet_sound {d : Dev} {entry : Nat} (hk : Dev.Sound fz d) :
    Dev.Sound fz (Dev.openSet d entry) := by
  unfold Dev.openSet
  repeat' first
    | with_reducible assumption
    | with_reducible apply Dev.ring_sound
    | with_reducible apply Dev.setFld_sound

theorem Dev.enterService_sound {d : Dev} {entry : Nat} (hk : Dev.Sound fz d) :
    Dev.Sound fz (Dev.enterService d entry) := by
  unfold Dev.enterService
  repeat' first
    | with_reducible assumption
    | ((fail_if_no_progress extract_lets +onlyGivenNames x); first | (refine sound_cut fz x ?_ (fun _ => ?_); unfold x) | skip)
    | with_reducible apply Dev.metersOff_sound
    | with_reducible apply Dev.txStop_sound
    | with_reducible apply Dev.lampsOff_sound
    | with_reducible apply Dev.setFlag_sound
    | with_reducible apply Dev.scanStop_sound
    | with_reducible apply Dev.judgeGate_sound
    | with_reducible apply Dev.openSet_sound

theorem Dev.leaveService_sound {d : Dev} (hk : Dev.Sound fz d) :
    Dev.Sound fz (Dev.leaveService d) := by
  unfold Dev.leaveService
  repeat' first
    | with_reducible assumption
    | ((fail_if_no_progress extract_lets +onlyGivenNames x); first | (refine sound_cut fz x ?_ (fun _ => ?_); unfold x) | skip)
    | with_reducible apply Dev.metersOff_sound
    | with_reducible apply Dev.scanStop_sound
    | with_reducible apply Dev.setFlag_sound
    | with_reducible apply Dev.setFld_sound
    | with_reducible apply Dev.railsResume_sound
    | with_reducible apply Dev.fullRun_sound
    | with_reducible apply Dev.judgeGate_sound
    | with_reducible apply Dev.ring_sound
    | with_reducible apply Dev.lampsOff_sound
    | with_reducible exact sound_mk (Dev.Sound.parts (by assumption))
    | split

theorem Dev.setMode_sound {d : Dev} {new : Nat} {reason : Nat} {apply : Nat} (hk : Dev.Sound fz d) :
    Dev.Sound fz (Dev.setMode d new reason apply) := by
  unfold Dev.setMode
  repeat' first
    | with_reducible assumption
    | ((fail_if_no_progress extract_lets +onlyGivenNames x); first | (refine sound_cut fz x ?_ (fun _ => ?_); unfold x) | skip)
    | with_reducible apply Dev.setFld_sound
    | with_reducible apply Dev.recordMode_sound
    | split

theorem Dev.resumeScan_sound {d : Dev} (hk : Dev.Sound fz d) :
    Dev.Sound fz (Dev.resumeScan d) := by
  unfold Dev.resumeScan
  repeat' first
    | with_reducible assumption
    | with_reducible apply Dev.scanStart_sound
    | split

theorem Dev.changeMode_sound {d : Dev} {new : Nat} {reason : Nat} {apply : Nat} (hk : Dev.Sound fz d) :
    Dev.Sound fz (Dev.changeMode d new reason apply) := by
  unfold Dev.changeMode
  repeat' first
    | with_reducible assumption
    | ((fail_if_no_progress extract_lets +onlyGivenNames x); first | (refine sound_cut fz x ?_ (fun _ => ?_); unfold x) | skip)
    | with_reducible apply Dev.leaveService_sound
    | with_reducible apply Dev.leaveWatch_sound
    | with_reducible apply Dev.setModes_sound
    | with_reducible apply Dev.setFlag_sound
    | with_reducible apply Dev.enterWatch_sound
    | with_reducible apply Dev.beginHibernate_sound
    | with_reducible apply Dev.enterService_sound
    | with_reducible apply Dev.cancelNow_sound
    | with_reducible apply Dev.setMode_sound
    | with_reducible apply Dev.resumeScan_sound
    | with_reducible apply Dev.startBurst_sound
    | with_reducible apply Dev.calService_sound
    | with_reducible apply Dev.railsResume_sound
    | with_reducible exact sound_mk (Dev.Sound.parts (by assumption))
    | split

theorem Dev.discardModes_sound {d : Dev} {report : Bool} (hk : Dev.Sound fz d) :
    Dev.Sound fz (Dev.discardModes d report) := by
  unfold Dev.discardModes
  repeat' first
    | with_reducible assumption
    | ((fail_if_no_progress extract_lets +onlyGivenNames x); first | (refine sound_cut fz x ?_ (fun _ => ?_); unfold x) | clear_value x)
    | with_reducible apply Dev.markPending_sound
    | with_reducible apply Dev.setModes_sound
    | with_reducible apply Dev.recordMode_sound
    | split

theorem Dev.safeSet_sound {d : Dev} (hk : Dev.Sound fz d) :
    Dev.Sound fz (Dev.safeSet d) := by
  unfold Dev.safeSet
  repeat' first
    | with_reducible assumption
    | ((fail_if_no_progress extract_lets +onlyGivenNames x); first | (refine sound_cut fz x ?_ (fun _ => ?_); unfold x) | skip)
    | with_reducible apply Dev.ring_sound
    | with_reducible apply Dev.setFlag_sound
    | with_reducible apply Dev.openSet_sound
    | with_reducible apply Dev.judgeGate_sound
    | split

theorem Dev.commitSafe_sound {d : Dev} (hk : Dev.Sound fz d) :
    Dev.Sound fz (Dev.commitSafe d) := by
  unfold Dev.commitSafe
  repeat' first
    | with_reducible assumption
    | ((fail_if_no_progress extract_lets +onlyGivenNames x); first | (refine sound_cut fz x ?_ (fun _ => ?_); unfold x) | skip)
    | with_reducible apply Dev.bump_sound
    | with_reducible apply Dev.setFld_sound
    | with_reducible apply Dev.setFlag_sound
    | with_reducible exact sound_mk (Dev.Sound.parts (by assumption))
    | split

theorem Dev.enterSafe_sound {d : Dev} {cause : Nat} (hk : Dev.Sound fz d) :
    Dev.Sound fz (Dev.enterSafe d cause) := by
  unfold Dev.enterSafe
  repeat' first
    | with_reducible assumption
    | ((fail_if_no_progress extract_lets +onlyGivenNames x); first | (refine sound_cut fz x ?_ (fun _ => ?_); unfold x) | skip)
    | with_reducible apply Dev.issueOps_sound
    | with_reducible apply Dev.send_sound
    | with_reducible apply Dev.cancelNow_sound
    | with_reducible apply Dev.calAbandon_sound
    | with_reducible apply Dev.portsOff_sound
    | with_reducible apply Dev.txStop_sound
    | with_reducible apply Dev.rxStop_sound
    | with_reducible apply Dev.railsOff_sound
    | with_reducible apply Dev.lampsOff_sound
    | with_reducible apply Dev.scanStop_sound
    | with_reducible apply Dev.setFld_sound
    | with_reducible apply Dev.discardModes_sound
    | with_reducible apply Dev.setMode_sound
    | with_reducible apply Dev.setModes_sound
    | with_reducible apply Dev.safeSet_sound
    | with_reducible apply Dev.commitSafe_sound
    | with_reducible apply Dev.calSafe_sound
    | with_reducible exact sound_mk (Dev.Sound.parts (by assumption))
    | split

end Sys2Proof.Machine
end

