-- ==== Sys2Proof/Laws/SoundStart.lean ====
section
/-!
SUPPORT. SoundStart.lean: that each operation and command of the banks, the image, start-up, resets, modes and the NVM bus keeps `Dev.Sound`.
-/

set_option maxRecDepth 4000
set_option linter.unusedTactic false
set_option linter.unreachableTactic false
set_option linter.unusedVariables false

namespace Sys2Proof.Machine

variable {fz : Fuses}

theorem Dev.setMem_sound {d : Dev} {m : Memory} (hk : Dev.Sound fz d) :
    Dev.Sound fz (Dev.setMem d m) := by
  unfold Dev.setMem
  repeat' first
    | with_reducible assumption
    | with_reducible exact sound_mk (Dev.Sound.parts (by assumption))

theorem Dev.repairBegin_sound {d : Dev} {bank : Nat} {c : Nat} {console : Bool} (hk : Dev.Sound fz d) :
    Dev.Sound fz (Dev.repairBegin d bank c console) := by
  unfold Dev.repairBegin
  repeat' first
    | with_reducible assumption
    | ((fail_if_no_progress extract_lets +onlyGivenNames x); first | (refine sound_cut fz x ?_ (fun _ => ?_); unfold x) | skip)
    | with_reducible apply Dev.setFld_sound
    | with_reducible apply Dev.setReg_sound
    | with_reducible apply Dev.repairVtxOn_sound
    | with_reducible apply Dev.setMem_sound
    | with_reducible apply Dev.setFlag_sound
    | split

theorem Dev.consoleRepair_sound {d : Dev} {n : Nat} {c : Nat} (hk : Dev.Sound fz d) :
    Dev.Sound fz (Dev.consoleRepair d n c) := by
  unfold Dev.consoleRepair
  repeat' first
    | with_reducible assumption
    | ((fail_if_no_progress extract_lets +onlyGivenNames x); first | (refine sound_cut fz x ?_ (fun _ => ?_); unfold x) | skip)
    | with_reducible apply Dev.finishErr_sound
    | with_reducible apply Dev.repairBegin_sound
    | with_reducible apply Dev.finishOk_sound
    | with_reducible apply Dev.print_sound
    | split

theorem execMemRepair_sound {n : BitVec 8} {c : BitVec 16} {s : State} {t : State}
    (hk : s.dev.Sound fz) (h : execMemRepair n c s = .next t) : t.dev.Sound fz := by
  unfold execMemRepair at h
  refine State.run_sound hk h (fun d hk => ?_)
  repeat' first
    | with_reducible assumption
    | (fail_if_no_progress intros)
    | with_reducible apply Dev.consoleRepair_sound
    | with_reducible apply Dev.command_sound
    | with_reducible apply State.run_sound
    | with_reducible apply Dev.longCommand_sound
    | with_reducible exact sound_mk (Dev.Sound.parts (by assumption))

theorem Dev.waitRepair_sound {d : Dev} {a : MemAccess} (hk : Dev.Sound fz d) :
    Dev.Sound fz (Dev.waitRepair d a) := by
  unfold Dev.waitRepair
  repeat' first
    | with_reducible assumption
    | with_reducible apply Dev.setMem_sound
    | with_reducible exact sound_mk (Dev.Sound.parts (by assumption))

theorem Dev.countWait_sound {d : Dev} {master : Nat} {waited : Bool} (hk : Dev.Sound fz d) :
    Dev.Sound fz (Dev.countWait d master waited) := by
  unfold Dev.countWait
  repeat' first
    | with_reducible assumption
    | with_reducible apply Dev.bump_sound
    | split

theorem Dev.discardPending_sound {d : Dev} (hk : Dev.Sound fz d) :
    Dev.Sound fz (Dev.discardPending d) := by
  unfold Dev.discardPending
  repeat' first
    | with_reducible assumption
    | ((fail_if_no_progress extract_lets +onlyGivenNames x); first | (refine sound_cut fz x ?_ (fun _ => ?_); unfold x) | skip)
    | (split <;> first | (rename_i heq; simp only [Prod.ext_iff] at heq; refine sound_eq fz heq.2 ?_ (fun _ => ?_)) | skip)
    | with_reducible apply Dev.draw_sound
    | with_reducible apply Dev.refuseRecord_sound
    | with_reducible apply Dev.setHostQ_sound

theorem Dev.discardPacket_sound {d : Dev} (hk : Dev.Sound fz d) : Dev.Sound fz (Dev.discardPacket d) := by
  unfold Dev.discardPacket
  have hd := Dev.draw_sound (bound := (d.link.ports.map fun p => p.queue.length).sum + d.link.inbox.length + 1) hk
  dsimp only
  split
  · exact Dev.setLink_sound hd (sound_ports fz hd)
  · refine sound_foldl (fun e p he => ?_) hd
    split
    · exact Dev.setPort_sound he
    · exact he

theorem Dev.discardTelemetry_sound {d : Dev} {w : Nat} (hk : Dev.Sound fz d) :
    Dev.Sound fz (Dev.discardTelemetry d w) := by
  unfold Dev.discardTelemetry
  repeat' first
    | with_reducible assumption
    | with_reducible apply Dev.setCal_sound
    | with_reducible exact sound_mk (Dev.Sound.parts (by assumption))
    | split

theorem Dev.uncorrActs_sound {d : Dev} {bank : Nat} {w : Nat} {act : Nat} (hk : Dev.Sound fz d) :
    Dev.Sound fz (Dev.uncorrActs d bank w act) := by
  unfold Dev.uncorrActs
  repeat' first
    | with_reducible assumption
    | with_reducible apply Dev.coreWatchdog_sound
    | with_reducible apply Dev.enterSafe_sound
    | with_reducible apply Dev.discardPacket_sound
    | with_reducible apply Dev.discardPending_sound
    | with_reducible apply Dev.discardTelemetry_sound
    | with_reducible exact sound_mk (Dev.Sound.parts (by assumption))
    | split

theorem Dev.holdsPending_sound {d : Dev} {bank : Nat} {w : Nat} (hk : Dev.Sound fz d) :
    Dev.Sound fz (Dev.holdsPending d bank w).2 := by
  unfold Dev.holdsPending
  repeat' first
    | with_reducible assumption
    | ((fail_if_no_progress extract_lets +onlyGivenNames x); first | (refine sound_cut fz x ?_ (fun _ => ?_); unfold x) | skip)
    | (split <;> first | (rename_i heq; simp only [Prod.ext_iff] at heq; first | refine sound_eq fz heq.2 ?_ (fun _ => ?_) | refine sound_eq fz heq.2.2 ?_ (fun _ => ?_) | refine sound_eq fz heq.2.2.2 ?_ (fun _ => ?_)) | skip)
    | with_reducible apply Dev.draw_sound
    | with_reducible exact sound_mk (Dev.Sound.parts (by assumption))
    | split

theorem Dev.noteCorrected_sound {d : Dev} {bank : Nat} {w : Nat} (hk : Dev.Sound fz d) :
    Dev.Sound fz (Dev.noteCorrected d bank w) := by
  unfold Dev.noteCorrected
  repeat' first
    | with_reducible assumption
    | ((fail_if_no_progress extract_lets +onlyGivenNames x); first | (refine sound_cut fz x ?_ (fun _ => ?_); unfold x) | skip)
    | with_reducible apply Dev.setMem_sound
    | with_reducible apply Dev.ring_sound
    | split

theorem Dev.trackColumn_sound {d : Dev} {bank : Nat} {col : Nat} (hk : Dev.Sound fz d) :
    Dev.Sound fz (Dev.trackColumn d bank col) := by
  unfold Dev.trackColumn
  repeat' first
    | with_reducible assumption
    | ((fail_if_no_progress extract_lets +onlyGivenNames x); first | (refine sound_cut fz x ?_ (fun _ => ?_); unfold x) | skip)
    | with_reducible apply Dev.bump_sound
    | with_reducible apply Dev.ring_sound
    | with_reducible apply Dev.setFlag_sound
    | with_reducible apply Dev.setFld_sound
    | split

theorem Dev.correct_sound {d : Dev} {bank : Nat} {w : Nat} {b : Nat} (hk : Dev.Sound fz d) :
    Dev.Sound fz (Dev.correct d bank w b) := by
  unfold Dev.correct
  repeat' first
    | with_reducible assumption
    | with_reducible apply Dev.noteCorrected_sound
    | with_reducible apply Dev.trackColumn_sound
    | with_reducible apply Dev.bump_sound

theorem Dev.scrubNext_sound {d : Dev} (hk : Dev.Sound fz d) :
    Dev.Sound fz (Dev.scrubNext d) := by
  unfold Dev.scrubNext
  repeat' first
    | with_reducible assumption
    | ((fail_if_no_progress extract_lets +onlyGivenNames x); first | (refine sound_cut fz x ?_ (fun _ => ?_); unfold x) | skip)
    | with_reducible apply Dev.setFld_sound
    | with_reducible apply Dev.bump_sound
    | split

theorem Dev.uncorrectable_sound {d : Dev} {bank : Nat} {w : Nat} {master : Nat} (hk : Dev.Sound fz d) :
    Dev.Sound fz (Dev.uncorrectable d bank w master) := by
  unfold Dev.uncorrectable
  repeat' first
    | with_reducible assumption
    | ((fail_if_no_progress extract_lets +onlyGivenNames x); first | (refine sound_cut fz x ?_ (fun _ => ?_); unfold x) | skip)
    | (split <;> first | (rename_i heq; simp only [Prod.ext_iff] at heq; first | refine sound_eq fz heq.2 ?_ (fun _ => ?_) | refine sound_eq fz heq.2.2 ?_ (fun _ => ?_) | refine sound_eq fz heq.2.2.2 ?_ (fun _ => ?_)) | skip)
    | with_reducible apply Dev.bump_sound
    | with_reducible apply Dev.ring_sound
    | with_reducible apply Dev.setReg_sound
    | with_reducible apply Dev.uncorrActs_sound
    | with_reducible apply Dev.holdsPending_sound
    | with_reducible apply Dev.scrub_sound
    | with_reducible exact sound_mk (Dev.Sound.parts (by assumption))

theorem Dev.meetErrors_sound {d : Dev} {bank : Nat} {w : Nat} {master : Nat} {flips : List (BitVec 5)} (hk : Dev.Sound fz d) :
    Dev.Sound fz (Dev.meetErrors d bank w master flips) := by
  unfold Dev.meetErrors
  repeat' first
    | with_reducible assumption
    | with_reducible apply Dev.correct_sound
    | with_reducible apply Dev.setMem_sound
    | with_reducible apply Dev.uncorrectable_sound
    | with_reducible exact sound_mk (Dev.Sound.parts (by assumption))
    | split

theorem Dev.scrub_sound {d : Dev} {flips : List (BitVec 5)} {collisions : Nat} (hk : Dev.Sound fz d) :
    Dev.Sound fz (Dev.scrub d flips collisions) := by
  unfold Dev.scrub
  repeat' first
    | with_reducible assumption
    | ((fail_if_no_progress extract_lets +onlyGivenNames x); first | (refine sound_cut fz x ?_ (fun _ => ?_); unfold x) | skip)
    | with_reducible apply Dev.bumpBy_sound
    | with_reducible apply Dev.bump_sound
    | with_reducible apply Dev.meetErrors_sound
    | with_reducible apply Dev.scrubNext_sound
    | with_reducible exact sound_mk (Dev.Sound.parts (by assumption))
    | split

theorem Dev.writeWord_sound {d : Dev} {bank : Nat} {w : Nat} {v : Word} (hk : Dev.Sound fz d) :
    Dev.Sound fz (Dev.writeWord d bank w v) := by
  unfold Dev.writeWord
  repeat' first
    | with_reducible assumption
    | ((fail_if_no_progress extract_lets +onlyGivenNames x); first | (refine sound_cut fz x ?_ (fun _ => ?_); unfold x) | skip)
    | with_reducible apply Dev.setBank_sound
    | with_reducible apply Dev.setMem_sound

theorem Dev.portA_sound {d : Dev} {bank : Nat} {w : Nat} {master : Nat} {wr : Option Word} {flips : List (BitVec 5)}
    {waited : Bool} (hk : Dev.Sound fz d) :
    Dev.Sound fz (Dev.portA d bank w master wr flips waited) := by
  unfold Dev.portA
  repeat' first
    | with_reducible assumption
    | ((fail_if_no_progress extract_lets +onlyGivenNames x); first | (refine sound_cut fz x ?_ (fun _ => ?_); unfold x) | skip)
    | with_reducible apply Dev.countWait_sound
    | with_reducible apply Dev.writeWord_sound
    | with_reducible apply Dev.meetErrors_sound
    | with_reducible apply Dev.bump_sound
    | with_reducible apply Dev.waitRepair_sound
    | with_reducible exact sound_mk (Dev.Sound.parts (by assumption))
    | split

theorem execPortAAccess_sound {bank : BitVec 4} {w : BitVec 14} {master : BitVec 4} {wr : Option Word} {flips : List
    (BitVec 5)} {waited : Bool} {s : State} {t : State}
    (hk : s.dev.Sound fz) (h : execPortAAccess bank w master wr flips waited s = .next t) : t.dev.Sound fz := by
  unfold execPortAAccess at h
  refine State.run_sound hk h (fun d hk => ?_)
  repeat' first
    | with_reducible assumption
    | with_reducible apply Dev.portA_sound

theorem Dev.handover_sound {d : Dev} {bank : Nat} (hk : Dev.Sound fz d) :
    Dev.Sound fz (Dev.handover d bank) := by
  unfold Dev.handover
  repeat' first
    | with_reducible assumption
    | ((fail_if_no_progress extract_lets +onlyGivenNames x); first | (refine sound_cut fz x ?_ (fun _ => ?_); unfold x) | skip)
    | with_reducible apply Dev.setFld_sound
    | with_reducible apply Dev.setFlag_sound
    | split

theorem Dev.repairAnswer_sound {d : Dev} (hk : Dev.Sound fz d) :
    Dev.Sound fz (Dev.repairAnswer d) := by
  unfold Dev.repairAnswer
  repeat' first
    | with_reducible assumption
    | ((fail_if_no_progress extract_lets +onlyGivenNames x); first | (refine sound_cut fz x ?_ (fun _ => ?_); unfold x) | skip)
    | with_reducible apply Dev.finishOk_sound
    | with_reducible apply Dev.print_sound
    | with_reducible apply Dev.setMem_sound
    | with_reducible apply Dev.statusLine_sound
    | with_reducible exact sound_mk (Dev.Sound.parts (by assumption))
    | split

theorem Dev.portB_sound {d : Dev} {bank : Nat} {w : Nat} {master : Nat} {wr : Option Word} {flips : List (BitVec 5)}
    {waited : Bool} {collide : Bool} (hk : Dev.Sound fz d) :
    Dev.Sound fz (Dev.portB d bank w master wr flips waited collide) := by
  unfold Dev.portB
  repeat' first
    | with_reducible assumption
    | ((fail_if_no_progress extract_lets +onlyGivenNames x); first | (refine sound_cut fz x ?_ (fun _ => ?_); unfold x) | skip)
    | with_reducible apply Dev.countWait_sound
    | with_reducible apply Dev.bump_sound
    | with_reducible apply Dev.writeWord_sound
    | with_reducible apply Dev.meetErrors_sound
    | with_reducible apply Dev.waitRepair_sound
    | with_reducible exact sound_mk (Dev.Sound.parts (by assumption))
    | split

theorem Dev.performWaiting_sound {d : Dev} (hk : Dev.Sound fz d) :
    Dev.Sound fz (Dev.performWaiting d) := by
  unfold Dev.performWaiting
  repeat' first
    | with_reducible assumption
    | ((fail_if_no_progress extract_lets +onlyGivenNames x); first | (refine sound_cut fz x ?_ (fun _ => ?_); unfold x) | skip)
    | (with_reducible apply sound_foldl; intros)
    | (with_reducible apply sound_foldl_snd; intros)
    | with_reducible apply Dev.portA_sound
    | with_reducible apply Dev.setMem_sound
    | with_reducible apply Dev.portB_sound
    | with_reducible exact sound_mk (Dev.Sound.parts (by assumption))
    | split

theorem Dev.repairEnd_sound {d : Dev} {result : Nat} {poisoned : Nat} (hk : Dev.Sound fz d) :
    Dev.Sound fz (Dev.repairEnd d result poisoned) := by
  unfold Dev.repairEnd
  repeat' first
    | with_reducible assumption
    | ((fail_if_no_progress extract_lets +onlyGivenNames x); first | (refine sound_cut fz x ?_ (fun _ => ?_); unfold x) | skip)
    | with_reducible apply Dev.repairVtxOff_sound
    | with_reducible apply Dev.setMem_sound
    | with_reducible apply Dev.setFlag_sound
    | with_reducible apply Dev.setFld_sound
    | with_reducible apply Dev.repairAnswer_sound
    | with_reducible apply Dev.ring_sound
    | with_reducible apply Dev.askBurst_sound
    | with_reducible apply Dev.performWaiting_sound
    | with_reducible exact sound_mk (Dev.Sound.parts (by assumption))
    | split

theorem Dev.consoleMemCol_sound {d : Dev} {n : Nat} (hk : Dev.Sound fz d) :
    Dev.Sound fz (Dev.consoleMemCol d n) := by
  unfold Dev.consoleMemCol
  repeat' first
    | with_reducible assumption
    | with_reducible apply Dev.finishErr_sound
    | with_reducible apply Dev.finishOk_sound
    | with_reducible apply Dev.print_sound
    | split

theorem Dev.windowRead_sound {d : Dev} {rq : Requester} {w : Nat} {flips : List (BitVec 5)} (hk : Dev.Sound fz d) :
    Dev.Sound fz (Dev.windowRead d rq w flips) := by
  unfold Dev.windowRead
  repeat' first
    | with_reducible assumption
    | ((fail_if_no_progress extract_lets +onlyGivenNames x); first | (refine sound_cut fz x ?_ (fun _ => ?_); unfold x) | skip)
    | with_reducible apply Dev.bump_sound
    | with_reducible apply Dev.meetErrors_sound
    | split

theorem execScrubLate_sound {s : State} {t : State}
    (hk : s.dev.Sound fz) (h : execScrubLate s = .next t) : t.dev.Sound fz := by
  unfold execScrubLate at h
  refine State.run_sound hk h (fun d hk => ?_)
  repeat' first
    | with_reducible assumption
    | with_reducible apply Dev.bump_sound

theorem Dev.setSpare_sound {d : Dev} {bank sp : Nat} {valid killed : Bool} {c : Nat} (h : Dev.Sound fz d) :
    (d.setSpare bank sp valid killed c).Sound fz :=
  sound_mk ⟨cellsWf_set _ _ h.1, h.2⟩

theorem Dev.copyOpen_sound {d : Dev} {copy : Nat} {w : Nat} (hk : Dev.Sound fz d) :
    Dev.Sound fz (Dev.copyOpen d copy w) := by
  unfold Dev.copyOpen
  repeat' first
    | with_reducible assumption
    | ((fail_if_no_progress extract_lets +onlyGivenNames x); first | (refine sound_cut fz x ?_ (fun _ => ?_); unfold x) | skip)
    | (split <;> first | (rename_i heq; simp only [Prod.ext_iff] at heq; first | refine sound_eq fz heq.2 ?_ (fun _ => ?_) | refine sound_eq fz heq.2.2 ?_ (fun _ => ?_) | refine sound_eq fz heq.2.2.2 ?_ (fun _ => ?_)) | skip)
    | with_reducible apply Dev.draw_sound
    | with_reducible apply Dev.setBank_sound
    | with_reducible exact sound_mk (Dev.Sound.parts (by assumption))

theorem Dev.copyOut_sound {d : Dev} {bank : Nat} (hk : Dev.Sound fz d) : Dev.Sound fz (Dev.copyOut d bank) := by
  unfold Dev.copyOut
  refine Dev.setMem_sound (sound_foldl (fun e w he => Dev.copyOpen_sound he) (sound_foldl (fun e p he => ?_) ?_))
  · exact sound_mk ⟨he.1, cellsWf_set _ _ he.2.1, he.2.2⟩
  · exact sound_mk ⟨hk.1, cellsWf_filter _ hk.2.1, hk.2.2⟩

theorem Dev.repairRun_sound {d : Dev} {fuseOk : Bool} {verifyOk : Bool} (hk : Dev.Sound fz d) :
    Dev.Sound fz (Dev.repairRun d fuseOk verifyOk) := by
  unfold Dev.repairRun
  repeat' first
    | with_reducible assumption
    | ((fail_if_no_progress extract_lets +onlyGivenNames x); first | (refine sound_cut fz x ?_ (fun _ => ?_); unfold x) | skip)
    | (split <;> first | (rename_i heq; simp only [Prod.ext_iff] at heq; first | refine sound_eq fz heq.2 ?_ (fun _ => ?_) | refine sound_eq fz heq.2.2 ?_ (fun _ => ?_) | refine sound_eq fz heq.2.2.2 ?_ (fun _ => ?_)) | skip)
    | with_reducible apply Dev.copyOut_sound
    | with_reducible apply Dev.draw_sound
    | with_reducible apply Dev.repairEnd_sound
    | with_reducible apply Dev.setSpare_sound
    | with_reducible exact sound_mk (Dev.Sound.parts (by assumption))
    | split

theorem execRepairVtxReady_sound {fuseOk : Bool} {verifyOk : Bool} {s : State} {t : State}
    (hk : s.dev.Sound fz) (h : execRepairVtxReady fuseOk verifyOk s = .next t) : t.dev.Sound fz := by
  unfold execRepairVtxReady at h
  refine State.run_sound hk h (fun d hk => ?_)
  repeat' first
    | with_reducible assumption
    | with_reducible apply Dev.repairRun_sound

theorem execScrub_sound {flips : List (BitVec 5)} {collisions : BitVec 3} {s : State} {t : State}
    (hk : s.dev.Sound fz) (h : execScrub flips collisions s = .next t) : t.dev.Sound fz := by
  unfold execScrub at h
  refine State.run_sound hk h (fun d hk => ?_)
  repeat' first
    | with_reducible assumption
    | with_reducible apply Dev.scrub_sound

theorem Dev.writeOwner_sound {d : Dev} {writer : Option Requester} {bank : Nat} {owner : Nat} (hk : Dev.Sound fz d) :
    Dev.Sound fz (Dev.writeOwner d writer bank owner) := by
  unfold Dev.writeOwner
  repeat' first
    | with_reducible assumption
    | ((fail_if_no_progress extract_lets +onlyGivenNames x); first | (refine sound_cut fz x ?_ (fun _ => ?_); unfold x) | skip)
    | with_reducible apply Dev.ignoreWrite_sound
    | with_reducible apply Dev.setFld_sound
    | with_reducible apply Dev.setFlag_sound
    | split

theorem execOwnerWrite_sound {writer : Option Requester} {bank : BitVec 4} {owner : BitVec 4} {s : State} {t : State}
    (hk : s.dev.Sound fz) (h : execOwnerWrite writer bank owner s = .next t) : t.dev.Sound fz := by
  unfold execOwnerWrite at h
  refine State.run_sound hk h (fun d hk => ?_)
  repeat' first
    | with_reducible assumption
    | with_reducible apply Dev.writeOwner_sound

theorem execRepairVtxTimeout_sound {s : State} {t : State}
    (hk : s.dev.Sound fz) (h : execRepairVtxTimeout s = .next t) : t.dev.Sound fz := by
  unfold execRepairVtxTimeout at h
  refine State.run_sound hk h (fun d hk => ?_)
  repeat' first
    | with_reducible assumption
    | with_reducible apply Dev.repairEnd_sound

theorem execHandover_sound {bank : BitVec 4} {s : State} {t : State}
    (hk : s.dev.Sound fz) (h : execHandover bank s = .next t) : t.dev.Sound fz := by
  unfold execHandover at h
  refine State.run_sound hk h (fun d hk => ?_)
  repeat' first
    | with_reducible assumption
    | with_reducible apply Dev.handover_sound

theorem execPortBAccess_sound {bank : BitVec 4} {w : BitVec 14} {master : BitVec 4} {wr : Option Word} {flips : List
    (BitVec 5)} {waited : Bool} {collide : Bool} {s : State} {t : State}
    (hk : s.dev.Sound fz) (h : execPortBAccess bank w master wr flips waited collide s = .next t) : t.dev.Sound fz := by
  unfold execPortBAccess at h
  refine State.run_sound hk h (fun d hk => ?_)
  repeat' first
    | with_reducible assumption
    | with_reducible apply Dev.portB_sound

theorem Dev.writeWinSel_sound {d : Dev} {rq : Requester} {v : Word} (hk : Dev.Sound fz d) :
    Dev.Sound fz (Dev.writeWinSel d rq v) := by
  unfold Dev.writeWinSel
  repeat' first
    | with_reducible assumption
    | ((fail_if_no_progress extract_lets +onlyGivenNames x); first | (refine sound_cut fz x ?_ (fun _ => ?_); unfold x) | skip)
    | with_reducible apply Dev.setMem_sound

theorem Dev.windowWrite_sound {d : Dev} {rq : Requester} {w : Nat} {v : Word} (hk : Dev.Sound fz d) :
    Dev.Sound fz (Dev.windowWrite d rq w v) := by
  unfold Dev.windowWrite
  repeat' first
    | with_reducible assumption
    | ((fail_if_no_progress extract_lets +onlyGivenNames x); first | (refine sound_cut fz x ?_ (fun _ => ?_); unfold x) | skip)
    | with_reducible apply Dev.writeWord_sound
    | with_reducible apply Dev.bump_sound
    | split

theorem execMemoryWindowWrite_sound {rq : Requester} {w : BitVec 14} {value : Word} {s : State} {t : State}
    (hk : s.dev.Sound fz) (h : execMemoryWindowWrite rq w value s = .next t) : t.dev.Sound fz := by
  unfold execMemoryWindowWrite at h
  refine State.run_sound hk h (fun d hk => ?_)
  repeat' first
    | with_reducible assumption
    | with_reducible apply Dev.windowWrite_sound

theorem execMemCol_sound {n : BitVec 8} {s : State} {t : State}
    (hk : s.dev.Sound fz) (h : execMemCol n s = .next t) : t.dev.Sound fz := by
  unfold execMemCol at h
  refine State.run_sound hk h (fun d hk => ?_)
  repeat' first
    | with_reducible assumption
    | (fail_if_no_progress intros)
    | with_reducible apply Dev.consoleMemCol_sound
    | with_reducible apply Dev.command_sound
    | with_reducible apply State.run_sound
    | with_reducible exact sound_mk (Dev.Sound.parts (by assumption))

theorem Dev.writeRepcmd_sound {d : Dev} {v : Word} (hk : Dev.Sound fz d) :
    Dev.Sound fz (Dev.writeRepcmd d v) := by
  unfold Dev.writeRepcmd
  repeat' first
    | with_reducible assumption
    | with_reducible apply Dev.repairBegin_sound
    | with_reducible apply Dev.ignoreWrite_sound
    | split

theorem execRepair_sound {_rq : Requester} {value : Word} {s : State} {t : State}
    (hk : s.dev.Sound fz) (h : execRepair _rq value s = .next t) : t.dev.Sound fz := by
  unfold execRepair at h
  refine State.run_sound hk h (fun d hk => ?_)
  repeat' first
    | with_reducible assumption
    | with_reducible apply Dev.writeRepcmd_sound

theorem Dev.goodWord_sound {d : Dev} {bank : Nat} {w : Nat} (hk : Dev.Sound fz d) :
    Dev.Sound fz (Dev.goodWord d bank w).2 := by
  unfold Dev.goodWord
  repeat' first
    | with_reducible assumption
    | ((fail_if_no_progress extract_lets +onlyGivenNames x); first | (refine sound_cut fz x ?_ (fun _ => ?_); unfold x) | skip)
    | (split <;> first | (rename_i heq; simp only [Prod.ext_iff] at heq; first | refine sound_eq fz heq.2 ?_ (fun _ => ?_) | refine sound_eq fz heq.2.2 ?_ (fun _ => ?_) | refine sound_eq fz heq.2.2.2 ?_ (fun _ => ?_)) | skip)
    | with_reducible apply Dev.draw_sound
    | with_reducible exact sound_mk (Dev.Sound.parts (by assumption))
    | split

theorem Dev.windowAnswer_sound {d : Dev} {rq : Requester} {w : Nat} (hk : Dev.Sound fz d) :
    Dev.Sound fz (Dev.windowAnswer d rq w).2 := by
  unfold Dev.windowAnswer
  repeat' first
    | with_reducible assumption
    | ((fail_if_no_progress extract_lets +onlyGivenNames x); first | (refine sound_cut fz x ?_ (fun _ => ?_); unfold x) | skip)
    | (split <;> first | (rename_i heq; simp only [Prod.ext_iff] at heq; first | refine sound_eq fz heq.2 ?_ (fun _ => ?_) | refine sound_eq fz heq.2.2 ?_ (fun _ => ?_) | refine sound_eq fz heq.2.2.2 ?_ (fun _ => ?_)) | skip)
    | with_reducible apply Dev.draw_sound
    | with_reducible apply Dev.goodWord_sound
    | with_reducible exact sound_mk (Dev.Sound.parts (by assumption))
    | split

theorem execMemoryWindowRead_sound {rq : Requester} {w : BitVec 14} {flips : List (BitVec 5)} {s : State} {t : State}
    (hk : s.dev.Sound fz) (h : execMemoryWindowRead rq w flips s = .next t) : t.dev.Sound fz := by
  unfold execMemoryWindowRead at h
  refine State.run_sound hk h (fun d hk => ?_)
  repeat' first
    | with_reducible assumption
    | with_reducible apply Dev.windowRead_sound

theorem Dev.setCfg_sound {d : Dev} {p v : Nat} (h : Dev.Sound fz d) : (d.setCfg p v).Sound fz :=
  sound_mk ⟨h.1, h.2.1, h.2.2.1, cellsWf_set _ _ h.2.2.2.1, h.2.2.2.2⟩

theorem forceWord_sound {acc : List Nat × Dev} {p : Nat} {v : Nat} (hk : Dev.Sound fz acc.2) :
    Dev.Sound fz (forceWord acc p v).2 := by
  unfold forceWord
  repeat' first
    | with_reducible assumption
    | ((fail_if_no_progress extract_lets +onlyGivenNames x); first | (refine sound_cut fz x ?_ (fun _ => ?_); unfold x) | skip)
    | (split <;> first | (rename_i heq; simp only [Prod.ext_iff] at heq; refine sound_eq fz heq.2 ?_ (fun _ => ?_)) | skip)
    | with_reducible apply Dev.setCfg_sound

theorem modClamps_sound {acc : List Nat × Dev} (hk : Dev.Sound fz acc.2) :
    Dev.Sound fz (modClamps acc).2 := by
  unfold modClamps
  repeat' first
    | with_reducible assumption
    | ((fail_if_no_progress extract_lets +onlyGivenNames x); first | (refine sound_cut fz x ?_ (fun _ => ?_); unfold x) | skip)
    | (with_reducible apply sound_foldl; intros)
    | (with_reducible apply sound_foldl_snd; intros)
    | (split <;> first | (rename_i heq; simp only [Prod.ext_iff] at heq; refine sound_eq fz heq.2 ?_ (fun _ => ?_)) | skip)
    | with_reducible apply forceWord_sound

theorem holdWord_sound {acc : List Nat × Dev} {p : Nat} {lo : Nat} {hi : Nat} (hk : Dev.Sound fz acc.2) :
    Dev.Sound fz (holdWord acc p lo hi).2 := by
  unfold holdWord
  repeat' first
    | with_reducible assumption
    | ((fail_if_no_progress extract_lets +onlyGivenNames x); first | (refine sound_cut fz x ?_ (fun _ => ?_); unfold x) | skip)
    | with_reducible apply forceWord_sound

theorem lowerRate_sound {acc : List Nat × Dev} {limit : Nat} {sect : Nat} {id : Nat} (hk : Dev.Sound fz acc.2) :
    Dev.Sound fz (lowerRate limit acc sect id).2 := by
  unfold lowerRate
  repeat' first
    | with_reducible assumption
    | (split <;> first | (rename_i heq; simp only [Prod.ext_iff] at heq; refine sound_eq fz heq.2 ?_ (fun _ => ?_)) | skip)
    | with_reducible apply forceWord_sound

theorem rateClamps_sound {acc : List Nat × Dev} (hk : Dev.Sound fz acc.2) :
    Dev.Sound fz (rateClamps acc).2 := by
  unfold rateClamps
  repeat' first
    | with_reducible assumption
    | ((fail_if_no_progress extract_lets +onlyGivenNames x); first | (refine sound_cut fz x ?_ (fun _ => ?_); unfold x) | (refine sound_cut fz x.2 ?_ (fun _ => ?_); unfold x) | skip)
    | (split <;> first | (rename_i heq; simp only [Prod.ext_iff] at heq; refine sound_eq fz heq.2 ?_ (fun _ => ?_)) | skip)
    | with_reducible apply forceWord_sound
    | with_reducible apply lowerRate_sound

theorem Dev.relationClamps_sound {d : Dev} {image : Bool} (hk : Dev.Sound fz d) :
    Dev.Sound fz (Dev.relationClamps d image).2 := by
  unfold Dev.relationClamps
  repeat' first
    | with_reducible assumption
    | ((fail_if_no_progress extract_lets +onlyGivenNames x); first | (refine sound_cut fz x ?_ (fun _ => ?_); unfold x) | (refine sound_cut fz x.2 ?_ (fun _ => ?_); unfold x) | skip)
    | (split <;> first | (rename_i heq; simp only [Prod.ext_iff] at heq; refine sound_eq fz heq.2 ?_ (fun _ => ?_)) | skip)
    | with_reducible apply holdWord_sound
    | with_reducible apply rateClamps_sound
    | with_reducible apply modClamps_sound
    | with_reducible apply forceWord_sound

theorem Dev.sampleStraps_sound {d : Dev} {reads : List Byte} (hk : Dev.Sound fz d) :
    Dev.Sound fz (Dev.sampleStraps d reads) := by
  unfold Dev.sampleStraps
  repeat' first
    | with_reducible assumption
    | ((fail_if_no_progress extract_lets +onlyGivenNames x); first | (refine sound_cut fz x ?_ (fun _ => ?_); unfold x) | skip)
    | with_reducible apply Dev.setReg_sound
    | with_reducible apply Dev.setPwr_sound
    | with_reducible apply Dev.ring_sound
    | split

theorem Dev.release_sound {d : Dev} {reads : List Byte} (hk : Dev.Sound fz d) :
    Dev.Sound fz (Dev.release d reads) := by
  unfold Dev.release
  repeat' first
    | with_reducible assumption
    | ((fail_if_no_progress extract_lets +onlyGivenNames x); first | (refine sound_cut fz x ?_ (fun _ => ?_); unfold x) | skip)
    | with_reducible apply Dev.setPwr_sound
    | with_reducible apply Dev.sampleStraps_sound
    | with_reducible apply Dev.setFlag_sound

theorem execResetRelease_sound {straps : List Byte} {s : State} {t : State}
    (hk : s.dev.Sound fz) (h : execResetRelease straps s = .next t) : t.dev.Sound fz := by
  unfold execResetRelease at h
  refine State.run_sound hk h (fun d hk => ?_)
  repeat' first
    | with_reducible assumption
    | ((fail_if_no_progress extract_lets +onlyGivenNames x); first | (refine sound_cut fz x ?_ (fun _ => ?_); unfold x) | skip)
    | with_reducible apply Dev.setPwr_sound
    | with_reducible apply Dev.release_sound
    | split

theorem Dev.nvmTorn_sound {d : Dev} (hk : Dev.Sound fz d) :
    Dev.Sound fz (Dev.nvmTorn d) := by
  unfold Dev.nvmTorn
  repeat' first
    | with_reducible assumption
    | with_reducible apply Dev.nvmGarble_sound
    | with_reducible exact sound_mk (Dev.Sound.parts (by assumption))
    | split

theorem Dev.blank_sound {d : Dev} (h : Dev.Sound fz d) : d.blank.Sound fz :=
  Dev.setReg_sound (sound_mk ⟨rfl, rfl, h.2.2.1, rfl, h.2.2.2.2.1, rfl, rfl, rfl, rfl, rfl, rfl⟩)

theorem Dev.keptAcross_sound {d : Dev} {n : Dev} (hk : Dev.Sound fz d) (hk : Dev.Sound fz n) :
    Dev.Sound fz (Dev.keptAcross d n) := by
  unfold Dev.keptAcross
  repeat' first
    | with_reducible assumption
    | ((fail_if_no_progress extract_lets +onlyGivenNames x); first | (refine sound_cut fz x ?_ (fun _ => ?_); unfold x) | skip)
    | with_reducible apply Dev.setFlag_sound
    | with_reducible apply Dev.setReg_sound
    | with_reducible apply Dev.setPwr_sound
    | with_reducible exact sound_mk (Dev.Sound.parts (by assumption))
    | split

theorem Dev.enterReset_sound {d : Dev} {code : Nat} (hk : Dev.Sound fz d) :
    Dev.Sound fz (Dev.enterReset d code) := by
  unfold Dev.enterReset
  repeat' first
    | with_reducible assumption
    | ((fail_if_no_progress extract_lets +onlyGivenNames x); first | (refine sound_cut fz x ?_ (fun _ => ?_); unfold x) | skip)
    | with_reducible apply Dev.blank_sound
    | with_reducible apply Dev.setPwr_sound
    | with_reducible apply Dev.recordReset_sound
    | with_reducible apply Dev.keptAcross_sound
    | with_reducible apply Dev.nvmTorn_sound
    | with_reducible exact sound_mk (Dev.Sound.parts (by assumption))
    | split

theorem Dev.resetNow_sound {d : Dev} {code : Nat} (hk : Dev.Sound fz d) :
    Dev.Sound fz (Dev.resetNow d code) := by
  unfold Dev.resetNow
  repeat' first
    | with_reducible assumption
    | with_reducible apply Dev.enterReset_sound
    | with_reducible apply Dev.release_sound
    | split

theorem Dev.writeSysCtrl_sound {d : Dev} {rq : Requester} {v : Word} (hk : Dev.Sound fz d) :
    Dev.Sound fz (Dev.writeSysCtrl d rq v) := by
  unfold Dev.writeSysCtrl
  repeat' first
    | with_reducible assumption
    | ((fail_if_no_progress extract_lets +onlyGivenNames x); first | (refine sound_cut fz x ?_ (fun _ => ?_); unfold x) | skip)
    | with_reducible apply Dev.resetNow_sound
    | with_reducible apply Dev.setPwr_sound
    | with_reducible apply Dev.ignoreWrite_sound
    | split

theorem execVcoreBrownOut_sound {s : State} {t : State}
    (hk : s.dev.Sound fz) (h : execVcoreBrownOut s = .next t) : t.dev.Sound fz := by
  unfold execVcoreBrownOut at h
  refine State.run_sound hk h (fun d hk => ?_)
  repeat' first
    | with_reducible assumption
    | with_reducible apply Dev.resetNow_sound
    | with_reducible apply Dev.recordReset_sound
    | with_reducible apply State.run_sound
    | with_reducible exact sound_mk (Dev.Sound.parts (by assumption))
    | split

theorem Dev.performReset_sound {d : Dev} (hk : Dev.Sound fz d) :
    Dev.Sound fz (Dev.performReset d) := by
  unfold Dev.performReset
  repeat' first
    | with_reducible assumption
    | with_reducible apply Dev.resetNow_sound
    | split

theorem execPowerOnRelease_sound {straps : List Byte} {s : State} {t : State}
    (hk : s.dev.Sound fz) (h : execPowerOnRelease straps s = .next t) : t.dev.Sound fz := by
  unfold execPowerOnRelease at h
  refine State.run_sound hk h (fun d hk => ?_)
  repeat' first
    | with_reducible assumption
    | ((fail_if_no_progress extract_lets +onlyGivenNames x); first | (refine sound_cut fz x ?_ (fun _ => ?_); unfold x) | skip)
    | with_reducible apply Dev.setPwr_sound
    | with_reducible apply Dev.release_sound
    | split

theorem Dev.foscStop_sound {d : Dev} (hk : Dev.Sound fz d) :
    Dev.Sound fz (Dev.foscStop d) := by
  unfold Dev.foscStop
  repeat' first
    | with_reducible assumption
    | ((fail_if_no_progress extract_lets +onlyGivenNames x); first | (refine sound_cut fz x ?_ (fun _ => ?_); unfold x) | skip)
    | with_reducible apply Dev.setFld_sound
    | with_reducible apply Dev.setFlag_sound
    | with_reducible exact sound_mk (Dev.Sound.parts (by assumption))

theorem execSoftwareResetPerform_sound {s : State} {t : State}
    (hk : s.dev.Sound fz) (h : execSoftwareResetPerform s = .next t) : t.dev.Sound fz := by
  unfold execSoftwareResetPerform at h
  refine State.run_sound hk h (fun d hk => ?_)
  repeat' first
    | with_reducible assumption
    | with_reducible apply Dev.performReset_sound

theorem Dev.startCrystal_sound {d : Dev} (hk : Dev.Sound fz d) :
    Dev.Sound fz (Dev.startCrystal d) := by
  unfold Dev.startCrystal
  repeat' first
    | with_reducible assumption
    | ((fail_if_no_progress extract_lets +onlyGivenNames x); first | (refine sound_cut fz x ?_ (fun _ => ?_); unfold x) | skip)
    | with_reducible apply Dev.setPwr_sound
    | split

theorem execResetPin_sound {s : State} {t : State}
    (hk : s.dev.Sound fz) (h : execResetPin s = .next t) : t.dev.Sound fz := by
  unfold execResetPin at h
  refine State.run_sound hk h (fun d hk => ?_)
  repeat' first
    | with_reducible assumption
    | ((fail_if_no_progress extract_lets +onlyGivenNames x); first | (refine sound_cut fz x ?_ (fun _ => ?_); unfold x) | skip)
    | with_reducible apply Dev.enterReset_sound
    | with_reducible apply Dev.setPwr_sound

theorem execPowerOn_sound {s : State} {t : State}
    (hk : s.dev.Sound fz) (h : execPowerOn s = .next t) : t.dev.Sound fz := by
  unfold execPowerOn at h
  refine State.run_sound hk h (fun d hk => ?_)
  repeat' first
    | with_reducible assumption
    | ((fail_if_no_progress extract_lets +onlyGivenNames x); first | (refine sound_cut fz x ?_ (fun _ => ?_); unfold x) | skip)
    | with_reducible apply Dev.setFlag_sound
    | with_reducible apply Dev.setPwr_sound

theorem execSoftwareReset_sound {rq : Requester} {value : Word} {s : State} {t : State}
    (hk : s.dev.Sound fz) (h : execSoftwareReset rq value s = .next t) : t.dev.Sound fz := by
  unfold execSoftwareReset at h
  refine State.run_sound hk h (fun d hk => ?_)
  repeat' first
    | with_reducible assumption
    | with_reducible apply Dev.writeSysCtrl_sound

theorem Dev.followReference_sound {d : Dev} (hk : Dev.Sound fz d) :
    Dev.Sound fz (Dev.followReference d) := by
  unfold Dev.followReference
  repeat' first
    | with_reducible assumption
    | with_reducible apply Dev.setFld_sound
    | split

theorem Dev.clockEvent_sound {d : Dev} {what : Nat} (hk : Dev.Sound fz d) :
    Dev.Sound fz (Dev.clockEvent d what) := by
  unfold Dev.clockEvent
  repeat' first
    | with_reducible assumption
    | ((fail_if_no_progress extract_lets +onlyGivenNames x); first | (refine sound_cut fz x ?_ (fun _ => ?_); unfold x) | skip)
    | with_reducible apply Dev.followReference_sound
    | with_reducible apply Dev.ring_sound

theorem execXtalLost_sound {s : State} {t : State}
    (hk : s.dev.Sound fz) (h : execXtalLost s = .next t) : t.dev.Sound fz := by
  unfold execXtalLost at h
  refine State.run_sound hk h (fun d hk => ?_)
  repeat' first
    | with_reducible assumption
    | ((fail_if_no_progress extract_lets +onlyGivenNames x); first | (refine sound_cut fz x ?_ (fun _ => ?_); unfold x) | skip)
    | with_reducible apply Dev.setPwr_sound
    | with_reducible apply Dev.clockEvent_sound
    | with_reducible apply Dev.setFlag_sound
    | split

theorem execAlwaysOnLoss_sound {s : State} {t : State}
    (hk : s.dev.Sound fz) (h : execAlwaysOnLoss s = .next t) : t.dev.Sound fz := by
  unfold execAlwaysOnLoss at h
  refine State.run_sound hk h (fun d hk => ?_)
  repeat' first
    | with_reducible assumption
    | ((fail_if_no_progress extract_lets +onlyGivenNames x); first | (refine sound_cut fz x ?_ (fun _ => ?_); unfold x) | skip)
    | with_reducible apply Dev.enterReset_sound
    | with_reducible apply Dev.setPwr_sound

theorem execOutputsRestore_sound {s : State} {t : State}
    (hk : s.dev.Sound fz) (h : execOutputsRestore s = .next t) : t.dev.Sound fz := by
  unfold execOutputsRestore at h
  refine State.run_sound hk h (fun d hk => ?_)
  repeat' first
    | with_reducible assumption
    | ((fail_if_no_progress extract_lets +onlyGivenNames x); first | (refine sound_cut fz x ?_ (fun _ => ?_); unfold x) | skip)
    | with_reducible apply Dev.setPwr_sound
    | with_reducible apply Dev.ring_sound
    | split

theorem execVddaFall_sound {s : State} {t : State}
    (hk : s.dev.Sound fz) (h : execVddaFall s = .next t) : t.dev.Sound fz := by
  unfold execVddaFall at h
  refine State.run_sound hk h (fun d hk => ?_)
  repeat' first
    | with_reducible assumption
    | ((fail_if_no_progress extract_lets +onlyGivenNames x); first | (refine sound_cut fz x ?_ (fun _ => ?_); unfold x) | skip)
    | with_reducible apply Dev.enterReset_sound
    | with_reducible apply Dev.setFlag_sound
    | with_reducible apply Dev.setPwr_sound

theorem execXtalQualified_sound {s : State} {t : State}
    (hk : s.dev.Sound fz) (h : execXtalQualified s = .next t) : t.dev.Sound fz := by
  unfold execXtalQualified at h
  refine State.run_sound hk h (fun d hk => ?_)
  repeat' first
    | with_reducible assumption
    | with_reducible apply Dev.clockEvent_sound
    | with_reducible apply Dev.setFlag_sound
    | split

theorem execCoreWatchdog_sound {s : State} {t : State}
    (hk : s.dev.Sound fz) (h : execCoreWatchdog s = .next t) : t.dev.Sound fz := by
  unfold execCoreWatchdog at h
  refine State.run_sound hk h (fun d hk => ?_)
  repeat' first
    | with_reducible assumption
    | with_reducible apply Dev.coreWatchdog_sound

theorem Dev.stopCrystal_sound {d : Dev} (hk : Dev.Sound fz d) :
    Dev.Sound fz (Dev.stopCrystal d) := by
  unfold Dev.stopCrystal
  repeat' first
    | with_reducible assumption
    | ((fail_if_no_progress extract_lets +onlyGivenNames x); first | (refine sound_cut fz x ?_ (fun _ => ?_); unfold x) | skip)
    | with_reducible apply Dev.setFlag_sound
    | with_reducible apply Dev.setPwr_sound

theorem execFoscRequest_sound {s : State} {t : State}
    (hk : s.dev.Sound fz) (h : execFoscRequest s = .next t) : t.dev.Sound fz := by
  unfold execFoscRequest at h
  refine State.run_sound hk h (fun d hk => ?_)
  repeat' first
    | with_reducible assumption
    | with_reducible apply Dev.foscStart_sound
    | split

theorem execVddioReturn_sound {s : State} {t : State}
    (hk : s.dev.Sound fz) (h : execVddioReturn s = .next t) : t.dev.Sound fz := by
  unfold execVddioReturn at h
  refine State.run_sound hk h (fun d hk => ?_)
  repeat' first
    | with_reducible assumption
    | ((fail_if_no_progress extract_lets +onlyGivenNames x); first | (refine sound_cut fz x ?_ (fun _ => ?_); unfold x) | skip)
    | with_reducible apply Dev.setPwr_sound
    | with_reducible apply Dev.setFlag_sound
    | split

theorem Dev.reportReset_sound {d : Dev} (hk : Dev.Sound fz d) :
    Dev.Sound fz (Dev.reportReset d) := by
  unfold Dev.reportReset
  repeat' first
    | with_reducible assumption
    | with_reducible apply Dev.ring_sound

theorem execVddWarningClear_sound {s : State} {t : State}
    (hk : s.dev.Sound fz) (h : execVddWarningClear s = .next t) : t.dev.Sound fz := by
  unfold execVddWarningClear at h
  refine State.run_sound hk h (fun d hk => ?_)
  repeat' first
    | with_reducible assumption
    | with_reducible apply Dev.ring_sound
    | with_reducible apply Dev.setFlag_sound
    | split

theorem execVddioLoss_sound {s : State} {t : State}
    (hk : s.dev.Sound fz) (h : execVddioLoss s = .next t) : t.dev.Sound fz := by
  unfold execVddioLoss at h
  refine State.run_sound hk h (fun d hk => ?_)
  repeat' first
    | with_reducible assumption
    | ((fail_if_no_progress extract_lets +onlyGivenNames x); first | (refine sound_cut fz x ?_ (fun _ => ?_); unfold x) | skip)
    | with_reducible apply Dev.setFlag_sound
    | with_reducible apply Dev.setPwr_sound
    | with_reducible apply Dev.ring_sound
    | with_reducible apply Dev.nvmIdle_sound
    | with_reducible apply Dev.nvmTorn_sound
    | with_reducible apply State.run_sound
    | with_reducible exact sound_mk (Dev.Sound.parts (by assumption))

theorem execXtalQualifyTimeout_sound {s : State} {t : State}
    (hk : s.dev.Sound fz) (h : execXtalQualifyTimeout s = .next t) : t.dev.Sound fz := by
  unfold execXtalQualifyTimeout at h
  refine State.run_sound hk h (fun d hk => ?_)
  repeat' first
    | with_reducible assumption
    | ((fail_if_no_progress extract_lets +onlyGivenNames x); first | (refine sound_cut fz x ?_ (fun _ => ?_); unfold x) | skip)
    | with_reducible apply Dev.clockEvent_sound
    | with_reducible apply Dev.setFlag_sound
    | with_reducible apply Dev.setPwr_sound
    | split

theorem execFoscStop_sound {s : State} {t : State}
    (hk : s.dev.Sound fz) (h : execFoscStop s = .next t) : t.dev.Sound fz := by
  unfold execFoscStop at h
  refine State.run_sound hk h (fun d hk => ?_)
  repeat' first
    | with_reducible assumption
    | with_reducible apply Dev.foscStop_sound
    | with_reducible apply State.run_sound
    | with_reducible exact sound_mk (Dev.Sound.parts (by assumption))
    | split

theorem Dev.setBoot_sound {d : Dev} {b : Boot} (hk : Dev.Sound fz d) :
    Dev.Sound fz (Dev.setBoot d b) := by
  unfold Dev.setBoot
  repeat' first
    | with_reducible assumption
    | with_reducible exact sound_mk (Dev.Sound.parts (by assumption))

theorem execVddWarningSet_sound {s : State} {t : State}
    (hk : s.dev.Sound fz) (h : execVddWarningSet s = .next t) : t.dev.Sound fz := by
  unfold execVddWarningSet at h
  refine State.run_sound hk h (fun d hk => ?_)
  repeat' first
    | with_reducible assumption
    | with_reducible apply Dev.ring_sound
    | with_reducible apply Dev.bump_sound
    | with_reducible apply Dev.setFlag_sound
    | split

theorem execVddBrownOut_sound {s : State} {t : State}
    (hk : s.dev.Sound fz) (h : execVddBrownOut s = .next t) : t.dev.Sound fz := by
  unfold execVddBrownOut at h
  refine State.run_sound hk h (fun d hk => ?_)
  repeat' first
    | with_reducible assumption
    | ((fail_if_no_progress extract_lets +onlyGivenNames x); first | (refine sound_cut fz x ?_ (fun _ => ?_); unfold x) | skip)
    | with_reducible apply Dev.enterReset_sound
    | with_reducible apply Dev.setPwr_sound

theorem execFoscLockTimeout_sound {s : State} {t : State}
    (hk : s.dev.Sound fz) (h : execFoscLockTimeout s = .next t) : t.dev.Sound fz := by
  unfold execFoscLockTimeout at h
  refine State.run_sound hk h (fun d hk => ?_)
  repeat' first
    | with_reducible assumption
    | ((fail_if_no_progress extract_lets +onlyGivenNames x); first | (refine sound_cut fz x ?_ (fun _ => ?_); unfold x) | skip)
    | with_reducible apply Dev.setPwr_sound
    | with_reducible apply Dev.clockEvent_sound
    | with_reducible apply Dev.setFlag_sound
    | split

theorem Dev.usbRegs_sound {d : Dev} (hk : Dev.Sound fz d) :
    Dev.Sound fz (Dev.usbRegs d) := by
  unfold Dev.usbRegs
  repeat' first
    | with_reducible assumption
    | ((fail_if_no_progress extract_lets +onlyGivenNames x); first | (refine sound_cut fz x ?_ (fun _ => ?_); unfold x) | skip)
    | with_reducible apply Dev.setFld_sound

theorem Dev.imageRegs_sound {d : Dev} (hk : Dev.Sound fz d) :
    Dev.Sound fz (Dev.imageRegs d) := by
  unfold Dev.imageRegs
  repeat' first
    | with_reducible assumption
    | ((fail_if_no_progress extract_lets +onlyGivenNames x); first | (refine sound_cut fz x ?_ (fun _ => ?_); unfold x) | skip)
    | (with_reducible apply sound_foldl; intros)
    | with_reducible apply Dev.usbRegs_sound
    | with_reducible apply Dev.setFld_sound
    | with_reducible apply Dev.writeSrcCfg_sound
    | with_reducible apply Dev.irLoad_sound

theorem Dev.noteClamps_sound {d : Dev} {ps : List Nat} (hk : Dev.Sound fz d) :
    Dev.Sound fz (Dev.noteClamps d ps) := by
  unfold Dev.noteClamps
  repeat' first
    | with_reducible assumption
    | ((fail_if_no_progress extract_lets +onlyGivenNames x); first | (refine sound_cut fz x ?_ (fun _ => ?_); unfold x) | skip)
    | (with_reducible apply sound_foldl; intros)
    | with_reducible apply Dev.setFlag_sound
    | with_reducible apply Dev.setFld_sound
    | with_reducible apply Dev.ring_sound

theorem Build.words_sound {ty : Nat} {f : FieldSpec} {ws : List Word} {b : Build} {i : Nat} (hk : b.dev.Sound fz) :
    (b.words ty f i ws).dev.Sound fz := by
  induction ws generalizing b i with
  | nil => exact hk
  | cons w rest ih =>
    unfold Build.words
    split
    · exact hk
    · exact ih (Dev.setCfg_sound hk)

theorem Build.entry_sound {ty : Nat} {e : Nat × List Word} {b : Build} (hk : b.dev.Sound fz) :
    (b.entry ty e).dev.Sound fz := by
  unfold Build.entry
  split
  · exact hk
  · split
    · exact hk
    · split
      · extract_lets b2
        have h2 : b2.dev.Sound fz := Build.words_sound hk
        split
        · exact h2
        · exact sound_mk h2.parts
      · exact hk

theorem build_foldl_sound {α : Type} {g : Build → α → Build} {xs : List α} {b : Build}
    (hg : ∀ b x, Dev.Sound fz b.dev → (g b x).dev.Sound fz) (h : b.dev.Sound fz) : (xs.foldl g b).dev.Sound fz := by
  induction xs generalizing b with
  | nil => exact h
  | cons x xs ih => exact ih (hg b x h)

theorem buildConfig_sound {d : Dev} {ss : List (Nat × List (Nat × List Word))} {k : Nat} (hk : d.Sound fz) :
    (buildConfig d ss k).dev.Sound fz := by
  unfold buildConfig
  extract_lets start b
  have h0 : b.dev.Sound fz :=
    build_foldl_sound (fun _ _ h => build_foldl_sound (fun _ _ h => Build.entry_sound h) h)
      (sound_mk ⟨hk.1, hk.2.1, hk.2.2.1, rfl, hk.2.2.2.2⟩)
  split
  · exact h0
  · split
    · exact h0
    · exact Dev.relationClamps_sound h0

theorem Dev.checkImage_wf {d : Dev} {bytes : List Byte} (hk : d.Sound fz) :
    cellsWf paramDefault (d.checkImage bytes).cfg = true := by
  unfold Dev.checkImage
  extract_lets h body
  split
  · rfl
  · split
    · rfl
    · split
      · split
        · rfl
        · extract_lets b
          have hb : b.dev.Sound fz := buildConfig_sound hk
          split
          · rfl
          · exact hb.2.2.2.1
      · rfl

theorem Dev.applyImage_sound {d : Dev} {slot : Nat} {bytes : List Byte} {v : Verdict} (hk : Dev.Sound fz d)
    (hv : cellsWf paramDefault v.cfg = true) : (d.applyImage slot bytes v).Sound fz := by
  have h0 : Dev.Sound fz { d with cfg := v.cfg, cfgLen := v.cfgLen, img := [] } :=
    sound_mk ⟨hk.1, hk.2.1, hk.2.2.1, hv, hk.2.2.2.2⟩
  unfold Dev.applyImage
  repeat' first
    | with_reducible assumption
    | ((fail_if_no_progress extract_lets +onlyGivenNames x); first | (refine sound_cut fz x ?_ (fun _ => ?_); unfold x) | skip)
    | with_reducible apply Dev.loadSettings_sound
    | with_reducible apply Dev.portsFromImage_sound
    | with_reducible apply Dev.imageRegs_sound
    | with_reducible apply Dev.startCrystal_sound
    | with_reducible apply Dev.stopCrystal_sound
    | with_reducible apply Dev.noteClamps_sound
    | with_reducible apply Dev.setFld_sound
    | with_reducible apply Dev.setFlag_sound
    | with_reducible apply Dev.setBoot_sound
    | split

theorem Dev.wakeReport_sound {d : Dev} (hk : Dev.Sound fz d) :
    Dev.Sound fz (Dev.wakeReport d) := by
  unfold Dev.wakeReport
  repeat' first
    | with_reducible assumption
    | ((fail_if_no_progress extract_lets +onlyGivenNames x); first | (refine sound_cut fz x ?_ (fun _ => ?_); unfold x) | skip)
    | with_reducible apply Dev.ring_sound

theorem Dev.needLink_sound {d : Dev} (hk : Dev.Sound fz d) :
    Dev.Sound fz (Dev.needLink d) := by
  unfold Dev.needLink
  repeat' first
    | with_reducible assumption
    | ((fail_if_no_progress extract_lets +onlyGivenNames x); first | (refine sound_cut fz x ?_ (fun _ => ?_); unfold x) | skip)
    | with_reducible apply Dev.setBoot_sound

theorem Dev.routerStart_sound {d : Dev} {step : Nat} (hk : Dev.Sound fz d) :
    Dev.Sound fz (Dev.routerStart d step) := by
  unfold Dev.routerStart
  repeat' first
    | with_reducible assumption
    | (with_reducible apply sound_foldl_snd; intros)
    | ((fail_if_no_progress extract_lets +onlyGivenNames x); first | (refine sound_cut fz x ?_ (fun _ => ?_); unfold x) | skip)
    | (with_reducible apply sound_foldl; intros)
    | with_reducible apply Dev.setPwr_sound
    | with_reducible apply Dev.ring_sound
    | with_reducible apply Dev.acceptAt_sound
    | with_reducible exact sound_mk (Dev.Sound.parts (by assumption))

theorem Dev.sendBanner_sound {d : Dev} (hk : Dev.Sound fz d) :
    Dev.Sound fz (Dev.sendBanner d) := by
  unfold Dev.sendBanner
  repeat' first
    | with_reducible assumption
    | ((fail_if_no_progress extract_lets +onlyGivenNames x); first | (refine sound_cut fz x ?_ (fun _ => ?_); unfold x) | skip)
    | with_reducible apply Dev.print_sound
    | split

theorem Dev.bootSafe_sound {d : Dev} {cause : Nat} (hk : Dev.Sound fz d) :
    Dev.Sound fz (Dev.bootSafe d cause) := by
  unfold Dev.bootSafe
  repeat' first
    | with_reducible assumption
    | ((fail_if_no_progress extract_lets +onlyGivenNames x); first | (refine sound_cut fz x ?_ (fun _ => ?_); unfold x) | skip)
    | with_reducible apply Dev.routerStart_sound
    | with_reducible apply Dev.enterSafe_sound
    | with_reducible apply Dev.setModes_sound
    | with_reducible apply Dev.sendBanner_sound
    | with_reducible apply Dev.reportReset_sound
    | split

theorem Dev.noImage_sound {d : Dev} (hk : Dev.Sound fz d) :
    Dev.Sound fz (Dev.noImage d) := by
  unfold Dev.noImage
  repeat' first
    | with_reducible assumption
    | ((fail_if_no_progress extract_lets +onlyGivenNames x); first | (refine sound_cut fz x ?_ (fun _ => ?_); unfold x) | skip)
    | with_reducible apply Dev.setBoot_sound
    | with_reducible apply Dev.bootSafe_sound
    | with_reducible apply Dev.ring_sound
    | with_reducible apply Dev.imageRegs_sound
    | with_reducible exact sound_mk (Dev.Sound.parts (by assumption))

theorem Dev.noOwn_sound {d : Dev} (hk : Dev.Sound fz d) :
    Dev.Sound fz (Dev.noOwn d) := by
  unfold Dev.noOwn
  repeat' first
    | with_reducible assumption
    | with_reducible apply Dev.needLink_sound
    | with_reducible apply Dev.setFlag_sound
    | with_reducible apply Dev.noImage_sound
    | split

theorem Dev.initialMode_sound {d : Dev} (hk : Dev.Sound fz d) :
    Dev.Sound fz (Dev.initialMode d) := by
  unfold Dev.initialMode
  repeat' first
    | with_reducible assumption
    | ((fail_if_no_progress extract_lets +onlyGivenNames x); first | (refine sound_cut fz x ?_ (fun _ => ?_); unfold x) | skip)
    | with_reducible apply Dev.enterService_sound
    | with_reducible apply Dev.enterWatch_sound
    | with_reducible apply Dev.setMode_sound
    | with_reducible apply Dev.ring_sound
    | with_reducible apply Dev.scanStart_sound
    | with_reducible apply Dev.calService_sound
    | with_reducible exact sound_mk (Dev.Sound.parts (by assumption))
    | split

theorem Dev.enterStep7_sound {d : Dev} (hk : Dev.Sound fz d) :
    Dev.Sound fz (Dev.enterStep7 d) := by
  unfold Dev.enterStep7
  repeat' first
    | with_reducible assumption
    | ((fail_if_no_progress extract_lets +onlyGivenNames x); first | (refine sound_cut fz x ?_ (fun _ => ?_); unfold x) | skip)
    | with_reducible apply Dev.setPwr_sound
    | with_reducible apply Dev.setModes_sound
    | with_reducible apply Dev.lampsStartup_sound
    | with_reducible apply Dev.initialMode_sound
    | with_reducible apply Dev.setFlag_sound
    | with_reducible apply Dev.irRecorded_sound
    | with_reducible apply Dev.wakeReport_sound
    | with_reducible apply Dev.reportReset_sound
    | with_reducible apply Dev.sendJoin_sound
    | with_reducible apply Dev.sendBanner_sound
    | with_reducible apply Dev.startBurst_sound
    | with_reducible exact sound_mk (Dev.Sound.parts (by assumption))
    | split

theorem Dev.usbEvent_sound {d : Dev} {what : Nat} (hk : Dev.Sound fz d) :
    Dev.Sound fz (Dev.usbEvent d what) := by
  unfold Dev.usbEvent
  repeat' first
    | with_reducible assumption
    | ((fail_if_no_progress extract_lets +onlyGivenNames x); first | (refine sound_cut fz x ?_ (fun _ => ?_); unfold x) | skip)
    | with_reducible apply Dev.logEvent_sound
    | with_reducible apply Dev.ring_sound
    | split

theorem Dev.usbTry_sound {d : Dev} (hk : Dev.Sound fz d) :
    Dev.Sound fz (Dev.usbTry d) := by
  unfold Dev.usbTry
  repeat' first
    | with_reducible assumption
    | with_reducible apply Dev.usbEvent_sound
    | with_reducible apply Dev.setFld_sound
    | split

theorem Dev.endStep5_sound {d : Dev} (hk : Dev.Sound fz d) :
    Dev.Sound fz (Dev.endStep5 d) := by
  unfold Dev.endStep5
  repeat' first
    | with_reducible assumption
    | ((fail_if_no_progress extract_lets +onlyGivenNames x); first | (refine sound_cut fz x ?_ (fun _ => ?_); unfold x) | skip)
    | with_reducible apply Dev.usbTry_sound
    | with_reducible apply Dev.sendEnums_sound
    | with_reducible apply Dev.fullRun_sound
    | with_reducible apply Dev.railsStart_sound
    | with_reducible apply Dev.ring_sound
    | with_reducible apply Dev.setBoot_sound
    | with_reducible apply Dev.setFlag_sound
    | with_reducible apply Dev.setPwr_sound
    | with_reducible apply Dev.setSurf_sound
    | with_reducible exact sound_mk (Dev.Sound.parts (by assumption))
    | split

theorem Dev.linkResult_sound {d : Dev} {code : Nat} (hk : Dev.Sound fz d) :
    Dev.Sound fz (Dev.linkResult d code) := by
  unfold Dev.linkResult
  repeat' first
    | with_reducible assumption
    | with_reducible apply Dev.issueOps_sound
    | with_reducible apply Dev.send_sound
    | with_reducible apply Dev.setFld_sound

theorem Dev.spareSlot_sound {d : Dev} {slot : Nat} (hk : Dev.Sound fz d) :
    Dev.Sound fz (Dev.spareSlot d slot) := by
  unfold Dev.spareSlot
  repeat' first
    | with_reducible assumption
    | with_reducible apply Dev.setFld_sound
    | split

theorem Dev.noteReject_sound {d : Dev} {wher : Nat} {v : Verdict} (hk : Dev.Sound fz d) :
    Dev.Sound fz (Dev.noteReject d wher v) := by
  unfold Dev.noteReject
  repeat' first
    | with_reducible assumption
    | ((fail_if_no_progress extract_lets +onlyGivenNames x); first | (refine sound_cut fz x ?_ (fun _ => ?_); unfold x) | skip)
    | with_reducible apply Dev.setBoot_sound
    | with_reducible apply Dev.setFld_sound
    | with_reducible apply Dev.ring_sound
    | split

theorem Dev.linkFailed_sound {d : Dev} {v : Verdict} (hk : Dev.Sound fz d) :
    Dev.Sound fz (Dev.linkFailed d v) := by
  unfold Dev.linkFailed
  repeat' first
    | with_reducible assumption
    | with_reducible apply Dev.noImage_sound
    | with_reducible apply Dev.noteReject_sound
    | with_reducible apply Dev.linkResult_sound

theorem Dev.linkCheck_sound {d : Dev} (hk : Dev.Sound fz d) : d.linkCheck.Sound fz := by
  unfold Dev.linkCheck
  extract_lets bytes v
  split
  · exact Dev.endStep5_sound (Dev.applyImage_sound (Dev.linkResult_sound (Dev.spareSlot_sound (Dev.spareSlot_sound hk)))
      (Dev.checkImage_wf hk))
  · exact Dev.linkFailed_sound hk

theorem Dev.imgData_sound {d : Dev} {words : List Word} (hk : Dev.Sound fz d) :
    Dev.Sound fz (Dev.imgData d words) := by
  unfold Dev.imgData
  repeat' first
    | with_reducible assumption
    | ((fail_if_no_progress extract_lets +onlyGivenNames x); first | (refine sound_cut fz x ?_ (fun _ => ?_); unfold x) | skip)
    | with_reducible apply Dev.setBoot_sound
    | with_reducible apply Dev.linkFailed_sound
    | with_reducible apply Dev.linkCheck_sound
    | split

theorem Dev.slotFailed_sound {d : Dev} {v : Verdict} (hk : Dev.Sound fz d) :
    Dev.Sound fz (Dev.slotFailed d v) := by
  unfold Dev.slotFailed
  repeat' first
    | with_reducible assumption
    | ((fail_if_no_progress extract_lets +onlyGivenNames x); first | (refine sound_cut fz x ?_ (fun _ => ?_); unfold x) | skip)
    | with_reducible apply Dev.noteReject_sound
    | with_reducible apply Dev.setFld_sound
    | with_reducible apply Dev.nvmIdle_sound
    | with_reducible apply Dev.setBoot_sound
    | with_reducible apply Dev.noOwn_sound
    | split

theorem Dev.slotLoaded_sound {d : Dev} {bytes : List Byte} {v : Verdict} (hk : Dev.Sound fz d)
    (hv : cellsWf paramDefault v.cfg = true) : (d.slotLoaded bytes v).Sound fz :=
  Dev.endStep5_sound (Dev.applyImage_sound (Dev.setFlag_sound (Dev.spareSlot_sound (Dev.setFld_sound (Dev.nvmIdle_sound hk)))) hv)

theorem Dev.slotReadEnd_sound {d : Dev} (hk : Dev.Sound fz d) : d.slotReadEnd.Sound fz := by
  unfold Dev.slotReadEnd
  extract_lets slot
  split
  · exact hk
  · split
    · extract_lets bytes v
      split
      · exact Dev.slotFailed_sound hk
      · split
        · exact Dev.slotLoaded_sound hk (Dev.checkImage_wf hk)
        · exact Dev.slotFailed_sound hk
    · exact hk

theorem Dev.linkImageRequest_sound {d : Dev} (hk : Dev.Sound fz d) :
    Dev.Sound fz (Dev.linkImageRequest d) := by
  unfold Dev.linkImageRequest
  repeat' first
    | with_reducible assumption
    | with_reducible apply Dev.issueOps_sound
    | with_reducible apply Dev.send_sound
    | split

theorem execLinkImageRequest_sound {s : State} {t : State}
    (hk : s.dev.Sound fz) (h : execLinkImageRequest s = .next t) : t.dev.Sound fz := by
  unfold execLinkImageRequest at h
  refine State.run_sound hk h (fun d hk => ?_)
  repeat' first
    | with_reducible assumption
    | with_reducible apply Dev.linkImageRequest_sound

theorem Dev.beginStep5_sound {d : Dev} (hk : Dev.Sound fz d) :
    Dev.Sound fz (Dev.beginStep5 d) := by
  unfold Dev.beginStep5
  repeat' first
    | with_reducible assumption
    | ((fail_if_no_progress extract_lets +onlyGivenNames x); first | (refine sound_cut fz x ?_ (fun _ => ?_); unfold x) | skip)
    | with_reducible apply Dev.routerStart_sound
    | with_reducible apply Dev.needLink_sound
    | with_reducible apply Dev.setSurf_sound
    | with_reducible apply Dev.setFlag_sound
    | with_reducible apply Dev.noOwn_sound
    | with_reducible apply Dev.setBoot_sound
    | split

theorem Dev.tryStep5_sound {d : Dev} (hk : Dev.Sound fz d) :
    Dev.Sound fz (Dev.tryStep5 d) := by
  unfold Dev.tryStep5
  repeat' first
    | with_reducible assumption
    | with_reducible apply Dev.beginStep5_sound
    | split

theorem Dev.headerRead_sound {d : Dev} {slotB : Bool} {code : Nat} {h : List Byte} (hk : Dev.Sound fz d) :
    Dev.Sound fz (Dev.headerRead d slotB code h) := by
  unfold Dev.headerRead
  repeat' first
    | with_reducible assumption
    | ((fail_if_no_progress extract_lets +onlyGivenNames x); first | (refine sound_cut fz x ?_ (fun _ => ?_); unfold x) | skip)
    | with_reducible apply Dev.nvmIdle_sound
    | with_reducible apply Dev.setFld_sound
    | with_reducible apply Dev.setBoot_sound
    | with_reducible apply Dev.startCrystal_sound
    | with_reducible apply Dev.tryStep5_sound
    | split

theorem Dev.endFullRun_sound {d : Dev} {items : List (List (BitVec 16) × Bool)} (hk : Dev.Sound fz d) :
    Dev.Sound fz (Dev.endFullRun d items) := by
  unfold Dev.endFullRun
  repeat' first
    | with_reducible assumption
    | ((fail_if_no_progress extract_lets +onlyGivenNames x); first | (refine sound_cut fz x ?_ (fun _ => ?_); unfold x) | skip)
    | with_reducible apply Dev.takeItems_sound
    | with_reducible apply Dev.setItems_sound
    | with_reducible apply Dev.setCal_sound
    | with_reducible apply Dev.runEnd_sound

theorem execLinkImageTimeout_sound {s : State} {t : State}
    (hk : s.dev.Sound fz) (h : execLinkImageTimeout s = .next t) : t.dev.Sound fz := by
  unfold execLinkImageTimeout at h
  refine State.run_sound hk h (fun d hk => ?_)
  repeat' first
    | with_reducible assumption
    | with_reducible apply Dev.linkFailed_sound
    | split

theorem Dev.slotEnds_sound {d : Dev} {code : Nat} (hk : Dev.Sound fz d) :
    Dev.Sound fz (Dev.slotEnds d code) := by
  unfold Dev.slotEnds
  repeat' first
    | with_reducible assumption
    | with_reducible apply Dev.slotFailed_sound
    | split

theorem Dev.loadFuses_sound {d : Dev} (hk : Dev.Sound fz d) :
    Dev.Sound fz (Dev.loadFuses d) := by
  unfold Dev.loadFuses
  repeat' first
    | with_reducible assumption
    | ((fail_if_no_progress extract_lets +onlyGivenNames x); first | (refine sound_cut fz x ?_ (fun _ => ?_); unfold x) | skip)
    | (with_reducible apply sound_foldl; intros)
    | with_reducible apply Dev.setFlag_sound
    | with_reducible apply Dev.setFld_sound
    | with_reducible apply Dev.setReg_sound

theorem Dev.selfTestEnd_sound {d : Dev} {columns : BitVec 16} {bad : List (BitVec 18)} (hk : Dev.Sound fz d) :
    (d.selfTestEnd columns bad).Sound fz := by
  unfold Dev.selfTestEnd
  repeat' first
    | with_reducible assumption
    | ((fail_if_no_progress extract_lets +onlyGivenNames x); first | (refine sound_cut fz x ?_ (fun _ => ?_); unfold x) | skip)
    | with_reducible apply Dev.loadFuses_sound
    | with_reducible apply Dev.bootSafe_sound
    | with_reducible apply Dev.setFld_sound
    | with_reducible apply Dev.ring_sound
    | with_reducible apply Dev.tryStep5_sound
    | with_reducible apply Dev.setBoot_sound
    | (rename_i hd _ _ _; exact sound_mk ⟨hd.1, rfl, hd.2.2⟩)
    | (rename_i hd _ _; exact sound_mk ⟨hd.1, rfl, hd.2.2⟩)
    | (rename_i hd _; exact sound_mk ⟨hd.1, rfl, hd.2.2⟩)
    | split

theorem execSelfTestEnd_sound {columns : BitVec 16} {bad : List (BitVec 18)} {s : State} {t : State}
    (hk : s.dev.Sound fz) (h : execSelfTestEnd columns bad s = .next t) : t.dev.Sound fz := by
  unfold execSelfTestEnd at h
  refine State.run_sound hk h (fun d hk => ?_)
  repeat' first
    | with_reducible assumption
    | with_reducible apply Dev.selfTestEnd_sound

theorem Dev.headerReadEnd_sound {d : Dev} {slotB : Bool} {acked : Bool} (hk : Dev.Sound fz d) :
    Dev.Sound fz (Dev.headerReadEnd d slotB acked) := by
  unfold Dev.headerReadEnd
  repeat' first
    | with_reducible assumption
    | ((fail_if_no_progress extract_lets +onlyGivenNames x); first | (refine sound_cut fz x ?_ (fun _ => ?_); unfold x) | skip)
    | with_reducible apply Dev.headerRead_sound
    | split

theorem execHeaderReadEnd_sound {slotB : Bool} {acked : Bool} {s : State} {t : State}
    (hk : s.dev.Sound fz) (h : execHeaderReadEnd slotB acked s = .next t) : t.dev.Sound fz := by
  unfold execHeaderReadEnd at h
  refine State.run_sound hk h (fun d hk => ?_)
  repeat' first
    | with_reducible assumption
    | with_reducible apply Dev.headerReadEnd_sound

theorem execSlotReadEnd_sound {s : State} {t : State}
    (hk : s.dev.Sound fz) (h : execSlotReadEnd s = .next t) : t.dev.Sound fz := by
  unfold execSlotReadEnd at h
  refine State.run_sound hk h (fun d hk => ?_)
  repeat' first
    | with_reducible assumption
    | with_reducible apply Dev.slotReadEnd_sound

theorem execImgData_sound {_src : BitVec 10} {words : List Word} {s : State} {t : State}
    (hk : s.dev.Sound fz) (h : execImgData _src words s = .next t) : t.dev.Sound fz := by
  unfold execImgData at h
  refine State.run_sound hk h (fun d hk => ?_)
  repeat' first
    | with_reducible assumption
    | with_reducible apply Dev.imgData_sound

theorem execSlotCheckTimeout_sound {s : State} {t : State}
    (hk : s.dev.Sound fz) (h : execSlotCheckTimeout s = .next t) : t.dev.Sound fz := by
  unfold execSlotCheckTimeout at h
  refine State.run_sound hk h (fun d hk => ?_)
  repeat' first
    | with_reducible assumption
    | with_reducible apply Dev.slotEnds_sound

theorem Dev.beginStep4_sound {d : Dev} (hk : Dev.Sound fz d) :
    Dev.Sound fz (Dev.beginStep4 d) := by
  unfold Dev.beginStep4
  repeat' first
    | with_reducible assumption
    | ((fail_if_no_progress extract_lets +onlyGivenNames x); first | (refine sound_cut fz x ?_ (fun _ => ?_); unfold x) | skip)
    | with_reducible apply Dev.portsEnable_sound
    | with_reducible apply Dev.foscStart_sound
    | with_reducible apply Dev.setFlag_sound
    | with_reducible apply Dev.setPwr_sound

theorem execHeaderReadTimeout_sound {slotB : Bool} {s : State} {t : State}
    (hk : s.dev.Sound fz) (h : execHeaderReadTimeout slotB s = .next t) : t.dev.Sound fz := by
  unfold execHeaderReadTimeout at h
  refine State.run_sound hk h (fun d hk => ?_)
  repeat' first
    | with_reducible assumption
    | with_reducible apply Dev.headerRead_sound
    | split

theorem Dev.noteStorm_sound {d : Dev} {bitNo : Nat} (hk : Dev.Sound fz d) :
    Dev.Sound fz (Dev.noteStorm d bitNo) := by
  unfold Dev.noteStorm
  repeat' first
    | with_reducible assumption
    | ((fail_if_no_progress extract_lets +onlyGivenNames x); first | (refine sound_cut fz x ?_ (fun _ => ?_); unfold x) | skip)
    | with_reducible apply Dev.setModes_sound
    | with_reducible apply Dev.setFld_sound
    | with_reducible apply Dev.ring_sound
    | split

theorem Dev.noteWake_sound {d : Dev} {sources : Nat} {gesture : Nat} {hib : Bool} (hk : Dev.Sound fz d) :
    Dev.Sound fz (Dev.noteWake d sources gesture hib) := by
  unfold Dev.noteWake
  repeat' first
    | with_reducible assumption
    | ((fail_if_no_progress extract_lets +onlyGivenNames x); first | (refine sound_cut fz x ?_ (fun _ => ?_); unfold x) | skip)
    | (with_reducible apply sound_foldl; intros)
    | with_reducible apply Dev.setReg_sound
    | with_reducible apply Dev.bump_sound
    | with_reducible apply Dev.noteStorm_sound
    | split

theorem Dev.loseRetention_sound {d : Dev} (h : Dev.Sound fz d) : d.loseRetention.Sound fz :=
  Dev.setFlag_sound (Dev.setReg_sound (Dev.setReg_sound (Dev.setReg_sound (Dev.setReg_sound
    (sound_mk ⟨cellsWf_filter _ h.1, h.2.1, h.2.2.1, rfl, h.2.2.2.2⟩)))))

theorem Dev.wakeHib_sound {d : Dev} {sources : Nat} {retentionOk : Bool} (hk : Dev.Sound fz d) :
    Dev.Sound fz (Dev.wakeHib d sources retentionOk) := by
  unfold Dev.wakeHib
  repeat' first
    | with_reducible assumption
    | ((fail_if_no_progress extract_lets +onlyGivenNames x); first | (refine sound_cut fz x ?_ (fun _ => ?_); unfold x) | skip)
    | with_reducible apply Dev.noteWake_sound
    | with_reducible apply Dev.wakeBurst_sound
    | with_reducible apply Dev.setFlag_sound
    | with_reducible apply Dev.loseRetention_sound
    | with_reducible apply Dev.setModes_sound
    | with_reducible apply Dev.setPwr_sound
    | with_reducible apply Dev.setFld_sound
    | split

theorem Dev.hostWakeLow_sound {d : Dev} (hk : Dev.Sound fz d) :
    Dev.Sound fz (Dev.hostWakeLow d) := by
  unfold Dev.hostWakeLow
  repeat' first
    | with_reducible assumption
    | ((fail_if_no_progress extract_lets +onlyGivenNames x); first | (refine sound_cut fz x ?_ (fun _ => ?_); unfold x) | skip)
    | with_reducible apply Dev.setFlag_sound
    | with_reducible apply Dev.setModes_sound

theorem execHostwakeLevelTimeout_sound {s : State} {t : State}
    (hk : s.dev.Sound fz) (h : execHostwakeLevelTimeout s = .next t) : t.dev.Sound fz := by
  unfold execHostwakeLevelTimeout at h
  refine State.run_sound hk h (fun d hk => ?_)
  repeat' first
    | with_reducible assumption
    | with_reducible apply Dev.bump_sound
    | with_reducible apply Dev.hostWakeLow_sound
    | split

theorem Dev.wakeEntry_sound {d : Dev} {sources : Nat} (hk : Dev.Sound fz d) :
    Dev.Sound fz (Dev.wakeEntry d sources) := by
  unfold Dev.wakeEntry
  repeat' first
    | with_reducible assumption
    | ((fail_if_no_progress extract_lets +onlyGivenNames x); first | (refine sound_cut fz x ?_ (fun _ => ?_); unfold x) | skip)
    | with_reducible apply Dev.noteWake_sound
    | with_reducible apply Dev.setFld_sound
    | with_reducible apply Dev.setFlag_sound
    | with_reducible apply Dev.setModes_sound
    | with_reducible apply Dev.enterStep7_sound
    | with_reducible apply Dev.wakeBurst_sound
    | with_reducible apply Dev.leaveWatch_sound
    | with_reducible apply Dev.railsResume_sound
    | with_reducible exact sound_mk (Dev.Sound.parts (by assumption))
    | split

theorem Dev.wakeSurface_sound {d : Dev} (hk : Dev.Sound fz d) :
    Dev.Sound fz (Dev.wakeSurface d) := by
  unfold Dev.wakeSurface
  repeat' first
    | with_reducible assumption
    | ((fail_if_no_progress extract_lets +onlyGivenNames x); first | (refine sound_cut fz x ?_ (fun _ => ?_); unfold x) | skip)
    | with_reducible apply Dev.setModes_sound
    | with_reducible apply Dev.portsWake_sound
    | with_reducible apply Dev.wakeBurst_sound
    | split

theorem Dev.watchWakes_sound {d : Dev} (hk : Dev.Sound fz d) :
    Dev.Sound fz (Dev.watchWakes d) := by
  unfold Dev.watchWakes
  repeat' first
    | with_reducible assumption
    | ((fail_if_no_progress extract_lets +onlyGivenNames x); first | (refine sound_cut fz x ?_ (fun _ => ?_); unfold x) | skip)
    | with_reducible apply Dev.wakeSurface_sound
    | with_reducible apply Dev.sendMode_sound
    | with_reducible apply Dev.issueOps_sound
    | with_reducible apply Dev.markPending_sound
    | with_reducible apply Dev.setModes_sound
    | with_reducible apply Dev.askMode_sound
    | with_reducible apply Dev.holdMode_sound
    | with_reducible exact sound_mk (Dev.Sound.parts (by assumption))
    | split

theorem Dev.wake_sound {d : Dev} {sources : Nat} {gesture : Nat} {retentionOk : Bool} (hk : Dev.Sound fz d) :
    Dev.Sound fz (Dev.wake d sources gesture retentionOk) := by
  unfold Dev.wake
  repeat' first
    | with_reducible assumption
    | ((fail_if_no_progress extract_lets +onlyGivenNames x); first | (refine sound_cut fz x ?_ (fun _ => ?_); unfold x) | skip)
    | with_reducible apply Dev.wakeHib_sound
    | with_reducible apply Dev.wakeEntry_sound
    | with_reducible apply Dev.watchWakes_sound
    | with_reducible apply Dev.noteWake_sound
    | split

theorem Dev.boundary_sound {d : Dev} (hk : Dev.Sound fz d) :
    Dev.Sound fz (Dev.boundary d) := by
  unfold Dev.boundary
  repeat' first
    | with_reducible assumption
    | ((fail_if_no_progress extract_lets +onlyGivenNames x); first | (refine sound_cut fz x ?_ (fun _ => ?_); unfold x) | skip)
    | (split <;> first | (rename_i heq; simp only [Prod.ext_iff] at heq; first | refine sound_eq fz heq.2 ?_ (fun _ => ?_) | refine sound_eq fz heq.2.2 ?_ (fun _ => ?_) | refine sound_eq fz heq.2.2.2 ?_ (fun _ => ?_)) | skip)
    | with_reducible apply Dev.draw_sound
    | with_reducible apply Dev.tickBoundary_sound
    | with_reducible apply Dev.wake_sound
    | with_reducible exact sound_mk (Dev.Sound.parts (by assumption))
    | split

theorem execTimeLoadApply_sound {s : State} {t : State}
    (hk : s.dev.Sound fz) (h : execTimeLoadApply s = .next t) : t.dev.Sound fz := by
  unfold execTimeLoadApply at h
  refine State.run_sound hk h (fun d hk => ?_)
  repeat' first
    | with_reducible assumption
    | with_reducible apply Dev.boundary_sound
    | with_reducible apply State.run_sound
    | with_reducible exact sound_mk (Dev.Sound.parts (by assumption))
    | split

theorem execTimeSlewApply_sound {s : State} {t : State}
    (hk : s.dev.Sound fz) (h : execTimeSlewApply s = .next t) : t.dev.Sound fz := by
  unfold execTimeSlewApply at h
  refine State.run_sound hk h (fun d hk => ?_)
  repeat' first
    | with_reducible assumption
    | with_reducible apply Dev.boundary_sound
    | with_reducible apply State.run_sound
    | with_reducible exact sound_mk (Dev.Sound.parts (by assumption))
    | split

theorem execSlewAdjust_sound {s : State} {t : State}
    (hk : s.dev.Sound fz) (h : execSlewAdjust s = .next t) : t.dev.Sound fz := by
  unfold execSlewAdjust at h
  refine State.run_sound hk h (fun d hk => ?_)
  repeat' first
    | with_reducible assumption
    | with_reducible apply Dev.boundary_sound
    | with_reducible apply State.run_sound
    | with_reducible exact sound_mk (Dev.Sound.parts (by assumption))
    | split

theorem execWorkerTimeStep_sound {s : State} {t : State}
    (hk : s.dev.Sound fz) (h : execWorkerTimeStep s = .next t) : t.dev.Sound fz := by
  unfold execWorkerTimeStep at h
  refine State.run_sound hk h (fun d hk => ?_)
  repeat' first
    | with_reducible assumption
    | with_reducible apply Dev.boundary_sound
    | with_reducible apply State.run_sound
    | with_reducible exact sound_mk (Dev.Sound.parts (by assumption))
    | split

theorem execTimeAlarm_sound {s : State} {t : State}
    (hk : s.dev.Sound fz) (h : execTimeAlarm s = .next t) : t.dev.Sound fz := by
  unfold execTimeAlarm at h
  refine State.run_sound hk h (fun d hk => ?_)
  repeat' first
    | with_reducible assumption
    | ((fail_if_no_progress extract_lets +onlyGivenNames x); first | (refine sound_cut fz x ?_ (fun _ => ?_); unfold x) | skip)
    | with_reducible apply Dev.boundary_sound
    | with_reducible apply State.run_sound
    | with_reducible exact sound_mk (Dev.Sound.parts (by assumption))
    | split

theorem Dev.wakeComplete_sound {d : Dev} (hk : Dev.Sound fz d) :
    Dev.Sound fz (Dev.wakeComplete d) := by
  unfold Dev.wakeComplete
  repeat' first
    | with_reducible assumption
    | ((fail_if_no_progress extract_lets +onlyGivenNames x); first | (refine sound_cut fz x ?_ (fun _ => ?_); unfold x) | skip)
    | with_reducible apply Dev.foscStart_sound
    | with_reducible apply Dev.setFlag_sound
    | with_reducible apply Dev.setSurf_sound
    | with_reducible apply Dev.setCal_sound
    | with_reducible apply Dev.loadSettings_sound
    | with_reducible apply Dev.irLoad_sound
    | with_reducible apply Dev.portsFromImage_sound
    | with_reducible apply Dev.portsEnable_sound
    | with_reducible apply Dev.railsStart_sound
    | with_reducible apply Dev.routerStart_sound
    | with_reducible apply Dev.enterStep7_sound

theorem execHostwakePulseEnd_sound {s : State} {t : State}
    (hk : s.dev.Sound fz) (h : execHostwakePulseEnd s = .next t) : t.dev.Sound fz := by
  unfold execHostwakePulseEnd at h
  refine State.run_sound hk h (fun d hk => ?_)
  repeat' first
    | with_reducible assumption
    | with_reducible apply Dev.hostWakeLow_sound
    | split

theorem Dev.writeWakeEn_sound {d : Dev} {v : Word} (hk : Dev.Sound fz d) :
    Dev.Sound fz (Dev.writeWakeEn d v) := by
  unfold Dev.writeWakeEn
  repeat' first
    | with_reducible assumption
    | ((fail_if_no_progress extract_lets +onlyGivenNames x); first | (refine sound_cut fz x ?_ (fun _ => ?_); unfold x) | skip)
    | with_reducible apply Dev.setFld_sound

theorem execWakeSourceEnable_sound {value : Word} {s : State} {t : State}
    (hk : s.dev.Sound fz) (h : execWakeSourceEnable value s = .next t) : t.dev.Sound fz := by
  unfold execWakeSourceEnable at h
  refine State.run_sound hk h (fun d hk => ?_)
  repeat' first
    | with_reducible assumption
    | with_reducible apply Dev.writeWakeEn_sound

theorem Dev.hostAck_sound {d : Dev} (hk : Dev.Sound fz d) :
    Dev.Sound fz (Dev.hostAck d) := by
  unfold Dev.hostAck
  repeat' first
    | with_reducible assumption
    | with_reducible apply Dev.hostWakeLow_sound
    | split

theorem Dev.stretchMsg_sound {d : Dev} {f : Nat} (hk : Dev.Sound fz d) :
    Dev.Sound fz (Dev.stretchMsg d f) := by
  unfold Dev.stretchMsg
  repeat' first
    | with_reducible assumption
    | ((fail_if_no_progress extract_lets +onlyGivenNames x); first | (refine sound_cut fz x ?_ (fun _ => ?_); unfold x) | skip)
    | with_reducible apply Dev.setFlag_sound
    | with_reducible apply Dev.setCal_sound
    | split

theorem Dev.wakePacket_sound {d : Dev} {port : Nat} {valid : Bool} {retentionOk : Bool} (hk : Dev.Sound fz d) :
    Dev.Sound fz (Dev.wakePacket d port valid retentionOk) := by
  unfold Dev.wakePacket
  repeat' first
    | with_reducible assumption
    | ((fail_if_no_progress extract_lets +onlyGivenNames x); first | (refine sound_cut fz x ?_ (fun _ => ?_); unfold x) | skip)
    | with_reducible apply Dev.setFlag_sound
    | with_reducible apply Dev.wake_sound
    | with_reducible apply Dev.noteWake_sound
    | with_reducible apply Dev.watchWakes_sound
    | with_reducible apply Dev.wakeSurface_sound
    | with_reducible apply Dev.injectFault_sound
    | with_reducible exact sound_mk (Dev.Sound.parts (by assumption))
    | split

theorem Dev.autoMode_sound {d : Dev} {mode : Nat} (hk : Dev.Sound fz d) :
    Dev.Sound fz (Dev.autoMode d mode) := by
  unfold Dev.autoMode
  repeat' first
    | with_reducible assumption
    | ((fail_if_no_progress extract_lets +onlyGivenNames x); first | (refine sound_cut fz x ?_ (fun _ => ?_); unfold x) | skip)
    | with_reducible apply Dev.sendMode_sound
    | with_reducible apply Dev.issueOps_sound
    | with_reducible apply Dev.markPending_sound
    | with_reducible apply Dev.setModes_sound
    | with_reducible apply Dev.askMode_sound
    | with_reducible exact sound_mk (Dev.Sound.parts (by assumption))
    | split

theorem execWatchAfterExpiry_sound {s : State} {t : State}
    (hk : s.dev.Sound fz) (h : execWatchAfterExpiry s = .next t) : t.dev.Sound fz := by
  unfold execWatchAfterExpiry at h
  refine State.run_sound hk h (fun d hk => ?_)
  repeat' first
    | with_reducible assumption
    | with_reducible apply Dev.autoMode_sound
    | split

theorem Dev.serviceAnswered_sound {d : Dev} {mode : Nat} (hk : Dev.Sound fz d) :
    Dev.Sound fz (Dev.serviceAnswered d mode) := by
  unfold Dev.serviceAnswered
  repeat' first
    | with_reducible assumption
    | ((fail_if_no_progress extract_lets +onlyGivenNames x); first | (refine sound_cut fz x ?_ (fun _ => ?_); unfold x) | skip)
    | with_reducible apply Dev.finishOk_sound
    | with_reducible apply Dev.statusLine_sound
    | with_reducible exact sound_mk (Dev.Sound.parts (by assumption))
    | split

theorem Dev.modeMsg_sound {d : Dev} {mode : Nat} {apply : Nat} (hk : Dev.Sound fz d) :
    Dev.Sound fz (Dev.modeMsg d mode apply) := by
  unfold Dev.modeMsg
  repeat' first
    | with_reducible assumption
    | ((fail_if_no_progress extract_lets +onlyGivenNames x); first | (refine sound_cut fz x ?_ (fun _ => ?_); unfold x) | skip)
    | with_reducible apply Dev.serviceAnswered_sound
    | with_reducible apply Dev.markPending_sound
    | with_reducible apply Dev.setModes_sound
    | split

theorem execWakeVcoreTimeout_sound {s : State} {t : State}
    (hk : s.dev.Sound fz) (h : execWakeVcoreTimeout s = .next t) : t.dev.Sound fz := by
  unfold execWakeVcoreTimeout at h
  refine State.run_sound hk h (fun d hk => ?_)
  repeat' first
    | with_reducible assumption
    | with_reducible apply Dev.resetNow_sound
    | split

theorem Dev.modeCommand_sound {d : Dev} {mode : Nat} {stretch : Bool} {apply : Nat} (hk : Dev.Sound fz d) :
    Dev.Sound fz (Dev.modeCommand d mode stretch apply) := by
  unfold Dev.modeCommand
  repeat' first
    | with_reducible assumption
    | with_reducible apply Dev.stretchMsg_sound
    | with_reducible apply Dev.modeMsg_sound
    | split

theorem Dev.writePwrHost_sound {d : Dev} {v : Word} (hk : Dev.Sound fz d) :
    Dev.Sound fz (Dev.writePwrHost d v) := by
  unfold Dev.writePwrHost
  repeat' first
    | with_reducible assumption
    | ((fail_if_no_progress extract_lets +onlyGivenNames x); first | (refine sound_cut fz x ?_ (fun _ => ?_); unfold x) | skip)
    | with_reducible apply Dev.storeReg_sound
    | with_reducible apply Dev.hostAck_sound
    | split

theorem Dev.vcoreOff_sound {d : Dev} (h : Dev.Sound fz d) : d.vcoreOff.Sound fz := by
  have h1 : ∀ n : Dev, n.Sound fz → (if n.isWorker then n.setFlag EGL_TILE_JOINED false else n).Sound fz := fun n hn => by
    split
    · exact Dev.setFlag_sound hn
    · exact hn
  exact h1 _ (Dev.foscStop_sound (Dev.setFlag_sound (sound_mk ⟨cellsWf_filter _ h.1, rfl, h.2.2.1, h.2.2.2.1, h.2.2.2.2.1, rfl, rfl, rfl, rfl, rfl, rfl⟩)))

theorem Dev.modeMissed_sound {d : Dev} {xy : Nat} (hk : Dev.Sound fz d) :
    Dev.Sound fz (Dev.modeMissed d xy) := by
  unfold Dev.modeMissed
  repeat' first
    | with_reducible assumption
    | ((fail_if_no_progress extract_lets +onlyGivenNames x); first | (refine sound_cut fz x ?_ (fun _ => ?_); unfold x) | skip)
    | with_reducible apply Dev.setModes_sound
    | with_reducible apply Dev.logEvent_sound
    | split

theorem Dev.noteVerify_sound {d : Dev} {a : Nat} {v : Verdict} (hk : Dev.Sound fz d) :
    Dev.Sound fz (Dev.noteVerify d a v) := by
  unfold Dev.noteVerify
  repeat' first
    | with_reducible assumption
    | with_reducible apply Dev.setReg_sound
    | with_reducible apply Dev.setFld_sound
    | split

theorem Dev.nvpEnd_sound {d : Dev} {result : Nat} {bytes : Nat} (hk : Dev.Sound fz d) :
    Dev.Sound fz (Dev.nvpEnd d result bytes) := by
  unfold Dev.nvpEnd
  repeat' first
    | with_reducible assumption
    | ((fail_if_no_progress extract_lets +onlyGivenNames x); first | (refine sound_cut fz x ?_ (fun _ => ?_); unfold x) | skip)
    | with_reducible apply Dev.setReg_sound
    | with_reducible apply Dev.setBoot_sound
    | with_reducible apply Dev.nvmIdle_sound
    | with_reducible apply Dev.logResume_sound
    | with_reducible apply Dev.ring_sound
    | split

theorem Dev.nvpStore_sound {d : Dev} {buf : Nat} {bs : List Byte} (hk : Dev.Sound fz d) :
    Dev.Sound fz (Dev.nvpStore d buf bs) := by
  unfold Dev.nvpStore
  repeat' first
    | with_reducible assumption
    | ((fail_if_no_progress extract_lets +onlyGivenNames x); first | (refine sound_cut fz x ?_ (fun _ => ?_); unfold x) | skip)
    | (with_reducible apply sound_foldl; intros)
    | (with_reducible apply sound_foldl_snd; intros)
    | (split <;> first | (rename_i heq; simp only [Prod.ext_iff] at heq; refine sound_eq fz heq.2 ?_ (fun _ => ?_)) | skip)
    | with_reducible apply Dev.draw_sound
    | with_reducible apply Dev.writeWord_sound

theorem Dev.nvpWritten_sound {d : Dev} {a : Nat} {bs : List Byte} {done : Nat} {failed : Bool} (hk : Dev.Sound fz d) :
    Dev.Sound fz (Dev.nvpWritten d a bs done failed) := by
  unfold Dev.nvpWritten
  repeat' first
    | with_reducible assumption
    | ((fail_if_no_progress extract_lets +onlyGivenNames x); first | (refine sound_cut fz x ?_ (fun _ => ?_); unfold x) | skip)
    | with_reducible apply Dev.nvmWrite_sound
    | with_reducible apply Dev.nvmGarble_sound
    | split

theorem Dev.nvpWriteDone_sound {d : Dev} {outcome : Nat} {bytes : Nat} (hk : Dev.Sound fz d) :
    Dev.Sound fz (Dev.nvpWriteDone d outcome bytes) := by
  unfold Dev.nvpWriteDone
  repeat' first
    | with_reducible assumption
    | ((fail_if_no_progress extract_lets +onlyGivenNames x); first | (refine sound_cut fz x ?_ (fun _ => ?_); unfold x) | skip)
    | with_reducible apply Dev.nvmWrite_sound
    | with_reducible apply Dev.nvpEnd_sound
    | with_reducible apply Dev.nvpWritten_sound
    | with_reducible apply Dev.nvpDone_sound
    | with_reducible exact sound_mk (Dev.Sound.parts (by assumption))
    | split

theorem Dev.setTwb_sound {d : Dev} {t : TwoWire} (hk : Dev.Sound fz d) :
    Dev.Sound fz (Dev.setTwb d t) := by
  unfold Dev.setTwb
  repeat' first
    | with_reducible assumption
    | with_reducible exact sound_mk (Dev.Sound.parts (by assumption))

theorem Dev.pageTaken_sound {d : Dev} (hk : Dev.Sound fz d) :
    Dev.Sound fz (Dev.pageTaken d) := by
  unfold Dev.pageTaken
  repeat' first
    | with_reducible assumption
    | ((fail_if_no_progress extract_lets +onlyGivenNames x); first | (refine sound_cut fz x ?_ (fun _ => ?_); unfold x) | skip)
    | with_reducible apply Dev.nvmIdle_sound
    | with_reducible apply Dev.nvmWrite_sound
    | with_reducible apply Dev.nvpDone_sound
    | with_reducible apply Dev.setBoot_sound
    | with_reducible apply Dev.setTwb_sound
    | with_reducible apply Dev.take_sound
    | with_reducible exact sound_mk (Dev.Sound.parts (by assumption))
    | split

theorem Dev.nvpDone_sound {d : Dev} {outcome : Nat} {bytes : Nat} (hk : Dev.Sound fz d) :
    Dev.Sound fz (Dev.nvpDone d outcome bytes) := by
  unfold Dev.nvpDone
  repeat' first
    | with_reducible assumption
    | ((fail_if_no_progress extract_lets +onlyGivenNames x); first | (refine sound_cut fz x ?_ (fun _ => ?_); unfold x) | skip)
    | with_reducible apply Dev.noteVerify_sound
    | with_reducible apply Dev.nvpEnd_sound
    | with_reducible apply Dev.nvpStore_sound
    | with_reducible apply Dev.nvpWriteDone_sound
    | with_reducible apply Dev.pageTaken_sound
    | with_reducible exact sound_mk (Dev.Sound.parts (by assumption))
    | split

theorem Dev.nvmComplete_sound {d : Dev} (hk : Dev.Sound fz d) :
    Dev.Sound fz (Dev.nvmComplete d) := by
  unfold Dev.nvmComplete
  repeat' first
    | with_reducible assumption
    | ((fail_if_no_progress extract_lets +onlyGivenNames x); first | (refine sound_cut fz x ?_ (fun _ => ?_); unfold x) | skip)
    | with_reducible apply Dev.logWrite_sound
    | with_reducible apply Dev.nvmIdle_sound
    | with_reducible apply Dev.setBoot_sound
    | with_reducible apply Dev.setReg_sound
    | with_reducible apply Dev.nvpDone_sound
    | with_reducible apply Dev.pageTaken_sound
    | with_reducible exact sound_mk (Dev.Sound.parts (by assumption))
    | split

theorem Dev.hibDrainEnd_sound {d : Dev} (hk : Dev.Sound fz d) :
    Dev.Sound fz (Dev.hibDrainEnd d) := by
  unfold Dev.hibDrainEnd
  repeat' first
    | with_reducible assumption
    | (with_reducible apply sound_foldl; intros)
    | (with_reducible apply sound_foldl_snd; intros)
    | ((fail_if_no_progress extract_lets +onlyGivenNames x); first | (refine sound_cut fz x ?_ (fun _ => ?_); unfold x) | skip)
    | with_reducible apply Dev.setFld_sound
    | with_reducible apply Dev.logHibernate_sound
    | with_reducible apply Dev.vcoreOff_sound
    | with_reducible apply Dev.calAbandon_sound
    | with_reducible apply Dev.setModes_sound
    | with_reducible apply Dev.modeMissed_sound
    | with_reducible apply Dev.nvmComplete_sound
    | with_reducible apply Dev.setFlag_sound
    | with_reducible apply Dev.wake_sound
    | with_reducible exact sound_mk (Dev.Sound.parts (by assumption))
    | split

theorem Dev.vcoreGood_sound {d : Dev} (hk : Dev.Sound fz d) :
    Dev.Sound fz (Dev.vcoreGood d) := by
  unfold Dev.vcoreGood
  repeat' first
    | with_reducible assumption
    | with_reducible apply Dev.wakeComplete_sound
    | with_reducible apply Dev.beginStep4_sound
    | split

theorem execWakePacket_sound {port : BitVec 2} {valid : Bool} {retentionOk : Bool} {s : State} {t : State}
    (hk : s.dev.Sound fz) (h : execWakePacket port valid retentionOk s = .next t) : t.dev.Sound fz := by
  unfold execWakePacket at h
  refine State.run_sound hk h (fun d hk => ?_)
  repeat' first
    | with_reducible assumption
    | with_reducible apply Dev.wakePacket_sound

theorem Dev.modeAck_sound {d : Dev} {xy : Nat} (hk : Dev.Sound fz d) :
    Dev.Sound fz (Dev.modeAck d xy) := by
  unfold Dev.modeAck
  repeat' first
    | with_reducible assumption
    | ((fail_if_no_progress extract_lets +onlyGivenNames x); first | (refine sound_cut fz x ?_ (fun _ => ?_); unfold x) | skip)
    | with_reducible apply Dev.noteTile_sound
    | with_reducible apply Dev.setModes_sound
    | split

theorem execAutoIdleExpiry_sound {s : State} {t : State}
    (hk : s.dev.Sound fz) (h : execAutoIdleExpiry s = .next t) : t.dev.Sound fz := by
  unfold execAutoIdleExpiry at h
  refine State.run_sound hk h (fun d hk => ?_)
  repeat' first
    | with_reducible assumption
    | with_reducible apply Dev.autoMode_sound
    | split

theorem execMode_sound {mode : BitVec 3} {stretch : Bool} {apply : Word} {s : State} {t : State}
    (hk : s.dev.Sound fz) (h : execMode mode stretch apply s = .next t) : t.dev.Sound fz := by
  unfold execMode at h
  refine State.run_sound hk h (fun d hk => ?_)
  repeat' first
    | with_reducible assumption
    | with_reducible apply Dev.modeCommand_sound

theorem execModeAck_sound {tile : BitVec 10} {s : State} {t : State}
    (hk : s.dev.Sound fz) (h : execModeAck tile s = .next t) : t.dev.Sound fz := by
  unfold execModeAck at h
  refine State.run_sound hk h (fun d hk => ?_)
  repeat' first
    | with_reducible assumption
    | with_reducible apply Dev.modeAck_sound

theorem execWake_sound {sources : BitVec 7} {gesture : BitVec 4} {retentionOk : Bool} {s : State} {t : State}
    (hk : s.dev.Sound fz) (h : execWake sources gesture retentionOk s = .next t) : t.dev.Sound fz := by
  unfold execWake at h
  refine State.run_sound hk h (fun d hk => ?_)
  repeat' first
    | with_reducible assumption
    | with_reducible apply Dev.wake_sound

theorem execVcoreGood_sound {s : State} {t : State}
    (hk : s.dev.Sound fz) (h : execVcoreGood s = .next t) : t.dev.Sound fz := by
  unfold execVcoreGood at h
  refine State.run_sound hk h (fun d hk => ?_)
  repeat' first
    | with_reducible assumption
    | with_reducible apply Dev.vcoreGood_sound

theorem execHostwakeAck_sound {s : State} {t : State}
    (hk : s.dev.Sound fz) (h : execHostwakeAck s = .next t) : t.dev.Sound fz := by
  unfold execHostwakeAck at h
  refine State.run_sound hk h (fun d hk => ?_)
  repeat' first
    | with_reducible assumption
    | with_reducible apply Dev.hostAck_sound

theorem execHibDrainEnd_sound {s : State} {t : State}
    (hk : s.dev.Sound fz) (h : execHibDrainEnd s = .next t) : t.dev.Sound fz := by
  unfold execHibDrainEnd at h
  refine State.run_sound hk h (fun d hk => ?_)
  repeat' first
    | with_reducible assumption
    | with_reducible apply Dev.hibDrainEnd_sound

theorem execOrphan_sound {s : State} {t : State}
    (hk : s.dev.Sound fz) (h : execOrphan s = .next t) : t.dev.Sound fz := by
  unfold execOrphan at h
  refine State.run_sound hk h (fun d hk => ?_)
  repeat' first
    | with_reducible assumption
    | ((fail_if_no_progress extract_lets +onlyGivenNames x); first | (refine sound_cut fz x ?_ (fun _ => ?_); unfold x) | skip)
    | with_reducible apply Dev.markPending_sound
    | with_reducible apply Dev.setModes_sound
    | with_reducible apply Dev.changeMode_sound
    | split

theorem Dev.nvBusEvent_sound {d : Dev} {kind : Nat} (hk : Dev.Sound fz d) :
    Dev.Sound fz (Dev.nvBusEvent d kind) := by
  unfold Dev.nvBusEvent
  repeat' first
    | with_reducible assumption
    | with_reducible apply Dev.ring_sound

theorem Dev.nvmBreak_sound {d : Dev} {received : Nat} (hk : Dev.Sound fz d) :
    Dev.Sound fz (Dev.nvmBreak d received) := by
  unfold Dev.nvmBreak
  repeat' first
    | with_reducible assumption
    | ((fail_if_no_progress extract_lets +onlyGivenNames x); first | (refine sound_cut fz x ?_ (fun _ => ?_); unfold x) | skip)
    | with_reducible apply Dev.setTwb_sound
    | with_reducible apply Dev.setFlag_sound
    | split

theorem Dev.stretchTimeout_sound {d : Dev} {received : Nat} (hk : Dev.Sound fz d) :
    Dev.Sound fz (Dev.stretchTimeout d received) := by
  unfold Dev.stretchTimeout
  repeat' first
    | with_reducible assumption
    | with_reducible apply Dev.nvBusEvent_sound
    | with_reducible apply Dev.bump_sound
    | with_reducible apply Dev.nvmBreak_sound
    | split

theorem execNvpDone_sound {outcome : BitVec 4} {bytes : BitVec 13} {s : State} {t : State}
    (hk : s.dev.Sound fz) (h : execNvpDone outcome bytes s = .next t) : t.dev.Sound fz := by
  unfold execNvpDone at h
  refine State.run_sound hk h (fun d hk => ?_)
  repeat' first
    | with_reducible assumption
    | with_reducible apply Dev.nvpDone_sound

theorem Dev.nvpBegin_sound {d : Dev} {op : Nat} (hk : Dev.Sound fz d) :
    Dev.Sound fz (Dev.nvpBegin d op) := by
  unfold Dev.nvpBegin
  repeat' first
    | with_reducible assumption
    | ((fail_if_no_progress extract_lets +onlyGivenNames x); first | (refine sound_cut fz x ?_ (fun _ => ?_); unfold x) | skip)
    | with_reducible apply Dev.setBoot_sound
    | with_reducible apply Dev.setReg_sound
    | with_reducible apply Dev.nvpEnd_sound
    | split

theorem Dev.writeNvpCmd_sound {d : Dev} {v : Word} (hk : Dev.Sound fz d) :
    Dev.Sound fz (Dev.writeNvpCmd d v) := by
  unfold Dev.writeNvpCmd
  repeat' first
    | with_reducible assumption
    | ((fail_if_no_progress extract_lets +onlyGivenNames x); first | (refine sound_cut fz x ?_ (fun _ => ?_); unfold x) | skip)
    | with_reducible apply Dev.ignoreWrite_sound
    | with_reducible apply Dev.nvpBegin_sound
    | split

theorem execNvpRead_sound {key : Byte} {s : State} {t : State}
    (hk : s.dev.Sound fz) (h : execNvpRead key s = .next t) : t.dev.Sound fz := by
  unfold execNvpRead at h
  refine State.run_sound hk h (fun d hk => ?_)
  repeat' first
    | with_reducible assumption
    | with_reducible apply Dev.writeNvpCmd_sound

theorem Dev.arbitrationLost_sound {d : Dev} {received : Nat} {atEnd : Bool} (hk : Dev.Sound fz d) :
    Dev.Sound fz (Dev.arbitrationLost d received atEnd) := by
  unfold Dev.arbitrationLost
  repeat' first
    | with_reducible assumption
    | with_reducible apply Dev.setFlag_sound
    | with_reducible apply Dev.bump_sound
    | with_reducible apply Dev.nvmBreak_sound
    | split

theorem execArbitrationLost_sound {received : BitVec 17} {atEnd : Bool} {s : State} {t : State}
    (hk : s.dev.Sound fz) (h : execArbitrationLost received atEnd s = .next t) : t.dev.Sound fz := by
  unfold execArbitrationLost at h
  refine State.run_sound hk h (fun d hk => ?_)
  repeat' first
    | with_reducible assumption
    | with_reducible apply Dev.arbitrationLost_sound

theorem Dev.writeNvctl_sound {d : Dev} {v : Word} (hk : Dev.Sound fz d) :
    Dev.Sound fz (Dev.writeNvctl d v) := by
  unfold Dev.writeNvctl
  repeat' first
    | with_reducible assumption
    | ((fail_if_no_progress extract_lets +onlyGivenNames x); first | (refine sound_cut fz x ?_ (fun _ => ?_); unfold x) | skip)
    | with_reducible apply Dev.setReg_sound
    | with_reducible apply Dev.setTwb_sound
    | with_reducible apply Dev.ignoreWrite_sound
    | split

theorem execNvctlWrite_sound {value : Word} {s : State} {t : State}
    (hk : s.dev.Sound fz) (h : execNvctlWrite value s = .next t) : t.dev.Sound fz := by
  unfold execNvctlWrite at h
  refine State.run_sound hk h (fun d hk => ?_)
  repeat' first
    | with_reducible assumption
    | with_reducible apply Dev.writeNvctl_sound

theorem execNvpWrite_sound {key : Byte} {s : State} {t : State}
    (hk : s.dev.Sound fz) (h : execNvpWrite key s = .next t) : t.dev.Sound fz := by
  unfold execNvpWrite at h
  refine State.run_sound hk h (fun d hk => ?_)
  repeat' first
    | with_reducible assumption
    | with_reducible apply Dev.writeNvpCmd_sound

theorem execNvpInvalidate_sound {key : Byte} {s : State} {t : State}
    (hk : s.dev.Sound fz) (h : execNvpInvalidate key s = .next t) : t.dev.Sound fz := by
  unfold execNvpInvalidate at h
  refine State.run_sound hk h (fun d hk => ?_)
  repeat' first
    | with_reducible assumption
    | with_reducible apply Dev.writeNvpCmd_sound

theorem Dev.nvmStart_sound {d : Dev} {what : Nat} (hk : Dev.Sound fz d) :
    Dev.Sound fz (Dev.nvmStart d what) := by
  unfold Dev.nvmStart
  repeat' first
    | with_reducible assumption
    | ((fail_if_no_progress extract_lets +onlyGivenNames x); first | (refine sound_cut fz x ?_ (fun _ => ?_); unfold x) | skip)
    | with_reducible apply Dev.setTwb_sound
    | with_reducible apply Dev.setFlag_sound
    | split

theorem Dev.nvmRequest_sound {d : Dev} {what : Nat} (hk : Dev.Sound fz d) :
    Dev.Sound fz (Dev.nvmRequest d what) := by
  unfold Dev.nvmRequest
  repeat' first
    | with_reducible assumption
    | with_reducible apply Dev.nvmStart_sound
    | with_reducible apply Dev.nvpDone_sound
    | with_reducible apply Dev.nvpEnd_sound
    | with_reducible exact sound_mk (Dev.Sound.parts (by assumption))
    | split

theorem execNvmTransferStart_sound {what : BitVec 3} {s : State} {t : State}
    (hk : s.dev.Sound fz) (h : execNvmTransferStart what s = .next t) : t.dev.Sound fz := by
  unfold execNvmTransferStart at h
  refine State.run_sound hk h (fun d hk => ?_)
  repeat' first
    | with_reducible assumption
    | with_reducible apply Dev.nvmStart_sound
    | with_reducible apply Dev.nvmRequest_sound
    | with_reducible apply State.run_sound
    | with_reducible exact sound_mk (Dev.Sound.parts (by assumption))

theorem execNvmPollTimeout_sound {s : State} {t : State}
    (hk : s.dev.Sound fz) (h : execNvmPollTimeout s = .next t) : t.dev.Sound fz := by
  unfold execNvmPollTimeout at h
  refine State.run_sound hk h (fun d hk => ?_)
  repeat' first
    | with_reducible assumption
    | with_reducible apply Dev.nvBusEvent_sound
    | with_reducible apply Dev.nvmIdle_sound
    | with_reducible apply State.run_sound
    | with_reducible exact sound_mk (Dev.Sound.parts (by assumption))
    | split

theorem Dev.resumeTimeout_sound {d : Dev} (hk : Dev.Sound fz d) :
    Dev.Sound fz (Dev.resumeTimeout d) := by
  unfold Dev.resumeTimeout
  repeat' first
    | with_reducible assumption
    | with_reducible apply Dev.slotEnds_sound
    | with_reducible apply Dev.headerRead_sound
    | split

theorem execResumeAddressTimeout_sound {s : State} {t : State}
    (hk : s.dev.Sound fz) (h : execResumeAddressTimeout s = .next t) : t.dev.Sound fz := by
  unfold execResumeAddressTimeout at h
  refine State.run_sound hk h (fun d hk => ?_)
  repeat' first
    | with_reducible assumption
    | with_reducible apply Dev.resumeTimeout_sound

theorem Dev.sclStuckLow_sound {d : Dev} (hk : Dev.Sound fz d) :
    Dev.Sound fz (Dev.sclStuckLow d) := by
  unfold Dev.sclStuckLow
  repeat' first
    | with_reducible assumption
    | ((fail_if_no_progress extract_lets +onlyGivenNames x); first | (refine sound_cut fz x ?_ (fun _ => ?_); unfold x) | skip)
    | with_reducible apply Dev.nvBusEvent_sound
    | with_reducible apply Dev.setTwb_sound
    | split

theorem Dev.nvmPoll_sound {d : Dev} {acked : Bool} {address : Bool} (hk : Dev.Sound fz d) :
    Dev.Sound fz (Dev.nvmPoll d acked address) := by
  unfold Dev.nvmPoll
  repeat' first
    | with_reducible assumption
    | ((fail_if_no_progress extract_lets +onlyGivenNames x); first | (refine sound_cut fz x ?_ (fun _ => ?_); unfold x) | skip)
    | with_reducible apply Dev.bump_sound
    | with_reducible apply Dev.setTwb_sound
    | with_reducible apply Dev.pageTaken_sound
    | with_reducible apply Dev.setFlag_sound
    | with_reducible exact sound_mk (Dev.Sound.parts (by assumption))
    | split

theorem execNvmPoll_sound {acked : Bool} {address : Bool} {s : State} {t : State}
    (hk : s.dev.Sound fz) (h : execNvmPoll acked address s = .next t) : t.dev.Sound fz := by
  unfold execNvmPoll at h
  refine State.run_sound hk h (fun d hk => ?_)
  repeat' first
    | with_reducible assumption
    | with_reducible apply Dev.nvmPoll_sound

theorem execNvpVerify_sound {key : Byte} {s : State} {t : State}
    (hk : s.dev.Sound fz) (h : execNvpVerify key s = .next t) : t.dev.Sound fz := by
  unfold execNvpVerify at h
  refine State.run_sound hk h (fun d hk => ?_)
  repeat' first
    | with_reducible assumption
    | with_reducible apply Dev.writeNvpCmd_sound

theorem Dev.holdExpiry_sound {d : Dev} (hk : Dev.Sound fz d) :
    Dev.Sound fz (Dev.holdExpiry d) := by
  unfold Dev.holdExpiry
  repeat' first
    | with_reducible assumption
    | ((fail_if_no_progress extract_lets +onlyGivenNames x); first | (refine sound_cut fz x ?_ (fun _ => ?_); unfold x) | skip)
    | with_reducible apply Dev.ring_sound
    | with_reducible apply Dev.setReg_sound
    | split

theorem execNvholdExpiry_sound {s : State} {t : State}
    (hk : s.dev.Sound fz) (h : execNvholdExpiry s = .next t) : t.dev.Sound fz := by
  unfold execNvholdExpiry at h
  refine State.run_sound hk h (fun d hk => ?_)
  repeat' first
    | with_reducible assumption
    | with_reducible apply Dev.holdExpiry_sound

theorem Dev.sdaRecovery_sound {d : Dev} {released : Bool} (hk : Dev.Sound fz d) :
    Dev.Sound fz (Dev.sdaRecovery d released) := by
  unfold Dev.sdaRecovery
  repeat' first
    | with_reducible assumption
    | ((fail_if_no_progress extract_lets +onlyGivenNames x); first | (refine sound_cut fz x ?_ (fun _ => ?_); unfold x) | skip)
    | with_reducible apply Dev.setTwb_sound
    | with_reducible apply Dev.bump_sound
    | with_reducible apply Dev.nvBusEvent_sound
    | split

theorem execSdaRecovery_sound {released : Bool} {s : State} {t : State}
    (hk : s.dev.Sound fz) (h : execSdaRecovery released s = .next t) : t.dev.Sound fz := by
  unfold execSdaRecovery at h
  refine State.run_sound hk h (fun d hk => ?_)
  repeat' first
    | with_reducible assumption
    | with_reducible apply Dev.sdaRecovery_sound

theorem execNvmStretchTimeout_sound {received : BitVec 17} {s : State} {t : State}
    (hk : s.dev.Sound fz) (h : execNvmStretchTimeout received s = .next t) : t.dev.Sound fz := by
  unfold execNvmStretchTimeout at h
  refine State.run_sound hk h (fun d hk => ?_)
  repeat' first
    | with_reducible assumption
    | with_reducible apply Dev.stretchTimeout_sound

theorem execSclStuck_sound {s : State} {t : State}
    (hk : s.dev.Sound fz) (h : execSclStuck s = .next t) : t.dev.Sound fz := by
  unfold execSclStuck at h
  refine State.run_sound hk h (fun d hk => ?_)
  repeat' first
    | with_reducible assumption
    | with_reducible apply Dev.sclStuckLow_sound

end Sys2Proof.Machine
end

