-- ==== Sys2Proof/Laws/SoundTiles.lean ====
section
/-!
SUPPORT. SoundTiles.lean: that each operation and command of joining, commits and frame starts keeps `Dev.Sound`.
-/

set_option maxRecDepth 4000
set_option linter.unusedTactic false
set_option linter.unreachableTactic false
set_option linter.unusedVariables false

namespace Sys2Proof.Machine

variable {fz : Fuses}

theorem Dev.enumMsg_sound {d : Dev} {words : List Word} (hk : Dev.Sound fz d) :
    Dev.Sound fz (Dev.enumMsg d words) := by
  unfold Dev.enumMsg
  repeat' first
    | with_reducible assumption
    | ((fail_if_no_progress extract_lets +onlyGivenNames x); first | (refine sound_cut fz x ?_ (fun _ => ?_); unfold x) | skip)
    | with_reducible apply Dev.setFlag_sound
    | with_reducible apply Dev.setFld_sound
    | with_reducible apply Dev.sendJoin_sound
    | with_reducible apply Dev.linkImageRequest_sound
    | with_reducible apply Dev.sendEnums_sound
    | with_reducible apply Dev.setSurf_sound
    | split

theorem Dev.serviceMode_sound {d : Dev} {mode : Nat} {entry : Nat} (hk : Dev.Sound fz d) :
    Dev.Sound fz (Dev.serviceMode d mode entry) := by
  unfold Dev.serviceMode
  repeat' first
    | with_reducible assumption
    | ((fail_if_no_progress extract_lets +onlyGivenNames x); first | (refine sound_cut fz x ?_ (fun _ => ?_); unfold x) | clear_value x)
    | with_reducible apply Dev.issueOps_sound
    | with_reducible apply Dev.sendMode_sound
    | with_reducible apply Dev.markPending_sound
    | with_reducible apply Dev.setModes_sound
    | with_reducible apply Build.entry_sound
    | with_reducible apply Dev.askMode_sound
    | with_reducible apply Dev.holdMode_sound
    | with_reducible exact sound_mk (Dev.Sound.parts (by assumption))
    | split

theorem Dev.resetMsg_sound {d : Dev} {words : List Word} (hk : Dev.Sound fz d) :
    Dev.Sound fz (Dev.resetMsg d words) := by
  unfold Dev.resetMsg
  repeat' first
    | with_reducible assumption
    | ((fail_if_no_progress extract_lets +onlyGivenNames x); first | (refine sound_cut fz x ?_ (fun _ => ?_); unfold x) | skip)
    | with_reducible apply Dev.resetNow_sound
    | with_reducible apply Dev.setSurf_sound
    | split

theorem execReset_sound {_src : BitVec 10} {words : List Word} {s : State} {t : State}
    (hk : s.dev.Sound fz) (h : execReset _src words s = .next t) : t.dev.Sound fz := by
  unfold execReset at h
  refine State.run_sound hk h (fun d hk => ?_)
  repeat' first
    | with_reducible assumption
    | with_reducible apply Dev.resetMsg_sound

theorem Dev.serveImage_sound {d : Dev} {xy : Nat} (hk : Dev.Sound fz d) :
    Dev.Sound fz (Dev.serveImage d xy) := by
  unfold Dev.serveImage
  repeat' first
    | with_reducible assumption
    | (with_reducible apply sound_foldl_snd; intros)
    | ((fail_if_no_progress extract_lets +onlyGivenNames x); first | (refine sound_cut fz x ?_ (fun _ => ?_); unfold x) | skip)
    | (with_reducible apply sound_foldl; intros)
    | with_reducible apply Dev.setSurf_sound
    | with_reducible apply Dev.setTileState_sound
    | with_reducible apply Dev.issueOps_sound
    | with_reducible apply Dev.send_sound
    | with_reducible apply Dev.noteLoading_sound
    | with_reducible exact sound_mk (Dev.Sound.parts (by assumption))

theorem Dev.serveNext_sound {d : Dev} {xy : Nat} (hk : Dev.Sound fz d) :
    Dev.Sound fz (Dev.serveNext d xy) := by
  unfold Dev.serveNext
  repeat' first
    | with_reducible assumption
    | ((fail_if_no_progress extract_lets +onlyGivenNames x); first | (refine sound_cut fz x ?_ (fun _ => ?_); unfold x) | skip)
    | with_reducible apply Dev.setSurf_sound
    | with_reducible apply Dev.serveImage_sound
    | split

theorem Dev.applyWord_sound {d : Dev} {p : Nat} {v : Word} (hk : Dev.Sound fz d) :
    Dev.Sound fz (Dev.applyWord d p v) := by
  unfold Dev.applyWord
  repeat' first
    | with_reducible assumption
    | ((fail_if_no_progress extract_lets +onlyGivenNames x); first | (refine sound_cut fz x ?_ (fun _ => ?_); unfold x) | skip)
    | with_reducible apply Dev.setCfg_sound
    | with_reducible exact sound_mk (Dev.Sound.parts (by assumption))
    | split

theorem Dev.wordEffect_sound {d : Dev} {p : Nat} (hk : Dev.Sound fz d) :
    Dev.Sound fz (Dev.wordEffect d p) := by
  unfold Dev.wordEffect
  repeat' first
    | with_reducible assumption
    | ((fail_if_no_progress extract_lets +onlyGivenNames x); first | (refine sound_cut fz x ?_ (fun _ => ?_); unfold x) | skip)
    | with_reducible apply Dev.vtxCommit_sound
    | with_reducible apply Dev.hkaCommit_sound
    | with_reducible apply Dev.setReg_sound
    | with_reducible apply Dev.setFld_sound
    | with_reducible apply Dev.retargetVled_sound
    | with_reducible exact sound_mk (Dev.Sound.parts (by assumption))
    | split

theorem Dev.applyPairs_sound {d : Dev} {ps : List (Nat × Word)} (hk : Dev.Sound fz d) :
    Dev.Sound fz (Dev.applyPairs d ps).2 := by
  unfold Dev.applyPairs
  repeat' first
    | with_reducible assumption
    | ((fail_if_no_progress extract_lets +onlyGivenNames x); first | (refine sound_cut fz x ?_ (fun _ => ?_); unfold x) | skip)
    | (with_reducible apply sound_foldl; intros)
    | (with_reducible apply sound_foldl_snd; intros)
    | with_reducible apply Dev.applyWord_sound
    | with_reducible apply Dev.wordEffect_sound

theorem Dev.takeDelta_sound {d : Dev} (hk : Dev.Sound fz d) :
    Dev.Sound fz (Dev.takeDelta d) := by
  unfold Dev.takeDelta
  repeat' first
    | with_reducible assumption
    | ((fail_if_no_progress extract_lets +onlyGivenNames x); first | (refine sound_cut fz x ?_ (fun _ => ?_); unfold x) | skip)
    | with_reducible apply Dev.applyPairs_sound
    | with_reducible apply Dev.setSurf_sound

theorem Dev.deltaMsg_sound {d : Dev} {words : List Word} (hk : Dev.Sound fz d) :
    Dev.Sound fz (Dev.deltaMsg d words) := by
  unfold Dev.deltaMsg
  repeat' first
    | with_reducible assumption
    | ((fail_if_no_progress extract_lets +onlyGivenNames x); first | (refine sound_cut fz x ?_ (fun _ => ?_); unfold x) | skip)
    | with_reducible apply Dev.setSurf_sound
    | with_reducible apply Dev.takeDelta_sound
    | split

theorem Dev.setCom_sound {d : Dev} {c : Commit} (hk : Dev.Sound fz d) :
    Dev.Sound fz (Dev.setCom d c) := by
  unfold Dev.setCom
  repeat' first
    | with_reducible assumption
    | with_reducible exact sound_mk (Dev.Sound.parts (by assumption))

theorem Dev.sendDelta_sound {d : Dev} {xy : Nat} {from_ : Nat} {z1 : List (List (Nat × Word))} (hk : Dev.Sound fz d) :
    Dev.Sound fz (Dev.sendDelta d xy from_ z1) := by
  induction z1 generalizing d xy from_ with
  | nil =>
    unfold Dev.sendDelta
    repeat' first
      | with_reducible assumption
      | ((fail_if_no_progress extract_lets +onlyGivenNames x); first | (refine sound_cut fz x ?_ (fun _ => ?_); unfold x) | clear_value x)
      | with_reducible apply Dev.send_sound
      | split
  | cons _ _ ih =>
    unfold Dev.sendDelta
    repeat' first
      | with_reducible assumption
      | with_reducible apply ih
      | ((fail_if_no_progress extract_lets +onlyGivenNames x); first | (refine sound_cut fz x ?_ (fun _ => ?_); unfold x) | clear_value x)
      | with_reducible apply Dev.send_sound
      | split

theorem Dev.welcomeMsg_sound {d : Dev} {words : List Word} (hk : Dev.Sound fz d) :
    Dev.Sound fz (Dev.welcomeMsg d words) := by
  unfold Dev.welcomeMsg
  repeat' first
    | with_reducible assumption
    | ((fail_if_no_progress extract_lets +onlyGivenNames x); first | (refine sound_cut fz x ?_ (fun _ => ?_); unfold x) | skip)
    | with_reducible apply Dev.setSurf_sound
    | with_reducible apply Dev.setFld_sound
    | with_reducible apply Dev.markPending_sound
    | with_reducible apply Dev.setModes_sound
    | split

theorem execWelcome_sound {_src : BitVec 10} {words : List Word} {s : State} {t : State}
    (hk : s.dev.Sound fz) (h : execWelcome _src words s = .next t) : t.dev.Sound fz := by
  unfold execWelcome at h
  refine State.run_sound hk h (fun d hk => ?_)
  repeat' first
    | with_reducible assumption
    | with_reducible apply Dev.welcomeMsg_sound

theorem Dev.imgResultMsg_sound {d : Dev} {xy : Nat} {words : List Word} (hk : Dev.Sound fz d) :
    Dev.Sound fz (Dev.imgResultMsg d xy words) := by
  unfold Dev.imgResultMsg
  repeat' first
    | with_reducible assumption
    | ((fail_if_no_progress extract_lets +onlyGivenNames x); first | (refine sound_cut fz x ?_ (fun _ => ?_); unfold x) | clear_value x)
    | (fail_if_no_progress intros)
    | with_reducible apply Dev.fromLost_sound
    | with_reducible apply Dev.serveNext_sound
    | with_reducible apply Dev.setTile_sound
    | with_reducible apply Dev.noteTile_sound
    | with_reducible apply Build.words_sound
    | with_reducible apply Dev.noteLoading_sound
    | with_reducible exact sound_mk (Dev.Sound.parts (by assumption))
    | split

theorem Dev.welcome_sound {d : Dev} {xy : Nat} (hk : Dev.Sound fz d) :
    Dev.Sound fz (Dev.welcome d xy) := by
  unfold Dev.welcome
  repeat' first
    | with_reducible assumption
    | ((fail_if_no_progress extract_lets +onlyGivenNames x); first | (refine sound_cut fz x ?_ (fun _ => ?_); unfold x) | skip)
    | (split <;> first | (rename_i heq; simp only [Prod.ext_iff] at heq; refine sound_eq fz heq.2 ?_ (fun _ => ?_)) | skip)
    | with_reducible apply Dev.send_sound
    | with_reducible apply Dev.sendDelta_sound
    | with_reducible apply Dev.draw_sound
    | with_reducible apply Dev.setTile_sound
    | with_reducible apply Dev.ring_sound
    | with_reducible apply Dev.issueOps_sound

theorem Dev.answerJoin_sound {d : Dev} {xy : Nat} {words : List Word} (hk : Dev.Sound fz d) :
    Dev.Sound fz (Dev.answerJoin d xy words) := by
  unfold Dev.answerJoin
  repeat' first
    | with_reducible assumption
    | ((fail_if_no_progress extract_lets +onlyGivenNames x); first | (refine sound_cut fz x ?_ (fun _ => ?_); unfold x) | skip)
    | with_reducible apply Dev.setTile_sound
    | with_reducible apply Dev.setTileState_sound
    | with_reducible apply Dev.ring_sound
    | with_reducible apply Dev.issueOps_sound
    | with_reducible apply Dev.send_sound
    | with_reducible apply Dev.resetTile_sound
    | with_reducible apply Dev.bump_sound
    | with_reducible apply Dev.welcome_sound
    | split

theorem execImgResult_sound {src : BitVec 10} {words : List Word} {s : State} {t : State}
    (hk : s.dev.Sound fz) (h : execImgResult src words s = .next t) : t.dev.Sound fz := by
  unfold execImgResult at h
  refine State.run_sound hk h (fun d hk => ?_)
  repeat' first
    | with_reducible assumption
    | with_reducible apply Dev.imgResultMsg_sound

theorem Dev.joinMsg_sound {d : Dev} {words : List Word} (hk : Dev.Sound fz d) :
    Dev.Sound fz (Dev.joinMsg d words) := by
  unfold Dev.joinMsg
  repeat' first
    | with_reducible assumption
    | ((fail_if_no_progress extract_lets +onlyGivenNames x); first | (refine sound_cut fz x ?_ (fun _ => ?_); unfold x) | clear_value x)
    | (fail_if_no_progress intros)
    | with_reducible apply Dev.fromLost_sound
    | with_reducible apply Dev.setTile_sound
    | with_reducible apply Dev.answerJoin_sound
    | with_reducible apply Build.words_sound
    | with_reducible apply Dev.noteTile_sound
    | with_reducible apply Dev.setTileState_sound
    | with_reducible exact sound_mk (Dev.Sound.parts (by assumption))
    | split

theorem Dev.refusedMsg_sound {d : Dev} (hk : Dev.Sound fz d) :
    Dev.Sound fz (Dev.refusedMsg d) := by
  unfold Dev.refusedMsg
  repeat' first
    | with_reducible assumption
    | ((fail_if_no_progress extract_lets +onlyGivenNames x); first | (refine sound_cut fz x ?_ (fun _ => ?_); unfold x) | skip)
    | with_reducible apply Dev.setSurf_sound
    | split

theorem execRefuseJoin_sound {_src : BitVec 10} {_words : List Word} {s : State} {t : State}
    (hk : s.dev.Sound fz) (h : execRefuseJoin _src _words s = .next t) : t.dev.Sound fz := by
  unfold execRefuseJoin at h
  refine State.run_sound hk h (fun d hk => ?_)
  repeat' first
    | with_reducible assumption
    | with_reducible apply Dev.refusedMsg_sound

theorem Dev.svcReqMsg_sound {d : Dev} {xy : Nat} {words : List Word} (hk : Dev.Sound fz d) :
    Dev.Sound fz (Dev.svcReqMsg d xy words) := by
  unfold Dev.svcReqMsg
  repeat' first
    | with_reducible assumption
    | ((fail_if_no_progress extract_lets +onlyGivenNames x); first | (refine sound_cut fz x ?_ (fun _ => ?_); unfold x) | clear_value x)
    | (fail_if_no_progress intros)
    | with_reducible apply Dev.fromLost_sound
    | with_reducible apply Dev.noteTile_sound
    | with_reducible apply Dev.serviceMode_sound
    | split

theorem execSvcReq_sound {src : BitVec 10} {words : List Word} {s : State} {t : State}
    (hk : s.dev.Sound fz) (h : execSvcReq src words s = .next t) : t.dev.Sound fz := by
  unfold execSvcReq at h
  refine State.run_sound hk h (fun d hk => ?_)
  repeat' first
    | with_reducible assumption
    | with_reducible apply Dev.svcReqMsg_sound

theorem Dev.answerJoins_sound {d : Dev} (hk : Dev.Sound fz d) :
    Dev.Sound fz (Dev.answerJoins d) := by
  unfold Dev.answerJoins
  repeat' first
    | with_reducible assumption
    | (with_reducible apply sound_foldl; intros)
    | with_reducible apply Dev.answerJoin_sound
    | split

theorem Dev.imgReqMsg_sound {d : Dev} {xy : Nat} (hk : Dev.Sound fz d) :
    Dev.Sound fz (Dev.imgReqMsg d xy) := by
  unfold Dev.imgReqMsg
  repeat' first
    | with_reducible assumption
    | ((fail_if_no_progress extract_lets +onlyGivenNames x); first | (refine sound_cut fz x ?_ (fun _ => ?_); unfold x) | clear_value x)
    | (fail_if_no_progress intros)
    | with_reducible apply Dev.fromLost_sound
    | with_reducible apply Dev.noteTile_sound
    | with_reducible apply Dev.serveImage_sound
    | with_reducible apply Dev.setSurf_sound
    | with_reducible apply Dev.setTileState_sound
    | with_reducible apply Dev.noteLoading_sound
    | with_reducible exact sound_mk (Dev.Sound.parts (by assumption))
    | split

theorem execDelta_sound {_src : BitVec 10} {words : List Word} {s : State} {t : State}
    (hk : s.dev.Sound fz) (h : execDelta _src words s = .next t) : t.dev.Sound fz := by
  unfold execDelta at h
  refine State.run_sound hk h (fun d hk => ?_)
  repeat' first
    | with_reducible assumption
    | with_reducible apply Dev.deltaMsg_sound

theorem execJoin_sound {_src : BitVec 10} {words : List Word} {s : State} {t : State}
    (hk : s.dev.Sound fz) (h : execJoin _src words s = .next t) : t.dev.Sound fz := by
  unfold execJoin at h
  refine State.run_sound hk h (fun d hk => ?_)
  repeat' first
    | with_reducible assumption
    | with_reducible apply Dev.joinMsg_sound

theorem execImgReq_sound {src : BitVec 10} {_words : List Word} {s : State} {t : State}
    (hk : s.dev.Sound fz) (h : execImgReq src _words s = .next t) : t.dev.Sound fz := by
  unfold execImgReq at h
  refine State.run_sound hk h (fun d hk => ?_)
  repeat' first
    | with_reducible assumption
    | with_reducible apply Dev.imgReqMsg_sound

theorem execEnum_sound {words : List Word} {s : State} {t : State}
    (hk : s.dev.Sound fz) (h : execEnum words s = .next t) : t.dev.Sound fz := by
  unfold execEnum at h
  refine State.run_sound hk h (fun d hk => ?_)
  repeat' first
    | with_reducible assumption
    | with_reducible apply Dev.enumMsg_sound

theorem Dev.setPhase_sound {d : Dev} {p : Nat} (hk : Dev.Sound fz d) :
    Dev.Sound fz (Dev.setPhase d p) := by
  unfold Dev.setPhase
  repeat' first
    | with_reducible assumption
    | with_reducible apply Dev.setFld_sound

theorem Dev.releaseHeld_sound {d : Dev} (hk : Dev.Sound fz d) :
    Dev.Sound fz (Dev.releaseHeld d) := by
  unfold Dev.releaseHeld
  repeat' first
    | with_reducible assumption
    | with_reducible apply Dev.issueOps_sound
    | with_reducible apply Dev.releaseHeldMode_sound
    | with_reducible exact sound_mk (Dev.Sound.parts (by assumption))
    | split

theorem Dev.sendGo_sound {d : Dev} (hk : Dev.Sound fz d) :
    Dev.Sound fz (Dev.sendGo d) := by
  unfold Dev.sendGo
  repeat' first
    | with_reducible assumption
    | (with_reducible apply sound_foldl_snd; intros)
    | ((fail_if_no_progress extract_lets +onlyGivenNames x); first | (refine sound_cut fz x ?_ (fun _ => ?_); unfold x) | skip)
    | (with_reducible apply sound_foldl; intros)
    | with_reducible apply Dev.setCom_sound
    | with_reducible apply Dev.send_sound
    | with_reducible apply Dev.releaseHeldMode_sound
    | with_reducible apply Dev.setPhase_sound
    | with_reducible apply Dev.issueOps_sound
    | with_reducible apply Dev.releaseHeld_sound
    | with_reducible exact sound_mk (Dev.Sound.parts (by assumption))
    | split

theorem Dev.readyMsg_sound {d : Dev} {xy : Nat} {words : List Word} (hk : Dev.Sound fz d) :
    Dev.Sound fz (Dev.readyMsg d xy words) := by
  unfold Dev.readyMsg
  repeat' first
    | with_reducible assumption
    | ((fail_if_no_progress extract_lets +onlyGivenNames x); first | (refine sound_cut fz x ?_ (fun _ => ?_); unfold x) | clear_value x)
    | (fail_if_no_progress intros)
    | with_reducible apply Dev.fromLost_sound
    | with_reducible apply Dev.noteTile_sound
    | with_reducible apply Dev.sendGo_sound
    | with_reducible apply Dev.bump_sound
    | with_reducible apply Dev.setCom_sound
    | split

theorem Dev.commitDone_sound {d : Dev} (hk : Dev.Sound fz d) :
    Dev.Sound fz (Dev.commitDone d) := by
  unfold Dev.commitDone
  repeat' first
    | with_reducible assumption
    | ((fail_if_no_progress extract_lets +onlyGivenNames x); first | (refine sound_cut fz x ?_ (fun _ => ?_); unfold x) | skip)
    | with_reducible apply Dev.setCom_sound
    | with_reducible apply Dev.answerJoins_sound
    | with_reducible apply Dev.releaseHeldMode_sound
    | with_reducible apply Dev.setFlag_sound
    | with_reducible apply Dev.setPhase_sound
    | with_reducible apply Dev.releaseHeld_sound
    | with_reducible exact sound_mk (Dev.Sound.parts (by assumption))
    | split

theorem Dev.noteCommit_sound {d : Dev} {result : Nat} (hk : Dev.Sound fz d) :
    Dev.Sound fz (Dev.noteCommit d result) := by
  unfold Dev.noteCommit
  repeat' first
    | with_reducible assumption
    | ((fail_if_no_progress extract_lets +onlyGivenNames x); first | (refine sound_cut fz x ?_ (fun _ => ?_); unfold x) | skip)
    | with_reducible apply Dev.setFld_sound
    | with_reducible apply Dev.setCom_sound

theorem Dev.commitFails_sound {d : Dev} {result : Nat} (hk : Dev.Sound fz d) :
    Dev.Sound fz (Dev.commitFails d result) := by
  unfold Dev.commitFails
  repeat' first
    | with_reducible assumption
    | with_reducible apply Dev.commitDone_sound
    | with_reducible apply Dev.bump_sound
    | with_reducible apply Dev.noteCommit_sound

theorem Dev.sendAborts_sound {d : Dev} (hk : Dev.Sound fz d) :
    Dev.Sound fz (Dev.sendAborts d) := by
  unfold Dev.sendAborts
  repeat' first
    | with_reducible assumption
    | (with_reducible apply sound_foldl; intros)
    | with_reducible apply Dev.issueOps_sound
    | with_reducible apply Dev.send_sound

theorem Dev.abortCommit_sound {d : Dev} {result : Nat} {xy : Nat} {reason : Nat} (hk : Dev.Sound fz d) :
    Dev.Sound fz (Dev.abortCommit d result xy reason) := by
  unfold Dev.abortCommit
  repeat' first
    | with_reducible assumption
    | with_reducible apply Dev.setFld_sound
    | with_reducible apply Dev.commitFails_sound
    | with_reducible apply Dev.sendAborts_sound
    | with_reducible apply Dev.setReg_sound

theorem Dev.refuseMsg_sound {d : Dev} {xy : Nat} {words : List Word} (hk : Dev.Sound fz d) :
    Dev.Sound fz (Dev.refuseMsg d xy words) := by
  unfold Dev.refuseMsg
  repeat' first
    | with_reducible assumption
    | ((fail_if_no_progress extract_lets +onlyGivenNames x); first | (refine sound_cut fz x ?_ (fun _ => ?_); unfold x) | clear_value x)
    | (fail_if_no_progress intros)
    | with_reducible apply Dev.fromLost_sound
    | with_reducible apply Dev.noteTile_sound
    | with_reducible apply Dev.abortCommit_sound
    | split

theorem Dev.noteLate_sound {d : Dev} (hk : Dev.Sound fz d) :
    Dev.Sound fz (Dev.noteLate d) := by
  unfold Dev.noteLate
  repeat' first
    | with_reducible assumption
    | ((fail_if_no_progress extract_lets +onlyGivenNames x); first | (refine sound_cut fz x ?_ (fun _ => ?_); unfold x) | clear_value x)
    | with_reducible apply Dev.setCom_sound
    | with_reducible apply Dev.setFld_sound
    | with_reducible apply Dev.setFlag_sound
    | with_reducible apply Dev.setReg_sound
    | split

theorem Dev.goAckTimeout_sound {d : Dev} (hk : Dev.Sound fz d) :
    Dev.Sound fz (Dev.goAckTimeout d) := by
  unfold Dev.goAckTimeout
  repeat' first
    | with_reducible assumption
    | ((fail_if_no_progress extract_lets +onlyGivenNames x); first | (refine sound_cut fz x ?_ (fun _ => ?_); unfold x) | skip)
    | (with_reducible apply sound_foldl; intros)
    | with_reducible apply Dev.setCom_sound
    | with_reducible apply Dev.resetTile_sound
    | with_reducible apply Dev.bump_sound
    | with_reducible apply Dev.noteLate_sound
    | with_reducible apply Dev.commitDone_sound
    | split

theorem Dev.writeNstg_sound {d : Dev} {v : Word} (hk : Dev.Sound fz d) :
    Dev.Sound fz (Dev.writeNstg d v) := by
  unfold Dev.writeNstg
  repeat' first
    | with_reducible assumption
    | with_reducible apply Dev.setFld_sound
    | split

theorem Dev.coldApply_sound {d : Dev} {n : Nat} (hk : Dev.Sound fz d) :
    Dev.Sound fz (Dev.coldApply d n) := by
  unfold Dev.coldApply
  repeat' first
    | with_reducible assumption
    | ((fail_if_no_progress extract_lets +onlyGivenNames x); first | (refine sound_cut fz x ?_ (fun _ => ?_); unfold x) | skip)
    | with_reducible apply Dev.fullRun_sound
    | with_reducible apply Dev.setCom_sound
    | with_reducible apply Dev.setMode_sound
    | split

theorem Dev.goMsg_sound {d : Dev} {words : List Word} (hk : Dev.Sound fz d) :
    Dev.Sound fz (Dev.goMsg d words) := by
  unfold Dev.goMsg
  repeat' first
    | with_reducible assumption
    | ((fail_if_no_progress extract_lets +onlyGivenNames x); first | (refine sound_cut fz x ?_ (fun _ => ?_); unfold x) | skip)
    | with_reducible apply Dev.setPhase_sound
    | with_reducible apply Dev.setCom_sound
    | with_reducible apply Dev.issueOps_sound
    | with_reducible apply Dev.send_sound
    | split

theorem execGo_sound {_src : BitVec 10} {words : List Word} {s : State} {t : State}
    (hk : s.dev.Sound fz) (h : execGo _src words s = .next t) : t.dev.Sound fz := by
  unfold execGo at h
  refine State.run_sound hk h (fun d hk => ?_)
  repeat' first
    | with_reducible assumption
    | with_reducible apply Dev.goMsg_sound

theorem Dev.noteJudged_sound {d : Dev} {j : Judged} (hk : Dev.Sound fz d) :
    Dev.Sound fz (Dev.noteJudged d j) := by
  unfold Dev.noteJudged
  repeat' first
    | with_reducible assumption
    | with_reducible apply Dev.setReg_sound
    | with_reducible exact sound_mk (Dev.Sound.parts (by assumption))

theorem Dev.prepared_sound {d : Dev} {n : Nat} {f : Nat} (hk : Dev.Sound fz d) :
    Dev.Sound fz (Dev.prepared d n f) := by
  unfold Dev.prepared
  repeat' first
    | with_reducible assumption
    | (split <;> first | (rename_i heq; simp only [Prod.ext_iff] at heq; first | refine sound_eq fz heq.2 ?_ (fun _ => ?_) | refine sound_eq fz heq.2.2 ?_ (fun _ => ?_) | refine sound_eq fz heq.2.2.2 ?_ (fun _ => ?_)) | skip)
    | ((fail_if_no_progress extract_lets +onlyGivenNames x); first | (refine sound_cut fz x ?_ (fun _ => ?_); unfold x) | skip)
    | with_reducible apply Dev.setReg_sound
    | with_reducible apply Dev.setCom_sound
    | with_reducible apply Dev.setFld_sound
    | with_reducible apply Dev.issueOps_sound
    | with_reducible apply Dev.send_sound
    | with_reducible apply Dev.setPhase_sound
    | with_reducible apply Dev.noteJudged_sound
    | with_reducible exact sound_mk (Dev.Sound.parts (by assumption))
    | split

theorem Dev.prepareMsg_sound {d : Dev} {words : List Word} (hk : Dev.Sound fz d) :
    Dev.Sound fz (Dev.prepareMsg d words) := by
  unfold Dev.prepareMsg
  repeat' first
    | with_reducible assumption
    | ((fail_if_no_progress extract_lets +onlyGivenNames x); first | (refine sound_cut fz x ?_ (fun _ => ?_); unfold x) | skip)
    | with_reducible apply Dev.setCom_sound
    | with_reducible apply Dev.prepared_sound
    | split

theorem execPrepare_sound {_src : BitVec 10} {words : List Word} {s : State} {t : State}
    (hk : s.dev.Sound fz) (h : execPrepare _src words s = .next t) : t.dev.Sound fz := by
  unfold execPrepare at h
  refine State.run_sound hk h (fun d hk => ?_)
  repeat' first
    | with_reducible assumption
    | with_reducible apply Dev.prepareMsg_sound

theorem execGoAckTimeout_sound {s : State} {t : State}
    (hk : s.dev.Sound fz) (h : execGoAckTimeout s = .next t) : t.dev.Sound fz := by
  unfold execGoAckTimeout at h
  refine State.run_sound hk h (fun d hk => ?_)
  repeat' first
    | with_reducible assumption
    | with_reducible apply Dev.goAckTimeout_sound

theorem Dev.cancelCommit_sound {d : Dev} (hk : Dev.Sound fz d) :
    Dev.Sound fz (Dev.cancelCommit d) := by
  unfold Dev.cancelCommit
  repeat' first
    | with_reducible assumption
    | ((fail_if_no_progress extract_lets +onlyGivenNames x); first | (refine sound_cut fz x ?_ (fun _ => ?_); unfold x) | skip)
    | with_reducible apply Dev.ignoreWrite_sound
    | with_reducible apply Dev.commitFails_sound
    | with_reducible apply Dev.sendAborts_sound
    | split

theorem Dev.beginChecks_sound {d : Dev} {checkOnly : Bool} (hk : Dev.Sound fz d) :
    Dev.Sound fz (Dev.beginChecks d checkOnly) := by
  unfold Dev.beginChecks
  repeat' first
    | with_reducible assumption
    | ((fail_if_no_progress extract_lets +onlyGivenNames x); first | (refine sound_cut fz x ?_ (fun _ => ?_); unfold x) | skip)
    | with_reducible apply Dev.setPhase_sound
    | with_reducible apply Dev.setFld_sound
    | with_reducible apply Dev.setCom_sound

theorem Dev.writeCfgCmd_sound {d : Dev} {v : Word} (hk : Dev.Sound fz d) :
    Dev.Sound fz (Dev.writeCfgCmd d v) := by
  unfold Dev.writeCfgCmd
  repeat' first
    | with_reducible assumption
    | ((fail_if_no_progress extract_lets +onlyGivenNames x); first | (refine sound_cut fz x ?_ (fun _ => ?_); unfold x) | clear_value x)
    | with_reducible apply Dev.ignoreWrite_sound
    | with_reducible apply Dev.cancelCommit_sound
    | with_reducible apply Dev.beginChecks_sound
    | with_reducible apply Dev.bump_sound
    | with_reducible apply Dev.noteCommit_sound
    | with_reducible apply Dev.setFld_sound
    | split

theorem execCfgClear_sound {key : Byte} {s : State} {t : State}
    (hk : s.dev.Sound fz) (h : execCfgClear key s = .next t) : t.dev.Sound fz := by
  unfold execCfgClear at h
  refine State.run_sound hk h (fun d hk => ?_)
  repeat' first
    | with_reducible assumption
    | with_reducible apply Dev.writeCfgCmd_sound

theorem execCfgCheck_sound {key : Byte} {s : State} {t : State}
    (hk : s.dev.Sound fz) (h : execCfgCheck key s = .next t) : t.dev.Sound fz := by
  unfold execCfgCheck at h
  refine State.run_sound hk h (fun d hk => ?_)
  repeat' first
    | with_reducible assumption
    | with_reducible apply Dev.writeCfgCmd_sound

theorem Dev.sendPrepare_sound {d : Dev} {ps : List (Nat × Word)} (hk : Dev.Sound fz d) :
    Dev.Sound fz (Dev.sendPrepare d ps) := by
  unfold Dev.sendPrepare
  repeat' first
    | with_reducible assumption
    | ((fail_if_no_progress extract_lets +onlyGivenNames x); first | (refine sound_cut fz x ?_ (fun _ => ?_); unfold x) | skip)
    | (with_reducible apply sound_foldl; intros)
    | with_reducible apply Dev.send_sound

theorem Dev.takeCommit_sound {d : Dev} {n : Nat} (hk : Dev.Sound fz d) :
    Dev.Sound fz (Dev.takeCommit d n) := by
  unfold Dev.takeCommit
  repeat' first
    | with_reducible assumption
    | ((fail_if_no_progress extract_lets +onlyGivenNames x); first | (refine sound_cut fz x ?_ (fun _ => ?_); unfold x) | skip)
    | (split <;> first | (rename_i heq; simp only [Prod.ext_iff] at heq; refine sound_eq fz heq.2 ?_ (fun _ => ?_)) | skip)
    | with_reducible apply Dev.applyPairs_sound
    | with_reducible apply Dev.setCom_sound
    | with_reducible apply Dev.setFld_sound
    | with_reducible apply Dev.noteCommit_sound
    | with_reducible apply Dev.bump_sound

theorem Dev.sendLate_sound {d : Dev} (hk : Dev.Sound fz d) :
    Dev.Sound fz (Dev.sendLate d) := by
  unfold Dev.sendLate
  repeat' first
    | with_reducible assumption
    | (with_reducible apply sound_foldl; intros)
    | with_reducible apply Dev.issueOps_sound
    | with_reducible apply Dev.send_sound

theorem Dev.lateBoundary_sound {d : Dev} (hk : Dev.Sound fz d) :
    Dev.Sound fz (Dev.lateBoundary d) := by
  unfold Dev.lateBoundary
  repeat' first
    | with_reducible assumption
    | ((fail_if_no_progress extract_lets +onlyGivenNames x); first | (refine sound_cut fz x ?_ (fun _ => ?_); unfold x) | skip)
    | with_reducible apply Dev.commitDone_sound
    | with_reducible apply Dev.noteLate_sound
    | with_reducible apply Dev.sendLate_sound
    | with_reducible exact sound_mk (Dev.Sound.parts (by assumption))
    | split

theorem Dev.answerLate_sound {d : Dev} (hk : Dev.Sound fz d) :
    Dev.Sound fz (Dev.answerLate d) := by
  unfold Dev.answerLate
  repeat' first
    | with_reducible assumption
    | ((fail_if_no_progress extract_lets +onlyGivenNames x); first | (refine sound_cut fz x ?_ (fun _ => ?_); unfold x) | skip)
    | with_reducible apply Dev.setCom_sound
    | with_reducible apply Dev.issueOps_sound
    | with_reducible apply Dev.send_sound
    | split

theorem Dev.applyClass_sound {d : Dev} {n : Nat} (hk : Dev.Sound fz d) :
    Dev.Sound fz (Dev.applyClass d n) := by
  unfold Dev.applyClass
  repeat' first
    | with_reducible assumption
    | ((fail_if_no_progress extract_lets +onlyGivenNames x); first | (refine sound_cut fz x ?_ (fun _ => ?_); unfold x) | skip)
    | with_reducible apply Dev.setTrk_sound
    | with_reducible apply Dev.setPhase_sound
    | with_reducible apply Dev.coldApply_sound
    | split

theorem Dev.ownPartDone_sound {d : Dev} (hk : Dev.Sound fz d) :
    Dev.Sound fz (Dev.ownPartDone d) := by
  unfold Dev.ownPartDone
  repeat' first
    | with_reducible assumption
    | ((fail_if_no_progress extract_lets +onlyGivenNames x); first | (refine sound_cut fz x ?_ (fun _ => ?_); unfold x) | skip)
    | with_reducible apply Dev.setCom_sound
    | with_reducible apply Dev.commitDone_sound
    | with_reducible apply Dev.setPhase_sound
    | split

theorem Dev.applyCommit_sound {d : Dev} {n : Nat} (hk : Dev.Sound fz d) :
    Dev.Sound fz (Dev.applyCommit d n).2 := by
  unfold Dev.applyCommit
  repeat' first
    | with_reducible assumption
    | ((fail_if_no_progress extract_lets +onlyGivenNames x); first | (refine sound_cut fz x ?_ (fun _ => ?_); unfold x) | skip)
    | (split <;> first | (rename_i heq; simp only [Prod.ext_iff] at heq; refine sound_eq fz heq.2 ?_ (fun _ => ?_)) | skip)
    | with_reducible apply Dev.setCom_sound
    | with_reducible apply Dev.takeCommit_sound
    | with_reducible apply Dev.answerLate_sound
    | with_reducible apply Dev.sendLate_sound
    | with_reducible apply Dev.noteLate_sound
    | with_reducible apply Dev.applyClass_sound
    | with_reducible apply Dev.ownPartDone_sound
    | with_reducible apply Dev.releaseHeld_sound
    | with_reducible exact sound_mk (Dev.Sound.parts (by assumption))
    | split

theorem Dev.arm_sound {d : Dev} {j : Judged} (hk : Dev.Sound fz d) :
    Dev.Sound fz (Dev.arm d j) := by
  unfold Dev.arm
  repeat' first
    | with_reducible assumption
    | ((fail_if_no_progress extract_lets +onlyGivenNames x); first | (refine sound_cut fz x ?_ (fun _ => ?_); unfold x) | skip)
    | (split <;> first | (rename_i heq; simp only [Prod.ext_iff] at heq; refine sound_eq fz heq.2 ?_ (fun _ => ?_)) | skip)
    | with_reducible apply Dev.setCom_sound
    | with_reducible apply Dev.setFld_sound
    | with_reducible apply Dev.setReg_sound
    | with_reducible apply Dev.sendGo_sound
    | with_reducible apply Dev.issueOps_sound
    | with_reducible apply Dev.sendPrepare_sound
    | with_reducible apply Dev.setPhase_sound
    | with_reducible apply Dev.applyCommit_sound

theorem Dev.checkOnlyEnd_sound {d : Dev} (hk : Dev.Sound fz d) :
    Dev.Sound fz (Dev.checkOnlyEnd d) := by
  unfold Dev.checkOnlyEnd
  repeat' first
    | with_reducible assumption
    | ((fail_if_no_progress extract_lets +onlyGivenNames x); first | (refine sound_cut fz x ?_ (fun _ => ?_); unfold x) | skip)
    | with_reducible apply Dev.commitDone_sound
    | with_reducible apply Dev.noteJudged_sound
    | with_reducible apply Dev.setCom_sound
    | with_reducible apply Dev.setFld_sound
    | with_reducible exact sound_mk (Dev.Sound.parts (by assumption))
    | split

theorem Dev.checkEnd_sound {d : Dev} (hk : Dev.Sound fz d) :
    Dev.Sound fz (Dev.checkEnd d) := by
  unfold Dev.checkEnd
  repeat' first
    | with_reducible assumption
    | ((fail_if_no_progress extract_lets +onlyGivenNames x); first | (refine sound_cut fz x ?_ (fun _ => ?_); unfold x) | skip)
    | with_reducible apply Dev.setReg_sound
    | with_reducible apply Dev.commitDone_sound
    | with_reducible apply Dev.setFld_sound
    | with_reducible apply Dev.commitFails_sound
    | with_reducible apply Dev.arm_sound
    | with_reducible apply Dev.checkOnlyEnd_sound
    | with_reducible apply Dev.noteJudged_sound
    | with_reducible exact sound_mk (Dev.Sound.parts (by assumption))
    | split

theorem Dev.coldDone_sound {d : Dev} (hk : Dev.Sound fz d) :
    Dev.Sound fz (Dev.coldDone d) := by
  unfold Dev.coldDone
  repeat' first
    | with_reducible assumption
    | ((fail_if_no_progress extract_lets +onlyGivenNames x); first | (refine sound_cut fz x ?_ (fun _ => ?_); unfold x) | skip)
    | with_reducible apply Dev.ownPartDone_sound
    | with_reducible apply Dev.setCom_sound
    | split

theorem execGoLate_sound {_src : BitVec 10} {words : List Word} {s : State} {t : State}
    (hk : s.dev.Sound fz) (h : execGoLate _src words s = .next t) : t.dev.Sound fz := by
  unfold execGoLate at h
  refine State.run_sound hk h (fun d hk => ?_)
  repeat' first
    | with_reducible assumption
    | with_reducible apply Dev.goMsg_sound

theorem execCfgCommit_sound {key : Byte} {s : State} {t : State}
    (hk : s.dev.Sound fz) (h : execCfgCommit key s = .next t) : t.dev.Sound fz := by
  unfold execCfgCommit at h
  refine State.run_sound hk h (fun d hk => ?_)
  repeat' first
    | with_reducible assumption
    | with_reducible apply Dev.writeCfgCmd_sound

theorem execReady_sound {src : BitVec 10} {words : List Word} {s : State} {t : State}
    (hk : s.dev.Sound fz) (h : execReady src words s = .next t) : t.dev.Sound fz := by
  unfold execReady at h
  refine State.run_sound hk h (fun d hk => ?_)
  repeat' first
    | with_reducible assumption
    | with_reducible apply Dev.readyMsg_sound

theorem execRefuse_sound {src : BitVec 10} {words : List Word} {s : State} {t : State}
    (hk : s.dev.Sound fz) (h : execRefuse src words s = .next t) : t.dev.Sound fz := by
  unfold execRefuse at h
  refine State.run_sound hk h (fun d hk => ?_)
  repeat' first
    | with_reducible assumption
    | with_reducible apply Dev.refuseMsg_sound

theorem Dev.goAckMsg_sound {d : Dev} {xy : Nat} {words : List Word} (hk : Dev.Sound fz d) :
    Dev.Sound fz (Dev.goAckMsg d xy words) := by
  unfold Dev.goAckMsg
  repeat' first
    | with_reducible assumption
    | ((fail_if_no_progress extract_lets +onlyGivenNames x); first | (refine sound_cut fz x ?_ (fun _ => ?_); unfold x) | clear_value x)
    | (fail_if_no_progress intros)
    | with_reducible apply Dev.fromLost_sound
    | with_reducible apply Dev.noteTile_sound
    | with_reducible apply Dev.setTile_sound
    | with_reducible apply Dev.setCom_sound
    | with_reducible apply Dev.noteLate_sound
    | with_reducible apply Dev.bump_sound
    | with_reducible apply Dev.commitDone_sound
    | split

theorem Dev.writeLead_sound {d : Dev} {v : Word} (hk : Dev.Sound fz d) :
    Dev.Sound fz (Dev.writeLead d v) := by
  unfold Dev.writeLead
  repeat' first
    | with_reducible assumption
    | with_reducible apply Dev.setFld_sound
    | split

theorem Dev.readyDeadline_sound {d : Dev} {n : Nat} (hk : Dev.Sound fz d) :
    Dev.Sound fz (Dev.readyDeadline d n) := by
  unfold Dev.readyDeadline
  repeat' first
    | with_reducible assumption
    | ((fail_if_no_progress extract_lets +onlyGivenNames x); first | (refine sound_cut fz x ?_ (fun _ => ?_); unfold x) | skip)
    | with_reducible apply Dev.abortCommit_sound
    | split

theorem execGoAck_sound {src : BitVec 10} {words : List Word} {s : State} {t : State}
    (hk : s.dev.Sound fz) (h : execGoAck src words s = .next t) : t.dev.Sound fz := by
  unfold execGoAck at h
  refine State.run_sound hk h (fun d hk => ?_)
  repeat' first
    | with_reducible assumption
    | with_reducible apply Dev.goAckMsg_sound

theorem execCfgCancel_sound {key : Byte} {s : State} {t : State}
    (hk : s.dev.Sound fz) (h : execCfgCancel key s = .next t) : t.dev.Sound fz := by
  unfold execCfgCancel at h
  refine State.run_sound hk h (fun d hk => ?_)
  repeat' first
    | with_reducible assumption
    | with_reducible apply Dev.writeCfgCmd_sound

theorem execColdCalibrationTimeout_sound {s : State} {t : State}
    (hk : s.dev.Sound fz) (h : execColdCalibrationTimeout s = .next t) : t.dev.Sound fz := by
  unfold execColdCalibrationTimeout at h
  refine State.run_sound hk h (fun d hk => ?_)
  repeat' first
    | with_reducible assumption
    | with_reducible apply Dev.coldDone_sound
    | with_reducible apply Dev.bump_sound
    | with_reducible apply Dev.setFld_sound
    | split

theorem execCfgCheckEnd_sound {s : State} {t : State}
    (hk : s.dev.Sound fz) (h : execCfgCheckEnd s = .next t) : t.dev.Sound fz := by
  unfold execCfgCheckEnd at h
  refine State.run_sound hk h (fun d hk => ?_)
  repeat' first
    | with_reducible assumption
    | with_reducible apply Dev.checkEnd_sound

theorem Dev.abortMsg_sound {d : Dev} {words : List Word} (hk : Dev.Sound fz d) :
    Dev.Sound fz (Dev.abortMsg d words) := by
  unfold Dev.abortMsg
  repeat' first
    | with_reducible assumption
    | with_reducible apply Dev.commitDone_sound
    | split

theorem execAbort_sound {_src : BitVec 10} {words : List Word} {s : State} {t : State}
    (hk : s.dev.Sound fz) (h : execAbort _src words s = .next t) : t.dev.Sound fz := by
  unfold execAbort at h
  refine State.run_sound hk h (fun d hk => ?_)
  repeat' first
    | with_reducible assumption
    | with_reducible apply Dev.abortMsg_sound

theorem Dev.firstFrame_sound {d : Dev} (hk : Dev.Sound fz d) :
    Dev.Sound fz (Dev.firstFrame d) := by
  unfold Dev.firstFrame
  repeat' first
    | with_reducible assumption
    | ((fail_if_no_progress extract_lets +onlyGivenNames x); first | (refine sound_cut fz x ?_ (fun _ => ?_); unfold x) | skip)
    | with_reducible apply Dev.setFlag_sound
    | with_reducible apply Dev.setSurf_sound
    | with_reducible apply Dev.issueOps_sound
    | with_reducible apply Dev.send_sound
    | with_reducible exact sound_mk (Dev.Sound.parts (by assumption))
    | split

theorem Dev.gapFrame_sound {d : Dev} {n : Nat} {stretched : Bool} {resets : List (Nat × Bool)} (hk : Dev.Sound fz d) :
    Dev.Sound fz (Dev.gapFrame d n stretched resets) := by
  unfold Dev.gapFrame
  repeat' first
    | with_reducible assumption
    | ((fail_if_no_progress extract_lets +onlyGivenNames x); first | (refine sound_cut fz x ?_ (fun _ => ?_); unfold x) | skip)
    | with_reducible apply Dev.setFld_sound
    | with_reducible apply Dev.setTrk_sound

theorem Dev.surfaceOut_sound {d : Dev} {f : FrameInfo} {tracked : Bool} {reps : List Report} {gestures : List (Word
    × Word)} (hk : Dev.Sound fz d) :
    Dev.Sound fz (Dev.surfaceOut d f tracked reps gestures) := by
  unfold Dev.surfaceOut
  repeat' first
    | with_reducible assumption
    | ((fail_if_no_progress extract_lets +onlyGivenNames x); first | (refine sound_cut fz x ?_ (fun _ => ?_); unfold x) | skip)
    | with_reducible apply Dev.setTrk_sound
    | with_reducible apply Dev.setSurf_sound
    | with_reducible apply Dev.sendContacts_sound
    | split

theorem Dev.dropScrap_sound {d : Dev} (hk : Dev.Sound fz d) :
    Dev.Sound fz (Dev.dropScrap d) := by
  unfold Dev.dropScrap
  repeat' first
    | with_reducible assumption
    | ((fail_if_no_progress extract_lets +onlyGivenNames x); first | (refine sound_cut fz x ?_ (fun _ => ?_); unfold x) | skip)
    | (with_reducible apply sound_foldl; intros)
    | with_reducible apply Dev.setOwner_sound
    | with_reducible apply Dev.setTrk_sound
    | split

theorem Dev.coreRestartEnd_sound {d : Dev} (hk : Dev.Sound fz d) :
    Dev.Sound fz (Dev.coreRestartEnd d) := by
  unfold Dev.coreRestartEnd
  repeat' first
    | with_reducible assumption
    | ((fail_if_no_progress extract_lets +onlyGivenNames x); first | (refine sound_cut fz x ?_ (fun _ => ?_); unfold x) | skip)
    | with_reducible apply Dev.reportReset_sound
    | with_reducible apply Dev.dropScrap_sound
    | with_reducible apply Dev.enterSafe_sound
    | with_reducible apply Dev.bootSafe_sound
    | with_reducible apply Dev.irRelease_sound
    | with_reducible exact sound_mk (Dev.Sound.parts (by assumption))
    | split

theorem Dev.ackMode_sound {d : Dev} {r : ModeReq} (hk : Dev.Sound fz d) :
    Dev.Sound fz (Dev.ackMode d r) := by
  unfold Dev.ackMode
  repeat' first
    | with_reducible assumption
    | with_reducible apply Dev.issueOps_sound
    | with_reducible apply Dev.send_sound
    | split

theorem Dev.modeBoundary_sound {d : Dev} {n : Nat} (hk : Dev.Sound fz d) :
    Dev.Sound fz (Dev.modeBoundary d n) := by
  unfold Dev.modeBoundary
  repeat' first
    | with_reducible assumption
    | ((fail_if_no_progress extract_lets +onlyGivenNames x); first | (refine sound_cut fz x ?_ (fun _ => ?_); unfold x) | clear_value x)
    | with_reducible apply Dev.markPending_sound
    | with_reducible apply Dev.setModes_sound
    | with_reducible apply Dev.ackMode_sound
    | with_reducible apply Dev.changeMode_sound
    | with_reducible apply Dev.recordMode_sound
    | split

theorem Dev.commitBoundary_sound {d : Dev} {n : Nat} (hk : Dev.Sound fz d) :
    Dev.Sound fz (Dev.commitBoundary d n).2.2 := by
  unfold Dev.commitBoundary
  repeat' first
    | with_reducible assumption
    | (split <;> first | (rename_i heq; simp only [Prod.ext_iff] at heq; first | refine sound_eq fz heq.2 ?_ (fun _ => ?_) | refine sound_eq fz heq.2.2 ?_ (fun _ => ?_) | refine sound_eq fz heq.2.2.2 ?_ (fun _ => ?_)) | skip)
    | ((fail_if_no_progress extract_lets +onlyGivenNames x); first | (refine sound_cut fz x ?_ (fun _ => ?_); unfold x) | skip)
    | (split <;> first | (rename_i heq; simp only [Prod.ext_iff] at heq; refine sound_eq fz heq.2 ?_ (fun _ => ?_)) | skip)
    | with_reducible apply Dev.readyDeadline_sound
    | with_reducible apply Dev.ownPartDone_sound
    | with_reducible apply Dev.noteLate_sound
    | with_reducible apply Dev.sendLate_sound
    | with_reducible apply Dev.applyCommit_sound
    | with_reducible apply Dev.lateBoundary_sound
    | with_reducible exact sound_mk (Dev.Sound.parts (by assumption))
    | split

theorem Dev.blBoundary_sound {d : Dev} (hk : Dev.Sound fz d) :
    Dev.Sound fz (Dev.blBoundary d).2 := by
  unfold Dev.blBoundary
  repeat' first
    | with_reducible assumption
    | ((fail_if_no_progress extract_lets +onlyGivenNames x); first | (refine sound_cut fz x ?_ (fun _ => ?_); unfold x) | skip)
    | (split <;> first | (rename_i heq; simp only [Prod.ext_iff] at heq; refine sound_eq fz heq.2 ?_ (fun _ => ?_)) | skip)
    | with_reducible apply Dev.setTrk_sound

theorem execCoreRestartEnd_sound {s : State} {t : State}
    (hk : s.dev.Sound fz) (h : execCoreRestartEnd s = .next t) : t.dev.Sound fz := by
  unfold execCoreRestartEnd at h
  refine State.run_sound hk h (fun d hk => ?_)
  repeat' first
    | with_reducible assumption
    | with_reducible apply Dev.coreRestartEnd_sound

theorem Dev.takeBank_sound {d : Dev} {n : Nat} (hk : Dev.Sound fz d) :
    Dev.Sound fz (Dev.takeBank d n).2 := by
  unfold Dev.takeBank
  repeat' first
    | with_reducible assumption
    | ((fail_if_no_progress extract_lets +onlyGivenNames x); first | (refine sound_cut fz x ?_ (fun _ => ?_); unfold x) | skip)
    | (split <;> first | (rename_i heq; simp only [Prod.ext_iff] at heq; refine sound_eq fz heq.2 ?_ (fun _ => ?_)) | skip)
    | with_reducible apply Dev.fillBank_sound
    | with_reducible apply Dev.setOwner_sound
    | with_reducible apply Dev.bump_sound
    | with_reducible apply Dev.ring_sound
    | with_reducible apply Dev.clearUnlisted_sound
    | with_reducible exact sound_mk (Dev.Sound.parts (by assumption))
    | split

theorem Dev.watchPalm_sound {d : Dev} {covered : List Nat} (hk : Dev.Sound fz d) :
    Dev.Sound fz (Dev.watchPalm d covered).2 := by
  unfold Dev.watchPalm
  repeat' first
    | with_reducible assumption
    | ((fail_if_no_progress extract_lets +onlyGivenNames x); first | (refine sound_cut fz x ?_ (fun _ => ?_); unfold x) | skip)
    | with_reducible apply Dev.setRpt_sound
    | with_reducible apply Dev.take_sound
    | with_reducible exact sound_mk (Dev.Sound.parts (by assumption))
    | split

theorem Dev.watchRaise_sound {d : Dev} {g : WatchGesture} (hk : Dev.Sound fz d) :
    Dev.Sound fz (Dev.watchRaise d g) := by
  unfold Dev.watchRaise
  repeat' first
    | with_reducible assumption
    | ((fail_if_no_progress extract_lets +onlyGivenNames x); first | (refine sound_cut fz x ?_ (fun _ => ?_); unfold x) | skip)
    | with_reducible apply Dev.setSurf_sound
    | with_reducible apply Dev.raiseGesture_sound
    | with_reducible apply Dev.watchWakes_sound
    | with_reducible apply Dev.noteWake_sound
    | with_reducible apply Dev.sendContacts_sound
    | with_reducible apply Dev.wake_sound
    | with_reducible exact sound_mk (Dev.Sound.parts (by assumption))
    | split

theorem Dev.idleToActive_sound {d : Dev} (hk : Dev.Sound fz d) :
    Dev.Sound fz (Dev.idleToActive d) := by
  unfold Dev.idleToActive
  repeat' first
    | with_reducible assumption
    | ((fail_if_no_progress extract_lets +onlyGivenNames x); first | (refine sound_cut fz x ?_ (fun _ => ?_); unfold x) | skip)
    | with_reducible apply Dev.autoMode_sound
    | with_reducible exact sound_mk (Dev.Sound.parts (by assumption))
    | split

theorem Dev.noteContact_sound {d : Dev} (hk : Dev.Sound fz d) :
    Dev.Sound fz (Dev.noteContact d) := by
  unfold Dev.noteContact
  repeat' first
    | with_reducible assumption
    | ((fail_if_no_progress extract_lets +onlyGivenNames x); first | (refine sound_cut fz x ?_ (fun _ => ?_); unfold x) | skip)
    | with_reducible apply Dev.setModes_sound
    | split

theorem execContactsDeadline_sound {s : State} {t : State}
    (hk : s.dev.Sound fz) (h : execContactsDeadline s = .next t) : t.dev.Sound fz := by
  unfold execContactsDeadline at h
  refine State.run_sound hk h (fun d hk => ?_)
  repeat' first
    | with_reducible assumption
    | with_reducible apply Dev.idleToActive_sound
    | with_reducible apply Dev.noteContact_sound
    | with_reducible apply Dev.contactsDeadline_sound

theorem Dev.watchFrame_sound {d : Dev} {selfs : List Word} (hk : Dev.Sound fz d) :
    Dev.Sound fz (Dev.watchFrame d selfs) := by
  unfold Dev.watchFrame
  repeat' first
    | with_reducible assumption
    | ((fail_if_no_progress extract_lets +onlyGivenNames x); first | (refine sound_cut fz x ?_ (fun _ => ?_); unfold x) | skip)
    | (split <;> first | (rename_i heq; simp only [Prod.ext_iff] at heq; refine sound_eq fz heq.2 ?_ (fun _ => ?_)) | skip)
    | with_reducible apply Dev.writeSelf_sound
    | with_reducible apply Dev.fillBank_sound
    | with_reducible apply Dev.setFld_sound
    | with_reducible apply Dev.bump_sound
    | with_reducible apply Dev.ring_sound
    | with_reducible apply Dev.clearUnlisted_sound
    | with_reducible apply Dev.pump_sound
    | with_reducible apply Dev.renewChannels_sound
    | with_reducible apply Dev.updateSelf_sound
    | with_reducible exact sound_mk (Dev.Sound.parts (by assumption))
    | split

theorem Dev.watchLift_sound {d : Dev} {t : WatchTouch} (hk : Dev.Sound fz d) :
    Dev.Sound fz (Dev.watchLift d t).2 := by
  unfold Dev.watchLift
  repeat' first
    | with_reducible assumption
    | ((fail_if_no_progress extract_lets +onlyGivenNames x); first | (refine sound_cut fz x ?_ (fun _ => ?_); unfold x) | skip)
    | with_reducible apply Dev.setRpt_sound
    | with_reducible exact sound_mk (Dev.Sound.parts (by assumption))
    | split

theorem Dev.watchScan_sound {d : Dev} {selfs : List Word} {seen : List (Nat × Nat × Nat)} {covered : List Nat} (hk : Dev.Sound fz d) :
    Dev.Sound fz (Dev.watchScan d selfs seen covered) := by
  unfold Dev.watchScan
  repeat' first
    | with_reducible assumption
    | ((fail_if_no_progress extract_lets +onlyGivenNames x); first | (refine sound_cut fz x ?_ (fun _ => ?_); unfold x) | skip)
    | (with_reducible apply sound_foldl; intros)
    | (with_reducible apply sound_foldl_snd; intros)
    | (split <;> first | (rename_i heq; simp only [Prod.ext_iff] at heq; first | refine sound_eq fz heq.2 ?_ (fun _ => ?_) | refine sound_eq fz heq.2.2 ?_ (fun _ => ?_) | refine sound_eq fz heq.2.2.2 ?_ (fun _ => ?_)) | skip)
    | with_reducible apply Dev.watchTurn_sound
    | with_reducible apply Dev.setRpt_sound
    | with_reducible apply Dev.watchFrame_sound
    | with_reducible apply Dev.watchLift_sound
    | with_reducible apply Dev.watchPalm_sound
    | with_reducible apply Dev.watchRaise_sound
    | with_reducible exact sound_mk (Dev.Sound.parts (by assumption))
    | split

theorem execWatchScan_sound {selfs : List Word} {touches : List (BitVec 5 × BitVec 12 × BitVec 12)} {covered : List (BitVec 7)} {s : State} {t : State}
    (hk : s.dev.Sound fz) (h : execWatchScan selfs touches covered s = .next t) : t.dev.Sound fz := by
  unfold execWatchScan at h
  refine State.run_sound hk h (fun d hk => ?_)
  repeat' first
    | with_reducible assumption
    | with_reducible apply Dev.watchScan_sound
    | with_reducible apply State.run_sound
    | with_reducible exact sound_mk (Dev.Sound.parts (by assumption))

theorem Dev.transitionOf_sound {d : Dev} {f : FrameInfo} (hk : Dev.Sound fz d) :
    Dev.Sound fz (Dev.transitionOf d f).2 := by
  unfold Dev.transitionOf
  repeat' first
    | with_reducible assumption
    | ((fail_if_no_progress extract_lets +onlyGivenNames x); first | (refine sound_cut fz x ?_ (fun _ => ?_); unfold x) | skip)
    | (split <;> first | (rename_i heq; simp only [Prod.ext_iff] at heq; refine sound_eq fz heq.2 ?_ (fun _ => ?_)) | skip)
    | with_reducible apply Dev.setTrk_sound

theorem Dev.hidTile_sound {d : Dev} {f : FrameInfo} {tracked : Bool} {cancels : List Report} {reps : List Report}
    (hk : Dev.Sound fz d) :
    Dev.Sound fz (Dev.hidTile d f tracked cancels reps) := by
  unfold Dev.hidTile
  repeat' first
    | with_reducible assumption
    | ((fail_if_no_progress extract_lets +onlyGivenNames x); first | (refine sound_cut fz x ?_ (fun _ => ?_); unfold x) | skip)
    | with_reducible apply Dev.hidFrame_sound
    | with_reducible apply Dev.hidOwe_sound
    | split

theorem Dev.trackOne_sound {d : Dev} {f : FrameInfo} {handed : List Nat} (hk : Dev.Sound fz d) :
    Dev.Sound fz (Dev.trackOne d f handed) := by
  unfold Dev.trackOne
  repeat' first
    | with_reducible assumption
    | ((fail_if_no_progress extract_lets +onlyGivenNames x); first | (refine sound_cut fz x ?_ (fun _ => ?_); unfold x) | skip)
    | (split <;> first | (rename_i heq; simp only [Prod.ext_iff] at heq; first
        | refine sound_eq fz heq.2 ?_ (fun _ => ?_)
        | refine sound_eq fz heq.2.2 ?_ (fun _ => ?_)
        | refine sound_eq fz heq.2.2.2 ?_ (fun _ => ?_)) | skip)
    | with_reducible apply Dev.trackBoundary_sound
    | with_reducible apply Dev.transitionOf_sound
    | with_reducible apply Dev.trackFrame_sound
    | with_reducible apply Dev.frameGestures_sound
    | with_reducible apply Dev.surfaceOut_sound
    | with_reducible apply Dev.standaloneReports_sound
    | with_reducible apply Dev.hidTile_sound

theorem Dev.takeStretch_sound {d : Dev} {n : Nat} (hk : Dev.Sound fz d) :
    Dev.Sound fz (Dev.takeStretch d n).2 := by
  unfold Dev.takeStretch
  repeat' first
    | with_reducible assumption
    | ((fail_if_no_progress extract_lets +onlyGivenNames x); first | (refine sound_cut fz x ?_ (fun _ => ?_); unfold x) | skip)
    | (split <;> first | (rename_i heq; simp only [Prod.ext_iff] at heq; refine sound_eq fz heq.2 ?_ (fun _ => ?_)) | skip)
    | with_reducible apply Dev.setFlag_sound
    | with_reducible apply Dev.setCal_sound
    | with_reducible apply Dev.issueOps_sound
    | with_reducible apply Dev.send_sound
    | with_reducible apply Dev.bump_sound

theorem Dev.beginScan_sound {d : Dev} {n : Nat} {stretched : Bool} {resets : List (Nat × Bool)} (hk : Dev.Sound fz d) :
    Dev.Sound fz (Dev.beginScan d n stretched resets) := by
  unfold Dev.beginScan
  repeat' first
    | with_reducible assumption
    | ((fail_if_no_progress extract_lets +onlyGivenNames x); first | (refine sound_cut fz x ?_ (fun _ => ?_); unfold x) | skip)
    | (split <;> first | (rename_i heq; simp only [Prod.ext_iff] at heq; refine sound_eq fz heq.2 ?_ (fun _ => ?_)) | skip)
    | with_reducible apply Dev.takeBank_sound
    | with_reducible apply Dev.draw_sound
    | with_reducible apply Dev.setFld_sound
    | with_reducible apply Dev.noteVtx_sound
    | with_reducible apply Dev.markVtx_sound
    | with_reducible apply Dev.pump_sound
    | with_reducible exact sound_mk (Dev.Sound.parts (by assumption))

theorem Dev.gatherFrame_sound {d : Dev} {n : Nat} {gap : Bool} (hk : Dev.Sound fz d) :
    Dev.Sound fz (Dev.gatherFrame d n gap) := by
  unfold Dev.gatherFrame
  repeat' first
    | with_reducible assumption
    | ((fail_if_no_progress extract_lets +onlyGivenNames x); first | (refine sound_cut fz x ?_ (fun _ => ?_); unfold x) | skip)
    | with_reducible exact sound_mk (Dev.Sound.parts (by assumption))
    | split

theorem Dev.startScan_sound {d : Dev} {n : Nat} {gap : Bool} {resets : List (Nat × Bool)} (hk : Dev.Sound fz d) :
    Dev.Sound fz (Dev.startScan d n gap resets) := by
  unfold Dev.startScan
  repeat' first
    | with_reducible assumption
    | ((fail_if_no_progress extract_lets +onlyGivenNames x); first | (refine sound_cut fz x ?_ (fun _ => ?_); unfold x) | skip)
    | (split <;> first | (rename_i heq; simp only [Prod.ext_iff] at heq; refine sound_eq fz heq.2 ?_ (fun _ => ?_)) | skip)
    | with_reducible apply Dev.setSurf_sound
    | with_reducible apply Dev.setTrk_sound
    | with_reducible apply Dev.takeStretch_sound
    | with_reducible apply Dev.gapFrame_sound
    | with_reducible apply Dev.beginScan_sound
    | with_reducible apply Dev.setFld_sound
    | with_reducible apply Dev.gatherFrame_sound
    | with_reducible apply Dev.trackBoundary_sound
    | with_reducible exact sound_mk (Dev.Sound.parts (by assumption))
    | split

theorem Dev.beaconFrame_sound {d : Dev} {n : Nat} (hk : Dev.Sound fz d) :
    Dev.Sound fz (Dev.beaconFrame d n) := by
  unfold Dev.beaconFrame
  repeat' first
    | with_reducible assumption
    | ((fail_if_no_progress extract_lets +onlyGivenNames x); first | (refine sound_cut fz x ?_ (fun _ => ?_); unfold x) | skip)
    | with_reducible apply Dev.sendBeacons_sound
    | with_reducible apply Dev.setSurf_sound
    | split

theorem Dev.frameStart_sound {d : Dev} (hk : Dev.Sound fz d) :
    Dev.Sound fz (Dev.frameStart d) := by
  unfold Dev.frameStart
  repeat' first
    | with_reducible assumption
    | ((fail_if_no_progress extract_lets +onlyGivenNames x); first | (refine sound_cut fz x ?_ (fun _ => ?_); unfold x) | skip)
    | (split <;> first | (rename_i heq; simp only [Prod.ext_iff] at heq; first
        | refine sound_eq fz heq.2 ?_ (fun _ => ?_)
        | refine sound_eq fz heq.2.2 ?_ (fun _ => ?_)
        | refine sound_eq fz heq.2.2.2 ?_ (fun _ => ?_)) | skip)
    | with_reducible apply Dev.answerJoins_sound
    | with_reducible apply Dev.beaconFrame_sound
    | with_reducible apply Dev.blBoundary_sound
    | with_reducible apply Dev.capAbandon_sound
    | with_reducible apply Dev.commitBoundary_sound
    | with_reducible apply Dev.contactsDeadline_sound
    | with_reducible apply Dev.dropScrap_sound
    | with_reducible apply Dev.firstFrame_sound
    | with_reducible apply Dev.modeBoundary_sound
    | with_reducible apply Dev.noteContact_sound
    | with_reducible apply Dev.reportForwardLoss_sound
    | with_reducible apply Dev.resumeScan_sound
    | with_reducible apply Dev.setFld_sound
    | with_reducible apply Dev.setTrk_sound
    | with_reducible apply Dev.slotBoundary_sound
    | with_reducible apply Dev.startScan_sound
    | with_reducible exact sound_mk (Dev.Sound.parts (by assumption))
    | split

theorem execFrameStart_sound {s : State} {t : State}
    (hk : s.dev.Sound fz) (h : execFrameStart s = .next t) : t.dev.Sound fz := by
  unfold execFrameStart at h
  refine State.run_sound hk h (fun d hk => ?_)
  repeat' first
    | with_reducible assumption
    | with_reducible apply Dev.frameStart_sound

theorem Dev.withPast_sound {d : Dev} {n : Nat} {f : Dev → Dev} (hk : Dev.Sound fz d)
    (hf : ∀ e, Dev.Sound fz e → Dev.Sound fz (f e)) : (d.withPast n f).Sound fz := by
  have h1 := hf _ (sound_foldl (xs := d.com.past.filter fun p => decide (frameDiff p.1 n < 0))
    (g := fun d p => p.2.foldl (fun d w => d.setCfg w.1 w.2.toNat) d)
    (fun d p hd => sound_foldl (fun d w hd => Dev.setCfg_sound hd) hd) hk)
  unfold Dev.withPast
  extract_lets past now e
  split
  · exact h1
  · exact sound_mk ⟨h1.1, h1.2.1, h1.2.2.1, hk.2.2.2.1, h1.2.2.2.2⟩

theorem Dev.afterFullRun_sound {d : Dev} (hk : Dev.Sound fz d) :
    Dev.Sound fz (Dev.afterFullRun d) := by
  unfold Dev.afterFullRun
  repeat' first
    | with_reducible assumption
    | with_reducible apply Dev.enterStep7_sound
    | with_reducible apply Dev.coldDone_sound
    | with_reducible apply Dev.resumeScan_sound
    | split

theorem execStartupCalibrationEnd_sound {items : List (List (BitVec 16) × Bool)} {s : State} {t : State}
    (hk : s.dev.Sound fz) (h : execStartupCalibrationEnd items s = .next t) : t.dev.Sound fz := by
  unfold execStartupCalibrationEnd at h
  refine State.run_sound hk h (fun d hk => ?_)
  repeat' first
    | with_reducible assumption
    | with_reducible apply Dev.afterFullRun_sound
    | with_reducible apply Dev.endFullRun_sound
    | split

theorem Dev.noteLatency_sound {d : Dev} {us : Nat} (hk : Dev.Sound fz d) :
    Dev.Sound fz (Dev.noteLatency d us) := by
  unfold Dev.noteLatency
  repeat' first
    | with_reducible assumption
    | ((fail_if_no_progress extract_lets +onlyGivenNames x); first | (refine sound_cut fz x ?_ (fun _ => ?_); unfold x) | skip)
    | with_reducible apply Dev.bump_sound
    | with_reducible apply Dev.setFld_sound
    | split

theorem Dev.dropPast_sound {d : Dev} (hk : Dev.Sound fz d) :
    Dev.Sound fz (Dev.dropPast d) := by
  unfold Dev.dropPast
  repeat' first
    | with_reducible assumption
    | ((fail_if_no_progress extract_lets +onlyGivenNames x); first | (refine sound_cut fz x ?_ (fun _ => ?_); unfold x) | skip)
    | with_reducible apply Dev.setCom_sound

theorem Dev.trackEnd_sound {d : Dev} {us : Nat} {handed : List Nat} (hk : Dev.Sound fz d) :
    Dev.Sound fz (Dev.trackEnd d us handed) := by
  unfold Dev.trackEnd
  repeat' first
    | with_reducible assumption
    | ((fail_if_no_progress extract_lets +onlyGivenNames x); first | (refine sound_cut fz x ?_ (fun _ => ?_); unfold x) | clear_value x)
    | (fail_if_no_progress intros)
    | with_reducible apply Dev.dropScrap_sound
    | with_reducible apply Dev.setTrk_sound
    | with_reducible apply Dev.withPast_sound
    | with_reducible apply Dev.trackOne_sound
    | with_reducible apply Dev.noteContact_sound
    | with_reducible apply Dev.noteLatency_sound
    | with_reducible apply Dev.afterTracking_sound
    | with_reducible apply Dev.dropPast_sound
    | with_reducible apply Dev.idleToActive_sound
    | with_reducible apply Dev.noteTelem_sound
    | split

theorem execTrackFrame_sound {us : BitVec 16} {handed : List (BitVec 2)} {s : State} {t : State}
    (hk : s.dev.Sound fz) (h : execTrackFrame us handed s = .next t) : t.dev.Sound fz := by
  unfold execTrackFrame at h
  refine State.run_sound hk h (fun d hk => ?_)
  repeat' first
    | with_reducible assumption
    | with_reducible apply Dev.trackEnd_sound

theorem execFullRunTimeout_sound {items : List (List (BitVec 16) × Bool)} {s : State} {t : State}
    (hk : s.dev.Sound fz) (h : execFullRunTimeout items s = .next t) : t.dev.Sound fz := by
  unfold execFullRunTimeout at h
  refine State.run_sound hk h (fun d hk => ?_)
  repeat' first
    | with_reducible assumption
    | with_reducible apply Dev.enterStep7_sound
    | with_reducible apply Dev.setFld_sound
    | with_reducible apply Dev.takeItems_sound
    | split

end Sys2Proof.Machine
end

