-- ==== Sys2Proof/Laws/SoundHost.lean ====
section
/-!
SUPPORT. SoundHost.lean: that each operation and command of USB, the gather engine, register accesses, the console and delivered packets keeps `Dev.Sound`.
-/

set_option maxRecDepth 4000
set_option linter.unusedTactic false
set_option linter.unreachableTactic false
set_option linter.unusedVariables false

namespace Sys2Proof.Machine

variable {fz : Fuses}

theorem Dev.answer_sound {d : Dev} {data : Option (List Byte)} (hk : Dev.Sound fz d) :
    Dev.Sound fz (Dev.answer d data) := by
  unfold Dev.answer
  repeat' first
    | with_reducible assumption
    | ((fail_if_no_progress extract_lets +onlyGivenNames x); first | (refine sound_cut fz x ?_ (fun _ => ?_); unfold x) | skip)
    | with_reducible apply Dev.setUsb_sound

theorem Dev.reply_sound {d : Dev} {data : List Byte} {length : Nat} (hk : Dev.Sound fz d) :
    Dev.Sound fz (Dev.reply d data length) := by
  unfold Dev.reply
  repeat' first
    | with_reducible assumption
    | with_reducible apply Dev.answer_sound

theorem Dev.stall_sound {d : Dev} (hk : Dev.Sound fz d) :
    Dev.Sound fz (Dev.stall d) := by
  unfold Dev.stall
  repeat' first
    | with_reducible assumption
    | with_reducible apply Dev.answer_sound

theorem execGetInterface_sound {index : BitVec 16} {length : BitVec 16} {s : State} {t : State}
    (hk : s.dev.Sound fz) (h : execGetInterface index length s = .next t) : t.dev.Sound fz := by
  unfold execGetInterface State.request at h
  refine State.run_sound hk h (fun d hk => ?_)
  split
  · beta_reduce
    repeat' first
      | with_reducible assumption
      | with_reducible apply Dev.reply_sound
      | with_reducible apply Dev.stall_sound
      | split
  · exact hk

theorem Dev.suspendRequest_sound {d : Dev} (hk : Dev.Sound fz d) :
    Dev.Sound fz (Dev.suspendRequest d) := by
  unfold Dev.suspendRequest
  repeat' first
    | with_reducible assumption
    | ((fail_if_no_progress extract_lets +onlyGivenNames x); first | (refine sound_cut fz x ?_ (fun _ => ?_); unfold x) | skip)
    | with_reducible apply Dev.setModes_sound
    | with_reducible apply Dev.requestMode_sound
    | with_reducible apply Dev.markPending_sound
    | split

theorem Dev.usbSuspend_sound {d : Dev} (hk : Dev.Sound fz d) :
    Dev.Sound fz (Dev.usbSuspend d) := by
  unfold Dev.usbSuspend
  repeat' first
    | with_reducible assumption
    | ((fail_if_no_progress extract_lets +onlyGivenNames x); first | (refine sound_cut fz x ?_ (fun _ => ?_); unfold x) | skip)
    | with_reducible apply Dev.setUsb_sound
    | with_reducible apply Dev.setFlag_sound
    | with_reducible apply Dev.usbEvent_sound
    | with_reducible apply Dev.issueOps_sound
    | with_reducible apply Dev.suspendRequest_sound
    | split

theorem Dev.usbError_sound {d : Dev} {kind : Nat} (hk : Dev.Sound fz d) :
    Dev.Sound fz (Dev.usbError d kind) := by
  unfold Dev.usbError
  repeat' first
    | with_reducible assumption
    | with_reducible apply Dev.ring_sound

theorem Dev.packetError_sound {d : Dev} (hk : Dev.Sound fz d) :
    Dev.Sound fz (Dev.packetError d) := by
  unfold Dev.packetError
  repeat' first
    | with_reducible assumption
    | ((fail_if_no_progress extract_lets +onlyGivenNames x); first | (refine sound_cut fz x ?_ (fun _ => ?_); unfold x) | skip)
    | with_reducible apply Dev.bump_sound
    | with_reducible apply Dev.setUsb_sound
    | with_reducible apply Dev.usbError_sound
    | split

theorem execUsbPacketError_sound {s : State} {t : State}
    (hk : s.dev.Sound fz) (h : execUsbPacketError s = .next t) : t.dev.Sound fz := by
  unfold execUsbPacketError at h
  refine State.run_sound hk h (fun d hk => ?_)
  repeat' first
    | with_reducible assumption
    | with_reducible apply Dev.packetError_sound

theorem execSofLock_sound {s : State} {t : State}
    (hk : s.dev.Sound fz) (h : execSofLock s = .next t) : t.dev.Sound fz := by
  unfold execSofLock at h
  refine State.run_sound hk h (fun d hk => ?_)
  repeat' first
    | with_reducible assumption
    | with_reducible apply Dev.setFlag_sound
    | split

theorem Dev.endpointsReset_sound {d : Dev} (hk : Dev.Sound fz d) :
    Dev.Sound fz (Dev.endpointsReset d) := by
  unfold Dev.endpointsReset
  repeat' first
    | with_reducible assumption
    | ((fail_if_no_progress extract_lets +onlyGivenNames x); first | (refine sound_cut fz x ?_ (fun _ => ?_); unfold x) | skip)
    | with_reducible apply Dev.setUsb_sound

theorem Dev.usbDetach_sound {d : Dev} (hk : Dev.Sound fz d) :
    Dev.Sound fz (Dev.usbDetach d) := by
  unfold Dev.usbDetach
  repeat' first
    | with_reducible assumption
    | ((fail_if_no_progress extract_lets +onlyGivenNames x); first | (refine sound_cut fz x ?_ (fun _ => ?_); unfold x) | skip)
    | with_reducible apply Dev.endpointsReset_sound
    | with_reducible apply Dev.setUsb_sound
    | with_reducible apply Dev.usbEvent_sound
    | with_reducible apply Dev.followReference_sound
    | with_reducible apply Dev.setReg_sound
    | with_reducible exact sound_mk (Dev.Sound.parts (by assumption))
    | split

theorem execUsbDetach_sound {vbus : Bool} {s : State} {t : State}
    (hk : s.dev.Sound fz) (h : execUsbDetach vbus s = .next t) : t.dev.Sound fz := by
  unfold execUsbDetach at h
  refine State.run_sound hk h (fun d hk => ?_)
  repeat' first
    | with_reducible assumption
    | ((fail_if_no_progress extract_lets +onlyGivenNames x); first | (refine sound_cut fz x ?_ (fun _ => ?_); unfold x) | skip)
    | with_reducible apply Dev.setUsb_sound
    | with_reducible apply Dev.usbDetach_sound
    | split

theorem Dev.sendReport_sound {d : Dev} (hk : Dev.Sound fz d) :
    Dev.Sound fz (Dev.sendReport d) := by
  unfold Dev.sendReport
  repeat' first
    | with_reducible assumption
    | ((fail_if_no_progress extract_lets +onlyGivenNames x); first | (refine sound_cut fz x ?_ (fun _ => ?_); unfold x) | skip)
    | with_reducible apply Dev.setUsb_sound
    | split

theorem Dev.setHalt_sound {d : Dev} {ep : Nat} {b : Bool} (hk : Dev.Sound fz d) :
    Dev.Sound fz (Dev.setHalt d ep b) := by
  unfold Dev.setHalt
  repeat' first
    | with_reducible assumption
    | ((fail_if_no_progress extract_lets +onlyGivenNames x); first | (refine sound_cut fz x ?_ (fun _ => ?_); unfold x) | skip)
    | with_reducible apply Dev.setUsb_sound
    | split

theorem Dev.hidRequest_sound {d : Dev} {f : Dev → Dev} {index : Nat} (hk : Dev.Sound fz d) (hf : ∀ e, Dev.Sound fz e
    → Dev.Sound fz (f e)) :
    Dev.Sound fz (Dev.hidRequest d index f) := by
  unfold Dev.hidRequest
  repeat' first
    | with_reducible assumption
    | with_reducible apply Dev.stall_sound
    | with_reducible apply hf
    | split

theorem Dev.getReport_sound {d : Dev} {type : Nat} {id : Nat} {index : Nat} {length : Nat} (hk : Dev.Sound fz d) :
    Dev.Sound fz (Dev.getReport d type id index length) := by
  unfold Dev.getReport
  repeat' first
    | with_reducible assumption
    | (fail_if_no_progress intros)
    | with_reducible apply Dev.hidRequest_sound
    | with_reducible apply Dev.reply_sound
    | with_reducible apply Dev.stall_sound
    | split

theorem execGetReport_sound {value : BitVec 16} {index : BitVec 16} {length : BitVec 16} {s : State} {t : State}
    (hk : s.dev.Sound fz) (h : execGetReport value index length s = .next t) : t.dev.Sound fz := by
  unfold execGetReport State.request at h
  refine State.run_sound hk h (fun d hk => ?_)
  split
  · beta_reduce
    repeat' first
      | with_reducible assumption
      | with_reducible apply Dev.getReport_sound
  · exact hk

theorem Dev.setDetach_sound {d : Dev} {b : Bool} (hk : Dev.Sound fz d) :
    Dev.Sound fz (Dev.setDetach d b) := by
  unfold Dev.setDetach
  repeat' first
    | with_reducible assumption
    | ((fail_if_no_progress extract_lets +onlyGivenNames x); first | (refine sound_cut fz x ?_ (fun _ => ?_); unfold x) | skip)
    | with_reducible apply Dev.setFlag_sound
    | with_reducible apply Dev.usbDetach_sound
    | with_reducible apply Dev.usbTry_sound
    | split

theorem Dev.writeUsbCtrl_sound {d : Dev} {rq : Requester} {v : Word} (hk : Dev.Sound fz d) :
    Dev.Sound fz (Dev.writeUsbCtrl d rq v) := by
  unfold Dev.writeUsbCtrl
  repeat' first
    | with_reducible assumption
    | ((fail_if_no_progress extract_lets +onlyGivenNames x); first | (refine sound_cut fz x ?_ (fun _ => ?_); unfold x) | skip)
    | with_reducible apply Dev.ignoreWrite_sound
    | with_reducible apply Dev.setUsb_sound
    | with_reducible apply Dev.setDetach_sound
    | split

theorem execDetach_sound {rq : Requester} {value : Word} {s : State} {t : State}
    (hk : s.dev.Sound fz) (h : execDetach rq value s = .next t) : t.dev.Sound fz := by
  unfold execDetach at h
  refine State.run_sound hk h (fun d hk => ?_)
  repeat' first
    | with_reducible assumption
    | with_reducible apply Dev.writeUsbCtrl_sound

theorem Dev.done_sound {d : Dev} (hk : Dev.Sound fz d) :
    Dev.Sound fz (Dev.done d) := by
  unfold Dev.done
  repeat' first
    | with_reducible assumption
    | with_reducible apply Dev.answer_sound

theorem Dev.setAddress_sound {d : Dev} {v : Nat} (hk : Dev.Sound fz d) :
    Dev.Sound fz (Dev.setAddress d v) := by
  unfold Dev.setAddress
  repeat' first
    | with_reducible assumption
    | with_reducible apply Dev.stall_sound
    | with_reducible apply Dev.done_sound
    | with_reducible apply Dev.setFld_sound
    | split

theorem Dev.setFeature_sound {d : Dev} {recipient : Nat} {value : Nat} {index : Nat} {b : Bool} (hk : Dev.Sound fz d) :
    Dev.Sound fz (Dev.setFeature d recipient value index b) := by
  unfold Dev.setFeature
  repeat' first
    | with_reducible assumption
    | with_reducible apply Dev.done_sound
    | with_reducible apply Dev.setFlag_sound
    | with_reducible apply Dev.setHalt_sound
    | with_reducible apply Dev.stall_sound
    | split

theorem execSetFeature_sound {recipient : BitVec 5} {value : BitVec 16} {index : BitVec 16} {s : State} {t : State}
    (hk : s.dev.Sound fz) (h : execSetFeature recipient value index s = .next t) : t.dev.Sound fz := by
  unfold execSetFeature State.request at h
  refine State.run_sound hk h (fun d hk => ?_)
  split
  · beta_reduce
    repeat' first
      | with_reducible assumption
      | with_reducible apply Dev.setFeature_sound
  · exact hk

theorem Dev.restartH1_sound {d : Dev} (hk : Dev.Sound fz d) :
    Dev.Sound fz (Dev.restartH1 d) := by
  unfold Dev.restartH1
  repeat' first
    | with_reducible assumption
    | ((fail_if_no_progress extract_lets +onlyGivenNames x); first | (refine sound_cut fz x ?_ (fun _ => ?_); unfold x) | skip)
    | with_reducible apply Dev.setHostQ_sound
    | with_reducible apply Dev.setFlag_sound
    | with_reducible apply Dev.setFld_sound
    | with_reducible apply Dev.askBurst_sound
    | with_reducible exact sound_mk (Dev.Sound.parts (by assumption))

theorem Dev.setConfiguration_sound {d : Dev} {v : Nat} (hk : Dev.Sound fz d) :
    Dev.Sound fz (Dev.setConfiguration d v) := by
  unfold Dev.setConfiguration
  repeat' first
    | with_reducible assumption
    | ((fail_if_no_progress extract_lets +onlyGivenNames x); first | (refine sound_cut fz x ?_ (fun _ => ?_); unfold x) | skip)
    | with_reducible apply Dev.stall_sound
    | with_reducible apply Dev.endpointsReset_sound
    | with_reducible apply Dev.setUsb_sound
    | with_reducible apply Dev.done_sound
    | with_reducible apply Dev.usbEvent_sound
    | with_reducible apply Dev.restartH1_sound
    | with_reducible apply Dev.setFld_sound
    | with_reducible apply Dev.setFlag_sound
    | split

theorem execSetConfiguration_sound {value : BitVec 16} {s : State} {t : State}
    (hk : s.dev.Sound fz) (h : execSetConfiguration value s = .next t) : t.dev.Sound fz := by
  unfold execSetConfiguration State.request at h
  refine State.run_sound hk h (fun d hk => ?_)
  split
  · beta_reduce
    repeat' first
      | with_reducible assumption
      | with_reducible apply Dev.setConfiguration_sound
  · exact hk

theorem Dev.tenthMm_sound {d : Dev} {v : Nat} (hk : Dev.Sound fz d) :
    Dev.Sound fz (Dev.tenthMm d v).2 := by
  unfold Dev.tenthMm
  repeat' first
    | with_reducible assumption
    | (split <;> first | (rename_i heq; simp only [Prod.ext_iff] at heq; refine sound_eq fz heq.2 ?_ (fun _ => ?_)) | skip)
    | with_reducible apply Dev.draw_sound

theorem Dev.hidReportDescriptor_sound {d : Dev} (hk : Dev.Sound fz d) :
    Dev.Sound fz (Dev.hidReportDescriptor d).2 := by
  unfold Dev.hidReportDescriptor
  repeat' first
    | with_reducible assumption
    | (split <;> first | (rename_i heq; simp only [Prod.ext_iff] at heq; refine sound_eq fz heq.2 ?_ (fun _ => ?_)) | skip)
    | with_reducible apply Dev.tenthMm_sound

theorem Dev.getDescriptor_sound {d : Dev} {type : Nat} {i : Nat} {index : Nat} {length : Nat} (hk : Dev.Sound fz d) :
    Dev.Sound fz (Dev.getDescriptor d type i index length) := by
  unfold Dev.getDescriptor
  repeat' first
    | with_reducible assumption
    | (split <;> first | (rename_i heq; simp only [Prod.ext_iff] at heq; refine sound_eq fz heq.2 ?_ (fun _ => ?_)) | skip)
    | with_reducible apply Dev.reply_sound
    | with_reducible apply Dev.stall_sound
    | with_reducible apply Dev.hidReportDescriptor_sound

theorem execGetDescriptor_sound {value : BitVec 16} {index : BitVec 16} {length : BitVec 16} {s : State} {t : State}
    (hk : s.dev.Sound fz) (h : execGetDescriptor value index length s = .next t) : t.dev.Sound fz := by
  unfold execGetDescriptor State.request at h
  refine State.run_sound hk h (fun d hk => ?_)
  split
  · beta_reduce
    repeat' first
      | with_reducible assumption
      | with_reducible apply Dev.getDescriptor_sound
  · exact hk

theorem execRemoteWakeDriveEnd_sound {hostK : Bool} {s : State} {t : State}
    (hk : s.dev.Sound fz) (h : execRemoteWakeDriveEnd hostK s = .next t) : t.dev.Sound fz := by
  unfold execRemoteWakeDriveEnd at h
  refine State.run_sound hk h (fun d hk => ?_)
  repeat' first
    | with_reducible assumption
    | ((fail_if_no_progress extract_lets +onlyGivenNames x); first | (refine sound_cut fz x ?_ (fun _ => ?_); unfold x) | skip)
    | with_reducible apply Dev.setUsb_sound
    | with_reducible apply Dev.setFld_sound
    | split

theorem execStall_sound {s : State} {t : State}
    (hk : s.dev.Sound fz) (h : execStall s = .next t) : t.dev.Sound fz := by
  unfold execStall State.request at h
  refine State.run_sound hk h (fun d hk => ?_)
  split
  · beta_reduce
    repeat' first
      | with_reducible assumption
      | with_reducible apply Dev.stall_sound
  · exact hk

theorem execFoscLock_sound {s : State} {t : State}
    (hk : s.dev.Sound fz) (h : execFoscLock s = .next t) : t.dev.Sound fz := by
  unfold execFoscLock at h
  refine State.run_sound hk h (fun d hk => ?_)
  repeat' first
    | with_reducible assumption
    | with_reducible apply Dev.usbTry_sound
    | with_reducible apply Dev.followReference_sound
    | with_reducible apply Dev.setFlag_sound
    | split

theorem Dev.busReset_sound {d : Dev} (hk : Dev.Sound fz d) :
    Dev.Sound fz (Dev.busReset d) := by
  unfold Dev.busReset
  repeat' first
    | with_reducible assumption
    | ((fail_if_no_progress extract_lets +onlyGivenNames x); first | (refine sound_cut fz x ?_ (fun _ => ?_); unfold x) | skip)
    | with_reducible apply Dev.endpointsReset_sound
    | with_reducible apply Dev.setUsb_sound
    | with_reducible apply Dev.usbEvent_sound
    | with_reducible apply Dev.bump_sound
    | with_reducible apply Dev.setReg_sound
    | with_reducible apply Dev.ring_sound
    | with_reducible exact sound_mk (Dev.Sound.parts (by assumption))
    | split

theorem execGetIdle_sound {_value : BitVec 16} {index : BitVec 16} {length : BitVec 16} {s : State} {t : State}
    (hk : s.dev.Sound fz) (h : execGetIdle _value index length s = .next t) : t.dev.Sound fz := by
  unfold execGetIdle State.request at h
  refine State.run_sound hk h (fun d hk => ?_)
  split
  · beta_reduce
    repeat' first
      | with_reducible assumption
      | (fail_if_no_progress intros)
      | with_reducible apply Dev.hidRequest_sound
      | with_reducible apply Dev.reply_sound
  · exact hk

theorem execSetIdle_sound {value : BitVec 16} {index : BitVec 16} {s : State} {t : State}
    (hk : s.dev.Sound fz) (h : execSetIdle value index s = .next t) : t.dev.Sound fz := by
  unfold execSetIdle State.request at h
  refine State.run_sound hk h (fun d hk => ?_)
  split
  · beta_reduce
    repeat' first
      | with_reducible assumption
      | ((fail_if_no_progress extract_lets +onlyGivenNames x); first | (refine sound_cut fz x ?_ (fun _ => ?_); unfold x) | skip)
      | (fail_if_no_progress intros)
      | with_reducible apply Dev.hidRequest_sound
      | with_reducible apply Dev.done_sound
      | with_reducible apply Dev.setUsb_sound
  · exact hk

theorem Dev.getStatus_sound {d : Dev} {recipient : Nat} {index : Nat} {length : Nat} (hk : Dev.Sound fz d) :
    Dev.Sound fz (Dev.getStatus d recipient index length) := by
  unfold Dev.getStatus
  repeat' first
    | with_reducible assumption
    | ((fail_if_no_progress extract_lets +onlyGivenNames x); first | (refine sound_cut fz x ?_ (fun _ => ?_); unfold x) | skip)
    | with_reducible apply Dev.reply_sound
    | with_reducible apply Dev.stall_sound
    | split

theorem execGetStatus_sound {recipient : BitVec 5} {index : BitVec 16} {length : BitVec 16} {s : State} {t : State}
    (hk : s.dev.Sound fz) (h : execGetStatus recipient index length s = .next t) : t.dev.Sound fz := by
  unfold execGetStatus State.request at h
  refine State.run_sound hk h (fun d hk => ?_)
  split
  · beta_reduce
    repeat' first
      | with_reducible assumption
      | with_reducible apply Dev.getStatus_sound
  · exact hk

theorem execUsbAttach_sound {s : State} {t : State}
    (hk : s.dev.Sound fz) (h : execUsbAttach s = .next t) : t.dev.Sound fz := by
  unfold execUsbAttach at h
  refine State.run_sound hk h (fun d hk => ?_)
  repeat' first
    | with_reducible assumption
    | ((fail_if_no_progress extract_lets +onlyGivenNames x); first | (refine sound_cut fz x ?_ (fun _ => ?_); unfold x) | skip)
    | with_reducible apply Dev.usbTry_sound
    | with_reducible apply Dev.setUsb_sound

theorem execUsbBusReset_sound {s : State} {t : State}
    (hk : s.dev.Sound fz) (h : execUsbBusReset s = .next t) : t.dev.Sound fz := by
  unfold execUsbBusReset at h
  refine State.run_sound hk h (fun d hk => ?_)
  repeat' first
    | with_reducible assumption
    | with_reducible apply Dev.busReset_sound

theorem Dev.resumeRequest_sound {d : Dev} (hk : Dev.Sound fz d) :
    Dev.Sound fz (Dev.resumeRequest d) := by
  unfold Dev.resumeRequest
  repeat' first
    | with_reducible assumption
    | ((fail_if_no_progress extract_lets +onlyGivenNames x); first | (refine sound_cut fz x ?_ (fun _ => ?_); unfold x) | skip)
    | with_reducible apply Dev.setModes_sound
    | with_reducible apply Dev.issueOps_sound
    | with_reducible apply Dev.requestMode_sound
    | split

theorem Dev.usbResume_sound {d : Dev} (hk : Dev.Sound fz d) :
    Dev.Sound fz (Dev.usbResume d) := by
  unfold Dev.usbResume
  repeat' first
    | with_reducible assumption
    | ((fail_if_no_progress extract_lets +onlyGivenNames x); first | (refine sound_cut fz x ?_ (fun _ => ?_); unfold x) | skip)
    | with_reducible apply Dev.setUsb_sound
    | with_reducible apply Dev.setFld_sound
    | with_reducible apply Dev.usbEvent_sound
    | with_reducible apply Dev.setFlag_sound
    | with_reducible apply Dev.resumeRequest_sound
    | with_reducible apply Dev.ring_sound
    | split

theorem execGetConfiguration_sound {length : BitVec 16} {s : State} {t : State}
    (hk : s.dev.Sound fz) (h : execGetConfiguration length s = .next t) : t.dev.Sound fz := by
  unfold execGetConfiguration State.request at h
  refine State.run_sound hk h (fun d hk => ?_)
  split
  · beta_reduce
    repeat' first
      | with_reducible assumption
      | with_reducible apply Dev.reply_sound
  · exact hk

theorem Dev.wakeSampled_sound {d : Dev} {bus : Nat} (hk : Dev.Sound fz d) :
    Dev.Sound fz (Dev.wakeSampled d bus) := by
  unfold Dev.wakeSampled
  repeat' first
    | with_reducible assumption
    | ((fail_if_no_progress extract_lets +onlyGivenNames x); first | (refine sound_cut fz x ?_ (fun _ => ?_); unfold x) | skip)
    | with_reducible apply Dev.setUsb_sound
    | with_reducible apply Dev.setFld_sound
    | with_reducible apply Dev.busReset_sound
    | split

theorem execRemoteWakeSampleEnd_sound {bus : BitVec 2} {s : State} {t : State}
    (hk : s.dev.Sound fz) (h : execRemoteWakeSampleEnd bus s = .next t) : t.dev.Sound fz := by
  unfold execRemoteWakeSampleEnd at h
  refine State.run_sound hk h (fun d hk => ?_)
  repeat' first
    | with_reducible assumption
    | with_reducible apply Dev.wakeSampled_sound

theorem execFoscLockLost_sound {s : State} {t : State}
    (hk : s.dev.Sound fz) (h : execFoscLockLost s = .next t) : t.dev.Sound fz := by
  unfold execFoscLockLost at h
  refine State.run_sound hk h (fun d hk => ?_)
  repeat' first
    | with_reducible assumption
    | ((fail_if_no_progress extract_lets +onlyGivenNames x); first | (refine sound_cut fz x ?_ (fun _ => ?_); unfold x) | skip)
    | with_reducible apply Dev.usbDetach_sound
    | with_reducible apply Dev.followReference_sound
    | with_reducible apply Dev.setFlag_sound
    | with_reducible apply Dev.usbError_sound
    | with_reducible apply Dev.logEvent_sound
    | with_reducible exact sound_mk (Dev.Sound.parts (by assumption))
    | split

theorem execUsbSuspend_sound {s : State} {t : State}
    (hk : s.dev.Sound fz) (h : execUsbSuspend s = .next t) : t.dev.Sound fz := by
  unfold execUsbSuspend at h
  refine State.run_sound hk h (fun d hk => ?_)
  repeat' first
    | with_reducible assumption
    | with_reducible apply Dev.usbSuspend_sound

theorem execUsbResume_sound {s : State} {t : State}
    (hk : s.dev.Sound fz) (h : execUsbResume s = .next t) : t.dev.Sound fz := by
  unfold execUsbResume at h
  refine State.run_sound hk h (fun d hk => ?_)
  repeat' first
    | with_reducible assumption
    | with_reducible apply Dev.usbResume_sound

theorem execHidReportSend_sound {s : State} {t : State}
    (hk : s.dev.Sound fz) (h : execHidReportSend s = .next t) : t.dev.Sound fz := by
  unfold execHidReportSend at h
  refine State.run_sound hk h (fun d hk => ?_)
  repeat' first
    | with_reducible assumption
    | with_reducible apply Dev.sendReport_sound

theorem execSetInterface_sound {value : BitVec 16} {index : BitVec 16} {s : State} {t : State}
    (hk : s.dev.Sound fz) (h : execSetInterface value index s = .next t) : t.dev.Sound fz := by
  unfold execSetInterface State.request at h
  refine State.run_sound hk h (fun d hk => ?_)
  split
  · beta_reduce
    repeat' first
      | with_reducible assumption
      | with_reducible apply Dev.done_sound
      | with_reducible apply Dev.stall_sound
      | split
  · exact hk

theorem execClearFeature_sound {recipient : BitVec 5} {value : BitVec 16} {index : BitVec 16} {s : State} {t : State}
    (hk : s.dev.Sound fz) (h : execClearFeature recipient value index s = .next t) : t.dev.Sound fz := by
  unfold execClearFeature State.request at h
  refine State.run_sound hk h (fun d hk => ?_)
  split
  · beta_reduce
    repeat' first
      | with_reducible assumption
      | with_reducible apply Dev.setFeature_sound
  · exact hk

theorem execSetAddress_sound {value : BitVec 16} {s : State} {t : State}
    (hk : s.dev.Sound fz) (h : execSetAddress value s = .next t) : t.dev.Sound fz := by
  unfold execSetAddress State.request at h
  refine State.run_sound hk h (fun d hk => ?_)
  split
  · beta_reduce
    repeat' first
      | with_reducible assumption
      | with_reducible apply Dev.setAddress_sound
  · exact hk

theorem execStartOfFrameToken_sound {frame : BitVec 11} {s : State} {t : State}
    (hk : s.dev.Sound fz) (h : execStartOfFrameToken frame s = .next t) : t.dev.Sound fz := by
  unfold execStartOfFrameToken at h
  refine State.run_sound hk h (fun d hk => ?_)
  repeat' first
    | with_reducible assumption
    | ((fail_if_no_progress extract_lets +onlyGivenNames x); first | (refine sound_cut fz x ?_ (fun _ => ?_); unfold x) | skip)
    | with_reducible apply Dev.setUsb_sound
    | with_reducible apply Dev.setFld_sound
    | with_reducible apply Dev.followReference_sound
    | with_reducible exact sound_mk (Dev.Sound.parts (by assumption))
    | split

theorem Dev.guestRead_sound {d : Dev} {bank w : Nat} {flips : List (List (BitVec 5))} {n : Nat} (hk : Dev.Sound fz d) :
    (d.guestRead bank w flips n).2.Sound fz := by
  induction n generalizing d bank w flips with
  | zero => exact hk
  | succ n ih =>
    have hm := Dev.meetErrors_sound (bank := bank) (w := w) (master := 6) (flips := flips.headD []) hk
    unfold Dev.guestRead
    dsimp only
    split
    · exact hm
    · exact ih (Dev.goodWord_sound hm)

theorem Dev.gatherServe_sound {d : Dev} {src : Nat} {w0 w1 : Word} {flips : List (List (BitVec 5))}
    (hk : Dev.Sound fz d) : (d.gatherServe src w0 w1 flips).2.Sound fz := by
  unfold Dev.gatherServe
  dsimp only
  split
  · exact Dev.bump_sound hk
  · have hg := Dev.guestRead_sound (bank := wGet w1 14 4) (w := wGet w1 0 14) (flips := flips) (n := wGet w0 0 7) hk
    split <;> rename_i heq <;> rw [heq] at hg
    · exact hg
    · exact Dev.bump_sound hg

theorem Dev.respond_sound {d : Dev} {dest : Nat} {tag : Nat} {type : Nat} {payload : List Word} (hk : Dev.Sound fz d) :
    Dev.Sound fz (Dev.respond d dest tag type payload) := by
  unfold Dev.respond
  repeat' first
    | with_reducible assumption
    | with_reducible apply Dev.launch_sound

theorem execGatherRead_sound {src : BitVec 10} {tag : BitVec 6} {w0 : Word} {w1 : Word} {flips : List (List (BitVec
    5))} {s : State} {t : State}
    (hk : s.dev.Sound fz) (h : execGatherRead src tag w0 w1 flips s = .next t) : t.dev.Sound fz := by
  unfold execGatherRead at h
  refine State.run_sound hk h (fun d hk => ?_)
  repeat' first
    | with_reducible assumption
    | (split <;> first | (rename_i heq; simp only [Prod.ext_iff] at heq; refine sound_eq fz heq.2 ?_ (fun _ => ?_)) | skip)
    | with_reducible apply Dev.gatherServe_sound
    | with_reducible apply Dev.respond_sound

theorem Dev.askOne_sound {d : Dev} {c : Nat} (hk : Dev.Sound fz d) :
    Dev.Sound fz (Dev.askOne d c) := by
  unfold Dev.askOne
  repeat' first
    | with_reducible assumption
    | ((fail_if_no_progress extract_lets +onlyGivenNames x); first | (refine sound_cut fz x ?_ (fun _ => ?_); unfold x) | skip)
    | with_reducible apply Dev.newOp_sound
    | with_reducible apply Dev.setChan_sound
    | split

theorem Dev.askMore_sound {d : Dev} {c : Nat} (hk : Dev.Sound fz d) :
    Dev.Sound fz (Dev.askMore d c) := by
  unfold Dev.askMore
  repeat' first
    | with_reducible assumption
    | (with_reducible apply sound_foldl; intros)
    | with_reducible apply Dev.issueOps_sound
    | with_reducible apply Dev.askOne_sound

theorem Dev.readBurst_sound {d : Dev} {ent : Word × Word} {a : Nat} {flips : List (List (BitVec 5))} {n : Nat}
    (hk : Dev.Sound fz d) : (d.readBurst ent a flips n).2.2.Sound fz := by
  induction n generalizing d a flips with
  | zero => exact hk
  | succ n ih =>
    have hm := Dev.meetErrors_sound (bank := entBank ent) (w := entWord ent a) (master := 6) (flips := flips.headD []) hk
    unfold Dev.readBurst
    dsimp only
    split
    · exact Dev.bump_sound hk
    · split
      · exact hm
      · exact ih (Dev.goodWord_sound hm)

theorem Dev.fetchBurst_sound {d : Dev} {c n : Nat} {ent : Word × Word} {a : Nat} {flips : List (List (BitVec 5))}
    (hk : Dev.Sound fz d) : (d.fetchBurst c n ent a flips).2.2.Sound fz := by
  unfold Dev.fetchBurst
  split
  · exact Dev.setChan_sound hk
  · exact Dev.readBurst_sound hk

theorem Dev.writeBurst_sound {d : Dev} {ent : Word × Word} {a : Nat} {z1 : List Word} {z2 : List Bool} (hk :
    Dev.Sound fz d) :
    Dev.Sound fz (Dev.writeBurst d ent a z1 z2).2.2.2 := by
  induction z1 generalizing d ent a z2 with
  | nil =>
    unfold Dev.writeBurst
    repeat' first
      | with_reducible assumption
      | ((fail_if_no_progress extract_lets +onlyGivenNames x); first | (refine sound_cut fz x ?_ (fun _ => ?_); unfold x) | clear_value x)
      | (split <;> first | (rename_i heq; simp only [Prod.ext_iff] at heq; refine sound_eq fz heq.2 ?_ (fun _ => ?_)) | skip)
      | with_reducible apply Dev.bump_sound
      | with_reducible apply Dev.portA_sound
      | with_reducible apply Dev.portB_sound
  | cons _ _ ih =>
    unfold Dev.writeBurst
    repeat' first
      | with_reducible assumption
      | with_reducible apply ih
      | ((fail_if_no_progress extract_lets +onlyGivenNames x); first | (refine sound_cut fz x ?_ (fun _ => ?_); unfold x) | clear_value x)
      | (split <;> first | (rename_i heq; simp only [Prod.ext_iff] at heq; refine sound_eq fz heq.2 ?_ (fun _ => ?_)) | skip)
      | with_reducible apply Dev.bump_sound
      | with_reducible apply Dev.portA_sound
      | with_reducible apply Dev.portB_sound

theorem Dev.gdeFault_sound {d : Dev} {c : Nat} {kind : Nat} {dst : Bool} (hk : Dev.Sound fz d) :
    Dev.Sound fz (Dev.gdeFault d c kind dst) := by
  unfold Dev.gdeFault
  repeat' first
    | with_reducible assumption
    | ((fail_if_no_progress extract_lets +onlyGivenNames x); first | (refine sound_cut fz x ?_ (fun _ => ?_); unfold x) | skip)
    | with_reducible apply Dev.setReg_sound
    | with_reducible apply Dev.bump_sound
    | with_reducible apply Dev.setChan_sound
    | with_reducible apply Dev.setFaulted_sound
    | with_reducible apply Dev.ring_sound
    | split

theorem Dev.gdeComplete_sound {d : Dev} {c : Nat} (hk : Dev.Sound fz d) :
    Dev.Sound fz (Dev.gdeComplete d c) := by
  unfold Dev.gdeComplete
  repeat' first
    | with_reducible assumption
    | ((fail_if_no_progress extract_lets +onlyGivenNames x); first | (refine sound_cut fz x ?_ (fun _ => ?_); unfold x) | skip)
    | with_reducible apply Dev.setChan_sound
    | with_reducible apply Dev.setFaulted_sound
    | with_reducible apply Dev.ring_sound
    | with_reducible apply Dev.activate_sound
    | with_reducible apply Dev.setRpt_sound
    | with_reducible exact sound_mk (Dev.Sound.parts (by assumption))
    | split

theorem Dev.nextElement_sound {d : Dev} {c : Nat} (hk : Dev.Sound fz d) :
    Dev.Sound fz (Dev.nextElement d c) := by
  unfold Dev.nextElement
  repeat' first
    | with_reducible assumption
    | ((fail_if_no_progress extract_lets +onlyGivenNames x); first | (refine sound_cut fz x ?_ (fun _ => ?_); unfold x) | skip)
    | with_reducible apply Dev.setChan_sound
    | with_reducible apply Dev.setFaulted_sound
    | with_reducible apply Dev.gdeComplete_sound
    | split

theorem Dev.burst_sound {d : Dev} {c : Nat} {flips : List (List (BitVec 5))} {collide : List Bool} {waits : Nat} (hk
    : Dev.Sound fz d) :
    Dev.Sound fz (Dev.burst d c flips collide waits) := by
  unfold Dev.burst
  repeat' first
    | with_reducible assumption
    | ((fail_if_no_progress extract_lets +onlyGivenNames x); first | (refine sound_cut fz x ?_ (fun _ => ?_); unfold x) | skip)
    | (split <;> first | (rename_i heq; simp only [Prod.ext_iff] at heq; first
        | refine sound_eq fz heq.2 ?_ (fun _ => ?_)
        | refine sound_eq fz heq.2.2 ?_ (fun _ => ?_)
        | refine sound_eq fz heq.2.2.2 ?_ (fun _ => ?_)) | skip)
    | with_reducible apply Dev.bumpBy_sound
    | with_reducible apply Dev.setFld_sound
    | with_reducible apply Dev.fetchBurst_sound
    | with_reducible apply Dev.writeBurst_sound
    | with_reducible apply Dev.setChan_sound
    | with_reducible apply Dev.gdeFault_sound
    | with_reducible apply Dev.nextElement_sound
    | with_reducible apply Dev.setReg_sound

theorem Dev.enterPages_sound {d : Dev} {c : Nat} (hk : Dev.Sound fz d) :
    Dev.Sound fz (Dev.enterPages d c) := by
  unfold Dev.enterPages
  repeat' first
    | with_reducible assumption
    | ((fail_if_no_progress extract_lets +onlyGivenNames x); first | (refine sound_cut fz x ?_ (fun _ => ?_); unfold x) | skip)
    | with_reducible apply Dev.gdeFault_sound
    | with_reducible apply Dev.askMore_sound
    | with_reducible apply Dev.setChan_sound
    | split

theorem Dev.serveChan_sound {d : Dev} {c : Nat} {flips : List (List (BitVec 5))} {collide : List Bool} {waits : Nat}
    (hk : Dev.Sound fz d) :
    Dev.Sound fz (Dev.serveChan d c flips collide waits).2 := by
  unfold Dev.serveChan
  repeat' first
    | with_reducible assumption
    | ((fail_if_no_progress extract_lets +onlyGivenNames x); first | (refine sound_cut fz x ?_ (fun _ => ?_); unfold x) | skip)
    | (split <;> first | (rename_i heq; simp only [Prod.ext_iff] at heq; refine sound_eq fz heq.2 ?_ (fun _ => ?_)) | skip)
    | with_reducible apply Dev.enterPages_sound
    | with_reducible apply Dev.gdeFault_sound
    | with_reducible apply Dev.burst_sound

theorem Dev.gatherBurst_sound {d : Dev} {flips : List (List (BitVec 5))} {collide : List Bool} {waits : Nat} (hk :
    Dev.Sound fz d) :
    Dev.Sound fz (Dev.gatherBurst d flips collide waits) := by
  unfold Dev.gatherBurst
  repeat' first
    | with_reducible assumption
    | (with_reducible apply sound_foldl; intros)
    | (with_reducible apply sound_foldl_snd; intros)
    | (split <;> first | (rename_i heq; simp only [Prod.ext_iff] at heq; refine sound_eq fz heq.2 ?_ (fun _ => ?_)) | skip)
    | with_reducible apply Dev.serveChan_sound

theorem execGatherBurst_sound {flips : List (List (BitVec 5))} {collide : List Bool} {waits : BitVec 5} {s : State}
    {t : State}
    (hk : s.dev.Sound fz) (h : execGatherBurst flips collide waits s = .next t) : t.dev.Sound fz := by
  unfold execGatherBurst at h
  refine State.run_sound hk h (fun d hk => ?_)
  repeat' first
    | with_reducible assumption
    | with_reducible apply Dev.gatherBurst_sound

theorem Dev.gdePush_sound {d : Dev} {c : Nat} (hk : Dev.Sound fz d) :
    Dev.Sound fz (Dev.gdePush d c) := by
  unfold Dev.gdePush
  repeat' first
    | with_reducible assumption
    | ((fail_if_no_progress extract_lets +onlyGivenNames x); first | (refine sound_cut fz x ?_ (fun _ => ?_); unfold x) | skip)
    | with_reducible apply Dev.setFld_sound
    | with_reducible apply Dev.activate_sound
    | with_reducible apply Dev.setChan_sound
    | with_reducible apply Dev.bump_sound
    | with_reducible apply Dev.queueDesc_sound
    | with_reducible exact sound_mk (Dev.Sound.parts (by assumption))
    | split

theorem Dev.restRemote_sound {d : Dev} {words : List Word} (hk : Dev.Sound fz d) :
    Dev.Sound fz (Dev.restRemote d words) := by
  unfold Dev.restRemote
  repeat' first
    | with_reducible assumption
    | ((fail_if_no_progress extract_lets +onlyGivenNames x); first | (refine sound_cut fz x ?_ (fun _ => ?_); unfold x) | skip)
    | (with_reducible apply sound_foldl; intros)
    | (with_reducible apply sound_foldl_snd; intros)
    | with_reducible apply Build.words_sound
    | with_reducible apply Dev.gdeComplete_sound
    | with_reducible apply Dev.portB_sound
    | with_reducible apply Dev.take_sound
    | with_reducible exact sound_mk (Dev.Sound.parts (by assumption))

theorem Dev.restLocal_sound {d : Dev} (hk : Dev.Sound fz d) :
    Dev.Sound fz (Dev.restLocal d) := by
  unfold Dev.restLocal
  repeat' first
    | with_reducible assumption
    | (with_reducible apply sound_foldl; intros)
    | (with_reducible apply sound_foldl_snd; intros)
    | with_reducible apply Dev.serveChan_sound
    | with_reducible exact sound_mk (Dev.Sound.parts (by assumption))

theorem Dev.restOfCopy_sound {d : Dev} {ok : Bool} {words : List Word} (hk : Dev.Sound fz d) :
    Dev.Sound fz (Dev.restOfCopy d ok words) := by
  unfold Dev.restOfCopy
  repeat' first
    | with_reducible assumption
    | with_reducible apply Build.words_sound
    | with_reducible apply Dev.gdeFault_sound
    | with_reducible apply Dev.restLocal_sound
    | with_reducible apply Dev.restRemote_sound
    | with_reducible exact sound_mk (Dev.Sound.parts (by assumption))
    | split

theorem Dev.capCopyEnd_sound {d : Dev} {ok : Bool} {remote : List Word} (hk : Dev.Sound fz d) :
    Dev.Sound fz (Dev.capCopyEnd d ok remote) := by
  unfold Dev.capCopyEnd
  repeat' first
    | with_reducible assumption
    | ((fail_if_no_progress extract_lets +onlyGivenNames x); first | (refine sound_cut fz x ?_ (fun _ => ?_); unfold x) | skip)
    | with_reducible apply Dev.bump_sound
    | with_reducible apply Dev.capEnd_sound
    | with_reducible apply Dev.flushChan_sound
    | with_reducible apply Dev.restOfCopy_sound
    | with_reducible apply Dev.ring_sound
    | with_reducible apply Dev.setFld_sound
    | with_reducible apply Dev.setRpt_sound
    | with_reducible apply Dev.copyReleased_sound
    | with_reducible exact sound_mk (Dev.Sound.parts (by assumption))
    | split

theorem execCaptureCopyEnd_sound {ok : Bool} {remote : List Word} {s : State} {t : State}
    (hk : s.dev.Sound fz) (h : execCaptureCopyEnd ok remote s = .next t) : t.dev.Sound fz := by
  unfold execCaptureCopyEnd at h
  refine State.run_sound hk h (fun d hk => ?_)
  repeat' first
    | with_reducible assumption
    | with_reducible apply Dev.capCopyEnd_sound
    | with_reducible apply State.run_sound
    | with_reducible exact sound_mk (Dev.Sound.parts (by assumption))

theorem Dev.gdeCommand_sound {d : Dev} {v : Word} (hk : Dev.Sound fz d) :
    Dev.Sound fz (Dev.gdeCommand d v) := by
  unfold Dev.gdeCommand
  repeat' first
    | with_reducible assumption
    | ((fail_if_no_progress extract_lets +onlyGivenNames x); first | (refine sound_cut fz x ?_ (fun _ => ?_); unfold x) | skip)
    | with_reducible apply Dev.ignoreWrite_sound
    | with_reducible apply Dev.gdePush_sound
    | with_reducible apply Dev.setChan_sound
    | with_reducible apply Dev.setFaulted_sound
    | with_reducible apply Dev.nextElement_sound
    | with_reducible apply Dev.activate_sound
    | with_reducible apply Dev.dropActive_sound
    | with_reducible apply Dev.flushChan_sound
    | split

theorem execGdePush_sound {channel : BitVec 3} {s : State} {t : State}
    (hk : s.dev.Sound fz) (h : execGdePush channel s = .next t) : t.dev.Sound fz := by
  unfold execGdePush at h
  refine State.run_sound hk h (fun d hk => ?_)
  repeat' first
    | with_reducible assumption
    | with_reducible apply Dev.gdeCommand_sound

theorem execGdeSkip_sound {channel : BitVec 3} {s : State} {t : State}
    (hk : s.dev.Sound fz) (h : execGdeSkip channel s = .next t) : t.dev.Sound fz := by
  unfold execGdeSkip at h
  refine State.run_sound hk h (fun d hk => ?_)
  repeat' first
    | with_reducible assumption
    | with_reducible apply Dev.gdeCommand_sound

theorem Dev.consoleGdeTest_sound {d : Dev} {n : Nat} (hk : Dev.Sound fz d) :
    Dev.Sound fz (Dev.consoleGdeTest d n) := by
  unfold Dev.consoleGdeTest
  repeat' first
    | with_reducible assumption
    | ((fail_if_no_progress extract_lets +onlyGivenNames x); first | (refine sound_cut fz x ?_ (fun _ => ?_); unfold x) | skip)
    | (with_reducible apply sound_foldl; intros)
    | (with_reducible apply sound_foldl_snd; intros)
    | (split <;> first | (rename_i heq; simp only [Prod.ext_iff] at heq; refine sound_eq fz heq.2 ?_ (fun _ => ?_)) | skip)
    | with_reducible apply Dev.finishErr_sound
    | with_reducible apply Dev.writeWord_sound
    | with_reducible apply Dev.draw_sound
    | with_reducible apply Dev.finishOk_sound
    | with_reducible apply Dev.print_sound

theorem execGdeTest_sound {n : BitVec 16} {s : State} {t : State}
    (hk : s.dev.Sound fz) (h : execGdeTest n s = .next t) : t.dev.Sound fz := by
  unfold execGdeTest at h
  refine State.run_sound hk h (fun d hk => ?_)
  repeat' first
    | with_reducible assumption
    | (fail_if_no_progress intros)
    | with_reducible apply Dev.consoleGdeTest_sound
    | with_reducible apply Dev.command_sound
    | with_reducible apply State.run_sound
    | with_reducible exact sound_mk (Dev.Sound.parts (by assumption))

theorem execGdeFlush_sound {channel : BitVec 3} {s : State} {t : State}
    (hk : s.dev.Sound fz) (h : execGdeFlush channel s = .next t) : t.dev.Sound fz := by
  unfold execGdeFlush at h
  refine State.run_sound hk h (fun d hk => ?_)
  repeat' first
    | with_reducible assumption
    | with_reducible apply Dev.gdeCommand_sound

theorem Dev.writeWin_sound {d : Dev} {a : Nat} {v : Word} (hk : Dev.Sound fz d) :
    Dev.Sound fz (Dev.writeWin d a v) := by
  unfold Dev.writeWin
  repeat' first
    | with_reducible assumption
    | with_reducible apply Dev.ignoreWrite_sound
    | with_reducible apply Dev.storeReg_sound
    | split

theorem Dev.gatherDone_sound {d : Dev} {o : Operation} (hk : Dev.Sound fz d) :
    Dev.Sound fz (Dev.gatherDone d o) := by
  unfold Dev.gatherDone
  repeat' first
    | with_reducible assumption
    | ((fail_if_no_progress extract_lets +onlyGivenNames x); first | (refine sound_cut fz x ?_ (fun _ => ?_); unfold x) | skip)
    | with_reducible apply Dev.setChan_sound
    | with_reducible apply Dev.askMore_sound
    | split

theorem execGdeWin_sound {s : State} {t : State}
    (hk : s.dev.Sound fz) (h : execGdeWin s = .next t) : t.dev.Sound fz := by
  unfold execGdeWin at h
  refine State.run_sound hk h (fun d hk => ?_)
  repeat' first
    | with_reducible assumption
    | (fail_if_no_progress intros)
    | ((fail_if_no_progress extract_lets +onlyGivenNames x); first | (refine sound_cut fz x ?_ (fun _ => ?_); unfold x) | skip)
    | with_reducible apply Dev.finishOk_sound
    | with_reducible apply Dev.print_sound
    | with_reducible apply Dev.command_sound
    | with_reducible apply State.run_sound
    | with_reducible exact sound_mk (Dev.Sound.parts (by assumption))

theorem execGdeResume_sound {channel : BitVec 3} {s : State} {t : State}
    (hk : s.dev.Sound fz) (h : execGdeResume channel s = .next t) : t.dev.Sound fz := by
  unfold execGdeResume at h
  refine State.run_sound hk h (fun d hk => ?_)
  repeat' first
    | with_reducible assumption
    | with_reducible apply Dev.gdeCommand_sound

theorem execGdeAbort_sound {channel : BitVec 3} {s : State} {t : State}
    (hk : s.dev.Sound fz) (h : execGdeAbort channel s = .next t) : t.dev.Sound fz := by
  unfold execGdeAbort at h
  refine State.run_sound hk h (fun d hk => ?_)
  repeat' first
    | with_reducible assumption
    | with_reducible apply Dev.gdeCommand_sound

theorem Dev.closeSet_sound {d : Dev} (hk : Dev.Sound fz d) :
    Dev.Sound fz (Dev.closeSet d) := by
  unfold Dev.closeSet
  repeat' first
    | with_reducible assumption
    | ((fail_if_no_progress extract_lets +onlyGivenNames x); first | (refine sound_cut fz x ?_ (fun _ => ?_); unfold x) | skip)
    | with_reducible apply Dev.scanStop_sound
    | with_reducible apply Dev.setFlag_sound
    | with_reducible apply Dev.setFld_sound
    | with_reducible apply Dev.metersOff_sound
    | with_reducible apply Dev.judgeGate_sound
    | with_reducible apply Dev.ring_sound
    | split

theorem Dev.askService_sound {d : Dev} {leave : Bool} (hk : Dev.Sound fz d) :
    Dev.Sound fz (Dev.askService d leave) := by
  unfold Dev.askService
  repeat' first
    | with_reducible assumption
    | ((fail_if_no_progress extract_lets +onlyGivenNames x); first | (refine sound_cut fz x ?_ (fun _ => ?_); unfold x) | skip)
    | with_reducible apply Dev.setCon_sound
    | with_reducible apply Dev.issueOps_sound
    | with_reducible apply Dev.send_sound
    | with_reducible apply Dev.dropLine_sound
    | with_reducible exact sound_mk (Dev.Sound.parts (by assumption))
    | split

theorem Dev.finishBanner_sound {d : Dev} (hk : Dev.Sound fz d) :
    Dev.Sound fz (Dev.finishBanner d) := by
  unfold Dev.finishBanner
  repeat' first
    | with_reducible assumption
    | ((fail_if_no_progress extract_lets +onlyGivenNames x); first | (refine sound_cut fz x ?_ (fun _ => ?_); unfold x) | skip)
    | with_reducible apply Dev.setCon_sound
    | with_reducible apply Dev.sendBanner_sound
    | with_reducible apply Dev.print_sound

theorem Dev.consoleSvcOff_sound {d : Dev} (hk : Dev.Sound fz d) :
    Dev.Sound fz (Dev.consoleSvcOff d) := by
  unfold Dev.consoleSvcOff
  repeat' first
    | with_reducible assumption
    | with_reducible apply Dev.finishErr_sound
    | with_reducible apply Dev.finishOk_sound
    | with_reducible apply Dev.closeSet_sound
    | with_reducible apply Dev.askService_sound
    | with_reducible apply Dev.finishBanner_sound
    | with_reducible apply Dev.changeMode_sound
    | with_reducible apply Dev.serviceMode_sound
    | split

theorem execSvcOff_sound {s : State} {t : State}
    (hk : s.dev.Sound fz) (h : execSvcOff s = .next t) : t.dev.Sound fz := by
  unfold execSvcOff at h
  refine State.run_sound hk h (fun d hk => ?_)
  repeat' first
    | with_reducible assumption
    | (fail_if_no_progress intros)
    | with_reducible apply Dev.consoleSvcOff_sound
    | with_reducible apply Dev.command_sound
    | with_reducible apply State.run_sound
    | with_reducible exact sound_mk (Dev.Sound.parts (by assumption))

theorem Dev.setStates_sound {d : Dev} {l : List (Nat × Nat)} (hk : Dev.Sound fz d) :
    Dev.Sound fz (Dev.setStates d l) := by
  unfold Dev.setStates
  repeat' first
    | with_reducible assumption
    | ((fail_if_no_progress extract_lets +onlyGivenNames x); first | (refine sound_cut fz x ?_ (fun _ => ?_); unfold x) | skip)
    | with_reducible apply Dev.setFlag_sound
    | with_reducible apply Dev.setCon_sound

theorem Dev.placeAll_sound {d : Dev} {st : Nat} (hk : Dev.Sound fz d) :
    Dev.Sound fz (Dev.placeAll d st) := by
  unfold Dev.placeAll
  repeat' first
    | with_reducible assumption
    | with_reducible apply Dev.setStates_sound
    | split

theorem Dev.placeEl_sound {d : Dev} {n : Nat} {st : Nat} (hk : Dev.Sound fz d) :
    Dev.Sound fz (Dev.placeEl d n st) := by
  unfold Dev.placeEl
  repeat' first
    | with_reducible assumption
    | with_reducible apply Dev.setStates_sound

theorem Dev.writeEl_sound {d : Dev} {v : Word} (hk : Dev.Sound fz d) :
    Dev.Sound fz (Dev.writeEl d v) := by
  unfold Dev.writeEl
  repeat' first
    | with_reducible assumption
    | ((fail_if_no_progress extract_lets +onlyGivenNames x); first | (refine sound_cut fz x ?_ (fun _ => ?_); unfold x) | skip)
    | with_reducible apply Dev.setFld_sound
    | with_reducible apply Dev.placeAll_sound
    | with_reducible apply Dev.placeEl_sound
    | split

theorem execSvcElWrite_sound {value : Word} {s : State} {t : State}
    (hk : s.dev.Sound fz) (h : execSvcElWrite value s = .next t) : t.dev.Sound fz := by
  unfold execSvcElWrite at h
  refine State.run_sound hk h (fun d hk => ?_)
  repeat' first
    | with_reducible assumption
    | with_reducible apply Dev.writeEl_sound

theorem Dev.selectPoint_sound {d : Dev} {point : Nat} {arg : Nat} (hk : Dev.Sound fz d) :
    Dev.Sound fz (Dev.selectPoint d point arg) := by
  unfold Dev.selectPoint
  repeat' first
    | with_reducible assumption
    | ((fail_if_no_progress extract_lets +onlyGivenNames x); first | (refine sound_cut fz x ?_ (fun _ => ?_); unfold x) | skip)
    | with_reducible apply Dev.setReg_sound
    | with_reducible apply Dev.setFlag_sound
    | with_reducible apply Dev.setCon_sound
    | with_reducible apply Dev.placeEl_sound
    | split

theorem execMeterOff_sound {s : State} {t : State}
    (hk : s.dev.Sound fz) (h : execMeterOff s = .next t) : t.dev.Sound fz := by
  unfold execMeterOff at h
  refine State.run_sound hk h (fun d hk => ?_)
  repeat' first
    | with_reducible assumption
    | (fail_if_no_progress intros)
    | with_reducible apply Dev.finishOk_sound
    | with_reducible apply Dev.selectPoint_sound
    | with_reducible apply Dev.finishErr_sound
    | with_reducible apply Dev.command_sound
    | with_reducible apply State.run_sound
    | with_reducible exact sound_mk (Dev.Sound.parts (by assumption))
    | split

theorem Dev.rejectCode_sound {d : Dev} {how : Nat} (hk : Dev.Sound fz d) :
    Dev.Sound fz (Dev.rejectCode d how) := by
  unfold Dev.rejectCode
  repeat' first
    | with_reducible assumption
    | ((fail_if_no_progress extract_lets +onlyGivenNames x); first | (refine sound_cut fz x ?_ (fun _ => ?_); unfold x) | skip)
    | with_reducible apply Dev.setCon_sound
    | with_reducible apply Dev.bump_sound
    | with_reducible apply Dev.ring_sound
    | with_reducible apply Dev.setFlag_sound
    | split

theorem Dev.writeUnlock_sound {d : Dev} {v : Word} (hk : Dev.Sound fz d) :
    Dev.Sound fz (Dev.writeUnlock d v) := by
  unfold Dev.writeUnlock
  repeat' first
    | with_reducible assumption
    | with_reducible apply Dev.judgeGate_sound
    | with_reducible apply Dev.ring_sound
    | with_reducible apply Dev.setFlag_sound
    | with_reducible apply Dev.rejectCode_sound
    | split

theorem execSvcUnlockWrite_sound {value : Word} {s : State} {t : State}
    (hk : s.dev.Sound fz) (h : execSvcUnlockWrite value s = .next t) : t.dev.Sound fz := by
  unfold execSvcUnlockWrite at h
  refine State.run_sound hk h (fun d hk => ?_)
  repeat' first
    | with_reducible assumption
    | with_reducible apply Dev.writeUnlock_sound

theorem execServiceJoinTimeout_sound {s : State} {t : State}
    (hk : s.dev.Sound fz) (h : execServiceJoinTimeout s = .next t) : t.dev.Sound fz := by
  unfold execServiceJoinTimeout at h
  refine State.run_sound hk h (fun d hk => ?_)
  repeat' first
    | with_reducible assumption
    | ((fail_if_no_progress extract_lets +onlyGivenNames x); first | (refine sound_cut fz x ?_ (fun _ => ?_); unfold x) | skip)
    | with_reducible apply Dev.openSet_sound
    | with_reducible apply Dev.setCon_sound
    | split

theorem Dev.consoleMeter_sound {d : Dev} {point : Nat} {arg : Nat} (hk : Dev.Sound fz d) :
    Dev.Sound fz (Dev.consoleMeter d point arg) := by
  unfold Dev.consoleMeter
  repeat' first
    | with_reducible assumption
    | ((fail_if_no_progress extract_lets +onlyGivenNames x); first | (refine sound_cut fz x ?_ (fun _ => ?_); unfold x) | skip)
    | with_reducible apply Dev.finishErr_sound
    | with_reducible apply Dev.writeTdac_sound
    | with_reducible apply Dev.finishOk_sound
    | with_reducible apply Dev.print_sound
    | with_reducible apply Dev.selectPoint_sound
    | split

theorem execMeter_sound {point : BitVec 5} {arg : BitVec 10} {s : State} {t : State}
    (hk : s.dev.Sound fz) (h : execMeter point arg s = .next t) : t.dev.Sound fz := by
  unfold execMeter at h
  refine State.run_sound hk h (fun d hk => ?_)
  repeat' first
    | with_reducible assumption
    | (fail_if_no_progress intros)
    | with_reducible apply Dev.consoleMeter_sound
    | with_reducible apply Dev.command_sound
    | with_reducible apply State.run_sound
    | with_reducible exact sound_mk (Dev.Sound.parts (by assumption))

theorem Dev.consoleEl_sound {d : Dev} {all : Bool} {n : Nat} {st : Nat} (hk : Dev.Sound fz d) :
    Dev.Sound fz (Dev.consoleEl d all n st) := by
  unfold Dev.consoleEl
  repeat' first
    | with_reducible assumption
    | with_reducible apply Dev.finishErr_sound
    | with_reducible apply Dev.finishOk_sound
    | with_reducible apply Dev.placeAll_sound
    | with_reducible apply Dev.placeEl_sound
    | split

theorem execEl_sound {all : Bool} {n : BitVec 8} {st : BitVec 3} {s : State} {t : State}
    (hk : s.dev.Sound fz) (h : execEl all n st s = .next t) : t.dev.Sound fz := by
  unfold execEl at h
  refine State.run_sound hk h (fun d hk => ?_)
  repeat' first
    | with_reducible assumption
    | (fail_if_no_progress intros)
    | with_reducible apply Dev.consoleEl_sound
    | with_reducible apply Dev.command_sound
    | with_reducible apply State.run_sound
    | with_reducible exact sound_mk (Dev.Sound.parts (by assumption))

theorem Dev.svcAccepted_sound {d : Dev} (hk : Dev.Sound fz d) :
    Dev.Sound fz (Dev.svcAccepted d) := by
  unfold Dev.svcAccepted
  repeat' first
    | with_reducible assumption
    | with_reducible apply Dev.finishOk_sound
    | with_reducible apply Dev.setFlag_sound
    | with_reducible apply Dev.openSet_sound
    | with_reducible apply Dev.askService_sound
    | with_reducible apply Dev.serviceMode_sound
    | split

theorem Dev.consoleSvc_sound {d : Dev} {code : Nat} (hk : Dev.Sound fz d) :
    Dev.Sound fz (Dev.consoleSvc d code) := by
  unfold Dev.consoleSvc
  repeat' first
    | with_reducible assumption
    | with_reducible apply Dev.finishErr_sound
    | with_reducible apply Dev.svcAccepted_sound
    | with_reducible apply Dev.rejectCode_sound
    | split

theorem execSvc_sound {code : Word} {s : State} {t : State}
    (hk : s.dev.Sound fz) (h : execSvc code s = .next t) : t.dev.Sound fz := by
  unfold execSvc at h
  refine State.run_sound hk h (fun d hk => ?_)
  repeat' first
    | with_reducible assumption
    | (fail_if_no_progress intros)
    | with_reducible apply Dev.consoleSvc_sound
    | with_reducible apply Dev.command_sound
    | with_reducible apply State.run_sound
    | with_reducible exact sound_mk (Dev.Sound.parts (by assumption))

theorem Dev.writeAmon_sound {d : Dev} {v : Word} (hk : Dev.Sound fz d) :
    Dev.Sound fz (Dev.writeAmon d v) := by
  unfold Dev.writeAmon
  repeat' first
    | with_reducible assumption
    | ((fail_if_no_progress extract_lets +onlyGivenNames x); first | (refine sound_cut fz x ?_ (fun _ => ?_); unfold x) | skip)
    | with_reducible apply Dev.selectPoint_sound
    | split

theorem execSvcAmonWrite_sound {value : Word} {s : State} {t : State}
    (hk : s.dev.Sound fz) (h : execSvcAmonWrite value s = .next t) : t.dev.Sound fz := by
  unfold execSvcAmonWrite at h
  refine State.run_sound hk h (fun d hk => ?_)
  repeat' first
    | with_reducible assumption
    | with_reducible apply Dev.writeAmon_sound

theorem execSvcNoManager_sound {s : State} {t : State}
    (hk : s.dev.Sound fz) (h : execSvcNoManager s = .next t) : t.dev.Sound fz := by
  unfold execSvcNoManager at h
  refine State.run_sound hk h (fun d hk => ?_)
  repeat' first
    | with_reducible assumption
    | ((fail_if_no_progress extract_lets +onlyGivenNames x); first | (refine sound_cut fz x ?_ (fun _ => ?_); unfold x) | skip)
    | with_reducible apply Dev.finishErr_sound
    | with_reducible apply Dev.setCon_sound
    | with_reducible apply Dev.statusLine_sound
    | with_reducible apply State.run_sound
    | with_reducible exact sound_mk (Dev.Sound.parts (by assumption))
    | split

theorem Dev.afterRead_sound {d : Dev} {rq : Requester} {a : Nat} (hk : Dev.Sound fz d) :
    Dev.Sound fz (Dev.afterRead d rq a) := by
  unfold Dev.afterRead
  repeat' first
    | with_reducible assumption
    | ((fail_if_no_progress extract_lets +onlyGivenNames x); first | (refine sound_cut fz x ?_ (fun _ => ?_); unfold x) | skip)
    | (split <;> first | (rename_i heq; simp only [Prod.ext_iff] at heq; refine sound_eq fz heq.2 ?_ (fun _ => ?_)) | skip)
    | with_reducible apply Dev.accessPdata_sound
    | with_reducible apply Dev.setReg_sound

theorem Dev.readReg_sound {d : Dev} {rq : Requester} {a : Nat} (hk : Dev.Sound fz d) :
    Dev.Sound fz (Dev.readReg d rq a).2 := by
  unfold Dev.readReg
  repeat' first
    | with_reducible assumption
    | ((fail_if_no_progress extract_lets +onlyGivenNames x); first | (refine sound_cut fz x ?_ (fun _ => ?_); unfold x) | skip)
    | (split <;> first | (rename_i heq; simp only [Prod.ext_iff] at heq; refine sound_eq fz heq.2 ?_ (fun _ => ?_)) | skip)
    | with_reducible apply Dev.takeSnapshot_sound
    | with_reducible apply Dev.afterRead_sound

theorem Dev.readLocal_sound {d : Dev} {rq : Requester} {addr : Nat} {flips : List (BitVec 5)} (hk : Dev.Sound fz d) :
    Dev.Sound fz (Dev.readLocal d rq addr flips).2 := by
  unfold Dev.readLocal
  repeat' first
    | with_reducible assumption
    | ((fail_if_no_progress extract_lets +onlyGivenNames x); first | (refine sound_cut fz x ?_ (fun _ => ?_); unfold x) | skip)
    | (split <;> first | (rename_i heq; simp only [Prod.ext_iff] at heq; refine sound_eq fz heq.2 ?_ (fun _ => ?_)) | skip)
    | with_reducible apply Dev.readReg_sound
    | with_reducible apply Dev.windowRead_sound
    | with_reducible apply Dev.windowAnswer_sound
    | with_reducible exact sound_mk (Dev.Sound.parts (by assumption))
    | split

theorem Dev.readHost_sound {d : Dev} {rq : Requester} {addr : Nat} (hk : Dev.Sound fz d) :
    Dev.Sound fz (Dev.readHost d rq addr).2 := by
  unfold Dev.readHost
  repeat' first
    | with_reducible assumption
    | (split <;> first | (rename_i heq; simp only [Prod.ext_iff] at heq; refine sound_eq fz heq.2 ?_ (fun _ => ?_)) | skip)
    | with_reducible apply Dev.remoteIssue_sound
    | with_reducible apply Dev.readLocal_sound

theorem Dev.writeTimeCmd_sound {d : Dev} {v : Word} (hk : Dev.Sound fz d) :
    Dev.Sound fz (Dev.writeTimeCmd d v) := by
  unfold Dev.writeTimeCmd
  repeat' first
    | with_reducible assumption
    | with_reducible apply Dev.timeLoad_sound
    | with_reducible apply Dev.timeSlew_sound
    | with_reducible apply Dev.timeCancel_sound
    | split

theorem Dev.writeTime_sound {d : Dev} {a : Nat} {v : Word} (hk : Dev.Sound fz d) :
    Dev.Sound fz (Dev.writeTime d a v) := by
  unfold Dev.writeTime
  repeat' first
    | with_reducible assumption
    | with_reducible apply Dev.writeTimeCmd_sound
    | with_reducible apply Dev.writeAlarmCtrl_sound
    | with_reducible apply Dev.writeAlarmValue_sound
    | with_reducible apply Dev.storeReg_sound
    | split

theorem Dev.writeSys_sound {d : Dev} {rq : Requester} {a : Nat} {v : Word} (hk : Dev.Sound fz d) :
    Dev.Sound fz (Dev.writeSys d rq a v) := by
  unfold Dev.writeSys
  repeat' first
    | with_reducible assumption
    | with_reducible apply Dev.writeSysCtrl_sound
    | with_reducible apply Dev.writeNvpCmd_sound
    | with_reducible apply Dev.storeReg_sound
    | split

theorem Dev.writePwr_sound {d : Dev} {a : Nat} {v : Word} (hk : Dev.Sound fz d) :
    Dev.Sound fz (Dev.writePwr d a v) := by
  unfold Dev.writePwr
  repeat' first
    | with_reducible assumption
    | with_reducible apply Dev.writePwrCmd_sound
    | with_reducible apply Dev.writeWakeEn_sound
    | with_reducible apply Dev.writePwrHost_sound
    | with_reducible apply Dev.storeReg_sound
    | split

theorem Dev.writeConsumer_sound {d : Dev} {p : HostPort} {off : Nat} {a : Nat} {v : Word} (hk : Dev.Sound fz d) :
    Dev.Sound fz (Dev.writeConsumer d p off a v) := by
  unfold Dev.writeConsumer
  repeat' first
    | with_reducible assumption
    | with_reducible apply Dev.releaseTo_sound
    | with_reducible apply Dev.take_sound
    | with_reducible apply Dev.complete_sound
    | with_reducible apply Dev.resetStack_sound
    | with_reducible apply Dev.storeReg_sound
    | split

theorem Dev.writeEvr_sound {d : Dev} {a : Nat} {v : Word} (hk : Dev.Sound fz d) :
    Dev.Sound fz (Dev.writeEvr d a v) := by
  unfold Dev.writeEvr
  repeat' first
    | with_reducible assumption
    | with_reducible apply Dev.writeSrcCfg_sound
    | with_reducible apply Dev.hostDoorbell_sound
    | with_reducible apply Dev.writeConsumer_sound
    | with_reducible apply Dev.storeReg_sound
    | split

theorem Dev.writeCfg_sound {d : Dev} {a : Nat} {v : Word} (hk : Dev.Sound fz d) :
    Dev.Sound fz (Dev.writeCfg d a v) := by
  unfold Dev.writeCfg
  repeat' first
    | with_reducible assumption
    | with_reducible apply Dev.writeCfgCmd_sound
    | with_reducible apply Dev.writeNstg_sound
    | with_reducible apply Dev.writeLead_sound
    | with_reducible apply Dev.storeReg_sound
    | split

theorem Dev.writeTrk_sound {d : Dev} {a : Nat} {v : Word} (hk : Dev.Sound fz d) :
    Dev.Sound fz (Dev.writeTrk d a v) := by
  unfold Dev.writeTrk
  repeat' first
    | with_reducible assumption
    | with_reducible apply Dev.writeTrkCtrl_sound
    | with_reducible apply Dev.writeRptCtrl_sound
    | with_reducible apply Dev.writeCapCtrl_sound
    | with_reducible apply Dev.storeReg_sound
    | split

theorem Dev.writeRail_sound {d : Dev} {rq : Requester} {a : Nat} {v : Word} (hk : Dev.Sound fz d) :
    Dev.Sound fz (Dev.writeRail d rq a v) := by
  unfold Dev.writeRail
  repeat' first
    | with_reducible assumption
    | ((fail_if_no_progress extract_lets +onlyGivenNames x); first | (refine sound_cut fz x ?_ (fun _ => ?_); unfold x) | skip)
    | with_reducible apply Dev.writeRailCtrl_sound
    | with_reducible apply Dev.vledFix_sound
    | with_reducible apply Dev.vledAuto_sound
    | with_reducible apply Dev.vtxSet_sound
    | with_reducible apply Dev.storeReg_sound
    | split

theorem Dev.writeLamp_sound {d : Dev} {rq : Requester} {a : Nat} {v : Word} (hk : Dev.Sound fz d) :
    Dev.Sound fz (Dev.writeLamp d rq a v) := by
  unfold Dev.writeLamp
  repeat' first
    | with_reducible assumption
    | with_reducible apply Dev.lampGclear_sound
    | with_reducible apply Dev.lampCommand_sound
    | with_reducible apply Dev.lampFaultClear_sound
    | with_reducible apply Dev.storeReg_sound
    | split

theorem Dev.writeIr_sound {d : Dev} {rq : Requester} {a : Nat} {v : Word} (hk : Dev.Sound fz d) :
    Dev.Sound fz (Dev.writeIr d rq a v) := by
  unfold Dev.writeIr
  repeat' first
    | with_reducible assumption
    | (split <;> first | (rename_i heq; simp only [Prod.ext_iff] at heq; refine sound_eq fz heq.2 ?_ (fun _ => ?_)) | skip)
    | with_reducible apply Dev.writeIrxCtrl_sound
    | with_reducible apply Dev.setReg_sound
    | with_reducible apply Dev.writeItxCmd_sound
    | with_reducible apply Dev.accessPdata_sound
    | with_reducible apply Dev.storeReg_sound

theorem Dev.writeScFree_sound {d : Dev} {v : Word} (hk : Dev.Sound fz d) :
    Dev.Sound fz (Dev.writeScFree d v) := by
  unfold Dev.writeScFree
  repeat' first
    | with_reducible assumption
    | (split <;> first | (rename_i heq; simp only [Prod.ext_iff] at heq; refine sound_eq fz heq.2 ?_ (fun _ => ?_)) | skip)
    | with_reducible apply Dev.draw_sound
    | with_reducible apply Dev.writeSccmd_sound

theorem Dev.writeHka_sound {d : Dev} {rq : Requester} {a : Nat} {v : Word} (hk : Dev.Sound fz d) :
    Dev.Sound fz (Dev.writeHka d rq a v) := by
  unfold Dev.writeHka
  repeat' first
    | with_reducible assumption
    | with_reducible apply Dev.writeHkaHost_sound
    | with_reducible apply Dev.writeHkaCmd_sound
    | with_reducible apply Dev.hkaSnap_sound
    | with_reducible apply Dev.writeScFree_sound
    | with_reducible apply Dev.writeTdac_sound
    | with_reducible apply Dev.writeTapsel_sound
    | with_reducible apply Dev.storeReg_sound
    | split

theorem Dev.writeMem_sound {d : Dev} {rq : Requester} {a : Nat} {v : Word} (hk : Dev.Sound fz d) :
    Dev.Sound fz (Dev.writeMem d rq a v) := by
  unfold Dev.writeMem
  repeat' first
    | with_reducible assumption
    | with_reducible apply Dev.writeWinSel_sound
    | with_reducible apply Dev.writeRepcmd_sound
    | with_reducible apply Dev.writeOwner_sound
    | with_reducible apply Dev.storeReg_sound
    | split

theorem Dev.writeGde_sound {d : Dev} {a : Nat} {v : Word} (hk : Dev.Sound fz d) :
    Dev.Sound fz (Dev.writeGde d a v) := by
  unfold Dev.writeGde
  repeat' first
    | with_reducible assumption
    | with_reducible apply Dev.gdeCommand_sound
    | with_reducible apply Dev.writeWin_sound
    | with_reducible apply Dev.storeReg_sound
    | split

theorem Dev.writeEgl_sound {d : Dev} {rq : Requester} {a : Nat} {v : Word} (hk : Dev.Sound fz d) :
    Dev.Sound fz (Dev.writeEgl d rq a v) := by
  unfold Dev.writeEgl
  repeat' first
    | with_reducible assumption
    | with_reducible apply Dev.writePctl_sound
    | with_reducible apply Dev.writeRtile_sound
    | with_reducible apply Dev.writeTreset_sound
    | with_reducible apply Dev.storeReg_sound
    | split

theorem Dev.writeSvc_sound {d : Dev} {a : Nat} {v : Word} (hk : Dev.Sound fz d) :
    Dev.Sound fz (Dev.writeSvc d a v) := by
  unfold Dev.writeSvc
  repeat' first
    | with_reducible assumption
    | with_reducible apply Dev.writeUnlock_sound
    | with_reducible apply Dev.writeAmon_sound
    | with_reducible apply Dev.writeEl_sound
    | with_reducible apply Dev.writeInj_sound
    | with_reducible apply Dev.storeReg_sound
    | split

theorem Dev.writeBlock_sound {d : Dev} {rq : Requester} {a : Nat} {v : Word} (hk : Dev.Sound fz d) :
    Dev.Sound fz (Dev.writeBlock d rq a v) := by
  unfold Dev.writeBlock
  repeat' first
    | with_reducible assumption
    | with_reducible apply Dev.writeSys_sound
    | with_reducible apply Dev.writePwr_sound
    | with_reducible apply Dev.writeTime_sound
    | with_reducible apply Dev.writeEvr_sound
    | with_reducible apply Dev.writeCfg_sound
    | with_reducible apply Dev.writeTrk_sound
    | with_reducible apply Dev.writeRail_sound
    | with_reducible apply Dev.writeLamp_sound
    | with_reducible apply Dev.writeIr_sound
    | with_reducible apply Dev.writeHka_sound
    | with_reducible apply Dev.writeCalCmd_sound
    | with_reducible apply Dev.storeReg_sound
    | with_reducible apply Dev.writeMem_sound
    | with_reducible apply Dev.writeGde_sound
    | with_reducible apply Dev.writeEgl_sound
    | with_reducible apply Dev.writeUsbCtrl_sound
    | with_reducible apply Dev.writeNvctl_sound
    | with_reducible apply Dev.writeSvc_sound
    | split

theorem Dev.writeReg_sound {d : Dev} {rq : Requester} {a : Nat} {v : Word} (hk : Dev.Sound fz d) :
    Dev.Sound fz (Dev.writeReg d rq a v) := by
  unfold Dev.writeReg
  repeat' first
    | with_reducible assumption
    | with_reducible apply Dev.ignoreWrite_sound
    | with_reducible apply Dev.writeBlock_sound
    | split

theorem Dev.writeLocal_sound {d : Dev} {rq : Requester} {addr : Nat} {v : Word} (hk : Dev.Sound fz d) :
    Dev.Sound fz (Dev.writeLocal d rq addr v) := by
  unfold Dev.writeLocal
  repeat' first
    | with_reducible assumption
    | ((fail_if_no_progress extract_lets +onlyGivenNames x); first | (refine sound_cut fz x ?_ (fun _ => ?_); unfold x) | skip)
    | with_reducible apply Dev.writeReg_sound
    | with_reducible apply Dev.windowWrite_sound
    | with_reducible apply Dev.ignoreWrite_sound
    | split

theorem Dev.writeHost_sound {d : Dev} {rq : Requester} {addr : Nat} {v : Word} (hk : Dev.Sound fz d) :
    Dev.Sound fz (Dev.writeHost d rq addr v) := by
  unfold Dev.writeHost
  repeat' first
    | with_reducible assumption
    | with_reducible apply Dev.remoteIssue_sound
    | with_reducible apply Dev.writeLocal_sound
    | split

theorem Dev.remoteWrMsg_sound {d : Dev} {words : List Word} (hk : Dev.Sound fz d) :
    Dev.Sound fz (Dev.remoteWrMsg d words).2 := by
  unfold Dev.remoteWrMsg
  repeat' first
    | with_reducible assumption
    | ((fail_if_no_progress extract_lets +onlyGivenNames x); first | (refine sound_cut fz x ?_ (fun _ => ?_); unfold x) | skip)
    | with_reducible apply Dev.writeLocal_sound

theorem execRcFieldRead_sound {rq : Requester} {addr : BitVec 16} {s : State} {t : State}
    (hk : s.dev.Sound fz) (h : execRcFieldRead rq addr s = .next t) : t.dev.Sound fz := by
  unfold execRcFieldRead at h
  refine State.run_sound hk h (fun d hk => ?_)
  repeat' first
    | with_reducible assumption
    | with_reducible apply Dev.readHost_sound

theorem execRemoteWr_sound {src : BitVec 10} {tag : BitVec 6} {addr : BitVec 16} {value : Word} {s : State} {t : State}
    (hk : s.dev.Sound fz) (h : execRemoteWr src tag addr value s = .next t) : t.dev.Sound fz := by
  unfold execRemoteWr at h
  refine State.run_sound hk h (fun d hk => ?_)
  repeat' first
    | with_reducible assumption
    | (split <;> first | (rename_i heq; simp only [Prod.ext_iff] at heq; refine sound_eq fz heq.2 ?_ (fun _ => ?_)) | skip)
    | with_reducible apply Dev.remoteWrMsg_sound
    | with_reducible apply Dev.respond_sound

theorem Dev.remoteRdMsg_sound {d : Dev} {words : List Word} (hk : Dev.Sound fz d) :
    Dev.Sound fz (Dev.remoteRdMsg d words).2 := by
  unfold Dev.remoteRdMsg
  repeat' first
    | with_reducible assumption
    | ((fail_if_no_progress extract_lets +onlyGivenNames x); first | (refine sound_cut fz x ?_ (fun _ => ?_); unfold x) | skip)
    | (split <;> first | (rename_i heq; simp only [Prod.ext_iff] at heq; refine sound_eq fz heq.2 ?_ (fun _ => ?_)) | skip)
    | with_reducible apply Dev.readLocal_sound

theorem execRegisterWrite_sound {rq : Requester} {addr : BitVec 16} {value : Word} {s : State} {t : State}
    (hk : s.dev.Sound fz) (h : execRegisterWrite rq addr value s = .next t) : t.dev.Sound fz := by
  unfold execRegisterWrite at h
  refine State.run_sound hk h (fun d hk => ?_)
  repeat' first
    | with_reducible assumption
    | with_reducible apply Dev.writeHost_sound

theorem execRemoteWindowRead_sound {rq : Requester} {addr : BitVec 16} {s : State} {t : State}
    (hk : s.dev.Sound fz) (h : execRemoteWindowRead rq addr s = .next t) : t.dev.Sound fz := by
  unfold execRemoteWindowRead at h
  refine State.run_sound hk h (fun d hk => ?_)
  repeat' first
    | with_reducible assumption
    | (split <;> first | (rename_i heq; simp only [Prod.ext_iff] at heq; refine sound_eq fz heq.2 ?_ (fun _ => ?_)) | skip)
    | with_reducible apply Dev.readHost_sound

theorem execRemoteWindowWrite_sound {rq : Requester} {addr : BitVec 16} {value : Word} {s : State} {t : State}
    (hk : s.dev.Sound fz) (h : execRemoteWindowWrite rq addr value s = .next t) : t.dev.Sound fz := by
  unfold execRemoteWindowWrite at h
  refine State.run_sound hk h (fun d hk => ?_)
  repeat' first
    | with_reducible assumption
    | with_reducible apply Dev.writeHost_sound
    | split

theorem execRemoteRd_sound {src : BitVec 10} {tag : BitVec 6} {addr : BitVec 16} {s : State} {t : State}
    (hk : s.dev.Sound fz) (h : execRemoteRd src tag addr s = .next t) : t.dev.Sound fz := by
  unfold execRemoteRd at h
  refine State.run_sound hk h (fun d hk => ?_)
  repeat' first
    | with_reducible assumption
    | (split <;> first | (rename_i heq; simp only [Prod.ext_iff] at heq; refine sound_eq fz heq.2 ?_ (fun _ => ?_)) | skip)
    | with_reducible apply Dev.remoteRdMsg_sound
    | with_reducible apply Dev.respond_sound

theorem Dev.setPtr_sound {d : Dev} {a : Nat} (hk : Dev.Sound fz d) :
    Dev.Sound fz (Dev.setPtr d a) := by
  unfold Dev.setPtr
  repeat' first
    | with_reducible assumption
    | ((fail_if_no_progress extract_lets +onlyGivenNames x); first | (refine sound_cut fz x ?_ (fun _ => ?_); unfold x) | skip)
    | with_reducible apply Dev.setTwb_sound

theorem Dev.writeAtPtr_sound {d : Dev} {v : Word} (hk : Dev.Sound fz d) :
    Dev.Sound fz (Dev.writeAtPtr d v) := by
  unfold Dev.writeAtPtr
  repeat' first
    | with_reducible assumption
    | ((fail_if_no_progress extract_lets +onlyGivenNames x); first | (refine sound_cut fz x ?_ (fun _ => ?_); unfold x) | skip)
    | with_reducible apply Dev.writeHost_sound
    | with_reducible apply Dev.setPtr_sound
    | split

theorem Dev.pecStop_sound {d : Dev} {before : List Byte} {tail : List Byte} {pec : Byte} (hk : Dev.Sound fz d) :
    Dev.Sound fz (Dev.pecStop d before tail pec) := by
  unfold Dev.pecStop
  repeat' first
    | with_reducible assumption
    | ((fail_if_no_progress extract_lets +onlyGivenNames x); first | (refine sound_cut fz x ?_ (fun _ => ?_); unfold x) | skip)
    | (with_reducible apply sound_foldl; intros)
    | with_reducible apply Dev.setTwb_sound
    | with_reducible apply Dev.writeAtPtr_sound
    | with_reducible apply Dev.bump_sound
    | with_reducible apply Dev.setPtr_sound
    | with_reducible apply Dev.ring_sound
    | split

theorem execTwbPartial_sound {count : BitVec 2} {s : State} {t : State}
    (hk : s.dev.Sound fz) (h : execTwbPartial count s = .next t) : t.dev.Sound fz := by
  unfold execTwbPartial at h
  refine State.run_sound hk h (fun d hk => ?_)
  repeat' first
    | with_reducible assumption
    | with_reducible apply Dev.bump_sound
    | split

theorem execAlertResponse_sound {others : List Byte} {s : State} {t : State}
    (hk : s.dev.Sound fz) (h : execAlertResponse others s = .next t) : t.dev.Sound fz := by
  unfold execAlertResponse at h
  refine State.run_sound hk h (fun d hk => ?_)
  repeat' first
    | with_reducible assumption
    | with_reducible apply Dev.bump_sound
    | with_reducible apply Dev.setFlag_sound
    | split

theorem execTwbPecWrite_sound {before : List Byte} {tail : List Byte} {pec : Byte} {s : State} {t : State}
    (hk : s.dev.Sound fz) (h : execTwbPecWrite before tail pec s = .next t) : t.dev.Sound fz := by
  unfold execTwbPecWrite at h
  refine State.run_sound hk h (fun d hk => ?_)
  repeat' first
    | with_reducible assumption
    | with_reducible apply Dev.pecStop_sound

theorem execTwbWordRead_sound {first : Bool} {s : State} {t : State}
    (hk : s.dev.Sound fz) (h : execTwbWordRead first s = .next t) : t.dev.Sound fz := by
  unfold execTwbWordRead at h
  refine State.run_sound hk h (fun d hk => ?_)
  repeat' first
    | with_reducible assumption
    | ((fail_if_no_progress extract_lets +onlyGivenNames x); first | (refine sound_cut fz x ?_ (fun _ => ?_); unfold x) | skip)
    | (split <;> first | (rename_i heq; simp only [Prod.ext_iff] at heq; refine sound_eq fz heq.2 ?_ (fun _ => ?_)) | skip)
    | with_reducible apply Dev.setTwb_sound
    | with_reducible apply Dev.readHost_sound

theorem execTwbPointer_sound {ptr : BitVec 16} {s : State} {t : State}
    (hk : s.dev.Sound fz) (h : execTwbPointer ptr s = .next t) : t.dev.Sound fz := by
  unfold execTwbPointer at h
  refine State.run_sound hk h (fun d hk => ?_)
  repeat' first
    | with_reducible assumption
    | ((fail_if_no_progress extract_lets +onlyGivenNames x); first | (refine sound_cut fz x ?_ (fun _ => ?_); unfold x) | skip)
    | with_reducible apply Dev.setTwb_sound
    | split

theorem Dev.noteStretch_sound {d : Dev} {us : Nat} (hk : Dev.Sound fz d) :
    Dev.Sound fz (Dev.noteStretch d us) := by
  unfold Dev.noteStretch
  repeat' first
    | with_reducible assumption
    | with_reducible apply Dev.setFld_sound

theorem execWakeAddressStretchTimeout_sound {s : State} {t : State}
    (hk : s.dev.Sound fz) (h : execWakeAddressStretchTimeout s = .next t) : t.dev.Sound fz := by
  unfold execWakeAddressStretchTimeout at h
  refine State.run_sound hk h (fun d hk => ?_)
  repeat' first
    | with_reducible assumption
    | with_reducible apply Dev.noteStretch_sound
    | split

theorem execTwbWordWrite_sound {value : Word} {s : State} {t : State}
    (hk : s.dev.Sound fz) (h : execTwbWordWrite value s = .next t) : t.dev.Sound fz := by
  unfold execTwbWordWrite at h
  refine State.run_sound hk h (fun d hk => ?_)
  repeat' first
    | with_reducible assumption
    | ((fail_if_no_progress extract_lets +onlyGivenNames x); first | (refine sound_cut fz x ?_ (fun _ => ?_); unfold x) | skip)
    | with_reducible apply Dev.setTwb_sound
    | with_reducible apply Dev.writeAtPtr_sound
    | split

theorem execSmbusTimeout_sound {begun : Bool} {s : State} {t : State}
    (hk : s.dev.Sound fz) (h : execSmbusTimeout begun s = .next t) : t.dev.Sound fz := by
  unfold execSmbusTimeout at h
  refine State.run_sound hk h (fun d hk => ?_)
  repeat' first
    | with_reducible assumption
    | ((fail_if_no_progress extract_lets +onlyGivenNames x); first | (refine sound_cut fz x ?_ (fun _ => ?_); unfold x) | skip)
    | with_reducible apply Dev.setTwb_sound
    | with_reducible apply Dev.bump_sound
    | with_reducible apply Dev.ring_sound
    | split

theorem execRemoteLate_sound {s : State} {t : State}
    (hk : s.dev.Sound fz) (h : execRemoteLate s = .next t) : t.dev.Sound fz := by
  unfold execRemoteLate at h
  refine State.run_sound hk h (fun d hk => ?_)
  repeat' first
    | with_reducible assumption
    | with_reducible apply Dev.setPtr_sound
    | with_reducible apply Dev.noteStretch_sound
    | with_reducible apply Dev.bump_sound
    | split

theorem Dev.ep2Word_sound {d : Dev} {c : EpCommand} (hk : Dev.Sound fz d) :
    Dev.Sound fz (Dev.ep2Word d c).2 := by
  unfold Dev.ep2Word
  repeat' first
    | with_reducible assumption
    | (split <;> first | (rename_i heq; simp only [Prod.ext_iff] at heq; refine sound_eq fz heq.2 ?_ (fun _ => ?_)) | skip)
    | with_reducible apply Dev.readLocal_sound
    | with_reducible apply Dev.writeLocal_sound

theorem Dev.ep2Run_sound {d : Dev} {c : EpCommand} {z1 : Nat} (hk : Dev.Sound fz d) :
    Dev.Sound fz (Dev.ep2Run d c z1) := by
  induction z1 generalizing d c with
  | zero =>
    unfold Dev.ep2Run
    repeat' first
      | with_reducible assumption
      | ((fail_if_no_progress extract_lets +onlyGivenNames x); first | (refine sound_cut fz x ?_ (fun _ => ?_); unfold x) | clear_value x)
      | (split <;> first | (rename_i heq; simp only [Prod.ext_iff] at heq; refine sound_eq fz heq.2 ?_ (fun _ => ?_)) | skip)
      | with_reducible apply Dev.ep2Finish_sound
      | with_reducible apply Dev.remoteIssue_sound
      | with_reducible apply Dev.setUsb_sound
      | with_reducible apply Dev.ep2Word_sound
  | succ _ ih =>
    unfold Dev.ep2Run
    repeat' first
      | with_reducible assumption
      | with_reducible apply ih
      | ((fail_if_no_progress extract_lets +onlyGivenNames x); first | (refine sound_cut fz x ?_ (fun _ => ?_); unfold x) | clear_value x)
      | (split <;> first | (rename_i heq; simp only [Prod.ext_iff] at heq; refine sound_eq fz heq.2 ?_ (fun _ => ?_)) | skip)
      | with_reducible apply Dev.ep2Finish_sound
      | with_reducible apply Dev.remoteIssue_sound
      | with_reducible apply Dev.setUsb_sound
      | with_reducible apply Dev.ep2Word_sound

theorem execEp2Read_sound {tag : Byte} {n : Byte} {addr : BitVec 16} {s : State} {t : State}
    (hk : s.dev.Sound fz) (h : execEp2Read tag n addr s = .next t) : t.dev.Sound fz := by
  unfold execEp2Read at h
  refine State.run_sound hk h (fun d hk => ?_)
  repeat' first
    | with_reducible assumption
    | with_reducible apply Dev.ep2Answer_sound
    | with_reducible apply Dev.ep2Run_sound
    | split

theorem Dev.ep2Resume_sound {d : Dev} {ok : Bool} {w : Word} (hk : Dev.Sound fz d) :
    Dev.Sound fz (Dev.ep2Resume d ok w) := by
  unfold Dev.ep2Resume
  repeat' first
    | with_reducible assumption
    | ((fail_if_no_progress extract_lets +onlyGivenNames x); first | (refine sound_cut fz x ?_ (fun _ => ?_); unfold x) | skip)
    | with_reducible apply Dev.setUsb_sound
    | with_reducible apply Dev.ep2Run_sound
    | with_reducible apply Dev.ep2Finish_sound
    | split

theorem execEp2BadLength_sound {code : Byte} {tag : Byte} {ovr : Bool} {s : State} {t : State}
    (hk : s.dev.Sound fz) (h : execEp2BadLength code tag ovr s = .next t) : t.dev.Sound fz := by
  unfold execEp2BadLength at h
  refine State.run_sound hk h (fun d hk => ?_)
  repeat' first
    | with_reducible assumption
    | with_reducible apply Dev.ep2Answer_sound
    | with_reducible apply Dev.bump_sound
    | split

theorem Dev.detachBy_sound {d : Dev} {det : Option Bool} (hk : Dev.Sound fz d) :
    Dev.Sound fz (Dev.detachBy d det) := by
  unfold Dev.detachBy
  repeat' first
    | with_reducible assumption
    | with_reducible apply Dev.setDetach_sound
    | split

theorem Dev.ep2Acked_sound {d : Dev} (hk : Dev.Sound fz d) :
    Dev.Sound fz (Dev.ep2Acked d) := by
  unfold Dev.ep2Acked
  repeat' first
    | with_reducible assumption
    | ((fail_if_no_progress extract_lets +onlyGivenNames x); first | (refine sound_cut fz x ?_ (fun _ => ?_); unfold x) | clear_value x)
    | with_reducible apply Dev.setUsb_sound
    | with_reducible apply Dev.releaseTo_sound
    | with_reducible apply Dev.detachBy_sound
    | with_reducible apply Dev.performReset_sound
    | split

theorem execEp2ResponseAck_sound {s : State} {t : State}
    (hk : s.dev.Sound fz) (h : execEp2ResponseAck s = .next t) : t.dev.Sound fz := by
  unfold execEp2ResponseAck at h
  refine State.run_sound hk h (fun d hk => ?_)
  repeat' first
    | with_reducible assumption
    | with_reducible apply Dev.ep2Acked_sound

theorem execEp2Write_sound {tag : Byte} {n : Byte} {addr : BitVec 16} {data : List Word} {s : State} {t : State}
    (hk : s.dev.Sound fz) (h : execEp2Write tag n addr data s = .next t) : t.dev.Sound fz := by
  unfold execEp2Write at h
  refine State.run_sound hk h (fun d hk => ?_)
  repeat' first
    | with_reducible assumption
    | with_reducible apply Dev.ep2Answer_sound
    | with_reducible apply Dev.ep2Run_sound
    | split

theorem execEp2UnknownOp_sound {code : Byte} {tag : Byte} {s : State} {t : State}
    (hk : s.dev.Sound fz) (h : execEp2UnknownOp code tag s = .next t) : t.dev.Sound fz := by
  unfold execEp2UnknownOp at h
  refine State.run_sound hk h (fun d hk => ?_)
  repeat' first
    | with_reducible assumption
    | with_reducible apply Dev.ep2Answer_sound
    | split

theorem execEp2Events_sound {tag : Byte} {n : Byte} {flags : Byte} {s : State} {t : State}
    (hk : s.dev.Sound fz) (h : execEp2Events tag n flags s = .next t) : t.dev.Sound fz := by
  unfold execEp2Events at h
  refine State.run_sound hk h (fun d hk => ?_)
  repeat' first
    | with_reducible assumption
    | ((fail_if_no_progress extract_lets +onlyGivenNames x); first | (refine sound_cut fz x ?_ (fun _ => ?_); unfold x) | skip)
    | with_reducible apply Dev.ep2Answer_sound
    | with_reducible apply Dev.setUsb_sound
    | split

theorem execConsoleSessionEnd_sound {s : State} {t : State}
    (hk : s.dev.Sound fz) (h : execConsoleSessionEnd s = .next t) : t.dev.Sound fz := by
  unfold execConsoleSessionEnd at h
  refine State.run_sound hk h (fun d hk => ?_)
  repeat' first
    | with_reducible assumption
    | ((fail_if_no_progress extract_lets +onlyGivenNames x); first | (refine sound_cut fz x ?_ (fun _ => ?_); unfold x) | skip)
    | with_reducible apply Dev.setCon_sound
    | with_reducible apply Dev.foscStop_sound
    | split

theorem Dev.rdRun_sound {d : Dev} {a : Nat} {left : Nat} {z1 : Nat} (hk : Dev.Sound fz d) :
    Dev.Sound fz (Dev.rdRun d a left z1) := by
  induction z1 generalizing d a left with
  | zero =>
    unfold Dev.rdRun
    repeat' first
      | with_reducible assumption
      | ((fail_if_no_progress extract_lets +onlyGivenNames x); first | (refine sound_cut fz x ?_ (fun _ => ?_); unfold x) | clear_value x)
      | (split <;> first | (rename_i heq; simp only [Prod.ext_iff] at heq; refine sound_eq fz heq.2 ?_ (fun _ => ?_)) | skip)
      | with_reducible apply Dev.endRun_sound
      | with_reducible apply Dev.remoteIssue_sound
      | with_reducible apply Dev.setCon_sound
      | with_reducible apply Dev.readLocal_sound
      | with_reducible apply Dev.addRun_sound
  | succ _ ih =>
    unfold Dev.rdRun
    repeat' first
      | with_reducible assumption
      | with_reducible apply ih
      | ((fail_if_no_progress extract_lets +onlyGivenNames x); first | (refine sound_cut fz x ?_ (fun _ => ?_); unfold x) | clear_value x)
      | (split <;> first | (rename_i heq; simp only [Prod.ext_iff] at heq; refine sound_eq fz heq.2 ?_ (fun _ => ?_)) | skip)
      | with_reducible apply Dev.endRun_sound
      | with_reducible apply Dev.remoteIssue_sound
      | with_reducible apply Dev.setCon_sound
      | with_reducible apply Dev.readLocal_sound
      | with_reducible apply Dev.addRun_sound

theorem Dev.consoleLog_sound {d : Dev} {kind : Nat} {n : Nat} (hk : Dev.Sound fz d) :
    Dev.Sound fz (Dev.consoleLog d kind n) := by
  unfold Dev.consoleLog
  repeat' first
    | with_reducible assumption
    | ((fail_if_no_progress extract_lets +onlyGivenNames x); first | (refine sound_cut fz x ?_ (fun _ => ?_); unfold x) | skip)
    | with_reducible apply Dev.finishErr_sound
    | with_reducible apply Dev.setCon_sound
    | with_reducible apply Dev.printLog_sound
    | with_reducible apply Dev.printRun_sound
    | with_reducible exact sound_mk (Dev.Sound.parts (by assumption))
    | split

theorem execLog_sound {kind : BitVec 2} {n : BitVec 24} {s : State} {t : State}
    (hk : s.dev.Sound fz) (h : execLog kind n s = .next t) : t.dev.Sound fz := by
  unfold execLog at h
  refine State.run_sound hk h (fun d hk => ?_)
  repeat' first
    | with_reducible assumption
    | (fail_if_no_progress intros)
    | with_reducible apply Dev.consoleLog_sound
    | with_reducible apply Dev.command_sound
    | with_reducible apply State.run_sound
    | with_reducible apply Dev.longCommand_sound
    | with_reducible exact sound_mk (Dev.Sound.parts (by assumption))

theorem execRd_sound {addr : BitVec 16} {n : BitVec 16} {s : State} {t : State}
    (hk : s.dev.Sound fz) (h : execRd addr n s = .next t) : t.dev.Sound fz := by
  unfold execRd at h
  refine State.run_sound hk h (fun d hk => ?_)
  repeat' first
    | with_reducible assumption
    | (fail_if_no_progress intros)
    | with_reducible apply Dev.finishErr_sound
    | with_reducible apply Dev.rdRun_sound
    | with_reducible apply Dev.command_sound
    | with_reducible apply State.run_sound
    | with_reducible apply Dev.longCommand_sound
    | with_reducible exact sound_mk (Dev.Sound.parts (by assumption))
    | split

theorem Dev.say_sound {d : Dev} {tag : Nat} {ws : List Word} (hk : Dev.Sound fz d) :
    Dev.Sound fz (Dev.say d tag ws) := by
  unfold Dev.say
  repeat' first
    | with_reducible assumption
    | with_reducible apply Dev.finishOk_sound
    | with_reducible apply Dev.print_sound

theorem Dev.imgCheck_sound {d : Dev} {slotB : Bool} (hk : Dev.Sound fz d) :
    Dev.Sound fz (Dev.imgCheck d slotB) := by
  unfold Dev.imgCheck
  repeat' first
    | with_reducible assumption
    | ((fail_if_no_progress extract_lets +onlyGivenNames x); first | (refine sound_cut fz x ?_ (fun _ => ?_); unfold x) | skip)
    | with_reducible apply Dev.finishErr_sound
    | with_reducible apply Dev.say_sound
    | with_reducible apply Dev.noteVerify_sound
    | split

theorem execImgCheck_sound {slotB : Bool} {s : State} {t : State}
    (hk : s.dev.Sound fz) (h : execImgCheck slotB s = .next t) : t.dev.Sound fz := by
  unfold execImgCheck at h
  refine State.run_sound hk h (fun d hk => ?_)
  repeat' first
    | with_reducible assumption
    | (fail_if_no_progress intros)
    | with_reducible apply Dev.imgCheck_sound
    | with_reducible apply Dev.command_sound
    | with_reducible apply State.run_sound
    | with_reducible exact sound_mk (Dev.Sound.parts (by assumption))

theorem execSurfTile_sound {xy : BitVec 10} {s : State} {t : State}
    (hk : s.dev.Sound fz) (h : execSurfTile xy s = .next t) : t.dev.Sound fz := by
  unfold execSurfTile at h
  refine State.run_sound hk h (fun d hk => ?_)
  repeat' first
    | with_reducible assumption
    | (fail_if_no_progress intros)
    | with_reducible apply Dev.say_sound
    | with_reducible apply Dev.command_sound
    | with_reducible apply State.run_sound
    | with_reducible exact sound_mk (Dev.Sound.parts (by assumption))

theorem execEglPing_sound {xy : BitVec 10} {n : BitVec 8} {s : State} {t : State}
    (hk : s.dev.Sound fz) (h : execEglPing xy n s = .next t) : t.dev.Sound fz := by
  unfold execEglPing at h
  refine State.run_sound hk h (fun d hk => ?_)
  repeat' first
    | with_reducible assumption
    | (fail_if_no_progress intros)
    | with_reducible apply Dev.consolePing_sound
    | with_reducible apply Dev.command_sound
    | with_reducible apply State.run_sound
    | with_reducible apply Dev.longCommand_sound
    | with_reducible exact sound_mk (Dev.Sound.parts (by assumption))

theorem execSurfReset_sound {xy : BitVec 10} {s : State} {t : State}
    (hk : s.dev.Sound fz) (h : execSurfReset xy s = .next t) : t.dev.Sound fz := by
  unfold execSurfReset at h
  refine State.run_sound hk h (fun d hk => ?_)
  repeat' first
    | with_reducible assumption
    | (fail_if_no_progress intros)
    | with_reducible apply Dev.finishOk_sound
    | with_reducible apply Dev.writeTreset_sound
    | with_reducible apply Dev.finishErr_sound
    | with_reducible apply Dev.command_sound
    | with_reducible apply State.run_sound
    | with_reducible exact sound_mk (Dev.Sound.parts (by assumption))
    | split

theorem Dev.rdResume_sound {d : Dev} {ok : Bool} {w : Word} (hk : Dev.Sound fz d) :
    Dev.Sound fz (Dev.rdResume d ok w) := by
  unfold Dev.rdResume
  repeat' first
    | with_reducible assumption
    | ((fail_if_no_progress extract_lets +onlyGivenNames x); first | (refine sound_cut fz x ?_ (fun _ => ?_); unfold x) | skip)
    | with_reducible apply Dev.setCon_sound
    | with_reducible apply Dev.rdRun_sound
    | with_reducible apply Dev.addRun_sound
    | with_reducible apply Dev.endRun_sound
    | split

theorem execTimeStat_sound {s : State} {t : State}
    (hk : s.dev.Sound fz) (h : execTimeStat s = .next t) : t.dev.Sound fz := by
  unfold execTimeStat at h
  refine State.run_sound hk h (fun d hk => ?_)
  repeat' first
    | with_reducible assumption
    | (fail_if_no_progress intros)
    | with_reducible apply Dev.say_sound
    | with_reducible apply Dev.command_sound
    | with_reducible apply State.run_sound
    | with_reducible exact sound_mk (Dev.Sound.parts (by assumption))

theorem Dev.nvmShow_sound {d : Dev} {a : Nat} {n : Nat} (hk : Dev.Sound fz d) :
    Dev.Sound fz (Dev.nvmShow d a n) := by
  unfold Dev.nvmShow
  repeat' first
    | with_reducible assumption
    | with_reducible apply Dev.finishErr_sound
    | with_reducible apply Dev.say_sound
    | split

theorem Dev.rubChar_sound {d : Dev} (hk : Dev.Sound fz d) :
    Dev.Sound fz (Dev.rubChar d) := by
  unfold Dev.rubChar
  repeat' first
    | with_reducible assumption
    | ((fail_if_no_progress extract_lets +onlyGivenNames x); first | (refine sound_cut fz x ?_ (fun _ => ?_); unfold x) | skip)
    | with_reducible apply Dev.printAll_sound
    | with_reducible apply Dev.setCon_sound
    | split

theorem Dev.ctrlC_sound {d : Dev} (hk : Dev.Sound fz d) :
    Dev.Sound fz (Dev.ctrlC d) := by
  unfold Dev.ctrlC
  repeat' first
    | with_reducible assumption
    | ((fail_if_no_progress extract_lets +onlyGivenNames x); first | (refine sound_cut fz x ?_ (fun _ => ?_); unfold x) | skip)
    | with_reducible apply Dev.finishErr_sound
    | with_reducible apply Dev.setCon_sound
    | with_reducible apply Dev.statusLine_sound
    | with_reducible exact sound_mk (Dev.Sound.parts (by assumption))
    | split

theorem Dev.keepChar_sound {d : Dev} {c : Byte} (hk : Dev.Sound fz d) :
    Dev.Sound fz (Dev.keepChar d c) := by
  unfold Dev.keepChar
  repeat' first
    | with_reducible assumption
    | ((fail_if_no_progress extract_lets +onlyGivenNames x); first | (refine sound_cut fz x ?_ (fun _ => ?_); unfold x) | skip)
    | with_reducible apply Dev.print_sound
    | with_reducible apply Dev.setCon_sound
    | split

theorem execLogNvmTimeout_sound {s : State} {t : State}
    (hk : s.dev.Sound fz) (h : execLogNvmTimeout s = .next t) : t.dev.Sound fz := by
  unfold execLogNvmTimeout at h
  refine State.run_sound hk h (fun d hk => ?_)
  repeat' first
    | with_reducible assumption
    | ((fail_if_no_progress extract_lets +onlyGivenNames x); first | (refine sound_cut fz x ?_ (fun _ => ?_); unfold x) | skip)
    | with_reducible apply Dev.finishErr_sound
    | with_reducible apply Dev.setCon_sound
    | with_reducible apply Dev.statusLine_sound
    | with_reducible apply State.run_sound
    | with_reducible exact sound_mk (Dev.Sound.parts (by assumption))
    | split

theorem execId_sound {s : State} {t : State}
    (hk : s.dev.Sound fz) (h : execId s = .next t) : t.dev.Sound fz := by
  unfold execId at h
  refine State.run_sound hk h (fun d hk => ?_)
  repeat' first
    | with_reducible assumption
    | (fail_if_no_progress intros)
    | with_reducible apply Dev.say_sound
    | with_reducible apply Dev.command_sound
    | with_reducible apply State.run_sound
    | with_reducible exact sound_mk (Dev.Sound.parts (by assumption))

theorem execCtrlC_sound {s : State} {t : State}
    (hk : s.dev.Sound fz) (h : execCtrlC s = .next t) : t.dev.Sound fz := by
  unfold execCtrlC at h
  refine State.run_sound hk h (fun d hk => ?_)
  repeat' first
    | with_reducible assumption
    | with_reducible apply Dev.ctrlC_sound

theorem execCfgDelta_sound {s : State} {t : State}
    (hk : s.dev.Sound fz) (h : execCfgDelta s = .next t) : t.dev.Sound fz := by
  unfold execCfgDelta at h
  refine State.run_sound hk h (fun d hk => ?_)
  repeat' first
    | with_reducible assumption
    | (fail_if_no_progress intros)
    | with_reducible apply Dev.say_sound
    | with_reducible apply Dev.command_sound
    | with_reducible apply State.run_sound
    | with_reducible exact sound_mk (Dev.Sound.parts (by assumption))

theorem execRtile_sound {xy : BitVec 10} {s : State} {t : State}
    (hk : s.dev.Sound fz) (h : execRtile xy s = .next t) : t.dev.Sound fz := by
  unfold execRtile at h
  refine State.run_sound hk h (fun d hk => ?_)
  repeat' first
    | with_reducible assumption
    | (fail_if_no_progress intros)
    | with_reducible apply Dev.finishOk_sound
    | with_reducible apply Dev.writeRtile_sound
    | with_reducible apply Dev.command_sound
    | with_reducible apply State.run_sound
    | with_reducible exact sound_mk (Dev.Sound.parts (by assumption))

theorem execEvmonOn_sound {s : State} {t : State}
    (hk : s.dev.Sound fz) (h : execEvmonOn s = .next t) : t.dev.Sound fz := by
  unfold execEvmonOn at h
  refine State.run_sound hk h (fun d hk => ?_)
  repeat' first
    | with_reducible assumption
    | (fail_if_no_progress intros)
    | ((fail_if_no_progress extract_lets +onlyGivenNames x); first | (refine sound_cut fz x ?_ (fun _ => ?_); unfold x) | skip)
    | with_reducible apply Dev.finishOk_sound
    | with_reducible apply Dev.setCon_sound
    | with_reducible apply Dev.command_sound
    | with_reducible apply State.run_sound
    | with_reducible exact sound_mk (Dev.Sound.parts (by assumption))

theorem execSysStat_sound {s : State} {t : State}
    (hk : s.dev.Sound fz) (h : execSysStat s = .next t) : t.dev.Sound fz := by
  unfold execSysStat at h
  refine State.run_sound hk h (fun d hk => ?_)
  repeat' first
    | with_reducible assumption
    | (fail_if_no_progress intros)
    | with_reducible apply Dev.say_sound
    | with_reducible apply Dev.command_sound
    | with_reducible apply State.run_sound
    | with_reducible exact sound_mk (Dev.Sound.parts (by assumption))

theorem execBootStat_sound {s : State} {t : State}
    (hk : s.dev.Sound fz) (h : execBootStat s = .next t) : t.dev.Sound fz := by
  unfold execBootStat at h
  refine State.run_sound hk h (fun d hk => ?_)
  repeat' first
    | with_reducible assumption
    | (fail_if_no_progress intros)
    | with_reducible apply Dev.say_sound
    | with_reducible apply Dev.command_sound
    | with_reducible apply State.run_sound
    | with_reducible exact sound_mk (Dev.Sound.parts (by assumption))

theorem Dev.blockStat_sound {d : Dev} {block : Nat} (hk : Dev.Sound fz d) :
    Dev.Sound fz (Dev.blockStat d block) := by
  unfold Dev.blockStat
  repeat' first
    | with_reducible assumption
    | with_reducible apply Dev.finishErr_sound
    | with_reducible apply Dev.say_sound
    | split

theorem execBlockStat_sound {block : BitVec 4} {s : State} {t : State}
    (hk : s.dev.Sound fz) (h : execBlockStat block s = .next t) : t.dev.Sound fz := by
  unfold execBlockStat at h
  refine State.run_sound hk h (fun d hk => ?_)
  repeat' first
    | with_reducible assumption
    | (fail_if_no_progress intros)
    | with_reducible apply Dev.blockStat_sound
    | with_reducible apply Dev.command_sound
    | with_reducible apply State.run_sound
    | with_reducible exact sound_mk (Dev.Sound.parts (by assumption))

theorem execWr_sound {addr : BitVec 16} {value : Word} {s : State} {t : State}
    (hk : s.dev.Sound fz) (h : execWr addr value s = .next t) : t.dev.Sound fz := by
  unfold execWr at h
  refine State.run_sound hk h (fun d hk => ?_)
  repeat' first
    | with_reducible assumption
    | (fail_if_no_progress intros)
    | with_reducible apply Dev.writeHost_sound
    | with_reducible apply Dev.finishOk_sound
    | with_reducible apply Dev.finishErr_sound
    | with_reducible apply Dev.command_sound
    | with_reducible apply State.run_sound
    | with_reducible exact sound_mk (Dev.Sound.parts (by assumption))
    | split

theorem execConsoleWakeEdge_sound {s : State} {t : State}
    (hk : s.dev.Sound fz) (h : execConsoleWakeEdge s = .next t) : t.dev.Sound fz := by
  unfold execConsoleWakeEdge at h
  refine State.run_sound hk h (fun d hk => ?_)
  repeat' first
    | with_reducible assumption
    | ((fail_if_no_progress extract_lets +onlyGivenNames x); first | (refine sound_cut fz x ?_ (fun _ => ?_); unfold x) | skip)
    | with_reducible apply Dev.foscStart_sound
    | with_reducible apply Dev.setCon_sound
    | with_reducible apply State.run_sound
    | with_reducible exact sound_mk (Dev.Sound.parts (by assumption))
    | split

theorem execSurfMap_sound {s : State} {t : State}
    (hk : s.dev.Sound fz) (h : execSurfMap s = .next t) : t.dev.Sound fz := by
  unfold execSurfMap at h
  refine State.run_sound hk h (fun d hk => ?_)
  repeat' first
    | with_reducible assumption
    | (fail_if_no_progress intros)
    | with_reducible apply Dev.say_sound
    | with_reducible apply Dev.command_sound
    | with_reducible apply State.run_sound
    | with_reducible apply Dev.finishOk_sound
    | with_reducible apply Dev.printAll_sound
    | with_reducible exact sound_mk (Dev.Sound.parts (by assumption))
    | split

theorem execPwrWake_sound {s : State} {t : State}
    (hk : s.dev.Sound fz) (h : execPwrWake s = .next t) : t.dev.Sound fz := by
  unfold execPwrWake at h
  refine State.run_sound hk h (fun d hk => ?_)
  repeat' first
    | with_reducible assumption
    | (fail_if_no_progress intros)
    | with_reducible apply Dev.say_sound
    | with_reducible apply Dev.command_sound
    | with_reducible apply State.run_sound
    | with_reducible exact sound_mk (Dev.Sound.parts (by assumption))

theorem execConsoleReset_sound {s : State} {t : State}
    (hk : s.dev.Sound fz) (h : execConsoleReset s = .next t) : t.dev.Sound fz := by
  unfold execConsoleReset at h
  refine State.run_sound hk h (fun d hk => ?_)
  repeat' first
    | with_reducible assumption
    | (fail_if_no_progress intros)
    | with_reducible apply Dev.resetNow_sound
    | with_reducible apply Dev.finishOk_sound
    | with_reducible apply Dev.finishErr_sound
    | with_reducible apply Dev.command_sound
    | with_reducible apply State.run_sound
    | with_reducible exact sound_mk (Dev.Sound.parts (by assumption))
    | split

theorem execCfgStat_sound {s : State} {t : State}
    (hk : s.dev.Sound fz) (h : execCfgStat s = .next t) : t.dev.Sound fz := by
  unfold execCfgStat at h
  refine State.run_sound hk h (fun d hk => ?_)
  repeat' first
    | with_reducible assumption
    | (fail_if_no_progress intros)
    | with_reducible apply Dev.say_sound
    | with_reducible apply Dev.command_sound
    | with_reducible apply State.run_sound
    | with_reducible exact sound_mk (Dev.Sound.parts (by assumption))

theorem execConsoleBreak_sound {s : State} {t : State}
    (hk : s.dev.Sound fz) (h : execConsoleBreak s = .next t) : t.dev.Sound fz := by
  unfold execConsoleBreak at h
  refine State.run_sound hk h (fun d hk => ?_)
  repeat' first
    | with_reducible assumption
    | with_reducible apply Dev.bump_sound
    | with_reducible apply Dev.dropLine_sound

theorem execHelp_sound {s : State} {t : State}
    (hk : s.dev.Sound fz) (h : execHelp s = .next t) : t.dev.Sound fz := by
  unfold execHelp at h
  refine State.run_sound hk h (fun d hk => ?_)
  repeat' first
    | with_reducible assumption
    | (fail_if_no_progress intros)
    | with_reducible apply Dev.say_sound
    | with_reducible apply Dev.command_sound
    | with_reducible apply Dev.finishOk_sound
    | with_reducible apply Dev.print_sound
    | with_reducible apply State.run_sound
    | with_reducible exact sound_mk (Dev.Sound.parts (by assumption))

theorem execPwrStat_sound {s : State} {t : State}
    (hk : s.dev.Sound fz) (h : execPwrStat s = .next t) : t.dev.Sound fz := by
  unfold execPwrStat at h
  refine State.run_sound hk h (fun d hk => ?_)
  repeat' first
    | with_reducible assumption
    | (fail_if_no_progress intros)
    | with_reducible apply Dev.say_sound
    | with_reducible apply Dev.command_sound
    | with_reducible apply State.run_sound
    | with_reducible exact sound_mk (Dev.Sound.parts (by assumption))

theorem execTime_sound {s : State} {t : State}
    (hk : s.dev.Sound fz) (h : execTime s = .next t) : t.dev.Sound fz := by
  unfold execTime at h
  refine State.run_sound hk h (fun d hk => ?_)
  repeat' first
    | with_reducible assumption
    | (fail_if_no_progress intros)
    | ((fail_if_no_progress extract_lets +onlyGivenNames x); first | (refine sound_cut fz x ?_ (fun _ => ?_); unfold x) | skip)
    | with_reducible apply Dev.takeSnapshot_sound
    | with_reducible apply Dev.say_sound
    | with_reducible apply Dev.command_sound
    | with_reducible apply State.run_sound
    | with_reducible exact sound_mk (Dev.Sound.parts (by assumption))

theorem execEvmonOff_sound {s : State} {t : State}
    (hk : s.dev.Sound fz) (h : execEvmonOff s = .next t) : t.dev.Sound fz := by
  unfold execEvmonOff at h
  refine State.run_sound hk h (fun d hk => ?_)
  repeat' first
    | with_reducible assumption
    | (fail_if_no_progress intros)
    | ((fail_if_no_progress extract_lets +onlyGivenNames x); first | (refine sound_cut fz x ?_ (fun _ => ?_); unfold x) | skip)
    | with_reducible apply Dev.finishOk_sound
    | with_reducible apply Dev.setCon_sound
    | with_reducible apply Dev.command_sound
    | with_reducible apply State.run_sound
    | with_reducible exact sound_mk (Dev.Sound.parts (by assumption))

theorem execNvmRd_sound {addr : BitVec 24} {n : BitVec 8} {s : State} {t : State}
    (hk : s.dev.Sound fz) (h : execNvmRd addr n s = .next t) : t.dev.Sound fz := by
  unfold execNvmRd at h
  refine State.run_sound hk h (fun d hk => ?_)
  repeat' first
    | with_reducible assumption
    | (fail_if_no_progress intros)
    | with_reducible apply Dev.nvmShow_sound
    | with_reducible apply Dev.command_sound
    | with_reducible apply State.run_sound
    | with_reducible exact sound_mk (Dev.Sound.parts (by assumption))

theorem execPartialLineTimeout_sound {s : State} {t : State}
    (hk : s.dev.Sound fz) (h : execPartialLineTimeout s = .next t) : t.dev.Sound fz := by
  unfold execPartialLineTimeout at h
  refine State.run_sound hk h (fun d hk => ?_)
  repeat' first
    | with_reducible assumption
    | with_reducible apply Dev.dropLine_sound

theorem execCfgGet_sound {p : Word} {s : State} {t : State}
    (hk : s.dev.Sound fz) (h : execCfgGet p s = .next t) : t.dev.Sound fz := by
  unfold execCfgGet at h
  refine State.run_sound hk h (fun d hk => ?_)
  repeat' first
    | with_reducible assumption
    | (fail_if_no_progress intros)
    | with_reducible apply Dev.say_sound
    | with_reducible apply Dev.finishErr_sound
    | with_reducible apply Dev.command_sound
    | with_reducible apply State.run_sound
    | with_reducible exact sound_mk (Dev.Sound.parts (by assumption))
    | split

theorem execEvrSrc_sound {n : BitVec 10} {s : State} {t : State}
    (hk : s.dev.Sound fz) (h : execEvrSrc n s = .next t) : t.dev.Sound fz := by
  unfold execEvrSrc at h
  refine State.run_sound hk h (fun d hk => ?_)
  repeat' first
    | with_reducible assumption
    | (fail_if_no_progress intros)
    | with_reducible apply Dev.finishErr_sound
    | with_reducible apply Dev.say_sound
    | with_reducible apply Dev.command_sound
    | with_reducible apply State.run_sound
    | with_reducible exact sound_mk (Dev.Sound.parts (by assumption))
    | split

theorem execSurfStat_sound {s : State} {t : State}
    (hk : s.dev.Sound fz) (h : execSurfStat s = .next t) : t.dev.Sound fz := by
  unfold execSurfStat at h
  refine State.run_sound hk h (fun d hk => ?_)
  repeat' first
    | with_reducible assumption
    | (fail_if_no_progress intros)
    | with_reducible apply Dev.say_sound
    | with_reducible apply Dev.command_sound
    | with_reducible apply State.run_sound
    | with_reducible exact sound_mk (Dev.Sound.parts (by assumption))

theorem execEvrFire_sound {n : BitVec 10} {s : State} {t : State}
    (hk : s.dev.Sound fz) (h : execEvrFire n s = .next t) : t.dev.Sound fz := by
  unfold execEvrFire at h
  refine State.run_sound hk h (fun d hk => ?_)
  repeat' first
    | with_reducible assumption
    | (fail_if_no_progress intros)
    | with_reducible apply Dev.finishErr_sound
    | with_reducible apply Dev.finishOk_sound
    | with_reducible apply Dev.ring_sound
    | with_reducible apply Dev.command_sound
    | with_reducible apply State.run_sound
    | with_reducible exact sound_mk (Dev.Sound.parts (by assumption))
    | split

theorem execAck_sound {port : BitVec 2} {b : Byte} {s : State} {t : State}
    (hk : s.dev.Sound fz) (h : execAck port b s = .next t) : t.dev.Sound fz := by
  unfold execAck at h
  refine State.run_sound hk h (fun d hk => ?_)
  repeat' first
    | with_reducible assumption
    | with_reducible apply Dev.takeAck_sound

theorem Dev.remember_sound {d : Dev} {key : Nat} {resp : Packet} (hk : Dev.Sound fz d) :
    Dev.Sound fz (Dev.remember d key resp) := by
  unfold Dev.remember
  repeat' first
    | with_reducible assumption
    | with_reducible apply sound_ports fz
    | with_reducible refine (List.length_set ..).trans ?_
    | with_reducible refine (List.length_map ..).trans ?_
    | ((fail_if_no_progress extract_lets +onlyGivenNames x); first | (refine sound_cut fz x ?_ (fun _ => ?_); unfold x) | (refine link_cut x ?_ (fun _ => ?_); unfold x) | skip)
    | with_reducible apply Dev.setLink_sound
    | split

theorem Dev.answerWith_sound {d : Dev} {pk : Packet} {type : Nat} {ws : List Word} (hk : Dev.Sound fz d) :
    Dev.Sound fz (Dev.answerWith d pk type ws) := by
  unfold Dev.answerWith
  repeat' first
    | with_reducible assumption
    | with_reducible apply Dev.respond_sound
    | with_reducible apply Dev.remember_sound

theorem Dev.takeMessage_sound {d : Dev} {src : Nat} {code : Nat} {ws : List Word} (hk : Dev.Sound fz d) :
    Dev.Sound fz (Dev.takeMessage d src code ws) := by
  unfold Dev.takeMessage
  repeat' first
    | with_reducible assumption
    | with_reducible apply Dev.enumMsg_sound
    | with_reducible apply Dev.joinMsg_sound
    | with_reducible apply Dev.welcomeMsg_sound
    | with_reducible apply Dev.refusedMsg_sound
    | with_reducible apply Dev.deltaMsg_sound
    | with_reducible apply Dev.imgReqMsg_sound
    | with_reducible apply Dev.imgData_sound
    | with_reducible apply Dev.imgResultMsg_sound
    | with_reducible apply Dev.contactsMsg_sound
    | with_reducible apply Dev.stripMsg_sound
    | with_reducible apply Dev.forwardMsg_sound
    | with_reducible apply Dev.modeCommand_sound
    | with_reducible apply Dev.modeAck_sound
    | with_reducible apply Dev.prepareMsg_sound
    | with_reducible apply Dev.readyMsg_sound
    | with_reducible apply Dev.refuseMsg_sound
    | with_reducible apply Dev.goMsg_sound
    | with_reducible apply Dev.goAckMsg_sound
    | with_reducible apply Dev.abortMsg_sound
    | with_reducible apply Dev.resetMsg_sound
    | with_reducible apply Dev.leaveMsg_sound
    | with_reducible apply Dev.svcReqMsg_sound
    | split

theorem Dev.serve_sound {d : Dev} {pk : Packet} {flips : List (List (BitVec 5))} (hk : Dev.Sound fz d) :
    Dev.Sound fz (Dev.serve d pk flips) := by
  unfold Dev.serve
  repeat' first
    | with_reducible assumption
    | ((fail_if_no_progress extract_lets +onlyGivenNames x); first | (refine sound_cut fz x ?_ (fun _ => ?_); unfold x) | skip)
    | (split <;> first | (rename_i heq; simp only [Prod.ext_iff] at heq; refine sound_eq fz heq.2 ?_ (fun _ => ?_)) | skip)
    | with_reducible apply Dev.gatherServe_sound
    | with_reducible apply Dev.answerWith_sound
    | with_reducible apply Dev.remoteRdMsg_sound
    | with_reducible apply Dev.remoteWrMsg_sound
    | with_reducible apply Dev.takeMessage_sound

theorem execTagReturn_sound {tag : BitVec 6} {s : State} {t : State}
    (hk : s.dev.Sound fz) (h : execTagReturn tag s = .next t) : t.dev.Sound fz := by
  unfold execTagReturn at h
  refine State.run_sound hk h (fun d hk => ?_)
  repeat' first
    | with_reducible assumption
    | with_reducible apply Dev.tagReturn_sound

theorem Dev.pingDone_sound {d : Dev} {o : Operation} (hk : Dev.Sound fz d) :
    Dev.Sound fz (Dev.pingDone d o) := by
  unfold Dev.pingDone
  repeat' first
    | with_reducible assumption
    | with_reducible apply sound_ports fz
    | with_reducible refine (List.length_set ..).trans ?_
    | with_reducible refine (List.length_map ..).trans ?_
    | ((fail_if_no_progress extract_lets +onlyGivenNames x); first | (refine sound_cut fz x ?_ (fun _ => ?_); unfold x) | (refine link_cut x ?_ (fun _ => ?_); unfold x) | skip)
    | (with_reducible apply sound_foldl; intros)
    | (with_reducible apply sound_foldl_snd; intros)
    | (split <;> first | (rename_i heq; simp only [Prod.ext_iff] at heq; refine sound_eq fz heq.2 ?_ (fun _ => ?_)) | skip)
    | with_reducible apply Dev.draw_sound
    | with_reducible apply Dev.setLink_sound
    | with_reducible apply Dev.median_sound
    | with_reducible apply Dev.finishOk_sound
    | with_reducible apply Dev.print_sound
    | with_reducible apply Dev.statusLine_sound
    | with_reducible exact sound_mk (Dev.Sound.parts (by assumption))
    | split

theorem Dev.hierDone_sound {d : Dev} {o : Operation} (hk : Dev.Sound fz d) :
    Dev.Sound fz (Dev.hierDone d o) := by
  unfold Dev.hierDone
  repeat' first
    | with_reducible assumption
    | ((fail_if_no_progress extract_lets +onlyGivenNames x); first | (refine sound_cut fz x ?_ (fun _ => ?_); unfold x) | skip)
    | with_reducible apply Dev.modeMissed_sound
    | with_reducible apply Dev.setSurf_sound
    | split

theorem Dev.windowDone_sound {d : Dev} {o : Operation} (hk : Dev.Sound fz d) :
    Dev.Sound fz (Dev.windowDone d o) := by
  unfold Dev.windowDone
  repeat' first
    | with_reducible assumption
    | ((fail_if_no_progress extract_lets +onlyGivenNames x); first | (refine sound_cut fz x ?_ (fun _ => ?_); unfold x) | skip)
    | with_reducible apply Dev.remoteDone_sound
    | with_reducible apply Dev.ep2Resume_sound
    | with_reducible apply Dev.rdResume_sound
    | with_reducible apply Dev.waiterFails_sound
    | split

theorem Dev.takeDone_sound {d : Dev} {o : Operation} (hk : Dev.Sound fz d) :
    Dev.Sound fz (Dev.takeDone d o) := by
  unfold Dev.takeDone
  repeat' first
    | with_reducible assumption
    | with_reducible apply Dev.hierDone_sound
    | with_reducible apply Dev.gatherDone_sound
    | with_reducible apply Dev.windowDone_sound
    | with_reducible apply Dev.pingDone_sound
    | split

theorem Dev.settle_sound {d : Dev} {z1 : Nat} (hk : Dev.Sound fz d) :
    Dev.Sound fz (Dev.settle d z1) := by
  induction z1 generalizing d with
  | zero =>
    unfold Dev.settle
    repeat' first
      | with_reducible assumption
      | with_reducible apply sound_ports fz
      | with_reducible refine (List.length_set ..).trans ?_
      | with_reducible refine (List.length_map ..).trans ?_
      | ((fail_if_no_progress extract_lets +onlyGivenNames x); first | (refine sound_cut fz x ?_ (fun _ => ?_); unfold x) | (refine link_cut x ?_ (fun _ => ?_); unfold x) | clear_value x)
      | with_reducible apply Dev.takeDone_sound
      | with_reducible apply Dev.setLink_sound
      | split
  | succ _ ih =>
    unfold Dev.settle
    repeat' first
      | with_reducible assumption
      | with_reducible apply sound_ports fz
      | with_reducible refine (List.length_set ..).trans ?_
      | with_reducible refine (List.length_map ..).trans ?_
      | with_reducible apply ih
      | ((fail_if_no_progress extract_lets +onlyGivenNames x); first | (refine sound_cut fz x ?_ (fun _ => ?_); unfold x) | (refine link_cut x ?_ (fun _ => ?_); unfold x) | clear_value x)
      | with_reducible apply Dev.takeDone_sound
      | with_reducible apply Dev.setLink_sound
      | split

theorem execOperationIssue_sound {s : State} {t : State}
    (hk : s.dev.Sound fz) (h : execOperationIssue s = .next t) : t.dev.Sound fz := by
  unfold execOperationIssue at h
  refine State.run_sound hk h (fun d hk => ?_)
  repeat' first
    | with_reducible assumption
    | with_reducible apply Dev.settle_sound
    | with_reducible apply Dev.issueOps_sound

theorem Dev.takeRequest_sound {d : Dev} {pk : Packet} {flips : List (List (BitVec 5))} (hk : Dev.Sound fz d) :
    Dev.Sound fz (Dev.takeRequest d pk flips) := by
  unfold Dev.takeRequest
  repeat' first
    | with_reducible assumption
    | with_reducible apply Dev.serve_sound
    | with_reducible apply Dev.respond_sound
    | with_reducible apply Dev.bump_sound
    | split

theorem Dev.takePacket_sound {d : Dev} {pk : Packet} {flips : List (List (BitVec 5))} (hk : Dev.Sound fz d) :
    Dev.Sound fz (Dev.takePacket d pk flips) := by
  unfold Dev.takePacket
  repeat' first
    | with_reducible assumption
    | with_reducible apply Dev.settle_sound
    | with_reducible apply Dev.opResponse_sound
    | with_reducible apply Dev.takeRequest_sound
    | with_reducible apply Dev.takeMessage_sound
    | split

theorem Dev.deliverOldest_sound {d : Dev} {flips : List (List (BitVec 5))} (hk : Dev.Sound fz d) :
    Dev.Sound fz (Dev.deliverOldest d flips) := by
  unfold Dev.deliverOldest
  repeat' first
    | with_reducible assumption
    | with_reducible apply sound_ports fz
    | with_reducible refine (List.length_set ..).trans ?_
    | with_reducible refine (List.length_map ..).trans ?_
    | ((fail_if_no_progress extract_lets +onlyGivenNames x); first | (refine sound_cut fz x ?_ (fun _ => ?_); unfold x) | (refine link_cut x ?_ (fun _ => ?_); unfold x) | skip)
    | with_reducible apply Dev.takePacket_sound
    | with_reducible apply Dev.setLink_sound
    | split

theorem execRequestDelivery_sound {flips : List (List (BitVec 5))} {s : State} {t : State}
    (hk : s.dev.Sound fz) (h : execRequestDelivery flips s = .next t) : t.dev.Sound fz := by
  unfold execRequestDelivery at h
  refine State.run_sound hk h (fun d hk => ?_)
  repeat' first
    | with_reducible assumption
    | with_reducible apply Dev.deliverOldest_sound

theorem execGapSkip_sound {s : State} {t : State}
    (hk : s.dev.Sound fz) (h : execGapSkip s = .next t) : t.dev.Sound fz := by
  unfold execGapSkip at h
  refine State.run_sound hk h (fun d hk => ?_)
  repeat' first
    | with_reducible assumption
    | with_reducible apply Dev.skipGap_sound
    | split

theorem execPacketAged_sound {port : BitVec 2} {s : State} {t : State}
    (hk : s.dev.Sound fz) (h : execPacketAged port s = .next t) : t.dev.Sound fz := by
  unfold execPacketAged at h
  refine State.run_sound hk h (fun d hk => ?_)
  repeat' first
    | with_reducible assumption
    | with_reducible apply Dev.packetAged_sound

theorem Dev.responseFrom_sound {d : Dev} {src : Nat} {tag : Nat} {payload : List Word} (hk : Dev.Sound fz d) :
    Dev.Sound fz (Dev.responseFrom d src tag payload) := by
  unfold Dev.responseFrom
  repeat' first
    | with_reducible assumption
    | with_reducible apply Dev.settle_sound
    | with_reducible apply Dev.opResponse_sound

theorem execReorderRelease_sound {point : BitVec 3} {s : State} {t : State}
    (hk : s.dev.Sound fz) (h : execReorderRelease point s = .next t) : t.dev.Sound fz := by
  unfold execReorderRelease at h
  refine State.run_sound hk h (fun d hk => ?_)
  repeat' first
    | with_reducible assumption
    | with_reducible apply Dev.reorderRelease_sound

theorem execTagStarved_sound {s : State} {t : State}
    (hk : s.dev.Sound fz) (h : execTagStarved s = .next t) : t.dev.Sound fz := by
  unfold execTagStarved at h
  refine State.run_sound hk h (fun d hk => ?_)
  repeat' first
    | with_reducible assumption
    | with_reducible apply Dev.opStarved_sound

theorem execRemoteResp_sound {src : BitVec 10} {tag : BitVec 6} {value : Word} {s : State} {t : State}
    (hk : s.dev.Sound fz) (h : execRemoteResp src tag value s = .next t) : t.dev.Sound fz := by
  unfold execRemoteResp at h
  refine State.run_sound hk h (fun d hk => ?_)
  repeat' first
    | with_reducible assumption
    | with_reducible apply Dev.responseFrom_sound

theorem Dev.cacheExpiry_sound {d : Dev} (hk : Dev.Sound fz d) :
    Dev.Sound fz (Dev.cacheExpiry d) := by
  unfold Dev.cacheExpiry
  repeat' first
    | with_reducible assumption
    | with_reducible apply sound_ports fz
    | with_reducible refine (List.length_set ..).trans ?_
    | with_reducible refine (List.length_map ..).trans ?_
    | ((fail_if_no_progress extract_lets +onlyGivenNames x); first | (refine sound_cut fz x ?_ (fun _ => ?_); unfold x) | (refine link_cut x ?_ (fun _ => ?_); unfold x) | skip)
    | with_reducible apply Dev.setLink_sound
    | split

theorem execDuplicateCacheExpiry_sound {s : State} {t : State}
    (hk : s.dev.Sound fz) (h : execDuplicateCacheExpiry s = .next t) : t.dev.Sound fz := by
  unfold execDuplicateCacheExpiry at h
  refine State.run_sound hk h (fun d hk => ?_)
  repeat' first
    | with_reducible assumption
    | with_reducible apply Dev.cacheExpiry_sound

theorem execOperationResponse_sound {src : BitVec 10} {tag : BitVec 6} {payload : List Word} {s : State} {t : State}
    (hk : s.dev.Sound fz) (h : execOperationResponse src tag payload s = .next t) : t.dev.Sound fz := by
  unfold execOperationResponse at h
  refine State.run_sound hk h (fun d hk => ?_)
  repeat' first
    | with_reducible assumption
    | with_reducible apply Dev.responseFrom_sound

theorem execResendTimeout_sound {port : BitVec 2} {s : State} {t : State}
    (hk : s.dev.Sound fz) (h : execResendTimeout port s = .next t) : t.dev.Sound fz := by
  unfold execResendTimeout at h
  refine State.run_sound hk h (fun d hk => ?_)
  repeat' first
    | with_reducible assumption
    | with_reducible apply Dev.resendTimeout_sound

theorem execSequencedFrame_sound {port : BitVec 2} {seq : BitVec 4} {crcOk : Bool} {w0 : Word} {w1 : Word} {payload
    : List Word} {s : State} {t : State}
    (hk : s.dev.Sound fz) (h : execSequencedFrame port seq crcOk w0 w1 payload s = .next t) : t.dev.Sound fz := by
  unfold execSequencedFrame at h
  refine State.run_sound hk h (fun d hk => ?_)
  repeat' first
    | with_reducible assumption
    | ((fail_if_no_progress extract_lets +onlyGivenNames x); first | (refine sound_cut fz x ?_ (fun _ => ?_); unfold x) | skip)
    | with_reducible apply Dev.receiveFrame_sound
    | split

theorem execPing_sound {src : BitVec 10} {tag : BitVec 6} {w : Word} {s : State} {t : State}
    (hk : s.dev.Sound fz) (h : execPing src tag w s = .next t) : t.dev.Sound fz := by
  unfold execPing at h
  refine State.run_sound hk h (fun d hk => ?_)
  repeat' first
    | with_reducible assumption
    | with_reducible apply Dev.respond_sound
    | with_reducible apply Dev.takeRequest_sound
    | with_reducible apply State.run_sound
    | with_reducible exact sound_mk (Dev.Sound.parts (by assumption))

theorem execNak_sound {port : BitVec 2} {b : Byte} {s : State} {t : State}
    (hk : s.dev.Sound fz) (h : execNak port b s = .next t) : t.dev.Sound fz := by
  unfold execNak at h
  refine State.run_sound hk h (fun d hk => ?_)
  repeat' first
    | with_reducible assumption
    | with_reducible apply Dev.takeNak_sound

theorem execOpAttemptTimeout_sound {tag : BitVec 6} {s : State} {t : State}
    (hk : s.dev.Sound fz) (h : execOpAttemptTimeout tag s = .next t) : t.dev.Sound fz := by
  unfold execOpAttemptTimeout at h
  refine State.run_sound hk h (fun d hk => ?_)
  repeat' first
    | with_reducible assumption
    | with_reducible apply Dev.settle_sound
    | with_reducible apply Dev.opTimeout_sound

theorem Dev.drawn_sound {d : Dev} {k : Nat} (hk : Dev.Sound fz d) : Dev.Sound fz (Dev.drawn d k).2 := by
  induction k generalizing d with
  | zero => exact hk
  | succ k ih => exact ih (Dev.draw_sound (bound := 16777216) hk)

theorem Dev.through_sound {d : Dev} {f : State → Host.Outcome State Fault Refusal} (hk : Dev.Sound fz d)
    (hf : ∀ s t : State, s.dev.Sound fz → f s = .next t → t.dev.Sound fz) : Dev.Sound fz (Dev.through d f) := by
  unfold Dev.through
  split
  · exact hf ⟨d, []⟩ _ hk (by assumption)
  · exact hk

theorem Dev.runCommand_sound {d : Dev} {c : ConsoleCmd} (hk : Dev.Sound fz d) : Dev.Sound fz (Dev.runCommand d c) := by
  unfold Dev.runCommand
  split <;> try dsimp only
  · exact Dev.through_sound hk fun _ _ h k => execHelp_sound h k
  · exact Dev.through_sound hk fun _ _ h k => execId_sound h k
  · exact Dev.through_sound hk fun _ _ h k => execRd_sound h k
  · exact Dev.through_sound hk fun _ _ h k => execWr_sound h k
  · exact Dev.through_sound hk fun _ _ h k => execTime_sound h k
  · exact Dev.through_sound hk fun _ _ h k => execLog_sound h k
  · exact Dev.through_sound hk fun _ _ h k => execEvmonOn_sound h k
  · exact Dev.through_sound hk fun _ _ h k => execEvmonOff_sound h k
  · exact Dev.through_sound hk fun _ _ h k => execSvc_sound h k
  · exact Dev.through_sound hk fun _ _ h k => execSvcOff_sound h k
  · exact Dev.through_sound hk fun _ _ h k => execMeter_sound h k
  · exact Dev.through_sound hk fun _ _ h k => execMeterOff_sound h k
  · exact Dev.through_sound hk fun _ _ h k => execEl_sound h k
  · exact Dev.through_sound hk fun _ _ h k => execConsoleReset_sound h k
  · exact Dev.through_sound hk fun _ _ h k => execBlockStat_sound h k
  · exact Dev.through_sound hk fun _ _ h k => execSysStat_sound h k
  · exact Dev.through_sound hk fun _ _ h k => execBootStat_sound h k
  · exact Dev.through_sound hk fun _ _ h k => execImgCheck_sound h k
  · exact Dev.through_sound hk fun _ _ h k => execNvmRd_sound h k
  · exact Dev.through_sound hk fun _ _ h k => execPwrStat_sound h k
  · exact Dev.through_sound hk fun _ _ h k => execPwrWake_sound h k
  · exact Dev.through_sound hk fun _ _ h k => execTimeStat_sound h k
  · exact Dev.through_sound hk fun _ _ h k => execScanNoise_sound h k
  · exact Dev.through_sound hk fun _ _ h k => execScanNode_sound h k
  · exact Dev.through_sound hk fun _ _ h k => execScanLegs_sound h k
  · exact Dev.through_sound hk fun _ _ h k => execScanRun_sound h k
  · exact Dev.through_sound hk fun _ _ h k => execScanStop_sound h k
  · exact Dev.through_sound hk fun _ _ h k => execScanTone_sound h k
  · exact Dev.through_sound hk fun _ _ h k => execTrkHop_sound h k
  · exact Dev.through_sound hk fun _ _ h k => execTrkBase_sound h k
  · exact Dev.through_sound hk fun _ _ h k => execTrkBlreset_sound h k
  · exact Dev.through_sound hk fun _ _ h k => execTrkRpt_sound h k
  · exact Dev.through_sound hk fun _ _ h k => execTrkCap_sound h k
  · exact Dev.through_sound hk fun _ _ h k => execEvrSrc_sound h k
  · exact Dev.through_sound hk fun _ _ h k => execEvrFire_sound h k
  · exact Dev.through_sound hk fun _ _ h k => execCfgStat_sound h k
  · exact Dev.through_sound hk fun _ _ h k => execCfgGet_sound h k
  · exact Dev.through_sound hk fun _ _ h k => execCfgDelta_sound h k
  · exact Dev.through_sound hk fun _ _ h k => execSurfStat_sound h k
  · exact Dev.through_sound hk fun _ _ h k => execSurfMap_sound h k
  · exact Dev.through_sound hk fun _ _ h k => execSurfTile_sound h k
  · exact Dev.through_sound hk fun _ _ h k => execRtile_sound h k
  · exact Dev.through_sound hk fun _ _ h k => execSurfReset_sound h k
  · exact Dev.through_sound hk fun _ _ h k => execEglPing_sound h k
  · exact Dev.through_sound hk fun _ _ h k => execEglInj_sound h k
  · exact Dev.through_sound hk fun _ _ h k => execEglInjOff_sound h k
  · exact Dev.through_sound hk fun _ _ h k => execEglRetrain_sound h k
  · exact Dev.through_sound hk fun _ _ h k => execMemCol_sound h k
  · exact Dev.through_sound hk fun _ _ h k => execMemRepair_sound h k
  · exact Dev.through_sound hk fun _ _ h k => execGdeWin_sound h k
  · exact Dev.through_sound hk fun _ _ h k => execGdeTest_sound h k
  · exact Dev.through_sound hk fun _ _ h k => execRailVtx_sound h k
  · exact Dev.through_sound hk fun _ _ h k => execRailVled_sound h k
  · exact Dev.through_sound hk fun _ _ h k => execRailVledAuto_sound h k
  · exact Dev.through_sound hk fun _ _ h k => execRailRestart_sound h k
  · exact Dev.through_sound hk fun _ _ h k => execLampN_sound h k
  · exact Dev.through_sound hk fun _ _ h k => execLampSet_sound h k
  · exact Dev.through_sound hk fun _ _ h k => execLampClear_sound h k
  · exact Dev.through_sound hk fun _ _ h k => execIrxRaw_sound h k
  · exact Dev.through_sound hk fun _ _ h k => execItxSend_sound h k
  · exact Dev.through_sound hk fun _ _ h k => execItxLoop_sound h k
  · exact Dev.through_sound hk fun _ _ h k => execHkaCh_sound h k
  · exact Dev.through_sound (Dev.drawn_sound hk) fun _ _ h k => execHkaConv_sound h k
  · exact Dev.through_sound (Dev.drawn_sound (Dev.drawn_sound hk)) fun _ _ h k => execHkaPath_sound h k
  · exact Dev.through_sound hk fun _ _ h k => execHkaCalZero_sound h k
  · exact Dev.through_sound hk fun _ _ h k => execHkaCalFull_sound h k
  · exact Dev.through_sound (Dev.draw_sound (Dev.draw_sound hk)) fun _ _ h k => execHkaCalApply_sound h k
  · exact Dev.through_sound hk fun _ _ h k => execCalRun_sound h k
  · exact Dev.through_sound hk fun _ _ h k => execLogStat_sound h k
  · exact Dev.through_sound hk fun _ _ h k => execTelem_sound h k

theorem Dev.runLine_sound {d : Dev} {l : LineCmd} (hk : Dev.Sound fz d) :
    Dev.Sound fz (Dev.runLine d l) := by
  unfold Dev.runLine
  repeat' first
    | with_reducible assumption
    | with_reducible apply Dev.answer_sound
    | with_reducible apply Dev.blank_sound
    | with_reducible apply Dev.bump_sound
    | with_reducible apply Dev.print_sound
    | with_reducible apply Dev.runCommand_sound
    | with_reducible apply Dev.statusLine_sound
    | with_reducible exact sound_mk (Dev.Sound.parts (by assumption))
    | split

theorem Dev.enterLine_sound {d : Dev} {l : LineCmd} (hk : Dev.Sound fz d) :
    Dev.Sound fz (Dev.enterLine d l) := by
  unfold Dev.enterLine
  repeat' first
    | with_reducible assumption
    | with_reducible apply Dev.runLine_sound
    | with_reducible apply Dev.setCon_sound
    | with_reducible exact sound_mk (Dev.Sound.parts (by assumption))
    | split

theorem Dev.endLine_sound {d : Dev} {c : Byte} (hk : Dev.Sound fz d) :
    Dev.Sound fz (Dev.endLine d c) := by
  unfold Dev.endLine
  repeat' first
    | with_reducible assumption
    | ((fail_if_no_progress extract_lets +onlyGivenNames x); first | (refine sound_cut fz x ?_ (fun _ => ?_); unfold x) | skip)
    | with_reducible apply Dev.dropLine_sound
    | with_reducible apply Dev.enterLine_sound
    | with_reducible apply Dev.setCon_sound
    | with_reducible exact sound_mk (Dev.Sound.parts (by assumption))
    | split

theorem Dev.receiveChar_sound {d : Dev} {c : Byte} {bad : Bool} (hk : Dev.Sound fz d) :
    Dev.Sound fz (Dev.receiveChar d c bad) := by
  unfold Dev.receiveChar
  repeat' first
    | with_reducible assumption
    | ((fail_if_no_progress extract_lets +onlyGivenNames x); first | (refine sound_cut fz x ?_ (fun _ => ?_); unfold x) | skip)
    | with_reducible apply Dev.bump_sound
    | with_reducible apply Dev.ctrlC_sound
    | with_reducible apply Dev.endLine_sound
    | with_reducible apply Dev.keepChar_sound
    | with_reducible apply Dev.rubChar_sound
    | with_reducible apply Dev.setCon_sound
    | with_reducible exact sound_mk (Dev.Sound.parts (by assumption))
    | split

theorem execConsoleCharacter_sound {c : Byte} {bad : Bool} {s : State} {t : State}
    (hk : s.dev.Sound fz) (h : execConsoleCharacter c bad s = .next t) : t.dev.Sound fz := by
  unfold execConsoleCharacter at h
  refine State.run_sound hk h (fun d hk => ?_)
  repeat' first
    | with_reducible assumption
    | with_reducible apply Dev.receiveChar_sound
    | with_reducible apply State.run_sound
    | with_reducible exact sound_mk (Dev.Sound.parts (by assumption))

theorem execConsoleLineError_sound {code : BitVec 3} {s : State} {t : State}
    (hk : s.dev.Sound fz) (h : execConsoleLineError code s = .next t) : t.dev.Sound fz := by
  unfold execConsoleLineError at h
  refine State.run_sound hk h (fun d hk => ?_)
  repeat' first
    | with_reducible assumption
    | ((fail_if_no_progress extract_lets +onlyGivenNames x); first | (refine sound_cut fz x ?_ (fun _ => ?_); unfold x) | skip)
    | with_reducible apply Dev.dropLine_sound
    | with_reducible apply Dev.enterLine_sound
    | with_reducible apply State.run_sound
    | with_reducible exact sound_mk (Dev.Sound.parts (by assumption))
    | split

theorem Dev.takeLine_sound {d : Dev} (hk : Dev.Sound fz d) :
    Dev.Sound fz (Dev.takeLine d) := by
  unfold Dev.takeLine
  repeat' first
    | with_reducible assumption
    | ((fail_if_no_progress extract_lets +onlyGivenNames x); first | (refine sound_cut fz x ?_ (fun _ => ?_); unfold x) | skip)
    | with_reducible apply Dev.runLine_sound
    | with_reducible apply Dev.setCon_sound
    | with_reducible exact sound_mk (Dev.Sound.parts (by assumption))
    | split

theorem execTickBoundary_sound {s : State} {t : State}
    (hk : s.dev.Sound fz) (h : execTickBoundary s = .next t) : t.dev.Sound fz := by
  unfold execTickBoundary at h
  refine State.run_sound hk h (fun d hk => ?_)
  repeat' first
    | with_reducible assumption
    | with_reducible apply Dev.takeLine_sound
    | with_reducible apply Dev.tickBoundary_sound
    | with_reducible apply State.run_sound
    | with_reducible apply Dev.boundary_sound
    | with_reducible exact sound_mk (Dev.Sound.parts (by assumption))

end Sys2Proof.Machine
end

