-- ==== Sys2Proof/Tests/Slice0.lean ====
section
/-!
SUPPORT. Slice0.lean: small tests on fixed values. The words expected of the model are the specification's, or worked out from
it by hand, as each test says. A theorem `witness_<Name>` shows states and operands that meet the premises of the obligation
of that name, each of its clauses in turn, at the ends of a range where it has one.
-/

namespace Sys2Proof.Tests

open Sys2Proof Sys2Proof.Machine

/-- The hardware after reset, but for some fields of registers. -/
def made (fields : List (Fld × Nat)) : Dev := fields.foldl (fun d p => d.setFld p.1 p.2) Dev.reset

/-- The hardware after start-up, but for some fields of registers: a standalone tile, no reset in progress, step 8, every
supply good. -/
def run (fields : List (Fld × Nat)) : Dev :=
  let d := made ([(SYS_STRAP_ROLE, 2), (SYS_SUPPLY_VDDIO_OK, 1), (SYS_SUPPLY_VCORE_OK, 1), (SYS_SUPPLY_VDDA_OK, 1)] ++ fields)
  { d with pwr.step := 8, pwr.held := none }

/-- A frame in progress. -/
def aFrame : FrameInfo :=
  { n := 5, tick := 0, sec := 0, frac := 0, header := [], buffer := true, slot := 0, omitted := false, refresh := false
    gap := false, transition := false, stretched := false, newChannels := [], chans := [], resets := [], core := 1
    scrap := false }

/-- A pending record. -/
def aRecord : Pend :=
  { src := 256, pri := 4, epoch := 0, w1 := 1, w2 := 2, w3 := 3, pairB := none, group := none, orig := none }

/-- A configuration with one TX electrode, 0, and one RX electrode, 1. -/
def aSensor : Cells 24 := [(pid secScan 0x01 0, 1#24), (pid secScan 0x01 1, 2#24)]

set_option maxRecDepth 8000

/-! Witnesses of the premises. -/

theorem witness_StepRunsFrontCommand : ∃ s t : State, step { s with pending := Instr.powerOn :: s.pending } = .next t :=
  ⟨State.reset, _, rfl⟩

theorem witness_EmptyQueueIdles : State.reset.pending = [] ∧
    (⟨Dev.reset, [.powerOn, .calRun]⟩ : State).pending = Instr.powerOn :: [.calRun] := by decide

theorem witness_StepKeepsSoundness : Memory.wf State.reset = true ∧ State.reset.dev.shaped = true ∧
    step State.reset = .next State.reset := ⟨by decide, by decide, rfl⟩

theorem witness_OnlyRepairsWriteFuses : Memory.wf ⟨run [], []⟩ = true ∧ (run []).shaped = true ∧
    step ⟨run [], []⟩ = .next ⟨run [], []⟩ := ⟨by decide, by decide, rfl⟩

theorem witness_SuppliesWarnAndReturn :
    (run []).flag SYS_SUPPLY_VDD_WARN = false ∧ (run [(SYS_SUPPLY_VDD_WARN, 1)]).flag SYS_SUPPLY_VDD_WARN = true ∧
    Dev.reset.flag SYS_SUPPLY_VDDIO_OK = false ∧
    (let d := { run [] with pwr.vddioReturning := true, pwr.vddioLost := true }
     d.pwr.vddioReturning = true ∧ d.pwr.vddioLost = true) := by decide

theorem witness_ResetsClearAndKeep : (run []).pwr.held = none ∧ (run []).sameCycle = none ∧
    Dev.reset.pwr.held = some 1 ∧ Dev.reset.sameCycle = none ∧
    ({ run [] with pwr.held := some 5 }).pwr.held = some 5 ∧ ({ run [] with pwr.held := some 5 }).sameCycle = none := by
  decide

theorem witness_ResetsEndInStepThree :
    (let d := { Dev.reset with pwr.vddGood := true, pwr.vddaGood := true }
     d.pwr.held ≠ none ∧ d.pwr.vddGood = true ∧ d.pwr.vddaGood = true ∧ d.pwr.resetLow = false) ∧
    (let d := { run [] with pwr.held := some 4, pwr.resetLow := true }
     d.pwr.resetLow = true ∧ d.pwr.held = some 4 ∧ 2 < 4) ∧
    (run []).pwr.held = none ∧ (run []).sameCycle = none ∧ 4 ≤ (run []).pwr.step ∧
    wGet 0xA50001#24 16 8 = 0xA5 ∧ wGet 0xA50001#24 0 1 = 1 ∧ ¬(wGet 0xA50000#24 16 8 = 0xA5 ∧ wGet 0xA50000#24 0 1 = 1) ∧
    ({ run [] with pwr.swReset := some .usb }).pwr.swReset ≠ none := by decide

theorem witness_ClocksStartQualifyAndFail :
    (let d := { run [] with pwr.xtalOn := true }; d.pwr.xtalOn = true ∧ d.flag SYS_CLK_SRC32 = false) ∧
    (run [(SYS_CLK_SRC32, 1)]).flag SYS_CLK_SRC32 = true ∧ (run [(SYS_CLK_FOSC_ON, 0)]).flag SYS_CLK_FOSC_ON = false ∧
    (let d := { run [(SYS_CLK_FOSC_ON, 1), (SYS_CLK_LOCKED, 0)] with pwr.lockFails := 2 }
     d.flag SYS_CLK_FOSC_ON = true ∧ d.flag SYS_CLK_LOCKED = false ∧ d.pwr.lockFails = 2 ∧ d.usb.vbus = false) ∧
    (run [(PWR_STAT_MODE, modeActive)]).foscNeeded = true ∧ (run [(PWR_STAT_MODE, modeWatch)]).foscNeeded = false ∧
    (let d := run [(SYS_CLK_LOCKED, 1)]; d.flag SYS_CLK_LOCKED = true ∧ d.fld USB_STAT_STATE = 0) ∧
    (let d := { run [] with pwr.step := 3 }; d.pwr.step = 3 ∧ d.modes.waking = false) := by decide

/-- The smallest image that R132 to R134 let pass: a header and an empty section 0x8002. -/
def emptyImage : List Byte :=
  let h : List Byte := [0x4B, 0x56, 0x49, 0x01, 0x06, 0x24, 0, 0, 0x28, 0, 0, 1] ++ List.replicate 16 0
  let h := h ++ natBytes 4 (crc32 h).toNat ++ [0x80, 0x02, 0, 0]
  h ++ natBytes 4 (crc32 h).toNat

theorem witness_StartUpTestsReadsAndLoads :
    (let d := { run [] with pwr.step := 4 }
     d.pwr.step = 4 ∧ d.boot.tested = false ∧ d.fuses.ok = true ∧ d.readsOwn = true ∧ d.boot.readA = false ∧
     d.headerDue false = true ∧ d.boot.readB = false ∧ ({ d with twb.nvOp := 1 }).twb.nvOp = 1) ∧
    (let d := ({ run [] with pwr.step := 4 }).nvmWrite slotBaseA emptyImage
     d.headerDue false = true ∧ headerCode (d.nvmRead slotBaseA 32) = 0) ∧
    (let h := emptyImage.take 32
     let d := { run [] with pwr.step := 5, boot.trying := 1, boot.hdrA := some h, boot.hdrB := some h }
     d.fld SYS_BOOT_B_RESULT = 0 ∧ (d.nvmRead slotBaseA (headerLen h)).take 32 ≠ h ∧
     (let e := d.nvmWrite slotBaseA emptyImage
      e.boot.hdrA = some h ∧ (e.nvmRead slotBaseA (headerLen h)).take 32 = h ∧
      (e.checkImage (e.nvmRead slotBaseA (headerLen h))).code = 1)) ∧
    (let d := { run [(EGL_STAT_PORTSUP, 1)] with boot.linkWait := true, surf.known := true }
     d.boot.linkWait = true ∧ d.surf.known = true ∧ d.fld EGL_STAT_PORTSUP ≠ 0 ∧
     (0#24).toNat = d.boot.linkBuf.length ∧ (d.boot.linkBuf ++ [1#24].flatMap wordBytes).length < 32) := by decide +kernel

theorem witness_NvmProxyAndBus :
    (let d := run [(SYS_NVP_ADDR_ADDR, 0x20000), (SYS_NVP_LEN_LEN, 1)]
     d.flag SYS_NVP_STAT_BUSY = false ∧ d.nvpRefusal 1 0x20000 1 0 = 0 ∧ d.nvpRefusal 2 0x1FFFF 1 0 = 0) ∧
    (run []).nvpRefusal 3 slotBaseA 0 0 = 0 ∧ (run []).nvpRefusal 4 slotBaseB 0 0 = 0 ∧ (0x5B : Byte) ≠ 0x5A ∧
    (∀ op, op ∈ [1, 2, 3, 4] → let d := { run [(SYS_NVP_STAT_BUSY, 1)] with boot.nvpOp := op }
      d.flag SYS_NVP_STAT_BUSY = true ∧ d.con.logWait = none ∧ d.boot.nvpDone = 0 ∧ d.twb.nvOp ≠ 4 ∧ d.nvmBarred = false ∧
        d.boot.nvpOp = op) ∧
    (run []).nvmMay 1 = true ∧ (run []).nvmMay 5 = true ∧ ({ run [] with twb.nvOp := 1 }).twb.nvOp ≠ 0 ∧
    (let d := { run [] with twb.nvOp := 5 }; d.nvmWrites d.twb.nvOp = true) ∧
    (let d := { run [] with twb.nvOp := 1 }; d.nvmWrites d.twb.nvOp = false) := by decide

theorem witness_ProxyCommandsIgnored : (0x00 : Byte) ≠ 0x5A ∧ (run [(SYS_NVP_STAT_BUSY, 1)]).flag SYS_NVP_STAT_BUSY = true := by
  decide

theorem witness_RegisterWritesAndClearingReads : (run []).asleep = false ∧ (run []).modes.waking = false ∧
    (SYS_NVP_ADDR < 0x2000 ∧ regDefined SYS_NVP_ADDR = true ∧ SYS_NVP_ADDR ≠ TIME_FRAC ∧ SYS_NVP_ADDR ≠ ITX_PDATA) ∧
    (SYS_PARTID < 0x2000 ∧ regReadOnly SYS_PARTID = true) ∧ regDefined 0x1FFF = false := by decide

theorem witness_ReservedAddresses : (run []).asleep = false ∧ regDefined 0x1FFF = false ∧
    (run []).isManager = false := by decide

theorem witness_TwoWireTargetAndSharedBus :
    (run []).targetAnswers = true ∧ (run []).pecOn = false ∧ (run []).modes.waking = false ∧
    ({ run [] with twb.ptr := TIME_SET_SECH }).twb.ptr ∈ [TIME_SET_SECH, EVR_SSEL, LAMP_CMDA] ∧
    ({ run [] with twb.ptr := TWB_CNT }).twb.ptr ∈ [SYS_WRIGN, SVC_ERR, TWB_CNT] ∧
    (let d := { run [] with cfg := [(pid secHost 0x02 0, 1#24)] }
     d.pecOn = true ∧ d.targetAnswers = true ∧ crc8 (d.pecBytes [] []) ≠ crc8 (d.pecBytes [] []) + 1) ∧
    (let d := run [(TWB_STAT_ALERT, 1)]
     d.flag TWB_STAT_ALERT = true ∧ araLost d.araBytes [] = false ∧ araLost d.araBytes [0] = true) ∧
    (let d := { run [(SYS_STRAP_ROLE, 1)] with twb.ptr := 0x2000 }; d.targetAnswers = true ∧ d.inWindow d.twb.ptr = true) ∧
    wGet 0x5A0003#24 16 8 = 0x5A ∧ wGet ((run [(TWB_NVCTL_HOLD, 1)]).reg TWB_NVCTL) 0 2 ≠ 0 ∧
    (run []).twb.sdaStuck = false ∧ (run []).twb.sclStuck = false ∧ ({ run [] with modes.waking := true }).modes.waking = true := by
  decide

theorem witness_DoorbellsWaitAndAreAdmitted :
    (256#9).toNat ≠ 0 ∧ ({ run [] with pwr.step := 4 }).pwr.step < 5 ∧ 5 ≤ ({ run [] with pwr.step := 5 }).pwr.step ∧
    (let d := run []
     coreSource 256 = false ∧ d.isWorker = false ∧ d.ringsTaken = false ∧ cfgPri (d.srcCfg 256) ≠ 0 ∧
     cfgRoute .h0 (d.srcCfg 256) = true ∧ d.portOpen .h0 = true ∧ d.admits .h0 (cfgPri (d.srcCfg 256)) 1 = true) ∧
    (coreSource 320 = true ∧ cfgPri ((run []).srcCfg 320) ≠ 0 ∧ (run []).evr.store.length < 256) ∧
    (let d := run [(SYS_STRAP_ROLE, 0)]
     d.isWorker = true ∧ reportSource 256 = false ∧ cfgH0 (d.srcCfg 256) = true ∧ d.surf.fwdSent < d.par secSurface 0x05) := by
  decide

theorem witness_HostDoorbellRings : 256 ≤ wGet 256#24 0 9 ∧ wGet 319#24 0 9 ≤ 319 ∧ wGet 255#24 0 9 < 256 ∧
    319 < wGet 320#24 0 9 := by decide

theorem witness_DoorbellWithoutPriorityOrRoute : (256#9).toNat ≠ 0 ∧ 5 ≤ (run []).pwr.step ∧
    cfgPri ({ run [] with evr.cfg := [(256, 0)] }.srcCfg 256) = 0 := by decide

theorem witness_StacksTakeAndComplete : ∀ p : HostPort,
    ((run []).hostQ p).frozen = false ∧ stackLevel ((run []).hostQ p).stack < wGet 0x000800#24 11 4 ∧
    1 ≤ wGet 0x000800#24 11 4 ∧ ¬ 1 ≤ wGet 0x000000#24 11 4 ∧
    (let d := { run [] with evr.h0.stack := [⟨300, 15, false⟩], evr.h1.stack := [⟨300, 15, false⟩] }
     (d.hostQ p).stack = ⟨300, 15, false⟩ :: [] ∧ (d.hostQ p).frozen = false ∧
     ¬ stackLevel (d.hostQ p).stack < wGet 0x007800#24 11 4 ∧
     300 = wGet 300#24 0 9 ∧ 300 ≠ wGet 301#24 0 9 ∧ d.par secEvents 0x02 ≠ 0) ∧
    (let d := { run [] with evr.h0.frozen := true, evr.h1.frozen := true }; (d.hostQ p).frozen = true) ∧
    (let d := run [(EVR_SSEL_SRC, 256)]
     coreSource (d.fld EVR_SSEL_SRC) = false ∧ reportSource (d.fld EVR_SSEL_SRC) = false ∧ d.fld EVR_SSEL_SRC ≠ 1 ∧
     d.fld EVR_SSEL_SRC ≠ 3) := by intro p; cases p <;> decide

theorem witness_RecordsAreDelivered :
    (let d := { run [] with evr.h0.pend := [aRecord] }
     d.ringsTaken = false ∧ d.nextIdx .h0 = some 0 ∧ (d.hostQ .h0).pend[0]? = some aRecord ∧ aRecord.pairB = none ∧
     aRecord.orig = none) ∧
    (let d := run [(EVR_H0_WR_WR, 2047)]
     (wGet 2047#24 0 11 + 2048 - d.ringRd .h0) % 2048 ≤ d.occupancy .h0 ∧ (d.hostQ .h0).episode = none ∧
     (d.hostQ .h0).ovSlot = none) ∧
    (run []).occupancy .h0 < (wGet 1#24 0 11 + 2048 - (run []).ringRd .h0) % 2048 ∧
    (let d := { run [] with evr.store := [aRecord] }
     d.coreNext = some 0 ∧ d.evr.store[0]? = some aRecord ∧ d.coreFor aRecord.pri = some 1) ∧
    (let d := run []
     (3#2).toNat < d.evr.cores.length ∧ (d.core 3).frozen = false ∧ 1 ≤ (15#4).toNat ∧ stackLevel (d.core 3).stack < 15) ∧
    (let d := { run [] with evr.cores := List.replicate 4 { stack := [⟨330, 2, false⟩] } }
     (d.core 3).stack = [⟨330, 2, false⟩] ∧ (d.core 3).frozen = false ∧ 330 = (330#9).toNat) ∧
    (let d := { run [] with evr.cores := List.replicate 4 { frozen := true } }; (d.core 0).frozen = true) := by decide

theorem witness_ReadPointerReleases :
    (let d := run [(EVR_H1_WR_WR, 3), (EVR_H1_RD_RD, 2046)]
     d.occupancy .h1 = 5 ∧ (wGet 3#24 0 11 + 2048 - d.ringRd .h1) % 2048 ≤ d.occupancy .h1 ∧
     d.occupancy .h1 < (wGet 4#24 0 11 + 2048 - d.ringRd .h1) % 2048) := by decide

theorem witness_TimeBaseCountsAndSteps :
    (run []).isWorker = false ∧ wInt ((run [(TIME_SET_OFS_OFS, 67108)]).reg TIME_SET_OFS) = 67108 ∧
    wInt ((run [(TIME_SET_OFS_OFS, 16777216 - 67109)]).reg TIME_SET_OFS) = -67109 ∧
    (let d := run []
     d.flag TIME_ALM_CTRL_ARM = false ∧ d.time.load = none ∧ d.time.stepNext = none ∧ d.time.slewNext = none ∧
     d.slewRem = 0 ∧ d.con.waits = []) ∧
    (let d := { run [(TIME_SLEWREM_REM, 2)] with time.slewCount := 1000 }; d.adjustDue = true ∧ 1 < d.slewRem) ∧
    (let d := { run [(TIME_SLEWREM_REM, 16777214)] with time.slewCount := 1000 }; d.adjustDue = true ∧ d.slewRem < -1) ∧
    (let d := { run [(TIME_SLEWREM_REM, 1)] with time.slewCount := 1000 }; d.adjustDue = true ∧ d.slewRem = 1) ∧
    ({ run [] with time.slewNext := some (-67108) }).time.slewNext = some (-67108) ∧
    ({ run [] with time.load := some (281474976710655, 16776704) }).time.load = some (281474976710655, 16776704) ∧
    ({ run [] with time.stepNext := some (-70000, 63, 1) }).time.stepNext = some (-70000, 63, 1) ∧
    (let d := run [(SYS_STRAP_ROLE, 0), (TIME_STAT_LOCKED, 1)]; d.isWorker = true ∧ d.flag TIME_STAT_LOCKED = true) ∧
    (2#2) ≠ 3 ∧
    (let d := { run [(TIME_ALM_CTRL_ARM, 1), (PWR_STAT_MODE, modeActive)] with time.sec := 1 }
     d.flag TIME_ALM_CTRL_ARM = true ∧ d.mode ≠ modeHibernate ∧ d.alarmUnits ≤ d.time.units + 512 ∧
     d.time.units + 512 < 281474976710656 * 16777216) := by decide

theorem witness_CancelEndsLoadsAndSlews : (run []).isWorker = false := by decide

theorem witness_ModesAreRequested :
    (let d := run [(PWR_STAT_MODE, modeActive)]
     d.pwrCmdIgnored = false ∧ (0#3).toNat ≤ 3 ∧ (0#3).toNat ≠ d.mode ∧ (3#3).toNat ≠ d.mode ∧ d.modeHeld = false ∧
     d.onSurface = false ∧ d.hibernateBarred = false ∧ d.autoAllowed = true ∧ d.noContact = true) ∧
    (let d := run [(PWR_STAT_MODE, modeActive), (USB_STAT_STATE, 4)]; d.pwrCmdIgnored = false ∧ d.hibernateBarred = true) ∧
    (run [(PWR_STAT_MODE, modeSafe)]).pwrCmdIgnored = true ∧
    (let d := { run [(PWR_STAT_MODE, modeIdle)] with cfg := [(pid secModes 0x02 0, 1#24)] }
     d.autoAllowed = true ∧ d.noContact = true ∧ d.onSurface = false ∧ d.mode = modeIdle ∧ d.par secModes 0x02 = 1) ∧
    (let d := run [(SYS_STRAP_ROLE, 0), (PWR_STAT_MODE, modeIdle), (EGL_TILE_JOINED, 1)]
     d.isWorker = true ∧ d.mode ≠ modeSafe ∧ d.mode ≠ modeStart ∧ d.con.request = 0 ∧ d.pwr.step = 8 ∧
     d.flag EGL_TILE_JOINED = true) ∧
    (run [(SYS_STRAP_ROLE, 1)]).isManager = true ∧
    (let d := { run [] with modes.hostwake := true, cfg := [(pid secModes 0x0A 0, 5#24)] }
     d.modes.hostwake = true ∧ d.levelMode = false) ∧
    (let d := { run [] with modes.hostwake := true, cfg := [(pid secModes 0x0A 0, 0#24)] }
     d.modes.hostwake = true ∧ d.levelMode = true) := by decide

theorem witness_PowerCommandsIgnored : (run [(SYS_STRAP_ROLE, 0)]).isWorker = true ∧
    (run [(PWR_STAT_MODE, 7)]).fld PWR_STAT_MODE = 7 ∧ (BitVec.ofNat 16 PWR_CMD).toNat = PWR_CMD ∧
    (run [(PWR_STAT_MODE, 5)]).asleep = false := by decide

theorem witness_WakesRestartsAndImages :
    (let d := run [(PWR_STAT_MODE, modeWatch), (PWR_WAKEEN_EN, 127)]
     d.mode = modeWatch ∧ (64#7).toNat &&& d.fld PWR_WAKEEN_EN ≠ 0) ∧
    (let d := { run [(PWR_STAT_MODE, modeHibernate), (PWR_WAKEEN_EN, 127)] with modes.hibStep := 7 }
     d.mode = modeHibernate ∧ d.modes.hibStep = 7 ∧
     (127#7).toNat &&& d.fld PWR_WAKEEN_EN &&& d.wakeable ((1#4).toNat.testBit 0) ≠ 0) ∧
    (let d := { run [] with modes.waking := true, pwr.step := 3 }
     d.modes.waking = true ∧ d.pwr.step = 3 ∧ d.pwr.held = none ∧ d.sameCycle = none) ∧
    (let d := { run [(PWR_STAT_MODE, modeHibernate)] with modes.hibStep := 2 }
     d.mode = modeHibernate ∧ d.modes.hibStep = 2 ∧ d.modes.acksDue = [] ∧ d.twb.nvOp < 4) ∧
    (run []).pwr.coreRestart = false ∧
    (let d := { run [(SYS_RSTCAUSE_WDRECENT, 2)] with pwr.coreRestart := true }
     d.pwr.coreRestart = true ∧ d.fld SYS_RSTCAUSE_WDRECENT < 3 ∧ d.ir.held = none) ∧
    (let d := { run [(SYS_RSTCAUSE_WDRECENT, 3), (PWR_STAT_MODE, modeIdle)] with pwr.coreRestart := true }
     d.pwr.coreRestart = true ∧ 3 ≤ d.fld SYS_RSTCAUSE_WDRECENT ∧ d.mode ≠ modeSafe) ∧
    (let d := { run [(CAL_STAT_STATE, calFull)] with pwr.step := 6 }; d.pwr.step = 6 ∧ d.fullRuns = true) ∧
    (let d := run [(SYS_STRAP_ROLE, 1)]
     d.isManager = true ∧ (d.tile 33).state ≠ tileLost ∧ d.boot.image = [] ∧ d.surf.imgWaiting = []) ∧
    (let d := { run [(SYS_STRAP_ROLE, 1)] with boot.image := [1], surf.imgServing := List.range 16 }
     d.boot.image ≠ [] ∧ (33#10).toNat ∉ d.surf.imgServing ∧ 33 ∉ d.surf.imgWaiting ∧ (d.tile 33).state ≠ tileResetting ∧
     16 ≤ d.surf.imgServing.length) ∧
    (run [(PWR_STAT_MODE, modeIdle)]).hkaOn = true ∧
    (let d := { run [] with cfg := [(pid secHka 0x01 0, 0x80#24)] }
     d.refinEnabled = true ∧ d.flag HKA_STAT_REFIN_FAULT = false) := by decide

theorem witness_FramesAreScannedAndTracked :
    (let d := run [(PWR_STAT_MODE, modeActive)]; d.framesRun = true ∧ d.scan.cur = none) ∧ Dev.reset.framesRun = false ∧
    (let d := { run [(PWR_STAT_MODE, modeActive)] with scan.cur := some aFrame }
     d.scan.cur = some aFrame ∧ aFrame.buffer = true ∧ aFrame.core < 4) ∧
    (let d := { run [(PWR_STAT_MODE, modeWatch)] with cfg := aSensor }
     d.mode = modeWatch ∧ d.hasSensor = true ∧ d.pwr.step = 8 ∧ d.bankFree d.time.frame = true) ∧
    (let d := run [(PWR_STAT_MODE, modeWatch), (MEM_OWN_OWNER 0, 3)]; d.bankFree d.time.frame = false) ∧
    (let d := { run [] with trk.queue := [aFrame] }
     d.trk.queue = aFrame :: [] ∧ (∀ g ∈ d.trk.queue, g.scrap = false) ∧ d.pwr.coreRestart = false) ∧
    (let d := { run [] with rpt.heldTap := some (1, 2, 3, 4, false), cfg := [(pid secReports 0x04 0, 0x100#24)] }
     d.rpt.heldTap = some (1, 2, 3, 4, false) ∧ d.gestOn 9 = true ∧ d.onSurface = false) ∧
    (run [(TRK_CAP_STAT_BUSY, 1)]).flag TRK_CAP_STAT_BUSY = true ∧ wGet 2#24 0 1 = 0 ∧
    (let d := run [(MEM_OWN_OWNER 15, 8)]; let e := d.storeReg TRK_CAP_CTRL (0x000004#24 ||| 1)
     d.flag TRK_CAP_STAT_BUSY = false ∧ (e.fld TRK_CAP_CTRL_PLANES).testBit 4 = false ∧ d.owner 15 = 8 ∧
     d.fld TRK_CAP_DST_WORD + e.capLength (e.fld TRK_CAP_CTRL_PLANES) ≤ 16384) ∧
    (run [(TRK_CAP_STAT_BUSY, 1)]).rpt.copying = none ∧
    (let d := { run [(TRK_CAP_STAT_BUSY, 1), (MEM_OWN_OWNER 15, 8)] with rpt.copying := some 9, rpt.copied := true }
     d.rpt.copying = some 9 ∧ d.capRemote = false ∧ d.owner 15 = 8 ∧ d.rpt.copied = true ∧ (d.chan 2).active = none ∧
     d.chanFaulted 2 = false ∧ d.rpt.stopping = false ∧ d.fld TRK_CAP_CTRL_COUNT = 0) := by decide

theorem witness_ArmIgnoredWhileBusy : (run [(TRK_CAP_STAT_BUSY, 1)]).flag TRK_CAP_STAT_BUSY = true := by decide

theorem witness_UsbRequestsAreAnswered :
    (let d := { run [(USB_STAT_STATE, usbDefault), (SYS_CLK_SRC32, 1)] with cfg := [(pid secHost 0x12 0, 1#24), (pid secHost 0x14 0, 1#24)] }
     d.usbAnswers = true ∧ d.par secHost 0x14 = 1 ∧ (127#16).toNat < 128 ∧ d.usbState ≠ usbConfigured ∧
     1 < (2#16).toNat) ∧
    (let d := run [(USB_STAT_STATE, usbAddress), (SYS_CLK_SRC32, 1)]; d.usbAnswers = true ∧ d.usbState ≠ usbDefault) ∧
    (let d := run [(USB_STAT_STATE, usbConfigured), (SYS_CLK_SRC32, 1)]
     d.usbAnswers = true ∧ d.usbState = usbConfigured ∧ d.hasHid = true) := by decide

theorem witness_UsbBusAndVendorEndpoint :
    (let d := { run [(PWR_STAT_MODE, modeActive), (SYS_CLK_LOCKED, 1)] with
      usb.vbus := true, cfg := [(pid secHost 0x10 0, 1#24)], cfgLen := [(secHost * 256 + 0x11, 1)] }
     d.usbReady = true ∧ d.usbState = 0) ∧
    wGet 0x5A0001#24 16 8 = 0x5A ∧ wGet 0x5A0001#24 0 1 = 1 ∧
    (let d := { run [(USB_STAT_STATE, usbPowered)] with usb.sofCount := 3 }
     d.usbState ≠ 0 ∧ d.flag USB_STAT_SUSP = false ∧ d.usb.wakeReport = false ∧ d.usb.errTicks = []) ∧
    (let d := { run [(USB_STAT_STATE, usbDefault), (SYS_CLK_SRC32, 1)] with usb.sofCount := 3 }
     usbDefault ≤ d.usbState ∧ 3 ≤ d.usb.sofCount ∧ d.usbState ≠ usbConfigured ∧ d.flag USB_STAT_SUSP = false) ∧
    (let d := run [(USB_STAT_STATE, usbDefault), (USB_STAT_SUSP, 1)]
     d.flag USB_STAT_SUSP = true ∧ d.usbState ≠ usbConfigured ∧ d.usb.wake = 0 ∧ d.usb.wakeReport = false) ∧
    ({ run [] with usb.wake := 1 }).usb.wake = 1 ∧ ({ run [] with usb.wake := 2 }).usb.wake = 2 ∧
    (let d := { run [(USB_STAT_STATE, usbConfigured), (SYS_CLK_SRC32, 1)] with usb.reports := [[1]] }
     d.hidOn = true ∧ d.usb.halt1 = false ∧ d.usb.reports = [1] :: []) ∧
    (let d := run [(USB_STAT_STATE, usbConfigured), (SYS_CLK_SRC32, 1)]
     d.ep2Ready = true ∧ 1 ≤ (64#8).toNat ∧ (64#8).toNat ≤ 64 ∧ SYS_PARTID < 0x2000 ∧ regDefined SYS_PARTID = true ∧
     d.notAwake SYS_PARTID = false ∧ d.asleep = false ∧ SYS_PARTID ≠ TIME_FRAC ∧ d.modes.waking = false) ∧
    (let d := { run [] with usb.response := some [1] }
     d.usb.response = some [1] ∧ d.usb.release = 0 ∧ d.usb.detachAtAck = none ∧ d.pwr.swReset ≠ some .usb) := by decide

theorem witness_CommitsOnOneTile : (0#8).toNat ≠ 0xC5 ∧
    (let d := run [(PWR_STAT_MODE, modeIdle)]
     d.isWorker = false ∧ d.fld CFG_STAT_PHASE = 0 ∧ d.mode = modeIdle ∧ d.com.checkOnly = false) ∧
    (run [(PWR_STAT_MODE, modeWatch)]).mode ≠ modeIdle ∧ (run [(PWR_STAT_MODE, modeWatch)]).mode ≠ modeActive ∧
    (run [(CFG_STAT_PHASE, 1)]).fld CFG_STAT_PHASE = 1 ∧ (run [(CFG_STAT_PHASE, 4)]).fld CFG_STAT_PHASE = 4 ∧
    ({ run [(CFG_STAT_PHASE, 1)] with com.checkOnly := true }).com.checkOnly = true ∧
    (let d := { run [(CFG_STAT_PHASE, 1), (PWR_STAT_MODE, modeActive)] with com.staged := [(pid secScan 0x7F 0, 1#24)] }
     (d.judgeSet d.com.staged true).reason ≠ 0) ∧
    (let d := { run [(CFG_STAT_PHASE, 1), (PWR_STAT_MODE, modeActive)] with com.staged := [(pid secModes 0x02 0, 1#24)] }
     (d.judgeSet d.com.staged true).reason = 0 ∧ d.onSurface = false) ∧
    (let d := { run [] with com.cold := true }; d.com.cold = true ∧ d.com.ackDue = []) := by decide

theorem witness_CheckAppliesNothing :
    (run [(PWR_STAT_MODE, modeWatch)]).isWorker = false ∧ (run [(PWR_STAT_MODE, modeWatch)]).fld CFG_STAT_PHASE = 0 ∧
    (let d := { run [(CFG_STAT_PHASE, 1)] with com.checkOnly := true }
     d.fld CFG_STAT_PHASE = 1 ∧ d.com.checkOnly = true) := by decide

/-- A joined worker at (1, 1) of a surface of two by two tiles, in IDLE. -/
def worker (fields : List (Fld × Nat)) : Dev :=
  { run ([(SYS_STRAP_ROLE, 0), (EGL_TILE_X, 1), (EGL_TILE_Y, 1), (EGL_TILE_JOINED, 1), (PWR_STAT_MODE, modeIdle)] ++ fields) with
    cfg := [(pid secSurface 0x01 0, 0x000202#24)], surf.known := true }

/-- The manager of the same surface; the tile (1, 1) has joined. -/
def manager (fields : List (Fld × Nat)) : Dev :=
  { run ([(SYS_STRAP_ROLE, 1), (EGL_TILE_JOINED, 1), (PWR_STAT_MODE, modeIdle)] ++ fields) with
    cfg := [(pid secSurface 0x01 0, 0x000202#24)], surf.known := true
    surf.tiles := [⟨33, tileJoined, 0, 0, 0, none, 0, 0, true⟩] }

theorem witness_CommitsAcrossASurface :
    (let d := worker []; let words : List Word := [1, 8, 1, word (pid secModes 0x02 0), 1]; let ps := wordPairs (words.drop 3)
     d.isWorker = true ∧ d.flag EGL_TILE_JOINED = true ∧ wGet (words.getD 2 0) 8 8 = 0 ∧ wGet (words.getD 2 0) 0 8 ≤ 1 ∧
     (d.prepareJudge 1 8 ps).1 = 0 ∧ (d.prepareJudge 2 8 ps).1 = 3 ∧ (d.prepareJudge 1 2 ps).1 = 4) ∧
    (let d := { worker [] with com.armed := true, com.epoch := 1, com.apply := 1 }
     d.isWorker = true ∧ d.com.armed = true ∧ d.com.epoch = 1 ∧ frameDiff d.com.apply 0 < 0 ∧ d.modes.heldCmd = none) ∧
    (let d := { worker [] with com.armed := true, com.epoch := 1, com.apply := 8, time.frame := 8 }
     0 ≤ frameDiff d.com.apply d.time.frame ∧ d.pwr.coreRestart = false) ∧
    (let d := { manager [(CFG_STAT_PHASE, 2)] with com.epoch := 1, com.readyDue := [1, 33] }
     d.isManager = true ∧ (d.tile 33).state ≠ tileLost ∧ d.fld CFG_STAT_PHASE = 2 ∧ (1#24).toNat = d.com.epoch ∧
     (33#10).toNat ∈ d.com.readyDue ∧ d.com.readyDue.filter (· != 33) ≠ []) ∧
    (let d := { manager [(CFG_STAT_PHASE, 3)] with com.epoch := 1, com.ackDue := [33] }
     d.fld CFG_STAT_PHASE = 3 ∧ (33#10).toNat ∈ d.com.ackDue) ∧
    (manager [(CFG_STAT_PHASE, 4)]).fld CFG_STAT_PHASE = 4 := by decide

theorem witness_TilesJoinAndReport :
    ((worker []).isWorker = true ∧ (worker []).surf.known = true ∧ 34 ≠ (worker []).ownXY) ∧
    ({ worker [] with surf.known := false }).surf.known = false ∧
    (let d := worker [(EGL_TILE_JOINED, 0)]
     d.pwr.step = 8 ∧ d.mode ≠ modeSafe ∧ d.flag EGL_TILE_JOINED = false ∧ (2#24).toNat % 8 ≠ d.mode ∧ (4#24).toNat % 8 ≠ d.mode) ∧
    (let d := { worker [] with surf.deltaDue := 2 }
     (0#24).toNat = d.surf.deltaBuf.length ∧
     d.surf.deltaBuf.length + (wordPairs [0#24, 0#24]).length < d.surf.deltaDue) ∧
    (worker []).pwr.held = none ∧ (worker []).sameCycle = none ∧ (worker []).surf.strips = [] ∧ wGet 3#24 8 5 = 0 ∧
    ({ worker [] with trk.queue := [aFrame] }).stripFrame = some 5 ∧
    ({ manager [] with surf.frame := some 5 }).surf.frame = some 5 ∧
    (let d := manager []
     d.isManager = true ∧ (d.tile 33).state ≠ tileLost ∧ (d.tile 33).state = tileJoined ∧ (d.tile 1).state ≠ tileLost ∧
     d.pwr.step = 8 ∧ d.mode ≠ modeSafe ∧ d.joinsWait = false ∧ d.joinRefusal 1 0 = 0 ∧ d.joinRefusal 0xBB 0 = 1 ∧
     (d.reg SYS_IMGSEQ) = d.reg SYS_IMGSEQ ∧ d.imageCrc = 0 ∧ d.epochFits 1 0 = true ∧ (33#10).toNat ≠ d.ownXY) ∧
    ({ manager [(CFG_STAT_PHASE, 2)] with com.checkOnly := false }).joinsWait = true ∧
    (let d := { manager [] with cfg := [] }; d.mode = modeIdle ∧ d.onSurface = false ∧ wGet 0#24 0 1 = 0) ∧
    (wGet 0x008000#24 14 5 = 2 ∧ wGet 0x008000#24 19 5 = 0 ∧ 2 ≤ wGet 0x008000#24 14 5) ∧
    (wGet 0x008000#24 15 9 = 1 ∧ wGet 0x5E0000#24 15 9 = 188) ∧
    (wGet 0xA50022#24 16 8 = 0xA5 ∧ wGet 0xA50022#24 0 10 ≠ 0 ∧ ((manager []).tile 34).state ≠ tileJoined) ∧
    wGet 0x000022#24 16 8 ≠ 0xA5 := by decide

/-- A port of the link as given, and three others as after reset. -/
def ported (d : Dev) (p : Port) : Dev := { d with link.ports := [p, {}, {}, {}] }

theorem witness_LinkPortsTrainAndFail :
    (let d := run [(EGL_PSTAT_STATE 0, portDetect), (PWR_STAT_MODE, modeActive)]
     d.fld (EGL_PSTAT_STATE 0) = portDetect ∧ (d.port 0).train = 1 ∧ d.mode ≠ modeWatch ∧ d.link.ports.length = 4 ∧
     (d.port 0).downs = [] ∧ d.flag (EGL_PSTAT_SIG 0) = false) ∧
    (let d := ported (run [(EGL_PSTAT_STATE 0, portDetect)]) { train := 0 }
     (d.port 0).train = 0 ∧ d.link.ports.length = 4) ∧
    (let d := ported (run [(EGL_PSTAT_STATE 0, portTraining)]) { train := 2 }
     d.fld (EGL_PSTAT_STATE 0) = portTraining ∧ (d.port 0).train = 2) ∧
    (let d := ported (run [(EGL_PSTAT_STATE 0, portTraining)]) { train := 3 }
     (d.port 0).train = 3 ∧ (d.port 0).watchUp = false ∧ wGet 0x118021#24 20 4 = 1 ∧ wGet 0x118021#24 16 4 = 1 ∧
     wGet 0x118021#24 14 2 = opposite 0) ∧
    wGet 0x218021#24 20 4 ≠ 1 ∧ wGet 0x200005#24 20 4 = 2 ∧ (run [(EGL_PSTAT_STATE 3, portUp)]).isUp 3 = true ∧
    1 < ((ported (run []) { trips := 2 }).port 0).trips ∧
    wGet 0x590003#24 16 8 ≠ 0x5A ∧ wGet 0x5A0001#24 16 8 = 0x5A ∧ (wGet 0x5A0001#24 0 4).testBit 0 = true ∧
    ((run []).fld EGL_PCTL_DISABLE).testBit 0 = false ∧
    (let d := { run [(EGL_PCTL_DISABLE, 1)] with cfg := [(pid secLink 0x01 0, 15#24)] }
     (wGet 0x5A0000#24 0 4).testBit 0 = false ∧ (d.fld EGL_PCTL_DISABLE).testBit 0 = true ∧
     (d.par secLink 0x01).testBit 0 = true) ∧
    (let d := worker [(EGL_PSTAT_STATE 0, portUp)]
     d.link.gate = false ∧ d.isManager = false ∧ wGet 0x003E00#24 8 6 ≤ 62 ∧ d.isUp 0 = true ∧ d.link.beacon = none) ∧
    (let d := run [(PWR_STAT_MODE, modeWatch)]
     d.mode = modeWatch ∧ d.modes.wokenInWatch = false ∧ d.isWorker = false ∧ d.onSurface = false ∧
     d.fld PWR_WAKEEN_EN = 0) := by decide

/-- A packet of the tile (1, 1) to the manager, and an operation of the manager on that tile. -/
def aPacket : Packet := ⟨1, false, false, 1, 0, 33, 0, 0, [0x000100]⟩
def anOp : Operation := ⟨0, 33, { aPacket with dest := 33, src := 0 }, none, 4, 0, false, false, none⟩

theorem witness_LinkFramesAndOperations :
    ({ run [] with link.reorder := [(2, 5, true, aPacket)] }).link.reorder = [(2, 5, true, aPacket)] ∧
    (2, 5, true, aPacket).1 = (2#3).toNat ∧ (3, 5, true, aPacket).1 = 2 * 1 + 1 ∧
    (let d := run [(EGL_PSTAT_STATE 0, portUp)]
     d.link.ports.length = 4 ∧ d.link.gate = false ∧ d.link.reorder = [] ∧ d.isUp 0 = true ∧
     ((1#4).toNat + 16 - (d.port 0).rxSeq) % 16 ∈ [1, 2, 3, 4, 5, 6, 7] ∧ ((0#4).toNat + 16 - (d.port 0).rxSeq) % 16 = 0 ∧
     d.inHeld 0 < 16 ∧ (d.port 0).queue = []) ∧
    (let d := ported (run [(EGL_PSTAT_STATE 0, portUp)]) { window := [(3, aPacket)] }
     ((d.port 0).window.any fun f => f.1 == (0x23#8).toNat % 16) = true ∧ (d.port 0).rounds < 16 ∧ (d.port 0).window ≠ []) ∧
    (let d := ported (run []) { queue := [(4, aPacket)] }; (d.port 0).queue = (4, aPacket) :: []) ∧
    (let d := { run [] with link.hold := [(0, { aPacket with fseq := 255 })] }
     d.link.hold = [(0, { aPacket with fseq := 255 })] ∧ 255 < 256 ∧ keyGet d.link.rxFlow (flowKey 33 1) < 256) ∧
    (let d := { manager [(EGL_PSTAT_STATE 1, portUp)] with link.ops := [anOp] }
     d.outbox = [] ∧ d.link.done = [] ∧ d.link.ops = [anOp] ∧ anOp.tag = none ∧ anOp.packet.dest ≠ d.ownXY ∧
     d.freeTag = some 0 ∧ d.routeOf anOp.packet = some (1, false) ∧ anOp.starved = false) ∧
    (let o := { anOp with tag := some 63 }; o.tag = some (63#6).toNat ∧ o.result = none ∧ o.attempt < 3 ∧ o.attempt = 0 ∧
     o.dest = (33#10).toNat ∧ o.requester = 0) ∧
    (let o := { anOp with tag := some 1, requester := 1, packet := { anOp.packet with payload := [0x170000] } }
     o.requester = 1 ∧ o.tag = some (1#6).toNat) ∧
    ((manager []).link.done = [] ∧ (manager []).link.ops = [] ∧ (manager []).outbox = []) ∧
    (let d := { manager [] with link.inbox := [(1, aPacket)], link.cache := [(cacheKey aPacket, aPacket)] }
     d.link.inbox = (1, aPacket) :: [] ∧ aPacket.cls = 1 ∧ wGet (aPacket.payload.getD 0 0) 8 2 ≠ 0 ∧
     (d.link.cache.find? fun c => c.1 == cacheKey aPacket) = some (cacheKey aPacket, aPacket)) ∧
    wGet 0#24 8 2 = 0 ∧ ((worker []).isWorker = true ∧ (worker []).asleep = false ∧ (worker []).modes.waking = false) ∧
    (let d := { manager [] with surf.rtile := [33, 33, 34, 34] }
     d.asleep = false ∧ d.isManager = true ∧ (0x1FFF#16).toNat < 0x2000 ∧ d.remoteXY .twoWire = 33 ∧ d.hasJoined 33 = true ∧
     d.hasJoined 34 = false) := by and_intros <;> decide +revert +kernel

theorem witness_LinkFramesAndOperations_remote :
    remoteOp { anOp with requester := 1, packet := { anOp.packet with payload := [word (msgRemoteRd * 65536)] } } = true ∧
    remoteOp { anOp with requester := 1, packet := { anOp.packet with payload := [word (msgRemoteWr * 65536)] } } = true := by
  decide

theorem witness_BanksAreAccessed :
    (let d := run [(MEM_OWN_OWNER 3, 2), (MEM_OWN_PEND 3, 1)]
     d.mem.repair = none ∧ d.ownsBank 3 2 = true ∧ d.ownsBank 3 9 = false ∧ d.mem.bad.contains (bankAddr 3 16383) = false ∧
     (2#4).toNat ≠ 8 ∧ 1 ≤ (11#4).toNat ∧ (11#4).toNat ≤ 11 ∧ (2#4).toNat = d.owner 3 ∧ (3#4).toNat ≠ d.owner 3 ∧
     d.flag (MEM_OWN_PEND 3) = true) ∧
    (run [(MEM_OWN_PEND 3, 0)]).flag (MEM_OWN_PEND 3) = false ∧
    (let d := run [(PWR_STAT_MODE, modeIdle), (MEM_STAT_SCRUBBANK, 14)]
     d.mode ≠ modeHibernate ∧ 5 ≤ d.pwr.step ∧ d.fld MEM_STAT_SCRUBBANK < 15 ∧
     d.mem.bad.contains (bankAddr (d.fld MEM_STAT_SCRUBBANK) (d.fld MEM_SCRUBPOS_WORD)) = false) ∧
    (let d := run [(MEM_STAT_SCRUBBANK, 15), (MEM_SCRUBPOS_WORD, 16382)]
     d.fld MEM_STAT_SCRUBBANK = 15 ∧ d.fld MEM_SCRUBPOS_WORD < 16383) ∧
    (run [(MEM_SCRUBPOS_WORD, 16383)]).fld MEM_SCRUBPOS_WORD = 16383 ∧
    (let d := run [(MEM_OWN_OWNER 15, 8)]; d.winBank .usb = 15 ∧ d.owner 15 = 8) ∧
    (let d := { run [(MEM_OWN_OWNER 15, 5)] with mem.bad := [bankAddr 15 7] }
     d.owner 15 ≠ 8 ∧ d.mem.bad.contains (bankAddr 15 7) = true) := by decide

theorem witness_WindowWritesNeedTheBank :
    (let d := run [(MEM_OWN_OWNER 15, 8)]
     d.winBank .usb = 15 ∧ d.taken 15 = false ∧ d.mem.bad.contains (bankAddr 15 16383) = false ∧ layoutOpen 15 16383 = false ∧
     d.fld (MEM_OWN_OWNER 15) = 8) ∧
    (run [(MEM_OWN_OWNER 15, 3)]).fld (MEM_OWN_OWNER 15) ≠ 8 ∧
    ({ run [] with mem.repair := some (15, 0) }).taken 15 = true := by decide

theorem witness_ColumnsAreRepaired :
    wGet 0x000000#24 16 8 ≠ 0x5A ∧ wGet 0x5A2805#24 16 8 = 0x5A ∧
    (let d := run [(PWR_STAT_MODE, modeService)]
     d.mem.repair = none ∧ d.serviceOpen = true ∧ d.freeSpare (wGet 0x5A2BBF#24 10 4) = some 0 ∧ wGet 0x5A2BBF#24 0 10 = 959 ∧
     d.replacedColumn (wGet 0x5A2BBF#24 10 4) 959 = false ∧ d.flag RAIL_STAT_FIXED = false ∧ 959 < wGet 0x5A2BC0#24 0 10 ∧
     d.repairCheck (wGet 0x5A2BC0#24 10 4) (wGet 0x5A2BC0#24 0 10) ≠ 0) ∧
    (run [(PWR_STAT_MODE, modeIdle)]).serviceOpen = false ∧
    (run [(MEM_SPARE_V0 10, 1), (MEM_SPARE_K1 10, 1)]).freeSpare 10 = none ∧
    (let d := { run [(MEM_REPSTAT_SPARE, 1)] with mem.repair := some (15, 959) }
     d.mem.repair = some (15, 959) ∧ d.mem.console = false ∧ d.mem.waiting = [] ∧ d.fld MEM_REPSTAT_SPARE = 1 ∧
     layoutOpen 15 16383 = false) ∧
    (run []).fld MEM_REPSTAT_SPARE = 0 := by decide

/-- A local gather of two words. -/
def aDescriptor : Descriptor := ⟨7, 0, [(0, 2), (1024, 1)]⟩

theorem witness_GatherMovesWords :
    (let d := run [(GDE_SCTL_NELEM 1, 1)]
     d.gde.channels.length = 8 ∧ 2 ≤ (2#3).toNat ∧ (1#3).toNat < 2 ∧ (d.chan 1).queue.length < 4 ∧
     d.chanFaulted 1 = false ∧ (d.chan 1).active = none ∧ (d.chan 1).queue = [] ∧ d.pushResult 1 ≠ 1) ∧
    (let d := (run [(GDE_SCTL_NELEM 1, 1)]).setReg (GDE_SEL 33) 4096
     d.pushResult 1 = 1 ∧ (d.chan 1).active = none ∧ (d.chan 1).queue = []) ∧
    (run [(GDE_SCTL_NELEM 0, 0)]).fld (GDE_SCTL_NELEM 0) = 0 ∧ 16 < (run [(GDE_SCTL_NELEM 1, 17)]).fld (GDE_SCTL_NELEM 1) ∧
    (let d := { run [(GDE_STAT_FAULTED, 1)] with
       gde.channels := { active := some aDescriptor, queue := List.replicate 4 aDescriptor } :: List.replicate 7 {} }
     4 ≤ (d.chan 0).queue.length ∧ d.chanFaulted 0 = true ∧ (d.chan 0).active = some aDescriptor ∧
     (d.chan 0).elem + 1 < aDescriptor.elems.length) ∧
    (let src : Word × Word := (0x000000, 0x0000F0); let dst : Word × Word := (0x000000, 0x0000E0)
     let d := { run [(PWR_STAT_MODE, modeActive)] with
       gde.channels := { active := some aDescriptor, srcEnt := some src, dstEnt := some dst } :: List.replicate 7 {} }
     d.mode ≠ modeHibernate ∧ (∀ k < 8, k ≠ 0 → (d.chan k).active = none) ∧ (d.chan 0).active = some aDescriptor ∧
     d.chanFaulted 0 = false ∧ (d.chan 0).srcEnt = some src ∧ (d.chan 0).dstEnt = some dst ∧ entRemote src = false ∧
     d.mem.repair = none ∧ aDescriptor.elems[(d.chan 0).elem]? = some (0, 2) ∧ entOwner src ≠ 6 ∧ entOwner dst ≠ 6 ∧
     entBank dst ≠ 8 ∧ (∀ i < 2, d.mem.bad.contains (bankAddr (entBank src) (entWord src i)) = false ∧
       layoutOpen (entBank src) (entWord src i) = false)) ∧
    (run [(PWR_STAT_MODE, modeHibernate)]).mode = modeHibernate ∧
    (let d := worker []
     d.isWorker = true ∧ d.flag EGL_TILE_JOINED = true ∧ wGet 0x03FFC0#24 14 4 ∉ [8, 9, 12, 13] ∧
     wGet 0x03FFC0#24 0 14 + 64 ≤ 16384 ∧ wGet 0x100040#24 20 4 = 1 ∧ wGet 0x100040#24 0 7 = 64) ∧
    (manager []).isWorker = false := by decide

theorem witness_RailsAreCommanded :
    (run []).flag RAIL_STAT_FIXED = false ∧ (run []).railActs false = false ∧ 599 < 600 ∧ wGet 0x0107D0#24 0 11 = 2000 ∧
    wGet 0x010258#24 0 11 = 600 ∧ wGet 0x010257#24 0 11 = 599 ∧
    (let d := { run [(PWR_STAT_MODE, modeActive)] with rail.on := true, rail.vtxTgt := 9000, rail.vtxRef := 9000, rail.vtx := 9000 }
     d.railActs false = true ∧ d.rail.vtxTgt ≠ 20000 ∧ d.rail.vtxCmd = none ∧ d.rail.vtxTgt = 900 * 10 ∧ d.rail.vtxRef = 900 * 10 ∧
     near2 d.rail.vtx (900 * 10) = true ∧ d.rail.vledSoft = none ∧ d.rail.vtxSoft = none ∧ d.rail.vledTgt ≠ 4800 * 10 ∧
     d.rail.vtxTgt / 10 + 200 ≤ 4800 ∧ d.rail.vtxWant / 10 + 200 ≤ 4800 ∧ d.boostFitted = true ∧ d.rail.vledTgt ≠ d.adaptiveVled) ∧
    (let d := { run [] with rail.vtxCmd := some 255, rail.vtxTgt := 9000, rail.vtxRef := 9000, rail.vtx := 9180 }
     d.rail.vtxCmd = some 255 ∧ d.rail.vtxRef = d.rail.vtxTgt ∧ near2 d.rail.vtx d.rail.vtxTgt = true) ∧
    near2 9181 9000 = false ∧ (run []).rail.on = false ∧
    (let d := { run [] with rail.vledCmd := some 3, rail.vledTgt := 8000, rail.vledRef := 8000, rail.vhv := 8160 }
     d.rail.vledCmd = some 3 ∧ d.rail.vledRef = d.rail.vledTgt ∧ d.rail.vledSoft = none ∧
     near2 d.rail.vhv d.rail.vledTgt = true) ∧
    (run []).lampDemand = none ∧
    (let d := { run [(RAIL_STAT_DEGRADED, 1)] with rail.vledSoft := some (0, 0), scan.cur := some aFrame }
     d.rail.vledSoft = some (0, 0) ∧ d.rail.vtxOff = false ∧ d.scan.cur.isSome = true ∧ d.flag RAIL_STAT_DEGRADED = true) ∧
    (run []).scan.cur = none ∧ (run []).flag RAIL_STAT_DEGRADED = false ∧
    ({ run [] with rail.vtxBack := true }).rail.vtxBack = true ∧ (run []).rail.vtxBack = false ∧
    (run [(RAIL_STAT_VLEDST, 2)]).boostRuns = true ∧
    (let d := run [(RAIL_STAT_VLEDST, 5), (RAIL_STAT_ATTEMPT, 6)]; d.fld RAIL_STAT_VLEDST = 5 ∧ d.fld RAIL_STAT_ATTEMPT < 7) ∧
    (run []).fld RAIL_STAT_VLEDST ≠ 5 ∧ wGet 0x5A0001#24 16 8 = 0x5A ∧ wGet 0x5A0001#24 0 1 = 1 ∧
    (run [(RAIL_STAT_VLEDST, 6)]).fld RAIL_STAT_VLEDST = 6 ∧ (run []).rail.overTick = none ∧
    (run [(RAIL_STAT_VTXSRC, 2)]).fld RAIL_STAT_VTXSRC = 2 ∧
    ({ run [] with rail.vtxOff := true }).rail.vtxOff = true := by decide

theorem witness_LampsAreDriven :
    (let d := run [(PWR_STAT_MODE, modeActive), (LAMP_CMDA_INDEX, 6)]
     d.lamp.sinks.length = 8 ∧ d.fld LAMP_CMDA_INDEX = 6 ∧ d.lampRuns false = true ∧ d.mode ≠ modeWatch ∧
     d.commandRefused (d.flag LAMP_CMDA_GRP) 6 = false ∧ d.commandRefused true 16 = true ∧ d.lampChecks = false ∧
     d.tapped = false ∧ d.chainRuns = false ∧ d.ndrv = 0) ∧
    (run [(PWR_STAT_MODE, modeSafe)]).lampRuns false = false ∧
    (let d := { run [] with
       cfg := [(pid secLamps 0x03 0, 1#24)], lamp.lamps := [(15, { level := 9, out := 9 })] }
     15 = 8 + (7#3).toNat ∧ d.tapped = true ∧ d.lampPresent 15 = true ∧ (d.lampAt 15).lit = true ∧ 7 ∉ d.lamp.clampNow ∧
     7 ∉ d.lamp.clampPrev ∧ d.sinkLit 7 = true ∧ d.sinkMeasured 7 = true) ∧
    (let d := { run [(RAIL_STAT_VLEDST, 3)] with lamp.clampPrev := [7] }; 7 ∈ d.lamp.clampPrev ∧ d.lampChecks = true) ∧
    (let d := { run [(PWR_STAT_MODE, modeActive)] with cfg := [(pid secLamps 0x05 0, 32#24)], lamp.checked := true }
     d.chainRuns = true ∧ d.lampChecks = false ∧ 0 < d.ndrv ∧ 7 ≤ d.pwr.step ∧ d.mode ≠ modeSafe ∧ d.mode ≠ modeHibernate ∧
     d.lamp.blanked = false ∧ d.lamp.chainFails = 0) ∧
    ({ run [] with lamp.blanked := true }).lamp.blanked = true ∧ 1 ≤ ({ run [] with lamp.chainFails := 1 }).lamp.chainFails ∧
    wGet 0#24 16 8 ≠ 0x5A ∧ wGet 0x5A8000#24 16 8 = 0x5A ∧ wGet 0x5A8000#24 0 16 = 2 ^ 15 ∧
    (let d := run [(LAMP_TRIP_TRIPPED, 0x8000)]; d.tripped 15 = true ∧ d.groupClr 15 = 0) ∧
    ({ run [] with cfg := [(pid secLamps 0x08 15, 2#24)] }).groupClr 15 ≠ 0 ∧ 24 * (21#5).toNat + 23 < 528 ∧
    (run []).lampTripped 527 = false ∧
    ({ run [(LAMP_TRIP_TRIPPED, 1)] with cfg := [(pid secLamps 0x07 3, 0x10#24)] }).lampTripped 3 = true ∧
    (let d := { run [] with lamp.lamps := [(6, { level := 9, out := 9 })], lamp.sinks := List.replicate 8 { head := 59 } }
     d.sinkLit 6 = true ∧ (d.sink 6).starved = false ∧ (d.sink 6).head < 60 ∧ (d.sink 6).reported = false) ∧
    (let d := { run [] with lamp.sinks := List.replicate 8 { reported := true } }; (d.sink 7).reported = true) := by decide

/-- A pulse-distance template of two bits: unit 500 µs, leader of 16 and 8 units, repeat space of 4, bits of 1 and 3. -/
def distanceTpl : List Word := [0x005021, 500, 0x040810, 0x000031]
/-- A biphase template of one bit: unit 500 µs, BPPOL 1. -/
def biphaseTpl : List Word := [0x00501B, 500, 0, 0]
def us (l : List Nat) : List (Nat × Bool) := l.map fun n => (n, false)

theorem witness_InfraredWorks :
    (let d := run [(PWR_STAT_MODE, modeHibernate), (PWR_WAKEEN_EN, 2)]
     d.mode = modeHibernate ∧ d.irRecords true true = true ∧ d.irRecords true false = false ∧ d.rxOn = false) ∧
    (let d := { run [(PWR_STAT_MODE, modeIdle)] with ir.ready := true, ir.tpl := distanceTpl }
     d.rxOn = true ∧ d.flag IRX_STAT_STUCK = false ∧ d.ir.tx = none ∧ d.irDeaf = false ∧ d.ir.loop = false ∧
     d.irIsMark true = true ∧ d.irIsMark false = false ∧ d.ir.frame = none ∧ d.ir.ready = true ∧ d.ir.held = none ∧
     judgeAll d.ir.tpl (us [500]) false = none ∧
     judgeAll d.ir.tpl (us [8000, 4000, 500, 500, 500, 1500] ++ [(500, false)]) false = some (0, some 2) ∧
     judgeAll d.ir.tpl (us [8000, 2000] ++ [(500, false)]) false = some (0, none) ∧
     (tplAt d.ir.tpl 0).toggleEn = false ∧ (d.vkeyOf 0 2).2 = false ∧ 2 < 2 ^ 48) ∧
    (let d := { run [(PWR_STAT_MODE, modeIdle)] with ir.frame := some (us [8000, 4000, 500, 500]), ir.tpl := biphaseTpl }
     d.ir.frame = some (us [8000, 4000, 500, 500]) ∧ 4 ≤ (us [8000, 4000, 500, 500]).length ∧ (us [1, 2, 3]).length < 4 ∧
     judgeAll d.ir.tpl (us [8000, 4000, 500, 500]) true = none ∧ judgeAll d.ir.tpl (us [500]) true = some (0, some 1)) ∧
    (run [(IRX_STAT_STUCK, 1)]).flag IRX_STAT_STUCK = true ∧
    ({ run [] with ir.held := some ⟨3, 5, 0, 255, 300⟩ }).ir.held = some ⟨3, 5, 0, 255, 300⟩ ∧
    wGet 0x071000#24 12 2 = 1 ∧ wGet 0x070000#24 12 2 = 0 ∧ wGet 0x0731FF#24 12 2 = 3 ∧ wGet 0x0731FF#24 0 9 = 511 ∧
    (run [(PWR_STAT_MODE, modeSafe)]).txAllowed false = false ∧
    (let d := { run [(PWR_STAT_MODE, modeActive)] with ir.pattern := [(0, 0x000010#24), (1, 0x400000#24)] }
     d.ir.tx = none ∧ d.txAllowed false = true ∧ wGet (d.pattern 0) 0 16 ≠ 0 ∧ wGet (d.pattern 1) 0 16 = 0 ∧
     wGet (d.pattern 1) 22 1 = 1 ∧ wGet (d.pattern 0) 22 1 = 0) ∧
    (let x : Transmission := ⟨7, 1, 0, 511, 0, 511, false, 0⟩; let d := { run [] with ir.tx := some x }
     d.ir.tx = some x ∧ d.ir.tx ≠ none ∧ d.ir.loop = false ∧ x.mode ≠ 3 ∧ x.left = 0 ∧ x.count < 512) ∧
    (run [(ITX_PADDR_ADDR, 511)]).fld ITX_PADDR_ADDR = 511 := by decide

theorem witness_ConverterWorks :
    (let d := run [(PWR_STAT_MODE, modeIdle)]
     d.hka.chans.length = 16 ∧ d.hka.snaps.length = 4 ∧ d.hka.zero.length = 4 ∧ d.planConverter = some false ∧
     d.planNext = some 4 ∧ d.hkaOn = true ∧ d.hkaSkips 4 (planRef 4 (d.planWord 4)) = false ∧ d.conv false = none ∧
     d.conv true = none ∧ d.hka.ilv = none ∧ d.hka.step = none ∧ d.refinEnabled = false ∧ d.nvmBarred = false) ∧
    (run [(PWR_STAT_MODE, modeHibernate)]).hkaOn = false ∧
    (let d := { run [(PWR_STAT_MODE, modeIdle)] with cfg := [(pid secHka 0x01 4, 0#24), (pid secHka 0x01 13, 0x00A440#24)]
                                                     hka.chans := List.replicate 13 ({ due := 1 } : HkaChan) ++ List.replicate 3 ({} : HkaChan) }
     d.planNext = some 13 ∧ d.hkaSkips 13 (planRef 13 (d.planWord 13)) = true) ∧
    (let k : HkaConv := ⟨15, false, 0, 0, false, false⟩; let d := { run [] with hka.convA := some k, cfg := [(pid secHka 0x02 63, 0#24)] }
     d.conv false = some k ∧ k.waiting = false ∧ k.host = false ∧ 4 ≤ k.ch ∧ k.ch < 16 ∧ k.ch ≠ 9 ∧ k.ch ≠ 10 ∧
     wGet (d.cfgWord secHka 0x02 (4 * k.ch + 3)) 23 1 = 0 ∧ d.hka.ilv = none) ∧
    (let d := { run [] with cfg := [(pid secHka 0x02 (4 * 15 + 3), 0x800001#24)] }
     wGet (d.cfgWord secHka 0x02 (4 * 15 + 3)) 23 1 = 1 ∧ wGet (d.cfgWord secHka 0x02 (4 * 15 + 3)) 0 5 ≤ 1 ∧
     d.fld (HKA_BCFG_STATE 15) ≠ bandAbove) ∧
    wGet 0x00001F#24 0 4 = 15 ∧ wGet 0x00001F#24 4 1 = 1 ∧ wGet 0x5A0003#24 0 2 = 3 ∧ wGet 0x5A0002#24 16 8 = 0x5A ∧
    (run []).fld HKA_HOST_CLAIM = 0 ∧ (run [(HKA_HOST_CLAIM, 1)]).fld HKA_HOST_CLAIM ≠ 0 ∧
    (run []).fld HKA_STAT_GRANT = 0 ∧
    (let d := run [(PWR_STAT_MODE, modeIdle), (HKA_STAT_GRANT, 1)]
     d.fld HKA_STAT_GRANT = 1 ∧ d.hka.convA = none ∧ d.hkaOn = true ∧ d.hkaSkips 3 0 = false ∧ wGet 0x008003#24 15 1 = 1 ∧
     wGet 0x000003#24 15 1 = 0 ∧ d.hka.convB = none) ∧
    (let d := { run [(HKA_STAT_REFIN_FAULT, 1)] with hka.hostRef := true }
     d.refinEnabled = true ∧ d.flag HKA_STAT_REFIN_FAULT = true ∧ d.hka.good = 0) ∧
    ({ run [] with hka.good := 1 }).hka.good ≠ 0 ∧ (run []).flag HKA_STAT_REFIN_FAULT = false ∧
    wGet 0x001C00#24 12 1 = 1 ∧ wGet 0x001C00#24 10 2 = 3 ∧ (run []).flag HKA_TDAC_EN = false ∧
    wGet 0x5A0030#24 16 8 = 0x5A ∧ wGet 0x5A0030#24 4 2 = 3 ∧
    (let d := { run [(HKA_SCFULL_FULL, 1048576)] with hka.zero := [some 5, none, none, none], hka.full := [some 1048581, none, none, none] }
     d.hka.zero.getD 0 none = some 5 ∧ d.hka.zero.getD 1 none = none ∧ d.hka.full.getD 0 none = some 1048581 ∧
     d.nvmBarred = false ∧ d.fld HKA_SCFULL_FULL = 1048576 ∧ (0 : Int) < 1048581 - 5 ∧
     ((1048581 : Int) - 5) * 8 ≤ (1048576 : Nat) * 10 ∧ ((1048576 : Nat) : Int) * 4 ≤ (1048581 - 5) * 5 ∧
     (5 : Int).natAbs * 10 ≤ (if planRef 0 (d.planWord 0) = 0 then 1250000 else 0) ∧
     1048576 * 4194304 % ((1048581 : Int) - 5).toNat = 0) ∧
    (run [(SYS_SUPPLY_VDD_WARN, 1)]).nvmBarred = true ∧
    (let d := { run [] with hka.step := some (3, 1) }; d.hka.step = some (3, 1) ∧ d.hka.stepConsole = false) := by and_intros <;> decide +revert +kernel

theorem witness_SnapshotsCopyAndClear : (run []).hka.chans.length = 16 ∧ (run []).hka.snaps.length = 4 ∧
    wGet 0x00001F#24 0 4 = 15 ∧ wGet 0x00001F#24 4 1 = 1 ∧ Requester.usb ≠ .console ∧ wGet 0x00000F#24 4 1 ≠ 1 := by decide

/-- A fault-log record. -/
def aLog : LogRec := ⟨1, 0, 7, 0, 0, 0, 0⟩

theorem witness_CalibrationAndLog :
    wGet 0x5A0001#24 16 8 = 0x5A ∧ wGet 0x5A0001#24 0 2 = 1 ∧ wGet 0x5A0002#24 0 2 ≠ 1 ∧
    (let d := run [(PWR_STAT_MODE, modeIdle), (CAL_STAT_STATE, calIdle)]; d.fld CAL_STAT_STATE = calIdle ∧ d.fullNow = false) ∧
    (let d := run [(PWR_STAT_MODE, modeService), (CAL_STAT_STATE, calIdle)]; d.fld CAL_STAT_STATE = calIdle ∧ d.fullNow = true) ∧
    (let d := run [(PWR_STAT_MODE, modeIdle), (CAL_STAT_STATE, calDue)]
     d.fld CAL_STAT_STATE = calDue ∧ d.sliceOk = true ∧ d.isWorker = false ∧ d.onSurface = false) ∧
    (let d := { run [(PWR_STAT_MODE, modeActive), (CAL_STAT_STATE, calSliced)] with cal.items := [66, 67], cal.rcLeft := true, cal.refLeft := true }
     d.fld CAL_STAT_STATE ∈ [calSliced, calFull, calStarved] ∧ d.runBegun = true ∧ d.sliceOk = true ∧
     d.fld CAL_STAT_STATE ≠ calDue ∧ d.cal.items = 66 :: [67] ∧ [67] ≠ [] ∧ d.mode ∉ [modeWatch, modeSafe, modeHibernate] ∧
     d.cal.rcLeft = true ∧ d.cal.refLeft = true) ∧
    (run [(PWR_STAT_MODE, modeWatch)]).sliceOk = false ∧ (run []).cal.rcLeft = false ∧ (run []).cal.refLeft = false ∧
    (let d := { run [(PWR_STAT_MODE, modeSafe)] with cal.nextSeq := 16777215 }
     d.mode ∈ [modeIdle, modeActive, modeService, modeSafe] ∧ d.hka.chans.length = 16 ∧ d.cal.nextSeq < 16777216) ∧
    ({ run [] with cfg := [(pid secCal 0x05 0, 0#24)] }).par secCal 0x05 = 0 ∧
    ({ run [] with cfg := [(pid secCal 0x05 0, 1#24)] }).par secCal 0x05 ≠ 0 ∧
    (let d := { run [] with cfg := (List.range 16).map fun c => (pid secHka 0x01 c, 0#24) }
     ∀ c < 16, planInterval (d.planWord c) = 0) ∧
    ((run []).settingsTurn = false ∧ (run []).logQ = [] ∧ (run []).logBarred = true) ∧
    (let d := { run [(CAL_LOGSTAT_MOUNTED, 1), (CAL_LOGSTAT_SLOT, 9), (CAL_LOGSTAT_HEAD, 1)] with logQ := [aLog] }
     d.settingsTurn = false ∧ d.logQ = aLog :: [] ∧ d.logBarred = false ∧ d.cal.lost = 0 ∧ d.fld CAL_LOGSTAT_SLOT < 10 ∧
     d.flag CAL_LOGSTAT_MOUNTED = true) ∧
    (let d := { run [(CAL_LOGSTAT_SLOT, 10), (CAL_LOGSTAT_HEAD, 511)] with cal.pages := 512 }
     10 ≤ d.fld CAL_LOGSTAT_SLOT ∧
     nextPage d.cal.pages d.cal.retired d.cal.pages (d.fld CAL_LOGSTAT_HEAD) = some (1, true)) ∧
    7 < (run []).pwr.step ∧ (run []).flag CAL_LOGSTAT_MOUNTED = false := by decide

theorem witness_ConsoleAndServiceWork :
    (run [(SVC_STAT_LOCKOUT, 1)]).flag SVC_STAT_LOCKOUT = true ∧ (run []).flag SVC_STAT_LOCKOUT = false ∧
    (5#24) ≠ 0 ∧ (run []).codeBarred = false ∧ (5#24).toNat ≠ (run []).svcCode ∧
    (let d := { run [] with cfg := [(pid secSystem 0x02 0, 5#24)] }; (5#24).toNat = d.svcCode) ∧
    (run []).fld SVC_STAT_FAILS < 2 ∧ 2 ≤ (run [(SVC_STAT_FAILS, 2)]).fld SVC_STAT_FAILS ∧
    (run [(PWR_STAT_MODE, modeIdle)]).serviceOpen = false ∧ argOk 9 9 = false ∧ argOk 9 8 = true ∧
    (let d := run [(PWR_STAT_MODE, modeService), (SVC_STAT_ENTRY, 2)]
     d.serviceOpen = true ∧ d.fullSet = true ∧ d.running = false ∧ d.staticOf 159 ≠ 4 ∧ argOk 7 159 = true ∧
     argOk 11 255 = true ∧ d.flag SCAN_STAT_RUN = false ∧ d.aloneNow = true ∧ d.pwr.held = none ∧ d.sameCycle = none) ∧
    (run [(SCAN_STAT_RUN, 1)]).flag SCAN_STAT_RUN = true ∧
    wGet 0x009F04#24 8 8 = 159 ∧ wGet 0x009F04#24 0 3 = 4 ∧ wGet 0x00FF02#24 8 8 = 255 ∧ Dev.reset.pwr.step ≠ 8 ∧
    (let d := run [(PWR_STAT_MODE, modeIdle)]
     d.pwr.step = 8 ∧ d.asleep = false ∧ d.modes.waking = false ∧ d.mode ≠ modeWatch ∧ d.con.line.length < 80 ∧
     (0x41#8) ∉ [0x0D#8, 0x0A, 0x08, 0x7F, 0x03] ∧ d.con.judged = .blank) ∧
    (let d := { run [] with con.line := List.replicate 80 0x41 }; 80 ≤ d.con.line.length ∧ d.con.line ≠ []) ∧
    (let d := { run [] with con.line := [0x3F] }; d.con.judged = .err 3) ∧
    ({ run [] with con.framed := true }).con.judged = .err 1 ∧ ({ run [] with con.request := 1 }).running = true ∧
    ((4#3).toNat ∈ [1, 3, 4] ∧ (5#3).toNat ∉ [1, 2, 3, 4]) ∧
    ((run []).con.rd = none ∧ (run []).con.todo = [] ∧ (run []).con.logWait = none ∧ (run []).con.evmon = false) ∧
    ({ run [] with con.evmon := true }).con.evmon = true ∧ ({ run [] with con.rd := some (1, 2) }).con.rd ≠ none ∧
    ({ run [] with con.todo := [.ok] }).con.todo ≠ [] ∧ ({ run [] with con.logWait := some [] }).con.logWait ≠ none ∧
    ((run [(PWR_STAT_MODE, modeWatch)]).mode = modeWatch ∧ (run [(SYS_CLK_FOSC_ON, 0)]).flag SYS_CLK_FOSC_ON = false) ∧
    (run []).con.request = 0 ∧ ({ run [] with con.request := 2 }).con.request ≠ 0 ∧
    (let d := { run [(SYS_STRAP_ROLE, 0)] with con.waitJoin := true }
     d.con.waitJoin = true ∧ d.flag EGL_TILE_JOINED = false ∧ d.fullSet = false) ∧ (run []).con.waitJoin = false ∧
    ({ run [] with con.lastReject := some 0, ticks := 32767 }).codeBarred = true ∧
    ({ run [] with con.lastReject := some 0, ticks := 32768 }).codeBarred = false ∧
    (let d := run [(PWR_STAT_MODE, modeSafe), (SVC_STAT_ENTRY, 2)]; d.mode = modeSafe ∧ d.fullSet = true) ∧
    (let d := run [(PWR_STAT_MODE, modeIdle)]
     d.mode ≠ modeSafe ∧ d.mode ≠ modeService ∧ d.isWorker = false ∧ (d.isManager && d.onSurface) = false) ∧
    (let d := run [(SYS_STRAP_ROLE, 0), (PWR_STAT_MODE, modeService), (SVC_STAT_ENTRY, 2)]
     d.isWorker = true ∧ d.flag EGL_TILE_JOINED = false ∧ d.mode = modeService ∧ d.fullSet = true) := by and_intros <;> decide +revert +kernel

theorem witness_ConsolePrints :
    (run []).running = false ∧ (run []).con.dropped = 0 ∧ (run []).con.level + (OutLine.listing (helpList false)).bytes + 9 ≤ 2048 ∧
    statRange 0 = some (0x0600, 0x061F) ∧ statRange 13 = some (0x0320, 0x0364) ∧ (511#10).toNat ≤ 511 ∧
    pidKnown (BitVec.ofNat 24 (pid secModes 0x02 0)).toNat = true ∧ (run []).lampPresent 6 = true ∧ (15#8).toNat ≤ 15 ∧
    (let d := { run [] with cfg := aSensor }
     d.elRole 0 = 1 ∧ (0#8).toNat < d.ntx ∧ (0#8).toNat < d.nrx ∧ d.scan.iq = false) ∧
    (64#8).toNat ≤ 64 ∧ (262080#24).toNat + 64 ≤ 262144 ∧ (run []).boot.nvpOp = 0 := by decide

theorem witness_ConsoleCommandsRun :
    (run []).running = false ∧ (run []).fullSet = false ∧ (run []).goesRemote .console SYS_PARTID = false ∧
    (0#16).toNat = 0 ∧ 32 < (33#16).toNat ∧ 1 ≤ (64#24).toNat ∧ (64#24).toNat ≤ 64 ∧
    ({ run [] with boot.nvpOp := 1 }).boot.nvpOp ≠ 0 ∧ (run []).boot.nvpOp = 0 ∧ (100#8).toNat ≤ 100 ∧ (run []).link.ping = none ∧
    (let d := run [(CAL_STAT_STATE, calIdle)]; d.fld CAL_STAT_STATE = calIdle ∧ d.fullNow = false) ∧
    (let d := { run [(SVC_STAT_ENTRY, 2), (PWR_STAT_MODE, modeService)] with cfg := aSensor, link.gate := true }
     d.fullSet = true ∧ d.asleep = false ∧ 256 ≤ (319#10).toNat ∧ (319#10).toNat ≤ 319 ∧ (7#8).toNat < 8 ∧ (15#8).toNat < 16 ∧
     d.link.gate = true ∧ (3#8).toNat ≤ 3 ∧ d.staticBlock = false ∧ d.scan.tone = none ∧ d.hasSensor = true ∧
     d.mode = modeService ∧ d.flag SCAN_STAT_RUN = false ∧ (159#8).toNat < 160 ∧ d.flag TRK_CAP_STAT_BUSY = false) ∧
    (33#10) ≠ 0 ∧ (manager []).isManager = true ∧ ({ run [] with scan.tone := some (1, 2) }).scan.tone = some (1, 2) ∧
    ({ run [] with scan.consoleRun := true }).scan.consoleRun = true := by decide

theorem witness_ConsoleDevicesRun :
    (run []).hka.chans.length = 16 ∧ (run []).running = false ∧ (run []).fullSet = false ∧ (run []).groupClr 15 ≤ 1 ∧
    (run []).tripped 15 = false ∧ (run [(LAMP_TRIP_TRIPPED, 0x8000)]).tripped 15 = true ∧
    (let d := { run [(SVC_STAT_ENTRY, 2), (PWR_STAT_MODE, modeService)] with
       rail.on := true, rail.vtxTgt := 9000, ir.pattern := [(511, 0x000010#24)]
       hka.zero := [none, none, none, some 5], hka.full := [none, none, none, some 1048581] }
     d.fullSet = true ∧ d.lampRuns true = true ∧ d.mode ≠ modeWatch ∧ d.commandRefused false 6 = false ∧ d.railActs true = true ∧
     d.flag RAIL_STAT_FIXED = false ∧ 600 ≤ (600#13).toNat ∧ (2000#13).toNat ≤ 2000 ∧ d.rail.vtxTgt ≠ 600 * 10 ∧
     d.rail.vtxTgt ≠ 2000 * 10 ∧ d.boostFitted = true ∧ d.rail.vledSoft = none ∧ d.rail.vtxTgt / 10 + 200 ≤ (4800#13).toNat ∧
     d.rail.vledTgt ≠ 4800 * 10 ∧ d.rail.vledTgt ≠ d.adaptiveVled ∧ d.mem.repair = none ∧ d.repairCheck 15 959 = 0 ∧
     d.repairCheck 15 960 ≠ 0 ∧ (d.chan 1).active = none ∧ d.testBad 2 = [] ∧ d.ir.tx = none ∧ d.txAllowed true = true ∧
     wGet (d.pattern 511) 0 16 ≠ 0 ∧ 15 ∉ [9, 10, 13] ∧ d.fld HKA_HOST_CLAIM = 0 ∧ d.conv true = none ∧
     d.hka.step = none ∧ d.hka.zero.getD 3 none = some 5 ∧ d.hka.zero.getD 2 none = none ∧
     d.hka.full.getD 3 none = some 1048581 ∧ d.nvmBarred = false) ∧
    (let d := { run [] with cfg := [(pid secHka 0x02 63, 0#24)] }; wGet (d.cfgWord secHka 0x02 (4 * 15 + 3)) 23 1 = 0) ∧
    (run [(RAIL_STAT_VLEDST, 6)]).fld RAIL_STAT_VLEDST = 6 := by decide

theorem witness_ModesAndFramesComplete :
    (let d := run [(PWR_STAT_MODE, modeIdle)]
     d.pwrCmdIgnored = false ∧ (2#3).toNat ≤ 2 ∧ (2#3).toNat ≠ d.mode ∧ d.modeHeld = false ∧ d.onSurface = false ∧
     d.autoAllowed = true ∧ d.noContact = true ∧ d.hkaOn = true ∧ d.framesRun = true ∧ d.scan.cur = none ∧
     d.pwr.coreRestart = false ∧ 4 ≤ d.pwr.step ∧ d.pwr.held = none) ∧
    (run [(PWR_STAT_MODE, modeActive)]).mode = modeActive ∧
    ({ run [] with cfg := [(pid secModes 0x02 0, 1#24)] }).par secModes 0x02 = 1 ∧
    (let d := worker []
     d.isWorker = true ∧ d.mode ≠ modeSafe ∧ d.mode ≠ modeStart ∧ d.pwr.step = 8 ∧ d.flag EGL_TILE_JOINED = true) ∧
    (let d := { manager [] with boot.image := [1], surf.imgServing := List.range 16 }
     d.isManager = true ∧ (d.tile 33).state ≠ tileLost ∧ d.boot.image ≠ [] ∧ (33#10).toNat ∉ d.surf.imgServing ∧
     33 ∉ d.surf.imgWaiting ∧ 16 ≤ d.surf.imgServing.length ∧ d.surf.imgWaiting = []) ∧
    (let d := { run [] with modes.hostwake := true, cfg := [(pid secModes 0x0A 0, 5#24)] }
     d.modes.hostwake = true ∧ d.levelMode = false) ∧
    (let d := { run [] with modes.hostwake := true, cfg := [(pid secModes 0x0A 0, 0#24)] }; d.levelMode = true) ∧
    (let d := { run [(SYS_RSTCAUSE_WDRECENT, 2)] with pwr.coreRestart := true }
     d.pwr.coreRestart = true ∧ d.fld SYS_RSTCAUSE_WDRECENT < 3 ∧ d.ir.held = none) ∧
    (let d := { run [(CAL_STAT_STATE, calFull)] with pwr.step := 6 }; d.pwr.step = 6 ∧ d.fullRuns = true) ∧
    (let d := { run [(PWR_STAT_MODE, modeHibernate)] with modes.hibStep := 2 }
     d.mode = modeHibernate ∧ d.modes.hibStep = 2 ∧ d.acksAwaited = false) ∧
    (let d := { run [(PWR_STAT_MODE, modeWatch), (PWR_WAKEEN_EN, 1)] with cfg := aSensor }
     d.mode = modeWatch ∧ (1#7).toNat &&& d.fld PWR_WAKEEN_EN ≠ 0 ∧ d.hasSensor = true ∧ d.bankFree d.time.frame = true) ∧
    (let d := { run [] with modes.waking := true, pwr.step := 3 }; d.modes.waking = true ∧ d.pwr.step = 3 ∧ d.pwr.held = none) ∧
    ({ run [] with scan.cur := some aFrame }).scan.cur = some aFrame ∧
    (let d := { run [] with trk.queue := [aFrame], rpt.heldTap := some (1, 2, 3, 4, false) }
     d.trk.queue = aFrame :: [] ∧ (∀ g ∈ d.trk.queue, g.scrap = false) ∧ d.rpt.heldTap = some (1, 2, 3, 4, false)) ∧
    (let d := run [(MEM_OWN_OWNER 15, 8)]; let e := d.storeReg TRK_CAP_CTRL (0x000004#24 ||| 1)
     d.flag TRK_CAP_STAT_BUSY = false ∧ d.owner 15 = 8 ∧ (e.fld TRK_CAP_CTRL_PLANES).testBit 4 = false ∧
     d.fld TRK_CAP_DST_WORD + e.capLength (e.fld TRK_CAP_CTRL_PLANES) ≤ 16384) ∧
    (let d := run [(TRK_CAP_STAT_BUSY, 1)]; d.flag TRK_CAP_STAT_BUSY = true ∧ wGet 2#24 0 1 = 0 ∧ d.rpt.copying = none) ∧
    (let d := { run [] with rpt.copying := some 9, rpt.copied := true }
     d.rpt.copying = some 9 ∧ d.rpt.copied = true ∧ (d.chan 2).active = none) := by and_intros <;> decide +revert +kernel

theorem witness_UsbCommandsComplete :
    (let d := run [(USB_STAT_STATE, usbDefault), (SYS_CLK_SRC32, 1)]
     d.usbAnswers = true ∧ d.usbState ≠ usbConfigured ∧ d.usbState ≠ 0 ∧ d.flag USB_STAT_SUSP = false ∧
     usbDefault ≤ d.usbState) ∧
    (let d := { run [(USB_STAT_STATE, usbConfigured), (SYS_CLK_SRC32, 1)] with usb.lastInput := some [1], usb.reports := [[1]] }
     d.usbAnswers = true ∧ d.haltOf 0x81 = some false ∧ (0x81#16) ≠ 0 ∧ (0x81#16) ≠ 0x80 ∧ d.usbState = usbConfigured ∧
     (1#16).toNat < (if d.hasHid then 2 else 1) ∧ d.hasHid = true ∧ d.usb.lastInput = some [1] ∧ d.hidOn = true ∧
     d.usb.halt1 = false ∧ d.usb.reports = [1] :: [] ∧ d.ep2Ready = true ∧ d.asleep = false ∧ d.modes.waking = false ∧
     1 ≤ (1#8).toNat ∧ (64#8).toNat ≤ 64 ∧ regDefined 0x1FFF = false ∧ 3 < (4#8).toNat) ∧
    (run []).usbStringOf 0 = some (bytesOf [4, 3, 9, 4]) ∧ wGet 0x5A0001#24 16 8 = 0x5A ∧ wGet 0x5A0001#24 0 1 = 1 ∧
    3 ≤ ({ run [] with usb.sofCount := 3 }).usb.sofCount ∧ (run [(USB_STAT_SUSP, 1)]).flag USB_STAT_SUSP = true ∧
    ({ run [] with usb.wake := 1 }).usb.wake = 1 ∧ ({ run [] with usb.wake := 2 }).usb.wake = 2 ∧
    (let d := { run [] with usb.response := some [1] }
     d.usb.response = some [1] ∧ d.pwr.swReset ≠ some .usb ∧ d.usb.detachAtAck = none) := by decide

theorem witness_CommitsAndTilesComplete :
    (let d := run [(PWR_STAT_MODE, modeIdle)]
     d.isWorker = false ∧ d.fld CFG_STAT_PHASE = 0 ∧ d.mode = modeIdle ∧ d.com.checkOnly = false) ∧
    (run [(CFG_STAT_PHASE, 1)]).fld CFG_STAT_PHASE = 1 ∧ ({ run [] with com.cold := true }).com.cold = true ∧
    (let d := { worker [] with com.armed := true, com.epoch := 7 }
     d.isWorker = true ∧ d.flag EGL_TILE_JOINED = true ∧ wGet 0x000002#24 8 8 = 0 ∧ 1 < wGet 0x000002#24 0 8 ∧
     d.com.armed = true ∧ d.com.epoch = (7#24).toNat ∧ d.pwr.held = none) ∧
    (let d := { manager [(CFG_STAT_PHASE, 2)] with com.epoch := 7, com.readyDue := [33], com.ackDue := [33] }
     d.isManager = true ∧ (d.tile 33).state ≠ tileLost ∧ d.com.epoch = (7#24).toNat ∧ d.fld CFG_STAT_PHASE = 2 ∧
     (33#10).toNat ∈ d.com.readyDue ∧ (33#10).toNat ∈ d.com.ackDue ∧ d.fld CFG_STAT_PHASE < 4) ∧
    (manager [(CFG_STAT_PHASE, 4)]).fld CFG_STAT_PHASE = 4 ∧
    (let d := { worker [(EGL_TILE_JOINED, 0)] with surf.known := false, surf.deltaDue := 2 }
     d.isWorker = true ∧ d.surf.known = false ∧ d.pwr.step = 8 ∧ d.mode ≠ modeSafe ∧ d.flag EGL_TILE_JOINED = false ∧
     (0#24).toNat = d.surf.deltaBuf.length ∧ d.surf.deltaBuf.length + [0#24, 1, 2].length / 2 < d.surf.deltaDue ∧
     d.surf.strips = []) ∧
    ({ worker [] with trk.queue := [aFrame] }).stripFrame = some 5 ∧ ({ manager [] with surf.frame := some 5 }).surf.frame = some 5 ∧
    (let d := manager [(CFG_STAT_PHASE, 2)]
     d.joinsWait = true ∧ d.pwr.step = 8 ∧ d.mode ≠ modeSafe ∧ d.mode = modeIdle ∧ (d.tile 1).state ≠ tileLost ∧
     (d.tile 33).state = tileJoined ∧ wGet 0x008000#24 19 5 = 0 ∧ 2 ≤ wGet 0x008000#24 14 5 ∧ wGet 0x008000#24 15 9 ≠ 188 ∧
     33 ≠ d.ownXY ∧ wGet 0xA50022#24 16 8 = 0xA5 ∧ wGet 0xA50022#24 0 10 ≠ 0 ∧ (d.tile 34).state ≠ tileJoined) := by decide

theorem witness_LinkCommandsComplete :
    (let d := ported (run [(EGL_PSTAT_STATE 0, portDetect), (PWR_STAT_MODE, modeActive)]) { train := 1 }
     d.link.ports.length = 4 ∧ d.fld (EGL_PSTAT_STATE 0) = portDetect ∧ d.mode ≠ modeWatch ∧ (d.port 0).train = 1) ∧
    ((ported (run []) { train := 0 }).port 0).train = 0 ∧
    (let d := ported (run [(EGL_PSTAT_STATE 0, portTraining)]) { train := 2 }
     d.fld (EGL_PSTAT_STATE 0) = portTraining ∧ (d.port 0).train = 2) ∧
    ((ported (run []) { train := 3 }).port 0).train = 3 ∧ wGet 0x118021#24 20 4 = 1 ∧ wGet 0x118021#24 16 4 = 1 ∧
    1 < ((ported (run []) { trips := 2 }).port 0).trips ∧ wGet 0x200005#24 20 4 = 2 ∧
    (let d := ported (run [(EGL_PSTAT_STATE 0, portUp)]) { window := [(3, aPacket)], queue := [(4, aPacket)], rounds := 15 }
     d.isUp 0 = true ∧ d.link.gate = false ∧ ((0#4).toNat + 16 - (d.port 0).rxSeq) % 16 = 0 ∧ d.link.reorder = [] ∧
     d.inHeld 0 < 16 ∧ ((d.port 0).window.any fun f => f.1 == (0x23#8).toNat % 16) = true ∧ (d.port 0).rounds < 16 ∧
     (d.port 0).window ≠ [] ∧ (d.port 0).queue = (4, aPacket) :: [] ∧ d.fld (EGL_PSTAT_STATE 0) ≠ portDisabled) ∧
    wGet 0x5A0010#24 16 8 = 0x5A ∧ wGet 0x5A0010#24 0 4 = 0 ∧ (wGet 0x5A0010#24 4 4).testBit 0 = true ∧
    (wGet 0x5A0001#24 0 4).testBit 0 = true ∧ ((run []).fld EGL_PCTL_DISABLE).testBit 0 = false ∧
    (let d := worker [(EGL_PSTAT_STATE 0, portUp)]
     d.link.gate = false ∧ d.isManager = false ∧ wGet 0x003E00#24 8 6 ≤ 62 ∧ d.link.beacon = none ∧ d.isUp 0 = true) ∧
    (let d := worker [(PWR_STAT_MODE, modeWatch)]
     d.mode = modeWatch ∧ d.modes.wokenInWatch = false ∧ d.isWorker = true ∧ d.fld PWR_WAKEEN_EN = 0) ∧
    ({ run [] with link.hold := [(0, aPacket)] }).link.hold = (0, aPacket) :: [] ∧
    (let d := { manager [(EGL_PSTAT_STATE 1, portUp)] with link.ops := [anOp] }
     d.link.done = [] ∧ d.link.ops = [anOp] ∧ d.outbox = [] ∧ anOp.tag = none ∧ anOp.packet.dest ≠ d.ownXY ∧
     d.freeTag = some 0 ∧ d.routeOf anOp.packet = some (1, false) ∧ anOp.starved = false) ∧
    (let o := { anOp with tag := some 63 }
     o.tag = some (63#6).toNat ∧ o.result = none ∧ o.attempt < 3 ∧ o.dest = (33#10).toNat ∧ o.requester = 0) ∧
    remoteOp { anOp with requester := 1, packet := { anOp.packet with payload := [word (msgRemoteRd * 65536)] } } = true ∧
    (let p := { aPacket with type := 6, payload := [5] }
     ({ run [] with link.inbox := [(1, p)] }).link.inbox = (1, p) :: [] ∧ p.cls = 1 ∧ p.type = 6 ∧
     wGet (p.payload.getD 0 0) 8 2 = 0) ∧
    ({ run [] with link.cache := [(1, aPacket)] }).link.cache = (1, aPacket) :: [] ∧ (worker []).isWorker = true ∧
    (let d := { manager [] with surf.rtile := [33, 33, 33, 33] }
     d.asleep = false ∧ d.isManager = true ∧ (0x1FFF#16).toNat < 0x2000 ∧ d.remoteXY .usb ≠ 0 ∧
     d.hasJoined (d.remoteXY .usb) = true) ∧
    (let r : Nat × Nat × Bool × Packet := (2, 5, true, aPacket)
     ({ run [] with link.reorder := [r] }).link.reorder = [r] ∧ r.1 = (2#3).toNat ∧ r.1 % 2 = 0) := by and_intros <;> decide +revert +kernel

theorem witness_BanksGatherAndRailsComplete :
    (let d := run [(MEM_OWN_OWNER 3, 2), (MEM_OWN_PEND 3, 1), (PWR_STAT_MODE, modeService)]
     d.mem.repair = none ∧ d.ownsBank 3 2 = true ∧ (2#4).toNat ≠ 8 ∧ (5#4).toNat ≠ d.owner 3 ∧ d.flag (MEM_OWN_PEND 3) = true ∧
     d.mode ≠ modeHibernate ∧ 5 ≤ d.pwr.step ∧ d.mem.bad = [] ∧ wGet 0x5A2805#24 16 8 = 0x5A ∧
     d.repairCheck (wGet 0x5A2805#24 10 4) (wGet 0x5A2805#24 0 10) = 0) ∧
    (let d := run [(MEM_OWN_OWNER 15, 8)]
     d.winBank .console = 15 ∧ d.mem.bad.contains (bankAddr 15 0) = false ∧ d.owner 15 = 8) ∧
    (let d := { run [] with mem.repair := some (0, 0) }
     d.mem.repair ≠ none ∧ d.mem.console = false ∧ d.mem.waiting = []) ∧
    (let d := (run [(GDE_SCTL_NELEM 1, 1)]).setReg (GDE_SEL 33) 1; d.gde.channels.length = 8 ∧ d.pushResult 1 = 1) ∧
    (let d := { run [(GDE_STAT_FAULTED, 1)] with gde.channels := { active := some aDescriptor } :: List.replicate 7 {} }
     d.chanFaulted 0 = true ∧ (d.chan 0).active ≠ none) ∧
    (let src : Word × Word := (0x000000, 0x0000F0); let e : Descriptor := ⟨7, 0, [(0, 9)]⟩
     let d := { run [(PWR_STAT_MODE, modeActive)] with
       gde.channels := { active := some e, srcEnt := some src, dstEnt := some src } :: List.replicate 7 {} }
     d.gde.channels.length = 8 ∧ d.mode ≠ modeHibernate ∧ (∀ k < 8, k ≠ 0 → (d.chan k).active = none) ∧
     (d.chan 0).active = some e ∧ d.chanFaulted 0 = false ∧ (d.chan 0).srcEnt = some src ∧ (d.chan 0).dstEnt = some src ∧
     entRemote src = false ∧ d.mem.repair = none ∧ d.mem.bad = [] ∧ entOwner src ≠ 6 ∧
     e.elems[(d.chan 0).elem]? = some (0, 9) ∧
     8 = min (min (8 - (0 + (d.chan 0).word) % 8) (1024 - (e.place (d.chan 0).elem + (d.chan 0).word) % 1024))
       (9 - (d.chan 0).word) ∧ (d.chan 0).word + 8 < 9) ∧
    (let d := worker []
     d.isWorker = true ∧ d.flag EGL_TILE_JOINED = true ∧ wGet 0x01FFC0#24 14 4 < 8 ∧
     wGet 0x01FFC0#24 0 14 + wGet 0x100040#24 0 7 ≤ 16384 ∧ wGet 0x100040#24 20 4 = 1 ∧ wGet 0x100040#24 0 7 = 64 ∧ d.mem.bad = []) ∧
    (run []).flag RAIL_STAT_FIXED = false ∧ wGet 0x000258#24 0 11 = 600 ∧ wGet 0x0007D0#24 0 11 = 2000 ∧
    wGet 0x5A0001#24 16 8 = 0x5A ∧ wGet 0x5A0001#24 0 1 = 1 ∧ (run [(RAIL_STAT_VLEDST, 6)]).fld RAIL_STAT_VLEDST = 6 ∧
    ({ run [] with rail.vledSoft := some (0, 0) }).rail.vledSoft = some (0, 0) ∧ (run [(RAIL_STAT_VLEDST, 3)]).boostRuns = true ∧
    ({ run [] with rail.on := true }).rail.on = true ∧
    (let d := { run [] with rail.vtxCmd := some 9, rail.vtxTgt := 9000, rail.vtxRef := 9000, rail.vtx := 8820 }
     d.rail.vtxCmd = some 9 ∧ d.rail.vtxRef = d.rail.vtxTgt ∧ near2 d.rail.vtx d.rail.vtxTgt = true) ∧
    (let d := { run [] with
       lamp.lamps := [(0, { level := 4095, out := 4095 })], lamp.sinks := { string := some 300 } :: List.replicate 7 {} }
     d.lampDemand.isSome = true ∧ d.lampDemand.getD 0 ≤ 8000) ∧
    (let d := { run [] with rail.vtxBack := true, rail.vtxOff := true }
     d.rail.vtxBack = true ∧ d.scan.cur = none ∧ d.rail.vtxOff = true) ∧
    (run [(RAIL_STAT_VLEDST, 5)]).fld RAIL_STAT_VLEDST = 5 := by and_intros <;> decide +revert +kernel

theorem witness_LampsInfraredAndConverterComplete :
    (let d := run [(PWR_STAT_MODE, modeIdle), (LAMP_CMDA_INDEX, 6), (CAL_STAT_STATE, calIdle)]
     d.lamp.sinks.length = 8 ∧ d.hka.snaps.length = 4 ∧ d.hka.zero.length = 4 ∧ d.fld LAMP_CMDA_INDEX = 6 ∧
     d.flag LAMP_CMDA_GRP = false ∧ d.mode ≠ modeWatch ∧ d.lampRuns false = true ∧ d.commandRefused false 6 = false ∧
     d.lampChecks = false ∧ d.groupClr 15 = 0 ∧ d.lampTripped 527 = false ∧ d.rxOn = true ∧ d.irDeaf = false ∧
     d.flag IRX_STAT_STUCK = false ∧ d.ir.tx = none ∧ d.txAllowed false = true ∧ wGet 0x0731FF#24 12 2 = 3 ∧
     d.planConverter = some false ∧ d.planNext = some 4 ∧ d.hkaOn = true ∧ d.hkaSkips 4 (planRef 4 (d.planWord 4)) = false ∧
     d.fld CAL_STAT_STATE = calIdle ∧ d.fullNow = false ∧ 7 < d.pwr.step ∧ d.flag CAL_LOGSTAT_MOUNTED = false ∧
     d.par secCal 0x05 ≠ 0 ∧ d.cal.nextSeq < 16777216) ∧
    (let d := { run [] with
       cfg := [(pid secLamps 0x03 0, 1#24)], lamp.lamps := [(15, { level := 9, out := 9 }), (6, { level := 9, out := 9 })] }
     d.tapped = true ∧ d.lampPresent 15 = true ∧ (d.lampAt 15).lit = true ∧ d.sinkLit 6 = true ∧ (d.sink 6).starved = false ∧
     (d.sink 6).head < 60) ∧
    (let d := { run [(PWR_STAT_MODE, modeActive)] with cfg := [(pid secLamps 0x05 0, 1#24)], lamp.checked := true }
     d.chainRuns = true ∧ 0 < d.ndrv ∧ 7 ≤ d.pwr.step ∧ d.mode ≠ modeSafe ∧ d.mode ≠ modeHibernate) ∧
    wGet 0x5A8000#24 16 8 = 0x5A ∧ wGet 0x5A8000#24 0 16 = 2 ^ 15 ∧ 24 * (21#5).toNat + 23 < 528 ∧
    (let d := { run [] with ir.frame := some (us [500]), ir.tpl := biphaseTpl, ir.held := some ⟨3, 5, 0, 255, 300⟩ }
     d.ir.frame = some (us [500]) ∧ d.irIsMark true = true ∧ judgeAll d.ir.tpl (us [500]) true = some (0, some 1) ∧
     d.ir.held = some ⟨3, 5, 0, 255, 300⟩) ∧
    (let x : Transmission := ⟨7, 1, 0, 1, 0, 2, false, 0⟩
     let d := { run [] with ir.tx := some x, ir.pattern := [(1, 0x400000#24)] }
     d.ir.tx = some x ∧ x.mode ≠ 3 ∧ wGet (d.pattern x.index) 22 1 = 1 ∧ x.left = 0) ∧
    (let d := run [(PWR_STAT_MODE, modeIdle), (HKA_STAT_GRANT, 1)]
     wGet 0x00000F#24 0 4 = 15 ∧ d.fld HKA_STAT_GRANT = 1 ∧ d.hka.convA = none ∧ d.hkaOn = true ∧ d.hkaSkips 15 0 = false ∧
     wGet 0x00000F#24 15 1 = 0) ∧
    (let k : HkaConv := ⟨15, false, 0, 0, false, false⟩; let d := { run [] with hka.convA := some k }
     d.conv false = some k ∧ d.hka.ilv = none ∧ k.waiting = false ∧ { k with waiting := true }.waiting = true) ∧
    wGet 0x5A0002#24 16 8 = 0x5A ∧ wGet 0x5A0002#24 0 2 ≠ 3 ∧ (run [(HKA_HOST_CLAIM, 2)]).fld HKA_HOST_CLAIM ≠ 0 ∧
    ({ run [] with hka.hostRef := true }).refinEnabled = true ∧ wGet 0x5A0030#24 4 2 = 3 ∧
    (let d := { run [(HKA_SCFULL_FULL, 1000)] with hka.zero := [some 0, none, none, none], hka.full := [some 1000, none, none, none] }
     d.hka.step = none ∧ d.hka.zero.getD 0 none = some 0 ∧ d.hka.full.getD 0 none = some 1000 ∧ d.nvmBarred = false ∧
     d.fld HKA_SCFULL_FULL = 1000) ∧
    ({ run [] with hka.step := some (3, 1) }).hka.step = some (3, 1) ∧ wGet 0x5A0001#24 0 2 = 1 ∧
    (let d := { run [(PWR_STAT_MODE, modeActive), (CAL_STAT_STATE, calSliced)] with cal.items := [66, 67], cal.rcLeft := true }
     d.sliceOk = true ∧ d.fld CAL_STAT_STATE ≠ calDue ∧ d.cal.items = 66 :: [67] ∧ [67] ≠ [] ∧ d.mode = modeActive ∧
     d.fld CAL_STAT_STATE ∈ [calDue, calSliced, calStarved] ∧ d.mode ∉ [modeWatch, modeSafe, modeHibernate] ∧
     d.cal.items ≠ [] ∧ d.cal.rcLeft = true ∧ d.mode ∈ [modeIdle, modeActive, modeService, modeSafe]) ∧
    (let d := run [(PWR_STAT_MODE, modeIdle), (CAL_STAT_STATE, calDue)]; d.sliceOk = true ∧ d.fld CAL_STAT_STATE = calDue) ∧
    (let d := { run [(CAL_LOGSTAT_MOUNTED, 1), (CAL_LOGSTAT_SLOT, 9)] with logQ := [aLog] }
     d.settingsTurn = false ∧ d.logQ = aLog :: [] ∧ d.logBarred = false ∧ d.cal.lost = 0 ∧ d.fld CAL_LOGSTAT_SLOT < 10) := by
  and_intros <;> decide +revert +kernel

theorem witness_ConsoleAndServiceComplete :
    (let d := { run [(PWR_STAT_MODE, modeSafe)] with cfg := [(pid secSystem 0x02 0, 5#24)] }
     d.flag SVC_STAT_LOCKOUT = false ∧ d.codeBarred = false ∧ (5#24) ≠ 0 ∧ (5#24).toNat = d.svcCode ∧ d.mode = modeSafe ∧
     d.running = false ∧ d.pwr.step = 8 ∧ d.asleep = false ∧ d.modes.waking = false ∧ d.mode ≠ modeWatch ∧
     (0x41#8) ∉ [0x0D#8, 0x0A, 0x08, 0x7F, 0x03] ∧ d.con.line.length < 80 ∧ d.goesRemote .console SYS_PARTID = false ∧
     d.boot.nvpOp = 0 ∧ d.link.ping = none) ∧
    (run [(PWR_STAT_MODE, modeWatch)]).mode = modeWatch ∧
    (let d := { run [] with con.evmon := true }
     d.con.evmon = true ∧ d.con.rd = none ∧ d.con.todo = [] ∧ d.con.logWait = none) ∧
    ({ run [] with con.request := 1 }).con.request ≠ 0 ∧ ({ run [] with con.logWait := some [] }).con.logWait ≠ none ∧
    (let d := { run [(SYS_STRAP_ROLE, 0)] with con.waitJoin := true }
     d.con.waitJoin = true ∧ d.flag EGL_TILE_JOINED = false ∧ d.fullSet = false) ∧
    (let d := run [(CAL_STAT_STATE, calIdle), (PWR_STAT_MODE, modeIdle)]; d.fld CAL_STAT_STATE = calIdle ∧ d.fullNow = false) ∧
    (run [(PWR_STAT_MODE, modeSafe), (SVC_STAT_ENTRY, 2)]).fullSet = true ∧
    (let d := { run [(PWR_STAT_MODE, modeService), (SVC_STAT_ENTRY, 2)] with cfg := aSensor, link.gate := true }
     d.serviceOpen = true ∧ d.running = false ∧ d.fullSet = true ∧ wGet 0x00FF06#24 0 5 = 6 ∧ d.flag SCAN_STAT_RUN = false ∧
     wGet 0x009F04#24 8 8 < 160 ∧ wGet 0x009F04#24 0 3 < 5 ∧ d.pwr.held = none ∧ d.asleep = false ∧ d.link.gate = true ∧
     d.mode = modeService ∧ d.staticBlock = false ∧ d.scan.tone = none ∧ d.hasSensor = true ∧
     d.flag TRK_CAP_STAT_BUSY = false) ∧
    ({ run [] with scan.tone := some (1, 2) }).scan.tone ≠ none ∧ (manager []).isManager = true := by decide

theorem witness_ConsoleDevicesComplete :
    (run []).running = false ∧ statRange 13 = some (0x0320, 0x0364) ∧ (run []).lampPresent 16 = false ∧
    ({ run [] with cfg := [(pid secLamps 0x05 0, 32#24)] }).lampPresent 527 = true ∧
    pidKnown (BitVec.ofNat 24 (pid secModes 0x02 0)).toNat = true ∧
    (let d := { run [] with cfg := aSensor }
     d.elRole 0 = 1 ∧ (0#8).toNat < d.ntx ∧ (0#8).toNat < d.nrx ∧ d.scan.iq = false ∧ d.boot.nvpOp = 0) ∧
    (262080#24).toNat + (64#8).toNat ≤ 262144 ∧ (run []).groupClr 15 ≤ 1 ∧
    (let d := { run [(SVC_STAT_ENTRY, 2), (PWR_STAT_MODE, modeService)] with
       rail.on := true, ir.pattern := [(511, 0x000010#24)] }
     d.fullSet = true ∧ d.lampRuns true = true ∧ d.mode ≠ modeWatch ∧ d.commandRefused false 6 = false ∧ d.railActs true = true ∧
     d.flag RAIL_STAT_FIXED = false ∧ d.mem.repair = none ∧ d.repairCheck 15 959 = 0 ∧ (d.chan 1).active = none ∧
     d.testBad 1 = [] ∧ d.ir.tx = none ∧ d.txAllowed true = true ∧ wGet (d.pattern 511) 0 16 ≠ 0 ∧
     d.hka.chans.length = 16 ∧ 15 ∉ [9, 10, 13] ∧ d.fld HKA_HOST_CLAIM = 0 ∧ d.conv true = none ∧ d.hka.step = none) ∧
    (run [(RAIL_STAT_VLEDST, 6)]).fld RAIL_STAT_VLEDST = 6 ∧
    (let d := { run [(HKA_SCFULL_FULL, 1000)] with hka.zero := [none, none, none, some 0], hka.full := [none, none, none, some 1000] }
     d.nvmBarred = false ∧ d.hka.zero.getD 3 none = some 0 ∧ d.hka.full.getD 3 none = some 1000 ∧
     d.fld HKA_SCFULL_FULL = 1000) := by decide

/-! Values that the specification prints. -/

/-- The device after one command, where it answers a next state. -/
def after (c : Instr) (d : Dev) : Option Dev :=
  match step ⟨d, [c]⟩ with
  | .next s => if s.pending.isEmpty then some s.dev else none
  | _ => none

/-- The check values of R134, R596 and R427. -/
theorem test_crcs :
    crc32 (chars "123456789") = 0xCBF43926#32 ∧ crc16 (chars "123456789") = 0x29B1#16 ∧ crc8 (chars "123456789") = 0xF4#8 := by
  decide +kernel

/-- The parameter id that 14_runtime_changes.md works out: word 7 of FREQ. -/
theorem test_parameterId : pid secScan 0x02 7 = 0x281007 := by decide

/-- The reference sensor of 07_touch_front_end.md: 96 TX and 64 RX electrodes, FRAME_RATE 240, CHIPCYC 6. -/
def reference (freq0 : Word) : Dev :=
  let roles := (List.range 160).map fun e => (pid secScan 0x01 e, word (if e < 96 then e * 256 + 1 else (e - 96) * 256 + 2))
  { run [] with
    cfg := roles ++ [(pid secScan 0x02 0, freq0), (pid secScan 0x04 0, 6#24), (pid secScan 0x05 0, 25#24),
      (pid secScan 0x06 0, 96#24), (pid secScan 0x07 0, 30#24), (pid secScan 0x0A 0, 240#24)] }

/-- L 200 µs, M 1,440 µs and P_F 69,905 units; 113 Hz with an 80 kHz slot (07_touch_front_end.md, worked example). -/
theorem test_schedule :
    (reference 60#24).listenCyc = 200 * 48 ∧ (reference 60#24).mutualCyc = 1440 * 48 ∧ framePeriod 240 = 69905 ∧
      (reference 300#24).mutualCyc = 7200 * 48 ∧ (reference 300#24).rateLimit 1000 = 113 := by decide +kernel

/-- The host sets the clock 10.5 s back (11_time_base.md, worked example): epoch 4, W1 0xFFD6FC, W2 0x000004. -/
theorem test_loadStepsBack :
    let d := { run [(TIME_SET_SECL_S, 990)] with
      time.sec := 1000, time.frac := 0x800000, time.epoch := 3, time.load := some (990, 0) }
    (after .timeLoadApply d).map (fun d => (d.time.sec, d.time.epoch, d.time.steps)) =
      some (990, 4, [(0xFFD6FC#24, 0x000004#24)]) := by decide +kernel

/-- The band of `meter el 37` in static state mtrs, 0.817 V to 0.833 V (03_service_console_and_meter_points.md). -/
theorem test_meterBand :
    (chars "0.817", chars "0.833") = (voltText ((run []).placeEl 37 4 |>.pointBand 7 37).1,
      voltText ((run []).placeEl 37 4 |>.pointBand 7 37).2) := by decide +kernel

/-- Console lines (R67, R68): spacing, case and the 0x prefix are free; five digits of an address are malformed; electrode 160
is out of range; an unknown word is E03. -/
theorem test_consoleLines :
    readLine (chars "EL  37 mtrs") = .cmd (.el false 37 4) ∧ readLine (chars "rd 0x0003") = .cmd (.rd 0x0003 1) ∧
      readLine (chars "rd 00003") = .err 4 ∧ readLine (chars "el 160 gnd") = .range true ∧ readLine (chars "peek 1") = .err 3 :=
  by decide +kernel

/-- The first three rows of the Hadamard chips (R218): row 0 is all +1, row 1 alternates, and row 3 is + − − +. -/
theorem test_hadamard :
    (List.range 4).map (hadamard 0) = [1, 1, 1, 1] ∧ (List.range 4).map (hadamard 1) = [1, -1, 1, -1] ∧
      (List.range 4).map (hadamard 3) = [1, -1, -1, 1] := by decide

/-- The symbol coder (R588): data 0x00 from negative disparity is D.0.0, 0b1001110100. -/
theorem test_symbol : (Sym.data 0#8).encode false = (0b1001110100, false) := by decide +kernel

/-- A command is refused by the check of its operands, one for each check. -/
theorem test_illFormed :
    (Instr.imgReq 0 (List.replicate 64 0)).wellFormed = false ∧ (Instr.imgData 0 [0]).wellFormed = false ∧
      (Instr.enum []).wellFormed = false ∧ (Instr.nvpDone 3 0).wellFormed = false ∧
      (Instr.twbPartial 0).wellFormed = false ∧ (Instr.nvmTransferStart 6).wellFormed = false ∧
      (Instr.remoteWakeSampleEnd 3).wellFormed = false ∧ (Instr.prepare 0 [0, 0]).wellFormed = false ∧
      (Instr.join 0 []).wellFormed = false ∧ (Instr.forward 0 [0]).wellFormed = false ∧
      (Instr.railVtxFault 0 0).wellFormed = false ∧
      (Instr.sequencedFrame 0 0 true 0 0 (List.replicate 128 0)).wellFormed = false ∧
      (Instr.operationResponse 0 0 (List.replicate 65 0)).wellFormed = false ∧
      (Instr.beacon 0 true [] 0).wellFormed = false ∧ (Instr.watchBeacon 0 true [] 0).wellFormed = false ∧
      (Instr.conversionEnd false 0 3).wellFormed = false ∧
      (Instr.syscalStepEnd [] 0).wellFormed = false ∧ (Instr.consoleLineError 5).wellFormed = false ∧
      (Instr.log 3 0).wellFormed = false ∧ (Instr.eglInj 0 3 0).wellFormed = false ∧
      (Instr.el false 0 5).wellFormed = false ∧ (Instr.blockStat 14).wellFormed = false := by decide

/-- A write of the undefined word 0x1FFF is ignored and counted (R15). -/
theorem test_ignoredWrite :
    (after (.registerWrite .twoWire 0x1FFF 1) (run [])).map (·.fld SYS_WRIGN_COUNT) = some 1 := by decide +kernel

end Sys2Proof.Tests
end

section
/-!
SUPPORT. Every command and every step keeps `Dev.Sound`: the four memories in canonical form, the parts in their number, and
the fuses but for the spare columns as they were.
-/

namespace Sys2Proof.Machine

section

variable {fz : Fuses}

/-- The fuses of a sound machine, but for the spare columns, are the given ones. -/
theorem sound_fuses {d : Dev} (h : d.Sound fz) : { d.fuses with spares := [] } = fz := by
  obtain ⟨-, -, -, -, hfuses, -⟩ := h
  exact hfuses

/-- `Dev.Sound` of a machine's own fuses is what the obligations presume of a state. -/
theorem sound_own_fuses {d : Dev} (hwf : d.memoriesWf = true) (hshaped : d.shaped = true) :
    d.Sound { d.fuses with spares := [] } := by
  simp only [Dev.memoriesWf, Dev.shaped, Bool.and_eq_true, beq_iff_eq] at hwf hshaped
  obtain ⟨⟨⟨hregs, hbanks⟩, hnvm⟩, hcfg⟩ := hwf
  obtain ⟨⟨⟨⟨⟨hports, hchannels⟩, hsinks⟩, hchans⟩, hsnaps⟩, hzero⟩ := hshaped
  exact ⟨hregs, hbanks, hnvm, hcfg, rfl, hports, hchannels, hsinks, hchans, hsnaps, hzero⟩

/-- Every command keeps `Dev.Sound`: one case for each arm of `exec`, by the lemma about that arm's meaning. -/
theorem exec_sound {c : Instr} {s t : State} (hk : s.dev.Sound fz) (h : exec c s = .next t) : t.dev.Sound fz := by
  cases c with
  | registerWrite => exact execRegisterWrite_sound hk h
  | rcFieldRead => exact execRcFieldRead_sound hk h
  | powerOn => exact execPowerOn_sound hk h
  | powerOnRelease => exact execPowerOnRelease_sound hk h
  | alwaysOnLoss => exact execAlwaysOnLoss_sound hk h
  | vddBrownOut => exact execVddBrownOut_sound hk h
  | vcoreBrownOut => exact execVcoreBrownOut_sound hk h
  | vddWarningSet => exact execVddWarningSet_sound hk h
  | vddWarningClear => exact execVddWarningClear_sound hk h
  | resetPin => exact execResetPin_sound hk h
  | softwareReset => exact execSoftwareReset_sound hk h
  | softwareResetPerform => exact execSoftwareResetPerform_sound hk h
  | coreWatchdog => exact execCoreWatchdog_sound hk h
  | coreRestartEnd => exact execCoreRestartEnd_sound hk h
  | xtalQualified => exact execXtalQualified_sound hk h
  | xtalQualifyTimeout => exact execXtalQualifyTimeout_sound hk h
  | xtalLost => exact execXtalLost_sound hk h
  | foscRequest => exact execFoscRequest_sound hk h
  | foscStop => exact execFoscStop_sound hk h
  | foscLockTimeout => exact execFoscLockTimeout_sound hk h
  | vddioLoss => exact execVddioLoss_sound hk h
  | vddioReturn => exact execVddioReturn_sound hk h
  | outputsRestore => exact execOutputsRestore_sound hk h
  | selfTestEnd => exact execSelfTestEnd_sound hk h
  | headerReadEnd => exact execHeaderReadEnd_sound hk h
  | headerReadTimeout => exact execHeaderReadTimeout_sound hk h
  | slotReadEnd => exact execSlotReadEnd_sound hk h
  | slotCheckTimeout => exact execSlotCheckTimeout_sound hk h
  | startupCalibrationEnd => exact execStartupCalibrationEnd_sound hk h
  | fullRunTimeout => exact execFullRunTimeout_sound hk h
  | linkImageRequest => exact execLinkImageRequest_sound hk h
  | linkImageTimeout => exact execLinkImageTimeout_sound hk h
  | imgReq _ words => exact execImgReq_sound (_words := words) hk h
  | imgData src => exact execImgData_sound (_src := src) hk h
  | imgResult => exact execImgResult_sound hk h
  | nvpRead => exact execNvpRead_sound hk h
  | nvpWrite => exact execNvpWrite_sound hk h
  | nvpVerify => exact execNvpVerify_sound hk h
  | nvpInvalidate => exact execNvpInvalidate_sound hk h
  | nvpDone => exact execNvpDone_sound hk h
  | modeRequest => exact execModeRequest_sound hk h
  | holdSet => exact execHoldSet_sound hk h
  | holdClear => exact execHoldClear_sound hk h
  | autoIdleExpiry => exact execAutoIdleExpiry_sound hk h
  | watchAfterExpiry => exact execWatchAfterExpiry_sound hk h
  | mode => exact execMode_sound hk h
  | modeAck => exact execModeAck_sound hk h
  | hibDrainEnd => exact execHibDrainEnd_sound hk h
  | orphan => exact execOrphan_sound hk h
  | wake => exact execWake_sound hk h
  | wakeAddressStretchTimeout => exact execWakeAddressStretchTimeout_sound hk h
  | wakeVcoreTimeout => exact execWakeVcoreTimeout_sound hk h
  | wakeSourceEnable => exact execWakeSourceEnable_sound hk h
  | hostwakePulseEnd => exact execHostwakePulseEnd_sound hk h
  | hostwakeLevelTimeout => exact execHostwakeLevelTimeout_sound hk h
  | hostwakeAck => exact execHostwakeAck_sound hk h
  | frameStart => exact execFrameStart_sound hk h
  | selfScanEnd => exact execSelfScanEnd_sound hk h
  | watchScan => exact execWatchScan_sound hk h
  | trackFrame => exact execTrackFrame_sound hk h
  | tapHoldExpiry => exact execTapHoldExpiry_sound hk h
  | blreset => exact execBlreset_sound hk h
  | resync => exact execResync_sound hk h
  | arm => exact execArm_sound hk h
  | stop => exact execStop_sound hk h
  | captureCopyEnd => exact execCaptureCopyEnd_sound hk h
  | doorbell => exact execDoorbell_sound hk h
  | hostDoorbell => exact execHostDoorbell_sound hk h
  | recordDelivery => exact execRecordDelivery_sound hk h
  | ringReadPointer => exact execRingReadPointer_sound hk h
  | take => exact execTake_sound hk h
  | done => exact execDone_sound hk h
  | stackrst => exact execStackrst_sound hk h
  | gdis => exact execGdis_sound hk h
  | sourceConfigWrite => exact execSourceConfigWrite_sound hk h
  | evrServiceTimeout => exact execEvrServiceTimeout_sound hk h
  | moderationExpiry => exact execModerationExpiry_sound hk h
  | coreDelivery => exact execCoreDelivery_sound hk h
  | coreTake => exact execCoreTake_sound hk h
  | coreDone => exact execCoreDone_sound hk h
  | timeSnapshot => exact execTimeSnapshot_sound hk h
  | timeLoad => exact execTimeLoad_sound hk h
  | timeLoadApply => exact execTimeLoadApply_sound hk h
  | timeSlew => exact execTimeSlew_sound hk h
  | timeSlewApply => exact execTimeSlewApply_sound hk h
  | timeCancel => exact execTimeCancel_sound hk h
  | slewAdjust => exact execSlewAdjust_sound hk h
  | workerTimeStep => exact execWorkerTimeStep_sound hk h
  | beaconGap => exact execBeaconGap_sound hk h
  | alarmArm => exact execAlarmArm_sound hk h
  | alarmValueWrite => exact execAlarmValueWrite_sound hk h
  | timeAlarm => exact execTimeAlarm_sound hk h
  | twbPointer => exact execTwbPointer_sound hk h
  | twbWordWrite => exact execTwbWordWrite_sound hk h
  | twbWordRead => exact execTwbWordRead_sound hk h
  | twbPartial => exact execTwbPartial_sound hk h
  | twbPecWrite => exact execTwbPecWrite_sound hk h
  | alertResponse => exact execAlertResponse_sound hk h
  | smbusTimeout => exact execSmbusTimeout_sound hk h
  | remoteLate => exact execRemoteLate_sound hk h
  | nvmTransferStart => exact execNvmTransferStart_sound hk h
  | arbitrationLost => exact execArbitrationLost_sound hk h
  | nvmStretchTimeout => exact execNvmStretchTimeout_sound hk h
  | nvmPoll => exact execNvmPoll_sound hk h
  | nvmPollTimeout => exact execNvmPollTimeout_sound hk h
  | resumeAddressTimeout => exact execResumeAddressTimeout_sound hk h
  | nvctlWrite => exact execNvctlWrite_sound hk h
  | nvholdExpiry => exact execNvholdExpiry_sound hk h
  | sdaRecovery => exact execSdaRecovery_sound hk h
  | sclStuck => exact execSclStuck_sound hk h
  | usbAttach => exact execUsbAttach_sound hk h
  | usbDetach => exact execUsbDetach_sound hk h
  | sofLock => exact execSofLock_sound hk h
  | usbBusReset => exact execUsbBusReset_sound hk h
  | getStatus => exact execGetStatus_sound hk h
  | clearFeature => exact execClearFeature_sound hk h
  | setFeature => exact execSetFeature_sound hk h
  | setAddress => exact execSetAddress_sound hk h
  | getDescriptor => exact execGetDescriptor_sound hk h
  | getConfiguration => exact execGetConfiguration_sound hk h
  | setConfiguration => exact execSetConfiguration_sound hk h
  | getInterface => exact execGetInterface_sound hk h
  | setInterface => exact execSetInterface_sound hk h
  | getReport => exact execGetReport_sound hk h
  | setIdle => exact execSetIdle_sound hk h
  | getIdle value => exact execGetIdle_sound (_value := value) hk h
  | stall => exact execStall_sound hk h
  | usbPacketError => exact execUsbPacketError_sound hk h
  | hidReportSend => exact execHidReportSend_sound hk h
  | ep2Read => exact execEp2Read_sound hk h
  | ep2Write => exact execEp2Write_sound hk h
  | ep2Events => exact execEp2Events_sound hk h
  | ep2UnknownOp => exact execEp2UnknownOp_sound hk h
  | ep2BadLength => exact execEp2BadLength_sound hk h
  | ep2ResponseAck => exact execEp2ResponseAck_sound hk h
  | usbSuspend => exact execUsbSuspend_sound hk h
  | usbResume => exact execUsbResume_sound hk h
  | remoteWakeSampleEnd => exact execRemoteWakeSampleEnd_sound hk h
  | remoteWakeDriveEnd => exact execRemoteWakeDriveEnd_sound hk h
  | detach => exact execDetach_sound hk h
  | cfgCommit => exact execCfgCommit_sound hk h
  | cfgCheck => exact execCfgCheck_sound hk h
  | cfgClear => exact execCfgClear_sound hk h
  | cfgCancel => exact execCfgCancel_sound hk h
  | cfgCheckEnd => exact execCfgCheckEnd_sound hk h
  | coldCalibrationTimeout => exact execColdCalibrationTimeout_sound hk h
  | prepare src => exact execPrepare_sound (_src := src) hk h
  | ready => exact execReady_sound hk h
  | refuse => exact execRefuse_sound hk h
  | go src => exact execGo_sound (_src := src) hk h
  | goAck => exact execGoAck_sound hk h
  | abort src => exact execAbort_sound (_src := src) hk h
  | goLate src => exact execGoLate_sound (_src := src) hk h
  | goAckTimeout => exact execGoAckTimeout_sound hk h
  | delta src => exact execDelta_sound (_src := src) hk h
  | enum => exact execEnum_sound hk h
  | join src => exact execJoin_sound (_src := src) hk h
  | welcome src => exact execWelcome_sound (_src := src) hk h
  | refuseJoin src words => exact execRefuseJoin_sound (_src := src) (_words := words) hk h
  | contacts => exact execContacts_sound hk h
  | contactsDeadline => exact execContactsDeadline_sound hk h
  | strip src => exact execStrip_sound (_src := src) hk h
  | stripDeadline => exact execStripDeadline_sound hk h
  | forward => exact execForward_sound hk h
  | remoteRd => exact execRemoteRd_sound hk h
  | remoteWr => exact execRemoteWr_sound hk h
  | remoteResp => exact execRemoteResp_sound hk h
  | reset src => exact execReset_sound (_src := src) hk h
  | leave => exact execLeave_sound hk h
  | svcReq => exact execSvcReq_sound hk h
  | tileLost => exact execTileLost_sound hk h
  | remoteWindowRead => exact execRemoteWindowRead_sound hk h
  | remoteWindowWrite => exact execRemoteWindowWrite_sound hk h
  | eglTreset => exact execEglTreset_sound hk h
  | signalDetect => exact execSignalDetect_sound hk h
  | linkctlId => exact execLinkctlId_sound hk h
  | delayReq => exact execDelayReq_sound hk h
  | delayResp => exact execDelayResp_sound hk h
  | trainingTimeout => exact execTrainingTimeout_sound hk h
  | retrainDelay => exact execRetrainDelay_sound hk h
  | delayRecalibration => exact execDelayRecalibration_sound hk h
  | sequencedFrame => exact execSequencedFrame_sound hk h
  | ack => exact execAck_sound hk h
  | nak => exact execNak_sound hk h
  | resendTimeout => exact execResendTimeout_sound hk h
  | signalLoss => exact execSignalLoss_sound hk h
  | packetAged => exact execPacketAged_sound hk h
  | gapSkip => exact execGapSkip_sound hk h
  | operationIssue => exact execOperationIssue_sound hk h
  | tagStarved => exact execTagStarved_sound hk h
  | opAttemptTimeout => exact execOpAttemptTimeout_sound hk h
  | operationResponse => exact execOperationResponse_sound hk h
  | tagReturn => exact execTagReturn_sound hk h
  | requestDelivery => exact execRequestDelivery_sound hk h
  | duplicateCacheExpiry => exact execDuplicateCacheExpiry_sound hk h
  | ping => exact execPing_sound hk h
  | beacon => exact execBeacon_sound hk h
  | watchBeacon => exact execWatchBeacon_sound hk h
  | wakePacket => exact execWakePacket_sound hk h
  | reorderRelease => exact execReorderRelease_sound hk h
  | retrain => exact execRetrain_sound hk h
  | portDisable => exact execPortDisable_sound hk h
  | ownerWrite => exact execOwnerWrite_sound hk h
  | handover => exact execHandover_sound hk h
  | portAAccess => exact execPortAAccess_sound hk h
  | portBAccess => exact execPortBAccess_sound hk h
  | scrub => exact execScrub_sound hk h
  | scrubLate => exact execScrubLate_sound hk h
  | memoryWindowRead => exact execMemoryWindowRead_sound hk h
  | memoryWindowWrite => exact execMemoryWindowWrite_sound hk h
  | repair rq => exact execRepair_sound (_rq := rq) hk h
  | repairVtxReady => exact execRepairVtxReady_sound hk h
  | repairVtxTimeout => exact execRepairVtxTimeout_sound hk h
  | gdePush => exact execGdePush_sound hk h
  | gdeResume => exact execGdeResume_sound hk h
  | gdeSkip => exact execGdeSkip_sound hk h
  | gdeAbort => exact execGdeAbort_sound hk h
  | gdeFlush => exact execGdeFlush_sound hk h
  | gatherBurst => exact execGatherBurst_sound hk h
  | gatherRead => exact execGatherRead_sound hk h
  | vtxCommand => exact execVtxCommand_sound hk h
  | vledFixed => exact execVledFixed_sound hk h
  | vledAdaptive => exact execVledAdaptive_sound hk h
  | referenceUpdate => exact execReferenceUpdate_sound hk h
  | railDone => exact execRailDone_sound hk h
  | demandUpdate => exact execDemandUpdate_sound hk h
  | softStartEnd => exact execSoftStartEnd_sound hk h
  | vtxToRegulator => exact execVtxToRegulator_sound hk h
  | railShort => exact execRailShort_sound hk h
  | shortRetry => exact execShortRetry_sound hk h
  | runningShort => exact execRunningShort_sound hk h
  | clearlatch => exact execClearlatch_sound hk h
  | railOvervolt => exact execRailOvervolt_sound hk h
  | vhvAbove50v => exact execVhvAbove50v_sound hk h
  | railVtxFault => exact execRailVtxFault_sound hk h
  | vtxFaultRestart => exact execVtxFaultRestart_sound hk h
  | lampCommand => exact execLampCommand_sound hk h
  | fadeTick => exact execFadeTick_sound hk h
  | pwmPeriod => exact execPwmPeriod_sound hk h
  | bypassClamp => exact execBypassClamp_sound hk h
  | refreshPeriod => exact execRefreshPeriod_sound hk h
  | chainCheck => exact execChainCheck_sound hk h
  | lampGclear => exact execLampGclear_sound hk h
  | lampFaultClear => exact execLampFaultClear_sound hk h
  | lampHeadroom => exact execLampHeadroom_sound hk h
  | irEdge => exact execIrEdge_sound hk h
  | irGap => exact execIrGap_sound hk h
  | irBiphaseSpaceEnd => exact execIrBiphaseSpaceEnd_sound hk h
  | irKeyRelease => exact execIrKeyRelease_sound hk h
  | irStuck => exact execIrStuck_sound hk h
  | release => exact execRelease_sound hk h
  | itxStart => exact execItxStart_sound hk h
  | itxStop => exact execItxStop_sound hk h
  | itxEntryEnd => exact execItxEntryEnd_sound hk h
  | itxTmax => exact execItxTmax_sound hk h
  | itxPdata rq => exact execItxPdata_sound (_rq := rq) hk h
  | planConversion => exact execPlanConversion_sound hk h
  | conversionEnd => exact execConversionEnd_sound hk h
  | hkaSnap => exact execHkaSnap_sound hk h
  | claim => exact execClaim_sound hk h
  | hkaClaimExpired => exact execHkaClaimExpired_sound hk h
  | hostConversion => exact execHostConversion_sound hk h
  | refinCheck => exact execRefinCheck_sound hk h
  | referenceTimeout => exact execReferenceTimeout_sound hk h
  | conversionTimeout => exact execConversionTimeout_sound hk h
  | tdac => exact execTdac_sound hk h
  | zero => exact execZero_sound hk h
  | full => exact execFull_sound hk h
  | apply => exact execApply_sound hk h
  | default => exact execDefault_sound hk h
  | syscalStepEnd => exact execSyscalStepEnd_sound hk h
  | run => exact execRun_sound hk h
  | slice => exact execSlice_sound hk h
  | calStarved => exact execCalStarved_sound hk h
  | backgroundItemEnd => exact execBackgroundItemEnd_sound hk h
  | telemetryRecord => exact execTelemetryRecord_sound hk h
  | logSummary => exact execLogSummary_sound hk h
  | logRecordWrite => exact execLogRecordWrite_sound hk h
  | logMount => exact execLogMount_sound hk h
  | svcUnlockWrite => exact execSvcUnlockWrite_sound hk h
  | svcAmonWrite => exact execSvcAmonWrite_sound hk h
  | svcElWrite => exact execSvcElWrite_sound hk h
  | consoleLineError => exact execConsoleLineError_sound hk h
  | ctrlC => exact execCtrlC_sound hk h
  | consoleBreak => exact execConsoleBreak_sound hk h
  | partialLineTimeout => exact execPartialLineTimeout_sound hk h
  | consoleWakeEdge => exact execConsoleWakeEdge_sound hk h
  | consoleSessionEnd => exact execConsoleSessionEnd_sound hk h
  | svcNoManager => exact execSvcNoManager_sound hk h
  | serviceJoinTimeout => exact execServiceJoinTimeout_sound hk h
  | logNvmTimeout => exact execLogNvmTimeout_sound hk h
  | help => exact execHelp_sound hk h
  | id => exact execId_sound hk h
  | rd => exact execRd_sound hk h
  | wr => exact execWr_sound hk h
  | time => exact execTime_sound hk h
  | log => exact execLog_sound hk h
  | evmonOn => exact execEvmonOn_sound hk h
  | evmonOff => exact execEvmonOff_sound hk h
  | svc => exact execSvc_sound hk h
  | svcOff => exact execSvcOff_sound hk h
  | meter => exact execMeter_sound hk h
  | meterOff => exact execMeterOff_sound hk h
  | el => exact execEl_sound hk h
  | consoleReset => exact execConsoleReset_sound hk h
  | blockStat => exact execBlockStat_sound hk h
  | sysStat => exact execSysStat_sound hk h
  | bootStat => exact execBootStat_sound hk h
  | imgCheck => exact execImgCheck_sound hk h
  | nvmRd => exact execNvmRd_sound hk h
  | pwrStat => exact execPwrStat_sound hk h
  | pwrWake => exact execPwrWake_sound hk h
  | timeStat => exact execTimeStat_sound hk h
  | scanNoise => exact execScanNoise_sound hk h
  | scanNode => exact execScanNode_sound hk h
  | scanLegs => exact execScanLegs_sound hk h
  | scanRun => exact execScanRun_sound hk h
  | scanStop => exact execScanStop_sound hk h
  | scanTone => exact execScanTone_sound hk h
  | trkHop => exact execTrkHop_sound hk h
  | trkBase => exact execTrkBase_sound hk h
  | trkBlreset => exact execTrkBlreset_sound hk h
  | trkRpt => exact execTrkRpt_sound hk h
  | trkCap => exact execTrkCap_sound hk h
  | evrSrc => exact execEvrSrc_sound hk h
  | evrFire => exact execEvrFire_sound hk h
  | cfgStat => exact execCfgStat_sound hk h
  | cfgGet => exact execCfgGet_sound hk h
  | cfgDelta => exact execCfgDelta_sound hk h
  | surfStat => exact execSurfStat_sound hk h
  | surfMap => exact execSurfMap_sound hk h
  | surfTile => exact execSurfTile_sound hk h
  | rtile => exact execRtile_sound hk h
  | surfReset => exact execSurfReset_sound hk h
  | eglPing => exact execEglPing_sound hk h
  | eglInj => exact execEglInj_sound hk h
  | eglInjOff => exact execEglInjOff_sound hk h
  | eglRetrain => exact execEglRetrain_sound hk h
  | memCol => exact execMemCol_sound hk h
  | memRepair => exact execMemRepair_sound hk h
  | gdeWin => exact execGdeWin_sound hk h
  | gdeTest => exact execGdeTest_sound hk h
  | railVtx => exact execRailVtx_sound hk h
  | railVled => exact execRailVled_sound hk h
  | railVledAuto => exact execRailVledAuto_sound hk h
  | railRestart => exact execRailRestart_sound hk h
  | lampN => exact execLampN_sound hk h
  | lampSet => exact execLampSet_sound hk h
  | lampClear => exact execLampClear_sound hk h
  | irxRaw => exact execIrxRaw_sound hk h
  | itxSend => exact execItxSend_sound hk h
  | itxLoop => exact execItxLoop_sound hk h
  | hkaCh => exact execHkaCh_sound hk h
  | hkaConv => exact execHkaConv_sound hk h
  | hkaPath => exact execHkaPath_sound hk h
  | hkaCalZero => exact execHkaCalZero_sound hk h
  | hkaCalFull => exact execHkaCalFull_sound hk h
  | hkaCalApply => exact execHkaCalApply_sound hk h
  | calRun => exact execCalRun_sound hk h
  | logStat => exact execLogStat_sound hk h
  | telem => exact execTelem_sound hk h
  | resetRelease => exact execResetRelease_sound hk h
  | vcoreGood => exact execVcoreGood_sound hk h
  | tickBoundary => exact execTickBoundary_sound hk h
  | foscLock => exact execFoscLock_sound hk h
  | foscLockLost => exact execFoscLockLost_sound hk h
  | commaAlignment => exact execCommaAlignment_sound hk h
  | linkCodeErrors => exact execLinkCodeErrors_sound hk h
  | startOfFrameToken => exact execStartOfFrameToken_sound hk h
  | consoleCharacter => exact execConsoleCharacter_sound hk h
  | vddaFall => exact execVddaFall_sound hk h
  | referenceReady => exact execReferenceReady_sound hk h

/-- A step idles or runs the front command with the queue's rest, so it keeps what every command keeps. -/
theorem step_sound {s t : State} (hk : s.dev.Sound fz) (h : step s = .next t) : t.dev.Sound fz := by
  unfold step at h
  split at h
  · cases h; exact hk
  next c rest _ => exact exec_sound (s := { s with pending := rest }) hk h

end

/-- Settles O6: a step keeps `Dev.Sound` for the fuses the state begins with. -/
theorem onlyRepairsWriteFuses : Obligations.OnlyRepairsWriteFuses := by
  intro s t hwf hshaped hstep
  exact sound_fuses (step_sound (sound_own_fuses hwf hshaped) hstep)

end Sys2Proof.Machine
end

section
/-!
SUPPORT. Accesses of the host address space at a word address that is no defined register and lies in no window (R15).
-/

namespace Sys2Proof.Machine

/-- A word address outside every defined register and every window of this tile, the remote window of a manager included. -/
def Dev.reserved (d : Dev) (a : Nat) : Prop :=
  a < 0x2000 ∧ regDefined a = false ∨ 0x9000 ≤ a ∨ 0x2000 ≤ a ∧ a < 0x4000 ∧ d.isManager = false

/-- An address outside the remote window is read on this tile. -/
theorem Dev.readHost_eq_readLocal {d : Dev} {a : Nat} (rq : Requester) (h : d.inWindow a = false) :
    d.readHost rq a = d.readLocal rq a [] := by
  simp [Dev.readHost, Dev.goesRemote, h]

/-- An address outside the remote window is written on this tile. -/
theorem Dev.writeHost_eq_writeLocal {d : Dev} {a : Nat} (rq : Requester) (v : Word) (h : d.inWindow a = false) :
    d.writeHost rq a v = d.writeLocal rq a v := by
  simp [Dev.writeHost, Dev.goesRemote, h]

/-- A 16-bit address outside the remote window reaches the word of that address. -/
theorem Dev.localAddr_of_not_inWindow {d : Dev} {addr : BitVec 16} (h : d.inWindow addr.toNat = false) :
    d.localAddr (addr.toNat % 65536) = addr.toNat := by
  rw [Nat.mod_eq_of_lt addr.isLt]
  simp [Dev.localAddr, h]

theorem Dev.inWindow_of_reserved {d : Dev} {a : Nat} (h : d.reserved a) : d.inWindow a = false := by
  obtain ⟨hlow, -⟩ | hhigh | ⟨-, -, hrole⟩ := h
  · simp [Dev.inWindow, Nat.not_le_of_lt hlow]
  · simp [Dev.inWindow, show ¬ a < 0x4000 by omega]
  · simp [Dev.inWindow, hrole]

theorem Dev.readReg_of_undefined (d : Dev) (rq : Requester) {a : Nat} (h : regDefined a = false) :
    d.readReg rq a = (0, d) := if_pos h

theorem Dev.writeReg_of_undefined (d : Dev) (rq : Requester) {a : Nat} (v : Word) (h : regDefined a = false) :
    d.writeReg rq a v = d.ignoreWrite := if_pos (.inl h)

/-- A reserved address is below the windows and undefined, or outside the ranges of registers, memory window and ring. -/
theorem Dev.range_of_reserved {d : Dev} {a : Nat} (h : d.reserved a) :
    a < 0x2000 ∧ regDefined a = false ∨ ¬ a < 0x2000 ∧ ¬ (0x4000 ≤ a ∧ a < 0x8000) ∧ ¬ (0x8000 ≤ a ∧ a < 0x9000) := by
  obtain hlow | hhigh | ⟨hmin, hmax, -⟩ := h
  · exact .inl hlow
  · exact .inr (by omega)
  · exact .inr (by omega)

/-- A read of a reserved address answers 0 and changes nothing (R15). -/
theorem Dev.readHost_of_reserved {d : Dev} (rq : Requester) {addr : BitVec 16} (h : d.reserved addr.toNat) :
    d.readHost rq addr.toNat = (0, d) := by
  have hwin := Dev.inWindow_of_reserved h
  rw [Dev.readHost_eq_readLocal rq hwin]
  simp only [Dev.readLocal, Dev.localAddr_of_not_inWindow hwin]
  obtain ⟨hlow, hundef⟩ | ⟨hlow, hmem, hring⟩ := Dev.range_of_reserved h
  · simp [hlow, Dev.readReg_of_undefined d rq hundef]
  · simp [hlow, hmem, hring]

/-- A write of a reserved address, on a tile that is awake, is ignored and counted (R15). -/
theorem Dev.writeHost_of_reserved {d : Dev} (rq : Requester) {addr : BitVec 16} (v : Word) (hawake : d.asleep = false)
    (h : d.reserved addr.toNat) : d.writeHost rq addr.toNat v = d.ignoreWrite := by
  have hwin := Dev.inWindow_of_reserved h
  rw [Dev.writeHost_eq_writeLocal rq v hwin]
  simp only [Dev.writeLocal, Dev.localAddr_of_not_inWindow hwin, hawake]
  obtain ⟨hlow, hundef⟩ | ⟨hlow, hmem, -⟩ := Dev.range_of_reserved h
  · simp [hlow, Dev.writeReg_of_undefined d rq v hundef]
  · simp [hlow, hmem]

/-- An ignored write is one more in SYS_WRIGN, up to the field's limit. -/
theorem Dev.fld_ignoreWrite (d : Dev) :
    d.ignoreWrite.fld SYS_WRIGN_COUNT = min (d.fld SYS_WRIGN_COUNT + 1) (2 ^ SYS_WRIGN_COUNT.width - 1) :=
  Dev.fld_bump_same d SYS_WRIGN_COUNT (by decide)

/-- An ignored write changes SYS_WRIGN alone. -/
theorem Dev.leaves_ignoreWrite (d : Dev) : d.leaves d.ignoreWrite [SYS_WRIGN] :=
  leaves_bump (d.leaves_refl _) (by decide)

/-- Settles O15, from what a host read and a host write of a reserved address do. -/
theorem reservedAddresses : Obligations.ReservedAddresses := by
  intro s rq addr value hawake hreserved
  have hread := Dev.readHost_of_reserved (d := s.dev) rq hreserved
  have hwrite := Dev.writeHost_of_reserved (d := s.dev) rq value hawake hreserved
  refine ⟨hread, ?_, ?_⟩
  · exact completes_of (f := fun d => (d.readHost rq addr.toNat).2) rfl (congrArg Prod.snd hread)
  · refine completes_of (f := fun d => d.writeHost rq addr.toNat value) rfl ?_
    simp only [hwrite]
    exact ⟨s.dev.fld_ignoreWrite, s.dev.leaves_ignoreWrite⟩

end Sys2Proof.Machine
end

section
/-!
SUPPORT. Writes of EEPROM bytes, and a page write that is cut short, change nothing but the EEPROM and the model's own count of
free values.
-/

namespace Sys2Proof.Machine

/-- A write of EEPROM bytes changes the EEPROM alone. -/
theorem Dev.nvmWrite_eq (d : Dev) (a : Nat) (bs : List Byte) : d.nvmWrite a bs = { d with nvm := (d.nvmWrite a bs).nvm } := by
  induction bs generalizing d a with
  | nil => rfl
  | cons b rest ih => exact ih _ _

/-- What the EEPROM holds after a write depends on what it held alone. -/
theorem Dev.nvmWrite_nvm_congr {d e : Dev} (h : e.nvm = d.nvm) (a : Nat) (bs : List Byte) :
    (e.nvmWrite a bs).nvm = (d.nvmWrite a bs).nvm := by
  induction bs generalizing d e a with
  | nil => exact h
  | cons b rest ih => exact ih (by rw [h]) _

/-- Garbled bytes change the EEPROM and the count of free values alone. -/
theorem Dev.nvmGarble_eq (d : Dev) (a n : Nat) :
    d.nvmGarble a n = { d with nvm := (d.nvmGarble a n).nvm, free := (d.nvmGarble a n).free } := by
  induction n generalizing d a with
  | zero => rfl
  | succ n ih =>
    simp only [Dev.nvmGarble]
    rw [ih]
    rfl

theorem Dev.nvmGarble_nvm_congr {d e : Dev} (hnvm : e.nvm = d.nvm) (hfree : e.free = d.free) (a n : Nat) :
    (e.nvmGarble a n).nvm = (d.nvmGarble a n).nvm := by
  induction n generalizing d e a with
  | zero => exact hnvm
  | succ n ih =>
    simp only [Dev.nvmGarble, Dev.draw, hfree]
    refine ih (Dev.nvmWrite_nvm_congr (e := { e with free := d.free + 1 }) (d := { d with free := d.free + 1 }) hnvm a _) ?_ _
    rw [Dev.nvmWrite_eq, Dev.nvmWrite_eq { d with free := d.free + 1 }]

/-- A torn page changes the EEPROM and the count of free values alone. -/
theorem Dev.nvmTorn_eq (d : Dev) : d.nvmTorn = { d with nvm := d.nvmTorn.nvm, free := d.nvmTorn.free } := by
  unfold Dev.nvmTorn
  split
  · rfl
  · exact Dev.nvmGarble_eq ..

theorem Dev.nvmTorn_fuses (d : Dev) : d.nvmTorn.fuses = d.fuses := by rw [Dev.nvmTorn_eq]

/-- The page in write is known from the controller, the proxy, the log's list of pages and the registers of its head. -/
theorem Dev.pageInWrite_congr {d e : Dev} (htwb : e.twb = d.twb) (hboot : e.boot = d.boot) (hcal : e.cal = d.cal)
    (hhead : e.reg CAL_LOGSTAT = d.reg CAL_LOGSTAT) : e.pageInWrite = d.pageInWrite := by
  simp only [Dev.pageInWrite, Dev.nvpWrites, Dev.fld, htwb, hboot, hcal, hhead]
  rfl

theorem Dev.nvmTorn_nvm_congr {d e : Dev} (hpage : e.pageInWrite = d.pageInWrite) (hnvm : e.nvm = d.nvm)
    (hfree : e.free = d.free) : e.nvmTorn.nvm = d.nvmTorn.nvm := by
  simp only [Dev.nvmTorn, hpage]
  cases d.pageInWrite with
  | none => exact hnvm
  | some p => exact Dev.nvmGarble_nvm_congr hnvm hfree _ _

end Sys2Proof.Machine
end

section
/-!
SUPPORT. What a reset records, clears and keeps (R114, R117, R413), and what the release of one leaves (R56 to R61, R99).
-/

namespace Sys2Proof.Machine

/-! The record of a cause (R114, R117). -/

section

variable {d : Dev} {code : Nat}

/-- The codes 2 to 7: a reset that is neither a power-on nor a core watchdog. -/
def resetCode (code : Nat) : Prop := 2 ≤ code ∧ code ≤ 7

/-- A cause of codes 2 to 7, alone in its cycle: its sticky bit, LAST, and one more in RESETS. -/
theorem Dev.recordReset_eq (hcode : resetCode code) (hcycle : d.sameCycle = none) :
    d.recordReset code = (((d.setPwr { d.pwr with causeAt := some (d.ticks, code) }).setFld SYS_RSTCAUSE_STICKY
      (d.fld SYS_RSTCAUSE_STICKY ||| 2 ^ (code - 1))).setFld SYS_RSTCAUSE_LAST
      ((d.pwr.held.map (min · code)).getD code)).bump SYS_RSTCNT_RESETS := by
  obtain ⟨hmin, hmax⟩ := hcode
  simp only [Dev.recordReset, hcycle, show code ≠ 8 by omega, show code ≠ 1 by omega, if_false]
  rfl

theorem Dev.leaves_recordReset (hcode : resetCode code) (hcycle : d.sameCycle = none) :
    d.leaves (d.recordReset code) [SYS_RSTCAUSE, SYS_RSTCNT] := by
  rw [Dev.recordReset_eq hcode hcycle]
  have hpwr : d.leaves (d.setPwr { d.pwr with causeAt := some (d.ticks, code) }) [SYS_RSTCAUSE, SYS_RSTCNT] := d.leaves_refl _
  exact leaves_bump (leaves_setFld (leaves_setFld hpwr (by decide)) (by decide)) (by decide)

theorem Dev.recordReset_last (hcode : resetCode code) (hcycle : d.sameCycle = none) :
    (d.recordReset code).fld SYS_RSTCAUSE_LAST =
      (d.pwr.held.map (min · code)).getD code % 2 ^ SYS_RSTCAUSE_LAST.width := by
  rw [Dev.recordReset_eq hcode hcycle, Dev.fld_bump_apart _ (by decide) (by decide), Dev.fld_setFld_same _ _ _ (by decide)]

theorem Dev.recordReset_sticky (hcode : resetCode code) (hcycle : d.sameCycle = none) :
    (d.recordReset code).fld SYS_RSTCAUSE_STICKY = d.fld SYS_RSTCAUSE_STICKY ||| 2 ^ (code - 1) := by
  rw [Dev.recordReset_eq hcode hcycle, Dev.fld_bump_apart _ (by decide) (by decide),
    Dev.fld_setFld_apart _ _ (by decide) (by decide), Dev.fld_setFld_same _ _ _ (by decide)]
  obtain ⟨hmin, hmax⟩ := hcode
  exact Nat.mod_eq_of_lt (Nat.or_lt_two_pow (wGet_lt ..) (Nat.pow_lt_pow_right (by decide) (by simp only; omega)))

theorem Dev.recordReset_resets (hcode : resetCode code) (hcycle : d.sameCycle = none) :
    (d.recordReset code).fld SYS_RSTCNT_RESETS =
      min (d.fld SYS_RSTCNT_RESETS + 1) (2 ^ SYS_RSTCNT_RESETS.width - 1) := by
  rw [Dev.recordReset_eq hcode hcycle, Dev.fld_bump_same _ _ (by decide), Dev.fld_setFld_apart _ _ (by decide) (by decide),
    Dev.fld_setFld_apart _ _ (by decide) (by decide)]
  rfl

/-- The record of a cause does not change which page is in write, or what tears in it. -/
theorem Dev.recordReset_nvmTorn (hcode : resetCode code) (hcycle : d.sameCycle = none) :
    (d.recordReset code).nvmTorn.nvm = d.nvmTorn.nvm := by
  have hlog : (d.recordReset code).reg CAL_LOGSTAT = d.reg CAL_LOGSTAT :=
    (Dev.leaves_recordReset hcode hcycle).1 _ (by decide)
  refine Dev.nvmTorn_nvm_congr (Dev.pageInWrite_congr ?_ ?_ ?_ hlog) ?_ ?_
  all_goals
    rw [Dev.recordReset_eq hcode hcycle]
    rfl

theorem Dev.recordReset_time (hcode : resetCode code) (hcycle : d.sameCycle = none) :
    (d.recordReset code).time = d.time := by rw [Dev.recordReset_eq hcode hcycle]; rfl

theorem Dev.recordReset_fuses (hcode : resetCode code) (hcycle : d.sameCycle = none) :
    (d.recordReset code).fuses = d.fuses := by rw [Dev.recordReset_eq hcode hcycle]; rfl

end

/-! What a reset clears and keeps (R114, R413). -/

theorem Dev.reg_setPwr (d : Dev) (p : Power) (a : Nat) : (d.setPwr p).reg a = d.reg a := rfl


/-- Every register but SYS_SUPPLY is at its reset word in the cleared machine. -/
theorem Dev.reg_blank (d : Dev) {a : Nat} (h : a ≠ SYS_SUPPLY) : d.blank.reg a = regReset a := by
  simp only [Dev.blank, Dev.reg_setReg, if_neg h]
  rfl

/-- The registers that a reset other than a power-on reset keeps, whole or in part. -/
def keptRegs : List Nat :=
  [SYS_RSTCAUSE, SYS_RSTCNT, SYS_SUPPLY, TIME_STEPCNT, TIME_ALM_FRAC, TIME_ALM_SECL, TIME_ALM_SECH, TIME_ALM_CTRL, LAMP_TRIP]

/-- The registers that such a reset keeps whole, armed alarm or not. -/
def keptWhole : List Nat := [SYS_RSTCAUSE, SYS_RSTCNT, TIME_STEPCNT, LAMP_TRIP]

theorem Dev.reg_keptAcross (d n : Dev) {a : Nat} (h : a ∉ keptRegs) : (d.keptAcross n).reg a = n.reg a := by
  simp only [keptRegs, List.mem_cons, List.not_mem_nil, or_false, not_or] at h
  obtain ⟨hcause, hcnt, hsupply, hstep, hfrac, hsecl, hsech, hctrl, htrip⟩ := h
  cases harm : d.flag TIME_ALM_CTRL_ARM
  all_goals
    simp only [Dev.keptAcross, harm, Dev.reg_setPwr, Dev.reg_setReg, Dev.setFlag, Dev.setFld, hcause, hcnt, hsupply, hstep,
      hfrac, hsecl, hsech, hctrl, htrip, if_false, if_true]
    rfl

theorem Dev.reg_keptAcross_whole (d n : Dev) {a : Nat} (h : a ∈ keptWhole) : (d.keptAcross n).reg a = d.reg a := by
  simp only [keptWhole, List.mem_cons, List.not_mem_nil, or_false] at h
  obtain rfl | rfl | rfl | rfl := h
  all_goals simp [Dev.keptAcross, Dev.reg_setPwr]

/-- Beside registers, the time base and the watchdog's ticks, the machine is the cleared one. -/
theorem Dev.keptAcross_eq (d n : Dev) : d.keptAcross n = { n with
    regs := (d.keptAcross n).regs, time := (d.keptAcross n).time, pwr := { n.pwr with wdTicks := d.pwr.wdTicks } } := by
  cases harm : d.flag TIME_ALM_CTRL_ARM <;> (simp only [Dev.keptAcross, harm]; rfl)

theorem Dev.keptAcross_value (d n : Dev) : (d.keptAcross n).time.sec = d.time.sec ∧ (d.keptAcross n).time.frac = d.time.frac ∧
    (d.keptAcross n).time.epoch = d.time.epoch := by
  cases harm : d.flag TIME_ALM_CTRL_ARM <;> (simp only [Dev.keptAcross, harm]; exact ⟨rfl, rfl, rfl⟩)

/-! Entry into a reset (R101, R109, R114, R117). -/

section

variable {d : Dev} {code : Nat}

/-- A reset of codes 2 to 7 during one in progress: the cause is recorded, and the reset goes on under the lower code. -/
theorem Dev.enterReset_of_held {c : Nat} (hcode : resetCode code) (hheld : d.pwr.held = some c) :
    d.enterReset code = (d.recordReset code).setPwr { (d.recordReset code).pwr with held := some (min c code) } := by
  obtain ⟨hmin, hmax⟩ := hcode
  simp only [Dev.enterReset, show code ≠ 1 by omega, if_false, hheld]

theorem Dev.enterReset_of_free (hcode : resetCode code) (hheld : d.pwr.held = none) :
    d.enterReset code =
      let n := (d.recordReset code).keptAcross (d.recordReset code).nvmTorn.blank
      n.setPwr { n.pwr with held := some code, step := 1 } := by
  obtain ⟨hmin, hmax⟩ := hcode
  simp only [Dev.enterReset, show code ≠ 1 by omega, if_false, hheld]

/-- A power-on reset clears everything but what no reset touches. -/
theorem Dev.enterReset_powerOn (d : Dev) : (d.enterReset 1).pwr.held = some 1 ∧
    (∀ a, a ≠ SYS_SUPPLY → (d.enterReset 1).reg a = regReset a) ∧
    (d.enterReset 1).time = {} ∧ (d.enterReset 1).nvm = d.nvmTorn.nvm ∧ (d.enterReset 1).fuses = d.fuses :=
  ⟨rfl, fun _ ha => d.nvmTorn.reg_blank ha, rfl, rfl, d.nvmTorn_fuses⟩

theorem Dev.enterReset_held_eq_code (hcode : resetCode code) (hheld : d.pwr.held = none) :
    (d.enterReset code).pwr.held = some code ∧ (d.enterReset code).pwr.step = 1 ∧ (d.enterReset code).pwr.swReset = none := by
  rw [Dev.enterReset_of_free hcode hheld, Dev.keptAcross_eq]
  exact ⟨rfl, rfl, rfl⟩

theorem Dev.reg_enterReset (hcode : resetCode code) (hheld : d.pwr.held = none) {a : Nat} (ha : a ∉ keptRegs) :
    (d.enterReset code).reg a = regReset a := by
  rw [Dev.enterReset_of_free hcode hheld, Dev.reg_setPwr, Dev.reg_keptAcross _ _ ha]
  exact Dev.reg_blank _ fun h => ha (h ▸ by decide)

theorem Dev.reg_enterReset_kept (hcode : resetCode code) (hheld : d.pwr.held = none) {a : Nat} (ha : a ∈ keptWhole) :
    (d.enterReset code).reg a = (d.recordReset code).reg a := by
  rw [Dev.enterReset_of_free hcode hheld, Dev.reg_setPwr, Dev.reg_keptAcross_whole _ _ ha]

theorem Dev.fld_enterReset_kept (hcode : resetCode code) (hheld : d.pwr.held = none) {f : Fld} (hf : f.addr ∈ keptWhole) :
    (d.enterReset code).fld f = (d.recordReset code).fld f := by
  rw [Dev.fld, Dev.reg_enterReset_kept hcode hheld hf]
  rfl

theorem Dev.enterReset_value (hcode : resetCode code) (hheld : d.pwr.held = none) (hcycle : d.sameCycle = none) :
    (d.enterReset code).time.sec = d.time.sec ∧ (d.enterReset code).time.frac = d.time.frac ∧
      (d.enterReset code).time.epoch = d.time.epoch := by
  rw [Dev.enterReset_of_free hcode hheld, ← Dev.recordReset_time hcode hcycle]
  exact Dev.keptAcross_value _ _

theorem Dev.enterReset_nvm (hcode : resetCode code) (hheld : d.pwr.held = none) (hcycle : d.sameCycle = none) :
    (d.enterReset code).nvm = d.nvmTorn.nvm := by
  rw [Dev.enterReset_of_free hcode hheld, Dev.keptAcross_eq, ← Dev.recordReset_nvmTorn hcode hcycle]
  rfl

theorem Dev.enterReset_fuses (hcode : resetCode code) (hheld : d.pwr.held = none) (hcycle : d.sameCycle = none) :
    (d.enterReset code).fuses = d.fuses := by
  rw [Dev.enterReset_of_free hcode hheld, Dev.keptAcross_eq, ← Dev.recordReset_fuses hcode hcycle]
  exact Dev.nvmTorn_fuses _

/-- What a reset of a code that is entered at d leaves in t: the record, and what it clears and keeps. -/
def Dev.ClearsAndKeeps (d t : Dev) (code : Nat) : Prop :=
  t.fld SYS_RSTCAUSE_LAST = code ∧
  t.fld SYS_RSTCAUSE_STICKY = d.fld SYS_RSTCAUSE_STICKY ||| 2 ^ (code - 1) ∧
  t.fld SYS_RSTCNT_RESETS = min (d.fld SYS_RSTCNT_RESETS + 1) (2 ^ SYS_RSTCNT_RESETS.width - 1) ∧
  t.time.sec = d.time.sec ∧ t.time.frac = d.time.frac ∧ t.time.epoch = d.time.epoch ∧
  t.reg TIME_STEPCNT = d.reg TIME_STEPCNT ∧ t.reg LAMP_TRIP = d.reg LAMP_TRIP ∧
  (∀ a, a ∉ keptRegs → t.reg a = regReset a) ∧
  t.nvm = d.nvmTorn.nvm ∧ t.fuses = d.fuses

/-- A code of 2 to 7 is its own value in LAST. -/
theorem Dev.enterReset_last (hcode : resetCode code) (hheld : d.pwr.held = none) (hcycle : d.sameCycle = none) :
    (d.enterReset code).fld SYS_RSTCAUSE_LAST = code := by
  rw [Dev.fld_enterReset_kept hcode hheld (by decide), Dev.recordReset_last hcode hcycle, hheld]
  obtain ⟨hmin, hmax⟩ := hcode
  exact Nat.mod_eq_of_lt (show code < 16 by omega)

theorem Dev.enterReset_clearsAndKeeps (hcode : resetCode code) (hheld : d.pwr.held = none) (hcycle : d.sameCycle = none)
    (p : Power) : d.ClearsAndKeeps ((d.enterReset code).setPwr p) code := by
  obtain ⟨hsec, hfrac, hepoch⟩ := Dev.enterReset_value hcode hheld hcycle
  have hrest := (Dev.leaves_recordReset hcode hcycle).1
  refine ⟨Dev.enterReset_last hcode hheld hcycle, ?_, ?_, hsec, hfrac, hepoch, ?_, ?_,
    fun a ha => Dev.reg_enterReset hcode hheld ha, Dev.enterReset_nvm hcode hheld hcycle,
    Dev.enterReset_fuses hcode hheld hcycle⟩
  · exact (Dev.fld_enterReset_kept hcode hheld (by decide)).trans (Dev.recordReset_sticky hcode hcycle)
  · exact (Dev.fld_enterReset_kept hcode hheld (by decide)).trans (Dev.recordReset_resets hcode hcycle)
  · exact (Dev.reg_enterReset_kept hcode hheld (by decide)).trans (hrest _ (by decide))
  · exact (Dev.reg_enterReset_kept hcode hheld (by decide)).trans (hrest _ (by decide))

/-- A cause that comes while a reset is in progress is recorded, and nothing else changes but the part of the supplies. -/
theorem Dev.enterReset_records {h : Nat} (hcode : resetCode code) (hheld : d.pwr.held = some h)
    (hcycle : d.sameCycle = none) (p : Power) :
    ((d.enterReset code).setPwr p).fld SYS_RSTCAUSE_LAST = min h code % 2 ^ SYS_RSTCAUSE_LAST.width ∧
    ((d.enterReset code).setPwr p).fld SYS_RSTCAUSE_STICKY = d.fld SYS_RSTCAUSE_STICKY ||| 2 ^ (code - 1) ∧
    d.leaves ((d.enterReset code).setPwr p) [SYS_RSTCAUSE, SYS_RSTCNT] := by
  have hlast := Dev.recordReset_last hcode hcycle
  rw [hheld] at hlast
  rw [Dev.enterReset_of_held hcode hheld]
  exact ⟨hlast, Dev.recordReset_sticky hcode hcycle, Dev.leaves_recordReset hcode hcycle⟩

end

/-- A VDD brown-out has code 2 and the reset pin code 4 (R114). -/
theorem resetCode_of_mem {c : Instr} {code : Nat} (h : (c, code) ∈ [(Instr.vddBrownOut, 2), (Instr.resetPin, 4)]) :
    resetCode code := by
  simp only [List.mem_cons, Prod.mk.injEq, List.not_mem_nil, or_false] at h
  obtain ⟨-, rfl⟩ | ⟨-, rfl⟩ := h
  · exact ⟨by decide, by decide⟩
  · exact ⟨by decide, by decide⟩

/-- Settles O8: what a power-on reset clears, what one of codes 2 to 7 clears and keeps, and what is recorded while a reset is
in progress; the brown-out and the pin differ in the supply and the ball that they note beside it. -/
theorem resetsClearAndKeep : Obligations.ResetsClearAndKeep := by
  intro s
  refine ⟨?_, ?_, ?_, ?_⟩
  · obtain ⟨hheld, hregs, htime, hnvm, hfuses⟩ := s.dev.enterReset_powerOn
    refine completes_of (f := fun d => let d := d.enterReset 1; d.setPwr { d.pwr with vddGood := false }) rfl ?_
    exact ⟨hheld, rfl, hregs, congrArg (·.sec) htime, congrArg (·.frac) htime, congrArg (·.epoch) htime, hnvm, hfuses⟩
  · obtain ⟨hheld, hregs, htime, hnvm, hfuses⟩ := s.dev.enterReset_powerOn
    refine completes_of (f := fun d => let d := d.enterReset 1
      (d.setPwr { d.pwr with vddaGood := false }).setFlag SYS_SUPPLY_VDDA_OK false) rfl ?_
    refine ⟨hheld, rfl, Dev.flag_setFlag_same _ _ _ (by decide) (by decide), fun a ha => ?_, congrArg (·.sec) htime,
      congrArg (·.frac) htime, congrArg (·.epoch) htime, hnvm, hfuses⟩
    exact (Dev.reg_setFld_ne _ _ _ ha).trans (hregs a ha)
  · intro c code hc hheld hcycle
    have hcode := resetCode_of_mem hc
    obtain ⟨hset, hstep, -⟩ := Dev.enterReset_held_eq_code hcode hheld
    have hkeeps := Dev.enterReset_clearsAndKeeps hcode hheld hcycle
    simp only [List.mem_cons, Prod.mk.injEq, List.not_mem_nil, or_false] at hc
    obtain ⟨rfl, rfl⟩ | ⟨rfl, rfl⟩ := hc
    · exact ⟨_, rfl, hset, hstep, fun _ => rfl, nofun, hkeeps _⟩
    · exact ⟨_, rfl, hset, hstep, nofun, fun _ => rfl, hkeeps _⟩
  · intro c code hc h hheld hcycle
    have hcode := resetCode_of_mem hc
    have hset : (s.dev.enterReset code).pwr.held = some (min h code) := by rw [Dev.enterReset_of_held hcode hheld]; rfl
    have hrecords := Dev.enterReset_records hcode hheld hcycle
    simp only [List.mem_cons, Prod.mk.injEq, List.not_mem_nil, or_false] at hc
    obtain ⟨rfl, rfl⟩ | ⟨rfl, rfl⟩ := hc
    · exact ⟨_, rfl, hset, fun _ => rfl, nofun, hrecords _⟩
    · exact ⟨_, rfl, hset, nofun, fun _ => rfl, hrecords _⟩

end Sys2Proof.Machine
end

section
/-!
SUPPORT. The release of a reset: strap sampling (R56 to R61), and what stands at step 3 of start-up (R99, R127).
-/

namespace Sys2Proof.Machine

/-- Sampling the straps writes SYS_STRAP, and changes else what an event may change, for STRAP_FALLBACK. -/
theorem Dev.sampleStraps_near (d : Dev) (reads : List Byte) : ∃ rs w,
    ((d.setPwr { d.pwr with strapReads := rs }).setReg SYS_STRAP w).Near (d.sampleStraps reads) := by
  simp only [Dev.sampleStraps]
  generalize (if reads.isEmpty = true then d.pwr.strapReads else reads) = rs
  split
  · exact ⟨rs, _, Dev.Near.rfl _⟩
  · exact ⟨rs, _, near_ring (Dev.Near.rfl _)⟩

/-- A release samples the straps at step 2 and begins step 3 with VCORE not yet good. -/
theorem Dev.release_near (d : Dev) (reads : List Byte) : ∃ e rs w,
    ((d.setPwr { d.pwr with held := none, step := 2, strapReads := rs }).setReg SYS_STRAP w).Near e ∧
      d.release reads = (e.setPwr { e.pwr with step := 3 }).setFlag SYS_SUPPLY_VCORE_OK false := by
  obtain ⟨rs, w, hnear⟩ := (d.setPwr { d.pwr with held := none, step := 2 }).sampleStraps_near reads
  exact ⟨_, rs, w, hnear, rfl⟩

/-- A release ends the reset in progress and leaves start-up at step 3, its other marks as they were. -/
theorem Dev.release_pwr (d : Dev) (reads : List Byte) : ∃ rs,
    (d.release reads).pwr = { d.pwr with held := none, step := 3, strapReads := rs } := by
  obtain ⟨e, rs, w, ⟨-, -, hquiet⟩, heq⟩ := d.release_near reads
  have hpwr : e.pwr = { d.pwr with held := none, step := 2, strapReads := rs } := (congrArg Dev.pwr hquiet :)
  rw [heq, Dev.setFlag_pwr, Dev.setPwr_pwr, hpwr]
  exact ⟨rs, rfl⟩

theorem Dev.release_vcoreOk (d : Dev) (reads : List Byte) : (d.release reads).flag SYS_SUPPLY_VCORE_OK = false :=
  Dev.flag_setFlag_same _ _ _ (by decide) (by decide)

theorem Dev.reg_release (d : Dev) (reads : List Byte) {a : Nat} (hstrap : a ≠ SYS_STRAP) (hsupply : a ≠ SYS_SUPPLY)
    (hring : a ∉ ringRegs) : (d.release reads).reg a = d.reg a := by
  obtain ⟨e, rs, w, ⟨hregs, -, -⟩, heq⟩ := d.release_near reads
  rw [heq, Dev.setFlag, Dev.reg_setFld_ne _ _ _ hsupply, Dev.reg_setPwr, hregs a hring, Dev.reg_setReg, if_neg hstrap,
    Dev.reg_setPwr]

theorem Dev.release_nvm (d : Dev) (reads : List Byte) : (d.release reads).nvm = d.nvm := by
  obtain ⟨e, rs, w, ⟨-, -, hquiet⟩, heq⟩ := d.release_near reads
  rw [heq]
  exact (congrArg Dev.nvm hquiet :)

theorem Dev.release_value (d : Dev) (reads : List Byte) :
    (d.release reads).time.sec = d.time.sec ∧ (d.release reads).time.frac = d.time.frac := by
  obtain ⟨e, rs, w, ⟨-, -, hquiet⟩, heq⟩ := d.release_near reads
  rw [heq]
  exact ⟨(congrArg (fun e : Dev => e.time.sec) hquiet :), (congrArg (fun e : Dev => e.time.frac) hquiet :)⟩

/-- Start-up stands at step 3, with no reset in progress and VCORE not yet good. -/
def Dev.AtStepThree (t : Dev) : Prop := t.pwr.held = none ∧ t.pwr.step = 3 ∧ t.flag SYS_SUPPLY_VCORE_OK = false

theorem Dev.release_atStepThree (d : Dev) (reads : List Byte) : (d.release reads).AtStepThree := by
  obtain ⟨rs, hpwr⟩ := d.release_pwr reads
  exact ⟨by rw [hpwr], by rw [hpwr], d.release_vcoreOk reads⟩

/-! One stable attempt (R56, R57, R60, R61). -/

/-- SYS_STRAP after one attempt whose reads are all stable. -/
def strapWord (role : Nat) (boot svc : Bool) : Word :=
  pack [(0, 9), (0, 8), (0, 7), (1, 4), (bit svc, 3), (bit boot, 2), (role, 0)]

theorem strapRole_lt {r : Byte} {role : Nat} (h : strapRole r = some role) : role < 3 := by
  have hdecode : ∀ up down, decodeRole up down = some role → role < 3 := by
    intro up down hup
    cases up <;> cases down <;> simp only [decodeRole, Option.some.injEq, reduceCtorEq] at hup <;> omega
  simp only [strapRole] at h
  split at h
  · exact hdecode _ _ h
  · cases h

theorem strapWord_fields : ∀ role < 3, ∀ boot svc, wGet (strapWord role boot svc) 0 2 = role % 4 ∧
    wGet (strapWord role boot svc) 2 1 = bit boot ∧ wGet (strapWord role boot svc) 3 1 = bit svc ∧
    wGet (strapWord role boot svc) 4 3 = 1 := by decide

/-- One stable read of the balls ends the sampling at once, with no fallback. -/
theorem Dev.sampleStraps_stable (d : Dev) {r : Byte} {role : Nat} {boot svc : Bool} (hrole : strapRole r = some role)
    (hboot : strapBoot r = some boot) (hsvc : strapSvc r = some svc) :
    d.sampleStraps [r] = (d.setPwr { d.pwr with strapReads := [r] }).setReg SYS_STRAP (strapWord role boot svc) := by
  have hstable : strapStable r = true := by simp [strapStable, hrole, hboot, hsvc]
  simp [Dev.sampleStraps, strapAttempts, hstable, hrole, hboot, hsvc, strapWord, bit]

theorem Dev.release_stable (d : Dev) {r : Byte} {role : Nat} {boot svc : Bool} (hrole : strapRole r = some role)
    (hboot : strapBoot r = some boot) (hsvc : strapSvc r = some svc) :
    (d.release [r]).reg SYS_STRAP = strapWord role boot svc := by
  simp only [Dev.release, Dev.sampleStraps_stable _ hrole hboot hsvc]
  rw [Dev.setFlag, Dev.reg_setFld_ne _ _ _ (by decide), Dev.reg_setPwr, Dev.reg_setReg, if_pos rfl]

/-! A reset that runs from step 2 at once (R103, R111, R127). -/

section

variable {d : Dev} {code : Nat} (hcode : resetCode code) (hheld : d.pwr.held = none) (hcycle : d.sameCycle = none)

include hheld in
theorem Dev.resetNow_of_free : d.resetNow code = (d.enterReset code).release [] := by
  simp [Dev.resetNow, hheld]

include hcode hheld hcycle in
/-- A reset that runs at once leaves start-up at step 3, its code in LAST, a page in write torn, and nothing asked for. -/
theorem Dev.resetNow_ends : (d.resetNow code).pwr.held = none ∧ (d.resetNow code).pwr.step = 3 ∧
    (d.resetNow code).fld SYS_RSTCAUSE_LAST = code ∧ (d.resetNow code).nvm = d.nvmTorn.nvm ∧
    (d.resetNow code).pwr.swReset = none := by
  obtain ⟨-, -, hasked⟩ := Dev.enterReset_held_eq_code hcode hheld
  obtain ⟨rs, hpwr⟩ := (d.enterReset code).release_pwr []
  rw [Dev.resetNow_of_free hheld]
  refine ⟨by rw [hpwr], by rw [hpwr], ?_, ?_, by rw [hpwr]; exact hasked⟩
  · rw [Dev.fld, Dev.reg_release _ _ (by decide) (by decide) (by decide)]
    exact Dev.enterReset_last hcode hheld hcycle
  · rw [Dev.release_nvm, Dev.enterReset_nvm hcode hheld hcycle]

include hcode hheld hcycle in
theorem Dev.resetNow_value :
    (d.resetNow code).time.sec = d.time.sec ∧ (d.resetNow code).time.frac = d.time.frac := by
  obtain ⟨hsec, hfrac, -⟩ := Dev.enterReset_value hcode hheld hcycle
  rw [Dev.resetNow_of_free hheld, ← hsec, ← hfrac]
  exact Dev.release_value _ _

end

/-! A write of SYS_CTRL (R111). -/

/-- The key and SWRST of R111 stand in the written word. -/
def swrstKeyed (v : Word) : Prop := wGet v 16 8 = 0xA5 ∧ wGet v 0 1 = 1

theorem Dev.writeSysCtrl_of_unkeyed (d : Dev) (rq : Requester) {v : Word} (h : ¬ swrstKeyed v) :
    d.writeSysCtrl rq v = d.ignoreWrite := if_neg h

/-- The two-wire target and the console reset at once. -/
theorem Dev.writeSysCtrl_now (d : Dev) {rq : Requester} {v : Word} (h : swrstKeyed v) (hrq : rq = .twoWire ∨ rq = .console) :
    d.writeSysCtrl rq v = d.resetNow 6 := by
  obtain rfl | rfl := hrq
  · exact if_pos h
  · exact if_pos h

/-- USB and the remote window ask for the reset. -/
theorem Dev.writeSysCtrl_asks (d : Dev) {rq : Requester} {v : Word} (h : swrstKeyed v) (hrq : rq = .usb ∨ rq = .remote) :
    d.writeSysCtrl rq v = d.setPwr { d.pwr with swReset := some rq } := by
  obtain rfl | rfl := hrq
  · exact if_pos h
  · exact if_pos h

/-- Settles O9: the two releases by what a release leaves, the resets that run at once by what resetNow leaves. -/
theorem resetsEndInStepThree : Obligations.ResetsEndInStepThree := by
  intro s
  refine ⟨?_, ?_, ?_, ?_, ?_, ?_, ?_⟩
  · intro straps hheld hvdd hvdda hlow
    have hexec : exec (.powerOnRelease straps) s = s.run fun d => d.release straps := by
      show execPowerOnRelease straps s = _
      simp [execPowerOnRelease, hheld, hvdd, hvdda, hlow]
    obtain ⟨hnone, hstep, hvcore⟩ := s.dev.release_atStepThree straps
    refine completes_of hexec ⟨hnone, hstep, hvcore, ?_⟩
    rintro r role boot svc rfl hrole hboot hsvc
    obtain ⟨hfrole, hfboot, hfsvc, hftries⟩ := strapWord_fields role (strapRole_lt hrole) boot svc
    simp only [Dev.fld, s.dev.release_stable hrole hboot hsvc]
    exact ⟨hfrole, hfboot, hfsvc, hftries⟩
  · intro straps code hlow hheld hcode
    have hexec : exec (.resetRelease straps) s =
        s.run fun d => (d.setPwr { d.pwr with resetLow := false }).release straps := by
      show execResetRelease straps s = _
      simp [execResetRelease, hlow, hheld, Nat.not_le_of_lt hcode]
    obtain ⟨rs, hpwr⟩ := (s.dev.setPwr { s.dev.pwr with resetLow := false }).release_pwr straps
    refine completes_of hexec ⟨?_, Dev.release_atStepThree _ straps⟩
    rw [hpwr]
    rfl
  · intro hheld hcycle hstep
    have hexec : exec .vcoreBrownOut s = s.run fun d => d.resetNow 3 := by
      show execVcoreBrownOut s = _
      simp [execVcoreBrownOut, hstep]
    have hcode : resetCode 3 := ⟨by decide, by decide⟩
    obtain ⟨hnone, hthree, hlast, hnvm, -⟩ := Dev.resetNow_ends hcode hheld hcycle
    exact completes_of hexec ⟨hnone, hthree, hlast, hnvm, Dev.resetNow_value hcode hheld hcycle⟩
  · intro rq value hkey hbit hrq hheld hcycle
    obtain ⟨hnone, hthree, hlast, hnvm, -⟩ := Dev.resetNow_ends (code := 6) ⟨by decide, by decide⟩ hheld hcycle
    refine completes_of (f := fun d => d.writeSysCtrl rq value) rfl ?_
    rw [Dev.writeSysCtrl_now _ ⟨hkey, hbit⟩ hrq]
    exact ⟨hnone, hthree, hlast, hnvm⟩
  · intro rq value hkey hbit hrq
    refine completes_of (f := fun d => d.writeSysCtrl rq value) rfl ?_
    rw [Dev.writeSysCtrl_asks _ ⟨hkey, hbit⟩ hrq]
    exact ⟨rfl, s.dev.leaves_refl _⟩
  · intro rq value hunkeyed
    refine completes_of (f := fun d => d.writeSysCtrl rq value) rfl ?_
    rw [Dev.writeSysCtrl_of_unkeyed _ _ hunkeyed]
    exact ⟨s.dev.fld_ignoreWrite, s.dev.leaves_ignoreWrite⟩
  · intro hasked hheld hcycle
    obtain ⟨hnone, hthree, hlast, hnvm, hdone⟩ := Dev.resetNow_ends (code := 6) ⟨by decide, by decide⟩ hheld hcycle
    refine completes_of (f := Dev.performReset) rfl ?_
    rw [Dev.performReset, if_pos (Option.isSome_iff_ne_none.mpr hasked)]
    exact ⟨hdone, hnone, hthree, hlast, hnvm⟩

end Sys2Proof.Machine
end

section
/-!
SUPPORT. The NVM proxy: what a command that is accepted copies, and what the end of one shows (R150 to R154).
-/

namespace Sys2Proof.Machine

variable {d : Dev}

/-! The start of a command (R150, R153). -/

/-- The word that a proxy command writes to SYS_NVP_CMD. -/
def nvpWord (key : Byte) (op : Nat) : Word := pack [(key.toNat, 16), (op, 0)]

theorem nvpWord_toNat (key : Byte) {op : Nat} (h : op ≤ 4) : (nvpWord key op).toNat = key.toNat * 65536 + op := by
  have hkey := key.isLt
  simp only [nvpWord, pack, List.foldl, BitVec.toNat_ofNat]
  omega

theorem nvpWord_op (key : Byte) {op : Nat} (h : op ≤ 4) : wGet (nvpWord key op) 0 4 = op := by
  simp only [wGet, nvpWord_toNat key h, Nat.shiftRight_eq_div_pow]
  omega

theorem nvpWord_key (key : Byte) {op : Nat} (h : op ≤ 4) : wGet (nvpWord key op) 16 8 = key.toNat := by
  have hkey := key.isLt
  simp only [wGet, nvpWord_toNat key h, Nat.shiftRight_eq_div_pow]
  omega

/-- The four commands of the proxy are writes of SYS_NVP_CMD. -/
theorem exec_nvp {key : Byte} {op : Nat} {c : Instr} (s : State) (h : (op, c) ∈ [(1, Instr.nvpRead key), (2, .nvpWrite key),
    (3, .nvpVerify key), (4, .nvpInvalidate key)]) :
    (1 ≤ op ∧ op ≤ 4) ∧ exec c s = s.run fun d => d.writeNvpCmd (nvpWord key op) := by
  simp only [List.mem_cons, Prod.mk.injEq, List.not_mem_nil, or_false] at h
  obtain ⟨rfl, rfl⟩ | ⟨rfl, rfl⟩ | ⟨rfl, rfl⟩ | ⟨rfl, rfl⟩ := h
  all_goals exact ⟨by decide, rfl⟩

/-- With BUSY 0, and the key where the operation wants it, the command begins. -/
theorem Dev.writeNvpCmd_begins {key : Byte} {op : Nat} (hop : 1 ≤ op ∧ op ≤ 4) (hbusy : d.flag SYS_NVP_STAT_BUSY = false)
    (hkey : op = 2 ∨ op = 4 → key = 0x5A) : d.writeNvpCmd (nvpWord key op) = d.nvpBegin op := by
  have hkeyed : ¬ ((op = 2 ∨ op = 4) ∧ key.toNat ≠ 0x5A) := by
    rintro ⟨hwrites, hne⟩
    exact hne (congrArg BitVec.toNat (hkey hwrites))
  simp only [Dev.writeNvpCmd, nvpWord_op key hop.2, nvpWord_key key hop.2, hbusy, Bool.false_eq_true, if_false, if_neg hkeyed,
    if_pos hop]

/-- A WRITE or INVALIDATE without the key is ignored. -/
theorem Dev.writeNvpCmd_keyless {key : Byte} {op : Nat} (hop : op = 2 ∨ op = 4) (hkey : key ≠ 0x5A) :
    d.writeNvpCmd (nvpWord key op) = d.ignoreWrite := by
  have hmax : op ≤ 4 := by omega
  have hne : key.toNat ≠ 0x5A := fun h => hkey (BitVec.eq_of_toNat_eq h)
  simp only [Dev.writeNvpCmd, nvpWord_op key hmax, nvpWord_key key hmax, if_pos (And.intro hop hne), ite_self]

/-- A command that nothing refuses copies its registers and sets BUSY. -/
theorem Dev.nvpBegin_accepted {op : Nat}
    (h : d.nvpRefusal op (d.fld SYS_NVP_ADDR_ADDR) (d.fld SYS_NVP_LEN_LEN) (d.fld SYS_NVP_BUF_BUF) = 0) :
    d.nvpBegin op = (d.setBoot { d.boot with
      nvpOp := op, nvpAddr := d.fld SYS_NVP_ADDR_ADDR, nvpLen := d.fld SYS_NVP_LEN_LEN, nvpBuf := d.fld SYS_NVP_BUF_BUF,
      nvpDone := 0, nvpData := if op = 2 then d.nvpBytes (d.fld SYS_NVP_BUF_BUF) (d.fld SYS_NVP_LEN_LEN) else [] }).setReg
        SYS_NVP_STAT 1 := if_pos h

/-! The end of a command (R154). -/

theorem Dev.logResume_of_none (h : d.con.logWait = none) : d.logResume = d := by
  unfold Dev.logResume
  rw [h]

/-- With no page on the bus and no `log` that waits for it, a command ends in SYS_NVP_STAT and event 11 alone. -/
theorem Dev.nvpEnd_eq (result bytes : Nat) (hlog : d.con.logWait = none) (hop : d.twb.nvOp ≠ 4) :
    ∃ w1 w2, d.nvpEnd result bytes = ((d.setReg SYS_NVP_STAT (pack [(bytes, 11), (result, 4)])).setBoot
      { d.boot with nvpOp := 0, nvpData := [], nvpDone := 0 }).ring 11 w1 w2 := by
  have hne : ¬ 4 = (d.setReg SYS_NVP_STAT (pack [(bytes, 11), (result, 4)])).twb.nvOp := fun h => hop h.symm
  simp only [Dev.nvpEnd, if_neg hne]
  rw [Dev.logResume_of_none (by rw [Dev.ring_con_logWait]; exact hlog)]
  exact ⟨_, _, rfl⟩

/-- What the end of a command shows. -/
theorem Dev.nvpEnd_shows (result bytes : Nat) (hlog : d.con.logWait = none) (hop : d.twb.nvOp ≠ 4) :
    (d.nvpEnd result bytes).reg SYS_NVP_STAT = pack [(bytes, 11), (result, 4)] ∧
    (d.nvpEnd result bytes).nvm = d.nvm ∧ (d.nvpEnd result bytes).boot.nvpOp = 0 := by
  obtain ⟨w1, w2, heq⟩ := Dev.nvpEnd_eq result bytes hlog hop
  rw [heq, Dev.ring_reg (by decide), Dev.ring_nvm, Dev.ring_boot]
  exact ⟨(d.reg_setReg ..).trans (if_pos rfl), rfl, rfl⟩

theorem Dev.nvpEnd_vres (result bytes : Nat) (hlog : d.con.logWait = none) (hop : d.twb.nvOp ≠ 4) :
    (d.nvpEnd result bytes).fld SYS_NVP_VRES_CODE = d.fld SYS_NVP_VRES_CODE := by
  obtain ⟨w1, w2, heq⟩ := Dev.nvpEnd_eq result bytes hlog hop
  rw [heq, Dev.ring_fld (by decide)]
  exact Dev.fld_setReg_ne d (f := SYS_NVP_VRES_CODE) _ (by decide)

theorem Dev.noteVerify_vres (d : Dev) (a : Nat) (v : Verdict) : (d.noteVerify a v).fld SYS_NVP_VRES_CODE = v.code % 16 :=
  (Dev.fld_setReg_ne (f := SYS_NVP_VRES_CODE) _ _ (by decide)).trans (Dev.fld_setFld_same _ _ _ (by decide))

/-- The bytes of a READ reach the buffer and nothing of the console or the NVM bus. -/
theorem Dev.nvpStore_keeps (d : Dev) (buf : Nat) (bs : List Byte) :
    (d.nvpStore buf bs).con = d.con ∧ (d.nvpStore buf bs).twb = d.twb := by
  simp only [Dev.nvpStore]
  refine List.foldlRecOn (motive := fun e : Dev => e.con = d.con ∧ e.twb = d.twb) _ _ ⟨rfl, rfl⟩ ?_
  rintro e ⟨hcon, htwb⟩ w -
  exact ⟨hcon, htwb⟩

section

variable (bytes : Nat) (hbusy : d.flag SYS_NVP_STAT_BUSY = true)

include hbusy

/-- A READ that is answered throughout ends with LEN bytes; the console and the NVM bus are as they were. -/
theorem Dev.nvpDone_read (h : d.boot.nvpOp = 1) : ∃ e : Dev, e.con = d.con ∧ e.twb = d.twb ∧
    d.nvpDone 0 bytes = e.nvpEnd 0 d.boot.nvpLen := by
  have heq : d.nvpDone 0 bytes = (if d.boot.nvpLen = 0 then d
      else d.nvpStore d.boot.nvpBuf (d.nvmRead d.boot.nvpAddr d.boot.nvpLen)).nvpEnd 0 d.boot.nvpLen := by
    simp [Dev.nvpDone, hbusy, h]
  rw [heq]
  split
  · exact ⟨d, rfl, rfl, rfl⟩
  · obtain ⟨hcon, htwb⟩ := d.nvpStore_keeps d.boot.nvpBuf (d.nvmRead d.boot.nvpAddr d.boot.nvpLen)
    exact ⟨_, hcon, htwb, rfl⟩

/-- A VERIFY that is answered throughout notes its verdict. -/
theorem Dev.nvpDone_verify (h : d.boot.nvpOp = 3) : d.nvpDone 0 bytes =
    (d.noteVerify d.boot.nvpAddr (d.verifySlot d.boot.nvpAddr)).nvpEnd
      (if (d.verifySlot d.boot.nvpAddr).code = 1 then 0 else 6) 0 := by
  simp [Dev.nvpDone, hbusy, h]

/-- A WRITE or INVALIDATE that is answered throughout, with no page of it taken yet, has all its bytes in the EEPROM. -/
theorem Dev.nvpDone_write (h : d.boot.nvpOp = 2 ∨ d.boot.nvpOp = 4) (hdone : d.boot.nvpDone = 0) (hop : d.twb.nvOp ≠ 4)
    (hfree : d.nvmBarred = false) : d.nvpDone 0 bytes =
      (d.nvmWrite d.boot.nvpAddr d.nvpSends).nvpEnd 0 d.nvpSends.length := by
  have hwrites : d.nvpDone 0 bytes = d.nvpWriteDone 0 bytes := by
    obtain h | h := h
    · simp [Dev.nvpDone, hbusy, h, hop]
    · simp [Dev.nvpDone, hbusy, h, hop]
  rw [hwrites]
  simp [Dev.nvpWriteDone, hfree, hdone]

end

/-- The end of a VERIFY that was answered throughout. -/
theorem Dev.nvpEnd_verified (a : Nat) (v : Verdict) (result : Nat) (hlog : d.con.logWait = none) (hop : d.twb.nvOp ≠ 4) :
    ((d.noteVerify a v).nvpEnd result 0).fld SYS_NVP_VRES_CODE = v.code % 16 ∧
    ((d.noteVerify a v).nvpEnd result 0).reg SYS_NVP_STAT = pack [(0, 11), (result, 4)] ∧
    ((d.noteVerify a v).nvpEnd result 0).nvm = d.nvm ∧ ((d.noteVerify a v).nvpEnd result 0).boot.nvpOp = 0 :=
  ⟨(Dev.nvpEnd_vres (d := d.noteVerify a v) result 0 hlog hop).trans (d.noteVerify_vres a v),
    Dev.nvpEnd_shows (d := d.noteVerify a v) result 0 hlog hop⟩

/-- The end of a WRITE or INVALIDATE that stands in the EEPROM. -/
theorem Dev.nvpEnd_written {a : Nat} {bs : List Byte} (hlog : d.con.logWait = none) (hop : d.twb.nvOp ≠ 4) :
    ((d.nvmWrite a bs).nvpEnd 0 bs.length).reg SYS_NVP_STAT = pack [(bs.length, 11), (0, 4)] ∧
    ((d.nvmWrite a bs).nvpEnd 0 bs.length).nvm = (d.nvmWrite a bs).nvm ∧
    ((d.nvmWrite a bs).nvpEnd 0 bs.length).boot.nvpOp = 0 :=
  Dev.nvpEnd_shows 0 bs.length (by rw [Dev.nvmWrite_eq]; exact hlog) (by rw [Dev.nvmWrite_eq]; exact hop)

end Sys2Proof.Machine
end

section
/-!
SUPPORT. The NVM bus: the start of a transfer, the ways in which one is broken off, and polling (R49, R434 to R441).
-/

namespace Sys2Proof.Machine

variable {d : Dev}

/-- A transfer that may start does. -/
theorem Dev.nvmRequest_of_may {what : Nat} (h : d.nvmMay what = true) : d.nvmRequest what =
    ((d.setTwb { d.twb with nvOp := what, nvwpOwn := d.nvmWrites what, sclStuck := false, polling := false }).setFlag
      TWB_STAT_NVBUSY true).setFlag TWB_STAT_NVEXT false := by
  have hstart : d.nvmStart what = _ := if_pos h
  rw [← hstart]
  simp only [Dev.nvmMay, Bool.and_eq_true, Bool.or_eq_true, Bool.not_eq_true'] at h
  obtain ⟨⟨-, hhold⟩, hfree⟩ := h
  have hbarred : ¬ (what = 4 ∧ d.nvpWrites = true ∧ d.twb.nvOp = 0 ∧ d.nvmBarred = true) := by
    rintro ⟨rfl, hwrites, -, hbar⟩
    simp [Dev.nvmWrites, hwrites, hbar] at hfree
  simp only [Dev.nvmRequest, hhold, if_neg hbarred, Bool.false_eq_true, and_false, if_false]

/-! A transfer broken off (R435, R436, R438). -/

theorem Dev.leaves_nvmBreak (d : Dev) (received : Nat) : d.leaves (d.nvmBreak received) [TWB_STAT] :=
  leaves_setFlag (leaves_of (d.leaves_refl _) rfl rfl rfl rfl) (by decide)

theorem Dev.nvmBreak_busy (d : Dev) (received : Nat) : (d.nvmBreak received).flag TWB_STAT_NVBUSY = false :=
  Dev.flag_setFlag_same _ _ _ (by decide) (by decide)

theorem Dev.nvmBreak_resumeAt (d : Dev) (received : Nat) :
    (d.nvmBreak received).twb.resumeAt = if d.twb.nvOp ≤ 3 then received else 0 := by
  simp [Dev.nvmBreak]

/-- What is left among some registers is left among more. -/
theorem leaves_mono {e : Dev} {as bs : List Nat} (h : d.leaves e as) (hsub : as ⊆ bs) : d.leaves e bs :=
  ⟨fun a ha => h.1 a fun hmem => ha (hsub hmem), h.2⟩

/-- A transfer broken off and counted in a field of TWB_NVCNT. -/
theorem Dev.nvmBreak_counted (d : Dev) (received : Nat) {f : Fld} (haddr : f.addr = TWB_NVCNT) (hfits : f.lsb + f.width ≤ 24) :
    ((d.nvmBreak received).bump f).flag TWB_STAT_NVBUSY = false ∧
    ((d.nvmBreak received).bump f).fld f = min (d.fld f + 1) (2 ^ f.width - 1) ∧
    d.leaves ((d.nvmBreak received).bump f) [TWB_STAT, TWB_NVCNT] := by
  have hkept := d.leaves_nvmBreak received
  have hother : Fld.apart TWB_STAT_NVBUSY f = true := by simp [Fld.apart, haddr]
  refine ⟨?_, ?_, leaves_bump (leaves_mono hkept (by decide)) (by simp [haddr])⟩
  · rw [Dev.flag_bump_apart _ hfits hother]
    exact d.nvmBreak_busy received
  · rw [Dev.fld_bump_same _ _ hfits, Dev.fld, hkept.1 _ (by simp [haddr])]
    rfl

theorem Dev.arbitrationLost_midway (h : d.twb.nvOp ≠ 0) (received : Nat) : d.arbitrationLost received false =
    ((d.nvmBreak received).bump TWB_NVCNT_ARBLOST).setFlag TWB_STAT_NVEXT true := if_neg h

theorem Dev.stretchTimeout_running (h : d.twb.nvOp ≠ 0) (received : Nat) : d.stretchTimeout received =
    ((d.nvmBreak received).bump TWB_NVCNT_STRETCHTO).nvBusEvent 4 := if_neg h

theorem Dev.nvBusEvent_twb (d : Dev) (kind : Nat) : (d.nvBusEvent kind).twb = d.twb := Dev.ring_twb ..

theorem Dev.nvBusEvent_fld (d : Dev) (kind : Nat) {f : Fld} (h : f.addr ∉ ringRegs) :
    (d.nvBusEvent kind).fld f = d.fld f := Dev.ring_fld h ..

theorem Dev.nvBusEvent_flag (d : Dev) (kind : Nat) {f : Fld} (h : f.addr ∉ ringRegs) :
    (d.nvBusEvent kind).flag f = d.flag f := Dev.ring_flag h ..

/-- An event of the NVM bus shows the counters as they stand. -/
theorem Dev.rang_nvBusEvent {e : Dev} (h : e.evr = d.evr) (kind : Nat) :
    d.rang (e.nvBusEvent kind) 202 (word kind) ((e.nvBusEvent kind).reg TWB_NVCNT) := by
  rw [Dev.nvBusEvent, Dev.ring_reg (by decide)]
  exact rang_ring h ..

/-! Polling (R49, R437). -/

/-- The acknowledged poll that ends no page of the proxy lets NVWP go high again. -/
theorem Dev.pageTaken_of_not_proxy (h : d.nvmWrites d.twb.nvOp = false) :
    d.pageTaken = d.setTwb { d.twb with nvwpOwn := false } := by
  refine if_neg ?_
  rintro ⟨hop, hwrites⟩
  simp [Dev.nvmWrites, hop, hwrites] at h

/-- A NACK of the EEPROM's address is counted (R437). -/
def Dev.countNack (d : Dev) (acked address : Bool) : Dev := if address && !acked then d.bump TWB_NVCNT_NACK else d

theorem Dev.countNack_nack (d : Dev) (acked address : Bool) : (d.countNack acked address).fld TWB_NVCNT_NACK =
    if address = true ∧ acked = false then min (d.fld TWB_NVCNT_NACK + 1) (2 ^ TWB_NVCNT_NACK.width - 1)
    else d.fld TWB_NVCNT_NACK := by
  simp only [Dev.countNack, Bool.and_eq_true, Bool.not_eq_true']
  split
  · exact d.fld_bump_same _ (by decide)
  · rfl

theorem Dev.leaves_countNack (d : Dev) (acked address : Bool) : d.leaves (d.countNack acked address) [TWB_STAT, TWB_NVCNT] := by
  unfold Dev.countNack
  split
  · exact leaves_bump (d.leaves_refl _) (by decide)
  · exact d.leaves_refl _

/-- A poll counts a NACK of the address, and notes whether the controller goes on polling and keeps the bus. -/
theorem Dev.nvmPoll_eq (acked address : Bool) (hop : d.twb.nvOp ≠ 0)
    (hpage : acked = true → address = false → d.nvmWrites d.twb.nvOp = false) : ∃ own,
    d.nvmPoll acked address = ((d.countNack acked address).setTwb
      { d.twb with polling := !acked, nvwpOwn := own }).setFlag TWB_STAT_NVBUSY (acked && address) := by
  unfold Dev.nvmPoll
  rw [if_neg hop]
  cases acked <;> cases address
  · exact ⟨_, rfl⟩
  · exact ⟨_, rfl⟩
  · refine ⟨false, Dev.pageTaken_of_not_proxy ?_⟩
    exact hpage rfl rfl
  · exact ⟨_, rfl⟩

/-- Settles O12: the proxy's commands by their starts and ends, the bus by its starts, breaks and polls. -/
theorem nvmProxyAndBus : Obligations.NvmProxyAndBus := by
  intro s
  refine ⟨?_, ?_, ?_, ?_, ?_, ?_⟩
  · intro key op c hc hbusy
    obtain ⟨hop, hexec⟩ := exec_nvp s hc
    refine ⟨fun hkey haccepted => completes_of hexec ?_, fun hwrites hkey => completes_of hexec ?_⟩
    · rw [Dev.writeNvpCmd_begins hop hbusy hkey, Dev.nvpBegin_accepted haccepted]
      refine ⟨(Dev.reg_setReg ..).trans (if_pos rfl), rfl, rfl, rfl, rfl, ?_⟩
      exact leaves_setReg (leaves_of (s.dev.leaves_refl _) rfl rfl rfl rfl) (by decide)
    · rw [Dev.writeNvpCmd_keyless hwrites hkey]
      exact ⟨s.dev.fld_ignoreWrite, s.dev.leaves_ignoreWrite⟩
  · intro bytes hbusy hlog hdone hidle hfree
    have hends {P : Dev → Prop} (h : P (s.dev.nvpDone 0 bytes.toNat)) : Completes (.nvpDone 0 bytes) s P :=
      completes_of (f := fun d => d.nvpDone 0 bytes.toNat) rfl h
    refine ⟨fun hop => hends ?_, fun hop => hends ?_, fun hop => hends ?_, fun hop => hends ?_⟩
    · obtain ⟨e, hcon, htwb, heq⟩ := Dev.nvpDone_read bytes.toNat hbusy hop
      obtain ⟨hstat, -, hnone⟩ := Dev.nvpEnd_shows 0 s.dev.boot.nvpLen (hcon ▸ hlog) (htwb ▸ hidle)
      rw [heq]
      exact ⟨hstat, hnone⟩
    · have hsends : s.dev.nvpSends = s.dev.boot.nvpData := if_pos hop
      rw [Dev.nvpDone_write _ hbusy (.inl hop) hdone hidle hfree, hsends]
      exact Dev.nvpEnd_written hlog hidle
    · rw [Dev.nvpDone_verify _ hbusy hop]
      exact Dev.nvpEnd_verified _ _ _ hlog hidle
    · have hsends : s.dev.nvpSends = List.replicate 32 0 := if_neg (by omega)
      rw [Dev.nvpDone_write _ hbusy (.inr hop) hdone hidle hfree, hsends]
      exact Dev.nvpEnd_written hlog hidle
  · intro what hmay
    refine completes_of (f := fun d => d.nvmRequest what.toNat) rfl ?_
    rw [Dev.nvmRequest_of_may hmay]
    refine ⟨rfl, ?_, Dev.flag_setFlag_same _ _ _ (by decide) (by decide), rfl, ?_⟩
    · rw [Dev.flag_setFlag_apart _ _ (by decide) (by decide), Dev.flag_setFlag_same _ _ _ (by decide) (by decide)]
    · exact leaves_setFlag (leaves_setFlag (leaves_of (s.dev.leaves_refl _) rfl rfl rfl rfl) (by decide)) (by decide)
  · intro received hop
    refine ⟨?_, ?_⟩
    · obtain ⟨hbusy, hcount, hleaves⟩ := s.dev.nvmBreak_counted received.toNat (f := TWB_NVCNT_ARBLOST) rfl (by decide)
      refine completes_of (f := fun d => d.arbitrationLost received.toNat false) rfl ?_
      rw [Dev.arbitrationLost_midway hop]
      refine ⟨rfl, ?_, Dev.flag_setFlag_same _ _ _ (by decide) (by decide), s.dev.nvmBreak_resumeAt received.toNat, ?_,
        leaves_setFlag hleaves (by decide)⟩
      · exact (Dev.flag_setFlag_apart _ _ (by decide) (by decide)).trans hbusy
      · exact (Dev.fld_setFlag_apart _ _ (by decide) (by decide)).trans hcount
    · obtain ⟨hbusy, hcount, hleaves⟩ := s.dev.nvmBreak_counted received.toNat (f := TWB_NVCNT_STRETCHTO) rfl (by decide)
      refine completes_of (f := fun d => d.stretchTimeout received.toNat) rfl ?_
      rw [Dev.stretchTimeout_running hop]
      refine ⟨?_, ?_, ?_, ?_, Dev.rang_nvBusEvent (e := (s.dev.nvmBreak _).bump _) rfl 4,
        leavesRing_ring (leavesRing_of_leaves hleaves) ..⟩
      · rw [Dev.nvBusEvent_twb]
        rfl
      · rw [Dev.nvBusEvent_flag _ _ (by decide), hbusy]
      · rw [Dev.nvBusEvent_twb, Dev.bump_twb, Dev.nvmBreak_resumeAt]
      · rw [Dev.nvBusEvent_fld _ _ (by decide), hcount]
  · intro acked address hop hpage
    refine completes_of (f := fun d => d.nvmPoll acked address) rfl ?_
    obtain ⟨own, heq⟩ := Dev.nvmPoll_eq acked address hop hpage
    rw [heq]
    refine ⟨rfl, Dev.flag_setFlag_same _ _ _ (by decide) (by decide), ?_, ?_⟩
    · rw [Dev.fld_setFlag_apart _ _ (by decide) (by decide)]
      exact Dev.countNack_nack ..
    · exact leaves_setFlag (leaves_of (Dev.leaves_countNack ..) rfl rfl rfl rfl) (by decide)
  · intro hwrites
    have hexec : exec .nvmPollTimeout s = s.run fun d => d.nvmIdle.nvBusEvent 3 := by
      show execNvmPollTimeout s = _
      simp [execNvmPollTimeout, hwrites]
    have hidle : s.dev.leaves s.dev.nvmIdle [TWB_STAT] :=
      leaves_setFlag (leaves_of (s.dev.leaves_refl _) rfl rfl rfl rfl) (by decide)
    refine completes_of hexec ⟨?_, ?_, ?_, Dev.rang_nvBusEvent (e := s.dev.nvmIdle) rfl 3,
      leavesRing_ring (leavesRing_of_leaves hidle) ..⟩
    · rw [Dev.nvBusEvent_twb]
      rfl
    · rw [Dev.nvBusEvent_twb]
      rfl
    · rw [Dev.nvBusEvent_flag _ _ (by decide)]
      exact Dev.flag_setFlag_same _ _ _ (by decide) (by decide)

end Sys2Proof.Machine
end

section
/-!
SUPPORT. Console output: what a printed line, a status line and the end of a command leave as they were (R68, R82, R83).
-/

namespace Sys2Proof.Machine

variable {d e : Dev}

/-! Printing (R82). -/

/-- Beside the console's output, its count of dropped lines and SVC_ERR, the machine e is d. -/
def Dev.Printed (d e : Dev) : Prop :=
  e = { d with regs := e.regs, con := { d.con with out := e.con.out, dropped := e.con.dropped } } ∧
    ∀ a, a ≠ SVC_ERR → e.reg a = d.reg a

theorem Dev.Printed.rfl (d : Dev) : d.Printed d := ⟨Eq.refl _, fun _ _ => Eq.refl _⟩

theorem Dev.Printed.trans {f : Dev} (h : d.Printed e) (g : e.Printed f) : d.Printed f := by
  obtain ⟨heq, hreg⟩ := h
  obtain ⟨geq, greg⟩ := g
  refine ⟨geq.trans ?_, fun a ha => (greg a ha).trans (hreg a ha)⟩
  rw [heq]

/-- What does not read the output, the dropped lines or the registers is as before. -/
theorem Dev.Printed.keeps {α : Sort*} (h : d.Printed e) (f : Dev → α)
    (hf : ∀ r o n, f { d with regs := r, con := { d.con with out := o, dropped := n } } = f d) : f e = f d := by
  rw [h.1, hf]

theorem Dev.Printed.fld (h : d.Printed e) {f : Fld} (hf : f.addr ≠ SVC_ERR) : e.fld f = d.fld f := by
  rw [Dev.fld, h.2 _ hf]
  exact Eq.refl _

theorem Dev.Printed.flag (h : d.Printed e) {f : Fld} (hf : f.addr ≠ SVC_ERR) : e.flag f = d.flag f := by
  rw [Dev.flag, h.fld hf]
  exact Eq.refl _

theorem Dev.print_printed (d : Dev) (l : OutLine) : d.Printed (d.print l) := by
  have hbump (c : Console) (hc : c = { d.con with out := c.out, dropped := c.dropped }) :
      d.Printed (Dev.bump { d with con := c } SVC_ERR_DROPPED) :=
    ⟨by rw [hc]; rfl, fun a ha => Dev.reg_bumpBy_ne { d with con := c } SVC_ERR_DROPPED 1 ha⟩
  unfold Dev.print
  extract_lets c note
  split
  · split
    · exact ⟨rfl, fun _ _ => rfl⟩
    · exact hbump _ rfl
  · split
    · exact ⟨rfl, fun _ _ => rfl⟩
    · exact hbump _ rfl

theorem Dev.printAll_printed (d : Dev) (ls : List OutLine) : d.Printed (d.printAll ls) := by
  induction ls generalizing d with
  | nil => exact .rfl d
  | cons l ls ih => exact (d.print_printed l).trans (ih _)

theorem Dev.statusLine_printed (d : Dev) (status : OutLine) : d.Printed (d.statusLine status) :=
  (d.print_printed status).trans (Dev.print_printed _ _)

theorem leaves_trans {f : Dev} {as : List Nat} (h : d.leaves e as) (g : e.leaves f as) : d.leaves f as := by
  obtain ⟨hregs, hbanks, hnvm, hcfg⟩ := h
  obtain ⟨gregs, gbanks, gnvm, gcfg⟩ := g
  exact ⟨fun a ha => (gregs a ha).trans (hregs a ha), fun b w => (gbanks b w).trans (hbanks b w),
    fun a => (gnvm a).trans (hnvm a), fun s i n => (gcfg s i n).trans (hcfg s i n)⟩

theorem leaves_printed {f : Dev} {as : List Nat} (h : d.leaves e as) (hp : e.Printed f) (ha : SVC_ERR ∈ as) :
    d.leaves f as := by
  obtain ⟨hregs, hbanks, hnvm, hcfg⟩ := h
  obtain ⟨heq, hreg⟩ := hp
  refine ⟨fun a hn => (hreg a fun h => hn (h ▸ ha)).trans (hregs a hn), fun b w => ?_, fun a => ?_, fun s i n => ?_⟩
  · rw [← hbanks b w, heq]; rfl
  · rw [← hnvm a, heq]; rfl
  · rw [← hcfg s i n, heq]; rfl

theorem leavesRing_printed {f : Dev} {as : List Nat} (h : d.leavesRing e as) (hp : e.Printed f) : d.leavesRing f as := by
  obtain ⟨hregs, hbanks, hnvm, hcfg⟩ := h
  obtain ⟨heq, hreg⟩ := hp
  refine ⟨fun a hn hr => (hreg a fun h => hr (h ▸ by decide)).trans (hregs a hn hr), fun b w hb => ?_, fun a => ?_,
    fun s i n => ?_⟩
  · rw [← hbanks b w hb, heq]; rfl
  · rw [← hnvm a, heq]; rfl
  · rw [← hcfg s i n, heq]; rfl

/-! The end of a command (R68). -/

theorem Dev.finishOk_eq (d : Dev) : d.finishOk = d.finish .ok := rfl
theorem Dev.finishErr_eq (d : Dev) (code : Nat) : d.finishErr code = d.finish (.error code) := rfl

/-- The machine at the end of a command is the one with its line dropped, but for what printing changes. -/
theorem Dev.finish_printed (d : Dev) (status : OutLine) : d.dropLine.Printed (d.finish status) :=
  d.dropLine.statusLine_printed status

/-- A command that ends leaves what reads neither the line nor what printing changes. -/
theorem Dev.finish_keeps {α : Sort*} (d : Dev) (status : OutLine) (f : Dev → α)
    (hf : ∀ r o n, f { d.dropLine with regs := r, con := { d.dropLine.con with out := o, dropped := n } } = f d) :
    f (d.finish status) = f d := by
  rw [(d.finish_printed status).1, hf]

@[simp] theorem Dev.finish_line (d : Dev) (status : OutLine) : (d.finish status).con.line = [] :=
  (d.finish_printed status).keeps (·.con.line) fun _ _ _ => rfl

theorem Dev.reg_finish (d : Dev) (status : OutLine) {a : Nat} (ha : a ≠ SVC_ERR) : (d.finish status).reg a = d.reg a :=
  (d.finish_printed status).2 a ha

theorem Dev.fld_finish (d : Dev) (status : OutLine) {f : Fld} (hf : f.addr ≠ SVC_ERR) : (d.finish status).fld f = d.fld f :=
  (d.finish_printed status).fld hf

theorem Dev.flag_finish (d : Dev) (status : OutLine) {f : Fld} (hf : f.addr ≠ SVC_ERR) :
    (d.finish status).flag f = d.flag f := (d.finish_printed status).flag hf

theorem leaves_dropLine {as : List Nat} (h : d.leaves e as) : d.leaves e.dropLine as := leaves_of h rfl rfl rfl rfl

theorem leaves_setCon {as : List Nat} (h : d.leaves e as) (c : Console) : d.leaves (e.setCon c) as :=
  leaves_of h rfl rfl rfl rfl

theorem leaves_finish {as : List Nat} (h : d.leaves e as) (status : OutLine) (ha : SVC_ERR ∈ as) :
    d.leaves (e.finish status) as := leaves_printed (leaves_dropLine h) (e.finish_printed status) ha

theorem leavesRing_finish {as : List Nat} (h : d.leavesRing e as) (status : OutLine) : d.leavesRing (e.finish status) as :=
  leavesRing_printed (e := e.dropLine) h (e.finish_printed status)

/-! A command that comes while none runs (R83). -/

theorem Dev.command_idle (h : d.running = false) (c : ConsoleCmd) (f : Dev → Dev) : d.command c f = f d := by
  simp [Dev.command, h]

/-- A console command that comes while none runs has its own effect. -/
theorem completes_command {c : Instr} {s : State} {P : Dev → Prop} {k : ConsoleCmd} {f : Dev → Dev}
    (hexec : exec c s = s.run fun d => d.command k f) (hidle : s.dev.running = false) (hp : P (f s.dev)) : Completes c s P :=
  completes_of hexec (by rw [Dev.command_idle hidle]; exact hp)

/-- A command that may go on has its effect once its line is gone. -/
theorem completes_longCommand {c : Instr} {s : State} {P : Dev → Prop} {k : ConsoleCmd} {f : Dev → Dev}
    (hexec : exec c s = s.run fun d => d.longCommand k f) (hidle : s.dev.running = false) (hp : P (f s.dev.dropLine)) :
    Completes c s P := completes_command hexec hidle hp

end Sys2Proof.Machine
end

section
/-!
SUPPORT. Console commands that read, write, scan, ping and inject (R69, R83, R86, R571, R600, R630).
-/

namespace Sys2Proof.Machine

variable {d : Dev}

/-! Words written by a command. -/

theorem wGet_pack_key (key low : Nat) (hkey : key < 256) (hlow : low < 65536) :
    wGet (pack [(key, 16), (low, 0)]) 16 8 = key := by
  simp only [wGet, pack, List.foldl, BitVec.toNat_ofNat, Nat.shiftRight_eq_div_pow]
  omega

theorem wGet_pack_low (key low n : Nat) (hn : low < 2 ^ n) (h16 : n ≤ 16) : wGet (pack [(key, 16), (low, 0)]) 0 n = low := by
  have hlow : low < 65536 := lt_of_lt_of_le hn (Nat.pow_le_pow_right (by decide) h16)
  have hsplit : (0 + key * 2 ^ 16 + low * 2 ^ 0) % 2 ^ 24 % 2 ^ n = low % 2 ^ n := by
    rw [Nat.mod_mod_of_dvd _ (Nat.pow_dvd_pow 2 (by omega)), Nat.zero_add, Nat.pow_zero, Nat.mul_one, Nat.add_mod,
      Nat.mod_eq_zero_of_dvd (Dvd.dvd.mul_left (Nat.pow_dvd_pow 2 h16) key), Nat.zero_add, Nat.mod_mod]
  simp only [wGet, pack, List.foldl, BitVec.toNat_ofNat, Nat.shiftRight_zero]
  exact hsplit.trans (Nat.mod_eq_of_lt hn)

/-- A register write stores the bits of an RW field as they are written (R11). -/
theorem Dev.fld_storeReg (d : Dev) (f : Fld) (v : Word)
    (hrw : ∀ i < f.width, (rwMask f.addr).getLsbD (f.lsb + i) = true) :
    (d.storeReg f.addr v).fld f = wGet v f.lsb f.width := by
  rw [Dev.storeReg, Dev.fld_setReg_same]
  apply Nat.eq_of_testBit_eq
  intro i
  rw [wGet_testBit, wGet_testBit]
  by_cases hi : i < f.width
  · simp [hi, hrw i hi]
  · simp [hi]

theorem Dev.flag_storeReg (d : Dev) (f : Fld) (v : Word)
    (hrw : ∀ i < f.width, (rwMask f.addr).getLsbD (f.lsb + i) = true) :
    (d.storeReg f.addr v).flag f = (wGet v f.lsb f.width != 0) := by rw [Dev.flag, Dev.fld_storeReg d f v hrw]

theorem leaves_storeReg {e : Dev} {as : List Nat} (h : d.leaves e as) {a : Nat} {v : Word} (ha : a ∈ as) :
    d.leaves (e.storeReg a v) as := leaves_setReg h ha

/-! Fault injection (R627 to R630). -/

theorem rwMask_svcInj : ∀ m < 8, rwMask (SVC_INJ m) = 0x1F1F1F#24 := by decide

/-- One kind of fault of an injection point: its enable and its rate, as `egl inj` sets them. -/
theorem Dev.consoleInj_sets {m kind k : Nat} (hset : d.fullSet = true) (hgate : d.link.gate = true) (hm : m < 8)
    (hkind : kind < 3) (hk : k < 16) :
    (d.consoleInj m kind k).fld ⟨SVC_INJ m, 8 * kind, 4⟩ = k ∧
      (d.consoleInj m kind k).flag ⟨SVC_INJ m, 8 * kind + 4, 1⟩ = true ∧ (d.consoleInj m kind k).con.line = [] ∧
      d.leaves (d.consoleInj m kind k) [SVC_INJ m, SVC_ERR] := by
  have heq : d.consoleInj m kind k =
      (d.storeReg (SVC_INJ m) (wSet (wSet (d.reg (SVC_INJ m)) (8 * kind) 4 k) (8 * kind + 4) 1 1)).finish .ok := by
    have hrange : ¬ (7 < m ∨ 15 < k ∨ 2 < kind) := by omega
    simp only [Dev.consoleInj, hset, if_neg hrange, Dev.writeInj, hgate, if_true, Dev.finishOk_eq, Bool.true_eq_false, if_false]
  have hne : SVC_INJ m ≠ SVC_ERR := by simp only [SVC_INJ, SVC_ERR]; omega
  rw [heq]
  refine ⟨?_, ?_, Dev.finish_line .., leaves_finish (leaves_storeReg (d.leaves_refl _) (by simp)) _ (by simp)⟩
  · rw [Dev.fld_finish _ _ hne, Dev.fld_storeReg d ⟨SVC_INJ m, 8 * kind, 4⟩]
    · show wGet (wSet _ (8 * kind + 4) 1 1) (8 * kind) 4 = k
      rw [wGet_wSet_apart _ _ (by omega) (by omega), wGet_wSet_same _ _ _ _ (by omega)]
      exact Nat.mod_eq_of_lt hk
    · intro i hi
      simp only at hi ⊢
      rw [rwMask_svcInj m hm]
      interval_cases kind <;> interval_cases i <;> rfl
  · rw [Dev.flag_finish _ _ hne, Dev.flag_storeReg d ⟨SVC_INJ m, 8 * kind + 4, 1⟩]
    · show (wGet (wSet _ (8 * kind + 4) 1 1) (8 * kind + 4) 1 != 0) = true
      rw [wGet_wSet_same _ _ _ _ (by omega)]
      rfl
    · intro i hi
      simp only at hi ⊢
      rw [rwMask_svcInj m hm]
      interval_cases kind <;> interval_cases i <;> rfl

/-- The injection registers cleared. -/
def Dev.clearInj (d : Dev) (n : Nat) : Dev := (List.range n).foldl (fun d i => d.setReg (SVC_INJ i) 0) d

theorem Dev.clearInj_succ (d : Dev) (n : Nat) : d.clearInj (n + 1) = (d.clearInj n).setReg (SVC_INJ n) 0 := by
  simp [Dev.clearInj, List.range_succ]

theorem Dev.reg_clearInj (d : Dev) {i n : Nat} (hi : i < n) : (d.clearInj n).reg (SVC_INJ i) = 0 := by
  induction n with
  | zero => omega
  | succ n ih =>
    rw [Dev.clearInj_succ, Dev.reg_setReg]
    by_cases h : i = n
    · rw [if_pos (by rw [h])]
    · rw [if_neg (by simp only [SVC_INJ]; omega)]
      exact ih (by omega)

theorem leaves_clearInj {as : List Nat} (d : Dev) (n : Nat) (hsub : ∀ i < n, SVC_INJ i ∈ as) : d.leaves (d.clearInj n) as := by
  induction n with
  | zero => exact d.leaves_refl _
  | succ n ih =>
    rw [Dev.clearInj_succ]
    exact leaves_setReg (ih fun i hi => hsub i (by omega)) (hsub n (by omega))

end Sys2Proof.Machine
end

section
/-!
SUPPORT. What the console commands of O51 do in a state in which they act.
-/

namespace Sys2Proof.Machine

variable {d : Dev}

/-- Output of a running command that moves to the transmit buffer touches no line. -/
theorem Console.refill_line (c : Console) (k : Nat) : (c.refill k).line = c.line := by
  induction k generalizing c with
  | zero => rfl
  | succ k ih =>
    unfold Console.refill
    split
    · rfl
    · split
      · exact ih _
      · rfl

theorem Dev.printRun_line (d : Dev) (ls : List OutLine) : (d.printRun ls).con.line = d.con.line := Console.refill_line ..

theorem leaves_printRun {e : Dev} {as : List Nat} (h : d.leaves e as) (ls : List OutLine) : d.leaves (e.printRun ls) as :=
  leaves_of h rfl rfl rfl rfl

/-- A `rd` of one word that stays on this tile prints it (R69). -/
theorem Dev.rdRun_one {a : Nat} {w : Word} {e : Dev} (hlocal : d.goesRemote .console a = false)
    (hread : d.readLocal .console a [] = (w, e)) (k : Nat) : d.rdRun a 1 (k + 2) = (e.addRun [.rdWord a w]).endRun .ok := by
  simp only [Dev.rdRun, hlocal, hread, Bool.false_eq_true, if_false, if_true, one_ne_zero, Nat.sub_self]

theorem Dev.consoleLog_waits {kind n : Nat} (hn : kind = 0 → 1 ≤ n ∧ n ≤ 64) (hop : d.boot.nvpOp ≠ 0) :
    d.consoleLog kind n = d.setCon { d.con with logWait := some (d.logLines kind n) } := by
  have hrange : ¬ (kind = 0 ∧ (n = 0 ∨ 64 < n)) := by omega
  rw [Dev.consoleLog, if_neg hrange, if_pos hop]

theorem Dev.consoleLog_prints {kind n : Nat} (hn : kind = 0 → 1 ≤ n ∧ n ≤ 64) (hop : d.boot.nvpOp = 0) :
    d.consoleLog kind n = d.printRun (d.logLines kind n) := by
  have hrange : ¬ (kind = 0 ∧ (n = 0 ∨ 64 < n)) := by omega
  rw [Dev.consoleLog, if_neg hrange, if_neg (not_not_intro hop)]

theorem Dev.newOp_ops_length (d : Dev) (requester type dest : Nat) (ws : List Word) :
    (d.newOp requester type dest ws).link.ops.length = d.link.ops.length + 1 := by simp [Dev.newOp, Dev.setLink]

/-- The requests of a ping wait in the link one by one (R600). -/
theorem Dev.foldl_newOp_link (d : Dev) (requester type dest n : Nat) :
    ((List.range n).foldl (fun d i => d.newOp requester type dest [word i]) d).link.ping = d.link.ping ∧
      ((List.range n).foldl (fun d i => d.newOp requester type dest [word i]) d).link.ops.length = d.link.ops.length + n := by
  induction n with
  | zero => exact ⟨rfl, rfl⟩
  | succ n ih =>
    obtain ⟨hping, hops⟩ := ih
    rw [List.range_succ, List.foldl_append]
    refine ⟨hping, ?_⟩
    exact (Dev.newOp_ops_length ..).trans (by rw [hops, Nat.add_assoc])

/-- A `cal run` with no run and none to begin in full makes one due (R862). -/
theorem Dev.writeCalCmd_due (hidle : d.fld CAL_STAT_STATE = calIdle) (hfull : d.fullNow = false) :
    d.writeCalCmd (pack [(0x5A, 16), (1, 0)]) =
      ((d.setFld CAL_STAT_STATE calDue).setFld CAL_STAT_TRIGGER 2).setCal { d.cal with since := d.ticks } := by
  have hkeyed : ¬ (wGet (pack [(0x5A, 16), (1, 0)]) 16 8 ≠ 0x5A ∨ wGet (pack [(0x5A, 16), (1, 0)]) 0 2 ≠ 1) := by decide
  rw [Dev.writeCalCmd, if_neg hkeyed, Dev.calTrigger]
  simp only [hidle, hfull, if_true, Bool.false_eq_true, if_false]

theorem Dev.finish_modes (d : Dev) (status : OutLine) : (d.finish status).modes = d.modes :=
  d.finish_keeps status (·.modes) fun _ _ _ => rfl

theorem Dev.asleep_finish (d : Dev) (status : OutLine) : (d.finish status).asleep = d.asleep := by
  simp only [Dev.asleep, Dev.mode, d.fld_finish status (f := PWR_STAT_MODE) (by decide), d.finish_modes]

/-- A write of 0x020A, which is TIME_SET_SECH, is stored (R11). -/
theorem Dev.writeHost_timeSetSech (rq : Requester) (v : Word) (hawake : d.asleep = false) :
    d.writeHost rq TIME_SET_SECH v = d.storeReg TIME_SET_SECH v := by
  have hwin : d.inWindow TIME_SET_SECH = false := by simp [Dev.inWindow, TIME_SET_SECH]
  have haddr : d.localAddr (TIME_SET_SECH % 65536) = TIME_SET_SECH := Dev.localAddr_of_not_inWindow (addr := 0x020A#16) hwin
  have hdefined : ¬ (regDefined TIME_SET_SECH = false ∨ regReadOnly TIME_SET_SECH = true) := by decide
  have hnear : d.notAwake TIME_SET_SECH = false := by simp [Dev.notAwake, TIME_SET_SECH]
  rw [Dev.writeHost_eq_writeLocal rq v hwin, Dev.writeLocal, haddr]
  simp only [hawake, Dev.writeReg, if_neg hdefined, hnear, Bool.false_eq_true, if_false]
  rfl

/-- TIME_SET_SECH holds a whole written word. -/
theorem Dev.reg_storeReg_timeSetSech (d : Dev) (v : Word) : (d.storeReg TIME_SET_SECH v).reg TIME_SET_SECH = v := by
  have hrw : rwMask TIME_SET_SECH = 0xFFFFFF#24 := by decide
  have hw1c : w1cMask TIME_SET_SECH = 0 := by decide
  have hkeep : ~~~0xFFFFFF#24 = 0#24 := rfl
  have hfull : v &&& 0xFFFFFF#24 = v := BitVec.and_allOnes
  rw [Dev.storeReg, Dev.reg_setReg, if_pos rfl, hrw, hw1c]
  simp [hkeep, hfull]

theorem Dev.scanStart_stopped (reason : Nat) (hrun : d.flag SCAN_STAT_RUN = false) : d.scanStart reason =
    ((((d.setFlag SCAN_STAT_RUN true).setFlag SCAN_STAT_SVC_STOP false).setFld SCAN_STAT_PHASE 4).ring 20
      (pack [(1, 0), (reason, 4)]) (word d.time.frame)) := if_neg (by rw [hrun]; decide)

/-- `scan run` in SERVICE, with no electrode out of gnd and no tone, on a tile with a sensor whose scan stands (R75). -/
theorem Dev.consoleScanRun_starts (hfull : d.fullSet = true) (hstatic : d.staticBlock = false) (htone : d.scan.tone = none)
    (hsensor : d.hasSensor = true) (hmode : d.mode = modeService) (hrun : d.flag SCAN_STAT_RUN = false) :
    d.consoleScanRun = ((((({ d with scan := { d.scan with consoleRun := true } }).setFlag SCAN_STAT_RUN true).setFlag
      SCAN_STAT_SVC_STOP false).setFld SCAN_STAT_PHASE 4).ring 20 (pack [(1, 0), (2, 4)]) (word d.time.frame)).finish .ok := by
  have hacts : (d.staticBlock || d.scan.tone.isSome || !d.hasSensor || (d.mode != modeService && d.mode != modeSafe)) = false := by
    simp [hstatic, htone, hsensor, hmode]
  rw [Dev.consoleScanRun, if_neg (by simp [hfull]), hacts, if_neg Bool.false_ne_true,
    Dev.scanStart_stopped (d := { d with scan := { d.scan with consoleRun := true } }) 2 hrun,
    Dev.finishOk_eq]

/-- A console command that sets or ends the tone, and the phase with it (R236). -/
theorem Dev.tonePhase_finish (d : Dev) (tone : Option (Nat × Nat)) (phase : Nat) (hphase : phase < 8) :
    let t := (({ d with scan := { d.scan with tone := tone } }).setFld SCAN_STAT_PHASE phase).finish .ok
    t.scan.tone = tone ∧ t.fld SCAN_STAT_PHASE = phase ∧ t.con.line = [] ∧ d.leaves t [SCAN_STAT, SVC_ERR] := by
  refine ⟨Dev.finish_keeps _ .ok (·.scan.tone) fun _ _ _ => rfl, ?_, Dev.finish_line .., leaves_finish ?_ _ (by decide)⟩
  · rw [Dev.fld_finish _ _ (by decide), Dev.fld_setFld_same _ _ _ (by decide)]
    exact Nat.mod_eq_of_lt hphase
  · have hkeeps : d.leaves { d with scan := { d.scan with tone := tone } } [SCAN_STAT, SVC_ERR] :=
      leaves_of (d.leaves_refl _) rfl rfl rfl rfl
    exact leaves_setFld hkeeps (by decide)

/-- The commands of the full command set that O51 names, with any operands. -/
theorem completes_closed {s : State} (hidle : s.dev.running = false) (hclosed : s.dev.fullSet = false) (a v n xy i k p pl) :
    ∀ c ∈ [Instr.wr a v, .evrFire n, .surfReset xy, .eglInj i 0 k, .eglInjOff, .eglRetrain p, .scanRun, .scanStop,
      .scanTone i 0, .trkBlreset, .trkCap pl], Completes c s fun t => t = s.dev.finishErr 6 := by
  intro c hc
  simp only [List.mem_cons, List.not_mem_nil, or_false] at hc
  obtain rfl | rfl | rfl | rfl | rfl | rfl | rfl | rfl | rfl | rfl | rfl := hc
  all_goals
    refine completes_command rfl hidle ?_
    simp only [hclosed, Dev.consoleInj, Dev.consoleRetrain, Dev.consoleScanRun, Dev.consoleScanStop, Dev.consoleScanTone,
      Dev.consoleCap, Bool.false_eq_true, Bool.not_false, if_true, if_false]

/-- Settles O51: each command by the effect that its premises leave of it, and by what the end of a command leaves. -/
theorem consoleCommandsRun : Obligations.ConsoleCommandsRun := by
  intro s hidle
  refine ⟨fun hclosed c a v n xy i k p pl => completes_closed hidle hclosed a v n xy i k p pl c,
    ?_, ?_, ?_, ?_, ?_, ?_, ?_, fun hfull => ⟨?_, ?_, ?_, ?_, ?_, ?_, ?_, ?_, ?_, ?_, ?_, ?_, ?_⟩⟩
  · intro addr w e hlocal hread
    exact completes_longCommand rfl hidle (Dev.rdRun_one (d := s.dev.dropLine) hlocal hread 30)
  · intro addr n hn
    refine completes_longCommand rfl hidle ?_
    have hrange : n = 0 ∨ 32 < n.toNat := hn.imp_left fun h => BitVec.eq_of_toNat_eq h
    rw [if_pos hrange]
    rfl
  · intro kind n hn
    refine ⟨fun hop => ?_, fun hop => ?_⟩
    · exact completes_longCommand rfl hidle (Dev.consoleLog_waits (d := s.dev.dropLine) hn hop)
    · refine completes_longCommand rfl hidle ?_
      rw [Dev.consoleLog_prints (d := s.dev.dropLine) hn hop]
      exact ⟨rfl, Dev.printRun_line .., leaves_printRun (leaves_dropLine (s.dev.leaves_refl _)) _⟩
  · intro c b hc
    have hends : (((s.dev.setCon { s.dev.con with evmon := b }).finish .ok).con.evmon = b) :=
      Dev.finish_keeps (s.dev.setCon { s.dev.con with evmon := b }) .ok (·.con.evmon) fun _ _ _ => rfl
    have hkeeps : s.dev.leaves ((s.dev.setCon { s.dev.con with evmon := b }).finish .ok) [SVC_ERR] :=
      leaves_finish (leaves_setCon (s.dev.leaves_refl _) _) _ (by decide)
    simp only [List.mem_cons, Prod.mk.injEq, List.not_mem_nil, or_false] at hc
    obtain ⟨rfl, rfl⟩ | ⟨rfl, rfl⟩ := hc
    all_goals
      refine completes_command rfl hidle ?_
      rw [Dev.finishOk_eq]
      exact ⟨hends, Dev.finish_line .., hkeeps⟩
  · intro xy
    refine completes_command rfl hidle ?_
    rw [Dev.finishOk_eq]
    refine ⟨?_, Dev.finish_line .., ?_⟩
    · refine (Dev.finish_keeps _ .ok (·.surf.rtile) fun _ _ _ => rfl).trans ?_
      have hmask : word xy.toNat &&& 0x3FF#24 = word xy.toNat := by
        apply BitVec.eq_of_toNat_eq
        have hxy := xy.isLt
        rw [BitVec.toNat_and, BitVec.toNat_ofNat, Nat.mod_eq_of_lt (by omega)]
        exact (Nat.and_two_pow_sub_one_eq_mod _ 10).trans (Nat.mod_eq_of_lt hxy)
      simp only [Dev.writeRtile, hmask]
      rfl
    · have hkeeps : s.dev.leaves (s.dev.writeRtile .console (word xy.toNat)) [SVC_ERR] :=
        leaves_of (s.dev.leaves_refl _) rfl rfl rfl rfl
      exact leaves_finish hkeeps _ (by decide)
  · intro xy n hmin hmax hping
    refine completes_longCommand rfl hidle ?_
    obtain ⟨hkept, hops⟩ := Dev.foldl_newOp_link (s.dev.dropLine.setLink { s.dev.link with ping := some (n.toNat, [], 0) })
      3 6 xy.toNat n.toNat
    refine ⟨_, hkept, hops, ?_⟩
    have hrange : ¬ (n.toNat = 0 ∨ 100 < n.toNat) := by omega
    have hnone : ¬ s.dev.dropLine.link.ping.isSome = true := by
      rw [show s.dev.dropLine.link.ping = none from hping]
      decide
    rw [Dev.consolePing, if_neg hrange, if_neg hnone]
    rfl
  · intro hcal hnow
    refine completes_command rfl hidle ?_
    rw [Dev.writeCalCmd_due hcal hnow, Dev.finishOk_eq]
    refine ⟨?_, ?_, Dev.finish_line .., ?_⟩
    · rw [Dev.fld_finish _ _ (by decide)]
      exact (Dev.fld_setFld_apart _ _ (by decide) (by decide)).trans (Dev.fld_setFld_same _ _ _ (by decide))
    · rw [Dev.fld_finish _ _ (by decide)]
      exact Dev.fld_setFld_same _ _ _ (by decide)
    · refine leaves_finish (leaves_of ?_ rfl rfl rfl rfl) _ (by decide)
      exact leaves_setFld (leaves_setFld (s.dev.leaves_refl _) (by decide)) (by decide)
  · exact fun addr value => completes_command rfl hidle (if_pos hfull)
  · intro value hawake
    refine completes_command rfl hidle ?_
    rw [if_pos hfull]
    have hstores : s.dev.finishOk.writeHost .console (0x020A : BitVec 16).toNat value =
        (s.dev.finish .ok).storeReg TIME_SET_SECH value :=
      Dev.writeHost_timeSetSech .console value ((s.dev.asleep_finish .ok).trans hawake)
    rw [hstores]
    exact ⟨Dev.reg_storeReg_timeSetSech .., s.dev.finish_line .ok,
      leaves_storeReg (leaves_finish (s.dev.leaves_refl _) _ (by decide)) (by decide)⟩
  · intro n hmin hmax
    refine completes_command rfl hidle ?_
    have hrange : ¬ (n.toNat < 256 ∨ 319 < n.toNat) := by omega
    rw [if_neg (by simp [hfull]), if_neg hrange]
    exact ⟨rfl, leavesRing_finish (leavesRing_ring (leavesRing_of_leaves (s.dev.leaves_refl _)) ..) _⟩
  · intro xy hxy hmanager
    refine completes_command rfl hidle ?_
    have hlt := xy.isLt
    have hkey := wGet_pack_key 0xA5 xy.toNat (by decide) (by omega)
    have hdest := wGet_pack_low 0xA5 xy.toNat 10 hlt (by decide)
    have hne : xy.toNat ≠ 0 := fun h => hxy (BitVec.eq_of_toNat_eq h)
    rw [if_pos hfull, Dev.writeTreset, hkey, hdest, if_pos (by simp [hne, hmanager])]
  · rintro i k m rfl hm hk hgate
    refine ⟨?_, ?_, ?_⟩
    · exact completes_command rfl hidle (Dev.consoleInj_sets hfull hgate hm (kind := 0) (by decide) hk)
    · exact completes_command rfl hidle (Dev.consoleInj_sets hfull hgate hm (kind := 1) (by decide) hk)
    · exact completes_command rfl hidle (Dev.consoleInj_sets hfull hgate hm (kind := 2) (by decide) hk)
  · refine completes_command rfl hidle ?_
    have hmem : ∀ i < 8, SVC_INJ i ∈ SVC_ERR :: (List.range 8).map SVC_INJ := by decide
    rw [if_pos hfull]
    refine ⟨fun i hi => ?_, Dev.finish_line .., leaves_finish (leaves_clearInj s.dev 8 hmem) _ (by decide)⟩
    have hne : SVC_INJ i ≠ SVC_ERR := by simp only [SVC_INJ, SVC_ERR]; omega
    exact (Dev.reg_finish _ _ hne).trans (s.dev.reg_clearInj hi)
  · intro p hp
    refine completes_command rfl hidle ?_
    rw [Dev.consoleRetrain, if_neg (by simp [hfull]), if_neg (by omega)]
  · intro hstatic htone hsensor hmode hrun
    refine completes_command rfl hidle ?_
    rw [Dev.consoleScanRun_starts hfull hstatic htone hsensor hmode hrun]
    refine ⟨?_, ?_, ?_, Dev.finish_line .., leavesRing_finish (leavesRing_ring (leavesRing_of_leaves ?_) ..) _⟩
    · rw [Dev.flag_finish _ _ (by decide), Dev.ring_flag (by decide), Dev.flag_setFld_apart _ _ (by decide) (by decide),
        Dev.flag_setFlag_apart _ _ (by decide) (by decide)]
      exact Dev.flag_setFlag_same _ _ _ (by decide) (by decide)
    · rw [Dev.fld_finish _ _ (by decide), Dev.ring_fld (by decide)]
      exact Dev.fld_setFld_same _ _ _ (by decide)
    · refine (Dev.finish_keeps _ .ok (·.scan.consoleRun) fun _ _ _ => rfl).trans ?_
      rw [Dev.ring_scan]
      rfl
    · have hkeeps : s.dev.leaves { s.dev with scan := { s.dev.scan with consoleRun := true } } [SCAN_STAT] :=
        leaves_of (s.dev.leaves_refl _) rfl rfl rfl rfl
      exact leaves_setFld (leaves_setFlag (leaves_setFlag hkeeps (by decide)) (by decide)) (by decide)
  · intro x htone
    refine completes_command rfl hidle ?_
    have hstops : s.dev.consoleScanStop =
        (({ s.dev with scan := { s.dev.scan with tone := none } }).setFld SCAN_STAT_PHASE 0).finish .ok := by
      simp [Dev.consoleScanStop, hfull, htone, Dev.finishOk_eq]
    rw [hstops]
    exact s.dev.tonePhase_finish none 0 (by decide)
  · intro htone hruns
    refine completes_command rfl hidle ?_
    simp [Dev.consoleScanStop, hfull, htone, hruns]
  · intro n k hn hrun hstatic hmode
    refine completes_command rfl hidle ?_
    have hstarts : s.dev.consoleScanTone n.toNat k.toNat =
        (({ s.dev with scan := { s.dev.scan with tone := some (n.toNat, k.toNat) } }).setFld SCAN_STAT_PHASE 6).finish .ok := by
      simp [Dev.consoleScanTone, hfull, hrun, hstatic, hmode, Nat.not_le_of_lt hn, Dev.finishOk_eq]
    rw [hstarts]
    exact s.dev.tonePhase_finish _ 6 (by decide)
  · refine completes_command rfl hidle ?_
    have hbit : wGet (s.dev.reg TRK_CTRL ||| 1) 0 1 = 1 := by simp [wGet, Nat.or_mod_two_eq_one]
    rw [if_pos hfull, Dev.writeTrkCtrl, if_pos hbit]
    refine ⟨Dev.finish_keeps _ .ok (·.trk.blReset) fun _ _ _ => rfl, Dev.finish_line .., leaves_finish ?_ _ (by decide)⟩
    exact leaves_of (leaves_storeReg (s.dev.leaves_refl _) (by decide)) rfl rfl rfl rfl
  · intro planes hbusy
    refine completes_command rfl hidle ?_
    simp [Dev.consoleCap, hfull, hbusy]

end Sys2Proof.Machine
end

section
/-!
SUPPORT. The link's traffic: what sending, routing and delivering packets, and the gate of fault injection, can change (R604 to
R614, R627). Beside the link itself it is counters of the link and of its injection points.
-/

namespace Sys2Proof.Machine

variable {d e f : Dev} {as : List Nat}

/-! What differs is the link, the named registers, and what an event may change. -/

/-- A machine without its link and without the parts that raising an event may change. -/
def Dev.offline (d : Dev) : Dev := { d.quiet with link := {} }

/-- Nothing but the link, the registers as and what an event may change differs. -/
def Dev.Linked (as : List Nat) (d e : Dev) : Prop :=
  (∀ a, a ∉ as → a ∉ ringRegs → e.reg a = d.reg a) ∧ (∀ b w, b ≠ 8 → e.bank b w = d.bank b w) ∧ e.offline = d.offline

theorem linked_refl (d : Dev) : Dev.Linked as d d := ⟨fun _ _ _ => rfl, fun _ _ _ => rfl, rfl⟩

theorem linked_trans (h : Dev.Linked as d e) (g : Dev.Linked as e f) : Dev.Linked as d f := by
  obtain ⟨hregs, hbanks, hrest⟩ := h
  obtain ⟨gregs, gbanks, grest⟩ := g
  exact ⟨fun a ha hr => (gregs a ha hr).trans (hregs a ha hr), fun b w hb => (gbanks b w hb).trans (hbanks b w hb),
    grest.trans hrest⟩

/-- An update beside the registers and the banks. -/
theorem linked_of (hregs : e.regs = d.regs) (hbanks : e.banks = d.banks) (hrest : e.offline = d.offline) :
    Dev.Linked as d e := by
  refine ⟨fun a _ _ => ?_, fun b w _ => ?_, hrest⟩
  · simp only [Dev.reg, hregs]
  · simp only [Dev.bank, hbanks]

theorem linked_near (h : d.Near e) : Dev.Linked as d e := by
  obtain ⟨hregs, hbanks, hquiet⟩ := h
  exact ⟨fun a _ hr => hregs a hr, hbanks, congrArg (fun x : Dev => { x with link := {} }) hquiet⟩

theorem linked_ring (d : Dev) (src : Nat) (w1 w2 : Word) : Dev.Linked as d (d.ring src w1 w2) :=
  linked_near (near_ring (.rfl d))

theorem linked_setReg (d : Dev) {a : Nat} (v : Word) (ha : a ∈ as) : Dev.Linked as d (d.setReg a v) :=
  ⟨fun _ hb _ => by rw [Dev.reg_setReg, if_neg (ne_of_mem_of_not_mem ha hb).symm], fun _ _ _ => rfl, rfl⟩

theorem linked_setFld (d : Dev) {g : Fld} (v : Nat) (ha : g.addr ∈ as) : Dev.Linked as d (d.setFld g v) :=
  linked_setReg d _ ha

theorem linked_bumpBy (d : Dev) {g : Fld} (n : Nat) (ha : g.addr ∈ as) : Dev.Linked as d (d.bumpBy g n) :=
  linked_setReg d _ ha

theorem linked_bump (d : Dev) {g : Fld} (ha : g.addr ∈ as) : Dev.Linked as d (d.bump g) := linked_setReg d _ ha

theorem linked_setLink (d : Dev) (l : Link) : Dev.Linked as d (d.setLink l) := linked_of rfl rfl rfl

theorem linked_setPort (d : Dev) (p : Nat) (q : Port) : Dev.Linked as d (d.setPort p q) := linked_setLink d _

theorem linked_draw (d : Dev) (n : Nat) : Dev.Linked as d (d.draw n).2 := linked_of rfl rfl rfl

theorem linked_send (d : Dev) (kind dest : Nat) (payload : List Word) : Dev.Linked as d (d.send kind dest payload) :=
  linked_of rfl rfl rfl

theorem linked_foldl {α : Type} {g : Dev → α → Dev} (xs : List α) (d : Dev)
    (h : ∀ e, ∀ x ∈ xs, Dev.Linked as e (g e x)) : Dev.Linked as d (xs.foldl g d) := by
  induction xs generalizing d with
  | nil => exact linked_refl d
  | cons x xs ih => exact linked_trans (h d x (by simp)) (ih (g d x) fun e y hy => h e y (by simp [hy]))

/-- What does not read the link, the registers or what an event may change is as before. -/
theorem Dev.Linked.keeps {α : Sort*} (h : Dev.Linked as d e) (g : Dev → α) (hg : ∀ x, g x.offline = g x) : g e = g d := by
  obtain ⟨-, -, hrest⟩ := h
  rw [← hg e, hrest, hg d]

theorem Dev.Linked.reg (h : Dev.Linked as d e) {a : Nat} (ha : a ∉ as) (hr : a ∉ ringRegs) : e.reg a = d.reg a := h.1 a ha hr

theorem Dev.Linked.fld (h : Dev.Linked as d e) {g : Fld} (ha : g.addr ∉ as) (hr : g.addr ∉ ringRegs) : e.fld g = d.fld g := by
  rw [Dev.fld, h.reg ha hr, ← Dev.fld]

theorem Dev.Linked.flag (h : Dev.Linked as d e) {g : Fld} (ha : g.addr ∉ as) (hr : g.addr ∉ ringRegs) : e.flag g = d.flag g := by
  rw [Dev.flag, h.fld ha hr, ← Dev.flag]

theorem leavesRing_linked {bs : List Nat} (h : d.leavesRing e bs) (hl : Dev.Linked as e f) (hsub : as ⊆ bs) :
    d.leavesRing f bs := by
  obtain ⟨hregs, hbanks, hnvm, hcfg⟩ := h
  refine ⟨fun a ha hr => (hl.reg (fun h => ha (hsub h)) hr).trans (hregs a ha hr),
    fun b w hb => (hl.2.1 b w hb).trans (hbanks b w hb), fun a => ?_, fun s i n => ?_⟩
  · rw [← hnvm a]; exact hl.keeps (·.nvmByte a) fun _ => rfl
  · rw [← hcfg s i n]; exact hl.keeps (·.cfgWord s i n) fun _ => rfl

theorem leavesRing_setReg {bs : List Nat} (h : d.leavesRing e bs) {a : Nat} {v : Word} (ha : a ∈ bs) :
    d.leavesRing (e.setReg a v) bs :=
  ⟨fun _ hb hr => by rw [Dev.reg_setReg, if_neg (ne_of_mem_of_not_mem ha hb).symm, h.1 _ hb hr], h.2⟩

theorem leavesRing_setFlag {bs : List Nat} (h : d.leavesRing e bs) {g : Fld} {b : Bool} (ha : g.addr ∈ bs) :
    d.leavesRing (e.setFlag g b) bs := leavesRing_setReg h ha

/-! The gate of fault injection (R627). -/

/-- The registers of the injection points. -/
def injRegs : List Nat := (List.range 8).map SVC_INJ

theorem linked_judgeGate (d : Dev) : Dev.Linked injRegs d d.judgeGate := by
  have hclear : ∀ e, ∀ i ∈ List.range 8, Dev.Linked injRegs e (e.setReg (SVC_INJ i) 0) := fun e i hi =>
    linked_setReg e 0 (List.mem_map_of_mem hi)
  unfold Dev.judgeGate
  split
  · exact linked_refl d
  · split
    · exact linked_trans (linked_setLink ..) (linked_ring ..)
    · exact linked_trans (linked_foldl _ _ hclear) (linked_trans (linked_setLink ..) (linked_ring ..))

/-! A packet's way through the link (R601 to R613). -/

/-- The registers that traffic may change: what is in flight, and the counters of the ports, the routes, the waiting operations,
the flows and the injection points. -/
def linkRegs : List Nat :=
  [EGL_STAT, EGL_RTCNT, EGL_STALL, EGL_E2E] ++ (List.range 4).map EGL_PKT ++ (List.range 4).map EGL_PINFL ++
    (List.range 8).map SVC_INJCNT

theorem pinfl_mem_linkRegs {p : Nat} (hp : p < 4) : EGL_PINFL p ∈ linkRegs := by interval_cases p <;> decide
theorem pkt_mem_linkRegs {p : Nat} (hp : p < 4) : EGL_PKT p ∈ linkRegs := by interval_cases p <;> decide
theorem svcInjcnt_mem_linkRegs {p : Nat} (hp : p < 4) : SVC_INJCNT (2 * p) ∈ linkRegs := by interval_cases p <;> decide

theorem linked_noteInflight (d : Dev) {p : Nat} (hp : p < 4) : Dev.Linked linkRegs d (d.noteInflight p) :=
  linked_trans (linked_setFld _ _ (pinfl_mem_linkRegs hp))
    (linked_trans (linked_setFld _ _ (pinfl_mem_linkRegs hp)) (linked_setFld _ _ (pinfl_mem_linkRegs hp)))

theorem linked_noteTags (d : Dev) : Dev.Linked linkRegs d d.noteTags :=
  linked_trans (linked_setFld _ _ (by decide)) (linked_foldl _ _ fun e p hp => linked_noteInflight e (List.mem_range.1 hp))

theorem linked_putWire (d : Dev) (p : Nat) (syms : List Sym) : Dev.Linked as d (d.putWire p syms) :=
  linked_trans (linked_draw d 2) (linked_setPort ..)

theorem linked_putFrame (d : Dev) {p : Nat} (hp : p < 4) (seq flip : Option Nat) (pk : Packet) :
    Dev.Linked linkRegs d (d.putFrame p seq flip pk) :=
  linked_trans (linked_putWire ..) (linked_bumpBy _ 1 (pkt_mem_linkRegs hp))

theorem linked_injectFault (d : Dev) {p : Nat} (hp : p < 4) (beacon : Bool) :
    Dev.Linked linkRegs d (d.injectFault (2 * p) beacon).2 := by
  have hlfsr (l : Link) : Dev.Linked linkRegs d (d.setLink l) := linked_setLink d l
  have hcount (l : Link) (g : Fld) (hg : g.addr = SVC_INJCNT (2 * p)) : Dev.Linked linkRegs d ((d.setLink l).bump g) :=
    linked_trans (hlfsr l) (linked_bump _ (hg ▸ svcInjcnt_mem_linkRegs hp))
  unfold Dev.injectFault
  split
  · exact linked_refl d
  · extract_lets
    split
    · exact hcount _ _ rfl
    · split
      · exact hcount _ _ rfl
      · split
        · exact hlfsr _
        · exact hlfsr _

theorem linked_transmit (d : Dev) {p : Nat} (hp : p < 4) (seq : Nat) (pk : Packet) :
    Dev.Linked linkRegs d (d.transmit p seq pk) := by
  have hinject := linked_injectFault d hp false
  have hpass (e : Dev) (r : Nat × Nat × Bool × Packet) : Dev.Linked linkRegs e
      (((e.unhold (2 * p)).bump (SVC_INJCNT_REORDERS (2 * p))).putFrame p (r.2.2.2.seqOf r.2.1) none r.2.2.2) :=
    linked_trans (linked_setLink ..) (linked_trans (linked_bump _ (svcInjcnt_mem_linkRegs hp)) (linked_putFrame _ hp ..))
  unfold Dev.transmit
  extract_lets i
  split
  next fault x hfault =>
  rw [hfault] at hinject
  split
  · split
    · exact hinject
    · split
      · exact linked_trans hinject (linked_setLink ..)
      · exact linked_trans hinject (linked_putFrame _ hp ..)
  · extract_lets y
    refine linked_trans (linked_trans hinject (f := y) ?_) (hpass y _)
    unfold y
    split
    · exact linked_refl _
    · exact linked_putFrame _ hp ..

theorem linked_pump (d : Dev) {p : Nat} (hp : p < 4) (k : Nat) : Dev.Linked linkRegs d (d.pump p k) := by
  induction k generalizing d with
  | zero => exact linked_refl d
  | succ k ih =>
    unfold Dev.pump
    extract_lets q
    split
    · exact linked_refl d
    · split
      · exact linked_refl d
      · split
        · exact linked_refl d
        · exact linked_trans (linked_setPort ..) (linked_trans (linked_transmit _ hp ..) (ih _))

theorem linked_enqueue (d : Dev) (via : Nat) {p : Nat} (hp : p < 4) (pk : Packet) :
    Dev.Linked linkRegs d (d.enqueue via p pk) :=
  linked_trans (linked_setPort ..) (linked_trans (linked_pump _ hp _) (linked_noteInflight _ hp))

theorem linked_unroutable (d : Dev) (pk : Packet) : Dev.Linked linkRegs d (d.unroutable pk) := by
  unfold Dev.unroutable
  extract_lets _ x due n
  have hx : Dev.Linked linkRegs d x := linked_trans (linked_bump _ (by decide)) (linked_setLink ..)
  split
  · exact linked_trans hx (linked_trans (linked_setLink ..) (linked_ring ..))
  · exact hx

theorem Dev.xPort_lt {dest p : Nat} (h : d.xPort dest = some p) : p < 4 := by
  unfold Dev.xPort at h
  grind

theorem Dev.yPort_lt {dest p : Nat} (h : d.yPort dest = some p) : p < 4 := by
  unfold Dev.yPort at h
  grind

theorem Dev.facing_lt (d : Dev) (xy : Nat) : d.facing xy < 4 := by
  unfold Dev.facing
  split
  next p hp => exact d.xPort_lt hp
  next =>
    cases hy : d.yPort xy with
    | none => simp
    | some p => exact d.yPort_lt hy

/-- A port that is up among the X and the Y port is one of the four. -/
theorem Dev.portUp_lt {a b : Option Nat} (ha : ∀ p, a = some p → p < 4) (hb : ∀ p, b = some p → p < 4) {p : Nat}
    (h : (a.or b).filter d.isUp = some p) : p < 4 := by
  obtain ⟨hsome, -⟩ := Option.filter_eq_some_iff.1 h
  obtain hfst | ⟨-, hsnd⟩ := Option.or_eq_some_iff.1 hsome
  · exact ha p hfst
  · exact hb p hsnd

/-- A routed packet leaves by one of the four ports (R604). -/
theorem Dev.routeOf_lt {pk : Packet} {r : Nat × Bool} (h : d.routeOf pk = some r) : r.1 < 4 := by
  have hx (p : Nat) := d.xPort_lt (dest := pk.dest) (p := p)
  have hy (p : Nat) := d.yPort_lt (dest := pk.dest) (p := p)
  simp only [Dev.routeOf] at h
  split at h
  · obtain ⟨p, hp, rfl⟩ := Option.map_eq_some_iff.1 h
    exact Dev.portUp_lt hy hx hp
  · split at h
    next p hp =>
      obtain rfl := Option.some.inj h
      exact Dev.portUp_lt hx hy hp
    next =>
      obtain ⟨p, hp, rfl⟩ := Option.map_eq_some_iff.1 h
      exact Dev.portUp_lt hy hx hp

theorem linked_routePacket (d : Dev) (via : Nat) (pk : Packet) : Dev.Linked linkRegs d (d.routePacket via pk) := by
  have hdetour : Dev.Linked linkRegs d (d.bump EGL_RTCNT_DETOURS) := linked_bump d (by decide)
  unfold Dev.routePacket
  split
  next hroute =>
    refine linked_trans ?_ (linked_unroutable ..)
    split
    · exact linked_refl d
    · exact hdetour
  next p set hroute =>
    refine linked_trans ?_ (linked_enqueue _ _ (d.routeOf_lt hroute) _)
    split
    · exact hdetour
    · exact linked_refl d

theorem linked_clearFlows (d : Dev) (xy : Nat) : Dev.Linked as d (d.clearFlows xy) := linked_setLink ..

theorem linked_drainHold (d : Dev) (key k : Nat) : Dev.Linked as d (d.drainHold key k) := by
  induction k generalizing d with
  | zero => exact linked_refl d
  | succ k ih =>
    unfold Dev.drainHold
    extract_lets want
    split
    · exact linked_refl d
    · exact linked_trans (linked_setLink ..) (ih _)

theorem linked_skipGap (d : Dev) (key : Nat) : Dev.Linked linkRegs d (d.skipGap key) := by
  unfold Dev.skipGap
  simp only
  split
  · exact linked_refl d
  · exact linked_trans (linked_setLink ..) (linked_trans (linked_bump _ (by decide)) (linked_drainHold ..))

theorem linked_arrive (d : Dev) (via : Nat) (pk : Packet) : Dev.Linked linkRegs d (d.arrive via pk) := by
  unfold Dev.arrive
  extract_lets key dist x _ _ y
  split
  · refine linked_trans (e := x) ?_ (linked_setLink ..)
    unfold x
    split
    · exact linked_clearFlows ..
    · exact linked_refl d
  · split
    · exact linked_trans (linked_setLink ..) (linked_drainHold ..)
    · split
      · have hy : Dev.Linked linkRegs d y := linked_setLink ..
        split
        · exact hy
        · split
          · exact hy
          · exact linked_trans hy (linked_skipGap ..)
      · exact linked_bump d (by decide)

theorem linked_launch (d : Dev) (pk : Packet) : Dev.Linked linkRegs d (d.launch pk) := by
  unfold Dev.launch
  extract_lets key n pk _ x
  refine linked_trans (e := x) (linked_setLink ..) ?_
  split
  · exact linked_arrive ..
  · exact linked_routePacket ..

theorem linked_takeMsg (d : Dev) (m : Msg) : Dev.Linked linkRegs d (d.takeMsg m) := by
  refine linked_foldl _ _ fun e w _ => ?_
  split
  · extract_lets p
    split
    · exact linked_enqueue _ _ (e.facing_lt _) _
    · exact linked_refl e
  · split
    · exact linked_launch ..
    · exact linked_setLink ..

theorem linked_issueOne (d : Dev) (i : Nat) : Dev.Linked linkRegs d (d.issueOne i) := by
  unfold Dev.issueOne
  split
  · exact linked_refl d
  · split
    · exact linked_refl d
    · extract_lets p
      split
      · exact linked_trans (linked_setLink ..) (linked_launch ..)
      · split
        · exact linked_refl d
        · exact linked_trans (linked_setLink ..) (linked_bump _ (by decide))

/-- Messages that enter the link, and operations that take their tags, change the link and its counters only (R613). -/
theorem linked_issueOps (d : Dev) : Dev.Linked linkRegs d d.issueOps := by
  unfold Dev.issueOps
  extract_lets x
  have hempty : Dev.Linked linkRegs d { d with outbox := [] } := linked_of rfl rfl rfl
  have hx : Dev.Linked linkRegs d x := linked_trans hempty (linked_foldl _ _ fun e m _ => linked_takeMsg e m)
  exact linked_trans hx (linked_trans (linked_foldl _ _ fun e i _ => linked_issueOne e i) (linked_noteTags _))

end Sys2Proof.Machine
end

section
/-!
SUPPORT. The service functions (R70 to R81, R92 to R95): codes, meter points and static electrode states.
-/

namespace Sys2Proof.Machine

variable {d e : Dev} {as : List Nat}

/-! Codes (R72, R92, R93). -/

/-- The unlock flag set, SVC_UNLOCK's event, and the gate judged (R93, R627). -/
def Dev.setUnlock (d : Dev) (b : Bool) (w1 : Word) : Dev := ((d.setFlag SVC_STAT_INJ_UNLOCK b).ring 228 w1 0).judgeGate

theorem Dev.setUnlock_flag (d : Dev) (b : Bool) (w1 : Word) : (d.setUnlock b w1).flag SVC_STAT_INJ_UNLOCK = b := by
  rw [Dev.setUnlock, (linked_judgeGate _).flag (by decide) (by decide), Dev.ring_flag (by decide)]
  exact Dev.flag_setFlag_same _ _ _ (by decide) (by decide)

theorem leavesRing_setUnlock (d : Dev) (b : Bool) (w1 : Word) :
    d.leavesRing (d.setUnlock b w1) (SVC_STAT :: (List.range 8).map SVC_INJ) :=
  leavesRing_linked (leavesRing_ring (leavesRing_of_leaves (leaves_setFlag (d.leaves_refl _) (by simp))) ..)
    (linked_judgeGate _) (List.subset_cons_self ..)

theorem Dev.writeUnlock_lockout (h : d.flag SVC_STAT_LOCKOUT = true) (v : Word) : d.writeUnlock v = d := by
  simp [Dev.writeUnlock, h]

theorem Dev.writeUnlock_zero (h : d.flag SVC_STAT_LOCKOUT = false) : d.writeUnlock 0 = d.setUnlock false 0 := by
  simp [Dev.writeUnlock, h, Dev.setUnlock]

theorem Dev.writeUnlock_code {v : Word} (h : d.codeBarred = false) (hv : v ≠ 0) : d.writeUnlock v =
    if v.toNat = d.svcCode then d.setUnlock true 1 else d.rejectCode 1 := by
  have hlock : d.flag SVC_STAT_LOCKOUT = false := by
    rw [Dev.codeBarred, Bool.or_eq_false_iff] at h
    exact h.1
  rw [Dev.writeUnlock, if_neg (by simp [hlock]), if_neg hv, if_neg (by simp [h])]
  rfl

/-- A rejected code counted, with its time (R72). -/
def Dev.codeRejected (d : Dev) : Dev := (d.bump SVC_STAT_FAILS).setCon { d.con with lastReject := some d.ticks }

theorem Dev.codeRejected_fails (d : Dev) : d.codeRejected.fld SVC_STAT_FAILS = min (d.fld SVC_STAT_FAILS + 1) 3 :=
  Dev.fld_bump_same d SVC_STAT_FAILS (by decide)

/-- A rejected code counted, and its event raised (R72). -/
def Dev.countReject (d : Dev) (how : Nat) : Dev :=
  d.codeRejected.ring 226 (word (min (d.fld SVC_STAT_FAILS + 1) 3)) (word how)

theorem Dev.countReject_fails (d : Dev) (how : Nat) :
    (d.countReject how).fld SVC_STAT_FAILS = min (d.fld SVC_STAT_FAILS + 1) 3 := by
  rw [Dev.countReject, Dev.ring_fld (by decide), Dev.codeRejected_fails]

theorem Dev.countReject_lastReject (d : Dev) (how : Nat) : (d.countReject how).con.lastReject = some d.ticks :=
  congrArg (fun x : Dev => x.con.lastReject) (Dev.ring_quiet ..)

theorem leavesRing_countReject (d : Dev) (how : Nat) : d.leavesRing (d.countReject how) [SVC_STAT] :=
  leavesRing_ring (leavesRing_of_leaves (leaves_setCon (leaves_bump (d.leaves_refl _) (by decide)) _)) ..

/-- The first two rejected codes are counted, and the third locks out too (R92). -/
theorem Dev.rejectCode_eq (d : Dev) (how : Nat) : d.rejectCode how =
    if d.fld SVC_STAT_FAILS < 2 then d.countReject how else ((d.countReject how).setFlag SVC_STAT_LOCKOUT true).ring 227 3 0 := by
  have heq : d.rejectCode how =
      if (d.countReject how).fld SVC_STAT_FAILS = 3 then ((d.countReject how).setFlag SVC_STAT_LOCKOUT true).ring 227 3 0
      else d.countReject how := by
    rw [Dev.countReject, ← Dev.codeRejected_fails]
    rfl
  rw [heq, Dev.countReject_fails]
  by_cases h : d.fld SVC_STAT_FAILS < 2
  · rw [if_neg (by omega), if_pos h]
  · rw [if_pos (by omega), if_neg h]

theorem Dev.rejectCode_counts (d : Dev) (how : Nat) :
    (d.rejectCode how).con.lastReject = some d.ticks ∧
      (d.rejectCode how).fld SVC_STAT_FAILS = min (d.fld SVC_STAT_FAILS + 1) 3 ∧
      d.leavesRing (d.rejectCode how) [SVC_STAT] := by
  have hkept := leavesRing_countReject d how
  rw [Dev.rejectCode_eq]
  split
  · exact ⟨d.countReject_lastReject how, d.countReject_fails how, hkept⟩
  · refine ⟨?_, ?_, leavesRing_ring (leavesRing_setFlag hkept (by decide)) ..⟩
    · exact (congrArg (fun x : Dev => x.con.lastReject) (Dev.ring_quiet ..)).trans (d.countReject_lastReject how)
    · rw [Dev.ring_fld (by decide), Dev.fld_setFlag_apart _ _ (by decide) (by decide), Dev.countReject_fails]

/-- The third rejected code locks out (R92). -/
theorem Dev.rejectCode_locksOut (how : Nat) (h : 2 ≤ d.fld SVC_STAT_FAILS) :
    (d.rejectCode how).flag SVC_STAT_LOCKOUT = true ∧ ∃ e : Dev, d.rejectCode how = e.ring 227 3 0 := by
  rw [Dev.rejectCode_eq, if_neg (by omega), Dev.ring_flag (by decide)]
  exact ⟨Dev.flag_setFlag_same _ _ _ (by decide) (by decide), _, rfl⟩

theorem Dev.rejectCode_rang (how : Nat) (h : d.fld SVC_STAT_FAILS < 2) :
    d.rang (d.rejectCode how) 226 (word (d.fld SVC_STAT_FAILS + 1)) (word how) := by
  rw [Dev.rejectCode_eq, if_pos h, Dev.countReject, min_eq_left (by omega)]
  exact rang_ring (e := d.codeRejected) rfl ..

/-! Static electrode states (R80, R81, R95). -/

theorem keyGet_filter_ne (l : List (Nat × Nat)) (n : Nat) (p : Nat × Nat → Bool) :
    keyGet (l.filter fun q => q.1 != n && p q) n = 0 := by
  have hnone : (l.filter fun q => q.1 != n && p q).find? (fun q => q.1 == n) = none := by
    simp only [List.find?_eq_none, List.mem_filter]
    grind
  rw [keyGet, hnone]

theorem keyGet_append_of_zero {l : List (Nat × Nat)} {n : Nat} (h : ∀ q ∈ l, q.1 ≠ n) (st : Nat) :
    keyGet (l ++ [(n, st)]) n = st := by
  have hnone : l.find? (fun q => q.1 == n) = none := by simpa [List.find?_eq_none] using fun a b hab => h (a, b) hab
  simp [keyGet, List.find?_append, hnone]

/-- The electrode placed has its new state. -/
theorem keyGet_placeState (l : List (Nat × Nat)) (n st : Nat) : keyGet (placeState l n st) n = st := by
  unfold placeState
  extract_lets kept
  split
  next hst => rw [hst, keyGet_filter_ne]
  next => exact keyGet_append_of_zero (by grind) st

theorem placeState_ne_nil (l : List (Nat × Nat)) (n : Nat) {st : Nat} (h : st ≠ 0) : placeState l n st ≠ [] := by
  simp [placeState, h]

theorem Dev.staticOf_placeEl (d : Dev) (n st : Nat) : (d.placeEl n st).staticOf n = st := keyGet_placeState ..

theorem keyGet_map_const (l : List Nat) (st : Nat) {k : Nat} (hk : k ∈ l) : keyGet (l.map fun n => (n, st)) k = st := by
  induction l with
  | nil => simp at hk
  | cons n l ih =>
    by_cases h : n = k
    · simp [keyGet, h]
    · have hrest := ih (by simpa [Ne.symm h] using hk)
      rw [List.map_cons, keyGet, List.find?_cons_of_neg (by simpa using h)]
      exact hrest

theorem Dev.staticOf_placeAll (d : Dev) (st : Nat) {k : Nat} (hk : k < 160) : (d.placeAll st).staticOf k = st := by
  show keyGet (if st = 0 then [] else _) k = st
  split
  next h => rw [h]; rfl
  next => exact keyGet_map_const _ _ (List.mem_range.2 hk)

theorem Dev.placeAll_static (d : Dev) (st : Nat) : (d.placeAll st).flag SVC_STAT_STATIC = (st != 0) := by
  rw [Dev.placeAll, Dev.setStates, Dev.flag_setFlag_same _ _ _ (by decide) (by decide)]
  by_cases h : st = 0
  · simp [h]
  · have hshown : (st != 0) = true := by simpa using h
    rw [if_neg h, hshown]
    rfl

theorem leaves_setStates (h : d.leaves e as) (l : List (Nat × Nat)) (ha : SVC_STAT ∈ as) : d.leaves (e.setStates l) as :=
  leaves_setFlag (leaves_setCon h _) ha

theorem leaves_placeEl (h : d.leaves e as) (n st : Nat) (ha : SVC_STAT ∈ as) : d.leaves (e.placeEl n st) as :=
  leaves_setStates h _ ha

theorem leaves_placeAll (h : d.leaves e as) (st : Nat) (ha : SVC_STAT ∈ as) : d.leaves (e.placeAll st) as :=
  leaves_setStates h _ ha

theorem Dev.writeEl_refused (h : d.serviceOpen = false ∨ d.flag SCAN_STAT_RUN = true) (v : Word) : d.writeEl v = d := by
  rw [Dev.writeEl]
  exact if_pos (by tauto)

theorem Dev.writeEl_one {v : Word} (hopen : d.serviceOpen = true) (hscan : d.flag SCAN_STAT_RUN = false)
    (hn : wGet v 8 8 < 160) (hst : wGet v 0 3 < 5) :
    d.writeEl v = (d.setFld SVC_EL_INDEX (wGet v 8 8)).placeEl (wGet v 8 8) (wGet v 0 3) := by
  simp only [Dev.writeEl, hopen, hscan]
  rw [if_neg (by simp; omega), if_neg (by omega), if_neg (by omega)]

theorem Dev.writeEl_all {v : Word} (hopen : d.serviceOpen = true) (hscan : d.flag SCAN_STAT_RUN = false)
    (hn : wGet v 8 8 = 255) (hst : wGet v 0 3 < 3) : d.writeEl v = (d.setFld SVC_EL_INDEX 255).placeAll (wGet v 0 3) := by
  simp only [Dev.writeEl, hopen, hscan, hn]
  rw [if_neg (by simp; omega), if_neg (by omega), if_pos trivial]

/-- `el` within its ranges, with the full command set open and no scan, places the states it names (R80). -/
theorem Dev.consoleEl_places {all : Bool} {n st : Nat} (hset : d.fullSet = true) (hopen : d.serviceOpen = true)
    (hscan : d.flag SCAN_STAT_RUN = false) (hst : st < 5) (hrange : if all then st < 3 else n < 160) :
    d.consoleEl all n st = (if all then d.placeAll st else d.placeEl n st).finish .ok := by
  have hin : ¬ (all = false ∧ 160 ≤ n ∨ all = true ∧ 3 ≤ st) := by cases all <;> simp at hrange ⊢ <;> omega
  rw [Dev.consoleEl, if_neg (by simp [hset]), if_neg (by omega), if_neg hin, if_neg (by simp [hopen, hscan])]
  cases all <;> rfl

/-! Meter points (R78, R79, R81, R94). -/

/-- A point selected, before point 7 places its electrode. -/
def Dev.amonOn (d : Dev) (point arg : Nat) : Dev :=
  ((d.setReg SVC_AMON (pack [(arg % 256, 8), (point, 0)])).setCon { d.con with amon := point != 0 }).setFlag SVC_STAT_METER
    (point != 0)

theorem Dev.selectPoint_eq (d : Dev) (point arg : Nat) :
    d.selectPoint point arg = if point = 7 ∧ d.staticOf arg ≠ 4 then (d.amonOn point arg).placeEl arg 3 else d.amonOn point arg :=
  rfl

theorem Dev.selectPoint_other {point : Nat} (h : point ≠ 7) (arg : Nat) : d.selectPoint point arg = d.amonOn point arg :=
  if_neg fun hand => h hand.1

/-- A selected point is carried on AMON and shown (R94). -/
theorem Dev.amonOn_shows (d : Dev) (point : Nat) {arg : Nat} (harg : arg < 256) :
    (d.amonOn point arg).reg SVC_AMON = pack [(arg, 8), (point, 0)] ∧ (d.amonOn point arg).flag SVC_STAT_METER = (point != 0) ∧
      (d.amonOn point arg).con.amon = (point != 0) ∧ d.leaves (d.amonOn point arg) [SVC_AMON, SVC_STAT] := by
  refine ⟨?_, Dev.flag_setFlag_same _ _ _ (by decide) (by decide), rfl, ?_⟩
  · rw [Dev.amonOn, Dev.setFlag, Dev.reg_setFld_ne _ _ _ (by decide), Nat.mod_eq_of_lt harg]
    exact (Dev.reg_setReg ..).trans (if_pos rfl)
  · exact leaves_setFlag (leaves_setCon (leaves_setReg (d.leaves_refl _) (by decide)) _) (by decide)

/-- Point 7 puts its electrode on the meter path, unless the electrode drives it (R81). -/
theorem Dev.selectPoint_electrode {arg : Nat} (harg : arg < 256) (hst : d.staticOf arg ≠ 4) :
    (d.selectPoint 7 arg).reg SVC_AMON = pack [(arg, 8), (7, 0)] ∧ (d.selectPoint 7 arg).staticOf arg = 3 ∧
      (d.selectPoint 7 arg).flag SVC_STAT_STATIC = true ∧ d.leaves (d.selectPoint 7 arg) [SVC_AMON, SVC_STAT] := by
  obtain ⟨hreg, -, -, hkept⟩ := d.amonOn_shows 7 harg
  rw [Dev.selectPoint_eq, if_pos ⟨rfl, hst⟩]
  refine ⟨?_, Dev.staticOf_placeEl .., ?_, leaves_placeEl hkept _ _ (by decide)⟩
  · rw [← hreg]
    exact Dev.reg_setFld_ne _ _ _ (by decide)
  · rw [Dev.placeEl, Dev.setStates, Dev.flag_setFlag_same _ _ _ (by decide) (by decide)]
    simpa using placeState_ne_nil _ _ (by decide)

theorem Dev.writeAmon_closed (h : d.serviceOpen = false) (v : Word) : d.writeAmon v = d := if_pos (.inl h)

theorem Dev.writeAmon_point {v : Word} (hp : wGet v 0 5 < 12) : d.writeAmon v =
    if d.serviceOpen = false ∨ argOk (wGet v 0 5) (wGet v 8 8) = false then d
    else d.selectPoint (wGet v 0 5) (wGet v 8 8) := by
  rw [Dev.writeAmon]
  simp only [if_neg (Nat.not_le.2 hp)]

/-- A reserved point selects none (R94). -/
theorem Dev.writeAmon_reserved {v : Word} (hopen : d.serviceOpen = true) (hp : 12 ≤ wGet v 0 5) :
    d.writeAmon v = d.amonOn 0 (wGet v 8 8) := by
  rw [Dev.writeAmon, ← Dev.selectPoint_other (by decide)]
  simp only [if_pos hp, hopen]
  exact if_neg (by simp [argOk])

theorem wGet_pack_point (arg : Nat) : wGet (pack [(arg, 8), (0, 0)]) 0 5 = 0 := by
  simp only [wGet, pack, List.foldl, BitVec.toNat_ofNat, Nat.shiftRight_zero]
  omega

/-- `meter` within its ranges, with the full command set open, selects its point (R78). -/
theorem Dev.consoleMeter_selects {point arg : Nat} (hset : d.fullSet = true) (hopen : d.serviceOpen = true)
    (hpoint : point < 12) (hne : point ≠ 4 ∧ point ≠ 7) (harg : arg < 256) (hok : argOk point arg = true) :
    ∃ l, d.consoleMeter point arg = ((d.amonOn point arg).print l).finish .ok := by
  refine ⟨.meter point arg ((d.amonOn point arg).pointBand point arg).1 ((d.amonOn point arg).pointBand point arg).2, ?_⟩
  rw [Dev.consoleMeter, if_neg (by simp [hset]), if_neg (by simp [hok]; omega), if_neg (by simp [hopen, hne.2])]
  simp only [if_neg hne.1, Dev.selectPoint_other hne.2]
  rfl

end Sys2Proof.Machine
end

section
/-!
SUPPORT. The console's characters and lines (R65 to R68, R83, R87), and its requests for SERVICE (R73, R77).
-/

namespace Sys2Proof.Machine

variable {d e : Dev} {as : List Nat}

/-! What is printed keeps the line. -/

theorem Dev.line_printed (h : d.Printed e) : e.con.line = d.con.line := h.keeps (·.con.line) fun _ _ _ => rfl

theorem leaves_print (h : d.leaves e as) (l : OutLine) (ha : SVC_ERR ∈ as) : d.leaves (e.print l) as :=
  leaves_printed h (e.print_printed l) ha

theorem leaves_printAll (h : d.leaves e as) (ls : List OutLine) (ha : SVC_ERR ∈ as) : d.leaves (e.printAll ls) as :=
  leaves_printed h (e.printAll_printed ls) ha

theorem leaves_statusLine (h : d.leaves e as) (l : OutLine) (ha : SVC_ERR ∈ as) : d.leaves (e.statusLine l) as :=
  leaves_printed h (e.statusLine_printed l) ha

/-! Characters (R65, R66, R88). -/

/-- The session once a character has come. -/
def Dev.attended (d : Dev) : Dev := d.setCon { d.con with lastChar := some d.ticks, session := true }

/-- The character follows no CR. -/
def Dev.attendedNoCr (d : Dev) : Dev := d.attended.setCon { d.attended.con with lastCr := false }

theorem Dev.receiveChar_early (h : d.pwr.step ≠ 8) (c : Byte) (bad : Bool) : d.receiveChar c bad = d := if_pos (.inl h)

section

variable (hstep : d.pwr.step = 8) (hawake : d.asleep = false) (hup : d.modes.waking = false)
include hstep hawake hup

theorem Dev.receiveChar_bad (c : Byte) : d.receiveChar c true =
    (d.attended.bump SVC_ERR_FRAMING).setCon { (d.attended.bump SVC_ERR_FRAMING).con with framed := true, lastCr := false } := by
  rw [Dev.receiveChar, if_neg (by simp [hstep, hawake, hup])]
  rfl

/-- Outside WATCH a good character ends the line, rubs one out, stops what runs, or is kept. -/
theorem Dev.receiveChar_good (hmode : d.mode ≠ modeWatch) (c : Byte) : d.receiveChar c false =
    if c = 0x0D ∨ c = 0x0A then d.attended.endLine c
    else if c = 0x08 ∨ c = 0x7F then d.attendedNoCr.rubChar
    else if c = 0x03 then d.attendedNoCr.ctrlC
    else d.attendedNoCr.keepChar c := by
  rw [Dev.receiveChar, if_neg (by simp [hstep, hawake, hup]), if_neg Bool.false_ne_true]
  exact if_neg fun h => hmode h.1

end

theorem Dev.leaves_attended (d : Dev) : d.leaves d.attended as := leaves_setCon (d.leaves_refl _) _
theorem Dev.leaves_attendedNoCr (d : Dev) : d.leaves d.attendedNoCr as := leaves_setCon d.leaves_attended _

theorem Dev.keepChar_short (h : d.con.line.length < 80) (c : Byte) :
    (d.attendedNoCr.keepChar c).con.line = d.con.line ++ [c] ∧ d.leaves (d.attendedNoCr.keepChar c) [SVC_ERR] := by
  rw [Dev.keepChar, if_pos (show d.attendedNoCr.con.line.length < 80 from h)]
  exact ⟨Dev.line_printed (Dev.print_printed ..), leaves_print (leaves_setCon d.leaves_attendedNoCr _) _ (by decide)⟩

theorem Dev.keepChar_long (h : 80 ≤ d.con.line.length) (c : Byte) :
    (d.attendedNoCr.keepChar c).con.line = d.con.line ∧ (d.attendedNoCr.keepChar c).con.tooLong = true ∧
      d.leaves (d.attendedNoCr.keepChar c) [] := by
  rw [Dev.keepChar, if_neg (show ¬ d.attendedNoCr.con.line.length < 80 from Nat.not_lt.2 h)]
  exact ⟨rfl, rfl, leaves_setCon d.leaves_attendedNoCr _⟩

theorem Dev.rubChar_deletes (h : d.con.line ≠ []) :
    d.attendedNoCr.rubChar.con.line = d.con.line.dropLast ∧ d.leaves d.attendedNoCr.rubChar [SVC_ERR] := by
  have hline : ¬ d.attendedNoCr.con.line.isEmpty = true := fun hempty => h (List.isEmpty_iff.1 hempty)
  rw [Dev.rubChar, if_neg hline]
  exact ⟨Dev.line_printed (Dev.printAll_printed ..), leaves_printAll (leaves_setCon d.leaves_attendedNoCr _) _ (by decide)⟩

/-! A line that ends (R66, R68, R83). -/

/-- The console between the CR and what its line does. -/
def Dev.lineTaken (d : Dev) : Dev := (d.attended.setCon { d.attended.con with lastCr := true }).dropLine

theorem Dev.leaves_lineTaken (d : Dev) : d.leaves d.lineTaken as := leaves_dropLine (leaves_setCon d.leaves_attended _)

theorem Dev.endLine_running (h : d.running = true) : d.attended.endLine 0x0D =
    d.lineTaken.setCon { d.lineTaken.con with waits := d.con.waits ++ [d.con.judged] } := by
  rw [Dev.endLine, if_neg (by simp), Dev.enterLine]
  exact if_pos h

theorem Dev.endLine_idle (h : d.running = false) : d.attended.endLine 0x0D = d.lineTaken.runLine d.con.judged := by
  rw [Dev.endLine, if_neg (by simp), Dev.enterLine]
  exact if_neg (show ¬ d.running = true by simp [h])

/-- A line that holds an error is counted where it is too long, and answered by the error (R68). -/
theorem Dev.runLine_err (d : Dev) (code : Nat) (hline : d.con.line = []) : ∃ e : Dev,
    d.runLine (.err code) = e.statusLine (.error code) ∧ (e.statusLine (.error code)).con.line = [] ∧
      d.leaves (e.statusLine (.error code)) [SVC_ERR] := by
  refine ⟨if code = 2 then d.bump SVC_ERR_LONG else d, rfl, ?_, ?_⟩
  · rw [Dev.line_printed (Dev.statusLine_printed ..)]
    split <;> exact hline
  · refine leaves_statusLine ?_ _ (by decide)
    split
    · exact leaves_bump (d.leaves_refl _) (by decide)
    · exact d.leaves_refl _

theorem Dev.enterLine_idle (h : d.running = false) (l : LineCmd) : d.dropLine.enterLine l = d.dropLine.runLine l :=
  if_neg (show ¬ d.running = true by simp [h])

/-! What ends by itself (R65, R83). -/

theorem Dev.ctrlC_evmon (hrd : d.con.rd = none) (htodo : d.con.todo = []) (hwait : d.con.logWait = none) :
    d.ctrlC = if d.con.evmon then (d.setCon { d.con with evmon := false }).statusLine (.error 12) else d := by
  rw [Dev.ctrlC, if_neg (by simp [hrd, htodo, hwait])]

theorem Dev.ctrlC_running (h : d.con.rd ≠ none ∨ d.con.todo ≠ [] ∨ d.con.logWait ≠ none) :
    d.ctrlC = (d.setCon { d.con with rd := none, todo := [], logWait := none }).statusLine (.error 12) := by
  have hruns : (d.con.rd.isSome || !d.con.todo.isEmpty || d.con.logWait.isSome) = true := by
    simpa [Option.isSome_iff_ne_none, or_assoc] using h
  rw [Dev.ctrlC, if_pos hruns]

/-- The console asks for the fast oscillator (R65). -/
def Dev.inSession (d : Dev) : Dev := d.setCon { d.con with session := true }

theorem Dev.foscStart_starts (d : Dev) : d.foscStart.flag SYS_CLK_FOSC_ON = true ∧ d.foscStart.flag SYS_CLK_LOCKED = false ∧
    d.foscStart.con = d.con ∧ d.leaves d.foscStart [SYS_CLK] := by
  have hset : d.leaves (d.setPwr { d.pwr with lockFails := 0 }) [SYS_CLK] := leaves_of (d.leaves_refl _) rfl rfl rfl rfl
  refine ⟨?_, ?_, rfl, leaves_setFld (leaves_setFlag (leaves_setFlag hset (by decide)) (by decide)) (by decide)⟩
  · rw [Dev.foscStart, Dev.flag_setFld_apart _ _ (by decide) (by decide), Dev.flag_setFlag_apart _ _ (by decide) (by decide)]
    exact Dev.flag_setFlag_same _ _ _ (by decide) (by decide)
  · rw [Dev.foscStart, Dev.flag_setFld_apart _ _ (by decide) (by decide)]
    exact Dev.flag_setFlag_same _ _ _ (by decide) (by decide)

/-! SERVICE asked for, and the full command set (R70, R73 to R77). -/

/-- The full command set opened: its entry, and its event. -/
theorem Dev.openSet_opens (d : Dev) {entry : Nat} (h : entry < 8) : (d.openSet entry).fld SVC_STAT_ENTRY = entry ∧
    d.rang (d.openSet entry) 224 (word entry) 0 ∧ d.leavesRing (d.openSet entry) [SVC_STAT] := by
  refine ⟨?_, rang_ring (e := d.setFld SVC_STAT_ENTRY entry) rfl .., ?_⟩
  · rw [Dev.openSet, Dev.ring_fld (by decide), Dev.fld_setFld_same _ _ _ (by decide)]
    exact Nat.mod_eq_of_lt h
  · exact leavesRing_ring (leavesRing_of_leaves (leaves_setFld (d.leaves_refl _) (by decide))) ..

/-- A worker that has not joined only notes that it asks. -/
theorem Dev.askService_unjoined (h : d.flag EGL_TILE_JOINED = false) (leave : Bool) : d.askService leave =
    d.dropLine.setCon { d.dropLine.con with request := if leave then 2 else 1, requestDue := true } := by
  simp only [Dev.askService, h, Bool.false_eq_true, if_false, Bool.not_false]

/-- A service request on its way: the entry noted, the change placed and shown as pending (R73, R167). -/
def Dev.serviceAsked (d : Dev) (mode entry : Nat) : Dev :=
  ((d.setModes { d.modes with entry := entry }).placeMode mode 4 none).markPending (some mode)

theorem Dev.serviceMode_alone (h : (d.isManager && d.onSurface) = false) (mode entry : Nat) :
    d.serviceMode mode entry = (d.serviceAsked mode entry).issueOps := by
  have hheld : d.modeHeld = false := by rw [Dev.modeHeld, h]; rfl
  have hplace : (d.setModes { d.modes with entry := entry }).askMode mode 4 = d.serviceAsked mode entry :=
    if_neg (show ¬ (d.isManager && d.onSurface) = true by simp [h])
  rw [← hplace]
  exact if_neg (show ¬ d.modeHeld = true by simp [hheld])

/-- The full command set of SAFE closed: its entry, its mark, and what it held of electrodes and meter (R77). -/
theorem Dev.closeSet_closes (d : Dev) : d.closeSet.fld SVC_STAT_ENTRY = 0 ∧ d.closeSet.flag SVC_STAT_SAFE_SET = false ∧
    d.closeSet.con.states = [] ∧ d.closeSet.con.amon = false := by
  unfold Dev.closeSet
  extract_lets e f
  have hgate := linked_judgeGate (f.ring 225 0 0)
  refine ⟨?_, ?_, ?_, ?_⟩
  · rw [hgate.fld (by decide) (by decide), Dev.ring_fld (by decide), Dev.fld_setFlag_apart _ _ (by decide) (by decide),
      Dev.fld_setFld_same _ _ _ (by decide)]
    rfl
  · rw [hgate.flag (by decide) (by decide), Dev.ring_flag (by decide)]
    exact Dev.flag_setFlag_same _ _ _ (by decide) (by decide)
  · rw [hgate.keeps (·.con.states) fun _ => rfl, Dev.ring_con_states]
    rfl
  · rw [hgate.keeps (·.con.amon) fun _ => rfl, Dev.ring_con_amon]
    rfl

/-- A reset right after a command's end is one without it (R114). -/
theorem Dev.finish_resetNow {code : Nat} (hcode : resetCode code) (hheld : d.pwr.held = none) (hcycle : d.sameCycle = none) :
    let t := (d.finish .ok).resetNow code
    t.pwr.step = 3 ∧ t.pwr.held = none ∧ t.fld SYS_RSTCAUSE_LAST = code ∧
      t.fld SYS_RSTCAUSE_STICKY = d.fld SYS_RSTCAUSE_STICKY ||| 2 ^ (code - 1) ∧
      t.fld SYS_RSTCNT_RESETS = min (d.fld SYS_RSTCNT_RESETS + 1) (2 ^ SYS_RSTCNT_RESETS.width - 1) ∧ t.nvm = d.nvmTorn.nvm := by
  intro t
  have hprinted := d.finish_printed .ok
  have hheld' : (d.finish .ok).pwr.held = none := (d.finish_keeps .ok (·.pwr.held) fun _ _ _ => rfl).trans hheld
  have hcycle' : (d.finish .ok).sameCycle = none := (d.finish_keeps .ok (·.sameCycle) fun _ _ _ => rfl).trans hcycle
  have htorn : (d.finish .ok).nvmTorn.nvm = d.nvmTorn.nvm := by
    refine Dev.nvmTorn_nvm_congr ?_ (d.finish_keeps .ok (·.nvm) fun _ _ _ => rfl)
      (d.finish_keeps .ok (·.free) fun _ _ _ => rfl)
    exact Dev.pageInWrite_congr (d.finish_keeps .ok (·.twb) fun _ _ _ => rfl) (d.finish_keeps .ok (·.boot) fun _ _ _ => rfl)
      (d.finish_keeps .ok (·.cal) fun _ _ _ => rfl) (d.reg_finish .ok (by decide))
  have hcount (f : Fld) (hf : f.addr ∈ keptWhole) (hne : f.addr ≠ SYS_STRAP ∧ f.addr ≠ SYS_SUPPLY ∧ f.addr ∉ ringRegs) :
      t.fld f = ((d.finish .ok).recordReset code).fld f := by
    obtain ⟨hstrap, hsupply, hring⟩ := hne
    rw [← Dev.fld_enterReset_kept hcode hheld' hf, Dev.fld, Dev.fld]
    show wGet (((d.finish .ok).resetNow code).reg _) _ _ = _
    rw [Dev.resetNow_of_free hheld', Dev.reg_release _ _ hstrap hsupply hring]
  obtain ⟨hfree, hstart, hlast, hnvm, -⟩ := Dev.resetNow_ends hcode hheld' hcycle'
  refine ⟨hstart, hfree, hlast, ?_, ?_, hnvm.trans htorn⟩
  · rw [hcount _ (by decide) (by decide), Dev.recordReset_sticky hcode hcycle', d.fld_finish .ok (by decide)]
  · rw [hcount _ (by decide) (by decide), Dev.recordReset_resets hcode hcycle', d.fld_finish .ok (by decide)]

end Sys2Proof.Machine
end

section
/-!
SUPPORT. O49: what each service command and console event leads to, and the statement put together from them.
-/

namespace Sys2Proof.Machine

variable {s : State}

/-! SVC_UNLOCK, SVC_AMON, SVC_EL (R72, R94, R95). -/

theorem svcUnlockWrite_completes (v : Word) :
    (s.dev.flag SVC_STAT_LOCKOUT = true → Completes (.svcUnlockWrite v) s fun t => t = s.dev) ∧
    (s.dev.flag SVC_STAT_LOCKOUT = false →
      (v = 0 → Completes (.svcUnlockWrite v) s fun t => t.flag SVC_STAT_INJ_UNLOCK = false ∧
        s.dev.leavesRing t (SVC_STAT :: (List.range 8).map SVC_INJ)) ∧
      (v ≠ 0 → s.dev.codeBarred = false →
        (v.toNat = s.dev.svcCode → Completes (.svcUnlockWrite v) s fun t => t.flag SVC_STAT_INJ_UNLOCK = true ∧
          s.dev.leavesRing t (SVC_STAT :: (List.range 8).map SVC_INJ)) ∧
        (v.toNat ≠ s.dev.svcCode → Completes (.svcUnlockWrite v) s fun t => t.con.lastReject = some s.dev.ticks ∧
          t.fld SVC_STAT_FAILS = min (s.dev.fld SVC_STAT_FAILS + 1) 3 ∧ s.dev.leavesRing t [SVC_STAT] ∧
          (s.dev.fld SVC_STAT_FAILS < 2 → s.dev.rang t 226 (word (s.dev.fld SVC_STAT_FAILS + 1)) 1) ∧
          (2 ≤ s.dev.fld SVC_STAT_FAILS → t.flag SVC_STAT_LOCKOUT = true ∧ ∃ e : Dev, t = e.ring 227 3 0)))) := by
  have hexec : exec (.svcUnlockWrite v) s = s.run fun d => d.writeUnlock v := rfl
  refine ⟨fun hlock => completes_of hexec (Dev.writeUnlock_lockout hlock v), fun hlock => ⟨?_, fun hv hbar => ⟨?_, ?_⟩⟩⟩
  · rintro rfl
    refine completes_of hexec ?_
    rw [Dev.writeUnlock_zero hlock]
    exact ⟨Dev.setUnlock_flag .., leavesRing_setUnlock ..⟩
  · intro hcode
    refine completes_of hexec ?_
    rw [Dev.writeUnlock_code hbar hv, if_pos hcode]
    exact ⟨Dev.setUnlock_flag .., leavesRing_setUnlock ..⟩
  · intro hcode
    refine completes_of hexec ?_
    obtain ⟨htime, hfails, hkept⟩ := s.dev.rejectCode_counts 1
    rw [Dev.writeUnlock_code hbar hv, if_neg hcode]
    exact ⟨htime, hfails, hkept, Dev.rejectCode_rang 1, Dev.rejectCode_locksOut 1⟩

theorem svcAmonWrite_completes (v : Word) (p a : Nat) (hp : wGet v 0 5 = p) (ha : wGet v 8 8 = a) :
    (s.dev.serviceOpen = false → Completes (.svcAmonWrite v) s fun t => t = s.dev) ∧
    (argOk p a = false → p < 12 → Completes (.svcAmonWrite v) s fun t => t = s.dev) ∧
    (s.dev.serviceOpen = true → p < 12 → p ≠ 7 → argOk p a = true → Completes (.svcAmonWrite v) s fun t =>
      t.reg SVC_AMON = pack [(a, 8), (p, 0)] ∧ t.flag SVC_STAT_METER = (p != 0) ∧ t.con.amon = (p != 0) ∧
      s.dev.leaves t [SVC_AMON, SVC_STAT]) ∧
    (s.dev.serviceOpen = true → 12 ≤ p → Completes (.svcAmonWrite v) s fun t => t.fld SVC_AMON_POINT = 0 ∧
      t.flag SVC_STAT_METER = false ∧ t.con.amon = false ∧ s.dev.leaves t [SVC_AMON, SVC_STAT]) ∧
    (s.dev.serviceOpen = true → p = 7 → a < 160 → s.dev.staticOf a ≠ 4 →
      Completes (.svcAmonWrite v) s fun t => t.reg SVC_AMON = pack [(a, 8), (7, 0)] ∧ t.staticOf a = 3 ∧
        t.flag SVC_STAT_STATIC = true ∧ s.dev.leaves t [SVC_AMON, SVC_STAT]) := by
  subst hp ha
  have hexec : exec (.svcAmonWrite v) s = s.run fun d => d.writeAmon v := rfl
  have harg : wGet v 8 8 < 256 := wGet_lt ..
  refine ⟨fun hclosed => completes_of hexec (Dev.writeAmon_closed hclosed v), fun hok hlt => completes_of hexec ?_,
    fun hopen hlt hne hok => completes_of hexec ?_, fun hopen hge => completes_of hexec ?_,
    fun hopen hseven ha hst => completes_of hexec ?_⟩
  · rw [Dev.writeAmon_point hlt]
    exact if_pos (.inr hok)
  · rw [Dev.writeAmon_point hlt, if_neg (by simp [hopen, hok]), Dev.selectPoint_other hne]
    exact s.dev.amonOn_shows _ harg
  · obtain ⟨hreg, hmeter, hamon, hkept⟩ := s.dev.amonOn_shows 0 harg
    rw [Dev.writeAmon_reserved hopen hge]
    refine ⟨?_, hmeter, hamon, hkept⟩
    rw [Dev.fld, hreg]
    exact wGet_pack_point _
  · rw [Dev.writeAmon_point (by omega), hseven, if_neg (by simp [hopen, argOk, ha])]
    exact Dev.selectPoint_electrode harg hst

theorem svcElWrite_completes (v : Word) (n st : Nat) (hn : wGet v 8 8 = n) (hst : wGet v 0 3 = st) :
    (s.dev.serviceOpen = false ∨ s.dev.flag SCAN_STAT_RUN = true → Completes (.svcElWrite v) s fun t => t = s.dev) ∧
    (s.dev.serviceOpen = true → s.dev.flag SCAN_STAT_RUN = false →
      (n < 160 → st < 5 → Completes (.svcElWrite v) s fun t => t.staticOf n = st ∧ t.fld SVC_EL_INDEX = n ∧
        s.dev.leaves t [SVC_EL, SVC_STAT]) ∧
      (n = 255 → st < 3 → Completes (.svcElWrite v) s fun t => (∀ k < 160, t.staticOf k = st) ∧
        t.flag SVC_STAT_STATIC = (st != 0) ∧ s.dev.leaves t [SVC_EL, SVC_STAT])) := by
  subst hn hst
  have hindex (n : Nat) : s.dev.leaves (s.dev.setFld SVC_EL_INDEX n) [SVC_EL, SVC_STAT] :=
    leaves_setFld (s.dev.leaves_refl _) (by decide)
  have hexec : exec (.svcElWrite v) s = s.run fun d => d.writeEl v := rfl
  refine ⟨fun h => completes_of hexec (Dev.writeEl_refused h v), fun hopen hscan => ⟨fun hn hst => completes_of hexec ?_,
    fun hn hst => completes_of hexec ?_⟩⟩
  · rw [Dev.writeEl_one hopen hscan hn hst]
    refine ⟨Dev.staticOf_placeEl .., ?_, leaves_placeEl (hindex _) _ _ (by decide)⟩
    refine (Dev.fld_setFlag_apart _ _ (by decide) (by decide)).trans ?_
    exact (Dev.fld_setFld_same s.dev SVC_EL_INDEX _ (by decide)).trans (Nat.mod_eq_of_lt (wGet_lt ..))
  · rw [Dev.writeEl_all hopen hscan hn hst]
    exact ⟨fun k hk => Dev.staticOf_placeAll _ _ hk, Dev.placeAll_static .., leaves_placeAll (hindex _) _ (by decide)⟩

/-! METER, METER_OFF, EL (R78, R80). -/

section

variable (hset : s.dev.fullSet = true) (hopen : s.dev.serviceOpen = true) (hidle : s.dev.running = false)
include hset hidle

theorem meterOff_completes : Completes .meterOff s fun t => t.reg SVC_AMON = 0 ∧ t.flag SVC_STAT_METER = false ∧
    t.con.amon = false ∧ t.con.line = [] ∧ s.dev.leaves t [SVC_AMON, SVC_STAT, SVC_ERR] := by
  refine completes_command rfl hidle ?_
  obtain ⟨hreg, hmeter, hamon, hkept⟩ := s.dev.amonOn_shows 0 (arg := 0) (by decide)
  rw [if_pos hset, Dev.selectPoint_other (by decide), Dev.finishOk_eq]
  exact ⟨(Dev.reg_finish _ _ (by decide)).trans hreg, (Dev.flag_finish _ _ (by decide)).trans hmeter,
    (Dev.finish_keeps _ _ (·.con.amon) fun _ _ _ => rfl).trans hamon, Dev.finish_line ..,
    leaves_finish (leaves_mono hkept (by decide)) _ (by decide)⟩

include hopen

theorem meter_completes (point : BitVec 5) (arg : BitVec 10) (p a : Nat) (hp : point.toNat = p) (ha : arg.toNat = a)
    (hlt : p < 12) (hfour : p ≠ 4) (hseven : p ≠ 7) (harg : a < 256) (hok : argOk p a = true) :
    Completes (.meter point arg) s fun t => t.reg SVC_AMON = pack [(a, 8), (p, 0)] ∧
      t.flag SVC_STAT_METER = (p != 0) ∧ t.con.line = [] ∧ s.dev.leaves t [SVC_AMON, SVC_STAT, SVC_ERR] := by
  subst hp ha
  refine completes_command rfl hidle ?_
  obtain ⟨hreg, hmeter, -, hkept⟩ := s.dev.amonOn_shows point.toNat harg
  obtain ⟨l, heq⟩ := Dev.consoleMeter_selects hset hopen hlt ⟨hfour, hseven⟩ harg hok
  have hprinted := (s.dev.amonOn point.toNat arg.toNat).print_printed l
  rw [heq]
  refine ⟨?_, ?_, Dev.finish_line .., leaves_finish (leaves_print (leaves_mono hkept (by decide)) _ (by decide)) _ (by decide)⟩
  · rw [Dev.reg_finish _ _ (by decide), hprinted.2 _ (by decide), hreg]
  · rw [Dev.flag_finish _ _ (by decide), hprinted.flag (by decide), hmeter]

theorem el_completes (n : BitVec 8) (st : BitVec 3) (hscan : s.dev.flag SCAN_STAT_RUN = false) :
    (n.toNat < 160 → st.toNat < 5 → Completes (.el false n st) s fun t => t.staticOf n.toNat = st.toNat ∧
      s.dev.leaves t [SVC_STAT, SVC_ERR]) ∧
    (st.toNat < 3 → Completes (.el true n st) s fun t => (∀ k < 160, t.staticOf k = st.toNat) ∧
      s.dev.leaves t [SVC_STAT, SVC_ERR]) := by
  refine ⟨fun hn hst => completes_command rfl hidle ?_, fun hst => completes_command rfl hidle ?_⟩
  · rw [Dev.consoleEl_places (all := false) hset hopen hscan hst hn]
    exact ⟨(Dev.finish_keeps _ _ (·.staticOf n.toNat) fun _ _ _ => rfl).trans (Dev.staticOf_placeEl ..),
      leaves_finish (leaves_placeEl (s.dev.leaves_refl _) _ _ (by decide)) _ (by decide)⟩
  · rw [Dev.consoleEl_places (all := true) hset hopen hscan (lt_trans hst (by decide)) hst]
    exact ⟨fun k hk => (Dev.finish_keeps _ _ (·.staticOf k) fun _ _ _ => rfl).trans (Dev.staticOf_placeAll _ _ hk),
      leaves_finish (leaves_placeAll (s.dev.leaves_refl _) _ (by decide)) _ (by decide)⟩

end

/-! CONSOLE_CHARACTER, and what ends a line or a command (R65 to R68, R83, R87). -/

theorem consoleCharacter_completes (c : Byte) (hstep : s.dev.pwr.step = 8) (hawake : s.dev.asleep = false)
    (hup : s.dev.modes.waking = false) :
    (Completes (.consoleCharacter c true) s fun t => t.con.framed = true ∧ t.con.line = s.dev.con.line ∧
      t.fld SVC_ERR_FRAMING = min (s.dev.fld SVC_ERR_FRAMING + 1) (2 ^ SVC_ERR_FRAMING.width - 1) ∧
      s.dev.leaves t [SVC_ERR]) ∧
    (s.dev.mode ≠ modeWatch →
      (c ∉ [0x0D#8, 0x0A, 0x08, 0x7F, 0x03] →
        (s.dev.con.line.length < 80 → Completes (.consoleCharacter c false) s fun t => t.con.line = s.dev.con.line ++ [c] ∧
          s.dev.leaves t [SVC_ERR]) ∧
        (80 ≤ s.dev.con.line.length → Completes (.consoleCharacter c false) s fun t => t.con.line = s.dev.con.line ∧
          t.con.tooLong = true ∧ s.dev.leaves t [])) ∧
      (c = 0x08 ∨ c = 0x7F → s.dev.con.line ≠ [] → Completes (.consoleCharacter c false) s fun t =>
        t.con.line = s.dev.con.line.dropLast ∧ s.dev.leaves t [SVC_ERR]) ∧
      (c = 0x0D → s.dev.running = true → Completes (.consoleCharacter c false) s fun t =>
        t.con.waits = s.dev.con.waits ++ [s.dev.con.judged] ∧ t.con.line = [] ∧ t.con.lastCr = true ∧ s.dev.leaves t []) ∧
      (c = 0x0D → s.dev.running = false →
        (s.dev.con.judged = .blank → Completes (.consoleCharacter c false) s fun t =>
          ∃ e : Dev, t = e.print (.prompt s.dev.fullSet) ∧
          t.con.line = [] ∧ s.dev.leaves t [SVC_ERR]) ∧
        (∀ code, s.dev.con.judged = .err code → Completes (.consoleCharacter c false) s fun t => ∃ e : Dev,
          t = e.statusLine (.error code) ∧ t.con.line = [] ∧ s.dev.leaves t [SVC_ERR]))) := by
  have hexec (bad : Bool) : exec (.consoleCharacter c bad) s = s.run fun d => d.receiveChar c bad := rfl
  refine ⟨completes_of (hexec true) ?_, fun hmode => ⟨fun hc => ?_, ?_, ?_, ?_⟩⟩
  · rw [Dev.receiveChar_bad hstep hawake hup]
    exact ⟨rfl, rfl, Dev.fld_bump_same s.dev.attended SVC_ERR_FRAMING (by decide),
      leaves_setCon (leaves_bump s.dev.leaves_attended (by decide)) _⟩
  · simp only [List.mem_cons, List.not_mem_nil, or_false, not_or] at hc
    obtain ⟨hcr, hlf, hbs, hdel, hctrl⟩ := hc
    have hends : ¬ (c = 0x0D ∨ c = 0x0A) := not_or.2 ⟨hcr, hlf⟩
    have hkeeps : s.dev.receiveChar c false = s.dev.attendedNoCr.keepChar c := by
      rw [Dev.receiveChar_good hstep hawake hup hmode, if_neg hends,
        if_neg (not_or.2 ⟨hbs, hdel⟩), if_neg hctrl]
    refine ⟨fun hroom => completes_of (hexec false) ?_, fun hfull => completes_of (hexec false) ?_⟩
    · rw [hkeeps]
      exact Dev.keepChar_short hroom c
    · rw [hkeeps]
      exact Dev.keepChar_long hfull c
  · intro hc hline
    refine completes_of (hexec false) ?_
    have hnone : ¬ (c = 0x0D ∨ c = 0x0A) := by
      obtain rfl | rfl := hc
      · decide
      · decide
    rw [Dev.receiveChar_good hstep hawake hup hmode, if_neg hnone, if_pos hc]
    exact Dev.rubChar_deletes hline
  · intro hc hruns
    refine completes_of (hexec false) ?_
    rw [Dev.receiveChar_good hstep hawake hup hmode, if_pos (.inl hc), hc, Dev.endLine_running hruns]
    exact ⟨rfl, rfl, rfl, leaves_setCon s.dev.leaves_lineTaken _⟩
  · intro hc hidle
    have hends : s.dev.receiveChar c false = s.dev.lineTaken.runLine s.dev.con.judged := by
      rw [Dev.receiveChar_good hstep hawake hup hmode, if_pos (.inl hc), hc, Dev.endLine_idle hidle]
    refine ⟨fun hblank => completes_of (hexec false) ?_, fun code hcode => completes_of (hexec false) ?_⟩
    · rw [hends, hblank]
      exact ⟨s.dev.lineTaken, rfl, Dev.line_printed (Dev.print_printed ..), leaves_print s.dev.leaves_lineTaken _ (by decide)⟩
    · obtain ⟨e, heq, hline, hkept⟩ := s.dev.lineTaken.runLine_err code rfl
      rw [hends, hcode]
      exact ⟨e, heq, heq ▸ hline, heq ▸ leaves_trans s.dev.leaves_lineTaken hkept⟩

theorem consoleLineError_completes (hidle : s.dev.running = false) (code : BitVec 3) :
    (code.toNat ∈ [1, 3, 4] → Completes (.consoleLineError code) s fun t => t = s.dev.finishErr code.toNat) ∧
    (code.toNat = 2 → Completes (.consoleLineError code) s fun t =>
      t = (s.dev.dropLine.bump SVC_ERR_LONG).statusLine (.error 2)) ∧
    (code.toNat ∉ [1, 2, 3, 4] → Completes (.consoleLineError code) s fun t => t = s.dev) := by
  simp only [List.mem_cons, List.not_mem_nil, or_false, not_or]
  have hexec : exec (.consoleLineError code) s = s.run fun d =>
      if code.toNat = 0 ∨ 4 < code.toNat then d else d.dropLine.enterLine (.err code.toNat) := rfl
  refine ⟨fun hcode => completes_of hexec ?_, fun hcode => completes_of hexec ?_, fun hcode => completes_of hexec ?_⟩
  · rw [if_neg (by omega), Dev.enterLine_idle hidle, Dev.runLine, if_neg (by omega)]
    rfl
  · rw [if_neg (by omega), Dev.enterLine_idle hidle, Dev.runLine, if_pos hcode, hcode]
  · exact if_pos (by omega)

theorem ctrlC_completes :
    (s.dev.con.rd = none → s.dev.con.todo = [] → s.dev.con.logWait = none →
      (s.dev.con.evmon = false → Completes .ctrlC s fun t => t = s.dev) ∧
      (s.dev.con.evmon = true → Completes .ctrlC s fun t => t.con.evmon = false ∧ t.con.line = s.dev.con.line ∧
        s.dev.leaves t [SVC_ERR])) ∧
    (s.dev.con.rd ≠ none ∨ s.dev.con.todo ≠ [] ∨ s.dev.con.logWait ≠ none → Completes .ctrlC s fun t => t.con.rd = none ∧
      t.con.todo = [] ∧ t.con.logWait = none ∧ t.con.line = s.dev.con.line ∧ s.dev.leaves t [SVC_ERR]) := by
  refine ⟨fun hrd htodo hwait => ⟨fun hev => completes_of rfl ?_, fun hev => completes_of rfl ?_⟩,
    fun hruns => completes_of rfl ?_⟩
  · rw [Dev.ctrlC_evmon hrd htodo hwait, if_neg (by simp [hev])]
  · have hprinted := (s.dev.setCon { s.dev.con with evmon := false }).statusLine_printed (.error 12)
    rw [Dev.ctrlC_evmon hrd htodo hwait, if_pos hev]
    exact ⟨hprinted.keeps (·.con.evmon) fun _ _ _ => rfl, (Dev.line_printed hprinted).trans rfl,
      leaves_statusLine (leaves_setCon (s.dev.leaves_refl _) _) _ (by decide)⟩
  · have hprinted := (s.dev.setCon { s.dev.con with rd := none, todo := [], logWait := none }).statusLine_printed (.error 12)
    rw [Dev.ctrlC_running hruns]
    exact ⟨hprinted.keeps (·.con.rd) fun _ _ _ => rfl, hprinted.keeps (·.con.todo) fun _ _ _ => rfl,
      hprinted.keeps (·.con.logWait) fun _ _ _ => rfl, (Dev.line_printed hprinted).trans rfl,
      leaves_statusLine (leaves_setCon (s.dev.leaves_refl _) _) _ (by decide)⟩

theorem consoleWakeEdge_completes :
    (s.dev.mode = modeWatch → s.dev.flag SYS_CLK_FOSC_ON = false → Completes .consoleWakeEdge s fun t =>
      t.flag SYS_CLK_FOSC_ON = true ∧ t.flag SYS_CLK_LOCKED = false ∧ t.con.session = true ∧ s.dev.leaves t [SYS_CLK]) ∧
    (s.dev.mode ≠ modeWatch → Completes .consoleWakeEdge s fun t => t = s.dev) := by
  have hexec : exec .consoleWakeEdge s = s.run fun d => if d.mode = modeWatch then
      (if d.inSession.flag SYS_CLK_FOSC_ON then d.inSession else d.inSession.foscStart) else d := rfl
  refine ⟨fun hmode hosc => completes_of hexec ?_, fun hmode => completes_of hexec (if_neg hmode)⟩
  obtain ⟨hon, hlock, hcon, hkept⟩ := s.dev.inSession.foscStart_starts
  have hstops : ¬ s.dev.inSession.flag SYS_CLK_FOSC_ON = true := show ¬ s.dev.flag SYS_CLK_FOSC_ON = true by simp [hosc]
  rw [if_pos hmode, if_neg hstops]
  exact ⟨hon, hlock, congrArg (·.session) hcon, leaves_trans (leaves_setCon (s.dev.leaves_refl _) _) hkept⟩

/-! SVC and SVC_OFF, CONSOLE_RESET (R70 to R77, R114). -/

theorem svc_completes (hidle : s.dev.running = false) (code : Word) :
    (s.dev.codeBarred = true → Completes (.svc code) s fun t => t = s.dev.finishErr 7) ∧
    (s.dev.codeBarred = false →
      (code.toNat ≠ s.dev.svcCode → Completes (.svc code) s fun t => t.con.lastReject = some s.dev.ticks ∧
        t.fld SVC_STAT_FAILS = min (s.dev.fld SVC_STAT_FAILS + 1) 3 ∧ t.con.line = [] ∧ s.dev.leavesRing t [SVC_STAT]) ∧
      (code.toNat = s.dev.svcCode →
        (s.dev.mode = modeSafe → Completes (.svc code) s fun t => t.flag SVC_STAT_SAFE_SET = true ∧
          t.fld SVC_STAT_ENTRY = 2 ∧
          t.con.line = [] ∧ s.dev.leavesRing t [SVC_STAT]) ∧
        (s.dev.mode = modeService → s.dev.fullSet = true → Completes (.svc code) s fun t => t = s.dev.finishOk) ∧
        (s.dev.mode ≠ modeSafe → s.dev.mode ≠ modeService →
          (s.dev.isWorker = true → s.dev.flag EGL_TILE_JOINED = false → Completes (.svc code) s fun t =>
            t = s.dev.dropLine.setCon { s.dev.dropLine.con with request := 1, requestDue := true }) ∧
          (s.dev.isWorker = false → (s.dev.isManager && s.dev.onSurface) = false → Completes (.svc code) s fun t =>
            t.modes.service = some ⟨modeService, none, 4⟩ ∧ t.modes.entry = 2 ∧ t.con.line = [])))) := by
  have hexec : exec (.svc code) s = s.run fun d => d.command (.svc code) fun d => d.consoleSvc code.toNat := rfl
  refine ⟨fun hbar => completes_command hexec hidle (if_pos hbar), fun hbar => ⟨fun hcode => ?_, fun hcode => ?_⟩⟩
  · refine completes_command hexec hidle ?_
    have hwrong : s.dev.consoleSvc code.toNat = (s.dev.rejectCode 0).finish (.error 7) := by
      rw [Dev.consoleSvc, if_neg (by simp [hbar]), if_neg hcode, Dev.finishErr_eq]
    obtain ⟨htime, hfails, hkept⟩ := s.dev.rejectCode_counts 0
    rw [hwrong]
    exact ⟨(Dev.finish_keeps _ _ (·.con.lastReject) fun _ _ _ => rfl).trans htime,
      (Dev.fld_finish _ _ (by decide)).trans hfails, Dev.finish_line .., leavesRing_finish hkept _⟩
  · have hright : s.dev.consoleSvc code.toNat = s.dev.svcAccepted := by
      rw [Dev.consoleSvc, if_neg (by simp [hbar]), if_pos hcode]
    refine ⟨fun hsafe => completes_command hexec hidle ?_, fun hserv hset => completes_command hexec hidle ?_,
      fun hsafe hserv => ⟨fun hworker hjoin => completes_command hexec hidle ?_,
        fun hworker hsurf => completes_command hexec hidle ?_⟩⟩
    · obtain ⟨hentry, -, hkept⟩ := s.dev.openSet_opens (entry := 2) (by decide)
      rw [hright, Dev.svcAccepted, if_pos hsafe, Dev.finishOk_eq]
      refine ⟨?_, ?_, Dev.finish_line .., leavesRing_finish (leavesRing_setFlag hkept (by decide)) _⟩
      · rw [Dev.flag_finish _ _ (by decide), Dev.flag_setFlag_same _ _ _ (by decide) (by decide)]
      · rw [Dev.fld_finish _ _ (by decide), Dev.fld_setFlag_apart _ _ (by decide) (by decide), hentry]
    · rw [hright, Dev.svcAccepted, if_neg (by simp [hserv]), if_pos hserv, if_pos hset]
    · rw [hright, Dev.svcAccepted, if_neg hsafe, if_neg hserv, if_pos hworker]
      exact Dev.askService_unjoined hjoin false
    · have hissued := linked_issueOps (s.dev.serviceAsked modeService 2)
      rw [hright, Dev.svcAccepted, if_neg hsafe, if_neg hserv, if_neg (by simp [hworker]), Dev.finishOk_eq,
        Dev.serviceMode_alone hsurf, Dev.finish_modes]
      exact ⟨hissued.keeps (·.modes.service) fun _ => rfl, hissued.keeps (·.modes.entry) fun _ => rfl, Dev.finish_line ..⟩

theorem svcOff_completes (hset : s.dev.fullSet = true) (hidle : s.dev.running = false) :
    (s.dev.mode = modeSafe → Completes .svcOff s fun t => t.fld SVC_STAT_ENTRY = 0 ∧ t.flag SVC_STAT_SAFE_SET = false ∧
      t.con.states = [] ∧ t.con.amon = false) ∧
    (s.dev.mode = modeService → s.dev.isWorker = true → s.dev.flag EGL_TILE_JOINED = false → Completes .svcOff s fun t =>
      t = s.dev.dropLine.setCon { s.dev.dropLine.con with request := 2, requestDue := true }) ∧
    (s.dev.mode = modeService → s.dev.aloneNow = true → Completes .svcOff s fun t =>
      t = (s.dev.changeMode modeIdle 4 s.dev.time.frame).finishBanner) := by
  have hopen : ¬ s.dev.fullSet = false := by simp [hset]
  refine ⟨fun hmode => completes_command rfl hidle ?_, fun hmode hworker hjoin => completes_command rfl hidle ?_,
    fun hmode halone => completes_command rfl hidle ?_⟩
  · obtain ⟨hentry, hsafe, hstates, hamon⟩ := s.dev.closeSet_closes
    rw [Dev.consoleSvcOff, if_neg hopen, if_pos (by simp [hmode]), Dev.finishOk_eq]
    exact ⟨(Dev.fld_finish _ _ (by decide)).trans hentry, (Dev.flag_finish _ _ (by decide)).trans hsafe,
      (Dev.finish_keeps _ _ (·.con.states) fun _ _ _ => rfl).trans hstates,
      (Dev.finish_keeps _ _ (·.con.amon) fun _ _ _ => rfl).trans hamon⟩
  · rw [Dev.consoleSvcOff, if_neg hopen, if_neg (not_not_intro hmode), if_pos hworker]
    exact Dev.askService_unjoined hjoin true
  · have hworker : ¬ s.dev.isWorker = true := by
      rw [Dev.aloneNow, Bool.and_eq_true, Bool.not_eq_true'] at halone
      simp [halone.1]
    rw [Dev.consoleSvcOff, if_neg hopen, if_neg (not_not_intro hmode), if_neg hworker, if_pos halone]

/-- Settles O49: the registers of the service block, its console commands, the characters, the codes and the time-outs, each by
what it leads to. -/
theorem consoleAndServiceWork : Obligations.ConsoleAndServiceWork := by
  intro s
  have hbreak : exec .consoleBreak s = s.run fun d => d.dropLine.bump SVC_ERR_FRAMING := rfl
  have hsessionEnd : exec .consoleSessionEnd s = s.run fun d => d.setCon { d.con with lastChar := none, session := false } := rfl
  have hnoManager : exec .svcNoManager s = s.run fun d => if d.con.request = 0 then d else
    (d.setCon { d.con with request := 0, requestDue := false }).statusLine (.error 9) := rfl
  have hjoinTimeout : exec .serviceJoinTimeout s = s.run fun d =>
    if d.con.waitJoin ∧ d.flag EGL_TILE_JOINED = false ∧ d.fullSet = false then d.openSet 1 else d := rfl
  have hnvmTimeout : exec .logNvmTimeout s = s.run fun d =>
    if d.con.logWait.isSome then (d.setCon { d.con with logWait := none }).statusLine (.error 10) else d := rfl
  refine ⟨svcUnlockWrite_completes, svcAmonWrite_completes, svcElWrite_completes, fun hset hopen hidle =>
    ⟨meter_completes hset hopen hidle, meterOff_completes hset hidle, el_completes hset hopen hidle⟩,
    fun c bad hstep => completes_of (f := fun d => d.receiveChar c bad) rfl (Dev.receiveChar_early hstep c bad), consoleCharacter_completes,
    consoleLineError_completes, ctrlC_completes.1, ctrlC_completes.2, completes_of hbreak ?_, completes_of rfl rfl,
    consoleWakeEdge_completes.1, consoleWakeEdge_completes.2, completes_of hsessionEnd rfl,
    fun hnone => completes_of hnoManager (if_pos hnone), fun hsome => completes_of hnoManager (if_neg hsome),
    fun hwait hjoin hset => completes_of hjoinTimeout ?_, fun hwait => completes_of hjoinTimeout (if_neg (by simp [hwait])),
    fun hnone => completes_of hnvmTimeout (if_neg (by simp [hnone])),
    fun hsome => completes_of hnvmTimeout (if_pos (Option.isSome_iff_ne_none.2 hsome)), svc_completes, fun hset hidle => ?_⟩
  · exact ⟨rfl, Dev.fld_bump_same s.dev.dropLine SVC_ERR_FRAMING (by decide),
      leaves_bump (leaves_dropLine (s.dev.leaves_refl _)) (by decide)⟩
  · obtain ⟨hentry, hrang, hkept⟩ := s.dev.openSet_opens (entry := 1) (by decide)
    rw [if_pos ⟨hwait, hjoin, hset⟩]
    exact ⟨(Dev.ring_con_waitJoin ..).trans hwait, hentry, hrang, hkept⟩
  · obtain ⟨hsafe, hworker, halone⟩ := svcOff_completes hset hidle
    refine ⟨hsafe, hworker, halone, fun hheld hcycle => completes_command rfl hidle ?_⟩
    rw [if_pos hset, Dev.finishOk_eq]
    exact Dev.finish_resetNow ⟨by decide, by decide⟩ hheld hcycle

end Sys2Proof.Machine
end

section
/-!
SUPPORT. The tile table of a manager (R545, R571, R574, R580, R586): what a row reads after it was written, and what the messages
and the reset of a tile leave of the table.
-/

namespace Sys2Proof.Machine

variable {d e f : Dev}

/-- What a step of a fold leaves is left by the fold. -/
theorem foldl_keeps {α β : Type} (g : Dev → β) {step : Dev → α → Dev} (xs : List α) (d : Dev)
    (h : ∀ e, ∀ x ∈ xs, g (step e x) = g e) : g (xs.foldl step d) = g d := by
  induction xs generalizing d with
  | nil => rfl
  | cons x xs ih => exact (ih (step d x) fun e y hy => h e y (by simp [hy])).trans (h d x (by simp))

/-! A row of the table. -/

theorem Dev.tile_xy (d : Dev) (xy : Nat) : (d.tile xy).xy = xy := by
  unfold Dev.tile
  cases h : d.surf.tiles.find? fun t => t.xy == xy with
  | none => rfl
  | some t => simpa using List.find?_some h

theorem Dev.tile_setTile (d : Dev) (t : Tile) {xy : Nat} (h : t.xy = xy) : (d.setTile t).tile xy = t := by
  simp [Dev.tile, Dev.setTile, Dev.setSurf, h]

theorem Dev.tile_setTileState (d : Dev) (xy st reason : Nat) :
    (d.setTileState xy st reason).tile xy = { d.tile xy with state := st, reason := reason } :=
  d.tile_setTile _ (d.tile_xy xy)

theorem Dev.tile_setWaiting (d : Dev) (xy : Nat) (w : Option (List Word)) :
    (d.setTile { d.tile xy with waiting := w }).tile xy = { d.tile xy with waiting := w } := d.tile_setTile _ (d.tile_xy xy)

/-- The row of a tile that was heard: seen in this frame, and no longer absent. -/
theorem Dev.tile_noteTile (d : Dev) (xy : Nat) : (d.noteTile xy).tile xy =
    { d.tile xy with
      seen := d.time.frame, state := if (d.tile xy).state = 0 then tileEnumerated else (d.tile xy).state } :=
  d.tile_setTile _ (d.tile_xy xy)

theorem leaves_setTile {as : List Nat} (h : d.leaves e as) (t : Tile) : d.leaves (e.setTile t) as :=
  leaves_of h rfl rfl rfl rfl

theorem Dev.leaves_noteTile (d : Dev) (xy : Nat) (as : List Nat) : d.leaves (d.noteTile xy) as := leaves_setTile (d.leaves_refl _) _

/-- A message of a tile that is not lost takes its own effect. -/
theorem Dev.fromLost_kept {xy : Nat} (hmanager : d.isManager = true) (h : (d.tile xy).state ≠ tileLost) (f : Dev → Dev) :
    d.fromLost xy f = f d := by
  rw [Dev.fromLost, if_neg (by simp [hmanager]), if_neg h]

/-! What leaves the table. -/

/-- The tile table and the surface frame number, from which a row is read, are the same. -/
def Dev.SameTiles (d e : Dev) : Prop := e.surf.tiles = d.surf.tiles ∧ e.time.frame = d.time.frame

theorem sameTiles_trans (h : d.SameTiles e) (g : e.SameTiles f) : d.SameTiles f := ⟨g.1.trans h.1, g.2.trans h.2⟩

theorem Dev.SameTiles.tile (h : d.SameTiles e) (xy : Nat) : e.tile xy = d.tile xy := by
  rw [Dev.tile, Dev.tile, h.1, h.2]

theorem sameTiles_linked {as : List Nat} (h : Dev.Linked as d e) : d.SameTiles e :=
  ⟨h.keeps (·.surf.tiles) fun _ => rfl, h.keeps (·.time.frame) fun _ => rfl⟩

theorem sameTiles_near (h : d.Near e) : d.SameTiles e := sameTiles_linked (as := []) (linked_near h)

theorem sameTiles_ring (d : Dev) (src : Nat) (w1 w2 : Word) : d.SameTiles (d.ring src w1 w2) :=
  sameTiles_near (near_ring (.rfl d))

theorem near_ringPair (d : Dev) (a1 a2 b1 b2 : Word) : d.Near (d.ringPair a1 a2 b1 b2) := near_accept (.rfl d)

theorem sameTiles_foldl {α : Type} {step : Dev → α → Dev} (xs : List α) (d : Dev)
    (h : ∀ e : Dev, ∀ x ∈ xs, e.SameTiles (step e x)) : d.SameTiles (xs.foldl step d) :=
  ⟨foldl_keeps (·.surf.tiles) xs d fun e x hx => (h e x hx).1, foldl_keeps (·.time.frame) xs d fun e x hx => (h e x hx).2⟩

theorem sameTiles_cancelSurf (d : Dev) (c : SurfContact) (reason : Nat) : d.SameTiles (d.cancelSurf c reason) := by
  unfold Dev.cancelSurf
  extract_lets x
  split
  · exact ⟨rfl, rfl⟩
  · exact ⟨rfl, rfl⟩

theorem sameTiles_sendCancels (d : Dev) : d.SameTiles d.sendCancels :=
  sameTiles_foldl (d := d.setSurf { d.surf with cancels := [] }) _ fun e _ _ => sameTiles_near (near_ringPair e ..)

theorem sameTiles_cancelTile (d : Dev) (xy reason : Nat) : d.SameTiles (d.cancelTile xy reason) := by
  unfold Dev.cancelTile
  extract_lets gone
  refine sameTiles_trans (sameTiles_foldl gone d fun e c _ => sameTiles_cancelSurf e c reason) ?_
  unfold Dev.flushCancels
  split
  · exact sameTiles_sendCancels (Dev.hidOwe _ _)
  · exact ⟨rfl, rfl⟩

/-- A tile that leaves has its new state and the reason of it (R574, R580). -/
theorem Dev.tile_tileGone (d : Dev) (xy st reason kind : Nat) :
    (d.tileGone xy st reason kind).tile xy = { d.tile xy with state := st, reason := reason } := by
  rw [← Dev.tile_setTileState]
  exact (sameTiles_trans (sameTiles_cancelTile _ xy 4) (sameTiles_ring ..)).tile xy

theorem sameTiles_waiterFails (d : Dev) (o : Operation) : d.SameTiles (d.waiterFails o) := by
  unfold Dev.waiterFails
  split
  · exact ⟨rfl, rfl⟩
  · split
    · exact ⟨rfl, rfl⟩
    · exact ⟨rfl, rfl⟩
  · exact ⟨rfl, rfl⟩

theorem linked_remoteFail (d : Dev) (xy addr err : Nat) : Dev.Linked [EGL_RSTAT, EGL_RCNT] d (d.remoteFail xy addr err) :=
  linked_trans (linked_setFld _ _ (by decide)) (linked_trans (linked_setFld _ _ (by decide))
    (linked_trans (linked_bump _ (by decide)) (linked_ring ..)))

theorem linked_notePend (d : Dev) : Dev.Linked [EGL_RSTAT, EGL_RCNT] d d.notePend := linked_setFld d _ (by decide)

theorem sameTiles_remoteEnd (d : Dev) (xy : Nat) : d.SameTiles (d.remoteEnd xy) := by
  unfold Dev.remoteEnd
  extract_lets mine _ x y
  have hx : d.SameTiles x := sameTiles_linked (as := []) (linked_setLink d _)
  have hy : x.SameTiles y := sameTiles_foldl mine x fun e o _ =>
    sameTiles_trans (sameTiles_linked (linked_remoteFail e ..)) (sameTiles_waiterFails _ o)
  exact sameTiles_trans (sameTiles_trans hx hy)
    (sameTiles_trans (sameTiles_linked (linked_noteTags y)) (sameTiles_linked (linked_notePend _)))

/-- A tile that the manager resets is in state 7 (R571). -/
theorem Dev.tile_resetTile (d : Dev) (xy : Nat) (linkBoot : Bool) : ((d.resetTile xy linkBoot).tile xy).state = tileResetting := by
  unfold Dev.resetTile
  extract_lets x
  have hx : (x.tile xy).state = tileResetting := by
    unfold x
    split
    · rw [Dev.tile_tileGone]
    · rw [Dev.tile_setTileState]
  have hended := sameTiles_trans (sameTiles_remoteEnd x xy) (sameTiles_linked (as := []) (linked_clearFlows _ xy))
  have hsent := sameTiles_trans hended (sameTiles_linked (as := []) (linked_send _ msgReset xy [word (bit linkBoot)]))
  rw [(sameTiles_trans hsent (sameTiles_linked (linked_issueOps _))).tile, hx]

/-! A JOIN answered (R545, R571, R577). -/

/-- The manager's table once a JOIN has come: the tile seen, and its pending reset ended. -/
def Dev.joinNoted (d : Dev) (xy : Nat) : Dev :=
  if ((d.noteTile xy).tile xy).state = tileResetting then (d.noteTile xy).setTileState xy tileEnumerated 0 else d.noteTile xy

/-- A JOIN noted changes the table alone. -/
theorem Dev.joinNoted_eq (d : Dev) (xy : Nat) : ∃ ts, d.joinNoted xy = d.setSurf { d.surf with tiles := ts } := by
  unfold Dev.joinNoted
  split
  · exact ⟨_, rfl⟩
  · exact ⟨_, rfl⟩

theorem Dev.joinNoted_joined (d : Dev) (xy : Nat) :
    ((d.joinNoted xy).tile xy).state = tileJoined ↔ (d.tile xy).state = tileJoined := by
  have hnoted := congrArg Tile.state (d.tile_noteTile xy)
  unfold Dev.joinNoted
  split
  next h =>
    rw [Dev.tile_setTileState]
    grind
  next => grind

theorem Dev.joinMsg_eq {words : List Word} {xy : Nat} (hxy : wGet (words.getD 0 0) 0 10 = xy) (hmanager : d.isManager = true)
    (hstep : d.pwr.step = 8) (hmode : d.mode ≠ modeSafe) (hlost : (d.tile xy).state ≠ tileLost) : d.joinMsg words =
      if d.joinsWait then (d.joinNoted xy).setTile { (d.joinNoted xy).tile xy with waiting := some words }
      else (d.joinNoted xy).answerJoin xy words := by
  have hwait : (d.joinNoted xy).joinsWait = d.joinsWait := by
    obtain ⟨ts, heq⟩ := d.joinNoted_eq xy
    rw [heq]
    rfl
  rw [Dev.joinMsg, if_neg (by simp [hmanager, hstep, hmode]), hxy, Dev.fromLost_kept hmanager hlost, ← hwait]
  rfl

/-- The row of the tile as its JOIN is answered. -/
def Dev.joinTaken (d : Dev) (xy : Nat) : Dev :=
  (d.joinNoted xy).setTile { (d.joinNoted xy).tile xy with waiting := none }

theorem Dev.joinTaken_eq (d : Dev) (xy : Nat) : ∃ ts, d.joinTaken xy = d.setSurf { d.surf with tiles := ts } := by
  obtain ⟨ts, heq⟩ := d.joinNoted_eq xy
  rw [Dev.joinTaken, heq]
  exact ⟨_, rfl⟩

theorem leaves_joinTaken (d : Dev) (xy : Nat) (as : List Nat) : d.leaves (d.joinTaken xy) as := by
  obtain ⟨ts, heq⟩ := d.joinTaken_eq xy
  rw [heq]
  exact leaves_of (d.leaves_refl _) rfl rfl rfl rfl

theorem Dev.joinTaken_refusal (d : Dev) (xy : Nat) (sid : Word) : (d.joinTaken xy).joinRefusal xy sid = d.joinRefusal xy sid := by
  have hjoined : ((d.joinTaken xy).tile xy).state = tileJoined ↔ (d.tile xy).state = tileJoined := by
    have hstate := congrArg Tile.state ((d.joinNoted xy).tile_setWaiting xy none)
    rw [← d.joinNoted_joined]
    exact iff_of_eq (congrArg (· = tileJoined) hstate)
  obtain ⟨ts, heq⟩ := d.joinTaken_eq xy
  simp only [Dev.joinRefusal, hjoined]
  rw [heq]
  rfl

/-- A JOIN taken, sent back with the reason r. -/
def Dev.joinRefused (d : Dev) (xy r : Nat) : Dev :=
  (if r = 2 then d.joinTaken xy else (d.joinTaken xy).setTileState xy tileRefused r).send msgRefuseJoin xy [word r]

/-- How a JOIN is answered, by what it says and by the manager as it stood (R535, R545, R546). -/
theorem Dev.answerJoin_eq (d : Dev) (xy : Nat) (words : List Word) : (d.joinNoted xy).answerJoin xy words =
    let r := d.joinRefusal xy (words.getD 1 0)
    if r ≠ 0 then (d.joinRefused xy r).issueOps.ring 186 (pack [(r, 12), (xy, 0)]) (words.getD 1 0)
    else if words.getD 2 0 ≠ d.reg SYS_IMGSEQ ∨ (words.getD 3 0).toNat * 65536 + (words.getD 4 0).toNat ≠ d.imageCrc then
      (d.joinTaken xy).resetTile xy true
    else if d.epochFits xy (words.getD 5 0).toNat = false then ((d.joinTaken xy).bump CFG_CNT2_RESETS).resetTile xy false
    else (d.joinTaken xy).welcome xy := by
  have hsame : (d.joinTaken xy).reg SYS_IMGSEQ = d.reg SYS_IMGSEQ ∧ (d.joinTaken xy).imageCrc = d.imageCrc ∧
      (d.joinTaken xy).epochFits xy (words.getD 5 0).toNat = d.epochFits xy (words.getD 5 0).toNat := by
    obtain ⟨ts, heq⟩ := d.joinTaken_eq xy
    rw [heq]
    exact ⟨rfl, rfl, rfl⟩
  obtain ⟨himg, hsum, hepoch⟩ := hsame
  rw [← himg, ← hsum, ← hepoch, ← d.joinTaken_refusal]
  rfl

/-- What a refusal sends, and what it leaves (R545). -/
theorem Dev.joinRefused_sends (d : Dev) (xy r : Nat) :
    (d.joinRefused xy r).outbox = d.outbox ++ [⟨msgRefuseJoin, xy, [word r]⟩] ∧ (d.joinRefused xy r).evr = d.evr ∧
      d.leaves (d.joinRefused xy r) [] := by
  have hkept := leaves_joinTaken d xy []
  obtain ⟨ts, heq⟩ := d.joinTaken_eq xy
  unfold Dev.joinRefused
  split
  · exact ⟨by rw [heq]; rfl, by rw [heq]; rfl, leaves_of hkept rfl rfl rfl rfl⟩
  · exact ⟨by rw [heq]; rfl, by rw [heq]; rfl, leaves_of (x := (d.joinTaken xy).setTileState xy tileRefused r)
      (leaves_setTile hkept _) rfl rfl rfl rfl⟩

theorem Dev.sendDelta_eq (d : Dev) (xy n : Nat) (cs : List (List (Nat × Word))) :
    ∃ out, d.sendDelta xy n cs = { d with outbox := out } := by
  induction cs generalizing d n with
  | nil => exact ⟨_, rfl⟩
  | cons c cs ih =>
    obtain ⟨out, heq⟩ := ih (d.send msgDelta xy (word n :: c.flatMap fun e => [word e.1, e.2])) (n + c.length)
    exact ⟨out, heq⟩

/-- A tile that is welcomed has joined, with the manager's epoch (R523, R544). -/
theorem Dev.tile_welcome (d : Dev) (xy : Nat) : ((d.welcome xy).tile xy).state = tileJoined ∧
    ((d.welcome xy).tile xy).epoch = d.fld CFG_EPOCH_N ∧ ((d.welcome xy).tile xy).waiting = none := by
  unfold Dev.welcome
  extract_lets known n
  split
  extract_lets x y
  split
  next own z hdraw =>
  obtain ⟨out, heq⟩ := x.sendDelta_eq xy 0 (if x.com.delta.isEmpty then [] else chunks 30 64 x.com.delta)
  have hepoch : z.fld CFG_EPOCH_N = d.fld CFG_EPOCH_N := by
    have hz : z = (y.draw 2).2 := by rw [hdraw]
    rw [hz, show y = _ from heq]
    rfl
  extract_lets loaded _ w
  have hw : ((w.issueOps).ring 184 (pack [(bit known, 12), (xy, 0)]) (word loaded)).tile xy =
      { z.tile xy with
        state := tileJoined, reason := 0, seen := z.time.frame, contacts := z.time.frame, epoch := z.fld CFG_EPOCH_N,
        waiting := none, before := true } :=
    ((sameTiles_trans (sameTiles_linked (linked_issueOps w)) (sameTiles_ring ..)).tile xy).trans
      (z.tile_setTile _ (z.tile_xy xy))
  rw [hw]
  exact ⟨rfl, hepoch, rfl⟩

end Sys2Proof.Machine
end

section
/-!
SUPPORT. Enumeration, strips and the contacts of a surface frame (R543, R556 to R564): what each message leaves behind.
-/

namespace Sys2Proof.Machine

variable {d e : Dev}

/-! Enumeration (R542 to R544). -/

/-- The coordinates and that there are any are the same. -/
def Dev.SamePlace (d e : Dev) : Prop := e.surf.known = d.surf.known ∧ e.reg EGL_TILE = d.reg EGL_TILE

theorem samePlace_trans {f : Dev} (h : d.SamePlace e) (g : e.SamePlace f) : d.SamePlace f := ⟨g.1.trans h.1, g.2.trans h.2⟩

theorem Dev.SamePlace.ownXY (h : d.SamePlace e) : e.ownXY = d.ownXY := by
  obtain ⟨-, hreg⟩ := h
  simp only [Dev.ownXY, Dev.fld, hreg]

theorem samePlace_linked (h : Dev.Linked linkRegs d e) : d.SamePlace e :=
  ⟨h.keeps (·.surf.known) fun _ => rfl, h.reg (by decide) (by decide)⟩

theorem samePlace_sendEnums (d : Dev) : d.SamePlace d.sendEnums := by
  refine samePlace_linked (linked_foldl _ _ fun e p hp => ?_)
  have hlt := List.mem_range.1 hp
  split
  · unfold Dev.sendEnum
    split
    · exact linked_enqueue _ _ hlt _
    · exact linked_refl e
  · exact linked_refl e

theorem samePlace_linkImageRequest (d : Dev) : d.SamePlace d.linkImageRequest := by
  unfold Dev.linkImageRequest
  split
  · exact samePlace_linked (linked_trans (linked_send d ..) (linked_issueOps _))
  · exact ⟨rfl, rfl⟩

theorem samePlace_sendJoin (d : Dev) : d.SamePlace d.sendJoin := by
  unfold Dev.sendJoin
  split
  · exact ⟨rfl, rfl⟩
  · split
    · exact ⟨rfl, rfl⟩
    · extract_lets _ x crc
      have hx : d.SamePlace x := ⟨rfl, rfl⟩
      exact samePlace_trans hx (samePlace_linked (linked_trans (linked_send x ..) (linked_issueOps _)))

/-- A worker's coordinates as an ENUM gives them. -/
def Dev.placed (d : Dev) (xy : Nat) : Dev :=
  ((d.setFld EGL_TILE_X (xy / 32)).setFld EGL_TILE_Y xy).setSurf { d.surf with known := true }

theorem Dev.placed_ownXY (d : Dev) {xy : Nat} (h : xy < 1024) : (d.placed xy).ownXY = xy := by
  have hx : (d.placed xy).fld EGL_TILE_X = xy / 32 % 32 :=
    (Dev.fld_setFld_apart _ _ (by decide) (by decide)).trans (Dev.fld_setFld_same d EGL_TILE_X _ (by decide))
  have hy : (d.placed xy).fld EGL_TILE_Y = xy % 32 := Dev.fld_setFld_same _ EGL_TILE_Y _ (by decide)
  rw [Dev.ownXY, hx, hy]
  omega

/-- A worker without coordinates takes those of an ENUM, and keeps them through what it then sends (R543). -/
theorem Dev.enumMsg_places {words : List Word} (hworker : d.isWorker = true) (hknown : d.surf.known = false) :
    (d.enumMsg words).surf.known = true ∧ (d.enumMsg words).ownXY = wGet (words.getD 0 0) 0 10 := by
  have heq : d.enumMsg words = (d.placed (wGet (words.getD 0 0) 0 10)).sendEnums.linkImageRequest.sendJoin := by
    rw [Dev.enumMsg, if_neg (by simp [hworker]), if_neg (by simp [hknown])]
    rfl
  have hkept := samePlace_trans (samePlace_sendEnums (d.placed (wGet (words.getD 0 0) 0 10)))
    (samePlace_trans (samePlace_linkImageRequest _) (samePlace_sendJoin _))
  rw [heq, hkept.ownXY, hkept.1]
  exact ⟨rfl, Dev.placed_ownXY _ (wGet_lt ..)⟩

theorem Dev.enumMsg_conflicts {words : List Word} (hworker : d.isWorker = true) (hknown : d.surf.known = true)
    (hxy : wGet (words.getD 0 0) 0 10 ≠ d.ownXY) : d.enumMsg words = d.setFlag EGL_TILE_CONFLICT true := by
  rw [Dev.enumMsg, if_neg (by simp [hworker]), if_pos hknown, if_neg hxy]

/-! The worker's side of a JOIN (R523, R544). -/

/-- What a WELCOME gives beside the mode (R544). -/
def Dev.welcomed (d : Dev) (words : List Word) : Dev :=
  (d.setSurf { d.surf with
    firstFrame := some ((words.getD 0 0).toNat, (words.getD 1 0).toNat, (words.getD 2 0).toNat)
    deltaDue := (words.getD 5 0).toNat, deltaBuf := [], joinDue := false }).setFld CFG_EPOCH_N (words.getD 3 0).toNat

theorem Dev.leaves_welcomed (d : Dev) (words : List Word) : d.leaves (d.welcomed words) [CFG_EPOCH, PWR_STAT] := by
  have hset (v : Surface) : d.leaves (d.setSurf v) [CFG_EPOCH, PWR_STAT] := leaves_of (d.leaves_refl _) rfl rfl rfl rfl
  exact leaves_setFld (hset _) (by decide)

/-- A mode command of the manager on its way (R544). -/
def Dev.managerAsked (d : Dev) (mode apply : Nat) : Dev :=
  (d.setModes { d.modes with manager := some ⟨mode, some apply, 6⟩ }).markPending (some mode)

theorem Dev.managerAsked_shows (d : Dev) {mode : Nat} (hmode : mode < 8) (apply : Nat) :
    (d.managerAsked mode apply).fld PWR_STAT_TARGET = mode ∧
      (d.managerAsked mode apply).fld CFG_EPOCH_N = d.fld CFG_EPOCH_N ∧ d.leaves (d.managerAsked mode apply) [PWR_STAT] := by
  have hset : d.leaves (d.setModes { d.modes with manager := some ⟨mode, some apply, 6⟩ }) [PWR_STAT] :=
    leaves_of (d.leaves_refl _) rfl rfl rfl rfl
  refine ⟨(Dev.fld_setFld_same _ PWR_STAT_TARGET _ (by decide)).trans (Nat.mod_eq_of_lt hmode), ?_,
    leaves_setFld (leaves_setFlag hset (by decide)) (by decide)⟩
  exact (Dev.fld_setFld_apart _ _ (by decide) (by decide)).trans (Dev.fld_setFlag_apart _ _ (by decide) (by decide))

/-- A WELCOME with another mode asks for that mode at the first frame (R544). -/
theorem Dev.welcomeMsg_takes {words : List Word} (hworker : d.isWorker = true) (hstep : d.pwr.step = 8)
    (hsafe : d.mode ≠ modeSafe) (hjoin : d.flag EGL_TILE_JOINED = false) (hmode : (words.getD 4 0).toNat % 8 ≠ d.mode)
    (hlt : (words.getD 4 0).toNat % 8 ≤ 4) :
    d.welcomeMsg words = (d.welcomed words).managerAsked ((words.getD 4 0).toNat % 8) (words.getD 0 0).toNat := by
  have hsame : (d.welcomed words).mode = d.mode := Dev.fld_setFld_apart _ _ (by decide) (by decide)
  have hother : ¬ ((words.getD 4 0).toNat % 8 = (d.welcomed words).mode ∨ 4 < (words.getD 4 0).toNat % 8) := by
    rw [hsame]
    exact not_or.2 ⟨hmode, Nat.not_lt.2 hlt⟩
  rw [Dev.welcomeMsg, if_neg (by simp [hworker, hstep, hsafe, hjoin])]
  exact if_neg hother

/-- Entries that come in their order, and not the last, wait for the rest (R523). -/
theorem Dev.deltaMsg_collects {words : List Word} (hworker : d.isWorker = true)
    (hfrom : (words.getD 0 0).toNat = d.surf.deltaBuf.length)
    (hmore : d.surf.deltaBuf.length + (wordPairs (words.drop 1)).length < d.surf.deltaDue) :
    d.deltaMsg words = d.setSurf { d.surf with deltaBuf := d.surf.deltaBuf ++ wordPairs (words.drop 1) } := by
  have hlen : (d.surf.deltaBuf ++ wordPairs (words.drop 1)).length < d.surf.deltaDue := by
    rw [List.length_append]
    exact hmore
  have htake : (d.surf.deltaBuf ++ wordPairs (words.drop 1)).take d.surf.deltaDue =
      d.surf.deltaBuf ++ wordPairs (words.drop 1) := List.take_of_length_le hlen.le
  have hdue : 0 < d.surf.deltaDue := by omega
  rw [Dev.deltaMsg, if_pos (by simp only [hworker, hfrom, hdue, decide_true, Bool.and_self])]
  simp only [htake, Dev.setSurf]
  rw [if_neg (Nat.not_le.2 hlen)]

/-! Strips (R556, R557). -/

theorem Dev.stripMsg_first {words : List Word} (hpart : wGet (words.getD 1 0) 8 5 = 0) (hnone : d.surf.strips = []) :
    d.stripMsg words = d.setSurf { d.surf with
      strips := [⟨(words.getD 0 0).toNat, opposite (wGet (words.getD 1 0) 0 2), words.drop 2⟩] } := by
  simp only [Dev.stripMsg, hnone, List.filter_nil, List.find?_nil, hpart, if_true, List.nil_append]

/-- One edge at the deadline: a strip that has not arrived is counted, and an empty one keeps its place. -/
def Dev.stripDue (n : Nat) (d : Dev) (edge : Nat) : Dev :=
  if d.surf.strips.any fun s => s.frame == n && s.edge == edge then d
  else (d.setSurf { d.surf with strips := d.surf.strips ++ [⟨n, edge, []⟩] }).bump EGL_HCNT_STRIPLATE

theorem Dev.stripDue_strips (n : Nat) (d : Dev) (edge : Nat) :
    (∀ r ∈ d.surf.strips, r ∈ (d.stripDue n edge).surf.strips) ∧
      (∃ r ∈ (d.stripDue n edge).surf.strips, r.frame = n ∧ r.edge = edge) ∧ d.leaves (d.stripDue n edge) [EGL_HCNT] := by
  unfold Dev.stripDue
  split
  next h =>
    obtain ⟨r, hr, hmatch⟩ := List.any_eq_true.1 h
    exact ⟨fun _ hr => hr, ⟨r, hr, by simpa using hmatch⟩, d.leaves_refl _⟩
  next =>
    have hkept : d.leaves (d.setSurf { d.surf with strips := d.surf.strips ++ [⟨n, edge, []⟩] }) [EGL_HCNT] :=
      leaves_of (d.leaves_refl _) rfl rfl rfl rfl
    exact ⟨fun _ hr => List.mem_append_left _ hr, ⟨_, List.mem_append_right _ (List.mem_singleton_self _), rfl, rfl⟩,
      leaves_bump hkept (by decide)⟩

theorem Dev.foldl_stripDue (n : Nat) (edges : List Nat) (d : Dev) :
    (∀ r ∈ d.surf.strips, r ∈ (edges.foldl (Dev.stripDue n) d).surf.strips) ∧
      (∀ edge ∈ edges, ∃ r ∈ (edges.foldl (Dev.stripDue n) d).surf.strips, r.frame = n ∧ r.edge = edge) ∧
      d.leaves (edges.foldl (Dev.stripDue n) d) [EGL_HCNT] := by
  induction edges generalizing d with
  | nil => exact ⟨fun _ hr => hr, by simp, d.leaves_refl _⟩
  | cons edge edges ih =>
    obtain ⟨hkeep, ⟨r, hr, hmatch⟩, hleaves⟩ := d.stripDue_strips n edge
    obtain ⟨ihkeep, ihall, ihleaves⟩ := ih (d.stripDue n edge)
    refine ⟨fun x hx => ihkeep x (hkeep x hx), fun x hx => ?_, leaves_trans hleaves ihleaves⟩
    obtain rfl | hx := List.mem_cons.1 hx
    · exact ⟨r, ihkeep r hr, hmatch⟩
    · exact ihall x hx

theorem Dev.stripDeadline_eq {n : Nat} (h : d.stripFrame = some n) :
    d.stripDeadline = d.joinedEdges.foldl (Dev.stripDue n) d := by
  rw [Dev.stripDeadline, h]
  rfl

/-! The records of a surface frame count no frame as partial (R564). -/

/-- The count of partial frames is the same. -/
def Dev.SamePartial (d e : Dev) : Prop := e.fld EGL_HCNT_PARTIAL = d.fld EGL_HCNT_PARTIAL

theorem samePartial_trans {f : Dev} (h : d.SamePartial e) (g : e.SamePartial f) : d.SamePartial f := g.trans h

theorem samePartial_near (h : d.Near e) : d.SamePartial e := by
  rw [Dev.SamePartial, Dev.fld, h.1 _ (by decide), ← Dev.fld]

theorem samePartial_ring (d : Dev) (src : Nat) (w1 w2 : Word) : d.SamePartial (d.ring src w1 w2) :=
  samePartial_near (near_ring (.rfl d))

theorem samePartial_setFld (d : Dev) {g : Fld} (v : Nat) (h : g.lsb + g.width ≤ 24)
    (ha : EGL_HCNT_PARTIAL.apart g = true) : d.SamePartial (d.setFld g v) := Dev.fld_setFld_apart d v h ha

theorem samePartial_setSurf (d : Dev) (v : Surface) : d.SamePartial (d.setSurf v) := rfl

theorem samePartial_foldl {α : Type} {step : Dev → α → Dev} (xs : List α) (d : Dev)
    (h : ∀ e : Dev, ∀ x ∈ xs, e.SamePartial (step e x)) : d.SamePartial (xs.foldl step d) :=
  foldl_keeps (·.fld EGL_HCNT_PARTIAL) xs d h

theorem samePartial_takeOver (d : Dev) (c : SurfContact) : d.SamePartial (d.takeOver c) := by
  unfold Dev.takeOver
  split
  · rfl
  · extract_lets
    split
    · rfl
    · rfl

theorem samePartial_unreport (d : Dev) (c : SurfContact) : d.SamePartial (d.unreport c) := by
  unfold Dev.unreport
  split
  · rfl
  · rfl

theorem samePartial_tellSurf (d : Dev) (c : SurfContact) : d.SamePartial (d.tellSurf c) := by
  unfold Dev.tellSurf
  split
  · rfl
  · split
    · exact samePartial_setFld d (g := EGL_HCNT_REFUSED) _ (by decide) (by decide)
    · rfl

theorem samePartial_settleSurf (d : Dev) (n : Nat) : d.SamePartial (d.settleSurf n).2 := by
  unfold Dev.settleSurf
  extract_lets x byAge groups leaders y z
  have hx : d.SamePartial x := samePartial_foldl _ d fun e c _ => samePartial_takeOver e c
  have hy : x.SamePartial y := samePartial_foldl _ x fun e c _ => samePartial_unreport e c
  have hz : y.SamePartial z := samePartial_foldl groups y fun e p _ => samePartial_tellSurf e p.1
  exact samePartial_trans hx (samePartial_trans hy hz)

theorem samePartial_hidPut (d : Dev) (rs : List (List Byte)) (gone : List HidContact) : d.SamePartial (d.hidPut rs gone) := by
  unfold Dev.hidPut
  extract_lets
  split
  · rfl
  · rfl

theorem samePartial_hidFrame (d : Dev) (sec frac : Nat) (flags : Word) (cancels lifts live : List HidContact) :
    d.SamePartial (d.hidFrame sec frac flags cancels lifts live) := by
  unfold Dev.hidFrame
  split
  · rfl
  · split
    · rfl
    · extract_lets skip old cancels lifts all trunc x y v
      have hx : d.SamePartial x := by
        unfold x
        split
        · exact samePartial_setFld d (g := USB_HIDCNT_SKIPPED) _ (by decide) (by decide)
        · rfl
      have hy : x.SamePartial y := by
        unfold y
        split
        · exact samePartial_setFld x (g := USB_HIDCNT_TRUNC) _ (by decide) (by decide)
        · rfl
      exact samePartial_trans (samePartial_trans hx hy) (samePartial_hidPut ..)

theorem samePartial_surfRecord (d : Dev) (c shown : SurfContact) (kind : Nat) : d.SamePartial (d.surfRecord c shown kind) := by
  unfold Dev.surfRecord
  extract_lets p
  split
  · rfl
  · exact samePartial_trans (samePartial_near (near_ringPair d ..)) rfl

theorem samePartial_sendCancels (d : Dev) : d.SamePartial d.sendCancels :=
  samePartial_foldl _ (d.setSurf { d.surf with cancels := [] }) fun e _ _ => samePartial_near (near_ringPair e ..)

theorem samePartial_burstDone (d : Dev) (valid : Bool) : d.SamePartial (d.burstDone valid) :=
  samePartial_setFld _ (g := TRK_RPT_STAT_RSPEND) _ (by decide) (by decide)

theorem samePartial_dropSurf (d : Dev) (c : SurfContact) : d.SamePartial (d.dropSurf c) := rfl

theorem samePartial_frameEnd (d : Dev) (n live : Nat) (flags : Word) (resync : Bool) :
    d.SamePartial (d.frameEnd n live flags resync) :=
  samePartial_trans (samePartial_setFld d (g := TRK_RPT_STAT_LIVE) live (by decide) (by decide)) (samePartial_ring ..)

theorem Dev.ring_surf_heard (d : Dev) (src : Nat) (w1 w2 : Word) : (d.ring src w1 w2).surf.heard = d.surf.heard := by
  have h := congrArg (fun x : Dev => x.surf.heard) (d.ring_quiet src w1 w2)
  exact h

/-- The frame-end record leaves what the surface holds (R306). -/
theorem Dev.frameEnd_surf (d : Dev) (n live : Nat) (flags : Word) (resync : Bool) :
    (d.frameEnd n live flags resync).surf.frame = d.surf.frame ∧
      (d.frameEnd n live flags resync).surf.heard = d.surf.heard := ⟨Dev.ring_surf_frame .., Dev.ring_surf_heard ..⟩

/-- The report group of the records counts nothing and changes no surface. -/
theorem samePartial_inGroup {n : Nat} {f : Dev → Dev}
    (h : ∀ x : Dev, (f x).surf.frame = none ∧ (f x).surf.heard = [] ∧ x.SamePartial (f x)) :
    (d.inGroup n f).surf.frame = none ∧ (d.inGroup n f).surf.heard = [] ∧ d.SamePartial (d.inGroup n f) :=
  h { d with evr := { d.evr with group := some n } }

/-- The records of a surface frame end it, and count nothing as partial (R327, R564). -/
theorem Dev.surfaceReports_ends (d : Dev) (n : Nat) (partly : Bool) :
    (d.surfaceReports n partly).surf.frame = none ∧ (d.surfaceReports n partly).surf.heard = [] ∧
      d.SamePartial (d.surfaceReports n partly) := by
  have hsettled := samePartial_settleSurf d n
  unfold Dev.surfaceReports
  split
  next told x hsettle =>
  rw [hsettle] at hsettled
  extract_lets told live valid burst flags y
  have hy : d.SamePartial y := samePartial_trans hsettled (samePartial_hidFrame ..)
  suffices h : ∀ g : Dev, _ from (samePartial_inGroup (d := y) h).imp id (And.imp id (samePartial_trans hy))
  intro g
  extract_lets _ b z a gone c _ e
  have hz : g.SamePartial z := by
    unfold z
    split
    · have hb : g.SamePartial b :=
        samePartial_trans (samePartial_ring (g.setSurf { g.surf with cancels := [] }) ..)
          (samePartial_setFld _ (g := TRK_RPT_CNT_RESYNCS) _ (by decide) (by decide))
      exact samePartial_trans (samePartial_trans hb (samePartial_foldl _ b fun e p _ => samePartial_surfRecord e ..))
        (samePartial_burstDone _ valid)
    · refine samePartial_trans (samePartial_sendCancels g) (samePartial_foldl _ g.sendCancels fun e p _ => ?_)
      split
      · rfl
      · exact samePartial_surfRecord ..
  have ha : z.SamePartial a := samePartial_foldl _ z fun e g _ => samePartial_ring ..
  have hc : a.SamePartial c := samePartial_foldl gone a fun e c _ => samePartial_dropSurf e c
  have he : c.SamePartial e := samePartial_setSurf (c.mapSurf fun o => { o with now := none }) _
  have hends := samePartial_frameEnd e n live.length flags burst
  obtain ⟨hframe, hheard⟩ := e.frameEnd_surf n live.length flags burst
  exact ⟨hframe, hheard, samePartial_trans (samePartial_trans hz ha) (samePartial_trans (samePartial_trans hc he) hends)⟩

/-- The contacts deadline ends its frame, and counts one in which a joined tile was not heard (R564). -/
theorem Dev.contactsDeadline_ends {n : Nat} (h : d.surf.frame = some n) :
    d.contactsDeadline.surf.frame = none ∧ d.contactsDeadline.surf.heard = [] ∧ d.contactsDeadline.fld EGL_HCNT_PARTIAL =
      if d.joinedTiles.any (fun x => !d.surf.heard.contains x) then
        min (d.fld EGL_HCNT_PARTIAL + 1) (2 ^ EGL_HCNT_PARTIAL.width - 1) else d.fld EGL_HCNT_PARTIAL := by
  rw [Dev.contactsDeadline, h]
  extract_lets missing
  obtain ⟨hframe, hheard, hpartial⟩ := (if missing then d.bump EGL_HCNT_PARTIAL else d).surfaceReports_ends n missing
  refine ⟨hframe, hheard, hpartial.trans ?_⟩
  show _ = if missing = true then _ else _
  split
  · exact Dev.fld_bump_same d EGL_HCNT_PARTIAL (by decide)
  · rfl

/-! A contact asks for ACTIVE beside it (R163, R192). -/

/-- The frame being gathered, the tiles heard for it and the count of partial frames are the same. -/
def Dev.SameGathering (d e : Dev) : Prop :=
  e.surf.frame = d.surf.frame ∧ e.surf.heard = d.surf.heard ∧ d.SamePartial e

theorem sameGathering_trans {f : Dev} (h : d.SameGathering e) (g : e.SameGathering f) : d.SameGathering f :=
  ⟨g.1.trans h.1, g.2.1.trans h.2.1, samePartial_trans h.2.2 g.2.2⟩

theorem sameGathering_linked (h : Dev.Linked linkRegs d e) : d.SameGathering e :=
  ⟨h.keeps (·.surf.frame) fun _ => rfl, h.keeps (·.surf.heard) fun _ => rfl, h.fld (by decide) (by decide)⟩

theorem sameGathering_setModes (d : Dev) (m : Modes) : d.SameGathering (d.setModes m) := ⟨rfl, rfl, rfl⟩

theorem sameGathering_markPending (d : Dev) (mode : Nat) : d.SameGathering (d.markPending (some mode)) :=
  ⟨rfl, rfl, samePartial_trans (samePartial_setFld d (g := PWR_STAT_PENDING) _ (by decide) (by decide))
    (samePartial_setFld _ (g := PWR_STAT_TARGET) _ (by decide) (by decide))⟩

theorem sameGathering_askMode (d : Dev) (mode reason : Nat) : d.SameGathering (d.askMode mode reason) := by
  unfold Dev.askMode
  split
  · extract_lets apply
    have hsent : d.SameGathering (d.joinedTiles.foldl (fun d t => d.send msgMode t [word mode, word apply]) d) :=
      sameGathering_linked (linked_foldl _ d fun e t _ => linked_send e ..)
    exact sameGathering_trans (sameGathering_trans hsent (sameGathering_setModes _ _))
      (sameGathering_trans (sameGathering_setModes _ _) (sameGathering_markPending _ mode))
  · exact sameGathering_trans (sameGathering_setModes d _) (sameGathering_markPending _ mode)

theorem sameGathering_idleToActive (d : Dev) : d.SameGathering d.noteContact.idleToActive := by
  have hnoted : d.SameGathering d.noteContact := by
    unfold Dev.noteContact
    split
    · exact ⟨rfl, rfl, rfl⟩
    · exact sameGathering_setModes d _
  unfold Dev.idleToActive
  extract_lets going
  split
  · exact sameGathering_trans hnoted
      (sameGathering_trans (sameGathering_askMode _ modeActive 2) (sameGathering_linked (linked_issueOps _)))
  · exact hnoted

/-! CONTACTS in more than one packet (R558, R572). -/

/-- The first packet of several is kept until the rest is here. -/
theorem Dev.contactsPart_first {xy : Nat} {words : List Word} (hfirst : wGet (words.getD 1 0) 19 5 = 0)
    (hmore : 2 ≤ wGet (words.getD 1 0) 14 5) : ∃ t : Tile, t.xy = xy ∧ t.seen = d.time.frame ∧ d.contactsPart xy words =
      (d.setTile t).setSurf { (d.setTile t).surf with
        parts := (xy, 1, words.drop 2) :: d.surf.parts.filter fun p => p.1 != xy } := by
  refine ⟨{ d.tile xy with seen := d.time.frame, contacts := d.time.frame }, d.tile_xy xy, rfl, ?_⟩
  unfold Dev.contactsPart
  extract_lets n w2 parts
  have hzero : wGet w2 19 5 = 0 := hfirst
  have hmax : 0 + 1 < parts := lt_of_lt_of_le hmore (le_max_left ..)
  split
  simp only [if_pos hzero, if_pos hmax, List.nil_append]
  rfl

end Sys2Proof.Machine
end

section
/-!
SUPPORT. O36: what each message between tiles leads to, and the statement put together from them.
-/

namespace Sys2Proof.Machine

variable {s : State}

/-! On a worker (R523, R543, R544, R571). -/

section

variable (hworker : s.dev.isWorker = true)
include hworker

theorem enum_completes (words : List Word) (xy : Nat) (hxy : wGet (words.getD 0 0) 0 10 = xy) :
    (s.dev.surf.known = true → xy ≠ s.dev.ownXY → Completes (.enum words) s fun t => t.flag EGL_TILE_CONFLICT = true ∧
      t.ownXY = s.dev.ownXY ∧ s.dev.leaves t [EGL_TILE]) ∧
    (s.dev.surf.known = false → Completes (.enum words) s fun t => t.surf.known = true ∧ t.ownXY = xy) := by
  subst hxy
  have hexec : exec (.enum words) s = s.run fun d => d.enumMsg words := rfl
  refine ⟨fun hknown hne => completes_of hexec ?_, fun hknown => completes_of hexec (Dev.enumMsg_places hworker hknown)⟩
  rw [Dev.enumMsg_conflicts hworker hknown hne]
  refine ⟨Dev.flag_setFlag_same _ _ _ (by decide) (by decide), ?_, leaves_setFlag (s.dev.leaves_refl _) (by decide)⟩
  rw [Dev.ownXY, Dev.fld_setFlag_apart _ _ (by decide) (by decide), Dev.fld_setFlag_apart _ _ (by decide) (by decide)]
  rfl

theorem welcome_completes (src : BitVec 10) (words : List Word) (hstep : s.dev.pwr.step = 8) (hsafe : s.dev.mode ≠ modeSafe)
    (hjoin : s.dev.flag EGL_TILE_JOINED = false) (hmode : (words.getD 4 0).toNat % 8 ≠ s.dev.mode)
    (hlt : (words.getD 4 0).toNat % 8 ≤ 4) : Completes (.welcome src words) s fun t =>
      t.surf.firstFrame = some ((words.getD 0 0).toNat, (words.getD 1 0).toNat, (words.getD 2 0).toNat) ∧
      t.surf.deltaDue = (words.getD 5 0).toNat ∧ t.surf.deltaBuf = [] ∧ t.fld CFG_EPOCH_N = (words.getD 3 0).toNat ∧
      t.modes.manager = some ⟨(words.getD 4 0).toNat % 8, some (words.getD 0 0).toNat, 6⟩ ∧
      t.fld PWR_STAT_TARGET = (words.getD 4 0).toNat % 8 ∧ s.dev.leaves t [CFG_EPOCH, PWR_STAT] := by
  refine completes_of (f := fun d => d.welcomeMsg words) rfl ?_
  obtain ⟨htarget, hepoch, hkept⟩ := (s.dev.welcomed words).managerAsked_shows (Nat.mod_lt (words.getD 4 0).toNat (by decide))
    (words.getD 0 0).toNat
  rw [Dev.welcomeMsg_takes hworker hstep hsafe hjoin hmode hlt]
  refine ⟨rfl, rfl, rfl, hepoch.trans ?_, rfl, htarget,
    leaves_trans (s.dev.leaves_welcomed words) (leaves_mono hkept (by decide))⟩
  exact (Dev.fld_setFld_same _ CFG_EPOCH_N _ (by decide)).trans (Nat.mod_eq_of_lt (words.getD 3 0).isLt)

theorem delta_completes (src : BitVec 10) (words : List Word) (hfrom : (words.getD 0 0).toNat = s.dev.surf.deltaBuf.length)
    (hmore : s.dev.surf.deltaBuf.length + (wordPairs (words.drop 1)).length < s.dev.surf.deltaDue) :
    Completes (.delta src words) s fun t => t.surf.deltaBuf = s.dev.surf.deltaBuf ++ wordPairs (words.drop 1) ∧
      t.surf.deltaDue = s.dev.surf.deltaDue ∧ s.dev.leaves t [] := by
  refine completes_of (f := fun d => d.deltaMsg words) rfl ?_
  rw [Dev.deltaMsg_collects hworker hfrom hmore]
  exact ⟨rfl, rfl, leaves_of (s.dev.leaves_refl _) rfl rfl rfl rfl⟩

theorem refuseJoin_completes (src : BitVec 10) (words : List Word) (hjoin : s.dev.flag EGL_TILE_JOINED = false) :
    Completes (.refuseJoin src words) s fun t =>
      t.surf.firstFrame = none ∧ t.surf.deltaDue = 0 ∧ t.surf.joinDue = false ∧ s.dev.leaves t [] := by
  refine completes_of (f := Dev.refusedMsg) rfl ?_
  rw [Dev.refusedMsg, if_pos (by simp [hworker, hjoin])]
  exact ⟨rfl, rfl, rfl, leaves_of (s.dev.leaves_refl _) rfl rfl rfl rfl⟩

theorem reset_completes (src : BitVec 10) (words : List Word) (hheld : s.dev.pwr.held = none)
    (hcycle : s.dev.sameCycle = none) : Completes (.reset src words) s fun t =>
      t.pwr.step = 3 ∧ t.fld SYS_RSTCAUSE_LAST = 7 ∧ t.surf.linkBoot = (wGet (words.getD 0 0) 0 1 == 1) ∧
      t.nvm = s.dev.nvmTorn.nvm := by
  refine completes_of (f := fun d => d.resetMsg words) rfl ?_
  obtain ⟨-, hstep, hlast, hnvm, -⟩ := Dev.resetNow_ends (code := 7) ⟨by decide, by decide⟩ hheld hcycle
  rw [Dev.resetMsg, if_pos hworker]
  exact ⟨hstep, hlast, rfl, hnvm⟩

end

/-! Strips and the end of a surface frame (R556, R557, R564). -/

theorem strip_completes (src : BitVec 10) (words : List Word) (n edge : Nat) (hn : (words.getD 0 0).toNat = n)
    (hedge : opposite (wGet (words.getD 1 0) 0 2) = edge) (hpart : wGet (words.getD 1 0) 8 5 = 0)
    (hnone : s.dev.surf.strips = []) : Completes (.strip src words) s fun t =>
      t.surf.strips = [⟨n, edge, words.drop 2⟩] ∧ s.dev.leaves t [] := by
  subst hn hedge
  refine completes_of (f := fun d => d.stripMsg words) rfl ?_
  rw [Dev.stripMsg_first hpart hnone]
  exact ⟨rfl, leaves_of (s.dev.leaves_refl _) rfl rfl rfl rfl⟩

theorem stripDeadline_completes (n : Nat) (h : s.dev.stripFrame = some n) : Completes .stripDeadline s fun t =>
    (∀ e ∈ s.dev.joinedEdges, (t.surf.strips.any fun r => r.frame == n && r.edge == e) = true) ∧
      s.dev.leaves t [EGL_HCNT] := by
  refine completes_of (f := Dev.stripDeadline) rfl ?_
  obtain ⟨-, hall, hkept⟩ := s.dev.foldl_stripDue n s.dev.joinedEdges
  rw [Dev.stripDeadline_eq h]
  refine ⟨fun edge hedge => ?_, hkept⟩
  obtain ⟨r, hr, hframe, hfaces⟩ := hall edge hedge
  exact List.any_eq_true.2 ⟨r, hr, by simp [hframe, hfaces]⟩

theorem contactsDeadline_completes (n : Nat) (h : s.dev.surf.frame = some n) : Completes .contactsDeadline s fun t =>
    t.surf.frame = none ∧ t.surf.heard = [] ∧
    t.fld EGL_HCNT_PARTIAL = (if s.dev.joinedTiles.any (fun x => !s.dev.surf.heard.contains x) then
      min (s.dev.fld EGL_HCNT_PARTIAL + 1) (2 ^ EGL_HCNT_PARTIAL.width - 1) else s.dev.fld EGL_HCNT_PARTIAL) := by
  refine completes_of (f := fun d => d.contactsDeadline.noteContact.idleToActive) rfl ?_
  obtain ⟨hframe, hheard, hpartial⟩ := Dev.contactsDeadline_ends h
  obtain ⟨gframe, gheard, gpartial⟩ := sameGathering_idleToActive s.dev.contactsDeadline
  exact ⟨gframe.trans hframe, gheard.trans hheard, gpartial.trans hpartial⟩

/-! On the manager (R73, R545, R558, R566, R571, R580). -/

section

variable (hmanager : s.dev.isManager = true)
include hmanager

theorem join_completes (src : BitVec 10) (words : List Word) (xy : Nat) (hxy : wGet (words.getD 0 0) 0 10 = xy)
    (hlost : (s.dev.tile xy).state ≠ tileLost) (hstep : s.dev.pwr.step = 8) (hmode : s.dev.mode ≠ modeSafe) :
    (s.dev.joinsWait = true → Completes (.join src words) s fun t => (t.tile xy).waiting = some words ∧
      s.dev.leaves t []) ∧
    (s.dev.joinsWait = false → s.dev.joinRefusal xy (words.getD 1 0) ≠ 0 → Completes (.join src words) s fun t =>
      ∃ e : Dev, e.outbox = s.dev.outbox ++ [⟨msgRefuseJoin, xy, [word (s.dev.joinRefusal xy (words.getD 1 0))]⟩] ∧
        e.evr = s.dev.evr ∧ s.dev.leaves e [] ∧
        t = e.issueOps.ring 186 (pack [(s.dev.joinRefusal xy (words.getD 1 0), 12), (xy, 0)]) (words.getD 1 0)) ∧
    (s.dev.joinsWait = false → s.dev.joinRefusal xy (words.getD 1 0) = 0 → words.getD 2 0 = s.dev.reg SYS_IMGSEQ →
      (words.getD 3 0).toNat * 65536 + (words.getD 4 0).toNat = s.dev.imageCrc →
      s.dev.epochFits xy (words.getD 5 0).toNat = true → Completes (.join src words) s fun t =>
        (t.tile xy).state = tileJoined ∧ (t.tile xy).epoch = s.dev.fld CFG_EPOCH_N ∧ (t.tile xy).waiting = none) := by
  have hexec : exec (.join src words) s = s.run fun d => d.joinMsg words := rfl
  have hjoin := Dev.joinMsg_eq hxy hmanager hstep hmode hlost
  refine ⟨fun hwait => completes_of hexec ?_, fun hwait hrefusal => completes_of hexec ?_,
    fun hwait hrefusal hseq hcrc hfits => completes_of hexec ?_⟩
  · obtain ⟨ts, heq⟩ := s.dev.joinNoted_eq xy
    rw [hjoin, if_pos hwait]
    refine ⟨congrArg Tile.waiting (Dev.tile_setWaiting ..), leaves_setTile ?_ _⟩
    rw [heq]
    exact leaves_of (s.dev.leaves_refl _) rfl rfl rfl rfl
  · obtain ⟨hout, hevr, hkept⟩ := s.dev.joinRefused_sends xy (s.dev.joinRefusal xy (words.getD 1 0))
    rw [hjoin, if_neg (by simp [hwait]), Dev.answerJoin_eq]
    exact ⟨_, hout, hevr, hkept, if_pos hrefusal⟩
  · have hepoch : (s.dev.joinTaken xy).fld CFG_EPOCH_N = s.dev.fld CFG_EPOCH_N := by
      obtain ⟨ts, heq⟩ := s.dev.joinTaken_eq xy
      rw [heq]
      rfl
    have hwelcome : s.dev.joinMsg words = (s.dev.joinTaken xy).welcome xy := by
      rw [hjoin, if_neg (by simp [hwait]), Dev.answerJoin_eq]
      simp only [hrefusal, hseq, hcrc, hfits, ne_eq, not_true_eq_false, or_self, if_false, Bool.true_eq_false]
    rw [hwelcome, ← hepoch]
    exact Dev.tile_welcome ..

theorem svcReq_completes (src : BitVec 10) (words : List Word) (hlost : (s.dev.tile src.toNat).state ≠ tileLost)
    (hmode : s.dev.mode = modeIdle ∨ s.dev.mode = modeActive ∨ s.dev.mode = modeWatch) (hsurf : s.dev.onSurface = false)
    (henter : wGet (words.getD 0 0) 0 1 = 0) : Completes (.svcReq src words) s fun t => ∃ e : Dev,
      e.modes.service = some ⟨modeService, none, 4⟩ ∧ e.modes.entry = 3 ∧ e.fld PWR_STAT_TARGET = modeService ∧
      e.flag PWR_STAT_PENDING = true ∧ s.dev.leaves e [PWR_STAT] ∧ t = e.issueOps := by
  refine completes_of (f := fun d => d.svcReqMsg src.toNat words) rfl ?_
  let x := s.dev.noteTile src.toNat
  have hsame : x.mode = s.dev.mode := rfl
  have hup : ¬ (x.mode = modeSafe ∨ x.mode = modeStart ∨ x.mode = modeHibernate) := by
    obtain h | h | h := hmode
    all_goals
      rw [hsame, h]
      decide
  have hother : ¬ x.mode = modeService := by
    obtain h | h | h := hmode
    all_goals
      rw [hsame, h]
      decide
  have halone : (x.isManager && x.onSurface) = false := by
    rw [show x.onSurface = false from hsurf, Bool.and_false]
  have hasked : s.dev.svcReqMsg src.toNat words = (x.serviceAsked modeService 3).issueOps := by
    rw [Dev.svcReqMsg, Dev.fromLost_kept hmanager hlost, ← Dev.serviceMode_alone halone]
    exact (if_neg hup).trans ((if_pos henter).trans (if_neg hother))
  have hpending : (x.serviceAsked modeService 3).flag PWR_STAT_PENDING = true :=
    (Dev.flag_setFld_apart _ _ (by decide) (by decide)).trans (Dev.flag_setFlag_same _ _ _ (by decide) (by decide))
  have hplaced : s.dev.leaves ((x.setModes { x.modes with entry := 3 }).placeMode modeService 4 none) [PWR_STAT] :=
    leaves_of (s.dev.leaves_noteTile src.toNat _) rfl rfl rfl rfl
  exact ⟨_, rfl, rfl, Dev.fld_setFld_same _ PWR_STAT_TARGET _ (by decide), hpending,
    leaves_setFld (leaves_setFlag hplaced (by decide)) (by decide), hasked⟩

theorem contacts_completes (src : BitVec 10) (words : List Word) (hjoined : (s.dev.tile src.toNat).state = tileJoined)
    (hfirst : wGet (words.getD 1 0) 19 5 = 0) (hmore : 2 ≤ wGet (words.getD 1 0) 14 5) :
    Completes (.contacts src words) s fun t => t.surf.parts = (src.toNat, 1, words.drop 2) ::
      s.dev.surf.parts.filter (fun p => p.1 != src.toNat) ∧ (t.tile src.toNat).seen = s.dev.time.frame ∧
        s.dev.leaves t [] := by
  refine completes_of (f := fun d => d.contactsMsg src.toNat words) rfl ?_
  obtain ⟨r, hxy, hseen, heq⟩ := Dev.contactsPart_first (xy := src.toNat) hfirst hmore
  rw [Dev.contactsMsg, Dev.fromLost_kept hmanager (by simp [hjoined]), if_pos hjoined, heq]
  refine ⟨rfl, ?_, leaves_of (leaves_setTile (s.dev.leaves_refl _) r) rfl rfl rfl rfl⟩
  exact (congrArg Tile.seen (Dev.tile_setTile s.dev r hxy)).trans hseen

theorem forward_completes (src : BitVec 10) (words : List Word) (hlost : (s.dev.tile src.toNat).state ≠ tileLost) :
    (∀ k, wGet (words.getD 0 0) 15 9 = k → k ≠ 188 → k ≠ 213 → Completes (.forward src words) s fun t => ∃ e : Dev,
      e.fld EGL_FWD_COUNT = min (s.dev.fld EGL_FWD_COUNT + 1) (2 ^ EGL_FWD_COUNT.width - 1) ∧ e.evr = s.dev.evr ∧
      (e.tile src.toNat).seen = s.dev.time.frame ∧ s.dev.leaves e [EGL_FWD] ∧
      t = e.accept (384 + k % 128) (forwardW1 src.toNat (wGet (words.getD 0 0) 5 6 != s.dev.time.epoch) k) (words.getD 3 0)
        none (some (words.getD 1 0, words.getD 2 0))) ∧
    (wGet (words.getD 0 0) 15 9 = 188 → Completes (.forward src words) s fun t =>
      t.fld EGL_FWD_LOSS = min (s.dev.fld EGL_FWD_LOSS + (words.getD 2 0).toNat) (2 ^ EGL_FWD_LOSS.width - 1) ∧
      s.dev.rang t 188 (word src.toNat) (word (words.getD 2 0).toNat) ∧ s.dev.leavesRing t [EGL_FWD]) := by
  have hexec : exec (.forward src words) s = s.run fun d => d.forwardMsg src.toNat words := rfl
  let x := s.dev.noteTile src.toNat
  refine ⟨?_, fun hloss => completes_of hexec ?_⟩
  · rintro k rfl hloss hstretch
    refine completes_of hexec ⟨x.bump EGL_FWD_COUNT, Dev.fld_bump_same x EGL_FWD_COUNT (by decide), rfl, ?_,
      leaves_bump (s.dev.leaves_noteTile _ _) (by decide), ?_⟩
    · exact congrArg Tile.seen (s.dev.tile_noteTile src.toNat)
    · rw [Dev.forwardMsg, Dev.fromLost_kept hmanager hlost]
      simp only [if_neg hloss, if_neg hstretch]
      rfl
  · have heq : s.dev.forwardMsg src.toNat words = x.forwardLoss src.toNat (words.getD 2 0).toNat := by
      rw [Dev.forwardMsg, Dev.fromLost_kept hmanager hlost]
      exact if_pos hloss
    rw [heq, Dev.forwardLoss, Dev.ring_fld (by decide)]
    exact ⟨Dev.fld_bumpBy_same x EGL_FWD_LOSS _ (by decide), rang_ring (e := x.bumpBy EGL_FWD_LOSS _) rfl ..,
      leavesRing_ring (leavesRing_of_leaves (leaves_bumpBy (s.dev.leaves_noteTile _ _) (by decide))) ..⟩

theorem leave_completes (src : BitVec 10) (words : List Word) (hlost : (s.dev.tile src.toNat).state ≠ tileLost) :
    Completes (.leave src words) s fun t => (t.tile src.toNat).state = tileSafe ∧
      (t.tile src.toNat).reason = wGet (words.getD 0 0) 0 3 := by
  refine completes_of (f := fun d => d.leaveMsg src.toNat words) rfl ?_
  rw [Dev.leaveMsg, Dev.fromLost_kept hmanager hlost, Dev.tile_tileGone]
  exact ⟨rfl, rfl⟩

theorem eglTreset_completes (v : Word) (hkey : wGet v 16 8 = 0xA5) (hdest : wGet v 0 10 ≠ 0) :
    Completes (.eglTreset v) s fun t => (t.tile (wGet v 0 10)).state = tileResetting := by
  refine completes_of (f := fun d => d.writeTreset v) rfl ?_
  rw [Dev.writeTreset, if_pos ⟨hkey, hdest, hmanager⟩]
  exact Dev.tile_resetTile ..

theorem tileLost_completes (tile : BitVec 10) (hjoined : (s.dev.tile tile.toNat).state = tileJoined)
    (hne : tile.toNat ≠ s.dev.ownXY) : Completes (.tileLost tile) s fun t => (t.tile tile.toNat).state = tileLost := by
  refine completes_of (f := fun d => d.tileSilent tile.toNat) rfl ?_
  rw [Dev.tileSilent, if_pos ⟨hmanager, hjoined, hne⟩, Dev.tile_tileGone]

end

/-- Settles O36: the messages a worker takes, the strips and the deadlines, and the messages the manager takes, each by what it
leads to. -/
theorem tilesJoinAndReport : Obligations.TilesJoinAndReport := by
  intro s
  refine ⟨fun hworker => ⟨enum_completes hworker, welcome_completes hworker, delta_completes hworker,
    refuseJoin_completes hworker, reset_completes hworker⟩, strip_completes, stripDeadline_completes,
    contactsDeadline_completes, fun hmanager src words hlost => ⟨fun xy hxy => join_completes hmanager src words xy hxy,
      svcReq_completes hmanager src words hlost, contacts_completes hmanager src words,
      (forward_completes hmanager src words hlost).1, (forward_completes hmanager src words hlost).2,
      leave_completes hmanager src words hlost, fun v hkey hdest _ => eglTreset_completes hmanager v hkey hdest⟩,
    fun tile hmanager => tileLost_completes hmanager tile, fun v hkey => ?_⟩
  refine completes_of (f := fun d => d.writeTreset v) rfl ?_
  rw [Dev.writeTreset, if_neg (not_and_of_not_left _ hkey)]
  exact ⟨Dev.fld_ignoreWrite .., Dev.leaves_ignoreWrite ..⟩

end Sys2Proof.Machine
end

section
/-!
SUPPORT. The supplies: the warnings, VDDIO and its outputs (R99, R110, R124, R125).
-/

namespace Sys2Proof.Machine

variable {s : State}

/-- An update that leaves the router as it is, and then an event: it is the last thing that happened, and adds to the changes
what an event may change. -/
theorem ring_after {d e : Dev} {as : List Nat} (hleaves : d.leaves e as) (hevr : e.evr = d.evr) (src : Nat) (w1 w2 : Word) :
    d.rang (e.ring src w1 w2) src w1 w2 ∧ d.leavesRing (e.ring src w1 w2) as :=
  ⟨rang_ring hevr .., leavesRing_ring (leavesRing_of_leaves hleaves) ..⟩

/-- What a warning shows and counts (R110). -/
def Dev.warned (d : Dev) : Dev :=
  ((d.setFlag SYS_SUPPLY_VDD_WARN true).setFlag SYS_SUPPLY_WARN_SEEN true).bump SYS_SUPPLY_WARNS

theorem Dev.leaves_warned (d : Dev) : d.leaves d.warned [SYS_SUPPLY] :=
  leaves_bump (leaves_setFlag (leaves_setFlag (d.leaves_refl _) (by decide)) (by decide)) (by decide)

theorem Dev.warned_shows (d : Dev) : d.warned.flag SYS_SUPPLY_VDD_WARN = true ∧ d.warned.flag SYS_SUPPLY_WARN_SEEN = true ∧
    d.warned.fld SYS_SUPPLY_WARNS = min (d.fld SYS_SUPPLY_WARNS + 1) 255 := by
  refine ⟨?_, ?_, ?_⟩
  · rw [Dev.warned, Dev.flag_bump_apart _ (by decide) (by decide), Dev.flag_setFlag_apart _ _ (by decide) (by decide),
      Dev.flag_setFlag_same _ _ _ (by decide) (by decide)]
  · rw [Dev.warned, Dev.flag_bump_apart _ (by decide) (by decide), Dev.flag_setFlag_same _ _ _ (by decide) (by decide)]
  · rw [Dev.warned, Dev.fld_bump_same _ _ (by decide), Dev.fld_setFlag_apart _ _ (by decide) (by decide),
      Dev.fld_setFlag_apart _ _ (by decide) (by decide)]
    rfl

/-- What a two-wire or console transfer in progress loses with VDDIO, and what of the loss is shown (R124). -/
def Dev.ioLost (d : Dev) : Dev :=
  let x := (d.nvmTorn.nvmIdle.setFlag SYS_SUPPLY_VDDIO_OK false).setFlag SYS_SUPPLY_VDDIO_LOSS true
  { x with
    pwr := { x.pwr with vddioLost := true, vddioReturning := false }
    twb := { x.twb with held := [] }
    con := { x.con with line := [], framed := false, tooLong := false, out := x.con.out.drop 1, sent := 0 } }

theorem Dev.leaves_ioLost (d : Dev) : d.nvmTorn.leaves d.ioLost [SYS_SUPPLY, TWB_STAT] := by
  have hidle : d.nvmTorn.leaves d.nvmTorn.nvmIdle [SYS_SUPPLY, TWB_STAT] :=
    leaves_setFlag (leaves_of (d.nvmTorn.leaves_refl _) rfl rfl rfl rfl) (by decide)
  exact leaves_of (leaves_setFlag (f := SYS_SUPPLY_VDDIO_LOSS) (b := true)
    (leaves_setFlag (f := SYS_SUPPLY_VDDIO_OK) (b := false) hidle (by decide)) (by decide)) rfl rfl rfl rfl

theorem Dev.ioLost_flags (d : Dev) : d.ioLost.flag SYS_SUPPLY_VDDIO_OK = false ∧ d.ioLost.flag SYS_SUPPLY_VDDIO_LOSS = true :=
  ⟨(Dev.flag_setFlag_apart (f := SYS_SUPPLY_VDDIO_OK) (g := SYS_SUPPLY_VDDIO_LOSS) _ _ (by decide) (by decide)).trans
      (Dev.flag_setFlag_same _ _ _ (by decide) (by decide)),
    Dev.flag_setFlag_same (f := SYS_SUPPLY_VDDIO_LOSS) _ _ (by decide) (by decide)⟩

theorem Dev.ioLost_evr (d : Dev) : d.ioLost.evr = d.evr := (congrArg Dev.evr d.nvmTorn_eq :)

theorem powerOn_completes : Completes .powerOn s fun t => t.pwr.vddGood = true ∧ t.pwr.vddaGood = true ∧
    t.flag SYS_SUPPLY_VDDA_OK = true ∧ s.dev.leaves t [SYS_SUPPLY] := by
  refine completes_of (f := fun d =>
    (d.setPwr { d.pwr with vddGood := true, vddaGood := true }).setFlag SYS_SUPPLY_VDDA_OK true) rfl ?_
  exact ⟨rfl, rfl, Dev.flag_setFlag_same _ _ _ (by decide) (by decide),
    leaves_setFlag (leaves_of (s.dev.leaves_refl _) rfl rfl rfl rfl) (by decide)⟩

theorem vddWarningSet_completes (h : s.dev.flag SYS_SUPPLY_VDD_WARN = false) : Completes .vddWarningSet s fun t =>
    t.flag SYS_SUPPLY_VDD_WARN = true ∧ t.flag SYS_SUPPLY_WARN_SEEN = true ∧
    t.fld SYS_SUPPLY_WARNS = min (s.dev.fld SYS_SUPPLY_WARNS + 1) 255 ∧
    s.dev.rang t 7 0 0 ∧ s.dev.leavesRing t [SYS_SUPPLY] := by
  have hexec : exec .vddWarningSet s = s.run fun d => d.warned.ring 7 0 0 := by
    show execVddWarningSet s = _
    simp [execVddWarningSet, h, Dev.warned]
  obtain ⟨hwarn, hseen, hcount⟩ := s.dev.warned_shows
  refine completes_of hexec ⟨?_, ?_, ?_, ring_after s.dev.leaves_warned rfl ..⟩
  · rw [Dev.ring_flag (by decide), hwarn]
  · rw [Dev.ring_flag (by decide), hseen]
  · rw [Dev.ring_fld (by decide), hcount]

theorem vddWarningClear_completes (h : s.dev.flag SYS_SUPPLY_VDD_WARN = true) : Completes .vddWarningClear s fun t =>
    t.flag SYS_SUPPLY_VDD_WARN = false ∧ t.fld SYS_SUPPLY_WARNS = s.dev.fld SYS_SUPPLY_WARNS ∧
    t.flag SYS_SUPPLY_WARN_SEEN = s.dev.flag SYS_SUPPLY_WARN_SEEN ∧
    s.dev.rang t 7 1 0 ∧ s.dev.leavesRing t [SYS_SUPPLY] := by
  have hexec : exec .vddWarningClear s = s.run fun d => (d.setFlag SYS_SUPPLY_VDD_WARN false).ring 7 1 0 := by
    show execVddWarningClear s = _
    simp [execVddWarningClear, h]
  have hleaves : s.dev.leaves (s.dev.setFlag SYS_SUPPLY_VDD_WARN false) [SYS_SUPPLY] :=
    leaves_setFlag (s.dev.leaves_refl _) (by decide)
  refine completes_of hexec ⟨?_, ?_, ?_, ring_after hleaves rfl ..⟩
  · rw [Dev.ring_flag (by decide), Dev.flag_setFlag_same _ _ _ (by decide) (by decide)]
  · rw [Dev.ring_fld (by decide), Dev.fld_setFlag_apart _ _ (by decide) (by decide)]
  · rw [Dev.ring_flag (by decide), Dev.flag_setFlag_apart _ _ (by decide) (by decide)]

theorem vddioLoss_completes : Completes .vddioLoss s fun t =>
    t.flag SYS_SUPPLY_VDDIO_OK = false ∧ t.flag SYS_SUPPLY_VDDIO_LOSS = true ∧
    t.twb.held = [] ∧ t.con.line = [] ∧ t.pwr.vddioLost = true ∧ t.twb.nvOp = 0 ∧ t.nvm = s.dev.nvmTorn.nvm ∧
    s.dev.rang t 7 2 0 ∧ s.dev.nvmTorn.leavesRing t [SYS_SUPPLY, TWB_STAT] := by
  refine completes_of (f := fun d => d.ioLost.ring 7 2 0) rfl ?_
  obtain ⟨hok, hloss⟩ := s.dev.ioLost_flags
  simp only [Dev.ring_flag (f := SYS_SUPPLY_VDDIO_OK) (by decide), Dev.ring_flag (f := SYS_SUPPLY_VDDIO_LOSS) (by decide),
    Dev.ring_twb, Dev.ring_con_line, Dev.ring_pwr, Dev.ring_nvm]
  exact ⟨hok, hloss, rfl, rfl, rfl, rfl, rfl, rang_ring s.dev.ioLost_evr ..,
    leavesRing_ring (leavesRing_of_leaves s.dev.leaves_ioLost) ..⟩

theorem vddioReturn_completes (h : s.dev.flag SYS_SUPPLY_VDDIO_OK = false) : Completes .vddioReturn s fun t =>
    t.flag SYS_SUPPLY_VDDIO_OK = true ∧ t.pwr.vddioReturning = true ∧ t.pwr.vddioLost = s.dev.pwr.vddioLost ∧
    s.dev.leaves t [SYS_SUPPLY] := by
  have hexec : exec .vddioReturn s = s.run fun d =>
      (d.setFlag SYS_SUPPLY_VDDIO_OK true).setPwr { d.pwr with vddioReturning := true } := by
    show execVddioReturn s = _
    simp [execVddioReturn, h]
  exact completes_of hexec ⟨Dev.flag_setFlag_same s.dev _ _ (by decide) (by decide), rfl, rfl,
    leaves_of (leaves_setFlag (f := SYS_SUPPLY_VDDIO_OK) (b := true) (s.dev.leaves_refl _) (by decide)) rfl rfl rfl rfl⟩

theorem outputsRestore_completes (hreturns : s.dev.pwr.vddioReturning = true) (hlost : s.dev.pwr.vddioLost = true) :
    Completes .outputsRestore s fun t => t.pwr.vddioReturning = false ∧ t.pwr.vddioLost = false ∧
      s.dev.rang t 7 3 0 ∧ s.dev.leavesRing t [] := by
  have hexec : exec .outputsRestore s = s.run fun d =>
      (d.setPwr { d.pwr with vddioReturning := false, vddioLost := false }).ring 7 3 0 := by
    show execOutputsRestore s = _
    simp [execOutputsRestore, hreturns, hlost]
  have hleaves : s.dev.leaves (s.dev.setPwr { s.dev.pwr with vddioReturning := false, vddioLost := false }) [] :=
    s.dev.leaves_refl _
  refine completes_of hexec ⟨?_, ?_, ring_after hleaves rfl ..⟩
  · rw [Dev.ring_pwr]
    rfl
  · rw [Dev.ring_pwr]
    rfl

/-- Settles O7, command by command. -/
theorem suppliesWarnAndReturn : Obligations.SuppliesWarnAndReturn := fun _ =>
  ⟨powerOn_completes, vddWarningSet_completes, vddWarningClear_completes, vddioLoss_completes, vddioReturn_completes,
    outputsRestore_completes⟩

end Sys2Proof.Machine
end

section
/-!
SUPPORT. The clocks: the crystal, the fast oscillator and its lock, and VCORE good at step 3 (R105 to R108, R120 to R127).
-/

namespace Sys2Proof.Machine

variable {s : State} {d e : Dev}

/-! The event of the clocks (R125). -/

theorem Dev.followReference_flag (d : Dev) {f : Fld} (h : f.apart SYS_CLK_LOCKREF = true) :
    d.followReference.flag f = d.flag f := Dev.flag_setFld_apart d _ (by decide) h

/-- An event of the clocks is the last thing that happened, and shows SYS_CLK as it then stands. -/
theorem clockEvent_after (hleaves : d.leaves e [SYS_CLK]) (hevr : e.evr = d.evr) (what : Nat) :
    d.rang (e.clockEvent what) 8 (word what) ((e.clockEvent what).reg SYS_CLK) ∧
      d.leavesRing (e.clockEvent what) [SYS_CLK] := by
  have hfollows : d.leaves e.followReference [SYS_CLK] := leaves_setFld hleaves (by decide)
  rw [Dev.clockEvent, Dev.ring_reg (by decide)]
  exact ring_after hfollows hevr ..

theorem Dev.clockEvent_pwr (d : Dev) (what : Nat) : (d.clockEvent what).pwr = d.pwr := Dev.ring_pwr ..

theorem Dev.clockEvent_flag (d : Dev) (what : Nat) {f : Fld} (hring : f.addr ∉ ringRegs)
    (hf : f.apart SYS_CLK_LOCKREF = true) : (d.clockEvent what).flag f = d.flag f := by
  rw [Dev.clockEvent, Dev.ring_flag hring, d.followReference_flag hf]

/-! The crystal (R105, R106, R122). -/

/-- The crystal is off and has failed, until the next reset (R106, R122). -/
def Dev.xtalDead (d : Dev) : Dev :=
  (d.setPwr { d.pwr with xtalOn := false, xtalFailed := true }).setFlag SYS_CLK_XTAL_FAIL true

theorem Dev.leaves_xtalDead (d : Dev) : d.leaves d.xtalDead [SYS_CLK] :=
  leaves_setFlag (leaves_of (d.leaves_refl _) rfl rfl rfl rfl) (by decide)

theorem Dev.xtalDead_fail (d : Dev) : d.xtalDead.flag SYS_CLK_XTAL_FAIL = true :=
  Dev.flag_setFlag_same _ _ _ (by decide) (by decide)

theorem Dev.xtalDead_src32 (d : Dev) : d.xtalDead.flag SYS_CLK_SRC32 = d.flag SYS_CLK_SRC32 :=
  Dev.flag_setFlag_apart _ _ (by decide) (by decide)

theorem xtalQualified_completes (hon : s.dev.pwr.xtalOn = true) (hsrc : s.dev.flag SYS_CLK_SRC32 = false) :
    Completes .xtalQualified s fun t => t.flag SYS_CLK_SRC32 = true ∧ s.dev.rang t 8 0 (t.reg SYS_CLK) ∧
      s.dev.leavesRing t [SYS_CLK] := by
  have hexec : exec .xtalQualified s = s.run fun d => (d.setFlag SYS_CLK_SRC32 true).clockEvent 0 := by
    show execXtalQualified s = _
    simp [execXtalQualified, hon, hsrc]
  refine completes_of hexec ⟨?_, clockEvent_after (leaves_setFlag (s.dev.leaves_refl _) (by decide)) rfl 0⟩
  rw [Dev.clockEvent_flag _ _ (by decide) (by decide), Dev.flag_setFlag_same _ _ _ (by decide) (by decide)]

theorem xtalQualifyTimeout_completes (hon : s.dev.pwr.xtalOn = true) (hsrc : s.dev.flag SYS_CLK_SRC32 = false) :
    Completes .xtalQualifyTimeout s fun t => t.pwr.xtalOn = false ∧ t.pwr.xtalFailed = true ∧
      t.flag SYS_CLK_XTAL_FAIL = true ∧ t.flag SYS_CLK_SRC32 = false ∧ s.dev.rang t 8 2 (t.reg SYS_CLK) ∧
      s.dev.leavesRing t [SYS_CLK] := by
  have hexec : exec .xtalQualifyTimeout s = s.run fun d => d.xtalDead.clockEvent 2 := by
    show execXtalQualifyTimeout s = _
    simp [execXtalQualifyTimeout, hon, hsrc, Dev.xtalDead]
  refine completes_of hexec ⟨?_, ?_, ?_, ?_, clockEvent_after s.dev.leaves_xtalDead rfl 2⟩
  · rw [Dev.clockEvent_pwr]
    rfl
  · rw [Dev.clockEvent_pwr]
    rfl
  · rw [Dev.clockEvent_flag _ _ (by decide) (by decide), Dev.xtalDead_fail]
  · rw [Dev.clockEvent_flag _ _ (by decide) (by decide), Dev.xtalDead_src32, hsrc]

theorem xtalLost_completes (hsrc : s.dev.flag SYS_CLK_SRC32 = true) : Completes .xtalLost s fun t =>
    t.pwr.xtalOn = false ∧ t.pwr.xtalFailed = true ∧ t.flag SYS_CLK_SRC32 = false ∧ t.flag SYS_CLK_XTAL_FAIL = true ∧
      s.dev.rang t 8 1 (t.reg SYS_CLK) ∧ s.dev.leavesRing t [SYS_CLK] := by
  have hexec : exec .xtalLost s = s.run fun d => (d.setFlag SYS_CLK_SRC32 false).xtalDead.clockEvent 1 := by
    show execXtalLost s = _
    simp only [execXtalLost, hsrc, State.run_eq]
    rfl
  have hleaves : s.dev.leaves (s.dev.setFlag SYS_CLK_SRC32 false).xtalDead [SYS_CLK] :=
    leaves_setFlag (leaves_of (leaves_setFlag (f := SYS_CLK_SRC32) (b := false) (s.dev.leaves_refl _) (by decide))
      rfl rfl rfl rfl) (by decide)
  refine completes_of hexec ⟨?_, ?_, ?_, ?_, clockEvent_after hleaves rfl 1⟩
  · rw [Dev.clockEvent_pwr]
    rfl
  · rw [Dev.clockEvent_pwr]
    rfl
  · rw [Dev.clockEvent_flag _ _ (by decide) (by decide), Dev.xtalDead_src32,
      Dev.flag_setFlag_same _ _ _ (by decide) (by decide)]
  · rw [Dev.clockEvent_flag _ _ (by decide) (by decide), Dev.xtalDead_fail]

/-! The fast oscillator (R108, R120). -/

theorem foscRequest_completes : (s.dev.flag SYS_CLK_FOSC_ON = false → Completes .foscRequest s fun t =>
      t.flag SYS_CLK_FOSC_ON = true ∧ t.flag SYS_CLK_LOCKED = false ∧ t.pwr.lockFails = 0 ∧ s.dev.leaves t [SYS_CLK]) ∧
    (s.dev.flag SYS_CLK_FOSC_ON = true → Completes .foscRequest s fun t => t = s.dev) := by
  refine ⟨fun hoff => ?_, fun hon => ?_⟩
  · have hexec : exec .foscRequest s = s.run Dev.foscStart := by
      show execFoscRequest s = _
      simp [execFoscRequest, hoff]
    obtain ⟨hon, hlocked, -, hleaves⟩ := s.dev.foscStart_starts
    exact completes_of hexec ⟨hon, hlocked, rfl, hleaves⟩
  · refine completes_of (f := id) ?_ rfl
    show execFoscRequest s = _
    simp [execFoscRequest, hon]

theorem Dev.foscStop_shows (d : Dev) : d.foscStop.flag SYS_CLK_FOSC_ON = false ∧ d.foscStop.flag SYS_CLK_LOCKED = false ∧
    d.foscStop.flag TIME_STAT_FASTINT = false ∧ d.leaves d.foscStop [SYS_CLK, TIME_STAT] := by
  refine ⟨?_, ?_, Dev.flag_setFlag_same _ _ _ (by decide) (by decide), ?_⟩
  · refine (Dev.flag_setFlag_apart _ _ (by decide) (by decide)).trans ((Dev.flag_setFld_apart _ _ (by decide) (by decide)).trans
      ((Dev.flag_setFlag_apart _ _ (by decide) (by decide)).trans (Dev.flag_setFlag_same _ _ _ (by decide) (by decide))))
  · exact (Dev.flag_setFlag_apart _ _ (by decide) (by decide)).trans ((Dev.flag_setFld_apart _ _ (by decide) (by decide)).trans
      (Dev.flag_setFlag_same _ _ _ (by decide) (by decide)))
  · have hclk : d.leaves (((d.setFlag SYS_CLK_FOSC_ON false).setFlag SYS_CLK_LOCKED false).setFld SYS_CLK_LOCKREF 0)
        [SYS_CLK, TIME_STAT] :=
      leaves_setFld (leaves_setFlag (leaves_setFlag (d.leaves_refl _) (by decide)) (by decide)) (by decide)
    exact leaves_setFlag (leaves_of hclk rfl rfl rfl rfl) (by decide)

theorem foscStop_completes : (s.dev.foscNeeded = true → Completes .foscStop s fun t => t = s.dev) ∧
    (s.dev.foscNeeded = false → Completes .foscStop s fun t => t.flag SYS_CLK_FOSC_ON = false ∧ t.flag SYS_CLK_LOCKED = false ∧
      t.time.interp = s.dev.time.interp ∧
      t.time.fast = false ∧ t.time.sec = s.dev.time.sec ∧ t.time.frac = s.dev.time.frac ∧ t.flag TIME_STAT_FASTINT = false ∧
      s.dev.leaves t [SYS_CLK, TIME_STAT]) := by
  refine ⟨fun hneeded => ?_, fun hfree => ?_⟩
  · refine completes_of (f := id) ?_ rfl
    show execFoscStop s = _
    simp [execFoscStop, hneeded]
  · have hexec : exec .foscStop s = s.run Dev.foscStop := by
      show execFoscStop s = _
      simp [execFoscStop, hfree]
    obtain ⟨hoff, hlocked, hfast, hleaves⟩ := s.dev.foscStop_shows
    exact completes_of hexec ⟨hoff, hlocked, rfl, rfl, rfl, rfl, hfast, hleaves⟩

/-! The lock (R107, R123). -/

/-- One more failed attempt to lock (R123). -/
def Dev.lockTried (d : Dev) : Dev := d.setPwr { d.pwr with lockFails := d.pwr.lockFails + 1 }

theorem Dev.leaves_lockTried (d : Dev) (as : List Nat) : d.leaves d.lockTried as := d.leaves_refl _

/-- USB does not attach while VBUS is away. -/
theorem Dev.usbTry_of_no_vbus (h : d.usb.vbus = false) : d.usbTry = d := by simp [Dev.usbTry, Dev.usbReady, h]

/-- USB that is not attached has nothing to detach. -/
theorem Dev.usbDetach_of_detached (h : d.fld USB_STAT_STATE = 0) : d.usbDetach = d := if_pos h

section

variable (hon : s.dev.flag SYS_CLK_FOSC_ON = true) (hfree : s.dev.flag SYS_CLK_LOCKED = false)
include hon hfree

theorem foscLockTimeout_fails (hthird : s.dev.pwr.lockFails = 2) : Completes .foscLockTimeout s fun t =>
    t.pwr.lockFails = 3 ∧ t.flag SYS_CLK_LOCK_FAIL = true ∧ s.dev.rang t 8 3 (t.reg SYS_CLK) ∧
      s.dev.leavesRing t [SYS_CLK] := by
  have hexec : exec .foscLockTimeout s = s.run fun d => (d.lockTried.setFlag SYS_CLK_LOCK_FAIL true).clockEvent 3 := by
    show execFoscLockTimeout s = _
    simp [execFoscLockTimeout, hon, hfree, hthird, Dev.lockTried]
  have hleaves := leaves_setFlag (f := SYS_CLK_LOCK_FAIL) (b := true) (s.dev.leaves_lockTried [SYS_CLK]) (by decide)
  refine completes_of hexec ⟨?_, ?_, clockEvent_after hleaves rfl 3⟩
  · rw [Dev.clockEvent_pwr]
    exact congrArg (· + 1) hthird
  · rw [Dev.clockEvent_flag _ _ (by decide) (by decide), Dev.flag_setFlag_same _ _ _ (by decide) (by decide)]

theorem foscLockTimeout_retries (hearly : s.dev.pwr.lockFails < 2) : Completes .foscLockTimeout s fun t =>
    t.pwr.lockFails = s.dev.pwr.lockFails + 1 ∧ s.dev.leaves t [] := by
  have hexec : exec .foscLockTimeout s = s.run Dev.lockTried := by
    show execFoscLockTimeout s = _
    simp [execFoscLockTimeout, hon, hfree, show ¬ 3 ≤ s.dev.pwr.lockFails by omega,
      show ¬ s.dev.pwr.lockFails = 2 by omega, Dev.lockTried]
  exact completes_of hexec ⟨rfl, s.dev.leaves_lockTried _⟩

theorem foscLock_completes (htries : s.dev.pwr.lockFails < 3) (hvbus : s.dev.usb.vbus = false) : Completes .foscLock s fun t =>
    t.flag SYS_CLK_LOCKED = true ∧ t.flag SYS_CLK_FOSC_ON = true ∧ s.dev.leaves t [SYS_CLK] := by
  have hexec : exec .foscLock s = s.run fun d => (d.setFlag SYS_CLK_LOCKED true).followReference.usbTry := by
    show execFoscLock s = _
    simp [execFoscLock, hon, hfree, htries]
  refine completes_of hexec ?_
  rw [Dev.usbTry_of_no_vbus (d := (s.dev.setFlag _ _).followReference) hvbus,
    Dev.followReference_flag _ (by decide), Dev.followReference_flag _ (by decide)]
  exact ⟨Dev.flag_setFlag_same _ _ _ (by decide) (by decide),
    (Dev.flag_setFlag_apart _ _ (by decide) (by decide)).trans hon,
    leaves_setFld (leaves_setFlag (s.dev.leaves_refl _) (by decide)) (by decide)⟩

end

/-- The lock is gone, and its attempts are counted anew (R123). -/
def Dev.lockGone (d : Dev) : Dev := ((d.setPwr { d.pwr with lockFails := 0 }).setFlag SYS_CLK_LOCKED false).followReference

theorem Dev.leaves_lockGone (d : Dev) : d.leaves d.lockGone [SYS_CLK] :=
  leaves_setFld (leaves_setFlag (leaves_of (d.leaves_refl _) rfl rfl rfl rfl) (by decide)) (by decide)

theorem Dev.lockGone_shows (d : Dev) : d.lockGone.flag SYS_CLK_LOCKED = false ∧ d.lockGone.fld SYS_CLK_LOCKREF = 0 := by
  have hlocked : ((d.setPwr { d.pwr with lockFails := 0 }).setFlag SYS_CLK_LOCKED false).flag SYS_CLK_LOCKED = false :=
    Dev.flag_setFlag_same _ _ _ (by decide) (by decide)
  refine ⟨(Dev.followReference_flag _ (by decide)).trans hlocked, ?_⟩
  rw [Dev.lockGone, Dev.followReference, hlocked, Dev.fld_setFld_same _ _ _ (by decide)]
  rfl

theorem foscLockLost_completes (hlocked : s.dev.flag SYS_CLK_LOCKED = true) (husb : s.dev.fld USB_STAT_STATE = 0) :
    Completes .foscLockLost s fun t => t.flag SYS_CLK_LOCKED = false ∧ t.fld SYS_CLK_LOCKREF = 0 ∧ t.pwr.lockFails = 0 ∧
      s.dev.leaves t [SYS_CLK] := by
  have hdetached : s.dev.lockGone.fld USB_STAT_STATE = 0 := by
    rw [Dev.fld, s.dev.leaves_lockGone.1 _ (by decide)]
    exact husb
  have hexec : exec .foscLockLost s = s.run fun d => d.lockGone.usbDetach := by
    show execFoscLockLost s = _
    simp only [execFoscLockLost, State.run_eq, hlocked, Dev.usbState, husb]
    rfl
  obtain ⟨hgone, href⟩ := s.dev.lockGone_shows
  refine completes_of hexec ?_
  rw [Dev.usbDetach_of_detached hdetached]
  exact ⟨hgone, href, rfl, s.dev.leaves_lockGone⟩

/-! VCORE good at step 3 (R127). -/

/-- The registers that traffic and the states of the ports may change. -/
def portRegs : List Nat := linkRegs ++ (List.range 4).map EGL_PSTAT

theorem pstat_mem_portRegs {p : Nat} (hp : p < 4) : EGL_PSTAT p ∈ portRegs := by interval_cases p <;> decide

theorem linked_setPortState (d : Dev) {p : Nat} (hp : p < 4) (st : Nat) : Dev.Linked portRegs d (d.setPortState p st) :=
  linked_trans (linked_setFld _ _ (pstat_mem_portRegs hp)) (linked_setFld _ _ (by decide))

theorem linked_portTrain (d : Dev) {p : Nat} (hp : p < 4) : Dev.Linked portRegs d (d.portTrain p) :=
  linked_trans (linked_setPortState d hp _) (linked_setPort ..)

theorem linked_portsEnable (d : Dev) : Dev.Linked portRegs d d.portsEnable := by
  refine linked_foldl _ _ fun e p hp => ?_
  split
  · exact linked_refl e
  · exact linked_portTrain e (List.mem_range.1 hp)

/-- Step 4 begins with VCORE good and the fast oscillator started, free-running. -/
theorem Dev.beginStep4_begins (d : Dev) : d.beginStep4.pwr.step = 4 ∧ d.beginStep4.pwr.lockFails = 0 ∧
    d.beginStep4.flag SYS_SUPPLY_VCORE_OK = true ∧ d.beginStep4.flag SYS_CLK_FOSC_ON = true ∧
    d.beginStep4.flag SYS_CLK_LOCKED = false := by
  obtain ⟨hon, hlocked, -, hleaves⟩ := (d.setFlag SYS_SUPPLY_VCORE_OK true).foscStart_starts
  have hports := linked_portsEnable (d.setFlag SYS_SUPPLY_VCORE_OK true).foscStart
  have hflag {f : Fld} (hport : f.addr ∉ portRegs) (hring : f.addr ∉ ringRegs) (hboot : f.apart SYS_BOOT_BOOTSRC_IGN = true) :
      d.beginStep4.flag f = (d.setFlag SYS_SUPPLY_VCORE_OK true).foscStart.flag f :=
    (Dev.flag_setFlag_apart _ _ (by decide) hboot).trans (hports.flag hport hring)
  have hvcore : (d.setFlag SYS_SUPPLY_VCORE_OK true).foscStart.flag SYS_SUPPLY_VCORE_OK = true := by
    rw [Dev.flag, Dev.fld, hleaves.1 _ (by decide)]
    exact Dev.flag_setFlag_same d SYS_SUPPLY_VCORE_OK true (by decide) (by decide)
  refine ⟨rfl, hports.keeps (·.pwr.lockFails) fun _ => rfl, ?_, ?_, ?_⟩
  · rw [hflag (by decide) (by decide) (by decide), hvcore]
  · rw [hflag (by decide) (by decide) (by decide), hon]
  · rw [hflag (by decide) (by decide) (by decide), hlocked]

theorem vcoreGood_completes (hstep : s.dev.pwr.step = 3) (hwake : s.dev.modes.waking = false) :
    Completes .vcoreGood s fun t => t.pwr.step = 4 ∧ t.pwr.lockFails = 0 ∧ t.flag SYS_SUPPLY_VCORE_OK = true ∧
      t.flag SYS_CLK_FOSC_ON = true ∧ t.flag SYS_CLK_LOCKED = false := by
  have hexec : exec .vcoreGood s = s.run Dev.beginStep4 := by
    show execVcoreGood s = _
    simp [execVcoreGood, Dev.vcoreGood, hstep, hwake]
  exact completes_of hexec s.dev.beginStep4_begins

/-- Settles O10: the crystal, the fast oscillator, its lock, and VCORE good, each by its command. -/
theorem clocksStartQualifyAndFail : Obligations.ClocksStartQualifyAndFail := by
  intro s
  obtain ⟨hstart, hruns⟩ := foscRequest_completes (s := s)
  obtain ⟨hbarred, hstop⟩ := foscStop_completes (s := s)
  exact ⟨fun hon hsrc => ⟨xtalQualified_completes hon hsrc, xtalQualifyTimeout_completes hon hsrc⟩, xtalLost_completes,
    hstart, hruns, hbarred, hstop,
    fun hon hfree => ⟨foscLockTimeout_fails hon hfree, foscLockTimeout_retries hon hfree, foscLock_completes hon hfree⟩,
    foscLockLost_completes, vcoreGood_completes⟩

end Sys2Proof.Machine
end

section
/-!
SUPPORT. What the front end, the link, the rails, the lamps, infrared, the calibration and the console leave as it is, whatever
they do: the supplies and the steps of start-up, the EEPROM, the counted time, and whether bank 12 is retained.
-/

namespace Sys2Proof.Machine

variable {d e : Dev}

/-- The supplies and the steps of start-up, but for the count of lock attempts; the EEPROM, the counted value, and whether
bank 12 is retained. -/
def Dev.base (d : Dev) : Power × Cells 8 × Nat × Nat × Bool :=
  ({ d.pwr with lockFails := 0 }, d.nvm, d.time.sec, d.time.frac, d.modes.retained)

theorem base_step (h : e.base = d.base) : e.pwr.step = d.pwr.step := (congrArg (fun b => b.1.step) h :)

theorem base_coreRestart (h : e.base = d.base) : e.pwr.coreRestart = d.pwr.coreRestart :=
  (congrArg (fun b => b.1.coreRestart) h :)

theorem base_nvm (h : e.base = d.base) : e.nvm = d.nvm := (congrArg (fun b => b.2.1) h :)

theorem base_value (h : e.base = d.base) : e.time.sec = d.time.sec ∧ e.time.frac = d.time.frac :=
  ⟨(congrArg (fun b => b.2.2.1) h :), (congrArg (fun b => b.2.2.2.1) h :)⟩

theorem base_retained (h : e.base = d.base) : e.modes.retained = d.modes.retained := (congrArg (fun b => b.2.2.2.2) h :)

/-! The shared operations. -/

theorem base_near (h : d.Near e) : e.base = d.base := by
  obtain ⟨-, -, hquiet⟩ := h
  exact (congrArg Dev.base hquiet :)

theorem base_linked {as : List Nat} (h : Dev.Linked as d e) : e.base = d.base := h.keeps Dev.base fun _ => rfl

theorem base_ite {c : Prop} [Decidable c] {a b x : Dev} (ha : a.base = x.base) (hb : b.base = x.base) :
    (if c then a else b).base = x.base := by
  split
  · exact ha
  · exact hb

@[simp] theorem Dev.base_setReg (d : Dev) (a : Nat) (w : Word) : (d.setReg a w).base = d.base := rfl
@[simp] theorem Dev.base_draw (d : Dev) (n : Nat) : (d.draw n).2.base = d.base := rfl
@[simp] theorem Dev.base_send (d : Dev) (kind dest : Nat) (ws : List Word) : (d.send kind dest ws).base = d.base := rfl
@[simp] theorem Dev.base_setPort (d : Dev) (p : Nat) (x : Port) : (d.setPort p x).base = d.base := rfl

theorem Dev.base_setModes (d : Dev) {m : Modes} (h : m.retained = d.modes.retained) : (d.setModes m).base = d.base := by
  simp only [Dev.base, Dev.setModes, h]

@[simp] theorem Dev.base_markPending (d : Dev) (m : Option Nat) : (d.markPending m).base = d.base := by cases m <;> rfl

@[simp] theorem Dev.base_ring (d : Dev) (src : Nat) (w1 w2 : Word) : (d.ring src w1 w2).base = d.base :=
  base_near (near_ring (.rfl d))

@[simp] theorem Dev.base_ringPair (d : Dev) (a1 a2 b1 b2 : Word) : (d.ringPair a1 a2 b1 b2).base = d.base :=
  base_near (near_ringPair ..)

@[simp] theorem Dev.base_logEvent (d : Dev) (src : Nat) (w1 w2 : Word) : (d.logEvent src w1 w2).base = d.base :=
  base_near (near_logEvent (.rfl d))

@[simp] theorem Dev.base_print (d : Dev) (l : OutLine) : (d.print l).base = d.base := base_near (near_print (.rfl d))

@[simp] theorem Dev.base_statusLine (d : Dev) (l : OutLine) : (d.statusLine l).base = d.base := by simp [Dev.statusLine]

@[simp] theorem Dev.base_issueOps (d : Dev) : d.issueOps.base = d.base := base_linked (linked_issueOps d)

@[simp] theorem Dev.base_judgeGate (d : Dev) : d.judgeGate.base = d.base := base_linked (linked_judgeGate d)

/-! Contacts, gestures and their reports. -/

theorem Dev.base_cancelNow_standalone (d : Dev) (n : Nat) (owed : List HidContact) (cs : List Report) :
    ((d.hidOwe owed).inGroup n fun d => cs.foldl Dev.contactRecord d).base = d.base := by
  have hcompact (x : Dev) (r : Report) : (x.compact r).base = x.base := by
    unfold Dev.compact
    exact base_ite (x.base_ring ..) (x.base_ring ..)
  have hrecord (x : Dev) (r : Report) : (x.contactRecord r).base = x.base := by
    unfold Dev.contactRecord
    split
    · exact hcompact x r
    · exact x.base_ringPair ..
    · exact (Dev.base_ringPair ..).trans (hcompact x r)
  exact foldl_keeps Dev.base cs { d.hidOwe owed with evr := { d.evr with group := some n } } fun x r _ => hrecord x r

theorem Dev.base_applyEntry (d : Dev) (xy n : Nat) (r : Report) : (d.applyEntry xy n r).base = d.base := by
  unfold Dev.applyEntry
  extract_lets mine
  split
  · split <;> rfl
  · split
    · unfold Dev.cancelSurf
      split <;> rfl
    · rfl
    · rfl
    · rfl

theorem Dev.base_sendCancels (d : Dev) : d.sendCancels.base = d.base :=
  foldl_keeps Dev.base _ _ fun x _ _ => x.base_ringPair ..

theorem Dev.base_gather (d : Dev) (xy n : Nat) (flags : Word) (reps : List Report) (gs : List (Word × Word)) :
    (d.gather xy n flags reps gs).base = d.base := by
  have hentries : (reps.foldl (fun d r => d.applyEntry xy n r) d).base = d.base :=
    foldl_keeps Dev.base _ _ fun x r _ => x.base_applyEntry xy n r
  have hcancels (x : Dev) : x.flushCancels.base = x.base := base_ite (Dev.base_sendCancels _) rfl
  have hgestures (x : Dev) : x.flushGestures.base = x.base := foldl_keeps Dev.base _ _ fun y _ _ => y.base_ring ..
  unfold Dev.gather
  simp only
  split
  · exact hentries
  · split
    · exact (hgestures _).trans ((hcancels _).trans hentries)
    · exact hentries

theorem Dev.base_sendContacts (d : Dev) (n : Nat) (flags : Word) (reps : List Report) (gs : List (Word × Word)) :
    (d.sendContacts n flags reps gs).base = d.base := base_ite (d.base_gather ..) (Dev.base_issueOps _)

@[simp] theorem Dev.base_cancelNow (d : Dev) (reason : Nat) : (d.cancelNow reason).base = d.base := by
  unfold Dev.cancelNow
  extract_lets x cs _ y
  have hy : y.base = d.base := rfl
  split
  · exact base_ite (x := d) rfl (Dev.base_sendContacts ..)
  · exact (y.base_cancelNow_standalone ..).trans hy

/-! The front end. -/

theorem Dev.base_renewChannels (d : Dev) (f : FrameInfo) : (d.renewChannels f).base = d.base := by
  unfold Dev.renewChannels
  split
  · rfl
  · exact Dev.base_ring ..

theorem Dev.base_dropFrames (d : Dev) : d.dropFrames.base = d.base := by
  unfold Dev.dropFrames
  extract_lets frames x y z
  have hx : x.base = d.base := foldl_keeps Dev.base _ _ fun _ _ _ => rfl
  have hy : y.base = d.base := by
    unfold y
    split
    · exact hx
    · exact hx
  exact (foldl_keeps Dev.base _ _ fun w f _ => w.base_renewChannels f).trans hy

@[simp] theorem Dev.base_scanStop (d : Dev) (reason : Nat) : (d.scanStop reason).base = d.base :=
  base_ite ((Dev.base_ring ..).trans d.base_dropFrames) rfl

@[simp] theorem Dev.base_scanStart (d : Dev) (reason : Nat) : (d.scanStart reason).base = d.base :=
  base_ite rfl (Dev.base_ring ..)

/-! Lamps and rails. -/

@[simp] theorem Dev.base_lampsOff (d : Dev) : d.lampsOff.base = d.base := rfl

theorem Dev.base_lampsWatch (d : Dev) : d.lampsWatch.base = d.base := base_ite rfl rfl

@[simp] theorem Dev.base_lampsStartup (d : Dev) : d.lampsStartup.base = d.base :=
  foldl_keeps Dev.base _ _ fun _ _ _ => base_ite (Dev.base_ring ..) rfl

theorem Dev.base_supersedeVled (d : Dev) : d.supersedeVled.base = d.base := by
  unfold Dev.supersedeVled
  split <;> rfl

theorem Dev.base_supersedeVtx (d : Dev) : d.supersedeVtx.base = d.base := by
  unfold Dev.supersedeVtx
  split <;> rfl

theorem Dev.base_railsOff (d : Dev) : d.railsOff.base = d.base :=
  (d.supersedeVled.base_supersedeVtx).trans d.base_supersedeVled

theorem Dev.base_railsWatch (d : Dev) : d.railsWatch.base = d.base := by
  have hvled (x : Dev) (mv : Nat) : (x.supersedeVled.setVledTgt mv).base = x.base :=
    (base_ite (x := x.supersedeVled) rfl rfl : (x.supersedeVled.setVledTgt mv).base = _).trans x.base_supersedeVled
  unfold Dev.railsWatch
  split
  · extract_lets x
    have hx : x.base = d.base := base_ite rfl d.base_supersedeVtx
    exact (base_ite (x := x) rfl (hvled x 8000)).trans hx
  · rfl

/-! Infrared. -/

theorem Dev.base_irKey (d : Dev) (kind : Nat) (k : HeldKey) (code : Nat) : (d.irKey kind k code).base = d.base :=
  Dev.base_ring ..

@[simp] theorem Dev.base_irRelease (d : Dev) : d.irRelease.base = d.base := by
  unfold Dev.irRelease
  split
  · rfl
  · exact Dev.base_irKey ..

theorem Dev.base_rxStop (d : Dev) : d.rxStop.base = d.base := d.base_irRelease

theorem Dev.base_irLoopReport (d : Dev) (ws : List Word) : (d.irLoopReport ws).base = d.base :=
  base_ite ((Dev.base_statusLine ..).trans (Dev.base_print ..)) rfl

@[simp] theorem Dev.base_txStop (d : Dev) : d.txStop.base = d.base := by
  unfold Dev.txStop Dev.txFinish
  split
  · rfl
  · exact base_ite (Dev.base_ring ..) ((Dev.base_irLoopReport ..).trans (Dev.base_ring ..))

theorem Dev.base_sendMode (d : Dev) (mode apply : Nat) : (d.sendMode mode apply).base = d.base :=
  foldl_keeps Dev.base d.joinedTiles d fun _ _ _ => rfl

theorem Dev.base_placeMode (d : Dev) (mode reason : Nat) (apply : Option Nat) :
    (d.placeMode mode reason apply).base = d.base := by
  unfold Dev.placeMode
  simp only
  split <;> rfl

theorem Dev.base_requestMode (d : Dev) (mode reason : Nat) : (d.requestMode mode reason).base = d.base := by
  have hask : (d.askMode mode reason).base = d.base :=
    base_ite ((Dev.base_markPending ..).trans ((Dev.base_placeMode ..).trans (d.base_sendMode ..)))
      ((Dev.base_markPending ..).trans (d.base_placeMode ..))
  have hhold : (d.holdMode mode reason).base = d.base := by
    unfold Dev.holdMode
    split
    · rfl
    · split <;> rfl
    · rfl
  exact base_ite (d.base_ring ..) (base_ite hhold (base_ite rfl hask))

theorem Dev.base_irPress (d : Dev) (tpl code toggle : Nat) : (d.irPress tpl code toggle).base = d.base := by
  unfold Dev.irPress
  extract_lets x
  split
  extract_lets k y
  have hy : y.base = d.base := (Dev.base_irKey ..).trans d.base_irRelease
  exact (base_ite (x := y) (y.base_requestMode ..) rfl).trans hy

theorem Dev.base_irComplete (d : Dev) (i : Nat) (c : Option Nat) (t : IrTpl) : (d.irComplete i c t).base = d.base := by
  have hrepeat (x : Dev) (k : HeldKey) : (x.irRepeat k).base = x.base := Dev.base_irKey ..
  unfold Dev.irComplete
  extract_lets x
  split
  · split
    · exact base_ite (hrepeat x _) rfl
    · rfl
  · extract_lets y toggle key
    split
    · exact base_ite (hrepeat y _) (y.base_irPress ..)
    · exact y.base_irPress ..

theorem Dev.base_irRaw (d : Dev) (ds : List (Nat × Bool)) : (d.irRaw ds).base = d.base := by
  unfold Dev.irRaw
  extract_lets x
  have hx : x.base = d.base := base_ite (x := d) rfl rfl
  refine (base_ite (x := x) rfl (foldl_keeps Dev.base _ _ fun y i _ => ?_)).trans hx
  split
  · exact y.base_setReg ..
  · exact y.base_setReg ..

theorem Dev.base_irJudge (d : Dev) (ds : List (Nat × Bool)) (space : Bool) : (d.irJudge ds space).base = d.base := by
  unfold Dev.irJudge
  split
  · rfl
  · exact (Dev.base_irLoopReport ..).trans ((Dev.base_irComplete ..).trans (Dev.base_irRaw ..))

theorem Dev.base_irEdge (d : Dev) (low : Bool) (us : Nat) (recorded held : Bool) :
    (d.irEdge low us recorded held).base = d.base := by
  have hglitch : d.irGlitch.base = d.base := by
    unfold Dev.irGlitch
    simp only
    exact base_ite (Dev.base_ring ..) rfl
  have htimer : d.irTimer.base = d.base := base_ite rfl rfl
  have hmark (x : Dev) : (x.irMark us recorded).base = x.base := by
    unfold Dev.irMark
    split
    · rfl
    · exact base_ite rfl rfl
  have hspace (x : Dev) : (x.irSpace us recorded).base = x.base := by
    unfold Dev.irSpace
    split
    · rfl
    · exact Dev.base_irJudge ..
  unfold Dev.irEdge
  exact base_ite (base_ite rfl rfl) (base_ite rfl (base_ite hglitch
    (base_ite ((hmark _).trans htimer) ((hspace _).trans htimer))))

@[simp] theorem Dev.base_irRecorded (d : Dev) : d.irRecorded.base = d.base := by
  unfold Dev.irRecorded
  extract_lets es _ x
  have hx : x.base = d.base := base_ite rfl rfl
  exact (foldl_keeps Dev.base es { x with modes := { x.modes with irEdges := [] } } fun y p _ => y.base_irEdge ..).trans hx

/-! The ports of the link. -/

theorem Dev.base_emptyPort (d : Dev) (p : Nat) : (d.emptyPort p).base = d.base := by
  unfold Dev.emptyPort
  extract_lets q frames x y z w
  have hz : z.base = d.base := base_ite (x := y) rfl rfl
  have hw : w.base = z.base := foldl_keeps Dev.base _ _ fun v f _ => base_linked (linked_routePacket v f.1 f.2)
  exact hw.trans hz

theorem Dev.base_setPortState (d : Dev) (p st : Nat) : (d.setPortState p st).base = d.base := rfl

theorem Dev.base_portsOff (d : Dev) : d.portsOff.base = d.base := by
  unfold Dev.portsOff
  generalize List.range 4 = ports
  refine foldl_keeps Dev.base ports d fun e p _ => ?_
  rw [Dev.base_setPortState, Dev.base_emptyPort, Dev.base_setPort]

theorem Dev.base_portsWatch (d : Dev) : d.portsWatch.base = d.base := by
  unfold Dev.portsWatch
  generalize List.range 4 = ports
  refine foldl_keeps Dev.base ports d fun e p _ => ?_
  split
  · rfl
  · rw [Dev.base_setPort, Dev.base_setPortState, Dev.base_emptyPort, Dev.base_setPort]

@[simp] theorem Dev.base_sendJoin (d : Dev) : d.sendJoin.base = d.base :=
  base_ite rfl (base_ite rfl (Dev.base_issueOps _))

/-! Calibration. -/

theorem Dev.base_tenths (d : Dev) (t : Int) : (d.tenths t).2.base = d.base := by
  by_cases h : t % 100 = 0
  · simp [Dev.tenths, h]
  · simp [Dev.tenths, h]

theorem Dev.base_runBegin (d : Dev) (full : Bool) : (d.runBegin full).base = d.base :=
  (Dev.base_tenths (d.tenths d.hka.t0).2 _).trans (d.base_tenths _)

theorem Dev.base_fullRun (d : Dev) (trigger : Nat) : (d.fullRun trigger).base = d.base := Dev.base_runBegin ..

@[simp] theorem Dev.base_calService (d : Dev) : d.calService.base = d.base := base_ite (d.base_fullRun _) rfl

theorem Dev.base_calTrigger (d : Dev) (trigger : Nat) : (d.calTrigger trigger).base = d.base :=
  base_ite (base_ite (d.base_fullRun _) rfl) (base_ite rfl rfl)

theorem Dev.base_calJudge (d : Dev) (ch : Option Nat) : (d.calJudge ch).base = d.base := by
  unfold Dev.calJudge
  refine base_ite ?_ rfl
  extract_lets trigger due _ x
  have hx : x.base = d.base := base_ite (x := d) rfl rfl
  exact (base_ite (x := x) (x.base_calTrigger _) rfl).trans hx

theorem Dev.base_runEnd (d : Dev) : d.runEnd.base = d.base := by
  unfold Dev.runEnd
  refine base_ite ?_ rfl
  extract_lets trigger slices t0 t1 x y again _ z w
  have hw : w.base = d.base := z.base_ring ..
  cases again with
  | some n => exact (w.base_calTrigger n).trans hw
  | none => exact (w.base_calJudge _).trans hw

theorem Dev.base_calAbandon (d : Dev) : d.calAbandon.base = d.base := base_ite rfl rfl

theorem Dev.base_calSafe (d : Dev) : d.calSafe.base = d.base := base_ite d.base_calAbandon d.base_calAbandon

/-! Modes (R75, R164, R166, R199). -/

theorem Dev.base_recordMode (d : Dev) (new prev reason apply : Nat) : (d.recordMode new prev reason apply).base = d.base := by
  unfold Dev.recordMode
  extract_lets w1 _ x y
  have hy : y.base = d.base := base_ite (x := d) (x.base_logEvent ..) rfl
  exact (y.base_ring ..).trans hy

@[simp] theorem Dev.base_setMode (d : Dev) (new reason apply : Nat) : (d.setMode new reason apply).base = d.base :=
  Dev.base_recordMode ..

theorem Dev.base_discardModes (d : Dev) (report : Bool) : (d.discardModes report).base = d.base := by
  unfold Dev.discardModes
  extract_lets had _ x
  have hx : x.base = d.base := Dev.base_markPending ..
  cases had with
  | some r => exact (base_ite (x := x) (x.base_recordMode ..) rfl).trans hx
  | none => exact hx

@[simp] theorem Dev.base_enterService (d : Dev) (entry : Nat) : (d.enterService entry).base = d.base :=
  (Dev.base_judgeGate _).trans ((Dev.base_ring ..).trans ((Dev.base_txStop _).trans (Dev.base_scanStop ..)))

@[simp] theorem Dev.base_enterWatch (d : Dev) : d.enterWatch.base = d.base :=
  (Dev.base_portsWatch _).trans ((Dev.base_railsWatch _).trans ((Dev.base_lampsWatch _).trans
    ((Dev.base_dropFrames _).trans (d.base_cancelNow 6))))

@[simp] theorem Dev.base_sendBanner (d : Dev) : d.sendBanner.base = d.base := by
  unfold Dev.sendBanner
  extract_lets x y
  have hy : y.base = d.base := (base_ite (x := x) (x.base_print _) rfl).trans (d.base_print _)
  exact (y.base_print _).trans hy

end Sys2Proof.Machine
end

section
/-!
SUPPORT. The entry into SAFE and the last step of start-up: the mode they show, the steps, and the EEPROM (R129, R158, R166).
-/

namespace Sys2Proof.Machine

variable {s : State} {d e : Dev}

/-! What a mode change shows (R199, R201). -/

theorem Dev.reg_recordMode (d : Dev) (new prev reason apply : Nat) {a : Nat} (h : a ∉ ringRegs) :
    (d.recordMode new prev reason apply).reg a = d.reg a := by
  unfold Dev.recordMode
  extract_lets w1 _ x y
  have hy : y.reg a = d.reg a := by
    unfold y
    split
    · exact (near_logEvent (.rfl x)).1 a h
    · rfl
  exact (Dev.ring_reg h ..).trans hy

theorem Dev.mode_setMode (d : Dev) {new : Nat} (h : new < 8) (reason apply : Nat) :
    (d.setMode new reason apply).mode = new := by
  rw [Dev.mode, Dev.fld, Dev.setMode, Dev.reg_recordMode _ _ _ _ _ (by decide)]
  refine (Dev.fld_setFld_apart (f := PWR_STAT_MODE) _ _ (by decide) (by decide)).trans ?_
  rw [Dev.fld_setFld_same _ _ _ (by decide)]
  exact Nat.mod_eq_of_lt h

theorem Dev.safeCause_setMode (d : Dev) (new reason apply : Nat) :
    (d.setMode new reason apply).fld PWR_STAT_SAFE_CAUSE = d.fld PWR_STAT_SAFE_CAUSE := by
  rw [Dev.fld, Dev.setMode, Dev.reg_recordMode _ _ _ _ _ (by decide)]
  exact (Dev.fld_setFld_apart (f := PWR_STAT_SAFE_CAUSE) _ _ (by decide) (by decide)).trans
    ((Dev.fld_setFld_apart _ _ (by decide) (by decide)).trans (Dev.fld_setFld_apart _ _ (by decide) (by decide)))

/-! SAFE (R74, R166, R529). -/

/-- The tile is in SAFE with a cause. -/
def Dev.InSafe (d : Dev) (cause : Nat) : Prop := d.mode = modeSafe ∧ d.fld PWR_STAT_SAFE_CAUSE = cause

/-- PWR_STAT shows whether the tile is in SAFE, and why. -/
theorem inSafe_of_pwrStat {cause : Nat} (hsafe : d.InSafe cause) (h : e.reg PWR_STAT = d.reg PWR_STAT) : e.InSafe cause := by
  obtain ⟨hmode, hcause⟩ := hsafe
  exact ⟨(congrArg (wGet · 0 3) h).trans hmode, (congrArg (wGet · 8 3) h).trans hcause⟩

theorem Dev.safeSet_keeps (d : Dev) : d.safeSet.reg PWR_STAT = d.reg PWR_STAT ∧ d.safeSet.pwr = d.pwr := by
  unfold Dev.safeSet
  extract_lets x y
  have hx : x.reg PWR_STAT = d.reg PWR_STAT ∧ x.pwr = d.pwr := by
    unfold x
    split
    · rw [Dev.ring_reg (by decide), Dev.ring_pwr]
      exact ⟨Dev.reg_setFld_ne _ _ _ (by decide), rfl⟩
    · exact ⟨rfl, rfl⟩
  have hy : y.reg PWR_STAT = x.reg PWR_STAT ∧ y.pwr = x.pwr := by
    unfold y
    split
    · rw [Dev.openSet, Dev.ring_reg (by decide), Dev.ring_pwr]
      exact ⟨Dev.reg_setFld_ne _ _ _ (by decide), rfl⟩
    · exact ⟨rfl, rfl⟩
  have hgate := linked_judgeGate (y.setFlag SVC_STAT_SAFE_SET (y.fld SVC_STAT_ENTRY != 0))
  refine ⟨?_, ?_⟩
  · exact ((hgate.reg (by decide) (by decide)).trans (Dev.reg_setFld_ne _ _ _ (by decide))).trans (hy.1.trans hx.1)
  · exact (hgate.keeps Dev.pwr fun _ => rfl).trans (hy.2.trans hx.2)

theorem Dev.commitSafe_keeps (d : Dev) : d.commitSafe.reg PWR_STAT = d.reg PWR_STAT ∧ d.commitSafe.pwr = d.pwr := by
  unfold Dev.commitSafe
  extract_lets p x y z
  have hz : z.reg PWR_STAT = d.reg PWR_STAT ∧ z.pwr = d.pwr := by
    unfold z
    split
    · refine ⟨?_, rfl⟩
      show x.reg PWR_STAT = d.reg PWR_STAT
      exact (Dev.reg_bumpBy_ne _ _ _ (by decide)).trans (Dev.reg_setFld_ne _ _ _ (by decide))
    · exact ⟨rfl, rfl⟩
  exact ⟨((Dev.reg_setFld_ne _ _ _ (by decide)).trans (Dev.reg_setFld_ne _ _ _ (by decide))).trans hz.1, hz.2⟩

/-- What SAFE turns off is off, and the mode changes that waited are discarded (R166, R188, R580). -/
def Dev.turnedOff (d : Dev) (cause : Nat) : Dev :=
  let x := (if d.isWorker && d.surf.known then (d.send msgLeave 0 [word cause]).issueOps else d).cancelNow 6
  let y := ({ x with scan := { x.scan with tone := none } }.scanStop 0).lampsOff.railsOff.rxStop.txStop.portsOff.calSafe
  y.discardModes true

theorem Dev.base_turnedOff (d : Dev) (cause : Nat) : (d.turnedOff cause).base = d.base := by
  unfold Dev.turnedOff
  extract_lets x _ y
  have hx : x.base = d.base :=
    (Dev.base_cancelNow ..).trans (base_ite ((Dev.base_issueOps _).trans (d.base_send ..)) rfl)
  simp only [y, Dev.base_discardModes, Dev.base_calSafe, Dev.base_portsOff, Dev.base_txStop, Dev.base_rxStop,
    Dev.base_railsOff, Dev.base_lampsOff, Dev.base_scanStop]
  exact hx

/-- SAFE is shown, with its cause, before the last blocks follow. -/
def Dev.safeShown (d : Dev) (cause : Nat) : Dev :=
  let x := d.setFld PWR_STAT_SAFE_CAUSE cause
  (x.setModes { x.modes with heldCmd := none, hibStep := 0, waking := false }).setMode modeSafe 5 x.time.frame

theorem Dev.safeShown_inSafe (d : Dev) {cause : Nat} (h : cause < 8) : (d.safeShown cause).InSafe cause := by
  refine ⟨Dev.mode_setMode _ (by decide) .., (Dev.safeCause_setMode ..).trans ?_⟩
  exact (d.fld_setFld_same PWR_STAT_SAFE_CAUSE cause (by decide)).trans (Nat.mod_eq_of_lt h)

theorem Dev.base_safeShown (d : Dev) (cause : Nat) : (d.safeShown cause).base = d.base :=
  (Dev.base_setMode ..).trans (Dev.base_setModes (d.setFld PWR_STAT_SAFE_CAUSE cause) rfl)

theorem Dev.enterSafe_eq (h : d.mode ≠ modeSafe) (cause : Nat) : d.enterSafe cause =
    let x := ((d.turnedOff cause).safeShown cause).safeSet
    { x with pwr := { x.pwr with step := 8 } }.commitSafe := by
  simp only [Dev.enterSafe, if_neg h, Dev.turnedOff, Dev.safeShown]

/-- The entry into SAFE from another mode; a core restart that has ended stays so. -/
theorem Dev.enterSafe_enters (h : d.mode ≠ modeSafe) {cause : Nat} (hcause : cause < 8) :
    (d.enterSafe cause).InSafe cause ∧ (d.enterSafe cause).pwr.coreRestart = d.pwr.coreRestart := by
  have hbase : ((d.turnedOff cause).safeShown cause).base = d.base := (Dev.base_safeShown ..).trans (d.base_turnedOff cause)
  obtain ⟨hset, hpwr⟩ := ((d.turnedOff cause).safeShown cause).safeSet_keeps
  rw [Dev.enterSafe_eq h]
  refine ⟨inSafe_of_pwrStat ((d.turnedOff cause).safeShown_inSafe hcause) ((Dev.commitSafe_keeps _).1.trans hset), ?_⟩
  rw [(Dev.commitSafe_keeps _).2, ← base_coreRestart hbase, ← hpwr]

/-! The end of a core restart (R112, R113, R193). -/

theorem near_acceptAts {α : Type} (xs : List α) (at_ : α → Stamp) (src : α → Nat) (w1 w2 : α → Word) (d : Dev) :
    d.Near (xs.foldl (fun d x => d.acceptAt (at_ x) (src x) (w1 x) (w2 x) none none) d) := by
  induction xs generalizing d with
  | nil => exact .rfl d
  | cons x xs ih => exact (near_acceptAt (.rfl d)).trans (ih _)

/-- The router's start changes the step and what the events that waited for it may change. -/
theorem Dev.routerStart_keeps (d : Dev) (step : Nat) : (d.routerStart step).mode = d.mode ∧
    (d.routerStart step).pwr = { d.pwr with step := step } := by
  obtain ⟨hregs, -, hquiet⟩ := near_acceptAts d.evr.deferred (fun e => (e.epoch, e.sec, e.frac)) (·.src) (·.w1) (·.w2)
    { d.setPwr { d.pwr with step := step } with evr := { d.evr with deferred := [] } }
  exact ⟨congrArg (wGet · 0 3) (hregs PWR_STAT (by decide)), (congrArg Dev.pwr hquiet :)⟩

theorem Dev.reg_sendBanner (d : Dev) {a : Nat} (h : a ∉ ringRegs) : d.sendBanner.reg a = d.reg a := by
  unfold Dev.sendBanner
  extract_lets x y
  have hx : d.Near x := near_print (.rfl d)
  have hy : d.Near y := by
    unfold y
    split
    · exact near_print hx
    · exact hx
  exact (near_print hy).1 a h

/-- A start-up that ends in SAFE. -/
theorem Dev.bootSafe_enters (h : d.mode ≠ modeSafe) {cause : Nat} (hcause : cause < 8) :
    (d.bootSafe cause).InSafe cause ∧ (d.bootSafe cause).pwr.coreRestart = d.pwr.coreRestart := by
  unfold Dev.bootSafe
  extract_lets woke x y _ z
  have hx : x.mode ≠ modeSafe ∧ x.pwr.coreRestart = d.pwr.coreRestart := by
    unfold x
    split
    · obtain ⟨hmode, hpwr⟩ := d.routerStart_keeps 5
      rw [hmode, hpwr]
      exact ⟨h, rfl⟩
    · exact ⟨h, rfl⟩
  obtain ⟨hsafe, hrestart⟩ := Dev.enterSafe_enters hx.1 hcause
  refine ⟨inSafe_of_pwrStat hsafe ?_, ?_⟩
  · rw [Dev.reg_sendBanner _ (by decide)]
    split
    · rfl
    · exact Dev.ring_reg (by decide) ..
  · rw [base_coreRestart (Dev.base_sendBanner _), ← hx.2, ← hrestart]
    split
    · rfl
    · exact base_coreRestart (Dev.base_ring z ..)

/-- A bank changes its owner: no register below MEM_OWN is written. -/
theorem Dev.reg_setOwner (d : Dev) (bank code : Nat) {a : Nat} (h : a < MEM_OWN 0) :
    (d.setOwner bank code).reg a = d.reg a := by
  have hne : a ≠ MEM_OWN bank := fun heq => by simp only [heq, MEM_OWN] at h; omega
  exact (Dev.reg_setFld_ne (f := MEM_OWN_PEND bank) _ _ hne).trans (Dev.reg_setFld_ne _ _ _ hne)

theorem Dev.dropScrap_keeps (d : Dev) : d.dropScrap.pwr = d.pwr ∧ d.dropScrap.evr = d.evr ∧ d.dropScrap.ir = d.ir ∧
    ∀ a, a < MEM_OWN 0 → d.dropScrap.reg a = d.reg a := by
  unfold Dev.dropScrap
  split
  · exact ⟨rfl, rfl, rfl, fun _ _ => rfl⟩
  · exact ⟨foldl_keeps Dev.pwr _ _ fun _ _ _ => rfl, foldl_keeps Dev.evr _ _ fun _ _ _ => rfl,
      foldl_keeps Dev.ir _ _ fun _ _ _ => rfl, fun a ha => foldl_keeps (·.reg a) _ _ fun x f _ => x.reg_setOwner _ _ ha⟩

/-- The cores run again (R112). -/
def Dev.coresRun (d : Dev) : Dev := { d with
  pwr := { d.pwr with coreRestart := false }
  evr := { d.evr with cores := d.evr.cores.map fun c => { c with restarting := false } } }

/-- What the cores' return leaves before the recent restarts are counted: the frames that began without them are dropped, the
reset is reported, and a held key is released (R112, R798). -/
def Dev.restartReported (d : Dev) : Dev := d.coresRun.dropScrap.reportReset.irRelease

theorem Dev.coreRestartEnd_eq (h : d.pwr.coreRestart = true) : d.coreRestartEnd =
    if d.restartReported.fld SYS_RSTCAUSE_WDRECENT < 3 then d.restartReported
    else if d.restartReported.pwr.step < 8 then d.restartReported.bootSafe 4 else d.restartReported.enterSafe 4 := by
  unfold Dev.coreRestartEnd
  rw [if_pos h]
  rfl

theorem Dev.irRelease_of_none (h : d.ir.held = none) : d.irRelease = d := by
  unfold Dev.irRelease
  rw [h]

theorem Dev.reg_irRelease (d : Dev) {a : Nat} (h : a ≠ IRX_STAT) (hring : a ∉ ringRegs) : d.irRelease.reg a = d.reg a := by
  unfold Dev.irRelease
  split
  · rfl
  · rw [Dev.irKey, Dev.ring_reg hring]
    exact (Dev.reg_setFld_ne _ _ _ h).trans (Dev.reg_setFld_ne _ _ _ h)

theorem Dev.restartReported_fld (d : Dev) {f : Fld} (h : f.addr < MEM_OWN 0) (hir : f.addr ≠ IRX_STAT)
    (hring : f.addr ∉ ringRegs) : d.restartReported.fld f = d.fld f := by
  obtain ⟨-, -, -, hregs⟩ := d.coresRun.dropScrap_keeps
  rw [Dev.fld, Dev.restartReported, Dev.reg_irRelease _ hir hring, Dev.reportReset, Dev.ring_reg hring, hregs _ h]
  rfl

theorem coreRestartEnd_resumes (hrestart : s.dev.pwr.coreRestart = true) (hrecent : s.dev.fld SYS_RSTCAUSE_WDRECENT < 3)
    (hkey : s.dev.ir.held = none) : Completes .coreRestartEnd s fun t => ∃ e : Dev,
      e.pwr = { s.dev.pwr with coreRestart := false } ∧ e.evr.h0 = s.dev.evr.h0 ∧
      e.evr.cores = s.dev.evr.cores.map (fun c => { c with restarting := false }) ∧
      t = e.ring 6 e.causeWord (s.dev.reg SYS_RSTCNT) := by
  obtain ⟨hpwr, hevr, hir, hregs⟩ := s.dev.coresRun.dropScrap_keeps
  have hrelease : s.dev.restartReported = s.dev.coresRun.dropScrap.reportReset := by
    refine Dev.irRelease_of_none ?_
    rw [Dev.reportReset, Dev.ring_ir]
    exact (congrArg Infrared.held hir).trans hkey
  refine completes_of (f := Dev.coreRestartEnd) rfl
    ⟨s.dev.coresRun.dropScrap, hpwr, congrArg (·.h0) hevr, congrArg (·.cores) hevr, ?_⟩
  rw [Dev.coreRestartEnd_eq hrestart,
    if_pos (by rwa [Dev.restartReported_fld _ (by decide) (by decide) (by decide)]), hrelease, Dev.reportReset]
  exact congrArg _ (hregs _ (by decide))

theorem coreRestartEnd_safe (hrestart : s.dev.pwr.coreRestart = true) (hrecent : 3 ≤ s.dev.fld SYS_RSTCAUSE_WDRECENT)
    (hmode : s.dev.mode ≠ modeSafe) : Completes .coreRestartEnd s fun t =>
      t.pwr.coreRestart = false ∧ t.mode = modeSafe ∧ t.fld PWR_STAT_SAFE_CAUSE = 4 := by
  have hawake : s.dev.restartReported.mode ≠ modeSafe := by
    rwa [Dev.mode, Dev.restartReported_fld _ (by decide) (by decide) (by decide)]
  have hdone : s.dev.restartReported.pwr.coreRestart = false := by
    obtain ⟨hpwr, -⟩ := s.dev.coresRun.dropScrap_keeps
    exact (base_coreRestart ((Dev.base_irRelease _).trans (Dev.base_ring ..))).trans (congrArg Power.coreRestart hpwr)
  refine completes_of (f := Dev.coreRestartEnd) rfl ?_
  rw [Dev.coreRestartEnd_eq hrestart,
    if_neg (by rw [Dev.restartReported_fld _ (by decide) (by decide) (by decide)]; omega)]
  split
  · obtain ⟨⟨hsafe, hcause⟩, hkept⟩ := Dev.bootSafe_enters hawake (cause := 4) (by decide)
    exact ⟨hkept.trans hdone, hsafe, hcause⟩
  · obtain ⟨⟨hsafe, hcause⟩, hkept⟩ := Dev.enterSafe_enters hawake (cause := 4) (by decide)
    exact ⟨hkept.trans hdone, hsafe, hcause⟩

/-! The end of the first full run (R129, R864). -/

/-- The first mode leaves the steps of start-up. -/
theorem Dev.base_initialMode (d : Dev) : d.initialMode.base = d.base := by
  unfold Dev.initialMode
  extract_lets mode x y
  have hx : x.base = d.base := base_ite (d.base_enterService 1) (base_ite d.base_enterWatch rfl)
  have hy : y.base = d.base := (Dev.base_calService _).trans ((Dev.base_setMode ..).trans hx)
  exact (base_ite (x := y) (y.base_ring ..) (base_ite (y.base_scanStart 0) rfl)).trans hy

/-- Step 7 ends start-up: step 8, and the EEPROM as it was. -/
theorem Dev.enterStep7_ends (d : Dev) : d.enterStep7.pwr.step = 8 ∧ d.enterStep7.nvm = d.nvm := by
  have hbase : d.enterStep7.base = (d.setPwr { d.pwr with step := 8 }).base := by
    unfold Dev.enterStep7
    extract_lets woke _ a _ b c _ x y _ z w
    have hb : b.base = a.base := Dev.base_setModes a rfl
    have hc : c.base = b.base := base_ite (x := b) rfl b.base_lampsStartup
    have hx : x.base = c.base := base_ite (x := c) rfl rfl
    have hy : y.base = x.base := x.base_initialMode
    have hz : z.base = y.base := by
      clear_value y
      exact Dev.base_setModes y rfl
    have hw : w.base = z.base := (Dev.base_irRecorded _).trans (base_ite (z.base_ring ..) (z.base_ring ..))
    calc w.sendBanner.sendJoin.base = w.base := (Dev.base_sendJoin _).trans w.base_sendBanner
      _ = y.base := hw.trans hz
      _ = x.base := hy
      _ = a.base := hx.trans (hc.trans hb)
  exact ⟨(base_step hbase :), (base_nvm hbase :)⟩

/-- A full run that ends with no measurement given leaves the steps of start-up. -/
theorem Dev.base_endFullRun (d : Dev) : (d.endFullRun []).base = d.base := Dev.base_runEnd _

theorem fullRun_ends (hstep : s.dev.pwr.step = 6) (hruns : s.dev.fullRuns = true) :
    Completes (.startupCalibrationEnd []) s (fun t => t.pwr.step = 8 ∧ t.nvm = s.dev.nvm) ∧
    Completes (.fullRunTimeout []) s (fun t => t.pwr.step = 8 ∧ t.nvm = s.dev.nvm) := by
  refine ⟨?_, ?_⟩
  · have hbase := s.dev.base_endFullRun
    have hexec : exec (.startupCalibrationEnd []) s = s.run fun d => (d.endFullRun []).enterStep7 := by
      show execStartupCalibrationEnd [] s = _
      simp only [execStartupCalibrationEnd, State.run_eq, hruns, if_true, Dev.afterFullRun, base_step hbase, hstep]
    obtain ⟨hlast, hnvm⟩ := (s.dev.endFullRun []).enterStep7_ends
    exact completes_of hexec ⟨hlast, hnvm.trans (base_nvm hbase)⟩
  · have hexec : exec (.fullRunTimeout []) s = s.run fun d => (d.setFld CAL_STAT_STATE calSliced).enterStep7 := by
      show execFullRunTimeout [] s = _
      simp only [execFullRunTimeout, State.run_eq, hruns, hstep, and_self, if_true]
      rfl
    exact completes_of hexec (Dev.enterStep7_ends _)

end Sys2Proof.Machine
end

section
/-!
SUPPORT. Images served over the link (R147, R148, R547), and references that become ready (R837).
-/

namespace Sys2Proof.Machine

variable {s : State} {d e : Dev}

/-! Images (R147, R148, R547). -/

/-- A tile that asks for its image is heard, and is no longer served. -/
def Dev.imgAsked (d : Dev) (xy : Nat) : Dev :=
  let x := d.noteTile xy
  x.setSurf { x.surf with imgServing := x.surf.imgServing.filter (· != xy) }

/-- A tile takes its place behind those that wait for the image. -/
def Dev.imgQueued (d : Dev) (xy : Nat) : Dev :=
  let x := d.noteLoading xy tileLoading
  x.setSurf { x.surf with imgWaiting := x.surf.imgWaiting ++ [xy] }

/-- What the manager does for a tile that has asked. -/
def Dev.imgAnswered (d : Dev) (xy : Nat) : Dev :=
  if d.boot.image.isEmpty ∨ d.surf.imgWaiting.contains xy then d
  else if d.surf.imgServing.length < 16 then d.serveImage xy else d.imgQueued xy

theorem Dev.imgReqMsg_eq {xy : Nat} (hmanager : d.isManager = true) (hkept : (d.tile xy).state ≠ tileLost) :
    d.imgReqMsg xy = (d.imgAsked xy).imgAnswered xy := by
  rw [Dev.imgReqMsg, Dev.fromLost_kept hmanager hkept]
  rfl

theorem leaves_setSurf {as : List Nat} (h : d.leaves e as) (x : Surface) : d.leaves (e.setSurf x) as :=
  leaves_of h rfl rfl rfl rfl

theorem leaves_noteLoading {as : List Nat} (h : d.leaves e as) (xy st : Nat) : d.leaves (e.noteLoading xy st) as := by
  unfold Dev.noteLoading
  split
  · exact h
  · exact leaves_setTile h _

/-- The lists of the tiles that are served and that wait stand beside the table. -/
theorem Dev.lists_noteLoading (d : Dev) (xy st : Nat) : (d.noteLoading xy st).surf.imgServing = d.surf.imgServing ∧
    (d.noteLoading xy st).surf.imgWaiting = d.surf.imgWaiting := by
  unfold Dev.noteLoading
  split
  · exact ⟨rfl, rfl⟩
  · exact ⟨rfl, rfl⟩

theorem Dev.leaves_imgAsked (d : Dev) (xy : Nat) : d.leaves (d.imgAsked xy) [] := leaves_setSurf (d.leaves_noteTile xy []) _

theorem Dev.tile_imgAsked (d : Dev) (xy : Nat) : (d.imgAsked xy).tile xy = (d.noteTile xy).tile xy :=
  Dev.SameTiles.tile ⟨rfl, rfl⟩ xy

/-- A message does not mark its tile as one that a RESET was sent to. -/
theorem Dev.state_imgAsked (d : Dev) {xy : Nat} (h : (d.tile xy).state ≠ tileResetting) :
    ((d.imgAsked xy).tile xy).state ≠ tileResetting := by
  rw [Dev.tile_imgAsked, Dev.tile_noteTile]
  show (if (d.tile xy).state = 0 then tileEnumerated else (d.tile xy).state) ≠ tileResetting
  split
  · decide
  · exact h

theorem Dev.imgQueued_waits {xy : Nat} (h : (d.tile xy).state ≠ tileResetting) :
    (d.imgQueued xy).surf.imgWaiting = d.surf.imgWaiting ++ [xy] ∧ ((d.imgQueued xy).tile xy).state = tileLoading ∧
      d.leaves (d.imgQueued xy) [] := by
  obtain ⟨-, hwaiting⟩ := d.lists_noteLoading xy tileLoading
  refine ⟨congrArg (· ++ [xy]) hwaiting, ?_, leaves_setSurf (leaves_noteLoading (d.leaves_refl _) ..) _⟩
  have hrows : (d.noteLoading xy tileLoading).SameTiles (d.imgQueued xy) := ⟨rfl, rfl⟩
  rw [hrows.tile, Dev.noteLoading, if_neg h, Dev.tile_setTileState]

/-- A tile's row with how its image has ended. -/
def Dev.setLoaded (d : Dev) (xy loaded : Nat) : Dev := d.setTile { d.tile xy with loaded := loaded }

theorem Dev.loaded_setLoaded (d : Dev) (xy loaded : Nat) : ((d.setLoaded xy loaded).tile xy).loaded = loaded :=
  congrArg Tile.loaded (d.tile_setTile { d.tile xy with loaded := loaded } (d.tile_xy xy))

/-- A tile is served no longer. -/
def Dev.imgLeft (d : Dev) (xy : Nat) : Dev := d.setSurf { d.surf with
  imgServing := d.surf.imgServing.filter (· != xy), imgWaiting := d.surf.imgWaiting.filter (· != xy) }

/-- With no tile that waits, none follows the one that was served. -/
theorem Dev.serveNext_idle {xy : Nat} (h : d.surf.imgWaiting = []) : d.serveNext xy = d.imgLeft xy := by
  have hnone : (d.imgLeft xy).surf.imgWaiting = [] := congrArg (List.filter (· != xy)) h
  show (match (d.imgLeft xy).surf.imgWaiting with
    | [] => d.imgLeft xy
    | next :: rest => if (d.imgLeft xy).surf.imgServing.length < 16 then
      ((d.imgLeft xy).setSurf { (d.imgLeft xy).surf with imgWaiting := rest }).serveImage next else d.imgLeft xy) = _
  rw [hnone]

section

variable {src : BitVec 10} (words : List Word) (hmanager : s.dev.isManager = true)
  (hkept : (s.dev.tile src.toNat).state ≠ tileLost)
include hmanager hkept

theorem imgReq_unserved (himage : s.dev.boot.image = []) : Completes (.imgReq src words) s fun t =>
    (t.tile src.toNat).seen = s.dev.time.frame ∧
      t.surf.imgServing = s.dev.surf.imgServing.filter (· != src.toNat) ∧ s.dev.leaves t [] := by
  have hempty : (s.dev.imgAsked src.toNat).boot.image = [] := himage
  refine completes_of (f := fun d => d.imgReqMsg src.toNat) rfl ?_
  rw [Dev.imgReqMsg_eq hmanager hkept, Dev.imgAnswered, if_pos (Or.inl (by rw [hempty]; rfl)), Dev.tile_imgAsked,
    Dev.tile_noteTile]
  exact ⟨rfl, rfl, s.dev.leaves_imgAsked _⟩

theorem imgReq_waits (himage : s.dev.boot.image ≠ []) (hserved : src.toNat ∉ s.dev.surf.imgServing)
    (hwaits : src.toNat ∉ s.dev.surf.imgWaiting) (hstate : (s.dev.tile src.toNat).state ≠ tileResetting)
    (hfull : 16 ≤ s.dev.surf.imgServing.length) : Completes (.imgReq src words) s fun t =>
      t.surf.imgWaiting = s.dev.surf.imgWaiting ++ [src.toNat] ∧ (t.tile src.toNat).state = tileLoading ∧
      s.dev.leaves t [] := by
  have hserving : (s.dev.imgAsked src.toNat).surf.imgServing = s.dev.surf.imgServing :=
    List.filter_eq_self.2 fun xy hxy => bne_iff_ne.2 fun heq => hserved (heq ▸ hxy)
  have himage' : (s.dev.imgAsked src.toNat).boot.image = s.dev.boot.image := rfl
  have hwaiting : (s.dev.imgAsked src.toNat).surf.imgWaiting = s.dev.surf.imgWaiting := rfl
  obtain ⟨hqueue, hloading, hleaves⟩ := Dev.imgQueued_waits (s.dev.state_imgAsked hstate)
  refine completes_of (f := fun d => d.imgReqMsg src.toNat) rfl ?_
  rw [Dev.imgReqMsg_eq hmanager hkept, Dev.imgAnswered, if_neg (by simp [himage', hwaiting, himage, hwaits]),
    if_neg (by rw [hserving]; omega)]
  exact ⟨hqueue, hloading, leaves_trans (s.dev.leaves_imgAsked _) hleaves⟩

theorem imgResult_completes (hwaiting : s.dev.surf.imgWaiting = []) : Completes (.imgResult src words) s fun t =>
    (t.tile src.toNat).loaded = (if (words.getD 0 0).toNat = 1 then 3 else 0) ∧
      t.surf.imgServing = s.dev.surf.imgServing.filter (· != src.toNat) ∧ s.dev.leaves t [] := by
  set x := (s.dev.noteTile src.toNat).noteLoading src.toNat tileEnumerated
  obtain ⟨hserving, hnone⟩ := (s.dev.noteTile src.toNat).lists_noteLoading src.toNat tileEnumerated
  have hleaves : s.dev.leaves x [] := leaves_noteLoading (s.dev.leaves_noteTile ..) ..
  have hend : s.dev.imgResultMsg src.toNat words =
      (x.setLoaded src.toNat (if (words.getD 0 0).toNat = 1 then 3 else 0)).imgLeft src.toNat := by
    rw [Dev.imgResultMsg, Dev.fromLost_kept hmanager hkept]
    exact Dev.serveNext_idle (d := x.setLoaded _ _) (hnone.trans hwaiting)
  refine completes_of (f := fun d => d.imgResultMsg src.toNat words) rfl ?_
  rw [hend]
  refine ⟨?_, congrArg (List.filter (· != src.toNat)) hserving, leaves_setSurf (leaves_setTile hleaves _) _⟩
  exact (congrArg Tile.loaded (Dev.SameTiles.tile ⟨rfl, rfl⟩ _)).trans (x.loaded_setLoaded ..)

end

/-! References (R837). -/

theorem Dev.conv_setConv (d : Dev) (b c : Bool) (v : Option HkaConv) :
    (d.setConv b v).conv c = if c = b then v else d.conv c := by
  cases b with
  | false => cases c <;> cases v <;> rfl
  | true => cases c <;> cases v <;> rfl

theorem leaves_setConv {as : List Nat} (h : d.leaves e as) (hstat : HKA_STAT ∈ as) (b : Bool) (v : Option HkaConv) :
    d.leaves (e.setConv b v) as := by
  have haddr (x y : Fld) (hx : x.addr = HKA_STAT) (hy : y.addr = HKA_STAT) : (if b then x else y).addr ∈ as := by
    cases b
    · exact hy ▸ hstat
    · exact hx ▸ hstat
  have hhka : d.leaves (e.setHka (if b then { e.hka with convB := v } else { e.hka with convA := v })) as :=
    leaves_of h rfl rfl rfl rfl
  have hbusy := leaves_setFlag (b := v.isSome) hhka (haddr HKA_STAT_BUSYB HKA_STAT_BUSYA rfl rfl)
  cases v with
  | none => exact hbusy
  | some k => exact leaves_setFld hbusy (haddr HKA_STAT_CHB HKA_STAT_CHA rfl rfl)

/-- The bits of HKA_STAT beside those of the converters. -/
def Fld.besideConv (f : Fld) : Bool :=
  f.apart HKA_STAT_BUSYA && f.apart HKA_STAT_BUSYB && f.apart HKA_STAT_CHA && f.apart HKA_STAT_CHB

theorem Dev.flag_setConv (d : Dev) (b : Bool) (v : Option HkaConv) {f : Fld} (h : f.besideConv = true) :
    (d.setConv b v).flag f = d.flag f := by
  simp only [Fld.besideConv, Bool.and_eq_true] at h
  obtain ⟨⟨⟨hbusyA, hbusyB⟩, hchA⟩, hchB⟩ := h
  cases b with
  | false =>
    cases v with
    | none => exact Dev.flag_setFlag_apart _ _ (by decide) hbusyA
    | some k =>
      exact (Dev.flag_setFld_apart _ _ (by decide) hchA).trans (Dev.flag_setFlag_apart _ _ (by decide) hbusyA)
  | true =>
    cases v with
    | none => exact Dev.flag_setFlag_apart _ _ (by decide) hbusyB
    | some k =>
      exact (Dev.flag_setFld_apart _ _ (by decide) hchB).trans (Dev.flag_setFlag_apart _ _ (by decide) hbusyB)

/-- A converter whose conversion waits for the reference goes on with it. -/
def Dev.releaseWait (d : Dev) (refsel : Nat) (b : Bool) : Dev :=
  match d.conv b with
  | some k => if k.waiting && k.refsel == refsel then d.setConv b (some { k with waiting := false }) else d
  | none => d

theorem Dev.releaseWaits_eq (d : Dev) (refsel : Nat) : d.releaseWaits refsel =
    (d.releaseWait refsel false).releaseWait refsel true := rfl

/-- No conversion of the converter waits for the reference. -/
def Dev.Unheld (d : Dev) (refsel : Nat) (b : Bool) : Prop := ∀ k, d.conv b = some k → k.waiting = true → k.refsel ≠ refsel

/-- A conversion that waits for the reference goes on; the other converter, and what is no converter's bit, stay. -/
theorem Dev.releaseWait_frees (d : Dev) (refsel : Nat) (b : Bool) : (d.releaseWait refsel b).Unheld refsel b ∧
    (∀ c, c ≠ b → (d.releaseWait refsel b).conv c = d.conv c) ∧ d.leaves (d.releaseWait refsel b) [HKA_STAT] ∧
    ∀ f : Fld, f.besideConv = true → (d.releaseWait refsel b).flag f = d.flag f := by
  have hstays (hfree : d.Unheld refsel b) : d.Unheld refsel b ∧ (∀ c, c ≠ b → d.conv c = d.conv c) ∧ d.leaves d [HKA_STAT] ∧
      ∀ f : Fld, f.besideConv = true → d.flag f = d.flag f := ⟨hfree, fun _ _ => rfl, d.leaves_refl _, fun _ _ => rfl⟩
  unfold Dev.releaseWait
  split
  next k hk =>
    split
    next hwaits =>
      refine ⟨?_, fun c hc => ?_, leaves_setConv (d.leaves_refl _) (by decide) .., fun f hf => d.flag_setConv _ _ hf⟩
      · intro j hj hheld
        rw [Dev.conv_setConv, if_pos rfl, Option.some.injEq] at hj
        subst hj
        exact absurd hheld (by simp)
      · rw [Dev.conv_setConv, if_neg hc]
    next hother =>
      refine hstays fun j hj hheld heq => hother ?_
      rw [hk, Option.some.injEq] at hj
      simp [hj, hheld, heq]
  next hnone => exact hstays fun j hj => by simp [hnone] at hj

theorem Dev.releaseWaits_frees (d : Dev) (refsel : Nat) : (∀ b, (d.releaseWaits refsel).Unheld refsel b) ∧
    d.leaves (d.releaseWaits refsel) [HKA_STAT] ∧
    ∀ f : Fld, f.besideConv = true → (d.releaseWaits refsel).flag f = d.flag f := by
  obtain ⟨hfreeA, -, hleavesA, hflagA⟩ := d.releaseWait_frees refsel false
  obtain ⟨hfreeB, hotherB, hleavesB, hflagB⟩ := (d.releaseWait refsel false).releaseWait_frees refsel true
  rw [Dev.releaseWaits_eq]
  refine ⟨fun b => ?_, leaves_trans hleavesA hleavesB, fun f hf => (hflagB f hf).trans (hflagA f hf)⟩
  cases b with
  | false =>
    intro k hk
    exact hfreeA k ((hotherB false (by decide)).symm.trans hk)
  | true => exact hfreeB

/-- A reference shows that it is ready, and the conversions that wait for it go on. -/
theorem Dev.readyReleases (d : Dev) (f : Fld) (refsel : Nat) (hstat : f.addr = HKA_STAT) (hbit : f.besideConv = true)
    (h : f.lsb + f.width ≤ 24) (hw : 0 < f.width) : ((d.setFlag f true).releaseWaits refsel).flag f = true ∧
      (∀ b k, ((d.setFlag f true).releaseWaits refsel).conv b = some k → k.waiting = true → k.refsel ≠ refsel) ∧
      d.leaves ((d.setFlag f true).releaseWaits refsel) [HKA_STAT] := by
  obtain ⟨hfree, hleaves, hflag⟩ := (d.setFlag f true).releaseWaits_frees refsel
  exact ⟨(hflag f hbit).trans (d.flag_setFlag_same f true h hw), hfree,
    leaves_trans (leaves_setFlag (d.leaves_refl _) (by simp [hstat])) hleaves⟩

theorem referenceReady_internal (hon : s.dev.hkaOn = true) : Completes (.referenceReady false) s fun t =>
    t.flag HKA_STAT_REFINT_RDY = true ∧ (∀ b k, t.conv b = some k → k.waiting = true → k.refsel ≠ 0) ∧
      s.dev.leaves t [HKA_STAT] := by
  have hexec : exec (.referenceReady false) s = s.run fun d => (d.setFlag HKA_STAT_REFINT_RDY true).releaseWaits 0 := by
    show execReferenceReady false s = _
    simp [execReferenceReady, Dev.referenceReady, hon]
  exact completes_of hexec (s.dev.readyReleases HKA_STAT_REFINT_RDY 0 rfl (by decide) (by decide) (by decide))

theorem referenceReady_refin (henabled : s.dev.refinEnabled = true) (hfault : s.dev.flag HKA_STAT_REFIN_FAULT = false) :
    Completes (.referenceReady true) s fun t => t.flag HKA_STAT_REFIN_RDY = true ∧
      (∀ b k, t.conv b = some k → k.waiting = true → k.refsel ≠ 1) ∧ s.dev.leaves t [HKA_STAT] := by
  have hexec : exec (.referenceReady true) s = s.run fun d => (d.setFlag HKA_STAT_REFIN_RDY true).releaseWaits 1 := by
    show execReferenceReady true s = _
    simp [execReferenceReady, Dev.referenceReady, henabled, hfault]
  exact completes_of hexec (s.dev.readyReleases HKA_STAT_REFIN_RDY 1 rfl (by decide) (by decide) (by decide))

end Sys2Proof.Machine
end

section
/-!
SUPPORT. Wakes (R176, R177, R181, R191, R194 to R196), and VCORE off (R184).
-/

namespace Sys2Proof.Machine

variable {s : State} {d e f : Dev} {as : List Nat}

/-! What a wake notes (R191, R195). -/

theorem leavesRing_trans (h : d.leavesRing e as) (g : e.leavesRing f as) : d.leavesRing f as := by
  obtain ⟨hregs, hbanks, hnvm, hcfg⟩ := h
  obtain ⟨gregs, gbanks, gnvm, gcfg⟩ := g
  exact ⟨fun a ha hr => (gregs a ha hr).trans (hregs a ha hr), fun b w hb => (gbanks b w hb).trans (hbanks b w hb),
    fun a => (gnvm a).trans (hnvm a), fun sect id idx => (gcfg sect id idx).trans (hcfg sect id idx)⟩

theorem leavesRing_setFld (h : d.leavesRing e as) {g : Fld} {v : Nat} (ha : g.addr ∈ as) : d.leavesRing (e.setFld g v) as :=
  leavesRing_setReg h ha

/-- The registers in which a wake is noted. -/
def wakeRegs : List Nat := [PWR_WAKESRC, PWR_WAKECNT, PWR_WAKEEN]

/-- What the judging of a storm keeps: the sources, the count of wakes, and all that no register of the wakes shows. -/
def Dev.Judged (d e : Dev) : Prop :=
  d.leavesRing e wakeRegs ∧ e.reg PWR_WAKESRC = d.reg PWR_WAKESRC ∧ e.fld PWR_WAKECNT_WAKES = d.fld PWR_WAKECNT_WAKES ∧
    e.base = d.base

theorem Dev.Judged.rfl (d : Dev) : d.Judged d := ⟨leavesRing_of_leaves (d.leaves_refl _), Eq.refl _, Eq.refl _, Eq.refl _⟩

theorem judged_trans (h : d.Judged e) (g : e.Judged f) : d.Judged f := by
  obtain ⟨hleaves, hsrc, hwakes, hbase⟩ := h
  obtain ⟨gleaves, gsrc, gwakes, gbase⟩ := g
  exact ⟨leavesRing_trans hleaves gleaves, gsrc.trans hsrc, gwakes.trans hwakes, gbase.trans hbase⟩

theorem judged_setModes (d : Dev) {m : Modes} (h : m.retained = d.modes.retained) : d.Judged (d.setModes m) :=
  ⟨leavesRing_of_leaves (d.leaves_refl _), rfl, rfl, d.base_setModes h⟩

theorem judged_setFld (d : Dev) {g : Fld} (v : Nat) (h : g.lsb + g.width ≤ 24) (hreg : g.addr ∈ wakeRegs)
    (hsrc : PWR_WAKESRC ≠ g.addr) (hwakes : PWR_WAKECNT_WAKES.apart g = true) : d.Judged (d.setFld g v) :=
  ⟨leavesRing_setFld (leavesRing_of_leaves (d.leaves_refl _)) hreg, Dev.reg_setFld_ne _ _ _ hsrc,
    Dev.fld_setFld_apart _ _ h hwakes, rfl⟩

theorem judged_ring (d : Dev) (src : Nat) (w1 w2 : Word) : d.Judged (d.ring src w1 w2) :=
  ⟨leavesRing_ring (leavesRing_of_leaves (d.leaves_refl _)) .., Dev.ring_reg (by decide) .., Dev.ring_fld (by decide) ..,
    Dev.base_ring ..⟩

theorem judged_noteStorm (d : Dev) (i : Nat) : d.Judged (d.noteStorm i) := by
  unfold Dev.noteStorm
  extract_lets recent n _ x y z
  have hx : d.Judged x := judged_setModes d rfl
  split
  · have hy : x.Judged y := judged_setFld x _ (by decide) (by decide) (by decide) (by decide)
    have hz : y.Judged z := judged_setFld y _ (by decide) (by decide) (by decide) (by decide)
    exact judged_trans (judged_trans hx hy) (judged_trans hz (judged_ring z ..))
  · exact hx

theorem judged_noteStorms (sources : Nat) (is : List Nat) (d : Dev) :
    d.Judged (is.foldl (fun d i => if sources.testBit i then d.noteStorm i else d) d) := by
  induction is generalizing d with
  | nil => exact .rfl d
  | cons i is ih =>
    refine judged_trans ?_ (ih _)
    show d.Judged (if sources.testBit i then d.noteStorm i else d)
    split
    · exact judged_noteStorm d i
    · exact .rfl d

/-- A wake is noted: its sources, one more wake, and what the judging of a storm changes. -/
theorem Dev.noteWake_notes (d : Dev) (sources gesture : Nat) (hib : Bool) :
    (d.noteWake sources gesture hib).reg PWR_WAKESRC =
      pack [(gesture, 16), (sources, 8), (lowestBit sources, 4), (bit hib, 0)] ∧
    (d.noteWake sources gesture hib).fld PWR_WAKECNT_WAKES =
      min (d.fld PWR_WAKECNT_WAKES + 1) (2 ^ PWR_WAKECNT_WAKES.width - 1) ∧
    d.leavesRing (d.noteWake sources gesture hib) wakeRegs ∧ (d.noteWake sources gesture hib).base = d.base := by
  unfold Dev.noteWake
  extract_lets x y
  obtain ⟨hleaves, hsrc, hwakes, hbase⟩ := judged_noteStorms sources (List.range 7) y
  have hx : d.leavesRing x wakeRegs := leavesRing_setReg (leavesRing_of_leaves (d.leaves_refl _)) (by decide)
  have hy : d.leavesRing y wakeRegs := leavesRing_setFld hx (by decide)
  refine ⟨hsrc.trans ?_, hwakes.trans ?_, leavesRing_trans hy hleaves, hbase⟩
  · exact (Dev.reg_setFld_ne _ _ _ (by decide)).trans ((Dev.reg_setReg ..).trans (if_pos rfl))
  · rw [Dev.fld_bump_same _ _ (by decide), Dev.fld_setReg_ne _ _ (by decide)]

theorem mode_of_pwrStat (h : e.reg PWR_STAT = d.reg PWR_STAT) : e.mode = d.mode := congrArg (wGet · 0 3) h

theorem wake_watch (hmode : s.dev.mode = modeWatch) (sources : BitVec 7) (ok : Bool)
    (hon : sources.toNat &&& s.dev.fld PWR_WAKEEN_EN ≠ 0) : Completes (.wake sources 0 ok) s fun t =>
      t.reg PWR_WAKESRC = pack [(0, 16), (sources.toNat &&& s.dev.fld PWR_WAKEEN_EN, 8),
        (lowestBit (sources.toNat &&& s.dev.fld PWR_WAKEEN_EN), 4), (0, 0)] ∧
      t.fld PWR_WAKECNT_WAKES = min (s.dev.fld PWR_WAKECNT_WAKES + 1) (2 ^ PWR_WAKECNT_WAKES.width - 1) ∧
      t.mode = s.dev.mode ∧ s.dev.leavesRing t [PWR_WAKESRC, PWR_WAKECNT, PWR_WAKEEN] := by
  have hnote : s.dev.wake sources.toNat 0 ok = s.dev.noteWake (sources.toNat &&& s.dev.fld PWR_WAKEEN_EN) 0 false := by
    simp [Dev.wake, hmode, hon, modeWatch, modeHibernate]
  obtain ⟨hsrc, hwakes, hleaves, -⟩ := s.dev.noteWake_notes (sources.toNat &&& s.dev.fld PWR_WAKEEN_EN) 0 false
  refine completes_of (f := fun d => d.wake sources.toNat 0 ok) rfl ?_
  rw [hnote]
  exact ⟨hsrc, hwakes, mode_of_pwrStat (hleaves.1 _ (by decide) (by decide)), hleaves⟩

/-! A wake from HIBERNATE (R176, R181, R194). -/

theorem linked_wakeBurst (d : Dev) : Dev.Linked linkRegs d d.wakeBurst := by
  refine linked_foldl _ _ fun x p hp => ?_
  split
  · exact linked_trans (linked_setPort ..) (linked_transmit _ (List.mem_range.1 hp) ..)
  · exact linked_refl x

/-- A memory cut to some of its addresses: the others read as their default. -/
theorem cellsGet_filter {n : Nat} {dflt : Nat → BitVec n} (p : Nat → Bool) (m : Cells n) (k : Nat) :
    cellsGet dflt (m.filter fun q => p q.1) k = if p k then cellsGet dflt m k else dflt k := by
  induction m with
  | nil => simp [cellsGet]
  | cons q m ih =>
    obtain ⟨a, v⟩ := q
    by_cases hp : p a = true
    · rw [List.filter_cons_of_pos (p := fun q : Nat × BitVec n => p q.1) hp, cellsGet, cellsGet]
      split
      next hak => rw [if_pos (hak ▸ hp)]
      next => exact ih
    · rw [List.filter_cons_of_neg (p := fun q : Nat × BitVec n => p q.1) hp, ih, cellsGet]
      split
      next hk =>
        rw [if_neg]
        rintro rfl
        exact hp hk
      next => rfl

/-- The sources of the wake, and what no bank or core holds, outlive a wake without retention (R181). -/
theorem Dev.loseRetention_keeps (d : Dev) : d.loseRetention.reg PWR_WAKESRC = d.reg PWR_WAKESRC ∧
    d.loseRetention.base = d.base := by
  unfold Dev.loseRetention
  extract_lets _ x y
  have hx : x.reg PWR_WAKESRC = d.reg PWR_WAKESRC := cellsGet_filter (dflt := regReset)
    (fun a => decide (a < 0x0300) || a == LAMP_TRIP || a == EGL_TILE || a == MEM_SCRUBPOS) d.regs PWR_WAKESRC
  have hy : y.reg PWR_WAKESRC = x.reg PWR_WAKESRC := by
    simp only [y, Dev.reg_setReg]
    rfl
  exact ⟨(Dev.reg_setFld_ne _ _ _ (by decide)).trans (hy.trans hx), rfl⟩

/-- A wake begins: start-up from step 3, with what only the always-on domain or a valid retention holds. -/
theorem Dev.wakeHib_begins (d : Dev) (on : Nat) (ok : Bool) :
    (d.wakeHib on ok).modes.waking = true ∧ (d.wakeHib on ok).modes.wakeOk = (d.modes.retained && ok) ∧
    (d.wakeHib on ok).reg PWR_WAKESRC = pack [(0, 16), (on, 8), (lowestBit on, 4), (1, 0)] ∧
    (d.wakeHib on ok).modes.hibStep = 0 ∧ (d.wakeHib on ok).pwr.step = 3 ∧ (d.wakeHib on ok).mode = modeStart ∧
    (d.wakeHib on ok).nvm = d.nvm ∧ (d.wakeHib on ok).time.sec = d.time.sec ∧
      (d.wakeHib on ok).time.frac = d.time.frac := by
  obtain ⟨hsrc, -, -, hnoted⟩ := d.noteWake_notes on 0 true
  unfold Dev.wakeHib
  extract_lets x valid y z w _ v
  have hy := linked_wakeBurst x
  have hz : z.reg PWR_WAKESRC = x.reg PWR_WAKESRC :=
    (Dev.reg_setFld_ne _ _ _ (by decide)).trans ((Dev.reg_setFld_ne _ _ _ (by decide)).trans
      (hy.reg (by decide) (by decide)))
  have hzbase : z.base = x.base := (base_linked hy :)
  have hw : w.reg PWR_WAKESRC = x.reg PWR_WAKESRC ∧ w.base = x.base := by
    unfold w
    split
    · exact ⟨hz, hzbase⟩
    · obtain ⟨hkept, hbase⟩ := z.loseRetention_keeps
      exact ⟨hkept.trans hz, hbase.trans hzbase⟩
  obtain ⟨hreg, hbase⟩ := hw
  have hwd : w.base = d.base := hbase.trans hnoted
  obtain ⟨hsec, hfrac⟩ := base_value hwd
  refine ⟨rfl, congrArg (· && ok) (base_retained hnoted), ?_, rfl, rfl, ?_, (base_nvm hwd :), hsec, hfrac⟩
  · exact (Dev.reg_setFld_ne v PWR_STAT_MODE _ (by decide)).trans (hreg.trans hsrc)
  · exact v.fld_setFld_same PWR_STAT_MODE modeStart (by decide)

theorem wake_hibernate (hmode : s.dev.mode = modeHibernate) (hoff : s.dev.modes.hibStep = 7) (sources : BitVec 7)
    (gesture : BitVec 4) (ok : Bool) {on : Nat}
    (hsources : sources.toNat &&& s.dev.fld PWR_WAKEEN_EN &&& s.dev.wakeable (gesture.toNat.testBit 0) = on) (hon : on ≠ 0) :
    Completes (.wake sources gesture ok) s fun t =>
      t.modes.waking = true ∧ t.modes.wakeOk = (s.dev.modes.retained && ok) ∧
      t.reg PWR_WAKESRC = pack [(0, 16), (on, 8), (lowestBit on, 4), (1, 0)] ∧ t.modes.hibStep = 0 ∧
      t.pwr.step = 3 ∧ t.mode = modeStart ∧ t.nvm = s.dev.nvm ∧ t.time.sec = s.dev.time.sec ∧
        t.time.frac = s.dev.time.frac := by
  have hwake : s.dev.wake sources.toNat gesture.toNat ok = s.dev.wakeHib on ok := by
    simp only [Dev.wake, hmode, if_true, hsources, hon, if_false, hoff]
  refine completes_of (f := fun d => d.wake sources.toNat gesture.toNat ok) rfl ?_
  rw [hwake]
  exact s.dev.wakeHib_begins on ok

/-- A core regulator that never comes good ends the wake with a reset of code 3 (R196). -/
theorem wakeVcoreTimeout_resets (hwaking : s.dev.modes.waking = true) (hstep : s.dev.pwr.step = 3)
    (hheld : s.dev.pwr.held = none) (hcycle : s.dev.sameCycle = none) : Completes .wakeVcoreTimeout s fun t =>
      t.pwr.held = none ∧ t.pwr.step = 3 ∧ t.fld SYS_RSTCAUSE_LAST = 3 ∧ t.nvm = s.dev.nvmTorn.nvm := by
  have hexec : exec .wakeVcoreTimeout s = s.run fun d => d.resetNow 3 := by
    show execWakeVcoreTimeout s = _
    simp [execWakeVcoreTimeout, hwaking, hstep]
  obtain ⟨hnone, hthree, hlast, hnvm, -⟩ := Dev.resetNow_ends (code := 3) ⟨by decide, by decide⟩ hheld hcycle
  exact completes_of hexec ⟨hnone, hthree, hlast, hnvm⟩

/-! VCORE off (R184). -/

/-- What outlives VCORE off beside the registers: the EEPROM, the counted value, the configuration, and the passing of time. -/
def Dev.alwaysOn (d : Dev) : Cells 8 × Nat × Nat × Cells 24 × Nat := (d.nvm, d.time.sec, d.time.frac, d.cfg, d.ticks)

/-- The supply and the clock follow the core's end, and a worker has left the surface. -/
def Dev.coreDown (d : Dev) : Dev :=
  let x := (d.setFlag SYS_SUPPLY_VCORE_OK false).foscStop
  if x.isWorker then x.setFlag EGL_TILE_JOINED false else x

theorem Dev.coreDown_keeps (d : Dev) : d.coreDown.pwr.step = d.pwr.step ∧ d.coreDown.flag SYS_SUPPLY_VCORE_OK = false ∧
    d.coreDown.reg PWR_STAT = d.reg PWR_STAT ∧ d.coreDown.alwaysOn = d.alwaysOn := by
  obtain ⟨-, -, -, hleaves⟩ := (d.setFlag SYS_SUPPLY_VCORE_OK false).foscStop_shows
  have hstat : (d.setFlag SYS_SUPPLY_VCORE_OK false).foscStop.reg PWR_STAT = d.reg PWR_STAT :=
    (hleaves.1 _ (by decide)).trans (Dev.reg_setFld_ne _ _ _ (by decide))
  have hoff : (d.setFlag SYS_SUPPLY_VCORE_OK false).foscStop.flag SYS_SUPPLY_VCORE_OK = false := by
    rw [Dev.flag, Dev.fld, hleaves.1 _ (by decide)]
    exact d.flag_setFlag_same SYS_SUPPLY_VCORE_OK false (by decide) (by decide)
  unfold Dev.coreDown
  extract_lets x
  split
  · exact ⟨rfl, (Dev.flag_setFlag_apart _ _ (by decide) (by decide)).trans hoff,
      (Dev.reg_setFld_ne _ _ _ (by decide)).trans hstat, rfl⟩
  · exact ⟨rfl, hoff, hstat, rfl⟩

/-- What is left of the machine when its core's supply goes. -/
theorem Dev.vcoreOff_eq (d : Dev) : ∃ x : Dev, x.regs = d.regs.filter (fun p => keptAsleep p.1) ∧
    x.alwaysOn = d.alwaysOn ∧ x.pwr.step = 0 ∧ d.vcoreOff = x.coreDown := by
  unfold Dev.vcoreOff
  extract_lets _ _ _ _ _ _ _ _ _ _ x
  exact ⟨x, rfl, rfl, rfl, rfl⟩

/-- VCORE goes off: step 0 and VCORE_OK 0; the mode stays, and so does what the always-on domain holds. -/
theorem Dev.vcoreOff_ends (d : Dev) : d.vcoreOff.pwr.step = 0 ∧ d.vcoreOff.flag SYS_SUPPLY_VCORE_OK = false ∧
    d.vcoreOff.reg PWR_STAT = d.reg PWR_STAT ∧ d.vcoreOff.alwaysOn = d.alwaysOn := by
  obtain ⟨x, hregs, hon, hstep, heq⟩ := d.vcoreOff_eq
  obtain ⟨hstill, hoff, hstat, hkept⟩ := x.coreDown_keeps
  have hx : x.reg PWR_STAT = d.reg PWR_STAT := by
    rw [Dev.reg, hregs, cellsGet_filter keptAsleep, if_pos (by decide)]
    rfl
  rw [heq]
  exact ⟨hstill.trans hstep, hoff, hstat.trans hx, hkept.trans hon⟩

/-- A proxy command ends with the drain. -/
def Dev.proxyEnded (d : Dev) : Dev :=
  if d.boot.nvpOp = 0 then d
  else (d.setReg SYS_NVP_STAT 0).setBoot { d.boot with nvpOp := 0, nvpData := [], nvpDone := 0 }

theorem Dev.proxyEnded_keeps (d : Dev) : d.proxyEnded.reg PWR_STAT = d.reg PWR_STAT ∧ d.proxyEnded.alwaysOn = d.alwaysOn := by
  unfold Dev.proxyEnded
  split
  · exact ⟨rfl, rfl⟩
  · exact ⟨(d.reg_setReg SYS_NVP_STAT PWR_STAT 0).trans (if_neg (by decide)), rfl⟩

/-- With no page in write, the drain ends at most a proxy command. -/
theorem Dev.nvmComplete_of_idle (h : d.twb.nvOp < 4) : d.nvmComplete = d.proxyEnded := by
  unfold Dev.nvmComplete
  rw [if_neg (show ¬d.twb.nvOp = 5 by omega), if_neg (show ¬d.twb.nvOp = 4 by omega)]
  rfl

theorem Dev.calAbandon_keeps (d : Dev) : d.calAbandon.reg PWR_STAT = d.reg PWR_STAT ∧ d.calAbandon.alwaysOn = d.alwaysOn := by
  unfold Dev.calAbandon
  split
  · exact ⟨rfl, rfl⟩
  · exact ⟨(Dev.reg_setFld_ne (d.setItems []) CAL_STAT_STATE _ (by decide)).trans (Dev.reg_setFld_ne _ _ _ (by decide)), rfl⟩

theorem Dev.logHibernate_keeps (d : Dev) : d.logHibernate.reg PWR_STAT = d.reg PWR_STAT ∧
    d.logHibernate.alwaysOn = d.alwaysOn :=
  ⟨Dev.reg_setFld_ne { d with logQ := [] } CAL_LOGQ_QUEUED 0 (by decide), rfl⟩

/-- The drain's end, before the supply goes: the transfers have ended, and the records that are lost are counted. -/
def Dev.drained (d : Dev) : Dev :=
  let x := d.nvmComplete.setFlag PWR_HOST_HWPIN false
  (x.setFld PWR_HIBDROP_DROPPED (min (x.ringLeft .h0 + x.ringLeft .h1) 1024)).logHibernate.calAbandon

theorem Dev.drained_keeps (h : d.twb.nvOp < 4) : d.drained.reg PWR_STAT = d.reg PWR_STAT ∧ d.drained.alwaysOn = d.alwaysOn := by
  obtain ⟨hproxy, hproxyOn⟩ := d.proxyEnded_keeps
  unfold Dev.drained
  extract_lets x
  have hx : x.reg PWR_STAT = d.reg PWR_STAT ∧ x.alwaysOn = d.alwaysOn := by
    unfold x
    rw [Dev.nvmComplete_of_idle h]
    exact ⟨(Dev.reg_setFld_ne _ _ _ (by decide)).trans hproxy, hproxyOn⟩
  obtain ⟨hstat, hon⟩ := hx
  generalize hn : min (x.ringLeft .h0 + x.ringLeft .h1) 1024 = n
  obtain ⟨hlog, hlogOn⟩ := (x.setFld PWR_HIBDROP_DROPPED n).logHibernate_keeps
  obtain ⟨hcal, hcalOn⟩ := (x.setFld PWR_HIBDROP_DROPPED n).logHibernate.calAbandon_keeps
  exact ⟨hcal.trans (hlog.trans ((Dev.reg_setFld_ne _ _ _ (by decide)).trans hstat)), hcalOn.trans (hlogOn.trans hon)⟩

/-- The entry's last steps, once every worker has acknowledged (R184): what a wake finds. -/
def Dev.asleepNow (d : Dev) : Dev := d.setModes { d.modes with
  hibStep := 7, asleepTick := d.ticks, retained := d.par secModes 0x09 == 1, irEdges := [], hostwake := false
  service := none, host := none, wake := none, auto := none, orphan := none, manager := none, heldCmd := none }

theorem Dev.hibDrainEnd_eq (hmode : d.mode = modeHibernate) (hstep : d.modes.hibStep = 2) (hacks : d.modes.acksDue = []) :
    d.hibDrainEnd = d.drained.vcoreOff.asleepNow := by
  have hnone : d.acksAwaited = false := by simp [Dev.acksAwaited, hacks]
  unfold Dev.hibDrainEnd
  rw [if_neg (by simp [hmode, hstep, hnone])]
  simp only [hacks, List.foldl_nil]
  rfl

/-- Asleep, the tile's time of day, its EEPROM and the mode are as they were, and retention is armed as configured. -/
theorem hibDrainEnd_sleeps (hmode : s.dev.mode = modeHibernate) (hstep : s.dev.modes.hibStep = 2)
    (hacks : s.dev.modes.acksDue = []) (hbus : s.dev.twb.nvOp < 4) : Completes .hibDrainEnd s fun t =>
      t.modes.hibStep = 7 ∧ t.modes.asleepTick = s.dev.ticks ∧ t.modes.retained = (s.dev.par secModes 0x09 == 1) ∧
      t.modes.host = none ∧ t.modes.auto = none ∧ t.pwr.step = 0 ∧ t.flag SYS_SUPPLY_VCORE_OK = false ∧ t.nvm = s.dev.nvm ∧
      t.time.sec = s.dev.time.sec ∧ t.time.frac = s.dev.time.frac ∧ t.mode = modeHibernate := by
  obtain ⟨hstat, hon⟩ := Dev.drained_keeps hbus
  obtain ⟨hzero, hoff, hstat', hon'⟩ := s.dev.drained.vcoreOff_ends
  have hkept : s.dev.drained.vcoreOff.alwaysOn = s.dev.alwaysOn := hon'.trans hon
  simp only [Dev.alwaysOn, Prod.mk.injEq] at hkept
  obtain ⟨hnvm, hsec, hfrac, hcfg, hticks⟩ := hkept
  have hpar : s.dev.drained.vcoreOff.par secModes 0x09 = s.dev.par secModes 0x09 := by
    simp only [Dev.par, Dev.cfgWord, hcfg]
  refine completes_of (f := Dev.hibDrainEnd) rfl ?_
  rw [Dev.hibDrainEnd_eq hmode hstep hacks]
  exact ⟨rfl, hticks, congrArg (· == 1) hpar, rfl, rfl, hzero, hoff, hnvm, hsec, hfrac,
    (mode_of_pwrStat (hstat'.trans hstat)).trans hmode⟩

end Sys2Proof.Machine
end

section
/-!
SUPPORT. What a core watchdog records and begins (R112 to R114), and the claim on wakes, restarts and images.
-/

namespace Sys2Proof.Machine

variable {s : State} {d e : Dev}

/-! What the restart of the cores keeps (R112). -/

/-- The registers that tell how a restart of the cores began. -/
def restartRegs : List Nat := [SYS_RSTCAUSE, SYS_RSTCNT, PWR_STAT, TRK_STAT]

/-- What tells how a restart of the cores began. -/
def Dev.restartView (d : Dev) : List Word × Power × Cells 8 × List Contact :=
  (restartRegs.map d.reg, d.pwr, d.nvm, d.trk.contacts)

theorem restartView_reg (h : e.restartView = d.restartView) {a : Nat} (ha : a ∈ restartRegs) : e.reg a = d.reg a :=
  List.map_inj_left.1 (congrArg Prod.fst h) a ha

theorem restartView_pwr (h : e.restartView = d.restartView) : e.pwr = d.pwr := (congrArg (·.2.1) h :)
theorem restartView_nvm (h : e.restartView = d.restartView) : e.nvm = d.nvm := (congrArg (·.2.2.1) h :)
theorem restartView_contacts (h : e.restartView = d.restartView) : e.trk.contacts = d.trk.contacts := (congrArg (·.2.2.2) h :)

theorem Dev.restartView_setReg (d : Dev) {a : Nat} (w : Word) (h : a ∉ restartRegs) :
    (d.setReg a w).restartView = d.restartView := by
  refine congrArg (·, d.pwr, d.nvm, d.trk.contacts) (List.map_congr_left fun b hb => ?_)
  rw [Dev.reg_setReg, if_neg (ne_of_mem_of_not_mem hb h)]

theorem Dev.restartView_setFld (d : Dev) {f : Fld} (v : Nat) (h : f.addr ∉ restartRegs) :
    (d.setFld f v).restartView = d.restartView := d.restartView_setReg _ h

theorem Dev.restartView_setFlag (d : Dev) {f : Fld} (b : Bool) (h : f.addr ∉ restartRegs) :
    (d.setFlag f b).restartView = d.restartView := d.restartView_setReg _ h

theorem restartView_linked {as : List Nat} (h : Dev.Linked as d e) (hregs : ∀ a ∈ restartRegs, a ∉ as ∧ a ∉ ringRegs) :
    e.restartView = d.restartView := by
  refine Prod.ext (List.map_congr_left fun a ha => h.reg (hregs a ha).1 (hregs a ha).2) ?_
  exact h.keeps (fun x => (x.pwr, x.nvm, x.trk.contacts)) fun _ => rfl

theorem Dev.restartView_restartCores (d : Dev) : d.restartCores.restartView = d.restartView :=
  Dev.restartView_setReg _ _ (by decide)

theorem Dev.restartView_noteTags (d : Dev) : d.noteTags.restartView = d.restartView :=
  restartView_linked (linked_noteTags d) (by decide)

theorem Dev.restartView_setLink (d : Dev) (l : Link) : (d.setLink l).restartView = d.restartView := rfl

theorem Dev.restartView_abandonOps (d : Dev) (requester : Nat) : (d.abandonOps requester).restartView = d.restartView := by
  unfold Dev.abandonOps
  extract_lets gone _ x
  exact x.restartView_noteTags.trans (d.restartView_setLink _)

theorem Dev.restartView_setItems (d : Dev) (items : List Nat) : (d.setItems items).restartView = d.restartView :=
  d.restartView_setFld _ (by decide)

theorem Dev.restartView_clearWorking (d : Dev) : d.clearWorking.restartView = d.restartView := rfl

theorem Dev.restartView_rxRestart (d : Dev) : d.rxRestart.restartView = d.restartView := rfl

theorem Dev.restartView_calAbandon (d : Dev) : d.calAbandon.restartView = d.restartView := by
  unfold Dev.calAbandon
  split
  · rfl
  · exact ((d.setItems []).restartView_setFld _ (by decide)).trans (d.restartView_setItems [])

theorem Dev.restartView_flushChan (d : Dev) {c : Nat} (hc : c < 8) : (d.flushChan c).restartView = d.restartView := by
  have hfault : (d.setFaulted c false).restartView = d.restartView := by
    unfold Dev.setFaulted
    extract_lets m
    split
    · rfl
    · exact Dev.restartView_setReg _ _ (by decide)
  have hreg : GDE_CSTAT c ∉ restartRegs := by interval_cases c <;> decide
  exact (Dev.restartView_setReg _ _ hreg).trans hfault

theorem window_not_mem_restartRegs (e : Nat) : GDE_WINA e ∉ restartRegs ∧ GDE_WINB e ∉ restartRegs := by
  simp only [restartRegs, SYS_RSTCAUSE, SYS_RSTCNT, PWR_STAT, TRK_STAT, GDE_WINA, GDE_WINB,
    List.mem_cons, List.not_mem_nil, or_false, not_or]
  omega

theorem Dev.restartView_gatherRestart (d : Dev) : d.gatherRestart.restartView = d.restartView := by
  have hflush : ([2, 3, 4, 5, 6, 7].foldl Dev.flushChan d).restartView = d.restartView :=
    foldl_keeps Dev.restartView _ _ fun x c hc => x.restartView_flushChan (by simp at hc; omega)
  unfold Dev.gatherRestart
  generalize List.range 48 = entries
  refine (foldl_keeps Dev.restartView entries _ fun x w _ => ?_).trans hflush
  obtain ⟨ha, hb⟩ := window_not_mem_restartRegs w
  exact (Dev.restartView_setReg _ _ hb).trans (Dev.restartView_setReg _ _ ha)

/-- The blocks that the cores drove begin anew. -/
def Dev.coresCleared (d : Dev) : Dev := (d.restartCores.clearWorking.abandonOps 0).calAbandon.gatherRestart.rxRestart

theorem Dev.restartView_coresCleared (d : Dev) : d.coresCleared.restartView = d.restartView := by
  rw [Dev.coresCleared, Dev.restartView_rxRestart, Dev.restartView_gatherRestart, Dev.restartView_calAbandon,
    Dev.restartView_abandonOps, Dev.restartView_clearWorking, Dev.restartView_restartCores]

/-- The full command set is closed, and no password counts as failed. -/
def Dev.serviceClosed (d : Dev) : Dev :=
  (((d.setFld SVC_STAT_FAILS 0).setFlag SVC_STAT_LOCKOUT false).setFld SVC_STAT_ENTRY 0).setFlag SVC_STAT_SAFE_SET false

theorem Dev.restartView_serviceClosed (d : Dev) : d.serviceClosed.restartView = d.restartView := by
  rw [Dev.serviceClosed, Dev.restartView_setFlag _ _ (by decide), Dev.restartView_setFld _ _ (by decide),
    Dev.restartView_setFlag _ _ (by decide), Dev.restartView_setFld _ _ (by decide)]

theorem Dev.restartView_judgeGate (d : Dev) : d.judgeGate.restartView = d.restartView :=
  restartView_linked (linked_judgeGate d) (by decide)

/-- The console starts anew. -/
def Dev.consoleBegun (d : Dev) : Dev :=
  { d with con := { states := d.con.states, amon := d.con.amon, waitJoin := d.con.waitJoin } }

theorem Dev.restartView_consoleBegun (d : Dev) : d.consoleBegun.restartView = d.restartView := rfl

/-! The beginning of the restart (R112). -/

/-- The banks of the frames that wait for the cores are free again. -/
def Dev.framesFreed (d : Dev) : Dev := (d.trk.queue.map fun f => f.n % 4).foldl (fun d b => d.setOwner b 0) d

theorem Dev.restartView_framesFreed (d : Dev) : d.framesFreed.restartView = d.restartView := by
  refine foldl_keeps Dev.restartView _ _ fun x b _ => ?_
  refine congrArg (·, x.pwr, x.nvm, x.trk.contacts) (List.map_congr_left fun a ha => x.reg_setOwner b 0 ?_)
  revert a
  decide

/-- The restart begins: no contact is left, and none is shown. -/
def Dev.restartBegun (d : Dev) : Dev :=
  let told := d.trk.reported
  let x := { d.framesFreed with pwr := { d.framesFreed.pwr with coreRestart := true } }.dropBaselines
  let y := x.setTrk { x.trk with
    queue := [], contacts := [], pending := [], heldSince := none, hop := none
    restartCancels := x.trk.restartCancels ++ told.map fun r => { r with kind := 3, reason := 8 } }
  let z := (y.bumpBy TRK_CNT_CANCELS told.length).setFlag TRK_STAT_GLOVE false
  let w := { z with
    surf := { z.surf with frame := none },
    com := { z.com with late := z.com.late || (z.isWorker && z.com.armed) } }
  w.setFld TRK_STAT_LIVE 0

theorem Dev.beginRestart_eq (d : Dev) : d.beginRestart =
    d.restartBegun.coresCleared.serviceClosed.judgeGate.consoleBegun := rfl

theorem Dev.restartBegun_begins (d : Dev) : d.restartBegun.pwr = { d.pwr with coreRestart := true } ∧
    d.restartBegun.fld TRK_STAT_LIVE = 0 ∧ d.restartBegun.trk.contacts = [] ∧ d.restartBegun.nvm = d.nvm ∧
    ∀ a ∈ [SYS_RSTCAUSE, SYS_RSTCNT, PWR_STAT], d.restartBegun.reg a = d.reg a := by
  have hview := d.restartView_framesFreed
  refine ⟨congrArg (fun p : Power => { p with coreRestart := true }) (restartView_pwr hview),
    Dev.fld_setFld_same _ _ _ (by decide), rfl, (restartView_nvm hview :), fun a ha => ?_⟩
  have hkept : a ∈ restartRegs ∧ a ≠ TRK_CNT ∧ a ≠ TRK_STAT := by
    revert a
    decide
  obtain ⟨hview', hcnt, hstat⟩ := hkept
  unfold Dev.restartBegun
  extract_lets told _ x _ _ y z w
  have hy : y.reg a = d.reg a := restartView_reg hview hview'
  have hz : z.reg a = y.reg a := (Dev.reg_setFld_ne _ _ _ hstat).trans (Dev.reg_bumpBy_ne _ _ _ hcnt)
  exact (Dev.reg_setFld_ne _ _ _ hstat).trans (hz.trans hy)

/-- A restart of the cores begins: no contact is left; what was recorded, the mode and the EEPROM stay. -/
theorem Dev.beginRestart_begins (d : Dev) : d.beginRestart.pwr = { d.pwr with coreRestart := true } ∧
    d.beginRestart.fld TRK_STAT_LIVE = 0 ∧ d.beginRestart.trk.contacts = [] ∧ d.beginRestart.nvm = d.nvm ∧
    ∀ a ∈ [SYS_RSTCAUSE, SYS_RSTCNT, PWR_STAT], d.beginRestart.reg a = d.reg a := by
  obtain ⟨hpwr, hlive, hcontacts, hnvm, hregs⟩ := d.restartBegun_begins
  have hview : d.restartBegun.coresCleared.serviceClosed.judgeGate.consoleBegun.restartView = d.restartBegun.restartView := by
    rw [Dev.restartView_consoleBegun, Dev.restartView_judgeGate, Dev.restartView_serviceClosed, Dev.restartView_coresCleared]
  rw [Dev.beginRestart_eq]
  refine ⟨(restartView_pwr hview).trans hpwr, ?_, (restartView_contacts hview).trans hcontacts,
    (restartView_nvm hview).trans hnvm, fun a ha => ?_⟩
  · rw [Dev.fld, restartView_reg hview (by decide)]
    exact hlive
  · refine (restartView_reg hview ?_).trans (hregs a ha)
    revert a
    decide

/-! The record of a core watchdog (R114, R117). -/

theorem Dev.recordReset_watchdog (hheld : d.pwr.held = none) (hcycle : d.sameCycle = none) :
    (d.recordReset 8).fld SYS_RSTCAUSE_LAST = 8 ∧
    (d.recordReset 8).fld SYS_RSTCNT_WDTOTAL = min (d.fld SYS_RSTCNT_WDTOTAL + 1) (2 ^ SYS_RSTCNT_WDTOTAL.width - 1) ∧
    (d.recordReset 8).fld SYS_RSTCNT_RESETS = min (d.fld SYS_RSTCNT_RESETS + 1) (2 ^ SYS_RSTCNT_RESETS.width - 1) ∧
    (d.recordReset 8).nvm = d.nvm ∧ (d.recordReset 8).mode = d.mode := by
  have heq : d.recordReset 8 = ((((d.setPwr { d.pwr with causeAt := some (d.ticks, 8) }).setFld SYS_RSTCAUSE_STICKY
      (d.fld SYS_RSTCAUSE_STICKY ||| 2 ^ 7)).setFld SYS_RSTCAUSE_LAST 8).bump SYS_RSTCNT_WDTOTAL).bump SYS_RSTCNT_RESETS := by
    simp only [Dev.recordReset, hcycle, hheld]
    rfl
  rw [heq]
  refine ⟨?_, ?_, ?_, rfl, ?_⟩
  · rw [Dev.fld_bump_apart _ (by decide) (by decide), Dev.fld_bump_apart _ (by decide) (by decide),
      Dev.fld_setFld_same _ _ _ (by decide)]
    rfl
  · rw [Dev.fld_bump_apart _ (by decide) (by decide), Dev.fld_bump_same _ _ (by decide),
      Dev.fld_setFld_apart _ _ (by decide) (by decide), Dev.fld_setFld_apart _ _ (by decide) (by decide)]
    rfl
  · rw [Dev.fld_bump_same _ _ (by decide), Dev.fld_bump_apart _ (by decide) (by decide),
      Dev.fld_setFld_apart _ _ (by decide) (by decide), Dev.fld_setFld_apart _ _ (by decide) (by decide)]
    rfl
  · rw [Dev.mode, Dev.fld_bump_apart _ (by decide) (by decide), Dev.fld_bump_apart _ (by decide) (by decide),
      Dev.fld_setFld_apart _ _ (by decide) (by decide), Dev.fld_setFld_apart _ _ (by decide) (by decide)]
    rfl

/-! The core watchdog (R112, R114). -/

/-- The expiries in the window are counted (R113). -/
def Dev.expiryCounted (d : Dev) (ticks : List Nat) (n : Nat) : Dev :=
  (d.setPwr { d.pwr with wdTicks := ticks }).setFld SYS_RSTCAUSE_WDRECENT n

theorem Dev.expiryCounted_keeps (d : Dev) (ticks : List Nat) (n : Nat) :
    (d.expiryCounted ticks n).pwr.coreRestart = d.pwr.coreRestart ∧ (d.expiryCounted ticks n).nvm = d.nvm ∧
    (d.expiryCounted ticks n).trk.contacts = d.trk.contacts ∧
    ∀ f : Fld, f.apart SYS_RSTCAUSE_WDRECENT = true → (d.expiryCounted ticks n).fld f = d.fld f :=
  ⟨rfl, rfl, rfl, fun _ hf => Dev.fld_setFld_apart _ _ (by decide) hf⟩

theorem Dev.coreWatchdog_eq (hcores : d.pwr.coreRestart = false) (hstep : 4 ≤ d.pwr.step) (hheld : d.pwr.held = none) :
    ∃ ticks n, d.coreWatchdog = (d.recordReset 8).beginRestart.expiryCounted ticks n := by
  unfold Dev.coreWatchdog
  rw [if_neg (by simp [hcores, hheld]; omega)]
  exact ⟨_, _, rfl⟩

theorem coreWatchdog_begins (hcores : s.dev.pwr.coreRestart = false) (hstep : 4 ≤ s.dev.pwr.step)
    (hheld : s.dev.pwr.held = none) (hcycle : s.dev.sameCycle = none) : Completes .coreWatchdog s fun t =>
      t.pwr.coreRestart = true ∧ t.fld SYS_RSTCAUSE_LAST = 8 ∧
      t.fld SYS_RSTCNT_WDTOTAL = min (s.dev.fld SYS_RSTCNT_WDTOTAL + 1) (2 ^ SYS_RSTCNT_WDTOTAL.width - 1) ∧
      t.fld SYS_RSTCNT_RESETS = min (s.dev.fld SYS_RSTCNT_RESETS + 1) (2 ^ SYS_RSTCNT_RESETS.width - 1) ∧
      t.fld TRK_STAT_LIVE = 0 ∧ t.trk.contacts = [] ∧ t.nvm = s.dev.nvm ∧ t.mode = s.dev.mode := by
  obtain ⟨hlast, htotal, hresets, hnvm, hmode⟩ := Dev.recordReset_watchdog hheld hcycle
  obtain ⟨hpwr, hlive, hcontacts, hkept, hregs⟩ := (s.dev.recordReset 8).beginRestart_begins
  obtain ⟨ticks, n, heq⟩ := Dev.coreWatchdog_eq hcores hstep hheld
  obtain ⟨hcores', hnvm', hcontacts', hfld'⟩ := (s.dev.recordReset 8).beginRestart.expiryCounted_keeps ticks n
  have hfld {f : Fld} (hf : f.addr ∈ [SYS_RSTCAUSE, SYS_RSTCNT, PWR_STAT]) (h : f.apart SYS_RSTCAUSE_WDRECENT = true) :
      ((s.dev.recordReset 8).beginRestart.expiryCounted ticks n).fld f = (s.dev.recordReset 8).fld f :=
    (hfld' f h).trans (congrArg (wGet · f.lsb f.width) (hregs _ hf))
  refine completes_of (f := Dev.coreWatchdog) rfl ?_
  rw [heq]
  exact ⟨hcores'.trans (congrArg Power.coreRestart hpwr), (hfld (by decide) (by decide)).trans hlast,
    (hfld (by decide) (by decide)).trans htotal, (hfld (by decide) (by decide)).trans hresets,
    (hfld' _ (by decide)).trans hlive, hcontacts'.trans hcontacts, hnvm'.trans (hkept.trans hnvm),
    (hfld (f := PWR_STAT_MODE) (by decide) (by decide)).trans hmode⟩

/-- Settles O28: wakes, the entry into HIBERNATE, core restarts, the end of start-up, images and references, each by its
command. -/
theorem wakesRestartsAndImages : Obligations.WakesRestartsAndImages := by
  intro s
  exact ⟨wake_watch, wake_hibernate, wakeVcoreTimeout_resets, hibDrainEnd_sleeps, coreWatchdog_begins,
    fun hrestart => ⟨coreRestartEnd_resumes hrestart, coreRestartEnd_safe hrestart⟩, fullRun_ends,
    fun _ words hmanager hkept => ⟨imgReq_unserved words hmanager hkept, imgReq_waits words hmanager hkept,
      imgResult_completes words hmanager hkept⟩,
    referenceReady_internal, referenceReady_refin⟩

end Sys2Proof.Machine
end

section
/-!
SUPPORT. A proxy command that is ignored (R153).
-/

namespace Sys2Proof.Machine

variable {d : Dev}

/-- While BUSY is 1, a command is ignored whatever its key. -/
theorem Dev.writeNvpCmd_busy (hbusy : d.flag SYS_NVP_STAT_BUSY = true) (v : Word) : d.writeNvpCmd v = d.ignoreWrite :=
  if_pos hbusy

/-- A command of the proxy that is ignored is counted and leaves all else as it was. -/
theorem completes_ignored_nvp {s : State} {c : Instr} {key : Byte} {op : Nat}
    (hexec : exec c s = s.run fun d => d.writeNvpCmd (nvpWord key op))
    (hignored : s.dev.writeNvpCmd (nvpWord key op) = s.dev.ignoreWrite) : Completes c s fun t =>
      t.fld SYS_WRIGN_COUNT = min (s.dev.fld SYS_WRIGN_COUNT + 1) (2 ^ SYS_WRIGN_COUNT.width - 1) ∧
      t.boot = s.dev.boot ∧ s.dev.leaves t [SYS_WRIGN] := by
  refine completes_of hexec ?_
  rw [hignored]
  exact ⟨s.dev.fld_ignoreWrite, rfl, s.dev.leaves_ignoreWrite⟩

/-- Settles O13: every command of the proxy is a write of SYS_NVP_CMD, which is ignored without its key or while BUSY is 1. -/
theorem proxyCommandsIgnored : Obligations.ProxyCommandsIgnored := by
  rintro s key c (⟨rfl | rfl, hkey⟩ | ⟨rfl | rfl | rfl | rfl, hbusy⟩)
  · exact completes_ignored_nvp rfl (Dev.writeNvpCmd_keyless (.inl rfl) hkey)
  · exact completes_ignored_nvp rfl (Dev.writeNvpCmd_keyless (.inr rfl) hkey)
  all_goals exact completes_ignored_nvp (key := key) rfl (Dev.writeNvpCmd_busy hbusy _)

end Sys2Proof.Machine
end

section
/-!
SUPPORT. The end of the self-test (R667, R673, R937).
-/

namespace Sys2Proof.Machine

variable {s : State} {d e : Dev}

/-- Whether the tile reads the headers of its own NVM is known from its straps (R144, R149). -/
theorem Dev.readsOwn_congr (h : e.reg SYS_STRAP = d.reg SYS_STRAP) : e.readsOwn = d.readsOwn := by
  simp only [Dev.readsOwn, Dev.isWorker, Dev.role, Dev.flag, Dev.fld, h]

/-- Step 4 goes on while a header is still to be read. -/
theorem Dev.tryStep5_waits (hown : d.readsOwn = true) (hread : d.boot.readA = false) : d.tryStep5 = d :=
  if_neg (by simp [hown, hread])

/-! The fuses (R5, R673). -/

/-- What the fuses show beside the spare columns. -/
def Dev.showFuses (d : Dev) : Dev :=
  let x := (d.setFlag SYS_FUSE_FUSE_OK d.fuses.ok).setFlag SYS_FUSE_KEY_FUSED d.fuses.keyDigest.isSome
  let x := (x.setFlag SYS_BOOT_KEYFUSED d.fuses.keyDigest.isSome).setFlag SYS_REV_GRADE d.fuses.grade
  x.setFld CAL_RC_LEGS d.fuses.rcLegs.toNat

/-- The spare words of the first n banks, from the fuses. -/
def Dev.loadSpares (d : Dev) (n : Nat) : Dev :=
  (List.range n).foldl (fun x i => x.setReg (MEM_SPARE i) (x.fuses.spares.getD i 0)) d

theorem Dev.loadFuses_eq (d : Dev) : d.loadFuses = d.showFuses.loadSpares 16 := rfl

theorem Dev.loadSpares_succ (d : Dev) (n : Nat) : d.loadSpares (n + 1) =
    (d.loadSpares n).setReg (MEM_SPARE n) ((d.loadSpares n).fuses.spares.getD n 0) := by
  simp only [Dev.loadSpares, List.range_succ, List.foldl_append, List.foldl_cons, List.foldl_nil]

theorem Dev.loadSpares_fuses (d : Dev) (n : Nat) : (d.loadSpares n).fuses = d.fuses := by
  induction n with
  | zero => rfl
  | succ n ih => rw [Dev.loadSpares_succ, Dev.setReg_fuses, ih]

theorem Dev.reg_loadSpares (d : Dev) (n : Nat) {i : Nat} (h : i < n) :
    (d.loadSpares n).reg (MEM_SPARE i) = d.fuses.spares.getD i 0 := by
  induction n with
  | zero => omega
  | succ n ih =>
    rw [Dev.loadSpares_succ, Dev.reg_setReg, Dev.loadSpares_fuses]
    by_cases hi : i = n
    · rw [if_pos (by rw [hi]), hi]
    · rw [if_neg (by simpa using hi), ih (by omega)]

theorem Dev.reg_loadSpares_below (d : Dev) (n : Nat) {a : Nat} (h : a < MEM_SPARE 0) : (d.loadSpares n).reg a = d.reg a := by
  induction n with
  | zero => rfl
  | succ n ih => rw [Dev.loadSpares_succ, Dev.reg_setReg, if_neg (by simp only [MEM_SPARE] at h ⊢; omega), ih]

/-- What the fuse load shows; the straps, the boot state and the fuses are as they were. -/
theorem Dev.loadFuses_loads (d : Dev) : d.loadFuses.flag SYS_FUSE_FUSE_OK = d.fuses.ok ∧
    (∀ n, n < 16 → d.loadFuses.reg (MEM_SPARE n) = d.fuses.spares.getD n 0) ∧
    d.loadFuses.reg SYS_STRAP = d.reg SYS_STRAP ∧ d.loadFuses.boot = d.boot ∧ d.loadFuses.fuses = d.fuses := by
  rw [Dev.loadFuses_eq]
  refine ⟨?_, fun n hn => d.showFuses.reg_loadSpares 16 hn, ?_, rfl, rfl⟩
  · rw [Dev.flag, Dev.fld, Dev.reg_loadSpares_below _ _ (by decide)]
    show d.showFuses.flag SYS_FUSE_FUSE_OK = _
    rw [Dev.showFuses, Dev.flag_setFld_apart _ _ (by decide) (by decide), Dev.flag_setFlag_apart _ _ (by decide) (by decide),
      Dev.flag_setFlag_apart _ _ (by decide) (by decide), Dev.flag_setFlag_apart _ _ (by decide) (by decide)]
    exact Dev.flag_setFlag_same _ _ _ (by decide) (by decide)
  · rw [Dev.reg_loadSpares_below _ _ (by decide)]
    have hleaves : d.leaves d.showFuses [SYS_FUSE, SYS_BOOT, SYS_REV, CAL_RC] :=
      leaves_setFld (leaves_setFlag (leaves_setFlag (leaves_setFlag (leaves_setFlag (d.leaves_refl _)
        (by decide)) (by decide)) (by decide)) (by decide)) (by decide)
    exact hleaves.1 _ (by decide)

/-! The march test (R667). -/

/-- A march test without faults: every bank word is 0, and no bank and no column has failed. -/
def Dev.marchPassed (d : Dev) : Dev :=
  let x := { d with banks := [], mem := { d.mem with bad := [] } }
  ((x.setFld MEM_BIST_FAILED 0).setFld MEM_BIST2_COLFAULT 0).setBoot { d.boot with tested := true }

theorem Dev.reg_marchPassed (d : Dev) {a : Nat} (h : a ∉ [MEM_BIST, MEM_BIST2]) : d.marchPassed.reg a = d.reg a := by
  simp only [List.mem_cons, List.not_mem_nil, or_false, not_or] at h
  exact (Dev.reg_setFld_ne _ _ _ h.2).trans (Dev.reg_setFld_ne _ _ _ h.1)

theorem Dev.marchPassed_failed (d : Dev) : d.marchPassed.fld MEM_BIST_FAILED = 0 :=
  (Dev.fld_setFld_apart (f := MEM_BIST_FAILED) (g := MEM_BIST2_COLFAULT) _ 0 (by decide) (by decide)).trans
    (Dev.fld_setFld_same _ MEM_BIST_FAILED 0 (by decide))

/-- With valid fuses, a self-test without faults ends in the fuse load and the march test's mark. -/
theorem Dev.selfTestEnd_passed (hstep : d.pwr.step = 4) (htested : d.boot.tested = false) (hok : d.fuses.ok = true) :
    d.selfTestEnd 0 [] = d.loadFuses.marchPassed.tryStep5 := by
  obtain ⟨-, -, -, -, hfuses⟩ := d.loadFuses_loads
  have hgood : ¬ d.loadFuses.fuses.ok = false := by simp [hfuses, hok]
  unfold Dev.selfTestEnd
  rw [if_pos ⟨hstep, htested⟩, if_neg hgood]
  rfl

theorem selfTestEnd_passes (hstep : s.dev.pwr.step = 4) (htested : s.dev.boot.tested = false) (hok : s.dev.fuses.ok = true)
    (hown : s.dev.readsOwn = true) (hread : s.dev.boot.readA = false) : Completes (.selfTestEnd 0 []) s fun t =>
      t.boot.tested = true ∧ (∀ b w, t.bank b w = 0) ∧ t.mem.bad = [] ∧ t.fld MEM_BIST_FAILED = 0 ∧
      t.flag SYS_FUSE_FUSE_OK = true ∧ (∀ n, n < 16 → t.reg (MEM_SPARE n) = s.dev.fuses.spares.getD n 0) := by
  obtain ⟨hshown, hspares, hstrap, hboot, -⟩ := s.dev.loadFuses_loads
  have hown' : s.dev.loadFuses.marchPassed.readsOwn = true :=
    (Dev.readsOwn_congr ((Dev.reg_marchPassed _ (by decide)).trans hstrap)).trans hown
  have hread' : s.dev.loadFuses.marchPassed.boot.readA = false := (congrArg Boot.readA hboot).trans hread
  refine completes_of (f := fun d => d.selfTestEnd 0 []) rfl ?_
  simp only [Dev.selfTestEnd_passed hstep htested hok, Dev.tryStep5_waits hown' hread']
  refine ⟨rfl, fun _ _ => rfl, rfl, Dev.marchPassed_failed _, ?_, fun n hn => ?_⟩
  · rw [Dev.flag, Dev.fld, Dev.reg_marchPassed _ (by decide)]
    exact hshown.trans hok
  · rw [Dev.reg_marchPassed _ (by simp [MEM_SPARE, MEM_BIST, MEM_BIST2]; omega), hspares n hn]

end Sys2Proof.Machine
end

section
/-!
SUPPORT. The headers of step 4 and the slots of step 5 (R144, R145, R160, R439).
-/

namespace Sys2Proof.Machine

variable {s : State} {d : Dev}

/-! The header of slot A, with that of slot B still to be read (R144, R439). -/

/-- Slot A's header is noted: kept when it is valid, else the slot has its result. -/
def Dev.noteHeaderA (d : Dev) (code : Nat) (h : List Byte) : Dev :=
  let x := if code = 0 then d.nvmIdle else d.nvmIdle.setFld SYS_BOOT_A_RESULT code
  x.setBoot { d.boot with readA := true, hdrA := if code = 0 then some h else none }

/-- With the other header still to be read, no slot is chosen yet. -/
theorem Dev.headerRead_first (hother : d.boot.readB = false) (code : Nat) (h : List Byte) :
    d.headerRead false code h = d.noteHeaderA code h := by
  have hunread : ¬ ((d.noteHeaderA code h).boot.readA && (d.noteHeaderA code h).boot.readB) = true := by
    simp [Dev.noteHeaderA, hother]
  unfold Dev.noteHeaderA at hunread ⊢
  unfold Dev.headerRead
  by_cases hcode : code = 0
  · simp only [if_pos hcode] at hunread ⊢
    exact if_neg hunread
  · simp only [if_neg hcode] at hunread ⊢
    exact if_neg hunread

/-- A header with a result of its own is not kept. -/
theorem Dev.noteHeaderA_failed {code : Nat} (hcode : code ≠ 0) (hfits : code < 16) (h : List Byte) :
    (d.noteHeaderA code h).fld SYS_BOOT_A_RESULT = code ∧ (d.noteHeaderA code h).boot.readA = true ∧
    (d.noteHeaderA code h).boot.hdrA = none := by
  simp only [Dev.noteHeaderA, if_neg hcode]
  exact ⟨(d.nvmIdle.fld_setFld_same SYS_BOOT_A_RESULT code (by decide)).trans (Nat.mod_eq_of_lt hfits), rfl, rfl⟩

/-- A valid header is kept, and its slot has no result yet. -/
theorem Dev.noteHeaderA_valid (h : List Byte) : (d.noteHeaderA 0 h).boot.hdrA = some h ∧
    (d.noteHeaderA 0 h).fld SYS_BOOT_A_RESULT = d.fld SYS_BOOT_A_RESULT :=
  ⟨rfl, Dev.fld_setFlag_apart (f := SYS_BOOT_A_RESULT) (g := TWB_STAT_NVBUSY) _ false (by decide) (by decide)⟩

section

variable (hdue : s.dev.headerDue false = true) (hother : s.dev.boot.readB = false)
include hdue hother

theorem headerReadEnd_unacknowledged : Completes (.headerReadEnd false false) s fun t =>
    t.fld SYS_BOOT_A_RESULT = 2 ∧ t.boot.readA = true ∧ t.boot.hdrA = none := by
  refine completes_of (f := fun d => d.headerReadEnd false false) rfl ?_
  simp only [Dev.headerReadEnd, if_pos hdue, Bool.false_eq_true, if_false, Dev.headerRead_first hother]
  exact Dev.noteHeaderA_failed (by decide) (by decide) _

theorem headerReadEnd_valid (hvalid : headerCode (s.dev.nvmRead slotBaseA 32) = 0) :
    Completes (.headerReadEnd false true) s fun t => t.boot.hdrA = some (s.dev.nvmRead slotBaseA 32) ∧
      t.fld SYS_BOOT_A_RESULT = s.dev.fld SYS_BOOT_A_RESULT := by
  refine completes_of (f := fun d => d.headerReadEnd false true) rfl ?_
  simp only [Dev.headerReadEnd, if_pos hdue, Bool.false_eq_true, if_false, if_true, hvalid, Dev.headerRead_first hother]
  exact Dev.noteHeaderA_valid _

theorem headerReadTimeout_ends : Completes (.headerReadTimeout false) s fun t =>
    t.fld SYS_BOOT_A_RESULT = 3 ∧ t.boot.readA = true ∧ t.boot.hdrA = none := by
  refine completes_of (f := fun d => if d.headerDue false then d.headerRead false 3 [] else d) rfl ?_
  simp only [if_pos hdue, Dev.headerRead_first hother]
  exact Dev.noteHeaderA_failed (by decide) (by decide) _

theorem resumeAddressTimeout_header (hop : s.dev.twb.nvOp = 1) : Completes .resumeAddressTimeout s fun t =>
    t.fld SYS_BOOT_A_RESULT = 2 ∧ t.boot.readA = true ∧ t.boot.hdrA = none := by
  have hstep : ¬ s.dev.pwr.step = 5 := by
    simp only [Dev.headerDue, Bool.and_eq_true, beq_iff_eq] at hdue
    omega
  have hfirst : (s.dev.headerDue false && s.dev.twb.nvOp != 2) = true := by simp [hdue, hop]
  refine completes_of (f := Dev.resumeTimeout) rfl ?_
  simp only [Dev.resumeTimeout, if_neg hstep, if_pos hfirst, Dev.headerRead_first hother]
  exact Dev.noteHeaderA_failed (by decide) (by decide) _

end

/-! Slot A, tried first (R145, R160). -/

/-- No image was rejected for its sections: the result alone tells. -/
theorem Dev.noteReject_other {v : Verdict} (hsections : v.code ≠ 12) (hfields : v.code ≠ 13) (wher : Nat) :
    d.noteReject wher v = d := if_neg (by simp [hsections, hfields])

/-- Another slot's result leaves that of slot A. -/
theorem Dev.spareSlot_resultA (d : Dev) : (d.spareSlot 2).fld SYS_BOOT_A_RESULT = d.fld SYS_BOOT_A_RESULT := by
  unfold Dev.spareSlot
  split
  · exact Dev.fld_setFld_apart (g := SYS_BOOT_B_RESULT) _ _ (by decide) (by decide)
  · rfl

/-- With a valid header in slot B that was not tried, slot A's failure leads to slot B. -/
theorem Dev.slotFailed_next {g : List Byte} {code : Nat} (htrying : d.boot.trying = 1) (hother : d.boot.hdrB = some g)
    (huntried : d.fld SYS_BOOT_B_RESULT = 0) (hcode : code < 12) :
    (d.slotFailed { code := code }).fld SYS_BOOT_A_RESULT = code ∧ (d.slotFailed { code := code }).boot.trying = 2 := by
  have hresult : (d.nvmIdle.setFld SYS_BOOT_A_RESULT code).fld SYS_BOOT_A_RESULT = code :=
    (Dev.fld_setFld_same _ _ _ (by decide)).trans (Nat.mod_eq_of_lt (by simp; omega))
  have hnext : (d.nvmIdle.setFld SYS_BOOT_A_RESULT code).fld SYS_BOOT_B_RESULT = 0 :=
    ((Dev.fld_setFld_apart _ _ (by decide) (by decide)).trans (Dev.fld_setFlag_apart _ _ (by decide) (by decide))).trans huntried
  have hheader : (d.nvmIdle.setFld SYS_BOOT_A_RESULT code).boot.hdrB.isSome = true := by
    show d.boot.hdrB.isSome = true
    rw [hother]
    rfl
  have heq : d.slotFailed { code := code } = (d.nvmIdle.setFld SYS_BOOT_A_RESULT code).setBoot { d.boot with trying := 2 } := by
    simp only [Dev.slotFailed, htrying, slotField, if_true]
    rw [Dev.noteReject_other (v := { code := code }) (by simp; omega) (by simp; omega)]
    exact if_pos ⟨hheader, hnext⟩
  rw [heq]
  exact ⟨hresult, rfl⟩

section

variable {h : List Byte} (hstep : s.dev.pwr.step = 5) (htrying : s.dev.boot.trying = 1) (hheader : s.dev.boot.hdrA = some h)
include hstep htrying

theorem slotCheckTimeout_next {g : List Byte} (hother : s.dev.boot.hdrB = some g) (huntried : s.dev.fld SYS_BOOT_B_RESULT = 0) :
    Completes .slotCheckTimeout s fun t => t.fld SYS_BOOT_A_RESULT = 3 ∧ t.boot.trying = 2 := by
  refine completes_of (f := fun d => d.slotEnds 3) rfl ?_
  simp only [Dev.slotEnds, if_pos (And.intro hstep (Or.inl htrying))]
  exact Dev.slotFailed_next htrying hother huntried (by decide)

include hheader

/-- While slot A is tried, the end of its read judges its bytes. -/
theorem Dev.slotReadEnd_slotA : s.dev.slotReadEnd =
    if (s.dev.nvmRead slotBaseA (headerLen h)).take 32 ≠ h then s.dev.slotFailed { code := 7 }
    else if (s.dev.checkImage (s.dev.nvmRead slotBaseA (headerLen h))).code = 1 then
      s.dev.slotLoaded (s.dev.nvmRead slotBaseA (headerLen h)) (s.dev.checkImage (s.dev.nvmRead slotBaseA (headerLen h)))
    else s.dev.slotFailed (s.dev.checkImage (s.dev.nvmRead slotBaseA (headerLen h))) := by
  have hslot : s.dev.slotHeader 1 = some h := hheader
  simp only [Dev.slotReadEnd, htrying, hslot, hstep, true_and, true_or, if_true]

theorem slotReadEnd_differs {g : List Byte} (hother : s.dev.boot.hdrB = some g) (huntried : s.dev.fld SYS_BOOT_B_RESULT = 0)
    (hdiffers : (s.dev.nvmRead slotBaseA (headerLen h)).take 32 ≠ h) :
    Completes .slotReadEnd s fun t => t.fld SYS_BOOT_A_RESULT = 7 ∧ t.boot.trying = 2 := by
  refine completes_of (f := Dev.slotReadEnd) rfl ?_
  rw [Dev.slotReadEnd_slotA hstep htrying hheader, if_pos hdiffers]
  exact Dev.slotFailed_next htrying hother huntried (by decide)

theorem slotReadEnd_applies (hsame : (s.dev.nvmRead slotBaseA (headerLen h)).take 32 = h)
    (hpassed : (s.dev.checkImage (s.dev.nvmRead slotBaseA (headerLen h))).code = 1) :
    Completes .slotReadEnd s fun t => ∃ e : Dev, e.fld SYS_BOOT_A_RESULT = 1 ∧
      t = (e.applyImage 1 (s.dev.nvmRead slotBaseA (headerLen h))
        (s.dev.checkImage (s.dev.nvmRead slotBaseA (headerLen h)))).endStep5 := by
  refine completes_of (f := Dev.slotReadEnd) rfl ?_
  rw [Dev.slotReadEnd_slotA hstep htrying hheader, if_neg (not_not.2 hsame), if_pos hpassed]
  simp only [Dev.slotLoaded, htrying]
  refine ⟨_, ?_, rfl⟩
  refine (Dev.fld_setFlag_apart _ _ (by decide) (by decide)).trans ((Dev.spareSlot_resultA _).trans ?_)
  exact Dev.fld_setFld_same _ SYS_BOOT_A_RESULT 1 (by decide)

end

end Sys2Proof.Machine
end

section
/-!
SUPPORT. The image over the link, on the worker's side (R147, R148, R547).
-/

namespace Sys2Proof.Machine

variable {s : State} {d : Dev}

theorem linkImageRequest_hands (hwaits : s.dev.boot.linkWait = true) (hknown : s.dev.surf.known = true)
    (hport : s.dev.fld EGL_STAT_PORTSUP ≠ 0) : Completes .linkImageRequest s fun t => s.dev.hands t msgImgReq 0 [] := by
  refine completes_of (f := Dev.linkImageRequest) rfl ?_
  rw [Dev.linkImageRequest, if_pos ⟨hwaits, hknown, hport⟩]
  exact ⟨s.dev.send msgImgReq 0 [], rfl, rfl⟩

/-- The time-out of the link image is noted and handed to the link before the tile goes on without an image. -/
theorem linkImageTimeout_reports (hwaits : s.dev.boot.linkWait = true) : Completes .linkImageTimeout s fun t =>
    ∃ e : Dev, e.fld SYS_BOOT_LINK_RESULT = 15 ∧ e.outbox = s.dev.outbox ++ [⟨msgImgResult, 0, [15]⟩] ∧
      t = e.issueOps.noImage := by
  refine completes_of (f := fun d => if d.boot.linkWait then d.linkFailed { code := 15 } else d) rfl ?_
  rw [if_pos hwaits, Dev.linkFailed, Dev.noteReject_other (v := { code := 15 }) (by decide) (by decide)]
  exact ⟨(s.dev.setFld SYS_BOOT_LINK_RESULT 15).send msgImgResult 0 [word 15],
    Dev.fld_setFld_same s.dev SYS_BOOT_LINK_RESULT 15 (by decide), rfl, rfl⟩

/-- A piece in offset order is kept while the header, or the rest of the image, is still to come. -/
theorem imgData_takes {src : BitVec 10} {off : Word} {ws : List Word} (hwaits : s.dev.boot.linkWait = true)
    (horder : off.toNat = s.dev.boot.linkBuf.length)
    (hmore : (s.dev.boot.linkBuf ++ ws.flatMap wordBytes).length < 32 ∨
      headerCode ((s.dev.boot.linkBuf ++ ws.flatMap wordBytes).take 32) = 0 ∧
      (s.dev.boot.linkBuf ++ ws.flatMap wordBytes).length < headerLen (s.dev.boot.linkBuf ++ ws.flatMap wordBytes)) :
    Completes (.imgData src (off :: ws)) s fun t =>
      t.boot.linkBuf = s.dev.boot.linkBuf ++ ws.flatMap wordBytes ∧ s.dev.leaves t [] := by
  refine completes_of (f := fun d => d.imgData (off :: ws)) rfl ?_
  simp only [Dev.imgData, List.getD_cons_zero, List.drop_one, List.tail_cons, if_pos (And.intro hwaits horder)]
  split
  · exact ⟨rfl, leaves_of (s.dev.leaves_refl _) rfl rfl rfl rfl⟩
  next hlong =>
    obtain ⟨hvalid, hpart⟩ := hmore.resolve_left hlong
    rw [if_neg (not_not.2 hvalid), if_pos hpart]
    exact ⟨rfl, leaves_of (s.dev.leaves_refl _) rfl rfl rfl rfl⟩

/-- Settles O11: the self-test, the header and the slot of A, and the image over the link, each by its command. -/
theorem startUpTestsReadsAndLoads : Obligations.StartUpTestsReadsAndLoads := by
  intro s
  exact ⟨selfTestEnd_passes,
    fun hdue hother => ⟨headerReadEnd_unacknowledged hdue hother, headerReadTimeout_ends hdue hother,
      resumeAddressTimeout_header hdue hother, headerReadEnd_valid hdue hother⟩,
    fun _ _ hstep htrying hheader hother huntried => ⟨slotReadEnd_differs hstep htrying hheader hother huntried,
      slotCheckTimeout_next hstep htrying hother huntried⟩,
    fun _ hstep htrying hheader => slotReadEnd_applies hstep htrying hheader,
    linkImageRequest_hands, linkImageTimeout_reports,
    fun _ _ _ hwaits horder hmore => imgData_takes hwaits horder (hmore _ rfl)⟩

end Sys2Proof.Machine
end

section
/-!
SUPPORT. Commands to PWR_CMD that are ignored (R168).
-/

namespace Sys2Proof.Machine

variable {s : State} {d : Dev}

/-- The tiles and modes that ignore PWR_CMD. -/
theorem Dev.pwrCmdIgnored_iff : d.pwrCmdIgnored = true ↔
    d.isWorker = true ∨ d.mode = modeService ∨ d.mode = modeSafe ∨ d.mode = modeStart := by
  simp only [Dev.pwrCmdIgnored, Bool.or_eq_true, beq_iff_eq, or_assoc]

theorem Dev.writePwrCmd_ignored (h : d.pwrCmdIgnored = true) (v : Word) : d.writePwrCmd v = d.ignoreWrite := if_pos h

/-- A word written to the address of PWR_CMD reaches PWR_CMD, on a tile that is awake (R11). -/
theorem Dev.writeHost_pwrCmd (rq : Requester) {addr : BitVec 16} (v : Word) (haddr : addr.toNat = PWR_CMD)
    (hawake : d.asleep = false) : d.writeHost rq addr.toNat v = d.writePwrCmd v := by
  have hwin : d.inWindow addr.toNat = false := by simp [Dev.inWindow, haddr, PWR_CMD]
  have hlocal : d.localAddr (addr.toNat % 65536) = PWR_CMD := (Dev.localAddr_of_not_inWindow hwin).trans haddr
  have hdefined : ¬ (regDefined PWR_CMD = false ∨ regReadOnly PWR_CMD = true) := by decide
  have hnear : d.notAwake PWR_CMD = false := by simp [Dev.notAwake, PWR_CMD]
  rw [Dev.writeHost_eq_writeLocal rq v hwin, Dev.writeLocal, hlocal]
  simp only [hawake, Dev.writeReg, if_neg hdefined, hnear, Bool.false_eq_true, if_false]
  rfl

/-- A command that is ignored is counted, and no request arises. -/
theorem completes_ignored_modes {c : Instr} {f : Dev → Dev} (hexec : exec c s = s.run f)
    (hignored : f s.dev = s.dev.ignoreWrite) : Completes c s fun t =>
      t.fld SYS_WRIGN_COUNT = min (s.dev.fld SYS_WRIGN_COUNT + 1) (2 ^ SYS_WRIGN_COUNT.width - 1) ∧
      t.modes = s.dev.modes ∧ s.dev.leaves t [SYS_WRIGN] := by
  refine completes_of hexec ?_
  rw [hignored]
  exact ⟨s.dev.fld_ignoreWrite, rfl, s.dev.leaves_ignoreWrite⟩

/-- The three commands of PWR_CMD are ignored where R168 says. -/
theorem completes_ignored_pwrCmd (h : s.dev.pwrCmdIgnored = true) {c : Instr} {mode : BitVec 3}
    (hc : c = .modeRequest mode ∨ c = .holdSet ∨ c = .holdClear) : Completes c s fun t =>
      t.fld SYS_WRIGN_COUNT = min (s.dev.fld SYS_WRIGN_COUNT + 1) (2 ^ SYS_WRIGN_COUNT.width - 1) ∧
      t.modes = s.dev.modes ∧ s.dev.leaves t [SYS_WRIGN] := by
  obtain rfl | rfl | rfl := hc
  · exact completes_ignored_modes (f := fun d => d.writePwrCmd (pack [(1, 4), (mode.toNat, 0)])) rfl
      (Dev.writePwrCmd_ignored h _)
  · exact completes_ignored_modes (f := fun d => d.writePwrCmd (pack [(1, 8)])) rfl (Dev.writePwrCmd_ignored h _)
  · exact completes_ignored_modes (f := fun d => d.writePwrCmd (pack [(2, 8)])) rfl (Dev.writePwrCmd_ignored h _)

/-- Settles O27: each command, and each word written to PWR_CMD, is a write that is ignored. -/
theorem powerCommandsIgnored : Obligations.PowerCommandsIgnored := by
  intro s hwhere c mode rq addr value hc
  have hignored : s.dev.pwrCmdIgnored = true := by
    obtain hworker | hsafe | hservice | hstart := hwhere
    · exact Dev.pwrCmdIgnored_iff.2 (.inl hworker)
    · exact Dev.pwrCmdIgnored_iff.2 (.inr (.inr (.inl hsafe)))
    · exact Dev.pwrCmdIgnored_iff.2 (.inr (.inl hservice))
    · exact Dev.pwrCmdIgnored_iff.2 (.inr (.inr (.inr hstart)))
  obtain hrequest | hset | hclear | ⟨rfl, haddr, hawake⟩ := hc
  · exact completes_ignored_pwrCmd hignored (.inl hrequest)
  · exact completes_ignored_pwrCmd (mode := mode) hignored (.inr (.inl hset))
  · exact completes_ignored_pwrCmd (mode := mode) hignored (.inr (.inr hclear))
  · exact completes_ignored_modes (f := fun d => d.writeHost rq addr.toNat value) rfl
      ((Dev.writeHost_pwrCmd rq value haddr hawake).trans (Dev.writePwrCmd_ignored hignored _))

end Sys2Proof.Machine
end

section
/-!
SUPPORT. Mode requests: those of PWR_CMD, the automatic ones, and those of a manager and of an orphaned worker (R167, R169,
R170, R173, R190).
-/

namespace Sys2Proof.Machine

variable {s : State} {d : Dev}

/-- A request for a mode waits for its frame, and nothing else is shown (PENDING and TARGET). -/
def Dev.Awaits (d t : Dev) (mode : Nat) : Prop :=
  t.flag PWR_STAT_PENDING = true ∧ t.fld PWR_STAT_TARGET = mode ∧ t.mode = d.mode ∧ d.leaves t [PWR_STAT]

theorem Dev.markPending_awaits (d : Dev) {m : Modes} {mode : Nat} (hwaiting : m.waiting = true) (hmode : mode < 8) :
    d.Awaits ((d.setModes m).markPending (some mode)) mode := by
  have hset : d.leaves (d.setModes m) [PWR_STAT] := leaves_of (d.leaves_refl _) rfl rfl rfl rfl
  refine ⟨?_, ?_, ?_, leaves_setFld (leaves_setFlag hset (by decide)) (by decide)⟩
  · exact (Dev.flag_setFld_apart _ _ (by decide) (by decide)).trans
      ((Dev.flag_setFlag_same _ _ _ (by decide) (by decide)).trans hwaiting)
  · exact (Dev.fld_setFld_same _ PWR_STAT_TARGET _ (by decide)).trans (Nat.mod_eq_of_lt hmode)
  · exact (Dev.fld_setFld_apart _ _ (by decide) (by decide)).trans (Dev.fld_setFlag_apart _ _ (by decide) (by decide))

theorem Dev.askMode_alone (h : d.onSurface = false) (mode reason : Nat) :
    d.askMode mode reason = (d.placeMode mode reason none).markPending (some mode) := by
  simp [Dev.askMode, h]

/-! PWR_CMD (R167 to R169, R190). -/

/-- The word of MODE_REQUEST: GO with the mode, and no HOLDOP. -/
theorem wGet_modeRequest (mode : BitVec 3) : wGet (pack [(1, 4), (mode.toNat, 0)]) 8 2 = 0 ∧
    wGet (pack [(1, 4), (mode.toNat, 0)]) 4 1 = 1 ∧ wGet (pack [(1, 4), (mode.toNat, 0)]) 0 3 = mode.toNat := by
  revert mode
  decide

theorem Dev.writePwrCmd_request (h : d.pwrCmdIgnored = false) {mode : BitVec 3} (hmode : mode.toNat ≤ 3) :
    d.writePwrCmd (pack [(1, 4), (mode.toNat, 0)]) = d.requestMode mode.toNat 1 := by
  obtain ⟨hhold, hgo, hfield⟩ := wGet_modeRequest mode
  simp [Dev.writePwrCmd, h, hhold, hgo, hfield, hmode, Dev.holdOp]

/-- A write of HOLDOP alone. -/
theorem Dev.writePwrCmd_hold (h : d.pwrCmdIgnored = false) {op : Nat} (hop : op = 1 ∨ op = 2) :
    d.writePwrCmd (pack [(op, 8)]) = d.setFlag PWR_STAT_HOLD (op == 1) := by
  obtain rfl | rfl := hop
  · have hop : wGet (pack [(1, 8)]) 8 2 = 1 ∧ wGet (pack [(1, 8)]) 4 1 = 0 := by decide
    simp [Dev.writePwrCmd, h, hop, Dev.holdOp]
  · have hop : wGet (pack [(2, 8)]) 8 2 = 2 ∧ wGet (pack [(2, 8)]) 4 1 = 0 := by decide
    simp [Dev.writePwrCmd, h, hop, Dev.holdOp]

theorem modeRequest_waits (hacts : s.dev.pwrCmdIgnored = false) {mode : BitVec 3} (hmode : mode.toNat ≤ 3)
    (hother : mode.toNat ≠ s.dev.mode) (hfree : s.dev.modeHeld = false) (halone : s.dev.onSurface = false)
    (hallowed : mode.toNat = 3 → s.dev.hibernateBarred = false) : Completes (.modeRequest mode) s fun t =>
      t.modes.host = some ⟨mode.toNat, none, 1⟩ ∧ t.flag PWR_STAT_PENDING = true ∧ t.fld PWR_STAT_TARGET = mode.toNat ∧
      t.modes.auto = s.dev.modes.auto ∧ t.mode = s.dev.mode ∧ s.dev.leaves t [PWR_STAT] := by
  have hasks : s.dev.requestMode mode.toNat 1 = s.dev.askMode mode.toNat 1 := by
    have hbar : ¬ (mode.toNat = modeHibernate ∧ s.dev.hibernateBarred = true) := by
      rintro ⟨hhib, hbarred⟩
      simp [hallowed hhib] at hbarred
    have hnew : ¬ (mode.toNat = s.dev.mode ∧ s.dev.modes.waiting = false) := fun h => hother h.1
    simp only [Dev.requestMode, if_neg hbar, hfree, Bool.false_eq_true, if_false, Dev.issueMode, if_neg hnew]
  refine completes_of (f := fun d => d.writePwrCmd (pack [(1, 4), (mode.toNat, 0)])) rfl ?_
  rw [Dev.writePwrCmd_request hacts hmode, hasks, Dev.askMode_alone halone]
  obtain ⟨hpending, htarget, hsame, hleaves⟩ := s.dev.markPending_awaits
    (m := { s.dev.modes with host := some ⟨mode.toNat, none, 1⟩ }) (by simp [Modes.waiting]) mode.isLt
  exact ⟨rfl, hpending, htarget, rfl, hsame, hleaves⟩

/-- While USB bars HIBERNATE the request is answered by source 12 alone (R190). -/
theorem modeRequest_barred (hacts : s.dev.pwrCmdIgnored = false) (hbarred : s.dev.hibernateBarred = true) :
    Completes (.modeRequest 3) s fun t =>
      s.dev.rang t 12 (modeW1 s.dev.mode s.dev.mode 1) (word s.dev.time.frame) ∧ t.modes.host = s.dev.modes.host ∧
      s.dev.leavesRing t [] := by
  refine completes_of (f := fun d => d.writePwrCmd (pack [(1, 4), ((3 : BitVec 3).toNat, 0)])) rfl ?_
  rw [Dev.writePwrCmd_request hacts (by decide), Dev.requestMode, if_pos ⟨rfl, hbarred⟩]
  exact ⟨rang_ring rfl .., Dev.ring_modes_host .., leavesRing_ring (leavesRing_of_leaves (s.dev.leaves_refl _)) ..⟩

/-- HOLD_SET and HOLD_CLEAR (R169). -/
theorem holdOp_completes {c : Instr} {op : Nat} (hexec : exec c s = s.run fun d => d.writePwrCmd (pack [(op, 8)]))
    (hacts : s.dev.pwrCmdIgnored = false) (hop : op = 1 ∨ op = 2) : Completes c s fun t =>
      t.flag PWR_STAT_HOLD = (op == 1) ∧ t.modes = s.dev.modes ∧ s.dev.leaves t [PWR_STAT] := by
  refine completes_of hexec ?_
  rw [Dev.writePwrCmd_hold hacts hop]
  exact ⟨Dev.flag_setFlag_same _ _ _ (by decide) (by decide), rfl, leaves_setFlag (s.dev.leaves_refl _) (by decide)⟩

/-! Automatic requests (R169, R170). -/

theorem Dev.askMode_auto (halone : d.onSurface = false) {mode : Nat} (hmode : mode < 8) :
    (d.askMode mode 2).modes.auto = some ⟨mode, none, 2⟩ ∧ d.Awaits (d.askMode mode 2) mode := by
  rw [Dev.askMode_alone halone]
  exact ⟨rfl, d.markPending_awaits (m := { d.modes with auto := some ⟨mode, none, 2⟩ }) (by simp [Modes.waiting]) hmode⟩

/-- A command that asks for a mode of the tile's own accord. -/
theorem autoMode_completes {c : Instr} {f : Dev → Dev} (hexec : exec c s = s.run f) {mode : Nat}
    (hf : f s.dev = s.dev.autoMode mode) (halone : s.dev.onSurface = false) (hmode : mode < 8) :
    Completes c s fun t => ∃ e : Dev, e.modes.auto = some ⟨mode, none, 2⟩ ∧ e.flag PWR_STAT_PENDING = true ∧
      e.fld PWR_STAT_TARGET = mode ∧ e.mode = s.dev.mode ∧ s.dev.leaves e [PWR_STAT] ∧ t = e.issueOps := by
  obtain ⟨hauto, hpending, htarget, hsame, hleaves⟩ := Dev.askMode_auto halone hmode
  refine completes_of hexec ?_
  rw [hf]
  exact ⟨s.dev.askMode mode 2, hauto, hpending, htarget, hsame, hleaves, rfl⟩

/-! A worker and its manager (R170, R173, R868). -/

theorem mode_taken (hworker : s.dev.isWorker = true) (mode : BitVec 3) (apply : Word) (hsafe : s.dev.mode ≠ modeSafe)
    (hstart : s.dev.mode ≠ modeStart) (hrequest : s.dev.con.request = 0) : Completes (.mode mode false apply) s fun t =>
      t.modes.manager = some ⟨mode.toNat, some apply.toNat, 6⟩ ∧ t.flag PWR_STAT_PENDING = true ∧
      t.fld PWR_STAT_TARGET = mode.toNat ∧ t.mode = s.dev.mode ∧ s.dev.leaves t [PWR_STAT] := by
  have hmsg : s.dev.modeCommand mode.toNat false apply.toNat = s.dev.managerAsked mode.toNat apply.toNat := by
    simp [Dev.modeCommand, Dev.modeMsg, Dev.serviceAnswered, Dev.managerAsked, hworker, hsafe, hstart, hrequest]
  refine completes_of (f := fun d => d.modeCommand mode.toNat false apply.toNat) rfl ?_
  rw [hmsg]
  exact ⟨rfl, s.dev.markPending_awaits (m := { s.dev.modes with manager := some ⟨mode.toNat, some apply.toNat, 6⟩ })
    (by simp [Modes.waiting]) mode.isLt⟩

theorem stretch_taken (hworker : s.dev.isWorker = true) (mode : BitVec 3) (apply : Word) :
    Completes (.mode mode true apply) s fun t => t.cal.stretch = some apply.toNat ∧
      t.flag CAL_STAT_STRETCH = true ∧ t.modes = s.dev.modes ∧ s.dev.leaves t [CAL_STAT] := by
  refine completes_of (f := fun d => d.modeCommand mode.toNat true apply.toNat) rfl ?_
  rw [Dev.modeCommand, if_pos rfl, Dev.stretchMsg, if_pos hworker]
  exact ⟨rfl, Dev.flag_setFlag_same _ _ _ (by decide) (by decide), rfl,
    leaves_setFlag (leaves_of (s.dev.leaves_refl _) rfl rfl rfl rfl) (by decide)⟩

theorem orphan_asks (hworker : s.dev.isWorker = true) (hstep : s.dev.pwr.step = 8)
    (hmode : s.dev.mode = modeWatch ∨ s.dev.mode = modeIdle ∨ s.dev.mode = modeActive ∨ s.dev.mode = modeService)
    (hjoined : s.dev.flag EGL_TILE_JOINED = true) : Completes .orphan s fun t =>
      t.modes.orphan = some ⟨modeHibernate, none, 7⟩ ∧ t.flag PWR_STAT_PENDING = true ∧
      t.fld PWR_STAT_TARGET = modeHibernate ∧ t.mode = s.dev.mode ∧ s.dev.leaves t [PWR_STAT] := by
  refine completes_of (f := fun d =>
    if d.isWorker ∧ d.pwr.step = 8 ∧
        (d.mode = modeWatch ∨ d.mode = modeIdle ∨ d.mode = modeActive ∨ d.mode = modeService) then
      if d.flag EGL_TILE_JOINED then
        (d.setModes { d.modes with orphan := some ⟨modeHibernate, none, 7⟩ }).markPending (some modeHibernate)
      else d.changeMode modeHibernate 7 d.time.frame
    else d) rfl ?_
  rw [if_pos ⟨hworker, hstep, hmode⟩, if_pos hjoined]
  exact ⟨rfl, s.dev.markPending_awaits (m := { s.dev.modes with orphan := some ⟨modeHibernate, none, 7⟩ })
    (by simp [Modes.waiting]) (by decide)⟩

theorem modeAck_notes (hmanager : s.dev.isManager = true) (tile : BitVec 10) : Completes (.modeAck tile) s fun t =>
    t.modes.acksDue = s.dev.modes.acksDue.filter (· != tile.toNat) ∧ (t.tile tile.toNat).seen = s.dev.time.frame ∧
    s.dev.leaves t [] := by
  refine completes_of (f := fun d => d.modeAck tile.toNat) rfl ?_
  rw [Dev.modeAck, if_pos hmanager]
  exact ⟨rfl, congrArg Tile.seen (s.dev.tile_noteTile tile.toNat),
    leaves_of (s.dev.leaves_noteTile tile.toNat []) rfl rfl rfl rfl⟩

/-! Wake sources (R195) and HOSTWAKE (R186, R187). -/

theorem wakeSourceEnable_takes (value : Word) : Completes (.wakeSourceEnable value) s fun t =>
    t.fld PWR_WAKEEN_EN = value.toNat % 128 ∧ s.dev.leaves t [PWR_WAKEEN, PWR_WAKECNT] := by
  refine completes_of (f := fun d => d.writeWakeEn value) rfl ⟨?_, ?_⟩
  · exact (Dev.fld_setFld_apart _ _ (by decide) (by decide)).trans
      (s.dev.fld_setFld_same PWR_WAKEEN_EN value.toNat (by decide))
  · exact leaves_setFld (leaves_setFld (s.dev.leaves_refl _) (by decide)) (by decide)

/-- HOSTWAKE is low, and nothing but its register has changed. -/
theorem Dev.hostWakeLow_falls (d : Dev) : d.hostWakeLow.modes.hostwake = false ∧ d.hostWakeLow.flag PWR_HOST_HWPIN = false ∧
    d.hostWakeLow.fld PWR_HOST_HWTO = d.fld PWR_HOST_HWTO ∧ d.leaves d.hostWakeLow [PWR_HOST] :=
  ⟨rfl, Dev.flag_setFlag_same _ _ _ (by decide) (by decide), Dev.fld_setFlag_apart _ _ (by decide) (by decide),
    leaves_setFlag (leaves_of (d.leaves_refl _) rfl rfl rfl rfl) (by decide)⟩

theorem hostwakePulseEnd_falls (hhigh : s.dev.modes.hostwake = true) (hpulse : s.dev.levelMode = false) :
    Completes .hostwakePulseEnd s fun t => t.modes.hostwake = false ∧ t.flag PWR_HOST_HWPIN = false ∧
      t.fld PWR_HOST_HWTO = s.dev.fld PWR_HOST_HWTO ∧ s.dev.leaves t [PWR_HOST] := by
  refine completes_of (f := fun d => if d.modes.hostwake && !d.levelMode then d.hostWakeLow else d) rfl ?_
  rw [if_pos (by simp [hhigh, hpulse])]
  exact s.dev.hostWakeLow_falls

theorem hostwakeLevelTimeout_counts (hhigh : s.dev.modes.hostwake = true) (hlevel : s.dev.levelMode = true) :
    Completes .hostwakeLevelTimeout s fun t => t.modes.hostwake = false ∧ t.flag PWR_HOST_HWPIN = false ∧
      t.fld PWR_HOST_HWTO = min (s.dev.fld PWR_HOST_HWTO + 1) (2 ^ PWR_HOST_HWTO.width - 1) ∧
      s.dev.leaves t [PWR_HOST] := by
  obtain ⟨hlow, hpin, hcount, hleaves⟩ := s.dev.hostWakeLow_falls
  refine completes_of (f := fun d => if d.modes.hostwake && d.levelMode then d.hostWakeLow.bump PWR_HOST_HWTO else d) rfl ?_
  rw [if_pos (by simp [hhigh, hlevel])]
  refine ⟨hlow, ?_, ?_, leaves_bump hleaves (by decide)⟩
  · exact (Dev.flag_bump_apart _ (by decide) (by decide)).trans hpin
  · rw [Dev.fld_bump_same _ _ (by decide), hcount]

theorem hostwakeAck_falls (hhigh : s.dev.modes.hostwake = true) (hlevel : s.dev.levelMode = true) :
    Completes .hostwakeAck s fun t => t.modes.hostwake = false ∧ t.flag PWR_HOST_HWPIN = false ∧
      t.fld PWR_HOST_HWTO = s.dev.fld PWR_HOST_HWTO ∧ s.dev.leaves t [PWR_HOST] := by
  refine completes_of (f := Dev.hostAck) rfl ?_
  rw [Dev.hostAck, if_pos (by simp [hhigh, hlevel])]
  exact s.dev.hostWakeLow_falls

/-- An end of a pulse says nothing in level mode. -/
theorem hostwakePulseEnd_level (hlevel : s.dev.levelMode = true) : Completes .hostwakePulseEnd s fun t => t = s.dev :=
  completes_of (f := fun d => if d.modes.hostwake && !d.levelMode then d.hostWakeLow else d) rfl (if_neg (by simp [hlevel]))

/-- The time-out and the acknowledge say nothing in pulse mode. -/
theorem hostwakeLevel_pulse (hpulse : s.dev.levelMode = false) {c : Instr}
    (hc : c = .hostwakeLevelTimeout ∨ c = .hostwakeAck) : Completes c s fun t => t = s.dev := by
  obtain rfl | rfl := hc
  · exact completes_of (f := fun d => if d.modes.hostwake && d.levelMode then d.hostWakeLow.bump PWR_HOST_HWTO else d) rfl
      (if_neg (by simp [hpulse]))
  · exact completes_of (f := Dev.hostAck) rfl (if_neg (by simp [hpulse]))

/-- Settles O26: PWR_CMD, the automatic requests, the surface, WAKEEN and HOSTWAKE, each by its command. -/
theorem modesAreRequested : Obligations.ModesAreRequested := by
  intro s
  refine ⟨fun hacts => ⟨fun _ hmode hother hfree halone hallowed =>
      modeRequest_waits hacts hmode hother hfree halone hallowed,
      modeRequest_barred hacts, holdOp_completes (op := 1) rfl hacts (.inl rfl),
      holdOp_completes (op := 2) rfl hacts (.inr rfl)⟩,
    fun hignored c mode hc => ?_, fun hallowed hclear halone => ⟨fun hmode => ?_, fun hmode hafter => ?_⟩,
    fun hworker => ⟨mode_taken hworker, stretch_taken hworker, orphan_asks hworker⟩,
    fun tile hmanager => modeAck_notes hmanager tile, wakeSourceEnable_takes,
    fun hhigh => ⟨hostwakePulseEnd_falls hhigh, hostwakeLevelTimeout_counts hhigh, hostwakeAck_falls hhigh,
      hostwakePulseEnd_level, fun hpulse _ hc => hostwakeLevel_pulse hpulse hc⟩⟩
  · obtain ⟨t, hexec, hcount, hmodes, hleaves⟩ := completes_ignored_pwrCmd hignored hc
    exact ⟨t, hexec, hmodes, hcount, hleaves⟩
  · exact autoMode_completes (f := fun d =>
      if d.mode = modeActive ∧ d.autoAllowed = true ∧ d.noContact = true then d.autoMode modeIdle else d) rfl
      (if_pos ⟨hmode, hallowed, hclear⟩) halone (by decide)
  · exact autoMode_completes (f := fun d =>
      if d.mode = modeIdle ∧ d.par secModes 0x02 = 1 ∧ d.autoAllowed = true ∧ d.noContact = true then d.autoMode modeWatch
      else d) rfl (if_pos ⟨hmode, hafter, hallowed, hclear⟩) halone (by decide)

end Sys2Proof.Machine
end

section
/-!
SUPPORT. The infrared receiver's own operations: the edge timer, the raw capture, the end of a frame, keys, and what a decode
shows (R789, R791, R792, R797 to R802).
-/

namespace Sys2Proof.Machine

variable {d e : Dev}

theorem leaves_foldl {α : Type} {step : Dev → α → Dev} {as : List Nat} (xs : List α) (d : Dev)
    (h : ∀ e : Dev, ∀ x ∈ xs, e.leaves (step e x) as) : d.leaves (xs.foldl step d) as := by
  induction xs generalizing d with
  | nil => exact d.leaves_refl as
  | cons x xs ih => exact leaves_trans (h d x (by simp)) (ih (step d x) fun e y hy => h e y (by simp [hy]))

theorem leavesRing_mono {as bs : List Nat} (h : d.leavesRing e as) (hsub : as ⊆ bs) : d.leavesRing e bs :=
  ⟨fun a ha hr => h.1 a (fun hmem => ha (hsub hmem)) hr, h.2⟩

/-- An event rung on a machine whose router stands as in d. -/
theorem rang_of_evr {t : Dev} {src : Nat} {w1 w2 : Word} (hevr : e.evr = d.evr) (h : e.rang t src w1 w2) :
    d.rang t src w1 w2 := by
  obtain ⟨x, hx, ht⟩ := h
  exact ⟨x, hx.trans hevr, ht⟩

/-! The edge timer (R789). -/

/-- Beside noting the edge, the timer can start the fast oscillator and nothing else. -/
theorem Dev.irTimer_keeps {α : Sort*} (g : Dev → α) (hfosc : ∀ x, g (Dev.foscStart x) = g x) (d : Dev) :
    g d.irTimer = g (d.setIr { d.ir with edgeTick := some d.ticks }) := by
  unfold Dev.irTimer
  simp only
  split
  · exact hfosc _
  · rfl

theorem Dev.irTimer_ir (d : Dev) : d.irTimer.ir = { d.ir with edgeTick := some d.ticks } :=
  Dev.irTimer_keeps (·.ir) (fun _ => rfl) d

theorem Dev.irTimer_evr (d : Dev) : d.irTimer.evr = d.evr := Dev.irTimer_keeps (·.evr) (fun _ => rfl) d

theorem Dev.leaves_irTimer (d : Dev) : d.leaves d.irTimer [SYS_CLK] := by
  have hnoted : d.leaves (d.setIr { d.ir with edgeTick := some d.ticks }) [SYS_CLK] :=
    leaves_of (d.leaves_refl _) rfl rfl rfl rfl
  unfold Dev.irTimer
  simp only
  split
  · obtain ⟨-, -, -, hfosc⟩ := Dev.foscStart_starts (d.setIr { d.ir with edgeTick := some d.ticks })
    exact leaves_trans hnoted hfosc
  · exact hnoted

/-! The raw capture and the end of a frame (R791, R802). -/

/-- The registers of the raw capture. -/
abbrev rawRegs : List Nat := (List.range 128).map IRX_RAW

/-- The capture writes registers only. -/
theorem Dev.irRaw_keeps {α : Type} (g : Dev → α) (hset : ∀ x a w, g (Dev.setReg x a w) = g x) (d : Dev)
    (ds : List (Nat × Bool)) : g (d.irRaw ds) = g d := by
  unfold Dev.irRaw
  extract_lets x
  have hx : g x = g d := by
    unfold x
    split
    · exact hset ..
    · rfl
  split
  · exact hx
  · refine (foldl_keeps g _ _ fun y i _ => ?_).trans hx
    split
    · exact hset ..
    · exact hset ..

/-- Durations up to 128 leave all but the capture as it was; more of them count in LONG. -/
theorem Dev.leaves_irRaw (d : Dev) (ds : List (Nat × Bool)) {as : List Nat} (hraw : rawRegs ⊆ as)
    (hlong : ds.length ≤ 128 ∨ IRX_CNT2 ∈ as) : d.leaves (d.irRaw ds) as := by
  unfold Dev.irRaw
  extract_lets x
  have hx : d.leaves x as := by
    unfold x
    split
    next hmore => exact leaves_bump (d.leaves_refl _) (hlong.resolve_left (Nat.not_le.2 hmore))
    next => exact d.leaves_refl _
  split
  · exact hx
  · refine leaves_trans hx (leaves_foldl _ _ fun y i hi => ?_)
    have hmem : IRX_RAW i ∈ as := hraw (List.mem_map_of_mem hi)
    split
    · exact leaves_setReg (y.leaves_refl _) hmem
    · exact leaves_setReg (y.leaves_refl _) hmem

/-- A field below the capture, and apart from LONG, is not touched by it. -/
theorem Dev.fld_irRaw (d : Dev) (ds : List (Nat × Bool)) {f : Fld} (hbelow : f.addr < IRX_RAW 0)
    (hapart : f.apart IRX_CNT2_LONG = true) : (d.irRaw ds).fld f = d.fld f := by
  unfold Dev.irRaw
  extract_lets x
  have hx : x.fld f = d.fld f := by
    unfold x
    split
    · exact Dev.fld_bump_apart _ (by decide) hapart
    · rfl
  split
  · exact hx
  · refine (foldl_keeps (·.fld f) _ _ fun y i _ => ?_).trans hx
    have hne : f.addr ≠ IRX_RAW i := (hbelow.trans_le (Nat.add_le_add_left i.zero_le _)).ne
    split
    · exact Dev.fld_setReg_ne _ _ hne
    · exact Dev.fld_setReg_ne _ _ hne

/-- A frame that is over waits for the next mark. -/
theorem Dev.irFrameEnd_ir (d : Dev) (ds : List (Nat × Bool)) :
    (d.irFrameEnd ds).ir = { d.ir with frame := none, ready := true } :=
  (Dev.irRaw_keeps (·.ir) (fun _ _ _ => rfl) _ ds).trans rfl

theorem Dev.irFrameEnd_evr (d : Dev) (ds : List (Nat × Bool)) : (d.irFrameEnd ds).evr = d.evr :=
  (Dev.irRaw_keeps (·.evr) (fun _ _ _ => rfl) _ ds).trans rfl

theorem Dev.leaves_irFrameEnd (d : Dev) (ds : List (Nat × Bool)) {as : List Nat} (hraw : rawRegs ⊆ as)
    (hlong : ds.length ≤ 128 ∨ IRX_CNT2 ∈ as) : d.leaves (d.irFrameEnd ds) as :=
  leaves_trans (leaves_of (d.leaves_refl _) rfl rfl rfl rfl) (Dev.leaves_irRaw _ ds hraw hlong)

theorem Dev.fld_irFrameEnd (d : Dev) (ds : List (Nat × Bool)) {f : Fld} (hbelow : f.addr < IRX_RAW 0)
    (hapart : f.apart IRX_CNT2_LONG = true) : (d.irFrameEnd ds).fld f = d.fld f := Dev.fld_irRaw _ ds hbelow hapart

theorem Dev.irLoopReport_idle (h : d.ir.loop = false) (ws : List Word) : d.irLoopReport ws = d := if_neg (by simp [h])

/-! Keys (R798, R800). -/

theorem Dev.irKey_ir (d : Dev) (kind : Nat) (k : HeldKey) (code : Nat) : (d.irKey kind k code).ir = d.ir := Dev.ring_ir ..

theorem Dev.irKey_rang (h : e.evr = d.evr) (kind : Nat) (k : HeldKey) (code : Nat) : d.rang (e.irKey kind k code) 96
    (pack [(kind, 22), (k.tpl, 20), (k.vkey, 8), (min k.repeats 255, 0)]) (word code) :=
  ⟨(e.setFld IRX_STAT_VKEY k.vkey).setFld IRX_STAT_REPEATS (min k.repeats 255), h, rfl⟩

theorem leavesRing_irKey {as : List Nat} (h : d.leavesRing e as) (hstat : IRX_STAT ∈ as) (kind : Nat) (k : HeldKey)
    (code : Nat) : d.leavesRing (e.irKey kind k code) as :=
  leavesRing_ring (leavesRing_setFld (leavesRing_setFld h hstat) hstat) ..

theorem Dev.irKey_vkey (d : Dev) (kind : Nat) {k : HeldKey} (hkey : k.vkey < 256) (code : Nat) :
    (d.irKey kind k code).fld IRX_STAT_VKEY = k.vkey := by
  rw [Dev.irKey, Dev.ring_fld (by decide)]
  exact (Dev.fld_setFld_apart _ _ (by decide) (by decide)).trans
    ((Dev.fld_setFld_same _ IRX_STAT_VKEY _ (by decide)).trans (Nat.mod_eq_of_lt hkey))

/-- An IR_KEY shows the key and its repeats, and no other field. -/
theorem Dev.fld_irKey (d : Dev) (kind : Nat) (k : HeldKey) (code : Nat) {f : Fld} (hring : f.addr ∉ ringRegs)
    (hvkey : f.apart IRX_STAT_VKEY = true) (hrepeats : f.apart IRX_STAT_REPEATS = true) :
    (d.irKey kind k code).fld f = d.fld f := by
  rw [Dev.irKey, Dev.ring_fld hring]
  exact (Dev.fld_setFld_apart _ _ (by decide) hrepeats).trans (Dev.fld_setFld_apart _ _ (by decide) hvkey)

theorem Dev.irRelease_held {k : HeldKey} (h : d.ir.held = some k) :
    d.irRelease = (d.setIr { d.ir with held := none }).irKey 2 k (k.code + k.toggle) := by
  unfold Dev.irRelease
  rw [h]

/-- The held key is released, and its release is the last event. -/
theorem Dev.irRelease_releases {k : HeldKey} (h : d.ir.held = some k) : d.irRelease.ir.held = none ∧
    d.rang d.irRelease 96 (pack [(2, 22), (k.tpl, 20), (k.vkey, 8), (min k.repeats 255, 0)]) (word (k.code + k.toggle)) ∧
    d.leavesRing d.irRelease [IRX_STAT] := by
  have hset : d.leavesRing (d.setIr { d.ir with held := none }) [IRX_STAT] :=
    leavesRing_of_leaves (leaves_of (d.leaves_refl _) rfl rfl rfl rfl)
  rw [Dev.irRelease_held h]
  exact ⟨congrArg Infrared.held (Dev.irKey_ir ..), Dev.irKey_rang (by rfl) .., leavesRing_irKey hset (by decide) ..⟩

/-! What a decode shows (R792, R797 to R799). -/

/-- A decoded frame is counted, with the template that decoded it. -/
def Dev.irNoted (d : Dev) (i : Nat) : Dev := (d.bump IRX_CNT_FRAMES).setFld IRX_STAT_TPL i

/-- The last code. -/
def Dev.codeShown (d : Dev) (code : Nat) : Dev :=
  (d.setFld IRX_LASTH_CODE (code / 16777216)).setFld IRX_LASTL_CODE (code % 16777216)

theorem Dev.irNoted_notes (d : Dev) {i : Nat} (h : i < 4) : (d.irNoted i).fld IRX_STAT_TPL = i ∧
    (d.irNoted i).fld IRX_CNT_FRAMES = min (d.fld IRX_CNT_FRAMES + 1) (2 ^ IRX_CNT_FRAMES.width - 1) :=
  ⟨(Dev.fld_setFld_same _ IRX_STAT_TPL _ (by decide)).trans (Nat.mod_eq_of_lt h),
    (Dev.fld_setFld_apart _ _ (by decide) (by decide)).trans (Dev.fld_bump_same _ _ (by decide))⟩

theorem leaves_irNoted {as : List Nat} (h : d.leaves e as) (hcnt : IRX_CNT ∈ as) (hstat : IRX_STAT ∈ as) (i : Nat) :
    d.leaves (e.irNoted i) as := leaves_setFld (leaves_bump h hcnt) hstat

theorem Dev.codeShown_shows (d : Dev) {code : Nat} (h : code < 2 ^ 48) :
    (d.codeShown code).fld IRX_LASTH_CODE = code / 16777216 ∧ (d.codeShown code).fld IRX_LASTL_CODE = code % 16777216 := by
  refine ⟨?_, ?_⟩
  · refine (Dev.fld_setFld_apart _ _ (by decide) (by decide)).trans ?_
    rw [Dev.fld_setFld_same _ _ _ (by decide)]
    exact Nat.mod_eq_of_lt (by simp only; omega)
  · rw [Dev.codeShown, Dev.fld_setFld_same _ _ _ (by decide)]
    exact Nat.mod_eq_of_lt (by simp only; omega)

theorem leaves_codeShown {as : List Nat} (h : d.leaves e as) (hhigh : IRX_LASTH ∈ as) (hlow : IRX_LASTL ∈ as) (code : Nat) :
    d.leaves (e.codeShown code) as := leaves_setFld (leaves_setFld h hhigh) hlow

theorem Dev.fld_codeShown (d : Dev) (code : Nat) {f : Fld} (hhigh : f.addr ≠ IRX_LASTH) (hlow : f.addr ≠ IRX_LASTL) :
    (d.codeShown code).fld f = d.fld f := (Dev.fld_setReg_ne _ _ hlow).trans (Dev.fld_setReg_ne _ _ hhigh)

/-- A press while no key is held, of a key that requests no mode. -/
theorem Dev.irPress_plain {tpl code : Nat} (hheld : d.ir.held = none) (hmode : (d.vkeyOf tpl code).2 = false) (toggle : Nat) :
    d.irPress tpl code toggle = (d.setIr { d.ir with held := some ⟨tpl, code, toggle, (d.vkeyOf tpl code).1, 0⟩ }).irKey 0
      ⟨tpl, code, toggle, (d.vkeyOf tpl code).1, 0⟩ (code + toggle) := by
  simp only [Dev.irPress, Dev.irRelease_of_none hheld, hmode, Bool.false_eq_true, false_and, if_false]

/-- A code of a template decoded and shown, and its key held and pressed. -/
def Dev.irPressed (d : Dev) (k : HeldKey) : Dev :=
  (((d.irNoted k.tpl).codeShown k.code).setIr { d.ir with held := some k }).irKey 0 k k.code

theorem Dev.irPressed_ir (d : Dev) (k : HeldKey) : (d.irPressed k).ir = { d.ir with held := some k } := Dev.irKey_ir ..

theorem Dev.irPressed_shows (d : Dev) {k : HeldKey} (htpl : k.tpl < 4) (hcode : k.code < 2 ^ 48) :
    (d.irPressed k).fld IRX_STAT_TPL = k.tpl ∧ (d.irPressed k).fld IRX_LASTH_CODE = k.code / 16777216 ∧
    (d.irPressed k).fld IRX_LASTL_CODE = k.code % 16777216 ∧
    (d.irPressed k).fld IRX_CNT_FRAMES = min (d.fld IRX_CNT_FRAMES + 1) (2 ^ IRX_CNT_FRAMES.width - 1) := by
  obtain ⟨gtpl, gframes⟩ := d.irNoted_notes htpl
  obtain ⟨ghigh, glow⟩ := (d.irNoted k.tpl).codeShown_shows hcode
  refine ⟨?_, ?_, ?_, ?_⟩
  · exact (Dev.fld_irKey _ _ _ _ (by decide) (by decide) (by decide)).trans
      ((Dev.fld_codeShown _ _ (by decide) (by decide)).trans gtpl)
  · exact (Dev.fld_irKey _ _ _ _ (by decide) (by decide) (by decide)).trans ghigh
  · exact (Dev.fld_irKey _ _ _ _ (by decide) (by decide) (by decide)).trans glow
  · exact (Dev.fld_irKey _ _ _ _ (by decide) (by decide) (by decide)).trans
      ((Dev.fld_codeShown _ _ (by decide) (by decide)).trans gframes)

theorem Dev.irPressed_rang (h : e.evr = d.evr) (k : HeldKey) : d.rang (e.irPressed k) 96
    (pack [(0, 22), (k.tpl, 20), (k.vkey, 8), (min k.repeats 255, 0)]) (word k.code) := by
  have hset : (((e.irNoted k.tpl).codeShown k.code).setIr { e.ir with held := some k }).evr = d.evr := h
  exact Dev.irKey_rang hset ..

theorem leavesRing_irPressed {as : List Nat} (h : d.leaves e as) (k : HeldKey) (hcnt : IRX_CNT ∈ as) (hstat : IRX_STAT ∈ as)
    (hhigh : IRX_LASTH ∈ as) (hlow : IRX_LASTL ∈ as) : d.leavesRing (e.irPressed k) as := by
  have hshown : d.leaves ((e.irNoted k.tpl).codeShown k.code) as :=
    leaves_codeShown (leaves_irNoted h hcnt hstat _) hhigh hlow _
  have hset : d.leaves (((e.irNoted k.tpl).codeShown k.code).setIr { e.ir with held := some k }) as :=
    leaves_of hshown rfl rfl rfl rfl
  exact leavesRing_irKey (leavesRing_of_leaves hset) hstat ..

/-- A code, without a toggle bit and for a key that requests no mode, while no key is held. -/
theorem Dev.irComplete_press {t : IrTpl} {i code : Nat} (hheld : d.ir.held = none) (htoggle : t.toggleEn = false)
    (hmode : (d.vkeyOf i code).2 = false) :
    d.irComplete i (some code) t = d.irPressed ⟨i, code, 0, (d.vkeyOf i code).1, 0⟩ := by
  refine Eq.trans ?_ (Dev.irPress_plain (d := (d.irNoted i).codeShown code) hheld hmode 0)
  simp only [Dev.irComplete, htoggle, Bool.false_and, Bool.false_eq_true, if_false, Nat.sub_zero]
  split
  next k hk => exact absurd (hheld.symm.trans hk) (Option.some_ne_none k).symm
  next => rfl

/-- A repeat frame while no key is held. -/
theorem Dev.irComplete_orphan {t : IrTpl} {i : Nat} (hheld : d.ir.held = none) :
    d.irComplete i none t = (d.irNoted i).bump IRX_CNT2_ORPHAN := by
  unfold Dev.irComplete
  extract_lets x
  have hx : x.ir.held = none := hheld
  rw [hx]
  rfl

theorem Dev.irJudge_none {ds : List (Nat × Bool)} {space : Bool} (h : judgeAll d.ir.tpl ds space = none) :
    d.irJudge ds space = d := by
  unfold Dev.irJudge
  rw [h]

theorem Dev.irJudge_some {ds : List (Nat × Bool)} {space : Bool} {i : Nat} {c : Option Nat}
    (h : judgeAll d.ir.tpl ds space = some (i, c)) : ∃ ws,
      d.irJudge ds space = ((d.irFrameEnd ds).irComplete i c (tplAt d.ir.tpl i)).irLoopReport ws := by
  unfold Dev.irJudge
  rw [h]
  exact ⟨_, rfl⟩

/-! What a decode shows stays shown, whatever follows it. -/

/-- The frame in progress, the template that decoded the last frame, and the count of decoded frames. -/
def Dev.decodeView (d : Dev) : Option (List (Nat × Bool)) × Nat × Nat :=
  (d.ir.frame, d.fld IRX_STAT_TPL, d.fld IRX_CNT_FRAMES)

theorem decodeView_near (h : d.Near e) : e.decodeView = d.decodeView := by
  obtain ⟨hregs, -, hquiet⟩ := h
  have hframe : e.ir.frame = d.ir.frame := (congrArg (·.ir.frame) hquiet :)
  simp only [Dev.decodeView, Dev.fld, hframe, hregs IRX_STAT (by decide), hregs IRX_CNT (by decide)]

theorem Dev.decodeView_setFld (d : Dev) {f : Fld} (v : Nat) (h : f.lsb + f.width ≤ 24)
    (htpl : IRX_STAT_TPL.apart f = true) (hframes : IRX_CNT_FRAMES.apart f = true) :
    (d.setFld f v).decodeView = d.decodeView := by
  simp only [Dev.decodeView, Dev.setFld_ir, Dev.fld_setFld_apart d v h htpl, Dev.fld_setFld_apart d v h hframes]

theorem Dev.decodeView_markPending (d : Dev) (m : Option Nat) : (d.markPending m).decodeView = d.decodeView := by
  unfold Dev.markPending
  extract_lets x
  have hx : x.decodeView = d.decodeView := d.decodeView_setFld _ (by decide) (by decide) (by decide)
  cases m with
  | some mode => exact (x.decodeView_setFld _ (by decide) (by decide) (by decide)).trans hx
  | none => exact hx

theorem Dev.decodeView_askMode (d : Dev) (mode reason : Nat) : (d.askMode mode reason).decodeView = d.decodeView := by
  have hsend (apply : Nat) : (d.sendMode mode apply).decodeView = d.decodeView :=
    foldl_keeps Dev.decodeView d.joinedTiles d fun _ _ _ => rfl
  have hplace (x : Dev) (apply : Option Nat) : (x.placeMode mode reason apply).decodeView = x.decodeView := rfl
  unfold Dev.askMode
  split
  · exact (Dev.decodeView_markPending ..).trans ((hplace ..).trans (hsend _))
  · exact (Dev.decodeView_markPending ..).trans (hplace ..)

theorem Dev.decodeView_requestMode (d : Dev) (mode reason : Nat) :
    (d.requestMode mode reason).decodeView = d.decodeView := by
  unfold Dev.requestMode
  split
  · exact decodeView_near (near_ring (.rfl d))
  · split
    · unfold Dev.holdMode
      split
      · rfl
      · split <;> rfl
      · rfl
    · unfold Dev.issueMode
      split
      · rfl
      · exact d.decodeView_askMode mode reason

theorem Dev.decodeView_irKey (d : Dev) (kind : Nat) (k : HeldKey) (code : Nat) :
    (d.irKey kind k code).decodeView = d.decodeView :=
  (decodeView_near (near_ring (.rfl _))).trans ((Dev.decodeView_setFld _ _ (by decide) (by decide) (by decide)).trans
    (Dev.decodeView_setFld _ _ (by decide) (by decide) (by decide)))

theorem Dev.decodeView_irRepeat (d : Dev) (k : HeldKey) : (d.irRepeat k).decodeView = d.decodeView := Dev.decodeView_irKey ..

theorem Dev.decodeView_irRelease (d : Dev) : d.irRelease.decodeView = d.decodeView := by
  cases h : d.ir.held with
  | none => rw [Dev.irRelease_of_none h]
  | some k =>
    rw [Dev.irRelease_held h]
    exact Dev.decodeView_irKey ..

theorem Dev.decodeView_irPress (d : Dev) (tpl code toggle : Nat) : (d.irPress tpl code toggle).decodeView = d.decodeView := by
  unfold Dev.irPress
  extract_lets x
  split
  extract_lets k y
  have hy : y.decodeView = d.decodeView := (Dev.decodeView_irKey ..).trans d.decodeView_irRelease
  split
  · exact (y.decodeView_requestMode ..).trans hy
  · exact hy

/-- A completed frame is noted, and what it does to the held key leaves that as it is. -/
theorem Dev.decodeView_irComplete (d : Dev) (i : Nat) (c : Option Nat) (t : IrTpl) :
    (d.irComplete i c t).decodeView = (d.irNoted i).decodeView := by
  have horphan : ((d.irNoted i).bump IRX_CNT2_ORPHAN).decodeView = (d.irNoted i).decodeView :=
    Dev.decodeView_setFld _ _ (by decide) (by decide) (by decide)
  unfold Dev.irComplete
  extract_lets x
  split
  · split
    · split
      · exact Dev.decodeView_irRepeat ..
      · exact horphan
    · exact horphan
  · extract_lets y toggle base
    have hy : y.decodeView = (d.irNoted i).decodeView :=
      (Dev.decodeView_setFld _ _ (by decide) (by decide) (by decide)).trans
        (Dev.decodeView_setFld _ _ (by decide) (by decide) (by decide))
    split
    · split
      · exact (Dev.decodeView_irRepeat ..).trans hy
      · exact (Dev.decodeView_irPress ..).trans hy
    · exact (Dev.decodeView_irPress ..).trans hy

theorem Dev.decodeView_irLoopReport (d : Dev) (ws : List Word) : (d.irLoopReport ws).decodeView = d.decodeView := by
  unfold Dev.irLoopReport
  split
  · exact (decodeView_near (near_print (near_print (near_print (.rfl _))))).trans rfl
  · rfl

/-- The templates end a frame: it is over, counted and shown with its template. -/
theorem Dev.irJudge_shows {ds : List (Nat × Bool)} {space : Bool} {i : Nat} {c : Option Nat}
    (h : judgeAll d.ir.tpl ds space = some (i, c)) (hi : i < 4) : (d.irJudge ds space).ir.frame = none ∧
      (d.irJudge ds space).fld IRX_STAT_TPL = i ∧
      (d.irJudge ds space).fld IRX_CNT_FRAMES = min (d.fld IRX_CNT_FRAMES + 1) (2 ^ IRX_CNT_FRAMES.width - 1) := by
  obtain ⟨ws, hjudge⟩ := Dev.irJudge_some h
  obtain ⟨htpl, hframes⟩ := (d.irFrameEnd ds).irNoted_notes hi
  have hview : (d.irJudge ds space).decodeView = ((d.irFrameEnd ds).irNoted i).decodeView := by
    rw [hjudge]
    exact (Dev.decodeView_irLoopReport ..).trans (Dev.decodeView_irComplete ..)
  simp only [Dev.decodeView, Prod.mk.injEq] at hview
  obtain ⟨gframe, gtpl, gframes⟩ := hview
  refine ⟨gframe.trans (congrArg Infrared.frame (d.irFrameEnd_ir ds)), gtpl.trans htpl, gframes.trans (hframes.trans ?_)⟩
  rw [d.fld_irFrameEnd ds (by decide) (by decide)]

end Sys2Proof.Machine
end

section
/-!
SUPPORT. Infrared edges: those recorded asleep, short pulses, marks and spaces, and the frames that a space completes (R178,
R787 to R792, R797 to R799).
-/

namespace Sys2Proof.Machine

variable {s : State} {d : Dev}

/-- In HIBERNATE a recorded edge is kept while the recorder runs or starts, and dropped otherwise (R178). -/
theorem irEdge_asleep (hmode : s.dev.mode = modeHibernate) (low : Bool) (us : BitVec 24) (held : Bool) :
    (s.dev.irRecords low held = true → Completes (.irEdge low us true held) s fun t =>
      t = { s.dev with modes := { s.dev.modes with irEdges := (s.dev.modes.irEdges ++ [(low, us.toNat)]).take 64 } }) ∧
    (s.dev.irRecords low held = false → Completes (.irEdge low us true held) s fun t => t = s.dev) := by
  refine ⟨fun hrecords => ?_, fun hrecords => ?_⟩
  · exact completes_of (f := fun d => d.irEdge low us.toNat true held) rfl (by simp [Dev.irEdge, hmode, hrecords])
  · exact completes_of (f := fun d => d.irEdge low us.toNat true held) rfl (by simp [Dev.irEdge, hmode, hrecords])

/-- An edge while the receiver is off has no effect (R808). -/
theorem irEdge_off (hoff : s.dev.rxOn = false) (mark : Bool) (us : BitVec 24) (held : Bool) :
    Completes (.irEdge mark us false held) s fun t => t = s.dev :=
  completes_of (f := fun d => d.irEdge mark us.toNat false held) rfl (by simp [Dev.irEdge, hoff])

/-- A short pulse is counted; nothing else but an event for noise follows (R788, R818). -/
theorem Dev.irGlitch_counts (d : Dev) : d.leavesRing d.irGlitch [IRX_CNT] ∧
    d.irGlitch.fld IRX_CNT_GLITCH = min (d.fld IRX_CNT_GLITCH + 1) (2 ^ IRX_CNT_GLITCH.width - 1) := by
  have hcount := d.fld_bump_same IRX_CNT_GLITCH (by decide)
  have hset (x : Infrared) : d.leavesRing ((d.bump IRX_CNT_GLITCH).setIr x) [IRX_CNT] :=
    leavesRing_of_leaves (leaves_of (leaves_bump (d.leaves_refl _) (by decide)) rfl rfl rfl rfl)
  unfold Dev.irGlitch
  extract_lets x recent due
  split
  · exact ⟨leavesRing_ring (hset _) .., (Dev.ring_fld (by decide) ..).trans hcount⟩
  · exact ⟨hset _, hcount⟩

/-! A receiver that hears (R788, R791). -/

/-- The receiver runs, is not stuck, and is not deafened by the transmitter. -/
def Dev.hears (d : Dev) : Prop := d.rxOn = true ∧ d.flag IRX_STAT_STUCK = false ∧ d.irDeaf = false

theorem Dev.irEdge_heard (h : d.hears) (low : Bool) (us : Nat) (held : Bool) : d.irEdge low us false held =
    if !held then d.irGlitch else if d.irIsMark low then d.irTimer.irMark us false else d.irTimer.irSpace us false := by
  obtain ⟨hon, hstuck, hdeaf⟩ := h
  simp [Dev.irEdge, hon, hstuck, hdeaf]

theorem irEdge_short (h : s.dev.hears) (us : BitVec 24) (mark : Bool) : Completes (.irEdge mark us false false) s fun t =>
    s.dev.leavesRing t [IRX_CNT] ∧
    t.fld IRX_CNT_GLITCH = min (s.dev.fld IRX_CNT_GLITCH + 1) (2 ^ IRX_CNT_GLITCH.width - 1) := by
  refine completes_of (f := fun d => d.irEdge mark us.toNat false false) rfl ?_
  rw [Dev.irEdge_heard h]
  exact s.dev.irGlitch_counts

/-- An edge that is heard runs the timer, and then begins a mark or a space. -/
theorem completes_mark (h : s.dev.hears) (us : BitVec 24) {low : Bool} (hmark : s.dev.irIsMark low = true) {P : Dev → Prop}
    (hp : P (s.dev.irTimer.irMark us.toNat false)) : Completes (.irEdge low us false true) s P := by
  refine completes_of (f := fun d => d.irEdge low us.toNat false true) rfl ?_
  rw [Dev.irEdge_heard h, hmark]
  exact hp

theorem completes_space (h : s.dev.hears) (us : BitVec 24) {low : Bool} (hspace : s.dev.irIsMark low = false)
    {P : Dev → Prop} (hp : P (s.dev.irTimer.irSpace us.toNat false)) : Completes (.irEdge low us false true) s P := by
  refine completes_of (f := fun d => d.irEdge low us.toNat false true) rfl ?_
  rw [Dev.irEdge_heard h, hspace]
  exact hp

theorem Dev.irTimer_frame (d : Dev) : d.irTimer.ir.frame = d.ir.frame := (congrArg Infrared.frame d.irTimer_ir :)

theorem Dev.irMark_joins {ds : List (Nat × Bool)} (hframe : d.ir.frame = some ds) (us : Nat) (recorded : Bool) :
    d.irMark us recorded = d.setIr { d.ir with frame := some (ds ++ [(us, recorded)]) } := by
  unfold Dev.irMark
  rw [hframe]

/-- A mark after the frame gap begins a frame (R791). -/
theorem Dev.irMark_begins (hframe : d.ir.frame = none) (hready : d.ir.ready = true) (us : Nat) (recorded : Bool) :
    (d.irMark us recorded).ir.frame = some [] ∧ (d.irMark us recorded).ir.ready = false ∧
      (d.irMark us recorded).ir.lead = us ∧ ∀ as, d.leaves (d.irMark us recorded) as := by
  unfold Dev.irMark
  rw [hframe]
  simp only [hready, true_or, if_true]
  exact ⟨rfl, rfl, rfl, fun as => leaves_of (d.leaves_refl as) rfl rfl rfl rfl⟩

theorem Dev.irSpace_alone (hframe : d.ir.frame = none) (us : Nat) (recorded : Bool) : d.irSpace us recorded = d := by
  unfold Dev.irSpace
  rw [hframe]

theorem Dev.irSpace_joins {ds : List (Nat × Bool)} (hframe : d.ir.frame = some ds) (us : Nat) (recorded : Bool) :
    d.irSpace us recorded = (d.setIr { d.ir with frame := some (ds ++ [(us, recorded)]) }).irJudge (ds ++ [(us, recorded)])
      false := by
  unfold Dev.irSpace
  rw [hframe]

theorem irEdge_mark_joins (h : s.dev.hears) (us : BitVec 24) {low : Bool} {ds : List (Nat × Bool)}
    (hmark : s.dev.irIsMark low = true) (hframe : s.dev.ir.frame = some ds) :
    Completes (.irEdge low us false true) s fun t =>
      t = s.dev.irTimer.setIr { s.dev.irTimer.ir with frame := some (ds ++ [(us.toNat, false)]) } :=
  completes_mark h us hmark (Dev.irMark_joins (s.dev.irTimer_frame.trans hframe) ..)

theorem irEdge_mark_begins (h : s.dev.hears) (us : BitVec 24) {low : Bool} (hmark : s.dev.irIsMark low = true)
    (hframe : s.dev.ir.frame = none) (hready : s.dev.ir.ready = true) : Completes (.irEdge low us false true) s fun t =>
      t.ir.frame = some [] ∧ t.ir.ready = false ∧ t.ir.lead = us.toNat ∧ s.dev.leaves t [SYS_CLK] := by
  have htimer : s.dev.irTimer.ir.ready = true := (congrArg Infrared.ready s.dev.irTimer_ir).trans hready
  obtain ⟨gframe, gready, glead, gleaves⟩ :=
    Dev.irMark_begins (s.dev.irTimer_frame.trans hframe) htimer us.toNat false
  exact completes_mark h us hmark ⟨gframe, gready, glead, leaves_trans s.dev.leaves_irTimer (gleaves _)⟩

theorem irEdge_space_alone (h : s.dev.hears) (us : BitVec 24) {low : Bool} (hspace : s.dev.irIsMark low = false)
    (hframe : s.dev.ir.frame = none) : Completes (.irEdge low us false true) s fun t => t = s.dev.irTimer :=
  completes_space h us hspace (Dev.irSpace_alone (s.dev.irTimer_frame.trans hframe) ..)

/-! A space after a mark of a frame (R792). -/

/-- The frame with one duration more, before the templates judge it. -/
def Dev.irJoined (d : Dev) (ds : List (Nat × Bool)) : Dev := d.irTimer.setIr { d.irTimer.ir with frame := some ds }

theorem Dev.irJoined_tpl (d : Dev) (ds : List (Nat × Bool)) : (d.irJoined ds).ir.tpl = d.ir.tpl :=
  (congrArg Infrared.tpl d.irTimer_ir :)

theorem irEdge_space_joins (h : s.dev.hears) (us : BitVec 24) {low : Bool} {ds : List (Nat × Bool)}
    (hspace : s.dev.irIsMark low = false) (hframe : s.dev.ir.frame = some ds)
    (hjudge : judgeAll s.dev.ir.tpl (ds ++ [(us.toNat, false)]) false = none) :
    Completes (.irEdge low us false true) s fun t =>
      t = s.dev.irTimer.setIr { s.dev.irTimer.ir with frame := some (ds ++ [(us.toNat, false)]) } := by
  refine completes_space h us hspace ?_
  rw [Dev.irSpace_joins (s.dev.irTimer_frame.trans hframe)]
  refine Dev.irJudge_none (d := s.dev.irJoined (ds ++ [(us.toNat, false)])) ?_
  rw [Dev.irJoined_tpl]
  exact hjudge

/-- The frame that the space completes, ended before it is decoded. -/
def Dev.irEnded (d : Dev) (ds : List (Nat × Bool)) : Dev := (d.irJoined ds).irFrameEnd ds

/-- The keys are read from the configuration alone. -/
theorem Dev.vkeyOf_congr {e : Dev} (hcfg : e.cfg = d.cfg) (hlen : e.cfgLen = d.cfgLen) (i code : Nat) :
    e.vkeyOf i code = d.vkeyOf i code := by
  have hreads (x : Dev) : x.vkeyOf i code = Dev.vkeyOf { d with cfg := x.cfg, cfgLen := x.cfgLen } i code := rfl
  rw [hreads e, hcfg, hlen]

theorem Dev.irEnded_vkeyOf (d : Dev) (ds : List (Nat × Bool)) (i code : Nat) :
    (d.irEnded ds).vkeyOf i code = d.vkeyOf i code := by
  have hcfg : (d.irEnded ds).cfg = d.cfg :=
    (Dev.irRaw_keeps (·.cfg) (fun _ _ _ => rfl) _ ds).trans (Dev.irTimer_keeps (·.cfg) (fun _ => rfl) d)
  have hlen : (d.irEnded ds).cfgLen = d.cfgLen :=
    (Dev.irRaw_keeps (·.cfgLen) (fun _ _ _ => rfl) _ ds).trans (Dev.irTimer_keeps (·.cfgLen) (fun _ => rfl) d)
  exact Dev.vkeyOf_congr hcfg hlen i code

/-- In e the frame that stood in d is over, and nothing but the edge timer and the raw capture tells them apart. -/
def Dev.FrameOver (d e : Dev) : Prop :=
  e.ir = { d.ir with edgeTick := some d.ticks, frame := none, ready := true } ∧ e.evr = d.evr ∧
  (∀ i code, e.vkeyOf i code = d.vkeyOf i code) ∧
  (∀ f : Fld, f.addr < IRX_RAW 0 → f.apart IRX_CNT2_LONG = true → f.addr ≠ SYS_CLK → e.fld f = d.fld f) ∧
  ∀ as, SYS_CLK ∈ as → IRX_CNT2 ∈ as → d.leaves e (as ++ rawRegs)

theorem Dev.irEnded_over (d : Dev) (ds : List (Nat × Bool)) : d.FrameOver (d.irEnded ds) := by
  obtain ⟨htimer, -⟩ := d.leaves_irTimer
  refine ⟨?_, (Dev.irFrameEnd_evr ..).trans d.irTimer_evr, d.irEnded_vkeyOf ds, fun f hbelow hapart hclk => ?_,
    fun as hclk hlong => ?_⟩
  · rw [Dev.irEnded, Dev.irFrameEnd_ir, Dev.irJoined, Dev.setIr_ir, Dev.irTimer_ir]
  · exact (Dev.fld_irFrameEnd _ ds hbelow hapart).trans
      (congrArg (wGet · f.lsb f.width) (htimer f.addr (by simpa using hclk)))
  · have hjoined : d.leaves (d.irJoined ds) (as ++ rawRegs) :=
      leaves_of (leaves_mono d.leaves_irTimer (by simp [hclk])) rfl rfl rfl rfl
    exact leaves_trans hjoined (Dev.leaves_irFrameEnd _ ds (List.subset_append_right ..) (.inr (by simp [hlong])))

/-- A space completes a frame: it is over, and what its template decodes follows; no loop-back waits for it. -/
theorem completes_decode (h : s.dev.hears) (us : BitVec 24) {low : Bool} {ds : List (Nat × Bool)} {i : Nat} {c : Option Nat}
    (hspace : s.dev.irIsMark low = false) (hframe : s.dev.ir.frame = some ds)
    (hjudge : judgeAll s.dev.ir.tpl (ds ++ [(us.toNat, false)]) false = some (i, c)) {P : Dev → Prop}
    (hp : ∀ e, s.dev.FrameOver e → (e.irComplete i c (tplAt s.dev.ir.tpl i)).ir.loop = false ∧
      P (e.irComplete i c (tplAt s.dev.ir.tpl i))) : Completes (.irEdge low us false true) s P := by
  have htpl := s.dev.irJoined_tpl (ds ++ [(us.toNat, false)])
  obtain ⟨ws, hresult⟩ := Dev.irJudge_some (d := s.dev.irJoined (ds ++ [(us.toNat, false)])) (htpl ▸ hjudge)
  obtain ⟨hloop, hdone⟩ := hp _ (s.dev.irEnded_over (ds ++ [(us.toNat, false)]))
  rw [htpl] at hresult
  refine completes_space h us hspace ?_
  rw [Dev.irSpace_joins (s.dev.irTimer_frame.trans hframe)]
  exact (hresult.trans (Dev.irLoopReport_idle hloop ws)).symm ▸ hdone

theorem irEdge_code (h : s.dev.hears) (hloop : s.dev.ir.loop = false) (us : BitVec 24) {low : Bool} {ds : List (Nat × Bool)}
    {i code : Nat} (hspace : s.dev.irIsMark low = false) (hframe : s.dev.ir.frame = some ds)
    (hjudge : judgeAll s.dev.ir.tpl (ds ++ [(us.toNat, false)]) false = some (i, some code)) (hi : i < 4)
    (hcode : code < 2 ^ 48) (hheld : s.dev.ir.held = none) (htoggle : (tplAt s.dev.ir.tpl i).toggleEn = false)
    (hmode : (s.dev.vkeyOf i code).2 = false) : Completes (.irEdge low us false true) s fun t =>
      t.ir.frame = none ∧ t.ir.ready = true ∧ t.ir.held = some ⟨i, code, 0, (s.dev.vkeyOf i code).1, 0⟩ ∧
      t.fld IRX_STAT_TPL = i ∧ t.fld IRX_LASTH_CODE = code / 16777216 ∧ t.fld IRX_LASTL_CODE = code % 16777216 ∧
      t.fld IRX_CNT_FRAMES = min (s.dev.fld IRX_CNT_FRAMES + 1) (2 ^ IRX_CNT_FRAMES.width - 1) ∧
      s.dev.rang t 96 (pack [(0, 22), (i, 20), ((s.dev.vkeyOf i code).1, 8), (0, 0)]) (word code) ∧
      s.dev.leavesRing t ([SYS_CLK, IRX_CNT, IRX_CNT2, IRX_STAT, IRX_LASTH, IRX_LASTL] ++ rawRegs) := by
  refine completes_decode h us hspace hframe hjudge fun e ⟨hover, hevr, hkey, hfld, hleaves⟩ => ?_
  have hpress : e.irComplete i (some code) (tplAt s.dev.ir.tpl i) = e.irPressed ⟨i, code, 0, (s.dev.vkeyOf i code).1, 0⟩ :=
    hkey i code ▸ Dev.irComplete_press (by rw [hover]; exact hheld) htoggle (hkey i code ▸ hmode)
  have hir := e.irPressed_ir ⟨i, code, 0, (s.dev.vkeyOf i code).1, 0⟩
  obtain ⟨htpl, hhigh, hlow, hframes⟩ := e.irPressed_shows (k := ⟨i, code, 0, (s.dev.vkeyOf i code).1, 0⟩) hi hcode
  rw [hover] at hir
  rw [hfld _ (by decide) (by decide) (by decide)] at hframes
  rw [hpress]
  refine ⟨by rw [hir]; exact hloop, by rw [hir], by rw [hir], by rw [hir], htpl, hhigh, hlow, hframes,
    Dev.irPressed_rang hevr _, leavesRing_irPressed (hleaves _ (by decide) (by decide)) _ ?_ ?_ ?_ ?_⟩
  all_goals exact List.mem_append_left _ (by decide)

/-- A repeat frame while no key is held is counted (R799). -/
theorem irEdge_orphan (h : s.dev.hears) (hloop : s.dev.ir.loop = false) (us : BitVec 24) {low : Bool}
    {ds : List (Nat × Bool)} {i : Nat} (hspace : s.dev.irIsMark low = false) (hframe : s.dev.ir.frame = some ds)
    (hjudge : judgeAll s.dev.ir.tpl (ds ++ [(us.toNat, false)]) false = some (i, none)) (hi : i < 4)
    (hheld : s.dev.ir.held = none) : Completes (.irEdge low us false true) s fun t =>
      t.ir.frame = none ∧ t.ir.held = none ∧ t.fld IRX_STAT_TPL = i ∧
      t.fld IRX_CNT_FRAMES = min (s.dev.fld IRX_CNT_FRAMES + 1) (2 ^ IRX_CNT_FRAMES.width - 1) ∧
      t.fld IRX_CNT2_ORPHAN = min (s.dev.fld IRX_CNT2_ORPHAN + 1) (2 ^ IRX_CNT2_ORPHAN.width - 1) ∧
      s.dev.leaves t ([SYS_CLK, IRX_CNT, IRX_CNT2, IRX_STAT] ++ rawRegs) := by
  refine completes_decode h us hspace hframe hjudge fun e ⟨hover, _, _, hfld, hleaves⟩ => ?_
  have horphan : e.irComplete i none (tplAt s.dev.ir.tpl i) = (e.irNoted i).bump IRX_CNT2_ORPHAN :=
    Dev.irComplete_orphan (by rw [hover]; exact hheld)
  have hir : ((e.irNoted i).bump IRX_CNT2_ORPHAN).ir = e.ir := rfl
  obtain ⟨htpl, hframes⟩ := e.irNoted_notes hi
  have hcounted : (e.irNoted i).fld IRX_CNT2_ORPHAN = e.fld IRX_CNT2_ORPHAN :=
    (Dev.fld_setFld_apart _ _ (by decide) (by decide)).trans (Dev.fld_bump_apart _ (by decide) (by decide))
  rw [hover] at hir
  rw [horphan]
  refine ⟨by rw [hir]; exact hloop, by rw [hir], by rw [hir]; exact hheld,
    (Dev.fld_bump_apart _ (by decide) (by decide)).trans htpl, ?_, ?_,
    leaves_bump (leaves_irNoted (hleaves _ (by decide) (by decide)) ?_ ?_ i) ?_⟩
  · rw [Dev.fld_bump_apart _ (by decide) (by decide), hframes, hfld _ (by decide) (by decide) (by decide)]
  · rw [Dev.fld_bump_same _ _ (by decide), hcounted, hfld _ (by decide) (by decide) (by decide)]
  all_goals exact List.mem_append_left _ (by decide)

end Sys2Proof.Machine
end

section
/-!
SUPPORT. The other events of the infrared receiver: the frame gap, the end of a trailing biphase space, releases, and a stuck
input (R791, R796, R798, R816).
-/

namespace Sys2Proof.Machine

variable {s : State} {d : Dev}

/-! IR_GAP (R791, R816). -/

theorem irGap_unsticks (hstuck : s.dev.flag IRX_STAT_STUCK = true) : Completes .irGap s fun t =>
    t.flag IRX_STAT_STUCK = false ∧ t.ir.frame = none ∧ t.ir.ready = true ∧ s.dev.rang t 98 0 0 ∧
    s.dev.leavesRing t [IRX_STAT] := by
  have hset : s.dev.leaves (s.dev.setIr { s.dev.ir with frame := none, ready := true }) [IRX_STAT] :=
    leaves_of (s.dev.leaves_refl _) rfl rfl rfl rfl
  refine completes_of (f := Dev.irGap) rfl ?_
  rw [Dev.irGap, if_pos hstuck]
  refine ⟨?_, ?_, ?_, rang_ring (by rfl) .., leavesRing_ring (leavesRing_of_leaves (leaves_setFlag hset (by decide))) ..⟩
  · exact (Dev.ring_flag (by decide) ..).trans (Dev.flag_setFlag_same _ _ _ (by decide) (by decide))
  · exact (congrArg Infrared.frame (Dev.ring_ir ..)).trans rfl
  · exact (congrArg Infrared.ready (Dev.ring_ir ..)).trans rfl

theorem irGap_idle (hclear : s.dev.flag IRX_STAT_STUCK = false) (hloop : s.dev.ir.loop = false)
    (hframe : s.dev.ir.frame = none) : Completes .irGap s fun t => t = s.dev.setIr { s.dev.ir with ready := true } := by
  refine completes_of (f := Dev.irGap) rfl ?_
  rw [Dev.irGap, if_neg (by simp [hclear]), hframe]
  exact ite_eq_right_iff.2 fun _ => Dev.irLoopReport_idle (by exact hloop) []

/-- A frame that no template has completed is over at the gap. -/
theorem Dev.irGap_frame {ds : List (Nat × Bool)} (hclear : d.flag IRX_STAT_STUCK = false) (hloop : d.ir.loop = false)
    (hframe : d.ir.frame = some ds) : d.irGap =
      if 4 ≤ ds.length then ((d.irFrameEnd ds).bump IRX_CNT_UNKNOWN).ring 97 (word ds.length) (word (ds.headD (0, false)).1)
      else (d.irFrameEnd ds).bump IRX_CNT_GLITCH := by
  have hends : (d.irFrameEnd ds).ir.loop = false := by rw [Dev.irFrameEnd_ir]; exact hloop
  rw [Dev.irGap, if_neg (by simp [hclear]), hframe]
  refine Dev.irLoopReport_idle ?_ _
  split
  · rw [Dev.ring_ir]
    exact hends
  · exact hends

theorem irGap_short {ds : List (Nat × Bool)} (hclear : s.dev.flag IRX_STAT_STUCK = false) (hloop : s.dev.ir.loop = false)
    (hframe : s.dev.ir.frame = some ds) (hshort : ds.length < 4) : Completes .irGap s fun t =>
      t.ir.frame = none ∧ t.ir.ready = true ∧
      t.fld IRX_CNT_GLITCH = min (s.dev.fld IRX_CNT_GLITCH + 1) (2 ^ IRX_CNT_GLITCH.width - 1) ∧
      s.dev.leaves t (IRX_CNT :: rawRegs) := by
  have hends := s.dev.irFrameEnd_ir ds
  refine completes_of (f := Dev.irGap) rfl ?_
  rw [Dev.irGap_frame hclear hloop hframe, if_neg (by omega)]
  refine ⟨(congrArg Infrared.frame hends :), (congrArg Infrared.ready hends :), ?_, leaves_bump ?_ List.mem_cons_self⟩
  · rw [Dev.fld_bump_same _ _ (by decide), s.dev.fld_irFrameEnd ds (by decide) (by decide)]
  · exact s.dev.leaves_irFrameEnd ds (List.subset_cons_self ..) (.inl (by omega))

theorem irGap_unknown {ds : List (Nat × Bool)} (hclear : s.dev.flag IRX_STAT_STUCK = false) (hloop : s.dev.ir.loop = false)
    (hframe : s.dev.ir.frame = some ds) (hlong : 4 ≤ ds.length) : Completes .irGap s fun t =>
      t.ir.frame = none ∧ t.ir.ready = true ∧
      t.fld IRX_CNT_UNKNOWN = min (s.dev.fld IRX_CNT_UNKNOWN + 1) (2 ^ IRX_CNT_UNKNOWN.width - 1) ∧
      s.dev.rang t 97 (word ds.length) (word (ds.headD (0, false)).1) ∧
      s.dev.leavesRing t ([IRX_CNT, IRX_CNT2] ++ rawRegs) := by
  have hends := s.dev.irFrameEnd_ir ds
  have hleaves : s.dev.leaves (s.dev.irFrameEnd ds) ([IRX_CNT, IRX_CNT2] ++ rawRegs) :=
    s.dev.leaves_irFrameEnd ds (List.subset_append_right ..) (.inr (List.mem_append_left _ (by decide)))
  refine completes_of (f := Dev.irGap) rfl ?_
  rw [Dev.irGap_frame hclear hloop hframe, if_pos hlong]
  refine ⟨?_, ?_, ?_, rang_ring (by exact s.dev.irFrameEnd_evr ds) ..,
    leavesRing_ring (leavesRing_of_leaves (leaves_bump hleaves (List.mem_append_left _ (by decide)))) ..⟩
  · rw [Dev.ring_ir]
    exact (congrArg Infrared.frame hends :)
  · rw [Dev.ring_ir]
    exact (congrArg Infrared.ready hends :)
  · rw [Dev.ring_fld (by decide), Dev.fld_bump_same _ _ (by decide), s.dev.fld_irFrameEnd ds (by decide) (by decide)]

/-! IR_BIPHASE_SPACE_END (R796). -/

/-- What IR_BIPHASE_SPACE_END does: a frame in progress is judged once more, with its trailing space. -/
def Dev.irSpaceEnd (d : Dev) : Dev :=
  match d.ir.frame with
  | none => d
  | some ds => d.irJudge ds true

theorem Dev.irSpaceEnd_frame {ds : List (Nat × Bool)} (hframe : d.ir.frame = some ds) : d.irSpaceEnd = d.irJudge ds true := by
  unfold Dev.irSpaceEnd
  rw [hframe]

theorem irBiphaseSpaceEnd_idle (hframe : s.dev.ir.frame = none) : Completes .irBiphaseSpaceEnd s fun t => t = s.dev := by
  refine completes_of (f := Dev.irSpaceEnd) rfl ?_
  unfold Dev.irSpaceEnd
  rw [hframe]

theorem irBiphaseSpaceEnd_open {ds : List (Nat × Bool)} (hframe : s.dev.ir.frame = some ds)
    (hjudge : judgeAll s.dev.ir.tpl ds true = none) : Completes .irBiphaseSpaceEnd s fun t => t = s.dev :=
  completes_of (f := Dev.irSpaceEnd) rfl ((Dev.irSpaceEnd_frame hframe).trans (Dev.irJudge_none hjudge))

theorem irBiphaseSpaceEnd_decodes {ds : List (Nat × Bool)} {i : Nat} {c : Option Nat} (hframe : s.dev.ir.frame = some ds)
    (hjudge : judgeAll s.dev.ir.tpl ds true = some (i, c)) (hi : i < 4) : Completes .irBiphaseSpaceEnd s fun t =>
      t.ir.frame = none ∧ t.fld IRX_STAT_TPL = i ∧
      t.fld IRX_CNT_FRAMES = min (s.dev.fld IRX_CNT_FRAMES + 1) (2 ^ IRX_CNT_FRAMES.width - 1) := by
  refine completes_of (f := Dev.irSpaceEnd) rfl ?_
  rw [Dev.irSpaceEnd_frame hframe]
  exact Dev.irJudge_shows hjudge hi

/-! Releases (R798). -/

theorem irKeyRelease_none (hheld : s.dev.ir.held = none) : Completes .irKeyRelease s fun t => t = s.dev :=
  completes_of (f := Dev.irRelease) rfl (Dev.irRelease_of_none hheld)

theorem irKeyRelease_releases {k : HeldKey} (hheld : s.dev.ir.held = some k) (hkey : k.vkey < 256) :
    Completes .irKeyRelease s fun t => t.ir.held = none ∧ t.fld IRX_STAT_VKEY = k.vkey ∧
      s.dev.rang t 96 (pack [(2, 22), (k.tpl, 20), (k.vkey, 8), (min k.repeats 255, 0)]) (word (k.code + k.toggle)) ∧
      s.dev.leavesRing t [IRX_STAT] := by
  obtain ⟨hnone, hrang, hleaves⟩ := Dev.irRelease_releases hheld
  refine completes_of (f := Dev.irRelease) rfl ⟨hnone, ?_, hrang, hleaves⟩
  rw [Dev.irRelease_held hheld]
  exact Dev.irKey_vkey _ 2 hkey _

/-- The word that RELEASE writes to IRX_CTRL has its RELEASE bit. -/
theorem wGet_release (v : Word) : wGet (v ||| 4) 2 1 = 1 := by
  simp [wGet, Nat.shiftRight_or_distrib]

theorem release_releases {k : HeldKey} (hheld : s.dev.ir.held = some k) (value : Word) :
    Completes (.release value) s fun t => t.ir.held = none ∧
      s.dev.rang t 96 (pack [(2, 22), (k.tpl, 20), (k.vkey, 8), (min k.repeats 255, 0)]) (word (k.code + k.toggle)) ∧
      s.dev.leavesRing t [IRX_CTRL, IRX_STAT] := by
  have hstored : s.dev.leavesRing (s.dev.storeReg IRX_CTRL (value ||| 4)) [IRX_CTRL, IRX_STAT] :=
    leavesRing_of_leaves (leaves_storeReg (s.dev.leaves_refl _) (by decide))
  obtain ⟨hnone, hrang, hleaves⟩ := Dev.irRelease_releases (d := s.dev.storeReg IRX_CTRL (value ||| 4)) hheld
  refine completes_of (f := fun d => d.writeIrxCtrl (value ||| 4)) rfl ?_
  rw [Dev.writeIrxCtrl, if_pos (wGet_release value)]
  exact ⟨hnone, rang_of_evr rfl hrang, leavesRing_trans hstored (leavesRing_mono hleaves (by decide))⟩

/-! IR_STUCK (R816). -/

theorem irStuck_off (hoff : s.dev.rxOn = false) (ms : BitVec 24) : Completes (.irStuck ms) s fun t => t = s.dev :=
  completes_of (f := fun d => d.irStuck ms.toNat) rfl (if_pos (by simp [hoff]))

theorem irStuck_shows (hears : s.dev.hears) (hframe : s.dev.ir.frame = none) (hheld : s.dev.ir.held = none) (ms : BitVec 24) :
    Completes (.irStuck ms) s fun t => t.flag IRX_STAT_STUCK = true ∧ s.dev.rang t 98 1 (word ms.toNat) ∧
      s.dev.leavesRing t [IRX_STAT] := by
  obtain ⟨hon, hclear, hdeaf⟩ := hears
  have hms : min ms.toNat 0xFFFFFF = ms.toNat := by
    have := ms.isLt
    omega
  refine completes_of (f := fun d => d.irStuck ms.toNat) rfl ?_
  rw [Dev.irStuck, if_neg (by simp [hon, hclear, hdeaf]), hframe, hms]
  simp only [Dev.irRelease_of_none hheld]
  exact ⟨(Dev.ring_flag (by decide) ..).trans (Dev.flag_setFlag_same _ _ _ (by decide) (by decide)), rang_ring (by rfl) ..,
    leavesRing_ring (leavesRing_of_leaves (leaves_setFlag (s.dev.leaves_refl _) (by decide))) ..⟩

end Sys2Proof.Machine
end

section
/-!
SUPPORT. The infrared transmitter: its start, its entries and its ends, and the pattern memory (R803 to R805, R808 to R812,
R817).
-/

namespace Sys2Proof.Machine

variable {s : State} {d e : Dev} {x : Transmission}

/-! The end of a transmission (R805). -/

/-- The transmitter at rest, with one transmission more done. -/
def Dev.txRested (d : Dev) : Dev :=
  ((d.setIr { d.ir with tx := none, txEnd := some d.ticks }).setFlag ITX_STAT_BUSY false).bump ITX_CNT_DONE

theorem Dev.txFinish_eq (htx : d.ir.tx = some x) (hloop : d.ir.loop = false) (status last : Nat) :
    d.txFinish status last = d.txRested.ring 100 (word x.tag) (pack [(status, 21), (last, 0)]) := by
  unfold Dev.txFinish
  rw [htx]
  refine ite_eq_left_iff.2 fun _ => Dev.irLoopReport_idle ?_ []
  rw [Dev.ring_ir]
  exact hloop

/-- A transmission that ends: the transmitter is at rest, the end counted, and IR_TX_DONE the last event. -/
theorem Dev.txFinish_ends (htx : d.ir.tx = some x) (hloop : d.ir.loop = false) (status last : Nat) :
    (d.txFinish status last).ir.tx = none ∧ (d.txFinish status last).ir.txEnd = some d.ticks ∧
    (d.txFinish status last).flag ITX_STAT_BUSY = false ∧
    (d.txFinish status last).fld ITX_CNT_DONE = min (d.fld ITX_CNT_DONE + 1) (2 ^ ITX_CNT_DONE.width - 1) ∧
    d.rang (d.txFinish status last) 100 (word x.tag) (pack [(status, 21), (last, 0)]) ∧
    d.leavesRing (d.txFinish status last) [ITX_STAT, ITX_CNT] := by
  have hset : d.leaves (d.setIr { d.ir with tx := none, txEnd := some d.ticks }) [ITX_STAT, ITX_CNT] :=
    leaves_of (d.leaves_refl _) rfl rfl rfl rfl
  have hrested : d.leaves d.txRested [ITX_STAT, ITX_CNT] := leaves_bump (leaves_setFlag hset (by decide)) (by decide)
  rw [Dev.txFinish_eq htx hloop, Dev.ring_ir, Dev.ring_flag (by decide), Dev.ring_fld (by decide)]
  refine ⟨rfl, rfl, ?_, ?_, rang_ring (by rfl) .., leavesRing_ring (leavesRing_of_leaves hrested) ..⟩
  · exact (Dev.flag_bump_apart _ (by decide) (by decide)).trans (Dev.flag_setFlag_same _ _ _ (by decide) (by decide))
  · refine (Dev.fld_bump_same _ _ (by decide)).trans ?_
    rw [Dev.fld_setFlag_apart _ _ (by decide) (by decide)]
    rfl

/-! An entry (R805, R812, R817). -/

/-- The carrier of a transmission once its entry has begun: a mark takes ITX_CARRIER as it stands. -/
def Dev.entryCarrier (d : Dev) (x : Transmission) : Word :=
  if x.mode ≠ 3 ∧ wGet (d.pattern x.index) 23 1 = 1 then d.reg ITX_CARRIER else x.carrier

theorem Dev.txEntry_refused (htx : d.ir.tx = some x) (hmode : x.mode ≠ 3) (hzero : wGet (d.pattern x.index) 0 16 = 0) :
    d.txEntry = d.txFinish 4 x.index := by
  unfold Dev.txEntry
  rw [htx]
  exact if_pos ⟨hmode, hzero⟩

/-- An entry with a duration plays, and so does a carrier without a pattern. -/
theorem Dev.txEntry_plays (htx : d.ir.tx = some x) (hplays : x.mode = 3 ∨ wGet (d.pattern x.index) 0 16 ≠ 0) :
    d.txEntry.ir = { d.ir with tx := some { x with carrier := d.entryCarrier x } } ∧
    d.txEntry.fld ITX_STAT_INDEX = x.index % 512 ∧ d.txEntry.fld ITX_STAT_REPLEFT = x.left % 256 ∧
    (∀ f : Fld, f.apart ITX_STAT_INDEX = true → f.apart ITX_STAT_REPLEFT = true → d.txEntry.fld f = d.fld f) ∧
    d.leaves d.txEntry [ITX_STAT] := by
  have hentry : d.txEntry = ((d.setIr { d.ir with tx := some { x with carrier := d.entryCarrier x } }).setFld ITX_STAT_INDEX
      x.index).setFld ITX_STAT_REPLEFT x.left := by
    unfold Dev.txEntry
    rw [htx]
    exact if_neg fun h => hplays.elim h.1 fun hne => hne h.2
  have hset : d.leaves (d.setIr { d.ir with tx := some { x with carrier := d.entryCarrier x } }) [ITX_STAT] :=
    leaves_of (d.leaves_refl _) rfl rfl rfl rfl
  rw [hentry]
  refine ⟨rfl, ?_, Dev.fld_setFld_same _ ITX_STAT_REPLEFT _ (by decide), fun f hindex hleft => ?_,
    leaves_setFld (leaves_setFld hset (by decide)) (by decide)⟩
  · exact (Dev.fld_setFld_apart _ _ (by decide) (by decide)).trans (Dev.fld_setFld_same _ ITX_STAT_INDEX _ (by decide))
  · exact (Dev.fld_setFld_apart _ _ (by decide) hleft).trans (Dev.fld_setFld_apart _ _ (by decide) hindex)

theorem Dev.pattern_mod (d : Dev) (i : Nat) : d.pattern (i % 512) = d.pattern i := by
  rw [Dev.pattern, Nat.mod_mod, ← Dev.pattern]

theorem Dev.pattern_congr (h : e.ir.pattern = d.ir.pattern) (i : Nat) : e.pattern i = d.pattern i := by
  rw [Dev.pattern, h, ← Dev.pattern]

/-! ITX_START and ITX_STOP (R805, R808, R810). -/

/-- ITX_START writes ITX_CMD without STOP. -/
theorem Dev.writeItxCmd_start (d : Dev) (rq : Requester) (v : Word) : d.writeItxCmd rq (wSet v 10 1 0) =
    if wGet v 12 2 = 0 then d
    else if d.ir.tx.isSome || !d.txAllowed (rq == .console) then d.bump ITX_CNT_REFUSED
    else d.txBegin (wGet v 16 8) (wGet v 12 2) (wGet v 0 9) (d.fld ITX_REP_REPEAT) (rq == .console) false := by
  have hstop : wGet (wSet v 10 1 0) 10 1 = 0 := wGet_wSet_same v 10 1 0 (by decide)
  have hmode : wGet (wSet v 10 1 0) 12 2 = wGet v 12 2 := wGet_wSet_apart v 0 (by decide) (by decide)
  have htag : wGet (wSet v 10 1 0) 16 8 = wGet v 16 8 := wGet_wSet_apart v 0 (by decide) (by decide)
  have hindex : wGet (wSet v 10 1 0) 0 9 = wGet v 0 9 := wGet_wSet_apart v 0 (by decide) (by decide)
  rw [Dev.writeItxCmd, hstop, hmode, htag, hindex]
  exact if_neg (by decide)

/-- ITX_STOP writes ITX_CMD with STOP. -/
theorem Dev.writeItxCmd_stop (d : Dev) (rq : Requester) (v : Word) : d.writeItxCmd rq (wSet v 10 1 1) =
    match d.ir.tx with
    | none => d
    | some x => d.txFinish 2 x.index :=
  if_pos (wGet_wSet_same v 10 1 1 (by decide))

theorem itxStart_ignored (rq : Requester) {v : Word} (hmode : wGet v 12 2 = 0) :
    Completes (.itxStart rq v) s fun t => t = s.dev :=
  completes_of (f := fun d => d.writeItxCmd rq (wSet v 10 1 0)) rfl ((s.dev.writeItxCmd_start rq v).trans (if_pos hmode))

theorem itxStart_refused (rq : Requester) {v : Word} (hmode : wGet v 12 2 ≠ 0)
    (hrefused : s.dev.ir.tx ≠ none ∨ s.dev.txAllowed (rq == .console) = false) : Completes (.itxStart rq v) s fun t =>
      t.ir = s.dev.ir ∧ s.dev.leaves t [ITX_CNT] ∧
      t.fld ITX_CNT_REFUSED = min (s.dev.fld ITX_CNT_REFUSED + 1) (2 ^ ITX_CNT_REFUSED.width - 1) := by
  have hcond : (s.dev.ir.tx.isSome || !s.dev.txAllowed (rq == .console)) = true := by
    simpa [Option.isSome_iff_ne_none] using hrefused
  refine completes_of (f := fun d => d.writeItxCmd rq (wSet v 10 1 0)) rfl ?_
  simp only [Dev.writeItxCmd_start, if_neg hmode, if_pos hcond]
  exact ⟨rfl, leaves_bump (s.dev.leaves_refl _) (by decide), Dev.fld_bump_same _ _ (by decide)⟩

/-- A transmission as it begins, before its first entry is judged. -/
def Dev.txLoaded (d : Dev) (x : Transmission) : Dev :=
  ((d.setIr { d.ir with tx := some x, frame := none, ready := false, loop := false }).setFlag ITX_STAT_BUSY true).setFld
    ITX_STAT_MODE x.mode

theorem Dev.leaves_txLoaded (d : Dev) (x : Transmission) : d.leaves (d.txLoaded x) [ITX_STAT] := by
  have hset : d.leaves (d.setIr { d.ir with tx := some x, frame := none, ready := false, loop := false }) [ITX_STAT] :=
    leaves_of (d.leaves_refl _) rfl rfl rfl rfl
  exact leaves_setFld (leaves_setFlag hset (by decide)) (by decide)

/-- The transmission that a word of ITX_CMD asks for. -/
def Dev.txAsked (d : Dev) (rq : Requester) (v : Word) : Transmission :=
  ⟨wGet v 16 8, wGet v 12 2, wGet v 0 9, wGet v 0 9, d.fld ITX_REP_REPEAT, 1, rq == .console, d.reg ITX_CARRIER⟩

theorem completes_start (rq : Requester) {v : Word} (hmode : wGet v 12 2 ≠ 0) (hidle : s.dev.ir.tx = none)
    (hallowed : s.dev.txAllowed (rq == .console) = true) {P : Dev → Prop}
    (hp : P (s.dev.txLoaded (s.dev.txAsked rq v)).txEntry) : Completes (.itxStart rq v) s P := by
  have hcond : ¬ (s.dev.ir.tx.isSome || !s.dev.txAllowed (rq == .console)) = true := by simp [hidle, hallowed]
  refine completes_of (f := fun d => d.writeItxCmd rq (wSet v 10 1 0)) rfl ?_
  simp only [Dev.writeItxCmd_start, if_neg hmode, if_neg hcond]
  exact hp

theorem itxStart_begins (rq : Requester) {v : Word} (hmode : wGet v 12 2 ≠ 0) (hidle : s.dev.ir.tx = none)
    (hallowed : s.dev.txAllowed (rq == .console) = true)
    (hplays : wGet v 12 2 = 3 ∨ wGet (s.dev.pattern (wGet v 0 9)) 0 16 ≠ 0) : Completes (.itxStart rq v) s fun t =>
      t.ir.frame = none ∧ t.ir.tx = some ⟨wGet v 16 8, wGet v 12 2, wGet v 0 9, wGet v 0 9, s.dev.fld ITX_REP_REPEAT, 1,
        rq == .console, s.dev.reg ITX_CARRIER⟩ ∧
      t.flag ITX_STAT_BUSY = true ∧ t.fld ITX_STAT_MODE = wGet v 12 2 ∧ t.fld ITX_STAT_INDEX = wGet v 0 9 ∧
      t.fld ITX_STAT_REPLEFT = s.dev.fld ITX_REP_REPEAT ∧ s.dev.leaves t [ITX_STAT] := by
  have hcarrier : (s.dev.txLoaded (s.dev.txAsked rq v)).entryCarrier (s.dev.txAsked rq v) = s.dev.reg ITX_CARRIER := by
    have hreg : (s.dev.txLoaded (s.dev.txAsked rq v)).reg ITX_CARRIER = s.dev.reg ITX_CARRIER :=
      (s.dev.leaves_txLoaded _).1 _ (by decide)
    unfold Dev.entryCarrier
    split
    · exact hreg
    · rfl
  obtain ⟨hir, hindex, hleft, hrest, hleaves⟩ :=
    Dev.txEntry_plays (d := s.dev.txLoaded (s.dev.txAsked rq v)) (x := s.dev.txAsked rq v) rfl hplays
  rw [hcarrier] at hir
  refine completes_start rq hmode hidle hallowed ⟨by rw [hir]; rfl, by rw [hir]; rfl, ?_, ?_, hindex.trans ?_,
    hleft.trans ?_, leaves_trans (s.dev.leaves_txLoaded _) hleaves⟩
  · rw [Dev.flag, hrest _ (by decide) (by decide)]
    exact (Dev.flag_setFld_apart _ _ (by decide) (by decide)).trans (Dev.flag_setFlag_same _ _ _ (by decide) (by decide))
  · rw [hrest _ (by decide) (by decide)]
    exact (Dev.fld_setFld_same _ ITX_STAT_MODE _ (by decide)).trans (Nat.mod_eq_of_lt (wGet_lt v 12 2))
  · exact Nat.mod_eq_of_lt (wGet_lt v 0 9)
  · exact Nat.mod_eq_of_lt (wGet_lt _ _ 8)

/-- The first entry has no duration: the transmission ends at once, with status 4 (R817). -/
theorem itxStart_ends (rq : Requester) {v : Word} (hmode : wGet v 12 2 ≠ 0) (hidle : s.dev.ir.tx = none)
    (hallowed : s.dev.txAllowed (rq == .console) = true) (hpattern : wGet v 12 2 ≠ 3)
    (hzero : wGet (s.dev.pattern (wGet v 0 9)) 0 16 = 0) : Completes (.itxStart rq v) s fun t =>
      t.ir.tx = none ∧ t.flag ITX_STAT_BUSY = false ∧
      s.dev.rang t 100 (word (wGet v 16 8)) (pack [(4, 21), (wGet v 0 9, 0)]) ∧
      s.dev.leavesRing t [ITX_STAT, ITX_CNT] := by
  have hentry := Dev.txEntry_refused (d := s.dev.txLoaded (s.dev.txAsked rq v)) (x := s.dev.txAsked rq v) rfl hpattern hzero
  obtain ⟨hnone, -, hbusy, -, hrang, hleaves⟩ :=
    Dev.txFinish_ends (d := s.dev.txLoaded (s.dev.txAsked rq v)) (x := s.dev.txAsked rq v) rfl rfl 4 (wGet v 0 9)
  refine completes_start rq hmode hidle hallowed ?_
  rw [hentry]
  exact ⟨hnone, hbusy, rang_of_evr rfl hrang, leavesRing_trans
    (leavesRing_of_leaves (leaves_mono (s.dev.leaves_txLoaded _) (by decide))) hleaves⟩

/-! ITX_STOP, ITX_TMAX and ITX_ENTRY_END (R805, R809, R810). -/

/-- What ITX_TMAX does: the transmission ends with status 1. -/
def Dev.txTimedOut (d : Dev) : Dev :=
  d.txFinish 1 (match d.ir.tx with
    | some t => t.index
    | none => 0)

theorem Dev.txFinish_idle (hidle : d.ir.tx = none) (status last : Nat) : d.txFinish status last = d := by
  unfold Dev.txFinish
  rw [hidle]

theorem itx_idle (hidle : s.dev.ir.tx = none) {c : Instr} {rq : Requester} {v : Word}
    (hc : c ∈ [Instr.itxStop rq v, .itxEntryEnd, .itxTmax]) : Completes c s fun t => t = s.dev := by
  simp only [List.mem_cons, List.not_mem_nil, or_false] at hc
  obtain rfl | rfl | rfl := hc
  · refine completes_of (f := fun d => d.writeItxCmd rq (wSet v 10 1 1)) rfl ?_
    rw [Dev.writeItxCmd_stop, hidle]
  · refine completes_of (f := Dev.txNext) rfl ?_
    unfold Dev.txNext
    rw [hidle]
  · exact completes_of (f := Dev.txTimedOut) rfl (Dev.txFinish_idle hidle 1 _)

theorem itx_ends (htx : s.dev.ir.tx = some x) (hloop : s.dev.ir.loop = false) {c : Instr} {rq : Requester} {v : Word}
    {st : Nat} (hc : (c, st) ∈ [(Instr.itxStop rq v, 2), (.itxTmax, 1)]) : Completes c s fun t =>
      t.ir.tx = none ∧ t.ir.txEnd = some s.dev.ticks ∧ t.flag ITX_STAT_BUSY = false ∧
      t.fld ITX_CNT_DONE = min (s.dev.fld ITX_CNT_DONE + 1) (2 ^ ITX_CNT_DONE.width - 1) ∧
      s.dev.rang t 100 (word x.tag) (pack [(st, 21), (x.index, 0)]) ∧ s.dev.leavesRing t [ITX_STAT, ITX_CNT] := by
  simp only [List.mem_cons, Prod.mk.injEq, List.not_mem_nil, or_false] at hc
  obtain ⟨rfl, rfl⟩ | ⟨rfl, rfl⟩ := hc
  · refine completes_of (f := fun d => d.writeItxCmd rq (wSet v 10 1 1)) rfl ?_
    rw [Dev.writeItxCmd_stop, htx]
    exact Dev.txFinish_ends htx hloop 2 x.index
  · refine completes_of (f := Dev.txTimedOut) rfl ?_
    rw [Dev.txTimedOut, htx]
    exact Dev.txFinish_ends htx hloop 1 x.index

/-- The end of an entry of a pattern: the end of the run, or the next entry. -/
theorem Dev.txNext_pattern (htx : d.ir.tx = some x) (hmode : x.mode ≠ 3) : d.txNext =
    if wGet (d.pattern x.index) 22 1 = 1 then
      if x.left = 0 then d.txFinish 0 x.index
      else (d.setIr { d.ir with tx := some { x with index := x.start, left := x.left - 1, count := 1 } }).txEntry
    else if 512 ≤ x.count then d.txFinish 4 x.index
    else (d.setIr { d.ir with tx := some { x with index := (x.index + 1) % 512, count := x.count + 1 } }).txEntry := by
  unfold Dev.txNext
  rw [htx]
  exact if_neg hmode

theorem itxEntryEnd_carrier (htx : s.dev.ir.tx = some x) (hmode : x.mode = 3) :
    Completes .itxEntryEnd s fun t => t = s.dev := by
  refine completes_of (f := Dev.txNext) rfl ?_
  unfold Dev.txNext
  rw [htx]
  exact if_pos hmode

theorem itxEntryEnd_ends (htx : s.dev.ir.tx = some x) (hloop : s.dev.ir.loop = false) (hmode : x.mode ≠ 3)
    (hlast : wGet (s.dev.pattern x.index) 22 1 = 1) (hleft : x.left = 0) : Completes .itxEntryEnd s fun t =>
      t.ir.tx = none ∧ t.flag ITX_STAT_BUSY = false ∧
      s.dev.rang t 100 (word x.tag) (pack [(0, 21), (x.index, 0)]) ∧ s.dev.leavesRing t [ITX_STAT, ITX_CNT] := by
  obtain ⟨hnone, -, hbusy, -, hrang, hleaves⟩ := Dev.txFinish_ends htx hloop 0 x.index
  refine completes_of (f := Dev.txNext) rfl ?_
  rw [Dev.txNext_pattern htx hmode, if_pos hlast, if_pos hleft]
  exact ⟨hnone, hbusy, hrang, hleaves⟩

/-- A transmission that goes on at an entry with a duration; the entry's word says what its carrier is. -/
theorem Dev.txEntry_goesOn (y : Transmission) (hmode : y.mode ≠ 3) (hentry : wGet (d.pattern y.index) 0 16 ≠ 0) :
    (∃ w, (d.setIr { d.ir with tx := some y }).txEntry.ir.tx = some { y with carrier := w } ∧
      (wGet (d.pattern y.index) 23 1 = 1 → w = d.reg ITX_CARRIER) ∧ (wGet (d.pattern y.index) 23 1 = 0 → w = y.carrier)) ∧
    (d.setIr { d.ir with tx := some y }).txEntry.fld ITX_STAT_INDEX = y.index % 512 ∧
    d.leaves (d.setIr { d.ir with tx := some y }).txEntry [ITX_STAT] := by
  have hset : d.leaves (d.setIr { d.ir with tx := some y }) [ITX_STAT] := leaves_of (d.leaves_refl _) rfl rfl rfl rfl
  obtain ⟨hir, hindex, -, -, hleaves⟩ := Dev.txEntry_plays (d := d.setIr { d.ir with tx := some y }) rfl (.inr hentry)
  refine ⟨⟨_, (congrArg Infrared.tx hir :), fun hmark => if_pos ⟨hmode, hmark⟩, fun hspace => if_neg ?_⟩, hindex,
    leaves_trans hset hleaves⟩
  rintro ⟨-, hmark⟩
  exact absurd (hspace.symm.trans hmark) (by decide)

theorem itxEntryEnd_run (htx : s.dev.ir.tx = some x) (hmode : x.mode ≠ 3) (hlast : wGet (s.dev.pattern x.index) 22 1 = 1)
    (hleft : 0 < x.left) (hentry : wGet (s.dev.pattern x.start) 0 16 ≠ 0) : Completes .itxEntryEnd s fun t =>
      (∃ w, t.ir.tx = some { x with
        index := x.start, left := x.left - 1,
        count := 1, carrier := w } ∧
          (wGet (s.dev.pattern x.start) 23 1 = 1 → w = s.dev.reg ITX_CARRIER) ∧
          (wGet (s.dev.pattern x.start) 23 1 = 0 → w = x.carrier)) ∧
        s.dev.leaves t [ITX_STAT] := by
  obtain ⟨htransmits, -, hleaves⟩ :=
    Dev.txEntry_goesOn (d := s.dev) { x with index := x.start, left := x.left - 1, count := 1 } hmode hentry
  refine completes_of (f := Dev.txNext) rfl ?_
  rw [Dev.txNext_pattern htx hmode, if_pos hlast, if_neg hleft.ne']
  exact ⟨htransmits, hleaves⟩

theorem itxEntryEnd_next (htx : s.dev.ir.tx = some x) (hmode : x.mode ≠ 3) (hmore : wGet (s.dev.pattern x.index) 22 1 = 0)
    (hcount : x.count < 512) (hentry : wGet (s.dev.pattern (x.index + 1)) 0 16 ≠ 0) : Completes .itxEntryEnd s fun t =>
      (∃ w, t.ir.tx = some { x with
        index := (x.index + 1) % 512,
        count := x.count + 1, carrier := w } ∧
          (wGet (s.dev.pattern (x.index + 1)) 23 1 = 1 → w = s.dev.reg ITX_CARRIER) ∧
          (wGet (s.dev.pattern (x.index + 1)) 23 1 = 0 → w = x.carrier)) ∧
        t.fld ITX_STAT_INDEX = (x.index + 1) % 512 ∧ s.dev.leaves t [ITX_STAT] := by
  rw [← Dev.pattern_mod] at hentry ⊢
  obtain ⟨htransmits, hindex, hleaves⟩ :=
    Dev.txEntry_goesOn (d := s.dev) { x with index := (x.index + 1) % 512, count := x.count + 1 } hmode hentry
  refine completes_of (f := Dev.txNext) rfl ?_
  rw [Dev.txNext_pattern htx hmode, if_neg (by simp [hmore]), if_neg (Nat.not_le.2 hcount)]
  exact ⟨htransmits, hindex.trans (Nat.mod_mod ..), hleaves⟩

/-! The pattern memory (R804, R811). -/

/-- What an access of ITX_PDATA does to the pattern, or to the count of refused writes. -/
def Dev.pdataWritten (d : Dev) (write : Bool) (v : Word) : Dev :=
  if write then
    if d.ir.tx.isSome then d.bump ITX_CNT_REFUSED
    else d.setIr { d.ir with pattern := cellsSet patternDefault d.ir.pattern (d.fld ITX_PADDR_ADDR) v }
  else d

theorem completes_pdata (rq : Requester) (write : Bool) (v : Word) {P : Dev → Prop}
    (hp : P ((s.dev.pdataWritten write v).setFld ITX_PADDR_ADDR ((s.dev.fld ITX_PADDR_ADDR + 1) % 512))) :
    Completes (.itxPdata rq write v) s P := completes_of (f := fun d => (d.accessPdata write v).2) rfl hp

theorem Dev.paddr_advanced (d : Dev) (a : Nat) :
    (d.setFld ITX_PADDR_ADDR ((a + 1) % 512)).fld ITX_PADDR_ADDR = (a + 1) % 512 :=
  (Dev.fld_setFld_same _ ITX_PADDR_ADDR _ (by decide)).trans (Nat.mod_mod ..)

theorem itxPdata_reads (rq : Requester) (v : Word) : Completes (.itxPdata rq false v) s fun t =>
    t.ir = s.dev.ir ∧ t.fld ITX_PADDR_ADDR = (s.dev.fld ITX_PADDR_ADDR + 1) % 512 ∧ s.dev.leaves t [ITX_PADDR] :=
  completes_pdata rq false v ⟨rfl, Dev.paddr_advanced .., leaves_setFld (s.dev.leaves_refl _) (by decide)⟩

theorem itxPdata_writes (rq : Requester) (v : Word) (hidle : s.dev.ir.tx = none) : Completes (.itxPdata rq true v) s fun t =>
    t.pattern (s.dev.fld ITX_PADDR_ADDR) = v ∧
    (∀ b < 512, b ≠ s.dev.fld ITX_PADDR_ADDR → t.pattern b = s.dev.pattern b) ∧
    t.fld ITX_PADDR_ADDR = (s.dev.fld ITX_PADDR_ADDR + 1) % 512 ∧ s.dev.leaves t [ITX_PADDR] := by
  have hwritten : s.dev.pdataWritten true v =
      s.dev.setIr { s.dev.ir with pattern := cellsSet patternDefault s.dev.ir.pattern (s.dev.fld ITX_PADDR_ADDR) v } := by
    simp [Dev.pdataWritten, hidle]
  have haddr : s.dev.fld ITX_PADDR_ADDR % 512 = s.dev.fld ITX_PADDR_ADDR := Nat.mod_eq_of_lt (wGet_lt _ _ 9)
  have hset : s.dev.leaves (s.dev.pdataWritten true v) [ITX_PADDR] := by
    rw [hwritten]
    exact leaves_of (s.dev.leaves_refl _) rfl rfl rfl rfl
  refine completes_pdata rq true v ⟨?_, fun b hb hne => ?_, Dev.paddr_advanced .., leaves_setFld hset (by decide)⟩
  · simp only [hwritten, Dev.pattern, Dev.setFld_ir, Dev.setIr_ir, haddr]
    exact cellsGet_set_same ..
  · simp only [hwritten, Dev.pattern, Dev.setFld_ir, Dev.setIr_ir, Nat.mod_eq_of_lt hb]
    exact cellsGet_set_ne _ _ hne

theorem itxPdata_refused (rq : Requester) (v : Word) (hbusy : s.dev.ir.tx ≠ none) :
    Completes (.itxPdata rq true v) s fun t => t.ir = s.dev.ir ∧
      t.fld ITX_CNT_REFUSED = min (s.dev.fld ITX_CNT_REFUSED + 1) (2 ^ ITX_CNT_REFUSED.width - 1) ∧
      s.dev.leaves t [ITX_CNT, ITX_PADDR] := by
  have hrefused : s.dev.pdataWritten true v = s.dev.bump ITX_CNT_REFUSED := by
    simp [Dev.pdataWritten, Option.isSome_iff_ne_none.2 hbusy]
  refine completes_pdata rq true v ?_
  rw [hrefused]
  refine ⟨rfl, ?_, leaves_setFld (leaves_bump (s.dev.leaves_refl _) (by decide)) (by decide)⟩
  exact (Dev.fld_setFld_apart _ _ (by decide) (by decide)).trans (Dev.fld_bump_same _ _ (by decide))

end Sys2Proof.Machine
end

section
/-!
SUPPORT. Infrared, as the statements read together (chapter 21).
-/

namespace Sys2Proof.Machine

/-- Settles O45: the edges, the gap, the releases and the stuck input, and the transmitter, each by its command. -/
theorem infraredWorks : Obligations.InfraredWorks := by
  intro s
  refine ⟨fun low us held hmode => irEdge_asleep hmode low us held, fun mark us held hoff => irEdge_off hoff mark us held,
    fun hon hclear _ hdeaf hloop us => ?edges, irGap_unsticks, fun hclear hloop => ⟨irGap_idle hclear hloop,
      fun ds hframe => ⟨irGap_short hclear hloop hframe, irGap_unknown hclear hloop hframe⟩⟩,
    irBiphaseSpaceEnd_idle, fun ds hframe => ⟨irBiphaseSpaceEnd_open hframe,
      fun i c hjudge hi => irBiphaseSpaceEnd_decodes hframe hjudge hi⟩,
    irKeyRelease_none, fun k hheld hkey => ⟨irKeyRelease_releases hheld hkey, release_releases hheld⟩,
    fun ms => ⟨fun hoff => irStuck_off hoff ms, fun hon hclear hdeaf hframe hheld =>
      irStuck_shows ⟨hon, hclear, hdeaf⟩ hframe hheld ms⟩,
    ?start, fun hidle c rq v hc => itx_idle hidle hc, fun x htx hloop => ?running, ?pdata⟩
  case edges =>
    have hears : s.dev.hears := ⟨hon, hclear, hdeaf⟩
    exact ⟨irEdge_short hears us, fun low ds hmark hframe => irEdge_mark_joins hears us hmark hframe,
      fun low hmark hframe hready => irEdge_mark_begins hears us hmark hframe hready,
      fun low hspace hframe => irEdge_space_alone hears us hspace hframe,
      fun low ds hspace hframe hjudge => irEdge_space_joins hears us hspace hframe hjudge,
      fun low ds i code hspace hframe hjudge hi hcode hheld htoggle hmode =>
        irEdge_code hears hloop us hspace hframe hjudge hi hcode hheld htoggle hmode,
      fun low ds i hspace hframe hjudge hi hheld => irEdge_orphan hears hloop us hspace hframe hjudge hi hheld⟩
  case start =>
    rintro rq v m i rfl rfl
    exact ⟨itxStart_ignored rq, itxStart_refused rq, fun hmode hidle hallowed =>
      ⟨itxStart_begins rq hmode hidle hallowed, itxStart_ends rq hmode hidle hallowed⟩⟩
  case running =>
    exact ⟨fun c rq v st hc => itx_ends htx hloop hc, itxEntryEnd_carrier htx, itxEntryEnd_ends htx hloop,
      itxEntryEnd_run htx, itxEntryEnd_next htx⟩
  case pdata =>
    rintro rq v a rfl
    exact ⟨itxPdata_reads rq v, itxPdata_writes rq v, itxPdata_refused rq v⟩

end Sys2Proof.Machine
end

section
/-!
SUPPORT. What a frame's tracking, its reports and a WATCH scan leave as they are: the frame number, the frames that wait for
tracking, and the registers of the front end's last frame, of its counts and of the latencies (R227, R229, R232, R276).
-/

namespace Sys2Proof.Machine

variable {d e : Dev}

/-- The registers of the latencies, of the front end's counts and of its last frame. -/
def frameRegs : List Nat := [TRK_LAT, SCAN_CNT, SCAN_FRAME]

/-- The frame number, the frames that wait for tracking, and what `frameRegs` read. -/
def Dev.frameView (d : Dev) : Nat × List FrameInfo × List Word := (d.time.frame, d.trk.queue, frameRegs.map d.reg)

theorem frameView_frame (h : e.frameView = d.frameView) : e.time.frame = d.time.frame := congrArg Prod.fst h

theorem frameView_queue (h : e.frameView = d.frameView) : e.trk.queue = d.trk.queue := congrArg (·.2.1) h

theorem frameView_reg (h : e.frameView = d.frameView) {a : Nat} (ha : a ∈ frameRegs) : e.reg a = d.reg a :=
  List.map_inj_left.1 (congrArg (·.2.2) h) a ha

theorem frameView_fld (h : e.frameView = d.frameView) {f : Fld} (ha : f.addr ∈ frameRegs) : e.fld f = d.fld f := by
  rw [Dev.fld, frameView_reg h ha, ← Dev.fld]

/-- What no step of a fold over a state changes, the fold leaves. -/
theorem foldl_keeps_state {α β σ : Type} (g : σ → β) {step : σ → α → σ} (xs : List α) (s : σ)
    (h : ∀ s, ∀ x ∈ xs, g (step s x) = g s) : g (xs.foldl step s) = g s := by
  induction xs generalizing s with
  | nil => rfl
  | cons x xs ih => exact (ih (step s x) fun t y hy => h t y (by simp [hy])).trans (h s x (by simp))

theorem frameView_foldl_snd {α β : Type} {step : β × Dev → α → β × Dev} (xs : List α) (p : β × Dev)
    (h : ∀ p, ∀ x ∈ xs, (step p x).2.frameView = p.2.frameView) : (xs.foldl step p).2.frameView = p.2.frameView :=
  foldl_keeps_state (fun p : β × Dev => p.2.frameView) xs p h

/-- A step that answers a pair, named by its parts. -/
theorem frameView_of_eq {β : Type} {p : β × Dev} {b : β} (h : p = (b, e)) (hp : p.2.frameView = d.frameView) :
    e.frameView = d.frameView := by
  rw [h] at hp
  exact hp

/-! Registers, events and the link. -/

@[simp] theorem Dev.frameView_setReg (d : Dev) {a : Nat} (w : Word) (h : a ∉ frameRegs) :
    (d.setReg a w).frameView = d.frameView := by
  refine congrArg (fun ws => (d.time.frame, d.trk.queue, ws)) (List.map_congr_left fun b hb => ?_)
  rw [Dev.reg_setReg, if_neg (ne_of_mem_of_not_mem hb h)]

@[simp] theorem Dev.frameView_setFld (d : Dev) {f : Fld} (v : Nat) (h : f.addr ∉ frameRegs) :
    (d.setFld f v).frameView = d.frameView := d.frameView_setReg _ h

@[simp] theorem Dev.frameView_setFlag (d : Dev) {f : Fld} (b : Bool) (h : f.addr ∉ frameRegs) :
    (d.setFlag f b).frameView = d.frameView := d.frameView_setReg _ h

@[simp] theorem Dev.frameView_bump (d : Dev) {f : Fld} (h : f.addr ∉ frameRegs) : (d.bump f).frameView = d.frameView :=
  d.frameView_setReg _ h

@[simp] theorem Dev.frameView_bumpBy (d : Dev) {f : Fld} (n : Nat) (h : f.addr ∉ frameRegs) :
    (d.bumpBy f n).frameView = d.frameView := d.frameView_setReg _ h

@[simp] theorem Dev.frameView_setTrk (d : Dev) {t : Track} (h : t.queue = d.trk.queue) :
    (d.setTrk t).frameView = d.frameView :=
  congrArg (fun q => (d.time.frame, q, frameRegs.map d.reg)) h

theorem frameView_linked {as : List Nat} (h : Dev.Linked as d e) (hregs : ∀ a ∈ frameRegs, a ∉ as ∧ a ∉ ringRegs) :
    e.frameView = d.frameView := by
  have hframe : e.time.frame = d.time.frame := h.keeps (·.time.frame) fun _ => rfl
  have hqueue : e.trk.queue = d.trk.queue := h.keeps (·.trk.queue) fun _ => rfl
  have hread : frameRegs.map e.reg = frameRegs.map d.reg :=
    List.map_congr_left fun a ha => h.reg (hregs a ha).1 (hregs a ha).2
  rw [Dev.frameView, hframe, hqueue, hread, ← Dev.frameView]

@[simp] theorem Dev.frameView_ring (d : Dev) (src : Nat) (w1 w2 : Word) : (d.ring src w1 w2).frameView = d.frameView :=
  frameView_linked (as := []) (linked_ring ..) (by decide)

@[simp] theorem Dev.frameView_ringPair (d : Dev) (a1 a2 b1 b2 : Word) : (d.ringPair a1 a2 b1 b2).frameView = d.frameView :=
  frameView_linked (as := []) (linked_near (near_ringPair ..)) (by decide)

@[simp] theorem Dev.frameView_issueOps (d : Dev) : d.issueOps.frameView = d.frameView :=
  frameView_linked (linked_issueOps d) (by decide)

@[simp] theorem Dev.frameView_draw (d : Dev) (n : Nat) : (d.draw n).2.frameView = d.frameView := rfl
@[simp] theorem Dev.frameView_setRpt (d : Dev) (r : Reports) : (d.setRpt r).frameView = d.frameView := rfl
@[simp] theorem Dev.frameView_setModes (d : Dev) (m : Modes) : (d.setModes m).frameView = d.frameView := rfl
@[simp] theorem Dev.frameView_setBank (d : Dev) (b w : Nat) (v : Word) : (d.setBank b w v).frameView = d.frameView := rfl

theorem frameView_ite {c : Prop} [Decidable c] {a b x : Dev} (ha : a.frameView = x.frameView)
    (hb : b.frameView = x.frameView) :
    (if c then a else b).frameView = x.frameView := by
  split
  · exact ha
  · exact hb

/-! Baselines (R248 to R255). -/

@[simp] theorem Dev.frameView_baselineEvent (d : Dev) (kind slot frame : Nat) :
    (d.baselineEvent kind slot frame).frameView = d.frameView := Dev.frameView_ring ..

@[simp] theorem Dev.frameView_dropBaselines (d : Dev) : d.dropBaselines.frameView = d.frameView := rfl

@[simp] theorem Dev.frameView_renewChannels (d : Dev) (f : FrameInfo) : (d.renewChannels f).frameView = d.frameView := by
  unfold Dev.renewChannels
  split
  · rfl
  · extract_lets renew _ x
    have hx : x.frameView = d.frameView := rfl
    exact (Dev.frameView_baselineEvent ..).trans ((x.frameView_bump (by decide)).trans hx)

@[simp] theorem Dev.frameView_ratio (d : Dev) (num : Int) (den : Nat) : (d.ratio num den).2.frameView = d.frameView := by
  unfold Dev.ratio
  split
  · rfl
  · split <;> rfl

@[simp] theorem Dev.frameView_acquireNode (d : Dev) (nd : Node) (sample : Option Int) :
    (d.acquireNode nd sample).2.frameView = d.frameView := by
  unfold Dev.acquireNode
  extract_lets x
  split
  · rfl
  · split
    · rfl
    · exact Dev.frameView_ratio ..

@[simp] theorem Dev.frameView_scaleNode (d : Dev) (old new : Nat) (nd : Node) :
    (d.scaleNode old new nd).2.frameView = d.frameView :=
  (Dev.frameView_ratio ..).trans (Dev.frameView_ratio ..)

@[simp] theorem Dev.frameView_noteTarget (d : Dev) (vtx : Nat) : (d.noteTarget vtx).frameView = d.frameView :=
  frameView_ite rfl rfl

@[simp] theorem Dev.frameView_scaleSlot (d : Dev) (f : FrameInfo) (s : SlotBase) (vtx : Nat) :
    (d.scaleSlot f s vtx).2.frameView = d.frameView := by
  unfold Dev.scaleSlot
  split
  · rfl
  · split
    next nodes x hfold =>
      have hx : x.frameView = d.frameView :=
        frameView_of_eq hfold (frameView_foldl_snd s.nodes ([], d) fun acc nd _ => acc.2.frameView_scaleNode ..)
      refine Eq.trans ?_ hx
      exact frameView_ite rfl (Dev.frameView_baselineEvent ..)

@[simp] theorem Dev.frameView_prepareSlot (d : Dev) (f : FrameInfo) : (d.prepareSlot f).2.frameView = d.frameView :=
  (Dev.frameView_scaleSlot ..).trans (Dev.frameView_noteTarget ..)

@[simp] theorem Dev.frameView_reacquire (d : Dev) (nodes : List Node) (tick slot frame : Nat) :
    (d.reacquire nodes tick slot frame).2.frameView = d.frameView := by
  unfold Dev.reacquire
  simp only
  split
  · simp (disch := decide)
  · rfl

@[simp] theorem Dev.frameView_selfNode (d : Dev) (bank tick e : Nat) (nd : Node) :
    (d.selfNode bank tick e nd).2.frameView = d.frameView := by
  unfold Dev.selfNode
  split
  · exact Dev.frameView_acquireNode ..
  · split
    · rfl
    · simp only
      split <;> rfl

@[simp] theorem Dev.frameView_updateSelf (d : Dev) (bank tick slot frame : Nat) :
    (d.updateSelf bank tick slot frame).frameView = d.frameView := by
  have hstart : d.startSelf.frameView = d.frameView := frameView_ite rfl rfl
  unfold Dev.updateSelf
  extract_lets x
  split
  next out y hfold =>
    have hy : y.frameView = x.frameView :=
      frameView_of_eq hfold (frameView_foldl_snd _ ([], x) fun acc p _ => acc.2.frameView_selfNode ..)
    split
    next out' z hz =>
      have hz : z.frameView = y.frameView := frameView_of_eq hz (y.frameView_reacquire ..)
      refine Eq.trans ?_ (hz.trans (hy.trans hstart))
      exact frameView_ite (Dev.frameView_baselineEvent ..) rfl

end Sys2Proof.Machine
end

section
/-!
SUPPORT. What one tracked frame leaves of them: its nodes, its contacts, its records and its gestures (R248 to R313).
-/

namespace Sys2Proof.Machine

variable {d e : Dev}

/-! The nodes of a tracked frame (R248 to R250, R288). -/

@[simp] theorem Dev.frameView_trackNode (d : Dev) (f : FrameInfo) (i : Nat) (held : Bool) (nd : Node) :
    (d.trackNode f i held nd).2.frameView = d.frameView := by
  unfold Dev.trackNode
  split
  · rfl
  · split
    · exact Dev.frameView_acquireNode ..
    · split
      · rfl
      · simp only
        split <;> rfl

@[simp] theorem Dev.frameView_excludeLow (d : Dev) (nodes : List Node) (slot frame : Nat) :
    (d.excludeLow nodes slot frame).2.frameView = d.frameView := by
  unfold Dev.excludeLow
  simp only
  split
  · rfl
  · exact Dev.frameView_baselineEvent ..

@[simp] theorem Dev.frameView_updateNodes (d : Dev) (f : FrameInfo) (s : SlotBase) (still reacq : List (Int × Int)) :
    (d.updateNodes f s still reacq).frameView = d.frameView := by
  unfold Dev.updateNodes
  split
  next out x hfold =>
    have hx : x.frameView = d.frameView := by
      refine frameView_of_eq hfold (frameView_foldl_snd _ ([], d) fun acc q _ => ?_)
      simp only
      split
      · rfl
      · exact acc.2.frameView_trackNode ..
    split
    next out' y hy =>
      have hy : y.frameView = x.frameView := frameView_of_eq hy (x.frameView_reacquire ..)
      split
      next out'' z hz =>
        have hz : z.frameView = y.frameView := frameView_of_eq hz (y.frameView_excludeLow ..)
        refine Eq.trans ?_ (hz.trans (hy.trans hx))
        exact frameView_ite (Dev.frameView_baselineEvent ..) rfl

/-! Noise and hops (R256 to R260). -/

@[simp] theorem Dev.frameView_median (d : Dev) (vs : List Nat) : (d.median vs).2.frameView = d.frameView := by
  unfold Dev.median
  simp only
  split <;> rfl

theorem noise_not_mem_frameRegs {k : Nat} (hk : k < 8) : (TRK_NOISE_N k).addr ∉ frameRegs := by interval_cases k <;> decide

@[simp] theorem Dev.frameView_updateNoise (d : Dev) (bank : Nat) (chans : List Nat) :
    (d.updateNoise bank chans).frameView = d.frameView := by
  refine foldl_keeps Dev.frameView _ _ fun x k hk => ?_
  simp only
  rw [Dev.frameView_setFld _ _ (noise_not_mem_frameRegs (List.mem_range.1 hk)), Dev.frameView_ratio, Dev.frameView_median]

@[simp] theorem Dev.frameView_judgeNoisy (d : Dev) (tick : Nat) : (d.judgeNoisy tick).frameView = d.frameView := by
  unfold Dev.judgeNoisy
  simp only
  refine frameView_ite rfl (frameView_ite ?_ rfl)
  exact (Dev.frameView_ring ..).trans (Dev.frameView_setFlag _ _ (by decide))

@[simp] theorem Dev.frameView_judgeHop (d : Dev) : d.judgeHop.frameView = d.frameView := by
  unfold Dev.judgeHop
  split
  · rfl
  · exact frameView_ite (frameView_ite rfl rfl) rfl

/-! Contacts (R265 to R279). -/

@[simp] theorem Dev.frameView_centroid (d : Dev) (cells : List GridCell) (p : GridCell) :
    (d.centroid cells p).2.frameView = d.frameView := by
  unfold Dev.centroid
  simp only
  split
  · rfl
  · exact (Dev.frameView_ratio ..).trans (Dev.frameView_ratio ..)

@[simp] theorem Dev.frameView_look (d : Dev) (f : FrameInfo) (s : SlotBase) : (d.look f s).2.frameView = d.frameView := by
  unfold Dev.look
  extract_lets cells touched weak blobs bank palms plain water
  split
  next cands x hcands =>
    have hx : x.frameView = d.frameView :=
      frameView_of_eq hcands (frameView_foldl_snd plain ([], d) fun acc p _ =>
        frameView_foldl_snd _ acc fun acc' c _ => acc'.2.frameView_centroid ..)
    split
    next weaks y hweaks =>
      exact (frameView_of_eq hweaks (frameView_foldl_snd _ ([], x) fun acc p _ => acc.2.frameView_centroid ..)).trans hx

@[simp] theorem Dev.frameView_cancelIds (d : Dev) (ids : List Nat) (reason : Nat) :
    (d.cancelIds ids reason).frameView = d.frameView := by
  unfold Dev.cancelIds
  simp only
  rw [Dev.frameView_setFlag _ _ (by decide), Dev.frameView_setFld _ _ (by decide), Dev.frameView_bumpBy _ _ (by decide)]
  rfl

@[simp] theorem Dev.frameView_cancelLive (d : Dev) (reason : Nat) : (d.cancelLive reason).frameView = d.frameView :=
  Dev.frameView_cancelIds ..

@[simp] theorem Dev.frameView_palmStep (d : Dev) (f : FrameInfo) (si : Sight) : (d.palmStep f si).frameView = d.frameView := by
  unfold Dev.palmStep
  extract_lets palms hit x old new gone _ y
  have hx : x.frameView = d.frameView := d.frameView_cancelIds ..
  have hy : y.frameView = x.frameView := rfl
  refine (foldl_keeps Dev.frameView new _ fun z b _ => z.frameView_ring ..).trans ?_
  exact (y.frameView_setFlag _ (by decide)).trans (hy.trans hx)

@[simp] theorem Dev.frameView_matchStep (d : Dev) (f : FrameInfo) (cands : List Cand) :
    (d.matchStep f cands).2.frameView = d.frameView := Dev.frameView_cancelIds ..

@[simp] theorem Dev.frameView_wetStep (d : Dev) (f : FrameInfo) (water : Bool) :
    (d.wetStep f water).frameView = d.frameView := by
  unfold Dev.wetStep
  extract_lets _ x was now bad good gone
  have hx : x.frameView = d.frameView := rfl
  refine Eq.trans (frameView_ite rfl (frameView_ite ?_ ?_)) hx
  · rw [Dev.frameView_ring, Dev.frameView_setFlag _ _ (by decide), Dev.frameView_cancelIds]
  · rw [Dev.frameView_ring, Dev.frameView_setFlag _ _ (by decide)]

@[simp] theorem Dev.frameView_stuckStep (d : Dev) (f : FrameInfo) : (d.stuckStep f).2.frameView = d.frameView := by
  unfold Dev.stuckStep
  simp only
  rw [Dev.frameView_cancelIds]
  refine frameView_ite rfl ?_
  rw [Dev.frameView_baselineEvent, Dev.frameView_bump _ (by decide)]

@[simp] theorem Dev.frameView_liftStep (d : Dev) (f : FrameInfo) (si : Sight) : (d.liftStep f si).2.frameView = d.frameView :=
  rfl

@[simp] theorem Dev.frameView_refuseCands (d : Dev) (n tick frame : Nat) :
    (d.refuseCands n tick frame).frameView = d.frameView := by
  unfold Dev.refuseCands
  split
  · rfl
  · extract_lets recent _ x due
    have hx : x.frameView = d.frameView := Dev.frameView_bumpBy _ _ (by decide)
    exact Eq.trans (frameView_ite (Dev.frameView_ring ..) rfl) hx

@[simp] theorem Dev.frameView_formStep (d : Dev) (f : FrameInfo) (cands : List Cand) (taken handed : List Nat) :
    (d.formStep f cands taken handed).2.frameView = d.frameView := by
  unfold Dev.formStep
  extract_lets rest pros ripe wet
  split
  next reports live refused x hfold =>
    have hx : x.frameView = d.frameView := by
      rw [← show (reports, live, refused, x).2.2.2 = x from rfl, ← hfold]
      refine foldl_keeps_state (fun p : List Report × List Prospect × Nat × Dev => p.2.2.2.frameView) ripe ([], [], 0, d)
        fun acc p _ => ?_
      simp only
      split
      · rfl
      · split <;> rfl
    exact (Dev.frameView_refuseCands ..).trans hx

@[simp] theorem Dev.frameView_soleStep (d : Dev) : d.soleStep.frameView = d.frameView := frameView_ite rfl rfl

@[simp] theorem Dev.frameView_trackFlags (d : Dev) (frame : Nat) : (d.trackFlags frame).frameView = d.frameView := by
  unfold Dev.trackFlags
  extract_lets x g first _ y
  have hx : x.frameView = d.frameView := by
    rw [Dev.frameView_setFlag _ _ (by decide), Dev.frameView_setFld _ _ (by decide)]
  exact Eq.trans (frameView_ite rfl (frameView_ite rfl (y.frameView_ring ..))) hx

@[simp] theorem Dev.frameView_reducedStep (d : Dev) (f : FrameInfo) : (d.reducedStep f).frameView = d.frameView := by
  unfold Dev.reducedStep
  extract_lets now
  exact frameView_ite rfl ((Dev.frameView_ring ..).trans (Dev.frameView_setFlag _ _ (by decide)))

@[simp] theorem Dev.frameView_trackHeld (d : Dev) (f : FrameInfo) : (d.trackHeld f).frameView = d.frameView := by
  unfold Dev.trackHeld
  extract_lets since _ x
  have hx : x.frameView = d.frameView := Dev.frameView_setFlag _ _ (by decide)
  exact Eq.trans (frameView_ite ((Dev.frameView_ring ..).trans (Dev.frameView_cancelLive ..)) rfl) hx

@[simp] theorem Dev.frameView_trackResumed (d : Dev) (f : FrameInfo) : (d.trackResumed f).frameView = d.frameView := by
  unfold Dev.trackResumed
  extract_lets done _ x
  have hx : x.frameView = d.frameView := Dev.frameView_setFlag _ _ (by decide)
  exact Eq.trans (frameView_ite (x.frameView_ring ..) rfl) hx

theorem Dev.frameView_lastContact (d : Dev) (w : Option Nat) :
    (d.setTrk { d.trk with lastContact := w }).frameView = d.frameView := rfl

@[simp] theorem Dev.frameView_trackLive (d : Dev) (f : FrameInfo) (handed : List Nat) :
    (d.trackLive f handed).2.frameView = d.frameView := by
  unfold Dev.trackLive
  extract_lets x _ y
  have hx : x.frameView = d.frameView := (Dev.frameView_reducedStep ..).trans (d.frameView_trackResumed f)
  have hy : y.frameView = d.frameView := (x.frameView_setTrk rfl).trans hx
  simp only
  split
  · rw [Dev.frameView_updateSelf, Dev.frameView_updateNodes, Dev.frameView_prepareSlot]
    exact hy
  · simp only
    rw [Dev.frameView_lastContact, Dev.frameView_updateSelf, Dev.frameView_updateNodes, Dev.frameView_soleStep,
      Dev.frameView_formStep, Dev.frameView_liftStep, Dev.frameView_stuckStep, Dev.frameView_wetStep,
      Dev.frameView_matchStep, Dev.frameView_palmStep, Dev.frameView_look, Dev.frameView_prepareSlot]
    exact hy

@[simp] theorem Dev.frameView_trackFrame (d : Dev) (f : FrameInfo) (handed : List Nat) :
    (d.trackFrame f handed).2.2.frameView = d.frameView := by
  unfold Dev.trackFrame
  extract_lets x y z w
  have hy : y.frameView = d.frameView :=
    Eq.trans (frameView_ite (x.frameView_updateNoise ..) rfl) (d.frameView_renewChannels f)
  have hw : w.frameView = d.frameView :=
    (z.frameView_setFlag _ (by decide)).trans ((y.frameView_judgeNoisy f.tick).trans hy)
  split
  · exact (Dev.frameView_trackFlags ..).trans ((w.frameView_trackHeld f).trans hw)
  · simp only
    rw [Dev.frameView_trackFlags, Dev.frameView_judgeHop, Dev.frameView_trackLive]
    exact hw

/-! Gestures (R313). -/

@[simp] theorem Dev.frameView_tapGesture (d : Dev) (c : Contact) (tick : Nat) :
    (d.tapGesture c tick).2.frameView = d.frameView := by
  unfold Dev.tapGesture
  split
  · rfl
  · split
    · split <;> rfl
    · split <;> rfl

@[simp] theorem Dev.frameView_liveGestures (d : Dev) (tick : Nat) (downs : List Nat) :
    (d.liveGestures tick downs).2.frameView = d.frameView := by
  refine frameView_foldl_snd d.trk.contacts ([], d) fun acc c _ => ?_
  simp only
  split
  · rfl
  · split <;> rfl

@[simp] theorem Dev.frameView_frameGestures (d : Dev) (tick : Nat) (before : List Contact) (reps : List Report) :
    (d.frameGestures tick before reps).2.frameView = d.frameView := by
  unfold Dev.frameGestures
  simp only
  rw [Dev.frameView_liveGestures]
  exact frameView_foldl_snd _ ([], d) fun acc c _ => acc.2.frameView_tapGesture c tick

/-! HID sets (R469 to R472). -/

@[simp] theorem Dev.frameView_hidOwe (d : Dev) (cs : List HidContact) : (d.hidOwe cs).frameView = d.frameView := rfl

@[simp] theorem Dev.frameView_hidPut (d : Dev) (rs : List (List Byte)) (gone : List HidContact) :
    (d.hidPut rs gone).frameView = d.frameView := frameView_ite rfl rfl

@[simp] theorem Dev.frameView_hidFrame (d : Dev) (sec frac : Nat) (flags : Word) (cancels lifts live : List HidContact) :
    (d.hidFrame sec frac flags cancels lifts live).frameView = d.frameView := by
  unfold Dev.hidFrame
  split
  · rfl
  · split
    · rfl
    · extract_lets skip old cancels' lifts' all trunc x y v
      have hx : x.frameView = d.frameView := frameView_ite (Dev.frameView_bump _ (by decide)) rfl
      have hy : y.frameView = x.frameView := frameView_ite (Dev.frameView_bump _ (by decide)) rfl
      exact (y.frameView_hidPut ..).trans (hy.trans hx)

@[simp] theorem Dev.frameView_hidTile (d : Dev) (f : FrameInfo) (tracked : Bool) (cancels reps : List Report) :
    (d.hidTile f tracked cancels reps).frameView = d.frameView := by
  unfold Dev.hidTile
  simp only
  exact frameView_ite (Dev.frameView_hidFrame ..) rfl

/-! Records (R301 to R311). -/

@[simp] theorem Dev.frameView_compact (d : Dev) (r : Report) : (d.compact r).frameView = d.frameView :=
  frameView_ite (d.frameView_ring ..) (d.frameView_ring ..)

@[simp] theorem Dev.frameView_contactRecord (d : Dev) (r : Report) : (d.contactRecord r).frameView = d.frameView := by
  have hpair (x : Dev) : (x.surfacePair r).frameView = x.frameView := x.frameView_ringPair ..
  unfold Dev.contactRecord
  split
  · exact d.frameView_compact r
  · exact hpair d
  · exact (hpair _).trans (d.frameView_compact r)

@[simp] theorem Dev.frameView_noteReported (d : Dev) (r : Report) : (d.noteReported r).frameView = d.frameView := rfl

@[simp] theorem Dev.frameView_burstDone (d : Dev) (valid : Bool) : (d.burstDone valid).frameView = d.frameView :=
  Dev.frameView_setFlag _ _ (by decide)

theorem Dev.frameView_resyncBurst (d : Dev) (n : Nat) (valid : Bool) : (d.resyncBurst n valid).frameView = d.frameView := by
  unfold Dev.resyncBurst
  extract_lets live x
  have hx : x.frameView = d.frameView := (Dev.frameView_bump _ (by decide)).trans (d.frameView_ring ..)
  refine (Dev.frameView_burstDone ..).trans ((foldl_keeps Dev.frameView live x fun y r _ => ?_).trans hx)
  exact (Dev.frameView_noteReported ..).trans (y.frameView_contactRecord r)

@[simp] theorem Dev.frameView_raiseGesture (d : Dev) (g : Word × Word) : (d.raiseGesture g).frameView = d.frameView :=
  d.frameView_ring ..

@[simp] theorem Dev.frameView_frameEnd (d : Dev) (n live : Nat) (flags : Word) (resync : Bool) :
    (d.frameEnd n live flags resync).frameView = d.frameView := by
  unfold Dev.frameEnd
  simp only
  rw [Dev.frameView_ring, Dev.frameView_setRpt, Dev.frameView_setFld _ _ (by decide)]

theorem Dev.frameView_inGroup (d : Dev) (n : Nat) {f : Dev → Dev} (h : ∀ x, (f x).frameView = x.frameView) :
    (d.inGroup n f).frameView = d.frameView := h { d with evr := { d.evr with group := some n } }

theorem Dev.frameView_standaloneReports (d : Dev) (f : FrameInfo) (tracked valid : Bool) (reps : List Report)
    (gestures : List (Word × Word)) : (d.standaloneReports f tracked valid reps gestures).frameView = d.frameView := by
  unfold Dev.standaloneReports
  extract_lets burst flags
  refine d.frameView_inGroup f.n fun x => ?_
  extract_lets _ v y z _ w
  have hy : y.frameView = x.frameView := by
    refine frameView_ite (x.frameView_resyncBurst ..) ?_
    refine (foldl_keeps Dev.frameView _ v fun u r _ => ?_).trans
      (foldl_keeps Dev.frameView _ x fun u r _ => u.frameView_contactRecord r)
    exact (Dev.frameView_noteReported ..).trans (u.frameView_contactRecord r)
  have hz : z.frameView = y.frameView := foldl_keeps Dev.frameView _ _ fun u g _ => u.frameView_raiseGesture g
  have hw : w.frameView = z.frameView := z.frameView_setTrk rfl
  exact Eq.trans (frameView_ite (Dev.frameView_frameEnd ..) rfl) (hw.trans (hz.trans hy))

/-! The contacts of a surface (R308, R558, R564). -/

theorem Dev.frameView_applyEntry (d : Dev) (xy n : Nat) (r : Report) : (d.applyEntry xy n r).frameView = d.frameView := by
  unfold Dev.applyEntry
  extract_lets mine
  split
  · exact frameView_ite rfl rfl
  · split
    · exact frameView_ite rfl rfl
    · rfl
    · rfl
    · rfl

theorem Dev.frameView_sendCancels (d : Dev) : d.sendCancels.frameView = d.frameView :=
  foldl_keeps Dev.frameView _ _ fun x _ _ => x.frameView_ringPair ..

theorem Dev.frameView_flushCancels (d : Dev) : d.flushCancels.frameView = d.frameView :=
  frameView_ite (Dev.frameView_sendCancels _) rfl

theorem Dev.frameView_flushGestures (d : Dev) : d.flushGestures.frameView = d.frameView :=
  foldl_keeps Dev.frameView _ _ fun x g _ => x.frameView_raiseGesture g

theorem Dev.frameView_gather (d : Dev) (xy n : Nat) (flags : Word) (reps : List Report) (gs : List (Word × Word)) :
    (d.gather xy n flags reps gs).frameView = d.frameView := by
  unfold Dev.gather
  extract_lets x _ y
  have hx : x.frameView = d.frameView := foldl_keeps Dev.frameView _ _ fun z r _ => z.frameView_applyEntry xy n r
  refine Eq.trans (b := y.frameView) (frameView_ite rfl (frameView_ite ?_ rfl)) hx
  exact (Dev.frameView_flushGestures _).trans y.frameView_flushCancels

@[simp] theorem Dev.frameView_sendContacts (d : Dev) (n : Nat) (flags : Word) (reps : List Report) (gs : List (Word × Word)) :
    (d.sendContacts n flags reps gs).frameView = d.frameView :=
  frameView_ite (d.frameView_gather ..) (Dev.frameView_issueOps _)

theorem Dev.frameView_surfaceOut (d : Dev) (f : FrameInfo) (tracked : Bool) (reps : List Report) (gs : List (Word × Word)) :
    (d.surfaceOut f tracked reps gs).frameView = d.frameView := by
  unfold Dev.surfaceOut
  simp only
  exact (Dev.frameView_sendContacts ..).trans (frameView_ite rfl rfl)

/-! One frame (R276, R308, R509, R558). -/

@[simp] theorem Dev.frameView_trackBoundary (d : Dev) (resets : List (Nat × Bool)) (slot n : Nat) :
    (d.trackBoundary resets slot n).frameView = d.frameView := by
  refine foldl_keeps Dev.frameView resets d fun x r _ => ?_
  have hdrop (y : Dev) : (if r.2 then y.dropBaselines else y).frameView = y.frameView := frameView_ite rfl rfl
  exact Eq.trans (frameView_ite (Dev.frameView_baselineEvent ..) rfl) ((hdrop _).trans (x.frameView_cancelLive _))

@[simp] theorem Dev.frameView_transitionOf (d : Dev) (f : FrameInfo) : (d.transitionOf f).2.frameView = d.frameView := by
  unfold Dev.transitionOf
  split
  · rfl
  · split
    · split <;> rfl
    · rfl

theorem Dev.frameView_trackOne (d : Dev) (f : FrameInfo) (handed : List Nat) :
    (d.trackOne f handed).frameView = d.frameView := by
  unfold Dev.trackOne
  extract_lets x before valid
  have hx : x.frameView = d.frameView := d.frameView_trackBoundary ..
  split
  next transition y hy =>
  have hy : y.frameView = x.frameView := frameView_of_eq hy (x.frameView_transitionOf f)
  extract_lets f'
  split
  next tracked reps z hz =>
  have hz : z.frameView = y.frameView := by
    rw [← show (tracked, reps, z).2.2 = z from rfl, ← hz, Dev.frameView_trackFrame]
  split
  next gestures w hw =>
  have hw : w.frameView = z.frameView := by
    refine frameView_of_eq hw ?_
    split
    · exact z.frameView_frameGestures ..
    · rfl
  refine Eq.trans (frameView_ite (w.frameView_surfaceOut ..) ?_) (hw.trans (hz.trans (hy.trans hx)))
  exact (Dev.frameView_standaloneReports ..).trans (w.frameView_hidTile ..)

end Sys2Proof.Machine
end

section
/-!
SUPPORT. The end of a frame's tracking: the oldest frame is taken, and its latency noted (R227, R229, R276).
-/

namespace Sys2Proof.Machine

variable {d e : Dev} {s : State}

/-! Banks and modes. -/

theorem not_mem_frameRegs_of_le {a : Nat} (h : 0x0E10 ≤ a) : a ∉ frameRegs := fun hmem => by
  have hall : ∀ b ∈ frameRegs, b < 0x0E10 := by decide
  exact absurd (hall a hmem) (by omega)

@[simp] theorem Dev.frameView_setOwner (d : Dev) (bank code : Nat) : (d.setOwner bank code).frameView = d.frameView := by
  have howner : MEM_OWN bank ∉ frameRegs := not_mem_frameRegs_of_le (Nat.le_add_right ..)
  exact (Dev.frameView_setFlag _ _ howner).trans (d.frameView_setFld _ howner)

@[simp] theorem Dev.frameView_markPending (d : Dev) (m : Option Nat) : (d.markPending m).frameView = d.frameView := by
  unfold Dev.markPending
  cases m with
  | some mode => exact (Dev.frameView_setFld _ _ (by decide)).trans (d.frameView_setFlag _ (by decide))
  | none => exact d.frameView_setFlag _ (by decide)

@[simp] theorem Dev.frameView_sendMode (d : Dev) (mode apply : Nat) : (d.sendMode mode apply).frameView = d.frameView :=
  foldl_keeps Dev.frameView d.joinedTiles d fun _ _ _ => rfl

@[simp] theorem Dev.frameView_placeMode (d : Dev) (mode reason : Nat) (apply : Option Nat) :
    (d.placeMode mode reason apply).frameView = d.frameView := d.frameView_setModes _

@[simp] theorem Dev.frameView_askMode (d : Dev) (mode reason : Nat) : (d.askMode mode reason).frameView = d.frameView :=
  frameView_ite
    ((Dev.frameView_markPending ..).trans ((Dev.frameView_placeMode ..).trans (d.frameView_sendMode ..)))
    ((Dev.frameView_markPending ..).trans (d.frameView_placeMode ..))

@[simp] theorem Dev.frameView_holdMode (d : Dev) (mode reason : Nat) : (d.holdMode mode reason).frameView = d.frameView := by
  unfold Dev.holdMode
  split
  · rfl
  · exact frameView_ite rfl rfl
  · rfl

/-! A capture's copy starts (R321). -/

@[simp] theorem Dev.frameView_setChan (d : Dev) (c : Nat) (ch : Channel) : (d.setChan c ch).frameView = d.frameView :=
  Dev.frameView_setReg _ _ (not_mem_frameRegs_of_le (by simp only [GDE_CSTAT]; omega))

@[simp] theorem Dev.frameView_activate (d : Dev) (c : Nat) : (d.activate c).frameView = d.frameView := by
  unfold Dev.activate
  simp only
  split
  · exact d.frameView_setChan ..
  · rfl

@[simp] theorem Dev.frameView_queueDesc (d : Dev) (c : Nat) (q : Descriptor) : (d.queueDesc c q).frameView = d.frameView :=
  (Dev.frameView_activate ..).trans (d.frameView_setChan ..)

@[simp] theorem Dev.frameView_mapBank (d : Dev) (entry page bank : Nat) (a b : Word) :
    (d.mapBank entry page bank a b).frameView = d.frameView :=
  foldl_keeps Dev.frameView (List.range 16) d fun x i _ =>
    (Dev.frameView_setReg _ _ (not_mem_frameRegs_of_le (by simp only [GDE_WINB]; omega))).trans
      (x.frameView_setReg _ (not_mem_frameRegs_of_le (by simp only [GDE_WINA]; omega)))

@[simp] theorem Dev.frameView_startCopy (d : Dev) (n : Nat) : (d.startCopy n).frameView = d.frameView := by
  unfold Dev.startCopy
  extract_lets far
  split
  next entry x hx =>
  have hx : x.frameView = d.frameView := frameView_of_eq hx (d.frameView_draw 17)
  split
  next page y hy =>
  have hy : y.frameView = x.frameView := frameView_of_eq hy (x.frameView_draw 16352)
  extract_lets z w elems _ v
  have hv : v.frameView = d.frameView := by
    have hz : z.frameView = y.frameView := y.frameView_mapBank ..
    have hw : w.frameView = z.frameView := z.frameView_mapBank ..
    exact (w.frameView_setRpt _).trans (hw.trans (hz.trans (hy.trans hx)))
  exact Eq.trans (frameView_ite rfl (v.frameView_queueDesc ..)) hv

@[simp] theorem Dev.frameView_afterTracking (d : Dev) (f : FrameInfo) : (d.afterTracking f).frameView = d.frameView := by
  have hcopy (x : Dev) (n bank : Nat) :
      (if (x.startCopy n).capRemote then (x.startCopy n).setOwner bank 0 else x.startCopy n).frameView = x.frameView :=
    Eq.trans (frameView_ite (Dev.frameView_setOwner ..) rfl) (x.frameView_startCopy n)
  unfold Dev.afterTracking
  split
  · rfl
  · split
    · extract_lets turn _ x
      have hx : x.frameView = d.frameView := rfl
      exact Eq.trans (frameView_ite (hcopy ..) (x.frameView_setOwner ..)) hx
    · exact d.frameView_setOwner ..

/-! The end of a frame's tracking (R227, R229). -/

@[simp] theorem Dev.frameView_noteContact (d : Dev) : d.noteContact.frameView = d.frameView := frameView_ite rfl rfl

@[simp] theorem Dev.frameView_noteTelem (d : Dev) (stretched : Bool) : (d.noteTelem stretched).frameView = d.frameView := rfl

@[simp] theorem Dev.frameView_idleToActive (d : Dev) : d.idleToActive.frameView = d.frameView :=
  frameView_ite ((Dev.frameView_issueOps _).trans (d.frameView_askMode ..)) rfl

@[simp] theorem Dev.frameView_dropPast (d : Dev) : d.dropPast.frameView = d.frameView := rfl

theorem Dev.frameView_withPast (d : Dev) (n : Nat) {f : Dev → Dev} (h : ∀ x, (f x).frameView = x.frameView) :
    (d.withPast n f).frameView = d.frameView := by
  unfold Dev.withPast
  extract_lets past now x
  have hx : x.frameView = d.frameView := by
    refine (h _).trans (foldl_keeps Dev.frameView past d fun y p _ => ?_)
    exact foldl_keeps Dev.frameView p.2 y fun _ _ _ => rfl
  exact Eq.trans (frameView_ite rfl rfl) hx

theorem Dev.noteLatency_notes (d : Dev) (us : BitVec 16) : (d.noteLatency us.toNat).trk = d.trk ∧
    (d.noteLatency us.toNat).fld TRK_LAT_MAX = max us.toNat (d.fld TRK_LAT_MAX) ∧
    (d.noteLatency us.toNat).fld TRK_LAT_LATE =
      (if 2000 < us.toNat then min (d.fld TRK_LAT_LATE + 1) (2 ^ TRK_LAT_LATE.width - 1) else d.fld TRK_LAT_LATE) := by
  have hmax : max us.toNat (d.fld TRK_LAT_MAX) < 2 ^ 16 := Nat.max_lt.2 ⟨us.isLt, wGet_lt ..⟩
  unfold Dev.noteLatency
  extract_lets x
  have hx : x.trk = d.trk ∧ x.fld TRK_LAT_MAX = d.fld TRK_LAT_MAX ∧ x.fld TRK_LAT_LATE =
      if 2000 < us.toNat then min (d.fld TRK_LAT_LATE + 1) (2 ^ TRK_LAT_LATE.width - 1) else d.fld TRK_LAT_LATE := by
    by_cases hlate : 2000 < us.toNat
    · simp only [x, if_pos hlate]
      exact ⟨rfl, Dev.fld_bump_apart _ (by decide) (by decide), Dev.fld_bump_same _ _ (by decide)⟩
    · simp only [x, if_neg hlate, and_self]
  obtain ⟨htrk, hmost, hlate⟩ := hx
  refine ⟨htrk, ?_, ?_⟩
  · rw [Dev.fld_setFld_same _ _ _ (by decide), hmost]
    exact Nat.mod_eq_of_lt hmax
  · rw [Dev.fld_setFld_apart _ _ (by decide) (by decide), hlate]

/-- No frame began without the cores: none is dropped. -/
theorem Dev.dropScrap_of_none (h : ∀ g ∈ d.trk.queue, g.scrap = false) : d.dropScrap = d := by
  have hgone : d.trk.queue.filter (fun f => f.scrap) = [] := by simpa using h
  have hstays : d.trk.queue.filter (fun f => !f.scrap) = d.trk.queue := List.filter_eq_self.2 fun g hg => by simp [h g hg]
  unfold Dev.dropScrap
  split
  · rfl
  · simp only [hgone, List.filter_nil, List.foldl_nil, hstays]
    rfl

/-- The tracker's work on the oldest frame, before its latency is noted. -/
def Dev.frameTracked (d : Dev) (f : FrameInfo) (rest : List FrameInfo) (handed : List Nat) : Dev :=
  ((d.setTrk { d.trk with queue := rest }).withPast f.n fun d => d.trackOne f handed).afterTracking f

theorem Dev.frameView_frameTracked (d : Dev) (f : FrameInfo) (rest : List FrameInfo) (handed : List Nat) :
    (d.frameTracked f rest handed).frameView = (d.setTrk { d.trk with queue := rest }).frameView :=
  (Dev.frameView_afterTracking ..).trans (Dev.frameView_withPast _ _ fun x => x.frameView_trackOne f handed)

theorem Dev.trackEnd_eq {f : FrameInfo} {rest : List FrameInfo} (hqueue : d.trk.queue = f :: rest)
    (hscrap : ∀ g ∈ d.trk.queue, g.scrap = false) (hcores : d.pwr.coreRestart = false) (us : Nat) (handed : List Nat) :
    d.trackEnd us handed =
      (((((d.frameTracked f rest handed).noteLatency us).noteContact).noteTelem f.stretched).idleToActive).dropPast := by
  unfold Dev.trackEnd
  rw [Dev.dropScrap_of_none hscrap]
  simp only [hqueue, hcores]
  rfl

theorem trackFrame_completes {f : FrameInfo} {rest : List FrameInfo} (us : BitVec 16) (handed : List (BitVec 2))
    (hqueue : s.dev.trk.queue = f :: rest) (hscrap : ∀ g ∈ s.dev.trk.queue, g.scrap = false)
    (hcores : s.dev.pwr.coreRestart = false) : Completes (.trackFrame us handed) s fun t => t.trk.queue = rest ∧
      t.fld TRK_LAT_MAX = max us.toNat (s.dev.fld TRK_LAT_MAX) ∧
      t.fld TRK_LAT_LATE = (if 2000 < us.toNat then min (s.dev.fld TRK_LAT_LATE + 1) (2 ^ TRK_LAT_LATE.width - 1)
        else s.dev.fld TRK_LAT_LATE) := by
  refine completes_of (f := fun d => d.trackEnd us.toNat (handed.map BitVec.toNat)) rfl ?_
  rw [Dev.trackEnd_eq hqueue hscrap hcores]
  have htracked := s.dev.frameView_frameTracked f rest (handed.map BitVec.toNat)
  generalize s.dev.frameTracked f rest (handed.map BitVec.toNat) = x at htracked ⊢
  obtain ⟨htrk, hmax, hlate⟩ := x.noteLatency_notes us
  have hend : (((x.noteLatency us.toNat).noteContact.noteTelem f.stretched).idleToActive.dropPast).frameView =
      (x.noteLatency us.toNat).frameView := by simp
  have hfld (g : Fld) (hg : g.addr = TRK_LAT) : x.fld g = s.dev.fld g := frameView_fld htracked (by rw [hg]; decide)
  refine ⟨?_, ?_, ?_⟩
  · rw [frameView_queue hend, htrk]
    exact frameView_queue htracked
  · rw [frameView_fld hend (by decide), hmax, hfld _ rfl]
  · rw [frameView_fld hend (by decide), hlate, hfld _ rfl]

end Sys2Proof.Machine
end

section
/-!
SUPPORT. A WATCH scan: its frame is shown, or an overrun is counted (R200 to R207, R232, R234).
-/

namespace Sys2Proof.Machine

variable {d e : Dev} {s : State}

/-! A wake in WATCH (R180, R195, R203). -/

@[simp] theorem Dev.frameView_noteStorm (d : Dev) (i : Nat) : (d.noteStorm i).frameView = d.frameView := by
  unfold Dev.noteStorm
  extract_lets recent n _ x y z
  have hx : x.frameView = d.frameView := d.frameView_setModes _
  have hz : z.frameView = x.frameView := (y.frameView_setFld _ (by decide)).trans (x.frameView_setFld _ (by decide))
  exact Eq.trans (frameView_ite ((z.frameView_ring ..).trans hz) rfl) hx

@[simp] theorem Dev.frameView_noteWake (d : Dev) (sources gesture : Nat) (hib : Bool) :
    (d.noteWake sources gesture hib).frameView = d.frameView := by
  unfold Dev.noteWake
  extract_lets x y
  have hx : x.frameView = d.frameView := d.frameView_setReg _ (by decide)
  have hy : y.frameView = x.frameView := x.frameView_bump (by decide)
  refine (foldl_keeps Dev.frameView _ y fun z i _ => ?_).trans (hy.trans hx)
  exact frameView_ite (z.frameView_noteStorm i) rfl

theorem linked_portsWake (d : Dev) : Dev.Linked portRegs d d.portsWake := by
  refine linked_foldl _ _ fun x p hp => ?_
  split
  · exact linked_refl x
  · exact linked_portTrain x (List.mem_range.1 hp)

@[simp] theorem Dev.frameView_portsWake (d : Dev) : d.portsWake.frameView = d.frameView :=
  frameView_linked (linked_portsWake d) (by decide)

@[simp] theorem Dev.frameView_wakeBurst (d : Dev) : d.wakeBurst.frameView = d.frameView :=
  frameView_linked (linked_wakeBurst d) (by decide)

@[simp] theorem Dev.frameView_wakeSurface (d : Dev) : d.wakeSurface.frameView = d.frameView :=
  frameView_ite rfl ((Dev.frameView_portsWake _).trans ((Dev.frameView_wakeBurst _).trans (d.frameView_setModes _)))

@[simp] theorem Dev.frameView_watchWakes (d : Dev) : d.watchWakes.frameView = d.frameView := by
  unfold Dev.watchWakes
  extract_lets x
  have hx : x.frameView = d.frameView := d.frameView_wakeSurface
  refine Eq.trans (frameView_ite rfl (frameView_ite (x.frameView_holdMode ..) ?_)) hx
  exact (Dev.frameView_issueOps _).trans (x.frameView_askMode ..)

/-! Gestures in WATCH (R200, R207). -/

theorem Dev.frameView_watchRaise (d : Dev) (g : WatchGesture) : (d.watchRaise g).frameView = d.frameView := by
  unfold Dev.watchRaise
  extract_lets wakes w x
  have hx : x.frameView = d.frameView := frameView_ite (d.frameView_sendContacts ..) (d.frameView_raiseGesture w)
  exact Eq.trans (frameView_ite ((Dev.frameView_watchWakes _).trans (x.frameView_noteWake ..)) rfl) hx

theorem Dev.frameView_watchLift (d : Dev) (t : WatchTouch) : (d.watchLift t).2.frameView = d.frameView := by
  unfold Dev.watchLift
  split
  · rfl
  · split <;> rfl

/-- The touches and the gestures of a WATCH scan, after its frame (R200 to R207). -/
def Dev.watchTouches (d : Dev) (seen : List (Nat × Nat × Nat)) (covered : List Nat) : Dev :=
  let old := d.rpt.touches
  let (taps, d) := (old.filter fun t => !seen.any fun p => p.1 == t.id).foldl (fun (acc : List WatchGesture × Dev) t =>
    let (g, d) := acc.2.watchLift t
    (acc.1 ++ g, d)) ([], d)
  let now := seen.map fun p => d.watchSee p.1 p.2.1 p.2.2
  let made := now.map fun t => (t, d.watchLive t (!old.any fun o => o.id == t.id))
  let d := d.setRpt { d.rpt with
    touches := made.map fun p => { p.1 with used := p.1.used || p.2.any fun g => g.code != 8 } }
  let (palms, d) := d.watchPalm covered
  (inRegionOrder (taps ++ made.flatMap (fun p => p.2) ++ palms)).foldl Dev.watchRaise d

theorem Dev.watchScan_eq (hmode : d.mode = modeWatch) (hsensor : d.hasSensor = true) (hstep : d.pwr.step = 8)
    (selfs : List Word) (seen : List (Nat × Nat × Nat)) (covered : List Nat) :
    d.watchScan selfs seen covered = (d.watchTurn.watchFrame selfs).watchTouches seen covered := by
  have hruns : ¬(d.mode ≠ modeWatch ∨ d.hasSensor = false ∨ d.pwr.step ≠ 8) := by simp [hmode, hsensor, hstep]
  unfold Dev.watchScan
  rw [if_neg hruns]
  rfl

theorem Dev.frameView_watchTouches (d : Dev) (seen : List (Nat × Nat × Nat)) (covered : List Nat) :
    (d.watchTouches seen covered).frameView = d.frameView := by
  unfold Dev.watchTouches
  extract_lets old
  split
  next taps x hx =>
  have hx : x.frameView = d.frameView :=
    frameView_of_eq hx (frameView_foldl_snd _ ([], d) fun acc t _ => acc.2.frameView_watchLift t)
  extract_lets now made _ y
  split
  next palms z hz =>
  have hz : z.frameView = y.frameView := frameView_of_eq hz rfl
  exact (foldl_keeps Dev.frameView _ z fun w g _ => w.frameView_watchRaise g).trans (hz.trans hx)

/-! The frame of a WATCH scan (R234, R235). -/

@[simp] theorem Dev.frameView_clearUnlisted (d : Dev) (bank : Nat) (iq : Bool) :
    (d.clearUnlisted bank iq).frameView = d.frameView := rfl

@[simp] theorem Dev.frameView_fillBank (d : Dev) (bank w : Nat) (vs : List Word) :
    (d.fillBank bank w vs).frameView = d.frameView := by
  induction vs generalizing d w with
  | nil => rfl
  | cons v vs ih => exact ih (d.setBank bank w v) (w + 1)

@[simp] theorem Dev.frameView_writeSelf (d : Dev) (bank : Nat) (selfs : List Word) :
    (d.writeSelf bank selfs).2.frameView = d.frameView := by
  refine frameView_foldl_snd (List.range 160) (0, d) fun acc i _ => ?_
  simp only
  split
  · rfl
  · split <;> rfl

theorem Dev.watchFrame_of_full (hfree : d.bankFree d.time.frame = false) (selfs : List Word) :
    (d.watchFrame selfs).fld SCAN_CNT_OVERRUN = min (d.fld SCAN_CNT_OVERRUN + 1) (2 ^ SCAN_CNT_OVERRUN.width - 1) ∧
    (d.watchFrame selfs).fld SCAN_FRAME_LAST = d.fld SCAN_FRAME_LAST := by
  unfold Dev.watchFrame
  extract_lets n free f _ b x y
  have hx : x.frameView = d.frameView := (Dev.frameView_setFld _ _ (by decide)).trans (b.frameView_renewChannels f)
  rw [if_neg (ne_true_of_eq_false hfree), Dev.ring_fld (by decide), Dev.ring_fld (by decide)]
  constructor
  · exact (Dev.fld_bump_same _ _ (by decide)).trans (by rw [frameView_fld hx (by decide)])
  · exact (Dev.fld_bump_apart _ (by decide) (by decide)).trans (frameView_fld hx (by decide))

theorem Dev.watchFrame_of_free (hfree : d.bankFree d.time.frame = true) (selfs : List Word) :
    (d.watchFrame selfs).fld SCAN_FRAME_LAST = d.time.frame % 16777216 ∧
    (d.watchFrame selfs).fld SCAN_CNT_OVERRUN = d.fld SCAN_CNT_OVERRUN := by
  unfold Dev.watchFrame
  extract_lets n free f _ b x
  have hx : x.frameView = d.frameView := (Dev.frameView_setFld _ _ (by decide)).trans (b.frameView_renewChannels f)
  rw [if_pos hfree]
  split
  next o y hy =>
  have hy : y.frameView = x.frameView := by
    refine frameView_of_eq hy ?_
    simp
  extract_lets tail z
  have hz : z.frameView = d.frameView := (y.frameView_fillBank ..).trans (hy.trans hx)
  have hself (v : Dev) {g : Fld} (hg : g.addr ∈ frameRegs) (bank tick slot : Nat) :
      (v.updateSelf bank tick slot n).fld g = v.fld g := frameView_fld (v.frameView_updateSelf ..) hg
  rw [hself _ (by decide), hself _ (by decide)]
  refine ⟨Dev.fld_setFld_same _ _ _ (by decide), ?_⟩
  rw [Dev.fld_setFld_apart _ _ (by decide) (by decide), ← frameView_fld hz (by decide)]
  split
  · rfl
  · exact Dev.fld_bump_apart _ (by decide) (by decide)

theorem watchScan_completes (hmode : s.dev.mode = modeWatch) (hsensor : s.dev.hasSensor = true) (hstep : s.dev.pwr.step = 8)
    (selfs : List Word) (seen : List (BitVec 5 × BitVec 12 × BitVec 12)) (covered : List (BitVec 7)) :
    (s.dev.bankFree s.dev.time.frame = true → Completes (.watchScan selfs seen covered) s fun t =>
      t.fld SCAN_FRAME_LAST = s.dev.time.frame % 16777216 ∧ t.fld SCAN_CNT_OVERRUN = s.dev.fld SCAN_CNT_OVERRUN) ∧
    (s.dev.bankFree s.dev.time.frame = false → Completes (.watchScan selfs seen covered) s fun t =>
      t.fld SCAN_CNT_OVERRUN = min (s.dev.fld SCAN_CNT_OVERRUN + 1) (2 ^ SCAN_CNT_OVERRUN.width - 1) ∧
      t.fld SCAN_FRAME_LAST = s.dev.fld SCAN_FRAME_LAST) := by
  have hscan {P : Dev → Prop} (hp : P ((s.dev.watchTurn.watchFrame selfs).watchTouches
      (seen.map fun p => (p.1.toNat, p.2.1.toNat, p.2.2.toNat)) (covered.map BitVec.toNat))) :
      Completes (.watchScan selfs seen covered) s P := by
    refine completes_of (f := fun d => d.watchScan selfs (seen.map fun p => (p.1.toNat, p.2.1.toNat, p.2.2.toNat))
      (covered.map BitVec.toNat)) rfl ?_
    rw [Dev.watchScan_eq hmode hsensor hstep]
    exact hp
  have htouches {g : Fld} (hg : g.addr ∈ frameRegs) (x : Dev) (seen : List (Nat × Nat × Nat)) (covered : List Nat) :
      (x.watchTouches seen covered).fld g = x.fld g := frameView_fld (x.frameView_watchTouches seen covered) hg
  refine ⟨fun hfree => hscan ?_, fun hfree => hscan ?_⟩
  · rw [htouches (by decide), htouches (by decide)]
    exact Dev.watchFrame_of_free (d := s.dev.watchTurn) hfree selfs
  · rw [htouches (by decide), htouches (by decide)]
    exact Dev.watchFrame_of_full (d := s.dev.watchTurn) hfree selfs

end Sys2Proof.Machine
end

section
/-!
SUPPORT. The end of the self scan: the frame's bank passes to its core, and the frame waits for tracking (R219, R227).
-/

namespace Sys2Proof.Machine

variable {d e : Dev} {s : State}

/-! The samples of a frame (R219, R226 to R228). -/

theorem Dev.frameView_scan (d : Dev) (v : Scan) : Dev.frameView { d with scan := v } = d.frameView := rfl

@[simp] theorem Dev.frameView_foldVtx (d : Dev) (n : Nat) : (d.foldVtx n).frameView = d.frameView := by
  unfold Dev.foldVtx
  simp only
  split
  · rfl
  · split <;> rfl

@[simp] theorem Dev.frameView_listenValue (d : Dev) (iq : Word × Word) : (d.listenValue iq).2.frameView = d.frameView := by
  unfold Dev.listenValue
  extract_lets n r
  clear_value r
  split
  · rfl
  · exact d.frameView_draw 2

@[simp] theorem Dev.frameView_writeListen (d : Dev) (bank : Nat) (listen : List (Word × Word)) :
    (d.writeListen bank listen).frameView = d.frameView := by
  unfold Dev.writeListen
  refine foldl_keeps Dev.frameView _ d fun x i _ => ?_
  generalize listen.getD i (0, 0) = iq
  split
  next w y hy => exact (y.frameView_setBank ..).trans (frameView_of_eq hy (x.frameView_listenValue iq))

@[simp] theorem Dev.frameView_sixteenth (d : Dev) (sum : Int) : (d.sixteenth sum).2.frameView = d.frameView := by
  unfold Dev.sixteenth
  split
  · rfl
  · exact d.frameView_draw 2

@[simp] theorem Dev.frameView_nodeSample (d : Dev) (chips : List Word) (t r : Nat) :
    (d.nodeSample chips t r).2.2.frameView = d.frameView := by
  unfold Dev.nodeSample
  extract_lets blocked ds
  clear_value blocked ds
  split
  · rfl
  · split
    · rfl
    · exact d.frameView_sixteenth _

@[simp] theorem Dev.frameView_writePlane (d : Dev) (bank base : Nat) (chips : List Word) :
    (d.writePlane bank base chips).2.frameView = d.frameView := by
  refine frameView_foldl_snd _ (0, d) fun acc _ _ => ?_
  simp only [Dev.frameView_setBank, Dev.frameView_nodeSample]

@[simp] theorem Dev.frameView_framePlane (d : Dev) (f : FrameInfo) (base : Nat) (chips : List Word) :
    (d.framePlane f base chips).2.frameView = d.frameView := by
  unfold Dev.framePlane
  split
  · exact foldl_keeps Dev.frameView _ d fun _ _ _ => rfl
  · exact d.frameView_writePlane ..

@[simp] theorem Dev.frameView_framePlaneQ (d : Dev) (f : FrameInfo) (chips : List Word) :
    (d.framePlaneQ f chips).2.frameView = d.frameView := by
  unfold Dev.framePlaneQ
  split
  · exact d.frameView_framePlane ..
  · rfl

@[simp] theorem Dev.frameView_writeFrame (d : Dev) (f : FrameInfo) (listen : List (Word × Word))
    (selfs chipsI chipsQ : List Word) :
    (d.writeFrame f listen selfs chipsI chipsQ).2.frameView = d.frameView := by
  simp [Dev.writeFrame]

/-! The end of the self scan (R219, R227, R555). -/

/-- The registers and the tracker. -/
def Dev.regsTrk (d : Dev) : Cells 24 × Track := (d.regs, d.trk)

/-- The strips are sent: no register changes, and nothing of the tracker. -/
theorem Dev.stripSend_keeps (d : Dev) (f : FrameInfo) : (d.stripSend f).regsTrk = d.regsTrk := by
  have hratio (x : Dev) (num : Int) (den : Nat) : (x.ratio num den).2.regsTrk = x.regsTrk := by
    unfold Dev.ratio
    split
    · rfl
    · split <;> rfl
  have hvals (x : Dev) (edge : Nat) : (x.stripVals f edge).2.regsTrk = x.regsTrk := by
    refine foldl_keeps_state (fun p : List Word × Dev => p.2.regsTrk) _ ([], x) fun acc p _ => ?_
    simp only
    split
    · split
      · rfl
      · exact hratio ..
    · rfl
  unfold Dev.stripSend
  split
  · exact foldl_keeps Dev.regsTrk _ d fun x e _ => hvals x e
  · rfl

theorem Dev.owner_setOwner_same (d : Dev) (bank : Nat) {code : Nat} (h : code < 16) :
    (d.setOwner bank code).owner bank = code := by
  have happart : (MEM_OWN_OWNER bank).apart (MEM_OWN_PEND bank) = true := by simp [Fld.apart]
  unfold Dev.owner Dev.setOwner
  rw [Dev.setFlag, Dev.fld_setFld_apart _ _ (by simp) happart, Dev.fld_setFld_same _ _ _ (by simp)]
  exact Nat.mod_eq_of_lt h

theorem Dev.owner_setFld (d : Dev) {g : Fld} (hg : g.addr < 0x0E10) (v bank : Nat) :
    (d.setFld g v).owner bank = d.owner bank :=
  Dev.fld_setReg_ne (f := MEM_OWN_OWNER bank) d _ (by simp only [MEM_OWN]; omega)

/-- Frame f, its samples written, handed to its core and shown as the last, before it is put behind those that wait. -/
def Dev.handOver (d : Dev) (f : FrameInfo) : Dev := (d.setOwner (f.n % 4) (2 + f.core)).setFld SCAN_FRAME_LAST f.n

theorem Dev.handOver_shows (d : Dev) {f : FrameInfo} (hcore : f.core < 4) : (d.handOver f).owner (f.n % 4) = 2 + f.core ∧
    (d.handOver f).fld SCAN_FRAME_LAST = f.n % 16777216 :=
  ⟨(Dev.owner_setFld _ (by decide) ..).trans (d.owner_setOwner_same _ (by omega)), Dev.fld_setFld_same _ _ _ (by decide)⟩

/-- Frame f is put behind the frames that wait for tracking. -/
def Dev.queueFrame (d : Dev) (f : FrameInfo) : Dev := { d with trk := { d.trk with queue := d.trk.queue ++ [f] } }

/-- Frame f with header words 4 to 8, w telling how many of its samples overloaded and the state with its samples. -/
def headed (w : Nat × Dev) (f : FrameInfo) : FrameInfo := { f with header := f.header.take 4 ++ w.2.headerEnd f w.1 }

/-- The state with frame f's samples and its header in its bank. -/
def written (w : Nat × Dev) (f : FrameInfo) : Dev :=
  let x := w.2.fillBank (f.n % 4) 4 (w.2.headerEnd f w.1)
  if w.1 = 0 then x else x.bump SCAN_CNT_OVERLOAD

theorem written_queue (w : Nat × Dev) (f : FrameInfo) : (written w f).trk.queue = w.2.trk.queue := by
  unfold written
  extract_lets x
  have hx : x.trk.queue = w.2.trk.queue := frameView_queue (w.2.frameView_fillBank ..)
  split
  · exact hx
  · exact hx

/-- Frame f's samples in its bank, and how many of them overloaded (R219, R227). -/
def Dev.sampled (d : Dev) (f : FrameInfo) (listen : List (Word × Word)) (selfs chipsI chipsQ : List Word) : Nat × Dev :=
  let x := d.foldVtx (d.listenCyc + d.mutualCyc + 1)
  Dev.writeFrame { x with scan := { x.scan with chans := f.chans } } f listen selfs chipsI chipsQ

theorem Dev.sampled_queue (d : Dev) (f : FrameInfo) (listen : List (Word × Word)) (selfs chipsI chipsQ : List Word) :
    (d.sampled f listen selfs chipsI chipsQ).2.trk.queue = d.trk.queue :=
  frameView_queue ((Dev.frameView_writeFrame ..).trans ((Dev.frameView_scan ..).trans (d.frameView_foldVtx _)))

theorem Dev.endScan_hands (d : Dev) {f : FrameInfo} (hbuffer : f.buffer = true) (listen : List (Word × Word))
    (selfs chipsI chipsQ : List Word) : ∃ w : Nat × Dev, w.2.trk.queue = d.trk.queue ∧
      d.endScan f listen selfs chipsI chipsQ = ((written w f).handOver f).queueFrame (headed w f) := by
  refine ⟨d.sampled f listen selfs chipsI chipsQ, d.sampled_queue .., ?_⟩
  unfold Dev.endScan Dev.sampled
  simp only
  generalize Dev.writeFrame _ f listen selfs chipsI chipsQ = w
  rw [if_pos hbuffer]
  rfl

theorem Dev.limitTrips_nil (d : Dev) : d.limitTrips [] = d := rfl

theorem selfScanEnd_completes {f : FrameInfo} (listen : List (Word × Word)) (selfs chipsI chipsQ : List Word)
    (hcur : s.dev.scan.cur = some f) (hbuffer : f.buffer = true) (hcore : f.core < 4) :
    Completes (.selfScanEnd listen selfs chipsI chipsQ []) s fun t => t.scan.cur = none ∧ t.fld SCAN_STAT_PHASE = 4 ∧
      t.owner (f.n % 4) = 2 + f.core ∧ t.fld SCAN_FRAME_LAST = f.n % 16777216 ∧
      (∃ g : FrameInfo, g.n = f.n ∧ g.core = f.core ∧ t.trk.queue = s.dev.trk.queue ++ [g]) := by
  obtain ⟨w, hqueue, hend⟩ := s.dev.endScan_hands hbuffer listen selfs chipsI chipsQ
  obtain ⟨howner, hlast⟩ := (written w f).handOver_shows hcore
  refine completes_of (f := fun d => d.selfScanEnd listen selfs chipsI chipsQ []) rfl ?_
  have hscan : s.dev.selfScanEnd listen selfs chipsI chipsQ [] =
      ((((written w f).handOver f).queueFrame (headed w f)).stripSend f).enterGap := by
    rw [← hend]
    simp only [Dev.selfScanEnd, hcur, Dev.limitTrips_nil]
  rw [hscan]
  obtain ⟨hregs, htrk⟩ := Prod.mk.inj (Dev.stripSend_keeps (((written w f).handOver f).queueFrame (headed w f)) f)
  generalize (((written w f).handOver f).queueFrame (headed w f)).stripSend f = x at hregs htrk ⊢
  have hfld (g : Fld) : x.fld g = ((written w f).handOver f).fld g := by rw [Dev.fld, Dev.reg, hregs]; rfl
  have hphase : x.enterGap.fld SCAN_FRAME_LAST = x.fld SCAN_FRAME_LAST :=
    Dev.fld_setReg_ne (f := SCAN_FRAME_LAST) _ _ (by decide)
  refine ⟨rfl, Dev.fld_setFld_same _ _ _ (by decide), ?_, ?_, headed w f, rfl, rfl, ?_⟩
  · exact (Dev.owner_setFld _ (by decide) ..).trans ((hfld _).trans howner)
  · exact hphase.trans ((hfld _).trans hlast)
  · rw [← hqueue, ← written_queue w f]
    exact congrArg Track.queue htrk

end Sys2Proof.Machine
end

section
/-!
SUPPORT. The held tap, the baseline reset and the resync, and the diagnostic capture (R250, R310 to R326).
-/

namespace Sys2Proof.Machine

variable {d e : Dev} {s : State}

theorem frameStart_idle (h : s.dev.framesRun = false ∨ s.dev.scan.cur.isSome = true) :
    Completes .frameStart s fun t => t = s.dev :=
  completes_of (f := Dev.frameStart) rfl (if_pos h)

/-! The held tap (R312, R313). -/

theorem tapHoldExpiry_raises {id : Nat} {x y : Int} {k : Nat × Bool} (htap : s.dev.rpt.heldTap = some (id, x, y, k))
    (hon : s.dev.gestOn 9 = true) (halone : s.dev.onSurface = false) : Completes .tapHoldExpiry s fun t =>
      t.rpt.heldTap = none ∧
      s.dev.rang t 38 (s.dev.gestureWords 9 15 false id x y).1 (s.dev.gestureWords 9 15 false id x y).2 ∧
      s.dev.leavesRing t [] := by
  have hraise : s.dev.tapHoldExpiry =
      (s.dev.setRpt { s.dev.rpt with heldTap := none }).raiseGesture (s.dev.gestureWords 9 15 false id x y) := by
    have hon' : (s.dev.setRpt { s.dev.rpt with heldTap := none }).gestOn 9 = true := hon
    have halone' : (s.dev.setRpt { s.dev.rpt with heldTap := none }).onSurface = false := halone
    unfold Dev.tapHoldExpiry
    simp only [htap, hon', halone']
    rfl
  refine completes_of (f := Dev.tapHoldExpiry) rfl ?_
  rw [hraise]
  have hleaves : s.dev.leaves (s.dev.setRpt { s.dev.rpt with heldTap := none }) [] :=
    leaves_of (s.dev.leaves_refl _) rfl rfl rfl rfl
  have hevr : (s.dev.setRpt { s.dev.rpt with heldTap := none }).evr = s.dev.evr := rfl
  exact ⟨Dev.ring_rpt_heldTap .., rang_ring hevr .., leavesRing_ring (leavesRing_of_leaves hleaves) ..⟩

/-! Baseline resets and resyncs (R250, R310). -/

theorem wGet_or_one (v : Word) : wGet (v ||| 1) 0 1 = 1 := by
  simp [wGet]

theorem blreset_asks (value : Word) : Completes (.blreset value) s fun t => t.trk.blReset = true ∧
    t.trk.contacts = s.dev.trk.contacts ∧ s.dev.leaves t [TRK_CTRL] := by
  have hstored : s.dev.leaves (s.dev.storeReg TRK_CTRL (value ||| 1)) [TRK_CTRL] :=
    leaves_storeReg (s.dev.leaves_refl _) (by decide)
  refine completes_of (f := fun d => d.writeTrkCtrl (value ||| 1)) rfl ?_
  unfold Dev.writeTrkCtrl
  simp only [wGet_or_one, if_true]
  exact ⟨rfl, rfl, leaves_of hstored rfl rfl rfl rfl⟩

theorem resync_asks (value : Word) : Completes (.resync value) s fun t => t.flag TRK_RPT_STAT_RSPEND = true ∧
    s.dev.leaves t [TRK_RPT_STAT] := by
  have hasked : s.dev.leaves { s.dev with rpt := { s.dev.rpt with burstAsked := true } } [TRK_RPT_STAT] :=
    leaves_of (s.dev.leaves_refl _) rfl rfl rfl rfl
  refine completes_of (f := fun d => d.writeRptCtrl (value ||| 1)) rfl ?_
  unfold Dev.writeRptCtrl
  rw [if_pos (wGet_or_one value)]
  exact ⟨Dev.flag_setFlag_same _ _ _ (by decide) (by decide), leaves_setFlag hasked (by decide)⟩

/-! A capture (R316 to R324). -/

theorem arm_busy (hbusy : s.dev.flag TRK_CAP_STAT_BUSY = true) (value : Word) : Completes (.arm value) s fun t =>
    t.rpt = s.dev.rpt ∧ t.fld SYS_WRIGN_COUNT = min (s.dev.fld SYS_WRIGN_COUNT + 1) (2 ^ SYS_WRIGN_COUNT.width - 1) ∧
    s.dev.leaves t [SYS_WRIGN] := by
  refine completes_of (f := fun d => d.writeCapCtrl (value ||| 1)) rfl ?_
  simp only [Dev.writeCapCtrl, wGet_or_one, hbusy, and_self, if_true]
  exact ⟨rfl, Dev.fld_ignoreWrite _, Dev.leaves_ignoreWrite _⟩

/-- A capture of the planes selected, its length and NOQ shown, before it is armed. -/
def Dev.capSized (d : Dev) : Dev :=
  (d.setFld TRK_CAP_LEN_LEN (d.capLength (d.fld TRK_CAP_CTRL_PLANES))).setFlag TRK_CAP_STAT_NOQ false

theorem Dev.fld_capSized (d : Dev) {f : Fld} (hlen : f.addr ≠ TRK_CAP_LEN) (hstat : f.addr ≠ TRK_CAP_STAT) :
    d.capSized.fld f = d.fld f := (Dev.fld_setReg_ne _ _ hstat).trans (Dev.fld_setReg_ne _ _ hlen)

/-- A capture is armed, the report state as r tells. -/
def Dev.capArmed (d : Dev) (r : Reports) : Dev :=
  (((d.setFlag TRK_CAP_STAT_BUSY true).setFld TRK_CAP_STAT_RESULT 0).setFld TRK_CAP_STAT_DONE 0).setRpt r

theorem Dev.capArmed_shows (d : Dev) (r : Reports) : (d.capArmed r).flag TRK_CAP_STAT_BUSY = true ∧
    (d.capArmed r).fld TRK_CAP_STAT_RESULT = 0 ∧ (d.capArmed r).fld TRK_CAP_STAT_DONE = 0 ∧ (d.capArmed r).rpt = r ∧
    d.leaves (d.capArmed r) [TRK_CAP_STAT] := by
  refine ⟨?_, ?_, ?_, rfl, ?_⟩
  · exact (Dev.flag_setFld_apart _ _ (by decide) (by decide)).trans ((Dev.flag_setFld_apart _ _ (by decide) (by decide)).trans
      (Dev.flag_setFlag_same _ _ _ (by decide) (by decide)))
  · exact (Dev.fld_setFld_apart _ _ (by decide) (by decide)).trans (Dev.fld_setFld_same _ _ _ (by decide))
  · exact Dev.fld_setFld_same _ _ _ (by decide)
  · exact leaves_of (leaves_setFld (leaves_setFld (leaves_setFlag (d.leaves_refl _) (by decide)) (by decide)) (by decide))
      rfl rfl rfl rfl

theorem Dev.capArm_armed (hplanes : (d.fld TRK_CAP_CTRL_PLANES).testBit 4 = false) (howner : d.owner 15 = 8)
    (hfits : d.fld TRK_CAP_DST_WORD + d.capLength (d.fld TRK_CAP_CTRL_PLANES) ≤ 16384) :
    d.capArm = d.capSized.capArmed { d.rpt with
      skip := 0, copying := none, copied := false, stopping := false, planes := d.fld TRK_CAP_CTRL_PLANES } := by
  have hroom : ¬ 16384 < d.capSized.fld TRK_CAP_DST_WORD + d.capLength (d.fld TRK_CAP_CTRL_PLANES) := by
    rw [Dev.fld_capSized _ (by decide) (by decide)]
    omega
  have hhost : ¬ d.capSized.owner 15 ≠ 8 := by
    rw [Dev.owner, Dev.fld_capSized _ (by decide) (by decide), ← Dev.owner, howner]
    decide
  unfold Dev.capArm
  simp only [hplanes, Bool.false_and, Bool.false_eq_true, if_false]
  rw [← Dev.capSized, if_neg hroom, if_neg hhost]
  rfl

theorem Dev.capStop_idle (h : d.flag TRK_CAP_STAT_BUSY = false) : d.capStop = d := if_pos h

theorem arm_starts {value : Word} (hidle : s.dev.flag TRK_CAP_STAT_BUSY = false) {e : Dev}
    (he : e = s.dev.storeReg TRK_CAP_CTRL (value ||| 1)) (hplanes : (e.fld TRK_CAP_CTRL_PLANES).testBit 4 = false)
    (howner : s.dev.owner 15 = 8)
    (hfits : s.dev.fld TRK_CAP_DST_WORD + e.capLength (e.fld TRK_CAP_CTRL_PLANES) ≤ 16384) :
    Completes (.arm value) s fun t =>
      t.flag TRK_CAP_STAT_BUSY = true ∧ t.fld TRK_CAP_STAT_RESULT = 0 ∧ t.fld TRK_CAP_STAT_DONE = 0 ∧
      t.rpt.copying = none ∧ t.rpt.skip = 0 ∧ t.rpt.planes = e.fld TRK_CAP_CTRL_PLANES ∧
      s.dev.leaves t [TRK_CAP_CTRL, TRK_CAP_STAT, TRK_CAP_LEN] := by
  have hfld {g : Fld} (hg : g.addr ≠ TRK_CAP_CTRL) : e.fld g = s.dev.fld g := by
    rw [he]
    exact Dev.fld_setReg_ne _ _ hg
  have hidle' : e.flag TRK_CAP_STAT_BUSY = false := by rw [Dev.flag, hfld (by decide), ← Dev.flag, hidle]
  have hstored : s.dev.leaves e [TRK_CAP_CTRL, TRK_CAP_STAT, TRK_CAP_LEN] := by
    rw [he]
    exact leaves_storeReg (s.dev.leaves_refl _) (by decide)
  have harm : s.dev.writeCapCtrl (value ||| 1) = e.capArm := by
    have hkeeps : (if wGet (value ||| 1) 1 1 = 1 then e.capStop else e) = e := by rw [Dev.capStop_idle hidle', ite_self]
    simp only [Dev.writeCapCtrl, wGet_or_one, hidle, Bool.false_eq_true, and_false, if_false, if_true]
    rw [← he, hkeeps]
  refine completes_of (f := fun d => d.writeCapCtrl (value ||| 1)) rfl ?_
  rw [harm, Dev.capArm_armed hplanes ((hfld (by decide)).trans howner) (by rw [hfld (by decide)]; exact hfits)]
  obtain ⟨hbusy, hresult, hdone, hrpt, hleaves⟩ := e.capSized.capArmed_shows { e.rpt with
    skip := 0, copying := none, copied := false, stopping := false, planes := e.fld TRK_CAP_CTRL_PLANES }
  have hsized : s.dev.leaves e.capSized [TRK_CAP_CTRL, TRK_CAP_STAT, TRK_CAP_LEN] :=
    leaves_setFlag (leaves_setFld hstored (by decide)) (by decide)
  exact ⟨hbusy, hresult, hdone, by rw [hrpt], by rw [hrpt], by rw [hrpt],
    leaves_trans hsized (leaves_mono hleaves (by decide))⟩

theorem wGet_or_two (v : Word) : wGet (v ||| 2) 0 1 = wGet v 0 1 ∧ wGet (v ||| 2) 1 1 = 1 := by
  refine ⟨?_, ?_⟩
  · simpa [wGet] using Nat.or_mod_two_pow (a := v.toNat) (b := 2) (n := 1)
  · simp [wGet, Nat.shiftRight_or_distrib]

theorem Dev.writeCapCtrl_stop (d : Dev) {value : Word} (hbit : wGet value 0 1 = 0) :
    d.writeCapCtrl (value ||| 2) = (d.storeReg TRK_CAP_CTRL (value ||| 2)).capStop := by
  obtain ⟨harm, hstop⟩ := wGet_or_two value
  simp only [Dev.writeCapCtrl, harm, hbit, hstop, Nat.zero_ne_one, false_and, if_false, if_true]

theorem Dev.busy_storeCapCtrl (hbusy : d.flag TRK_CAP_STAT_BUSY = true) (v : Word) :
    (d.storeReg TRK_CAP_CTRL v).flag TRK_CAP_STAT_BUSY = true := by
  rw [Dev.flag, Dev.storeReg, Dev.fld_setReg_ne _ _ (by decide), ← Dev.flag, hbusy]

theorem Dev.capStop_ends (hbusy : d.flag TRK_CAP_STAT_BUSY = true) (hcopying : d.rpt.copying = none) :
    d.capStop.flag TRK_CAP_STAT_BUSY = false ∧ d.capStop.fld TRK_CAP_STAT_RESULT = 0 ∧ d.capStop.rpt.stopping = false ∧
    d.leaves d.capStop [TRK_CAP_STAT] := by
  have hend : d.capStop = ((d.setFlag TRK_CAP_STAT_BUSY false).setFld TRK_CAP_STAT_RESULT 0).setRpt
      { d.rpt with copying := none, stopping := false } := by
    unfold Dev.capStop Dev.capEnd
    rw [if_neg (by simp [hbusy]), if_neg (by simp [hcopying])]
    rfl
  rw [hend]
  refine ⟨?_, ?_, rfl, ?_⟩
  · exact (Dev.flag_setFld_apart _ _ (by decide) (by decide)).trans (Dev.flag_setFlag_same _ _ _ (by decide) (by decide))
  · exact Dev.fld_setFld_same _ _ _ (by decide)
  · exact leaves_of (leaves_setFld (leaves_setFlag (d.leaves_refl _) (by decide)) (by decide)) rfl rfl rfl rfl

theorem Dev.capStop_marks (hbusy : d.flag TRK_CAP_STAT_BUSY = true) {n : Nat} (hcopying : d.rpt.copying = some n) :
    d.capStop = d.setRpt { d.rpt with stopping := true } := by
  simp [Dev.capStop, hbusy, hcopying]

theorem stop_ends (hbusy : s.dev.flag TRK_CAP_STAT_BUSY = true) {value : Word} (hbit : wGet value 0 1 = 0)
    (hcopying : s.dev.rpt.copying = none) : Completes (.stop value) s fun t => t.flag TRK_CAP_STAT_BUSY = false ∧
      t.fld TRK_CAP_STAT_RESULT = 0 ∧ t.rpt.stopping = false ∧ s.dev.leaves t [TRK_CAP_CTRL, TRK_CAP_STAT] := by
  have hstored : s.dev.leaves (s.dev.storeReg TRK_CAP_CTRL (value ||| 2)) [TRK_CAP_CTRL, TRK_CAP_STAT] :=
    leaves_storeReg (s.dev.leaves_refl _) (by decide)
  obtain ⟨hidle, hresult, hgoing, hleaves⟩ := Dev.capStop_ends (Dev.busy_storeCapCtrl hbusy (value ||| 2)) hcopying
  refine completes_of (f := fun d => d.writeCapCtrl (value ||| 2)) rfl ?_
  rw [Dev.writeCapCtrl_stop _ hbit]
  exact ⟨hidle, hresult, hgoing, leaves_trans hstored (leaves_mono hleaves (by decide))⟩

theorem stop_marks (hbusy : s.dev.flag TRK_CAP_STAT_BUSY = true) {value : Word} (hbit : wGet value 0 1 = 0) {n : Nat}
    (hcopying : s.dev.rpt.copying = some n) : Completes (.stop value) s fun t => t.flag TRK_CAP_STAT_BUSY = true ∧
      t.rpt.stopping = true ∧ t.rpt.copying = some n ∧ s.dev.leaves t [TRK_CAP_CTRL] := by
  have hstored : s.dev.leaves (s.dev.storeReg TRK_CAP_CTRL (value ||| 2)) [TRK_CAP_CTRL] :=
    leaves_storeReg (s.dev.leaves_refl _) (by decide)
  refine completes_of (f := fun d => d.writeCapCtrl (value ||| 2)) rfl ?_
  rw [Dev.writeCapCtrl_stop _ hbit, Dev.capStop_marks (Dev.busy_storeCapCtrl hbusy _) hcopying]
  exact ⟨Dev.busy_storeCapCtrl hbusy _, rfl, hcopying, leaves_of hstored rfl rfl rfl rfl⟩

/-- What a copy's bank going back leaves: the registers below the owners' and the router. -/
theorem Dev.copyReleased_keeps (d : Dev) (n : Nat) : (d.copyReleased n).evr = d.evr ∧ (d.copyReleased n).rpt = d.rpt ∧
    ∀ a, a < MEM_OWN 0 → (d.copyReleased n).reg a = d.reg a := by
  unfold Dev.copyReleased
  split
  · exact ⟨rfl, rfl, fun _ _ => rfl⟩
  · exact ⟨rfl, rfl, fun a ha => d.reg_setOwner _ _ ha⟩

/-- Frame n's copy is shown and counted. -/
def Dev.copyShown (d : Dev) (n : Nat) : Dev := ((d.copyReleased n).setFld TRK_CAP_FRAME_FRAME n).bump TRK_CAP_STAT_DONE

theorem Dev.copyShown_shows (d : Dev) (n : Nat) : (d.copyShown n).evr = d.evr ∧ (d.copyShown n).rpt = d.rpt ∧
    (d.copyShown n).fld TRK_CAP_FRAME_FRAME = n % 16777216 ∧
    (d.copyShown n).fld TRK_CAP_STAT_DONE = min (d.fld TRK_CAP_STAT_DONE + 1) (2 ^ TRK_CAP_STAT_DONE.width - 1) ∧
    (d.copyShown n).fld TRK_CAP_CTRL_COUNT = d.fld TRK_CAP_CTRL_COUNT := by
  obtain ⟨hevr, hrpt, hregs⟩ := d.copyReleased_keeps n
  unfold Dev.copyShown
  generalize d.copyReleased n = x at hevr hrpt hregs
  have hfld (g : Fld) (hg : g.addr < MEM_OWN 0) : x.fld g = d.fld g := by rw [Dev.fld, hregs _ hg, ← Dev.fld]
  refine ⟨hevr, hrpt, ?_, ?_, ?_⟩
  · exact (Dev.fld_bump_apart _ (by decide) (by decide)).trans (Dev.fld_setFld_same _ _ _ (by decide))
  · rw [Dev.fld_bump_same _ _ (by decide), Dev.fld_setFld_apart _ _ (by decide) (by decide), hfld _ (by decide)]
  · rw [Dev.fld_bump_apart _ (by decide) (by decide), Dev.fld_setFld_apart _ _ (by decide) (by decide), hfld _ (by decide)]

theorem Dev.capCopyEnd_counted {n : Nat} (hcopying : d.rpt.copying = some n) (howner : d.owner 15 = 8)
    (hcopied : d.rpt.copied = true) (hchan : (d.chan 2).active = none) (hfault : d.chanFaulted 2 = false)
    (hstopping : d.rpt.stopping = false) (hcount : d.fld TRK_CAP_CTRL_COUNT = 0) (ok : Bool) (remote : List Word) :
    d.capCopyEnd ok remote = ((d.copyShown n).setRpt { d.rpt with copying := none }).ring 39
      ((d.copyShown n).reg TRK_CAP_STAT) (word n) := by
  have hrest : d.restOfCopy ok remote = d := if_pos (Or.inl (by simp [hchan]))
  have hnofault : d.copyFault = 0 := by simp [Dev.copyFault, hfault]
  obtain ⟨-, hrpt, -, -, hcount'⟩ := d.copyShown_shows n
  unfold Dev.capCopyEnd
  simp only [hcopying, hrest, hnofault]
  rw [if_neg (by simp [howner]), if_neg (by decide), if_neg (by simp [hcopied]), ← Dev.copyShown, hrpt, hcount', hcount,
    hstopping]
  rfl

theorem captureCopyEnd_completes {n : Nat} (ok : Bool) (remote : List Word) (hcopying : s.dev.rpt.copying = some n)
    (howner : s.dev.owner 15 = 8) (hcopied : s.dev.rpt.copied = true) (hchan : (s.dev.chan 2).active = none)
    (hfault : s.dev.chanFaulted 2 = false) (hstopping : s.dev.rpt.stopping = false)
    (hcount : s.dev.fld TRK_CAP_CTRL_COUNT = 0) : Completes (.captureCopyEnd ok remote) s fun t =>
      t.rpt.copying = none ∧ t.fld TRK_CAP_FRAME_FRAME = n % 16777216 ∧
      t.fld TRK_CAP_STAT_DONE = min (s.dev.fld TRK_CAP_STAT_DONE + 1) (2 ^ TRK_CAP_STAT_DONE.width - 1) ∧
      s.dev.rang t 39 (t.reg TRK_CAP_STAT) (word n) := by
  refine completes_of (f := fun d => d.capCopyEnd ok remote) rfl ?_
  rw [Dev.capCopyEnd_counted hcopying howner hcopied hchan hfault hstopping hcount]
  obtain ⟨hevr, hrpt, hframe, hdone, -⟩ := s.dev.copyShown_shows n
  refine ⟨Dev.ring_rpt_copying .., ?_, ?_, ?_⟩
  · exact (Dev.ring_fld (by decide) ..).trans hframe
  · exact (Dev.ring_fld (by decide) ..).trans hdone
  · rw [Dev.ring_reg (by decide)]
    have hset (r : Reports) : ((s.dev.copyShown n).setRpt r).evr = s.dev.evr := hevr
    exact rang_ring (hset _) ..

end Sys2Proof.Machine
end

section
/-!
SUPPORT. The frame number stands while a frame begins: what is dropped, told of, committed and changed at its boundary does
not touch it (R225).
-/

namespace Sys2Proof.Machine

variable {d e : Dev} {s : State}

/-- The surface frame number. -/
def Dev.surfFrame (d : Dev) : Nat := d.time.frame

theorem surfFrame_time (h : e.time = d.time) : e.surfFrame = d.surfFrame := (congrArg (·.frame) h :)

theorem surfFrame_view (h : e.frameView = d.frameView) : e.surfFrame = d.surfFrame := frameView_frame h

theorem surfFrame_linked {as : List Nat} (h : Dev.Linked as d e) : e.surfFrame = d.surfFrame :=
  h.keeps Dev.surfFrame fun _ => rfl

theorem surfFrame_foldl {α : Type} {step : Dev → α → Dev} (xs : List α) (d : Dev)
    (h : ∀ e, ∀ x ∈ xs, (step e x).surfFrame = e.surfFrame) : (xs.foldl step d).surfFrame = d.surfFrame :=
  foldl_keeps Dev.surfFrame xs d h

theorem surfFrame_ite {c : Prop} [Decidable c] {a b : Dev} {n : Nat} (ha : a.surfFrame = n) (hb : b.surfFrame = n) :
    (if c then a else b).surfFrame = n := by
  split
  · exact ha
  · exact hb

/-- A step that answers a pair, named by its parts. -/
theorem surfFrame_of_eq {β : Type} {p : β × Dev} {b : β} (h : p = (b, e)) (hp : p.2.surfFrame = d.surfFrame) :
    e.surfFrame = d.surfFrame := by
  rw [h] at hp
  exact hp

theorem Dev.surfFrame_setReg (d : Dev) (a : Nat) (w : Word) : (d.setReg a w).surfFrame = d.surfFrame :=
  surfFrame_time (d.setReg_time ..)
theorem Dev.surfFrame_setFld (d : Dev) (f : Fld) (v : Nat) : (d.setFld f v).surfFrame = d.surfFrame :=
  surfFrame_time (d.setFld_time ..)
theorem Dev.surfFrame_setFlag (d : Dev) (f : Fld) (b : Bool) : (d.setFlag f b).surfFrame = d.surfFrame :=
  surfFrame_time (d.setFlag_time ..)
theorem Dev.surfFrame_bump (d : Dev) (f : Fld) : (d.bump f).surfFrame = d.surfFrame := surfFrame_time (d.bump_time ..)
theorem Dev.surfFrame_setRpt (d : Dev) (r : Reports) : (d.setRpt r).surfFrame = d.surfFrame :=
  surfFrame_time (d.setRpt_time ..)
theorem Dev.surfFrame_setTrk (d : Dev) (t : Track) : (d.setTrk t).surfFrame = d.surfFrame := surfFrame_time (d.setTrk_time ..)
theorem Dev.surfFrame_setSurf (d : Dev) (v : Surface) : (d.setSurf v).surfFrame = d.surfFrame :=
  surfFrame_time (d.setSurf_time ..)
theorem Dev.surfFrame_setModes (d : Dev) (m : Modes) : (d.setModes m).surfFrame = d.surfFrame :=
  surfFrame_time (d.setModes_time ..)
theorem Dev.surfFrame_setCom (d : Dev) (c : Commit) : (d.setCom c).surfFrame = d.surfFrame := surfFrame_time (d.setCom_time ..)
theorem Dev.surfFrame_setCal (d : Dev) (c : Calib) : (d.setCal c).surfFrame = d.surfFrame := surfFrame_time (d.setCal_time ..)
theorem Dev.surfFrame_setRail (d : Dev) (r : Rails) : (d.setRail r).surfFrame = d.surfFrame :=
  surfFrame_time (d.setRail_time ..)
theorem Dev.surfFrame_setIr (d : Dev) (i : Infrared) : (d.setIr i).surfFrame = d.surfFrame := surfFrame_time (d.setIr_time ..)
theorem Dev.surfFrame_ring (d : Dev) (src : Nat) (w1 w2 : Word) : (d.ring src w1 w2).surfFrame = d.surfFrame :=
  d.ring_time_frame ..
theorem Dev.surfFrame_issueOps (d : Dev) : d.issueOps.surfFrame = d.surfFrame := surfFrame_linked (linked_issueOps d)
theorem Dev.surfFrame_send (d : Dev) (kind dest : Nat) (ws : List Word) : (d.send kind dest ws).surfFrame = d.surfFrame :=
  surfFrame_linked (as := []) (linked_send ..)
theorem Dev.surfFrame_draw (d : Dev) (n : Nat) : (d.draw n).2.surfFrame = d.surfFrame :=
  surfFrame_linked (as := []) (linked_draw ..)

theorem Dev.surfFrame_scan (d : Dev) (v : Scan) : Dev.surfFrame { d with scan := v } = d.surfFrame := rfl

/-! What is dropped or told of as a frame begins (R317, R608). -/

theorem Dev.surfFrame_setOwner (d : Dev) (bank code : Nat) : (d.setOwner bank code).surfFrame = d.surfFrame :=
  surfFrame_view (d.frameView_setOwner bank code)

theorem Dev.surfFrame_dropScrap (d : Dev) : d.dropScrap.surfFrame = d.surfFrame := by
  unfold Dev.dropScrap
  refine surfFrame_ite rfl ((Dev.surfFrame_setTrk ..).trans ?_)
  exact surfFrame_foldl _ d fun x f _ => x.surfFrame_setOwner _ _

theorem Dev.surfFrame_flushChan (d : Dev) (c : Nat) : (d.flushChan c).surfFrame = d.surfFrame :=
  (surfFrame_view (Dev.frameView_setChan ..)).trans (surfFrame_ite rfl (d.surfFrame_setFld ..))

theorem Dev.surfFrame_capEnd (d : Dev) (result frame : Nat) (raise : Bool) :
    (d.capEnd result frame raise).surfFrame = d.surfFrame := by
  unfold Dev.capEnd
  extract_lets x _ y
  have hy : y.surfFrame = d.surfFrame := (x.surfFrame_setRpt _).trans ((Dev.surfFrame_setFld ..).trans
    (d.surfFrame_setFlag ..))
  exact surfFrame_ite ((y.surfFrame_ring ..).trans hy) hy

theorem Dev.surfFrame_copyReleased (d : Dev) (n : Nat) : (d.copyReleased n).surfFrame = d.surfFrame :=
  surfFrame_ite rfl (d.surfFrame_setOwner ..)

theorem Dev.surfFrame_capAbandon (d : Dev) (frame : Nat) : (d.capAbandon frame).surfFrame = d.surfFrame := by
  unfold Dev.capAbandon
  split
  · rfl
  · extract_lets x y
    have hx : x.surfFrame = d.surfFrame := (Dev.surfFrame_copyReleased ..).trans (d.surfFrame_flushChan 2)
    have hy : y.surfFrame = d.surfFrame := (Dev.surfFrame_setFld ..).trans ((x.surfFrame_bump _).trans hx)
    exact surfFrame_ite rfl (surfFrame_ite ((y.surfFrame_capEnd ..).trans hy) ((y.surfFrame_setRpt _).trans hy))

theorem Dev.surfFrame_reportForwardLoss (d : Dev) : d.reportForwardLoss.surfFrame = d.surfFrame := by
  unfold Dev.reportForwardLoss
  extract_lets n _ x
  have hx : x.surfFrame = d.surfFrame := d.surfFrame_setSurf _
  exact surfFrame_ite hx ((Dev.surfFrame_issueOps _).trans ((x.surfFrame_send ..).trans hx))

/-! The modes that wait (R171). -/

theorem Dev.surfFrame_askMode (d : Dev) (mode reason : Nat) : (d.askMode mode reason).surfFrame = d.surfFrame :=
  surfFrame_view (d.frameView_askMode mode reason)

theorem Dev.surfFrame_holdMode (d : Dev) (mode reason : Nat) : (d.holdMode mode reason).surfFrame = d.surfFrame :=
  surfFrame_view (d.frameView_holdMode mode reason)

theorem Dev.surfFrame_requestMode (d : Dev) (mode reason : Nat) : (d.requestMode mode reason).surfFrame = d.surfFrame :=
  surfFrame_ite (d.surfFrame_ring ..) (surfFrame_ite (d.surfFrame_holdMode ..) (surfFrame_ite rfl (d.surfFrame_askMode ..)))

theorem Dev.surfFrame_releaseHeldMode (d : Dev) : d.releaseHeldMode.surfFrame = d.surfFrame := by
  unfold Dev.releaseHeldMode
  split
  · rfl
  · extract_lets _ x
    have hx : x.surfFrame = d.surfFrame := d.surfFrame_setModes _
    refine Eq.trans (surfFrame_ite (surfFrame_ite ?_ ?_) ?_) hx
    · exact x.surfFrame_holdMode ..
    · exact x.surfFrame_askMode ..
    · exact x.surfFrame_requestMode ..

theorem Dev.surfFrame_releaseHeld (d : Dev) : d.releaseHeld.surfFrame = d.surfFrame :=
  surfFrame_ite rfl ((Dev.surfFrame_issueOps _).trans d.surfFrame_releaseHeldMode)

/-! Joins that wait (R530, R545). -/

theorem Dev.surfFrame_sendDelta (d : Dev) (xy k : Nat) (cs : List (List (Nat × Word))) :
    (d.sendDelta xy k cs).surfFrame = d.surfFrame := by
  induction cs generalizing d k with
  | nil => rfl
  | cons c cs ih => exact (ih (d.send _ _ _) _).trans (d.surfFrame_send ..)

theorem Dev.surfFrame_setTile (d : Dev) (t : Tile) : (d.setTile t).surfFrame = d.surfFrame := d.surfFrame_setSurf _

theorem Dev.surfFrame_welcome (d : Dev) (xy : Nat) : (d.welcome xy).surfFrame = d.surfFrame := by
  unfold Dev.welcome
  simp only
  rw [Dev.surfFrame_ring, Dev.surfFrame_issueOps, Dev.surfFrame_setTile, Dev.surfFrame_draw, Dev.surfFrame_sendDelta,
    Dev.surfFrame_send]

theorem Dev.surfFrame_tileGone (d : Dev) (xy st reason kind : Nat) :
    (d.tileGone xy st reason kind).surfFrame = d.surfFrame := by
  have hcancel (x : Dev) : (x.cancelTile xy 4).surfFrame = x.surfFrame := (sameTiles_cancelTile x xy 4).2
  exact (Dev.surfFrame_ring ..).trans ((hcancel _).trans ((surfFrame_linked (as := []) (linked_clearFlows ..)).trans
    (d.surfFrame_setTile _)))

theorem Dev.surfFrame_resetTile (d : Dev) (xy : Nat) (linkBoot : Bool) :
    (d.resetTile xy linkBoot).surfFrame = d.surfFrame := by
  have hend (x : Dev) : (x.remoteEnd xy).surfFrame = x.surfFrame := (sameTiles_remoteEnd x xy).2
  unfold Dev.resetTile
  extract_lets x
  have hx : x.surfFrame = d.surfFrame := surfFrame_ite (d.surfFrame_tileGone ..) (d.surfFrame_setTile _)
  exact (Dev.surfFrame_issueOps _).trans ((Dev.surfFrame_send ..).trans ((surfFrame_linked (as := [])
    (linked_clearFlows ..)).trans ((hend x).trans hx)))

theorem Dev.surfFrame_answerJoin (d : Dev) (xy : Nat) (words : List Word) :
    (d.answerJoin xy words).surfFrame = d.surfFrame := by
  unfold Dev.answerJoin
  extract_lets sid _ x crc reason y
  have hx : x.surfFrame = d.surfFrame := d.surfFrame_setTile _
  have hy : y.surfFrame = x.surfFrame := surfFrame_ite rfl (x.surfFrame_setTile _)
  refine Eq.trans (surfFrame_ite ?_ (surfFrame_ite (x.surfFrame_resetTile ..) (surfFrame_ite ?_ (x.surfFrame_welcome xy)))) hx
  · exact (Dev.surfFrame_ring ..).trans ((Dev.surfFrame_issueOps _).trans ((y.surfFrame_send ..).trans hy))
  · exact (Dev.surfFrame_resetTile ..).trans (x.surfFrame_bump _)

theorem Dev.surfFrame_answerJoins (d : Dev) : d.answerJoins.surfFrame = d.surfFrame :=
  surfFrame_ite rfl (surfFrame_foldl _ d fun x p _ => x.surfFrame_answerJoin p.1 p.2)

/-! The rails and converter bands that a commit moves (R714 to R728, R844). -/

theorem Dev.surfFrame_setVtxTgt (d : Dev) (mv : Nat) : (d.setVtxTgt mv).surfFrame = d.surfFrame := d.surfFrame_setRail _

theorem Dev.surfFrame_setVledTgt (d : Dev) (mv : Nat) : (d.setVledTgt mv).surfFrame = d.surfFrame :=
  surfFrame_ite (d.surfFrame_setRail _) (d.surfFrame_setRail _)

theorem Dev.surfFrame_supersedeVtx (d : Dev) : d.supersedeVtx.surfFrame = d.surfFrame := by
  unfold Dev.supersedeVtx
  split
  · rfl
  · exact (Dev.surfFrame_bump ..).trans (d.surfFrame_setRail _)

theorem Dev.surfFrame_supersedeVled (d : Dev) : d.supersedeVled.surfFrame = d.surfFrame := by
  unfold Dev.supersedeVled
  split
  · rfl
  · exact (Dev.surfFrame_bump ..).trans (d.surfFrame_setRail _)

/-- A new VTX target, and a new VLED target, in place of the ones that stood. -/
theorem Dev.surfFrame_newVtx (d : Dev) (mv : Nat) : (d.supersedeVtx.setVtxTgt mv).surfFrame = d.surfFrame :=
  (Dev.surfFrame_setVtxTgt ..).trans d.surfFrame_supersedeVtx

theorem Dev.surfFrame_newVled (d : Dev) (mv : Nat) : (d.supersedeVled.setVledTgt mv).surfFrame = d.surfFrame :=
  (Dev.surfFrame_setVledTgt ..).trans d.surfFrame_supersedeVled

theorem Dev.surfFrame_retargetVled (d : Dev) : d.retargetVled.surfFrame = d.surfFrame :=
  surfFrame_ite (d.surfFrame_newVled _) rfl

theorem Dev.surfFrame_followVtx (d : Dev) : d.followVtx.surfFrame = d.surfFrame :=
  surfFrame_ite d.surfFrame_retargetVled (surfFrame_ite (d.surfFrame_newVled _) rfl)

theorem Dev.surfFrame_railClamp (d : Dev) (vtx : Bool) (asked applied : Nat) :
    (d.railClamp vtx asked applied).surfFrame = d.surfFrame :=
  surfFrame_ite rfl ((Dev.surfFrame_ring ..).trans (d.surfFrame_bump _))

theorem Dev.surfFrame_clampVtx (d : Dev) (v : Nat) : (d.clampVtx v).2.surfFrame = d.surfFrame :=
  (Dev.surfFrame_railClamp ..).trans (d.surfFrame_railClamp ..)

theorem Dev.surfFrame_railDone (d : Dev) (vtx : Bool) (tag : Nat) : (d.railDone vtx tag).surfFrame = d.surfFrame := by
  unfold Dev.railDone
  split
  · exact (Dev.surfFrame_ring ..).trans ((Dev.surfFrame_setFld ..).trans (d.surfFrame_setRail _))
  · exact (Dev.surfFrame_ring ..).trans ((Dev.surfFrame_setFld ..).trans (d.surfFrame_setRail _))

theorem Dev.surfFrame_markVtx (d : Dev) : d.markVtx.surfFrame = d.surfFrame := d.surfFrame_scan _

theorem Dev.surfFrame_noteVtx (d : Dev) : d.noteVtx.surfFrame = d.surfFrame := by
  unfold Dev.noteVtx
  split
  · exact d.surfFrame_markVtx
  · exact (Dev.surfFrame_markVtx _).trans (surfFrame_view (d.frameView_foldVtx _))

theorem Dev.surfFrame_vtxSet (d : Dev) (v tag : Nat) (console : Bool) : (d.vtxSet v tag console).surfFrame = d.surfFrame := by
  unfold Dev.vtxSet
  split
  next v' x hx =>
  have hx : x.surfFrame = d.surfFrame := surfFrame_of_eq hx (d.surfFrame_clampVtx v)
  extract_lets mv _ y settled z
  have hy : y.surfFrame = x.surfFrame := x.surfFrame_setRail _
  have hz : z.surfFrame = y.surfFrame := (Dev.surfFrame_noteVtx _).trans (y.surfFrame_newVtx mv)
  refine Eq.trans (surfFrame_ite (surfFrame_ite (y.surfFrame_railDone ..) ?_) rfl) (hy.trans hx)
  exact (Dev.surfFrame_followVtx _).trans ((z.surfFrame_setRail _).trans hz)

theorem Dev.surfFrame_hkaCommit (d : Dev) (c : Nat) : (d.hkaCommit c).surfFrame = d.surfFrame := by
  have hband : (d.bandReset c).surfFrame = d.surfFrame :=
    (surfFrame_time (Dev.setHka_time ..)).trans (d.surfFrame_setFld ..)
  exact (surfFrame_ite rfl (Dev.surfFrame_setFlag ..)).trans hband

/-! A commit applied (R508 to R511). -/

theorem Dev.surfFrame_applyWord (d : Dev) (p : Nat) (v : Word) : (d.applyWord p v).surfFrame = d.surfFrame := rfl

theorem Dev.surfFrame_wordEffect (d : Dev) (p : Nat) : (d.wordEffect p).surfFrame = d.surfFrame := by
  unfold Dev.wordEffect
  extract_lets sect f
  exact surfFrame_ite (surfFrame_ite (d.surfFrame_vtxSet ..) d.surfFrame_retargetVled) (surfFrame_ite (d.surfFrame_hkaCommit _)
    (surfFrame_ite (d.surfFrame_hkaCommit _) (surfFrame_ite (d.surfFrame_setReg ..) (surfFrame_ite (d.surfFrame_setFld ..)
      rfl))))

theorem Dev.surfFrame_applyPairs (d : Dev) (ps : List (Nat × Word)) : (d.applyPairs ps).2.surfFrame = d.surfFrame :=
  (surfFrame_foldl _ _ fun x p _ => x.surfFrame_wordEffect p).trans
    (surfFrame_foldl ps d fun x p _ => x.surfFrame_applyWord p.1 p.2)

theorem Dev.surfFrame_setPhase (d : Dev) (p : Nat) : (d.setPhase p).surfFrame = d.surfFrame := d.surfFrame_setFld ..

theorem Dev.surfFrame_noteCommit (d : Dev) (result : Nat) : (d.noteCommit result).surfFrame = d.surfFrame :=
  (Dev.surfFrame_setCom ..).trans (d.surfFrame_setFld ..)

theorem Dev.surfFrame_commitDone (d : Dev) : d.commitDone.surfFrame = d.surfFrame :=
  (Dev.surfFrame_answerJoins _).trans ((Dev.surfFrame_releaseHeld _).trans ((Dev.surfFrame_setFlag ..).trans
    ((Dev.surfFrame_setPhase ..).trans (d.surfFrame_setCom _))))

theorem Dev.surfFrame_ownPartDone (d : Dev) : d.ownPartDone.surfFrame = d.surfFrame := by
  unfold Dev.ownPartDone
  extract_lets _ x
  have hx : x.surfFrame = d.surfFrame := d.surfFrame_setCom _
  exact Eq.trans (surfFrame_ite x.surfFrame_commitDone (x.surfFrame_setPhase 5)) hx

theorem Dev.surfFrame_noteLate (d : Dev) : d.noteLate.surfFrame = d.surfFrame := by
  have hshown (x : Dev) (b : Bool) (n : Nat) :
      ((x.setFlag CFG_STAT_MIXED b).setFld CFG_TILES_PENDING n).surfFrame = x.surfFrame :=
    (Dev.surfFrame_setFld ..).trans (x.surfFrame_setFlag ..)
  unfold Dev.noteLate
  simp only
  split
  · exact (hshown ..).trans (d.surfFrame_setCom _)
  · exact (Dev.surfFrame_setReg ..).trans ((hshown ..).trans (d.surfFrame_setCom _))

theorem Dev.surfFrame_sendLate (d : Dev) : d.sendLate.surfFrame = d.surfFrame :=
  (Dev.surfFrame_issueOps _).trans (surfFrame_foldl _ d fun x _ _ => x.surfFrame_send ..)

theorem Dev.surfFrame_lateBoundary (d : Dev) : d.lateBoundary.surfFrame = d.surfFrame := by
  unfold Dev.lateBoundary
  extract_lets x
  have hx : x.surfFrame = d.surfFrame := d.surfFrame_noteLate
  exact Eq.trans (surfFrame_ite x.surfFrame_commitDone x.surfFrame_sendLate) hx

theorem Dev.surfFrame_readyDeadline (d : Dev) (n : Nat) : (d.readyDeadline n).surfFrame = d.surfFrame := by
  have hfails (x : Dev) (result : Nat) : (x.commitFails result).surfFrame = x.surfFrame :=
    (Dev.surfFrame_commitDone _).trans ((Dev.surfFrame_bump ..).trans (x.surfFrame_noteCommit result))
  have haborts (x : Dev) : x.sendAborts.surfFrame = x.surfFrame :=
    (Dev.surfFrame_issueOps _).trans (surfFrame_foldl _ x fun y _ _ => y.surfFrame_send ..)
  refine surfFrame_ite ((Dev.surfFrame_setFld ..).trans ((hfails ..).trans ((haborts _).trans (d.surfFrame_setReg ..)))) rfl

theorem Dev.surfFrame_takeCommit (d : Dev) (n : Nat) : (d.takeCommit n).surfFrame = d.surfFrame := by
  unfold Dev.takeCommit
  split
  next old x hx =>
  have hx : x.surfFrame = d.surfFrame := surfFrame_of_eq hx (d.surfFrame_applyPairs _)
  extract_lets delta _ y z
  have hy : y.surfFrame = x.surfFrame := x.surfFrame_setCom _
  have hz : z.surfFrame = y.surfFrame := (Dev.surfFrame_setFld ..).trans (y.surfFrame_setFld ..)
  exact (Dev.surfFrame_noteCommit ..).trans ((z.surfFrame_bump _).trans (hz.trans (hy.trans hx)))

theorem Dev.surfFrame_answerLate (d : Dev) : d.answerLate.surfFrame = d.surfFrame :=
  surfFrame_ite ((Dev.surfFrame_setCom ..).trans ((Dev.surfFrame_issueOps _).trans (d.surfFrame_send ..))) rfl

/-! A calibration run and a mode that a cold commit begins (R173, R511, R844). -/

theorem Dev.surfFrame_tenths (d : Dev) (t : Int) : (d.tenths t).2.surfFrame = d.surfFrame := by
  unfold Dev.tenths
  simp only
  split
  · rfl
  · exact d.surfFrame_draw 2

theorem Dev.surfFrame_fullRun (d : Dev) (trigger : Nat) : (d.fullRun trigger).surfFrame = d.surfFrame := by
  have hbegin (x : Dev) (full : Bool) : (x.runBegin full).surfFrame = x.surfFrame := by
    unfold Dev.runBegin
    split
    next t0 y hy =>
    have hy : y.surfFrame = x.surfFrame := surfFrame_of_eq hy (x.surfFrame_tenths _)
    split
    next t1 z hz =>
    have hz : z.surfFrame = y.surfFrame := surfFrame_of_eq hz (y.surfFrame_tenths _)
    extract_lets _ w
    have hw : w.surfFrame = z.surfFrame := z.surfFrame_setCal _
    have hitems : (w.setItems w.runItems).surfFrame = w.surfFrame := (Dev.surfFrame_setFld ..).trans (w.surfFrame_setCal _)
    exact (Dev.surfFrame_setFld ..).trans (hitems.trans (hw.trans (hz.trans hy)))
  exact (hbegin _ true).trans (d.surfFrame_setFld ..)

theorem Dev.surfFrame_recordMode (d : Dev) (new prev reason apply : Nat) :
    (d.recordMode new prev reason apply).surfFrame = d.surfFrame := by
  unfold Dev.recordMode
  extract_lets w1 _ x y
  have hx : x.surfFrame = d.surfFrame := d.surfFrame_setModes _
  have hlog (w1 w2 : Word) : (x.logEvent 12 w1 w2).surfFrame = x.surfFrame :=
    surfFrame_linked (as := []) (linked_near (near_logEvent (.rfl x)))
  have hy : y.surfFrame = x.surfFrame := surfFrame_ite (hlog ..) rfl
  exact (y.surfFrame_ring ..).trans (hy.trans hx)

theorem Dev.surfFrame_setMode (d : Dev) (new reason apply : Nat) : (d.setMode new reason apply).surfFrame = d.surfFrame :=
  (Dev.surfFrame_recordMode ..).trans ((Dev.surfFrame_setFld ..).trans ((Dev.surfFrame_setFld ..).trans
    (d.surfFrame_setFld ..)))

theorem Dev.surfFrame_coldApply (d : Dev) (n : Nat) : (d.coldApply n).surfFrame = d.surfFrame := by
  unfold Dev.coldApply
  extract_lets _ x
  have hx : x.surfFrame = d.surfFrame := (Dev.surfFrame_fullRun ..).trans (d.surfFrame_setCom _)
  exact Eq.trans (surfFrame_ite (x.surfFrame_setMode ..) rfl) hx

theorem Dev.surfFrame_applyClass (d : Dev) (n : Nat) : (d.applyClass n).surfFrame = d.surfFrame := by
  unfold Dev.applyClass
  extract_lets cls _ x
  have hx : x.surfFrame = d.surfFrame := (Dev.surfFrame_setTrk ..).trans (d.surfFrame_setPhase 4)
  exact surfFrame_ite rfl (Eq.trans (surfFrame_ite (x.surfFrame_coldApply n) rfl) hx)

theorem Dev.surfFrame_applyCommit (d : Dev) (n : Nat) : (d.applyCommit n).2.surfFrame = d.surfFrame := by
  unfold Dev.applyCommit
  extract_lets resets _ x y z w
  have hx : x.surfFrame = d.surfFrame := (Dev.surfFrame_setCom ..).trans (d.surfFrame_takeCommit n)
  have hy : y.surfFrame = x.surfFrame := x.surfFrame_answerLate
  have hz : z.surfFrame = y.surfFrame := surfFrame_ite ((Dev.surfFrame_sendLate _).trans y.surfFrame_noteLate) rfl
  have hw : w.surfFrame = z.surfFrame := z.surfFrame_applyClass n
  refine Eq.trans ((Dev.surfFrame_releaseHeld _).trans (surfFrame_ite w.surfFrame_ownPartDone rfl)) ?_
  exact hw.trans (hz.trans (hy.trans hx))

theorem Dev.surfFrame_commitBoundary (d : Dev) (n : Nat) : (d.commitBoundary n).2.2.surfFrame = d.surfFrame := by
  unfold Dev.commitBoundary
  extract_lets x y z
  have hx : x.surfFrame = d.surfFrame := d.surfFrame_readyDeadline n
  have hy : y.surfFrame = x.surfFrame := surfFrame_ite x.surfFrame_ownPartDone rfl
  have hz : z.surfFrame = y.surfFrame := surfFrame_ite y.surfFrame_lateBoundary rfl
  split
  · exact (z.surfFrame_applyCommit n).trans (hz.trans (hy.trans hx))
  · exact hz.trans (hy.trans hx)

theorem surfFrame_near (h : d.Near e) : e.surfFrame = d.surfFrame := surfFrame_linked (as := []) (linked_near h)

/-! The front end and the slots (R184, R233, R258). -/

theorem Dev.surfFrame_dropFrames (d : Dev) : d.dropFrames.surfFrame = d.surfFrame := by
  unfold Dev.dropFrames
  extract_lets frames x y z
  have hx : x.surfFrame = d.surfFrame := surfFrame_foldl _ d fun w f _ => w.surfFrame_setOwner ..
  have hy : y.surfFrame = x.surfFrame := surfFrame_ite (surfFrame_view x.frameView_dropBaselines) rfl
  have hz : z.surfFrame = y.surfFrame := surfFrame_foldl frames y fun w f _ => surfFrame_view (w.frameView_renewChannels f)
  exact (surfFrame_time rfl : _ = z.surfFrame).trans (hz.trans (hy.trans hx))

theorem Dev.surfFrame_scanStop (d : Dev) (reason : Nat) : (d.scanStop reason).surfFrame = d.surfFrame :=
  surfFrame_ite ((Dev.surfFrame_ring ..).trans ((Dev.surfFrame_setFlag ..).trans ((Dev.surfFrame_setFld ..).trans
    ((Dev.surfFrame_setFlag ..).trans d.surfFrame_dropFrames)))) rfl

theorem Dev.surfFrame_resumeScan (d : Dev) : d.resumeScan.surfFrame = d.surfFrame :=
  surfFrame_ite (surfFrame_ite rfl ((Dev.surfFrame_ring ..).trans ((Dev.surfFrame_setFld ..).trans
    ((Dev.surfFrame_setFlag ..).trans (d.surfFrame_setFlag ..))))) rfl

theorem Dev.surfFrame_hopTo (d : Dev) (q reason : Nat) : (d.hopTo q reason).surfFrame = d.surfFrame :=
  (Dev.surfFrame_ring ..).trans ((Dev.surfFrame_bump ..).trans ((Dev.surfFrame_setReg ..).trans (d.surfFrame_setTrk _)))

theorem Dev.surfFrame_slotBoundary (d : Dev) (changed : Bool) : (d.slotBoundary changed).surfFrame = d.surfFrame := by
  have hforced : d.forcedHop.surfFrame = d.surfFrame := by
    unfold Dev.forcedHop
    split
    · rfl
    · exact d.surfFrame_hopTo ..
  have hrejudge : d.rejudgeHop.surfFrame = d.surfFrame := by
    unfold Dev.rejudgeHop
    split
    · exact d.surfFrame_setTrk _
    · exact surfFrame_ite (d.surfFrame_hopTo ..) (d.surfFrame_setTrk _)
  unfold Dev.slotBoundary
  refine surfFrame_ite (d.surfFrame_setTrk _) (surfFrame_ite ((Dev.surfFrame_setTrk ..).trans hforced) ?_)
  split
  · rfl
  · exact surfFrame_ite hrejudge (d.surfFrame_hopTo ..)

theorem Dev.surfFrame_blBoundary (d : Dev) : d.blBoundary.2.surfFrame = d.surfFrame := by
  unfold Dev.blBoundary
  split
  · exact d.surfFrame_setTrk _
  · rfl

/-! What a mode leaves and enters (R75, R164, R184, R203). -/

theorem Dev.surfFrame_cancelNow (d : Dev) (reason : Nat) : (d.cancelNow reason).surfFrame = d.surfFrame := by
  have hgroup (x : Dev) (n : Nat) (cs : List Report) :
      (x.inGroup n fun d => cs.foldl Dev.contactRecord d).surfFrame = x.surfFrame :=
    surfFrame_view (x.frameView_inGroup n fun y => foldl_keeps Dev.frameView cs y fun z r _ => z.frameView_contactRecord r)
  unfold Dev.cancelNow
  extract_lets x cs _ y _ z
  have hx : x.surfFrame = d.surfFrame := surfFrame_view (d.frameView_cancelLive reason)
  have hy : y.surfFrame = d.surfFrame := (x.surfFrame_setTrk _).trans hx
  have hz : z.surfFrame = d.surfFrame := (y.surfFrame_setSurf _).trans hy
  refine surfFrame_ite (surfFrame_ite hz ?_) ?_
  · exact (surfFrame_view (z.frameView_sendContacts ..)).trans hz
  · exact (hgroup ..).trans ((surfFrame_view (y.frameView_hidOwe _)).trans hy)

theorem Dev.surfFrame_lampsOff (d : Dev) : d.lampsOff.surfFrame = d.surfFrame := rfl

theorem Dev.surfFrame_lampsWatch (d : Dev) : d.lampsWatch.surfFrame = d.surfFrame := surfFrame_ite rfl rfl

theorem Dev.surfFrame_lampsFromWatch (d : Dev) : d.lampsFromWatch.surfFrame = d.surfFrame := by
  have hset (x : Dev) (n : Nat) (v : Lamp) : (x.setLamp n v).surfFrame = x.surfFrame := rfl
  unfold Dev.lampsFromWatch
  extract_lets x
  have hx : x.surfFrame = d.surfFrame := surfFrame_foldl _ d fun y p _ => surfFrame_ite (hset ..) rfl
  exact (surfFrame_time rfl : _ = x.surfFrame).trans hx

theorem Dev.surfFrame_railsResume (d : Dev) : d.railsResume.surfFrame = d.surfFrame := by
  unfold Dev.railsResume
  extract_lets x goal
  have hx : x.surfFrame = d.surfFrame := surfFrame_ite rfl (d.surfFrame_newVtx _)
  exact surfFrame_ite (Eq.trans (surfFrame_ite rfl (surfFrame_ite rfl (x.surfFrame_newVled _))) hx) rfl

theorem Dev.surfFrame_railsWatch (d : Dev) : d.railsWatch.surfFrame = d.surfFrame := by
  unfold Dev.railsWatch
  extract_lets x
  have hx : x.surfFrame = d.surfFrame := surfFrame_ite rfl (d.surfFrame_newVtx _)
  exact surfFrame_ite (Eq.trans (surfFrame_ite rfl (x.surfFrame_newVled _)) hx) rfl

theorem Dev.surfFrame_setPort (d : Dev) (p : Nat) (q : Port) : (d.setPort p q).surfFrame = d.surfFrame :=
  surfFrame_linked (as := []) (linked_setPort d p q)

theorem Dev.surfFrame_emptyPort (d : Dev) (p : Nat) : (d.emptyPort p).surfFrame = d.surfFrame := by
  have hunhold (x : Dev) (i : Nat) : (x.unhold i).surfFrame = x.surfFrame := surfFrame_time (Dev.setLink_time ..)
  unfold Dev.emptyPort
  extract_lets q frames x y z w
  have hx : x.surfFrame = d.surfFrame := d.surfFrame_setPort ..
  have hy : y.surfFrame = x.surfFrame := (hunhold ..).trans (hunhold ..)
  have hz : z.surfFrame = y.surfFrame := surfFrame_ite (y.surfFrame_setFld ..) rfl
  have hw : w.surfFrame = z.surfFrame := surfFrame_foldl _ z fun v f _ => surfFrame_linked (linked_routePacket v f.1 f.2)
  have hflight (v : Dev) : (v.noteInflight p).surfFrame = v.surfFrame :=
    (Dev.surfFrame_setFld ..).trans ((Dev.surfFrame_setFld ..).trans (v.surfFrame_setFld ..))
  exact (hflight w).trans (hw.trans (hz.trans (hy.trans hx)))

theorem Dev.surfFrame_portsWatch (d : Dev) : d.portsWatch.surfFrame = d.surfFrame := by
  have hstate (x : Dev) (p st : Nat) : (x.setPortState p st).surfFrame = x.surfFrame :=
    (Dev.surfFrame_setFld ..).trans (x.surfFrame_setFld ..)
  unfold Dev.portsWatch
  generalize List.range 4 = ports
  refine surfFrame_foldl ports d fun x p _ => ?_
  split
  · rfl
  · simp only
    rw [Dev.surfFrame_setPort, hstate, Dev.surfFrame_emptyPort, Dev.surfFrame_setPort]

theorem Dev.surfFrame_portsWake (d : Dev) : d.portsWake.surfFrame = d.surfFrame := surfFrame_linked (linked_portsWake d)

theorem Dev.surfFrame_enterWatch (d : Dev) : d.enterWatch.surfFrame = d.surfFrame :=
  (Dev.surfFrame_portsWatch _).trans ((Dev.surfFrame_railsWatch _).trans ((Dev.surfFrame_lampsWatch _).trans
    ((Dev.surfFrame_dropFrames _).trans (d.surfFrame_cancelNow 6))))

theorem Dev.surfFrame_leaveWatch (d : Dev) : d.leaveWatch.surfFrame = d.surfFrame :=
  (Dev.surfFrame_portsWake _).trans ((Dev.surfFrame_lampsFromWatch _).trans (d.surfFrame_setRpt _))

theorem Dev.surfFrame_rxStop (d : Dev) : d.rxStop.surfFrame = d.surfFrame := by
  have hkey (x : Dev) (kind : Nat) (k : HeldKey) (code : Nat) : (x.irKey kind k code).surfFrame = x.surfFrame :=
    (Dev.surfFrame_ring ..).trans ((Dev.surfFrame_setFld ..).trans (x.surfFrame_setFld ..))
  have hrelease : d.irRelease.surfFrame = d.surfFrame := by
    unfold Dev.irRelease
    split
    · rfl
    · exact (hkey ..).trans (d.surfFrame_setIr _)
  exact (Dev.surfFrame_setIr ..).trans hrelease

theorem Dev.surfFrame_txStop (d : Dev) : d.txStop.surfFrame = d.surfFrame := by
  have hprint (x : Dev) (l : OutLine) : (x.print l).surfFrame = x.surfFrame := surfFrame_near (near_print (.rfl x))
  have hloop (x : Dev) (ws : List Word) : (x.irLoopReport ws).surfFrame = x.surfFrame :=
    surfFrame_ite ((hprint ..).trans ((hprint ..).trans ((hprint ..).trans (x.surfFrame_setIr _)))) rfl
  unfold Dev.txStop Dev.txFinish
  split
  · rfl
  · extract_lets _ x y
    have hx : x.surfFrame = d.surfFrame := d.surfFrame_setIr _
    have hy : y.surfFrame = x.surfFrame := (Dev.surfFrame_ring ..).trans ((Dev.surfFrame_bump ..).trans
      (x.surfFrame_setFlag ..))
    exact surfFrame_ite (hy.trans hx) ((hloop y []).trans (hy.trans hx))

theorem Dev.surfFrame_beginHibernate (d : Dev) : d.beginHibernate.surfFrame = d.surfFrame :=
  (Dev.surfFrame_txStop _).trans ((Dev.surfFrame_rxStop _).trans ((Dev.surfFrame_setModes ..).trans
    ((Dev.surfFrame_scanStop ..).trans (d.surfFrame_cancelNow 6))))

theorem Dev.surfFrame_metersOff (d : Dev) : d.metersOff.surfFrame = d.surfFrame := by
  unfold Dev.metersOff
  extract_lets _ x y
  have hx : x.surfFrame = d.surfFrame := surfFrame_time rfl
  have hy : y.surfFrame = x.surfFrame := (Dev.surfFrame_setFlag ..).trans ((Dev.surfFrame_setFlag ..).trans
    ((Dev.surfFrame_setReg ..).trans (x.surfFrame_setReg ..)))
  exact (y.surfFrame_scan _).trans (hy.trans hx)

theorem Dev.surfFrame_judgeGate (d : Dev) : d.judgeGate.surfFrame = d.surfFrame := surfFrame_linked (linked_judgeGate d)

theorem Dev.surfFrame_enterService (d : Dev) (entry : Nat) : (d.enterService entry).surfFrame = d.surfFrame := by
  have hopen (x : Dev) : (x.openSet entry).surfFrame = x.surfFrame := (Dev.surfFrame_ring ..).trans (x.surfFrame_setFld ..)
  unfold Dev.enterService
  simp only
  rw [Dev.surfFrame_judgeGate, hopen, Dev.surfFrame_setFlag, Dev.surfFrame_txStop, Dev.surfFrame_lampsOff,
    Dev.surfFrame_setFlag, Dev.surfFrame_scanStop, Dev.surfFrame_metersOff]

theorem Dev.surfFrame_leaveService (d : Dev) : d.leaveService.surfFrame = d.surfFrame := by
  unfold Dev.leaveService
  extract_lets x y
  have hy : y.surfFrame = d.surfFrame := Eq.trans (surfFrame_ite (x.surfFrame_scanStop 2) rfl) d.surfFrame_metersOff
  rw [Dev.surfFrame_railsResume, Dev.surfFrame_fullRun, Dev.surfFrame_judgeGate, Dev.surfFrame_ring, Dev.surfFrame_setFlag,
    Dev.surfFrame_setFld, Dev.surfFrame_setFlag, Dev.surfFrame_lampsOff, hy]

theorem Dev.surfFrame_startBurst (d : Dev) : d.startBurst.surfFrame = d.surfFrame :=
  (Dev.surfFrame_setFlag ..).trans (d.surfFrame_setRpt { d.rpt with burstStart := true })

/-! A mode changes at a frame's boundary (R164, R171). -/

theorem Dev.surfFrame_changeMode (d : Dev) (new reason apply : Nat) :
    (d.changeMode new reason apply).surfFrame = d.surfFrame := by
  unfold Dev.changeMode
  extract_lets old a b c _ f g k l
  have ha : a.surfFrame = d.surfFrame := surfFrame_ite d.surfFrame_leaveService rfl
  have hb : b.surfFrame = a.surfFrame := surfFrame_ite a.surfFrame_leaveWatch rfl
  have hc : c.surfFrame = b.surfFrame := surfFrame_ite b.surfFrame_railsResume rfl
  have hf : f.surfFrame = c.surfFrame := c.surfFrame_setModes _
  have hg : g.surfFrame = f.surfFrame := surfFrame_ite f.surfFrame_startBurst rfl
  have hk : k.surfFrame = g.surfFrame := by
    unfold k
    split
    · exact g.surfFrame_enterWatch
    · exact g.surfFrame_beginHibernate
    · exact (Dev.surfFrame_enterService ..).trans (g.surfFrame_cancelNow 6)
    · rfl
  have hl : l.surfFrame = k.surfFrame :=
    Eq.trans (surfFrame_ite (Dev.surfFrame_fullRun ..) rfl) (k.surfFrame_setMode new reason apply)
  refine surfFrame_ite rfl (Eq.trans (surfFrame_ite l.surfFrame_resumeScan rfl) ?_)
  exact hl.trans (hk.trans (hg.trans (hf.trans (hc.trans (hb.trans ha)))))

theorem Dev.surfFrame_modeBoundary (d : Dev) (n : Nat) : (d.modeBoundary n).surfFrame = d.surfFrame := by
  have hpending (m : Modes) : ((d.setModes m).markPending none).surfFrame = d.surfFrame :=
    (surfFrame_view (Dev.frameView_markPending ..)).trans (d.surfFrame_setModes m)
  have hack (x : Dev) (r : ModeReq) : (x.ackMode r).surfFrame = x.surfFrame :=
    surfFrame_ite ((Dev.surfFrame_issueOps _).trans (x.surfFrame_send ..)) rfl
  unfold Dev.modeBoundary
  simp only
  split
  · exact surfFrame_ite (hpending _) rfl
  · split
    · rw [Dev.surfFrame_recordMode, hack, Dev.surfFrame_changeMode, hpending]
    · rw [hack, Dev.surfFrame_changeMode, hpending]

/-! Beacons and the scan (R225, R227, R545). -/

theorem Dev.surfFrame_sendBeacons (d : Dev) (n sec frac : Nat) (watch : Bool) :
    (d.sendBeacons n sec frac watch).surfFrame = d.surfFrame := by
  have hbeacon (x : Dev) {q : Nat} (hq : q < 4) (ws : List Word) : (x.putBeacon q ws).surfFrame = x.surfFrame := by
    unfold Dev.putBeacon
    split
    next g y hy =>
    have hy : y.surfFrame = x.surfFrame := surfFrame_of_eq hy (surfFrame_linked (linked_injectFault x hq true))
    extract_lets _ z
    have hz : z.surfFrame = y.surfFrame := y.surfFrame_setPort ..
    exact Eq.trans (surfFrame_ite rfl (surfFrame_linked (linked_putFrame z hq ..))) (hz.trans hy)
  unfold Dev.sendBeacons
  extract_lets ws _ x
  have hx : x.surfFrame = d.surfFrame := rfl
  refine (surfFrame_foldl (List.range 4) x fun y q hq => ?_).trans hx
  refine surfFrame_ite rfl ?_
  exact (hbeacon _ (List.mem_range.1 hq) _).trans (y.surfFrame_draw 8121)

theorem Dev.surfFrame_beaconFrame (d : Dev) (n : Nat) : (d.beaconFrame n).surfFrame = d.surfFrame :=
  surfFrame_ite ((Dev.surfFrame_sendBeacons ..).trans (d.surfFrame_setSurf _)) rfl

theorem Dev.surfFrame_takeStretch (d : Dev) (n : Nat) : (d.takeStretch n).2.surfFrame = d.surfFrame := by
  unfold Dev.takeStretch
  split
  · rfl
  · split
    · rfl
    · extract_lets _ x y
      have hx : x.surfFrame = d.surfFrame := (Dev.surfFrame_setFlag ..).trans (d.surfFrame_setCal _)
      have hy : y.surfFrame = x.surfFrame := surfFrame_ite ((Dev.surfFrame_issueOps _).trans (x.surfFrame_send ..)) rfl
      exact Eq.trans (surfFrame_ite (y.surfFrame_bump _) rfl) (hy.trans hx)

theorem Dev.surfFrame_gapFrame (d : Dev) (n : Nat) (stretched : Bool) (resets : List (Nat × Bool)) :
    (d.gapFrame n stretched resets).surfFrame = d.surfFrame := (Dev.surfFrame_setFld ..).trans (d.surfFrame_setTrk _)

theorem Dev.surfFrame_takeBank (d : Dev) (n : Nat) : (d.takeBank n).2.surfFrame = d.surfFrame := by
  unfold Dev.takeBank
  split
  · exact (surfFrame_view (Dev.frameView_fillBank ..)).trans ((surfFrame_view (Dev.frameView_clearUnlisted ..)).trans
      (d.surfFrame_setOwner ..))
  · exact (Dev.surfFrame_ring ..).trans (d.surfFrame_bump _)

theorem Dev.surfFrame_beginScan (d : Dev) (n : Nat) (stretched : Bool) (resets : List (Nat × Bool)) :
    (d.beginScan n stretched resets).surfFrame = d.surfFrame := by
  unfold Dev.beginScan
  extract_lets refresh slot
  split
  next buffer x hx =>
  have hx : x.surfFrame = d.surfFrame := surfFrame_of_eq hx (d.surfFrame_takeBank n)
  split
  next core y hy =>
  have hy : y.surfFrame = x.surfFrame := surfFrame_of_eq hy (x.surfFrame_draw 4)
  extract_lets t f _ z
  have hz : z.surfFrame = y.surfFrame := y.surfFrame_scan _
  rw [Dev.surfFrame_setFld, Dev.surfFrame_setFld, Dev.surfFrame_markVtx, hz, hy, hx]

theorem Dev.surfFrame_startScan (d : Dev) (n : Nat) (gap : Bool) (resets : List (Nat × Bool)) :
    (d.startScan n gap resets).surfFrame = d.surfFrame := by
  have hgather (x : Dev) : (x.gatherFrame n gap).surfFrame = x.surfFrame := surfFrame_ite (x.surfFrame_setSurf _) rfl
  unfold Dev.startScan
  extract_lets runs x
  split
  · split
    next stretched z hz =>
    have hz : z.surfFrame = d.surfFrame := surfFrame_of_eq hz (d.surfFrame_takeStretch n)
    refine (hgather _).trans (Eq.trans (surfFrame_ite ?_ ?_) hz)
    · exact z.surfFrame_gapFrame ..
    · exact z.surfFrame_beginScan ..
  · have hx : x.surfFrame = d.surfFrame := surfFrame_view (d.frameView_trackBoundary ..)
    exact Eq.trans (surfFrame_ite ((Dev.surfFrame_setFld ..).trans (x.surfFrame_scan _)) rfl) hx

/-! FRAME_START (R225). -/

theorem Dev.surfFrame_noteContact (d : Dev) : d.noteContact.surfFrame = d.surfFrame := surfFrame_view d.frameView_noteContact


theorem frameStart_takesNext (hruns : s.dev.framesRun = true) (hgap : s.dev.scan.cur = none) :
    Completes .frameStart s fun t => t.time.frame = s.dev.nextFrame := by
  have hidle : ¬(s.dev.framesRun = false ∨ s.dev.scan.cur.isSome = true) := by simp [hruns, hgap]
  refine completes_of (f := Dev.frameStart) rfl ?_
  unfold Dev.frameStart
  rw [if_neg hidle]
  extract_lets n joining a b _ _ c f slots
  have hc : c.surfFrame = n := rfl
  have hf : f.surfFrame = c.surfFrame :=
    (Dev.surfFrame_noteContact _).trans ((Dev.surfFrame_reportForwardLoss _).trans ((Dev.surfFrame_capAbandon ..).trans
      c.surfFrame_dropScrap))
  split
  next r1 gap x hx =>
  have hx : x.surfFrame = f.surfFrame := by
    rw [← show (r1, gap, x).2.2 = x from rfl, ← hx, Dev.surfFrame_commitBoundary]
  split
  next r2 y hy =>
  have hy : y.surfFrame = x.surfFrame := surfFrame_of_eq hy x.surfFrame_blBoundary
  extract_lets z _ w v u
  have hz : z.surfFrame = y.surfFrame := (Dev.surfFrame_slotBoundary ..).trans (y.surfFrame_setFld ..)
  have hw : w.surfFrame = z.surfFrame := z.surfFrame_setTrk _
  have hv : v.surfFrame = w.surfFrame := (Dev.surfFrame_answerJoins _).trans (w.surfFrame_modeBoundary n)
  have hu : u.surfFrame = v.surfFrame := surfFrame_ite v.surfFrame_resumeScan rfl
  have hend : ((u.beaconFrame n).startScan n gap (r1 ++ r2)).surfFrame = u.surfFrame :=
    (Dev.surfFrame_startScan ..).trans (u.surfFrame_beaconFrame n)
  exact hend.trans (hu.trans (hv.trans (hw.trans (hz.trans (hy.trans (hx.trans (hf.trans hc)))))))

end Sys2Proof.Machine
end

section
/-!
SUPPORT. The front end and tracking, as the statements read together (chapters 7 to 9).
-/

namespace Sys2Proof.Machine

/-- Settles O29: each command's effect, from what its handler's steps leave of the frame number, of the frames that wait for
tracking, and of the registers that show them. -/
theorem framesAreScannedAndTracked : Obligations.FramesAreScannedAndTracked := by
  intro s
  refine ⟨frameStart_takesNext, frameStart_idle, ?_, ?_, ?_, ?_, ?_, ?_, ?_, ?_, ?_⟩
  · intro f listen selfs chipsI chipsQ hcur hbuffer hcore
    exact selfScanEnd_completes listen selfs chipsI chipsQ hcur hbuffer hcore
  · intro hmode hsensor hstep selfs seen covered
    exact watchScan_completes hmode hsensor hstep selfs seen covered
  · intro f rest us handed hqueue hscrap hcores
    exact trackFrame_completes us handed hqueue hscrap hcores
  · intro id x y k htap hon halone
    exact tapHoldExpiry_raises htap hon halone
  · exact blreset_asks
  · exact resync_asks
  · intro value
    exact ⟨fun hbusy => arm_busy hbusy value, fun hidle _ he hplanes howner hfits =>
      arm_starts hidle he hplanes howner hfits⟩
  · intro value hbusy hbit
    exact ⟨stop_ends hbusy hbit, fun n hcopying => stop_marks hbusy hbit hcopying⟩
  · intro n ok remote hcopying _ howner hcopied hchan hfault hstopping hcount
    exact captureCopyEnd_completes ok remote hcopying howner hcopied hchan hfault hstopping hcount

end Sys2Proof.Machine
end

section
/-!
SUPPORT. Doorbells (R25, R332 to R339, R344, R358, R360, R565): the machine on which the router judges one, what an offer to
one host consumer leaves of the other, and where the record goes.
-/

namespace Sys2Proof.Machine

variable {d e x : Dev} {s : State}

theorem Dev.fld_of_reg {f : Fld} (h : e.reg f.addr = d.reg f.addr) : e.fld f = d.fld f := by
  simp only [Dev.fld, h]

/-! The machine on which a doorbell is judged: the time has been read, and the fault log may have its entry (R25, R874). -/

/-- The router of e and all that it reads to judge a doorbell stand as in d. -/
structure Dev.SameRouter (d e : Dev) : Prop where
  reg : ∀ a, a ≠ CAL_LOGQ → e.reg a = d.reg a
  evr : e.evr = d.evr
  cfg : e.cfg = d.cfg
  mem : e.mem = d.mem
  surf : e.surf = d.surf
  outbox : e.outbox = d.outbox
  epoch : e.time.epoch = d.time.epoch

theorem Dev.SameRouter.rfl (d : Dev) : d.SameRouter d :=
  ⟨fun _ _ => Eq.refl _, Eq.refl _, Eq.refl _, Eq.refl _, Eq.refl _, Eq.refl _, Eq.refl _⟩

theorem Dev.SameRouter.trans {f : Dev} (h : d.SameRouter e) (g : e.SameRouter f) : d.SameRouter f :=
  ⟨fun a ha => (g.reg a ha).trans (h.reg a ha), g.evr.trans h.evr, g.cfg.trans h.cfg, g.mem.trans h.mem,
    g.surf.trans h.surf, g.outbox.trans h.outbox, g.epoch.trans h.epoch⟩

theorem Dev.SameRouter.fld (h : d.SameRouter e) {f : Fld} (hf : f.addr ≠ CAL_LOGQ) : e.fld f = d.fld f :=
  Dev.fld_of_reg (h.reg _ hf)

theorem Dev.SameRouter.srcCfg (h : d.SameRouter e) (src : Nat) : e.srcCfg src = d.srcCfg src := by
  simp only [Dev.srcCfg, Dev.par, Dev.cfgWord, h.evr, h.cfg]

theorem Dev.SameRouter.par (h : d.SameRouter e) (sect id : Nat) : e.par sect id = d.par sect id := by
  simp only [Dev.par, Dev.cfgWord, h.cfg]

theorem Dev.hostQ_of_evr (p : HostPort) (h : e.evr = d.evr) : e.hostQ p = d.hostQ p := by
  simp only [Dev.hostQ, h]

theorem Dev.SameRouter.hostQ (h : d.SameRouter e) (p : HostPort) : e.hostQ p = d.hostQ p := Dev.hostQ_of_evr p h.evr

theorem Dev.SameRouter.isWorker (h : d.SameRouter e) : e.isWorker = d.isWorker := by
  rw [Dev.isWorker, Dev.role, h.fld (by decide)]
  rfl

theorem Dev.SameRouter.ringsTaken (h : d.SameRouter e) : e.ringsTaken = d.ringsTaken := by
  simp only [Dev.ringsTaken, h.mem]

theorem Dev.portOpen_of_reg (p : HostPort) (h : e.reg USB_STAT = d.reg USB_STAT) : e.portOpen p = d.portOpen p := by
  simp only [Dev.portOpen, Dev.fld, h]

/-- The rule of admission reads a consumer's records and its two ring pointers (R360). -/
theorem Dev.admits_of_eq {p : HostPort} (hq : e.hostQ p = d.hostQ p)
    (hwr : e.reg (portFld p EVR_H0_WR_WR).addr = d.reg (portFld p EVR_H0_WR_WR).addr)
    (hrd : e.reg (portFld p EVR_H0_RD_RD).addr = d.reg (portFld p EVR_H0_RD_RD).addr) (pri n : Nat) :
    e.admits p pri n = d.admits p pri n := by
  have hfree : e.freeRecords p = d.freeRecords p := by
    simp only [Dev.freeRecords, Dev.occupancy, Dev.ringWr, Dev.ringRd, Dev.fld_of_reg hwr, Dev.fld_of_reg hrd, hq]
  rw [Dev.admits, hfree, hq]
  rfl

theorem Dev.SameRouter.portOpen (h : d.SameRouter e) (p : HostPort) : e.portOpen p = d.portOpen p :=
  Dev.portOpen_of_reg p (h.reg _ (by decide))

theorem Dev.SameRouter.admits (h : d.SameRouter e) (p : HostPort) (pri n : Nat) : e.admits p pri n = d.admits p pri n :=
  Dev.admits_of_eq (h.hostQ p) (h.reg _ (by cases p <;> decide)) (h.reg _ (by cases p <;> decide)) pri n

theorem Dev.sameRouter_touchTime (d : Dev) : d.SameRouter d.touchTime := by
  unfold Dev.touchTime
  split
  · exact ⟨fun _ _ => rfl, rfl, rfl, rfl, rfl, rfl, rfl⟩
  · exact .rfl d

theorem Dev.sameRouter_logAt (d : Dev) (at_ : Stamp) (src : Nat) (w1 w2 : Word) : d.SameRouter (d.logAt at_ src w1 w2) := by
  unfold Dev.logAt Dev.logRec
  split
  · exact ⟨fun a ha => Dev.reg_setFld_ne _ _ _ ha, rfl, rfl, rfl, rfl, rfl, rfl⟩
  · exact ⟨fun a ha => Dev.reg_bumpBy_ne _ _ _ ha, rfl, rfl, rfl, rfl, rfl, rfl⟩

theorem Dev.touchTime_slow (h : d.time.fast = false) : d.touchTime = d := by
  simp [Dev.touchTime, h]

theorem Dev.touchTime_pwr (d : Dev) : d.touchTime.pwr = d.pwr := by
  unfold Dev.touchTime
  split <;> rfl

theorem leaves_touchTime (d : Dev) : d.leaves d.touchTime [] := by
  unfold Dev.touchTime
  split
  · exact leaves_of (d.leaves_refl _) rfl rfl rfl rfl
  · exact d.leaves_refl _

/-! A doorbell's way through the router (R332, R374). -/

/-- A doorbell kept until the router runs: its payload, and the epoch and the time at which it was rung (R25, R374). -/
def Dev.deferral (d : Dev) (src : Nat) (w1 w2 : Word) : Deferred :=
  ⟨src, w1, w2, d.time.epoch, d.time.now.1, d.time.now.2⟩

theorem Dev.ring_early {src : Nat} (hsrc : src ≠ 0) (hstep : d.pwr.step < 5) (w1 w2 : Word) :
    d.ring src w1 w2 = { d.touchTime with evr :=
      { d.touchTime.evr with deferred := d.touchTime.evr.deferred ++ [d.touchTime.deferral src w1 w2] } } := by
  rw [Dev.ring, Dev.accept, if_neg hsrc]
  exact if_pos (by rwa [Dev.touchTime_pwr])

/-- From step 5 on the router takes a doorbell at once, with the time just read. -/
theorem Dev.ring_running {src : Nat} (hsrc : src ≠ 0) (hstep : 5 ≤ d.pwr.step) (w1 w2 : Word) :
    d.ring src w1 w2 = d.touchTime.acceptAt d.touchTime.stamp src w1 w2 none none := by
  rw [Dev.ring, Dev.accept, if_neg hsrc]
  exact if_neg (by rw [Dev.touchTime_pwr]; omega)

/-- The machine on which the router judges a doorbell rung at a time: the fault log has its entry (R874). -/
def Dev.judged (d : Dev) (at_ : Stamp) (src : Nat) (w1 w2 : Word) : Dev :=
  if loggedSource src then d.logAt at_ src w1 w2 else d

theorem Dev.sameRouter_judged (d : Dev) (at_ : Stamp) (src : Nat) (w1 w2 : Word) :
    d.SameRouter (d.judged at_ src w1 w2) := by
  unfold Dev.judged
  split
  · exact d.sameRouter_logAt at_ src w1 w2
  · exact .rfl d

/-- From step 5 on a host-group doorbell becomes a record with the present epoch. -/
theorem Dev.ring_host {src : Nat} (hsrc : src ≠ 0) (hstep : 5 ≤ d.pwr.step) (hgroup : coreSource src = false)
    (w1 w2 : Word) : ∃ (e : Dev) (at_ : Stamp), d.SameRouter e ∧ at_.1 = d.time.epoch ∧
      d.ring src w1 w2 = e.hostRecord at_ src w1 w2 none none := by
  refine ⟨d.touchTime.judged d.touchTime.stamp src w1 w2, d.touchTime.stamp,
    d.sameRouter_touchTime.trans (Dev.sameRouter_judged ..), d.sameRouter_touchTime.epoch, ?_⟩
  rw [Dev.ring_running hsrc hstep, Dev.acceptAt]
  exact if_neg (by simp [hgroup])

/-- From step 5 on a core-group doorbell becomes a record with the present epoch. -/
theorem Dev.ring_core {src : Nat} (hsrc : src ≠ 0) (hstep : 5 ≤ d.pwr.step) (hgroup : coreSource src = true)
    (w1 w2 : Word) : ∃ (e : Dev) (at_ : Stamp), d.SameRouter e ∧ at_.1 = d.time.epoch ∧
      d.ring src w1 w2 = e.coreRecord at_ src w1 w2 := by
  refine ⟨d.touchTime.judged d.touchTime.stamp src w1 w2, d.touchTime.stamp,
    d.sameRouter_touchTime.trans (Dev.sameRouter_judged ..), d.sameRouter_touchTime.epoch, ?_⟩
  rw [Dev.ring_running hsrc hstep, Dev.acceptAt]
  exact if_pos hgroup

/-! What dealing with one host consumer leaves as it was. -/

/-- The registers that an offer to a host consumer may change: its refusals and write pointer, what it wakes, the call for a
resync, and the console's dropped lines (R82, R186, R310, R331, R360, R484). -/
def offerRegs (q : HostPort) : List Nat :=
  [(portFld q EVR_H0_DISC_COUNT).addr, (portFld q EVR_H0_WR_WR).addr, PWR_HOST, USB_RWK, TRK_RPT_STAT, TRK_RPT_CNT, SVC_ERR]

/-- From d to e the router has dealt with consumer q: the other consumer and the registers of no offer to q are as in d. -/
structure Dev.Beside (q : HostPort) (d e : Dev) : Prop where
  hostQ : ∀ p, p ≠ q → e.hostQ p = d.hostQ p
  reg : ∀ a, a ∉ offerRegs q → e.reg a = d.reg a

section

variable {q : HostPort}

theorem Dev.Beside.rfl (q : HostPort) (d : Dev) : Dev.Beside q d d := ⟨fun _ _ => Eq.refl _, fun _ _ => Eq.refl _⟩

theorem beside_of (h : Dev.Beside q d x) (hregs : e.regs = x.regs) (hevr : e.evr = x.evr) : Dev.Beside q d e := by
  refine ⟨fun p hp => ?_, fun a ha => ?_⟩
  · rw [← h.hostQ p hp, Dev.hostQ_of_evr p hevr]
  · rw [← h.reg a ha]
    simp only [Dev.reg, hregs]

theorem beside_setFld (h : Dev.Beside q d e) {f : Fld} {v : Nat} (hf : f.addr ∈ offerRegs q) :
    Dev.Beside q d (e.setFld f v) := by
  refine ⟨h.hostQ, fun a ha => ?_⟩
  have hne : a ≠ f.addr := fun hfa => ha (hfa ▸ hf)
  exact (e.reg_setFld_ne f v hne).trans (h.reg a ha)

theorem beside_setFlag (h : Dev.Beside q d e) {f : Fld} {b : Bool} (hf : f.addr ∈ offerRegs q) :
    Dev.Beside q d (e.setFlag f b) := beside_setFld h hf

theorem beside_bumpBy (h : Dev.Beside q d e) {f : Fld} {n : Nat} (hf : f.addr ∈ offerRegs q) :
    Dev.Beside q d (e.bumpBy f n) := beside_setFld h hf

theorem Dev.hostQ_setHostQ_same (d : Dev) (p : HostPort) (x : HostQ) : (d.setHostQ p x).hostQ p = x := by
  cases p <;> rfl

theorem Dev.hostQ_setHostQ_ne (d : Dev) {p q : HostPort} (x : HostQ) (h : p ≠ q) :
    (d.setHostQ q x).hostQ p = d.hostQ p :=
  match p, q, h with
  | .h0, .h1, _ => rfl
  | .h1, .h0, _ => rfl
  | .h0, .h0, h => absurd rfl h
  | .h1, .h1, h => absurd rfl h

theorem Dev.reg_setHostQ (d : Dev) (p : HostPort) (x : HostQ) (a : Nat) : (d.setHostQ p x).reg a = d.reg a := by
  cases p <;> rfl

theorem beside_setHostQ (h : Dev.Beside q d e) {r : HostQ} : Dev.Beside q d (e.setHostQ q r) :=
  ⟨fun p hp => (e.hostQ_setHostQ_ne r hp).trans (h.hostQ p hp), fun a ha => (e.reg_setHostQ q r a).trans (h.reg a ha)⟩

theorem beside_fillBank (h : Dev.Beside q d e) {b w : Nat} {vs : List Word} : Dev.Beside q d (e.fillBank b w vs) := by
  induction vs generalizing e w with
  | nil => exact h
  | cons v vs ih => exact ih (e := e.setBank b w v) (beside_of h rfl rfl)

theorem beside_print (h : Dev.Beside q d e) {l : OutLine} : Dev.Beside q d (e.print l) := by
  have hprinted := e.print_printed l
  refine ⟨fun p hp => (hprinted.keeps (·.hostQ p) fun _ _ _ => rfl).trans (h.hostQ p hp), fun a ha => ?_⟩
  obtain ⟨-, hreg⟩ := hprinted
  have hne : a ≠ SVC_ERR := fun hae => ha (by simp [hae, offerRegs])
  exact (hreg a hne).trans (h.reg a ha)

theorem beside_writeRecord (h : Dev.Beside q d e) {src pri epoch : Nat} {w1 w2 w3 : Word} :
    Dev.Beside q d (e.writeRecord q src pri epoch w1 w2 w3) := by
  unfold Dev.writeRecord
  extract_lets _ _ a b c
  have hc : Dev.Beside q d c := beside_setHostQ (beside_setFld (beside_fillBank h) (by simp [offerRegs]))
  split
  · exact beside_print hc
  · exact hc

theorem beside_hostWake (h : Dev.Beside q d e) : Dev.Beside q d e.hostWake := by
  unfold Dev.hostWake
  split
  · have hasserted : Dev.Beside q d { e with modes := { e.modes with hostwake := true } } := beside_of h rfl rfl
    exact beside_setFlag (beside_setFlag hasserted (by simp [offerRegs])) (by simp [offerRegs])
  · exact h

theorem beside_remoteWake (h : Dev.Beside q d e) {src : Nat} : Dev.Beside q d (e.remoteWake src) := by
  unfold Dev.remoteWake
  split
  · have hsampled : Dev.Beside q d { e with usb := { e.usb with wake := 1 } } := beside_of h rfl rfl
    exact beside_setFld hsampled (by simp [offerRegs])
  · exact h

theorem beside_admitWake (h : Dev.Beside q d e) {p : HostPort} {src : Nat} {wake : Bool} :
    Dev.Beside q d (e.admitWake p src wake) := by
  unfold Dev.admitWake
  split
  · cases p with
    | h0 => exact beside_hostWake h
    | h1 => exact beside_remoteWake (beside_hostWake h)
  · exact h

theorem beside_refuseRecord (h : Dev.Beside q d e) {pri n : Nat} : Dev.Beside q d (e.refuseRecord q pri n) := by
  have hcounted : Dev.Beside q d (e.bumpBy (portFld q EVR_H0_DISC_COUNT) n) := beside_bumpBy h (by simp [offerRegs])
  unfold Dev.refuseRecord
  extract_lets b old r ep c
  split
  · have hbegun : Dev.Beside q d c := beside_setHostQ hcounted
    split
    · exact beside_admitWake (beside_setHostQ (beside_writeRecord hbegun))
    · exact hbegun
  · extract_lets ep c
    have hgone : Dev.Beside q d c := beside_setHostQ hcounted
    split
    · exact beside_fillBank hgone
    · exact hgone

theorem beside_askBurst (h : Dev.Beside q d e) : Dev.Beside q d e.askBurst := by
  have hasked : Dev.Beside q d { e with rpt := { e.rpt with burstAsked := true } } := beside_of h rfl rfl
  exact beside_setFlag hasked (f := TRK_RPT_STAT_RSPEND) (by simp [offerRegs])

/-- An offer to one consumer does not touch the other. -/
theorem beside_offer (d : Dev) (q : HostPort) (r : Pend) (wake : Bool) : Dev.Beside q d (d.offer q r wake) := by
  unfold Dev.offer
  split
  · exact .rfl q d
  · split
    · extract_lets _ _ _ _ c
      have hadmitted : Dev.Beside q d c := beside_admitWake (beside_setHostQ (.rfl q d))
      split
      · exact beside_askBurst (beside_bumpBy hadmitted (by simp [offerRegs]))
      · exact hadmitted
    · exact beside_refuseRecord (.rfl q d)

end

/-! An offer that is admitted (R306, R360). -/

/-- The LOSS bit is all that an admission adds to a record (R306). -/
theorem lossBit_eq (q : HostQ) (r : Pend) :
    lossBit q r = { r with w2 := if r.src = 19 ∧ q.loss = true then r.w2 ||| 4#24 else r.w2 } := by
  unfold lossBit
  split <;> rfl

theorem Dev.evr_hostWake (d : Dev) : d.hostWake.evr = d.evr := by
  unfold Dev.hostWake
  split <;> rfl

theorem Dev.evr_admitWake (d : Dev) (p : HostPort) (src : Nat) (wake : Bool) : (d.admitWake p src wake).evr = d.evr := by
  unfold Dev.admitWake
  split
  · cases p with
    | h0 => exact d.evr_hostWake
    | h1 =>
      rw [← d.evr_hostWake]
      dsimp only [Dev.remoteWake]
      split <;> rfl
  · rfl

/-- An open consumer whose rule of admission a record meets has it pending behind the others, with LOSS if it is due. -/
theorem Dev.offer_admitted {p : HostPort} {r : Pend} (hopen : d.portOpen p = true) (hfits : d.admits p r.pri r.size = true)
    (wake : Bool) : ((d.offer p r wake).hostQ p).pend = (d.hostQ p).pend ++ [lossBit (d.hostQ p) r] := by
  unfold Dev.offer
  rw [if_neg (by simp [hopen]), if_pos hfits]
  extract_lets q r' carries q' c
  have hkept : (c.hostQ p).pend = q.pend ++ [r'] := by
    rw [show c.hostQ p = (d.setHostQ p q').hostQ p from Dev.hostQ_of_evr p (Dev.evr_admitWake ..),
      Dev.hostQ_setHostQ_same]
  split
  · exact hkept
  · exact hkept

/-- A record offered to every consumer its source is routed to (R338). -/
def Dev.offerRouted (d : Dev) (cfg : Word) (r : Pend) : Dev :=
  let d := if cfgH0 cfg then d.offer .h0 r (cfgWake cfg) else d
  if cfgH1 cfg then d.offer .h1 r (cfgWake cfg) else d

theorem Dev.offerRouted_admitted {cfg : Word} {r : Pend} {p : HostPort} (hroute : cfgRoute p cfg = true)
    (hopen : d.portOpen p = true) (hfits : d.admits p r.pri r.size = true) :
    ((d.offerRouted cfg r).hostQ p).pend = (d.hostQ p).pend ++ [lossBit (d.hostQ p) r] := by
  unfold Dev.offerRouted
  extract_lets y
  cases p with
  | h0 =>
    have hfirst : (y.hostQ .h0).pend = (d.hostQ .h0).pend ++ [lossBit (d.hostQ .h0) r] := by
      rw [show y = d.offer .h0 r (cfgWake cfg) from if_pos hroute]
      exact Dev.offer_admitted hopen hfits _
    split
    · rw [(beside_offer y .h1 r (cfgWake cfg)).hostQ .h0 (by decide), hfirst]
    · exact hfirst
  | h1 =>
    have hbeside : Dev.Beside .h0 d y := by
      unfold y
      split
      · exact beside_offer d .h0 r (cfgWake cfg)
      · exact .rfl .h0 d
    have hsame : y.hostQ .h1 = d.hostQ .h1 := hbeside.hostQ .h1 (by decide)
    rw [if_pos (show cfgH1 cfg = true from hroute), ← hsame]
    refine Dev.offer_admitted ?_ ?_ _
    · rw [Dev.portOpen_of_reg .h1 (hbeside.reg _ (by decide)), hopen]
    · rw [Dev.admits_of_eq hsame (hbeside.reg _ (by decide)) (hbeside.reg _ (by decide)), hfits]

theorem Dev.offerRouted_reg {cfg : Word} {r : Pend} {a : Nat} (h0 : a ∉ offerRegs .h0) (h1 : a ∉ offerRegs .h1) :
    (d.offerRouted cfg r).reg a = d.reg a := by
  unfold Dev.offerRouted
  extract_lets y
  have hfirst : y.reg a = d.reg a := by
    unfold y
    split
    · exact (beside_offer d .h0 r (cfgWake cfg)).reg a h0
    · rfl
  split
  · exact ((beside_offer y .h1 r (cfgWake cfg)).reg a h1).trans hfirst
  · exact hfirst

/-! Host-group and core-group records (R338, R358, R565). -/

/-- The record of a host-group doorbell of one record (R339). -/
def Dev.hostPend (d : Dev) (at_ : Stamp) (src : Nat) (w1 w2 : Word) : Pend :=
  ⟨src, cfgPri (d.srcCfg src), at_.1, w1, w2, stampW3 at_.2, none, if reportSource src then d.evr.group else none, none⟩

theorem cfgRoute_some {p : HostPort} {cfg : Word} (h : cfgRoute p cfg = true) :
    ¬ (cfgH0 cfg = false ∧ cfgH1 cfg = false) := by
  rintro ⟨h0, h1⟩
  cases p with
  | h0 => exact absurd (h.symm.trans h0) (by decide)
  | h1 => exact absurd (h.symm.trans h1) (by decide)

theorem Dev.isWorker_bumpDoors (d : Dev) : (d.bump EVR_CNT_DOORS).isWorker = d.isWorker := by
  rw [Dev.isWorker, Dev.role, Dev.fld_bump_apart _ (by decide) (by decide)]
  rfl

theorem Dev.portOpen_bumpDoors (d : Dev) (p : HostPort) : (d.bump EVR_CNT_DOORS).portOpen p = d.portOpen p :=
  Dev.portOpen_of_reg p (d.reg_bumpBy_ne EVR_CNT_DOORS 1 (by decide))

theorem Dev.admits_bumpDoors (d : Dev) (p : HostPort) (pri n : Nat) :
    (d.bump EVR_CNT_DOORS).admits p pri n = d.admits p pri n := by
  have hreg {a : Nat} (ha : a ≠ EVR_CNT) : (d.bump EVR_CNT_DOORS).reg a = d.reg a := d.reg_bumpBy_ne EVR_CNT_DOORS 1 ha
  have hq : (d.bump EVR_CNT_DOORS).hostQ p = d.hostQ p := Dev.hostQ_of_evr p rfl
  refine Dev.admits_of_eq hq (hreg ?_) (hreg ?_) pri n
  · cases p <;> decide
  · cases p <;> decide

theorem Dev.hostRecord_routed {src : Nat} {p : HostPort} (hpri : cfgPri (d.srcCfg src) ≠ 0)
    (hroute : cfgRoute p (d.srcCfg src) = true) (hrole : d.isWorker = false) (hrings : d.ringsTaken = false) (at_ : Stamp)
    (w1 w2 : Word) : d.hostRecord at_ src w1 w2 none none =
      (d.bump EVR_CNT_DOORS).offerRouted (d.srcCfg src) (d.hostPend at_ src w1 w2) := by
  have hrole' : (d.bump EVR_CNT_DOORS).isWorker = false := d.isWorker_bumpDoors.trans hrole
  have hrings' : (d.bump EVR_CNT_DOORS).ringsTaken = false := hrings
  unfold Dev.hostRecord
  rw [if_neg (not_or.2 ⟨hpri, cfgRoute_some hroute⟩)]
  simp only [hrole', hrings']
  rfl

/-- What the admission of a record on a worker wakes (R186). -/
def Dev.workerWoken (d : Dev) (cfg : Word) : Dev := if cfgWake cfg then d.hostWake else d

theorem Dev.workerWoken_keeps (d : Dev) (cfg : Word) : (d.workerWoken cfg).outbox = d.outbox ∧
    (d.workerWoken cfg).surf = d.surf ∧ (d.workerWoken cfg).evr = d.evr ∧ (d.workerWoken cfg).cfg = d.cfg := by
  unfold Dev.workerWoken Dev.hostWake
  split
  · split
    · exact ⟨rfl, rfl, rfl, rfl⟩
    · exact ⟨rfl, rfl, rfl, rfl⟩
  · exact ⟨rfl, rfl, rfl, rfl⟩

theorem Dev.hostRecord_worker {src : Nat} {p : HostPort} (hpri : cfgPri (d.srcCfg src) ≠ 0)
    (hroute : cfgRoute p (d.srcCfg src) = true) (hrole : d.isWorker = true) (hreport : reportSource src = false)
    (at_ : Stamp) (w1 w2 : Word) : d.hostRecord at_ src w1 w2 none none =
      ((d.bump EVR_CNT_DOORS).workerWoken (d.srcCfg src)).forwardRecord
        (recordW0 src (cfgPri (d.srcCfg src)) at_.1 0) w1 w2 (stampW3 at_.2) := by
  have hrole' : (d.bump EVR_CNT_DOORS).isWorker = true := d.isWorker_bumpDoors.trans hrole
  unfold Dev.hostRecord
  rw [if_neg (not_or.2 ⟨hpri, cfgRoute_some hroute⟩)]
  simp only [hrole', hreport]
  rfl

theorem Dev.forwardRecord_room (h : d.surf.fwdSent < d.par secSurface 0x05) (w0 w1 w2 w3 : Word) :
    d.forwardRecord w0 w1 w2 w3 =
      { d with surf := { d.surf with fwdSent := d.surf.fwdSent + 1 } }.send msgForward 0 [w0, w1, w2, w3] := if_pos h

/-- The record of a core-group doorbell (R339, R358). -/
def Dev.corePend (d : Dev) (at_ : Stamp) (src : Nat) (w1 w2 : Word) : Pend :=
  ⟨src, cfgPri (d.srcCfg src), at_.1, w1, w2, stampW3 at_.2, none, none, none⟩

theorem Dev.coreRecord_stored {src : Nat} (hpri : cfgPri (d.srcCfg src) ≠ 0) (hroom : d.evr.store.length < 256)
    (at_ : Stamp) (w1 w2 : Word) :
    (d.coreRecord at_ src w1 w2).evr.store = d.evr.store ++ [d.corePend at_ src w1 w2] := by
  unfold Dev.coreRecord
  rw [if_neg hpri]
  exact congrArg (fun t : Dev => t.evr.store) (if_pos hroom)

/-! DOORBELL (R339). -/

section

variable {src : BitVec 9} (hsrc : src.toNat ≠ 0)

include hsrc

theorem doorbell_early (hstep : s.dev.pwr.step < 5) (w1 w2 : Word) : Completes (.doorbell src w1 w2) s fun t =>
    (∃ e : Deferred, t.evr.deferred = s.dev.evr.deferred ++ [e] ∧ e.src = src.toNat ∧ e.w1 = w1 ∧ e.w2 = w2 ∧
      e.epoch = s.dev.time.epoch ∧ (s.dev.time.fast = false → (e.sec, e.frac) = s.dev.time.now)) ∧ s.dev.leaves t [] := by
  have hseen := s.dev.sameRouter_touchTime
  refine completes_of (f := fun d => d.ring src.toNat w1 w2) rfl ?_
  rw [Dev.ring_early hsrc hstep, hseen.evr]
  refine ⟨⟨_, rfl, rfl, rfl, rfl, hseen.epoch, fun hslow => ?_⟩, leaves_of (leaves_touchTime _) rfl rfl rfl rfl⟩
  rw [Dev.touchTime_slow hslow]
  rfl

theorem doorbell_pends (hstep : 5 ≤ s.dev.pwr.step) (hgroup : coreSource src.toNat = false)
    (hrole : s.dev.isWorker = false) (hrings : s.dev.ringsTaken = false) (hpri : cfgPri (s.dev.srcCfg src.toNat) ≠ 0)
    {p : HostPort} (hroute : cfgRoute p (s.dev.srcCfg src.toNat) = true) (hopen : s.dev.portOpen p = true)
    (hfits : s.dev.admits p (cfgPri (s.dev.srcCfg src.toNat)) 1 = true) (w1 w2 : Word) :
    Completes (.doorbell src w1 w2) s fun t => ∃ r : Pend, (t.hostQ p).pend = (s.dev.hostQ p).pend ++ [r] ∧
      r.src = src.toNat ∧ r.pri = cfgPri (s.dev.srcCfg src.toNat) ∧ r.epoch = s.dev.time.epoch ∧ r.w1 = w1 ∧
      r.w2 = (if src.toNat = 19 ∧ (s.dev.hostQ p).loss = true then w2 ||| 4#24 else w2) ∧ r.pairB = none ∧
      t.fld EVR_CNT_DOORS = min (s.dev.fld EVR_CNT_DOORS + 1) (2 ^ EVR_CNT_DOORS.width - 1) := by
  obtain ⟨e, at_, hsame, hepoch, hring⟩ := Dev.ring_host hsrc hstep hgroup w1 w2
  rw [← hsame.srcCfg] at hpri hroute hfits ⊢
  rw [← hsame.isWorker] at hrole
  rw [← hsame.ringsTaken] at hrings
  have hopen' : (e.bump EVR_CNT_DOORS).portOpen p = true := by rw [Dev.portOpen_bumpDoors, hsame.portOpen, hopen]
  have hfits' : (e.bump EVR_CNT_DOORS).admits p (cfgPri (e.srcCfg src.toNat)) 1 = true := by
    rw [Dev.admits_bumpDoors, hsame.admits, hfits]
  refine completes_of (f := fun d => d.ring src.toNat w1 w2) rfl ?_
  rw [hring, Dev.hostRecord_routed hpri hroute hrole hrings]
  refine ⟨lossBit (s.dev.hostQ p) (e.hostPend at_ src.toNat w1 w2), ?_, ?_⟩
  · rw [← hsame.hostQ]
    exact Dev.offerRouted_admitted hroute hopen' hfits'
  · rw [Dev.fld_of_reg (Dev.offerRouted_reg (by decide) (by decide)), Dev.fld_bump_same _ _ (by decide),
      hsame.fld (by decide), ← hepoch, lossBit_eq]
    exact ⟨rfl, rfl, rfl, rfl, rfl, rfl, rfl⟩

theorem doorbell_stored (hstep : 5 ≤ s.dev.pwr.step) (hgroup : coreSource src.toNat = true)
    (hpri : cfgPri (s.dev.srcCfg src.toNat) ≠ 0) (hroom : s.dev.evr.store.length < 256) (w1 w2 : Word) :
    Completes (.doorbell src w1 w2) s fun t => ∃ r : Pend,
      t.evr.store = s.dev.evr.store ++ [r] ∧ r.src = src.toNat ∧ r.w1 = w1 ∧ r.w2 = w2 := by
  obtain ⟨e, at_, hsame, -, hring⟩ := Dev.ring_core hsrc hstep hgroup w1 w2
  rw [← hsame.srcCfg] at hpri
  rw [← hsame.evr] at hroom ⊢
  refine completes_of (f := fun d => d.ring src.toNat w1 w2) rfl ?_
  rw [hring]
  exact ⟨_, Dev.coreRecord_stored hpri hroom at_ w1 w2, rfl, rfl, rfl⟩

theorem doorbell_forwarded (hstep : 5 ≤ s.dev.pwr.step) (hgroup : coreSource src.toNat = false)
    (hrole : s.dev.isWorker = true) (hreport : reportSource src.toNat = false)
    (hpri : cfgPri (s.dev.srcCfg src.toNat) ≠ 0) (hroute : cfgH0 (s.dev.srcCfg src.toNat) = true)
    (hroom : s.dev.surf.fwdSent < s.dev.par secSurface 0x05) (w1 w2 : Word) :
    Completes (.doorbell src w1 w2) s fun t => ∃ w0 w3 : Word,
      t.outbox = s.dev.outbox ++ [⟨msgForward, 0, [w0, w1, w2, w3]⟩] ∧ t.surf.fwdSent = s.dev.surf.fwdSent + 1 ∧
      t.evr.h0 = s.dev.evr.h0 ∧ t.evr.h1 = s.dev.evr.h1 := by
  obtain ⟨e, at_, hsame, -, hring⟩ := Dev.ring_host hsrc hstep hgroup w1 w2
  rw [← hsame.srcCfg] at hpri hroute
  rw [← hsame.isWorker] at hrole
  rw [← hsame.surf, ← hsame.par] at hroom
  rw [← hsame.outbox, ← hsame.surf, ← hsame.evr]
  obtain ⟨houtbox, hsurf, hevr, hcfg⟩ := (e.bump EVR_CNT_DOORS).workerWoken_keeps (e.srcCfg src.toNat)
  have hroom' : ((e.bump EVR_CNT_DOORS).workerWoken (e.srcCfg src.toNat)).surf.fwdSent <
      ((e.bump EVR_CNT_DOORS).workerWoken (e.srcCfg src.toNat)).par secSurface 0x05 := by
    rw [hsurf, Dev.par, Dev.cfgWord, hcfg]
    exact hroom
  refine completes_of (f := fun d => d.ring src.toNat w1 w2) rfl ?_
  rw [hring, Dev.hostRecord_worker (p := .h0) hpri hroute hrole hreport, Dev.forwardRecord_room hroom']
  exact ⟨_, _, congrArg (· ++ _) houtbox, congrArg (·.fwdSent + 1) hsurf, congrArg Router.h0 hevr, congrArg Router.h1 hevr⟩

end

/-- Settles O17: each kind of doorbell, from the machine on which the router judges it and from where its record goes. -/
theorem doorbellsWaitAndAreAdmitted : Obligations.DoorbellsWaitAndAreAdmitted := by
  intro s src w1 w2 hsrc
  refine ⟨fun hstep => doorbell_early hsrc hstep w1 w2, ?_, ?_, ?_⟩
  · intro hstep hgroup hrole hrings hpri p hroute hopen hfits
    exact doorbell_pends hsrc hstep hgroup hrole hrings hpri hroute hopen hfits w1 w2
  · intro hstep hgroup hpri hroom
    exact doorbell_stored hsrc hstep hgroup hpri hroom w1 w2
  · intro hstep hgroup hrole hreport hpri hroute hroom
    exact doorbell_forwarded hsrc hstep hgroup hrole hreport hpri hroute hroom w1 w2

end Sys2Proof.Machine
end

section
/-!
SUPPORT. ARM while a capture runs (R15, R324).
-/

namespace Sys2Proof.Machine

variable {d : Dev}

theorem Dev.writeCapCtrl_busy (hbusy : d.flag TRK_CAP_STAT_BUSY = true) (v : Word) :
    d.writeCapCtrl (v ||| 1) = d.ignoreWrite := if_pos ⟨wGet_or_one v, hbusy⟩

/-- Settles O30: an ARM while a capture runs is an ignored write, and nothing else. -/
theorem armIgnoredWhileBusy : Obligations.ArmIgnoredWhileBusy := by
  intro s value hbusy
  refine completes_of (f := fun d => d.writeCapCtrl (value ||| 1)) rfl ?_
  rw [Dev.writeCapCtrl_busy hbusy]
  exact ⟨s.dev.fld_ignoreWrite, rfl, rfl, rfl, s.dev.leaves_ignoreWrite⟩

end Sys2Proof.Machine
end

section
/-!
SUPPORT. The router's parts (R332 to R380): what a read of a host consumer, of a core, of a bank or of a consumer's register
answers after an update, and what these updates leave.
-/

namespace Sys2Proof.Machine

variable {d e : Dev} {as : List Nat} {p : HostPort}

/-! The registers of the two host consumers (R380). -/

theorem portFld_fits {f : Fld} (h : f.lsb + f.width ≤ 24) (p : HostPort) :
    (portFld p f).lsb + (portFld p f).width ≤ 24 := by
  cases p with
  | h0 => exact h
  | h1 => exact h

/-- A field of a host consumer is as wide as its namesake of H0. -/
theorem portFld_width (p : HostPort) (f : Fld) : (portFld p f).width = f.width := by
  cases p with
  | h0 => rfl
  | h1 => rfl

theorem Dev.fld_lt (d : Dev) (f : Fld) : d.fld f < 2 ^ f.width := wGet_lt _ _ _

theorem Dev.fld_setFld_port (d : Dev) {f : Fld} (h : f.lsb + f.width ≤ 24) (p : HostPort) (v : Nat) :
    (d.setFld (portFld p f) v).fld (portFld p f) = v % 2 ^ f.width := by
  rw [Dev.fld_setFld_same _ _ _ (portFld_fits h p), portFld_width]

theorem Dev.fld_bump_port (d : Dev) {f : Fld} (h : f.lsb + f.width ≤ 24) (p : HostPort) :
    (d.bump (portFld p f)).fld (portFld p f) = min (d.fld (portFld p f) + 1) (2 ^ f.width - 1) := by
  rw [Dev.fld_bump_same _ _ (portFld_fits h p), portFld_width]

/-! A host consumer, and a core. -/

theorem leaves_setHostQ (h : d.leaves e as) (p : HostPort) (q : HostQ) : d.leaves (e.setHostQ p q) as := by
  cases p with
  | h0 => exact leaves_of h rfl rfl rfl rfl
  | h1 => exact leaves_of h rfl rfl rfl rfl

theorem Dev.core_setCore_same {n : Nat} (h : n < d.evr.cores.length) (c : CoreQ) : (d.setCore n c).core n = c := by
  simp [Dev.core, Dev.setCore, h]

theorem Dev.core_setCore_ne (d : Dev) {n m : Nat} (h : m ≠ n) (c : CoreQ) : (d.setCore n c).core m = d.core m := by
  simp [Dev.core, Dev.setCore, List.getD_eq_getElem?_getD, h.symm]

theorem leaves_setCore (h : d.leaves e as) (n : Nat) (c : CoreQ) : d.leaves (e.setCore n c) as :=
  leaves_of h rfl rfl rfl rfl

theorem Dev.core_of_evr (n : Nat) (h : e.evr = d.evr) : e.core n = d.core n := by
  simp only [Dev.core, h]

/-! Words written in a row. -/

theorem Dev.bank_fillBank_ne {b w v : Nat} {vs : List Word} (h : ∀ i < vs.length, bankAddr b v ≠ bankAddr b (w + i)) :
    (d.fillBank b w vs).bank b v = d.bank b v := by
  induction vs generalizing d w with
  | nil => rfl
  | cons x xs ih =>
    have hlater : ∀ i < xs.length, bankAddr b v ≠ bankAddr b (w + 1 + i) := fun i hi => by
      have hnext := h (i + 1) (Nat.succ_lt_succ hi)
      rwa [show w + (i + 1) = w + 1 + i by omega] at hnext
    rw [Dev.fillBank, ih hlater, Dev.bank_setBank]
    exact if_neg (h 0 (Nat.succ_pos _))

/-- Each word of a run no longer than the bank reads as the word written to it. -/
theorem Dev.bank_fillBank {b w i : Nat} {vs : List Word} (hlen : vs.length ≤ 16384) (hi : i < vs.length) :
    (d.fillBank b w vs).bank b (w + i) = vs[i] := by
  induction vs generalizing d w i with
  | nil => exact absurd hi (Nat.not_lt_zero i)
  | cons x xs ih =>
    have hlen' : xs.length + 1 ≤ 16384 := hlen
    cases i with
    | zero =>
      rw [Dev.fillBank, Dev.bank_fillBank_ne fun i hi => ?_, Dev.bank_setBank]
      · exact if_pos rfl
      · simp only [bankAddr]
        omega
    | succ i =>
      rw [Dev.fillBank, show w + (i + 1) = w + 1 + i by omega]
      exact ih (by omega) (Nat.lt_of_succ_lt_succ hi)

theorem Dev.reg_fillBank (d : Dev) (b w : Nat) (vs : List Word) (a : Nat) : (d.fillBank b w vs).reg a = d.reg a := by
  induction vs generalizing d w with
  | nil => rfl
  | cons v vs ih => exact ih (d.setBank b w v) (w + 1)

/-! ALERT# (R430). -/

theorem Dev.evr_judgeAlert (d : Dev) : d.judgeAlert.evr = d.evr := by
  unfold Dev.judgeAlert
  split <;> rfl

theorem leaves_judgeAlert (h : d.leaves e as) (ha : TWB_STAT ∈ as) : d.leaves e.judgeAlert as := by
  unfold Dev.judgeAlert
  split
  · exact leaves_setFlag (f := TWB_STAT_ALERT) h ha
  · exact h

theorem Dev.evr_assertAlert (d : Dev) (p : HostPort) (pri : Nat) : (d.assertAlert p pri).evr = d.evr := by
  unfold Dev.assertAlert
  split
  · rfl
  · split <;> rfl

theorem leaves_assertAlert (h : d.leaves e as) (ha : TWB_STAT ∈ as) (p : HostPort) (pri : Nat) :
    d.leaves (e.assertAlert p pri) as := by
  unfold Dev.assertAlert
  split
  · exact h
  · split
    · exact leaves_setFlag (f := TWB_STAT_ALERT) h ha
    · exact h

end Sys2Proof.Machine
end

section
/-!
SUPPORT. Doorbells that admit nothing (R334, R338).
-/

namespace Sys2Proof.Machine

variable {d e : Dev} {s : State} {as : List Nat}

/-- The bits of a word written to EVR_HDOOR above its field are dropped (R14). -/
theorem hdoorField_toNat (value : Word) : (value &&& 0x1FF#24).toNat = wGet value 0 9 :=
  Nat.and_two_pow_sub_one_eq_mod value.toNat 9

theorem Dev.hostDoorbell_rings {value : Word} (h : 256 ≤ wGet value 0 9 ∧ wGet value 0 9 ≤ 319) :
    d.hostDoorbell (value &&& 0x1FF#24) = d.ring (wGet value 0 9) (d.reg EVR_HDOOR_W1) (d.reg EVR_HDOOR_W2) := by
  rw [← hdoorField_toNat] at h ⊢
  exact if_pos h

theorem Dev.hostDoorbell_counted {value : Word} (h : wGet value 0 9 < 256 ∨ 319 < wGet value 0 9) :
    d.hostDoorbell (value &&& 0x1FF#24) = d.bump EVR_CNT_BADDOOR := by
  rw [← hdoorField_toNat] at h
  exact if_neg (by omega)

/-- What counting a doorbell in BADDOOR leaves. -/
theorem Dev.bumpBaddoor_leaves (d : Dev) :
    (d.bump EVR_CNT_BADDOOR).fld EVR_CNT_BADDOOR = min (d.fld EVR_CNT_BADDOOR + 1) (2 ^ EVR_CNT_BADDOOR.width - 1) ∧
    (d.bump EVR_CNT_BADDOOR).fld EVR_CNT_DOORS = d.fld EVR_CNT_DOORS ∧ (d.bump EVR_CNT_BADDOOR).evr = d.evr ∧
    d.leaves (d.bump EVR_CNT_BADDOOR) [EVR_CNT] :=
  ⟨d.fld_bump_same _ (by decide), d.fld_bump_apart (by decide) (by decide), rfl,
    leaves_bump (d.leaves_refl _) (List.mem_singleton.2 rfl)⟩

/-- Settles O18: the field's range decides between the doorbell and the count, and source 0 is counted. -/
theorem hostDoorbellRings : Obligations.HostDoorbellRings := by
  intro s
  refine ⟨fun value hlow hhigh => ?_, fun value hout => ?_, fun w1 w2 => ?_⟩
  · exact completes_of (f := fun d => d.hostDoorbell (value &&& 0x1FF#24)) rfl (Dev.hostDoorbell_rings ⟨hlow, hhigh⟩)
  · refine completes_of (f := fun d => d.hostDoorbell (value &&& 0x1FF#24)) rfl ?_
    rw [Dev.hostDoorbell_counted hout]
    exact s.dev.bumpBaddoor_leaves
  · exact completes_of (f := fun d => d.ring 0 w1 w2) rfl s.dev.bumpBaddoor_leaves

/-! Doorbells without priority or route (R338). -/

/-- The machine on which the router judges a doorbell that is rung now. -/
def Dev.heard (d : Dev) (src : Nat) (w1 w2 : Word) : Dev := d.touchTime.judged d.touchTime.stamp src w1 w2

theorem Dev.sameRouter_heard (d : Dev) (src : Nat) (w1 w2 : Word) : d.SameRouter (d.heard src w1 w2) :=
  d.sameRouter_touchTime.trans (Dev.sameRouter_judged ..)

theorem Dev.touchTime_wakes (d : Dev) : d.touchTime.modes = d.modes ∧ d.touchTime.usb = d.usb := by
  unfold Dev.touchTime
  split
  · exact ⟨rfl, rfl⟩
  · exact ⟨rfl, rfl⟩

theorem Dev.logAt_wakes (d : Dev) (at_ : Stamp) (src : Nat) (w1 w2 : Word) :
    (d.logAt at_ src w1 w2).modes = d.modes ∧ (d.logAt at_ src w1 w2).usb = d.usb := by
  unfold Dev.logAt Dev.logRec
  split
  · exact ⟨rfl, rfl⟩
  · exact ⟨rfl, rfl⟩

theorem leaves_logAt (h : d.leaves e as) (ha : CAL_LOGQ ∈ as) (at_ : Stamp) (src : Nat) (w1 w2 : Word) :
    d.leaves (e.logAt at_ src w1 w2) as := by
  unfold Dev.logAt Dev.logRec
  split
  · exact leaves_setFld (leaves_of h rfl rfl rfl rfl) ha
  · exact leaves_bump (leaves_of h rfl rfl rfl rfl) ha

theorem Dev.heard_wakes (d : Dev) (src : Nat) (w1 w2 : Word) :
    (d.heard src w1 w2).modes = d.modes ∧ (d.heard src w1 w2).usb = d.usb := by
  unfold Dev.heard Dev.judged
  split
  · rw [(Dev.logAt_wakes ..).1, (Dev.logAt_wakes ..).2]
    exact d.touchTime_wakes
  · exact d.touchTime_wakes

theorem leaves_heard (d : Dev) (src : Nat) (w1 w2 : Word) : d.leaves (d.heard src w1 w2) [CAL_LOGQ] := by
  have htouched : d.leaves d.touchTime [CAL_LOGQ] := leaves_mono (leaves_touchTime d) (List.nil_subset _)
  unfold Dev.heard Dev.judged
  split
  · exact leaves_logAt htouched (List.mem_singleton.2 rfl) ..
  · exact htouched

/-- A doorbell without priority, or of a host-group source without a route, ends where the router judges it. -/
theorem Dev.ring_unadmitted {src : Nat} (hsrc : src ≠ 0) (hstep : 5 ≤ d.pwr.step)
    (hnone : cfgPri (d.srcCfg src) = 0 ∨
      coreSource src = false ∧ cfgH0 (d.srcCfg src) = false ∧ cfgH1 (d.srcCfg src) = false) (w1 w2 : Word) :
    d.ring src w1 w2 = d.heard src w1 w2 := by
  rw [← (d.sameRouter_heard src w1 w2).srcCfg] at hnone
  rw [Dev.ring_running hsrc hstep]
  cases hgroup : coreSource src with
  | true =>
    have hpri := hnone.resolve_right fun hroute => absurd (hroute.1.symm.trans hgroup) (by decide)
    exact (if_pos hgroup).trans (if_pos hpri)
  | false =>
    have hjudged : (d.heard src w1 w2).hostRecord d.touchTime.stamp src w1 w2 none none = d.heard src w1 w2 :=
      if_pos (hnone.imp_right And.right)
    exact (if_neg (by simp [hgroup])).trans hjudged

/-- Settles O19: such a doorbell ends where the router judges it, with at most an entry in the fault log. -/
theorem doorbellWithoutPriorityOrRoute : Obligations.DoorbellWithoutPriorityOrRoute := by
  intro s src w1 w2 hsrc hstep hnone
  refine completes_of (f := fun d => d.ring src.toNat w1 w2) rfl ?_
  rw [Dev.ring_unadmitted hsrc hstep hnone]
  have hsame := s.dev.sameRouter_heard src.toNat w1 w2
  obtain ⟨hmodes, husb⟩ := s.dev.heard_wakes src.toNat w1 w2
  exact ⟨hsame.evr, hsame.outbox, hmodes, husb, leaves_heard ..⟩

end Sys2Proof.Machine
end

section
/-!
SUPPORT. The priority stacks of the host consumers (R336, R337, R348 to R356).
-/

namespace Sys2Proof.Machine

variable {d : Dev} {s : State} {p : HostPort}

/-! STACKRST (R353). -/

theorem Dev.resetStack_one (d : Dev) (p : HostPort) :
    d.resetStack p 1 = d.setHostQ p { d.hostQ p with stack := [], frozen := false } := if_pos (by decide)

/-- Settles O20: the consumer's new stack is all that a STACKRST of 1 writes. -/
theorem stackResetEmptiesStack : Obligations.StackResetEmptiesStack := by
  intro s p
  refine completes_of (f := fun d => d.resetStack p 1) rfl ?_
  rw [Dev.resetStack_one, Dev.hostQ_setHostQ_same]
  exact ⟨rfl, fun _ => rfl, rfl, rfl, fun q hq => s.dev.hostQ_setHostQ_ne _ hq, s.dev.reg_setHostQ ..,
    leaves_setHostQ (s.dev.leaves_refl _) ..⟩

/-! TAKE and DONE (R349 to R351). -/

theorem Dev.take_above {w0 : Word} (hrun : (d.hostQ p).frozen = false) (hpri : 1 ≤ wGet w0 11 4)
    (habove : stackLevel (d.hostQ p).stack < wGet w0 11 4) : d.take p w0 = d.setHostQ p
      { d.hostQ p with stack := ⟨wGet w0 15 9, wGet w0 11 4, false⟩ :: (d.hostQ p).stack } := by
  unfold Dev.take
  rw [if_neg (by simp [hrun])]
  exact if_pos ⟨hpri, habove⟩

theorem Dev.take_notAbove {w0 : Word} (hrun : (d.hostQ p).frozen = false)
    (hnot : ¬(1 ≤ wGet w0 11 4 ∧ stackLevel (d.hostQ p).stack < wGet w0 11 4)) :
    d.take p w0 = d.orderFault p 3 (wGet w0 11 4) (wGet w0 15 9) := by
  unfold Dev.take
  rw [if_neg (by simp [hrun])]
  exact if_neg hnot

theorem Dev.take_frozen {w0 : Word} (hfrozen : (d.hostQ p).frozen = true) :
    d.take p w0 = d.bump (portFld p EVR_H0_CNT_IGNORED) := if_pos hfrozen

theorem Dev.complete_frozen {src : Nat} (hfrozen : (d.hostQ p).frozen = true) :
    d.complete p src = d.bump (portFld p EVR_H0_CNT_IGNORED) := if_pos hfrozen

theorem Dev.complete_empty {src : Nat} (hrun : (d.hostQ p).frozen = false) (hstack : (d.hostQ p).stack = []) :
    d.complete p src = d.orderFault p 2 0 src := by
  unfold Dev.complete
  rw [if_neg (by simp [hrun]), hstack]

theorem Dev.complete_other {src : Nat} {e : StackEnt} {rest : List StackEnt} (hrun : (d.hostQ p).frozen = false)
    (hstack : (d.hostQ p).stack = e :: rest) (hother : e.src ≠ src) : d.complete p src = d.orderFault p 1 0 src := by
  unfold Dev.complete
  rw [if_neg (by simp [hrun]), hstack]
  exact if_neg hother

/-- The entry that a DONE brings to the top stands there anew: its service time-out has not been reported (R354). -/
def topAnew : List StackEnt → List StackEnt
  | [] => []
  | t :: more => { t with reported := false } :: more

theorem topAnew_marks (st : List StackEnt) :
    (topAnew st).map (fun x => (x.src, x.pri)) = st.map (fun x => (x.src, x.pri)) := by
  cases st with
  | nil => rfl
  | cons t more => rfl

/-- A DONE of the top entry's source writes the consumer's stack, and whom it prefers next (R351). -/
theorem Dev.complete_top {src : Nat} {e : StackEnt} {rest : List StackEnt} (hrun : (d.hostQ p).frozen = false)
    (hstack : (d.hostQ p).stack = e :: rest) (htop : e.src = src) : ∃ prefer : List Nat, d.complete p src =
      (d.setHostQ p { d.hostQ p with stack := topAnew rest }).setHostQ p
        { d.hostQ p with stack := topAnew rest, prefer := prefer } := by
  unfold Dev.complete
  rw [if_neg (by simp [hrun]), hstack]
  dsimp only
  rw [if_pos htop, Dev.hostQ_setHostQ_same]
  cases rest with
  | nil => exact ⟨_, rfl⟩
  | cons t more => exact ⟨_, rfl⟩

theorem take_pushes {w0 : Word} (hrun : (s.dev.hostQ p).frozen = false) (hpri : 1 ≤ wGet w0 11 4)
    (habove : stackLevel (s.dev.hostQ p).stack < wGet w0 11 4) : Completes (.take p w0) s fun t =>
      (t.hostQ p).stack = ⟨wGet w0 15 9, wGet w0 11 4, false⟩ :: (s.dev.hostQ p).stack ∧
      (t.hostQ p).pend = (s.dev.hostQ p).pend ∧ s.dev.leaves t [] := by
  refine completes_of (f := fun d => d.take p w0) rfl ?_
  rw [Dev.take_above hrun hpri habove, Dev.hostQ_setHostQ_same]
  exact ⟨rfl, rfl, leaves_setHostQ (s.dev.leaves_refl _) ..⟩

theorem done_pops {value : Word} {e : StackEnt} {rest : List StackEnt} (hrun : (s.dev.hostQ p).frozen = false)
    (hstack : (s.dev.hostQ p).stack = e :: rest) (htop : e.src = wGet value 0 9) : Completes (.done p value) s fun t =>
      (t.hostQ p).stack.map (fun x => (x.src, x.pri)) = rest.map (fun x => (x.src, x.pri)) ∧
      (t.hostQ p).pend = (s.dev.hostQ p).pend ∧ (t.hostQ p).frozen = false ∧ s.dev.leaves t [] := by
  obtain ⟨prefer, hdone⟩ := Dev.complete_top hrun hstack htop
  refine completes_of (f := fun d => d.complete p (wGet value 0 9)) rfl ?_
  rw [hdone, Dev.hostQ_setHostQ_same]
  exact ⟨topAnew_marks rest, rfl, hrun, leaves_setHostQ (leaves_setHostQ (s.dev.leaves_refl _) ..) ..⟩

theorem frozen_ignores {w : Word} {c : Instr} (hfrozen : (s.dev.hostQ p).frozen = true)
    (hc : c = Instr.take p w ∨ c = Instr.done p w) : Completes c s fun t =>
      t.fld (portFld p EVR_H0_CNT_IGNORED) =
        min (s.dev.fld (portFld p EVR_H0_CNT_IGNORED) + 1) (2 ^ EVR_H0_CNT_IGNORED.width - 1) ∧
      t.evr = s.dev.evr ∧ s.dev.leaves t [(portFld p EVR_H0_CNT_IGNORED).addr] := by
  have hexec : exec c s = s.run fun d => d.bump (portFld p EVR_H0_CNT_IGNORED) := by
    rcases hc with rfl | rfl
    · exact congrArg (fun t => Host.Outcome.next { s with dev := t }) (Dev.take_frozen hfrozen)
    · exact congrArg (fun t => Host.Outcome.next { s with dev := t }) (Dev.complete_frozen hfrozen)
  exact completes_of hexec ⟨s.dev.fld_bump_port (by decide) p, rfl,
    leaves_bump (s.dev.leaves_refl _) (List.mem_singleton.2 rfl)⟩

/-! Ordering faults (R352). -/

/-- The machine with a consumer's ordering fault recorded and counted, before it is logged and raised. -/
def Dev.faultShown (d : Dev) (p : HostPort) (kind pri src : Nat) : Dev :=
  ((d.setHostQ p { d.hostQ p with frozen := true }).setReg (portFld p EVR_H0_FAULT_KIND).addr
    (pack [(kind, 20), (pri % 16, 9), (src % 512, 0)])).bump (portFld p EVR_H0_CNT_ORDERS)

theorem Dev.orderFault_eq (d : Dev) (p : HostPort) (kind pri src : Nat) : d.orderFault p kind pri src =
    ((d.faultShown p kind pri src).logEvent 3 (orderW1 (portCode p) kind pri src) (orderW2 (d.hostQ p).stack)).raiseOrder p
      (orderW1 (portCode p) kind pri src) (orderW2 (d.hostQ p).stack) := rfl

/-- From d to t a host consumer's ordering fault has frozen its stack, and then been logged and raised. -/
def Dev.OrderFaulted (d t : Dev) (p : HostPort) (kind pri src : Nat) : Prop := ∃ x : Dev,
  x.hostQ p = { d.hostQ p with frozen := true } ∧
  x.reg (portFld p EVR_H0_FAULT_KIND).addr = pack [(kind, 20), (pri % 16, 9), (src % 512, 0)] ∧
  x.fld (portFld p EVR_H0_CNT_ORDERS) = min (d.fld (portFld p EVR_H0_CNT_ORDERS) + 1) (2 ^ EVR_H0_CNT_ORDERS.width - 1) ∧
  d.leaves x [(portFld p EVR_H0_FAULT_KIND).addr, (portFld p EVR_H0_CNT_ORDERS).addr] ∧
  t = (x.logEvent 3 (orderW1 (portCode p) kind pri src) (orderW2 (d.hostQ p).stack)).raiseOrder p
    (orderW1 (portCode p) kind pri src) (orderW2 (d.hostQ p).stack)

theorem Dev.orderFault_faulted (d : Dev) (p : HostPort) (kind pri src : Nat) :
    d.OrderFaulted (d.orderFault p kind pri src) p kind pri src := by
  have hapart : (portFld p EVR_H0_CNT_ORDERS).addr ≠ (portFld p EVR_H0_FAULT_KIND).addr := by cases p <;> decide
  refine ⟨d.faultShown p kind pri src, ?_, ?_, ?_, ?_, d.orderFault_eq p kind pri src⟩
  · rw [Dev.faultShown, Dev.hostQ_of_evr p (Dev.bump_evr ..), Dev.hostQ_of_evr p (Dev.setReg_evr ..),
      Dev.hostQ_setHostQ_same]
  · rw [Dev.faultShown, Dev.bump, Dev.reg_bumpBy_ne _ _ _ hapart.symm, Dev.reg_setReg]
    exact if_pos rfl
  · rw [Dev.faultShown, Dev.fld_bump_port _ (by decide), Dev.fld_setReg_ne _ _ hapart,
      Dev.fld_of_reg (d.reg_setHostQ p _ _)]
  · exact leaves_bump (leaves_setReg (leaves_setHostQ (d.leaves_refl _) ..) (by simp)) (by simp)

theorem take_faults {w0 : Word} (hrun : (s.dev.hostQ p).frozen = false)
    (hnot : ¬(1 ≤ wGet w0 11 4 ∧ stackLevel (s.dev.hostQ p).stack < wGet w0 11 4)) :
    Completes (.take p w0) s fun t => s.dev.OrderFaulted t p 3 (wGet w0 11 4) (wGet w0 15 9) := by
  refine completes_of (f := fun d => d.take p w0) rfl ?_
  rw [Dev.take_notAbove hrun hnot]
  exact s.dev.orderFault_faulted ..

theorem done_other_faults {value : Word} {e : StackEnt} {rest : List StackEnt} (hrun : (s.dev.hostQ p).frozen = false)
    (hstack : (s.dev.hostQ p).stack = e :: rest) (hother : e.src ≠ wGet value 0 9) :
    Completes (.done p value) s fun t => s.dev.OrderFaulted t p 1 0 (wGet value 0 9) := by
  refine completes_of (f := fun d => d.complete p (wGet value 0 9)) rfl ?_
  rw [Dev.complete_other hrun hstack hother]
  exact s.dev.orderFault_faulted ..

theorem done_empty_faults {value : Word} (hrun : (s.dev.hostQ p).frozen = false) (hstack : (s.dev.hostQ p).stack = []) :
    Completes (.done p value) s fun t => s.dev.OrderFaulted t p 2 0 (wGet value 0 9) := by
  refine completes_of (f := fun d => d.complete p (wGet value 0 9)) rfl ?_
  rw [Dev.complete_empty hrun hstack]
  exact s.dev.orderFault_faulted ..

/-! GDIS, source configuration, the service time-out and moderation (R336, R337, R354 to R356). -/

theorem gdis_written (s : State) (p : HostPort) (value : Word) : Completes (.gdis p value) s fun t =>
    t.fld (portFld p EVR_H0_GDIS_GDIS) = wGet value 0 1 ∧ t.evr = s.dev.evr ∧
    s.dev.leaves t [(portFld p EVR_H0_GDIS_GDIS).addr] := by
  refine completes_of (f := fun d => d.setFld (portFld p EVR_H0_GDIS_GDIS) (wGet value 0 1)) rfl
    ⟨?_, rfl, leaves_setFld (s.dev.leaves_refl _) (List.mem_singleton.2 rfl)⟩
  rw [Dev.fld_setFld_port _ (by decide)]
  exact Nat.mod_eq_of_lt (wGet_lt value 0 1)

theorem Dev.srcCfg_setSrcCfg_same (d : Dev) (src : Nat) (w : Word) : (d.setSrcCfg src w).srcCfg src = w := by
  simp [Dev.srcCfg, Dev.setSrcCfg]

theorem Dev.writeSrcCfg_ordinary {src : Nat} (hgroup : coreSource src = false) (hreport : reportSource src = false)
    (h1 : src ≠ 1) (h3 : src ≠ 3) (v : Word) : d.writeSrcCfg src v = d.setSrcCfg src (v &&& 0x03EFFF#24) := by
  unfold Dev.writeSrcCfg
  rw [if_neg (by simp [hgroup]), if_neg (not_or.2 ⟨h1, h3⟩), if_neg (by simp [hreport])]

theorem Dev.hostQ_setSrcCfg (d : Dev) (p : HostPort) (src : Nat) (w : Word) :
    (d.setSrcCfg src w).hostQ p = d.hostQ p := by
  cases p with
  | h0 => rfl
  | h1 => rfl

theorem sourceConfigWrite_ordinary (p : HostPort) (value : Word) (hgroup : coreSource (s.dev.fld EVR_SSEL_SRC) = false)
    (hreport : reportSource (s.dev.fld EVR_SSEL_SRC) = false) (h1 : s.dev.fld EVR_SSEL_SRC ≠ 1)
    (h3 : s.dev.fld EVR_SSEL_SRC ≠ 3) : Completes (.sourceConfigWrite value) s fun t =>
      t.srcCfg (s.dev.fld EVR_SSEL_SRC) = value &&& 0x03EFFF#24 ∧ (t.hostQ p).pend = (s.dev.hostQ p).pend ∧
      s.dev.leaves t [] := by
  refine completes_of (f := fun d => d.writeSrcCfg (d.fld EVR_SSEL_SRC) value) rfl ?_
  rw [Dev.writeSrcCfg_ordinary hgroup hreport h1 h3]
  exact ⟨s.dev.srcCfg_setSrcCfg_same .., congrArg HostQ.pend (s.dev.hostQ_setSrcCfg ..),
    leaves_of (s.dev.leaves_refl _) rfl rfl rfl rfl⟩

theorem Dev.serviceTimeout_due {e : StackEnt} {rest : List StackEnt} (hstack : (d.hostQ p).stack = e :: rest)
    (hfirst : e.reported = false) (hon : d.par secEvents 0x02 ≠ 0) : d.serviceTimeout p =
      (d.setHostQ p { d.hostQ p with stack := { e with reported := true } :: rest }).ring 2
        (pack [(portCode p, 21), (e.pri, 9), (e.src, 0)]) (word (d.par secEvents 0x02)) := by
  unfold Dev.serviceTimeout
  dsimp only
  rw [hstack]
  exact if_neg (by simp [hfirst, hon])

theorem Dev.regs_setHostQ (d : Dev) (p : HostPort) (q : HostQ) : (d.setHostQ p q).regs = d.regs := by
  cases p with
  | h0 => rfl
  | h1 => rfl

theorem evrServiceTimeout_rings {e : StackEnt} {rest : List StackEnt} (hstack : (s.dev.hostQ p).stack = e :: rest)
    (hfirst : e.reported = false) (hon : s.dev.par secEvents 0x02 ≠ 0) :
    Completes (.evrServiceTimeout p) s fun t => ∃ x : Dev,
      (x.hostQ p).stack = { e with reported := true } :: rest ∧ (x.hostQ p).pend = (s.dev.hostQ p).pend ∧
      x.regs = s.dev.regs ∧ t = x.ring 2 (pack [(portCode p, 21), (e.pri, 9), (e.src, 0)])
        (word (s.dev.par secEvents 0x02)) := by
  refine completes_of (f := fun d => d.serviceTimeout p) rfl ⟨_, ?_, ?_, ?_, Dev.serviceTimeout_due hstack hfirst hon⟩
  · rw [Dev.hostQ_setHostQ_same]
  · rw [Dev.hostQ_setHostQ_same]
  · rw [Dev.regs_setHostQ]

theorem moderationExpiry_lets (s : State) (p : HostPort) (src : BitVec 9) : Completes (.moderationExpiry p src) s fun t =>
    (t.hostQ p).moderated.contains src.toNat = false ∧ (t.hostQ p).pend = (s.dev.hostQ p).pend ∧ s.dev.leaves t [] := by
  refine completes_of (f := fun d => d.setHostQ p { d.hostQ p with
    moderated := (d.hostQ p).moderated.filter (· != src.toNat) }) rfl ?_
  rw [Dev.hostQ_setHostQ_same]
  exact ⟨by simp, rfl, leaves_setHostQ (s.dev.leaves_refl _) ..⟩

/-- Settles O21: TAKE and DONE by where the priority and the source stand, the other commands each by what it writes. -/
theorem stacksTakeAndComplete : Obligations.StacksTakeAndComplete := by
  intro s p
  refine ⟨fun hrun => ⟨?_, ?_, ?_, ?_, ?_⟩, ?_, ?_, ?_, ?_, ?_⟩
  · exact fun w0 hpri habove => take_pushes hrun hpri habove
  · exact fun w0 hnot => take_faults hrun hnot
  · exact fun value e rest hstack htop => done_pops hrun hstack htop
  · exact fun value e rest hstack hother => done_other_faults hrun hstack hother
  · exact fun value hstack => done_empty_faults hrun hstack
  · exact fun hfrozen w c hc => frozen_ignores hfrozen hc
  · exact fun value => gdis_written s p value
  · exact fun value hgroup hreport h1 h3 => sourceConfigWrite_ordinary p value hgroup hreport h1 h3
  · exact fun e rest hstack hfirst hon => evrServiceTimeout_rings hstack hfirst hon
  · exact fun src => moderationExpiry_lets s p src

end Sys2Proof.Machine
end

section
/-!
SUPPORT. The read pointer of a ring (R342), and what its advance sets going (R361 to R364, R378, R430).
-/

namespace Sys2Proof.Machine

variable {d e : Dev} {s : State} {p : HostPort} {new : Nat}

theorem slotBase_step (p : HostPort) (ptr : Nat) : slotBase p ptr = slotBase p 0 + 4 * (ptr % 1024) := by
  cases p with
  | h0 => simp [slotBase]
  | h1 => simp [slotBase]

theorem Dev.ringWr_lt (d : Dev) (p : HostPort) : d.ringWr p < 2048 := by
  have hlt := d.fld_lt (portFld p EVR_H0_WR_WR)
  rwa [portFld_width] at hlt

theorem Dev.ringRd_lt (d : Dev) (p : HostPort) : d.ringRd p < 2048 := by
  have hlt := d.fld_lt (portFld p EVR_H0_RD_RD)
  rwa [portFld_width] at hlt

theorem Dev.ringRd_setRd (d : Dev) (p : HostPort) (hnew : new < 2048) :
    (d.setFld (portFld p EVR_H0_RD_RD) new).ringRd p = new :=
  (d.fld_setFld_port (by decide) p new).trans (Nat.mod_eq_of_lt hnew)

/-- A write of RD beyond the occupancy is counted in BADPTR. -/
theorem Dev.releaseTo_beyond (h : d.occupancy p < (new + 2048 - d.ringRd p) % 2048) :
    d.releaseTo p new = d.bump (portFld p EVR_H0_CNT_BADPTR) := if_pos h

/-- ALERT# is judged when records of H0 have been released (R430). -/
def Dev.alertJudged (d : Dev) (p : HostPort) : Dev :=
  match p with
  | .h0 => d.judgeAlert
  | .h1 => d

theorem Dev.evr_alertJudged (d : Dev) (p : HostPort) : (d.alertJudged p).evr = d.evr := by
  cases p with
  | h0 => exact d.evr_judgeAlert
  | h1 => rfl

theorem leaves_alertJudged {as : List Nat} (h : d.leaves e as) (ha : TWB_STAT ∈ as) (p : HostPort) :
    d.leaves (e.alertJudged p) as := by
  cases p with
  | h0 => exact leaves_judgeAlert h ha
  | h1 => exact h

theorem Dev.reg_alertJudged (d : Dev) (p : HostPort) {a : Nat} (ha : a ≠ TWB_STAT) : (d.alertJudged p).reg a = d.reg a :=
  (leaves_alertJudged (d.leaves_refl [TWB_STAT]) (List.mem_singleton.2 rfl) p).1 a (mt List.mem_singleton.1 ha)

/-- With no overflow episode and no OVERFLOW record, a write of RD sets it and ALERT# is judged. -/
theorem Dev.releaseTo_calm (hwithin : (new + 2048 - d.ringRd p) % 2048 ≤ d.occupancy p)
    (hepisode : (d.hostQ p).episode = none) (hslot : (d.hostQ p).ovSlot = none) :
    d.releaseTo p new = (d.setFld (portFld p EVR_H0_RD_RD) new).alertJudged p := by
  have hq : (d.setFld (portFld p EVR_H0_RD_RD) new).hostQ p = d.hostQ p := Dev.hostQ_of_evr p (Dev.setFld_evr ..)
  have hend : (d.setFld (portFld p EVR_H0_RD_RD) new).endEpisode p = d.setFld (portFld p EVR_H0_RD_RD) new := by
    simp only [Dev.endEpisode, hq, hepisode]
  unfold Dev.releaseTo
  simp only [if_neg (Nat.not_lt.2 hwithin), hslot, Bool.false_eq_true, if_false, hend, hq, hepisode]
  rfl

theorem near_endEpisode (h : d.Near e) : d.Near (e.endEpisode p) := by
  unfold Dev.endEpisode
  dsimp only
  split
  · exact h
  · split
    · exact h
    · refine near_askBurst (near_logEvent (near_setHostQ ?_))
      split
      · exact near_fillBank h
      · exact h

/-- Of what a write of RD sets going, only ALERT# lies beyond what an event may change. -/
theorem Dev.releaseTo_within (hwithin : (new + 2048 - d.ringRd p) % 2048 ≤ d.occupancy p) :
    ∃ x : Dev, (d.setFld (portFld p EVR_H0_RD_RD) new).Near x ∧ d.releaseTo p new = x.alertJudged p := by
  unfold Dev.releaseTo
  extract_lets _ _ _ _ y z u v
  rw [if_neg (Nat.not_lt.2 hwithin)]
  have hz : y.Near z := by
    unfold z
    split
    · exact near_setHostQ (.rfl y)
    · exact .rfl y
  have hu : y.Near u := near_endEpisode hz
  have hv : y.Near v := by
    unfold v
    split
    · split
      · exact hu
      · exact near_writeOverflow (near_touchTime hu)
    · exact hu
  exact ⟨v, hv, rfl⟩

/-- A write of RD within the occupancy sets it and counts nothing (R342). -/
theorem ringReadPointer_within {value : Word}
    (hwithin : (wGet value 0 11 + 2048 - s.dev.ringRd p) % 2048 ≤ s.dev.occupancy p) :
    Completes (.ringReadPointer p value) s fun t => t.ringRd p = wGet value 0 11 ∧
      t.fld (portFld p EVR_H0_CNT_BADPTR) = s.dev.fld (portFld p EVR_H0_CNT_BADPTR) := by
  obtain ⟨x, hnear, heq⟩ := Dev.releaseTo_within hwithin
  have hreg {a : Nat} (ha : a ≠ TWB_STAT) (hring : a ∉ ringRegs) :
      (x.alertJudged p).reg a = (s.dev.setFld (portFld p EVR_H0_RD_RD) (wGet value 0 11)).reg a :=
    (x.reg_alertJudged p ha).trans (hnear.1 a hring)
  refine completes_of (f := fun d => d.releaseTo p (wGet value 0 11)) rfl ?_
  rw [heq]
  refine ⟨?_, ?_⟩
  · rw [Dev.ringRd, Dev.fld_of_reg (hreg (by cases p <;> decide) (by cases p <;> decide))]
    exact s.dev.ringRd_setRd p (wGet_lt value 0 11)
  · rw [Dev.fld_of_reg (hreg (by cases p <;> decide) (by cases p <;> decide))]
    exact Dev.fld_of_reg (s.dev.reg_setFld_ne _ _ (by cases p <;> decide))

/-- A write of RD beyond the occupancy is counted, and nothing else (R342). -/
theorem ringReadPointer_beyond {value : Word}
    (hbeyond : s.dev.occupancy p < (wGet value 0 11 + 2048 - s.dev.ringRd p) % 2048) :
    Completes (.ringReadPointer p value) s fun t => t.ringRd p = s.dev.ringRd p ∧ t.evr = s.dev.evr ∧
      t.fld (portFld p EVR_H0_CNT_BADPTR) =
        min (s.dev.fld (portFld p EVR_H0_CNT_BADPTR) + 1) (2 ^ EVR_H0_CNT_BADPTR.width - 1) ∧
      s.dev.leaves t [(portFld p EVR_H0_CNT_BADPTR).addr] := by
  refine completes_of (f := fun d => d.releaseTo p (wGet value 0 11)) rfl ?_
  rw [Dev.releaseTo_beyond hbeyond]
  exact ⟨Dev.fld_of_reg (s.dev.reg_bumpBy_ne _ 1 (by cases p <;> decide)), rfl, s.dev.fld_bump_port (by decide) p,
    leaves_bump (s.dev.leaves_refl _) (List.mem_singleton.2 rfl)⟩

/-- Settles O23: the pointers by the width of their fields, the write by whether it lies within the occupancy. -/
theorem readPointerReleases : Obligations.ReadPointerReleases := by
  intro s p
  exact ⟨s.dev.ringWr_lt p, s.dev.ringRd_lt p, rfl, slotBase_step p, fun value =>
    ⟨fun hwithin => ringReadPointer_within hwithin, fun hbeyond => ringReadPointer_beyond hbeyond⟩⟩

end Sys2Proof.Machine
end

section
/-!
SUPPORT. The delivery of records to rings and cores, and the stacks of the cores (R340, R347, R358, R359).
-/

namespace Sys2Proof.Machine

variable {d : Dev} {s : State} {p : HostPort}

/-! A record written into its ring (R339, R340, R347). -/

/-- The machine with a record's four words in the slot at WR, WR advanced, and the record numbered, before `evmon` shows
it. -/
def Dev.recordPut (d : Dev) (p : HostPort) (src pri epoch : Nat) (w1 w2 w3 : Word) : Dev :=
  ((d.fillBank 8 (slotBase p (d.ringWr p)) [recordW0 src pri epoch (d.hostQ p).seq, w1, w2, w3]).setFld
    (portFld p EVR_H0_WR_WR) ((d.ringWr p + 1) % 2048)).setHostQ p { d.hostQ p with seq := ((d.hostQ p).seq + 1) % 32 }

section

variable (d : Dev) (p : HostPort) (src pri epoch : Nat) (w1 w2 w3 : Word)

theorem Dev.writeRecord_printed :
    (d.recordPut p src pri epoch w1 w2 w3).Printed (d.writeRecord p src pri epoch w1 w2 w3) := by
  unfold Dev.writeRecord
  extract_lets _ _ _ b c
  have hc : c = d.recordPut p src pri epoch w1 w2 w3 := rfl
  rw [← hc]
  split
  · exact c.print_printed _
  · exact .rfl c

theorem Dev.hostQ_writeRecord : (d.writeRecord p src pri epoch w1 w2 w3).hostQ p =
    { d.hostQ p with seq := ((d.hostQ p).seq + 1) % 32 } := by
  rw [(d.writeRecord_printed p src pri epoch w1 w2 w3).keeps (·.hostQ p) fun _ _ _ => rfl]
  exact Dev.hostQ_setHostQ_same ..

theorem Dev.ringWr_writeRecord : (d.writeRecord p src pri epoch w1 w2 w3).ringWr p = (d.ringWr p + 1) % 2048 := by
  rw [Dev.ringWr, (d.writeRecord_printed p src pri epoch w1 w2 w3).fld (by cases p <;> decide), Dev.recordPut,
    Dev.fld_of_reg (Dev.reg_setHostQ ..), Dev.fld_setFld_port _ (by decide)]
  exact Nat.mod_mod ..

theorem Dev.ringRd_writeRecord : (d.writeRecord p src pri epoch w1 w2 w3).ringRd p = d.ringRd p := by
  rw [Dev.ringRd, (d.writeRecord_printed p src pri epoch w1 w2 w3).fld (by cases p <;> decide), Dev.recordPut,
    Dev.fld_of_reg (Dev.reg_setHostQ ..), Dev.fld_of_reg (Dev.reg_setFld_ne _ _ _ (by cases p <;> decide)),
    Dev.fld_of_reg (Dev.reg_fillBank ..)]
  rfl

theorem Dev.banks_setHostQ (q : HostQ) : (d.setHostQ p q).banks = d.banks := by
  cases p with
  | h0 => rfl
  | h1 => rfl

theorem Dev.bank_of_banks {d e : Dev} (h : e.banks = d.banks) (b w : Nat) : e.bank b w = d.bank b w := by
  simp only [Dev.bank, h]

/-- The slot at WR holds the record's words in order. -/
theorem Dev.bank_writeRecord {i : Nat} (hi : i < 4) :
    (d.writeRecord p src pri epoch w1 w2 w3).bank 8 (slotBase p (d.ringWr p) + i) =
      [recordW0 src pri epoch (d.hostQ p).seq, w1, w2, w3][i] := by
  have hbanks : (d.writeRecord p src pri epoch w1 w2 w3).banks = (d.recordPut p src pri epoch w1 w2 w3).banks :=
    (d.writeRecord_printed p src pri epoch w1 w2 w3).keeps (·.banks) fun _ _ _ => rfl
  rw [Dev.bank_of_banks hbanks, Dev.recordPut, Dev.bank_of_banks (Dev.banks_setHostQ ..),
    Dev.bank_of_banks (Dev.setFld_banks ..)]
  exact Dev.bank_fillBank (by simp) hi

end

/-! RECORD_DELIVERY (R347). -/

/-- A consumer after a delivery: the source's moderation interval runs, and the source is preferred no longer (R351,
R355). -/
def Dev.delivered (d : Dev) (p : HostPort) (r : Pend) : HostQ :=
  let q := if cfgMod (d.srcCfg r.src) ≠ 0 ∧ ¬ (d.hostQ p).moderated.contains r.src then
    { d.hostQ p with moderated := r.src :: (d.hostQ p).moderated } else d.hostQ p
  { q with prefer := q.prefer.erase r.src }

theorem Dev.delivered_keeps (d : Dev) (p : HostPort) (r : Pend) : (d.delivered p r).pend = (d.hostQ p).pend ∧
    (d.delivered p r).stack = (d.hostQ p).stack ∧ (d.delivered p r).seq = (d.hostQ p).seq := by
  unfold Dev.delivered
  split
  · exact ⟨rfl, rfl, rfl⟩
  · exact ⟨rfl, rfl, rfl⟩

/-- A record that is no pair and no forward is written alone. -/
theorem Dev.deliver_lone {r : Pend} (hpair : r.pairB = none) (horig : r.orig = none) : d.deliver p r =
    ((d.writeRecord p r.src r.pri r.epoch r.w1 r.w2 r.w3).setHostQ p
      ((d.writeRecord p r.src r.pri r.epoch r.w1 r.w2 r.w3).delivered p r)).assertAlert p r.pri := by
  unfold Dev.deliver
  simp only [hpair, horig, Dev.writeForward]
  rfl

/-- A consumer with its record number i on the way to the ring (R347, R351). -/
def Dev.taking (d : Dev) (p : HostPort) (i : Nat) : HostQ :=
  { d.hostQ p with
    pend := (d.hostQ p).pend.eraseIdx i
    prefer := (d.hostQ p).prefer.filter fun s => (d.freeRecordOf p s).isSome }

theorem Dev.deliverNext_due {i : Nat} {r : Pend} (hrings : d.ringsTaken = false) (hnext : d.nextIdx p = some i)
    (hpend : (d.hostQ p).pend[i]? = some r) : d.deliverNext p = (d.setHostQ p (d.taking p i)).deliver p r := by
  unfold Dev.deliverNext
  simp only [hrings, Bool.false_eq_true, if_false, hnext, hpend]
  rfl

theorem Dev.ringWr_setHostQ (d : Dev) (p : HostPort) (q : HostQ) : (d.setHostQ p q).ringWr p = d.ringWr p :=
  Dev.fld_of_reg (d.reg_setHostQ p q _)

theorem Dev.ringRd_setHostQ (d : Dev) (p : HostPort) (q : HostQ) : (d.setHostQ p q).ringRd p = d.ringRd p :=
  Dev.fld_of_reg (d.reg_setHostQ p q _)

/-- What the delivery of a lone record leaves in the ring and of its consumer. -/
theorem Dev.deliver_lone_leaves {r : Pend} (hpair : r.pairB = none) (horig : r.orig = none) :
    ((d.deliver p r).hostQ p).pend = (d.hostQ p).pend ∧ ((d.deliver p r).hostQ p).stack = (d.hostQ p).stack ∧
    ((d.deliver p r).hostQ p).seq = ((d.hostQ p).seq + 1) % 32 ∧
    (∀ i (hi : i < 4), (d.deliver p r).bank 8 (slotBase p (d.ringWr p) + i) =
      [recordW0 r.src r.pri r.epoch (d.hostQ p).seq, r.w1, r.w2, r.w3][i]) ∧
    (d.deliver p r).ringWr p = (d.ringWr p + 1) % 2048 ∧ (d.deliver p r).ringRd p = d.ringRd p := by
  rw [Dev.deliver_lone hpair horig]
  let x := d.writeRecord p r.src r.pri r.epoch r.w1 r.w2 r.w3
  have hx : x.hostQ p = { d.hostQ p with seq := ((d.hostQ p).seq + 1) % 32 } := d.hostQ_writeRecord ..
  obtain ⟨hpend, hstack, hseq⟩ := x.delivered_keeps p r
  obtain ⟨hreg, hbank, -, -⟩ :=
    leaves_assertAlert (Dev.leaves_refl (x.setHostQ p (x.delivered p r)) [TWB_STAT]) (List.mem_singleton.2 rfl) p r.pri
  rw [Dev.hostQ_of_evr p (Dev.evr_assertAlert ..), Dev.hostQ_setHostQ_same]
  refine ⟨?_, ?_, ?_, fun i hi => ?_, ?_, ?_⟩
  · rw [hpend, hx]
  · rw [hstack, hx]
  · rw [hseq, hx]
  · rw [hbank, Dev.bank_of_banks (Dev.banks_setHostQ ..)]
    exact d.bank_writeRecord p _ _ _ _ _ _ hi
  · rw [Dev.ringWr, Dev.fld_of_reg (hreg _ (by cases p <;> decide)), Dev.fld_of_reg (Dev.reg_setHostQ ..)]
    exact d.ringWr_writeRecord ..
  · rw [Dev.ringRd, Dev.fld_of_reg (hreg _ (by cases p <;> decide)), Dev.fld_of_reg (Dev.reg_setHostQ ..)]
    exact d.ringRd_writeRecord ..

theorem recordDelivery_lone {i : Nat} {r : Pend} (hrings : s.dev.ringsTaken = false) (hnext : s.dev.nextIdx p = some i)
    (hat : (s.dev.hostQ p).pend[i]? = some r) (hpair : r.pairB = none) (horig : r.orig = none) :
    Completes (.recordDelivery p) s fun t =>
      (t.hostQ p).pend = (s.dev.hostQ p).pend.eraseIdx i ∧ (t.hostQ p).stack = (s.dev.hostQ p).stack ∧
      t.bank 8 (slotBase p (s.dev.ringWr p)) = recordW0 r.src r.pri r.epoch (s.dev.hostQ p).seq ∧
      t.bank 8 (slotBase p (s.dev.ringWr p) + 1) = r.w1 ∧ t.bank 8 (slotBase p (s.dev.ringWr p) + 2) = r.w2 ∧
      t.bank 8 (slotBase p (s.dev.ringWr p) + 3) = r.w3 ∧ t.ringWr p = (s.dev.ringWr p + 1) % 2048 ∧
      t.ringRd p = s.dev.ringRd p ∧ (t.hostQ p).seq = ((s.dev.hostQ p).seq + 1) % 32 := by
  refine completes_of (f := fun d => d.deliverNext p) rfl ?_
  rw [Dev.deliverNext_due hrings hnext hat]
  obtain ⟨hpend, hstack, hseq, hbank, hwr, hrd⟩ :=
    Dev.deliver_lone_leaves (d := s.dev.setHostQ p (s.dev.taking p i)) (p := p) hpair horig
  rw [Dev.hostQ_setHostQ_same] at hpend hstack hseq
  rw [Dev.ringWr_setHostQ] at hwr
  rw [Dev.ringRd_setHostQ] at hrd
  simp only [Dev.hostQ_setHostQ_same, Dev.ringWr_setHostQ] at hbank
  exact ⟨hpend, hstack, hbank 0 (by decide), hbank 1 (by decide), hbank 2 (by decide), hbank 3 (by decide), hwr, hrd,
    hseq⟩

theorem ringReadPointer_calm {value : Word}
    (hwithin : (wGet value 0 11 + 2048 - s.dev.ringRd p) % 2048 ≤ s.dev.occupancy p)
    (hepisode : (s.dev.hostQ p).episode = none) (hslot : (s.dev.hostQ p).ovSlot = none) :
    Completes (.ringReadPointer p value) s fun t => t.ringRd p = wGet value 0 11 ∧ t.evr = s.dev.evr ∧
      s.dev.leaves t [(portFld p EVR_H0_RD_RD).addr, TWB_STAT] := by
  refine completes_of (f := fun d => d.releaseTo p (wGet value 0 11)) rfl ?_
  rw [Dev.releaseTo_calm hwithin hepisode hslot]
  refine ⟨?_, Dev.evr_alertJudged .., leaves_alertJudged (leaves_setFld (s.dev.leaves_refl _) (by simp)) (by simp) p⟩
  rw [Dev.ringRd, Dev.fld_of_reg (Dev.reg_alertJudged _ p (by cases p <;> decide))]
  exact s.dev.ringRd_setRd p (wGet_lt value 0 11)

/-! CORE_DELIVERY (R358). -/

/-- The machine whose core-group store has given up its record number i. -/
def Dev.unstored (d : Dev) (i src : Nat) : Dev :=
  { d with evr := { d.evr with store := d.evr.store.eraseIdx i, corePrefer := d.evr.corePrefer.erase src } }

theorem Dev.coreDeliver_due {i n : Nat} {r : Pend} (hnext : d.coreNext = some i) (hstored : d.evr.store[i]? = some r)
    (hcore : d.coreFor r.pri = some n) : d.coreDeliver =
      (((d.unstored i r.src).setCore n { d.core n with inbox := (d.core n).inbox ++ [r], asleep := false }).setFld
        EVR_CORE_LAST n).bump (EVR_C_STAT_DELIV n) := by
  unfold Dev.coreDeliver
  simp only [hnext, hstored, hcore]
  rfl

theorem coreDelivery_wakes {i n : Nat} {r : Pend} (hnext : s.dev.coreNext = some i)
    (hstored : s.dev.evr.store[i]? = some r) (hcore : s.dev.coreFor r.pri = some n) (hn : n < 4) :
    Completes .coreDelivery s fun t => t.evr.store = s.dev.evr.store.eraseIdx i ∧
      (n < s.dev.evr.cores.length → (t.core n).inbox = (s.dev.core n).inbox ++ [r] ∧ (t.core n).asleep = false) ∧
      (∀ m, m ≠ n → t.core m = s.dev.core m) ∧ t.fld EVR_CORE_LAST = n ∧
      s.dev.leaves t [EVR_CORE, (EVR_C_STAT_DELIV n).addr] := by
  have hapart : EVR_CORE_LAST.addr ≠ (EVR_C_STAT_DELIV n).addr := by
    simp only [EVR_CORE, EVR_C_STAT]
    omega
  refine completes_of (f := Dev.coreDeliver) rfl ?_
  rw [Dev.coreDeliver_due hnext hstored hcore]
  refine ⟨rfl, fun hlen => ?_, fun m hm => ?_, ?_, ?_⟩
  · rw [Dev.core_of_evr n (Dev.bump_evr ..), Dev.core_of_evr n (Dev.setFld_evr ..),
      Dev.core_setCore_same (d := s.dev.unstored i r.src) hlen]
    exact ⟨rfl, rfl⟩
  · rw [Dev.core_of_evr m (Dev.bump_evr ..), Dev.core_of_evr m (Dev.setFld_evr ..), Dev.core_setCore_ne _ hm]
    rfl
  · rw [Dev.bump, Dev.fld_of_reg (Dev.reg_bumpBy_ne _ _ _ hapart), Dev.fld_setFld_same _ _ _ (by decide)]
    exact Nat.mod_eq_of_lt hn
  · have htaken : s.dev.leaves (s.dev.unstored i r.src) [EVR_CORE, (EVR_C_STAT_DELIV n).addr] :=
      leaves_of (s.dev.leaves_refl _) rfl rfl rfl rfl
    exact leaves_bump (leaves_setFld (leaves_setCore htaken n _) (by simp)) (by simp)

/-! CORE_TAKE and CORE_DONE (R359). -/

section

variable {core : BitVec 2} {src : BitVec 9} {pri : BitVec 4}

/-- A CORE_TAKE above the level pushes on the core's stack, and may take a record from its inbox. -/
theorem exec_coreTake_above (hrun : (s.dev.core core.toNat).frozen = false) (hpri : 1 ≤ pri.toNat)
    (habove : stackLevel (s.dev.core core.toNat).stack < pri.toNat) :
    ∃ inbox : List Pend, exec (.coreTake core src pri) s = s.run fun d => d.setCore core.toNat
      { d.core core.toNat with
        stack := ⟨src.toNat, pri.toNat, false⟩ :: (d.core core.toNat).stack, inbox := inbox } := by
  change ∃ _, execCoreTake core src pri s = _
  unfold execCoreTake
  simp only [State.run_eq]
  rw [if_neg (by simp [hrun]), if_pos ⟨hpri, habove⟩]
  exact ⟨_, rfl⟩

theorem coreTake_pushes (hlen : core.toNat < s.dev.evr.cores.length) (hrun : (s.dev.core core.toNat).frozen = false)
    (hpri : 1 ≤ pri.toNat) (habove : stackLevel (s.dev.core core.toNat).stack < pri.toNat) :
    Completes (.coreTake core src pri) s fun t =>
      (t.core core.toNat).stack = ⟨src.toNat, pri.toNat, false⟩ :: (s.dev.core core.toNat).stack ∧
      (∀ m, m ≠ core.toNat → t.core m = s.dev.core m) ∧ s.dev.leaves t [] := by
  obtain ⟨inbox, hexec⟩ := exec_coreTake_above hrun hpri habove
  refine completes_of hexec ⟨?_, fun m hm => s.dev.core_setCore_ne hm _, leaves_setCore (s.dev.leaves_refl _) ..⟩
  rw [Dev.core_setCore_same hlen]

theorem Dev.core_preferCore (d : Dev) (n src m : Nat) : (d.preferCore n src).core m = d.core m := by
  unfold Dev.preferCore
  split
  · rfl
  · split <;> rfl

theorem leaves_preferCore {e : Dev} {as : List Nat} (h : d.leaves e as) (n src : Nat) :
    d.leaves (e.preferCore n src) as := by
  unfold Dev.preferCore
  split
  · exact h
  · split
    · exact leaves_of h rfl rfl rfl rfl
    · exact h

theorem exec_coreDone_top {e : StackEnt} {rest : List StackEnt} (hrun : (s.dev.core core.toNat).frozen = false)
    (hstack : (s.dev.core core.toNat).stack = e :: rest) (htop : e.src = src.toNat) :
    exec (.coreDone core src) s = s.run fun d =>
      (d.setCore core.toNat { d.core core.toNat with stack := rest }).preferCore core.toNat src.toNat := by
  change execCoreDone core src s = _
  unfold execCoreDone
  simp only [State.run_eq, hrun, Bool.false_eq_true, if_false, hstack, if_pos htop]

theorem coreDone_pops {e : StackEnt} {rest : List StackEnt} (hlen : core.toNat < s.dev.evr.cores.length)
    (hrun : (s.dev.core core.toNat).frozen = false) (hstack : (s.dev.core core.toNat).stack = e :: rest)
    (htop : e.src = src.toNat) : Completes (.coreDone core src) s fun t => (t.core core.toNat).stack = rest ∧
      (∀ m, m ≠ core.toNat → t.core m = s.dev.core m) ∧ s.dev.leaves t [] := by
  refine completes_of (exec_coreDone_top hrun hstack htop) ⟨?_, fun m hm => ?_,
    leaves_preferCore (leaves_setCore (s.dev.leaves_refl _) ..) ..⟩
  · rw [Dev.core_preferCore, Dev.core_setCore_same hlen]
  · rw [Dev.core_preferCore, Dev.core_setCore_ne _ hm]

theorem coreFrozen_ignores {c : Instr} (hfrozen : (s.dev.core core.toNat).frozen = true)
    (hc : c = Instr.coreTake core src pri ∨ c = Instr.coreDone core src) : Completes c s fun t => t = s.dev := by
  have hexec : exec c s = s.run id := by
    rcases hc with rfl | rfl
    · exact congrArg (fun t => Host.Outcome.next { s with dev := t }) (if_pos hfrozen)
    · exact congrArg (fun t => Host.Outcome.next { s with dev := t }) (if_pos hfrozen)
  exact completes_of hexec rfl

end

/-- Settles O22: the delivery to a ring, the read pointer, the delivery to a core, and the stacks of the cores, each by its
command. -/
theorem recordsAreDelivered : Obligations.RecordsAreDelivered := by
  intro s
  refine ⟨?_, ?_, ?_, ?_, ?_, ?_, ?_⟩
  · exact fun p i r hrings hnext hat hpair horig => recordDelivery_lone hrings hnext hat hpair horig
  · exact fun p value hwithin hepisode hslot => ringReadPointer_calm hwithin hepisode hslot
  · exact fun p value hbeyond => ringReadPointer_beyond hbeyond
  · exact fun i r n hnext hstored hcore hn => coreDelivery_wakes hnext hstored hcore hn
  · exact fun core src pri hlen hrun hpri habove => coreTake_pushes hlen hrun hpri habove
  · exact fun core src e rest hlen hrun hstack htop => coreDone_pops hlen hrun hstack htop
  · exact fun core src pri c hfrozen hc => coreFrozen_ignores hfrozen hc

end Sys2Proof.Machine
end

section
/-!
SUPPORT. The time base (R381 to R407): the slew, the tick boundary taken apart into the count, the step, the start of the
interpolation and the judging of the alarm, and what each leaves.
-/

namespace Sys2Proof.Machine

variable {d e : Dev}

/-! The slew in progress (R391, R392). -/

theorem Dev.reg_setSlewRem (d : Dev) (i : Int) : (d.setSlewRem i).reg TIME_SLEWREM = wordI i :=
  (Dev.reg_setFld_ne _ _ _ (by decide)).trans ((Dev.reg_setReg ..).trans (if_pos rfl))

theorem Dev.slewing_setSlewRem (d : Dev) (i : Int) : (d.setSlewRem i).flag TIME_STAT_SLEWING = decide (i ≠ 0) :=
  Dev.flag_setFlag_same _ _ _ (by decide) (by decide)

theorem Dev.time_setSlewRem (d : Dev) (i : Int) : (d.setSlewRem i).time = d.time := by
  rw [Dev.setSlewRem, Dev.setFlag_time, Dev.setReg_time]

theorem leaves_setSlewRem {as : List Nat} (h : d.leaves e as) (hstat : TIME_STAT ∈ as) (hrem : TIME_SLEWREM ∈ as) (i : Int) :
    d.leaves (e.setSlewRem i) as := leaves_setFlag (leaves_setReg h hrem) hstat

/-! The counted value (R381). -/

/-- A number of units within the range of S and C is kept whole. -/
theorem TimeBase.units_setUnits (t : TimeBase) {u : Nat} (h : u < 281474976710656 * 16777216) : (t.setUnits u).units = u := by
  have hsec : u / 16777216 % 281474976710656 = u / 16777216 :=
    Nat.mod_eq_of_lt (Nat.div_lt_of_lt_mul (by rwa [Nat.mul_comm]))
  rw [TimeBase.units, TimeBase.setUnits, hsec]
  exact Nat.div_add_mod' u 16777216

/-- What reads neither seconds nor fraction is as it was before a new counted value. -/
theorem TimeBase.setUnits_keeps {α : Sort*} (f : TimeBase → α)
    (hf : ∀ (t : TimeBase) (sec frac : Nat), f { t with sec := sec, frac := frac } = f t) (t : TimeBase) (u : Nat) :
    f (t.setUnits u) = f t := hf t _ _

/-- A time base put in place by a boundary, at k boundaries of the slew; the interpolation starts anew. -/
def Dev.counted (d : Dev) (t : TimeBase) (k : Nat) : Dev := { d with time := { t with slewCount := k, interp := 0 } }

theorem Dev.counted_time (d : Dev) (t : TimeBase) (k : Nat) : (d.counted t k).time = { t with slewCount := k, interp := 0 } :=
  rfl

/-- What does not read the time base is as before. -/
theorem Dev.counted_keeps {α : Sort*} (f : Dev → α) (hf : ∀ (d : Dev) t, f { d with time := t } = f d) (d : Dev)
    (t : TimeBase) (k : Nat) : f (d.counted t k) = f d := hf d _

theorem Dev.leaves_counted (d : Dev) (t : TimeBase) (k : Nat) (as : List Nat) : d.leaves (d.counted t k) as :=
  leaves_of (d.leaves_refl as) rfl rfl rfl rfl

/-- A boundary at which no slew is adjusted adds 512 units (R381). -/
theorem Dev.countTick_rest (h : d.adjustDue = false) :
    ∃ k, d.countTick = d.counted (d.time.setUnits (d.time.units + 512)) k := by
  simp only [Dev.countTick, h, Bool.false_eq_true, if_false]
  exact ⟨_, rfl⟩

/-- The units that a boundary adds while it adjusts a slew (R391). -/
def adjusted (rem : Int) : Nat := if 0 < rem then 513 else 511

/-- A slew a unit nearer its end. -/
def nearer (rem : Int) : Int := if 0 < rem then rem - 1 else rem + 1

/-- The machine after an adjustment of its slew, before TIME_SLEW_DONE. -/
def Dev.slewed (d : Dev) : Dev :=
  (d.counted (d.time.setUnits (d.time.units + adjusted d.slewRem)) 0).setSlewRem (nearer d.slewRem)

theorem Dev.time_slewed (d : Dev) : d.slewed.time =
    { d.time.setUnits (d.time.units + adjusted d.slewRem) with slewCount := 0, interp := 0 } := Dev.time_setSlewRem ..

theorem Dev.evr_slewed (d : Dev) : d.slewed.evr = d.evr := by
  rw [Dev.slewed, Dev.setSlewRem, Dev.setFlag_evr, Dev.setReg_evr, Dev.counted_keeps (·.evr) fun _ _ => rfl]

theorem Dev.leaves_slewed (d : Dev) : d.leaves d.slewed [TIME_STAT, TIME_SLEWREM] :=
  leaves_setSlewRem (d.leaves_counted ..) (by decide) (by decide) _

/-- The last unit of a slew ends it with TIME_SLEW_DONE, whose payload is the slew's total (R391, R415). -/
theorem Dev.countTick_due (hdue : d.adjustDue = true) : d.countTick =
    if nearer d.slewRem = 0 then d.slewed.ring 211 0 (wordI d.time.slewTotal) else d.slewed := by
  have htotal : d.slewed.time.slewTotal = d.time.slewTotal :=
    (congrArg (·.slewTotal) d.time_slewed).trans
      (TimeBase.setUnits_keeps (·.slewTotal) (fun _ _ _ => rfl) d.time (d.time.units + adjusted d.slewRem))
  rw [← htotal]
  simp only [Dev.countTick, hdue, decide_eq_true_eq, if_true]
  rfl

theorem Dev.countTick_slewNext (d : Dev) : d.countTick.time.slewNext = d.time.slewNext := by
  have hkeeps (u k : Nat) : (d.counted (d.time.setUnits u) k).time.slewNext = d.time.slewNext :=
    (congrArg (·.slewNext) (d.counted_time (d.time.setUnits u) k)).trans
      (TimeBase.setUnits_keeps (·.slewNext) (fun _ _ _ => rfl) d.time u)
  cases hdue : d.adjustDue with
  | true =>
    have hslewed : d.slewed.time.slewNext = d.time.slewNext :=
      (congrArg (·.slewNext) (Dev.time_setSlewRem ..)).trans (hkeeps (d.time.units + adjusted d.slewRem) 0)
    rw [Dev.countTick_due hdue]
    split
    · exact (Dev.ring_time_slewNext ..).trans hslewed
    · exact hslewed
  | false =>
    obtain ⟨k, hcount⟩ := Dev.countTick_rest hdue
    rw [hcount, hkeeps]

theorem Dev.applySlew_none (h : d.time.slewNext = none) : d.applySlew = d := by simp [Dev.applySlew, h]

/-- A slew takes effect: SLEWREM and SLEWING show it, and none waits any more (R392, R393). -/
def Dev.slewTaken (d : Dev) (i : Int) : Dev :=
  { d with time := { d.time with slewNext := none, slewCount := 0, slewTotal := i } }.setSlewRem i

theorem Dev.applySlew_some {i : Int} (h : d.time.slewNext = some i) : d.applySlew = d.slewTaken i := by
  simp only [Dev.applySlew, h]
  rfl

theorem Dev.leaves_slewTaken (d : Dev) (i : Int) : d.leaves (d.slewTaken i) [TIME_STAT, TIME_SLEWREM] :=
  leaves_setSlewRem (leaves_of (d.leaves_refl _) rfl rfl rfl rfl) (by decide) (by decide) i

/-! A step (R388, R389, R395). -/

/-- The registers that a boundary may write beside the alarm's. -/
def timeRegs : List Nat := [TIME_STAT, TIME_SLEWREM, TIME_STEPCNT]

/-- A time base put in place by a step, in a new epoch: no load, step or slew waits any more, and a step flag goes out
(R388, R399). -/
def Dev.timeSet (d : Dev) (t : TimeBase) (epoch : Nat) : Dev :=
  { d with time := { t with
      interp := 0, epoch := epoch, load := none, slewNext := none, slewCount := 0, stepNext := none, stepFlag := true } }

/-- Whether the alarm is late after a step (R404). -/
def Dev.lateNoted (d : Dev) (late : Bool) : Dev := { d with time := { d.time with alarmLate := late } }

/-- What a step shows of itself in the registers: no slew, no LOADPEND, one more step. -/
def Dev.stepShown (d : Dev) : Dev := ((d.setSlewRem 0).setFlag TIME_STAT_LOADPEND false).bump TIME_STEPCNT_STEPS

/-- The machine after a step, before TIME_STEP; `steps` are those that `time stat` prints. -/
def Dev.stepped (d : Dev) (t : TimeBase) (epoch : Nat) (late : Bool) (steps : List (Word × Word)) : Dev :=
  let x := ((d.timeSet t epoch).lateNoted late).stepShown
  { x with time := { x.time with steps := steps } }

theorem Dev.timeStep_eq (d : Dev) (u epoch reason : Nat) : ∃ late steps w1 w2, d.timeStep u epoch reason =
    (d.stepped (d.time.setUnits u) (epoch % 64) late steps).ring 208 w1 w2 := by
  unfold Dev.timeStep
  generalize d.time.setUnits u = t
  generalize epoch % 64 = n
  exact ⟨_, _, _, _, rfl⟩

section

variable (t : TimeBase) (epoch : Nat) (late : Bool) (steps : List (Word × Word))

theorem Dev.stepped_time (d : Dev) : (d.stepped t epoch late steps).time = { t with
    interp := 0, epoch := epoch, load := none, slewNext := none, slewCount := 0, stepNext := none, stepFlag := true,
    alarmLate := late, steps := steps } := rfl

theorem Dev.stepped_evr (d : Dev) : (d.stepped t epoch late steps).evr = d.evr := rfl

theorem Dev.stepped_rem (d : Dev) : (d.stepped t epoch late steps).reg TIME_SLEWREM = 0 :=
  (Dev.reg_bumpBy_ne _ _ _ (by decide)).trans ((Dev.reg_setFld_ne _ _ _ (by decide)).trans (Dev.reg_setSlewRem ..))

theorem Dev.stepped_loadpend (d : Dev) : (d.stepped t epoch late steps).flag TIME_STAT_LOADPEND = false :=
  (Dev.flag_bump_apart _ (by decide) (by decide)).trans (Dev.flag_setFlag_same _ _ _ (by decide) (by decide))

theorem Dev.stepped_steps (d : Dev) : (d.stepped t epoch late steps).fld TIME_STEPCNT_STEPS =
    min (d.fld TIME_STEPCNT_STEPS + 1) (2 ^ TIME_STEPCNT_STEPS.width - 1) := by
  let x := (((d.timeSet t epoch).lateNoted late).setSlewRem 0).setFlag TIME_STAT_LOADPEND false
  have hcount : x.fld TIME_STEPCNT_STEPS = d.fld TIME_STEPCNT_STEPS :=
    (Dev.fld_setFlag_apart _ _ (by decide) (by decide)).trans
      ((Dev.fld_setFlag_apart _ _ (by decide) (by decide)).trans (Dev.fld_setReg_ne _ _ (by decide)))
  rw [← hcount]
  exact Dev.fld_bump_same x _ (by decide)

theorem Dev.leaves_stepped (d : Dev) : d.leaves (d.stepped t epoch late steps) timeRegs := by
  let x := (d.timeSet t epoch).lateNoted late
  have hx : d.leaves x timeRegs := leaves_of (d.leaves_refl _) rfl rfl rfl rfl
  have hshown : d.leaves x.stepShown timeRegs :=
    leaves_bump (leaves_setFlag (leaves_setSlewRem hx (by decide) (by decide) 0) (by decide)) (by decide)
  exact leaves_of hshown rfl rfl rfl rfl

end

/-- What a step of d to a number of units and an epoch leaves in t. -/
structure Dev.StepsTo (d t : Dev) (u epoch : Nat) : Prop where
  sec : t.time.sec = u / 16777216 % 281474976710656
  frac : t.time.frac = u % 16777216
  epoch : t.time.epoch = epoch % 64
  load : t.time.load = none
  slewNext : t.time.slewNext = none
  stepNext : t.time.stepNext = none
  rem : t.reg TIME_SLEWREM = 0
  loadpend : t.flag TIME_STAT_LOADPEND = false
  steps : t.fld TIME_STEPCNT_STEPS = min (d.fld TIME_STEPCNT_STEPS + 1) (2 ^ TIME_STEPCNT_STEPS.width - 1)
  rang : ∃ w1 w2 x, d.rang x 208 w1 w2 ∧ t.evr = x.evr
  leaves : d.leavesRing t timeRegs

theorem Dev.timeStep_stepsTo (d : Dev) (u epoch reason : Nat) : d.StepsTo (d.timeStep u epoch reason) u epoch := by
  obtain ⟨late, steps, w1, w2, heq⟩ := d.timeStep_eq u epoch reason
  rw [heq]
  have htime := Dev.stepped_time (d.time.setUnits u) (epoch % 64) late steps d
  constructor
  case sec => rw [Dev.ring_time_sec, htime, TimeBase.setUnits]
  case frac => rw [Dev.ring_time_frac, htime, TimeBase.setUnits]
  case epoch => rw [Dev.ring_time_epoch, htime]
  case load => rw [Dev.ring_time_load, htime]
  case slewNext => rw [Dev.ring_time_slewNext, htime]
  case stepNext => rw [Dev.ring_time_stepNext, htime]
  case rem => rw [Dev.ring_reg (by decide), Dev.stepped_rem]
  case loadpend => rw [Dev.ring_flag (by decide), Dev.stepped_loadpend]
  case steps => rw [Dev.ring_fld (by decide), Dev.stepped_steps]
  case rang => exact ⟨w1, w2, _, rang_ring (Dev.stepped_evr ..) .., rfl⟩
  case leaves => exact leavesRing_ring (leavesRing_of_leaves (Dev.leaves_stepped ..)) ..

/-- A step of a reason other than 2 is no more than the step (R395, R412). -/
theorem Dev.workerStep_announced (d : Dev) (off : Int) (epoch : Nat) {reason : Nat} (h : reason ≠ 2) :
    d.workerStep off epoch reason = d.timeStep ((d.time.units : Int) + off).toNat epoch reason := if_neg h

/-! The parts of a tick boundary. -/

theorem Console.drain_waits (c : Console) : c.drain.waits = c.waits := by
  unfold Console.drain
  split
  · rfl
  · extract_lets credit
    split
    · rfl
    · split
      · rfl
      · split <;> rfl

theorem Console.refill_waits (c : Console) (k : Nat) : (c.refill k).waits = c.waits := by
  induction k generalizing c with
  | zero => rfl
  | succ k ih =>
    unfold Console.refill
    split
    · rfl
    · split
      · exact ih _
      · rfl

/-- The boundary is counted, and the console's output moves on (R64, R82). -/
def Dev.ticked (d : Dev) : Dev :=
  { d with ticks := d.ticks + 1, con := (if d.ioLive then d.con.drain else d.con).refill 4 }

theorem Dev.leaves_ticked (d : Dev) (as : List Nat) : d.leaves d.ticked as := leaves_of (d.leaves_refl as) rfl rfl rfl rfl

theorem Dev.ticked_waits (d : Dev) : d.ticked.con.waits = d.con.waits := by
  refine (Console.refill_waits ..).trans ?_
  split
  · exact d.con.drain_waits
  · rfl

/-- The machine after a count of 512 units. -/
def Dev.ordinary (d : Dev) (k : Nat) : Dev := d.ticked.counted (d.time.setUnits (d.time.units + 512)) k

theorem Dev.leaves_ordinary (d : Dev) (k : Nat) (as : List Nat) : d.leaves (d.ordinary k) as :=
  leaves_trans (d.leaves_ticked as) (d.ticked.leaves_counted _ k as)

theorem Dev.ordinary_beside {α : Sort*} (f : Dev → α) (hf : ∀ (d : Dev) t, f { d with time := t } = f d) (d : Dev) (k : Nat) :
    f (d.ordinary k) = f d.ticked := Dev.counted_keeps f hf ..

/-- With no slew a boundary adds 512 units. -/
theorem Dev.countTick_idle (h : d.slewRem = 0) : ∃ k, d.ticked.countTick = d.ordinary k :=
  Dev.countTick_rest (d := d.ticked) (by simp [Dev.adjustDue, show d.ticked.slewRem = 0 from h])

theorem Dev.takeLine_none (h : d.con.waits = []) : d.takeLine = d := by simp [Dev.takeLine, h]

/-- The interpolation runs from this boundary on while the fast oscillator runs (R382). -/
def Dev.showFast (d : Dev) : Dev :=
  { d with time := { d.time with fast := d.flag SYS_CLK_FOSC_ON } }.setFlag TIME_STAT_FASTINT (d.flag SYS_CLK_FOSC_ON)

theorem Dev.showFast_time (d : Dev) : d.showFast.time = { d.time with fast := d.flag SYS_CLK_FOSC_ON } := Dev.setFlag_time ..

theorem Dev.showFast_keeps {α : Sort*} (f : Dev → α) (hf : ∀ (d : Dev) r t, f { d with regs := r, time := t } = f d)
    (d : Dev) : f d.showFast = f d := hf d _ _

theorem Dev.reg_showFast (d : Dev) {a : Nat} (h : a ≠ TIME_STAT) : d.showFast.reg a = d.reg a := Dev.reg_setFld_ne _ _ _ h

theorem Dev.flag_showFast (d : Dev) {f : Fld} (h : f.apart TIME_STAT_FASTINT = true) : d.showFast.flag f = d.flag f :=
  Dev.flag_setFlag_apart _ _ (by decide) h

/-- A count leaves what of the time base is neither the value, its interpolation nor the count of the slew. -/
theorem Dev.ordinary_keeps {α : Sort*} (f : TimeBase → α) (hf : ∀ (t : TimeBase) (sec frac k i : Nat) (fast : Bool),
      f { t with sec := sec, frac := frac, slewCount := k, interp := i, fast := fast } = f t) (d : Dev) (k : Nat) :
    f (d.ordinary k).showFast.time = f d.time := by
  have hvalue := TimeBase.setUnits_keeps f (fun t sec frac => hf t sec frac t.slewCount t.interp t.fast) d.time
    (d.time.units + 512)
  rw [Dev.showFast_time, Dev.ordinary, Dev.counted_time, ← hvalue]
  generalize d.time.setUnits (d.time.units + 512) = t
  exact hf t t.sec t.frac k 0 _

theorem Dev.ordinary_units (d : Dev) (k : Nat) (hrange : d.time.units + 512 < 281474976710656 * 16777216) :
    (d.ordinary k).showFast.time.units = d.time.units + 512 := by
  have hsame (t : TimeBase) (fast : Bool) :
      ({ t with slewCount := k, interp := 0, fast := fast } : TimeBase).units = t.units := rfl
  rw [Dev.showFast_time, Dev.ordinary, Dev.counted_time]
  exact (hsame _ _).trans (TimeBase.units_setUnits d.time hrange)

theorem Dev.fastint_showFast (d : Dev) : d.showFast.flag TIME_STAT_FASTINT = d.flag SYS_CLK_FOSC_ON :=
  Dev.flag_setFlag_same _ _ _ (by decide) (by decide)

theorem leaves_showFast {as : List Nat} (h : d.leaves e as) (hstat : TIME_STAT ∈ as) : d.leaves e.showFast as :=
  leaves_setFlag (leaves_of h rfl rfl rfl rfl) hstat

theorem leavesRing_showFast {as : List Nat} (h : d.leavesRing e as) (hstat : TIME_STAT ∈ as) :
    d.leavesRing e.showFast as :=
  leavesRing_trans h (leavesRing_of_leaves (leaves_showFast (e.leaves_refl _) hstat))

theorem Dev.tickBoundary_load {sec frac : Nat} (hload : d.time.load = some (sec, frac)) : d.tickBoundary =
    (d.ticked.timeStep (sec * 16777216 + frac) (d.time.epoch + 1) 0).showFast.judgeAlarm := by
  unfold Dev.tickBoundary
  simp only [hload]
  rfl

section

variable (hload : d.time.load = none)

include hload

theorem Dev.tickBoundary_step {off : Int} {epoch reason : Nat} (hstep : d.time.stepNext = some (off, epoch, reason)) :
    d.tickBoundary = (d.ticked.workerStep (off + 512) epoch reason).showFast.judgeAlarm := by
  unfold Dev.tickBoundary
  simp only [hload, hstep]
  rfl

theorem Dev.tickBoundary_count (hstep : d.time.stepNext = none) :
    d.tickBoundary = d.ticked.countTick.applySlew.showFast.judgeAlarm := by
  unfold Dev.tickBoundary
  simp only [hload, hstep]
  rfl

theorem Dev.tickBoundary_ordinary (hstep : d.time.stepNext = none) (hslew : d.time.slewNext = none) :
    d.tickBoundary = d.ticked.countTick.showFast.judgeAlarm := by
  rw [Dev.tickBoundary_count hload hstep, Dev.applySlew_none (d := d.ticked.countTick)]
  exact d.ticked.countTick_slewNext.trans hslew

end

/-! The alarm (R403, R404). -/

theorem Dev.alarmUnits_of_reg (h : ∀ a ∈ [TIME_ALM_FRAC, TIME_ALM_SECL, TIME_ALM_SECH], e.reg a = d.reg a) :
    e.alarmUnits = d.alarmUnits := by
  simp only [Dev.alarmUnits, Dev.fld, h TIME_ALM_FRAC (by decide), h TIME_ALM_SECL (by decide), h TIME_ALM_SECH (by decide)]

theorem leaves_lateNoted {as : List Nat} (h : d.leaves e as) (late : Bool) : d.leaves (e.lateNoted late) as :=
  leaves_of h rfl rfl rfl rfl

theorem Dev.reg_lateNoted (d : Dev) (late : Bool) (a : Nat) : (d.lateNoted late).reg a = d.reg a := rfl

theorem Dev.alarmReached_lateNoted (d : Dev) (late : Bool) : (d.lateNoted late).alarmReached = d.alarmReached := rfl

theorem Dev.judgeAlarm_disarmed (h : d.flag TIME_ALM_CTRL_ARM = false) : d.judgeAlarm = d := by
  simp [Dev.judgeAlarm, h]

/-- The alarm fired, before TIME_ALARM is raised. -/
def Dev.alarmFired (d : Dev) : Dev :=
  (({ d with time := { d.time with alarmLate := false } }.setFlag TIME_ALM_CTRL_ARM false).setFlag TIME_ALM_CTRL_FIRED
    true).setFlag TIME_ALM_CTRL_LATE d.time.alarmLate

theorem Dev.judgeAlarm_due (harm : d.flag TIME_ALM_CTRL_ARM = true) (hreached : d.alarmReached = true) :
    d.judgeAlarm = d.alarmFired.ring 209 (word d.time.sec) (word (bit d.time.alarmLate)) :=
  if_pos (by simp [harm, hreached])

theorem Dev.alarmFired_shows (d : Dev) : d.alarmFired.flag TIME_ALM_CTRL_ARM = false ∧
    d.alarmFired.flag TIME_ALM_CTRL_FIRED = true ∧ d.alarmFired.flag TIME_ALM_CTRL_LATE = d.time.alarmLate := by
  refine ⟨?_, ?_, Dev.flag_setFlag_same _ _ _ (by decide) (by decide)⟩
  · rw [Dev.alarmFired, Dev.flag_setFlag_apart _ _ (by decide) (by decide), Dev.flag_setFlag_apart _ _ (by decide) (by decide)]
    exact Dev.flag_setFlag_same _ _ _ (by decide) (by decide)
  · rw [Dev.alarmFired, Dev.flag_setFlag_apart _ _ (by decide) (by decide)]
    exact Dev.flag_setFlag_same _ _ _ (by decide) (by decide)

theorem Dev.alarmFired_sec (d : Dev) : d.alarmFired.time.sec = d.time.sec := by
  rw [Dev.alarmFired, Dev.setFlag_time, Dev.setFlag_time, Dev.setFlag_time]

theorem Dev.alarmFired_evr (d : Dev) : d.alarmFired.evr = d.evr := by
  rw [Dev.alarmFired, Dev.setFlag_evr, Dev.setFlag_evr, Dev.setFlag_evr]

theorem leaves_alarmFired {as : List Nat} (h : d.leaves e as) (hctrl : TIME_ALM_CTRL ∈ as) : d.leaves e.alarmFired as :=
  leaves_setFlag (leaves_setFlag (leaves_setFlag (leaves_of h rfl rfl rfl rfl) hctrl) hctrl) hctrl

/-- With no alarm armed, a boundary wakes nothing and its judging changes nothing. -/
theorem Dev.boundary_disarmed (hoff : d.flag TIME_ALM_CTRL_ARM = false) (htick : d.tickBoundary = e.showFast.judgeAlarm)
    (hkeeps : d.leavesRing e timeRegs) : d.boundary = e.showFast := by
  have hoff' : e.showFast.flag TIME_ALM_CTRL_ARM = false := by
    rw [Dev.flag_showFast _ (by decide), Dev.flag, Dev.fld_of_reg (hkeeps.1 _ (by decide) (by decide))]
    exact hoff
  have hboundary : d.boundary = d.tickBoundary := if_neg (by simp [hoff])
  rw [hboundary, htick, Dev.judgeAlarm_disarmed hoff']

/-- Outside HIBERNATE a boundary wakes nothing. -/
theorem Dev.boundary_awake (h : d.tickBoundary.mode ≠ modeHibernate) : d.boundary = d.tickBoundary :=
  if_neg fun ⟨hmode, _⟩ => h hmode


theorem Dev.StepsTo.showFast {t : Dev} {u epoch : Nat} (h : d.StepsTo t u epoch) : d.StepsTo t.showFast u epoch where
  sec := h.sec
  frac := h.frac
  epoch := h.epoch
  load := h.load
  slewNext := h.slewNext
  stepNext := h.stepNext
  rem := (t.reg_showFast (by decide)).trans h.rem
  loadpend := (t.flag_showFast (by decide)).trans h.loadpend
  steps := (Dev.fld_of_reg (t.reg_showFast (by decide))).trans h.steps
  rang := h.rang
  leaves := leavesRing_showFast h.leaves (by decide)

end Sys2Proof.Machine
end

section
/-!
SUPPORT. The commands of the time base (R384 to R407): snapshots, loads, slews, steps, the beacon gap and the alarm.
-/

namespace Sys2Proof.Machine

variable {s : State} {d e : Dev}

/-! A snapshot (R384, R385). -/

/-- Reading the interpolation changes it alone in the time base. -/
theorem Dev.time_touchTime (d : Dev) : ∃ i, d.touchTime.time = { d.time with interp := i } := by
  unfold Dev.touchTime
  split
  · exact ⟨_, rfl⟩
  · exact ⟨_, rfl⟩

theorem Dev.snapshot_of_time (q : Requester) {i : Nat} (h : e.time = { d.time with interp := i }) :
    e.snapshot q = d.snapshot q := by
  simp only [Dev.snapshot, h]

/-- The snapshot of the value as it stands. -/
def TimeBase.shot (t : TimeBase) : Snapshot :=
  ⟨word t.now.2, word t.now.1, word (t.now.1 / 16777216), word t.epoch, word t.frame⟩

theorem Dev.takeSnapshot_same (d : Dev) (rq : Requester) : (d.takeSnapshot rq).snapshot rq = d.touchTime.time.shot := by
  cases rq <;> rfl

theorem Dev.takeSnapshot_other (d : Dev) {q rq : Requester} (h : q ≠ rq) :
    (d.takeSnapshot rq).snapshot q = d.touchTime.snapshot q := by
  cases rq <;> cases q <;> trivial

theorem Dev.takeSnapshot_keeps (d : Dev) (rq : Requester) : (d.takeSnapshot rq).time.now = d.touchTime.time.now ∧
    (d.takeSnapshot rq).time.sec = d.touchTime.time.sec ∧ (d.takeSnapshot rq).time.frac = d.touchTime.time.frac := by
  cases rq <;> exact ⟨rfl, rfl, rfl⟩

theorem Dev.leaves_takeSnapshot (d : Dev) (rq : Requester) : d.leaves (d.takeSnapshot rq) [] := by
  cases rq <;> exact leaves_of (leaves_touchTime d) rfl rfl rfl rfl

theorem timeSnapshot_takes (rq : Requester) : Completes (.timeSnapshot rq) s fun t =>
    t.snapshot rq = ⟨word t.time.now.2, word t.time.now.1, word (t.time.now.1 / 16777216), word s.dev.time.epoch,
      word s.dev.time.frame⟩ ∧ (∀ q, q ≠ rq → t.snapshot q = s.dev.snapshot q) ∧ t.time.sec = s.dev.time.sec ∧
    t.time.frac = s.dev.time.frac ∧ s.dev.leaves t [] := by
  refine completes_of (f := fun d => d.takeSnapshot rq) rfl ?_
  obtain ⟨hnow, hsec, hfrac⟩ := s.dev.takeSnapshot_keeps rq
  obtain ⟨i, htime⟩ := s.dev.time_touchTime
  refine ⟨?_, fun q hq => ?_, ?_, ?_, s.dev.leaves_takeSnapshot rq⟩
  · rw [Dev.takeSnapshot_same, hnow, TimeBase.shot, htime]
  · exact (Dev.takeSnapshot_other _ hq).trans (Dev.snapshot_of_time q htime)
  · rw [hsec, htime]
  · rw [hfrac, htime]

/-! LOAD, SLEW and CANCEL (R388, R392, R407). -/

section

variable (hmain : s.dev.isWorker = false)

include hmain

theorem timeLoad_buffers : Completes .timeLoad s fun t =>
    t.time.load = some (s.dev.fld TIME_SET_SECH_S * 16777216 + s.dev.fld TIME_SET_SECL_S, s.dev.fld TIME_SET_FRAC_F * 512) ∧
    t.time.epoch = s.dev.time.epoch ∧ t.flag TIME_STAT_LOADPEND = true ∧ s.dev.leaves t [TIME_STAT] := by
  refine completes_of (f := Dev.timeLoad) rfl ?_
  rw [Dev.timeLoad, if_neg (by simp [hmain])]
  exact ⟨rfl, rfl, Dev.flag_setFlag_same _ _ _ (by decide) (by decide),
    leaves_setFlag (leaves_of (s.dev.leaves_refl _) rfl rfl rfl rfl) (by decide)⟩

theorem timeSlew_waits (hmin : -67108 ≤ wInt (s.dev.reg TIME_SET_OFS)) (hmax : wInt (s.dev.reg TIME_SET_OFS) ≤ 67108) :
    Completes .timeSlew s fun t => t.time.slewNext = some (wInt (s.dev.reg TIME_SET_OFS)) ∧ s.dev.leaves t [] := by
  refine completes_of (f := Dev.timeSlew) rfl ?_
  rw [Dev.timeSlew, if_neg (by simp [hmain]), if_neg (by omega)]
  exact ⟨rfl, leaves_of (s.dev.leaves_refl _) rfl rfl rfl rfl⟩

theorem timeSlew_refused (hbeyond : wInt (s.dev.reg TIME_SET_OFS) < -67108 ∨ 67108 < wInt (s.dev.reg TIME_SET_OFS)) :
    Completes .timeSlew s fun t => t.time = s.dev.time ∧
      t.fld TIME_CNT_REFUSED = min (s.dev.fld TIME_CNT_REFUSED + 1) (2 ^ TIME_CNT_REFUSED.width - 1) ∧
      s.dev.leaves t [TIME_CNT] := by
  refine completes_of (f := Dev.timeSlew) rfl ?_
  rw [Dev.timeSlew, if_neg (by simp [hmain]), if_pos hbeyond]
  exact ⟨Dev.bump_time .., Dev.fld_bump_same _ _ (by decide), leaves_bump (s.dev.leaves_refl _) (by decide)⟩

end

/-- Settles O25: on a tile that is no worker a CANCEL clears the waiting load and slew, SLEWREM, SLEWING and LOADPEND, and
rings nothing. -/
theorem cancelEndsLoadsAndSlews : Obligations.CancelEndsLoadsAndSlews := by
  intro s hmain
  refine completes_of (f := Dev.timeCancel) rfl ?_
  rw [Dev.timeCancel, if_neg (by simp [hmain])]
  let x : Dev := { s.dev with time := { s.dev.time with load := none, slewNext := none, slewCount := 0 } }
  have hx : s.dev.leaves x [TIME_STAT, TIME_SLEWREM] := leaves_of (s.dev.leaves_refl _) rfl rfl rfl rfl
  refine ⟨Dev.flag_setFlag_same _ _ _ (by decide) (by decide), ?_, ?_, rfl, rfl, rfl, rfl, rfl, rfl,
    leaves_setFlag (leaves_setSlewRem hx (by decide) (by decide) 0) (by decide)⟩
  · exact (Dev.reg_setFld_ne _ _ _ (by decide)).trans (x.reg_setSlewRem 0)
  · exact (Dev.flag_setFlag_apart _ _ (by decide) (by decide)).trans (x.slewing_setSlewRem 0)

/-! A tick boundary with no alarm armed (R381, R388, R391, R392, R395). -/

/-- A command that names what falls due at a boundary is that boundary when it does. -/
theorem completes_boundary {c : Instr} {P : Dev → Prop} {cause : Dev → Bool}
    (hexec : exec c s = s.run fun d => if cause d then d.boundary else d) (hdue : cause s.dev = true)
    (hp : P s.dev.boundary) : Completes c s P :=
  completes_of hexec (by rw [if_pos hdue]; exact hp)

section

variable (hoff : s.dev.flag TIME_ALM_CTRL_ARM = false)

include hoff

theorem timeLoadApply_steps {sec frac : Nat} (hload : s.dev.time.load = some (sec, frac)) (hfrac : frac < 16777216)
    (hsec : sec < 281474976710656) : Completes .timeLoadApply s fun t => t.time.sec = sec ∧ t.time.frac = frac ∧
      t.time.epoch = (s.dev.time.epoch + 1) % 64 ∧ t.time.load = none ∧ t.time.slewNext = none ∧
      t.reg TIME_SLEWREM = 0 ∧ t.flag TIME_STAT_LOADPEND = false ∧
      t.fld TIME_STEPCNT_STEPS = min (s.dev.fld TIME_STEPCNT_STEPS + 1) (2 ^ TIME_STEPCNT_STEPS.width - 1) ∧
      (∃ w1 w2 x, s.dev.rang x 208 w1 w2 ∧ t.evr = x.evr) ∧
      s.dev.leavesRing t [TIME_STAT, TIME_SLEWREM, TIME_STEPCNT] := by
  refine completes_boundary (cause := fun d => d.time.load.isSome) rfl (by simp [hload]) ?_
  have hsteps := s.dev.ticked.timeStep_stepsTo (sec * 16777216 + frac) (s.dev.time.epoch + 1) 0
  rw [Dev.boundary_disarmed hoff (Dev.tickBoundary_load hload) hsteps.leaves]
  have hshown := hsteps.showFast
  refine ⟨hshown.sec.trans ?_, hshown.frac.trans ?_, hshown.epoch, hshown.load, hshown.slewNext, hshown.rem,
    hshown.loadpend, hshown.steps, hshown.rang, hshown.leaves⟩
  · omega
  · omega

variable (hload : s.dev.time.load = none)

include hload

theorem workerTimeStep_steps {off : Int} {epoch reason : Nat} (hstep : s.dev.time.stepNext = some (off, epoch, reason))
    (hreason : reason ≠ 2) : Completes .workerTimeStep s fun t =>
      t.time.sec = (s.dev.time.units + (off + 512)).toNat / 16777216 % 281474976710656 ∧
      t.time.frac = (s.dev.time.units + (off + 512)).toNat % 16777216 ∧ t.time.epoch = epoch % 64 ∧
      t.time.stepNext = none ∧ s.dev.leavesRing t [TIME_STAT, TIME_SLEWREM, TIME_STEPCNT] := by
  refine completes_boundary (cause := fun d => d.time.stepNext.isSome) rfl (by simp [hstep]) ?_
  have hsteps := s.dev.ticked.timeStep_stepsTo ((s.dev.ticked.time.units : Int) + (off + 512)).toNat epoch reason
  have htick := Dev.tickBoundary_step hload hstep
  rw [Dev.workerStep_announced _ _ _ hreason] at htick
  rw [Dev.boundary_disarmed hoff htick hsteps.leaves]
  have hshown := hsteps.showFast
  exact ⟨hshown.sec, hshown.frac, hshown.epoch, hshown.stepNext, hshown.leaves⟩

variable (hstep : s.dev.time.stepNext = none)

include hstep

theorem timeSlewApply_takes (hrem : s.dev.slewRem = 0) {off : Int} (hslew : s.dev.time.slewNext = some off) :
    Completes .timeSlewApply s fun t => t.reg TIME_SLEWREM = wordI off ∧ t.flag TIME_STAT_SLEWING = decide (off ≠ 0) ∧
      t.time.slewNext = none ∧ t.time.frac = (s.dev.time.units + 512) % 16777216 ∧
      s.dev.leaves t [TIME_STAT, TIME_SLEWREM] := by
  refine completes_boundary (cause := fun d => d.time.slewNext.isSome) rfl (by simp [hslew]) ?_
  obtain ⟨k, hcount⟩ := Dev.countTick_idle hrem
  have hnext := s.dev.ticked.countTick_slewNext.trans hslew
  have htick := Dev.tickBoundary_count hload hstep
  rw [Dev.applySlew_some hnext, hcount] at htick
  have hleaves := leaves_trans (s.dev.leaves_ordinary k _) ((s.dev.ordinary k).leaves_slewTaken off)
  rw [Dev.boundary_disarmed hoff htick (leavesRing_of_leaves (leaves_mono hleaves (by decide)))]
  refine ⟨?_, ?_, ?_, ?_, leaves_showFast hleaves (by decide)⟩
  · exact (Dev.reg_showFast _ (by decide)).trans (Dev.reg_setSlewRem ..)
  · exact (Dev.flag_showFast _ (by decide)).trans (Dev.slewing_setSlewRem ..)
  · rfl
  · rfl

variable (hslew : s.dev.time.slewNext = none)

include hslew

theorem boundary_ordinary (hcount : s.dev.ticked.countTick = e) (hkeeps : s.dev.leavesRing e timeRegs) :
    s.dev.boundary = e.showFast := by
  refine Dev.boundary_disarmed hoff ?_ hkeeps
  rw [Dev.tickBoundary_ordinary hload hstep hslew, hcount]

theorem tickBoundary_counts (hrem : s.dev.slewRem = 0) (hwaits : s.dev.con.waits = []) :
    Completes .tickBoundary s fun t => t.time.sec = (s.dev.time.units + 512) / 16777216 % 281474976710656 ∧
      t.time.frac = (s.dev.time.units + 512) % 16777216 ∧ t.time.epoch = s.dev.time.epoch ∧
      t.ticks = s.dev.ticks + 1 ∧ t.flag TIME_STAT_FASTINT = s.dev.flag SYS_CLK_FOSC_ON ∧ t.evr = s.dev.evr ∧
      s.dev.leaves t [TIME_STAT] := by
  refine completes_of (f := fun d => d.boundary.takeLine) rfl ?_
  obtain ⟨k, hcount⟩ := Dev.countTick_idle hrem
  have hbeside {α : Type} (f : Dev → α) (hf : ∀ (d : Dev) r t, f { d with regs := r, time := t } = f d) :
      f (s.dev.ordinary k).showFast = f s.dev.ticked :=
    (Dev.showFast_keeps f hf _).trans (Dev.ordinary_beside f (fun d t => hf d d.regs t) ..)
  have hline := (hbeside (·.con.waits) fun _ _ _ => rfl).trans (s.dev.ticked_waits.trans hwaits)
  rw [boundary_ordinary hoff hload hstep hslew hcount (leavesRing_of_leaves (s.dev.leaves_ordinary k _)),
    Dev.takeLine_none hline]
  refine ⟨rfl, rfl, Dev.ordinary_keeps (·.epoch) (fun _ _ _ _ _ _ => rfl) s.dev k, hbeside (·.ticks) fun _ _ _ => rfl, ?_,
    hbeside (·.evr) fun _ _ _ => rfl, leaves_showFast (s.dev.leaves_ordinary k _) (by decide)⟩
  rw [Dev.fastint_showFast]
  exact Dev.ordinary_beside (·.flag SYS_CLK_FOSC_ON) (fun _ _ => rfl) s.dev k

variable (hdue : s.dev.adjustDue = true)

include hdue

theorem slewAdjust_nearer (hgoes : nearer s.dev.slewRem ≠ 0) : Completes .slewAdjust s fun t =>
    t.time.sec = (s.dev.time.units + adjusted s.dev.slewRem) / 16777216 % 281474976710656 ∧
    t.time.frac = (s.dev.time.units + adjusted s.dev.slewRem) % 16777216 ∧ t.time.slewCount = 0 ∧
    t.reg TIME_SLEWREM = wordI (nearer s.dev.slewRem) ∧ s.dev.leaves t [TIME_STAT, TIME_SLEWREM] := by
  refine completes_boundary (cause := Dev.adjustDue) rfl hdue ?_
  have hcount := (Dev.countTick_due (d := s.dev.ticked) hdue).trans (if_neg hgoes)
  have hleaves := leaves_trans (s.dev.leaves_ticked _) s.dev.ticked.leaves_slewed
  rw [boundary_ordinary hoff hload hstep hslew hcount (leavesRing_of_leaves (leaves_mono (Dev.leaves_slewed _) (by decide)))]
  rw [Dev.showFast_time, Dev.time_slewed]
  exact ⟨rfl, rfl, rfl, (Dev.reg_showFast _ (by decide)).trans (Dev.reg_setSlewRem ..), leaves_showFast hleaves (by decide)⟩

theorem slewAdjust_ends (hlast : nearer s.dev.slewRem = 0) : Completes .slewAdjust s fun t =>
    t.reg TIME_SLEWREM = 0 ∧ t.flag TIME_STAT_SLEWING = false ∧
    (∃ x : Dev, s.dev.rang x 211 0 (wordI s.dev.time.slewTotal) ∧ t.evr = x.evr) ∧
    s.dev.leavesRing t [TIME_STAT, TIME_SLEWREM] := by
  refine completes_boundary (cause := Dev.adjustDue) rfl hdue ?_
  have hcount := (Dev.countTick_due (d := s.dev.ticked) hdue).trans (if_pos hlast)
  have hleaves := leavesRing_ring (leavesRing_of_leaves s.dev.ticked.leaves_slewed) 211 0
    (wordI s.dev.ticked.time.slewTotal)
  rw [boundary_ordinary hoff hload hstep hslew hcount (leavesRing_mono hleaves (by decide))]
  refine ⟨?_, ?_, ⟨_, rang_ring s.dev.ticked.evr_slewed .., rfl⟩, leavesRing_showFast hleaves (by decide)⟩
  · rw [Dev.reg_showFast _ (by decide), Dev.ring_reg (by decide), Dev.slewed, Dev.reg_setSlewRem]
    exact congrArg wordI hlast
  · rw [Dev.flag_showFast _ (by decide), Dev.ring_flag (by decide), Dev.slewed, Dev.slewing_setSlewRem]
    exact decide_eq_false (not_not_intro hlast)

end

/-! The beacon gap (R398). -/

theorem beaconGap_unlocks (hworker : s.dev.isWorker = true) (hlocked : s.dev.flag TIME_STAT_LOCKED = true) :
    Completes .beaconGap s fun t => t.flag TIME_STAT_LOCKED = false ∧ s.dev.rang t 210 0 (s.dev.reg TIME_OFS) ∧
      s.dev.leavesRing t [TIME_STAT] := by
  refine completes_of (f := fun d => if d.isWorker && d.flag TIME_STAT_LOCKED then
    (d.setFlag TIME_STAT_LOCKED false).ring 210 0 (d.reg TIME_OFS) else d) rfl ?_
  rw [if_pos (by simp [hworker, hlocked])]
  refine ⟨?_, rang_ring (Dev.setFlag_evr ..) ..,
    leavesRing_ring (leavesRing_setFlag (leavesRing_of_leaves (s.dev.leaves_refl _)) (by decide)) ..⟩
  rw [Dev.ring_flag (by decide)]
  exact Dev.flag_setFlag_same _ _ _ (by decide) (by decide)

/-! The alarm armed and rewritten (R404). -/

/-- A field that a write neither stores nor clears reads as before (R11, R14). -/
theorem Dev.fld_storeReg_kept (d : Dev) (f : Fld) (v : Word)
    (hkept : ∀ i < f.width, (rwMask f.addr).getLsbD (f.lsb + i) = false ∧
      (w1cMask f.addr &&& v).getLsbD (f.lsb + i) = false) : (d.storeReg f.addr v).fld f = d.fld f := by
  rw [Dev.storeReg, Dev.fld_setReg_same]
  apply Nat.eq_of_testBit_eq
  intro i
  rw [Dev.fld, wGet_testBit, wGet_testBit]
  by_cases hi : i < f.width
  · obtain ⟨hrw, hw1c⟩ := hkept i hi
    rw [BitVec.getLsbD_or, BitVec.getLsbD_and, BitVec.getLsbD_and, BitVec.getLsbD_and, BitVec.getLsbD_not,
      BitVec.getLsbD_not, hrw, hw1c]
    simp only [Bool.not_false, Bool.and_true, Bool.and_false, Bool.or_false]
    by_cases hbit : f.lsb + i < 24
    · simp [hbit]
    · simp [BitVec.getLsbD_of_ge _ _ (Nat.le_of_not_lt hbit)]
  · simp [hi]

theorem alarmArm_arms : Completes .alarmArm s fun t => t.flag TIME_ALM_CTRL_ARM = true ∧
    t.time.alarmLate = s.dev.alarmReached ∧ t.flag TIME_ALM_CTRL_FIRED = s.dev.flag TIME_ALM_CTRL_FIRED ∧
    s.dev.leaves t [TIME_ALM_CTRL] := by
  refine completes_of (f := fun d => d.writeAlarmCtrl 1#24) rfl ?_
  let x := s.dev.storeReg TIME_ALM_CTRL 1#24
  have hx : s.dev.leaves x [TIME_ALM_CTRL] := leaves_storeReg (s.dev.leaves_refl _) (by decide)
  have harm : x.flag TIME_ALM_CTRL_ARM = true := Dev.flag_storeReg s.dev TIME_ALM_CTRL_ARM 1#24 (by decide)
  have hunits : x.alarmUnits = s.dev.alarmUnits := Dev.alarmUnits_of_reg fun a ha => hx.1 a (by revert a; decide)
  refine ⟨harm, ?_, ?_, leaves_lateNoted hx _⟩
  · show (x.flag TIME_ALM_CTRL_ARM && x.alarmReached) = s.dev.alarmReached
    rw [harm, Bool.true_and, Dev.alarmReached, hunits]
    rfl
  · exact congrArg (· != 0) (Dev.fld_storeReg_kept s.dev TIME_ALM_CTRL_FIRED 1#24 (by decide))

/-- The alarm's value holds no bit that a 1 clears. -/
theorem w1cMask_alarmValue : ∀ part : BitVec 2, part ≠ 3 → w1cMask (TIME_ALM_FRAC + part.toNat) = 0#24 := by decide

theorem alarmValueWrite_judges (part : BitVec 2) (value : Word) (hpart : part ≠ 3) :
    Completes (.alarmValueWrite part value) s fun t =>
      t.reg (TIME_ALM_FRAC + part.toNat) = (s.dev.reg (TIME_ALM_FRAC + part.toNat) &&& ~~~ rwMask (TIME_ALM_FRAC + part.toNat)) |||
        (value &&& rwMask (TIME_ALM_FRAC + part.toNat)) ∧
      (s.dev.flag TIME_ALM_CTRL_ARM = true → t.time.alarmLate = t.alarmReached) ∧
      s.dev.leaves t [TIME_ALM_FRAC + part.toNat] := by
  refine completes_of (f := fun d => if part = 3 then d else d.writeAlarmValue (TIME_ALM_FRAC + part.toNat) value) rfl ?_
  have hapart : TIME_ALM_CTRL ≠ TIME_ALM_FRAC + part.toNat := by revert part; decide
  have hw1c := w1cMask_alarmValue part hpart
  generalize TIME_ALM_FRAC + part.toNat = a at hapart hw1c ⊢
  rw [if_neg hpart]
  have hreg : (s.dev.storeReg a value).reg a = (s.dev.reg a &&& ~~~ rwMask a) ||| (value &&& rwMask a) := by
    rw [Dev.storeReg, Dev.reg_setReg, if_pos rfl, hw1c, BitVec.zero_and, BitVec.not_zero, BitVec.and_allOnes]
  have harm : (s.dev.storeReg a value).flag TIME_ALM_CTRL_ARM = s.dev.flag TIME_ALM_CTRL_ARM :=
    congrArg (· != 0) (Dev.fld_of_reg (Dev.reg_storeReg_ne _ _ hapart))
  have hleaves : s.dev.leaves (s.dev.storeReg a value) [a] := leaves_storeReg (s.dev.leaves_refl _) (by simp)
  cases hctrl : s.dev.flag TIME_ALM_CTRL_ARM with
  | true =>
    have hwrite : s.dev.writeAlarmValue a value = (s.dev.storeReg a value).lateNoted (s.dev.storeReg a value).alarmReached :=
      if_pos (harm.trans hctrl)
    rw [hwrite]
    exact ⟨(Dev.reg_lateNoted ..).trans hreg, fun _ => (Dev.alarmReached_lateNoted ..).symm, leaves_lateNoted hleaves _⟩
  | false =>
    have hwrite : s.dev.writeAlarmValue a value = s.dev.storeReg a value := if_neg (by simp [harm, hctrl])
    rw [hwrite]
    exact ⟨hreg, nofun, hleaves⟩

/-! TIME_ALARM (R403, R404). -/

/-- The machine at a boundary with no slew, as the alarm is judged: 512 units later, the alarm as it was. -/
theorem Dev.ordinary_alarm (d : Dev) (k : Nat) (hrange : d.time.units + 512 < 281474976710656 * 16777216) :
    let x := (d.ordinary k).showFast
    x.time.units = d.time.units + 512 ∧ x.time.alarmLate = d.time.alarmLate ∧ x.alarmUnits = d.alarmUnits ∧
      x.flag TIME_ALM_CTRL_ARM = d.flag TIME_ALM_CTRL_ARM := by
  have hregs := (leaves_showFast (d.leaves_ordinary k [TIME_STAT]) (by decide)).1
  exact ⟨d.ordinary_units k hrange, Dev.ordinary_keeps (·.alarmLate) (fun _ _ _ _ _ _ => rfl) d k,
    Dev.alarmUnits_of_reg fun a ha => hregs a (by revert a; decide),
    congrArg (· != 0) (Dev.fld_of_reg (hregs _ (by decide)))⟩

theorem timeAlarm_fires (harm : s.dev.flag TIME_ALM_CTRL_ARM = true) (hmode : s.dev.mode ≠ modeHibernate)
    (hload : s.dev.time.load = none) (hstep : s.dev.time.stepNext = none) (hslew : s.dev.time.slewNext = none)
    (hrem : s.dev.slewRem = 0) (hreached : s.dev.alarmUnits ≤ s.dev.time.units + 512)
    (hrange : s.dev.time.units + 512 < 281474976710656 * 16777216) : Completes .timeAlarm s fun t =>
      t.flag TIME_ALM_CTRL_ARM = false ∧ t.flag TIME_ALM_CTRL_FIRED = true ∧
      t.flag TIME_ALM_CTRL_LATE = s.dev.time.alarmLate ∧
      s.dev.rang t 209 (word t.time.sec) (word (bit s.dev.time.alarmLate)) ∧
      s.dev.leavesRing t [TIME_STAT, TIME_ALM_CTRL] := by
  obtain ⟨k, hcount⟩ := Dev.countTick_idle hrem
  obtain ⟨hunits, hlate, halarm, harmed⟩ := s.dev.ordinary_alarm k hrange
  have hevr : (s.dev.ordinary k).showFast.evr = s.dev.evr :=
    (Dev.showFast_keeps (·.evr) (fun _ _ _ => rfl) _).trans (Dev.ordinary_beside (·.evr) (fun _ _ => rfl) ..)
  have hx : s.dev.leaves (s.dev.ordinary k).showFast [TIME_STAT, TIME_ALM_CTRL] :=
    leaves_showFast (s.dev.leaves_ordinary k _) (by decide)
  have htick := (Dev.tickBoundary_ordinary hload hstep hslew).trans (by rw [hcount])
  generalize (s.dev.ordinary k).showFast = x at *
  rw [Dev.judgeAlarm_due (harmed.trans harm) (decide_eq_true (by rw [hunits, halarm]; exact hreached)), hlate] at htick
  have hleaves := leavesRing_ring (leavesRing_of_leaves (leaves_alarmFired hx (by decide))) 209 (word x.time.sec)
    (word (bit s.dev.time.alarmLate))
  obtain ⟨hoff, hfired, hshown⟩ := x.alarmFired_shows
  have hawake : s.dev.tickBoundary.mode ≠ modeHibernate := by
    rw [htick, mode_of_pwrStat (hleaves.1 _ (by decide) (by decide))]
    exact hmode
  have hboundary := (Dev.boundary_awake hawake).trans htick
  have hdisarmed : s.dev.boundary.flag TIME_ALM_CTRL_ARM = false := by rw [hboundary, Dev.ring_flag (by decide), hoff]
  refine completes_of (f := fun d => if d.flag TIME_ALM_CTRL_ARM && !d.boundary.flag TIME_ALM_CTRL_ARM then d.boundary else d)
    rfl ?_
  rw [if_pos (by simp [harm, hdisarmed]), hboundary]
  refine ⟨?_, ?_, ?_, ?_, hleaves⟩
  · rw [Dev.ring_flag (by decide), hoff]
  · rw [Dev.ring_flag (by decide), hfired]
  · rw [Dev.ring_flag (by decide), hshown, hlate]
  · rw [Dev.ring_time_sec, Dev.alarmFired_sec]
    exact rang_ring (x.alarmFired_evr.trans hevr) ..

/-- A slew of more than one unit is not at its end. -/
theorem nearer_up {rem : Int} (h : 1 < rem) : adjusted rem = 513 ∧ nearer rem = rem - 1 ∧ nearer rem ≠ 0 := by
  have hnearer : nearer rem = rem - 1 := if_pos (by omega)
  exact ⟨if_pos (by omega), hnearer, by omega⟩

theorem nearer_down {rem : Int} (h : rem < -1) : adjusted rem = 511 ∧ nearer rem = rem + 1 ∧ nearer rem ≠ 0 := by
  have hnearer : nearer rem = rem + 1 := if_neg (by omega)
  exact ⟨if_neg (by omega), hnearer, by omega⟩

theorem nearer_last {rem : Int} (h : rem = 1 ∨ rem = -1) : nearer rem = 0 := by
  rcases h with rfl | rfl
  · rfl
  · rfl

/-- Settles O24: each command of the time base by what it does, those of a tick boundary, which are one event (log entry 8),
by what is due at it. -/
theorem timeBaseCountsAndSteps : Obligations.TimeBaseCountsAndSteps := by
  intro s
  refine ⟨fun rq => timeSnapshot_takes rq, fun hmain => timeLoad_buffers hmain, ?_, ?_, fun hoff => ⟨?_, ?_, ?_, ?_⟩,
    fun hworker hlocked => beaconGap_unlocks hworker hlocked, alarmArm_arms,
    fun part value hpart => alarmValueWrite_judges part value hpart, ?_⟩
  · rintro hmain _ rfl hmin hmax
    exact timeSlew_waits hmain hmin hmax
  · rintro hmain _ rfl hbeyond
    exact timeSlew_refused hmain hbeyond
  · intro hload hstep hslew
    refine ⟨fun hrem hwaits => tickBoundary_counts hoff hload hstep hslew hrem hwaits, fun hdue => ⟨fun hup => ?_,
      fun hdown => ?_, fun hone => slewAdjust_ends hoff hload hstep hslew hdue (nearer_last hone)⟩⟩
    · obtain ⟨hadds, hnearer, hgoes⟩ := nearer_up hup
      have hadjusts := slewAdjust_nearer hoff hload hstep hslew hdue hgoes
      rwa [hadds, hnearer] at hadjusts
    · obtain ⟨hadds, hnearer, hgoes⟩ := nearer_down hdown
      have hadjusts := slewAdjust_nearer hoff hload hstep hslew hdue hgoes
      rwa [hadds, hnearer] at hadjusts
  · exact fun hload hstep hrem off hslew => timeSlewApply_takes hoff hload hstep hrem hslew
  · exact fun sec frac hload hfrac hsec => timeLoadApply_steps hoff hload hfrac hsec
  · exact fun off epoch reason hload hstep hreason => workerTimeStep_steps hoff hload hstep hreason
  · exact fun harm hmode hload hstep hslew hrem hreached hrange =>
      timeAlarm_fires harm hmode hload hstep hslew hrem hreached hrange

end Sys2Proof.Machine
end

section
/-!
SUPPORT. A call for a resync that is pending stays pending whatever event is raised: of RSPEND an event can only set it (R310,
R344).
-/

namespace Sys2Proof.Machine

variable {d e : Dev}

/-- A resync burst is called for (TRK_RPT_STAT.RSPEND, R310). -/
def Dev.resyncDue (d : Dev) : Prop := d.flag TRK_RPT_STAT_RSPEND = true

theorem resyncDue_of_reg (h : d.resyncDue) (hreg : e.reg TRK_RPT_STAT = d.reg TRK_RPT_STAT) : e.resyncDue := by
  rwa [Dev.resyncDue, Dev.flag, Dev.fld_of_reg (d := d) hreg]

theorem resyncDue_setFld (h : d.resyncDue) {f : Fld} (v : Nat) (hf : TRK_RPT_STAT ≠ f.addr) : (d.setFld f v).resyncDue :=
  resyncDue_of_reg h (d.reg_setFld_ne f v hf)

theorem resyncDue_setHostQ (h : d.resyncDue) (p : HostPort) (q : HostQ) : (d.setHostQ p q).resyncDue :=
  resyncDue_of_reg h (d.reg_setHostQ p q _)

theorem resyncDue_fillBank (h : d.resyncDue) (b w : Nat) (vs : List Word) : (d.fillBank b w vs).resyncDue := by
  induction vs generalizing d w with
  | nil => exact h
  | cons v vs ih => exact ih (d := d.setBank b w v) h _

theorem resyncDue_print (h : d.resyncDue) (l : OutLine) : (d.print l).resyncDue :=
  resyncDue_of_reg h ((d.print_printed l).2 _ (by decide))

theorem resyncDue_hostWake (h : d.resyncDue) : d.hostWake.resyncDue := by
  unfold Dev.hostWake
  split
  · exact resyncDue_setFld (resyncDue_setFld (f := PWR_HOST_ASLEEP) h _ (by decide)) _ (by decide)
  · exact h

theorem resyncDue_remoteWake (h : d.resyncDue) (src : Nat) : (d.remoteWake src).resyncDue := by
  unfold Dev.remoteWake
  split
  · exact resyncDue_setFld (f := USB_RWK_SRC) h _ (by decide)
  · exact h

theorem resyncDue_admitWake (h : d.resyncDue) (p : HostPort) (src : Nat) (wake : Bool) :
    (d.admitWake p src wake).resyncDue := by
  unfold Dev.admitWake
  split
  · cases p with
    | h0 => exact resyncDue_hostWake h
    | h1 => exact resyncDue_remoteWake (resyncDue_hostWake h) src
  · exact h

theorem resyncDue_writeRecord (h : d.resyncDue) (p : HostPort) (src pri epoch : Nat) (w1 w2 w3 : Word) :
    (d.writeRecord p src pri epoch w1 w2 w3).resyncDue := by
  unfold Dev.writeRecord
  extract_lets q wr a b c
  have hc : c.resyncDue :=
    resyncDue_setHostQ (resyncDue_setFld (resyncDue_fillBank h ..) _ (by cases p <;> decide)) ..
  split
  · exact resyncDue_print hc _
  · exact hc

theorem resyncDue_bumpDisc (h : d.resyncDue) (p : HostPort) (n : Nat) :
    (d.bumpBy (portFld p EVR_H0_DISC_COUNT) n).resyncDue :=
  resyncDue_setFld h _ (by cases p <;> decide)

theorem resyncDue_refuseRecord (h : d.resyncDue) (p : HostPort) (pri n : Nat) : (d.refuseRecord p pri n).resyncDue := by
  have hcounted := resyncDue_bumpDisc h p n
  unfold Dev.refuseRecord
  extract_lets b old r ep c
  split
  · have hbegun : c.resyncDue := resyncDue_setHostQ hcounted ..
    split
    · exact resyncDue_admitWake (resyncDue_setHostQ (resyncDue_writeRecord hbegun ..) ..) ..
    · exact hbegun
  · extract_lets ep c
    have hgone : c.resyncDue := resyncDue_setHostQ hcounted ..
    split
    · exact resyncDue_fillBank hgone ..
    · exact hgone

theorem Dev.askBurst_resyncDue (d : Dev) : d.askBurst.resyncDue := Dev.flag_setFlag_same _ _ _ (by decide) (by decide)

theorem resyncDue_offer (h : d.resyncDue) (p : HostPort) (r : Pend) (wake : Bool) : (d.offer p r wake).resyncDue := by
  unfold Dev.offer
  split
  · exact h
  · split
    · extract_lets
      split
      · exact Dev.askBurst_resyncDue _
      · exact resyncDue_admitWake (resyncDue_setHostQ h ..) ..
    · exact resyncDue_refuseRecord h ..

theorem resyncDue_refuseTaken (h : d.resyncDue) (p : HostPort) (n : Nat) : (d.refuseTaken p n).resyncDue := by
  unfold Dev.refuseTaken
  split
  · exact resyncDue_setHostQ (resyncDue_bumpDisc h p n) ..
  · exact h

theorem resyncDue_forwardRecord (h : d.resyncDue) (w0 w1 w2 w3 : Word) : (d.forwardRecord w0 w1 w2 w3).resyncDue := by
  unfold Dev.forwardRecord
  split
  · exact h
  · exact h

theorem resyncDue_ite (c : Prop) [Decidable c] {a b : Dev} (ha : a.resyncDue) (hb : b.resyncDue) :
    (if c then a else b).resyncDue := by
  split
  · exact ha
  · exact hb

theorem resyncDue_hostRecord (h : d.resyncDue) (at_ : Stamp) (src : Nat) (w1 w2 : Word) (pairB orig : Option (Word × Word)) :
    (d.hostRecord at_ src w1 w2 pairB orig).resyncDue := by
  unfold Dev.hostRecord
  extract_lets cfg r counted woken taken offered
  have hcounted : counted.resyncDue := resyncDue_setFld h _ (by decide)
  have hwoken : woken.resyncDue := resyncDue_ite _ (resyncDue_hostWake hcounted) hcounted
  have htaken : taken.resyncDue := resyncDue_ite _ (resyncDue_refuseTaken hcounted ..) hcounted
  have hoffered : offered.resyncDue := resyncDue_ite _ (resyncDue_offer hcounted ..) hcounted
  refine resyncDue_ite _ h (resyncDue_ite _ ?worker (resyncDue_ite _ ?taken ?offered))
  case worker => exact resyncDue_ite _ hwoken (resyncDue_forwardRecord hwoken ..)
  case taken => exact resyncDue_ite _ (resyncDue_refuseTaken htaken ..) htaken
  case offered => exact resyncDue_ite _ (resyncDue_offer hoffered ..) hoffered

/-- A host-group event leaves a resync that is called for still called for. -/
theorem resyncDue_ring (h : d.resyncDue) {src : Nat} (hsrc : src ≠ 0) (hgroup : coreSource src = false) (w1 w2 : Word) :
    (d.ring src w1 w2).resyncDue := by
  by_cases hstep : d.pwr.step < 5
  · rw [Dev.ring_early hsrc hstep]
    exact resyncDue_of_reg h (d.sameRouter_touchTime.reg _ (by decide))
  · obtain ⟨e, at_, hsame, -, hring⟩ := Dev.ring_host hsrc (Nat.le_of_not_lt hstep) hgroup w1 w2
    rw [hring]
    exact resyncDue_hostRecord (resyncDue_of_reg h (hsame.reg _ (by decide))) ..

end Sys2Proof.Machine
end

section
/-!
SUPPORT. Requests on EP0 (R463 to R467, R474): a request that is served ends with data, with nothing or with a STALL, and what
else it changes.
-/

namespace Sys2Proof.Machine

variable {s : State} {d e : Dev} {c : Instr}

/-! How a request ends (R465). -/

/-- A device that answers tokens serves a request. -/
theorem completes_request {f : Dev → Dev} {P : Dev → Prop} (hanswers : s.dev.usbAnswers = true)
    (hexec : exec c s = s.request f) (hp : P (f s.dev)) : Completes c s P :=
  completes_of (f := fun d => if d.usbAnswers then f d else d) hexec (by rwa [if_pos hanswers])

theorem leaves_answer {as : List Nat} (h : d.leaves e as) (data : Option (List Byte)) : d.leaves (e.answer data) as :=
  leaves_of h rfl rfl rfl rfl

/-- A request answered with data, cut to wLength, changes nothing in the registers. -/
theorem completes_reply (f : Dev → Dev) {data : List Byte} {len : Nat} (hanswers : s.dev.usbAnswers = true)
    (hexec : exec c s = s.request f) (hf : f s.dev = s.dev.reply data len) :
    Completes c s fun t => t.usb.ep0 = some (data.take len) ∧ s.dev.leaves t [] := by
  refine completes_request hanswers hexec ?_
  rw [hf]
  exact ⟨rfl, leaves_answer (s.dev.leaves_refl _) _⟩

/-- A request that is stalled changes nothing else. -/
theorem completes_stall (f : Dev → Dev) (hanswers : s.dev.usbAnswers = true) (hexec : exec c s = s.request f)
    (hf : f s.dev = s.dev.stall) : Completes c s fun t => t.usb = { s.dev.usb with ep0 := none } ∧ s.dev.leaves t [] := by
  refine completes_request hanswers hexec ?_
  rw [hf]
  exact ⟨rfl, leaves_answer (s.dev.leaves_refl _) _⟩

/-! Requests to the device (R463, R465). -/

/-- SET_FEATURE and CLEAR_FEATURE of remote wakeup (R465). -/
theorem remoteWakeup_sets (hanswers : s.dev.usbAnswers = true) (hmay : s.dev.par secHost 0x14 = 1) {index : BitVec 16}
    {b : Bool} (hexec : exec c s = s.request fun d => d.setFeature 0 1 index.toNat b) :
    Completes c s fun t => t.flag USB_STAT_RWKEN = b ∧ t.usb.ep0 = some [] ∧ s.dev.leaves t [USB_STAT] := by
  refine completes_request hanswers hexec ?_
  rw [Dev.setFeature, if_pos ⟨rfl, rfl, hmay⟩]
  exact ⟨Dev.flag_setFlag_same s.dev _ b (by decide) (by decide), rfl,
    leaves_answer (leaves_setFlag (s.dev.leaves_refl _) (by decide)) _⟩

/-- SET_ADDRESS of 1 to 127 before a configuration (R465). -/
theorem setAddress_takes (hanswers : s.dev.usbAnswers = true) {value : BitVec 16} (hmax : value.toNat < 128)
    (hmin : value.toNat ≠ 0) (hstate : s.dev.usbState ≠ usbConfigured) : Completes (.setAddress value) s fun t =>
      t.fld USB_STAT_ADDR = value.toNat ∧ t.usbState = usbAddress ∧ t.usb.ep0 = some [] ∧ s.dev.leaves t [USB_STAT] := by
  refine completes_request (f := fun d => d.setAddress value.toNat) hanswers rfl ?_
  rw [Dev.setAddress, if_neg (by omega), if_neg hmin]
  refine ⟨?_, Dev.fld_setFld_same _ USB_STAT_STATE usbAddress (by decide), rfl,
    leaves_answer (leaves_setFld (leaves_setFld (s.dev.leaves_refl _) (by decide)) (by decide)) _⟩
  calc ((s.dev.setFld USB_STAT_ADDR value.toNat).setFld USB_STAT_STATE usbAddress).fld USB_STAT_ADDR
      = (s.dev.setFld USB_STAT_ADDR value.toNat).fld USB_STAT_ADDR := Dev.fld_setFld_apart _ _ (by decide) (by decide)
    _ = value.toNat % 2 ^ 7 := Dev.fld_setFld_same _ _ _ (by decide)
    _ = value.toNat := Nat.mod_eq_of_lt hmax

/-! SET_CONFIGURATION (R344, R461, R471). -/

/-- The device as SET_CONFIGURATION 1 leaves it, before the event: configured, with H1 empty and a resync called for. -/
def Dev.configured (d : Dev) : Dev :=
  let d := d.endpointsReset
  let d := d.setUsb { d.usb with resync := true, lastInput := none }
  ((d.setFlag USB_STAT_CFG true).setFld USB_STAT_STATE usbConfigured).restartH1

theorem Dev.setConfiguration_one (h : d.usbState ≠ usbDefault) :
    d.setConfiguration 1 = (d.configured.ring 192 3 d.configured.usbStat).done :=
  if_neg (by simp [h])

/-- The restart of H1 changes registers of the router and of the reports alone. -/
theorem Dev.restartH1_fld (d : Dev) {f : Fld} (hwr : f.apart (portFld .h1 EVR_H0_WR_WR) = true)
    (hrd : f.apart (portFld .h1 EVR_H0_RD_RD) = true) (hstat : f.apart TRK_RPT_STAT_RSPEND = true) :
    d.restartH1.fld f = d.fld f :=
  (Dev.fld_setFlag_apart _ true (by decide) hstat).trans
    ((Dev.fld_setFld_apart _ 0 (by decide) hrd).trans (Dev.fld_setFld_apart (d.setHostQ .h1 {}) 0 (by decide) hwr))

theorem Dev.restartH1_ringRd (d : Dev) : d.restartH1.ringRd .h1 = 0 :=
  (Dev.fld_setFlag_apart _ true (by decide) (by decide)).trans (Dev.fld_setFld_same _ _ 0 (by decide))

theorem Dev.restartH1_ringWr (d : Dev) : d.restartH1.ringWr .h1 = 0 :=
  (Dev.fld_setFlag_apart _ true (by decide) (by decide)).trans
    ((Dev.fld_setFld_apart _ 0 (by decide) (by decide)).trans (Dev.fld_setFld_same _ _ 0 (by decide)))

theorem Dev.configured_cfg (d : Dev) : d.configured.fld USB_STAT_CFG = 1 :=
  (Dev.restartH1_fld _ (by decide) (by decide) (by decide)).trans
    ((Dev.fld_setFld_apart _ _ (by decide) (by decide)).trans (Dev.fld_setFld_same _ _ _ (by decide)))

theorem Dev.configured_state (d : Dev) : d.configured.usbState = usbConfigured :=
  (Dev.restartH1_fld _ (by decide) (by decide) (by decide)).trans (Dev.fld_setFld_same _ _ _ (by decide))

theorem Dev.configured_resyncDue (d : Dev) : d.configured.resyncDue := Dev.askBurst_resyncDue _

theorem setConfiguration_configures (hanswers : s.dev.usbAnswers = true) (hstate : s.dev.usbState ≠ usbDefault) :
    Completes (.setConfiguration 1) s fun t => t.flag USB_STAT_CFG = true ∧ t.usbState = usbConfigured ∧
      t.usb.resync = true ∧ t.usb.ep0 = some [] ∧ t.ringRd .h1 = 0 ∧ t.flag TRK_RPT_STAT_RSPEND = true ∧
      (∃ e : Dev, e.evr.h0 = s.dev.evr.h0 ∧ e.evr.h1 = {} ∧ e.ringWr .h1 = 0 ∧
        t.evr = (e.ring 192 3 e.usbStat).evr) := by
  refine completes_request (f := fun d => d.setConfiguration (1 : BitVec 16).toNat) hanswers rfl ?_
  rw [show (1 : BitVec 16).toNat = 1 from rfl, Dev.setConfiguration_one hstate]
  generalize hx : s.dev.configured = x
  have hcfg : x.flag USB_STAT_CFG = true := by rw [← hx, Dev.flag, Dev.configured_cfg]; rfl
  refine ⟨?_, ?_, ?_, rfl, ?_, ?_, x, ?_, ?_, ?_, rfl⟩
  · exact (Dev.ring_flag (by decide) x ..).trans hcfg
  · exact (Dev.ring_fld (by decide) x ..).trans (hx ▸ s.dev.configured_state)
  · exact (x.ring_usb_resync ..).trans (hx ▸ rfl)
  · exact (Dev.ring_fld (by decide) x ..).trans (hx ▸ Dev.restartH1_ringRd _)
  · exact resyncDue_ring (hx ▸ s.dev.configured_resyncDue) (by decide) (by decide) ..
  · exact hx ▸ rfl
  · exact hx ▸ rfl
  · exact hx ▸ Dev.restartH1_ringWr _

/-! Requests to the interfaces (R465, R467, R474). -/

theorem Dev.interfaceOk_zero (h : d.usbState = usbConfigured) : d.interfaceOk 0 = true := by
  rw [Dev.interfaceOk, h, Bool.and_eq_true]
  refine ⟨rfl, decide_eq_true ?_⟩
  split
  · decide
  · decide

theorem Dev.hidRequest_zero (hhid : d.hasHid = true) (h : d.usbState = usbConfigured) (f : Dev → Dev) :
    d.hidRequest 0 f = f d := if_pos ⟨hhid, rfl, h⟩

theorem setInterface_accepts (hanswers : s.dev.usbAnswers = true) (hstate : s.dev.usbState = usbConfigured) :
    Completes (.setInterface 0 0) s fun t => t.usb.ep0 = some [] ∧ s.dev.leaves t [] := by
  refine completes_request
    (f := fun d => if d.interfaceOk (0 : BitVec 16).toNat ∧ (0 : BitVec 16) = 0 then d.done else d.stall) hanswers rfl ?_
  rw [if_pos ⟨Dev.interfaceOk_zero hstate, rfl⟩]
  exact ⟨rfl, leaves_answer (s.dev.leaves_refl _) _⟩

theorem setIdle_keeps (hanswers : s.dev.usbAnswers = true) (hhid : s.dev.hasHid = true)
    (hstate : s.dev.usbState = usbConfigured) (value : BitVec 16) : Completes (.setIdle value 0) s fun t =>
      t.usb.idle = value.toNat / 256 ∧ t.usb.ep0 = some [] ∧ s.dev.leaves t [] := by
  refine completes_request
    (f := fun d => d.hidRequest (0 : BitVec 16).toNat fun d => (d.setUsb { d.usb with idle := value.toNat / 256 }).done)
    hanswers rfl ?_
  rw [show (0 : BitVec 16).toNat = 0 from rfl, Dev.hidRequest_zero hhid hstate]
  exact ⟨rfl, rfl, leaves_of (s.dev.leaves_refl _) rfl rfl rfl rfl⟩

/-- Settles O31: each request by how it ends, with data, with nothing or with a STALL. -/
theorem usbRequestsAreAnswered : Obligations.UsbRequestsAreAnswered := by
  intro s hanswers
  refine ⟨fun index len => ?_,
    fun index hmay => ⟨remoteWakeup_sets hanswers hmay rfl, remoteWakeup_sets hanswers hmay rfl⟩,
    fun value hmax hmin hstate => setAddress_takes hanswers hmax hmin hstate,
    fun index len => ⟨?_, ?_, ?_⟩, fun len => ?_, setConfiguration_configures hanswers, fun value hvalue => ?_,
    fun hstate len => ⟨?_, setInterface_accepts hanswers hstate, fun hhid =>
      ⟨setIdle_keeps hanswers hhid hstate, fun value => ?_, ?_⟩⟩, completes_stall Dev.stall hanswers rfl rfl⟩
  · exact completes_reply (fun d => d.getStatus 0 index.toNat len.toNat) hanswers rfl rfl
  · exact completes_reply (fun d => d.getDescriptor 1 0 index.toNat len.toNat) hanswers rfl rfl
  · exact completes_reply (fun d => d.getDescriptor 2 0 index.toNat len.toNat) hanswers rfl rfl
  · exact completes_reply (fun d => d.getDescriptor 3 0 index.toNat len.toNat) hanswers rfl rfl
  · exact completes_reply (fun d => d.reply (bytesOf [d.fld USB_STAT_CFG]) len.toNat) hanswers rfl rfl
  · exact completes_stall (fun d => d.setConfiguration value.toNat) hanswers rfl (if_pos (.inr hvalue))
  · exact completes_reply (fun d => if d.interfaceOk 0 then d.reply [0#8] len.toNat else d.stall) hanswers rfl
      (if_pos (Dev.interfaceOk_zero hstate))
  · exact completes_reply (fun d => d.hidRequest 0 fun d => d.reply (bytesOf [d.usb.idle]) len.toNat) hanswers rfl
      (Dev.hidRequest_zero hhid hstate _)
  · exact completes_reply (fun d => d.getReport 3 2 0 len.toNat) hanswers rfl (Dev.hidRequest_zero hhid hstate _)

end Sys2Proof.Machine
end

section
/-!
SUPPORT. The USB bus (R458 to R462, R472, R480, R481, R485, R487, R494): the event of a state, attach and detach, tokens and the
bus reset, suspend, resume and remote wake, packet errors and reports.
-/

namespace Sys2Proof.Machine

variable {s : State} {d e : Dev}

/-! The event of the states (R497). -/

theorem Dev.near_usbEvent (d : Dev) (what : Nat) : d.Near (d.usbEvent what) := by
  unfold Dev.usbEvent
  split
  · exact near_ring (near_logEvent (.rfl d))
  · exact near_ring (.rfl d)

theorem leavesRing_usbEvent {as : List Nat} (h : d.leaves e as) (what : Nat) : d.leavesRing (e.usbEvent what) as :=
  leavesRing_linked (leavesRing_of_leaves h) (linked_near (as := []) (e.near_usbEvent what)) (List.nil_subset _)

theorem Dev.usbEvent_reg (d : Dev) (what : Nat) {a : Nat} (h : a ∉ ringRegs) : (d.usbEvent what).reg a = d.reg a :=
  (d.near_usbEvent what).1 a h

theorem Dev.usbEvent_fld (d : Dev) (what : Nat) {f : Fld} (h : f.addr ∉ ringRegs) : (d.usbEvent what).fld f = d.fld f :=
  Dev.fld_of_reg (d.usbEvent_reg what h)

theorem Dev.usbEvent_flag (d : Dev) (what : Nat) {f : Fld} (h : f.addr ∉ ringRegs) : (d.usbEvent what).flag f = d.flag f := by
  rw [Dev.flag, d.usbEvent_fld what h]
  rfl

/-- What does not read the parts that an event may change is as before. -/
theorem Dev.usbEvent_keeps {α : Sort*} (d : Dev) (what : Nat) (g : Dev → α) (hg : ∀ x, g x.quiet = g x) :
    g (d.usbEvent what) = g d := by
  rw [← hg, (d.near_usbEvent what).2.2, hg]

/-! Attach and detach (R458, R459, R493). -/

/-- USB attaches once every condition holds. -/
theorem Dev.usbTry_attaches (hready : d.usbReady = true) (hstate : d.usbState = 0) :
    d.usbTry.usb.vbus = d.usb.vbus ∧ d.usbTry.usbState = usbPowered ∧ d.leavesRing d.usbTry [USB_STAT] := by
  rw [Dev.usbTry, if_pos ⟨hready, hstate⟩]
  exact ⟨Dev.usbEvent_keeps (d.setFld _ _) 1 (·.usb.vbus) fun _ => rfl,
    (Dev.usbEvent_fld _ _ (by decide)).trans (Dev.fld_setFld_same _ _ _ (by decide)),
    leavesRing_usbEvent (leaves_setFld (d.leaves_refl _) (by decide)) _⟩

/-- The pull-up connects where every condition holds with VBUS there. -/
theorem usbAttach_connects (hready : (s.dev.setUsb { s.dev.usb with vbus := true }).usbReady = true)
    (hstate : s.dev.usbState = 0) : Completes .usbAttach s fun t =>
      t.usb.vbus = true ∧ t.usbState = usbPowered ∧ s.dev.leavesRing t [USB_STAT] := by
  obtain ⟨hvbus, hpowered, hleaves⟩ := Dev.usbTry_attaches hready hstate
  exact completes_of (f := fun d => (d.setUsb { d.usb with vbus := true }).usbTry) rfl ⟨hvbus, hpowered, hleaves⟩

/-- The device without what it holds of a bus: every endpoint in its initial state, no token counted, no wake under way. -/
def Dev.busForgotten (d : Dev) : Dev :=
  let d := d.endpointsReset
  let d := d.setUsb { d.usb with wake := 0, wakeReport := false, sofCount := 0, lastInput := none }
  d.setModes { d.modes with beforeSuspend := none }

theorem Dev.leaves_busForgotten (d : Dev) (as : List Nat) : d.leaves d.busForgotten as :=
  leaves_of (d.leaves_refl _) rfl rfl rfl rfl

/-- Both lines released: the bus forgotten, its tokens no reference, and USB_STAT 0. -/
def Dev.linesReleased (d : Dev) : Dev :=
  let d := d.busForgotten
  ((d.setPwr { d.pwr with sofRef := false }).setReg USB_STAT 0).followReference

theorem Dev.usbDetach_attached (h : d.usbState ≠ 0) : d.usbDetach = d.linesReleased.usbEvent 0 := if_neg h

theorem Dev.usbDetach_stat (h : d.usbState ≠ 0) : d.usbDetach.reg USB_STAT = 0 := by
  rw [Dev.usbDetach_attached h, Dev.usbEvent_reg _ _ (by decide)]
  exact (Dev.reg_setFld_ne _ _ _ (by decide)).trans (by rw [Dev.reg_setReg, if_pos rfl])

theorem Dev.usbDetach_ctrl (h : d.usbState ≠ 0) : d.usbDetach.flag USB_CTRL_DETACH = d.flag USB_CTRL_DETACH := by
  rw [Dev.usbDetach_attached h, Dev.usbEvent_flag _ _ (by decide), Dev.linesReleased, Dev.followReference_flag _ (by decide),
    Dev.flag, Dev.fld_setReg_ne _ _ (by decide)]
  rfl

theorem Dev.usbDetach_forgets (h : d.usbState ≠ 0) : d.usbDetach.usb.reports = [] ∧ d.usbDetach.usb.response = none ∧
    d.usbDetach.usb.vbus = d.usb.vbus ∧ d.usbDetach.nvm = d.nvm := by
  rw [Dev.usbDetach_attached h]
  exact ⟨d.linesReleased.usbEvent_keeps 0 (·.usb.reports) fun _ => rfl,
    d.linesReleased.usbEvent_keeps 0 (·.usb.response) fun _ => rfl,
    d.linesReleased.usbEvent_keeps 0 (·.usb.vbus) fun _ => rfl, d.linesReleased.usbEvent_keeps 0 (·.nvm) fun _ => rfl⟩

theorem usbDetach_disconnects (hstate : s.dev.usbState ≠ 0) : Completes (.usbDetach false) s fun t =>
    t.usb.vbus = false ∧ t.reg USB_STAT = 0 ∧ t.usb.reports = [] ∧ t.usb.response = none ∧ t.nvm = s.dev.nvm := by
  have hattached : (s.dev.setUsb { s.dev.usb with vbus := false }).usbState ≠ 0 := hstate
  have hunready : (s.dev.setUsb { s.dev.usb with vbus := false }).usbReady = false := by
    simp [Dev.usbReady, Dev.setUsb]
  have hexec : exec (.usbDetach false) s =
      .next { s with dev := (s.dev.setUsb { s.dev.usb with vbus := false }).usbDetach } := by
    show execUsbDetach false s = _
    simp only [execUsbDetach, State.run_eq, Bool.false_eq_true, if_false, hunready]
  obtain ⟨hreports, hresponse, hvbus, hnvm⟩ := Dev.usbDetach_forgets hattached
  exact ⟨_, hexec, hvbus, Dev.usbDetach_stat hattached, hreports, hresponse, hnvm⟩

/-- DETACH written with its key. -/
theorem Dev.writeUsbCtrl_detach (d : Dev) (rq : Requester) {v : Word} (hkey : wGet v 16 8 = 0x5A) (hbit : wGet v 0 1 = 1) :
    d.writeUsbCtrl rq v =
      if rq = .usb then d.setUsb { d.usb with detachAtAck := some true } else (d.setFlag USB_CTRL_DETACH true).usbDetach := by
  simp [Dev.writeUsbCtrl, hkey, hbit, Dev.setDetach]

theorem detach_disconnects {rq : Requester} {value : Word} (hkey : wGet value 16 8 = 0x5A) (hbit : wGet value 0 1 = 1)
    (hstate : s.dev.usbState ≠ 0) (hrq : rq ≠ .usb) :
    Completes (.detach rq value) s fun t => t.flag USB_CTRL_DETACH = true ∧ t.reg USB_STAT = 0 := by
  have hattached : (s.dev.setFlag USB_CTRL_DETACH true).usbState ≠ 0 := by
    rwa [Dev.usbState, Dev.fld_setFlag_apart _ _ (by decide) (by decide)]
  refine completes_of (f := fun d => d.writeUsbCtrl rq value) rfl ?_
  rw [Dev.writeUsbCtrl_detach _ rq hkey hbit, if_neg hrq]
  exact ⟨(Dev.usbDetach_ctrl hattached).trans (Dev.flag_setFlag_same _ _ _ (by decide) (by decide)),
    Dev.usbDetach_stat hattached⟩

/-- Over USB itself DETACH waits for the acknowledgement of its response. -/
theorem detach_waits {value : Word} (hkey : wGet value 16 8 = 0x5A) (hbit : wGet value 0 1 = 1) :
    Completes (.detach .usb value) s fun t =>
      t.usb.detachAtAck = some true ∧ t.usbState = s.dev.usbState ∧ s.dev.leaves t [] := by
  refine completes_of (f := fun d => d.writeUsbCtrl .usb value) rfl ?_
  rw [Dev.writeUsbCtrl_detach _ .usb hkey hbit, if_pos rfl]
  exact ⟨rfl, rfl, leaves_of (s.dev.leaves_refl _) rfl rfl rfl rfl⟩

/-! Tokens and the bus reset (R107, R460, R462). -/

/-- A token's frame number, its count, and USB as a reference for the loop. -/
def Dev.sofNoted (d : Dev) (frame : Nat) : Dev :=
  let d := (d.setFld USB_FRNUM_FRNUM frame).setUsb { d.usb with sofCount := d.usb.sofCount + 1 }
  (d.setPwr { d.pwr with sofRef := true }).followReference

theorem startOfFrame_counts (frame : BitVec 11) (hstate : s.dev.usbState ≠ 0) (hsusp : s.dev.flag USB_STAT_SUSP = false) :
    Completes (.startOfFrameToken frame) s fun t => t.fld USB_FRNUM_FRNUM = frame.toNat ∧
      t.usb.sofCount = s.dev.usb.sofCount + 1 ∧ t.pwr.sofRef = true := by
  refine completes_of
    (f := fun d => if d.usbState = 0 ∨ d.flag USB_STAT_SUSP = true then d else d.sofNoted frame.toNat) rfl ?_
  rw [if_neg (by simp [hstate, hsusp])]
  refine ⟨?_, rfl, rfl⟩
  calc (s.dev.sofNoted frame.toNat).fld USB_FRNUM_FRNUM
      = (s.dev.setFld USB_FRNUM_FRNUM frame.toNat).fld USB_FRNUM_FRNUM := Dev.fld_setFld_apart _ _ (by decide) (by decide)
    _ = frame.toNat % 2 ^ 11 := Dev.fld_setFld_same _ _ _ (by decide)
    _ = frame.toNat := Nat.mod_eq_of_lt frame.isLt

theorem sofLock_locks (hstate : usbDefault ≤ s.dev.usbState) (hthree : 3 ≤ s.dev.usb.sofCount) :
    Completes .sofLock s fun t => t.flag USB_STAT_SOFLOCK = true ∧ s.dev.leaves t [USB_STAT] := by
  refine completes_of (f := fun d =>
    if usbDefault ≤ d.usbState ∧ 3 ≤ d.usb.sofCount then d.setFlag USB_STAT_SOFLOCK true else d) rfl ?_
  rw [if_pos ⟨hstate, hthree⟩]
  exact ⟨Dev.flag_setFlag_same _ _ _ (by decide) (by decide), leaves_setFlag (s.dev.leaves_refl _) (by decide)⟩

/-- The default state that a bus reset leads to, counted. -/
def Dev.busDefault (d : Dev) : Dev := (d.busForgotten.setReg USB_STAT (word usbDefault)).bump USB_CNT_BUSRESET

/-- A bus reset with no remote wake to report. -/
theorem Dev.busReset_eq (hstate : d.usbState ≠ 0) (hwake : d.usb.wakeReport = false) :
    d.busReset = d.busDefault.usbEvent 2 := by
  rw [Dev.busReset, if_neg hstate, hwake]
  rfl

theorem Dev.leaves_busDefault (d : Dev) : d.leaves d.busDefault [USB_STAT, USB_CNT] :=
  leaves_bump (leaves_setReg (d.leaves_busForgotten _) (by decide)) (by decide)

theorem Dev.busDefault_state (d : Dev) : d.busDefault.usbState = usbDefault :=
  (Dev.fld_bump_apart _ (by decide) (by decide)).trans (Dev.fld_setReg_same _ USB_STAT_STATE _)

theorem Dev.busDefault_count (d : Dev) :
    d.busDefault.fld USB_CNT_BUSRESET = min (d.fld USB_CNT_BUSRESET + 1) (2 ^ USB_CNT_BUSRESET.width - 1) := by
  rw [Dev.busDefault, Dev.fld_bump_same _ _ (by decide), Dev.fld_setReg_ne _ _ (by decide)]
  rfl

theorem usbBusReset_resets (hstate : s.dev.usbState ≠ 0) (hwake : s.dev.usb.wakeReport = false) :
    Completes .usbBusReset s fun t => t.usbState = usbDefault ∧
      t.fld USB_CNT_BUSRESET = min (s.dev.fld USB_CNT_BUSRESET + 1) (2 ^ USB_CNT_BUSRESET.width - 1) ∧
      t.usb.response = none ∧ t.usb.reports = [] ∧ s.dev.leavesRing t [USB_STAT, USB_CNT] := by
  refine completes_of (f := Dev.busReset) rfl ?_
  rw [Dev.busReset_eq hstate hwake]
  exact ⟨(Dev.usbEvent_fld _ _ (by decide)).trans s.dev.busDefault_state,
    (Dev.usbEvent_fld _ _ (by decide)).trans s.dev.busDefault_count,
    Dev.usbEvent_keeps _ _ (·.usb.response) fun _ => rfl, Dev.usbEvent_keeps _ _ (·.usb.reports) fun _ => rfl,
    leavesRing_usbEvent s.dev.leaves_busDefault _⟩

/-! Suspend, resume and remote wake (R480, R481, R485 to R488). -/

/-- USB_STAT.SUSP shows a suspend that begins. -/
def Dev.suspended (d : Dev) : Dev := (d.setFlag USB_STAT_SUSP true).setUsb { d.usb with suspTick := d.ticks, owed := [] }

/-- A suspend of a device that is not configured asks for no mode. -/
theorem Dev.usbSuspend_eq (hstate : usbDefault ≤ d.usbState) (hunconf : d.usbState ≠ usbConfigured)
    (hsusp : d.flag USB_STAT_SUSP = false) : d.usbSuspend = d.suspended.usbEvent 4 := by
  have hkept : (d.suspended.usbEvent 4).usbState ≠ usbConfigured := by
    rwa [Dev.usbState, Dev.usbEvent_fld _ _ (by decide),
      show d.suspended.fld USB_STAT_STATE = d.usbState from Dev.fld_setFlag_apart d _ (by decide) (by decide)]
  rw [Dev.usbSuspend, if_neg (not_or.2 ⟨Nat.not_lt.2 hstate, by simp [hsusp]⟩)]
  exact if_neg hkept

theorem usbSuspend_suspends (hstate : usbDefault ≤ s.dev.usbState) (hunconf : s.dev.usbState ≠ usbConfigured)
    (hsusp : s.dev.flag USB_STAT_SUSP = false) : Completes .usbSuspend s fun t =>
      t.flag USB_STAT_SUSP = true ∧ t.usb.suspTick = s.dev.ticks ∧ s.dev.leavesRing t [USB_STAT] := by
  have hleaves : s.dev.leaves s.dev.suspended [USB_STAT] :=
    leaves_of (leaves_setFlag (f := USB_STAT_SUSP) (b := true) (s.dev.leaves_refl _) (by decide)) rfl rfl rfl rfl
  refine completes_of (f := Dev.usbSuspend) rfl ?_
  rw [Dev.usbSuspend_eq hstate hunconf hsusp]
  exact ⟨(Dev.usbEvent_flag _ _ (by decide)).trans (Dev.flag_setFlag_same s.dev _ _ (by decide) (by decide)),
    Dev.usbEvent_keeps _ _ (·.usb.suspTick) fun _ => rfl, leavesRing_usbEvent hleaves _⟩

/-- The end of a suspend, with no remote wake any longer. -/
def Dev.resumed (d : Dev) : Dev :=
  (d.setUsb { d.usb with wake := 0, wakeReport := false, resync := true }).setFlag USB_STAT_SUSP false

/-- A resume, with no remote wake, of a device that is not configured asks for no mode. -/
theorem Dev.usbResume_eq (hsusp : d.flag USB_STAT_SUSP = true) (hunconf : d.usbState ≠ usbConfigured)
    (hwake : d.usb.wake = 0) (hreport : d.usb.wakeReport = false) : d.usbResume = d.resumed.usbEvent 5 := by
  have hkept : (d.resumed.usbEvent 5).usbState ≠ usbConfigured := by
    rwa [Dev.usbState, Dev.usbEvent_fld _ _ (by decide),
      show d.resumed.fld USB_STAT_STATE = d.usbState from Dev.fld_setFlag_apart _ _ (by decide) (by decide)]
  rw [Dev.usbResume, if_pos hsusp]
  simp only [hwake, hreport, Bool.false_eq_true, if_false, zero_ne_one]
  exact if_neg hkept

theorem usbResume_resumes (hsusp : s.dev.flag USB_STAT_SUSP = true) (hunconf : s.dev.usbState ≠ usbConfigured)
    (hwake : s.dev.usb.wake = 0) (hreport : s.dev.usb.wakeReport = false) : Completes .usbResume s fun t =>
      t.flag USB_STAT_SUSP = false ∧ t.usb.resync = true ∧ s.dev.leavesRing t [USB_STAT] := by
  have hleaves : s.dev.leaves s.dev.resumed [USB_STAT] :=
    leaves_setFlag (leaves_of (s.dev.leaves_refl _) rfl rfl rfl rfl) (by decide)
  refine completes_of (f := Dev.usbResume) rfl ?_
  rw [Dev.usbResume_eq hsusp hunconf hwake hreport]
  exact ⟨(Dev.usbEvent_flag _ _ (by decide)).trans (Dev.flag_setFlag_same _ _ _ (by decide) (by decide)),
    Dev.usbEvent_keeps _ _ (·.usb.resync) fun _ => rfl, leavesRing_usbEvent hleaves _⟩

/-- The outcome that a remote wake shows, whatever of the USB device changes with it. -/
theorem outcome_shown (d : Dev) {v : Nat} (hv : v < 4) (u : Usb) :
    ((d.setFld USB_RWK_OUTCOME v).setUsb u).fld USB_RWK_OUTCOME = v ∧
      d.leaves ((d.setFld USB_RWK_OUTCOME v).setUsb u) [USB_RWK] :=
  ⟨(Dev.fld_setFld_same d _ _ (by decide)).trans (Nat.mod_eq_of_lt hv),
    leaves_of (leaves_setFld (f := USB_RWK_OUTCOME) (v := v) (d.leaves_refl _) (by decide)) rfl rfl rfl rfl⟩

theorem wakeSample_drives (hwake : s.dev.usb.wake = 1) : Completes (.remoteWakeSampleEnd 0) s fun t =>
    t.usb.wake = 2 ∧ t.usb.wakeReport = true ∧ t.fld USB_RWK_OUTCOME = 1 ∧ s.dev.leaves t [USB_RWK] := by
  refine completes_of (f := fun d => d.wakeSampled 0) rfl ?_
  rw [Dev.wakeSampled, if_neg (by simp [hwake]), if_pos rfl]
  exact ⟨rfl, rfl, outcome_shown _ (by decide) _⟩

theorem wakeSample_finds_host (hwake : s.dev.usb.wake = 1) : Completes (.remoteWakeSampleEnd 1) s fun t =>
    t.usb.wake = 0 ∧ t.usb.wakeReport = true ∧ t.fld USB_RWK_OUTCOME = 2 ∧ s.dev.leaves t [USB_RWK] := by
  refine completes_of (f := fun d => d.wakeSampled 1) rfl ?_
  rw [Dev.wakeSampled, if_neg (by simp [hwake])]
  exact ⟨rfl, rfl, outcome_shown _ (by decide) _⟩

theorem wakeDrive_ends (hwake : s.dev.usb.wake = 2) :
    (Completes (.remoteWakeDriveEnd false) s fun t => t.usb.wake = 0 ∧ s.dev.leaves t []) ∧
      (Completes (.remoteWakeDriveEnd true) s fun t => t.usb.wake = 0 ∧ t.fld USB_RWK_OUTCOME = 3 ∧
        s.dev.leaves t [USB_RWK]) := by
  have hends (hostK : Bool) : exec (.remoteWakeDriveEnd hostK) s =
      .next ⟨(if hostK then s.dev.setFld USB_RWK_OUTCOME 3 else s.dev).setUsb { s.dev.usb with wake := 0 }, s.pending⟩ := by
    show execRemoteWakeDriveEnd hostK s = _
    simp only [execRemoteWakeDriveEnd, State.run_eq, hwake, if_true]
  exact ⟨⟨_, hends false, rfl, leaves_of (s.dev.leaves_refl _) rfl rfl rfl rfl⟩,
    ⟨_, hends true, rfl, outcome_shown _ (by decide) _⟩⟩

/-! Packet errors and reports (R472, R494). -/

/-- A packet error after which none is to be reported. -/
theorem Dev.packetError_first (hstate : d.usbState ≠ 0) (hnone : d.usb.errTicks = []) :
    d.packetError = (d.setUsb { d.usb with errTicks := [d.ticks] }).bump USB_CNT_CRCERR := by
  have hticks : ((d.ticks :: d.usb.errTicks).filter fun t => decide (d.ticks < t + 32768)) = [d.ticks] := by
    simp [hnone]
  rw [Dev.packetError, if_neg hstate]
  simp only [hticks]
  exact if_neg (by simp)

theorem packetError_counts (hstate : s.dev.usbState ≠ 0) (hnone : s.dev.usb.errTicks = []) :
    Completes .usbPacketError s fun t => t.usb.errTicks = [s.dev.ticks] ∧
      t.fld USB_CNT_CRCERR = min (s.dev.fld USB_CNT_CRCERR + 1) (2 ^ USB_CNT_CRCERR.width - 1) ∧
      s.dev.leaves t [USB_CNT] := by
  refine completes_of (f := Dev.packetError) rfl ?_
  rw [Dev.packetError_first hstate hnone]
  exact ⟨rfl, Dev.fld_bump_same _ _ (by decide), leaves_bump (leaves_of (s.dev.leaves_refl _) rfl rfl rfl rfl) (by decide)⟩

theorem hidReport_sent {r : List Byte} {rest : List (List Byte)} (hon : s.dev.hidOn = true) (hhalt : s.dev.usb.halt1 = false)
    (hreports : s.dev.usb.reports = r :: rest) : Completes .hidReportSend s fun t => t.usb.lastInput = some r ∧
      t.usb.reports = (if rest.isEmpty then s.dev.usb.nextReports else rest) ∧ s.dev.leaves t [] := by
  refine completes_of (f := Dev.sendReport) rfl ?_
  rw [Dev.sendReport, if_neg (by simp [hon, hhalt])]
  simp only [hreports]
  split
  · exact ⟨rfl, rfl, leaves_of (s.dev.leaves_refl _) rfl rfl rfl rfl⟩
  · exact ⟨rfl, rfl, leaves_of (s.dev.leaves_refl _) rfl rfl rfl rfl⟩

end Sys2Proof.Machine
end

section
/-!
SUPPORT. The vendor endpoint (R475 to R478): commands of one word, events, commands with status 1 or 2, and the acknowledgement.
-/

namespace Sys2Proof.Machine

variable {s : State} {d : Dev} {c : Instr}

/-! How a command ends (R475). -/

theorem Dev.leaves_ep2Answer (d : Dev) (op : Nat) (tag : Byte) (status count : Nat) (body : List Byte) :
    d.leaves (d.ep2Answer op tag status count body) [] := leaves_of (d.leaves_refl _) rfl rfl rfl rfl

/-- A command that EP2 is ready to take, and that leads to t. -/
theorem completes_ep2 (f : Dev → Dev) {t : Dev} {P : Dev → Prop} (hready : s.dev.ep2Ready = true)
    (hexec : exec c s = s.run fun d => if d.ep2Ready = false then d else f d) (hf : f s.dev = t) (hp : P t) :
    Completes c s P :=
  completes_of hexec (by rwa [if_neg (by simp [hready]), hf])

theorem ep2UnknownOp_answers (hready : s.dev.ep2Ready = true) (code tag : Byte) (hread : code ≠ 1) (hwrite : code ≠ 2)
    (hevents : code ≠ 3) : Completes (.ep2UnknownOp code tag) s fun t =>
      t.usb.response = some [byte code.toNat, tag, byte 1, byte 0] ∧ s.dev.leaves t [] := by
  refine completes_of (f := fun d =>
    if d.ep2Ready = false ∨ code = 1 ∨ code = 2 ∨ code = 3 then d else d.ep2Answer code.toNat tag 1 0 []) rfl ?_
  rw [if_neg (not_or.2 ⟨by simp [hready], not_or.2 ⟨hread, not_or.2 ⟨hwrite, hevents⟩⟩⟩)]
  exact ⟨rfl, s.dev.leaves_ep2Answer ..⟩

/-- A transfer longer than any command is answered with status 2 and counted. -/
theorem ep2BadLength_counts (hready : s.dev.ep2Ready = true) (code tag : Byte) :
    Completes (.ep2BadLength code tag true) s fun t =>
      t.usb.response = some [byte code.toNat, tag, byte 2, byte 0] ∧
      t.fld USB_CNT_BADCMD = min (s.dev.fld USB_CNT_BADCMD + 1) (2 ^ USB_CNT_BADCMD.width - 1) ∧
      s.dev.leaves t [USB_CNT] := by
  refine completes_ep2 (fun d => (d.bump USB_CNT_BADCMD).ep2Answer code.toNat tag 2 0 []) hready rfl rfl
    ⟨rfl, Dev.fld_bump_same s.dev _ (by decide),
      leaves_of (leaves_bump (f := USB_CNT_BADCMD) (s.dev.leaves_refl _) (by decide)) rfl rfl rfl rfl⟩

/-! Events (R478). -/

/-- The bytes of the first k records of the H1 ring. -/
def Dev.h1Bytes (d : Dev) (k : Nat) : List Byte :=
  (List.range k).flatMap fun i => (d.h1Record (d.ringRd .h1 + i)).flatMap wordBytes

/-- EVENTS answered with k records, of which the acknowledgement will release k or none. -/
def Dev.eventsSent (d : Dev) (tag flags : Byte) (k : Nat) : Dev :=
  let d := d.ep2Answer 3 tag 0 k (d.h1Bytes k)
  d.setUsb { d.usb with release := if flags.getLsbD 0 then k else 0 }

theorem ep2Events_answers (hready : s.dev.ep2Ready = true) (tag n flags : Byte) (hmin : 1 ≤ n.toNat) (hmax : n.toNat ≤ 64) :
    Completes (.ep2Events tag n flags) s fun t =>
      ∃ body, t.usb.response = some ([byte 3, tag, byte 0, byte (min n.toNat (s.dev.occupancy .h1))] ++ body) ∧
        body = (List.range (min n.toNat (s.dev.occupancy .h1))).flatMap
          (fun i => (s.dev.h1Record (s.dev.ringRd .h1 + i)).flatMap wordBytes) ∧
        t.usb.release = (if flags.getLsbD 0 then min n.toNat (s.dev.occupancy .h1) else 0) ∧ s.dev.leaves t [] := by
  have hvalid : ¬ (n = 0 ∨ 64 < n.toNat) := by
    rintro (rfl | hlong)
    · exact absurd hmin (by decide)
    · omega
  exact completes_ep2 (fun d => if n = 0 ∨ 64 < n.toNat then d.ep2Answer 3 tag 2 0 []
    else d.eventsSent tag flags (min n.toNat (d.occupancy .h1))) hready rfl (if_neg hvalid)
    ⟨s.dev.h1Bytes _, rfl, rfl, rfl, leaves_of (s.dev.leaves_refl _) rfl rfl rfl rfl⟩

/-! READ and WRITE of one word (R475, R477). -/

theorem Dev.ep2Finish_response (d : Dev) (x : EpCommand) (status : Nat) : (d.ep2Finish x status).usb.response =
    some ([byte x.op, x.tag, byte status, byte x.done.length] ++ if x.op = 1 then x.done.flatMap wordBytes else []) := rfl

theorem Dev.ep2Word_read {x : EpCommand} (h : x.op = 1) : (d.ep2Word x).1 = x.step (d.readLocal .usb x.addr []).1 := by
  rw [Dev.ep2Word, if_pos h]

theorem Dev.ep2Word_write {x : EpCommand} (h : x.op ≠ 1) : (d.ep2Word x).1 = x.step 0 := by
  rw [Dev.ep2Word, if_neg h]

theorem Dev.ep2Word_left (d : Dev) (x : EpCommand) : (d.ep2Word x).1.left = x.left - 1 := by
  by_cases h : x.op = 1
  · rw [Dev.ep2Word_read h]
    rfl
  · rw [Dev.ep2Word_write h]
    rfl

theorem Dev.ep2Run_done {x : EpCommand} (h : x.left = 0) (k : Nat) : d.ep2Run x k = d.ep2Finish x 0 := by
  cases k with
  | zero => rfl
  | succ k => exact if_pos h

/-- A command of one word that stays on this tile ends once the word has been dealt with. -/
theorem Dev.ep2Run_one {x : EpCommand} (hleft : x.left = 1) (hlocal : d.goesRemote .usb x.addr = false) (k : Nat) :
    d.ep2Run x (k + 1) = (d.ep2Word x).2.ep2Finish (d.ep2Word x).1 0 := by
  have hend : (d.ep2Word x).1.left = 0 := by rw [d.ep2Word_left, hleft]
  have hword : d.ep2Run x (k + 1) = (d.ep2Word x).2.ep2Run (d.ep2Word x).1 k :=
    (if_neg (by simp [hleft])).trans (if_neg (by simp [hlocal]))
  rw [hword, Dev.ep2Run_done hend]

/-- READ of one word answers it. -/
theorem Dev.ep2Run_read (tag : Byte) {addr : Nat} (hlocal : d.goesRemote .usb addr = false) (k : Nat) :
    (d.ep2Run ⟨1, tag, addr, 1, [], []⟩ (k + 1)).usb.response =
      some ([byte 1, tag, byte 0, byte 1] ++ wordBytes (d.readLocal .usb addr []).1) := by
  rw [Dev.ep2Run_one rfl hlocal, Dev.ep2Finish_response, Dev.ep2Word_read rfl]
  simp [EpCommand.step]

/-- WRITE of one word answers the count written. -/
theorem Dev.ep2Run_write (tag : Byte) {addr : Nat} (v : Word) (hlocal : d.goesRemote .usb addr = false) (k : Nat) :
    (d.ep2Run ⟨2, tag, addr, 1, [v], []⟩ (k + 1)).usb.response = some [byte 2, tag, byte 0, byte 1] := by
  rw [Dev.ep2Run_one rfl hlocal, Dev.ep2Finish_response, Dev.ep2Word_write (show (2 : Nat) ≠ 1 by decide)]
  rfl

/-- No address of a register lies in the remote window. -/
theorem Dev.inWindow_of_register {a : Nat} (h : a < 0x2000) : d.inWindow a = false := by
  simp [Dev.inWindow, Nat.not_le_of_lt h]

/-- A register of a tile that is awake, but TIME_FRAC, reads as its word. -/
theorem Dev.readLocal_register {rq : Requester} {addr : BitVec 16} (hreg : addr.toNat < 0x2000)
    (hdefined : regDefined addr.toNat = true) (hnear : d.notAwake addr.toNat = false) (hawake : d.asleep = false)
    (hfrac : addr.toNat ≠ TIME_FRAC) :
    (d.readLocal rq addr.toNat []).1 = d.regWord rq addr.toNat := by
  simp only [Dev.readLocal, Dev.localAddr_of_not_inWindow (Dev.inWindow_of_register hreg)]
  simp [hawake, hreg, Dev.readReg, hdefined, hnear, hfrac]

theorem ep2Read_answers (hready : s.dev.ep2Ready = true) (tag : Byte) (addr : BitVec 16) (hreg : addr.toNat < 0x2000)
    (hdefined : regDefined addr.toNat = true) (hnear : s.dev.notAwake addr.toNat = false) (hawake : s.dev.asleep = false)
    (hfrac : addr.toNat ≠ TIME_FRAC) : Completes (.ep2Read tag 1 addr) s fun t =>
      t.usb.response = some ([byte 1, tag, byte 0, byte 1] ++ wordBytes (s.dev.regWord .usb addr.toNat)) := by
  have hlocal : s.dev.goesRemote .usb addr.toNat = false := by
    rw [Dev.goesRemote, Dev.inWindow_of_register hreg, Bool.false_and]
  refine completes_ep2 (fun d => if (1 : Byte) = 0 then d.ep2Answer 1 tag 2 0 []
    else d.ep2Run ⟨1, tag, addr.toNat, (1 : Byte).toNat, [], []⟩ 256) hready rfl (if_neg (by decide)) ?_
  rw [← Dev.readLocal_register hreg hdefined hnear hawake hfrac]
  exact Dev.ep2Run_read tag hlocal 255

theorem ep2Write_answers (hready : s.dev.ep2Ready = true) (tag : Byte) (value : Word) :
    Completes (.ep2Write tag 1 0x020A [value]) s fun t => t.usb.response = some [byte 2, tag, byte 0, byte 1] := by
  have hlocal : s.dev.goesRemote .usb TIME_SET_SECH = false := by
    rw [Dev.goesRemote, Dev.inWindow_of_register (by decide), Bool.false_and]
  exact completes_ep2 (fun d => if (1 : Byte) = 0 ∨ 32 < (1 : Byte).toNat ∨ [value].length ≠ (1 : Byte).toNat then
    d.ep2Answer 2 tag 2 0 [] else d.ep2Run ⟨2, tag, TIME_SET_SECH, (1 : Byte).toNat, [value], []⟩ 256) hready rfl
    (if_neg (by simp)) (Dev.ep2Run_write tag value hlocal 255)

/-! The acknowledgement (R478). -/

/-- A response that promised no release, and on which nothing waits, is cleared. -/
theorem ep2ResponseAck_clears {b : List Byte} (hresponse : s.dev.usb.response = some b) (hrelease : s.dev.usb.release = 0)
    (hdetach : s.dev.usb.detachAtAck = none) (hreset : s.dev.pwr.swReset ≠ some .usb) :
    Completes .ep2ResponseAck s fun t => t.usb.response = none ∧ s.dev.leaves t [] := by
  have hacked : s.dev.ep2Acked = s.dev.setUsb { s.dev.usb with response := none, release := 0, detachAtAck := none } := by
    rw [Dev.ep2Acked, if_neg (by simp [hresponse]), hrelease, hdetach]
    exact if_neg hreset
  refine completes_of (f := Dev.ep2Acked) rfl ?_
  rw [hacked]
  exact ⟨rfl, leaves_of (s.dev.leaves_refl _) rfl rfl rfl rfl⟩

/-- Settles O32: the bus by what each of its states and signals changes, the vendor endpoint by how each command ends. -/
theorem usbBusAndVendorEndpoint : Obligations.UsbBusAndVendorEndpoint := by
  intro s
  refine ⟨?_, usbDetach_disconnects, fun rq value hkey hbit hstate => ⟨detach_disconnects hkey hbit hstate, ?_⟩,
    startOfFrame_counts, sofLock_locks, usbBusReset_resets, usbSuspend_suspends, usbResume_resumes, wakeSample_drives,
    wakeSample_finds_host, wakeDrive_ends, packetError_counts, fun r rest => hidReport_sent,
    fun hready => ⟨ep2Events_answers hready, ep2Read_answers hready, fun tag value _ _ => ep2Write_answers hready tag value,
      ep2UnknownOp_answers hready, ep2BadLength_counts hready⟩, fun b => ep2ResponseAck_clears⟩
  · rintro _ rfl hready hstate
    exact usbAttach_connects hready hstate
  · rintro rfl
    exact detach_waits hkey hbit

end Sys2Proof.Machine
end

section
/-!
SUPPORT. The queue and a step (log entries 1, 10 and 11): every command completes, a step runs the front one, and every step
keeps the memories canonical and the parts in their number.
-/

namespace Sys2Proof.Machine

/-- Every arm of `exec` answers a next state, with the queue as it was. -/
theorem exec_next (c : Instr) (s : State) : ∃ t : Dev, exec c s = .next ⟨t, s.pending⟩ := by
  cases c <;> exact ⟨_, rfl⟩

theorem exec_pending {c : Instr} {s t : State} (h : exec c s = .next t) : t.pending = s.pending := by
  obtain ⟨d, hd⟩ := exec_next c s
  rw [hd] at h
  cases h
  rfl

theorem step_cons {s : State} {c : Instr} {rest : List Instr} (h : s.pending = c :: rest) :
    step s = exec c { s with pending := rest } := by
  simp only [step, h]

theorem State.submit_pending (s : State) (c : Instr) : (s.submit c).pending = s.pending ++ [c] := rfl

/-- A sound machine has its memories in canonical form and its parts in their number. -/
theorem sound_wf {fz : Fuses} {t : State} (h : t.dev.Sound fz) : Memory.wf t = true ∧ t.dev.shaped = true := by
  obtain ⟨hregs, hbanks, hnvm, hcfg, -, hports, hchannels, hsinks, hchans, hsnaps, hzero⟩ := h
  exact ⟨by simp [Memory.wf, Dev.memoriesWf, hregs, hbanks, hnvm, hcfg],
    by simp [Dev.shaped, hports, hchannels, hsinks, hchans, hsnaps, hzero]⟩

/-- Settles O1: a step takes the front command off the queue, and no command touches the queue. -/
theorem stepRunsFrontCommand : Obligations.StepRunsFrontCommand := by
  refine ⟨fun c s => step_cons rfl, fun c s t h => ?_⟩
  rw [step_cons rfl] at h
  exact exec_pending h

/-- Settles O2: an empty queue idles, and a command handed in joins the end of the queue. -/
theorem emptyQueueIdles : Obligations.EmptyQueueIdles := by
  refine ⟨fun s h => ?_, fun s c h => ?_, fun s b c rest h => ?_, fun s nbits w => ⟨rfl, rfl⟩⟩
  · simp only [step, h]
  · have hfront : (s.submit c).pending = c :: s.pending := by simp [State.submit_pending, h]
    exact step_cons hfront
  · have hfront : (s.submit c).pending = b :: (rest ++ [c]) := by simp [State.submit_pending, h]
    exact step_cons hfront

/-- Settles O4, by `exec_next`. -/
theorem everyCommandCompletes : Obligations.EveryCommandCompletes := exec_next

/-- Settles O5: a step keeps `Dev.Sound`, which says of a machine what the statement asks of it. -/
theorem stepKeepsSoundness : Obligations.StepKeepsSoundness := by
  intro s t hwf hshaped hstep
  exact sound_wf (step_sound (sound_own_fuses hwf hshaped) hstep)

end Sys2Proof.Machine
end

section
/-!
SUPPORT. Bank accesses and the memory window (R649, R656, R661 to R663): an uncorrectable word that a read marks can lie in a
ring slot, which its own report overwrites; and what a window access does in a bank that no repair holds.
-/

namespace Sys2Proof.Machine

variable {d : Dev} {s : State}

/-- What a command that runs an effect ends in holds of the effect. -/
theorem Completes.effect {c : Instr} {P : Dev → Prop} {f : Dev → Dev} (hexec : exec c s = s.run f)
    (h : Completes c s P) : P (f s.dev) := by
  obtain ⟨t, ht, hp⟩ := h
  rw [hexec, State.run_eq] at ht
  cases ht
  exact hp

theorem Completes.mono {c : Instr} {P Q : Dev → Prop} (h : Completes c s P) (hpq : ∀ t, P t → Q t) : Completes c s Q := by
  obtain ⟨t, ht, hp⟩ := h
  exact ⟨t, ht, hpq t hp⟩

/-! The counterexample to O39: the manager's first ring is full but for its last slot, whose first word is already
uncorrectable, and master 2 owns bank 0. -/

/-- A standalone machine in which an OVERFLOW record of H0 goes to the last slot of its ring, an uncorrectable word. -/
def ringFull : Dev :=
  let d := State.reset.dev
  let d := { d with pwr := { d.pwr with step := 8 }, mem := { d.mem with bad := [bankAddr 8 (slotBase .h0 1023)] } }
  ((d.setFld SYS_STRAP_ROLE 2).setFld EVR_H0_WR_WR 1023).setFld (MEM_OWN_OWNER 0) 2

/-- The report of the uncorrectable word makes the ring's word good again. -/
theorem ringFull_portA_bad : (ringFull.portA 0 0 2 none [0#5, 1#5] false).mem.bad = [bankAddr 0 0] := by decide +kernel

/-- Refutes O39: of the words that were uncorrectable one is good again after the owner's read of a word with two flipped
bits, since MEM_UNCORR fills the ring and its OVERFLOW record is new data in bank 8. -/
theorem not_banksAreAccessed : ¬ Obligations.BanksAreAccessed := by
  unfold Obligations.BanksAreAccessed
  intro h
  obtain ⟨howned, -⟩ := h ⟨ringFull, []⟩ rfl 0#4 2#4 0#14 0 2 0 rfl rfl rfl
  obtain ⟨-, hread⟩ := howned (by decide +kernel)
  obtain ⟨-, -, htwo⟩ := hread (by decide +kernel)
  obtain ⟨hbad, -⟩ := Completes.effect (f := fun d => d.portA 0 0 2 none [0#5, 1#5] false) rfl
    (htwo 0#5 1#5 (by decide))
  have hclaim : (ringFull.portA 0 0 2 none [0#5, 1#5] false).mem.bad = [bankAddr 0 0, bankAddr 8 (slotBase .h0 1023)] := hbad
  rw [ringFull_portA_bad] at hclaim
  exact absurd hclaim (by decide)

/-! The window. -/

theorem Dev.meetErrors_good {bank w : Nat} (master : Nat) (hgood : d.mem.bad.contains (bankAddr bank w) = false) :
    d.meetErrors bank w master [] = d := by simp only [Dev.meetErrors, hgood, Bool.false_eq_true, if_false]

theorem Dev.windowRead_good {rq : Requester} {w : Nat} (hfree : d.taken (d.winBank rq) = false)
    (hgood : d.mem.bad.contains (bankAddr (d.winBank rq) w) = false) : d.windowRead rq w [] = d := by
  simp only [Dev.windowRead, hfree, Bool.false_eq_true, if_false, Dev.meetErrors_good _ hgood]

theorem Dev.windowWord_good {rq : Requester} {w : Nat} (hfree : d.taken (d.winBank rq) = false)
    (hgood : d.mem.bad.contains (bankAddr (d.winBank rq) w) = false) : d.windowWord rq w = d.bank (d.winBank rq) w := by
  simp only [Dev.windowWord, Dev.readWord, hfree, hgood, Bool.false_eq_true, if_false]

theorem Dev.windowAnswer_good {rq : Requester} {w : Nat} (hfree : d.taken (d.winBank rq) = false)
    (hgood : d.mem.bad.contains (bankAddr (d.winBank rq) w) = false) (hlaid : layoutOpen (d.winBank rq) w = false) :
    (d.windowAnswer rq w).1 = d.bank (d.winBank rq) w := by
  simp only [Dev.windowAnswer, Dev.goodWord, hfree, hgood, hlaid, Bool.or_self, Bool.false_eq_true, if_false]

theorem Dev.windowWrite_owned {rq : Requester} {w : Nat} (v : Word) (hfree : d.taken (d.winBank rq) = false)
    (hown : d.owner (d.winBank rq) = 8) : d.windowWrite rq w v = d.setBank (d.winBank rq) w v := if_pos ⟨hfree, hown⟩

theorem Dev.windowWrite_denied {rq : Requester} (w : Nat) (v : Word)
    (hdenied : d.taken (d.winBank rq) = true ∨ d.owner (d.winBank rq) ≠ 8) : d.windowWrite rq w v = d.bump MEM_WINCNT_DENIED := by
  refine if_neg fun ⟨hfree, hown⟩ => ?_
  cases hdenied with
  | inl htaken => simp [htaken] at hfree
  | inr hother => exact hother hown

/-- Settles O40: a window access is the bank's where it is performed, and else only counted. -/
theorem windowWritesNeedTheBank : Obligations.WindowWritesNeedTheBank := by
  rintro s rq w v b rfl
  refine ⟨fun hfree => ⟨fun hgood => ⟨Dev.windowWord_good hfree hgood, Dev.windowAnswer_good hfree hgood, ?_⟩,
    fun hown => ?_⟩, fun hdenied => ?_⟩
  · exact completes_of (f := fun d => d.windowRead rq w.toNat []) rfl (Dev.windowRead_good hfree hgood)
  · refine completes_of (f := fun d => d.windowWrite rq w.toNat v) rfl ?_
    rw [Dev.windowWrite_owned v hfree hown]
    exact ⟨by simp, fun b' n' hne => by simp [hne], rfl, rfl, rfl⟩
  · refine completes_of (f := fun d => d.windowWrite rq w.toNat v) rfl ?_
    rw [Dev.windowWrite_denied w.toNat v hdenied]
    exact ⟨Dev.fld_bump_same _ _ (by decide), rfl, leaves_bump (s.dev.leaves_refl _) (by decide)⟩

end Sys2Proof.Machine
end

section
/-!
SUPPORT. How little an operation changes: named registers, and the parts of the machine that a blanking function q forgets; with
or without what raising an event may change.
-/

namespace Sys2Proof.Machine

variable {d e f : Dev} {q : Dev → Dev} {as bs : List Nat}

/-! Without an event. -/

/-- Nothing but the registers as and what q forgets differs. -/
structure Dev.Alters (q : Dev → Dev) (as : List Nat) (d e : Dev) : Prop where
  reg : ∀ a, a ∉ as → e.reg a = d.reg a
  rest : q e = q d

theorem alters_refl (d : Dev) : Dev.Alters q as d d := ⟨fun _ _ => rfl, rfl⟩

theorem alters_trans (h : Dev.Alters q as d e) (g : Dev.Alters q as e f) : Dev.Alters q as d f :=
  ⟨fun a ha => (g.reg a ha).trans (h.reg a ha), g.rest.trans h.rest⟩

theorem alters_mono (h : Dev.Alters q as d e) (hsub : as ⊆ bs) : Dev.Alters q bs d e :=
  ⟨fun a ha => h.reg a fun hb => ha (hsub hb), h.rest⟩

/-- An update beside the registers, of what q forgets. -/
theorem alters_of (h : Dev.Alters q as d e) (hregs : f.regs = e.regs) (hrest : q f = q e) : Dev.Alters q as d f :=
  ⟨fun a ha => by rw [← h.reg a ha]; simp only [Dev.reg, hregs], hrest.trans h.rest⟩

/-- A blanking function that forgets every register. -/
def ForgetsRegs (q : Dev → Dev) : Prop := ∀ (x : Dev) (a : Nat) (w : Word), q (x.setReg a w) = q x

theorem alters_setReg (h : Dev.Alters q as d e) {a : Nat} {w : Word} (ha : a ∈ as)
    (hq : ForgetsRegs q := by exact fun _ _ _ => rfl) : Dev.Alters q as d (e.setReg a w) :=
  ⟨fun b hb => by rw [Dev.reg_setReg, if_neg (ne_of_mem_of_not_mem ha hb).symm, h.reg b hb], (hq e a w).trans h.rest⟩

theorem alters_setFld (h : Dev.Alters q as d e) {g : Fld} {v : Nat} (ha : g.addr ∈ as)
    (hq : ForgetsRegs q := by exact fun _ _ _ => rfl) : Dev.Alters q as d (e.setFld g v) := alters_setReg h ha hq

theorem alters_setFlag (h : Dev.Alters q as d e) {g : Fld} {b : Bool} (ha : g.addr ∈ as)
    (hq : ForgetsRegs q := by exact fun _ _ _ => rfl) : Dev.Alters q as d (e.setFlag g b) := alters_setReg h ha hq

theorem alters_bump (h : Dev.Alters q as d e) {g : Fld} (ha : g.addr ∈ as)
    (hq : ForgetsRegs q := by exact fun _ _ _ => rfl) : Dev.Alters q as d (e.bump g) := alters_setReg h ha hq

theorem alters_foldl {α : Type} {g : Dev → α → Dev} (xs : List α) (d : Dev)
    (h : ∀ e, ∀ x ∈ xs, Dev.Alters q as e (g e x)) : Dev.Alters q as d (xs.foldl g d) := by
  induction xs generalizing d with
  | nil => exact alters_refl d
  | cons x xs ih => exact alters_trans (h d x (by simp)) (ih (g d x) fun e y hy => h e y (by simp [hy]))

/-- What q does not touch is as before. -/
theorem Dev.Alters.keeps {α : Sort*} (h : Dev.Alters q as d e) (g : Dev → α) (hg : ∀ x, g (q x) = g x) : g e = g d := by
  rw [← hg e, h.rest, hg d]

theorem Dev.Alters.fld (h : Dev.Alters q as d e) {g : Fld} (ha : g.addr ∉ as) : e.fld g = d.fld g := by
  rw [Dev.fld, h.reg _ ha, ← Dev.fld]

theorem Dev.Alters.flag (h : Dev.Alters q as d e) {g : Fld} (ha : g.addr ∉ as) : e.flag g = d.flag g := by
  rw [Dev.flag, h.fld ha, ← Dev.flag]

/-- A blanking function that forgets more. -/
theorem Dev.Alters.weaken {p : Dev → Dev} (h : Dev.Alters q as d e) (hp : ∀ x, p (q x) = p x) : Dev.Alters p as d e :=
  ⟨h.reg, by rw [← hp e, h.rest, hp d]⟩

/-- A blanking function that touches neither bank, EEPROM nor configuration. -/
def SparesMemories (q : Dev → Dev) : Prop := ∀ x : Dev, (q x).banks = x.banks ∧ (q x).nvm = x.nvm ∧ (q x).cfg = x.cfg

theorem leaves_alters (h : d.leaves e bs) (g : Dev.Alters q as e f) (hsub : as ⊆ bs) (hq : SparesMemories q) :
    d.leaves f bs := by
  obtain ⟨hregs, hbanks, hnvm, hcfg⟩ := h
  have gbanks : f.banks = e.banks := g.keeps (·.banks) fun x => (hq x).1
  have gnvm : f.nvm = e.nvm := g.keeps (·.nvm) fun x => (hq x).2.1
  have gcfg : f.cfg = e.cfg := g.keeps (·.cfg) fun x => (hq x).2.2
  refine ⟨fun a ha => (g.reg a fun has => ha (hsub has)).trans (hregs a ha), fun b w => ?_, fun a => ?_, fun s i n => ?_⟩
  · rw [← hbanks b w]; simp only [Dev.bank, gbanks]
  · rw [← hnvm a]; simp only [Dev.nvmByte, gnvm]
  · rw [← hcfg s i n]; simp only [Dev.cfgWord, gcfg]

theorem Dev.Alters.leaves (h : Dev.Alters q as d e) (hq : SparesMemories q) : d.leaves e as :=
  leaves_alters (d.leaves_refl as) h (List.Subset.refl as) hq

/-! With what raising an event may change. -/

/-- Nothing but the registers as, what q forgets and what an event may change differs. -/
structure Dev.AltersRing (q : Dev → Dev) (as : List Nat) (d e : Dev) : Prop where
  reg : ∀ a, a ∉ as → a ∉ ringRegs → e.reg a = d.reg a
  bank : ∀ b w, b ≠ 8 → e.bank b w = d.bank b w
  rest : q e.quiet = q d.quiet

theorem altersRing_refl (d : Dev) : Dev.AltersRing q as d d := ⟨fun _ _ _ => rfl, fun _ _ _ => rfl, rfl⟩

theorem altersRing_trans (h : Dev.AltersRing q as d e) (g : Dev.AltersRing q as e f) : Dev.AltersRing q as d f :=
  ⟨fun a ha hr => (g.reg a ha hr).trans (h.reg a ha hr), fun b w hb => (g.bank b w hb).trans (h.bank b w hb),
    g.rest.trans h.rest⟩

theorem altersRing_mono (h : Dev.AltersRing q as d e) (hsub : as ⊆ bs) : Dev.AltersRing q bs d e :=
  ⟨fun a ha hr => h.reg a (fun hb => ha (hsub hb)) hr, h.bank, h.rest⟩

theorem altersRing_of (h : Dev.AltersRing q as d e) (hregs : f.regs = e.regs) (hbanks : f.banks = e.banks)
    (hrest : q f.quiet = q e.quiet) : Dev.AltersRing q as d f := by
  refine ⟨fun a ha hr => ?_, fun b w hb => ?_, hrest.trans h.rest⟩
  · rw [← h.reg a ha hr]; simp only [Dev.reg, hregs]
  · rw [← h.bank b w hb]; simp only [Dev.bank, hbanks]

theorem altersRing_setReg (h : Dev.AltersRing q as d e) {a : Nat} {w : Word} (ha : a ∈ as) :
    Dev.AltersRing q as d (e.setReg a w) :=
  ⟨fun b hb hr => by rw [Dev.reg_setReg, if_neg (ne_of_mem_of_not_mem ha hb).symm, h.reg b hb hr], h.bank, h.rest⟩

theorem altersRing_setFld (h : Dev.AltersRing q as d e) {g : Fld} {v : Nat} (ha : g.addr ∈ as) :
    Dev.AltersRing q as d (e.setFld g v) := altersRing_setReg h ha

theorem altersRing_setFlag (h : Dev.AltersRing q as d e) {g : Fld} {b : Bool} (ha : g.addr ∈ as) :
    Dev.AltersRing q as d (e.setFlag g b) := altersRing_setReg h ha

theorem altersRing_bump (h : Dev.AltersRing q as d e) {g : Fld} (ha : g.addr ∈ as) :
    Dev.AltersRing q as d (e.bump g) := altersRing_setReg h ha

theorem altersRing_near (h : Dev.AltersRing q as d e) (g : e.Near f) : Dev.AltersRing q as d f := by
  obtain ⟨gregs, gbanks, gquiet⟩ := g
  exact ⟨fun a ha hr => (gregs a hr).trans (h.reg a ha hr), fun b w hb => (gbanks b w hb).trans (h.bank b w hb),
    (congrArg q gquiet).trans h.rest⟩

theorem altersRing_ring (h : Dev.AltersRing q as d e) {src : Nat} {w1 w2 : Word} :
    Dev.AltersRing q as d (e.ring src w1 w2) := altersRing_near h (near_ring (.rfl e))

theorem altersRing_foldl {α : Type} {g : Dev → α → Dev} (xs : List α) (d : Dev)
    (h : ∀ e, ∀ x ∈ xs, Dev.AltersRing q as e (g e x)) : Dev.AltersRing q as d (xs.foldl g d) := by
  induction xs generalizing d with
  | nil => exact altersRing_refl d
  | cons x xs ih => exact altersRing_trans (h d x (by simp)) (ih (g d x) fun e y hy => h e y (by simp [hy]))

theorem Dev.AltersRing.keeps {α : Sort*} (h : Dev.AltersRing q as d e) (g : Dev → α) (hg : ∀ x, g (q x.quiet) = g x) :
    g e = g d := by rw [← hg e, h.rest, hg d]

theorem Dev.AltersRing.fld (h : Dev.AltersRing q as d e) {g : Fld} (ha : g.addr ∉ as) (hr : g.addr ∉ ringRegs) :
    e.fld g = d.fld g := by rw [Dev.fld, h.reg _ ha hr, ← Dev.fld]

theorem Dev.AltersRing.flag (h : Dev.AltersRing q as d e) {g : Fld} (ha : g.addr ∉ as) (hr : g.addr ∉ ringRegs) :
    e.flag g = d.flag g := by rw [Dev.flag, h.fld ha hr, ← Dev.flag]

/-- A blanking function that touches neither EEPROM nor configuration, on machines without what an event may change. -/
def SparesNvm (q : Dev → Dev) : Prop := ∀ x : Dev, (q x.quiet).nvm = x.nvm ∧ (q x.quiet).cfg = x.cfg

theorem leavesRing_alters (h : d.leavesRing e bs) (g : Dev.AltersRing q as e f) (hsub : as ⊆ bs) (hq : SparesNvm q) :
    d.leavesRing f bs := by
  obtain ⟨hregs, hbanks, hnvm, hcfg⟩ := h
  have gnvm : f.nvm = e.nvm := g.keeps (·.nvm) fun x => (hq x).1
  have gcfg : f.cfg = e.cfg := g.keeps (·.cfg) fun x => (hq x).2
  refine ⟨fun a ha hr => (g.reg a (fun has => ha (hsub has)) hr).trans (hregs a ha hr),
    fun b w hb => (g.bank b w hb).trans (hbanks b w hb), fun a => ?_, fun s i n => ?_⟩
  · rw [← hnvm a]; simp only [Dev.nvmByte, gnvm]
  · rw [← hcfg s i n]; simp only [Dev.cfgWord, gcfg]

theorem Dev.AltersRing.leavesRing (h : Dev.AltersRing q as d e) (hq : SparesNvm q) : d.leavesRing e as :=
  leavesRing_alters (leavesRing_of_leaves (d.leaves_refl as)) h (List.Subset.refl as) hq

/-- What changes without an event changes with one. -/
theorem altersRing_of_alters {p : Dev → Dev} (h : Dev.Alters q as d e) (hq : SparesMemories q)
    (hp : ∀ x, p (q x).quiet = p x.quiet) : Dev.AltersRing p as d e := by
  have hbanks : e.banks = d.banks := h.keeps (·.banks) fun x => (hq x).1
  refine ⟨fun a ha _ => h.reg a ha, fun b w _ => by simp only [Dev.bank, hbanks], ?_⟩
  rw [← hp e, h.rest, hp d]

end Sys2Proof.Machine
end

section
/-!
SUPPORT. The rails (R713 to R741): what each of their operations leaves as it was, and the rail state it leads to.
-/

namespace Sys2Proof.Machine

variable {d e : Dev} {as : List Nat}

/-- A machine without its registers, its rail state and its scan, which keeps marks of VTX. -/
def Dev.offRails (d : Dev) : Dev := { d with regs := [], rail := {}, scan := {} }

theorem offRails_spares : SparesMemories Dev.offRails := fun _ => ⟨rfl, rfl, rfl⟩

/-- Nothing but the registers as, the rail state and the scan differs. -/
abbrev Dev.Railed (as : List Nat) (d e : Dev) : Prop := Dev.Alters Dev.offRails as d e

theorem Dev.Railed.leaves (h : Dev.Railed as d e) : d.leaves e as := Dev.Alters.leaves h offRails_spares

theorem railed_setRail (h : Dev.Railed as d e) {r : Rails} : Dev.Railed as d (e.setRail r) := alters_of h rfl rfl

theorem leaves_setRail (h : d.leaves e as) {r : Rails} : d.leaves (e.setRail r) as := leaves_of h rfl rfl rfl rfl

/-! Fields beside the rail state. -/

@[simp] theorem Dev.reg_setRail (d : Dev) (r : Rails) (a : Nat) : (d.setRail r).reg a = d.reg a := rfl
@[simp] theorem Dev.fld_setRail (d : Dev) (r : Rails) (g : Fld) : (d.setRail r).fld g = d.fld g := rfl
@[simp] theorem Dev.flag_setRail (d : Dev) (r : Rails) (g : Fld) : (d.setRail r).flag g = d.flag g := rfl

/-! The operations, one by one. -/

theorem railed_noteVtx (d : Dev) : Dev.Railed as d d.noteVtx := by
  unfold Dev.noteVtx Dev.foldVtx
  split
  · exact alters_of (alters_refl d) rfl rfl
  · extract_lets
    split
    · exact alters_of (alters_refl d) rfl rfl
    · split <;> exact alters_of (alters_refl d) rfl rfl

@[simp] theorem Dev.noteVtx_rail (d : Dev) : d.noteVtx.rail = d.rail := by
  unfold Dev.noteVtx Dev.foldVtx
  split
  · rfl
  · extract_lets
    split
    · rfl
    · split <;> rfl

@[simp] theorem Dev.fld_noteVtx (d : Dev) (g : Fld) : d.noteVtx.fld g = d.fld g :=
  (railed_noteVtx (as := []) d).fld List.not_mem_nil
@[simp] theorem Dev.flag_noteVtx (d : Dev) (g : Fld) : d.noteVtx.flag g = d.flag g :=
  (railed_noteVtx (as := []) d).flag List.not_mem_nil

theorem railed_supersedeVled (h : RAIL_SUPERSEDED ∈ as) (d : Dev) : Dev.Railed as d d.supersedeVled := by
  unfold Dev.supersedeVled
  split
  · exact alters_refl d
  · exact alters_bump (railed_setRail (alters_refl d)) h

theorem railed_supersedeVtx (h : RAIL_SUPERSEDED ∈ as) (d : Dev) : Dev.Railed as d d.supersedeVtx := by
  unfold Dev.supersedeVtx
  split
  · exact alters_refl d
  · exact alters_bump (railed_setRail (alters_refl d)) h

@[simp] theorem Dev.supersedeVled_rail (d : Dev) : d.supersedeVled.rail = { d.rail with vledCmd := none } := by
  unfold Dev.supersedeVled
  split
  next hnone => rw [← hnone]
  next => rfl

@[simp] theorem Dev.supersedeVtx_rail (d : Dev) : d.supersedeVtx.rail = { d.rail with vtxCmd := none } := by
  unfold Dev.supersedeVtx
  split
  next hnone => rw [← hnone]
  next => rfl

theorem Dev.fld_supersedeVtx_some (d : Dev) {old : Nat} (h : d.rail.vtxCmd = some old) :
    d.supersedeVtx.fld RAIL_SUPERSEDED_VTX =
      min (d.fld RAIL_SUPERSEDED_VTX + 1) (2 ^ RAIL_SUPERSEDED_VTX.width - 1) := by
  unfold Dev.supersedeVtx
  rw [h]
  exact Dev.fld_bump_same _ _ (by decide)

theorem Dev.fld_supersedeVled_vtx (d : Dev) : d.supersedeVled.fld RAIL_SUPERSEDED_VTX = d.fld RAIL_SUPERSEDED_VTX := by
  unfold Dev.supersedeVled
  split
  · rfl
  · exact Dev.fld_bump_apart _ (by decide) (by decide)

theorem railed_setVledTgt (d : Dev) (mv : Nat) : Dev.Railed as d (d.setVledTgt mv) := by
  unfold Dev.setVledTgt
  split <;> exact railed_setRail (alters_refl d)

theorem Dev.setVledTgt_rail (d : Dev) (mv : Nat) : (d.setVledTgt mv).rail =
    if d.rail.vledSoft.isSome then { d.rail with vledNext := some mv } else { d.rail with vledTgt := mv } := by
  unfold Dev.setVledTgt
  split <;> rfl

/-- A new VLED target in place of the one that stood. -/
theorem railed_newVled (h : RAIL_SUPERSEDED ∈ as) (d : Dev) (mv : Nat) : Dev.Railed as d (d.supersedeVled.setVledTgt mv) :=
  alters_trans (railed_supersedeVled h d) (railed_setVledTgt _ mv)

/-- A new VTX target in place of the one that stood. -/
theorem railed_newVtx (h : RAIL_SUPERSEDED ∈ as) (d : Dev) (mv : Nat) : Dev.Railed as d (d.supersedeVtx.setVtxTgt mv) :=
  railed_setRail (railed_supersedeVtx h d)

@[simp] theorem Dev.setVtxTgt_rail (d : Dev) (mv : Nat) :
    (d.setVtxTgt mv).rail = { d.rail with vtxTgt := mv, vtxSoft := none } := rfl

/-- What VTX is commanded to: its target, the value it returns to and its command. -/
def Rails.vtxCommand (r : Rails) : Nat × Nat × Option Nat := (r.vtxTgt, r.vtxWant, r.vtxCmd)

theorem Dev.newVled_vtxCommand (d : Dev) (mv : Nat) :
    (d.supersedeVled.setVledTgt mv).rail.vtxCommand = d.rail.vtxCommand := by
  rw [Dev.setVledTgt_rail, d.supersedeVled_rail]
  split <;> rfl

theorem Dev.fld_newVled_vtx (d : Dev) (mv : Nat) :
    (d.supersedeVled.setVledTgt mv).fld RAIL_SUPERSEDED_VTX = d.fld RAIL_SUPERSEDED_VTX :=
  ((railed_setVledTgt (as := []) _ mv).fld List.not_mem_nil).trans d.fld_supersedeVled_vtx

/-- Where VLED is given a new target or left, what holds of both holds. -/
theorem Dev.retargetVled_induct {P : Dev → Prop} (d : Dev) (hsame : P d) (hnew : ∀ mv, P (d.supersedeVled.setVledTgt mv)) :
    P d.retargetVled := by
  unfold Dev.retargetVled
  split
  · exact hnew _
  · exact hsame

theorem Dev.followVtx_induct {P : Dev → Prop} (d : Dev) (hsame : P d) (hnew : ∀ mv, P (d.supersedeVled.setVledTgt mv)) :
    P d.followVtx := by
  unfold Dev.followVtx
  split
  · exact d.retargetVled_induct hsame hnew
  · split
    · exact hnew _
    · exact hsame

theorem railed_retargetVled (h : RAIL_SUPERSEDED ∈ as) (d : Dev) : Dev.Railed as d d.retargetVled :=
  d.retargetVled_induct (alters_refl d) (railed_newVled h d)

theorem railed_followVtx (h : RAIL_SUPERSEDED ∈ as) (d : Dev) : Dev.Railed as d d.followVtx :=
  d.followVtx_induct (alters_refl d) (railed_newVled h d)

theorem Dev.followVtx_vtxCommand (d : Dev) : d.followVtx.rail.vtxCommand = d.rail.vtxCommand :=
  d.followVtx_induct (P := fun x => x.rail.vtxCommand = d.rail.vtxCommand) rfl d.newVled_vtxCommand

theorem Dev.fld_followVtx_vtx (d : Dev) : d.followVtx.fld RAIL_SUPERSEDED_VTX = d.fld RAIL_SUPERSEDED_VTX :=
  d.followVtx_induct (P := fun x => x.fld RAIL_SUPERSEDED_VTX = d.fld RAIL_SUPERSEDED_VTX) rfl d.fld_newVled_vtx

theorem Dev.railClamp_same (d : Dev) (vtx : Bool) (v : Nat) : d.railClamp vtx v v = d := if_pos rfl

/-- Rail commands act by the mode and by whether the controller runs. -/
theorem Dev.railActs_congr {x : Dev} (hon : x.rail.on = d.rail.on) (hmode : x.mode = d.mode) (console : Bool) :
    x.railActs console = d.railActs console := by
  simp only [Dev.railActs, hon, hmode]

end Sys2Proof.Machine
end

section
/-!
SUPPORT. Field column repair (R670 to R672): what a repair copies, what its beginning and its end change, and O41.
-/

namespace Sys2Proof.Machine

variable {d e : Dev} {s : State}

/-! A sparse memory whose entries are written elsewhere. -/

theorem cellsGet_of_notMem {n : Nat} {dflt : Nat → BitVec n} {m : Cells n} {k : Nat} (h : k ∉ m.map Prod.fst) :
    cellsGet dflt m k = dflt k := by
  induction m with
  | nil => rfl
  | cons p m ih =>
    simp only [List.map_cons, List.mem_cons, not_or] at h
    obtain ⟨hne, hrest⟩ := h
    rw [cellsGet, if_neg (Ne.symm hne), ih hrest]

theorem cellsSorted_lt {n : Nat} {m : Cells n} {lo k : Nat} (hs : cellsSorted lo m = true) (hk : k ∈ m.map Prod.fst) :
    lo ≤ k := by
  induction m generalizing lo with
  | nil => simp at hk
  | cons p m ih =>
    simp only [cellsSorted, Bool.and_eq_true, decide_eq_true_eq] at hs
    obtain ⟨hlo, hrest⟩ := hs
    cases List.mem_cons.1 hk with
    | inl heq => omega
    | inr hmem => have := ih hrest hmem; omega

/-- The entries of a memory in canonical form, each written at a new address: the new address of an entry reads as the entry did. -/
theorem cellsGet_moved {n : Nat} {dflt : Nat → BitVec n} {g : Nat → Nat} {ps m : Cells n} {lo k : Nat}
    (hs : cellsSorted lo ps = true) (hinj : ∀ p ∈ ps, g p.1 = g k → p.1 = k) :
    cellsGet dflt (ps.foldl (fun m p => cellsSet dflt m (g p.1) p.2) m) (g k) =
      if k ∈ ps.map Prod.fst then cellsGet dflt ps k else cellsGet dflt m (g k) := by
  induction ps generalizing lo m with
  | nil => simp
  | cons p ps ih =>
    simp only [cellsSorted, Bool.and_eq_true, decide_eq_true_eq] at hs
    obtain ⟨-, hrest⟩ := hs
    rw [List.foldl_cons, ih hrest fun x hx => hinj x (List.mem_cons_of_mem _ hx), cellsGet_set]
    by_cases hk : p.1 = k
    · have hlater : k ∉ ps.map Prod.fst := fun h => by have := cellsSorted_lt hrest h; omega
      simp [hk, hlater, cellsGet]
    · have hne : g k ≠ g p.1 := fun h => hk (hinj p (by simp) h.symm)
      simp [hk, Ne.symm hk, hne, cellsGet]

/-! Step 3 (R670): the copy bank takes the repaired bank's words. -/

/-- A machine without its banks, the list of its uncorrectable words and its free choices. -/
def Dev.offCopies (d : Dev) : Dev := { d with banks := [], mem := { d.mem with bad := [] }, free := 0 }

/-- An entry of the repaired bank at its place in the copy bank. -/
def copyAddr (copy a : Nat) : Nat := copy * 16384 + a % 16384

/-- A memory with the copy bank cleared. -/
def copyCleared (m : Cells 24) (bank : Nat) : Cells 24 := m.filter fun p => p.1 / 16384 != copyBank bank

/-- The entries of the repaired bank. -/
def copySource (m : Cells 24) (bank : Nat) : Cells 24 := (copyCleared m bank).filter fun p => p.1 / 16384 == bank

/-- The banks with the repaired bank's entries in the copy bank. -/
def copyMoved (m : Cells 24) (bank : Nat) : Cells 24 :=
  (copySource m bank).foldl (fun m p => cellsSet bankDefault m (copyAddr (copyBank bank) p.1) p.2) (copyCleared m bank)

/-- The words without a stated layout. -/
def openWords (bank : Nat) : List Nat := (List.range 16384).filter (layoutOpen bank)

theorem mem_openWords {bank w : Nat} (h : w ∈ openWords bank) : w < 16384 ∧ layoutOpen bank w = true := by
  obtain ⟨hrange, hopen⟩ := List.mem_filter.1 h
  exact ⟨List.mem_range.1 hrange, hopen⟩

theorem foldl_setCells (ps : Cells 24) (d : Dev) :
    ps.foldl (fun d p => { d with banks := cellsSet bankDefault d.banks p.1 p.2 }) d =
      { d with banks := ps.foldl (fun m p => cellsSet bankDefault m p.1 p.2) d.banks } := by
  induction ps generalizing d with
  | nil => rfl
  | cons p ps ih => rw [List.foldl_cons, ih, List.foldl_cons]

/-- The words without a stated layout are free in the copy. -/
def Dev.copyFreed (d : Dev) (bank : Nat) : Dev := (openWords bank).foldl (fun d w => d.copyOpen (copyBank bank) w) d

/-- Step 3 but for the list of the uncorrectable words. -/
def Dev.copied (d : Dev) (bank : Nat) : Dev := { d with banks := copyMoved d.banks bank }.copyFreed bank

theorem Dev.copyOut_eq (d : Dev) (bank : Nat) :
    ∃ bad, d.copyOut bank = (d.copied bank).setMem { (d.copied bank).mem with bad := bad } := by
  have hmoved : (((d.banks.filter fun p => p.1 / 16384 != copyBank bank).filter fun p => p.1 / 16384 == bank).map fun p =>
      (copyBank bank * 16384 + p.1 % 16384, p.2)).foldl (fun d p => { d with banks := cellsSet bankDefault d.banks p.1 p.2 })
      { d with banks := d.banks.filter fun p => p.1 / 16384 != copyBank bank } =
      { d with banks := copyMoved d.banks bank } := by
    rw [foldl_setCells, List.foldl_map]
    exact Eq.refl _
  unfold Dev.copyOut
  extract_lets copy x moved y z kept copied
  have hy : y = { d with banks := copyMoved d.banks bank } := hmoved
  have hz : z = d.copied bank := congrArg (·.copyFreed bank) hy
  exact ⟨copied ++ kept, congrArg (fun x : Dev => x.setMem { x.mem with bad := copied ++ kept }) hz⟩

theorem Dev.banks_setMem (d : Dev) (m : Memory) : (d.setMem m).banks = d.banks := rfl

theorem Dev.offCopies_setMem (d : Dev) (bad : List Nat) :
    (d.setMem { d.mem with bad := bad }).offCopies = d.offCopies := rfl

theorem Dev.offCopies_banks (d : Dev) (m : Cells 24) : Dev.offCopies { d with banks := m } = d.offCopies := rfl

theorem Dev.offCopies_regs (d : Dev) : d.offCopies.regs = d.regs := rfl

theorem Dev.copyOut_banks (d : Dev) (bank : Nat) : (d.copyOut bank).banks = (d.copied bank).banks := by
  obtain ⟨bad, h⟩ := d.copyOut_eq bank
  rw [h, Dev.banks_setMem]

theorem Dev.copyOut_rest (d : Dev) (bank : Nat) : (d.copyOut bank).offCopies = d.offCopies := by
  have hfreed (x : Dev) : (x.copyFreed bank).offCopies = x.offCopies := foldl_keeps Dev.offCopies _ x fun _ _ _ => rfl
  obtain ⟨bad, h⟩ := d.copyOut_eq bank
  rw [h, Dev.offCopies_setMem, Dev.copied, hfreed, Dev.offCopies_banks]

theorem altersCopies (d : Dev) (bank : Nat) : Dev.Alters Dev.offCopies [] d (d.copyOut bank) := by
  refine ⟨fun a _ => ?_, d.copyOut_rest bank⟩
  simp only [Dev.reg, ← (d.copyOut bank).offCopies_regs, d.copyOut_rest bank, d.offCopies_regs]

/-- A word of the copy that has no stated layout does not touch another word. -/
theorem Dev.bank_copyFreed (d : Dev) {bank b n : Nat}
    (h : ∀ w < 16384, layoutOpen bank w = true → bankAddr b n ≠ bankAddr (copyBank bank) w) :
    (d.copyFreed bank).bank b n = d.bank b n := by
  refine foldl_keeps (fun x => x.bank b n) _ d fun x w hw => ?_
  obtain ⟨hrange, hopen⟩ := mem_openWords hw
  exact (Dev.bank_setBank ..).trans (if_neg (h w hrange hopen))

theorem cellsGet_moved_ne {g : Nat → Nat} (ps m : Cells 24) {k : Nat} (h : ∀ p ∈ ps, k ≠ g p.1) :
    cellsGet bankDefault (ps.foldl (fun m p => cellsSet bankDefault m (g p.1) p.2) m) k = cellsGet bankDefault m k := by
  induction ps generalizing m with
  | nil => rfl
  | cons p ps ih =>
    rw [List.foldl_cons, ih _ fun x hx => h x (List.mem_cons_of_mem _ hx), cellsGet_set, if_neg (h p (by simp))]

theorem bankAddr_div (b n : Nat) : bankAddr b n / 16384 = b := by
  unfold bankAddr
  omega

theorem copyAddr_div (copy a : Nat) : copyAddr copy a / 16384 = copy := by
  unfold copyAddr
  omega

/-- Every bank but the copy bank keeps its words. -/
theorem Dev.bank_copyOut_ne (d : Dev) {bank b : Nat} (n : Nat) (h : b ≠ copyBank bank) :
    (d.copyOut bank).bank b n = d.bank b n := by
  have hapart (w : Nat) : bankAddr b n ≠ bankAddr (copyBank bank) w := fun heq =>
    h (by rw [← bankAddr_div b n, heq, bankAddr_div])
  have hmoved (p : Nat × Word) : bankAddr b n ≠ copyAddr (copyBank bank) p.1 := fun heq =>
    h (by rw [← bankAddr_div b n, heq, copyAddr_div])
  calc (d.copyOut bank).bank b n = (d.copied bank).bank b n := by simp only [Dev.bank, d.copyOut_banks]
    _ = cellsGet bankDefault (copyMoved d.banks bank) (bankAddr b n) := Dev.bank_copyFreed _ fun w _ _ => hapart w
    _ = cellsGet bankDefault (copyCleared d.banks bank) (bankAddr b n) := cellsGet_moved_ne _ _ fun p _ => hmoved p
    _ = d.bank b n := by
      rw [copyCleared, cellsGet_filter (fun a => a / 16384 != copyBank bank)]
      simp [bankAddr_div, h, Dev.bank]

/-- The copy bank holds the repaired bank's words, but for those without a stated layout. -/
theorem Dev.bank_copyOut_copy (d : Dev) {bank n : Nat} (hwf : cellsWf bankDefault d.banks = true) (hn : n < 16384)
    (hlaid : layoutOpen bank n = false) : (d.copyOut bank).bank (copyBank bank) n = d.bank bank n := by
  have hother : bank ≠ copyBank bank := by unfold copyBank; split <;> omega
  have hapart : ∀ w < 16384, layoutOpen bank w = true → bankAddr (copyBank bank) n ≠ bankAddr (copyBank bank) w := by
    intro w hw hopen heq
    have hwn : w = n := by
      unfold bankAddr at heq
      omega
    rw [hwn, hlaid] at hopen
    exact absurd hopen (by decide)
  have hsorted : cellsSorted 0 (copySource d.banks bank) = true := by
    simp only [cellsWf, Bool.and_eq_true] at hwf
    exact cellsSorted_filter _ (cellsSorted_filter _ hwf.1)
  have hkey : bankAddr (copyBank bank) n = copyAddr (copyBank bank) (bankAddr bank n) := by
    unfold copyAddr bankAddr
    omega
  have hentry : cellsGet bankDefault (copySource d.banks bank) (bankAddr bank n) = d.bank bank n := by
    rw [copySource, cellsGet_filter (fun a => a / 16384 == bank), copyCleared,
      cellsGet_filter (fun a => a / 16384 != copyBank bank)]
    simp [bankAddr_div, hother, Dev.bank]
  have hcleared : cellsGet bankDefault (copyCleared d.banks bank) (copyAddr (copyBank bank) (bankAddr bank n)) = 0 := by
    rw [copyCleared, cellsGet_filter (fun a => a / 16384 != copyBank bank)]
    simp [copyAddr_div, bankDefault]
  have hinj : ∀ p ∈ copySource d.banks bank,
      copyAddr (copyBank bank) p.1 = copyAddr (copyBank bank) (bankAddr bank n) → p.1 = bankAddr bank n := by
    intro p hp heq
    obtain ⟨-, hbank⟩ := List.mem_filter.1 hp
    have hpb : p.1 / 16384 = bank := by simpa using hbank
    unfold copyAddr at heq
    unfold bankAddr at heq ⊢
    omega
  calc (d.copyOut bank).bank (copyBank bank) n = (d.copied bank).bank (copyBank bank) n := by
        simp only [Dev.bank, d.copyOut_banks]
    _ = cellsGet bankDefault (copyMoved d.banks bank) (bankAddr (copyBank bank) n) := Dev.bank_copyFreed _ hapart
    _ = if bankAddr bank n ∈ (copySource d.banks bank).map Prod.fst then d.bank bank n else 0 := by
      rw [hkey, copyMoved, cellsGet_moved hsorted hinj, hentry, hcleared]
    _ = d.bank bank n := by
      split
      · rfl
      next hnone =>
        rw [← hentry, cellsGet_of_notMem hnone]
        rfl

end Sys2Proof.Machine
end
section
/-!
SUPPORT. The beginning and the end of a repair (R670, R671, R676), and O41.
-/

namespace Sys2Proof.Machine

variable {d e : Dev} {s : State} {as : List Nat}

/-! The beginning. -/

theorem Dev.writeRepcmd_unkeyed {v : Word} (h : wGet v 16 8 ≠ 0x5A) : d.writeRepcmd v = d.ignoreWrite := if_neg h

theorem Dev.writeRepcmd_keyed {v : Word} (h : wGet v 16 8 = 0x5A) :
    d.writeRepcmd v = d.repairBegin (wGet v 10 4) (wGet v 0 10) false := if_pos h

/-- A repair that its checks refuse shows the result and the request. -/
theorem Dev.repairBegin_refused {bank c : Nat} (console : Bool) (hnone : d.mem.repair = none) (hc : c < 1024)
    (hcheck : d.repairCheck bank c ≠ 0) :
    d.repairBegin bank c console = d.setReg MEM_REPSTAT (pack [(d.repairCheck bank c, 20), (bank, 15), (c, 0)]) := by
  unfold Dev.repairBegin
  rw [if_pos hcheck, if_neg (by simp [hnone]), Nat.mod_eq_of_lt hc]

theorem Dev.repairCheck_closed (bank c : Nat) (h : d.serviceOpen = false) : d.repairCheck bank c = 2 :=
  if_pos (Or.inl h)

theorem Dev.repairCheck_open {bank : Nat} (c : Nat) (hopen : d.serviceOpen = true) (hnone : d.mem.repair = none) :
    d.repairCheck bank c = if d.freeSpare bank = none then 3 else if 959 < c ∨ d.replacedColumn bank c = true then 4 else 0 :=
  if_neg (by simp [hopen, hnone])

/-- While the repair runs: its request is shown and noted. -/
def Dev.repairShown (d : Dev) (bank c sp : Nat) (console : Bool) : Dev :=
  ((d.setReg MEM_REPSTAT (pack [(1, 19), (bank, 15), (sp, 14), (c, 0)])).setFlag MEM_STAT_REPAIRING true).setMem
    { d.mem with repair := some (bank, c), console := console }

theorem Dev.repairBegin_starts {bank c sp : Nat} (console : Bool) (hcheck : d.repairCheck bank c = 0)
    (hspare : d.freeSpare bank = some sp) :
    d.repairBegin bank c console = (d.repairShown bank c sp console).repairVtxOn := by
  unfold Dev.repairBegin
  rw [if_neg (by simp [hcheck]), hspare]
  rfl

/-- VTX on its way to 9.0 V, where VLED is not fixed (R715, R725). -/
theorem railed_repairVtxOn (h : d.flag RAIL_STAT_FIXED = false) :
    Dev.Railed [RAIL_STAT, RAIL_SUPERSEDED] d d.repairVtxOn ∧ d.repairVtxOn.rail.vtxTgt = 9000 := by
  unfold Dev.repairVtxOn
  extract_lets before regulated v x _ y
  have hv : v = 900 := if_neg (by simp [h])
  have hx : x = d.supersedeVtx.setVtxTgt 9000 := by simp only [x, hv, Dev.railClamp_same]
  have hy : Dev.Railed [RAIL_STAT, RAIL_SUPERSEDED] d y :=
    railed_setRail (hx ▸ railed_newVtx (by decide) d 9000)
  have htgt : y.rail.vtxTgt = 9000 := by show x.rail.vtxTgt = 9000; rw [hx]; rfl
  split
  · exact ⟨alters_trans hy (railed_followVtx (by decide) y), (congrArg Prod.fst y.followVtx_vtxCommand :).trans htgt⟩
  · exact ⟨alters_setFld hy (by decide), htgt⟩

/-! The end. -/

/-- What a machine keeps while a repair ends: all but registers, rails, scan, memory state and reports. -/
def Dev.offRepair (d : Dev) : Dev := { d.offRails with mem := {}, rpt := {} }

/-- The registers of the repair and the rails that the end of a repair changes, beside the call for a resync. -/
def repairRegs : List Nat := [RAIL_SUPERSEDED, RAIL_STAT, MEM_REPSTAT, MEM_STAT, TRK_RPT_STAT]

theorem railed_railsOff (hstat : RAIL_STAT ∈ as) (hsup : RAIL_SUPERSEDED ∈ as) (d : Dev) : Dev.Railed as d d.railsOff :=
  railed_setRail (alters_setFld (alters_setFld (alters_setFld
    (alters_trans (railed_supersedeVled hsup d) (railed_supersedeVtx hsup _)) hstat) hstat) hstat)

theorem railed_repairVtxOff (d : Dev) : Dev.Railed repairRegs d d.repairVtxOff := by
  unfold Dev.repairVtxOff
  split
  · exact alters_refl d
  next mv _ =>
    extract_lets x _ y
    have hy : Dev.Railed repairRegs d y := railed_setRail (railed_newVtx (by decide) d mv)
    split
    · exact alters_trans hy (railed_railsOff (by decide) (by decide) y)
    · exact hy

/-- The registers once VTX and the bank are back. -/
def Dev.repairShut (d : Dev) (result : Nat) : Dev :=
  let d := (d.setMem { d.mem with repair := none }).repairVtxOff
  ((d.setFld MEM_REPSTAT_RESULT result).setFlag MEM_REPSTAT_BUSY false).setFlag MEM_STAT_REPAIRING false

/-- A repair ended, but for its report. -/
def Dev.repairClosed (d : Dev) (bank result : Nat) : Dev :=
  let d := d.repairShut result
  let d := if bank = 8 ∨ bank = 9 then d.askBurst else d
  d.setMem { d.mem with waiting := [] }

theorem alters_repairShut (d : Dev) (result : Nat) : Dev.Alters Dev.offRepair repairRegs d (d.repairShut result) := by
  have hfreed : Dev.Alters Dev.offRepair repairRegs d (d.setMem { d.mem with repair := none }) :=
    alters_of (alters_refl d) rfl rfl
  have hvtx := (railed_repairVtxOff (d.setMem { d.mem with repair := none })).weaken (p := Dev.offRepair) fun _ => rfl
  exact alters_setFlag (alters_setFlag (alters_setFld (alters_trans hfreed hvtx) (by decide)) (by decide)) (by decide)

theorem alters_askBurst (h : Dev.Alters Dev.offRepair as d e) (ha : TRK_RPT_STAT ∈ as) :
    Dev.Alters Dev.offRepair as d e.askBurst := by
  have hasked : Dev.Alters Dev.offRepair as d { e with rpt := { e.rpt with burstAsked := true } } := alters_of h rfl rfl
  exact alters_setFlag hasked (g := TRK_RPT_STAT_RSPEND) ha

theorem alters_repairClosed (d : Dev) (bank result : Nat) :
    Dev.Alters Dev.offRepair repairRegs d (d.repairClosed bank result) := by
  unfold Dev.repairClosed
  extract_lets x y
  have hy : Dev.Alters Dev.offRepair repairRegs d y := by
    unfold y
    split
    · exact alters_askBurst (alters_repairShut d result) (by decide)
    · exact alters_repairShut d result
  exact alters_of hy rfl rfl

theorem Dev.repairShut_mem (d : Dev) (result : Nat) : (d.repairShut result).mem = { d.mem with repair := none } :=
  (railed_repairVtxOff (d.setMem { d.mem with repair := none })).keeps (·.mem) fun _ => rfl

theorem Dev.repairClosed_mem (d : Dev) (bank result : Nat) :
    (d.repairClosed bank result).mem = { d.mem with repair := none, waiting := [] } := by
  have h := d.repairShut_mem result
  unfold Dev.repairClosed
  extract_lets x y
  have hy : y.mem = { d.mem with repair := none } := by
    unfold y
    split
    · exact h
    · exact h
  show { y.mem with waiting := [] } = _
  rw [hy]

theorem Dev.repairClosed_reg (d : Dev) {bank result a : Nat} (ha : a ≠ TRK_RPT_STAT) :
    (d.repairClosed bank result).reg a = (d.repairShut result).reg a := by
  unfold Dev.repairClosed
  extract_lets x y
  show y.reg a = x.reg a
  unfold y
  split
  · exact Dev.reg_setFld_ne { x with rpt := { x.rpt with burstAsked := true } } TRK_RPT_STAT_RSPEND _ ha
  · rfl

theorem Dev.repairClosed_fld (d : Dev) {bank result : Nat} {g : Fld} (ha : g.addr ≠ TRK_RPT_STAT) :
    (d.repairClosed bank result).fld g = (d.repairShut result).fld g := by
  rw [Dev.fld, d.repairClosed_reg ha, ← Dev.fld]

theorem Dev.repairShut_shows (d : Dev) {result : Nat} (hr : result < 2 ^ MEM_REPSTAT_RESULT.width) :
    (d.repairShut result).fld MEM_REPSTAT_RESULT = result ∧ (d.repairShut result).flag MEM_REPSTAT_BUSY = false ∧
      (d.repairShut result).flag MEM_STAT_REPAIRING = false := by
  refine ⟨?_, ?_, Dev.flag_setFlag_same _ _ _ (by decide) (by decide)⟩
  · refine ((Dev.fld_setFlag_apart _ _ (by decide) (by decide)).trans
      (Dev.fld_setFlag_apart _ _ (by decide) (by decide))).trans ((Dev.fld_setFld_same _ _ _ (by decide)).trans ?_)
    exact Nat.mod_eq_of_lt hr
  · exact (Dev.flag_setFlag_apart _ _ (by decide) (by decide)).trans (Dev.flag_setFlag_same _ _ _ (by decide) (by decide))

theorem Dev.repairEnd_none (result poisoned : Nat) (h : d.mem.repair = none) : d.repairEnd result poisoned = d := by
  simp only [Dev.repairEnd, h]

/-- The repair that runs ends: what waited for the bank is performed before the report. -/
theorem Dev.repairEnd_some {bank c : Nat} (result poisoned : Nat) (h : d.mem.repair = some (bank, c)) :
    d.repairEnd result poisoned =
      (fun x : Dev => (x.ring 132 (x.reg MEM_REPSTAT) (word poisoned)).repairAnswer)
        (if bank = 8 ∨ bank = 9 then (d.repairShut result).askBurst else d.repairShut result).performWaiting := by
  unfold Dev.repairEnd
  rw [h]
  rfl

theorem Dev.performWaiting_nil (h : d.mem.waiting = []) : d.performWaiting = d.setMem { d.mem with waiting := [] } := by
  unfold Dev.performWaiting
  rw [h]
  rfl

theorem Dev.repairAnswer_quiet (h : d.mem.console = false) : d.repairAnswer = d := if_neg (by simp [h])

theorem Dev.ring_mem_console (d : Dev) (src : Nat) (w1 w2 : Word) : (d.ring src w1 w2).mem.console = d.mem.console :=
  (altersRing_ring (q := id) (as := []) (altersRing_refl d)).keeps (·.mem.console) fun _ => rfl

/-- The end of a repair that no access waits for and no console command began: its report is the last thing. -/
theorem Dev.repairEnd_reports {bank c : Nat} (result poisoned : Nat) (hrepair : d.mem.repair = some (bank, c))
    (hconsole : d.mem.console = false) (hwaiting : d.mem.waiting = []) :
    d.repairEnd result poisoned =
      (d.repairClosed bank result).ring 132 ((d.repairClosed bank result).reg MEM_REPSTAT) (word poisoned) := by
  have hnone : (if bank = 8 ∨ bank = 9 then (d.repairShut result).askBurst else d.repairShut result).mem.waiting = [] := by
    have hshut : (d.repairShut result).mem.waiting = [] := by rw [d.repairShut_mem]; exact hwaiting
    split
    · exact hshut
    · exact hshut
  have hclosed : (d.repairClosed bank result).mem.console = false := by rw [d.repairClosed_mem]; exact hconsole
  rw [Dev.repairEnd_some result poisoned hrepair, Dev.performWaiting_nil hnone]
  exact Dev.repairAnswer_quiet ((Dev.ring_mem_console ..).trans hclosed)

end Sys2Proof.Machine
end
section
/-!
SUPPORT. The spare entry that a repair programs (R672), and O41.
-/

namespace Sys2Proof.Machine

variable {d e : Dev} {s : State}

/-! The spare entry. -/

/-- MEM_SPARE with one of its entries written. -/
def spareWord (w : Word) (sp : Nat) (valid killed : Bool) (c : Nat) : Word :=
  wSet (wSet (wSet w (12 * sp + 11) 1 (bit valid)) (12 * sp + 10) 1 (bit killed)) (12 * sp) 10 c

theorem Dev.setSpare_reg (d : Dev) (bank sp : Nat) (valid killed : Bool) (c : Nat) :
    (d.setSpare bank sp valid killed c).reg (MEM_SPARE bank) = spareWord (d.reg (MEM_SPARE bank)) sp valid killed c :=
  (Dev.reg_setReg ..).trans (if_pos rfl)

theorem Dev.setSpare_spares (d : Dev) (bank sp : Nat) (valid killed : Bool) (c : Nat) :
    (d.setSpare bank sp valid killed c).fuses.spares =
      d.fuses.spares.set bank (spareWord (d.reg (MEM_SPARE bank)) sp valid killed c) := rfl

theorem wGet_spareWord (w : Word) {sp : Nat} (valid killed : Bool) {c : Nat} (hsp : sp ≤ 1) :
    wGet (spareWord w sp valid killed c) (12 * sp + 11) 1 = bit valid ∧
      wGet (spareWord w sp valid killed c) (12 * sp + 10) 1 = bit killed ∧
      wGet (spareWord w sp valid killed c) (12 * sp) 10 = c % 1024 := by
  have hbit (b : Bool) : bit b % 2 ^ 1 = bit b := by cases b <;> rfl
  refine ⟨?_, ?_, wGet_wSet_same _ _ _ _ (by omega)⟩
  · rw [spareWord, wGet_wSet_apart _ _ (by omega) (by omega), wGet_wSet_apart _ _ (by omega) (by omega),
      wGet_wSet_same _ _ _ _ (by omega), hbit]
  · rw [spareWord, wGet_wSet_apart _ _ (by omega) (by omega), wGet_wSet_same _ _ _ _ (by omega), hbit]

theorem bit_ne_zero (b : Bool) : (bit b != 0) = b := by cases b <;> rfl

/-- A spare entry as MEM_SPARE shows it. -/
theorem Dev.spare_shows {bank sp c : Nat} {valid killed : Bool} {w : Word} (hsp : sp ≤ 1)
    (h : d.reg (MEM_SPARE bank) = spareWord w sp valid killed c) :
    (sp = 0 → d.flag (MEM_SPARE_V0 bank) = valid ∧ d.flag (MEM_SPARE_K0 bank) = killed ∧ d.fld (MEM_SPARE_C0 bank) = c % 1024) ∧
      (sp = 1 → d.flag (MEM_SPARE_V1 bank) = valid ∧ d.flag (MEM_SPARE_K1 bank) = killed ∧
        d.fld (MEM_SPARE_C1 bank) = c % 1024) := by
  obtain ⟨hvalid, hkilled, hcolumn⟩ := wGet_spareWord w valid killed (c := c) hsp
  rw [← h] at hvalid hkilled hcolumn
  constructor
  · rintro rfl
    exact ⟨(congrArg (· != 0) hvalid).trans (bit_ne_zero _), (congrArg (· != 0) hkilled).trans (bit_ne_zero _), hcolumn⟩
  · rintro rfl
    exact ⟨(congrArg (· != 0) hvalid).trans (bit_ne_zero _), (congrArg (· != 0) hkilled).trans (bit_ne_zero _), hcolumn⟩

/-! The end of a repair, seen from outside. -/

/-- What the end of a repair leaves of a machine x in which it ran: the result is shown and raised, the spares stand. -/
structure RepairOver (x t : Dev) (result poisoned : Nat) : Prop where
  repair : t.mem.repair = none
  busy : t.flag MEM_REPSTAT_BUSY = false
  repairing : t.flag MEM_STAT_REPAIRING = false
  result : t.fld MEM_REPSTAT_RESULT = result
  fuses : t.fuses = x.fuses
  spare : ∀ b, b < 16 → t.reg (MEM_SPARE b) = x.reg (MEM_SPARE b)
  bank : ∀ b n, b ≠ 8 → t.bank b n = x.bank b n
  raised : ∃ e : Dev, t = e.ring 132 (t.reg MEM_REPSTAT) (word poisoned)

theorem spare_notMem {b : Nat} (hb : b < 16) : MEM_SPARE b ∉ repairRegs ∧ MEM_SPARE b ∉ ringRegs := by
  interval_cases b <;> decide

theorem repairOver_repairEnd {bank c result : Nat} (poisoned : Nat) (hrepair : d.mem.repair = some (bank, c))
    (hconsole : d.mem.console = false) (hwaiting : d.mem.waiting = []) (hresult : result < 16) :
    RepairOver d (d.repairEnd result poisoned) result poisoned := by
  rw [Dev.repairEnd_reports result poisoned hrepair hconsole hwaiting]
  obtain ⟨hres, hbusy, hrun⟩ := d.repairShut_shows hresult
  have hclosed := alters_repairClosed d bank result
  have hfld (g : Fld) (hg : g.addr ≠ TRK_RPT_STAT) (hring : g.addr ∉ ringRegs) (src : Nat) (w1 w2 : Word) :
      ((d.repairClosed bank result).ring src w1 w2).fld g = (d.repairShut result).fld g :=
    (Dev.ring_fld hring ..).trans (d.repairClosed_fld hg)
  refine ⟨?_, ?_, ?_, (hfld _ (by decide) (by decide) ..).trans hres, ?_, fun b hb => ?_, fun b n hb => ?_,
    d.repairClosed bank result, ?_⟩
  · rw [Dev.ring_mem_repair, d.repairClosed_mem]
  · exact (congrArg (· != 0) (hfld MEM_REPSTAT_BUSY (by decide) (by decide) ..)).trans hbusy
  · exact (congrArg (· != 0) (hfld MEM_STAT_REPAIRING (by decide) (by decide) ..)).trans hrun
  · rw [Dev.ring_fuses]
    exact hclosed.keeps (·.fuses) fun _ => rfl
  · obtain ⟨hregs, hring⟩ := spare_notMem hb
    exact (Dev.ring_reg hring ..).trans (hclosed.reg _ hregs)
  · exact (Dev.ring_bank hb ..).trans (hclosed.keeps (·.bank b n) fun _ => rfl)
  · rw [Dev.ring_reg (a := MEM_REPSTAT) (by decide)]

/-! Steps 3 to 8. -/

theorem altersCopies_draw (h : Dev.Alters Dev.offCopies [] d e) (n : Nat) : Dev.Alters Dev.offCopies [] d (e.draw n).2 :=
  alters_of h rfl rfl

theorem Dev.bank_draw (d : Dev) (n b w : Nat) : (d.draw n).2.bank b w = d.bank b w := rfl

/-- Steps 4 to 8, once the words are copied. -/
def Dev.repairProgram (d : Dev) (bank c : Nat) (fuseOk verifyOk : Bool) : Dev :=
  if fuseOk then
    (d.setSpare bank (d.fld MEM_REPSTAT_SPARE) true false c).repairEnd (if verifyOk then 1 else 6)
      (d.mem.bad.filter fun a => a / 16384 == bank).length
  else
    (((d.draw 2).2.draw 1024).2.setSpare bank (d.fld MEM_REPSTAT_SPARE) ((d.draw 2).1 == 1) true
      ((d.draw 2).2.draw 1024).1).repairEnd 6 0

theorem Dev.repairRun_none (h : d.mem.repair = none) (fuseOk verifyOk : Bool) : d.repairRun fuseOk verifyOk = d := by
  unfold Dev.repairRun
  rw [h]

theorem Dev.repairRun_some {bank c : Nat} (hrepair : d.mem.repair = some (bank, c)) (fuseOk verifyOk : Bool) :
    d.repairRun fuseOk verifyOk = (d.copyOut bank).repairProgram bank c fuseOk verifyOk := by
  unfold Dev.repairRun Dev.repairProgram
  rw [hrepair]

/-- The entry programmed and read back: valid with its column, or killed. -/
theorem Dev.repairProgram_ends (d : Dev) (bank c : Nat) (fuseOk verifyOk : Bool) :
    ∃ (e0 : Dev) (valid : Bool) (column poisoned : Nat), Dev.Alters Dev.offCopies [] d e0 ∧
      (∀ b n, e0.bank b n = d.bank b n) ∧ (fuseOk = true → valid = true ∧ column = c) ∧
      d.repairProgram bank c fuseOk verifyOk = (e0.setSpare bank (d.fld MEM_REPSTAT_SPARE) valid (!fuseOk) column).repairEnd
        (if fuseOk = true ∧ verifyOk = true then 1 else 6) poisoned := by
  cases fuseOk with
  | true =>
    refine ⟨d, true, c, (d.mem.bad.filter fun a => a / 16384 == bank).length, alters_refl d, fun _ _ => rfl,
      fun _ => ⟨rfl, rfl⟩, ?_⟩
    simp only [Dev.repairProgram, if_true, true_and, Bool.not_true]
  | false =>
    exact ⟨((d.draw 2).2.draw 1024).2, (d.draw 2).1 == 1, ((d.draw 2).2.draw 1024).1, 0,
      altersCopies_draw (altersCopies_draw (alters_refl d) 2) 1024, fun b n => (Dev.bank_draw ..).trans (Dev.bank_draw ..),
      fun h => absurd h Bool.false_ne_true, by simp [Dev.repairProgram]⟩

theorem fld_spare_le (d : Dev) : d.fld MEM_REPSTAT_SPARE ≤ 1 := Nat.lt_succ_iff.1 (wGet_lt _ MEM_REPSTAT_SPARE.lsb 1)

/-- What steps 4 to 8 leave of a machine d with the words copied: the result, and the entry as it is programmed. -/
structure RepairDone (d t : Dev) (bank c : Nat) (fuseOk verifyOk : Bool) : Prop where
  repair : t.mem.repair = none
  busy : t.flag MEM_REPSTAT_BUSY = false
  repairing : t.flag MEM_STAT_REPAIRING = false
  result : t.fld MEM_REPSTAT_RESULT = if fuseOk = true ∧ verifyOk = true then 1 else 6
  spares : t.fuses.spares = d.fuses.spares.set bank (t.reg (MEM_SPARE bank))
  words : ∀ b n, b ≠ 8 → t.bank b n = d.bank b n
  entry0 : d.fld MEM_REPSTAT_SPARE = 0 → t.flag (MEM_SPARE_K0 bank) = !fuseOk ∧
    (fuseOk = true → t.flag (MEM_SPARE_V0 bank) = true ∧ t.fld (MEM_SPARE_C0 bank) = c)
  entry1 : d.fld MEM_REPSTAT_SPARE = 1 → t.flag (MEM_SPARE_K1 bank) = !fuseOk ∧
    (fuseOk = true → t.flag (MEM_SPARE_V1 bank) = true ∧ t.fld (MEM_SPARE_C1 bank) = c)
  raised : ∃ (e : Dev) (w : Word), t = e.ring 132 (t.reg MEM_REPSTAT) w

theorem repairDone_repairProgram {bank c : Nat} (hrepair : d.mem.repair = some (bank, c)) (hconsole : d.mem.console = false)
    (hwaiting : d.mem.waiting = []) (hbank : bank < 16) (hc : c < 1024) (fuseOk verifyOk : Bool) :
    RepairDone d (d.repairProgram bank c fuseOk verifyOk) bank c fuseOk verifyOk := by
  obtain ⟨e0, valid, column, poisoned, hfree, hbanks, hok, hrun⟩ := d.repairProgram_ends bank c fuseOk verifyOk
  rw [hrun]
  generalize hx : e0.setSpare bank (d.fld MEM_REPSTAT_SPARE) valid (!fuseOk) column = x
  have hmem : x.mem = e0.mem := by rw [← hx]; rfl
  have hxbanks (b n : Nat) : x.bank b n = e0.bank b n := by rw [← hx]; rfl
  have hword := e0.setSpare_reg bank (d.fld MEM_REPSTAT_SPARE) valid (!fuseOk) column
  have hspares := e0.setSpare_spares bank (d.fld MEM_REPSTAT_SPARE) valid (!fuseOk) column
  rw [hx] at hword hspares
  have hfuses : e0.fuses = d.fuses := hfree.keeps (·.fuses) fun _ => rfl
  have hover := repairOver_repairEnd (d := x) (bank := bank) (c := c) (result := if fuseOk = true ∧ verifyOk = true then 1 else 6)
    poisoned (by rw [hmem, hfree.keeps (·.mem.repair) fun _ => rfl, hrepair])
    (by rw [hmem, hfree.keeps (·.mem.console) fun _ => rfl, hconsole])
    (by rw [hmem, hfree.keeps (·.mem.waiting) fun _ => rfl, hwaiting]) (by split <;> decide)
  have hshown := (hover.spare bank hbank).trans hword
  obtain ⟨hentry0, hentry1⟩ := Dev.spare_shows (fld_spare_le d) hshown
  obtain ⟨e, hraised⟩ := hover.raised
  refine ⟨hover.repair, hover.busy, hover.repairing, hover.result, ?_, fun b n h8 => ?_, fun h0 => ?_, fun h1 => ?_,
    e, _, hraised⟩
  · rw [hover.fuses, hshown, hspares, hfuses]
  · rw [hover.bank b n h8, hxbanks, hbanks]
  · obtain ⟨hvalid, hkilled, hcolumn⟩ := hentry0 h0
    refine ⟨hkilled, fun hf => ?_⟩
    obtain ⟨rfl, rfl⟩ := hok hf
    exact ⟨hvalid, hcolumn.trans (Nat.mod_eq_of_lt hc)⟩
  · obtain ⟨hvalid, hkilled, hcolumn⟩ := hentry1 h1
    refine ⟨hkilled, fun hf => ?_⟩
    obtain ⟨rfl, rfl⟩ := hok hf
    exact ⟨hvalid, hcolumn.trans (Nat.mod_eq_of_lt hc)⟩

/-- A repair whose VTX is ready: what `RepairDone` says of the copied words, which are the repaired bank's. -/
theorem repairRun_done {bank c : Nat} (hrepair : d.mem.repair = some (bank, c)) (hconsole : d.mem.console = false)
    (hwaiting : d.mem.waiting = []) (hbank : bank < 16) (hc : c < 1024) (fuseOk verifyOk : Bool) :
    ∃ x : Dev, RepairDone x (d.repairRun fuseOk verifyOk) bank c fuseOk verifyOk ∧ x.fuses = d.fuses ∧
      x.fld MEM_REPSTAT_SPARE = d.fld MEM_REPSTAT_SPARE ∧ (∀ b n, b ≠ copyBank bank → x.bank b n = d.bank b n) ∧
      (cellsWf bankDefault d.banks = true → ∀ n, n < 16384 → layoutOpen bank n = false →
        x.bank (copyBank bank) n = d.bank bank n) := by
  have hmoved := altersCopies d bank
  have hwords (b n : Nat) (hne : b ≠ copyBank bank) := d.bank_copyOut_ne n hne
  have hcopy (hwf : cellsWf bankDefault d.banks = true) (n : Nat) (hn : n < 16384) (hlaid : layoutOpen bank n = false) :=
    d.bank_copyOut_copy hwf hn hlaid
  rw [Dev.repairRun_some hrepair]
  generalize d.copyOut bank = x at *
  have hkept : x.mem.repair = some (bank, c) ∧ x.mem.console = false ∧ x.mem.waiting = [] :=
    ⟨(hmoved.keeps (·.mem.repair) fun _ => rfl).trans hrepair, (hmoved.keeps (·.mem.console) fun _ => rfl).trans hconsole,
      (hmoved.keeps (·.mem.waiting) fun _ => rfl).trans hwaiting⟩
  obtain ⟨hrepair', hconsole', hwaiting'⟩ := hkept
  exact ⟨x, repairDone_repairProgram hrepair' hconsole' hwaiting' hbank hc fuseOk verifyOk,
    hmoved.keeps (·.fuses) fun _ => rfl, hmoved.fld List.not_mem_nil, hwords, hcopy⟩

/-! The commands. -/

theorem Dev.setReg_shows (d : Dev) (a : Nat) (w : Word) :
    (d.setReg a w).reg a = w ∧ (d.setReg a w).mem = d.mem ∧ d.leaves (d.setReg a w) [a] :=
  ⟨(Dev.reg_setReg ..).trans (if_pos rfl), rfl, leaves_setReg (d.leaves_refl _) (List.mem_singleton_self a)⟩

theorem Dev.writeRepcmd_refused {v : Word} (hkey : wGet v 16 8 = 0x5A) (hnone : d.mem.repair = none)
    (hcheck : d.repairCheck (wGet v 10 4) (wGet v 0 10) ≠ 0) : d.writeRepcmd v = d.setReg MEM_REPSTAT
      (pack [(d.repairCheck (wGet v 10 4) (wGet v 0 10), 20), (wGet v 10 4, 15), (wGet v 0 10, 0)]) := by
  rw [Dev.writeRepcmd_keyed hkey, Dev.repairBegin_refused false hnone (wGet_lt v 0 10) hcheck]

theorem repair_refused {rq : Requester} {v : Word} (hkey : wGet v 16 8 = 0x5A) (hnone : s.dev.mem.repair = none)
    (hcheck : s.dev.repairCheck (wGet v 10 4) (wGet v 0 10) ≠ 0) : Completes (.repair rq v) s fun t =>
      t.reg MEM_REPSTAT = pack [(s.dev.repairCheck (wGet v 10 4) (wGet v 0 10), 20), (wGet v 10 4, 15), (wGet v 0 10, 0)] ∧
        t.mem = s.dev.mem ∧ s.dev.leaves t [MEM_REPSTAT] := by
  refine completes_of (f := fun d => d.writeRepcmd v) rfl ?_
  rw [Dev.writeRepcmd_refused hkey hnone hcheck]
  exact Dev.setReg_shows ..

theorem repair_starts {rq : Requester} {v : Word} {sp : Nat} (hkey : wGet v 16 8 = 0x5A)
    (hcheck : s.dev.repairCheck (wGet v 10 4) (wGet v 0 10) = 0) (hsp : s.dev.freeSpare (wGet v 10 4) = some sp)
    (hfixed : s.dev.flag RAIL_STAT_FIXED = false) : Completes (.repair rq v) s fun t =>
      t.mem.repair = some (wGet v 10 4, wGet v 0 10) ∧ t.rail.vtxTgt = 9000 ∧
        t.reg MEM_REPSTAT = pack [(1, 19), (wGet v 10 4, 15), (sp, 14), (wGet v 0 10, 0)] ∧
        t.flag MEM_STAT_REPAIRING = true ∧ s.dev.leaves t [MEM_REPSTAT, MEM_STAT, RAIL_STAT, RAIL_SUPERSEDED] := by
  refine completes_of (f := fun d => d.writeRepcmd v) rfl ?_
  rw [Dev.writeRepcmd_keyed hkey, Dev.repairBegin_starts false hcheck hsp]
  have hflag : (s.dev.repairShown (wGet v 10 4) (wGet v 0 10) sp false).flag RAIL_STAT_FIXED = false :=
    (Dev.flag_setFlag_apart _ _ (by decide) (by decide)).trans
      ((congrArg (· != 0) (Dev.fld_setReg_ne _ _ (by decide))).trans hfixed)
  obtain ⟨hvtx, htgt⟩ := railed_repairVtxOn hflag
  have hshown : s.dev.leaves (s.dev.repairShown (wGet v 10 4) (wGet v 0 10) sp false)
      [MEM_REPSTAT, MEM_STAT, RAIL_STAT, RAIL_SUPERSEDED] :=
    leaves_setFlag (leaves_setReg (s.dev.leaves_refl _) (by decide)) (by decide)
  refine ⟨(congrArg (·.repair) (hvtx.keeps (·.mem) fun _ => rfl) :), htgt, ?_, ?_,
    leaves_alters hshown hvtx (by decide) offRails_spares⟩
  · rw [hvtx.reg _ (by decide)]
    exact (Dev.reg_setFld_ne _ _ _ (by decide)).trans (by simp)
  · rw [hvtx.flag (by decide)]
    exact Dev.flag_setFlag_same _ _ _ (by decide) (by decide)

theorem repairVtxReady_ends {b c : Nat} (hrepair : s.dev.mem.repair = some (b, c)) (hconsole : s.dev.mem.console = false)
    (hwaiting : s.dev.mem.waiting = []) (hb : b < 16) (hc : c < 1024) (f v : Bool) :
    Completes (.repairVtxReady f v) s fun t => ∃ x : Dev, RepairDone x t b c f v ∧ x.fuses = s.dev.fuses ∧
      x.fld MEM_REPSTAT_SPARE = s.dev.fld MEM_REPSTAT_SPARE ∧ (∀ b' n, b' ≠ copyBank b → x.bank b' n = s.dev.bank b' n) ∧
      (cellsWf bankDefault s.dev.banks = true → ∀ n, n < 16384 → layoutOpen b n = false →
        x.bank (copyBank b) n = s.dev.bank b n) :=
  completes_of (f := fun d => d.repairRun f v) rfl (repairRun_done hrepair hconsole hwaiting hb hc f v)

theorem repairVtxTimeout_ends {b c : Nat} (hrepair : s.dev.mem.repair = some (b, c)) (hconsole : s.dev.mem.console = false)
    (hwaiting : s.dev.mem.waiting = []) : Completes .repairVtxTimeout s fun t => RepairOver s.dev t 5 0 :=
  completes_of (f := fun d => d.repairEnd 5 0) rfl (repairOver_repairEnd 0 hrepair hconsole hwaiting (by decide))

theorem repair_idle (hnone : s.dev.mem.repair = none) :
    (∀ f v, Completes (.repairVtxReady f v) s fun t => t = s.dev) ∧ Completes .repairVtxTimeout s fun t => t = s.dev :=
  ⟨fun f v => completes_of (f := fun d => d.repairRun f v) rfl (Dev.repairRun_none hnone f v),
    completes_of (f := fun d => d.repairEnd 5 0) rfl (Dev.repairEnd_none 5 0 hnone)⟩

/-- Settles O41: the checks, the beginning and the two ends of a repair. -/
theorem columnsAreRepaired : Obligations.ColumnsAreRepaired := by
  intro s
  refine ⟨fun rq v hkey => ?_, fun rq v hkey hnone => ⟨repair_refused hkey hnone, Dev.repairCheck_closed _ _,
    fun hopen hfull => ?_, fun hopen sp hsp => ⟨fun hcol => ?_, fun hcol hnew hfixed => ?_⟩⟩, repair_idle,
    fun b c hrepair hconsole hwaiting hb hc => ⟨fun f v => ?_, ?_⟩⟩
  · refine completes_of (f := fun d => d.writeRepcmd v) rfl ?_
    rw [Dev.writeRepcmd_unkeyed hkey]
    exact ⟨Dev.fld_ignoreWrite _, rfl, Dev.leaves_ignoreWrite _⟩
  · rw [Dev.repairCheck_open _ hopen hnone, if_pos hfull]
  · rw [Dev.repairCheck_open _ hopen hnone, if_neg (by simp [hsp]), if_pos (Or.inl hcol)]
  · refine repair_starts hkey ?_ hsp hfixed
    rw [Dev.repairCheck_open _ hopen hnone, if_neg (by simp [hsp]), if_neg (by simp [hnew]; omega)]
  · refine (repairVtxReady_ends hrepair hconsole hwaiting hb (by omega) f v).mono fun t ht => ?_
    obtain ⟨x, hdone, hfuses, hsp, hwords, hcopy⟩ := ht
    refine ⟨hdone.repair, hdone.busy, hdone.repairing, hdone.result, hfuses ▸ hdone.spares, fun b' n _ h8 hne => ?_,
      fun h0 hf => ?_, fun h1 hf => ?_, fun h0 hf => ?_, fun h1 hf => ?_, fun hwf _ n hn hlaid => ?_, hdone.raised⟩
    · exact (hdone.words b' n h8).trans (hwords b' n hne)
    · obtain ⟨hkilled, hprogrammed⟩ := hdone.entry0 (hsp.trans h0)
      obtain ⟨hvalid, hcolumn⟩ := hprogrammed hf
      exact ⟨hvalid, hkilled.trans (by simp [hf]), hcolumn⟩
    · obtain ⟨hkilled, hprogrammed⟩ := hdone.entry1 (hsp.trans h1)
      obtain ⟨hvalid, hcolumn⟩ := hprogrammed hf
      exact ⟨hvalid, hkilled.trans (by simp [hf]), hcolumn⟩
    · obtain ⟨hkilled, -⟩ := hdone.entry0 (hsp.trans h0)
      exact hkilled.trans (by simp [hf])
    · obtain ⟨hkilled, -⟩ := hdone.entry1 (hsp.trans h1)
      exact hkilled.trans (by simp [hf])
    · have hcells : cellsWf bankDefault s.dev.banks = true := by
        simp only [Memory.wf, Dev.memoriesWf, Bool.and_eq_true] at hwf
        exact hwf.1.1.2
      have hcopy8 : copyBank b ≠ 8 := by unfold copyBank; split <;> decide
      exact (hdone.words (copyBank b) n hcopy8).trans (hcopy hcells n hn hlaid)
  · refine (repairVtxTimeout_ends hrepair hconsole hwaiting).mono fun t hover => ?_
    obtain ⟨e, hraised⟩ := hover.raised
    exact ⟨hover.repair, hover.result, hover.busy, hover.repairing, hover.fuses, hover.spare b hb,
      fun b' n h8 => hover.bank b' n h8, e, hraised⟩

end Sys2Proof.Machine
end

section
/-!
SUPPORT. Rail commands, references, shorts and faults (R713 to R741), and O43.
-/

namespace Sys2Proof.Machine

variable {d e : Dev} {s : State} {as : List Nat}

/-! VTX commands (R715, R718 to R720). -/

theorem Dev.clampVtx_inRange {v : Nat} (hlo : 600 ≤ v) (hhi : v ≤ 2000) (hfixed : d.flag RAIL_STAT_FIXED = false) :
    d.clampVtx v = (v, d) := by
  have hclamp : max 600 (min v 2000) = v := by omega
  simp only [Dev.clampVtx, hclamp, Dev.railClamp_same, hfixed, Bool.false_eq_true, if_false]

theorem Dev.clampVtx_low {v : Nat} (hlo : v < 600) (hfixed : d.flag RAIL_STAT_FIXED = false) :
    d.clampVtx v = (600, (d.bump RAIL_CNT_CLAMPS).ring 70 (pack [(1, 23), (v, 0)]) (word 600)) := by
  have hclamp : max 600 (min v 2000) = 600 := by omega
  have hne : v ≠ 600 := by omega
  have hraised : d.railClamp true v 600 = (d.bump RAIL_CNT_CLAMPS).ring 70 (pack [(1, 23), (v, 0)]) (word 600) := if_neg hne
  have hstill : ((d.bump RAIL_CNT_CLAMPS).ring 70 (pack [(1, 23), (v, 0)]) (word 600)).flag RAIL_STAT_FIXED = false :=
    (Dev.ring_flag (by decide) ..).trans ((Dev.flag_bump_apart _ (by decide) (by decide)).trans hfixed)
  simp only [Dev.clampVtx, hclamp, hraised, hstill, Bool.false_eq_true, if_false, Dev.railClamp_same]

/-- The value of a VTX command, once it is clamped: noted, and performed where commands act. -/
def Dev.vtxGo (d : Dev) (v tag : Nat) (console : Bool) : Dev :=
  let mv := v * 10
  let d := d.setRail { d.rail with vtxWant := mv }
  if d.railActs console then
    if decide (d.rail.vtxTgt = mv ∧ d.rail.vtxRef = mv) && d.rail.vtxCmd.isNone && near2 d.rail.vtx mv then d.railDone true tag
    else
      let d := (d.supersedeVtx.setVtxTgt mv).noteVtx
      (d.setRail { d.rail with vtxCmd := some tag }).followVtx
  else d

theorem Dev.vtxSet_eq (d : Dev) (v tag : Nat) (console : Bool) :
    d.vtxSet v tag console = (d.clampVtx v).2.vtxGo (d.clampVtx v).1 tag console := rfl

theorem Dev.vtxGo_waits {v : Nat} (tag : Nat) {console : Bool} (h : d.railActs console = false) :
    d.vtxGo v tag console = d.setRail { d.rail with vtxWant := v * 10 } := by
  have hwaits : ¬ (d.setRail { d.rail with vtxWant := v * 10 }).railActs console = true := Bool.eq_false_iff.1 h
  exact if_neg hwaits

theorem Dev.vtxGo_settled {v : Nat} (tag : Nat) {console : Bool} (h : d.railActs console = true) (htgt : d.rail.vtxTgt = v * 10)
    (href : d.rail.vtxRef = v * 10) (hcmd : d.rail.vtxCmd = none) (hnear : near2 d.rail.vtx (v * 10) = true) :
    d.vtxGo v tag console = (d.setRail { d.rail with vtxWant := v * 10 }).railDone true tag := by
  have hacts : (d.setRail { d.rail with vtxWant := v * 10 }).railActs console = true := h
  unfold Dev.vtxGo
  rw [if_pos hacts]
  exact if_pos (by simp [Dev.setRail, htgt, href, hcmd, hnear])

/-- A VTX command with another target begins. -/
def Dev.vtxBegun (d : Dev) (mv tag : Nat) : Dev :=
  let d := ((d.setRail { d.rail with vtxWant := mv }).supersedeVtx.setVtxTgt mv).noteVtx
  d.setRail { d.rail with vtxCmd := some tag }

theorem Dev.vtxGo_begins {v : Nat} (tag : Nat) {console : Bool} (h : d.railActs console = true) (htgt : d.rail.vtxTgt ≠ v * 10) :
    d.vtxGo v tag console = (d.vtxBegun (v * 10) tag).followVtx := by
  have hacts : (d.setRail { d.rail with vtxWant := v * 10 }).railActs console = true := h
  unfold Dev.vtxGo
  rw [if_pos hacts]
  exact if_neg (by simp [Dev.setRail, htgt])

theorem railed_vtxBegun (d : Dev) (mv tag : Nat) : Dev.Railed [RAIL_SUPERSEDED] d (d.vtxBegun mv tag) :=
  railed_setRail (alters_trans (railed_setRail (alters_refl d)) (alters_trans (railed_newVtx (by decide) _ mv) (railed_noteVtx _)))

theorem Dev.vtxBegun_command (d : Dev) (mv tag : Nat) : (d.vtxBegun mv tag).rail.vtxCommand = (mv, mv, some tag) := by
  simp [Dev.vtxBegun, Rails.vtxCommand, Dev.setRail]

/-- A VTX command with another target: the command that stood is superseded. -/
theorem vtxBegun_follows (d : Dev) (mv tag : Nat) :
    (d.vtxBegun mv tag).followVtx.rail.vtxCommand = (mv, mv, some tag) ∧
      d.leaves (d.vtxBegun mv tag).followVtx [RAIL_SUPERSEDED] :=
  ⟨(Dev.followVtx_vtxCommand _).trans (d.vtxBegun_command mv tag),
    Dev.Railed.leaves (alters_trans (railed_vtxBegun d mv tag) (railed_followVtx (by decide) _))⟩

theorem vtxBegun_supersedes {old : Nat} (hcmd : d.rail.vtxCmd = some old) (mv tag : Nat) :
    (d.vtxBegun mv tag).followVtx.fld RAIL_SUPERSEDED_VTX =
      min (d.fld RAIL_SUPERSEDED_VTX + 1) (2 ^ RAIL_SUPERSEDED_VTX.width - 1) := by
  rw [Dev.fld_followVtx_vtx]
  show (((d.setRail { d.rail with vtxWant := mv }).supersedeVtx.setVtxTgt mv).noteVtx).fld RAIL_SUPERSEDED_VTX = _
  rw [Dev.fld_noteVtx]
  exact Dev.fld_supersedeVtx_some (d.setRail { d.rail with vtxWant := mv }) hcmd

theorem Dev.railDone_vtx_eq (d : Dev) (tag : Nat) : d.railDone true tag =
    ((d.setRail { d.rail with vtxCmd := none }).setFld RAIL_LASTTAG_VTX tag).ring 64 (pack [(1, 23), (tag, 0)])
      (word (d.rail.vtxTgt / 10)) := rfl

theorem Dev.railDone_vled_eq (d : Dev) (tag : Nat) : d.railDone false tag =
    ((d.setRail { d.rail with vledCmd := none }).setFld RAIL_LASTTAG_VLED tag).ring 64 (word tag)
      (word (d.rail.vledTgt / 10)) := rfl

/-- A command that is over at once (R719). -/
theorem railDone_vtx (d : Dev) {tag v : Nat} (htag : tag < 256) (htgt : d.rail.vtxTgt / 10 = v) :
    (d.railDone true tag).rail.vtxCmd = none ∧ (d.railDone true tag).fld RAIL_LASTTAG_VTX = tag ∧
      d.rang (d.railDone true tag) 64 (pack [(1, 23), (tag, 0)]) (word v) ∧ d.leavesRing (d.railDone true tag) [RAIL_LASTTAG] := by
  subst htgt
  have hcleared : d.leaves (d.setRail { d.rail with vtxCmd := none }) [RAIL_LASTTAG] :=
    (railed_setRail (alters_refl d)).leaves
  rw [Dev.railDone_vtx_eq]
  refine ⟨congrArg (·.vtxCmd) (Dev.ring_rail ..), ?_, rang_ring (by rfl) _ _ _,
    leavesRing_ring (leavesRing_of_leaves (leaves_setFld hcleared (by decide))) _ _ _⟩
  refine (Dev.ring_fld (by decide) ..).trans ((Dev.fld_setFld_same _ _ _ (by decide)).trans ?_)
  exact Nat.mod_eq_of_lt htag

theorem railDone_vled (d : Dev) {tag : Nat} (htag : tag < 256) :
    (d.railDone false tag).rail.vledCmd = none ∧ (d.railDone false tag).fld RAIL_LASTTAG_VLED = tag ∧
      d.rang (d.railDone false tag) 64 (word tag) (word (d.rail.vledTgt / 10)) ∧
      d.leavesRing (d.railDone false tag) [RAIL_LASTTAG] := by
  have hcleared : d.leaves (d.setRail { d.rail with vledCmd := none }) [RAIL_LASTTAG] :=
    (railed_setRail (alters_refl d)).leaves
  rw [Dev.railDone_vled_eq]
  refine ⟨congrArg (·.vledCmd) (Dev.ring_rail ..), ?_, rang_ring (by rfl) _ _ _,
    leavesRing_ring (leavesRing_of_leaves (leaves_setFld hcleared (by decide))) _ _ _⟩
  refine (Dev.ring_fld (by decide) ..).trans ((Dev.fld_setFld_same _ _ _ (by decide)).trans ?_)
  exact Nat.mod_eq_of_lt htag

/-! VLED commands (R714, R715). -/

theorem Dev.vledGo_begins {mv : Nat} (tag : Nat) (hsoft : d.rail.vledSoft = none) (htgt : d.rail.vledTgt ≠ mv) :
    (d.vledGo mv tag).rail.vledTgt = mv ∧ (d.vledGo mv tag).rail.vledCmd = some tag ∧
      (d.vledGo mv tag).rail.vledFixed = d.rail.vledFixed ∧ Dev.Railed [RAIL_SUPERSEDED] d (d.vledGo mv tag) := by
  have hgo : d.vledGo mv tag = (d.supersedeVled.setVledTgt mv).setRail
      { (d.supersedeVled.setVledTgt mv).rail with vledCmd := some tag } := if_neg (by simp [htgt])
  have hrail : (d.supersedeVled.setVledTgt mv).rail = { d.rail with vledCmd := none, vledTgt := mv } := by
    simp [Dev.setVledTgt_rail, hsoft]
  rw [hgo, hrail]
  exact ⟨rfl, rfl, rfl, railed_setRail (railed_newVled (by decide) d mv)⟩

theorem Dev.railActs_setFixed (d : Dev) (b console : Bool) :
    (d.setFlag RAIL_STAT_FIXED b).railActs console = d.railActs console := by
  have hmode : (d.setFlag RAIL_STAT_FIXED b).mode = d.mode := Dev.fld_setFlag_apart _ _ (by decide) (by decide)
  exact Dev.railActs_congr (d := d) (x := d.setFlag RAIL_STAT_FIXED b) rfl hmode console

/-- The fixed target of a VLED command that needs no clamp is noted. -/
def Dev.vledNoted (d : Dev) (v : Nat) : Dev :=
  (d.setFlag RAIL_STAT_FIXED true).setRail { d.rail with vledFixed := v * 10 }

theorem Dev.vledFix_inRange {v : Nat} (tag : Nat) {console : Bool} (hlo : 800 ≤ v) (hhi : v ≤ 4800)
    (htgt : d.rail.vtxTgt / 10 + 200 ≤ v) (hwant : d.rail.vtxWant / 10 + 200 ≤ v) :
    d.vledFix v tag console =
      if d.railActs console && d.boostFitted then (d.vledNoted v).vledGo (v * 10) tag else d.vledNoted v := by
  have hclamp : max 800 (min v 4800) = v := by omega
  have hbound : max v ((if d.railActs console = true then d.rail.vtxTgt else d.rail.vtxWant) / 10 + 200) = v := by
    split <;> omega
  have hacts : (d.vledNoted v).railActs console = d.railActs console :=
    d.railActs_setFixed true console
  have hfitted : (d.vledNoted v).boostFitted = d.boostFitted := rfl
  rw [← hacts, ← hfitted]
  simp only [Dev.vledFix, hclamp, Dev.railClamp_same, hbound]
  rfl

theorem railed_vledNoted (d : Dev) (v : Nat) : Dev.Railed [RAIL_STAT] d (d.vledNoted v) :=
  railed_setRail (alters_setFlag (alters_refl d) (by decide))

theorem Dev.vledNoted_fixed (d : Dev) (v : Nat) : (d.vledNoted v).flag RAIL_STAT_FIXED = true :=
  Dev.flag_setFlag_same _ _ _ (by decide) (by decide)

/-- Adaptive mode is judged by the demand, the configuration and the rails. -/
theorem Dev.adaptiveVled_setFixed (d : Dev) (b : Bool) : (d.setFlag RAIL_STAT_FIXED b).adaptiveVled = d.adaptiveVled := by
  have hdemand : (d.setFlag RAIL_STAT_FIXED b).fld RAIL_DEMAND_V = d.fld RAIL_DEMAND_V :=
    Dev.fld_setFlag_apart _ _ (by decide) (by decide)
  have hcomputed : (d.setFlag RAIL_STAT_FIXED b).computedVled = d.computedVled := by
    simp only [Dev.computedVled, hdemand]
    rfl
  simp only [Dev.adaptiveVled, hcomputed]
  rfl

theorem Dev.vledAuto_eq (d : Dev) (tag : Nat) (console : Bool) : d.vledAuto tag console =
    if d.railActs console && d.boostFitted then (d.setFlag RAIL_STAT_FIXED false).vledGo d.adaptiveVled tag
    else d.setFlag RAIL_STAT_FIXED false := by
  have hacts : (d.setFlag RAIL_STAT_FIXED false).railActs console = d.railActs console :=
    d.railActs_setFixed false console
  have hfitted : (d.setFlag RAIL_STAT_FIXED false).boostFitted = d.boostFitted := rfl
  rw [← hacts, ← hfitted, ← d.adaptiveVled_setFixed false]
  rfl

/-! References (R709, R716, R740). -/

/-- What a measurement takes. -/
def Dev.measured (d : Dev) (vhv vtx : Nat) : Dev := d.setRail { d.rail with vhv := vhv * 10, vtx := vtx * 10 }

theorem Dev.referenceUpdate_off (vhv vtx : Nat) (pass : Bool) (h : d.rail.on = false) :
    d.referenceUpdate vhv vtx pass = d.measured vhv vtx :=
  if_neg (c := (d.measured vhv vtx).rail.on = true) (by simp [Dev.measured, Dev.setRail, h])

/-- What the update of the references leaves of the rails: the targets and outputs, and the references it moves. -/
def Rails.voltages (r : Rails) : Nat × Nat × Nat × Nat × Nat × Nat := (r.vhv, r.vtx, r.vledTgt, r.vtxTgt, r.vledRef, r.vtxRef)

theorem Dev.moveRefs_voltages (hvled : d.rail.vledSoft = none) (hvtx : d.rail.vtxSoft = none) :
    d.moveRefs.rail.voltages = (d.rail.vhv, d.rail.vtx, d.rail.vledTgt, d.rail.vtxTgt,
      (if d.boostRuns then slewRef d.rail.vledRef d.rail.vledTgt (d.par secRails 0x07) d.rail.vhv else d.rail.vledRef),
      slewRef d.rail.vtxRef d.rail.vtxTgt (d.par secRails 0x07) d.rail.vtx) := by
  cases hruns : d.boostRuns with
  | true => simp [Dev.moveRefs, Dev.setRail, Rails.voltages, hvled, hvtx, hruns]
  | false => simp [Dev.moveRefs, Dev.setRail, Rails.voltages, hvled, hvtx, hruns]

theorem railed_vledState (h : RAIL_STAT ∈ as) (d : Dev) (pass : Bool) : Dev.Railed as d (d.vledState pass) := by
  unfold Dev.vledState
  split
  · exact alters_setFld (alters_refl d) h
  · exact alters_refl d

theorem Dev.vledState_rail (d : Dev) (pass : Bool) : (d.vledState pass).rail = d.rail := by
  unfold Dev.vledState
  split <;> rfl

theorem railed_overvoltEnd (h : RAIL_STAT ∈ as) (d : Dev) : Dev.Railed as d d.overvoltEnd := by
  unfold Dev.overvoltEnd
  split
  · exact alters_setFlag (railed_setRail (alters_refl d)) h
  · exact alters_refl d

theorem Dev.overvoltEnd_voltages (d : Dev) : d.overvoltEnd.rail.voltages = d.rail.voltages := by
  unfold Dev.overvoltEnd
  split <;> rfl

theorem railed_referenceUpdate (d : Dev) (vhv vtx : Nat) (pass : Bool) :
    Dev.Railed [RAIL_STAT] d (d.referenceUpdate vhv vtx pass) := by
  unfold Dev.referenceUpdate
  extract_lets _ x y z w
  have hx : Dev.Railed [RAIL_STAT] d x := railed_setRail (alters_refl d)
  split
  · have hy : Dev.Railed [RAIL_STAT] d y := alters_trans (railed_setRail hx) (alters_trans
      (railed_vledState (by decide) _ pass) (railed_overvoltEnd (by decide) _))
    have hz : Dev.Railed [RAIL_STAT] d z := alters_setFlag hy (by decide)
    have hw : Dev.Railed [RAIL_STAT] d w := by
      unfold w
      split
      · exact alters_setFlag hz (by decide)
      · exact hz
    exact alters_trans hw (railed_noteVtx w)
  · exact hx

theorem Dev.referenceUpdate_voltages (vhv vtx : Nat) (pass : Bool) (hon : d.rail.on = true) :
    (d.referenceUpdate vhv vtx pass).rail.voltages = (d.measured vhv vtx).moveRefs.rail.voltages := by
  unfold Dev.referenceUpdate
  extract_lets _ x y z w
  rw [if_pos (show x.rail.on = true from hon), Dev.noteVtx_rail]
  have hy : y.rail.voltages = x.moveRefs.rail.voltages := by
    rw [Dev.overvoltEnd_voltages, Dev.vledState_rail]
  have hw : w.rail = y.rail := by
    unfold w
    split <;> rfl
  rw [hw, hy]
  rfl

/-! Soft starts (R710, R722, R723, R737). -/

/-- VTX on the regulator, before the end of a short's episode is told. -/
def Dev.onRegulator (d : Dev) (soft : Bool) : Dev :=
  let d := d.setFld RAIL_STAT_VTXSRC 1
  (d.setRail { d.rail with
    vtxBack := false, vtxRef := d.rail.vtx, vtxSoft := if soft then some (d.rail.vtx, 0) else none }).noteVtx

theorem railed_onRegulator (h : RAIL_STAT ∈ as) (d : Dev) (soft : Bool) : Dev.Railed as d (d.onRegulator soft) :=
  alters_trans (railed_setRail (alters_setFld (alters_refl d) h)) (railed_noteVtx _)

theorem Dev.onRegulator_rail (d : Dev) (soft : Bool) : (d.onRegulator soft).rail =
    { d.rail with vtxBack := false, vtxRef := d.rail.vtx, vtxSoft := if soft then some (d.rail.vtx, 0) else none } :=
  Dev.noteVtx_rail _

theorem Dev.onRegulator_src (d : Dev) (soft : Bool) : (d.onRegulator soft).fld RAIL_STAT_VTXSRC = 1 :=
  (Dev.fld_noteVtx _ _).trans (Dev.fld_setFld_same _ _ _ (by decide))

theorem Dev.fld_onRegulator (d : Dev) (soft : Bool) {g : Fld} (h : g.apart RAIL_STAT_VTXSRC = true) :
    (d.onRegulator soft).fld g = d.fld g :=
  (Dev.fld_noteVtx _ _).trans (Dev.fld_setFld_apart _ _ (by decide) h)

theorem Dev.toRegulator_eq (d : Dev) (soft : Bool) : d.toRegulator soft =
    if (d.onRegulator soft).flag RAIL_STAT_DEGRADED then
      ((d.onRegulator soft).setFlag RAIL_STAT_DEGRADED false).ring 66 0 (word ((d.onRegulator soft).rail.vtx / 10))
    else d.onRegulator soft := rfl

theorem Dev.flag_onRegulator_degraded (d : Dev) (soft : Bool) :
    (d.onRegulator soft).flag RAIL_STAT_DEGRADED = d.flag RAIL_STAT_DEGRADED :=
  congrArg (· != 0) (d.fld_onRegulator soft (by decide))

theorem Dev.toRegulator_undegraded (soft : Bool) (h : d.flag RAIL_STAT_DEGRADED = false) :
    d.toRegulator soft = d.onRegulator soft := by
  rw [Dev.toRegulator_eq, Dev.flag_onRegulator_degraded, h]
  exact if_neg Bool.false_ne_true

theorem Dev.toRegulator_degraded (soft : Bool) (h : d.flag RAIL_STAT_DEGRADED = true) : d.toRegulator soft =
    ((d.onRegulator soft).setFlag RAIL_STAT_DEGRADED false).ring 66 0 (word (d.rail.vtx / 10)) := by
  rw [Dev.toRegulator_eq, Dev.flag_onRegulator_degraded, h, if_pos rfl, Dev.onRegulator_rail]

/-- The ramp of VLED at its end. -/
def Dev.rampEnded (d : Dev) : Dev :=
  let d := d.setRail { d.rail with
    vledSoft := none, vledRef := d.rail.vledTgt, vledTgt := d.rail.vledNext.getD d.rail.vledTgt, vledNext := none }
  ((d.setFld RAIL_STAT_ATTEMPT 0).setFld RAIL_STAT_VLEDST 2).vledState false

theorem Dev.softStartEnd_eq (d : Dev) : d.softStartEnd =
    if d.rail.vledSoft.isSome then
      if d.rampEnded.rail.vtxOff then d.rampEnded
      else if d.rampEnded.scan.cur.isSome then d.rampEnded.setRail { d.rampEnded.rail with vtxBack := true }
      else d.rampEnded.toRegulator true
    else d := rfl

theorem railed_rampEnded (d : Dev) : Dev.Railed [RAIL_STAT] d d.rampEnded :=
  alters_trans (alters_setFld (alters_setFld (railed_setRail (alters_refl d)) (by decide)) (by decide))
    (railed_vledState (by decide) _ false)

theorem Dev.rampEnded_rail (d : Dev) : d.rampEnded.rail = { d.rail with
    vledSoft := none, vledRef := d.rail.vledTgt, vledTgt := d.rail.vledNext.getD d.rail.vledTgt, vledNext := none } :=
  Dev.vledState_rail _ false

theorem Dev.rampEnded_cur (d : Dev) : d.rampEnded.scan.cur = d.scan.cur := by
  unfold Dev.rampEnded Dev.vledState
  extract_lets
  split <;> rfl

theorem Dev.fld_vledState (d : Dev) (pass : Bool) {g : Fld} (h : g.apart RAIL_STAT_VLEDST = true) :
    (d.vledState pass).fld g = d.fld g := by
  unfold Dev.vledState
  split
  · exact Dev.fld_setFld_apart _ _ (by decide) h
  · rfl

theorem Dev.vledState_runs (pass : Bool) (h : d.boostRuns = true) : (d.vledState pass).boostRuns = true := by
  unfold Dev.vledState
  rw [if_pos h]
  have hst (n : Nat) (hn : n ∈ [2, 3, 4]) : (d.setFld RAIL_STAT_VLEDST n).boostRuns = true := by
    rw [Dev.boostRuns, Dev.fld_setFld_same _ _ _ (by decide)]
    fin_cases hn <;> rfl
  split
  · exact hst 4 (by decide)
  · split
    · exact hst 3 (by decide)
    · exact hst 2 (by decide)

theorem Dev.rampEnded_runs (d : Dev) : d.rampEnded.boostRuns = true := by
  refine Dev.vledState_runs false ?_
  rw [Dev.boostRuns, Dev.fld_setFld_same _ _ _ (by decide)]
  rfl

theorem Dev.rampEnded_attempt (d : Dev) : d.rampEnded.fld RAIL_STAT_ATTEMPT = 0 :=
  (Dev.fld_vledState _ false (by decide)).trans ((Dev.fld_setFld_apart _ _ (by decide) (by decide)).trans
    (Dev.fld_setFld_same _ _ _ (by decide)))

theorem Dev.rampEnded_degraded (d : Dev) : d.rampEnded.flag RAIL_STAT_DEGRADED = d.flag RAIL_STAT_DEGRADED :=
  congrArg (· != 0) ((Dev.fld_vledState _ false (by decide)).trans ((Dev.fld_setFld_apart _ _ (by decide) (by decide)).trans
    (Dev.fld_setFld_apart _ _ (by decide) (by decide))))

/-- A soft start begins. -/
theorem beginSoftStart_begins (d : Dev) {attempt : Nat} (h : attempt < 8) :
    (d.beginSoftStart attempt).fld RAIL_STAT_VLEDST = 1 ∧ (d.beginSoftStart attempt).fld RAIL_STAT_ATTEMPT = attempt ∧
      (d.beginSoftStart attempt).rail.vledSoft = some (d.rail.vhv, 0) ∧
      (d.beginSoftStart attempt).rail.vledRef = d.rail.vhv ∧ d.leaves (d.beginSoftStart attempt) [RAIL_STAT] := by
  unfold Dev.beginSoftStart
  extract_lets x y
  have hx : Dev.Railed [RAIL_STAT] d x := alters_setFld (alters_setFld (alters_refl d) (by decide)) (by decide)
  have hst : x.fld RAIL_STAT_VLEDST = 1 := Dev.fld_setFld_same _ _ _ (by decide)
  have hattempt : x.fld RAIL_STAT_ATTEMPT = attempt :=
    (Dev.fld_setFld_apart _ _ (by decide) (by decide)).trans ((Dev.fld_setFld_same _ _ _ (by decide)).trans (Nat.mod_eq_of_lt h))
  have hy : Dev.Railed [RAIL_STAT] d y ∧ y.rail = x.rail ∧ y.fld RAIL_STAT_VLEDST = x.fld RAIL_STAT_VLEDST ∧
      y.fld RAIL_STAT_ATTEMPT = x.fld RAIL_STAT_ATTEMPT := by
    unfold y
    split
    · exact ⟨hx, rfl, rfl, rfl⟩
    · exact ⟨alters_trans (alters_setFld hx (by decide)) (railed_noteVtx _), Dev.noteVtx_rail _,
        (Dev.fld_noteVtx _ _).trans (Dev.fld_setFld_apart _ _ (by decide) (by decide)),
        (Dev.fld_noteVtx _ _).trans (Dev.fld_setFld_apart _ _ (by decide) (by decide))⟩
  obtain ⟨hrailed, hrail, hst', hattempt'⟩ := hy
  have hvhv : y.rail.vhv = d.rail.vhv := by rw [hrail]; rfl
  exact ⟨hst'.trans hst, hattempt'.trans hattempt, congrArg (fun v => some (v, 0)) hvhv, hvhv,
    (railed_setRail hrailed).leaves⟩

end Sys2Proof.Machine
end
section
/-!
SUPPORT. What a trip of lamp groups leaves as it was (R766, R779, R781), and the rails' shorts and faults (R733 to R740).
-/

namespace Sys2Proof.Machine

variable {d e : Dev} {s : State} {as : List Nat}

/-! Lamps. -/

/-- A machine without its lamps. -/
def Dev.offLamps (d : Dev) : Dev := { d with lamp := {} }

/-- Nothing but the lamps, the registers as and what an event may change differs. -/
abbrev Dev.Lit (as : List Nat) (d e : Dev) : Prop := Dev.AltersRing Dev.offLamps as d e

theorem lit_setLamp (h : Dev.Lit as d e) {n : Nat} {v : Lamp} : Dev.Lit as d (e.setLamp n v) := altersRing_of h rfl rfl rfl

theorem lit_sweepCmds (h : Dev.Lit as d e) : Dev.Lit as d e.sweepCmds := altersRing_of h rfl rfl rfl

theorem lit_loseCmd (hcnt : LAMP_CNT ∈ as) (d : Dev) (num : Nat) (later : Bool) : Dev.Lit as d (d.loseCmd num later) := by
  unfold Dev.loseCmd
  split
  · exact altersRing_refl d
  · extract_lets _ _ x
    have hx : Dev.Lit as d x := altersRing_of (altersRing_refl d) rfl rfl rfl
    split
    · exact altersRing_bump hx hcnt
    · exact hx

theorem lit_dropLampCmd (hcnt : LAMP_CNT ∈ as) (d : Dev) (n : Nat) (later : Bool) : Dev.Lit as d (d.dropLampCmd n later) := by
  unfold Dev.dropLampCmd
  split
  · exact altersRing_refl d
  · exact altersRing_trans (lit_setLamp (altersRing_refl d)) (lit_loseCmd hcnt _ _ _)

theorem lit_lampOff (hcnt : LAMP_CNT ∈ as) (d : Dev) (n : Nat) : Dev.Lit as d (d.lampOff n) :=
  lit_setLamp (lit_dropLampCmd hcnt d n false)

theorem lit_tripGroup (hcnt : LAMP_CNT ∈ as) (htrip : LAMP_TRIP ∈ as) (d : Dev) (g cause lamp : Nat) :
    Dev.Lit as d (d.tripGroup g cause lamp) := by
  unfold Dev.tripGroup
  split
  · have hoff : Dev.Lit as d ((d.groupLamps g).foldl Dev.lampOff d).sweepCmds :=
      lit_sweepCmds (altersRing_foldl _ d fun x n _ => lit_lampOff hcnt x n)
    exact altersRing_ring (altersRing_setFld hoff htrip)
  · exact altersRing_refl d

theorem lit_tripAll (hcnt : LAMP_CNT ∈ as) (htrip : LAMP_TRIP ∈ as) (d : Dev) : Dev.Lit as d d.tripAll :=
  altersRing_foldl _ d fun x g _ => lit_tripGroup hcnt htrip x g 2 0x3FF

/-! Shorts (R733 to R738). -/

/-- A machine without rails, scan and lamps. -/
def Dev.offShort (d : Dev) : Dev := { d.offRails with lamp := {} }

theorem offShort_spares : SparesNvm Dev.offShort := fun _ => ⟨rfl, rfl⟩

/-- The registers of the rails and lamps that a short changes. -/
def shortRegs : List Nat := [RAIL_STAT, RAIL_CNT, RAIL_SUPERSEDED, LAMP_TRIP, LAMP_CNT]

abbrev Dev.Shorted (d e : Dev) : Prop := Dev.AltersRing Dev.offShort shortRegs d e

theorem shorted_railed (h : Dev.Shorted d e) {f : Dev} (g : Dev.Railed shortRegs e f) : Dev.Shorted d f :=
  altersRing_trans h (altersRing_of_alters g offRails_spares fun _ => rfl)

theorem shorted_lit (h : Dev.Shorted d e) {f : Dev} (g : Dev.Lit shortRegs e f) : Dev.Shorted d f :=
  altersRing_trans h ⟨g.reg, g.bank, (congrArg Dev.offRails g.rest :)⟩

/-- VTX on the pump and the ramps gone: a short's first steps. -/
def Dev.shortBegun (d : Dev) : Dev :=
  let d := d.supersedeVled.supersedeVtx.tripAll
  let d := (if d.rail.vtxOff then d else d.setFld RAIL_STAT_VTXSRC 2).noteVtx
  d.setRail { d.rail with
    vledSoft := none, vtxBack := false, vtxSoft := none, vledTgt := d.rail.vledNext.getD d.rail.vledTgt, vledNext := none }

/-- The degraded state entered, where it does not stand. -/
def Dev.shortDegraded (d : Dev) : Dev :=
  if d.flag RAIL_STAT_DEGRADED then d else (d.setFlag RAIL_STAT_DEGRADED true).ring 66 1 (word (d.rail.vtx / 10))

/-- The short counted and told. -/
def Dev.shortTold (d : Dev) (kind attempt vhv : Nat) : Dev :=
  ((d.bump RAIL_CNT_SHORTS).setFld RAIL_STAT_ATTEMPT attempt).ring 65 (pack [(kind, 4), (attempt, 0)]) (word vhv)

/-- The retry, or latch-off after the fourth attempt. -/
def Dev.shortNext (d : Dev) (attempt : Nat) : Dev :=
  if 4 ≤ attempt then (d.setFld RAIL_STAT_VLEDST 6).ring 67 (word attempt) 0 else d.setFld RAIL_STAT_VLEDST 5

theorem Dev.railShort_eq (d : Dev) (kind attempt vhv : Nat) :
    d.railShort kind attempt vhv = (d.shortBegun.shortDegraded.shortTold kind attempt vhv).shortNext attempt := rfl

theorem shortBegun_begins (d : Dev) (hoff : d.rail.vtxOff = false) :
    Dev.Shorted d d.shortBegun ∧ d.shortBegun.rail.vledSoft = none ∧ d.shortBegun.fld RAIL_STAT_VTXSRC = 2 ∧
      ∀ g : Fld, g.apart RAIL_STAT_VTXSRC = true → g.addr ∉ [RAIL_SUPERSEDED, LAMP_TRIP, LAMP_CNT] → g.addr ∉ ringRegs →
        d.shortBegun.fld g = d.fld g := by
  unfold Dev.shortBegun
  extract_lets x y _
  have hnone : Dev.Railed [RAIL_SUPERSEDED, LAMP_TRIP, LAMP_CNT] d d.supersedeVled.supersedeVtx :=
    alters_trans (railed_supersedeVled (by decide) d) (railed_supersedeVtx (by decide) _)
  have htrip : Dev.Lit [RAIL_SUPERSEDED, LAMP_TRIP, LAMP_CNT] d.supersedeVled.supersedeVtx x :=
    lit_tripAll (by decide) (by decide) _
  have hxoff : x.rail.vtxOff = false := by
    rw [htrip.keeps (·.rail) fun _ => rfl, Dev.supersedeVtx_rail, Dev.supersedeVled_rail]
    exact hoff
  have hy : y = (x.setFld RAIL_STAT_VTXSRC 2).noteVtx := by
    unfold y
    rw [hxoff]
    rfl
  have hx : Dev.Shorted d x := shorted_lit (shorted_railed (altersRing_refl d) (alters_mono hnone (by decide)))
    (altersRing_mono htrip (by decide))
  refine ⟨?_, rfl, ?_, fun g hsrc hregs hring => ?_⟩
  · refine shorted_railed (altersRing_setFld (g := RAIL_STAT_VTXSRC) (v := 2) hx (by decide)) (railed_setRail ?_)
    exact hy ▸ railed_noteVtx _
  · rw [Dev.fld_setRail, hy, Dev.fld_noteVtx]
    exact Dev.fld_setFld_same _ _ _ (by decide)
  · rw [Dev.fld_setRail, hy, Dev.fld_noteVtx, Dev.fld_setFld_apart _ _ (by decide) hsrc]
    exact (htrip.fld hregs hring).trans (hnone.fld hregs)

theorem shortDegraded_degrades (d : Dev) : Dev.Shorted d d.shortDegraded ∧ d.shortDegraded.rail = d.rail ∧
    d.shortDegraded.flag RAIL_STAT_DEGRADED = true ∧
    ∀ g : Fld, g.apart RAIL_STAT_DEGRADED = true → g.addr ∉ ringRegs → d.shortDegraded.fld g = d.fld g := by
  unfold Dev.shortDegraded
  split
  next h => exact ⟨altersRing_refl d, rfl, h, fun _ _ _ => rfl⟩
  next =>
    exact ⟨altersRing_ring (altersRing_setFlag (altersRing_refl d) (by decide)), Dev.ring_rail ..,
      (Dev.ring_flag (by decide) ..).trans (Dev.flag_setFlag_same _ _ _ (by decide) (by decide)),
      fun g hg hr => (Dev.ring_fld hr ..).trans (Dev.fld_setFlag_apart _ _ (by decide) hg)⟩

theorem shortTold_counts (d : Dev) (kind vhv : Nat) {attempt : Nat} (h : attempt < 8) :
    Dev.Shorted d (d.shortTold kind attempt vhv) ∧ (d.shortTold kind attempt vhv).rail = d.rail ∧
      (d.shortTold kind attempt vhv).fld RAIL_STAT_ATTEMPT = attempt ∧
      (d.shortTold kind attempt vhv).fld RAIL_CNT_SHORTS =
        min (d.fld RAIL_CNT_SHORTS + 1) (2 ^ RAIL_CNT_SHORTS.width - 1) ∧
      ∀ g : Fld, g.apart RAIL_STAT_ATTEMPT = true → g.apart RAIL_CNT_SHORTS = true → g.addr ∉ ringRegs →
        (d.shortTold kind attempt vhv).fld g = d.fld g := by
  refine ⟨altersRing_ring (altersRing_setFld (altersRing_bump (altersRing_refl d) (by decide)) (by decide)),
    Dev.ring_rail .., ?_, ?_, fun g ha hs hr => ?_⟩
  · refine (Dev.ring_fld (by decide) ..).trans ((Dev.fld_setFld_same _ _ _ (by decide)).trans ?_)
    exact Nat.mod_eq_of_lt h
  · exact (Dev.ring_fld (by decide) ..).trans ((Dev.fld_setFld_apart _ _ (by decide) (by decide)).trans
      (Dev.fld_bump_same _ _ (by decide)))
  · exact (Dev.ring_fld hr ..).trans ((Dev.fld_setFld_apart _ _ (by decide) ha).trans (Dev.fld_bump_apart _ (by decide) hs))

theorem shortNext_leads (d : Dev) (attempt : Nat) : Dev.Shorted d (d.shortNext attempt) ∧
    (d.shortNext attempt).rail = d.rail ∧ (d.shortNext attempt).fld RAIL_STAT_VLEDST = (if 4 ≤ attempt then 6 else 5) ∧
    (4 ≤ attempt → ∃ e : Dev, d.shortNext attempt = e.ring 67 (word attempt) 0) ∧
    ∀ g : Fld, g.apart RAIL_STAT_VLEDST = true → g.addr ∉ ringRegs → (d.shortNext attempt).fld g = d.fld g := by
  unfold Dev.shortNext
  split
  next h =>
    exact ⟨altersRing_ring (altersRing_setFld (altersRing_refl d) (by decide)), Dev.ring_rail ..,
      (Dev.ring_fld (by decide) ..).trans (Dev.fld_setFld_same _ _ _ (by decide)), fun _ => ⟨_, rfl⟩,
      fun g hg hr => (Dev.ring_fld hr ..).trans (Dev.fld_setFld_apart _ _ (by decide) hg)⟩
  next h =>
    exact ⟨altersRing_setFld (altersRing_refl d) (by decide), rfl, Dev.fld_setFld_same _ _ _ (by decide),
      fun h4 => absurd h4 h, fun g hg _ => Dev.fld_setFld_apart _ _ (by decide) hg⟩

/-- What a short does while VTX is not off (R735). -/
theorem railShort_does (d : Dev) (kind vhv : Nat) {attempt : Nat} (hoff : d.rail.vtxOff = false) (h : attempt < 8) :
    (d.railShort kind attempt vhv).rail.vledSoft = none ∧ (d.railShort kind attempt vhv).fld RAIL_STAT_VTXSRC = 2 ∧
      (d.railShort kind attempt vhv).flag RAIL_STAT_DEGRADED = true ∧
      (d.railShort kind attempt vhv).fld RAIL_CNT_SHORTS =
        min (d.fld RAIL_CNT_SHORTS + 1) (2 ^ RAIL_CNT_SHORTS.width - 1) ∧
      (d.railShort kind attempt vhv).fld RAIL_STAT_ATTEMPT = attempt ∧
      (d.railShort kind attempt vhv).fld RAIL_STAT_VLEDST = (if 4 ≤ attempt then 6 else 5) ∧
      (4 ≤ attempt → ∃ e : Dev, d.railShort kind attempt vhv = e.ring 67 (word attempt) 0) ∧
      d.leavesRing (d.railShort kind attempt vhv) [RAIL_STAT, RAIL_CNT, RAIL_SUPERSEDED, LAMP_TRIP, LAMP_CNT] := by
  rw [Dev.railShort_eq]
  obtain ⟨hx, hsoft, hsrc, hxfld⟩ := shortBegun_begins d hoff
  generalize d.shortBegun = x at *
  obtain ⟨hy, hyrail, hdegraded, hyfld⟩ := shortDegraded_degrades x
  generalize x.shortDegraded = y at *
  obtain ⟨hz, hzrail, hattempt, hshorts, hzfld⟩ := shortTold_counts y kind vhv h
  generalize y.shortTold kind attempt vhv = z at *
  obtain ⟨hw, hwrail, hst, hraised, hwfld⟩ := shortNext_leads z attempt
  have hkept : (z.shortNext attempt).flag RAIL_STAT_DEGRADED = y.flag RAIL_STAT_DEGRADED :=
    congrArg (· != 0) ((hwfld RAIL_STAT_DEGRADED (by decide) (by decide)).trans (hzfld _ (by decide) (by decide) (by decide)))
  refine ⟨?_, ?_, hkept.trans hdegraded, ?_, ?_, hst, hraised, ?_⟩
  · rw [hwrail, hzrail, hyrail, hsoft]
  · rw [hwfld _ (by decide) (by decide), hzfld _ (by decide) (by decide) (by decide), hyfld _ (by decide) (by decide), hsrc]
  · rw [hwfld _ (by decide) (by decide), hshorts, hyfld _ (by decide) (by decide), hxfld _ (by decide) (by decide) (by decide)]
  · rw [hwfld _ (by decide) (by decide), hattempt]
  · exact (altersRing_trans hx (altersRing_trans hy (altersRing_trans hz hw))).leavesRing offShort_spares

/-! Faults of VTX, overvoltage and latch-off (R734, R736, R739, R740). -/

/-- The fault reported. -/
def Dev.faultTold (d : Dev) (kind vtx : Nat) : Dev :=
  ((d.setFlag RAIL_STAT_VTXFAULT true).bump RAIL_CNT_VTXFAULTS).ring 68 (word kind) (word vtx)

theorem faultTold_tells (d : Dev) (kind vtx : Nat) : (d.faultTold kind vtx).flag RAIL_STAT_VTXFAULT = true ∧
    (d.faultTold kind vtx).rail = d.rail ∧ (d.faultTold kind vtx).fld RAIL_CNT_VTXFAULTS =
      min (d.fld RAIL_CNT_VTXFAULTS + 1) (2 ^ RAIL_CNT_VTXFAULTS.width - 1) ∧
    d.rang (d.faultTold kind vtx) 68 (word kind) (word vtx) ∧
    Dev.AltersRing Dev.offShort [RAIL_STAT, RAIL_CNT] d (d.faultTold kind vtx) := by
  refine ⟨?_, Dev.ring_rail .., ?_, rang_ring (by rfl) _ _ _,
    altersRing_ring (altersRing_bump (altersRing_setFlag (altersRing_refl d) (by decide)) (by decide))⟩
  · exact (Dev.ring_flag (by decide) ..).trans ((Dev.flag_bump_apart _ (by decide) (by decide)).trans
      (Dev.flag_setFlag_same _ _ _ (by decide) (by decide)))
  · refine (Dev.ring_fld (by decide) ..).trans ((Dev.fld_bump_same _ _ (by decide)).trans ?_)
    rw [Dev.fld_setFlag_apart _ _ (by decide) (by decide)]

theorem Dev.vtxFault_reports (vtx : Nat) (hon : d.rail.on = true) : d.vtxFault 1 vtx = d.faultTold 1 vtx := by
  unfold Dev.vtxFault
  rw [if_neg (by simp [hon])]
  rfl

/-- VTX off after a fault of kind 2 or 3. -/
def Dev.vtxCut (d : Dev) : Dev :=
  let d := d.supersedeVtx.setFld RAIL_STAT_VTXSRC 0
  (d.setRail { d.rail with vtxOff := true, vtxSoft := none }).noteVtx

theorem Dev.vtxFault_cuts {kind : Nat} (vtx : Nat) (hon : d.rail.on = true)
    (hkind : kind = 2 ∨ (kind = 3 ∧ d.fld RAIL_STAT_VTXSRC = 2)) : d.vtxFault kind vtx = (d.faultTold kind vtx).vtxCut := by
  have hne : kind ≠ 1 := by omega
  unfold Dev.vtxFault
  rw [if_neg (by simp [hon]; omega)]
  exact if_neg hne

theorem vtxCut_cuts (d : Dev) : Dev.Railed [RAIL_STAT, RAIL_SUPERSEDED] d d.vtxCut ∧
    d.vtxCut.rail = { d.rail with vtxCmd := none, vtxOff := true, vtxSoft := none } ∧ d.vtxCut.fld RAIL_STAT_VTXSRC = 0 ∧
    d.vtxCut.flag RAIL_STAT_VTXFAULT = d.flag RAIL_STAT_VTXFAULT := by
  have hsup : Dev.Railed [RAIL_SUPERSEDED] d d.supersedeVtx := railed_supersedeVtx (by decide) d
  refine ⟨?_, ?_, (Dev.fld_noteVtx _ _).trans (Dev.fld_setFld_same _ _ _ (by decide)), ?_⟩
  · exact alters_trans (railed_setRail (alters_setFld (alters_mono hsup (by decide)) (by decide))) (railed_noteVtx _)
  · refine (Dev.noteVtx_rail _).trans ?_
    show { d.supersedeVtx.rail with vtxOff := true, vtxSoft := none } = _
    rw [Dev.supersedeVtx_rail]
  · exact (Dev.flag_noteVtx _ _).trans ((Dev.flag_setFld_apart _ _ (by decide) (by decide)).trans (hsup.flag (by decide)))

/-- BSTGATE held low, and the event. -/
theorem overvolt_raises (d : Dev) (vhv : Nat) (h : d.rail.overTick = none) :
    (d.overvolt vhv).flag RAIL_STAT_OVERVOLT = true ∧ (d.overvolt vhv).rail.gateLow = true ∧
      d.rang (d.overvolt vhv) 69 (word vhv) (word (d.rail.vledTgt / 10)) ∧ d.leavesRing (d.overvolt vhv) [RAIL_STAT] := by
  unfold Dev.overvolt
  extract_lets _ x due _
  have hdue : due = true := by
    show (match d.rail.overTick with | none => true | some t => decide (t + 32768 ≤ d.ticks)) = true
    rw [h]
  have hx : d.leaves x [RAIL_STAT] := leaves_setFlag (leaves_setRail (d.leaves_refl _)) (by decide)
  have hflag : x.flag RAIL_STAT_OVERVOLT = true := Dev.flag_setFlag_same _ _ _ (by decide) (by decide)
  rw [if_pos hdue]
  exact ⟨(Dev.ring_flag (by decide) ..).trans hflag, congrArg (·.gateLow) (Dev.ring_rail ..), rang_ring (by rfl) _ _ _,
    leavesRing_ring (leavesRing_of_leaves (leaves_setRail hx)) _ _ _⟩

/-- BSTGATE held low and BSTDIS released, and the event. -/
def Dev.above50 (d : Dev) (vhv : Nat) : Dev :=
  let d := d.setRail { d.rail with gateLow := true, disOpen := true }
  (d.setFlag RAIL_STAT_OVERVOLT true).ring 69 (word vhv) (word (d.rail.vledTgt / 10))

theorem above50_raises (d : Dev) (vhv : Nat) :
    (d.above50 vhv).flag RAIL_STAT_OVERVOLT = true ∧ (d.above50 vhv).rail.gateLow = true ∧
      (d.above50 vhv).rail.disOpen = true ∧ d.rang (d.above50 vhv) 69 (word vhv) (word (d.rail.vledTgt / 10)) ∧
      d.leavesRing (d.above50 vhv) [RAIL_STAT] := by
  have hset : d.leaves ((d.setRail { d.rail with gateLow := true, disOpen := true }).setFlag RAIL_STAT_OVERVOLT true)
      [RAIL_STAT] := leaves_setFlag (leaves_setRail (d.leaves_refl _)) (by decide)
  exact ⟨(Dev.ring_flag (by decide) ..).trans (Dev.flag_setFlag_same _ _ _ (by decide) (by decide)),
    congrArg (·.gateLow) (Dev.ring_rail ..), congrArg (·.disOpen) (Dev.ring_rail ..), rang_ring (by rfl) _ _ _,
    leavesRing_ring (leavesRing_of_leaves hset) _ _ _⟩

theorem Dev.writeRailCtrl_unkeyed {value : Word} (h : wGet value 16 8 ≠ 0x5A) : d.writeRailCtrl value = d.ignoreWrite :=
  if_pos h

theorem Dev.writeRailCtrl_clears {value : Word} (hkey : wGet value 16 8 = 0x5A) (hclear : wGet value 0 1 = 1)
    (hlatched : d.fld RAIL_STAT_VLEDST = 6) : d.writeRailCtrl value = d.beginSoftStart 1 := by
  unfold Dev.writeRailCtrl Dev.leaveLatch
  rw [if_neg (by simp [hkey]), if_pos hclear, if_pos hlatched]

/-- VTX after a fault: from the pump while the boost does not regulate. -/
def Dev.fromPump (d : Dev) : Dev :=
  ((d.setFld RAIL_STAT_VTXSRC 2).setRail { d.rail with vtxRef := d.rail.vtx, vtxSoft := some (d.rail.vtx, 0) }).noteVtx

/-- VTX starts again after a fault (R740). -/
def Dev.vtxRestart (d : Dev) : Dev :=
  if d.rail.vtxOff then
    let d := d.setRail { d.rail with vtxOff := false }
    if d.boostRuns then d.toRegulator true else d.fromPump
  else d

theorem vtxRestart_restarts (d : Dev) (hoff : d.rail.vtxOff = true) (hdegraded : d.flag RAIL_STAT_DEGRADED = false) :
    d.vtxRestart.fld RAIL_STAT_VTXSRC = (if d.boostRuns then 1 else 2) ∧ d.vtxRestart.rail.vtxOff = false ∧
      d.vtxRestart.rail.vtxSoft = some (d.rail.vtx, 0) ∧ d.leaves d.vtxRestart [RAIL_STAT] := by
  unfold Dev.vtxRestart
  rw [if_pos hoff]
  extract_lets _ x
  have hruns : x.boostRuns = d.boostRuns := rfl
  have hx : Dev.Railed [RAIL_STAT] d x := railed_setRail (alters_refl d)
  cases h : d.boostRuns with
  | true =>
    rw [if_pos (hruns.trans h), Dev.toRegulator_undegraded (d := x) true hdegraded]
    exact ⟨x.onRegulator_src true, congrArg (·.vtxOff) (x.onRegulator_rail true), congrArg (·.vtxSoft) (x.onRegulator_rail true),
      Dev.Railed.leaves (alters_trans hx (railed_onRegulator (by decide) x true))⟩
  | false =>
    rw [if_neg (by rw [hruns, h]; decide)]
    refine ⟨(Dev.fld_noteVtx _ _).trans (Dev.fld_setFld_same _ _ _ (by decide)), congrArg (·.vtxOff) (Dev.noteVtx_rail _),
      congrArg (·.vtxSoft) (Dev.noteVtx_rail _), ?_⟩
    exact Dev.Railed.leaves (alters_trans (railed_setRail (alters_setFld hx (by decide))) (railed_noteVtx _))

end Sys2Proof.Machine
end
section
/-!
SUPPORT. The rail commands (R713 to R740), each with what it leads to, and O43.
-/

namespace Sys2Proof.Machine

variable {s : State}

theorem vtxCommand_begins {value : Word} {v tag : Nat} (hv : v = wGet value 0 11) (htag : tag = wGet value 16 8)
    (hfixed : s.dev.flag RAIL_STAT_FIXED = false) (hlo : 600 ≤ v) (hhi : v ≤ 2000) (hacts : s.dev.railActs false = true)
    (htgt : s.dev.rail.vtxTgt ≠ v * 10) :
    Completes (.vtxCommand value) s fun t => t = (s.dev.vtxBegun (v * 10) tag).followVtx := by
  subst hv htag
  refine completes_of (f := fun d => d.vtxSet (wGet value 0 11) (wGet value 16 8) false) rfl ?_
  rw [Dev.vtxSet_eq, Dev.clampVtx_inRange hlo hhi hfixed]
  exact Dev.vtxGo_begins _ hacts htgt

theorem vtxCommand_spec {value : Word} {v tag : Nat} (hv : v = wGet value 0 11) (htag : tag = wGet value 16 8)
    (hfixed : s.dev.flag RAIL_STAT_FIXED = false) (hlo : 600 ≤ v) (hhi : v ≤ 2000) :
    (s.dev.railActs false = false → Completes (.vtxCommand value) s fun t =>
      t = s.dev.setRail { s.dev.rail with vtxWant := v * 10 }) ∧
    (s.dev.railActs false = true → s.dev.rail.vtxTgt ≠ v * 10 →
      (s.dev.rail.vtxCmd = none → Completes (.vtxCommand value) s fun t => t.rail.vtxTgt = v * 10 ∧
        t.rail.vtxWant = v * 10 ∧ t.rail.vtxCmd = some tag ∧ s.dev.leaves t [RAIL_SUPERSEDED]) ∧
      (∀ old, s.dev.rail.vtxCmd = some old → Completes (.vtxCommand value) s fun t => t.rail.vtxTgt = v * 10 ∧
        t.rail.vtxCmd = some tag ∧ s.dev.leaves t [RAIL_SUPERSEDED] ∧
        t.fld RAIL_SUPERSEDED_VTX = min (s.dev.fld RAIL_SUPERSEDED_VTX + 1) (2 ^ RAIL_SUPERSEDED_VTX.width - 1))) ∧
    (s.dev.railActs false = true → s.dev.rail.vtxTgt = v * 10 → s.dev.rail.vtxRef = v * 10 → s.dev.rail.vtxCmd = none →
      near2 s.dev.rail.vtx (v * 10) = true → Completes (.vtxCommand value) s fun t =>
        t.fld RAIL_LASTTAG_VTX = tag ∧ s.dev.rang t 64 (pack [(1, 23), (tag, 0)]) (word v) ∧
        s.dev.leavesRing t [RAIL_LASTTAG]) := by
  obtain ⟨hcommand, hleaves⟩ := vtxBegun_follows s.dev (v * 10) tag
  refine ⟨fun hwaits => ?_, fun hacts htgt => ⟨fun _ => ?_, fun old hold => ?_⟩, fun hacts htgt href hcmd hnear => ?_⟩
  · subst hv htag
    refine completes_of (f := fun d => d.vtxSet (wGet value 0 11) (wGet value 16 8) false) rfl ?_
    rw [Dev.vtxSet_eq, Dev.clampVtx_inRange hlo hhi hfixed]
    exact Dev.vtxGo_waits _ hwaits
  · refine (vtxCommand_begins hv htag hfixed hlo hhi hacts htgt).mono fun t ht => ?_
    rw [ht]
    exact ⟨congrArg (·.1) hcommand, congrArg (·.2.1) hcommand, congrArg (·.2.2) hcommand, hleaves⟩
  · refine (vtxCommand_begins hv htag hfixed hlo hhi hacts htgt).mono fun t ht => ?_
    rw [ht]
    exact ⟨congrArg (·.1) hcommand, congrArg (·.2.2) hcommand, hleaves, vtxBegun_supersedes hold _ _⟩
  · have htag256 : tag < 256 := htag ▸ wGet_lt value 16 8
    obtain ⟨-, hlast, hrang, hleft⟩ := railDone_vtx (s.dev.setRail { s.dev.rail with vtxWant := v * 10 })
      htag256 (v := v) (show s.dev.rail.vtxTgt / 10 = v by omega)
    subst hv htag
    refine completes_of (f := fun d => d.vtxSet (wGet value 0 11) (wGet value 16 8) false) rfl ?_
    rw [Dev.vtxSet_eq, Dev.clampVtx_inRange hlo hhi hfixed, Dev.vtxGo_settled _ hacts htgt href hcmd hnear]
    exact ⟨hlast, hrang, hleft⟩

theorem vtxCommand_clamped {value : Word} {v : Nat} (hv : v = wGet value 0 11) (hfixed : s.dev.flag RAIL_STAT_FIXED = false)
    (hwaits : s.dev.railActs false = false) (hlo : v < 600) : Completes (.vtxCommand value) s fun t =>
      ∃ e : Dev, e = (s.dev.bump RAIL_CNT_CLAMPS).ring 70 (pack [(1, 23), (v, 0)]) (word 600) ∧
        t = e.setRail { e.rail with vtxWant := 6000 } := by
  subst hv
  refine completes_of (f := fun d => d.vtxSet (wGet value 0 11) (wGet value 16 8) false) rfl ⟨_, rfl, ?_⟩
  rw [Dev.vtxSet_eq, Dev.clampVtx_low hlo hfixed]
  generalize pack [(1, 23), (wGet value 0 11, 0)] = w
  have hmode : ((s.dev.bump RAIL_CNT_CLAMPS).ring 70 w (word 600)).mode = s.dev.mode :=
    (Dev.ring_fld (by decide) ..).trans (Dev.fld_bump_apart _ (by decide) (by decide))
  have hon : ((s.dev.bump RAIL_CNT_CLAMPS).ring 70 w (word 600)).rail.on = s.dev.rail.on := congrArg (·.on) (Dev.ring_rail ..)
  exact Dev.vtxGo_waits _ ((Dev.railActs_congr hon hmode false).trans hwaits)

theorem vledFixed_spec {value : Word} {v tag : Nat} (hv : v = wGet value 0 13) (htag : tag = wGet value 16 8)
    (hlo : 800 ≤ v) (hhi : v ≤ 4800) (htgt : s.dev.rail.vtxTgt / 10 + 200 ≤ v) (hwant : s.dev.rail.vtxWant / 10 + 200 ≤ v) :
    (s.dev.railActs false = false → Completes (.vledFixed value) s fun t => t.flag RAIL_STAT_FIXED = true ∧
      t.rail = { s.dev.rail with vledFixed := v * 10 } ∧ s.dev.leaves t [RAIL_STAT]) ∧
    (s.dev.railActs false = true → s.dev.boostFitted = true → s.dev.rail.vledSoft = none → s.dev.rail.vledTgt ≠ v * 10 →
      Completes (.vledFixed value) s fun t => t.flag RAIL_STAT_FIXED = true ∧ t.rail.vledTgt = v * 10 ∧
        t.rail.vledFixed = v * 10 ∧ t.rail.vledCmd = some tag ∧ s.dev.leaves t [RAIL_STAT, RAIL_SUPERSEDED]) := by
  subst hv htag
  constructor
  · intro hwaits
    refine completes_of (f := fun d => d.vledFix (wGet value 0 13) (wGet value 16 8) false) rfl ?_
    rw [Dev.vledFix_inRange _ hlo hhi htgt hwant, if_neg (by simp [hwaits])]
    exact ⟨Dev.vledNoted_fixed _ _, rfl, (railed_vledNoted _ _).leaves⟩
  · intro hacts hfitted hsoft hnew
    refine completes_of (f := fun d => d.vledFix (wGet value 0 13) (wGet value 16 8) false) rfl ?_
    rw [Dev.vledFix_inRange _ hlo hhi htgt hwant, if_pos (by simp [hacts, hfitted])]
    obtain ⟨hvled, hcmd, hfix, hrailed⟩ := Dev.vledGo_begins (d := s.dev.vledNoted (wGet value 0 13)) (wGet value 16 8) hsoft hnew
    exact ⟨(hrailed.flag (by decide)).trans (Dev.vledNoted_fixed _ _), hvled, hfix, hcmd,
      Dev.Railed.leaves (alters_trans (alters_mono (railed_vledNoted _ _) (by decide)) (alters_mono hrailed (by decide)))⟩

theorem vledAdaptive_spec {value : Word} {tag : Nat} (htag : tag = wGet value 16 8) :
    (s.dev.railActs false = false → Completes (.vledAdaptive value) s fun t => t.flag RAIL_STAT_FIXED = false ∧
      t.rail = s.dev.rail ∧ s.dev.leaves t [RAIL_STAT]) ∧
    (s.dev.railActs false = true → s.dev.boostFitted = true → s.dev.rail.vledSoft = none →
      s.dev.rail.vledTgt ≠ s.dev.adaptiveVled →
      Completes (.vledAdaptive value) s fun t => t.flag RAIL_STAT_FIXED = false ∧ t.rail.vledTgt = s.dev.adaptiveVled ∧
        t.rail.vledCmd = some tag ∧ s.dev.leaves t [RAIL_STAT, RAIL_SUPERSEDED]) := by
  subst htag
  have hflag : (s.dev.setFlag RAIL_STAT_FIXED false).flag RAIL_STAT_FIXED = false :=
    Dev.flag_setFlag_same _ _ _ (by decide) (by decide)
  constructor
  · intro hwaits
    refine completes_of (f := fun d => d.vledAuto (wGet value 16 8) false) rfl ?_
    rw [Dev.vledAuto_eq, if_neg (by simp [hwaits])]
    exact ⟨hflag, rfl, leaves_setFlag (s.dev.leaves_refl _) (by decide)⟩
  · intro hacts hfitted hsoft hnew
    refine completes_of (f := fun d => d.vledAuto (wGet value 16 8) false) rfl ?_
    rw [Dev.vledAuto_eq, if_pos (by simp [hacts, hfitted])]
    obtain ⟨hvled, hcmd, -, hrailed⟩ :=
      Dev.vledGo_begins (d := s.dev.setFlag RAIL_STAT_FIXED false) (wGet value 16 8) hsoft hnew
    exact ⟨(hrailed.flag (by decide)).trans hflag, hvled, hcmd,
      Dev.Railed.leaves (alters_trans (alters_setFlag (alters_refl _) (by decide)) (alters_mono hrailed (by decide)))⟩

theorem referenceUpdate_spec (vhv vtx : BitVec 13) (pass : Bool) :
    (s.dev.rail.on = false → Completes (.referenceUpdate vhv vtx pass) s fun t =>
      t = s.dev.setRail { s.dev.rail with vhv := vhv.toNat * 10, vtx := vtx.toNat * 10 }) ∧
    (s.dev.rail.on = true → s.dev.rail.vledSoft = none → s.dev.rail.vtxSoft = none →
      Completes (.referenceUpdate vhv vtx pass) s fun t => t.rail.vhv = vhv.toNat * 10 ∧ t.rail.vtx = vtx.toNat * 10 ∧
        t.rail.vledTgt = s.dev.rail.vledTgt ∧ t.rail.vtxTgt = s.dev.rail.vtxTgt ∧
        t.rail.vtxRef = slewRef s.dev.rail.vtxRef s.dev.rail.vtxTgt (s.dev.par secRails 0x07) (vtx.toNat * 10) ∧
        t.rail.vledRef = (if s.dev.boostRuns then
          slewRef s.dev.rail.vledRef s.dev.rail.vledTgt (s.dev.par secRails 0x07) (vhv.toNat * 10) else s.dev.rail.vledRef) ∧
        s.dev.leaves t [RAIL_STAT]) := by
  constructor
  · intro hoff
    exact completes_of (f := fun d => d.referenceUpdate vhv.toNat vtx.toNat pass) rfl (Dev.referenceUpdate_off _ _ _ hoff)
  · intro hon hvled hvtx
    refine completes_of (f := fun d => d.referenceUpdate vhv.toNat vtx.toNat pass) rfl ?_
    have hvoltages := (Dev.referenceUpdate_voltages vhv.toNat vtx.toNat pass hon).trans
      (Dev.moveRefs_voltages (d := s.dev.measured vhv.toNat vtx.toNat) hvled hvtx)
    simp only [Rails.voltages, Prod.mk.injEq] at hvoltages
    obtain ⟨hvhv, hv, hvledTgt, hvtxTgt, hvledRef, hvtxRef⟩ := hvoltages
    exact ⟨hvhv, hv, hvledTgt, hvtxTgt, hvtxRef, hvledRef, (railed_referenceUpdate _ _ _ _).leaves⟩

theorem railDone_vtx_spec {tag : Nat} (hcmd : s.dev.rail.vtxCmd = some tag) (htag : tag < 256)
    (href : s.dev.rail.vtxRef = s.dev.rail.vtxTgt) :
    (near2 s.dev.rail.vtx s.dev.rail.vtxTgt = true → Completes (.railDone true) s fun t => t.rail.vtxCmd = none ∧
      t.fld RAIL_LASTTAG_VTX = tag ∧ s.dev.rang t 64 (pack [(1, 23), (tag, 0)]) (word (s.dev.rail.vtxTgt / 10)) ∧
      s.dev.leavesRing t [RAIL_LASTTAG]) ∧
    (near2 s.dev.rail.vtx s.dev.rail.vtxTgt = false → Completes (.railDone true) s fun t => t = s.dev) := by
  have hsettled : s.dev.railSettled true = if near2 s.dev.rail.vtx s.dev.rail.vtxTgt = true then s.dev.railDone true tag else s.dev := by
    simp [Dev.railSettled, hcmd, href]
  refine ⟨fun hnear => completes_of (f := fun d => d.railSettled true) rfl ?_,
    fun hfar => completes_of (f := fun d => d.railSettled true) rfl ?_⟩
  · rw [hsettled, if_pos hnear]
    exact railDone_vtx s.dev htag rfl
  · rw [hsettled, if_neg (by simp [hfar])]

theorem railDone_vled_spec {tag : Nat} (hcmd : s.dev.rail.vledCmd = some tag) (htag : tag < 256)
    (href : s.dev.rail.vledRef = s.dev.rail.vledTgt) (hsoft : s.dev.rail.vledSoft = none)
    (hnear : near2 s.dev.rail.vhv s.dev.rail.vledTgt = true) : Completes (.railDone false) s fun t => t.rail.vledCmd = none ∧
      t.fld RAIL_LASTTAG_VLED = tag ∧ s.dev.rang t 64 (word tag) (word (s.dev.rail.vledTgt / 10)) ∧
      s.dev.leavesRing t [RAIL_LASTTAG] := by
  have hsettled : s.dev.railSettled false = s.dev.railDone false tag := by
    simp [Dev.railSettled, hcmd, href, hsoft, hnear]
  refine completes_of (f := fun d => d.railSettled false) rfl ?_
  rw [hsettled]
  exact railDone_vled s.dev htag

theorem demandUpdate_spec : Completes .demandUpdate s fun t =>
    ∃ e : Dev, s.dev.leaves e [RAIL_DEMAND] ∧ e.rail = s.dev.rail ∧ t = e.retargetVled ∧
      (s.dev.lampDemand = none → e.fld RAIL_DEMAND_V = 0) ∧
      ∀ v, s.dev.lampDemand = some v → v ≤ 8000 → e.fld RAIL_DEMAND_V = v + 60 := by
  refine completes_of (f := Dev.demandUpdate) rfl ⟨_, leaves_setFld (s.dev.leaves_refl _) (by decide), rfl, rfl, fun hnone => ?_,
    fun v hsome hv => ?_⟩
  · rw [Dev.fld_setFld_same _ _ _ (by decide), hnone]
    rfl
  · rw [Dev.fld_setFld_same _ _ _ (by decide), hsome]
    exact Nat.mod_eq_of_lt (show v + 60 < 2 ^ RAIL_DEMAND_V.width by have : 2 ^ RAIL_DEMAND_V.width = 8192 := rfl; omega)

theorem softStartEnd_spec {p : Nat × Nat} (hsoft : s.dev.rail.vledSoft = some p) (hoff : s.dev.rail.vtxOff = false) :
    (s.dev.scan.cur.isSome = true → Completes .softStartEnd s fun t => t.rail.vledSoft = none ∧ t.rail.vtxBack = true ∧
      t.rail.vledRef = s.dev.rail.vledTgt ∧ t.rail.vledTgt = s.dev.rail.vledNext.getD s.dev.rail.vledTgt ∧
      t.fld RAIL_STAT_ATTEMPT = 0 ∧ t.boostRuns = true ∧ s.dev.leaves t [RAIL_STAT]) ∧
    (s.dev.scan.cur = none → s.dev.flag RAIL_STAT_DEGRADED = false → Completes .softStartEnd s fun t =>
      t.rail.vledSoft = none ∧ t.fld RAIL_STAT_VTXSRC = 1 ∧ t.rail.vtxRef = s.dev.rail.vtx ∧
      t.rail.vtxSoft = some (s.dev.rail.vtx, 0) ∧ t.fld RAIL_STAT_ATTEMPT = 0 ∧ s.dev.leaves t [RAIL_STAT]) ∧
    (s.dev.scan.cur = none → s.dev.flag RAIL_STAT_DEGRADED = true → Completes .softStartEnd s fun t =>
      t.flag RAIL_STAT_DEGRADED = false ∧ t.fld RAIL_STAT_VTXSRC = 1 ∧ s.dev.rang t 66 0 (word (s.dev.rail.vtx / 10)) ∧
      s.dev.leavesRing t [RAIL_STAT]) := by
  have hended := railed_rampEnded s.dev
  have hrail := s.dev.rampEnded_rail
  have hcur := s.dev.rampEnded_cur
  have hattempt := s.dev.rampEnded_attempt
  have hdegraded := s.dev.rampEnded_degraded
  have hruns := s.dev.rampEnded_runs
  have hstart : s.dev.softStartEnd = if s.dev.rampEnded.scan.cur.isSome then
      s.dev.rampEnded.setRail { s.dev.rampEnded.rail with vtxBack := true } else s.dev.rampEnded.toRegulator true := by
    rw [Dev.softStartEnd_eq, if_pos (by simp [hsoft]), if_neg (by simp [hrail, hoff])]
  generalize s.dev.rampEnded = x at *
  have hvtx : x.rail.vtx = s.dev.rail.vtx := congrArg (·.vtx) hrail
  have honreg : Dev.Railed [RAIL_STAT] s.dev (x.onRegulator true) := alters_trans hended (railed_onRegulator (by decide) x true)
  refine ⟨fun hframe => completes_of (f := Dev.softStartEnd) rfl ?_, fun hgap hwell => completes_of (f := Dev.softStartEnd) rfl ?_,
    fun hgap hbad => completes_of (f := Dev.softStartEnd) rfl ?_⟩
  · rw [hstart, if_pos (by rw [hcur]; exact hframe)]
    exact ⟨congrArg (·.vledSoft) hrail, rfl, congrArg (·.vledRef) hrail, congrArg (·.vledTgt) hrail, hattempt, hruns,
      leaves_setRail hended.leaves⟩
  · rw [hstart, if_neg (by simp [hcur, hgap]), Dev.toRegulator_undegraded true (hdegraded.trans hwell)]
    refine ⟨?_, x.onRegulator_src true, ?_, ?_, (x.fld_onRegulator true (by decide)).trans hattempt, honreg.leaves⟩
    · rw [x.onRegulator_rail, hrail]
    · rw [x.onRegulator_rail, hrail]
    · rw [x.onRegulator_rail, hrail]
      rfl
  · rw [hstart, if_neg (by simp [hcur, hgap]), Dev.toRegulator_degraded true (hdegraded.trans hbad), hvtx]
    have hevr : ((x.onRegulator true).setFlag RAIL_STAT_DEGRADED false).evr = s.dev.evr := honreg.keeps (·.evr) fun _ => rfl
    refine ⟨(Dev.ring_flag (by decide) ..).trans (Dev.flag_setFlag_same _ _ _ (by decide) (by decide)), ?_,
      rang_ring hevr _ _ _, leavesRing_ring (leavesRing_of_leaves (leaves_setFlag honreg.leaves (by decide))) _ _ _⟩
    exact (Dev.ring_fld (by decide) ..).trans ((Dev.fld_setFlag_apart _ _ (by decide) (by decide)).trans (x.onRegulator_src true))

theorem softStartEnd_idle (hsoft : s.dev.rail.vledSoft = none) : Completes .softStartEnd s fun t => t = s.dev :=
  completes_of (f := Dev.softStartEnd) rfl (by rw [Dev.softStartEnd_eq]; exact if_neg (by simp [hsoft]))

theorem vtxToRegulator_moves (hback : s.dev.rail.vtxBack = true) (hgap : s.dev.scan.cur = none)
    (hwell : s.dev.flag RAIL_STAT_DEGRADED = false) : Completes .vtxToRegulator s fun t =>
      t.fld RAIL_STAT_VTXSRC = 1 ∧ t.rail.vtxBack = false ∧ t.rail.vtxRef = s.dev.rail.vtx ∧ t.rail.vtxSoft = none ∧
      s.dev.leaves t [RAIL_STAT] := by
  refine completes_of (f := fun d => if d.rail.vtxBack && d.scan.cur.isNone then d.toRegulator false else d) rfl ?_
  rw [if_pos (by simp [hback, hgap]), Dev.toRegulator_undegraded false hwell]
  refine ⟨s.dev.onRegulator_src false, ?_, ?_, ?_, (railed_onRegulator (by decide) s.dev false).leaves⟩
  · rw [s.dev.onRegulator_rail]
  · rw [s.dev.onRegulator_rail]
  · rw [s.dev.onRegulator_rail]
    rfl

theorem vtxToRegulator_idle (hback : s.dev.rail.vtxBack = false) : Completes .vtxToRegulator s fun t => t = s.dev :=
  completes_of (f := fun d => if d.rail.vtxBack && d.scan.cur.isNone then d.toRegulator false else d) rfl
    (if_neg (by simp [hback]))

theorem railShort_completes {p : Nat × Nat} (vhv : BitVec 13) (hsoft : s.dev.rail.vledSoft = some p) :
    Completes (.railShort vhv) s fun t => t = s.dev.railShort 1 (s.dev.fld RAIL_STAT_ATTEMPT) vhv.toNat :=
  completes_of (f := fun d => if d.rail.vledSoft.isSome then d.railShort 1 (d.fld RAIL_STAT_ATTEMPT) vhv.toNat else d) rfl
    (if_pos (by simp [hsoft]))

theorem railShort_idle (vhv : BitVec 13) (hsoft : s.dev.rail.vledSoft = none) :
    Completes (.railShort vhv) s fun t => t = s.dev :=
  completes_of (f := fun d => if d.rail.vledSoft.isSome then d.railShort 1 (d.fld RAIL_STAT_ATTEMPT) vhv.toNat else d) rfl
    (if_neg (by simp [hsoft]))

theorem runningShort_completes (vhv : BitVec 13) (hruns : s.dev.boostRuns = true) :
    Completes (.runningShort vhv) s fun t => t = s.dev.railShort 2 1 vhv.toNat :=
  completes_of (f := fun d => if d.boostRuns then d.railShort 2 1 vhv.toNat else d) rfl (if_pos hruns)

theorem shortRetry_completes (hst : s.dev.fld RAIL_STAT_VLEDST = 5) :
    Completes .shortRetry s fun t => t = s.dev.beginSoftStart (s.dev.fld RAIL_STAT_ATTEMPT + 1) :=
  completes_of (f := fun d => if d.fld RAIL_STAT_VLEDST = 5 then d.beginSoftStart (d.fld RAIL_STAT_ATTEMPT + 1) else d) rfl
    (if_pos hst)

theorem shortRetry_idle (hst : s.dev.fld RAIL_STAT_VLEDST ≠ 5) : Completes .shortRetry s fun t => t = s.dev :=
  completes_of (f := fun d => if d.fld RAIL_STAT_VLEDST = 5 then d.beginSoftStart (d.fld RAIL_STAT_ATTEMPT + 1) else d) rfl
    (if_neg hst)

theorem railOvervolt_completes (vhv : BitVec 13) (hruns : s.dev.boostRuns = true) :
    Completes (.railOvervolt vhv) s fun t => t = s.dev.overvolt vhv.toNat :=
  completes_of (f := fun d => if d.boostRuns || d.rail.vledSoft.isSome then d.overvolt vhv.toNat else d) rfl
    (if_pos (by simp [hruns]))

theorem vhvAbove50v_completes (vhv : BitVec 13) : Completes (.vhvAbove50v vhv) s fun t => t = s.dev.above50 vhv.toNat :=
  completes_of (f := fun d => d.above50 vhv.toNat) rfl rfl

theorem railVtxFault_reports (vtx : BitVec 13) (hon : s.dev.rail.on = true) :
    Completes (.railVtxFault 1 vtx) s fun t => t = s.dev.faultTold 1 vtx.toNat :=
  completes_of (f := fun d => d.vtxFault 1 vtx.toNat) rfl (Dev.vtxFault_reports _ hon)

theorem railVtxFault_cuts (vtx : BitVec 13) (hon : s.dev.rail.on = true) {k : BitVec 2}
    (hk : k = 2 ∨ (k = 3 ∧ s.dev.fld RAIL_STAT_VTXSRC = 2)) :
    Completes (.railVtxFault k vtx) s fun t => t = (s.dev.faultTold k.toNat vtx.toNat).vtxCut := by
  refine completes_of (f := fun d => d.vtxFault k.toNat vtx.toNat) rfl (Dev.vtxFault_cuts _ hon ?_)
  rcases hk with rfl | ⟨rfl, hsrc⟩
  · exact Or.inl rfl
  · exact Or.inr ⟨rfl, hsrc⟩

theorem vtxFaultRestart_completes : Completes .vtxFaultRestart s fun t => t = s.dev.vtxRestart :=
  completes_of (f := Dev.vtxRestart) rfl rfl

theorem clearlatch_unkeyed {value : Word} (hkey : wGet value 16 8 ≠ 0x5A) : Completes (.clearlatch value) s fun t =>
    s.dev.leaves t [SYS_WRIGN] ∧
      t.fld SYS_WRIGN_COUNT = min (s.dev.fld SYS_WRIGN_COUNT + 1) (2 ^ SYS_WRIGN_COUNT.width - 1) := by
  refine completes_of (f := fun d => d.writeRailCtrl value) rfl ?_
  rw [Dev.writeRailCtrl_unkeyed hkey]
  exact ⟨Dev.leaves_ignoreWrite _, Dev.fld_ignoreWrite _⟩

theorem clearlatch_clears {value : Word} (hkey : wGet value 16 8 = 0x5A) (hclear : wGet value 0 1 = 1)
    (hlatched : s.dev.fld RAIL_STAT_VLEDST = 6) : Completes (.clearlatch value) s fun t => t = s.dev.beginSoftStart 1 :=
  completes_of (f := fun d => d.writeRailCtrl value) rfl (Dev.writeRailCtrl_clears hkey hclear hlatched)

/-- Settles O43, command by command. -/
theorem railsAreCommanded : Obligations.RailsAreCommanded := by
  intro s
  have hattempt : s.dev.fld RAIL_STAT_ATTEMPT < 8 := wGet_lt _ _ 3
  refine ⟨fun value v tag hv htag hfixed => ⟨vtxCommand_clamped hv hfixed, vtxCommand_spec hv htag hfixed⟩,
    fun value v tag hv htag => vledFixed_spec hv htag, fun value tag => vledAdaptive_spec, referenceUpdate_spec,
    fun tag => railDone_vtx_spec, fun tag => railDone_vled_spec, demandUpdate_spec, fun p => softStartEnd_spec,
    softStartEnd_idle, vtxToRegulator_moves, vtxToRegulator_idle, fun vhv hoff => ⟨fun p a hsoft ha => ?_, railShort_idle vhv,
    fun hruns => ?_⟩, fun hst hlow => ?_, shortRetry_idle, fun value => ⟨clearlatch_unkeyed, fun hkey hclear hlatched => ?_⟩,
    fun vhv => ⟨fun hruns htick => ?_, ?_⟩, fun vtx hon => ⟨?_, fun k hk => ?_⟩, fun hoff hwell => ?_, fun hoff => ?_⟩
  · subst ha
    refine (railShort_completes vhv hsoft).mono fun t ht => ?_
    rw [ht]
    exact railShort_does s.dev 1 vhv.toNat hoff hattempt
  · refine (runningShort_completes vhv hruns).mono fun t ht => ?_
    obtain ⟨-, hsrc, hdegraded, hshorts, hcount, hst, -, hleft⟩ := railShort_does s.dev 2 vhv.toNat hoff (show 1 < 8 by decide)
    rw [ht]
    exact ⟨hsrc, hdegraded, hshorts, hcount, hst, hleft⟩
  · refine (shortRetry_completes hst).mono fun t ht => ?_
    rw [ht]
    exact beginSoftStart_begins s.dev (by omega)
  · refine (clearlatch_clears hkey hclear hlatched).mono fun t ht => ?_
    obtain ⟨hst, hcount, hsoft, -, hleft⟩ := beginSoftStart_begins s.dev (show 1 < 8 by decide)
    rw [ht]
    exact ⟨hst, hcount, hsoft, hleft⟩
  · refine (railOvervolt_completes vhv hruns).mono fun t ht => ?_
    rw [ht]
    exact overvolt_raises s.dev vhv.toNat htick
  · refine (vhvAbove50v_completes vhv).mono fun t ht => ?_
    rw [ht]
    exact above50_raises s.dev vhv.toNat
  · refine (railVtxFault_reports vtx hon).mono fun t ht => ?_
    obtain ⟨hfault, hrail, hcount, hrang, hleft⟩ := faultTold_tells s.dev 1 vtx.toNat
    rw [ht]
    exact ⟨hfault, hrail, hcount, hrang, hleft.leavesRing offShort_spares⟩
  · refine (railVtxFault_cuts vtx hon hk).mono fun t ht => ?_
    obtain ⟨hfault, -, hcount, -, hleft⟩ := faultTold_tells s.dev k.toNat vtx.toNat
    generalize s.dev.faultTold k.toNat vtx.toNat = x at *
    obtain ⟨hcut, hrail, hsrc, hkept⟩ := vtxCut_cuts x
    rw [ht]
    refine ⟨hkept.trans hfault, hsrc, congrArg (·.vtxOff) hrail, congrArg (·.vtxCmd) hrail, (hcut.fld (by decide)).trans hcount, ?_⟩
    exact leavesRing_alters ((altersRing_mono hleft (by decide)).leavesRing offShort_spares)
      (altersRing_of_alters (p := Dev.offShort) hcut offRails_spares fun _ => rfl) (by decide) offShort_spares
  · refine vtxFaultRestart_completes.mono fun t ht => ?_
    rw [ht]
    exact vtxRestart_restarts s.dev hoff hwell
  · refine vtxFaultRestart_completes.mono fun t ht => ?_
    rw [ht]
    exact if_neg (by simp [hoff])

end Sys2Proof.Machine
end

section
/-!
SUPPORT. The gather channels (R677 to R701): their state, and what the commands to a host channel do.
-/

namespace Sys2Proof.Machine

variable {d e : Dev} {s : State} {as : List Nat}

/-- A machine without its registers and its gather engine. -/
def Dev.offGather (d : Dev) : Dev := { d with regs := [], gde := {} }

theorem offGather_spares : SparesMemories Dev.offGather := fun _ => ⟨rfl, rfl, rfl⟩

/-! The state of a channel. -/

theorem Dev.chan_setChan (d : Dev) {c : Nat} (ch : Channel) (h : c < d.gde.channels.length) : (d.setChan c ch).chan c = ch := by
  show (d.gde.channels.set c ch).getD c {} = ch
  rw [List.getD_eq_getElem?_getD, List.getElem?_set_self h]
  rfl

@[simp] theorem Dev.setChan_channels_length (d : Dev) (c : Nat) (ch : Channel) :
    (d.setChan c ch).gde.channels.length = d.gde.channels.length := List.length_set ..

theorem alters_setChan {c : Nat} (h : Dev.Alters Dev.offGather as d e) {ch : Channel} (hc : GDE_CSTAT c ∈ as) :
    Dev.Alters Dev.offGather as d (e.setChan c ch) := by
  have hchan : Dev.Alters Dev.offGather as d { e with gde := { e.gde with channels := e.gde.channels.set c ch } } :=
    alters_of h rfl rfl
  exact alters_setReg hchan hc

theorem Dev.fld_setChan (d : Dev) (c : Nat) (ch : Channel) {g : Fld} (h : g.addr ≠ GDE_CSTAT c) :
    (d.setChan c ch).fld g = d.fld g :=
  (alters_setChan (as := [GDE_CSTAT c]) (alters_refl d) (by simp)).fld (by simpa using h)

theorem Dev.chanFaulted_setChan (d : Dev) (c k : Nat) (ch : Channel) : (d.setChan c ch).chanFaulted k = d.chanFaulted k := by
  unfold Dev.chanFaulted
  rw [d.fld_setChan c ch (by show 0x0F00 ≠ 0x0F08 + c; omega)]

@[simp] theorem Dev.setFaulted_gde (d : Dev) (c : Nat) (b : Bool) : (d.setFaulted c b).gde = d.gde := by
  unfold Dev.setFaulted
  dsimp only
  split <;> rfl

@[simp] theorem Dev.setFaulted_link (d : Dev) (c : Nat) (b : Bool) : (d.setFaulted c b).link = d.link := by
  unfold Dev.setFaulted
  dsimp only
  split <;> rfl

theorem alters_setFaulted (h : Dev.Alters Dev.offGather as d e) {c : Nat} {b : Bool} (hc : GDE_STAT ∈ as) :
    Dev.Alters Dev.offGather as d (e.setFaulted c b) := by
  unfold Dev.setFaulted
  dsimp only
  split
  · exact h
  · exact alters_setFld h hc

theorem testBit_sub_two_pow {m c : Nat} (h : m.testBit c = true) : (m - 2 ^ c).testBit c = false := by
  rw [Nat.testBit_eq_decide_div_mod_eq] at h ⊢
  have hodd : m / 2 ^ c % 2 = 1 := by simpa using h
  have hsub : (m - 2 ^ c) / 2 ^ c = m / 2 ^ c - 1 := by
    simpa using Nat.sub_mul_div m (2 ^ c) 1
  rw [hsub]
  simp only [decide_eq_false_iff_not]
  omega

theorem Dev.chanFaulted_cleared (d : Dev) (c : Nat) : (d.setFaulted c false).chanFaulted c = false := by
  unfold Dev.setFaulted
  dsimp only
  split
  next h => exact h
  next h =>
    have hset : (d.fld GDE_STAT_FAULTED).testBit c = true := by simpa using h
    unfold Dev.chanFaulted
    rw [Dev.fld_setFld_same _ _ _ (by decide), Nat.testBit_mod_two_pow, if_neg (by simp), testBit_sub_two_pow hset, Bool.and_false]

/-! Operations on a channel. -/

theorem Dev.activate_takes {c : Nat} {q : Descriptor} {rest : List Descriptor} (hidle : (d.chan c).active = none)
    (hqueue : (d.chan c).queue = q :: rest) :
    d.activate c = d.setChan c { active := some q, queue := rest, discard := (d.chan c).discard } := by
  unfold Dev.activate
  simp only [hidle, hqueue]

theorem Dev.activate_empty {c : Nat} (hqueue : (d.chan c).queue = []) : d.activate c = d := by
  unfold Dev.activate
  simp only [hqueue]
  split <;> simp_all

theorem Dev.activate_busy {c : Nat} {x : Descriptor} (hactive : (d.chan c).active = some x) : d.activate c = d := by
  unfold Dev.activate
  simp only [hactive]

theorem alters_activate (h : Dev.Alters Dev.offGather as d e) {c : Nat} (hc : GDE_CSTAT c ∈ as) :
    Dev.Alters Dev.offGather as d (e.activate c) := by
  unfold Dev.activate
  dsimp only
  split
  · exact alters_setChan h hc
  · exact h

theorem Dev.chanFaulted_activate (d : Dev) (c k : Nat) : (d.activate c).chanFaulted k = d.chanFaulted k := by
  unfold Dev.activate
  dsimp only
  split
  · exact d.chanFaulted_setChan ..
  · rfl

theorem alters_queueDesc (h : Dev.Alters Dev.offGather as d e) {c : Nat} {x : Descriptor} (hc : GDE_CSTAT c ∈ as) :
    Dev.Alters Dev.offGather as d (e.queueDesc c x) := alters_activate (alters_setChan h hc) hc

theorem Dev.queueDesc_idle {c : Nat} (x : Descriptor) (hlen : c < d.gde.channels.length) (hidle : (d.chan c).active = none)
    (hqueue : (d.chan c).queue = []) :
    (d.queueDesc c x).chan c = { active := some x, queue := [], discard := (d.chan c).discard } := by
  unfold Dev.queueDesc
  dsimp only
  have hchan := d.chan_setChan { d.chan c with queue := (d.chan c).queue ++ [x] } hlen
  have hlen' : c < (d.setChan c { d.chan c with queue := (d.chan c).queue ++ [x] }).gde.channels.length := by simpa using hlen
  generalize d.setChan c { d.chan c with queue := (d.chan c).queue ++ [x] } = y at *
  rw [Dev.activate_takes (q := x) (rest := []) (by rw [hchan]; exact hidle) (by rw [hchan, hqueue]; rfl),
    Dev.chan_setChan _ _ hlen', hchan]

theorem Dev.queueDesc_busy {c : Nat} (x : Descriptor) {y : Descriptor} (hlen : c < d.gde.channels.length)
    (hactive : (d.chan c).active = some y) :
    (d.queueDesc c x).chan c = { d.chan c with queue := (d.chan c).queue ++ [x] } := by
  unfold Dev.queueDesc
  dsimp only
  have hchan := d.chan_setChan { d.chan c with queue := (d.chan c).queue ++ [x] } hlen
  rw [Dev.activate_busy (x := y) (by rw [hchan]; exact hactive), hchan]

/-! A write of GDE_CCMD (R677 to R679, R700, R701). -/

theorem ccmdWord_fields (channel : BitVec 3) {op : Nat} (h : op < 16) :
    wGet (ccmdWord channel op) 4 3 = channel.toNat ∧ wGet (ccmdWord channel op) 0 4 = op := by
  have hchannel := channel.isLt
  constructor
  · simp only [wGet, ccmdWord, pack, List.foldl, BitVec.toNat_ofNat, Nat.shiftRight_eq_div_pow]
    omega
  · simp only [wGet, ccmdWord, pack, List.foldl, BitVec.toNat_ofNat, Nat.shiftRight_eq_div_pow]
    omega

theorem Dev.gdeCommand_other {channel : BitVec 3} {op : Nat} (hop : op < 16) (h : 2 ≤ channel.toNat) :
    d.gdeCommand (ccmdWord channel op) = d.ignoreWrite := by
  obtain ⟨hchannel, -⟩ := ccmdWord_fields channel hop
  unfold Dev.gdeCommand
  dsimp only
  rw [hchannel, if_pos h]

/-- What a command to a host channel does, by its operation. -/
def Dev.hostCommand (d : Dev) (c : Nat) : Nat → Dev
  | 1 => d.gdePush c
  | 2 => if d.chanFaulted c then (d.setFaulted c false).setChan c { d.chan c with asked := (d.chan c).word } else d.ignoreWrite
  | 3 => if d.chanFaulted c then (d.setChan c { d.chan c with skipped := true }).nextElement c else d.ignoreWrite
  | 4 => (d.dropActive c).activate c
  | 5 => d.flushChan c
  | _ => d

theorem Dev.gdeCommand_host {channel : BitVec 3} {op : Nat} (hop : op < 16) (h : channel.toNat < 2) :
    d.gdeCommand (ccmdWord channel op) = d.hostCommand channel.toNat op := by
  obtain ⟨hchannel, hwhat⟩ := ccmdWord_fields channel hop
  unfold Dev.gdeCommand
  dsimp only
  rw [hchannel, hwhat, if_neg (by omega)]
  rfl

/-- The staged descriptor stands in the staging registers. -/
theorem Dev.staged_congr {c : Nat} (h : ∀ a, 0x0F20 ≤ a → e.reg a = d.reg a) : e.staged c = d.staged c := by
  have hctl : e.reg (GDE_SCTL c) = d.reg (GDE_SCTL c) := h _ (by show 0x0F20 ≤ 0x0F20 + 2 * c; omega)
  have hdst : e.reg (GDE_SDST c) = d.reg (GDE_SDST c) := h _ (by show 0x0F20 ≤ 0x0F21 + 2 * c; omega)
  have hsel (i : Nat) : e.reg (GDE_SEL i) = d.reg (GDE_SEL i) := h _ (by show 0x0F20 ≤ 0x0F40 + i; omega)
  simp only [Dev.staged, Dev.fld, hctl, hdst, hsel]

/-- The result field of a host channel. -/
def pushresFld (c : Nat) : Fld := if c = 0 then GDE_PUSHRES_CH0 else GDE_PUSHRES_CH1

theorem pushresFld_fits (c : Nat) : (pushresFld c).lsb + (pushresFld c).width ≤ 24 ∧ (pushresFld c).addr = GDE_PUSHRES ∧
    (pushresFld c).width = 4 := by
  unfold pushresFld
  split
  · decide
  · decide

theorem Dev.staged_pushed (d : Dev) (c v : Nat) : (d.setFld (pushresFld c) v).staged c = d.staged c := by
  obtain ⟨-, haddr, -⟩ := pushresFld_fits c
  refine Dev.staged_congr fun a ha => Dev.reg_setFld_ne _ _ _ ?_
  rw [haddr]
  show a ≠ 0x0F02
  omega

theorem Dev.gdePush_queued {c : Nat} (h : d.pushResult c = 1) :
    d.gdePush c = (d.setFld (pushresFld c) 1).queueDesc c (d.staged c).2 := by
  unfold Dev.gdePush
  dsimp only
  rw [if_pos h, h, ← pushresFld, Dev.staged_pushed]

theorem Dev.gdePush_rejected {c : Nat} (h : d.pushResult c ≠ 1) :
    d.gdePush c = (d.setFld (pushresFld c) (d.pushResult c)).bump GDE_CNT_REJECT := by
  unfold Dev.gdePush
  dsimp only
  rw [if_neg h, ← pushresFld]

theorem Dev.pushResult_le (d : Dev) (c : Nat) : d.pushResult c ≤ 3 := by
  unfold Dev.pushResult
  dsimp only
  repeat' split
  all_goals decide

theorem Dev.pushResult_full {c : Nat} (h : 4 ≤ (d.chan c).queue.length) : d.pushResult c = 2 := if_pos h

theorem Dev.pushResult_range {c : Nat} (hroom : (d.chan c).queue.length < 4)
    (h : d.fld (GDE_SCTL_NELEM c) = 0 ∨ 16 < d.fld (GDE_SCTL_NELEM c)) : d.pushResult c = 3 :=
  (if_neg (by omega)).trans (if_pos h)

theorem Dev.fld_pushed (d : Dev) (c : Nat) {v : Nat} (hv : v < 16) : (d.setFld (pushresFld c) v).fld (pushresFld c) = v := by
  obtain ⟨hfits, -, hwidth⟩ := pushresFld_fits c
  rw [Dev.fld_setFld_same _ _ _ hfits, hwidth]
  exact Nat.mod_eq_of_lt hv

/-- A descriptor pushed: queued, with its result shown. -/
theorem gdePush_pushes {c : Nat} (h : d.pushResult c = 1) :
    (d.gdePush c).fld (pushresFld c) = 1 ∧ d.leaves (d.gdePush c) [GDE_PUSHRES, GDE_CSTAT c] := by
  obtain ⟨-, haddr, -⟩ := pushresFld_fits c
  rw [Dev.gdePush_queued h]
  have hqueued := alters_queueDesc (as := [GDE_CSTAT c]) (c := c) (x := (d.staged c).2) (alters_refl (d.setFld (pushresFld c) 1)) (by simp)
  have hshown : d.leaves (d.setFld (pushresFld c) 1) [GDE_PUSHRES, GDE_CSTAT c] :=
    leaves_setFld (d.leaves_refl _) (by rw [haddr]; simp)
  refine ⟨?_, leaves_alters hshown hqueued (by simp) offGather_spares⟩
  rw [hqueued.fld (by rw [haddr, List.mem_singleton]; show ¬ 0x0F02 = 0x0F08 + c; omega), d.fld_pushed c (by decide)]

theorem gdePush_rejects {c : Nat} (h : d.pushResult c ≠ 1) : (d.gdePush c).gde = d.gde ∧
    (d.gdePush c).fld (pushresFld c) = d.pushResult c ∧
    (d.gdePush c).fld GDE_CNT_REJECT = min (d.fld GDE_CNT_REJECT + 1) (2 ^ GDE_CNT_REJECT.width - 1) ∧
    d.leaves (d.gdePush c) [GDE_PUSHRES, GDE_CNT] := by
  obtain ⟨hfits, haddr, -⟩ := pushresFld_fits c
  have hres : d.pushResult c < 16 := lt_of_le_of_lt (d.pushResult_le c) (by decide)
  have happart : (pushresFld c).apart GDE_CNT_REJECT = true := by simp [Fld.apart, haddr]
  have happart' : GDE_CNT_REJECT.apart (pushresFld c) = true := by simp [Fld.apart, haddr]
  rw [Dev.gdePush_rejected h]
  refine ⟨rfl, ?_, ?_, leaves_bump (leaves_setFld (d.leaves_refl _) (by rw [haddr]; simp)) (by decide)⟩
  · rw [Dev.fld_bump_apart _ (by decide) happart, d.fld_pushed c hres]
  · rw [Dev.fld_bump_same _ _ (by decide), Dev.fld_setFld_apart _ _ hfits happart']

/-! The end of a descriptor, and of an element (R690, R691). -/

/-- What a channel's present element leaves when it ends. -/
def Channel.pastElement (ch : Channel) : Channel :=
  { ch with elem := ch.elem + 1, word := 0, asked := 0, data := [], failed := none, srcEnt := none, dstEnt := none }

/-- A machine without its gather engine and its reports. -/
def Dev.offCopy (d : Dev) : Dev := { d with gde := {}, rpt := {} }

theorem altersRing_setChan {c : Nat} (h : Dev.AltersRing Dev.offCopy as d e) {ch : Channel} (hc : GDE_CSTAT c ∈ as) :
    Dev.AltersRing Dev.offCopy as d (e.setChan c ch) := by
  have hchan : Dev.AltersRing Dev.offCopy as d { e with gde := { e.gde with channels := e.gde.channels.set c ch } } :=
    altersRing_of h rfl rfl rfl
  exact altersRing_setReg hchan hc

theorem altersRing_setFaulted (h : Dev.AltersRing Dev.offCopy as d e) {c : Nat} {b : Bool} (hc : GDE_STAT ∈ as) :
    Dev.AltersRing Dev.offCopy as d (e.setFaulted c b) := by
  unfold Dev.setFaulted
  dsimp only
  split
  · exact h
  · exact altersRing_setFld h hc

theorem altersRing_activate (h : Dev.AltersRing Dev.offCopy as d e) {c : Nat} (hc : GDE_CSTAT c ∈ as) :
    Dev.AltersRing Dev.offCopy as d (e.activate c) := by
  unfold Dev.activate
  dsimp only
  split
  · exact altersRing_setChan h hc
  · exact h

/-- The report of a host channel's end, or the note of a copy moved. -/
def Dev.completionTold (d : Dev) (c : Nat) (ch : Channel) (x : Descriptor) : Dev :=
  if c < 2 then
    d.ring 144 (pack [(c, 21), (x.elems.length - 1, 17), (ch.written % 131072, 0)])
      (pack [(x.tag, 16), (min ch.collisions 255, 8), (bit ch.skipped, 0)])
  else if c = 2 then d.setRpt { d.rpt with copied := true }
  else d

theorem Dev.gdeComplete_active {c : Nat} {x : Descriptor} (h : (d.chan c).active = some x) :
    d.gdeComplete c = ((((d.setFaulted c false).setChan c
      { queue := (d.chan c).queue, discard := d.readsOut c }).completionTold c (d.chan c) x).activate c) := by
  simp only [Dev.gdeComplete, h, Dev.completionTold]

theorem Dev.gdeComplete_idle {c : Nat} (h : (d.chan c).active = none) : d.gdeComplete c = d := by
  unfold Dev.gdeComplete
  extract_lets ch
  split
  · rfl
  next y hy => exact absurd (hy.symm.trans h) (by simp)

theorem altersRing_completionTold (h : Dev.AltersRing Dev.offCopy as d e) (c : Nat) (ch : Channel) (x : Descriptor) :
    Dev.AltersRing Dev.offCopy as d (e.completionTold c ch x) := by
  unfold Dev.completionTold
  split
  · exact altersRing_ring h
  · split
    · exact altersRing_of h rfl rfl rfl
    · exact h

theorem altersRing_gdeComplete (d : Dev) {c : Nat} (hstat : GDE_STAT ∈ as) (hc : GDE_CSTAT c ∈ as) :
    Dev.AltersRing Dev.offCopy as d (d.gdeComplete c) := by
  cases h : (d.chan c).active with
  | none => rw [Dev.gdeComplete_idle h]; exact altersRing_refl d
  | some x =>
    rw [Dev.gdeComplete_active h]
    exact altersRing_activate (altersRing_completionTold
      (altersRing_setChan (altersRing_setFaulted (altersRing_refl d) hstat) hc) c _ x) hc

theorem Dev.nextElement_eq {c : Nat} {x : Descriptor} (hactive : (d.chan c).active = some x) : d.nextElement c =
    if x.elems.length ≤ (d.chan c).elem + 1 then ((d.setFaulted c false).setChan c (d.chan c).pastElement).gdeComplete c
    else (d.setFaulted c false).setChan c (d.chan c).pastElement := by
  unfold Dev.nextElement
  extract_lets ch
  split
  next hnone => exact absurd (hnone.symm.trans hactive) (by simp)
  next y hy =>
    obtain rfl : y = x := Option.some.inj (hy.symm.trans hactive)
    rfl

theorem Dev.nextElement_within {c : Nat} {x : Descriptor} (hactive : (d.chan c).active = some x)
    (hmore : (d.chan c).elem + 1 < x.elems.length) :
    d.nextElement c = (d.setFaulted c false).setChan c (d.chan c).pastElement := by
  rw [Dev.nextElement_eq hactive, if_neg (by omega)]

theorem altersRing_nextElement (d : Dev) {c : Nat} {x : Descriptor} (hactive : (d.chan c).active = some x)
    (hstat : GDE_STAT ∈ as) (hc : GDE_CSTAT c ∈ as) : Dev.AltersRing Dev.offCopy as d (d.nextElement c) := by
  have hpast : Dev.AltersRing Dev.offCopy as d ((d.setFaulted c false).setChan c (d.chan c).pastElement) :=
    altersRing_setChan (altersRing_setFaulted (altersRing_refl d) hstat) hc
  rw [Dev.nextElement_eq hactive]
  split
  · exact altersRing_trans hpast (altersRing_gdeComplete _ hstat hc)
  · exact hpast

theorem Dev.chanFaulted_completionTold (d : Dev) (c k : Nat) (ch : Channel) (x : Descriptor) :
    (d.completionTold c ch x).chanFaulted k = d.chanFaulted k := by
  unfold Dev.completionTold
  split
  · exact congrArg (·.testBit k) (Dev.ring_fld (f := GDE_STAT_FAULTED) (by decide) ..)
  · split <;> rfl

theorem Dev.chanFaulted_gdeComplete {c : Nat} (h : d.chanFaulted c = false) : (d.gdeComplete c).chanFaulted c = false := by
  cases hactive : (d.chan c).active with
  | none => rw [Dev.gdeComplete_idle hactive]; exact h
  | some x =>
    rw [Dev.gdeComplete_active hactive, Dev.chanFaulted_activate, Dev.chanFaulted_completionTold, Dev.chanFaulted_setChan]
    exact d.chanFaulted_cleared c

theorem Dev.chanFaulted_nextElement {c : Nat} {x : Descriptor} (hactive : (d.chan c).active = some x) :
    (d.nextElement c).chanFaulted c = false := by
  have hpast : ((d.setFaulted c false).setChan c (d.chan c).pastElement).chanFaulted c = false :=
    (Dev.chanFaulted_setChan ..).trans (d.chanFaulted_cleared c)
  rw [Dev.nextElement_eq hactive]
  split
  · exact Dev.chanFaulted_gdeComplete hpast
  · exact hpast

/-! RESUME, SKIP, ABORT and FLUSH (R700, R701). -/

theorem resume_resumes {c : Nat} (hlen : c < d.gde.channels.length) (hfault : d.chanFaulted c = true) :
    (d.hostCommand c 2).chanFaulted c = false ∧
      (d.hostCommand c 2).chan c = { d.chan c with asked := (d.chan c).word } ∧
      d.leaves (d.hostCommand c 2) [GDE_STAT, GDE_CSTAT c] := by
  have hresume : d.hostCommand c 2 = (d.setFaulted c false).setChan c { d.chan c with asked := (d.chan c).word } := if_pos hfault
  rw [hresume]
  exact ⟨(Dev.chanFaulted_setChan ..).trans (d.chanFaulted_cleared c), Dev.chan_setChan _ _ (by simpa using hlen),
    (alters_setChan (alters_setFaulted (alters_refl d) (by simp)) (by simp)).leaves offGather_spares⟩

theorem skip_clears {c : Nat} {x : Descriptor} (hlen : c < d.gde.channels.length) (hfault : d.chanFaulted c = true)
    (hactive : (d.chan c).active = some x) : (d.hostCommand c 3).chanFaulted c = false := by
  have hskip : d.hostCommand c 3 = (d.setChan c { d.chan c with skipped := true }).nextElement c := if_pos hfault
  rw [hskip]
  exact Dev.chanFaulted_nextElement (x := x) (by rw [Dev.chan_setChan _ _ hlen]; exact hactive)

theorem skip_skips {c : Nat} {x : Descriptor} (hlen : c < d.gde.channels.length) (hfault : d.chanFaulted c = true)
    (hactive : (d.chan c).active = some x) (hmore : (d.chan c).elem + 1 < x.elems.length) :
    ((d.hostCommand c 3).chan c).active = some x ∧ ((d.hostCommand c 3).chan c).elem = (d.chan c).elem + 1 ∧
      ((d.hostCommand c 3).chan c).word = 0 ∧ ((d.hostCommand c 3).chan c).skipped = true ∧
      d.leaves (d.hostCommand c 3) [GDE_STAT, GDE_CSTAT c] := by
  have hskip : d.hostCommand c 3 = (d.setChan c { d.chan c with skipped := true }).nextElement c := if_pos hfault
  have hchan := d.chan_setChan { d.chan c with skipped := true } hlen
  have hleft := alters_setChan (as := [GDE_STAT, GDE_CSTAT c]) (c := c) (ch := { d.chan c with skipped := true }) (alters_refl d) (by simp)
  have hlen' := d.setChan_channels_length c { d.chan c with skipped := true }
  rw [hskip]
  generalize d.setChan c { d.chan c with skipped := true } = y at *
  rw [Dev.nextElement_within (x := x) (by rw [hchan]; exact hactive) (by rw [hchan]; exact hmore),
    Dev.chan_setChan _ _ (by simp only [Dev.setFaulted_gde]; omega), hchan]
  exact ⟨hactive, rfl, rfl, rfl,
    (alters_setChan (alters_setFaulted hleft (by simp)) (by simp)).leaves offGather_spares⟩

/-- The active descriptor dropped, and the oldest queued one taken. -/
theorem abort_aborts {c : Nat} (hlen : c < d.gde.channels.length) :
    ((d.hostCommand c 4).chan c).active = (d.chan c).queue.head? ∧ ((d.hostCommand c 4).chan c).queue = (d.chan c).queue.tail ∧
      (d.hostCommand c 4).chanFaulted c = false ∧ d.leaves (d.hostCommand c 4) [GDE_STAT, GDE_CSTAT c] := by
  show (((d.dropActive c).activate c).chan c).active = _ ∧ (((d.dropActive c).activate c).chan c).queue = _ ∧
    ((d.dropActive c).activate c).chanFaulted c = _ ∧ d.leaves ((d.dropActive c).activate c) _
  have hdropped : Dev.Alters Dev.offGather [GDE_STAT, GDE_CSTAT c] d (d.dropActive c) :=
    alters_setChan (alters_setFaulted (alters_refl d) (by simp)) (by simp)
  have hclear : (d.dropActive c).chanFaulted c = false := (Dev.chanFaulted_setChan ..).trans (d.chanFaulted_cleared c)
  have hchan : (d.dropActive c).chan c = { queue := (d.chan c).queue, discard := d.readsOut c } := by
    rw [Dev.dropActive, Dev.chan_setChan _ _ (by simpa using hlen)]
  have hlen' : c < (d.dropActive c).gde.channels.length := by
    rw [Dev.dropActive, Dev.setChan_channels_length, Dev.setFaulted_gde]
    exact hlen
  generalize d.dropActive c = y at *
  have hleft := (alters_activate (c := c) hdropped (by simp)).leaves offGather_spares
  have hfault := (y.chanFaulted_activate c c).trans hclear
  refine ⟨?_, ?_, hfault, hleft⟩
  · cases hq : (d.chan c).queue with
    | nil => rw [Dev.activate_empty (by rw [hchan]; exact hq), hchan]; rfl
    | cons q rest => rw [Dev.activate_takes (q := q) (rest := rest) (by rw [hchan]) (by rw [hchan]; exact hq),
        Dev.chan_setChan _ _ hlen']; rfl
  · cases hq : (d.chan c).queue with
    | nil => rw [Dev.activate_empty (by rw [hchan]; exact hq), hchan]; exact hq
    | cons q rest => rw [Dev.activate_takes (q := q) (rest := rest) (by rw [hchan]) (by rw [hchan]; exact hq),
        Dev.chan_setChan _ _ hlen']; rfl

theorem flush_flushes {c : Nat} (hlen : c < d.gde.channels.length) :
    ((d.hostCommand c 5).chan c).active = none ∧ ((d.hostCommand c 5).chan c).queue = [] ∧
      (d.hostCommand c 5).chanFaulted c = false ∧ d.leaves (d.hostCommand c 5) [GDE_STAT, GDE_CSTAT c] := by
  have hflush : d.hostCommand c 5 = (d.setFaulted c false).setChan c { discard := d.readsOut c } := by
    simp only [Dev.hostCommand, Dev.flushChan]
  rw [hflush, Dev.chan_setChan _ _ (by simpa using hlen)]
  exact ⟨rfl, rfl, (Dev.chanFaulted_setChan ..).trans (d.chanFaulted_cleared c),
    (alters_setChan (alters_setFaulted (alters_refl d) (by simp)) (by simp)).leaves offGather_spares⟩

end Sys2Proof.Machine
end

section
/-!
SUPPORT. The bursts of the gather engine and the reads it answers (R685 to R690, R703), and O42.
-/

namespace Sys2Proof.Machine

variable {d e : Dev} {s : State} {as : List Nat}

/-! Which channel a burst serves (R687, R703). -/

theorem Dev.serveChan_idle {c : Nat} (flips : List (List (BitVec 5))) (collide : List Bool) (waits : Nat)
    (h : (d.chan c).active = none) : d.serveChan c flips collide waits = (false, d) := if_pos (Or.inl (by simp [h]))

theorem Dev.chanHeld_free {c : Nat} (h : d.mem.repair = none) : d.chanHeld c = false := by
  have htaken (b : Nat) : d.taken b = false := by simp only [Dev.taken, h]
  unfold Dev.chanHeld
  dsimp only
  split
  · split <;> simp [htaken]
  · split <;> simp [htaken]

/-- A channel whose pages are checked. -/
structure Dev.Paged (d : Dev) (c : Nat) (x : Descriptor) (src dst : Word × Word) : Prop where
  active : (d.chan c).active = some x
  faulted : d.chanFaulted c = false
  source : (d.chan c).srcEnt = some src
  destination : (d.chan c).dstEnt = some dst
  near : entRemote src = false
  repair : d.mem.repair = none

variable {c : Nat} {x : Descriptor} {src dst : Word × Word}

theorem Dev.Paged.enterPages (h : d.Paged c x src dst) : d.enterPages c = d := by
  obtain ⟨hactive, hfaulted, hsource, hdestination, -, -⟩ := h
  simp only [Dev.enterPages, hactive, hsource, hdestination, hfaulted, Bool.false_eq_true, if_false]

theorem Dev.Paged.local (h : d.Paged c x src dst) : (d.chan c).remote = false := by
  obtain ⟨-, -, hsource, -, hnear, -⟩ := h
  simp only [Channel.remote, hsource]
  exact hnear

theorem Dev.Paged.serveChan (h : d.Paged c x src dst) (flips : List (List (BitVec 5))) (collide : List Bool) (waits : Nat) :
    d.serveChan c flips collide waits = (true, d.burst c flips collide waits) := by
  simp only [Dev.serveChan, h.active, Option.isNone_some, or_self, h.enterPages, h.faulted, h.local, Dev.chanHeld_free h.repair, Bool.false_and,
    Bool.false_eq_true, if_false]

/-- The channels from the highest, until one has taken the data path. -/
def Dev.serveFrom (d : Dev) (flips : List (List (BitVec 5))) (collide : List Bool) (waits : Nat) (ks : List Nat) (r : Bool) : Bool × Dev :=
  ks.foldl (fun (r : Bool × Dev) c => if r.1 then r else r.2.serveChan c flips collide waits) (r, d)

theorem Dev.serveFrom_served (flips : List (List (BitVec 5))) (collide : List Bool) (waits : Nat) (ks : List Nat) :
    d.serveFrom flips collide waits ks true = (true, d) := by
  induction ks with
  | nil => rfl
  | cons k ks ih => exact ih

theorem Dev.serveFrom_idle (flips : List (List (BitVec 5))) (collide : List Bool) (waits : Nat) {ks : List Nat}
    (h : ∀ k ∈ ks, (d.chan k).active = none) : d.serveFrom flips collide waits ks false = (false, d) := by
  induction ks with
  | nil => rfl
  | cons k ks ih =>
    show ks.foldl _ (if false = true then (false, d) else d.serveChan k flips collide waits) = _
    rw [if_neg Bool.false_ne_true, Dev.serveChan_idle _ _ _ (h k (by simp))]
    exact ih fun j hj => h j (by simp [hj])

theorem Dev.Paged.serveFrom (h : d.Paged c x src dst) (flips : List (List (BitVec 5))) (collide : List Bool) (waits : Nat)
    {ks : List Nat} (hc : c ∈ ks) (hothers : ∀ k ∈ ks, k ≠ c → (d.chan k).active = none) :
    d.serveFrom flips collide waits ks false = (true, d.burst c flips collide waits) := by
  induction ks with
  | nil => simp at hc
  | cons k ks ih =>
    show ks.foldl _ (if false = true then (false, d) else d.serveChan k flips collide waits) = _
    rw [if_neg Bool.false_ne_true]
    by_cases hk : k = c
    · subst hk
      rw [h.serveChan]
      exact Dev.serveFrom_served ..
    · rw [Dev.serveChan_idle _ _ _ (hothers k (by simp) hk)]
      refine ih ?_ fun j hj => hothers j (by simp [hj])
      cases List.mem_cons.1 hc with
      | inl heq => exact absurd heq.symm hk
      | inr hmem => exact hmem

/-- The order of the channels. -/
def chanOrder : List Nat := [7, 6, 5, 4, 3, 2, 1, 0]

theorem mem_chanOrder {k : Nat} : k ∈ chanOrder ↔ k < 8 := by
  simp only [chanOrder, List.mem_cons, List.not_mem_nil, or_false]
  omega

theorem Dev.gatherBurst_eq (d : Dev) (flips : List (List (BitVec 5))) (collide : List Bool) (waits : Nat) :
    d.gatherBurst flips collide waits =
      if d.mode = modeHibernate then d else (d.serveFrom flips collide waits chanOrder false).2 := rfl

theorem Dev.gatherBurst_idle (flips : List (List (BitVec 5))) (collide : List Bool) (waits : Nat)
    (h : d.mode = modeHibernate ∨ ∀ c < 8, (d.chan c).active = none) : d.gatherBurst flips collide waits = d := by
  rw [Dev.gatherBurst_eq]
  split
  · rfl
  next hawake =>
    cases h with
    | inl hmode => exact absurd hmode hawake
    | inr hidle => rw [Dev.serveFrom_idle _ _ _ fun k hk => hidle k (mem_chanOrder.1 hk)]

theorem Dev.Paged.gatherBurst (h : d.Paged c x src dst) (hawake : d.mode ≠ modeHibernate) (hc : c < 8)
    (hothers : ∀ k < 8, k ≠ c → (d.chan k).active = none) (flips : List (List (BitVec 5))) (collide : List Bool) (waits : Nat) :
    d.gatherBurst flips collide waits = d.burst c flips collide waits := by
  rw [Dev.gatherBurst_eq, if_neg hawake, h.serveFrom _ _ _ (mem_chanOrder.2 hc) fun k hk => hothers k (mem_chanOrder.1 hk)]

/-! The words of a burst (R685, R686). -/

/-- Good words read from a local source: all of them, those with a stated layout as the bank holds them. -/
theorem Dev.readBurst_good {ent : Word × Word} (howner : entOwner ent ≠ 6) (n : Nat) (d : Dev) (a : Nat)
    (hgood : ∀ i < n, d.mem.bad.contains (bankAddr (entBank ent) (entWord ent (a + i))) = false) :
    ∃ vs free, d.readBurst ent a [] n = (vs, none, { d with free := free }) ∧ vs.length = n ∧
      ∀ i < n, layoutOpen (entBank ent) (entWord ent (a + i)) = false →
        vs[i]? = some (d.bank (entBank ent) (entWord ent (a + i))) := by
  induction n generalizing d a with
  | zero => exact ⟨[], d.free, rfl, rfl, fun i hi => absurd hi (Nat.not_lt_zero i)⟩
  | succ n ih =>
    have hfirst := hgood 0 (Nat.succ_pos n)
    rw [Nat.add_zero] at hfirst
    have hmet : d.meetErrors (entBank ent) (entWord ent a) 6 [] = d := Dev.meetErrors_good 6 hfirst
    have hword : ∃ v free, d.goodWord (entBank ent) (entWord ent a) = (v, { d with free := free }) ∧
        (layoutOpen (entBank ent) (entWord ent a) = false → v = d.bank (entBank ent) (entWord ent a)) := by
      unfold Dev.goodWord
      split
      next hopen => exact ⟨_, _, rfl, fun hlaid => absurd (hopen.symm.trans hlaid) (by decide)⟩
      next => exact ⟨_, _, rfl, fun _ => rfl⟩
    obtain ⟨v, free, hv, hlaid⟩ := hword
    obtain ⟨vs, free', hread, hlen, hvalues⟩ := ih { d with free := free } (a + 1) fun i hi => by
      rw [show a + 1 + i = a + (i + 1) by omega]
      exact hgood (i + 1) (Nat.succ_lt_succ hi)
    refine ⟨v :: vs, free', ?_, by rw [List.length_cons, hlen], fun i hi hopen => ?_⟩
    · simp only [Dev.readBurst, howner, false_and, if_false, List.headD_nil, List.tail_nil, hmet, hfirst, Bool.false_eq_true,
        hv, hread]
    · cases i with
      | zero => exact congrArg some (hlaid hopen)
      | succ i =>
        rw [show a + (i + 1) = a + 1 + i by omega] at hopen ⊢
        exact hvalues i (Nat.lt_of_succ_lt_succ hi) hopen

/-- Words stored at the places of a page. -/
def Dev.inPage (d : Dev) (ent : Word × Word) (a : Nat) : List Word → Dev
  | [] => d
  | v :: vs => (d.setBank (entBank ent) (entWord ent a) v).inPage ent (a + 1) vs

theorem Dev.portB_stores {bank w master : Nat} (v : Word) (hrepair : d.mem.repair = none) (hmaster : master ≠ 8) :
    d.portB bank w master (some v) [] false false = d.setBank bank w v := by
  have htaken : d.taken bank = false := by simp only [Dev.taken, hrepair]
  simp only [Dev.portB, htaken, Bool.false_and, Bool.false_eq_true, if_false, Dev.countWait, false_and, hmaster, Dev.writeWord]

theorem Dev.writeBurst_places {ent : Word × Word} (howner : entOwner ent ≠ 6) (vs : List Word) (d : Dev) (a : Nat)
    (hrepair : d.mem.repair = none) : d.writeBurst ent a vs [] = (vs.length, 0, false, d.inPage ent a vs) := by
  induction vs generalizing d a with
  | nil => rfl
  | cons v vs ih =>
    have hown : (entOwner ent == 6) = false := by simpa using howner
    have hstored := Dev.portB_stores (bank := entBank ent) (w := entWord ent a) v hrepair (show (6 : Nat) ≠ 8 by decide)
    simp only [Dev.writeBurst, hown, Bool.false_eq_true, false_and, if_false, List.headD_nil, List.tail_nil, Bool.not_false,
      Bool.and_false, hstored, ih (d.setBank (entBank ent) (entWord ent a) v) (a + 1) hrepair, bit, Nat.add_zero,
      List.length_cons, Dev.inPage]

theorem altersCopies_setBank (h : Dev.Alters Dev.offCopies as d e) {b w : Nat} {v : Word} :
    Dev.Alters Dev.offCopies as d (e.setBank b w v) := alters_of h rfl rfl

theorem altersCopies_inPage (ent : Word × Word) (vs : List Word) (a : Nat) (h : Dev.Alters Dev.offCopies as d e) :
    Dev.Alters Dev.offCopies as d (e.inPage ent a vs) := by
  induction vs generalizing e a with
  | nil => exact h
  | cons v vs ih => exact ih (a + 1) (altersCopies_setBank h)

theorem bankAddr_entWord_inj {ent : Word × Word} {a i j : Nat} (hi : a % 1024 + i < 1024) (hj : a % 1024 + j < 1024)
    (h : bankAddr (entBank ent) (entWord ent (a + i)) = bankAddr (entBank ent) (entWord ent (a + j))) : i = j := by
  have hpage : entPage ent < 16 := wGet_lt _ _ 4
  unfold bankAddr entWord at h
  omega

/-- A word not placed reads as before. -/
theorem Dev.bank_inPage_ne (ent : Word × Word) {b w : Nat} (vs : List Word) (d : Dev) (a : Nat)
    (h : ∀ i < vs.length, bankAddr b w ≠ bankAddr (entBank ent) (entWord ent (a + i))) :
    (d.inPage ent a vs).bank b w = d.bank b w := by
  induction vs generalizing d a with
  | nil => rfl
  | cons v vs ih =>
    refine (ih _ (a + 1) fun i hi => ?_).trans ((Dev.bank_setBank ..).trans (if_neg (h 0 (Nat.succ_pos _))))
    rw [show a + 1 + i = a + (i + 1) by omega]
    exact h (i + 1) (Nat.succ_lt_succ hi)

/-- The words placed in a page, read back. -/
theorem Dev.bank_inPage (ent : Word × Word) (vs : List Word) (d : Dev) (a : Nat) (hpage : a % 1024 + vs.length ≤ 1024) {i : Nat}
    (hi : i < vs.length) : some ((d.inPage ent a vs).bank (entBank ent) (entWord ent (a + i))) = vs[i]? := by
  induction vs generalizing d a i with
  | nil => exact absurd hi (Nat.not_lt_zero i)
  | cons v vs ih =>
    rw [List.length_cons] at hpage hi
    cases i with
    | zero =>
      have hlater : ∀ j < vs.length, bankAddr (entBank ent) (entWord ent (a + 0)) ≠
          bankAddr (entBank ent) (entWord ent (a + 1 + j)) := fun j hj heq => by
        rw [show a + 1 + j = a + (j + 1) by omega] at heq
        exact absurd (bankAddr_entWord_inj (by omega) (by omega) heq) (by omega)
      refine congrArg some ((Dev.bank_inPage_ne ent vs _ (a + 1) hlater).trans ?_)
      exact (Dev.bank_setBank ..).trans (if_pos rfl)
    | succ i =>
      rw [show a + (i + 1) = a + 1 + i by omega, List.getElem?_cons_succ]
      by_cases hvs : vs.length = 0
      · omega
      · exact ih _ (a + 1) (by omega) (by omega)

/-! A burst (R685 to R687). -/

/-- What a burst of so many words leaves of its channel. -/
def Channel.moved (ch : Channel) (a b done : Nat) : Channel :=
  { ch with
    word := ch.word + done
    written := ch.written + done
    srcEnt := if (a + done) % 1024 = 0 ∧ 0 < done then none else ch.srcEnt
    dstEnt := if (b + done) % 1024 = 0 ∧ 0 < done then none else ch.dstEnt }

/-- The machine as a burst begins: its channel is shown. -/
def Dev.burstShown (d : Dev) (c : Nat) : Dev := (d.setFld GDE_STAT_CHAN c).bumpBy (MEM_CONFL_WAITS 6) 0

/-- What follows the words of a burst. -/
def Dev.burstOver (d : Dev) (c m len : Nat) : Dev := if len ≤ m then d.nextElement c else d.setReg (GDE_CSTAT c) (d.chanWord c)

theorem Dev.chan_inPage (d : Dev) (c : Nat) (ent : Word × Word) (a : Nat) (vs : List Word) :
    (d.inPage ent a vs).chan c = d.chan c :=
  (altersCopies_inPage (as := []) ent vs a (alters_refl d)).keeps (·.chan c) fun _ => rfl

/-- A clean burst of a channel whose pages are checked: its words as they are read, in the place they go to. -/
theorem Dev.Paged.burst (h : d.Paged c x src dst) {base len : Nat} (helem : x.elems[(d.chan c).elem]? = some (base, len))
    {a b n : Nat} (ha : a = base + (d.chan c).word) (hb : b = x.place (d.chan c).elem + (d.chan c).word)
    (hn : n = min (min (8 - a % 8) (1024 - b % 1024)) (len - (d.chan c).word)) (hsrc : entOwner src ≠ 6)
    (hdst : entOwner dst ≠ 6)
    (hgood : ∀ i < n, d.mem.bad.contains (bankAddr (entBank src) (entWord src (a + i))) = false) :
    ∃ vs free, vs.length = n ∧
      (∀ i < n, layoutOpen (entBank src) (entWord src (a + i)) = false →
        vs[i]? = some (d.bank (entBank src) (entWord src (a + i)))) ∧
      d.burst c [] [] 0 =
        ((({ d.burstShown c with free := free }.inPage dst b vs).setChan c ((d.chan c).moved a b n)).burstOver c
          ((d.chan c).word + n) len) := by
  obtain ⟨vs, free, hread, hlen, hvalues⟩ := Dev.readBurst_good hsrc n (d.burstShown c) a hgood
  refine ⟨vs, free, hlen, hvalues, ?_⟩
  obtain ⟨hactive, -, hsource, hdestination, hnear, hrepair⟩ := h
  have hwrite := Dev.writeBurst_places hdst vs { d.burstShown c with free := free } b hrepair
  have hfetch : (d.burstShown c).fetchBurst c n src a [] = (vs, none, { d.burstShown c with free := free }) := by
    unfold Dev.fetchBurst
    rw [hnear]
    exact hread
  have hget : x.elems.getD (d.chan c).elem (0, 0) = (base, len) := by
    rw [List.getD_eq_getElem?_getD, helem]
    rfl
  have hshown : ((d.setFld GDE_STAT_CHAN c).bumpBy (MEM_CONFL_WAITS 6) 0) = d.burstShown c := rfl
  simp only [Dev.burst, hactive, hsource, hdestination, hget, ← ha, ← hb, ← hn, hshown, hfetch, hwrite, hlen,
    Bool.false_eq_true, if_false, Dev.chan_inPage, Nat.add_zero]
  rfl

end Sys2Proof.Machine
end
section
/-!
SUPPORT. The commands of the gather engine (R677 to R703), and O42.
-/

namespace Sys2Proof.Machine

variable {d e : Dev} {s : State} {c : Nat} {x : Descriptor} {src dst : Word × Word}

theorem Dev.bank_setChan (d : Dev) (c : Nat) (ch : Channel) (b w : Nat) : (d.setChan c ch).bank b w = d.bank b w :=
  (alters_setChan (as := [GDE_CSTAT c]) (c := c) (alters_refl d) (by simp)).keeps (·.bank b w) fun _ => rfl

theorem Dev.bank_setReg (d : Dev) (a : Nat) (v : Word) (b w : Nat) : (d.setReg a v).bank b w = d.bank b w := rfl

theorem Dev.bank_burstOver {b : Nat} (w : Nat) (m len : Nat) (hactive : (d.chan c).active = some x) (hb : b ≠ 8) :
    (d.burstOver c m len).bank b w = d.bank b w := by
  unfold Dev.burstOver
  split
  · exact (altersRing_nextElement (as := [GDE_STAT, GDE_CSTAT c]) d hactive (by simp) (by simp)).bank b w hb
  · exact Dev.bank_setReg ..

/-- A clean local burst copies its words. -/
theorem Dev.Paged.burst_copies (h : d.Paged c x src dst) (hlen : c < d.gde.channels.length) {base len : Nat}
    (helem : x.elems[(d.chan c).elem]? = some (base, len)) {a b n : Nat} (ha : a = base + (d.chan c).word)
    (hb : b = x.place (d.chan c).elem + (d.chan c).word)
    (hn : n = min (min (8 - a % 8) (1024 - b % 1024)) (len - (d.chan c).word)) (hsrc : entOwner src ≠ 6)
    (hdst : entOwner dst ≠ 6) (hbank : entBank dst ≠ 8)
    (hgood : ∀ i < n, d.mem.bad.contains (bankAddr (entBank src) (entWord src (a + i))) = false ∧
      layoutOpen (entBank src) (entWord src (a + i)) = false) {i : Nat} (hi : i < n) :
    (d.burst c [] [] 0).bank (entBank dst) (entWord dst (b + i)) = d.bank (entBank src) (entWord src (a + i)) := by
  obtain ⟨vs, free, hvs, hvalues, hburst⟩ := h.burst helem ha hb hn hsrc hdst fun i hi => (hgood i hi).1
  have hplaced := Dev.bank_inPage dst vs { d.burstShown c with free := free } b (by omega) (i := i) (by omega)
  have hkeep := altersCopies_inPage (as := []) dst vs b (alters_refl { d.burstShown c with free := free })
  rw [hburst]
  generalize { d.burstShown c with free := free }.inPage dst b vs = y at *
  have hlen' : c < y.gde.channels.length := by
    rw [hkeep.keeps (·.gde.channels.length) fun _ => rfl]
    exact hlen
  rw [Dev.bank_burstOver (x := x) _ _ _ (by rw [Dev.chan_setChan _ _ hlen']; exact h.active) hbank, Dev.bank_setChan]
  exact Option.some.inj (hplaced.trans (hvalues i hi (hgood i hi).2))

/-! Reads of another tile (R689, R690). -/

theorem Dev.goodWord_laid {bank w : Nat} (h : layoutOpen bank w = false) : d.goodWord bank w = (d.bank bank w, d) :=
  if_neg (by simp [h])

theorem Dev.guestRead_good (d : Dev) (bank : Nat) (n w : Nat)
    (hgood : ∀ i < n, d.mem.bad.contains (bankAddr bank (w + i)) = false)
    (hlaid : ∀ i < n, layoutOpen bank (w + i) = false) :
    d.guestRead bank w [] n = (some ((List.range n).map fun i => d.bank bank (w + i)), d) := by
  induction n generalizing w with
  | zero => rfl
  | succ n ih =>
    have hfirst : d.mem.bad.contains (bankAddr bank w) = false := hgood 0 (Nat.succ_pos n)
    have hmet : d.meetErrors bank w 6 [] = d := Dev.meetErrors_good 6 hfirst
    have hword : d.goodWord bank w = (d.bank bank w, d) := Dev.goodWord_laid (hlaid 0 (Nat.succ_pos n))
    have hshift (i : Nat) : w + 1 + i = w + (i + 1) := by omega
    have hrest := ih (w + 1) (fun i hi => hshift i ▸ hgood (i + 1) (Nat.succ_lt_succ hi))
      (fun i hi => hshift i ▸ hlaid (i + 1) (Nat.succ_lt_succ hi))
    simp only [Dev.guestRead, List.headD_nil, List.tail_nil, hmet, hfirst, Bool.false_eq_true, if_false, hword, hrest,
      List.range_succ_eq_map, List.map_cons, List.map_map, Option.map_some, Nat.add_zero, Prod.mk.injEq, and_true,
      Option.some.injEq, List.cons.injEq, true_and]
    exact List.map_congr_left fun i _ => congrArg (d.bank bank) (hshift i)

/-- What bars a GATHER read (R689, R690). -/
def Dev.readBarred (d : Dev) (src : Nat) (w0 w1 : Word) : Prop :=
  src ≠ 0 ∨ d.isWorker = false ∨ d.flag EGL_TILE_JOINED = false ∨ wGet w1 14 4 = 8 ∨ wGet w1 14 4 = 9 ∨
    16384 < wGet w1 0 14 + wGet w0 0 7 ∨ wGet w0 20 4 ≠ 1 ∨ wGet w0 0 7 = 0 ∨ 64 < wGet w0 0 7

theorem Dev.gatherServe_barred {src : Nat} {w0 w1 : Word} (flips : List (List (BitVec 5))) (h : d.readBarred src w0 w1) :
    d.gatherServe src w0 w1 flips = ([], d.bump GDE_CNT_REJECT) := if_pos h

theorem Dev.gatherServe_open {src : Nat} {w0 w1 : Word} (h : ¬ d.readBarred src w0 w1)
    (hgood : ∀ i < wGet w0 0 7, d.mem.bad.contains (bankAddr (wGet w1 14 4) (wGet w1 0 14 + i)) = false)
    (hlaid : ∀ i < wGet w0 0 7, layoutOpen (wGet w1 14 4) (wGet w1 0 14 + i) = false) :
    d.gatherServe src w0 w1 [] =
      ((List.range (wGet w0 0 7)).map fun i => d.bank (wGet w1 14 4) (wGet w1 0 14 + i), d) := by
  unfold Dev.gatherServe
  extract_lets n bank w barred
  rw [Dev.guestRead_good d bank n w hgood hlaid]
  exact if_neg h

theorem gatherRead_completes (src : BitVec 10) (tag : BitVec 6) (w0 w1 : Word) (flips : List (List (BitVec 5))) :
    Completes (.gatherRead src tag w0 w1 flips) s fun t =>
      t = (s.dev.gatherServe src.toNat w0 w1 flips).2.respond src.toNat tag.toNat 3 (s.dev.gatherServe src.toNat w0 w1 flips).1 :=
  completes_of (f := fun d => (d.gatherServe src.toNat w0 w1 flips).2.respond src.toNat tag.toNat 3
    (d.gatherServe src.toNat w0 w1 flips).1) rfl rfl

theorem gatherRead_answers {tag : BitVec 6} {w0 w1 : Word} (hworker : s.dev.isWorker = true)
    (hjoined : s.dev.flag EGL_TILE_JOINED = true) (hbank : wGet w1 14 4 ∉ [8, 9, 12, 13])
    (hfits : wGet w1 0 14 + wGet w0 0 7 ≤ 16384) (hkind : wGet w0 20 4 = 1) (hsome : 1 ≤ wGet w0 0 7) (hfew : wGet w0 0 7 ≤ 64)
    (hgood : ∀ i < wGet w0 0 7, s.dev.mem.bad.contains (bankAddr (wGet w1 14 4) (wGet w1 0 14 + i)) = false) :
    Completes (.gatherRead 0 tag w0 w1 []) s fun t => t = s.dev.respond 0 tag.toNat 3
      ((List.range (wGet w0 0 7)).map fun i => s.dev.bank (wGet w1 14 4) (wGet w1 0 14 + i)) := by
  simp only [List.mem_cons, List.not_mem_nil, or_false, not_or] at hbank
  obtain ⟨h8, h9, h12, h13⟩ := hbank
  have hopen : ¬ s.dev.readBarred (0 : BitVec 10).toNat w0 w1 := by
    simp only [Dev.readBarred, hworker, hjoined, h8, h9, hkind]
    simp
    omega
  have hlaid (i : Nat) : layoutOpen (wGet w1 14 4) (wGet w1 0 14 + i) = false := by simp [layoutOpen, h9, h12, h13]
  refine (gatherRead_completes 0 tag w0 w1 []).mono fun t ht => ?_
  rw [ht, Dev.gatherServe_open hopen hgood fun i _ => hlaid i]
  rfl

/-! The commands of a channel. -/

theorem gdePush_completes (channel : BitVec 3) (h : channel.toNat < 2) :
    Completes (.gdePush channel) s fun t => t = s.dev.gdePush channel.toNat :=
  completes_of (f := fun d => d.gdeCommand (ccmdWord channel 1)) rfl (Dev.gdeCommand_host (by decide) h)

theorem gdeResume_completes (channel : BitVec 3) (h : channel.toNat < 2) :
    Completes (.gdeResume channel) s fun t => t = s.dev.hostCommand channel.toNat 2 :=
  completes_of (f := fun d => d.gdeCommand (ccmdWord channel 2)) rfl (Dev.gdeCommand_host (by decide) h)

theorem gdeSkip_completes (channel : BitVec 3) (h : channel.toNat < 2) :
    Completes (.gdeSkip channel) s fun t => t = s.dev.hostCommand channel.toNat 3 :=
  completes_of (f := fun d => d.gdeCommand (ccmdWord channel 3)) rfl (Dev.gdeCommand_host (by decide) h)

theorem gdeAbort_completes (channel : BitVec 3) (h : channel.toNat < 2) :
    Completes (.gdeAbort channel) s fun t => t = s.dev.hostCommand channel.toNat 4 :=
  completes_of (f := fun d => d.gdeCommand (ccmdWord channel 4)) rfl (Dev.gdeCommand_host (by decide) h)

theorem gdeFlush_completes (channel : BitVec 3) (h : channel.toNat < 2) :
    Completes (.gdeFlush channel) s fun t => t = s.dev.hostCommand channel.toNat 5 :=
  completes_of (f := fun d => d.gdeCommand (ccmdWord channel 5)) rfl (Dev.gdeCommand_host (by decide) h)

theorem gde_other {channel : BitVec 3} (h : 2 ≤ channel.toNat) :
    ∀ i ∈ [Instr.gdePush channel, .gdeResume channel, .gdeSkip channel, .gdeAbort channel, .gdeFlush channel],
      Completes i s fun t => t = s.dev.ignoreWrite := by
  simp only [List.forall_mem_cons]
  exact ⟨completes_of (f := fun d => d.gdeCommand (ccmdWord channel 1)) rfl (Dev.gdeCommand_other (by decide) h),
    completes_of (f := fun d => d.gdeCommand (ccmdWord channel 2)) rfl (Dev.gdeCommand_other (by decide) h),
    completes_of (f := fun d => d.gdeCommand (ccmdWord channel 3)) rfl (Dev.gdeCommand_other (by decide) h),
    completes_of (f := fun d => d.gdeCommand (ccmdWord channel 4)) rfl (Dev.gdeCommand_other (by decide) h),
    completes_of (f := fun d => d.gdeCommand (ccmdWord channel 5)) rfl (Dev.gdeCommand_other (by decide) h), by simp⟩

theorem ignoreWrite_counts (d : Dev) : d.ignoreWrite.gde = d.gde ∧ d.leaves d.ignoreWrite [SYS_WRIGN] ∧
    d.ignoreWrite.fld SYS_WRIGN_COUNT = min (d.fld SYS_WRIGN_COUNT + 1) (2 ^ SYS_WRIGN_COUNT.width - 1) :=
  ⟨rfl, Dev.leaves_ignoreWrite _, Dev.fld_ignoreWrite _⟩

theorem gde_unfaulted {channel : BitVec 3} (h : channel.toNat < 2) (hfault : s.dev.chanFaulted channel.toNat = false) :
    ∀ i, i = Instr.gdeResume channel ∨ i = Instr.gdeSkip channel → Completes i s fun t => t = s.dev.ignoreWrite := by
  rintro i (rfl | rfl)
  · exact (gdeResume_completes channel h).mono fun t ht => ht.trans (if_neg (by simp [hfault]))
  · exact (gdeSkip_completes channel h).mono fun t ht => ht.trans (if_neg (by simp [hfault]))

/-- The commands to a channel, by its number. -/
theorem gdeChannel_commanded (hchans : s.dev.gde.channels.length = 8) (channel : BitVec 3) (c : Nat) (hc : channel.toNat = c) :
    (2 ≤ c → ∀ i, i ∈ [Instr.gdePush channel, .gdeResume channel, .gdeSkip channel, .gdeAbort channel, .gdeFlush channel] →
      Completes i s fun t => t.gde = s.dev.gde ∧ s.dev.leaves t [SYS_WRIGN] ∧
        t.fld SYS_WRIGN_COUNT = min (s.dev.fld SYS_WRIGN_COUNT + 1) (2 ^ SYS_WRIGN_COUNT.width - 1)) ∧
    (c < 2 →
      (4 ≤ (s.dev.chan c).queue.length → s.dev.pushResult c = 2) ∧
      ((s.dev.chan c).queue.length < 4 → s.dev.fld (GDE_SCTL_NELEM c) = 0 ∨ 16 < s.dev.fld (GDE_SCTL_NELEM c) →
        s.dev.pushResult c = 3) ∧
      (s.dev.pushResult c = 1 → (s.dev.chan c).active = none → (s.dev.chan c).queue = [] →
        Completes (.gdePush channel) s fun t =>
        (t.chan c).active = some (s.dev.staged c).2 ∧ (t.chan c).queue = [] ∧ (t.chan c).elem = 0 ∧ (t.chan c).word = 0 ∧
        t.fld (if c = 0 then GDE_PUSHRES_CH0 else GDE_PUSHRES_CH1) = 1 ∧ s.dev.leaves t [GDE_PUSHRES, GDE_CSTAT c]) ∧
      (∀ e, s.dev.pushResult c = 1 → (s.dev.chan c).active = some e → Completes (.gdePush channel) s fun t =>
        t.chan c = { s.dev.chan c with queue := (s.dev.chan c).queue ++ [(s.dev.staged c).2] } ∧
        t.fld (if c = 0 then GDE_PUSHRES_CH0 else GDE_PUSHRES_CH1) = 1 ∧ s.dev.leaves t [GDE_PUSHRES, GDE_CSTAT c]) ∧
      (s.dev.pushResult c ≠ 1 → Completes (.gdePush channel) s fun t => t.gde = s.dev.gde ∧
        t.fld (if c = 0 then GDE_PUSHRES_CH0 else GDE_PUSHRES_CH1) = s.dev.pushResult c ∧
        t.fld GDE_CNT_REJECT = min (s.dev.fld GDE_CNT_REJECT + 1) (2 ^ GDE_CNT_REJECT.width - 1) ∧
        s.dev.leaves t [GDE_PUSHRES, GDE_CNT]) ∧
      (s.dev.chanFaulted c = false → ∀ i, i = Instr.gdeResume channel ∨ i = Instr.gdeSkip channel → Completes i s fun t =>
        t.gde = s.dev.gde ∧ s.dev.leaves t [SYS_WRIGN] ∧
        t.fld SYS_WRIGN_COUNT = min (s.dev.fld SYS_WRIGN_COUNT + 1) (2 ^ SYS_WRIGN_COUNT.width - 1)) ∧
      (s.dev.chanFaulted c = true →
        (Completes (.gdeResume channel) s fun t => t.chanFaulted c = false ∧
          t.chan c = { s.dev.chan c with asked := (s.dev.chan c).word } ∧ s.dev.leaves t [GDE_STAT, GDE_CSTAT c]) ∧
        (∀ e, (s.dev.chan c).active = some e → (s.dev.chan c).elem + 1 < e.elems.length →
          Completes (.gdeSkip channel) s fun t =>
          t.chanFaulted c = false ∧ (t.chan c).active = some e ∧ (t.chan c).elem = (s.dev.chan c).elem + 1 ∧
          (t.chan c).word = 0 ∧ (t.chan c).skipped = true ∧ s.dev.leaves t [GDE_STAT, GDE_CSTAT c])) ∧
      (Completes (.gdeAbort channel) s fun t => (t.chan c).active = (s.dev.chan c).queue.head? ∧
        (t.chan c).queue = (s.dev.chan c).queue.tail ∧ t.chanFaulted c = false ∧ s.dev.leaves t [GDE_STAT, GDE_CSTAT c]) ∧
      (Completes (.gdeFlush channel) s fun t => (t.chan c).active = none ∧ (t.chan c).queue = [] ∧ t.chanFaulted c = false ∧
        s.dev.leaves t [GDE_STAT, GDE_CSTAT c])) := by
  subst hc
  refine ⟨fun hother i hi => (gde_other hother i hi).mono fun t ht => ht ▸ ignoreWrite_counts s.dev, fun hhost => ?_⟩
  have hlen : channel.toNat < s.dev.gde.channels.length := by omega
  have hpush := gdePush_completes (s := s) channel hhost
  refine ⟨Dev.pushResult_full, Dev.pushResult_range, fun hok hidle hempty => hpush.mono fun t ht => ?_,
    fun x hok hactive => hpush.mono fun t ht => ?_, fun hbad => hpush.mono fun t ht => ht ▸ gdePush_rejects hbad,
    fun hfault i hi => (gde_unfaulted hhost hfault i hi).mono fun t ht => ht ▸ ignoreWrite_counts s.dev, fun hfault =>
    ⟨(gdeResume_completes channel hhost).mono fun t ht => ht ▸ resume_resumes hlen hfault, fun x hactive hmore =>
      (gdeSkip_completes channel hhost).mono fun t ht => ht ▸ ⟨skip_clears hlen hfault hactive, skip_skips hlen hfault hactive hmore⟩⟩,
    (gdeAbort_completes channel hhost).mono fun t ht => ht ▸ abort_aborts hlen,
    (gdeFlush_completes channel hhost).mono fun t ht => ht ▸ flush_flushes hlen⟩
  · obtain ⟨hshown, hleft⟩ := gdePush_pushes hok
    have hchan : (s.dev.gdePush channel.toNat).chan channel.toNat =
        { active := some (s.dev.staged channel.toNat).2, queue := [], discard := (s.dev.chan channel.toNat).discard } := by
      rw [Dev.gdePush_queued hok]
      exact Dev.queueDesc_idle (d := s.dev.setFld (pushresFld channel.toNat) 1) _ hlen hidle hempty
    rw [ht, hchan]
    exact ⟨rfl, rfl, rfl, rfl, hshown, hleft⟩
  · obtain ⟨hshown, hleft⟩ := gdePush_pushes hok
    have hchan : (s.dev.gdePush channel.toNat).chan channel.toNat = { s.dev.chan channel.toNat with
        queue := (s.dev.chan channel.toNat).queue ++ [(s.dev.staged channel.toNat).2] } := by
      rw [Dev.gdePush_queued hok]
      exact Dev.queueDesc_busy (d := s.dev.setFld (pushresFld channel.toNat) 1) _ hlen hactive
    rw [ht]
    exact ⟨hchan, hshown, hleft⟩

/-- Settles O42: the commands of the host channels, the bursts, and the reads a tile answers. -/
theorem gatherMovesWords : Obligations.GatherMovesWords := by
  intro s hchans
  refine ⟨gdeChannel_commanded hchans, fun flips collide waits hidle => ?_,
    fun c src dst hawake hc hothers hactive hfault hsrc hdst hnear hrepair => ?_,
    fun source tag w0 w1 n bank w hn hbank hw => ⟨fun hbarred flips => ?_, fun hzero hworker hjoined hbanks hfits hkind hsome hfew hgood => ?_⟩⟩
  · exact completes_of (f := fun d => d.gatherBurst flips collide waits.toNat) rfl (Dev.gatherBurst_idle _ _ _ hidle)
  · obtain ⟨x, hx⟩ := Option.ne_none_iff_exists'.1 hactive
    have hpaged : s.dev.Paged c x src dst := ⟨hx, hfault, hsrc, hdst, hnear, hrepair⟩
    have hburst (flips : List (List (BitVec 5))) (collide : List Bool) (waits : BitVec 5) :
        Completes (.gatherBurst flips collide waits) s fun t => t = s.dev.burst c flips collide waits.toNat :=
      completes_of (f := fun d => d.gatherBurst flips collide waits.toNat) rfl
        (hpaged.gatherBurst hawake hc hothers flips collide waits.toNat)
    refine ⟨hburst, fun y base len hy helem a b n ha hb hn hsown hdown hdbank hgood => (hburst [] [] 0).mono fun t ht i hi => ?_⟩
    obtain rfl : x = y := Option.some.inj (hx.symm.trans hy)
    rw [ht]
    exact hpaged.burst_copies (by omega) helem ha hb hn hsown hdown hdbank hgood hi
  · subst hn hbank hw
    have hserve : s.dev.gatherServe source.toNat w0 w1 flips = ([], s.dev.bump GDE_CNT_REJECT) := by
      refine Dev.gatherServe_barred flips (hbarred.imp_left fun hne h => hne (BitVec.eq_of_toNat_eq h))
    refine (gatherRead_completes source tag w0 w1 flips).mono fun t ht => ?_
    rw [ht, hserve]
    exact ⟨_, Dev.fld_bump_same _ _ (by decide), leaves_bump (s.dev.leaves_refl _) (by decide), rfl, rfl⟩
  · subst hn hbank hw hzero
    exact gatherRead_answers hworker hjoined hbanks hfits hkind hsome hfew hgood

end Sys2Proof.Machine
end

section
/-!
SUPPORT. The commands of banks, gather engine and rails complete (R649 to R741), and O57.
-/

namespace Sys2Proof.Machine

variable {d e : Dev} {s : State} {c : Nat} {x : Descriptor} {src dst : Word × Word}

/-! The ports, ownership and the scrubber (R649 to R659). -/

theorem Dev.taken_free (h : d.mem.repair = none) (bank : Nat) : d.taken bank = false := by simp only [Dev.taken, h]

theorem Dev.portA_write {bank w master : Nat} (v : Word) (flips : List (BitVec 5)) (waited : Bool) (hrepair : d.mem.repair = none)
    (hown : d.ownsBank bank master = true) :
    d.portA bank w master (some v) flips waited = (d.countWait master waited).setBank bank w v := by
  unfold Dev.portA
  rw [Dev.taken_free hrepair, if_neg Bool.false_ne_true, if_pos hown]
  rfl

theorem Dev.portB_write {bank w master : Nat} (v : Word) (flips : List (BitVec 5)) (waited : Bool) (hrepair : d.mem.repair = none)
    (hmaster : master ≠ 8) :
    d.portB bank w master (some v) flips waited false = (d.countWait master waited).setBank bank w v := by
  unfold Dev.portB
  rw [Dev.taken_free hrepair, if_neg (by simp)]
  exact (if_neg hmaster).trans (if_neg Bool.false_ne_true)

theorem Dev.bank_stored (d : Dev) (bank w : Nat) (v : Word) : (d.setBank bank w v).bank bank w = v :=
  (Dev.bank_setBank ..).trans (if_pos rfl)

theorem Dev.writeOwner_pends {bank owner : Nat} (h8 : bank ≠ 8) (h9 : bank ≠ 9) (howner : owner ≠ d.owner bank) :
    d.writeOwner none bank owner = (d.setFlag (MEM_OWN_PEND bank) true).setFld (MEM_OWN_NEXT bank) owner := by
  unfold Dev.writeOwner
  extract_lets barred
  have hfree : ¬ barred = true := by simp [barred]
  rw [if_neg hfree, if_neg (by simp [h8, h9]), if_neg howner]

theorem fld_apart_lsb {a l n l' n' : Nat} (h : l + n ≤ l' ∨ l' + n' ≤ l) : Fld.apart ⟨a, l, n⟩ ⟨a, l', n'⟩ = true := by
  simp [Fld.apart, h]

theorem Dev.handover_hands {bank : Nat} (hpend : d.flag (MEM_OWN_PEND bank) = true) (hfree : d.taken bank = false) :
    (d.handover bank).owner bank = d.fld (MEM_OWN_NEXT bank) := by
  have hcode : d.fld (MEM_OWN_NEXT bank) < 16 := wGet_lt _ _ 4
  unfold Dev.handover
  rw [if_pos (by simp [hpend, hfree])]
  refine (Dev.fld_setFld_apart _ _ (by simp) (fld_apart_lsb (by simp))).trans
    ((Dev.fld_setFlag_apart _ _ (by simp) (fld_apart_lsb (by simp))).trans ((Dev.fld_setFld_same _ _ _ (by simp)).trans ?_))
  exact Nat.mod_eq_of_lt hcode

theorem Dev.scrubNext_bank (d : Dev) : d.scrubNext.fld MEM_STAT_SCRUBBANK = (d.fld MEM_STAT_SCRUBBANK + 1) % 16 := by
  unfold Dev.scrubNext
  extract_lets bank w x y
  have hx : x.fld MEM_STAT_SCRUBBANK = (bank + 1) % 16 := Dev.fld_setFld_same _ _ _ (by decide)
  have hy : y.fld MEM_STAT_SCRUBBANK = x.fld MEM_STAT_SCRUBBANK := Dev.fld_setFld_apart _ _ (by decide) (by decide)
  split
  · exact hx
  · split
    · exact (Dev.fld_bump_apart _ (by decide) (by decide)).trans (hy.trans hx)
    · exact hy.trans hx

/-- The scrubber on a word without error goes on. -/
theorem Dev.scrub_clean (hawake : d.mode ≠ modeHibernate) (hstep : 5 ≤ d.pwr.step)
    (hfree : d.taken (d.fld MEM_STAT_SCRUBBANK) = false)
    (hgood : d.mem.bad.contains (bankAddr (d.fld MEM_STAT_SCRUBBANK) (d.fld MEM_SCRUBPOS_WORD)) = false) :
    d.scrub [] 0 = d.scrubNext := by
  have hruns : ¬ (d.mode = modeHibernate ∨ d.pwr.step < 5 ∨ d.taken (d.fld MEM_STAT_SCRUBBANK) = true) := by
    simp [hawake, hfree]
    omega
  have hmet := Dev.meetErrors_good 9 hgood
  simp only [Dev.scrub, if_neg hruns, hmet, List.length_nil, Nat.zero_ne_one, false_and, if_false]

/-! A repair (R670): VTX is commanded whatever VLED does. -/

/-- A machine without registers, rails, scan and lamps keeps its repair. -/
theorem Dev.repairVtxOn_keeps (d : Dev) : Dev.AltersRing Dev.offShort [RAIL_STAT, RAIL_SUPERSEDED, RAIL_CNT] d d.repairVtxOn := by
  have railed {y f : Dev} (h : Dev.AltersRing Dev.offShort [RAIL_STAT, RAIL_SUPERSEDED, RAIL_CNT] d y)
      (g : Dev.Railed [RAIL_STAT, RAIL_SUPERSEDED, RAIL_CNT] y f) :
      Dev.AltersRing Dev.offShort [RAIL_STAT, RAIL_SUPERSEDED, RAIL_CNT] d f :=
    altersRing_trans h (altersRing_of_alters g offRails_spares fun _ => rfl)
  have hclamp (v : Nat) : Dev.AltersRing Dev.offShort [RAIL_STAT, RAIL_SUPERSEDED, RAIL_CNT] d (d.railClamp true 900 v) := by
    unfold Dev.railClamp
    split
    · exact altersRing_refl d
    · exact altersRing_ring (altersRing_bump (altersRing_refl d) (by decide))
  unfold Dev.repairVtxOn
  extract_lets before regulated v y _ z
  have hz : Dev.AltersRing Dev.offShort [RAIL_STAT, RAIL_SUPERSEDED, RAIL_CNT] d z :=
    railed (railed (hclamp v) (railed_newVtx (by decide) _ _)) (railed_setRail (alters_refl y))
  split
  · exact railed hz (railed_followVtx (by decide) z)
  · exact railed hz (alters_setFld (alters_refl z) (by decide))

theorem Dev.freeSpare_of_check {bank col : Nat} (h : d.repairCheck bank col = 0) : ∃ sp, d.freeSpare bank = some sp := by
  refine Option.ne_none_iff_exists'.1 fun hfull => ?_
  unfold Dev.repairCheck at h
  simp only [hfull, if_true] at h
  split at h <;> exact absurd h (by decide)

theorem repair_begins {rq : Requester} {v : Word} (hkey : wGet v 16 8 = 0x5A)
    (hcheck : s.dev.repairCheck (wGet v 10 4) (wGet v 0 10) = 0) : Completes (.repair rq v) s fun t =>
      t.mem.repair = some (wGet v 10 4, wGet v 0 10) ∧ t.flag MEM_STAT_REPAIRING = true := by
  obtain ⟨sp, hsp⟩ := Dev.freeSpare_of_check hcheck
  refine completes_of (f := fun d => d.writeRepcmd v) rfl ?_
  rw [Dev.writeRepcmd_keyed hkey, Dev.repairBegin_starts false hcheck hsp]
  have hshown : (s.dev.repairShown (wGet v 10 4) (wGet v 0 10) sp false).flag MEM_STAT_REPAIRING = true :=
    Dev.flag_setFlag_same _ _ _ (by decide) (by decide)
  have hrepair : (s.dev.repairShown (wGet v 10 4) (wGet v 0 10) sp false).mem.repair = some (wGet v 10 4, wGet v 0 10) := rfl
  generalize s.dev.repairShown (wGet v 10 4) (wGet v 0 10) sp false = y at *
  have hvtx := y.repairVtxOn_keeps
  exact ⟨(hvtx.keeps (·.mem.repair) fun _ => rfl).trans hrepair, (hvtx.flag (by decide) (by decide)).trans hshown⟩

/-- A repair ends with the result of its checks, whatever bank and column it names. -/
theorem repairVtxReady_result {b col : Nat} (hrepair : s.dev.mem.repair = some (b, col)) (hconsole : s.dev.mem.console = false)
    (hwaiting : s.dev.mem.waiting = []) (f v : Bool) : Completes (.repairVtxReady f v) s fun t =>
      t.mem.repair = none ∧ t.fld MEM_REPSTAT_RESULT = if f = true ∧ v = true then 1 else 6 := by
  refine completes_of (f := fun d => d.repairRun f v) rfl ?_
  rw [Dev.repairRun_some hrepair]
  have hmoved := altersCopies s.dev b
  generalize s.dev.copyOut b = y at *
  obtain ⟨e0, valid, column, poisoned, hfree, -, -, hrun⟩ := y.repairProgram_ends b col f v
  have hkept := alters_trans hmoved hfree
  have hover := repairOver_repairEnd (d := e0.setSpare b (y.fld MEM_REPSTAT_SPARE) valid (!f) column) (bank := b) (c := col)
    (result := if f = true ∧ v = true then 1 else 6) poisoned
    ((hkept.keeps (·.mem.repair) fun _ => rfl).trans hrepair) ((hkept.keeps (·.mem.console) fun _ => rfl).trans hconsole)
    ((hkept.keeps (·.mem.waiting) fun _ => rfl).trans hwaiting) (by split <;> decide)
  rw [hrun]
  exact ⟨hover.repair, hover.result⟩

/-! Bursts (R687): a burst that stays inside its element. -/

theorem Dev.chan_setReg (d : Dev) (a : Nat) (v : Word) (c : Nat) : (d.setReg a v).chan c = d.chan c := rfl

theorem Dev.Paged.burst_goesOn (h : d.Paged c x src dst) (hlen : c < d.gde.channels.length) {base len : Nat}
    (helem : x.elems[(d.chan c).elem]? = some (base, len)) {a b n : Nat} (ha : a = base + (d.chan c).word)
    (hb : b = x.place (d.chan c).elem + (d.chan c).word)
    (hn : n = min (min (8 - a % 8) (1024 - b % 1024)) (len - (d.chan c).word)) (hsrc : entOwner src ≠ 6)
    (hdst : entOwner dst ≠ 6)
    (hgood : ∀ i < n, d.mem.bad.contains (bankAddr (entBank src) (entWord src (a + i))) = false)
    (hmore : (d.chan c).word + n < len) : ((d.burst c [] [] 0).chan c).word = (d.chan c).word + n := by
  obtain ⟨vs, free, -, -, hburst⟩ := h.burst helem ha hb hn hsrc hdst hgood
  have hkeep := altersCopies_inPage (as := []) dst vs b (alters_refl { d.burstShown c with free := free })
  rw [hburst]
  generalize { d.burstShown c with free := free }.inPage dst b vs = y at *
  have hlen' : c < y.gde.channels.length := by
    rw [hkeep.keeps (·.gde.channels.length) fun _ => rfl]
    exact hlen
  rw [Dev.burstOver, if_neg (by omega), Dev.chan_setReg, Dev.chan_setChan _ _ hlen']
  rfl

end Sys2Proof.Machine
end
section
/-!
SUPPORT. What the rail commands show in every state (R713 to R741).
-/

namespace Sys2Proof.Machine

variable {d e : Dev} {s : State}

theorem Dev.railDone_vtx_rail (d : Dev) (tag : Nat) : (d.railDone true tag).rail = { d.rail with vtxCmd := none } := by
  rw [Dev.railDone_vtx_eq]
  exact Dev.ring_rail ..

theorem Dev.vtxGo_wants (d : Dev) (v tag : Nat) (console : Bool) : (d.vtxGo v tag console).rail.vtxWant = v * 10 := by
  unfold Dev.vtxGo
  extract_lets mv _ x y
  split
  · split
    · exact congrArg (·.vtxWant) (Dev.railDone_vtx_rail x tag)
    · have hcommand := Dev.followVtx_vtxCommand (y.setRail { y.rail with vtxCmd := some tag })
      refine (congrArg (·.2.1) hcommand).trans (?_ : y.rail.vtxWant = _)
      rw [Dev.noteVtx_rail, Dev.setVtxTgt_rail, Dev.supersedeVtx_rail]
      rfl
  · rfl

theorem Dev.vledGo_fixed (d : Dev) (mv tag : Nat) : (d.vledGo mv tag).flag RAIL_STAT_FIXED = d.flag RAIL_STAT_FIXED := by
  unfold Dev.vledGo
  extract_lets settled y
  split
  · rw [Dev.railDone_vled_eq]
    exact (Dev.ring_flag (by decide) ..).trans (Dev.flag_setFld_apart _ _ (by decide) (by decide))
  · exact (railed_newVled (as := [RAIL_SUPERSEDED]) (by decide) d mv).flag (by decide)

theorem Dev.vledFix_fixed (d : Dev) (v tag : Nat) (console : Bool) : (d.vledFix v tag console).flag RAIL_STAT_FIXED = true := by
  unfold Dev.vledFix
  extract_lets _ x _ _ y _ z
  have hz : z.flag RAIL_STAT_FIXED = true := Dev.flag_setFlag_same _ _ _ (by decide) (by decide)
  split
  · exact (Dev.vledGo_fixed ..).trans hz
  · exact hz

theorem Dev.vledAuto_adapts (d : Dev) (tag : Nat) (console : Bool) : (d.vledAuto tag console).flag RAIL_STAT_FIXED = false := by
  have hflag : (d.setFlag RAIL_STAT_FIXED false).flag RAIL_STAT_FIXED = false :=
    Dev.flag_setFlag_same _ _ _ (by decide) (by decide)
  rw [Dev.vledAuto_eq]
  split
  · exact (Dev.vledGo_fixed ..).trans hflag
  · exact hflag

/-- Moving the references keeps the measured outputs. -/
theorem Dev.moveRefs_measured (d : Dev) : d.moveRefs.rail.vhv = d.rail.vhv ∧ d.moveRefs.rail.vtx = d.rail.vtx := by
  unfold Dev.moveRefs
  extract_lets r step n r1 r2
  have h1 : r1.vhv = r.vhv ∧ r1.vtx = r.vtx := by
    unfold r1
    split
    · exact ⟨rfl, rfl⟩
    · split <;> exact ⟨rfl, rfl⟩
  have h2 : r2.vhv = r1.vhv ∧ r2.vtx = r1.vtx := by
    unfold r2
    split
    · split <;> exact ⟨rfl, rfl⟩
    · exact ⟨rfl, rfl⟩
  exact ⟨h2.1.trans h1.1, h2.2.trans h1.2⟩

theorem Dev.referenceUpdate_measures (d : Dev) (vhv vtx : Nat) (pass : Bool) :
    (d.referenceUpdate vhv vtx pass).rail.vhv = vhv * 10 ∧ (d.referenceUpdate vhv vtx pass).rail.vtx = vtx * 10 := by
  cases hon : d.rail.on with
  | false =>
    rw [Dev.referenceUpdate_off vhv vtx pass hon]
    exact ⟨rfl, rfl⟩
  | true =>
    have hvoltages := Dev.referenceUpdate_voltages vhv vtx pass hon
    obtain ⟨hvhv, hvtx⟩ := (d.measured vhv vtx).moveRefs_measured
    exact ⟨(congrArg (·.1) hvoltages).trans hvhv, (congrArg (·.2.1) hvoltages).trans hvtx⟩

theorem Dev.toRegulator_rail (d : Dev) (soft : Bool) : (d.toRegulator soft).rail = (d.onRegulator soft).rail := by
  rw [Dev.toRegulator_eq]
  split
  · exact Dev.ring_rail ..
  · rfl

theorem Dev.toRegulator_src (d : Dev) (soft : Bool) : (d.toRegulator soft).fld RAIL_STAT_VTXSRC = 1 := by
  rw [Dev.toRegulator_eq]
  split
  · exact (Dev.ring_fld (by decide) ..).trans ((Dev.fld_setFlag_apart _ _ (by decide) (by decide)).trans (d.onRegulator_src soft))
  · exact d.onRegulator_src soft

theorem Dev.softStartEnd_ends (d : Dev) : d.softStartEnd.rail.vledSoft = none := by
  have hended : d.rampEnded.rail.vledSoft = none := congrArg (·.vledSoft) d.rampEnded_rail
  rw [Dev.softStartEnd_eq]
  split
  · split
    · exact hended
    · split
      · exact hended
      · rw [Dev.toRegulator_rail, Dev.onRegulator_rail]
        exact hended
  next h => exact Option.not_isSome_iff_eq_none.1 h

/-- A short, whether VTX is off or not. -/
theorem railShort_stops (d : Dev) (kind vhv : Nat) {attempt : Nat} (h : attempt < 8) :
    (d.railShort kind attempt vhv).rail.vledSoft = none ∧
      (d.railShort kind attempt vhv).fld RAIL_STAT_VLEDST = (if 4 ≤ attempt then 6 else 5) ∧
      (d.railShort kind attempt vhv).fld RAIL_STAT_ATTEMPT = attempt := by
  rw [Dev.railShort_eq]
  have hsoft : d.shortBegun.rail.vledSoft = none := rfl
  generalize d.shortBegun = x at *
  obtain ⟨-, hyrail, -, -⟩ := shortDegraded_degrades x
  generalize x.shortDegraded = y at *
  obtain ⟨-, hzrail, hattempt, -, -⟩ := shortTold_counts y kind vhv h
  generalize y.shortTold kind attempt vhv = z at *
  obtain ⟨-, hwrail, hst, -, hwfld⟩ := shortNext_leads z attempt
  exact ⟨(congrArg (·.vledSoft) (hwrail.trans (hzrail.trans hyrail))).trans hsoft, hst,
    (hwfld _ (by decide) (by decide)).trans hattempt⟩

theorem Dev.beginSoftStart_state (d : Dev) (attempt : Nat) : (d.beginSoftStart attempt).fld RAIL_STAT_VLEDST = 1 := by
  unfold Dev.beginSoftStart
  extract_lets x y
  have hst : x.fld RAIL_STAT_VLEDST = 1 := Dev.fld_setFld_same _ _ _ (by decide)
  have hkept : y.fld RAIL_STAT_VLEDST = x.fld RAIL_STAT_VLEDST := by
    unfold y
    split
    · rfl
    · exact (Dev.fld_noteVtx _ _).trans (Dev.fld_setFld_apart _ _ (by decide) (by decide))
  exact hkept.trans hst

theorem Dev.overvolt_holds (d : Dev) (vhv : Nat) :
    (d.overvolt vhv).flag RAIL_STAT_OVERVOLT = true ∧ (d.overvolt vhv).rail.gateLow = true := by
  unfold Dev.overvolt
  extract_lets _ x due _
  have hflag : x.flag RAIL_STAT_OVERVOLT = true := Dev.flag_setFlag_same _ _ _ (by decide) (by decide)
  split
  · exact ⟨(Dev.ring_flag (by decide) ..).trans hflag, congrArg (·.gateLow) (Dev.ring_rail ..)⟩
  · exact ⟨hflag, rfl⟩

theorem Dev.vtxRestart_softly (d : Dev) (hoff : d.rail.vtxOff = true) :
    d.vtxRestart.rail.vtxOff = false ∧ d.vtxRestart.rail.vtxSoft = some (d.rail.vtx, 0) := by
  unfold Dev.vtxRestart
  rw [if_pos hoff]
  extract_lets _ x
  split
  · rw [Dev.toRegulator_rail, Dev.onRegulator_rail]
    exact ⟨rfl, rfl⟩
  · exact ⟨congrArg (·.vtxOff) (Dev.noteVtx_rail _), congrArg (·.vtxSoft) (Dev.noteVtx_rail _)⟩

/-! The commands. -/

theorem vtxCommand_remembered (value : Word) (hfixed : s.dev.flag RAIL_STAT_FIXED = false) (hlo : 600 ≤ wGet value 0 11)
    (hhi : wGet value 0 11 ≤ 2000) : Completes (.vtxCommand value) s fun t => t.rail.vtxWant = wGet value 0 11 * 10 := by
  refine completes_of (f := fun d => d.vtxSet (wGet value 0 11) (wGet value 16 8) false) rfl ?_
  rw [Dev.vtxSet_eq, Dev.clampVtx_inRange hlo hhi hfixed]
  exact Dev.vtxGo_wants ..

theorem railVtxFault_shown (vtx : BitVec 13) (hon : s.dev.rail.on = true) {kind : BitVec 2} (hkind : kind = 1 ∨ kind = 2) :
    Completes (.railVtxFault kind vtx) s fun t => t.flag RAIL_STAT_VTXFAULT = true := by
  obtain ⟨hfault, -⟩ := faultTold_tells s.dev kind.toNat vtx.toNat
  obtain rfl | rfl := hkind
  · exact (railVtxFault_reports vtx hon).mono fun t ht => ht ▸ hfault
  · refine (railVtxFault_cuts vtx hon (Or.inl rfl)).mono fun t ht => ?_
    generalize s.dev.faultTold (2#2).toNat vtx.toNat = x at *
    obtain ⟨-, -, -, hkept⟩ := vtxCut_cuts x
    rw [ht]
    exact hkept.trans hfault

theorem demandUpdate_shows {v : Nat} (hsome : s.dev.lampDemand = some v) (hv : v ≤ 8000) :
    Completes .demandUpdate s fun t => t.fld RAIL_DEMAND_V = v + 60 :=
  demandUpdate_spec.mono fun _ ⟨e, _, _, ht, _, hdemand⟩ =>
    ht ▸ ((railed_retargetVled (as := [RAIL_SUPERSEDED]) (by decide) e).fld (by decide)).trans (hdemand v hsome hv)

theorem railDone_over {tag : Nat} (hcmd : s.dev.rail.vtxCmd = some tag) (href : s.dev.rail.vtxRef = s.dev.rail.vtxTgt)
    (hnear : near2 s.dev.rail.vtx s.dev.rail.vtxTgt = true) : Completes (.railDone true) s fun t => t.rail.vtxCmd = none := by
  have hsettled : s.dev.railSettled true = s.dev.railDone true tag := by simp [Dev.railSettled, hcmd, href, hnear]
  refine completes_of (f := fun d => d.railSettled true) rfl ?_
  rw [hsettled, Dev.railDone_vtx_rail]

theorem vtxToRegulator_returns (hback : s.dev.rail.vtxBack = true) (hgap : s.dev.scan.cur = none) :
    Completes .vtxToRegulator s fun t => t.rail.vtxBack = false ∧ t.fld RAIL_STAT_VTXSRC = 1 := by
  refine completes_of (f := fun d => if d.rail.vtxBack && d.scan.cur.isNone then d.toRegulator false else d) rfl ?_
  rw [if_pos (by simp [hback, hgap])]
  exact ⟨by rw [Dev.toRegulator_rail, Dev.onRegulator_rail], Dev.toRegulator_src ..⟩

/-- The commands that measure, and those that meet shorts and overvoltage. -/
theorem railsMeasured (s : State) (vhv vtx : BitVec 13) (pass : Bool) :
    (Completes (.referenceUpdate vhv vtx pass) s fun t => t.rail.vhv = vhv.toNat * 10 ∧ t.rail.vtx = vtx.toNat * 10) ∧
    (∀ p, s.dev.rail.vledSoft = some p →
      (Completes .softStartEnd s fun t => t.rail.vledSoft = none) ∧
      Completes (.railShort vhv) s fun t => t.rail.vledSoft = none ∧
        t.fld RAIL_STAT_VLEDST = (if 4 ≤ s.dev.fld RAIL_STAT_ATTEMPT then 6 else 5)) ∧
    (s.dev.boostRuns = true →
      (Completes (.runningShort vhv) s fun t => t.fld RAIL_STAT_VLEDST = 5 ∧ t.fld RAIL_STAT_ATTEMPT = 1) ∧
      Completes (.railOvervolt vhv) s fun t => t.flag RAIL_STAT_OVERVOLT = true ∧ t.rail.gateLow = true) ∧
    (Completes (.vhvAbove50v vhv) s fun t => t.rail.gateLow = true ∧ t.rail.disOpen = true) ∧
    (∀ kind : BitVec 2, s.dev.rail.on = true → kind = 1 ∨ kind = 2 → Completes (.railVtxFault kind vtx) s fun t =>
      t.flag RAIL_STAT_VTXFAULT = true) := by
  have hattempt : s.dev.fld RAIL_STAT_ATTEMPT < 8 := wGet_lt _ _ 3
  refine ⟨completes_of (f := fun d => d.referenceUpdate vhv.toNat vtx.toNat pass) rfl (Dev.referenceUpdate_measures ..),
    fun p hsoft => ⟨completes_of (f := Dev.softStartEnd) rfl s.dev.softStartEnd_ends,
      (railShort_completes vhv hsoft).mono fun t ht => ?_⟩, fun hruns =>
    ⟨(runningShort_completes vhv hruns).mono fun t ht => ?_,
      (railOvervolt_completes vhv hruns).mono fun t ht => ht ▸ s.dev.overvolt_holds vhv.toNat⟩,
    (vhvAbove50v_completes vhv).mono fun t ht => ?_, fun kind hon hkind => railVtxFault_shown vtx hon hkind⟩
  · obtain ⟨hstopped, hst, -⟩ := railShort_stops s.dev 1 vhv.toNat hattempt
    exact ht ▸ ⟨hstopped, hst⟩
  · obtain ⟨-, hst, hcount⟩ := railShort_stops s.dev 2 vhv.toNat (show 1 < 8 by decide)
    exact ht ▸ ⟨hst, hcount⟩
  · obtain ⟨-, hgate, hdis, -⟩ := above50_raises s.dev vhv.toNat
    exact ht ▸ ⟨hgate, hdis⟩

end Sys2Proof.Machine
end
section
/-!
SUPPORT. O57, by the parts of the banks, the gather engine and the rails.
-/

namespace Sys2Proof.Machine

variable {s : State}

/-- The commands on a bank while no repair runs. -/
theorem banksComplete (s : State) (bank master : BitVec 4) (w : BitVec 14) (b n : Nat) (hb : bank.toNat = b) (hw : w.toNat = n)
    (hrepair : s.dev.mem.repair = none) :
    (∀ v flips waited, s.dev.ownsBank b master.toNat = true →
      Completes (.portAAccess bank w master (some v) flips waited) s fun t => t.bank b n = v) ∧
    (∀ v flips waited, master.toNat ≠ 8 →
      Completes (.portBAccess bank w master (some v) flips waited false) s fun t => t.bank b n = v) ∧
    (∀ rq flips, s.dev.winBank rq = b → s.dev.mem.bad.contains (bankAddr b n) = false → flips = [] →
      Completes (.memoryWindowRead rq w flips) s fun t => t = s.dev ∧ s.dev.windowWord rq n = s.dev.bank b n) ∧
    (∀ rq v, s.dev.winBank rq = b → s.dev.owner b = 8 →
      Completes (.memoryWindowWrite rq w v) s fun t => t.bank b n = v) ∧
    (∀ owner : BitVec 4, b ≠ 8 → b ≠ 9 → owner.toNat ≠ s.dev.owner b → Completes (.ownerWrite none bank owner) s fun t =>
      t.flag (MEM_OWN_PEND b) = true ∧ t.fld (MEM_OWN_NEXT b) = owner.toNat) ∧
    (s.dev.flag (MEM_OWN_PEND b) = true → Completes (.handover bank) s fun t => t.owner b = s.dev.fld (MEM_OWN_NEXT b)) ∧
    (s.dev.mode ≠ modeHibernate → 5 ≤ s.dev.pwr.step → s.dev.mem.bad = [] → Completes (.scrub [] 0) s fun t =>
      t.fld MEM_STAT_SCRUBBANK = (s.dev.fld MEM_STAT_SCRUBBANK + 1) % 16) ∧
    (∀ rq v, wGet v 16 8 = 0x5A → s.dev.repairCheck (wGet v 10 4) (wGet v 0 10) = 0 → Completes (.repair rq v) s fun t =>
      t.mem.repair = some (wGet v 10 4, wGet v 0 10) ∧ t.flag MEM_STAT_REPAIRING = true) := by
  subst hb hw
  refine ⟨fun v flips waited hown => ?_, fun v flips waited hmaster => ?_, fun rq flips hsel hgood hflips => ?_,
    fun rq v hsel hown => ?_, fun owner h8 h9 hne => ?_, fun hpend => ?_, fun hawake hstep hbad => ?_,
    fun rq v hkey hcheck => repair_begins hkey hcheck⟩
  · refine completes_of (f := fun d => d.portA bank.toNat w.toNat master.toNat (some v) flips waited) rfl ?_
    rw [Dev.portA_write v flips waited hrepair hown]
    exact Dev.bank_stored ..
  · refine completes_of (f := fun d => d.portB bank.toNat w.toNat master.toNat (some v) flips waited false) rfl ?_
    rw [Dev.portB_write v flips waited hrepair hmaster]
    exact Dev.bank_stored ..
  · subst hflips
    rw [← hsel] at hgood ⊢
    exact completes_of (f := fun d => d.windowRead rq w.toNat []) rfl
      ⟨Dev.windowRead_good (Dev.taken_free hrepair _) hgood, Dev.windowWord_good (Dev.taken_free hrepair _) hgood⟩
  · rw [← hsel] at hown ⊢
    refine completes_of (f := fun d => d.windowWrite rq w.toNat v) rfl ?_
    rw [Dev.windowWrite_owned v (Dev.taken_free hrepair _) hown]
    exact Dev.bank_stored ..
  · refine completes_of (f := fun d => d.writeOwner none bank.toNat owner.toNat) rfl ?_
    rw [Dev.writeOwner_pends h8 h9 hne]
    refine ⟨?_, (Dev.fld_setFld_same _ _ _ (by simp)).trans (Nat.mod_eq_of_lt owner.isLt)⟩
    exact (Dev.flag_setFld_apart _ _ (by simp) (fld_apart_lsb (by simp))).trans
      (Dev.flag_setFlag_same _ _ _ (by simp) (by simp))
  · exact completes_of (f := fun d => d.handover bank.toNat) rfl (Dev.handover_hands hpend (Dev.taken_free hrepair _))
  · refine completes_of (f := fun d => d.scrub [] (0 : BitVec 3).toNat) rfl ?_
    have hclean : s.dev.scrub [] (0 : BitVec 3).toNat = s.dev.scrubNext :=
      Dev.scrub_clean hawake hstep (Dev.taken_free hrepair _) (by simp [hbad])
    rw [hclean]
    exact Dev.scrubNext_bank _

/-- The commands of a host channel. -/
theorem hostChannelsComplete (s : State) (channel : BitVec 3) (c : Nat) (hc : channel.toNat = c) (hhost : c < 2)
    (hchans : s.dev.gde.channels.length = 8) :
    (s.dev.pushResult c = 1 → Completes (.gdePush channel) s fun t =>
      t.fld (if c = 0 then GDE_PUSHRES_CH0 else GDE_PUSHRES_CH1) = 1) ∧
    (s.dev.chanFaulted c = true → (s.dev.chan c).active ≠ none →
      (Completes (.gdeResume channel) s fun t => t.chanFaulted c = false) ∧
      Completes (.gdeSkip channel) s fun t => t.chanFaulted c = false) ∧
    (Completes (.gdeAbort channel) s fun t => (t.chan c).active = (s.dev.chan c).queue.head? ∧
      (t.chan c).queue = (s.dev.chan c).queue.tail) ∧
    Completes (.gdeFlush channel) s fun t => (t.chan c).active = none ∧ (t.chan c).queue = [] := by
  subst hc
  have hlen : channel.toNat < s.dev.gde.channels.length := by omega
  refine ⟨fun hok => (gdePush_completes channel hhost).mono fun t ht => ?_, fun hfault hsome =>
    ⟨(gdeResume_completes channel hhost).mono fun t ht => ?_, (gdeSkip_completes channel hhost).mono fun t ht => ?_⟩,
    (gdeAbort_completes channel hhost).mono fun t ht => ?_, (gdeFlush_completes channel hhost).mono fun t ht => ?_⟩
  · obtain ⟨hshown, -⟩ := gdePush_pushes hok
    exact ht ▸ hshown
  · obtain ⟨hclear, -⟩ := resume_resumes hlen hfault
    exact ht ▸ hclear
  · obtain ⟨y, hy⟩ := Option.ne_none_iff_exists'.1 hsome
    exact ht ▸ skip_clears hlen hfault hy
  · obtain ⟨hactive, hqueue, -⟩ := abort_aborts hlen
    exact ht ▸ ⟨hactive, hqueue⟩
  · obtain ⟨hactive, hqueue, -⟩ := flush_flushes hlen
    exact ht ▸ ⟨hactive, hqueue⟩

/-- Settles O57: each command leads to the effect that its operation's lemma states. -/
theorem banksGatherAndRailsComplete : Obligations.BanksGatherAndRailsComplete := by
  intro s
  refine ⟨banksComplete s, completes_of (f := fun d => d.bump MEM_SCRUB_LATE) rfl (Dev.fld_bump_same _ _ (by decide)),
    fun hrepair hconsole hwaiting => ?_, hostChannelsComplete s,
    fun c e base len src dst n hchans hawake hc hothers hactive hfault hsrc hdst hnear hrepair hbad hsown hdown helem hn hmore => ?_,
    fun tag w0 w1 hworker hjoined hbank hfits hkind hsome hfew hbad => ?_,
    fun value => ⟨vtxCommand_remembered value,
      completes_of (f := fun d => d.vledFix (wGet value 0 13) (wGet value 16 8) false) rfl (Dev.vledFix_fixed ..),
      completes_of (f := fun d => d.vledAuto (wGet value 16 8) false) rfl (Dev.vledAuto_adapts ..),
      fun hkey hclear hlatched => (clearlatch_clears hkey hclear hlatched).mono fun t ht => ?_⟩,
    railsMeasured s, fun tag => railDone_over, fun v => demandUpdate_shows, vtxToRegulator_returns,
    fun hst => (shortRetry_completes hst).mono fun t ht => ht ▸ Dev.beginSoftStart_state ..,
    fun hoff => vtxFaultRestart_completes.mono fun t ht => ht ▸ s.dev.vtxRestart_softly hoff⟩
  · obtain ⟨⟨b, col⟩, hsome⟩ := Option.ne_none_iff_exists'.1 hrepair
    exact ⟨repairVtxReady_result hsome hconsole hwaiting, (repairVtxTimeout_ends hsome hconsole hwaiting).mono fun t hover =>
      ⟨hover.repair, hover.result⟩⟩
  · have hpaged : s.dev.Paged c e src dst := ⟨hactive, hfault, hsrc, hdst, hnear, hrepair⟩
    refine completes_of (f := fun d => d.gatherBurst [] [] (0 : BitVec 5).toNat) rfl ?_
    rw [hpaged.gatherBurst hawake hc hothers [] [] (0 : BitVec 5).toNat]
    exact hpaged.burst_goesOn (by omega) helem rfl rfl hn hsown hdown (fun i _ => by simp [hbad]) hmore
  · exact gatherRead_answers hworker hjoined (by simp; omega) hfits hkind hsome hfew fun i _ => by simp [hbad]
  · obtain ⟨hst, hcount, -⟩ := beginSoftStart_begins s.dev (show 1 < 8 by decide)
    exact ht ▸ ⟨hst, hcount⟩

end Sys2Proof.Machine
end

section
/-!
SUPPORT. What follows the end of a commit (R171, R524, R528, R577): a mode command held back is issued, and the JOINs that
waited are answered. The commit, the configuration and the registers of the commit stay.
-/

namespace Sys2Proof.Machine

variable {d e f : Dev} {as bs : List Nat}

/-- What the link's traffic leaves is left where the link is forgotten. -/
theorem altersRing_linked {q : Dev → Dev} (h : Dev.AltersRing q as d e) (g : Dev.Linked bs e f) (hsub : bs ⊆ as)
    (hq : ∀ x : Dev, q x.offline = q x.quiet := by exact fun _ => rfl) : Dev.AltersRing q as d f := by
  obtain ⟨gregs, gbanks, grest⟩ := g
  exact altersRing_trans h ⟨fun a ha hr => gregs a (fun hb => ha (hsub hb)) hr, gbanks,
    (hq f).symm.trans ((congrArg q grest).trans (hq e))⟩

/-- A machine without its modes, its surface, its link, its reports, its console and its USB. -/
def Dev.offJoin (d : Dev) : Dev := { d with modes := {}, surf := {}, link := {}, rpt := {}, con := {}, usb := {} }

/-- Nothing but what mode commands and messages to tiles change, the registers as and what an event may change differs. -/
abbrev Dev.Joined (as : List Nat) (d e : Dev) : Prop := Dev.AltersRing Dev.offJoin as d e

theorem joined_linked (h : Dev.Joined as d e) (g : Dev.Linked bs e f) (hsub : bs ⊆ as) : Dev.Joined as d f :=
  altersRing_linked h g hsub

theorem joined_setModes (h : Dev.Joined as d e) {m : Modes} : Dev.Joined as d (e.setModes m) := altersRing_of h rfl rfl rfl
theorem joined_setSurf (h : Dev.Joined as d e) {v : Surface} : Dev.Joined as d (e.setSurf v) := altersRing_of h rfl rfl rfl
theorem joined_setTile (h : Dev.Joined as d e) {t : Tile} : Dev.Joined as d (e.setTile t) := joined_setSurf h

theorem joined_send (h : Dev.Joined as d e) {kind dest : Nat} {ws : List Word} : Dev.Joined as d (e.send kind dest ws) :=
  joined_linked h (linked_send (as := []) e kind dest ws) (by simp)

theorem joined_sends (h : Dev.Joined as d e) (kind : Nat) (dests : List Nat) (ws : List Word) :
    Dev.Joined as d (dests.foldl (fun d t => d.send kind t ws) e) :=
  altersRing_trans h (altersRing_foldl dests e fun x _ _ => joined_send (altersRing_refl x))

theorem joined_issueOps (h : Dev.Joined as d e) (hlink : linkRegs ⊆ as) : Dev.Joined as d e.issueOps :=
  joined_linked h (linked_issueOps e) hlink

/-! A mode command that was held (R171). -/

theorem joined_markPending (h : Dev.Joined as d e) (hstat : PWR_STAT ∈ as) (m : Option Nat) : Dev.Joined as d (e.markPending m) := by
  cases m with
  | none => exact altersRing_setFlag h hstat
  | some m => exact altersRing_setFld (altersRing_setFlag h hstat) hstat

theorem joined_askMode (h : Dev.Joined as d e) (hstat : PWR_STAT ∈ as) (mode reason : Nat) :
    Dev.Joined as d (e.askMode mode reason) := by
  unfold Dev.askMode
  split
  · exact joined_markPending (joined_setModes (joined_setModes (joined_sends h ..))) hstat _
  · exact joined_markPending (joined_setModes h) hstat _

theorem joined_holdMode (h : Dev.Joined as d e) (mode reason : Nat) : Dev.Joined as d (e.holdMode mode reason) := by
  unfold Dev.holdMode
  split
  · exact h
  · split
    · exact h
    · exact joined_setModes h
  · exact joined_setModes h

theorem joined_requestMode (h : Dev.Joined as d e) (hstat : PWR_STAT ∈ as) (mode reason : Nat) :
    Dev.Joined as d (e.requestMode mode reason) := by
  unfold Dev.requestMode Dev.issueMode
  split
  · exact altersRing_ring h
  · split
    · exact joined_holdMode h ..
    · split
      · exact h
      · exact joined_askMode h hstat ..

theorem joined_releaseHeldMode (h : Dev.Joined as d e) (hstat : PWR_STAT ∈ as) : Dev.Joined as d e.releaseHeldMode := by
  unfold Dev.releaseHeldMode
  split
  · exact h
  · extract_lets _ x
    have hx : Dev.Joined as d x := joined_setModes h
    split
    · split
      · exact joined_holdMode hx ..
      · exact joined_askMode hx hstat ..
    · exact joined_requestMode hx hstat ..

theorem joined_releaseHeld (h : Dev.Joined as d e) (hstat : PWR_STAT ∈ as) (hlink : linkRegs ⊆ as) :
    Dev.Joined as d e.releaseHeld := by
  unfold Dev.releaseHeld
  split
  · exact h
  · exact joined_issueOps (joined_releaseHeldMode h hstat) hlink

/-! Tiles that leave, are reset or join (R545, R571, R574, R579). -/

theorem joined_cancelTile (h : Dev.Joined as d e) (xy reason : Nat) : Dev.Joined as d (e.cancelTile xy reason) := by
  have hcancel (x : Dev) (c : SurfContact) : Dev.Joined as x (x.cancelSurf c reason) := by
    unfold Dev.cancelSurf
    extract_lets y
    have hy : Dev.Joined as x y := joined_setSurf (altersRing_refl x)
    split
    · exact joined_setSurf hy
    · exact hy
  have hsend (x : Dev) : Dev.Joined as x x.sendCancels :=
    altersRing_trans (joined_setSurf (altersRing_refl x)) (altersRing_foldl _ _ fun y p _ =>
      altersRing_near (altersRing_refl y) (near_ringPair ..))
  unfold Dev.cancelTile Dev.flushCancels
  extract_lets gone
  have hgone : Dev.Joined as d (gone.foldl (fun d c => d.cancelSurf c reason) e) :=
    altersRing_trans h (altersRing_foldl gone e fun x c _ => hcancel x c)
  split
  · have howed (cs : List HidContact) : Dev.Joined as d ((gone.foldl (fun d c => d.cancelSurf c reason) e).hidOwe cs) :=
      altersRing_of hgone rfl rfl rfl
    exact altersRing_trans (howed _) (hsend _)
  · exact hgone

theorem joined_tileGone (h : Dev.Joined as d e) (xy st reason kind : Nat) : Dev.Joined as d (e.tileGone xy st reason kind) :=
  altersRing_ring (joined_cancelTile (joined_linked (joined_setTile h) (linked_clearFlows (as := []) _ xy) (by simp)) xy 4)

theorem joined_waiterFails (h : Dev.Joined as d e) (o : Operation) : Dev.Joined as d (e.waiterFails o) := by
  unfold Dev.waiterFails
  split
  · exact altersRing_of h rfl rfl rfl
  · split
    · exact altersRing_of h rfl rfl rfl
    · exact h
  · exact h

theorem joined_remoteEnd (h : Dev.Joined as d e) (hlink : linkRegs ⊆ as) (hremote : [EGL_RSTAT, EGL_RCNT] ⊆ as) (xy : Nat) :
    Dev.Joined as d (e.remoteEnd xy) := by
  unfold Dev.remoteEnd
  extract_lets mine _ x y
  have hx : Dev.Joined as d x := joined_linked h (linked_setLink (as := []) e _) (by simp)
  have hy : Dev.Joined as d y := altersRing_trans hx (altersRing_foldl mine x fun z o _ =>
    joined_waiterFails (joined_linked (altersRing_refl z) (linked_remoteFail ..) hremote) o)
  exact joined_linked (joined_linked hy (linked_noteTags y) hlink) (linked_notePend _) hremote

/-- The registers that a reset of a tile changes. -/
def resetRegs : List Nat := [EGL_RSTAT, EGL_RCNT] ++ linkRegs

theorem joined_resetTile (h : Dev.Joined as d e) (hregs : resetRegs ⊆ as) (xy : Nat) (linkBoot : Bool) :
    Dev.Joined as d (e.resetTile xy linkBoot) := by
  have hlink : linkRegs ⊆ as := fun a ha => hregs (List.mem_append_right _ ha)
  have hremote : [EGL_RSTAT, EGL_RCNT] ⊆ as := fun a ha => hregs (List.mem_append_left _ ha)
  unfold Dev.resetTile
  extract_lets x
  have hx : Dev.Joined as d x := by
    unfold x
    split
    · exact joined_tileGone h ..
    · exact joined_setTile h
  exact joined_issueOps (joined_send (joined_linked (joined_remoteEnd hx hlink hremote xy)
    (linked_clearFlows (as := []) _ xy) (by simp))) hlink

theorem joined_welcome (h : Dev.Joined as d e) (hlink : linkRegs ⊆ as) (xy : Nat) : Dev.Joined as d (e.welcome xy) := by
  unfold Dev.welcome
  extract_lets known n
  split
  next sec frac _ =>
  extract_lets x y
  have hx : Dev.Joined as d x := joined_send h
  have hy : Dev.Joined as d y := by
    obtain ⟨out, heq⟩ := x.sendDelta_eq xy 0 (if x.com.delta.isEmpty then [] else chunks 30 64 x.com.delta)
    exact (show y = _ from heq) ▸ altersRing_of hx rfl rfl rfl
  split
  next own z hz =>
  extract_lets loaded _ w
  have hdrawn : Dev.Joined as d (y.draw 2).2 := joined_linked hy (linked_draw (as := []) y 2) (by simp)
  have hzj : Dev.Joined as d z := by
    rw [hz] at hdrawn
    exact hdrawn
  exact altersRing_ring (joined_issueOps (joined_setTile hzj) hlink)

/-- The registers that the answers to JOINs change beside CFG_CNT2. -/
theorem joined_answerJoin (h : Dev.Joined as d e) (hregs : resetRegs ⊆ as) (hcnt : CFG_CNT2 ∈ as) (xy : Nat) (words : List Word) :
    Dev.Joined as d (e.answerJoin xy words) := by
  have hlink : linkRegs ⊆ as := fun a ha => hregs (List.mem_append_right _ ha)
  unfold Dev.answerJoin
  extract_lets sid _ x crc reason y
  have hx : Dev.Joined as d x := joined_setTile h
  have hy : Dev.Joined as d y := by
    unfold y
    split
    · exact hx
    · exact joined_setTile hx
  split
  · exact altersRing_ring (joined_issueOps (joined_send hy) hlink)
  · split
    · exact joined_resetTile hx hregs ..
    · split
      · exact joined_resetTile (altersRing_bump hx hcnt) hregs ..
      · exact joined_welcome hx hlink xy

/-- An answer to a JOIN leaves the count of calibrations that timed out. -/
theorem Dev.fld_answerJoin_coldto (d : Dev) (xy : Nat) (words : List Word) :
    (d.answerJoin xy words).fld CFG_CNT2_COLDTO = d.fld CFG_CNT2_COLDTO := by
  have hkept {x y : Dev} (h : Dev.Joined resetRegs x y) : y.fld CFG_CNT2_COLDTO = x.fld CFG_CNT2_COLDTO :=
    h.fld (by decide) (by decide)
  have hlink : linkRegs ⊆ resetRegs := List.subset_append_right _ _
  unfold Dev.answerJoin
  extract_lets sid _ x crc reason y
  have hx : x.fld CFG_CNT2_COLDTO = d.fld CFG_CNT2_COLDTO := rfl
  have hy : Dev.Joined resetRegs x y := by
    unfold y
    split
    · exact altersRing_refl x
    · exact joined_setTile (altersRing_refl x)
  split
  · exact (hkept (altersRing_ring (joined_issueOps (joined_send hy) hlink))).trans hx
  · split
    · exact (hkept (joined_resetTile (altersRing_refl x) (List.Subset.refl _) ..)).trans hx
    · split
      · exact (hkept (joined_resetTile (altersRing_refl _) (List.Subset.refl _) ..)).trans
          (Dev.fld_bump_apart _ (by decide) (by decide))
      · exact (hkept (joined_welcome (altersRing_refl x) hlink xy)).trans hx

theorem joined_answerJoins (h : Dev.Joined as d e) (hregs : resetRegs ⊆ as) (hcnt : CFG_CNT2 ∈ as) :
    Dev.Joined as d e.answerJoins := by
  unfold Dev.answerJoins
  split
  · exact h
  · exact altersRing_trans h (altersRing_foldl _ e fun x p _ => joined_answerJoin (altersRing_refl x) hregs hcnt p.1 p.2)

theorem Dev.fld_answerJoins_coldto (d : Dev) : d.answerJoins.fld CFG_CNT2_COLDTO = d.fld CFG_CNT2_COLDTO := by
  unfold Dev.answerJoins
  split
  · rfl
  · exact foldl_keeps (·.fld CFG_CNT2_COLDTO) _ d fun x p _ => x.fld_answerJoin_coldto p.1 p.2

/-! A commit that has ended. -/

/-- The commit ended: nothing is built, and PHASE is 0. -/
def Dev.commitCleared (d : Dev) : Dev :=
  let d := d.setCom { d.com with
    staged := if d.com.checkOnly then d.com.staged else []
    built := [], armed := false, go := false, late := false, tiles := [], readyDue := [], ackDue := [] }
  (d.setPhase 0).setFlag CFG_STAT_MIXED false

/-- The registers that the end of a commit changes beside CFG_STAT. -/
def joinRegs : List Nat := [PWR_STAT, CFG_CNT2] ++ resetRegs

theorem resetRegs_joinRegs : resetRegs ⊆ joinRegs := List.subset_append_right _ _
theorem linkRegs_joinRegs : linkRegs ⊆ joinRegs := fun _ ha => resetRegs_joinRegs (List.mem_append_right _ ha)

theorem joined_commitDone (d : Dev) : Dev.Joined joinRegs d.commitCleared d.commitDone :=
  joined_answerJoins (joined_releaseHeld (altersRing_refl _) (by decide) linkRegs_joinRegs) resetRegs_joinRegs (by decide)

/-- A machine without its registers and its commit. -/
def Dev.offCommit (d : Dev) : Dev := { d with regs := [], com := {} }

/-- What the end of a commit shows. -/
structure Dev.CommitOver (d e : Dev) : Prop where
  phase : e.fld CFG_STAT_PHASE = 0
  mixed : e.flag CFG_STAT_MIXED = false
  com : e.com = d.commitCleared.com
  cfg : e.cfg = d.cfg
  cfgLen : e.cfgLen = d.cfgLen
  result : e.fld CFG_STAT_RESULT = d.fld CFG_STAT_RESULT
  coldto : e.fld CFG_CNT2_COLDTO = d.fld CFG_CNT2_COLDTO
  reg : ∀ a, a ∉ CFG_STAT :: joinRegs → a ∉ ringRegs → e.reg a = d.reg a

theorem commitDone_over (d : Dev) : d.CommitOver d.commitDone := by
  have hjoined := joined_commitDone d
  have hphase : d.commitCleared.fld CFG_STAT_PHASE = 0 :=
    (Dev.fld_setFlag_apart _ _ (by decide) (by decide)).trans (Dev.fld_setFld_same _ _ _ (by decide))
  have hmixed : d.commitCleared.flag CFG_STAT_MIXED = false := Dev.flag_setFlag_same _ _ _ (by decide) (by decide)
  have hresult : d.commitCleared.fld CFG_STAT_RESULT = d.fld CFG_STAT_RESULT :=
    (Dev.fld_setFlag_apart _ _ (by decide) (by decide)).trans (Dev.fld_setFld_apart _ _ (by decide) (by decide))
  have hcoldto : d.commitDone.fld CFG_CNT2_COLDTO = d.commitCleared.fld CFG_CNT2_COLDTO :=
    (Dev.fld_answerJoins_coldto _).trans ((joined_releaseHeld (as := PWR_STAT :: linkRegs) (altersRing_refl _) (by decide)
      (List.subset_cons_self _ _)).fld (by decide) (by decide))
  have hempty (c : Commit) : Dev.Alters Dev.offCommit [CFG_STAT] d (d.setCom c) := alters_of (alters_refl d) rfl rfl
  have hcleared : Dev.Alters Dev.offCommit [CFG_STAT] d d.commitCleared :=
    alters_setFlag (g := CFG_STAT_MIXED) (alters_setFld (g := CFG_STAT_PHASE) (hempty _) (by decide)) (by decide)
  exact
    { phase := (hjoined.fld (by decide) (by decide)).trans hphase
      mixed := (hjoined.flag (by decide) (by decide)).trans hmixed
      com := hjoined.keeps (·.com) fun _ => rfl
      cfg := (hjoined.keeps (·.cfg) fun _ => rfl).trans (hcleared.keeps (·.cfg) fun _ => rfl)
      cfgLen := (hjoined.keeps (·.cfgLen) fun _ => rfl).trans (hcleared.keeps (·.cfgLen) fun _ => rfl)
      result := (hjoined.fld (by decide) (by decide)).trans hresult
      coldto := hcoldto.trans (hcleared.fld (by decide))
      reg := fun a ha hr => (hjoined.reg a (fun h => ha (List.mem_cons_of_mem _ h)) hr).trans
        (hcleared.reg a fun h => ha (List.mem_cons.2 (Or.inl (List.mem_singleton.1 h)))) }

/-- A field beside CFG_STAT and the registers of the answers. -/
theorem Dev.CommitOver.fld (h : d.CommitOver e) {g : Fld} (ha : g.addr ∉ CFG_STAT :: joinRegs) (hr : g.addr ∉ ringRegs) :
    e.fld g = d.fld g := by
  rw [Dev.fld, h.reg _ ha hr, ← Dev.fld]

end Sys2Proof.Machine
end

section
/-!
SUPPORT. Commits of the configuration on one tile (R502 to R515, R526 to R531), O33 and O34.
-/

namespace Sys2Proof.Machine

variable {d e : Dev} {s : State}

/-! A write of CFG_CMD. -/

/-- What an operation of CFG_CMD does in phase 0. -/
def Dev.cfgOperation (d : Dev) : Nat → Dev
  | 1 => if d.mode = modeIdle ∨ d.mode = modeActive then d.beginChecks false else (d.noteCommit 5).bump CFG_CNT_ABORTED
  | 2 => d.beginChecks true
  | 3 => d.setFld CFG_NSTG_N 0
  | _ => d

theorem wGet_cfgCmd (key : Byte) {op : Nat} (h : op < 16) :
    wGet (pack [(key.toNat, 16), (op, 0)]) 16 8 = key.toNat ∧ wGet (pack [(key.toNat, 16), (op, 0)]) 0 4 = op :=
  ⟨wGet_pack_key _ _ key.isLt (by omega), wGet_pack_low _ _ 4 h (by decide)⟩

theorem Dev.writeCfgCmd_unkeyed {key : Byte} {op : Nat} (hop : op < 16) (h : key.toNat ≠ 0xC5) :
    d.writeCfgCmd (pack [(key.toNat, 16), (op, 0)]) = d.ignoreWrite :=
  if_pos (by rw [(wGet_cfgCmd key hop).1]; exact h)

theorem Dev.writeCfgCmd_cancels (hworker : d.isWorker = false) :
    d.writeCfgCmd (pack [((0xC5 : Byte).toNat, 16), (4, 0)]) = d.cancelCommit := by
  obtain ⟨hkey, hop⟩ := wGet_cfgCmd 0xC5 (show 4 < 16 by decide)
  unfold Dev.writeCfgCmd
  dsimp only
  rw [hkey, hop, if_neg (by decide), if_neg (by simp [hworker]), if_pos rfl]

theorem Dev.writeCfgCmd_idle {op : Nat} (hlt : op < 4) (hworker : d.isWorker = false) (hphase : d.fld CFG_STAT_PHASE = 0) :
    d.writeCfgCmd (pack [((0xC5 : Byte).toNat, 16), (op, 0)]) = d.cfgOperation op := by
  obtain ⟨hkey, hop⟩ := wGet_cfgCmd 0xC5 (show op < 16 by omega)
  unfold Dev.writeCfgCmd
  dsimp only
  rw [hkey, hop, if_neg (by decide), if_neg (by simp [hworker]), if_neg (by omega), if_neg (by simp [hphase])]
  rfl

theorem leaves_setCom {as : List Nat} (h : d.leaves e as) {c : Commit} : d.leaves (e.setCom c) as := leaves_of h rfl rfl rfl rfl

theorem beginChecks_begins (d : Dev) (checkOnly : Bool) :
    (d.beginChecks checkOnly).fld CFG_STAT_PHASE = 1 ∧ (d.beginChecks checkOnly).fld CFG_STAT_RESULT = 0 ∧
      (d.beginChecks checkOnly).com.staged = d.stage ∧ (d.beginChecks checkOnly).com.checkOnly = checkOnly ∧
      d.leaves (d.beginChecks checkOnly) [CFG_STAT] :=
  ⟨Dev.fld_setFld_same _ _ _ (by decide),
    (Dev.fld_setFld_apart _ _ (by decide) (by decide)).trans (Dev.fld_setFld_same _ _ _ (by decide)), rfl, rfl,
    leaves_setFld (leaves_setFld (leaves_setCom (d.leaves_refl _)) (by decide)) (by decide)⟩

/-! Commits that end. -/

/-- A commit refused or failed: its result shown, and counted. -/
def Dev.commitFailed (d : Dev) (result : Nat) : Dev := (d.noteCommit result).bump CFG_CNT_ABORTED

theorem commitFailed_counts (d : Dev) {result : Nat} (h : result < 16) :
    (d.commitFailed result).fld CFG_STAT_RESULT = result ∧
      (d.commitFailed result).fld CFG_STAT_PHASE = d.fld CFG_STAT_PHASE ∧
      (d.commitFailed result).fld CFG_CNT_ABORTED =
        min (d.fld CFG_CNT_ABORTED + 1) (2 ^ CFG_CNT_ABORTED.width - 1) ∧
      d.leaves (d.commitFailed result) [CFG_STAT, CFG_CNT] := by
  refine ⟨?_, ?_, (Dev.fld_bump_same _ _ (by decide)).trans ?_, ?_⟩
  · exact (Dev.fld_bump_apart _ (by decide) (by decide)).trans ((Dev.fld_setFld_same _ _ _ (by decide)).trans (Nat.mod_eq_of_lt h))
  · exact (Dev.fld_bump_apart _ (by decide) (by decide)).trans (Dev.fld_setFld_apart _ _ (by decide) (by decide))
  · have hkept : (d.noteCommit result).fld CFG_CNT_ABORTED = d.fld CFG_CNT_ABORTED :=
      Dev.fld_setFld_apart _ _ (by decide) (by decide)
    rw [hkept]
  · exact leaves_bump (leaves_setCom (leaves_setFld (d.leaves_refl _) (by decide))) (by decide)

/-- What the end of a failed commit shows. -/
structure Dev.CommitFails (d e : Dev) (result : Nat) : Prop where
  phase : e.fld CFG_STAT_PHASE = 0
  result : e.fld CFG_STAT_RESULT = result
  aborted : e.fld CFG_CNT_ABORTED = min (d.fld CFG_CNT_ABORTED + 1) (2 ^ CFG_CNT_ABORTED.width - 1)
  armed : e.com.armed = false
  built : e.com.built = []
  reg : ∀ a, a ∉ [CFG_STAT, CFG_CNT] ++ joinRegs → a ∉ ringRegs → e.reg a = d.reg a

theorem commitFails_fails (d : Dev) {result : Nat} (h : result < 16) : d.CommitFails (d.commitFails result) result := by
  obtain ⟨hresult, -, habort, hleft⟩ := commitFailed_counts d h
  obtain ⟨hregs, -⟩ := hleft
  have hover : (d.commitFailed result).CommitOver (d.commitFails result) := commitDone_over _
  exact
    { phase := hover.phase
      result := hover.result.trans hresult
      aborted := (hover.fld (by decide) (by decide)).trans habort
      armed := congrArg Commit.armed hover.com
      built := congrArg Commit.built hover.com
      reg := fun a ha hr => by
        simp only [List.mem_append, List.mem_cons, List.not_mem_nil, or_false, not_or] at ha
        obtain ⟨⟨hstat, hcnt⟩, hjoin⟩ := ha
        exact (hover.reg a (by simp [hstat, hjoin]) hr).trans (hregs a (by simp [hstat, hcnt])) }

/-! The end of the checks (R505 to R507, R513). -/

theorem Dev.noteJudged_shows (d : Dev) (j : Machine.Judged) :
    (d.noteJudged j).reg CFG_ERR = pack [(min j.clamps 255, 16), (j.reason, 8), (j.index % 256, 0)] :=
  (Dev.reg_setReg ..).trans (if_pos rfl)

theorem Judged.result_lt (j : Machine.Judged) : j.result < 16 := by
  unfold Judged.result
  split
  · decide
  · split <;> decide

/-- A CHECK whose checks have ended: findings and result shown. -/
def Dev.checked (d : Dev) (j : Machine.Judged) : Dev :=
  let d := (d.noteJudged j).setFld CFG_STAT_RESULT j.result
  d.setCom { d.com with checkOnly := false, staged := [] }

theorem Dev.checkEnd_check (hphase : d.fld CFG_STAT_PHASE = 1) (hcheck : d.com.checkOnly = true) :
    d.checkEnd = (d.checked (d.judgeSet d.com.staged false)).commitDone := by
  have hkept : (d.checked (d.judgeSet d.com.staged false)).fld CFG_STAT_PHASE = 1 :=
    (Dev.fld_setFld_apart (d.noteJudged _) _ (by decide) (by decide)).trans
      ((Dev.fld_setReg_ne d _ (by decide)).trans hphase)
  unfold Dev.checkEnd Dev.checkOnlyEnd
  rw [if_pos hcheck]
  exact if_pos hkept

theorem checkEnd_check_over (hphase : d.fld CFG_STAT_PHASE = 1) (hcheck : d.com.checkOnly = true) {j : Machine.Judged}
    (hj : j = d.judgeSet d.com.staged false) :
    d.checkEnd.reg CFG_ERR = pack [(min j.clamps 255, 16), (j.reason, 8), (j.index % 256, 0)] ∧
      d.checkEnd.fld CFG_STAT_PHASE = 0 ∧ d.checkEnd.fld CFG_STAT_RESULT = j.result ∧ d.checkEnd.cfg = d.cfg ∧
      d.checkEnd.cfgLen = d.cfgLen ∧
      ∀ g : Fld, g.addr ∉ [CFG_STAT, CFG_ERR] ++ joinRegs → g.addr ∉ ringRegs → d.checkEnd.fld g = d.fld g := by
  have hover := commitDone_over (d.checked j)
  rw [Dev.checkEnd_check hphase hcheck, ← hj]
  refine ⟨(hover.reg _ (by decide) (by decide)).trans ?_, hover.phase, hover.result.trans ?_, hover.cfg, hover.cfgLen,
    fun g ha hr => ?_⟩
  · exact (Dev.reg_setFld_ne (d.noteJudged j) _ _ (by decide)).trans (d.noteJudged_shows j)
  · exact (Dev.fld_setFld_same (d.noteJudged j) _ _ (by decide)).trans (Nat.mod_eq_of_lt j.result_lt)
  · simp only [List.mem_append, List.mem_cons, List.not_mem_nil, or_false, not_or] at ha
    obtain ⟨⟨hstat, herr⟩, hjoin⟩ := ha
    have hchecked : Dev.Alters Dev.offCommit [CFG_ERR, CFG_STAT] d (d.checked j) :=
      alters_of (alters_setFld (e := d.noteJudged j) (g := CFG_STAT_RESULT) (v := j.result)
        (alters_setReg (alters_refl d) (by decide)) (by decide)) rfl rfl
    exact (hover.fld (by simp [hstat, hjoin]) hr).trans (hchecked.fld (by simp [hstat, herr]))

/-- A surface of more than one tile is judged by the role and the configuration. -/
theorem Dev.onSurface_leaves {as : List Nat} (h : d.leaves e as) (hrole : SYS_STRAP ∉ as) : e.onSurface = d.onSurface := by
  obtain ⟨hregs, -, -, hcfg⟩ := h
  have hstrap : e.role = d.role := by
    rw [Dev.role, Dev.fld, hregs _ hrole]
    rfl
  unfold Dev.onSurface Dev.gridCols Dev.gridRows
  rw [hstrap, hcfg]

/-- A commit that passes on a standalone tile: built for the next frame. -/
def Dev.armedAlone (d : Dev) (j : Machine.Judged) : Dev :=
  let f := (d.time.frame + 1) % 16777216
  let d := d.setCom { d.com with
    built := j.pairs, epoch := (d.fld CFG_EPOCH_N + 1) % 16777216, apply := f, armed := true, tiles := [],
      readyDue := [], ackDue := [] }
  ((d.setFld CFG_STAT_CLASS j.cls).setFld CFG_APPLY_F f).setPhase 3

theorem Dev.arm_alone (j : Machine.Judged) (h : d.onSurface = false) : d.arm j = d.armedAlone j := by
  unfold Dev.arm
  extract_lets lead f tiles pairs _ x y
  have hlead : lead = 1 := if_neg (by simp [h])
  have htiles : tiles = [] := if_neg (by simp [h])
  have hy : y.onSurface = false := by
    have hleft : d.leaves y [CFG_STAT, CFG_APPLY] :=
      leaves_setFld (leaves_setFld (leaves_setCom (d.leaves_refl _)) (by decide)) (by decide)
    exact (Dev.onSurface_leaves hleft (by decide)).trans h
  rw [if_neg (by simp [hy])]
  unfold y x f
  rw [hlead, htiles]
  rfl

theorem Dev.armedAlone_shows (d : Dev) (j : Machine.Judged) :
    (d.armedAlone j).fld CFG_STAT_PHASE = 3 ∧ (d.armedAlone j).fld CFG_STAT_CLASS = j.cls % 4 ∧
      (d.armedAlone j).fld CFG_APPLY_F = (d.time.frame + 1) % 16777216 ∧
      (d.armedAlone j).com.built = j.pairs ∧ (d.armedAlone j).com.armed = true ∧
      (d.armedAlone j).com.apply = (d.time.frame + 1) % 16777216 ∧
      (d.armedAlone j).com.epoch = (d.fld CFG_EPOCH_N + 1) % 16777216 ∧ d.leaves (d.armedAlone j) [CFG_STAT, CFG_APPLY] := by
  refine ⟨Dev.fld_setFld_same _ _ _ (by decide), ?_, ?_, rfl, rfl, rfl, rfl, ?_⟩
  · exact (Dev.fld_setFld_apart _ _ (by decide) (by decide)).trans ((Dev.fld_setFld_apart _ _ (by decide) (by decide)).trans
      (Dev.fld_setFld_same _ _ _ (by decide)))
  · refine (Dev.fld_setFld_apart _ _ (by decide) (by decide)).trans ((Dev.fld_setFld_same _ _ _ (by decide)).trans ?_)
    exact Nat.mod_eq_of_lt (Nat.mod_lt _ (by decide))
  · exact leaves_setFld (leaves_setFld (leaves_setFld (leaves_setCom (d.leaves_refl _)) (by decide)) (by decide)) (by decide)

theorem Dev.checkEnd_commit {j : Machine.Judged} (hphase : d.fld CFG_STAT_PHASE = 1) (hcommit : d.com.checkOnly = false)
    (hj : j = d.judgeSet d.com.staged true) :
    d.checkEnd = if j.reason ≠ 0 then (d.noteJudged j).commitFails j.result else (d.noteJudged j).arm j := by
  unfold Dev.checkEnd
  rw [if_neg (by simp [hcommit]), if_neg (by simp [hphase]), ← hj]

/-! The cold apply's time-out (R512). -/

/-- The calibration of a cold apply goes on in slices, and its time-out is counted. -/
def Dev.coldStopped (d : Dev) : Dev := (d.setFld CAL_STAT_STATE calSliced).bump CFG_CNT2_COLDTO

theorem Dev.coldStopped_counts (d : Dev) : d.coldStopped.fld CAL_STAT_STATE = calSliced ∧
    d.coldStopped.fld CFG_CNT2_COLDTO = min (d.fld CFG_CNT2_COLDTO + 1) (2 ^ CFG_CNT2_COLDTO.width - 1) ∧
    d.coldStopped.com = d.com := by
  refine ⟨(Dev.fld_bump_apart _ (by decide) (by decide)).trans (Dev.fld_setFld_same _ _ _ (by decide)),
    (Dev.fld_bump_same _ _ (by decide)).trans ?_, rfl⟩
  rw [Dev.fld_setFld_apart _ _ (by decide) (by decide)]

/-- The cold apply over, with nothing armed. -/
def Dev.coldOver (d : Dev) : Dev :=
  let d := d.setCom { d.com with cold := false }
  d.setCom { d.com with armed := false }

theorem Dev.coldDone_eq (h : d.com.cold = true) :
    d.coldDone = if d.coldOver.lateTiles.isEmpty then d.coldOver.commitDone else d.coldOver.setPhase 5 := if_pos h


theorem coldCalibrationTimeout_ends (hcold : s.dev.com.cold = true) (hack : s.dev.com.ackDue = []) :
    Completes .coldCalibrationTimeout s fun t => t.com.cold = false ∧
      t.fld CFG_STAT_PHASE = 0 ∧ t.fld CAL_STAT_STATE = calSliced ∧
      t.fld CFG_CNT2_COLDTO = min (s.dev.fld CFG_CNT2_COLDTO + 1) (2 ^ CFG_CNT2_COLDTO.width - 1) := by
  refine completes_of (f := fun d => if d.com.cold then d.coldStopped.coldDone else d) rfl ?_
  rw [if_pos hcold]
  obtain ⟨hstate, hcount, hcom⟩ := s.dev.coldStopped_counts
  generalize s.dev.coldStopped = x at *
  have hnone : x.coldOver.lateTiles = [] := by
    have hnoacks : x.coldOver.com.ackDue = [] := (congrArg Commit.ackDue hcom).trans hack
    rw [Dev.lateTiles, hnoacks]
    rfl
  have hover : x.coldOver.CommitOver x.coldDone := by
    have hdone : x.coldDone = x.coldOver.commitDone := by
      rw [Dev.coldDone_eq ((congrArg Commit.cold hcom).trans hcold), hnone]
      exact if_pos rfl
    exact hdone ▸ commitDone_over _
  exact ⟨congrArg Commit.cold hover.com, hover.phase, (hover.fld (by decide) (by decide)).trans hstate, hover.coldto.trans hcount⟩

/-! The commands. -/

theorem cfgKey_ignored (key : Byte) (c : Instr) (hkey : key.toNat ≠ 0xC5) (hc : c = .cfgCommit key ∨ c = .cfgCheck key ∨
    c = .cfgClear key ∨ c = .cfgCancel key) : Completes c s fun t => t.com = s.dev.com ∧
      t.fld SYS_WRIGN_COUNT = min (s.dev.fld SYS_WRIGN_COUNT + 1) (2 ^ SYS_WRIGN_COUNT.width - 1) ∧
      s.dev.leaves t [SYS_WRIGN] := by
  have hignored (op : Nat) (hop : op < 16) : (s.dev.writeCfgCmd (pack [(key.toNat, 16), (op, 0)])).com = s.dev.com ∧
      (s.dev.writeCfgCmd (pack [(key.toNat, 16), (op, 0)])).fld SYS_WRIGN_COUNT =
        min (s.dev.fld SYS_WRIGN_COUNT + 1) (2 ^ SYS_WRIGN_COUNT.width - 1) ∧
      s.dev.leaves (s.dev.writeCfgCmd (pack [(key.toNat, 16), (op, 0)])) [SYS_WRIGN] := by
    rw [Dev.writeCfgCmd_unkeyed hop hkey]
    exact ⟨rfl, Dev.fld_ignoreWrite _, Dev.leaves_ignoreWrite _⟩
  obtain rfl | rfl | rfl | rfl := hc
  · exact completes_of (f := fun d => d.writeCfgCmd (pack [(key.toNat, 16), (1, 0)])) rfl (hignored 1 (by decide))
  · exact completes_of (f := fun d => d.writeCfgCmd (pack [(key.toNat, 16), (2, 0)])) rfl (hignored 2 (by decide))
  · exact completes_of (f := fun d => d.writeCfgCmd (pack [(key.toNat, 16), (3, 0)])) rfl (hignored 3 (by decide))
  · exact completes_of (f := fun d => d.writeCfgCmd (pack [(key.toNat, 16), (4, 0)])) rfl (hignored 4 (by decide))

section

variable (hworker : s.dev.isWorker = false) (hphase : s.dev.fld CFG_STAT_PHASE = 0)
include hworker hphase

theorem cfgCommit_begins (hmode : s.dev.mode = modeIdle ∨ s.dev.mode = modeActive) :
    Completes (.cfgCommit 0xC5) s fun t => t = s.dev.beginChecks false :=
  completes_of (f := fun d => d.writeCfgCmd (pack [((0xC5 : Byte).toNat, 16), (1, 0)])) rfl
    ((Dev.writeCfgCmd_idle (by decide) hworker hphase).trans (if_pos hmode))

theorem cfgCommit_barred (hidle : s.dev.mode ≠ modeIdle) (hactive : s.dev.mode ≠ modeActive) :
    Completes (.cfgCommit 0xC5) s fun t => t = s.dev.commitFailed 5 :=
  completes_of (f := fun d => d.writeCfgCmd (pack [((0xC5 : Byte).toNat, 16), (1, 0)])) rfl
    ((Dev.writeCfgCmd_idle (by decide) hworker hphase).trans (if_neg (by simp [hidle, hactive])))

theorem cfgCheck_begins : Completes (.cfgCheck 0xC5) s fun t => t = s.dev.beginChecks true :=
  completes_of (f := fun d => d.writeCfgCmd (pack [((0xC5 : Byte).toNat, 16), (2, 0)])) rfl
    (Dev.writeCfgCmd_idle (by decide) hworker hphase)

theorem cfgClear_empties : Completes (.cfgClear 0xC5) s fun t => t = s.dev.setFld CFG_NSTG_N 0 :=
  completes_of (f := fun d => d.writeCfgCmd (pack [((0xC5 : Byte).toNat, 16), (3, 0)])) rfl
    (Dev.writeCfgCmd_idle (by decide) hworker hphase)

end

section

variable (hworker : s.dev.isWorker = false) (hcommit : s.dev.com.checkOnly = false)
include hworker hcommit

theorem cfgCancel_ends (hphase : s.dev.fld CFG_STAT_PHASE = 1) :
    Completes (.cfgCancel 0xC5) s fun t => s.dev.CommitFails t 7 := by
  refine completes_of (f := fun d => d.writeCfgCmd (pack [((0xC5 : Byte).toNat, 16), (4, 0)])) rfl ?_
  have hcancel : s.dev.cancelCommit = s.dev.commitFails 7 := by simp [Dev.cancelCommit, hcommit, hphase]
  rw [Dev.writeCfgCmd_cancels hworker, hcancel]
  exact commitFails_fails s.dev (by decide)

theorem cfgCancel_ignored (hphase : s.dev.fld CFG_STAT_PHASE = 4) :
    Completes (.cfgCancel 0xC5) s fun t => t = s.dev.ignoreWrite := by
  refine completes_of (f := fun d => d.writeCfgCmd (pack [((0xC5 : Byte).toNat, 16), (4, 0)])) rfl ?_
  rw [Dev.writeCfgCmd_cancels hworker]
  simp [Dev.cancelCommit, hcommit, hphase]

end

/-- The checks of a CHECK end. -/
theorem cfgCheckEnd_check (hphase : s.dev.fld CFG_STAT_PHASE = 1) (hcheck : s.dev.com.checkOnly = true) {j : Judged}
    (hj : j = s.dev.judgeSet s.dev.com.staged false) : Completes .cfgCheckEnd s fun t =>
      t.reg CFG_ERR = pack [(min j.clamps 255, 16), (j.reason, 8), (j.index % 256, 0)] ∧ t.fld CFG_STAT_PHASE = 0 ∧
        t.fld CFG_STAT_RESULT = j.result ∧ t.cfg = s.dev.cfg ∧ t.cfgLen = s.dev.cfgLen ∧
        ∀ g : Fld, g.addr ∉ [CFG_STAT, CFG_ERR] ++ joinRegs → g.addr ∉ ringRegs → t.fld g = s.dev.fld g :=
  completes_of (f := Dev.checkEnd) rfl (checkEnd_check_over hphase hcheck hj)

section

variable (hphase : s.dev.fld CFG_STAT_PHASE = 1) (hcommit : s.dev.com.checkOnly = false) {j : Judged}
  (hj : j = s.dev.judgeSet s.dev.com.staged true)
include hphase hcommit hj

/-- The checks of a commit end, and it fails. -/
theorem cfgCheckEnd_fails (hreason : j.reason ≠ 0) : Completes .cfgCheckEnd s fun t =>
    t.reg CFG_ERR = pack [(min j.clamps 255, 16), (j.reason, 8), (j.index % 256, 0)] ∧
      (s.dev.noteJudged j).CommitFails t j.result := by
  refine completes_of (f := Dev.checkEnd) rfl ?_
  rw [Dev.checkEnd_commit hphase hcommit hj, if_pos hreason]
  have hfails := commitFails_fails (s.dev.noteJudged j) j.result_lt
  exact ⟨(hfails.reg _ (by decide) (by decide)).trans (s.dev.noteJudged_shows j), hfails⟩

/-- The checks of a commit end, and it passes. -/
theorem cfgCheckEnd_arms (hreason : j.reason = 0) : Completes .cfgCheckEnd s fun t => t = (s.dev.noteJudged j).arm j := by
  refine completes_of (f := Dev.checkEnd) rfl ?_
  rw [Dev.checkEnd_commit hphase hcommit hj, if_neg (by simp [hreason])]

end

/-- Settles O33: the writes of CFG_CMD, the end of the checks, and the time-out of a cold apply's calibration. -/
theorem commitsOnOneTile : Obligations.CommitsOnOneTile := by
  intro s
  refine ⟨cfgKey_ignored, fun hworker hphase => ⟨fun hmode => (cfgCommit_begins hworker hphase hmode).mono fun t ht =>
      ht ▸ beginChecks_begins s.dev false, fun hidle hactive => (cfgCommit_barred hworker hphase hidle hactive).mono fun t ht => ?_,
    (cfgCheck_begins hworker hphase).mono fun t ht => ht ▸ beginChecks_begins s.dev true,
    (cfgClear_empties hworker hphase).mono fun t ht => ?_⟩, fun hworker hcommit => ⟨fun hphase =>
      (cfgCancel_ends hworker hcommit hphase).mono fun t ht => ⟨ht.phase, ht.result, ht.armed, ht.built, ht.aborted⟩,
    fun hphase => (cfgCancel_ignored hworker hcommit hphase).mono fun t ht => ?_⟩,
    fun hphase => ⟨fun hcheck j hj => (cfgCheckEnd_check hphase hcheck hj).mono fun t ht => ?_, fun hcommit j hj =>
    ⟨fun hreason => (cfgCheckEnd_fails hphase hcommit hj hreason).mono fun t ht => ?_, fun hreason halone =>
      (cfgCheckEnd_arms hphase hcommit hj hreason).mono fun t ht => ?_⟩⟩, coldCalibrationTimeout_ends⟩
  · obtain ⟨hresult, hkept, habort, hleft⟩ := commitFailed_counts s.dev (show 5 < 16 by decide)
    exact ht ▸ ⟨hkept.trans hphase, hresult, habort, hleft⟩
  · exact ht ▸ ⟨Dev.fld_setFld_same _ _ _ (by decide), rfl, leaves_setFld (s.dev.leaves_refl _) (by decide)⟩
  · exact ht ▸ ⟨rfl, Dev.fld_ignoreWrite _, Dev.leaves_ignoreWrite _⟩
  · obtain ⟨herr, hzero, hresult, -, -, hkept⟩ := ht
    exact ⟨herr, hzero, hresult, hkept _ (by decide) (by decide)⟩
  · obtain ⟨herr, hfails⟩ := ht
    have hcount : (s.dev.noteJudged j).fld CFG_CNT_ABORTED = s.dev.fld CFG_CNT_ABORTED := Dev.fld_setReg_ne _ _ (by decide)
    exact ⟨herr, hfails.phase, hfails.result.trans (if_neg hreason), hfails.aborted.trans (by rw [hcount])⟩
  · obtain ⟨hphase, hcls, hframe, hbuilt, harmed, happly, hepoch, hleft⟩ := (s.dev.noteJudged j).armedAlone_shows j
    have hnumber : (s.dev.noteJudged j).fld CFG_EPOCH_N = s.dev.fld CFG_EPOCH_N := Dev.fld_setReg_ne _ _ (by decide)
    have hjudged : s.dev.leaves (s.dev.noteJudged j) [CFG_ERR] := leaves_setReg (s.dev.leaves_refl _) (by decide)
    rw [ht, Dev.arm_alone j ((Dev.onSurface_leaves hjudged (by decide)).trans halone)]
    refine ⟨hphase, hcls, hframe, hbuilt, harmed, happly, hepoch.trans (by rw [hnumber]), ?_⟩
    exact leaves_trans (leaves_mono hjudged (by decide)) (leaves_mono hleft (by decide))

/-- Settles O34: a CHECK begins and ends with its findings, and the applied configuration stands. -/
theorem checkAppliesNothing : Obligations.CheckAppliesNothing := by
  intro s
  refine ⟨fun hworker hphase => (cfgCheck_begins hworker hphase).mono fun t ht => ?_,
    fun hphase hcheck j hj => (cfgCheckEnd_check hphase hcheck hj).mono fun t ht => ?_⟩
  · obtain ⟨hbegun, -, hstaged, honly, hleft⟩ := beginChecks_begins s.dev true
    exact ht ▸ ⟨hbegun, hstaged, honly, hleft⟩
  · obtain ⟨herr, hzero, hresult, hcfg, hlen, hkept⟩ := ht
    exact ⟨herr, hzero, hresult, hcfg, hlen, hkept _ (by decide) (by decide)⟩

end Sys2Proof.Machine
end

section
/-!
SUPPORT. Commits across a surface (R516 to R522, R530), and O35.
-/

namespace Sys2Proof.Machine

variable {d e : Dev} {s : State}

/-! The worker's side (R517, R519, R520). -/

/-- A PREPARE whose parts are all here. -/
def Dev.incoming (d : Dev) (ps : List (Nat × Word)) : Dev := { d with com := { d.com with incoming := ps } }

theorem Dev.prepareMsg_whole {words : List Word} (hworker : d.isWorker = true) (hjoined : d.flag EGL_TILE_JOINED = true)
    (hfirst : wGet (words.getD 2 0) 8 8 = 0) (hone : wGet (words.getD 2 0) 0 8 ≤ 1) : d.prepareMsg words =
      (d.incoming (wordPairs (words.drop 3))).prepared (words.getD 0 0).toNat (words.getD 1 0).toNat := by
  unfold Dev.prepareMsg
  extract_lets w3 old _ x
  have hold : old = [] := if_pos hfirst
  have hx : x = d.incoming (wordPairs (words.drop 3)) := by
    unfold x
    rw [hold]
    rfl
  have hlast : ¬ wGet w3 8 8 + 1 < wGet w3 0 8 := by
    rw [show wGet w3 8 8 = 0 from hfirst]
    exact Nat.not_lt.2 hone
  rw [if_neg (by simp [hworker, hjoined]), if_neg hlast, hx]

theorem Dev.prepareMsg_part {words : List Word} (hworker : d.isWorker = true) (hjoined : d.flag EGL_TILE_JOINED = true)
    (hfirst : wGet (words.getD 2 0) 8 8 = 0) (hmore : 1 < wGet (words.getD 2 0) 0 8) :
    (d.prepareMsg words).com.incoming = wordPairs (words.drop 3) := by
  unfold Dev.prepareMsg
  extract_lets w3 old _ x
  have hold : old = [] := if_pos hfirst
  have hmore' : wGet w3 8 8 + 1 < wGet w3 0 8 := by
    rw [show wGet w3 8 8 = 0 from hfirst]
    exact hmore
  rw [if_neg (by simp [hworker, hjoined]), if_pos hmore']
  show old ++ _ = _
  rw [hold]
  rfl

/-- The commit that a worker holds after a PREPARE, before it answers. -/
def Dev.holdsCommit (d : Dev) (j : Machine.Judged) (n f : Nat) : Dev :=
  let d := d.noteJudged j
  let d := d.setCom { d.com with
    built := j.pairs, epoch := n, apply := f, armed := true, go := false, late := false,
    incoming := [] }
  (((d.setFld CFG_STAT_CLASS j.cls).setFld CFG_APPLY_F f).setFld CFG_STAT_RESULT 0).setPhase 2

theorem Dev.prepared_holds {n f : Nat} {ps : List (Nat × Word)} {j : Machine.Judged}
    (h : (d.incoming ps).prepareJudge n f ps = (0, j)) :
    (d.incoming ps).prepared n f = (((d.incoming ps).holdsCommit j n f).send msgReady 0 [word n]).issueOps := by
  have hjudge : (d.incoming ps).prepareJudge n f (d.incoming ps).com.incoming = (0, j) := h
  unfold Dev.prepared
  rw [hjudge]
  rfl

theorem Dev.prepared_refuses {n f reason : Nat} {ps : List (Nat × Word)} {j : Machine.Judged}
    (h : (d.incoming ps).prepareJudge n f ps = (reason, j)) (hreason : reason ≠ 0) :
    d.hands ((d.incoming ps).prepared n f) msgRefuse 0 [word n, word reason] := by
  have hjudge : (d.incoming ps).prepareJudge n f (d.incoming ps).com.incoming = (reason, j) := h
  refine ⟨_, ?_, by unfold Dev.prepared; rw [hjudge]; exact if_neg hreason⟩
  rfl

theorem Dev.holdsCommit_shows (d : Dev) (j : Machine.Judged) (n : Nat) {f : Nat} (hf : f < 2 ^ 24) :
    (d.holdsCommit j n f).fld CFG_STAT_PHASE = 2 ∧ (d.holdsCommit j n f).fld CFG_APPLY_F = f ∧
      d.leaves (d.holdsCommit j n f) [CFG_ERR, CFG_STAT, CFG_APPLY] := by
  refine ⟨Dev.fld_setFld_same _ _ _ (by decide), ?_, ?_⟩
  · exact (Dev.fld_setFld_apart _ _ (by decide) (by decide)).trans ((Dev.fld_setFld_apart _ _ (by decide) (by decide)).trans
      ((Dev.fld_setFld_same _ _ _ (by decide)).trans (Nat.mod_eq_of_lt hf)))
  · have hjudged : d.leaves (d.noteJudged j) [CFG_ERR, CFG_STAT, CFG_APPLY] := leaves_setReg (d.leaves_refl _) (by decide)
    exact leaves_setFld (leaves_setFld (leaves_setFld (leaves_setFld (leaves_setCom hjudged) (by decide)) (by decide))
      (by decide)) (by decide)

/-- A GO for the commit that a worker holds: it is due. -/
def Dev.goHeld (d : Dev) (inTime : Bool) : Dev := (d.setCom { d.com with go := true, late := !inTime }).setPhase 3

/-- A GO comes in time before F, while the cores run. -/
def Dev.goInTime (d : Dev) : Bool := decide (frameDiff d.com.apply d.time.frame < 0) && !d.pwr.coreRestart

theorem Dev.goMsg_held {words : List Word} (hworker : d.isWorker = true) (harmed : d.com.armed = true)
    (hepoch : d.com.epoch = (words.getD 0 0).toNat) : d.goMsg words =
      if d.goInTime then ((d.goHeld d.goInTime).send msgGoAck 0 [word (words.getD 0 0).toNat]).issueOps
      else d.goHeld d.goInTime := by
  unfold Dev.goMsg
  extract_lets n inTime _ x
  rw [if_neg (by simp [hworker]), if_pos ⟨harmed, hepoch⟩]
  rfl

theorem Dev.goHeld_shows (d : Dev) (inTime : Bool) :
    (d.goHeld inTime).fld CFG_STAT_PHASE = 3 ∧ d.leaves (d.goHeld inTime) [CFG_STAT] :=
  ⟨Dev.fld_setFld_same _ _ _ (by decide), leaves_setFld (leaves_setCom (d.leaves_refl _)) (by decide)⟩

theorem Dev.abortMsg_held {words : List Word} (hworker : d.isWorker = true) (harmed : d.com.armed = true)
    (hepoch : d.com.epoch = (words.getD 0 0).toNat) : d.abortMsg words = d.commitDone :=
  if_pos (by simp [hworker, harmed, hepoch])

/-! The manager's side (R518 to R522). -/

/-- GO goes out or not; either way the tiles that still owe READY and the registers beside those of the traffic stay. -/
theorem sendGo_keeps (d : Dev) : d.sendGo.com.readyDue = d.com.readyDue ∧
    ∀ a, a ∉ [CFG_STAT, PWR_STAT] ++ linkRegs → a ∉ ringRegs → d.sendGo.reg a = d.reg a := by
  unfold Dev.sendGo
  split
  · extract_lets _ x
    have hsent : Dev.Joined linkRegs d (d.com.tiles.foldl (fun d t => d.send msgGo t [word d.com.epoch]) d) :=
      altersRing_foldl _ d fun y t _ => joined_send (altersRing_refl y)
    have hx : Dev.Joined linkRegs x x.issueOps := joined_issueOps (altersRing_refl x) (List.Subset.refl _)
    have hend : Dev.Joined ([CFG_STAT, PWR_STAT] ++ linkRegs) x (x.issueOps.setPhase 3).releaseHeld :=
      joined_releaseHeld (altersRing_setFld (altersRing_mono hx (List.subset_append_right _ _)) (by decide)) (by decide)
        (List.subset_append_right _ _)
    have hdue : x.com.readyDue = d.com.readyDue := rfl
    refine ⟨(hend.keeps (·.com.readyDue) fun _ => rfl).trans hdue, fun a ha hr => (hend.reg a ha hr).trans ?_⟩
    exact hsent.reg a (fun h => ha (List.mem_append_right _ h)) hr
  · exact ⟨rfl, fun _ _ _ => rfl⟩

theorem Dev.sendGo_waits (h : d.com.readyDue ≠ []) : d.sendGo = d := by
  unfold Dev.sendGo
  exact if_neg (by simp [h])

/-- A tile's READY counted. -/
def Dev.readyTaken (d : Dev) (xy : Nat) : Dev :=
  ((d.noteTile xy).setCom { d.com with readyDue := d.com.readyDue.filter (· != xy) }).bump CFG_TILES_READY

section

variable {xy : Nat} {words : List Word} (hmanager : d.isManager = true) (hlost : (d.tile xy).state ≠ tileLost)
include hmanager hlost

theorem Dev.readyMsg_taken (hphase : d.fld CFG_STAT_PHASE = 2) (hepoch : (words.getD 0 0).toNat = d.com.epoch)
    (hdue : xy ∈ d.com.readyDue) : d.readyMsg xy words = (d.readyTaken xy).sendGo := by
  have hwaits : (d.noteTile xy).fld CFG_STAT_PHASE = 2 ∧ (words.getD 0 0).toNat = (d.noteTile xy).com.epoch ∧
      (d.noteTile xy).com.readyDue.contains xy = true := ⟨hphase, hepoch, List.contains_iff_mem.2 hdue⟩
  rw [Dev.readyMsg, Dev.fromLost_kept hmanager hlost]
  exact if_pos hwaits

theorem Dev.refuseMsg_aborts (hphase : d.fld CFG_STAT_PHASE = 2) (hepoch : (words.getD 0 0).toNat = d.com.epoch) :
    d.refuseMsg xy words = (d.noteTile xy).abortCommit 3 xy (wGet (words.getD 1 0) 0 4) := by
  have hwaits : (d.noteTile xy).fld CFG_STAT_PHASE = 2 ∧ (words.getD 0 0).toNat = (d.noteTile xy).com.epoch :=
    ⟨hphase, hepoch⟩
  rw [Dev.refuseMsg, Dev.fromLost_kept hmanager hlost]
  exact if_pos hwaits

/-- A GO_ACK before F: the tile has the epoch, and owes nothing more. -/
theorem Dev.goAckMsg_early (hphase : d.fld CFG_STAT_PHASE < 4) (hepoch : (words.getD 0 0).toNat = d.com.epoch)
    (hdue : xy ∈ d.com.ackDue) : d.goAckMsg xy words =
      ((d.noteTile xy).setTile { (d.noteTile xy).tile xy with epoch := d.com.epoch }).setCom
        { d.com with ackDue := d.com.ackDue.filter (· != xy) } := by
  have hwaits : (d.noteTile xy).com.ackDue.contains xy ∧ (words.getD 0 0).toNat = (d.noteTile xy).com.epoch :=
    ⟨List.contains_iff_mem.2 hdue, hepoch⟩
  have hearly : decide (4 ≤ (d.noteTile xy).fld CFG_STAT_PHASE) = false := decide_eq_false (Nat.not_le.2 hphase)
  rw [Dev.goAckMsg, Dev.fromLost_kept hmanager hlost]
  simp only [hwaits, hearly, and_self, if_true, Bool.false_eq_true, if_false]
  rfl

end

theorem Dev.readyTaken_counts (d : Dev) (xy : Nat) :
    (d.readyTaken xy).fld CFG_TILES_READY = min (d.fld CFG_TILES_READY + 1) (2 ^ CFG_TILES_READY.width - 1) ∧
      (d.readyTaken xy).fld CFG_STAT_PHASE = d.fld CFG_STAT_PHASE ∧ d.leaves (d.readyTaken xy) [CFG_TILES] :=
  ⟨Dev.fld_bump_same _ _ (by decide), Dev.fld_bump_apart _ (by decide) (by decide),
    leaves_bump (leaves_setCom (d.leaves_noteTile xy _)) (by decide)⟩

/-- A commit that the manager gives up: its result, and the tile and reason that ended it. -/
theorem abortCommit_ends (d : Dev) {result : Nat} (xy reason : Nat) (h : result < 16) :
    (d.abortCommit result xy reason).fld CFG_STAT_PHASE = 0 ∧ (d.abortCommit result xy reason).fld CFG_STAT_RESULT = result ∧
      (d.abortCommit result xy reason).reg CFG_REFUSE = pack [(xy / 32, 19), (xy % 32, 14), (reason, 0)] ∧
      (d.abortCommit result xy reason).fld CFG_CNT_ABORTED =
        min (d.fld CFG_CNT_ABORTED + 1) (2 ^ CFG_CNT_ABORTED.width - 1) ∧
      (d.abortCommit result xy reason).com.armed = false := by
  unfold Dev.abortCommit
  have hshown : (d.setReg CFG_REFUSE (pack [(xy / 32, 19), (xy % 32, 14), (reason, 0)])).reg CFG_REFUSE =
      pack [(xy / 32, 19), (xy % 32, 14), (reason, 0)] := (Dev.reg_setReg ..).trans (if_pos rfl)
  have hcount : (d.setReg CFG_REFUSE (pack [(xy / 32, 19), (xy % 32, 14), (reason, 0)])).fld CFG_CNT_ABORTED =
      d.fld CFG_CNT_ABORTED := Dev.fld_setReg_ne _ _ (by decide)
  generalize d.setReg CFG_REFUSE (pack [(xy / 32, 19), (xy % 32, 14), (reason, 0)]) = x at *
  have hsent : Dev.Joined linkRegs x x.sendAborts :=
    joined_issueOps (altersRing_foldl _ x fun y t _ => joined_send (altersRing_refl y)) (List.Subset.refl _)
  have hfails := commitFails_fails x.sendAborts h
  have hpending {g : Fld} (hg : g.addr ≠ CFG_TILES) :
      ((x.sendAborts.commitFails result).setFld CFG_TILES_PENDING 0).fld g = (x.sendAborts.commitFails result).fld g :=
    Dev.fld_setReg_ne _ _ hg
  refine ⟨(hpending (by decide)).trans hfails.phase, (hpending (by decide)).trans hfails.result, ?_, ?_, hfails.armed⟩
  · exact (Dev.reg_setFld_ne _ _ _ (by decide)).trans ((hfails.reg _ (by decide) (by decide)).trans
      ((hsent.reg _ (by decide) (by decide)).trans hshown))
  · rw [hpending (by decide), hfails.aborted, hsent.fld (by decide) (by decide), hcount]

/-! The time-out of the GO_ACKs (R521). -/

theorem Dev.resets_count (ts : List Nat) (d : Dev) :
    Dev.Joined ([CFG_CNT2] ++ resetRegs) d (ts.foldl (fun d t => (d.bump CFG_CNT2_RESETS).resetTile t false) d) ∧
      (ts.foldl (fun d t => (d.bump CFG_CNT2_RESETS).resetTile t false) d).fld CFG_CNT2_RESETS =
        min (d.fld CFG_CNT2_RESETS + ts.length) (2 ^ CFG_CNT2_RESETS.width - 1) := by
  have hreset (x : Dev) (t : Nat) : Dev.Joined resetRegs (x.bump CFG_CNT2_RESETS) ((x.bump CFG_CNT2_RESETS).resetTile t false) :=
    joined_resetTile (altersRing_refl _) (List.Subset.refl _) t false
  induction ts generalizing d with
  | nil =>
    have hlt : d.fld CFG_CNT2_RESETS < 2 ^ CFG_CNT2_RESETS.width := wGet_lt _ _ _
    exact ⟨altersRing_refl d, (Nat.min_eq_left (Nat.le_sub_one_of_lt hlt)).symm⟩
  | cons t ts ih =>
    obtain ⟨hjoined, hcount⟩ := ih ((d.bump CFG_CNT2_RESETS).resetTile t false)
    refine ⟨altersRing_trans (altersRing_trans (altersRing_bump (altersRing_refl d) (by decide))
      (altersRing_mono (hreset d t) (List.subset_append_right _ _))) hjoined, hcount.trans ?_⟩
    rw [(hreset d t).fld (by decide) (by decide), Dev.fld_bump_same _ _ (by decide), List.length_cons]
    omega

/-- With no GO_ACK due nothing is late. -/
theorem Dev.noteLate_none (h : d.com.ackDue = []) : d.noteLate =
    ((d.setCom { d.com with ackDue := [] }).setFlag CFG_STAT_MIXED false).setFld CFG_TILES_PENDING 0 := by
  have hlate : d.lateTiles = [] := by
    rw [Dev.lateTiles, h]
    rfl
  unfold Dev.noteLate
  rw [hlate]
  rfl

/-- The late tiles reset at the time-out. -/
def Dev.lateReset (d : Dev) : Dev :=
  d.lateTiles.foldl (fun d t => (d.bump CFG_CNT2_RESETS).resetTile t false) (d.setCom { d.com with ackDue := [] })

theorem Dev.goAckTimeout_ends (hmanager : d.isManager = true) (hphase : d.fld CFG_STAT_PHASE = 4) :
    d.goAckTimeout.com.ackDue = [] ∧ d.goAckTimeout.flag CFG_STAT_MIXED = false ∧ d.goAckTimeout.fld CFG_TILES_PENDING = 0 ∧
      d.goAckTimeout.fld CFG_STAT_PHASE = 4 ∧
      d.goAckTimeout.fld CFG_CNT2_RESETS =
        min (d.fld CFG_CNT2_RESETS + d.lateTiles.length) (2 ^ CFG_CNT2_RESETS.width - 1) := by
  obtain ⟨hreset, hcount⟩ := Dev.resets_count d.lateTiles (d.setCom { d.com with ackDue := [] })
  have hnone : d.lateReset.com.ackDue = [] := hreset.keeps (·.com.ackDue) fun _ => rfl
  have hkept : d.lateReset.fld CFG_STAT_PHASE = 4 := (hreset.fld (by decide) (by decide)).trans hphase
  have hresets : d.lateReset.fld CFG_CNT2_RESETS =
      min (d.fld CFG_CNT2_RESETS + d.lateTiles.length) (2 ^ CFG_CNT2_RESETS.width - 1) := hcount
  have hlate : d.lateReset.noteLate.fld CFG_STAT_PHASE = 4 := by
    rw [Dev.noteLate_none hnone]
    exact (Dev.fld_setFld_apart _ _ (by decide) (by decide)).trans
      ((Dev.fld_setFlag_apart _ _ (by decide) (by decide)).trans hkept)
  have hends : d.goAckTimeout = d.lateReset.noteLate := by
    unfold Dev.goAckTimeout
    rw [if_pos ⟨hmanager, by omega⟩]
    exact if_neg (show ¬ d.lateReset.noteLate.fld CFG_STAT_PHASE = 5 by omega)
  rw [hends]
  refine ⟨?_, ?_, ?_, hlate, ?_⟩
  · rw [Dev.noteLate_none hnone]
    rfl
  · rw [Dev.noteLate_none hnone]
    exact (Dev.flag_setFld_apart _ _ (by decide) (by decide)).trans (Dev.flag_setFlag_same _ _ _ (by decide) (by decide))
  · rw [Dev.noteLate_none hnone]
    exact Dev.fld_setFld_same _ _ _ (by decide)
  · rw [Dev.noteLate_none hnone]
    exact (Dev.fld_setFld_apart _ _ (by decide) (by decide)).trans
      ((Dev.fld_setFlag_apart _ _ (by decide) (by decide)).trans hresets)

/-! The commands. -/

section

variable {words : List Word} {n : Nat} (hworker : s.dev.isWorker = true) (harmed : s.dev.com.armed = true)
  (hepoch : s.dev.com.epoch = n) (hn : (words.getD 0 0).toNat = n)
include hworker harmed hepoch hn

theorem go_inTime (src : BitVec 10) (htime : frameDiff s.dev.com.apply s.dev.time.frame < 0) (hcores : s.dev.pwr.coreRestart = false) :
    Completes (.go src words) s fun t => t = ((s.dev.goHeld true).send msgGoAck 0 [word n]).issueOps := by
  subst hn
  have hin : s.dev.goInTime = true := by simp [Dev.goInTime, htime, hcores]
  refine completes_of (f := fun d => d.goMsg words) rfl ?_
  rw [Dev.goMsg_held hworker harmed hepoch, hin, if_pos rfl]

theorem goLate_held (src : BitVec 10) (hlate : 0 ≤ frameDiff s.dev.com.apply s.dev.time.frame) :
    Completes (.goLate src words) s fun t => t = s.dev.goHeld false := by
  subst hn
  have hin : s.dev.goInTime = false := by simp [Dev.goInTime, hlate]
  refine completes_of (f := fun d => d.goMsg words) rfl ?_
  rw [Dev.goMsg_held hworker harmed hepoch, hin, if_neg Bool.false_ne_true]

theorem abort_ends (src : BitVec 10) : Completes (.abort src words) s fun t => s.dev.CommitOver t := by
  subst hn
  refine completes_of (f := fun d => d.abortMsg words) rfl ?_
  rw [Dev.abortMsg_held hworker harmed hepoch]
  exact commitDone_over _

end

/-- Settles O35: the messages a worker takes, those the manager takes, and the time-out of the acknowledgements. -/
theorem commitsAcrossASurface : Obligations.CommitsAcrossASurface := by
  intro s
  refine ⟨fun src words n f reason j hworker hjoined hfirst hone hn hf hjudge => ?_,
    fun src words n hworker harmed hepoch hn => ⟨fun htime hcores => (go_inTime hworker harmed hepoch hn src htime hcores).mono
      fun t ht => ?_, fun hlate => (goLate_held hworker harmed hepoch hn src hlate).mono fun t ht => ?_,
      fun _ => (abort_ends hworker harmed hepoch hn src).mono fun t hover => ?_⟩,
    fun src words hmanager hlost => ⟨fun hphase hepoch => ⟨fun hdue hothers => ?_, ?_⟩, fun hphase hepoch hdue => ?_⟩,
    fun hmanager hphase => completes_of (f := Dev.goAckTimeout) rfl (Dev.goAckTimeout_ends hmanager hphase)⟩
  · subst hn hf
    have hwhole := Dev.prepareMsg_whole (d := s.dev) hworker hjoined hfirst hone
    constructor
    · rintro rfl
      refine completes_of (f := fun d => d.prepareMsg words) rfl ?_
      rw [hwhole, Dev.prepared_holds hjudge]
      obtain ⟨hphase, hframe, hleft⟩ := Dev.holdsCommit_shows (s.dev.incoming (wordPairs (words.drop 3))) j
        (words.getD 0 0).toNat (words.getD 1 0).isLt
      have hin : s.dev.leaves (s.dev.incoming (wordPairs (words.drop 3))) [CFG_ERR, CFG_STAT, CFG_APPLY] :=
        leaves_setCom (s.dev.leaves_refl _)
      generalize hheld : (s.dev.incoming (wordPairs (words.drop 3))).holdsCommit j (words.getD 0 0).toNat
        (words.getD 1 0).toNat = x at *
      have hcom : x.com = { s.dev.com with built := j.pairs, epoch := (words.getD 0 0).toNat, apply := (words.getD 1 0).toNat,
                                            armed := true, go := false, late := false, incoming := [] } := hheld ▸ rfl
      have hout : x.outbox = s.dev.outbox := hheld ▸ rfl
      refine ⟨x.send msgReady 0 [word (words.getD 0 0).toNat], congrArg (· ++ _) hout, ?_, ?_, ?_, ?_, ?_, hphase, hframe,
        leaves_of (leaves_trans hin hleft) rfl rfl rfl rfl, rfl⟩
      all_goals exact (congrArg _ hcom :)
    · intro hreason
      refine completes_of (f := fun d => d.prepareMsg words) rfl ?_
      rw [hwhole]
      exact Dev.prepared_refuses hjudge hreason
  · obtain ⟨hphase, hleft⟩ := s.dev.goHeld_shows true
    exact ⟨(s.dev.goHeld true).send msgGoAck 0 [word n], rfl, rfl, rfl, hphase, leaves_of hleft rfl rfl rfl rfl, ht⟩
  · obtain ⟨hphase, hleft⟩ := s.dev.goHeld_shows false
    exact ht ▸ ⟨rfl, rfl, hphase, rfl, hleft⟩
  · exact ⟨hover.phase, congrArg Commit.armed hover.com, congrArg Commit.built hover.com, hover.fld (by decide) (by decide)⟩
  · refine completes_of (f := fun d => d.readyMsg src.toNat words) rfl ?_
    obtain ⟨hcount, hkept, hleft⟩ := s.dev.readyTaken_counts src.toNat
    rw [Dev.readyMsg_taken hmanager hlost hphase hepoch hdue, Dev.sendGo_waits (d := s.dev.readyTaken src.toNat) hothers]
    exact ⟨rfl, hcount, hkept.trans hphase, hleft⟩
  · refine completes_of (f := fun d => d.refuseMsg src.toNat words) rfl ?_
    rw [Dev.refuseMsg_aborts hmanager hlost hphase hepoch]
    exact abortCommit_ends (s.dev.noteTile src.toNat) _ _ (by decide)
  · refine completes_of (f := fun d => d.goAckMsg src.toNat words) rfl ?_
    rw [Dev.goAckMsg_early hmanager hlost (by omega) hepoch hdue]
    refine ⟨rfl, ?_, leaves_setCom (leaves_setTile (s.dev.leaves_noteTile _ _) _)⟩
    have hrow := Dev.tile_setTile (s.dev.noteTile src.toNat)
      { (s.dev.noteTile src.toNat).tile src.toNat with epoch := s.dev.com.epoch } (Dev.tile_xy ..)
    exact congrArg Tile.epoch hrow

end Sys2Proof.Machine
end

section
/-!
SUPPORT. The commands of commits and tiles complete, and O55.
-/

namespace Sys2Proof.Machine

variable {d e : Dev} {s : State}

/-! Checks that end on a surface (R516). -/

/-- A commit that passes shows the findings of its checks, on a surface too. -/
theorem Dev.reg_arm_err (d : Dev) (j : Machine.Judged) : (d.arm j).reg CFG_ERR = d.reg CFG_ERR := by
  unfold Dev.arm
  extract_lets lead f tiles pairs _ x y z
  have hy : y.reg CFG_ERR = d.reg CFG_ERR :=
    (Dev.reg_setFld_ne _ _ _ (by decide)).trans (Dev.reg_setFld_ne x _ _ (by decide))
  have hz : z.reg CFG_ERR = y.reg CFG_ERR := (Dev.reg_setReg ..).trans (if_neg (by decide))
  split
  · have hsent : Dev.Joined ([CFG_STAT] ++ linkRegs) z ((z.setPhase 2).sendPrepare pairs).issueOps :=
      joined_issueOps (altersRing_trans (altersRing_setFld (g := CFG_STAT_PHASE) (v := 2) (altersRing_refl z) (by decide))
        (altersRing_foldl _ _ fun w t _ => joined_send (altersRing_refl w))) (List.subset_append_right _ _)
    obtain ⟨-, hgo⟩ := sendGo_keeps ((z.setPhase 2).sendPrepare pairs).issueOps
    exact (hgo _ (by decide) (by decide)).trans ((hsent.reg _ (by decide) (by decide)).trans (hz.trans hy))
  · exact (Dev.reg_setFld_ne _ _ _ (by decide)).trans hy

theorem checkEnd_shows {j : Judged} (hphase : d.fld CFG_STAT_PHASE = 1) (hj : d.judgeSet d.com.staged (!d.com.checkOnly) = j) :
    d.checkEnd.reg CFG_ERR = pack [(min j.clamps 255, 16), (j.reason, 8), (j.index % 256, 0)] := by
  cases hcheck : d.com.checkOnly with
  | true =>
    rw [hcheck] at hj
    exact (checkEnd_check_over hphase hcheck hj.symm).1
  | false =>
    rw [hcheck] at hj
    rw [Dev.checkEnd_commit hphase hcheck hj.symm]
    split
    · exact ((commitFails_fails _ j.result_lt).reg _ (by decide) (by decide)).trans (d.noteJudged_shows j)
    · exact (Dev.reg_arm_err ..).trans (d.noteJudged_shows j)

/-! Ends of a commit's parts. -/

theorem Dev.coldDone_over (h : d.com.cold = true) : d.coldDone.com.cold = false := by
  rw [Dev.coldDone_eq h]
  split
  · exact congrArg Commit.cold (commitDone_over d.coldOver).com
  · rfl

theorem Dev.goMsg_due {words : List Word} (hworker : d.isWorker = true) (harmed : d.com.armed = true)
    (hepoch : d.com.epoch = (words.getD 0 0).toNat) :
    (d.goMsg words).com.go = true ∧ (d.goMsg words).fld CFG_STAT_PHASE = 3 := by
  rw [Dev.goMsg_held hworker harmed hepoch]
  obtain ⟨hphase, -⟩ := d.goHeld_shows d.goInTime
  split
  · have hsent := linked_trans (linked_send (as := linkRegs) (d.goHeld d.goInTime) msgGoAck 0 [word (words.getD 0 0).toNat])
      (linked_issueOps _)
    exact ⟨hsent.keeps (·.com.go) fun _ => rfl, (hsent.fld (by decide) (by decide)).trans hphase⟩
  · exact ⟨rfl, hphase⟩

/-! Tiles. -/

/-- A WELCOME gives the first frame and the epoch, whatever mode comes with it (R544). -/
theorem Dev.welcomeMsg_gives {words : List Word} (hworker : d.isWorker = true) (hstep : d.pwr.step = 8)
    (hsafe : d.mode ≠ modeSafe) (hjoin : d.flag EGL_TILE_JOINED = false) :
    (d.welcomeMsg words).surf.firstFrame =
        some ((words.getD 0 0).toNat, (words.getD 1 0).toNat, (words.getD 2 0).toNat) ∧
      (d.welcomeMsg words).fld CFG_EPOCH_N = (words.getD 3 0).toNat := by
  have hepoch : (d.welcomed words).fld CFG_EPOCH_N = (words.getD 3 0).toNat :=
    (Dev.fld_setFld_same _ CFG_EPOCH_N _ (by decide)).trans (Nat.mod_eq_of_lt (words.getD 3 0).isLt)
  obtain ⟨-, hkept, -⟩ := (d.welcomed words).managerAsked_shows (Nat.mod_lt (words.getD 4 0).toNat (by decide))
    (words.getD 0 0).toNat
  have htaken : d.welcomeMsg words =
      if (words.getD 4 0).toNat % 8 = (d.welcomed words).mode ∨ 4 < (words.getD 4 0).toNat % 8 then d.welcomed words
      else (d.welcomed words).managerAsked ((words.getD 4 0).toNat % 8) (words.getD 0 0).toNat :=
    if_neg (by simp [hworker, hstep, hsafe, hjoin])
  rw [htaken]
  split
  · exact ⟨rfl, hepoch⟩
  · exact ⟨rfl, hkept.trans hepoch⟩

theorem wordPairs_length (ws : List Word) : (wordPairs ws).length ≤ ws.length / 2 := by
  induction ws using wordPairs.induct with
  | case1 a b rest ih =>
    simp only [wordPairs, List.length_cons]
    omega
  | case2 ws h => simp [wordPairs]

theorem Dev.resetMsg_restarts {words : List Word} (hworker : d.isWorker = true) (hheld : d.pwr.held = none) :
    (d.resetMsg words).pwr.step = 3 ∧ (d.resetMsg words).surf.linkBoot = (wGet (words.getD 0 0) 0 1 == 1) := by
  obtain ⟨rs, hpwr⟩ := (d.enterReset 7).release_pwr []
  have hstep : (d.resetNow 7).pwr.step = 3 := by rw [Dev.resetNow_of_free hheld, hpwr]
  rw [Dev.resetMsg, if_pos hworker]
  exact ⟨hstep, rfl⟩

/-- Asking for a mode leaves the entry of SERVICE that was noted. -/
theorem Dev.askMode_entry (d : Dev) (mode reason : Nat) : (d.askMode mode reason).modes.entry = d.modes.entry := by
  have hmarked (x : Dev) (m : Option Nat) : (x.markPending m).modes = x.modes := by cases m <;> rfl
  have hplaced (x : Dev) (a : Option Nat) : (x.placeMode mode reason a).modes.entry = x.modes.entry := by
    unfold Dev.placeMode
    extract_lets r
    split <;> rfl
  have hsent (x : Dev) (dests : List Nat) (ws : List Word) :
      (dests.foldl (fun d t => d.send msgMode t ws) x).modes.entry = x.modes.entry :=
    foldl_keeps (·.modes.entry) dests x fun _ _ _ => rfl
  unfold Dev.askMode
  split
  · exact (congrArg Modes.entry (hmarked ..)).trans ((hplaced ..).trans (hsent ..))
  · exact (congrArg Modes.entry (hmarked ..)).trans (hplaced ..)

theorem Dev.serviceMode_entry (d : Dev) (mode entry : Nat) : (d.serviceMode mode entry).modes.entry = entry := by
  have hheld (x : Dev) : (x.holdMode mode 4).modes.entry = x.modes.entry := by
    unfold Dev.holdMode
    split
    · rfl
    · split <;> rfl
    · rfl
  unfold Dev.serviceMode
  extract_lets _ x
  split
  · exact hheld x
  · exact ((linked_issueOps (x.askMode mode 4)).keeps (·.modes.entry) fun _ => rfl).trans (x.askMode_entry mode 4)

theorem Dev.fld_nameStretch (d : Dev) {g : Fld} (h : g.addr ≠ CAL_STAT) (hlink : g.addr ∉ ringRegs) :
    d.nameStretch.fld g = d.fld g := by
  unfold Dev.nameStretch
  extract_lets recent f _ y
  split
  · rfl
  · have hsent : Dev.Linked [] d (d.joinedTiles.foldl (fun d t => d.send msgMode t [word (d.mode + 8), word f]) d) :=
      linked_foldl _ d fun w t _ => linked_send ..
    exact (Dev.fld_setReg_ne _ _ h).trans (hsent.fld List.not_mem_nil hlink)

section

variable (hmanager : s.dev.isManager = true) {words : List Word} (src : BitVec 10)
  (hlost : (s.dev.tile src.toNat).state ≠ tileLost)
include hmanager hlost

theorem svcReq_notes (hmode : s.dev.mode = modeIdle ∨ s.dev.mode = modeActive ∨ s.dev.mode = modeWatch)
    (henter : wGet (words.getD 0 0) 0 1 = 0) : Completes (.svcReq src words) s fun t => t.modes.entry = 3 := by
  refine completes_of (f := fun d => d.svcReqMsg src.toNat words) rfl ?_
  let x := s.dev.noteTile src.toNat
  have hup : ¬ (x.mode = modeSafe ∨ x.mode = modeStart ∨ x.mode = modeHibernate) ∧ ¬ x.mode = modeService := by
    obtain h | h | h := hmode
    all_goals
      rw [show x.mode = s.dev.mode from rfl, h]
      decide
  obtain ⟨hserves, hother⟩ := hup
  have hasked : s.dev.svcReqMsg src.toNat words = x.serviceMode modeService 3 := by
    rw [Dev.svcReqMsg, Dev.fromLost_kept hmanager hlost]
    exact (if_neg hserves).trans ((if_pos henter).trans (if_neg hother))
  rw [hasked]
  exact x.serviceMode_entry ..

theorem forward_counts (hloss : wGet (words.getD 0 0) 15 9 ≠ 188) : Completes (.forward src words) s fun t =>
    t.fld EGL_FWD_COUNT = min (s.dev.fld EGL_FWD_COUNT + 1) (2 ^ EGL_FWD_COUNT.width - 1) := by
  refine completes_of (f := fun d => d.forwardMsg src.toNat words) rfl ?_
  rw [Dev.forwardMsg, Dev.fromLost_kept hmanager hlost]
  extract_lets w0 source x diff y
  have hx : x.fld EGL_FWD_COUNT = min (s.dev.fld EGL_FWD_COUNT + 1) (2 ^ EGL_FWD_COUNT.width - 1) :=
    Dev.fld_bump_same (s.dev.noteTile src.toNat) _ (by decide)
  have hy : y.fld EGL_FWD_COUNT = x.fld EGL_FWD_COUNT := (linked_near (as := []) (near_accept (.rfl x))).fld (by decide) (by decide)
  rw [if_neg hloss]
  split
  · exact (y.fld_nameStretch (by decide) (by decide)).trans (hy.trans hx)
  · exact hy.trans hx

end

/-! The commands. -/

/-- The commands of a commit on one tile. -/
theorem commitsComplete (s : State) :
    (s.dev.isWorker = false → s.dev.fld CFG_STAT_PHASE = 0 →
      (s.dev.mode = modeIdle ∨ s.dev.mode = modeActive → Completes (.cfgCommit 0xC5) s fun t =>
        t.fld CFG_STAT_PHASE = 1 ∧ t.com.staged = s.dev.stage) ∧
      (Completes (.cfgCheck 0xC5) s fun t => t.fld CFG_STAT_PHASE = 1 ∧ t.com.staged = s.dev.stage ∧ t.com.checkOnly = true) ∧
      Completes (.cfgClear 0xC5) s fun t => t.fld CFG_NSTG_N = 0) := by
  refine fun hworker hphase => ⟨fun hmode => (cfgCommit_begins hworker hphase hmode).mono fun t ht => ?_,
    (cfgCheck_begins hworker hphase).mono fun t ht => ?_, (cfgClear_empties hworker hphase).mono fun t ht => ?_⟩
  · obtain ⟨hbegun, -, hstaged, -⟩ := beginChecks_begins s.dev false
    exact ht ▸ ⟨hbegun, hstaged⟩
  · obtain ⟨hbegun, -, hstaged, honly, -⟩ := beginChecks_begins s.dev true
    exact ht ▸ ⟨hbegun, hstaged, honly⟩
  · exact ht ▸ Dev.fld_setFld_same _ _ _ (by decide)

/-- The messages of a commit across a surface. -/
theorem commitMessagesComplete (s : State) (src : BitVec 10) (words : List Word) (n : Nat) (hn : (words.getD 0 0).toNat = n) :
    (s.dev.isWorker = true →
      (s.dev.flag EGL_TILE_JOINED = true → wGet (words.getD 2 0) 8 8 = 0 → 1 < wGet (words.getD 2 0) 0 8 →
        Completes (.prepare src words) s fun t => t.com.incoming = wordPairs (words.drop 3)) ∧
      (s.dev.com.armed = true → s.dev.com.epoch = n →
        (Completes (.go src words) s fun t => t.com.go = true ∧ t.fld CFG_STAT_PHASE = 3) ∧
        (Completes (.goLate src words) s fun t => t.com.go = true ∧ t.fld CFG_STAT_PHASE = 3) ∧
        Completes (.abort src words) s fun t => t.com.armed = false ∧ t.fld CFG_STAT_PHASE = 0)) ∧
    (s.dev.isManager = true → (s.dev.tile src.toNat).state ≠ tileLost → s.dev.com.epoch = n →
      (s.dev.fld CFG_STAT_PHASE = 2 →
        (src.toNat ∈ s.dev.com.readyDue → Completes (.ready src words) s fun t => src.toNat ∉ t.com.readyDue) ∧
        Completes (.refuse src words) s fun t => t.fld CFG_STAT_PHASE = 0 ∧ t.fld CFG_STAT_RESULT = 3) ∧
      (src.toNat ∈ s.dev.com.ackDue → s.dev.fld CFG_STAT_PHASE < 4 → Completes (.goAck src words) s fun t =>
        src.toNat ∉ t.com.ackDue)) := by
  have hgone (l : List Nat) : src.toNat ∉ l.filter (· != src.toNat) := by simp
  refine ⟨fun hworker => ⟨fun hjoined hfirst hmore => completes_of (f := fun d => d.prepareMsg words) rfl
      (Dev.prepareMsg_part hworker hjoined hfirst hmore), fun harmed hepoch => ⟨?_, ?_,
        (abort_ends hworker harmed hepoch hn src).mono fun t hover => ⟨congrArg Commit.armed hover.com, hover.phase⟩⟩⟩,
    fun hmanager hlost hepoch => ⟨fun hphase => ⟨fun hdue => ?_, ?_⟩, fun hdue hearly => ?_⟩⟩
  · exact completes_of (f := fun d => d.goMsg words) rfl (Dev.goMsg_due hworker harmed (hepoch.trans hn.symm))
  · exact completes_of (f := fun d => d.goMsg words) rfl (Dev.goMsg_due hworker harmed (hepoch.trans hn.symm))
  · refine completes_of (f := fun d => d.readyMsg src.toNat words) rfl ?_
    rw [Dev.readyMsg_taken hmanager hlost hphase (hn.trans hepoch.symm) hdue, (sendGo_keeps _).1]
    exact hgone _
  · refine completes_of (f := fun d => d.refuseMsg src.toNat words) rfl ?_
    rw [Dev.refuseMsg_aborts hmanager hlost hphase (hn.trans hepoch.symm)]
    obtain ⟨hzero, hresult, -⟩ := abortCommit_ends (s.dev.noteTile src.toNat) src.toNat (wGet (words.getD 1 0) 0 4)
      (show 3 < 16 by decide)
    exact ⟨hzero, hresult⟩
  · refine completes_of (f := fun d => d.goAckMsg src.toNat words) rfl ?_
    rw [Dev.goAckMsg_early hmanager hlost hearly (hn.trans hepoch.symm) hdue]
    exact hgone _

/-- The messages that a worker takes of a surface it joins. -/
theorem workerMessagesComplete (s : State) (src : BitVec 10) (words : List Word) (hworker : s.dev.isWorker = true) :
    (s.dev.surf.known = false → Completes (.enum words) s fun t =>
      t.surf.known = true ∧ t.ownXY = wGet (words.getD 0 0) 0 10) ∧
    (s.dev.pwr.step = 8 → s.dev.mode ≠ modeSafe → s.dev.flag EGL_TILE_JOINED = false →
      Completes (.welcome src words) s fun t =>
      t.surf.firstFrame = some ((words.getD 0 0).toNat, (words.getD 1 0).toNat, (words.getD 2 0).toNat) ∧
      t.fld CFG_EPOCH_N = (words.getD 3 0).toNat) ∧
    ((words.getD 0 0).toNat = s.dev.surf.deltaBuf.length →
      s.dev.surf.deltaBuf.length + words.length / 2 < s.dev.surf.deltaDue →
      Completes (.delta src words) s fun t => t.surf.deltaBuf = s.dev.surf.deltaBuf ++ wordPairs (words.drop 1)) ∧
    (s.dev.flag EGL_TILE_JOINED = false → Completes (.refuseJoin src words) s fun t =>
      t.surf.firstFrame = none ∧ t.surf.deltaDue = 0) ∧
    (s.dev.pwr.held = none → Completes (.reset src words) s fun t =>
      t.pwr.step = 3 ∧ t.surf.linkBoot = (wGet (words.getD 0 0) 0 1 == 1)) := by
  obtain ⟨-, henum⟩ := enum_completes hworker words _ rfl
  refine ⟨henum, fun hstep hsafe hjoin => completes_of (f := fun d => d.welcomeMsg words) rfl
      (Dev.welcomeMsg_gives hworker hstep hsafe hjoin), fun hfrom hmore => ?_,
    fun hjoin => (refuseJoin_completes hworker src words hjoin).mono fun t ⟨hfirst, hdue, _⟩ => ⟨hfirst, hdue⟩,
    fun hheld => completes_of (f := fun d => d.resetMsg words) rfl (Dev.resetMsg_restarts hworker hheld)⟩
  have hpairs := wordPairs_length (words.drop 1)
  rw [List.length_drop] at hpairs
  exact (delta_completes hworker src words hfrom (by omega)).mono fun t ⟨hbuf, _⟩ => hbuf

/-- The messages that the manager takes of a tile that is not lost, and what it does to tiles. -/
theorem managerMessagesComplete (s : State) (hmanager : s.dev.isManager = true) (src : BitVec 10) (words : List Word)
    (hlost : (s.dev.tile src.toNat).state ≠ tileLost) :
    (∀ xy, wGet (words.getD 0 0) 0 10 = xy → (s.dev.tile xy).state ≠ tileLost → s.dev.pwr.step = 8 → s.dev.mode ≠ modeSafe →
      s.dev.joinsWait = true → Completes (.join src words) s fun t => (t.tile xy).waiting = some words) ∧
    (s.dev.mode = modeIdle ∨ s.dev.mode = modeActive ∨ s.dev.mode = modeWatch → wGet (words.getD 0 0) 0 1 = 0 →
      Completes (.svcReq src words) s fun t => t.modes.entry = 3) ∧
    ((s.dev.tile src.toNat).state = tileJoined → wGet (words.getD 1 0) 19 5 = 0 → 2 ≤ wGet (words.getD 1 0) 14 5 →
      Completes (.contacts src words) s fun t => (src.toNat, 1, words.drop 2) ∈ t.surf.parts) ∧
    (wGet (words.getD 0 0) 15 9 ≠ 188 → Completes (.forward src words) s fun t =>
      t.fld EGL_FWD_COUNT = min (s.dev.fld EGL_FWD_COUNT + 1) (2 ^ EGL_FWD_COUNT.width - 1)) ∧
    (Completes (.leave src words) s fun t => (t.tile src.toNat).state = tileSafe) ∧
    (∀ tile : BitVec 10, (s.dev.tile tile.toNat).state = tileJoined → tile.toNat ≠ s.dev.ownXY →
      Completes (.tileLost tile) s fun t => (t.tile tile.toNat).state = tileLost) ∧
    ∀ v : Word, wGet v 16 8 = 0xA5 → wGet v 0 10 ≠ 0 → (s.dev.tile (wGet v 0 10)).state ≠ tileJoined →
      Completes (.eglTreset v) s fun t => (t.tile (wGet v 0 10)).state = tileResetting := by
  refine ⟨fun xy hxy hxylost hstep hsafe hwait => ?_, svcReq_notes hmanager src hlost, fun hjoined hfirst hmore => ?_,
    forward_counts hmanager src hlost, (leave_completes hmanager src words hlost).mono fun t ⟨hstate, _⟩ => hstate,
    fun tile hjoined hne => tileLost_completes hmanager tile hjoined hne,
    fun v hkey hdest _ => eglTreset_completes hmanager v hkey hdest⟩
  · obtain ⟨hwaits, -⟩ := join_completes hmanager src words xy hxy hxylost hstep hsafe
    exact (hwaits hwait).mono fun t ⟨hkept, _⟩ => hkept
  · refine (contacts_completes hmanager src words hjoined hfirst hmore).mono fun t ⟨hparts, _⟩ => ?_
    rw [hparts]
    exact List.mem_cons_self

/-- Settles O55: each message and command leads to the effect that its operation's lemma states. -/
theorem commitsAndTilesComplete : Obligations.CommitsAndTilesComplete := by
  intro s
  refine ⟨commitsComplete s, fun hworker hcommit hphase => (cfgCancel_ends hworker hcommit hphase).mono fun t ht =>
      ⟨ht.phase, ht.result⟩, fun j hphase hj => completes_of (f := Dev.checkEnd) rfl (checkEnd_shows hphase hj), fun hcold => ?_,
    commitMessagesComplete s, fun hmanager hphase => ?_, workerMessagesComplete s, fun src words hpart hnone => ?_,
    fun n hframe => (stripDeadline_completes n hframe).mono fun t ⟨hall, _⟩ => hall,
    fun n hframe => (contactsDeadline_completes n hframe).mono fun t ⟨hnone, _⟩ => hnone, managerMessagesComplete s⟩
  · refine completes_of (f := fun d => if d.com.cold then d.coldStopped.coldDone else d) rfl ?_
    obtain ⟨-, -, hcom⟩ := s.dev.coldStopped_counts
    rw [if_pos hcold]
    exact Dev.coldDone_over ((congrArg Commit.cold hcom).trans hcold)
  · obtain ⟨hnone, -⟩ := Dev.goAckTimeout_ends hmanager hphase
    exact completes_of (f := Dev.goAckTimeout) rfl hnone
  · refine (strip_completes src words _ _ rfl rfl hpart hnone).mono fun t ⟨hstrips, _⟩ => ⟨_, hstrips, rfl, rfl⟩

end Sys2Proof.Machine
end

section
/-!
SUPPORT. The housekeeping converter's channels, plan, conversions and references (R825 to R842), and snapshots, O47.
-/

namespace Sys2Proof.Machine

variable {d e : Dev} {s : State} {as : List Nat}

/-! Channels and converters after an update. -/

theorem Dev.hkaChan_setHkaChan (d : Dev) {c : Nat} (v : HkaChan) (k : Nat) (h : c < d.hka.chans.length) :
    (d.setHkaChan c v).hkaChan k = if k = c then v else d.hkaChan k := by
  simp only [Dev.hkaChan, Dev.setHkaChan, Dev.setHka_hka, List.getD_eq_getElem?_getD, List.getElem?_set]
  split
  next heq => subst heq; simp
  next hne => rw [if_neg (Ne.symm hne)]

theorem Dev.hkaChan_setHkaChan_same (d : Dev) {c : Nat} (v : HkaChan) (h : c < d.hka.chans.length) :
    (d.setHkaChan c v).hkaChan c = v := (d.hkaChan_setHkaChan v c h).trans (if_pos rfl)

theorem leaves_setHka (h : d.leaves e as) (k : Hka) : d.leaves (e.setHka k) as := leaves_of h rfl rfl rfl rfl

/-- The converter part with a conversion on a converter. -/
def Hka.withConv (k : Hka) (b : Bool) (v : Option HkaConv) : Hka := if b then { k with convB := v } else { k with convA := v }

theorem Dev.setConv_hka (d : Dev) (b : Bool) (v : Option HkaConv) : (d.setConv b v).hka = d.hka.withConv b v := by
  cases b <;> cases v <;> rfl

/-- The flag that shows a converter at work. -/
abbrev busyFlag (b : Bool) : Fld := if b then HKA_STAT_BUSYB else HKA_STAT_BUSYA

theorem Dev.flag_busy_setConv (d : Dev) (b : Bool) (v : Option HkaConv) : (d.setConv b v).flag (busyFlag b) = v.isSome := by
  have hbusy (x : Dev) : (x.setFlag (busyFlag b) v.isSome).flag (busyFlag b) = v.isSome := by
    cases b <;> exact Dev.flag_setFlag_same _ _ _ (by decide) (by decide)
  cases v with
  | none => exact hbusy (d.setHka (d.hka.withConv b none))
  | some k =>
    refine Eq.trans ?_ (hbusy (d.setHka (d.hka.withConv b (some k))))
    cases b <;> exact Dev.flag_setFld_apart _ _ (by decide) (by decide)

/-! The plan (R830, R837). -/

theorem foldl_picks {f : Option Nat → Nat → Option Nat} (hf : ∀ b c, f b c = b ∨ f b c = some c) (cs : List Nat)
    (best : Option Nat) {c : Nat} (h : cs.foldl f best = some c) : best = some c ∨ c ∈ cs := by
  induction cs generalizing best with
  | nil => exact .inl h
  | cons x xs ih =>
    obtain hx | hxs := ih _ h
    · obtain hkept | htaken := hf best x
      · exact .inl (hkept ▸ hx)
      · exact .inr (by simp_all)
    · exact .inr (List.mem_cons_of_mem _ hxs)

theorem Dev.planNext_lt {c : Nat} (h : d.planNext = some c) : c < 16 := by
  refine (foldl_picks (fun best c => ?_) _ none h).elim (fun hnone => absurd hnone (by simp)) fun hmem =>
    List.mem_range.mp (List.mem_of_mem_filter hmem)
  cases best with
  | none => exact .inr rfl
  | some b => exact (ite_eq_or_eq _ _ _).symm

theorem Dev.planStart_idle (h : d.planConverter = none ∨ d.planNext = none ∨ d.hkaOn = false) : d.planStart = d := by
  unfold Dev.planStart
  split
  next b c hb hc =>
    have hoff : d.hkaOn = false := by simpa [hb, hc] using h
    exact if_pos hoff
  next => rfl

/-- The plan's channel is due again after its interval. -/
def Dev.planned (d : Dev) (c : Nat) : Dev :=
  let d := d.setHkaChan c { d.hkaChan c with due := d.ticks + msTicks (10 * planInterval (d.planWord c)) }
  d.setHka { d.hka with watchTurn := false }

theorem Dev.hkaChan_planned (d : Dev) {c : Nat} (h : c < d.hka.chans.length) : (d.planned c).hkaChan c =
    { d.hkaChan c with due := d.ticks + msTicks (10 * planInterval (d.planWord c)) } := d.hkaChan_setHkaChan_same _ h

theorem leaves_planned (d : Dev) (c : Nat) : d.leaves (d.planned c) as := leaves_setHka (leaves_setHka (d.leaves_refl _) _) _

/-- The conversion that the plan starts. -/
def Dev.planConv (d : Dev) (c : Nat) : HkaConv :=
  ⟨c, false, planRef c (d.planWord c), 0, false, !d.refReady (planRef c (d.planWord c))⟩

theorem Dev.planStart_starts {b : Bool} {c : Nat} (hb : d.planConverter = some b) (hc : d.planNext = some c)
    (hon : d.hkaOn = true) : d.planStart = if d.hkaSkips c (planRef c (d.planWord c))
      then (d.planned c).bump HKA_CNT_SKIPPED else (d.planned c).setConv b (some (d.planConv c)) := by
  simp only [Dev.planStart, hb, hc, hon, Bool.true_eq_false, if_false]
  rfl

section

variable {b : Bool} {c : Nat} (hb : s.dev.planConverter = some b) (hc : s.dev.planNext = some c) (hon : s.dev.hkaOn = true)
include hb hc hon

theorem planConversion_skips (hskip : s.dev.hkaSkips c (planRef c (s.dev.planWord c)) = true) :
    Completes .planConversion s fun t => t = (s.dev.planned c).bump HKA_CNT_SKIPPED :=
  completes_of (f := Dev.planStart) rfl ((Dev.planStart_starts hb hc hon).trans (if_pos hskip))

theorem planConversion_starts (hready : s.dev.hkaSkips c (planRef c (s.dev.planWord c)) = false) :
    Completes .planConversion s fun t => t = (s.dev.planned c).setConv b (some (s.dev.planConv c)) :=
  completes_of (f := Dev.planStart) rfl ((Dev.planStart_starts hb hc hon).trans (if_neg (by simp [hready])))

end

/-! Snapshots (R828, R829). -/

/-- A write of HKA_SNAP clears the H set. -/
abbrev snapClears (rq : Requester) (value : Word) : Prop := wGet value 4 1 = 1 ∧ rq ≠ .console

theorem rqIndex_lt (rq : Requester) : rqIndex rq < 4 := by cases rq <;> decide

theorem Dev.hkaSnap_snaps (d : Dev) (rq : Requester) (value : Word) : (d.hkaSnap rq value).hka.snaps =
    d.hka.snaps.set (rqIndex rq) (wGet value 0 4, (d.hkaChan (wGet value 0 4)).h) := by
  unfold Dev.hkaSnap
  dsimp only
  split <;> rfl

theorem leaves_hkaSnap (d : Dev) (rq : Requester) (value : Word) : d.leaves (d.hkaSnap rq value) as := by
  unfold Dev.hkaSnap
  dsimp only
  split
  · exact leaves_setHka (leaves_setHka (d.leaves_refl _) _) _
  · exact leaves_setHka (d.leaves_refl _) _

theorem Dev.hkaChan_hkaSnap (d : Dev) (rq : Requester) (value : Word) (k : Nat) (h : d.hka.chans.length = 16) :
    (d.hkaSnap rq value).hkaChan k =
      if k = wGet value 0 4 ∧ snapClears rq value then { d.hkaChan k with h := {} } else d.hkaChan k := by
  have hch : wGet value 0 4 < d.hka.chans.length := h ▸ wGet_lt value 0 4
  unfold Dev.hkaSnap
  generalize wGet value 0 4 = c at *
  dsimp only
  split
  next hclear =>
    refine (Dev.hkaChan_setHkaChan (d.setHka _) _ k hch).trans ?_
    by_cases hk : k = c
    · rw [if_pos hk, if_pos ⟨hk, hclear⟩, hk]
    · rw [if_neg hk, if_neg fun hboth => hk hboth.1]
      rfl
  next hkeep =>
    rw [if_neg fun hboth => hkeep hboth.2]
    rfl

/-- Settles O47: a snapshot takes the H set, which a requester other than the console may clear. -/
theorem snapshotsCopyAndClear : Obligations.SnapshotsCopyAndClear := by
  rintro s rq value c hchans hsnaps rfl
  have hchan (k : Nat) := s.dev.hkaChan_hkaSnap rq value k hchans
  refine completes_of (f := fun d => d.hkaSnap rq value) rfl ⟨?_, fun k hk => ?_, fun hclear hrq => ?_, fun hkeep => ?_,
    fun k => ?_, fun k hk => ?_, leaves_hkaSnap ..⟩
  · rw [Dev.hkaSnap_snaps, List.getElem?_set_self (hsnaps ▸ rqIndex_lt rq)]
  · rw [Dev.hkaSnap_snaps, List.getElem?_set_ne hk.symm]
  · rw [hchan, if_pos ⟨rfl, hclear, hrq⟩]
    exact ⟨rfl, rfl, rfl, rfl, rfl, rfl, rfl⟩
  · rw [hchan, if_neg fun ⟨_, hclear, hrq⟩ => hkeep.elim (fun h => h hclear) hrq]
  · rw [hchan]
    split <;> rfl
  · rw [hchan, if_neg fun hboth => hk hboth.1]

/-! Values (R824 to R827, R839, R840). -/

/-- A machine without what a converted value changes. -/
def Dev.offValues (d : Dev) : Dev :=
  { d with regs := [], hka := { d.hka with chans := [], t0 := 0, t1 := 0 }, cal := {}, free := 0 }

theorem offValues_spares : SparesNvm Dev.offValues := fun _ => ⟨rfl, rfl⟩

/-- Nothing but a converted value's traces, the registers as and what an event may change differs. -/
abbrev Dev.Valued (as : List Nat) (d e : Dev) : Prop := Dev.AltersRing Dev.offValues as d e

/-- The registers of a channel's band. -/
abbrev bandRegs (c : Nat) : List Nat := [HKA_BCFG c, HKA_BEXIT]

theorem valued_setHkaChan (h : Dev.Valued as d e) (c : Nat) (v : HkaChan) : Dev.Valued as d (e.setHkaChan c v) :=
  altersRing_of h rfl rfl rfl

theorem valued_sumUp (h : Dev.Valued as d e) (c : Nat) (f : AccSet → AccSet) : Dev.Valued as d (e.sumUp c f) :=
  altersRing_of h rfl rfl rfl

theorem valued_bandOutside {c : Nat} (d : Dev) (above : Bool) (v : Word) (ovr : Bool) :
    Dev.Valued (bandRegs c) d (d.bandOutside c above v ovr) := by
  unfold Dev.bandOutside
  extract_lets h run consec x st y z
  have hx : Dev.Valued (bandRegs c) d x := valued_setHkaChan (altersRing_refl d) ..
  split
  · have hy : Dev.Valued (bandRegs c) d y := altersRing_setFld (g := HKA_BCFG_STATE c) hx (by simp)
    exact altersRing_ring (altersRing_setFld (g := HKA_BEXIT_EXIT) hy (by simp))
  · exact hx

theorem valued_judgeBand {c : Nat} (d : Dev) (v : Word) (ovr : Nat) : Dev.Valued (bandRegs c) d (d.judgeBand c v ovr) := by
  unfold Dev.judgeBand
  extract_lets cfg lo hi
  split
  · exact altersRing_refl d
  · split
    · exact valued_bandOutside ..
    · split
      · exact valued_bandOutside ..
      · unfold Dev.bandWithin
        extract_lets _ x st
        have hx : Dev.Valued (bandRegs c) d x := valued_setHkaChan (altersRing_refl d) ..
        split
        · exact altersRing_setFld (g := HKA_BCFG_STATE c) hx (by simp)
        · exact hx

theorem valued_draw (h : Dev.Valued as d e) (n : Nat) : Dev.Valued as d (e.draw n).2 := altersRing_of h rfl rfl rfl

theorem valued_sysCorrect (d : Dev) (c : Nat) (v : Word) : Dev.Valued as d (d.sysCorrect c v).2 := by
  unfold Dev.sysCorrect
  split
  · exact altersRing_refl d
  · extract_lets p q
    have hup : Dev.Valued as d (if p % 4194304 = 0 then (0, d) else d.draw 2).2 := by
      split
      · exact altersRing_refl d
      · exact valued_draw (altersRing_refl d) 2
    generalize (if p % 4194304 = 0 then (0, d) else d.draw 2) = x at *
    dsimp only
    split
    · exact hup
    · exact valued_draw hup 16777216

theorem valued_setTemps (h : Dev.Valued as d e) (t0 t1 : Int) :
    Dev.Valued as d (e.setHka { e.hka with t0 := t0, t1 := t1 }) := altersRing_of h rfl rfl rfl

theorem valued_enterValue (d : Dev) (c : Nat) (v : Word) (ovr : Nat) : Dev.Valued (bandRegs c) d (d.enterValue c v ovr) := by
  unfold Dev.enterValue
  split
  · have hcorrect : Dev.Valued (bandRegs c) d (d.sysCorrect c v).2 := valued_sysCorrect d c v
    generalize d.sysCorrect c v = x at *
    exact altersRing_trans (valued_sumUp (valued_setTemps (valued_setHkaChan hcorrect ..) ..) ..) (valued_judgeBand ..)
  · exact altersRing_trans (valued_sumUp (valued_setHkaChan (altersRing_refl d) ..) ..) (valued_judgeBand ..)

end Sys2Proof.Machine
end

section
/-!
SUPPORT. Conversions that end, claims, host conversions, the REFIN check and the TDAC (R825 to R842).
-/

namespace Sys2Proof.Machine

variable {d e : Dev} {s : State} {as : List Nat}

/-! The end of a conversion (R825, R833). -/

/-- What a converter that falls idle with no interleaved conversion waiting shows. -/
structure Dev.ConvFreed (d e : Dev) (b : Bool) : Prop where
  conv : e.conv b = none
  busy : e.flag (busyFlag b) = false
  hka : e.hka = d.hka.withConv b none
  alters : Dev.Alters (fun x => { x with regs := [], hka := {} }) [HKA_STAT] d e

theorem Dev.ConvFreed.chans {b : Bool} (h : d.ConvFreed e b) : e.hka.chans = d.hka.chans := by
  rw [h.hka]
  cases b <;> rfl

theorem Dev.ConvFreed.leaves {b : Bool} (h : d.ConvFreed e b) : d.leaves e [HKA_STAT] :=
  h.alters.leaves fun _ => ⟨rfl, rfl, rfl⟩

theorem alters_setConv (d : Dev) (b : Bool) (v : Option HkaConv) :
    Dev.Alters (fun x => { x with regs := [], hka := {} }) [HKA_STAT] d (d.setConv b v) := by
  cases b with
  | false =>
    have hbusy := alters_setFlag (q := fun x => { x with regs := [], hka := {} }) (as := [HKA_STAT]) (g := HKA_STAT_BUSYA)
      (b := v.isSome) (alters_of (f := d.setHka { d.hka with convA := v }) (alters_refl d) rfl rfl) (by decide)
    cases v with
    | none => exact hbusy
    | some k => exact alters_setFld (g := HKA_STAT_CHA) hbusy (by decide)
  | true =>
    have hbusy := alters_setFlag (q := fun x => { x with regs := [], hka := {} }) (as := [HKA_STAT]) (g := HKA_STAT_BUSYB)
      (b := v.isSome) (alters_of (f := d.setHka { d.hka with convB := v }) (alters_refl d) rfl rfl) (by decide)
    cases v with
    | none => exact hbusy
    | some k => exact alters_setFld (g := HKA_STAT_CHB) hbusy (by decide)

/-- A converter that falls idle is granted to the claim that waits for it. -/
def Dev.convGranted (d : Dev) (b : Bool) : Dev :=
  if d.fld HKA_HOST_CLAIM = (if b then 2 else 1) then d.setFld HKA_STAT_GRANT (if b then 2 else 1) else d

theorem Dev.convGranted_or (d : Dev) (b : Bool) : d.convGranted b = d ∨ ∃ n, d.convGranted b = d.setFld HKA_STAT_GRANT n :=
  (ite_eq_or_eq _ _ _).symm.imp_right fun h => ⟨_, h⟩

theorem Dev.convIdle_freed (d : Dev) {b : Bool} (h : b = false ∨ d.hka.ilv = none) : d.ConvFreed (d.convIdle b) b := by
  have hidle : d.convIdle b = (d.setConv b none).convGranted b := by
    cases b with
    | false => rfl
    | true =>
      have hilv : (d.setConv true none).hka.ilv = none := h.resolve_left (by simp)
      unfold Dev.convIdle
      dsimp only
      rw [hilv]
      rfl
  have hset : d.ConvFreed (d.setConv b none) b :=
    ⟨by rw [Dev.conv_setConv, if_pos rfl], d.flag_busy_setConv b none, d.setConv_hka b none, alters_setConv d b none⟩
  rw [hidle]
  generalize d.setConv b none = y at *
  obtain hsame | ⟨n, hgrant⟩ := y.convGranted_or b
  · rwa [hsame]
  · obtain ⟨hconv, hbusy, hhka, halters⟩ := hset
    rw [hgrant]
    refine ⟨hconv, Eq.trans ?_ hbusy, hhka, alters_setFld (g := HKA_STAT_GRANT) halters (by decide)⟩
    cases b <;> exact Dev.flag_setFld_apart _ _ (by decide) (by decide)

/-- A converted value taken, and its end told where the host asked for it. -/
def Dev.valueTold (d : Dev) (k : HkaConv) (value : Word) (ovr : Nat) : Dev :=
  let d := d.enterValue k.ch value (min ovr 2)
  if k.host ∧ k.notify then d.ring 113 (pack [(k.tag, 16), (k.ch, 0)]) (word (bit (ovr != 0))) else d

theorem valued_valueTold (d : Dev) (k : HkaConv) (value : Word) (ovr : Nat) :
    Dev.Valued (bandRegs k.ch) d (d.valueTold k value ovr) := by
  unfold Dev.valueTold
  split
  · exact altersRing_ring (valued_enterValue ..)
  · exact valued_enterValue ..

theorem Dev.convEnd_idle {b : Bool} (h : d.conv b = none) (value : Word) (ovr : Nat) : d.convEnd b value ovr = d := by
  rw [Dev.convEnd, h]

theorem Dev.convEnd_told {b : Bool} {k : HkaConv} (h : d.conv b = some k) (hrun : k.waiting = false) (value : Word) (ovr : Nat) :
    d.convEnd b value ovr = (d.valueTold k value ovr).convIdle b := by
  simp only [Dev.convEnd, h, hrun, Bool.false_eq_true, if_false, Dev.valueTold]

/-- The accumulators of a channel that is neither an AIN channel nor a die temperature take a value. -/
def Dev.entered (d : Dev) (c : Nat) (f : AccSet → AccSet) : Dev :=
  (d.setHkaChan c { d.hkaChan c with h := f (d.hkaChan c).h, f := f (d.hkaChan c).f }).sumUp c f

theorem Dev.enterValue_plain {c : Nat} (hc : 4 ≤ c) (h9 : c ≠ 9) (h10 : c ≠ 10) (v : Word) :
    d.enterValue c v 0 = (d.entered c fun a => a.add v).judgeBand c v 0 := by
  have hcorrect : d.sysCorrect c v = (v, d) := if_pos (.inl hc)
  unfold Dev.enterValue
  rw [if_pos rfl, hcorrect]
  dsimp only
  rw [if_neg h9, if_neg h10]
  rfl

theorem Dev.enterValue_over (d : Dev) (c : Nat) (v : Word) :
    d.enterValue c v 1 = (d.entered c fun a => a.addOver 1).judgeBand c 0 1 := rfl

theorem Dev.hkaChan_entered (d : Dev) {c : Nat} (f : AccSet → AccSet) (h : c < d.hka.chans.length) :
    (d.entered c f).hkaChan c = { d.hkaChan c with h := f (d.hkaChan c).h, f := f (d.hkaChan c).f } :=
  d.hkaChan_setHkaChan_same _ h

theorem leaves_entered (d : Dev) (c : Nat) (f : AccSet → AccSet) : d.leaves (d.entered c f) as :=
  leaves_of (d.leaves_refl as) rfl rfl rfl rfl

theorem Dev.judgeBand_off {c : Nat} (h : wGet (d.cfgWord secHka 0x02 (4 * c + 3)) 23 1 = 0) (v : Word) (ovr : Nat) :
    d.judgeBand c v ovr = d := if_pos (.inl h)

theorem Dev.judgeBand_above {c : Nat} {v : Word} (hon : wGet (d.cfgWord secHka 0x02 (4 * c + 3)) 23 1 = 1)
    (htdac : d.tdacOn c = false) (habove : (d.cfgWord secHka 0x02 (4 * c + 1)).toInt < v.toInt) :
    d.judgeBand c v 0 = d.bandOutside c true v false := by
  unfold Dev.judgeBand
  dsimp only
  rw [hon, if_neg (by simp [htdac]), if_pos (.inr ⟨rfl, habove⟩)]
  rfl

theorem Dev.tdacOn_high {c : Nat} (hc : 4 ≤ c) : d.tdacOn c = false := by
  have hpin : d.fld HKA_TDAC_PIN < 4 := Dev.fld_lt ..
  have hne : (d.fld HKA_TDAC_PIN == c) = false := by simpa using by omega
  rw [Dev.tdacOn, hne, Bool.and_false]

theorem bandRegs_apart : ∀ c < 16, HKA_BCFG c ∉ ringRegs ∧ HKA_BCFG c ≠ HKA_BEXIT ∧ HKA_BCFG c ≠ HKA_STAT := by decide

/-- A run of outside conversions. -/
theorem outsideRun_pos (h : HkaChan) (above : Bool) : 1 ≤ if h.run != 0 && h.above == above then h.run + 1 else 1 := by
  split <;> omega

theorem bandOutside_exits {c : Nat} (hc : c < 16) (v : Word)
    (hone : wGet (d.cfgWord secHka 0x02 (4 * c + 3)) 0 5 ≤ 1) (hstate : d.fld (HKA_BCFG_STATE c) ≠ bandAbove) :
    (d.bandOutside c true v false).fld (HKA_BCFG_STATE c) = bandAbove ∧
      ((d.bandOutside c true v false).fld HKA_BEXIT_EXIT).testBit c = true := by
  obtain ⟨hring, hexit, -⟩ := bandRegs_apart c hc
  unfold Dev.bandOutside
  extract_lets h run consec x st y z
  have hrun : consec ≤ run := hone.trans (outsideRun_pos h true)
  have hstay : x.fld (HKA_BCFG_STATE c) ≠ st := hstate
  rw [if_pos ⟨hrun, hstay⟩]
  constructor
  · rw [Dev.ring_fld hring]
    exact (Dev.fld_setReg_ne y _ hexit).trans (Dev.fld_setFld_same x (HKA_BCFG_STATE c) _ (Nat.le_of_ble_eq_true rfl))
  · rw [Dev.ring_fld (by decide)]
    have hset : z.fld HKA_BEXIT_EXIT = (y.fld HKA_BEXIT_EXIT ||| 2 ^ c) % 2 ^ 16 := Dev.fld_setFld_same y _ _ (by decide)
    rw [hset, Nat.testBit_mod_two_pow, Nat.testBit_or, Nat.testBit_two_pow_self]
    simp [hc]

/-! The judging of a run's trigger (R862), which concerns the calibration only. -/

/-- A machine without its registers, its calibration and its count of draws. -/
def Dev.offRun (d : Dev) : Dev := { d with regs := [], cal := {}, free := 0 }

theorem alters_tenths (d : Dev) (t : Int) : Dev.Alters Dev.offRun as d (d.tenths t).2 := by
  unfold Dev.tenths
  dsimp only
  split
  · exact alters_refl d
  · exact alters_of (alters_refl d) rfl rfl

theorem alters_setCal (h : Dev.Alters Dev.offRun as d e) (c : Calib) : Dev.Alters Dev.offRun as d (e.setCal c) :=
  alters_of h rfl rfl

theorem alters_setItems (h : Dev.Alters Dev.offRun [CAL_STAT] d e) (items : List Nat) :
    Dev.Alters Dev.offRun [CAL_STAT] d (e.setItems items) := alters_setFld (g := CAL_STAT_LEFT)
  (e := e.setCal { e.cal with items := items }) (alters_of h rfl rfl) (by decide)

theorem alters_runBegin (d : Dev) (full : Bool) : Dev.Alters Dev.offRun [CAL_STAT] d (d.runBegin full) := by
  have htenths : Dev.Alters Dev.offRun [CAL_STAT] d ((d.tenths d.hka.t0).2.tenths (d.tenths d.hka.t0).2.hka.t1).2 :=
    alters_trans (alters_tenths d _) (alters_tenths _ _)
  unfold Dev.runBegin
  dsimp only
  generalize ((d.tenths d.hka.t0).2.tenths (d.tenths d.hka.t0).2.hka.t1) = x at *
  exact alters_setFld (g := CAL_STAT_STATE) (alters_setItems (alters_setCal htenths _) _) (by decide)

theorem alters_fullRun (d : Dev) (trigger : Nat) : Dev.Alters Dev.offRun [CAL_STAT] d (d.fullRun trigger) :=
  alters_trans (alters_setFld (g := CAL_STAT_TRIGGER) (alters_refl d) (by decide)) (alters_runBegin _ _)

theorem alters_calTrigger (d : Dev) (trigger : Nat) : Dev.Alters Dev.offRun [CAL_STAT] d (d.calTrigger trigger) := by
  unfold Dev.calTrigger
  extract_lets st
  split
  · split
    · exact alters_fullRun d trigger
    · exact alters_of (e := (d.setFld CAL_STAT_STATE calDue).setFld CAL_STAT_TRIGGER trigger)
        (alters_setFld (alters_setFld (alters_refl d) (by decide)) (by decide)) rfl rfl
  · split
    · exact alters_refl d
    · exact alters_of (alters_refl d) rfl rfl

theorem alters_calJudge (d : Dev) (ch : Option Nat) : Dev.Alters Dev.offRun [CAL_STAT] d (d.calJudge ch) := by
  unfold Dev.calJudge
  split
  · extract_lets trigger due _ x
    have hx : Dev.Alters Dev.offRun [CAL_STAT] d x := by
      unfold x
      split
      · exact alters_of (alters_refl d) rfl rfl
      · exact alters_refl d
    split
    · exact alters_trans hx (alters_calTrigger x trigger)
    · exact hx
  · exact alters_refl d

theorem Dev.calJudge_plain {ch : Option Nat} (h9 : ch ≠ some 9) (h10 : ch ≠ some 10) : d.calJudge ch = d :=
  if_neg (by simp [h9, h10])

theorem Dev.ConvFreed.conv_calJudge {b : Bool} (h : d.ConvFreed e b) (ch : Option Nat) : (e.calJudge ch).conv b = none :=
  ((alters_calJudge e ch).keeps (·.conv b) fun _ => rfl).trans h.conv

/-! The command. -/

/-- The effect of CONVERSION_END. -/
def Dev.convEnded (d : Dev) (b : Bool) (v : Word) (ovr : BitVec 2) : Dev :=
  (d.convEnd b v ovr.toNat).calJudge (if ovr = 0 then (d.conv b).map HkaConv.ch else none)

theorem conversionEnd_idle {b : Bool} {v : Word} {ovr : BitVec 2} (h : s.dev.conv b = none) :
    Completes (.conversionEnd b v ovr) s fun t => t = s.dev := by
  refine completes_of (f := fun d => d.convEnded b v ovr) rfl ?_
  rw [Dev.convEnded, Dev.convEnd_idle h, h, Option.map_none, ite_self]
  exact Dev.calJudge_plain (by simp) (by simp)

section

variable {b : Bool} {k : HkaConv} {v : Word} {ovr : BitVec 2} (hk : s.dev.conv b = some k) (hrun : k.waiting = false)
  (hilv : b = false ∨ s.dev.hka.ilv = none)
include hk hrun hilv

theorem convEnd_freed : (s.dev.valueTold k v ovr.toNat).ConvFreed (s.dev.convEnd b v ovr.toNat) b := by
  rw [Dev.convEnd_told hk hrun]
  have hkept : (s.dev.valueTold k v ovr.toNat).hka.ilv = s.dev.hka.ilv := (valued_valueTold ..).keeps (·.hka.ilv) fun _ => rfl
  exact Dev.convIdle_freed _ (hilv.imp_right hkept.trans)

theorem conversionEnd_frees : Completes (.conversionEnd b v ovr) s fun t => t.conv b = none :=
  completes_of (f := fun d => d.convEnded b v ovr) rfl ((convEnd_freed hk hrun hilv).conv_calJudge _)

theorem conversionEnd_plain (h9 : k.ch ≠ 9) (h10 : k.ch ≠ 10) :
    Completes (.conversionEnd b v ovr) s fun t => (s.dev.valueTold k v ovr.toNat).ConvFreed t b := by
  refine completes_of (f := fun d => d.convEnded b v ovr) rfl ?_
  have hend := convEnd_freed (v := v) (ovr := ovr) hk hrun hilv
  rw [Dev.convEnded, Dev.calJudge_plain]
  · exact hend
  · split <;> simp [hk, h9]
  · split <;> simp [hk, h10]

end

theorem Dev.valueTold_plan {k : HkaConv} (h : k.host = false) (v : Word) (ovr : Nat) :
    d.valueTold k v ovr = d.enterValue k.ch v (min ovr 2) := if_neg (by simp [h])

/-- What an end of conversion that enters the sets of a channel and exits no band leads to. -/
structure Dev.Entered (d e : Dev) (c : Nat) (f : AccSet → AccSet) : Prop where
  conv : e.conv false = none
  busy : e.flag HKA_STAT_BUSYA = false
  host : (e.hkaChan c).h = f (d.hkaChan c).h
  frame : (e.hkaChan c).f = f (d.hkaChan c).f
  leaves : d.leaves e [HKA_STAT]

section

variable {k : HkaConv} {v : Word} (hk : s.dev.conv false = some k) (hrun : k.waiting = false) (hplan : k.host = false)
  (h9 : k.ch ≠ 9) (h10 : k.ch ≠ 10)
include hk hrun hplan h9 h10

theorem conversionEnd_enters (hlen : k.ch < s.dev.hka.chans.length) {ovr : BitVec 2} {f : AccSet → AccSet}
    (htold : s.dev.enterValue k.ch v (min ovr.toNat 2) = s.dev.entered k.ch f) :
    Completes (.conversionEnd false v ovr) s fun t => s.dev.Entered t k.ch f := by
  refine (conversionEnd_plain hk hrun (.inl rfl) h9 h10).mono fun t ht => ?_
  rw [Dev.valueTold_plan hplan, htold] at ht
  have hchan : t.hkaChan k.ch = { s.dev.hkaChan k.ch with h := f (s.dev.hkaChan k.ch).h, f := f (s.dev.hkaChan k.ch).f } := by
    rw [Dev.hkaChan, ht.chans, ← Dev.hkaChan, Dev.hkaChan_entered _ _ hlen]
  exact ⟨ht.conv, ht.busy, by rw [hchan], by rw [hchan], leaves_trans (leaves_entered ..) ht.leaves⟩

theorem conversionEnd_exits (hc : 4 ≤ k.ch) (hlt : k.ch < 16)
    (hon : wGet (s.dev.cfgWord secHka 0x02 (4 * k.ch + 3)) 23 1 = 1)
    (hone : wGet (s.dev.cfgWord secHka 0x02 (4 * k.ch + 3)) 0 5 ≤ 1)
    (habove : (s.dev.cfgWord secHka 0x02 (4 * k.ch + 1)).toInt < v.toInt)
    (hstate : s.dev.fld (HKA_BCFG_STATE k.ch) ≠ bandAbove) :
    Completes (.conversionEnd false v 0) s fun t => t.fld (HKA_BCFG_STATE k.ch) = bandAbove ∧
      (t.fld HKA_BEXIT_EXIT).testBit k.ch = true ∧ t.conv false = none ∧
      s.dev.leavesRing t [HKA_STAT, HKA_BCFG k.ch, HKA_BEXIT] := by
  obtain ⟨-, -, hstat⟩ := bandRegs_apart k.ch hlt
  refine (conversionEnd_plain hk hrun (.inl rfl) h9 h10).mono fun t ht => ?_
  have htold : s.dev.valueTold k v 0 = (s.dev.entered k.ch fun a => a.add v).bandOutside k.ch true v false :=
    (Dev.valueTold_plan hplan v 0).trans ((Dev.enterValue_plain hc h9 h10 v).trans
      (Dev.judgeBand_above hon (Dev.tdacOn_high hc) habove))
  replace ht : ((s.dev.entered k.ch fun a => a.add v).bandOutside k.ch true v false).ConvFreed t false := htold ▸ ht
  have hexits := bandOutside_exits (d := s.dev.entered k.ch fun a => a.add v) hlt v hone hstate
  have hband := valued_bandOutside (c := k.ch) (s.dev.entered k.ch fun a => a.add v) true v false
  have hleft : s.dev.leaves (s.dev.entered k.ch fun a => a.add v) [HKA_STAT, HKA_BCFG k.ch, HKA_BEXIT] := leaves_entered ..
  generalize (s.dev.entered k.ch fun a => a.add v) = x at *
  obtain ⟨hstate', hexit'⟩ := hexits
  refine ⟨(ht.alters.fld (by simpa using hstat)).trans hstate', ?_, ht.conv, ?_⟩
  · rw [ht.alters.fld (by decide)]
    exact hexit'
  · refine leavesRing_trans (leavesRing_alters (leavesRing_of_leaves hleft) hband ?_ offValues_spares)
      (leavesRing_of_leaves (leaves_mono ht.leaves (by simp)))
    exact List.subset_cons_self ..

end

end Sys2Proof.Machine
end

section
/-!
SUPPORT. Claims, host conversions, the REFIN check, time-outs and the TDAC (R833 to R838, R842, R849 to R851).
-/

namespace Sys2Proof.Machine

variable {d e : Dev} {s : State} {as : List Nat}

/-! The REFIN buffer (R837, R838). -/

theorem Dev.refinFollow_or (d : Dev) : d.refinFollow = d ∨ d.refinFollow = d.setFlag HKA_STAT_REFIN_RDY false :=
  ite_eq_or_eq _ _ _

theorem Dev.refinFollow_enabled (h : d.refinEnabled = true) : d.refinFollow = d := if_pos h

/-- The host's reference noted, and the buffer following. -/
def Dev.hostRefers (d : Dev) (refin : Bool) : Dev := (d.setHka { d.hka with hostRef := refin }).refinFollow

/-- What following the host's reference keeps. -/
structure Dev.Refers (d e : Dev) (refin : Bool) : Prop where
  hka : e.hka = { d.hka with hostRef := refin }
  apart : ∀ g : Fld, g.apart HKA_STAT_REFIN_RDY = true → e.fld g = d.fld g
  alters : Dev.Alters (fun x => { x with regs := [], hka := {} }) [HKA_STAT] d e

theorem Dev.hostRefers_refers (d : Dev) (refin : Bool) : d.Refers (d.hostRefers refin) refin := by
  have hset : Dev.Alters (fun x => { x with regs := [], hka := {} }) [HKA_STAT] d
      (d.setHka { d.hka with hostRef := refin }) := alters_of (alters_refl d) rfl rfl
  unfold Dev.hostRefers
  obtain hsame | hclear := (d.setHka { d.hka with hostRef := refin }).refinFollow_or
  · rw [hsame]
    exact ⟨rfl, fun _ _ => rfl, hset⟩
  · rw [hclear]
    exact ⟨rfl, fun g hg => Dev.fld_setFlag_apart _ _ (by decide) hg, alters_setFlag hset (by decide)⟩

theorem Dev.Refers.leaves {refin : Bool} (h : d.Refers e refin) : d.leaves e [HKA_STAT] :=
  h.alters.leaves fun _ => ⟨rfl, rfl, rfl⟩

theorem Dev.Refers.evr {refin : Bool} (h : d.Refers e refin) : e.evr = d.evr := h.alters.keeps (·.evr) fun _ => rfl

theorem Dev.Refers.hkaSkips {refin : Bool} (h : d.Refers e refin) (c r : Nat) : e.hkaSkips c r = d.hkaSkips c r := by
  have hfault : e.flag HKA_STAT_REFIN_FAULT = d.flag HKA_STAT_REFIN_FAULT := by
    rw [Dev.flag, h.apart _ (by decide), ← Dev.flag]
  have hlit : (List.range 8).any e.sinkLit = (List.range 8).any d.sinkLit :=
    h.alters.keeps (fun x => (List.range 8).any x.sinkLit) fun _ => rfl
  rw [Dev.hkaSkips, hfault, hlit, ← Dev.hkaSkips]

/-- The readiness of the reference that the host names is not changed by its naming. -/
theorem Dev.hostRefers_ready (d : Dev) (r : Nat) : (d.hostRefers (r == 1)).refReady r = d.refReady r := by
  by_cases hr : r = 1
  · subst hr
    have henabled : (d.setHka { d.hka with hostRef := true }).refinEnabled = true := Bool.true_or _
    have hsame : d.hostRefers (1 == 1) = d.setHka { d.hka with hostRef := true } := Dev.refinFollow_enabled henabled
    rw [hsame]
    rfl
  · have hint : (d.hostRefers (r == 1)).flag HKA_STAT_REFINT_RDY = d.flag HKA_STAT_REFINT_RDY := by
      rw [Dev.flag, (d.hostRefers_refers (r == 1)).apart _ (by decide), ← Dev.flag]
    simp only [Dev.refReady, hr, if_false, hint]

/-! Claims (R833, R834). -/

theorem Dev.writeHkaHost_ignored {value : Word} (h : wGet value 16 8 ≠ 0x5A ∨ wGet value 0 2 = 3) :
    d.writeHkaHost value = d.ignoreWrite := if_pos h

/-- A claim noted. -/
def Dev.claimNoted (d : Dev) (m : Nat) : Dev :=
  if m = 0 then (d.setFld HKA_HOST_CLAIM m).hostRefers false else d.setFld HKA_HOST_CLAIM m

/-- The claimed converter may be granted at once. -/
def Dev.claimIdle (d : Dev) (m : Nat) : Bool :=
  m != 0 && (d.conv (m == 2)).isNone && !(m == 2 && d.hka.ilv.isSome)

/-- A claim granted at once, or still to be. -/
def Dev.claimShown (d : Dev) (m : Nat) (idle : Bool) : Dev :=
  if d.fld HKA_STAT_GRANT = m then d else d.setFld HKA_STAT_GRANT (if idle then m else 0)

theorem Dev.writeHkaHost_claims {value : Word} {m : Nat} (hkey : wGet value 16 8 = 0x5A) (hm : wGet value 0 2 = m)
    (hvalid : m ≠ 3) : d.writeHkaHost value = (d.claimNoted m).claimShown m (d.claimIdle m) := by
  unfold Dev.writeHkaHost
  dsimp only
  rw [hkey, hm, if_neg (by simp [hvalid])]
  rfl

theorem Dev.claimNoted_notes (d : Dev) {m : Nat} (hm : m < 4) :
    (d.claimNoted m).fld HKA_HOST_CLAIM = m ∧ d.leaves (d.claimNoted m) [HKA_HOST, HKA_STAT] := by
  have hset : (d.setFld HKA_HOST_CLAIM m).fld HKA_HOST_CLAIM = m :=
    (Dev.fld_setFld_same d _ _ (by decide)).trans (Nat.mod_eq_of_lt hm)
  have hleaves : d.leaves (d.setFld HKA_HOST_CLAIM m) [HKA_HOST, HKA_STAT] := leaves_setFld (d.leaves_refl _) (by decide)
  have hrefers := (d.setFld HKA_HOST_CLAIM m).hostRefers_refers false
  unfold Dev.claimNoted
  split
  · exact ⟨(hrefers.apart _ (by decide)).trans hset, leaves_trans hleaves (leaves_mono hrefers.leaves (by simp))⟩
  · exact ⟨hset, hleaves⟩

theorem Dev.claimShown_shows (d : Dev) {m : Nat} {idle : Bool} (hm : m < 4) :
    (d.claimShown m idle).fld HKA_HOST_CLAIM = d.fld HKA_HOST_CLAIM ∧ d.leaves (d.claimShown m idle) [HKA_STAT] ∧
      (idle = true ∨ m = 0 → (d.claimShown m idle).fld HKA_STAT_GRANT = m) := by
  unfold Dev.claimShown
  split
  next hgranted => exact ⟨rfl, d.leaves_refl _, fun _ => hgranted⟩
  next =>
    refine ⟨Dev.fld_setFld_apart _ _ (by decide) (by decide), leaves_setFld (d.leaves_refl _) (by decide), fun hidle => ?_⟩
    refine (Dev.fld_setFld_same _ _ _ (by decide)).trans ?_
    obtain rfl | rfl := hidle
    · exact Nat.mod_eq_of_lt hm
    · rw [ite_self]
      rfl

theorem claim_ignored {value : Word} (h : wGet value 16 8 ≠ 0x5A ∨ wGet value 0 2 = 3) :
    Completes (.claim value) s fun t => t = s.dev.ignoreWrite :=
  completes_of (f := fun d => d.writeHkaHost value) rfl (Dev.writeHkaHost_ignored h)

theorem claim_claims {value : Word} {m : Nat} (hkey : wGet value 16 8 = 0x5A) (hm : wGet value 0 2 = m) (hvalid : m ≠ 3) :
    Completes (.claim value) s fun t => t.fld HKA_HOST_CLAIM = m ∧ s.dev.leaves t [HKA_HOST, HKA_STAT] ∧
      (s.dev.claimIdle m = true ∨ m = 0 → t.fld HKA_STAT_GRANT = m) := by
  have hlt : m < 4 := hm ▸ wGet_lt value 0 2
  refine completes_of (f := fun d => d.writeHkaHost value) rfl ?_
  rw [Dev.writeHkaHost_claims hkey hm hvalid]
  obtain ⟨hclaim, hleaves⟩ := s.dev.claimNoted_notes hlt
  obtain ⟨hkept, hstat, hgrant⟩ := (s.dev.claimNoted m).claimShown_shows (idle := s.dev.claimIdle m) hlt
  exact ⟨hkept.trans hclaim, leaves_trans hleaves (leaves_mono hstat (by simp)), hgrant⟩

theorem hkaClaimExpired_none (h : s.dev.fld HKA_HOST_CLAIM = 0) : Completes .hkaClaimExpired s fun t => t = s.dev :=
  completes_of (f := Dev.claimExpired) rfl (if_pos h)

/-- A claim that has expired is no longer shown. -/
def Dev.unclaimed (d : Dev) : Dev := ((d.hostRefers false).setFld HKA_HOST_CLAIM 0).setFld HKA_STAT_GRANT 0

theorem hkaClaimExpired_ends (h : s.dev.fld HKA_HOST_CLAIM ≠ 0) : Completes .hkaClaimExpired s fun t =>
    t.fld HKA_HOST_CLAIM = 0 ∧ t.fld HKA_STAT_GRANT = 0 ∧ s.dev.rang t 116 (word (s.dev.fld HKA_HOST_CLAIM)) 0 ∧
      s.dev.leavesRing t [HKA_HOST, HKA_STAT] := by
  have hexec : s.dev.claimExpired = s.dev.unclaimed.ring 116 (word (s.dev.fld HKA_HOST_CLAIM)) 0 := if_neg h
  refine completes_of (f := Dev.claimExpired) rfl ?_
  rw [hexec]
  have hrefers := s.dev.hostRefers_refers false
  refine ⟨(Dev.ring_fld (by decide) ..).trans ?_, (Dev.ring_fld (by decide) ..).trans ?_, rang_ring (e := s.dev.unclaimed) hrefers.evr .., ?_⟩
  · exact (Dev.fld_setFld_apart _ _ (by decide) (by decide)).trans (Dev.fld_setFld_same _ _ _ (by decide))
  · exact Dev.fld_setFld_same _ _ _ (by decide)
  · refine leavesRing_ring (leavesRing_of_leaves ?_) ..
    exact leaves_setFld (leaves_setFld (leaves_mono hrefers.leaves (by simp)) (by decide)) (by decide)

/-! Host conversions (R835). -/

theorem hostConversion_refused {value : Word} (h : s.dev.fld HKA_STAT_GRANT = 0) :
    Completes (.hostConversion value) s fun t => t = s.dev.bump HKA_CNT_REFUSED :=
  completes_of (f := fun d => d.hostConversion value) rfl (if_pos (.inl h))

/-- The reference that the host's command names for a channel. -/
def hostRefsel (value : Word) : Nat := if wGet value 0 4 < 4 then wGet value 8 2 else 0

/-- The conversion that the host's command starts. -/
def Dev.hostConv (d : Dev) (value : Word) : HkaConv :=
  ⟨wGet value 0 4, true, hostRefsel value, wGet value 16 8, wGet value 14 1 == 1, !d.refReady (hostRefsel value)⟩

/-- The interleaved conversion starts on converter B, or waits for it. -/
def Dev.interleaves (d : Dev) (k : HkaConv) : Dev :=
  if d.hka.convB.isNone then d.setConv true (some k) else (d.setHka { d.hka with ilv := some k }).bump HKA_CNT_ILVWAIT

/-- The host's conversion starts on converter A. -/
def Dev.hostStarted (d : Dev) (value : Word) : Dev :=
  (d.hostRefers (hostRefsel value == 1)).setConv false (some (d.hostConv value))

theorem Dev.hostStarted_starts (d : Dev) (value : Word) : (d.hostStarted value).hka.convA = some (d.hostConv value) ∧
    (d.hostStarted value).hka.convB = d.hka.convB ∧ d.leaves (d.hostStarted value) [HKA_STAT] := by
  have hrefers := d.hostRefers_refers (hostRefsel value == 1)
  refine ⟨?_, ?_, leaves_setConv hrefers.leaves (by decide) ..⟩
  · rw [Dev.hostStarted, Dev.setConv_hka]
    rfl
  · rw [Dev.hostStarted, Dev.setConv_hka, hrefers.hka]
    rfl

theorem Dev.interleaves_free {k : HkaConv} (h : d.hka.convB = none) : (d.interleaves k).hka.convA = d.hka.convA ∧
    (d.interleaves k).hka.convB = some k ∧ d.leaves (d.interleaves k) [HKA_STAT] := by
  have hset : d.interleaves k = d.setConv true (some k) := if_pos (by simp [h])
  rw [hset, Dev.setConv_hka]
  exact ⟨rfl, rfl, leaves_setConv (d.leaves_refl _) (by decide) ..⟩

theorem Dev.interleaves_waits {k o : HkaConv} (h : d.hka.convB = some o) :
    d.interleaves k = (d.setHka { d.hka with ilv := some k }).bump HKA_CNT_ILVWAIT := if_neg (by simp [h])

section

variable {value : Word} (hgrant : s.dev.fld HKA_STAT_GRANT = 1) (hfree : s.dev.hka.convA = none) (hon : s.dev.hkaOn = true)
  (hrun : s.dev.hkaSkips (wGet value 0 4) (hostRefsel value) = false)
include hgrant hfree hon hrun

theorem hostConversion_starts : s.dev.hostConversion value =
    if wGet value 15 1 = 1 then (s.dev.hostStarted value).interleaves (s.dev.hostConv value) else s.dev.hostStarted value := by
  have hconv : s.dev.conv false = none := hfree
  have hskips := (s.dev.hostRefers_refers (hostRefsel value == 1)).hkaSkips (wGet value 0 4) (hostRefsel value)
  have hready := s.dev.hostRefers_ready (hostRefsel value)
  unfold Dev.hostConversion
  simp only [hgrant]
  rw [show (1 == 2) = false from rfl, hconv, if_neg (by simp [hon]), ← hostRefsel, ← Dev.hostRefers, hskips, hready,
    if_neg (by simp [hrun])]
  simp only [and_true]
  rfl

theorem hostConversion_alone (hone : wGet value 15 1 = 0) :
    Completes (.hostConversion value) s fun t => t = s.dev.hostStarted value :=
  completes_of (f := fun d => d.hostConversion value) rfl
    ((hostConversion_starts hgrant hfree hon hrun).trans (if_neg (by simp [hone])))

theorem hostConversion_both (hilv : wGet value 15 1 = 1) :
    Completes (.hostConversion value) s fun t => t = (s.dev.hostStarted value).interleaves (s.dev.hostConv value) :=
  completes_of (f := fun d => d.hostConversion value) rfl
    ((hostConversion_starts hgrant hfree hon hrun).trans (if_pos hilv))

end

/-! Faults of the references and converters (R838, R850, R851). -/

/-- A machine without the ticks at which faults were last told. -/
def Dev.offFaults (d : Dev) : Dev := { d with hka := { d.hka with faultTicks := [] } }

theorem offFaults_spares : SparesNvm Dev.offFaults := fun _ => ⟨rfl, rfl⟩

/-- The tick of a kind of fault noted. -/
def Dev.faultNoted (d : Dev) (kind : Nat) : Dev :=
  d.setHka { d.hka with faultTicks := (kind, d.ticks) :: d.hka.faultTicks.filter fun p => p.1 != kind }

theorem hkaFault_told (d : Dev) (kind ch : Nat) : Dev.AltersRing Dev.offFaults as d (d.hkaFault kind ch) := by
  unfold Dev.hkaFault
  dsimp only
  split
  · exact altersRing_refl d
  · exact altersRing_ring (altersRing_of (f := d.faultNoted kind) (altersRing_refl d) rfl rfl rfl)

theorem leavesRing_hkaFault (h : d.leavesRing e as) (kind ch : Nat) : d.leavesRing (e.hkaFault kind ch) as :=
  leavesRing_alters h (hkaFault_told (as := as) e kind ch) (List.Subset.refl as) offFaults_spares

theorem Dev.hkaFault_flag (d : Dev) (kind ch : Nat) {g : Fld} (hg : g.addr ∉ ringRegs) :
    (d.hkaFault kind ch).flag g = d.flag g := (hkaFault_told (as := []) d kind ch).flag List.not_mem_nil hg

/-- The readiness of REFIN, and its fault, as they are shown. -/
structure Dev.RefinShown (d : Dev) (ready fault : Bool) : Prop where
  ready : d.flag HKA_STAT_REFIN_RDY = ready
  fault : d.flag HKA_STAT_REFIN_FAULT = fault

/-- A check of REFIN noted. -/
def Dev.refinNoted (d : Dev) (ok : Bool) : Dev := ((d.setFlag HKA_STAT_REFIN_RDY ok).draw 16).2

theorem Dev.refinNoted_shown (d : Dev) (ok : Bool) : (d.refinNoted ok).RefinShown ok (d.flag HKA_STAT_REFIN_FAULT) :=
  ⟨Dev.flag_setFlag_same _ _ _ (by decide) (by decide), Dev.flag_setFlag_apart _ _ (by decide) (by decide)⟩

theorem leaves_refinNoted (d : Dev) (ok : Bool) : d.leaves (d.refinNoted ok) [HKA_STAT] :=
  leaves_of (leaves_setFlag (f := HKA_STAT_REFIN_RDY) (d.leaves_refl [HKA_STAT]) (by decide)) rfl rfl rfl rfl

/-- What the check of an enabled REFIN within its range does once noted. -/
def Dev.refinGood (d : Dev) (ch : Nat) : Dev :=
  if d.flag HKA_STAT_REFIN_FAULT then
    if d.hka.good = 0 then d.setHka { d.hka with good := 1 }
    else (((d.setHka { d.hka with good := 0 }).setFlag HKA_STAT_REFIN_FAULT false).hkaFault 2 ch).releaseWaits 1
  else d.releaseWaits 1

/-- What the check of an enabled REFIN outside its range does once noted. -/
def Dev.refinBad (d : Dev) (ch : Nat) : Dev :=
  if d.flag HKA_STAT_REFIN_FAULT then d.setHka { d.hka with good := 0 }
  else ((d.setHka { d.hka with good := 0 }).setFlag HKA_STAT_REFIN_FAULT true).hkaFault 1 ch

theorem Dev.refinCheck_enabled (h : d.refinEnabled = true) (ok : Bool) :
    ∃ ch, d.refinCheck ok = if ok then (d.refinNoted ok).refinGood ch else (d.refinNoted ok).refinBad ch := by
  refine ⟨((d.setFlag HKA_STAT_REFIN_RDY ok).draw 16).1, ?_⟩
  unfold Dev.refinCheck
  rw [if_neg (by simp [h])]
  rfl

end Sys2Proof.Machine
end

section
/-!
SUPPORT. The REFIN check, conversions abandoned and the TDAC (R837, R838, R842, R850, R851).
-/

namespace Sys2Proof.Machine

variable {d e : Dev} {s : State} {as : List Nat}

/-! The REFIN check (R838, R850). -/

theorem Dev.releaseWait_good (d : Dev) (refsel : Nat) (b : Bool) : (d.releaseWait refsel b).hka.good = d.hka.good := by
  unfold Dev.releaseWait
  split
  · split
    · rw [Dev.setConv_hka]
      cases b <;> rfl
    · rfl
  · rfl

theorem Dev.releaseWaits_good (d : Dev) (refsel : Nat) : (d.releaseWaits refsel).hka.good = d.hka.good :=
  (Dev.releaseWait_good ..).trans (Dev.releaseWait_good ..)

theorem Dev.RefinShown.releaseWaits {ready fault : Bool} (h : d.RefinShown ready fault) :
    (d.releaseWaits 1).RefinShown ready fault := by
  obtain ⟨-, -, hflag⟩ := d.releaseWaits_frees 1
  exact ⟨(hflag _ (by decide)).trans h.ready, (hflag _ (by decide)).trans h.fault⟩

theorem Dev.RefinShown.hkaFault {ready fault : Bool} (h : d.RefinShown ready fault) (kind ch : Nat) :
    (d.hkaFault kind ch).RefinShown ready fault :=
  ⟨(Dev.hkaFault_flag _ _ _ (by decide)).trans h.ready, (Dev.hkaFault_flag _ _ _ (by decide)).trans h.fault⟩

/-- The fault of REFIN begins or ends. -/
def Dev.refinJudged (d : Dev) (fault : Bool) : Dev := (d.setHka { d.hka with good := 0 }).setFlag HKA_STAT_REFIN_FAULT fault

theorem Dev.RefinShown.refinJudged {ready old : Bool} (h : d.RefinShown ready old) (fault : Bool) :
    (d.refinJudged fault).RefinShown ready fault :=
  ⟨(Dev.flag_setFlag_apart _ _ (by decide) (by decide)).trans h.ready, Dev.flag_setFlag_same _ _ _ (by decide) (by decide)⟩

theorem leaves_refinJudged (d : Dev) (fault : Bool) : d.leaves (d.refinJudged fault) [HKA_STAT] :=
  leaves_setFlag (leaves_setHka (d.leaves_refl _) _) (by decide)

/-- What a good check of REFIN leads to. -/
structure Dev.RefinPassed (d e : Dev) : Prop where
  whole : d.flag HKA_STAT_REFIN_FAULT = false → e.RefinShown true false ∧ d.leaves e [HKA_STAT]
  first : d.flag HKA_STAT_REFIN_FAULT = true → d.hka.good = 0 → e.hka.good = 1 ∧ e.RefinShown true true ∧ d.leaves e [HKA_STAT]
  again : d.flag HKA_STAT_REFIN_FAULT = true → d.hka.good ≠ 0 →
    e.hka.good = 0 ∧ e.RefinShown true false ∧ d.leavesRing e [HKA_STAT]

theorem Dev.refinGood_passes (h : d.flag HKA_STAT_REFIN_RDY = true) (ch : Nat) : d.RefinPassed (d.refinGood ch) := by
  have hshown : d.RefinShown true (d.flag HKA_STAT_REFIN_FAULT) := ⟨h, rfl⟩
  refine ⟨fun hfault => ?_, fun hfault hgood => ?_, fun hfault hgood => ?_⟩
  · have heq : d.refinGood ch = d.releaseWaits 1 := if_neg (by simp [hfault])
    obtain ⟨-, hleaves, -⟩ := d.releaseWaits_frees 1
    rw [heq, ← hfault]
    exact ⟨hshown.releaseWaits, hleaves⟩
  · have heq : d.refinGood ch = d.setHka { d.hka with good := 1 } := (if_pos hfault).trans (if_pos hgood)
    rw [heq]
    exact ⟨rfl, ⟨h, hfault⟩, leaves_setHka (d.leaves_refl _) _⟩
  · have heq : d.refinGood ch = ((d.refinJudged false).hkaFault 2 ch).releaseWaits 1 := (if_pos hfault).trans (if_neg hgood)
    have hnone : ((d.refinJudged false).hkaFault 2 ch).hka.good = 0 :=
      (hkaFault_told (as := []) (d.refinJudged false) 2 ch).keeps (·.hka.good) fun _ => rfl
    have hleaves := leavesRing_hkaFault (leavesRing_of_leaves (leaves_refinJudged d false)) 2 ch
    have hjudged := (hshown.refinJudged false).hkaFault 2 ch
    rw [heq]
    generalize (d.refinJudged false).hkaFault 2 ch = x at *
    obtain ⟨-, hrelease, -⟩ := x.releaseWaits_frees 1
    exact ⟨(x.releaseWaits_good 1).trans hnone, hjudged.releaseWaits, leavesRing_trans hleaves (leavesRing_of_leaves hrelease)⟩

theorem Dev.refinBad_fails (h : d.flag HKA_STAT_REFIN_RDY = false) (ch : Nat) :
    (d.refinBad ch).RefinShown false true ∧ d.leavesRing (d.refinBad ch) [HKA_STAT] := by
  have hshown : d.RefinShown false (d.flag HKA_STAT_REFIN_FAULT) := ⟨h, rfl⟩
  unfold Dev.refinBad
  split
  next hfault => exact ⟨⟨h, hfault⟩, leavesRing_of_leaves (leaves_setHka (d.leaves_refl _) _)⟩
  next => exact ⟨(hshown.refinJudged true).hkaFault 1 ch,
      leavesRing_hkaFault (leavesRing_of_leaves (leaves_refinJudged d true)) 1 ch⟩

theorem refinCheck_disabled (h : s.dev.refinEnabled = false) (ok : Bool) :
    Completes (.refinCheck ok) s fun t => t = s.dev.setFlag HKA_STAT_REFIN_RDY false :=
  completes_of (f := fun d => d.refinCheck ok) rfl (if_pos h)

theorem refinCheck_good (h : s.dev.refinEnabled = true) :
    Completes (.refinCheck true) s fun t => (s.dev.refinNoted true).RefinPassed t ∧ t.flag HKA_STAT_REFIN_RDY = true := by
  refine completes_of (f := fun d => d.refinCheck true) rfl ?_
  obtain ⟨ch, heq⟩ := Dev.refinCheck_enabled h true
  rw [heq, if_pos rfl]
  have hpassed := Dev.refinGood_passes (s.dev.refinNoted_shown true).ready ch
  refine ⟨hpassed, ?_⟩
  cases hfault : (s.dev.refinNoted true).flag HKA_STAT_REFIN_FAULT with
  | false => exact (hpassed.whole hfault).1.ready
  | true =>
    by_cases hgood : (s.dev.refinNoted true).hka.good = 0
    · obtain ⟨-, hshown, -⟩ := hpassed.first hfault hgood
      exact hshown.ready
    · obtain ⟨-, hshown, -⟩ := hpassed.again hfault hgood
      exact hshown.ready

theorem refinCheck_bad (h : s.dev.refinEnabled = true) : Completes (.refinCheck false) s fun t =>
    t.RefinShown false true ∧ s.dev.leavesRing t [HKA_STAT] := by
  refine completes_of (f := fun d => d.refinCheck false) rfl ?_
  obtain ⟨ch, heq⟩ := Dev.refinCheck_enabled h false
  rw [heq, if_neg (by decide)]
  obtain ⟨hshown, hleaves⟩ := Dev.refinBad_fails (s.dev.refinNoted_shown false).ready ch
  exact ⟨hshown, leavesRing_trans (leavesRing_of_leaves (leaves_refinNoted ..)) hleaves⟩

/-! Conversions abandoned (R851). -/

section

variable {c : Instr} {b waits : Bool}
  (hc : (c, waits) ∈ [(Instr.referenceTimeout b, true), (.conversionTimeout b, false)])
include hc

theorem timeout_exec : exec c s = s.run fun d => d.abandonConv b waits (if waits then 3 else 4) := by
  simp only [List.mem_cons, Prod.mk.injEq, List.not_mem_nil, or_false] at hc
  obtain ⟨rfl, rfl⟩ | ⟨rfl, rfl⟩ := hc
  · rfl
  · rfl

theorem timeout_idle (h : s.dev.conv b = none) : Completes c s fun t => t = s.dev := by
  refine completes_of (timeout_exec hc) ?_
  rw [Dev.abandonConv, h]

variable {k : HkaConv} (hk : s.dev.conv b = some k)
include hk

theorem timeout_other (h : k.waiting ≠ waits) : Completes c s fun t => t = s.dev := by
  refine completes_of (timeout_exec hc) ?_
  simp only [Dev.abandonConv, hk, beq_iff_eq, h, if_false]

theorem timeout_abandons (hilv : s.dev.hka.ilv = none) (h : k.waiting = waits) : Completes c s fun t =>
    t.conv b = none ∧ t.hka.chans = s.dev.hka.chans ∧ t.flag (busyFlag b) = false ∧ s.dev.leavesRing t [HKA_STAT] := by
  refine completes_of (timeout_exec hc) ?_
  have hfreed := s.dev.convIdle_freed (b := b) (.inr hilv)
  simp only [Dev.abandonConv, hk, beq_iff_eq, h, if_true]
  generalize (if waits then 3 else 4) = kind
  have htold := hkaFault_told (as := []) (s.dev.convIdle b) kind k.ch
  refine ⟨(htold.keeps (·.conv b) fun _ => rfl).trans hfreed.conv, (htold.keeps (·.hka.chans) fun _ => rfl).trans hfreed.chans,
    (Dev.hkaFault_flag _ _ _ ?_).trans hfreed.busy, leavesRing_hkaFault (leavesRing_of_leaves hfreed.leaves) ..⟩
  cases b <;> decide

end

/-! The TDAC (R842, R849). -/

/-- What the TDAC's write does at a channel whose switch closes or opens. -/
def Dev.tdacTurn (d : Dev) (c : Nat) (closes : Bool) : Dev :=
  let d := (d.discardConv false c).discardConv true c
  if closes then d.bandReset c else d

/-- What the TDAC's write does at a channel. -/
def Dev.tdacStep (was now : List Nat) (d : Dev) (c : Nat) : Dev :=
  if was.contains c = now.contains c then d else d.tdacTurn c (now.contains c)

theorem Dev.writeTdac_eq (d : Dev) (value : Word) : d.writeTdac value = (List.range 4).foldl
    (Dev.tdacStep ((List.range 4).filter d.tdacOn) ((List.range 4).filter (d.storeReg HKA_TDAC value).tdacOn))
    (d.storeReg HKA_TDAC value) := rfl

/-- A machine without what the TDAC's switches change beside their register. -/
def Dev.offSwitch (d : Dev) : Dev := { d with regs := [], hka := {} }

theorem alters_setHka (h : Dev.Alters Dev.offSwitch as d e) (k : Hka) : Dev.Alters Dev.offSwitch as d (e.setHka k) :=
  alters_of h rfl rfl

theorem alters_discardConv (d : Dev) (b : Bool) (c : Nat) :
    Dev.Alters Dev.offSwitch [HKA_STAT, HKA_CNT] d (d.discardConv b c) := by
  have hconv (x : Dev) (v : Option HkaConv) : Dev.Alters Dev.offSwitch [HKA_STAT, HKA_CNT] x (x.setConv b v) :=
    alters_mono (alters_setConv x b v) (by simp)
  have hidle : Dev.Alters Dev.offSwitch [HKA_STAT, HKA_CNT] d (d.convIdle b) := by
    unfold Dev.convIdle
    extract_lets x code
    split
    · exact alters_trans (alters_setHka (hconv d none) _) (hconv _ _)
    · split
      · exact alters_setFld (g := HKA_STAT_GRANT) (hconv d none) (by decide)
      · exact hconv d none
  unfold Dev.discardConv
  split
  · split
    · exact alters_bump hidle (by decide)
    · exact alters_refl d
  · exact alters_refl d

theorem alters_tdacStep (was now : List Nat) (d : Dev) (c : Nat) :
    Dev.Alters Dev.offSwitch [HKA_STAT, HKA_CNT, HKA_BCFG c] d (Dev.tdacStep was now d c) := by
  unfold Dev.tdacStep Dev.tdacTurn
  split
  · exact alters_refl d
  · have hdiscard : Dev.Alters Dev.offSwitch [HKA_STAT, HKA_CNT, HKA_BCFG c] d ((d.discardConv false c).discardConv true c) :=
      alters_mono (alters_trans (alters_discardConv d false c) (alters_discardConv _ true c)) (by simp)
    generalize (d.discardConv false c).discardConv true c = x at *
    dsimp only
    split
    · exact alters_of (e := x.setFld (HKA_BCFG_STATE c) bandUnknown)
        (alters_setFld (g := HKA_BCFG_STATE c) hdiscard (by simp)) rfl rfl
    · exact hdiscard

/-- The registers that the TDAC's switches change beside their own. -/
abbrev switchRegs : List Nat := [HKA_STAT, HKA_CNT, HKA_BCFG 0, HKA_BCFG 1, HKA_BCFG 2, HKA_BCFG 3]

theorem alters_writeTdac (d : Dev) (value : Word) :
    Dev.Alters Dev.offSwitch switchRegs (d.storeReg HKA_TDAC value) (d.writeTdac value) := by
  rw [Dev.writeTdac_eq]
  refine alters_foldl _ _ fun x c hc => alters_mono (alters_tdacStep _ _ x c) ?_
  have hall : ∀ c ∈ List.range 4, [HKA_STAT, HKA_CNT, HKA_BCFG c] ⊆ switchRegs := by decide
  exact hall c hc

theorem Dev.tdac_stored (d : Dev) (value : Word) : (d.storeReg HKA_TDAC value).flag HKA_TDAC_EN = (wGet value 12 1 != 0) ∧
    (d.storeReg HKA_TDAC value).fld HKA_TDAC_PIN = wGet value 10 2 ∧
    (d.storeReg HKA_TDAC value).fld HKA_TDAC_CODE = wGet value 0 10 :=
  ⟨Dev.flag_storeReg d HKA_TDAC_EN value (by decide), Dev.fld_storeReg d HKA_TDAC_PIN value (by decide),
    Dev.fld_storeReg d HKA_TDAC_CODE value (by decide)⟩

theorem tdac_stores (value : Word) : Completes (.tdac value) s fun t => t.fld HKA_TDAC_CODE = wGet value 0 10 ∧
    t.fld HKA_TDAC_PIN = wGet value 10 2 := by
  obtain ⟨-, hpin, hcode⟩ := s.dev.tdac_stored value
  have halters := alters_writeTdac s.dev value
  exact completes_of (f := fun d => d.writeTdac value) rfl
    ⟨(halters.fld (by decide)).trans hcode, (halters.fld (by decide)).trans hpin⟩

theorem foldl_at {α β : Type} [DecidableEq α] {f : β → α → β} {y : β} (p : α) (b : β) (cs : List α)
    (hbefore : ∀ c, c ≠ p → f b c = b) (hat : f b p = y) (hafter : ∀ c, c ≠ p → f y c = y)
    (hmem : p ∈ cs) (hdup : cs.Nodup) : cs.foldl f b = y := by
  have hrest (xs : List α) (hp : p ∉ xs) : xs.foldl f y = y := by
    induction xs with
    | nil => rfl
    | cons x xs ih =>
      simp only [List.mem_cons, not_or] at hp
      rw [List.foldl_cons, hafter x (Ne.symm hp.1), ih hp.2]
  induction cs with
  | nil => simp at hmem
  | cons x xs ih =>
    obtain ⟨hnot, hnodup⟩ := List.nodup_cons.mp hdup
    rw [List.foldl_cons]
    by_cases hx : x = p
    · subst hx
      rw [hat, hrest xs hnot]
    · rw [hbefore x hx, ih (List.mem_of_ne_of_mem (Ne.symm hx) hmem) hnodup]

theorem Dev.discardConv_idle {b : Bool} (h : d.conv b = none) (c : Nat) : d.discardConv b c = d := by
  rw [Dev.discardConv, h]

section

variable {value : Word} {p : Nat} (hen : wGet value 12 1 = 1) (hpin : wGet value 10 2 = p)
  (hoff : d.flag HKA_TDAC_EN = false) (hfreeA : d.conv false = none) (hfreeB : d.conv true = none)
include hen hpin hoff hfreeA hfreeB

theorem Dev.writeTdac_closes : d.writeTdac value = (d.storeReg HKA_TDAC value).bandReset p := by
  have hlt : p < 4 := hpin ▸ wGet_lt value 10 2
  obtain ⟨hstored, hpins, -⟩ := d.tdac_stored value
  have hwas (c : Nat) : ((List.range 4).filter d.tdacOn).contains c = false := by
    have hnone : (List.range 4).filter d.tdacOn = [] := by simp [Dev.tdacOn, hoff]
    rw [hnone]
    rfl
  have hnow (c : Nat) : ((List.range 4).filter (d.storeReg HKA_TDAC value).tdacOn).contains c = decide (c = p) := by
    rw [Bool.eq_iff_iff]
    simp only [List.contains_eq_mem, List.mem_filter, List.mem_range, Dev.tdacOn, hstored, hpins, hen, hpin,
      decide_eq_true_eq]
    simp
    omega
  rw [Dev.writeTdac_eq]
  refine foldl_at p _ _ (fun c hc => ?_) ?_ (fun c hc => ?_) (List.mem_range.mpr hlt) List.nodup_range
  · exact if_pos (by rw [hwas, hnow, decide_eq_false hc])
  · unfold Dev.tdacStep Dev.tdacTurn
    rw [hwas, hnow, decide_eq_true rfl, if_neg (by decide), Dev.discardConv_idle (d := d.storeReg HKA_TDAC value) hfreeA,
      Dev.discardConv_idle (d := d.storeReg HKA_TDAC value) hfreeB]
    rfl
  · exact if_pos (by rw [hwas, hnow, decide_eq_false hc])

end

theorem Dev.bandReset_resets (d : Dev) {c : Nat} (h : c < d.hka.chans.length) :
    (d.bandReset c).fld (HKA_BCFG_STATE c) = bandUnknown ∧ ((d.bandReset c).hkaChan c).run = 0 ∧
      (∀ g : Fld, g.addr ≠ HKA_BCFG c → (d.bandReset c).fld g = d.fld g) ∧ d.leaves (d.bandReset c) [HKA_BCFG c] := by
  refine ⟨Dev.fld_setFld_same d (HKA_BCFG_STATE c) 0 (Nat.le_of_ble_eq_true rfl), ?_, fun g hg => Dev.fld_setReg_ne d _ hg, ?_⟩
  · exact congrArg HkaChan.run (Dev.hkaChan_setHkaChan_same (d.setFld (HKA_BCFG_STATE c) bandUnknown) _ h)
  · exact leaves_setHka (leaves_setFld (f := HKA_BCFG_STATE c) (d.leaves_refl _) (by simp)) _

theorem tdac_closes {value : Word} {p : Nat} (hlen : s.dev.hka.chans.length = 16) (hen : wGet value 12 1 = 1)
    (hpin : wGet value 10 2 = p) (hoff : s.dev.flag HKA_TDAC_EN = false) (hfreeA : s.dev.conv false = none)
    (hfreeB : s.dev.conv true = none) : Completes (.tdac value) s fun t => t.flag HKA_TDAC_EN = true ∧
      t.fld HKA_TDAC_PIN = p ∧ t.fld HKA_TDAC_CODE = wGet value 0 10 ∧ t.fld (HKA_BCFG_STATE p) = bandUnknown ∧
      (t.hkaChan p).run = 0 ∧ s.dev.leaves t [HKA_TDAC, HKA_BCFG p] := by
  have hlt : p < 4 := hpin ▸ wGet_lt value 10 2
  have hapart : ∀ p < 4, HKA_TDAC ≠ HKA_BCFG p := by decide
  have hne : HKA_TDAC ≠ HKA_BCFG p := hapart p hlt
  refine completes_of (f := fun d => d.writeTdac value) rfl ?_
  rw [Dev.writeTdac_closes hen hpin hoff hfreeA hfreeB]
  obtain ⟨hstored, hpins, hcode⟩ := s.dev.tdac_stored value
  have hleaves : s.dev.leaves (s.dev.storeReg HKA_TDAC value) [HKA_TDAC, HKA_BCFG p] :=
    leaves_storeReg (s.dev.leaves_refl _) (by simp)
  have hchans : p < (s.dev.storeReg HKA_TDAC value).hka.chans.length := by
    rw [Dev.storeReg_hka, hlen]
    omega
  generalize s.dev.storeReg HKA_TDAC value = x at *
  obtain ⟨hstate, hrun, hkept, hreset⟩ := x.bandReset_resets hchans
  refine ⟨?_, (hkept HKA_TDAC_PIN hne).trans (hpins.trans hpin), (hkept HKA_TDAC_CODE hne).trans hcode, hstate, hrun,
    leaves_trans hleaves (leaves_mono hreset (by simp))⟩
  rw [Dev.flag, hkept HKA_TDAC_EN hne, ← Dev.flag, hstored, hen]
  rfl

end Sys2Proof.Machine
end

section
/-!
SUPPORT. System calibration of the converter (R843 to R845, R878), and O46.
-/

namespace Sys2Proof.Machine

variable {d e : Dev} {s : State} {as : List Nat}

/-! A step that ends with a status (R854). -/

/-- What the end of a step with a status shows. -/
structure Dev.StepEnded (d e : Dev) (op status c gain : Nat) : Prop where
  shown : e.fld HKA_SCSTAT_STATUS = status
  rang : d.rang e 115 (pack [(op, 20), (status, 16), (c, 0)]) (word gain)
  hka : e.hka = d.hka
  leaves : d.leavesRing e [HKA_SCSTAT]

theorem Dev.syscalEnd_ended (d : Dev) (op : Nat) {status : Nat} (h : status < 16) (c gain : Nat) :
    d.StepEnded (d.syscalEnd op status c gain) op status c gain := by
  have hend : d.syscalEnd op status c gain =
      (d.setFld HKA_SCSTAT_STATUS status).ring 115 (pack [(op, 20), (status, 16), (c, 0)]) (word gain) := rfl
  constructor <;> rw [hend] <;> generalize pack [(op, 20), (status, 16), (c, 0)] = w1
  · exact (Dev.ring_fld (by decide) ..).trans ((Dev.fld_setFld_same d _ _ (by decide)).trans (Nat.mod_eq_of_lt h))
  · exact rang_ring (by rfl) ..
  · exact Dev.ring_hka ..
  · exact leavesRing_ring (leavesRing_of_leaves (leaves_setFld (d.leaves_refl _) (by decide))) ..

theorem Dev.reg_syscalEnd (d : Dev) (op status c gain : Nat) {a : Nat} (ha : a ≠ HKA_SCSTAT) (hr : a ∉ ringRegs) :
    (d.syscalEnd op status c gain).reg a = d.reg a := (Dev.ring_reg hr ..).trans (Dev.reg_setFld_ne d _ _ ha)

/-! A write of HKA_SCCMD (R843, R856). -/

/-- What an operation of HKA_SCCMD does. -/
def Dev.syscalOp (d : Dev) (c vref : Nat) (copyOk : Bool) (op : Nat) : Dev :=
  if op = 1 ∨ op = 2 then d.syscalBegin op c false
  else if op = 3 then d.syscalApply c vref copyOk
  else if op = 4 then d.syscalDefault c copyOk
  else d

section

variable (value : Word) (op vref : Nat) (copyOk : Bool)

theorem writeSccmd_unkeyed (hkey : wGet value 16 8 ≠ 0x5A) :
    d.writeSccmd (wSet value 0 3 op) vref copyOk = d.ignoreWrite := by
  have hsame : wGet (wSet value 0 3 op) 16 8 = wGet value 16 8 := wGet_wSet_apart _ _ (by decide) (by decide)
  exact if_pos (hsame.symm ▸ hkey)

theorem writeSccmd_keyed (hop : op < 8) (hkey : wGet value 16 8 = 0x5A) :
    d.writeSccmd (wSet value 0 3 op) vref copyOk = d.syscalOp (wGet value 4 2) vref copyOk op := by
  have hsame : wGet (wSet value 0 3 op) 16 8 = wGet value 16 8 := wGet_wSet_apart _ _ (by decide) (by decide)
  have hch : wGet (wSet value 0 3 op) 4 2 = wGet value 4 2 := wGet_wSet_apart _ _ (by decide) (by decide)
  have hset : wGet (wSet value 0 3 op) 0 3 = op := (wGet_wSet_same _ _ _ _ (by decide)).trans (Nat.mod_eq_of_lt hop)
  unfold Dev.writeSccmd
  dsimp only
  rw [hsame, hch, hset, if_neg (by simp [hkey])]
  rfl

end

/-- The commands that write HKA_SCCMD, each with its operation and operands. -/
inductive SccmdWrite (value : Word) : Instr → Nat → Nat → Bool → Prop
  | zero : SccmdWrite value (.zero value) 1 0 true
  | full : SccmdWrite value (.full value) 2 0 true
  | apply (vref : Word) (ok : Bool) : SccmdWrite value (.apply value vref ok) 3 vref.toNat ok
  | default (ok : Bool) : SccmdWrite value (.default value ok) 4 0 ok

section

variable {value : Word} {i : Instr} {op vref : Nat} {ok : Bool} (hi : SccmdWrite value i op vref ok)
include hi

theorem SccmdWrite.exec : exec i s = s.run (fun d => d.writeSccmd (wSet value 0 3 op) vref ok) ∧ op < 8 := by
  cases hi with
  | zero => exact ⟨rfl, by decide⟩
  | full => exact ⟨rfl, by decide⟩
  | apply => exact ⟨rfl, by decide⟩
  | default => exact ⟨rfl, by decide⟩

theorem sccmd_ignored (hkey : wGet value 16 8 ≠ 0x5A) : Completes i s fun t => t = s.dev.ignoreWrite :=
  completes_of (hi.exec).1 (writeSccmd_unkeyed value op vref ok hkey)

theorem sccmd_runs (hkey : wGet value 16 8 = 0x5A) :
    Completes i s fun t => t = s.dev.syscalOp (wGet value 4 2) vref ok op :=
  completes_of (hi.exec).1 (writeSccmd_keyed value op vref ok (hi.exec (s := s)).2 hkey)

end

/-! Steps that begin (R843). -/

theorem syscalBegin_begins {op c : Nat} (hstep : d.hka.step = none) (hzero : op = 2 → d.hka.zero.getD c none ≠ none)
    (console : Bool) : (d.syscalBegin op c console).hka.step = some (c, op) ∧
      (d.syscalBegin op c console).hka.stepConsole = console ∧
      (d.syscalBegin op c console).fld HKA_SCSTAT_STATUS = 0 ∧ d.leaves (d.syscalBegin op c console) [HKA_SCSTAT] := by
  have hbegins : d.syscalBegin op c console =
      (d.setHka { d.hka with step := some (c, op), stepConsole := console }).setFld HKA_SCSTAT_STATUS 0 := by
    unfold Dev.syscalBegin
    rw [if_neg (by simp [hstep]), if_neg]
    rintro ⟨hop, hnone⟩
    exact hzero hop (Option.isNone_iff_eq_none.mp hnone)
  rw [hbegins]
  exact ⟨rfl, rfl, Dev.fld_setFld_same _ _ _ (by decide), leaves_setFld (leaves_setHka (d.leaves_refl _) _) (by decide)⟩

theorem Dev.syscalBegin_zeroless {c : Nat} (hstep : d.hka.step = none) (hzero : d.hka.zero.getD c none = none)
    (console : Bool) : d.syscalBegin 2 c console = d.syscalEnd 2 2 c 0 := by
  unfold Dev.syscalBegin
  rw [if_neg (by simp [hstep]), if_pos ⟨rfl, Option.isNone_iff_eq_none.mpr hzero⟩]

/-! APPLY and DEFAULT (R843, R844, R878). -/

/-- A machine without its EEPROM, without the settings copy that waits, and without the count of draws. -/
def Dev.offSettings (d : Dev) : Dev := { d with nvm := [], hka := { d.hka with settingsDue := false }, free := 0 }

theorem stored_nvmWrite (d : Dev) (bs : List Byte) (a : Nat) : Dev.AltersRing Dev.offSettings as d (d.nvmWrite a bs) := by
  induction bs generalizing d a with
  | nil => exact altersRing_refl d
  | cons b bs ih =>
    refine altersRing_trans ?_ (ih _ _)
    exact altersRing_of (altersRing_refl d) rfl rfl rfl

/-- A free byte drawn for a copy that fails its read-back. -/
def drawByte (p : List Byte × Dev) : List Byte × Dev := (p.1 ++ [BitVec.ofNat 8 (p.2.draw 256).1], (p.2.draw 256).2)

theorem stored_drawBytes {α : Type} (xs : List α) (p : List Byte × Dev) :
    Dev.AltersRing Dev.offSettings as p.2 (xs.foldl (fun p _ => drawByte p) p).2 := by
  induction xs generalizing p with
  | nil => exact altersRing_refl _
  | cons x xs ih =>
    refine altersRing_trans ?_ (ih (drawByte p))
    exact altersRing_of (altersRing_refl p.2) rfl rfl rfl

theorem stored_writeCopy (d : Dev) (ok : Bool) : Dev.AltersRing Dev.offSettings as d (d.writeCopy ok) := by
  unfold Dev.writeCopy
  extract_lets second seq pairs body addr
  split
  · exact stored_nvmWrite ..
  · have hdrawn : Dev.AltersRing Dev.offSettings as d ((List.range 32).foldl (fun p _ => drawByte p) ([], d)).2 :=
      stored_drawBytes (List.range 32) ([], d)
    exact altersRing_ring (altersRing_trans hdrawn (stored_nvmWrite ..))

theorem stored_writeSettings (d : Dev) (ok : Bool) : Dev.AltersRing Dev.offSettings as d (d.writeSettings ok) := by
  unfold Dev.writeSettings
  split
  · exact altersRing_of (altersRing_refl d) rfl rfl rfl
  · exact stored_writeCopy ..

/-- The present system calibration of a channel is stored and logged. -/
def Dev.syscalStored (d : Dev) (ok : Bool) (c : Nat) (gain : Word) : Dev := (d.writeSettings ok).logSyscal c gain

theorem stored_syscalStored (d : Dev) (ok : Bool) (c : Nat) (gain : Word) :
    Dev.AltersRing Dev.offSettings as d (d.syscalStored ok c gain) :=
  altersRing_near (stored_writeSettings d ok) (near_logRec (.rfl _))

theorem calRegs_apart : ∀ c < 4, HKA_SCOFS c ∉ HKA_SCSTAT :: ringRegs ∧ HKA_SCGAIN c ∉ HKA_SCSTAT :: ringRegs := by
  decide

/-- The system calibration of a channel set, stored, logged and told. -/
def Dev.syscalSet (d : Dev) (ok : Bool) (c : Nat) (ofs gain shown : Word) (op told : Nat) : Dev :=
  (((d.setReg (HKA_SCOFS c) ofs).setReg (HKA_SCGAIN c) gain).syscalStored ok c shown).syscalEnd op 1 c told

theorem Dev.syscalSet_sets (d : Dev) (ok : Bool) {c : Nat} (hc : c < 4) (ofs gain shown : Word) (op told : Nat) :
    (d.syscalSet ok c ofs gain shown op told).fld HKA_SCSTAT_STATUS = 1 ∧
      (d.syscalSet ok c ofs gain shown op told).reg (HKA_SCOFS c) = ofs ∧
      (d.syscalSet ok c ofs gain shown op told).reg (HKA_SCGAIN c) = gain ∧
      (d.syscalSet ok c ofs gain shown op told).hka.zero = d.hka.zero ∧
      (d.syscalSet ok c ofs gain shown op told).hka.full = d.hka.full := by
  obtain ⟨hofs, hgain⟩ := calRegs_apart c hc
  simp only [List.mem_cons, not_or] at hofs hgain
  have hstored := stored_syscalStored (as := []) ((d.setReg (HKA_SCOFS c) ofs).setReg (HKA_SCGAIN c) gain) ok c shown
  have hzero : ((d.setReg (HKA_SCOFS c) ofs).setReg (HKA_SCGAIN c) gain).reg (HKA_SCOFS c) = ofs := by simp
  have hfull : ((d.setReg (HKA_SCOFS c) ofs).setReg (HKA_SCGAIN c) gain).reg (HKA_SCGAIN c) = gain := by simp
  unfold Dev.syscalSet
  have hended := (((d.setReg (HKA_SCOFS c) ofs).setReg (HKA_SCGAIN c) gain).syscalStored ok c shown).syscalEnd_ended
    op (status := 1) (by decide) c told
  refine ⟨hended.shown, ?_, ?_, ?_, ?_⟩
  · exact (Dev.reg_syscalEnd _ _ _ _ _ hofs.1 hofs.2).trans ((hstored.reg _ List.not_mem_nil hofs.2).trans hzero)
  · exact (Dev.reg_syscalEnd _ _ _ _ _ hgain.1 hgain.2).trans ((hstored.reg _ List.not_mem_nil hgain.2).trans hfull)
  · rw [hended.hka]
    exact hstored.keeps (·.hka.zero) fun _ => rfl
  · rw [hended.hka]
    exact hstored.keeps (·.hka.full) fun _ => rfl

theorem Dev.syscalApply_zeroless {c : Nat} (h : d.hka.zero.getD c none = none) (vref : Nat) (ok : Bool) :
    d.syscalApply c vref ok = d.syscalEnd 3 2 c 0 := by
  unfold Dev.syscalApply
  rw [h]

/-- The span of the converter against which Z is judged. -/
def Dev.calSpan (d : Dev) (c vref : Nat) : Nat := if planRef c (d.planWord c) = 0 then 1250000 else vref

/-- A ZERO and a FULL mean used up. -/
def Dev.meansUsed (d : Dev) (c : Nat) : Dev :=
  d.setHka { d.hka with zero := d.hka.zero.set c none, full := d.hka.full.set c none }

section

variable {c : Nat} {z f : Int} (hz : d.hka.zero.getD c none = some z) (hf : d.hka.full.getD c none = some f)
include hz hf

theorem Dev.syscalApply_barred (h : d.nvmBarred = true) (vref : Nat) (ok : Bool) :
    d.syscalApply c vref ok = d.syscalEnd 3 5 c 0 := by
  unfold Dev.syscalApply
  rw [hz, hf]
  exact if_pos h

theorem Dev.syscalApply_judged (h : d.nvmBarred = false) (vref : Nat) (ok : Bool) :
    (∀ x, d.syscalGain z f (d.calSpan c vref) = (none, x) → d.syscalApply c vref ok = x.syscalEnd 3 4 c 0) ∧
      ∀ g x, d.syscalGain z f (d.calSpan c vref) = (some g, x) →
        d.syscalApply c vref ok = (x.meansUsed c).syscalSet ok c (wordI z) (word g) (word g) 3 g := by
  have hopen : d.syscalApply c vref ok = match d.syscalGain z f (d.calSpan c vref) with
      | (none, d) => d.syscalEnd 3 4 c 0
      | (some g, d) => (d.meansUsed c).syscalSet ok c (wordI z) (word g) (word g) 3 g := by
    unfold Dev.syscalApply
    rw [hz, hf]
    exact if_neg (by simp [h])
  refine ⟨fun x hx => ?_, fun g x hx => ?_⟩
  · rw [hopen, hx]
  · rw [hopen, hx]

end

theorem Dev.syscalGain_nonpositive {z f : Int} (h : f ≤ z) (span : Nat) : d.syscalGain z f span = (none, d) := by
  unfold Dev.syscalGain
  extract_lets full diff
  exact if_pos (.inl (Int.sub_nonpos_of_le h))

theorem Dev.syscalGain_exact {z f : Int} {u span : Nat} (hfull : d.fld HKA_SCFULL_FULL = u) (hpos : 0 < f - z)
    (hlow : (f - z) * 8 ≤ (u : Int) * 10) (hhigh : (u : Int) * 4 ≤ (f - z) * 5) (hspan : z.natAbs * 10 ≤ span)
    (hexact : u * 4194304 % (f - z).toNat = 0) : d.syscalGain z f span = (some (u * 4194304 / (f - z).toNat), d) := by
  unfold Dev.syscalGain
  extract_lets full diff n
  have hn : n = u * 4194304 := congrArg (· * 4194304) hfull
  have hwithin : ¬ (diff ≤ 0 ∨ (full : Int) * 10 < diff * 8 ∨ diff * 5 < (full : Int) * 4 ∨ (span : Int) < z.natAbs * 10) := by
    unfold full diff
    omega
  rw [if_neg hwithin, ← hn, if_pos (hn ▸ hexact)]
  rfl

theorem Dev.syscalDefault_barred (h : d.nvmBarred = true) (c : Nat) (ok : Bool) :
    d.syscalDefault c ok = d.syscalEnd 4 5 c 0 := if_pos h

theorem Dev.syscalDefault_sets (h : d.nvmBarred = false) (c : Nat) (ok : Bool) :
    d.syscalDefault c ok = d.syscalSet ok c 0 0x400000#24 0 4 0 := if_neg (by simp [h])

/-! The end of a step (R827, R843). -/

/-- The channels of a list of values enter the accumulators. -/
def Dev.enterAll (d : Dev) (c : Nat) (values : List Word) : Dev := values.foldl (fun d v => d.enterValue c v 0) d

theorem valued_enterAll (d : Dev) (c : Nat) (values : List Word) : Dev.Valued (bandRegs c) d (d.enterAll c values) :=
  altersRing_foldl values d fun x v _ => valued_enterValue x c v 0

/-- The step in progress is over. -/
def Dev.stepOver (d : Dev) : Dev := d.setHka { d.hka with step := none, stepConsole := false }

/-- The ZERO mean kept. -/
def Dev.zeroKept (d : Dev) (c : Nat) (m : Int) : Dev :=
  d.setHka { d.hka with zero := d.hka.zero.set c (some m), full := d.hka.full.set c none }

/-- The console is told the status of the step that it began. -/
def Dev.stepTold (d : Dev) (console : Bool) : Dev :=
  if console then (d.print (.values 0xC3 [word (d.fld HKA_SCSTAT_STATUS)])).statusLine .ok else d

theorem Dev.stepTold_printed (d : Dev) (console : Bool) : d.Printed (d.stepTold console) := by
  unfold Dev.stepTold
  split
  · exact (d.print_printed _).trans (Dev.statusLine_printed _ _)
  · exact .rfl d

theorem valued_freeMean (d : Dev) (vs : List Word) : Dev.Valued as d (d.freeMean vs).2 := by
  unfold Dev.freeMean
  extract_lets sum n
  split
  next up x heq =>
    dsimp only
    split at heq
    · cases heq
      exact altersRing_refl d
    · have hx : x = (d.draw 2).2 := (congrArg Prod.snd heq).symm
      rw [hx]
      exact valued_draw (altersRing_refl d) 2

theorem Dev.freeMean_replicate (d : Dev) (v : Word) : d.freeMean (List.replicate 64 v) = (v.toInt, d) := by
  have hsum : ((List.replicate 64 v).map BitVec.toInt).sum = v.toInt * 64 := by
    rw [List.map_replicate, List.sum_replicate, nsmul_eq_mul, mul_comm]
    rfl
  unfold Dev.freeMean
  rw [hsum, List.length_replicate]
  generalize v.toInt = m
  extract_lets sum n
  have hn : n = 64 := rfl
  have hmod : sum % n = 0 := by rw [hn]; exact Int.mul_emod_left m 64
  rw [if_pos hmod, hn]
  have hdiv : sum / 64 = m := Int.mul_ediv_cancel m (by decide)
  dsimp only
  rw [hdiv]
  exact congrArg (·, d) (add_zero m)

section

variable {c : Nat} (hstep : d.hka.step = some (c, 1))
include hstep

theorem Dev.syscalStepEnd_zero (values : List Word) : d.syscalStepEnd values 0 =
    ((((d.stepOver.enterAll c values).freeMean values).2.zeroKept c
      ((d.stepOver.enterAll c values).freeMean values).1).syscalEnd 1 1 c 0).stepTold d.hka.stepConsole := by
  unfold Dev.syscalStepEnd
  rw [hstep]
  rfl

theorem Dev.syscalStepEnd_over (values : List Word) : d.syscalStepEnd values 1 =
    (((d.stepOver.enterAll c values).enterValue c 0 1).syscalEnd 1 3 c 0).stepTold d.hka.stepConsole := by
  unfold Dev.syscalStepEnd
  rw [hstep]
  rfl

theorem syscalStepEnd_keepsZero (hlen : c < d.hka.zero.length) (values : List Word) :
    (d.syscalStepEnd values 0).hka.step = none ∧ (d.syscalStepEnd values 0).fld HKA_SCSTAT_STATUS = 1 ∧
      (d.syscalStepEnd values 0).hka.zero.getD c none = some ((d.stepOver.enterAll c values).freeMean values).1 := by
  have hvalued : Dev.Valued (bandRegs c) d.stepOver ((d.stepOver.enterAll c values).freeMean values).2 :=
    altersRing_trans (valued_enterAll ..) (valued_freeMean ..)
  have hnone : ((d.stepOver.enterAll c values).freeMean values).2.hka.step = none := hvalued.keeps (·.hka.step) fun _ => rfl
  have hzero : ((d.stepOver.enterAll c values).freeMean values).2.hka.zero = d.hka.zero :=
    hvalued.keeps (·.hka.zero) fun _ => rfl
  rw [Dev.syscalStepEnd_zero hstep]
  generalize (d.stepOver.enterAll c values).freeMean values = x at *
  have hended := (x.2.zeroKept c x.1).syscalEnd_ended 1 (status := 1) (by decide) c 0
  have hprinted := ((x.2.zeroKept c x.1).syscalEnd 1 1 c 0).stepTold_printed d.hka.stepConsole
  have hhka := hprinted.keeps (·.hka) fun _ _ _ => rfl
  rw [hprinted.fld (by decide), hhka, hended.hka]
  refine ⟨hnone, hended.shown, ?_⟩
  simp [Dev.zeroKept, hzero, hlen]

theorem syscalStepEnd_overrange (values : List Word) :
    (d.syscalStepEnd values 1).hka.step = none ∧ (d.syscalStepEnd values 1).hka.zero = d.hka.zero ∧
      (d.syscalStepEnd values 1).fld HKA_SCSTAT_STATUS = 3 := by
  have hvalued : Dev.Valued (bandRegs c) d.stepOver ((d.stepOver.enterAll c values).enterValue c 0 1) :=
    altersRing_trans (valued_enterAll ..) (valued_enterValue ..)
  have hnone := hvalued.keeps (·.hka.step) fun _ => rfl
  have hzero := hvalued.keeps (·.hka.zero) fun _ => rfl
  rw [Dev.syscalStepEnd_over hstep]
  generalize (d.stepOver.enterAll c values).enterValue c 0 1 = x at *
  have hended := x.syscalEnd_ended 1 (status := 3) (by decide) c 0
  have hprinted := (x.syscalEnd 1 3 c 0).stepTold_printed d.hka.stepConsole
  have hhka := hprinted.keeps (·.hka) fun _ _ _ => rfl
  rw [hprinted.fld (by decide), hhka, hended.hka]
  exact ⟨hnone, hzero, hended.shown⟩

end

theorem syscalStepEnd_idle (h : s.dev.hka.step = none) (values : List Word) (ovr : BitVec 2) :
    Completes (.syscalStepEnd values ovr) s fun t => t = s.dev := by
  refine completes_of (f := fun d => d.syscalStepEnd values ovr.toNat) rfl ?_
  rw [Dev.syscalStepEnd, h]

end Sys2Proof.Machine
end

section
/-!
SUPPORT. O46: the plan, the host's conversions, the references and system calibration.
-/

namespace Sys2Proof.Machine

variable {d : Dev} {s : State}

theorem planConversion_idle (h : s.dev.planConverter = none ∨ s.dev.planNext = none ∨ s.dev.hkaOn = false) :
    Completes .planConversion s fun t => t = s.dev := completes_of (f := Dev.planStart) rfl (Dev.planStart_idle h)

theorem planSkip_counts {c : Nat} (h : c < d.hka.chans.length) :
    ((d.planned c).bump HKA_CNT_SKIPPED).fld HKA_CNT_SKIPPED =
        min (d.fld HKA_CNT_SKIPPED + 1) (2 ^ HKA_CNT_SKIPPED.width - 1) ∧
      (((d.planned c).bump HKA_CNT_SKIPPED).hkaChan c).due = d.ticks + msTicks (10 * planInterval (d.planWord c)) ∧
      d.leaves ((d.planned c).bump HKA_CNT_SKIPPED) [HKA_CNT] :=
  ⟨Dev.fld_bump_same (d.planned c) _ (by decide), congrArg HkaChan.due (d.hkaChan_planned h),
    leaves_bump (leaves_planned ..) (by decide)⟩

theorem planStart_shows (b : Bool) {c : Nat} (k : HkaConv) (h : c < d.hka.chans.length) :
    ((d.planned c).setConv b (some k)).conv b = some k ∧
      (((d.planned c).setConv b (some k)).hkaChan c).due = d.ticks + msTicks (10 * planInterval (d.planWord c)) ∧
      ((d.planned c).setConv b (some k)).flag (busyFlag b) = true ∧
      d.leaves ((d.planned c).setConv b (some k)) [HKA_STAT] := by
  refine ⟨?_, ?_, Dev.flag_busy_setConv .., leaves_setConv (leaves_planned ..) (by decide) ..⟩
  · rw [Dev.conv_setConv, if_pos rfl]
  · have hchan : ((d.planned c).setConv b (some k)).hkaChan c = (d.planned c).hkaChan c := by
      rw [Dev.hkaChan, Dev.setConv_hka, Dev.hkaChan]
      cases b <;> rfl
    rw [hchan, Dev.hkaChan_planned d h]

theorem hkaSnap_takes {rq : Requester} {value : Word} {c : Nat} (hlen : s.dev.hka.chans.length = 16) (hc : wGet value 0 4 = c) :
    Completes (.hkaSnap rq value) s fun t =>
      t.hka.snaps = s.dev.hka.snaps.set (rqIndex rq) (c, (s.dev.hkaChan c).h) ∧ s.dev.leaves t [] ∧
      (t.hkaChan c).f = (s.dev.hkaChan c).f ∧
      (t.hkaChan c).h = (if wGet value 4 1 = 1 ∧ rq ≠ .console then {} else (s.dev.hkaChan c).h) := by
  refine completes_of (f := fun d => d.hkaSnap rq value) rfl ?_
  have hchan := s.dev.hkaChan_hkaSnap rq value c hlen
  rw [Dev.hkaSnap_snaps, hchan, hc]
  refine ⟨rfl, leaves_hkaSnap .., ?_, ?_⟩
  · split <;> rfl
  · by_cases hclear : wGet value 4 1 = 1 ∧ rq ≠ .console
    · rw [if_pos ⟨rfl, hclear⟩, if_pos hclear]
    · rw [if_neg fun hboth => hclear hboth.2, if_neg hclear]

theorem ignoreWrite_shows (d : Dev) : d.leaves d.ignoreWrite [SYS_WRIGN] ∧ d.ignoreWrite.hka = d.hka ∧
    d.ignoreWrite.fld SYS_WRIGN_COUNT = min (d.fld SYS_WRIGN_COUNT + 1) (2 ^ SYS_WRIGN_COUNT.width - 1) :=
  ⟨Dev.leaves_ignoreWrite d, rfl, Dev.fld_ignoreWrite d⟩

theorem Dev.claimIdle_free {m : Nat} (h : m = 0 ∨ (m = 1 ∧ d.conv false = none) ∨ (m = 2 ∧ d.conv true = none ∧ d.hka.ilv = none)) :
    d.claimIdle m = true ∨ m = 0 := by
  obtain rfl | ⟨rfl, hfree⟩ | ⟨rfl, hfree, hilv⟩ := h
  · exact .inr rfl
  · exact .inl (by simp [Dev.claimIdle, hfree])
  · exact .inl (by simp [Dev.claimIdle, hfree, hilv])

theorem hostWaits_counts {k o : HkaConv} (h : d.hka.convB = some o) : (d.interleaves k).hka.convA = d.hka.convA ∧
    (d.interleaves k).hka.convB = some o ∧ (d.interleaves k).hka.ilv = some k ∧
    (d.interleaves k).fld HKA_CNT_ILVWAIT = min (d.fld HKA_CNT_ILVWAIT + 1) (2 ^ HKA_CNT_ILVWAIT.width - 1) ∧
    d.leaves (d.interleaves k) [HKA_STAT, HKA_CNT] := by
  rw [Dev.interleaves_waits h]
  exact ⟨rfl, h, rfl, Dev.fld_bump_same (d.setHka _) _ (by decide), leaves_bump (leaves_setHka (d.leaves_refl _) _) (by decide)⟩

theorem Dev.fld_hostStarted (d : Dev) (value : Word) {g : Fld} (h : g.addr ≠ HKA_STAT) :
    (d.hostStarted value).fld g = d.fld g := by
  have hreg := (d.hostStarted_starts value).2.2.1 g.addr (by simpa using h)
  rw [Dev.fld, hreg, ← Dev.fld]

theorem sccmd_zero {value : Word} (hkey : wGet value 16 8 = 0x5A) (hstep : s.dev.hka.step = none) :
    Completes (.zero value) s fun t => t.hka.step = some (wGet value 4 2, 1) ∧ t.fld HKA_SCSTAT_STATUS = 0 ∧
      s.dev.leaves t [HKA_SCSTAT] := by
  refine (sccmd_runs .zero hkey).mono fun t ht => ?_
  obtain ⟨hbegun, -, hstatus, hleaves⟩ := syscalBegin_begins (c := wGet value 4 2) hstep (op := 1) (by simp) false
  exact ht ▸ ⟨hbegun, hstatus, hleaves⟩

theorem sccmd_full {value : Word} {z : Int} (hkey : wGet value 16 8 = 0x5A) (hstep : s.dev.hka.step = none)
    (hz : s.dev.hka.zero.getD (wGet value 4 2) none = some z) :
    Completes (.full value) s fun t => t.hka.step = some (wGet value 4 2, 2) ∧ t.fld HKA_SCSTAT_STATUS = 0 ∧
      s.dev.leaves t [HKA_SCSTAT] := by
  refine (sccmd_runs .full hkey).mono fun t ht => ?_
  obtain ⟨hbegun, -, hstatus, hleaves⟩ := syscalBegin_begins (c := wGet value 4 2) hstep (op := 2)
    (fun _ => by rw [hz]; exact Option.some_ne_none z) false
  exact ht ▸ ⟨hbegun, hstatus, hleaves⟩

theorem sccmd_fullZeroless {value : Word} (hkey : wGet value 16 8 = 0x5A) (hstep : s.dev.hka.step = none)
    (hz : s.dev.hka.zero.getD (wGet value 4 2) none = none) :
    Completes (.full value) s fun t => s.dev.StepEnded t 2 2 (wGet value 4 2) 0 := by
  refine (sccmd_runs .full hkey).mono fun t ht => ?_
  have hend : s.dev.syscalOp (wGet value 4 2) 0 true 2 = s.dev.syscalEnd 2 2 (wGet value 4 2) 0 :=
    Dev.syscalBegin_zeroless hstep hz false
  exact ht ▸ hend ▸ Dev.syscalEnd_ended _ _ (by decide) _ _

section

variable {value : Word} (hkey : wGet value 16 8 = 0x5A)
include hkey

theorem sccmd_apply (vref : Word) (ok : Bool) :
    Completes (.apply value vref ok) s fun t => t = s.dev.syscalApply (wGet value 4 2) vref.toNat ok :=
  sccmd_runs (.apply vref ok) hkey

theorem sccmd_default (ok : Bool) : Completes (.default value ok) s fun t => t = s.dev.syscalDefault (wGet value 4 2) ok :=
  sccmd_runs (.default ok) hkey

theorem sccmd_applyExact {z f : Int} {u : Nat} (vref : Word) (ok : Bool)
    (hz : s.dev.hka.zero.getD (wGet value 4 2) none = some z) (hf : s.dev.hka.full.getD (wGet value 4 2) none = some f)
    (hopen : s.dev.nvmBarred = false) (hu : s.dev.fld HKA_SCFULL_FULL = u) (hpos : 0 < f - z)
    (hlow : (f - z) * 8 ≤ (u : Int) * 10) (hhigh : (u : Int) * 4 ≤ (f - z) * 5)
    (hspan : z.natAbs * 10 ≤ s.dev.calSpan (wGet value 4 2) vref.toNat) (hexact : u * 4194304 % (f - z).toNat = 0) :
    Completes (.apply value vref ok) s fun t => t.fld HKA_SCSTAT_STATUS = 1 ∧ t.reg (HKA_SCOFS (wGet value 4 2)) = wordI z ∧
      t.reg (HKA_SCGAIN (wGet value 4 2)) = word (u * 4194304 / (f - z).toNat) ∧
      t.hka.zero.getD (wGet value 4 2) none = none ∧ t.hka.full.getD (wGet value 4 2) none = none := by
  have hlt : wGet value 4 2 < 4 := wGet_lt value 4 2
  have hgain := Dev.syscalGain_exact (d := s.dev) hu hpos hlow hhigh hspan hexact
  have heq := (Dev.syscalApply_judged hz hf hopen vref.toNat ok).2 _ _ hgain
  refine (sccmd_apply hkey vref ok).mono fun t ht => ?_
  rw [ht, heq]
  generalize u * 4194304 / (f - z).toNat = g at *
  obtain ⟨hstatus, hofs, hset, hzero, hfull⟩ :=
    (s.dev.meansUsed (wGet value 4 2)).syscalSet_sets ok hlt (wordI z) (word g) (word g) 3 g
  have hused (l : List (Option Int)) : (l.set (wGet value 4 2) none).getD (wGet value 4 2) none = none := by
    rw [List.getD_eq_getElem?_getD, List.getElem?_set, if_pos rfl]
    split <;> rfl
  refine ⟨hstatus, hofs, hset, ?_, ?_⟩
  · rw [hzero]
    exact hused _
  · rw [hfull]
    exact hused _

end

/-- Settles O46: the converter's commands, each with what it shows and leaves. -/
theorem converterWorks : Obligations.ConverterWorks := by
  intro s hchans hsnaps hzeros
  refine ⟨planConversion_idle, fun b c hb hc hon => ⟨fun hskip => ?_, fun hrun => ?_⟩, fun b v ovr => conversionEnd_idle,
    fun k v hk hrun hplan hc hlt h9 h10 => ⟨fun hoff => ⟨?_, ?_⟩, conversionEnd_exits hk hrun hplan h9 h10 hc hlt⟩,
    fun rq value c => hkaSnap_takes hchans, fun value m hm => ⟨fun hbad => ?_, fun hkey hfree => ?_⟩,
    hkaClaimExpired_none, hkaClaimExpired_ends, fun value c r hc hr => ⟨fun hnone => ?_, fun hgrant hfree hon hrun k hk => ?_⟩,
    fun hoff ok => ?_, fun hon => ⟨fun hwhole => ⟨?_, ?_⟩, fun hfault => ⟨fun hgood => ?_, fun hgood => ?_⟩⟩,
    fun b c hc hnone => ?_, fun b k c w hc hk hilv => ⟨timeout_abandons hc hk hilv, timeout_other hc hk⟩,
    fun value p hen hpin hoff hA hB => tdac_closes hchans hen hpin hoff hA hB, ?_, fun hnone values ovr =>
    syscalStepEnd_idle hnone values ovr, fun c hc hstep hcon => ⟨fun v => ?_, fun values => ?_⟩⟩
  · exact (planConversion_skips hb hc hon hskip).mono fun t ht => ht ▸ planSkip_counts (hchans ▸ Dev.planNext_lt hc)
  · exact (planConversion_starts hb hc hon hrun).mono fun t ht => ht ▸ planStart_shows b _ (hchans ▸ Dev.planNext_lt hc)
  · refine (conversionEnd_enters (v := v) hk hrun hplan h9 h10 (hchans ▸ hlt) (ovr := 0) (f := fun a => a.add v) ?_).mono
      fun t ht => ⟨ht.conv, ht.busy, ht.host, ht.frame, ht.leaves⟩
    exact (Dev.enterValue_plain hc h9 h10 v).trans (Dev.judgeBand_off (d := s.dev.entered k.ch _) hoff v 0)
  · refine (conversionEnd_enters (v := v) hk hrun hplan h9 h10 (hchans ▸ hlt) (ovr := 1) (f := fun a => a.addOver 1) ?_).mono
      fun t ht => ⟨ht.conv, ht.host, ht.leaves⟩
    exact (s.dev.enterValue_over k.ch v).trans (Dev.judgeBand_off (d := s.dev.entered k.ch _) hoff 0 1)
  · exact (claim_ignored (hm ▸ hbad)).mono fun t ht => ht ▸ ignoreWrite_shows s.dev
  · refine (claim_claims hkey hm ?_).mono fun t ⟨hclaim, hleaves, hgranted⟩ =>
      ⟨hclaim, hgranted (Dev.claimIdle_free hfree), hleaves⟩
    omega
  · exact (hostConversion_refused hnone).mono fun t ht =>
      ht ▸ ⟨rfl, leaves_bump (s.dev.leaves_refl _) (by decide), Dev.fld_bump_same _ _ (by decide)⟩
  · subst hc hk
    have hrefsel : hostRefsel value = r := hr.symm
    subst hrefsel
    obtain ⟨hconvA, hconvB, hleaves⟩ := s.dev.hostStarted_starts value
    refine ⟨fun hone => ?_, fun hilv hB => ?_, fun o hilv hB => ?_⟩
    · exact (hostConversion_alone hgrant hfree hon hrun hone).mono fun t ht => ht ▸ ⟨hconvA, hconvB, hleaves⟩
    · obtain ⟨hkept, hstarted, hset⟩ := Dev.interleaves_free (k := s.dev.hostConv value) (hconvB.trans hB)
      exact (hostConversion_both hgrant hfree hon hrun hilv).mono fun t ht =>
        ht ▸ ⟨hkept.trans hconvA, hstarted, leaves_trans hleaves hset⟩
    · obtain ⟨hkept, hbusy, hwaits, hcount, hset⟩ := hostWaits_counts (k := s.dev.hostConv value) (hconvB.trans hB)
      rw [Dev.fld_hostStarted _ _ (by decide)] at hcount
      exact (hostConversion_both hgrant hfree hon hrun hilv).mono fun t ht =>
        ht ▸ ⟨hkept.trans hconvA, hbusy, hwaits, hcount, leaves_trans (leaves_mono hleaves (by simp)) hset⟩
  · exact (refinCheck_disabled hoff ok).mono fun t ht => ht ▸
      ⟨Dev.flag_setFlag_same _ _ _ (by decide) (by decide), rfl, leaves_setFlag (s.dev.leaves_refl _) (by decide)⟩
  · refine (refinCheck_good hon).mono fun t ⟨hpassed, _⟩ => ?_
    obtain ⟨hshown, hleaves⟩ := hpassed.whole ((s.dev.refinNoted_shown true).fault.trans hwhole)
    exact ⟨hshown.ready, hshown.fault, leaves_trans (leaves_refinNoted ..) hleaves⟩
  · exact (refinCheck_bad hon).mono fun t ⟨hshown, hleaves⟩ => ⟨hshown.ready, hshown.fault, hleaves⟩
  · refine (refinCheck_good hon).mono fun t ⟨hpassed, _⟩ => ?_
    obtain ⟨hone, hshown, hleaves⟩ := hpassed.first ((s.dev.refinNoted_shown true).fault.trans hfault) hgood
    exact ⟨hone, hshown.fault, leaves_trans (leaves_refinNoted ..) hleaves⟩
  · refine (refinCheck_good hon).mono fun t ⟨hpassed, _⟩ => ?_
    obtain ⟨hzero, hshown, hleaves⟩ := hpassed.again ((s.dev.refinNoted_shown true).fault.trans hfault) hgood
    exact ⟨hzero, hshown.fault, leavesRing_trans (leavesRing_of_leaves (leaves_refinNoted ..)) hleaves⟩
  · obtain rfl | rfl := hc
    · exact timeout_idle (c := .referenceTimeout b) (waits := true) (by simp) hnone
    · exact timeout_idle (c := .conversionTimeout b) (waits := false) (by simp) hnone
  · rintro value c rfl
    refine ⟨fun hkey i vref ok hi => ?_, fun hkey => ⟨fun hidle => ⟨sccmd_zero hkey hidle, fun z => sccmd_full hkey hidle,
      fun hz => ?_⟩, fun vref ok hz => ?_, fun vref ok z f hz hf => ⟨fun hbarred => ?_, fun hopen hle => ?_,
      fun u hopen hu hpos hlow hhigh hspan hexact =>
        sccmd_applyExact hkey vref ok hz hf hopen hu hpos hlow hhigh hspan hexact⟩, fun ok => ⟨fun hbarred => ?_, fun hopen => ?_⟩⟩⟩
    · have hwrite : ∃ op v k, SccmdWrite value i op v k := by
        simp only [List.mem_cons, List.not_mem_nil, or_false] at hi
        obtain rfl | rfl | rfl | rfl := hi
        · exact ⟨_, _, _, .zero⟩
        · exact ⟨_, _, _, .full⟩
        · exact ⟨_, _, _, .apply vref ok⟩
        · exact ⟨_, _, _, .default ok⟩
      obtain ⟨op, v, k, hw⟩ := hwrite
      exact (sccmd_ignored hw hkey).mono fun t ht => ht ▸ ignoreWrite_shows s.dev
    · exact (sccmd_fullZeroless hkey hidle hz).mono fun t ht => ⟨ht.hka, ht.shown, ht.rang, ht.leaves⟩
    · refine (sccmd_apply hkey vref ok).mono fun t ht => ?_
      rw [ht, Dev.syscalApply_zeroless hz]
      have hended := s.dev.syscalEnd_ended 3 (status := 2) (by decide) (wGet value 4 2) 0
      exact ⟨hended.shown, hended.rang, hended.leaves⟩
    · refine (sccmd_apply hkey vref ok).mono fun t ht => ?_
      rw [ht, Dev.syscalApply_barred hz hf hbarred]
      have hended := s.dev.syscalEnd_ended 3 (status := 5) (by decide) (wGet value 4 2) 0
      exact ⟨hended.shown, hended.leaves⟩
    · refine (sccmd_apply hkey vref ok).mono fun t ht => ?_
      rw [ht, (Dev.syscalApply_judged hz hf hopen vref.toNat ok).1 _ (Dev.syscalGain_nonpositive hle _)]
      have hended := s.dev.syscalEnd_ended 3 (status := 4) (by decide) (wGet value 4 2) 0
      exact ⟨hended.shown, hended.leaves⟩
    · refine (sccmd_default hkey ok).mono fun t ht => ?_
      rw [ht, Dev.syscalDefault_barred hbarred]
      have hended := s.dev.syscalEnd_ended 4 (status := 5) (by decide) (wGet value 4 2) 0
      exact ⟨hended.shown, hended.rang, hended.leaves⟩
    · refine (sccmd_default hkey ok).mono fun t ht => ?_
      rw [ht, Dev.syscalDefault_sets hopen]
      obtain ⟨hstatus, hofs, hgain, -⟩ := s.dev.syscalSet_sets ok (wGet_lt value 4 2) 0 0x400000#24 0 4 0
      exact ⟨hstatus, hofs, hgain, _, rfl⟩
  · refine completes_of (f := fun d => d.syscalStepEnd (List.replicate 64 v) 0) rfl ?_
    obtain ⟨hnone, hstatus, hzero⟩ := syscalStepEnd_keepsZero hstep (hzeros ▸ hc) (List.replicate 64 v)
    rw [Dev.freeMean_replicate] at hzero
    exact ⟨hnone, hzero, hstatus⟩
  · exact completes_of (f := fun d => d.syscalStepEnd values 1) rfl (syscalStepEnd_overrange hstep values)

end Sys2Proof.Machine
end

section
/-!
SUPPORT. The lamps (R746 to R781): what each operation on a lamp, a command, a group or a fault leaves, and the lamps it leads to.
-/

namespace Sys2Proof.Machine

variable {d e f : Dev} {as : List Nat}

/-- A machine without its registers, its list of lamps and the commands that move them. -/
def Dev.offLampList (d : Dev) : Dev := { d with regs := [], lamp := { d.lamp with lamps := [], cmds := [] } }

theorem offLampList_spares : SparesMemories Dev.offLampList := fun _ => ⟨rfl, rfl, rfl⟩
theorem offLampList_sparesNvm : SparesNvm Dev.offLampList := fun _ => ⟨rfl, rfl⟩

/-- Nothing but the registers as, the lamps and the commands that move them differs; and the same with events. -/
abbrev Dev.Lamped (as : List Nat) (d e : Dev) : Prop := Dev.Alters Dev.offLampList as d e
abbrev Dev.LampedRing (as : List Nat) (d e : Dev) : Prop := Dev.AltersRing Dev.offLampList as d e

theorem Dev.Lamped.ring (h : Dev.Lamped as d e) : Dev.LampedRing as d e :=
  altersRing_of_alters h offLampList_spares fun _ => rfl

/-! A lamp read back (R746). -/

theorem find_lampInsert (n : Nat) (v : Lamp) (l : List (Nat × Lamp)) (k : Nat) :
    (lampInsert n v l).find? (fun p => p.1 == k) = if k = n then some (n, v) else l.find? fun p => p.1 == k := by
  induction l with
  | nil =>
    by_cases hk : k = n
    · rw [if_pos hk, hk]
      exact List.find?_cons_of_pos (by simp)
    · rw [if_neg hk]
      exact List.find?_cons_of_neg (by simpa using Ne.symm hk)
  | cons p rest ih =>
    obtain ⟨m, w⟩ := p
    unfold lampInsert
    by_cases hk : k = n
    · subst hk
      rw [if_pos rfl] at ih ⊢
      split
      · simp
      · split
        · simp
        next hge hne => rw [List.find?_cons_of_neg (by simpa using Ne.symm hne), ih]
    · rw [if_neg hk] at ih ⊢
      split
      · rw [List.find?_cons_of_neg (by simpa using Ne.symm hk)]
      · split
        next hnm =>
          subst hnm
          rw [List.find?_cons_of_neg (by simpa using Ne.symm hk), List.find?_cons_of_neg (by simpa using Ne.symm hk)]
        · simp only [List.find?_cons, ih]

theorem Dev.lampAt_setLamp (d : Dev) (n : Nat) (v : Lamp) (k : Nat) :
    (d.setLamp n v).lampAt k = if k = n then v else d.lampAt k := by
  have hfind := find_lampInsert n v d.lamp.lamps k
  by_cases hk : k = n
  · rw [if_pos hk] at hfind ⊢
    simp only [Dev.lampAt, Lamps.get, Dev.setLamp, hfind]
  · rw [if_neg hk] at hfind ⊢
    simp only [Dev.lampAt, Lamps.get, Dev.setLamp, hfind]

theorem Dev.lampAt_mapLamps (d : Dev) {f : Nat → Lamp → Lamp} (h : ∀ n, f n {} = {}) (k : Nat) :
    (d.mapLamps f).lampAt k = f k (d.lampAt k) := by
  have hfind : (d.lamp.lamps.map fun p => (p.1, f p.1 p.2)).find? (fun p => p.1 == k) =
      (d.lamp.lamps.find? fun p => p.1 == k).map fun p => (p.1, f p.1 p.2) := by
    rw [List.find?_map]
    rfl
  simp only [Dev.lampAt, Lamps.get, Dev.mapLamps, hfind]
  cases hf : d.lamp.lamps.find? fun p => p.1 == k with
  | none => exact (h k).symm
  | some p =>
    have hp : p.1 = k := by simpa using List.find?_some hf
    simp only [Option.map_some, hp]

theorem Dev.lampAt_ring (d : Dev) (src : Nat) (w1 w2 : Word) (k : Nat) : (d.ring src w1 w2).lampAt k = d.lampAt k := by
  rw [Dev.lampAt, Dev.ring_lamp, ← Dev.lampAt]

/-! What the configuration alone decides (R746, R765). -/

theorem Dev.cfgWord_cfg (h : e.cfg = d.cfg) (sect id idx : Nat) : e.cfgWord sect id idx = d.cfgWord sect id idx := by
  rw [Dev.cfgWord, h, ← Dev.cfgWord]

theorem Dev.par_cfg (h : e.cfg = d.cfg) (sect id idx : Nat) : e.par sect id idx = d.par sect id idx :=
  congrArg BitVec.toNat (Dev.cfgWord_cfg h ..)

theorem Dev.tapped_cfg (h : e.cfg = d.cfg) : e.tapped = d.tapped := by rw [Dev.tapped, Dev.par_cfg h, ← Dev.tapped]
theorem Dev.ndrv_cfg (h : e.cfg = d.cfg) : e.ndrv = d.ndrv := Dev.par_cfg h ..

theorem Dev.lampPresent_cfg (h : e.cfg = d.cfg) (n : Nat) : e.lampPresent n = d.lampPresent n := by
  simp only [Dev.lampPresent, Dev.tapped_cfg h, Dev.ndrv_cfg h, Dev.par_cfg h]

theorem Dev.groupOf_cfg (h : e.cfg = d.cfg) (n : Nat) : e.groupOf n = d.groupOf n := by
  simp only [Dev.groupOf, Dev.cfgWord_cfg h]

theorem Dev.sinkLit_eq (hlamps : ∀ n, e.lampAt n = d.lampAt n) (hcfg : e.cfg = d.cfg) (k : Nat) : e.sinkLit k = d.sinkLit k := by
  simp only [Dev.sinkLit, Dev.tapped_cfg hcfg, Dev.lampPresent_cfg hcfg, hlamps]

/-! Single operations. -/

theorem lamped_setLamp (h : Dev.Lamped as d e) (n : Nat) (v : Lamp) : Dev.Lamped as d (e.setLamp n v) := alters_of h rfl rfl
theorem lamped_mapLamps (h : Dev.Lamped as d e) (f : Nat → Lamp → Lamp) : Dev.Lamped as d (e.mapLamps f) := alters_of h rfl rfl
theorem lamped_sweepCmds (h : Dev.Lamped as d e) : Dev.Lamped as d e.sweepCmds := alters_of h rfl rfl

theorem Dev.lampAt_sweepCmds (d : Dev) (k : Nat) : d.sweepCmds.lampAt k = d.lampAt k := rfl

/-- The commands that move lamps replaced. -/
def Dev.setCmds (d : Dev) (cs : List LampCmd) : Dev := { d with lamp := { d.lamp with cmds := cs } }

theorem lamped_setCmds (h : Dev.Lamped as d e) (cs : List LampCmd) : Dev.Lamped as d (e.setCmds cs) := alters_of h rfl rfl

theorem lamped_loseCmd (h : Dev.Lamped as d e) (num : Nat) {later : Bool} (hcnt : later = true → LAMP_CNT ∈ as) :
    Dev.Lamped as d (e.loseCmd num later) := by
  unfold Dev.loseCmd
  split
  · exact h
  · dsimp only
    split
    next hboth =>
      refine alters_bump (g := LAMP_CNT_SUPERSEDED) (lamped_setCmds h _) (hcnt ?_)
      simp only [Bool.and_eq_true] at hboth
      exact hboth.1
    · exact alters_of h rfl rfl

theorem Dev.lampAt_loseCmd (d : Dev) (num : Nat) (later : Bool) (k : Nat) : (d.loseCmd num later).lampAt k = d.lampAt k := by
  unfold Dev.loseCmd
  split
  · rfl
  · dsimp only
    split <;> rfl

theorem lamped_dropLampCmd (h : Dev.Lamped as d e) (n : Nat) {later : Bool} (hcnt : later = true → LAMP_CNT ∈ as) :
    Dev.Lamped as d (e.dropLampCmd n later) := by
  unfold Dev.dropLampCmd
  split
  · exact h
  · exact lamped_loseCmd (lamped_setLamp h ..) _ hcnt

theorem Dev.lampAt_dropLampCmd (d : Dev) (n : Nat) (later : Bool) (k : Nat) :
    (d.dropLampCmd n later).lampAt k = if k = n then { d.lampAt n with cmd := none } else d.lampAt k := by
  unfold Dev.dropLampCmd
  split
  next hnone =>
    split
    next heq =>
      subst heq
      rw [← hnone]
    next => rfl
  next => rw [Dev.lampAt_loseCmd, Dev.lampAt_setLamp]

/-- A lamp turned off: what a trip does to it. -/
def Lamp.off (l : Lamp) : Lamp := { l with level := 0, out := 0, cmd := none }

theorem Dev.lampAt_lampOff (d : Dev) (n k : Nat) : (d.lampOff n).lampAt k = if k = n then (d.lampAt n).off else d.lampAt k := by
  unfold Dev.lampOff
  dsimp only
  rw [Dev.lampAt_setLamp, Dev.lampAt_dropLampCmd, Dev.lampAt_dropLampCmd]
  split
  · rw [if_pos rfl]
    rfl
  · rfl

theorem lamped_lampOff (h : Dev.Lamped as d e) (n : Nat) : Dev.Lamped as d (e.lampOff n) :=
  lamped_setLamp (lamped_dropLampCmd h n (by simp)) ..

/-! The same operation on several lamps. -/

/-- An operation on one lamp at a time: the lamp named becomes its image under g, in machines that meet I. -/
structure LampStep (f : Dev → Nat → Dev) (I : Dev → Prop) (g : Nat → Lamp → Lamp) : Prop where
  keeps : ∀ e n, I e → I (f e n)
  step : ∀ e n k, I e → (f e n).lampAt k = if k = n then g n (e.lampAt n) else e.lampAt k
  twice : ∀ n l, g n (g n l) = g n l

theorem LampStep.foldl {f : Dev → Nat → Dev} {I : Dev → Prop} {g : Nat → Lamp → Lamp} (h : LampStep f I g) (ns : List Nat)
    (hd : I d) (k : Nat) : (ns.foldl f d).lampAt k = if k ∈ ns then g k (d.lampAt k) else d.lampAt k := by
  induction ns generalizing d with
  | nil => rfl
  | cons n ns ih =>
    rw [List.foldl_cons, ih (h.keeps d n hd), h.step d n k hd]
    by_cases hk : k = n
    · subst hk
      rw [if_pos rfl, if_pos List.mem_cons_self, h.twice, ite_self]
    · rw [if_neg hk]
      simp only [List.mem_cons, hk, false_or]

theorem lampStep_drop (later : Bool) : LampStep (fun d n => d.dropLampCmd n later) (fun _ => True)
    fun _ l => { l with cmd := none } :=
  ⟨fun _ _ _ => trivial, fun e n k _ => e.lampAt_dropLampCmd n later k, fun _ _ => rfl⟩

theorem lampStep_off : LampStep Dev.lampOff (fun _ => True) fun _ => Lamp.off :=
  ⟨fun _ _ _ => trivial, fun e n k _ => e.lampAt_lampOff n k, fun _ _ => rfl⟩

theorem lampStep_set (g : Lamp → Lamp) (hg : ∀ l, g (g l) = g l) :
    LampStep (fun d n => d.setLamp n (g (d.lampAt n))) (fun _ => True) fun _ => g :=
  ⟨fun _ _ _ => trivial, fun e n k _ => e.lampAt_setLamp n _ k, fun _ => hg⟩

/-! Trips, clears and faults (R766 to R768, R779). -/

/-- No lamp's fault has changed. -/
def Dev.SameFaults (d e : Dev) : Prop := ∀ n, (e.lampAt n).fault = (d.lampAt n).fault

theorem sameFaults_tripGroup (d : Dev) (g cause lamp : Nat) : d.SameFaults (d.tripGroup g cause lamp) := by
  intro n
  unfold Dev.tripGroup
  split
  · dsimp only
    rw [Dev.lampAt_ring]
    generalize d.groupLamps g = ns
    refine (congrArg Lamp.fault (lampStep_off.foldl ns trivial n)).trans ?_
    split <;> rfl
  · rfl

theorem lampedRing_tripGroup (h : Dev.LampedRing as d e) (htrip : LAMP_TRIP ∈ as) (g cause lamp : Nat) :
    Dev.LampedRing as d (e.tripGroup g cause lamp) := by
  unfold Dev.tripGroup
  split
  · have hoff : Dev.Lamped as e (((e.groupLamps g).foldl Dev.lampOff e).sweepCmds) :=
      lamped_sweepCmds (alters_foldl _ _ fun x n _ => lamped_lampOff (alters_refl x) n)
    exact altersRing_ring (altersRing_setFld (g := LAMP_TRIP_TRIPPED) (altersRing_trans h hoff.ring) htrip)
  · exact h

theorem lampedRing_markFault (h : Dev.LampedRing as d e) (hcnt : LAMP_CNT ∈ as) (n kind : Nat) (w2 : Word) :
    Dev.LampedRing as d (e.markFault n kind w2) := by
  have hset : Dev.Lamped as e ((e.dropLampCmd n false).setLamp n { (e.dropLampCmd n false).lampAt n with fault := kind, out := 0 }) :=
    lamped_setLamp (lamped_dropLampCmd (alters_refl e) n (by simp)) ..
  exact altersRing_ring (altersRing_bump (altersRing_trans h hset.ring) hcnt)

/-- A lamp declared faulted. -/
def Lamp.faulted (kind : Nat) (l : Lamp) : Lamp := { l with fault := kind, out := 0, cmd := none }

theorem Dev.lampAt_markFault (d : Dev) (n kind : Nat) (w2 : Word) (k : Nat) :
    (d.markFault n kind w2).lampAt k = if k = n then (d.lampAt n).faulted kind else d.lampAt k := by
  unfold Dev.markFault
  dsimp only
  rw [Dev.lampAt_ring]
  refine (Dev.lampAt_setLamp ..).trans ?_
  rw [Dev.lampAt_dropLampCmd, Dev.lampAt_dropLampCmd]
  split
  · rw [if_pos rfl]
    rfl
  · rfl

theorem Dev.fld_markFault (d : Dev) (n kind : Nat) (w2 : Word) : (d.markFault n kind w2).fld LAMP_CNT_FAULTS =
    min (d.fld LAMP_CNT_FAULTS + 1) (2 ^ LAMP_CNT_FAULTS.width - 1) := by
  have hdrop : (d.dropLampCmd n false).fld LAMP_CNT_FAULTS = d.fld LAMP_CNT_FAULTS :=
    (lamped_dropLampCmd (as := []) (alters_refl d) n (later := false) (by simp)).fld List.not_mem_nil
  unfold Dev.markFault
  dsimp only
  rw [Dev.ring_fld (by decide), Dev.fld_bump_same _ _ (by decide), ← hdrop]
  rfl

/-- The group of a lamp found faulted is tripped. -/
def Dev.tripFor (d : Dev) (n : Nat) : Dev :=
  match d.groupOf n with
  | some g => d.tripGroup g 1 n
  | none => d

theorem Dev.lampFault_good {n : Nat} (h : (d.lampAt n).fault = 0) (kind : Nat) (w2 : Word) :
    d.lampFault n kind w2 = ((d.markFault n kind w2).tripFor n).sweepCmds := if_pos h

theorem Dev.lampFault_held {n : Nat} (h : (d.lampAt n).fault ≠ 0) (kind : Nat) (w2 : Word) : d.lampFault n kind w2 = d :=
  if_neg h

theorem lampedRing_tripFor (h : Dev.LampedRing as d e) (htrip : LAMP_TRIP ∈ as) (n : Nat) :
    Dev.LampedRing as d (e.tripFor n) := by
  unfold Dev.tripFor
  split
  · exact lampedRing_tripGroup h htrip ..
  · exact h

theorem sameFaults_tripFor (d : Dev) (n : Nat) : d.SameFaults (d.tripFor n) := by
  unfold Dev.tripFor
  split
  · exact sameFaults_tripGroup d _ 1 n
  · exact fun _ => rfl

theorem lampedRing_lampFault (h : Dev.LampedRing as d e) (hcnt : LAMP_CNT ∈ as) (htrip : LAMP_TRIP ∈ as) (n kind : Nat)
    (w2 : Word) : Dev.LampedRing as d (e.lampFault n kind w2) := by
  by_cases hgood : (e.lampAt n).fault = 0
  · rw [Dev.lampFault_good hgood]
    exact altersRing_of (lampedRing_tripFor (lampedRing_markFault h hcnt n kind w2) htrip n) rfl rfl rfl
  · rwa [Dev.lampFault_held hgood]

end Sys2Proof.Machine
end

section
/-!
SUPPORT. Lamp commands, fades, periods and clamps (R746 to R763, R770, R772).
-/

namespace Sys2Proof.Machine

variable {d e : Dev} {s : State} {as : List Nat}

/-! Lamp commands (R761 to R765). -/

/-- A lamp that a command moves from its present level. -/
def Lamp.moved (num level fade : Nat) (curve : Bool) (l : Lamp) : Lamp :=
  { l with curve := curve, cmd := some (num, l.level, level, fade, 0) }

/-- A command entered among those that move lamps. -/
def Dev.enterCmd (d : Dev) (c : LampCmd) : Dev :=
  { d with lamp := { d.lamp with cmds := d.lamp.cmds ++ [c], nextNum := c.num + 1 } }

/-- The lamps that a command takes from others. -/
def Dev.takeLamps (d : Dev) (ns : List Nat) : Dev := ns.foldl (fun d n => d.dropLampCmd n true) d

theorem lamped_takeLamps (d : Dev) (ns : List Nat) : Dev.Lamped [LAMP_CNT] d (d.takeLamps ns) :=
  alters_foldl ns d fun x n _ => lamped_dropLampCmd (alters_refl x) n (by simp)

/-- The lamps of a command start to move. -/
def Dev.moveLamps (d : Dev) (ns : List Nat) (num level fade : Nat) (curve : Bool) : Dev :=
  ns.foldl (fun d n => d.setLamp n ((d.lampAt n).moved num level fade curve)) d

theorem lamped_moveLamps (d : Dev) (ns : List Nat) (num level fade : Nat) (curve : Bool) :
    Dev.Lamped as d (d.moveLamps ns num level fade curve) := alters_foldl ns d fun x _ _ => lamped_setLamp (alters_refl x) ..

theorem Dev.lampPerform_refused {grp : Bool} {index : Nat} (h : d.commandRefused grp index = true) (level fade tag : Nat)
    (curve : Bool) : d.lampPerform grp index level fade tag curve = d.bump LAMP_CNT_REFUSED := if_pos h

/-- What a command that is not refused leads to. -/
structure Dev.LampsMove (d e : Dev) (ns : List Nat) (level fade : Nat) (curve : Bool) : Prop where
  moved : ∀ k ∈ ns, e.lampAt k = (d.lampAt k).moved d.lamp.nextNum level fade curve
  others : ∀ k, k ∉ ns → e.lampAt k = d.lampAt k
  next : e.lamp.nextNum = d.lamp.nextNum + 1
  leaves : d.leaves e [LAMP_CNT]

theorem Dev.lampPerform_moves {grp : Bool} {index : Nat} (h : d.commandRefused grp index = false) (level fade tag : Nat)
    (curve : Bool) :
    d.LampsMove (d.lampPerform grp index level fade tag curve) (d.commandLamps grp index) level fade curve := by
  have hperform : d.lampPerform grp index level fade tag curve =
      (((d.takeLamps (d.commandLamps grp index)).enterCmd ⟨d.lamp.nextNum, tag, grp, index, false, false⟩).moveLamps
        (d.commandLamps grp index) d.lamp.nextNum level fade curve).sweepCmds := if_neg (by simp [h])
  rw [hperform]
  generalize d.commandLamps grp index = ns
  have htake := lamped_takeLamps d ns
  have htaken (k : Nat) := (lampStep_drop true).foldl (d := d) ns trivial k
  have hmove := lamped_moveLamps (as := []) ((d.takeLamps ns).enterCmd ⟨d.lamp.nextNum, tag, grp, index, false, false⟩) ns
    d.lamp.nextNum level fade curve
  have hmoved (k : Nat) := (lampStep_set (Lamp.moved d.lamp.nextNum level fade curve) fun _ => rfl).foldl
    (d := (d.takeLamps ns).enterCmd ⟨d.lamp.nextNum, tag, grp, index, false, false⟩) ns trivial k
  have hentered (k : Nat) : ((d.takeLamps ns).enterCmd ⟨d.lamp.nextNum, tag, grp, index, false, false⟩).lampAt k =
    if k ∈ ns then { d.lampAt k with cmd := none } else d.lampAt k := htaken k
  refine ⟨fun k hk => ?_, fun k hk => ?_, hmove.keeps (·.lamp.nextNum) fun _ => rfl, ?_⟩
  · refine (hmoved k).trans ?_
    rw [hentered, if_pos hk, if_pos hk]
    rfl
  · refine (hmoved k).trans ?_
    rw [hentered, if_neg hk, if_neg hk]
  · have hleaves : d.leaves ((d.takeLamps ns).enterCmd ⟨d.lamp.nextNum, tag, grp, index, false, false⟩) [LAMP_CNT] :=
      leaves_of (htake.leaves offLampList_spares) rfl rfl rfl rfl
    exact leaves_of (leaves_alters hleaves hmove (by simp) offLampList_spares) rfl rfl rfl rfl

theorem lampCommand_idle {rq : Requester} (value : Word) (h : s.dev.lampRuns (rq == .console) = false) :
    Completes (.lampCommand rq value) s fun t => t = s.dev :=
  completes_of (f := fun d => d.lampCommand rq value) rfl (if_neg (by simp [h]))

section

variable {rq : Requester} {value : Word} {n : Nat} (hn : s.dev.fld LAMP_CMDA_INDEX = n)
  (hruns : s.dev.lampRuns (rq == .console) = true)
include hn hruns

theorem lampCommand_refused (h : s.dev.commandRefused (s.dev.flag LAMP_CMDA_GRP) n = true) :
    Completes (.lampCommand rq value) s fun t => t = s.dev.bump LAMP_CNT_REFUSED :=
  completes_of (f := fun d => d.lampCommand rq value) rfl ((if_pos hruns).trans (Dev.lampPerform_refused (hn ▸ h) ..))

theorem lampCommand_moves (h : s.dev.commandRefused (s.dev.flag LAMP_CMDA_GRP) n = false) (hmode : s.dev.mode ≠ modeWatch) :
    Completes (.lampCommand rq value) s fun t => s.dev.LampsMove t (s.dev.commandLamps (s.dev.flag LAMP_CMDA_GRP) n)
      (s.dev.fld LAMP_CMDB_LEVEL) (wGet value 0 14) (s.dev.flag LAMP_CMDB_CURVE) := by
  subst hn
  refine completes_of (f := fun d => d.lampCommand rq value) rfl ?_
  have hfade : (if s.dev.mode == modeWatch then 0 else wGet value 0 14) = wGet value 0 14 := if_neg (by simpa using hmode)
  rw [Dev.lampCommand, if_pos hruns, hfade]
  exact Dev.lampPerform_moves h ..

end

/-! Fades (R762, R764). -/

theorem fadeStep_default : Lamp.fadeStep {} = {} := rfl

theorem fadeTick_steps : Completes .fadeTick s fun t => (∀ n, t.lampAt n = (s.dev.lampAt n).fadeStep) ∧ s.dev.leavesRing t [] := by
  refine completes_of (f := Dev.fadeTick) rfl ?_
  have hmap : s.dev.leaves (s.dev.mapLamps fun _ l => l.fadeStep).sweepCmds [] :=
    (lamped_sweepCmds (lamped_mapLamps (alters_refl _) _)).leaves offLampList_spares
  have hstep (n : Nat) : (s.dev.mapLamps fun _ l => l.fadeStep).sweepCmds.lampAt n = (s.dev.lampAt n).fadeStep :=
    s.dev.lampAt_mapLamps (fun _ => fadeStep_default) n
  unfold Dev.fadeTick
  dsimp only
  generalize (s.dev.mapLamps fun _ l => l.fadeStep).sweepCmds = x at *
  have htold : ∀ cs : List LampCmd, Dev.AltersRing id [] x (cs.foldl (fun d c =>
      if c.lost ∨ c.spoiled then d else d.ring 72 (word c.tag) (pack [(bit c.group, 23), (c.index, 0)])) x) := fun cs =>
    altersRing_foldl cs x fun y c _ => by
      split
      · exact altersRing_refl y
      · exact altersRing_ring (altersRing_refl y)
  refine ⟨fun n => ?_, leavesRing_alters (leavesRing_of_leaves hmap) (htold _) (List.Subset.refl _) fun _ => ⟨rfl, rfl⟩⟩
  have hlamp := (htold (s.dev.lamp.cmds.filter fun c => !(x.lamp.cmds.any fun o => o.num == c.num))).keeps (·.lamp) fun _ => rfl
  rw [Dev.lampAt, hlamp, ← Dev.lampAt, hstep]

/-! The periods (R749, R750, R758, R763). -/

theorem foldl_establishes {α β : Type} {f : β → α → β} {I P : β → Prop} (p : α) (hI : ∀ b c, I b → I (f b c))
    (hp : ∀ b, I b → P (f b p)) (hkeep : ∀ b c, c ≠ p → I b → P b → P (f b c)) (cs : List α) (hmem : p ∈ cs) {b : β}
    (hb : I b) : P (cs.foldl f b) := by
  have hrest (xs : List α) (b : β) (hb : I b) (hP : P b) : P (xs.foldl f b) := by
    induction xs generalizing b with
    | nil => exact hP
    | cons x xs ih =>
      by_cases hx : x = p
      · exact ih _ (hI b x hb) (hx ▸ hp b hb)
      · exact ih _ (hI b x hb) (hkeep b x hx hb hP)
  induction cs generalizing b with
  | nil => simp at hmem
  | cons x xs ih =>
    obtain rfl | hxs := List.mem_cons.mp hmem
    · exact hrest xs _ (hI b p hb) (hp b hb)
    · exact ih hxs (hI b x hb)

/-- A machine without its sinks' measurements. -/
def Dev.offSinks (d : Dev) : Dev := { d with regs := [], lamp := { d.lamp with sinks := [] } }

theorem offSinks_spares : SparesMemories Dev.offSinks := fun _ => ⟨rfl, rfl, rfl⟩

theorem alters_measureSink (d : Dev) (k vhv head : Nat) (starved : Bool) :
    Dev.Alters Dev.offSinks as d (d.measureSink k vhv head starved) := by
  unfold Dev.measureSink
  split
  · exact alters_of (alters_refl d) rfl rfl
  · split
    · exact alters_refl d
    · exact alters_of (alters_refl d) rfl rfl

theorem Dev.sink_setSink (d : Dev) {k : Nat} (v : Sink) (j : Nat) (h : k < d.lamp.sinks.length) :
    (d.setSink k v).sink j = if j = k then v else d.sink j := by
  simp only [Dev.sink, Dev.setSink, List.getD_eq_getElem?_getD, List.getElem?_set]
  by_cases hj : j = k
  · subst hj
    simp [h]
  · simp [hj, Ne.symm hj]

theorem Dev.measureSink_length (d : Dev) (k vhv head : Nat) (starved : Bool) :
    (d.measureSink k vhv head starved).lamp.sinks.length = d.lamp.sinks.length := by
  unfold Dev.measureSink
  split
  · exact List.length_set
  · split
    · rfl
    · exact List.length_set

theorem Dev.sink_measureSink_ne (d : Dev) {k j : Nat} (h : j ≠ k) (hk : k < d.lamp.sinks.length) (vhv head : Nat) (starved : Bool) :
    (d.measureSink k vhv head starved).sink j = d.sink j := by
  unfold Dev.measureSink
  split
  · rw [Dev.sink_setSink _ _ _ hk, if_neg h]
  · split
    · rfl
    · rw [Dev.sink_setSink _ _ _ hk, if_neg h]

theorem Dev.sink_measureSink_same (d : Dev) {k : Nat} (h : d.sinkMeasured k = true) (hk : k < d.lamp.sinks.length)
    (vhv head : Nat) (starved : Bool) : ((d.measureSink k vhv head starved).sink k).head = head ∧
      ((d.measureSink k vhv head starved).sink k).starved = starved := by
  unfold Dev.measureSink
  rw [if_pos h, Dev.sink_setSink _ _ _ hk, if_pos rfl]
  exact ⟨rfl, rfl⟩

/-- The eight sinks measured. -/
def Dev.measureSinks (d : Dev) (vhv : Nat) (head : List Nat) (starved : Nat) : Dev :=
  (List.range 8).foldl (fun d k => d.measureSink k vhv (head.getD k 0) (starved.testBit k)) d

theorem alters_measureSinks (d : Dev) (vhv : Nat) (head : List Nat) (starved : Nat) :
    Dev.Alters Dev.offSinks as d (d.measureSinks vhv head starved) := alters_foldl _ d fun x _ _ => alters_measureSink x ..

/-- A sink is measured by the lamps and the configuration. -/
theorem Dev.sinkMeasured_eq (hlamps : e.lamp.lamps = d.lamp.lamps) (hcfg : e.cfg = d.cfg) (k : Nat) :
    e.sinkMeasured k = d.sinkMeasured k := by
  have hat (n : Nat) : e.lampAt n = d.lampAt n := by rw [Dev.lampAt, Lamps.get, hlamps, ← Lamps.get, ← Dev.lampAt]
  simp only [Dev.sinkMeasured, Dev.sinkLit_eq hat hcfg, Dev.tapped_cfg hcfg, hat]

theorem Dev.measureSinks_measure (d : Dev) (hlen : d.lamp.sinks.length = 8) (vhv : Nat) (head : List Nat) (starved : Nat)
    {k : Nat} (hk : k < 8) (h : d.sinkMeasured k = true) :
    ((d.measureSinks vhv head starved).sink k).head = head.getD k 0 ∧
      ((d.measureSinks vhv head starved).sink k).starved = starved.testBit k := by
  refine foldl_establishes (I := fun e : Dev => e.lamp.sinks.length = 8 ∧ e.sinkMeasured k = true)
    (P := fun e : Dev => (e.sink k).head = head.getD k 0 ∧ (e.sink k).starved = starved.testBit k) k ?_ ?_ ?_ (List.range 8)
    (List.mem_range.mpr hk) ⟨hlen, h⟩
  · rintro e c ⟨helen, hmeasured⟩
    have halters := alters_measureSink (as := []) e c vhv (head.getD c 0) (starved.testBit c)
    exact ⟨(Dev.measureSink_length ..).trans helen, (Dev.sinkMeasured_eq (halters.keeps (·.lamp.lamps) fun _ => rfl)
      (halters.keeps (·.cfg) fun _ => rfl) k).trans hmeasured⟩
  · rintro e ⟨helen, hmeasured⟩
    exact e.sink_measureSink_same hmeasured (helen ▸ hk) ..
  · rintro e c hne ⟨helen, hmeasured⟩ hP
    by_cases hc : c < 8
    · rwa [e.sink_measureSink_ne (Ne.symm hne) (helen ▸ hc)]
    · have hout : (e.measureSink c vhv (head.getD c 0) (starved.testBit c)).sink k = e.sink k := by
        unfold Dev.measureSink
        have hset (v : Sink) : (e.setSink c v).sink k = e.sink k := by
          simp only [Dev.sink, Dev.setSink]
          rw [List.set_eq_of_length_le (by omega)]
        split
        · exact hset _
        · split
          · rfl
          · exact hset _
      rwa [hout]

/-- The registers of the tap lamps' forward voltages. -/
abbrev tapRegs : List Nat := (List.range 8).map LAMP_TAPV

theorem checkTaps_unregulated (forward : List Nat) (ks : List Nat) (hks : ks ⊆ List.range 8) (d : Dev) (h : d.lampChecks = false) :
    Dev.Alters (fun x => { x with regs := [] }) tapRegs d (ks.foldl (fun d k => d.checkTap k (forward.getD k 0)) d) := by
  induction ks generalizing d with
  | nil => exact alters_refl d
  | cons k ks ih =>
    have hstep : Dev.Alters (fun x => { x with regs := [] }) tapRegs d (d.checkTap k (forward.getD k 0)) := by
      unfold Dev.checkTap
      dsimp only
      split
      · have hset : Dev.Alters (fun x => { x with regs := [] }) tapRegs d (d.setFld (LAMP_TAPV_VF k) (forward.getD k 0)) :=
          alters_setFld (alters_refl d) (List.mem_map_of_mem (hks List.mem_cons_self))
        have hchecks : (d.setFld (LAMP_TAPV_VF k) (forward.getD k 0)).lampChecks = false := by
          rw [Dev.lampChecks, hset.fld (by decide), ← Dev.lampChecks, h]
        rw [if_neg (ne_true_of_eq_false hchecks)]
        exact hset
      · exact alters_refl d
    have hchecks : (d.checkTap k (forward.getD k 0)).lampChecks = false := by
      rw [Dev.lampChecks, hstep.fld (by decide), ← Dev.lampChecks, h]
    exact alters_trans hstep (ih (fun j hj => hks (List.mem_cons_of_mem _ hj)) _ hchecks)

/-- A lamp whose output takes its level. -/
def Lamp.taken (l : Lamp) : Lamp := { l with out := if l.fault = 0 then l.level else 0 }

theorem Lamp.taken_default : Lamp.taken {} = {} := rfl

/-- The on-chip lamps take their levels, and the clamps noted are those of the period before. -/
def Dev.periodBegun (d : Dev) : Dev :=
  let d := d.mapLamps fun n l => if n < 16 then { l with out := if l.fault = 0 then l.level else 0 } else l
  { d with lamp := { d.lamp with clampPrev := if d.lampChecks then d.lamp.clampNow else [], clampNow := [] } }

theorem Dev.lampAt_periodBegun (d : Dev) (n : Nat) :
    d.periodBegun.lampAt n = if n < 16 then (d.lampAt n).taken else d.lampAt n :=
  d.lampAt_mapLamps (f := fun n l => if n < 16 then l.taken else l) (fun n => by rw [Lamp.taken_default, ite_self]) n

/-- The faults of the measured sinks, judged while the rail regulates. -/
def Dev.sinksJudged (d : Dev) (vhv : Nat) : Dev :=
  if d.lampChecks then (List.range 8).foldl (fun d k => d.checkSink k vhv) d else d

theorem Dev.pwmPeriod_eq (d : Dev) (vhv : Nat) (head : List Nat) (starved : Nat) (forward : List Nat) :
    d.pwmPeriod vhv head starved forward = (List.range 8).foldl (fun d k => d.checkTap k (forward.getD k 0))
      ((d.periodBegun.measureSinks vhv head starved).sinksJudged vhv) := rfl

/-- What a period leads to while the rail does not regulate. -/
structure Dev.PeriodTaken (d e : Dev) (head : List Nat) (starved : Nat) : Prop where
  lamps : ∀ n, e.lampAt n = if n < 16 then (d.lampAt n).taken else d.lampAt n
  clampPrev : e.lamp.clampPrev = []
  clampNow : e.lamp.clampNow = []
  sinks : ∀ k < 8, e.sinkMeasured k = true → (e.sink k).head = head.getD k 0 ∧ (e.sink k).starved = starved.testBit k
  leaves : d.leaves e tapRegs

theorem Dev.pwmPeriod_unregulated (h : d.lampChecks = false) (hlen : d.lamp.sinks.length = 8) (vhv : Nat) (head : List Nat)
    (starved : Nat) (forward : List Nat) : d.PeriodTaken (d.pwmPeriod vhv head starved forward) head starved := by
  have hbegun : d.leaves d.periodBegun tapRegs := leaves_of (d.leaves_refl _) rfl rfl rfl rfl
  have hprev : d.periodBegun.lamp.clampPrev = [] := if_neg (ne_true_of_eq_false h)
  have hlamps := d.lampAt_periodBegun
  have hmeasure := alters_measureSinks (as := tapRegs) d.periodBegun vhv head starved
  have hsinks := fun k => d.periodBegun.measureSinks_measure (k := k) hlen vhv head starved
  have hchecks : (d.periodBegun.measureSinks vhv head starved).lampChecks = false := by
    rw [Dev.lampChecks, (alters_measureSinks (as := []) d.periodBegun vhv head starved).fld List.not_mem_nil]
    exact h
  have hjudged : (d.periodBegun.measureSinks vhv head starved).sinksJudged vhv =
      d.periodBegun.measureSinks vhv head starved := if_neg (ne_true_of_eq_false hchecks)
  rw [Dev.pwmPeriod_eq, hjudged]
  have htaps := checkTaps_unregulated forward (List.range 8) (List.Subset.refl _) _ hchecks
  have hnow : d.periodBegun.lamp.clampNow = [] := rfl
  generalize d.periodBegun = x at *
  generalize x.measureSinks vhv head starved = y at *
  generalize (List.range 8).foldl (fun d k => d.checkTap k (forward.getD k 0)) y = t at *
  have hylamps : y.lamp.lamps = x.lamp.lamps := hmeasure.keeps (·.lamp.lamps) fun _ => rfl
  have hycfg : y.cfg = x.cfg := hmeasure.keeps (·.cfg) fun _ => rfl
  have htlamp : t.lamp = y.lamp := htaps.keeps (·.lamp) fun _ => rfl
  have htcfg : t.cfg = y.cfg := htaps.keeps (·.cfg) fun _ => rfl
  refine ⟨fun n => ?_, ?_, ?_, fun k hk hmeasured => ?_, ?_⟩
  · rw [Dev.lampAt, Lamps.get, htlamp, hylamps, ← Lamps.get, ← Dev.lampAt, hlamps]
  · rw [htlamp, ← hprev]
    exact hmeasure.keeps (·.lamp.clampPrev) fun _ => rfl
  · rw [htlamp, ← hnow]
    exact hmeasure.keeps (·.lamp.clampNow) fun _ => rfl
  · have hsink : t.sink k = y.sink k := by rw [Dev.sink, htlamp, ← Dev.sink]
    rw [hsink]
    refine hsinks k hk ?_
    rw [← Dev.sinkMeasured_eq hylamps hycfg, ← Dev.sinkMeasured_eq (congrArg Lamps.lamps htlamp) htcfg, hmeasured]
  · exact leaves_alters (leaves_alters hbegun hmeasure (List.Subset.refl _) offSinks_spares) htaps (List.Subset.refl _)
      fun _ => ⟨rfl, rfl, rfl⟩

/-! Clamps and headroom (R754, R772, R779). -/

/-- The lamp of a tap is present and lit. -/
def Dev.tapLit (d : Dev) (k : Nat) : Bool := d.tapped && d.lampPresent (8 + k) && (d.lampAt (8 + k)).lit

/-- A clamp noted. -/
def Dev.clampNoted (d : Dev) (k : Nat) : Dev := { d with lamp := { d.lamp with clampNow := k :: d.lamp.clampNow } }

theorem Dev.bypassClamp_dark {k : Nat} (h : d.tapLit k = false) : d.bypassClamp k = d :=
  if_neg (by rw [show (d.tapped && d.lampPresent (8 + k) && (d.lampAt (8 + k)).lit) = false from h]; simp)

theorem Dev.bypassClamp_known {k : Nat} (h : k ∈ d.lamp.clampNow) : d.bypassClamp k = d :=
  if_neg (by simp [h])

theorem Dev.bypassClamp_notes {k : Nat} (h : d.tapLit k = true) (hnew : k ∉ d.lamp.clampNow) :
    d.bypassClamp k = if k ∈ d.lamp.clampPrev ∧ d.lampChecks = true
      then (d.clampNoted k).lampFault (8 + k) 1 (word (d.fld (LAMP_TAPV_VF k))) else d.clampNoted k := by
  unfold Dev.bypassClamp
  dsimp only
  rw [show (d.tapped && d.lampPresent (8 + k) && (d.lampAt (8 + k)).lit) = true from h, if_pos (by simp [hnew])]
  simp only [List.contains_eq_mem, decide_eq_true_eq]
  rfl

theorem lampFault_declares {n : Nat} (h : (d.lampAt n).fault = 0) (kind : Nat) (w2 : Word) :
    ((d.lampFault n kind w2).lampAt n).fault = kind ∧
      (d.lampFault n kind w2).fld LAMP_CNT_FAULTS = min (d.fld LAMP_CNT_FAULTS + 1) (2 ^ LAMP_CNT_FAULTS.width - 1) := by
  have hmarked := d.lampAt_markFault n kind w2 n
  have hcount := d.fld_markFault n kind w2
  rw [Dev.lampFault_good h]
  generalize d.markFault n kind w2 = x at *
  have hfault := sameFaults_tripFor x n n
  have htrip := lampedRing_tripFor (as := [LAMP_TRIP]) (altersRing_refl x) (by decide) n
  rw [if_pos rfl] at hmarked
  rw [hmarked] at hfault
  exact ⟨hfault, (htrip.fld (g := LAMP_CNT_FAULTS) (by decide) (by decide)).trans hcount⟩

theorem bypassClamp_exec (k : BitVec 3) : exec (.bypassClamp k) s = s.run fun d => d.bypassClamp k.toNat := rfl

theorem Dev.lampHeadroom_reports {k : Nat} (hlit : d.sinkLit k = true)
    (hfed : (d.sink k).starved = false) (hlow : (d.sink k).head < 60) (hnew : (d.sink k).reported = false) :
    d.lampHeadroom k = (d.setSink k { d.sink k with reported := true }).ring 76 (word k) (word (d.sink k).head) := by
  unfold Dev.lampHeadroom
  dsimp only
  exact if_pos (by simp [hlit, hfed, hlow, hnew])

theorem Dev.lampHeadroom_told {k : Nat} (h : (d.sink k).reported = true) : d.lampHeadroom k = d := if_neg (by simp [h])

end Sys2Proof.Machine
end

section
/-!
SUPPORT. The external chain, group clears and fault clears (R756 to R760, R768, R780, R781), and O44.
-/

namespace Sys2Proof.Machine

variable {d e : Dev} {s : State} {as : List Nat}

/-! Refresh (R758, R759, R763). -/

/-- The external lamps take their levels, and the next plane follows. -/
def Dev.refreshed (d : Dev) : Dev :=
  let d := d.mapLamps fun n l => if n < 16 then l else { l with out := if l.fault = 0 then l.level else 0 }
  { d with lamp := { d.lamp with plane := if d.lamp.plane ≤ 8 then 11 else d.lamp.plane - 1 } }

theorem Dev.lampAt_refreshed (d : Dev) (n : Nat) :
    d.refreshed.lampAt n = if n < 16 then d.lampAt n else (d.lampAt n).taken :=
  d.lampAt_mapLamps (f := fun n l => if n < 16 then l else l.taken) (fun n => by rw [Lamp.taken_default, ite_self]) n

theorem leaves_refreshed (d : Dev) : d.leaves d.refreshed as := leaves_of (d.leaves_refl as) rfl rfl rfl rfl

/-- The channels of the external lamps judged in the refresh of a plane. -/
def Dev.channelsJudged (d : Dev) (p : Nat) (errors : List Nat) : Dev :=
  if d.lampChecks then (d.lamp.lamps.map Prod.fst |>.filter fun n => decide (16 ≤ n) && d.lampPresent n).foldl
    (fun d n => d.checkChannel p errors n) d else d

theorem Dev.refreshPeriod_runs (h : d.chainRuns = true) (errors : List Nat) :
    d.refreshPeriod errors = d.refreshed.channelsJudged d.lamp.plane errors := if_pos h

theorem lampedRing_checkChannel (d : Dev) (p : Nat) (errors : List Nat) (n : Nat) :
    Dev.LampedRing [LAMP_CHAINST, LAMP_CNT, LAMP_TRIP] d (d.checkChannel p errors n) := by
  unfold Dev.checkChannel
  dsimp only
  split
  · split
    · have hset : Dev.Lamped [LAMP_CHAINST, LAMP_CNT, LAMP_TRIP] d
          ((d.bump LAMP_CHAINST_CHANERR).setLamp n { d.lampAt n with chanRun := (d.lampAt n).chanRun + 1 }) :=
        lamped_setLamp (alters_bump (alters_refl d) (by decide)) ..
      split
      · exact lampedRing_lampFault hset.ring (by decide) (by decide) ..
      · exact hset.ring
    · exact (lamped_setLamp (alters_refl d) ..).ring
  · exact altersRing_refl d

theorem lampedRing_channelsJudged (d : Dev) (p : Nat) (errors : List Nat) :
    Dev.LampedRing [LAMP_CHAINST, LAMP_CNT, LAMP_TRIP] d (d.channelsJudged p errors) := by
  unfold Dev.channelsJudged
  split
  · exact altersRing_foldl _ d fun x n _ => lampedRing_checkChannel x p errors n
  · exact altersRing_refl d

/-! The chain's check (R760, R780). -/

/-- A check noted, with its outcome. -/
def Dev.chainNoted (d : Dev) (matched : Bool) : Dev :=
  let d := d.setFlag LAMP_STAT_CHAIN_OK matched
  { d with lamp := { d.lamp with checked := true } }

/-- A check that matched. -/
def Dev.chainMatched (d : Dev) : Dev := { d with lamp := { d.lamp with chainFails := 0 } }

/-- A check that failed, counted. -/
def Dev.chainFailed (d : Dev) : Dev :=
  let d := d.bump LAMP_CHAINST_CHAINERR
  { d with lamp := { d.lamp with chainFails := d.lamp.chainFails + 1 } }

/-- After a check that matched a broken chain is healed. -/
def Dev.chainPassed (d : Dev) : Dev := if d.lamp.blanked then d.chainHeal else d

/-- After two failed checks in a row the chain is broken. -/
def Dev.chainLost (d : Dev) : Dev := if 2 ≤ d.lamp.chainFails ∧ d.lamp.blanked = false then d.chainBreak else d

theorem Dev.chainCheck_none (h : d.ndrv = 0) (matched : Bool) : d.chainCheck matched = d := if_pos (.inl h)

theorem Dev.chainCheck_checks (hdrv : 0 < d.ndrv) (hstep : 7 ≤ d.pwr.step) (hsafe : d.mode ≠ modeSafe)
    (hhib : d.mode ≠ modeHibernate) (matched : Bool) : d.chainCheck matched =
      if matched then (d.chainNoted matched).chainMatched.chainPassed else (d.chainNoted matched).chainFailed.chainLost := by
  unfold Dev.chainCheck
  rw [if_neg (by omega)]
  rfl

theorem Dev.flag_chainNoted (d : Dev) (matched : Bool) : (d.chainNoted matched).flag LAMP_STAT_CHAIN_OK = matched :=
  Dev.flag_setFlag_same d _ _ (by decide) (by decide)

theorem leaves_chainNoted (d : Dev) (matched : Bool) (h : LAMP_STAT ∈ as) : d.leaves (d.chainNoted matched) as :=
  leaves_of (leaves_setFlag (f := LAMP_STAT_CHAIN_OK) (b := matched) (d.leaves_refl as) h) rfl rfl rfl rfl

/-- A chain declared broken. -/
def Dev.chainBlanked (d : Dev) (b : Bool) : Dev := { d with lamp := { d.lamp with blanked := b } }

/-- The external lamps declared faulted with the chain. -/
def Dev.chainFaults (d : Dev) (ns : List Nat) : Dev := ns.foldl (fun d n => d.markFault n 5 0) d

/-- A group that holds an external lamp tripped, when it is interlocked. -/
def Dev.chainTrip (d : Dev) (g : Nat) : Dev :=
  if (d.groupLamps g).any fun n => decide (16 ≤ n) then d.tripGroup g 3 0x3FF else d

/-- The interlocked groups that hold an external lamp tripped. -/
def Dev.chainTrips (d : Dev) : Dev := (List.range 16).foldl Dev.chainTrip d

theorem Dev.chainBreak_eq (d : Dev) : ∃ x, x = ((d.chainBlanked true).chainFaults d.externalLamps).sweepCmds.chainTrips ∧
    d.chainBreak = x.ring 77 0 x.chainStat := ⟨_, rfl, rfl⟩

theorem chainTrip_trips (d : Dev) (g : Nat) : Dev.LampedRing [LAMP_TRIP] d (d.chainTrip g) ∧ d.SameFaults (d.chainTrip g) := by
  unfold Dev.chainTrip
  split
  · exact ⟨lampedRing_tripGroup (altersRing_refl d) (by simp) .., sameFaults_tripGroup d g 3 0x3FF⟩
  · exact ⟨altersRing_refl d, fun _ => rfl⟩

theorem sameFaults_foldl {f : Dev → Nat → Dev} (h : ∀ (x : Dev) (g : Nat), x.SameFaults (f x g)) (gs : List Nat) (d : Dev) :
    d.SameFaults (gs.foldl f d) := by
  induction gs generalizing d with
  | nil => exact fun _ => rfl
  | cons g gs ih => exact fun n => (ih _ n).trans (h d g n)

theorem chainTrips_trips (d : Dev) : Dev.LampedRing [LAMP_TRIP] d d.chainTrips ∧ d.SameFaults d.chainTrips :=
  ⟨altersRing_foldl _ d fun x g _ => (chainTrip_trips x g).1, sameFaults_foldl (fun x g => (chainTrip_trips x g).2) _ d⟩

theorem lampStep_markFault (kind : Nat) : LampStep (fun d n => d.markFault n kind 0) (fun _ => True) fun _ => Lamp.faulted kind :=
  ⟨fun _ _ _ => trivial, fun e n k _ => e.lampAt_markFault n kind 0 k, fun _ _ => rfl⟩

/-- What the breaking of the chain leads to. -/
theorem Dev.chainBreak_breaks (d : Dev) : d.chainBreak.lamp.blanked = true ∧
    (∀ n ∈ d.externalLamps, (d.chainBreak.lampAt n).fault = 5) ∧ d.leavesRing d.chainBreak [LAMP_CNT, LAMP_TRIP] ∧
    (∀ g : Fld, g.addr ∉ [LAMP_CNT, LAMP_TRIP] → g.addr ∉ ringRegs → d.chainBreak.fld g = d.fld g) ∧
    ∃ x : Dev, d.chainBreak = x.ring 77 0 x.chainStat := by
  obtain ⟨x, hx, hbreak⟩ := d.chainBreak_eq
  have hfaults : Dev.LampedRing [LAMP_CNT, LAMP_TRIP] (d.chainBlanked true)
      ((d.chainBlanked true).chainFaults d.externalLamps).sweepCmds :=
    altersRing_of (altersRing_foldl _ _ fun y n _ => lampedRing_markFault (altersRing_refl y) (by simp) n 5 0) rfl rfl rfl
  have hfaulted (n : Nat) (hn : n ∈ d.externalLamps) :
      (((d.chainBlanked true).chainFaults d.externalLamps).sweepCmds.lampAt n).fault = 5 := by
    have hat := (lampStep_markFault 5).foldl (d := d.chainBlanked true) d.externalLamps trivial n
    rw [if_pos hn] at hat
    exact congrArg Lamp.fault hat
  obtain ⟨htrips, hsame⟩ := chainTrips_trips ((d.chainBlanked true).chainFaults d.externalLamps).sweepCmds
  rw [← hx] at htrips hsame
  generalize ((d.chainBlanked true).chainFaults d.externalLamps).sweepCmds = y at *
  have hblank : d.leavesRing (d.chainBlanked true) [LAMP_CNT, LAMP_TRIP] :=
    leavesRing_of_leaves (leaves_of (d.leaves_refl _) rfl rfl rfl rfl)
  have hboth : Dev.LampedRing [LAMP_CNT, LAMP_TRIP] (d.chainBlanked true) (x.ring 77 0 x.chainStat) :=
    altersRing_ring (altersRing_trans hfaults (altersRing_mono htrips (by simp)))
  rw [hbreak]
  refine ⟨hboth.keeps (·.lamp.blanked) fun _ => rfl, fun n hn => ?_,
    leavesRing_alters hblank hboth (List.Subset.refl _) offLampList_sparesNvm, fun g hg hr => hboth.fld hg hr, x, rfl⟩
  rw [Dev.lampAt_ring, hsame, hfaulted n hn]

/-- A lamp of a chain that is intact again. -/
def Lamp.healed (l : Lamp) : Lamp := { l.off with fault := 0, chanRun := 0 }

/-- The fault of the chain leaves an external lamp of no tripped group. -/
def Dev.healLamp (d : Dev) (n : Nat) : Dev :=
  if (d.lampAt n).fault = 5 ∧ d.lampTripped n = false then
    let d := d.lampOff n
    d.setLamp n { (d.lampAt n) with fault := 0, chanRun := 0 }
  else d

theorem Dev.chainHeal_eq (d : Dev) : ∃ x, x = (d.externalLamps.foldl Dev.healLamp (d.chainBlanked false)).sweepCmds ∧
    d.chainHeal = x.ring 77 1 x.chainStat := ⟨_, rfl, rfl⟩

theorem lamped_healLamp (d : Dev) (n : Nat) : Dev.Lamped as d (d.healLamp n) := by
  unfold Dev.healLamp
  split
  · exact lamped_setLamp (lamped_lampOff (alters_refl d) n) ..
  · exact alters_refl d

theorem Dev.lampTripped_eq (hcfg : e.cfg = d.cfg) (htrip : e.fld LAMP_TRIP_TRIPPED = d.fld LAMP_TRIP_TRIPPED) (n : Nat) :
    e.lampTripped n = d.lampTripped n := by
  simp only [Dev.lampTripped, Dev.groupOf_cfg hcfg, Dev.tripped, htrip]

/-- A lamp healed where only the chain's fault holds it. -/
def Lamp.healedIf (tripped : Bool) (l : Lamp) : Lamp := if l.fault = 5 ∧ tripped = false then l.healed else l

theorem lampStep_heal (d : Dev) : LampStep Dev.healLamp (fun e => ∀ n, e.lampTripped n = d.lampTripped n)
    fun n => Lamp.healedIf (d.lampTripped n) := by
  refine ⟨fun e n he m => ?_, fun e n k he => ?_, fun n l => ?_⟩
  · have hheal := lamped_healLamp (as := []) e n
    rw [Dev.lampTripped_eq (hheal.keeps (·.cfg) fun _ => rfl) (hheal.fld List.not_mem_nil), he]
  · unfold Dev.healLamp
    rw [he]
    split
    next hheal =>
      dsimp only
      rw [Dev.lampAt_setLamp, Dev.lampAt_lampOff, Dev.lampAt_lampOff]
      by_cases hk : k = n
      · rw [if_pos hk, if_pos hk, if_pos rfl]
        exact (if_pos hheal).symm
      · rw [if_neg hk, if_neg hk, if_neg hk]
    next hkept =>
      by_cases hk : k = n
      · rw [if_pos hk, hk]
        exact (if_neg hkept).symm
      · rw [if_neg hk]
  · by_cases h : l.fault = 5 ∧ d.lampTripped n = false
    · have hheals : Lamp.healedIf (d.lampTripped n) l = l.healed := if_pos h
      rw [hheals]
      exact if_neg (by simp [Lamp.healed])
    · have hkeeps : Lamp.healedIf (d.lampTripped n) l = l := if_neg h
      rw [hkeeps, hkeeps]

/-- What the healing of the chain leads to. -/
theorem Dev.chainHeal_heals (d : Dev) : d.chainHeal.lamp.blanked = false ∧ d.chainHeal.lamp.chainFails = d.lamp.chainFails ∧
    d.leavesRing d.chainHeal [] ∧
    (∀ n ∈ d.externalLamps, (d.lampAt n).fault = 5 → d.lampTripped n = false →
      (d.chainHeal.lampAt n).fault = 0 ∧ (d.chainHeal.lampAt n).level = 0) ∧
    (∀ g : Fld, g.addr ∉ ringRegs → d.chainHeal.fld g = d.fld g) ∧
    ∃ x : Dev, d.chainHeal = x.ring 77 1 x.chainStat := by
  obtain ⟨x, hx, hheal⟩ := d.chainHeal_eq
  have hfold : Dev.Lamped [] (d.chainBlanked false) x := hx ▸ lamped_sweepCmds (alters_foldl _ _ fun y n _ => lamped_healLamp y n)
  have hat (n : Nat) : x.lampAt n = if n ∈ d.externalLamps then Lamp.healedIf (d.lampTripped n) (d.lampAt n) else d.lampAt n := by
    rw [hx, Dev.lampAt_sweepCmds]
    exact (lampStep_heal d).foldl (d := d.chainBlanked false) d.externalLamps (fun _ => rfl) n
  have hring : Dev.LampedRing [] (d.chainBlanked false) (x.ring 77 1 x.chainStat) := altersRing_ring hfold.ring
  have hblank : d.leavesRing (d.chainBlanked false) [] := leavesRing_of_leaves (leaves_of (d.leaves_refl _) rfl rfl rfl rfl)
  rw [hheal]
  refine ⟨hring.keeps (·.lamp.blanked) fun _ => rfl, hring.keeps (·.lamp.chainFails) fun _ => rfl,
    leavesRing_alters hblank hring (List.Subset.refl _) offLampList_sparesNvm, fun n hn hfault htrip => ?_,
    fun g hr => hring.fld List.not_mem_nil hr, x, rfl⟩
  have hhealed : x.lampAt n = (d.lampAt n).healed := by
    rw [hat, if_pos hn]
    exact if_pos ⟨hfault, htrip⟩
  rw [Dev.lampAt_ring, hhealed]
  exact ⟨rfl, rfl⟩

/-! Clears (R768, R781). -/

/-- A lamp of a group that is cleared. -/
def Lamp.cleared (l : Lamp) : Lamp :=
  { l with level := 0, out := 0, fault := 0, cmd := none, openRun := 0, shortRun := 0, hotRun := 0, chanRun := 0 }

/-- The lamps of a group cleared. -/
def Dev.clearLamps (d : Dev) (ns : List Nat) : Dev := ns.foldl (fun d n => d.setLamp n (d.lampAt n).cleared) d

/-- The trip of a group is over. -/
def Dev.untripped (d : Dev) (g : Nat) : Dev := d.setFld LAMP_TRIP_TRIPPED (d.fld LAMP_TRIP_TRIPPED &&& (65535 - 2 ^ g))

theorem Dev.clearGroup_tripped {g : Nat} (h : d.tripped g = true) (by_ : Nat) : d.clearGroup g by_ =
    ((d.clearLamps (d.groupLamps g)).untripped g).ring 75 (pack [(g, 16), (by_, 0)])
      (((d.clearLamps (d.groupLamps g)).untripped g).reg LAMP_TRIP) := if_pos h

theorem Dev.clearGroup_untripped {g : Nat} (h : d.tripped g = false) (by_ : Nat) : d.clearGroup g by_ = d :=
  if_neg (ne_true_of_eq_false h)

theorem trip_mask : ∀ g < 16, 65535 - 2 ^ g < 65536 ∧ (65535 - 2 ^ g).testBit g = false := by decide

theorem Dev.lampAt_untripped (d : Dev) (g n : Nat) : (d.untripped g).lampAt n = d.lampAt n := rfl

theorem Dev.tripped_untripped (d : Dev) {g : Nat} (h : g < 16) : (d.untripped g).tripped g = false := by
  obtain ⟨hlt, hbit⟩ := trip_mask g h
  have hfld : (d.untripped g).fld LAMP_TRIP_TRIPPED = (d.fld LAMP_TRIP_TRIPPED &&& (65535 - 2 ^ g)) % 2 ^ 16 :=
    Dev.fld_setFld_same d _ _ (by decide)
  rw [Dev.tripped, hfld, Nat.testBit_mod_two_pow, Nat.testBit_and, hbit, Bool.and_false, Bool.and_false]

/-- What the clear of a tripped group leads to. -/
structure Dev.GroupCleared (d e : Dev) (g by_ : Nat) : Prop where
  untripped : e.tripped g = false
  rang : d.rang e 75 (pack [(g, 16), (by_, 0)]) (e.reg LAMP_TRIP)
  leaves : d.leavesRing e [LAMP_TRIP]
  lamps : ∀ n ∈ d.groupLamps g, e.lampAt n = (d.lampAt n).cleared
  alters : Dev.LampedRing [LAMP_TRIP] d e

theorem Dev.clearGroup_clears {g : Nat} (hg : g < 16) (h : d.tripped g = true) (by_ : Nat) :
    d.GroupCleared (d.clearGroup g by_) g by_ := by
  have hclear : Dev.Lamped [] d (d.clearLamps (d.groupLamps g)) :=
    alters_foldl _ d fun x n _ => lamped_setLamp (alters_refl x) ..
  have hat (n : Nat) := (lampStep_set Lamp.cleared fun _ => rfl).foldl (d := d) (d.groupLamps g) trivial n
  change ∀ n, (d.clearLamps (d.groupLamps g)).lampAt n = _ at hat
  rw [Dev.clearGroup_tripped h]
  have huntripped := (d.clearLamps (d.groupLamps g)).tripped_untripped hg
  have hset : Dev.Lamped [LAMP_TRIP] d ((d.clearLamps (d.groupLamps g)).untripped g) :=
    alters_setFld (alters_mono hclear (by simp)) (by decide)
  have hlamps (n : Nat) : ((d.clearLamps (d.groupLamps g)).untripped g).lampAt n = (d.clearLamps (d.groupLamps g)).lampAt n :=
    Dev.lampAt_untripped ..
  generalize (d.clearLamps (d.groupLamps g)).untripped g = x at *
  have hring (w1 : Word) : Dev.LampedRing [LAMP_TRIP] d (x.ring 75 w1 (x.reg LAMP_TRIP)) := altersRing_ring hset.ring
  refine ⟨?_, ?_, (hring _).leavesRing offLampList_sparesNvm, fun n hn => ?_, hring _⟩
  · rw [Dev.tripped, Dev.ring_fld (by decide)]
    exact huntripped
  · rw [Dev.ring_reg (by decide)]
    exact rang_ring (hset.keeps (·.evr) fun _ => rfl) ..
  · rw [Dev.lampAt_ring, hlamps, hat, if_pos hn]

end Sys2Proof.Machine
end

section
/-!
SUPPORT. The commands that clear trips and faults (R768, R781), and O44.
-/

namespace Sys2Proof.Machine

variable {d e : Dev} {s : State} {as : List Nat}

/-! LAMP_GCLEAR (R768, R786). -/

theorem named_one : ∀ g < 16, ((List.range 16).filter fun k => (2 ^ g).testBit k) = [g] := by decide

theorem lampGclear_unkeyed {value : Word} (h : wGet value 16 8 ≠ 0x5A) :
    Completes (.lampGclear value) s fun t => t = s.dev.ignoreWrite :=
  completes_of (f := fun d => d.lampGclear value) rfl (if_pos h)

section

variable {value : Word} {g : Nat} (hkey : wGet value 16 8 = 0x5A) (hg : g < 16) (hone : wGet value 0 16 = 2 ^ g)
include hkey hg hone

theorem lampGclear_barred (h : s.dev.groupClr g ≠ 0) : Completes (.lampGclear value) s fun t => t = s.dev.ignoreWrite := by
  refine completes_of (f := fun d => d.lampGclear value) rfl ?_
  have hkept : s.dev.ignoreWrite.groupClr g ≠ 0 := h
  unfold Dev.lampGclear
  rw [if_neg (by simp [hkey]), hone, named_one g hg]
  simp [h, hkept]

theorem lampGclear_clears (h : s.dev.groupClr g = 0) : Completes (.lampGclear value) s fun t => t = s.dev.clearGroup g 0 := by
  refine completes_of (f := fun d => d.lampGclear value) rfl ?_
  unfold Dev.lampGclear
  rw [if_neg (by simp [hkey]), hone, named_one g hg]
  simp [h]

end

/-! LAMP_FAULT_CLEAR (R781). -/

/-- What a W1C write of LAMP_FLT does for one of its bits. -/
def Dev.faultBit (d : Dev) (w : Nat) (value : Word) (b : Nat) : Dev :=
  let n := 24 * w + b
  if value.toNat.testBit b ∧ n < 528 then
    if d.lampTripped n then d.bump LAMP_CNT_REFUSED
    else if (d.lampAt n).fault = 0 then d
    else d.setLamp n { (d.lampAt n) with fault := 0, openRun := 0, shortRun := 0, hotRun := 0, chanRun := 0 }
  else d

theorem word_two_pow : ∀ b < 24, (word (2 ^ b)).toNat = 2 ^ b := by decide

theorem Dev.lampFaultClear_bit (d : Dev) (w : Nat) {b : Nat} (hb : b < 24) :
    d.lampFaultClear w (word (2 ^ b)) = d.faultBit w (word (2 ^ b)) b := by
  have hother (e : Dev) (c : Nat) (hc : c ≠ b) : e.faultBit w (word (2 ^ b)) c = e := by
    refine if_neg fun hset => ?_
    have hbit : (2 ^ b).testBit c = true := word_two_pow b hb ▸ hset.1
    rw [Nat.testBit_two_pow, decide_eq_true_eq] at hbit
    exact hc hbit.symm
  exact foldl_at b d (List.range 24) (fun c hc => hother d c hc) rfl (fun c hc => hother _ c hc)
    (List.mem_range.mpr hb) List.nodup_range

theorem Dev.faultBit_named (d : Dev) {w b n : Nat} (hb : b < 24) (hn : n = 24 * w + b) (hlt : n < 528) :
    d.faultBit w (word (2 ^ b)) b = if d.lampTripped n then d.bump LAMP_CNT_REFUSED
      else if (d.lampAt n).fault = 0 then d
      else d.setLamp n { (d.lampAt n) with fault := 0, openRun := 0, shortRun := 0, hotRun := 0, chanRun := 0 } := by
  subst hn
  refine if_pos ⟨?_, hlt⟩
  rw [word_two_pow b hb, Nat.testBit_two_pow_self]

/-- What the clear of one lamp's fault leads to. -/
structure Dev.FaultCleared (d e : Dev) (n : Nat) : Prop where
  fault : (e.lampAt n).fault = 0
  level : (e.lampAt n).level = (d.lampAt n).level
  others : ∀ k, k ≠ n → e.lampAt k = d.lampAt k
  leaves : d.leaves e []

section

variable {w : BitVec 5} {b n : Nat} (hb : b < 24) (hn : n = 24 * w.toNat + b) (hlt : n < 528)
include hb hn hlt

theorem lampFaultClear_refused (h : s.dev.lampTripped n = true) :
    Completes (.lampFaultClear w (word (2 ^ b))) s fun t => t = s.dev.bump LAMP_CNT_REFUSED :=
  completes_of (f := fun d => d.lampFaultClear w.toNat (word (2 ^ b))) rfl
    ((s.dev.lampFaultClear_bit _ hb).trans ((s.dev.faultBit_named hb hn hlt).trans (if_pos h)))

theorem lampFaultClear_clears (h : s.dev.lampTripped n = false) :
    Completes (.lampFaultClear w (word (2 ^ b))) s fun t => s.dev.FaultCleared t n := by
  refine completes_of (f := fun d => d.lampFaultClear w.toNat (word (2 ^ b))) rfl ?_
  rw [s.dev.lampFaultClear_bit _ hb, s.dev.faultBit_named hb hn hlt, if_neg (ne_true_of_eq_false h)]
  split
  next hnone => exact ⟨hnone, rfl, fun _ _ => rfl, s.dev.leaves_refl _⟩
  next =>
    refine ⟨?_, ?_, fun k hk => ?_, (lamped_setLamp (alters_refl _) ..).leaves offLampList_spares⟩
    · rw [Dev.lampAt_setLamp, if_pos rfl]
    · rw [Dev.lampAt_setLamp, if_pos rfl]
    · rw [Dev.lampAt_setLamp, if_neg hk]

end

/-! The other commands. -/

theorem refusedCounted (d : Dev) : (d.bump LAMP_CNT_REFUSED).lamp = d.lamp ∧
    (d.bump LAMP_CNT_REFUSED).fld LAMP_CNT_REFUSED = min (d.fld LAMP_CNT_REFUSED + 1) (2 ^ LAMP_CNT_REFUSED.width - 1) ∧
    d.leaves (d.bump LAMP_CNT_REFUSED) [LAMP_CNT] :=
  ⟨rfl, Dev.fld_bump_same _ _ (by decide), leaves_bump (d.leaves_refl _) (by decide)⟩

theorem ignored_lamps (d : Dev) : d.leaves d.ignoreWrite [SYS_WRIGN] ∧
    d.ignoreWrite.fld SYS_WRIGN_COUNT = min (d.fld SYS_WRIGN_COUNT + 1) (2 ^ SYS_WRIGN_COUNT.width - 1) ∧
    d.ignoreWrite.lamp = d.lamp := ⟨Dev.leaves_ignoreWrite d, Dev.fld_ignoreWrite d, rfl⟩

section

variable {k : BitVec 3}

theorem bypassClamp_dark (h : s.dev.tapped = false) : Completes (.bypassClamp k) s fun t => t = s.dev :=
  completes_of (bypassClamp_exec k) (Dev.bypassClamp_dark (by simp [Dev.tapLit, h]))

variable (hlit : s.dev.tapLit k.toNat = true) (hnew : k.toNat ∉ s.dev.lamp.clampNow)
include hlit hnew

theorem bypassClamp_first (h : k.toNat ∉ s.dev.lamp.clampPrev) :
    Completes (.bypassClamp k) s fun t => t = s.dev.clampNoted k.toNat :=
  completes_of (bypassClamp_exec k) ((Dev.bypassClamp_notes hlit hnew).trans (if_neg fun hboth => h hboth.1))

theorem bypassClamp_second (h : k.toNat ∈ s.dev.lamp.clampPrev) (hchecks : s.dev.lampChecks = true) :
    Completes (.bypassClamp k) s fun t => (t.lampAt (8 + k.toNat)).fault = 1 ∧ s.dev.leavesRing t [LAMP_CNT, LAMP_TRIP] ∧
      t.fld LAMP_CNT_FAULTS = min (s.dev.fld LAMP_CNT_FAULTS + 1) (2 ^ LAMP_CNT_FAULTS.width - 1) := by
  have hgood : ((s.dev.clampNoted k.toNat).lampAt (8 + k.toNat)).fault = 0 := by
    simp only [Dev.tapLit, Lamp.lit, Bool.and_eq_true, beq_iff_eq] at hlit
    exact hlit.2.1
  have hleaves : s.dev.leavesRing (s.dev.clampNoted k.toNat) [LAMP_CNT, LAMP_TRIP] :=
    leavesRing_of_leaves (leaves_of (s.dev.leaves_refl _) rfl rfl rfl rfl)
  refine completes_of (bypassClamp_exec k) ?_
  rw [Dev.bypassClamp_notes hlit hnew, if_pos ⟨h, hchecks⟩]
  obtain ⟨hfault, hcount⟩ := lampFault_declares hgood 1 (word (s.dev.fld (LAMP_TAPV_VF k.toNat)))
  exact ⟨hfault, leavesRing_alters hleaves (lampedRing_lampFault (altersRing_refl _) (by decide) (by decide) ..)
    (List.Subset.refl _) offLampList_sparesNvm, hcount⟩

end

theorem refreshPeriod_idle (h : s.dev.chainRuns = false) (errors : List (BitVec 10)) :
    Completes (.refreshPeriod errors) s fun t => t = s.dev :=
  completes_of (f := fun d => d.refreshPeriod (errors.map BitVec.toNat)) rfl (if_neg (ne_true_of_eq_false h))

theorem refreshPeriod_runs (h : s.dev.chainRuns = true) (errors : List (BitVec 10)) :
    Completes (.refreshPeriod errors) s fun t =>
      t = s.dev.refreshed.channelsJudged s.dev.lamp.plane (errors.map BitVec.toNat) :=
  completes_of (f := fun d => d.refreshPeriod (errors.map BitVec.toNat)) rfl (Dev.refreshPeriod_runs h _)

section

variable (hdrv : 0 < s.dev.ndrv) (hstep : 7 ≤ s.dev.pwr.step) (hsafe : s.dev.mode ≠ modeSafe) (hhib : s.dev.mode ≠ modeHibernate)
include hdrv hstep hsafe hhib

theorem chainCheck_matched : Completes (.chainCheck true) s fun t => t = (s.dev.chainNoted true).chainMatched.chainPassed :=
  completes_of (f := fun d => d.chainCheck true) rfl ((Dev.chainCheck_checks hdrv hstep hsafe hhib true).trans (if_pos rfl))

theorem chainCheck_failed : Completes (.chainCheck false) s fun t => t = (s.dev.chainNoted false).chainFailed.chainLost :=
  completes_of (f := fun d => d.chainCheck false) rfl
    ((Dev.chainCheck_checks hdrv hstep hsafe hhib false).trans (if_neg (by decide)))

theorem chainCheck_intact (h : s.dev.lamp.blanked = false) : Completes (.chainCheck true) s fun t =>
    t.flag LAMP_STAT_CHAIN_OK = true ∧ t.lamp = { s.dev.lamp with chainFails := 0, checked := true } ∧
      s.dev.leaves t [LAMP_STAT] := by
  refine (chainCheck_matched hdrv hstep hsafe hhib).mono fun t ht => ?_
  have hpassed : (s.dev.chainNoted true).chainMatched.chainPassed = (s.dev.chainNoted true).chainMatched :=
    if_neg (ne_true_of_eq_false h)
  rw [ht, hpassed]
  exact ⟨s.dev.flag_chainNoted true, rfl, leaves_of (leaves_chainNoted s.dev true (by decide)) rfl rfl rfl rfl⟩

theorem chainCheck_heals (h : s.dev.lamp.blanked = true) : Completes (.chainCheck true) s fun t =>
    t.flag LAMP_STAT_CHAIN_OK = true ∧ t.lamp.blanked = false ∧ t.lamp.chainFails = 0 ∧ s.dev.leavesRing t [LAMP_STAT] ∧
      (∀ n ∈ s.dev.externalLamps, (s.dev.lampAt n).fault = 5 → s.dev.lampTripped n = false →
        (t.lampAt n).fault = 0 ∧ (t.lampAt n).level = 0) ∧ ∃ e : Dev, t = e.ring 77 1 e.chainStat := by
  refine (chainCheck_matched hdrv hstep hsafe hhib).mono fun t ht => ?_
  have hpassed : (s.dev.chainNoted true).chainMatched.chainPassed = (s.dev.chainNoted true).chainMatched.chainHeal := if_pos h
  rw [ht, hpassed]
  have hok := s.dev.flag_chainNoted true
  have hleaves : s.dev.leaves (s.dev.chainNoted true).chainMatched [LAMP_STAT] :=
    leaves_of (leaves_chainNoted s.dev true (by decide)) rfl rfl rfl rfl
  obtain ⟨hblanked, hfails, hring, hlamps, hfld, htold⟩ := (s.dev.chainNoted true).chainMatched.chainHeal_heals
  refine ⟨?_, hblanked, hfails, leavesRing_trans (leavesRing_of_leaves hleaves) (leavesRing_mono hring (by simp)),
    fun n hn hfault htrip => ?_, htold⟩
  · rw [Dev.flag, hfld _ (by decide), ← Dev.flag]
    exact hok
  · have hkept : (s.dev.chainNoted true).chainMatched.fld LAMP_TRIP_TRIPPED = s.dev.fld LAMP_TRIP_TRIPPED :=
      Dev.fld_setFlag_apart (f := LAMP_TRIP_TRIPPED) (g := LAMP_STAT_CHAIN_OK) s.dev true (by decide) (by decide)
    exact hlamps n hn hfault ((Dev.lampTripped_eq (d := s.dev) (e := (s.dev.chainNoted true).chainMatched) rfl hkept n).trans htrip)

theorem chainCheck_counts (hfirst : s.dev.lamp.chainFails = 0) :
    Completes (.chainCheck false) s fun t => t.flag LAMP_STAT_CHAIN_OK = false ∧
      t.lamp = { s.dev.lamp with chainFails := 1, checked := true } ∧ s.dev.leaves t [LAMP_STAT, LAMP_CHAINST] ∧
      t.fld LAMP_CHAINST_CHAINERR = min (s.dev.fld LAMP_CHAINST_CHAINERR + 1) (2 ^ LAMP_CHAINST_CHAINERR.width - 1) := by
  refine (chainCheck_failed hdrv hstep hsafe hhib).mono fun t ht => ?_
  have hfails : (s.dev.chainNoted false).chainFailed.lamp.chainFails = 1 := congrArg (· + 1) hfirst
  have hkept : (s.dev.chainNoted false).chainFailed.chainLost = (s.dev.chainNoted false).chainFailed :=
    if_neg (by rw [hfails]; omega)
  have herr : (s.dev.chainNoted false).fld LAMP_CHAINST_CHAINERR = s.dev.fld LAMP_CHAINST_CHAINERR :=
    Dev.fld_setFld_apart s.dev _ (by decide) (by decide)
  rw [ht, hkept]
  refine ⟨?_, ?_, ?_, ?_⟩
  · exact (Dev.flag_setFld_apart (s.dev.chainNoted false) _ (by decide) (by decide)).trans (s.dev.flag_chainNoted false)
  · rw [← hfails]
    rfl
  · exact leaves_of (leaves_bump (f := LAMP_CHAINST_CHAINERR) (leaves_chainNoted s.dev false (by decide)) (by decide)) rfl rfl rfl rfl
  · exact (Dev.fld_bump_same (s.dev.chainNoted false) _ (by decide)).trans (by rw [herr])

theorem chainCheck_breaks (h : s.dev.lamp.blanked = false) (hagain : 1 ≤ s.dev.lamp.chainFails) :
    Completes (.chainCheck false) s fun t => t.flag LAMP_STAT_CHAIN_OK = false ∧ t.lamp.blanked = true ∧
      (∀ n ∈ s.dev.externalLamps, (t.lampAt n).fault = 5) ∧
      s.dev.leavesRing t [LAMP_STAT, LAMP_CHAINST, LAMP_CNT, LAMP_TRIP] ∧ ∃ e : Dev, t = e.ring 77 0 e.chainStat := by
  refine (chainCheck_failed hdrv hstep hsafe hhib).mono fun t ht => ?_
  have hfails : 2 ≤ (s.dev.chainNoted false).chainFailed.lamp.chainFails := Nat.succ_le_succ hagain
  have hlost : (s.dev.chainNoted false).chainFailed.chainLost = (s.dev.chainNoted false).chainFailed.chainBreak :=
    if_pos ⟨hfails, h⟩
  have hok : (s.dev.chainNoted false).chainFailed.flag LAMP_STAT_CHAIN_OK = false :=
    (Dev.flag_setFld_apart (s.dev.chainNoted false) _ (by decide) (by decide)).trans (s.dev.flag_chainNoted false)
  have hleaves : s.dev.leaves (s.dev.chainNoted false).chainFailed [LAMP_STAT, LAMP_CHAINST] :=
    leaves_of (leaves_bump (f := LAMP_CHAINST_CHAINERR) (leaves_chainNoted s.dev false (by decide)) (by decide)) rfl rfl rfl rfl
  obtain ⟨hblanked, hlamps, hring, hfld, htold⟩ := (s.dev.chainNoted false).chainFailed.chainBreak_breaks
  rw [ht, hlost]
  refine ⟨?_, hblanked, hlamps, leavesRing_trans (leavesRing_of_leaves (leaves_mono hleaves (by simp)))
    (leavesRing_mono hring (by simp)), htold⟩
  rw [Dev.flag, hfld _ (by decide) (by decide), ← Dev.flag, hok]

end

theorem lampHeadroom_reports {sink : BitVec 3} {k : Nat} (hlen : s.dev.lamp.sinks.length = 8) (hk : sink.toNat = k)
    (hlit : s.dev.sinkLit k = true) (hfed : (s.dev.sink k).starved = false) (hlow : (s.dev.sink k).head < 60)
    (hnew : (s.dev.sink k).reported = false) : Completes (.lampHeadroom sink) s fun t =>
      t.sink k = { s.dev.sink k with reported := true } ∧ s.dev.rang t 76 (word k) (word (s.dev.sink k).head) ∧
      s.dev.leavesRing t [] := by
  have hlt : k < s.dev.lamp.sinks.length := hlen ▸ hk ▸ sink.isLt
  refine completes_of (f := fun d => d.lampHeadroom sink.toNat) rfl ?_
  rw [hk, Dev.lampHeadroom_reports hlit hfed hlow hnew]
  have hset : s.dev.leaves (s.dev.setSink k { s.dev.sink k with reported := true }) [] :=
    leaves_of (s.dev.leaves_refl []) rfl rfl rfl rfl
  refine ⟨?_, rang_ring (by rfl) .., leavesRing_ring (leavesRing_of_leaves hset) ..⟩
  rw [Dev.sink, Dev.ring_lamp, ← Dev.sink, Dev.sink_setSink _ _ _ hlt, if_pos rfl]

theorem lampHeadroom_told {sink : BitVec 3} {k : Nat} (hk : sink.toNat = k) (h : (s.dev.sink k).reported = true) :
    Completes (.lampHeadroom sink) s fun t => t = s.dev :=
  completes_of (f := fun d => d.lampHeadroom sink.toNat) rfl (Dev.lampHeadroom_told (hk ▸ h))

/-- Settles O44: the lamps' commands, each with the lamps it leads to. -/
theorem lampsAreDriven : Obligations.LampsAreDriven := by
  intro s hlen
  refine ⟨fun rq value n hn => ⟨lampCommand_idle value, fun hruns => ⟨fun hrefused => ?_, fun hopen hmode => ?_⟩⟩,
    fadeTick_steps, fun vhv head starved forward hoff => ?_, fun k n hn => ⟨bypassClamp_dark, fun htap hthere hlit hnew => ?_⟩,
    fun errors => ⟨fun hidle => refreshPeriod_idle hidle errors, fun hruns hoff => ?_⟩,
    fun hnone m => completes_of (f := fun d => d.chainCheck m) rfl (Dev.chainCheck_none hnone m),
    fun hdrv hstep hsafe hhib => ⟨fun hwhole => ⟨chainCheck_intact hdrv hstep hsafe hhib hwhole,
      chainCheck_counts hdrv hstep hsafe hhib, chainCheck_breaks hdrv hstep hsafe hhib hwhole⟩,
      chainCheck_heals hdrv hstep hsafe hhib⟩,
    fun value hkey => (lampGclear_unkeyed hkey).mono fun t ht => ht ▸ ignored_lamps s.dev,
    fun value g hkey hg hone htripped => ⟨fun hbarred => ?_, fun hopen => ?_⟩,
    fun w b n hb hn hlt => ⟨fun htripped => ?_, fun hopen => ?_⟩,
    fun sink k hk => ⟨lampHeadroom_reports hlen hk, lampHeadroom_told hk⟩⟩
  · exact (lampCommand_refused hn hruns hrefused).mono fun t ht => ht ▸ refusedCounted s.dev
  · exact (lampCommand_moves hn hruns hopen hmode).mono fun t ht => ⟨ht.moved, ht.others, ht.next, ht.leaves⟩
  · refine completes_of (f := fun d => d.pwmPeriod vhv.toNat (head.map BitVec.toNat) starved.toNat (forward.map BitVec.toNat)) rfl ?_
    have htaken := Dev.pwmPeriod_unregulated hoff hlen vhv.toNat (head.map BitVec.toNat) starved.toNat (forward.map BitVec.toNat)
    refine ⟨fun n hn => (htaken.lamps n).trans (if_pos hn), fun n hn => (htaken.lamps n).trans (if_neg (by omega)),
      htaken.clampPrev, htaken.clampNow, htaken.sinks, htaken.leaves⟩
  · subst hn
    have htaplit : s.dev.tapLit k.toNat = true := by simp [Dev.tapLit, htap, hthere, hlit]
    exact ⟨bypassClamp_first htaplit hnew, bypassClamp_second htaplit hnew⟩
  · refine (refreshPeriod_runs hruns errors).mono fun t ht => ?_
    have hjudged : s.dev.refreshed.channelsJudged s.dev.lamp.plane (errors.map BitVec.toNat) = s.dev.refreshed :=
      if_neg (ne_true_of_eq_false hoff)
    rw [ht, hjudged]
    exact ⟨fun n hn => (s.dev.lampAt_refreshed n).trans (if_pos hn),
      fun n hn => (s.dev.lampAt_refreshed n).trans (if_neg (by omega)), rfl, leaves_refreshed s.dev⟩
  · exact (lampGclear_barred hkey hg hone hbarred).mono fun t ht => ht ▸ ignored_lamps s.dev
  · refine (lampGclear_clears hkey hg hone hopen).mono fun t ht => ?_
    have hcleared := Dev.clearGroup_clears hg htripped 0
    rw [ht]
    refine ⟨hcleared.untripped, hcleared.rang, hcleared.leaves, fun n hn => ?_⟩
    rw [hcleared.lamps n hn]
    exact ⟨rfl, rfl, rfl⟩
  · exact (lampFaultClear_refused hb hn hlt htripped).mono fun t ht => ht ▸ refusedCounted s.dev
  · exact (lampFaultClear_clears hb hn hlt hopen).mono fun t ht => ⟨ht.fault, ht.level, ht.others, ht.leaves⟩

end Sys2Proof.Machine
end

section
/-!
SUPPORT. The counterexample to O48: a run whose next item names a driver far beyond the electrodes of the tile, so that the
electrode's fault bit lies in CAL_STAT.
-/

namespace Sys2Proof.Machine

/-- The item of the driver whose fault bit is bit 21 of CAL_STAT. -/
def farDriver : Nat := 68 + (24 * (CAL_STAT - SCAN_ELFAULT 0) + 21)

/-- A standalone machine in IDLE with a sliced run, of which the far driver and channel 0 are left. -/
def farRun : Dev :=
  let d := State.reset.dev
  let d := { d with pwr := { d.pwr with step := 8 }, cal := { d.cal with items := [farDriver, 0] } }
  ((d.setFld SYS_STRAP_ROLE 2).setFld PWR_STAT_MODE modeIdle).setFld CAL_STAT_STATE calSliced

/-- A driver without a good leg is faulted, and its fault bit makes STATE 3. -/
theorem farRun_slice : (farRun.slice [([], false)]).fld CAL_STAT_STATE = calFull := by decide +kernel

/-- Refutes O48: a slice that takes the far driver, with no good leg, shows STATE 3, not 2. -/
theorem not_calibrationAndLog : ¬ Obligations.CalibrationAndLog := by
  unfold Obligations.CalibrationAndLog
  intro h
  obtain ⟨-, -, hslice, -⟩ := h ⟨farRun, []⟩
  obtain ⟨-, hnext⟩ := hslice (by decide +kernel)
  obtain ⟨-, -, hstate, -⟩ := Completes.effect (f := fun d => d.slice [([], false)]) rfl
    (hnext farDriver [0] ([], false) (by decide +kernel) rfl (by decide))
  have hclaim : (farRun.slice [([], false)]).fld CAL_STAT_STATE = calSliced := hstate
  rw [farRun_slice] at hclaim
  exact absurd hclaim (by decide)

end Sys2Proof.Machine
end

section
/-!
SUPPORT. Where the commands of the lamps and of infrared complete (chapters 20 and 21).
-/

namespace Sys2Proof.Machine

variable {d e : Dev} {s : State}

/-! Lamps. -/

theorem bypassClamp_records {k : BitVec 3} (hlit : s.dev.tapLit k.toNat = true) :
    Completes (.bypassClamp k) s fun t => k.toNat ∈ t.lamp.clampNow := by
  refine completes_of (bypassClamp_exec k) ?_
  by_cases hnew : k.toNat ∈ s.dev.lamp.clampNow
  · rw [Dev.bypassClamp_known hnew]
    exact hnew
  · rw [Dev.bypassClamp_notes hlit hnew]
    split
    · have hkept := (lampedRing_lampFault (as := [LAMP_CNT, LAMP_TRIP]) (altersRing_refl (s.dev.clampNoted k.toNat)) (by decide)
        (by decide) (8 + k.toNat) 1 (word (s.dev.fld (LAMP_TAPV_VF k.toNat)))).keeps (·.lamp.clampNow) fun _ => rfl
      rw [hkept]
      exact List.mem_cons_self
    · exact List.mem_cons_self

theorem refreshPeriod_steps (errors : List (BitVec 10)) (h : s.dev.chainRuns = true) :
    Completes (.refreshPeriod errors) s fun t => t.lamp.plane = if s.dev.lamp.plane ≤ 8 then 11 else s.dev.lamp.plane - 1 := by
  refine (refreshPeriod_runs h errors).mono fun t ht => ?_
  rw [ht]
  exact (lampedRing_channelsJudged s.dev.refreshed s.dev.lamp.plane _).keeps (·.lamp.plane) fun _ => rfl

theorem Dev.flag_chainPassed (d : Dev) : d.chainPassed.flag LAMP_STAT_CHAIN_OK = d.flag LAMP_STAT_CHAIN_OK := by
  unfold Dev.chainPassed
  split
  · obtain ⟨-, -, -, -, hfld, -⟩ := d.chainHeal_heals
    rw [Dev.flag, hfld _ (by decide), ← Dev.flag]
  · rfl

theorem Dev.flag_chainLost (d : Dev) : d.chainLost.flag LAMP_STAT_CHAIN_OK = d.flag LAMP_STAT_CHAIN_OK := by
  unfold Dev.chainLost
  split
  · obtain ⟨-, -, -, hfld, -⟩ := d.chainBreak_breaks
    rw [Dev.flag, hfld _ (by decide) (by decide), ← Dev.flag]
  · rfl

theorem chainCheck_shows (m : Bool) (hdrv : 0 < s.dev.ndrv) (hstep : 7 ≤ s.dev.pwr.step) (hsafe : s.dev.mode ≠ modeSafe)
    (hhib : s.dev.mode ≠ modeHibernate) : Completes (.chainCheck m) s fun t => t.flag LAMP_STAT_CHAIN_OK = m := by
  cases m with
  | true =>
    refine (chainCheck_matched hdrv hstep hsafe hhib).mono fun t ht => ?_
    rw [ht, Dev.flag_chainPassed]
    exact s.dev.flag_chainNoted true
  | false =>
    refine (chainCheck_failed hdrv hstep hsafe hhib).mono fun t ht => ?_
    rw [ht, Dev.flag_chainLost]
    exact (Dev.flag_setFld_apart (s.dev.chainNoted false) _ (by decide) (by decide)).trans (s.dev.flag_chainNoted false)

theorem lampGclear_untrips {value : Word} {g : Nat} (hkey : wGet value 16 8 = 0x5A) (hg : g < 16) (hone : wGet value 0 16 = 2 ^ g)
    (h : s.dev.groupClr g = 0) : Completes (.lampGclear value) s fun t => t.tripped g = false := by
  refine (lampGclear_clears hkey hg hone h).mono fun t ht => ?_
  rw [ht]
  cases htrip : s.dev.tripped g with
  | true => exact (Dev.clearGroup_clears hg htrip 0).untripped
  | false => rw [Dev.clearGroup_untripped htrip, htrip]

theorem lampHeadroom_shown {sink : BitVec 3} {k : Nat} (hlen : s.dev.lamp.sinks.length = 8) (hk : sink.toNat = k)
    (hlit : s.dev.sinkLit k = true) (hfed : (s.dev.sink k).starved = false) (hlow : (s.dev.sink k).head < 60) :
    Completes (.lampHeadroom sink) s fun t => (t.sink k).reported = true := by
  cases htold : (s.dev.sink k).reported with
  | true => exact (lampHeadroom_told hk htold).mono fun t ht => ht ▸ htold
  | false => exact (lampHeadroom_reports hlen hk hlit hfed hlow htold).mono fun t ⟨hset, _⟩ => congrArg Sink.reported hset

/-- Where the commands of the lamps complete. -/
theorem lampsComplete (s : State) (hlen : s.dev.lamp.sinks.length = 8) :
    (∀ rq (value : Word) n, s.dev.fld LAMP_CMDA_INDEX = n → s.dev.flag LAMP_CMDA_GRP = false → s.dev.mode ≠ modeWatch →
      s.dev.lampRuns (rq == .console) = true → s.dev.commandRefused false n = false →
      Completes (.lampCommand rq value) s fun t => (t.lampAt n).cmd = some (s.dev.lamp.nextNum, (s.dev.lampAt n).level,
        s.dev.fld LAMP_CMDB_LEVEL, wGet value 0 14, 0)) ∧
    (∀ vhv head starved forward, s.dev.lampChecks = false → Completes (.pwmPeriod vhv head starved forward) s fun t =>
      ∀ n < 16, (s.dev.lampAt n).fault = 0 → (t.lampAt n).out = (s.dev.lampAt n).level) := by
  refine ⟨fun rq value n hn hone hmode hruns hopen => ?_, fun vhv head starved forward hoff => ?_⟩
  · refine (lampCommand_moves hn hruns (hone ▸ hopen) hmode).mono fun t ht => ?_
    have hmem : n ∈ s.dev.commandLamps (s.dev.flag LAMP_CMDA_GRP) n := by simp [Dev.commandLamps, hone]
    rw [ht.moved n hmem]
    rfl
  · refine completes_of (f := fun d => d.pwmPeriod vhv.toNat (head.map BitVec.toNat) starved.toNat (forward.map BitVec.toNat))
      rfl fun n hn hgood => ?_
    rw [(Dev.pwmPeriod_unregulated hoff hlen vhv.toNat (head.map BitVec.toNat) starved.toNat (forward.map BitVec.toNat)).lamps n,
      if_pos hn]
    exact if_pos hgood

/-! The receiver. -/

/-- The report of a loop-back changes, of the infrared part, only that the loop is over. -/
theorem Dev.irLoopReport_ir {α : Type} (g : Infrared → α) (hloop : ∀ x : Infrared, g { x with loop := false } = g x) (d : Dev)
    (ws : List Word) : g (d.irLoopReport ws).ir = g d.ir := by
  unfold Dev.irLoopReport
  split
  · have hprinted := (print_printed (d.setIr { d.ir with loop := false }) (.values 0x90 ws)).trans (statusLine_printed _ .ok)
    exact (congrArg g (hprinted.keeps (·.ir) fun _ _ _ => rfl)).trans (hloop d.ir)
  · rfl

theorem irGap_ends {ds : List (Nat × Bool)} (h : s.dev.ir.frame = some ds) : Completes .irGap s fun t => t.ir.frame = none := by
  cases hstuck : s.dev.flag IRX_STAT_STUCK with
  | true => exact (irGap_unsticks hstuck).mono fun t ⟨_, hnone, _⟩ => hnone
  | false =>
    refine completes_of (f := Dev.irGap) rfl ?_
    rw [Dev.irGap, if_neg (ne_true_of_eq_false hstuck), h]
    refine (Dev.irLoopReport_ir Infrared.frame (fun _ => rfl) _ _).trans ?_
    have hends : (s.dev.irFrameEnd ds).ir.frame = none := congrArg Infrared.frame (s.dev.irFrameEnd_ir ds)
    split
    · rw [Dev.ring_ir]
      exact hends
    · exact hends

theorem irStuck_sticks (h : s.dev.hears) (ms : BitVec 24) : Completes (.irStuck ms) s fun t => t.flag IRX_STAT_STUCK = true := by
  obtain ⟨hon, hclear, hdeaf⟩ := h
  refine completes_of (f := fun d => d.irStuck ms.toNat) rfl ?_
  rw [Dev.irStuck, if_neg (by simp [hon, hclear, hdeaf])]
  exact (Dev.ring_flag (by decide) ..).trans (Dev.flag_setFlag_same _ _ _ (by decide) (by decide))

theorem irKeyRelease_frees {k : HeldKey} (h : s.dev.ir.held = some k) : Completes .irKeyRelease s fun t => t.ir.held = none :=
  completes_of (f := Dev.irRelease) rfl (Dev.irRelease_releases h).1

/-- Where the commands of the receiver complete. -/
theorem receiverCompletes (s : State) :
    (s.dev.rxOn = true → s.dev.irDeaf = false → s.dev.flag IRX_STAT_STUCK = false →
      (∀ low (us : BitVec 24) ds, s.dev.ir.frame = some ds → s.dev.irIsMark low = true →
        Completes (.irEdge low us false true) s fun t => t.ir.frame = some (ds ++ [(us.toNat, false)])) ∧
      ∀ ms, Completes (.irStuck ms) s fun t => t.flag IRX_STAT_STUCK = true) ∧
    (∀ ds, s.dev.ir.frame = some ds → (Completes .irGap s fun t => t.ir.frame = none) ∧
      ∀ i c, judgeAll s.dev.ir.tpl ds true = some (i, c) → i < 4 → Completes .irBiphaseSpaceEnd s fun t =>
        t.ir.frame = none ∧ t.fld IRX_STAT_TPL = i) ∧
    (∀ k value, s.dev.ir.held = some k → (Completes .irKeyRelease s fun t => t.ir.held = none) ∧
      Completes (.release value) s fun t => t.ir.held = none) :=
  ⟨fun hon hdeaf hclear => ⟨fun _ us _ hframe hmark =>
      (irEdge_mark_joins ⟨hon, hclear, hdeaf⟩ us hmark hframe).mono fun _ ht => ht ▸ rfl, irStuck_sticks ⟨hon, hclear, hdeaf⟩⟩,
    fun _ hframe => ⟨irGap_ends hframe, fun _ _ hjudge hi =>
      (irBiphaseSpaceEnd_decodes hframe hjudge hi).mono fun _ ⟨hnone, hshown, _⟩ => ⟨hnone, hshown⟩⟩,
    fun _ value hheld => ⟨irKeyRelease_frees hheld, (release_releases hheld value).mono fun _ ⟨hnone, _⟩ => hnone⟩⟩

/-! The transmitter. -/

theorem Dev.txFinish_stops {x : Transmission} (h : d.ir.tx = some x) (status last : Nat) :
    (d.txFinish status last).ir.tx = none := by
  unfold Dev.txFinish
  rw [h]
  have hrang : (d.txRested.ring 100 (word x.tag) (pack [(status, 21), (last, 0)])).ir.tx = none := by
    rw [Dev.ring_ir]
    rfl
  dsimp only
  split
  · exact hrang
  · exact (Dev.irLoopReport_ir Infrared.tx (fun _ => rfl) _ _).trans hrang

/-- Where the commands of the transmitter complete. -/
theorem transmitterCompletes (s : State) :
    (∀ rq (v : Word), s.dev.ir.tx = none → s.dev.txAllowed (rq == .console) = true → wGet v 12 2 = 3 →
      Completes (.itxStart rq v) s fun t => t.flag ITX_STAT_BUSY = true ∧ t.fld ITX_STAT_INDEX = wGet v 0 9) ∧
    (∀ x rq v, s.dev.ir.tx = some x → (Completes (.itxStop rq v) s fun t => t.ir.tx = none) ∧
      (Completes .itxTmax s fun t => t.ir.tx = none) ∧
      (x.mode ≠ 3 → wGet (s.dev.pattern x.index) 22 1 = 1 → x.left = 0 → Completes .itxEntryEnd s fun t => t.ir.tx = none)) ∧
    (∀ rq v, s.dev.ir.tx = none → Completes (.itxPdata rq true v) s fun t => t.pattern (s.dev.fld ITX_PADDR_ADDR) = v) := by
  refine ⟨fun rq v hidle hallowed hmode => ?_, fun x rq v htx => ⟨?_, ?_, fun hmode hlast hleft => ?_⟩,
    fun rq v hidle => (itxPdata_writes rq v hidle).mono fun t ⟨hentry, _⟩ => hentry⟩
  · exact (itxStart_begins rq (by omega) hidle hallowed (.inl hmode)).mono fun t ⟨_, _, hbusy, _, hindex, _⟩ => ⟨hbusy, hindex⟩
  · refine completes_of (f := fun d => d.writeItxCmd rq (wSet v 10 1 1)) rfl ?_
    rw [Dev.writeItxCmd_stop, htx]
    exact Dev.txFinish_stops htx 2 x.index
  · exact completes_of (f := Dev.txTimedOut) rfl (Dev.txFinish_stops htx 1 _)
  · refine completes_of (f := Dev.txNext) rfl ?_
    rw [Dev.txNext_pattern htx hmode, if_pos hlast, if_pos hleft]
    exact Dev.txFinish_stops htx 0 x.index

end Sys2Proof.Machine
end

section
/-!
SUPPORT. Where the commands of calibration, telemetry and the fault log complete (chapter 23).
-/

namespace Sys2Proof.Machine

variable {d e : Dev} {s : State}

/-! The items left of a run and the power state: none of the steps of an item's judgement changes them. -/

/-- The items left of a run, and the power state. -/
def Dev.runView (d : Dev) : List Nat × Power := (d.cal.items, d.pwr)


theorem runView_ring (d : Dev) (src : Nat) (w1 w2 : Word) : (d.ring src w1 w2).runView = d.runView :=
  (altersRing_ring (q := id) (as := []) (altersRing_refl d)).keeps (·.runView) fun _ => rfl

theorem runView_redundancy (d : Dev) (set number left : Nat) : (d.redundancy set number left).runView = d.runView := by
  unfold Dev.redundancy
  split
  · rfl
  · exact runView_ring ..

theorem runView_noteSpares (d : Dev) : d.noteSpares.runView = d.runView := by
  unfold Dev.noteSpares
  extract_lets n x
  split
  · exact runView_redundancy x ..
  · rfl

theorem runView_remap (d : Dev) (l : Nat) : (d.remap l).runView = d.runView := by
  unfold Dev.remap
  extract_lets old
  split
  next i _ =>
    extract_lets x y _ z
    have hz : z.runView = d.runView := runView_noteSpares _
    exact (runView_ring ..).trans hz
  next =>
    split
    · rfl
    · split
      · rfl
      · exact runView_ring ..

theorem runView_foldl {α : Type} {step : Dev → α → Dev} (h : ∀ x c, (step x c).runView = x.runView) (cs : List α) (d : Dev) :
    (cs.foldl step d).runView = d.runView := foldl_keeps (·.runView) cs d fun x c _ => h x c

theorem runView_remapBad (d : Dev) : d.remapBad.runView = d.runView := by
  unfold Dev.remapBad
  refine runView_foldl (fun x l => ?_) _ d
  split
  · exact runView_remap x l
  · rfl

theorem runView_channelItem (d : Dev) (c : Nat) (cells : List Nat) (ok : Bool) :
    (d.channelItem c cells ok).runView = d.runView := by
  unfold Dev.channelItem
  extract_lets want good best within before gone
  split
  next v e hdraw =>
    extract_lets x _ y z _ w
    have hx : x.runView = d.runView := congrArg (fun p : Nat × Dev => p.2.runView) hdraw.symm
    have hy : y.runView = x.runView := by
      unfold y
      split <;> rfl
    have hz : z.runView = y.runView := by
      unfold z
      split
      · exact runView_redundancy y ..
      · split
        · exact runView_redundancy y ..
        · rfl
    have hw : w.runView = z.runView := by
      unfold w
      split
      · split
        · rfl
        · exact runView_noteSpares _
      · split
        · exact runView_foldl (step := fun d l => d.setFlag (SCAN_CHMAP_FAILED l) false) (fun _ _ => rfl) _ z
        · rfl
    exact (runView_remapBad w).trans (hw.trans (hz.trans (hy.trans hx)))

theorem runView_electrodeFault (d : Dev) (n kind : Nat) : (d.electrodeFault n kind).runView = d.runView := by
  unfold Dev.electrodeFault
  extract_lets x
  have hx : x.runView = d.runView := by
    unfold x
    split <;> rfl
  exact (runView_ring ..).trans hx

theorem runView_chooseLegs (d : Dev) (good : List (Nat × Nat)) : (d.chooseLegs good).2.runView = d.runView := by
  have hmedian (vs : List Nat) : (d.median vs).2.runView = d.runView := by
    unfold Dev.median
    extract_lets s n
    split <;> rfl
  unfold Dev.chooseLegs
  split
  · rfl
  · exact hmedian _

theorem runView_driverItem (d : Dev) (n : Nat) (legs : List Nat) (tripped : Bool) :
    (d.driverItem n legs tripped).runView = d.runView := by
  unfold Dev.driverItem
  extract_lets good count before
  split
  next en e hchosen =>
    extract_lets x y
    have hx : x.runView = d.runView :=
      (congrArg (fun p : Nat × Dev => p.2.runView) hchosen).symm.trans (runView_chooseLegs d good)
    have hy : y.runView = x.runView := by
      unfold y
      split
      · split
        · rfl
        · exact runView_electrodeFault x ..
      · split
        · exact runView_electrodeFault x ..
        · split
          · exact runView_electrodeFault x ..
          · rfl
    split
    · exact (runView_redundancy y ..).trans (hy.trans hx)
    · split
      · exact (runView_redundancy y ..).trans (hy.trans hx)
      · exact hy.trans hx

/-- The next item leaves the run, and the power state stays. -/
theorem runView_takeItem {i : Nat} {rest : List Nat} (h : d.cal.items = i :: rest) (vs : List (BitVec 16)) (flag : Bool) :
    (d.takeItem vs flag).runView = (rest, d.pwr) := by
  have htake : d.takeItem vs flag = if i < 68 then (d.setItems rest).channelItem i (vs.map BitVec.toNat) flag
      else (d.setItems rest).driverItem (i - 68) (vs.map BitVec.toNat) flag := by
    unfold Dev.takeItem
    rw [h]
  rw [htake]
  split
  · exact (runView_channelItem ..).trans rfl
  · exact (runView_driverItem ..).trans rfl

theorem items_takeItem {i : Nat} {rest : List Nat} (h : d.cal.items = i :: rest) (vs : List (BitVec 16)) (flag : Bool) :
    (d.takeItem vs flag).cal.items = rest := congrArg Prod.fst (runView_takeItem h vs flag)

theorem pwr_takeItem (d : Dev) (vs : List (BitVec 16)) (flag : Bool) : (d.takeItem vs flag).pwr = d.pwr := by
  cases h : d.cal.items with
  | nil =>
    unfold Dev.takeItem
    rw [h]
  | cons i rest => exact congrArg Prod.snd (runView_takeItem h vs flag)

/-! Runs and slices (R862 to R866). -/

theorem runEnd_unfinished (h : d.cal.items ≠ []) : d.runEnd = d := if_neg (by simp [h])

theorem runItems_ne (d : Dev) : d.runItems ≠ [] := fun h => by
  have hlen := congrArg List.length h
  rw [Dev.runItems, List.length_append, List.length_range, List.length_nil] at hlen
  omega

theorem run_makesDue {value : Word} (hkey : wGet value 16 8 = 0x5A) (hop : wGet value 0 2 = 1)
    (hidle : s.dev.fld CAL_STAT_STATE = calIdle) (hlater : s.dev.fullNow = false) :
    Completes (.run value) s fun t => t.fld CAL_STAT_STATE = calDue ∧ t.fld CAL_STAT_TRIGGER = 2 := by
  refine completes_of (f := fun d => d.writeCalCmd value) rfl ?_
  have hdue : s.dev.writeCalCmd value =
      ((s.dev.setFld CAL_STAT_STATE calDue).setFld CAL_STAT_TRIGGER 2).setCal { s.dev.cal with since := s.dev.ticks } := by
    rw [Dev.writeCalCmd, if_neg (by simp [hkey, hop]), Dev.calTrigger, if_pos hidle, if_neg (by simp [hlater])]
  rw [hdue]
  exact ⟨(Dev.fld_setFld_apart (s.dev.setFld CAL_STAT_STATE calDue) _ (by decide) (by decide)).trans
    (Dev.fld_setFld_same _ CAL_STAT_STATE _ (by decide)), Dev.fld_setFld_same _ CAL_STAT_TRIGGER _ (by decide)⟩

/-- The slice's turn of a starved tile is taken. -/
def Dev.turnTaken (d : Dev) : Dev := if d.starvedTurn then d.setCal { d.cal with window := none } else d

/-- A slice begins: the run begins, or goes on. -/
def Dev.sliceBegun (d : Dev) : Dev :=
  if d.fld CAL_STAT_STATE = calDue ∨ d.runBegun = false then d.runBegin false else d.setFld CAL_STAT_STATE calSliced

/-- A slice more of the run. -/
def Dev.sliceCounted (d : Dev) : Dev := d.setCal { d.cal with slices := d.cal.slices + 1, since := d.ticks }

theorem Dev.slice_runs (h : d.sliceOk = true) (ms : List (List (BitVec 16) × Bool)) :
    d.slice ms = (d.turnTaken.sliceBegun.sliceCounted.sliceItems 150 ms).runEnd := if_pos h

theorem Dev.turnTaken_or (d : Dev) : d.turnTaken = d ∨ d.turnTaken = d.setCal { d.cal with window := none } :=
  (ite_eq_or_eq ..).symm

theorem Dev.turnTaken_keeps {α : Type} (g : Dev → α) (hset : g (d.setCal { d.cal with window := none }) = g d) :
    g d.turnTaken = g d := by
  obtain h | h := d.turnTaken_or
  · rw [h]
  · rw [h, hset]

theorem items_runBegin (d : Dev) (full : Bool) : (d.runBegin full).cal.items = d.runItems := by
  unfold Dev.runBegin
  split
  next t0 x hx =>
    split
    next t1 y hy =>
      have hx' : x.runItems = d.runItems :=
        (congrArg (fun p : Int × Dev => p.2.runItems) hx).symm.trans
          ((alters_tenths (as := []) d d.hka.t0).keeps Dev.runItems fun _ => rfl)
      have hy' : y.runItems = x.runItems :=
        (congrArg (fun p : Int × Dev => p.2.runItems) hy).symm.trans
          ((alters_tenths (as := []) x x.hka.t1).keeps Dev.runItems fun _ => rfl)
      exact hy'.trans hx'

theorem items_sliceBegun_due (h : d.fld CAL_STAT_STATE = calDue) : d.sliceBegun.cal.items = d.runItems := by
  rw [Dev.sliceBegun, if_pos (.inl h), items_runBegin]

theorem items_sliceBegun_goesOn (h : d.fld CAL_STAT_STATE ≠ calDue) (hitems : d.cal.items ≠ []) :
    d.sliceBegun.cal.items = d.cal.items := by
  have hbegun : d.runBegun = true := by simp [Dev.runBegun, hitems]
  rw [Dev.sliceBegun, if_neg (by simp [h, hbegun])]
  rfl

theorem slice_begins (hok : s.dev.sliceOk = true) (hdue : s.dev.fld CAL_STAT_STATE = calDue) :
    Completes (.slice []) s fun t => t.cal.items = s.dev.runItems := by
  refine completes_of (f := fun d => d.slice []) rfl ?_
  have hitems : s.dev.turnTaken.sliceBegun.sliceCounted.cal.items = s.dev.runItems :=
    (items_sliceBegun_due ((Dev.turnTaken_keeps (·.fld CAL_STAT_STATE) rfl).trans hdue)).trans
      (Dev.turnTaken_keeps Dev.runItems rfl)
  rw [Dev.slice_runs hok]
  have hnone : s.dev.turnTaken.sliceBegun.sliceCounted.sliceItems 150 [] = s.dev.turnTaken.sliceBegun.sliceCounted := rfl
  rw [hnone, runEnd_unfinished (by rw [hitems]; exact runItems_ne _)]
  exact hitems

theorem slice_takesItem {i : Nat} {rest : List Nat} (m : List (BitVec 16) × Bool) (hok : s.dev.sliceOk = true)
    (hbegun : s.dev.fld CAL_STAT_STATE ≠ calDue) (hitems : s.dev.cal.items = i :: rest) (hrest : rest ≠ []) :
    Completes (.slice [m]) s fun t => t.cal.items = rest := by
  refine completes_of (f := fun d => d.slice [m]) rfl ?_
  have hleft : s.dev.turnTaken.cal.items = i :: rest := (Dev.turnTaken_keeps (·.cal.items) rfl).trans hitems
  have hgoes : s.dev.turnTaken.sliceBegun.sliceCounted.cal.items = i :: rest :=
    (items_sliceBegun_goesOn (by rwa [Dev.turnTaken_keeps (·.fld CAL_STAT_STATE) rfl]) (by simp [hleft])).trans hleft
  rw [Dev.slice_runs hok]
  generalize s.dev.turnTaken.sliceBegun.sliceCounted = x at *
  have hcost : ¬ 150 < (if i < 68 then 30 else 18) := by split <;> omega
  have htaken : x.sliceItems 150 [m] = x.takeItem m.1 m.2 := by
    unfold Dev.sliceItems
    rw [hgoes]
    exact if_neg hcost
  have hnext := items_takeItem hgoes m.1 m.2
  rw [htaken, runEnd_unfinished (by rw [hnext]; exact hrest), hnext]

/-! Starvation and background items (R857, R863, R867). -/

theorem Dev.fld_stretchOwn (d : Dev) {g : Fld} (h : g.apart CAL_STAT_STRETCH = true) : d.stretchOwn.fld g = d.fld g := by
  have hset : (d.setFlag CAL_STAT_STRETCH true).fld g = d.fld g := Dev.fld_setFlag_apart d _ (by decide) h
  unfold Dev.stretchOwn
  extract_lets x
  split
  · exact hset
  · exact hset

theorem Dev.fld_nameStretch_apart (d : Dev) {g : Fld} (h : g.apart CAL_STAT_STRETCH = true) (hlink : g.addr ∉ ringRegs) :
    d.nameStretch.fld g = d.fld g := by
  unfold Dev.nameStretch
  extract_lets recent f y
  split
  · rfl
  · have hsent : Dev.Linked [] d (d.joinedTiles.foldl (fun d t => d.send msgMode t [word (d.mode + 8), word f]) d) :=
      linked_foldl _ d fun w t _ => linked_send ..
    exact (Dev.fld_setFlag_apart (y.setCal _) _ (by decide) h).trans (hsent.fld List.not_mem_nil hlink)

theorem calStarved_shows (hmode : s.dev.mode = modeIdle ∨ s.dev.mode = modeActive)
    (hstate : s.dev.fld CAL_STAT_STATE ∈ [calDue, calSliced, calStarved]) :
    Completes .calStarved s fun t => t.fld CAL_STAT_STATE = calStarved := by
  simp only [List.mem_cons, List.not_mem_nil, or_false] at hstate
  refine completes_of (f := Dev.calStarve) rfl ?_
  unfold Dev.calStarve
  extract_lets st x _ y wait z
  rw [if_pos ⟨hmode, hstate⟩]
  have hx : x.fld CAL_STAT_STATE = calStarved :=
    (Dev.fld_bump_apart (s.dev.setFld CAL_STAT_STATE calStarved) (by decide) (by decide)).trans
      (Dev.fld_setFld_same _ CAL_STAT_STATE _ (by decide))
  have hy : y.fld CAL_STAT_STATE = calStarved := hx
  split
  · exact (Dev.ring_fld (by decide) ..).trans hy
  · have hz : z.fld CAL_STAT_STATE = y.fld CAL_STAT_STATE := by
      unfold z
      split
      · exact y.fld_nameStretch_apart (by decide) (by decide)
      · exact y.fld_stretchOwn (by decide)
    exact (Dev.ring_fld (by decide) ..).trans (hz.trans hy)

theorem backgroundItemEnd_chooses (cells : List (BitVec 24)) (legs : BitVec 16)
    (hmode : s.dev.mode ∉ [modeWatch, modeSafe, modeHibernate]) (hitems : s.dev.cal.items ≠ []) (hleft : s.dev.cal.rcLeft = true) :
    Completes (.backgroundItemEnd true cells legs true) s fun t => t.fld CAL_RC_LEGS = legs.toNat := by
  refine completes_of (f := fun d => d.backgroundEnd true (cells.map BitVec.toNat) legs.toNat true) rfl ?_
  have hruns : ¬ [modeWatch, modeSafe, modeHibernate].contains s.dev.mode = true := by
    rwa [List.contains_iff_mem]
  unfold Dev.backgroundEnd
  rw [if_neg hruns, if_pos rfl, if_pos hleft]
  extract_lets _ x lockref y
  have hy : y.fld CAL_RC_LEGS = legs.toNat :=
    (Dev.fld_setFlag_apart (x.setFld CAL_RC_LEGS legs.toNat) _ (by decide) (by decide)).trans
      ((Dev.fld_setFld_same x CAL_RC_LEGS _ (by decide)).trans (Nat.mod_eq_of_lt legs.isLt))
  have hunfinished : y.runEnd = y := runEnd_unfinished hitems
  rw [if_pos rfl, hunfinished, hy]

end Sys2Proof.Machine
end

section
/-!
SUPPORT. Where telemetry and the fault log complete (R871 to R877).
-/

namespace Sys2Proof.Machine

variable {d e : Dev} {s : State}

/-! Telemetry (R871). -/

theorem telemetryRecord_numbers (hmode : s.dev.mode ∈ [modeIdle, modeActive, modeService, modeSafe])
    (hseq : s.dev.cal.nextSeq < 16777216) :
    Completes .telemetryRecord s fun t => t.fld CAL_TSEQ_SEQ = s.dev.cal.nextSeq := by
  refine completes_of (f := Dev.telemetry) rfl ?_
  unfold Dev.telemetry
  rw [if_pos (List.contains_iff_mem.mpr hmode)]
  extract_lets x seq slot
  have hx : x.cal.nextSeq = s.dev.cal.nextSeq :=
    (altersRing_near (q := id) (as := []) (altersRing_refl _) (near_touchTime (.rfl (s.dev.noteTelem false)))).keeps
      (·.cal.nextSeq) fun _ => rfl
  refine (Dev.ring_fld (by decide) ..).trans ((Dev.fld_setFld_same _ CAL_TSEQ_SEQ _ (by decide)).trans ?_)
  rw [show seq = s.dev.cal.nextSeq from hx]
  exact Nat.mod_eq_of_lt hseq

/-! The fault log (R873 to R877). -/

theorem logSummary_clears (hon : s.dev.par secCal 0x05 ≠ 0) :
    Completes .logSummary s fun t => t.cal.summary = List.replicate 16 {} := by
  refine completes_of (f := Dev.logSummary) rfl ?_
  unfold Dev.logSummary
  rw [if_neg hon]
  rfl

theorem reportLost_none (h : d.cal.lost = 0) : d.reportLost = d := if_pos (.inl h)

theorem Dev.logWritten_queue (d : Dev) (head slot : Nat) (h : d.cal.lost = 0) : (d.logWritten head slot).logQ = d.logQ.drop 1 := by
  unfold Dev.logWritten
  extract_lets x y
  have hlost : ((y.setFld CAL_LOGSTAT_HEAD head).setFld CAL_LOGSTAT_SLOT (slot + 1)).cal.lost = 0 := h
  rw [reportLost_none hlost]
  rfl

theorem logRecordWrite_writes {r : LogRec} {rest : List LogRec} (hturn : s.dev.settingsTurn = false)
    (hqueue : s.dev.logQ = r :: rest) (hopen : s.dev.logBarred = false) (hlost : s.dev.cal.lost = 0)
    (hslot : s.dev.fld CAL_LOGSTAT_SLOT < 10) : Completes (.logRecordWrite []) s fun t => t.logQ = rest := by
  have hwrites : exec (.logRecordWrite []) s = s.run fun d =>
      if d.settingsTurn then ((d.setHka { d.hka with settingsDue := false }).writeCopy true).nvmIdle
      else if d.logQ.isEmpty || d.logBarred then d else (d.logWrite []).nvmIdle := rfl
  refine completes_of hwrites ?_
  have hwrite (a : Nat) (bs : List Byte) : ((s.dev.nvmWrite a bs).logWritten (s.dev.fld CAL_LOGSTAT_HEAD)
      (s.dev.fld CAL_LOGSTAT_SLOT)).logQ = rest := by
    rw [Dev.nvmWrite_eq]
    exact (Dev.logWritten_queue _ _ _ (by exact hlost)).trans (congrArg (List.drop 1) hqueue)
  have hlog : s.dev.logWrite [] = (s.dev.nvmWrite (pageAddr (s.dev.fld CAL_LOGSTAT_HEAD) + 16 + 24 * s.dev.fld CAL_LOGSTAT_SLOT)
      (logBytes (s.dev.fld CAL_LOGSEQ_SEQ) r)).logWritten (s.dev.fld CAL_LOGSTAT_HEAD) (s.dev.fld CAL_LOGSTAT_SLOT) := by
    unfold Dev.logWrite
    rw [hqueue]
    exact (if_neg (ne_true_of_eq_false hopen)).trans (if_neg (Nat.not_le.mpr hslot))
  rw [hturn, hopen, hqueue, hlog]
  exact hwrite _ _

theorem flag_judgeWorn (d : Dev) : d.judgeWorn.flag CAL_LOGSTAT_MOUNTED = d.flag CAL_LOGSTAT_MOUNTED := by
  unfold Dev.judgeWorn
  split
  · exact (Dev.flag_setFlag_apart (d.ring 216 (word 4) 0) _ (by decide) (by decide)).trans (Dev.ring_flag (by decide) ..)
  · rfl

theorem flag_reportLost (d : Dev) : d.reportLost.flag CAL_LOGSTAT_MOUNTED = d.flag CAL_LOGSTAT_MOUNTED := by
  unfold Dev.reportLost
  split
  · rfl
  · exact Dev.ring_flag (by decide) ..

theorem logMount_mounts (hup : 7 < s.dev.pwr.step) (hnew : s.dev.flag CAL_LOGSTAT_MOUNTED = false) :
    Completes .logMount s fun t => t.flag CAL_LOGSTAT_MOUNTED = true := by
  have hmounts : exec .logMount s =
      s.run fun d => if 7 < d.pwr.step ∧ d.flag CAL_LOGSTAT_MOUNTED = false then d.logMount else d := rfl
  refine completes_of hmounts ?_
  rw [if_pos ⟨hup, hnew⟩]
  unfold Dev.logMount
  extract_lets pages descs retired head x y z w
  rw [flag_judgeWorn, flag_reportLost]
  exact (Dev.ring_flag (by decide) ..).trans (Dev.flag_setFlag_same _ _ _ (by decide) (by decide))

end Sys2Proof.Machine
end

section
/-!
SUPPORT. Where the converter and system calibration complete (chapter 22), and O58.
-/

namespace Sys2Proof.Machine

variable {d e : Dev} {s : State}

theorem refinCheck_shows (h : s.dev.refinEnabled = true) (ok : Bool) :
    Completes (.refinCheck ok) s fun t => t.flag HKA_STAT_REFIN_RDY = ok := by
  cases ok with
  | true => exact (refinCheck_good h).mono fun _ ⟨_, hready⟩ => hready
  | false => exact (refinCheck_bad h).mono fun _ ⟨hshown, _⟩ => hshown.ready

theorem hkaSnap_copies (hlen : s.dev.hka.snaps.length = 4) (rq : Requester) (value : Word) :
    Completes (.hkaSnap rq value) s fun t =>
      t.hka.snaps.getD (rqIndex rq) (0, {}) = (wGet value 0 4, (s.dev.hkaChan (wGet value 0 4)).h) := by
  refine completes_of (f := fun d => d.hkaSnap rq value) rfl ?_
  rw [Dev.hkaSnap_snaps, List.getD_eq_getElem?_getD, List.getElem?_set_self (hlen ▸ rqIndex_lt rq), Option.getD_some]

/-- Where the converter's commands complete. -/
theorem converterCompletes (s : State) (hsnaps : s.dev.hka.snaps.length = 4) :
    (∀ b c, s.dev.planConverter = some b → s.dev.planNext = some c → s.dev.hkaOn = true →
      s.dev.hkaSkips c (planRef c (s.dev.planWord c)) = false → Completes .planConversion s fun t =>
        ∃ k, t.conv b = some k ∧ k.ch = c ∧ k.host = false) ∧
    (∀ (value : Word) c, wGet value 0 4 = c → 4 ≤ c → s.dev.fld HKA_STAT_GRANT = 1 → s.dev.hka.convA = none →
      s.dev.hkaOn = true → s.dev.hkaSkips c 0 = false → wGet value 15 1 = 0 → Completes (.hostConversion value) s fun t =>
        ∃ k, t.hka.convA = some k ∧ k.ch = c ∧ k.host = true) ∧
    (∀ b k, s.dev.conv b = some k → s.dev.hka.ilv = none →
      (∀ v ovr, k.waiting = false → Completes (.conversionEnd b v ovr) s fun t => t.conv b = none) ∧
      (k.waiting = true → Completes (.referenceTimeout b) s fun t => t.conv b = none) ∧
      (k.waiting = false → Completes (.conversionTimeout b) s fun t => t.conv b = none)) ∧
    (∀ rq (value : Word), Completes (.hkaSnap rq value) s fun t => t.hka.snaps.getD (rqIndex rq) (0, {}) =
      (wGet value 0 4, (s.dev.hkaChan (wGet value 0 4)).h)) ∧
    (∀ value : Word, wGet value 16 8 = 0x5A → wGet value 0 2 ≠ 3 → Completes (.claim value) s fun t =>
      t.fld HKA_HOST_CLAIM = wGet value 0 2) ∧
    (s.dev.fld HKA_HOST_CLAIM ≠ 0 → Completes .hkaClaimExpired s fun t => t.fld HKA_HOST_CLAIM = 0) := by
  refine ⟨fun b c hb hc hon hrun => ?_, fun value c hch hhigh hgrant hfree hon hrun hone => ?_, fun b k hk hilv =>
    ⟨fun v ovr hrun => conversionEnd_frees hk hrun (.inr hilv), fun hwait => ?_, fun hrun => ?_⟩, hkaSnap_copies hsnaps,
    fun value hkey hvalid => ?_, fun hclaim => (hkaClaimExpired_ends hclaim).mono fun _ ⟨hnone, _⟩ => hnone⟩
  · refine (planConversion_starts hb hc hon hrun).mono fun t ht => ⟨s.dev.planConv c, ?_, rfl, rfl⟩
    rw [ht, Dev.conv_setConv, if_pos rfl]
  · subst hch
    have hrefsel : hostRefsel value = 0 := if_neg (Nat.not_lt.mpr hhigh)
    obtain ⟨hconvA, -⟩ := s.dev.hostStarted_starts value
    exact (hostConversion_alone hgrant hfree hon (hrefsel ▸ hrun) hone).mono fun t ht => ⟨_, ht ▸ hconvA, rfl, rfl⟩
  · exact (timeout_abandons (waits := true) (by simp) hk hilv hwait).mono fun _ ⟨hnone, _⟩ => hnone
  · exact (timeout_abandons (waits := false) (by simp) hk hilv hrun).mono fun _ ⟨hnone, _⟩ => hnone
  · exact (claim_claims hkey rfl hvalid).mono fun _ ⟨hclaim, _⟩ => hclaim

theorem sccmd_applyUnity {value : Word} {c : Nat} (hkey : wGet value 16 8 = 0x5A) (hc : wGet value 4 2 = c)
    (hopen : s.dev.nvmBarred = false) (hz : s.dev.hka.zero.getD c none = some 0) (hf : s.dev.hka.full.getD c none = some 1000)
    (hu : s.dev.fld HKA_SCFULL_FULL = 1000) (vref : Word) (ok : Bool) : Completes (.apply value vref ok) s fun t =>
      t.fld HKA_SCSTAT_STATUS = 1 ∧ t.fld (HKA_SCGAIN_GAIN c) = 0x400000 := by
  subst hc
  refine (sccmd_applyExact hkey vref ok hz hf hopen hu (by decide) (by decide) (by decide) (Nat.zero_le _) (by decide)).mono
    fun t ⟨hstatus, _, hgain, _⟩ => ⟨hstatus, ?_⟩
  have hunity : wGet (word (1000 * 4194304 / (1000 - 0 : Int).toNat)) 0 24 = 0x400000 := by decide
  rw [Dev.fld, hgain]
  exact hunity

theorem sccmd_defaultUnity {value : Word} {c : Nat} (hkey : wGet value 16 8 = 0x5A) (hc : wGet value 4 2 = c)
    (hopen : s.dev.nvmBarred = false) (ok : Bool) : Completes (.default value ok) s fun t =>
      t.reg (HKA_SCOFS c) = 0 ∧ t.reg (HKA_SCGAIN c) = 0x400000 := by
  subst hc
  refine (sccmd_default hkey ok).mono fun t ht => ?_
  rw [ht, Dev.syscalDefault_sets hopen]
  obtain ⟨-, hofs, hgain, -⟩ := s.dev.syscalSet_sets ok (wGet_lt value 4 2) 0 0x400000#24 0 4 0
  exact ⟨hofs, hgain⟩

theorem syscalStepEnd_ends {c : Nat} (hzeros : s.dev.hka.zero.length = 4) (hc : c < 4) (hstep : s.dev.hka.step = some (c, 1))
    (values : List Word) : Completes (.syscalStepEnd values 0) s fun t =>
      t.hka.step = none ∧ t.fld HKA_SCSTAT_STATUS = 1 ∧ t.hka.zero.getD c none ≠ none := by
  refine completes_of (f := fun d => d.syscalStepEnd values 0) rfl ?_
  obtain ⟨hnone, hstatus, hzero⟩ := syscalStepEnd_keepsZero hstep (hzeros ▸ hc) values
  exact ⟨hnone, hstatus, by rw [hzero]; exact Option.some_ne_none _⟩

/-- Settles O58: the lamps, infrared, the converter and calibration, each with where its commands complete. -/
theorem lampsInfraredAndConverterComplete : Obligations.LampsInfraredAndConverterComplete := by
  intro s hsinks hsnaps hzeros
  obtain ⟨hlamp, hperiod⟩ := lampsComplete s hsinks
  obtain ⟨hears, hframes, hkeys⟩ := receiverCompletes s
  obtain ⟨hstart, hruns, hpattern⟩ := transmitterCompletes s
  obtain ⟨hplan, hhost, hconv, hsnap, hclaim, hexpires⟩ := converterCompletes s hsnaps
  refine ⟨hlamp, fadeTick_steps.mono fun _ ⟨hsteps, _⟩ => hsteps, hperiod,
    fun k htap hthere hlit => bypassClamp_records (by simp [Dev.tapLit, htap, hthere, hlit]), refreshPeriod_steps,
    chainCheck_shows, fun value g hkey hg hone hopen => lampGclear_untrips hkey hg hone hopen,
    fun w b n hb hn hlt hopen => (lampFaultClear_clears hb hn hlt hopen).mono fun _ ht => ht.fault,
    fun sink k hk hlit hfed hlow => lampHeadroom_shown hsinks hk hlit hfed hlow,
    hears, hframes, hkeys, hstart, hruns, hpattern, hplan, hhost, hconv, hsnap, hclaim, hexpires,
    fun ok hon => refinCheck_shows hon ok, tdac_stores, fun value c hkey hc => ⟨fun hidle => ⟨?_, fun z hz => ?_⟩,
    fun vref ok hopen hz hf hu => sccmd_applyUnity hkey hc hopen hz hf hu vref ok, fun ok hopen =>
    sccmd_defaultUnity hkey hc hopen ok⟩, fun c values hc hstep => syscalStepEnd_ends hzeros hc hstep values,
    fun value hkey hop hidle hlater => run_makesDue hkey hop hidle hlater, fun hok => ⟨slice_begins hok,
    fun i rest m hbegun hitems hrest => slice_takesItem m hok hbegun hitems hrest⟩, calStarved_shows,
    fun cells legs hmode hitems hleft => backgroundItemEnd_chooses cells legs hmode hitems hleft, telemetryRecord_numbers,
    logSummary_clears, fun r rest hturn hqueue hopen hlost hslot => logRecordWrite_writes hturn hqueue hopen hlost hslot,
    logMount_mounts⟩
  · exact (sccmd_zero hkey hidle).mono fun t ⟨hbegun, _⟩ => hc ▸ hbegun
  · exact (sccmd_full hkey hidle (hc ▸ hz)).mono fun t ⟨hbegun, _⟩ => hc ▸ hbegun

end Sys2Proof.Machine
end

section
/-!
SUPPORT. What traffic moves of the link: of a port what waits, what is unacknowledged and what was last on the wire, and of
the rest the flows, the arrival hold, the delivered packets and the draws of injection. Everything else is fixed (R601 to R612).
-/

namespace Sys2Proof.Machine

variable {d e f : Dev} {s : State}

/-! The fixed part of a link. -/

/-- A port without what traffic moves. -/
def Port.fixed (q : Port) : Port := { q with queue := [], window := [], txSeq := 0, credit := 0, wire := [], disparity := false }

/-- The link without what traffic moves. -/
def Link.fixed (l : Link) : Link :=
  { l with
    ports := l.ports.map Port.fixed
    rxFlow := [], hold := [], inbox := [], lfsr := [], reorder := [], unrouted := 0, unroutedTick := none }

/-- Of the link, only what traffic moves differs. -/
structure Dev.Moves (d e : Dev) : Prop where
  fixed : e.link.fixed = d.link.fixed

theorem moves_refl (d : Dev) : d.Moves d := ⟨rfl⟩

theorem Dev.Moves.trans (h : d.Moves e) (g : e.Moves f) : d.Moves f := ⟨g.fixed.trans h.fixed⟩

theorem moves_link (h : e.link = d.link) : d.Moves e := ⟨congrArg Link.fixed h⟩

/-- What reads the fixed part only is as before. -/
theorem Dev.Moves.keeps {α : Type} (h : d.Moves e) (g : Link → α) (hg : ∀ l, g l.fixed = g l) : g e.link = g d.link := by
  rw [← hg e.link, h.fixed, hg]

theorem port_of_map (h : e.link.ports.map Port.fixed = d.link.ports.map Port.fixed) (p : Nat) :
    (e.port p).fixed = (d.port p).fixed := by
  have hget (l : List Port) : (l.getD p {}).fixed = (l.map Port.fixed).getD p {} := (List.getD_map (f := Port.fixed) ..).symm
  rw [Dev.port, Dev.port, hget, hget, h]

theorem Dev.Moves.port (h : d.Moves e) (p : Nat) : (e.port p).fixed = (d.port p).fixed := by
  have hports : e.link.ports.map Port.fixed = d.link.ports.map Port.fixed := congrArg Link.ports h.fixed
  exact port_of_map hports p

theorem Dev.Moves.length (h : d.Moves e) : e.link.ports.length = d.link.ports.length :=
  h.keeps (·.ports.length) fun _ => List.length_map _

theorem moves_foldl {α : Type} {g : Dev → α → Dev} (xs : List α) (d : Dev) (h : ∀ e : Dev, ∀ x ∈ xs, e.Moves (g e x)) :
    d.Moves (xs.foldl g d) := by
  induction xs generalizing d with
  | nil => exact moves_refl d
  | cons x xs ih => exact (h d x (by simp)).trans (ih (g d x) fun e y hy => h e y (by simp [hy]))

/-! Ports. -/

theorem Dev.port_setPort (d : Dev) {p : Nat} (q : Port) (h : p < d.link.ports.length) (k : Nat) :
    (d.setPort p q).port k = if k = p then q else d.port k := by
  rw [Dev.port, Dev.setPort, Dev.setLink_link, List.getD_eq_getElem?_getD]
  split
  next hk => rw [hk, List.getElem?_set_self h, Option.getD_some]
  next hk => rw [List.getElem?_set_ne (Ne.symm hk), ← List.getD_eq_getElem?_getD, ← Dev.port]

theorem Dev.port_setPort_same (d : Dev) {p : Nat} (q : Port) (h : p < d.link.ports.length) : (d.setPort p q).port p = q :=
  (d.port_setPort q h p).trans (if_pos rfl)

theorem Dev.length_setPort (d : Dev) (p : Nat) (q : Port) : (d.setPort p q).link.ports.length = d.link.ports.length :=
  List.length_set ..

theorem moves_setPort (d : Dev) (p : Nat) {q : Port} (h : q.fixed = (d.port p).fixed) : d.Moves (d.setPort p q) := by
  have hports : (d.link.ports.set p q).map Port.fixed = d.link.ports.map Port.fixed := by
    refine List.ext_getElem? fun k => ?_
    rw [List.getElem?_map, List.getElem?_map, List.getElem?_set]
    split
    next hk =>
      subst hk
      split
      next hlt => rw [Option.map_some, h, Dev.port, List.getD_eq_getElem _ _ hlt, List.getElem?_eq_getElem hlt, Option.map_some]
      next hlt => rw [List.getElem?_eq_none (Nat.le_of_not_lt hlt), Option.map_none]
    next => rfl
  exact ⟨congrArg (fun ps => { d.link.fixed with ports := ps }) hports⟩

theorem moves_setLink (d : Dev) {l : Link} (h : l.fixed = d.link.fixed) : d.Moves (d.setLink l) := ⟨h⟩

theorem moves_ring (d : Dev) (src : Nat) (w1 w2 : Word) : d.Moves (d.ring src w1 w2) := moves_link (Dev.ring_link d src w1 w2)

/-! Frames (R588, R595, R601, R628). -/

/-- A port with what was on its wire last. -/
def Port.wired (q : Port) (w : List Nat) (b : Bool) : Port := { q with wire := w, disparity := b }

/-- A machine with another draw counter. -/
def Dev.redrawn (d : Dev) (n : Nat) : Dev := { d with free := n }

theorem leaves_redrawn {as : List Nat} (d : Dev) (n : Nat) : d.leaves (d.redrawn n) as := leaves_of (d.leaves_refl as) rfl rfl rfl rfl

/-- Symbols leave a port: its last wire and its disparity are theirs. -/
theorem Dev.putWire_wires (d : Dev) (p : Nat) (syms : List Sym) :
    ∃ n w b, d.putWire p syms = (d.redrawn n).setPort p ((d.port p).wired w b) :=
  ⟨d.free + 1, (encodeSyms ((d.draw 2).1 == 1) syms).1, (encodeSyms ((d.draw 2).1 == 1) syms).2, rfl⟩

theorem leaves_setPort {as : List Nat} (h : d.leaves e as) (p : Nat) (q : Port) : d.leaves (e.setPort p q) as :=
  leaves_of h rfl rfl rfl rfl

theorem moves_putWire (d : Dev) (p : Nat) (syms : List Sym) : d.Moves (d.putWire p syms) := by
  obtain ⟨n, w, b, heq⟩ := d.putWire_wires p syms
  have hdrawn : d.Moves (d.redrawn n) := moves_link rfl
  rw [heq]
  exact hdrawn.trans (moves_setPort (d.redrawn n) p (by rfl))

theorem leaves_putWire {as : List Nat} (d : Dev) (p : Nat) (syms : List Sym) : d.leaves (d.putWire p syms) as := by
  obtain ⟨n, w, b, heq⟩ := d.putWire_wires p syms
  rw [heq]
  exact leaves_setPort (leaves_redrawn d n) ..

/-- A frame leaves a port, and counts as sent. -/
theorem Dev.putFrame_sends (d : Dev) (p : Nat) (seq flip : Option Nat) (pk : Packet) :
    d.leaves (d.putFrame p seq flip pk) [EGL_PKT p] ∧
      (d.putFrame p seq flip pk).fld (EGL_PKT_SENT p) = min (d.fld (EGL_PKT_SENT p) + 1) (2 ^ (EGL_PKT_SENT p).width - 1) ∧
      ∃ w b, (d.putFrame p seq flip pk).link = (d.setPort p ((d.port p).wired w b)).link := by
  have hleaves := leaves_putWire (as := [EGL_PKT p]) d p (pk.symbols seq flip)
  obtain ⟨n, w, b, heq⟩ := d.putWire_wires p (pk.symbols seq flip)
  refine ⟨leaves_bumpBy hleaves (by simp), ?_, w, b, ?_⟩
  · refine (Dev.fld_bumpBy_same _ _ _ (Nat.le_of_ble_eq_true rfl)).trans ?_
    rw [heq]
    rfl
  · rw [Dev.putFrame, Dev.countSent, Dev.bumpBy_link, heq]
    rfl

theorem moves_putFrame (d : Dev) (p : Nat) (seq flip : Option Nat) (pk : Packet) : d.Moves (d.putFrame p seq flip pk) :=
  (moves_putWire d p (pk.symbols seq flip)).trans (moves_link (by rfl))

theorem moves_injectFault (d : Dev) (i : Nat) (beacon : Bool) : d.Moves (d.injectFault i beacon).2 := by
  have hlfsr (ls : List Nat) : d.Moves (d.setLink { d.link with lfsr := ls }) := moves_setLink d (by rfl)
  have hcounts (ls : List Nat) (g : Fld) : d.Moves ((d.setLink { d.link with lfsr := ls }).bump g) := (hlfsr ls).trans (moves_link rfl)
  unfold Dev.injectFault
  split
  · exact moves_refl d
  · extract_lets
    split
    · exact hcounts _ _
    · split
      · exact hcounts _ _
      · split
        · exact hlfsr _
        · exact hlfsr _

theorem moves_unhold (d : Dev) (i : Nat) : d.Moves (d.unhold i) := moves_setLink d (by rfl)

theorem moves_transmit (d : Dev) (p seq : Nat) (pk : Packet) : d.Moves (d.transmit p seq pk) := by
  have hinject := moves_injectFault d (2 * p) false
  unfold Dev.transmit
  extract_lets i
  split
  next fault x hfault =>
  rw [hfault] at hinject
  split
  · split
    · exact hinject
    · split
      · exact hinject.trans (moves_setLink _ (by rfl))
      · exact hinject.trans (moves_putFrame ..)
  next r _ =>
    extract_lets y
    have hy : x.Moves y := by
      unfold y
      split
      · exact moves_refl x
      · exact moves_putFrame ..
    have hcounted : (y.unhold i).Moves ((y.unhold i).bump (SVC_INJCNT_REORDERS i)) := moves_link (by rfl)
    exact hinject.trans (hy.trans ((moves_unhold y i).trans (hcounted.trans (moves_putFrame _ p _ none _))))

theorem moves_pump (d : Dev) (p k : Nat) : d.Moves (d.pump p k) := by
  induction k generalizing d with
  | zero => exact moves_refl d
  | succ k ih =>
    unfold Dev.pump
    extract_lets q
    split
    · exact moves_refl d
    · split
      · exact moves_refl d
      · split
        · exact moves_refl d
        next pk _ =>
          extract_lets x
          have hx : d.Moves x := moves_setPort d p (by rfl)
          exact hx.trans ((moves_transmit x p q.txSeq pk).trans (ih _))

theorem Dev.link_noteTags (d : Dev) : d.noteTags.link = d.link := by
  have hports (ps : List Nat) (x : Dev) : (ps.foldl Dev.noteInflight x).link = x.link :=
    foldl_keeps (·.link) ps x fun _ _ _ => rfl
  exact (hports _ _).trans (Dev.setFld_link ..)

theorem moves_flush (d : Dev) (p : Nat) : d.Moves (d.flush p) := (moves_pump ..).trans (moves_link (by rfl))

theorem moves_enqueue (d : Dev) (via p : Nat) (pk : Packet) : d.Moves (d.enqueue via p pk) :=
  (moves_setPort d p (by rfl)).trans (moves_flush _ p)

theorem moves_unroutable (d : Dev) (pk : Packet) : d.Moves (d.unroutable pk) := by
  unfold Dev.unroutable
  extract_lets _ x due n
  have hx : d.Moves x := ⟨rfl⟩
  split
  · exact hx.trans ((moves_setLink x (by rfl)).trans (moves_ring ..))
  · exact hx

theorem moves_routePacket (d : Dev) (via : Nat) (pk : Packet) : d.Moves (d.routePacket via pk) := by
  unfold Dev.routePacket
  split
  · refine Dev.Moves.trans (e := if pk.detour then d else d.bump EGL_RTCNT_DETOURS) ?_ (moves_unroutable ..)
    split
    · exact moves_refl d
    · exact moves_link (by rfl)
  next p set _ =>
    refine Dev.Moves.trans (e := if set then d.bump EGL_RTCNT_DETOURS else d) ?_ (moves_enqueue ..)
    split
    · exact moves_link (by rfl)
    · exact moves_refl d

/-! Flows (R609 to R612). -/

theorem moves_drainHold (d : Dev) (key k : Nat) : d.Moves (d.drainHold key k) := by
  induction k generalizing d with
  | zero => exact moves_refl d
  | succ k ih =>
    unfold Dev.drainHold
    extract_lets want
    split
    · exact moves_refl d
    · exact (moves_setLink d (by rfl)).trans (ih _)

theorem moves_skipGap (d : Dev) (key : Nat) : d.Moves (d.skipGap key) := by
  unfold Dev.skipGap
  extract_lets want held dist _ x
  have hx : d.Moves x := ⟨rfl⟩
  cases held with
  | nil => exact moves_refl d
  | cons => exact hx.trans (moves_drainHold ..)

theorem moves_hold (d : Dev) (via : Nat) (pk : Packet) : d.Moves (d.setLink { d.link with hold := d.link.hold ++ [(via, pk)] }) :=
  ⟨rfl⟩

/-- Whether a packet is a JOIN, which starts its sender's flows anew (R611). -/
def Packet.isJoin (pk : Packet) : Prop := pk.type = 1 ∧ pk.cls = 1 ∧ pk.code = msgJoin

theorem moves_arrive (d : Dev) (via : Nat) {pk : Packet} (h : ¬ pk.isJoin) : d.Moves (d.arrive via pk) := by
  unfold Dev.arrive
  extract_lets key dist x _ _ y
  split
  · contradiction
  split
  · exact (moves_setLink d (by rfl)).trans (moves_drainHold ..)
  · split
    · have hy : d.Moves y := moves_hold d via pk
      split
      · exact hy
      · split
        · exact hy
        · exact hy.trans (moves_skipGap ..)
    · exact moves_link (by rfl)

/-- The link's fixed part without the flows that it sends. -/
def Link.fixedFlows (l : Link) : Link := { l.fixed with txFlow := [] }

/-- Of the link, only what traffic moves and the flows sent differ. -/
structure Dev.Carries (d e : Dev) : Prop where
  fixed : e.link.fixedFlows = d.link.fixedFlows

theorem carries_refl (d : Dev) : d.Carries d := ⟨rfl⟩
theorem Dev.Carries.trans (h : d.Carries e) (g : e.Carries f) : d.Carries f := ⟨g.fixed.trans h.fixed⟩
theorem Dev.Moves.carries (h : d.Moves e) : d.Carries e := ⟨congrArg (fun l : Link => { l with txFlow := [] }) h.fixed⟩

theorem Dev.Carries.keeps {α : Type} (h : d.Carries e) (g : Link → α) (hg : ∀ l : Link, g l.fixedFlows = g l) :
    g e.link = g d.link := by
  rw [← hg e.link, h.fixed, hg]

theorem Dev.Carries.port (h : d.Carries e) (p : Nat) : (e.port p).fixed = (d.port p).fixed := by
  have hports : e.link.ports.map Port.fixed = d.link.ports.map Port.fixed := congrArg Link.ports h.fixed
  exact port_of_map hports p

theorem carries_clearFlows (d : Dev) (xy : Nat) : d.Carries (d.clearFlows xy) := ⟨rfl⟩

theorem carries_arrive (d : Dev) (via : Nat) (pk : Packet) : d.Carries (d.arrive via pk) := by
  by_cases h : pk.isJoin
  · unfold Dev.arrive
    extract_lets key dist x
    rw [if_pos (by exact h)]
    have hx : d.Carries x := by
      unfold x
      split
      · exact carries_clearFlows ..
      · exact carries_refl d
    exact hx.trans (moves_setLink x (by rfl)).carries
  · exact (moves_arrive d via h).carries

theorem carries_launch (d : Dev) (pk : Packet) : d.Carries (d.launch pk) := by
  unfold Dev.launch
  extract_lets key n pk _ x
  have hx : d.Carries x := ⟨rfl⟩
  split
  · exact hx.trans (carries_arrive ..)
  · exact hx.trans (moves_routePacket ..).carries

/-! Operations (R613, R614): the tags held back, and what else stands beside the operations, stay. -/

/-- The link's fixed part without the flows that it sends and its operations. -/
def Link.fixedOps (l : Link) : Link := { l.fixedFlows with ops := [] }

/-- Of the link, only what traffic moves, the flows sent and the operations differ. -/
structure Dev.MovesOps (d e : Dev) : Prop where
  fixed : e.link.fixedOps = d.link.fixedOps

theorem movesOps_refl (d : Dev) : d.MovesOps d := ⟨rfl⟩
theorem Dev.MovesOps.trans (h : d.MovesOps e) (g : e.MovesOps f) : d.MovesOps f := ⟨g.fixed.trans h.fixed⟩
theorem Dev.Carries.movesOps (h : d.Carries e) : d.MovesOps e := ⟨congrArg (fun l : Link => { l with ops := [] }) h.fixed⟩
theorem Dev.Moves.movesOps (h : d.Moves e) : d.MovesOps e := h.carries.movesOps

theorem Dev.MovesOps.keeps {α : Type} (h : d.MovesOps e) (g : Link → α) (hg : ∀ l : Link, g l.fixedOps = g l) :
    g e.link = g d.link := by
  rw [← hg e.link, h.fixed, hg]

theorem movesOps_foldl {α : Type} {g : Dev → α → Dev} (xs : List α) (d : Dev) (h : ∀ e : Dev, ∀ x ∈ xs, e.MovesOps (g e x)) :
    d.MovesOps (xs.foldl g d) := by
  induction xs generalizing d with
  | nil => exact movesOps_refl d
  | cons x xs ih => exact (h d x (by simp)).trans (ih (g d x) fun e y hy => h e y (by simp [hy]))

theorem movesOps_takeMsg (d : Dev) (m : Msg) : d.MovesOps (d.takeMsg m) := by
  unfold Dev.takeMsg
  refine movesOps_foldl _ d fun e w _ => ?_
  split
  · extract_lets p
    split
    · exact (moves_enqueue ..).movesOps
    · exact movesOps_refl e
  · split
    · exact (carries_launch ..).movesOps
    · exact ⟨rfl⟩

theorem movesOps_issueOne (d : Dev) (i : Nat) : d.MovesOps (d.issueOne i) := by
  have hset (o : Operation) : d.MovesOps (d.setOp i o) := ⟨rfl⟩
  unfold Dev.issueOne
  split
  · exact movesOps_refl d
  · split
    · exact movesOps_refl d
    · extract_lets p
      split
      · exact (hset _).trans (carries_launch ..).movesOps
      · split
        · exact movesOps_refl d
        · exact (hset _).trans (moves_link (by rfl)).movesOps

theorem movesOps_issueOps (d : Dev) : d.MovesOps d.issueOps := by
  unfold Dev.issueOps
  extract_lets x
  have hbegun : d.MovesOps { d with outbox := [] } := ⟨rfl⟩
  have hx : d.MovesOps x := hbegun.trans (movesOps_foldl d.outbox _ fun e m _ => movesOps_takeMsg e m)
  have hissued : d.MovesOps ((List.range x.link.ops.length).foldl Dev.issueOne x) :=
    hx.trans (movesOps_foldl _ x fun e i _ => movesOps_issueOne e i)
  exact hissued.trans (moves_link (Dev.link_noteTags _)).movesOps

end Sys2Proof.Machine
end

section
/-!
SUPPORT. Frames on a port that is up, with nothing injected and nothing held back: gaps, acceptance, acknowledgement and resend
(R601 to R603, R607, R630).
-/

namespace Sys2Proof.Machine

variable {d e f : Dev} {s : State} {p : Nat}

/-! Frames leave a port. -/

/-- A port without what was on its wire last. -/
def Port.unwired (q : Port) : Port := { q with wire := [], disparity := false }

/-- Nothing is injected, and no frame is held back. -/
def Dev.plainly (d : Dev) : Prop := d.link.gate = false ∧ d.link.reorder = []

theorem Dev.injectFault_closed (h : d.link.gate = false) (i : Nat) (beacon : Bool) : d.injectFault i beacon = (0, d) := if_pos h

theorem Dev.transmit_plain (h : d.plainly) (seq : Nat) (pk : Packet) : d.transmit p seq pk = d.putFrame p (pk.seqOf seq) none pk := by
  obtain ⟨hgate, hreorder⟩ := h
  simp only [Dev.transmit, Dev.injectFault_closed hgate, hreorder, List.find?_nil]
  rfl

/-- What frames that leave a port change: that port's wire, and the count of its frames. -/
structure Dev.SendsOn (d e : Dev) (p : Nat) : Prop where
  port : (e.port p).unwired = (d.port p).unwired
  plainly : d.plainly → e.plainly
  length : e.link.ports.length = d.link.ports.length
  leaves : d.leaves e [EGL_PKT p]

theorem sendsOn_refl (d : Dev) (p : Nat) : d.SendsOn d p := ⟨rfl, id, rfl, d.leaves_refl _⟩

theorem Dev.SendsOn.trans (h : d.SendsOn e p) (g : e.SendsOn f p) : d.SendsOn f p :=
  ⟨g.port.trans h.port, fun hd => g.plainly (h.plainly hd), g.length.trans h.length, leaves_trans h.leaves g.leaves⟩

theorem sendsOn_putFrame (d : Dev) (hlen : p < d.link.ports.length) (seq flip : Option Nat) (pk : Packet) :
    d.SendsOn (d.putFrame p seq flip pk) p := by
  obtain ⟨hleaves, -, w, b, hlink⟩ := d.putFrame_sends p seq flip pk
  have hport : (d.putFrame p seq flip pk).port p = (d.port p).wired w b := by
    rw [Dev.port, hlink, ← Dev.port, Dev.port_setPort_same _ _ hlen]
  refine ⟨by rw [hport]; rfl, fun ⟨hgate, hreorder⟩ => ?_, ?_, hleaves⟩
  · exact ⟨(congrArg Link.gate hlink).trans hgate, (congrArg Link.reorder hlink).trans hreorder⟩
  · rw [hlink, Dev.length_setPort]

/-- Every unacknowledged frame goes out again. -/
def Dev.resendAll (d : Dev) (p : Nat) (fs : List (Nat × Packet)) : Dev := fs.foldl (fun d f => d.transmit p f.1 f.2) d

theorem sendsOn_resendAll (fs : List (Nat × Packet)) (d : Dev) (h : d.plainly) (hlen : p < d.link.ports.length) :
    d.SendsOn (d.resendAll p fs) p := by
  induction fs generalizing d with
  | nil => exact sendsOn_refl d p
  | cons x fs ih =>
    have hsent := sendsOn_putFrame d hlen (x.2.seqOf x.1) none x.2
    rw [← Dev.transmit_plain h] at hsent
    exact hsent.trans (ih _ (hsent.plainly h) (hsent.length ▸ hlen))

theorem moves_resendAll (fs : List (Nat × Packet)) (d : Dev) : d.Moves (d.resendAll p fs) :=
  moves_foldl fs d fun x f _ => moves_transmit x p f.1 f.2

/-! A frame received (R602). -/

theorem Dev.receiveFrame_plain (hup : d.isUp p = true) (h : d.plainly) (seq : Nat) (ok : Bool) (pk : Packet) :
    d.receiveFrame p seq ok pk = d.takeFrame p seq ok pk := by
  obtain ⟨hgate, hreorder⟩ := h
  simp [Dev.receiveFrame, hup, Dev.injectFault_closed hgate, hreorder]

theorem moves_sendNak (d : Dev) (p : Nat) : d.Moves (d.sendNak p) := moves_putWire ..

theorem moves_sendAck (d : Dev) (p : Nat) : d.Moves (d.sendAck p) := moves_putWire ..

/-- A gap noted leaves every register and the number expected, and a NAK has gone out for it. -/
theorem Dev.noteGap_notes (d : Dev) (hlen : p < d.link.ports.length) : (∀ as, d.leaves (d.noteGap p) as) ∧
    ((d.noteGap p).port p).nakked = true ∧ ((d.noteGap p).port p).rxSeq = (d.port p).rxSeq := by
  unfold Dev.noteGap
  split
  next h => exact ⟨fun as => d.leaves_refl as, h, rfl⟩
  next =>
    have hport := d.port_setPort_same { d.port p with nakked := true } hlen
    have hleaves (as : List Nat) : d.leaves (d.setPort p { d.port p with nakked := true }) as := leaves_setPort (d.leaves_refl as) ..
    generalize d.setPort p { d.port p with nakked := true } = x at *
    have hsent := (moves_sendNak x p).port p
    rw [hport] at hsent
    exact ⟨fun as => leaves_trans (hleaves as) (leaves_putWire ..), (congrArg Port.nakked hsent :), (congrArg Port.rxSeq hsent :)⟩

theorem carries_acceptPacket (d : Dev) (p : Nat) (pk : Packet) : d.Carries (d.acceptPacket p pk) := by
  unfold Dev.acceptPacket
  split
  · exact (moves_link (by rfl)).carries
  · split
    · exact (moves_setLink d (by rfl)).carries
    · split
      · exact (moves_routePacket ..).carries
      · split
        · exact carries_arrive ..
        · split
          · exact (carries_clearFlows d pk.src).trans (moves_link (by rfl)).carries
          · exact carries_refl d

/-- The number expected is the next one, and no gap is noted. -/
def Port.advanced (q : Port) : Port := { q with rxSeq := (q.rxSeq + 1) % 16, nakked := false }

theorem Dev.takeFrame_accepts {seq : Nat} {pk : Packet} (hlen : p < d.link.ports.length)
    (hseq : (seq + 16 - (d.port p).rxSeq) % 16 = 0) (hroom : d.inHeld p < 16) :
    ((d.takeFrame p seq true pk).port p).fixed = (d.port p).advanced.fixed := by
  have htaken : d.takeFrame p seq true pk = ((d.setPort p (d.port p).advanced).acceptPacket p pk).sendAck p := by
    unfold Dev.takeFrame
    rw [if_neg (by decide)]
    exact (if_pos hseq).trans (if_pos hroom)
  rw [htaken, (moves_sendAck ..).port p, (carries_acceptPacket ..).port p, Dev.port_setPort_same _ _ hlen]

section

variable {port : BitVec 2} (hp : port.toNat = p) (hup : s.dev.isUp p = true) (hplain : s.dev.plainly)
include hp hup hplain

theorem completes_frame (seq : BitVec 4) (ok : Bool) (w0 w1 : Word) (payload : List Word) {P : Dev → Prop}
    (h : ∀ pk, P (s.dev.takeFrame p seq.toNat ok pk)) : Completes (.sequencedFrame port seq ok w0 w1 payload) s P := by
  subst hp
  have hexec : exec (.sequencedFrame port seq ok w0 w1 payload) s = s.run fun d => d.receiveFrame port.toNat seq.toNat ok
    (if wGet w0 0 7 = payload.length then packetOf w0 w1 payload else { packetOf w0 w1 payload with type := 0 }) := rfl
  refine completes_of hexec ?_
  rw [Dev.receiveFrame_plain hup hplain]
  exact h _

variable (hlen : s.dev.link.ports.length = 4)
include hlen

theorem sequencedFrame_damaged (seq : BitVec 4) (w0 w1 : Word) (payload : List Word) :
    Completes (.sequencedFrame port seq false w0 w1 payload) s fun t =>
      t.fld (EGL_PCNT_CRCERR p) = min (s.dev.fld (EGL_PCNT_CRCERR p) + 1) (2 ^ (EGL_PCNT_CRCERR p).width - 1) ∧
      (t.port p).rxSeq = (s.dev.port p).rxSeq ∧ (t.port p).nakked = true ∧ s.dev.leaves t [(EGL_PCNT_CRCERR p).addr] := by
  refine completes_frame hp hup hplain seq false w0 w1 payload fun pk => ?_
  have hlt : p < (s.dev.bump (EGL_PCNT_CRCERR p)).link.ports.length := by rw [Dev.bump_link, hlen, ← hp]; exact port.isLt
  have htaken : s.dev.takeFrame p seq.toNat false pk = (s.dev.bump (EGL_PCNT_CRCERR p)).noteGap p := by
    unfold Dev.takeFrame
    exact if_pos rfl
  obtain ⟨hleaves, hnakked, hseq⟩ := (s.dev.bump (EGL_PCNT_CRCERR p)).noteGap_notes hlt
  rw [htaken]
  refine ⟨?_, hseq, hnakked, leaves_trans (leaves_bump (s.dev.leaves_refl _) (by simp)) (hleaves _)⟩
  obtain ⟨hregs, -⟩ := hleaves []
  rw [Dev.fld, hregs _ List.not_mem_nil, ← Dev.fld]
  exact Dev.fld_bump_same _ _ (Nat.le_of_ble_eq_true rfl)

theorem sequencedFrame_gap (seq : BitVec 4) (w0 w1 : Word) (payload : List Word)
    (hgap : (seq.toNat + 16 - (s.dev.port p).rxSeq) % 16 ∈ [1, 2, 3, 4, 5, 6, 7]) :
    Completes (.sequencedFrame port seq true w0 w1 payload) s fun t => (t.port p).rxSeq = (s.dev.port p).rxSeq ∧
      (t.port p).nakked = true ∧ s.dev.leaves t [] := by
  refine completes_frame hp hup hplain seq true w0 w1 payload fun pk => ?_
  have hlt : p < s.dev.link.ports.length := by rw [hlen, ← hp]; exact port.isLt
  have hfar : (seq.toNat + 16 - (s.dev.port p).rxSeq) % 16 ≠ 0 ∧ (seq.toNat + 16 - (s.dev.port p).rxSeq) % 16 < 8 := by
    simp only [List.mem_cons, List.not_mem_nil, or_false] at hgap
    omega
  have htaken : s.dev.takeFrame p seq.toNat true pk = s.dev.noteGap p := by
    unfold Dev.takeFrame
    rw [if_neg (by decide)]
    exact (if_neg hfar.1).trans (if_pos hfar.2)
  obtain ⟨hleaves, hnakked, hseq⟩ := s.dev.noteGap_notes hlt
  rw [htaken]
  exact ⟨hseq, hnakked, hleaves _⟩

theorem sequencedFrame_accepted (seq : BitVec 4) (w0 w1 : Word) (payload : List Word)
    (hseq : (seq.toNat + 16 - (s.dev.port p).rxSeq) % 16 = 0) (hroom : s.dev.inHeld p < 16) :
    Completes (.sequencedFrame port seq true w0 w1 payload) s fun t =>
      (t.port p).rxSeq = ((s.dev.port p).rxSeq + 1) % 16 ∧ (t.port p).nakked = false := by
  refine completes_frame hp hup hplain seq true w0 w1 payload fun pk => ?_
  have hlt : p < s.dev.link.ports.length := by rw [hlen, ← hp]; exact port.isLt
  have hfixed := Dev.takeFrame_accepts (pk := pk) hlt hseq hroom
  exact ⟨congrArg Port.rxSeq hfixed, congrArg Port.nakked hfixed⟩

end

/-! Acknowledgement and resend (R601, R603). -/

theorem Dev.reg_noteInflight (d : Dev) {a : Nat} (h : a ≠ EGL_PINFL p) : (d.noteInflight p).reg a = d.reg a := by
  unfold Dev.noteInflight
  extract_lets q ops
  simp only [Dev.setFld, Dev.reg_setReg, if_neg h]

/-- The counts of what is in flight leave the peer's FREE. -/
theorem Dev.free_noteInflight (d : Dev) : (d.noteInflight p).fld (EGL_PINFL_FREE p) = d.fld (EGL_PINFL_FREE p) := by
  have hapart (x : Dev) {l n : Nat} (v : Nat) (h : 8 + 4 ≤ l ∨ l + n ≤ 8) (hfits : l + n ≤ 24) :
      (x.setFld ⟨EGL_PINFL p, l, n⟩ v).fld (EGL_PINFL_FREE p) = x.fld (EGL_PINFL_FREE p) :=
    Dev.fld_setFld_apart x v hfits (fld_apart_lsb h)
  unfold Dev.noteInflight
  exact (hapart _ _ (by decide) (by decide)).trans ((hapart _ _ (by decide) (by decide)).trans (hapart _ _ (by decide) (by decide)))

/-- An acknowledged port: the frames up to number n have left its window, and it has the peer's FREE. -/
def Port.acked (q : Port) (b : Byte) : Port :=
  let w := dropAcked q.window (b.toNat % 16)
  { q with window := w, credit := b.toNat / 16, rounds := if w.length < q.window.length then 0 else q.rounds }

theorem Dev.takeAck_takes (hup : d.isUp p = true) (b : Byte) :
    d.takeAck p b = ((d.setPort p ((d.port p).acked b)).setFld (EGL_PINFL_FREE p) (b.toNat / 16)).flush p := if_pos hup

theorem Dev.pump_empty (h : (d.port p).queue = []) (k : Nat) : d.pump p k = d := by
  cases k with
  | zero => rfl
  | succ k =>
    unfold Dev.pump
    simp only [h]
    split
    · rfl
    · rfl

theorem Dev.fld_freeTaken (d : Dev) (b : Byte) :
    (d.setFld (EGL_PINFL_FREE p) (b.toNat / 16)).fld (EGL_PINFL_FREE p) = b.toNat / 16 := by
  have hb := b.isLt
  exact (Dev.fld_setFld_same _ (EGL_PINFL_FREE p) _ (Nat.le_of_ble_eq_true rfl)).trans
    (Nat.mod_eq_of_lt (Nat.div_lt_of_lt_mul hb))

theorem reg_injectFault (d : Dev) (i : Nat) (beacon : Bool) {a : Nat} (h : a ≠ SVC_INJCNT i) :
    (d.injectFault i beacon).2.reg a = d.reg a := by
  have hcounts (x : Dev) (g : Fld) (hg : g.addr = SVC_INJCNT i) (hx : x.regs = d.regs) : (x.bump g).reg a = d.reg a := by
    rw [Dev.bump, Dev.bumpBy, Dev.setFld, Dev.reg_setReg, if_neg (by rw [hg]; exact h), Dev.reg, hx, ← Dev.reg]
  unfold Dev.injectFault
  split
  · rfl
  · extract_lets
    split
    · exact hcounts _ _ rfl rfl
    · split
      · exact hcounts _ _ rfl rfl
      · split <;> rfl

theorem reg_putFrame (d : Dev) (seq flip : Option Nat) (pk : Packet) {a : Nat} (h : a ≠ EGL_PKT p) :
    (d.putFrame p seq flip pk).reg a = d.reg a := by
  obtain ⟨⟨hregs, -⟩, -⟩ := d.putFrame_sends p seq flip pk
  exact hregs a (by simpa using h)

theorem reg_transmit (d : Dev) (seq : Nat) (pk : Packet) {a : Nat} (h : a ≠ EGL_PKT p) (hinj : a ≠ SVC_INJCNT (2 * p)) :
    (d.transmit p seq pk).reg a = d.reg a := by
  have hinject := reg_injectFault d (2 * p) false hinj
  unfold Dev.transmit
  extract_lets i
  split
  next fault x hfault =>
  rw [hfault] at hinject
  split
  · split
    · exact hinject
    · split
      · exact hinject
      · exact (reg_putFrame x _ _ _ h).trans hinject
  next r _ =>
    extract_lets y
    have hy : y.reg a = x.reg a := by
      unfold y
      split
      · rfl
      · exact reg_putFrame x _ _ _ h
    have hcounted : ((y.unhold i).bump (SVC_INJCNT_REORDERS i)).reg a = y.reg a := by
      rw [Dev.bump, Dev.bumpBy, Dev.setFld, Dev.reg_setReg, if_neg hinj]
      rfl
    exact (reg_putFrame _ _ _ _ h).trans (hcounted.trans (hy.trans hinject))

theorem reg_pump (d : Dev) {a : Nat} (h : a ≠ EGL_PKT p) (hinj : a ≠ SVC_INJCNT (2 * p)) (k : Nat) :
    (d.pump p k).reg a = d.reg a := by
  induction k generalizing d with
  | zero => rfl
  | succ k ih =>
    unfold Dev.pump
    extract_lets q
    split
    · rfl
    · split
      · rfl
      · split
        · rfl
        · extract_lets x
          exact (ih _).trans (reg_transmit x q.txSeq _ h hinj)

theorem pinfl_apart : ∀ p < 4, EGL_PINFL p ≠ EGL_PKT p ∧ EGL_PINFL p ≠ SVC_INJCNT (2 * p) := by decide

theorem ack_showsFree {port : BitVec 2} (hp : port.toNat = p) (hup : s.dev.isUp p = true) (b : Byte) :
    Completes (.ack port b) s fun t => t.fld (EGL_PINFL_FREE p) = b.toNat / 16 := by
  subst hp
  obtain ⟨hpkt, hinj⟩ := pinfl_apart port.toNat port.isLt
  refine completes_of (f := fun d => d.takeAck port.toNat b) rfl ?_
  rw [Dev.takeAck_takes hup, Dev.flush, Dev.free_noteInflight, Dev.fld, reg_pump _ hpkt hinj]
  exact Dev.fld_freeTaken ..

theorem ack_takes {port : BitVec 2} (hp : port.toNat = p) (hlen : s.dev.link.ports.length = 4) (hup : s.dev.isUp p = true)
    (hqueue : (s.dev.port p).queue = []) (b : Byte) : Completes (.ack port b) s fun t =>
      (t.port p).window = dropAcked (s.dev.port p).window (b.toNat % 16) ∧ (t.port p).credit = b.toNat / 16 ∧
      t.fld (EGL_PINFL_FREE p) = b.toNat / 16 := by
  subst hp
  refine completes_of (f := fun d => d.takeAck port.toNat b) rfl ?_
  have hport := s.dev.port_setPort_same ((s.dev.port port.toNat).acked b)
    (by rw [hlen]; exact port.isLt)
  have hempty : (((s.dev.setPort port.toNat ((s.dev.port port.toNat).acked b)).setFld (EGL_PINFL_FREE port.toNat)
      (b.toNat / 16)).port port.toNat).queue = [] := (congrArg Port.queue hport).trans hqueue
  rw [Dev.takeAck_takes hup, Dev.flush, Dev.pump_empty hempty]
  refine ⟨(congrArg Port.window hport :), (congrArg Port.credit hport :), ?_⟩
  rw [Dev.free_noteInflight]
  exact Dev.fld_freeTaken ..

/-- The peer's FREE is taken. -/
def Dev.creditTaken (d : Dev) (p : Nat) (b : Byte) : Dev :=
  (d.setPort p { d.port p with credit := b.toNat / 16 }).setFld (EGL_PINFL_FREE p) (b.toNat / 16)

/-- Another round of resending. -/
def Dev.roundBegun (d : Dev) (p : Nat) : Dev := (d.setPort p { d.port p with rounds := (d.port p).rounds + 1 }).bump (EGL_PCNT_RESEND p)

theorem Dev.resendFrom_eq (d : Dev) (p n : Nat) :
    d.resendFrom p n = (d.roundBegun p).resendAll p ((d.port p).window.dropWhile fun f => f.1 != n) := rfl

theorem Dev.takeNak_resends {b : Byte} (hup : d.isUp p = true)
    (hmem : ((d.port p).window.any fun f => f.1 == b.toNat % 16) = true) (hrounds : (d.port p).rounds < 16) :
    d.takeNak p b = ((d.creditTaken p b).resendFrom p (b.toNat % 16)).noteInflight p := by
  unfold Dev.takeNak
  rw [if_pos hup]
  exact (if_pos hmem).trans (if_neg (Nat.not_le.mpr hrounds))

/-- A round of resending on a port where nothing is injected: the window and the credit stay, and it is counted. -/
structure Dev.Resent (d e : Dev) (p : Nat) : Prop where
  port : (e.port p).unwired = { (d.port p).unwired with rounds := (d.port p).rounds + 1 }
  counted : e.fld (EGL_PCNT_RESEND p) = min (d.fld (EGL_PCNT_RESEND p) + 1) (2 ^ (EGL_PCNT_RESEND p).width - 1)

theorem Dev.resendFrom_resends (d : Dev) (hplain : d.plainly) (hlen : p < d.link.ports.length) (n : Nat) :
    d.Resent (d.resendFrom p n) p := by
  have hbegun : (d.roundBegun p).port p = { d.port p with rounds := (d.port p).rounds + 1 } := d.port_setPort_same _ hlen
  have hsent := sendsOn_resendAll (p := p) ((d.port p).window.dropWhile fun f => f.1 != n) (d.roundBegun p) hplain
    (by exact (d.length_setPort ..).symm ▸ hlen)
  rw [Dev.resendFrom_eq]
  refine ⟨hsent.port.trans (by rw [hbegun]; rfl), ?_⟩
  obtain ⟨hregs, -⟩ := hsent.leaves
  rw [Dev.fld, hregs _ (by simp), ← Dev.fld]
  exact Dev.fld_bump_same _ _ (Nat.le_of_ble_eq_true rfl)

end Sys2Proof.Machine
end

section
/-!
SUPPORT. NAK, the resend time-out, packets that age, frames held back and gaps of a flow (R601 to R603, R607, R610, R630).
-/

namespace Sys2Proof.Machine

variable {d e : Dev} {s : State} {p : Nat} {port : BitVec 2}

theorem resendTimeout_runs {x : Nat × Packet} {rest : List (Nat × Packet)} (hup : d.isUp p = true)
    (hwindow : (d.port p).window = x :: rest) (hrounds : (d.port p).rounds < 16) : d.resendTimeout p = d.resendFrom p x.1 := by
  unfold Dev.resendTimeout
  rw [if_pos hup, hwindow]
  exact if_neg (Nat.not_le.mpr hrounds)

/-- A round more on the port, whatever is injected. -/
theorem Dev.resendFrom_rounds (d : Dev) (hlen : p < d.link.ports.length) (n : Nat) :
    ((d.resendFrom p n).port p).rounds = (d.port p).rounds + 1 := by
  have hbegun : (d.roundBegun p).port p = { d.port p with rounds := (d.port p).rounds + 1 } := d.port_setPort_same _ hlen
  have hsent := (moves_resendAll (p := p) ((d.port p).window.dropWhile fun f => f.1 != n) (d.roundBegun p)).port p
  rw [hbegun] at hsent
  exact (congrArg Port.rounds hsent :)

section

theorem port_lt (hp : port.toNat = p) (hlen : s.dev.link.ports.length = 4) : p < s.dev.link.ports.length := by
  rw [hlen, ← hp]
  exact port.isLt

variable (hp : port.toNat = p) (hlen : s.dev.link.ports.length = 4) (hup : s.dev.isUp p = true)
  (hrounds : (s.dev.port p).rounds < 16)
include hp hlen hup hrounds

theorem resendTimeout_round (hwindow : (s.dev.port p).window ≠ []) :
    Completes (.resendTimeout port) s fun t => (t.port p).rounds = (s.dev.port p).rounds + 1 := by
  obtain ⟨x, rest, hx⟩ := List.exists_cons_of_ne_nil hwindow
  have hlt := port_lt hp hlen
  subst hp
  refine completes_of (f := fun d => d.resendTimeout port.toNat) rfl ?_
  rw [resendTimeout_runs hup hx hrounds]
  exact Dev.resendFrom_rounds _ hlt _

theorem resendTimeout_resends (hplain : s.dev.plainly) (hwindow : (s.dev.port p).window ≠ []) :
    Completes (.resendTimeout port) s fun t =>
      (t.port p).window = (s.dev.port p).window ∧ (t.port p).rounds = (s.dev.port p).rounds + 1 ∧
      t.fld (EGL_PCNT_RESEND p) = min (s.dev.fld (EGL_PCNT_RESEND p) + 1) (2 ^ (EGL_PCNT_RESEND p).width - 1) := by
  obtain ⟨x, rest, hx⟩ := List.exists_cons_of_ne_nil hwindow
  have hlt := port_lt hp hlen
  subst hp
  refine completes_of (f := fun d => d.resendTimeout port.toNat) rfl ?_
  rw [resendTimeout_runs hup hx hrounds]
  have hresent := s.dev.resendFrom_resends hplain hlt x.1
  exact ⟨(congrArg Port.window hresent.port :), (congrArg Port.rounds hresent.port :), hresent.counted⟩

variable {b : Byte} (hmem : ((s.dev.port p).window.any fun f => f.1 == b.toNat % 16) = true)
include hmem

theorem nak_round : Completes (.nak port b) s fun t => (t.port p).rounds = (s.dev.port p).rounds + 1 := by
  have hlt := port_lt hp hlen
  subst hp
  refine completes_of (f := fun d => d.takeNak port.toNat b) rfl ?_
  have hport : (s.dev.creditTaken port.toNat b).port port.toNat = { s.dev.port port.toNat with credit := b.toNat / 16 } :=
    s.dev.port_setPort_same _ hlt
  rw [Dev.takeNak_resends hup hmem hrounds]
  refine (Dev.resendFrom_rounds (s.dev.creditTaken port.toNat b) (by exact (s.dev.length_setPort ..).symm ▸ hlt) _).trans ?_
  rw [hport]

theorem nak_resends (hplain : s.dev.plainly) : Completes (.nak port b) s fun t =>
    (t.port p).window = (s.dev.port p).window ∧ (t.port p).rounds = (s.dev.port p).rounds + 1 ∧
    (t.port p).credit = b.toNat / 16 ∧
    t.fld (EGL_PCNT_RESEND p) = min (s.dev.fld (EGL_PCNT_RESEND p) + 1) (2 ^ (EGL_PCNT_RESEND p).width - 1) := by
  have hlt := port_lt hp hlen
  subst hp
  refine completes_of (f := fun d => d.takeNak port.toNat b) rfl ?_
  have hport : (s.dev.creditTaken port.toNat b).port port.toNat = { s.dev.port port.toNat with credit := b.toNat / 16 } :=
    s.dev.port_setPort_same _ hlt
  have hcount : (s.dev.creditTaken port.toNat b).fld (EGL_PCNT_RESEND port.toNat) = s.dev.fld (EGL_PCNT_RESEND port.toNat) :=
    Dev.fld_setReg_ne _ _ (by simp)
  have hresent := (s.dev.creditTaken port.toNat b).resendFrom_resends hplain (by exact (s.dev.length_setPort ..).symm ▸ hlt)
    (b.toNat % 16)
  have hshown := hresent.port
  have hcounted := hresent.counted
  rw [hport] at hshown
  rw [hcount] at hcounted
  rw [Dev.takeNak_resends hup hmem hrounds]
  refine ⟨(congrArg Port.window hshown :), (congrArg Port.rounds hshown :), (congrArg Port.credit hshown :), ?_⟩
  rw [Dev.fld, Dev.reg_noteInflight _ (by simp), ← Dev.fld, hcounted]

end

theorem leaves_noteInflight (d : Dev) (p : Nat) : d.leaves (d.noteInflight p) [EGL_PINFL p] :=
  leaves_setFld (leaves_setFld (leaves_setFld (d.leaves_refl _) (by simp)) (by simp)) (by simp)

theorem packetAged_drops (hp : port.toNat = p) (hlen : s.dev.link.ports.length = 4) {x : Nat × Packet} {rest : List (Nat × Packet)}
    (hqueue : (s.dev.port p).queue = x :: rest) : Completes (.packetAged port) s fun t => (t.port p).queue = rest ∧
      t.fld (EGL_PCNT2_AGED p) = min (s.dev.fld (EGL_PCNT2_AGED p) + 1) (2 ^ (EGL_PCNT2_AGED p).width - 1) ∧
      s.dev.leaves t [(EGL_PCNT2_AGED p).addr, (EGL_PINFL_OPS p).addr] := by
  have hlt := port_lt hp hlen
  subst hp
  refine completes_of (f := fun d => d.packetAged port.toNat) rfl ?_
  have haged : s.dev.packetAged port.toNat = ((s.dev.setPort port.toNat { s.dev.port port.toNat with queue := rest }).bump
      (EGL_PCNT2_AGED port.toNat)).noteInflight port.toNat := by
    unfold Dev.packetAged
    rw [hqueue]
  have hport := s.dev.port_setPort_same { s.dev.port port.toNat with queue := rest } hlt
  rw [haged]
  refine ⟨(congrArg Port.queue hport :), ?_, ?_⟩
  · rw [Dev.fld, Dev.reg_noteInflight _ (by simp), ← Dev.fld]
    exact Dev.fld_bump_same (s.dev.setPort port.toNat { s.dev.port port.toNat with queue := rest }) _ (Nat.le_of_ble_eq_true rfl)
  · exact leaves_trans (leaves_bump (leaves_setPort (s.dev.leaves_refl _) ..) (by simp)) (leaves_mono (leaves_noteInflight ..) (by simp))

/-! Frames held back (R630). -/

section

variable {r : Nat × Nat × Bool × Packet} {point : BitVec 3} (hheld : s.dev.link.reorder = [r]) (hr : r.1 = point.toNat)
include hheld hr

/-- The machine without the frame that was held back. -/
theorem unhold_last : s.dev.unhold point.toNat = s.dev.setLink { s.dev.link with reorder := [] } := by
  rw [Dev.unhold, hheld]
  simp [hr]

theorem reorderRelease_passes : s.dev.reorderRelease point.toNat =
    if point.toNat % 2 = 0 then (s.dev.setLink { s.dev.link with reorder := [] }).putFrame (point.toNat / 2) (r.2.2.2.seqOf r.2.1)
      none r.2.2.2
    else (s.dev.setLink { s.dev.link with reorder := [] }).takeFrame (point.toNat / 2) r.2.1 r.2.2.1 r.2.2.2 := by
  have hfound : s.dev.link.reorder.find? (fun x => x.1 == point.toNat) = some r := by simp [hheld, hr]
  unfold Dev.reorderRelease
  rw [hfound, ← unhold_last hheld hr]

theorem reorderRelease_sends (hout : r.1 = 2 * p) : Completes (.reorderRelease point) s fun t =>
    t.link.reorder = [] ∧ s.dev.leaves t [EGL_PKT p] ∧
      t.fld (EGL_PKT_SENT p) = min (s.dev.fld (EGL_PKT_SENT p) + 1) (2 ^ (EGL_PKT_SENT p).width - 1) := by
  have hpoint : point.toNat % 2 = 0 ∧ point.toNat / 2 = p := by omega
  obtain ⟨heven, hp⟩ := hpoint
  refine completes_of (f := fun d => d.reorderRelease point.toNat) rfl ?_
  rw [reorderRelease_passes hheld hr, if_pos heven, hp]
  obtain ⟨hleaves, hsent, w, b, hlink⟩ := (s.dev.setLink { s.dev.link with reorder := [] }).putFrame_sends p
    (r.2.2.2.seqOf r.2.1) none r.2.2.2
  exact ⟨congrArg Link.reorder hlink, leaves_trans (leaves_of (s.dev.leaves_refl _) rfl rfl rfl rfl) hleaves, hsent⟩

theorem reorderRelease_takes (hin : r.1 = 2 * p + 1) : Completes (.reorderRelease point) s fun t =>
    t = (s.dev.setLink { s.dev.link with reorder := [] }).takeFrame p r.2.1 r.2.2.1 r.2.2.2 := by
  have hpoint : point.toNat % 2 ≠ 0 ∧ point.toNat / 2 = p := by omega
  obtain ⟨hodd, hp⟩ := hpoint
  refine completes_of (f := fun d => d.reorderRelease point.toNat) rfl ?_
  rw [reorderRelease_passes hheld hr, if_neg hodd, hp]

end

/-! Gaps of a flow (R610). -/

theorem gapSkip_exec {x : Nat × Packet} {rest : List (Nat × Packet)} (h : s.dev.link.hold = x :: rest) {P : Dev → Prop}
    (hP : P (s.dev.skipGap (flowKey x.2.src x.2.cls))) : Completes .gapSkip s P := by
  have hexec : exec .gapSkip s = s.run fun d => match d.link.hold with
    | [] => d
    | h :: _ => d.skipGap (flowKey h.2.src h.2.cls) := rfl
  refine completes_of hexec ?_
  rw [h]
  exact hP

/-- The flow's expected number moves to the lowest held. -/
def Dev.gapSkipped (d : Dev) (key : Nat) (held : List (Nat × Packet)) : Dev :=
  (d.setLink { d.link with rxFlow := keySet d.link.rxFlow key ((keyGet d.link.rxFlow key +
    held.foldl (fun m h => min m ((h.2.fseq + 256 - keyGet d.link.rxFlow key) % 256)) 255) % 256) }).bump EGL_E2E_GAPSKIP

theorem Dev.skipGap_skips {key : Nat} {held : List (Nat × Packet)}
    (h : (d.link.hold.filter fun h => flowKey h.2.src h.2.cls == key) = held) (hne : held ≠ []) :
    d.skipGap key = (d.gapSkipped key held).drainHold key 33 := by
  unfold Dev.skipGap
  rw [h]
  cases held with
  | nil => exact absurd rfl hne
  | cons => rfl

theorem gapSkip_counts {x : Nat × Packet} {rest : List (Nat × Packet)} (h : s.dev.link.hold = x :: rest) :
    Completes .gapSkip s fun t =>
      t.fld EGL_E2E_GAPSKIP = min (s.dev.fld EGL_E2E_GAPSKIP + 1) (2 ^ EGL_E2E_GAPSKIP.width - 1) := by
  refine gapSkip_exec h ?_
  have hne : (s.dev.link.hold.filter fun h => flowKey h.2.src h.2.cls == flowKey x.2.src x.2.cls) ≠ [] := by simp [h]
  rw [Dev.skipGap_skips rfl hne, (linked_drainHold (as := []) ..).fld List.not_mem_nil (by decide)]
  exact Dev.fld_bump_same (s.dev.setLink _) _ (by decide)

theorem keyGet_keySet (l : List (Nat × Nat)) (k v : Nat) : keyGet (keySet l k v) k = v := by
  simp [keyGet, keySet]

/-- A lone packet that its flow expects is delivered. -/
theorem Dev.drainHold_lone {x : Nat × Packet} (hhold : d.link.hold = [x])
    (hwant : keyGet d.link.rxFlow (flowKey x.2.src x.2.cls) = x.2.fseq) (k : Nat) :
    (d.drainHold (flowKey x.2.src x.2.cls) (k + 1)).link.hold = [] ∧
      (d.drainHold (flowKey x.2.src x.2.cls) (k + 1)).link.inbox = d.link.inbox ++ [x] ∧
      ∀ as, d.leaves (d.drainHold (flowKey x.2.src x.2.cls) (k + 1)) as := by
  have hempty (y : Dev) (hy : y.link.hold = []) (key k : Nat) : y.drainHold key k = y := by
    cases k with
    | zero => rfl
    | succ k => simp [Dev.drainHold, hy]
  have hdrained : d.drainHold (flowKey x.2.src x.2.cls) (k + 1) = d.setLink { d.link with
      hold := []
      rxFlow := keySet d.link.rxFlow (flowKey x.2.src x.2.cls) ((x.2.fseq + 1) % 256)
      inbox := d.link.inbox ++ [x] } := by
    simp only [Dev.drainHold, hhold, hwant, List.find?_cons, beq_self_eq_true, Bool.and_self, List.erase_cons_head]
    exact hempty _ rfl _ _
  rw [hdrained]
  exact ⟨rfl, rfl, fun as => leaves_of (d.leaves_refl as) rfl rfl rfl rfl⟩

theorem gapSkip_delivers {x : Nat × Packet} (h : s.dev.link.hold = [x]) (hseq : x.2.fseq < 256)
    (hflow : keyGet s.dev.link.rxFlow (flowKey x.2.src x.2.cls) < 256) : Completes .gapSkip s fun t =>
      t.link.hold = [] ∧ t.link.inbox = s.dev.link.inbox ++ [x] ∧ s.dev.leaves t [EGL_E2E] := by
  refine gapSkip_exec h ?_
  have hheld : (s.dev.link.hold.filter fun y => flowKey y.2.src y.2.cls == flowKey x.2.src x.2.cls) = [x] := by simp [h]
  have hwant : keyGet (s.dev.gapSkipped (flowKey x.2.src x.2.cls) [x]).link.rxFlow (flowKey x.2.src x.2.cls) = x.2.fseq := by
    refine (keyGet_keySet ..).trans ?_
    simp only [List.foldl_cons, List.foldl_nil]
    omega
  have hskipped : s.dev.leaves (s.dev.gapSkipped (flowKey x.2.src x.2.cls) [x]) [EGL_E2E] :=
    leaves_bump (leaves_of (s.dev.leaves_refl _) rfl rfl rfl rfl) (by decide)
  obtain ⟨hnone, hinbox, hleaves⟩ := Dev.drainHold_lone (d := s.dev.gapSkipped (flowKey x.2.src x.2.cls) [x]) h hwant 32
  rw [Dev.skipGap_skips hheld (by simp)]
  exact ⟨hnone, hinbox, leaves_trans hskipped (hleaves _)⟩

end Sys2Proof.Machine
end

section
/-!
SUPPORT. Operations of the link: issue, starvation, attempts, responses and tags (R613 to R618).
-/

namespace Sys2Proof.Machine

variable {d e : Dev} {s : State} {o : Operation}

/-! Issue (R613, R614). -/

theorem Dev.settle_idle (h : d.link.done = []) (k : Nat) : d.settle k = d := by
  cases k with
  | zero => rfl
  | succ k =>
    unfold Dev.settle
    rw [h]

theorem Dev.issueOps_quiet (h : d.outbox = []) : d.issueOps = ((List.range d.link.ops.length).foldl Dev.issueOne d).noteTags := by
  have hout : ({ d with outbox := [] } : Dev) = d := by rw [← h]
  unfold Dev.issueOps
  rw [hout, h]
  rfl

theorem Dev.issueOps_none (h : d.outbox = []) (hops : d.link.ops = []) : d.issueOps = d.noteTags := by
  rw [Dev.issueOps_quiet h, hops]
  rfl

/-- A lone operation that waits takes the lowest free tag and its route's port, and its request goes out. -/
theorem Dev.issueOne_lone {tg : Nat} {r : Nat × Bool} (hops : d.link.ops = [o]) (htag : o.tag = none) (hfree : d.freeTag = some tg)
    (hroute : d.routeOf o.packet = some r) : d.issueOne 0 =
      (d.setOp 0 { o with tag := some tg, port := r.1 }).launch ({ o with tag := some tg, port := r.1 } : Operation).request := by
  have hslot : d.slotFree r.1 = true := by simp [Dev.slotFree, hops, htag]
  unfold Dev.issueOne
  simp [hops, htag, hfree, hroute, hslot]

theorem Dev.issueOps_lone {tg : Nat} {r : Nat × Bool} (hout : d.outbox = []) (hops : d.link.ops = [o]) (htag : o.tag = none)
    (hfree : d.freeTag = some tg) (hroute : d.routeOf o.packet = some r) :
    d.issueOps.link.ops = [{ o with tag := some tg, port := r.1 }] ∧ d.issueOps.link.heldTags = d.link.heldTags ∧
      d.issueOps.link.done = d.link.done := by
  have hissued : d.issueOps = (d.issueOne 0).noteTags := by
    rw [Dev.issueOps_quiet hout, hops]
    rfl
  have hcarries := carries_launch (d.setOp 0 { o with tag := some tg, port := r.1 })
    ({ o with tag := some tg, port := r.1 } : Operation).request
  have hset : (d.setOp 0 { o with tag := some tg, port := r.1 }).link.ops = [{ o with tag := some tg, port := r.1 }] := by
    simp [Dev.setOp, hops]
  rw [hissued, Dev.link_noteTags, Dev.issueOne_lone hops htag hfree hroute]
  exact ⟨(hcarries.keeps (·.ops) fun _ => rfl).trans hset, hcarries.keeps (·.heldTags) fun _ => rfl,
    hcarries.keeps (·.done) fun _ => rfl⟩

theorem operationIssue_issues {tg : Nat} {r : Nat × Bool} (hout : s.dev.outbox = []) (hdone : s.dev.link.done = [])
    (hops : s.dev.link.ops = [o]) (htag : o.tag = none) (hfree : s.dev.freeTag = some tg)
    (hroute : s.dev.routeOf o.packet = some r) : Completes .operationIssue s fun t =>
      t.link.ops = [{ o with tag := some tg, port := r.1 }] ∧ t.link.heldTags = s.dev.link.heldTags := by
  obtain ⟨hissued, hheld, hkept⟩ := Dev.issueOps_lone hout hops htag hfree hroute
  refine completes_of (f := fun d => d.issueOps.settle 128) rfl ?_
  rw [Dev.settle_idle (hkept.trans hdone)]
  exact ⟨hissued, hheld⟩

/-! Starvation and attempts (R615, R616). -/

theorem tagStarved_reports {rest : List Operation} (hops : s.dev.link.ops = o :: rest) (htag : o.tag = none)
    (hnew : o.starved = false) : Completes .tagStarved s fun t => t.link.ops = { o with starved := true } :: rest ∧
      t.fld EGL_STALL_STARVED = min (s.dev.fld EGL_STALL_STARVED + 1) (2 ^ EGL_STALL_STARVED.width - 1) ∧
      s.dev.leavesRing t [EGL_STALL] := by
  refine completes_of (f := Dev.opStarved) rfl ?_
  have hset : (s.dev.setOp 0 { o with starved := true }).link.ops = { o with starved := true } :: rest := by
    simp [Dev.setOp, hops]
  have hreported : ∃ w1 w2, s.dev.opStarved =
      ((s.dev.setOp 0 { o with starved := true }).bump EGL_STALL_STARVED).ring 164 w1 w2 := by
    unfold Dev.opStarved
    simp [hops, htag, hnew, List.findIdx?_cons]
  obtain ⟨w1, w2, heq⟩ := hreported
  rw [heq]
  refine ⟨?_, ?_, ?_⟩
  · rw [Dev.ring_link]
    exact hset
  · exact (Dev.ring_fld (by decide) ..).trans (Dev.fld_bump_same (s.dev.setOp 0 _) _ (by decide))
  · have hbumped : s.dev.leaves ((s.dev.setOp 0 { o with starved := true }).bump EGL_STALL_STARVED) [EGL_STALL] :=
      leaves_bump (leaves_of (s.dev.leaves_refl _) rfl rfl rfl rfl) (by decide)
    exact leavesRing_ring (leavesRing_of_leaves hbumped) ..

/-- An operation that has its response. -/
def Operation.answered (o : Operation) (pk : Packet) : Operation := { o with result := some (some pk) }

/-- A link on which the lone operation has ended: it is passed to its requester. -/
def Link.ended (l : Link) (o : Operation) (held : List Nat) : Link := { l with ops := [], done := [o], heldTags := held }

/-- The tags held back once an operation has its response: a tag with more than one attempt is held back (R617). -/
def Operation.heldAfter (o : Operation) (held : List Nat) : List Nat :=
  if o.attempt != 0 then held ++ [o.tag.getD 0] else held

theorem Dev.passDone_lone {q : Operation} (hone : d.link.ops = [q]) (hnone : d.link.done = []) (hres : q.result.isSome = true) :
    d.passDone 128 = d.setLink (d.link.ended q d.link.heldTags) := by
  simp [Dev.passDone, hone, hnone, hres, Link.ended, List.range_succ]

section

variable {tag : BitVec 6} (hdone : s.dev.link.done = []) (hops : s.dev.link.ops = [o]) (htag : o.tag = some tag.toNat)
  (hopen : o.result = none)
include hdone hops htag hopen

theorem opAttemptTimeout_retries (hmore : o.attempt < 3) :
    Completes (.opAttemptTimeout tag) s fun t => t.link.ops = [{ o with attempt := o.attempt + 1 }] ∧
      t.fld EGL_OPS_RETRIES = min (s.dev.fld EGL_OPS_RETRIES + 1) (2 ^ EGL_OPS_RETRIES.width - 1) := by
  refine completes_of (f := fun d => (d.opTimeout tag.toNat).settle 128) rfl ?_
  have hset : (s.dev.setOp 0 { o with attempt := o.attempt + 1 }).link.ops = [{ o with attempt := o.attempt + 1 }] := by
    simp [Dev.setOp, hops]
  have htimeout : s.dev.opTimeout tag.toNat = (((s.dev.setOp 0 { o with attempt := o.attempt + 1 }).bump EGL_OPS_RETRIES).launch
      ({ o with attempt := o.attempt + 1 } : Operation).request).noteTags := by
    unfold Dev.opTimeout
    simp [hops, htag, hopen, hmore, List.findIdx?_cons]
  have hcount := Dev.fld_bump_same (s.dev.setOp 0 { o with attempt := o.attempt + 1 }) EGL_OPS_RETRIES (by decide)
  have hset' : ((s.dev.setOp 0 { o with attempt := o.attempt + 1 }).bump EGL_OPS_RETRIES).link.done = [] := hdone
  rw [htimeout]
  replace hset : ((s.dev.setOp 0 { o with attempt := o.attempt + 1 }).bump EGL_OPS_RETRIES).link.ops = _ := hset
  generalize (s.dev.setOp 0 { o with attempt := o.attempt + 1 }).bump EGL_OPS_RETRIES = x at *
  have hcarries := carries_launch x ({ o with attempt := o.attempt + 1 } : Operation).request
  have hlinked := linked_launch x ({ o with attempt := o.attempt + 1 } : Operation).request
  have hkept : (x.launch ({ o with attempt := o.attempt + 1 } : Operation).request).noteTags.link.done = [] := by
    rw [Dev.link_noteTags]
    exact (hcarries.keeps (·.done) fun _ => rfl).trans hset'
  rw [Dev.settle_idle hkept, Dev.link_noteTags]
  refine ⟨(hcarries.keeps (·.ops) fun _ => rfl).trans hset, ?_⟩
  exact ((linked_noteTags _).fld (by decide) (by decide)).trans ((hlinked.fld (by decide) (by decide)).trans hcount)

theorem opResponse_ends (hout : s.dev.outbox = []) {pk : Packet} (hpk : pk.tag = tag.toNat) (hsrc : o.dest = pk.src) :
    s.dev.opResponse pk =
      (s.dev.setLink (s.dev.link.ended (o.answered pk) (o.heldAfter s.dev.link.heldTags))).noteTags.noteTags := by
  have hset : (s.dev.setOp 0 (o.answered pk)).link.ops = [o.answered pk] := by simp [Dev.setOp, hops]
  have hended : s.dev.endOp 0 o (some pk) =
      (s.dev.setLink (s.dev.link.ended (o.answered pk) (o.heldAfter s.dev.link.heldTags))).noteTags := by
    unfold Dev.endOp
    rcases hagain : o.attempt != 0
    · have hpassed := Dev.passDone_lone hset hdone rfl
      simp only [hagain, Operation.heldAfter]
      exact congrArg Dev.noteTags hpassed
    · have hpassed := Dev.passDone_lone (d := (s.dev.setOp 0 (o.answered pk)).setLink
        { (s.dev.setOp 0 (o.answered pk)).link with heldTags := s.dev.link.heldTags ++ [o.tag.getD 0] }) hset hdone rfl
      simp only [hagain, Operation.heldAfter]
      exact congrArg Dev.noteTags hpassed
  have hfound : s.dev.opResponse pk = (s.dev.endOp 0 o (some pk)).issueOps := by
    unfold Dev.opResponse
    simp [hops, htag, hopen, hpk, hsrc, List.findIdx?_cons]
  rw [hfound, hended]
  exact Dev.issueOps_none hout (by rw [Dev.link_noteTags]; rfl)

/-- The response ends the lone operation, which is then handed to its requester. -/
theorem responseFrom_takesDone (hout : s.dev.outbox = []) {src : Nat} {payload : List Word} {pk : Packet}
    (hpk : pk = ⟨1, false, false, 2, s.dev.ownXY, src, tag.toNat, 0, payload⟩) (hsrc : o.dest = src) : ∃ e : Dev,
      e.link = { s.dev.link with ops := [], done := [], heldTags := o.heldAfter s.dev.link.heldTags } ∧ e.surf = s.dev.surf ∧
      s.dev.responseFrom src tag.toNat payload = (e.takeDone (o.answered pk)).settle 127 := by
  have hresponse := opResponse_ends hdone hops htag hopen hout (pk := pk) (by rw [hpk]) (by rw [hpk]; exact hsrc)
  have htaken : s.dev.responseFrom src tag.toNat payload = (s.dev.opResponse pk).settle 128 := by rw [hpk]; rfl
  generalize hended : s.dev.setLink (s.dev.link.ended (o.answered pk) (o.heldAfter s.dev.link.heldTags)) = x at *
  have hlink : x.noteTags.noteTags.link = s.dev.link.ended (o.answered pk) (o.heldAfter s.dev.link.heldTags) := by
    rw [Dev.link_noteTags, Dev.link_noteTags, ← hended]
    rfl
  refine ⟨x.noteTags.noteTags.setLink { x.noteTags.noteTags.link with done := [] }, ?_, ?_, ?_⟩
  · rw [hlink]
    rfl
  · rw [← hended]
    rfl
  · rw [htaken, hresponse, Dev.settle, hlink]
    rfl

theorem operationResponse_ends (hout : s.dev.outbox = []) {src : BitVec 10} (hsrc : o.dest = src.toNat) (payload : List Word)
    (hreq : o.requester = 0) : Completes (.operationResponse src tag payload) s fun t =>
      t.link.ops = [] ∧ t.link.done = [] ∧ t.link.heldTags = o.heldAfter s.dev.link.heldTags := by
  refine completes_of (f := fun d => d.responseFrom src.toNat tag.toNat payload) rfl ?_
  obtain ⟨e, hlink, -, heq⟩ := responseFrom_takesDone hdone hops htag hopen hout (payload := payload) rfl hsrc
  have hhier : ∀ pk, e.takeDone (o.answered pk) = e := by
    intro pk
    simp [Dev.takeDone, Dev.hierDone, Operation.answered, hreq]
  rw [heq, hhier, Dev.settle_idle (by rw [hlink]), hlink]
  exact ⟨rfl, rfl, rfl⟩

theorem remoteResp_takesWindowDone (hout : s.dev.outbox = []) {src : BitVec 10} (hsrc : o.dest = src.toNat) (value : Word)
    (hreq : o.requester = 1) (hremote : remoteOp o = true) : Completes (.remoteResp src tag value) s fun t => ∃ e : Dev,
      e.link.ops = [] ∧ e.link.done = [] ∧ e.link.heldTags = o.heldAfter s.dev.link.heldTags ∧ e.surf = s.dev.surf ∧
      t = (e.windowDone { o with
        result := some (some ⟨1, false, false, 2, s.dev.ownXY, src.toNat, tag.toNat, 0,
        [word (msgRemoteResp * 65536), 0, value]⟩) }).settle 127 := by
  refine completes_of (f := fun d => d.responseFrom src.toNat tag.toNat [word (msgRemoteResp * 65536), 0, value]) rfl ?_
  obtain ⟨e, hlink, hsurf, heq⟩ := responseFrom_takesDone hdone hops htag hopen hout
    (payload := [word (msgRemoteResp * 65536), 0, value]) rfl hsrc
  have hwindow : ∀ pk, e.takeDone (o.answered pk) = e.windowDone { o with result := some (some pk) } := by
    intro pk
    have hkind : remoteOp (o.answered pk) = true := hremote
    have hwho : (o.answered pk).requester = 1 := hreq
    unfold Dev.takeDone
    rw [hwho, hkind]
    rfl
  rw [hwindow] at heq
  exact ⟨e, by rw [hlink], by rw [hlink], by rw [hlink], hsurf, heq⟩

end

/-- The two-wire host's remote access ends: its data is kept and nothing waits for it. -/
theorem Dev.link_windowDone {pk : Packet} (hreq : o.requester = 1) (hres : o.result = some (some pk)) :
    (d.windowDone o).link = d.link := by
  have hdone : d.windowDone o = d.remoteDone o := by simp [Dev.windowDone, hres, hreq]
  rw [hdone]
  unfold Dev.remoteDone
  simp only [hres]
  split
  · rfl
  · rfl

theorem remoteResp_ends {tag : BitVec 6} (hdone : s.dev.link.done = []) (hops : s.dev.link.ops = [o])
    (htag : o.tag = some tag.toNat) (hopen : o.result = none) (hout : s.dev.outbox = []) {src : BitVec 10}
    (hsrc : o.dest = src.toNat) (value : Word) (hreq : o.requester = 1) (hremote : remoteOp o = true) :
    Completes (.remoteResp src tag value) s fun t => t.link.ops = [] := by
  refine (remoteResp_takesWindowDone hdone hops htag hopen hout hsrc value hreq hremote).mono ?_
  rintro t ⟨e, hops', hdone', -, -, rfl⟩
  have hlink := Dev.link_windowDone (d := e) (o := { o with result := some (some ⟨1, false, false, 2, s.dev.ownXY, src.toNat,
    tag.toNat, 0, [word (msgRemoteResp * 65536), 0, value]⟩) }) hreq rfl
  rw [Dev.settle_idle (by rw [hlink]; exact hdone'), hlink]
  exact hops'

/-- A response to no operation is discarded and counted. -/
theorem operationResponse_discarded (hdone : s.dev.link.done = []) (hops : s.dev.link.ops = []) (tag : BitVec 6) (src : BitVec 10)
    (payload : List Word) : Completes (.operationResponse src tag payload) s fun t =>
      t.fld EGL_OPS_DUPRESP = min (s.dev.fld EGL_OPS_DUPRESP + 1) (2 ^ EGL_OPS_DUPRESP.width - 1) ∧ t.link = s.dev.link ∧
      s.dev.leaves t [EGL_OPS_DUPRESP.addr] := by
  refine completes_of (f := fun d => d.responseFrom src.toNat tag.toNat payload) rfl ?_
  have hcounted : ∀ pk, s.dev.opResponse pk = s.dev.bump EGL_OPS_DUPRESP := by
    intro pk
    simp [Dev.opResponse, hops]
  have heq : s.dev.responseFrom src.toNat tag.toNat payload = s.dev.bump EGL_OPS_DUPRESP := by
    unfold Dev.responseFrom
    rw [hcounted]
    exact Dev.settle_idle (d := s.dev.bump EGL_OPS_DUPRESP) hdone 128
  rw [heq]
  exact ⟨Dev.fld_bump_same _ _ (by decide), rfl, leaves_bump (s.dev.leaves_refl _) (by decide)⟩

theorem tagReturn_frees (tag : BitVec 6) : Completes (.tagReturn tag) s fun t =>
    t.link.heldTags = s.dev.link.heldTags.erase tag.toNat ∧ (s.dev.outbox = [] → s.dev.link.ops = [] → t.link.ops = []) := by
  refine completes_of (f := fun d => d.tagReturn tag.toNat) rfl ?_
  refine ⟨(movesOps_issueOps _).keeps (·.heldTags) fun _ => rfl, fun hout hops => ?_⟩
  have hnone := Dev.issueOps_none (d := s.dev.setLink { s.dev.link with heldTags := s.dev.link.heldTags.erase tag.toNat }) hout hops
  unfold Dev.tagReturn
  rw [hnone, Dev.link_noteTags]
  exact hops

end Sys2Proof.Machine
end

section
/-!
SUPPORT. Requests, their answers and the remote window (R568 to R570, R600, R619).
-/

namespace Sys2Proof.Machine

variable {d : Dev} {s : State}

/-! The duplicate cache (R619). -/

theorem requestDelivery_fromCache {h : Nat × Packet} {rest : List (Nat × Packet)} {e : Nat × Packet}
    (hin : s.dev.link.inbox = h :: rest) (hcls : h.2.cls = 1) (hretry : wGet (h.2.payload.getD 0 0) 8 2 ≠ 0)
    (hfind : (s.dev.link.cache.find? fun c => c.1 == cacheKey h.2) = some e) (flips : List (List (BitVec 5))) :
    Completes (.requestDelivery flips) s fun t => ∃ x : Dev, x.link = { s.dev.link with inbox := rest } ∧ s.dev.leaves x [] ∧
      t = x.respond h.2.src h.2.tag e.2.type (cachedWords e.2 h.2) := by
  refine completes_of (f := fun d => d.deliverOldest flips) rfl ?_
  refine ⟨s.dev.setLink { s.dev.link with inbox := rest }, rfl, leaves_of (s.dev.leaves_refl _) rfl rfl rfl rfl, ?_⟩
  have hfind' : ((s.dev.setLink { s.dev.link with inbox := rest }).link.cache.find? fun c => c.1 == cacheKey h.2) = some e := hfind
  simp only [Dev.deliverOldest, hin]
  generalize s.dev.setLink { s.dev.link with inbox := rest } = x at *
  simp only [Dev.takePacket, hcls, Dev.takeRequest, if_neg hretry, hfind']
  rfl

theorem duplicateCacheExpiry_drops {e : Nat × Packet} {rest : List (Nat × Packet)} (hcache : s.dev.link.cache = e :: rest) :
    Completes .duplicateCacheExpiry s fun t => t.link.cache = rest ∧
      t.link.cacheGone = s.dev.link.cacheGone ++ [e.1] ∧ s.dev.leaves t [] := by
  refine completes_of (f := Dev.cacheExpiry) rfl ?_
  have hdropped : s.dev.cacheExpiry =
      s.dev.setLink { s.dev.link with cache := rest, cacheGone := s.dev.link.cacheGone ++ [e.1] } := by
    unfold Dev.cacheExpiry
    rw [hcache]
  rw [hdropped]
  exact ⟨rfl, rfl, leaves_of (s.dev.leaves_refl _) rfl rfl rfl rfl⟩

/-! PING (R600). -/

theorem Dev.remember_eq (d : Dev) (key : Nat) (resp : Packet) : ∃ cache gone,
    d.remember key resp = d.setLink { d.link with cache := cache, cacheGone := gone } := by
  unfold Dev.remember
  extract_lets cache gone
  split
  · exact ⟨_, _, rfl⟩
  · exact ⟨_, _, rfl⟩

theorem Dev.ownXY_remember (d : Dev) (key : Nat) (resp : Packet) : (d.remember key resp).ownXY = d.ownXY := by
  obtain ⟨cache, gone, heq⟩ := d.remember_eq key resp
  rw [heq]
  rfl

theorem Dev.txFlow_remember (d : Dev) (key : Nat) (resp : Packet) : (d.remember key resp).link.txFlow = d.link.txFlow := by
  obtain ⟨cache, gone, heq⟩ := d.remember_eq key resp
  rw [heq]
  rfl

theorem Dev.inbox_remember (d : Dev) (key : Nat) (resp : Packet) : (d.remember key resp).link.inbox = d.link.inbox := by
  obtain ⟨cache, gone, heq⟩ := d.remember_eq key resp
  rw [heq]
  rfl

/-- A packet that is no JOIN takes its flow's next number (R609). -/
theorem Dev.txFlow_launch (d : Dev) {pk : Packet} (h : pk.type ≠ 1) : keyGet (d.launch pk).link.txFlow (flowKey pk.dest pk.cls) =
    (keyGet d.link.txFlow (flowKey pk.dest pk.cls) + 1) % 256 := by
  have hjoin : ¬ (pk.type = 1 ∧ pk.code = msgJoin ∧ pk.cls = 1) := fun hj => h hj.1
  unfold Dev.launch
  extract_lets key n pk' _ x
  have hn : n = keyGet d.link.txFlow key := if_neg hjoin
  have hx : keyGet x.link.txFlow key = (keyGet d.link.txFlow key + 1) % 256 := by
    rw [← hn]
    exact keyGet_keySet ..
  have hother : ¬ pk'.isJoin := fun hj => h hj.1
  split
  · exact (congrArg (keyGet · key) ((moves_arrive x 4 hother).keeps (·.txFlow) fun _ => rfl)).trans hx
  · exact (congrArg (keyGet · key) ((moves_routePacket x 4 pk').keeps (·.txFlow) fun _ => rfl)).trans hx

/-- A PING is answered with its word, and the echo joins the duplicate cache. -/
theorem Dev.takeRequest_ping {pk : Packet} (htype : pk.type = 6) (hfirst : wGet (pk.payload.getD 0 0) 8 2 = 0)
    (flips : List (List (BitVec 5))) : d.takeRequest pk flips =
      (d.remember (cacheKey pk) ⟨6, false, false, 2, pk.src, d.ownXY, pk.tag, 0, [pk.payload.getD 0 0]⟩).respond pk.src pk.tag 6
        [pk.payload.getD 0 0] := by
  unfold Dev.takeRequest
  rw [if_pos hfirst]
  simp [Dev.serve, htype, Dev.answerWith]

/-- The PING request of a word, as it is delivered. -/
def Dev.pingOf (d : Dev) (src tag : Nat) (w : Word) : Packet := ⟨6, false, false, 1, d.ownXY, src, tag, 0, [w]⟩

theorem completes_ping {src : BitVec 10} {tag : BitVec 6} {w : Word} (hfirst : wGet w 8 2 = 0) {P : Dev → Prop}
    (h : P ((s.dev.remember (src.toNat * 64 + tag.toNat)
      ⟨6, false, false, 2, src.toNat, s.dev.ownXY, tag.toNat, 0, [w]⟩).respond src.toNat tag.toNat 6 [w])) :
    Completes (.ping src tag w) s P := by
  refine completes_of (f := fun d => d.takeRequest (d.pingOf src.toNat tag.toNat w) []) rfl ?_
  have hanswer := Dev.takeRequest_ping (d := s.dev) (pk := s.dev.pingOf src.toNat tag.toNat w) rfl hfirst []
  exact hanswer ▸ h

theorem ping_answers {src : BitVec 10} {tag : BitVec 6} {w : Word} {echo : Packet}
    (hecho : echo = ⟨6, false, false, 2, src.toNat, s.dev.ownXY, tag.toNat, 0, [w]⟩) (hfirst : wGet w 8 2 = 0) :
    Completes (.ping src tag w) s fun t => t = (s.dev.remember (src.toNat * 64 + tag.toNat) echo).launch echo ∧
      keyGet t.link.txFlow (flowKey src.toNat 2) = (keyGet s.dev.link.txFlow (flowKey src.toNat 2) + 1) % 256 := by
  have hflow := Dev.txFlow_launch (s.dev.remember (src.toNat * 64 + tag.toNat) echo) (pk := echo) (by rw [hecho]; simp)
  have hsrc : flowKey echo.dest echo.cls = flowKey src.toNat 2 := by rw [hecho]
  rw [Dev.txFlow_remember, hsrc] at hflow
  refine completes_ping hfirst ?_
  rw [Dev.respond, Dev.ownXY_remember, ← hecho]
  exact ⟨rfl, hflow⟩

theorem ping_responds {src : BitVec 10} {tag : BitVec 6} {w : Word} (hfirst : wGet w 8 2 = 0) :
    Completes (.ping src tag w) s fun t => ∃ e : Dev, t = e.respond src.toNat tag.toNat 6 [w] :=
  completes_ping hfirst ⟨_, rfl⟩

theorem requestDelivery_ping {h : Nat × Packet} {rest : List (Nat × Packet)} (hin : s.dev.link.inbox = h :: rest)
    (hcls : h.2.cls = 1) (htype : h.2.type = 6) (hfirst : wGet (h.2.payload.getD 0 0) 8 2 = 0)
    (flips : List (List (BitVec 5))) : Completes (.requestDelivery flips) s fun t => ∃ e : Dev, e.link.inbox = rest ∧
      t = e.respond h.2.src h.2.tag 6 [h.2.payload.getD 0 0] := by
  refine completes_of (f := fun d => d.deliverOldest flips) rfl ?_
  have htaken : s.dev.deliverOldest flips = (s.dev.setLink { s.dev.link with inbox := rest }).takeRequest h.2 flips := by
    simp [Dev.deliverOldest, hin, Dev.takePacket, hcls]
  exact ⟨_, Dev.inbox_remember .., htaken.trans (Dev.takeRequest_ping htype hfirst flips)⟩

/-! Accesses that a manager forwards to a worker (R569). -/

theorem word_addr (addr : BitVec 16) : (word addr.toNat).toNat % 65536 = addr.toNat := by
  simp only [word, BitVec.toNat_ofNat]
  omega

theorem remoteRd_answers (hworker : s.dev.isWorker = true) (src : BitVec 10) (tag : BitVec 6) (addr : BitVec 16) :
    Completes (.remoteRd src tag addr) s fun t => t = (s.dev.readLocal .remote addr.toNat []).2.respond src.toNat tag.toNat 1
      [word (msgRemoteResp * 65536), word addr.toNat, (s.dev.readLocal .remote addr.toNat []).1] := by
  refine completes_of (f := fun d => if d.isWorker then
      (d.remoteRdMsg [word addr.toNat]).2.respond src.toNat tag.toNat 1 (d.remoteRdMsg [word addr.toNat]).1 else d) rfl ?_
  have haddr : ([word addr.toNat].getD 0 0).toNat % 65536 = addr.toNat := word_addr addr
  simp only [hworker, if_true, Dev.remoteRdMsg, haddr]

theorem remoteWr_answers (hworker : s.dev.isWorker = true) (src : BitVec 10) (tag : BitVec 6) (addr : BitVec 16) (value : Word) :
    Completes (.remoteWr src tag addr value) s fun t =>
      t = (s.dev.writeLocal .remote addr.toNat value).respond src.toNat tag.toNat 1
        [word (msgRemoteResp * 65536), word addr.toNat, 0] := by
  refine completes_of (f := fun d => if d.isWorker then
    (d.remoteWrMsg [word addr.toNat, value]).2.respond src.toNat tag.toNat 1 (d.remoteWrMsg [word addr.toNat, value]).1
      else d) rfl ?_
  have haddr : ([word addr.toNat, value].getD 0 0).toNat % 65536 = addr.toNat := word_addr addr
  simp only [hworker, if_true, Dev.remoteWrMsg, haddr]
  rfl

/-- A forwarded read of TIME_SET_FRAC, as of any register with no side of its own, changes nothing (R17). -/
theorem Dev.readLocal_timeSetFrac (hawake : d.asleep = false) (hwake : d.modes.waking = false) :
    d.readLocal .remote TIME_SET_FRAC [] = (d.regWord .remote TIME_SET_FRAC, d) := by
  have haddr : d.localAddr (TIME_SET_FRAC % 65536) = TIME_SET_FRAC :=
    Dev.localAddr_of_not_inWindow (addr := 0x0208#16) (Dev.inWindow_of_register (by decide))
  have hdefined : regDefined TIME_SET_FRAC = true := by decide
  have hnear : d.notAwake TIME_SET_FRAC = false := by simp [Dev.notAwake, hwake]
  have hafter : d.afterRead .remote TIME_SET_FRAC = d := by
    unfold Dev.afterRead
    rw [if_neg (by decide)]
    exact if_neg (by simp)
  have hread : d.readReg .remote TIME_SET_FRAC = (d.regWord .remote TIME_SET_FRAC, d) := by
    rw [Dev.readReg, if_neg (by rw [hdefined]; decide), hnear]
    exact Prod.ext rfl hafter
  rw [Dev.readLocal, haddr, hawake]
  exact hread

theorem remoteRd_timeSetFrac (hworker : s.dev.isWorker = true) (hawake : s.dev.asleep = false) (hwake : s.dev.modes.waking = false)
    (src : BitVec 10) (tag : BitVec 6) : Completes (.remoteRd src tag 0x0208) s fun t => t = s.dev.respond src.toNat tag.toNat 1
      [word (msgRemoteResp * 65536), 0x0208, s.dev.regWord .remote 0x0208] := by
  refine (remoteRd_answers hworker src tag 0x0208).mono fun t ht => ?_
  have hread : s.dev.readLocal .remote (0x0208 : BitVec 16).toNat [] = _ := Dev.readLocal_timeSetFrac hawake hwake
  rw [hread] at ht
  exact ht

theorem remoteWr_timeSetSech (hworker : s.dev.isWorker = true) (hawake : s.dev.asleep = false) (src : BitVec 10) (tag : BitVec 6)
    (value : Word) : Completes (.remoteWr src tag 0x020A value) s fun t => ∃ e : Dev,
      e.reg 0x020A = (s.dev.reg 0x020A &&& ~~~ rwMask 0x020A) ||| (value &&& rwMask 0x020A) ∧ s.dev.leaves e [0x020A] ∧
      t = e.respond src.toNat tag.toNat 1 [word (msgRemoteResp * 65536), 0x020A, 0] := by
  refine (remoteWr_answers hworker src tag 0x020A value).mono fun t ht => ?_
  have hstored : s.dev.writeLocal .remote (0x020A : BitVec 16).toNat value = s.dev.storeReg TIME_SET_SECH value :=
    (Dev.writeHost_eq_writeLocal .remote value (Dev.inWindow_of_register (by decide))).symm.trans
      (Dev.writeHost_timeSetSech .remote value hawake)
  rw [hstored] at ht
  refine ⟨s.dev.storeReg TIME_SET_SECH value, ?_, leaves_storeReg (s.dev.leaves_refl _) (by decide), ht⟩
  have hw1c : w1cMask TIME_SET_SECH = 0#24 := by decide
  rw [Dev.storeReg, Dev.reg_setReg, if_pos rfl, hw1c, BitVec.zero_and]
  exact congrArg (· ||| (value &&& rwMask TIME_SET_SECH)) BitVec.and_allOnes

/-! The remote window (R568 to R570). -/

/-- The words that ask another tile for an access. -/
def accessWords (addr : Nat) : Option Word → List Word
  | none => [word (msgRemoteRd * 65536), word addr]
  | some v => [word (msgRemoteWr * 65536), word addr, v]

/-- The operation that a requester's remote access begins. -/
def Dev.accessOp (d : Dev) (rq : Requester) (addr : Nat) (write : Option Word) : Operation :=
  ⟨rqCode rq, d.remoteXY rq, ⟨1, false, false, 1, d.remoteXY rq, d.ownXY, 0, 0, accessWords addr write⟩, none, 4, 0, false, false, none⟩

/-- What a remote access to a joined tile issues. -/
theorem Dev.remoteIssue_joined {rq : Requester} (hjoined : d.hasJoined (d.remoteXY rq) = true) (addr : Nat) (write : Option Word) :
    ∃ e : Dev, d.remoteIssue rq addr write = e.issueOps.notePend ∧ e.outbox = d.outbox ∧
      e.link.ops = d.link.ops ++ [d.accessOp rq addr write] ∧
      e.fld EGL_RCNT_OPS = min (d.fld EGL_RCNT_OPS + 1) (2 ^ EGL_RCNT_OPS.width - 1) := by
  have hown : (d.bump EGL_RCNT_OPS).ownXY = d.ownXY := by
    unfold Dev.ownXY
    rw [Dev.fld_bump_apart d (by decide) (by decide), Dev.fld_bump_apart d (by decide) (by decide)]
  have hstill : (d.bump EGL_RCNT_OPS).hasJoined (d.remoteXY rq) = true := hjoined
  refine ⟨(d.bump EGL_RCNT_OPS).newOp (rqCode rq) 1 (d.remoteXY rq) (accessWords addr write), ?_, rfl, ?_,
    Dev.fld_bump_same _ _ (by decide)⟩
  · cases write
    · exact if_pos hstill
    · exact if_pos hstill
  · rw [Dev.accessOp, ← hown]
    rfl

/-- A remote access to a tile that has not joined fails at once. -/
theorem Dev.remoteIssue_fails {rq : Requester} (hjoined : d.hasJoined (d.remoteXY rq) = false) (addr : Nat) (write : Option Word) :
    d.remoteIssue rq addr write = ((d.bump EGL_RCNT_OPS).setRemoteData rq 0).remoteFail (d.remoteXY rq) addr 1 := by
  have hstill : ¬ (d.bump EGL_RCNT_OPS).hasJoined (d.remoteXY rq) = true := by
    intro h
    exact absurd (h.symm.trans hjoined) (by decide)
  exact if_neg hstill

theorem Dev.remoteFail_shows (d : Dev) (xy : Nat) {addr : Nat} (haddr : addr < 65536) : (d.remoteFail xy addr 1).fld EGL_RSTAT_ERR = 1 ∧
    (d.remoteFail xy addr 1).fld EGL_RSTAT_ADDR = addr ∧
    (d.remoteFail xy addr 1).fld EGL_RCNT_FAIL = min (d.fld EGL_RCNT_FAIL + 1) (2 ^ EGL_RCNT_FAIL.width - 1) := by
  unfold Dev.remoteFail
  simp only [Dev.ring_fld (f := EGL_RSTAT_ERR) (by decide), Dev.ring_fld (f := EGL_RSTAT_ADDR) (by decide),
    Dev.ring_fld (f := EGL_RCNT_FAIL) (by decide)]
  refine ⟨?_, ?_, ?_⟩
  · rw [Dev.fld_bump_apart _ (by decide) (by decide), Dev.fld_setFld_apart _ _ (by decide) (by decide),
      Dev.fld_setFld_same _ _ _ (by decide)]
    rfl
  · rw [Dev.fld_bump_apart _ (by decide) (by decide), Dev.fld_setFld_same _ _ _ (by decide)]
    exact Nat.mod_eq_of_lt haddr
  · rw [Dev.fld_bump_same _ _ (by decide), Dev.fld_setFld_apart _ _ (by decide) (by decide),
      Dev.fld_setFld_apart _ _ (by decide) (by decide)]

section

variable {rq : Requester} {addr : BitVec 16} (hawake : s.dev.asleep = false) (hman : s.dev.isManager = true)
  (hreg : addr.toNat < 0x2000) (hxy : s.dev.remoteXY rq ≠ 0)
include hawake hman hreg hxy

theorem remoteAccess_goes : s.dev.asleep = false ∧ s.dev.goesRemote rq (0x2000 + addr.toNat) = true := by
  refine ⟨hawake, ?_⟩
  unfold Dev.goesRemote Dev.inWindow
  simp only [hman, Bool.true_and, Bool.and_eq_true, decide_eq_true_eq, bne_iff_ne, ne_eq]
  exact ⟨⟨by omega, by omega⟩, hxy⟩

theorem completes_remoteWindowRead {P : Dev → Prop} (h : P (s.dev.remoteIssue rq addr.toNat none)) :
    Completes (.remoteWindowRead rq addr) s P := by
  refine completes_of (f := fun d => if addr.toNat < 0x2000 then (d.readHost rq (0x2000 + addr.toNat)).2 else d) rfl ?_
  rw [if_pos hreg, Dev.readHost, if_pos (remoteAccess_goes hawake hman hreg hxy), Nat.add_sub_cancel_left]
  exact h

theorem completes_remoteWindowWrite {value : Word} {P : Dev → Prop} (h : P (s.dev.remoteIssue rq addr.toNat (some value))) :
    Completes (.remoteWindowWrite rq addr value) s P := by
  refine completes_of (f := fun d => if addr.toNat < 0x2000 then d.writeHost rq (0x2000 + addr.toNat) value else d) rfl ?_
  rw [if_pos hreg, Dev.writeHost, if_pos (remoteAccess_goes hawake hman hreg hxy), Nat.add_sub_cancel_left]
  exact h

/-- Either access of the remote window issues its operation. -/
theorem completes_remoteWindow {value : Word} {c : Instr} {P : Dev → Prop}
    (hc : c = .remoteWindowRead rq addr ∨ c = .remoteWindowWrite rq addr value)
    (h : ∀ write, P (s.dev.remoteIssue rq addr.toNat write)) : Completes c s P := by
  rcases hc with rfl | rfl
  · exact completes_remoteWindowRead hawake hman hreg hxy (h _)
  · exact completes_remoteWindowWrite hawake hman hreg hxy (h _)

theorem remoteWindow_fails {value : Word} {c : Instr} (hc : c = .remoteWindowRead rq addr ∨ c = .remoteWindowWrite rq addr value)
    (hjoined : s.dev.hasJoined (s.dev.remoteXY rq) = false) : Completes c s fun t => t.fld EGL_RSTAT_ERR = 1 ∧
      t.fld EGL_RSTAT_ADDR = addr.toNat % 2 ^ EGL_RSTAT_ADDR.width ∧
      t.fld EGL_RCNT_FAIL = min (s.dev.fld EGL_RCNT_FAIL + 1) (2 ^ EGL_RCNT_FAIL.width - 1) ∧ t.link = s.dev.link ∧
      s.dev.rang t 187 (word addr.toNat) (pack [(1, 12), (s.dev.remoteXY rq, 0)]) ∧
      s.dev.leavesRing t [EGL_RSTAT, EGL_RCNT] := by
  refine completes_remoteWindow hawake hman hreg hxy hc fun write => ?_
  rw [Dev.remoteIssue_fails hjoined]
  obtain ⟨herr, hshown, hfail⟩ := Dev.remoteFail_shows ((s.dev.bump EGL_RCNT_OPS).setRemoteData rq 0) (s.dev.remoteXY rq)
    (Nat.lt_trans hreg (by decide))
  have hcounted : s.dev.leaves ((s.dev.bump EGL_RCNT_OPS).setRemoteData rq 0) [EGL_RSTAT, EGL_RCNT] :=
    leaves_of (leaves_bump (f := EGL_RCNT_OPS) (s.dev.leaves_refl _) (by decide)) rfl rfl rfl rfl
  refine ⟨herr, hshown.trans (Nat.mod_eq_of_lt (Nat.lt_trans hreg (by decide))).symm, hfail.trans ?_, Dev.ring_link .., ?_, ?_⟩
  · exact congrArg (fun n => min (n + 1) (2 ^ EGL_RCNT_FAIL.width - 1)) (Dev.fld_bump_apart s.dev (by decide) (by decide))
  · unfold Dev.remoteFail
    refine rang_ring ?_ ..
    rfl
  · exact leavesRing_ring (leavesRing_of_leaves (leaves_bump (leaves_setFld (leaves_setFld hcounted (by decide)) (by decide))
      (by decide))) ..

theorem remoteWindow_counts {value : Word} {c : Instr} (hc : c = .remoteWindowRead rq addr ∨ c = .remoteWindowWrite rq addr value)
    (hjoined : s.dev.hasJoined (s.dev.remoteXY rq) = true) : Completes c s fun t =>
      t.fld EGL_RCNT_OPS = min (s.dev.fld EGL_RCNT_OPS + 1) (2 ^ EGL_RCNT_OPS.width - 1) := by
  refine completes_remoteWindow hawake hman hreg hxy hc fun write => ?_
  obtain ⟨e, heq, -, -, hcount⟩ := Dev.remoteIssue_joined hjoined addr.toNat write
  rw [heq]
  exact (Dev.fld_setFlag_apart _ _ (by decide) (by decide)).trans (((linked_issueOps e).fld (by decide) (by decide)).trans hcount)

end

end Sys2Proof.Machine
end

section
/-!
SUPPORT. O38: frames, acknowledgements, operations and the remote window (R568, R569, R601 to R619).
-/

namespace Sys2Proof.Machine

variable {s : State}

/-- A command has one next state, so two statements about it hold of the same state. -/
theorem Completes.and {c : Instr} {P Q : Dev → Prop} (h : Completes c s P) (g : Completes c s Q) : Completes c s fun t => P t ∧ Q t := by
  obtain ⟨t, hrun, hP⟩ := h
  obtain ⟨u, hrun', hQ⟩ := g
  obtain rfl : t = u := by simpa using hrun.symm.trans hrun'
  exact ⟨t, hrun, hP, hQ⟩

/-- R569, R600, R617: what a lone operation's response does, and what its requester gets. -/
theorem loneOperation_ends {o : Operation} {tag : BitVec 6} {src : BitVec 10} (hout : s.dev.outbox = [])
    (hdone : s.dev.link.done = []) (hops : s.dev.link.ops = [o]) (htag : o.tag = some tag.toNat) (hopen : o.result = none)
    (hfirst : o.attempt = 0) (hsrc : o.dest = src.toNat) :
    (∀ payload, o.requester = 0 → Completes (.operationResponse src tag payload) s fun t => t.link.ops = [] ∧
      t.link.done = [] ∧ t.link.heldTags = s.dev.link.heldTags) ∧
    (∀ value : Word, o.requester = 1 → remoteOp o = true → Completes (.remoteResp src tag value) s fun t => ∃ e : Dev,
      e.link.ops = [] ∧ e.link.done = [] ∧ e.link.heldTags = s.dev.link.heldTags ∧ e.surf = s.dev.surf ∧
      t = (e.windowDone { o with
        result := some (some ⟨1, false, false, 2, s.dev.ownXY, src.toNat, tag.toNat, 0,
        [word (msgRemoteResp * 65536), 0, value]⟩) }).settle 127) := by
  have hheld : o.heldAfter s.dev.link.heldTags = s.dev.link.heldTags := by simp [Operation.heldAfter, hfirst]
  refine ⟨fun payload hreq => ?_, fun value hreq hremote => ?_⟩
  · have hends := operationResponse_ends hdone hops htag hopen hout hsrc payload hreq
    rwa [hheld] at hends
  · have hends := remoteResp_takesWindowDone hdone hops htag hopen hout hsrc value hreq hremote
    rwa [hheld] at hends

/-- R568, R569: what the remote window of a manager does. -/
theorem remoteWindow_goes {rq : Requester} {addr : BitVec 16} {xy : Nat} (hawake : s.dev.asleep = false)
    (hman : s.dev.isManager = true) (hreg : addr.toNat < 0x2000) (hrq : s.dev.remoteXY rq = xy) (hxy : xy ≠ 0)
    (hjoined : s.dev.hasJoined xy = true) :
    (Completes (.remoteWindowRead rq addr) s fun t => ∃ e : Dev, t = e.issueOps.notePend ∧ e.outbox = s.dev.outbox ∧
      e.link.ops = s.dev.link.ops ++ [⟨rqCode rq, xy, ⟨1, false, false, 1, xy, s.dev.ownXY, 0, 0,
        [word (msgRemoteRd * 65536), word addr.toNat]⟩, none, 4, 0, false, false, none⟩] ∧
      e.fld EGL_RCNT_OPS = min (s.dev.fld EGL_RCNT_OPS + 1) (2 ^ EGL_RCNT_OPS.width - 1)) ∧
    (∀ value, Completes (.remoteWindowWrite rq addr value) s fun t => ∃ e : Dev, t = e.issueOps.notePend ∧
      e.outbox = s.dev.outbox ∧
      e.link.ops = s.dev.link.ops ++ [⟨rqCode rq, xy, ⟨1, false, false, 1, xy, s.dev.ownXY, 0, 0,
        [word (msgRemoteWr * 65536), word addr.toNat, value]⟩, none, 4, 0, false, false, none⟩] ∧
      e.fld EGL_RCNT_OPS = min (s.dev.fld EGL_RCNT_OPS + 1) (2 ^ EGL_RCNT_OPS.width - 1)) := by
  subst hrq
  exact ⟨completes_remoteWindowRead hawake hman hreg hxy (Dev.remoteIssue_joined hjoined addr.toNat none),
    fun value => completes_remoteWindowWrite hawake hman hreg hxy (Dev.remoteIssue_joined hjoined addr.toNat (some value))⟩

section

variable {port : BitVec 2} {p : Nat} (hp : port.toNat = p) (hlen : s.dev.link.ports.length = 4) (hup : s.dev.isUp p = true)
  (hplain : s.dev.plainly)
include hp hlen hup hplain

/-- R601 to R603: what a received frame, an acknowledgement and a time-out do at a port that is up. -/
theorem portUp_acts :
    (∀ (seq : BitVec 4) w0 w1 payload, Completes (.sequencedFrame port seq false w0 w1 payload) s fun t =>
      t.fld (EGL_PCNT_CRCERR p) = min (s.dev.fld (EGL_PCNT_CRCERR p) + 1) (2 ^ (EGL_PCNT_CRCERR p).width - 1) ∧
      (t.port p).rxSeq = (s.dev.port p).rxSeq ∧ (t.port p).nakked = true ∧ s.dev.leaves t [(EGL_PCNT_CRCERR p).addr]) ∧
    (∀ (seq : BitVec 4) w0 w1 payload, (seq.toNat + 16 - (s.dev.port p).rxSeq) % 16 ∈ [1, 2, 3, 4, 5, 6, 7] →
      Completes (.sequencedFrame port seq true w0 w1 payload) s fun t => (t.port p).rxSeq = (s.dev.port p).rxSeq ∧
        (t.port p).nakked = true ∧ s.dev.leaves t []) ∧
    (∀ (seq : BitVec 4) w0 w1 payload, (seq.toNat + 16 - (s.dev.port p).rxSeq) % 16 = 0 → s.dev.inHeld p < 16 →
      Completes (.sequencedFrame port seq true w0 w1 payload) s fun t =>
        (t.port p).rxSeq = ((s.dev.port p).rxSeq + 1) % 16 ∧ (t.port p).nakked = false) ∧
    (∀ b : Byte, (s.dev.port p).queue = [] → Completes (.ack port b) s fun t =>
      (t.port p).window = dropAcked (s.dev.port p).window (b.toNat % 16) ∧ (t.port p).credit = b.toNat / 16 ∧
      t.fld (EGL_PINFL_FREE p) = b.toNat / 16) ∧
    (∀ b : Byte, ((s.dev.port p).window.any fun f => f.1 == b.toNat % 16) = true → (s.dev.port p).rounds < 16 →
      Completes (.nak port b) s fun t => (t.port p).window = (s.dev.port p).window ∧
        (t.port p).rounds = (s.dev.port p).rounds + 1 ∧ (t.port p).credit = b.toNat / 16 ∧
        t.fld (EGL_PCNT_RESEND p) = min (s.dev.fld (EGL_PCNT_RESEND p) + 1) (2 ^ (EGL_PCNT_RESEND p).width - 1)) ∧
    ((s.dev.port p).window ≠ [] → (s.dev.port p).rounds < 16 → Completes (.resendTimeout port) s fun t =>
      (t.port p).window = (s.dev.port p).window ∧ (t.port p).rounds = (s.dev.port p).rounds + 1 ∧
      t.fld (EGL_PCNT_RESEND p) = min (s.dev.fld (EGL_PCNT_RESEND p) + 1) (2 ^ (EGL_PCNT_RESEND p).width - 1)) :=
  ⟨fun seq w0 w1 payload => sequencedFrame_damaged hp hup hplain hlen seq w0 w1 payload,
    fun seq w0 w1 payload hgap => sequencedFrame_gap hp hup hplain hlen seq w0 w1 payload hgap,
    fun seq w0 w1 payload hseq hroom => sequencedFrame_accepted hp hup hplain hlen seq w0 w1 payload hseq hroom,
    fun b hqueue => ack_takes hp hlen hup hqueue b,
    fun _ hmem hrounds => nak_resends hp hlen hup hrounds hmem hplain,
    fun hwindow hrounds => resendTimeout_resends hp hlen hup hrounds hplain hwindow⟩

end

/-- Settles O38, clause by clause: the port's clauses, the arrival hold, the operations, the requests and the remote window each
by their own lemma. -/
theorem linkFramesAndOperations : Obligations.LinkFramesAndOperations := by
  unfold Obligations.LinkFramesAndOperations
  refine ⟨fun s r point p hheld hpoint => ⟨reorderRelease_sends hheld hpoint, reorderRelease_takes hheld hpoint⟩, ?_⟩
  intro s hlen hgate hreorder
  refine ⟨fun port p hp => ⟨fun hup => portUp_acts hp hlen hup ⟨hgate, hreorder⟩,
    fun f rest hqueue => packetAged_drops hp hlen hqueue⟩, ?_, ?_, ?_, ?_, ?_, ?_, ?_, ?_, ?_, ?_, ?_, ?_⟩
  · intro h hhold hseq hflow
    exact ((gapSkip_delivers hhold hseq hflow).and (gapSkip_counts hhold)).mono
      fun t ⟨⟨hempty, hinbox, hleaves⟩, hcount⟩ => ⟨hempty, hinbox, hcount, hleaves⟩
  · exact fun o tg r hout hdone hops htag _ hfree hroute => operationIssue_issues hout hdone hops htag hfree hroute
  · exact fun o rest hops htag hnew => tagStarved_reports hops htag hnew
  · exact fun o tag hdone hops htag hopen hmore => opAttemptTimeout_retries hdone hops htag hopen hmore
  · exact fun o tag src hout hdone hops htag hopen hfirst hsrc => loneOperation_ends hout hdone hops htag hopen hfirst hsrc
  · exact fun tag src payload hdone hops => operationResponse_discarded hdone hops tag src payload
  · exact fun tag hout hops => (tagReturn_frees tag).mono fun t ht => ⟨ht.1, ht.2 hout hops⟩
  · exact fun h rest flips e hin hcls hretry hfind => requestDelivery_fromCache hin hcls hretry hfind flips
  · exact fun e rest hcache => duplicateCacheExpiry_drops hcache
  · exact fun src tag w echo hecho hfirst => ping_answers hecho hfirst
  · exact fun hworker hawake hwake src tag =>
      ⟨remoteRd_timeSetFrac hworker hawake hwake src tag, remoteWr_timeSetSech hworker hawake src tag⟩
  · intro rq addr xy hawake hman hreg hrq hxy
    refine ⟨remoteWindow_goes hawake hman hreg hrq hxy, fun hjoined value c hc => ?_⟩
    subst hrq
    exact remoteWindow_fails hawake hman hreg hxy hc hjoined

end Sys2Proof.Machine
end

section
/-!
SUPPORT. The ports' training, their ways down and EGL_PCTL (R592 to R594, R637, R638): what each step leaves of the ports' status
fields and of the other ports.
-/

namespace Sys2Proof.Machine

variable {d e : Dev} {s : State} {f : Fld} {p q : Nat}

/-! A field that the states of a port do not touch. -/

/-- A field that is neither among the link's counters nor shares bits with the state, the reason and the counts of port p. -/
def Fld.asideOf (f : Fld) (p : Nat) : Bool :=
  !linkRegs.contains f.addr && !ringRegs.contains f.addr && f.addr != EGL_PCNT p && f.apart (EGL_PSTAT_STATE p) &&
    f.apart (EGL_PSTAT_REASON p)

theorem Fld.asideOf_iff : f.asideOf p = true ↔ f.addr ∉ linkRegs ∧ f.addr ∉ ringRegs ∧ f.addr ≠ EGL_PCNT p ∧
    f.apart (EGL_PSTAT_STATE p) = true ∧ f.apart (EGL_PSTAT_REASON p) = true := by
  simp [Fld.asideOf, and_assoc]

theorem Fld.apart_of_addr {g : Fld} (h : f.addr ≠ g.addr) : f.apart g = true := by simp [Fld.apart, h]

theorem fld_linkMoves (h : Dev.Linked linkRegs d e) (hf : f.asideOf p = true) : e.fld f = d.fld f := by
  obtain ⟨hlink, hring, -, -, -⟩ := Fld.asideOf_iff.1 hf
  exact h.fld hlink hring

theorem stat_mem_linkRegs : EGL_STAT ∈ linkRegs := by decide

theorem state_fits (p : Nat) : (EGL_PSTAT_STATE p).lsb + (EGL_PSTAT_STATE p).width ≤ 24 := Nat.le_of_ble_eq_true rfl
theorem reason_fits (p : Nat) : (EGL_PSTAT_REASON p).lsb + (EGL_PSTAT_REASON p).width ≤ 24 := Nat.le_of_ble_eq_true rfl
theorem downs_fits (p : Nat) : (EGL_PCNT_DOWNS p).lsb + (EGL_PCNT_DOWNS p).width ≤ 24 := Nat.le_of_ble_eq_true rfl

/-- A port's state moves its own field and PORTSUP. -/
theorem Dev.fld_setPortState_apart (d : Dev) (st : Nat) (hstat : f.addr ≠ EGL_STAT) (hf : f.apart (EGL_PSTAT_STATE p) = true) :
    (d.setPortState p st).fld f = d.fld f := by
  rw [Dev.setPortState, Dev.fld_setFld_apart _ _ (by decide) (Fld.apart_of_addr hstat), Dev.fld_setFld_apart _ _ (state_fits p) hf]

theorem Dev.fld_setPortState (d : Dev) (st : Nat) (hf : f.asideOf p = true) : (d.setPortState p st).fld f = d.fld f := by
  obtain ⟨hlink, -, -, hstate, -⟩ := Fld.asideOf_iff.1 hf
  exact d.fld_setPortState_apart st (fun h => hlink (h ▸ stat_mem_linkRegs)) hstate

theorem Dev.fld_setPort (d : Dev) (p : Nat) (v : Port) (f : Fld) : (d.setPort p v).fld f = d.fld f := rfl

theorem Dev.fld_portTrain (d : Dev) (hf : f.asideOf p = true) : (d.portTrain p).fld f = d.fld f := by
  rw [Dev.portTrain, Dev.fld_setPort]
  exact d.fld_setPortState portDetect hf

theorem linked_emptyPort (d : Dev) (hp : p < 4) : Dev.Linked linkRegs d (d.emptyPort p) := by
  unfold Dev.emptyPort
  extract_lets q frames _ x y z
  have hx : Dev.Linked linkRegs d x := linked_trans (linked_setPort ..) (linked_trans (linked_setLink ..) (linked_setLink ..))
  have hy : Dev.Linked linkRegs x y := by
    unfold y
    split
    · exact linked_setFld _ _ (by decide)
    · exact linked_refl x
  have hz : Dev.Linked linkRegs y z := linked_foldl _ _ fun e g _ => linked_routePacket ..
  exact linked_trans hx (linked_trans hy (linked_trans hz (linked_noteInflight z hp)))

/-! A port goes down (R637, R638). -/

/-- A port that is up or trains has not been taken out. -/
def Dev.runs (d : Dev) (p : Nat) : Prop := d.fld (EGL_PSTAT_STATE p) ≠ portDisabled ∧ d.fld (EGL_PSTAT_STATE p) ≠ portHeld

/-- The raisings at the end of a way down. -/
theorem portDown_raises (d : Dev) (held : Bool) (w1 w2 w3 w4 : Word) :
    Dev.Linked linkRegs d (if held then (d.ring 161 w1 w2).ring 162 w3 w4 else d.ring 161 w1 w2) := by
  split
  · exact linked_trans (linked_ring ..) (linked_ring ..)
  · exact linked_ring ..

/-- A port that goes down: its reason and its count, its state, and then what it holds leaves. -/
theorem Dev.portDown_passes (d : Dev) (hp : p < 4) (hruns : d.runs p) (reason : Nat) : ∃ (st : Nat) (v : Port),
    Dev.Linked linkRegs
      (((((d.setFld (EGL_PSTAT_REASON p) reason).bump (EGL_PCNT_DOWNS p)).setPortState p st).setPort p v).emptyPort p)
      (d.portDown p reason) := by
  have hgoes : ¬ (d.fld (EGL_PSTAT_STATE p) = portDisabled ∨ d.fld (EGL_PSTAT_STATE p) = portHeld ∨ 4 ≤ p) := by
    rintro (h | h | h)
    · exact hruns.1 h
    · exact hruns.2 h
    · omega
  unfold Dev.portDown
  extract_lets st downs held _ x y z
  rw [if_neg hgoes]
  refine ⟨if held then portHeld else portDetect, { x.port p with downs := downs, train := 0 }, ?_⟩
  exact portDown_raises _ held _ _ _ _

theorem Dev.portDown_stays (h : ¬ d.runs p) (reason : Nat) : d.portDown p reason = d := by
  have hstays : d.fld (EGL_PSTAT_STATE p) = portDisabled ∨ d.fld (EGL_PSTAT_STATE p) = portHeld ∨ 4 ≤ p := by
    rcases Decidable.not_and_iff_or_not.1 h with h | h
    · exact .inl (Decidable.not_not.1 h)
    · exact .inr (.inl (Decidable.not_not.1 h))
  exact if_pos hstays

/-- A machine on which a port shows why it goes down, once more counted. -/
def Dev.wentDown (d : Dev) (p reason : Nat) : Dev := (d.setFld (EGL_PSTAT_REASON p) reason).bump (EGL_PCNT_DOWNS p)

theorem Dev.fld_wentDown (d : Dev) (reason : Nat) (hcount : f.addr ≠ EGL_PCNT p) (hreason : f.apart (EGL_PSTAT_REASON p) = true) :
    (d.wentDown p reason).fld f = d.fld f := by
  rw [Dev.wentDown, Dev.fld_bump_apart _ (downs_fits p) (Fld.apart_of_addr hcount), Dev.fld_setFld_apart _ _ (reason_fits p) hreason]

theorem Dev.fld_portDown (d : Dev) (hp : p < 4) (reason : Nat) (hf : f.asideOf p = true) : (d.portDown p reason).fld f = d.fld f := by
  by_cases hruns : d.runs p
  · obtain ⟨st, v, hpass⟩ := d.portDown_passes hp hruns reason
    obtain ⟨-, -, hcount, -, hreason⟩ := Fld.asideOf_iff.1 hf
    calc (d.portDown p reason).fld f
        = ((((d.wentDown p reason).setPortState p st).setPort p v).emptyPort p).fld f := fld_linkMoves hpass hf
      _ = (((d.wentDown p reason).setPortState p st).setPort p v).fld f := fld_linkMoves (linked_emptyPort _ hp) hf
      _ = ((d.wentDown p reason).setPortState p st).fld f := Dev.fld_setPort ..
      _ = (d.wentDown p reason).fld f := Dev.fld_setPortState _ st hf
      _ = d.fld f := d.fld_wentDown reason hcount hreason
  · rw [Dev.portDown_stays hruns]

theorem pstat_aside : ∀ p < 4, EGL_PSTAT p ∉ linkRegs ∧ EGL_PSTAT p ∉ ringRegs ∧ EGL_PSTAT p ≠ EGL_PCNT p ∧ EGL_PSTAT p ≠ EGL_STAT := by
  decide

/-- A port that goes down shows the reason. -/
theorem Dev.reason_portDown (d : Dev) (hp : p < 4) (hruns : d.runs p) (reason : Nat) :
    (d.portDown p reason).fld (EGL_PSTAT_REASON p) = reason % 16 := by
  obtain ⟨st, v, hpass⟩ := d.portDown_passes hp hruns reason
  obtain ⟨hlink, hring, hcount, hstat⟩ := pstat_aside p hp
  have hstate : (EGL_PSTAT_REASON p).apart (EGL_PSTAT_STATE p) = true := fld_apart_lsb (Or.inl (by decide))
  calc (d.portDown p reason).fld (EGL_PSTAT_REASON p)
      = ((((d.wentDown p reason).setPortState p st).setPort p v).emptyPort p).fld (EGL_PSTAT_REASON p) := hpass.fld hlink hring
    _ = (((d.wentDown p reason).setPortState p st).setPort p v).fld (EGL_PSTAT_REASON p) :=
        (linked_emptyPort _ hp).fld hlink hring
    _ = ((d.wentDown p reason).setPortState p st).fld (EGL_PSTAT_REASON p) := Dev.fld_setPort ..
    _ = (d.wentDown p reason).fld (EGL_PSTAT_REASON p) := Dev.fld_setPortState_apart _ st hstat hstate
    _ = (d.setFld (EGL_PSTAT_REASON p) reason).fld (EGL_PSTAT_REASON p) :=
        Dev.fld_bump_apart _ (downs_fits p) (Fld.apart_of_addr hcount)
    _ = reason % 16 := Dev.fld_setFld_same _ _ _ (reason_fits p)

/-! Other ports. -/

/-- Port k is fixed, and no port is added. -/
structure Dev.Spares (k : Nat) (d e : Dev) : Prop where
  port : (e.port k).fixed = (d.port k).fixed
  length : e.link.ports.length = d.link.ports.length

theorem spares_refl (k : Nat) (d : Dev) : Dev.Spares k d d := ⟨rfl, rfl⟩

theorem Dev.Spares.trans {k : Nat} {g : Dev} (h : Dev.Spares k d e) (h' : Dev.Spares k e g) : Dev.Spares k d g :=
  ⟨h'.port.trans h.port, h'.length.trans h.length⟩

theorem Dev.Moves.spares {k : Nat} (h : d.Moves e) : Dev.Spares k d e := ⟨h.port k, h.length⟩

theorem spares_link {k : Nat} (h : e.link = d.link) : Dev.Spares k d e := (moves_link h).spares

theorem spares_setPort {k : Nat} (d : Dev) (v : Port) (hlen : p < d.link.ports.length) (hk : k ≠ p) : Dev.Spares k d (d.setPort p v) :=
  ⟨congrArg Port.fixed ((d.port_setPort v hlen k).trans (if_neg hk)), d.length_setPort p v⟩

theorem spares_emptyPort {k : Nat} (d : Dev) (hlen : p < d.link.ports.length) (hk : k ≠ p) : Dev.Spares k d (d.emptyPort p) := by
  unfold Dev.emptyPort
  extract_lets q frames _ x y z
  have hx : Dev.Spares k d x := (spares_setPort d _ hlen hk).trans ((moves_unhold ..).trans (moves_unhold ..)).spares
  have hy : Dev.Spares k x y := by
    unfold y
    split
    · exact spares_link rfl
    · exact spares_refl k x
  have hz : y.Moves z := moves_foldl _ _ fun e g _ => moves_routePacket ..
  exact hx.trans (hy.trans (hz.spares.trans (spares_link rfl)))

theorem spares_portTrain {k : Nat} (d : Dev) (hlen : p < d.link.ports.length) (hk : k ≠ p) : Dev.Spares k d (d.portTrain p) :=
  Dev.Spares.trans (e := d.setPortState p portDetect) (spares_link rfl) (spares_setPort (d.setPortState p portDetect) _ hlen hk)

theorem spares_portDown {k : Nat} (d : Dev) (hlen : p < d.link.ports.length) (hk : k ≠ p) (reason : Nat) :
    Dev.Spares k d (d.portDown p reason) := by
  unfold Dev.portDown
  extract_lets st downs held u x _ y z
  split
  · exact spares_refl k d
  · have hx : Dev.Spares k d x := spares_link rfl
    have hempty := spares_emptyPort (x.setPort p { x.port p with downs := downs, train := 0 }) (k := k)
      (p := p) (by rw [Dev.length_setPort]; exact hlen) hk
    have hy : Dev.Spares k d y := (hx.trans (spares_setPort x _ hlen hk)).trans hempty
    have hz : Dev.Spares k d z := hy.trans (spares_link (Dev.ring_link ..))
    split
    · exact hz.trans (spares_link (Dev.ring_link ..))
    · exact hz

end Sys2Proof.Machine
end

section
/-!
SUPPORT. What the commands of training and of the ways down do to a port (R592 to R594, R637, R638).
-/

namespace Sys2Proof.Machine

variable {d e : Dev} {s : State} {f : Fld} {p q : Nat} {port : BitVec 2}

theorem sig_fits (p : Nat) : (EGL_PSTAT_SIG p).lsb + (EGL_PSTAT_SIG p).width ≤ 24 := Nat.le_of_ble_eq_true rfl

theorem state_apart_sig (p : Nat) : (EGL_PSTAT_STATE p).apart (EGL_PSTAT_SIG p) = true := fld_apart_lsb (Or.inr (by decide))

/-- The signal detector's flag leaves the port's state. -/
theorem Dev.state_setSig (d : Dev) (p : Nat) (b : Bool) :
    (d.setFlag (EGL_PSTAT_SIG p) b).fld (EGL_PSTAT_STATE p) = d.fld (EGL_PSTAT_STATE p) :=
  Dev.fld_setFlag_apart _ _ (sig_fits p) (state_apart_sig p)

theorem pstat_ne_pwrStat (p : Nat) : PWR_STAT ≠ EGL_PSTAT p := by simp only [PWR_STAT, EGL_PSTAT]; omega

theorem Dev.mode_setSig (d : Dev) (p : Nat) (b : Bool) : (d.setFlag (EGL_PSTAT_SIG p) b).mode = d.mode :=
  Dev.fld_setFlag_apart _ _ (sig_fits p) (Fld.apart_of_addr (pstat_ne_pwrStat p))

/-- The state of a port just set. -/
theorem Dev.state_setPortState (d : Dev) (hstat : EGL_PSTAT p ≠ EGL_STAT) (st : Nat) :
    (d.setPortState p st).fld (EGL_PSTAT_STATE p) = st % 8 := by
  rw [Dev.setPortState, Dev.fld_setFld_apart _ _ (by decide) (Fld.apart_of_addr hstat), Dev.fld_setFld_same _ _ _ (state_fits p)]
  rfl

/-! Unsequenced frames (R595, R600). -/

/-- An unsequenced frame leaves a port: its payload is the last that went out. -/
theorem Dev.port_sendPlain (d : Dev) (hlen : p < d.link.ports.length) (type : Nat) (flip : Option Nat) (ws : List Word) :
    ((d.sendPlain p type flip ws).port p).fixed = ({ d.port p with lastOut := ws } : Port).fixed := by
  have hsent := (moves_putFrame (d.setPort p { d.port p with lastOut := ws }) p none flip (d.plainPacket type ws)).port p
  exact hsent.trans (congrArg Port.fixed (d.port_setPort_same _ hlen))

theorem linked_sendPlain (d : Dev) (hp : p < 4) (type : Nat) (flip : Option Nat) (ws : List Word) :
    Dev.Linked linkRegs d (d.sendPlain p type flip ws) := linked_trans (linked_setPort ..) (linked_putFrame _ hp ..)

/-! Training (R592 to R594). -/

/-- A detected signal leaves a port in training. -/
theorem Dev.train_signalDetect (d : Dev) (hport : p < d.link.ports.length) (h : (d.port p).train ≠ 0) :
    ((d.signalDetect p).port p).train ≠ 0 := by
  unfold Dev.signalDetect
  extract_lets x
  split
  · rw [Dev.port_setPort_same _ _ (by exact hport)]
    simp
  · exact h

theorem median_moves (d : Dev) (vs : List Nat) : d.Moves (d.median vs).2 := by
  unfold Dev.median
  extract_lets
  split
  · exact moves_refl d
  · exact moves_link (by rfl)

/-- A round trip that is not the last ends, and the next begins. -/
theorem Dev.delayResp_goesOn (d : Dev) (hport : p < d.link.ports.length) (htrips : 1 < (d.port p).trips) (trip : Nat)
    (turnaround : Word) : ∃ (y : Dev) (ws : List Word), d.delayResp p trip turnaround = y.sendPlain p typeLinkctl none ws ∧
      (y.port p).trips = (d.port p).trips - 1 ∧ p < y.link.ports.length := by
  have hzero : ¬ (d.port p).trips = 0 := by omega
  have hone : ¬ (d.port p).trips = 1 := by omega
  have hport' (vs : List Nat) : p < (d.median vs).2.link.ports.length := (median_moves d vs).length ▸ hport
  unfold Dev.delayResp
  simp only [if_neg hzero, if_neg hone]
  refine ⟨_, _, rfl, ?_, ?_⟩
  · split
    · exact congrArg Port.trips (Dev.port_setPort_same _ _ (hport' _))
    · exact congrArg Port.trips (Dev.port_setPort_same _ _ (hport' _))
  · split
    · exact (Dev.length_setPort ..).symm ▸ hport' _
    · exact (Dev.length_setPort ..).symm ▸ hport' _

section

variable (hp : port.toNat = p) (hlen : s.dev.link.ports.length = 4)
include hp hlen

theorem signalDetect_trains (hstate : s.dev.fld (EGL_PSTAT_STATE p) = portDetect) (hmode : s.dev.mode ≠ modeWatch)
    (htrain : (s.dev.port p).train = 1) : Completes (.signalDetect port) s fun t => (t.port p).train = 2 := by
  have hport := port_lt hp hlen
  subst hp
  refine completes_of (f := fun d => d.signalDetect port.toNat) rfl ?_
  have hgoes : (s.dev.setFlag (EGL_PSTAT_SIG port.toNat) true).fld (EGL_PSTAT_STATE port.toNat) = portDetect ∧
      ((s.dev.setFlag (EGL_PSTAT_SIG port.toNat) true).port port.toNat).train = 1 ∧
      (s.dev.setFlag (EGL_PSTAT_SIG port.toNat) true).mode ≠ modeWatch := by
    rw [Dev.state_setSig, Dev.mode_setSig]
    exact ⟨hstate, htrain, hmode⟩
  rw [Dev.signalDetect, if_pos hgoes]
  exact congrArg Port.train (Dev.port_setPort_same _ _ hport)

theorem retrainDelay_trains (hstate : s.dev.fld (EGL_PSTAT_STATE p) = portDetect) (hmode : s.dev.mode ≠ modeWatch)
    (htrain : (s.dev.port p).train = 0) : Completes (.retrainDelay port) s fun t => (t.port p).train ≠ 0 := by
  have hport := port_lt hp hlen
  subst hp
  refine completes_of (f := fun d => d.retrainDelay port.toNat) rfl ?_
  have htrained : ((s.dev.portTrain port.toNat).port port.toNat).train ≠ 0 := by
    rw [Dev.portTrain, Dev.port_setPort_same _ _ (by exact hport)]
    simp
  rw [Dev.retrainDelay, if_pos ⟨hstate, htrain, hmode⟩]
  extract_lets x
  split
  · exact Dev.train_signalDetect x ((Dev.length_setPort ..).symm ▸ hport) htrained
  · exact htrained

theorem commaAlignment_trains (hstate : s.dev.fld (EGL_PSTAT_STATE p) = portTraining) (htrain : (s.dev.port p).train = 2) :
    Completes (.commaAlignment port) s fun t => (t.port p).train = 3 := by
  have hport := port_lt hp hlen
  subst hp
  refine completes_of (f := fun d => d.commaAligned port.toNat) rfl ?_
  rw [Dev.commaAligned, if_pos ⟨hstate, htrain⟩]
  have hsent := Dev.port_sendPlain (s.dev.setPort port.toNat { s.dev.port port.toNat with train := 3 }) (p := port.toNat)
    (by rw [Dev.length_setPort]; exact hport) typeLinkctl none [s.dev.idWord port.toNat]
  rw [Dev.port_setPort_same _ _ hport] at hsent
  exact (congrArg Port.train hsent :)

theorem delayResp_counts (htrips : 1 < (s.dev.port p).trips) (trip turnaround : Word) :
    Completes (.delayResp port trip turnaround) s fun t => (t.port p).trips = (s.dev.port p).trips - 1 := by
  have hport := port_lt hp hlen
  subst hp
  refine completes_of (f := fun d => d.delayResp port.toNat trip.toNat turnaround) rfl ?_
  obtain ⟨y, ws, heq, htrips', hport'⟩ := s.dev.delayResp_goesOn hport htrips trip.toNat turnaround
  rw [heq]
  exact (congrArg Port.trips (y.port_sendPlain hport' typeLinkctl none ws) :).trans htrips'

theorem delayRecalibration_begins (hup : s.dev.isUp p = true) :
    Completes (.delayRecalibration port) s fun t => (t.port p).trips = 4 := by
  have hport := port_lt hp hlen
  subst hp
  refine completes_of (f := fun d => d.delayRecal port.toNat) rfl ?_
  have hsent := Dev.port_sendPlain (s.dev.setPort port.toNat { s.dev.port port.toNat with trips := 4 }) (p := port.toNat)
    (by rw [Dev.length_setPort]; exact hport) typeLinkctl none [pack [(2, 20), (0, 0)]]
  rw [Dev.port_setPort_same _ _ hport] at hsent
  rw [Dev.delayRecal, if_pos hup]
  exact (congrArg Port.trips hsent :)

theorem delayReq_answers (hup : s.dev.isUp p = true) (w turnaround : Word) (hkind : wGet w 20 4 = 2) :
    Completes (.delayReq port w turnaround) s fun t => (t.port p).lastOut = [pack [(3, 20), (wGet w 0 4, 0)], turnaround] := by
  have hport := port_lt hp hlen
  subst hp
  refine completes_of (f := fun d => d.delayReq port.toNat w turnaround) rfl ?_
  rw [Dev.delayReq, if_pos ⟨hkind, Or.inl hup⟩]
  exact (congrArg Port.lastOut (s.dev.port_sendPlain hport typeLinkctl none _) :)

end

theorem sig_aside : ∀ p < 4, ∀ q < 4, (EGL_PSTAT_SIG p).asideOf q = true := by decide

theorem Dev.runs_of_up (h : d.isUp p = true) : d.runs p := by
  have hstate : d.fld (EGL_PSTAT_STATE p) = portUp := by simpa [Dev.isUp] using h
  rw [Dev.runs, hstate]
  decide

section

variable (hp : port.toNat = p)
include hp

theorem trainingTimeout_shows (hstate : s.dev.fld (EGL_PSTAT_STATE p) = portTraining) :
    Completes (.trainingTimeout port) s fun t => t.fld (EGL_PSTAT_REASON p) = 4 := by
  subst hp
  refine completes_of (f := fun d => if d.fld (EGL_PSTAT_STATE port.toNat) = portTraining then d.portDown port.toNat 4 else d) rfl ?_
  rw [if_pos hstate]
  exact s.dev.reason_portDown port.isLt (by rw [Dev.runs, hstate]; decide) 4

theorem signalLoss_shows (hup : s.dev.isUp p = true) : Completes (.signalLoss port) s fun t =>
    t.flag (EGL_PSTAT_SIG p) = false ∧ t.fld (EGL_PSTAT_REASON p) = 1 := by
  subst hp
  refine completes_of (f := fun d =>
    let d := d.setFlag (EGL_PSTAT_SIG port.toNat) false
    if d.isUp port.toNat = true ∨ d.fld (EGL_PSTAT_STATE port.toNat) = portTraining then d.portDown port.toNat 1 else d) rfl ?_
  have hup' : (s.dev.setFlag (EGL_PSTAT_SIG port.toNat) false).isUp port.toNat = true := by
    rw [Dev.isUp, Dev.state_setSig]
    exact hup
  have hclear := Dev.flag_setFlag_same s.dev (EGL_PSTAT_SIG port.toNat) false (sig_fits _) Nat.one_pos
  generalize s.dev.setFlag (EGL_PSTAT_SIG port.toNat) false = x at *
  simp only [hup', true_or, if_true]
  refine ⟨?_, x.reason_portDown port.isLt (Dev.runs_of_up hup') 1⟩
  have hkept := x.fld_portDown port.isLt 1 (sig_aside port.toNat port.isLt port.toNat port.isLt)
  rw [Dev.flag, hkept, ← Dev.flag]
  exact hclear

theorem linkCodeErrors_shows (hup : s.dev.isUp p = true) : Completes (.linkCodeErrors port) s fun t =>
    t.fld (EGL_PSTAT_REASON p) = 2 := by
  subst hp
  refine completes_of (f := fun d => if d.isUp port.toNat = true ∨ d.fld (EGL_PSTAT_STATE port.toNat) = portTraining then
    (d.bumpBy (EGL_PCNT2_CODEERR port.toNat) 64).portDown port.toNat 2 else d) rfl ?_
  have hfits : (EGL_PCNT2_CODEERR port.toNat).lsb + (EGL_PCNT2_CODEERR port.toNat).width ≤ 24 := Nat.le_of_ble_eq_true rfl
  have hother : ∀ p < 4, EGL_PSTAT p ≠ EGL_PCNT2 p := by decide
  have hup' : (s.dev.bumpBy (EGL_PCNT2_CODEERR port.toNat) 64).isUp port.toNat = true := by
    rw [Dev.isUp, Dev.fld_bumpBy_apart _ _ hfits (Fld.apart_of_addr (hother _ port.isLt))]
    exact hup
  rw [if_pos (Or.inl hup)]
  exact Dev.reason_portDown _ port.isLt (Dev.runs_of_up hup') 2

end

end Sys2Proof.Machine
end

section
/-!
SUPPORT. The exchange of IDs, EGL_PCTL, the time beacon and the wake packet (R592, R621, R626, R637).
-/

namespace Sys2Proof.Machine

variable {d e : Dev} {s : State} {f : Fld} {p q : Nat} {port : BitVec 2}

/-! A port comes up (R592). -/

theorem linked_sendEnum (d : Dev) (hp : p < 4) : Dev.Linked linkRegs d (d.sendEnum p) := by
  unfold Dev.sendEnum
  split
  · exact linked_enqueue _ _ hp _
  · exact linked_refl d

theorem Dev.fld_sendJoin (d : Dev) (hf : f.asideOf p = true) : d.sendJoin.fld f = d.fld f := by
  unfold Dev.sendJoin
  split
  · rfl
  · split
    · rfl
    · extract_lets _ x crc
      have hx : x.fld f = d.fld f := rfl
      exact (fld_linkMoves (linked_issueOps _) hf).trans ((fld_linkMoves (linked_send x ..) hf).trans hx)

theorem Dev.fld_portCameUp (d : Dev) (hp : p < 4) (hf : f.asideOf p = true) : (d.portCameUp p).fld f = d.fld f := by
  unfold Dev.portCameUp
  extract_lets _ x0 x y z w
  have hx : Dev.Linked linkRegs d x := linked_trans (e := x0) (linked_setPort ..) (linked_putWire ..)
  have hy : y.fld f = x.fld f := x.fld_setPortState portUp hf
  have hz : Dev.Linked linkRegs y z := linked_ring ..
  have hw : Dev.Linked linkRegs z w := by
    unfold w
    split
    · exact linked_sendEnum z hp
    · exact linked_refl z
  have hkept : w.fld f = d.fld f :=
    (fld_linkMoves (linked_trans hz hw) hf).trans (hy.trans (fld_linkMoves hx hf))
  split
  · exact (Dev.fld_sendJoin w hf).trans hkept
  · exact hkept

/-! The exchange of IDs (R592, R600). -/

theorem peer_aside : ∀ p < 4, (EGL_PSTAT_PEERPORT p).asideOf p = true ∧ (EGL_PSTAT_PEERXY p).asideOf p = true := by decide

/-- A machine that shows the ID of a port's peer. -/
def Dev.metPeer (d : Dev) (p : Nat) (w : Word) : Dev :=
  ((d.setFld (EGL_PSTAT_PEERPORT p) (wGet w 14 2)).setFld (EGL_PSTAT_PEERVALID p) (wGet w 10 1)).setFld (EGL_PSTAT_PEERXY p) (wGet w 0 10)

theorem Dev.metPeer_shows (d : Dev) (p : Nat) (w : Word) : (d.metPeer p w).fld (EGL_PSTAT_PEERPORT p) = wGet w 14 2 ∧
    (d.metPeer p w).fld (EGL_PSTAT_PEERXY p) = wGet w 0 10 := by
  have hport : (EGL_PSTAT_PEERPORT p).lsb + (EGL_PSTAT_PEERPORT p).width ≤ 24 := Nat.le_of_ble_eq_true rfl
  have hvalid : (EGL_PSTAT_PEERVALID p).lsb + (EGL_PSTAT_PEERVALID p).width ≤ 24 := Nat.le_of_ble_eq_true rfl
  have hxy : (EGL_PSTAT_PEERXY p).lsb + (EGL_PSTAT_PEERXY p).width ≤ 24 := Nat.le_of_ble_eq_true rfl
  refine ⟨?_, ?_⟩
  · rw [Dev.metPeer, Dev.fld_setFld_apart _ _ hxy (fld_apart_lsb (Or.inr (by decide))),
      Dev.fld_setFld_apart _ _ hvalid (fld_apart_lsb (Or.inr (by decide))), Dev.fld_setFld_same _ _ _ hport]
    exact Nat.mod_eq_of_lt (wGet_lt w 14 2)
  · rw [Dev.metPeer, Dev.fld_setFld_same _ _ _ hxy]
    exact Nat.mod_eq_of_lt (wGet_lt w 0 10)

/-- What the exchange of IDs goes on with leaves the peer's fields: the port goes down, comes up or begins its round trips. -/
theorem Dev.fld_linkId (d : Dev) (hp : p < 4) (hf : f.asideOf p = true) {w : Word} (hkind : wGet w 20 4 = 1)
    (hstate : d.fld (EGL_PSTAT_STATE p) = portTraining) (htrain : (d.port p).train = 3) (hversion : wGet w 16 4 = 1) :
    (d.linkId p w).fld f = (d.metPeer p w).fld f := by
  have hother : ¬ wGet w 20 4 ≠ 1 := fun h => h hkind
  unfold Dev.linkId
  rw [if_neg hother, if_pos ⟨hstate, htrain, hversion⟩]
  extract_lets peer x y
  have hy : y = d.metPeer p w := rfl
  rw [hy]
  generalize d.metPeer p w = m
  split
  · exact m.fld_portDown hp 5 hf
  · split
    · exact m.fld_portCameUp hp hf
    · exact (fld_linkMoves (linked_sendPlain _ hp ..) hf).trans (Dev.fld_setPort ..)

theorem linkctlId_shows (hp : port.toNat = p) {w : Word} (hstate : s.dev.fld (EGL_PSTAT_STATE p) = portTraining)
    (htrain : (s.dev.port p).train = 3) (hkind : wGet w 20 4 = 1) (hversion : wGet w 16 4 = 1) :
    Completes (.linkctlId port w) s fun t => t.fld (EGL_PSTAT_PEERPORT p) = wGet w 14 2 ∧
      t.fld (EGL_PSTAT_PEERXY p) = wGet w 0 10 := by
  subst hp
  refine completes_of (f := fun d => d.linkId port.toNat w) rfl ?_
  obtain ⟨hpeer, hxy⟩ := peer_aside port.toNat port.isLt
  obtain ⟨hshown, hcoords⟩ := s.dev.metPeer_shows port.toNat w
  exact ⟨(s.dev.fld_linkId port.isLt hpeer hkind hstate htrain hversion).trans hshown,
    (s.dev.fld_linkId port.isLt hxy hkind hstate htrain hversion).trans hcoords⟩

/-! EGL_PCTL (R637, R638). -/

/-- What a write of EGL_PCTL does to one port. -/
def Dev.pctlStep (was now again : Nat) (d : Dev) (p : Nat) : Dev :=
  if now.testBit p then
    if was.testBit p ∨ d.fld (EGL_PSTAT_STATE p) = portHeld then d else (d.portDown p 6).disableDown p
  else if was.testBit p ∧ d.fld (EGL_PSTAT_STATE p) = portDisabled then
    if (d.par secLink 0x01).testBit p then d.portTrain p else d
  else if again.testBit p ∧ d.fld (EGL_PSTAT_STATE p) ≠ portDisabled then
    let d := if d.fld (EGL_PSTAT_STATE p) = portHeld then d.setFld (EGL_PSTAT_REASON p) 6 else d.portDown p 6
    (d.setPort p { d.port p with downs := if d.fld (EGL_PSTAT_STATE p) = portHeld then [] else (d.port p).downs }).portTrain p
  else d

theorem Dev.writePctl_keyed {v : Word} (hkey : wGet v 16 8 = 0x5A) : d.writePctl v =
    (List.range 4).foldl (Dev.pctlStep (d.fld EGL_PCTL_DISABLE) (wGet v 0 4) (wGet v 4 4)) (d.setFld EGL_PCTL_DISABLE (wGet v 0 4)) := by
  have hkeyed : ¬ wGet v 16 8 ≠ 0x5A := fun h => h hkey
  unfold Dev.writePctl
  rw [if_neg hkeyed]
  rfl

section

variable {was now again : Nat}

/-- A held port keeps its state and shows reason 6; another goes down. -/
theorem Dev.fld_released (d : Dev) (hp : p < 4) (hf : f.asideOf p = true) :
    (if d.fld (EGL_PSTAT_STATE p) = portHeld then d.setFld (EGL_PSTAT_REASON p) 6 else d.portDown p 6).fld f = d.fld f := by
  obtain ⟨-, -, -, -, hreason⟩ := Fld.asideOf_iff.1 hf
  split
  · exact Dev.fld_setFld_apart _ _ (reason_fits p) hreason
  · exact d.fld_portDown hp 6 hf

theorem Dev.fld_disableDown (d : Dev) (hf : f.asideOf p = true) : (d.disableDown p).fld f = d.fld f := by
  unfold Dev.disableDown
  split
  · rfl
  · exact d.fld_setPortState _ hf

theorem Dev.fld_pctlStep (d : Dev) (hp : p < 4) (hf : f.asideOf p = true) : (d.pctlStep was now again p).fld f = d.fld f := by
  unfold Dev.pctlStep
  split
  · split
    · rfl
    · exact (Dev.fld_disableDown _ hf).trans (d.fld_portDown hp 6 hf)
  · split
    · split
      · exact d.fld_portTrain hf
      · rfl
    · split
      · extract_lets x
        exact ((Dev.fld_portTrain _ hf).trans (Dev.fld_setPort ..)).trans (d.fld_released hp hf)
      · rfl

theorem spares_released {k : Nat} (d : Dev) (hlen : p < d.link.ports.length) (hk : k ≠ p) : Dev.Spares k d
    (if d.fld (EGL_PSTAT_STATE p) = portHeld then d.setFld (EGL_PSTAT_REASON p) 6 else d.portDown p 6) := by
  split
  · exact spares_link rfl
  · exact spares_portDown d hlen hk 6

theorem spares_disableDown {k : Nat} (d : Dev) : Dev.Spares k d (d.disableDown p) := by
  unfold Dev.disableDown
  split
  · exact spares_refl k d
  · exact spares_link rfl

theorem spares_pctlStep {k : Nat} (d : Dev) (hlen : p < d.link.ports.length) (hk : k ≠ p) :
    Dev.Spares k d (d.pctlStep was now again p) := by
  unfold Dev.pctlStep
  split
  · split
    · exact spares_refl k d
    · exact (spares_portDown d hlen hk 6).trans (spares_disableDown _)
  · split
    · split
      · exact spares_portTrain d hlen hk
      · exact spares_refl k d
    · split
      · extract_lets x
        have hx : Dev.Spares k d x := spares_released d hlen hk
        have hset := spares_setPort x { x.port p with downs := if x.fld (EGL_PSTAT_STATE p) = portHeld then [] else (x.port p).downs }
          (k := k) (hx.length ▸ hlen) hk
        exact hx.trans (hset.trans (spares_portTrain _ ((hset.length.trans hx.length) ▸ hlen) hk))
      · exact spares_refl k d

/-- A released port trains from step 1. -/
theorem Dev.pctlStep_retrains (d : Dev) (hp : p < 4) (hlen : d.link.ports.length = 4) (hnow : now.testBit p = false)
    (hagain : again.testBit p = true) (hstate : d.fld (EGL_PSTAT_STATE p) ≠ portDisabled) :
    ((d.pctlStep was now again p).port p).train = 1 ∧ (d.pctlStep was now again p).fld (EGL_PSTAT_STATE p) = portDetect := by
  have hstays : ¬ (was.testBit p = true ∧ d.fld (EGL_PSTAT_STATE p) = portDisabled) := fun h => hstate h.2
  have hnot : ¬ now.testBit p = true := by simp [hnow]
  unfold Dev.pctlStep
  rw [if_neg hnot, if_neg hstays, if_pos ⟨hagain, hstate⟩]
  extract_lets x
  have hx : x.link.ports.length = d.link.ports.length :=
    (spares_released (k := p + 1) d (hlen ▸ hp) (Nat.succ_ne_self p)).length
  obtain ⟨-, -, -, hstat⟩ := pstat_aside p hp
  generalize hv : x.setPort p _ = y
  have hy : p < y.link.ports.length := by
    rw [← hv, Dev.length_setPort, hx, hlen]
    exact hp
  rw [Dev.portTrain]
  refine ⟨congrArg Port.train (Dev.port_setPort_same _ _ hy), ?_⟩
  rw [Dev.fld_setPort, Dev.state_setPortState _ hstat]
  rfl

/-- A port that DISABLE names is not up. -/
theorem Dev.pctlStep_disables (d : Dev) (hp : p < 4) (hnow : now.testBit p = true) (hwas : was.testBit p = false) :
    (d.pctlStep was now again p).isUp p = false := by
  obtain ⟨-, -, -, hstat⟩ := pstat_aside p hp
  unfold Dev.pctlStep
  rw [if_pos hnow]
  split
  next hout =>
    have hheld : d.fld (EGL_PSTAT_STATE p) = portHeld := hout.resolve_left (by simp [hwas])
    simp [Dev.isUp, hheld]
  next =>
    unfold Dev.disableDown
    split
    next hheld => simp [Dev.isUp, hheld]
    next => simp [Dev.isUp, Dev.state_setPortState _ hstat]

end

/-- A fold over distinct items: what holds before its item is reached turns into what holds after it. -/
theorem foldl_reaches {α : Type} {g : Dev → α → Dev} {P Q : Dev → Prop} {x : α} (xs : List α) (hnodup : xs.Nodup) (hx : x ∈ xs)
    (before : ∀ y ∈ xs, y ≠ x → ∀ e, P e → P (g e y)) (there : ∀ e, P e → Q (g e x))
    (after : ∀ y ∈ xs, y ≠ x → ∀ e, Q e → Q (g e y)) (hd : P d) : Q (xs.foldl g d) := by
  have hrest : ∀ ys : List α, (∀ y ∈ ys, y ∈ xs ∧ y ≠ x) → ∀ e, Q e → Q (ys.foldl g e) := by
    intro ys
    induction ys with
    | nil => exact fun _ _ h => h
    | cons y ys ih =>
      intro hys e he
      obtain ⟨hy, hne⟩ := hys y (by simp)
      exact ih (fun z hz => hys z (by simp [hz])) _ (after y hy hne e he)
  induction xs generalizing d with
  | nil => simp at hx
  | cons y ys ih =>
    obtain ⟨hout, hys⟩ := List.nodup_cons.1 hnodup
    by_cases hy : y = x
    · subst hy
      exact hrest ys (fun z hz => ⟨by simp [hz], fun h => hout (h ▸ hz)⟩) _ (there d hd)
    · have hmem : x ∈ ys := (List.mem_cons.1 hx).resolve_left (Ne.symm hy)
      exact ih hys hmem (fun z hz => before z (by simp [hz])) (fun z hz => after z (by simp [hz])) (before y (by simp) hy d hd)
        fun zs hzs => hrest zs fun z hz => ⟨by simp [(hzs z hz).1], (hzs z hz).2⟩

theorem state_aside : ∀ p < 4, ∀ q < 4, q ≠ p → (EGL_PSTAT_STATE p).asideOf q = true := by decide

/-- Four ports, of which port p may train. -/
def Dev.mayTrain (p : Nat) (d : Dev) : Prop := d.link.ports.length = 4 ∧ d.fld (EGL_PSTAT_STATE p) ≠ portDisabled

/-- Four ports, of which port p trains from step 1. -/
def Dev.trains (p : Nat) (d : Dev) : Prop :=
  d.link.ports.length = 4 ∧ (d.port p).train = 1 ∧ d.fld (EGL_PSTAT_STATE p) = portDetect

theorem Dev.pctlSteps_retrain (was : Nat) {again : Nat} (hp : p < 4) (hd : d.mayTrain p) (hagain : again.testBit p = true) :
    ((List.range 4).foldl (Dev.pctlStep was 0 again) d).trains p := by
  refine foldl_reaches (x := p) (P := Dev.mayTrain p) (List.range 4) List.nodup_range (List.mem_range.2 hp) ?_ ?_ ?_ hd
  · intro q hq hne e ⟨hsize, hkept⟩
    have hq' := List.mem_range.1 hq
    exact ⟨(spares_pctlStep e (hsize ▸ hq') hne.symm).length.trans hsize,
      fun h => hkept ((e.fld_pctlStep hq' (state_aside _ hp q hq' hne)).symm.trans h)⟩
  · intro e ⟨hsize, hkept⟩
    exact ⟨(spares_pctlStep (k := p + 1) e (hsize ▸ hp) (Nat.succ_ne_self _)).length.trans hsize,
      e.pctlStep_retrains hp hsize (Nat.zero_testBit _) hagain hkept⟩
  · intro q hq hne e ⟨hsize, htrain, hkept⟩
    have hq' := List.mem_range.1 hq
    have hspared := spares_pctlStep (was := was) (now := 0) (again := again) e (hsize ▸ hq') hne.symm
    exact ⟨hspared.length.trans hsize, (congrArg Port.train hspared.port :).trans htrain,
      (e.fld_pctlStep hq' (state_aside _ hp q hq' hne)).trans hkept⟩

theorem retrain_trains (hp : port.toNat = p) (hlen : s.dev.link.ports.length = 4) {v : Word} (hkey : wGet v 16 8 = 0x5A)
    (hnone : wGet v 0 4 = 0) (hagain : (wGet v 4 4).testBit p = true) (hstate : s.dev.fld (EGL_PSTAT_STATE p) ≠ portDisabled) :
    Completes (.retrain v) s fun t => (t.port p).train = 1 ∧ t.fld (EGL_PSTAT_STATE p) = portDetect := by
  subst hp
  refine completes_of (f := fun d => d.writePctl v) rfl ?_
  have hpctl : ∀ p < 4, EGL_PSTAT p ≠ EGL_PCTL := by decide
  have hstart : (s.dev.setFld EGL_PCTL_DISABLE 0).mayTrain port.toNat :=
    ⟨hlen, fun h => hstate ((Dev.fld_setFld_apart _ _ (by decide) (Fld.apart_of_addr (hpctl _ port.isLt))).symm.trans h)⟩
  rw [Dev.writePctl_keyed hkey, hnone]
  obtain ⟨-, htrain, hdetect⟩ := Dev.pctlSteps_retrain (s.dev.fld EGL_PCTL_DISABLE) port.isLt hstart hagain
  exact ⟨htrain, hdetect⟩

theorem disable_aside : ∀ q < 4, EGL_PCTL_DISABLE.asideOf q = true := by decide

theorem portDisable_disables (hp : port.toNat = p) {v : Word} (hkey : wGet v 16 8 = 0x5A)
    (hnow : (wGet v 0 4).testBit p = true) (hwas : (s.dev.fld EGL_PCTL_DISABLE).testBit p = false) :
    Completes (.portDisable v) s fun t => t.fld EGL_PCTL_DISABLE = wGet v 0 4 ∧ t.isUp p = false := by
  subst hp
  refine completes_of (f := fun d => d.writePctl v) rfl ?_
  rw [Dev.writePctl_keyed hkey]
  refine ⟨?_, ?_⟩
  · have hkept := foldl_keeps (fun e : Dev => e.fld EGL_PCTL_DISABLE) (List.range 4)
      (s.dev.setFld EGL_PCTL_DISABLE (wGet v 0 4)) fun e q hq =>
        e.fld_pctlStep (was := s.dev.fld EGL_PCTL_DISABLE) (now := wGet v 0 4) (again := wGet v 4 4) (List.mem_range.1 hq)
          (disable_aside q (List.mem_range.1 hq))
    rw [hkept, Dev.fld_setFld_same _ _ _ (by decide)]
    exact Nat.mod_eq_of_lt (wGet_lt v 0 4)
  · refine foldl_reaches (x := port.toNat) (P := fun _ => True) (Q := fun e => e.isUp port.toNat = false) (List.range 4)
      List.nodup_range (List.mem_range.2 port.isLt) (fun _ _ _ _ _ => trivial) (fun e _ => e.pctlStep_disables port.isLt hnow hwas)
      (fun q hq hne e he => ?_) trivial
    have hq' := List.mem_range.1 hq
    rw [Dev.isUp, e.fld_pctlStep hq' (state_aside _ port.isLt q hq' hne)]
    exact he

end Sys2Proof.Machine
end

section
/-!
SUPPORT. The time beacon, the wake packet, and O56: where the commands of the link complete (R569 to R639).
-/

namespace Sys2Proof.Machine

variable {d e : Dev} {s : State} {p : Nat} {port : BitVec 2}

/-! The time beacon (R621). -/

/-- The link's last accepted beacon is that of frame n. -/
structure Dev.HoldsBeacon (n : Nat) (d : Dev) : Prop where
  beacon : d.link.beacon = some n

section

variable {n : Nat}

theorem Dev.Moves.holdsBeacon (h : d.Moves e) (hd : d.HoldsBeacon n) : e.HoldsBeacon n :=
  ⟨(h.keeps (·.beacon) fun _ => rfl).trans hd.beacon⟩

theorem holdsBeacon_link (h : e.link = d.link) (hd : d.HoldsBeacon n) : e.HoldsBeacon n := ⟨h ▸ hd.beacon⟩

theorem holdsBeacon_setPort (hd : d.HoldsBeacon n) (p : Nat) (q : Port) : (d.setPort p q).HoldsBeacon n := ⟨hd.beacon⟩

theorem holdsBeacon_setFld (hd : d.HoldsBeacon n) (g : Fld) (v : Nat) : (d.setFld g v).HoldsBeacon n := ⟨hd.beacon⟩

theorem holdsBeacon_withSurf (hd : d.HoldsBeacon n) (v : Surface) : ({ d with surf := v } : Dev).HoldsBeacon n := ⟨hd.beacon⟩

theorem holdsBeacon_withTime (hd : d.HoldsBeacon n) (v : TimeBase) : ({ d with time := v } : Dev).HoldsBeacon n := ⟨hd.beacon⟩

theorem holdsBeacon_putBeacon (hd : d.HoldsBeacon n) (q : Nat) (ws : List Word) : (d.putBeacon q ws).HoldsBeacon n := by
  unfold Dev.putBeacon
  split
  next g x hx =>
    have hfault : x.HoldsBeacon n := by
      have hkept := (moves_injectFault d (2 * q) true).holdsBeacon hd
      rwa [hx] at hkept
    extract_lets _ y
    have hy : y.HoldsBeacon n := holdsBeacon_setPort hfault ..
    split
    · exact hy
    · exact (moves_putFrame y q none _ _).holdsBeacon hy

theorem holdsBeacon_putBeacons (hd : d.HoldsBeacon n) (ws : List Word) (out : Dev → Nat → Prop) [∀ e q, Decidable (out e q)]
    (qs : List Nat) : (qs.foldl (fun e q => if out e q then e else e.putBeacon q ws) d).HoldsBeacon n := by
  induction qs generalizing d with
  | nil => exact hd
  | cons q qs ih =>
    refine ih ?_
    beta_reduce
    split
    · exact hd
    · exact holdsBeacon_putBeacon hd q ws

theorem Dev.link_touchTime (d : Dev) : d.touchTime.link = d.link := by
  obtain ⟨-, -, hquiet⟩ := near_touchTime (.rfl d)
  exact (congrArg Dev.link hquiet : d.touchTime.quiet.link = d.quiet.link)

theorem holdsBeacon_beaconTime (hd : d.HoldsBeacon n) (time path epoch : Nat) (step : Bool) :
    (d.beaconTime time path epoch step).HoldsBeacon n := by
  unfold Dev.beaconTime
  extract_lets x t off y z outs
  have hy : y.HoldsBeacon n := holdsBeacon_link ((x.setReg_link ..).trans d.link_touchTime) hd
  have hz : z.HoldsBeacon n := by
    unfold z
    split
    · exact hy
    · exact holdsBeacon_link ((Dev.ring_link ..).trans (y.setFlag_link ..)) hy
  split
  · exact holdsBeacon_withTime hz _
  · split
    · split
      · exact holdsBeacon_withTime hz _
      · exact holdsBeacon_link (Dev.bump_link ..) (holdsBeacon_withTime hz _)
    · exact holdsBeacon_withTime hz _

theorem holdsBeacon_nsUnits (hd : d.HoldsBeacon n) (ns : Nat) : (d.nsUnits ns).2.HoldsBeacon n := by
  unfold Dev.nsUnits
  extract_lets
  split
  · exact hd
  · exact holdsBeacon_link (d := d) (e := (d.draw 2).2) rfl hd

end

/-- A fresh beacon is the link's last. -/
theorem Dev.takeBeacon_takes (d : Dev) (hgate : d.link.gate = false) (hman : d.isManager = false) {ws : List Word}
    (hhops : wGet (ws.getD 5 0) 8 6 ≤ 62) (hfresh : ∀ m, d.link.beacon = some m → 0 < frameDiff m (ws.getD 0 0).toNat)
    (p stay : Nat) (watch : Bool) : (d.takeBeacon p true ws stay watch).HoldsBeacon (ws.getD 0 0).toNat := by
  have hplain : d.injectFault (2 * p + 1) true = (0, d) := Dev.injectFault_closed hgate _ _
  unfold Dev.takeBeacon
  split
  next f x hx =>
  obtain ⟨rfl, rfl⟩ : 0 = f ∧ d = x := Prod.mk.inj (hplain.symm.trans hx)
  extract_lets hops n fresh _ a age b c _ u v
  have hnew : fresh = true := by
    unfold fresh
    split
    · rfl
    next m hm => exact decide_eq_true (hfresh m hm)
  have hgood : ¬ (true = false ∨ (0 : Nat) = 2 ∨ 62 < hops) := by
    rintro (h | h | h)
    · exact absurd h (by decide)
    · exact absurd h (by decide)
    · exact Nat.not_lt.2 hhops h
  have htaken : ¬ (d.isManager = true ∨ fresh = false) := by
    rw [hman, hnew]
    decide
  have hc : c.HoldsBeacon n :=
    holdsBeacon_setFld (holdsBeacon_setFld (holdsBeacon_setFld (holdsBeacon_setFld ⟨rfl⟩ ..) ..) ..) ..
  have hv : v.HoldsBeacon n := holdsBeacon_putBeacons (holdsBeacon_withSurf hc _) _ _ _
  rw [if_neg (by decide), if_neg hgood, if_neg htaken]
  split
  · split
    next path y hy =>
      have hkept := holdsBeacon_nsUnits hv age
      rw [hy] at hkept
      exact holdsBeacon_beaconTime hkept ..
  · exact hv

section

variable (hp : port.toNat = p) (hgate : s.dev.link.gate = false) (hman : s.dev.isManager = false) {ws : List Word} {n : Nat}
  (hn : (ws.getD 0 0).toNat = n) (hhops : wGet (ws.getD 5 0) 8 6 ≤ 62)
  (hfresh : ∀ m, s.dev.link.beacon = some m → 0 < frameDiff m n) (stay : BitVec 24)
include hp hgate hman hn hhops hfresh

theorem beacon_taken (hup : s.dev.isUp p = true) : Completes (.beacon port true ws stay) s fun t => t.link.beacon = some n := by
  subst hp hn
  refine completes_of (f := fun d => if d.isUp port.toNat then d.takeBeacon port.toNat true ws stay.toNat false else d) rfl ?_
  rw [if_pos hup]
  exact (s.dev.takeBeacon_takes hgate hman hhops hfresh ..).beacon

omit hp in
theorem watchBeacon_taken (hmode : s.dev.mode = modeWatch) :
    Completes (.watchBeacon port true ws stay) s fun t => t.link.beacon = some n := by
  subst hn
  refine completes_of (f := fun d => if d.mode = modeWatch then d.takeBeacon port.toNat true ws stay.toNat true else d) rfl ?_
  rw [if_pos hmode]
  exact (s.dev.takeBeacon_takes hgate hman hhops hfresh ..).beacon

end

/-! The wake packet (R626). -/

theorem Dev.modes_injectFault (d : Dev) (i : Nat) (beacon : Bool) : (d.injectFault i beacon).2.modes = d.modes := by
  unfold Dev.injectFault
  split
  · rfl
  · extract_lets
    split
    · rfl
    · split
      · rfl
      · split
        · rfl
        · rfl

section

variable {f : Fld} (hf : ∀ q < 4, f.asideOf q = true)
include hf

theorem Dev.fld_portsWake (d : Dev) : d.portsWake.fld f = d.fld f := by
  refine foldl_keeps (·.fld f) (List.range 4) d fun e q hq => ?_
  split
  · rfl
  · exact e.fld_portTrain (hf q (List.mem_range.1 hq))

theorem Dev.fld_wakeSurface (d : Dev) : d.wakeSurface.fld f = d.fld f := by
  unfold Dev.wakeSurface
  split
  · rfl
  · rw [Dev.fld_portsWake hf]
    refine (fld_linkMoves (linked_wakeBurst (d.setModes { d.modes with wokenInWatch := true })) (hf 0 (by decide))).trans ?_
    rfl

end

theorem Dev.modes_portsWake (d : Dev) : d.portsWake.modes = d.modes := by
  refine foldl_keeps (·.modes) (List.range 4) d fun e q _ => ?_
  split
  · rfl
  · rfl

theorem role_aside : ∀ q < 4, SYS_STRAP_ROLE.asideOf q = true := by decide

/-- The wake of a worker in WATCH trains its ports, and each detector keeps its flag. -/
theorem Dev.watchWakes_wakes (d : Dev) (hp : p < 4) (hnew : d.modes.wokenInWatch = false) (hworker : d.isWorker = true) :
    d.watchWakes.modes.wokenInWatch = true ∧ d.watchWakes.fld (EGL_PSTAT_SIG p) = d.fld (EGL_PSTAT_SIG p) := by
  have hwoken : d.wakeSurface = (d.setModes { d.modes with wokenInWatch := true }).wakeBurst.portsWake := if_neg (by simp [hnew])
  have hburst := linked_wakeBurst (d.setModes { d.modes with wokenInWatch := true })
  have hmodes : d.wakeSurface.modes.wokenInWatch = true := by
    rw [hwoken, Dev.modes_portsWake]
    exact hburst.keeps (·.modes.wokenInWatch) fun _ => rfl
  have hstill : d.wakeSurface.isWorker = true := by
    rw [Dev.isWorker, Dev.role, Dev.fld_wakeSurface role_aside]
    exact hworker
  have hwakes : d.watchWakes = d.wakeSurface := if_pos hstill
  rw [hwakes]
  exact ⟨hmodes, Dev.fld_wakeSurface (sig_aside p hp) d⟩

theorem injcnt_apart : ∀ p < 4, ∀ a ∈ [PWR_STAT, PWR_WAKEEN, SYS_STRAP, EGL_PSTAT p], a ≠ SVC_INJCNT (2 * p + 1) := by decide

theorem pstat_apart : ∀ p < 4, ∀ a ∈ [PWR_STAT, PWR_WAKEEN, SYS_STRAP], a ≠ EGL_PSTAT p := by decide

/-- The detector's flag and the injection point of a wake packet leave the rest of what the packet is judged by. -/
theorem Dev.fld_wakeSeen (d : Dev) (hp : p < 4) {f : Fld} (hf : f.addr ∈ [PWR_STAT, PWR_WAKEEN, SYS_STRAP]) :
    ((d.setFlag (EGL_PSTAT_SIG p) true).injectFault (2 * p + 1) true).2.fld f = d.fld f := by
  have hkept := reg_injectFault (d.setFlag (EGL_PSTAT_SIG p) true) (2 * p + 1) true (injcnt_apart p hp f.addr (by
    simp only [List.mem_cons, List.not_mem_nil, or_false] at hf ⊢
    tauto))
  rw [Dev.fld, hkept, ← Dev.fld]
  exact Dev.fld_setFlag_apart _ _ (sig_fits p) (Fld.apart_of_addr (pstat_apart p hp f.addr hf))

theorem wakePacket_wakes (hp : port.toNat = p) (ok : Bool) (hmode : s.dev.mode = modeWatch)
    (hnew : s.dev.modes.wokenInWatch = false) (hworker : s.dev.isWorker = true) (hen : s.dev.fld PWR_WAKEEN_EN = 0) :
    Completes (.wakePacket port true ok) s fun t => t.modes.wokenInWatch = true ∧ t.flag (EGL_PSTAT_SIG p) = true := by
  subst hp
  have hp := port.isLt
  refine completes_of (f := fun d => d.wakePacket port.toNat true ok) rfl ?_
  have hsig : ((s.dev.setFlag (EGL_PSTAT_SIG port.toNat) true).injectFault (2 * port.toNat + 1) true).2.fld (EGL_PSTAT_SIG port.toNat) = 1 := by
    rw [Dev.fld, reg_injectFault _ _ _ (injcnt_apart _ hp _ (by simp)), ← Dev.fld]
    exact Dev.fld_setFld_same _ _ _ (sig_fits _)
  have hmode' : ((s.dev.setFlag (EGL_PSTAT_SIG port.toNat) true).injectFault (2 * port.toNat + 1) true).2.mode = modeWatch :=
    (s.dev.fld_wakeSeen hp (f := PWR_STAT_MODE) (by simp)).trans hmode
  have hen' := (s.dev.fld_wakeSeen hp (f := PWR_WAKEEN_EN) (by simp)).trans hen
  have hrole := s.dev.fld_wakeSeen hp (f := SYS_STRAP_ROLE) (by simp)
  have hmodes := Dev.modes_injectFault (s.dev.setFlag (EGL_PSTAT_SIG port.toNat) true) (2 * port.toNat + 1) true
  unfold Dev.wakePacket
  simp only [if_true]
  generalize ((s.dev.setFlag (EGL_PSTAT_SIG port.toNat) true).injectFault (2 * port.toNat + 1) true).2 = x at *
  have hworker' : x.isWorker = true := by
    rw [Dev.isWorker, Dev.role, hrole]
    exact hworker
  have hnew' : x.modes.wokenInWatch = false := by
    rw [hmodes]
    exact hnew
  obtain ⟨hwoken, hkept⟩ := x.watchWakes_wakes hp hnew' hworker'
  have hwake : ¬ (0 : Nat).testBit 5 = true := by decide
  have hnotHib : ¬ modeWatch = modeHibernate := by decide
  simp only [hmode', if_neg hnotHib, hen', hworker', hnew', if_neg hwake, and_self, if_true, Bool.not_true, Bool.and_false,
    Bool.false_eq_true, if_false]
  refine ⟨hwoken, ?_⟩
  rw [Dev.flag, hkept, hsig]
  rfl

/-! O56, in its parts. -/

/-- What one port's commands complete with. -/
theorem portCommandsComplete (hlen : s.dev.link.ports.length = 4) (hp : port.toNat = p) :
    (s.dev.fld (EGL_PSTAT_STATE p) = portDetect → s.dev.mode ≠ modeWatch →
      ((s.dev.port p).train = 1 → Completes (.signalDetect port) s fun t => (t.port p).train = 2) ∧
      ((s.dev.port p).train = 0 → Completes (.retrainDelay port) s fun t => (t.port p).train ≠ 0)) ∧
    (s.dev.fld (EGL_PSTAT_STATE p) = portTraining →
      ((s.dev.port p).train = 2 → Completes (.commaAlignment port) s fun t => (t.port p).train = 3) ∧
      (∀ w : Word, (s.dev.port p).train = 3 → wGet w 20 4 = 1 → wGet w 16 4 = 1 → Completes (.linkctlId port w) s fun t =>
        t.fld (EGL_PSTAT_PEERPORT p) = wGet w 14 2 ∧ t.fld (EGL_PSTAT_PEERXY p) = wGet w 0 10) ∧
      Completes (.trainingTimeout port) s fun t => t.fld (EGL_PSTAT_REASON p) = 4) ∧
    (∀ trip turnaround, 1 < (s.dev.port p).trips → Completes (.delayResp port trip turnaround) s fun t =>
      (t.port p).trips = (s.dev.port p).trips - 1) :=
  ⟨fun hstate hmode => ⟨signalDetect_trains hp hlen hstate hmode, retrainDelay_trains hp hlen hstate hmode⟩,
    fun hstate => ⟨commaAlignment_trains hp hlen hstate,
      fun _ htrain hkind hversion => linkctlId_shows hp hstate htrain hkind hversion, trainingTimeout_shows hp hstate⟩,
    fun trip turnaround htrips => delayResp_counts hp hlen htrips trip turnaround⟩

/-- What the commands of a port that is up complete with. -/
theorem portUpCompletes (hlen : s.dev.link.ports.length = 4) (hp : port.toNat = p) (hup : s.dev.isUp p = true) :
    (∀ w turnaround : Word, wGet w 20 4 = 2 → Completes (.delayReq port w turnaround) s fun t =>
      (t.port p).lastOut = [pack [(3, 20), (wGet w 0 4, 0)], turnaround]) ∧
    (Completes (.delayRecalibration port) s fun t => (t.port p).trips = 4) ∧
    (Completes (.signalLoss port) s fun t => t.flag (EGL_PSTAT_SIG p) = false ∧ t.fld (EGL_PSTAT_REASON p) = 1) ∧
    (Completes (.linkCodeErrors port) s fun t => t.fld (EGL_PSTAT_REASON p) = 2) ∧
    (∀ (seq : BitVec 4) w0 w1 payload, s.dev.link.gate = false → (seq.toNat + 16 - (s.dev.port p).rxSeq) % 16 = 0 →
      s.dev.link.reorder = [] → s.dev.inHeld p < 16 → Completes (.sequencedFrame port seq true w0 w1 payload) s fun t =>
        (t.port p).rxSeq = ((s.dev.port p).rxSeq + 1) % 16) ∧
    (∀ b : Byte, Completes (.ack port b) s fun t => t.fld (EGL_PINFL_FREE p) = b.toNat / 16) ∧
    (∀ b : Byte, ((s.dev.port p).window.any fun f => f.1 == b.toNat % 16) = true → (s.dev.port p).rounds < 16 →
      Completes (.nak port b) s fun t => (t.port p).rounds = (s.dev.port p).rounds + 1) ∧
    ((s.dev.port p).window ≠ [] → (s.dev.port p).rounds < 16 → Completes (.resendTimeout port) s fun t =>
      (t.port p).rounds = (s.dev.port p).rounds + 1) := by
  refine ⟨fun w turnaround hkind => delayReq_answers hp hlen hup w turnaround hkind, delayRecalibration_begins hp hlen hup,
    signalLoss_shows hp hup, linkCodeErrors_shows hp hup, ?_, fun b => ack_showsFree hp hup b,
    fun b hmem hrounds => nak_round hp hlen hup hrounds hmem, fun hwindow hrounds => resendTimeout_round hp hlen hup hrounds hwindow⟩
  intro seq w0 w1 payload hgate hseq hreorder hroom
  exact (sequencedFrame_accepted hp hup ⟨hgate, hreorder⟩ hlen seq w0 w1 payload hseq hroom).mono fun t ht => ht.1

/-- What a lone operation's commands complete with. -/
theorem operationCompletes {o : Operation} (hdone : s.dev.link.done = []) (hops : s.dev.link.ops = [o]) :
    (∀ tg r, s.dev.outbox = [] → o.tag = none → o.packet.dest ≠ s.dev.ownXY → s.dev.freeTag = some tg →
      s.dev.routeOf o.packet = some r → Completes .operationIssue s fun t =>
        t.link.ops = [{ o with tag := some tg, port := r.1 }]) ∧
    (o.tag = none → o.starved = false → Completes .tagStarved s fun t => t.link.ops = [{ o with starved := true }]) ∧
    (∀ tag : BitVec 6, o.tag = some tag.toNat → o.result = none →
      (o.attempt < 3 → Completes (.opAttemptTimeout tag) s fun t => t.link.ops = [{ o with attempt := o.attempt + 1 }]) ∧
      (∀ src : BitVec 10, o.dest = src.toNat → s.dev.outbox = [] →
        (∀ payload, o.requester = 0 → Completes (.operationResponse src tag payload) s fun t => t.link.ops = []) ∧
        (∀ value, o.requester = 1 → remoteOp o = true → Completes (.remoteResp src tag value) s fun t => t.link.ops = []))) := by
  refine ⟨?_, ?_, fun tag htag hopen => ⟨?_, fun src hsrc hout => ⟨?_, ?_⟩⟩⟩
  · exact fun tg r hout htag _ hfree hroute =>
      (operationIssue_issues hout hdone hops htag hfree hroute).mono fun t ht => ht.1
  · exact fun htag hnew => (tagStarved_reports hops htag hnew).mono fun t ht => ht.1
  · exact fun hmore => (opAttemptTimeout_retries hdone hops htag hopen hmore).mono fun t ht => ht.1
  · exact fun payload hreq => (operationResponse_ends hdone hops htag hopen hout hsrc payload hreq).mono fun t ht => ht.1
  · exact fun value hreq hremote => remoteResp_ends hdone hops htag hopen hout hsrc value hreq hremote

/-- Settles O56, port by port and command by command, each by its own lemma. -/
theorem linkCommandsComplete : Obligations.LinkCommandsComplete := by
  unfold Obligations.LinkCommandsComplete
  intro s hlen
  refine ⟨fun port p hp => ?_, ?_, fun o hdone hops => operationCompletes hdone hops, ?_, ?_, ?_, ?_, ?_, ?_⟩
  · obtain ⟨hdetect, htraining, htrips⟩ := portCommandsComplete hlen hp
    refine ⟨hdetect, htraining, htrips, portUpCompletes hlen hp, ?_, ?_, ?_, ?_⟩
    · exact fun f rest hqueue => (packetAged_drops hp hlen hqueue).mono fun t ht => ht.1
    · exact fun v hkey => ⟨fun hnone hagain hstate => retrain_trains hp hlen hkey hnone hagain hstate,
        fun hnow hwas => portDisable_disables hp hkey hnow hwas⟩
    · exact fun ws stay n hn hgate hman hhops hfresh =>
        ⟨beacon_taken hp hgate hman hn hhops hfresh stay, watchBeacon_taken hgate hman hn hhops hfresh stay⟩
    · exact fun ok hmode hnew hworker hen => wakePacket_wakes hp ok hmode hnew hworker hen
  · exact fun h rest hhold => gapSkip_counts hhold
  · exact fun tag => (tagReturn_frees tag).mono fun t ht => ht.1
  · exact fun h rest flips hin hcls htype hfirst => requestDelivery_ping hin hcls htype hfirst flips
  · exact fun e rest hcache => (duplicateCacheExpiry_drops hcache).mono fun t ht => ht.1
  · exact fun src tag => ⟨fun w hfirst => ping_responds hfirst, fun hworker addr =>
      ⟨(remoteRd_answers hworker src tag addr).mono fun t ht => ⟨_, _, ht⟩,
        fun value => (remoteWr_answers hworker src tag addr value).mono fun t ht => ⟨_, ht⟩⟩⟩
  · exact fun rq addr hawake hman hreg hxy hjoined value c hc => remoteWindow_counts hawake hman hreg hxy hc hjoined
  · intro r point hheld hpoint heven
    exact (reorderRelease_sends hheld hpoint (p := r.1 / 2) (by omega)).mono fun t ht => ht.1

end Sys2Proof.Machine
end


section
/-!
SUPPORT. Console commands that only print (R68, R69, R82): what a line of words leaves, and each command by the line it
prints.
-/

namespace Sys2Proof.Machine

variable {d e : Dev} {s : State}

theorem Dev.say_line (d : Dev) (tag : Nat) (ws : List Word) : (d.say tag ws).con.line = [] := Dev.finish_line _ .ok

theorem leaves_say {as : List Nat} (h : d.leaves e as) (tag : Nat) (ws : List Word) (ha : SVC_ERR ∈ as) :
    d.leaves (e.say tag ws) as := leaves_finish (leaves_print h _ ha) .ok ha

theorem Dev.fld_say (d : Dev) (tag : Nat) (ws : List Word) {f : Fld} (hf : f.addr ≠ SVC_ERR) :
    (d.say tag ws).fld f = d.fld f :=
  (Dev.fld_finish _ .ok hf).trans ((d.print_printed _).fld hf)

/-- A command that prints a line of words ends its line and changes no register but SVC_ERR. -/
theorem Dev.say_ends (d : Dev) (tag : Nat) (ws : List Word) :
    (d.say tag ws).con.line = [] ∧ d.leaves (d.say tag ws) [SVC_ERR] :=
  ⟨d.say_line tag ws, leaves_say (d.leaves_refl _) tag ws (by decide)⟩

/-! Commands that print other lines. -/

theorem help_ends (hidle : s.dev.running = false) : Completes .help s fun t => t.con.line = [] ∧ s.dev.leaves t [SVC_ERR] :=
  completes_command rfl hidle
    ⟨Dev.finish_line _ .ok, leaves_finish (leaves_print (s.dev.leaves_refl _) _ (by decide)) .ok (by decide)⟩

theorem surfMap_ends (hidle : s.dev.running = false) :
    Completes .surfMap s fun t => t.con.line = [] ∧ s.dev.leaves t [SVC_ERR] :=
  completes_command rfl hidle
    ⟨Dev.finish_line _ .ok, leaves_finish (leaves_printAll (s.dev.leaves_refl _) _ (by decide)) .ok (by decide)⟩

theorem time_ends (hidle : s.dev.running = false) : Completes .time s fun t => t.con.line = [] ∧ s.dev.leaves t [SVC_ERR] := by
  refine completes_command rfl hidle ⟨Dev.say_line .., leaves_say ?_ _ _ (by decide)⟩
  exact leaves_mono (s.dev.leaves_takeSnapshot .console) (List.nil_subset _)

/-- A median of an even number of values takes a free choice, and nothing else of the machine. -/
theorem leaves_median (d : Dev) (vs : List Nat) (as : List Nat) : d.leaves (d.median vs).2 as := by
  unfold Dev.median
  extract_lets n
  split
  · exact d.leaves_refl _
  · exact leaves_of (d.leaves_refl _) rfl rfl rfl rfl

theorem scanNoise_ends (hidle : s.dev.running = false) :
    Completes .scanNoise s fun t => t.con.line = [] ∧ s.dev.leaves t [SVC_ERR] := by
  refine completes_command rfl hidle ⟨Dev.finish_line _ .ok, leaves_finish (leaves_foldl _ _ fun e k _ => ?_) .ok (by decide)⟩
  exact leaves_print (leaves_median ..) _ (by decide)

theorem trkBase_ends (hidle : s.dev.running = false) {t r : BitVec 8} (ht : t.toNat < s.dev.ntx) (hr : r.toNat < s.dev.nrx) :
    Completes (.trkBase t r) s fun t => t.con.line = [] ∧ s.dev.leaves t [SVC_ERR] := by
  refine completes_command rfl hidle ?_
  rw [Dev.trkBase, if_pos ⟨ht, hr⟩]
  exact ⟨Dev.finish_line _ .ok, leaves_finish (leaves_print (s.dev.leaves_refl _) _ (by decide)) .ok (by decide)⟩

/-- `img check` verifies a slot while the NVM proxy stands, and shows its code (R151). -/
theorem imgCheck_shows (hidle : s.dev.running = false) (hop : s.dev.boot.nvpOp = 0) (b : Bool) :
    Completes (.imgCheck b) s fun t => t.con.line = [] ∧ t.fld SYS_NVP_VRES_CODE =
      (s.dev.verifySlot (if b then slotBaseB else slotBaseA)).code % 2 ^ SYS_NVP_VRES_CODE.width := by
  refine completes_command rfl hidle ?_
  rw [Dev.imgCheck, if_neg (not_not_intro hop)]
  exact ⟨Dev.say_line .., (Dev.fld_say _ _ _ (by decide)).trans (Dev.noteVerify_vres ..)⟩

/-! Commands that print one line of words. -/

theorem completes_says {c : Instr} {k : ConsoleCmd} {f : Dev → Dev} {tag : Nat} {ws : List Word}
    (hexec : exec c s = s.run fun d => d.command k f) (hidle : s.dev.running = false) (hf : f s.dev = s.dev.say tag ws) :
    Completes c s fun t => t = s.dev.say tag ws := completes_command hexec hidle hf

theorem completes_saysSome {c : Instr} {k : ConsoleCmd} {f : Dev → Dev} {tag : Nat} (ws : List Word)
    (hexec : exec c s = s.run fun d => d.command k f) (hidle : s.dev.running = false) (hf : f s.dev = s.dev.say tag ws) :
    Completes c s fun t => ∃ ws, t = s.dev.say tag ws ∧ t.con.line = [] ∧ s.dev.leaves t [SVC_ERR] :=
  completes_command hexec hidle ⟨ws, hf, hf ▸ s.dev.say_ends tag ws⟩

theorem blockStat_says (hidle : s.dev.running = false) {b : BitVec 4} {lo hi : Nat} (h : statRange b.toNat = some (lo, hi)) :
    Completes (.blockStat b) s fun t =>
      t = s.dev.say (0x10 + b.toNat) (s.dev.shown (((List.range (hi - lo + 1)).map (lo + ·)).filter regDefined)) :=
  completes_says rfl hidle (by rw [Dev.blockStat, h])

theorem evrSrc_says (hidle : s.dev.running = false) {n : BitVec 10} (hn : n.toNat ≤ 511) :
    Completes (.evrSrc n) s fun t => t = s.dev.say 0x0B [s.dev.srcCfg n.toNat, s.dev.sourceStat n.toNat] :=
  completes_says rfl hidle (if_neg (by omega))

theorem lampN_says (hidle : s.dev.running = false) {n : BitVec 10} (hn : 16 ≤ n.toNat) (hfit : s.dev.lampPresent n.toNat = true) :
    Completes (.lampN n) s fun t => t = s.dev.say 0x20 [s.dev.lampStatWord n.toNat] :=
  completes_says rfl hidle (by
    simp only [Dev.consoleLampN, hfit, if_true, if_neg (show ¬n.toNat < 8 by omega), if_neg (show ¬n.toNat < 16 by omega)]
    rfl)

theorem cfgGet_says (hidle : s.dev.running = false) {p : Word} (hp : pidKnown p.toNat = true) : Completes (.cfgGet p) s fun t =>
    t = s.dev.say 0x0D [cellsGet paramDefault s.dev.cfg p.toNat, s.dev.imageValue p.toNat] :=
  completes_says rfl hidle (if_pos hp)

theorem memCol_says (hidle : s.dev.running = false) {n : BitVec 8} (hn : n.toNat ≤ 15) : Completes (.memCol n) s fun t =>
    t = s.dev.say 0xE0 [s.dev.reg (MEM_COL n.toNat), s.dev.reg (MEM_SPARE n.toNat)] :=
  completes_says rfl hidle (by rw [Dev.consoleMemCol, if_neg (by omega)]; rfl)

theorem scanLegs_says (hidle : s.dev.running = false) {n : BitVec 8} (hn : n.toNat < 160) (hrole : s.dev.elRole n.toNat = 1) :
    Completes (.scanLegs n) s fun t =>
      t = s.dev.say 0x32 [word (s.dev.fld (CAL_LEGS_EN n.toNat)), word (s.dev.fld (CAL_LEGS_GOOD n.toNat))] :=
  completes_says rfl hidle (if_pos ⟨hn, hrole⟩)

theorem scanNode_says (hidle : s.dev.running = false) {t r : BitVec 8} (ht : t.toNat < s.dev.ntx) (hr : r.toNat < s.dev.nrx)
    (hiq : s.dev.scan.iq = false) : Completes (.scanNode t r) s fun x => x = s.dev.say 0x31
      [s.dev.bank (s.dev.fld SCAN_FRAME_LAST % 4) (1024 + t.toNat * s.dev.nrx + r.toNat)] :=
  completes_says rfl hidle (by
    simp only [Dev.scanNode, if_pos (And.intro ht hr), hiq, Bool.false_eq_true, if_false]
    rfl)

theorem nvmRd_says (hidle : s.dev.running = false) (hop : s.dev.boot.nvpOp = 0) {addr : BitVec 24} {n : BitVec 8}
    (hone : 1 ≤ n.toNat) (hmost : n.toNat ≤ 64) (hend : addr.toNat + n.toNat ≤ 262144) : Completes (.nvmRd addr n) s fun t =>
      t = s.dev.say 0x06 ((s.dev.nvmRead addr.toNat n.toNat).map fun b => word b.toNat) :=
  completes_says rfl hidle (by rw [Dev.nvmShow, if_neg (by omega), if_neg (not_not_intro hop)])

/-! The commands of O60 that print, as it groups them. -/

/-- The prints whose words O60 names. -/
theorem statusPrints_say (hidle : s.dev.running = false) : ∀ c tag ws, (c, tag, ws) ∈ [
      (Instr.id, 0x01, s.dev.shown [SYS_PARTID, SYS_REV] ++ [word s.dev.role, word (s.dev.fld EGL_TILE_X),
        word (s.dev.fld EGL_TILE_Y), word s.dev.mode] ++ s.dev.shown [SVC_STAT]),
      (.bootStat, 0x04, s.dev.shown [SYS_BOOT, SYS_IMGSEQ, SYS_IMGLEN, SYS_IMGERR, SYS_FUSE]),
      (.pwrWake, 0x08, [word (s.dev.fld PWR_WAKEEN_EN), word (s.dev.fld PWR_WAKECNT_STORMOFF)]),
      (.surfStat, 0x30, s.dev.shown [EGL_TILE, EGL_SURF, EGL_GRID, EGL_HCNT, EGL_FWD]),
      (.logStat, 0xD1, [s.dev.reg CAL_LOGSTAT, s.dev.reg CAL_LOGSEQ, s.dev.reg CAL_LOGQ]),
      (.trkRpt, 0x42, [s.dev.reg TRK_RPT_STAT, s.dev.reg TRK_RPT_CNT, s.dev.rpt.lastFlags])] →
      Completes c s fun t => t = s.dev.say tag ws := by
  intro c tag ws hmem
  simp only [List.mem_cons, List.not_mem_nil, or_false, Prod.mk.injEq] at hmem
  obtain ⟨rfl, rfl, rfl⟩ | ⟨rfl, rfl, rfl⟩ | ⟨rfl, rfl, rfl⟩ | ⟨rfl, rfl, rfl⟩ | ⟨rfl, rfl, rfl⟩ | ⟨rfl, rfl, rfl⟩ := hmem
  all_goals exact completes_says rfl hidle rfl

/-- The prints whose words are tables. -/
theorem tablePrints_say (hidle : s.dev.running = false) : ∀ c tag, (c, tag) ∈ [(Instr.sysStat, 0x03), (.pwrStat, 0x07),
      (.timeStat, 0x09), (.cfgStat, 0x0C), (.cfgDelta, 0x0E), (.gdeWin, 0xF1), (.irxRaw, 0x91), (.telem, 0xD2),
      (.trkHop, 0x40)] → Completes c s fun t => ∃ ws, t = s.dev.say tag ws ∧ t.con.line = [] ∧ s.dev.leaves t [SVC_ERR] := by
  intro c tag hmem
  simp only [List.mem_cons, List.not_mem_nil, or_false, Prod.mk.injEq] at hmem
  obtain ⟨rfl, rfl⟩ | ⟨rfl, rfl⟩ | ⟨rfl, rfl⟩ | ⟨rfl, rfl⟩ | ⟨rfl, rfl⟩ | ⟨rfl, rfl⟩ | ⟨rfl, rfl⟩ | ⟨rfl, rfl⟩ | ⟨rfl, rfl⟩ := hmem
  all_goals exact completes_saysSome _ rfl hidle rfl

/-- The other commands that O60 names for their line alone. -/
theorem plainPrints_end (hidle : s.dev.running = false) : ∀ c, c ∈ [Instr.help, .surfMap, .scanNoise, .time] →
    Completes c s fun t => t.con.line = [] ∧ s.dev.leaves t [SVC_ERR] := by
  intro c hmem
  simp only [List.mem_cons, List.not_mem_nil, or_false] at hmem
  obtain rfl | rfl | rfl | rfl := hmem
  · exact help_ends hidle
  · exact surfMap_ends hidle
  · exact scanNoise_ends hidle
  · exact time_ends hidle

end Sys2Proof.Machine
end


section
/-!
SUPPORT. The console's lamp and rail commands (R686, R714, R718, R720, R736, R746, R768, R771).
-/

namespace Sys2Proof.Machine

variable {d e : Dev} {s : State}

/-- A command of the full command set that acts and ends in OK. -/
theorem completes_fullCommand {c : Instr} {k : ConsoleCmd} {f : Dev → Dev} {P : Dev → Prop}
    (hexec : exec c s = s.run fun d => d.command k fun d => if d.fullSet then (f d).finishOk else d.finishErr 6)
    (hidle : s.dev.running = false) (hset : s.dev.fullSet = true) (hp : P ((f s.dev).finish .ok)) : Completes c s P :=
  completes_command hexec hidle (by rw [if_pos hset]; exact hp)

theorem Dev.finish_rail (d : Dev) (status : OutLine) : (d.finish status).rail = d.rail :=
  d.finish_keeps status (·.rail) fun _ _ _ => rfl

theorem Dev.finish_lamp (d : Dev) (status : OutLine) : (d.finish status).lamp = d.lamp :=
  d.finish_keeps status (·.lamp) fun _ _ _ => rfl

theorem Dev.lampAt_finish (d : Dev) (status : OutLine) (n : Nat) : (d.finish status).lampAt n = d.lampAt n := by
  rw [Dev.lampAt, Dev.finish_lamp]
  rfl

theorem Dev.tripped_finish (d : Dev) (status : OutLine) (g : Nat) : (d.finish status).tripped g = d.tripped g := by
  rw [Dev.tripped, d.fld_finish status (by decide)]
  rfl

/-! Lamps (R746, R768, R771). -/

theorem lampClear_untripped (hidle : s.dev.running = false) {g : BitVec 4} (hclr : s.dev.groupClr g.toNat ≤ 1)
    (htrip : s.dev.tripped g.toNat = false) : Completes (.lampClear g) s fun t => t = s.dev.finishOk := by
  refine completes_command rfl hidle ?_
  rw [Dev.consoleLampClear, if_neg (by omega), Dev.clearGroup_untripped htrip]

theorem lampClear_clears (hidle : s.dev.running = false) {g : BitVec 4} (hclr : s.dev.groupClr g.toNat ≤ 1)
    (htrip : s.dev.tripped g.toNat = true) : Completes (.lampClear g) s fun t => t.tripped g.toNat = false ∧ t.con.line = [] ∧
      s.dev.leavesRing t [LAMP_TRIP] ∧
      ∀ n ∈ s.dev.groupLamps g.toNat, (t.lampAt n).level = 0 ∧ (t.lampAt n).fault = 0 := by
  have hcleared := Dev.clearGroup_clears g.isLt htrip 1
  refine completes_command rfl hidle ?_
  rw [Dev.consoleLampClear, if_neg (by omega), Dev.finishOk_eq, Dev.tripped_finish]
  refine ⟨hcleared.untripped, Dev.finish_line .., leavesRing_finish hcleared.leaves .ok, fun n hn => ?_⟩
  rw [Dev.lampAt_finish, hcleared.lamps n hn]
  exact ⟨rfl, rfl⟩

theorem lampClear_ends (hidle : s.dev.running = false) {g : BitVec 4} (hclr : s.dev.groupClr g.toNat ≤ 1) :
    Completes (.lampClear g) s fun t => t.tripped g.toNat = false := by
  cases htrip : s.dev.tripped g.toNat with
  | false =>
    refine (lampClear_untripped hidle hclr htrip).mono fun t ht => ?_
    rw [ht, Dev.finishOk_eq, Dev.tripped_finish, htrip]
  | true => exact (lampClear_clears hidle hclr htrip).mono fun t ht => ht.1

theorem lampSet_moves (hidle : s.dev.running = false) (hset : s.dev.fullSet = true) {n : BitVec 10} (level : BitVec 12)
    (ms : BitVec 14) (hruns : s.dev.lampRuns true = true) (hmode : s.dev.mode ≠ modeWatch)
    (hfree : s.dev.commandRefused false n.toNat = false) : Completes (.lampSet n level ms) s fun t =>
      t.lampAt n.toNat = { s.dev.lampAt n.toNat with
        curve := false, cmd := some (s.dev.lamp.nextNum, (s.dev.lampAt n.toNat).level, level.toNat, ms.toNat, 0) } ∧
      (∀ k, k ≠ n.toNat → t.lampAt k = s.dev.lampAt k) ∧ t.con.line = [] ∧ s.dev.leaves t [LAMP_CNT, SVC_ERR] := by
  have hmoves := Dev.lampPerform_moves hfree level.toNat ms.toNat 0 false
  have heq : s.dev.consoleLampSet n.toNat level.toNat ms.toNat =
      (s.dev.lampPerform false n.toNat level.toNat ms.toNat 0 false).finish .ok := by
    have hfade : (if s.dev.mode == modeWatch then 0 else ms.toNat) = ms.toNat := if_neg (by simpa using hmode)
    simp only [Dev.consoleLampSet, hset, hruns, hfree, hfade, Bool.not_true, Bool.false_eq_true, if_false]
    rfl
  refine completes_command rfl hidle ?_
  rw [heq, Dev.lampAt_finish]
  refine ⟨hmoves.moved n.toNat (by simp [Dev.commandLamps]), fun k hk => ?_, Dev.finish_line ..,
    leaves_finish (leaves_mono hmoves.leaves (by simp)) .ok (by decide)⟩
  rw [Dev.lampAt_finish]
  exact hmoves.others k (by simpa [Dev.commandLamps] using hk)

/-! Rails (R714, R718, R720, R736). -/

/-- A VTX command that acts leaves VTX with its target, whether it begins or is over at once. -/
theorem Dev.vtxGo_targets {console : Bool} (h : d.railActs console = true) (v tag : Nat) :
    (d.vtxGo v tag console).rail.vtxTgt = v * 10 := by
  by_cases htgt : d.rail.vtxTgt = v * 10
  · unfold Dev.vtxGo
    extract_lets mv _ x y
    split
    · split
      · rw [Dev.railDone_vtx_rail]
        exact htgt
      · have hcommand := Dev.followVtx_vtxCommand (y.setRail { y.rail with vtxCmd := some tag })
        refine (congrArg (·.1) hcommand).trans (?_ : y.rail.vtxTgt = _)
        rw [Dev.noteVtx_rail, Dev.setVtxTgt_rail]
    · exact htgt
  · rw [Dev.vtxGo_begins tag h htgt]
    exact congrArg (·.1) (vtxBegun_follows d (v * 10) tag).1

section

variable (hidle : s.dev.running = false) (hset : s.dev.fullSet = true)
include hidle hset

theorem railVtx_targets {v : BitVec 13} (hacts : s.dev.railActs true = true) (hfixed : s.dev.flag RAIL_STAT_FIXED = false)
    (hlo : 600 ≤ v.toNat) (hhi : v.toNat ≤ 2000) : Completes (.railVtx v) s fun t => t.rail.vtxTgt = v.toNat * 10 := by
  refine completes_fullCommand (f := fun d => d.vtxSet v.toNat 0 true) rfl hidle hset ?_
  rw [Dev.finish_rail, Dev.vtxSet_eq, Dev.clampVtx_inRange hlo hhi hfixed]
  exact Dev.vtxGo_targets hacts ..

theorem railVtx_begins {v : BitVec 13} (hacts : s.dev.railActs true = true) (hfixed : s.dev.flag RAIL_STAT_FIXED = false)
    (hlo : 600 ≤ v.toNat) (hhi : v.toNat ≤ 2000) (htgt : s.dev.rail.vtxTgt ≠ v.toNat * 10) :
    Completes (.railVtx v) s fun t => t.rail.vtxTgt = v.toNat * 10 ∧ t.rail.vtxCmd = some 0 ∧ t.con.line = [] ∧
      s.dev.leaves t [RAIL_SUPERSEDED, SVC_ERR] := by
  obtain ⟨hcommand, hleaves⟩ := vtxBegun_follows s.dev (v.toNat * 10) 0
  refine completes_fullCommand (f := fun d => d.vtxSet v.toNat 0 true) rfl hidle hset ?_
  rw [Dev.finish_rail, Dev.vtxSet_eq, Dev.clampVtx_inRange hlo hhi hfixed, Dev.vtxGo_begins 0 hacts htgt]
  exact ⟨congrArg (·.1) hcommand, congrArg (·.2.2) hcommand, Dev.finish_line ..,
    leaves_finish (leaves_mono hleaves (by simp)) .ok (by decide)⟩

theorem railVled_fixes (v : BitVec 13) : Completes (.railVled v) s fun t => t.flag RAIL_STAT_FIXED = true := by
  refine completes_fullCommand (f := fun d => d.vledFix v.toNat 0 true) rfl hidle hset ?_
  rw [Dev.flag_finish _ _ (by decide)]
  exact Dev.vledFix_fixed ..

theorem railVledAuto_adapts : Completes .railVledAuto s fun t => t.flag RAIL_STAT_FIXED = false := by
  refine completes_fullCommand (f := fun d => d.vledAuto 0 true) rfl hidle hset ?_
  rw [Dev.flag_finish _ _ (by decide)]
  exact Dev.vledAuto_adapts ..

/-- A VLED command from the console that acts: the fixed target above the VTX target is taken as it is. -/
theorem railVled_begins {v : BitVec 13} (hacts : s.dev.railActs true = true) (hfitted : s.dev.boostFitted = true)
    (hsoft : s.dev.rail.vledSoft = none) (hlo : 800 ≤ v.toNat) (hhi : v.toNat ≤ 4800)
    (hvtx : s.dev.rail.vtxTgt / 10 + 200 ≤ v.toNat) (htgt : s.dev.rail.vledTgt ≠ v.toNat * 10) :
    Completes (.railVled v) s fun t => t.rail.vledTgt = v.toNat * 10 ∧ t.rail.vledCmd = some 0 ∧
      t.flag RAIL_STAT_FIXED = true ∧ t.con.line = [] ∧ s.dev.leaves t [RAIL_STAT, RAIL_SUPERSEDED, SVC_ERR] := by
  have heq : s.dev.vledFix v.toNat 0 true = (s.dev.vledNoted v.toNat).vledGo (v.toNat * 10) 0 := by
    have hclamp : max 800 (min v.toNat 4800) = v.toNat := by omega
    have hbound : max v.toNat (s.dev.rail.vtxTgt / 10 + 200) = v.toNat := by omega
    have hgoes : ((s.dev.vledNoted v.toNat).railActs true && (s.dev.vledNoted v.toNat).boostFitted) = true :=
      Bool.and_eq_true_iff.2 ⟨(s.dev.railActs_setFixed true true).trans hacts, hfitted⟩
    simp only [Dev.vledFix, hclamp, Dev.railClamp_same, hacts, if_true, hbound]
    exact if_pos hgoes
  obtain ⟨hvled, hcmd, -, hrailed⟩ := Dev.vledGo_begins (d := s.dev.vledNoted v.toNat) 0 hsoft htgt
  refine completes_fullCommand (f := fun d => d.vledFix v.toNat 0 true) rfl hidle hset ?_
  rw [heq, Dev.finish_rail, Dev.flag_finish _ _ (by decide)]
  exact ⟨hvled, hcmd, (hrailed.flag (by decide)).trans (Dev.vledNoted_fixed _ _), Dev.finish_line ..,
    leaves_finish (Dev.Railed.leaves (alters_trans (alters_mono (railed_vledNoted _ _) (by decide))
      (alters_mono hrailed (by decide)))) .ok (by decide)⟩

theorem railVledAuto_begins (hacts : s.dev.railActs true = true) (hfitted : s.dev.boostFitted = true)
    (hsoft : s.dev.rail.vledSoft = none) (htgt : s.dev.rail.vledTgt ≠ s.dev.adaptiveVled) :
    Completes .railVledAuto s fun t => t.rail.vledTgt = s.dev.adaptiveVled ∧ t.rail.vledCmd = some 0 ∧
      t.flag RAIL_STAT_FIXED = false ∧ t.con.line = [] ∧ s.dev.leaves t [RAIL_STAT, RAIL_SUPERSEDED, SVC_ERR] := by
  have hflag : (s.dev.setFlag RAIL_STAT_FIXED false).flag RAIL_STAT_FIXED = false :=
    Dev.flag_setFlag_same _ _ _ (by decide) (by decide)
  obtain ⟨hvled, hcmd, -, hrailed⟩ := Dev.vledGo_begins (d := s.dev.setFlag RAIL_STAT_FIXED false) 0 hsoft htgt
  refine completes_fullCommand (f := fun d => d.vledAuto 0 true) rfl hidle hset ?_
  rw [Dev.finish_rail, Dev.flag_finish _ _ (by decide), Dev.vledAuto_eq, if_pos (by simp [hacts, hfitted])]
  exact ⟨hvled, hcmd, (hrailed.flag (by decide)).trans hflag, Dev.finish_line ..,
    leaves_finish (Dev.Railed.leaves (alters_trans (alters_setFlag (alters_refl _) (by decide))
      (alters_mono hrailed (by decide)))) .ok (by decide)⟩

theorem railRestart_begins (hlatched : s.dev.fld RAIL_STAT_VLEDST = 6) : Completes .railRestart s fun t =>
    t.fld RAIL_STAT_VLEDST = 1 ∧ t.fld RAIL_STAT_ATTEMPT = 1 ∧ t.rail.vledSoft = some (s.dev.rail.vhv, 0) ∧ t.con.line = [] ∧
      s.dev.leaves t [RAIL_STAT, SVC_ERR] := by
  obtain ⟨hstate, hattempt, hsoft, -, hleaves⟩ := beginSoftStart_begins s.dev (attempt := 1) (by decide)
  refine completes_fullCommand (f := Dev.leaveLatch) rfl hidle hset ?_
  rw [Dev.leaveLatch, if_pos hlatched, Dev.fld_finish _ _ (by decide), Dev.fld_finish _ _ (by decide), Dev.finish_rail]
  exact ⟨hstate, hattempt, hsoft, Dev.finish_line .., leaves_finish (leaves_mono hleaves (by simp)) .ok (by decide)⟩

end

end Sys2Proof.Machine
end


section
/-!
SUPPORT. The length of a printed line of words (R68, R82), and the console's column repair (R670).
-/

namespace Sys2Proof.Machine

variable {d e : Dev} {s : State}

/-! What a line of words takes of the transmit buffer (R82). -/

theorem hexText_length (k v : Nat) : (hexText k v).length = k := by
  induction k generalizing v with
  | zero => rfl
  | succ k ih => simp [hexText, ih]

/-- Fields of one length with a space after each but the last. -/
theorem spaced_length_le {k : Nat} (ws : List (List Byte)) (h : ∀ w ∈ ws, w.length = k) :
    (spaced ws).length ≤ (k + 1) * ws.length := by
  induction ws with
  | nil => simp [spaced]
  | cons w rest ih =>
    have hw : w.length = k := h w List.mem_cons_self
    have hrest := ih fun x hx => h x (List.mem_cons_of_mem _ hx)
    cases rest with
    | nil => simp [spaced, hw]
    | cons x rest =>
      simp only [spaced, List.length_append, List.length_cons, hw, Nat.mul_add] at hrest ⊢
      omega

theorem OutLine.values_bytes_le (tag : Nat) (ws : List Word) : (OutLine.values tag ws).bytes ≤ 7 * ws.length + 2 := by
  have hlen := spaced_length_le (k := 6) (ws.map fun w => hexText 6 w.toNat) fun x hx => by
    obtain ⟨w, -, rfl⟩ := List.mem_map.1 hx
    exact hexText_length ..
  rw [List.length_map] at hlen
  exact Nat.add_le_add_right hlen 2

theorem OutLine.ok_bytes : OutLine.ok.bytes = 4 := by decide

theorem OutLine.prompt_bytes_le (full : Bool) : (OutLine.prompt full).bytes ≤ 5 := by cases full <;> decide

/-- The machine with lines printed in the room of its transmit buffer. -/
def Dev.withOut (d : Dev) (ls : List OutLine) : Dev := d.setCon { d.con with out := d.con.out ++ ls }

theorem Dev.withOut_level_le (d : Dev) (l : OutLine) : (d.withOut [l]).con.level ≤ d.con.level + l.bytes := by
  simp only [Dev.withOut, Dev.setCon, Console.level, List.map_append, List.sum_append, List.map_cons, List.map_nil, List.sum_cons,
    List.sum_nil]
  omega

theorem Dev.print_room {l : OutLine} (hdropped : d.con.dropped = 0) (hroom : d.con.level + l.bytes ≤ 2048) :
    d.print l = d.withOut [l] := by
  unfold Dev.print
  rw [if_pos hdropped, if_pos hroom]
  rfl

theorem Dev.say_room {tag : Nat} {ws : List Word} (hdropped : d.con.dropped = 0)
    (hroom : d.con.level + 7 * ws.length + 11 ≤ 2048) :
    d.say tag ws = ((d.withOut [.values tag ws]).dropLine.withOut [.ok]).withOut [.prompt d.fullSet] := by
  have hvalues := OutLine.values_bytes_le tag ws
  have hok := OutLine.ok_bytes
  have hprompt := OutLine.prompt_bytes_le d.fullSet
  have hlevel := d.withOut_level_le (.values tag ws)
  have hlevel' := (d.withOut [.values tag ws]).dropLine.withOut_level_le .ok
  have hsame : (d.withOut [.values tag ws]).dropLine.con.level = (d.withOut [.values tag ws]).con.level := rfl
  have hprint := Dev.print_room (d := d) (l := .values tag ws) hdropped (by omega)
  have hend := Dev.print_room (d := (d.withOut [.values tag ws]).dropLine) (l := .ok) hdropped (by omega)
  have hnext := Dev.print_room (d := (d.withOut [.values tag ws]).dropLine.withOut [.ok]) (l := .prompt d.fullSet) hdropped (by omega)
  rw [Dev.say, hprint, Dev.finishOk_eq, Dev.finish, Dev.statusLine, hend]
  exact hnext

/-- A command that may go on, but prints one line of words and ends in OK. -/
theorem Dev.says_dropLine_say (d : Dev) (tag : Nat) (ws : List Word) : d.says (d.dropLine.say tag ws) tag ws := by
  refine ⟨Dev.say_line .., leaves_say (leaves_dropLine (d.leaves_refl _)) tag ws (by decide), fun hdropped hroom => ?_⟩
  rw [Dev.say_room (d := d.dropLine) hdropped hroom]
  simp only [Dev.withOut, Dev.dropLine, Dev.setCon, List.append_assoc]
  rfl

/-! `mem repair` (R670). -/

theorem Dev.repairCheck_dropLine (d : Dev) (bank c : Nat) : d.dropLine.repairCheck bank c = d.repairCheck bank c := rfl

theorem Dev.setReg_dropLine (d : Dev) (a : Nat) (w : Word) : d.dropLine.setReg a w = (d.setReg a w).dropLine := rfl

theorem Dev.repair_setReg_dropLine (d : Dev) (a : Nat) (w : Word) : (d.setReg a w).dropLine.mem.repair = d.mem.repair := rfl

theorem Dev.reg_dropLine (d : Dev) (a : Nat) : d.dropLine.reg a = d.reg a := rfl

section

variable {n : BitVec 8} {c : BitVec 16} (hidle : s.dev.running = false) (hset : s.dev.fullSet = true) (hn : n.toNat ≤ 15)
  (hc : c.toNat ≤ 959) (hnone : s.dev.mem.repair = none)
include hidle hset hn hc hnone

/-- A column repair from the console in range, while none runs: it runs on, or shows MEM_REPSTAT. -/
theorem completes_memRepair {P : Dev → Prop} (hruns : (s.dev.dropLine.repairBegin n.toNat c.toNat true).mem.repair.isSome = true →
      P (s.dev.dropLine.repairBegin n.toNat c.toNat true))
    (hends : (s.dev.dropLine.repairBegin n.toNat c.toNat true).mem.repair.isSome = false →
      P ((s.dev.dropLine.repairBegin n.toNat c.toNat true).say 0xE1
        [(s.dev.dropLine.repairBegin n.toNat c.toNat true).reg MEM_REPSTAT])) :
    Completes (.memRepair n c) s P := by
  refine completes_longCommand rfl hidle ?_
  have hset' : ¬ s.dev.dropLine.fullSet = false := ne_false_of_eq_true hset
  have hnone' : ¬ s.dev.dropLine.mem.repair.isSome = true := by simpa [Dev.dropLine, Dev.setCon] using hnone
  rw [Dev.consoleRepair, if_neg hset', if_neg (by omega), if_neg hnone']
  dsimp only
  split
  · exact hruns ‹_›
  · exact hends (Bool.eq_false_iff.2 ‹_›)

theorem memRepair_starts (hcheck : s.dev.repairCheck n.toNat c.toNat = 0) : Completes (.memRepair n c) s fun t =>
    t.mem.repair = some (n.toNat, c.toNat) ∧ t.mem.console = true ∧ t.flag MEM_STAT_REPAIRING = true ∧
      (s.dev.flag RAIL_STAT_FIXED = false → t.rail.vtxTgt = 9000 ∧
        s.dev.leaves t [MEM_REPSTAT, MEM_STAT, RAIL_STAT, RAIL_SUPERSEDED]) := by
  obtain ⟨sp, hsp⟩ := Dev.freeSpare_of_check hcheck
  have heq : s.dev.dropLine.repairBegin n.toNat c.toNat true = (s.dev.dropLine.repairShown n.toNat c.toNat sp true).repairVtxOn :=
    Dev.repairBegin_starts true hcheck hsp
  have hshown : (s.dev.dropLine.repairShown n.toNat c.toNat sp true).flag MEM_STAT_REPAIRING = true :=
    Dev.flag_setFlag_same _ _ _ (by decide) (by decide)
  have hfixed (h : s.dev.flag RAIL_STAT_FIXED = false) :
      (s.dev.dropLine.repairShown n.toNat c.toNat sp true).flag RAIL_STAT_FIXED = false :=
    (Dev.flag_setFlag_apart _ _ (by decide) (by decide)).trans
      ((congrArg (· != 0) (Dev.fld_setReg_ne _ _ (by decide))).trans h)
  have hleaves : s.dev.leaves (s.dev.dropLine.repairShown n.toNat c.toNat sp true)
      [MEM_REPSTAT, MEM_STAT, RAIL_STAT, RAIL_SUPERSEDED] :=
    leaves_setFlag (leaves_setReg (leaves_dropLine (s.dev.leaves_refl _)) (by decide)) (by decide)
  have hmem : (s.dev.dropLine.repairShown n.toNat c.toNat sp true).mem.repair = some (n.toNat, c.toNat) ∧
      (s.dev.dropLine.repairShown n.toNat c.toNat sp true).mem.console = true := ⟨rfl, rfl⟩
  generalize s.dev.dropLine.repairShown n.toNat c.toNat sp true = y at *
  have hvtx := y.repairVtxOn_keeps
  have hrepair : y.repairVtxOn.mem.repair = some (n.toNat, c.toNat) := (hvtx.keeps (·.mem.repair) fun _ => rfl).trans hmem.1
  refine completes_memRepair hidle hset hn hc hnone (fun _ => ?_) fun hends => ?_
  · rw [heq]
    refine ⟨hrepair, (hvtx.keeps (·.mem.console) fun _ => rfl).trans hmem.2, (hvtx.flag (by decide) (by decide)).trans hshown,
      fun hfix => ?_⟩
    obtain ⟨hrailed, htgt⟩ := railed_repairVtxOn (hfixed hfix)
    exact ⟨htgt, leaves_alters hleaves hrailed (by simp) offRails_spares⟩
  · rw [heq, hrepair] at hends
    exact absurd hends Bool.noConfusion

theorem memRepair_refused (hcheck : s.dev.repairCheck n.toNat c.toNat ≠ 0) : Completes (.memRepair n c) s fun t =>
    ∃ e : Dev, e = s.dev.setReg MEM_REPSTAT (pack [(s.dev.repairCheck n.toNat c.toNat, 20), (n.toNat, 15), (c.toNat, 0)]) ∧
      e.says t 0xE1 [pack [(s.dev.repairCheck n.toNat c.toNat, 20), (n.toNat, 15), (c.toNat, 0)]] := by
  have heq : s.dev.dropLine.repairBegin n.toNat c.toNat true =
      (s.dev.setReg MEM_REPSTAT (pack [(s.dev.repairCheck n.toNat c.toNat, 20), (n.toNat, 15), (c.toNat, 0)])).dropLine := by
    rw [← Dev.repairCheck_dropLine] at hcheck ⊢
    rw [Dev.repairBegin_refused (d := s.dev.dropLine) true hnone (by omega) hcheck, Dev.setReg_dropLine]
  refine completes_memRepair hidle hset hn hc hnone (fun hruns => ?_) fun _ => ⟨_, rfl, ?_⟩
  · rw [heq, Dev.repair_setReg_dropLine, hnone] at hruns
    exact absurd hruns Bool.noConfusion
  · rw [heq, Dev.reg_dropLine, Dev.reg_setReg, if_pos rfl]
    exact Dev.says_dropLine_say ..

end

end Sys2Proof.Machine
end


section
/-!
SUPPORT. The test of the gather engine by the console (R686): the words of bank 15 to bank 14.
-/

namespace Sys2Proof.Machine

variable {d e : Dev} {s : State}

/-- Words of bank 15 copied to their places in bank 14. -/
def Dev.testCopy (d : Dev) (ws : List Nat) : Dev := ws.foldl (fun d w => d.writeWord 14 w (d.bank 15 w)) d

theorem bankAddr_ne {b b' : Nat} (h : b ≠ b') (w w' : Nat) : bankAddr b w ≠ bankAddr b' w' := by
  simp only [bankAddr]
  omega

theorem Dev.reg_testCopy (d : Dev) (ws : List Nat) (a : Nat) : (d.testCopy ws).reg a = d.reg a :=
  List.foldlRecOn (motive := fun e : Dev => e.reg a = d.reg a) _ _ rfl fun _ h _ _ => h

theorem Dev.bank_testCopy_apart (d : Dev) (ws : List Nat) {b : Nat} (hb : b ≠ 14) (w : Nat) :
    (d.testCopy ws).bank b w = d.bank b w :=
  List.foldlRecOn (motive := fun e : Dev => e.bank b w = d.bank b w) _ _ rfl fun e h x _ =>
    (Dev.bank_setBank e 14 x b w _).trans ((if_neg (bankAddr_ne hb w x)).trans h)

theorem Dev.bank_testCopy (d : Dev) (ws : List Nat) (hws : ∀ w ∈ ws, w < 16384) {w : Nat} (hw : w < 16384) :
    (d.testCopy ws).bank 14 w = if w ∈ ws then d.bank 15 w else d.bank 14 w := by
  induction ws generalizing d with
  | nil => rfl
  | cons x ws ih =>
    have hx : x < 16384 := hws x List.mem_cons_self
    have hat : bankAddr 14 w = bankAddr 14 x ↔ w = x := by
      simp only [bankAddr]
      omega
    have hone (b : Nat) : (d.writeWord 14 x (d.bank 15 x)).bank b w =
      if bankAddr b w = bankAddr 14 x then d.bank 15 x else d.bank b w := Dev.bank_setBank ..
    refine (ih (d.writeWord 14 x (d.bank 15 x)) fun y hy => hws y (List.mem_cons_of_mem _ hy)).trans ?_
    rw [hone 15, hone 14, if_neg (bankAddr_ne (by decide) w x)]
    by_cases hin : w ∈ ws
    · rw [if_pos hin, if_pos (List.mem_cons_of_mem _ hin)]
    · by_cases heq : w = x
      · rw [if_neg hin, if_pos (hat.2 heq), if_pos (heq ▸ List.mem_cons_self), heq]
      · rw [if_neg hin, if_neg (hat.not.2 heq), if_neg (List.not_mem_cons_of_ne_of_not_mem heq hin)]

theorem Dev.bank_finish (d : Dev) (status : OutLine) (b w : Nat) : (d.finish status).bank b w = d.bank b w :=
  d.finish_keeps status (·.bank b w) fun _ _ _ => rfl

theorem Dev.bank_print (d : Dev) (l : OutLine) (b w : Nat) : (d.print l).bank b w = d.bank b w :=
  (d.print_printed l).keeps (·.bank b w) fun _ _ _ => rfl

theorem Dev.reg_print (d : Dev) (l : OutLine) {a : Nat} (ha : a ≠ SVC_ERR) : (d.print l).reg a = d.reg a :=
  (d.print_printed l).2 a ha

/-- What the test prints when every word of bank 15 can be read: its size, its time and no mismatch. -/
theorem gdeTest_copies (hidle : s.dev.running = false) (hset : s.dev.fullSet = true) {n : BitVec 16} (hone : 1 ≤ n.toNat)
    (hmost : n.toNat ≤ 4096) (hfree : (s.dev.chan 1).active = none) (hrepair : s.dev.mem.repair = none)
    (hgood : s.dev.testBad n.toNat = []) : Completes (.gdeTest n) s fun t =>
      (∀ w < n.toNat, t.bank 14 w = s.dev.bank 15 w) ∧ (∀ b w, b < 16 → b ≠ 14 → t.bank b w = s.dev.bank b w) ∧
        t.con.line = [] ∧ ∀ a, a ≠ SVC_ERR → t.reg a = s.dev.reg a := by
  refine completes_command rfl hidle ?_
  have hset' : ¬ s.dev.fullSet = false := ne_false_of_eq_true hset
  have hbusy : ¬ ((s.dev.chan 1).active.isSome ∨ s.dev.taken 14 = true ∨ s.dev.taken 15 = true) := by
    simp [hfree, Dev.taken_free hrepair]
  have hwords : ((List.range n.toNat).filter fun w => !([] : List Nat).contains w) = List.range n.toNat :=
    List.filter_eq_self.2 fun _ _ => rfl
  have heq : s.dev.consoleGdeTest n.toNat = ((((s.dev.testCopy (List.range n.toNat)).draw 16777216).2.print
      (.values 0xF2 [word n.toNat, word ((s.dev.testCopy (List.range n.toNat)).draw 16777216).1, word 0]))).finish .ok := by
    rw [Dev.consoleGdeTest, if_neg hset', if_neg (by omega), if_neg hbusy, hgood]
    dsimp only
    rw [hwords]
    rfl
  have hsmall : ∀ w ∈ List.range n.toNat, w < 16384 := fun w hw => by
    have := List.mem_range.1 hw
    omega
  rw [heq]
  refine ⟨fun w hw => ?_, fun b w _ hb => ?_, Dev.finish_line .., fun a ha => ?_⟩
  · rw [Dev.bank_finish, Dev.bank_print]
    exact (s.dev.bank_testCopy _ hsmall (by omega)).trans (if_pos (List.mem_range.2 hw))
  · rw [Dev.bank_finish, Dev.bank_print]
    exact s.dev.bank_testCopy_apart _ hb w
  · rw [Dev.reg_finish _ _ ha, Dev.reg_print _ _ ha]
    exact s.dev.reg_testCopy _ a

end Sys2Proof.Machine
end


section
/-!
SUPPORT. The console's converter commands (R829, R833, R842 to R844).
-/

namespace Sys2Proof.Machine

variable {d e : Dev} {s : State} {as : List Nat}

theorem Dev.finish_hka (d : Dev) (status : OutLine) : (d.finish status).hka = d.hka :=
  d.finish_keeps status (·.hka) fun _ _ _ => rfl

theorem Dev.print_hka (d : Dev) (l : OutLine) : (d.print l).hka = d.hka :=
  (d.print_printed l).keeps (·.hka) fun _ _ _ => rfl

theorem Dev.hkaChan_finish (d : Dev) (status : OutLine) (c : Nat) : (d.finish status).hkaChan c = d.hkaChan c := by
  rw [Dev.hkaChan, Dev.finish_hka]
  rfl

theorem Dev.hkaChan_print (d : Dev) (l : OutLine) (c : Nat) : (d.print l).hkaChan c = d.hkaChan c := by
  rw [Dev.hkaChan, Dev.print_hka]
  rfl

/-! `hka ch` (R829). -/

theorem Dev.hkaSnap_console (d : Dev) (value : Word) : (d.hkaSnap .console value).hka =
    { d.hka with snaps := d.hka.snaps.set 2 (wGet value 0 4, (d.hkaChan (wGet value 0 4)).h) } :=
  congrArg Dev.hka (if_neg fun h => h.2 rfl)

theorem hkaCh_shows (hidle : s.dev.running = false) {n : BitVec 8} (hn : n.toNat ≤ 15) : Completes (.hkaCh n) s fun t =>
    t.hka = { s.dev.hka with snaps := s.dev.hka.snaps.set 2 (n.toNat, (s.dev.hkaChan n.toNat).h) } ∧ t.con.line = [] ∧
      s.dev.leaves t [SVC_ERR] := by
  refine completes_command rfl hidle ?_
  have hc : wGet (word n.toNat) 0 4 = n.toNat := by
    have hnum : wGet (word n.toNat) 0 4 = n.toNat % 2 ^ 24 % 2 ^ 4 := by
      simp only [wGet, word, BitVec.toNat_ofNat, Nat.shiftRight_zero]
    omega
  have hsnap : (s.dev.hkaSnap .console (word n.toNat)).hka =
      { s.dev.hka with snaps := s.dev.hka.snaps.set 2 (n.toNat, (s.dev.hkaChan n.toNat).h) } := by
    rw [Dev.hkaSnap_console, hc]
  rw [Dev.consoleHkaCh, if_neg (by omega), Dev.finishOk_eq, Dev.finish_hka, Dev.print_hka]
  exact ⟨hsnap, Dev.finish_line .., leaves_finish (leaves_print (leaves_hkaSnap ..) _ (by decide)) .ok (by decide)⟩

/-! `hka conv` (R833). -/

/-- A comparator keeps the H set of its channel. -/
theorem Dev.hkaChan_judgeBand_h (d : Dev) {c : Nat} (h : c < d.hka.chans.length) (v : Word) (ovr : Nat) :
    ((d.judgeBand c v ovr).hkaChan c).h = (d.hkaChan c).h := by
  have hset (x : HkaChan) (hx : x.h = (d.hkaChan c).h) : ((d.setHkaChan c x).hkaChan c).h = (d.hkaChan c).h := by
    rw [d.hkaChan_setHkaChan_same x h, hx]
  have hring (e : Dev) (w1 w2 : Word) : ((e.ring 112 w1 w2).hkaChan c).h = (e.hkaChan c).h := by
    rw [Dev.hkaChan, Dev.ring_hka]
    rfl
  have houtside (above : Bool) (v : Word) (ovr : Bool) : ((d.bandOutside c above v ovr).hkaChan c).h = (d.hkaChan c).h := by
    unfold Dev.bandOutside
    extract_lets x run consec y st z w
    split
    · exact (hring ..).trans (hset { x with run := min run 31, above := above } rfl)
    · exact hset { x with run := min run 31, above := above } rfl
  unfold Dev.judgeBand
  extract_lets cfg lo hi
  split
  · rfl
  · split
    · exact houtside ..
    · split
      · exact houtside ..
      · unfold Dev.bandWithin
        extract_lets _ x st
        split <;> exact hset { d.hkaChan c with run := 0 } rfl

/-- The H set of a channel emptied. -/
def Dev.emptied (d : Dev) (c : Nat) : Dev := d.setHkaChan c { d.hkaChan c with h := {} }

/-- The channel of the one conversion of a `hka conv`, before its comparator judges it. -/
theorem Dev.hkaChan_converted (d : Dev) {c : Nat} (h : c < d.hka.chans.length) (v : Word) :
    ((d.emptied c).entered c fun a => a.add v).hkaChan c =
      { d.hkaChan c with h := ({} : AccSet).add v, f := (d.hkaChan c).f.add v } := by
  have hlen : c < (d.emptied c).hka.chans.length := by simpa [Dev.emptied, Dev.setHkaChan, Dev.setHka] using h
  rw [Dev.hkaChan_entered _ _ hlen, Dev.emptied, d.hkaChan_setHkaChan_same _ h]

section

variable {n k : BitVec 8} {v : Word} (hidle : s.dev.running = false) (hset : s.dev.fullSet = true)
  (hlow : 4 ≤ n.toNat) (hhigh : n.toNat ≤ 15) (hplain : n.toNat ∉ [9, 10, 13]) (hk : k.toNat ≠ 0)
  (hclaim : s.dev.fld HKA_HOST_CLAIM = 0) (hfree : s.dev.conv true = none)
include hidle hset hlow hhigh hplain hk hclaim hfree

/-- One conversion of a channel that is neither an AIN channel, nor a die temperature, nor a lamp's. -/
theorem hkaConv_converts : Completes (.hkaConv n k [(v, 0)]) s fun t => ∃ e : Dev,
    e = ((s.dev.emptied n.toNat).entered n.toNat fun a => a.add v).judgeBand n.toNat v 0 ∧
      t = (e.print (accLine n.toNat (e.hkaChan n.toNat).h)).finish .ok := by
  simp only [List.mem_cons, List.not_mem_nil, or_false, not_or] at hplain
  obtain ⟨h9, h10, h13⟩ := hplain
  have hset' : ¬ s.dev.fullSet = false := ne_false_of_eq_true hset
  have hruns : ¬ (s.dev.fld HKA_HOST_CLAIM ≠ 0 ∨ (s.dev.conv true).isSome = true) := by simp [hclaim, hfree]
  have href (w : Word) : planRef n.toNat w = 0 := if_neg (Nat.not_lt.2 hlow)
  have hready : ¬ (s.dev.emptied n.toNat).hkaSkips n.toNat 0 = true := by
    have hlamp : (n.toNat == 13) = false := beq_false_of_ne h13
    rw [Dev.hkaSkips, hlamp]
    exact Bool.false_ne_true
  have hone : [(v, (0 : BitVec 2))].take k.toNat = [(v, 0)] := List.take_of_length_le (Nat.one_le_iff_ne_zero.2 hk)
  refine completes_command rfl hidle ⟨_, rfl, ?_⟩
  rw [Dev.calJudge_plain (by split <;> simp [h9]) (by split <;> simp [h10]), Dev.consoleHkaConv, if_neg hset',
    if_neg (by omega), if_neg hruns]
  dsimp only
  rw [← Dev.emptied, href, if_neg hready, hone, ← Dev.enterValue_plain hlow h9 h10]
  rfl

theorem hkaConv_enters (hlen : s.dev.hka.chans.length = 16) : Completes (.hkaConv n k [(v, 0)]) s fun t =>
    (t.hkaChan n.toNat).h = ({} : AccSet).add v ∧ t.con.line = [] := by
  refine (hkaConv_converts hidle hset hlow hhigh hplain hk hclaim hfree).mono fun t ⟨e, he, ht⟩ => ?_
  have hat : n.toNat < s.dev.hka.chans.length := by omega
  have hlast : n.toNat < ((s.dev.emptied n.toNat).entered n.toNat fun a => a.add v).hka.chans.length := by
    simpa [Dev.emptied, Dev.entered, Dev.sumUp, Dev.setHkaChan, Dev.setHka] using hat
  rw [ht, Dev.hkaChan_finish, Dev.hkaChan_print, he, Dev.hkaChan_judgeBand_h _ hlast, s.dev.hkaChan_converted hat]
  exact ⟨rfl, Dev.finish_line ..⟩

/-- Without a band, the conversion changes no register. -/
theorem hkaConv_shows (hlen : s.dev.hka.chans.length = 16)
    (hoff : wGet (s.dev.cfgWord secHka 0x02 (4 * n.toNat + 3)) 23 1 = 0) : Completes (.hkaConv n k [(v, 0)]) s fun t =>
      (t.hkaChan n.toNat).h = ({} : AccSet).add v ∧ (t.hkaChan n.toNat).f = (s.dev.hkaChan n.toNat).f.add v ∧
        t.con.line = [] ∧ s.dev.leaves t [SVC_ERR] := by
  refine (hkaConv_converts hidle hset hlow hhigh hplain hk hclaim hfree).mono fun t ⟨e, he, ht⟩ => ?_
  have hat : n.toNat < s.dev.hka.chans.length := by omega
  have hband : wGet (((s.dev.emptied n.toNat).entered n.toNat fun a => a.add v).cfgWord secHka 0x02 (4 * n.toNat + 3)) 23 1 = 0 :=
    hoff
  have hunjudged : e = (s.dev.emptied n.toNat).entered n.toNat fun a => a.add v := he.trans (Dev.judgeBand_off hband ..)
  rw [ht, Dev.hkaChan_finish, Dev.hkaChan_print, hunjudged, s.dev.hkaChan_converted hat]
  have hkept : s.dev.leaves ((s.dev.emptied n.toNat).entered n.toNat fun a => a.add v) [SVC_ERR] :=
    leaves_of (s.dev.leaves_refl _) rfl rfl rfl rfl
  exact ⟨rfl, rfl, Dev.finish_line .., leaves_finish (leaves_print hkept _ (by decide)) .ok (by decide)⟩

end

/-! `hka path` (R842). -/

/-- The TDAC holds the code, the pin and the enable of a written word. -/
structure Dev.TdacHolds (d : Dev) (value : Word) : Prop where
  code : d.fld HKA_TDAC_CODE = wGet value 0 10
  pin : d.fld HKA_TDAC_PIN = wGet value 10 2
  enable : d.flag HKA_TDAC_EN = (wGet value 12 1 != 0)

theorem Dev.TdacHolds.of {value : Word} (h : d.TdacHolds value) (he : ∀ f : Fld, f.addr = HKA_TDAC → e.fld f = d.fld f) :
    e.TdacHolds value := by
  obtain ⟨hcode, hpin, henable⟩ := h
  exact ⟨(he HKA_TDAC_CODE rfl).trans hcode, (he HKA_TDAC_PIN rfl).trans hpin,
    (congrArg (· != 0) (he HKA_TDAC_EN rfl) :).trans henable⟩

theorem Dev.tdacHolds_writeTdac (d : Dev) (value : Word) : (d.writeTdac value).TdacHolds value := by
  obtain ⟨henable, hpin, hcode⟩ := d.tdac_stored value
  have hstored : (d.storeReg HKA_TDAC value).TdacHolds value := ⟨hcode, hpin, henable⟩
  refine hstored.of fun f hf => (alters_writeTdac d value).fld ?_
  rw [hf]
  decide

theorem Dev.TdacHolds.freeMean {value : Word} (h : d.TdacHolds value) (vs : List Word) : (d.freeMean vs).2.TdacHolds value :=
  h.of fun f hf => (valued_freeMean (as := []) d vs).fld List.not_mem_nil (by rw [hf]; decide)

/-- The conversions of `hka path` at both codes, before the TDAC returns. -/
def Dev.pathMeasured (d : Dev) (n : Nat) (low high : List Word) : Dev :=
  (((d.writeTdac (pack [(1, 12), (n, 10), (0, 0)])).enterAll n low).writeTdac (pack [(1, 12), (n, 10), (1023, 0)])).enterAll n high

/-- The means of `hka path`, taken once the TDAC has returned. -/
def Dev.pathMeans (d : Dev) (n : Nat) (low high : List Word) : Dev :=
  (((d.pathMeasured n low high).writeTdac (d.reg HKA_TDAC)).freeMean low).2.freeMean high |>.2

theorem hkaPath_returns (hidle : s.dev.running = false) (hset : s.dev.fullSet = true) {n : BitVec 8} (hn : n.toNat ≤ 3)
    (low high : List Word) : Completes (.hkaPath n low high) s fun t =>
      t.fld HKA_TDAC_CODE = s.dev.fld HKA_TDAC_CODE ∧ t.fld HKA_TDAC_PIN = s.dev.fld HKA_TDAC_PIN ∧
        t.flag HKA_TDAC_EN = s.dev.flag HKA_TDAC_EN ∧ t.con.line = [] := by
  have hset' : ¬ s.dev.fullSet = false := ne_false_of_eq_true hset
  have hends : ∃ ws, s.dev.consoleHkaPath n.toNat low high =
      (((s.dev.pathMeans n.toNat low high).draw 2).2.print (.values 0xC1 ws)).finish .ok := by
    rw [Dev.consoleHkaPath, if_neg hset', if_neg (by omega)]
    exact ⟨_, rfl⟩
  obtain ⟨ws, heq⟩ := hends
  have hmeans : (s.dev.pathMeans n.toNat low high).TdacHolds (s.dev.reg HKA_TDAC) :=
    ((Dev.tdacHolds_writeTdac _ _).freeMean low).freeMean high
  have hheld : (s.dev.consoleHkaPath n.toNat low high).TdacHolds (s.dev.reg HKA_TDAC) := by
    rw [heq]
    refine hmeans.of fun f hf => ?_
    rw [Dev.fld_finish _ _ (by rw [hf]; decide), (Dev.print_printed _ _).fld (by rw [hf]; decide)]
    rfl
  refine completes_command rfl hidle ⟨hheld.code, hheld.pin, hheld.enable, ?_⟩
  rw [heq]
  exact Dev.finish_line ..

/-! `hka cal` (R843, R844). -/

theorem Dev.calAnswer_runs (h : d.hka.step ≠ none) : d.calAnswer = d := if_pos (Option.isSome_iff_ne_none.2 h)

theorem Dev.calAnswer_told (h : d.hka.step = none) :
    d.calAnswer = (d.print (.values 0xC3 [word (d.fld HKA_SCSTAT_STATUS)])).finish .ok := if_neg (by simp [h])

theorem Dev.syscalSet_step (d : Dev) (ok : Bool) (c : Nat) (ofs gain shown : Word) (op told : Nat) :
    (d.syscalSet ok c ofs gain shown op told).hka.step = d.hka.step := by
  have hstored := stored_syscalStored (as := []) ((d.setReg (HKA_SCOFS c) ofs).setReg (HKA_SCGAIN c) gain) ok c shown
  refine (congrArg Hka.step (Dev.syscalEnd_ended _ op (status := 1) (by decide) c told).hka :).trans ?_
  exact hstored.keeps (·.hka.step) fun _ => rfl

theorem Dev.consoleCal_runs {n : Nat} (hset : d.fullSet = true) (hn : n ≤ 3) (hstep : d.hka.step = none) (f : Dev → Dev) :
    d.consoleCal n f = f d := by
  have hset' : ¬ d.fullSet = false := ne_false_of_eq_true hset
  rw [Dev.consoleCal, if_neg hset', if_neg (by omega), if_neg (by simp [hstep])]

section

variable {n : BitVec 8} (hidle : s.dev.running = false) (hset : s.dev.fullSet = true) (hn : n.toNat ≤ 3)
  (hstep : s.dev.hka.step = none)
include hidle hset hn hstep

theorem hkaCalZero_begins : Completes (.hkaCalZero n) s fun t => t.hka.step = some (n.toNat, 1) ∧ t.hka.stepConsole = true ∧
    t.fld HKA_SCSTAT_STATUS = 0 ∧ s.dev.leaves t [HKA_SCSTAT] := by
  refine completes_longCommand rfl hidle ?_
  rw [Dev.consoleCal_runs (d := s.dev.dropLine) hset hn hstep]
  obtain ⟨hbegun, hconsole, hstatus, hleaves⟩ := syscalBegin_begins (d := s.dev.dropLine) (c := n.toNat) hstep (op := 1)
    (by simp) true
  rw [Dev.calAnswer_runs (by rw [hbegun]; exact Option.some_ne_none _)]
  exact ⟨hbegun, hconsole, hstatus, hleaves⟩

theorem hkaCalFull_begins (uv : Word) {z : Int} (hz : s.dev.hka.zero.getD n.toNat none = some z) :
    Completes (.hkaCalFull n uv) s fun t => t.hka.step = some (n.toNat, 2) ∧ t.hka.stepConsole = true ∧
      t.reg HKA_SCFULL = uv ∧ t.fld HKA_SCSTAT_STATUS = 0 ∧ s.dev.leaves t [HKA_SCFULL, HKA_SCSTAT] := by
  refine completes_longCommand rfl hidle ?_
  rw [Dev.consoleCal_runs (d := s.dev.dropLine) hset hn hstep]
  have hmean : (s.dev.dropLine.setReg HKA_SCFULL uv).hka.zero.getD n.toNat none ≠ none := by
    show s.dev.hka.zero.getD n.toNat none ≠ none
    rw [hz]
    exact Option.some_ne_none z
  obtain ⟨hbegun, hconsole, hstatus, hleaves⟩ := syscalBegin_begins (d := s.dev.dropLine.setReg HKA_SCFULL uv) (c := n.toNat)
    hstep (op := 2) (fun _ => hmean) true
  rw [Dev.calAnswer_runs (by rw [hbegun]; exact Option.some_ne_none _)]
  have hfull : (s.dev.dropLine.setReg HKA_SCFULL uv).reg HKA_SCFULL = uv := (Dev.reg_setReg ..).trans (if_pos rfl)
  exact ⟨hbegun, hconsole, (hleaves.1 HKA_SCFULL (by decide)).trans hfull, hstatus,
    leaves_trans (leaves_setReg (leaves_dropLine (s.dev.leaves_refl _)) (by decide)) (leaves_mono hleaves (by simp))⟩

theorem hkaCalApply_zeroless (vref : Word) (ok : Bool) (hz : s.dev.hka.zero.getD n.toNat none = none) :
    Completes (.hkaCalApply n vref ok) s fun t =>
      t.fld HKA_SCSTAT_STATUS = 2 ∧ t.con.line = [] ∧ s.dev.leavesRing t [HKA_SCSTAT] := by
  refine completes_command rfl hidle ?_
  rw [Dev.consoleCal_runs hset hn hstep, Dev.syscalApply_zeroless hz]
  have hended := s.dev.syscalEnd_ended 3 (status := 2) (by decide) n.toNat 0
  rw [Dev.calAnswer_told (by rw [hended.hka, hstep]), Dev.fld_finish _ _ (by decide), (Dev.print_printed _ _).fld (by decide)]
  exact ⟨hended.shown, Dev.finish_line .., leavesRing_finish (leavesRing_printed hended.leaves (Dev.print_printed ..)) .ok⟩

theorem hkaCalApply_exact (vref : Word) (ok : Bool) {z f : Int} {u : Nat} (hz : s.dev.hka.zero.getD n.toNat none = some z)
    (hf : s.dev.hka.full.getD n.toNat none = some f) (hopen : s.dev.nvmBarred = false) (hu : s.dev.fld HKA_SCFULL_FULL = u)
    (hpos : 0 < f - z) (hlow : (f - z) * 8 ≤ (u : Int) * 10) (hhigh : (u : Int) * 4 ≤ (f - z) * 5)
    (hspan : z.natAbs * 10 ≤ s.dev.calSpan n.toNat vref.toNat) (hexact : u * 4194304 % (f - z).toNat = 0) :
    Completes (.hkaCalApply n vref ok) s fun t => t.fld HKA_SCSTAT_STATUS = 1 ∧ t.reg (HKA_SCOFS n.toNat) = wordI z ∧
      t.reg (HKA_SCGAIN n.toNat) = word (u * 4194304 / (f - z).toNat) ∧ t.con.line = [] := by
  have hgain := Dev.syscalGain_exact (d := s.dev) hu hpos hlow hhigh hspan hexact
  have heq := (Dev.syscalApply_judged hz hf hopen vref.toNat ok).2 _ _ hgain
  refine completes_command rfl hidle ?_
  rw [Dev.consoleCal_runs hset hn hstep, heq]
  generalize u * 4194304 / (f - z).toNat = g at *
  obtain ⟨hstatus, hofs, hsetgain, -, -⟩ :=
    (s.dev.meansUsed n.toNat).syscalSet_sets ok (Nat.lt_succ_of_le hn) (wordI z) (word g) (word g) 3 g
  have hover := (s.dev.meansUsed n.toNat).syscalSet_step ok n.toNat (wordI z) (word g) (word g) 3 g
  generalize (s.dev.meansUsed n.toNat).syscalSet ok n.toNat (wordI z) (word g) (word g) 3 g = x at *
  obtain ⟨hofsErr, hgainErr⟩ := calRegs_apart n.toNat (Nat.lt_succ_of_le hn)
  have hne {a : Nat} (h : a ∉ HKA_SCSTAT :: ringRegs) : a ≠ SVC_ERR := fun ha => h (ha ▸ by decide)
  rw [Dev.calAnswer_told (hover.trans hstep), Dev.fld_finish _ _ (by decide), (Dev.print_printed _ _).fld (by decide),
    Dev.reg_finish _ _ (hne hofsErr), Dev.reg_finish _ _ (hne hgainErr), Dev.reg_print _ _ (hne hofsErr),
    Dev.reg_print _ _ (hne hgainErr)]
  exact ⟨hstatus, hofs, hsetgain, Dev.finish_line ..⟩

end

end Sys2Proof.Machine
end


section
/-!
SUPPORT. The console's infrared transmissions (R805, R807).
-/

namespace Sys2Proof.Machine

variable {d e : Dev} {s : State}

/-- A transmission of the console as it begins, before its first entry is judged. -/
def Dev.txConsole (d : Dev) (x : Transmission) (loop : Bool) : Dev :=
  ((d.setIr { d.ir with tx := some x, frame := none, ready := false, loop := loop }).setFlag ITX_STAT_BUSY true).setFld
    ITX_STAT_MODE x.mode

/-- The pattern from an entry in mode 1, with further runs. -/
def Dev.txPattern (d : Dev) (i runs : Nat) : Transmission := ⟨0, 1, i, i, runs, 1, true, d.reg ITX_CARRIER⟩

/-- What a console's transmission whose first entry has a duration leads to. -/
structure Dev.TxPlays (d e : Dev) (i runs : Nat) (loop : Bool) : Prop where
  tx : e.ir.tx = some (d.txPattern i runs)
  loop : e.ir.loop = loop
  busy : e.flag ITX_STAT_BUSY = true
  index : e.fld ITX_STAT_INDEX = i
  rest : ∀ f : Fld, f.addr ≠ ITX_STAT → e.fld f = d.fld f
  leaves : d.leaves e [ITX_STAT]

theorem Dev.txBegin_plays (d : Dev) {i : Nat} (hi : i < 512) (hplays : wGet (d.pattern i) 0 16 ≠ 0) (runs : Nat) (loop : Bool) :
    d.TxPlays (d.txBegin 0 1 i runs true loop) i runs loop := by
  have hbegin : d.txBegin 0 1 i runs true loop = (d.txConsole (d.txPattern i runs) loop).txEntry := rfl
  have hleaves : d.leaves (d.txConsole (d.txPattern i runs) loop) [ITX_STAT] := by
    have hset : d.leaves (d.setIr { d.ir with tx := some (d.txPattern i runs), frame := none, ready := false, loop := loop })
        [ITX_STAT] := leaves_of (d.leaves_refl _) rfl rfl rfl rfl
    exact leaves_setFld (leaves_setFlag hset (by decide)) (by decide)
  have hcarrier : (d.txConsole (d.txPattern i runs) loop).entryCarrier (d.txPattern i runs) = d.reg ITX_CARRIER := by
    have hreg : (d.txConsole (d.txPattern i runs) loop).reg ITX_CARRIER = d.reg ITX_CARRIER := hleaves.1 _ (by decide)
    unfold Dev.entryCarrier
    split
    · exact hreg
    · rfl
  obtain ⟨hir, hindex, -, hrest, hentry⟩ :=
    Dev.txEntry_plays (d := d.txConsole (d.txPattern i runs) loop) (x := d.txPattern i runs) rfl (.inr hplays)
  rw [hcarrier] at hir
  rw [hbegin]
  have hall := leaves_trans hleaves hentry
  refine ⟨by rw [hir]; rfl, by rw [hir]; rfl, ?_, hindex.trans (Nat.mod_eq_of_lt hi), fun f hf => ?_, hall⟩
  · rw [Dev.flag, hrest _ (by decide) (by decide)]
    exact (Dev.flag_setFld_apart _ _ (by decide) (by decide)).trans (Dev.flag_setFlag_same _ _ _ (by decide) (by decide))
  · rw [Dev.fld, hall.1 _ (by simpa using hf), ← Dev.fld]

theorem Dev.finish_ir (d : Dev) (status : OutLine) : (d.finish status).ir = d.ir :=
  d.finish_keeps status (·.ir) fun _ _ _ => rfl

section

variable (hidle : s.dev.running = false) (hset : s.dev.fullSet = true) (hfree : s.dev.ir.tx = none)
  (hallowed : s.dev.txAllowed true = true) {i : BitVec 9} (hplays : wGet (s.dev.pattern i.toNat) 0 16 ≠ 0)
include hidle hset hfree hallowed hplays

theorem itxSend_begins (k : BitVec 8) : Completes (.itxSend i k) s fun t =>
    t.ir.tx = some ⟨0, 1, i.toNat, i.toNat, k.toNat, 1, true, s.dev.reg ITX_CARRIER⟩ ∧ t.ir.loop = false ∧
      t.flag ITX_STAT_BUSY = true ∧ t.fld ITX_STAT_INDEX = i.toNat ∧ t.con.line = [] ∧ s.dev.leaves t [ITX_STAT, SVC_ERR] := by
  have hbegun := s.dev.txBegin_plays i.isLt hplays k.toNat false
  have heq : s.dev.consoleSend i.toNat k.toNat false = (s.dev.txBegin 0 1 i.toNat k.toNat true false).finish .ok := by
    unfold Dev.consoleSend
    rw [if_neg (by simp [hset]), if_neg (by simp [hfree, hallowed])]
    rfl
  refine completes_command rfl hidle ?_
  rw [heq, Dev.finish_ir, Dev.flag_finish _ _ (by decide), Dev.fld_finish _ _ (by decide)]
  exact ⟨hbegun.tx, hbegun.loop, hbegun.busy, hbegun.index, Dev.finish_line ..,
    leaves_finish (leaves_mono hbegun.leaves (by simp)) .ok (by decide)⟩

theorem itxLoop_begins : Completes (.itxLoop i) s fun t =>
    t.ir.tx = some ⟨0, 1, i.toNat, i.toNat, 0, 1, true, s.dev.reg ITX_CARRIER⟩ ∧ t.ir.loop = true ∧
      t.flag IRX_CTRL_ECHO = true ∧ t.flag ITX_STAT_BUSY = true ∧ t.fld ITX_STAT_INDEX = i.toNat ∧
      s.dev.leaves t [ITX_STAT, IRX_CTRL] := by
  have hset' : s.dev.dropLine.fullSet = true := hset
  have hacts : ¬ (s.dev.dropLine.ir.tx.isSome || !s.dev.dropLine.txAllowed true) = true := by
    have hfree' : s.dev.dropLine.ir.tx = none := hfree
    have hallowed' : s.dev.dropLine.txAllowed true = true := hallowed
    simp [hfree', hallowed']
  have heq : s.dev.dropLine.consoleSend i.toNat 0 true =
      (s.dev.dropLine.setFlag IRX_CTRL_ECHO true).txBegin 0 1 i.toNat 0 true true := by
    unfold Dev.consoleSend
    rw [if_neg (by simp [hset']), if_neg hacts]
    rfl
  have hbegun := (s.dev.dropLine.setFlag IRX_CTRL_ECHO true).txBegin_plays i.isLt hplays 0 true
  have hecho : (s.dev.dropLine.setFlag IRX_CTRL_ECHO true).flag IRX_CTRL_ECHO = true :=
    Dev.flag_setFlag_same _ _ _ (by decide) (by decide)
  have hmarked : s.dev.leaves (s.dev.dropLine.setFlag IRX_CTRL_ECHO true) [ITX_STAT, IRX_CTRL] :=
    leaves_setFlag (leaves_dropLine (s.dev.leaves_refl _)) (by decide)
  have hcarrier : (s.dev.dropLine.setFlag IRX_CTRL_ECHO true).reg ITX_CARRIER = s.dev.reg ITX_CARRIER :=
    hmarked.1 _ (by decide)
  refine completes_longCommand rfl hidle ?_
  rw [heq]
  generalize s.dev.dropLine.setFlag IRX_CTRL_ECHO true = y at *
  have htx := hbegun.tx
  rw [Dev.txPattern, hcarrier] at htx
  exact ⟨htx, hbegun.loop, (congrArg (· != 0) (hbegun.rest IRX_CTRL_ECHO (by decide))).trans hecho, hbegun.busy, hbegun.index,
    leaves_trans hmarked (leaves_mono hbegun.leaves (by simp))⟩

end

end Sys2Proof.Machine
end


section
/-!
SUPPORT. The console commands of O52 and O60, and the obligations themselves.
-/

namespace Sys2Proof.Machine

variable {s : State}

/-- The commands of the full command set that O52 names, with any operands. -/
theorem completes_devicesClosed (hidle : s.dev.running = false) (hclosed : s.dev.fullSet = false) (n v k m i w x y) :
    ∀ c ∈ [Instr.lampSet n y m, .railVtx v, .railVled v, .railVledAuto, .railRestart, .memRepair k w, .gdeTest w, .itxSend i k,
      .itxLoop i, .hkaConv k k [], .hkaPath k [] [], .hkaCalZero k, .hkaCalFull k x, .hkaCalApply k x true],
      Completes c s fun t => t = s.dev.finishErr 6 := by
  have hlong : s.dev.dropLine.fullSet = false := hclosed
  have hended (x : Dev) : x.dropLine.finishErr 6 = x.finishErr 6 := rfl
  intro c hc
  simp only [List.mem_cons, List.not_mem_nil, or_false] at hc
  obtain rfl | rfl | rfl | rfl | rfl | rfl | rfl | rfl | rfl | rfl | rfl | rfl | rfl | rfl := hc
  all_goals
    refine completes_command rfl hidle ?_
    simp only [hclosed, hlong, hended, Dev.consoleLampSet, Dev.consoleRepair, Dev.consoleGdeTest, Dev.consoleSend,
      Dev.consoleHkaConv, Dev.consoleHkaPath, Dev.consoleCal, Dev.hkaConvRuns, Dev.calJudge_plain, Bool.false_and,
      Bool.false_eq_true, Bool.not_false, if_true, if_false, ne_eq, reduceCtorEq, not_false_eq_true]

/-- Settles O52: each command by its own lemma. -/
theorem consoleDevicesRun : Obligations.ConsoleDevicesRun := by
  unfold Obligations.ConsoleDevicesRun
  intro s hlen hidle
  refine ⟨fun hclosed c n v k m i w x y => completes_devicesClosed hidle hclosed n v k m i w x y c,
    fun g hclr => ⟨lampClear_untripped hidle hclr, lampClear_clears hidle hclr⟩, fun n hn => hkaCh_shows hidle hn,
    fun hset => ⟨fun n level ms => lampSet_moves hidle hset level ms, fun hacts => ⟨?_, fun hfitted hsoft => ⟨?_, ?_⟩⟩,
      railRestart_begins hidle hset, fun n c hn hc hnone => ⟨fun hcheck hfixed => ?_, ?_⟩, ?_, ?_, ?_,
      fun n low high hn => hkaPath_returns hidle hset hn low high, ?_⟩⟩
  · exact fun v hfixed hlo hhi htgt => railVtx_begins hidle hset hacts hfixed hlo hhi htgt
  · exact fun v hlo hhi hvtx htgt => railVled_begins hidle hset hacts hfitted hsoft hlo hhi hvtx htgt
  · exact fun htgt => railVledAuto_begins hidle hset hacts hfitted hsoft htgt
  · refine (memRepair_starts hidle hset hn hc hnone hcheck).mono fun t ⟨hrepair, hconsole, hflag, hvtx⟩ => ?_
    exact ⟨hrepair, hconsole, (hvtx hfixed).1, hflag, (hvtx hfixed).2⟩
  · exact fun hcheck => memRepair_refused hidle hset hn hc hnone hcheck
  · rintro k n rfl hone hmost hfree hrepair hgood
    exact gdeTest_copies hidle hset hone hmost hfree hrepair hgood
  · rintro j k i rfl hfree hallowed hplays
    exact ⟨itxSend_begins hidle hset hfree hallowed hplays k, (itxLoop_begins hidle hset hfree hallowed hplays).mono
      fun t ⟨htx, hloop, hecho, hbusy, _, hleaves⟩ => ⟨htx, hloop, hecho, hbusy, hleaves⟩⟩
  · rintro n k v c rfl hlow hhigh hplain hk hclaim hfree hoff
    exact hkaConv_shows hidle hset hlow hhigh hplain hk hclaim hfree hlen hoff
  · rintro k n rfl hn hstep
    exact ⟨hkaCalZero_begins hidle hset hn hstep, fun uv z hz => hkaCalFull_begins hidle hset hn hstep uv hz,
      fun vref ok hz => hkaCalApply_zeroless hidle hset hn hstep vref ok hz,
      fun vref ok z f u hz hf hopen hu hpos hlow hhigh hspan hexact =>
        hkaCalApply_exact hidle hset hn hstep vref ok hz hf hopen hu hpos hlow hhigh hspan hexact⟩

/-- Settles O60: the prints by their words, and the other commands by the lemmas of O52. -/
theorem consoleDevicesComplete : Obligations.ConsoleDevicesComplete := by
  unfold Obligations.ConsoleDevicesComplete
  intro s hidle
  refine ⟨plainPrints_end hidle, statusPrints_say hidle, tablePrints_say hidle, fun b lo hi h => blockStat_says hidle h, ?_,
    fun p hp => cfgGet_says hidle hp, ?_, fun b hop => imgCheck_shows hidle hop b, fun g hclr => lampClear_ends hidle hclr, ?_,
    fun hset => ⟨?_, ?_, fun v => railVled_fixes hidle hset v, railVledAuto_adapts hidle hset, ?_, ?_, ?_, ?_, ?_, ?_, ?_⟩⟩
  · exact fun n => ⟨completes_says rfl hidle rfl, evrSrc_says hidle, lampN_says hidle⟩
  · exact fun n k => ⟨memCol_says hidle, scanLegs_says hidle,
      fun hn hk => ⟨scanNode_says hidle hn hk, trkBase_ends hidle hn hk⟩,
      fun addr hop hone hmost hend => nvmRd_says hidle hop hone hmost hend⟩
  · refine fun n hn => (hkaCh_shows hidle hn).mono fun t ⟨hhka, hline, _⟩ => ⟨?_, hline⟩
    rw [hhka]
  · exact fun n level ms hruns hmode hfree =>
      (lampSet_moves hidle hset level ms hruns hmode hfree).mono fun t ht => congrArg Lamp.cmd ht.1
  · exact fun hacts hfixed v hlo hhi => railVtx_targets hidle hset hacts hfixed hlo hhi
  · exact fun hlatched => (railRestart_begins hidle hset hlatched).mono fun t ht => ht.1
  · exact fun n c hn hc hnone hcheck => (memRepair_starts hidle hset hn hc hnone hcheck).mono
      fun t ⟨hrepair, _, hflag, _⟩ => ⟨hrepair, hflag⟩
  · exact fun n hone hmost hfree hrepair hgood =>
      (gdeTest_copies hidle hset hone hmost hfree hrepair hgood).mono fun t ht => ht.1
  · exact fun i k hfree hallowed hplays =>
      ⟨(itxSend_begins hidle hset hfree hallowed hplays k).mono fun t ⟨_, hloop, hbusy, _⟩ => ⟨hbusy, hloop⟩,
        (itxLoop_begins hidle hset hfree hallowed hplays).mono fun t ⟨_, hloop, _, hbusy, _⟩ => ⟨hbusy, hloop⟩⟩
  · exact fun n k v hlen hlow hhigh hplain hk hclaim hfree =>
      hkaConv_enters hidle hset hlow hhigh hplain hk hclaim hfree hlen
  · exact fun n low high hn => (hkaPath_returns hidle hset hn low high).mono
      fun t ⟨hcode, _, henable, hline⟩ => ⟨hcode, henable, hline⟩
  · refine fun n hn hstep => ⟨(hkaCalZero_begins hidle hset hn hstep).mono fun t ht => ht.1,
      fun uv z hz => (hkaCalFull_begins hidle hset hn hstep uv hz).mono fun t ⟨hbegun, _, hfull, _⟩ => ⟨hbegun, hfull⟩,
      fun vref ok hopen hz hf hu => ?_⟩
    exact (hkaCalApply_exact hidle hset hn hstep vref ok hz hf hopen hu (by decide) (by decide) (by decide) (Nat.zero_le _)
      (by decide)).mono fun t ⟨hstatus, _, _, hline⟩ => ⟨hstatus, hline⟩

end Sys2Proof.Machine
end


section
/-!
SUPPORT. Where the commands of modes, wakes, restarts and frames complete (chapters 4 and 6 to 9).
-/

namespace Sys2Proof.Machine

variable {d e : Dev} {s : State}

/-! Modes (R170, R173). -/

/-- A worker takes its manager's mode command, whether or not it answers a request of its console. -/
theorem mode_noted (hworker : s.dev.isWorker = true) (mode : BitVec 3) (apply : Word) (hsafe : s.dev.mode ≠ modeSafe)
    (hstart : s.dev.mode ≠ modeStart) : Completes (.mode mode false apply) s fun t =>
      t.modes.manager = some ⟨mode.toNat, some apply.toNat, 6⟩ := by
  have hmsg : s.dev.modeCommand mode.toNat false apply.toNat =
      ((s.dev.serviceAnswered mode.toNat).setModes { (s.dev.serviceAnswered mode.toNat).modes with
        manager := some ⟨mode.toNat, some apply.toNat, 6⟩ }).markPending (some mode.toNat) :=
by
    rw [Dev.modeCommand, if_neg Bool.false_ne_true, Dev.modeMsg, if_pos (by simp [hworker, hsafe, hstart])]
  refine completes_of (f := fun d => d.modeCommand mode.toNat false apply.toNat) rfl ?_
  rw [hmsg]
  rfl

/-! The core watchdog and the cores' return (R112, R113). -/

theorem coreWatchdog_restarts (hcores : s.dev.pwr.coreRestart = false) (hstep : 4 ≤ s.dev.pwr.step)
    (hheld : s.dev.pwr.held = none) : Completes .coreWatchdog s fun t =>
      t.pwr.coreRestart = true ∧ t.pwr.wdTicks = (s.dev.ticks :: s.dev.pwr.wdTicks).take 3 := by
  have hbegun := ((s.dev.recordReset 8).beginRestart_begins).1
  have heq : ∃ n, s.dev.coreWatchdog =
      (s.dev.recordReset 8).beginRestart.expiryCounted ((s.dev.ticks :: s.dev.pwr.wdTicks).take 3) n := by
    unfold Dev.coreWatchdog
    rw [if_neg (by simp [hcores, hheld]; omega)]
    exact ⟨_, rfl⟩
  obtain ⟨n, heq⟩ := heq
  refine completes_of (f := Dev.coreWatchdog) rfl ?_
  rw [heq]
  exact ⟨(Dev.expiryCounted_keeps _ _ _).1.trans (congrArg Power.coreRestart hbegun), rfl⟩

theorem coreRestartEnd_runs (hrestart : s.dev.pwr.coreRestart = true) (hrecent : s.dev.fld SYS_RSTCAUSE_WDRECENT < 3)
    (hkey : s.dev.ir.held = none) : Completes .coreRestartEnd s fun t =>
      t.pwr.coreRestart = false ∧ ∀ c ∈ t.evr.cores, c.restarting = false := by
  refine (coreRestartEnd_resumes hrestart hrecent hkey).mono fun t ⟨e, hpwr, _, hcores, ht⟩ => ?_
  obtain ⟨-, -, hquiet⟩ := near_ring (src := 6) (w1 := e.causeWord) (w2 := s.dev.reg SYS_RSTCNT) (Dev.Near.rfl e)
  have hkept : (e.ring 6 e.causeWord (s.dev.reg SYS_RSTCNT)).evr.cores = e.evr.cores := (congrArg (·.evr.cores) hquiet :)
  rw [ht, Dev.ring_pwr, hpwr, hkept, hcores]
  refine ⟨rfl, fun c hc => ?_⟩
  obtain ⟨x, -, rfl⟩ := List.mem_map.1 hc
  rfl

/-! The end of start-up (R864). -/

theorem pwr_takeItems (d : Dev) (items : List (List (BitVec 16) × Bool)) : (d.takeItems items).pwr = d.pwr :=
  foldl_keeps (·.pwr) items d fun x m _ => pwr_takeItem x m.1 m.2

theorem Dev.step_endFullRun (d : Dev) (items : List (List (BitVec 16) × Bool)) :
    (d.endFullRun items).pwr.step = d.pwr.step := by
  refine (base_step (Dev.base_runEnd _)).trans ?_
  exact congrArg Power.step (pwr_takeItems d items)

theorem fullRun_leaves (items : List (List (BitVec 16) × Bool)) (hstep : s.dev.pwr.step = 6) (hruns : s.dev.fullRuns = true) :
    Completes (.startupCalibrationEnd items) s (fun t => t.pwr.step = 8) ∧
      Completes (.fullRunTimeout items) s (fun t => t.pwr.step = 8) := by
  constructor
  · refine completes_of (f := fun d => if d.fullRuns then (d.endFullRun items).afterFullRun else d) rfl ?_
    have hafter : (s.dev.endFullRun items).pwr.step = 6 := (s.dev.step_endFullRun items).trans hstep
    rw [if_pos hruns, Dev.afterFullRun, if_pos hafter]
    exact (Dev.enterStep7_ends _).1
  · refine completes_of (f := fun d => if d.fullRuns ∧ d.pwr.step = 6 then
      ((d.takeItems items).setFld CAL_STAT_STATE calSliced).enterStep7 else d) rfl ?_
    rw [if_pos ⟨hruns, hstep⟩]
    exact (Dev.enterStep7_ends _).1

/-! Images over the link (R547). -/

theorem imgReq_queued {src : BitVec 10} (words : List Word) (hmanager : s.dev.isManager = true)
    (hkept : (s.dev.tile src.toNat).state ≠ tileLost) (himage : s.dev.boot.image ≠ [])
    (hwaits : src.toNat ∉ s.dev.surf.imgWaiting) (hserved : src.toNat ∉ s.dev.surf.imgServing)
    (hfull : 16 ≤ s.dev.surf.imgServing.length) : Completes (.imgReq src words) s fun t => src.toNat ∈ t.surf.imgWaiting := by
  have hserving : (s.dev.imgAsked src.toNat).surf.imgServing = s.dev.surf.imgServing :=
    List.filter_eq_self.2 fun xy hxy => bne_iff_ne.2 fun heq => hserved (heq ▸ hxy)
  have himage' : (s.dev.imgAsked src.toNat).boot.image = s.dev.boot.image := rfl
  have hwaiting : (s.dev.imgAsked src.toNat).surf.imgWaiting = s.dev.surf.imgWaiting := rfl
  refine completes_of (f := fun d => d.imgReqMsg src.toNat) rfl ?_
  rw [Dev.imgReqMsg_eq hmanager hkept, Dev.imgAnswered, if_neg (by simp [himage', hwaiting, himage, hwaits]),
    if_neg (by rw [hserving]; omega)]
  exact List.mem_append_right _ List.mem_cons_self

/-! HIBERNATE and wakes (R184, R195, R196). -/

theorem hibDrainEnd_drops (hmode : s.dev.mode = modeHibernate) (hstep : s.dev.modes.hibStep = 2)
    (hacks : s.dev.acksAwaited = false) : Completes .hibDrainEnd s fun t =>
      t.modes.hibStep = 7 ∧ t.modes.host = none ∧ t.modes.auto = none ∧ t.modes.manager = none := by
  refine completes_of (f := Dev.hibDrainEnd) rfl ?_
  rw [Dev.hibDrainEnd, if_neg (by simp [hmode, hstep, hacks])]
  exact ⟨rfl, rfl, rfl, rfl⟩

theorem lowestBit_lt (n : Nat) : lowestBit n < 7 := by
  unfold lowestBit
  cases h : (List.range 7).find? fun i => n.testBit i with
  | none => decide
  | some i => exact List.mem_range.1 (List.mem_of_find?_eq_some h)

theorem wGet_wakeWord {n i : Nat} (hn : n < 128) (hi : i < 7) : wGet (pack [(0, 16), (n, 8), (i, 4), (0, 0)]) 8 7 = n := by
  simp only [wGet, pack, List.foldl, BitVec.toNat_ofNat, Nat.shiftRight_eq_div_pow]
  omega

theorem wake_seen {sources : BitVec 7} (ok : Bool) (hmode : s.dev.mode = modeWatch)
    (hon : sources.toNat &&& s.dev.fld PWR_WAKEEN_EN ≠ 0) : Completes (.wake sources 0 ok) s fun t =>
      t.fld PWR_WAKESRC_SEEN = sources.toNat &&& s.dev.fld PWR_WAKEEN_EN := by
  refine (wake_watch hmode sources ok hon).mono fun t ⟨hreg, _⟩ => ?_
  have hlt : sources.toNat &&& s.dev.fld PWR_WAKEEN_EN < 128 := Nat.lt_of_le_of_lt Nat.and_le_left sources.isLt
  rw [Dev.fld]
  show wGet (t.reg PWR_WAKESRC) 8 7 = _
  rw [hreg]
  exact wGet_wakeWord hlt (lowestBit_lt _)

/-- A reset that is entered runs start-up from step 3, with no reset held. -/
theorem Dev.resetNow_released {code : Nat} (hheld : d.pwr.held = none) :
    (d.resetNow code).pwr.step = 3 ∧ (d.resetNow code).pwr.held = none := by
  obtain ⟨rs, hpwr⟩ := (d.enterReset code).release_pwr []
  rw [Dev.resetNow_of_free hheld, hpwr]
  exact ⟨rfl, rfl⟩

/-- A reset of codes 2 to 7 that is entered leaves nothing of the modes but what a reset tile has. -/
theorem Dev.resetNow_waking {code : Nat} (hcode : resetCode code) (hheld : d.pwr.held = none) :
    (d.resetNow code).modes.waking = false := by
  obtain ⟨x, reads, w, ⟨-, -, hquiet⟩, heq⟩ := (d.enterReset code).release_near []
  have hmodes : x.modes.waking = (d.enterReset code).modes.waking := (congrArg (·.modes.waking) hquiet :)
  rw [Dev.resetNow_of_free hheld, heq]
  refine (show _ = x.modes.waking from rfl).trans (hmodes.trans ?_)
  rw [Dev.enterReset_of_free hcode hheld, Dev.keptAcross_eq]
  rfl

theorem wakeVcoreTimeout_returns (hwaking : s.dev.modes.waking = true) (hstep : s.dev.pwr.step = 3)
    (hheld : s.dev.pwr.held = none) : Completes .wakeVcoreTimeout s fun t => t.pwr.step = 3 ∧ t.modes.waking = false := by
  have hexec : exec .wakeVcoreTimeout s = s.run fun d => d.resetNow 3 := by
    show execWakeVcoreTimeout s = _
    simp [execWakeVcoreTimeout, hwaking, hstep]
  have hno := Dev.resetNow_waking (code := 3) ⟨by decide, by decide⟩ hheld
  exact completes_of hexec ⟨(Dev.resetNow_released hheld).1, hno⟩

/-! Frames (R27, R313, R318). -/

theorem Dev.enterGap_shows (d : Dev) : d.enterGap.scan.cur = none ∧ d.enterGap.fld SCAN_STAT_PHASE = 4 :=
  ⟨rfl, Dev.fld_setFld_same _ _ _ (by decide)⟩

theorem selfScanEnd_gaps {f : FrameInfo} (hcur : s.dev.scan.cur = some f) (listen : List (Word × Word))
    (selfs chipsI chipsQ : List Word) (trips : List (BitVec 8 × BitVec 8)) :
    Completes (.selfScanEnd listen selfs chipsI chipsQ trips) s fun t => t.scan.cur = none ∧ t.fld SCAN_STAT_PHASE = 4 := by
  have hend (pairs : List (Nat × Nat)) : ∃ e : Dev, s.dev.selfScanEnd listen selfs chipsI chipsQ pairs = e.enterGap := by
    unfold Dev.selfScanEnd
    rw [hcur]
    exact ⟨_, rfl⟩
  obtain ⟨e, he⟩ := hend (trips.map fun p => (p.1.toNat, p.2.toNat))
  exact completes_of (f := fun _ => e.enterGap)
    (congrArg (fun x : Dev => (Host.Outcome.next { s with dev := x } : Host.Outcome State Fault Refusal)) he) e.enterGap_shows

theorem tapHoldExpiry_ends {tap : Nat × Int × Int × Nat × Bool} (htap : s.dev.rpt.heldTap = some tap) :
    Completes .tapHoldExpiry s fun t => t.rpt.heldTap = none := by
  obtain ⟨id, x, y, k⟩ := tap
  refine completes_of (f := Dev.tapHoldExpiry) rfl ?_
  unfold Dev.tapHoldExpiry
  rw [htap]
  dsimp only
  split
  · rfl
  · split
    · rfl
    · exact Dev.ring_rpt_heldTap ..

theorem Dev.capEnd_copying (d : Dev) (result frame : Nat) : (d.capEnd result frame true).rpt.copying = none := by
  unfold Dev.capEnd
  rw [if_pos rfl]
  exact Dev.ring_rpt_copying ..

theorem captureCopyEnd_ends {n : Nat} (hcopying : s.dev.rpt.copying = some n) (hcopied : s.dev.rpt.copied = true)
    (hchan : (s.dev.chan 2).active = none) (ok : Bool) (remote : List Word) :
    Completes (.captureCopyEnd ok remote) s fun t => t.rpt.copying = none := by
  have hrest : s.dev.restOfCopy ok remote = s.dev := if_pos (.inl (by rw [hchan]; rfl))
  refine completes_of (f := fun d => d.capCopyEnd ok remote) rfl ?_
  unfold Dev.capCopyEnd
  rw [hcopying]
  dsimp only
  rw [hrest]
  split
  · exact Dev.capEnd_copying ..
  · split
    · exact Dev.capEnd_copying ..
    · rw [if_neg (by simp [hcopied])]
      split
      · exact Dev.capEnd_copying ..
      · exact Dev.ring_rpt_copying ..

end Sys2Proof.Machine
end

section
/-!
OBLIGATIONS. Where the commands of modes, wakes, restarts and frames complete.
-/

namespace Sys2Proof.Machine

variable {s : State}

theorem not_mem_filter_ne (l : List Nat) (x : Nat) : x ∉ l.filter (· != x) := by
  simp [List.mem_filter]

theorem modeRequest_takes (hacts : s.dev.pwrCmdIgnored = false) {mode : BitVec 3} (hmode : mode.toNat ≤ 2)
    (hother : mode.toNat ≠ s.dev.mode) (hfree : s.dev.modeHeld = false) (halone : s.dev.onSurface = false) :
    Completes (.modeRequest mode) s fun t =>
      t.modes.host = some ⟨mode.toNat, none, 1⟩ ∧ t.fld PWR_STAT_TARGET = mode.toNat :=
  (modeRequest_waits hacts (by omega) hother hfree halone fun hhib => by omega).mono
    fun _ ⟨hhost, _, htarget, _⟩ => ⟨hhost, htarget⟩

theorem holdOps_hold (hacts : s.dev.pwrCmdIgnored = false) :
    Completes .holdSet s (fun t => t.flag PWR_STAT_HOLD = true) ∧
      Completes .holdClear s fun t => t.flag PWR_STAT_HOLD = false :=
  ⟨(holdOp_completes (op := 1) rfl hacts (.inl rfl)).mono fun _ h => h.1,
    (holdOp_completes (op := 2) rfl hacts (.inr rfl)).mono fun _ h => h.1⟩

theorem autoMode_asks {c : Instr} {f : Dev → Dev} (hexec : exec c s = s.run f) {mode : Nat}
    (hf : f s.dev = s.dev.autoMode mode) (halone : s.dev.onSurface = false) (hmode : mode < 8) :
    Completes c s fun t => ∃ e : Dev, e.modes.auto = some ⟨mode, none, 2⟩ ∧ t = e.issueOps :=
  (autoMode_completes hexec hf halone hmode).mono fun _ ⟨e, hauto, _, _, _, _, ht⟩ => ⟨e, hauto, ht⟩

theorem orphan_hibernates (hworker : s.dev.isWorker = true) (hstep : s.dev.pwr.step = 8)
    (hmode : s.dev.mode = modeWatch ∨ s.dev.mode = modeIdle ∨ s.dev.mode = modeActive)
    (hjoined : s.dev.flag EGL_TILE_JOINED = true) :
    Completes .orphan s fun t => t.modes.orphan = some ⟨modeHibernate, none, 7⟩ :=
  (orphan_asks hworker hstep (hmode.imp_right (Or.imp_right .inl)) hjoined).mono fun _ h => h.1

theorem hostwake_lowers (hhigh : s.dev.modes.hostwake = true) :
    (s.dev.levelMode = false → Completes .hostwakePulseEnd s fun t => t.modes.hostwake = false) ∧
    (s.dev.levelMode = true → Completes .hostwakeLevelTimeout s (fun t => t.modes.hostwake = false) ∧
      Completes .hostwakeAck s fun t => t.modes.hostwake = false) :=
  ⟨fun hpulse => (hostwakePulseEnd_falls hhigh hpulse).mono fun _ h => h.1,
    fun hlevel => ⟨(hostwakeLevelTimeout_counts hhigh hlevel).mono fun _ h => h.1,
      (hostwakeAck_falls hhigh hlevel).mono fun _ h => h.1⟩⟩

theorem imgResult_leaves {src : BitVec 10} (words : List Word) (hmanager : s.dev.isManager = true)
    (hkept : (s.dev.tile src.toNat).state ≠ tileLost) (hwaiting : s.dev.surf.imgWaiting = []) :
    Completes (.imgResult src words) s fun t => src.toNat ∉ t.surf.imgServing :=
  (imgResult_completes words hmanager hkept hwaiting).mono fun t ⟨_, hserving, _⟩ => by
    rw [hserving]
    exact not_mem_filter_ne _ _

/-- Settles O53: each command of the modes, wakes, restarts and frames by the rule of its effect. -/
theorem modesAndFramesComplete : Obligations.ModesAndFramesComplete := by
  unfold Obligations.ModesAndFramesComplete
  intro s
  refine ⟨fun hacts => ⟨fun _ => modeRequest_takes hacts, (holdOps_hold hacts).1, (holdOps_hold hacts).2⟩,
    fun hallowed hclear halone => ⟨fun hmode => ?idle, fun hmode hafter => ?watch⟩,
    fun mode apply hworker hsafe hstart => mode_noted hworker mode apply hsafe hstart,
    fun tile hmanager => (modeAck_notes hmanager tile).mono fun t ⟨hdue, _⟩ => ?acks,
    orphan_hibernates, fun value => (wakeSourceEnable_takes value).mono fun _ h => h.1, hostwake_lowers,
    coreWatchdog_restarts, coreRestartEnd_runs, fullRun_leaves,
    fun src words hmanager hkept => ⟨imgReq_queued words hmanager hkept, imgResult_leaves words hmanager hkept⟩,
    hibDrainEnd_drops, fun _ ok => wake_seen ok, wakeVcoreTimeout_returns,
    fun hon => (referenceReady_internal hon).mono fun _ h => h.1, frameStart_takesNext,
    fun f listen selfs chipsI chipsQ trips hcur => selfScanEnd_gaps hcur listen selfs chipsI chipsQ trips,
    fun selfs seen covered hmode hsensor hstep hfree =>
      ((watchScan_completes hmode hsensor hstep selfs seen covered).1 hfree).mono fun _ h => h.1,
    fun f rest us handed hqueue hscrap hcores =>
      (trackFrame_completes us handed hqueue hscrap hcores).mono fun _ h => h.1,
    fun tap => tapHoldExpiry_ends,
    fun value => ⟨(blreset_asks value).mono fun _ h => h.1, (resync_asks value).mono fun _ h => h.1⟩,
    fun value e he hidle howner hplanes hfits => (arm_starts hidle he hplanes howner hfits).mono
      fun _ ⟨hbusy, _, hdone, _⟩ => ⟨hbusy, hdone⟩,
    fun value hbusy hbit hcopying => (stop_ends hbusy hbit hcopying).mono fun _ h => h.1,
    fun n ok remote hcopying hcopied hchan => captureCopyEnd_ends hcopying hcopied hchan ok remote⟩
  case idle =>
    exact autoMode_asks (f := fun d =>
      if d.mode = modeActive ∧ d.autoAllowed = true ∧ d.noContact = true then d.autoMode modeIdle else d) rfl
      (if_pos ⟨hmode, hallowed, hclear⟩) halone (by decide)
  case watch =>
    exact autoMode_asks (f := fun d =>
      if d.mode = modeIdle ∧ d.par secModes 0x02 = 1 ∧ d.autoAllowed = true ∧ d.noContact = true then d.autoMode modeWatch
      else d) rfl (if_pos ⟨hmode, hafter, hallowed, hclear⟩) halone (by decide)
  case acks =>
    rw [hdue]
    exact not_mem_filter_ne _ _

end Sys2Proof.Machine
end


section
/-!
SUPPORT. Where the commands of USB complete (chapter 13): requests on EP0, the bus, and the vendor endpoint.
-/

namespace Sys2Proof.Machine

variable {s : State} {d e : Dev} {c : Instr}

/-! Requests to an endpoint (R465). -/

/-- The halt that an endpoint other than EP0 is given is the one it shows. -/
theorem Dev.haltOf_setHalt {ep : Nat} {halted : Bool} (h : d.haltOf ep = some halted) (b : Bool) :
    (d.setHalt ep b).done.haltOf ep = some b := by
  unfold Dev.haltOf at h
  have hstate : d.usbState = usbConfigured := by
    by_contra hne
    rw [if_pos hne] at h
    exact absurd h (Option.some_ne_none _).symm
  rw [if_neg (not_not.2 hstate)] at h
  have hhalt {u : Usb} : (d.setUsb u).done.haltOf ep =
      if ep = 0x81 ∧ d.hasHid = true then some u.halt1
      else if ep = 0x02 then some u.halt2Out
      else if ep = 0x82 then some u.halt2In
      else none := if_neg (not_not.2 hstate)
  unfold Dev.setHalt
  split at h
  next hone => rw [if_pos hone.1, hhalt, if_pos hone]
  next hone =>
    split at h
    next htwo => rw [if_neg (by omega), if_pos htwo, hhalt, if_neg hone, if_pos htwo]
    next htwo =>
      split at h
      next hin => rw [if_neg (by omega), if_neg htwo, hhalt, if_neg hone, if_neg htwo, if_pos hin]
      next => exact absurd h (Option.some_ne_none _).symm

theorem endpointHalt_sets (hanswers : s.dev.usbAnswers = true) {index : BitVec 16} {halted b : Bool}
    (hhalt : s.dev.haltOf index.toNat = some halted)
    (hexec : exec c s = s.request fun d => d.setFeature 2 0 index.toNat b) :
    Completes c s fun t => t.haltOf index.toNat = some b ∧ t.usb.ep0 = some [] := by
  refine completes_request hanswers hexec ?_
  rw [Dev.setFeature, if_neg (by simp), if_pos ⟨rfl, rfl, by rw [hhalt]; rfl⟩]
  exact ⟨Dev.haltOf_setHalt hhalt b, rfl⟩

theorem endpointStatus_answers (hanswers : s.dev.usbAnswers = true) {index : BitVec 16} (len : BitVec 16) {halted : Bool}
    (hhalt : s.dev.haltOf index.toNat = some halted) (hout : index ≠ 0) (hin : index ≠ 0x80) :
    Completes (.getStatus 2 index len) s fun t => t.usb.ep0 = some ((bytesOf [bit halted, 0]).take len.toNat) := by
  have hother : ¬ (index.toNat = 0 ∨ index.toNat = 0x80) :=
    not_or.2 ⟨fun h => hout (BitVec.eq_of_toNat_eq h), fun h => hin (BitVec.eq_of_toNat_eq h)⟩
  have hstatus : s.dev.getStatus 2 index.toNat len.toNat = s.dev.reply (bytesOf [bit halted, 0]) len.toNat := by
    simp only [Dev.getStatus, if_neg hother, hhalt]
  exact (completes_reply (fun d => d.getStatus 2 index.toNat len.toNat) hanswers rfl hstatus).mono fun _ h => h.1

/-! Requests to the device (R461, R463, R465). -/

theorem setAddress_zero (hanswers : s.dev.usbAnswers = true) (hstate : s.dev.usbState ≠ usbConfigured) :
    Completes (.setAddress 0) s fun t => t.usbState = usbDefault ∧ t.fld USB_STAT_ADDR = 0 ∧ t.usb.ep0 = some [] := by
  refine completes_request (f := fun d => d.setAddress 0) hanswers rfl ?_
  rw [Dev.setAddress, if_neg (by simp [hstate]), if_pos rfl]
  refine ⟨Dev.fld_setFld_same (s.dev.setFld USB_STAT_ADDR 0) USB_STAT_STATE usbDefault (by decide), ?_, rfl⟩
  calc ((s.dev.setFld USB_STAT_ADDR 0).setFld USB_STAT_STATE usbDefault).fld USB_STAT_ADDR
      = (s.dev.setFld USB_STAT_ADDR 0).fld USB_STAT_ADDR := Dev.fld_setFld_apart _ _ (by decide) (by decide)
    _ = 0 := Dev.fld_setFld_same _ _ _ (by decide)

theorem stringDescriptor_answers (hanswers : s.dev.usbAnswers = true) {i : Byte} (index len : BitVec 16) {text : List Byte}
    (htext : s.dev.usbStringOf i.toNat = some text) :
    Completes (.getDescriptor (3#8 ++ i) index len) s fun t => t.usb.ep0 = some (text.take len.toNat) := by
  have hvalue : (3#8 ++ i).toNat = 3 * 256 + i.toNat := by
    rw [BitVec.toNat_append, ← Nat.shiftLeft_add_eq_or_of_lt i.isLt]
    rfl
  have hlt := i.isLt
  have htype : (3#8 ++ i).toNat / 256 = 3 := by omega
  have hindex : (3#8 ++ i).toNat % 256 = i.toNat := by omega
  refine (completes_reply (fun d => d.getDescriptor ((3#8 ++ i).toNat / 256) ((3#8 ++ i).toNat % 256) index.toNat len.toNat)
    hanswers rfl ?_).mono fun _ h => h.1
  simp only [htype, hindex, Dev.getDescriptor, htext]

/-- The device as SET_CONFIGURATION 0 leaves it, before the event: addressed, and no longer configured. -/
def Dev.deconfigured (d : Dev) : Dev := (d.endpointsReset.setFlag USB_STAT_CFG false).setFld USB_STAT_STATE usbAddress

theorem Dev.deconfigured_shows (d : Dev) :
    d.deconfigured.flag USB_STAT_CFG = false ∧ d.deconfigured.usbState = usbAddress :=
  ⟨(Dev.flag_setFld_apart _ _ (by decide) (by decide)).trans (Dev.flag_setFlag_same _ _ _ (by decide) (by decide)),
    Dev.fld_setFld_same _ _ _ (by decide)⟩

theorem setConfiguration_deconfigures (hanswers : s.dev.usbAnswers = true) (hstate : s.dev.usbState = usbConfigured) :
    Completes (.setConfiguration 0) s fun t =>
      t.flag USB_STAT_CFG = false ∧ t.usbState = usbAddress ∧ t.usb.ep0 = some [] := by
  have hleft : s.dev.setConfiguration 0 = (s.dev.deconfigured.usbEvent 6).done := by
    rw [Dev.setConfiguration, if_neg (by simp [hstate]), if_neg (by decide), if_pos hstate]
    rfl
  obtain ⟨hcfg, haddress⟩ := s.dev.deconfigured_shows
  refine completes_request (f := fun d => d.setConfiguration 0) hanswers rfl ?_
  rw [hleft]
  exact ⟨(Dev.usbEvent_flag _ 6 (by decide)).trans hcfg, (Dev.usbEvent_fld _ 6 (by decide)).trans haddress, rfl⟩

/-! Requests to an interface (R465, R467, R474). -/

theorem Dev.interfaceOk_of {i : Nat} (hstate : d.usbState = usbConfigured) (hi : i < if d.hasHid then 2 else 1) :
    d.interfaceOk i = true := by
  simp [Dev.interfaceOk, hstate, hi]

theorem interface_answers (hanswers : s.dev.usbAnswers = true) (hstate : s.dev.usbState = usbConfigured) {index : BitVec 16}
    (len : BitVec 16) (hindex : index.toNat < if s.dev.hasHid then 2 else 1) :
    (Completes (.getInterface index len) s fun t => t.usb.ep0 = some ([0#8].take len.toNat)) ∧
      Completes (.setInterface 0 index) s fun t => t.usb.ep0 = some [] := by
  have hok := Dev.interfaceOk_of hstate hindex
  refine ⟨(completes_reply (fun d => if d.interfaceOk index.toNat then d.reply [0#8] len.toNat else d.stall) hanswers rfl
    (if_pos hok)).mono fun _ h => h.1, ?_⟩
  refine completes_request
    (f := fun d => if d.interfaceOk index.toNat ∧ (0 : BitVec 16) = 0 then d.done else d.stall) hanswers rfl ?_
  rw [if_pos ⟨hok, rfl⟩]
  rfl

theorem lastReport_answers (hanswers : s.dev.usbAnswers = true) (hhid : s.dev.hasHid = true)
    (hstate : s.dev.usbState = usbConfigured) (len : BitVec 16) {report : List Byte}
    (hreport : s.dev.usb.lastInput = some report) :
    Completes (.getReport 0x0101 0 len) s fun t => t.usb.ep0 = some (report.take len.toNat) := by
  refine (completes_reply (data := report) (fun d => d.getReport 1 1 0 len.toNat) hanswers rfl ?_).mono fun _ h => h.1
  refine (Dev.hidRequest_zero hhid hstate _).trans ?_
  simp [hreport]

/-! The bus (R459, R462, R480, R481, R494). -/

theorem usbAttach_sees : Completes .usbAttach s fun t => t.usb.vbus = true := by
  refine completes_of (f := fun d => (d.setUsb { d.usb with vbus := true }).usbTry) rfl ?_
  by_cases hready : (s.dev.setUsb { s.dev.usb with vbus := true }).usbReady = true ∧ s.dev.usbState = 0
  · exact (Dev.usbTry_attaches hready.1 hready.2).1
  · have hidle : (s.dev.setUsb { s.dev.usb with vbus := true }).usbTry = s.dev.setUsb { s.dev.usb with vbus := true } :=
      if_neg hready
    rw [hidle]
    rfl

theorem Dev.usbState_of_reg (h : d.reg USB_STAT = 0) : d.usbState = 0 := by
  rw [Dev.usbState, Dev.fld, show d.reg USB_STAT_STATE.addr = 0 from h]
  rfl

theorem busReset_defaults (hstate : s.dev.usbState ≠ 0) : Completes .usbBusReset s fun t => t.usbState = usbDefault := by
  have hdefault : (s.dev.busDefault.usbEvent 2).usbState = usbDefault :=
    (Dev.usbEvent_fld _ _ (by decide)).trans s.dev.busDefault_state
  have hreset : ∃ e : Dev, e.usbState = usbDefault ∧
      s.dev.busReset = if s.dev.usb.wakeReport then e.ring 193 (word (e.fld USB_RWK_OUTCOME)) (word (e.fld USB_RWK_SRC)) else e :=
    ⟨s.dev.busDefault.usbEvent 2, hdefault, if_neg hstate⟩
  obtain ⟨e, he, heq⟩ := hreset
  refine completes_of (f := Dev.busReset) rfl ?_
  rw [heq]
  split
  · exact (Dev.ring_fld (by decide) ..).trans he
  · exact he

/-- The first of the packet errors kept is the one noted now. -/
theorem packetError_notes (hstate : s.dev.usbState ≠ 0) :
    Completes .usbPacketError s fun t => ∃ earlier, t.usb.errTicks = s.dev.ticks :: earlier := by
  have hkept : ((s.dev.ticks :: s.dev.usb.errTicks).filter fun t => decide (s.dev.ticks < t + 32768)) =
      s.dev.ticks :: s.dev.usb.errTicks.filter fun t => decide (s.dev.ticks < t + 32768) :=
    List.filter_cons_of_pos (by simp)
  refine completes_of (f := Dev.packetError) rfl ⟨(s.dev.usb.errTicks.filter fun t => decide (s.dev.ticks < t + 32768)).take 15, ?_⟩
  unfold Dev.packetError
  rw [if_neg hstate]
  extract_lets ticks _ x quiet
  have hx : x.usb.errTicks = ticks.take 16 := rfl
  have hticks : ticks.take 16 = s.dev.ticks :: (s.dev.usb.errTicks.filter fun t => decide (s.dev.ticks < t + 32768)).take 15 := by
    unfold ticks
    rw [hkept, List.take_succ_cons]
  split
  · refine Eq.trans ?_ (hx.trans hticks)
    obtain ⟨-, -, hquiet⟩ := near_ring (src := 194) (w1 := word 1)
      (w2 := (x.setUsb { x.usb with errRaised := some s.dev.ticks }).reg USB_CNT)
      (Dev.Near.rfl (x.setUsb { x.usb with errRaised := some x.ticks }))
    exact (congrArg (·.usb.errTicks) hquiet :)
  · exact hx.trans hticks

/-! Suspend and resume ask for modes, and leave USB_STAT as the bus has it (R480, R481). -/

theorem joined_suspendRequest (h : Dev.Joined as d e) (hstat : PWR_STAT ∈ as) : Dev.Joined as d e.suspendRequest := by
  unfold Dev.suspendRequest
  split
  · exact h
  · exact joined_requestMode (joined_markPending (joined_setModes h) hstat none) hstat _ _

theorem joined_resumeRequest (h : Dev.Joined as d e) (hstat : PWR_STAT ∈ as) (hlink : linkRegs ⊆ as) :
    Dev.Joined as d e.resumeRequest := by
  unfold Dev.resumeRequest
  split
  · exact h
  · extract_lets asleep _ x
    have hx : Dev.Joined as d x := joined_setModes h
    split
    · exact joined_issueOps (joined_requestMode (joined_setModes hx) hstat _ _) hlink
    · exact hx

theorem usbSuspend_shows (hstate : usbDefault ≤ s.dev.usbState) (hsusp : s.dev.flag USB_STAT_SUSP = false) :
    Completes .usbSuspend s fun t => t.flag USB_STAT_SUSP = true := by
  have hshown : (s.dev.suspended.usbEvent 4).flag USB_STAT_SUSP = true :=
    (Dev.usbEvent_flag _ _ (by decide)).trans (Dev.flag_setFlag_same s.dev _ _ (by decide) (by decide))
  have hsuspend (d : Dev) (hd : ¬ (d.usbState < usbDefault ∨ d.flag USB_STAT_SUSP = true)) : d.usbSuspend =
      if (d.suspended.usbEvent 4).usbState = usbConfigured then (d.suspended.usbEvent 4).suspendRequest.issueOps
      else d.suspended.usbEvent 4 := if_neg hd
  refine completes_of (f := Dev.usbSuspend) rfl ?_
  rw [hsuspend _ (not_or.2 ⟨Nat.not_lt.2 hstate, by simp [hsusp]⟩)]
  split
  · have hjoined : Dev.Joined (PWR_STAT :: linkRegs) (s.dev.suspended.usbEvent 4)
        (s.dev.suspended.usbEvent 4).suspendRequest.issueOps :=
      joined_issueOps (joined_suspendRequest (altersRing_refl _) List.mem_cons_self) (List.subset_cons_self _ _)
    exact (hjoined.flag (by decide) (by decide)).trans hshown
  · exact hshown

theorem usbResume_clears (hsusp : s.dev.flag USB_STAT_SUSP = true) :
    Completes .usbResume s fun t => t.flag USB_STAT_SUSP = false := by
  refine completes_of (f := Dev.usbResume) rfl ?_
  unfold Dev.usbResume
  rw [if_pos hsusp]
  extract_lets _ x report _ y z w
  have hz : z.flag USB_STAT_SUSP = false :=
    (Dev.usbEvent_flag _ _ (by decide)).trans (Dev.flag_setFlag_same y _ _ (by decide) (by decide))
  have hw : w.flag USB_STAT_SUSP = false := by
    unfold w
    split
    · have hjoined : Dev.Joined (PWR_STAT :: linkRegs) z z.resumeRequest :=
        joined_resumeRequest (altersRing_refl z) List.mem_cons_self (List.subset_cons_self _ _)
      exact (hjoined.flag (by decide) (by decide)).trans hz
    · exact hz
  split
  · exact (Dev.ring_flag (by decide) ..).trans hw
  · exact hw

theorem wakeDrive_releases (hwake : s.dev.usb.wake = 2) (hostK : Bool) :
    Completes (.remoteWakeDriveEnd hostK) s fun t => t.usb.wake = 0 := by
  cases hostK with
  | false => exact (wakeDrive_ends hwake).1.mono fun _ h => h.1
  | true => exact (wakeDrive_ends hwake).2.mono fun _ h => h.1

/-! The vendor endpoint (R475, R478, R489). -/

/-- A read of an address at which no register stands answers 0. -/
theorem Dev.readLocal_undefined {rq : Requester} {addr : BitVec 16} (hreg : addr.toNat < 0x2000)
    (hundefined : regDefined addr.toNat = false) (hawake : d.asleep = false) : (d.readLocal rq addr.toNat []).1 = 0 := by
  simp only [Dev.readLocal, Dev.localAddr_of_not_inWindow (Dev.inWindow_of_register hreg)]
  simp [hawake, hreg, Dev.readReg, hundefined]

theorem ep2Read_undefined (hready : s.dev.ep2Ready = true) (tag : Byte) {addr : BitVec 16} (hreg : addr.toNat < 0x2000)
    (hundefined : regDefined addr.toNat = false) (hawake : s.dev.asleep = false) :
    Completes (.ep2Read tag 1 addr) s fun t => t.usb.response = some [byte 1, tag, byte 0, byte 1, 0, 0, 0] := by
  have hlocal : s.dev.goesRemote .usb addr.toNat = false := by
    rw [Dev.goesRemote, Dev.inWindow_of_register hreg, Bool.false_and]
  refine completes_ep2 (fun d => if (1 : Byte) = 0 then d.ep2Answer 1 tag 2 0 []
    else d.ep2Run ⟨1, tag, addr.toNat, (1 : Byte).toNat, [], []⟩ 256) hready rfl (if_neg (by decide)) ?_
  refine (Dev.ep2Run_read tag hlocal 255).trans ?_
  rw [Dev.readLocal_undefined hreg hundefined hawake]
  rfl

theorem ep2BadLength_answers (hready : s.dev.ep2Ready = true) (code tag : Byte) (ovr : Bool) :
    Completes (.ep2BadLength code tag ovr) s fun t => t.usb.response = some [byte code.toNat, tag, byte 2, byte 0] :=
  completes_ep2 (fun d => (if ovr then d.bump USB_CNT_BADCMD else d).ep2Answer code.toNat tag 2 0 []) hready rfl rfl rfl

theorem Dev.releaseTo_keeps (d : Dev) (new : Nat) :
    (d.releaseTo .h1 new).usb.response = d.usb.response ∧ (d.releaseTo .h1 new).pwr = d.pwr := by
  by_cases hwithin : (new + 2048 - d.ringRd .h1) % 2048 ≤ d.occupancy .h1
  · obtain ⟨x, ⟨-, -, hquiet⟩, heq⟩ := Dev.releaseTo_within hwithin
    rw [heq]
    exact ⟨(congrArg (·.usb.response) hquiet :), (congrArg (·.pwr) hquiet :)⟩
  · rw [Dev.releaseTo_beyond (by omega)]
    exact ⟨rfl, rfl⟩

theorem ep2ResponseAck_ends {answer : List Byte} (hresponse : s.dev.usb.response = some answer)
    (hreset : s.dev.pwr.swReset ≠ some .usb) (hdetach : s.dev.usb.detachAtAck = none) :
    Completes .ep2ResponseAck s fun t => t.usb.response = none := by
  refine completes_of (f := Dev.ep2Acked) rfl ?_
  unfold Dev.ep2Acked
  rw [if_neg (by simp [hresponse])]
  extract_lets n det _ x y z
  have hy : y.usb.response = none ∧ y.pwr = s.dev.pwr := by
    unfold y
    split
    · exact ⟨rfl, rfl⟩
    · obtain ⟨husb, hpwr⟩ := x.releaseTo_keeps ((x.ringRd .h1 + n) % 2048)
      exact ⟨husb.trans rfl, hpwr.trans rfl⟩
  have hz : z = y := by
    have hdet : det = none := hdetach
    unfold z
    rw [hdet]
    rfl
  rw [hz, if_neg (by rw [hy.2]; exact hreset)]
  exact hy.1

end Sys2Proof.Machine
end

section
/-!
OBLIGATIONS. Where the commands of USB complete.
-/

namespace Sys2Proof.Machine

/-- Settles O54: each request, signal of the bus and vendor command by the rule of its effect. -/
theorem usbCommandsComplete : Obligations.UsbCommandsComplete := by
  unfold Obligations.UsbCommandsComplete
  intro s
  refine ⟨fun hanswers => ⟨fun index len halted hhalt hout hin => ⟨endpointStatus_answers hanswers len hhalt hout hin,
        endpointHalt_sets hanswers hhalt rfl, endpointHalt_sets hanswers hhalt rfl⟩,
      setAddress_zero hanswers, fun i index len text => stringDescriptor_answers hanswers index len,
      fun len => (completes_reply (fun d => d.reply (bytesOf [d.fld USB_STAT_CFG]) len.toNat) hanswers rfl rfl).mono
        fun _ h => h.1,
      fun hstate => ⟨setConfiguration_deconfigures hanswers hstate, fun index len => interface_answers hanswers hstate len,
        fun hhid value len => ⟨(setIdle_keeps hanswers hhid hstate value).mono fun _ ⟨hidle, hep0, _⟩ => ⟨hidle, hep0⟩,
          ?idle, fun report => lastReport_answers hanswers hhid hstate len⟩⟩,
      (completes_stall Dev.stall hanswers rfl rfl).mono fun _ h => congrArg Usb.ep0 h.1⟩,
    usbAttach_sees,
    fun hstate => (usbDetach_disconnects hstate).mono fun _ ⟨hvbus, hstat, _⟩ => ⟨hvbus, Dev.usbState_of_reg hstat⟩,
    fun value hkey hbit hstate => (detach_disconnects hkey hbit hstate (by decide)).mono
      fun _ ⟨hdetach, hstat⟩ => ⟨hdetach, Dev.usbState_of_reg hstat⟩,
    fun frame hstate hsusp => (startOfFrame_counts frame hstate hsusp).mono fun _ h => h.1,
    fun hstate hthree => (sofLock_locks hstate hthree).mono fun _ h => h.1,
    fun hstate => ⟨busReset_defaults hstate, packetError_notes hstate⟩, usbSuspend_shows, usbResume_clears,
    fun hwake => (wakeSample_drives hwake).mono fun _ h => h.1, fun hostK hwake => wakeDrive_releases hwake hostK,
    fun report rest hon hhalt hreports => (hidReport_sent hon hhalt hreports).mono fun _ h => h.1,
    fun hready => ⟨fun tag n flags hmin hmax => (ep2Events_answers hready tag n flags hmin hmax).mono
        fun _ ⟨_, hresponse, _, hrelease, _⟩ => ⟨hrelease, by rw [hresponse]; exact Option.some_ne_none _⟩,
      fun tag addr => ep2Read_undefined hready tag, fun tag value _ _ => ep2Write_answers hready tag value,
      fun code tag hcode => (ep2UnknownOp_answers hready code tag ?_ ?_ ?_).mono fun _ h => h.1, ep2BadLength_answers hready⟩,
    fun answer => ep2ResponseAck_ends⟩
  case idle =>
    exact (completes_reply (fun d => d.hidRequest 0 fun d => d.reply (bytesOf [d.usb.idle]) len.toNat) hanswers rfl
      (Dev.hidRequest_zero hhid hstate _)).mono fun _ h => h.1
  all_goals
    rintro rfl
    exact absurd hcode (by decide)

end Sys2Proof.Machine
end


section
/-!
SUPPORT. Where the service functions and the console's own commands complete (chapter 3): meter points, what waits for an
answer, the full command set, and `reset`.
-/

namespace Sys2Proof.Machine

variable {d e : Dev} {s : State}

/-! Meter points and static states (R78, R80, R93). -/

theorem argOk_low {p : Nat} (hp : p < 7) (a : Nat) : argOk p a = true := by
  rw [argOk, if_neg (by omega), if_neg (by omega), if_neg (by omega)]

theorem svcAmon_selects (hopen : s.dev.serviceOpen = true) {v : Word} {p : Nat} (hpoint : wGet v 0 5 = p) (hp : p < 7) :
    Completes (.svcAmonWrite v) s fun t => t.reg SVC_AMON = pack [(wGet v 8 8, 8), (p, 0)] := by
  obtain ⟨-, -, hselects, -⟩ := svcAmonWrite_completes (s := s) v p (wGet v 8 8) hpoint rfl
  exact (hselects hopen (by omega) (by omega) (argOk_low hp _)).mono fun _ h => h.1

theorem svcEl_places (hopen : s.dev.serviceOpen = true) {v : Word} (hscan : s.dev.flag SCAN_STAT_RUN = false)
    (hn : wGet v 8 8 < 160) (hst : wGet v 0 3 < 5) :
    Completes (.svcElWrite v) s fun t => t.staticOf (wGet v 8 8) = wGet v 0 3 :=
  (((svcElWrite_completes v _ _ rfl rfl).2 hopen hscan).1 hn hst).mono fun _ h => h.1

theorem meter_selects (hset : s.dev.fullSet = true) (hidle : s.dev.running = false) (hopen : s.dev.serviceOpen = true)
    {point : BitVec 5} {arg : BitVec 10} (hpoint : point.toNat < 4) (harg : arg.toNat < 256) :
    Completes (.meter point arg) s fun t => t.reg SVC_AMON = pack [(arg.toNat, 8), (point.toNat, 0)] :=
  (meter_completes hset hopen hidle point arg _ _ rfl rfl (by omega) (by omega) (by omega) harg
    (argOk_low (by omega) _)).mono fun _ h => h.1

/-! The line and what interrupts it (R66, R68, R83). -/

theorem character_joins (hstep : s.dev.pwr.step = 8) (hawake : s.dev.asleep = false) (hup : s.dev.modes.waking = false)
    (hmode : s.dev.mode ≠ modeWatch) {c : Byte} (hc : c ∉ [0x0D#8, 0x0A, 0x08, 0x7F, 0x03])
    (hroom : s.dev.con.line.length < 80) :
    Completes (.consoleCharacter c false) s fun t => t.con.line = s.dev.con.line ++ [c] := by
  obtain ⟨hkept, -⟩ := (consoleCharacter_completes c hstep hawake hup).2 hmode
  exact ((hkept hc).1 hroom).mono fun _ h => h.1

theorem lineError_ends (hidle : s.dev.running = false) {code : BitVec 3} (hmin : 1 ≤ code.toNat) (hmax : code.toNat ≤ 4) :
    Completes (.consoleLineError code) s fun t => t.con.line = [] := by
  obtain ⟨hother, hlong, -⟩ := consoleLineError_completes hidle code
  by_cases htwo : code.toNat = 2
  · refine (hlong htwo).mono fun t ht => ?_
    rw [ht, Dev.line_printed (Dev.statusLine_printed ..)]
    rfl
  · refine (hother (by simp; omega)).mono fun t ht => ?_
    rw [ht, Dev.finishErr_eq, Dev.finish_line]

theorem sessionEnd_ends : Completes .consoleSessionEnd s fun t => t.con.session = false :=
  completes_of (f := fun d => d.setCon { d.con with lastChar := none, session := false }) rfl rfl

theorem wakeEdge_asks (hmode : s.dev.mode = modeWatch) :
    Completes .consoleWakeEdge s fun t => t.con.session = true ∧ t.flag SYS_CLK_FOSC_ON = true := by
  by_cases hosc : s.dev.flag SYS_CLK_FOSC_ON = true
  · refine completes_of (f := fun d => if d.mode = modeWatch then
      (if d.inSession.flag SYS_CLK_FOSC_ON then d.inSession else d.inSession.foscStart) else d) rfl ?_
    have hruns : s.dev.inSession.flag SYS_CLK_FOSC_ON = true := hosc
    rw [if_pos hmode, if_pos hruns]
    exact ⟨rfl, hruns⟩
  · exact (consoleWakeEdge_completes.1 hmode (Bool.eq_false_of_not_eq_true hosc)).mono
      fun _ ⟨hon, _, hsession, _⟩ => ⟨hsession, hon⟩

theorem noManager_ends (hwaits : s.dev.con.request ≠ 0) : Completes .svcNoManager s fun t => t.con.request = 0 := by
  refine completes_of (f := fun d => if d.con.request = 0 then d else
    (d.setCon { d.con with request := 0, requestDue := false }).statusLine (.error 9)) rfl ?_
  rw [if_neg hwaits]
  exact (Dev.statusLine_printed ..).keeps (·.con.request) fun _ _ _ => rfl

theorem logTimeout_ends (hwaits : s.dev.con.logWait ≠ none) : Completes .logNvmTimeout s fun t => t.con.logWait = none := by
  refine completes_of (f := fun d =>
    if d.con.logWait.isSome then (d.setCon { d.con with logWait := none }).statusLine (.error 10) else d) rfl ?_
  rw [if_pos (Option.isSome_iff_ne_none.2 hwaits)]
  exact (Dev.statusLine_printed ..).keeps (·.con.logWait) fun _ _ _ => rfl

/-! The full command set (R74, R76, R77, R91) and `reset` (R114). -/

theorem Dev.fullSet_of_entry (h : d.fld SVC_STAT_ENTRY ≠ 0) : d.fullSet = true := bne_iff_ne.2 h

theorem joinTimeout_opens (hwaits : s.dev.con.waitJoin = true) (hjoined : s.dev.flag EGL_TILE_JOINED = false)
    (hset : s.dev.fullSet = false) : Completes .serviceJoinTimeout s fun t => t.fullSet = true := by
  refine completes_of (f := fun d =>
    if d.con.waitJoin ∧ d.flag EGL_TILE_JOINED = false ∧ d.fullSet = false then d.openSet 1 else d) rfl ?_
  obtain ⟨hentry, -, -⟩ := s.dev.openSet_opens (entry := 1) (by decide)
  rw [if_pos ⟨hwaits, hjoined, hset⟩]
  exact Dev.fullSet_of_entry (by rw [hentry]; decide)

theorem svc_opens (hidle : s.dev.running = false) {code : Word} (hbar : s.dev.codeBarred = false)
    (hsafe : s.dev.mode = modeSafe) (hcode : code.toNat = s.dev.svcCode) :
    Completes (.svc code) s fun t => t.fullSet = true ∧ t.flag SVC_STAT_SAFE_SET = true := by
  obtain ⟨-, hright⟩ := (svc_completes hidle code).2 hbar
  exact ((hright hcode).1 hsafe).mono fun t ⟨hflag, hentry, _⟩ =>
    ⟨Dev.fullSet_of_entry (by rw [hentry]; decide), hflag⟩

theorem svcOff_closes (hset : s.dev.fullSet = true) (hidle : s.dev.running = false) (hsafe : s.dev.mode = modeSafe) :
    Completes .svcOff s fun t => t.fullSet = false :=
  ((svcOff_completes hset hidle).1 hsafe).mono fun t ⟨hentry, _⟩ => by
    rw [Dev.fullSet, hentry]
    rfl

theorem consoleReset_restarts (hset : s.dev.fullSet = true) (hidle : s.dev.running = false) (hheld : s.dev.pwr.held = none) :
    Completes .consoleReset s fun t => t.pwr.step = 3 ∧ t.pwr.held = none := by
  refine completes_command rfl hidle ?_
  rw [if_pos hset, Dev.finishOk_eq]
  exact Dev.resetNow_released ((Dev.finish_keeps _ _ (·.pwr.held) fun _ _ _ => rfl).trans hheld)

end Sys2Proof.Machine
end

section
/-!
OBLIGATIONS. Where the service functions and the acting console commands complete.
-/

namespace Sys2Proof.Machine

/-- Settles O59: the service functions by their own rules, the console's commands by what O51 proves of each. -/
theorem consoleAndServiceComplete : Obligations.ConsoleAndServiceComplete := by
  unfold Obligations.ConsoleAndServiceComplete
  intro s
  refine ⟨fun v hlock hbar hv hcode => (((svcUnlockWrite_completes v).2 hlock).2 hv hbar |>.1 hcode).mono fun _ h => h.1,
    fun hopen => ⟨fun v p => svcAmon_selects hopen, fun v => svcEl_places hopen⟩,
    fun c hstep hawake hup hmode => character_joins hstep hawake hup hmode,
    completes_of (f := fun d => d.dropLine.bump SVC_ERR_FRAMING) rfl rfl, completes_of (f := Dev.dropLine) rfl rfl,
    sessionEnd_ends, wakeEdge_asks,
    fun hevmon hrd htodo hwait => ((ctrlC_completes.1 hrd htodo hwait).2 hevmon).mono fun _ h => h.1,
    noManager_ends, logTimeout_ends, joinTimeout_opens, fun hidle => ?any, fun hidle hset => ?full⟩
  case any =>
    obtain ⟨-, hrd, -, hlog, hevmon, hrtile, hping, hcal, -⟩ := consoleCommandsRun s hidle
    exact ⟨fun code => lineError_ends hidle, fun code => svc_opens hidle, hrd,
      fun n hop => ((hlog 1 n fun h => absurd h (by decide)).2 hop).mono fun _ h => h.1,
      (hevmon _ _ (by simp)).mono fun _ h => h.1, (hevmon _ _ (by simp)).mono fun _ h => h.1,
      fun xy => (hrtile xy).mono fun _ h => h.1, hping, fun hstate hfull => (hcal hstate hfull).mono fun _ h => h.1⟩
  case full =>
    obtain ⟨-, -, -, -, -, -, -, -, hcommands⟩ := consoleCommandsRun s hidle
    obtain ⟨-, hwr, hfire, hreset, hinj, hinjOff, hretrain, hrun, hstop, -, htone, hblreset, hcap⟩ := hcommands hset
    have hends (hsome : s.dev.scan.tone ≠ none) : Completes .scanStop s fun t => t.scan.tone = none := by
      obtain ⟨x, hx⟩ := Option.ne_none_iff_exists'.1 hsome
      exact (hstop x hx).mono fun _ h => h.1
    exact ⟨svcOff_closes hset hidle, consoleReset_restarts hset hidle,
      fun hopen => ⟨fun point arg => meter_selects hset hidle hopen,
        fun n st hscan hn hst => ((el_completes hset hopen hidle n st hscan).1 hn hst).mono fun _ h => h.1⟩,
      (meterOff_completes hset hidle).mono fun _ h => h.1,
      fun value hawake => (hwr value hawake).mono fun _ h => h.1, fun n hmin hmax => (hfire n hmin hmax).mono fun _ h => h.1,
      hreset, fun i k hi hk hgate => (hinj i k i.toNat rfl hi hk hgate).1.mono fun _ ⟨hcount, hdrop, _⟩ => ⟨hcount, hdrop⟩,
      hinjOff.mono fun _ h => h.1, hretrain,
      fun hmode hstatic hscan => ⟨fun hnone hsensor => (hrun hstatic hnone hsensor hmode hscan).mono fun _ h => h.1,
        fun n k hn => (htone n k hn hscan hstatic hmode).mono fun _ h => h.1⟩,
      hends, hblreset.mono fun _ h => h.1, hcap⟩

end Sys2Proof.Machine
end
